-- ==== Sys2Proof/Word.lean ====
section
/-! DEFINITION. The words of the register space and their plainest arithmetic. -/

namespace Sys2Proof

/-- A register of BAR0 or BAR2 (R3). -/
abbrev Word := BitVec 32

/-- One byte of a frame payload, a ring entry or a message. -/
abbrev Byte := BitVec 8

/-- Bits `lo` to `lo + width - 1` of a number, as a number. -/
def bitsOf (n lo width : Nat) : Nat := n / 2 ^ lo % 2 ^ width

/-- Bit `i` of a number. -/
def bitAt (n i : Nat) : Bool := n / 2 ^ i % 2 == 1

/-- 1 for true and 0 for false. -/
def ofBool (b : Bool) : Nat := if b then 1 else 0

/-- The nearest value within `lo` to `hi` (R7). -/
def clampNat (lo hi v : Nat) : Nat := max lo (min hi v)

/-- A counter of `w` bits that stops at its largest value. -/
def satInc (w v : Nat) : Nat := min (v + 1) (2 ^ w - 1)

/-- A counter of `w` bits that wraps to 0. -/
def wrapInc (w v : Nat) : Nat := (v + 1) % 2 ^ w

/-- The two's-complement reading of `w` bits. -/
def toSigned (w v : Nat) : Int := if v % 2 ^ w < 2 ^ (w - 1) then (v % 2 ^ w : Nat) else (v % 2 ^ w : Nat) - 2 ^ w

/-- The `w`-bit two's-complement encoding of an integer. -/
def ofSigned (w : Nat) (i : Int) : Nat := (i % 2 ^ w).toNat

/-- The nearest integer within `lo` to `hi` (R7). -/
def clampInt (lo hi v : Int) : Int := max lo (min hi v)

/-- `num / den` rounded half away from zero, for a positive `den` (R62, R202, R209). -/
def roundDiv (num : Int) (den : Nat) : Int :=
  if num < 0 then -((-num * 2 + den) / (2 * den)) else (num * 2 + den) / (2 * den)

/-- The smallest integer not below `num / den`. -/
def ceilDiv (num den : Nat) : Nat := (num + den - 1) / den

/-- Whether `p` is newer than `q` among numbers modulo 256: (p − q) mod 256 lies between 1 and 127 (R173). -/
def newer256 (p q : Nat) : Bool :=
  let d := (p + 256 - q % 256) % 256
  decide (1 ≤ d) && decide (d ≤ 127)

/-- A little-endian number from bytes, the lowest byte first. -/
def leNat : List Byte → Nat
  | [] => 0
  | b :: bs => b.toNat + 256 * leNat bs

/-- A big-endian number from bytes, the most significant first. -/
def beNat (bs : List Byte) : Nat := leNat bs.reverse

/-- `k` little-endian bytes of a number. -/
def leBytes : Nat → Nat → List Byte
  | 0, _ => []
  | k + 1, n => BitVec.ofNat 8 n :: leBytes k (n / 256)

/-- `k` bytes of a number, the most significant first. -/
def beBytes (k n : Nat) : List Byte := (leBytes k n).reverse

/-- Byte `i` of a list, 0 past its end. -/
def byteAt (bs : List Byte) (i : Nat) : Nat := (bs.getD i 0).toNat

/-- `n` zero bytes. -/
def zeros (n : Nat) : List Byte := List.replicate n 0

end Sys2Proof
end

