-- ==== Sys2Proof/Syntax.lean ====
section
/-! DEFINITION. The commands of the block: one constructor of `Instr` for each row of spec/opcode_table.json,
and the operands they carry. A half-lane is numbered 2n + d (Lane Channel n, d = 0 for the A-half and 1 for the
B-half); a Port side is numbered 2p + d. -/

namespace Sys2Proof

/-- A half-lane: 2n for the A-half and 2n + 1 for the B-half of Lane Channel n (01, R12). -/
abbrev HalfId := Fin 512
/-- A Port (01, R20). -/
abbrev PortId := Fin 64
/-- A Port side: 2p for the A-side and 2p + 1 for the B-side of Port p. -/
abbrev SideId := Fin 128
/-- A Lane Tile (01, R10). -/
abbrev TileId := Fin 8
/-- A lane engine (08, R224). -/
abbrev EngineId := Fin 128
/-- A Slice (11). -/
abbrev SliceId := Fin 256
/-- A local Ring of a Slice (11, R322). -/
abbrev RingId := Fin 1024
/-- A read tag (10, R299). -/
abbrev TagId := Fin 1024
/-- A Granary window of a Slice (12). -/
abbrev WindowId := Fin 16

/-- The two register spaces of the management function (R285). -/
inductive Bar where
  | bar0 | bar2
  deriving DecidableEq, Repr

/-- Why a Lane Tile is asked to wake (R407). -/
inductive WakeCause where
  /-- the first register access to it: a read, or a write with its value, at a BAR0 offset -/
  | access (isWrite : Bool) (offset : Nat) (value : Nat)
  /-- the validation of a commit whose scope holds one of its Ports -/
  | commit
  /-- a park poll -/
  | parkPoll
  /-- signal detect rising on a receiver of an armed Port -/
  | signalDetect (h : HalfId)
  deriving DecidableEq, Repr

/-- The faults that fence a Lane Tile (R444), in the order of their causes 0x01 to 0x04 (R447). -/
inductive FenceCause where
  | memory | dclk | controlPlane | supply
  deriving DecidableEq, Repr

/-- The receiver values that adaptation maintains, as a window or an acquisition leaves them (R53, R229). -/
structure RxCoef where
  /-- the 16 FFE taps, signed, in units of 1/128 -/
  ffe : List Int
  /-- h1, signed, in units of 1/64 of the main cursor -/
  h1 : Int
  /-- the three slicer level estimates -/
  levels : List Int
  /-- the VGA code -/
  vga : Nat
  /-- the CDR phase in 1/64 UI -/
  cdrPhase : Int
  /-- the CDR frequency integrator -/
  freqInt : Int
  deriving DecidableEq, Repr

/-- How a data stream ends (R73, R153). -/
inductive StreamEnd where
  | eds | eios | eieos
  deriving DecidableEq, Repr

/-- A boundary in the stream that a receiver takes in (R87): of a flit, the end of a SKP ordered set, of a segment frame,
or an edge of DCLK. -/
inductive Boundary where
  | flit | skp | frame | dclk
  deriving DecidableEq, Repr

/-- The receiver that takes in a boundary, and the boundary (R87). -/
structure StreamEdge where
  half : HalfId
  kind : Boundary
  deriving DecidableEq, Repr

/-- What a Standard Side receives within a data stream, SKP ordered sets apart (R142, R153): a flit of 256 bytes, an ordered set
other than EIOS and EIEOS with the mask of the link lanes it came on and its 16 symbols, or, of a stream without Flit Mode, a
TLP, a DLLP or a 68-byte flit (R68; 04, Table 1). -/
inductive StreamItem where
  | flit (bytes : List Byte)
  | oset (mask : Nat) (symbols : List Byte)
  | other (bytes : List Byte)
  deriving DecidableEq, Repr

/-- The end of a data stream: how it ends, and what it brought since the last row (R73, R153). -/
structure StreamStop where
  how : StreamEnd
  before : List StreamItem
  deriving DecidableEq, Repr

/-- The LTSSM substates that R106 tracks from the ordered sets forwarded. -/
inductive Substate where
  | pollingActive | pollingConfiguration | pollingCompliance
  | configLinkwidthStart | configOther
  | recoveryRcvrLock | recoverySpeed | recoveryRcvrCfg | recoveryIdle
  | recoveryEq (phase : Fin 4)
  | loopback | disabled | hotReset
  deriving DecidableEq, Repr

/-- A partner's request to a transmitter in an equalisation phase (R108): a preset, or coefficients in the
standard's magnitude notation. -/
inductive EqRequest where
  | preset (n : Nat)
  | coef (cm1 c0 cp1 : Nat)
  deriving DecidableEq, Repr

/-- A training ordered set as recognition presents it (R99, R151): its decoded content and its 16 symbols. -/
structure TrainingSet where
  /-- TS2 when true, TS1 when false -/
  ts2 : Bool
  /-- the Link Number, none for PAD -/
  link : Option Nat
  /-- the Lane Number, none for PAD -/
  lane : Option Nat
  /-- bit s names the rate of slot s, s = 0 to 6 -/
  rates : Nat
  nFts : Nat
  hotReset : Bool
  disable : Bool
  loopback : Bool
  retimerPresent : Bool
  twoRetimers : Bool
  /-- the substate of the partner that sent it -/
  substate : Substate
  /-- the transmitter preset the set names, if any: in an equalisation phase the one its sender uses, before it the one for
  the transmitter of Phase 0 -/
  preset : Option Nat
  /-- the coefficients its sender uses, c−1, c0 and c+1, in the standard's magnitude notation -/
  coefs : Nat × Nat × Nat
  /-- the de-emphasis it selects for the link at 5 GT/s -/
  deEmph : Bool
  /-- an equalisation request to the device's transmitter -/
  request : Option EqRequest
  /-- the sender rejects the device's request -/
  reject : Bool
  /-- the precoding request -/
  precode : Bool
  /-- full swing and low frequency the sender names -/
  fs : Nat
  lf : Nat
  /-- the Sync Header Bypass capability -/
  shb : Bool
  /-- the alternate protocol negotiation has settled on Compute Express Link -/
  cxl : Bool
  /-- the width settled in Configuration, when this set settles it: 1, 2, 4, 8 or 16 -/
  width : Option Nat
  /-- the polarity of the lane is inverted -/
  inverted : Bool
  /-- the 16 symbols after the standard's decoding -/
  symbols : List Byte
  deriving DecidableEq, Repr

/-- Low-power link states (R115). -/
inductive LpKind where
  | l0s | l1 | l2
  /-- L0p, with the mask of link lanes held idle -/
  | l0p (mask : Nat)
  deriving DecidableEq, Repr

/-- The receivers of a link that the standard's Receiver Numbers name (R119): B and C are the first retimer's, D and E the
second's. -/
inductive RxName where
  | a | b | c | d | e | f
  deriving DecidableEq, Repr

/-- A lane margining command of the standard, for a receiver of the device (R119 to R121). -/
inductive MarginCmd where
  /-- report one of the parameters of Table 8, numbered in its order -/
  | report (item : Nat)
  /-- move the error sampler one step along an axis: 0 left, 1 right, 2 up, 3 down -/
  | step (axis : Fin 4) (offset : Nat)
  /-- go to normal settings: the session ends -/
  | normal
  deriving DecidableEq, Repr

/-- A lane margining command with the receiver that it names (R119). -/
structure MarginMsg where
  receiver : RxName
  cmd : MarginCmd
  deriving DecidableEq, Repr

/-- The statistics of a capture (R206, R207); fractions in units of 1/10,000, levels from the lowest to the highest. -/
structure CaptureStats where
  /-- for each sub-ADC, the fraction of symbols at each level -/
  occupancy : List (List Nat)
  /-- for each sub-ADC, the mean raw sample at each decided level, in 1/256 ADC LSB -/
  means : List (List Int)
  /-- the fraction of samples at full-scale codes -/
  fullScale : Nat
  /-- the longest run of equal symbols -/
  longestRun : Nat
  /-- the fraction of symbols that differ from the one before -/
  transitions : Nat
  deriving DecidableEq, Repr

/-- The errors that a capture measured beside them (R206). -/
structure CaptureErrors where
  /-- for each sub-ADC, the timing error averaged over its symbols, and the pulse slope per 50 fs, which is not 0, in one unit -/
  timing : List Int
  slope : Nat
  /-- the threshold shifts at which the comparators CMP_LO, CMP_MID, CMP_HI and CMP_ERR agree with the ADC, in 1/4 ADC LSB -/
  shifts : List Int
  deriving DecidableEq, Repr

/-- The end of a piece of job work at a safe point (R236): the errors counted since the last safe point, and whether
the step (with its dwell) is complete. -/
structure StepResult where
  errors : Nat
  complete : Bool
  deriving DecidableEq, Repr

/-- The status of a completion of a device read (R301, R302). -/
inductive CplStatus where
  | ok | ur | ca | poisoned
  deriving DecidableEq, Repr

/-- What starts or ends a hold of requests (R303). -/
inductive HoldCause where
  /-- Bus Master Enable -/
  | bme
  /-- the management link: rate code, width code and Flit Mode when it comes up -/
  | link (rate : Fin 8) (width : Fin 4) (flit : Bool)
  deriving DecidableEq, Repr

/-- Errors of the management link (R291). -/
inductive LinkError where
  | receiverError | badTlp | badDllp | replayRollover | replayTimeout
  | dataLinkProtocol | flowControlProtocol | receiverOverflow
  | malformedTlp (header : Nat)
  | poisonedWrite (header : Nat)
  deriving DecidableEq, Repr

/-- A field of configuration space that a configuration write stores (R280 to R298). -/
inductive CfgField where
  | maxPayload | maxReadRequest | relaxedOrdering | completionTimeoutValue | completionTimeoutDisable
  | aspmL1Enable | msixEnable | functionMask | pmeEn | pmeStatus
  | aerUncMask | aerUncSeverity | aerCorMask | aerUncStatus | aerCorStatus
  | errReportEnables | statusMasterAbort | statusTargetAbort
  /-- the enables of the Command register but Bus Master Enable, and the addresses of BAR0 and of BAR2 -/
  | commandEnables | bar0 | bar2
  /-- a word of configuration space that holds what the standard gives, by its offset, or the standard's bits of the Status and
  Device Status registers (R281, R282) -/
  | standard (offset : Nat)
  deriving DecidableEq, Repr

/-- The kind of a request of the host that has no row of its own (R281, R286): a memory read or write, or a read of
configuration space. -/
inductive ReqKind where
  | memory (isWrite : Bool) (bar : Bar)
  | config
  deriving DecidableEq, Repr

/-- What a memory request covers: its length in 32-bit words, the byte enables of its first and of its last word, and what a
write carries (R286). -/
structure ReqSpan where
  dwords : Nat
  firstBe : Nat
  lastBe : Nat
  data : Nat
  deriving DecidableEq, Repr

/-- Which count a share write names (R338). -/
inductive ShareReg where
  | rings | vectors | share
  deriving DecidableEq, Repr

/-- A direction of a Port: AB is received on the A-side, BA on the B-side (12). -/
inductive Dir where
  | ab | ba
  deriving DecidableEq, Repr

/-- The supply rails with a monitor (R415). -/
inductive Rail where
  | core | pll | io18
  deriving DecidableEq, Repr

/-- The cause of an always-on brown-out (R411). -/
inductive BrownoutCause where
  | load | supply
  deriving DecidableEq, Repr

/-- The packet error code of a sideband message (R454). -/
inductive Pec where
  | absent | right | wrong
  deriving DecidableEq, Repr

/-- Why an apply fails because of a Lane Tile or a direction (R274). -/
inductive ApplyFailCause where
  | noApplyPoint (p : PortId)
  | tileNotReady (t : TileId)
  deriving DecidableEq, Repr

/-- An item that a Winnow observes (12, Table 3), beside its bytes and whether it is or carries an IDE TLP: of a flit, which of
its first 24 bytes carry that TLP's data. -/
inductive Observed where
  | oset (encoding lanes : Nat) (symbols : List Byte)
  | dllp (inFlit : Bool) (bytes : List Byte)
  | tlp (inFlit : Bool) (dw : Nat) (header data : List Byte)
  | flit (carried : Nat)
  | error (code lane reason row : Nat)
  | unit
  deriving DecidableEq, Repr

/-- What a completion of a device read delivers (R298): Ring entries of 64 bytes, or the bytes of an image, of a key hash or of a
granule list. -/
inductive ReadData where
  | entries (es : List (List Byte))
  | bytes (bs : List Byte)
  deriving DecidableEq, Repr

/-- A flash operation of an image write that has ended (R264). -/
inductive FlashDone where
  | ok | failed
  deriving DecidableEq, Repr

/-- One command of the block: one constructor per row of spec/opcode_table.json. -/
inductive Instr where
  | registerWrite (bar : Bar) (addr : Nat) (be : Nat) (data : Nat)
  | unsupportedRequest (kind : ReqKind) (addr : Nat) (span : ReqSpan) (header : Nat)
  | fencedTileAccess (isWrite : Bool) (offset : Nat) (value : Nat)
  | tileAccessComplete (t : TileId)
  | coreWatchdogExpiry (core : Fin 4)
  | tileWakeRequest (t : TileId) (cause : WakeCause)
  | tileRampStart
  | tileRampDone (t : TileId)
  | tileRestoreDone (t : TileId)
  | tileIdleExpiry (t : TileId)
  | halfLanePowerUp (h : HalfId)
  | tileFence (t : TileId) (cause : FenceCause)
  | autoTileReset (t : TileId)
  | signalDetectRise (h : HalfId)
  | signalDetectFall (h : HalfId)
  | lockRise (h : HalfId) (rx : RxCoef)
  | lockFall (h : HalfId)
  | acquireStart (h : HalfId)
  | acquireTimeout (h : HalfId)
  | convergeTimeout (h : HalfId)
  | fomWindowEnd (h : HalfId) (pwr noise : Nat) (rx : RxCoef)
  | freezeWrite (h : HalfId) (v : Bool)
  | fomMinClr (h : HalfId)
  | alignmentGained (h : HalfId) (arrival : Nat)
  | alignmentLost (h : HalfId)
  | dataStreamStart (h : HalfId) (flit : Bool)
  | dataStreamEnd (h : HalfId) (stop : StreamStop)
  | nonflitHoldExpiry (p : PortId)
  | skpAdjust (q : SideId) (fills : List Nat)
  | skpGenerate (q : SideId) (fill : Nat)
  | ebSlip (h : HalfId)
  | deskewFail (q : SideId) (lane : Option HalfId)
  | applyPoint (edge : StreamEdge)
  | applyPointTimeout (p : PortId)
  | trainingSetReceived (h : HalfId) (ts : TrainingSet)
  | eqPresetAck (h : HalfId)
  | hotResetExit (p : PortId)
  | disabledExit (h : HalfId)
  | receiverDetectScan (q : SideId) (found : List HalfId)
  | electricalIdleExit (h : HalfId)
  | partnerLost (q : SideId)
  | trainingTimeout (p : PortId)
  | rateChange (p : PortId) (slot : Fin 7)
  | lowpowerEntry (q : SideId) (kind : LpKind)
  | lowpowerExit (q : SideId) (kind : LpKind)
  | trnRetrain (p : PortId)
  | marginCommand (h : HalfId) (msg : MarginMsg)
  | rowLaunch (q : SideId) (arrived : List StreamItem)
  | frameReceived (h : HalfId) (line : List Int)
  | ackTimeout (q : SideId)
  | frameLockGained (h : HalfId) (negated : Bool)
  | frameLockLost (h : HalfId)
  | stuffHigh (h : HalfId)
  | flitDrop (q : SideId)
  | segTrainingTimeout (q : SideId)
  | backoffEnd (q : SideId)
  | laneidReceived (h : HalfId) (payload : List Byte)
  | segPartnerLost (q : SideId)
  | segRetrain (q : SideId)
  | osrelSend (q : SideId)
  | osrelReceived (q : SideId) (row : Nat) (payload : List Byte)
  | pathSend (q : SideId)
  | pathFrameReceived (q : SideId) (payload : List Byte)
  | osetReceived (q : SideId) (payload : List Byte)
  | hardFaultDeclare (h : HalfId) (reason : Fin 16)
  | corrBlockEnd (h : HalfId)
  | standardLaneFault (h : HalfId) (reason : Fin 16)
  | trellisPropose (q : SideId)
  | trellisProposeReceived (q : SideId) (msg : List Byte)
  | trellisPreparedReceived (q : SideId) (msg : List Byte)
  | trellisRefusedReceived (q : SideId) (msg : List Byte)
  | commitHoldExpiry (q : SideId)
  | trellisCommitReceived (q : SideId) (msg : List Byte)
  | trellisSwitch (q : SideId)
  | trellisCancelReceived (q : SideId) (msg : List Byte)
  | trellisVoidedReceived (q : SideId) (msg : List Byte)
  | proposeReplyTimeout (q : SideId)
  | committingTimeout (q : SideId)
  | cancellingTimeout (q : SideId)
  | readyTimeout (q : SideId)
  | retiredExpiry (h : HalfId)
  | trlMove (q : SideId) (lane spare : Fin 32)
  | trlReturnHome (q : SideId) (lane : Fin 32)
  | calRun (scope : Fin 4) (half : Bool) (index : Nat)
  | calStore
  | calReload
  | calClear (scope : Fin 4) (half : Bool) (index : Nat)
  | calAutoRun (h : HalfId)
  | calAutoStore
  | calCaptureStart (h : HalfId)
  | calCaptureEnd (h : HalfId) (stats : CaptureStats) (errors : CaptureErrors)
  | calComputeDone (h : HalfId)
  | calHoldWrite (h : HalfId)
  | interpolationStep (t : TileId) (temp : Int)
  | calStoreFlashDone (ok : Bool)
  | calStoreTimeout
  | engineStepEnd (k : EngineId)
  | epochStart
  | jobDispatch (k : EngineId)
  | safePoint (k : EngineId) (r : StepResult)
  | restoreDone (k : EngineId)
  | waitExpired (k : EngineId)
  | engineFault (k : EngineId)
  | engineRestartDone (k : EngineId)
  | engPermitWrite (k : SliceId) (value : Nat)
  | sliceJobsOffWrite (v : Bool)
  | boot (flashAnswers : Bool)
  | writeSlot (len : Nat)
  | imgFlashOpDone (r : FlashDone)
  | confirm
  | confirmAfterExpiry
  | advanceArb
  | swapFw
  | programKey (slot : Fin 4)
  | revokeKey (slot : Fin 4)
  | txnBegin
  | commit
  | rollback
  | rwtWrite (offset : Nat) (value : Nat)
  | bctStage (hi : Nat)
  | txnValidationDone
  | txnCommitTime
  | txnApplyFail (cause : ApplyFailCause)
  | txnRollbackDone
  | abandoned
  | completionReceived (tag : TagId) (status : CplStatus) (header : Nat) (data : ReadData)
  | completionTimeout (tag : TagId)
  | tagRetireExpiry (tag : TagId)
  | ctoDisableClear
  | holdStart (cause : HoldCause)
  | holdEnd (cause : HoldCause)
  | flr
  | mgmtHotReset
  | dataLinkDown
  | perstAssert
  | perstDeassert
  | d3hotEntry
  | d0Return
  | pmeTurnOff
  | aspmL1Entry
  | aspmL1Exit
  | msixUnmask (vector : Fin 2048)
  | aliveBeat
  | create (k : SliceId)
  | sliceReset (k : SliceId)
  | selfReset (k : SliceId)
  | destroy (k : SliceId)
  | resetDone (k : SliceId)
  | destroyDone (k : SliceId)
  | shareWrite (k : SliceId) (reg : ShareReg) (value : Nat)
  | visibilityRemove (k : SliceId) (hi : Bool) (value : Nat)
  | pasidEnableChange (v : Bool)
  | ringEnable (k : SliceId) (i : RingId) (ctrl : Nat)
  | ringDisable (k : SliceId) (i : RingId) (ctrl : Nat)
  | ringResume (k : SliceId) (i : RingId)
  | cmdDoorbell (k : SliceId) (i : RingId) (index : Nat)
  | eventDoorbell (k : SliceId) (i : RingId) (index : Nat)
  | eventPost
  | nop (k : SliceId) (i : RingId)
  | jobSubmit (k : SliceId) (i : RingId)
  | portStatus (k : SliceId) (i : RingId)
  | readReg (k : SliceId) (i : RingId)
  | portRetrain (k : SliceId) (i : RingId)
  | fence (k : SliceId) (i : RingId)
  | mirrorPublish (p : PortId)
  | timeFrameSend (q : SideId) (departure : Nat)
  | timeFrameReceived (q : SideId) (payload : List Byte) (arrival : Nat)
  | holdoverEntry
  | tpulseOut
  | tpulseEdge (e : Nat)
  | timSet (hi : Nat)
  | aonRatioMeasure (ratio : Nat)
  | winnowItem (p : PortId) (dir : Dir) (item : Observed) (ide : Bool) (stamp : Nat) (raw : List Byte)
  | traceDmaWrite (t : TileId)
  | windowOpen (k : SliceId) (i : RingId)
  | windowClose (k : SliceId) (i : RingId)
  | windowCloseDone (k : SliceId) (w : WindowId)
  | windowResume (k : SliceId) (w : WindowId)
  | winnowClaim (k : SliceId) (i : RingId)
  | winnowRelease (k : SliceId) (i : RingId)
  | winnowUnit (k : SliceId) (i : RingId)
  | trigger (k : SliceId) (i : RingId)
  | fire
  | trigNEdge (stamp : Nat)
  | trigNRelease
  | trcSchedGo (flood : Bool)
  | scheduleFire
  | latch
  | rearm
  | autoRearmExpiry
  | refclkLost
  | refclkReturn
  | rootLock
  | vidWaitExpiry
  | idleEntry
  | sleepEntry
  | deepEntry (centralTemp : Int)
  | offEntry
  | sbAddressMatch
  | wakeIn
  | mgmtLinkWake
  | parkPoll
  | sleepWakeDone (aonCycles : Nat) (us : Nat)
  | deepWakeReloadDone (flashAnswers : Bool) (loftPass : List Bool) (aonCycles : Nat) (us : Nat)
  | aonBrownout (cause : BrownoutCause)
  | coldReset
  | resetNAssert
  | resetNDeassert
  | supplyMonitor (rail : Rail)
  | supplyRecovered
  | rstDevice (key : Nat)
  | rstPort (index : Nat)
  | rstTile (index : Nat)
  | portResetDone (p : PortId)
  | tileResetDone (t : TileId)
  | thermtrip
  | sbRead (offset count : Nat) (pec : Pec)
  | sbWrite (offset value : Nat) (pec : Pec)
  | sbStatusRead
  | portMirror (port : Nat) (pec : Pec)
  | identify
  | alertResponse (won : Bool)
  | sbTimeout
  | replayMemoryError (q : SideId)
  | internalEccError (corrected : Bool)
  | managementLinkError (e : LinkError)
  | configurationWrite (field : CfgField) (value : Nat)
  | alwaysOnTimerWake
  | alwaysOnResetRelease (straps : Fin 8)
  deriving DecidableEq, Repr

end Sys2Proof
end

