-- ==== Sys2Proof/Config.lean ====
section
/-! DEFINITION. What the device of one board holds fixed, and the values the spec leaves open.
An opaque constant has no body: a claim about it holds whatever its value is. -/

namespace Sys2Proof

/-- The 64-bit device serial number, fixed in the part (R145, R282). DESIGN CHOICE, log entry 13. -/
opaque Config.serial : Nat

/-- The low-order fields of a configuration-space header the spec leaves to the standard are not modelled;
the standard's preset table (R44): for a rate slot and a preset number 0 to 10, the magnitudes of c−1 and c+1
in units of 1/63. The spec names the table and gives no entry. DESIGN CHOICE, log entry 15. -/
opaque Config.presetTaps : Nat → Nat → Nat × Nat

/-- The de-emphasis coefficients the standard selects at 2.5 and 5 GT/s (R44), by rate slot. DESIGN CHOICE, log entry 15. -/
opaque Config.deEmphasis : Nat → Bool → Nat × Nat

/-- The 16 receiver FFE taps a cold start begins with (R53), by rate slot: the spec names no starting value. DESIGN CHOICE, log entry 12. -/
opaque Config.ffeStart : Nat → List Int

/-- The slicer level estimates, and the CDR phase and frequency integrator, that a cold start begins with (R53), by rate
slot: the spec names no starting values. DESIGN CHOICE, log entry 12. -/
opaque Config.levelStart : Nat → List Int
opaque Config.cdrStart : Nat → Int × Int

/-- The adjustment unit of R77 in bits, by rate slot: the smallest unit the standard permits, which the spec does not
give. DESIGN CHOICE, log entry 15. -/
opaque Config.skpUnit : Nat → Nat

/-- The interval in units of 2⁻³² ns that the standard sets between SKP ordered sets (R79), by `CLOCKING` and rate slot.
DESIGN CHOICE, log entry 15. -/
opaque Config.skpInterval : Nat → Nat → Nat

/-- The next rate correction of the proportional-integral loop of R359, in parts per billion before it is held
within ±200,000: from the present correction, the measured offset in 2⁻¹⁶ ns, and a counter of free values.
The spec gives no gains. DESIGN CHOICE, log entry 11. -/
opaque Config.piLoop : Int → Int → Nat → Int

/-- The 16 symbols of a training ordered set of the given content (R99, R151): the standard's encoding, which the spec
names and does not give. DESIGN CHOICE, log entry 15. -/
opaque Config.tsSymbols : TrainingSet → List Byte
/-- The content that 16 symbols stand for, none where they are no training set (R99, R151): the standard's decoding.
DESIGN CHOICE, log entry 15. -/
opaque Config.tsContent : List Byte → Option TrainingSet

/-- The 8 bytes in which a PATH frame carries a margining command and a response (05, Table 8): for a link lane, a Receiver
Number and a command or a value, and the command that such bytes stand for. The spec gives no encoding. DESIGN CHOICE, log
entry 15. -/
opaque Config.marginBytes : Nat → RxName → MarginCmd → List Byte
opaque Config.marginReplyBytes : Nat → RxName → Nat → List Byte
opaque Config.marginContent : List Byte → Option (Nat × RxName × MarginCmd)

/-- The hashes fused at manufacture (R256): of the firmware key, and of Falpel's image key in slot 0. PRESUMED, log entry 14. -/
opaque Config.firmwareKey : Nat
opaque Config.falpelKey : Nat

/-- A byte of flash that a failed operation worked on (R219, R264), by the counter of free values and its place. PRESUMED,
log entry 14. -/
opaque Config.flashByte : Nat → Nat → BitVec 8

/-- The words of configuration space as the standard gives them, by offset, where the spec says no more, and what a word becomes that is
written: by offset, its old value and what is written (R281, R282). PRESUMED, log entry 16. -/
opaque Config.standardCold : Nat → Nat
opaque Config.standardWrite : Nat → Nat → Nat → Nat

/-- A value the spec leaves open, applied to the model's counter of such values. DESIGN CHOICE, log entry 12. -/
opaque Config.freeNat : Nat → Nat

end Sys2Proof
end

