-- ==== Sys2Proof/Machine/State.lean ====
section
/-! DEFINITION. The state of the block: plain data. The registers are cells of one sparse table in a canonical form;
what the spec gives the machine beside its registers is in the structures below. A table holds an entry for what
differs from, or has been given a value other than, the value every entry has at reset. -/

set_option Elab.async false

namespace Sys2Proof.Machine

/-! ## Sparse tables -/

/-- A table by number: entries with strictly rising keys; a key with no entry has the default of its use. -/
structure Tab (α : Type) where
  entries : List (Nat × α) := []
  deriving DecidableEq, Repr

/-- The value a list of entries gives a key. -/
def lookupKey {α : Type} (k : Nat) : List (Nat × α) → Option α
  | [] => none
  | e :: es => if e.1 = k then some e.2 else lookupKey k es

/-- The entries without those of one key. -/
def dropKey {α : Type} (k : Nat) : List (Nat × α) → List (Nat × α)
  | [] => []
  | e :: es => if e.1 = k then dropKey k es else e :: dropKey k es

/-- An entry put before the first larger key. -/
def insertKey {α : Type} (k : Nat) (v : α) : List (Nat × α) → List (Nat × α)
  | [] => [(k, v)]
  | e :: es => if k < e.1 then (k, v) :: e :: es else e :: insertKey k v es

/-- The value at a key, `d` where nothing is listed. -/
def Tab.get {α : Type} (t : Tab α) (d : α) (k : Nat) : α := (lookupKey k t.entries).getD d
/-- The value at a key set. -/
def Tab.set {α : Type} (t : Tab α) (k : Nat) (v : α) : Tab α := ⟨insertKey k v (dropKey k t.entries)⟩
/-- A key's entry removed. -/
def Tab.erase {α : Type} (t : Tab α) (k : Nat) : Tab α := ⟨dropKey k t.entries⟩
/-- The entries whose keys a test keeps. -/
def Tab.keep {α : Type} (t : Tab α) (f : Nat → Bool) : Tab α := ⟨t.entries.filter (fun e => f e.1)⟩

/-! ## Registers -/

/-- One field of one register: its offset (BAR0, or 0x1000000 plus a BAR2 offset), its lowest bit, its width and its
Cold value (R3, R9). -/
structure Cell where
  off : Nat
  lo : Nat
  width : Nat
  cold : Nat
  deriving DecidableEq, Repr

/-- The key of a cell in the register table. -/
def Cell.key (c : Cell) : Nat := 32 * c.off + c.lo

/-- The access kinds of Table 4 of 00 (R4). -/
inductive Access where
  | ro | rw | rw1c | rws | rw1cs | wo | rwt | rwi
  deriving DecidableEq, Repr

/-- What a written value outside the field's range becomes (R7, R8). -/
inductive Fix where
  | any
  /-- the nearest value in range is stored -/
  | clamp (lo hi : Nat)
  /-- a reserved encoding leaves the field -/
  | upTo (hi : Nat)
  deriving DecidableEq, Repr

/-- A field of a register: its cell, its access kind and what becomes of a value out of range. -/
structure Field where
  cell : Cell
  acc : Access
  fix : Fix
  deriving DecidableEq, Repr

/-! ## Half-lanes (02, 03, 05, 06, 07) -/

/-- What a transmitter sends (R46, R102, R143). -/
inductive TxMode where
  /-- electrical idle -/
  | idle
  /-- the sequence of R102: EIEOS at 8 GT/s and above, TS1 with PAD numbers below -/
  | start
  /-- a standard stream: forwarded, or made at the exit of a geared path -/
  | forward
  /-- segment frames under the training seed -/
  | laneid
  /-- segment frames under lane seeds -/
  | frames
  deriving DecidableEq, Repr

/-- Transmitter coefficients in units of 1/63 (R42). -/
structure TxCoef where
  cm2 : Int := 0
  cm1 : Int := 0
  c0 : Int := 63
  cp1 : Int := 0
  cp2 : Int := 0
  deriving DecidableEq, Repr

/-- The converged receiver state a half-lane keeps for its rate slot (02, Adaptation). -/
structure Conv where
  slot : Nat
  ctle : Nat
  coef : RxCoef
  deriving DecidableEq, Repr

/-- The TRIM state under way (02, Table 4): the entry code, the codes still to measure, the code being measured, the
windows of re-convergence left, the windows measured and their FoM sum, and the best code so far with its sum. -/
structure Trim where
  entry : Nat
  todo : List Nat
  cur : Nat
  reconv : Nat
  seen : Nat
  sum : Nat
  best : Option (Nat × Nat)
  /-- the last re-convergence, after the best code was set -/
  final : Bool
  deriving DecidableEq, Repr

/-- An evaluation of the partner's transmitter (R109): the candidates tried with their FoM sums, the preset under
trial, whether its acknowledgement has come, and the windows counted with their sum. -/
structure Eval where
  tried : List (Nat × Nat)
  cur : Option Nat
  acked : Bool
  seen : Nat
  sum : Nat
  /-- the best preset has been requested; nothing more is tried -/
  done : Bool
  deriving DecidableEq, Repr

/-- A calibration set or record: the 52 corrections of Table 1 of 07 in its order (R200). -/
structure CalSet where
  vals : List Int
  deriving DecidableEq, Repr

/-- The neutral set: all-zero corrections (R201). -/
def CalSet.neutral : CalSet := ⟨List.replicate 52 0⟩

/-- A calibration record of the working table or of a store copy (07, Table 1). -/
structure CalRec where
  set : CalSet := CalSet.neutral
  valid : Bool := false
  estimated : Bool := false
  outerUnmeasured : Bool := true
  runs : Nat := 0
  lastTemp : Int := 0
  deriving DecidableEq, Repr

/-- The stages of a calibration run (R205 to R210). -/
inductive RunStage where
  /-- waiting for a displaced job to restore the receiver -/
  | pending
  | capturing
  | computing
  /-- the new set waits for its Apply Point -/
  | scheduled
  | verifying
  deriving DecidableEq, Repr

/-- A calibration run on one receiver. -/
structure CalRun where
  stage : RunStage
  /-- an event of R208 has disturbed the capture -/
  disturbed : Bool := false
  /-- a standard margining session was on when the run started, so CMP_ERR is not measured (R205) -/
  noErr : Bool := false
  /-- the measured set m, once captured -/
  measured : CalSet := CalSet.neutral
  /-- the tile temperature of the capture, in 1/4 °C -/
  temp : Int := 0
  /-- the updated records by temperature point, held aside (R209) -/
  updated : List (Nat × CalRec) := []
  /-- the windows published after the discarded one, with their sum (R210) -/
  seen : Nat := 0
  sum : Nat := 0
  /-- the last windows published before the Apply Point, at most four: their sum and number -/
  before : Nat := 0
  beforeN : Nat := 0
  deriving DecidableEq, Repr

/-- A standard margining session on a receiver's error sampler (R119 to R121): how far it has moved, by axis. -/
structure Margin where
  axis : Nat
  offset : Nat
  /-- the link lane and the Receiver Number of a command that came from the far pseudo-port, which its response goes back to -/
  far : Option (Nat × RxName) := none
  deriving DecidableEq, Repr

/-- The error sampler, phase and thresholds of a receiver as an engine job has moved them (R59, R229). -/
structure Moved where
  timing : Int := 0
  voltage : Int := 0
  /-- the data phase and thresholds move too (data method) -/
  data : Bool := false
  deriving DecidableEq, Repr

/-- The level and length of a run of equal symbols on the line (R129); length 0 before the first symbol. -/
structure Run where
  level : Int := 0
  len : Nat := 0
  deriving DecidableEq, Repr

/-- What the device holds for one half-lane beside its registers. -/
structure Half where
  /-- receiver and transmitter powered (R15, R408) -/
  powered : Bool := false
  /-- what the transmitter sends (R46) -/
  tx : TxMode := .idle
  /-- the coefficients the transmitter uses when it drives, with their source for LCH_TX_COEF.SRC (R61) -/
  txCoef : TxCoef := {}
  txSrc : Nat := 0
  /-- the launch amplitude code in use (R45): the slot defaults' until an entry is loaded -/
  swing : Nat := 3
  /-- the channel table entry of the last cold start or change of slot, which a running half-lane keeps using (R52) -/
  entry : Nat := 0
  /-- the limits (target, warning, fault) of the window in progress, where a commit has changed them within it (R65) -/
  limits : Option (Nat × Nat × Nat) := none
  /-- a preset or request of the standard link is in force for the transmitter (R61) -/
  linkCoef : Bool := false
  /-- receiver termination enabled (R101) -/
  term : Bool := false
  /-- receiver detection found a receiver beyond this transmitter (R101) -/
  found : Bool := false
  /-- the Port requests reception (R53) -/
  wantRx : Bool := false
  /-- warm starts left in the sequence of R474 -/
  warmLeft : Nat := 0
  /-- the last converged receiver state (R474, R52) -/
  conv : Option Conv := none
  /-- the coefficients in use -/
  coef : RxCoef := ⟨[], 0, [], 32, 0, 0⟩
  /-- consecutive windows at or above target in CONVERGE (R53) -/
  tgtRun : Nat := 0
  /-- TRIM under way (R53) -/
  trim : Option Trim := none
  /-- an Apply Point fell in the window (R58) -/
  discard : Bool := false
  /-- the last published FoM was below the warning level (R64), below the fault level (R167) -/
  belowWarn : Bool := false
  belowFault : Bool := false
  /-- the last four published FoMs, newest first (R210) -/
  lastFoms : List Nat := []
  /-- EIOS received before signal detect became 0 (R104) -/
  eios : Bool := false
  /-- the receiver's stream is being forwarded (R74, R102) -/
  forwarding : Bool := false
  /-- the lane is restarting under R192; it is back from L0p and is forwarded once aligned (R115) -/
  relocking : Bool := false
  realign : Bool := false
  /-- the evaluation of R109 -/
  eval : Option Eval := none
  /-- the preset forwarded for this transmitter, and the one forwarded before the last rate change, which Phase 0 takes (R107) -/
  fwdPreset : Option Nat := none
  eqPreset : Option Nat := none
  /-- the preset in use, where the coefficients are a preset's (R99) -/
  txPreset : Option Nat := none
  /-- the 16 symbols of the last TS1 or TS2 received (R151), and whether it was a TS2 -/
  tsSyms : List Byte := []
  /-- the standard margining session on the error sampler (R121) -/
  margin : Option Margin := none
  /-- the data stream received is in Flit Mode (R87) -/
  inFlits : Bool := false
  /-- the arrival on this lane of the deskew marker, in units of 0.5 ns from the marker's own origin (R82) -/
  arrival : Option Nat := none
  /-- the partner's precoding request to the device's transmitter -/
  txPrecode : Bool := false
  /-- job movement of sampling phase, thresholds or sampler (R59, R229) -/
  moved : Option Moved := none
  /-- a standard margining step (axis, offset) waits for the sampler a job holds (R121) -/
  marginWait : Option Margin := none
  /-- the preset the partner's transmitter uses, as its training sets name it (R109) -/
  peerPreset : Nat := 0
  /-- the transmitter rejected the partner's last request (R108) -/
  rejected : Bool := false
  /-- runs of equal symbols sent and received (R129) -/
  txRun : Run := {}
  rxRun : Run := {}
  /-- stuff symbols sent, less 1,110 for each frame omitted (R131) -/
  stuffBal : Int := 0
  /-- frames sent, and the numbers of those within the last 65,536 that held stuff symbols, with how many (R130) -/
  sentNo : Nat := 0
  stuffAt : List (Nat × Nat) := []
  /-- the preceding frame on this half-lane was omitted (R131) -/
  omitNext : Bool := false
  /-- the last row admitted on this half-lane (R132) -/
  prevRow : Option Nat := none
  /-- the half-lane's frames follow a row that has failed, and it has not yet turned back to the replay (R133) -/
  stale : Bool := false
  /-- the half-lane has marked its switch to lane seeds (R149) -/
  marked : Bool := false
  /-- since NAK rose, the half-lane has turned back to the failed row or before it (R132) -/
  returned : Bool := false
  /-- consecutive uncorrectable frames (R132) -/
  badRun : Nat := 0
  /-- consecutive correctly decoded frames (R183) -/
  goodRun : Nat := 0
  /-- frames received, and the numbers of the uncorrectable ones within the last 1,024 (R167, R176) -/
  frameNo : Nat := 0
  badAt : List Nat := []
  /-- corrected symbols in the current block of 4,096 frames (R167) -/
  corrBlock : Nat := 0
  /-- an uncorrectable frame fell in the current FoM window (R183) -/
  badInWindow : Bool := false
  /-- the receiver has decoded a frame under the proposed epoch (R174) -/
  newEpoch : Bool := false
  /-- RETIRED (R176) -/
  retired : Bool := false
  /-- a fault declared on the receiver while it heard a spare has not recovered (R187) -/
  spareBad : Bool := false
  /-- since when, in elapsed time, the receiver has met the conditions of R176 without a break -/
  fitAt : Option Nat := none
  /-- the calibration run on the receiver (R204) -/
  run : Option CalRun := none
  /-- the applied set, the temperature it was formed at in 1/4 °C, and the pending set (R203) -/
  applied : CalSet := CalSet.neutral
  appliedTemp : Int := 0
  pendingSet : Option (CalSet × Int) := none
  /-- the pending set belongs to the run (R210); it is the previous set of a run that ended with REVERTED (R208) -/
  pendingRun : Bool := false
  pendingBack : Bool := false
  /-- a run ended APPLIED since the side last entered ACTIVE or SACTIVE, and when the last such run ended (R215) -/
  ranSince : Bool := false
  lastRun : Option Nat := none
  /-- the temperature of the set that the last applied run put in use, in whole °C -/
  runTemp : Int := 0
  /-- no automatic run starts before this instant (R215) -/
  noAutoUntil : Nat := 0
  deriving DecidableEq, Repr

/-! ## Port sides as Segment Sides (05, 06) -/

/-- A sequenced or unsequenced frame of a row: its type and its payload (R123, R124). -/
structure Frame where
  type : Nat
  payload : List Byte
  deriving DecidableEq, Repr

/-- A row kept until it is acknowledged (R136): its number, its frames by logical lane as they are replayed, and the
instant it was first launched in 2⁻³² ns of elapsed time (R139). -/
structure Row where
  row : Nat
  frames : List (Nat × Frame)
  since : Nat
  deriving DecidableEq, Repr

/-- A row arriving (R132, R133): its number, and the frames received by logical lane; none marks an omission. -/
structure RxRow where
  row : Nat
  got : List (Nat × Option Frame)
  /-- logical lanes whose frame was received under the new epoch (R175) -/
  newEp : List Nat
  deriving DecidableEq, Repr

/-- The partner as its LANEID frames describe it (R145). -/
structure Partner where
  version : Nat
  kind : Nat
  serial : Nat
  port : Nat
  side : Nat
  width : Nat
  spares : Nat
  slot : Nat
  caps : Nat
  legacy : Bool
  buffer : Nat
  deriving DecidableEq, Repr

/-- A fault or request waiting to be served by the steering end (R187): the logical lane, the reason, the spare asked
for (0x1F for any), the receiver concerned, the instant it was declared in 2⁻³² ns of elapsed time, and how often it was re-queued. -/
structure Item where
  lane : Nat
  reason : Nat
  spare : Nat
  half : Nat
  since : Nat
  tries : Nat
  deriving DecidableEq, Repr

/-- A proposal of the steering end (R173, R178). -/
structure Proposal where
  item : Item
  epoch : Nat
  spare : Nat
  placement : List Nat
  deriving DecidableEq, Repr

/-- What a transmitting end in READY holds (R182). -/
structure Prepared where
  epoch : Nat
  lane : Nat
  spare : Nat
  placement : List Nat
  deriving DecidableEq, Repr

/-- The identity placement (R170, R172). -/
def identityPlacement (w : Nat) : List Nat := (List.range 20).map (fun l => if l < w then l else 0x1F)

/-- What the device holds for one Port side that is a Segment Side. -/
structure Seg where
  /-- when the present training state was entered, in elapsed time (R143, R144) -/
  enteredAt : Nat := 0
  /-- the partner's identity (R146) -/
  partner : Option Partner := none
  /-- a half-lane has gained frame lock since entry to SACQUIRE (R150) -/
  hadLock : Bool := false
  /-- the partner's heard map as last decoded, 20 bytes (R145) -/
  peerHeard : List Nat := []
  /-- this side's heard map, frozen on leaving SDISCOVER: heard partner lanes (R172) -/
  frozen : Option (List Nat) := none
  /-- the heard map of the first LANEID with READY = 1 (R172) -/
  peerReady : Option (List Nat) := none
  /-- LANEID frames carry READY = 1 (R143), and one has been sent; the partner's READY has been decoded; the transmitter has switched (R149) -/
  ready : Bool := false
  readySent : Bool := false
  gotReady : Bool := false
  switched : Bool := false
  /-- the placement of the direction received, and of the direction sent (R170) -/
  rxPlace : List Nat := []
  txPlace : List Nat := []
  /-- the next new row, the latest ACK decoded, and the rows not yet acknowledged, oldest first (R136) -/
  nextRow : Nat := 0
  acked : Nat := 0xFFF
  unacked : List Row := []
  /-- the next row to replay (R136) -/
  replay : Option Nat := none
  /-- the row last replayed from, the consecutive replays of it, and when that replay began, once it has (R136, R137) -/
  replayRow : Nat := 0
  replayCount : Nat := 0
  replayAt : Option Nat := none
  /-- the instant ACK last advanced (R137) -/
  ackAt : Nat := 0
  /-- the last row accepted (0xFFF before any), NAK, and the rows arriving (R133, R135) -/
  lastAcc : Nat := 0xFFF
  nak : Bool := false
  arriving : List RxRow := []
  /-- sequenced frames released to the output (R141) -/
  released : Nat := 0
  /-- sequenced frames sent for the first time, and the partner's credit (R141) -/
  sent : Nat := 0
  credit : Nat := 0
  /-- sequenced frames waiting to be sent: the entry or transit buffer (R142) -/
  outq : List Frame := []
  /-- delivered frames not yet released by the output: the exit or transit buffer (R142) -/
  exitq : List Frame := []
  /-- those of them that an earlier session of the side has brought, which give no credit (R159) -/
  carried : Nat := 0
  /-- unsequenced frames due: OSREL, PATH, TIME (R475) -/
  osrelDue : Option (List Byte) := none
  pathDue : Option (List Byte) := none
  timeDue : Option (List Byte) := none
  /-- the previous RTT measurement since entry to SACTIVE exceeded RTT_MAX (R139) -/
  rttOver : Bool := false
  /-- the OSREL row and content last taken (R151) -/
  osrelRow : Option Nat := none
  osrelIn : List Byte := []
  /-- the PATH payload last received and last sent (R152) -/
  pathIn : List Byte := []
  pathOut : List Byte := []
  /-- the queue of the steering end, its proposal, and when its state was entered (R182, R187) -/
  queue : List Item := []
  prop : Option Proposal := none
  /-- the last epoch used in a proposal (R173), the last epoch seen in a PROPOSE (R181) -/
  lastEpoch : Nat := 0
  seenEpoch : Nat := 0
  /-- the steering message being repeated and the rows to its next copy (R179) -/
  steerMsg : Option (List Byte) := none
  steerWait : Nat := 0
  /-- replies due, and the copies sent of the steering message and of the reply, which choose their lanes (R179) -/
  replies : List (List Byte) := []
  steerLane : Nat := 0
  replyLane : Nat := 0
  /-- the kind and the epoch of the last reply sent (R179) -/
  lastReply : List Byte := []
  /-- when the steering end entered its state, and the transmitting end READY, in elapsed time (R182) -/
  steerAt : Nat := 0
  readyAt : Nat := 0
  /-- the home index of each data lane dropped while it was in use (R171) -/
  dropHomes : List (Nat × Nat) := []
  /-- what READY holds (R182) -/
  prepared : Option Prepared := none
  /-- a COMMIT was decoded for the prepared epoch: the switch is due (R184) -/
  switchDue : Bool := false
  /-- the spare logical lanes that were ready at the last judgement (R176) -/
  spareReady : List Nat := []
  /-- the first frame under a degrade's epoch has been decoded (R175) -/
  degradeSeen : Bool := false
  /-- rows launched since entry to SACTIVE (R356) -/
  rows : Nat := 0
  deriving DecidableEq, Repr

/-! ## Ports (04, 12, 13, 14) -/

/-- Which reset holds a Port in DOWN (14). -/
inductive PortReset where
  | port | restructure | tile
  deriving DecidableEq, Repr

/-- What the device holds for one Port beside its registers. -/
structure PortX where
  /-- the substate of each partner as last seen, A-side and B-side (R106) -/
  subA : Option Substate := none
  subB : Option Substate := none
  /-- a data stream runs on the side (R100) -/
  streamA : Bool := false
  streamB : Bool := false
  /-- the electrical-idle hold of R114 is under way; the instant in elapsed time at which it ends -/
  nonflitHold : Bool := false
  nonflitUntil : Nat := 0
  /-- a Loopback request has been refused and its leader has not fallen back yet (R115) -/
  loopRefused : Bool := false
  /-- the far side of a geared path is reported in electrical idle, or not reported (R102, R476) -/
  farEi : Bool := true
  /-- when the Port entered HOT_RESET, and when a partner's substate last changed, in elapsed time (R100, R106) -/
  hotAt : Nat := 0
  subAt : Nat := 0
  /-- when the next SKP ordered set of a geared Port's Standard Side is due, in elapsed time (R79) -/
  skpAt : Nat := 0
  /-- the first Configuration since DETECT is still to come (R96) -/
  firstConfig : Bool := true
  /-- the de-emphasis selected for the link at 5 GT/s, as the upstream component's training sets name it (R44) -/
  deEmph : Bool := false
  /-- the direction that comes in on the side is in L0s (R115) -/
  l0sA : Bool := false
  l0sB : Bool := false
  /-- link lanes idle under L0p, by mask (R115) -/
  l0pMask : Nat := 0
  /-- the far partner of a geared path is reported present (R101) -/
  farPresent : Bool := false
  /-- the lowest capacity reported along the path, in Gbit/s; none before a PATH frame (R154) -/
  capacity : Option Nat := none
  /-- the margining command and the response that PATH frames carry to the far pseudo-port, 8 bytes each (R119, R152) -/
  marginCmd : Option (List Byte) := none
  marginAns : Option (List Byte) := none
  /-- responses waiting for the SKP ordered set that a geared Port's Standard Side generates next: those of its own receivers,
  and one that came from the far pseudo-port (R119) -/
  marginReply : List (Nat × Nat) := []
  marginFar : Option (List Byte) := none
  /-- flits are no more delivered until Recovery (R191); the stream towards the standard partner has been broken with EIEOS (R188) -/
  broken : Bool := false
  cut : Bool := false
  /-- on a geared Port: the far side's stream has ended since its last DATA frame; the DATA frames that come are still those of
  the stream of before the Port left ACTIVE (R100) -/
  farEnded : Bool := false
  oldStream : Bool := false
  /-- the reset in progress (R418 to R420) -/
  reset : Option PortReset := none
  /-- the directions of a committed change still to apply, A-to-B and B-to-A (R88) -/
  applyAB : Bool := false
  applyBA : Bool := false
  /-- a commit whose scope holds the Port, and that takes no Restructure reset of it, raises its count at the directions' next Apply
  Points, once at the later of the two (R438) -/
  markAB : Bool := false
  markBA : Bool := false
  /-- receiver-detection scans of each Standard Side in a row that found nothing, since the entry to DETECT (R396) -/
  scansA : Nat := 0
  scansB : Nat := 0
  /-- the mirror: sequence number and four registers (R438) -/
  transitions : Nat := 1
  mirrorSeq : Nat := 0x01000001
  mirror : List Nat := [0x0FF00000, 0, 0, 0x0000FF00]
  deriving DecidableEq, Repr

/-! ## Events and Rings (11, 15) -/

/-- An event on its way to a Ring (R333, R335): the Slice it is delivered to, the event Ring named (none for the notice
Ring), and the fields of Table 8 of 11. `state` is the mirror it carries, none until the publication of R442. -/
structure Ev where
  slice : Nat
  ring : Option Nat
  type : Nat
  cls : Nat
  code : Nat
  source : Nat
  entry : Nat := 0
  tag : Nat := 0
  /-- the local index of the command Ring of a COMPLETION, whose HEAD the event carries -/
  cmdRing : Option Nat := none
  result : List Nat := List.replicate 16 0
  time : Nat
  port : Option Nat := none
  state : Option (List Nat) := none
  /-- masked events are posted to no Ring (R448) and never enter a queue -/
  canWait : Bool := true
  deriving DecidableEq, Repr

/-! ## What leaves the block -/

/-- What the block sends: to the host, to the partners, to the sideband. -/
inductive Out where
  /-- an event entry written to a Ring of a Slice, with its PASID if it carries one and its host address (R325, R284, R322) -/
  | ringWrite (slice ring index : Nat) (pasid : Option Nat) (addr : Nat) (bytes : List Nat)
  /-- a read request for host memory by tag: PASID, address, bytes (R298) -/
  | dmaRead (tag : Nat) (pasid : Option Nat) (addr len : Nat)
  /-- a write of a job result or of trace records to a Granary window, with its Relaxed Ordering attribute (R374, R240, R283) -/
  | granaryWrite (slice window pos : Nat) (pasid : Option Nat) (relaxed : Bool) (bytes : List Nat)
  /-- an MSI-X message on a vector (R290) -/
  | msix (vector : Nat)
  /-- an error message of the function: 0 correctable, 1 non-fatal, 2 fatal (R291) -/
  | errMsg (severity : Nat)
  /-- a PME message, and the acknowledgement of PME_Turn_Off (R296) -/
  | pme
  | pmeToAck
  /-- a memory request completed as Unsupported Request (R286) -/
  | unsupported
  /-- a read answered, by offset and value (R287); a read of configuration space answered (R281) -/
  | readDone (off value : Nat)
  | configDone (off value : Nat)
  /-- the line symbols of one segment frame on a half-lane, stuffing included (R122 to R129) -/
  | line (h : Nat) (levels : List Int)
  /-- a row position omitted on a half-lane (R131) -/
  | omit (h : Nat)
  /-- a sequenced frame delivered in order by a Segment Side (R134), with the half-lanes of the Standard Side it leaves on, in
  link-lane order (R76) -/
  | deliver (q : Nat) (type : Nat) (payload : List Byte) (lanes : List Nat)
  /-- a training set forwarded on a half-lane with the changes of Table 2 of 04 (R99) -/
  | trainingSet (h : Nat) (ts : TrainingSet)
  /-- the training content of an OSREL frame regenerated on a Standard Side (R151) -/
  | osrel (q : Nat) (payload : List Byte)
  /-- an ordered set regenerated among the flits: kind, mask, symbols (R153) -/
  | orderedSet (q : Nat) (kind mask : Nat) (symbols : List Byte)
  /-- a SKP ordered set sent on a side with an adjustment in units (R77, R79) -/
  | skp (q : Nat) (adjust : Int)
  /-- a preset requested of the partner in an equalisation phase (R109) -/
  | presetRequest (h : Nat) (preset : Nat)
  /-- a margining response: parameter reported, or errors counted (R120, R121); one of the far pseudo-port's (R119) -/
  | marginReply (h : Nat) (value : Nat)
  | marginFar (q : Nat) (bytes : List Byte)
  /-- the start or the end of a data stream, forwarded on a half-lane of a TT Port as it came (R68): 0 its start, 1 EDS,
  2 EIOS, 3 EIEOS -/
  | streamMark (h : Nat) (what : Nat)
  /-- what a data stream brought, forwarded on a half-lane of a TT Port bit for bit (R68) -/
  | passed (h : Nat) (items : List StreamItem)
  /-- a configuration request completed with Request Retry Status (R417) -/
  | configRetry
  /-- bytes answered on the sideband after the device's address, up to the packet error code (R454) -/
  | sideband (bytes : List Nat)
  /-- TPULSE driven (R361) and TRIG_N driven (R381) -/
  | tpulse (time : Nat)
  | trigN (drive : Bool)
  deriving DecidableEq, Repr

/-! ## Jobs and lane engines (08) -/

/-- A slice job: what its parameter block asks for (R227), who submitted it, and how far it has come (R236). -/
structure Job where
  slice : Nat
  /-- the Slice's generation at submission (R231) -/
  gen : Nat
  /-- the local command Ring, the entry's index, its Tag and the event Ring it names (R326) -/
  ring : Nat
  entry : Nat
  tag : Nat
  evRing : Nat
  /-- 1 MARGIN, 2 EYE_SCAN, 3 COUNTER_SWEEP, 4 SNAPSHOT_READ -/
  kind : Nat
  dataMethod : Bool
  portScope : Bool
  latched : Bool
  /-- the target receiver; with PORT_SCOPE the one of the side's lowest logical lane -/
  half : Nat
  /-- the target side -/
  side : Nat
  axis : Nat
  steps : Nat
  tStride : Nat
  vStride : Nat
  dwell : Nat
  errLimit : Nat
  window : Nat
  offset : Nat
  /-- the instant of submission, in 2⁻³² ns of elapsed time (R235) -/
  since : Nat
  /-- steps or grid points completed -/
  done : Nat := 0
  /-- errors counted since the current step began (R236) -/
  count : Nat := 0
  /-- MARGIN: the last step below the error limit, and the error count of the last step measured (R230) -/
  lastPass : Nat := 0
  lastErr : Nat := 0
  /-- result bytes not yet issued to the window, in order, and the bytes written (R229, R240) -/
  unwritten : List Nat := []
  written : Nat := 0
  /-- some results could not be written (R238) -/
  dropped : Bool := false
  /-- the result code a stop cause has set (R238) -/
  cause : Option Nat := none
  /-- the step in progress is paid for (R234) -/
  paid : Bool := false
  /-- a calibration set took effect during the step, which is measured again (R240) -/
  again : Bool := false
  /-- a Slice reset stopped it: nothing is posted (R239) -/
  silent : Bool := false
  deriving DecidableEq, Repr

/-- What the device holds for one lane engine beside its registers. -/
structure Engine where
  /-- the job slot, whose state ENG_STATUS.JOB_STATE reports (R234, R236) -/
  slot : Option Job := none
  /-- the jobs queued for the engine, in submission order (R234) -/
  queue : List Job := []
  /-- the Slice last served (R234) -/
  lastSlice : Nat := 255
  /-- the instants of its faults, newest first (R244) -/
  faultsAt : List Nat := []
  /-- the priority of the work begun when the last step ended (08, Table 1): 0 none, 5 a job's -/
  work : Nat := 0
  /-- the receivers that were in TRACK or FROZEN when the engine was halted (R242) -/
  kept : List Nat := []
  /-- since the last epoch began, or the engine came up, no receiver of it has acquired and no calibration run has started; the upkeep
  steps begun in this time, whether a job step took part of it, and whether the engine ran in it at all (R226, R246) -/
  quiet : Bool := false
  upkeep : Nat := 0
  jobs : Bool := false
  ran : Bool := false
  /-- DISABLED, kept while its tile is OFF (R244; 14, Table 3) -/
  disabled : Bool := false
  deriving DecidableEq, Repr

/-! ## Slices, Rings and tags (10, 11) -/

/-- What the device holds for one Slice beside its registers. -/
structure SliceX where
  /-- tokens left in this epoch, and the allotment in force (R233, R339) -/
  balance : Nat := 0
  tokens : Nat := 0
  deriving DecidableEq, Repr

/-- What the device holds for one local Ring (keyed 1024 × Slice + local index) beside its registers. -/
structure RingX where
  /-- entries fetched and not yet taken: index and the 64 bytes (R324) -/
  fetched : List (Nat × List Byte) := []
  /-- the next entry to fetch (R324) -/
  next : Nat := 0
  /-- commands taken and not yet completed (R328) -/
  open_ : Nat := 0
  /-- commands taken so far: a command is told from another by its entry's index and this count, as index + 65536 × count -/
  serial : Nat := 0
  /-- the commands but JOB_SUBMIT that are taken and not completed, oldest first, with the completion of one that is done
  (R328) -/
  order : List (Nat × Option Ev) := []
  /-- commands taken that wait for a waking Lane Tile, oldest first (R28): the tile, the command, its entry, and the publication that it
  has been checked against, for one that was checked on receipt (R441) -/
  waits : List (Nat × Nat × List Byte × Option (List Nat)) := []
  deriving DecidableEq, Repr

/-- What a device read is for (R298). -/
inductive ReadFor where
  /-- command entries of a Slice's local Ring: the first index and the count -/
  | ring (slice ring first count : Nat)
  /-- a stretch of an image: its offset in the image and its length -/
  | image (off len : Nat)
  | keyHash
  /-- a stretch of the granule list of a window of a Slice, by its length -/
  | granules (slice window len : Nat)
  /-- entries of a Slice's Ring that has been disabled since (R324): what comes is dropped -/
  | dropped (slice : Nat)
  deriving DecidableEq, Repr

/-- The condition of a read tag (R299); a tag with no entry is free. -/
inductive TagState where
  | free
  | outstanding (use : ReadFor) (since : Nat)
  /-- retired until an instant; quiet when voided by a hold or a Slice (R301) -/
  | retired (until_ : Nat) (quiet : Bool)
  deriving DecidableEq, Repr

/-! ## The boot flash (07, 09) -/

/-- The bytes of the boot flash, by address (R249): a byte that is not listed is erased and reads 0xFF. -/
abbrev Memory := List Host.Cell

/-- A store under way (R219): the step of Table 6 of 07 in progress (2 to 7), the copy written, the store buffer, the
Generation, the Fabric Time at which it began in ns, whether the working table has changed since step 1, and when step 2
began, in elapsed time (R221). -/
structure CalStore where
  step : Nat
  toB : Bool
  buffer : Tab CalRec
  gen : Nat
  time : Nat
  changed : Bool
  since : Nat
  deriving DecidableEq, Repr

/-! ## The structure image, its slots and fuses, and transactions (09) -/

/-- What the structure image tells the device, read from its bytes (R251 to R254). -/
structure Image where
  /-- PORT_MAP: 64 records of 8 words, then 256 LCH_ASSIGN words (R253) -/
  portMap : List Nat
  /-- CHANNEL_TABLE: 64-bit entries in order (R47, R48) -/
  channelTable : List Nat
  /-- register lists: (offset, value) in list order (R254) -/
  lanePolicy : List (Nat × Nat)
  sliceDefaults : List (Nat × Nat)
  powerPolicy : List (Nat × Nat)
  domain : List (Nat × Nat)
  deriving DecidableEq, Repr

/-- The fuses (R256, R259). The firmware key hash and slot 0 are fused at manufacture. -/
structure Fuses where
  /-- blown anti-rollback steps F -/
  steps : Nat := 0
  /-- the firmware key hash -/
  firmware : Nat := Config.firmwareKey
  /-- the hashes of the image key slots, for those programmed: slot 0 from manufacture -/
  keys : Tab Nat := ⟨[(0, Config.falpelKey)]⟩
  /-- the revoked slots -/
  revoked : List Nat := []
  deriving DecidableEq, Repr

/-- An image write under way (R264): the step in progress (0 while it waits for a calibration store, 6 the erasing of the
first sector after a failure), the target slot (true for B), its length in bytes, the host address it is read from, the bytes
read so far, and the result after step 6. -/
structure ImgWrite where
  step : Nat
  toB : Bool
  len : Nat
  src : Nat
  data : List Byte := []
  result : Nat := 0
  deriving DecidableEq, Repr

/-- An `IMG_CMD` action under way (R264, R256, R266). -/
inductive ImgOp where
  | write (w : ImgWrite)
  /-- PROGRAM_KEY waits for the hash from host memory -/
  | key (slot : Nat)
  /-- SWAP_FW: the engine being reloaded and those still to come -/
  | swap (engine : Nat)
  deriving DecidableEq, Repr

/-- One change of a validated commit: the Port with whose Apply Points it takes effect, none for a global block; the
field, its committed value and its previous one (R273, R274). -/
structure Change where
  port : Option Nat
  cell : Cell
  new : Nat
  old : Nat
  deriving DecidableEq, Repr

/-- The transaction in existence (R268 to R277), and what its apply has reached. -/
structure Txn where
  /-- the staged field values, by cell -/
  shadow : Tab (Cell × Nat) := {}
  /-- the staged channel table entries, by index -/
  table : Tab Nat := {}
  /-- the offsets of the registers staged -/
  words : List Nat := []
  overflow : Bool := false
  /-- the last write to a `TXN_` register or covered write, in elapsed time (R276) -/
  touched : Nat := 0
  /-- what the commit changes, once validated, and the table entries it replaces (R274) -/
  changes : List Change := []
  oldTable : Tab Nat := {}
  /-- the Lane Tiles of the scope (R268) -/
  tiles : List Nat := []
  /-- Ports of the scope still to apply, Ports that have applied, and Ports still to withdraw (R273, R274) -/
  waiting : List Nat := []
  applied : List Nat := []
  back : List Nat := []
  /-- Ports whose directions have all reached their Apply Points, and which wait for a Port that they exchange half-lanes with,
  or for a Lane Tile; the pairs of Ports between which a half-lane moves (R22; log entry 18) -/
  ready : List Nat := []
  links : List (Nat × Nat) := []
  /-- the Ports whose change takes a Restructure reset (R273) -/
  restruct : List Nat := []
  /-- when apply failed, in elapsed time, with its reason and index (R274, R279) -/
  failedAt : Nat := 0
  reason : Nat := 0
  index : Nat := 0xFF
  /-- the level was raised for this commit from this one (R395) -/
  oldLevel : Option Nat := none
  /-- half-lanes whose transmitters, and whose receivers, stopped forwarding at an Apply Point of this commit (R273, R274) -/
  stoppedTx : List Nat := []
  stoppedRx : List Nat := []
  /-- directions, told by their receiving sides, in which a Port has stopped forwarding until its Restructure reset (R273) -/
  stopped : List Nat := []
  /-- directions past their Apply Points while the change of the whole Port is still to turn (R88) -/
  early : List Nat := []
  /-- the Lane Tiles of the scope that were fenced or reset before T (R274) -/
  lost : List Nat := []
  deriving DecidableEq, Repr

/-! ## The management function (10) -/

/-- What the management function holds beside BAR0 and BAR2 (R280 to R308). -/
structure Mgmt where
  /-- Bus Master Enable; the function is in D3hot; PERST_N is asserted -/
  bme : Bool := false
  /-- the other enables of the Command register, in place, and the addresses of BAR0 and BAR2 (R281) -/
  command : Nat := 0
  bar0 : Nat := 0
  bar2 : Nat := 0
  d3hot : Bool := false
  perst : Bool := false
  /-- PERST_N was asserted in DEEP: the reset takes effect when the wake has restored what the Loft holds (R417, R426) -/
  perstDue : Bool := false
  /-- the port is in ASPM L1 (R297), and ASPM L1 is enabled -/
  inL1 : Bool := false
  aspmL1 : Bool := false
  /-- PASID Enable -/
  pasid : Bool := false
  /-- Device Control: Max_Payload_Size and Max_Read_Request_Size codes, Enable Relaxed Ordering, and the four error
  reporting enables (correctable, non-fatal, fatal, unsupported request) -/
  mps : Nat := 0
  mrrs : Nat := 2
  ro : Bool := true
  reports : Nat := 0
  /-- Device Status: the four errors detected (correctable, non-fatal, fatal, unsupported request); of the Status register Master
  Data Parity Error, Signaled System Error and Detected Parity Error, in place in their word (R281, R282) -/
  detected : Nat := 0
  status : Nat := 0
  /-- the words of configuration space that hold what the standard gives, for those that have been written (R281, R282) -/
  cfg : Tab Nat := {}
  /-- Device Control 2: Completion Timeout Value and Disable (R298) -/
  ctoValue : Nat := 0
  ctoDisable : Bool := false
  /-- MSI-X Enable and Function Mask (R290) -/
  msixEnable : Bool := false
  functionMask : Bool := false
  /-- PM Control/Status (R296) -/
  pmeEn : Bool := false
  pmeStatus : Bool := false
  /-- when the latest PME message was sent, in elapsed time (R296) -/
  pmeAt : Nat := 0
  /-- Advanced Error Reporting: status, mask and severity, by the standard's bit numbers (R291) -/
  uncStatus : Nat := 0
  uncMask : Nat := 0x00400000
  uncSeverity : Nat := 0x00462030
  corStatus : Nat := 0
  corMask : Nat := 0x0000E000
  /-- the header log: the bit that the First Error Pointer names, and the header of its request, if it had one (R292) -/
  firstError : Option (Nat × Option Nat) := none
  /-- Received Master Abort and Received Target Abort of the Status register (R302) -/
  masterAbort : Bool := false
  targetAbort : Bool := false
  /-- the MSI-X table by 32-bit word, for words that differ from their Cold value, and the vectors pending (R290) -/
  msix : Tab Nat := {}
  pba : List Nat := []
  /-- WAKE_N is driven low (R296) -/
  wakeN : Bool := false
  /-- the central cores are stopped by a watchdog expiry (R25) -/
  coresDown : Bool := false
  /-- S0 is created once the destruction of R306 is complete (R318) -/
  s0Due : Bool := false
  /-- PME_Turn_Off has been answered: a link that then goes down is in L2 or L3 (R296, R399) -/
  turnedOff : Bool := false
  /-- reads that wait for a free tag, or for the end of a hold, oldest first (R299) -/
  readQueue : List ReadFor := []
  deriving DecidableEq, Repr

/-! ## Trace (12) -/

/-- A match unit of a Winnow (R368): its control word, value and mask (key bytes 0 to 27), whether it is enabled, and
whether the unit that arms it has matched since both were enabled. -/
structure Unit4 where
  control : Nat := 0
  value : List Byte := []
  mask : List Byte := []
  enabled : Bool := false
  armed : Bool := false
  deriving DecidableEq, Repr

/-- A Winnow (R365 to R369): its owner and its four units. -/
structure Winnow where
  owner : Option Nat := none
  units : List Unit4 := [{}, {}, {}, {}]
  deriving DecidableEq, Repr

/-- A record on its way to a window (R371): type, flags, Port, matching units, the time in 2⁻¹⁶ ns, the count field,
and the key and payload (none without `FULL`). -/
structure TraceRec where
  type : Nat
  flags : Nat
  port : Nat
  units : Nat
  time : Nat
  count : Nat
  key : List Byte
  payload : Option (List Byte)
  deriving DecidableEq, Repr

/-- A Granary window beside its registers (R370). -/
structure Window where
  /-- host addresses of its granules -/
  granules : List Nat := []
  /-- post length p in 64-byte units, and the units still free after the TRIGGER record in POST -/
  post : Nat := 0
  postLeft : Nat := 0
  /-- records written (R371) -/
  written : Nat := 0
  /-- drops since the previous DROP record, and the time of the first of them (R373) -/
  dropped : Nat := 0
  dropTime : Nat := 0
  /-- the granule count of the WINDOW_OPEN being served, and the command that asked: local Ring, entry, Tag, event Ring -/
  want : Nat := 0
  listAt : Nat := 0
  /-- the bytes of the list read so far -/
  got : List Byte := []
  opener : Option (Nat × Nat × Nat × Nat) := none
  /-- WINDOW_CLOSE has been taken for the window; the command that asked -/
  closing : Bool := false
  closer : Option (Nat × Nat × Nat × Nat) := none
  deriving DecidableEq, Repr

/-! ## Fabric Time and the Common Trigger (12) -/

/-- What a follower knows of a partner that sends TIME frames (R355, R357, R358). -/
structure TimePeer where
  flags : Nat
  sender : Nat
  master : Nat
  stratum : Nat
  /-- the Sequence and the arrival (2⁻¹⁶ ns) of its latest TIME frame -/
  seq : Nat
  arrival : Nat
  deriving DecidableEq, Repr

/-- The stamps of the time protocol on one Segment Side since entry to SACTIVE (R356 to R358). -/
structure TimeSide where
  peer : Option TimePeer := none
  /-- the Sequence of the next TIME frame sent, and the number of those that have fallen due -/
  next : Nat := 0
  due : Nat := 0
  /-- departures of the frames sent, newest first: Sequence, stamp in 2⁻¹⁶ ns -/
  sent : List (Nat × Nat) := []
  /-- the last eight accepted delays, newest first, in 2⁻¹⁶ ns doubled -/
  delays : List Int := []
  /-- a Trellis switch has moved the lane of TIME frames since the partner's latest one; the Sequence of the last frame sent
  before such a switch of the direction sent (R358) -/
  rxMoved : Bool := false
  txMoved : Option Nat := none
  deriving DecidableEq, Repr

/-- What the device holds of its time beside the `TIM_` registers (R354 to R364). -/
structure Tim where
  sides : Tab TimeSide := {}
  /-- consecutive accepted measurements within 2 ns (R360) -/
  good : Nat := 0
  /-- when a measurement was last accepted, in elapsed time -/
  lastAt : Nat := 0
  /-- the uncertainty at the entry to holdover (R360) -/
  base : Nat := 0
  /-- a set waits for the next TPULSE edge (R364) -/
  setDue : Bool := false
  /-- the time still to lose at half rate, in 2⁻³² ns (R359) -/
  slew : Nat := 0
  /-- an AON ratio has been measured since the quality last became VALID or ESTIMATED (R363) -/
  ratioOk : Bool := false
  /-- the number of the last schedule seen (R382) -/
  seen : Nat := 0
  /-- the flooding of the pending schedule (R382) -/
  flood : Bool := false
  /-- the pending schedule's time in ns -/
  schedTime : Nat := 0
  /-- the latch pending: its instant in 2⁻³² ns of Fabric Time, and its sources (R380) -/
  latch : Option (Nat × Nat) := none
  /-- TRIG_N is driven by the device; its input is ignored until this instant of elapsed time (R381) -/
  trigOut : Bool := false
  deafUntil : Nat := 0
  /-- the number of the scheduling epoch in progress (R233) -/
  epoch : Nat := 0
  /-- when the Common Trigger last latched, in elapsed time (R380) -/
  latchedAt : Nat := 0
  /-- the bytes of records that the DMA engine has written in an interval, told by its number (R374) -/
  dma : Nat × Nat := (0, 0)
  deriving DecidableEq, Repr

/-- The snapshot copies (R383): the register table, and what SNAPSHOT_READ records take, as they were at the latch. -/
structure Snapshot where
  regs : Tab Nat := {}
  bct : Tab Nat := {}
  halves : Tab Half := {}
  now : Nat := 0
  deriving DecidableEq, Repr

/-! ## Lane Tiles and power (01, 13, 14) -/

/-- A register access that waits for a waking tile (R28). -/
structure TileAccess where
  isWrite : Bool
  offset : Nat
  value : Nat
  deriving DecidableEq, Repr

/-- What the device holds for one Lane Tile beside its registers. -/
structure Tile where
  /-- the wake has been asked for and waits for RAMP; RAMP is over and RESTORE runs (R407) -/
  restoring : Bool := false
  /-- accesses waiting, oldest first (R28) -/
  accesses : List TileAccess := []
  /-- when it was fenced, and when it last left RESET, in elapsed time (R446) -/
  fencedAt : Nat := 0
  leftReset : Option Nat := none
  /-- when it last lost something that keeps it in ON, in elapsed time (R397) -/
  quietAt : Nat := 0
  /-- it has been fenced since the last reset of wider scope; the fence came within 1 s of leaving RESET, and was not the first (R446) -/
  wasFenced : Bool := false
  stayFenced : Bool := false
  /-- trace records queued in its buffer: the Slice, the window, the record (R373) -/
  buffer : List (Nat × Nat × TraceRec) := []
  /-- the bytes of records that its trace plane has carried in an interval, told by its number (R374) -/
  carried : Nat × Nat := (0, 0)
  deriving DecidableEq, Repr

/-- An entry to SLEEP or DEEP that has not passed its commit point (R400): the instant of step 4 in elapsed time, and what
the entry has changed as it was before: the state and the VID code, on entry to SLEEP also `VID_BUSY`, `ROOT_LOCK`,
`CORE_SRC` and `MCLK_SRC`, and what is recorded of an entry edge (R363). -/
structure PowerEntry where
  commitAt : Nat
  state : Nat
  vid : Nat
  clocks : Option (Nat × Nat × Nat × Nat)
  edge : Nat × Nat × Nat := (0, 0, 0)
  deriving DecidableEq, Repr

/-- A wake under way (R403, R405): the state left, the instant of its source, and whether the voltage wait is over. -/
structure Wake where
  from_ : Nat
  at_ : Nat
  voltage : Bool
  deriving DecidableEq, Repr

/-- What the device holds of its power, clocks and resets beside its registers. -/
structure Power where
  /-- tiles waiting for RAMP, in order, and the tile in RAMP (R407) -/
  ramp : List Nat := []
  ramping : Option Nat := none
  /-- the entry to a power state under way (R400), and the wake under way (R403) -/
  entry : Option PowerEntry := none
  wake : Option Wake := none
  /-- the instant of the latest wake source in elapsed time, the state it woke, 0 before any, and whether signal detect is among the
  sources of that wake (R401, R412) -/
  wokeAt : Nat := 0
  wokeFrom : Nat := 0
  wokeSig : Bool := false
  /-- the sideband has matched the device's address, and the message is in progress (R402, R457) -/
  sbBusy : Bool := false
  /-- Fabric Time and the elapsed time at the entry edge of the always-on counter, and the uncertainty then (R363) -/
  timeAt : Nat := 0
  edgeAt : Nat := 0
  uncertAt : Nat := 0
  /-- the Loft is sealed (R426) -/
  sealed : Bool := false
  /-- the device rests in a Pin reset that its source has not ended, or waits for boot (R413, R415) -/
  inReset : Bool := false
  /-- the source of the reset is over and boot is due (R413, R433) -/
  bootDue : Bool := false
  /-- RESET_N is low; monitored rails below their threshold (R415) -/
  resetN : Bool := false
  lowRails : List Rail := []
  /-- the always-on domain is in reset after a Cold or AON brown-out reset (R413) -/
  aonReset : Bool := false
  /-- the address straps as sampled (R453) -/
  straps : Nat := 0
  /-- THERMTRIP_N is asserted (R416); it fell in DEEP, and its resets wait for the wake (R426) -/
  thermtrip : Bool := false
  tripDue : Bool := false
  /-- the level that follows the one in force once the change under way completes (R395) -/
  nextLevel : Option Nat := none
  /-- when the latest boot ended, in elapsed time, and whether a watchdog has expired since (R263, R404) -/
  bootedAt : Nat := 0
  watchdogSeen : Bool := false
  /-- the time spent in RUN since boot (R263) -/
  ranFor : Nat := 0
  /-- the instant in elapsed time for which the always-on timer is armed (R400) -/
  timerAt : Option Nat := none
  /-- a Lane Tile wake and half-lane powering: when the last half-lane was powered (R408) -/
  poweredAt : Nat := 0
  /-- when the change of level under way began (R393, R395), and when the device last lost something that keeps it from a deeper
  power state (R399), in elapsed time -/
  vidAt : Nat := 0
  quietAt : Nat := 0
  deriving DecidableEq, Repr

/-! ## The state -/

/-- The state of the block. -/
structure State where
  /-- the registers, by cell; an entry is listed only where a field differs from its Cold value (R3, R9) -/
  regs : Tab Nat := {}
  /-- half-lanes by number: 2n for the A-half and 2n + 1 for the B-half of Lane Channel n (R12) -/
  halves : Tab Half := {}
  /-- Port sides: 2p for the A-side and 2p + 1 for the B-side of Port p (R143) -/
  sides : Tab Seg := {}
  /-- Ports by number (R95) -/
  ports : Tab PortX := {}
  /-- the mirror era, held in the always-on domain (R438) -/
  era : Nat := 1
  /-- the board channel table in force, by index (R47) -/
  bct : Tab Nat := {}
  /-- the calibration working table: record 4h + i of half-lane h at temperature point i (R200, R216) -/
  calTab : Tab CalRec := {}
  /-- lane engines by number (R234) -/
  engines : Tab Engine := {}
  /-- Slices by number (R232) -/
  slices : Tab SliceX := {}
  /-- Rings, keyed 1024 × Slice + local index (R324) -/
  rings : Tab RingX := {}
  /-- the tags of DMA reads (R298 to R301) -/
  tags : Tab TagState := {}
  /-- the boot flash: image slots and calibration store (R217, R249) -/
  flash : Memory := []
  calStore : Option CalStore := none
  /-- a store waits for an image write to end (R221) -/
  storeWait : Bool := false
  /-- when the last store began, or boot (R215) -/
  lastStore : Nat := 0
  fuses : Fuses := {}
  /-- the bytes of the on-chip image copy (R260), the slot last written, and the `IMG_CMD` action under way -/
  chip : Option (List Byte) := none
  lastWritten : Option Bool := none
  imgOp : Option ImgOp := none
  /-- the transaction in existence (R268) -/
  txn : Txn := {}
  /-- the management function (R280) -/
  mgmt : Mgmt := {}
  /-- Winnows, keyed 2p for AB and 2p + 1 for BA (R365) -/
  winnows : Tab Winnow := {}
  /-- Granary windows, keyed 16 × Slice + window (R370) -/
  windows : Tab Window := {}
  /-- Fabric Time and the Common Trigger (R354) -/
  tim : Tim := {}
  /-- the snapshot copies (R383) -/
  snap : Snapshot := {}
  /-- Lane Tiles by number (R31) -/
  tiles : Tab Tile := {}
  /-- power, clocks and resets (R387) -/
  power : Power := {}
  /-- events that have arisen and are not yet handled, oldest first (R442) -/
  evq : List Ev := []
  /-- events staged inside the device, oldest first (R304, R336) -/
  staged : List Ev := []
  /-- Fabric Time in units of 2⁻³² ns, which wraps at 2⁶⁴ ns (R352), and the central counter, which is Fabric Time at its last edge
  (R473) -/
  now : Nat := 0
  count : Nat := 0
  /-- the replica of the counter in each Lane Tile that is ON, which is Fabric Time at the last edge of its DCLK (R353, R473) -/
  replicas : Tab Nat := {}
  /-- time since `State.reset`, in units of 2⁻³² ns, for durations -/
  elapsed : Nat := 0
  /-- what the block has sent, newest first -/
  outbox : List Out := []
  /-- the model's own field: how many free values have been taken -/
  freeCtr : Nat := 0
  /-- the commands that are waiting, first in, first out -/
  pending : List Instr := []
  deriving DecidableEq, Repr

/-- The block at the end of a Cold reset, RESET_N released and boot due: every register at its Cold value (R9). Log
entries 4 to 8. -/
def State.reset : State := { power := { inReset := true, bootDue := true } }

/-- Why the block stops: it never does. No command of the table has an effect the spec leaves undefined as a whole. -/
inductive Fault where
  /-- Raised by nobody: kept so that the type has a name for a stop; safe. -/
  | none
  deriving DecidableEq, Repr

/-- Why a command is refused. -/
inductive Refusal where
  /-- The command has no meaning in the model yet; raised by `exec` only; safe. -/
  | notModelled (mnemonic : String)
  deriving DecidableEq, Repr

end Sys2Proof.Machine
end

