-- ==== Sys2Proof/Machine/RegMap.lean ====
section
/-! DEFINITION. The register map: each field of each register as a cell (its BAR0 offset, or 0x1000000 plus its
BAR2 offset, its lowest bit, its width and its Cold value), and the list of fields at an offset with their access
kinds (00, R4) and clamping (00, R7, R8). The offsets are those of Table 4 of 10 (R289) and of each chapter. In an
index, h = 2n + d is a half-lane, q = 2p + d a Port side, and k = 0 the LO and 1 the HI register of a pair. An index
counts modulo the number of the registers, so that no index reaches a register of another name. -/

set_option Elab.async false

namespace Sys2Proof.Machine

/-- The offset of `GLB_REVISION` (00, Table 3, R2). -/
def GLB_REVISION.off : Nat := 0x0
/-- `GLB_REVISION.DEVICE`, RO. -/
def GLB_REVISION.DEVICE : Cell := ⟨GLB_REVISION.off, 16, 16, 37462⟩
/-- `GLB_REVISION.STEP_MAJOR`, RO. -/
def GLB_REVISION.STEP_MAJOR : Cell := ⟨GLB_REVISION.off, 12, 4, 1⟩
/-- `GLB_REVISION.STEP_MINOR`, RO. -/
def GLB_REVISION.STEP_MINOR : Cell := ⟨GLB_REVISION.off, 8, 4, 1⟩
/-- `GLB_REVISION.FAMILY`, RO. -/
def GLB_REVISION.FAMILY : Cell := ⟨GLB_REVISION.off, 4, 4, 3⟩
/-- The fields of `GLB_REVISION`. -/
def GLB_REVISION.fields : List Field :=
  [⟨GLB_REVISION.DEVICE, .ro, .any⟩,
   ⟨GLB_REVISION.STEP_MAJOR, .ro, .any⟩,
   ⟨GLB_REVISION.STEP_MINOR, .ro, .any⟩,
   ⟨GLB_REVISION.FAMILY, .ro, .any⟩]

/-- The offset of `PRT_MODE` (01, Table 3, R21). -/
def PRT_MODE.off (p : Nat) : Nat := 0x100000 + 0x1000 * (p % 64) + 0x0
/-- `PRT_MODE.ENABLE`, RWT. -/
def PRT_MODE.ENABLE (p : Nat) : Cell := ⟨(PRT_MODE.off p), 31, 1, 0⟩
/-- `PRT_MODE.MODE`, RO. -/
def PRT_MODE.MODE (p : Nat) : Cell := ⟨(PRT_MODE.off p), 28, 2, 0⟩
/-- `PRT_MODE.TILE`, RWT. -/
def PRT_MODE.TILE (p : Nat) : Cell := ⟨(PRT_MODE.off p), 24, 3, 0⟩
/-- `PRT_MODE.A_SEGMENT`, RWT. -/
def PRT_MODE.A_SEGMENT (p : Nat) : Cell := ⟨(PRT_MODE.off p), 17, 1, 0⟩
/-- `PRT_MODE.B_SEGMENT`, RWT. -/
def PRT_MODE.B_SEGMENT (p : Nat) : Cell := ⟨(PRT_MODE.off p), 16, 1, 0⟩
/-- `PRT_MODE.A_SPARES`, RWT. -/
def PRT_MODE.A_SPARES (p : Nat) : Cell := ⟨(PRT_MODE.off p), 14, 2, 0⟩
/-- `PRT_MODE.A_WIDTH`, RWT. -/
def PRT_MODE.A_WIDTH (p : Nat) : Cell := ⟨(PRT_MODE.off p), 9, 5, 0⟩
/-- `PRT_MODE.B_SPARES`, RWT. -/
def PRT_MODE.B_SPARES (p : Nat) : Cell := ⟨(PRT_MODE.off p), 7, 2, 0⟩
/-- `PRT_MODE.B_WIDTH`, RWT. -/
def PRT_MODE.B_WIDTH (p : Nat) : Cell := ⟨(PRT_MODE.off p), 2, 5, 0⟩
/-- The fields of `PRT_MODE`. -/
def PRT_MODE.fields (p : Nat) : List Field :=
  [⟨PRT_MODE.ENABLE p, .rwt, .any⟩,
   ⟨PRT_MODE.MODE p, .ro, .any⟩,
   ⟨PRT_MODE.TILE p, .rwt, .any⟩,
   ⟨PRT_MODE.A_SEGMENT p, .rwt, .any⟩,
   ⟨PRT_MODE.B_SEGMENT p, .rwt, .any⟩,
   ⟨PRT_MODE.A_SPARES p, .rwt, (.clamp 0 2)⟩,
   ⟨PRT_MODE.A_WIDTH p, .rwt, (.clamp 1 18)⟩,
   ⟨PRT_MODE.B_SPARES p, .rwt, (.clamp 0 2)⟩,
   ⟨PRT_MODE.B_WIDTH p, .rwt, (.clamp 1 18)⟩]

/-- The offset of `LCH_ASSIGN` (01, Table 4, R21). -/
def LCH_ASSIGN.off (n : Nat) : Nat := 0x200000 + 0x100 * (n % 256)
/-- `LCH_ASSIGN.A_VALID`, RWT. -/
def LCH_ASSIGN.A_VALID (n : Nat) : Cell := ⟨(LCH_ASSIGN.off n), 31, 1, 0⟩
/-- `LCH_ASSIGN.A_PORT`, RWT. -/
def LCH_ASSIGN.A_PORT (n : Nat) : Cell := ⟨(LCH_ASSIGN.off n), 24, 6, 0⟩
/-- `LCH_ASSIGN.A_LOGICAL`, RWT. -/
def LCH_ASSIGN.A_LOGICAL (n : Nat) : Cell := ⟨(LCH_ASSIGN.off n), 16, 5, 0⟩
/-- `LCH_ASSIGN.B_VALID`, RWT. -/
def LCH_ASSIGN.B_VALID (n : Nat) : Cell := ⟨(LCH_ASSIGN.off n), 15, 1, 0⟩
/-- `LCH_ASSIGN.B_PORT`, RWT. -/
def LCH_ASSIGN.B_PORT (n : Nat) : Cell := ⟨(LCH_ASSIGN.off n), 8, 6, 0⟩
/-- `LCH_ASSIGN.B_LOGICAL`, RWT. -/
def LCH_ASSIGN.B_LOGICAL (n : Nat) : Cell := ⟨(LCH_ASSIGN.off n), 0, 5, 0⟩
/-- The fields of `LCH_ASSIGN`. -/
def LCH_ASSIGN.fields (n : Nat) : List Field :=
  [⟨LCH_ASSIGN.A_VALID n, .rwt, .any⟩,
   ⟨LCH_ASSIGN.A_PORT n, .rwt, .any⟩,
   ⟨LCH_ASSIGN.A_LOGICAL n, .rwt, (.clamp 0 19)⟩,
   ⟨LCH_ASSIGN.B_VALID n, .rwt, .any⟩,
   ⟨LCH_ASSIGN.B_PORT n, .rwt, .any⟩,
   ⟨LCH_ASSIGN.B_LOGICAL n, .rwt, (.clamp 0 19)⟩]

/-- The offset of `GLB_TILE_STATUS` (01, Table 8, R30). -/
def GLB_TILE_STATUS.off : Nat := 0x8
/-- `GLB_TILE_STATUS.LTt`, RO. -/
def GLB_TILE_STATUS.LT (t : Nat) : Cell := ⟨GLB_TILE_STATUS.off, 4 * (t % 8), 4, 0⟩
/-- The fields of `GLB_TILE_STATUS`. -/
def GLB_TILE_STATUS.fields : List Field :=
  [⟨GLB_TILE_STATUS.LT 7, .ro, .any⟩,
   ⟨GLB_TILE_STATUS.LT 6, .ro, .any⟩,
   ⟨GLB_TILE_STATUS.LT 5, .ro, .any⟩,
   ⟨GLB_TILE_STATUS.LT 4, .ro, .any⟩,
   ⟨GLB_TILE_STATUS.LT 3, .ro, .any⟩,
   ⟨GLB_TILE_STATUS.LT 2, .ro, .any⟩,
   ⟨GLB_TILE_STATUS.LT 1, .ro, .any⟩,
   ⟨GLB_TILE_STATUS.LT 0, .ro, .any⟩]

/-- The offset of `LCH_EQ_CTRL` (02, Table 5, R65). -/
def LCH_EQ_CTRL.off (h : Nat) : Nat := 0x200000 + 0x100 * (h / 2 % 256) + 0x40 * (h % 2) + 0x10
/-- `LCH_EQ_CTRL.FOM_MIN_CLR`, WO. -/
def LCH_EQ_CTRL.FOM_MIN_CLR (h : Nat) : Cell := ⟨(LCH_EQ_CTRL.off h), 3, 1, 0⟩
/-- `LCH_EQ_CTRL.CTLE_TRIM_OFF`, RW. -/
def LCH_EQ_CTRL.CTLE_TRIM_OFF (h : Nat) : Cell := ⟨(LCH_EQ_CTRL.off h), 2, 1, 0⟩
/-- `LCH_EQ_CTRL.FREEZE`, RW. -/
def LCH_EQ_CTRL.FREEZE (h : Nat) : Cell := ⟨(LCH_EQ_CTRL.off h), 1, 1, 0⟩
/-- The fields of `LCH_EQ_CTRL`. -/
def LCH_EQ_CTRL.fields (h : Nat) : List Field :=
  [⟨LCH_EQ_CTRL.FOM_MIN_CLR h, .wo, .any⟩,
   ⟨LCH_EQ_CTRL.CTLE_TRIM_OFF h, .rw, .any⟩,
   ⟨LCH_EQ_CTRL.FREEZE h, .rw, .any⟩]

/-- The offset of `LCH_FOM` (02, Table 6, R66). -/
def LCH_FOM.off (h : Nat) : Nat := 0x200000 + 0x100 * (h / 2 % 256) + 0x40 * (h % 2) + 0x14
/-- `LCH_FOM.SIGDET`, RO. -/
def LCH_FOM.SIGDET (h : Nat) : Cell := ⟨(LCH_FOM.off h), 31, 1, 0⟩
/-- `LCH_FOM.LOCK`, RO. -/
def LCH_FOM.LOCK (h : Nat) : Cell := ⟨(LCH_FOM.off h), 30, 1, 0⟩
/-- `LCH_FOM.FOM_VALID`, RO. -/
def LCH_FOM.FOM_VALID (h : Nat) : Cell := ⟨(LCH_FOM.off h), 29, 1, 0⟩
/-- `LCH_FOM.BELOW_TARGET`, RO. -/
def LCH_FOM.BELOW_TARGET (h : Nat) : Cell := ⟨(LCH_FOM.off h), 28, 1, 0⟩
/-- `LCH_FOM.WARN`, RW1C. -/
def LCH_FOM.WARN (h : Nat) : Cell := ⟨(LCH_FOM.off h), 27, 1, 0⟩
/-- `LCH_FOM.FAULT_SEEN`, RW1C. -/
def LCH_FOM.FAULT_SEEN (h : Nat) : Cell := ⟨(LCH_FOM.off h), 26, 1, 0⟩
/-- `LCH_FOM.ADAPT_STATE`, RO. -/
def LCH_FOM.ADAPT_STATE (h : Nat) : Cell := ⟨(LCH_FOM.off h), 20, 4, 0⟩
/-- `LCH_FOM.RATE_SLOT`, RO. -/
def LCH_FOM.RATE_SLOT (h : Nat) : Cell := ⟨(LCH_FOM.off h), 16, 4, 15⟩
/-- `LCH_FOM.FOM_MIN`, RO. -/
def LCH_FOM.FOM_MIN (h : Nat) : Cell := ⟨(LCH_FOM.off h), 8, 8, 255⟩
/-- `LCH_FOM.FOM`, RO. -/
def LCH_FOM.FOM (h : Nat) : Cell := ⟨(LCH_FOM.off h), 0, 8, 0⟩
/-- The fields of `LCH_FOM`. -/
def LCH_FOM.fields (h : Nat) : List Field :=
  [⟨LCH_FOM.SIGDET h, .ro, .any⟩,
   ⟨LCH_FOM.LOCK h, .ro, .any⟩,
   ⟨LCH_FOM.FOM_VALID h, .ro, .any⟩,
   ⟨LCH_FOM.BELOW_TARGET h, .ro, .any⟩,
   ⟨LCH_FOM.WARN h, .rw1c, .any⟩,
   ⟨LCH_FOM.FAULT_SEEN h, .rw1c, .any⟩,
   ⟨LCH_FOM.ADAPT_STATE h, .ro, .any⟩,
   ⟨LCH_FOM.RATE_SLOT h, .ro, .any⟩,
   ⟨LCH_FOM.FOM_MIN h, .ro, .any⟩,
   ⟨LCH_FOM.FOM h, .ro, .any⟩]

/-- The offset of `LCH_RX_EQ` (02, Table 7, R66). -/
def LCH_RX_EQ.off (h : Nat) : Nat := 0x200000 + 0x100 * (h / 2 % 256) + 0x40 * (h % 2) + 0x18
/-- `LCH_RX_EQ.TABLE_DEFAULT`, RO. -/
def LCH_RX_EQ.TABLE_DEFAULT (h : Nat) : Cell := ⟨(LCH_RX_EQ.off h), 31, 1, 0⟩
/-- `LCH_RX_EQ.WARM`, RO. -/
def LCH_RX_EQ.WARM (h : Nat) : Cell := ⟨(LCH_RX_EQ.off h), 30, 1, 0⟩
/-- `LCH_RX_EQ.CTLE`, RO. -/
def LCH_RX_EQ.CTLE (h : Nat) : Cell := ⟨(LCH_RX_EQ.off h), 25, 5, 0⟩
/-- `LCH_RX_EQ.VGA`, RO. -/
def LCH_RX_EQ.VGA (h : Nat) : Cell := ⟨(LCH_RX_EQ.off h), 19, 6, 0⟩
/-- `LCH_RX_EQ.DFE_H1`, RO. -/
def LCH_RX_EQ.DFE_H1 (h : Nat) : Cell := ⟨(LCH_RX_EQ.off h), 12, 6, 0⟩
/-- `LCH_RX_EQ.FFE_MAIN`, RO. -/
def LCH_RX_EQ.FFE_MAIN (h : Nat) : Cell := ⟨(LCH_RX_EQ.off h), 4, 8, 0⟩
/-- The fields of `LCH_RX_EQ`. -/
def LCH_RX_EQ.fields (h : Nat) : List Field :=
  [⟨LCH_RX_EQ.TABLE_DEFAULT h, .ro, .any⟩,
   ⟨LCH_RX_EQ.WARM h, .ro, .any⟩,
   ⟨LCH_RX_EQ.CTLE h, .ro, .any⟩,
   ⟨LCH_RX_EQ.VGA h, .ro, .any⟩,
   ⟨LCH_RX_EQ.DFE_H1 h, .ro, .any⟩,
   ⟨LCH_RX_EQ.FFE_MAIN h, .ro, .any⟩]

/-- The offset of `LCH_TX_COEF` (02, Table 8, R66). -/
def LCH_TX_COEF.off (h : Nat) : Nat := 0x200000 + 0x100 * (h / 2 % 256) + 0x40 * (h % 2) + 0x1C
/-- `LCH_TX_COEF.SRC`, RO. -/
def LCH_TX_COEF.SRC (h : Nat) : Cell := ⟨(LCH_TX_COEF.off h), 30, 2, 3⟩
/-- `LCH_TX_COEF.C0`, RO. -/
def LCH_TX_COEF.C0 (h : Nat) : Cell := ⟨(LCH_TX_COEF.off h), 24, 6, 0⟩
/-- `LCH_TX_COEF.CM2`, RO. -/
def LCH_TX_COEF.CM2 (h : Nat) : Cell := ⟨(LCH_TX_COEF.off h), 18, 6, 0⟩
/-- `LCH_TX_COEF.CM1`, RO. -/
def LCH_TX_COEF.CM1 (h : Nat) : Cell := ⟨(LCH_TX_COEF.off h), 12, 6, 0⟩
/-- `LCH_TX_COEF.CP1`, RO. -/
def LCH_TX_COEF.CP1 (h : Nat) : Cell := ⟨(LCH_TX_COEF.off h), 6, 6, 0⟩
/-- `LCH_TX_COEF.CP2`, RO. -/
def LCH_TX_COEF.CP2 (h : Nat) : Cell := ⟨(LCH_TX_COEF.off h), 0, 6, 0⟩
/-- The fields of `LCH_TX_COEF`. -/
def LCH_TX_COEF.fields (h : Nat) : List Field :=
  [⟨LCH_TX_COEF.SRC h, .ro, .any⟩,
   ⟨LCH_TX_COEF.C0 h, .ro, .any⟩,
   ⟨LCH_TX_COEF.CM2 h, .ro, .any⟩,
   ⟨LCH_TX_COEF.CM1 h, .ro, .any⟩,
   ⟨LCH_TX_COEF.CP1 h, .ro, .any⟩,
   ⟨LCH_TX_COEF.CP2 h, .ro, .any⟩]

/-- The offset of `LCH_FOM_LIMITS` (02, Table 9, R67). -/
def LCH_FOM_LIMITS.off (r : Nat) : Nat := 0x210000 + 4 * (r % 9)
/-- `LCH_FOM_LIMITS.TARGET`, RWT. -/
def LCH_FOM_LIMITS.TARGET (r : Nat) : Cell := ⟨(LCH_FOM_LIMITS.off r), 16, 8, (if r % 9 < 5 then 72 else 80)⟩
/-- `LCH_FOM_LIMITS.WARN`, RWT. -/
def LCH_FOM_LIMITS.WARN (r : Nat) : Cell := ⟨(LCH_FOM_LIMITS.off r), 8, 8, (if r % 9 < 5 then 62 else 68)⟩
/-- `LCH_FOM_LIMITS.FAULT`, RWT. -/
def LCH_FOM_LIMITS.FAULT (r : Nat) : Cell := ⟨(LCH_FOM_LIMITS.off r), 0, 8, (if r % 9 < 5 then 52 else 56)⟩
/-- The fields of `LCH_FOM_LIMITS`. -/
def LCH_FOM_LIMITS.fields (r : Nat) : List Field :=
  [⟨LCH_FOM_LIMITS.TARGET r, .rwt, .any⟩,
   ⟨LCH_FOM_LIMITS.WARN r, .rwt, .any⟩,
   ⟨LCH_FOM_LIMITS.FAULT r, .rwt, .any⟩]

/-- The offset of `CLK_DCLK_SEL` (03, Table 3, R71). -/
def CLK_DCLK_SEL.off : Nat := 0x4000
/-- `CLK_DCLK_SEL.LTt`, RO. -/
def CLK_DCLK_SEL.LT (t : Nat) : Cell := ⟨CLK_DCLK_SEL.off, 2 * (t % 8), 2, 3⟩
/-- The fields of `CLK_DCLK_SEL`. -/
def CLK_DCLK_SEL.fields : List Field :=
  [⟨CLK_DCLK_SEL.LT 7, .ro, .any⟩,
   ⟨CLK_DCLK_SEL.LT 6, .ro, .any⟩,
   ⟨CLK_DCLK_SEL.LT 5, .ro, .any⟩,
   ⟨CLK_DCLK_SEL.LT 4, .ro, .any⟩,
   ⟨CLK_DCLK_SEL.LT 3, .ro, .any⟩,
   ⟨CLK_DCLK_SEL.LT 2, .ro, .any⟩,
   ⟨CLK_DCLK_SEL.LT 1, .ro, .any⟩,
   ⟨CLK_DCLK_SEL.LT 0, .ro, .any⟩]

/-- The offset of `PRT_DP_CTRL` (03, Table 4, R72). -/
def PRT_DP_CTRL.off (p : Nat) : Nat := 0x100000 + 0x1000 * (p % 64) + 0x4
/-- `PRT_DP_CTRL.CLOCKING`, RWT. -/
def PRT_DP_CTRL.CLOCKING (p : Nat) : Cell := ⟨(PRT_DP_CTRL.off p), 10, 2, 0⟩
/-- `PRT_DP_CTRL.A_SLOT`, RWT. -/
def PRT_DP_CTRL.A_SLOT (p : Nat) : Cell := ⟨(PRT_DP_CTRL.off p), 4, 4, 6⟩
/-- `PRT_DP_CTRL.B_SLOT`, RWT. -/
def PRT_DP_CTRL.B_SLOT (p : Nat) : Cell := ⟨(PRT_DP_CTRL.off p), 0, 4, 6⟩
/-- The fields of `PRT_DP_CTRL`. -/
def PRT_DP_CTRL.fields (p : Nat) : List Field :=
  [⟨PRT_DP_CTRL.CLOCKING p, .rwt, (.upTo 2)⟩,
   ⟨PRT_DP_CTRL.A_SLOT p, .rwt, .any⟩,
   ⟨PRT_DP_CTRL.B_SLOT p, .rwt, .any⟩]

/-- The offset of `PRT_DP_STATUS` (03, Table 10, R94). -/
def PRT_DP_STATUS.off (p : Nat) : Nat := 0x100000 + 0x1000 * (p % 64) + 0x8
/-- `PRT_DP_STATUS.FLIT`, RO. -/
def PRT_DP_STATUS.FLIT (p : Nat) : Cell := ⟨(PRT_DP_STATUS.off p), 31, 1, 0⟩
/-- `PRT_DP_STATUS.A_REVERSED`, RO. -/
def PRT_DP_STATUS.A_REVERSED (p : Nat) : Cell := ⟨(PRT_DP_STATUS.off p), 30, 1, 0⟩
/-- `PRT_DP_STATUS.B_REVERSED`, RO. -/
def PRT_DP_STATUS.B_REVERSED (p : Nat) : Cell := ⟨(PRT_DP_STATUS.off p), 29, 1, 0⟩
/-- `PRT_DP_STATUS.DESKEW_FAIL`, RW1C. -/
def PRT_DP_STATUS.DESKEW_FAIL (p : Nat) : Cell := ⟨(PRT_DP_STATUS.off p), 25, 1, 0⟩
/-- `PRT_DP_STATUS.EB_SLIP`, RW1C. -/
def PRT_DP_STATUS.EB_SLIP (p : Nat) : Cell := ⟨(PRT_DP_STATUS.off p), 24, 1, 0⟩
/-- `PRT_DP_STATUS.EB_SLIP_CNT`, RO. -/
def PRT_DP_STATUS.EB_SLIP_CNT (p : Nat) : Cell := ⟨(PRT_DP_STATUS.off p), 16, 8, 0⟩
/-- `PRT_DP_STATUS.A_SLOT_NOW`, RO. -/
def PRT_DP_STATUS.A_SLOT_NOW (p : Nat) : Cell := ⟨(PRT_DP_STATUS.off p), 12, 4, 15⟩
/-- `PRT_DP_STATUS.B_SLOT_NOW`, RO. -/
def PRT_DP_STATUS.B_SLOT_NOW (p : Nat) : Cell := ⟨(PRT_DP_STATUS.off p), 8, 4, 15⟩
/-- `PRT_DP_STATUS.A_ALIGN`, RO. -/
def PRT_DP_STATUS.A_ALIGN (p : Nat) : Cell := ⟨(PRT_DP_STATUS.off p), 4, 4, 0⟩
/-- `PRT_DP_STATUS.B_ALIGN`, RO. -/
def PRT_DP_STATUS.B_ALIGN (p : Nat) : Cell := ⟨(PRT_DP_STATUS.off p), 0, 4, 0⟩
/-- The fields of `PRT_DP_STATUS`. -/
def PRT_DP_STATUS.fields (p : Nat) : List Field :=
  [⟨PRT_DP_STATUS.FLIT p, .ro, .any⟩,
   ⟨PRT_DP_STATUS.A_REVERSED p, .ro, .any⟩,
   ⟨PRT_DP_STATUS.B_REVERSED p, .ro, .any⟩,
   ⟨PRT_DP_STATUS.DESKEW_FAIL p, .rw1c, .any⟩,
   ⟨PRT_DP_STATUS.EB_SLIP p, .rw1c, .any⟩,
   ⟨PRT_DP_STATUS.EB_SLIP_CNT p, .ro, .any⟩,
   ⟨PRT_DP_STATUS.A_SLOT_NOW p, .ro, .any⟩,
   ⟨PRT_DP_STATUS.B_SLOT_NOW p, .ro, .any⟩,
   ⟨PRT_DP_STATUS.A_ALIGN p, .ro, .any⟩,
   ⟨PRT_DP_STATUS.B_ALIGN p, .ro, .any⟩]

/-- The offset of `LCH_DP_STATUS` (03, Table 11, R94). -/
def LCH_DP_STATUS.off (h : Nat) : Nat := 0x200000 + 0x100 * (h / 2 % 256) + 0x40 * (h % 2) + 0x20
/-- `LCH_DP_STATUS.POL_INV`, RO. -/
def LCH_DP_STATUS.POL_INV (h : Nat) : Cell := ⟨(LCH_DP_STATUS.off h), 31, 1, 0⟩
/-- `LCH_DP_STATUS.ALIGN_STATE`, RO. -/
def LCH_DP_STATUS.ALIGN_STATE (h : Nat) : Cell := ⟨(LCH_DP_STATUS.off h), 24, 4, 0⟩
/-- `LCH_DP_STATUS.LINK_LANE`, RO. -/
def LCH_DP_STATUS.LINK_LANE (h : Nat) : Cell := ⟨(LCH_DP_STATUS.off h), 19, 5, 31⟩
/-- `LCH_DP_STATUS.SKEW`, RO. -/
def LCH_DP_STATUS.SKEW (h : Nat) : Cell := ⟨(LCH_DP_STATUS.off h), 8, 8, 0⟩
/-- `LCH_DP_STATUS.EB_FILL`, RO. -/
def LCH_DP_STATUS.EB_FILL (h : Nat) : Cell := ⟨(LCH_DP_STATUS.off h), 0, 8, 0⟩
/-- The fields of `LCH_DP_STATUS`. -/
def LCH_DP_STATUS.fields (h : Nat) : List Field :=
  [⟨LCH_DP_STATUS.POL_INV h, .ro, .any⟩,
   ⟨LCH_DP_STATUS.ALIGN_STATE h, .ro, .any⟩,
   ⟨LCH_DP_STATUS.LINK_LANE h, .ro, .any⟩,
   ⟨LCH_DP_STATUS.SKEW h, .ro, .any⟩,
   ⟨LCH_DP_STATUS.EB_FILL h, .ro, .any⟩]

/-- The offset of `PRT_SKP_ADJ` (03, Table 12, R94). -/
def PRT_SKP_ADJ.off (q : Nat) : Nat := 0x100000 + 0x1000 * (q / 2 % 64) + 0xC + 4 * (q % 2)
/-- `PRT_SKP_ADJ.ADD`, RO. -/
def PRT_SKP_ADJ.ADD (q : Nat) : Cell := ⟨(PRT_SKP_ADJ.off q), 16, 16, 0⟩
/-- `PRT_SKP_ADJ.DEL`, RO. -/
def PRT_SKP_ADJ.DEL (q : Nat) : Cell := ⟨(PRT_SKP_ADJ.off q), 0, 16, 0⟩
/-- The fields of `PRT_SKP_ADJ`. -/
def PRT_SKP_ADJ.fields (q : Nat) : List Field :=
  [⟨PRT_SKP_ADJ.ADD q, .ro, .any⟩,
   ⟨PRT_SKP_ADJ.DEL q, .ro, .any⟩]

/-- The offset of `PRT_TRN_CTRL` (04, Table 9, R121). -/
def PRT_TRN_CTRL.off (p : Nat) : Nat := 0x100000 + 0x1000 * (p % 64) + 0x20
/-- `PRT_TRN_CTRL.RETRAIN`, WO. -/
def PRT_TRN_CTRL.RETRAIN (p : Nat) : Cell := ⟨(PRT_TRN_CTRL.off p), 31, 1, 0⟩
/-- `PRT_TRN_CTRL.UPSTREAM`, RWT. -/
def PRT_TRN_CTRL.UPSTREAM (p : Nat) : Cell := ⟨(PRT_TRN_CTRL.off p), 22, 2, 0⟩
/-- `PRT_TRN_CTRL.NONFLIT_LIMIT`, RWT. -/
def PRT_TRN_CTRL.NONFLIT_LIMIT (p : Nat) : Cell := ⟨(PRT_TRN_CTRL.off p), 16, 4, 3⟩
/-- `PRT_TRN_CTRL.EQ_CANDIDATES`, RWT. -/
def PRT_TRN_CTRL.EQ_CANDIDATES (p : Nat) : Cell := ⟨(PRT_TRN_CTRL.off p), 12, 4, 6⟩
/-- The fields of `PRT_TRN_CTRL`. -/
def PRT_TRN_CTRL.fields (p : Nat) : List Field :=
  [⟨PRT_TRN_CTRL.RETRAIN p, .wo, .any⟩,
   ⟨PRT_TRN_CTRL.UPSTREAM p, .rwt, (.upTo 2)⟩,
   ⟨PRT_TRN_CTRL.NONFLIT_LIMIT p, .rwt, (.clamp 1 15)⟩,
   ⟨PRT_TRN_CTRL.EQ_CANDIDATES p, .rwt, (.clamp 1 6)⟩]

/-- The offset of `PRT_TRN_STATUS` (04, Table 10, R121). -/
def PRT_TRN_STATUS.off (p : Nat) : Nat := 0x100000 + 0x1000 * (p % 64) + 0x24
/-- `PRT_TRN_STATUS.STATE`, RO. -/
def PRT_TRN_STATUS.STATE (p : Nat) : Cell := ⟨(PRT_TRN_STATUS.off p), 28, 4, 0⟩
/-- `PRT_TRN_STATUS.EQ_PHASE`, RO. -/
def PRT_TRN_STATUS.EQ_PHASE (p : Nat) : Cell := ⟨(PRT_TRN_STATUS.off p), 24, 4, 15⟩
/-- `PRT_TRN_STATUS.EQ_SLOT`, RO. -/
def PRT_TRN_STATUS.EQ_SLOT (p : Nat) : Cell := ⟨(PRT_TRN_STATUS.off p), 20, 4, 15⟩
/-- `PRT_TRN_STATUS.UP_SIDE`, RO. -/
def PRT_TRN_STATUS.UP_SIDE (p : Nat) : Cell := ⟨(PRT_TRN_STATUS.off p), 18, 2, 0⟩
/-- `PRT_TRN_STATUS.RETIMER_POS`, RO. -/
def PRT_TRN_STATUS.RETIMER_POS (p : Nat) : Cell := ⟨(PRT_TRN_STATUS.off p), 16, 2, 0⟩
/-- `PRT_TRN_STATUS.CXL`, RO. -/
def PRT_TRN_STATUS.CXL (p : Nat) : Cell := ⟨(PRT_TRN_STATUS.off p), 15, 1, 0⟩
/-- `PRT_TRN_STATUS.L0P`, RO. -/
def PRT_TRN_STATUS.L0P (p : Nat) : Cell := ⟨(PRT_TRN_STATUS.off p), 14, 1, 0⟩
/-- `PRT_TRN_STATUS.LP_KIND`, RO. -/
def PRT_TRN_STATUS.LP_KIND (p : Nat) : Cell := ⟨(PRT_TRN_STATUS.off p), 11, 3, 0⟩
/-- `PRT_TRN_STATUS.NEG_WIDTH`, RO. -/
def PRT_TRN_STATUS.NEG_WIDTH (p : Nat) : Cell := ⟨(PRT_TRN_STATUS.off p), 8, 3, 0⟩
/-- `PRT_TRN_STATUS.NONFLIT_COUNT`, RO. -/
def PRT_TRN_STATUS.NONFLIT_COUNT (p : Nat) : Cell := ⟨(PRT_TRN_STATUS.off p), 4, 4, 0⟩
/-- The fields of `PRT_TRN_STATUS`. -/
def PRT_TRN_STATUS.fields (p : Nat) : List Field :=
  [⟨PRT_TRN_STATUS.STATE p, .ro, .any⟩,
   ⟨PRT_TRN_STATUS.EQ_PHASE p, .ro, .any⟩,
   ⟨PRT_TRN_STATUS.EQ_SLOT p, .ro, .any⟩,
   ⟨PRT_TRN_STATUS.UP_SIDE p, .ro, .any⟩,
   ⟨PRT_TRN_STATUS.RETIMER_POS p, .ro, .any⟩,
   ⟨PRT_TRN_STATUS.CXL p, .ro, .any⟩,
   ⟨PRT_TRN_STATUS.L0P p, .ro, .any⟩,
   ⟨PRT_TRN_STATUS.LP_KIND p, .ro, .any⟩,
   ⟨PRT_TRN_STATUS.NEG_WIDTH p, .ro, .any⟩,
   ⟨PRT_TRN_STATUS.NONFLIT_COUNT p, .ro, .any⟩]

/-- The offset of `PRT_TRN_EVENTS` (04, Table 11, R121). -/
def PRT_TRN_EVENTS.off (p : Nat) : Nat := 0x100000 + 0x1000 * (p % 64) + 0x28
/-- `PRT_TRN_EVENTS.PARTNER_LOST_A`, RW1C. -/
def PRT_TRN_EVENTS.PARTNER_LOST_A (p : Nat) : Cell := ⟨(PRT_TRN_EVENTS.off p), 31, 1, 0⟩
/-- `PRT_TRN_EVENTS.PARTNER_LOST_B`, RW1C. -/
def PRT_TRN_EVENTS.PARTNER_LOST_B (p : Nat) : Cell := ⟨(PRT_TRN_EVENTS.off p), 30, 1, 0⟩
/-- `PRT_TRN_EVENTS.TRN_TIMEOUT`, RW1C. -/
def PRT_TRN_EVENTS.TRN_TIMEOUT (p : Nat) : Cell := ⟨(PRT_TRN_EVENTS.off p), 29, 1, 0⟩
/-- `PRT_TRN_EVENTS.NONFLIT_REFUSED`, RW1C. -/
def PRT_TRN_EVENTS.NONFLIT_REFUSED (p : Nat) : Cell := ⟨(PRT_TRN_EVENTS.off p), 28, 1, 0⟩
/-- `PRT_TRN_EVENTS.LOOPBACK_REFUSED`, RW1C. -/
def PRT_TRN_EVENTS.LOOPBACK_REFUSED (p : Nat) : Cell := ⟨(PRT_TRN_EVENTS.off p), 27, 1, 0⟩
/-- `PRT_TRN_EVENTS.EQ_REQ_REJECTED`, RW1C. -/
def PRT_TRN_EVENTS.EQ_REQ_REJECTED (p : Nat) : Cell := ⟨(PRT_TRN_EVENTS.off p), 26, 1, 0⟩
/-- `PRT_TRN_EVENTS.EQ_BELOW_TARGET`, RW1C. -/
def PRT_TRN_EVENTS.EQ_BELOW_TARGET (p : Nat) : Cell := ⟨(PRT_TRN_EVENTS.off p), 25, 1, 0⟩
/-- `PRT_TRN_EVENTS.DETECT_CNT`, RO. -/
def PRT_TRN_EVENTS.DETECT_CNT (p : Nat) : Cell := ⟨(PRT_TRN_EVENTS.off p), 16, 8, 0⟩
/-- `PRT_TRN_EVENTS.RECOVERY_CNT`, RO. -/
def PRT_TRN_EVENTS.RECOVERY_CNT (p : Nat) : Cell := ⟨(PRT_TRN_EVENTS.off p), 8, 8, 0⟩
/-- `PRT_TRN_EVENTS.RATE_CHG_CNT`, RO. -/
def PRT_TRN_EVENTS.RATE_CHG_CNT (p : Nat) : Cell := ⟨(PRT_TRN_EVENTS.off p), 0, 8, 0⟩
/-- The fields of `PRT_TRN_EVENTS`. -/
def PRT_TRN_EVENTS.fields (p : Nat) : List Field :=
  [⟨PRT_TRN_EVENTS.PARTNER_LOST_A p, .rw1c, .any⟩,
   ⟨PRT_TRN_EVENTS.PARTNER_LOST_B p, .rw1c, .any⟩,
   ⟨PRT_TRN_EVENTS.TRN_TIMEOUT p, .rw1c, .any⟩,
   ⟨PRT_TRN_EVENTS.NONFLIT_REFUSED p, .rw1c, .any⟩,
   ⟨PRT_TRN_EVENTS.LOOPBACK_REFUSED p, .rw1c, .any⟩,
   ⟨PRT_TRN_EVENTS.EQ_REQ_REJECTED p, .rw1c, .any⟩,
   ⟨PRT_TRN_EVENTS.EQ_BELOW_TARGET p, .rw1c, .any⟩,
   ⟨PRT_TRN_EVENTS.DETECT_CNT p, .ro, .any⟩,
   ⟨PRT_TRN_EVENTS.RECOVERY_CNT p, .ro, .any⟩,
   ⟨PRT_TRN_EVENTS.RATE_CHG_CNT p, .ro, .any⟩]

/-- The offset of `PRT_SEG_CTRL` (05, Table 10, R162). -/
def PRT_SEG_CTRL.off (q : Nat) : Nat := 0x100000 + 0x1000 * (q / 2 % 64) + 0x40 + 4 * (q % 2)
/-- `PRT_SEG_CTRL.RETRAIN`, WO. -/
def PRT_SEG_CTRL.RETRAIN (q : Nat) : Cell := ⟨(PRT_SEG_CTRL.off q), 31, 1, 0⟩
/-- `PRT_SEG_CTRL.LEGACY`, RWT. -/
def PRT_SEG_CTRL.LEGACY (q : Nat) : Cell := ⟨(PRT_SEG_CTRL.off q), 30, 1, 0⟩
/-- `PRT_SEG_CTRL.RTT_MAX`, RWT. -/
def PRT_SEG_CTRL.RTT_MAX (q : Nat) : Cell := ⟨(PRT_SEG_CTRL.off q), 20, 5, 25⟩
/-- `PRT_SEG_CTRL.SLOTS`, RO. -/
def PRT_SEG_CTRL.SLOTS (q : Nat) : Cell := ⟨(PRT_SEG_CTRL.off q), 0, 14, 0⟩
/-- The fields of `PRT_SEG_CTRL`. -/
def PRT_SEG_CTRL.fields (q : Nat) : List Field :=
  [⟨PRT_SEG_CTRL.RETRAIN q, .wo, .any⟩,
   ⟨PRT_SEG_CTRL.LEGACY q, .rwt, .any⟩,
   ⟨PRT_SEG_CTRL.RTT_MAX q, .rwt, (.clamp 5 25)⟩,
   ⟨PRT_SEG_CTRL.SLOTS q, .ro, .any⟩]

/-- The offset of `PRT_SEG_STATUS` (05, Table 11, R163). -/
def PRT_SEG_STATUS.off (q : Nat) : Nat := 0x100000 + 0x1000 * (q / 2 % 64) + 0x48 + 4 * (q % 2)
/-- `PRT_SEG_STATUS.STATE`, RO. -/
def PRT_SEG_STATUS.STATE (q : Nat) : Cell := ⟨(PRT_SEG_STATUS.off q), 28, 4, 0⟩
/-- `PRT_SEG_STATUS.LAST_FAIL`, RO. -/
def PRT_SEG_STATUS.LAST_FAIL (q : Nat) : Cell := ⟨(PRT_SEG_STATUS.off q), 24, 4, 0⟩
/-- `PRT_SEG_STATUS.ATTEMPTS`, RO. -/
def PRT_SEG_STATUS.ATTEMPTS (q : Nat) : Cell := ⟨(PRT_SEG_STATUS.off q), 20, 4, 0⟩
/-- `PRT_SEG_STATUS.RTT`, RO. -/
def PRT_SEG_STATUS.RTT (q : Nat) : Cell := ⟨(PRT_SEG_STATUS.off q), 12, 8, 0⟩
/-- `PRT_SEG_STATUS.PARTNER`, RO. -/
def PRT_SEG_STATUS.PARTNER (q : Nat) : Cell := ⟨(PRT_SEG_STATUS.off q), 10, 2, 0⟩
/-- `PRT_SEG_STATUS.HOPS`, RO. -/
def PRT_SEG_STATUS.HOPS (q : Nat) : Cell := ⟨(PRT_SEG_STATUS.off q), 7, 3, 0⟩
/-- `PRT_SEG_STATUS.CHAIN_TOO_LONG`, RW1C. -/
def PRT_SEG_STATUS.CHAIN_TOO_LONG (q : Nat) : Cell := ⟨(PRT_SEG_STATUS.off q), 6, 1, 0⟩
/-- `PRT_SEG_STATUS.PARTNER_LOST`, RW1C. -/
def PRT_SEG_STATUS.PARTNER_LOST (q : Nat) : Cell := ⟨(PRT_SEG_STATUS.off q), 5, 1, 0⟩
/-- `PRT_SEG_STATUS.RTT_OVER`, RW1C. -/
def PRT_SEG_STATUS.RTT_OVER (q : Nat) : Cell := ⟨(PRT_SEG_STATUS.off q), 4, 1, 0⟩
/-- `PRT_SEG_STATUS.REPLAY_FULL`, RW1C. -/
def PRT_SEG_STATUS.REPLAY_FULL (q : Nat) : Cell := ⟨(PRT_SEG_STATUS.off q), 3, 1, 0⟩
/-- `PRT_SEG_STATUS.FLIT_DROP`, RW1C. -/
def PRT_SEG_STATUS.FLIT_DROP (q : Nat) : Cell := ⟨(PRT_SEG_STATUS.off q), 2, 1, 0⟩
/-- `PRT_SEG_STATUS.STUFF_HIGH`, RW1C. -/
def PRT_SEG_STATUS.STUFF_HIGH (q : Nat) : Cell := ⟨(PRT_SEG_STATUS.off q), 1, 1, 0⟩
/-- `PRT_SEG_STATUS.RETRY_EXHAUSTED`, RW1C. -/
def PRT_SEG_STATUS.RETRY_EXHAUSTED (q : Nat) : Cell := ⟨(PRT_SEG_STATUS.off q), 0, 1, 0⟩
/-- The fields of `PRT_SEG_STATUS`. -/
def PRT_SEG_STATUS.fields (q : Nat) : List Field :=
  [⟨PRT_SEG_STATUS.STATE q, .ro, .any⟩,
   ⟨PRT_SEG_STATUS.LAST_FAIL q, .ro, .any⟩,
   ⟨PRT_SEG_STATUS.ATTEMPTS q, .ro, .any⟩,
   ⟨PRT_SEG_STATUS.RTT q, .ro, .any⟩,
   ⟨PRT_SEG_STATUS.PARTNER q, .ro, .any⟩,
   ⟨PRT_SEG_STATUS.HOPS q, .ro, .any⟩,
   ⟨PRT_SEG_STATUS.CHAIN_TOO_LONG q, .rw1c, .any⟩,
   ⟨PRT_SEG_STATUS.PARTNER_LOST q, .rw1c, .any⟩,
   ⟨PRT_SEG_STATUS.RTT_OVER q, .rw1c, .any⟩,
   ⟨PRT_SEG_STATUS.REPLAY_FULL q, .rw1c, .any⟩,
   ⟨PRT_SEG_STATUS.FLIT_DROP q, .rw1c, .any⟩,
   ⟨PRT_SEG_STATUS.STUFF_HIGH q, .rw1c, .any⟩,
   ⟨PRT_SEG_STATUS.RETRY_EXHAUSTED q, .rw1c, .any⟩]

/-- The offset of `PRT_SEG_CNT` (05, Table 12, R164). -/
def PRT_SEG_CNT.off (q : Nat) : Nat := 0x100000 + 0x1000 * (q / 2 % 64) + 0x50 + 4 * (q % 2)
/-- `PRT_SEG_CNT.NAK_SENT`, RO. -/
def PRT_SEG_CNT.NAK_SENT (q : Nat) : Cell := ⟨(PRT_SEG_CNT.off q), 16, 16, 0⟩
/-- `PRT_SEG_CNT.REPLAYS`, RO. -/
def PRT_SEG_CNT.REPLAYS (q : Nat) : Cell := ⟨(PRT_SEG_CNT.off q), 0, 16, 0⟩
/-- The fields of `PRT_SEG_CNT`. -/
def PRT_SEG_CNT.fields (q : Nat) : List Field :=
  [⟨PRT_SEG_CNT.NAK_SENT q, .ro, .any⟩,
   ⟨PRT_SEG_CNT.REPLAYS q, .ro, .any⟩]

/-- The offset of `LCH_SEG_FEC` (05, Table 13, R165). -/
def LCH_SEG_FEC.off (h : Nat) : Nat := 0x200000 + 0x100 * (h / 2 % 256) + 0x40 * (h % 2) + 0x24
/-- `LCH_SEG_FEC.CORR_SYM`, RO. -/
def LCH_SEG_FEC.CORR_SYM (h : Nat) : Cell := ⟨(LCH_SEG_FEC.off h), 16, 16, 0⟩
/-- `LCH_SEG_FEC.UNCORR`, RO. -/
def LCH_SEG_FEC.UNCORR (h : Nat) : Cell := ⟨(LCH_SEG_FEC.off h), 8, 8, 0⟩
/-- `LCH_SEG_FEC.SEG_POL_INV`, RO. -/
def LCH_SEG_FEC.SEG_POL_INV (h : Nat) : Cell := ⟨(LCH_SEG_FEC.off h), 7, 1, 0⟩
/-- `LCH_SEG_FEC.FRAME_LOCK`, RO. -/
def LCH_SEG_FEC.FRAME_LOCK (h : Nat) : Cell := ⟨(LCH_SEG_FEC.off h), 6, 1, 0⟩
/-- `LCH_SEG_FEC.HEARD`, RO. -/
def LCH_SEG_FEC.HEARD (h : Nat) : Cell := ⟨(LCH_SEG_FEC.off h), 0, 5, 31⟩
/-- The fields of `LCH_SEG_FEC`. -/
def LCH_SEG_FEC.fields (h : Nat) : List Field :=
  [⟨LCH_SEG_FEC.CORR_SYM h, .ro, .any⟩,
   ⟨LCH_SEG_FEC.UNCORR h, .ro, .any⟩,
   ⟨LCH_SEG_FEC.SEG_POL_INV h, .ro, .any⟩,
   ⟨LCH_SEG_FEC.FRAME_LOCK h, .ro, .any⟩,
   ⟨LCH_SEG_FEC.HEARD h, .ro, .any⟩]

/-- The offset of `PRT_TRL_CTRL` (06, Table 11, R195). -/
def PRT_TRL_CTRL.off (q : Nat) : Nat := 0x100000 + 0x1000 * (q / 2 % 64) + 0x60 + 4 * (q % 2)
/-- `PRT_TRL_CTRL.TRELLIS_OFF`, RWT. -/
def PRT_TRL_CTRL.TRELLIS_OFF (q : Nat) : Cell := ⟨(PRT_TRL_CTRL.off q), 31, 1, 0⟩
/-- `PRT_TRL_CTRL.POLICY`, RWT. -/
def PRT_TRL_CTRL.POLICY (q : Nat) : Cell := ⟨(PRT_TRL_CTRL.off q), 30, 1, 0⟩
/-- `PRT_TRL_CTRL.MIN_WIDTH`, RWT. -/
def PRT_TRL_CTRL.MIN_WIDTH (q : Nat) : Cell := ⟨(PRT_TRL_CTRL.off q), 25, 5, 1⟩
/-- `PRT_TRL_CTRL.COMMIT_HOLD`, RWT. -/
def PRT_TRL_CTRL.COMMIT_HOLD (q : Nat) : Cell := ⟨(PRT_TRL_CTRL.off q), 20, 4, 2⟩
/-- `PRT_TRL_CTRL.UNCORR_LIMIT`, RWT. -/
def PRT_TRL_CTRL.UNCORR_LIMIT (q : Nat) : Cell := ⟨(PRT_TRL_CTRL.off q), 8, 8, 4⟩
/-- `PRT_TRL_CTRL.CORR_LIMIT`, RWT. -/
def PRT_TRL_CTRL.CORR_LIMIT (q : Nat) : Cell := ⟨(PRT_TRL_CTRL.off q), 0, 8, 32⟩
/-- The fields of `PRT_TRL_CTRL`. -/
def PRT_TRL_CTRL.fields (q : Nat) : List Field :=
  [⟨PRT_TRL_CTRL.TRELLIS_OFF q, .rwt, .any⟩,
   ⟨PRT_TRL_CTRL.POLICY q, .rwt, .any⟩,
   ⟨PRT_TRL_CTRL.MIN_WIDTH q, .rwt, (.clamp 1 18)⟩,
   ⟨PRT_TRL_CTRL.COMMIT_HOLD q, .rwt, (.clamp 0 8)⟩,
   ⟨PRT_TRL_CTRL.UNCORR_LIMIT q, .rwt, (.clamp 1 255)⟩,
   ⟨PRT_TRL_CTRL.CORR_LIMIT q, .rwt, (.clamp 1 255)⟩]

/-- The offset of `PRT_TRL_STATUS` (06, Table 12, R196). -/
def PRT_TRL_STATUS.off (q : Nat) : Nat := 0x100000 + 0x1000 * (q / 2 % 64) + 0x68 + 4 * (q % 2)
/-- `PRT_TRL_STATUS.STEER_STATE`, RO. -/
def PRT_TRL_STATUS.STEER_STATE (q : Nat) : Cell := ⟨(PRT_TRL_STATUS.off q), 28, 4, 0⟩
/-- `PRT_TRL_STATUS.XMIT_STATE`, RO. -/
def PRT_TRL_STATUS.XMIT_STATE (q : Nat) : Cell := ⟨(PRT_TRL_STATUS.off q), 24, 4, 0⟩
/-- `PRT_TRL_STATUS.RX_EPOCH`, RO. -/
def PRT_TRL_STATUS.RX_EPOCH (q : Nat) : Cell := ⟨(PRT_TRL_STATUS.off q), 16, 8, 0⟩
/-- `PRT_TRL_STATUS.TX_EPOCH`, RO. -/
def PRT_TRL_STATUS.TX_EPOCH (q : Nat) : Cell := ⟨(PRT_TRL_STATUS.off q), 8, 8, 0⟩
/-- `PRT_TRL_STATUS.READY_SPARES`, RO. -/
def PRT_TRL_STATUS.READY_SPARES (q : Nat) : Cell := ⟨(PRT_TRL_STATUS.off q), 6, 2, 0⟩
/-- `PRT_TRL_STATUS.DEGRADED`, RO. -/
def PRT_TRL_STATUS.DEGRADED (q : Nat) : Cell := ⟨(PRT_TRL_STATUS.off q), 5, 1, 0⟩
/-- `PRT_TRL_STATUS.NO_SPARE`, RW1C. -/
def PRT_TRL_STATUS.NO_SPARE (q : Nat) : Cell := ⟨(PRT_TRL_STATUS.off q), 4, 1, 0⟩
/-- `PRT_TRL_STATUS.PORT_FAULT`, RW1C. -/
def PRT_TRL_STATUS.PORT_FAULT (q : Nat) : Cell := ⟨(PRT_TRL_STATUS.off q), 3, 1, 0⟩
/-- `PRT_TRL_STATUS.REMAPPED`, RW1C. -/
def PRT_TRL_STATUS.REMAPPED (q : Nat) : Cell := ⟨(PRT_TRL_STATUS.off q), 2, 1, 0⟩
/-- `PRT_TRL_STATUS.CANCELLED`, RW1C. -/
def PRT_TRL_STATUS.CANCELLED (q : Nat) : Cell := ⟨(PRT_TRL_STATUS.off q), 1, 1, 0⟩
/-- `PRT_TRL_STATUS.SPARE_LOST`, RW1C. -/
def PRT_TRL_STATUS.SPARE_LOST (q : Nat) : Cell := ⟨(PRT_TRL_STATUS.off q), 0, 1, 0⟩
/-- The fields of `PRT_TRL_STATUS`. -/
def PRT_TRL_STATUS.fields (q : Nat) : List Field :=
  [⟨PRT_TRL_STATUS.STEER_STATE q, .ro, .any⟩,
   ⟨PRT_TRL_STATUS.XMIT_STATE q, .ro, .any⟩,
   ⟨PRT_TRL_STATUS.RX_EPOCH q, .ro, .any⟩,
   ⟨PRT_TRL_STATUS.TX_EPOCH q, .ro, .any⟩,
   ⟨PRT_TRL_STATUS.READY_SPARES q, .ro, .any⟩,
   ⟨PRT_TRL_STATUS.DEGRADED q, .ro, .any⟩,
   ⟨PRT_TRL_STATUS.NO_SPARE q, .rw1c, .any⟩,
   ⟨PRT_TRL_STATUS.PORT_FAULT q, .rw1c, .any⟩,
   ⟨PRT_TRL_STATUS.REMAPPED q, .rw1c, .any⟩,
   ⟨PRT_TRL_STATUS.CANCELLED q, .rw1c, .any⟩,
   ⟨PRT_TRL_STATUS.SPARE_LOST q, .rw1c, .any⟩]

/-- The offset of `PRT_TRL_CNT` (06, Table 13, R197). -/
def PRT_TRL_CNT.off (q : Nat) : Nat := 0x100000 + 0x1000 * (q / 2 % 64) + 0x70 + 4 * (q % 2)
/-- `PRT_TRL_CNT.PROPOSE_CNT`, RO. -/
def PRT_TRL_CNT.PROPOSE_CNT (q : Nat) : Cell := ⟨(PRT_TRL_CNT.off q), 24, 8, 0⟩
/-- `PRT_TRL_CNT.COMMIT_CNT`, RO. -/
def PRT_TRL_CNT.COMMIT_CNT (q : Nat) : Cell := ⟨(PRT_TRL_CNT.off q), 16, 8, 0⟩
/-- `PRT_TRL_CNT.CANCEL_CNT`, RO. -/
def PRT_TRL_CNT.CANCEL_CNT (q : Nat) : Cell := ⟨(PRT_TRL_CNT.off q), 8, 8, 0⟩
/-- `PRT_TRL_CNT.REFUSE_CNT`, RO. -/
def PRT_TRL_CNT.REFUSE_CNT (q : Nat) : Cell := ⟨(PRT_TRL_CNT.off q), 0, 8, 0⟩
/-- The fields of `PRT_TRL_CNT`. -/
def PRT_TRL_CNT.fields (q : Nat) : List Field :=
  [⟨PRT_TRL_CNT.PROPOSE_CNT q, .ro, .any⟩,
   ⟨PRT_TRL_CNT.COMMIT_CNT q, .ro, .any⟩,
   ⟨PRT_TRL_CNT.CANCEL_CNT q, .ro, .any⟩,
   ⟨PRT_TRL_CNT.REFUSE_CNT q, .ro, .any⟩]

/-- The offset of `PRT_TRL_CMD` (06, Table 14, R198). -/
def PRT_TRL_CMD.off (q : Nat) : Nat := 0x100000 + 0x1000 * (q / 2 % 64) + 0x78 + 4 * (q % 2)
/-- `PRT_TRL_CMD.GO`, WO. -/
def PRT_TRL_CMD.GO (q : Nat) : Cell := ⟨(PRT_TRL_CMD.off q), 31, 1, 0⟩
/-- `PRT_TRL_CMD.KIND`, WO. -/
def PRT_TRL_CMD.KIND (q : Nat) : Cell := ⟨(PRT_TRL_CMD.off q), 29, 2, 0⟩
/-- `PRT_TRL_CMD.LANE`, WO. -/
def PRT_TRL_CMD.LANE (q : Nat) : Cell := ⟨(PRT_TRL_CMD.off q), 24, 5, 0⟩
/-- `PRT_TRL_CMD.SPARE`, WO. -/
def PRT_TRL_CMD.SPARE (q : Nat) : Cell := ⟨(PRT_TRL_CMD.off q), 16, 5, 0⟩
/-- The fields of `PRT_TRL_CMD`. -/
def PRT_TRL_CMD.fields (q : Nat) : List Field :=
  [⟨PRT_TRL_CMD.GO q, .wo, .any⟩,
   ⟨PRT_TRL_CMD.KIND q, .wo, .any⟩,
   ⟨PRT_TRL_CMD.LANE q, .wo, .any⟩,
   ⟨PRT_TRL_CMD.SPARE q, .wo, .any⟩]

/-- The offset of `LCH_LANE_FAULT` (06, Table 15, R199). -/
def LCH_LANE_FAULT.off (h : Nat) : Nat := 0x200000 + 0x100 * (h / 2 % 256) + 0x40 * (h % 2) + 0x28
/-- `LCH_LANE_FAULT.STATUS`, RO. -/
def LCH_LANE_FAULT.STATUS (h : Nat) : Cell := ⟨(LCH_LANE_FAULT.off h), 28, 4, 15⟩
/-- `LCH_LANE_FAULT.LAST_REASON`, RO. -/
def LCH_LANE_FAULT.LAST_REASON (h : Nat) : Cell := ⟨(LCH_LANE_FAULT.off h), 24, 4, 0⟩
/-- `LCH_LANE_FAULT.TX_LOGICAL`, RO. -/
def LCH_LANE_FAULT.TX_LOGICAL (h : Nat) : Cell := ⟨(LCH_LANE_FAULT.off h), 19, 5, 31⟩
/-- `LCH_LANE_FAULT.RX_LOGICAL`, RO. -/
def LCH_LANE_FAULT.RX_LOGICAL (h : Nat) : Cell := ⟨(LCH_LANE_FAULT.off h), 14, 5, 31⟩
/-- `LCH_LANE_FAULT.FAULT_NEW`, RW1C. -/
def LCH_LANE_FAULT.FAULT_NEW (h : Nat) : Cell := ⟨(LCH_LANE_FAULT.off h), 13, 1, 0⟩
/-- `LCH_LANE_FAULT.FAULT_CNT`, RO. -/
def LCH_LANE_FAULT.FAULT_CNT (h : Nat) : Cell := ⟨(LCH_LANE_FAULT.off h), 0, 8, 0⟩
/-- The fields of `LCH_LANE_FAULT`. -/
def LCH_LANE_FAULT.fields (h : Nat) : List Field :=
  [⟨LCH_LANE_FAULT.STATUS h, .ro, .any⟩,
   ⟨LCH_LANE_FAULT.LAST_REASON h, .ro, .any⟩,
   ⟨LCH_LANE_FAULT.TX_LOGICAL h, .ro, .any⟩,
   ⟨LCH_LANE_FAULT.RX_LOGICAL h, .ro, .any⟩,
   ⟨LCH_LANE_FAULT.FAULT_NEW h, .rw1c, .any⟩,
   ⟨LCH_LANE_FAULT.FAULT_CNT h, .ro, .any⟩]

/-- The offset of `CAL_POLICY` (07, Table 7, R222). -/
def CAL_POLICY.off : Nat := 0x10000
/-- `CAL_POLICY.AUTO_RUN`, RWT. -/
def CAL_POLICY.AUTO_RUN : Cell := ⟨CAL_POLICY.off, 31, 1, 1⟩
/-- `CAL_POLICY.AUTO_STORE`, RWT. -/
def CAL_POLICY.AUTO_STORE : Cell := ⟨CAL_POLICY.off, 30, 1, 1⟩
/-- `CAL_POLICY.RUN_INTERVAL`, RWT. -/
def CAL_POLICY.RUN_INTERVAL : Cell := ⟨CAL_POLICY.off, 16, 8, 60⟩
/-- `CAL_POLICY.TEMP_STEP`, RWT. -/
def CAL_POLICY.TEMP_STEP : Cell := ⟨CAL_POLICY.off, 12, 4, 5⟩
/-- `CAL_POLICY.STORE_INTERVAL`, RWT. -/
def CAL_POLICY.STORE_INTERVAL : Cell := ⟨CAL_POLICY.off, 0, 8, 6⟩
/-- The fields of `CAL_POLICY`. -/
def CAL_POLICY.fields : List Field :=
  [⟨CAL_POLICY.AUTO_RUN, .rwt, .any⟩,
   ⟨CAL_POLICY.AUTO_STORE, .rwt, .any⟩,
   ⟨CAL_POLICY.RUN_INTERVAL, .rwt, (.clamp 1 255)⟩,
   ⟨CAL_POLICY.TEMP_STEP, .rwt, (.clamp 2 15)⟩,
   ⟨CAL_POLICY.STORE_INTERVAL, .rwt, (.clamp 1 144)⟩]

/-- The offset of `CAL_CMD` (07, Table 8, R223). -/
def CAL_CMD.off : Nat := 0x10004
/-- `CAL_CMD.GO`, WO. -/
def CAL_CMD.GO : Cell := ⟨CAL_CMD.off, 31, 1, 0⟩
/-- `CAL_CMD.ACTION`, WO. -/
def CAL_CMD.ACTION : Cell := ⟨CAL_CMD.off, 28, 3, 0⟩
/-- `CAL_CMD.SCOPE`, WO. -/
def CAL_CMD.SCOPE : Cell := ⟨CAL_CMD.off, 26, 2, 0⟩
/-- `CAL_CMD.HALF`, WO. -/
def CAL_CMD.HALF : Cell := ⟨CAL_CMD.off, 25, 1, 0⟩
/-- `CAL_CMD.INDEX`, WO. -/
def CAL_CMD.INDEX : Cell := ⟨CAL_CMD.off, 16, 8, 0⟩
/-- The fields of `CAL_CMD`. -/
def CAL_CMD.fields : List Field :=
  [⟨CAL_CMD.GO, .wo, .any⟩,
   ⟨CAL_CMD.ACTION, .wo, .any⟩,
   ⟨CAL_CMD.SCOPE, .wo, .any⟩,
   ⟨CAL_CMD.HALF, .wo, .any⟩,
   ⟨CAL_CMD.INDEX, .wo, .any⟩]

/-- The offset of `CAL_STATUS` (07, Table 9, R223). -/
def CAL_STATUS.off : Nat := 0x10008
/-- `CAL_STATUS.STORE_BUSY`, RO. -/
def CAL_STATUS.STORE_BUSY : Cell := ⟨CAL_STATUS.off, 31, 1, 0⟩
/-- `CAL_STATUS.STORE_RESULT`, RO. -/
def CAL_STATUS.STORE_RESULT : Cell := ⟨CAL_STATUS.off, 28, 3, 0⟩
/-- `CAL_STATUS.BOOT_COPY`, RO. -/
def CAL_STATUS.BOOT_COPY : Cell := ⟨CAL_STATUS.off, 26, 2, 0⟩
/-- `CAL_STATUS.DIRTY`, RO. -/
def CAL_STATUS.DIRTY : Cell := ⟨CAL_STATUS.off, 25, 1, 0⟩
/-- `CAL_STATUS.RUNS_ACTIVE`, RO. -/
def CAL_STATUS.RUNS_ACTIVE : Cell := ⟨CAL_STATUS.off, 0, 10, 0⟩
/-- The fields of `CAL_STATUS`. -/
def CAL_STATUS.fields : List Field :=
  [⟨CAL_STATUS.STORE_BUSY, .ro, .any⟩,
   ⟨CAL_STATUS.STORE_RESULT, .ro, .any⟩,
   ⟨CAL_STATUS.BOOT_COPY, .ro, .any⟩,
   ⟨CAL_STATUS.DIRTY, .ro, .any⟩,
   ⟨CAL_STATUS.RUNS_ACTIVE, .ro, .any⟩]

/-- The offset of `CAL_GEN` (07, Table 10, R223). -/
def CAL_GEN.off : Nat := 0x1000C
/-- `CAL_GEN.GENERATION`, RO. -/
def CAL_GEN.GENERATION : Cell := ⟨CAL_GEN.off, 0, 32, 0⟩
/-- The fields of `CAL_GEN`. -/
def CAL_GEN.fields : List Field :=
  [⟨CAL_GEN.GENERATION, .ro, .any⟩]

/-- The offset of `CAL_TEMP` (07, Table 11, R223). -/
def CAL_TEMP.off (t : Nat) : Nat := 0x10040 + 4 * (t % 8)
/-- `CAL_TEMP.VALID`, RO. -/
def CAL_TEMP.VALID (t : Nat) : Cell := ⟨(CAL_TEMP.off t), 31, 1, 0⟩
/-- `CAL_TEMP.TEMP`, RO. -/
def CAL_TEMP.TEMP (t : Nat) : Cell := ⟨(CAL_TEMP.off t), 0, 10, 0⟩
/-- The fields of `CAL_TEMP`. -/
def CAL_TEMP.fields (t : Nat) : List Field :=
  [⟨CAL_TEMP.VALID t, .ro, .any⟩,
   ⟨CAL_TEMP.TEMP t, .ro, .any⟩]

/-- The offset of `CAL_RX` (07, Table 12, R223). -/
def CAL_RX.off (h : Nat) : Nat := 0x11000 + 4 * (h % 512)
/-- `CAL_RX.HOLD`, RW. -/
def CAL_RX.HOLD (h : Nat) : Cell := ⟨(CAL_RX.off h), 31, 1, 0⟩
/-- `CAL_RX.LAST_RESULT`, RO. -/
def CAL_RX.LAST_RESULT (h : Nat) : Cell := ⟨(CAL_RX.off h), 24, 4, 0⟩
/-- `CAL_RX.NQ_REASON`, RO. -/
def CAL_RX.NQ_REASON (h : Nat) : Cell := ⟨(CAL_RX.off h), 16, 8, 0⟩
/-- `CAL_RX.APPLIED_TEMP`, RO. -/
def CAL_RX.APPLIED_TEMP (h : Nat) : Cell := ⟨(CAL_RX.off h), 8, 8, 0⟩
/-- `CAL_RX.VALID_POINTS`, RO. -/
def CAL_RX.VALID_POINTS (h : Nat) : Cell := ⟨(CAL_RX.off h), 4, 4, 0⟩
/-- `CAL_RX.RUN_CNT`, RO. -/
def CAL_RX.RUN_CNT (h : Nat) : Cell := ⟨(CAL_RX.off h), 0, 4, 0⟩
/-- The fields of `CAL_RX`. -/
def CAL_RX.fields (h : Nat) : List Field :=
  [⟨CAL_RX.HOLD h, .rw, .any⟩,
   ⟨CAL_RX.LAST_RESULT h, .ro, .any⟩,
   ⟨CAL_RX.NQ_REASON h, .ro, .any⟩,
   ⟨CAL_RX.APPLIED_TEMP h, .ro, .any⟩,
   ⟨CAL_RX.VALID_POINTS h, .ro, .any⟩,
   ⟨CAL_RX.RUN_CNT h, .ro, .any⟩]

/-- The offset of `ENG_CTRL` (08, Table 7, R245). -/
def ENG_CTRL.off : Nat := 0x20000
/-- `ENG_CTRL.SLICE_JOBS_OFF`, RW. -/
def ENG_CTRL.SLICE_JOBS_OFF : Cell := ⟨ENG_CTRL.off, 31, 1, 0⟩
/-- `ENG_CTRL.FAULT_LIMIT`, RW. -/
def ENG_CTRL.FAULT_LIMIT : Cell := ⟨ENG_CTRL.off, 8, 4, 3⟩
/-- `ENG_CTRL.WAIT_LIMIT`, RW. -/
def ENG_CTRL.WAIT_LIMIT : Cell := ⟨ENG_CTRL.off, 0, 8, 100⟩
/-- The fields of `ENG_CTRL`. -/
def ENG_CTRL.fields : List Field :=
  [⟨ENG_CTRL.SLICE_JOBS_OFF, .rw, .any⟩,
   ⟨ENG_CTRL.FAULT_LIMIT, .rw, (.clamp 1 15)⟩,
   ⟨ENG_CTRL.WAIT_LIMIT, .rw, (.clamp 1 255)⟩]

/-- The offset of `ENG_STATUS` (08, Table 8, R246). -/
def ENG_STATUS.off (k : Nat) : Nat := 0x20400 + 4 * (k % 128)
/-- `ENG_STATUS.STATE`, RO. -/
def ENG_STATUS.STATE (k : Nat) : Cell := ⟨(ENG_STATUS.off k), 28, 4, 0⟩
/-- `ENG_STATUS.FAULTS`, RO. -/
def ENG_STATUS.FAULTS (k : Nat) : Cell := ⟨(ENG_STATUS.off k), 24, 4, 0⟩
/-- `ENG_STATUS.LOAD`, RO. -/
def ENG_STATUS.LOAD (k : Nat) : Cell := ⟨(ENG_STATUS.off k), 16, 8, 0⟩
/-- `ENG_STATUS.JOB_BUSY`, RO. -/
def ENG_STATUS.JOB_BUSY (k : Nat) : Cell := ⟨(ENG_STATUS.off k), 15, 1, 0⟩
/-- `ENG_STATUS.JOB_STATE`, RO. -/
def ENG_STATUS.JOB_STATE (k : Nat) : Cell := ⟨(ENG_STATUS.off k), 12, 3, 0⟩
/-- `ENG_STATUS.JOB_RX`, RO. -/
def ENG_STATUS.JOB_RX (k : Nat) : Cell := ⟨(ENG_STATUS.off k), 10, 2, 0⟩
/-- `ENG_STATUS.JOB_KIND`, RO. -/
def ENG_STATUS.JOB_KIND (k : Nat) : Cell := ⟨(ENG_STATUS.off k), 8, 2, 0⟩
/-- `ENG_STATUS.JOB_SLICE`, RO. -/
def ENG_STATUS.JOB_SLICE (k : Nat) : Cell := ⟨(ENG_STATUS.off k), 0, 8, 0⟩
/-- The fields of `ENG_STATUS`. -/
def ENG_STATUS.fields (k : Nat) : List Field :=
  [⟨ENG_STATUS.STATE k, .ro, .any⟩,
   ⟨ENG_STATUS.FAULTS k, .ro, .any⟩,
   ⟨ENG_STATUS.LOAD k, .ro, .any⟩,
   ⟨ENG_STATUS.JOB_BUSY k, .ro, .any⟩,
   ⟨ENG_STATUS.JOB_STATE k, .ro, .any⟩,
   ⟨ENG_STATUS.JOB_RX k, .ro, .any⟩,
   ⟨ENG_STATUS.JOB_KIND k, .ro, .any⟩,
   ⟨ENG_STATUS.JOB_SLICE k, .ro, .any⟩]

/-- The offset of `ENG_PERMIT` (08, Table 9, R247). -/
def ENG_PERMIT.off (s : Nat) : Nat := 0x20800 + 4 * (s % 256)
/-- `ENG_PERMIT.DATA_ON_DATA`, RW. -/
def ENG_PERMIT.DATA_ON_DATA (s : Nat) : Cell := ⟨(ENG_PERMIT.off s), 3, 1, 0⟩
/-- `ENG_PERMIT.MARGIN_DATA`, RW. -/
def ENG_PERMIT.MARGIN_DATA (s : Nat) : Cell := ⟨(ENG_PERMIT.off s), 2, 1, 0⟩
/-- `ENG_PERMIT.MARGIN_SAMPLER`, RW. -/
def ENG_PERMIT.MARGIN_SAMPLER (s : Nat) : Cell := ⟨(ENG_PERMIT.off s), 1, 1, 0⟩
/-- `ENG_PERMIT.EYE_SCAN`, RW. -/
def ENG_PERMIT.EYE_SCAN (s : Nat) : Cell := ⟨(ENG_PERMIT.off s), 0, 1, 0⟩
/-- The fields of `ENG_PERMIT`. -/
def ENG_PERMIT.fields (s : Nat) : List Field :=
  [⟨ENG_PERMIT.DATA_ON_DATA s, .rw, .any⟩,
   ⟨ENG_PERMIT.MARGIN_DATA s, .rw, .any⟩,
   ⟨ENG_PERMIT.MARGIN_SAMPLER s, .rw, .any⟩,
   ⟨ENG_PERMIT.EYE_SCAN s, .rw, .any⟩]

/-- The offset of `ENG_CNT` (08, Table 10, R248). -/
def ENG_CNT.off (k : Nat) : Nat := 0x20600 + 4 * (k % 128)
/-- `ENG_CNT.STEPS`, RO. -/
def ENG_CNT.STEPS (k : Nat) : Cell := ⟨(ENG_CNT.off k), 16, 16, 0⟩
/-- `ENG_CNT.DISPLACED`, RO. -/
def ENG_CNT.DISPLACED (k : Nat) : Cell := ⟨(ENG_CNT.off k), 8, 8, 0⟩
/-- `ENG_CNT.EXPIRED`, RO. -/
def ENG_CNT.EXPIRED (k : Nat) : Cell := ⟨(ENG_CNT.off k), 0, 8, 0⟩
/-- The fields of `ENG_CNT`. -/
def ENG_CNT.fields (k : Nat) : List Field :=
  [⟨ENG_CNT.STEPS k, .ro, .any⟩,
   ⟨ENG_CNT.DISPLACED k, .ro, .any⟩,
   ⟨ENG_CNT.EXPIRED k, .ro, .any⟩]

/-- The offset of `IMG_STATUS` (09, Table 6, R279). -/
def IMG_STATUS.off : Nat := 0x1000
/-- `IMG_STATUS.BOOT_SLOT`, RO. -/
def IMG_STATUS.BOOT_SLOT : Cell := ⟨IMG_STATUS.off, 30, 2, 0⟩
/-- `IMG_STATUS.ENG_FW_SLOT`, RO. -/
def IMG_STATUS.ENG_FW_SLOT : Cell := ⟨IMG_STATUS.off, 28, 2, 0⟩
/-- `IMG_STATUS.RECOVERY`, RO. -/
def IMG_STATUS.RECOVERY : Cell := ⟨IMG_STATUS.off, 27, 1, 0⟩
/-- `IMG_STATUS.CONFIRMED`, RO. -/
def IMG_STATUS.CONFIRMED : Cell := ⟨IMG_STATUS.off, 26, 1, 0⟩
/-- `IMG_STATUS.STRUCT_REFUSED`, RO. -/
def IMG_STATUS.STRUCT_REFUSED : Cell := ⟨IMG_STATUS.off, 25, 1, 0⟩
/-- `IMG_STATUS.STRUCT_REASON`, RO. -/
def IMG_STATUS.STRUCT_REASON : Cell := ⟨IMG_STATUS.off, 20, 5, 0⟩
/-- `IMG_STATUS.ARB_FUSE`, RO. -/
def IMG_STATUS.ARB_FUSE : Cell := ⟨IMG_STATUS.off, 15, 5, 0⟩
/-- `IMG_STATUS.ARB_IMAGE`, RO. -/
def IMG_STATUS.ARB_IMAGE : Cell := ⟨IMG_STATUS.off, 10, 5, 0⟩
/-- `IMG_STATUS.CMD_RESULT`, RO. -/
def IMG_STATUS.CMD_RESULT : Cell := ⟨IMG_STATUS.off, 7, 3, 0⟩
/-- `IMG_STATUS.CMD_BUSY`, RO. -/
def IMG_STATUS.CMD_BUSY : Cell := ⟨IMG_STATUS.off, 6, 1, 0⟩
/-- The fields of `IMG_STATUS`. -/
def IMG_STATUS.fields : List Field :=
  [⟨IMG_STATUS.BOOT_SLOT, .ro, .any⟩,
   ⟨IMG_STATUS.ENG_FW_SLOT, .ro, .any⟩,
   ⟨IMG_STATUS.RECOVERY, .ro, .any⟩,
   ⟨IMG_STATUS.CONFIRMED, .ro, .any⟩,
   ⟨IMG_STATUS.STRUCT_REFUSED, .ro, .any⟩,
   ⟨IMG_STATUS.STRUCT_REASON, .ro, .any⟩,
   ⟨IMG_STATUS.ARB_FUSE, .ro, .any⟩,
   ⟨IMG_STATUS.ARB_IMAGE, .ro, .any⟩,
   ⟨IMG_STATUS.CMD_RESULT, .ro, .any⟩,
   ⟨IMG_STATUS.CMD_BUSY, .ro, .any⟩]

/-- The offset of `IMG_CMD` (09, Table 7, R279). -/
def IMG_CMD.off : Nat := 0x1004
/-- `IMG_CMD.GO`, WO. -/
def IMG_CMD.GO : Cell := ⟨IMG_CMD.off, 31, 1, 0⟩
/-- `IMG_CMD.ACTION`, WO. -/
def IMG_CMD.ACTION : Cell := ⟨IMG_CMD.off, 28, 3, 0⟩
/-- `IMG_CMD.KEY`, WO. -/
def IMG_CMD.KEY : Cell := ⟨IMG_CMD.off, 26, 2, 0⟩
/-- `IMG_CMD.LEN`, WO. -/
def IMG_CMD.LEN : Cell := ⟨IMG_CMD.off, 0, 12, 0⟩
/-- The fields of `IMG_CMD`. -/
def IMG_CMD.fields : List Field :=
  [⟨IMG_CMD.GO, .wo, .any⟩,
   ⟨IMG_CMD.ACTION, .wo, .any⟩,
   ⟨IMG_CMD.KEY, .wo, .any⟩,
   ⟨IMG_CMD.LEN, .wo, .any⟩]

/-- The offset of `TXN_SCOPE_G` (09, Table 8, R279). -/
def TXN_SCOPE_G.off : Nat := 0x2008
/-- `TXN_SCOPE_G.TRACE`, RW. -/
def TXN_SCOPE_G.TRACE : Cell := ⟨TXN_SCOPE_G.off, 5, 1, 0⟩
/-- `TXN_SCOPE_G.DOMAIN`, RW. -/
def TXN_SCOPE_G.DOMAIN : Cell := ⟨TXN_SCOPE_G.off, 4, 1, 0⟩
/-- `TXN_SCOPE_G.POWER_POLICY`, RW. -/
def TXN_SCOPE_G.POWER_POLICY : Cell := ⟨TXN_SCOPE_G.off, 3, 1, 0⟩
/-- `TXN_SCOPE_G.SLICE_DEFAULTS`, RW. -/
def TXN_SCOPE_G.SLICE_DEFAULTS : Cell := ⟨TXN_SCOPE_G.off, 2, 1, 0⟩
/-- `TXN_SCOPE_G.LANE_POLICY`, RW. -/
def TXN_SCOPE_G.LANE_POLICY : Cell := ⟨TXN_SCOPE_G.off, 1, 1, 0⟩
/-- `TXN_SCOPE_G.CHANNEL_TABLE`, RW. -/
def TXN_SCOPE_G.CHANNEL_TABLE : Cell := ⟨TXN_SCOPE_G.off, 0, 1, 0⟩
/-- The fields of `TXN_SCOPE_G`. -/
def TXN_SCOPE_G.fields : List Field :=
  [⟨TXN_SCOPE_G.TRACE, .rw, .any⟩,
   ⟨TXN_SCOPE_G.DOMAIN, .rw, .any⟩,
   ⟨TXN_SCOPE_G.POWER_POLICY, .rw, .any⟩,
   ⟨TXN_SCOPE_G.SLICE_DEFAULTS, .rw, .any⟩,
   ⟨TXN_SCOPE_G.LANE_POLICY, .rw, .any⟩,
   ⟨TXN_SCOPE_G.CHANNEL_TABLE, .rw, .any⟩]

/-- The offset of `TXN_SCOPE_P` (09, Table 11, R279). -/
def TXN_SCOPE_P.off (k : Nat) : Nat := 0x200C + 4 * (k % 2)
/-- `TXN_SCOPE_P.PORTS`, RW. -/
def TXN_SCOPE_P.PORTS (k : Nat) : Cell := ⟨(TXN_SCOPE_P.off k), 0, 32, 0⟩
/-- The fields of `TXN_SCOPE_P`. -/
def TXN_SCOPE_P.fields (k : Nat) : List Field :=
  [⟨TXN_SCOPE_P.PORTS k, .rw, .any⟩]

/-- The offset of `TXN_TIME` (09, Table 12, R279). -/
def TXN_TIME.off (k : Nat) : Nat := 0x2014 + 4 * (k % 2)
/-- `TXN_TIME.TIME`, RW. -/
def TXN_TIME.TIME (k : Nat) : Cell := ⟨(TXN_TIME.off k), 0, 32, 0⟩
/-- The fields of `TXN_TIME`. -/
def TXN_TIME.fields (k : Nat) : List Field :=
  [⟨TXN_TIME.TIME k, .rw, .any⟩]

/-- The offset of `TXN_CMD` (09, Table 13, R279). -/
def TXN_CMD.off : Nat := 0x2000
/-- `TXN_CMD.GO`, WO. -/
def TXN_CMD.GO : Cell := ⟨TXN_CMD.off, 31, 1, 0⟩
/-- `TXN_CMD.ACTION`, WO. -/
def TXN_CMD.ACTION : Cell := ⟨TXN_CMD.off, 29, 2, 0⟩
/-- The fields of `TXN_CMD`. -/
def TXN_CMD.fields : List Field :=
  [⟨TXN_CMD.GO, .wo, .any⟩,
   ⟨TXN_CMD.ACTION, .wo, .any⟩]

/-- The offset of `TXN_STATUS` (09, Table 14, R279). -/
def TXN_STATUS.off : Nat := 0x2004
/-- `TXN_STATUS.STATE`, RO. -/
def TXN_STATUS.STATE : Cell := ⟨TXN_STATUS.off, 28, 4, 0⟩
/-- `TXN_STATUS.LAST_RESULT`, RO. -/
def TXN_STATUS.LAST_RESULT : Cell := ⟨TXN_STATUS.off, 25, 3, 0⟩
/-- `TXN_STATUS.STRAY`, RW1C. -/
def TXN_STATUS.STRAY : Cell := ⟨TXN_STATUS.off, 24, 1, 0⟩
/-- `TXN_STATUS.ID`, RO. -/
def TXN_STATUS.ID : Cell := ⟨TXN_STATUS.off, 16, 8, 0⟩
/-- `TXN_STATUS.FAIL_INDEX`, RO. -/
def TXN_STATUS.FAIL_INDEX : Cell := ⟨TXN_STATUS.off, 8, 8, 255⟩
/-- `TXN_STATUS.REASON`, RO. -/
def TXN_STATUS.REASON : Cell := ⟨TXN_STATUS.off, 0, 5, 0⟩
/-- The fields of `TXN_STATUS`. -/
def TXN_STATUS.fields : List Field :=
  [⟨TXN_STATUS.STATE, .ro, .any⟩,
   ⟨TXN_STATUS.LAST_RESULT, .ro, .any⟩,
   ⟨TXN_STATUS.STRAY, .rw1c, .any⟩,
   ⟨TXN_STATUS.ID, .ro, .any⟩,
   ⟨TXN_STATUS.FAIL_INDEX, .ro, .any⟩,
   ⟨TXN_STATUS.REASON, .ro, .any⟩]

/-- The offset of `IMG_SRC` (09, Table 15, R279). -/
def IMG_SRC.off (k : Nat) : Nat := 0x1008 + 4 * (k % 2)
/-- `IMG_SRC.ADDR`, RW. -/
def IMG_SRC.ADDR (k : Nat) : Cell := ⟨(IMG_SRC.off k), 0, 32, 0⟩
/-- The fields of `IMG_SRC`. -/
def IMG_SRC.fields (k : Nat) : List Field :=
  [⟨IMG_SRC.ADDR k, .rw, .any⟩]

/-- The offset of `IMG_KEYS` (09, Table 16, R279). -/
def IMG_KEYS.off : Nat := 0x1010
/-- `IMG_KEYS.FW_KEY`, RO. -/
def IMG_KEYS.FW_KEY : Cell := ⟨IMG_KEYS.off, 8, 1, 1⟩
/-- `IMG_KEYS.SLOTt`, RO. -/
def IMG_KEYS.SLOT (t : Nat) : Cell := ⟨IMG_KEYS.off, 2 * (t % 4), 2, (if t % 4 = 0 then 1 else 0)⟩
/-- The fields of `IMG_KEYS`. -/
def IMG_KEYS.fields : List Field :=
  [⟨IMG_KEYS.FW_KEY, .ro, .any⟩,
   ⟨IMG_KEYS.SLOT 3, .ro, .any⟩,
   ⟨IMG_KEYS.SLOT 2, .ro, .any⟩,
   ⟨IMG_KEYS.SLOT 1, .ro, .any⟩,
   ⟨IMG_KEYS.SLOT 0, .ro, .any⟩]

/-- The offset of `IMG_BCT_INDEX` (09, Table 17, R279). -/
def IMG_BCT_INDEX.off : Nat := 0x1014
/-- `IMG_BCT_INDEX.INDEX`, RW. -/
def IMG_BCT_INDEX.INDEX : Cell := ⟨IMG_BCT_INDEX.off, 0, 13, 0⟩
/-- The fields of `IMG_BCT_INDEX`. -/
def IMG_BCT_INDEX.fields : List Field :=
  [⟨IMG_BCT_INDEX.INDEX, .rw, (.clamp 0 4607)⟩]

/-- The offset of `IMG_BCT` (09, Table 18, R279). -/
def IMG_BCT.off (k : Nat) : Nat := 0x1018 + 4 * (k % 2)
/-- `IMG_BCT.ENTRY`, RWT. -/
def IMG_BCT.ENTRY (k : Nat) : Cell := ⟨(IMG_BCT.off k), 0, 32, 0⟩
/-- The fields of `IMG_BCT`. -/
def IMG_BCT.fields (k : Nat) : List Field :=
  [⟨IMG_BCT.ENTRY k, .rwt, .any⟩]

/-- The offset of `GLB_ALIVE` (10, Table 8, R309). -/
def GLB_ALIVE.off : Nat := 0x4
/-- `GLB_ALIVE.MARK`, RO. -/
def GLB_ALIVE.MARK : Cell := ⟨GLB_ALIVE.off, 24, 7, 42⟩
/-- `GLB_ALIVE.MGMT_RESETS`, RO. -/
def GLB_ALIVE.MGMT_RESETS : Cell := ⟨GLB_ALIVE.off, 16, 8, 0⟩
/-- `GLB_ALIVE.BEAT`, RO. -/
def GLB_ALIVE.BEAT : Cell := ⟨GLB_ALIVE.off, 0, 16, 0⟩
/-- The fields of `GLB_ALIVE`. -/
def GLB_ALIVE.fields : List Field :=
  [⟨GLB_ALIVE.MARK, .ro, .any⟩,
   ⟨GLB_ALIVE.MGMT_RESETS, .ro, .any⟩,
   ⟨GLB_ALIVE.BEAT, .ro, .any⟩]

/-- The offset of `GLB_MGMT_CTRL` (10, Table 9, R310). -/
def GLB_MGMT_CTRL.off : Nat := 0x10
/-- `GLB_MGMT_CTRL.WAKE_ON_EVENT`, RWS. -/
def GLB_MGMT_CTRL.WAKE_ON_EVENT : Cell := ⟨GLB_MGMT_CTRL.off, 3, 1, 0⟩
/-- `GLB_MGMT_CTRL.WAKE_CLASS`, RWS. -/
def GLB_MGMT_CTRL.WAKE_CLASS : Cell := ⟨GLB_MGMT_CTRL.off, 1, 2, 2⟩
/-- The fields of `GLB_MGMT_CTRL`. -/
def GLB_MGMT_CTRL.fields : List Field :=
  [⟨GLB_MGMT_CTRL.WAKE_ON_EVENT, .rws, .any⟩,
   ⟨GLB_MGMT_CTRL.WAKE_CLASS, .rws, (.upTo 2)⟩]

/-- The offset of `GLB_MGMT_STATUS` (10, Table 10, R311). -/
def GLB_MGMT_STATUS.off : Nat := 0x14
/-- `GLB_MGMT_STATUS.LINK_UP`, RO. -/
def GLB_MGMT_STATUS.LINK_UP : Cell := ⟨GLB_MGMT_STATUS.off, 31, 1, 0⟩
/-- `GLB_MGMT_STATUS.LINK_RATE`, RO. -/
def GLB_MGMT_STATUS.LINK_RATE : Cell := ⟨GLB_MGMT_STATUS.off, 28, 3, 0⟩
/-- `GLB_MGMT_STATUS.LINK_WIDTH`, RO. -/
def GLB_MGMT_STATUS.LINK_WIDTH : Cell := ⟨GLB_MGMT_STATUS.off, 26, 2, 0⟩
/-- `GLB_MGMT_STATUS.FLIT`, RO. -/
def GLB_MGMT_STATUS.FLIT : Cell := ⟨GLB_MGMT_STATUS.off, 25, 1, 0⟩
/-- `GLB_MGMT_STATUS.DMA_HELD`, RO. -/
def GLB_MGMT_STATUS.DMA_HELD : Cell := ⟨GLB_MGMT_STATUS.off, 24, 1, 1⟩
/-- `GLB_MGMT_STATUS.BAD_ACCESS`, RW1C. -/
def GLB_MGMT_STATUS.BAD_ACCESS : Cell := ⟨GLB_MGMT_STATUS.off, 23, 1, 0⟩
/-- `GLB_MGMT_STATUS.LATE_CPL`, RW1C. -/
def GLB_MGMT_STATUS.LATE_CPL : Cell := ⟨GLB_MGMT_STATUS.off, 22, 1, 0⟩
/-- `GLB_MGMT_STATUS.STAGING_FULL`, RW1C. -/
def GLB_MGMT_STATUS.STAGING_FULL : Cell := ⟨GLB_MGMT_STATUS.off, 21, 1, 0⟩
/-- `GLB_MGMT_STATUS.STAGED`, RO. -/
def GLB_MGMT_STATUS.STAGED : Cell := ⟨GLB_MGMT_STATUS.off, 0, 14, 0⟩
/-- The fields of `GLB_MGMT_STATUS`. -/
def GLB_MGMT_STATUS.fields : List Field :=
  [⟨GLB_MGMT_STATUS.LINK_UP, .ro, .any⟩,
   ⟨GLB_MGMT_STATUS.LINK_RATE, .ro, .any⟩,
   ⟨GLB_MGMT_STATUS.LINK_WIDTH, .ro, .any⟩,
   ⟨GLB_MGMT_STATUS.FLIT, .ro, .any⟩,
   ⟨GLB_MGMT_STATUS.DMA_HELD, .ro, .any⟩,
   ⟨GLB_MGMT_STATUS.BAD_ACCESS, .rw1c, .any⟩,
   ⟨GLB_MGMT_STATUS.LATE_CPL, .rw1c, .any⟩,
   ⟨GLB_MGMT_STATUS.STAGING_FULL, .rw1c, .any⟩,
   ⟨GLB_MGMT_STATUS.STAGED, .ro, .any⟩]

/-- The offset of `GLB_MGMT_CNT` (10, Table 11, R312). -/
def GLB_MGMT_CNT.off : Nat := 0x18
/-- `GLB_MGMT_CNT.LATE_CPL_CNT`, RO. -/
def GLB_MGMT_CNT.LATE_CPL_CNT : Cell := ⟨GLB_MGMT_CNT.off, 16, 16, 0⟩
/-- `GLB_MGMT_CNT.TIMEOUTS`, RO. -/
def GLB_MGMT_CNT.TIMEOUTS : Cell := ⟨GLB_MGMT_CNT.off, 8, 8, 0⟩
/-- `GLB_MGMT_CNT.STAGE_DROPS`, RO. -/
def GLB_MGMT_CNT.STAGE_DROPS : Cell := ⟨GLB_MGMT_CNT.off, 0, 8, 0⟩
/-- The fields of `GLB_MGMT_CNT`. -/
def GLB_MGMT_CNT.fields : List Field :=
  [⟨GLB_MGMT_CNT.LATE_CPL_CNT, .ro, .any⟩,
   ⟨GLB_MGMT_CNT.TIMEOUTS, .ro, .any⟩,
   ⟨GLB_MGMT_CNT.STAGE_DROPS, .ro, .any⟩]

/-- The offset of `SLC_CTRL` (11, Table 11, R344). -/
def SLC_CTRL.off (s : Nat) : Nat := 0x30000 + 0x80 * (s % 256) + 0x0
/-- `SLC_CTRL.GO`, WO. -/
def SLC_CTRL.GO (s : Nat) : Cell := ⟨(SLC_CTRL.off s), 31, 1, 0⟩
/-- `SLC_CTRL.ACTION`, WO. -/
def SLC_CTRL.ACTION (s : Nat) : Cell := ⟨(SLC_CTRL.off s), 28, 3, 0⟩
/-- `SLC_CTRL.PASID`, RW. -/
def SLC_CTRL.PASID (s : Nat) : Cell := ⟨(SLC_CTRL.off s), 0, 20, 0⟩
/-- The fields of `SLC_CTRL`. -/
def SLC_CTRL.fields (s : Nat) : List Field :=
  [⟨SLC_CTRL.GO s, .wo, .any⟩,
   ⟨SLC_CTRL.ACTION s, .wo, .any⟩,
   ⟨SLC_CTRL.PASID s, .rw, .any⟩]

/-- The offset of `SLC_STATUS` (11, Table 12, R345). -/
def SLC_STATUS.off (s : Nat) : Nat := 0x30000 + 0x80 * (s % 256) + 0x4
/-- `SLC_STATUS.STATE`, RO. -/
def SLC_STATUS.STATE (s : Nat) : Cell := ⟨(SLC_STATUS.off s), 28, 4, 0⟩
/-- `SLC_STATUS.RESULT`, RO. -/
def SLC_STATUS.RESULT (s : Nat) : Cell := ⟨(SLC_STATUS.off s), 24, 4, 0⟩
/-- `SLC_STATUS.GENERATION`, RO. -/
def SLC_STATUS.GENERATION (s : Nat) : Cell := ⟨(SLC_STATUS.off s), 16, 8, 0⟩
/-- `SLC_STATUS.RESET_DONE`, RW1C. -/
def SLC_STATUS.RESET_DONE (s : Nat) : Cell := ⟨(SLC_STATUS.off s), 15, 1, 0⟩
/-- `SLC_STATUS.DESTROY_PENDING`, RO. -/
def SLC_STATUS.DESTROY_PENDING (s : Nat) : Cell := ⟨(SLC_STATUS.off s), 14, 1, 0⟩
/-- `SLC_STATUS.STAGED`, RO. -/
def SLC_STATUS.STAGED (s : Nat) : Cell := ⟨(SLC_STATUS.off s), 0, 14, 0⟩
/-- The fields of `SLC_STATUS`. -/
def SLC_STATUS.fields (s : Nat) : List Field :=
  [⟨SLC_STATUS.STATE s, .ro, .any⟩,
   ⟨SLC_STATUS.RESULT s, .ro, .any⟩,
   ⟨SLC_STATUS.GENERATION s, .ro, .any⟩,
   ⟨SLC_STATUS.RESET_DONE s, .rw1c, .any⟩,
   ⟨SLC_STATUS.DESTROY_PENDING s, .ro, .any⟩,
   ⟨SLC_STATUS.STAGED s, .ro, .any⟩]

/-- The offset of `SLC_RINGS` (11, Table 13, R346). -/
def SLC_RINGS.off (s : Nat) : Nat := 0x30000 + 0x80 * (s % 256) + 0x8
/-- `SLC_RINGS.BASE`, RW. -/
def SLC_RINGS.BASE (s : Nat) : Cell := ⟨(SLC_RINGS.off s), 16, 14, 0⟩
/-- `SLC_RINGS.COUNT`, RW. -/
def SLC_RINGS.COUNT (s : Nat) : Cell := ⟨(SLC_RINGS.off s), 0, 11, 0⟩
/-- The fields of `SLC_RINGS`. -/
def SLC_RINGS.fields (s : Nat) : List Field :=
  [⟨SLC_RINGS.BASE s, .rw, .any⟩,
   ⟨SLC_RINGS.COUNT s, .rw, (.clamp 0 1024)⟩]

/-- The offset of `SLC_VECTORS` (11, Table 14, R346). -/
def SLC_VECTORS.off (s : Nat) : Nat := 0x30000 + 0x80 * (s % 256) + 0xC
/-- `SLC_VECTORS.BASE`, RW. -/
def SLC_VECTORS.BASE (s : Nat) : Cell := ⟨(SLC_VECTORS.off s), 16, 11, 0⟩
/-- `SLC_VECTORS.COUNT`, RW. -/
def SLC_VECTORS.COUNT (s : Nat) : Cell := ⟨(SLC_VECTORS.off s), 0, 12, 0⟩
/-- The fields of `SLC_VECTORS`. -/
def SLC_VECTORS.fields (s : Nat) : List Field :=
  [⟨SLC_VECTORS.BASE s, .rw, .any⟩,
   ⟨SLC_VECTORS.COUNT s, .rw, (.clamp 0 2048)⟩]

/-- The offset of `SLC_SHARE` (11, Table 15, R347). -/
def SLC_SHARE.off (s : Nat) : Nat := 0x30000 + 0x80 * (s % 256) + 0x10
/-- `SLC_SHARE.TOKENS`, RW. -/
def SLC_SHARE.TOKENS (s : Nat) : Cell := ⟨(SLC_SHARE.off s), 18, 10, 0⟩
/-- `SLC_SHARE.GRANULES`, RW. -/
def SLC_SHARE.GRANULES (s : Nat) : Cell := ⟨(SLC_SHARE.off s), 0, 17, 0⟩
/-- The fields of `SLC_SHARE`. -/
def SLC_SHARE.fields (s : Nat) : List Field :=
  [⟨SLC_SHARE.TOKENS s, .rw, (.clamp 0 896)⟩,
   ⟨SLC_SHARE.GRANULES s, .rw, (.clamp 0 65536)⟩]

/-- The offset of `SLC_PORTS` (11, Table 16, R347). -/
def SLC_PORTS.off (s k : Nat) : Nat := 0x30000 + 0x80 * (s % 256) + 0x14 + 4 * (k % 2)
/-- `SLC_PORTS.PORTS`, RW. -/
def SLC_PORTS.PORTS (s k : Nat) : Cell := ⟨(SLC_PORTS.off s k), 0, 32, 0⟩
/-- The fields of `SLC_PORTS`. -/
def SLC_PORTS.fields (s k : Nat) : List Field :=
  [⟨SLC_PORTS.PORTS s k, .rw, .any⟩]

/-- The offset of `SLC_DEF_S0` (11, Table 17, R348). -/
def SLC_DEF_S0.off : Nat := 0x38000
/-- `SLC_DEF_S0.RINGS`, RWT. -/
def SLC_DEF_S0.RINGS : Cell := ⟨SLC_DEF_S0.off, 22, 7, 4⟩
/-- `SLC_DEF_S0.VECTORS`, RWT. -/
def SLC_DEF_S0.VECTORS : Cell := ⟨SLC_DEF_S0.off, 14, 8, 4⟩
/-- `SLC_DEF_S0.TOKENS`, RWT. -/
def SLC_DEF_S0.TOKENS : Cell := ⟨SLC_DEF_S0.off, 7, 7, 16⟩
/-- `SLC_DEF_S0.GRANULES`, RWT. -/
def SLC_DEF_S0.GRANULES : Cell := ⟨SLC_DEF_S0.off, 0, 7, 4⟩
/-- The fields of `SLC_DEF_S0`. -/
def SLC_DEF_S0.fields : List Field :=
  [⟨SLC_DEF_S0.RINGS, .rwt, (.clamp 1 64)⟩,
   ⟨SLC_DEF_S0.VECTORS, .rwt, (.clamp 1 128)⟩,
   ⟨SLC_DEF_S0.TOKENS, .rwt, (.clamp 0 112)⟩,
   ⟨SLC_DEF_S0.GRANULES, .rwt, (.clamp 0 64)⟩]

/-- The offset of `RNG_INFO` (11, Table 18, R349). -/
def RNG_INFO.off (i : Nat) : Nat := 0x40000 + 0x10 * (i % 16384)
/-- `RNG_INFO.VALID`, RO. -/
def RNG_INFO.VALID (i : Nat) : Cell := ⟨(RNG_INFO.off i), 31, 1, 0⟩
/-- `RNG_INFO.STATE`, RO. -/
def RNG_INFO.STATE (i : Nat) : Cell := ⟨(RNG_INFO.off i), 24, 4, 0⟩
/-- `RNG_INFO.OWNER`, RO. -/
def RNG_INFO.OWNER (i : Nat) : Cell := ⟨(RNG_INFO.off i), 16, 8, 0⟩
/-- `RNG_INFO.KIND`, RO. -/
def RNG_INFO.KIND (i : Nat) : Cell := ⟨(RNG_INFO.off i), 15, 1, 0⟩
/-- `RNG_INFO.LOCAL`, RO. -/
def RNG_INFO.LOCAL (i : Nat) : Cell := ⟨(RNG_INFO.off i), 0, 10, 0⟩
/-- The fields of `RNG_INFO`. -/
def RNG_INFO.fields (i : Nat) : List Field :=
  [⟨RNG_INFO.VALID i, .ro, .any⟩,
   ⟨RNG_INFO.STATE i, .ro, .any⟩,
   ⟨RNG_INFO.OWNER i, .ro, .any⟩,
   ⟨RNG_INFO.KIND i, .ro, .any⟩,
   ⟨RNG_INFO.LOCAL i, .ro, .any⟩]

/-- The offset of `SLC_SELF_INFO` (11, Table 19, R350). -/
def SLC_SELF_INFO.off (s : Nat) : Nat := 0x1000000 + 0x10000 * (s % 256) + 0x0
/-- `SLC_SELF_INFO.SLICE`, RO. -/
def SLC_SELF_INFO.SLICE (s : Nat) : Cell := ⟨(SLC_SELF_INFO.off s), 24, 8, 0⟩
/-- `SLC_SELF_INFO.GENERATION`, RO. -/
def SLC_SELF_INFO.GENERATION (s : Nat) : Cell := ⟨(SLC_SELF_INFO.off s), 16, 8, 0⟩
/-- `SLC_SELF_INFO.STATE`, RO. -/
def SLC_SELF_INFO.STATE (s : Nat) : Cell := ⟨(SLC_SELF_INFO.off s), 12, 4, 0⟩
/-- `SLC_SELF_INFO.HELD`, RO. -/
def SLC_SELF_INFO.HELD (s : Nat) : Cell := ⟨(SLC_SELF_INFO.off s), 11, 1, 0⟩
/-- The fields of `SLC_SELF_INFO`. -/
def SLC_SELF_INFO.fields (s : Nat) : List Field :=
  [⟨SLC_SELF_INFO.SLICE s, .ro, .any⟩,
   ⟨SLC_SELF_INFO.GENERATION s, .ro, .any⟩,
   ⟨SLC_SELF_INFO.STATE s, .ro, .any⟩,
   ⟨SLC_SELF_INFO.HELD s, .ro, .any⟩]

/-- The offset of `SLC_SELF_CTRL` (11, Table 20, R350). -/
def SLC_SELF_CTRL.off (s : Nat) : Nat := 0x1000000 + 0x10000 * (s % 256) + 0x4
/-- `SLC_SELF_CTRL.RESET`, WO. -/
def SLC_SELF_CTRL.RESET (s : Nat) : Cell := ⟨(SLC_SELF_CTRL.off s), 31, 1, 0⟩
/-- `SLC_SELF_CTRL.NOTICE_RING`, RW. -/
def SLC_SELF_CTRL.NOTICE_RING (s : Nat) : Cell := ⟨(SLC_SELF_CTRL.off s), 16, 11, 0⟩
/-- `SLC_SELF_CTRL.CLASS_MASK`, RW. -/
def SLC_SELF_CTRL.CLASS_MASK (s : Nat) : Cell := ⟨(SLC_SELF_CTRL.off s), 0, 3, 7⟩
/-- The fields of `SLC_SELF_CTRL`. -/
def SLC_SELF_CTRL.fields (s : Nat) : List Field :=
  [⟨SLC_SELF_CTRL.RESET s, .wo, .any⟩,
   ⟨SLC_SELF_CTRL.NOTICE_RING s, .rw, (.clamp 0 1023)⟩,
   ⟨SLC_SELF_CTRL.CLASS_MASK s, .rw, .any⟩]

/-- The offset of `SLC_SELF_STATUS` (11, Table 21, R350). -/
def SLC_SELF_STATUS.off (s : Nat) : Nat := 0x1000000 + 0x10000 * (s % 256) + 0x8
/-- `SLC_SELF_STATUS.RESET_DONE`, RW1C. -/
def SLC_SELF_STATUS.RESET_DONE (s : Nat) : Cell := ⟨(SLC_SELF_STATUS.off s), 31, 1, 0⟩
/-- `SLC_SELF_STATUS.DISCARDED`, RO. -/
def SLC_SELF_STATUS.DISCARDED (s : Nat) : Cell := ⟨(SLC_SELF_STATUS.off s), 8, 8, 0⟩
/-- `SLC_SELF_STATUS.DROPPED`, RO. -/
def SLC_SELF_STATUS.DROPPED (s : Nat) : Cell := ⟨(SLC_SELF_STATUS.off s), 0, 8, 0⟩
/-- The fields of `SLC_SELF_STATUS`. -/
def SLC_SELF_STATUS.fields (s : Nat) : List Field :=
  [⟨SLC_SELF_STATUS.RESET_DONE s, .rw1c, .any⟩,
   ⟨SLC_SELF_STATUS.DISCARDED s, .ro, .any⟩,
   ⟨SLC_SELF_STATUS.DROPPED s, .ro, .any⟩]

/-- The offset of `RNG_BASE` (11, Table 22, R351). -/
def RNG_BASE.off (s i k : Nat) : Nat := 0x1000000 + 0x10000 * (s % 256) + 0x1000 + 0x20 * (i % 1024) + 4 * (k % 2)
/-- `RNG_BASE.ADDR`, RW. -/
def RNG_BASE.ADDR (s i k : Nat) : Cell := ⟨(RNG_BASE.off s i k), 0, 32, 0⟩
/-- The fields of `RNG_BASE`. -/
def RNG_BASE.fields (s i k : Nat) : List Field :=
  [⟨RNG_BASE.ADDR s i k, .rw, .any⟩]

/-- The offset of `RNG_CTRL` (11, Table 23, R351). -/
def RNG_CTRL.off (s i : Nat) : Nat := 0x1000000 + 0x10000 * (s % 256) + 0x1000 + 0x20 * (i % 1024) + 0x8
/-- `RNG_CTRL.ENABLE`, RW. -/
def RNG_CTRL.ENABLE (s i : Nat) : Cell := ⟨(RNG_CTRL.off s i), 31, 1, 0⟩
/-- `RNG_CTRL.RESUME`, WO. -/
def RNG_CTRL.RESUME (s i : Nat) : Cell := ⟨(RNG_CTRL.off s i), 30, 1, 0⟩
/-- `RNG_CTRL.KIND`, RW. -/
def RNG_CTRL.KIND (s i : Nat) : Cell := ⟨(RNG_CTRL.off s i), 29, 1, 0⟩
/-- `RNG_CTRL.INT_EN`, RW. -/
def RNG_CTRL.INT_EN (s i : Nat) : Cell := ⟨(RNG_CTRL.off s i), 28, 1, 0⟩
/-- `RNG_CTRL.SIZE_LOG2`, RW. -/
def RNG_CTRL.SIZE_LOG2 (s i : Nat) : Cell := ⟨(RNG_CTRL.off s i), 20, 4, 4⟩
/-- `RNG_CTRL.VECTOR`, RW. -/
def RNG_CTRL.VECTOR (s i : Nat) : Cell := ⟨(RNG_CTRL.off s i), 0, 11, 0⟩
/-- The fields of `RNG_CTRL`. -/
def RNG_CTRL.fields (s i : Nat) : List Field :=
  [⟨RNG_CTRL.ENABLE s i, .rw, .any⟩,
   ⟨RNG_CTRL.RESUME s i, .wo, .any⟩,
   ⟨RNG_CTRL.KIND s i, .rw, .any⟩,
   ⟨RNG_CTRL.INT_EN s i, .rw, .any⟩,
   ⟨RNG_CTRL.SIZE_LOG2 s i, .rw, (.clamp 4 16)⟩,
   ⟨RNG_CTRL.VECTOR s i, .rw, .any⟩]

/-- The offset of `RNG_DOORBELL` (11, Table 24, R351). -/
def RNG_DOORBELL.off (s i : Nat) : Nat := 0x1000000 + 0x10000 * (s % 256) + 0x1000 + 0x20 * (i % 1024) + 0xC
/-- `RNG_DOORBELL.INDEX`, WO. -/
def RNG_DOORBELL.INDEX (s i : Nat) : Cell := ⟨(RNG_DOORBELL.off s i), 0, 16, 0⟩
/-- The fields of `RNG_DOORBELL`. -/
def RNG_DOORBELL.fields (s i : Nat) : List Field :=
  [⟨RNG_DOORBELL.INDEX s i, .wo, .any⟩]

/-- The offset of `RNG_POS` (11, Table 25, R351). -/
def RNG_POS.off (s i : Nat) : Nat := 0x1000000 + 0x10000 * (s % 256) + 0x1000 + 0x20 * (i % 1024) + 0x10
/-- `RNG_POS.HEAD`, RO. -/
def RNG_POS.HEAD (s i : Nat) : Cell := ⟨(RNG_POS.off s i), 16, 16, 0⟩
/-- `RNG_POS.TAIL`, RO. -/
def RNG_POS.TAIL (s i : Nat) : Cell := ⟨(RNG_POS.off s i), 0, 16, 0⟩
/-- The fields of `RNG_POS`. -/
def RNG_POS.fields (s i : Nat) : List Field :=
  [⟨RNG_POS.HEAD s i, .ro, .any⟩,
   ⟨RNG_POS.TAIL s i, .ro, .any⟩]

/-- The offset of `RNG_STATUS` (11, Table 26, R351). -/
def RNG_STATUS.off (s i : Nat) : Nat := 0x1000000 + 0x10000 * (s % 256) + 0x1000 + 0x20 * (i % 1024) + 0x14
/-- `RNG_STATUS.STATE`, RO. -/
def RNG_STATUS.STATE (s i : Nat) : Cell := ⟨(RNG_STATUS.off s i), 28, 4, 0⟩
/-- `RNG_STATUS.PHASE`, RO. -/
def RNG_STATUS.PHASE (s i : Nat) : Cell := ⟨(RNG_STATUS.off s i), 27, 1, 0⟩
/-- `RNG_STATUS.ERRORS`, RO. -/
def RNG_STATUS.ERRORS (s i : Nat) : Cell := ⟨(RNG_STATUS.off s i), 0, 8, 0⟩
/-- The fields of `RNG_STATUS`. -/
def RNG_STATUS.fields (s i : Nat) : List Field :=
  [⟨RNG_STATUS.STATE s i, .ro, .any⟩,
   ⟨RNG_STATUS.PHASE s i, .ro, .any⟩,
   ⟨RNG_STATUS.ERRORS s i, .ro, .any⟩]

/-- The offset of `GLB_FABRIC_ID` (12, Table 10, R385). -/
def GLB_FABRIC_ID.off : Nat := 0xC
/-- `GLB_FABRIC_ID.FABRIC_ID`, RWT. -/
def GLB_FABRIC_ID.FABRIC_ID : Cell := ⟨GLB_FABRIC_ID.off, 0, 10, 0⟩
/-- The fields of `GLB_FABRIC_ID`. -/
def GLB_FABRIC_ID.fields : List Field :=
  [⟨GLB_FABRIC_ID.FABRIC_ID, .rwt, .any⟩]

/-- The offset of `TIM_CTRL` (12, Table 11, R386). -/
def TIM_CTRL.off : Nat := 0x600C
/-- `TIM_CTRL.ROLE`, RWT. -/
def TIM_CTRL.ROLE : Cell := ⟨TIM_CTRL.off, 30, 2, 0⟩
/-- `TIM_CTRL.TPULSE_MODE`, RWT. -/
def TIM_CTRL.TPULSE_MODE : Cell := ⟨TIM_CTRL.off, 28, 2, 0⟩
/-- `TIM_CTRL.TIME_FRAMES_OFF`, RWT. -/
def TIM_CTRL.TIME_FRAMES_OFF : Cell := ⟨TIM_CTRL.off, 27, 1, 0⟩
/-- The fields of `TIM_CTRL`. -/
def TIM_CTRL.fields : List Field :=
  [⟨TIM_CTRL.ROLE, .rwt, (.upTo 2)⟩,
   ⟨TIM_CTRL.TPULSE_MODE, .rwt, (.upTo 2)⟩,
   ⟨TIM_CTRL.TIME_FRAMES_OFF, .rwt, .any⟩]

/-- The offset of `TIM_STATUS` (12, Table 12, R386). -/
def TIM_STATUS.off : Nat := 0x6010
/-- `TIM_STATUS.QUALITY`, RO. -/
def TIM_STATUS.QUALITY : Cell := ⟨TIM_STATUS.off, 30, 2, 0⟩
/-- `TIM_STATUS.LOCKED`, RO. -/
def TIM_STATUS.LOCKED : Cell := ⟨TIM_STATUS.off, 29, 1, 0⟩
/-- `TIM_STATUS.HOLDOVER`, RO. -/
def TIM_STATUS.HOLDOVER : Cell := ⟨TIM_STATUS.off, 28, 1, 0⟩
/-- `TIM_STATUS.SLEWING`, RO. -/
def TIM_STATUS.SLEWING : Cell := ⟨TIM_STATUS.off, 27, 1, 0⟩
/-- `TIM_STATUS.CONFLICT`, RW1C. -/
def TIM_STATUS.CONFLICT : Cell := ⟨TIM_STATUS.off, 26, 1, 0⟩
/-- `TIM_STATUS.STEPPED`, RW1C. -/
def TIM_STATUS.STEPPED : Cell := ⟨TIM_STATUS.off, 25, 1, 0⟩
/-- `TIM_STATUS.STRATUM`, RO. -/
def TIM_STATUS.STRATUM : Cell := ⟨TIM_STATUS.off, 21, 4, 15⟩
/-- `TIM_STATUS.PARENT_SIDE`, RO. -/
def TIM_STATUS.PARENT_SIDE : Cell := ⟨TIM_STATUS.off, 20, 1, 0⟩
/-- `TIM_STATUS.PARENT_PORT`, RO. -/
def TIM_STATUS.PARENT_PORT : Cell := ⟨TIM_STATUS.off, 14, 6, 0⟩
/-- `TIM_STATUS.PARENT_PULSE`, RO. -/
def TIM_STATUS.PARENT_PULSE : Cell := ⟨TIM_STATUS.off, 13, 1, 0⟩
/-- `TIM_STATUS.MASTER_VALID`, RO. -/
def TIM_STATUS.MASTER_VALID : Cell := ⟨TIM_STATUS.off, 10, 1, 0⟩
/-- `TIM_STATUS.MASTER_ID`, RO. -/
def TIM_STATUS.MASTER_ID : Cell := ⟨TIM_STATUS.off, 0, 10, 0⟩
/-- The fields of `TIM_STATUS`. -/
def TIM_STATUS.fields : List Field :=
  [⟨TIM_STATUS.QUALITY, .ro, .any⟩,
   ⟨TIM_STATUS.LOCKED, .ro, .any⟩,
   ⟨TIM_STATUS.HOLDOVER, .ro, .any⟩,
   ⟨TIM_STATUS.SLEWING, .ro, .any⟩,
   ⟨TIM_STATUS.CONFLICT, .rw1c, .any⟩,
   ⟨TIM_STATUS.STEPPED, .rw1c, .any⟩,
   ⟨TIM_STATUS.STRATUM, .ro, .any⟩,
   ⟨TIM_STATUS.PARENT_SIDE, .ro, .any⟩,
   ⟨TIM_STATUS.PARENT_PORT, .ro, .any⟩,
   ⟨TIM_STATUS.PARENT_PULSE, .ro, .any⟩,
   ⟨TIM_STATUS.MASTER_VALID, .ro, .any⟩,
   ⟨TIM_STATUS.MASTER_ID, .ro, .any⟩]

/-- The offset of `TIM_UNCERT` (12, Table 13, R386). -/
def TIM_UNCERT.off : Nat := 0x6014
/-- `TIM_UNCERT.BOUND`, RO. -/
def TIM_UNCERT.BOUND : Cell := ⟨TIM_UNCERT.off, 0, 32, 0⟩
/-- The fields of `TIM_UNCERT`. -/
def TIM_UNCERT.fields : List Field :=
  [⟨TIM_UNCERT.BOUND, .ro, .any⟩]

/-- The offset of `TIM_OFFSET` (12, Table 13, R386). -/
def TIM_OFFSET.off : Nat := 0x6018
/-- `TIM_OFFSET.THETA`, RO. -/
def TIM_OFFSET.THETA : Cell := ⟨TIM_OFFSET.off, 0, 32, 0⟩
/-- The fields of `TIM_OFFSET`. -/
def TIM_OFFSET.fields : List Field :=
  [⟨TIM_OFFSET.THETA, .ro, .any⟩]

/-- The offset of `TIM_RATE` (12, Table 13, R386). -/
def TIM_RATE.off : Nat := 0x601C
/-- `TIM_RATE.PPB`, RO. -/
def TIM_RATE.PPB : Cell := ⟨TIM_RATE.off, 0, 32, 0⟩
/-- The fields of `TIM_RATE`. -/
def TIM_RATE.fields : List Field :=
  [⟨TIM_RATE.PPB, .ro, .any⟩]

/-- The offset of `TIM_PULSE` (12, Table 14, R386). -/
def TIM_PULSE.off : Nat := 0x6028
/-- `TIM_PULSE.SET_AT_PULSE`, RW. -/
def TIM_PULSE.SET_AT_PULSE : Cell := ⟨TIM_PULSE.off, 31, 1, 0⟩
/-- `TIM_PULSE.PERIOD`, RW. -/
def TIM_PULSE.PERIOD : Cell := ⟨TIM_PULSE.off, 28, 3, 0⟩
/-- `TIM_PULSE.IN_STRATUM`, RW. -/
def TIM_PULSE.IN_STRATUM : Cell := ⟨TIM_PULSE.off, 24, 4, 0⟩
/-- `TIM_PULSE.DELAY`, RW. -/
def TIM_PULSE.DELAY : Cell := ⟨TIM_PULSE.off, 0, 16, 0⟩
/-- The fields of `TIM_PULSE`. -/
def TIM_PULSE.fields : List Field :=
  [⟨TIM_PULSE.SET_AT_PULSE, .rw, .any⟩,
   ⟨TIM_PULSE.PERIOD, .rw, (.upTo 3)⟩,
   ⟨TIM_PULSE.IN_STRATUM, .rw, (.clamp 0 14)⟩,
   ⟨TIM_PULSE.DELAY, .rw, .any⟩]

/-- The offset of `TIM_ASYM` (12, Table 15, R386). -/
def TIM_ASYM.off (p : Nat) : Nat := 0x6100 + 4 * (p % 64)
/-- `TIM_ASYM.A_ASYM`, RW. -/
def TIM_ASYM.A_ASYM (p : Nat) : Cell := ⟨(TIM_ASYM.off p), 16, 16, 0⟩
/-- `TIM_ASYM.B_ASYM`, RW. -/
def TIM_ASYM.B_ASYM (p : Nat) : Cell := ⟨(TIM_ASYM.off p), 0, 16, 0⟩
/-- The fields of `TIM_ASYM`. -/
def TIM_ASYM.fields (p : Nat) : List Field :=
  [⟨TIM_ASYM.A_ASYM p, .rw, .any⟩,
   ⟨TIM_ASYM.B_ASYM p, .rw, .any⟩]

/-- The offset of `TRC_TRIG_CTRL` (12, Table 16, R386). -/
def TRC_TRIG_CTRL.off : Nat := 0x80000
/-- `TRC_TRIG_CTRL.FIRE`, WO. -/
def TRC_TRIG_CTRL.FIRE : Cell := ⟨TRC_TRIG_CTRL.off, 31, 1, 0⟩
/-- `TRC_TRIG_CTRL.TRIG_OUT`, RWT. -/
def TRC_TRIG_CTRL.TRIG_OUT : Cell := ⟨TRC_TRIG_CTRL.off, 26, 1, 0⟩
/-- `TRC_TRIG_CTRL.SLICE_TRIG`, RWT. -/
def TRC_TRIG_CTRL.SLICE_TRIG : Cell := ⟨TRC_TRIG_CTRL.off, 25, 1, 0⟩
/-- `TRC_TRIG_CTRL.SRC_EN`, RWT. -/
def TRC_TRIG_CTRL.SRC_EN : Cell := ⟨TRC_TRIG_CTRL.off, 0, 4, 15⟩
/-- The fields of `TRC_TRIG_CTRL`. -/
def TRC_TRIG_CTRL.fields : List Field :=
  [⟨TRC_TRIG_CTRL.FIRE, .wo, .any⟩,
   ⟨TRC_TRIG_CTRL.TRIG_OUT, .rwt, .any⟩,
   ⟨TRC_TRIG_CTRL.SLICE_TRIG, .rwt, .any⟩,
   ⟨TRC_TRIG_CTRL.SRC_EN, .rwt, .any⟩]

/-- The offset of `TRC_SCHED` (12, Table 17, R386). -/
def TRC_SCHED.off (k : Nat) : Nat := 0x80004 + 4 * (k % 2)
/-- `TRC_SCHED.TIME`, RW. -/
def TRC_SCHED.TIME (k : Nat) : Cell := ⟨(TRC_SCHED.off k), 0, 32, 0⟩
/-- The fields of `TRC_SCHED`. -/
def TRC_SCHED.fields (k : Nat) : List Field :=
  [⟨TRC_SCHED.TIME k, .rw, .any⟩]

/-- The offset of `TRC_SCHED_CTRL` (12, Table 17, R386). -/
def TRC_SCHED_CTRL.off : Nat := 0x8000C
/-- `TRC_SCHED_CTRL.GO`, WO. -/
def TRC_SCHED_CTRL.GO : Cell := ⟨TRC_SCHED_CTRL.off, 31, 1, 0⟩
/-- `TRC_SCHED_CTRL.FLOOD`, RW. -/
def TRC_SCHED_CTRL.FLOOD : Cell := ⟨TRC_SCHED_CTRL.off, 30, 1, 1⟩
/-- `TRC_SCHED_CTRL.PENDING`, RO. -/
def TRC_SCHED_CTRL.PENDING : Cell := ⟨TRC_SCHED_CTRL.off, 29, 1, 0⟩
/-- `TRC_SCHED_CTRL.LATE`, RW1C. -/
def TRC_SCHED_CTRL.LATE : Cell := ⟨TRC_SCHED_CTRL.off, 28, 1, 0⟩
/-- `TRC_SCHED_CTRL.NUMBER`, RO. -/
def TRC_SCHED_CTRL.NUMBER : Cell := ⟨TRC_SCHED_CTRL.off, 8, 8, 0⟩
/-- `TRC_SCHED_CTRL.LATE_CNT`, RO. -/
def TRC_SCHED_CTRL.LATE_CNT : Cell := ⟨TRC_SCHED_CTRL.off, 0, 8, 0⟩
/-- The fields of `TRC_SCHED_CTRL`. -/
def TRC_SCHED_CTRL.fields : List Field :=
  [⟨TRC_SCHED_CTRL.GO, .wo, .any⟩,
   ⟨TRC_SCHED_CTRL.FLOOD, .rw, .any⟩,
   ⟨TRC_SCHED_CTRL.PENDING, .ro, .any⟩,
   ⟨TRC_SCHED_CTRL.LATE, .rw1c, .any⟩,
   ⟨TRC_SCHED_CTRL.NUMBER, .ro, .any⟩,
   ⟨TRC_SCHED_CTRL.LATE_CNT, .ro, .any⟩]

/-- The offset of `TRC_DROPS` (12, Table 18, R386). -/
def TRC_DROPS.off (t : Nat) : Nat := 0x80040 + 4 * (t % 8)
/-- `TRC_DROPS.COUNT`, RO. -/
def TRC_DROPS.COUNT (t : Nat) : Cell := ⟨(TRC_DROPS.off t), 0, 32, 0⟩
/-- The fields of `TRC_DROPS`. -/
def TRC_DROPS.fields (t : Nat) : List Field :=
  [⟨TRC_DROPS.COUNT t, .ro, .any⟩]

/-- The offset of `TRC_WN_STATUS` (12, Table 18, R386). -/
def TRC_WN_STATUS.off (p : Nat) : Nat := 0x81000 + 4 * (p % 64)
/-- `TRC_WN_STATUS.AB_CLAIMED`, RO. -/
def TRC_WN_STATUS.AB_CLAIMED (p : Nat) : Cell := ⟨(TRC_WN_STATUS.off p), 31, 1, 0⟩
/-- `TRC_WN_STATUS.AB_OWNER`, RO. -/
def TRC_WN_STATUS.AB_OWNER (p : Nat) : Cell := ⟨(TRC_WN_STATUS.off p), 23, 8, 0⟩
/-- `TRC_WN_STATUS.AB_UNITS`, RO. -/
def TRC_WN_STATUS.AB_UNITS (p : Nat) : Cell := ⟨(TRC_WN_STATUS.off p), 19, 4, 0⟩
/-- `TRC_WN_STATUS.BA_CLAIMED`, RO. -/
def TRC_WN_STATUS.BA_CLAIMED (p : Nat) : Cell := ⟨(TRC_WN_STATUS.off p), 15, 1, 0⟩
/-- `TRC_WN_STATUS.BA_OWNER`, RO. -/
def TRC_WN_STATUS.BA_OWNER (p : Nat) : Cell := ⟨(TRC_WN_STATUS.off p), 7, 8, 0⟩
/-- `TRC_WN_STATUS.BA_UNITS`, RO. -/
def TRC_WN_STATUS.BA_UNITS (p : Nat) : Cell := ⟨(TRC_WN_STATUS.off p), 3, 4, 0⟩
/-- The fields of `TRC_WN_STATUS`. -/
def TRC_WN_STATUS.fields (p : Nat) : List Field :=
  [⟨TRC_WN_STATUS.AB_CLAIMED p, .ro, .any⟩,
   ⟨TRC_WN_STATUS.AB_OWNER p, .ro, .any⟩,
   ⟨TRC_WN_STATUS.AB_UNITS p, .ro, .any⟩,
   ⟨TRC_WN_STATUS.BA_CLAIMED p, .ro, .any⟩,
   ⟨TRC_WN_STATUS.BA_OWNER p, .ro, .any⟩,
   ⟨TRC_WN_STATUS.BA_UNITS p, .ro, .any⟩]

/-- The offset of `SNP_CTRL` (12, Table 19, R386). -/
def SNP_CTRL.off : Nat := 0xFF000
/-- `SNP_CTRL.REARM`, WO. -/
def SNP_CTRL.REARM : Cell := ⟨SNP_CTRL.off, 31, 1, 0⟩
/-- `SNP_CTRL.AUTO_REARM`, RW. -/
def SNP_CTRL.AUTO_REARM : Cell := ⟨SNP_CTRL.off, 0, 16, 0⟩
/-- The fields of `SNP_CTRL`. -/
def SNP_CTRL.fields : List Field :=
  [⟨SNP_CTRL.REARM, .wo, .any⟩,
   ⟨SNP_CTRL.AUTO_REARM, .rw, .any⟩]

/-- The offset of `SNP_STATUS` (12, Table 19, R386). -/
def SNP_STATUS.off : Nat := 0xFF004
/-- `SNP_STATUS.STATE`, RO. -/
def SNP_STATUS.STATE : Cell := ⟨SNP_STATUS.off, 31, 1, 0⟩
/-- `SNP_STATUS.SOURCES`, RO. -/
def SNP_STATUS.SOURCES : Cell := ⟨SNP_STATUS.off, 27, 4, 0⟩
/-- `SNP_STATUS.LATCH_ID`, RO. -/
def SNP_STATUS.LATCH_ID : Cell := ⟨SNP_STATUS.off, 16, 8, 0⟩
/-- `SNP_STATUS.TILES_LATCHED`, RO. -/
def SNP_STATUS.TILES_LATCHED : Cell := ⟨SNP_STATUS.off, 8, 8, 0⟩
/-- `SNP_STATUS.MISSED`, RO. -/
def SNP_STATUS.MISSED : Cell := ⟨SNP_STATUS.off, 0, 8, 0⟩
/-- The fields of `SNP_STATUS`. -/
def SNP_STATUS.fields : List Field :=
  [⟨SNP_STATUS.STATE, .ro, .any⟩,
   ⟨SNP_STATUS.SOURCES, .ro, .any⟩,
   ⟨SNP_STATUS.LATCH_ID, .ro, .any⟩,
   ⟨SNP_STATUS.TILES_LATCHED, .ro, .any⟩,
   ⟨SNP_STATUS.MISSED, .ro, .any⟩]

/-- The offset of `SNP_TIME` (12, Table 19, R386). -/
def SNP_TIME.off (k : Nat) : Nat := 0xFF008 + 4 * (k % 2)
/-- `SNP_TIME.TIME`, RO. -/
def SNP_TIME.TIME (k : Nat) : Cell := ⟨(SNP_TIME.off k), 0, 32, 0⟩
/-- The fields of `SNP_TIME`. -/
def SNP_TIME.fields (k : Nat) : List Field :=
  [⟨SNP_TIME.TIME k, .ro, .any⟩]

/-- The offset of `TRC_WIN_STATUS` (12, Table 20, R386). -/
def TRC_WIN_STATUS.off (s w : Nat) : Nat := 0x1000000 + 0x10000 * (s % 256) + 0x9000 + 0x10 * (w % 16) + 0x0
/-- `TRC_WIN_STATUS.STATE`, RO. -/
def TRC_WIN_STATUS.STATE (s w : Nat) : Cell := ⟨(TRC_WIN_STATUS.off s w), 28, 4, 0⟩
/-- `TRC_WIN_STATUS.KIND`, RO. -/
def TRC_WIN_STATUS.KIND (s w : Nat) : Cell := ⟨(TRC_WIN_STATUS.off s w), 27, 1, 0⟩
/-- `TRC_WIN_STATUS.MODE`, RO. -/
def TRC_WIN_STATUS.MODE (s w : Nat) : Cell := ⟨(TRC_WIN_STATUS.off s w), 26, 1, 0⟩
/-- `TRC_WIN_STATUS.RESUME`, WO. -/
def TRC_WIN_STATUS.RESUME (s w : Nat) : Cell := ⟨(TRC_WIN_STATUS.off s w), 25, 1, 0⟩
/-- `TRC_WIN_STATUS.GRANULES`, RO. -/
def TRC_WIN_STATUS.GRANULES (s w : Nat) : Cell := ⟨(TRC_WIN_STATUS.off s w), 0, 17, 0⟩
/-- The fields of `TRC_WIN_STATUS`. -/
def TRC_WIN_STATUS.fields (s w : Nat) : List Field :=
  [⟨TRC_WIN_STATUS.STATE s w, .ro, .any⟩,
   ⟨TRC_WIN_STATUS.KIND s w, .ro, .any⟩,
   ⟨TRC_WIN_STATUS.MODE s w, .ro, .any⟩,
   ⟨TRC_WIN_STATUS.RESUME s w, .wo, .any⟩,
   ⟨TRC_WIN_STATUS.GRANULES s w, .ro, .any⟩]

/-- The offset of `TRC_WIN_POS` (12, Table 20, R386). -/
def TRC_WIN_POS.off (s w : Nat) : Nat := 0x1000000 + 0x10000 * (s % 256) + 0x9000 + 0x10 * (w % 16) + 0x4
/-- `TRC_WIN_POS.POS`, RO. -/
def TRC_WIN_POS.POS (s w : Nat) : Cell := ⟨(TRC_WIN_POS.off s w), 0, 32, 0⟩
/-- The fields of `TRC_WIN_POS`. -/
def TRC_WIN_POS.fields (s w : Nat) : List Field :=
  [⟨TRC_WIN_POS.POS s w, .ro, .any⟩]

/-- The offset of `TRC_WIN_READ` (12, Table 20, R386). -/
def TRC_WIN_READ.off (s w : Nat) : Nat := 0x1000000 + 0x10000 * (s % 256) + 0x9000 + 0x10 * (w % 16) + 0x8
/-- `TRC_WIN_READ.READ`, RW. -/
def TRC_WIN_READ.READ (s w : Nat) : Cell := ⟨(TRC_WIN_READ.off s w), 0, 32, 0⟩
/-- The fields of `TRC_WIN_READ`. -/
def TRC_WIN_READ.fields (s w : Nat) : List Field :=
  [⟨TRC_WIN_READ.READ s w, .rw, .any⟩]

/-- The offset of `TRC_WIN_DROPS` (12, Table 20, R386). -/
def TRC_WIN_DROPS.off (s w : Nat) : Nat := 0x1000000 + 0x10000 * (s % 256) + 0x9000 + 0x10 * (w % 16) + 0xC
/-- `TRC_WIN_DROPS.DROPS`, RO. -/
def TRC_WIN_DROPS.DROPS (s w : Nat) : Cell := ⟨(TRC_WIN_DROPS.off s w), 0, 32, 0⟩
/-- The fields of `TRC_WIN_DROPS`. -/
def TRC_WIN_DROPS.fields (s w : Nat) : List Field :=
  [⟨TRC_WIN_DROPS.DROPS s w, .ro, .any⟩]

/-- The offset of `PWR_STATUS` (13, Table 9, R412). -/
def PWR_STATUS.off : Nat := 0x3000
/-- `PWR_STATUS.STATE`, RO. -/
def PWR_STATUS.STATE : Cell := ⟨PWR_STATUS.off, 28, 4, 0⟩
/-- `PWR_STATUS.PL`, RO. -/
def PWR_STATUS.PL : Cell := ⟨PWR_STATUS.off, 26, 2, 1⟩
/-- `PWR_STATUS.PL_TARGET`, RO. -/
def PWR_STATUS.PL_TARGET : Cell := ⟨PWR_STATUS.off, 24, 2, 1⟩
/-- `PWR_STATUS.VID_CODE`, RO. -/
def PWR_STATUS.VID_CODE : Cell := ⟨PWR_STATUS.off, 16, 8, 44⟩
/-- `PWR_STATUS.VID_BUSY`, RO. -/
def PWR_STATUS.VID_BUSY : Cell := ⟨PWR_STATUS.off, 15, 1, 0⟩
/-- `PWR_STATUS.ACTIVE_PORTS`, RO. -/
def PWR_STATUS.ACTIVE_PORTS : Cell := ⟨PWR_STATUS.off, 0, 7, 0⟩
/-- The fields of `PWR_STATUS`. -/
def PWR_STATUS.fields : List Field :=
  [⟨PWR_STATUS.STATE, .ro, .any⟩,
   ⟨PWR_STATUS.PL, .ro, .any⟩,
   ⟨PWR_STATUS.PL_TARGET, .ro, .any⟩,
   ⟨PWR_STATUS.VID_CODE, .ro, .any⟩,
   ⟨PWR_STATUS.VID_BUSY, .ro, .any⟩,
   ⟨PWR_STATUS.ACTIVE_PORTS, .ro, .any⟩]

/-- The offset of `PWR_POLICY` (13, Table 10, R412). -/
def PWR_POLICY.off : Nat := 0x3004
/-- `PWR_POLICY.DEEP_EN`, RWT. -/
def PWR_POLICY.DEEP_EN : Cell := ⟨PWR_POLICY.off, 31, 1, 0⟩
/-- `PWR_POLICY.OFF_EN`, RWT. -/
def PWR_POLICY.OFF_EN : Cell := ⟨PWR_POLICY.off, 30, 1, 0⟩
/-- `PWR_POLICY.PL_FLOOR`, RWT. -/
def PWR_POLICY.PL_FLOOR : Cell := ⟨PWR_POLICY.off, 28, 2, 0⟩
/-- `PWR_POLICY.VID_WAIT`, RWT. -/
def PWR_POLICY.VID_WAIT : Cell := ⟨PWR_POLICY.off, 16, 6, 50⟩
/-- `PWR_POLICY.DEEP_TMAX`, RWT. -/
def PWR_POLICY.DEEP_TMAX : Cell := ⟨PWR_POLICY.off, 8, 8, 70⟩
/-- The fields of `PWR_POLICY`. -/
def PWR_POLICY.fields : List Field :=
  [⟨PWR_POLICY.DEEP_EN, .rwt, .any⟩,
   ⟨PWR_POLICY.OFF_EN, .rwt, .any⟩,
   ⟨PWR_POLICY.PL_FLOOR, .rwt, .any⟩,
   ⟨PWR_POLICY.VID_WAIT, .rwt, (.clamp 10 50)⟩,
   ⟨PWR_POLICY.DEEP_TMAX, .rwt, (.clamp 0 85)⟩]

/-- The offset of `PWR_TIMERS` (13, Table 11, R412). -/
def PWR_TIMERS.off : Nat := 0x3008
/-- `PWR_TIMERS.TILE_IDLE`, RWT. -/
def PWR_TIMERS.TILE_IDLE : Cell := ⟨PWR_TIMERS.off, 24, 8, 10⟩
/-- `PWR_TIMERS.IDLE_TIMER`, RWT. -/
def PWR_TIMERS.IDLE_TIMER : Cell := ⟨PWR_TIMERS.off, 20, 4, 1⟩
/-- `PWR_TIMERS.SLEEP_TIMER`, RWT. -/
def PWR_TIMERS.SLEEP_TIMER : Cell := ⟨PWR_TIMERS.off, 12, 8, 10⟩
/-- `PWR_TIMERS.DEEP_TIMER`, RWT. -/
def PWR_TIMERS.DEEP_TIMER : Cell := ⟨PWR_TIMERS.off, 8, 4, 1⟩
/-- `PWR_TIMERS.OFF_TIMER`, RWT. -/
def PWR_TIMERS.OFF_TIMER : Cell := ⟨PWR_TIMERS.off, 4, 4, 1⟩
/-- `PWR_TIMERS.PARK_POLL`, RWT. -/
def PWR_TIMERS.PARK_POLL : Cell := ⟨PWR_TIMERS.off, 0, 4, 10⟩
/-- The fields of `PWR_TIMERS`. -/
def PWR_TIMERS.fields : List Field :=
  [⟨PWR_TIMERS.TILE_IDLE, .rwt, (.clamp 1 255)⟩,
   ⟨PWR_TIMERS.IDLE_TIMER, .rwt, (.clamp 1 15)⟩,
   ⟨PWR_TIMERS.SLEEP_TIMER, .rwt, (.clamp 1 255)⟩,
   ⟨PWR_TIMERS.DEEP_TIMER, .rwt, (.clamp 1 15)⟩,
   ⟨PWR_TIMERS.OFF_TIMER, .rwt, (.clamp 1 15)⟩,
   ⟨PWR_TIMERS.PARK_POLL, .rwt, (.clamp 1 15)⟩]

/-- The offset of `PWR_PORT_ARM` (13, Table 12, R412). -/
def PWR_PORT_ARM.off (k : Nat) : Nat := 0x300C + 4 * (k % 2)
/-- `PWR_PORT_ARM.PORTS`, RWT. -/
def PWR_PORT_ARM.PORTS (k : Nat) : Cell := ⟨(PWR_PORT_ARM.off k), 0, 32, 0⟩
/-- The fields of `PWR_PORT_ARM`. -/
def PWR_PORT_ARM.fields (k : Nat) : List Field :=
  [⟨PWR_PORT_ARM.PORTS k, .rwt, .any⟩]

/-- The offset of `PWR_WAKE_SOURCE` (13, Table 13, R412). -/
def PWR_WAKE_SOURCE.off : Nat := 0x3014
/-- `PWR_WAKE_SOURCE.FROM_STATE`, RO. -/
def PWR_WAKE_SOURCE.FROM_STATE : Cell := ⟨PWR_WAKE_SOURCE.off, 16, 3, 0⟩
/-- `PWR_WAKE_SOURCE.SIGDET_PORT`, RO. -/
def PWR_WAKE_SOURCE.SIGDET_PORT : Cell := ⟨PWR_WAKE_SOURCE.off, 8, 7, 0⟩
/-- `PWR_WAKE_SOURCE.INTERNAL`, RW1CS. -/
def PWR_WAKE_SOURCE.INTERNAL : Cell := ⟨PWR_WAKE_SOURCE.off, 5, 1, 0⟩
/-- `PWR_WAKE_SOURCE.AON_TIMER`, RW1CS. -/
def PWR_WAKE_SOURCE.AON_TIMER : Cell := ⟨PWR_WAKE_SOURCE.off, 4, 1, 0⟩
/-- `PWR_WAKE_SOURCE.SIGDET`, RW1CS. -/
def PWR_WAKE_SOURCE.SIGDET : Cell := ⟨PWR_WAKE_SOURCE.off, 3, 1, 0⟩
/-- `PWR_WAKE_SOURCE.MGMT_LINK`, RW1CS. -/
def PWR_WAKE_SOURCE.MGMT_LINK : Cell := ⟨PWR_WAKE_SOURCE.off, 2, 1, 0⟩
/-- `PWR_WAKE_SOURCE.WAKE_IN`, RW1CS. -/
def PWR_WAKE_SOURCE.WAKE_IN : Cell := ⟨PWR_WAKE_SOURCE.off, 1, 1, 0⟩
/-- `PWR_WAKE_SOURCE.SB_MATCH`, RW1CS. -/
def PWR_WAKE_SOURCE.SB_MATCH : Cell := ⟨PWR_WAKE_SOURCE.off, 0, 1, 0⟩
/-- The fields of `PWR_WAKE_SOURCE`. -/
def PWR_WAKE_SOURCE.fields : List Field :=
  [⟨PWR_WAKE_SOURCE.FROM_STATE, .ro, .any⟩,
   ⟨PWR_WAKE_SOURCE.SIGDET_PORT, .ro, .any⟩,
   ⟨PWR_WAKE_SOURCE.INTERNAL, .rw1cs, .any⟩,
   ⟨PWR_WAKE_SOURCE.AON_TIMER, .rw1cs, .any⟩,
   ⟨PWR_WAKE_SOURCE.SIGDET, .rw1cs, .any⟩,
   ⟨PWR_WAKE_SOURCE.MGMT_LINK, .rw1cs, .any⟩,
   ⟨PWR_WAKE_SOURCE.WAKE_IN, .rw1cs, .any⟩,
   ⟨PWR_WAKE_SOURCE.SB_MATCH, .rw1cs, .any⟩]

/-- The offset of `PWR_WAKE_STATUS` (13, Table 14, R412). -/
def PWR_WAKE_STATUS.off : Nat := 0x3018
/-- `PWR_WAKE_STATUS.LOFT_FAIL`, RW1CS. -/
def PWR_WAKE_STATUS.LOFT_FAIL : Cell := ⟨PWR_WAKE_STATUS.off, 24, 8, 0⟩
/-- `PWR_WAKE_STATUS.ABANDONED`, RW1C. -/
def PWR_WAKE_STATUS.ABANDONED : Cell := ⟨PWR_WAKE_STATUS.off, 14, 1, 0⟩
/-- `PWR_WAKE_STATUS.WAKE_US`, RO. -/
def PWR_WAKE_STATUS.WAKE_US : Cell := ⟨PWR_WAKE_STATUS.off, 0, 14, 0⟩
/-- The fields of `PWR_WAKE_STATUS`. -/
def PWR_WAKE_STATUS.fields : List Field :=
  [⟨PWR_WAKE_STATUS.LOFT_FAIL, .rw1cs, .any⟩,
   ⟨PWR_WAKE_STATUS.ABANDONED, .rw1c, .any⟩,
   ⟨PWR_WAKE_STATUS.WAKE_US, .ro, .any⟩]

/-- The offset of `PWR_AON_STATUS` (13, Table 15, R412). -/
def PWR_AON_STATUS.off : Nat := 0x301C
/-- `PWR_AON_STATUS.BOR`, RW1CS. -/
def PWR_AON_STATUS.BOR : Cell := ⟨PWR_AON_STATUS.off, 31, 1, 0⟩
/-- `PWR_AON_STATUS.LOAD`, RW1CS. -/
def PWR_AON_STATUS.LOAD : Cell := ⟨PWR_AON_STATUS.off, 30, 1, 0⟩
/-- `PWR_AON_STATUS.SUPPLY`, RW1CS. -/
def PWR_AON_STATUS.SUPPLY : Cell := ⟨PWR_AON_STATUS.off, 29, 1, 0⟩
/-- The fields of `PWR_AON_STATUS`. -/
def PWR_AON_STATUS.fields : List Field :=
  [⟨PWR_AON_STATUS.BOR, .rw1cs, .any⟩,
   ⟨PWR_AON_STATUS.LOAD, .rw1cs, .any⟩,
   ⟨PWR_AON_STATUS.SUPPLY, .rw1cs, .any⟩]

/-- The offset of `PWR_AON_REC` (13, Table 15, R412). -/
def PWR_AON_REC.off (i : Nat) : Nat := 0x3040 + 4 * (i % 16)
/-- `PWR_AON_REC.DATA`, RW. -/
def PWR_AON_REC.DATA (i : Nat) : Cell := ⟨(PWR_AON_REC.off i), 0, 32, 0⟩
/-- The fields of `PWR_AON_REC`. -/
def PWR_AON_REC.fields (i : Nat) : List Field :=
  [⟨PWR_AON_REC.DATA i, .rw, .any⟩]

/-- The offset of `CLK_STATUS` (13, Table 16, R412). -/
def CLK_STATUS.off : Nat := 0x4004
/-- `CLK_STATUS.ROOT_LOCK`, RO. -/
def CLK_STATUS.ROOT_LOCK : Cell := ⟨CLK_STATUS.off, 31, 1, 0⟩
/-- `CLK_STATUS.REFCLK_OK`, RO. -/
def CLK_STATUS.REFCLK_OK : Cell := ⟨CLK_STATUS.off, 30, 1, 0⟩
/-- `CLK_STATUS.CORE_SRC`, RO. -/
def CLK_STATUS.CORE_SRC : Cell := ⟨CLK_STATUS.off, 29, 1, 0⟩
/-- `CLK_STATUS.MCLK_SRC`, RO. -/
def CLK_STATUS.MCLK_SRC : Cell := ⟨CLK_STATUS.off, 28, 1, 0⟩
/-- `CLK_STATUS.REFCLK_LOST`, RW1C. -/
def CLK_STATUS.REFCLK_LOST : Cell := ⟨CLK_STATUS.off, 27, 1, 0⟩
/-- `CLK_STATUS.LOSS_CNT`, RO. -/
def CLK_STATUS.LOSS_CNT : Cell := ⟨CLK_STATUS.off, 16, 8, 0⟩
/-- The fields of `CLK_STATUS`. -/
def CLK_STATUS.fields : List Field :=
  [⟨CLK_STATUS.ROOT_LOCK, .ro, .any⟩,
   ⟨CLK_STATUS.REFCLK_OK, .ro, .any⟩,
   ⟨CLK_STATUS.CORE_SRC, .ro, .any⟩,
   ⟨CLK_STATUS.MCLK_SRC, .ro, .any⟩,
   ⟨CLK_STATUS.REFCLK_LOST, .rw1c, .any⟩,
   ⟨CLK_STATUS.LOSS_CNT, .ro, .any⟩]

/-- The offset of `CLK_AON_RATIO` (13, Table 17, R412). -/
def CLK_AON_RATIO.off : Nat := 0x4008
/-- `CLK_AON_RATIO.RATIO`, RO. -/
def CLK_AON_RATIO.RATIO : Cell := ⟨CLK_AON_RATIO.off, 0, 32, 2000000000⟩
/-- The fields of `CLK_AON_RATIO`. -/
def CLK_AON_RATIO.fields : List Field :=
  [⟨CLK_AON_RATIO.RATIO, .ro, .any⟩]

/-- The offset of `RST_STATUS` (14, Table 8, R436). -/
def RST_STATUS.off : Nat := 0x5000
/-- `RST_STATUS.REASON`, RO. -/
def RST_STATUS.REASON : Cell := ⟨RST_STATUS.off, 28, 4, 0⟩
/-- `RST_STATUS.THERMTRIP_SEEN`, RW1C. -/
def RST_STATUS.THERMTRIP_SEEN : Cell := ⟨RST_STATUS.off, 27, 1, 0⟩
/-- `RST_STATUS.BOOT_DONE`, RO. -/
def RST_STATUS.BOOT_DONE : Cell := ⟨RST_STATUS.off, 26, 1, 0⟩
/-- `RST_STATUS.PIN_CNT`, RO. -/
def RST_STATUS.PIN_CNT : Cell := ⟨RST_STATUS.off, 8, 8, 0⟩
/-- The fields of `RST_STATUS`. -/
def RST_STATUS.fields : List Field :=
  [⟨RST_STATUS.REASON, .ro, .any⟩,
   ⟨RST_STATUS.THERMTRIP_SEEN, .rw1c, .any⟩,
   ⟨RST_STATUS.BOOT_DONE, .ro, .any⟩,
   ⟨RST_STATUS.PIN_CNT, .ro, .any⟩]

/-- The offset of `RST_CMD` (14, Table 9, R436). -/
def RST_CMD.off : Nat := 0x5004
/-- `RST_CMD.GO`, WO. -/
def RST_CMD.GO : Cell := ⟨RST_CMD.off, 31, 1, 0⟩
/-- `RST_CMD.ACTION`, WO. -/
def RST_CMD.ACTION : Cell := ⟨RST_CMD.off, 29, 2, 0⟩
/-- `RST_CMD.INDEX`, WO. -/
def RST_CMD.INDEX : Cell := ⟨RST_CMD.off, 16, 6, 0⟩
/-- `RST_CMD.KEY`, WO. -/
def RST_CMD.KEY : Cell := ⟨RST_CMD.off, 8, 8, 0⟩
/-- The fields of `RST_CMD`. -/
def RST_CMD.fields : List Field :=
  [⟨RST_CMD.GO, .wo, .any⟩,
   ⟨RST_CMD.ACTION, .wo, .any⟩,
   ⟨RST_CMD.INDEX, .wo, .any⟩,
   ⟨RST_CMD.KEY, .wo, .any⟩]

/-- The offset of `RST_CNT` (14, Table 10, R436). -/
def RST_CNT.off : Nat := 0x5008
/-- `RST_CNT.TILE_RESETS`, RO. -/
def RST_CNT.TILE_RESETS : Cell := ⟨RST_CNT.off, 24, 8, 0⟩
/-- `RST_CNT.RESTRUCTURES`, RO. -/
def RST_CNT.RESTRUCTURES : Cell := ⟨RST_CNT.off, 16, 8, 0⟩
/-- `RST_CNT.PORT_RESETS`, RO. -/
def RST_CNT.PORT_RESETS : Cell := ⟨RST_CNT.off, 0, 16, 0⟩
/-- The fields of `RST_CNT`. -/
def RST_CNT.fields : List Field :=
  [⟨RST_CNT.TILE_RESETS, .ro, .any⟩,
   ⟨RST_CNT.RESTRUCTURES, .ro, .any⟩,
   ⟨RST_CNT.PORT_RESETS, .ro, .any⟩]

/-- The offset of `ERR_DP_STATUS` (15, Table 7, R452). -/
def ERR_DP_STATUS.off : Nat := 0x7000
/-- `ERR_DP_STATUS.CODES`, RW1CS. -/
def ERR_DP_STATUS.CODES : Cell := ⟨ERR_DP_STATUS.off, 1, 18, 0⟩
/-- The fields of `ERR_DP_STATUS`. -/
def ERR_DP_STATUS.fields : List Field :=
  [⟨ERR_DP_STATUS.CODES, .rw1cs, .any⟩]

/-- The offset of `ERR_DP_MASK` (15, Table 7, R452). -/
def ERR_DP_MASK.off : Nat := 0x7004
/-- `ERR_DP_MASK.CODES`, RWS. -/
def ERR_DP_MASK.CODES : Cell := ⟨ERR_DP_MASK.off, 1, 18, 0⟩
/-- The fields of `ERR_DP_MASK`. -/
def ERR_DP_MASK.fields : List Field :=
  [⟨ERR_DP_MASK.CODES, .rws, .any⟩]

/-- The offset of `ERR_DP_PORTS` (15, Table 8, R452). -/
def ERR_DP_PORTS.off (k : Nat) : Nat := 0x7008 + 4 * (k % 2)
/-- `ERR_DP_PORTS.PORTS`, RW1CS. -/
def ERR_DP_PORTS.PORTS (k : Nat) : Cell := ⟨(ERR_DP_PORTS.off k), 0, 32, 0⟩
/-- The fields of `ERR_DP_PORTS`. -/
def ERR_DP_PORTS.fields (k : Nat) : List Field :=
  [⟨ERR_DP_PORTS.PORTS k, .rw1cs, .any⟩]

/-- The offset of `ERR_DP_LOG0` (15, Table 9, R452). -/
def ERR_DP_LOG0.off : Nat := 0x7010
/-- `ERR_DP_LOG0.VALID`, RW1CS. -/
def ERR_DP_LOG0.VALID : Cell := ⟨ERR_DP_LOG0.off, 31, 1, 0⟩
/-- `ERR_DP_LOG0.OVERFLOW`, RW1CS. -/
def ERR_DP_LOG0.OVERFLOW : Cell := ⟨ERR_DP_LOG0.off, 30, 1, 0⟩
/-- `ERR_DP_LOG0.CODE`, RO. -/
def ERR_DP_LOG0.CODE : Cell := ⟨ERR_DP_LOG0.off, 16, 8, 0⟩
/-- `ERR_DP_LOG0.PORT`, RO. -/
def ERR_DP_LOG0.PORT : Cell := ⟨ERR_DP_LOG0.off, 8, 8, 0⟩
/-- `ERR_DP_LOG0.DETAIL`, RO. -/
def ERR_DP_LOG0.DETAIL : Cell := ⟨ERR_DP_LOG0.off, 0, 8, 0⟩
/-- The fields of `ERR_DP_LOG0`. -/
def ERR_DP_LOG0.fields : List Field :=
  [⟨ERR_DP_LOG0.VALID, .rw1cs, .any⟩,
   ⟨ERR_DP_LOG0.OVERFLOW, .rw1cs, .any⟩,
   ⟨ERR_DP_LOG0.CODE, .ro, .any⟩,
   ⟨ERR_DP_LOG0.PORT, .ro, .any⟩,
   ⟨ERR_DP_LOG0.DETAIL, .ro, .any⟩]

/-- The offset of `ERR_DP_LOG_TIME` (15, Table 10, R452). -/
def ERR_DP_LOG_TIME.off (k : Nat) : Nat := 0x7014 + 4 * (k % 2)
/-- `ERR_DP_LOG_TIME.TIME`, RO. -/
def ERR_DP_LOG_TIME.TIME (k : Nat) : Cell := ⟨(ERR_DP_LOG_TIME.off k), 0, 32, 0⟩
/-- The fields of `ERR_DP_LOG_TIME`. -/
def ERR_DP_LOG_TIME.fields (k : Nat) : List Field :=
  [⟨ERR_DP_LOG_TIME.TIME k, .ro, .any⟩]

/-- The offset of `ERR_DP_CNT` (15, Table 11, R452). -/
def ERR_DP_CNT.off : Nat := 0x701C
/-- `ERR_DP_CNT.CORRECTABLE`, RO. -/
def ERR_DP_CNT.CORRECTABLE : Cell := ⟨ERR_DP_CNT.off, 16, 16, 0⟩
/-- `ERR_DP_CNT.NONFATAL`, RO. -/
def ERR_DP_CNT.NONFATAL : Cell := ⟨ERR_DP_CNT.off, 8, 8, 0⟩
/-- `ERR_DP_CNT.FATAL`, RO. -/
def ERR_DP_CNT.FATAL : Cell := ⟨ERR_DP_CNT.off, 0, 8, 0⟩
/-- The fields of `ERR_DP_CNT`. -/
def ERR_DP_CNT.fields : List Field :=
  [⟨ERR_DP_CNT.CORRECTABLE, .ro, .any⟩,
   ⟨ERR_DP_CNT.NONFATAL, .ro, .any⟩,
   ⟨ERR_DP_CNT.FATAL, .ro, .any⟩]

/-- The offset of `ERR_CTRL` (15, Table 12, R452). -/
def ERR_CTRL.off : Nat := 0x7020
/-- `ERR_CTRL.AUTO_TILE_RESET`, RWS. -/
def ERR_CTRL.AUTO_TILE_RESET : Cell := ⟨ERR_CTRL.off, 31, 1, 1⟩
/-- The fields of `ERR_CTRL`. -/
def ERR_CTRL.fields : List Field :=
  [⟨ERR_CTRL.AUTO_TILE_RESET, .rws, .any⟩]

/-- The offset of `SB_CTRL` (16, Table 3, R459). -/
def SB_CTRL.off : Nat := 0x8000
/-- `SB_CTRL.ALERT_EN`, RWS. -/
def SB_CTRL.ALERT_EN : Cell := ⟨SB_CTRL.off, 31, 1, 1⟩
/-- `SB_CTRL.ALERT_CLASS`, RWS. -/
def SB_CTRL.ALERT_CLASS : Cell := ⟨SB_CTRL.off, 29, 2, 1⟩
/-- `SB_CTRL.PEC_REQUIRED`, RWS. -/
def SB_CTRL.PEC_REQUIRED : Cell := ⟨SB_CTRL.off, 28, 1, 0⟩
/-- The fields of `SB_CTRL`. -/
def SB_CTRL.fields : List Field :=
  [⟨SB_CTRL.ALERT_EN, .rws, .any⟩,
   ⟨SB_CTRL.ALERT_CLASS, .rws, (.upTo 2)⟩,
   ⟨SB_CTRL.PEC_REQUIRED, .rws, .any⟩]

/-- The offset of `SB_STATUS` (16, Table 4, R459). -/
def SB_STATUS.off : Nat := 0x8004
/-- `SB_STATUS.ADDRESS`, RO. -/
def SB_STATUS.ADDRESS : Cell := ⟨SB_STATUS.off, 24, 7, 0x58⟩
/-- `SB_STATUS.ALERT_PENDING`, RO. -/
def SB_STATUS.ALERT_PENDING : Cell := ⟨SB_STATUS.off, 23, 1, 0⟩
/-- `SB_STATUS.PEC_ERR`, RW1C. -/
def SB_STATUS.PEC_ERR : Cell := ⟨SB_STATUS.off, 22, 1, 0⟩
/-- `SB_STATUS.TIMEOUT`, RW1C. -/
def SB_STATUS.TIMEOUT : Cell := ⟨SB_STATUS.off, 21, 1, 0⟩
/-- `SB_STATUS.LAST_STATUS`, RO. -/
def SB_STATUS.LAST_STATUS : Cell := ⟨SB_STATUS.off, 8, 8, 0⟩
/-- The fields of `SB_STATUS`. -/
def SB_STATUS.fields : List Field :=
  [⟨SB_STATUS.ADDRESS, .ro, .any⟩,
   ⟨SB_STATUS.ALERT_PENDING, .ro, .any⟩,
   ⟨SB_STATUS.PEC_ERR, .rw1c, .any⟩,
   ⟨SB_STATUS.TIMEOUT, .rw1c, .any⟩,
   ⟨SB_STATUS.LAST_STATUS, .ro, .any⟩]

/-- The offset of `SB_CNT` (16, Table 5, R459). -/
def SB_CNT.off : Nat := 0x8008
/-- `SB_CNT.MESSAGES`, RO. -/
def SB_CNT.MESSAGES : Cell := ⟨SB_CNT.off, 16, 16, 0⟩
/-- `SB_CNT.ERRORS`, RO. -/
def SB_CNT.ERRORS : Cell := ⟨SB_CNT.off, 0, 8, 0⟩
/-- The fields of `SB_CNT`. -/
def SB_CNT.fields : List Field :=
  [⟨SB_CNT.MESSAGES, .ro, .any⟩,
   ⟨SB_CNT.ERRORS, .ro, .any⟩]

/-- The offset of `TIM_SET` (12, R364, R386). -/
def TIM_SET.off (k : Nat) : Nat := 0x6020 + 4 * (k % 2)
/-- `TIM_SET.TIME`, RW. -/
def TIM_SET.TIME (k : Nat) : Cell := ⟨(TIM_SET.off k), 0, 32, 0⟩
/-- The fields of `TIM_SET`. -/
def TIM_SET.fields (k : Nat) : List Field :=
  [⟨TIM_SET.TIME k, .rw, .any⟩]

/-- `PRT_MODE.A_SEGMENT` or `B_SEGMENT` of a Port side. -/
def PRT_MODE.SEGMENT (q : Nat) : Cell := if q % 2 = 0 then PRT_MODE.A_SEGMENT (q / 2) else PRT_MODE.B_SEGMENT (q / 2)
/-- `PRT_MODE.A_WIDTH` or `B_WIDTH` of a Port side. -/
def PRT_MODE.WIDTH (q : Nat) : Cell := if q % 2 = 0 then PRT_MODE.A_WIDTH (q / 2) else PRT_MODE.B_WIDTH (q / 2)
/-- `PRT_MODE.A_SPARES` or `B_SPARES` of a Port side. -/
def PRT_MODE.SPARES (q : Nat) : Cell := if q % 2 = 0 then PRT_MODE.A_SPARES (q / 2) else PRT_MODE.B_SPARES (q / 2)
/-- `PRT_DP_CTRL.A_SLOT` or `B_SLOT` of a Port side. -/
def PRT_DP_CTRL.SLOT (q : Nat) : Cell := if q % 2 = 0 then PRT_DP_CTRL.A_SLOT (q / 2) else PRT_DP_CTRL.B_SLOT (q / 2)
/-- `PRT_DP_STATUS.A_SLOT_NOW` or `B_SLOT_NOW` of a Port side. -/
def PRT_DP_STATUS.SLOT_NOW (q : Nat) : Cell :=
  if q % 2 = 0 then PRT_DP_STATUS.A_SLOT_NOW (q / 2) else PRT_DP_STATUS.B_SLOT_NOW (q / 2)
/-- `PRT_DP_STATUS.A_ALIGN` or `B_ALIGN` of a Port side. -/
def PRT_DP_STATUS.ALIGN (q : Nat) : Cell :=
  if q % 2 = 0 then PRT_DP_STATUS.A_ALIGN (q / 2) else PRT_DP_STATUS.B_ALIGN (q / 2)
/-- `PRT_DP_STATUS.A_REVERSED` or `B_REVERSED` of a Port side. -/
def PRT_DP_STATUS.REVERSED (q : Nat) : Cell :=
  if q % 2 = 0 then PRT_DP_STATUS.A_REVERSED (q / 2) else PRT_DP_STATUS.B_REVERSED (q / 2)
/-- `PRT_TRN_EVENTS.PARTNER_LOST_A` or `PARTNER_LOST_B` of a Port side. -/
def PRT_TRN_EVENTS.PARTNER_LOST (q : Nat) : Cell :=
  if q % 2 = 0 then PRT_TRN_EVENTS.PARTNER_LOST_A (q / 2) else PRT_TRN_EVENTS.PARTNER_LOST_B (q / 2)
/-- `LCH_ASSIGN.A_VALID` or `B_VALID` of a half-lane. -/
def LCH_ASSIGN.VALID (h : Nat) : Cell := if h % 2 = 0 then LCH_ASSIGN.A_VALID (h / 2) else LCH_ASSIGN.B_VALID (h / 2)
/-- `LCH_ASSIGN.A_PORT` or `B_PORT` of a half-lane. -/
def LCH_ASSIGN.PORT (h : Nat) : Cell := if h % 2 = 0 then LCH_ASSIGN.A_PORT (h / 2) else LCH_ASSIGN.B_PORT (h / 2)
/-- `LCH_ASSIGN.A_LOGICAL` or `B_LOGICAL` of a half-lane. -/
def LCH_ASSIGN.LOGICAL (h : Nat) : Cell :=
  if h % 2 = 0 then LCH_ASSIGN.A_LOGICAL (h / 2) else LCH_ASSIGN.B_LOGICAL (h / 2)
/-- `TIM_ASYM.A_ASYM` or `B_ASYM` of a Port side. -/
def TIM_ASYM.ASYM (q : Nat) : Cell := if q % 2 = 0 then TIM_ASYM.A_ASYM (q / 2) else TIM_ASYM.B_ASYM (q / 2)
/-- The field of `TRC_WN_STATUS` that tells whether a Winnow (w = 2p + d, d = 0 for AB) has an owner. -/
def TRC_WN_STATUS.CLAIMED (w : Nat) : Cell :=
  if w % 2 = 0 then TRC_WN_STATUS.AB_CLAIMED (w / 2) else TRC_WN_STATUS.BA_CLAIMED (w / 2)
/-- The field of `TRC_WN_STATUS` that names a Winnow's owner. -/
def TRC_WN_STATUS.OWNER (w : Nat) : Cell :=
  if w % 2 = 0 then TRC_WN_STATUS.AB_OWNER (w / 2) else TRC_WN_STATUS.BA_OWNER (w / 2)
/-- The field of `TRC_WN_STATUS` that reports a Winnow's enabled units. -/
def TRC_WN_STATUS.UNITS (w : Nat) : Cell :=
  if w % 2 = 0 then TRC_WN_STATUS.AB_UNITS (w / 2) else TRC_WN_STATUS.BA_UNITS (w / 2)

/-- The fields of the central-tile registers that are placed one by one (10, Table 4). -/
def fieldsOne (x : Nat) : List Field :=
  if x = GLB_REVISION.off then GLB_REVISION.fields
  else if x = GLB_TILE_STATUS.off then GLB_TILE_STATUS.fields
  else if x = CLK_DCLK_SEL.off then CLK_DCLK_SEL.fields
  else if x = CAL_POLICY.off then CAL_POLICY.fields
  else if x = CAL_CMD.off then CAL_CMD.fields
  else if x = CAL_STATUS.off then CAL_STATUS.fields
  else if x = CAL_GEN.off then CAL_GEN.fields
  else if x = ENG_CTRL.off then ENG_CTRL.fields
  else if x = IMG_STATUS.off then IMG_STATUS.fields
  else if x = IMG_CMD.off then IMG_CMD.fields
  else if x = TXN_SCOPE_G.off then TXN_SCOPE_G.fields
  else if x = TXN_CMD.off then TXN_CMD.fields
  else if x = TXN_STATUS.off then TXN_STATUS.fields
  else if x = IMG_KEYS.off then IMG_KEYS.fields
  else if x = IMG_BCT_INDEX.off then IMG_BCT_INDEX.fields
  else if x = GLB_ALIVE.off then GLB_ALIVE.fields
  else if x = GLB_MGMT_CTRL.off then GLB_MGMT_CTRL.fields
  else if x = GLB_MGMT_STATUS.off then GLB_MGMT_STATUS.fields
  else if x = GLB_MGMT_CNT.off then GLB_MGMT_CNT.fields
  else if x = SLC_DEF_S0.off then SLC_DEF_S0.fields
  else if x = GLB_FABRIC_ID.off then GLB_FABRIC_ID.fields
  else if x = TIM_CTRL.off then TIM_CTRL.fields
  else if x = TIM_STATUS.off then TIM_STATUS.fields
  else if x = TIM_UNCERT.off then TIM_UNCERT.fields
  else if x = TIM_OFFSET.off then TIM_OFFSET.fields
  else if x = TIM_RATE.off then TIM_RATE.fields
  else if x = TIM_PULSE.off then TIM_PULSE.fields
  else if x = TRC_TRIG_CTRL.off then TRC_TRIG_CTRL.fields
  else if x = TRC_SCHED_CTRL.off then TRC_SCHED_CTRL.fields
  else if x = SNP_CTRL.off then SNP_CTRL.fields
  else if x = SNP_STATUS.off then SNP_STATUS.fields
  else if x = PWR_STATUS.off then PWR_STATUS.fields
  else if x = PWR_POLICY.off then PWR_POLICY.fields
  else if x = PWR_TIMERS.off then PWR_TIMERS.fields
  else if x = PWR_WAKE_SOURCE.off then PWR_WAKE_SOURCE.fields
  else if x = PWR_WAKE_STATUS.off then PWR_WAKE_STATUS.fields
  else if x = PWR_AON_STATUS.off then PWR_AON_STATUS.fields
  else if x = CLK_STATUS.off then CLK_STATUS.fields
  else if x = CLK_AON_RATIO.off then CLK_AON_RATIO.fields
  else if x = RST_STATUS.off then RST_STATUS.fields
  else if x = RST_CMD.off then RST_CMD.fields
  else if x = RST_CNT.off then RST_CNT.fields
  else if x = ERR_DP_STATUS.off then ERR_DP_STATUS.fields
  else if x = ERR_DP_MASK.off then ERR_DP_MASK.fields
  else if x = ERR_DP_LOG0.off then ERR_DP_LOG0.fields
  else if x = ERR_DP_CNT.off then ERR_DP_CNT.fields
  else if x = ERR_CTRL.off then ERR_CTRL.fields
  else if x = SB_CTRL.off then SB_CTRL.fields
  else if x = SB_STATUS.off then SB_STATUS.fields
  else if x = SB_CNT.off then SB_CNT.fields
  else []

/-- The fields of a Port's registers, at `o` in its 4 KiB (10, Table 4). -/
def fieldsPort (p o : Nat) : List Field :=
  if PRT_MODE.off p = 0x100000 + 0x1000 * p + o then PRT_MODE.fields p
  else if PRT_DP_CTRL.off p = 0x100000 + 0x1000 * p + o then PRT_DP_CTRL.fields p
  else if PRT_DP_STATUS.off p = 0x100000 + 0x1000 * p + o then PRT_DP_STATUS.fields p
  else if PRT_SKP_ADJ.off (2 * p + 0) = 0x100000 + 0x1000 * p + o then PRT_SKP_ADJ.fields (2 * p + 0)
  else if PRT_SKP_ADJ.off (2 * p + 1) = 0x100000 + 0x1000 * p + o then PRT_SKP_ADJ.fields (2 * p + 1)
  else if PRT_TRN_CTRL.off p = 0x100000 + 0x1000 * p + o then PRT_TRN_CTRL.fields p
  else if PRT_TRN_STATUS.off p = 0x100000 + 0x1000 * p + o then PRT_TRN_STATUS.fields p
  else if PRT_TRN_EVENTS.off p = 0x100000 + 0x1000 * p + o then PRT_TRN_EVENTS.fields p
  else if PRT_SEG_CTRL.off (2 * p + 0) = 0x100000 + 0x1000 * p + o then PRT_SEG_CTRL.fields (2 * p + 0)
  else if PRT_SEG_CTRL.off (2 * p + 1) = 0x100000 + 0x1000 * p + o then PRT_SEG_CTRL.fields (2 * p + 1)
  else if PRT_SEG_STATUS.off (2 * p + 0) = 0x100000 + 0x1000 * p + o then PRT_SEG_STATUS.fields (2 * p + 0)
  else if PRT_SEG_STATUS.off (2 * p + 1) = 0x100000 + 0x1000 * p + o then PRT_SEG_STATUS.fields (2 * p + 1)
  else if PRT_SEG_CNT.off (2 * p + 0) = 0x100000 + 0x1000 * p + o then PRT_SEG_CNT.fields (2 * p + 0)
  else if PRT_SEG_CNT.off (2 * p + 1) = 0x100000 + 0x1000 * p + o then PRT_SEG_CNT.fields (2 * p + 1)
  else if PRT_TRL_CTRL.off (2 * p + 0) = 0x100000 + 0x1000 * p + o then PRT_TRL_CTRL.fields (2 * p + 0)
  else if PRT_TRL_CTRL.off (2 * p + 1) = 0x100000 + 0x1000 * p + o then PRT_TRL_CTRL.fields (2 * p + 1)
  else if PRT_TRL_STATUS.off (2 * p + 0) = 0x100000 + 0x1000 * p + o then PRT_TRL_STATUS.fields (2 * p + 0)
  else if PRT_TRL_STATUS.off (2 * p + 1) = 0x100000 + 0x1000 * p + o then PRT_TRL_STATUS.fields (2 * p + 1)
  else if PRT_TRL_CNT.off (2 * p + 0) = 0x100000 + 0x1000 * p + o then PRT_TRL_CNT.fields (2 * p + 0)
  else if PRT_TRL_CNT.off (2 * p + 1) = 0x100000 + 0x1000 * p + o then PRT_TRL_CNT.fields (2 * p + 1)
  else if PRT_TRL_CMD.off (2 * p + 0) = 0x100000 + 0x1000 * p + o then PRT_TRL_CMD.fields (2 * p + 0)
  else if PRT_TRL_CMD.off (2 * p + 1) = 0x100000 + 0x1000 * p + o then PRT_TRL_CMD.fields (2 * p + 1)
  else []

/-- The fields of a Lane Channel's registers, at `o` in its 256 bytes (10, Table 4). -/
def fieldsLane (n o : Nat) : List Field :=
  if o = 0 then LCH_ASSIGN.fields n
  else if LCH_EQ_CTRL.off (2 * n + 0) = 0x200000 + 0x100 * n + o then LCH_EQ_CTRL.fields (2 * n + 0)
  else if LCH_EQ_CTRL.off (2 * n + 1) = 0x200000 + 0x100 * n + o then LCH_EQ_CTRL.fields (2 * n + 1)
  else if LCH_FOM.off (2 * n + 0) = 0x200000 + 0x100 * n + o then LCH_FOM.fields (2 * n + 0)
  else if LCH_FOM.off (2 * n + 1) = 0x200000 + 0x100 * n + o then LCH_FOM.fields (2 * n + 1)
  else if LCH_RX_EQ.off (2 * n + 0) = 0x200000 + 0x100 * n + o then LCH_RX_EQ.fields (2 * n + 0)
  else if LCH_RX_EQ.off (2 * n + 1) = 0x200000 + 0x100 * n + o then LCH_RX_EQ.fields (2 * n + 1)
  else if LCH_TX_COEF.off (2 * n + 0) = 0x200000 + 0x100 * n + o then LCH_TX_COEF.fields (2 * n + 0)
  else if LCH_TX_COEF.off (2 * n + 1) = 0x200000 + 0x100 * n + o then LCH_TX_COEF.fields (2 * n + 1)
  else if LCH_DP_STATUS.off (2 * n + 0) = 0x200000 + 0x100 * n + o then LCH_DP_STATUS.fields (2 * n + 0)
  else if LCH_DP_STATUS.off (2 * n + 1) = 0x200000 + 0x100 * n + o then LCH_DP_STATUS.fields (2 * n + 1)
  else if LCH_SEG_FEC.off (2 * n + 0) = 0x200000 + 0x100 * n + o then LCH_SEG_FEC.fields (2 * n + 0)
  else if LCH_SEG_FEC.off (2 * n + 1) = 0x200000 + 0x100 * n + o then LCH_SEG_FEC.fields (2 * n + 1)
  else if LCH_LANE_FAULT.off (2 * n + 0) = 0x200000 + 0x100 * n + o then LCH_LANE_FAULT.fields (2 * n + 0)
  else if LCH_LANE_FAULT.off (2 * n + 1) = 0x200000 + 0x100 * n + o then LCH_LANE_FAULT.fields (2 * n + 1)
  else []

/-- The fields of the manager's registers of Slice `s` (11). -/
def fieldsSlice (s o : Nat) : List Field :=
  if o = 0x0 then SLC_CTRL.fields s
  else if o = 0x4 then SLC_STATUS.fields s
  else if o = 0x8 then SLC_RINGS.fields s
  else if o = 0xC then SLC_VECTORS.fields s
  else if o = 0x10 then SLC_SHARE.fields s
  else if o = 0x14 then SLC_PORTS.fields s 0
  else if o = 0x18 then SLC_PORTS.fields s 1
  else []

/-- The fields of a Slice window of BAR2 (11, Table 3). -/
def fieldsWindow (s o : Nat) : List Field :=
  if o = 0x0 then SLC_SELF_INFO.fields s
  else if o = 0x4 then SLC_SELF_CTRL.fields s
  else if o = 0x8 then SLC_SELF_STATUS.fields s
  else if 0x1000 ≤ o ∧ o < 0x9000 then
    let i := (o - 0x1000) / 0x20
    let r := (o - 0x1000) % 0x20
    if r = 0x0 then RNG_BASE.fields s i 0
    else if r = 0x4 then RNG_BASE.fields s i 1
    else if r = 0x8 then RNG_CTRL.fields s i
    else if r = 0xC then RNG_DOORBELL.fields s i
    else if r = 0x10 then RNG_POS.fields s i
    else if r = 0x14 then RNG_STATUS.fields s i
    else []
  else if 0x9000 ≤ o ∧ o < 0x9100 then
    let w := (o - 0x9000) / 0x10
    let r := (o - 0x9000) % 0x10
    if r = 0x0 then TRC_WIN_STATUS.fields s w
    else if r = 0x4 then TRC_WIN_POS.fields s w
    else if r = 0x8 then TRC_WIN_READ.fields s w
    else TRC_WIN_DROPS.fields s w
  else []

/-- The fields at an offset of BAR0, or at 0x1000000 plus an offset of BAR2; none for an offset that no chapter
assigns to a register (10, R286, R288). -/
def fieldsAt (x : Nat) : List Field :=
  if x % 4 ≠ 0 then []
  else if 0x1000000 ≤ x then
    if x < 0x2000000 then fieldsWindow ((x - 0x1000000) / 0x10000) ((x - 0x1000000) % 0x10000) else []
  else if 0x200000 ≤ x ∧ x < 0x210000 then fieldsLane ((x - 0x200000) / 0x100) (x % 0x100)
  else if 0x100000 ≤ x ∧ x < 0x140000 then fieldsPort ((x - 0x100000) / 0x1000) (x % 0x1000)
  else if 0x210000 ≤ x ∧ x < 0x210024 then LCH_FOM_LIMITS.fields ((x - 0x210000) / 4)
  else if 0x30000 ≤ x ∧ x < 0x38000 then fieldsSlice ((x - 0x30000) / 0x80) (x % 0x80)
  else if 0x40000 ≤ x ∧ x < 0x80000 then if x % 0x10 = 0 then RNG_INFO.fields ((x - 0x40000) / 0x10) else []
  else if x = 0x1008 ∨ x = 0x100C then IMG_SRC.fields ((x - 0x1008) / 4)
  else if x = 0x1018 ∨ x = 0x101C then IMG_BCT.fields ((x - 0x1018) / 4)
  else if x = 0x200C ∨ x = 0x2010 then TXN_SCOPE_P.fields ((x - 0x200C) / 4)
  else if x = 0x2014 ∨ x = 0x2018 then TXN_TIME.fields ((x - 0x2014) / 4)
  else if x = 0x300C ∨ x = 0x3010 then PWR_PORT_ARM.fields ((x - 0x300C) / 4)
  else if 0x3040 ≤ x ∧ x < 0x3080 then PWR_AON_REC.fields ((x - 0x3040) / 4)
  else if x = 0x6020 ∨ x = 0x6024 then TIM_SET.fields ((x - 0x6020) / 4)
  else if 0x6100 ≤ x ∧ x < 0x6200 then TIM_ASYM.fields ((x - 0x6100) / 4)
  else if x = 0x7008 ∨ x = 0x700C then ERR_DP_PORTS.fields ((x - 0x7008) / 4)
  else if x = 0x7014 ∨ x = 0x7018 then ERR_DP_LOG_TIME.fields ((x - 0x7014) / 4)
  else if 0x10040 ≤ x ∧ x < 0x10060 then CAL_TEMP.fields ((x - 0x10040) / 4)
  else if 0x11000 ≤ x ∧ x < 0x11800 then CAL_RX.fields ((x - 0x11000) / 4)
  else if 0x20400 ≤ x ∧ x < 0x20600 then ENG_STATUS.fields ((x - 0x20400) / 4)
  else if 0x20600 ≤ x ∧ x < 0x20800 then ENG_CNT.fields ((x - 0x20600) / 4)
  else if 0x20800 ≤ x ∧ x < 0x20C00 then ENG_PERMIT.fields ((x - 0x20800) / 4)
  else if x = 0x80004 ∨ x = 0x80008 then TRC_SCHED.fields ((x - 0x80004) / 4)
  else if 0x80040 ≤ x ∧ x < 0x80060 then TRC_DROPS.fields ((x - 0x80040) / 4)
  else if 0x81000 ≤ x ∧ x < 0x81100 then TRC_WN_STATUS.fields ((x - 0x81000) / 4)
  else if x = 0xFF008 ∨ x = 0xFF00C then SNP_TIME.fields ((x - 0xFF008) / 4)
  else fieldsOne x

end Sys2Proof.Machine
end

