-- ==== Sys2Proof/Machine/Ops.lean ====
section
/-! DEFINITION. The named operations over the state: reading and writing cells, half-lanes, sides and Ports, the port
map, the Port mirrors, and the raising of data-path events. -/

namespace Sys2Proof.Machine

/-! ## Cells -/

/-- The value of a field (R4). -/
def State.rd (s : State) (c : Cell) : Nat := s.regs.get c.cold c.key

/-- A field set to a value modulo its width; the Cold value is not listed. -/
def State.wr (s : State) (c : Cell) (v : Nat) : State :=
  let w := v % 2 ^ c.width
  { s with regs := if w = c.cold then s.regs.erase c.key else s.regs.set c.key w }

/-- A one-bit field as a truth value. -/
def State.bit (s : State) (c : Cell) : Bool := s.rd c == 1
/-- A one-bit field set. -/
def State.on (s : State) (c : Cell) : State := s.wr c 1
/-- A one-bit field cleared. -/
def State.off (s : State) (c : Cell) : State := s.wr c 0
/-- A one-bit field given a truth value. -/
def State.put (s : State) (c : Cell) (b : Bool) : State := s.wr c (ofBool b)
/-- A counter raised by 1 that stops at its greatest value. -/
def State.satUp (s : State) (c : Cell) : State := s.wr c (satInc c.width (s.rd c))
/-- A counter raised by 1 that wraps to 0. -/
def State.wrapUp (s : State) (c : Cell) : State := s.wr c (s.rd c + 1)
/-- A field returned to its Cold value. -/
def State.cold (s : State) (c : Cell) : State := { s with regs := s.regs.erase c.key }
/-- The fields of a register returned to their Cold values. -/
def State.coldAll (s : State) (fs : List Field) : State := fs.foldl (fun t f => t.cold f.cell) s

/-- The fields of a register as one word; a write-only field reads 0 (R4, R6). -/
def State.word (s : State) (fs : List Field) : Nat :=
  fs.foldl (fun n f => match f.acc with
    | .wo => n
    | _ => n + s.rd f.cell * 2 ^ f.cell.lo) 0

/-! ## Parts of the state replaced -/

def State.setEvq (s : State) (v : List Ev) : State := { s with evq := v }
def State.setStaged (s : State) (v : List Ev) : State := { s with staged := v }
/-- The width of Fabric Time (R352). -/
def timeSpan : Nat := 2 ^ 96
/-- Fabric Time and the central counter given values (R352, R473). -/
def State.setTime (s : State) (v c : Nat) : State := { s with now := v % timeSpan, count := c % timeSpan }
/-- The replicas given values, by Lane Tile (R353). -/
def State.setReplicas (s : State) (v : Tab Nat) : State := { s with replicas := v }
/-- The Lane Tiles that are ON, whose DCLK runs and which hold a replica of the counter (R353). -/
def State.clocked (s : State) : List Nat := (List.range 8).filter (fun t => s.rd (GLB_TILE_STATUS.LT t) == 2)
/-- The replica of every Lane Tile that is ON given a value of its own (R353). -/
def State.loadReplicas (s : State) (f : Nat → Nat) : State := s.setReplicas ⟨s.clocked.map (fun t => (t, f t % timeSpan))⟩
/-- The replica of a Lane Tile (R353); 0 where the tile is not ON. -/
def State.replica (s : State) (t : Nat) : Nat := s.replicas.get 0 t
/-- The counter loaded with a Fabric Time, and the replicas realigned to it (R353). -/
def State.setNow (s : State) (v : Nat) : State := (s.setTime v v).loadReplicas (fun _ => v)
def State.setElapsed (s : State) (v : Nat) : State := { s with elapsed := v }
def State.setImgOp (s : State) (v : Option ImgOp) : State := { s with imgOp := v }
def State.setCalTab (s : State) (v : Tab CalRec) : State := { s with calTab := v }
def State.setCalStore (s : State) (v : Option CalStore) : State := { s with calStore := v }
def State.setStoreWait (s : State) (v : Bool) : State := { s with storeWait := v }
def State.setLastStore (s : State) (v : Nat) : State := { s with lastStore := v }
def State.setChip (s : State) (v : Option (List Byte)) : State := { s with chip := v }
def State.setBct (s : State) (v : Tab Nat) : State := { s with bct := v }
def State.setTags (s : State) (v : Tab TagState) : State := { s with tags := v }
def State.setFuses (s : State) (v : Fuses) : State := { s with fuses := v }
def State.setSnap (s : State) (v : Snapshot) : State := { s with snap := v }
def State.setLastWritten (s : State) (v : Option Bool) : State := { s with lastWritten := v }
def State.setEra (s : State) (v : Nat) : State := { s with era := v }
def State.setFlash (s : State) (v : Memory) : State := { s with flash := v }
def State.setRegs (s : State) (v : Tab Nat) : State := { s with regs := v }
def State.setEngines (s : State) (v : Tab Engine) : State := { s with engines := v }
def State.setSlices (s : State) (v : Tab SliceX) : State := { s with slices := v }
def State.setRings (s : State) (v : Tab RingX) : State := { s with rings := v }
def State.setWinnows (s : State) (v : Tab Winnow) : State := { s with winnows := v }
def State.setWindows (s : State) (v : Tab Window) : State := { s with windows := v }
def State.setPorts (s : State) (v : Tab PortX) : State := { s with ports := v }
def State.setOutbox (s : State) (v : List Out) : State := { s with outbox := v }

/-! ## Half-lanes, sides and Ports -/

def State.half (s : State) (h : Nat) : Half := s.halves.get {} h
def State.upH (s : State) (h : Nat) (f : Half → Half) : State := { s with halves := s.halves.set h (f (s.half h)) }
def State.seg (s : State) (q : Nat) : Seg := s.sides.get {} q
def State.upS (s : State) (q : Nat) (f : Seg → Seg) : State := { s with sides := s.sides.set q (f (s.seg q)) }
def State.portx (s : State) (p : Nat) : PortX := s.ports.get {} p
def State.upP (s : State) (p : Nat) (f : PortX → PortX) : State := { s with ports := s.ports.set p (f (s.portx p)) }
def State.engine (s : State) (k : Nat) : Engine := s.engines.get {} k
def State.upE (s : State) (k : Nat) (f : Engine → Engine) : State := { s with engines := s.engines.set k (f (s.engine k)) }
def State.slicex (s : State) (k : Nat) : SliceX := s.slices.get {} k
def State.upSl (s : State) (k : Nat) (f : SliceX → SliceX) : State := { s with slices := s.slices.set k (f (s.slicex k)) }
/-- A local Ring of a Slice. -/
def State.ringx (s : State) (k i : Nat) : RingX := s.rings.get {} (1024 * k + i % 1024)
def State.upR (s : State) (k i : Nat) (f : RingX → RingX) : State :=
  { s with rings := s.rings.set (1024 * k + i % 1024) (f (s.ringx k i)) }
def State.tile (s : State) (t : Nat) : Tile := s.tiles.get {} t
def State.upT (s : State) (t : Nat) (f : Tile → Tile) : State := { s with tiles := s.tiles.set t (f (s.tile t)) }
/-- The Winnow of a Port for a direction, 0 for AB and 1 for BA. -/
def State.winnow (s : State) (p d : Nat) : Winnow := s.winnows.get {} (2 * p + d % 2)
def State.upW (s : State) (p d : Nat) (f : Winnow → Winnow) : State :=
  { s with winnows := s.winnows.set (2 * p + d % 2) (f (s.winnow p d)) }
/-- A Granary window of a Slice. -/
def State.window (s : State) (k w : Nat) : Window := s.windows.get {} (16 * k + w % 16)
def State.upWin (s : State) (k w : Nat) (f : Window → Window) : State :=
  { s with windows := s.windows.set (16 * k + w % 16) (f (s.window k w)) }
def State.upM (s : State) (f : Mgmt → Mgmt) : State := { s with mgmt := f s.mgmt }
def State.upPw (s : State) (f : Power → Power) : State := { s with power := f s.power }
def State.upTim (s : State) (f : Tim → Tim) : State := { s with tim := f s.tim }
/-- The stamps of the time protocol on a Segment Side. -/
def State.timeSide (s : State) (q : Nat) : TimeSide := s.tim.sides.get {} q
def State.upTs (s : State) (q : Nat) (f : TimeSide → TimeSide) : State :=
  s.upTim (fun t => { t with sides := t.sides.set q (f (s.timeSide q)) })
def State.upX (s : State) (f : Txn → Txn) : State := { s with txn := f s.txn }
/-- Something leaves the block. -/
def State.emit (s : State) (o : Out) : State := { s with outbox := o :: s.outbox }
/-- Something leaves on the management link, which is in ASPM L1 no more (R297). -/
def State.sendUp (s : State) (o : Out) : State := (s.upM (fun m => { m with inL1 := false })).emit o
/-- An action on each of a list of numbers in turn. -/
def State.each (s : State) (xs : List Nat) (f : State → Nat → State) : State := xs.foldl f s
/-- Fabric Time in whole ns. -/
def State.nowNs (s : State) : Nat := s.now / 2 ^ 32
/-- One microsecond, and one nanosecond, in units of 2⁻³² ns. -/
def usUnit : Nat := 1000 * 2 ^ 32
def nsUnit : Nat := 2 ^ 32
/-- Whether the central tile runs (R398, R403, R413): in RUN and IDLE, outside a reset and a wake. -/
def State.awake (s : State) : Bool :=
  decide (s.rd PWR_STATUS.STATE ≤ 1) && s.power.wake.isNone && !s.power.inReset
/-- Whether a wake from SLEEP has come so far that the cores and the management complex run on FIOSC (R389, R403). -/
def State.onFiosc (s : State) : Bool :=
  !s.power.inReset && match s.power.wake with
    | some w => w.from_ == 2 && w.voltage
    | none => false
/-- Whether Fabric Time counts (R352, R363, R387). -/
def State.timeRuns (s : State) : Bool := s.awake
/-- Whether the management function answers: it is not held in reset by PERST_N, nor the device in a reset (R417, R433), and
the management complex runs, as it does in RUN, in IDLE and towards the end of a wake (R26, R389, R398). -/
def State.mgmtUp (s : State) : Bool := !s.mgmt.perst && (s.awake || s.onFiosc)
/-- Whether it answers configuration requests with Request Retry Status (R415, R417, R433): before boot has completed, and in
a wake from DEEP. -/
def State.mgmtRetries (s : State) : Bool :=
  !s.mgmt.perst && (s.power.bootDue || (!s.power.inReset && match s.power.wake with
    | some w => w.from_ == 3 && w.voltage
    | none => false))
/-- A configuration request: it acts, or completes with Request Retry Status while the function cannot serve it yet (R417). -/
def State.configAsk (s : State) (act : State → State) : State :=
  if s.mgmtUp then act s else if s.mgmtRetries then s.sendUp .configRetry else s
/-- Whether memory requests to the function are served: it is in D0 (R286, R295). -/
def State.served (s : State) : Bool := s.mgmtUp && !s.mgmt.d3hot
/-- Whether registers outside the GLB_ and IMG_ blocks answer the host: not in recovery mode (R262). -/
def State.hosted (s : State) : Bool := s.served && !s.bit IMG_STATUS.RECOVERY
/-- A stretch of elapsed time as Fabric Time counts it, with the rate correction of TIM_RATE (R352). -/
def State.fabricOf (s : State) (d : Nat) : Nat :=
  ((d : Int) + (d : Int) * toSigned 32 (s.rd TIM_RATE.PPB) / 1000000000).toNat
/-- One period of TCLK, whose edges fall at its whole multiples of elapsed time (R387; DESIGN CHOICE, log entry 113). -/
def tclk : Nat := 10 * nsUnit
/-- A DCLK cycle in quarter ns, by CLK_DCLK_SEL (03, Table 2). -/
def dclkQuarterNs (sel : Nat) : Nat := [20, 10, 5].getD sel 20
/-- One period of the DCLK of a Lane Tile, whose edges fall at its whole multiples of elapsed time, so that each edge of TCLK is one of
DCLK too (03, Table 2; DESIGN CHOICE, log entry 113). -/
def State.dclk (s : State) (t : Nat) : Nat := dclkQuarterNs (s.rd (CLK_DCLK_SEL.LT t)) * (nsUnit / 4)
/-- What Fabric Time loses of a stretch while it slews: half of it, as far as there is time to lose (R359). -/
def State.loses (s : State) (f : Nat) : Nat := min (f / 2) s.tim.slew
/-- What Fabric Time gains in a stretch (R352, R359). -/
def State.gains (s : State) (d : Nat) : Nat := s.fabricOf d - s.loses (s.fabricOf d)
/-- What a counter reads after a stretch: Fabric Time at the last edge of its clock in it, or what it read before (R473). -/
def State.atEdge (s : State) (d period old : Nat) : Nat :=
  let since := (s.elapsed + d) % period
  if s.timeRuns ∧ since ≤ d then s.now + s.gains (d - since) else old
/-- Time goes on by a stretch: elapsed time always, Fabric Time where it counts, at half rate while it slews (R359), the central
counter with each edge of TCLK and a replica with each edge of its tile's DCLK (R353, R473); in holdover the uncertainty rises by 2 ns
for every ms (R360). The time in RUN is counted (R263). -/
def State.advance (s : State) (d : Nat) : State :=
  let f := if s.timeRuns then s.fabricOf d else 0
  let lose := s.loses f
  let t0 := (((s.setElapsed (s.elapsed + d)).setTime (s.now + (f - lose)) (s.atEdge d tclk s.count)).loadReplicas
    (fun k => s.atEdge d (s.dclk k) (s.replica k))).upTim (fun x => { x with slew := x.slew - lose })
  let t := if s.awake ∧ s.rd PWR_STATUS.STATE = 0 then t0.upPw (fun x => { x with ranFor := x.ranFor + d }) else t0
  let u := if s.bit TIM_STATUS.SLEWING ∧ s.tim.slew ≤ lose then t.off TIM_STATUS.SLEWING else t
  if s.bit TIM_STATUS.HOLDOVER ∧ s.rd TIM_STATUS.QUALITY ≠ 2 then
    u.wr TIM_UNCERT.BOUND (min 0xFFFFFFFF (s.tim.base + 2 * ((u.elapsed - s.tim.lastAt) / (1000 * usUnit))))
  else u
/-- A timer that was due at an instant has expired: time stands at that instant or later (DESIGN CHOICE, log entry 2). -/
def State.advanceTo (s : State) (e : Nat) : State := if e ≤ s.elapsed then s else s.advance (e - s.elapsed)
/-- The time in which Fabric Time gains a stretch: twice as long while it slews (R352, R359). -/
def State.timeFor (s : State) (gain : Nat) : Nat :=
  let f : Nat := if gain ≤ s.tim.slew then 2 * gain else gain + s.tim.slew
  ((f : Int) * 1000000000 / (1000000000 + toSigned 32 (s.rd TIM_RATE.PPB)) + 1).toNat
/-- Fabric Time stands at an instant or later (DESIGN CHOICE, log entry 2), at an edge of TCLK (R473); where it does not count,
nothing passes. -/
def State.fabricTo (s : State) (f : Nat) : State :=
  if f ≤ s.now ∨ !s.timeRuns then s
  else
    let d := s.timeFor (f - s.now)
    let t := s.advance (d + (tclk - (s.elapsed + d) % tclk) % tclk)
    t.setNow (max f t.now)
/-- A free value taken from the counter of such values. -/
def State.takeFree (s : State) : Nat × State := (Config.freeNat s.freeCtr, { s with freeCtr := s.freeCtr + 1 })

/-! ## The port map (01) -/

/-- Whether a Port is part of the port map. -/
def State.enabled (s : State) (p : Nat) : Bool := decide (p < 64) && s.bit (PRT_MODE.ENABLE p)
/-- The Lane Tile of a Port. -/
def State.tileOf (s : State) (p : Nat) : Nat := s.rd (PRT_MODE.TILE p)
/-- The state of a Lane Tile (01, Table 9): 0 OFF, 1 WAKING, 2 ON, 3 RESET, 4 FENCED. -/
def State.tileState (s : State) (t : Nat) : Nat := s.rd (GLB_TILE_STATUS.LT t)
/-- Whether a Port's Lane Tile is ON. -/
def State.tileOn (s : State) (p : Nat) : Bool := s.tileState (s.tileOf p) == 2
/-- The Lane Tile that holds a half-lane (R10). -/
def tileOfHalf (h : Nat) : Nat := h / 64
/-- Whether a Port side is a Segment Side. -/
def State.isSeg (s : State) (q : Nat) : Bool := s.bit (PRT_MODE.SEGMENT q)
/-- The number of data half-lanes of a side. -/
def State.width (s : State) (q : Nat) : Nat := s.rd (PRT_MODE.WIDTH q)
/-- The number of spare half-lanes of a side. -/
def State.spares (s : State) (q : Nat) : Nat := s.rd (PRT_MODE.SPARES q)
/-- The other side of the Port. -/
def otherSide (q : Nat) : Nat := if q % 2 = 0 then q + 1 else q - 1
/-- Whether both sides of a Port are Standard Sides, whether both are Segment Sides, and whether one is (01, Table 2). -/
def State.isTT (s : State) (p : Nat) : Bool := !s.isSeg (2 * p) && !s.isSeg (2 * p + 1)
def State.isSS (s : State) (p : Nat) : Bool := s.isSeg (2 * p) && s.isSeg (2 * p + 1)
def State.isGeared (s : State) (p : Nat) : Bool := s.isSeg (2 * p) != s.isSeg (2 * p + 1)
/-- The side that claims a half-lane, none for an unused one (R13, R15). -/
def State.claim (s : State) (h : Nat) : Option Nat :=
  if s.bit (LCH_ASSIGN.VALID h) && s.enabled (s.rd (LCH_ASSIGN.PORT h)) then some (2 * s.rd (LCH_ASSIGN.PORT h) + h % 2)
  else none
/-- The logical index of a half-lane. -/
def State.logical (s : State) (h : Nat) : Nat := s.rd (LCH_ASSIGN.LOGICAL h)
/-- The half-lanes of one kind (A or B) of a Lane Tile, in ascending order. -/
def tileHalves (t d : Nat) : List Nat := (List.range 32).map (fun i => 2 * (32 * t + i) + d)
/-- The half-lanes that a side claims (R15). -/
def State.members (s : State) (q : Nat) : List Nat :=
  (tileHalves (s.tileOf (q / 2)) (q % 2)).filter (fun h => s.claim h == some q)
/-- The half-lane of a side with a logical index. -/
def State.halfAt (s : State) (q l : Nat) : Option Nat := (s.members q).find? (fun h => s.logical h == l)
/-- The data half-lanes of a side in logical order. -/
def State.dataHalves (s : State) (q : Nat) : List Nat := (List.range (s.width q)).filterMap (s.halfAt q)
/-- The data and spare half-lanes of a side in logical order. -/
def State.allHalves (s : State) (q : Nat) : List Nat := (List.range (s.width q + s.spares q)).filterMap (s.halfAt q)
/-- Both sides of a Port. -/
def sidesOf (p : Nat) : List Nat := [2 * p, 2 * p + 1]
/-- The Standard Sides, and the Segment Sides, of a Port. -/
def State.stdSides (s : State) (p : Nat) : List Nat := (sidesOf p).filter (fun q => !s.isSeg q)
def State.segSides (s : State) (p : Nat) : List Nat := (sidesOf p).filter s.isSeg
/-- The enabled Ports of a Lane Tile. -/
def State.portsOf (s : State) (t : Nat) : List Nat := (List.range 64).filter (fun p => s.enabled p && s.tileOf p == t)
/-- The logical lane of the other side that answers a half-lane's on a TT Port (R18). -/
def State.across (s : State) (h : Nat) : Option Nat :=
  match s.claim h with
  | none => none
  | some q => s.halfAt (otherSide q) (s.logical h)

/-! ## Training states, and what keeps a Lane Tile and the device from resting (R396, R397, R399) -/

/-- The segment training states of Table 5 of 05. -/
def sDOWN : Nat := 0
def sDETECT : Nat := 1
def sACQUIRE : Nat := 2
def sDISCOVER : Nat := 3
def sCONFIRM : Nat := 4
def sACTIVE : Nat := 5
def sBACKOFF : Nat := 6

/-- The training state of a Segment Side. -/
def State.segState (s : State) (q : Nat) : Nat := s.rd (PRT_SEG_STATUS.STATE q)
/-- The Port training states of Table 3 of 04. -/
def tDOWN : Nat := 0
def tDETECT : Nat := 1
def tFORWARD : Nat := 2
def tEQ : Nat := 3
def tACTIVE : Nat := 4
def tLOWPOWER : Nat := 5
def tHOTRESET : Nat := 6
def tDISABLED : Nat := 7
def tLOOPBACK : Nat := 8
def tHOLD : Nat := 9

/-- The training state of a Port. -/
def State.trn (s : State) (p : Nat) : Nat := s.rd (PRT_TRN_STATUS.STATE p)

/-- Whether a Port is active (R396). -/
def State.portActive (s : State) (p : Nat) : Bool :=
  s.enabled p &&
  !(bitAt (s.rd (PWR_PORT_ARM.PORTS (p / 32))) (p % 32) &&
    (sidesOf p).all (fun q =>
      if s.isSeg q then s.segState q == sDOWN || (s.segState q == sBACKOFF && decide (6 ≤ s.rd (PRT_SEG_STATUS.ATTEMPTS q)))
      else s.trn p == tDOWN || s.trn p == tHOLD || s.trn p == tDISABLED ||
        (s.trn p == tDETECT && decide (4 ≤ if q % 2 = 0 then (s.portx p).scansA else (s.portx p).scansB))))
/-- Whether a Port is armed. -/
def State.armed (s : State) (p : Nat) : Bool := bitAt (s.rd (PWR_PORT_ARM.PORTS (p / 32))) (p % 32)
/-- A Lane Tile, or the device, has just lost something that kept it from OFF or from a deeper power state: the timers of R397 and
R399 run from here. -/
def State.tileQuiet (s : State) (t : Nat) : State := s.upT t (fun x => { x with quietAt := s.elapsed })
def State.deviceQuiet (s : State) : State := s.upPw (fun x => { x with quietAt := s.elapsed })

/-! ## The four registers of a Port mirror, and its sequence number (R437 to R442) -/

/-- The four registers of a Port's mirror (R438); Cold values for a Port that is not enabled (R439). -/
def State.portRegs (s : State) (p : Nat) : List Nat :=
  if s.enabled p then [s.word (PRT_TRN_STATUS.fields p), s.word (PRT_SEG_STATUS.fields (2 * p)),
    s.word (PRT_SEG_STATUS.fields (2 * p + 1)), s.word (PRT_DP_STATUS.fields p)]
  else [0x0FF00000, 0, 0, 0x0000FF00]

/-- The sequence number of a Port: the mirror era and its transition count (R438). -/
def State.seqOf (s : State) (p : Nat) : Nat := s.era * 2 ^ 24 + (s.portx p).transitions

/-- A publication: the mirror is replaced as one unit (R439), and events of the Port that await their first publication
take it (R442). -/
def State.publish (s : State) (p : Nat) : State :=
  let m := s.seqOf p :: s.portRegs p
  let t := s.upP p (fun x => { x with mirrorSeq := s.seqOf p, mirror := s.portRegs p })
  t.setEvq (t.evq.map (fun e => if e.port == some p && e.state == none then { e with state := some m } else e))

/-- The transition count rises by 1, from 0xFFFFFF to 1, and the mirror is published at once (R438, R439). -/
def State.bump (s : State) (p : Nat) : State :=
  (s.upP p (fun x => { x with transitions := if x.transitions = 0xFFFFFF then 1 else x.transitions + 1 })).publish p

/-- The fields whose change raises the transition count (R438). -/
def State.listed (s : State) (p : Nat) : List Nat :=
  [s.rd (PRT_TRN_STATUS.STATE p), s.rd (PRT_TRN_STATUS.UP_SIDE p), s.rd (PRT_TRN_STATUS.NEG_WIDTH p),
   s.rd (PRT_TRN_STATUS.CXL p), s.rd (PRT_TRN_STATUS.L0P p), s.rd (PRT_TRN_STATUS.LP_KIND p),
   s.rd (PRT_SEG_STATUS.STATE (2 * p)), s.rd (PRT_SEG_STATUS.STATE (2 * p + 1)), s.rd (PRT_DP_STATUS.FLIT p),
   s.rd (PRT_DP_STATUS.A_SLOT_NOW p), s.rd (PRT_DP_STATUS.B_SLOT_NOW p)]

/-- A Port after an event of it: when it is active no more, the idle timer of its tile may run (R397). -/
def State.settled (s old : State) (p : Nat) : State :=
  if old.portActive p && !s.portActive p then s.tileQuiet (s.tileOf p) else s
/-- One event of the Port: when it changed a listed field, the count rises by 1, however many it changed (R438). -/
def State.noted (s old : State) (p : Nat) : State :=
  if s.listed p = old.listed p then s.settled old p else (s.settled old p).bump p

/-! ## Data-path events (15) -/

/-- The class of an event code (15, Table 4): 1 correctable, 2 non-fatal, 3 fatal. -/
def dpClass (code : Nat) : Nat :=
  if code ∈ [0x05, 0x06, 0x07, 0x08, 0x0D, 0x10] then 2 else if code ∈ [0x0F, 0x11, 0x12] then 3 else 1

/-- The Slices that exist and are ACTIVE (11, Table 2). -/
def State.activeSlices (s : State) : List Nat := (List.range 256).filter (fun k => s.rd (SLC_STATUS.STATE k) == 1)
/-- Whether a Port is in a Slice's visibility set (R313). -/
def State.sees (s : State) (k p : Nat) : Bool := bitAt (s.rd (SLC_PORTS.PORTS k (p / 32))) (p % 32)
/-- Whether a Slice's CLASS_MASK selects a class (R335, R350). -/
def State.selects (s : State) (k cls : Nat) : Bool := bitAt (s.rd (SLC_SELF_CTRL.CLASS_MASK k)) (cls - 1)

/-- The Slices a data-path event is delivered to (R335, R448): S0, and each other that sees one of the Ports. -/
def State.audience (s : State) (cls : Nat) (ports : List Nat) : List Nat :=
  s.activeSlices.filter (fun k => s.selects k cls && (k == 0 || ports.any (s.sees k)))

/-- The recording of a data-path event in the ERR_ registers (R449). -/
def State.recordDp (s : State) (code : Nat) (port : Option Nat) (b16 : Nat) : State :=
  let s1 := s.wr ERR_DP_STATUS.CODES (s.rd ERR_DP_STATUS.CODES ||| 2 ^ (code - 1))
  let s2 := match port with
    | some p => s1.wr (ERR_DP_PORTS.PORTS (p / 32)) (s1.rd (ERR_DP_PORTS.PORTS (p / 32)) ||| 2 ^ (p % 32))
    | none => s1
  let s3 := match dpClass code with
    | 1 => s2.wrapUp ERR_DP_CNT.CORRECTABLE
    | 2 => s2.satUp ERR_DP_CNT.NONFATAL
    | _ => s2.satUp ERR_DP_CNT.FATAL
  if bitAt (s.rd ERR_DP_MASK.CODES) (code - 1) then s3
  else if s3.bit ERR_DP_LOG0.VALID then s3.on ERR_DP_LOG0.OVERFLOW
  else ((((s3.on ERR_DP_LOG0.VALID).wr ERR_DP_LOG0.CODE code).wr ERR_DP_LOG0.PORT (port.getD 0xFF)).wr
      ERR_DP_LOG0.DETAIL b16).wr (ERR_DP_LOG_TIME.TIME 0) s.nowNs |>.wr (ERR_DP_LOG_TIME.TIME 1) (s.nowNs / 2 ^ 32)

/-- The event that a Slice is sent for a data-path event (R333, R447); one that concerns a Port awaits its mirror. -/
def State.dpEvent (s : State) (code : Nat) (port : Option Nat) (b16 b17 b18 k : Nat) : Ev where
  slice := k
  ring := none
  type := 2
  cls := dpClass code
  code := code
  source := port.getD 0xFFFF
  result := [b16, b17, b18] ++ List.replicate 13 0
  time := s.nowNs
  port := port
  state := if port.isNone then some [0, 0, 0, 0, 0] else none
  canWait := false

/-- Whether a class is at least the one a two-bit field names: 0 any, 1 non-fatal and fatal, 2 fatal (R296, R458). -/
def classAtLeast (field cls : Nat) : Bool := decide ((if field = 0 then 1 else if field = 1 then 2 else 3) ≤ cls)

/-- SB_ALERT_N asserted for a cause of R458; the reserved class 3 is never stored. -/
def State.alert (s : State) (cls : Nat) : State :=
  if s.bit SB_CTRL.ALERT_EN ∧ classAtLeast (s.rd SB_CTRL.ALERT_CLASS) cls then s.on SB_STATUS.ALERT_PENDING else s

/-- A data-path event for an audience of Ports arises (R447 to R449): it is recorded, and unless masked one delivery is
queued for each Slice it concerns, and the sideband is alerted (R458). -/
def State.raiseFor (s : State) (code : Nat) (port : Option Nat) (ports : List Nat) (b16 b17 b18 : Nat) : State :=
  let t := s.recordDp code port b16
  if bitAt (s.rd ERR_DP_MASK.CODES) (code - 1) then t
  else
    let u := t.alert (dpClass code)
    u.setEvq (u.evq ++ (s.audience (dpClass code) ports).map (s.dpEvent code port b16 b17 b18))

/-- An event of a Port, with its half or side in byte 17. -/
def State.raise (s : State) (code p b16 b17 b18 : Nat) : State := s.raiseFor code (some p) [p] b16 b17 b18
/-- An event that concerns no single Port (Source 0xFFFF), delivered to S0 only (R448). -/
def State.raiseDev (s : State) (code b16 b17 b18 : Nat) : State := s.raiseFor code none [] b16 b17 b18

/-! ## Completions (11) -/

/-- The class of events delivered to a Slice: the Slice must be ACTIVE (R341, step 3). -/
def State.sliceActive (s : State) (k : Nat) : Bool := s.rd (SLC_STATUS.STATE k) == 1

/-- The completions at the front of a Ring's order that are done, and what is left behind them (R328). -/
def ordered : List (Nat × Option Ev) → List Ev × List (Nat × Option Ev)
  | (_, some e) :: rest => (e :: (ordered rest).1, (ordered rest).2)
  | rest => ([], rest)

/-- A Port's mirror with its sequence number before it, as an event carries it (R329, R333); zeros where no Port is concerned. -/
def State.mirrorOf (s : State) (port : Option Nat) : List Nat :=
  match port with
  | some p => (s.portx p).mirrorSeq :: (s.portx p).mirror
  | none => [0, 0, 0, 0, 0]

/-- A command, told by its entry's index and its Ring's count, completes (R331, R334): a COMPLETION for the event Ring it names
(none for the notice Ring), carrying a mirror of the Port it names. Commands but JOB_SUBMIT complete in the order taken (R328).
While the central cores are down none does (R25). -/
def State.completeAs (s : State) (k i entry tag : Nat) (evRing : Option Nat) (status : Nat) (result : List Nat)
    (port : Option Nat) (mirror : List Nat) : State :=
  let e : Ev :=
    { slice := k
      ring := evRing
      type := 1
      cls := 0
      code := status
      source := i
      entry := entry % 65536
      tag := tag
      cmdRing := some i
      result := result
      time := s.nowNs
      port := port
      state := some mirror }
  if s.sliceActive k && !s.mgmt.coresDown then
    let s := s.deviceQuiet
    let r := s.ringx k i
    if r.order.any (fun o => o.1 == entry) then
      let now := ordered (r.order.map (fun o => if o.1 = entry then (o.1, some e) else o))
      (s.upR k i (fun r => { r with order := now.2, open_ := r.open_ - now.1.length })).setEvq (s.evq ++ now.1)
    else (s.upR k i (fun r => { r with open_ := r.open_ - 1 })).setEvq (s.evq ++ [e])
  else s

/-- A command completes with the mirror of the Port it names as it is now (R329). -/
def State.complete (s : State) (k i entry tag : Nat) (evRing : Option Nat) (status : Nat) (result : List Nat)
    (port : Option Nat) : State :=
  s.completeAs k i entry tag evRing status result port (s.mirrorOf port)

/-- A completion with no result. -/
def noResult : List Nat := List.replicate 16 0

/-! ## A transaction in its apply (R88, R270, R273) -/

def xIDLE : Nat := 0
def xOPEN : Nat := 1
def xVALIDATING : Nat := 2
def xSCHEDULED : Nat := 3
def xAPPLYING : Nat := 4
def xROLLING : Nat := 5
/-- The state of the transaction (09, Table 5). -/
def State.txnState (s : State) : Nat := s.rd TXN_STATUS.STATE

/-- The value of a field of a Port in force in a direction, told by its receiving side: past the direction's Apply Point the one that
the commit gives, or that its withdrawal gives back, though reads still return the other (R88). -/
def State.inForce (s : State) (d : Nat) (c : Cell) : Nat :=
  if s.txn.early.contains d then
    match s.txn.changes.find? (fun x => x.cell == c) with
    | some x => if s.txnState = xROLLING then x.old else x.new
    | none => s.rd c
  else s.rd c

/-- Whether a half-lane's transmitter is one of a direction that has stopped at its Apply Point (R273). -/
def State.txStopped (s : State) (h : Nat) : Bool := s.txn.stopped.any (fun d => s.claim h == some (otherSide d))

end Sys2Proof.Machine
end

