-- ==== Sys2Proof/Machine/LaneOps.lean ====
section
/-! DEFINITION. Operations on one half-lane: the board channel table entry, transmitter coefficients, calibration sets,
adaptation states and the figure of merit (02), and the alignment state (03). -/

namespace Sys2Proof.Machine

/-! ## The board channel table entry (R47 to R51) -/

/-- The index of a half-lane's entry in a rate slot (R47). -/
def bctIndex (h r : Nat) : Nat := 512 * r + 256 * (h % 2) + h / 2
/-- The entry of a half-lane in a rate slot. -/
def State.entry (s : State) (h r : Nat) : Nat := s.bct.get 0 (bctIndex h r)
/-- `VALID` of an entry (02, Table 2). -/
def entryValid (e : Nat) : Bool := bitAt e 63
/-- The slot default CTLE code, h1 and preset (02, Table 3). -/
def defaultCtle (r : Nat) : Nat := [4, 6, 10, 12, 14, 14, 14, 12, 14].getD r 14
def defaultSeed (r : Nat) : Int := [0, 0, 0, 4, 8, 8, 8, 6, 8].getD r 0
def defaultPreset (r : Nat) : Nat := if r = 4 then 7 else 5
/-- The launch amplitude code of an entry (R48, R50). -/
def entrySwing (e : Nat) : Nat := if entryValid e then bitsOf e 55 3 else 3
/-- The launch amplitude of a code in mVppd (R45). -/
def launchMv (code : Nat) : Nat := 850 + 50 * code
/-- The starting CTLE code of an entry (R48, R50). -/
def entryCtle (e r : Nat) : Nat := if entryValid e then bitsOf e 50 5 else defaultCtle r
/-- The starting value of h1 (R48, R50). -/
def entrySeed (e r : Nat) : Int := if entryValid e then toSigned 6 (bitsOf e 44 6) else defaultSeed r
/-- The channel loss in dB, 0 where it is not stated (R48, R50). -/
def entryLoss (e : Nat) : Nat := if entryValid e then bitsOf e 38 6 else 0
/-- Whether the entry permits the trim step (R50, R54). -/
def entryTrim (e : Nat) : Bool := !entryValid e || bitAt e 37
/-- Whether h1 is kept at its seed (R48, R50). -/
def entryHoldDfe (e : Nat) : Bool := entryValid e && bitAt e 36
/-- Whether the receiver asks its partner for precoding, on slots 5 and 6 (R48). -/
def entryPrecode (e r : Nat) : Bool := entryValid e && bitAt e 11 && (r == 5 || r == 6)
/-- The VGA code a cold start begins from (R51). -/
def entryVga (e : Nat) : Nat :=
  if entryLoss e = 0 then 32 else (clampInt 0 63 (32 + 2 * ((entryLoss e : Int) - 20))).toNat
/-- The bounds of h1 (R51). -/
def h1Low (e r : Nat) : Int :=
  if entryLoss e = 0 then -32 else max (-32) (entrySeed e r - (8 + entryLoss e / 2 : Nat))
def h1High (e r : Nat) : Int :=
  if entryLoss e = 0 then 31 else min 31 (entrySeed e r + (8 + entryLoss e / 2 : Nat))
/-- h1 as adaptation may hold it: the seed under `HOLD_DFE`, else within its bounds (R48, R51). -/
def boundH1 (e r : Nat) (v : Int) : Int :=
  if entryHoldDfe e then entrySeed e r else clampInt (h1Low e r) (h1High e r) v

/-! ## Transmitter coefficients (R42 to R44, R61) -/

/-- `v` moved towards zero by `n` units, stopping at zero. -/
def shrink (v : Int) (n : Nat) : Int := if v < 0 then min 0 (v + n) else max 0 (v - n)

/-- The main coefficient (R42). -/
def mainTap (cm2 cm1 cp1 cp2 : Int) : Int := 63 - (|cm2| + |cm1| + |cp1| + |cp2|)

/-- The coefficients that result from four requested taps (R43): each clamped to its range, then c+2, c−2, c+1 and
c−1 reduced in that order until the sum of magnitudes is at most 21. -/
def fitTaps (cm2 cm1 cp1 cp2 : Int) : TxCoef :=
  let a := clampInt (-7) 7 cm2
  let b := clampInt (-21) 21 cm1
  let c := clampInt (-21) 21 cp1
  let d := clampInt (-7) 7 cp2
  let e0 := (|a| + |b| + |c| + |d| - 21).toNat
  let d' := shrink d e0
  let e1 := e0 - (|d| - |d'|).toNat
  let a' := shrink a e1
  let e2 := e1 - (|a| - |a'|).toNat
  let c' := shrink c e2
  let e3 := e2 - (|c| - |c'|).toNat
  let b' := shrink b e3
  { cm2 := a', cm1 := b', c0 := mainTap a' b' c' d', cp1 := c', cp2 := d' }

/-- The coefficients of one of the standard's presets in a rate slot (R44). -/
def presetCoef (r n : Nat) : TxCoef :=
  fitTaps 0 (-((Config.presetTaps r n).1 : Int)) (-((Config.presetTaps r n).2 : Int)) 0

/-- An entry as it is stored and reads back, by its index (R6, R7, R43, R49): taps clamped, c−2 and c+2 zero on Standard
slots, a reserved preset replaced by the slot default, reserved bits 0 (DEDUCED, log entry 82). -/
def storedEntry (i e : Nat) : Nat :=
  let r := i / 512
  let tap (lo : Nat) : Int := toSigned 6 (bitsOf e lo 6)
  let c := if r ≤ 6 then fitTaps 0 (tap 24) (tap 18) 0 else fitTaps (tap 30) (tap 24) (tap 18) (tap 12)
  let preset := if 10 < bitsOf e 58 4 ∧ 2 ≤ r ∧ r ≤ 6 then defaultPreset r else bitsOf e 58 4
  bitsOf e 62 2 * 2 ^ 62 + preset * 2 ^ 58 + bitsOf e 36 22 * 2 ^ 36 + ofSigned 6 c.cm2 * 2 ^ 30 + ofSigned 6 c.cm1 * 2 ^ 24 +
    ofSigned 6 c.cp1 * 2 ^ 18 + ofSigned 6 c.cp2 * 2 ^ 12 + bitsOf e 11 1 * 2 ^ 11

/-- The coefficients an entry gives in a rate slot (R44, R48 to R50), with the de-emphasis selected for the link. -/
def entryCoef (deEmph : Bool) (e r : Nat) : TxCoef :=
  if r ≤ 1 then fitTaps 0 (-((Config.deEmphasis r deEmph).1 : Int)) (-((Config.deEmphasis r deEmph).2 : Int)) 0
  else if r ≤ 6 then
    if entryValid e && bitAt e 62 then fitTaps 0 (toSigned 6 (bitsOf e 24 6)) (toSigned 6 (bitsOf e 18 6)) 0
    else if entryValid e && decide (bitsOf e 58 4 ≤ 10) then presetCoef r (bitsOf e 58 4)
    else presetCoef r (defaultPreset r)
  else if entryValid e then
    fitTaps (toSigned 6 (bitsOf e 30 6)) (toSigned 6 (bitsOf e 24 6)) (toSigned 6 (bitsOf e 18 6)) (toSigned 6 (bitsOf e 12 6))
  else fitTaps 0 (-4) (-8) 0

/-- The preset an entry gives in a rate slot, none where it gives taps (R48 to R50). -/
def entryPreset (e r : Nat) : Option Nat :=
  if r ≤ 1 ∨ 6 < r ∨ (entryValid e ∧ bitAt e 62) then none
  else if entryValid e && decide (bitsOf e 58 4 ≤ 10) then some (bitsOf e 58 4)
  else some (defaultPreset r)

/-- LCH_TX_COEF made to report the coefficients of a driving transmitter, or electrical idle (02, Table 8). -/
def State.showTx (s : State) (h : Nat) : State :=
  let x := s.half h
  if x.tx = .idle then s.coldAll (LCH_TX_COEF.fields h)
  else
    (((((s.wr (LCH_TX_COEF.SRC h) x.txSrc).wr (LCH_TX_COEF.C0 h) x.txCoef.c0.toNat).wr (LCH_TX_COEF.CM2 h)
      (ofSigned 6 x.txCoef.cm2)).wr (LCH_TX_COEF.CM1 h) (ofSigned 6 x.txCoef.cm1)).wr (LCH_TX_COEF.CP1 h)
      (ofSigned 6 x.txCoef.cp1)).wr (LCH_TX_COEF.CP2 h) (ofSigned 6 x.txCoef.cp2)

/-- A transmitter made to send one thing (R46). One of a direction that a commit has stopped forwards nothing until the reset (R273). -/
def State.setTx (s : State) (h : Nat) (m : TxMode) : State :=
  if (m = .forward ∨ m = .start) ∧ s.txStopped h then s else (s.upH h (fun x => { x with tx := m })).showTx h

/-- The de-emphasis selected for the link of a half-lane's Port (R44). -/
def State.deEmph (s : State) (h : Nat) : Bool :=
  match s.claim h with
  | some q => (s.portx (q / 2)).deEmph
  | none => false

/-- The launch amplitude and the transmitter coefficients taken from a table entry for the slot in use, the coefficients unless the
standard link gave them (R45, R61). The half-lane keeps the entry (R52). -/
def State.loadEntry (s : State) (h e : Nat) : State :=
  let r := s.rd (LCH_FOM.RATE_SLOT h)
  if 8 < r then s
  else
    let t := s.upH h (fun x => { x with swing := entrySwing e, entry := e })
    if (s.half h).linkCoef then t
    else (t.upH h (fun x => { x with txCoef := entryCoef (s.deEmph h) e r, txSrc := ofBool (!entryValid e), txPreset := entryPreset e r })).showTx h
/-- The entry that the table has now for the slot in use taken, as a cold start and a change of slot do (R52). -/
def State.loadTx (s : State) (h : Nat) : State := s.loadEntry h (s.entry h (s.rd (LCH_FOM.RATE_SLOT h)))

/-- Coefficients from the standard link, in force from now on with SRC = 0b10 (R61), and the preset they are, if one. -/
def State.linkTx (s : State) (h : Nat) (c : TxCoef) (preset : Option Nat) : State :=
  (s.upH h (fun x => { x with txCoef := c, txSrc := 2, linkCoef := true, txPreset := preset })).showTx h
/-- One of the standard's presets put in force from the link (R61). -/
def State.linkPreset (s : State) (h n : Nat) : State := s.linkTx h (presetCoef (s.rd (LCH_FOM.RATE_SLOT h)) n) (some n)

/-! ## Alignment (R73) -/

/-- The lowest alignment state among a side's data half-lanes, 0 for none (03, Table 10). -/
def State.lowestAlign (s : State) (q : Nat) : Nat :=
  match (s.dataHalves q).map (fun h => s.rd (LCH_DP_STATUS.ALIGN_STATE h)) with
  | [] => 0
  | a :: as => as.foldl min a

/-- An alignment state, with the side's lowest kept beside it: 0 NO_LOCK, 1 SEARCH, 2 ALIGNED, 3 DATA. Outside ALIGNED the
lane carries no training sets (R151), outside DATA no flits (R87), and without alignment no marker counts (R82). SKEW keeps its
last value (DESIGN CHOICE, log entry 114). -/
def State.setAlign (s : State) (h v : Nat) : State :=
  let t := (s.wr (LCH_DP_STATUS.ALIGN_STATE h) v).upH h (fun x => { x with
    tsSyms := if v = 2 then x.tsSyms else []
    inFlits := x.inFlits && v == 3
    arrival := if v ≤ 1 then none else x.arrival })
  match s.claim h with
  | some q => t.wr (PRT_DP_STATUS.ALIGN q) (t.lowestAlign q)
  | none => t

/-! ## Calibration sets (R200 to R203) -/

/-- The temperature points P0 to P3, in 1/4 °C (07). -/
def tempPoint (i : Nat) : Int := [-20, 120, 260, 400].getD i 400

/-- The temperature T of R202: the reported one of a tile in 1/4 °C, clamped to −5 °C to 100 °C, which is also the value that R203,
R209 and R215 compare (DEDUCED, log entry 115). -/
def State.tileTemp (s : State) (t : Nat) : Int := clampInt (-20) 400 (toSigned 10 (s.rd (CAL_TEMP.TEMP t)))

/-- The record of a receiver at a point. -/
def State.calRec (s : State) (h i : Nat) : CalRec := s.calTab.get {} (4 * h + i)

/-- A field of a record as interpolation takes it: CMP_LO and CMP_HI never measured take part as 0 (R202). -/
def CalRec.field (r : CalRec) (k : Nat) : Int :=
  if r.outerUnmeasured && (k == 48 || k == 50) then 0 else r.set.vals.getD k 0

/-- The weighted mean of two records at a temperature between their points, each field rounded half away from zero. -/
def blend (a b : CalRec) (pa pb t : Int) : CalSet :=
  ⟨(List.range 52).map (fun k => roundDiv ((pb - t) * a.field k + (t - pa) * b.field k) (pb - pa).toNat)⟩

/-- The set of one record used unchanged. -/
def CalRec.asSet (r : CalRec) : CalSet := ⟨(List.range 52).map r.field⟩

/-- The interpolated set of four records at a temperature (R202). -/
def interpolate (recs : Nat → CalRec) (t : Int) : CalSet :=
  let valid := (List.range 4).filter (fun i => (recs i).valid)
  let below := (valid.filter (fun i => decide (tempPoint i ≤ t))).getLast?
  let above := (valid.filter (fun i => decide (t ≤ tempPoint i))).head?
  match below, above with
  | some a, some b => if a = b then (recs a).asSet else blend (recs a) (recs b) (tempPoint a) (tempPoint b) t
  | some a, none => (recs a).asSet
  | none, some b => (recs b).asSet
  | none, none => CalSet.neutral

/-- A receiver's interpolated set at its tile's temperature (R202). -/
def State.calSet (s : State) (h : Nat) : CalSet := interpolate (s.calRec h) (s.tileTemp (tileOfHalf h))

/-- Whether FoM windows run in an adaptation state: CONVERGE, TRIM, TRACK or FROZEN (R63). -/
def measures (st : Nat) : Bool := decide (2 ≤ st) && decide (st ≤ 5)

/-- A half-lane in use (R15): an enabled Port claims it, its Lane Tile is ON and its analog is powered. -/
def State.live (s : State) (h : Nat) : Bool :=
  (s.claim h).isSome && (s.half h).powered && s.tileState (tileOfHalf h) == 2

/-- A calibration set takes effect on a receiver in one step: the FoM window in which it falls is discarded (R58, R203). -/
def State.applySet (s : State) (h : Nat) (c : CalSet) (temp : Int) : State :=
  (s.wr (CAL_RX.APPLIED_TEMP h) (ofSigned 8 (roundDiv temp 4))).upH h (fun x => { x with
    applied := c, appliedTemp := temp, pendingSet := none, pendingRun := false, pendingBack := false,
    discard := x.discard || measures (s.rd (LCH_FOM.ADAPT_STATE h)) })

/-! ## Adaptation (R53 to R60, R474) -/

/-- The engine that serves a half-lane (01): Ek serves Lane Channels 2k and 2k + 1. -/
def engineOf (h : Nat) : Nat := h / 4

/-- Coefficients put in use, with the register that reports them (02, Table 7). -/
def State.setCoef (s : State) (h : Nat) (c : RxCoef) : State :=
  (((s.upH h (fun x => { x with coef := c })).wr (LCH_RX_EQ.VGA h) c.vga).wr (LCH_RX_EQ.DFE_H1 h)
    (ofSigned 6 c.h1)).wr (LCH_RX_EQ.FFE_MAIN h) (ofSigned 8 (c.ffe.getD 3 0))

/-- An adaptation state reached where no FoM is valid yet: the FoM reads 0 (R63). -/
def State.noFom (s : State) (h : Nat) : State := ((s.off (LCH_FOM.FOM_VALID h)).wr (LCH_FOM.FOM h) 0).upH h
  (fun x => { x with tgtRun := 0, discard := false, lastFoms := [], badInWindow := false, limits := none })

/-- The receiver held in IDLE (02, Table 4): LOCK 0, FoM not valid, alignment NO_LOCK. -/
def State.rxIdle (s : State) (h : Nat) : State :=
  (((s.wr (LCH_FOM.ADAPT_STATE h) 0).off (LCH_FOM.LOCK h)).noFom h |>.setAlign h 0).upH h
    (fun x => { x with trim := none, forwarding := false })

/-- The Port requests reception, with a warm start (which R474 repeats once) or a cold one; a receiver in use passes
through IDLE. -/
def State.requestRx (s : State) (h : Nat) (warm : Bool) : State :=
  (s.rxIdle h).upH h (fun x => { x with wantRx := true, warmLeft := if warm then 2 else 0 })

/-- The Port withdraws its request for reception. -/
def State.releaseRx (s : State) (h : Nat) : State :=
  (s.rxIdle h).upH h (fun x => { x with wantRx := false, warmLeft := 0 })

/-- A half-lane put in a rate slot: another slot discards the converged state, and the transmitter takes the entry of
the new slot (R52, R61, R112). -/
def State.setSlot (s : State) (h r : Nat) : State :=
  if s.rd (LCH_FOM.RATE_SLOT h) = r then s
  else ((s.wr (LCH_FOM.RATE_SLOT h) r).upH h (fun x => { x with conv := none, linkCoef := false })).loadTx h

/-- The values a cold start begins from (R49 to R51). -/
def coldCoef (e r : Nat) : RxCoef :=
  { ffe := Config.ffeStart r, h1 := entrySeed e r, vga := entryVga e,
    levels := Config.levelStart r, cdrPhase := (Config.cdrStart r).1, freqInt := (Config.cdrStart r).2 }

/-- ACQUIRE begins (02, Table 4): the interpolated calibration set is taken first (R203), with HOLD at 1 too, which keeps a receiver's
set from interpolation steps only (DESIGN CHOICE, log entry 139); a warm start loads the converged state of the slot, and where there
is none the start is made cold (R474). -/
def State.acquire (s : State) (h : Nat) : State :=
  let s := s.upE (engineOf h) (fun e => { e with quiet := false })
  let r := s.rd (LCH_FOM.RATE_SLOT h)
  let e := s.entry h r
  let s1 := ((s.applySet h (s.calSet h) (s.tileTemp (tileOfHalf h))).wr (LCH_FOM.ADAPT_STATE h) 1).noFom h
  match (s.half h).conv with
  | some c =>
    if 0 < (s.half h).warmLeft ∧ c.slot = r then
      ((s1.on (LCH_RX_EQ.WARM h)).wr (LCH_RX_EQ.CTLE h) c.ctle).setCoef h c.coef
    else (((s1.off (LCH_RX_EQ.WARM h)).put (LCH_RX_EQ.TABLE_DEFAULT h) (!entryValid e)).wr (LCH_RX_EQ.CTLE h)
      (entryCtle e r)).setCoef h (coldCoef e r) |>.upH h (fun x => { x with warmLeft := 0 }) |>.loadTx h
  | none => (((s1.off (LCH_RX_EQ.WARM h)).put (LCH_RX_EQ.TABLE_DEFAULT h) (!entryValid e)).wr (LCH_RX_EQ.CTLE h)
      (entryCtle e r)).setCoef h (coldCoef e r) |>.upH h (fun x => { x with warmLeft := 0 }) |>.loadTx h

/-- The converged state a half-lane keeps is the one it now has (02, Adaptation). -/
def State.keepConv (s : State) (h : Nat) : State := s.upH h (fun x => { x with
  conv := some ⟨s.rd (LCH_FOM.RATE_SLOT h), s.rd (LCH_RX_EQ.CTLE h), x.coef⟩ })

/-- TRACK or FROZEN entered. -/
def State.toTrack (s : State) (h : Nat) (frozen : Bool) : State :=
  ((s.wr (LCH_FOM.ADAPT_STATE h) (if frozen then 5 else 4)).upH h (fun x => { x with trim := none })).keepConv h

/-- Whether trimming is permitted by the entry in use (R52, R54). -/
def State.mayTrim (s : State) (h : Nat) : Bool := entryTrim (s.half h).entry && !s.bit (LCH_EQ_CTRL.CTLE_TRIM_OFF h)

/-- The CTLE codes TRIM measures, in order, from entry code `e` (02, Table 4). -/
def trimCodes (e : Nat) : List Nat :=
  e :: ((if 1 ≤ e then [e - 1] else []) ++ (if 2 ≤ e then [e - 2] else []) ++ (if e + 1 ≤ 31 then [e + 1] else []) ++
    (if e + 2 ≤ 31 then [e + 2] else []))

/-- CONVERGE left: to TRIM where trimming is permitted, else to TRACK (02, Table 4). -/
def State.leaveConverge (s : State) (h : Nat) : State :=
  if s.mayTrim h then
    let e := s.rd (LCH_RX_EQ.CTLE h)
    (s.wr (LCH_FOM.ADAPT_STATE h) 3).upH h (fun x => { x with
      trim := some { entry := e, todo := (trimCodes e).drop 1, cur := e, reconv := 0, seen := 0, sum := 0,
                     best := none, final := false } })
  else s.toTrack h false

/-- Whether code `a` with sum `x` is to be preferred to code `b` with sum `y` (02, Table 4: a tie goes to the code
nearer the entry code, and then to the lower). -/
def trimBetter (e a x b y : Nat) : Bool :=
  let d (c : Nat) : Nat := (c - e) + (e - c)
  decide (y < x) || (x == y && (decide (d a < d b) || (d a == d b && decide (a < b))))

/-- The best code and sum, with a newly measured one taken into account. -/
def trimPick (e : Nat) (best : Option (Nat × Nat)) (c sum : Nat) : Nat × Nat :=
  match best with
  | none => (c, sum)
  | some (b, y) => if trimBetter e c sum b y then (c, sum) else (b, y)

/-- One window of TRIM that published `fom` (02, Table 4). The eight FoMs at a code are summed (DESIGN CHOICE, log entry 83:
the spec does not say how they make one figure). -/
def State.trimWindow (s : State) (h : Nat) (t : Trim) (fom : Nat) : State :=
  if 0 < t.reconv then
    if t.reconv = 1 ∧ t.final then s.toTrack h false
    else s.upH h (fun x => { x with trim := some { t with reconv := t.reconv - 1 } })
  else if t.seen + 1 < 8 then
    s.upH h (fun x => { x with trim := some { t with seen := t.seen + 1, sum := t.sum + fom } })
  else
    let best := trimPick t.entry t.best t.cur (t.sum + fom)
    match t.todo with
    | c :: cs => (s.wr (LCH_RX_EQ.CTLE h) c).upH h (fun x => { x with
        trim := some { t with todo := cs, cur := c, reconv := 16, seen := 0, sum := 0, best := some best } })
    | [] =>
      if best.1 = t.cur then s.toTrack h false
      else (s.wr (LCH_RX_EQ.CTLE h) best.1).upH h (fun x => { x with
        trim := some { t with cur := best.1, reconv := 16, seen := 0, sum := 0, best := some best, final := true } })

/-- FROZEN entered at the end of a window (R57); out of TRIM at the best code measured so far. -/
def State.freeze (s : State) (h : Nat) : State :=
  match (s.half h).trim with
  | some t => (s.wr (LCH_RX_EQ.CTLE h) (match t.best with | some b => b.1 | none => t.entry)).toTrack h true
  | none => s.toTrack h true

/-! ## The figure of merit (R62 to R65) -/

/-- The FoM of a window with mean squares `p` of the ideal levels and `n` of the slicer errors, in one common unit:
4 × 10 × log10(p/n) rounded half away from zero within 0 to 255, and 255 for n = 0 (R62). It is the number of k from 1
to 255 with (p/n)^80 at least 10^(2k − 1). -/
def fomOf (p n : Nat) : Nat :=
  if n = 0 then 255
  else ((List.range 255).filter (fun k => decide (n ^ 80 * 10 ^ (2 * k + 1) ≤ p ^ 80))).length

/-- The limits (target, warning, fault) of the slot a half-lane runs in, those of the window in progress where a commit has
changed them within it (R64, R65). -/
def State.fomLimits (s : State) (h : Nat) : Nat × Nat × Nat :=
  let r := s.rd (LCH_FOM.RATE_SLOT h)
  (s.half h).limits.getD (s.rd (LCH_FOM_LIMITS.TARGET r), s.rd (LCH_FOM_LIMITS.WARN r), s.rd (LCH_FOM_LIMITS.FAULT r))
def State.fomTarget (s : State) (h : Nat) : Nat := (s.fomLimits h).1
def State.fomWarn (s : State) (h : Nat) : Nat := (s.fomLimits h).2.1
def State.fomFault (s : State) (h : Nat) : Nat := (s.fomLimits h).2.2

/-- The limits of a window in progress are held until it ends (R65); a receiver has none while a data-method job holds it or its engine
is stopped (R59, R243). -/
def State.holdLimits (s : State) (h : Nat) : State :=
  let runs := s.rd (ENG_STATUS.STATE (engineOf h)) == 1 && !(match (s.half h).moved with
    | some m => m.data
    | none => false)
  if runs && measures (s.rd (LCH_FOM.ADAPT_STATE h)) then s.upH h (fun x => { x with limits := some (s.fomLimits h) }) else s
/-- The limits of every window in progress are held, before a commit changes those of the slots (R65). -/
def State.holdAllLimits (s : State) : State := s.each (s.halves.entries.map Prod.fst) State.holdLimits

/-- A FoM published (R62 to R64): FOM, FOM_MIN, BELOW_TARGET, WARN with its event at each fall, and FAULT_SEEN. Where a
new acquisition begins below the warning level no new fall is counted, and FAULT_SEEN, once cleared, is set again by the
next window below the fault level (DEDUCED, log entry 84). -/
def State.publishFom (s : State) (h fom : Nat) : State :=
  let warn := decide (fom < s.fomWarn h)
  let fault := decide (fom < s.fomFault h)
  let s1 := (((s.on (LCH_FOM.FOM_VALID h)).wr (LCH_FOM.FOM h) fom).wr (LCH_FOM.FOM_MIN h)
    (min fom (s.rd (LCH_FOM.FOM_MIN h)))).put (LCH_FOM.BELOW_TARGET h) (decide (fom < s.fomTarget h))
  let s2 := if fault then s1.on (LCH_FOM.FAULT_SEEN h) else s1
  let s3 := if warn && !(s.half h).belowWarn then
      match s.claim h with
      | some q => (s2.on (LCH_FOM.WARN h)).raise 0x02 (q / 2) (h / 2) (h % 2) fom
      | none => s2.on (LCH_FOM.WARN h)
    else s2
  s3.upH h (fun x => { x with
    belowWarn := warn, belowFault := fault, lastFoms := (fom :: x.lastFoms).take 4 })

/-- The coefficients at the end of a window, as adaptation may hold them under the entry in use (R48, R51, R52). A window
holds up to 65,536 LMS updates, so the one unit that R58 allows each of them bounds no coefficient at its end (DEDUCED, log
entry 85). -/
def State.adapted (s : State) (h : Nat) (c : RxCoef) : State :=
  let r := s.rd (LCH_FOM.RATE_SLOT h)
  s.setCoef h { c with h1 := boundH1 (s.half h).entry r c.h1, vga := min c.vga 63 }

/-- What the end of a counted window does to the adaptation state (02, Table 4; R57). -/
def State.windowStep (s : State) (h fom : Nat) : State :=
  let st := s.rd (LCH_FOM.ADAPT_STATE h)
  if st = 2 then
    let n := if s.fomTarget h ≤ fom then (s.half h).tgtRun + 1 else 0
    let t := s.upH h (fun x => { x with tgtRun := n })
    if s.bit (LCH_EQ_CTRL.FREEZE h) then t.freeze h else if 8 ≤ n then t.leaveConverge h else t
  else if st = 3 then
    match (s.half h).trim with
    | some tr =>
      let t := s.trimWindow h tr fom
      if s.bit (LCH_EQ_CTRL.FREEZE h) then t.freeze h else t
    | none => s
  else if st = 4 then if s.bit (LCH_EQ_CTRL.FREEZE h) then s.freeze h else s.keepConv h
  else if s.bit (LCH_EQ_CTRL.FREEZE h) then s else s.toTrack h false

/-- The end of a window that an Apply Point fell in (R58): the coefficients are those at the Apply Point, nothing is
published, and only FREEZE acts (R57). The window does not count among those of TRIM (DEDUCED, log entry 86). -/
def State.windowDropped (s : State) (h : Nat) (rx : RxCoef) : State :=
  let st := s.rd (LCH_FOM.ADAPT_STATE h)
  let t := (if st = 5 then s else s.adapted h rx).upH h (fun x => { x with
    discard := false, badInWindow := false, limits := none })
  if st = 5 then if s.bit (LCH_EQ_CTRL.FREEZE h) then t else t.toTrack h false
  else if s.bit (LCH_EQ_CTRL.FREEZE h) then t.freeze h
  else if st = 4 then t.keepConv h else t

end Sys2Proof.Machine
end

