-- ==== Sys2Proof/Machine/EngOps.lean ====
section
/-! DEFINITION. Operations on lane engines and their jobs (08): stopping a job, its safe point, restoring and ending. -/

namespace Sys2Proof.Machine

/-- The states of ENG_STATUS.STATE (R246). -/
def engOff : Nat := 0
def engRunning : Nat := 1
def engRestarting : Nat := 2
def engDisabled : Nat := 3

/-- Whether the engine that serves a half-lane runs (R59, R243). -/
def State.engineUp (s : State) (h : Nat) : Bool := s.rd (ENG_STATUS.STATE (engineOf h)) == engRunning

/-- The four receivers of an engine (R224). -/
def engineRx (k : Nat) : List Nat := (List.range 4).map (fun i => 4 * k + i)
/-- Whether a receiver acquires, converges or trims. -/
def State.adapting (s : State) (h : Nat) : Bool :=
  decide (1 ≤ s.rd (LCH_FOM.ADAPT_STATE h)) && decide (s.rd (LCH_FOM.ADAPT_STATE h) ≤ 3)
/-- Whether all four receivers of an engine are in TRACK, FROZEN or IDLE and no calibration run is under way (R226). -/
def State.restful (s : State) (k : Nat) : Bool := (engineRx k).all (fun h => !s.adapting h && (s.half h).run.isNone)
/-- An engine comes up (R242, R407, R420): what it measures of the epoch begins here (R246). -/
def State.runEngine (s : State) (k : Nat) : State :=
  (s.wr (ENG_STATUS.STATE k) engRunning).upE k (fun e => { e with quiet := s.restful k, upkeep := 0, jobs := false, ran := true })

/-- The engine-local receiver index of a half-lane (R224). -/
def localRx (h : Nat) : Nat := h % 4

/-- ENG_STATUS made to report the job in the slot (R246): 1 RUNNING, 2 STOPPING, 3 RESTORING, 4 ENDED with results held. -/
def State.showJob (s : State) (k st : Nat) : State :=
  match (s.engine k).slot with
  | none => ((((s.off (ENG_STATUS.JOB_BUSY k)).wr (ENG_STATUS.JOB_STATE k) 0).wr (ENG_STATUS.JOB_RX k) 0).wr
      (ENG_STATUS.JOB_KIND k) 0).wr (ENG_STATUS.JOB_SLICE k) 0
  | some j => ((((s.on (ENG_STATUS.JOB_BUSY k)).wr (ENG_STATUS.JOB_STATE k) st).wr (ENG_STATUS.JOB_RX k)
      (localRx j.half)).wr (ENG_STATUS.JOB_KIND k) (j.kind - 1)).wr (ENG_STATUS.JOB_SLICE k) j.slice

/-- The state of the job in the slot. -/
def State.jobState (s : State) (k : Nat) : Nat := s.rd (ENG_STATUS.JOB_STATE k)

/-- A running job meets a stop cause (R238): it enters STOPPING, and its first cause is its result. -/
def State.stopJob (s : State) (k cause : Nat) : State :=
  match (s.engine k).slot with
  | some j => if s.jobState k = 1 then
      (s.upE k (fun e => { e with slot := some { j with cause := some cause } })).showJob k 2
    else s
  | none => s

/-- Whether a job acts on a receiver: its target, or a receiver of its side with PORT_SCOPE (R227). -/
def State.jobOn (s : State) (j : Job) (h : Nat) : Bool :=
  j.half == h || (j.portScope && s.claim h == some j.side)

/-- The engines whose entry a test picks. -/
def State.enginesWith (s : State) (f : Nat → Engine → Bool) : List Nat :=
  (s.engines.entries.filter (fun e => f e.1 e.2)).map Prod.fst

/-- The running jobs that act on a receiver stop (R238). -/
def State.stopJobsOn (s : State) (h cause : Nat) : State :=
  s.each (s.enginesWith (fun _ e => match e.slot with | some j => s.jobOn j h | none => false)) (fun t k => t.stopJob k cause)

/-- Whether a job holds a receiver's error sampler, and whether it moves the data sampling too (08, Table 3). -/
def State.holdsSampler (s : State) (h : Nat) : Bool :=
  match (s.engine (engineOf h)).slot with
  | some j => j.half == h && j.kind ≤ 2 && decide (s.jobState (engineOf h) ≤ 3)
  | none => false
def State.holdsData (s : State) (h : Nat) : Bool :=
  match (s.engine (engineOf h)).slot with
  | some j => j.half == h && j.kind == 1 && j.dataMethod && decide (s.jobState (engineOf h) ≤ 3)
  | none => false

/-- Whether an engine job holds the adaptation of a receiver: it moves the data sampling itself (R59, R228). -/
def Half.held (x : Half) : Bool := match x.moved with
  | some m => m.data
  | none => false

/-- A receiver's error sampler, sampling phase and thresholds returned to rest (R236). -/
def State.restoreRx (s : State) (h : Nat) : State := s.upH h (fun x => { x with moved := none })

/-- The inline result of a job that ended with a code (R230). -/
def Job.inline (j : Job) (code : Nat) : List Nat :=
  [code, j.kind, j.done % 256, j.done / 256, j.lastPass % 256, j.lastPass / 256, 0, 0] ++
    (leBytes 8 (if j.kind = 1 then j.lastErr else j.written)).map BitVec.toNat

/-- A job ends with a result code (R238): its completion is posted to the event Ring its command named, unless its
Slice was reset (R239). -/
def State.endJob (s : State) (j : Job) (code : Nat) : State :=
  let s0 := s.tileQuiet (tileOfHalf j.half)
  let s1 := if code = 4 then s0.satUp (ENG_CNT.DISPLACED (engineOf j.half)) else s0
  if j.silent then s1
  else s1.complete j.slice j.ring j.entry j.tag (some j.evRing) (if code = 0 then 0 else 4) (j.inline code) none

/-- Queued jobs that a test picks end with a code (R232, R340). -/
def State.endQueued (s : State) (pick : Job → Bool) (code : Nat) : State :=
  s.each (s.enginesWith (fun _ e => e.queue.any pick)) (fun t k =>
    let out := (t.engine k).queue.filter pick
    let t1 := t.upE k (fun e => { e with queue := e.queue.filter (fun j => !pick j) })
    out.foldl (fun u j => u.endJob j code) t1)

/-- Running jobs that a test picks stop with a cause. -/
def State.stopRunning (s : State) (pick : Job → Bool) (cause : Nat) : State :=
  s.each (s.enginesWith (fun _ e => match e.slot with | some j => pick j | none => false)) (fun t k => t.stopJob k cause)

end Sys2Proof.Machine
end

