-- ==== Sys2Proof/Machine/Digest.lean ====
section
/-! DEFINITION. The public algorithms that the image and the calibration store name (07, R218; 09, R251, R255 to R257): the
CRC-32 of IEEE 802.3, SHA-384, and the check of an ECDSA signature over P-384. The spec names them; their tables and formulas are
taken from their standards (PRESUMED, log entry 14). -/

namespace Sys2Proof.Machine

/-! ## CRC-32 -/

/-- One byte taken into a CRC-32, the least significant bit first. -/
def crc32Step (c : Nat) (b : Byte) : Nat :=
  (List.range 8).foldl (fun v _ => if v % 2 = 1 then v / 2 ^^^ 0xEDB88320 else v / 2) (c ^^^ b.toNat)
/-- The CRC-32 of a list of bytes. -/
def crc32 (bs : List Byte) : Nat := bs.foldl crc32Step 0xFFFFFFFF ^^^ 0xFFFFFFFF

/-! ## SHA-384 -/

/-- The round constants: the cube roots of the first 80 primes, their first 64 fractional bits. -/
def shaKeys0 : List Nat :=
  [0x428A2F98D728AE22, 0x7137449123EF65CD, 0xB5C0FBCFEC4D3B2F, 0xE9B5DBA58189DBBC,
   0x3956C25BF348B538, 0x59F111F1B605D019, 0x923F82A4AF194F9B, 0xAB1C5ED5DA6D8118,
   0xD807AA98A3030242, 0x12835B0145706FBE, 0x243185BE4EE4B28C, 0x550C7DC3D5FFB4E2,
   0x72BE5D74F27B896F, 0x80DEB1FE3B1696B1, 0x9BDC06A725C71235, 0xC19BF174CF692694,
   0xE49B69C19EF14AD2, 0xEFBE4786384F25E3, 0x0FC19DC68B8CD5B5, 0x240CA1CC77AC9C65]
def shaKeys1 : List Nat :=
  [0x2DE92C6F592B0275, 0x4A7484AA6EA6E483, 0x5CB0A9DCBD41FBD4, 0x76F988DA831153B5,
   0x983E5152EE66DFAB, 0xA831C66D2DB43210, 0xB00327C898FB213F, 0xBF597FC7BEEF0EE4,
   0xC6E00BF33DA88FC2, 0xD5A79147930AA725, 0x06CA6351E003826F, 0x142929670A0E6E70,
   0x27B70A8546D22FFC, 0x2E1B21385C26C926, 0x4D2C6DFC5AC42AED, 0x53380D139D95B3DF,
   0x650A73548BAF63DE, 0x766A0ABB3C77B2A8, 0x81C2C92E47EDAEE6, 0x92722C851482353B]
def shaKeys2 : List Nat :=
  [0xA2BFE8A14CF10364, 0xA81A664BBC423001, 0xC24B8B70D0F89791, 0xC76C51A30654BE30,
   0xD192E819D6EF5218, 0xD69906245565A910, 0xF40E35855771202A, 0x106AA07032BBD1B8,
   0x19A4C116B8D2D0C8, 0x1E376C085141AB53, 0x2748774CDF8EEB99, 0x34B0BCB5E19B48A8,
   0x391C0CB3C5C95A63, 0x4ED8AA4AE3418ACB, 0x5B9CCA4F7763E373, 0x682E6FF3D6B2B8A3,
   0x748F82EE5DEFB2FC, 0x78A5636F43172F60, 0x84C87814A1F0AB72, 0x8CC702081A6439EC]
def shaKeys3 : List Nat :=
  [0x90BEFFFA23631E28, 0xA4506CEBDE82BDE9, 0xBEF9A3F7B2C67915, 0xC67178F2E372532B,
   0xCA273ECEEA26619C, 0xD186B8C721C0C207, 0xEADA7DD6CDE0EB1E, 0xF57D4F7FEE6ED178,
   0x06F067AA72176FBA, 0x0A637DC5A2C898A6, 0x113F9804BEF90DAE, 0x1B710B35131C471B,
   0x28DB77F523047D84, 0x32CAAB7B40C72493, 0x3C9EBE0A15C9BEBC, 0x431D67C49C100D4C,
   0x4CC5D4BECB3E42B6, 0x597F299CFC657E2A, 0x5FCB6FAB3AD6FAEC, 0x6C44198C4A475817]
def shaKeys : List Nat := shaKeys0 ++ shaKeys1 ++ shaKeys2 ++ shaKeys3
/-- The initial hash: the square roots of the ninth to the sixteenth prime. -/
def shaStart : List Nat :=
  [0xCBBB9D5DC1059ED8, 0x629A292A367CD507, 0x9159015A3070DD17, 0x152FECD8F70E5939,
   0x67332667FFC00B31, 0x8EB44A8768581511, 0xDB0C2E0D64F98FA7, 0x47B5481DBEFA4FA4]

/-- Sums and rotations of 64-bit words. -/
def wrap64 (n : Nat) : Nat := n % 2 ^ 64
def rotr64 (n x : Nat) : Nat := x / 2 ^ n + x % 2 ^ n * 2 ^ (64 - n)

/-- The next word of the message schedule, from the 16 before it. -/
def shaNext (w : List Nat) : Nat :=
  let a := w.getD 1 0
  let b := w.getD 14 0
  wrap64 (w.getD 0 0 + (rotr64 1 a ^^^ rotr64 8 a ^^^ a / 2 ^ 7) + w.getD 9 0 + (rotr64 19 b ^^^ rotr64 61 b ^^^ b / 2 ^ 6))

/-- The eight working words after one round with a constant and a schedule word. -/
def shaRound (v : List Nat) (k w : Nat) : List Nat :=
  match v with
  | [a, b, c, d, e, f, g, h] =>
    let t1 := h + (rotr64 14 e ^^^ rotr64 18 e ^^^ rotr64 41 e) + ((e &&& f) ^^^ ((2 ^ 64 - 1 - e) &&& g)) + k + w
    let t2 := (rotr64 28 a ^^^ rotr64 34 a ^^^ rotr64 39 a) + ((a &&& b) ^^^ (a &&& c) ^^^ (b &&& c))
    [wrap64 (t1 + t2), a, b, c, wrap64 (d + t1), e, f, g]
  | _ => v

/-- The rounds over a list of constants; the schedule moves one word at each. -/
def shaRounds : List Nat → List Nat → List Nat → List Nat
  | [], _, v => v
  | k :: ks, w, v => shaRounds ks (w.drop 1 ++ [shaNext w]) (shaRound v k (w.getD 0 0))

/-- A hash taken on over one block of 128 bytes. -/
def shaBlock (h : List Nat) (block : List Byte) : List Nat :=
  let w := (List.range 16).map (fun i => beNat ((block.drop (8 * i)).take 8))
  List.zipWith (fun x y => wrap64 (x + y)) h (shaRounds shaKeys w h)

/-- The blocks of a padded message, at most so many. -/
def shaBlocks : Nat → List Byte → List Nat → List Nat
  | 0, _, h => h
  | n + 1, bs, h => shaBlocks n (bs.drop 128) (shaBlock h (bs.take 128))

/-- The SHA-384 digest of a message as a number: the bit 1, zeros and the length in bits close the last block. -/
def sha384 (bs : List Byte) : Nat :=
  let n := bs.length
  let padded := bs ++ [0x80] ++ zeros ((239 - n % 128) % 128) ++ beBytes 16 (8 * n)
  (shaBlocks (padded.length / 128) padded shaStart).take 6 |>.foldl (fun a w => a * 2 ^ 64 + w) 0

/-! ## ECDSA over P-384 -/

/-- The field, the order of the group, the constant of the curve y² = x³ − 3x + b and its base point. -/
def p384Field : Nat := 2 ^ 384 - 2 ^ 128 - 2 ^ 96 + 2 ^ 32 - 1
def p384Order : Nat :=
  0xFFFFFFFFFFFFFFFFFFFFFFFFFFFFFFFFFFFFFFFFFFFFFFFFC7634D81F4372DDF581A0DB248B0A77AECEC196ACCC52973
def p384B : Nat :=
  0xB3312FA7E23EE7E4988E056BE3F82D19181D9C6EFE8141120314088F5013875AC656398D8A2ED19D2A85C8EDD3EC2AEF
def p384X : Nat :=
  0xAA87CA22BE8B05378EB1C71EF320AD746E1D3B628BA79B9859F741E082542A385502F25DBF55296C3A545E3872760AB7
def p384Y : Nat :=
  0x3617DE4A96262C6F5D9E98BF9292DC29F8F41DBD289A147CE9DA3113B5F0B8C00A60B1CE1D7E819D7A431D7C90EA0E5F

/-- A power modulo m, by the 384 bits of its exponent from the highest. -/
def powMod (m x e : Nat) : Nat :=
  (List.range 384).foldl (fun a i => if e / 2 ^ (383 - i) % 2 = 1 then a * a % m * x % m else a * a % m) 1
/-- The inverse modulo a prime. -/
def invMod (m x : Nat) : Nat := powMod m (x % m) (m - 2)

/-- A point of the curve as X, Y, Z with x = X/Z² and y = Y/Z³; Z = 0 at infinity. -/
structure EcPoint where
  x : Nat
  y : Nat
  z : Nat
  deriving DecidableEq, Repr

/-- Arithmetic modulo the field. -/
def fMul (a b : Nat) : Nat := a * b % p384Field
def fSub (a b : Nat) : Nat := (a + p384Field - b) % p384Field

/-- A point doubled. -/
def ecDouble (a : EcPoint) : EcPoint :=
  let zz := fMul a.z a.z
  let yy := fMul a.y a.y
  let s := fMul (4 * a.x) yy
  let m := fMul (3 * fSub a.x zz) (a.x + zz)
  let x := fSub (fMul m m) (2 * s % p384Field)
  ⟨x, fSub (fMul m (fSub s x)) (fMul 8 (fMul yy yy)), fMul (2 * a.y) a.z⟩

/-- The sum of two points. -/
def ecAdd (a b : EcPoint) : EcPoint :=
  if a.z = 0 then b else if b.z = 0 then a
  else
    let za := fMul a.z a.z
    let zb := fMul b.z b.z
    let u := fMul a.x zb
    let v := fMul a.y (fMul b.z zb)
    let h := fSub (fMul b.x za) u
    let r := fSub (fMul b.y (fMul a.z za)) v
    if h = 0 then (if r = 0 then ecDouble a else ⟨1, 1, 0⟩)
    else
      let hh := fMul h h
      let hhh := fMul h hh
      let w := fMul u hh
      let x := fSub (fSub (fMul r r) hhh) (2 * w % p384Field)
      ⟨x, fSub (fMul r (fSub w x)) (fMul v hhh), fMul h (fMul a.z b.z)⟩

/-- i·P + j·Q, by the bits of both from the highest. -/
def ecSum (i j : Nat) (p q : EcPoint) : EcPoint :=
  let pq := ecAdd p q
  (List.range 384).foldl (fun a k =>
    let d := ecDouble a
    if i / 2 ^ (383 - k) % 2 = 1 then ecAdd d (if j / 2 ^ (383 - k) % 2 = 1 then pq else p)
    else if j / 2 ^ (383 - k) % 2 = 1 then ecAdd d q else d) ⟨1, 1, 0⟩

/-- Whether r and s sign a digest under a public key in SEC 1 uncompressed form. -/
def ecdsaOk (key : List Byte) (digest r s : Nat) : Bool :=
  let x := beNat ((key.drop 1).take 48)
  let y := beNat ((key.drop 49).take 48)
  key.length == 97 && key.getD 0 0 == 4 && decide (x < p384Field) && decide (y < p384Field) &&
  fMul y y == (fMul x (fMul x x) + 3 * (p384Field - x) + p384B) % p384Field &&
  decide (0 < r) && decide (r < p384Order) && decide (0 < s) && decide (s < p384Order) &&
  (let w := invMod p384Order s
   let a := ecSum (digest * w % p384Order) (r * w % p384Order) ⟨p384X, p384Y, 1⟩ ⟨x, y, 1⟩
   let zi := invMod p384Field a.z
   a.z != 0 && fMul a.x (fMul zi zi) % p384Order == r)

end Sys2Proof.Machine
end

