-- ==== Sys2Proof/Machine/Flash.lean ====
section
/-! DEFINITION. The boot flash as bytes (07, R217 to R219; 09, R249 to R251): reading, erasing and programming it, and its layout. -/

namespace Sys2Proof.Machine

/-! ## Bytes by address -/

/-- The canonical form of a memory: addresses strictly rising, and no byte listed that reads as an erased one. -/
def Memory.wf : Memory → Bool
  | [] => true
  | c :: rest => c.2 != 0xFF && rest.all (fun d => decide (c.1 < d.1)) && Memory.wf rest

/-- The byte at an address: an erased byte reads 0xFF (R250). -/
def Memory.get (m : Memory) (a : Nat) : Byte := (lookupKey a m).getD 0xFF

/-- The bytes from an address on, of cells that all lie there. -/
def takeCells : Nat → Nat → Memory → List Byte
  | 0, _, _ => []
  | n + 1, a, [] => 0xFF :: takeCells n (a + 1) []
  | n + 1, a, c :: rest => if c.1 = a then c.2 :: takeCells n (a + 1) rest else 0xFF :: takeCells n (a + 1) (c :: rest)

/-- n bytes from an address. -/
def Memory.read (m : Memory) (a n : Nat) : List Byte := takeCells n a (m.filter (fun c => decide (a ≤ c.1)))

/-- The cells of bytes from an address on, erased ones not listed. -/
def cellsOf : Nat → List Byte → Memory
  | _, [] => []
  | a, b :: bs => if b = 0xFF then cellsOf (a + 1) bs else (a, b) :: cellsOf (a + 1) bs

/-- The bytes from an address on replaced. -/
def Memory.put (m : Memory) (a : Nat) (bs : List Byte) : Memory :=
  m.filter (fun c => decide (c.1 < a)) ++ cellsOf a bs ++ m.filter (fun c => decide (a + bs.length ≤ c.1))

/-- n bytes from an address on erased. -/
def Memory.clear (m : Memory) (a n : Nat) : Memory := m.filter (fun c => decide (c.1 < a) || decide (a + n ≤ c.1))

/-! ## Operations of the flash -/

def State.flashErase (s : State) (a n : Nat) : State := s.setFlash (s.flash.clear a n)
def State.flashWrite (s : State) (a : Nat) (bs : List Byte) : State := s.setFlash (s.flash.put a bs)

/-- A flash operation that fails leaves the bytes it worked on open: each a free value (log entry 14). -/
def State.flashSpoil (s : State) (a n : Nat) : State :=
  (s.takeFree).2.flashWrite a ((List.range n).map (fun i => Config.flashByte s.takeFree.1 i))

/-! ## The layout (R217, R249, R250) -/

/-- The first byte of an image slot, true for B, and of its trailer sector; the longest image. -/
def slotBase (b : Bool) : Nat := if b then 0x1000000 else 0
def slotTrailer (b : Bool) : Nat := slotBase b + 0xFFF000
def maxImage : Nat := 0xFFF000
/-- The first byte of a copy of the calibration store, and of its body. -/
def copyBase (b : Bool) : Nat := if b then 0x3FC0000 else 0x3F80000
def copyBody (b : Bool) : Nat := copyBase b + 0x1000
def bodyLength : Nat := 131072

/-- The trailer bytes of a slot: any value but 0xFF means that the byte is set (R250). -/
def State.tried (s : State) (b : Bool) : Bool := s.flash.get (slotTrailer b) != 0xFF
def State.confirmedSlot (s : State) (b : Bool) : Bool := s.flash.get (slotTrailer b + 1) != 0xFF
/-- A trailer byte programmed to 0x00: 0 TRIED, 1 CONFIRMED. -/
def State.setTrailer (s : State) (b : Bool) (i : Nat) : State := s.flashWrite (slotTrailer b + i) [0x00]

end Sys2Proof.Machine
end

