-- ==== Sys2Proof/Machine/CalOps.lean ====
section
/-! DEFINITION. Operations on calibration runs that other chapters call: disturbing, ending and aborting a run, and
scheduling a set (07, R203, R208, R210, R211). -/

namespace Sys2Proof.Machine

/-- A set scheduled for a receiver's next Apply Point; a newer one replaces it (R203). -/
def State.scheduleSet (s : State) (h : Nat) (c : CalSet) (temp : Int) (ofRun : Bool) : State :=
  s.upH h (fun x => { x with pendingSet := some (c, temp), pendingRun := ofRun, pendingBack := false })

/-- The interpolated set of the working table at the present temperature scheduled (R203). -/
def State.scheduleTable (s : State) (h : Nat) : State := s.scheduleSet h (s.calSet h) (s.tileTemp (tileOfHalf h)) false
/-- The previous set of a run that ends with REVERTED, recomputed from the unchanged working table, scheduled: what HOLD keeps is
this set (R208, R210; 07, Table 12). -/
def State.scheduleBack (s : State) (h : Nat) : State := (s.scheduleTable h).upH h (fun x => { x with pendingBack := true })

/-- The number of runs in progress, which RUNS_ACTIVE reports (R223). -/
def State.countRuns (s : State) : Nat := (s.halves.entries.filter (fun e => e.2.run.isSome)).length
def State.showRuns (s : State) : State := s.wr CAL_STATUS.RUNS_ACTIVE s.countRuns

/-- A run ends with a result (R211): 1 APPLIED, 2 INPUT_NOT_QUALIFIED, 4 ABORTED, 5 REVERTED; ABORTED and REVERTED raise
CAL_WITHDRAWN. After 2, 4 and 5 no automatic run starts for 10 s (R215). -/
def State.endRun (s : State) (h result : Nat) : State :=
  let s1 := ((((s.upH h (fun x => { x with run := none })).tileQuiet (tileOfHalf h)).wr (CAL_RX.LAST_RESULT h) result).wr (CAL_RX.NQ_REASON h) 0).showRuns
  let s2 := if result = 1 then s1
    else s1.upH h (fun x => { x with noAutoUntil := s.elapsed + 10000000 * usUnit })
  if result = 4 ∨ result = 5 then
    match s.claim h with
    | some q => s2.raise 0x0C (q / 2) (h / 2) (h % 2) result
    | none => s2.raiseDev 0x0C (h / 2) (h % 2) result
  else s2

/-- An event of R208 disturbs a capture in progress. -/
def State.disturb (s : State) (h : Nat) : State :=
  match (s.half h).run with
  | some r => if r.stage = .capturing then s.upH h (fun x => { x with run := some { r with disturbed := true } }) else s
  | none => s

/-- An event of R208 that ends a run: before its new set takes effect with ABORTED, its pending set dropped; after it,
with REVERTED and the previous set, recomputed from the working table, scheduled. -/
def State.abortRun (s : State) (h : Nat) : State :=
  match (s.half h).run with
  | none => s
  | some r =>
    if r.stage = .verifying then (s.scheduleBack h).endRun h 5
    else (if (s.half h).pendingRun then s.upH h (fun x => { x with pendingSet := none, pendingRun := false }) else s).endRun h 4

/-- A CLEAR or RELOAD that covers a receiver, or the fencing of its tile, ends its run with ABORTED at any point (R208, R214, R445). -/
def State.clearRun (s : State) (h : Nat) : State :=
  match (s.half h).run with
  | none => s
  | some _ =>
    (if (s.half h).pendingRun then s.upH h (fun x => { x with pendingSet := none, pendingRun := false }) else s).endRun h 4

/-- A receiver's Port leaves ACTIVE or SACTIVE, goes down or is reset, or its rate changes: its calibration run ends
(R208) and the jobs on it stop with TARGET_LOST (R238). -/
def State.rxLeaves (s : State) (h : Nat) : State := (s.abortRun h).stopJobsOn h 5

/-! ## The store's bytes (R200, R217, R218) -/

/-- The 64 bytes of a calibration record (07, Table 1). -/
def CalRec.bytes (r : CalRec) : List Byte :=
  (List.range 52).map (fun k => BitVec.ofInt 8 (r.set.vals.getD k 0)) ++
  [BitVec.ofNat 8 (ofBool r.valid + 2 * ofBool r.estimated + 4 * ofBool r.outerUnmeasured), BitVec.ofNat 8 r.runs,
    BitVec.ofInt 8 r.lastTemp] ++ zeros 9
/-- The record that 64 bytes hold (07, Table 1). -/
def calRecOf (bs : List Byte) : CalRec :=
  { set := ⟨(List.range 52).map (fun k => toSigned 8 (byteAt bs k))⟩
    valid := bitAt (byteAt bs 52) 0
    estimated := bitAt (byteAt bs 52) 1
    outerUnmeasured := bitAt (byteAt bs 52) 2
    runs := byteAt bs 53
    lastTemp := toSigned 8 (byteAt bs 54) }
/-- The working table's key of the record at place 512k + 256d + n of a body (R217). -/
def bodyKey (j : Nat) : Nat := 4 * (2 * (j % 256) + j / 256 % 2) + j / 512
/-- The body of a working table. -/
def calBody (t : Tab CalRec) : List Byte := (List.range 2048).flatMap (fun j => (t.get {} (bodyKey j)).bytes)
/-- The working table of the records of a body, from a place on; records as at reset are not listed. -/
def bodyTab : Nat → Nat → List Byte → Tab CalRec → Tab CalRec
  | 0, _, _, t => t
  | n + 1, j, bs, t =>
    let r := calRecOf (bs.take 64)
    bodyTab n (j + 1) (bs.drop 64) (if r = {} then t else t.set (bodyKey j) r)

/-- The Magic of a store header (07, Table 5). -/
def calMagic : List Byte := [0x43, 0x41, 0x4C, 0x53]
/-- The 60 bytes of a store header before its CRC (07, Table 5). -/
def calHeader (gen time bodyCrc : Nat) : List Byte :=
  calMagic ++ leBytes 2 1 ++ leBytes 2 64 ++ leBytes 4 gen ++ beBytes 8 Config.serial ++ leBytes 4 bodyLength ++
    leBytes 4 bodyCrc ++ leBytes 8 time ++ zeros 24
/-- A field of a header, little-endian. -/
def headerField (bs : List Byte) (i n : Nat) : Nat := leNat ((bs.drop i).take n)

/-- The Generation of a copy that is valid (R219). -/
def State.copyGen (s : State) (b : Bool) : Option Nat :=
  let hd := s.flash.read (copyBase b) 64
  let gen := headerField hd 8 4
  if hd.take 4 ≠ calMagic then none
  else if hd.take 24 ≠ (calHeader gen 0 0).take 24 ∨ gen = 0 ∨ gen = 0xFFFFFFFF ∨ headerField hd 60 4 ≠ crc32 (hd.take 60) then none
  else if headerField hd 24 4 ≠ crc32 (s.flash.read (copyBody b) bodyLength) then none
  else some gen

/-- The current copy, true for B, with its Generation (R219). -/
def State.currentCopy (s : State) : Option (Bool × Nat) :=
  match s.copyGen false, s.copyGen true with
  | some a, some b => if a < b then some (true, b) else some (false, a)
  | some a, none => some (false, a)
  | none, some b => some (true, b)
  | none, none => none

end Sys2Proof.Machine
end

