-- ==== Sys2Proof/Machine/SegOps.lean ====
section
/-! DEFINITION. Operations on Segment Sides: the gearing rule, the PATH content, the training states (05), and what the
Trellis registers show of a side (06). -/

namespace Sys2Proof.Machine

/-- Whether the side interworks with a CR4064 (R161). -/
def State.legacy (s : State) (q : Nat) : Bool := s.bit (PRT_SEG_CTRL.LEGACY q)
/-- The half-lanes a Segment Side runs: with LEGACY its spares stay powered down (R161). -/
def State.segHalves (s : State) (q : Nat) : List Nat := if s.legacy q then s.dataHalves q else s.allHalves q
/-- Whether Trellis is at both ends (R147, R161): the partner names it, and the side is not LEGACY. -/
def State.trellis (s : State) (q : Nat) : Bool :=
  match (s.seg q).partner with
  | some pt => bitAt pt.caps 0 && !s.legacy q
  | none => false
/-- RTT_MAX in ns. -/
def State.rttMaxNs (s : State) (q : Nat) : Nat := 100 * s.rd (PRT_SEG_CTRL.RTT_MAX q)
/-- The line rate of a segment slot in Gbit/s (02, Table 1). -/
def segRate (slot : Nat) : Nat := if slot = 7 then 56 else 128
/-- The frame time in ps (R140). -/
def frameTimePs (slot : Nat) : Nat := if slot = 7 then 39643 else 17344
/-- The rate slot a Segment Side runs. -/
def State.segSlot (s : State) (q : Nat) : Nat := s.rd (PRT_DP_CTRL.SLOT q)

/-! ## Capacity and the gearing rule (R140, R142, R154) -/

/-- The rate of a Standard slot in units of 0.5 GT/s (02, Table 1). -/
def stdRateHalf (slot : Nat) : Nat := [5, 10, 16, 32, 64, 128, 256].getD slot 0

/-- The gearing rule: d half-lanes at the segment rate against 1.02 × w × S (R154), multiplied out to whole numbers. -/
def gearOk (d rate w stdSlot : Nat) : Bool :=
  decide (102 * w * stdRateHalf stdSlot * 2220000 ≤ 2 * (d * rate * 2048 * 995 * 100))

/-- The segment capacity of d data half-lanes (R152, R154), rounded down to whole Gbit/s (DESIGN CHOICE, log entry 143). -/
def segCapacity (d rate : Nat) : Nat := d * rate * 2048 * 995 / (2220 * 1000)

/-- The gearing rule against a capacity that a PATH frame reports in Gbit/s (R154). -/
def capacityOk (cap w stdSlot : Nat) : Bool := decide (102 * w * stdRateHalf stdSlot ≤ 200 * cap)

/-- The highest Standard slot from `r` down at which a test holds; 0 where none does. -/
def highestSlot (ok : Nat → Bool) : Nat → Nat
  | 0 => 0
  | r + 1 => if ok (r + 1) then r + 1 else highestSlot ok r

/-- The replay slots of a side (R140). -/
def replaySlots (d rttMaxNs slot : Nat) : Nat := d * (ceilDiv (1000 * (rttMaxNs + 96)) (frameTimePs slot) + 2)

/-- The flit storage of an entry buffer (R142). -/
def entryUnits (w stdSlot rttMaxNs : Nat) : Nat := ceilDiv (w * stdRateHalf stdSlot * (rttMaxNs + 96)) 4096

/-- The data logical lanes that a placement places. -/
def placedLanes (pl : List Nat) (w : Nat) : List Nat := (List.range w).filter (fun l => pl.getD l 0x1F != 0x1F)

/-- The data width a Segment Side now has: the lanes placed in both of its directions (R188). -/
def State.widthNow (s : State) (q : Nat) : Nat :=
  min (placedLanes (s.seg q).txPlace (s.width q)).length (placedLanes (s.seg q).rxPlace (s.width q)).length

/-! ## PATH content (R152, R105, R119) -/

/-- Whether the standard partner of a Standard Side has been detected (R101, R152). -/
def State.partnerPresent (s : State) (q : Nat) : Bool := (s.dataHalves q).any (fun h => (s.half h).found)

/-- Whether a Standard Side's partner is in electrical idle: no data lane has signal detect. -/
def State.sideIdle (s : State) (q : Nat) : Bool := (s.dataHalves q).all (fun h => !s.bit (LCH_FOM.SIGDET h))

/-- The worst-case latency of a Standard Side slot in half ns (03, Table 8). -/
def worstHalfNs (slot : Nat) : Nat := [120, 88, 96, 76, 76, 56, 36].getD slot 120
/-- The worst-case latency of one crossing in ns (R92). -/
def crossingNs (slot : Nat) : Nat := if slot = 7 then 143 else 73

/-- Whether the far pseudo-port is to be silent for a Standard Side (R105, R114, R115, R118): its partner is in electrical
idle, sends a compliance pattern, asks for Loopback, or has had a stream refused. -/
def State.sideSilent (s : State) (d : Nat) : Bool :=
  let x := s.portx (d / 2)
  s.sideIdle d || x.nonflitHold || x.loopRefused || (if d % 2 = 0 then x.subA else x.subB) == some .pollingCompliance

/-- The link lane that a half-lane of a Standard Side carries (R76): its own number until one is agreed. -/
def State.linkLane (s : State) (h : Nat) : Nat :=
  if s.rd (LCH_DP_STATUS.LINK_LANE h) = 0x1F then s.logical h else s.rd (LCH_DP_STATUS.LINK_LANE h)

/-- The half-lane of a Standard Side that carries a link lane (R76). -/
def State.laneHalf (s : State) (d k : Nat) : Option Nat := (s.dataHalves d).find? (fun h => s.linkLane h == k)

/-- The link lanes of a Standard Side that are back from L0p and not yet aligned, by mask (R115). -/
def State.realigning (s : State) (d : Nat) : Nat :=
  (s.dataHalves d).foldl (fun m h => if (s.half h).realign then m ||| 2 ^ s.linkLane h else m) 0

/-- Eight bytes of a PATH payload. -/
def fit8 (bs : List Byte) : List Byte := (bs ++ zeros 8).take 8

/-- The PATH content that the Standard Side of a geared Port sends across its Segment Side (05, Table 8). A lane back from L0p is
reported as idle until it is aligned, so that the far pseudo-port forwards it from then on (R115; DEDUCED, log entry 119). -/
def State.pathContent (s : State) (p : Nat) : List Byte :=
  let q := if s.isSeg (2 * p) then 2 * p else 2 * p + 1
  let d := otherSide q
  let up := s.rd (PRT_TRN_STATUS.UP_SIDE p)
  let fixed := s.rd (PRT_TRN_CTRL.UPSTREAM p)
  let flags := ofBool (s.partnerPresent d) + 2 * ofBool (s.sideSilent d) + 4 * ofBool (up != 0) +
    8 * ofBool (up == 1 + d % 2) + 16 * ofBool (fixed != 0)
  let slot := s.segSlot q
  let w := s.widthNow q
  let lat := ceilDiv (2 * worstHalfNs (s.rd (PRT_DP_STATUS.SLOT_NOW d)) +
    2 * dclkQuarterNs (s.rd (CLK_DCLK_SEL.LT (s.tileOf p)))) 4 + crossingNs slot
  ([0x01, BitVec.ofNat 8 flags, 1, 0] ++ leBytes 2 ((s.portx p).l0pMask ||| s.realigning d) ++ leBytes 2 (segCapacity w (segRate slot)) ++
    leBytes 4 lat ++ leBytes 4 (s.rttMaxNs q + 96) ++ fit8 ((s.portx p).marginCmd.getD []) ++ fit8 ((s.portx p).marginAns.getD []) ++
    zeros 224)

/-- A PATH payload as an SS Port forwards it over another crossing (R152, R93). -/
def State.pathOnward (s : State) (o : Nat) (m : List Byte) : List Byte :=
  let slot := s.segSlot o
  [0x01, byteAt m 1, byteAt m 2 + 1, 0].map (BitVec.ofNat 8) ++ (m.drop 4).take 2 ++
    leBytes 2 (min (leNat ((m.drop 6).take 2)) (segCapacity (s.widthNow o) (segRate slot))) ++
    leBytes 4 (leNat ((m.drop 8).take 4) + crossingNs slot) ++
    leBytes 4 (leNat ((m.drop 12).take 4) + s.rttMaxNs o + 96) ++ (m.drop 16).take 240

/-- A PATH frame becomes due on a Segment Side in SACTIVE (R152, R475). -/
def State.pathSoon (s : State) (p : Nat) : State :=
  if s.isGeared p then
    let q := if s.isSeg (2 * p) then 2 * p else 2 * p + 1
    if s.segState q = sACTIVE then
      s.upS q (fun x => { x with pathDue := some (s.pathContent p), pathOut := s.pathContent p })
    else s
  else s

/-- Whether OSREL and PATH frames may be used on a Segment Side: its partner names their relay, as the device does (R147). -/
def State.relayOk (s : State) (q : Nat) : Bool :=
  match (s.seg q).partner with
  | some pt => bitAt pt.caps 2
  | none => false

/-- The PATH content with the partner reported absent, sent by an SS Port that lost the other side's partner (R150). The rest of
it, EI = 1, one hop, and no capacity or latency, is the model's (DESIGN CHOICE, log entry 97). -/
def State.pathAbsent (s : State) (q : Nat) : State :=
  if s.segState q = sACTIVE ∧ s.relayOk q then
    let c : List Byte := [0x01, 0x02, 1, 0] ++ zeros 252
    s.upS q (fun x => { x with pathDue := some c, pathOut := c })
  else s

/-! ## What a side's receivers show (06, Table 15) -/

/-- The logical lane of the partner that a receiver expects now (R170): the one whose placement names the home index
that the receiver hears. -/
def State.rxLogical (s : State) (q h : Nat) : Option Nat :=
  let home := s.rd (LCH_SEG_FEC.HEARD h)
  if home = 0x1F then none else (List.range 20).find? (fun l => (s.seg q).rxPlace.getD l 0x1F == home)

/-- The logical lane that a half-lane's transmitter carries now (R170). -/
def State.txLogical (s : State) (q h : Nat) : Option Nat :=
  (List.range 20).find? (fun l => (s.seg q).txPlace.getD l 0x1F == s.logical h)

/-- Whether a receiver meets the conditions for a ready spare (R176, R187) but for RETIRED. A fault declared on it keeps it unfit
until it has recovered as R183 says (DEDUCED, log entry 100). -/
def State.spareFit (s : State) (h : Nat) : Bool :=
  s.bit (LCH_FOM.LOCK h) && s.bit (LCH_SEG_FEC.FRAME_LOCK h) &&
  (s.rd (LCH_FOM.ADAPT_STATE h) == 4 || s.rd (LCH_FOM.ADAPT_STATE h) == 5) &&
  s.bit (LCH_FOM.FOM_VALID h) && decide (s.fomTarget h ≤ s.rd (LCH_FOM.FOM h)) &&
  (s.half h).badAt.isEmpty && !(s.half h).held && !(s.half h).spareBad && s.engineUp h

/-- Whether a receiver hears a spare logical lane now. -/
def State.hearsSpare (s : State) (q h : Nat) : Bool :=
  match s.rxLogical q h with
  | some l => decide (s.width q ≤ l)
  | none => false

/-- The receivers that hear ready spares, by ascending logical lane (R176). -/
def State.readySpares (s : State) (q : Nat) : List Nat :=
  ((List.range (s.spares q)).map (fun i => s.width q + i)).filter (fun l =>
    (s.segHalves q).any (fun h => s.rxLogical q h == some l && s.spareFit h && !(s.half h).retired))

/-- The receiver's part (06, Table 16) on a Segment Side in SACTIVE. One that heard no lane at discovery reads 0xF, as every
receiver does outside SACTIVE (DESIGN CHOICE, log entry 116: Table 16 names no code for them). -/
def State.segPart (s : State) (q h : Nat) : Nat :=
  match s.rxLogical q h with
  | none => if s.rd (LCH_SEG_FEC.HEARD h) = 0x1F then 0xF else 4
  | some l =>
    if l < s.width q then 0
    else if (s.half h).retired then 3
    else if s.spareFit h then 1 else 2

/-- The registers that report the parts of a Segment Side's half-lanes, its ready spares, SPARE_LOST and DEGRADED are
brought up to date (R176, R196, R199): a spare lane that was ready and is not, on the receiver that hears it now, is lost; a job on the only ready spare is displaced (R238). -/
def State.showSide (s : State) (q : Nat) : State :=
  if s.segState q = sACTIVE then
    let ready := s.readySpares q
    let s0 := (if (s.seg q).spareReady.all ready.contains then s else s.on (PRT_TRL_STATUS.SPARE_LOST q)).upS q (fun x => { x with
      spareReady := ready })
    let s1 := s0.each (s.segHalves q) (fun t h =>
      (((t.wr (LCH_LANE_FAULT.STATUS h) (s.segPart q h)).wr (LCH_LANE_FAULT.RX_LOGICAL h)
        ((s.rxLogical q h).getD 0x1F)).wr (LCH_LANE_FAULT.TX_LOGICAL h) ((s.txLogical q h).getD 0x1F)).upH h
        (fun x => { x with fitAt := if s.spareFit h then some (x.fitAt.getD s.elapsed) else none }))
    let s2 := match ready with
      | [l] => s1.each ((s.segHalves q).filter (fun h => s.rxLogical q h == some l && s.holdsSampler h)) (fun t h =>
          t.stopJob (engineOf h) 4)
      | _ => s1
    (s2.wr (PRT_TRL_STATUS.READY_SPARES q) (min 3 ready.length)).put (PRT_TRL_STATUS.DEGRADED q)
      ((placedLanes (s.seg q).rxPlace (s.width q)).length < s.width q ||
       (placedLanes (s.seg q).txPlace (s.width q)).length < s.width q)
  else
    (s.each (s.segHalves q) (fun t h => ((t.wr (LCH_LANE_FAULT.STATUS h) 0xF).wr (LCH_LANE_FAULT.RX_LOGICAL h) 0x1F).wr
      (LCH_LANE_FAULT.TX_LOGICAL h) 0x1F)).wr (PRT_TRL_STATUS.READY_SPARES q) 0 |>.off (PRT_TRL_STATUS.DEGRADED q)

/-- The registers of the half-lane's Segment Side, where it is on one, brought up to date (R176). -/
def State.showOf (s : State) (h : Nat) : State :=
  match s.claim h with
  | some q => if s.isSeg q then s.showSide q else s
  | none => s

/-! ## Moving between the training states (R143) -/

/-- What a half-lane holds of the frames it has received, cleared, HEARD among it (DESIGN CHOICE, log entry 117); the count of stuff
symbols of R131 begins again at 0 (DEDUCED, log entry 94), while that of R130 goes on over any frames sent in a row. -/
def State.clearFrames (s : State) (h : Nat) : State :=
  (((s.upH h (fun x => { x with
      prevRow := none, marked := false, badRun := 0, goodRun := 0, frameNo := 0, badAt := [], corrBlock := 0,
      newEpoch := false, stale := false, retired := false, returned := false, spareBad := false, fitAt := none, omitNext := false, stuffBal := 0 })).off
    (LCH_SEG_FEC.FRAME_LOCK h)).wr (LCH_SEG_FEC.HEARD h) 0x1F).off (LCH_SEG_FEC.SEG_POL_INV h)

/-- Every proposal is void, and placements and epochs start again (R187). -/
def State.clearTrellis (s : State) (q : Nat) : State :=
  ((((s.wr (PRT_TRL_STATUS.STEER_STATE q) 0).wr (PRT_TRL_STATUS.XMIT_STATE q) 0).wr (PRT_TRL_STATUS.RX_EPOCH q) 0).wr
    (PRT_TRL_STATUS.TX_EPOCH q) 0)

/-- The sequenced frames of an SS Port's side that its partner has not acknowledged go back to wait for the side's next rows
(R159; DEDUCED, log entry 98). -/
def State.returnRows (s : State) (q : Nat) : State :=
  if s.isSS (q / 2) then
    let back := (s.seg q).unacked.flatMap (fun r => r.frames.map Prod.snd)
    s.upS (otherSide q) (fun x => { x with exitq := back ++ x.exitq, carried := x.carried + back.length })
  else s

/-- The side leaves SACTIVE or a training state: its runs end, where it was in SACTIVE the jobs on its receivers too (R238), and its queues and Trellis state are lost. What an SS Port has
accepted on the side goes on to the other side (R159; DEDUCED, log entry 98). PARTNER reads unknown again (DESIGN CHOICE, log
entry 117). -/
def State.dropSegment (s : State) (q : Nat) : State :=
  ((((s.each (s.segHalves q) (fun t h => (if s.segState q = sACTIVE then t.rxLeaves h else t.abortRun h).clearFrames h)).clearTrellis q).upS q (fun x =>
    if s.isSS (q / 2) then { enteredAt := s.elapsed, exitq := x.exitq, carried := x.exitq.length } else { enteredAt := s.elapsed })).wr
    (PRT_SEG_STATUS.PARTNER q) 0)

/-- SDETECT entered: every data and spare half-lane sends LANEID frames under the training seed, and the receivers
wait for signal detect (05, Table 5). -/
def State.toSDetect (s : State) (q : Nat) : State :=
  let s1 := ((s.returnRows q).dropSegment q).wr (PRT_SEG_STATUS.STATE q) sDETECT
  let s2 := s1.each (s1.segHalves q) (fun t h => ((t.releaseRx h).setSlot h (t.segSlot q)).setTx h .laneid)
  (s2.wr (PRT_DP_STATUS.SLOT_NOW q) (s2.segSlot q)).showSide q

/-- SACQUIRE entered: the receivers make a cold start and hunt for frame lock (05, Table 5). -/
def State.toSAcquire (s : State) (q : Nat) : State :=
  ((s.wr (PRT_SEG_STATUS.STATE q) sACQUIRE).upS q (fun x => { x with enteredAt := s.elapsed })).each (s.segHalves q)
    (fun t h => t.requestRx h false)

/-- SBACKOFF entered with a reason (R144): ATTEMPTS rises by 1 and stops at 15; the transmitters keep sending LANEID
frames with READY = 0 and the receivers are held in IDLE. -/
def State.toSBackoff (s : State) (q reason : Nat) : State :=
  let s1 := ((s.returnRows q).dropSegment q).wr (PRT_SEG_STATUS.STATE q) sBACKOFF
  let s2 := (s1.wr (PRT_SEG_STATUS.LAST_FAIL q) reason).satUp (PRT_SEG_STATUS.ATTEMPTS q)
  (s2.each (s2.segHalves q) (fun t h => (t.releaseRx h).setTx h .laneid)).showSide q

/-- How long the backoff lasts after a number of attempts, in ms (R144). -/
def backoffMs (attempts : Nat) : Nat := min 64 (2 ^ attempts)

/-- SDOWN entered: transmitters in electrical idle, receivers in IDLE, no slot in use (05, Table 5). -/
def State.toSDown (s : State) (q : Nat) : State :=
  let s1 := ((s.dropSegment q).upS q (fun _ => { enteredAt := s.elapsed })).wr (PRT_SEG_STATUS.STATE q) sDOWN
  let s2 := s1.each (s1.allHalves q) (fun t h => ((t.releaseRx h).setTx h .idle).wr (LCH_FOM.RATE_SLOT h) 0xF)
  (s2.wr (PRT_DP_STATUS.SLOT_NOW q) 0xF).showSide q

/-- The number of a side's running receivers with a bit set. -/
def State.countRx (s : State) (q : Nat) (c : Nat → Cell) : Nat := ((s.segHalves q).filter (fun h => s.bit (c h))).length

/-- SDETECT ends when at least data-width receivers have signal detect (05, Table 5). -/
def State.segSignals (s : State) (q : Nat) : State :=
  if s.segState q = sDETECT ∧ s.width q ≤ s.countRx q LCH_FOM.SIGDET then s.toSAcquire q else s

/-- SACQUIRE ends when at least data-width receivers have frame lock (05, Table 5). -/
def State.segLocks (s : State) (q : Nat) : State :=
  if s.segState q = sACQUIRE ∧ s.width q ≤ s.countRx q LCH_SEG_FEC.FRAME_LOCK then
    (s.wr (PRT_SEG_STATUS.STATE q) sDISCOVER).upS q (fun x => { x with enteredAt := s.elapsed })
  else s

end Sys2Proof.Machine
end

