-- ==== Sys2Proof/Machine/TrainOps.lean ====
section
/-! DEFINITION. Operations on the Standard Sides of a Port (04): its training state, detection, equalisation and the
changes made to forwarded training sets. -/

namespace Sys2Proof.Machine

/-- The data half-lanes of a Port's Standard Sides. -/
def State.stdHalves (s : State) (p : Nat) : List Nat := (s.stdSides p).flatMap s.dataHalves

/-- The negotiated width of a Port, the side's own before one is settled (04, Table 10). -/
def State.negWidth (s : State) (q : Nat) : Nat :=
  match s.rd (PRT_TRN_STATUS.NEG_WIDTH (q / 2)) with
  | 0 => s.width q
  | n => 2 ^ (n - 1)

/-- The data half-lanes of a Standard Side within the negotiated width (R103). -/
def State.negHalves (s : State) (q : Nat) : List Nat := (s.dataHalves q).filter (fun h => decide (s.logical h < s.negWidth q))

/-- The mask of link lanes that the far side of a geared path holds idle under L0p (05, Table 8), 0 on a TT Port. -/
def State.farMask (s : State) (p : Nat) : Nat :=
  if s.isGeared p then leNat (((s.seg (if s.isSeg (2 * p) then 2 * p else 2 * p + 1)).pathIn.drop 4).take 2) else 0

/-- Whether the partners hold a half-lane's link lane idle under L0p (R115). -/
def State.l0pIdle (s : State) (h : Nat) : Bool :=
  match s.claim h with
  | some q => bitAt (s.portx (q / 2)).l0pMask (s.linkLane h) || bitAt (s.farMask (q / 2)) (s.linkLane h)
  | none => false

/-- The part of a Standard Side receiver (06, Table 16). -/
def State.stdPart (s : State) (q h : Nat) : Nat :=
  if s.trn (q / 2) = tDOWN then 0xF
  else if (s.half h).relocking then 5
  else if s.logical h < s.negWidth q then 0 else 0xF

/-- STATUS of a Standard Side's receivers brought up to date (R199). -/
def State.showStd (s : State) (p : Nat) : State :=
  s.each (s.stdSides p) (fun t q => t.each (s.dataHalves q) (fun u h => u.wr (LCH_LANE_FAULT.STATUS h) (t.stdPart q h)))

/-- A training state entered (R100), with the counts of entries to DETECT and to FORWARD. Outside EQ the phase reads
0xF, outside LOWPOWER LP_KIND reads 0, and outside ACTIVE no stream is carried. Leaving ACTIVE ends the calibration
runs and jobs on the Port's receivers and returns their error samplers to rest (R121, R208, R238); what the far side of a geared
path still delivers of its stream then begins none (R100). -/
def State.setTrn (s : State) (p v : Nat) : State :=
  let old := s.trn p
  let s1 := s.wr (PRT_TRN_STATUS.STATE p) v
  let s2 := if v = tDETECT ∧ old ≠ tDETECT then s1.satUp (PRT_TRN_EVENTS.DETECT_CNT p) else s1
  let s3 := if v = tFORWARD ∧ (old = tACTIVE ∨ old = tLOWPOWER) then s2.satUp (PRT_TRN_EVENTS.RECOVERY_CNT p) else s2
  let s4 := if v = tEQ then s3 else s3.wr (PRT_TRN_STATUS.EQ_PHASE p) 0xF
  let s5 := if v = tLOWPOWER then s4 else (s4.wr (PRT_TRN_STATUS.LP_KIND p) 0).upP p (fun x => { x with l0sA := false, l0sB := false })
  if v = tACTIVE then s5
  else
    let s6 := (s5.off (PRT_DP_STATUS.FLIT p)).upP p (fun x => { x with
      streamA := false, streamB := false, marginCmd := none, marginAns := none, marginReply := [], marginFar := none,
      broken := x.broken && old != tACTIVE
      cut := x.cut && old != tACTIVE
      oldStream := x.oldStream || (old == tACTIVE && s.isGeared p && !x.farEnded)
      hotAt := if v = tHOTRESET ∧ old ≠ tHOTRESET then s.elapsed else x.hotAt })
    if old = tACTIVE then s6.each (s.stdHalves p) (fun t h =>
      (t.rxLeaves h).upH h (fun x => { x with margin := none, marginWait := none }))
    else s6

/-- The transmitters of a Port's Standard Sides in electrical idle. -/
def State.stdIdle (s : State) (p : Nat) : State := s.each (s.stdHalves p) (fun t h => t.setTx h .idle)

/-- What DETECT and HOLD begin with (R100, R101, R114): transmitters idle, reception withdrawn, the half-lanes at 2.5 GT/s,
polarity and lane order forgotten (R75), the orientation that of UPSTREAM (R96). -/
def State.freshSides (s : State) (p : Nat) : State :=
  let s1 := s.stdIdle p
  let s2 := s1.each (s1.stdHalves p) (fun t h =>
    ((((t.releaseRx h).setSlot h 0).off (LCH_DP_STATUS.POL_INV h)).wr (LCH_DP_STATUS.LINK_LANE h)
      (if s.isTT p then s.logical h else 0x1F)).upH h (fun x => { x with
        eval := none, fwdPreset := none, eqPreset := none, relocking := false, linkCoef := false, tsSyms := [], txPrecode := false,
        rejected := false, realign := false }))
  let s3 := s2.each (s2.stdSides p) (fun t q => (t.wr (PRT_DP_STATUS.SLOT_NOW q) 0).off (PRT_DP_STATUS.REVERSED q))
  let s4 := (((((s3.wr (PRT_TRN_STATUS.EQ_SLOT p) 0xF).wr (PRT_TRN_STATUS.UP_SIDE p)
    (s3.rd (PRT_TRN_CTRL.UPSTREAM p))).wr (PRT_TRN_STATUS.RETIMER_POS p) 0).off (PRT_TRN_STATUS.CXL p)).off
    (PRT_TRN_STATUS.L0P p)).wr (PRT_TRN_STATUS.NEG_WIDTH p) 0
  ((s4.upP p (fun x => { x with
    subA := none, subB := none, firstConfig := true, l0pMask := 0, loopRefused := false, broken := false, cut := false,
    farEnded := false, oldStream := false, scansA := 0, scansB := 0 })).showStd p).pathSoon p

/-- DETECT entered (R100, R101). -/
def State.enterDetect (s : State) (p : Nat) : State :=
  if (s.stdSides p).isEmpty then s else (s.setTrn p tDETECT).freshSides p

/-- DOWN entered: no forwarding, transmitters in electrical idle, terminations high-impedance (R100). -/
def State.enterDown (s : State) (p : Nat) : State :=
  let s1 := (s.setTrn p tDOWN).stdIdle p
  let s2 := s1.each (s1.stdHalves p) (fun t h =>
    ((t.releaseRx h).wr (LCH_FOM.RATE_SLOT h) 0xF).upH h (fun x => { x with term := false, found := false }))
  (s2.each (s2.stdSides p) (fun t q => t.wr (PRT_DP_STATUS.SLOT_NOW q) 0xF)).showStd p

/-- HOLD entered in place of DETECT (R114), which is no entry to DETECT. -/
def State.enterHold (s : State) (p : Nat) : State :=
  let s1 := (s.setTrn p tHOLD).freshSides p
  s1.each (s1.stdHalves p) (fun t h => t.upH h (fun x => { x with term := false }))

/-- The partner on each Standard Side, or beyond the segments, is present (R100, R101). -/
def State.bothPresent (s : State) (p : Nat) : Bool :=
  if s.isTT p then s.partnerPresent (2 * p) && s.partnerPresent (2 * p + 1)
  else (s.stdSides p).all s.partnerPresent && (s.portx p).farPresent

/-- Whether a Port's Standard Sides are kept in electrical idle by a refusal (R114, R115). -/
def State.kept (s : State) (p : Nat) : Bool := (s.portx p).nonflitHold || (s.portx p).loopRefused

/-- The transmitters of a geared Port's Standard Side, within the width and outside L0p, that are idle while the far side sends
begin to send (R102, R476): all of them, since PATH has one EI bit for a side (DEDUCED, log entry 118). -/
def State.farStart (s : State) (p : Nat) (m : TxMode) : State :=
  if s.isGeared p ∧ !(s.portx p).farEi ∧ !s.kept p then
    s.each (((s.stdSides p).flatMap s.negHalves).filter (fun h => (s.half h).tx == .idle && !s.l0pIdle h)) (fun t h => t.setTx h m)
  else s

/-- FORWARD entered: the Port requests reception on the Standard Sides' data half-lanes within the width, warm after
L1 (R115) and cold from DETECT; from ACTIVE and EQ its receivers go on. On a geared path a far side that sends already has its
signal taken up (R102). -/
def State.enterForward (s : State) (p : Nat) (warm : Option Bool) : State :=
  let s1 := s.setTrn p tFORWARD
  match warm with
  | some w => ((s1.each ((s1.stdSides p).flatMap s1.negHalves) (fun t h => t.requestRx h w)).showStd p).farStart p .start
  | none => (s1.showStd p).farStart p .start

/-- The device starts the transmitter that answers a half-lane's receiver: on a TT Port the same logical lane of the
other side; on a geared path the far pseudo-port learns of it from the PATH content (R102). -/
def State.startAcross (s : State) (h : Nat) : State :=
  match s.claim h with
  | some q =>
    if s.isTT (q / 2) then
      match s.across h with
      | some a => if (s.half a).tx = .idle ∧ s.logical h < s.negWidth q ∧ !s.l0pIdle h then s.setTx a .start else s
      | none => s
    else s.pathSoon (q / 2)
  | none => s

/-- Forwarding on a lane of a TT Port starts once its receiver has LOCK and is in SEARCH or later (R102), on a lane back from L0p
once it is aligned (R115). -/
def State.forwardAcross (s : State) (h : Nat) : State :=
  match s.claim h with
  | some q =>
    if s.isTT (q / 2) ∧ s.bit (LCH_FOM.LOCK h) ∧ 1 ≤ s.rd (LCH_DP_STATUS.ALIGN_STATE h) ∧ tFORWARD ≤ s.trn (q / 2) ∧
        s.trn (q / 2) ≠ tHOLD ∧ !s.l0pIdle h ∧ s.logical h < s.negWidth q ∧
        (!(s.half h).realign ∨ 2 ≤ s.rd (LCH_DP_STATUS.ALIGN_STATE h)) then
      match s.across h with
      | some a => (s.setTx a .forward).upH h (fun x => { x with forwarding := true, relocking := false, realign := false }) |>.showStd
          (q / 2)
      | none => s
    else s
  | none => s

/-- A partner is lost on a Standard Side (R105). -/
def State.losePartner (s : State) (q : Nat) : State :=
  ((s.on (PRT_TRN_EVENTS.PARTNER_LOST q)).raise 0x05 (q / 2) 0xFF (q % 2) 0).enterDetect (q / 2)

/-- The Standard Side of a geared Port goes to DETECT because its segment is gone (R150). -/
def State.segGone (s : State) (p : Nat) : State :=
  if s.trn p = tDOWN ∨ s.trn p = tHOLD then s
  else
    let s1 := s.upP p (fun x => { x with farPresent := false, farEi := true, capacity := none, farEnded := false, oldStream := false })
    (s1.enterDetect p).each (s1.stdHalves p) (fun t h => t.upH h (fun x => { x with term := false }))

/-- What the loss of a Segment Side's partner does beyond the side (R150): on a TS or ST Port the Standard Side enters
DETECT; on an SS Port a PATH frame with PRESENT = 0 goes out on the other side. -/
def State.segLost (s : State) (q : Nat) : State :=
  let p := q / 2
  if s.isSS p then s.pathAbsent (otherSide q) else s.segGone p

/-- A side is faulted (R189): it leaves SACTIVE for SDETECT as for a lost partner, with PORT_FAULT in place of
PARTNER_LOST and a PORT_FAULT event naming the cause. -/
def State.faultSide (s : State) (q cause : Nat) : State :=
  (((s.on (PRT_TRL_STATUS.PORT_FAULT q)).raise 0x08 (q / 2) 0xFF (q % 2) cause).toSDetect q).segLost q

/-- RETRAIN of the Standard Sides (R100): they go to DETECT, and leave HOLD. -/
def State.retrainStd (s : State) (p : Nat) : State :=
  if s.trn p = tDOWN ∨ s.isSS p then s else (s.enterDetect p).noted s p

/-- RETRAIN of a Segment Side (R162): SDETECT, with ATTEMPTS cleared. -/
def State.retrainSeg (s : State) (q : Nat) : State :=
  if !s.isSeg q ∨ s.segState q = sDOWN then s
  else
    let s1 := (s.wr (PRT_SEG_STATUS.ATTEMPTS q) 0).toSDetect q
    (if s.segState q = sACTIVE then s1.segLost q else s1).noted s (q / 2)

/-- A data stream without Flit Mode on a geared path is refused (R114): DETECT, or HOLD, is entered at once, and the 2 ms of
electrical idle run beside it (DEDUCED, log entry 90). -/
def State.refuseNonflit (s : State) (q : Nat) : State :=
  let p := q / 2
  let n := min 15 (s.rd (PRT_TRN_STATUS.NONFLIT_COUNT p) + 1)
  let s1 := (((s.on (PRT_TRN_EVENTS.NONFLIT_REFUSED p)).wr (PRT_TRN_STATUS.NONFLIT_COUNT p) n).raise 0x06 p 0xFF
    (q % 2) n).upP p (fun x => { x with nonflitHold := true, nonflitUntil := s.elapsed + 2000 * usUnit })
  if s.inForce q (PRT_TRN_CTRL.NONFLIT_LIMIT p) ≤ n then s1.enterHold p else s1.enterDetect p

/-! ## Equalisation (R107 to R109) -/

/-- Whether a Standard Side is the UPP of its Port (R96): UP_SIDE names the side that faces upstream. -/
def State.isUpp (s : State) (q : Nat) : Bool := s.rd (PRT_TRN_STATUS.UP_SIDE (q / 2)) == 1 + q % 2
/-- Whether it is the DPP. -/
def State.isDpp (s : State) (q : Nat) : Bool := s.rd (PRT_TRN_STATUS.UP_SIDE (q / 2)) == 2 - q % 2

/-- Whether a side's transmitters serve requests, and whether its receivers evaluate, in a phase (04, Table 4). -/
def State.servesIn (s : State) (q ph : Nat) : Bool := (ph == 2 && s.isDpp q) || (ph == 3 && s.isUpp q)
def State.evaluatesIn (s : State) (q ph : Nat) : Bool := (ph == 2 && s.isUpp q) || (ph == 3 && s.isDpp q)

/-- The candidate presets after the first, by slot (04, Table 5). -/
def candidates (slot : Nat) : List Nat := if slot ≤ 4 then [7, 8, 5, 6, 4, 9] else [5, 6, 4, 7, 8, 3]

/-- The next candidate to try (R109), none when EQ_CANDIDATES presets have been tried or the list is at its end. -/
def State.nextCandidate (s : State) (h : Nat) (ev : Eval) : Option Nat :=
  match s.claim h with
  | none => none
  | some q =>
    if ev.tried.isEmpty then some (s.half h).peerPreset
    else if s.inForce q (PRT_TRN_CTRL.EQ_CANDIDATES (q / 2)) ≤ ev.tried.length then none
    else (candidates (s.rd (LCH_FOM.RATE_SLOT h))).find? (fun c => !(ev.tried.map Prod.fst).contains c)

/-- The candidate with the highest sum, the earlier on a tie (R109); candidates are kept newest first. -/
def bestCandidate : List (Nat × Nat) → Option (Nat × Nat)
  | [] => none
  | (c, x) :: rest =>
    match bestCandidate rest with
    | none => some (c, x)
    | some (d, y) => if y < x then some (c, x) else some (d, y)

/-- The evaluation goes on: the next candidate is requested, or, at the end, the best one, with EQ_BELOW_TARGET when
its average over four windows is below the target (R109). -/
def State.evalNext (s : State) (h : Nat) (ev : Eval) : State :=
  match s.nextCandidate h ev with
  | some c => (s.upH h (fun x => { x with
      eval := some { ev with cur := some c, acked := false, seen := 0, sum := 0 } })).emit (.presetRequest h c)
  | none =>
    match bestCandidate ev.tried with
    | none => s
    | some (c, sum) =>
      let s1 := (s.upH h (fun x => { x with
        eval := some { ev with cur := some c, acked := false, done := true } })).emit (.presetRequest h c)
      match s.claim h with
      | some q => if sum < 4 * s.fomTarget h then s1.on (PRT_TRN_EVENTS.EQ_BELOW_TARGET (q / 2)) else s1
      | none => s1

/-- A window published in TRACK during an evaluation (R109): the trials begin once TRACK is reached; each acknowledged
candidate counts four windows. -/
def State.evalWindow (s : State) (h fom : Nat) : State :=
  match (s.half h).eval with
  | none => s
  | some ev =>
    if ev.done ∨ s.rd (LCH_FOM.ADAPT_STATE h) ≠ 4 then s
    else match ev.cur with
      | none => s.evalNext h ev
      | some c =>
        if !ev.acked then s
        else if ev.seen + 1 < 4 then
          s.upH h (fun x => { x with eval := some { ev with seen := ev.seen + 1, sum := ev.sum + fom } })
        else s.evalNext h { ev with tried := (c, ev.sum + fom) :: ev.tried, cur := none, acked := false, seen := 0, sum := 0 }

/-- Evaluation begins on a receiver (R109); the trials wait for TRACK. -/
def State.evalBegin (s : State) (h : Nat) : State :=
  let ev : Eval := { tried := [], cur := none, acked := false, seen := 0, sum := 0, done := false }
  let s1 := s.upH h (fun x => { x with eval := some ev })
  if s.rd (LCH_FOM.ADAPT_STATE h) = 4 then s1.evalNext h ev else s1

/-- Phase 0 on a lane of the DPP (04, Table 4): the transmitter takes the preset forwarded for it before the rate change, or, where
there is none or a reserved one, the table entry that the half-lane holds (R52). -/
def State.phase0 (s : State) (h : Nat) : State :=
  match (s.half h).eqPreset with
  | some n => if n ≤ 10 then s.linkPreset h n else (s.upH h (fun x => { x with linkCoef := false })).loadEntry h (s.half h).entry
  | none => (s.upH h (fun x => { x with linkCoef := false })).loadEntry h (s.half h).entry

/-- An equalisation phase begins (R107): EQ is entered, the DPP of Phase 0 takes the forwarded presets, and the
pseudo-ports that evaluate begin. -/
def State.eqBegin (s : State) (p ph : Nat) : State :=
  let slot := match s.stdSides p with
    | q :: _ => s.rd (PRT_DP_STATUS.SLOT_NOW q)
    | [] => 0xF
  let s1 := ((s.setTrn p tEQ).wr (PRT_TRN_STATUS.EQ_PHASE p) ph).wr (PRT_TRN_STATUS.EQ_SLOT p) slot
  s1.each (s1.stdSides p) (fun t q =>
    let t1 := if ph = 0 ∧ t.isDpp q then t.each (t.dataHalves q) State.phase0 else t
    t1.each (t1.negHalves q) (fun u h =>
      let v := u.upH h (fun x => { x with rejected := false })
      if v.evaluatesIn q ph then v.evalBegin h else v.upH h (fun x => { x with eval := none })))

/-- Equalisation ends (R100): FORWARD, with the evaluations over; no rejection outlasts the phase it answered (R108). -/
def State.eqEnd (s : State) (p : Nat) : State :=
  (s.setTrn p tFORWARD).each (s.stdHalves p) (fun t h => t.upH h (fun x => { x with eval := none, rejected := false }))

/-- A partner's request to the transmitter of a half-lane (R108). -/
def State.eqRequest (s : State) (p h : Nat) (r : EqRequest) : State :=
  let reject := (s.upH h (fun x => { x with rejected := true })).on (PRT_TRN_EVENTS.EQ_REQ_REJECTED p)
  match r with
  | .preset n => if n ≤ 10 then (s.linkPreset h n).upH h (fun x => { x with rejected := false }) else reject
  | .coef cm1 c0 cp1 =>
    if cm1 + c0 + cp1 = 63 ∧ 21 + cm1 + cp1 ≤ c0 then
      (s.linkTx h { cm2 := 0, cm1 := -(cm1 : Int), c0 := c0, cp1 := -(cp1 : Int), cp2 := 0 } none).upH h
        (fun x => { x with rejected := false })
    else reject

/-! ## Lane margining (R119 to R121) -/

/-- The name of a Standard Side's receivers (R119): B and C, or D and E, by the Port's position, the UPP first. -/
def State.rxName (s : State) (q : Nat) : Option RxName :=
  match s.rd (PRT_TRN_STATUS.RETIMER_POS (q / 2)), s.isUpp q, s.isDpp q with
  | 1, true, _ => some .b
  | 1, _, true => some .c
  | 2, true, _ => some .d
  | 2, _, true => some .e
  | _, _, _ => none

/-- A margining response (R119): to a command of the far pseudo-port in the PATH frames, on a geared Port in the SKP ordered set
generated next, and on a TT Port in the one that passes. -/
def State.answerMargin (s : State) (h : Nat) (far : Option (Nat × RxName)) (value : Nat) : State :=
  match s.claim h, far with
  | some q, some r => (s.upP (q / 2) (fun x => { x with
      marginAns := some (Config.marginReplyBytes r.1 r.2 value) })).pathSoon (q / 2)
  | some q, none =>
    if s.isTT (q / 2) then s.emit (.marginReply h value)
    else s.upP (q / 2) (fun x => { x with marginReply := x.marginReply ++ [(h, value)] })
  | none, _ => s

/-- A margining step is served: the error sampler moves, and the errors counted are what the line gives, a free value
(DESIGN CHOICE, log entry 12). -/
def State.serveMargin (s : State) (h : Nat) (m : Margin) : State :=
  let (n, s1) := s.takeFree
  (s1.upH h (fun x => { x with margin := some m, marginWait := none })).answerMargin h m.far n

/-- The capabilities of Table 8 of 04, in its order. -/
def marginCaps : List Nat := [1, 1, 1, 1, 1, 32, 50, 64, 32, 15]

/-- A margining command for one receiver (R120, R121): a slice job on the error sampler is displaced first, and the step is
served once it has restored the receiver. A return to normal settings is answered with the value 0 (DESIGN CHOICE, log entry
92: the answer is the standard's). -/
def State.marginDo (s : State) (h : Nat) (far : Option (Nat × RxName)) (cmd : MarginCmd) : State :=
  match cmd with
  | .report item => s.answerMargin h far (marginCaps.getD item 0)
  | .step axis offset =>
    let m : Margin := ⟨axis, offset, far⟩
    if s.holdsSampler h then (s.upH h (fun x => { x with marginWait := some m })).stopJob (engineOf h) 4 else s.serveMargin h m
  | .normal => (s.upH h (fun x => { x with margin := none, marginWait := none })).answerMargin h far 0

/-! ## Changes to forwarded training sets (R99) -/

/-- The highest slot a Standard Side may advertise (R99, R154): on a TT Port the lower of A_SLOT and B_SLOT; on a geared
path the side's slot, further limited by the capacity the PATH frames report. -/
def State.slotLimit (s : State) (q : Nat) : Nat :=
  let p := q / 2
  if s.isTT p then min (s.rd (PRT_DP_CTRL.A_SLOT p)) (s.rd (PRT_DP_CTRL.B_SLOT p))
  else
    let seg := otherSide q
    let w := s.widthNow seg
    let own (r : Nat) : Bool := s.segState seg != sACTIVE || gearOk w (segRate (s.segSlot seg)) (s.width q) r
    let far (r : Nat) : Bool := match (s.portx p).capacity with
      | some c => capacityOk c (s.width q) r
      | none => true
    highestSlot (fun r => own r && far r) (s.rd (PRT_DP_CTRL.SLOT q))

/-- The least N_FTS at a rate (04, Table 7). -/
def minNfts (slot : Nat) : Nat := [48, 96, 128, 192, 255].getD slot 0

/-- The magnitudes of a transmitter's coefficients c−1, c0 and c+1 in the standard's notation (R42, R108). -/
def TxCoef.magnitudes (c : TxCoef) : Nat × Nat × Nat := (c.cm1.natAbs, c.c0.natAbs, c.cp1.natAbs)

/-- A set with changed content has its symbols made anew (R99). -/
def TrainingSet.remade (new old : TrainingSet) : TrainingSet :=
  if new = old then old else { new with symbols := Config.tsSymbols new }

/-- What does not depend on the transmitter, in a set received on half-lane `h` of Standard Side `q` (R97, R99, Table 2; R75:
the inversion of the lane is corrected). -/
def State.enteredSet (s : State) (q h : Nat) (ts : TrainingSet) : TrainingSet :=
  let up : TrainingSet := { ts with inverted := false }
  TrainingSet.remade { up with
    rates := ts.rates % 2 ^ (s.slotLimit q + 1)
    nFts := max ts.nFts (minNfts (s.rd (LCH_FOM.RATE_SLOT h)))
    twoRetimers := if ts.ts2 then ts.twoRetimers || ts.retimerPresent else ts.twoRetimers
    retimerPresent := ts.retimerPresent || ts.ts2
    shb := false } up

/-- Whether a Standard Side's pseudo-port acts in the present phase (04, Table 4). -/
def State.actsNow (s : State) (q : Nat) : Bool :=
  s.trn (q / 2) == tEQ && (s.rd (PRT_TRN_STATUS.EQ_PHASE (q / 2)) != 0 || s.isDpp q)

/-- A set as it leaves on the transmitter of half-lane `a` of Standard Side `d`: with the pseudo-port's own preset, coefficients,
FS and LF, request and rejection in the phases where it acts, its own precoding request, and no rate above its limit (R98,
R99, Table 2). The precoding request stands in every set, from the entry of the slot in use (PRESUMED, log entry 120). -/
def State.sentSet (s : State) (d a : Nat) (ts : TrainingSet) : TrainingSet :=
  let x := s.half a
  let own := s.actsNow d && !ts.ts2
  TrainingSet.remade { ts with
    rates := ts.rates % 2 ^ (s.slotLimit d + 1)
    preset := if own then x.txPreset else ts.preset
    coefs := if own then x.txCoef.magnitudes else ts.coefs
    fs := if own then 63 else ts.fs
    lf := if own then 21 else ts.lf
    request := if own then x.eval.bind (fun e => e.cur.map EqRequest.preset) else ts.request
    reject := if own then x.rejected else ts.reject
    precode := entryPrecode x.entry (s.rd (LCH_FOM.RATE_SLOT a)) } ts

end Sys2Proof.Machine
end

