-- ==== Sys2Proof/Machine/TrellisOps.lean ====
section
/-! DEFINITION. Operations of Trellis sparing (06): placements, messages, the steering end and the transmitting end,
and the declaration and recovery of lane faults. -/

namespace Sys2Proof.Machine

/-- The states of a steering end (06, Table 5) and of a transmitting end (06, Table 6). -/
def stWATCH : Nat := 0
def stPROPOSING : Nat := 1
def stHOLDING : Nat := 2
def stCOMMITTING : Nat := 3
def stCANCELLING : Nat := 4
def xmSTEADY : Nat := 0
def xmREADY : Nat := 1

def State.steer (s : State) (q : Nat) : Nat := s.rd (PRT_TRL_STATUS.STEER_STATE q)
def State.xmit (s : State) (q : Nat) : Nat := s.rd (PRT_TRL_STATUS.XMIT_STATE q)

/-! ## Placements (R171, R172) -/

/-- A placement with logical lane `k` exchanged with `sp`, or dropped when `sp` is 0x1F (R171). -/
def movePlacement (pl : List Nat) (k sp : Nat) : List Nat :=
  (List.range 20).map (fun l => if l = k then (if sp = 0x1F then 0x1F else pl.getD sp 0x1F)
    else if l = sp then pl.getD k 0x1F else pl.getD l 0x1F)

/-- The unheard data lanes exchanged in ascending order with the lowest heard spares not yet used, and those left. -/
def placeUnheard : List Nat → List Nat → List Nat → List Nat × List Nat
  | pl, [], _ => (pl, [])
  | pl, k :: ks, [] => let r := placeUnheard pl ks []
    (r.1, k :: r.2)
  | pl, k :: ks, sp :: sps => placeUnheard (movePlacement pl k sp) ks sps

/-- The placement of a direction from the heard map of its steering end (R172): none where no placement exists.
`heard` are the logical lanes heard, `exchange` says whether step 2 applies. -/
def initialPlacement (w spares : Nat) (heard : List Nat) (exchange degrade : Bool) (minWidth : Nat) : Option (List Nat) :=
  let unheard := (List.range w).filter (fun l => !heard.contains l)
  let sps := if exchange then ((List.range spares).map (· + w)).filter heard.contains else []
  let r := placeUnheard ((List.range 20).map (fun l => if l < w + spares then l else 0x1F)) unheard sps
  if r.2.isEmpty then some r.1
  else if degrade && decide (minWidth + r.2.length ≤ w) then some (r.2.foldl (fun p k => movePlacement p k 0x1F) r.1)
  else none

/-! ## Messages (R178) -/

/-- The 32 bytes of a Trellis message (06, Table 3). -/
def trellisMsg (kind epoch base lane spare reason : Nat) (pl : List Nat) : List Byte :=
  [kind, epoch, base, lane, spare, reason, 0, 0].map (BitVec.ofNat 8) ++
    (List.range 20).map (fun l => BitVec.ofNat 8 (pl.getD l 0x1F)) ++ zeros 4

/-- The placement a message carries. -/
def msgPlacement (m : List Byte) : List Nat := (List.range 20).map (fun l => byteAt m (8 + l))

/-- The steering end sends a message, repeating from its next row (R179). -/
def State.steerSend (s : State) (q kind : Nat) (pr : Proposal) : State :=
  s.upS q (fun x => { x with
    steerMsg := some (trellisMsg kind pr.epoch (s.rd (PRT_TRL_STATUS.RX_EPOCH q)) pr.item.lane pr.spare
      (if kind = 1 then pr.item.reason else 0) pr.placement)
    steerWait := 0
    steerLane := 0
    steerAt := s.elapsed })

/-- The steering end stops repeating. -/
def State.steerStop (s : State) (q : Nat) : State := s.upS q (fun x => { x with steerMsg := none, steerWait := 0 })

/-- The transmitting end answers a message (R179): kind and reason, the other fields as the message has them. -/
def State.answer (s : State) (q kind reason : Nat) (m : List Byte) : State :=
  s.upS q (fun x => { x with
    replies := x.replies ++ [trellisMsg kind (byteAt m 1) (s.rd (PRT_TRL_STATUS.TX_EPOCH q)) (byteAt m 3) (byteAt m 4) reason
      (msgPlacement m)] })

/-! ## The queue of the steering end (R182, R187) -/

/-- An item put in the queue, in ascending logical lane. -/
def insertItem (it : Item) : List Item → List Item
  | [] => [it]
  | x :: xs => if it.lane < x.lane then it :: x :: xs else x :: insertItem it xs

/-- Whether an item is a request of software (06, Table 1). -/
def Item.isRequest (it : Item) : Bool := it.reason == 8 || it.reason == 9
/-- Whether a reason is that of a soft fault. -/
def isSoft (reason : Nat) : Bool := decide (4 ≤ reason) && decide (reason ≤ 7)
/-- Whether an item is a hard fault. -/
def Item.isHard (it : Item) : Bool := decide (1 ≤ it.reason) && decide (it.reason ≤ 3)

/-- The proposal is over: the steering end returns to WATCH (06, Table 5). -/
def State.toWatch (s : State) (q : Nat) : State :=
  (((s.wr (PRT_TRL_STATUS.STEER_STATE q) stWATCH).steerStop q).upS q (fun x => { x with prop := none })).each
    (s.segHalves q) (fun t h => t.upH h (fun x => { x with newEpoch := false }))

/-- An item re-queued as a new attempt (R182): a third re-queue of a fault faults the side, of a request drops it. -/
def State.requeue (s : State) (q : Nat) (it : Item) : State :=
  if it.tries + 1 < 3 then s.upS q (fun x => { x with queue := insertItem { it with tries := it.tries + 1 } x.queue })
  else if it.isRequest then s
  else s.faultSide q 2

/-- CANCELLING entered (06, Table 5). -/
def State.toCancelling (s : State) (q : Nat) : State :=
  match (s.seg q).prop with
  | some pr => ((s.wr (PRT_TRL_STATUS.STEER_STATE q) stCANCELLING).satUp (PRT_TRL_CNT.CANCEL_CNT q)).steerSend q 5 pr
  | none => s

/-- COMMITTING entered (06, Table 5). -/
def State.toCommitting (s : State) (q : Nat) : State :=
  match (s.seg q).prop with
  | some pr => ((s.wr (PRT_TRL_STATUS.STEER_STATE q) stCOMMITTING).each (s.segHalves q) (fun t h =>
      t.upH h (fun x => { x with newEpoch := false }))).steerSend q 4 pr
  | none => s

/-- The receiver of a side that hears a home index. -/
def State.hearerOf (s : State) (q home : Nat) : Option Nat :=
  (s.segHalves q).find? (fun h => s.rd (LCH_SEG_FEC.HEARD h) == home && home != 0x1F)

/-- PROPOSING entered for an item with a spare, or with 0x1F for a degrade (06, Table 5; R173). -/
def State.propose (s : State) (q : Nat) (it : Item) (spare : Nat) : State :=
  let ep := ((s.seg q).lastEpoch + 1) % 256
  let pr : Proposal := ⟨it, ep, spare, movePlacement (s.seg q).rxPlace it.lane spare⟩
  ((((s.wr (PRT_TRL_STATUS.STEER_STATE q) stPROPOSING).satUp (PRT_TRL_CNT.PROPOSE_CNT q)).upS q (fun x => { x with
    prop := some pr, lastEpoch := ep })).steerSend q 1 pr)

/-- The spare a request would take, none where it no longer meets R198. -/
def State.requestSpare (s : State) (q : Nat) (it : Item) : Option Nat :=
  if s.segState q ≠ sACTIVE ∨ !s.trellis q ∨ s.inForce q (PRT_TRL_CTRL.TRELLIS_OFF q) = 1 ∨ s.width q ≤ it.lane then none
  else
    let ready := s.readySpares q
    if it.reason = 8 then
      if it.spare = 0x1F then ready.head? else if ready.contains it.spare then some it.spare else none
    else ready.find? (fun l => (s.seg q).rxPlace.getD l 0x1F == it.lane)

/-- The number of data lanes a direction's placement places. -/
def State.placedCount (s : State) (q : Nat) (pl : List Nat) : Nat := (placedLanes pl (s.width q)).length

/-- A queued item served in WATCH (06, Table 7). A request that no longer meets R198 leaves no record, and a fault of a receiver that has since lost its lane to a spare has been served already (DEDUCED, log entry 36). -/
def State.serve (s : State) (q : Nat) (it : Item) : State :=
  if it.isRequest then
    match s.requestSpare q it with
    | some sp => s.propose q it sp
    | none => s
  else if s.rxLogical q it.half ≠ some it.lane then s
  else if !s.trellis q || s.inForce q (PRT_TRL_CTRL.TRELLIS_OFF q) == 1 then s.faultSide q 3
  else match s.readySpares q with
    | sp :: _ => s.propose q it sp
    | [] =>
      let s1 := s.on (PRT_TRL_STATUS.NO_SPARE q)
      if s.inForce q (PRT_TRL_CTRL.POLICY q) = 1 ∧ s.inForce q (PRT_TRL_CTRL.MIN_WIDTH q) + 1 ≤ s.placedCount q (s.seg q).rxPlace then
        s1.propose q it 0x1F
      else s1.faultSide q 1

/-! ## Declaration (R169, R187) -/

/-- The record of a lane fault (R169): FAULT_NEW, LAST_REASON, FAULT_CNT and the LANE_FAULT event; the receiver's
calibration run and jobs end (R208, R238). -/
def State.recordFault (s : State) (p h reason : Nat) : State :=
  ((((s.on (LCH_LANE_FAULT.FAULT_NEW h)).wr (LCH_LANE_FAULT.LAST_REASON h) reason).satUp (LCH_LANE_FAULT.FAULT_CNT h)).raise
    0x01 p (h / 2) (h % 2) reason).rxLeaves h

/-- A fault of a data lane joins the queue (R187), unless the same fault of the receiver already waits there. -/
def State.queueFault (s : State) (q h lane reason : Nat) : State :=
  if (s.seg q).queue.any (fun i => i.half == h && i.reason == reason) then s
  else s.upS q (fun x => { x with queue := insertItem ⟨lane, reason, 0x1F, h, s.elapsed, 0⟩ x.queue })

/-- A hard or soft lane fault is declared on a receiver of a Segment Side in SACTIVE (R169); the soft reasons 4 to 6 are
not declared while a data-method job holds the receiver (R240). -/
def State.declareFault (s : State) (q h reason : Nat) : State :=
  if 4 ≤ reason ∧ reason ≤ 6 ∧ s.holdsData h then s else
  let l := s.rxLogical q h
  let s1 := s.recordFault (q / 2) h reason
  let s2 := if reason ≤ 3 then (s1.requestRx h true).off (LCH_SEG_FEC.FRAME_LOCK h) else s1
  match l with
  | none => s2.showSide q
  | some lane =>
    if s.width q ≤ lane then
      -- the spare is not ready; a proposal that would take it is cancelled (R187)
      let s2 := (s2.on (PRT_TRL_STATUS.SPARE_LOST q)).upH h (fun x => { x with
        spareBad := true })
      let s3 := match (s2.seg q).prop with
        | some pr =>
          if pr.spare = lane ∧ (s2.steer q = stPROPOSING ∨ s2.steer q = stHOLDING) then
            (s2.toCancelling q).requeue q pr.item
          else s2
        | none => s2
      s3.showSide q
    else if s.legacy q || s.inForce q (PRT_TRL_CTRL.TRELLIS_OFF q) == 1 || !s.trellis q then s2.faultSide q 3
    else (s2.queueFault q h lane reason).showSide q

/-- A lane fault declared on a Standard Side receiver (R190, R191): recorded, restarted warm, and the stream of its lane
broken towards the far partner. -/
def State.stdLaneFault (s : State) (q h reason : Nat) : State :=
  let p := q / 2
  let a := s.across h
  let s1 := ((s.recordFault p h reason).requestRx h true).upH h (fun x => { x with relocking := true })
  let s2 :=
    if s.isTT p then
      match a with
      | some a => s1.setTx a .start
      | none => s1
    else
      let sg := otherSide q
      (s1.upP p (fun x => { x with broken := true })).upS sg (fun x => { x with
        outq := x.outq ++ [⟨2, [0x02, 0] ++ leBytes 2 (2 ^ s.negWidth q - 1) ++ zeros 252⟩] })
  s2.showStd p

/-- The conditions under which a Standard Side declares a lane fault (R190). -/
def State.stdFaultable (s : State) (q h : Nat) : Bool :=
  s.trn (q / 2) == tACTIVE && !s.isSeg q && decide (s.logical h < s.negWidth q) && !s.l0pIdle h &&
  (s.dataHalves q).any (fun g => g != h && s.bit (LCH_FOM.LOCK g))

/-! ## Recovery (R183) -/

/-- A half-lane has recovered from the faults that a test picks: queued faults are withdrawn, and a proposal in PROPOSING
or HOLDING is cancelled. -/
def State.recovered (s : State) (q h : Nat) (pick : Item → Bool) : State :=
  let s1 := s.upS q (fun x => { x with queue := x.queue.filter (fun i => !(i.half == h && !i.isRequest && pick i)) })
  match (s1.seg q).prop with
  | some pr =>
    if pr.item.half = h ∧ !pr.item.isRequest ∧ pick pr.item ∧ (s1.steer q = stPROPOSING ∨ s1.steer q = stHOLDING) then
      s1.toCancelling q
    else s1
  | none => s1

/-- After a frame: a hard fault has recovered with LOCK, frame lock and 16 consecutive good frames (R183). -/
def State.recoveredHard (s : State) (q h : Nat) : State :=
  if s.bit (LCH_FOM.LOCK h) ∧ s.bit (LCH_SEG_FEC.FRAME_LOCK h) ∧ 16 ≤ (s.half h).goodRun then
    (s.recovered q h Item.isHard).upH h (fun x => { x with spareBad := x.spareBad && isSoft (s.rd (LCH_LANE_FAULT.LAST_REASON h)) })
  else s

/-- After a published FoM: a soft fault has recovered at or above the warning level with no uncorrectable frame in the
window (R183). -/
def State.recoveredSoft (s : State) (q h fom : Nat) : State :=
  if s.fomWarn h ≤ fom ∧ !(s.half h).badInWindow then
    (s.recovered q h (fun i => !i.isHard)).upH h (fun x => { x with spareBad := x.spareBad && !isSoft (s.rd (LCH_LANE_FAULT.LAST_REASON h)) })
  else s

/-! ## Completion (R182, R188) -/

/-- A Standard Side breaks its data stream with EIEOS on every lane in place of the next flit (R188), after which it sends no flit
until the next stream. What arrives goes on crossing, as far as the buffers take it (R142). -/
def State.breakStream (s : State) (d : Nat) : State :=
  if (s.portx (d / 2)).cut then s
  else (s.emit (.orderedSet d 2 (2 ^ s.negWidth d - 1) [])).upP (d / 2) (fun x => { x with cut := true })

/-- A committed degrade of a side (R188): the capacity along the path falls, which an SS Port tells in the PATH frame that it last
forwarded over the side; where the rate in use no longer fits, the Standard Side breaks its data stream. -/
def State.degraded (s : State) (q : Nat) : State :=
  let p := q / 2
  let d := otherSide q
  if s.isGeared p then
    let s1 := s.pathSoon p
    if s.trn p = tACTIVE ∧ !gearOk (s.widthNow q) (segRate (s.segSlot q)) (s.negWidth d) (s.rd (PRT_DP_STATUS.SLOT_NOW d)) then
      s1.breakStream d
    else s1
  else if (s.seg d).pathIn.isEmpty ∨ s.segState q ≠ sACTIVE ∨ !s.relayOk q then s
  else s.upS q (fun x => { x with pathDue := some (s.pathOnward q (s.seg d).pathIn), pathOut := s.pathOnward q (s.seg d).pathIn })

/-- The half-lane that carries the TIME frames of a direction under a placement: that of the lowest placed data lane
(R356). -/
def timeHome (pl : List Nat) (w : Nat) : Option Nat := (placedLanes pl w).head?.map (fun l => pl.getD l 0x1F)

/-- COMMITTING completes once every receiver that hears a placed data lane under the new placement has decoded a frame
under the new epoch (06, Table 5). A request is recorded then, on the receiver that heard the lane before it (DEDUCED, log entry
101). -/
def State.commitDone (s : State) (q : Nat) : State :=
  match (s.seg q).prop with
  | some pr =>
    if s.steer q = stCOMMITTING ∧ (placedLanes pr.placement (s.width q)).all (fun l =>
        match s.hearerOf q (pr.placement.getD l 0x1F) with
        | some h => (s.half h).newEpoch
        | none => true) then
      let freed := s.hearerOf q ((s.seg q).rxPlace.getD pr.item.lane 0x1F)
      let s1 := (((s.wr (PRT_TRL_STATUS.RX_EPOCH q) pr.epoch).satUp (PRT_TRL_CNT.COMMIT_CNT q)).upS q (fun x => { x with
        rxPlace := pr.placement, degradeSeen := false })).toWatch q |>.upTs q (fun y =>
          { y with rxMoved := y.rxMoved || timeHome (s.seg q).rxPlace (s.width q) != timeHome pr.placement (s.width q) })
      let s0 := s1.each ((s.segHalves q).filter (fun h => s.rxLogical q h != s1.rxLogical q h)) State.disturb
      let s2 := if pr.spare = 0x1F then s0.degraded q
        else
          let s3 := s0.on (PRT_TRL_STATUS.REMAPPED q)
          match freed with
          | some h => if pr.item.isRequest then s3.wr (LCH_LANE_FAULT.LAST_REASON h) pr.item.reason
              else s3.upH h (fun x => { x with retired := true, fitAt := none })
          | none => s3
      (s2.showSide q).bump (q / 2)
    else s
  | none => s

/-! ## The transmitting end (R181, R184) -/

/-- Whether the transmitter of a half-lane runs. -/
def State.txRuns (s : State) (h : Nat) : Bool := (s.half h).powered && (s.half h).tx != .idle

/-- The first refusal reason of Table 4 that applies to a PROPOSE, 0 when it passes (R181); what a side sends is the direction that
comes in on its Port's other side (R88). -/
def State.refusal (s : State) (q : Nat) (m : List Byte) : Nat :=
  let lane := byteAt m 3
  let sp := byteAt m 4
  let pl := (s.seg q).txPlace
  if byteAt m 2 ≠ s.rd (PRT_TRL_STATUS.TX_EPOCH q) ∨ !newer256 (byteAt m 1) (s.seg q).seenEpoch then 1
  else if s.width q ≤ lane ∨ pl.getD lane 0x1F = 0x1F ∨ msgPlacement m ≠ movePlacement pl lane sp then 2
  else if sp ≠ 0x1F ∧ (sp < s.width q ∨ s.width q + s.spares q ≤ sp ∨
      !(match s.halfAt q (pl.getD sp 0x1F) with | some h => s.txRuns h | none => false)) then 3
  else if sp = 0x1F ∧ (s.inForce (otherSide q) (PRT_TRL_CTRL.POLICY q) ≠ 1 ∨
      s.placedCount q pl < s.inForce (otherSide q) (PRT_TRL_CTRL.MIN_WIDTH q) + 1) then 4
  else if s.inForce (otherSide q) (PRT_TRL_CTRL.TRELLIS_OFF q) = 1 then 5
  else 0

/-- A PROPOSE checked as in STEADY (06, Table 6). -/
def State.checkPropose (s : State) (q : Nat) (m : List Byte) : State :=
  let r := s.refusal q m
  let s1 := s.upS q (fun x => { x with seenEpoch := byteAt m 1 })
  if r = 0 then
    ((s1.wr (PRT_TRL_STATUS.XMIT_STATE q) xmREADY).upS q (fun x => { x with
      prepared := some ⟨byteAt m 1, byteAt m 3, byteAt m 4, msgPlacement m⟩, readyAt := s.elapsed })).answer q 2 0 m
  else s1.answer q 3 r m

/-- The prepared proposal is void and the transmitting end STEADY. -/
def State.voidPrepared (s : State) (q : Nat) : State :=
  (s.wr (PRT_TRL_STATUS.XMIT_STATE q) xmSTEADY).upS q (fun x => { x with prepared := none, switchDue := false })

/-- Sequenced frames packed onto lanes in ascending order, in rows from a number (R184). -/
def packRows (lanes : List Nat) (now : Nat) : Nat → Nat → List Frame → List Row
  | 0, _, _ => []
  | n + 1, row, fs =>
    match fs with
    | [] => []
    | _ => ⟨row, lanes.zip (fs.take lanes.length), now⟩ :: packRows lanes now n ((row + 1) % 4096) (fs.drop lanes.length)

/-- The switch of R184. -/
def State.doSwitch (s : State) (q : Nat) (pr : Prepared) : State :=
  let x := s.seg q
  let first := (x.acked + 1) % 4096
  let frames := x.unacked.flatMap (fun r => r.frames.map Prod.snd)
  let rows := if pr.spare = 0x1F then packRows (placedLanes pr.placement (s.width q)) s.elapsed frames.length first frames
    else x.unacked
  let s1 := (s.wr (PRT_TRL_STATUS.TX_EPOCH q) pr.epoch).upS q (fun y => { y with
    txPlace := pr.placement
    unacked := rows
    nextRow := if pr.spare = 0x1F then (first + rows.length) % 4096 else y.nextRow
    replay := if rows.isEmpty then none else some first
    replayRow := if rows.isEmpty then y.replayRow else first
    replayAt := none
    replayCount := 0
    dropHomes := if pr.spare = 0x1F then (pr.lane, x.txPlace.getD pr.lane 0x1F) :: y.dropHomes else y.dropHomes }) |>.upTs q (fun y =>
      if timeHome x.txPlace (s.width q) = timeHome pr.placement (s.width q) then y
      else { y with txMoved := y.sent.head?.map Prod.fst })
  let s2 := if rows.isEmpty then s1 else s1.wrapUp (PRT_SEG_CNT.REPLAYS q)
  let s3 := if pr.spare = 0x1F then s2.degraded q else s2.on (PRT_TRL_STATUS.REMAPPED q)
  ((s3.voidPrepared q).showSide q).bump (q / 2)

end Sys2Proof.Machine
end

