-- ==== Sys2Proof/Machine/PowerOps.lean ====
section
/-! DEFINITION. Operations on levels, tile wakes and device wakes that other chapters call (13; 03, R69). -/

namespace Sys2Proof.Machine

/-! ## Clocks and levels -/

/-- The rank of a rate slot, which is also the lowest performance level it permits (03, Table 2). -/
def slotLevel (slot : Nat) : Nat := [0, 0, 0, 1, 1, 2, 3, 2, 3].getD slot 0
/-- The DCLK encoding of CLK_DCLK_SEL for a level (03, Tables 2 and 3). -/
def levelDclk (l : Nat) : Nat := if l = 3 then 2 else if l = 2 then 1 else 0
/-- The rank of the most demanding slot that PRT_DP_CTRL gives the enabled Ports of a tile (R69). -/
def State.tileLevel (s : State) (t : Nat) : Nat :=
  ((s.portsOf t).flatMap (fun p => [slotLevel (s.rd (PRT_DP_CTRL.A_SLOT p)), slotLevel (s.rd (PRT_DP_CTRL.B_SLOT p))])).foldl
    max 0
/-- The level that R394 requires. -/
def State.requiredLevel (s : State) : Nat := ((List.range 8).map s.tileLevel).foldl max (s.rd PWR_POLICY.PL_FLOOR)
/-- The VID code of a level (13, Table 2). -/
def levelCode (l : Nat) : Nat := [30, 44, 56, 70].getD l 70
/-- A level put in force with its code. -/
def State.setLevel (s : State) (l : Nat) : State := (s.wr PWR_STATUS.PL l).wr PWR_STATUS.VID_CODE (levelCode l)
/-- PL_TARGET made to report the level that R394 requires. -/
def State.showTarget (s : State) : State := s.wr PWR_STATUS.PL_TARGET s.requiredLevel

/-- A change of level asked for (R395): the code changes at once, VID_BUSY reads 1 and VID_WAIT runs; a change that falls
due during another waits for it. -/
def State.askLevel (s : State) (l : Nat) : State :=
  if s.bit PWR_STATUS.VID_BUSY then s.upPw (fun x => { x with nextLevel := some l })
  else if s.rd PWR_STATUS.PL = l then s
  else ((s.setLevel l).on PWR_STATUS.VID_BUSY).upPw (fun x => { x with vidAt := s.elapsed })

/-! ## Active Ports (R396, R397) -/

/-- ACTIVE_PORTS made to report the active Ports. -/
def State.showActive (s : State) : State :=
  s.wr PWR_STATUS.ACTIVE_PORTS ((List.range 64).filter s.portActive).length
/-- Whether a tile is parked: it is OFF and its enabled Ports, of which it has some, are all quiescent (R397). -/
def State.parked (s : State) (t : Nat) : Bool :=
  s.tileState t == 0 && !(s.portsOf t).isEmpty && (s.portsOf t).all (fun p => !s.portActive p)

/-! ## Wakes -/

/-- Whether a source holds a Tile reset of every tile (R390, R416, R420). -/
def State.resetsHeld (s : State) : Bool := s.power.thermtrip || !s.bit CLK_STATUS.REFCLK_OK

/-- The power state (13, Table 3). -/
def State.powerState (s : State) : Nat := s.rd PWR_STATUS.STATE

/-- A tile that is OFF is asked to wake: it enters WAKING and waits its turn for RAMP (R31, R407). In DEEP and OFF, and in a reset of
the device, nothing asks for it (R401, R404). -/
def State.wakeTile (s : State) (t : Nat) : State :=
  if s.tileState t = 0 ∧ !s.resetsHeld ∧ t < 8 ∧ s.powerState ≤ 2 ∧ !s.power.inReset then
    (s.wr (GLB_TILE_STATUS.LT t) 1).upPw (fun x => { x with ramp := x.ramp ++ [t] })
  else s

/-- The cell of PWR_WAKE_SOURCE for a source (13, Table 13). -/
inductive WakeSource where
  | sbMatch | wakeIn | mgmtLink | sigdet | aonTimer | internal
  deriving DecidableEq, Repr

def WakeSource.cell : WakeSource → Cell
  | .sbMatch => PWR_WAKE_SOURCE.SB_MATCH
  | .wakeIn => PWR_WAKE_SOURCE.WAKE_IN
  | .mgmtLink => PWR_WAKE_SOURCE.MGMT_LINK
  | .sigdet => PWR_WAKE_SOURCE.SIGDET
  | .aonTimer => PWR_WAKE_SOURCE.AON_TIMER
  | .internal => PWR_WAKE_SOURCE.INTERNAL

/-- Whether a source wakes from a state (13, Table 4): 1 IDLE, 2 SLEEP, 3 DEEP, 4 OFF. -/
def WakeSource.wakes (w : WakeSource) (st : Nat) : Bool :=
  match w with
  | .wakeIn => decide (1 ≤ st) && decide (st ≤ 4)
  | .sbMatch | .mgmtLink => decide (1 ≤ st) && decide (st ≤ 3)
  | .sigdet | .aonTimer => decide (1 ≤ st) && decide (st ≤ 2)
  | .internal => st == 1

/-- Whether an entry to SLEEP or DEEP is under way that has not passed its commit point (R400). -/
def State.entering (s : State) : Bool :=
  match s.power.entry with
  | some e => decide (s.elapsed < e.commitAt)
  | none => false

/-- The replicas have the Fabric Time of the last edge of each tile's DCLK (R353, R473). -/
def State.realign (s : State) : State := s.loadReplicas (fun t => s.now - s.gains (s.elapsed % s.dclk t))
/-- Fabric Time given a value between two edges of TCLK: the central counter, and each replica, has that of the edge before (R473). -/
def State.setAt (s : State) (v : Nat) : State := (s.setTime v (v - s.fabricOf (s.elapsed % tclk))).realign

/-- An entry to SLEEP or DEEP that has not reached step 4 is abandoned by a wake source (R400): what the entry changed
returns, and the seals are discarded (R426). -/
def State.abandonEntry (s : State) : State :=
  match s.power.entry with
  | none => s
  | some e =>
    if s.elapsed < e.commitAt then
      let f := s.fabricOf (e.commitAt - s.elapsed)
      let s1 := if s.powerState = 2 then (s.setAt (s.now - (f - s.loses f))).upTim (fun x => { x with slew := x.slew + s.loses f })
        else s
      let back := s1.upPw (fun x => { x with
        entry := none, sealed := false, timeAt := e.edge.1, edgeAt := e.edge.2.1, uncertAt := e.edge.2.2 })
      let t := (back.wr PWR_STATUS.STATE e.state).wr PWR_STATUS.VID_CODE e.vid
      (match e.clocks with
        | some (busy, lock, core, mclk) =>
          (((t.wr PWR_STATUS.VID_BUSY busy).wr CLK_STATUS.ROOT_LOCK lock).wr CLK_STATUS.CORE_SRC core).wr CLK_STATUS.MCLK_SRC mclk
        | none => t).on PWR_WAKE_STATUS.ABANDONED
    else s.upPw (fun x => { x with entry := none })

/-- The source of a wake recorded (R401). -/
def State.recordWake (s : State) (w : WakeSource) (port : Option Nat) (from_ : Nat) : State :=
  let s1 := ((s.on w.cell).wr PWR_WAKE_SOURCE.FROM_STATE from_).upPw (fun x => { x with
    wokeAt := s.elapsed, wokeFrom := from_, wokeSig := port.isSome })
  match port with
  | some p => s1.wr PWR_WAKE_SOURCE.SIGDET_PORT p
  | none => s1

/-- A further source that is present at the instant of the wake is recorded with it, the lowest-numbered Port among those of signal
detect (R401). -/
def State.joinWake (s : State) (w : WakeSource) (port : Option Nat) : State :=
  if s.power.wokeAt = s.elapsed ∧ w.wakes s.power.wokeFrom then
    match port with
    | some p =>
      ((s.on w.cell).wr PWR_WAKE_SOURCE.SIGDET_PORT (if s.power.wokeSig then min p (s.rd PWR_WAKE_SOURCE.SIGDET_PORT) else p)).upPw
        (fun x => { x with wokeSig := true })
    | none => s.on w.cell
  else s

/-- A wake source arises (R400, R401, R403), in the state that an entry under way has not left yet: from IDLE the device
is in RUN at once; from SLEEP and DEEP the voltage is raised and the wake goes on at VID_WAIT_EXPIRY. A source that the
state does not mark has no effect, and one present at the instant of a wake is recorded with it. -/
def State.wakeDevice (s : State) (w : WakeSource) (port : Option Nat) : State :=
  let st := match s.power.entry with
    | some e => if s.elapsed < e.commitAt then e.state else s.powerState
    | none => s.powerState
  if s.power.inReset then s
  else if !w.wakes st || s.power.wake.isSome then s.joinWake w port
  else
    let s0 := s.abandonEntry
    let st0 := s0.powerState
    if st0 = 1 then
      let s1 := ((s0.recordWake w port 1).wr PWR_STATUS.STATE 0).deviceQuiet
      (s1.takeFree).2.wr PWR_WAKE_STATUS.WAKE_US (s1.takeFree.1 % 2)
    else if st0 = 2 ∨ st0 = 3 then
      ((s0.recordWake w port st0).setLevel s0.requiredLevel).upPw (fun x => { x with
        wake := some ⟨st0, s0.elapsed, false⟩, timerAt := none, vidAt := s0.elapsed })
    else s0

/-- A register write of the host: the function serves memory requests, and in recovery mode only the GLB_ and IMG_ registers
respond (R262, R295). -/
def State.hostWrite (s : State) (act : State → State) : State := if s.hosted then act s else s

/-- A write to a command register or a doorbell, which also wakes the device from IDLE (R401). -/
def State.hostCmd (s : State) (act : State → State) : State :=
  s.hostWrite (fun t => act (if t.powerState = 1 then t.wakeDevice .internal none else t))

/-- TRIG_N released with the central tile's clocks: the pin is clamped (R409). -/
def State.releaseTrig (s : State) : State :=
  if s.tim.trigOut then (s.emit (.trigN false)).upTim (fun x => { x with trigOut := false }) else s

/-- Signal detect rising on a receiver of an armed Port (R401, R407). -/
def State.sigdetWake (s : State) (h : Nat) : State :=
  match s.claim h with
  | some q => if s.armed (q / 2) then (s.wakeDevice .sigdet (some (q / 2))).wakeTile (tileOfHalf h) else s
  | none => s

end Sys2Proof.Machine
end

