-- ==== Sys2Proof/Machine/Calibration.lean ====
section
/-! DEFINITION. The commands of calibration (07), and the command that ends a figure-of-merit window (02), which ends the
verification of a run. -/

namespace Sys2Proof.Machine

/-! ## Starting runs (R204, R205, R214, R215) -/

/-- The conditions of R204 on the receiver itself. -/
def State.rxQualified (s : State) (h : Nat) : Bool :=
  (s.rd (LCH_FOM.ADAPT_STATE h) == 4 || s.rd (LCH_FOM.ADAPT_STATE h) == 5) && s.bit (LCH_FOM.LOCK h) &&
  s.bit (LCH_FOM.FOM_VALID h) && !s.bit (CAL_RX.HOLD h)

/-- Whether a run may start on a receiver that has none (R204). -/
def State.calReady (s : State) (h : Nat) : Bool :=
  match s.claim h with
  | none => false
  | some q =>
    let r := s.rd (LCH_FOM.RATE_SLOT h)
    s.rxQualified h && (if s.isSeg q then s.segState q == sACTIVE else s.trn (q / 2) == tACTIVE && decide (2 ≤ r) && decide (r ≤ 6))

/-- Whether only the rate of a Standard Side stands in the way of a run (R204). -/
def State.calRateOnly (s : State) (h : Nat) : Bool :=
  match s.claim h with
  | none => false
  | some q => s.rxQualified h && !s.isSeg q && s.trn (q / 2) == tACTIVE && decide (s.rd (LCH_FOM.RATE_SLOT h) ≤ 1)

/-- Whether the error sampler of a receiver is in use by something a run does not displace (R205, R240). -/
def State.samplerBusy (s : State) (h : Nat) : Bool :=
  (s.half h).margin.isSome || (s.holdsSampler h && !s.holdsData h)

/-- A request for a run (R204, R205, R211): one that finds a run leaves no trace; one that cannot start ends at once. -/
def State.startRun (s : State) (h : Nat) : State :=
  if (s.half h).run.isSome then s
  else if s.calReady h then
    let s1 := (((s.upH h (fun x => { x with run := some { stage := .pending, noErr := s.samplerBusy h } })).upE (engineOf h) (fun e =>
      { e with quiet := false })).wr (CAL_RX.LAST_RESULT h) 6).wr (CAL_RX.NQ_REASON h) 0
    (if s.holdsData h then s1.stopJob (engineOf h) 4 else s1).showRuns
  else if s.calRateOnly h then
    ((s.wr (CAL_RX.LAST_RESULT h) 2).wr (CAL_RX.NQ_REASON h) 1).upH h (fun x => { x with
      noAutoUntil := s.elapsed + 10000000 * usUnit })
  else (s.wr (CAL_RX.LAST_RESULT h) 3).wr (CAL_RX.NQ_REASON h) 0

/-- The receivers of a scope of CAL_CMD, the index clamped to its range (07, Table 8): one receiver, a Port, a Lane
Tile, the device. -/
def State.calScope (s : State) (scope : Nat) (half : Bool) (index : Nat) : List Nat :=
  if scope = 0 then [2 * min index 255 + ofBool half]
  else if scope = 1 then s.members (2 * min index 63) ++ s.members (2 * min index 63 + 1)
  else if scope = 2 then (List.range 64).map (fun i => 64 * min index 7 + i)
  else List.range 512

/-- RUN (R214): a run is asked for on every receiver of the scope that a Port claims. -/
def State.calRun (s : State) (scope : Nat) (half : Bool) (index : Nat) : State :=
s.each ((s.calScope scope half index).filter (fun h => (s.claim h).isSome)) State.startRun

/-- CAL_RUN (R214, R223): a run starts on every receiver of the scope that a Port claims. -/
def execCalRun (scope : Fin 4) (half : Bool) (index : Nat) (s : State) : Host.Outcome State Fault Refusal :=
  .next (s.hostCmd (fun s => s.calRun scope half index))

/-- CAL_AUTO_RUN (R215): the receiver is eligible, and no run has been applied since its side became active, or the
interval has passed, or the temperature has moved. -/
def execCalAutoRun (h : HalfId) (s : State) : Host.Outcome State Fault Refusal :=
  .next (if s.bit CAL_POLICY.AUTO_RUN ∧ s.calReady h ∧ (s.half h).run = none then
      let x := s.half h
      let s1 := s.advanceTo x.noAutoUntil
      match x.lastRun with
      | none => s1.startRun h
      | some at_ =>
        let moved := decide (4 * s.rd CAL_POLICY.TEMP_STEP ≤ (s.tileTemp (tileOfHalf h) - 4 * x.runTemp).natAbs)
        if !x.ranSince ∨ moved then s1.startRun h
        else (s1.advanceTo (at_ + s.rd CAL_POLICY.RUN_INTERVAL * 60000000 * usUnit)).startRun h
    else s)

/-! ## The capture (R206 to R208) -/

/-- CAL_CAPTURE_START (R205, R212): the receiver is free of a data-method job and its engine of another run. -/
def execCalCaptureStart (h : HalfId) (s : State) : Host.Outcome State Fault Refusal :=
  match (s.half h).run with
  | none => .next s
  | some r =>
    let busy := (List.range 4).any (fun i => match (s.half (4 * engineOf h + i)).run with
      | some o => 4 * engineOf h + i != h.val && o.stage != .pending
      | none => false)
    .next (if r.stage = .pending ∧ !s.holdsData h ∧ s.engineUp h ∧ !busy then
        s.upH h (fun x => { x with run := some { r with stage := .capturing, noErr := r.noErr || s.samplerBusy h } })
      else s)

/-- Whether all 16 sub-ADCs pass a test. -/
def allAdcs (f : Nat → Bool) : Bool := (List.range 16).all f
/-- Whether a fraction lies between two bounds. -/
def within (v lo hi : Nat) : Bool := decide (lo ≤ v) && decide (v ≤ hi)

/-- The span of the mean samples of a sub-ADC, from the lowest level to the highest (R206), and the full scale of a 7-bit ADC
(02), both in 1/256 LSB. -/
def spanOf (levels : Nat) (means : List Int) : Int := means.getD (levels - 1) 0 - means.getD 0 0
def adcScale : Int := 32768

/-- The failed tests of Table 2 of 07 as the bits of NQ_REASON (R207); fractions in 1/10,000. -/
def nqReason (slot : Nat) (c : CaptureStats) (disturbed : Bool) : Nat :=
  let pam4 := decide (5 ≤ slot)
  let levels := if pam4 then 4 else 2
  let occ (i l : Nat) : Nat := (c.occupancy.getD i []).getD l 0
  let span (i : Nat) : Int := 10000 * spanOf levels (c.means.getD i [])
  ofBool (!within slot 2 8) +
  2 * ofBool (!allAdcs (fun i => (List.range levels).all (fun l =>
    if pam4 then within (occ i l) 2300 2700 else within (occ i l) 4800 5200))) +
  4 * ofBool (!allAdcs (fun i => within (if pam4 then occ i 2 + occ i 3 else occ i 1) 4900 5100)) +
  8 * ofBool (!(allAdcs (fun i => decide (5000 * adcScale ≤ span i) && decide (span i ≤ 9500 * adcScale)) && decide (c.fullScale ≤ 10))) +
  16 * ofBool (!decide (c.longestRun ≤ if pam4 then 24 else 40)) +
  32 * ofBool (!if pam4 then within c.transitions 7300 7700 else within c.transitions 4800 5200) +
  64 * ofBool disturbed

/-- A correction kept within its field (R200). -/
def clampCal (v : Int) : Int := clampInt (-128) 127 v

/-- A sub-ADC's residual offset in 1/4 LSB: the mean, over the levels, of its mean samples (R206). -/
def offsetError (levels : Nat) (means : List Int) : Int := roundDiv (means.take levels).sum (64 * levels)
/-- A sub-ADC's residual gain in 1/1024: its span compared with the mean span of all 16 (R206). -/
def gainError (span total : Int) : Int := roundDiv (1024 * (16 * span - total)) total.toNat
/-- A sub-ADC's residual skew in 50 fs: its timing error less the mean of all 16, by the pulse slope (R206). -/
def skewError (timing total : Int) (slope : Nat) : Int := roundDiv (16 * timing - total) (16 * slope)

/-- The residual error of each correction of Table 1 (R206), rounded half away from zero to its unit (DEDUCED, log entry 102). -/
def residual (levels : Nat) (c : CaptureStats) (e : CaptureErrors) (k : Nat) : Int :=
  let span (i : Nat) : Int := spanOf levels (c.means.getD i [])
  if k < 16 then offsetError levels (c.means.getD k [])
  else if k < 32 then gainError (span (k - 16)) ((List.range 16).map span).sum
  else if k < 48 then skewError (e.timing.getD (k - 32) 0) (e.timing.take 16).sum e.slope
  else e.shifts.getD (k - 48) 0

/-- The measured set m: the applied set less each residual error (R206). -/
def measuredSet (applied : CalSet) (levels : Nat) (c : CaptureStats) (e : CaptureErrors) : CalSet :=
  ⟨(List.range 52).map (fun k => clampCal (applied.vals.getD k 0 - residual levels c e k))⟩

/-- CAL_CAPTURE_END (R206, R207): the capture qualifies and its set is measured, or the run ends. The temperature T of R209 is that
at the end of the capture (DEDUCED, log entry 25). -/
def execCalCaptureEnd (h : HalfId) (stats : CaptureStats) (errors : CaptureErrors) (s : State) : Host.Outcome State Fault Refusal :=
  match (s.half h).run with
  | none => .next s
  | some r =>
    .next (if r.stage ≠ .capturing then s
      else
        let nq := nqReason (s.rd (LCH_FOM.RATE_SLOT h)) stats r.disturbed
        if nq = 0 then
          s.upH h (fun x => { x with
            run := some { r with
              stage := .computing
              measured := measuredSet x.applied (if 5 ≤ s.rd (LCH_FOM.RATE_SLOT h) then 4 else 2) stats errors
              temp := s.tileTemp (tileOfHalf h)
              noErr := r.noErr || s.samplerBusy h } })
        else (s.endRun h 2).wr (CAL_RX.NQ_REASON h) nq)

/-! ## Updating the points (R209) -/

/-- Whether a run measured a correction: CMP_LO and CMP_HI only on PAM4, CMP_ERR only with the error sampler free. -/
def measuredField (pam4 noErr : Bool) (k : Nat) : Bool :=
  if k = 48 ∨ k = 50 then pam4 else if k = 51 then !noErr else true

/-- A record whose measured corrections take new values, as a run updates it (R209). -/
def CalRec.updated (r : CalRec) (pam4 noErr filled : Bool) (temp : Int) (v : Nat → Int) : CalRec :=
  { set := ⟨(List.range 52).map (fun k => if measuredField pam4 noErr k then clampCal (v k) else r.set.vals.getD k 0)⟩
    valid := true
    estimated := filled
    outerUnmeasured := r.outerUnmeasured && !pam4
    runs := min 255 (r.runs + 1)
    lastTemp := roundDiv temp 4 }

/-- The updated point values of a run at a temperature (R209). -/
def updatePoints (recs : Nat → CalRec) (m : CalSet) (t : Int) (pam4 noErr : Bool) : List (Nat × CalRec) :=
  let mv (k : Nat) : Int := m.vals.getD k 0
  match (List.range 4).find? (fun i => decide (tempPoint i = t)) with
  | some i => [(i, (recs i).updated pam4 noErr false t mv)]
  | none =>
    let a := ((List.range 4).filter (fun i => decide (tempPoint i < t))).length - 1
    let b := a + 1
    let wa := tempPoint b - t
    let wb := t - tempPoint a
    let d := tempPoint b - tempPoint a
    let den := (wa * wa + wb * wb).toNat
    if !(recs a).valid ∧ !(recs b).valid then
      [(a, (recs a).updated pam4 noErr false t mv), (b, (recs b).updated pam4 noErr false t mv)]
    else
      let ra := if (recs a).valid then recs a else recs b
      let rb := if (recs b).valid then recs b else recs a
      let e (k : Nat) : Int := mv k * d - wa * ra.field k - wb * rb.field k
      [(a, ra.updated pam4 noErr (!(recs a).valid) t (fun k => roundDiv (ra.field k * den + wa * e k) den)),
       (b, rb.updated pam4 noErr (!(recs b).valid) t (fun k => roundDiv (rb.field k * den + wb * e k) den))]

/-- The records of a receiver with updated ones laid over them. -/
def overlayRecs (recs : Nat → CalRec) (up : List (Nat × CalRec)) (i : Nat) : CalRec := (lookupKey i up).getD (recs i)

/-- CAL_COMPUTE_DONE (R209, R210): the updated records are held aside and their interpolation is pending. -/
def execCalComputeDone (h : HalfId) (s : State) : Host.Outcome State Fault Refusal :=
  match (s.half h).run with
  | none => .next s
  | some r =>
    .next (if r.stage ≠ .computing then s
      else
        let up := updatePoints (s.calRec h) r.measured r.temp (decide (5 ≤ s.rd (LCH_FOM.RATE_SLOT h))) r.noErr
        let now := s.tileTemp (tileOfHalf h)
        (s.upH h (fun x => { x with run := some { r with stage := .scheduled, updated := up } })).scheduleSet h
          (interpolate (overlayRecs (s.calRec h) up) now) now true)

/-! ## Verification (R210) -/

/-- VALID_POINTS made to report the valid records of a receiver. -/
def State.showPoints (s : State) (h : Nat) : State :=
  s.wr (CAL_RX.VALID_POINTS h) ((List.range 4).map (fun i => if (s.calRec h i).valid then 2 ^ i else 0)).sum

/-- The working table has changed: DIRTY, and a store under way leaves it so (R219, 07 Table 9). -/
def State.calChanged (s : State) : State :=
  let t := s.on CAL_STATUS.DIRTY
  t.setCalStore (t.calStore.map (fun c => { c with changed := true }))

/-- A window published during verification (R210): after four, the records enter the working table, or the previous set
is scheduled. -/
def State.calVerify (s : State) (h fom : Nat) : State :=
  match (s.half h).run with
  | none => s
  | some r =>
    if r.stage ≠ .verifying then s
    else if r.seen + 1 < 4 then
      s.upH h (fun x => { x with run := some { r with seen := r.seen + 1, sum := r.sum + fom } })
    else if 4 * r.before ≤ (r.sum + fom) * r.beforeN + 32 * r.beforeN then
      let s1 := s.setCalTab (r.updated.foldl (fun t e => t.set (4 * h + e.1) e.2) s.calTab)
      let s2 := ((s1.calChanged.showPoints h).wrapUp (CAL_RX.RUN_CNT h)).endRun h 1
      let s3 := s2.upH h (fun x => { x with
        ranSince := true
        lastRun := some s.elapsed
        runTemp := roundDiv x.appliedTemp 4 })
      if s3.calSet h = (s3.half h).applied ∨ s.bit (CAL_RX.HOLD h) then s3 else s3.scheduleTable h
    else (s.scheduleBack h).endRun h 5

/-- FOM_WINDOW_END (R48, R51, R53, R57 to R59, R62 to R64, R109, R169, R176, R183, R210): the window is discarded or its
FoM published, and adaptation, evaluation, verification and lane faults follow. A receiver that a data-method job holds,
or whose engine is stopped, has no window (R59). The limits of the window in progress hold until all of that is done (R65). -/
def execFomWindowEnd (h : HalfId) (pwr noise : Nat) (rx : RxCoef) (s : State) : Host.Outcome State Fault Refusal :=
  let st := s.rd (LCH_FOM.ADAPT_STATE h)
  .next (if !s.live h ∨ !measures st ∨ !s.engineUp h ∨ (s.half h).held then s
    else if (s.half h).discard then s.windowDropped h rx
    else
      let fom := fomOf pwr noise
      let was := (s.half h).belowFault
      let s1 := (if st = 5 then s else s.adapted h rx).publishFom h fom
      let s2 := (((s1.windowStep h fom).evalWindow h fom).calVerify h fom)
      let s3 := match s.claim h with
        | none => s2
        | some q =>
          if s.isSeg q ∧ s.segState q = sACTIVE then
            let s4 := if fom < s.fomFault h ∧ !was then s2.declareFault q h 4 else s2
            ((s4.recoveredSoft q h fom).showSide q).noted s (q / 2)
          else s2
      s3.upH h (fun x => { x with badInWindow := false, limits := none }))

/-! ## Holding, stepping and clearing (R203, R208, R214) -/

/-- CAL_RX.HOLD set: a run in progress ends, and no interpolation step is applied (R203, R208). -/
def State.setHold (s : State) (h : Nat) : State :=
  ((s.on (CAL_RX.HOLD h)).upH h (fun x => if x.pendingRun || x.pendingBack then x else { x with pendingSet := none })).abortRun h

/-- CAL_HOLD_WRITE (R203, R208). -/
def execCalHoldWrite (h : HalfId) (s : State) : Host.Outcome State Fault Refusal := .next (s.hostWrite (fun s => s.setHold h))

/-- Whether an interpolation step may be scheduled for a receiver (R203). None is while a run's own set waits for its Apply Point, as
none is while the run is verified (DESIGN CHOICE, log entry 138). -/
def State.mayStep (s : State) (h : Nat) : Bool :=
  s.rd (LCH_FOM.ADAPT_STATE h) != 0 && !s.bit (CAL_RX.HOLD h) &&
  match (s.half h).run with
  | some r => r.stage != .scheduled && r.stage != .verifying
  | none => true

/-- INTERPOLATION_STEP (R202, R203, R243): the tile's averaged reading becomes CAL_TEMP, and each receiver whose applied set was
formed 1 °C or more away, and whose engine runs, has a new set scheduled. -/
def execInterpolationStep (t : TileId) (temp : Int) (s : State) : Host.Outcome State Fault Refusal :=
  .next (if s.tileState t ≠ 2 then s
    else
      let s1 := (s.wr (CAL_TEMP.TEMP t) (ofSigned 10 temp)).on (CAL_TEMP.VALID t)
      s1.each (((List.range 64).map (fun i => 64 * t.val + i)).filter (fun h =>
        s1.mayStep h && s1.engineUp h && decide (4 ≤ (s1.tileTemp t - (s1.half h).appliedTemp).natAbs))) State.scheduleTable)

/-- What a changed working table does to a receiver whose run a CLEAR or RELOAD ends (R208, R214). -/
def State.tableChanged (s : State) (h : Nat) : State :=
  let s1 := (s.clearRun h).showPoints h
  if s1.mayStep h then s1.scheduleTable h else s1

/-- CLEAR (R214). -/
def State.calClear (s : State) (scope : Nat) (half : Bool) (index : Nat) : State :=
  let hs := s.calScope scope half index
  let hit (e : Nat × CalRec) : Bool := e.2.valid && hs.contains (e.1 / 4)
  let s1 := s.setCalTab ⟨s.calTab.entries.map (fun e => (e.1, if hit e then { e.2 with valid := false } else e.2))⟩
  (if s.calTab.entries.any hit then s1.calChanged else s1).each hs State.tableChanged

/-- CAL_CLEAR (R214): every record of the receivers of the scope is invalid. -/
def execCalClear (scope : Fin 4) (half : Bool) (index : Nat) (s : State) : Host.Outcome State Fault Refusal :=
  .next (s.hostCmd (fun s => s.calClear scope half index))

/-! ## The store (R214, R215, R217 to R221) -/

/-- A store ends with a result (07, Table 9): 1 DONE, 2 FAILED_VERIFY, 3 NO_FLASH. An image write that waited for it
begins (R264). -/
def State.storeEnd (s : State) (result : Nat) : State :=
  let t := (((s.off CAL_STATUS.STORE_BUSY).wr CAL_STATUS.STORE_RESULT result).each (List.range 8) State.tileQuiet).deviceQuiet
  ((t.setCalStore none).setStoreWait false).setImgOp (match t.imgOp with
    | some (.write w) => some (.write (if w.step = 0 then { w with step := 1 } else w))
    | o => o)

/-- A store begins (R219, R221): the working table is copied to the store buffer and step 2 starts. With neither copy valid the target
is copy A (DESIGN CHOICE, log entry 136). -/
def State.storeBegin (s : State) : State :=
  let s := s.setLastStore s.elapsed
  let gen := match s.currentCopy with
    | some c => c.2 + 1
    | none => 1
  if gen = 0xFFFFFFFF then s.storeEnd 2
  else
    let t := s.on CAL_STATUS.STORE_BUSY
    (t.setStoreWait false).setCalStore (some
        { step := 2
          toB := match s.currentCopy with
            | some c => !c.1
            | none => false
          buffer := s.calTab
          gen := gen
          time := if s.rd TIM_STATUS.QUALITY = 0 then 0 else s.nowNs
          changed := false
          since := s.elapsed })

/-- Whether an image write has the flash (R221, R264). -/
def State.imageWriting (s : State) : Bool :=
  match s.imgOp with
  | some (.write w) => w.step != 0
  | _ => false

/-- A store is asked for: it begins, or waits for an image write to end (R221). One that waits counts as under way: STORE_BUSY reads 1,
and a further STORE or RELOAD is refused (DESIGN CHOICE, log entry 137). -/
def State.storeAsk (s : State) : State :=
  if s.imageWriting then (s.on CAL_STATUS.STORE_BUSY).setStoreWait true else s.storeBegin

/-- STORE (R214, R221). -/
def State.calStoreCmd (s : State) : State :=
if s.bit CAL_STATUS.STORE_BUSY then s.wr CAL_STATUS.STORE_RESULT 4 else s.storeAsk

/-- CAL_STORE (R214, R221): refused with BUSY while a store is under way. -/
def execCalStore (s : State) : Host.Outcome State Fault Refusal :=
  .next (s.hostCmd (fun s => s.calStoreCmd))

/-- CAL_AUTO_STORE (R26, R215): while the central tile runs. -/
def execCalAutoStore (s : State) : Host.Outcome State Fault Refusal :=
  .next (if s.awake ∧ s.bit CAL_POLICY.AUTO_STORE ∧ s.bit CAL_STATUS.DIRTY ∧ !s.bit CAL_STATUS.STORE_BUSY then
      (s.advanceTo (s.lastStore + s.rd CAL_POLICY.STORE_INTERVAL * 600000000 * usUnit)).storeAsk
    else s)

/-- The working table loaded from the body of the current copy, as boot and RELOAD do (R220): every record invalid where there
is none, or the flash does not answer. -/
def State.loadCal (s : State) (flashAnswers : Bool) : State :=
  let t := match if flashAnswers then s.currentCopy else none with
    | some c => (((s.setCalTab (bodyTab 2048 0 (s.flash.read (copyBody c.1) bodyLength) {})).wr CAL_STATUS.BOOT_COPY
        (1 + ofBool c.1)).wr CAL_GEN.GENERATION c.2)
    | none => (((s.setCalTab {}).wr CAL_STATUS.BOOT_COPY 0).wr CAL_GEN.GENERATION 0)
  (t.off CAL_STATUS.DIRTY).each (List.range 512) State.showPoints

/-- RELOAD (R214, R220). -/
def State.calReload (s : State) : State :=
  if s.bit CAL_STATUS.STORE_BUSY then s.wr CAL_STATUS.STORE_RESULT 4
  else ((s.takeFree).2.loadCal (s.takeFree.1 % 2 == 1)).each (List.range 512) State.tableChanged

/-- CAL_RELOAD (R214, R220): refused with BUSY while a store is under way; it ends every run. Whether the flash answers is a free
value (DESIGN CHOICE, log entry 12). -/
def execCalReload (s : State) : Host.Outcome State Fault Refusal :=
  .next (s.hostCmd (fun s => s.calReload))

/-- The header sector of a copy erased, so that the copy is not valid (R219). -/
def State.eraseHeader (s : State) (b : Bool) : State := s.flashErase (copyBase b) 4096
/-- The header that a store programs, of its Generation, its time and the body in flash (R218, R219). -/
def State.writeHeader (s : State) (c : CalStore) : State :=
  let hd := calHeader c.gen c.time (crc32 (calBody c.buffer))
  s.flashWrite (copyBase c.toB) (hd ++ leBytes 4 (crc32 hd))
/-- What a flash operation of a store that did not complete leaves: its bytes open, but for the first byte of a header, since no
failed store leaves a valid target (R219, R221; log entry 14). -/
def State.spoilStore (s : State) (c : CalStore) : State :=
  if c.step = 3 ∨ c.step = 4 then s.flashSpoil (copyBody c.toB) bodyLength
  else if c.step = 5 then s
  else (s.flashSpoil (copyBase c.toB) 4096).flashErase (copyBase c.toB) 1
/-- What a step of Table 6 of 07 that has completed leaves in flash (R219). -/
def State.storeStep (s : State) (c : CalStore) : State :=
  if c.step = 2 then s.eraseHeader c.toB
  else if c.step = 3 then s.flashErase (copyBody c.toB) bodyLength
  else if c.step = 4 then s.flashWrite (copyBody c.toB) (calBody c.buffer)
  else if c.step = 6 then s.writeHeader c
  else s

/-- CAL_STORE_FLASH_DONE (R219): the steps of Table 6 of 07. A mismatch at step 5 or 7 is FAILED_VERIFY, and the target's
header is erased again; a failure of the flash at another step is NO_FLASH. -/
def execCalStoreFlashDone (ok : Bool) (s : State) : Host.Outcome State Fault Refusal :=
  match s.calStore with
  | none => .next s
  | some c =>
    .next (if !s.awake then s
      else if !ok then
        (if c.step = 5 ∨ c.step = 7 then (s.eraseHeader c.toB).storeEnd 2 else (s.spoilStore c).storeEnd 3)
      else if c.step < 7 then (s.storeStep c).setCalStore (some { c with step := c.step + 1 })
      else ((s.wr CAL_GEN.GENERATION c.gen).put CAL_STATUS.DIRTY c.changed).storeEnd 1)

/-- CAL_STORE_TIMEOUT (R221): 5 s after the start of step 2. -/
def execCalStoreTimeout (s : State) : Host.Outcome State Fault Refusal :=
  match s.calStore with
  | none => .next s
  | some c => .next (if s.awake then ((s.advanceTo (c.since + 5000000 * usUnit)).spoilStore c).storeEnd 3 else s)

end Sys2Proof.Machine
end

