-- ==== Sys2Proof/Machine/MgmtOps.lean ====
section
/-! DEFINITION. Operations of the management function (10): errors, messages, read tags, holds, and the writing and
staging of events (11, R325, R335 to R337). -/

namespace Sys2Proof.Machine

/-! ## Errors (R291 to R293) -/

/-- An error seen in Device Status, by its bit there, and bits of the Status register, in place (R281, R282; PRESUMED, log entry 16). -/
def State.detect (s : State) (b status : Nat) : State :=
  s.upM (fun m => { m with detected := m.detected ||| 2 ^ b, status := m.status ||| status })

/-- A correctable error by its bit: its status is set, and a message is sent unless masked or not enabled. -/
def State.corError (s : State) (b : Nat) : State :=
  let s1 := (s.upM (fun m => { m with corStatus := m.corStatus ||| 2 ^ b })).detect 0 0
  if !bitAt s.mgmt.corMask b ∧ bitAt s.mgmt.reports 0 then s1.sendUp (.errMsg 0) else s1

/-- An error message of an uncorrectable error sent: Signaled System Error is set where SERR# is enabled (PRESUMED, log entry 16). -/
def State.sendErr (s : State) (severity : Nat) : State :=
  (s.upM (fun m => { m with status := if bitAt m.command 8 then m.status ||| 2 ^ 30 else m.status })).sendUp (.errMsg severity)

/-- The header of an unmasked error logged: a second one that finds the First Error Pointer's status still set sets
Header Log Overflow (R292). -/
def State.logHeader (s : State) (b : Nat) (header : Option Nat) : State :=
  match s.mgmt.firstError with
  | none => s.upM (fun m => { m with firstError := some (b, header) })
  | some _ => if header.isSome then s.corError 15 else s

/-- The detected bits of Device Status and of Status that an uncorrectable error sets (R281, R291). -/
def State.detectUnc (s : State) (b : Nat) (advisory : Bool) : State :=
  let t := if bitAt s.mgmt.uncSeverity b then s.detect 2 0 else if advisory then s else s.detect 1 0
  if b = 20 then t.detect 3 0 else if b = 12 then t.upM (fun m => { m with status := m.status ||| 2 ^ 31 }) else t

/-- An uncorrectable error by its bit, with the header it logs: fatal or non-fatal by its severity, and advisory where
R293 makes a non-fatal one so. Of the error registers an advisory one that is masked sets the Advisory Non-Fatal status and nothing
else, and SERR# Enable alone enables the message of an uncorrectable error too, as the standard has both (R281, R293; PRESUMED, log
entry 16). -/
def State.uncError (s : State) (b : Nat) (advisory : Bool) (header : Option Nat) : State :=
  let fatal := bitAt s.mgmt.uncSeverity b
  let seen := s.detectUnc b advisory
  let s1 := seen.upM (fun m => { m with uncStatus := m.uncStatus ||| 2 ^ b })
  let s2 := if bitAt s.mgmt.uncMask b then s1 else s1.logHeader b header
  if advisory ∧ !fatal then (if bitAt s.mgmt.corMask 13 then seen.corError 13 else s2.corError 13)
  else if bitAt s.mgmt.uncMask b then s2
  else if fatal then (if bitAt s.mgmt.reports 2 ∨ bitAt s.mgmt.command 8 then s2.sendErr 2 else s2)
  else if bitAt s.mgmt.reports 1 ∨ (b = 20 ∧ bitAt s.mgmt.reports 3) ∨ bitAt s.mgmt.command 8 then s2.sendErr 1 else s2

/-! ## Holds and PASIDs (R284, R303, R319) -/

/-- The PASID of requests for a Slice. -/
def State.pasidOf (s : State) (k : Nat) : Option Nat := if s.mgmt.pasid then some (s.rd (SLC_CTRL.PASID k)) else none
/-- Whether requests are held (R303). -/
def State.held (s : State) : Bool := s.bit GLB_MGMT_STATUS.DMA_HELD
/-- Whether a Slice's requests are held: all are, or PASID Enable is 0 and it is not S0 (R319). -/
def State.sliceHeld (s : State) (k : Nat) : Bool := s.held || (!s.mgmt.pasid && k != 0)
/-- Whether the conditions of R303 hold. -/
def State.mustHold (s : State) : Bool :=
  !s.mgmt.bme || s.mgmt.d3hot || s.mgmt.perst || !s.bit GLB_MGMT_STATUS.LINK_UP

/-! ## MSI-X (R290) -/

/-- A word of the MSI-X table; a vector is masked from reset. -/
def State.msixWord (s : State) (i : Nat) : Nat := s.mgmt.msix.get (if i % 4 = 3 then 1 else 0) i
/-- The existing Slice that holds a vector (R313). -/
def State.vectorSlice (s : State) (v : Nat) : Option Nat :=
  (List.range 256).find? (fun k => s.rd (SLC_STATUS.STATE k) != 0 && decide (s.rd (SLC_VECTORS.BASE k) ≤ v) &&
    decide (v < s.rd (SLC_VECTORS.BASE k) + s.rd (SLC_VECTORS.COUNT k)))
/-- Whether a vector's message can be sent: not masked, an address other than 0, MSI-X enabled, no hold, neither of all requests nor of
those of the vector's Slice (R290, R303, R319). -/
def State.msixOpen (s : State) (v : Nat) : Bool :=
  s.mgmt.msixEnable && !s.mgmt.functionMask && !bitAt (s.msixWord (4 * v + 3)) 0 &&
  (s.msixWord (4 * v) != 0 || s.msixWord (4 * v + 1) != 0) &&
  !s.sliceHeld ((s.vectorSlice v).getD 0)
/-- A message due on a vector: sent, or its pending bit set. -/
def State.sendMsix (s : State) (v : Nat) : State :=
  if s.msixOpen v then s.sendUp (.msix v)
  else s.upM (fun m => { m with pba := if m.pba.contains v then m.pba else m.pba ++ [v] })
/-- The messages whose pending bits are set and whose vectors can send leave. -/
def State.flushMsix (s : State) : State :=
  s.mgmt.pba.foldl (fun t v =>
    if t.msixOpen v then (t.sendUp (.msix v)).upM (fun m => { m with pba := m.pba.filter (fun u => u != v) }) else t) s

/-! ## Read tags (R298 to R303) -/

/-- The timeout that Completion Timeout Value selects, in microseconds (10, Table 6). -/
def ctoUs (v : Nat) : Nat :=
  if v = 1 then 80 else if v = 2 then 8000 else if v = 5 then 40000 else if v = 6 then 160000 else if v = 9 then 700000
  else if v = 10 then 2800000 else if v = 13 then 10000000 else if v = 14 then 50000000 else 30000
/-- The timeout that retirement counts. -/
def State.ctoNow (s : State) : Nat := usUnit * ctoUs (if s.mgmt.ctoDisable then 0 else s.mgmt.ctoValue)
/-- A tag's condition; a free tag has no entry. -/
def State.tag (s : State) (t : Nat) : TagState := s.tags.get .free t
def State.setTag (s : State) (t : Nat) (v : TagState) : State :=
  (s.setTags (if v = .free then s.tags.erase t else s.tags.set t v)).deviceQuiet
/-- A tag retired for four timeouts (R299). -/
def State.retireTag (s : State) (t : Nat) (quiet : Bool) : State := s.setTag t (.retired (s.elapsed + 4 * s.ctoNow) quiet)
/-- Whether a tag is outstanding. -/
def TagState.isOut : TagState → Bool
  | .outstanding _ _ => true
  | _ => false
/-- The lowest free tag, while fewer than 512 reads are outstanding (R299). -/
def State.freeTag (s : State) : Option Nat :=
  if 512 ≤ (s.tags.entries.filter (fun e => e.2.isOut)).length then none
  else (List.range 1024).find? (fun t => s.tag t == .free)

/-- The length of the next request for a stretch of host memory: within Max_Read_Request_Size, and not across a 4 KiB boundary
(R283; the standard's rule, PRESUMED, log entry 103). -/
def State.piece (s : State) (addr len : Nat) : Nat := min len (min (128 * 2 ^ s.mgmt.mrrs) (4096 - addr % 4096))

/-- The host address in `IMG_SRC` (09, Table 15). -/
def State.imgSrc (s : State) : Nat := s.rd (IMG_SRC.ADDR 0) / 4096 * 4096 + 2 ^ 32 * s.rd (IMG_SRC.ADDR 1)

/-- The host address at which a local Ring begins (R322). -/
def State.ringAddr (s : State) (k i : Nat) : Nat := s.rd (RNG_BASE.ADDR k i 0) / 4096 * 4096 + 2 ^ 32 * s.rd (RNG_BASE.ADDR k i 1)

/-- What a read addresses: the Slice it is for, its host address and its length (R298). -/
def State.readAddr (s : State) (u : ReadFor) : Nat × Nat × Nat :=
  match u with
  | .ring k i first count =>
    (k, s.ringAddr k i + 64 * first, 64 * count)
  | .image off len =>
    (0, (match s.imgOp with
      | some (.write w) => w.src + off
      | _ => 0), len)
  | .keyHash => (0, s.imgSrc, 48)
  | .granules k w len => (k, (s.window k w).listAt + (s.window k w).got.length, len)
  | .dropped k => (k, 0, 0)

/-- A read issued with the lowest free tag, or queued until it can be (R299, R303). -/
def State.askRead (s : State) (u : ReadFor) : State :=
  let a := s.readAddr u
  if s.sliceHeld a.1 then s.upM (fun m => { m with readQueue := m.readQueue ++ [u] })
  else match s.freeTag with
    | none => s.upM (fun m => { m with readQueue := m.readQueue ++ [u] })
    | some t => (s.setTag t (.outstanding u s.elapsed)).sendUp (.dmaRead t (s.pasidOf a.1) a.2.1 a.2.2)

/-- The queued reads asked for again, in order. -/
def State.kickReads (s : State) : State :=
  s.mgmt.readQueue.foldl State.askRead (s.upM (fun m => { m with readQueue := [] }))

/-- The next stretch of a window's granule list asked for (R370). -/
def State.askList (s : State) (k w : Nat) : State :=
  let x := s.window k w
  s.askRead (.granules k w (s.piece (x.listAt + x.got.length) (8 * x.want - x.got.length)))

/-- Bytes written to a window from an offset on, in requests within Max_Payload_Size that cross no 4 KiB boundary; trace writes
carry Relaxed Ordering while it is enabled (R283; the standard's boundary, PRESUMED, log entry 103). -/
def State.granary : Nat → State → Nat → Nat → Nat → Bool → List Nat → State
  | 0, s, _, _, _, _, _ => s
  | n + 1, s, k, w, pos, trace, bytes =>
    if bytes.isEmpty then s
    else
      let len := min (128 * 2 ^ s.mgmt.mps) (4096 - pos % 4096)
      State.granary n (s.sendUp (.granaryWrite k w pos (s.pasidOf k) (trace && s.mgmt.ro) (bytes.take len))) k w (pos + len) trace
        (bytes.drop len)

/-! ## Rings (R322 to R325) -/

def rDISABLED : Nat := 0
def rACTIVE : Nat := 1
def rFULL : Nat := 2
def rERROR : Nat := 3
/-- A Ring's state, size, head and tail. -/
def State.ringState (s : State) (k i : Nat) : Nat := s.rd (RNG_STATUS.STATE k i)
def State.ringSize (s : State) (k i : Nat) : Nat := 2 ^ s.rd (RNG_CTRL.SIZE_LOG2 k i)
def State.ringHead (s : State) (k i : Nat) : Nat := s.rd (RNG_POS.HEAD k i)
def State.ringTail (s : State) (k i : Nat) : Nat := s.rd (RNG_POS.TAIL k i)
/-- Whether a local Ring is an enabled event Ring of a Slice (R335). -/
def State.eventRing (s : State) (k i : Nat) : Bool :=
  decide (i < s.rd (SLC_RINGS.COUNT k)) && s.ringState k i != rDISABLED && s.rd (RNG_CTRL.KIND k i) == 1
/-- Whether an event Ring has no room: it holds size − 1 entries. -/
def State.ringFull (s : State) (k i : Nat) : Bool := (s.ringTail k i + 1) % s.ringSize k i == s.ringHead k i

/-- The next fetch of a command Ring (R324): at most 8 entries, within Max_Read_Request_Size, not across the Ring's end.
One read of a Ring is outstanding at a time, and the next is made once its entries have been taken. -/
def State.fetchRing (s : State) (k i : Nat) : State :=
  let waiting := s.mgmt.readQueue.any (fun u => match u with | .ring a b _ _ => a == k && b == i | _ => false) ||
    s.tags.entries.any (fun e => match e.2 with | .outstanding (.ring a b _ _) _ => a == k && b == i | _ => false)
  if s.ringState k i = rACTIVE ∧ s.rd (RNG_CTRL.KIND k i) = 0 ∧ (s.ringx k i).fetched.isEmpty ∧ !waiting ∧
      s.ringHead k i ≠ s.ringTail k i then
    let h := s.ringHead k i
    let upto := if h < s.ringTail k i then s.ringTail k i else s.ringSize k i
    s.askRead (.ring k i h (s.piece (64 * h) (64 * min 8 (upto - h)) / 64))
  else s

/-! ## Configuration space (R281, R282) -/

/-- A word of configuration space as the standard gives it, or as it has been written since. Cache Line Size and Interrupt Line are 0
until software writes them (PRESUMED, log entry 16). -/
def State.standardWord (s : State) (o : Nat) : Nat :=
  s.mgmt.cfg.get (if o = 0x0C ∨ o = 0x3C then 0 else Config.standardCold o) o

/-! ## Writing events (R325, R333, R337) -/

/-- The 64 bytes of an event entry (11, Table 8). -/
def eventBytes (e : Ev) (phase redirected : Bool) (head : Nat) : List Nat :=
  let le (n v : Nat) : List Nat := (leBytes n v).map BitVec.toNat
  let st := e.state.getD [0, 0, 0, 0, 0]
  [e.type, ofBool phase + 2 * e.cls + 8 * ofBool redirected, e.code, 0] ++ le 2 e.source ++ le 2 e.entry ++ le 4 e.tag ++
    le 2 head ++ [0, 0] ++ (e.result ++ List.replicate 16 0).take 16 ++ le 8 e.time ++ le 4 (st.getD 0 0) ++
    le 4 (st.getD 1 0) ++ le 4 (st.getD 2 0) ++ le 4 (st.getD 3 0) ++ le 4 (st.getD 4 0) ++ [0, 0, 0, 0]

/-- The Ring that an event of a Slice goes to (R335): the one it names, else the notice Ring; none where neither is an enabled event
Ring. With it, whether the event is redirected. -/
def State.routeTo (s : State) (k : Nat) (ring : Option Nat) : Option (Nat × Bool) :=
  let n := s.rd (SLC_SELF_CTRL.NOTICE_RING k)
  match ring with
  | some r =>
    if s.eventRing k r then some (r, false)
    else if s.eventRing k n then some (n, true) else none
  | none => if s.eventRing k n then some (n, false) else none
/-- The Ring an event goes to. -/
def State.route (s : State) (e : Ev) : Option (Nat × Bool) := s.routeTo e.slice e.ring
/-- Whether an event for a Ring cannot be written at once: its Slice's requests are held, the Ring is full, or others wait for it
(R304, R336). -/
def State.mustStage (s : State) (k r : Nat) : Bool :=
  s.sliceHeld k || s.ringFull k r || s.staged.any (fun o => o.slice == k && (s.route o).map Prod.fst == some r)
/-- Whether a completion or event that can leave at once is due (R374): it has its mirror, and its Ring takes it. -/
def State.eventReady (s : State) : Bool :=
  s.evq.any (fun e => s.sliceActive e.slice && (match s.route e with
    | some r => !s.mustStage e.slice r.1
    | none => false))

/-- An event written at the tail of its Ring, at the Ring's base and 64 bytes an entry, followed by its message (R322, R325, R337). -/
def State.writeEvent (s : State) (e : Ev) (r : Nat) (redirected : Bool) : State :=
  let k := e.slice
  let tail := s.ringTail k r
  let head := match e.cmdRing with
    | some c => s.ringHead k c
    | none => 0
  let s1 := s.sendUp (.ringWrite k r tail (s.pasidOf k) (s.ringAddr k r + 64 * tail) (eventBytes e (s.bit (RNG_STATUS.PHASE k r)) redirected head))
  let next := (tail + 1) % s.ringSize k r
  let s2 := s1.wr (RNG_POS.TAIL k r) next
  let s3 := if next = 0 then s2.put (RNG_STATUS.PHASE k r) (!s.bit (RNG_STATUS.PHASE k r)) else s2
  if s.bit (RNG_CTRL.INT_EN k r) ∧ s.rd (SLC_VECTORS.COUNT k) ≠ 0 then
    s3.sendMsix (s.rd (SLC_VECTORS.BASE k) + s.rd (RNG_CTRL.VECTOR k r))
  else s3

/-- The number of staged events, of the device and of a Slice (R304, R345). -/
def State.stagedOf (s : State) (k : Nat) : Nat := (s.staged.filter (fun e => e.slice == k)).length
/-- STAGED made to report the staged events. -/
def State.showStaged (s : State) (k : Nat) : State :=
  (if s.staged.isEmpty then s.deviceQuiet else s).wr GLB_MGMT_STATUS.STAGED s.staged.length |>.wr (SLC_STATUS.STAGED k) (s.stagedOf k)

/-- A PME message sent (R296); none goes over a link that is down, or that PME_Turn_Off takes to L2 or L3. -/
def State.sendPme (s : State) : State :=
  if s.bit GLB_MGMT_STATUS.LINK_UP ∧ !s.mgmt.turnedOff then (s.upM (fun m => { m with pmeAt := s.elapsed })).sendUp .pme else s

/-- A wake event of R296: the staging of an event for S0. -/
def State.wakeEvent (s : State) (e : Ev) : State :=
  if e.slice = 0 ∧ s.bit GLB_MGMT_CTRL.WAKE_ON_EVENT ∧ (s.rd GLB_MGMT_CTRL.WAKE_CLASS = 0 ∨
      classAtLeast (s.rd GLB_MGMT_CTRL.WAKE_CLASS) e.cls) ∧ s.mgmt.pmeEn ∧ (s.mgmt.d3hot ∨ s.mgmt.perst) then
    let t := s.upM (fun m => { m with pmeStatus := true, wakeN := m.wakeN || m.perst })
    if s.mgmt.perst then t else t.sendPme
  else s

/-- A Ring to which an event is due and that has no room is FULL (R323). -/
def State.markFull (s : State) (k : Nat) (r : Option Nat) : State :=
  match r with
  | some r => if s.ringFull k r then s.wr (RNG_STATUS.STATE k r) rFULL else s
  | none => s

/-- An event staged (R304, R336); its Ring is FULL where that is why it waits. -/
def State.stage (s : State) (e : Ev) (r : Option Nat) : State :=
  (((s.setStaged (s.staged ++ [e])).markFull e.slice r).showStaged e.slice).wakeEvent e

/-- The staged events that can be written are, in order; each full Ring keeps its own (R305, R325, R336). -/
def State.flushFor (s : State) (pick : Ev → Bool) : State :=
  let todo := s.staged
  let t := todo.foldl (fun (t : State) e =>
    if pick e ∧ !t.sliceHeld e.slice then
      match t.route e with
      | none => t.satUp (SLC_SELF_STATUS.DISCARDED e.slice)
      | some (r, red) =>
        if t.ringFull e.slice r then (t.wr (RNG_STATUS.STATE e.slice r) rFULL).setStaged (t.staged ++ [e])
        else t.writeEvent e r red
    else t.setStaged (t.staged ++ [e])) (s.setStaged [])
  (t.each (todo.map Ev.slice).dedup State.showStaged)

/-- Whether an event may be placed now: its source need not wait (R304, R336). -/
def State.roomFor (s : State) (e : Ev) : Bool :=
  decide (s.staged.length < 8192) && (s.sliceHeld e.slice || decide (s.stagedOf e.slice < 512))

/-- The event staged, or, with no room, dropped where it is of the data path and kept waiting otherwise. STAGING_FULL and
STAGE_DROPS are for a full store, DROPPED for a Slice at its own limit (R304, R311, R336). -/
def State.stageOr (s : State) (e : Ev) (r : Option Nat) : State × Bool :=
  let full := 8192 ≤ s.staged.length
  let t := s.markFull e.slice r
  if s.roomFor e then (s.stage e r, true)
  else if e.canWait then (if full then t.on GLB_MGMT_STATUS.STAGING_FULL else t, false)
  else if full then (t.satUp GLB_MGMT_CNT.STAGE_DROPS, true)
  else (t.satUp (SLC_SELF_STATUS.DROPPED e.slice), true)

/-- An event that has its mirror is written, redirected, staged, dropped or discarded (R304, R335, R336, R341); the truth
value says whether it is done with, or its source waits. -/
def State.postEvent (s : State) (e : Ev) : State × Bool :=
  if !s.sliceActive e.slice then (s, true)
  else
    match s.route e with
    | none => if s.sliceHeld e.slice then s.stageOr e none else (s.satUp (SLC_SELF_STATUS.DISCARDED e.slice), true)
    | some (r, red) =>
      if s.mustStage e.slice r then s.stageOr e (some r)
      else (s.writeEvent e r red, true)

/-! ## The beginning and end of a hold (R303, R305) -/

/-- A read is failed or voided, by what it is for: an image or key read ends its action with DMA_FAIL (R264). -/
def State.dmaFail (s : State) (u : ReadFor) : State :=
  match u with
  | .image _ _ =>
    match s.imgOp with
    | some (.write w) => s.setImgOp (some (.write { w with step := 6, result := 6 }))
    | _ => s
  | .keyHash =>
    match s.imgOp with
    | some (.key _) => ((s.wr IMG_STATUS.CMD_RESULT 6).off IMG_STATUS.CMD_BUSY).setImgOp none
    | _ => s
  | _ => s

/-- Outstanding reads that a test picks are voided and their tags retired without report; a granule list is read again
later, and a Ring entry counts as never fetched (R303, R319). -/
def State.voidReads (s : State) (pick : ReadFor → Bool) : State :=
  s.tags.entries.foldl (fun t e =>
    match e.2 with
    | .outstanding u _ =>
      if pick u then
        let t1 := (t.retireTag e.1 true).dmaFail u
        match u with
        | .granules _ _ _ => t1.upM (fun m => { m with readQueue := m.readQueue ++ [u] })
        | _ => t1
      else t
    | _ => t) s

/-- The hold as R303 begins it: reads outstanding or due are voided. -/
def State.beginHold (s : State) : State :=
  let s1 := (s.on GLB_MGMT_STATUS.DMA_HELD).voidReads (fun _ => true)
  let q := s1.mgmt.readQueue
  (q.foldl State.dmaFail s1).upM (fun m => { m with
    readQueue := m.readQueue.filter (fun u => match u with | .granules _ _ _ => true | _ => false) })

/-- DMA_HELD brought into line with the conditions of R303 when they become true. -/
def State.checkHold (s : State) : State := if s.mustHold ∧ !s.held then s.beginHold else s

/-- The Rings of a Slice that are enabled. -/
def State.enabledRings (s : State) (k : Nat) : List Nat :=
  (List.range (s.rd (SLC_RINGS.COUNT k))).filter (fun i => s.ringState k i != rDISABLED)

/-- What the end of a hold does for the Slices a test picks (R305): staged events, pending messages, fetches. -/
def State.resume (s : State) (pick : Nat → Bool) : State :=
  let s1 := ((s.flushFor (fun e => pick e.slice)).flushMsix).kickReads
  s1.each (s1.activeSlices.filter pick) (fun t k => t.each (t.enabledRings k) (fun u i => u.fetchRing k i))

/-- The hold ends where none of its conditions is left. -/
def State.endHold (s : State) : State :=
  if !s.mustHold ∧ s.held then (s.off GLB_MGMT_STATUS.DMA_HELD).resume (fun _ => true) else s

end Sys2Proof.Machine
end

