-- ==== Sys2Proof/Machine/AccessOps.lean ====
section
/-! DEFINITION. Reading the register space (10): where a register is held, and the value a read of it returns. -/

namespace Sys2Proof.Machine

/-- The BAR2 space begins here in the numbering of offsets. -/
def bar2Base : Nat := 0x1000000

/-- Whether a register at an offset of a Port's block, and of a Lane Channel's, is held in a Lane Tile (10, Table 4). -/
def portHeld (r : Nat) : Bool :=
  [0x08, 0x0C, 0x10, 0x24, 0x28, 0x48, 0x4C, 0x50, 0x54, 0x68, 0x6C, 0x70, 0x74, 0x78, 0x7C].contains r
def laneHeld (r : Nat) : Bool := r % 4 == 0 && ((decide (0x10 ≤ r) && decide (r ≤ 0x28)) || (decide (0x50 ≤ r) && decide (r ≤ 0x68)))

/-- The Lane Tile that holds the register at an offset, none for one that the central tile holds or answers (R289). -/
def State.holder (s : State) (x : Nat) : Option Nat :=
  if 0x100000 ≤ x ∧ x < 0x140000 then
    let p := (x - 0x100000) / 0x1000
    if portHeld (x % 0x1000) ∧ s.enabled p then some (s.tileOf p) else none
  else if 0x200000 ≤ x ∧ x < 0x210000 then
    if laneHeld (x % 0x100) then some ((x - 0x200000) / 0x2000) else none
  else none

/-- A word of fields at their Cold values. -/
def coldWord (fs : List Field) : Nat :=
  fs.foldl (fun n f => match f.acc with
    | .wo => n
    | _ => n + f.cell.cold * 2 ^ f.cell.lo) 0

/-- A list of words by index, as 32-bit registers. -/
def word32 (n k : Nat) : Nat := n / 2 ^ (32 * k) % 2 ^ 32

/-- The existing Slice whose range holds a pool Ring (R349). -/
def State.ownerOf (s : State) (i : Nat) : Option Nat :=
  (List.range 256).find? (fun k => s.rd (SLC_STATUS.STATE k) != 0 && decide (s.rd (SLC_RINGS.BASE k) ≤ i) &&
    decide (i < s.rd (SLC_RINGS.BASE k) + s.rd (SLC_RINGS.COUNT k)))

/-- `RNG_INFO` of a pool Ring (11, Table 18). -/
def State.rngInfo (s : State) (i : Nat) : Nat :=
  match s.ownerOf i with
  | none => 0
  | some k =>
    let j := i - s.rd (SLC_RINGS.BASE k)
    2 ^ 31 + s.rd (RNG_STATUS.STATE k j) * 2 ^ 24 + k * 2 ^ 16 + s.rd (RNG_CTRL.KIND k j) * 2 ^ 15 + j

/-- `SLC_SHARE` as the Slice sees it: the allotment in force (R321, R339). -/
def State.shareWord (s : State) (k : Nat) : Nat := (s.slicex k).tokens * 2 ^ 18 + s.rd (SLC_SHARE.GRANULES k)

/-- A register of a Slice window (R320, R321, R350): `SLC_SELF_INFO` and the copies are computed; the Rings at or above
the count, and the window of a Slice that does not exist, read 0. -/
def State.windowAt (s : State) (k o : Nat) : Nat :=
  if s.rd (SLC_STATUS.STATE k) = 0 then 0
  else if o = 0x0 then
    k * 2 ^ 24 + s.rd (SLC_STATUS.GENERATION k) * 2 ^ 16 + s.rd (SLC_STATUS.STATE k) * 2 ^ 12 +
      ofBool (!s.mgmt.pasid && k != 0) * 2 ^ 11
  else if o = 0xC then s.word (SLC_RINGS.fields k)
  else if o = 0x10 then s.word (SLC_VECTORS.fields k)
  else if o = 0x14 then s.shareWord k
  else if o = 0x18 then s.rd (SLC_PORTS.PORTS k 0)
  else if o = 0x1C then s.rd (SLC_PORTS.PORTS k 1)
  else if 0x1000 ≤ o ∧ o < 0x9000 ∧ s.rd (SLC_RINGS.COUNT k) ≤ (o - 0x1000) / 0x20 then 0
  else s.word (fieldsWindow k o)

/-- The pending-bit array, by 32-bit word. -/
def State.pbaWord (s : State) (i : Nat) : Nat := ((s.mgmt.pba.filter (fun v => v / 32 == i)).map (fun v => 2 ^ (v % 32))).sum

/-- Whether an offset is that of a segment or Trellis register of a Standard Side, which reads as its Cold value (05 and 06,
Registers). -/
def State.ofStandardSide (s : State) (x : Nat) : Bool :=
  decide (0x100000 ≤ x) && decide (x < 0x140000) && (sidesOf ((x - 0x100000) / 0x1000)).any (fun q => !s.isSeg q &&
    [PRT_SEG_CTRL.off q, PRT_SEG_STATUS.off q, PRT_SEG_CNT.off q, PRT_TRL_CTRL.off q, PRT_TRL_STATUS.off q,
      PRT_TRL_CNT.off q].contains x)

/-- A register outside the snapshot region: the fields it stores, or what it is computed from. -/
def State.valueOf (s : State) (x : Nat) : Nat :=
  if x % 4 ≠ 0 then 0
  else if bar2Base ≤ x then s.windowAt ((x - bar2Base) / 0x10000) ((x - bar2Base) % 0x10000)
  else if x = 0x3000 then (s.showTarget.showActive).word PWR_STATUS.fields
  else if x = 0x1008 then s.rd (IMG_SRC.ADDR 0) / 4096 * 4096
  else if x = 0x6000 then word32 (s.count / nsUnit) 0
  else if x = 0x6004 then word32 (s.count / nsUnit) 1
  else if x = 0x1018 then word32 (s.bct.get 0 (s.rd IMG_BCT_INDEX.INDEX)) 0
  else if x = 0x101C then word32 (s.bct.get 0 (s.rd IMG_BCT_INDEX.INDEX)) 1
  else if 0x40000 ≤ x ∧ x < 0x80000 then if x % 0x10 = 0 then s.rngInfo ((x - 0x40000) / 0x10) else 0
  else if 0xF00000 ≤ x ∧ x < 0xF08000 then s.msixWord ((x - 0xF00000) / 4)
  else if 0xF10000 ≤ x ∧ x < 0xF10100 then s.pbaWord ((x - 0xF10000) / 4)
  else if s.ofStandardSide x then coldWord (fieldsAt x)
  else s.word (fieldsAt x)

/-- The register that a snapshot copy copies (12, Table 8). -/
def copied (x : Nat) : Option Nat :=
  if 0xE0000 ≤ x ∧ x < 0xE9000 then some (x - 0xE0000)
  else if 0xF0000 ≤ x ∧ x < 0xF2000 then some (0x10000 + (x - 0xF0000))
  else if 0xF2000 ≤ x ∧ x < 0xF2C00 then some (0x20000 + (x - 0xF2000))
  else if 0xC0000 ≤ x ∧ x < 0xC4000 then some (0x100000 + 0x1000 * ((x - 0xC0000) / 0x100) + (x - 0xC0000) % 0x100)
  else if 0xC4000 ≤ x ∧ x < 0xD4000 then some (0x200000 + (x - 0xC4000))
  else none

/-- The state whose registers are those of the latest latch (R383). -/
def State.latched (s : State) : State :=
  { s with
      regs := s.snap.regs
      bct := s.snap.bct
      now := s.snap.now
      count := s.snap.now }

/-- A snapshot copy: the latched value, or the Cold value where the tile was not latched (R383). -/
def State.copyOf (s : State) (x : Nat) : Nat :=
  if x = 0x3000 then s.latched.word PWR_STATUS.fields
  else match s.latched.holder x with
  | some t => if bitAt (s.rd SNP_STATUS.TILES_LATCHED) t then s.latched.valueOf x else coldWord (fieldsAt x)
  | none => s.latched.valueOf x

/-- The value of the register at an offset (R285 to R289, R383); in recovery mode only the GLB_ and IMG_ registers respond (R262). -/
def State.valueAt (s : State) (x : Nat) : Nat :=
  if s.bit IMG_STATUS.RECOVERY ∧ 0x2000 ≤ x then 0
  else match copied x with
  | some y => s.copyOf y
  | none => s.valueOf x

/-! ## Accesses to Lane Tiles (R28 to R30) -/

/-- Whether an access to a Lane Tile waits: it is waking, or OFF with nothing that holds it in reset (R28, R29). -/
def State.accessWaits (s : State) (t : Nat) : Bool :=
  s.tileState t == 1 || (s.tileState t == 0 && !s.resetsHeld)

/-- An access to a FENCED tile is recorded as FENCED_ACCESS, with the tile and whether it was a write (R30, 15). -/
def State.fencedAccess (s : State) (t : Nat) (isWrite : Bool) : State := s.raiseDev 0x0E t 0xFF (ofBool isWrite)

/-- A read that completes now (R28 to R30): of a FENCED tile 0, with the error event. -/
def State.readNow (s : State) (x : Nat) : State × Nat :=
  match s.holder x with
  | none => (s, s.valueAt x)
  | some t =>
    if s.tileState t = 4 then (s.fencedAccess t false, 0)
    else (s, s.valueAt x)

/-! ## Storing fields (R4 to R8) -/

/-- What a written value becomes in a field (R7, R8). -/
def Fix.apply (f : Fix) (old v : Nat) : Nat :=
  match f with
  | .any => v
  | .clamp lo hi => clampNat lo hi v
  | .upTo hi => if v ≤ hi then v else old

/-- A field written as its access kind decides: RW and RWS store, RW1C and RW1CS clear the bits written as 1; the others
keep their value (R4). -/
def State.storeField (s : State) (w : Nat) (f : Field) : State :=
  let v := bitsOf w f.cell.lo f.cell.width
  match f.acc with
  | .rw | .rws => s.wr f.cell (f.fix.apply (s.rd f.cell) v)
  | .rw1c | .rw1cs => s.wr f.cell (s.rd f.cell - (s.rd f.cell &&& v))
  | _ => s

/-- The fields of a register written with a word, in order. -/
def State.storeWord (s : State) (fs : List Field) (w : Nat) : State := fs.foldl (fun t f => t.storeField w f) s

/-- Whether a register is `LCH_EQ_CTRL`, whose RW fields the central tile keeps (R66). -/
def keptReg (x : Nat) : Bool :=
  decide (0x200000 ≤ x) && decide (x < 0x210000) && (x % 0x100 == 0x10 || x % 0x100 == 0x50)

/-- What a write to a tile that does not take it leaves: the fields that the central tile keeps (R29, R30, R66). -/
def State.keptWrite (s : State) (x v : Nat) : State := if keptReg x then s.storeWord (fieldsAt x) v else s

end Sys2Proof.Machine
end

