-- ==== Sys2Proof/Machine/SliceOps.lean ====
section
/-! DEFINITION. Operations on Slices (11): their resources, creation, the clearing of R341, and the taking of commands. -/

namespace Sys2Proof.Machine

/-! ## Resources (R313 to R318) -/

def slFREE : Nat := 0
def slACTIVE : Nat := 1
def slRESETTING : Nat := 2
def slDESTROYING : Nat := 3
/-- The state of a Slice (11, Table 2). -/
def State.sliceState (s : State) (k : Nat) : Nat := s.rd (SLC_STATUS.STATE k)
/-- The existing Slices other than one. -/
def State.otherSlices (s : State) (k : Nat) : List Nat :=
  (List.range 256).filter (fun j => j != k && s.sliceState j != slFREE)
/-- The lowest base above a Slice's among the ranges of the others, the pool's end where there is none (R313). -/
def nextRange (own pool : Nat) (ranges : List (Nat × Nat)) : Nat :=
  ((ranges.filter (fun r => r.2 != 0 && decide (own < r.1))).map Prod.fst).foldl min pool
/-- The Ring ranges, and the vector ranges, of the other Slices. -/
def State.ringRanges (s : State) (k : Nat) : List (Nat × Nat) :=
  (s.otherSlices k).map (fun j => (s.rd (SLC_RINGS.BASE j), s.rd (SLC_RINGS.COUNT j)))
def State.vectorRanges (s : State) (k : Nat) : List (Nat × Nat) :=
  (s.otherSlices k).map (fun j => (s.rd (SLC_VECTORS.BASE j), s.rd (SLC_VECTORS.COUNT j)))
/-- The greatest counts, tokens and granules of a Slice (11, Table 1). -/
def State.maxRings (s : State) (k : Nat) : Nat :=
  min 1024 (nextRange (s.rd (SLC_RINGS.BASE k)) 16384 (s.ringRanges k) - s.rd (SLC_RINGS.BASE k))
def State.maxVectors (s : State) (k : Nat) : Nat :=
  nextRange (s.rd (SLC_VECTORS.BASE k)) 2048 (s.vectorRanges k) - s.rd (SLC_VECTORS.BASE k)
def State.maxTokens (s : State) (k : Nat) : Nat := 896 - ((s.otherSlices k).map (fun j => s.rd (SLC_SHARE.TOKENS j))).sum
def State.maxGranules (s : State) (k : Nat) : Nat :=
  65536 - ((s.otherSlices k).map (fun j => s.rd (SLC_SHARE.GRANULES j))).sum

/-- The granules that a Slice's windows hold or are being opened with. -/
def State.granulesHeld (s : State) (k : Nat) : Nat :=
  ((List.range 16).map (fun w => s.rd (TRC_WIN_STATUS.GRANULES k w) +
    (if s.rd (TRC_WIN_STATUS.STATE k w) = 1 then (s.window k w).want else 0))).sum

/-- Whether a field is one of a Ring in a Slice's window. -/
def ringKey (k key : Nat) : Bool :=
  decide (bar2Base + 0x10000 * k + 0x1000 ≤ key / 32) && decide (key / 32 < bar2Base + 0x10000 * k + 0x9000)
/-- The local Rings of a Slice that hold anything but Cold values, whether or not the Slice's count still reaches them. -/
def State.ringsOf (s : State) (k : Nat) : List Nat :=
  (((s.regs.entries.filter (fun (e : Nat × Nat) => ringKey k e.1)).map (fun (e : Nat × Nat) => (e.1 / 32 - (bar2Base + 0x10000 * k + 0x1000)) / 0x20)) ++
    ((s.rings.entries.filter (fun (e : Nat × RingX) => e.1 / 1024 == k)).map (fun (e : Nat × RingX) => e.1 % 1024))).dedup

/-- A local Ring's registers and contents returned to their Cold values (R351). -/
def State.coldRing (s : State) (k i : Nat) : State :=
  let t := (((((s.coldAll (RNG_BASE.fields k i 0)).coldAll (RNG_BASE.fields k i 1)).coldAll (RNG_CTRL.fields k i)).coldAll
    (RNG_POS.fields k i)).coldAll (RNG_STATUS.fields k i))
  t.setRings (t.rings.erase (1024 * k + i % 1024))

/-- The window's registers returned to their Cold values, but for RESET_DONE (R341, R350). -/
def State.coldWindow (s : State) (k : Nat) : State :=
  ((s.coldAll (SLC_SELF_CTRL.fields k)).cold (SLC_SELF_STATUS.DISCARDED k)).cold (SLC_SELF_STATUS.DROPPED k)

/-- An event of type SLICE for a Slice, if it is ACTIVE (R334). -/
def State.sliceEvent (s : State) (to_ k code : Nat) (result : List Nat) : State :=
  let e : Ev :=
    { slice := to_
      ring := none
      type := 4
      cls := 0
      code := code
      source := k
      result := result
      time := s.nowNs
      state := some [0, 0, 0, 0, 0] }
  if s.sliceActive to_ then s.setEvq (s.evq ++ [e]) else s

/-- SHARE_CHANGED for a Slice, with its effective share (R339). -/
def State.shareChanged (s : State) (k : Nat) : State :=
  let le4 (n : Nat) : List Nat := (leBytes 4 n).map BitVec.toNat
  s.sliceEvent k k 3 (le4 (s.word (SLC_RINGS.fields k)) ++ le4 (s.word (SLC_VECTORS.fields k)) ++ le4 (s.shareWord k))

/-- A Slice becomes ACTIVE by creation (R316): Rings disabled, the window's fields Cold, no permission; its allotment is
in force and it has no tokens before the next epoch. -/
def State.activate (s : State) (k : Nat) : State :=
  let t := (((s.each (s.ringsOf k) (fun t i => t.coldRing k i)).coldWindow k).coldAll (ENG_PERMIT.fields k)).wr
    (SLC_STATUS.STATE k) slACTIVE
  t.upSl k (fun _ => { balance := 0, tokens := t.rd (SLC_SHARE.TOKENS k) })

/-- S0 created (R318). -/
def State.createS0 (s : State) : State :=
  (((((((((s.wr (SLC_RINGS.BASE 0) 0).wr (SLC_RINGS.COUNT 0) (16 * s.rd SLC_DEF_S0.RINGS)).wr (SLC_VECTORS.BASE 0) 0).wr
    (SLC_VECTORS.COUNT 0) (16 * s.rd SLC_DEF_S0.VECTORS)).wr (SLC_SHARE.TOKENS 0) (8 * s.rd SLC_DEF_S0.TOKENS)).wr
    (SLC_SHARE.GRANULES 0) (1024 * s.rd SLC_DEF_S0.GRANULES)).wr (SLC_PORTS.PORTS 0 0) 0xFFFFFFFF).wr
    (SLC_PORTS.PORTS 0 1) 0xFFFFFFFF).wr (SLC_CTRL.PASID 0) 0).activate 0

/-! ## Winnows and windows of a Slice (R369, R376) -/

/-- TRC_WN_STATUS made to report a Winnow: w = 2p + direction. -/
def State.showWinnow (s : State) (w : Nat) : State :=
  let x := s.winnow (w / 2) (w % 2)
  let u := (x.units.zipIdx.map (fun e => if e.1.enabled then 2 ^ e.2 else 0)).sum
  ((s.put (TRC_WN_STATUS.CLAIMED w) x.owner.isSome).wr (TRC_WN_STATUS.OWNER w) (x.owner.getD 0)).wr (TRC_WN_STATUS.UNITS w) u
/-- A Winnow's units disabled. -/
def Winnow.quiet (x : Winnow) : Winnow := { x with units := x.units.map (fun u => { u with enabled := false, armed := false }) }
/-- A Winnow released, with its units disabled (R369). -/
def State.releaseWinnow (s : State) (w : Nat) : State :=
  (s.upW (w / 2) (w % 2) (fun x => { x.quiet with owner := none })).showWinnow w
/-- The Winnows that a Slice owns and a test picks are released. -/
def State.releaseOwned (s : State) (k : Nat) (pick : Nat → Bool) : State :=
  s.each (((List.range 128).filter (fun w => (s.winnow (w / 2) (w % 2)).owner == some k && pick w))) State.releaseWinnow

/-- A window closed: its granules return to the Slice's quota (R370). -/
def State.closeWindow (s : State) (k w : Nat) : State :=
  let t := (((s.coldAll (TRC_WIN_STATUS.fields k w)).coldAll (TRC_WIN_POS.fields k w)).coldAll (TRC_WIN_READ.fields k w)).coldAll
    (TRC_WIN_DROPS.fields k w)
  t.setWindows (t.windows.erase (16 * k + w % 16))

/-- A Slice's trace stops (R376): its pending records are discarded, its windows closed and its Winnows released. -/
def State.stopTrace (s : State) (k : Nat) : State :=
  let t := s.each (List.range 8) (fun t i => t.upT i (fun x => { x with buffer := x.buffer.filter (fun r => r.1 != k) }))
  (t.each (List.range 16) (fun u w => u.closeWindow k w)).releaseOwned k (fun _ => true)

/-! ## Jobs of a Slice (R239) -/

/-- Whether a Slice has a running job of an older generation. -/
def State.oldJobs (s : State) (k : Nat) : Bool :=
  s.engines.entries.any (fun e => match e.2.slot with
    | some j => j.slice == k && j.gen != s.rd (SLC_STATUS.GENERATION k)
    | none => false)

/-- The number of jobs a Slice has queued or running (R328). -/
def State.jobCount (s : State) (k : Nat) : Nat :=
  (s.engines.entries.map (fun e => (e.2.queue.filter (fun j => j.slice == k)).length +
    (match e.2.slot with
      | some j => ofBool (j.slice == k)
      | none => 0))).sum

/-- A Slice's jobs dropped (R239): queued ones are discarded, a running one stops and ends without a word, and one that
only holds results leaves its slot. -/
def State.dropJobs (s : State) (k : Nat) : State :=
  s.each (s.engines.entries.map Prod.fst) (fun t n =>
    let t1 := t.upE n (fun e => { e with queue := e.queue.filter (fun j => j.slice != k) })
    match (t1.engine n).slot with
    | some j =>
      if j.slice ≠ k then t1
      else if t1.jobState n = 4 then (t1.upE n (fun e => { e with slot := none })).showJob n 0
      else (t1.upE n (fun e => { e with slot := some { j with silent := true, unwritten := [] } })).stopJob n 5
    | none => t1)

/-! ## R341 -/

/-- Whether a read is for a Slice's Rings or windows. -/
def ReadFor.ofSlice (k : Nat) : ReadFor → Bool
  | .ring a _ _ _ => a == k
  | .granules a _ _ => a == k
  | .dropped a => a == k
  | _ => false

/-- What entry to RESETTING or DESTROYING does for a Slice (R341), the state being set already. -/
def State.quietSlice (s : State) (k : Nat) : State :=
  let s1 := (s.wrapUp (SLC_STATUS.GENERATION k)).dropJobs k
  let s2 := (s1.voidReads (ReadFor.ofSlice k)).upM (fun m => { m with readQueue := m.readQueue.filter (fun u => !u.ofSlice k) })
  let s3 := s2.each (s2.ringsOf k) (fun t i => t.coldRing k i)
  let s4 := (s3.setStaged (s3.staged.filter (fun e => e.slice != k))).setEvq (s3.evq.filter (fun e => e.slice != k))
  (((s4.showStaged k).stopTrace k).coldWindow k).deviceQuiet

/-- The rest of a destruction, and FREE (R317): the generation rises once more, and the range, allotments and PASID are no
longer counted; S0 is told, where it exists, and is created afresh when it was due and every Slice is FREE (R318). -/
def State.freeSlice (s : State) (k : Nat) (tell : Bool) : State :=
  let s1 := ((s.wrapUp (SLC_STATUS.GENERATION k)).coldAll (ENG_PERMIT.fields k)).wr (SLC_STATUS.STATE k) slFREE
  let s2 := (s1.off (SLC_STATUS.DESTROY_PENDING k)).upSl k (fun _ => {})
  let s3 := if tell then s2.sliceEvent 0 k 2 noResult else s2
  if s3.mgmt.s0Due ∧ (List.range 256).all (fun j => s3.sliceState j == slFREE) then
    (s3.createS0).upM (fun m => { m with s0Due := false })
  else s3

/-! ## Taking commands (R324, R326 to R329) -/

/-- A little-endian field of a command entry. -/
def cmdField (e : List Byte) (at_ n : Nat) : Nat := leNat ((e.drop at_).take n)
/-- A command's opcode, its event Ring, its Tag and its Port. -/
def cmdOp (e : List Byte) : Nat := byteAt e 0
def cmdEvRing (e : List Byte) : Nat := cmdField e 2 2
def cmdTag (e : List Byte) : Nat := cmdField e 4 4
def cmdPort (e : List Byte) : Nat := byteAt e 8
/-- SEQ_CHECK of a command. -/
def cmdCheck (e : List Byte) : Bool := bitAt (byteAt e 1) 0
/-- Whether an opcode is one of Table 6 of 11 or Table 6 of 12. -/
def validOp (n : Nat) : Bool := decide (n ≤ 5) || (decide (0x10 ≤ n) && decide (n ≤ 0x15))

/-- A command completes with a status (R331). -/
def State.reply (s : State) (k i idx : Nat) (e : List Byte) (status : Nat) (result : List Nat) (port : Option Nat) : State :=
  s.complete k i idx (cmdTag e) (some (cmdEvRing e)) status result port

/-- A command that names a Port completes with the publication it has been checked against, where there is one (R329, R441). -/
def State.replyAs (s : State) (k i idx : Nat) (e : List Byte) (status : Nat) (result : List Nat) (pub : Option (List Nat)) : State :=
  s.completeAs k i idx (cmdTag e) (some (cmdEvRing e)) status result (some (cmdPort e)) (pub.getD (s.mirrorOf (some (cmdPort e))))

/-- An entry of a Ring is taken, as the command that is told by its index and the count: HEAD passes it (R324, R328); one that is
no JOB_SUBMIT joins the order in which commands complete. -/
def State.takeFront (s : State) (k i cmd : Nat) (job : Bool) : State :=
  (s.wr (RNG_POS.HEAD k i) ((cmd % 65536 + 1) % s.ringSize k i)).upR k i (fun r => { r with
    fetched := r.fetched.drop 1
    open_ := r.open_ + 1
    serial := r.serial + 1
    order := if job then r.order else r.order ++ [(cmd, none)] })
/-- The command that an entry of a Ring would be. -/
def State.nextCmd (s : State) (k i idx : Nat) : Nat := idx + 65536 * (s.ringx k i).serial

/-- Whether a Ring's commands may be taken now: it is ACTIVE, and the central cores run (R25, R328). -/
def State.takes (s : State) (k i : Nat) : Bool :=
  s.sliceActive k && s.ringState k i == rACTIVE && s.rd (RNG_CTRL.KIND k i) == 0 && !s.mgmt.coresDown

/-- Reserved opcodes at the front are taken and complete with BAD_OPCODE (R327); once no entry is left the next are
fetched (R324). -/
def State.drain (s : State) (k i : Nat) : Nat → State
  | 0 => s.fetchRing k i
  | n + 1 =>
    if !s.takes k i then s
    else match (s.ringx k i).fetched with
      | [] => s.fetchRing k i
      | (idx, e) :: _ =>
        if validOp (cmdOp e) then s
        else ((s.takeFront k i (s.nextCmd k i idx) false).reply k i (s.nextCmd k i idx) e 1 noResult none).drain k i n

/-- The front command of a Ring is taken and acted on, if it is of the opcode and a condition holds. -/
def State.command (s : State) (k i op : Nat) (ready : Bool) (act : State → Nat → List Byte → State) : State :=
  if !s.takes k i then s
  else match (s.ringx k i).fetched with
    | (idx, e) :: _ =>
      let cmd := s.nextCmd k i idx
      if cmdOp e = op ∧ ready then (act (s.takeFront k i cmd (op == 1)) cmd e).drain k i 8 else s
    | [] => s

/-- The sequence number of a Port's mirror. -/
def State.mirrorSeqOf (s : State) (p : Nat) : Nat := (s.portx p).mirrorSeq

/-- A command that names a Port (R327, R329, R441): DENIED outside the visibility set or where it is not permitted,
BAD_TARGET for a Port that is not enabled where that is asked, STALE where the check fails against a publication made
on receipt; else it acts. A completion for a Port that the Slice may not see carries no mirror. -/
def State.named (s : State) (k i idx : Nat) (e : List Byte) (permitted needEnabled : Bool) (act : State → State) : State :=
  let p := cmdPort e % 64
  if 64 ≤ cmdPort e ∨ !(s.sees k p) then s.reply k i idx e 2 noResult none
  else if !permitted then s.reply k i idx e 2 noResult (some p)
  else if needEnabled ∧ !s.enabled p then s.reply k i idx e 7 noResult (some p)
  else
    let t := if s.enabled p ∧ s.tileState (s.tileOf p) = 2 then s.publish p else s
    if cmdCheck e ∧ cmdField e 12 4 ≠ t.mirrorSeqOf p then t.reply k i idx e 3 noResult (some p) else act t

end Sys2Proof.Machine
end

