-- ==== Sys2Proof/Machine/JobOps.lean ====
section
/-! DEFINITION. Operations on slice jobs (08): the parameter block, permission, steps, results and their writing. -/

namespace Sys2Proof.Machine

/-! ## The parameter block (R227, R228, R231, R232) -/

/-- The receivers of a job: its target, or those of its side in ascending logical lane (R228). -/
def State.targets (s : State) (j : Job) : List Nat := if j.portScope then s.allHalves j.side else [j.half]

/-- The columns and rows of an EYE_SCAN (08, Table 3). -/
def eyeColumns (ts : Nat) : Nat := ceilDiv 64 ts
def eyeRows (vs : Nat) : Nat := ceilDiv 128 vs

/-- The steps of a whole job: offsets, grid points, groups of four receivers, or two per receiver (R228). -/
def State.stepsOf (s : State) (j : Job) : Nat :=
  if j.kind = 1 then j.steps
  else if j.kind = 2 then eyeColumns j.tStride * eyeRows j.vStride
  else if j.kind = 3 then ceilDiv (s.targets j).length 4
  else 2 * (s.targets j).length

/-- The bytes of a job's results in its window (R228, R229). -/
def State.resultBytes (s : State) (j : Job) : Nat :=
  if j.kind = 1 then 0
  else if j.kind = 2 then 2 * (eyeColumns j.tStride * eyeRows j.vStride)
  else if j.kind = 3 then 32 * (s.targets j).length
  else 256 * (s.targets j).length

/-- The bytes that a window takes as RESULTS now: 0 unless it is OPEN and of that kind (R375). -/
def State.windowRoom (s : State) (k w : Nat) : Nat :=
  if s.rd (TRC_WIN_STATUS.STATE k w) = 2 ∧ s.rd (TRC_WIN_STATUS.KIND k w) = 1 ∧ !(s.window k w).closing then
    s.rd (TRC_WIN_STATUS.GRANULES k w) * 2 ^ 21
  else 0

/-- Whether a PAM4 rate runs in a slot (02, Table 1). -/
def pam4Slot (slot : Nat) : Bool := decide (5 ≤ slot) && decide (slot ≤ 8)

/-- The job that a parameter block asks for, none where its Kind is reserved or its target is not there (R227, R231). Steps of 0, for
which the tables give no least value, are taken as 1 (DESIGN CHOICE, log entry 133). -/
def State.parseJob (s : State) (k ring idx : Nat) (e : List Byte) : Option Job :=
  let b (n : Nat) : Nat := byteAt e (16 + n)
  let kind := b 0
  let scope := decide (3 ≤ kind) && bitAt (b 1) 1
  let d := min 1 (b 3)
  let q := 2 * min 63 (b 4) + d
  let half := if scope then (if s.enabled (q / 2) then s.halfAt q 0 else none) else some (2 * b 2 + d)
  if kind = 0 ∨ 4 < kind then none
  else match half with
    | none => none
    | some h =>
      match s.claim h with
      | none => none
      | some side =>
        let data := kind == 1 && bitAt (b 1) 0
        let most := if b 5 < 2 then (if data then 16 else 32) else (if data then 32 else 64)
        some {
          slice := k
          gen := s.rd (SLC_STATUS.GENERATION k)
          ring := ring
          entry := idx
          tag := cmdTag e
          evRing := cmdEvRing e
          kind := kind
          dataMethod := data
          portScope := scope
          latched := kind == 4 && bitAt (b 1) 2
          half := h
          side := side
          axis := b 5
          steps := clampNat 1 most (b 6)
          tStride := clampNat 1 32 (b 6)
          vStride := clampNat 1 64 (b 7)
          dwell := clampNat 16 34 (b 8)
          errLimit := max 1 (cmdField e 26 2)
          window := min 15 (cmdField e 28 4)
          offset := cmdField e 32 8 / 64 * 64
          since := s.elapsed }

/-- Whether the Axis or eye of a job is one it may name (R227). -/
def State.axisOk (s : State) (j : Job) : Bool :=
  if j.kind = 1 then decide (j.axis ≤ 3)
  else if j.kind = 2 then !pam4Slot (s.rd (LCH_FOM.RATE_SLOT j.half)) || decide (j.axis ≤ 2)
  else true

/-- Whether a data-method job needs DATA_ON_DATA on its receiver now (R232). -/
def State.needsOnData (s : State) (j : Job) : Bool :=
  j.dataMethod && (!s.isSeg j.side || (match s.rxLogical j.side j.half with
    | some l => decide (l < s.width j.side)
    | none => false))

/-- Whether a Slice has the permissions that a job needs now (R232). -/
def State.permits (s : State) (j : Job) : Bool :=
  if j.kind = 1 then
    if j.dataMethod then s.bit (ENG_PERMIT.MARGIN_DATA j.slice) && (!s.needsOnData j || s.bit (ENG_PERMIT.DATA_ON_DATA j.slice))
    else s.bit (ENG_PERMIT.MARGIN_SAMPLER j.slice)
  else if j.kind = 2 then s.bit (ENG_PERMIT.EYE_SCAN j.slice)
  else true

/-- What R231 finds at submission: none to queue the job, else the code it ends with at once; where both apply, BAD_TARGET (DESIGN
CHOICE, log entry 134). -/
def State.refuseJob (s : State) (j : Job) : Option Nat :=
  if !s.axisOk j ∨ (2 ≤ j.kind ∧ s.windowRoom j.slice j.window < j.offset + s.resultBytes j) then some 2
  else if !(s.sees j.slice (j.side / 2)) ∨ !s.permits j then some 1
  else none

/-! ## Starting and moving (R59, R228, R235) -/

/-- Whether a receiver hears the only ready spare of its side (R177). -/
def State.onlySpare (s : State) (q h : Nat) : Bool :=
  s.isSeg q && s.segState q == sACTIVE && (match s.readySpares q with
    | [l] => s.rxLogical q h == some l
    | _ => false)

/-- The start conditions of R235. -/
def State.mayStart (s : State) (j : Job) : Bool :=
  if j.kind ≤ 2 then
    let r := s.rd (LCH_FOM.RATE_SLOT j.half)
    (if s.isSeg j.side then s.segState j.side == sACTIVE
      else s.trn (j.side / 2) == tACTIVE && decide (3 ≤ r) && decide (r ≤ 6)) &&
    (s.rd (LCH_FOM.ADAPT_STATE j.half) == 4 || s.rd (LCH_FOM.ADAPT_STATE j.half) == 5) && s.bit (LCH_FOM.LOCK j.half) &&
    (s.half j.half).run.isNone && (s.half j.half).margin.isNone && (s.half j.half).marginWait.isNone &&
    !s.onlySpare j.side j.half
  else s.tileState (tileOfHalf j.half) == 2

/-- Where a step of a job that holds a receiver puts its error sampler, in 1/64 UI and 5 mV steps (R228). -/
def Job.place (j : Job) : Int × Int :=
  if j.kind = 1 then
    let n : Int := j.done + 1
    if j.axis = 0 then (-n, 0) else if j.axis = 1 then (n, 0) else if j.axis = 2 then (0, n) else (0, -n)
  else (-32 + (j.tStride : Int) * (j.done % eyeColumns j.tStride : Nat), 63 - (j.vStride : Int) * (j.done / eyeColumns j.tStride : Nat))

/-- The receiver of a job moved for its next step. The window in progress of one that the data method takes is abandoned, with the limits
held for it (R59, R65). -/
def State.moveRx (s : State) (j : Job) : State :=
  if j.kind ≤ 2 then s.upH j.half (fun x => { x with
    moved := some ⟨j.place.1, j.place.2, j.dataMethod⟩, limits := if j.dataMethod then none else x.limits })
  else s

/-- A step is charged and begins (R233, R234, R248). -/
def State.payStep (s : State) (k : Nat) (j : Job) : State :=
  let t := (s.upSl j.slice (fun x => { x with balance := x.balance - 1 })).wrapUp (ENG_CNT.STEPS k)
  (t.upE k (fun e => { e with slot := some { j with paid := true, count := 0 }, jobs := true })).moveRx j

/-! ## Results (R229, R230, R238, R240) -/

/-- `n` bytes of an integer, little-endian. -/
def leInt (n : Nat) (v : Int) : List Nat := (leBytes n (ofSigned (8 * n) v)).map BitVec.toNat
def leNum (n v : Nat) : List Nat := (leBytes n v).map BitVec.toNat

/-- A COUNTER_SWEEP record of a receiver (R229). -/
def State.sweepRecord (s : State) (h : Nat) : List Nat :=
  leNum 4 (s.word (LCH_FOM.fields h)) ++ leNum 4 (s.word (LCH_RX_EQ.fields h)) ++ leNum 4 (s.word (LCH_SEG_FEC.fields h)) ++
  leNum 4 (s.word (LCH_LANE_FAULT.fields h)) ++ leNum 4 (s.word (LCH_DP_STATUS.fields h)) ++
  leNum 4 (s.word (CAL_RX.fields h)) ++ leNum 8 s.nowNs

/-- A SNAPSHOT_READ record of a receiver, from what a state holds of it (R229). -/
def State.snapRecord (s : State) (h : Nat) : List Nat :=
  let c := (s.half h).coef
  (List.range 16).flatMap (fun i => leInt 2 (c.ffe.getD i 0)) ++ leInt 2 c.h1 ++
  (List.range 3).flatMap (fun i => leInt 2 (c.levels.getD i 0)) ++ leNum 2 (s.rd (LCH_RX_EQ.CTLE h)) ++ leNum 2 c.vga ++
  leInt 2 c.cdrPhase ++ leInt 2 c.freqInt ++
  (List.range 52).flatMap (fun i => leInt 1 ((s.half h).applied.vals.getD i 0)) ++ List.replicate 12 0 ++ leNum 8 s.nowNs ++
  List.replicate 136 0

/-- The record that SNAPSHOT_READ writes: of now, or with LATCHED of the latest latch, zeros where its tile was not
latched (R229, R383). -/
def State.snapshotOf (s : State) (j : Job) (h : Nat) : List Nat :=
  if j.latched then
    if bitAt (s.rd SNP_STATUS.TILES_LATCHED) (tileOfHalf h) then
      ({ s with regs := s.snap.regs, halves := s.snap.halves, now := s.snap.now } : State).snapRecord h
    else List.replicate 256 0
  else s.snapRecord h

/-- What the step just completed gives, as result bytes (R228, R229). -/
def State.stepResult (s : State) (j : Job) (count : Nat) : List Nat :=
  if j.kind = 2 then leNum 2 (min count 65535)
  else if j.kind = 3 then (((s.targets j).drop (4 * j.done)).take 4).flatMap s.sweepRecord
  else if j.kind = 4 then
    if j.done % 2 = 1 then (((s.targets j).drop (j.done / 2)).take 1).flatMap (s.snapshotOf j) else []
  else []

/-- Whether the function can take a job's result writes and its completion now (R240, R304): its Slice's requests are not held, staging
is not full, and the completion need not wait on behalf of a Slice with 512 events waiting (R336). -/
def State.canWrite (s : State) (j : Job) : Bool :=
  !s.sliceHeld j.slice && decide (s.staged.length < 8192) &&
  (decide (s.stagedOf j.slice < 512) || match s.routeTo j.slice (some j.evRing) with
    | some r => !s.mustStage j.slice r.1
    | none => true)

/-- A job's result bytes leave for its window as far as it is mapped; what does not fit is dropped (R238, R240). -/
def State.writeResults (s : State) (j : Job) : State × Job :=
  if j.unwritten.isEmpty then (s, j)
  else
    let room := s.windowRoom j.slice j.window - j.offset
    let fit := j.unwritten.take room
    let j1 : Job := { j with unwritten := [], written := fit.length, dropped := decide (fit.length < j.unwritten.length) }
    if fit.isEmpty then (s, j1)
    else (State.granary fit.length s j.slice j.window j.offset false fit, j1)

/-- A restored job ends (R236, R238): its results are written and its completion arises; the slot is free. A job whose
writes cannot proceed keeps its results and its slot (R240), also while completions and events that go first are ready (R374); one that
waits for a full staging store sets STAGING_FULL (R304). -/
def State.finishJob (s : State) (k : Nat) (j : Job) : State :=
  if j.silent then (s.upE k (fun e => { e with slot := none })).showJob k 0
  else if !s.canWrite j ∨ s.eventReady then
    ((if 8192 ≤ s.staged.length then s.on GLB_MGMT_STATUS.STAGING_FULL else s).upE k (fun e => { e with slot := some j })).showJob k 4
  else
    let r := s.writeResults j
    let code := match r.2.cause with
      | some c => c
      | none => if r.2.dropped then 7 else 0
    ((r.1.upE k (fun e => { e with slot := none })).showJob k 0).endJob r.2 code

/-- Jobs that hold results finish where the writes can proceed now (R240, R305). -/
def State.releaseJobs (s : State) : State :=
  s.each (s.engines.entries.map Prod.fst) (fun t k =>
    match (t.engine k).slot with
    | some j => if t.jobState k = 4 then t.finishJob k j else t
    | none => t)

end Sys2Proof.Machine
end

