-- ==== Sys2Proof/Machine/Engines.lean ====
section
/-! DEFINITION. The commands of the lane engines and their jobs (08). -/

namespace Sys2Proof.Machine

/-- Whether fault response is ready for a receiver (08, Table 1): a warm start that its Port has requested and its signal permits, a
readiness check, or the switch of a direction that it receives or sends. -/
def State.faultWork (s : State) (h : Nat) : Bool :=
  let x := s.half h
  (x.wantRx && decide (0 < x.warmLeft) && s.rd (LCH_FOM.ADAPT_STATE h) == 0 && s.bit (LCH_FOM.SIGDET h)) ||
  match s.claim h with
  | some q => s.isSeg q && ((s.segState q == sACTIVE && (match s.rxLogical q h with
        | some l => decide (s.width q ≤ l) && (s.seg q).spareReady.contains l != (s.spareFit h && !x.retired)
        | none => false)) ||
      (s.seg q).switchDue || (s.seg (otherSide q)).switchDue)
  | none => false
/-- Whether a receiver is in TRACK or FROZEN. -/
def State.tracking (s : State) (h : Nat) : Bool := s.rd (LCH_FOM.ADAPT_STATE h) == 4 || s.rd (LCH_FOM.ADAPT_STATE h) == 5

/-- The priority of the own work of an engine that its receivers' states make ready (08, Table 1): 1 to 3, or 0 for none. -/
def State.ownPriority (s : State) (k : Nat) : Nat :=
  if (engineRx k).any s.faultWork then 1
  else if (engineRx k).any s.adapting then 2
  else if (engineRx k).any (fun h => (s.half h).run.isSome) || ((s.engine k).slot.isSome && s.jobState k == 3) then 3
  else 0
/-- Whether own work of priorities 1 to 4 is ready or has begun on an engine (R225, R234). -/
def State.ownWork (s : State) (k : Nat) : Bool :=
  s.ownPriority k != 0 || (decide (1 ≤ (s.engine k).work) && decide ((s.engine k).work ≤ 4))

/-- ENGINE_STEP_END (R225, R226): the engine starts the ready step of the highest priority. Whether upkeep of a receiver in TRACK or
FROZEN is ready then, the spec leaves open: a free value says (DESIGN CHOICE, log entry 104). Of the ten steps of an epoch upkeep
takes no more than three while no receiver acquires and no run is under way. -/
def execEngineStepEnd (k : EngineId) (s : State) : Host.Outcome State Fault Refusal :=
  let p := s.ownPriority k
  let job := if (s.engine k).slot.isSome then 5 else 0
  .next (if s.rd (ENG_STATUS.STATE k) ≠ engRunning then s
    else if p ≠ 0 then s.upE k (fun e => { e with work := p })
    else if (engineRx k).any s.tracking ∧ (!s.restful k ∨ (s.engine k).upkeep < 3) then
      (s.takeFree).2.upE k (fun e =>
        if s.takeFree.1 % 2 = 1 then { e with work := 4, upkeep := e.upkeep + 1 } else { e with work := job })
    else s.upE k (fun e => { e with work := job }))

/-! ## Epochs (R233, R339) -/

/-- A Slice's balance set to its allotment, which becomes what SLC_SHARE holds (R233, R339). -/
def State.newEpoch (s : State) (k : Nat) : State :=
  let n := s.rd (SLC_SHARE.TOKENS k)
  let t := s.upSl k (fun _ => { balance := n, tokens := n })
  if (s.slicex k).tokens = n then t else t.shareChanged k

/-- The greatest LOAD that the epoch that ends allows an engine (R226, R246): 30 with all its receivers at rest throughout, less than
100 if a job step took part of it. -/
def State.loadMost (s : State) (k : Nat) : Nat :=
  if (s.engine k).quiet && s.restful k then 30 else if (s.engine k).jobs then 99 else 100

/-- An epoch ends for an engine (R246): LOAD is what it measured, a free value up to the most that it may be (DESIGN CHOICE, log
entry 12), and 0 for an engine that did not run. -/
def State.engineEpoch (s : State) (k : Nat) : State :=
  let up := s.rd (ENG_STATUS.STATE k) == engRunning
  if up || (s.engine k).ran then
    ((s.takeFree).2.wr (ENG_STATUS.LOAD k) (s.takeFree.1 % (s.loadMost k + 1))).upE k (fun e =>
      { e with quiet := s.restful k, upkeep := 0, ran := up, jobs := up && e.work == 5 })
  else s.wr (ENG_STATUS.LOAD k) 0

/-- EPOCH_START (R226, R233, R246, R339): where the central tile runs, an epoch begins at the next whole multiple of 10,000 ns. -/
def execEpochStart (s : State) : Host.Outcome State Fault Refusal :=
  let n := max (s.tim.epoch + 1) (s.nowNs / 10000)
  let s1 := (s.fabricTo (n * 10000 * nsUnit)).upTim (fun x => { x with epoch := n })
  let s2 := s1.each ((List.range 256).filter (fun k => s1.sliceState k != slFREE)) State.newEpoch
  .next (if s.awake then s2.each (List.range 128) State.engineEpoch else s)

/-! ## Dispatch and steps (R228, R234, R236) -/

/-- The job that R234 finds: Slices in ascending number after the one last served; within one, the first in submission
order that may start, while its balance covers a step. -/
def State.pickJob (s : State) (k : Nat) : Option Job :=
  let e := s.engine k
  let order := (List.range 256).map (fun i => (e.lastSlice + 1 + i) % 256)
  order.findSome? (fun j =>
    if (s.slicex j).balance = 0 then none
    else e.queue.find? (fun x => x.slice == j && s.mayStart x))

/-- A free engine takes the next job (R234); one that has come to lack a permission it needs ends with DENIED (R232),
and the next is sought. -/
def State.dispatch (s : State) (k : Nat) : Nat → State
  | 0 => s
  | n + 1 =>
    match s.pickJob k with
    | none => s
    | some j =>
      let t := s.upE k (fun e => { e with queue := e.queue.erase j })
      if s.permits j then
        ((((t.upE k (fun e => { e with slot := some j, lastSlice := j.slice })).payStep k j).showJob k 1).showOf j.half)
      else (t.endJob j 1).dispatch k n

/-- JOB_DISPATCH (R226, R232, R234, R235, R177, R245): the engine has no own work, and takes a job; or a job that could
not pay for its next step goes on. -/
def execJobDispatch (k : EngineId) (s : State) : Host.Outcome State Fault Refusal :=
  .next (if s.rd (ENG_STATUS.STATE k) ≠ engRunning ∨ s.bit ENG_CTRL.SLICE_JOBS_OFF ∨ s.ownWork k then s
    else match (s.engine k).slot with
      | some j => if s.jobState k = 1 ∧ !j.paid ∧ 0 < (s.slicex j.slice).balance then s.payStep k j else s
      | none => s.dispatch k ((s.engine k).queue.length + 1))

/-- A step of a job is complete with a count (R228, R230): what it measured is kept, and the next step is paid for,
waits for tokens or own work, or there is none and the receiver is restored. The last step below the error limit is MARGIN's: for the
other kinds bytes 4 to 5 of the inline result are 0 (DESIGN CHOICE, log entry 135). -/
def State.stepDone (s : State) (k : Nat) (j : Job) (count : Nat) : State :=
  let j1 : Job := { j with
    done := j.done + 1
    count := 0
    paid := false
    lastErr := count
    lastPass := if j.kind = 1 ∧ count < j.errLimit then j.done + 1 else j.lastPass
    unwritten := j.unwritten ++ s.stepResult j count }
  let t := s.upE k (fun e => { e with slot := some j1 })
  if s.stepsOf j ≤ j1.done ∨ (j.kind = 1 ∧ j.errLimit ≤ count) then t.showJob k 3
  else if 0 < (s.slicex j.slice).balance ∧ !s.ownWork k then t.payStep k j1
  else t

/-- SAFE_POINT (R228, R234, R236, R238, R240): the end of a step's engine work or of a dwell segment. A stopping job
moves to RESTORING; a data-method step in which a calibration set took effect is measured again. -/
def execSafePoint (k : EngineId) (r : StepResult) (s : State) : Host.Outcome State Fault Refusal :=
  match (s.engine k).slot with
  | none => .next s
  | some j =>
    .next (if s.jobState k = 2 then s.showJob k 3
      else if s.jobState k ≠ 1 ∨ !j.paid then s
      else if !r.complete then s.upE k (fun e => { e with slot := some { j with count := j.count + r.errors } })
      else if j.again then s.upE k (fun e => { e with slot := some { j with again := false, count := 0 } })
      else s.stepDone k j (j.count + r.errors))

/-- RESTORE_DONE (R59, R121, R229, R230, R236 to R240): the receiver is restored, a standard margining step that waited
takes the sampler, and the job ends. -/
def execRestoreDone (k : EngineId) (s : State) : Host.Outcome State Fault Refusal :=
  match (s.engine k).slot with
  | none => .next s
  | some j =>
    .next (if s.jobState k ≠ 3 then s
      else
        let s1 := s.restoreRx j.half
        let s2 := match (s.half j.half).marginWait with
          | some m => s1.serveMargin j.half m
          | none => s1
        (s2.finishJob k j).showOf j.half)

/-- WAIT_EXPIRED (R235, R238, R248): the job that has been queued longest. -/
def execWaitExpired (k : EngineId) (s : State) : Host.Outcome State Fault Refusal :=
  match (s.engine k).queue with
  | [] => .next s
  | j :: rest =>
    let s1 := (s.advanceTo (j.since + s.rd ENG_CTRL.WAIT_LIMIT * 1000 * usUnit)).upE k (fun e => { e with queue := rest })
    .next ((s1.satUp (ENG_CNT.EXPIRED k)).endJob j 3)

/-! ## Faults and reloads (R241 to R244, R266) -/

/-- An engine halted (R242, steps 1 and 2, R59, R243): its samplers rest, its FoMs are not valid, and the job in its slot
ends with a code. -/
def State.haltEngine (s : State) (k code : Nat) : State :=
  let s1 := s.each (engineRx k) (fun t h =>
    (((t.restoreRx h).upH h (fun x => { x with margin := none, marginWait := none, limits := none })).off (LCH_FOM.FOM_VALID h)).wr (LCH_FOM.FOM h) 0)
    |>.upE k (fun e => { e with work := 0, kept := (engineRx k).filter s.tracking })
  match (s1.engine k).slot with
  | some j => if s1.jobState k = 4 then s1 else s1.finishJob k { j with cause := some (j.cause.getD code) }
  | none => s1

/-- What an engine's halt changes of the sides its receivers are on: their spares are not ready (R176, R243). -/
def State.showEngine (s : State) (k : Nat) : State :=
  s.each ((engineRx k).filterMap s.claim).dedup (fun t q => if t.isSeg q && t.segState q == sACTIVE then t.showSide q else t)

/-- ENGINE_FAULT (R241 to R244): the engine is reloaded, or disabled after FAULT_LIMIT faults within 1 s. -/
def execEngineFault (k : EngineId) (s : State) : Host.Outcome State Fault Refusal :=
  .next (if s.rd (ENG_STATUS.STATE k) ≠ engRunning then s
    else
      let times := s.elapsed :: (s.engine k).faultsAt.filter (fun t => decide (s.elapsed < t + 1000000 * usUnit))
      let out := decide (s.rd ENG_CTRL.FAULT_LIMIT ≤ times.length)
      let s1 := ((s.haltEngine k 6).satUp (ENG_STATUS.FAULTS k)).upE k (fun e => { e with faultsAt := times })
      let s2 := s1.wr (ENG_STATUS.STATE k) (if out then engDisabled else engRestarting)
      let s3 := (s2.each (engineRx k) State.abortRun).raiseDev 0x0D k 0xFF (if out then 2 else 1)
      s3.showEngine k)

/-- The reload of the engine firmware goes on with the first running engine from one on, or is complete (R266). -/
def State.swapFrom (s : State) (k : Nat) : State :=
  match (List.range 128).find? (fun j => decide (k ≤ j) && s.rd (ENG_STATUS.STATE j) == engRunning) with
  | some j =>
    let t := (((s.haltEngine j 4).wr (ENG_STATUS.STATE j) engRestarting).each (engineRx j) State.abortRun).showEngine j
    t.setImgOp (some (.swap j))
  | none =>
    let t := ((s.wr IMG_STATUS.ENG_FW_SLOT (match s.lastWritten with
      | some b => 1 + ofBool b
      | none => s.rd IMG_STATUS.ENG_FW_SLOT)).wr IMG_STATUS.CMD_RESULT 1).off IMG_STATUS.CMD_BUSY
    (t.setImgOp none).deviceQuiet

/-- What a restart of its engine does for a receiver (R242, R243): one in TRACK or FROZEN since before the fault goes on from its held
coefficients, and the previous set of a run that was withdrawn takes effect; one in an earlier state, of which reception is asked,
makes a warm start. -/
def State.resumeRx (s : State) (k h : Nat) : State :=
  let x := s.half h
  let t := match if x.pendingBack then x.pendingSet else none with
    | some (c, temp) => s.applySet h c temp
    | none => s
  if !x.wantRx ∨ (s.tracking h ∧ (s.engine k).kept.contains h) then t else t.requestRx h true

/-- ENGINE_RESTART_DONE (R242, R243, R266): the receivers go on or make warm starts. During SWAP_FW the next engine follows. -/
def execEngineRestartDone (k : EngineId) (s : State) : Host.Outcome State Fault Refusal :=
  .next (if s.rd (ENG_STATUS.STATE k) ≠ engRestarting then s
    else
      let s1 := (s.runEngine k).each (engineRx k) (fun t h => t.resumeRx k h)
      let s2 := (s1.upE k (fun e => { e with kept := [] })).showEngine k
      match s.imgOp with
      | some (.swap j) => if j = k then s2.swapFrom (k + 1) else s2
      | _ => s2)

/-! ## Permissions (R232, R245) -/

/-- ENG_PERMIT of a Slice written: the jobs that need a permission now cleared end with DENIED, running ones at their next
safe point (R232, R238). -/
def State.setPermits (s : State) (k value : Nat) : State :=
  let s1 := s.storeWord (ENG_PERMIT.fields k) value
  let cut (c : Cell) : Bool := s.bit c && !s1.bit c
  let lost (j : Job) : Bool := j.slice == k && (
    if j.kind = 1 then
      (if j.dataMethod then cut (ENG_PERMIT.MARGIN_DATA k) || (s.needsOnData j && cut (ENG_PERMIT.DATA_ON_DATA k))
       else cut (ENG_PERMIT.MARGIN_SAMPLER k))
    else j.kind == 2 && cut (ENG_PERMIT.EYE_SCAN k))
  (s1.endQueued lost 1).stopRunning lost 1

/-- ENG_PERMIT_WRITE (R232, R238, R247). -/
def execEngPermitWrite (k : SliceId) (value : Nat) (s : State) : Host.Outcome State Fault Refusal :=
  .next (s.hostWrite (fun s => s.setPermits k value))

/-- SLICE_JOBS_OFF_WRITE (R238, R245). -/
def execSliceJobsOffWrite (v : Bool) (s : State) : Host.Outcome State Fault Refusal :=
  .next (s.hostWrite (fun s =>
    if v then (s.on ENG_CTRL.SLICE_JOBS_OFF).stopRunning (fun _ => true) 4 else s.off ENG_CTRL.SLICE_JOBS_OFF))

/-! ## The command that submits a job -/

/-- JOB_SUBMIT (R227, R231, R232, R234, R328): taken while the Slice has fewer than 64 jobs; the job is queued on the
engine that serves its target, or ends at once. -/
def execJobSubmit (k : SliceId) (i : RingId) (s : State) : Host.Outcome State Fault Refusal :=
  .next (s.command k i 1 (decide (s.jobCount k < 64)) (fun t idx e =>
    let out (code : Nat) : State := t.reply k i idx e 4 ([code, byteAt e 16] ++ List.replicate 14 0) none
    match t.parseJob k i idx e with
    | none => out 2
    | some j =>
      match t.refuseJob j with
      | some code => out code
      | none => t.upE (engineOf j.half) (fun x => { x with queue := x.queue ++ [j] })))

end Sys2Proof.Machine
end

