-- ==== Sys2Proof/Machine/Slices.lean ====
section
/-! DEFINITION. The commands of Slices and Rings (11), and the publication of Port mirrors (15). -/

namespace Sys2Proof.Machine

/-! ## Creating, resetting and destroying (R314 to R318, R341, R342) -/

/-- SLC_STATUS.RESULT set (R345). -/
def State.sliceResult (s : State) (k n : Nat) : State := s.wr (SLC_STATUS.RESULT k) n

/-- Whether a base lies inside a range. -/
def insideRange (b : Nat) (r : Nat × Nat) : Bool := decide (r.1 ≤ b) && decide (b < r.1 + r.2)

/-- CREATE (R314 to R316). -/
def State.createSlice (s : State) (k : Nat) : State :=
  if s.sliceState k ≠ slFREE then s.sliceResult k 2
  else if k ≠ 0 ∧ !s.mgmt.pasid then s.sliceResult k 3
  else if (s.otherSlices k).any (fun j => s.rd (SLC_CTRL.PASID j) == s.rd (SLC_CTRL.PASID k)) then s.sliceResult k 4
  else if (s.rd (SLC_RINGS.COUNT k) ≠ 0 ∧ (s.ringRanges k).any (insideRange (s.rd (SLC_RINGS.BASE k)))) ∨
      (s.rd (SLC_VECTORS.COUNT k) ≠ 0 ∧ (s.vectorRanges k).any (insideRange (s.rd (SLC_VECTORS.BASE k)))) then
    s.sliceResult k 5
  else
    ((((((s.wr (SLC_RINGS.COUNT k) (min (s.rd (SLC_RINGS.COUNT k)) (s.maxRings k))).wr (SLC_VECTORS.COUNT k)
      (min (s.rd (SLC_VECTORS.COUNT k)) (s.maxVectors k))).wr (SLC_SHARE.TOKENS k)
      (min (s.rd (SLC_SHARE.TOKENS k)) (s.maxTokens k))).wr (SLC_SHARE.GRANULES k)
      (min (s.rd (SLC_SHARE.GRANULES k)) (s.maxGranules k))).activate k).sliceResult k 1)

/-- CREATE (R314 to R316): refused for the first reason that applies, else the counts are clamped and the Slice is
ACTIVE. -/
def execCreate (k : SliceId) (s : State) : Host.Outcome State Fault Refusal :=
  .next (s.hostCmd (fun s => s.createSlice k))

/-- A Slice enters RESETTING (R341). -/
def State.resetSlice (s : State) (k : Nat) : State := ((s.wr (SLC_STATUS.STATE k) slRESETTING).quietSlice k).releaseJobs

/-- RESET of SLC_CTRL (R315, R341). -/
def State.askReset (s : State) (k : Nat) : State :=
if s.sliceState k = slACTIVE then (s.sliceResult k 1).resetSlice k else s.sliceResult k 2

/-- SLICE_RESET (R315, R341). -/
def execSliceReset (k : SliceId) (s : State) : Host.Outcome State Fault Refusal :=
  .next (s.hostCmd (fun s => s.askReset k))

/-- SLC_SELF_CTRL.RESET (R315, R341). -/
def State.selfReset (s : State) (k : Nat) : State :=
if s.sliceState k = slACTIVE then s.resetSlice k else s

/-- SELF_RESET (R315, R341): the Slice's own write; a window takes it only while the Slice is ACTIVE. -/
def execSelfReset (k : SliceId) (s : State) : Host.Outcome State Fault Refusal :=
  .next (s.hostCmd (fun s => s.selfReset k))

/-- A Slice enters DESTROYING (R341). -/
def State.destroySlice (s : State) (k : Nat) : State :=
  ((s.wr (SLC_STATUS.STATE k) slDESTROYING).off (SLC_STATUS.DESTROY_PENDING k)).quietSlice k |>.releaseJobs

/-- DESTROY (R315, R317). -/
def State.askDestroy (s : State) (k : Nat) : State :=
  if k = 0 then s.sliceResult k 6
  else if s.sliceState k = slACTIVE then (s.sliceResult k 1).destroySlice k
  else if s.sliceState k = slRESETTING then (s.sliceResult k 1).on (SLC_STATUS.DESTROY_PENDING k)
  else s.sliceResult k 2

/-- DESTROY (R315, R317): S0 is fixed; in RESETTING the destruction waits for the reset's end. -/
def execDestroy (k : SliceId) (s : State) : Host.Outcome State Fault Refusal :=
  .next (s.hostCmd (fun s => s.askDestroy k))

/-- RESET_DONE (R342): no job of an older generation is left; S0 is told, and the Slice is ACTIVE, or DESTROYING where a
DESTROY waits. -/
def execResetDone (k : SliceId) (s : State) : Host.Outcome State Fault Refusal :=
  .next (if s.awake ∧ s.sliceState k = slRESETTING ∧ !s.oldJobs k then
      let s1 := ((s.on (SLC_STATUS.RESET_DONE k)).on (SLC_SELF_STATUS.RESET_DONE k)).wr (SLC_STATUS.STATE k) slACTIVE
      let s2 := s1.sliceEvent 0 k 1 noResult
      if s.bit (SLC_STATUS.DESTROY_PENDING k) then s2.destroySlice k else s2
    else s)

/-- DESTROY_DONE (R317, R318). -/
def execDestroyDone (k : SliceId) (s : State) : Host.Outcome State Fault Refusal :=
  .next (if s.awake ∧ s.sliceState k = slDESTROYING ∧ !s.oldJobs k then s.freeSlice k true else s)

/-! ## Changing a share (R338 to R340, R319) -/

/-- The least counts of an ACTIVE Slice (11, Table 1). -/
def State.leastRings (s : State) (k : Nat) : Nat := ((s.enabledRings k).map (fun i => i + 1)).foldl max 0
def State.leastVectors (s : State) (k : Nat) : Nat :=
  ((s.enabledRings k).map (fun i => s.rd (RNG_CTRL.VECTOR k i) + 1)).foldl max 0

/-- A resource register of a Slice written (R313, R338, R339). -/
def State.shareWrite (s : State) (k : Nat) (reg : ShareReg) (value : Nat) : State :=
  let told (t : State) (c : Cell) : State := if t.rd c = s.rd c then t else t.shareChanged k
  if s.sliceState k = slFREE then
    match reg with
    | .rings => s.storeWord (SLC_RINGS.fields k) value
    | .vectors => s.storeWord (SLC_VECTORS.fields k) value
    | .share => s.storeWord (SLC_SHARE.fields k) value
  else if s.sliceState k ≠ slACTIVE then s
  else match reg with
    | .rings => told (s.wr (SLC_RINGS.COUNT k) (clampNat (s.leastRings k) (s.maxRings k) (bitsOf value 0 11))) (SLC_RINGS.COUNT k)
    | .vectors => told (s.wr (SLC_VECTORS.COUNT k) (clampNat (s.leastVectors k) (s.maxVectors k) (bitsOf value 0 12)))
        (SLC_VECTORS.COUNT k)
    | .share =>
      told ((s.wr (SLC_SHARE.TOKENS k) (min (bitsOf value 18 10) (s.maxTokens k))).wr (SLC_SHARE.GRANULES k)
        (clampNat (s.granulesHeld k) (s.maxGranules k) (bitsOf value 0 17))) (SLC_SHARE.GRANULES k)

/-- SHARE_WRITE (R313, R338, R339): the written register's counts are clamped; all but TOKENS take effect at once, and
SHARE_CHANGED follows a change. In FREE each field is held to its own range (R7, R314, R315). -/
def execShareWrite (k : SliceId) (reg : ShareReg) (value : Nat) (s : State) : Host.Outcome State Fault Refusal :=
  .next (s.hostWrite (fun s => s.shareWrite k reg value))

/-- One half of a Slice's visibility set written: its jobs on a removed Port end with DENIED, and its Winnows there are
released (R340, R369). -/
def State.setVisible (s : State) (k hi value : Nat) : State :=
  let s1 := s.wr (SLC_PORTS.PORTS k hi) value
  let gone (p : Nat) : Bool := s.sees k p && !s1.sees k p
  let lost (j : Job) : Bool := j.slice == k && gone (j.side / 2)
  ((s1.endQueued lost 1).stopRunning lost 1).releaseOwned k (fun w => gone (w / 2))

/-- VISIBILITY_REMOVE (R340, R369). -/
def execVisibilityRemove (k : SliceId) (hi : Bool) (value : Nat) (s : State) : Host.Outcome State Fault Refusal :=
  .next (s.hostWrite (fun s => s.setVisible k (ofBool hi) value))

/-- PASID Enable given a value (R284, R319): every Slice but S0 is held as R303 holds all, or resumes as R305 states. -/
def State.setPasid (s : State) (v : Bool) : State :=
  let s1 := s.upM (fun m => { m with pasid := v })
  let other (u : ReadFor) : Bool := match u with
    | .ring a _ _ _ | .granules a _ _ | .dropped a => a != 0
    | _ => false
  if v ∧ !s.mgmt.pasid then (if s1.held then s1 else (s1.resume (fun k => k != 0)).releaseJobs)
  else if !v ∧ s.mgmt.pasid then s1.voidReads other
  else s1

/-- PASID_ENABLE_CHANGE (R284, R319): a configuration write. -/
def execPasidEnableChange (v : Bool) (s : State) : Host.Outcome State Fault Refusal := .next (s.configAsk (fun s => s.setPasid v))

/-! ## Rings (R322 to R325, R336) -/

/-- Whether a window's local Ring takes writes (R315, R320). -/
def State.ringHere (s : State) (k i : Nat) : Bool := s.sliceActive k && decide (i < s.rd (SLC_RINGS.COUNT k))

/-- INT_EN and VECTOR of RNG_CTRL, which may be written at any time; VECTOR is clamped to the Slice's vectors (R322). -/
def State.ringVector (s : State) (k i ctrl : Nat) : State :=
  (s.wr (RNG_CTRL.INT_EN k i) (bitsOf ctrl 28 1)).wr (RNG_CTRL.VECTOR k i) (min (bitsOf ctrl 0 11) (s.rd (SLC_VECTORS.COUNT k) - 1))
/-- KIND and SIZE_LOG2 of RNG_CTRL, written while the Ring is not enabled (R322). -/
def State.ringShape (s : State) (k i ctrl : Nat) : State :=
  (s.wr (RNG_CTRL.KIND k i) (bitsOf ctrl 29 1)).wr (RNG_CTRL.SIZE_LOG2 k i) (clampNat 4 16 (bitsOf ctrl 20 4))

/-- The staged events of a Slice go where R335 sends them now, and the jobs that waited for them finish (R335, R336, R240). -/
def State.reroute (s : State) (k : Nat) : State := (s.flushFor (fun e => e.slice == k)).releaseJobs

/-- RNG_CTRL written with ENABLE at 1 (R322, R323). -/
def State.ringEnable (s : State) (k : Nat) (i : Nat) (ctrl : Nat) : State :=
  if !s.ringHere k i then s
  else if s.ringState k i ≠ rDISABLED then s.ringVector k i ctrl
  else ((((((((s.ringVector k i ctrl).ringShape k i ctrl).on (RNG_CTRL.ENABLE k i)).wr (RNG_POS.HEAD k i) 0).wr
    (RNG_POS.TAIL k i) 0).on (RNG_STATUS.PHASE k i)).wr (RNG_STATUS.STATE k i) rACTIVE).upR k i (fun r => { r with
      fetched := [], next := 0 })).reroute k

/-- RING_ENABLE (R322, R323, R335, R336): a Ring that is enabled already takes INT_EN and VECTOR only; events that waited go to it where
it is the one they name. -/
def execRingEnable (k : SliceId) (i : RingId) (ctrl : Nat) (s : State) : Host.Outcome State Fault Refusal :=
  .next (s.hostWrite (fun s => s.ringEnable k i ctrl))

/-- Reads outstanding or queued for a Ring lose their use (R324). -/
def State.dropFetch (s : State) (k i : Nat) : State :=
  (s.setTags ⟨s.tags.entries.map (fun e => (e.1, match e.2 with
    | .outstanding (.ring a b n c) since => if a = k ∧ b = i then .outstanding (.dropped k) since else .outstanding (.ring a b n c) since
    | o => o))⟩).upM (fun m => { m with
      readQueue := m.readQueue.filter (fun u => match u with
        | .ring a b _ _ => !(a == k && b == i)
        | _ => true) })

/-- RNG_CTRL written with ENABLE at 0 (R322 to R324). -/
def State.ringDisable (s : State) (k : Nat) (i : Nat) (ctrl : Nat) : State :=
  if !s.ringHere k i then s
  else if s.ringState k i = rDISABLED then (s.ringVector k i ctrl).ringShape k i ctrl
  else ((((((s.ringVector k i ctrl).off (RNG_CTRL.ENABLE k i)).wr (RNG_STATUS.STATE k i) rDISABLED).dropFetch k i).upR k i
    (fun r => { r with fetched := [] })).reroute k).deviceQuiet

/-- RING_DISABLE (R322 to R324, R335): fetching stops at once; events that waited for the Ring go where R335 sends them. -/
def execRingDisable (k : SliceId) (i : RingId) (ctrl : Nat) (s : State) : Host.Outcome State Fault Refusal :=
  .next (s.hostWrite (fun s => s.ringDisable k i ctrl))

/-- RNG_CTRL.RESUME (R323). -/
def State.ringResume (s : State) (k : Nat) (i : Nat) : State :=
  if s.ringHere k i ∧ s.rd (RNG_CTRL.KIND k i) = 0 ∧ s.ringState k i = rERROR then
    (s.wr (RNG_STATUS.STATE k i) rACTIVE).fetchRing k i
  else s

/-- RING_RESUME (R323): a command Ring leaves ERROR and fetching starts again at HEAD. -/
def execRingResume (k : SliceId) (i : RingId) (s : State) : Host.Outcome State Fault Refusal :=
  .next (s.hostWrite (fun s => s.ringResume k i))

/-- The doorbell of a command Ring (R324). -/
def State.cmdDoorbell (s : State) (k : Nat) (i : Nat) (index : Nat) : State :=
  if s.ringHere k i ∧ s.ringState k i ≠ rDISABLED ∧ s.rd (RNG_CTRL.KIND k i) = 0 then
    (s.wr (RNG_POS.TAIL k i) (index % 65536 % s.ringSize k i)).fetchRing k i
  else s

/-- CMD_DOORBELL (R323, R324, R401). -/
def execCmdDoorbell (k : SliceId) (i : RingId) (index : Nat) (s : State) : Host.Outcome State Fault Refusal :=
  .next (s.hostCmd (fun s => s.cmdDoorbell k i index))

/-- The doorbell of an event Ring (R325). -/
def State.eventDoorbell (s : State) (k : Nat) (i : Nat) (index : Nat) : State :=
  let n := s.ringSize k i
  if s.ringHere k i ∧ s.ringState k i ≠ rDISABLED ∧ s.rd (RNG_CTRL.KIND k i) = 1 ∧ index < n ∧
      (index + n - s.ringHead k i) % n ≤ (s.ringTail k i + n - s.ringHead k i) % n then
    let s1 := s.wr (RNG_POS.HEAD k i) index
    let s2 := if s1.ringState k i = rFULL ∧ !s1.ringFull k i then s1.wr (RNG_STATUS.STATE k i) rACTIVE else s1
    s2.reroute k
  else s

/-- EVENT_DOORBELL (R323, R325, R336): an index between HEAD and TAIL frees entries, and the events that waited are
written. -/
def execEventDoorbell (k : SliceId) (i : RingId) (index : Nat) (s : State) : Host.Outcome State Fault Refusal :=
  .next (s.hostCmd (fun s => s.eventDoorbell k i index))

/-! ## Posting events (R296, R304, R333 to R337, R442) -/

/-- The first event of a list that is done with is taken out; those before it wait. -/
def State.postFirst (s : State) (kept : List Ev) : List Ev → State
  | [] => s.setEvq kept
  | e :: rest =>
    let r := s.postEvent e
    if r.2 then r.1.setEvq (kept ++ rest) else r.1.postFirst (kept ++ [e]) rest

/-- EVENT_POST (R290, R296, R304, R333 to R337, R341, R374, R442, R447, R448): the oldest event whose source need not wait is
written, redirected, staged, dropped or discarded. The Ports that events still wait on are published first. Job results follow once
no event is ready to leave. -/
def execEventPost (s : State) : Host.Outcome State Fault Refusal :=
  let ports := (s.evq.filterMap (fun e => if e.state.isNone then e.port else none)).dedup
  let t := s.each ports State.publish
  .next (if s.awake then (t.postFirst [] t.evq).deviceQuiet.releaseJobs else s)

/-- MIRROR_PUBLISH (R437 to R439): the tile of an enabled Port publishes while it is ON. -/
def execMirrorPublish (p : PortId) (s : State) : Host.Outcome State Fault Refusal :=
  .next (if s.tileOn p then s.publish p else s)

/-! ## Commands of a Ring (R327 to R330, R441) -/

/-- NOP (R327). -/
def execNop (k : SliceId) (i : RingId) (s : State) : Host.Outcome State Fault Refusal :=
  .next (s.command k i 0 true (fun t idx e => t.reply k i idx e 0 noResult none))

/-- FENCE (R327, R328): taken once every command taken before it from the Ring has completed. -/
def execFence (k : SliceId) (i : RingId) (s : State) : Host.Outcome State Fault Refusal :=
  .next (s.command k i 5 ((s.ringx k i).open_ == 0) (fun t idx e => t.reply k i idx e 0 noResult none))

/-- PORT_STATUS (R327, R329, R441). -/
def execPortStatus (k : SliceId) (i : RingId) (s : State) : Host.Outcome State Fault Refusal :=
  .next (s.command k i 2 true (fun t idx e =>
    t.named k i idx e true true (fun u => u.reply k i idx e 0 noResult (some (cmdPort e)))))

/-- Whether a BAR0 offset, but for the MSI-X table and PBA, is that of a register (R289): one with fields, one that tells of a pool Ring,
or the snapshot copy of one. -/
def registerAt (x : Nat) : Bool :=
  let own (y : Nat) : Bool := !(fieldsAt y).isEmpty || (decide (0x40000 ≤ y) && decide (y < 0x80000) && y % 0x10 == 0)
  decide (x < 0xF00000) && own ((copied x).getD x)

/-- Whether READ_REG may read an offset for a Slice (R330). -/
def State.mayRead (s : State) (k x : Nat) : Bool :=
  registerAt x &&
  (k == 0 || x == 0 || x == 4 ||
   (decide (0x100000 ≤ x) && decide (x < 0x140000) && s.sees k ((x - 0x100000) / 0x1000)) ||
   (let n := if 0x200000 ≤ x then (x - 0x200000) / 0x100 else (x - 0x11000) / 8
    ((decide (0x200000 ≤ x) && decide (x < 0x210000)) || (decide (0x11000 ≤ x) && decide (x < 0x11800))) &&
    [2 * n, 2 * n + 1].any (fun h => match s.claim h with
      | some q => s.sees k (q / 2)
      | none => false)))

/-- A list of reads in ascending order (R286, R330). -/
def State.readAll (s : State) : List Nat → State × List Nat
  | [] => (s, [])
  | x :: xs =>
    let r := s.readNow x
    let rs := r.1.readAll xs
    (rs.1, r.2 :: rs.2)

/-- A command waits for a Lane Tile, which it wakes from OFF (R28, R31). -/
def State.waitTile (s : State) (k i idx : Nat) (e : List Byte) (pub : Option (List Nat)) (t : Nat) : State :=
  (s.wakeTile t).upR k i (fun r => { r with waits := r.waits ++ [(t, idx, e, pub)] })

/-- READ_REG acts (R327, R330): it waits for a tile that is waking, and then reads each register as a whole. -/
def State.readRegs (s : State) (k i idx : Nat) (e : List Byte) (pub : Option (List Nat)) : State :=
  let n := clampNat 1 4 (byteAt e 20)
  let xs := (List.range n).map (fun j => cmdField e 16 4 / 4 * 4 + 4 * j)
  if !xs.all (s.mayRead k) then s.replyAs k i idx e 2 noResult pub
  else match xs.findSome? (fun x => (s.holder x).filter s.accessWaits) with
    | some t => s.waitTile k i idx e pub t
    | none =>
      let r := s.readAll xs
      r.1.replyAs k i idx e 0 (r.2.flatMap (leNum 4) ++ List.replicate (16 - 4 * n) 0) pub

/-- READ_REG from its taking (R327, R329, R330, R441): it names a Port as every command of Table 6 that is on one does (DEDUCED, log
entry 44), and one that is to be checked is checked once, on receipt; where the Port's tile is FENCED it then takes no action, and
completes with no result (DEDUCED, log entry 132). -/
def State.runReadReg (s : State) (k i idx : Nat) (e : List Byte) : State :=
  s.named k i idx e true true (fun u =>
    if cmdCheck e then
      if u.tileState (u.tileOf (cmdPort e)) = 4 then u.reply k i idx e 0 noResult (some (cmdPort e))
      else u.readRegs k i idx e (some (u.mirrorOf (some (cmdPort e))))
    else u.readRegs k i idx e none)

/-- READ_REG (R327, R329, R330, R441). -/
def execReadReg (k : SliceId) (i : RingId) (s : State) : Host.Outcome State Fault Refusal :=
  .next (s.command k i 3 true (fun t idx e => t.runReadReg k i idx e))

/-- RETRAIN written on the sides that a PORT_RETRAIN names (R327). -/
def State.retrainSides (s : State) (p side : Nat) : State :=
  let qs := if side ≤ 1 then [2 * p + side] else sidesOf p
  let s1 := s.each (qs.filter s.isSeg) State.retrainSeg
  if qs.any (fun q => !s.isSeg q) then s1.retrainStd p else s1

/-- PORT_RETRAIN from its taking, or from the end of a wait (R327, R329, R441): the check is made in the tile that is ON;
a tile in RESET or FENCED takes no action. The completion carries the publication checked against. -/
def State.runRetrain (s : State) (k i idx : Nat) (e : List Byte) : State :=
  let p := cmdPort e
  if k = 0 ∧ p < 64 ∧ s.sees k p ∧ s.enabled p ∧ s.accessWaits (s.tileOf p) then s.waitTile k i idx e none (s.tileOf p)
  else s.named k i idx e (k == 0) true (fun u =>
    let v := u.reply k i idx e 0 noResult (some p)
    if u.tileOn p then v.retrainSides p (byteAt e 9) else v)

/-- PORT_RETRAIN (R327, R329, R441). -/
def execPortRetrain (k : SliceId) (i : RingId) (s : State) : Host.Outcome State Fault Refusal :=
  .next (s.command k i 4 true (fun t idx e => t.runRetrain k i idx e))

/-- A command that has waited for a tile goes on: a PORT_RETRAIN, with its check, or a READ_REG, whose check has been made (R441), by its
Ring and its entry. -/
def State.goOn (s : State) (k i : Nat) (w : Nat × Nat × List Byte × Option (List Nat)) : State :=
  if cmdOp w.2.2.1 = 4 then (s.tileQuiet w.1).runRetrain k i w.2.1 w.2.2.1
  else (s.tileQuiet w.1).readRegs k i w.2.1 w.2.2.1 w.2.2.2

/-- Commands that waited for a tile go on, in the order taken, once it no longer makes them wait (R28). -/
def State.resumeWaits (s : State) (t : Nat) : State :=
  s.each (s.rings.entries.map Prod.fst) (fun u x =>
    let k := x / 1024
    let i := x % 1024
    let mine := (u.ringx k i).waits.filter (fun w => w.1 == t)
    if u.accessWaits t ∨ mine = [] then u
    else
      (mine.foldl (fun v w => v.goOn k i w) (u.upR k i (fun r => { r with waits := r.waits.filter (fun w => w.1 != t) }))).drain k i 8)

end Sys2Proof.Machine
end

