-- ==== Sys2Proof/Machine/TileOps.lean ====
section
/-! DEFINITION. Writes to registers that a Lane Tile holds (01, R27 to R30; 02, R57, R63; 06, R198). -/

namespace Sys2Proof.Machine

/-- A request of PRT_TRL_CMD that meets R198 is queued, for the receiver that hears its lane. -/
def State.request (s : State) (q lane reason spare : Nat) : State :=
  let half := (s.segHalves q).find? (fun h => s.rxLogical q h == some lane)
  let it : Item := ⟨lane, reason, spare, half.getD 0, s.elapsed, 0⟩
  if s.isSeg q ∧ s.steer q = stWATCH ∧ (s.requestSpare q it).isSome then
    s.upS q (fun x => { x with queue := insertItem it x.queue })
  else s

/-- The actions of a word written to PRT_TRL_CMD (06, Table 14). -/
def State.trlCommand (s : State) (q v : Nat) : State :=
  let f (c : Cell) : Nat := bitsOf v c.lo c.width
  if f (PRT_TRL_CMD.GO q) = 0 then s
  else if f (PRT_TRL_CMD.KIND q) = 1 then s.request q (f (PRT_TRL_CMD.LANE q)) 8 (f (PRT_TRL_CMD.SPARE q))
  else if f (PRT_TRL_CMD.KIND q) = 2 then s.request q (f (PRT_TRL_CMD.LANE q)) 9 0x1F
  else s

/-- A word written to LCH_EQ_CTRL: its fields are stored, the write of FREEZE disturbs a capture (R57, R208), and
FOM_MIN_CLR acts (R63). -/
def State.eqCommand (s : State) (h v : Nat) : State :=
  let f (c : Cell) : Nat := bitsOf v c.lo c.width
  let u := (s.storeWord (LCH_EQ_CTRL.fields h) v).disturb h
  if f (LCH_EQ_CTRL.FOM_MIN_CLR h) = 1 then u.wr (LCH_FOM.FOM_MIN h) 255 else u

/-- The half-lane of a register of a Lane Channel's block. -/
def halfOfOffset (x : Nat) : Nat := 2 * ((x - 0x200000) / 0x100) + (if 0x40 ≤ x % 0x100 then 1 else 0)

/-- A RETRAIN bit written in a register of a Port that the central tile holds, as the tile takes it (R289; 04 and 05). -/
def State.retrain (s : State) (x v : Nat) : State :=
  let p := (x - 0x100000) / 0x1000
  let q := 2 * p + (if x % 0x1000 = 0x44 then 1 else 0)
  if x % 0x1000 = 0x20 then (if bitsOf v (PRT_TRN_CTRL.RETRAIN p).lo 1 = 1 then s.retrainStd p else s)
  else if bitsOf v (PRT_SEG_CTRL.RETRAIN q).lo 1 = 1 then s.retrainSeg q
  else s
/-- Whether an offset is that of a register with a RETRAIN bit. -/
def retrains (x : Nat) : Bool :=
  decide (0x100000 ≤ x) && decide (x < 0x140000) && (x % 0x1000 == 0x20 || x % 0x1000 == 0x40 || x % 0x1000 == 0x44)

/-- A whole word written to a register that a Lane Tile holds, in a tile that is ON (R4), or to a RETRAIN bit that acts there. -/
def State.tileWrite (s : State) (x v : Nat) : State :=
  if retrains x then s.retrain x v
  else if 0x200000 ≤ x then
    if keptReg x then s.eqCommand (halfOfOffset x) v else s.storeWord (fieldsAt x) v
  else if x % 0x1000 = 0x78 ∨ x % 0x1000 = 0x7C then
    s.trlCommand (2 * ((x - 0x100000) / 0x1000) + (if x % 0x1000 = 0x78 then 0 else 1)) v
  else s.storeWord (fieldsAt x) v

/-- A waiting access to a tile completes: a write acts, and a read is answered (R28 to R30). -/
def State.takeAccess (s : State) (t : Nat) (a : TileAccess) : State :=
  if s.tileState t = 2 then
    if a.isWrite then s.tileWrite a.offset a.value else s.sendUp (.readDone a.offset (s.valueAt a.offset))
  else if s.tileState t = 4 then
    if a.isWrite then (s.fencedAccess t true).keptWrite a.offset a.value
    else (s.fencedAccess t false).sendUp (.readDone a.offset 0)
  else if a.isWrite then s.keptWrite a.offset a.value
  else s.sendUp (.readDone a.offset (s.valueAt a.offset))

/-- Every access that waits for a tile completes, in order (R27, R28). -/
def State.drainAccesses (s : State) (t : Nat) : State :=
  (s.tile t).accesses.foldl (fun u a => u.takeAccess t a) ((s.upT t (fun x => { x with accesses := [] })).tileQuiet t)

/-- A wake of a Lane Tile on demand, which also wakes the device from IDLE (R31, R401, R407). -/
def State.wakeOnDemand (s : State) (t : Nat) : State :=
  (if s.powerState = 1 ∧ s.tileState t = 0 ∧ !s.resetsHeld then s.wakeDevice .internal none else s).wakeTile t

/-- An access to a register that a tile holds (R27 to R30): it waits for a tile that is waking, which it wakes from OFF;
it completes at once in the other states, after those that wait. -/
def State.tileAccess (s : State) (t : Nat) (a : TileAccess) : State :=
  if s.accessWaits t then (s.upT t (fun x => { x with accesses := x.accesses ++ [a] })).wakeOnDemand t
  else ((s.drainAccesses t).takeAccess t a).tileQuiet t

/-- A RETRAIN bit of a Port written: it is carried to the Port's tile and waits there as R28 states (R289). A Port that is not enabled
has no tile. -/
def State.askRetrain (s : State) (p x v : Nat) : State := if s.enabled p then s.tileAccess (s.tileOf p) ⟨true, x, v⟩ else s

/-- A whole word written to the register of a tile at an offset, as the host writes it. -/
def State.tileStore (s : State) (x v : Nat) : State :=
  match s.holder x with
  | some t => s.tileAccess t ⟨true, x, v⟩
  | none => s

end Sys2Proof.Machine
end

