-- ==== Sys2Proof/Machine/PortOps.lean ====
section
/-! DEFINITION. Operations on a whole Port (14): its Port and Restructure resets, its start, and the DCLK of its tile. -/

namespace Sys2Proof.Machine

/-- CLK_DCLK_SEL made to report the DCLK of a tile that is ON (R69, R71). -/
def State.showDclk (s : State) (t : Nat) : State :=
  if s.tileState t = 2 then s.wr (CLK_DCLK_SEL.LT t) (levelDclk (s.tileLevel t))
  else if s.tileState t ≤ 1 then s.cold (CLK_DCLK_SEL.LT t) else s

/-- The registers of a half-lane that a Port reset restores (02 to 07; R424): its status and counters, and CAL_RX but for
HOLD. -/
def State.coldHalf (s : State) (h : Nat) : State :=
  (((((s.coldAll (LCH_FOM.fields h)).coldAll (LCH_RX_EQ.fields h)).coldAll (LCH_TX_COEF.fields h)).coldAll
    (LCH_DP_STATUS.fields h)).coldAll (LCH_SEG_FEC.fields h)).coldAll (LCH_LANE_FAULT.fields h) |>.coldAll
    ((CAL_RX.fields h).filter (fun f => f.cell != CAL_RX.HOLD h))

/-- The registers of a Port that a Port reset restores (03 to 06; R424). -/
def State.coldPort (s : State) (p : Nat) : State :=
  (((s.coldAll (PRT_DP_STATUS.fields p)).coldAll (PRT_TRN_STATUS.fields p)).coldAll (PRT_TRN_EVENTS.fields p)).each
    (sidesOf p) (fun t q => ((((t.coldAll (PRT_SKP_ADJ.fields q)).coldAll (PRT_SEG_STATUS.fields q)).coldAll
      (PRT_SEG_CNT.fields q)).coldAll (PRT_TRL_STATUS.fields q)).coldAll (PRT_TRL_CNT.fields q))

/-- What a Port reset leaves of a half-lane: its power, the calibration set in force and the record of its runs. -/
def Half.fresh (x : Half) : Half :=
  { powered := x.powered
    applied := x.applied
    appliedTemp := x.appliedTemp
    lastRun := x.lastRun
    runTemp := x.runTemp
    noAutoUntil := x.noAutoUntil }

/-- The half-lanes that the sides of a Port claim. -/
def State.portMembers (s : State) (p : Nat) : List Nat := s.members (2 * p) ++ s.members (2 * p + 1)

/-- The effects of a Port reset on a Port (R418), which is held in DOWN and SDOWN by a reset, or by none. The directions of a
transaction that it is still to reach stay due, and so does the count of a commit (R438): the reset that a commit causes is another
one (R273). -/
def State.quietPort (s : State) (p : Nat) (why : Option PortReset) : State :=
  let hs := s.portMembers p
  let s1 := (s.each hs State.rxLeaves).endQueued (fun j => hs.contains j.half) 5
  let s2 := if (s1.stdSides p).isEmpty then s1 else s1.enterDown p
  let s3 := s2.each (s2.segSides p) State.toSDown
  let s4 := s3.each hs (fun t h => (((t.releaseRx h).setTx h .idle).upH h Half.fresh).coldHalf h)
  ((s4.coldPort p).upP p (fun x => {
    transitions := x.transitions
    mirrorSeq := x.mirrorSeq
    mirror := x.mirror
    applyAB := x.applyAB
    applyBA := x.applyBA
    markAB := x.markAB
    markBA := x.markBA
    reset := why })).settled s p

/-- A Port reset (R418, R421, R438): none of a Port that is not enabled, nor while its tile is in reset or FENCED, or OFF with its
reset held; one that finds a reset of the Port under way merges into it. -/
def State.portReset (s : State) (p : Nat) : State :=
  let t := s.tileState (s.tileOf p)
  if !s.enabled p ∨ t = 3 ∨ t = 4 ∨ (t = 0 ∧ s.resetsHeld) ∨ (s.portx p).reset.isSome then s
  else ((s.quietPort p (some .port)).bump p).wrapUp RST_CNT.PORT_RESETS

/-- The rest of a Restructure reset, once the Port has its new values (R419, R438). -/
def State.restructure (s : State) (p : Nat) : State :=
  ((((s.quietPort p (some .restructure)).bump p).satUp RST_CNT.RESTRUCTURES).releaseWinnow (2 * p)).releaseWinnow (2 * p + 1)

/-- A Port leaves DOWN and SDOWN where it is enabled, its tile is ON and no reset holds it (R100, R143). -/
def State.startPort (s : State) (p : Nat) : State :=
  if s.enabled p ∧ s.tileOn p ∧ (s.portx p).reset = none then
    let s1 := if s.trn p = tDOWN then s.enterDetect p else s
    (s1.each ((s1.segSides p).filter (fun q => s1.segState q == sDOWN)) State.toSDetect).noted s p
  else s

end Sys2Proof.Machine
end

