-- ==== Sys2Proof/Machine/TimeOps.lean ====
section
/-! DEFINITION. Operations of Fabric Time (12): qualities, the choice of a parent, measurements, corrections, lock,
schedules and the Common Trigger. Stamps are in units of 2⁻¹⁶ ns. -/

namespace Sys2Proof.Machine

/-! ## Qualities and roles (R354, R355) -/

def qINVALID : Nat := 0
def qESTIMATED : Nat := 1
def qVALID : Nat := 2
def roleMASTER : Nat := 1
def roleFOLLOWER : Nat := 2
/-- The quality and the role of the device's time. -/
def State.quality (s : State) : Nat := s.rd TIM_STATUS.QUALITY
def State.role (s : State) : Nat := s.rd TIM_CTRL.ROLE
/-- A quality entered: the rate ratio of R363 must be measured anew; VALID has no uncertainty (12, Table 1). -/
def State.toQuality (s : State) (q : Nat) : State :=
  let t := if s.quality = q then s else (s.wr TIM_STATUS.QUALITY q).upTim (fun x => { x with ratioOk := false })
  if q = qVALID then t.wr TIM_UNCERT.BOUND 0 else t

/-- The fields of TIM_STATUS that report a parent, with none to report. -/
def State.noParent (s : State) : State :=
  ((s.off TIM_STATUS.PARENT_PULSE).wr TIM_STATUS.PARENT_PORT 0).wr TIM_STATUS.PARENT_SIDE 0
/-- A part that is no MASTER and has no parent knows no master (12, Table 12). -/
def State.noMaster (s : State) : State :=
  (((s.noParent.wr TIM_STATUS.STRATUM 15).off TIM_STATUS.MASTER_VALID).wr TIM_STATUS.MASTER_ID 0)

/-- What TIM_STATUS reports of a part by its role (R355, 12, Table 12): a MASTER is always locked, at stratum 0, and is
the master it knows; any other part begins with no master. -/
def State.showRole (s : State) : State :=
  if s.role = roleMASTER then
    (((((s.on TIM_STATUS.LOCKED).off TIM_STATUS.HOLDOVER).wr TIM_STATUS.STRATUM 0).on TIM_STATUS.MASTER_VALID).wr
      TIM_STATUS.MASTER_ID (s.rd GLB_FABRIC_ID.FABRIC_ID)).noParent
  else
    (((s.off TIM_STATUS.LOCKED).off TIM_STATUS.HOLDOVER).noMaster).upTim (fun x => { x with good := 0 })

/-! ## TIME frames (R356, R357) -/

/-- Whether a side has TIME frames at both ends (R147, R161). -/
def State.timeFrames (s : State) (q : Nat) : Bool :=
  s.isSeg q && s.segState q == sACTIVE && !s.legacy q && (match (s.seg q).partner with
    | some pt => bitAt pt.caps 1
    | none => false)

/-- A time field of 10 bytes (R357). -/
def timeBytes (stamp : Nat) : List Byte := leBytes 8 (stamp / 65536) ++ leBytes 2 (stamp % 65536)
def timeField (m : List Byte) (i : Nat) : Nat := leNat ((m.drop i).take 8) * 65536 + leNat ((m.drop (i + 8)).take 2)

/-- Whether the schedule of R382 goes in TIME frames now: it is flooded and its time has not passed; a cancellation is
flooded until another schedule is seen. -/
def State.floods (s : State) : Bool := s.tim.flood && (s.tim.schedTime == 0 || decide (s.now ≤ s.tim.schedTime * nsUnit))

/-- The payload of a TIME frame (12, Table 2). -/
def State.timePayload (s : State) (q : Nat) : List Byte :=
  let y := s.timeSide q
  let master := s.role == roleMASTER
  let known := master || s.bit TIM_STATUS.LOCKED
  let flags := ofBool (s.quality == qVALID) + 2 * ofBool (s.bit TIM_STATUS.LOCKED) + 4 * ofBool (s.quality == qESTIMATED) +
    8 * ofBool master + 16 * ofBool s.floods
  let sched := if s.floods then leBytes 8 s.tim.schedTime ++ leBytes 1 (s.rd TRC_SCHED_CTRL.NUMBER) else zeros 9
  [0x01, BitVec.ofNat 8 flags] ++ leBytes 2 (s.rd GLB_FABRIC_ID.FABRIC_ID) ++
    leBytes 2 (if known then s.rd TIM_STATUS.MASTER_ID else 0xFFFF) ++
    leBytes 1 (if known then s.rd TIM_STATUS.STRATUM else 0xFF) ++ leBytes 1 y.next ++
    timeBytes (match y.sent with | e :: _ => e.2 | [] => 0) ++
    leBytes 1 (match y.peer with | some p => p.seq | none => 0xFF) ++ zeros 1 ++
    timeBytes (match y.peer with | some p => p.arrival | none => 0) ++ zeros 2 ++ sched ++ zeros 215

/-! ## The parent (R355) -/

/-- A candidate for the parent: its master, its stratum, and the Port side, none for TPULSE. -/
structure Candidate where
  master : Nat
  stratum : Nat
  side : Option Nat
  deriving DecidableEq, Repr

/-- Whether a candidate comes before another: the lowest master, then the lowest stratum, then TPULSE, then the lowest
Port and side. -/
def Candidate.before (a b : Candidate) : Bool :=
  let key (c : Candidate) : Nat := match c.side with
    | none => 0
    | some q => q + 1
  decide (a.master < b.master) || (a.master == b.master && (decide (a.stratum < b.stratum) ||
    (a.stratum == b.stratum && decide (key a < key b))))

/-- The Segment Sides that are candidates. -/
def State.sideCandidates (s : State) : List Candidate :=
  s.tim.sides.entries.filterMap (fun e =>
    match e.2.peer with
    | some p => if s.timeFrames e.1 ∧ (bitAt p.flags 1 ∨ bitAt p.flags 3) then some ⟨p.master, p.stratum, some e.1⟩ else none
    | none => none)

/-- All candidates; TPULSE names no master, and is taken to follow the lowest one that a side names (PRESUMED, log entry 39). -/
def State.candidates (s : State) : List Candidate :=
  let cs := s.sideCandidates
  let m := match cs with
    | c :: rest => rest.foldl (fun n d => min n d.master) c.master
    | [] => 0
  if s.rd TIM_CTRL.TPULSE_MODE = 1 then ⟨m, s.rd TIM_PULSE.IN_STRATUM, none⟩ :: cs else cs

/-- The parent that R355 selects. -/
def State.parent (s : State) : Option Candidate :=
  match s.candidates with
  | [] => none
  | c :: cs => some (cs.foldl (fun b d => if d.before b then d else b) c)

/-- TIM_STATUS made to report the parent; a part at stratum 15 is not locked (R355). -/
def State.showParent (s : State) (c : Candidate) : State :=
  let n := min 15 (c.stratum + 1)
  let t := (((s.wr TIM_STATUS.STRATUM n).on TIM_STATUS.MASTER_VALID).wr TIM_STATUS.MASTER_ID c.master).put
    TIM_STATUS.PARENT_PULSE c.side.isNone
  let u := match c.side with
    | some q => (t.wr TIM_STATUS.PARENT_PORT (q / 2)).wr TIM_STATUS.PARENT_SIDE (q % 2)
    | none => (t.wr TIM_STATUS.PARENT_PORT 0).wr TIM_STATUS.PARENT_SIDE 0
  if n = 15 then u.off TIM_STATUS.LOCKED else u

/-! ## Corrections and lock (R358 to R360) -/

/-- The time still to lose at half rate, with SLEWING beside it (R359). -/
def State.setSlew (s : State) (n : Nat) : State := (s.put TIM_STATUS.SLEWING (n != 0)).upTim (fun x => { x with slew := n })

/-- Fabric Time moved by a step, which ends a slew (R359); a step back leaves the epochs that follow to come again. -/
def State.stepTime (s : State) (v : Nat) : State :=
  let t := (s.setNow v).setSlew 0
  (if v < s.now then t.upTim (fun x => { x with epoch := v / nsUnit / 10000 }) else t).on TIM_STATUS.STEPPED

/-- A correction by an accepted offset, in units of 2⁻¹⁷ ns (R359); the loop's gains are open (DESIGN CHOICE, log entry 11). A slew
under way goes on until the offset, as measured anew, is 0. While the time counts on FIOSC the rate correction is held (R390). -/
def State.correct (s : State) (theta2 : Int) : State :=
  let ns : Int := 2 ^ 17
  if -1000 * ns ≤ theta2 ∧ theta2 ≤ 1000 * ns then
    let u := if s.bit TIM_STATUS.SLEWING then s.setSlew (theta2 * 2 ^ 15).toNat else s
    if s.bit CLK_STATUS.REFCLK_OK ∧ s.bit CLK_STATUS.ROOT_LOCK then
      let r := Config.piLoop (toSigned 32 (s.rd TIM_RATE.PPB)) (roundDiv theta2 2) s.freeCtr
      (u.takeFree.2).wr TIM_RATE.PPB (ofSigned 32 (clampInt (-200000) 200000 r))
    else u
  else if theta2 < 0 ∨ s.quality = qINVALID then s.stepTime ((s.now : Int) - theta2 * 2 ^ 15).toNat
  else s.setSlew (theta2 * 2 ^ 15).toNat

/-- An accepted measurement of the parent (R358 to R360): it is reported, the time corrected, and after eight in a row
within 2 ns the part locks; it takes VALID from a parent whose time is valid. -/
def State.measured (s : State) (theta2 : Int) (parentValid : Bool) : State :=
  let near := decide (-2 * 2 ^ 17 ≤ theta2) && decide (theta2 ≤ 2 * 2 ^ 17)
  let n := if near then s.tim.good + 1 else 0
  let s1 := ((s.wr TIM_OFFSET.THETA (ofSigned 32 (clampInt (-2 ^ 31) (2 ^ 31 - 1) (roundDiv theta2 (2 ^ 13))))).upTim (fun x =>
    { x with good := n, lastAt := s.elapsed })).correct theta2
  let s2 := if 8 ≤ n ∧ s1.rd TIM_STATUS.STRATUM ≠ 15 then (s1.on TIM_STATUS.LOCKED).off TIM_STATUS.HOLDOVER else s1
  if s2.bit TIM_STATUS.LOCKED ∧ parentValid then s2.toQuality qVALID else s2

/-- A follower loses lock and enters holdover (R360). -/
def State.enterHoldover (s : State) : State :=
  if s.role = roleFOLLOWER ∧ s.bit TIM_STATUS.LOCKED then
    let t := ((s.off TIM_STATUS.LOCKED).on TIM_STATUS.HOLDOVER).upTim (fun x => { x with good := 0, base := s.rd TIM_UNCERT.BOUND })
    (if t.quality = qVALID then t.toQuality qESTIMATED else t).advance 0
  else s

/-- The times of R358 that a TIME frame completes, as the offset and the delay in units of 2⁻¹⁷ ns; none where a time is
missing, or where a switch has moved the lane of TIME frames meanwhile. -/
def State.timeMeasure (s : State) (q : Nat) (m : List Byte) : Option (Int × Int) :=
  let y := s.timeSide q
  match y.peer with
  | none => none
  | some p =>
    let j := byteAt m 18
    match lookupKey j y.sent with
    | none => none
    | some t3 =>
      if (p.seq + 1) % 256 ≠ byteAt m 7 ∨ y.rxMoved ∨ y.txMoved = some j then none
      else
        let there : Int := (p.arrival : Int) - timeField m 8
        let back : Int := (timeField m 20 : Int) - t3
        some (there - back - toSigned 16 (s.rd (TIM_ASYM.ASYM q)) * 2 ^ 12, there + back)

/-- Whether a delay differs from the mean of the last eight accepted ones by more than 2 ns (R358). -/
def delayOff (ds : List Int) (d : Int) : Bool :=
  !ds.isEmpty && decide (2 * 2 ^ 17 * (ds.length : Int) < |d * ds.length - ds.sum|)

/-! ## The Common Trigger (R379 to R381) -/

/-- A source of the Common Trigger gives a latch instant in 2⁻³² ns (R380). -/
def State.source (s : State) (b tl : Nat) : State :=
  if !bitAt (s.rd TRC_TRIG_CTRL.SRC_EN) b then s
  else if s.bit SNP_STATUS.STATE then s.satUp SNP_STATUS.MISSED
  else match s.tim.latch with
    | none => s.upTim (fun x => { x with latch := some (tl, 2 ^ b) })
    | some (t, src) =>
      if t = tl then s.upTim (fun x => { x with latch := some (t, src ||| 2 ^ b) }) else s.satUp SNP_STATUS.MISSED

/-- A WINNOW or REGISTER source now (R379, R381): with TRIG_OUT one that causes a latch drives TRIG_N for 100 ns,
starting within 8 ns, and the driver's edge gives the latch instant; the delay is a free value (DESIGN CHOICE, log entry 12). -/
def State.sourceNow (s : State) (b : Nat) : State :=
  if bitAt (s.rd TRC_TRIG_CTRL.SRC_EN) b ∧ !s.bit SNP_STATUS.STATE ∧ s.tim.latch = none ∧ s.bit TRC_TRIG_CTRL.TRIG_OUT then
    let (n, t) := s.takeFree
    let d := n % (8 * nsUnit + 1)
    ((t.emit (.trigN true)).upTim (fun x => { x with trigOut := true, deafUntil := s.elapsed + d + 100 * nsUnit })).source b
      (s.now + d + 64 * nsUnit)
  else s.source b (s.now + 64 * nsUnit)

/-! ## Schedules (R382) -/

/-- A schedule by its number and time: a time of 0 cancels the pending one, a time that has passed is discarded as late and
leaves a pending one and its number, and any other is pending in place of the one before. -/
def State.takeSchedule (s : State) (number time : Nat) (flood : Bool) : State :=
  let t := s.upTim (fun x => { x with seen := number })
  let u := t.wr TRC_SCHED_CTRL.NUMBER number
  if time = 0 then (u.off TRC_SCHED_CTRL.PENDING).upTim (fun x => { x with schedTime := 0, flood := flood })
  else if time * nsUnit < s.now then
    ((if s.bit TRC_SCHED_CTRL.PENDING then t else u.upTim (fun x => { x with flood := false })).on TRC_SCHED_CTRL.LATE).satUp
      TRC_SCHED_CTRL.LATE_CNT
  else (u.on TRC_SCHED_CTRL.PENDING).upTim (fun x => { x with schedTime := time, flood := flood })

/-! ## Sets (R364) -/

/-- The counter loaded with the two values of the set. -/
def State.loadSet (s : State) : State :=
  let v := (s.rd (TIM_SET.TIME 0) + 2 ^ 32 * s.rd (TIM_SET.TIME 1)) * nsUnit
  (((s.setNow v).upTim (fun x => { x with setDue := false, epoch := v / nsUnit / 10000 })).setSlew 0).toQuality qVALID

end Sys2Proof.Machine
end

