-- ==== Sys2Proof/Machine/TxnOps.lean ====
section
/-! DEFINITION. Operations on transactions (09): staging, validation, apply, withdrawal and the end of a transaction. -/

namespace Sys2Proof.Machine

/-! ## States and scope (R268, R270) -/

/-- Whether a Port is in scope. -/
def State.inScope (s : State) (p : Nat) : Bool := bitAt (s.rd (TXN_SCOPE_P.PORTS (p / 32))) (p % 32)
/-- The Ports in scope. -/
def State.scopePorts (s : State) : List Nat := (List.range 64).filter s.inScope
/-- T in ns of Fabric Time. -/
def State.txnTime (s : State) : Nat := s.rd (TXN_TIME.TIME 0) + 2 ^ 32 * s.rd (TXN_TIME.TIME 1)

/-! ## Staging (R254, R268, R269) -/

/-- Entries of the channel table replaced; an entry of zeros is not listed (R47). -/
def State.putTable (s : State) (t : Tab Nat) : State :=
  s.setBct (t.entries.foldl (fun b e => if e.2 = 0 then b.erase e.1 else b.set e.1 e.2) s.bct)

/-- The field values staged, laid over the committed ones (R271). -/
def State.staging (s : State) : State :=
  (s.txn.shadow.entries.foldl (fun t e => t.wr e.2.1 e.2.2) s).putTable s.txn.table

/-- The store's words in use: a staged table entry counts as two (R269). -/
def Txn.size (x : Txn) : Nat := x.words.length + 2 * x.table.entries.length

/-- The RWT fields of a register staged with a written word: a reserved encoding keeps what was staged last, or the
committed value (R7, R269). -/
def State.stageWord (s : State) (off value : Nat) (fs : List Field) : State :=
  if !s.txn.words.contains off ∧ 8192 ≤ s.txn.size then s.upX (fun x => { x with overflow := true })
  else
    fs.foldl (fun t f => match f.acc with
      | .rwt =>
        let old := (t.txn.shadow.get (f.cell, t.rd f.cell) f.cell.key).2
        let v := f.fix.apply old (bitsOf value f.cell.lo f.cell.width)
        t.upX (fun x => { x with shadow := x.shadow.set f.cell.key (f.cell, v) })
      | _ => t)
      (s.upX (fun x => { x with words := if x.words.contains off then x.words else x.words ++ [off] }))

/-- A channel table entry staged, as R49 stores it (R47, R269). -/
def State.stageEntry (s : State) (i v : Nat) : State :=
  let known := (lookupKey i s.txn.table.entries).isSome
  if !known ∧ 8192 < s.txn.size + 2 then s.upX (fun x => { x with overflow := true })
  else s.upX (fun x => { x with table := x.table.set i (storedEntry i v) })

/-- The bits of TXN_SCOPE_G (09, Table 8). -/
inductive Block where
  | channelTable | lanePolicy | sliceDefaults | powerPolicy | domain | trace
  deriving DecidableEq, Repr

/-- The block of a register that is in one (09, Tables 3 and 8; 13, R412). -/
def blockOf (x : Nat) : Option Block :=
  if x = 0x1018 ∨ x = 0x101C then some .channelTable
  else if (0x210000 ≤ x ∧ x < 0x210024) ∨ x = 0x10000 then some .lanePolicy
  else if 0x30000 ≤ x ∧ x < 0x40000 then some .sliceDefaults
  else if 0x3000 ≤ x ∧ x < 0x4000 then some .powerPolicy
  else if x = 0xC ∨ (0x6000 ≤ x ∧ x < 0x7000) then some .domain
  else if 0x80000 ≤ x ∧ x < 0xC0000 then some .trace
  else none

/-- The scope bit of a block. -/
def Block.cell : Block → Cell
  | .channelTable => TXN_SCOPE_G.CHANNEL_TABLE
  | .lanePolicy => TXN_SCOPE_G.LANE_POLICY
  | .sliceDefaults => TXN_SCOPE_G.SLICE_DEFAULTS
  | .powerPolicy => TXN_SCOPE_G.POWER_POLICY
  | .domain => TXN_SCOPE_G.DOMAIN
  | .trace => TXN_SCOPE_G.TRACE

/-- The Ports that valid halves of an LCH_ASSIGN word name. -/
def assignPorts (w : Nat) : List Nat :=
  (if bitAt w 31 then [bitsOf w 24 6] else []) ++ (if bitAt w 15 then [bitsOf w 8 6] else [])

/-- The Port of an RWT register that carries a Port index. -/
def portIndex (x : Nat) : Option Nat :=
  if 0x100000 ≤ x ∧ x < 0x140000 then some ((x - 0x100000) / 0x1000) else none

/-- Whether a write of a register is covered by the scope (R268). -/
def State.covered (s : State) (x value : Nat) : Bool :=
  match portIndex x with
  | some p => s.inScope p
  | none =>
    if 0x200000 ≤ x ∧ x < 0x210000 then (assignPorts (s.word (fieldsAt x)) ++ assignPorts value).all s.inScope
    else match blockOf x with
      | some b => s.bit b.cell
      | none => false

/-! ## Clamps at commit (R65, R72, R140, R154, R271) -/

/-- TARGET and WARN of a slot raised to keep FAULT ≤ WARN ≤ TARGET (R65). -/
def State.clampFom (s : State) (r : Nat) : State :=
  let w := max (s.rd (LCH_FOM_LIMITS.WARN r)) (s.rd (LCH_FOM_LIMITS.FAULT r))
  (s.wr (LCH_FOM_LIMITS.WARN r) w).wr (LCH_FOM_LIMITS.TARGET r) (max (s.rd (LCH_FOM_LIMITS.TARGET r)) w)

/-- A side's slot within the range of its type (R72). -/
def State.clampSlot (s : State) (q : Nat) : State :=
  s.wr (PRT_DP_CTRL.SLOT q) (if s.isSeg q then clampNat 7 8 (s.rd (PRT_DP_CTRL.SLOT q)) else min 6 (s.rd (PRT_DP_CTRL.SLOT q)))

/-- The Standard Side of a geared Port held to the highest slot at which the gearing rule holds (R154). -/
def State.clampGear (s : State) (q : Nat) : State :=
  let g := otherSide q
  if s.isSeg q ∨ !s.isSeg g then s
  else s.wr (PRT_DP_CTRL.SLOT q)
    (highestSlot (gearOk (s.width g) (segRate (s.rd (PRT_DP_CTRL.SLOT g))) (s.width q)) (s.rd (PRT_DP_CTRL.SLOT q)))

/-- MIN_WIDTH within 1 to the side's data width. -/
def State.clampMin (s : State) (q : Nat) : State :=
  s.wr (PRT_TRL_CTRL.MIN_WIDTH q) (clampNat 1 (s.width q) (s.rd (PRT_TRL_CTRL.MIN_WIDTH q)))

/-- The replay slots of a side of an enabled Port: none of a Standard Side (R140). -/
def State.slotsOf (s : State) (q : Nat) : Nat :=
  if s.enabled (q / 2) ∧ s.isSeg q then replaySlots (s.width q) (s.rttMaxNs q) (s.segSlot q) else 0

/-- MODE and SLOTS computed at commit (R289, R140). -/
def State.computed (s : State) (p : Nat) : State :=
  (s.wr (PRT_MODE.MODE p) (2 * ofBool (s.isSeg (2 * p)) + ofBool (s.isSeg (2 * p + 1)))).each (sidesOf p)
    (fun t q => t.wr (PRT_SEG_CTRL.SLOTS q) (s.slotsOf q))

/-- The clamps of step 1 of R271 on the Ports of a list, and what is computed at commit. -/
def State.clamped (s : State) (ports : List Nat) : State :=
  let sides := ports.flatMap sidesOf
  let s1 := (s.each (List.range 9) State.clampFom).each sides State.clampSlot
  ((s1.each sides State.clampGear).each sides State.clampMin).each ports State.computed

/-- The fields that the clamps may change, and those that are computed. -/
def clampCells (ports : List Nat) : List Cell :=
  (List.range 9).flatMap (fun r => [LCH_FOM_LIMITS.WARN r, LCH_FOM_LIMITS.TARGET r]) ++
  ports.flatMap (fun p => PRT_MODE.MODE p :: (sidesOf p).flatMap (fun q =>
    [PRT_DP_CTRL.SLOT q, PRT_TRL_CTRL.MIN_WIDTH q, PRT_SEG_CTRL.SLOTS q]))

/-! ## The checks (R21, R71, R140, R142, R271) -/

/-- The half-lanes that each side of an enabled Port claims, anywhere in the device (R21). -/
def State.claims (s : State) : List (Nat × Nat) :=
  (List.range 512).filterMap (fun h => (s.claim h).map (fun q => (q, h)))

/-- The first Port of which a test of one side fails, given the half-lanes that the side claims. -/
def State.badPort (s : State) (bad : Nat → List Nat → Bool) : Option Nat :=
  let cs := s.claims
  (List.range 64).find? (fun p => s.enabled p && (sidesOf p).any (fun q =>
    bad q ((cs.filter (fun c => c.1 == q)).map Prod.snd)))

/-- The structural checks of R21, in its order, with reason and index. -/
def State.checkMap (s : State) : Option (Nat × Nat) :=
  let n (q : Nat) : Nat := s.width q + s.spares q
  let checks : List (Nat × Option Nat) :=
    [(1, s.badPort (fun _ hs => !decide (hs.map s.logical).Nodup)),
     (2, s.badPort (fun q hs => hs.any (fun h => tileOfHalf h != s.tileOf (q / 2)))),
     (3, s.badPort (fun q hs => hs.length != n q || hs.any (fun h => decide (n q ≤ s.logical h)))),
     (4, s.badPort (fun q _ => !s.isSeg q && (!([1, 2, 4, 8, 16] : List Nat).contains (s.width q) || s.spares q != 0))),
     (5, s.badPort (fun q _ => s.isTT (q / 2) && s.width q != s.width (otherSide q))),
     (6, (List.range 8).find? (fun t => decide (16 < (s.portsOf t).length)))]
  checks.findSome? (fun c => c.2.map (fun i => (c.1, i)))

/-- The flit storage of a Port in units (R142). -/
def State.unitsOf (s : State) (p : Nat) : Nat :=
  if s.isSS p then 512
  else if s.isGeared p then
    let g := if s.isSeg (2 * p) then 2 * p else 2 * p + 1
    512 + entryUnits (s.width (otherSide g)) (s.rd (PRT_DP_CTRL.SLOT (otherSide g))) (s.rttMaxNs g)
  else 0

/-- Whether a tile's replay slots or flit storage are exceeded (R140, R142). -/
def State.overCapacity (s : State) (t : Nat) : Bool :=
  decide (8192 < ((s.portsOf t).map (fun p => s.slotsOf (2 * p) + s.slotsOf (2 * p + 1))).sum) ||
  decide (6144 < ((s.portsOf t).map s.unitsOf).sum)

/-- The DCLK of a tile by its enabled Ports (R69). -/
def State.dclkOf (s : State) (t : Nat) : Nat := levelDclk (s.tileLevel t)

/-- The Lane Tiles of the scope, of the committed map and of a new one (R268). -/
def State.scopeTiles (s new : State) : List Nat :=
  (List.range 8).filter (fun t => s.scopePorts.any (fun p => (s.enabled p && s.tileOf p == t) || (new.enabled p && new.tileOf p == t)))

/-- The first failure of R271 of a new state of the registers, with reason and index (09, Table 9). -/
def State.commitRefusal (s new : State) : Option (Nat × Nat) :=
  (new.checkMap).orElse (fun _ =>
  (((List.range 8).find? (fun t => s.dclkOf t != new.dclkOf t && (new.portsOf t).any (fun p => !s.inScope p))).map
    (fun t => (7, t))).orElse (fun _ =>
  (((List.range 8).find? new.overCapacity).map (fun t => (8, t))).orElse (fun _ =>
  (((s.scopeTiles new).find? (fun t => s.tileState t == 4)).map (fun t => (9, t))).orElse (fun _ =>
  if s.txn.overflow then some (0xA, 0xFF) else none))))

/-! ## What a commit changes (R273) -/

/-- The half-lane whose LCH_ASSIGN half holds a field. -/
def assignHalf (c : Cell) : Option Nat :=
  if 0x200000 ≤ c.off ∧ c.off < 0x210000 then some (2 * ((c.off - 0x200000) / 0x100) + (if 16 ≤ c.lo then 0 else 1)) else none

/-- The Port that an LCH_ASSIGN half names, if it is valid. -/
def State.namedPort (s : State) (h : Nat) : Option Nat :=
  if s.bit (LCH_ASSIGN.VALID h) then some (s.rd (LCH_ASSIGN.PORT h)) else none

/-- The Port with which a field's change takes effect: that of a register with a Port index; of an LCH_ASSIGN half the Port that it
names after the change, or, where it names none, the one it named (DEDUCED, log entry 18). -/
def State.ownerOfCell (s new : State) (c : Cell) : Option Nat :=
  match assignHalf c with
  | some h => (new.namedPort h).or (s.namedPort h)
  | none => portIndex c.off

/-- The pairs of Ports between which a half-lane moves: they turn together, so that each reads as wholly old or wholly new
(R22; DEDUCED, log entry 18). -/
def State.linksTo (s new : State) (cs : List Change) : List (Nat × Nat) :=
  cs.filterMap (fun c => (assignHalf c.cell).bind (fun h => match s.namedPort h, new.namedPort h with
    | some p, some r => if p = r then none else some (p, r)
    | _, _ => none))

/-- The changes of a commit: the fields staged, clamped or computed that differ from the committed values. -/
def State.changesTo (s new : State) (cells : List Cell) : List Change :=
  cells.filterMap (fun c => if new.rd c = s.rd c then none else some ⟨s.ownerOfCell new c, c, new.rd c, s.rd c⟩)

/-- Whether the change of a field is a cause of a Restructure reset of a Port (R273). -/
def State.restructures (s new : State) (p : Nat) (c : Cell) : Bool :=
  (c.off == PRT_MODE.off p && c.lo != (PRT_MODE.MODE p).lo) || c.off == PRT_DP_CTRL.off p ||
  (sidesOf p).any (fun q => c == PRT_SEG_CTRL.LEGACY q || c == PRT_SEG_CTRL.RTT_MAX q) ||
  (match assignHalf c with
   | some h => s.namedPort h == some p || new.namedPort h == some p
   | none => false)

/-- The Ports that a commit resets: those whose own change asks for it, and those of a tile whose DCLK changes, of the
Ports that are enabled before or after (R71, R273). -/
def State.restructPorts (s new : State) (cs : List Change) : List Nat :=
  (List.range 64).filter (fun p => (s.enabled p || new.enabled p) &&
    (cs.any (fun c => s.restructures new p c.cell) ||
     (List.range 8).any (fun t => s.dclkOf t != new.dclkOf t &&
       ((s.enabled p && s.tileOf p == t) || (new.enabled p && new.tileOf p == t)))))

/-! ## The end of a transaction (R278, R279, R395) -/

/-- The transaction returns to IDLE with a result, a reason and an index (R278): the event goes to S0. -/
def State.endTxn (s : State) (result reason index : Nat) : State :=
  let t := (((((s.wr TXN_STATUS.STATE xIDLE).wr TXN_STATUS.LAST_RESULT result).wr TXN_STATUS.REASON reason).wr
    TXN_STATUS.FAIL_INDEX index).each (List.range 8) State.tileQuiet).deviceQuiet
  let e : Ev :=
    { slice := 0
      ring := none
      type := 3
      cls := 0
      code := result
      source := t.rd TXN_STATUS.ID
      result := [reason, index] ++ List.replicate 14 0
      time := t.nowNs
      state := some [0, 0, 0, 0, 0] }
  let u := ((t.upX (fun _ => {})).setEvq (if t.sliceActive 0 then t.evq ++ [e] else t.evq)).setPorts
    ⟨t.ports.entries.map (fun x => (x.1, { x.2 with applyAB := false, applyBA := false }))⟩
  let v := u.showTarget
  if v.requiredLevel < v.rd PWR_STATUS.PL ∨ s.txn.oldLevel.isSome then v.askLevel v.requiredLevel else v

/-- A rollback before T (R275 to R277). -/
def State.rollTxn (s : State) (reason : Nat) : State :=
  if s.txnState = xOPEN ∨ s.txnState = xVALIDATING ∨ s.txnState = xSCHEDULED then s.endTxn 4 reason 0xFF else s

/-! ## Apply and withdrawal (R22, R88, R273, R274) -/

/-- The new values, or the previous ones, of the changes of a Port or of the global blocks. -/
def State.putChanges (s : State) (port : Option Nat) (back : Bool) : State :=
  (s.txn.changes.filter (fun c => c.port == port)).foldl (fun t c => t.wr c.cell (if back then c.old else c.new)) s

/-- The side whose receiving direction alone a field of a Port concerns, if it is one of a single direction (R88; DEDUCED, log entry 87). -/
def oneWay (p : Nat) (c : Cell) : Option Nat :=
  (sidesOf p).find? (fun q => [PRT_TRL_CTRL.COMMIT_HOLD q, PRT_TRL_CTRL.UNCORR_LIMIT q, PRT_TRL_CTRL.CORR_LIMIT q].contains c)

/-- The changes of a direction alone, told by its receiving side, take effect, or are taken back, at its own Apply Point (R88, R274). -/
def State.putOneWay (s : State) (q : Nat) (back : Bool) : State :=
  (s.txn.changes.filter (fun c => c.port == some (q / 2) && oneWay (q / 2) c.cell == some q)).foldl
    (fun t c => t.wr c.cell (if back then c.old else c.new)) s

/-- Whether a direction of a Port, told by its receiving side, has a change to apply: one of its own, or one of the whole Port (R88). -/
def State.directionDue (s : State) (q : Nat) : Bool :=
  s.txn.restruct.contains (q / 2) ||
  s.txn.changes.any (fun c => c.port == some (q / 2) && oneWay (q / 2) c.cell != some (otherSide q))

/-- The global blocks take their new values, or their previous ones (R273, R274): a part whose role changes begins in its role
(R355), and a MASTER whose fabric ID changes is the master it knows (12, Table 12). A follower keeps its lock (R360). -/
def State.putGlobals (s : State) (back : Bool) : State :=
  let t := s.holdAllLimits.putChanges none back
  let u := (t.putTable (if back then s.txn.oldTable else s.txn.table)).showActive
  if t.role = s.role ∧ t.role ≠ roleMASTER then u else u.showRole

/-- Whether no side calls for a half-lane at all: no enabled Port claims it (R15), or it is a spare of a LEGACY side, which stays
powered down (R161). -/
def State.uncalled (s : State) (h : Nat) : Bool :=
  match s.claim h with
  | none => true
  | some q => s.isSeg q && !(s.segHalves q).contains h

/-- The half-lanes that no side calls for lose their power (R15, R161). -/
def State.dropUncalled (s : State) (hs : List Nat) : State :=
  s.each (hs.filter s.uncalled) (fun t h => (t.setTx h .idle).upH h (fun x => { x with powered := false }))

/-- One Port after its values have changed (R273, R274): the rest of its Restructure reset where the change asks for one. -/
def State.settlePort (s old : State) (p : Nat) : State :=
  if old.txn.restruct.contains p ∧ (s.enabled p ∨ old.enabled p) then s.restructure p else s

/-- Ports take their new values, or their previous ones, as one step (R22, R273, R274). -/
def State.turnPorts (s : State) (ps : List Nat) (back : Bool) : State :=
  let s1 := s.each (ps.filter s.txn.restruct.contains) (fun t p => t.quietPort p none)
  let s2 := s1.each ps (fun t p => t.putChanges (some p) back)
  (s2.each ps (fun t p => t.settlePort s p)).dropUncalled (ps.flatMap (fun p => s.portMembers p ++ s2.portMembers p))

/-- The tiles whose DCLK may now follow the committed map. -/
def State.settleDclk (s : State) : State :=
  s.each ((List.range 8).filter (fun t => !(s.txn.waiting ++ s.txn.back).any (fun p => s.tileOf p == t))) State.showDclk

/-- The Ports that half-lanes moved by the commit join, directly or through others. -/
def joined (links : List (Nat × Nat)) : Nat → List Nat → List Nat
  | 0, g => g
  | n + 1, g => joined links n (g ++ (links.flatMap (fun l =>
      if g.contains l.1 then [l.2] else if g.contains l.2 then [l.1] else [])).filter (fun p => !g.contains p))

/-- The value that the commit gives a field. -/
def State.willBe (s : State) (c : Cell) : Nat :=
  match s.txn.changes.find? (fun x => x.cell == c) with
  | some x => x.new
  | none => s.rd c

/-- The Lane Tile that a Port's new values put it in, if they enable it. -/
def State.nextTile (s : State) (p : Nat) : Option Nat :=
  if s.willBe (PRT_MODE.ENABLE p) = 1 then some (s.willBe (PRT_MODE.TILE p)) else none

/-- The first Lane Tile that holds a Port in either map and is not ON. -/
def State.missingTile (s : State) (p : Nat) : Option Nat :=
  ((if s.enabled p then [s.tileOf p] else []) ++ (s.nextTile p).toList).find? (fun t => s.tileState t != 2)

/-- The Ports of a Port's group turn as soon as each has reached its Apply Points, and its Lane Tiles are ON where it applies
(R22, R273, R274; log entry 18); the last Port to apply commits. -/
def State.turnGroup (s : State) (p : Nat) : State :=
  let back := s.txnState == xROLLING
  let g := (joined s.txn.links s.txn.links.length [p]).filter (if back then s.txn.back else s.txn.waiting).contains
  if g.isEmpty ∨ !g.all (fun i => s.txn.ready.contains i && (back || (s.missingTile i).isNone)) then s
  else
    let rest (ps : List Nat) : List Nat := ps.filter (fun i => !g.contains i)
    let sides (qs : List Nat) : List Nat := qs.filter (fun q => !g.contains (q / 2))
    let t := ((s.turnPorts g back).upX (fun x => { x with
      waiting := rest x.waiting
      back := rest x.back
      ready := rest x.ready
      stopped := sides x.stopped
      early := sides x.early
      applied := if back then x.applied else x.applied ++ g })).settleDclk
    if !back ∧ t.txn.waiting.isEmpty then t.endTxn 1 0 0xFF else t

/-- Every direction of a Port has reached its Apply Point; a Port that is not enabled has none (R88, R273). -/
def State.reached (s : State) (p : Nat) : State :=
  if (s.txn.waiting ++ s.txn.back).contains p then
    (s.upX (fun x => { x with ready := if x.ready.contains p then x.ready else x.ready ++ [p] })).turnGroup p
  else s

/-- The Ports whose half-lanes are not in use yet turn where their tiles are ON: their receivers' Apply Points are the edges of DCLK
(R87, R273). -/
def State.turnReady (s : State) : State :=
  if s.txnState = xAPPLYING then s.each s.txn.ready State.turnGroup else s

/-- The directions of a Port whose change is still to apply, or to be withdrawn. -/
def State.awaitPort (s : State) (p : Nat) : State :=
  s.upP p (fun x => { x with applyAB := s.directionDue (2 * p), applyBA := s.directionDue (2 * p + 1) })
def State.forgetPort (s : State) (p : Nat) : State := s.upP p (fun x => { x with applyAB := false, applyBA := false })

/-- A Port of the scope that a commit does not reset has its count raised at the later of its next Apply Points (R438), one that is
not enabled at once. -/
def State.markPort (s : State) (p : Nat) : State :=
  if s.enabled p then s.upP p (fun x => { x with markAB := true, markBA := true }) else s.bump p
/-- No Port awaits that any more: the commit has failed. -/
def State.clearMarks (s : State) : State :=
  s.setPorts ⟨s.ports.entries.map (fun x => (x.1, { x.2 with markAB := false, markBA := false }))⟩
/-- A direction of such a Port at its Apply Point. -/
def State.markDirection (s : State) (q : Nat) : State :=
  let x := s.portx (q / 2)
  if (if q % 2 = 0 then x.markAB else x.markBA) then
    let t := s.upP (q / 2) (fun y => if q % 2 = 0 then { y with markAB := false } else { y with markBA := false })
    if (if q % 2 = 0 then x.markBA else x.markAB) then t else t.bump (q / 2)
  else s

/-- Whether a half-lane is one of a waiting Port that goes on as before T: the Port is still in a state in which it forwards. -/
def State.goesOn (s : State) (h : Nat) : Bool :=
  match s.claim h with
  | some q => s.txn.waiting.contains (q / 2) && decide (tFORWARD ≤ s.trn (q / 2)) && decide (s.trn (q / 2) ≤ tLOOPBACK)
  | none => false

/-- The Ports that have not applied go on forwarding in the directions that had stopped at their Apply Points: they never apply (R274). -/
def State.resumeForwarding (s : State) : State :=
  let s0 := s.upX (fun x => { x with stopped := [], early := [] })
  let s1 := s0.each (s.txn.stoppedRx.filter s.goesOn) (fun t h =>
    if 2 ≤ t.rd (LCH_DP_STATUS.ALIGN_STATE h) then t.upH h (fun x => { x with forwarding := true }) else t)
  s1.each (s.txn.stoppedTx.filter s.goesOn) (fun t h => if (t.half h).tx = .idle then t.setTx h .forward else t)

/-- Apply fails (R274): global blocks return at once, and each Port that has applied at its next Apply Point; a Port that
is not enabled now has none and returns at once. One that has not applied goes on as if nothing had been committed. -/
def State.failTxn (s : State) (reason index : Nat) : State :=
  let s0 := (s.resumeForwarding).each (s.txn.waiting.flatMap sidesOf) (fun t q => t.putOneWay q true)
  let s1 := (s0.putGlobals true).clearMarks
  let s2 := (s1.each s.txn.waiting State.forgetPort).wr TXN_STATUS.STATE xROLLING
  let s3 := s2.upX (fun x => { x with
    waiting := []
    ready := []
    back := x.applied
    failedAt := s.elapsed
    reason := reason
    index := index })
  (s3.each (s.txn.applied.filter s3.enabled) State.awaitPort).each (s.txn.applied.filter (fun p => !s3.enabled p))
    State.reached

/-- Whether a Port that is still to apply lies in a Lane Tile, in either map. -/
def State.waitsIn (s : State) (t : Nat) : Bool := s.txn.waiting.any (fun p => s.tileOf p == t || s.nextTile p == some t)

/-- A Lane Tile of the scope that becomes FENCED or enters a Tile reset before its Ports have applied fails the apply, at T where that
is before T (R274). -/
def State.tileLost (s : State) (t : Nat) : State :=
  if !s.txn.tiles.contains t then s
  else if s.txnState = xAPPLYING ∧ s.waitsIn t then s.failTxn 0xC t
  else if s.txnState = xSCHEDULED then s.upX (fun x => { x with lost := if x.lost.contains t then x.lost else x.lost ++ [t] })
  else s

/-- One direction of a Port stops forwarding at its Apply Point (R273): the receivers of the side that the direction
comes from. What stops is recorded, so that nothing more enters or leaves in the direction (R274). -/
def State.stopForwarding (s : State) (q : Nat) : State :=
  let u := s.upX (fun x => { x with
    stoppedRx := x.stoppedRx ++ (s.members q).filter (fun h => (s.half h).forwarding)
    stoppedTx := x.stoppedTx ++ (s.members (otherSide q)).filter (fun h => (s.half h).tx == .forward)
    stopped := if x.stopped.contains q then x.stopped else x.stopped ++ [q] })
  (u.each (s.members q) (fun t h => t.upH h (fun x => { x with forwarding := false }))).each (s.members (otherSide q))
    (fun t h => if (t.half h).tx = .forward then t.setTx h .idle else t)

/-- Whether a receiver governs the Apply Points of its direction (R88): it carries the lowest-numbered data lane. -/
def State.governs (s : State) (q h : Nat) : Bool :=
  if s.isSeg q ∧ s.segState q = sACTIVE then
    match placedLanes (s.seg q).rxPlace (s.width q) with
    | l :: _ => s.rxLogical q h == some l
    | [] => false
  else s.halfAt q 0 == some h

/-- A direction of a Port at its Apply Point (R88, R208, R273, R274): the change of the whole Port is in force in it, captures on its
receivers are disturbed, and where the Port takes a reset it stops forwarding. -/
def State.applyDirection (s : State) (h : Nat) : State :=
  match s.claim h with
  | none => s
  | some q =>
    let p := q / 2
    let due := if q % 2 = 0 then (s.portx p).applyAB else (s.portx p).applyBA
    if !due ∨ !s.governs q h then s
    else
      let s1 := s.upP p (fun x => if q % 2 = 0 then { x with applyAB := false } else { x with applyBA := false })
      let sa := (s1.upX (fun x => { x with early := q :: x.early })).putOneWay q (s.txnState == xROLLING)
      let sb := sa.each (s.members q) State.disturb
      let s2 := if s.txn.restruct.contains p then sb.stopForwarding q else sb
      if (s2.portx p).applyAB ∨ (s2.portx p).applyBA then s2 else s2.reached p

/-- Whether a boundary is an Apply Point of a receiver, in the state it is in (R87). -/
def State.isApplyPoint (s : State) (h : Nat) (b : Boundary) : Bool :=
  let seg := match s.claim h with
    | some q => s.isSeg q
    | none => false
  let align := s.rd (LCH_DP_STATUS.ALIGN_STATE h)
  s.tileState (tileOfHalf h) == 2 &&
  match b with
  | .dclk => decide (align ≤ 1)
  | .frame => seg && s.bit (LCH_SEG_FEC.FRAME_LOCK h)
  | .skp => !seg && decide (2 ≤ align)
  | .flit => !seg && align == 3 && (s.half h).inFlits

end Sys2Proof.Machine
end

