-- ==== Sys2Proof/Machine/ResetOps.lean ====
section
/-! DEFINITION. Resets (14): of a Lane Tile, of the management function, and of the device; and a tile's entry to ON. -/

namespace Sys2Proof.Machine

/-! ## Lane Tiles (R29, R31, R407, R420) -/

/-- The half-lanes and the engines of a Lane Tile (R10, R224). -/
def tileRx (t : Nat) : List Nat := (List.range 64).map (fun i => 64 * t + i)
def tileEngines (t : Nat) : List Nat := (List.range 16).map (fun i => 16 * t + i)

/-- The job in an engine's slot ends at once, what it holds unwritten being lost (R238, R420). -/
def State.loseJob (s : State) (k : Nat) : State :=
  match (s.engine k).slot with
  | some j =>
    ((s.restoreRx j.half).upE k (fun e => { e with slot := none })).endJob { j with unwritten := [], written := 0 } (j.cause.getD 5)
  | none => s

/-- An engine halted by a Tile reset or by its tile going OFF: what it holds ends, and its registers take their Cold
values (R246, R420). -/
def State.stopEngine (s : State) (k : Nat) : State :=
  (((s.loseJob k).coldAll (ENG_STATUS.fields k)).coldAll (ENG_CNT.fields k)).upE k (fun e => { queue := e.queue, lastSlice := e.lastSlice })

/-- A Lane Tile that leaves ON, or that was not in it: its state, its temperature reading current no more (07, Table 11), and a
reload of firmware that waited for one of its engines going on with the next (R266). -/
def State.leavesOn (s : State) (t st : Nat) : State :=
  let u := (((s.wr (GLB_TILE_STATUS.LT t) st).off (CAL_TEMP.VALID t)).deviceQuiet).realign
  match u.imgOp with
  | some (.swap j) => if u.rd (ENG_STATUS.STATE j) = engRestarting then u else u.swapFrom (j + 1)
  | _ => u

/-- Accesses that wait for a tile that enters reset complete as R29 states. -/
def State.dropAccesses (s : State) (t : Nat) : State :=
  (s.drainAccesses t).upT t (fun x => { x with restoring := false })

/-- What a Tile reset does to a tile's Ports, half-lanes and engines (R418, R420, R438), the Ports being held by a reset or by
none. The time before which no automatic run starts goes on (R215). -/
def State.quietTile (s : State) (t : Nat) (why : Option PortReset) : State :=
  let s1 := s.each (s.portsOf t) (fun u p => (u.quietPort p why).bump p)
  let s2 := s1.endQueued (fun j => tileOfHalf j.half == t) 5
  let s3 := s2.each (tileEngines t) State.stopEngine
  (s3.each (tileRx t) (fun u h => (((u.abortRun h).setTx h .idle).upH h (fun x => { noAutoUntil := x.noAutoUntil })).coldHalf h)).upT t (fun x => { x with buffer := [] })

/-- A Tile reset that begins (R420): one that finds the tile in reset merges into it; a tile that is OFF stays OFF. -/
def State.resetTile (s : State) (t : Nat) : State :=
  if s.tileState t = 3 then s
  else if s.tileState t = 0 then (s.quietTile t none).satUp RST_CNT.TILE_RESETS
  else
    let s1 := ((s.tileLost t).quietTile t (some .tile)).leavesOn t 3
    let s2 := (s1.upPw (fun x => { x with
      ramp := x.ramp.erase t
      ramping := if x.ramping = some t then none else x.ramping })).dropAccesses t
    (s2.satUp RST_CNT.TILE_RESETS).resumeWaits t

/-- A Tile reset (R420, R421): one of a tile that is OFF and that a source holds in reset merges into that reset. -/
def State.tileReset (s : State) (t : Nat) : State := if s.tileState t = 0 ∧ s.resetsHeld then s else s.resetTile t

/-- A tile enters ON (R31, R353, R407, R420): its engines run, its DCLK is that of its Ports, its replica of the counter is loaded, and
the Ports leave DOWN. -/
def State.tileEnters (s : State) (t : Nat) : State :=
  let s1 := (((s.wr (GLB_TILE_STATUS.LT t) 2).tileQuiet t).showDclk t).realign
  let s2 := s1.each (tileEngines t) (fun u k =>
    if (u.engine k).disabled then u.wr (ENG_STATUS.STATE k) engDisabled else u.runEngine k)
  let s3 := s2.each (s2.portsOf t) (fun u p => u.upP p (fun x => if x.reset = some .tile then { x with reset := none } else x))
  (s3.each (s3.portsOf t) State.startPort).turnReady

/-! ## Management resets (R306, R318, R417) -/

/-- Configuration space after a reset of the function: the fields that are not sticky at their Cold values, the sticky
ones too where asked, but for PME_Status and PME_En (R296, R417). -/
def Mgmt.configReset (m : Mgmt) (sticky : Bool) : Mgmt :=
  let c : Mgmt := {
    perst := m.perst
    perstDue := m.perstDue
    pmeEn := m.pmeEn
    pmeStatus := m.pmeStatus
    wakeN := m.wakeN
    s0Due := m.s0Due
    readQueue := m.readQueue }
  if sticky then c
  else { c with
    uncStatus := m.uncStatus
    uncMask := m.uncMask
    uncSeverity := m.uncSeverity
    corStatus := m.corStatus
    corMask := m.corMask
    firstError := m.firstError }

/-- Every Slice is destroyed, S0 included, and S0 is created afresh once they are FREE (R306, R318). -/
def State.destroyAll (s : State) : State :=
  let s0 := s.upM (fun m => { m with s0Due := true })
  let s1 := s0.each ((List.range 256).filter (fun k => s0.sliceState k != slFREE && s0.sliceState k != slDESTROYING))
    State.destroySlice
  let s2 := s1.each ((List.range 256).filter (fun k => s1.sliceState k == slDESTROYING && !s1.oldJobs k))
    (fun t k => t.freeSlice k true)
  if s2.mgmt.s0Due ∧ (List.range 256).all (fun k => s2.sliceState k == slFREE) then
    (s2.createS0).upM (fun m => { m with s0Due := false })
  else s2

/-- What every management reset does (R306, R417): requests are held, every Slice destroyed, an open transaction rolled
back, the cores restarted, and the function's tables and configuration space reset. Bus Master Enable is 0 after it, so
the hold goes on. -/
def State.mgmtReset (s : State) (sticky : Bool) : State :=
  let s1 := ((s.beginHold).destroyAll).rollTxn 0xF
  (s1.upM (fun m => m.configReset sticky)).wrapUp GLB_ALIVE.MGMT_RESETS

/-- A Function Level Reset (R306, R417): the standard has it leave Max_Payload_Size, the ASPM control and the link alone (PRESUMED,
log entry 16). -/
def State.functionReset (s : State) : State :=
  (s.mgmtReset false).upM (fun m => { m with
    mps := s.mgmt.mps, aspmL1 := s.mgmt.aspmL1, inL1 := s.mgmt.inL1, turnedOff := s.mgmt.turnedOff })

/-- The management link's state as the host sees it come down (R307, R311). -/
def State.linkDown (s : State) : State :=
  ((((s.off GLB_MGMT_STATUS.LINK_UP).wr GLB_MGMT_STATUS.LINK_RATE 0).wr GLB_MGMT_STATUS.LINK_WIDTH 0).off GLB_MGMT_STATUS.FLIT).deviceQuiet

/-! ## Resets of the device (R413 to R415, R424) -/

/-- Whether a register is held in the always-on domain, which a Pin reset leaves (13; 14, Table 3). -/
def aonKey (k : Nat) : Bool :=
  let x := k / 32
  decide (0x3014 ≤ x) && decide (x < 0x3020) || decide (0x3040 ≤ x) && decide (x < 0x3080) || x == 0x5000

/-- SB_STATUS reports the strapped address (R453). -/
def State.showAddress (s : State) : State := s.wr SB_STATUS.ADDRESS (0x58 + s.power.straps)

/-- The mirrors of every Port under a new era, their transition counts restarted at 1 (R438). -/
def State.newEra (s : State) (era : Nat) : State :=
  (s.setEra era).each (List.range 64) (fun t p => (t.upP p (fun x => { x with transitions := 1 })).publish p)

/-- The state after a reset that reaches everything but what is given: the flash and the fuses stay, and the pins are as
the board drives them. -/
def State.blank (s : State) (regs : Tab Nat) : State :=
  { regs := regs
    flash := s.flash
    fuses := s.fuses
    mgmt := { perst := s.mgmt.perst, wakeN := s.mgmt.wakeN }
    power := { inReset := true, resetN := s.power.resetN, lowRails := s.power.lowRails, aonReset := s.power.aonReset,
               straps := s.power.straps, wokeAt := s.power.wokeAt, wokeFrom := s.power.wokeFrom }
    elapsed := s.elapsed
    outbox := s.outbox
    freeCtr := s.freeCtr
    pending := s.pending }

/-- A Pin reset with a reason (R413, R415, R424, R436). -/
def State.pinReset (s : State) (reason : Nat) : State :=
  let s1 := (s.blank (s.regs.keep aonKey)).newEra (if s.era = 255 then 1 else s.era + 1)
  (((s1.showAddress).wr RST_STATUS.REASON reason).off RST_STATUS.BOOT_DONE).satUp RST_STATUS.PIN_CNT

/-- A Cold reset, or with a latched brown-out an AON brown-out reset (R414, R424): nothing of the always-on record, the
Loft or the era is left. -/
def State.coldReset (s : State) (brownout : Bool) : State :=
  let kept (k : Nat) : Bool := k / 32 == 0x301C || k / 32 == 0x5000
  let s1 := ((s.blank (if brownout then s.regs.keep kept else {})).newEra 1).upPw (fun x => { x with
    aonReset := true, wokeAt := 0, wokeFrom := 0 })
  let s2 := s1.upM (fun m => { m with wakeN := false })
  if brownout then ((s2.wr RST_STATUS.REASON 6).off RST_STATUS.BOOT_DONE).wr RST_STATUS.PIN_CNT 0 else s2

end Sys2Proof.Machine
end

