-- ==== Sys2Proof/Machine/ImgOps.lean ====
section
/-! DEFINITION. Operations of the structure image (09): its authenticity, the choice of a slot, and the boot transaction. -/

namespace Sys2Proof.Machine

/-! ## The bytes of an image (R251) -/

/-- One entry of an image's directory (R251): the section's type, its offset, its length and its CRC-32. -/
structure Section where
  type : Nat
  off : Nat
  len : Nat
  crc : Nat
  deriving DecidableEq, Repr

/-- The Magic of an image (09, Table 2). -/
def imageMagic : List Byte := [0x43, 0x52, 0x49, 0x4D]
/-- The fields of an image's header (09, Table 2); an anti-rollback index above 16 is taken as 16. -/
def imgFormat (bs : List Byte) : Nat := headerField bs 4 2
def imgCount (bs : List Byte) : Nat := headerField bs 6 2
def imgLength (bs : List Byte) : Nat := headerField bs 8 4
def imgTarget (bs : List Byte) : Nat := byteAt bs 12
def imgArb (bs : List Byte) : Nat := min 16 (byteAt bs 13)
def imgAbi (bs : List Byte) : Nat := headerField bs 14 2
def imgSequence (bs : List Byte) : Nat := headerField bs 16 4
def imgConfirmAfter (bs : List Byte) : Nat := headerField bs 20 2
/-- An image's directory (R251). -/
def directory (bs : List Byte) : List Section :=
  (List.range (imgCount bs)).map (fun i =>
    let e := (bs.drop (128 + 16 * i)).take 16
    ⟨headerField e 0 2, headerField e 4 4, headerField e 8 4, headerField e 12 4⟩)
/-- The bytes of a section. -/
def Section.body (bs : List Byte) (x : Section) : List Byte := (bs.drop x.off).take x.len
/-- The bytes of the section of a type, none listed giving none. -/
def sectionOf (bs : List Byte) (type : Nat) : List Byte :=
  match (directory bs).find? (fun x => x.type == type) with
  | some x => x.body bs
  | none => []

/-- The bytes of an image in a slot, none where its Magic or its length shows that there is none (R251). -/
def State.slotImage (s : State) (b : Bool) : Option (List Byte) :=
  let hd := s.flash.read (slotBase b) 12
  if hd.take 4 = imageMagic ∧ imgLength hd ≤ maxImage then some (s.flash.read (slotBase b) (imgLength hd)) else none

/-! ## Authenticity (R252, R255 to R259) -/

/-- Whether a length is one that a section of a type may have (09, Table 3). -/
def sectionOk (type len : Nat) : Bool :=
  if type = 1 then len == 3072
  else if type = 2 then len == 36864
  else if 3 ≤ type ∧ type ≤ 6 then len % 8 == 0
  else if type = 0x10 then decide (len ≤ 2 ^ 20)
  else if type = 0x11 then decide (len ≤ 8 * 2 ^ 20)
  else if type = 0xFF then len == 256
  else true
def requiredSections : List Nat := [1, 2, 3, 0x10, 0x11, 0xFF]
def optionalSections : List Nat := [4, 5, 6]

/-- The number of directory entries of a type. -/
def sectionCount (d : List Section) (type : Nat) : Nat := (d.filter (fun x => x.type == type)).length

/-- Whether two sections share no byte, and whether no two of a list do. -/
def apart (a b : Section) : Bool := decide (a.off + a.len ≤ b.off) || decide (b.off + b.len ≤ a.off)
def allApart : List Section → Bool
  | [] => true
  | x :: xs => xs.all (apart x) && allApart xs

/-- Whether the directory is as R251, R252 and R258 ask: SIGNATURE is the last section and ends the image. -/
def sectionsOk (bs : List Byte) : Bool :=
  let d := directory bs
  decide (6 ≤ imgCount bs) && decide (imgCount bs ≤ 16) && decide (128 + 16 * imgCount bs ≤ bs.length) &&
  d.all (fun x => decide (x.off + x.len ≤ bs.length) && sectionOk x.type x.len) && allApart d &&
  requiredSections.all (fun t => sectionCount d t == 1) && optionalSections.all (fun t => decide (sectionCount d t ≤ 1)) &&
  d.all (fun x => x.type != 0xFF || (x.off + x.len == bs.length && d.all (fun y => decide (y.off ≤ x.off)))) &&
  d.all (fun x => crc32 (x.body bs) == x.crc)

/-- The key digests that an image's key may have: those of the slots that are programmed and not revoked (R256). -/
def State.imageKeys (s : State) : List Nat :=
  (List.range 4).filterMap (fun n => if s.fuses.revoked.contains n then none else lookupKey n s.fuses.keys.entries)

/-- Whether bytes end in a key, r and s whose signature over the rest verifies, and the key's digest is one of those given
(R255 to R257). -/
def signedBy (keys : List Nat) (text sig : List Byte) (rAt : Nat) : Bool :=
  keys.contains (sha384 (sig.take 97)) &&
    ecdsaOk (sig.take 97) (sha384 text) (beNat ((sig.drop rAt).take 48)) (beNat ((sig.drop (rAt + 48)).take 48))

/-- The outer signature: over the image up to the SIGNATURE section, laid out as Table 4 of 09 (R255). -/
def State.outerSigned (s : State) (bs : List Byte) : Bool :=
  signedBy s.imageKeys (bs.take (bs.length - 256)) (bs.drop (bs.length - 256)) 100
/-- The inner signature of a firmware section: its last 193 bytes (R257). -/
def State.innerSigned (s : State) (sec : List Byte) : Bool :=
  decide (193 ≤ sec.length) && signedBy [s.fuses.firmware] (sec.take (sec.length - 193)) (sec.drop (sec.length - 193)) 97

/-- Whether the bytes of an image are authentic (R258). -/
def State.authentic (s : State) (bs : List Byte) : Bool :=
  imgFormat bs == 1 && imgLength bs == bs.length && imgTarget bs == 0x11 && decide (s.fuses.steps ≤ imgArb bs) && sectionsOk bs &&
  s.outerSigned bs && s.innerSigned (sectionOf bs 0x10) && s.innerSigned (sectionOf bs 0x11)

/-- The authentic image of a slot, none where it holds none (R258). -/
def State.slotAuthentic (s : State) (b : Bool) : Option (List Byte) := (s.slotImage b).filter s.authentic

/-- The image of a slot that boot may use (R260). -/
def State.usable (s : State) (b : Bool) : Option (List Byte) :=
  if s.confirmedSlot b ∨ !s.tried b then s.slotAuthentic b else none

/-- The slot that boot picks, with its image: the highest Sequence, slot A on a tie (R260). -/
def State.pickSlot (s : State) : Option (Bool × List Byte) :=
  match s.usable false, s.usable true with
  | some a, some b => if imgSequence a < imgSequence b then some (true, b) else some (false, a)
  | some a, none => some (false, a)
  | none, some b => some (true, b)
  | none, none => none

/-- The numbers in bytes, of k bytes each, little-endian. -/
def wordsOf (k : Nat) (bs : List Byte) : List Nat := (List.range (bs.length / k)).map (fun i => leNat ((bs.drop (k * i)).take k))
/-- A register list: an offset and a value in each entry (R254). -/
def listOf (bs : List Byte) : List (Nat × Nat) := (wordsOf 8 bs).map (fun e => (e % 2 ^ 32, e / 2 ^ 32))

/-- What an image's sections tell the device (R253, R254). -/
def imageOf (bs : List Byte) : Image :=
  { portMap := wordsOf 4 (sectionOf bs 1)
    channelTable := wordsOf 8 (sectionOf bs 2)
    lanePolicy := listOf (sectionOf bs 3)
    sliceDefaults := listOf (sectionOf bs 4)
    powerPolicy := listOf (sectionOf bs 5)
    domain := listOf (sectionOf bs 6) }

/-! ## The image's values (R253, R254, R261) -/

/-- A word of an image stored in the fields that software or the image may set; RO and WO bits are ignored. -/
def State.imageWord (s : State) (x v : Nat) : State :=
  (fieldsAt x).foldl (fun t f => match f.acc with
    | .rw | .rws | .rwt | .rwi => t.wr f.cell (f.fix.apply (t.rd f.cell) (bitsOf v f.cell.lo f.cell.width))
    | _ => t) s

/-- The registers of a Port record, in its order, by their places in the Port's block. -/
def recordPlaces : List Nat := [0x0, 0x4, 0x20, 0x40, 0x44, 0x60, 0x64]

/-- PORT_MAP applied. -/
def State.putPortMap (s : State) (m : List Nat) : State :=
  let t := s.each (List.range 64) (fun t p => (recordPlaces.zipIdx).foldl (fun u e =>
    u.imageWord (0x100000 + 0x1000 * p + e.1) (m.getD (8 * p + e.2) 0)) t)
  t.each (List.range 256) (fun u n => u.imageWord (0x200000 + 0x100 * n) (m.getD (512 + n) 0))

/-- Whether a register list of the given blocks may name a register: it has RWT fields and lies in one of them. -/
def listable (blocks : List Block) (x : Nat) : Bool :=
  (fieldsAt x).any (fun f => f.acc == .rwt) && (match blockOf x with
    | some b => blocks.contains b
    | none => false)

/-- A register list applied in order (R254); LANE_POLICY may also set ENG_CTRL. -/
def State.putList (s : State) (blocks : List Block) (es : List (Nat × Nat)) : State :=
  es.foldl (fun t e =>
    if listable blocks e.1 ∨ (blocks.contains .lanePolicy ∧ e.1 = ENG_CTRL.off) then t.imageWord e.1 e.2 else t) s

/-- Every section but the port map applied; a table entry is stored as R49 has it, one of zeros is not listed (R47, R261). -/
def State.putPolicies (s : State) (i : Image) : State :=
  let t := s.setBct (i.channelTable.zipIdx.foldl (fun b e =>
    if storedEntry e.2 e.1 = 0 ∨ 4608 ≤ e.2 then b else b.set e.2 (storedEntry e.2 e.1)) {})
  (((t.putList [.lanePolicy] i.lanePolicy).putList [.sliceDefaults] i.sliceDefaults).putList [.powerPolicy] i.powerPolicy).putList
    [.domain, .trace] i.domain

/-- The checks of R271 that a boot transaction can fail. -/
def State.bootRefusal (new : State) : Option (Nat × Nat) :=
  (new.checkMap).orElse (fun _ => ((List.range 8).find? new.overCapacity).map (fun t => (8, t)))

/-- The state after a boot transaction that is not refused, and, with the port map Cold, after one that is (R261). -/
def State.bootEnd (all bare : State) (refusal : Option (Nat × Nat)) : State :=
  match refusal with
  | none => all
  | some r => (bare.on IMG_STATUS.STRUCT_REFUSED).wr IMG_STATUS.STRUCT_REASON r.1

/-- The boot transaction (R261): validated and applied at once; where it is refused the port map stays Cold. -/
def State.bootTxn (s : State) (i : Image) : State :=
  let bare := s.putPolicies i
  let all := (bare.putPortMap i.portMap).clamped (List.range 64)
  all.bootEnd (bare.clamped (List.range 64)) all.bootRefusal

/-- IMG_STATUS and IMG_KEYS made to report the fuses (R256, R259). -/
def State.showFuses (s : State) : State :=
  (s.wr IMG_STATUS.ARB_FUSE s.fuses.steps).each (List.range 4) (fun t n =>
    t.wr (IMG_KEYS.SLOT n) (if s.fuses.revoked.contains n then 3
      else if (lookupKey n s.fuses.keys.entries).isSome then 1 else 0))

/-- Registers that a boot leaves as the committed values make them: levels, active Ports, the part's role. -/
def State.bootShow (s : State) : State :=
  let t := (s.showTarget.showActive).showRole
  t.setLevel t.requiredLevel

/-! ## IMG_CMD (R262 to R266) -/

/-- An action of IMG_CMD: refused with BUSY while another is under way; the write wakes the device from IDLE. -/
def State.imgCmd (s : State) (act : State → State) : State :=
  if s.served then
    let t := if s.powerState = 1 then s.wakeDevice .internal none else s
    if t.bit IMG_STATUS.CMD_BUSY then t.wr IMG_STATUS.CMD_RESULT 2 else act t
  else s

/-- The result of an action that is over. -/
def State.imgDone (s : State) (result : Nat) : State :=
  (((s.wr IMG_STATUS.CMD_RESULT result).off IMG_STATUS.CMD_BUSY).setImgOp none).deviceQuiet

/-- The end of an image write: a calibration store that waited for it begins (R221). -/
def State.writeEnd (s : State) (result : Nat) : State :=
  let t := s.imgDone result
  if t.storeWait then t.storeBegin else t

/-- A read of an image or a key hash; one due during a hold ends its action with DMA_FAIL (R303). -/
def State.imgRead (s : State) (u : ReadFor) : State := if s.sliceHeld 0 then s.dmaFail u else s.askRead u

/-- The next stretch of the image asked for, while it is not all there (R264). -/
def State.imgNext (s : State) : State :=
  match s.imgOp with
  | some (.write w) =>
    if w.data.length < w.len then s.imgRead (.image w.data.length (s.piece (w.src + w.data.length) (w.len - w.data.length))) else s
  | _ => s

/-- The running image's slot, true for B. -/
def State.bootedB (s : State) : Bool := s.rd IMG_STATUS.BOOT_SLOT == 2

/-- The running image confirmed (R263): its trailer byte is programmed. -/
def State.confirm (s : State) : State := (s.setTrailer s.bootedB 1).on IMG_STATUS.CONFIRMED

/-- An image write that goes on with a step. -/
def State.atStep (s : State) (w : ImgWrite) (step : Nat) : State := s.setImgOp (some (.write { w with step := step }))

/-- The stretch of flash that a step of an image write works on: the trailer sector, the image's sectors, all but its first, its
first (R264). -/
def ImgWrite.area (w : ImgWrite) : Nat × Nat :=
  if w.step = 1 then (slotTrailer w.toB, 4096)
  else if w.step = 2 then (slotBase w.toB, w.len)
  else if w.step = 3 then (slotBase w.toB + 4096, w.len - 4096)
  else (slotBase w.toB, 4096)

/-- The end of an image write's check (R264): the slot read back is authentic, or its first sector is erased again. -/
def State.writeCheck (s : State) (w : ImgWrite) : State :=
  match s.slotAuthentic w.toB with
  | some _ => (s.setLastWritten (some w.toB)).writeEnd 1
  | none => s.setImgOp (some (.write { w with step := 6, result := 3 }))

/-- A flash operation of an image write that has completed (R264). -/
def State.writeStep (s : State) (w : ImgWrite) : State :=
  if w.step = 1 then (s.flashErase w.area.1 w.area.2).atStep w 2
  else if w.step = 2 then ((s.flashErase w.area.1 w.area.2).atStep w 3).imgNext
  else if w.step = 3 then (if w.data.length = w.len then (s.flashWrite w.area.1 (w.data.drop 4096)).atStep w 4 else s)
  else if w.step = 4 then (s.flashWrite w.area.1 (w.data.take 4096)).atStep w 5
  else if w.step = 5 then s.writeCheck w
  else if w.step = 6 then (s.flashErase w.area.1 w.area.2).writeEnd w.result
  else s

/-- A flash operation of an image write that has failed: FLASH_FAIL, what it worked on being open (R264; log entry 14). -/
def State.writeFails (s : State) (w : ImgWrite) : State :=
  if w.step = 0 then s
  else if w.step = 5 then s.writeEnd 4
  else (s.flashSpoil w.area.1 w.area.2).writeEnd (if w.step = 6 then w.result else 4)

end Sys2Proof.Machine
end

