-- ==== Sys2Proof/Machine/Image.lean ====
section
/-! DEFINITION. The commands of the structure image (09): boot, image writes, confirmation, fuses. -/

namespace Sys2Proof.Machine

/-- The duration of a wake from OFF, which the end of its boot is (R405, R412). -/
def State.wokeFromOff (s : State) : State :=
  if s.rd RST_STATUS.REASON = 4 then s.wr PWR_WAKE_STATUS.WAKE_US (min 16383 ((s.elapsed - s.power.wokeAt) / usUnit)) else s

/-- BOOT (R220, R258 to R262, R318, R354, R389, R393, R394, R433): with the source of the reset over, the boot ROM picks and
copies an image, the calibration table is loaded, the level raised and the boot transaction applied. With no usable image,
or a flash that does not answer, the device enters recovery mode. -/
def execBoot (flashAnswers : Bool) (s : State) : Host.Outcome State Fault Refusal :=
  .next (if !s.power.inReset ∨ !s.power.bootDue ∨ s.power.resetN ∨ s.power.aonReset ∨ s.power.lowRails ≠ [] then s
    else
      let s1 := ((((s.on CLK_STATUS.ROOT_LOCK).on CLK_STATUS.REFCLK_OK).on CLK_STATUS.CORE_SRC).on CLK_STATUS.MCLK_SRC).upPw
        (fun x => { x with inReset := false, bootDue := false, bootedAt := s.elapsed })
      let s2 := (((s1.setLastStore s1.elapsed).showFuses).showAddress).wokeFromOff
      match if flashAnswers then s2.pickSlot else none with
      | none => (s2.on IMG_STATUS.RECOVERY).createS0
      | some (b, bs) =>
        let sure := s2.confirmedSlot b
        let s3 := if s2.tried b ∨ sure then s2 else s2.setTrailer b 0
        let s4 := ((((s3.setChip (some bs)).wr IMG_STATUS.BOOT_SLOT (1 + ofBool b)).wr IMG_STATUS.ENG_FW_SLOT
          (1 + ofBool b)).put IMG_STATUS.CONFIRMED sure).wr IMG_STATUS.ARB_IMAGE (imgArb bs)
        ((((s4.loadCal true).bootTxn (imageOf bs)).bootShow).createS0).on RST_STATUS.BOOT_DONE)

/-- WRITE_SLOT (R262, R264). -/
def State.writeSlot (s : State) (len : Nat) : State :=
  let n := len % 4096
  if n = 0 then s.wr IMG_STATUS.CMD_RESULT 1
  else
    let b := if s.bit IMG_STATUS.RECOVERY then (s.slotAuthentic false).isSome else !s.bootedB
    (s.on IMG_STATUS.CMD_BUSY).setImgOp (some (.write
      { step := if s.calStore.isSome then 0 else 1, toB := b, len := 4096 * n, src := s.imgSrc }))

/-- WRITE_SLOT (R262, R264, R221): into the slot that did not boot; in recovery, into A if it holds no authentic image,
else B. A write waits for a calibration store under way. -/
def execWriteSlot (len : Nat) (s : State) : Host.Outcome State Fault Refusal :=
  .next (s.imgCmd (fun s => s.writeSlot len))

/-- IMG_FLASH_OP_DONE (R221, R258, R264): a flash operation of the image write is over. -/
def execImgFlashOpDone (r : FlashDone) (s : State) : Host.Outcome State Fault Refusal :=
  .next (match s.imgOp with
    | some (.write w) => (match r with
      | .ok => s.writeStep w
      | .failed => s.writeFails w)
    | _ => s)

/-- CONFIRM (R262, R263). -/
def State.confirmCmd (s : State) : State :=
if s.bit IMG_STATUS.RECOVERY then s.wr IMG_STATUS.CMD_RESULT 5 else (s.confirm).wr IMG_STATUS.CMD_RESULT 1

/-- CONFIRM (R262, R263). -/
def execConfirm (s : State) : Host.Outcome State Fault Refusal :=
  .next (s.imgCmd (fun s => s.confirmCmd))

/-- CONFIRM_AFTER_EXPIRY (R263): the time in RUN since boot reaches the image's Confirm after, with no watchdog expiry. -/
def execConfirmAfterExpiry (s : State) : Host.Outcome State Fault Refusal :=
  .next (match s.chip with
    | some bs =>
      if s.power.inReset ∨ s.bit IMG_STATUS.RECOVERY ∨ imgConfirmAfter bs = 0 ∨ s.power.watchdogSeen ∨ s.bit IMG_STATUS.CONFIRMED ∨
          s.powerState ≠ 0 then s
      else (s.advanceTo (s.elapsed + (imgConfirmAfter bs * 1000000 * usUnit - s.power.ranFor))).confirm
    | none => s)

/-- ADVANCE_ARB (R259, R262). -/
def State.advanceArb (s : State) : State :=
  match s.chip with
  | some bs =>
    if s.bit IMG_STATUS.RECOVERY ∨ !s.bit IMG_STATUS.CONFIRMED then s.wr IMG_STATUS.CMD_RESULT 5
    else
      let t := s.setFuses { s.fuses with steps := max s.fuses.steps (imgArb bs) }
      (t.showFuses).wr IMG_STATUS.CMD_RESULT 1
  | none => s.wr IMG_STATUS.CMD_RESULT 5

/-- ADVANCE_ARB (R259, R262): refused unless the running image is confirmed. -/
def execAdvanceArb (s : State) : Host.Outcome State Fault Refusal :=
  .next (s.imgCmd (fun s => s.advanceArb))

/-- Whether the slot written last is authentic and of the running firmware's ABI (R266). -/
def State.swappable (s : State) : Bool :=
  match s.chip, s.lastWritten with
  | some bs, some b => (match s.slotAuthentic b with
    | some new => imgAbi new == imgAbi bs
    | none => false)
  | _, _ => false

/-- SWAP_FW (R262, R266). -/
def State.swapFw (s : State) : State :=
  if s.bit IMG_STATUS.RECOVERY ∨ !s.swappable then s.wr IMG_STATUS.CMD_RESULT 5 else (s.on IMG_STATUS.CMD_BUSY).swapFrom 0

/-- SWAP_FW (R262, R266). -/
def execSwapFw (s : State) : Host.Outcome State Fault Refusal :=
  .next (s.imgCmd (fun s => s.swapFw))

/-- PROGRAM_KEY (R256, R262, R264). -/
def State.programKey (s : State) (slot : Nat) : State :=
  if slot = 0 ∨ s.rd (IMG_KEYS.SLOT slot) ≠ 0 then s.wr IMG_STATUS.CMD_RESULT 5
  else ((s.on IMG_STATUS.CMD_BUSY).setImgOp (some (.key slot))).imgRead .keyHash

/-- PROGRAM_KEY (R256, R262, R264, R284): refused for slot 0 and for a slot that is not empty. -/
def execProgramKey (slot : Fin 4) (s : State) : Host.Outcome State Fault Refusal :=
  .next (s.imgCmd (fun s => s.programKey slot))

/-- REVOKE_KEY (R256, R262). -/
def State.revokeKey (s : State) (slot : Nat) : State :=
  if (List.range 4).any (fun n => n != slot && s.rd (IMG_KEYS.SLOT n) == 1) then
    (s.setFuses { s.fuses with
      revoked := if s.fuses.revoked.contains slot then s.fuses.revoked else s.fuses.revoked ++ [slot] }).showFuses.wr
        IMG_STATUS.CMD_RESULT 1
  else s.wr IMG_STATUS.CMD_RESULT 5

/-- REVOKE_KEY (R256, R262): refused where no slot would stay both programmed and unrevoked. -/
def execRevokeKey (slot : Fin 4) (s : State) : Host.Outcome State Fault Refusal :=
  .next (s.imgCmd (fun s => s.revokeKey slot))

end Sys2Proof.Machine
end

