-- ==== Sys2Proof/Machine/Mgmt.lean ====
section
/-! DEFINITION. The commands of the management function (10; 14, R417; 01, R25). -/

namespace Sys2Proof.Machine

/-! ## Completions of device reads (R298 to R302, R332, R370) -/

/-- A window whose granule list could not be used is closed, and its commands complete (R370). -/
def State.listFailed (s : State) (k w : Nat) : State :=
  let x := s.window k w
  let t := s.closeWindow k w
  let u := match x.opener with
    | some (i, idx, tag, ev) => t.complete k i idx tag (some ev) 0x13 noResult none
    | none => t
  match x.closer with
  | some (i, idx, tag, ev) => u.complete k i idx tag (some ev) 0 noResult none
  | none => u

/-- A Ring fetch has failed (R332): HEAD passes its first entry, whose command completes with a code. -/
def State.fetchFailed (s : State) (k i first code : Nat) : State :=
  if s.ringState k i = rDISABLED then s
  else
    ((((s.takeFront k i (s.nextCmd k i first) false).wr (RNG_STATUS.STATE k i) rERROR).satUp (RNG_STATUS.ERRORS k i)).complete k i
      (s.nextCmd k i first) 0 none code noResult none)

/-- A read has failed, with 5 for a timeout and 6 for an error (R300, R302). -/
def State.readFailed (s : State) (u : ReadFor) (code : Nat) : State :=
  match u with
  | .ring k i first _ => s.fetchFailed k i first code
  | .granules k w _ => s.listFailed k w
  | .dropped _ => s
  | _ => s.dmaFail u

/-- A granule list has arrived (R370). -/
def State.takeGranules (s : State) (k w : Nat) (addrs : List Nat) : State :=
  if addrs.any (fun a => a % 2 ^ 21 != 0) then s.listFailed k w
  else
    let x := s.window k w
    let t := ((s.wr (TRC_WIN_STATUS.STATE k w) 2).wr (TRC_WIN_STATUS.GRANULES k w) addrs.length).upWin k w (fun y => { y with
      granules := addrs
      opener := none })
    match x.opener with
    | some (i, idx, tag, ev) => t.complete k i idx tag (some ev) 0 noResult none
    | none => t

/-- A stretch of a granule list has arrived: the next is asked for, until the list is there (R370). -/
def State.takeList (s : State) (k w : Nat) (bs : List Byte) : State :=
  let t := s.upWin k w (fun x => { x with got := x.got ++ bs })
  if (t.window k w).got.length < 8 * (t.window k w).want then t.askList k w else t.takeGranules k w (wordsOf 8 (t.window k w).got)

/-- A stretch of an image has arrived: the next is asked for, until the image is there; one due during a hold fails (R264, R303). -/
def State.takeImage (s : State) (bs : List Byte) : State :=
  match s.imgOp with
  | some (.write w) => if w.step = 3 then (s.setImgOp (some (.write { w with data := w.data ++ bs }))).imgNext else s
  | _ => s

/-- A key hash has arrived: it is fused into its slot (R256). -/
def State.takeKey (s : State) (digest : Nat) : State :=
  match s.imgOp with
  | some (.key slot) =>
    ((((s.wr (IMG_KEYS.SLOT slot) 1).wr IMG_STATUS.CMD_RESULT 1).off IMG_STATUS.CMD_BUSY).setImgOp none).setFuses
      { s.fuses with keys := s.fuses.keys.set slot digest }
  | _ => s

/-- What a read has brought, once all of it is there; none before (R300). -/
def State.delivered (s : State) (u : ReadFor) (d : ReadData) : Option State :=
  match u, d with
  | .ring k i first n, .entries es =>
    if es.length = n then
      some (s.upR k i (fun r => { r with fetched := es.zipIdx.map (fun e => ((first + e.2) % s.ringSize k i, e.1)) }))
    else none
  | .dropped _, _ => some s
  | .granules k w n, .bytes bs => if bs.length = n then some (s.takeList k w bs) else none
  | .keyHash, .bytes bs => if bs.length = 48 then some (s.takeKey (beNat bs)) else none
  | .image _ n, .bytes bs => if bs.length = n then some (s.takeImage bs) else none
  | _, _ => none

/-- What follows a delivered read: a command Ring's reserved opcodes at the front are taken (R324, R327). -/
def State.afterRead (s : State) (u : ReadFor) : State :=
  match u with
  | .ring k i _ _ => s.kickReads.drain k i 8
  | _ => s.kickReads

/-- A completion whose tag is free, or was retired by a timeout (R301). -/
def State.lateCompletion (s : State) (header : Nat) : State :=
  ((s.uncError 16 true (some header)).on GLB_MGMT_STATUS.LATE_CPL).wrapUp GLB_MGMT_CNT.LATE_CPL_CNT

/-- A poisoned completion sets Master Data Parity Error where Parity Error Response is enabled (R281; PRESUMED, log entry 16). -/
def State.parityError (s : State) : State :=
  s.upM (fun m => { m with status := if bitAt m.command 6 then m.status ||| 2 ^ 24 else m.status })

/-- COMPLETION_RECEIVED (R291, R293, R299 to R302, R332, R370). -/
def execCompletionReceived (tag : TagId) (status : CplStatus) (header : Nat) (data : ReadData) (s : State) :
    Host.Outcome State Fault Refusal :=
  .next (if !s.mgmtUp then s
    else match s.tag tag with
      | .free => s.lateCompletion header
      | .retired _ quiet => if quiet then s else s.lateCompletion header
      | .outstanding u _ =>
        match status with
        | .ok =>
          match (s.setTag tag .free).delivered u data with
          | some t => t.afterRead u
          | none => s
        | .ur => (((s.setTag tag .free).upM (fun m => { m with masterAbort := true })).readFailed u 6).kickReads
        | .ca => (((s.setTag tag .free).upM (fun m => { m with targetAbort := true })).readFailed u 6).kickReads
        | .poisoned => ((((s.setTag tag .free).parityError).uncError 12 true (some header)).readFailed u 6).kickReads)

/-- COMPLETION_TIMEOUT (R298 to R300, R332). -/
def execCompletionTimeout (tag : TagId) (s : State) : Host.Outcome State Fault Refusal :=
  .next (match s.tag tag with
    | .outstanding u since =>
      if s.mgmt.ctoDisable ∨ !s.awake then s
      else
        let s1 := (s.advanceTo (since + s.ctoNow)).retireTag tag false
        (((s1.uncError 14 false none).satUp GLB_MGMT_CNT.TIMEOUTS).readFailed u 5).kickReads
    | _ => s)

/-- TAG_RETIRE_EXPIRY (R299): a read that waits for a tag may take it. -/
def execTagRetireExpiry (tag : TagId) (s : State) : Host.Outcome State Fault Refusal :=
  .next (match s.tag tag with
    | .retired e _ => if s.awake then ((s.advanceTo e).setTag tag .free).kickReads else s
    | _ => s)

/-- Completion Timeout Disable returns to 0 (R298): outstanding reads have their timeouts counted afresh. -/
def State.restartCto (s : State) : State :=
  if s.mgmt.ctoDisable then
    (s.upM (fun m => { m with ctoDisable := false })).setTags ⟨s.tags.entries.map (fun e => (e.1, match e.2 with
      | .outstanding u _ => .outstanding u s.elapsed
      | o => o))⟩
  else s

/-- CTO_DISABLE_CLEAR (R298). -/
def execCtoDisableClear (s : State) : Host.Outcome State Fault Refusal := .next (s.configAsk State.restartCto)

/-! ## Holds (R303 to R305, R307) -/

/-- The management link is lost: on the entry to D3cold, which PME_Turn_Off begins (DEDUCED, log entry 19), requests are held; else it is
a Data Link Down, which is treated as a management Hot reset (R296, R303, R307, R417). -/
def State.linkLost (s : State) : State :=
  if s.mgmt.turnedOff then (s.linkDown).checkHold else (s.linkDown).mgmtReset false

/-- HOLD_START (R303, R307): Bus Master Enable is cleared, or the link comes down. -/
def execHoldStart (cause : HoldCause) (s : State) : Host.Outcome State Fault Refusal :=
  .next (match cause with
    | .bme => s.configAsk (fun s => (s.upM (fun m => { m with bme := false })).checkHold)
    | .link _ _ _ => if !s.mgmtUp then s else if s.rd GLB_MGMT_STATUS.LINK_UP = 0 then s.checkHold else s.linkLost)

/-- HOLD_END (R280, R305, R307, R311): Bus Master Enable is set, or the link comes up; with none of the conditions of R303 left
the hold ends. -/
def execHoldEnd (cause : HoldCause) (s : State) : Host.Outcome State Fault Refusal :=
  .next (match cause with
    | .bme => s.configAsk (fun s => (s.upM (fun m => { m with bme := true })).endHold.releaseJobs)
    | .link r w f =>
      if !s.mgmtUp then s
      else
        (((((s.upM (fun m => { m with turnedOff := false })).on GLB_MGMT_STATUS.LINK_UP).wr GLB_MGMT_STATUS.LINK_RATE r).wr GLB_MGMT_STATUS.LINK_WIDTH w).put
          GLB_MGMT_STATUS.FLIT (f || r == 6)).endHold.releaseJobs)

/-! ## Management resets (R306, R307, R417) -/

/-- FLR (R306, R417). -/
def execFlr (s : State) : Host.Outcome State Fault Refusal := .next (s.configAsk State.functionReset)

/-- MGMT_HOT_RESET (R306, R417): the link also retrains. -/
def execMgmtHotReset (s : State) : Host.Outcome State Fault Refusal :=
  .next (if s.mgmtUp ∧ s.bit GLB_MGMT_STATUS.LINK_UP then (s.linkDown).mgmtReset false else s)

/-- DATA_LINK_DOWN (R307, R417): treated as a management Hot reset, outside the entry to D3cold. -/
def execDataLinkDown (s : State) : Host.Outcome State Fault Refusal :=
  .next (if s.mgmtUp ∧ s.bit GLB_MGMT_STATUS.LINK_UP then s.linkLost else s)

/-- PERST_ASSERT (R295, R417, R426): a Management Fundamental reset, whose effects apply from the assertion. In DEEP the central tile
is unpowered, and the reset leaves what the Loft holds: its effects come when that is restored. -/
def execPerstAssert (s : State) : Host.Outcome State Fault Refusal :=
  let t := (s.upM (fun m => { m with perst := true })).deviceQuiet
  .next (if s.mgmt.perst then s else if s.power.inReset ∨ s.powerState = 4 then t
    else if s.powerState = 3 ∧ !s.entering then t.upM (fun m => { m with perstDue := true })
    else (t.linkDown).mgmtReset true)

/-- PERST_DEASSERT (R295, R296, R401, R417): the function is released, WAKE_N too; in DEEP it is a wake source. -/
def execPerstDeassert (s : State) : Host.Outcome State Fault Refusal :=
  let t := s.upM (fun m => { m with perst := false, wakeN := false })
  .next (if !s.mgmt.perst then s else if t.powerState = 3 then t.wakeDevice .mgmtLink none else t)

/-! ## Power management of the function (R295 to R297) -/

/-- D3HOT_ENTRY (R295, R303). -/
def execD3hotEntry (s : State) : Host.Outcome State Fault Refusal :=
  .next (s.configAsk (fun s => ((s.upM (fun m => { m with d3hot := true })).checkHold).deviceQuiet))

/-- D0_RETURN (R295, R305). -/
def execD0Return (s : State) : Host.Outcome State Fault Refusal :=
  .next (s.configAsk (fun s => (s.upM (fun m => { m with d3hot := false })).endHold.releaseJobs))

/-- PME_TURN_OFF (R296, R303): the message is answered, and reads outstanding are voided; the link goes to L2 or L3 when it
next comes down (DEDUCED, log entry 19). -/
def execPmeTurnOff (s : State) : Host.Outcome State Fault Refusal :=
  .next (if s.mgmtUp ∧ s.bit GLB_MGMT_STATUS.LINK_UP then
      ((s.voidReads (fun _ => true)).upM (fun m => { m with turnedOff := true })).sendUp .pmeToAck
    else s)

/-- ASPM_L1_ENTRY (R297, R311): the link is up in L1 too. -/
def execAspmL1Entry (s : State) : Host.Outcome State Fault Refusal :=
  .next (if s.mgmtUp ∧ s.mgmt.aspmL1 ∧ s.bit GLB_MGMT_STATUS.LINK_UP then s.upM (fun m => { m with inL1 := true }) else s)

/-- ASPM_L1_EXIT (R297): the exit is over, by whichever end it was asked for. -/
def execAspmL1Exit (s : State) : Host.Outcome State Fault Refusal :=
  .next (if s.mgmtUp then s.upM (fun m => { m with inL1 := false }) else s)

/-! ## MSI-X and the beat (R290, R309) -/

/-- A word of the MSI-X table written: the low address holds bits [31:2], the vector control its Mask bit (PRESUMED, log entry 16). -/
def State.putMsix (s : State) (i v : Nat) : State :=
  let w := if i % 4 = 0 then v / 4 * 4 else if i % 4 = 3 then v % 2 else v
  s.upM (fun m => { m with msix := if w = (if i % 4 = 3 then 1 else 0) then m.msix.erase i else m.msix.set i w })

/-- MSIX_UNMASK (R290): the vector's Mask bit is cleared, and the message of its pending bit is sent. -/
def execMsixUnmask (v : Fin 2048) (s : State) : Host.Outcome State Fault Refusal :=
  .next (if s.mgmtUp then (s.putMsix (4 * v + 3) 0).flushMsix else s)

/-- A PME message repeated in D3hot until PME_Status is cleared (R296): at the first beat 100 ms after the last (PRESUMED, log entry
124). -/
def State.repeatPme (s : State) : State :=
  if s.mgmt.d3hot ∧ s.mgmt.pmeEn ∧ s.mgmt.pmeStatus ∧ !s.mgmt.perst ∧ s.mgmt.pmeAt + 100000 * usUnit ≤ s.elapsed then s.sendPme else s

/-- ALIVE_BEAT (R296, R309): the next whole millisecond since boot, while MCLK runs. -/
def execAliveBeat (s : State) : Host.Outcome State Fault Refusal :=
  let ms := 1000 * usUnit
  .next (if s.awake then
      ((s.advanceTo (s.power.bootedAt + ((s.elapsed - s.power.bootedAt) / ms + 1) * ms)).wrapUp GLB_ALIVE.BEAT).repeatPme
    else s)

/-! ## Errors and configuration writes (R291 to R294, R298, R25) -/

/-- MANAGEMENT_LINK_ERROR (R291 to R294). -/
def execManagementLinkError (e : LinkError) (s : State) : Host.Outcome State Fault Refusal :=
  .next (if !s.mgmtUp then s
    else match e with
      | .receiverError => s.corError 0
      | .badTlp => s.corError 6
      | .badDllp => s.corError 7
      | .replayRollover => s.corError 8
      | .replayTimeout => s.corError 12
      | .dataLinkProtocol => s.uncError 4 false none
      | .flowControlProtocol => s.uncError 13 false none
      | .receiverOverflow => s.uncError 17 false none
      | .malformedTlp header => s.uncError 18 false (some header)
      | .poisonedWrite header => s.uncError 12 true (some header))

/-- INTERNAL_ECC_ERROR (R291). -/
def execInternalEccError (corrected : Bool) (s : State) : Host.Outcome State Fault Refusal :=
  .next (if !s.mgmtUp then s else if corrected then s.corError 14 else s.uncError 22 false none)

/-- CORE_WATCHDOG_EXPIRY (R25, R291, R294, R360, R276, R277): commands and transactions stop until the cores restart, an open
transaction is rolled back, and a follower that is locked enters holdover. -/
def execCoreWatchdogExpiry (_core : Fin 4) (s : State) : Host.Outcome State Fault Refusal :=
  .next (if !s.awake then s
    else
      let s1 := (s.uncError 22 false none).upM (fun m => { m with coresDown := true })
      ((s1.rollTxn 0xF).enterHoldover).upPw (fun x => { x with watchdogSeen := true }))

/-- The error bits that the function implements (10, Table 5): uncorrectable and correctable. -/
def uncBits : Nat := 0x577010
def corBits : Nat := 0xF1C1
/-- The Command register's bits that software sets beside Bus Master Enable: memory space, parity response, SERR# and INTx
Disable (R281; PRESUMED, log entry 16). -/
def commandBits : Nat := 0x542
/-- A mask or severity register written: only the implemented bits change. -/
def maskedWrite (old bits v : Nat) : Nat := (old - (old &&& bits)) + (v &&& bits)

/-- A word of configuration space written in the bits that the standard gives it (R281, R282): Cache Line Size and Interrupt Line are
stored, the error bits of Status and Device Status cleared by 1, and the others become what the standard says (log entry 16). -/
def State.putStandard (s : State) (o v : Nat) : State :=
  s.upM (fun m => { m with
    status := if o = 0x04 then m.status - (m.status &&& v) else m.status
    detected := if o = 0x68 then m.detected - (m.detected &&& (v / 2 ^ 16)) else m.detected
    cfg := m.cfg.set o (if o = 0x0C ∨ o = 0x3C then v % 256 else Config.standardWrite o (s.standardWord o) v % 2 ^ 32) })

/-- CONFIGURATION_WRITE (R281 to R283, R290 to R298, R417): the field is stored; a reserved encoding keeps its previous value. -/
def execConfigurationWrite (field : CfgField) (v : Nat) (s : State) : Host.Outcome State Fault Refusal :=
  let b := v % 2 == 1
  .next (s.configAsk (fun s => match field with
      | .maxPayload => if v ≤ 2 then s.upM (fun m => { m with mps := v }) else s
      | .maxReadRequest => if v ≤ 5 then s.upM (fun m => { m with mrrs := v }) else s
      | .relaxedOrdering => s.upM (fun m => { m with ro := b })
      | .completionTimeoutValue =>
        if ([0, 1, 2, 5, 6, 9, 10, 13, 14] : List Nat).contains v then s.upM (fun m => { m with ctoValue := v }) else s
      | .completionTimeoutDisable => if b then s.upM (fun m => { m with ctoDisable := true }) else s.restartCto
      | .aspmL1Enable => s.upM (fun m => { m with aspmL1 := b, inL1 := m.inL1 && b })
      | .msixEnable => (s.upM (fun m => { m with msixEnable := b })).flushMsix
      | .functionMask => (s.upM (fun m => { m with functionMask := b })).flushMsix
      | .pmeEn => s.upM (fun m => { m with pmeEn := b })
      | .pmeStatus => if b then s.upM (fun m => { m with pmeStatus := false }) else s
      | .aerUncMask => s.upM (fun m => { m with uncMask := maskedWrite m.uncMask uncBits v })
      | .aerUncSeverity => s.upM (fun m => { m with uncSeverity := maskedWrite m.uncSeverity uncBits v })
      | .aerCorMask => s.upM (fun m => { m with corMask := maskedWrite m.corMask corBits v })
      | .aerUncStatus => s.upM (fun m => { m with
          uncStatus := m.uncStatus - (m.uncStatus &&& v)
          firstError := match m.firstError with
            | some e => if bitAt v e.1 then none else some e
            | none => none })
      | .aerCorStatus => s.upM (fun m => { m with corStatus := m.corStatus - (m.corStatus &&& v) })
      | .errReportEnables => s.upM (fun m => { m with reports := v % 16 })
      | .commandEnables => s.upM (fun m => { m with command := v &&& commandBits })
      | .bar0 => s.upM (fun m => { m with bar0 := v % 2 ^ 64 / bar2Base * bar2Base })
      | .bar2 => s.upM (fun m => { m with bar2 := v % 2 ^ 64 / bar2Base * bar2Base })
      | .statusMasterAbort => if b then s.upM (fun m => { m with masterAbort := false }) else s
      | .statusTargetAbort => if b then s.upM (fun m => { m with targetAbort := false }) else s
      | .standard o => s.putStandard (o % 4096 / 4 * 4) v))

end Sys2Proof.Machine
end

