-- ==== Sys2Proof/Machine/TraceOps.lean ====
section
/-! DEFINITION. Operations of trace (12): matching an item, records, and their writing to Granary windows. -/

namespace Sys2Proof.Machine

/-! ## Matching (R365 to R368) -/

/-- The encoding of a Standard Side's slot, as Table 3 of 12 numbers it: 8b/10b, 128b/130b or 1b/1b. -/
def slotEncoding (slot : Nat) : Nat := if slot ≤ 1 then 0 else if slot ≤ 4 then 1 else 2
/-- Whether a side's Winnow can observe an item (R365): units come in fabric mode only, which a Port with two Segment Sides may be in
(R160); flits, and what is in them, where the stream is one of flits; an ordered set of a Standard Side in the encoding in use. -/
def State.observes (s : State) (q : Nat) (x : Observed) : Bool :=
  let flits := s.isSeg q || s.bit (PRT_DP_STATUS.FLIT (q / 2))
  match x with
  | .oset enc _ _ => s.isSeg q || enc == slotEncoding (s.rd (PRT_DP_STATUS.SLOT_NOW q)) || (flits && enc == 2)
  | .dllp inFlit _ | .tlp inFlit _ _ _ => inFlit == flits
  | .flit _ => flits
  | .error _ _ _ _ => true
  | .unit => s.isSS (q / 2)

/-- The Port and direction of a Winnow: key 2p + d. -/
def dirBit : Dir → Nat
  | .ab => 0
  | .ba => 1

/-- A match unit's control fields (12, Table 4). -/
def Unit4.kind (u : Unit4) : Nat := bitsOf u.control 28 3
def Unit4.record (u : Unit4) : Bool := bitAt u.control 27
def Unit4.full (u : Unit4) : Bool := bitAt u.control 26
def Unit4.trigger (u : Unit4) : Bool := bitAt u.control 25
def Unit4.once (u : Unit4) : Bool := bitAt u.control 24
def Unit4.armBy (u : Unit4) : Nat := min 4 (bitsOf u.control 21 3)
def Unit4.window (u : Unit4) : Nat := bitsOf u.control 17 4

/-- Bytes cut or filled with zeros to a length. -/
def fitBytes (n : Nat) (bs : List Byte) : List Byte := (bs ++ zeros n).take n

/-- The frame events among the ERROR events, whose key holds the row: an uncorrectable frame, a NAK sent and the start of a replay
(DEDUCED, log entry 125). -/
def frameEvent (code : Nat) : Bool := code == 2 || code == 3 || code == 4

/-- Bytes 0 to 27 of the key of an item (12, Table 3), of the bytes of the flit, the unit or the item. -/
def itemKey (x : Observed) (ide : Bool) (raw : List Byte) : List Byte :=
  match x with
  | .oset enc lanes symbols => leBytes 1 1 ++ leBytes 1 enc ++ leBytes 2 lanes ++ fitBytes 24 (symbols.take 16)
  | .dllp inFlit bytes => leBytes 1 2 ++ leBytes 1 (ofBool inFlit) ++ zeros 2 ++ fitBytes 24 (bytes.take 8)
  | .tlp inFlit dw header data =>
    leBytes 1 3 ++ leBytes 1 (ofBool inFlit + 2 * ofBool ide) ++ leBytes 2 dw ++ fitBytes 16 header ++ fitBytes 8 data
  | .flit _ => leBytes 1 4 ++ leBytes 1 (ofBool ide) ++ zeros 2 ++ fitBytes 24 raw
  | .error code lane reason row => leBytes 1 5 ++ leBytes 1 code ++ leBytes 1 lane ++ leBytes 1 reason ++
    fitBytes 24 (leBytes 4 (if frameEvent code then row else 0))
  | .unit => leBytes 1 6 ++ zeros 3 ++ fitBytes 24 raw

/-- ENC_MASK of an item (R366, R367): the data bytes of an IDE TLP that the key holds, and the bytes of a flit that carry such
data, as the standard places them; a unit has none. -/
def itemCipher (x : Observed) (ide : Bool) : Nat :=
  match x with
  | .tlp _ _ _ data => if ide then (2 ^ min 8 data.length - 1) * 2 ^ 20 else 0
  | .flit carried => if ide then carried % 2 ^ 24 * 2 ^ 4 else 0
  | _ => 0

/-- Whether an enabled and armed unit matches key bytes 0 to 27; a mask bit in a byte of ciphertext forbids it (R367, R368). -/
def Unit4.hits (u : Unit4) (key : List Byte) (enc : Nat) : Bool :=
  u.enabled && u.armed && u.kind == byteAt key 0 &&
  (List.range 28).all (fun i => byteAt key i &&& byteAt u.mask i == byteAt u.value i &&& byteAt u.mask i) &&
  (List.range 28).all (fun i => !bitAt enc i || byteAt u.mask i == 0)

/-- The units after an item that some of them matched: a matched unit with ONCE is disabled, and one armed by a matched
unit is armed for the items that follow. -/
def afterMatch (us : List Unit4) (hit : List Bool) : List Unit4 :=
  (us.zip hit).map (fun e =>
    let u := e.1
    { u with
      enabled := u.enabled && !(e.2 && u.once)
      armed := u.armed || (u.enabled && hit.getD u.armBy false) })

/-! ## Records (R371 to R373) -/

/-- The length of a record in 64-byte units. -/
def TraceRec.units64 (r : TraceRec) : Nat := if r.payload.isSome then 5 else 1

/-- The bytes of a record with its sequence number (12, Table 5). -/
def TraceRec.bytes (r : TraceRec) (seq : Nat) : List Nat :=
  let le (n v : Nat) : List Nat := (leBytes n v).map BitVec.toNat
  let body := (List.range 32).map (fun i => byteAt r.key i)
  [r.type, r.flags, r.port, r.units] ++ le 4 seq ++ le 8 (r.time / 65536) ++ le 2 (r.time % 65536) ++
    le 2 r.units64 ++ le 4 r.count ++ List.replicate 8 0 ++ body ++
    (match r.payload with
      | some p => (List.range 256).map (fun i => byteAt p i)
      | none => [])

/-- The flag TIME_NOT_VALID. -/
def State.timeFlag (s : State) : Nat := 4 * ofBool (s.quality != qVALID)
/-- The Fabric Time in units of 2⁻¹⁶ ns. -/
def State.stampNow (s : State) : Nat := s.now / 65536

/-- The size of a window in 64-byte units. -/
def State.windowSize (s : State) (k w : Nat) : Nat := 32768 * s.rd (TRC_WIN_STATUS.GRANULES k w)

/-- Whether a window takes records: a TRACE window in OPEN or POST that is not being closed. -/
def State.takesRecords (s : State) (k w : Nat) : Bool :=
  s.rd (TRC_WIN_STATUS.KIND k w) == 0 && (s.rd (TRC_WIN_STATUS.STATE k w) == 2 || s.rd (TRC_WIN_STATUS.STATE k w) == 3) &&
  !(s.window k w).closing

/-- A record dropped (R373): DROPS rises, and the next record written follows a DROP record. -/
def State.dropRecord (s : State) (k w time : Nat) : State :=
  (s.wrapUp (TRC_WIN_DROPS.DROPS k w)).upWin k w (fun x => { x with
    dropped := x.dropped + 1
    dropTime := if x.dropped = 0 then time else x.dropTime })

/-- A PAD record that fills the rest of a granule, and a DROP record. -/
def State.padRecord (s : State) : TraceRec := ⟨4, s.timeFlag, 0xFF, 0, 0, 0, [], none⟩
def State.dropRecordOf (s : State) (k w : Nat) : TraceRec :=
  ⟨2, s.timeFlag, 0xFF, 0, (s.window k w).dropTime, (s.window k w).dropped, [], none⟩

/-- Where records of given lengths go from an offset: each with the PAD length before it. -/
def layout (pos size : Nat) : List TraceRec → List (Nat × Nat × TraceRec)
  | [] => []
  | r :: rs =>
    let left := 32768 - pos % 32768
    let pad := if r.units64 ≤ left then 0 else left
    let at_ := (pos + pad) % size
    (pad, at_, r) :: layout ((at_ + r.units64) % size) size rs

/-- One record written at an offset, with the PAD record before it that fills the rest of a granule where there is one (R371). -/
def State.putRecord (s : State) (k w : Nat) (e : Nat × Nat × TraceRec) : State :=
  let out (t : State) (at_ : Nat) (bytes : List Nat) : State :=
    (State.granary bytes.length t k w (64 * at_) true bytes).upWin k w (fun x => { x with written := (x.written + 1) % 2 ^ 32 })
  let size := s.windowSize k w
  let s1 := if e.1 = 0 then s
    else out s (s.rd (TRC_WIN_POS.POS k w)) ((((s.padRecord.bytes (s.window k w).written).set 18 (e.1 % 256)).set 19 (e.1 / 256)) ++
      List.replicate (64 * (e.1 - 1)) 0)
  (out s1 e.2.1 (e.2.2.bytes (s1.window k w).written)).wr (TRC_WIN_POS.POS k w) ((e.2.1 + e.2.2.units64) % size)

/-! ## The DMA share (R374) -/

/-- The interval in which the shares of R374 are counted: 10 µs, in which 6 GB/s are 60,000 bytes and 24 GB/s are 240,000 (DESIGN CHOICE,
log entry 72). -/
def shareSpan : Nat := 10 * usUnit
/-- The bytes counted in the interval in progress, and a count with some more. -/
def State.shareOf (s : State) (x : Nat × Nat) : Nat := if x.1 = s.elapsed / shareSpan then x.2 else 0
def State.shareUp (s : State) (x : Nat × Nat) (n : Nat) : Nat × Nat := (s.elapsed / shareSpan, s.shareOf x + n)

/-- A record for a window (R370 to R374): discarded where the window takes none; dropped where a RING lacks room, requests are held, or
the share of the DMA engine does not hold it with the DROP and PAD records that go with it; in POST one that would pass the post length
freezes the window. A TRIGGER record of an OPEN window with a post length begins POST. -/
def State.writeRecord (s : State) (k w : Nat) (r : TraceRec) : State :=
  if !s.takesRecords k w then s
  else
    let x := s.window k w
    let size := s.windowSize k w
    let recs := if x.dropped = 0 then [r] else [s.dropRecordOf k w, r]
    let plan := layout (s.rd (TRC_WIN_POS.POS k w)) size recs
    let total := (plan.map (fun e => e.1 + e.2.2.units64)).sum
    let free := (s.rd (TRC_WIN_READ.READ k w) + size - s.rd (TRC_WIN_POS.POS k w) % size - 1) % size
    let post := s.rd (TRC_WIN_STATUS.STATE k w) == 3
    if s.sliceHeld k ∨ size = 0 ∨ (s.rd (TRC_WIN_STATUS.MODE k w) = 0 ∧ (free < r.units64 + 1 ∨ free < total)) ∨
        240000 < s.shareOf s.tim.dma + 64 * total then s.dropRecord k w r.time
    else if post ∧ x.postLeft < total then s.wr (TRC_WIN_STATUS.STATE k w) 4
    else
      let t := ((plan.foldl (fun t e => t.putRecord k w e) s).upWin k w (fun y => { y with
        dropped := 0
        postLeft := if post then y.postLeft - total else y.post })).upTim (fun x => { x with dma := s.shareUp x.dma (64 * total) })
      if r.type = 3 ∧ !post ∧ x.post ≠ 0 then t.wr (TRC_WIN_STATUS.STATE k w) 3 else t

/-- A tile's buffered records go to their windows in order, as far as its trace plane carries them in the interval in progress; the
others wait in the buffer (R373, R374). -/
def State.drainBuffer (s : State) (t : Nat) : List (Nat × Nat × TraceRec) → State
  | [] => s.upT t (fun x => { x with buffer := [] })
  | e :: rest =>
    let n := 64 * e.2.2.units64
    if !s.takesRecords e.1 e.2.1 then s.drainBuffer t rest
    else if 60000 < s.shareOf (s.tile t).carried + n then s.upT t (fun x => { x with buffer := e :: rest })
    else ((s.writeRecord e.1 e.2.1 e.2.2).upT t (fun x => { x with carried := s.shareUp x.carried n })).drainBuffer t rest

/-- Whether nothing that is served before trace records is ready to leave (R374): no completion or event that its Ring can take, and
no job result. A Ring fetch leaves as soon as it is due, or waits for a tag. -/
def State.traceTurn (s : State) : Bool :=
  !s.eventReady && !s.engines.entries.any (fun e => match e.2.slot with
    | some j => s.jobState e.1 == 4 && s.canWrite j
    | none => false)

/-- Writes to a window that follow one another, newest first, as few as Max_Payload_Size and the 4 KiB boundary allow (R374). -/
def joinWrites (most : Nat) (news : List Out) : List Out :=
  news.foldr (fun o done => match o, done with
    | .granaryWrite k w pos pasid relaxed bytes, .granaryWrite k' w' pos' pasid' relaxed' bytes' :: rest =>
      if k = k' ∧ w = w' ∧ pasid = pasid' ∧ relaxed = relaxed' ∧ pos = pos' + bytes'.length ∧ bytes'.length + bytes.length ≤ most ∧
          pos' / 4096 = (pos + bytes.length - 1) / 4096 then
        .granaryWrite k w pos' pasid relaxed (bytes' ++ bytes) :: rest
      else o :: done
    | _, _ => o :: done) []
/-- What has left since an earlier state, its writes joined. -/
def State.joined (s old : State) : State :=
  s.setOutbox (joinWrites (128 * 2 ^ s.mgmt.mps) (s.outbox.take (s.outbox.length - old.outbox.length)) ++ old.outbox)

/-- The bytes that a tile's trace buffer holds. -/
def State.bufferBytes (s : State) (t : Nat) : Nat := ((s.tile t).buffer.map (fun e => 64 * e.2.2.units64)).sum

/-- A record queued in a tile's trace buffer (R373). -/
def State.queueRecord (s : State) (t k w : Nat) (r : TraceRec) : State :=
  if !s.takesRecords k w then s
  else if s.sliceHeld k then s.dropRecord k w r.time
  else if 65536 < s.bufferBytes t + 64 * r.units64 then (s.dropRecord k w r.time).wrapUp (TRC_DROPS.COUNT t)
  else s.upT t (fun x => { x with buffer := x.buffer ++ [(k, w, r)] })

/-- Every TRACE window in OPEN or POST receives a TRIGGER record (R380). -/
def State.triggerRecords (s : State) (tl src : Nat) : State :=
  let r : TraceRec := ⟨3, s.timeFlag, 0xFF, 0, tl / 65536, src + 256 * s.rd SNP_STATUS.LATCH_ID, [], none⟩
  s.each ((List.range 256).filter (fun k => s.sliceState k != slFREE)) (fun t k =>
    t.each (List.range 16) (fun u w => u.writeRecord k w r))

end Sys2Proof.Machine
end

