-- ==== Sys2Proof/Machine/Power.lean ====
section
/-! DEFINITION. The commands of power states, clocks and Lane Tile wakes (13; 14, R425 to R431). -/

namespace Sys2Proof.Machine

/-! ## Lane Tile wakes (R28, R31, R397, R407, R408) -/

/-- TILE_WAKE_REQUEST (R28, R31, R401, R407): a cause of Table 9 of 01 asks a tile that is OFF to wake; an access then waits
for it. -/
def execTileWakeRequest (t : TileId) (cause : WakeCause) (s : State) : Host.Outcome State Fault Refusal :=
  .next (match cause with
    | .access isWrite x v =>
      if s.holder x = some t.val ∧ s.accessWaits t then s.hostWrite (fun u => u.tileAccess t ⟨isWrite, x, v⟩) else s
    | .commit => if s.txnState = xVALIDATING ∧ (s.scopeTiles s.staging).contains t.val then s.wakeOnDemand t else s
    | .parkPoll => if s.parked t then (s.wakeDevice .aonTimer none).wakeTile t else s
    | .signalDetect h => if tileOfHalf h = t.val ∧ s.tileState t = 0 then s.sigdetWake h else s)

/-- TILE_RAMP_START (R389, R407): at most one tile is in RAMP, and tiles take their turn in the order of their requests; a tile's
clocks come from the root only. -/
def execTileRampStart (s : State) : Host.Outcome State Fault Refusal :=
  .next (match s.power.ramping, s.power.ramp with
    | none, t :: rest => if s.awake ∧ s.bit CLK_STATUS.ROOT_LOCK then s.upPw (fun x => { x with ramping := some t, ramp := rest }) else s
    | _, _ => s)

/-- TILE_RAMP_DONE (R407): the tile moves to RESTORE. -/
def execTileRampDone (t : TileId) (s : State) : Host.Outcome State Fault Refusal :=
  .next (if s.power.ramping = some t.val then
      (s.upPw (fun x => { x with ramping := none })).upT t (fun x => { x with restoring := true })
    else s)

/-- TILE_RESTORE_DONE (R31, R353, R389, R397, R407): the tile enters ON with its saved registers, its clocks coming from the root. -/
def execTileRestoreDone (t : TileId) (s : State) : Host.Outcome State Fault Refusal :=
  .next (if s.tileState t = 1 ∧ (s.tile t).restoring ∧ s.bit CLK_STATUS.ROOT_LOCK then (s.upT t (fun x => { x with restoring := false })).tileEnters t else s)

/-- A Port whose tile is no longer ON (R31, R397, R445): its sides are in DOWN and SDOWN, its half-lanes lose their power. -/
def State.downPort (s : State) (p : Nat) : State :=
  let hs := s.portMembers p
  let s1 := s.each hs State.rxLeaves
  let s2 := if (s1.stdSides p).isEmpty then s1 else s1.enterDown p
  (s2.each (s2.segSides p) State.toSDown).each hs (fun t h => ((t.releaseRx h).setTx h .idle).upH h (fun x => { x with
    powered := false }))

/-- The engines of a tile that is no longer ON (R246). -/
def State.engineOff (s : State) (k : Nat) : State :=
  (s.upE k (fun e => { e with disabled := s.rd (ENG_STATUS.STATE k) == engDisabled, work := 0, kept := [], quiet := false })).wr (ENG_STATUS.STATE k)
    engOff

/-- Whether nothing holds a tile in ON (R397): no active Port, no access waiting, no job, run or store on its receivers, and
no transaction with one of its Ports in scope. -/
def State.tileIdle (s : State) (t : Nat) : Bool :=
  (s.portsOf t).all (fun p => !s.portActive p) && (s.tile t).accesses.isEmpty &&
  s.rings.entries.all (fun r => r.2.waits.all (fun w => w.1 != t)) &&
  (tileEngines t).all (fun k => (s.engine k).slot.isNone && (s.engine k).queue.isEmpty) &&
  (tileRx t).all (fun h => (s.half h).run.isNone) && s.calStore.isNone && !s.storeWait &&
  (s.txnState == xIDLE || !(s.scopeTiles s.staging).contains t)

/-- TILE_IDLE_EXPIRY (R31, R143, R397): with nothing to hold it in ON for TILE_IDLE, the tile's registers are saved, its Ports are
down, and it is OFF. -/
def execTileIdleExpiry (t : TileId) (s : State) : Host.Outcome State Fault Refusal :=
  .next (if s.tileState t ≠ 2 ∨ !s.tileIdle t then s
    else
      let s0 := s.advanceTo ((s.tile t).quietAt + max 1 (s.rd PWR_TIMERS.TILE_IDLE) * 1000 * usUnit)
      let s1 := s0.each (s.portsOf t) (fun u p => (u.downPort p).noted u p)
      let s2 := (s1.each (tileEngines t) State.engineOff).each (tileRx t) (fun u h =>
        (u.setTx h .idle).upH h (fun x => { x with powered := false }))
      (s2.leavesOn t 0).showDclk t)

/-- Whether a Port calls for a half-lane (R15, R161, R408). -/
def State.calledFor (s : State) (h : Nat) : Bool :=
  match s.claim h with
  | none => false
  | some q =>
    s.tileState (tileOfHalf h) == 2 && !(s.half h).powered &&
    (if s.isSeg q then s.segState q != sDOWN && (s.segHalves q).contains h
     else s.trn (q / 2) != tDOWN && (s.dataHalves q).contains h)

/-- HALF_LANE_POWER_UP (R15, R408): at most one half-lane per 0.2 µs, device-wide. -/
def execHalfLanePowerUp (h : HalfId) (s : State) : Host.Outcome State Fault Refusal :=
  .next (if s.calledFor h then
      let t := s.advanceTo (s.power.poweredAt + 200 * nsUnit)
      (t.upH h (fun x => { x with powered := true })).upPw (fun x => { x with poweredAt := t.elapsed })
    else s)

/-! ## Clocks and levels (R388 to R395) -/

/-- Whether the root PLL has its supply (R387, R388, R403): in RUN and IDLE, and in a wake once the voltage is there. -/
def State.rootMay (s : State) : Bool :=
  !s.power.inReset && match s.power.wake with
    | some w => w.voltage
    | none => decide (s.powerState ≤ 1)

/-- REFCLK_LOST (R390): the cores move to FIOSC and every Lane Tile is held in Tile reset, unless a source holds it there already. -/
def execRefclkLost (s : State) : Host.Outcome State Fault Refusal :=
  .next (if !s.rootMay ∨ !s.bit CLK_STATUS.REFCLK_OK then s
    else
      let s1 := (((((s.off CLK_STATUS.ROOT_LOCK).off CLK_STATUS.REFCLK_OK).off CLK_STATUS.CORE_SRC).off CLK_STATUS.MCLK_SRC).on
        CLK_STATUS.REFCLK_LOST).satUp CLK_STATUS.LOSS_CNT
      let s2 := s1.raiseDev 0x11 0xFF 0xFF 0
      if s.resetsHeld then s2 else s2.each (List.range 8) State.resetTile)

/-- REFCLK_RETURN (R391): REFCLK has counted correctly for 1 ms; the root relocks at ROOT_LOCK. -/
def execRefclkReturn (s : State) : Host.Outcome State Fault Refusal :=
  .next (if s.power.inReset ∨ s.powerState = 4 ∨ s.bit CLK_STATUS.REFCLK_OK then s else s.on CLK_STATUS.REFCLK_OK)

/-- ROOT_LOCK (R388, R389): the cores, MCLK and QCLK switch to the root. -/
def execRootLock (s : State) : Host.Outcome State Fault Refusal :=
  .next (if s.rootMay ∧ s.bit CLK_STATUS.REFCLK_OK ∧ !s.bit CLK_STATUS.ROOT_LOCK then
      ((s.on CLK_STATUS.ROOT_LOCK).on CLK_STATUS.CORE_SRC).on CLK_STATUS.MCLK_SRC
    else s)

/-- The wait after a change of the VID code (R393). -/
def State.vidWait (s : State) : Nat := s.rd PWR_POLICY.VID_WAIT * usUnit

/-- VID_WAIT_EXPIRY (R393, R395, R403): a wake goes on, or the change of level is over and the next one is made. -/
def execVidWaitExpiry (s : State) : Host.Outcome State Fault Refusal :=
  .next (match s.power.wake with
    | some w => (s.advanceTo (s.power.vidAt + s.vidWait)).upPw (fun x => { x with wake := some { w with voltage := true } })
    | none =>
      if s.bit PWR_STATUS.VID_BUSY then
        let t := ((s.advanceTo (s.power.vidAt + s.vidWait)).off PWR_STATUS.VID_BUSY).upPw (fun x => { x with nextLevel := none })
        match s.power.nextLevel with
        | some l => t.askLevel l
        | none => t
      else s)

/-! ## Entering the power states (R398 to R400, R426) -/

/-- Whether a command Ring holds unfetched entries or a command in progress (R399). -/
def State.ringBusy (s : State) (k i : Nat) : Bool :=
  s.rd (RNG_CTRL.KIND k i) == 0 &&
  (s.ringHead k i != s.ringTail k i || !(s.ringx k i).fetched.isEmpty || (s.ringx k i).open_ != 0)

/-- The conditions of IDLE (R399). -/
def State.idleFit (s : State) : Bool :=
  (List.range 8).all (fun t => s.tileState t == 0) &&
  s.activeSlices.all (fun k => (s.enabledRings k).all (fun i => !s.ringBusy k i)) &&
  s.staged.isEmpty && !s.tags.entries.any (fun e => e.2.isOut) && s.mgmt.readQueue.isEmpty &&
  s.txnState == xIDLE && s.imgOp.isNone && s.calStore.isNone && !s.storeWait

/-- Whether the management link is in L2 or L3 (R399, log entry 19). -/
def State.linkOff (s : State) : Bool := s.mgmt.turnedOff && !s.bit GLB_MGMT_STATUS.LINK_UP
/-- The further conditions of SLEEP (R399). -/
def State.sleepFit (s : State) : Bool :=
  s.idleFit && (s.mgmt.d3hot || s.linkOff || s.mgmt.perst) && s.rd TIM_CTRL.TPULSE_MODE != 2
/-- The further conditions of DEEP (R399), at a central-tile temperature in °C. -/
def State.deepFit (s : State) (temp : Int) : Bool :=
  s.sleepFit && s.bit PWR_POLICY.DEEP_EN && (s.linkOff || s.mgmt.perst) && !s.bit TRC_SCHED_CTRL.PENDING &&
  decide (temp ≤ (s.rd PWR_POLICY.DEEP_TMAX : Nat))

/-- The state once the conditions of a deeper power state have held for a time in µs, counted from when the last of them began and
from the entry to the present state (R398, R399). -/
def State.rested (s : State) (us : Nat) : State := (s.advanceTo (s.power.quietAt + us * usUnit)).deviceQuiet

/-- IDLE_ENTRY (R398, R399): after IDLE_TIMER. -/
def execIdleEntry (s : State) : Host.Outcome State Fault Refusal :=
  .next (if s.awake ∧ s.powerState = 0 ∧ s.idleFit then (s.rested (max 1 (s.rd PWR_TIMERS.IDLE_TIMER) * 1000)).wr PWR_STATUS.STATE 1
    else s)

/-- The period of the always-on counter by the latest ratio, in 2⁻³² ns. -/
def State.aonPeriod (s : State) : Nat := s.rd CLK_AON_RATIO.RATIO * 65536
/-- The wait to the next edge of the always-on counter, whose phase nothing reports: a free value of at most one period. -/
def State.edgeWait (s : State) : Nat × State := (s.takeFree.1 % (s.aonPeriod + 1), s.takeFree.2)

/-- The interval of park polls (R404). -/
def State.pollEvery (s : State) : Nat := max 1 (s.rd PWR_TIMERS.PARK_POLL) * 100000 * usUnit
/-- The next park poll after now. -/
def State.nextPoll (s : State) : Nat :=
  s.power.bootedAt + ((s.elapsed - s.power.bootedAt) / s.pollEvery + 1) * s.pollEvery
/-- The instant for which the always-on timer is armed (R400, step 2). -/
def State.timerFor (s : State) : Nat :=
  if s.bit TRC_SCHED_CTRL.PENDING then min s.nextPoll (s.elapsed + (s.tim.schedTime * nsUnit - s.now) - 2000 * usUnit)
  else s.nextPoll

/-- SLEEP_ENTRY (R363, R398 to R400, R409, R457): after SLEEP_TIMER; the commit point is the next edge of the always-on counter, whose
Fabric Time is recorded. No entry begins while a sideband message is in progress. -/
def execSleepEntry (s : State) : Host.Outcome State Fault Refusal :=
  .next (if !s.awake ∨ s.powerState ≠ 1 ∨ !s.sleepFit ∨ s.power.sbBusy then s
    else
      let r := (s.rested (max 1 (s.rd PWR_TIMERS.SLEEP_TIMER) * 10000)).releaseTrig
      let (wait, t) := r.edgeWait
      let f := t.fabricOf wait
      let then_ := t.now + (f - t.loses f)
      let u := (((((t.wr PWR_STATUS.STATE 2).wr PWR_STATUS.VID_CODE 20).off PWR_STATUS.VID_BUSY).off CLK_STATUS.ROOT_LOCK).off
        CLK_STATUS.CORE_SRC).off CLK_STATUS.MCLK_SRC
      ((u.setNow then_).upTim (fun x => { x with slew := x.slew - t.loses f })).upPw (fun x => { x with
        entry := some ⟨t.elapsed + wait, 1, s.rd PWR_STATUS.VID_CODE, some (s.rd PWR_STATUS.VID_BUSY,
          s.rd CLK_STATUS.ROOT_LOCK, s.rd CLK_STATUS.CORE_SRC, s.rd CLK_STATUS.MCLK_SRC), (x.timeAt, x.edgeAt, x.uncertAt)⟩
        timeAt := then_
        edgeAt := t.elapsed + wait
        uncertAt := s.rd TIM_UNCERT.BOUND
        nextLevel := none
        timerAt := some r.timerFor }))

/-- The uncertainty that a number of cycles of the always-on counter adds, in ns: 50 ppm (R363). -/
def State.aonUncert (s : State) (cycles : Nat) : Nat := ceilDiv (cycles * s.rd CLK_AON_RATIO.RATIO * 50) (65536 * 1000000)

/-- DEEP_ENTRY (R363, R398 to R400, R409, R426, R457): after DEEP_TIMER; the Loft is sealed, and no timer is armed. The entry passes its
commit point at the next edge of the always-on counter, counted from that of the entry to SLEEP, whose Fabric Time is recorded. -/
def execDeepEntry (temp : Int) (s : State) : Host.Outcome State Fault Refusal :=
  .next (if s.powerState ≠ 2 ∨ s.power.wake.isSome ∨ !s.deepFit temp ∨ s.power.sbBusy then s
    else
      let t := (s.rested (max 1 (s.rd PWR_TIMERS.DEEP_TIMER) * 10000000)).releaseTrig
      let k := (t.elapsed - s.power.edgeAt) / s.aonPeriod + 1
      let edge := s.power.edgeAt + k * s.aonPeriod
      ((t.wr PWR_STATUS.STATE 3).wr PWR_STATUS.VID_CODE 0).upPw (fun x => { x with
        entry := some ⟨edge, 2, s.rd PWR_STATUS.VID_CODE, none, (x.timeAt, x.edgeAt, x.uncertAt)⟩
        timeAt := x.timeAt + k * s.aonPeriod
        edgeAt := edge
        uncertAt := x.uncertAt + s.aonUncert k
        sealed := true
        timerAt := none }))

/-- OFF_ENTRY (R398, R399): after OFF_TIMER, with the conditions of DEEP but for the temperature, which is that at its
entry; the Loft is unpowered. -/
def execOffEntry (s : State) : Host.Outcome State Fault Refusal :=
  .next (if s.powerState = 3 ∧ s.power.wake.isNone ∧ s.deepFit 0 ∧ s.bit PWR_POLICY.OFF_EN then
      ((s.rested (max 1 (s.rd PWR_TIMERS.OFF_TIMER) * 3600000000)).wr PWR_STATUS.STATE 4).upPw (fun x => { x with entry := none, sealed := false })
    else s)

/-! ## Wake sources (R401 to R404) -/

/-- Whether the sideband answers (R402, R457): in RUN, in IDLE, and from SLEEP once the cores have started; not in DEEP and
OFF, nor while a reset holds the device. -/
def State.sbUp (s : State) : Bool :=
  !s.power.aonReset && (!s.power.inReset || s.power.bootDue) &&
  (decide (s.powerState ≤ 1) || (s.powerState == 2 && (match s.power.wake with | some w => w.voltage | none => false)))

/-- A message addressed to the device begins, and is counted (R459); one in progress goes on. -/
def State.sbBegin (s : State) : State :=
  if s.power.sbBusy then s else (s.upPw (fun x => { x with sbBusy := true })).wrapUp SB_CNT.MESSAGES

/-- SB_ADDRESS_MATCH (R401, R402, R457, R459): a wake source; a message begins where the sideband answers, now or once the device is
awake from SLEEP. -/
def execSbAddressMatch (s : State) : Host.Outcome State Fault Refusal :=
  let t := s.wakeDevice .sbMatch none
  .next (if t.sbUp ∨ (t.powerState ≤ 2 ∧ !s.power.inReset) then t.sbBegin else t)

/-- WAKE_IN (R401, R405, R415, R458): from OFF the wake is a Pin reset, and an alert that was pending is asserted again. -/
def execWakeIn (s : State) : Host.Outcome State Fault Refusal :=
  .next (if s.powerState = 4 ∧ !s.power.inReset then
      ((s.recordWake .wakeIn none 4).pinReset 4).wr SB_STATUS.ALERT_PENDING (s.rd SB_STATUS.ALERT_PENDING)
    else s.wakeDevice .wakeIn none)

/-- MGMT_LINK_WAKE (R401): any request in IDLE, electrical-idle exit in SLEEP. The deassertion of PERST_N in DEEP is
PERST_DEASSERT's. -/
def execMgmtLinkWake (s : State) : Host.Outcome State Fault Refusal :=
  .next (if s.powerState = 3 then s else s.wakeDevice .mgmtLink none)

/-- A park poll (R404): the device leaves IDLE or SLEEP, and the tiles parked then wake together. -/
def State.poll (s : State) : State := (s.wakeDevice .aonTimer none).each ((List.range 8).filter s.parked) State.wakeTile

/-- PARK_POLL (R401, R404): the next poll falls due; none is made in DEEP and OFF. -/
def execParkPoll (s : State) : Host.Outcome State Fault Refusal :=
  .next (if s.power.inReset ∨ 2 < s.powerState then s else (s.advanceTo s.nextPoll).poll)

/-- ALWAYS_ON_TIMER_WAKE (R400, R401, R404): armed for a park poll, the timer's expiry is that poll. -/
def execAlwaysOnTimerWake (s : State) : Host.Outcome State Fault Refusal :=
  .next (match s.power.timerAt with
    | some e =>
      if s.powerState ≠ 2 then s
      else if s.power.bootedAt < e ∧ (e - s.power.bootedAt) % s.pollEvery = 0 then (s.advanceTo e).poll
      else (s.advanceTo e).wakeDevice .aonTimer none
    | none => s)

/-! ## The end of a wake (R363, R403, R405, R425 to R431) -/

/-- Fabric Time restored at an edge of the always-on counter, a number of its cycles after the entry edge (R363); the uncertainty of a
holdover rises from there (R360). -/
def State.restoreTime (s : State) (cycles : Nat) : State :=
  let t := s.setNow (s.power.timeAt + cycles * s.aonPeriod)
  if s.quality = qINVALID ∨ !s.tim.ratioOk then t.toQuality qINVALID
  else
    let bound := min 0xFFFFFFFF (s.aonUncert cycles + s.power.uncertAt)
    ((t.toQuality qESTIMATED).wr TIM_UNCERT.BOUND bound).upTim (fun x =>
      if s.bit TIM_STATUS.HOLDOVER then { x with base := bound, lastAt := s.elapsed } else x)

/-- RUN entered at the end of a wake: its duration is recorded (R403). -/
def State.enterRun (s : State) (us : Nat) : State :=
  ((s.deviceQuiet.wr PWR_STATUS.STATE 0).wr PWR_WAKE_STATUS.WAKE_US (min us 16383)).upPw (fun x => { x with
    wake := none, entry := none, timerAt := none })

/-- SLEEP_WAKE_DONE (R363, R389, R403): the root is locked, and Fabric Time is restored at the next edge, a time in µs after the
wake's source. -/
def execSleepWakeDone (aonCycles us : Nat) (s : State) : Host.Outcome State Fault Refusal :=
  .next (match s.power.wake with
    | some w => if w.from_ = 2 ∧ w.voltage ∧ s.bit CLK_STATUS.ROOT_LOCK then
        ((s.advanceTo (w.at_ + us * usUnit)).restoreTime aonCycles).enterRun us
      else s
    | none => s)

/-- The field of a cell's key, if it is one of the map. -/
def fieldOf (key : Nat) : Option Field := (fieldsAt (key / 32)).find? (fun f => f.cell.lo == key % 32)
/-- Whether a key's field has one of some access kinds. -/
def keyIs (key : Nat) (accs : List Access) : Bool :=
  match fieldOf key with
  | some f => accs.contains f.acc
  | none => false

/-- Whether a key lies in the Slice rows of Table 3 of 14: Loft 6 (R425). -/
def sliceKey (key : Nat) : Bool :=
  let x := key / 32
  (decide (0x30000 ≤ x) && decide (x < 0x38000)) || (decide (0x20800 ≤ x) && decide (x < 0x20C00)) || decide (bar2Base ≤ x) ||
    (decide (0x81000 ≤ x) && decide (x < 0x81100))
/-- Whether an offset lies in the PRT_, LCH_, ENG_ or CAL_RX registers, whose counters and status bits Loft 7 holds (R425). -/
def statusBlock (x : Nat) : Bool :=
  (decide (0x100000 ≤ x) && decide (x < 0x140000)) || (decide (0x200000 ≤ x) && decide (x < 0x210000)) ||
   (decide (0x20400 ≤ x) && decide (x < 0x20800)) || (decide (0x11000 ≤ x) && decide (x < 0x11800))
/-- Whether a key lies in Loft 5 (R425, R452): stored fields of the central tile, sticky fields, TXN_STATUS, the log, and the
training and segment state of the Ports, with what a commit has computed for them. -/
def loft5Key (key : Nat) : Bool :=
  let x := key / 32
  !sliceKey key && !aonKey key &&
  (keyIs key [.rwt, .rw, .rws] || (keyIs key [.rw1cs] && !statusBlock x) || x == 0x2004 || (decide (0x7000 ≤ x) && decide (x < 0x8000)) ||
   (decide (0x100000 ≤ x) && decide (x < 0x140000) && keyIs key [.ro] && !(x % 0x1000 == 0x8 && key % 32 == 16) &&
    ([0x0, 0x8, 0x24, 0x40, 0x44, 0x48, 0x4C] : List Nat).contains (x % 0x1000)))
/-- Whether a key lies in Loft 7 (R425): counters and status bits. -/
def loft7Key (key : Nat) : Bool :=
  let x := key / 32
  !loft5Key key && !sliceKey key &&
  (statusBlock x || x == GLB_MGMT_CNT.off || x == GLB_ALIVE.off || x == RST_CNT.off || (decide (0x80040 ≤ x) && decide (x < 0x80060)))
/-- What the central tile loses in DEEP, no bank of the Loft holding it (14, Table 3): the state of its clocks, of the
sideband, of the management function's status, the beat, the snapshot copies and the Common Trigger. -/
def deepLoses (key : Nat) : Bool :=
  let x := key / 32
  x == CLK_STATUS.off || x == SB_STATUS.off || x == SB_CNT.off || x == GLB_MGMT_STATUS.off || key == GLB_ALIVE.BEAT.key ||
    ((x == TRC_SCHED_CTRL.off || (decide (0xFF000 ≤ x) && decide (x < 0x100000))) && keyIs key [.ro, .rw1c])

/-- The central tile after DEEP, before the Loft's failures are acted on (R424, R438): what DEEP loses is Cold, the era is a
new one; an alert that was pending is asserted again (R458). -/
def State.afterDeep (s : State) : State :=
  let r := (s.setRegs (s.regs.keep (fun k => !deepLoses k))).setEngines
    ⟨s.engines.entries.map (fun e => (e.1, { disabled := e.2.disabled }))⟩
  let t := (((r.setTags {}).setSnap {}).upTim (fun x => { x with
    sides := {}, latch := none, seen := 0, flood := false, schedTime := 0, trigOut := false, slew := 0 })).upM (fun m => m.configReset false)
  let u := (((((t.on CLK_STATUS.ROOT_LOCK).on CLK_STATUS.REFCLK_OK).on CLK_STATUS.CORE_SRC).on CLK_STATUS.MCLK_SRC).wr
    SB_STATUS.ALERT_PENDING (s.rd SB_STATUS.ALERT_PENDING)).showAddress
  u.newEra (if s.era = 255 then 1 else s.era + 1)

/-- The Slices and their Rings as a failed Loft 6 leaves them: none but a new S0 (14, Table 5). -/
def State.loseSlices (s : State) : State :=
  let t := (s.setRegs (s.regs.keep (fun k => !sliceKey k))).setSlices {}
  (((((t.setRings {}).setWinnows {}).setWindows {}).setStaged []).setEvq []).createS0

/-- A failed bank of the Loft rebuilt (R428; 14, Table 5). With Loft 5 the port map is gone too: what its Ports claimed is as a
Restructure reset leaves it, the image's map claiming it or not (R15, R165). -/
def State.rebuild (s : State) (b : Nat) : State :=
  if b < 4 then
    (s.each (tileRx (2 * b) ++ tileRx (2 * b + 1)) (fun t h => t.upH h (fun x => { x with conv := none }))).each
      (s.portsOf (2 * b) ++ s.portsOf (2 * b + 1)) State.portReset
  else if b = 4 then s.loadCal true
  else if b = 5 then
    let q := s.each ((List.range 64).filter s.enabled) (fun u p => u.quietPort p none)
    let t := ((q.setRegs (q.regs.keep (fun k => !loft5Key k))).setBct {}).upM (fun m => { m.configReset true with
      pmeEn := false, pmeStatus := false })
    let u := match s.chip with
      | some bs => (t.bootTxn (imageOf bs)).bootShow
      | none => t
    u.each ((List.range 64).filter u.enabled) State.restructure
  else if b = 6 then s.loseSlices
  else
    ((s.setRegs (s.regs.keep (fun k => !loft7Key k))).setEngines {}).each (List.range 512) State.showPoints

/-- Fabric Time at the end of a reload (R363, R405): restored at the first edge of the always-on counter after ROOT_LOCK, it has counted
from there. -/
def State.restoreEarlier (s : State) (cycles : Nat) : State :=
  let t := s.restoreTime cycles
  t.setAt (t.now + t.fabricOf (s.elapsed - (s.power.edgeAt + cycles * s.aonPeriod)))

/-- A management reset that PERST_N asked for in DEEP takes effect once the wake has restored what the Loft holds (R417, R426). -/
def State.duePerst (s : State) : State :=
  if s.mgmt.perstDue then ((s.upM (fun m => { m with perstDue := false })).linkDown).mgmtReset true else s

/-- A fall of THERMTRIP_N in DEEP reaches what the wake has restored: a reset narrower than the device's does not write the Loft
(R416, R426). -/
def State.dueTrip (s : State) : State :=
  if s.power.tripDue then
    ((s.upPw (fun x => { x with tripDue := false })).raiseDev 0x12 0xFF 0xFF 0).each (List.range 8) State.resetTile
  else s

/-- DEEP_WAKE_RELOAD_DONE (R258, R363, R405, R424 to R431, R438, R458): the image of the slot that booted is read again, from a flash
that answers or not, and checked. A reload that fails discards the Loft and is a Pin reset; else the banks that were sealed and
whose CRCs match are restored, and the others rebuilt, with an event for each; the
mirrors are those of what the wake has restored (R439). -/
def execDeepWakeReloadDone (flashAnswers : Bool) (loftPass : List Bool) (aonCycles us : Nat) (s : State) : Host.Outcome State Fault Refusal :=
  .next (match s.power.wake with
    | some w =>
      if w.from_ ≠ 3 ∨ !w.voltage ∨ !s.bit CLK_STATUS.ROOT_LOCK then s
      else match if flashAnswers then s.slotAuthentic s.bootedB else none with
      | none => (s.pinReset 5).wr SB_STATUS.ALERT_PENDING (s.rd SB_STATUS.ALERT_PENDING)
      | some image =>
        let bad := (List.range 8).filter (fun b => !(s.power.sealed && loftPass.getD b false))
        let s1 := (((((s.advanceTo (w.at_ + us * usUnit)).setChip (some image)).restoreEarlier aonCycles).afterDeep).wr IMG_STATUS.ENG_FW_SLOT
          (1 + ofBool s.bootedB)).upPw (fun x => { x with sealed := false })
        let s2 := s1.wr PWR_WAKE_STATUS.LOFT_FAIL (s1.rd PWR_WAKE_STATUS.LOFT_FAIL ||| (bad.map (fun b => 2 ^ b)).sum)
        let s3 := (s2.each (([7, 5, 6, 4, 0, 1, 2, 3] : List Nat).filter bad.contains) State.rebuild).enterRun us
        ((s3.duePerst).dueTrip.each bad (fun t b => t.raiseDev 0x10 b 0xFF 0)).each (List.range 64) State.publish
    | none => s)

end Sys2Proof.Machine
end

