-- ==== Sys2Proof/Machine/Resets.lean ====
section
/-! DEFINITION. The commands of resets (14) and of faults that reach a whole Lane Tile or Port side (15). -/

namespace Sys2Proof.Machine

/-! ## The whole device (R411, R413 to R416, R424, R433, R453) -/

/-- COLD_RESET (R413, R414, R424): VDD_AON has risen again after falling below 1.0 V. -/
def execColdReset (s : State) : Host.Outcome State Fault Refusal := .next (s.coldReset false)

/-- AON_BROWNOUT (R411, R413, R414): the cause is latched, and the latch outlives the reset. -/
def execAonBrownout (cause : BrownoutCause) (s : State) : Host.Outcome State Fault Refusal :=
  let s1 := s.on PWR_AON_STATUS.BOR
  let s2 := match cause with
    | .load => s1.on PWR_AON_STATUS.LOAD
    | .supply => s1.on PWR_AON_STATUS.SUPPLY
  .next (s2.coldReset true)

/-- ALWAYS_ON_RESET_RELEASE (R393, R413, R432, R453): the straps are sampled, and VID is driven with 0x2C. -/
def execAlwaysOnResetRelease (straps : Fin 8) (s : State) : Host.Outcome State Fault Refusal :=
  .next (if s.power.aonReset then
      ((s.upPw (fun x => { x with aonReset := false, straps := straps })).showAddress).wr PWR_STATUS.VID_CODE 0x2C
    else s)

/-- A source of a Pin reset (R413, R415, R421): one that finds a reset of the device under way merges into it; one that comes after
the reset's end, with the boot still due, is a reset of its own. -/
def State.pinSource (s : State) (reason : Nat) : State :=
  if s.power.inReset ∧ !s.power.bootDue then s else s.pinReset reason

/-- RESET_N_ASSERT (R413, R415). -/
def execResetNAssert (s : State) : Host.Outcome State Fault Refusal :=
  .next (if s.power.resetN then s else (s.upPw (fun x => { x with resetN := true })).pinSource 1)

/-- RESET_N_DEASSERT (R413, R415, R432, R433): RESET_N is released, or 10 µs have passed since an internal source; boot is due
unless another source still holds the reset. -/
def execResetNDeassert (s : State) : Host.Outcome State Fault Refusal :=
  let s1 := if s.power.resetN then s.upPw (fun x => { x with resetN := false }) else s
  .next (if s.power.inReset ∧ !s.power.bootDue then
      let s2 := if s.power.resetN then s1 else s1.advance (10 * usUnit)
      if s.power.aonReset ∨ s.power.lowRails ≠ [] then s1 else s2.upPw (fun x => { x with bootDue := true })
    else s1)

/-- SUPPLY_MONITOR (R415): in any state but DEEP and OFF. -/
def execSupplyMonitor (rail : Rail) (s : State) : Host.Outcome State Fault Refusal :=
  .next (if s.powerState = 3 ∨ s.powerState = 4 ∨ s.power.aonReset then s
    else (s.upPw (fun x => { x with
      lowRails := if x.lowRails.contains rail then x.lowRails else x.lowRails ++ [rail] })).pinSource 3)

/-- SUPPLY_RECOVERED (R415): every monitored rail has been back for 1 ms. -/
def execSupplyRecovered (s : State) : Host.Outcome State Fault Refusal := .next (s.upPw (fun x => { x with lowRails := [] }))

/-! ## RST_CMD (R415, R418, R420, R436) -/

/-- DEVICE (R415). -/
def State.rstDevice (s : State) (key : Nat) : State :=
if key % 256 = 0x5A then s.pinSource 2 else s

/-- RST_DEVICE (R415, R436): only with KEY = 0x5A. -/
def execRstDevice (key : Nat) (s : State) : Host.Outcome State Fault Refusal :=
  .next (s.hostCmd (fun s => s.rstDevice key))

/-- RST_PORT (R418, R421, R436). -/
def execRstPort (index : Nat) (s : State) : Host.Outcome State Fault Refusal :=
  .next (s.hostCmd (fun s => s.portReset (index % 64)))

/-- RST_TILE (R420, R421, R436, R446): INDEX is clamped to 7; a tile that stays FENCED leaves it too. -/
def execRstTile (index : Nat) (s : State) : Host.Outcome State Fault Refusal :=
  .next (s.hostCmd (fun s => s.tileReset (min 7 (index % 64))))

/-! ## The end of a reset (R391, R418 to R421, R446) -/

/-- PORT_RESET_DONE (R418, R419): a Port or Restructure reset is over. -/
def execPortResetDone (p : PortId) (s : State) : Host.Outcome State Fault Refusal :=
  .next (if s.awake ∧ ((s.portx p).reset = some .port ∨ (s.portx p).reset = some .restructure) then
      (s.upP p (fun x => { x with reset := none })).startPort p
    else s)

/-- TILE_RESET_DONE (R31, R391, R416, R420, R446): the tile goes to ON, unless REFCLK is lost or THERMTRIP_N holds it. -/
def execTileResetDone (t : TileId) (s : State) : Host.Outcome State Fault Refusal :=
  .next (if s.tileState t = 3 ∧ !s.resetsHeld ∧ s.bit CLK_STATUS.ROOT_LOCK then
      (s.upT t (fun x => { x with leftReset := some s.elapsed, stayFenced := false })).tileEnters t
    else s)

/-- THERMTRIP (R416, R421, R426, R458, R471): every Lane Tile is held in Tile reset, unless a source holds it there already, and the
sideband is alerted. In a reset of the device, which reaches the tiles, the resets merge into it; in DEEP, past the commit point of its
entry, they wait for the wake. -/
def execThermtrip (s : State) : Host.Outcome State Fault Refusal :=
  .next (if s.power.thermtrip ∨ s.powerState = 4 then s
    else
      let s1 := (s.upPw (fun x => { x with thermtrip := true })).on RST_STATUS.THERMTRIP_SEEN
      let s2 := if s1.bit SB_CTRL.ALERT_EN then s1.on SB_STATUS.ALERT_PENDING else s1
      if s.power.inReset then s2
      else if s.powerState = 3 ∧ !s.entering then s2.upPw (fun x => { x with tripDue := true })
      else
        let s3 := s2.raiseDev 0x12 0xFF 0xFF 0
        if s.resetsHeld then s3 else s3.each (List.range 8) State.resetTile)

/-! ## Fencing (R30, R31, R443 to R446) -/

/-- The code of a cause (15, Table 4). -/
def fenceCode : FenceCause → Nat
  | .memory => 1
  | .dclk => 2
  | .controlPlane => 3
  | .supply => 4

/-- The job in an engine's slot ends because its tile has left ON (R236, R238): its receiver is at rest, and the results of the steps it
completed are written; one that only holds its results goes on holding them (R240). -/
def State.cutJob (s : State) (k : Nat) : State :=
  match (s.engine k).slot with
  | some j => if s.jobState k = 4 then s else (s.restoreRx j.half).finishJob k { j with cause := some (j.cause.getD 5) }
  | none => s

/-- TILE_FENCE (R31, R236, R444 to R448): the transmitters are idle, the Ports down with their counts raised, the jobs ended and the runs
ended with ABORTED. One within 1 s of leaving RESET stays. -/
def execTileFence (t : TileId) (cause : FenceCause) (s : State) : Host.Outcome State Fault Refusal :=
  .next (if s.tileState t ≠ 2 then s
    else
      let ports := s.portsOf t
      let s0 := (s.tileLost t).each (tileRx t) State.clearRun
      let s1 := s0.each ports (fun u p => (u.downPort p).bump p)
      let s2 := s1.each (tileEngines t) (fun u k => (u.cutJob k).engineOff k)
      let s3 := s2.each (tileRx t) (fun u h => ((u.setTx h .idle)).upH h (fun x => { x with powered := false }))
      let again := match (s.tile t).leftReset with
        | some r => (s.tile t).wasFenced && decide (s.elapsed < r + 1000000 * usUnit)
        | none => false
      let s4 := ((s3.leavesOn t 4).upT t (fun x => { x with
        fencedAt := s.elapsed
        wasFenced := true
        stayFenced := again })).drainAccesses t
      (s4.raiseFor 0x0F none ports t 0xFF (fenceCode cause)).resumeWaits t)

/-- AUTO_TILE_RESET (R446): 10 ms after the fence. -/
def execAutoTileReset (t : TileId) (s : State) : Host.Outcome State Fault Refusal :=
  .next (if s.bit ERR_CTRL.AUTO_TILE_RESET ∧ s.tileState t = 4 ∧ !(s.tile t).stayFenced then
      (s.advanceTo ((s.tile t).fencedAt + 10000 * usUnit)).tileReset t
    else s)

/-- REPLAY_MEMORY_ERROR (R189, R443, R447): the side is faulted; one that is not in SACTIVE holds no slot and no flit. -/
def execReplayMemoryError (q : SideId) (s : State) : Host.Outcome State Fault Refusal :=
  .next (if s.isSeg q ∧ s.segState q = sACTIVE then (s.faultSide q 4).noted s (q / 2) else s)

end Sys2Proof.Machine
end

