-- ==== Sys2Proof/Machine/Time.lean ====
section
/-! DEFINITION. The commands of Fabric Time (12). -/

namespace Sys2Proof.Machine

/-- TIME_FRAME_SEND (R147, R356, R357, R358, R382): a TIME frame falls due on a side, one in every 256 rows, with the stamp that its
departure will have. One that was not sent while TIME frames were off is not made up for, and none falls due while the one before
still waits. A switch of before no longer concerns a frame that takes its Sequence again. -/
def execTimeFrameSend (q : SideId) (departure : Nat) (s : State) : Host.Outcome State Fault Refusal :=
  .next (if s.timeFrames q ∧ !s.bit TIM_CTRL.TIME_FRAMES_OFF ∧ 256 * (s.timeSide q).due ≤ (s.seg q).rows ∧
      (s.seg q).timeDue.isNone then
      (s.upS q (fun x => { x with timeDue := some (s.timePayload q) })).upTs q (fun y => { y with
        next := (y.next + 1) % 256
        due := (s.seg q).rows / 256 + 1
        txMoved := if y.txMoved = some y.next then none else y.txMoved
        sent := ((y.next, departure) :: y.sent).take 255 })
    else s)

/-- What a TIME frame tells of its sender is kept; a MASTER that is told of another master says so (R355). -/
def State.notePeer (s : State) (q : Nat) (m : List Byte) (arrival : Nat) : State :=
  let p : TimePeer := ⟨byteAt m 1, leNat ((m.drop 2).take 2), leNat ((m.drop 4).take 2), byteAt m 6, byteAt m 7, arrival⟩
  let t := s.upTs q (fun y => { y with peer := some p, rxMoved := false })
  if s.role = roleMASTER ∧ (bitAt p.flags 1 ∨ bitAt p.flags 3) ∧ p.master ≠ s.rd GLB_FABRIC_ID.FABRIC_ID then
    t.on TIM_STATUS.CONFLICT
  else t

/-- TIME_FRAME_RECEIVED (R32, R355, R358 to R360, R382): the sender is noted and the parent chosen again; a frame of the parent
completes a measurement, which is accepted unless R358 discards it or the cores are down; a schedule newer than the last is taken. -/
def execTimeFrameReceived (q : SideId) (payload : List Byte) (arrival : Nat) (s : State) : Host.Outcome State Fault Refusal :=
  .next (if s.timeFrames q ∧ byteAt payload 0 = 1 then
      let flags := byteAt payload 1
      let s1 := s.notePeer q payload arrival
      let s2 := if s.role ≠ roleFOLLOWER ∨ s.mgmt.coresDown then s1 else match s1.parent with
        | none => if s1.bit TIM_STATUS.LOCKED then s1 else s1.noMaster
        | some c =>
          let s3 := s1.showParent c
          if c.side ≠ some q.val then s3 else match s.timeMeasure q payload with
            | none => s3
            | some (theta, delay) =>
              if delayOff (s.timeSide q).delays delay then s3
              else (s3.upTs q (fun y => { y with delays := (delay :: y.delays).take 8 })).measured theta (bitAt flags 0)
      if bitAt flags 4 ∧ newer256 (byteAt payload 40) s2.tim.seen then
        s2.takeSchedule (byteAt payload 40) (leNat ((payload.drop 32).take 8)) true
      else s2
    else s)

/-- HOLDOVER_ENTRY (R360): no measurement has been accepted for 1 ms. -/
def execHoldoverEntry (s : State) : Host.Outcome State Fault Refusal :=
  .next (if s.awake ∧ s.role = roleFOLLOWER ∧ s.bit TIM_STATUS.LOCKED then
      (s.advanceTo (s.tim.lastAt + 1000 * usUnit)).enterHoldover
    else s)

/-- The period of TPULSE in ns (12, Table 14). -/
def State.pulsePeriod (s : State) : Nat := [1000000, 10000000, 100000000, 1000000000].getD (s.rd TIM_PULSE.PERIOD) 1000000

/-- TPULSE_OUT (R361): the next multiple of the period is reached by a part that drives TPULSE. -/
def execTpulseOut (s : State) : Host.Outcome State Fault Refusal :=
  .next (if s.awake ∧ s.rd TIM_CTRL.TPULSE_MODE = 2 ∧ (s.role = roleMASTER ∨ s.bit TIM_STATUS.LOCKED) then
      let t := (s.nowNs / s.pulsePeriod + 1) * s.pulsePeriod % 2 ^ 64
      (s.fabricTo (t * nsUnit)).emit (.tpulse t)
    else s)

/-- TPULSE_EDGE (R32, R361, R359, R360, R364): a set that waits for the edge is loaded; else a FOLLOWER whose parent is TPULSE
measures its offset against the nearest multiple of the period. -/
def execTpulseEdge (e : Nat) (s : State) : Host.Outcome State Fault Refusal :=
  .next (if !s.awake ∨ s.rd TIM_CTRL.TPULSE_MODE ≠ 1 then s
    else if s.tim.setDue then s.loadSet
    else if s.role ≠ roleFOLLOWER ∨ s.mgmt.coresDown then s
    else match s.parent with
      | some c =>
        let t := s.showParent c
        if c.side.isSome then t
        else
          let x : Int := (e : Int) - s.rd TIM_PULSE.DELAY * 4096
          let per : Int := s.pulsePeriod * 65536
          t.measured (2 * (x - (2 * x + per) / (2 * per) * per)) true
      | none => s)

/-- TIM_SET_HI written (R364). -/
def State.timSet (s : State) (hi : Nat) : State :=
  let t := s.wr (TIM_SET.TIME 1) hi
  if s.role = roleFOLLOWER ∧ s.bit TIM_STATUS.LOCKED then t
  else if s.bit TIM_PULSE.SET_AT_PULSE then t.upTim (fun x => { x with setDue := true })
  else t.loadSet

/-- TIM_SET (R364, R354): the write of TIM_SET_HI; a FOLLOWER that is locked discards the set. -/
def execTimSet (hi : Nat) (s : State) : Host.Outcome State Fault Refusal :=
  .next (s.hostWrite (fun s => s.timSet hi))

/-- AON_RATIO_MEASURE (R363, R412): the ratio of the always-on oscillator to the root, measured in RUN. -/
def execAonRatioMeasure (ratio : Nat) (s : State) : Host.Outcome State Fault Refusal :=
  .next (if s.powerState = 0 ∧ s.timeRuns then
      (s.wr CLK_AON_RATIO.RATIO ratio).upTim (fun x => { x with ratioOk := true })
    else s)

end Sys2Proof.Machine
end

