-- ==== Sys2Proof/Machine/Trace.lean ====
section
/-! DEFINITION. The commands of Winnow, Granary windows, the Common Trigger and snapshots (12). -/

namespace Sys2Proof.Machine

/-! ## Winnow (R365 to R369, R377) -/

/-- WINNOW_ITEM (R365 to R369, R371 to R373, R379): an item that the direction's side can bring, observed with its stamp and its bytes
as received. The units that match an item give one record, in the window of the lowest of them that records, and one trigger request. -/
def execWinnowItem (p : PortId) (dir : Dir) (item : Observed) (ide : Bool) (stamp : Nat) (raw : List Byte) (s : State) :
    Host.Outcome State Fault Refusal :=
  let x := s.winnow p (dirBit dir)
  let key := itemKey item ide raw
  .next (match x.owner with
    | none => s
    | some k =>
      if !s.tileOn p ∨ !s.enabled p ∨ !s.observes (2 * p + dirBit dir) item then s
      else
        let hit := x.units.map (fun u => u.hits key (itemCipher item ide))
        let hits := (x.units.zip hit).filter (fun e => e.2) |>.map Prod.fst
        let mask := (hit.zipIdx.map (fun e => if e.1 then 2 ^ e.2 else 0)).sum
        let s1 := (s.upW p (dirBit dir) (fun y => { y with units := afterMatch y.units hit })).showWinnow (2 * p + (dirBit dir))
        let s2 := match hits.find? Unit4.record with
          | none => s1
          | some u =>
            let full := hits.any (fun v => v.record && v.full)
            let r : TraceRec := {
              type := 1
              flags := ofBool full + 2 * (dirBit dir) + s.timeFlag
              port := p
              units := mask
              time := stamp
              count := 0
              key := key ++ leBytes 4 (itemCipher item ide)
              payload := if full then some raw else none }
            s1.queueRecord (s.tileOf p) k u.window r
        if hits.any Unit4.trigger ∧ (k = 0 ∨ s.bit TRC_TRIG_CTRL.SLICE_TRIG) then s2.sourceNow 0 else s2)

/-- TRACE_DMA_WRITE (R297, R370 to R374): the records queued in a tile are written in order, after what is served before them; in ASPM
L1 they are held until the exit is over. -/
def execTraceDmaWrite (t : TileId) (s : State) : Host.Outcome State Fault Refusal :=
  .next (if !s.awake ∨ s.mgmt.inL1 ∨ !s.traceTurn then s
    else (s.drainBuffer t (s.tile t).buffer).joined s)

/-- A Winnow command that names a Winnow of its Slice; another's completes with NOT_OWNER (R377). -/
def State.owned (s : State) (k i idx : Nat) (e : List Byte) (act : State → Nat → State) : State :=
  s.named k i idx e true false (fun t =>
    let w := 2 * cmdPort e + byteAt e 16 % 2
    if (t.winnow (w / 2) (w % 2)).owner = some k then (act t w).reply k i idx e 0 noResult (some (cmdPort e))
    else t.reply k i idx e 0x14 noResult (some (cmdPort e)))

/-- WINNOW_CLAIM (R327, R329, R369, R377, R378): S0 may take a Winnow from its owner with FORCE. -/
def execWinnowClaim (k : SliceId) (i : RingId) (s : State) : Host.Outcome State Fault Refusal :=
  .next (s.command k i 0x12 true (fun t idx e => t.named k i idx e true false (fun u =>
    let w := 2 * cmdPort e + byteAt e 16 % 2
    let x := u.winnow (w / 2) (w % 2)
    let mine (y : State) : State :=
      ((y.upW (w / 2) (w % 2) (fun x => { x with owner := some k.val })).showWinnow w).reply k i idx e
        0 noResult (some (cmdPort e))
    if x.owner.isNone ∨ x.owner = some k.val then mine u
    else if k.val = 0 ∧ bitAt (byteAt e 17) 0 then mine (u.releaseWinnow w)
    else u.reply k i idx e 0x12 noResult (some (cmdPort e)))))

/-- WINNOW_RELEASE (R369, R377). -/
def execWinnowRelease (k : SliceId) (i : RingId) (s : State) : Host.Outcome State Fault Refusal :=
  .next (s.command k i 0x13 true (fun t idx e => t.owned k i idx e State.releaseWinnow))

/-- A unit of a Winnow changed by a WINNOW_UNIT entry (12, Tables 4 and 6). A control word enables, re-arms or disables the
unit, and the units that it arms wait for it again. -/
def setUnit (us : List Unit4) (e : List Byte) : List Unit4 :=
  let n := byteAt e 17 % 4
  let part := byteAt e 18
  let data := (List.range 28).map (fun j => e.getD (20 + j) 0)
  us.zipIdx.map (fun x =>
    if x.2 = n then
      if part = 0 then
        let c := cmdField e 20 4
        { x.1 with control := c, enabled := bitAt c 31, armed := min 4 (bitsOf c 21 3) == 4 }
      else if part = 1 then { x.1 with value := data }
      else if part = 2 then { x.1 with mask := data }
      else x.1
    else if part = 0 ∧ x.1.armBy = n then { x.1 with armed := false }
    else x.1)

/-- WINNOW_UNIT (R368, R369, R377). -/
def execWinnowUnit (k : SliceId) (i : RingId) (s : State) : Host.Outcome State Fault Refusal :=
  .next (s.command k i 0x14 true (fun t idx e => t.owned k i idx e (fun u w =>
    (u.upW (w / 2) (w % 2) (fun x => { x with units := setUnit x.units e })).showWinnow w)))

/-! ## Windows (R370, R376, R377) -/

/-- WINDOW_OPEN (R370, R377, R378): a closed window within the quota begins to read its granule list. -/
def execWindowOpen (k : SliceId) (i : RingId) (s : State) : Host.Outcome State Fault Refusal :=
  .next (s.command k i 0x10 true (fun t idx e =>
    let w := byteAt e 16 % 16
    let g := cmdField e 20 4
    if t.rd (TRC_WIN_STATUS.STATE k w) ≠ 0 then t.reply k i idx e 0x11 noResult none
    else if t.rd (SLC_SHARE.GRANULES k) < t.granulesHeld k + g then t.reply k i idx e 0x10 noResult none
    else
      let u := (((((t.closeWindow k w).wr (TRC_WIN_STATUS.KIND k w) (byteAt e 17)).wr (TRC_WIN_STATUS.MODE k w) (byteAt e 18)).upWin
        k w (fun x => { x with
          post := cmdField e 32 4
          want := g
          listAt := cmdField e 24 8
          got := []
          opener := some (i.val, idx, cmdTag e, cmdEvRing e) })))
      if g = 0 then ((u.wr (TRC_WIN_STATUS.STATE k w) 2).upWin k w (fun x => { x with opener := none })).reply k i idx e 0 noResult none
      else (u.wr (TRC_WIN_STATUS.STATE k w) 1).askList k w))

/-- WINDOW_CLOSE (R370, R377, R378): the window takes nothing more; the command completes at WINDOW_CLOSE_DONE. -/
def execWindowClose (k : SliceId) (i : RingId) (s : State) : Host.Outcome State Fault Refusal :=
  .next (s.command k i 0x11 true (fun t idx e =>
    let w := byteAt e 16 % 16
    if t.rd (TRC_WIN_STATUS.STATE k w) = 0 ∨ (t.window k w).closing then t.reply k i idx e 0x11 noResult none
    else t.upWin k w (fun x => { x with closing := true, closer := some (i.val, idx, cmdTag e, cmdEvRing e) })))

/-- WINDOW_CLOSE_DONE (R370): every write issued to the window has left; its granules return to the quota. -/
def execWindowCloseDone (k : SliceId) (w : WindowId) (s : State) : Host.Outcome State Fault Refusal :=
  .next (if s.awake ∧ (s.window k w).closing ∧ s.rd (TRC_WIN_STATUS.STATE k w) ≠ 1 then
      match (s.window k w).closer with
      | some (i, idx, tag, ev) => (s.closeWindow k w).complete k i idx tag (some ev) 0 noResult none
      | none => s.closeWindow k w
    else s)

/-- TRC_WIN_STATUS.RESUME (R370). -/
def State.windowResume (s : State) (k : Nat) (w : Nat) : State :=
if s.sliceActive k ∧ s.rd (TRC_WIN_STATUS.STATE k w) = 4 then s.wr (TRC_WIN_STATUS.STATE k w) 2 else s

/-- WINDOW_RESUME (R370). -/
def execWindowResume (k : SliceId) (w : WindowId) (s : State) : Host.Outcome State Fault Refusal :=
  .next (s.hostWrite (fun s => s.windowResume k w))

/-! ## The Common Trigger (R379 to R383) -/

/-- TRIGGER (R377, R379): DENIED to a Slice other than S0 unless SLICE_TRIG is 1. -/
def execTrigger (k : SliceId) (i : RingId) (s : State) : Host.Outcome State Fault Refusal :=
  .next (s.command k i 0x15 true (fun t idx e =>
    if k.val ≠ 0 ∧ !t.bit TRC_TRIG_CTRL.SLICE_TRIG then t.reply k i idx e 2 noResult none
    else (t.sourceNow 1).reply k i idx e 0 noResult none))

/-- FIRE (R379). -/
def execFire (s : State) : Host.Outcome State Fault Refusal := .next (s.hostWrite (fun s => s.sourceNow 1))

/-- TRIG_N_EDGE (R379, R381): an accepted edge, stamped at the ball; the device's own is ignored until 100 ns after it
releases the pin. -/
def execTrigNEdge (stamp : Nat) (s : State) : Host.Outcome State Fault Refusal :=
  .next (if !s.awake ∨ s.tim.trigOut ∨ s.elapsed < s.tim.deafUntil then s else s.source 2 (stamp * 65536 + 64 * nsUnit))

/-- TRIG_N_RELEASE (R381). -/
def execTrigNRelease (s : State) : Host.Outcome State Fault Refusal :=
  .next (if s.tim.trigOut ∧ s.awake then
      let t := s.advanceTo s.tim.deafUntil
      (t.emit (.trigN false)).upTim (fun x => { x with trigOut := false, deafUntil := x.deafUntil + 100 * nsUnit })
    else s)

/-- TRC_SCHED_CTRL.GO (R382). -/
def State.scheduleGo (s : State) (flood : Bool) : State :=
  (s.put TRC_SCHED_CTRL.FLOOD flood).takeSchedule ((s.tim.seen + 1) % 256)
    (s.rd (TRC_SCHED.TIME 0) + 2 ^ 32 * s.rd (TRC_SCHED.TIME 1)) flood

/-- TRC_SCHED_GO (R382): S0's write of TRC_SCHED_CTRL with GO = 1. -/
def execTrcSchedGo (flood : Bool) (s : State) : Host.Outcome State Fault Refusal :=
  .next (s.hostWrite (fun s => s.scheduleGo flood))

/-- SCHEDULE_FIRE (R379, R382, R401): the time of the pending schedule is reached, which wakes the device from IDLE. -/
def execScheduleFire (s : State) : Host.Outcome State Fault Refusal :=
  .next (if s.bit TRC_SCHED_CTRL.PENDING ∧ s.timeRuns then
      let t := ((s.fabricTo (s.tim.schedTime * nsUnit)).wakeDevice .internal none).deviceQuiet
      (t.off TRC_SCHED_CTRL.PENDING).source 3 (s.tim.schedTime * nsUnit)
    else s)

/-- The registers as a snapshot finds them: what is only computed when it is read is shown in them (R380, R383). -/
def State.shownRegs (s : State) : Tab Nat := (s.showTarget.showActive).regs

/-- LATCH (R380, R383): the pending latch's instant is reached. -/
def execLatch (s : State) : Host.Outcome State Fault Refusal :=
  .next (match if s.awake then s.tim.latch else none with
    | none => s
    | some (tl, src) =>
      let t := s.fabricTo tl
      let on := ((List.range 8).map (fun i => if t.tileState i = 2 then 2 ^ i else 0)).sum
      let u := t.setSnap ⟨t.shownRegs, t.bct, t.halves, tl⟩
      let v := ((((((u.on SNP_STATUS.STATE).wr SNP_STATUS.SOURCES src).wrapUp SNP_STATUS.LATCH_ID).wr SNP_STATUS.TILES_LATCHED on).wr
        (SNP_TIME.TIME 0) (tl / nsUnit)).wr (SNP_TIME.TIME 1) (tl / nsUnit / 2 ^ 32)).upTim (fun x => { x with
          latch := none
          latchedAt := t.elapsed })
      v.triggerRecords tl src)

/-- REARM (R380). -/
def execRearm (s : State) : Host.Outcome State Fault Refusal := .next (s.hostWrite (fun s => s.off SNP_STATUS.STATE))

/-- AUTO_REARM_EXPIRY (R380). -/
def execAutoRearmExpiry (s : State) : Host.Outcome State Fault Refusal :=
  let d := s.rd SNP_CTRL.AUTO_REARM
  .next (if s.awake ∧ s.bit SNP_STATUS.STATE ∧ d ≠ 0 then (s.advanceTo (s.tim.latchedAt + d * usUnit)).off SNP_STATUS.STATE else s)

end Sys2Proof.Machine
end

