-- ==== Sys2Proof/Machine/Txn.lean ====
section
/-! DEFINITION. The commands of transactions (09) and of Apply Points (03). -/

namespace Sys2Proof.Machine

/-! ## TXN_CMD and validation (R268 to R272, R275 to R278) -/

/-- An action of TXN_CMD: none is taken while the central cores are down (R277). -/
def State.txnCmd (s : State) (act : State → State) : State :=
  s.hostCmd (fun s => if s.mgmt.coresDown then s else act (s.upX (fun x => { x with touched := s.elapsed })))

/-- BEGIN (R268, R270). -/
def State.txnBegin (s : State) : State :=
  if s.txnState = xIDLE then ((s.wr TXN_STATUS.STATE xOPEN).wrapUp TXN_STATUS.ID).upX (fun _ => { touched := s.elapsed })
  else s

/-- BEGIN (R267, R268, R270). -/
def execTxnBegin (s : State) : Host.Outcome State Fault Refusal :=
  .next (s.txnCmd (fun s => s.txnBegin))

/-- COMMIT (R270, R272). -/
def State.txnCommit (s : State) : State :=
  if s.txnState = xOPEN then
    let t := clampNat (s.nowNs + 100000) (s.nowNs + 10000000000) s.txnTime
    let s1 := ((s.wr (TXN_TIME.TIME 0) t).wr (TXN_TIME.TIME 1) (t / 2 ^ 32)).wr TXN_STATUS.STATE xVALIDATING
    s1.each (s.scopeTiles s.staging) State.wakeTile
  else s

/-- COMMIT (R270, R272, R407): T is clamped, and the OFF Lane Tiles of the scope begin to wake. -/
def execCommit (s : State) : Host.Outcome State Fault Refusal :=
  .next (s.txnCmd (fun s => s.txnCommit))

/-- ROLLBACK (R270, R275, R277). -/
def execRollback (s : State) : Host.Outcome State Fault Refusal := .next (s.txnCmd (fun s => s.rollTxn 0xE))

/-- TXN_VALIDATION_DONE (R21, R65, R71, R72, R140, R142, R154, R271, R278, R279, R395): the transaction is refused for the
first failure, or scheduled, with the level raised where the new map needs it. -/
def execTxnValidationDone (s : State) : Host.Outcome State Fault Refusal :=
  .next (if s.txnState ≠ xVALIDATING then s
    else
      let new := s.staging.clamped s.scopePorts
      match s.commitRefusal new with
      | some r => s.endTxn 2 r.1 r.2
      | none =>
        let cs := s.changesTo new (s.txn.shadow.entries.map (fun e => e.2.1) ++ clampCells s.scopePorts)
        let level := s.power.nextLevel.getD (s.rd PWR_STATUS.PL)
        let up := decide (level < new.requiredLevel)
        let s1 := (s.wr TXN_STATUS.STATE xSCHEDULED).upX (fun x => { x with
          changes := cs
          oldTable := ⟨x.table.entries.map (fun e => (e.1, s.bct.get 0 e.1))⟩
          tiles := s.scopeTiles new
          restruct := s.restructPorts new cs
          links := s.linksTo new cs
          oldLevel := if up then some level else none })
        if up then s1.askLevel new.requiredLevel else s1)

/-! ## Apply (R22, R88 to R90, R272 to R274) -/

/-- The Ports begin to apply (R87, R88, R274, R438): one that is not enabled yet applies as soon as its Lane Tile is ON, and the others
await their Apply Points. Where a Lane Tile with one of them was fenced or reset since the commit was scheduled, apply fails. -/
def State.startApply (s : State) (ports : List Nat) : State :=
  match s.txn.lost.find? s.waitsIn with
  | some t => s.failTxn 0xC t
  | none =>
    let t := (s.each (s.scopePorts.filter (fun p => !s.txn.restruct.contains p)) State.markPort).each (ports.filter s.enabled)
      State.awaitPort
    if ports.isEmpty then (t.settleDclk).endTxn 1 0 0xFF
    else t.each (ports.filter (fun p => !s.enabled p)) State.reached

/-- TXN_COMMIT_TIME (R272 to R274, R52, R65, R438): T is reached; global changes take effect, and the Ports begin to apply. -/
def execTxnCommitTime (s : State) : Host.Outcome State Fault Refusal :=
  .next (if s.txnState ≠ xSCHEDULED then s
    else
      let s0 := (s.fabricTo (s.txnTime * nsUnit)).wr TXN_STATUS.STATE xAPPLYING
      let s1 := s0.putGlobals false
      let ports := (List.range 64).filter (fun p => s.txn.restruct.contains p || s.txn.changes.any (fun c => c.port == some p))
      (s1.upX (fun x => { x with waiting := ports })).startApply ports)

/-- The pending calibration set of a receiver takes effect, while its engine runs (R203, R208, R210, R240, R243): a run whose set it is goes on to
verify it; a capture is disturbed, and a data-method step is measured again. -/
def State.applyCal (s : State) (h : Nat) : State :=
  let x := s.half h
  match if s.engineUp h then x.pendingSet else none with
  | none => s
  | some (c, temp) =>
    let s1 := s.applySet h c temp
    let s2 := match x.run with
      | some r =>
        if x.pendingRun then s1.upH h (fun y => { y with run := some { r with
          stage := .verifying
          seen := 0
          sum := 0
          before := x.lastFoms.sum
          beforeN := x.lastFoms.length } })
        else s1.disturb h
      | none => s1
    match (s2.engine (engineOf h)).slot with
    | some j =>
      if j.half = h ∧ j.kind = 1 ∧ j.dataMethod ∧ j.paid then
        s2.upE (engineOf h) (fun e => { e with slot := some { j with again := true } })
      else s2
    | none => s2

/-- APPLY_POINT (R15, R22, R58, R69, R71, R85, R87 to R89, R203, R208, R210, R240, R273, R274, R278, R395, R419, R438): a boundary of
the stream that a receiver hears; where it is an Apply Point, the Trellis remap of the direction, then transaction changes, then
the calibration set take effect. -/
def execApplyPoint (edge : StreamEdge) (s : State) : Host.Outcome State Fault Refusal :=
  let h := edge.half
  .next (match s.claim h with
    | none => if s.isApplyPoint h edge.kind then s.applyCal h else s
    | some q =>
      if !s.isApplyPoint h edge.kind then s else
      let o := otherSide q
      let s1 := match (s.seg o).prepared with
        | some pr => if s.isSeg o ∧ s.segState o = sACTIVE ∧ (s.seg o).switchDue ∧ s.governs q h then s.doSwitch o pr else s
        | none => s
      let s2 := s1.applyDirection h
      (if s2.governs q h then s2.markDirection q else s2).applyCal h)

/-- A withdrawal forced by the want of an Apply Point (R274): forwarding stops at once, and the Port takes a Restructure reset
under its previous values. -/
def State.forceBack (s : State) (p : Nat) : State :=
  (((s.forgetPort p).each (sidesOf p) State.stopForwarding).upX (fun x => { x with
    restruct := if x.restruct.contains p then x.restruct else x.restruct ++ [p] })).reached p

/-- APPLY_POINT_TIMEOUT (R90, R274): 1 ms after T, or after the failure. Where a Lane Tile of the Port is not ON, that is the reason
reported (DEDUCED, log entry 18). -/
def execApplyPointTimeout (p : PortId) (s : State) : Host.Outcome State Fault Refusal :=
  .next (if s.txnState = xAPPLYING ∧ s.txn.waiting.contains p.val then
      let late := s.fabricTo ((s.txnTime + 1000000) * nsUnit)
      match late.missingTile p with
      | some t => late.failTxn 0xC t
      | none => late.failTxn 0xB p
    else if s.txnState = xROLLING ∧ s.txn.back.contains p.val then
      (s.advanceTo (s.txn.failedAt + 1000 * usUnit)).forceBack p
    else s)

/-- TXN_APPLY_FAIL (R90, R274, R279): a Port has found no Apply Point, or a Lane Tile of the scope is not ON, by T + 1 ms. -/
def execTxnApplyFail (cause : ApplyFailCause) (s : State) : Host.Outcome State Fault Refusal :=
  let late := s.fabricTo ((s.txnTime + 1000000) * nsUnit)
  .next (if s.txnState ≠ xAPPLYING then s
    else match cause with
      | .noApplyPoint p => if s.txn.waiting.contains p.val then late.failTxn 0xB p else s
      | .tileNotReady t => if s.txn.tiles.contains t.val ∧ s.tileState t ≠ 2 then late.failTxn 0xC t else s)

/-- TXN_ROLLBACK_DONE (R274, R278, R279, R395): every withdrawal has taken effect, its Restructure resets included. -/
def execTxnRollbackDone (s : State) : Host.Outcome State Fault Refusal :=
  .next (if s.txnState = xROLLING ∧ s.txn.back.isEmpty ∧ s.txn.restruct.all (fun p => (s.portx p).reset != some .restructure) then
      s.endTxn 3 s.txn.reason s.txn.index
    else s)

/-- ABANDONED (R276, R278). -/
def execAbandoned (s : State) : Host.Outcome State Fault Refusal :=
  .next (if s.txnState = xOPEN then (s.advanceTo (s.txn.touched + 100000 * usUnit)).rollTxn 0xD else s)

/-- BCT_STAGE (R47, R267, R269): the write of IMG_BCT_HI stages the entry at IMG_BCT_INDEX with the IMG_BCT_LO value written
last. -/
def State.stageBct (s : State) (hi : Nat) : State :=
  if s.txnState = xOPEN ∧ s.bit TXN_SCOPE_G.CHANNEL_TABLE then
    (s.stageEntry (s.rd IMG_BCT_INDEX.INDEX) (s.rd (IMG_BCT.ENTRY 0) + 2 ^ 32 * (hi % 2 ^ 32))).upX (fun x => { x with touched := s.elapsed })
  else s.on TXN_STATUS.STRAY

/-- BCT_STAGE (R47, R267, R269). -/
def execBctStage (hi : Nat) (s : State) : Host.Outcome State Fault Refusal :=
  .next (if !s.served then s else if s.bit IMG_STATUS.RECOVERY then s.on TXN_STATUS.STRAY else s.stageBct hi)

end Sys2Proof.Machine
end

