-- ==== Sys2Proof/Machine/Access.lean ====
section
/-! DEFINITION. Register writes by their words, the fields that act included, RWT writes, and accesses to Lane Tiles (00, R4 to R8;
01, R27 to R30; 09, R269; 10, R285 to R289). -/

namespace Sys2Proof.Machine

/-! ## Whole-register writes (R4, R285, R286) -/

/-- A plain field written to a Ring's base: discarded while the Ring is enabled; the low 12 bits read as 0 (R322). -/
def State.ringBase (s : State) (k i hi v : Nat) : State :=
  if s.bit (RNG_CTRL.ENABLE k i) then s
  else s.wr (RNG_BASE.ADDR k i hi) (if hi = 0 then v / 4096 * 4096 else v)

/-- The value that a written word gives a field. -/
def Cell.of (c : Cell) (v : Nat) : Nat := bitsOf v c.lo c.width

/-- RNG_CTRL written (R322, R323): its ENABLE tells whether the Ring is enabled, and RESUME acts after it. -/
def State.ringCtrl (s : State) (k i v : Nat) : State :=
  let t := if (RNG_CTRL.ENABLE k i).of v = 1 then s.ringEnable k i v else s.ringDisable k i v
  if (RNG_CTRL.RESUME k i).of v = 1 then t.ringResume k i else t

/-- RNG_DOORBELL written (R324, R325), by the Ring's kind. -/
def State.ringDoorbell (s : State) (k i v : Nat) : State :=
  s.hostCmd (fun t =>
    if t.rd (RNG_CTRL.KIND k i) = 0 then t.cmdDoorbell k i ((RNG_DOORBELL.INDEX k i).of v)
    else t.eventDoorbell k i ((RNG_DOORBELL.INDEX k i).of v))

/-- A whole word written in a Slice window (R285, R320, R350, R351, R370): only while the Slice is ACTIVE; the Ring registers at or
above the Ring count take nothing. Events that waited for the notice Ring go to the one now named (R335). -/
def State.windowWrite (s : State) (k o v : Nat) : State :=
  if !s.sliceActive k then s
  else if 0x1000 ≤ o ∧ o < 0x9000 then
    let i := (o - 0x1000) / 0x20
    if !s.ringHere k i then s
    else if o % 0x20 < 8 then s.ringBase k i (o % 0x20 / 4) v
    else if o % 0x20 = 8 then s.ringCtrl k i v
    else if o % 0x20 = 0xC then s.ringDoorbell k i v
    else s
  else if 0x9000 ≤ o ∧ o < 0x9100 then
    let w := (o - 0x9000) / 0x10
    if o % 0x10 = 8 then s.wr (TRC_WIN_READ.READ k w) (min v (s.windowSize k w - 1))
    else if o % 0x10 = 0 ∧ (TRC_WIN_STATUS.RESUME k w).of v = 1 then s.windowResume k w
    else s
  else if o = 0x4 then
    let t := (s.storeWord (fieldsWindow k o) v).reroute k
    if (SLC_SELF_CTRL.RESET k).of v = 1 then t.hostCmd (fun u => u.selfReset k) else t
  else s.storeWord (fieldsWindow k o) v

/-- The action that a word written to SLC_CTRL asks for (R315, R344). -/
def State.sliceAction (s : State) (k v : Nat) : State :=
  if (SLC_CTRL.GO k).of v = 0 then s
  else s.hostCmd (fun t =>
    match (SLC_CTRL.ACTION k).of v with
    | 1 => t.createSlice k
    | 2 => t.askReset k
    | 3 => t.askDestroy k
    | _ => t)

/-- A whole word written in the manager's view of a Slice (R313 to R316, R318, R338, R340): PASID is a plain field while the Slice is
FREE, and S0's while its Rings are disabled; an action of the same write comes after it. -/
def State.sliceWrite (s : State) (k o v : Nat) : State :=
  if o = 0 then
    (if s.sliceState k = slFREE ∨ (k = 0 ∧ (s.enabledRings 0).isEmpty) then s.wr (SLC_CTRL.PASID k) v else s).sliceAction k v
  else if o = 0x8 then s.shareWrite k .rings v
  else if o = 0xC then s.shareWrite k .vectors v
  else if o = 0x10 then s.shareWrite k .share v
  else if o = 0x14 ∨ o = 0x18 then s.setVisible k ((o - 0x14) / 4) v
  else s.storeWord (fieldsSlice k o) v

/-- The action that a word written to TXN_CMD asks for (R268, R270, R279). -/
def State.txnAction (s : State) (v : Nat) : State :=
  if TXN_CMD.GO.of v = 0 then s
  else match TXN_CMD.ACTION.of v with
    | 1 => s.txnCmd State.txnBegin
    | 2 => s.txnCmd State.txnCommit
    | 3 => s.txnCmd (fun t => t.rollTxn 0xE)
    | _ => s

/-- A write to a register of the TXN_ block (R276; 09, after Table 9): the scope is fixed while a transaction exists, and the
time once it is past OPEN. -/
def State.txnWrite (s : State) (x v : Nat) : State :=
  let t := s.upX (fun y => { y with touched := s.elapsed })
  let free := s.txnState = xIDLE ∨ ((x = 0x2014 ∨ x = 0x2018) ∧ s.txnState = xOPEN)
  if x = TXN_CMD.off then t.txnAction v
  else if 0x2008 ≤ x ∧ x ≤ 0x2018 ∧ !decide free then t else t.storeWord (fieldsAt x) v

/-- The action that a word written to IMG_CMD asks for (R264, R279). -/
def State.imgAction (s : State) (v : Nat) : State :=
  if IMG_CMD.GO.of v = 0 then s
  else match IMG_CMD.ACTION.of v with
    | 1 => s.imgCmd (fun t => t.writeSlot (IMG_CMD.LEN.of v))
    | 2 => s.imgCmd State.confirmCmd
    | 3 => s.imgCmd State.advanceArb
    | 4 => s.imgCmd State.swapFw
    | 5 => s.imgCmd (fun t => t.programKey (IMG_CMD.KEY.of v))
    | 6 => s.imgCmd (fun t => t.revokeKey (IMG_CMD.KEY.of v))
    | _ => s

/-- The action that a word written to CAL_CMD asks for (R214, R223). -/
def State.calAction (s : State) (v : Nat) : State :=
  let half := CAL_CMD.HALF.of v == 1
  if CAL_CMD.GO.of v = 0 then s
  else s.hostCmd (fun t =>
    match CAL_CMD.ACTION.of v with
    | 1 => t.calRun (CAL_CMD.SCOPE.of v) half (CAL_CMD.INDEX.of v)
    | 2 => t.calStoreCmd
    | 3 => t.calReload
    | 4 => t.calClear (CAL_CMD.SCOPE.of v) half (CAL_CMD.INDEX.of v)
    | _ => t)

/-- The action that a word written to RST_CMD asks for (R415, R436). -/
def State.rstAction (s : State) (v : Nat) : State :=
  if RST_CMD.GO.of v = 0 then s
  else s.hostCmd (fun t =>
    match RST_CMD.ACTION.of v with
    | 1 => t.portReset (RST_CMD.INDEX.of v)
    | 2 => t.tileReset (min 7 (RST_CMD.INDEX.of v))
    | 3 => t.rstDevice (RST_CMD.KEY.of v)
    | _ => t)

/-- What a whole word written does to the fields of the register at an offset that are not RWT (R4, R285, R286, R288): what each kind
of register takes, and the actions of its WO fields. -/
def State.plainWrite (s : State) (x v : Nat) : State :=
  if bar2Base ≤ x then s.windowWrite ((x - bar2Base) / 0x10000 % 256) ((x - bar2Base) % 0x10000) v
  else if x = IMG_CMD.off then s.imgAction v
  else if x = CAL_CMD.off then s.calAction v
  else if x = RST_CMD.off then s.rstAction v
  else if x = TIM_SET.off 1 then s.timSet v
  else if x = TRC_SCHED_CTRL.off then
    let t := s.storeWord TRC_SCHED_CTRL.fields v
    if TRC_SCHED_CTRL.GO.of v = 1 then t.scheduleGo (TRC_SCHED_CTRL.FLOOD.of v == 1) else t
  else if x = SNP_CTRL.off then
    let t := s.storeWord SNP_CTRL.fields v
    if SNP_CTRL.REARM.of v = 1 then t.off SNP_STATUS.STATE else t
  else if 0xF00000 ≤ x ∧ x < 0xF08000 then (s.putMsix ((x - 0xF00000) / 4) v).flushMsix
  else if 0x2000 ≤ x ∧ x < 0x3000 then s.txnWrite x v
  else if x = ERR_DP_LOG0.off then
    let t := s.storeWord ERR_DP_LOG0.fields v
    if bitAt v 31 then t.off ERR_DP_LOG0.OVERFLOW else t
  else if 0x11000 ≤ x ∧ x < 0x11800 then
    let h := (x - 0x11000) / 4
    if bitsOf v (CAL_RX.HOLD h).lo 1 = 1 then s.setHold h else s.off (CAL_RX.HOLD h)
  else if x = ENG_CTRL.off then
    let t := s.storeWord ENG_CTRL.fields v
    if t.bit ENG_CTRL.SLICE_JOBS_OFF then t.stopRunning (fun _ => true) 4 else t
  else if 0x20800 ≤ x ∧ x < 0x20C00 then s.setPermits ((x - 0x20800) / 4) v
  else if 0x30000 ≤ x ∧ x < 0x38000 then s.sliceWrite ((x - 0x30000) / 0x80) ((x - 0x30000) % 0x80) v
  else match s.holder x with
    | some _ => s.tileStore x v
    | none => s.storeWord (fieldsAt x) v

/-- The WO fields that share a register with RWT fields act at the write (R269): RETRAIN and FIRE. -/
def State.rwtActs (s : State) (x v : Nat) : State :=
  let p := (x - 0x100000) / 0x1000
  if x = TRC_TRIG_CTRL.off then
    if bitsOf v TRC_TRIG_CTRL.FIRE.lo 1 = 1 then s.hostCmd (fun t => t.sourceNow 1) else s
  else if retrains x ∧ bitsOf v 31 1 = 1 then s.hostCmd (fun t => t.askRetrain p x v)
  else s

/-- Whether a register has an RWT field. -/
def hasRwt (x : Nat) : Bool := (fieldsAt x).any (fun f => match f.acc with | .rwt => true | _ => false)

/-- The staging of a written word, or its discarding with STRAY (R47, R269): IMG_BCT_LO is only remembered. -/
def State.stageRwt (s : State) (x v : Nat) : State :=
  if x = 0x101C then s.stageBct v
  else if s.txnState = xOPEN ∧ s.covered x v then
    (if x = 0x1018 then s.wr (IMG_BCT.ENTRY 0) v else s.stageWord x v (fieldsAt x)).upX (fun y => { y with touched := s.elapsed })
  else s.on TXN_STATUS.STRAY

/-- A whole word written to the RWT fields of the register at an offset, and to the WO fields beside them; in recovery mode, where no
transaction is, it is discarded with STRAY (R262, R269). -/
def State.rwtWrite (s : State) (x v : Nat) : State :=
  if s.bit IMG_STATUS.RECOVERY then s.on TXN_STATUS.STRAY else (s.rwtActs x v).stageRwt x (v % 2 ^ 32)

/-- A whole word written to the register at an offset (R4 to R8, R262, R269, R288): its fields of every kind take it. In recovery mode
only the GLB_ and IMG_ registers do. -/
def State.writeReg (s : State) (x v : Nat) : State :=
  if s.bit IMG_STATUS.RECOVERY ∧ 0x2000 ≤ x then s
  else if hasRwt x then (s.plainWrite x v).rwtWrite x v
  else s.plainWrite x v

/-! ## Requests by their bytes (R286) -/

/-- The number of bytes that byte enables select. -/
def enabledBytes (be : Nat) : Nat := ((List.range 8).filter (bitAt be)).length

/-- A memory request completed as Unsupported Request, with its header (R286, R291). -/
def State.refuse (s : State) (header : Nat) : State := (s.uncError 20 false (some header)).sendUp .unsupported

/-- An accepted read of the register at an offset: answered, or carried to the tile that holds it, which it wakes (R28, R287, R289). -/
def State.readReg (s : State) (x : Nat) : State :=
  match if s.bit IMG_STATUS.RECOVERY then none else s.holder x with
  | some t => s.tileAccess t ⟨false, x, 0⟩
  | none => s.sendUp (.readDone x (s.valueAt x))

/-- The bytes `lo` of the register at an 8-byte span's start and `hi` of the one after it read: one coherent read of each (R286). -/
def State.readSpan (s : State) (x lo hi : Nat) : State :=
  let t := if lo = 0 then s else s.readReg x
  if hi = 0 then t else t.readReg (x + 4)

/-- Those bytes written: every byte of each register written to, or the request is discarded with BAD_ACCESS (R286). -/
def State.writeSpan (s : State) (x lo hi data : Nat) : State :=
  if (lo ≠ 0 ∧ lo ≠ 15) ∨ (hi ≠ 0 ∧ hi ≠ 15) then s.on GLB_MGMT_STATUS.BAD_ACCESS
  else
    let t := if lo = 15 then s.writeReg x (data % 2 ^ 32) else s
    if hi = 15 then t.writeReg (x + 4) (data / 2 ^ 32 % 2 ^ 32) else t

/-- Whether an offset lies in the MSI-X table or the PBA, which follow the standard's rules instead (R286). -/
def msixRange (x : Nat) : Bool :=
  (decide (0xF00000 ≤ x) && decide (x < 0xF08000)) || (decide (0xF10000 ≤ x) && decide (x < 0xF10100))

/-- Words of the MSI-X ranges reached in a way the standard leaves undefined: a write leaves each open, and a read returns open
values (R286; log entry 105). -/
def State.msixOpenAccess : Nat → State → Bool → Nat → State
  | 0, s, _, _ => s
  | n + 1, s, isWrite, x =>
    let t := if isWrite then (s.takeFree).2.writeReg x (s.takeFree.1 % 2 ^ 32)
      else (s.takeFree).2.sendUp (.readDone x (s.takeFree.1 % 2 ^ 32))
    State.msixOpenAccess n t isWrite (x + 4)

/-- A memory request of n words at an offset, with its first and last byte enables (R286). -/
def State.memRequest (s : State) (isWrite : Bool) (x n f l data header : Nat) : State :=
  let go (t : State) (x lo hi data : Nat) : State := if isWrite then t.writeSpan x lo hi data else t.readSpan x lo hi
  if msixRange x then
    if n = 1 ∧ f = 15 then go s x 15 0 data
    else if n = 2 ∧ f = 15 ∧ l = 15 ∧ x % 8 = 0 then go s x 15 15 data
    else if n ≤ 1 ∧ f = 0 then s
    else State.msixOpenAccess n s isWrite x
  else if n = 1 then (if x % 8 = 0 then go s x f 0 data else go s (x - 4) 0 f (data * 2 ^ 32))
  else if n ≠ 2 ∨ (f ≠ 0 ∧ l ≠ 0 ∧ (x % 8 ≠ 0 ∨ enabledBytes (f + 16 * l) ≤ 4)) then s.refuse header
  else if x % 8 = 0 then go s x f l data
  else if l = 0 then go s (x - 4) 0 f (data * 2 ^ 32)
  else go s (x + 4) l 0 (data / 2 ^ 32)

/-! ## Configuration space (R281 to R283, R2) -/

/-- A word of a capability's header: its ID, version and the offset of the next one; the function's own list has no version. -/
def capWord (id version next : Nat) : Nat := id + version * 2 ^ 16 + next * 2 ^ 20

/-- A word of the configuration header or of the capabilities that Tables 1 and 2 of 10, R283 and R292 give, with a mask of the bits
that they give; the others are the standard's, which the spec does not state (R281 to R283). -/
def State.configPart (s : State) (o : Nat) : Nat × Nat :=
  let m := s.mgmt
  let all := 0xFFFFFFFF
  if o = 0x00 then (0x92561F3A, all)
  else if o = 0x04 then (m.command + 4 * ofBool m.bme + 2 ^ 20 + 2 ^ 28 * ofBool m.targetAbort + 2 ^ 29 * ofBool m.masterAbort + m.status, all)
  else if o = 0x08 then (0x08800011, all)
  else if o = 0x0C then (0, 0xFFFFFF00)
  else if o = 0x10 then (word32 m.bar0 0 + 4, all)
  else if o = 0x14 then (word32 m.bar0 1, all)
  else if o = 0x18 then (word32 m.bar2 0 + 4, all)
  else if o = 0x1C then (word32 m.bar2 1, all)
  else if o = 0x20 ∨ o = 0x24 ∨ o = 0x28 ∨ o = 0x30 ∨ o = 0x38 then (0, all)
  else if o = 0x2C then (0x00011F3A, all)
  else if o = 0x34 then (0x40, all)
  else if o = 0x3C then (0, 0xFFFFFF00)
  else if o = 0x40 then (0xC0035001, 0xFFC7FFFF)
  else if o = 0x44 then ((if m.d3hot then 3 else 0) + 8 + 2 ^ 8 * ofBool m.pmeEn + 2 ^ 15 * ofBool m.pmeStatus, 0x810B)
  else if o = 0x50 then (0x07FF6011 + 2 ^ 30 * ofBool m.functionMask + 2 ^ 31 * ofBool m.msixEnable, all)
  else if o = 0x54 then (0xF00000, all)
  else if o = 0x58 then (0xF10000, all)
  else if o = 0x60 then (0x00020010, 0x00FFFFFF)
  else if o = 0x64 then (2 + 2 ^ 9 * 6 + 2 ^ 28, 0x10000E07)
  else if o = 0x68 then (m.reports + 2 ^ 4 * ofBool m.ro + 2 ^ 5 * m.mps + 2 ^ 12 * m.mrrs + 2 ^ 16 * m.detected +
      2 ^ 21 * ofBool (s.tags.entries.any (fun e => e.2.isOut)), 0x2FF0FF)
  else if o = 0x6C then (6 + 2 ^ 4 * 4 + 2 ^ 10 * 2 + 2 ^ 15 * 4, 0x00078FFF)
  else if o = 0x70 then
    (2 * ofBool m.aspmL1 + 2 ^ 16 * s.rd GLB_MGMT_STATUS.LINK_RATE + 2 ^ 20 * [0, 1, 2, 4].getD (s.rd GLB_MGMT_STATUS.LINK_WIDTH) 0 + 2 ^ 28, 0x13FF0003)
  else if o = 0x84 then (0x3001F, 0x000F0BDF)
  else if o = 0x88 then (m.ctoValue + 2 ^ 4 * ofBool m.ctoDisable, 0x1F)
  else if o = 0x8C then (0x7E, 0xFE)
  else if o = 0x100 then (capWord 1 0 0x148, 0xFFF0FFFF)
  else if o = 0x104 then (m.uncStatus, all)
  else if o = 0x108 then (m.uncMask, all)
  else if o = 0x10C then (m.uncSeverity, all)
  else if o = 0x110 then (m.corStatus, all)
  else if o = 0x114 then (m.corMask, all)
  else if o = 0x118 then
    (match m.firstError with
      | some e => (e.1, 0x0FFF)
      | none => (0, 0x0FE0))
  else if (0x11C ≤ o ∧ o < 0x12C) ∨ (0x138 ≤ o ∧ o < 0x148) then
    (match m.firstError.bind (·.2) with
      | some h => (word32 h (if o < 0x12C then (o - 0x11C) / 4 else 4 + (o - 0x138) / 4), all)
      | none => (0, 0))
  else if o = 0x148 then (capWord 3 1 0x154, all)
  else if o = 0x14C then (word32 Config.serial 0, all)
  else if o = 0x150 then (word32 Config.serial 1, all)
  else if o = 0x154 then (capWord 0x1B 1 0x160, all)
  else if o = 0x158 then (2 ^ 8 * 20 + 2 ^ 16 * ofBool m.pasid, 0x00071F06)
  else if o = 0x160 then (capWord 0x19 0 0x180, 0xFFF0FFFF)
  else if o = 0x180 then (capWord 0x25 0 0x190, 0xFFF0FFFF)
  else if o = 0x184 then (1, 1)
  else if o = 0x190 then (capWord 0x26 0 0x1C0, 0xFFF0FFFF)
  else if o = 0x1C0 then (capWord 0x2A 0 0x1F0, 0xFFF0FFFF)
  else if o = 0x1F0 then (capWord 0x31 0 0x220, 0xFFF0FFFF)
  else if o = 0x220 then (capWord 0x27 0 0, 0xFFF0FFFF)
  else (0, if (0x48 ≤ o ∧ o < 0x50) ∨ (0x5C ≤ o ∧ o < 0x60) ∨ (0x9C ≤ o ∧ o < 0x100) ∨ 0x238 ≤ o then all else 0)

/-- A read of configuration space answered, the bits that the spec leaves to the standard being those held for it (log entry 16). -/
def State.readConfig (s : State) (o : Nat) : State :=
  let w := s.configPart o
  s.sendUp (.configDone o (w.1 + (s.standardWord o &&& (0xFFFFFFFF - w.2))))

/-- UNSUPPORTED_REQUEST (R281, R286, R287, R291, R295, R417): a memory request that R286 refuses, or any in D3hot, completes
as an Unsupported Request; one that it accepts is served. A read of configuration space is answered. -/
def execUnsupportedRequest (kind : ReqKind) (addr : Nat) (span : ReqSpan) (header : Nat) (s : State) :
    Host.Outcome State Fault Refusal :=
  .next (match kind with
    | .config => s.configAsk (fun s => s.readConfig (addr % 4096 / 4 * 4))
    | .memory isWrite bar =>
        if !s.mgmtUp then s
        else if s.mgmt.d3hot then s.refuse header
        else s.memRequest isWrite ((if bar = .bar0 then 0 else bar2Base) + addr % bar2Base / 4 * 4) span.dwords (span.firstBe % 16)
          (span.lastBe % 16) span.data header)

/-- REGISTER_WRITE (R4 to R8, R27 to R30, R285 to R289): a write by its 8-byte span, the bytes it enables there and their values. One
that R286 refuses, or one in D3hot, completes as an Unsupported Request, its header being a free value (DESIGN CHOICE, log entry 12). -/
def execRegisterWrite (bar : Bar) (addr be data : Nat) (s : State) : Host.Outcome State Fault Refusal :=
  let x := (if bar = .bar0 then 0 else bar2Base) + addr % bar2Base / 8 * 8
  let lo := be % 16
  let hi := be / 16 % 16
  .next (if !s.mgmtUp then s
    else if s.mgmt.d3hot then (s.takeFree).2.refuse s.takeFree.1
    else if hi = 0 then s.memRequest true x 1 lo 0 data 0
    else if lo = 0 then s.memRequest true (x + 4) 1 hi 0 (data / 2 ^ 32) 0
    else (s.takeFree).2.memRequest true x 2 lo hi data s.takeFree.1)

/-! ## RWT writes (R7, R267 to R269) -/

/-- RWT_WRITE (R7, R267 to R269, R262): in recovery mode only the registers of IMG_ take the write. -/
def execRwtWrite (offset value : Nat) (s : State) : Host.Outcome State Fault Refusal :=
  let x := offset
  .next (if !s.served ∨ !hasRwt x ∨ (s.bit IMG_STATUS.RECOVERY ∧ 0x2000 ≤ x) then s
    else s.rwtWrite x value)

/-! ## Accesses to Lane Tiles (R27 to R30) -/

/-- FENCED_TILE_ACCESS (R30, R447). -/
def execFencedTileAccess (isWrite : Bool) (offset value : Nat) (s : State) : Host.Outcome State Fault Refusal :=
  .next (match s.holder offset with
    | some t => if s.tileState t = 4 then s.hostWrite (fun u => u.takeAccess t ⟨isWrite, offset, value⟩) else s
    | none => s)

/-- TILE_ACCESS_COMPLETE (R27, R28): the accesses that waited complete, and the Ring commands that waited go on. -/
def execTileAccessComplete (t : TileId) (s : State) : Host.Outcome State Fault Refusal :=
  .next (if s.accessWaits t then s else (s.drainAccesses t).resumeWaits t)

end Sys2Proof.Machine
end

