-- ==== Sys2Proof/Machine/Lane.lean ====
section
/-! DEFINITION. The commands of one receiver (02): signal detect, LOCK, acquisition, adaptation and its register writes. -/

namespace Sys2Proof.Machine

/-- What follows on a receiver from the loss of LOCK (R40, R73, R176, R208): alignment and frame lock are lost, and a
calibration run ends. -/
def State.lockLost (s : State) (h : Nat) : State :=
  ((((s.off (LCH_FOM.LOCK h)).setAlign h 0).off (LCH_SEG_FEC.FRAME_LOCK h)).upH h (fun x => { x with
    forwarding := false, prevRow := none, badRun := 0, goodRun := 0 })).abortRun h

/-- Electrical idle forwarded to the transmitter that answers a receiver (R46, R100): at an announced idle, and in
HOT_RESET, DISABLED and LOOPBACK. -/
def State.quietAcross (s : State) (h : Nat) : State :=
  match s.claim h with
  | some q =>
    let p := q / 2
    if s.isTT p then
      match s.across h with
      | some a => if (s.half h).eios ∨ s.trn p = tHOTRESET ∨ s.trn p = tDISABLED ∨ s.trn p = tLOOPBACK then s.setTx a .idle
          else s
      | none => s
    else s.pathSoon p
  | none => s

/-- A Port in LOOPBACK returns to DETECT once both sides are in electrical idle (04, Table 3). -/
def State.loopbackEnd (s : State) (p : Nat) : State :=
  if s.trn p = tLOOPBACK ∧ (s.stdSides p).all s.sideIdle then s.enterDetect p else s

/-- Whether the detector of an armed Port's receiver runs in a tile that is OFF (R41, R401): in IDLE and SLEEP too, but not where a
reset holds the tile. -/
def State.detectsArmed (s : State) (h : Nat) : Bool :=
  match s.claim h with
  | some q => s.armed (q / 2) && s.tileState (tileOfHalf h) == 0 && !s.resetsHeld && !s.power.inReset && decide (s.powerState ≤ 2)
  | none => false

/-- SIGNAL_DETECT_RISE (R26, R29, R41, R15, R102, R143, R401): SIGDET becomes 1 on a receiver in use, and on one of an armed Port in
a tile that is OFF, whose detector stays powered and wakes the tile and the device; not where a reset holds the tile, nor in DEEP
and OFF. On a Segment Side in SDETECT it may complete the signals that SACQUIRE needs. -/
def execSignalDetectRise (h : HalfId) (s : State) : Host.Outcome State Fault Refusal :=
  match s.claim h with
  | none => .next s
  | some q =>
    let p := q / 2
    .next (if s.live h then
        if s.bit (LCH_FOM.SIGDET h) then s
        else
          let s1 := (s.on (LCH_FOM.SIGDET h)).upH h (fun x => { x with eios := false })
          ((if s.isSeg q then s1.segSignals q else s1.pathSoon p).sigdetWake h).noted s p
      else if s.detectsArmed h then
        (s.on (LCH_FOM.SIGDET h)).sigdetWake h
      else s)

/-- SIGNAL_DETECT_FALL (R26, R29, R41, R40, R53, R73, R208): the receiver of a tile that is ON returns to IDLE; the detector of an armed
Port in a tile that is OFF runs on as SIGNAL_DETECT_RISE has it. -/
def execSignalDetectFall (h : HalfId) (s : State) : Host.Outcome State Fault Refusal :=
  .next (match s.claim h with
    | none => s
    | some q =>
      if !s.bit (LCH_FOM.SIGDET h) then s
      else if s.tileState (tileOfHalf h) = 2 then
        let s1 := (((s.off (LCH_FOM.SIGDET h)).lockLost h).rxIdle h).quietAcross h
        (if s.isSeg q then s1.showSide q else s1.loopbackEnd (q / 2)).noted s (q / 2)
      else if s.detectsArmed h then s.off (LCH_FOM.SIGDET h)
      else s)

/-- LOCK_RISE (R40, R53, R57, R73): ACQUIRE ends in CONVERGE on a cold start, TRACK on a warm start, or FROZEN when
FREEZE is 1; in any later state, and while its engine is stopped (R59), only LOCK and the alignment change. -/
def execLockRise (h : HalfId) (rx : RxCoef) (s : State) : Host.Outcome State Fault Refusal :=
  let st := s.rd (LCH_FOM.ADAPT_STATE h)
  .next (if s.live h ∧ s.bit (LCH_FOM.SIGDET h) ∧ !s.bit (LCH_FOM.LOCK h) ∧ st ≠ 0 then
      let s1 := (s.on (LCH_FOM.LOCK h)).setAlign h 1
      let s2 :=
        if st = 1 ∧ s.engineUp h then
          let s3 := (s1.adapted h rx).upH h (fun x => { x with warmLeft := 0 })
          if s.bit (LCH_EQ_CTRL.FREEZE h) then s3.wr (LCH_FOM.ADAPT_STATE h) 5
          else if s.bit (LCH_RX_EQ.WARM h) then s3.toTrack h false
          else s3.wr (LCH_FOM.ADAPT_STATE h) 2
        else s1
      (s2.forwardAcross h).showOf h
    else s)

/-- LOCK_FALL (R40, R73, R208). -/
def execLockFall (h : HalfId) (s : State) : Host.Outcome State Fault Refusal :=
  .next (if s.bit (LCH_FOM.LOCK h) then (s.lockLost h).showOf h else s)

/-- ACQUIRE_START (R53, R35, R203, R474): with the Port's request and signal detect, and its engine running (R243). On a
side in SDETECT that now has enough signals the step enters SACQUIRE first (R143). -/
def execAcquireStart (h : HalfId) (s : State) : Host.Outcome State Fault Refusal :=
  match s.claim h with
  | some q =>
    let s1 := if s.isSeg q then s.segSignals q else s
    .next (if s1.live h ∧ s1.rd (LCH_FOM.ADAPT_STATE h) = 0 ∧ (s1.half h).wantRx ∧ s1.bit (LCH_FOM.SIGDET h) ∧ s1.engineUp h then
        (s1.acquire h).noted s (q / 2)
      else s1.noted s (q / 2))
  | none => .next s

/-- ACQUIRE_TIMEOUT (R53, R474): the receiver returns to IDLE; a warm start is tried twice in all, and later attempts
are cold. While its engine is halted the receiver holds (R242). -/
def execAcquireTimeout (h : HalfId) (s : State) : Host.Outcome State Fault Refusal :=
  .next (if s.rd (LCH_FOM.ADAPT_STATE h) = 1 ∧ s.engineUp h then
      (s.rxIdle h).upH h (fun x => { x with warmLeft := x.warmLeft - 1 })
    else s)

/-- CONVERGE_TIMEOUT (R56, R59): BELOW_TARGET is set where the target was not reached, and CONVERGE is left. -/
def execConvergeTimeout (h : HalfId) (s : State) : Host.Outcome State Fault Refusal :=
  .next (if s.rd (LCH_FOM.ADAPT_STATE h) = 2 ∧ s.engineUp h then
      (s.put (LCH_FOM.BELOW_TARGET h) (!(s.bit (LCH_FOM.FOM_VALID h) && decide (s.fomTarget h ≤ s.rd (LCH_FOM.FOM h))))).leaveConverge h
    else s)

/-- FREEZE_WRITE (R28 to R30, R57, R66, R208): the register is written with FREEZE changed; it acts where R57 says. -/
def execFreezeWrite (h : HalfId) (v : Bool) (s : State) : Host.Outcome State Fault Refusal :=
  .next (s.hostWrite (fun s =>
    s.tileStore (LCH_EQ_CTRL.off h) (s.rd (LCH_EQ_CTRL.CTLE_TRIM_OFF h) * 4 + ofBool v * 2)))

/-- FOM_MIN_CLR (R28 to R30, R63): FOM_MIN becomes 255, in a tile that takes the write. -/
def execFomMinClr (h : HalfId) (s : State) : Host.Outcome State Fault Refusal :=
  .next (s.hostWrite (fun s => 
    s.tileStore (LCH_EQ_CTRL.off h) (8 + s.rd (LCH_EQ_CTRL.CTLE_TRIM_OFF h) % 2 * 4 + s.rd (LCH_EQ_CTRL.FREEZE h) % 2 * 2)))

end Sys2Proof.Machine
end

