-- ==== Sys2Proof/Machine/Datapath.lean ====
section
/-! DEFINITION. The commands of the retiming datapath (03): alignment, data streams, SKP, elastic buffers and deskew. -/

namespace Sys2Proof.Machine

/-- The centre fill of an elastic buffer in bits (03, Table 6). -/
def centreFill (slot : Nat) : Nat := [40, 40, 80, 80, 160, 320, 320].getD slot 0
/-- Its maximum fill in bits (03, Table 6). -/
def maxFill (slot : Nat) : Nat := 2 * centreFill slot

/-- Where both directions of a Port carry a data stream (R100): it enters ACTIVE. -/
def State.streamsRun (s : State) (p : Nat) (flit : Bool) : State :=
  if s.trn p = tFORWARD ∧ (s.portx p).streamA ∧ (s.portx p).streamB then
    (((s.setTrn p tACTIVE).put (PRT_DP_STATUS.FLIT p) flit).upP p (fun x => { x with
      broken := false, cut := false, firstConfig := false })).each
      (s.stdHalves p) (fun t h => t.upH h (fun x => { x with ranSince := false }))
  else s

/-- The stream of one side of a Port begins. -/
def State.markStream (s : State) (q : Nat) : State :=
  s.upP (q / 2) (fun x => if q % 2 = 0 then { x with streamA := true } else { x with streamB := true })

/-- Something of a data stream that a TT Port forwards as it came (R68). -/
def State.passOn (s : State) (h : Nat) (o : Nat → Out) : State :=
  match s.across h with
  | some a => if (s.half a).tx = .forward then s.emit (o a) else s
  | none => s
/-- Its start or its end, and what it brought. -/
def State.passMark (s : State) (h what : Nat) : State := s.passOn h (fun a => .streamMark a what)
def State.passItems (s : State) (h : Nat) (items : List StreamItem) : State :=
  if items.isEmpty then s else s.passOn h (fun a => .passed a items)

/-- The data stream of a side is under way: in ACTIVE, and in FORWARD from its start (R100). -/
def State.streamOn (s : State) (d : Nat) : Bool :=
  s.trn (d / 2) == tACTIVE || (s.trn (d / 2) == tFORWARD && (if d % 2 = 0 then (s.portx (d / 2)).streamA else (s.portx (d / 2)).streamB))

/-- Flits dropped by a full entry buffer (R142). -/
def State.flitDrop (s : State) (q : Nat) : State :=
  (s.on (PRT_SEG_STATUS.FLIT_DROP q)).raise 0x0B (q / 2) 0xFF (q % 2) 0

/-- What has arrived of a data stream as a sequenced frame (R153); none carries what is not in Flit Mode (R114). -/
def StreamItem.frame : StreamItem → Option Frame
  | .flit bytes => some ⟨1, bytes⟩
  | .oset mask symbols => some ⟨2, [3, 0] ++ leBytes 2 mask ++ zeros 12 ++ symbols ++ zeros 224⟩
  | .other _ => none

/-- What has arrived on the Standard Side enters the entry buffer of a geared Port, in order, as far as it has room (R142);
nothing is delivered after a lane fault of the side until Recovery (R191), and nothing enters in a direction that a commit has stopped
(R273; DEDUCED, log entry 147). -/
def State.enterFlits (s : State) (q : Nat) (arrived : List StreamItem) : State :=
  let p := q / 2
  let d := otherSide q
  let frames := arrived.filterMap StreamItem.frame
  if s.isGeared p ∧ s.streamOn d ∧ !(s.portx p).broken ∧ !s.txn.stopped.contains d then
    let cap := entryUnits (s.width d) (s.rd (PRT_DP_CTRL.SLOT d)) (s.rttMaxNs q)
    let room := cap - (s.seg q).outq.length
    let s1 := s.upS q (fun x => { x with outq := x.outq ++ frames.take room })
    if room < frames.length then s1.flitDrop q else s1
  else s

/-- An ordered set of a data stream that crosses the segment (R153): several lanes of one kind share a frame. -/
def State.pushOset (s : State) (sg kind lane : Nat) : State :=
  s.upS sg (fun x =>
    let fresh : Frame := ⟨2, [BitVec.ofNat 8 kind, 0] ++ leBytes 2 (2 ^ lane) ++ zeros 252⟩
    match x.outq.getLast? with
    | some f =>
      let m := byteAt f.payload 2 + 256 * byteAt f.payload 3
      if f.type = 2 ∧ byteAt f.payload 0 = kind ∧ !bitAt m lane then
        { x with outq := x.outq.dropLast ++ [⟨2, [BitVec.ofNat 8 kind, 0] ++ leBytes 2 (m + 2 ^ lane) ++ zeros 252⟩] }
      else { x with outq := x.outq ++ [fresh] }
    | none => { x with outq := x.outq ++ [fresh] })

/-- EIOS or EIEOS of a geared Port's Standard Side crosses the segment under its link lane (R76, R153). -/
def State.relayOset (s : State) (q h kind : Nat) : State :=
  if s.isGeared (q / 2) ∧ !s.txn.stopped.contains q ∧ (s.trn (q / 2) = tFORWARD ∨ s.trn (q / 2) = tEQ ∨ s.trn (q / 2) = tACTIVE ∨ s.trn (q / 2) = tLOWPOWER) then
    s.pushOset (otherSide q) kind (s.linkLane h)
  else s

/-- A deskew failure (R83): recorded and raised, the alignment to be re-established at the next marker; a lane it names on
a Segment Side in SACTIVE, or on the Standard Side of a geared path under R190, has a lane fault with reason 0x7. -/
def State.deskewFailed (s : State) (q : Nat) (lane : Option Nat) : State :=
  let p := q / 2
  let s1 := ((s.on (PRT_DP_STATUS.DESKEW_FAIL p)).raise 0x04 p (match lane with | some h => h / 2 | none => 0xFF) (q % 2) 0).each
    (s.members q) (fun t h => t.upH h (fun x => { x with arrival := none }))
  match lane with
  | none => s1
  | some h =>
    if s.claim h ≠ some q then s1
    else if s.isSeg q then (if s.segState q = sACTIVE then s1.declareFault q h 7 else s1)
    else if s.stdFaultable q h then s1.stdLaneFault q h 7
    else s1

/-- The half-lanes that a side deskews: those of a Segment Side with frame lock, the aligned ones of a Standard Side within
the negotiated width (R82, R76). -/
def State.deskewed (s : State) (q : Nat) : List Nat :=
  if s.isSeg q then (s.segHalves q).filter (fun h => s.bit (LCH_SEG_FEC.FRAME_LOCK h))
  else (s.negHalves q).filter (fun h => decide (2 ≤ s.rd (LCH_DP_STATUS.ALIGN_STATE h)))

/-- A deskew marker on a lane (R82, R83): SKEW of every lane that has had it is its lead over the latest one; a skew of more
than 64 ns is a failure that names the lane whose marker shows it (DEDUCED, log entry 88). -/
def State.noteArrival (s : State) (q h arrival : Nat) : State :=
  let s1 := s.upH h (fun x => { x with arrival := some arrival })
  let seen := (s1.deskewed q).filterMap (fun g => (s1.half g).arrival.map (fun a => (g, a)))
  let late := seen.foldl (fun m e => max m e.2) 0
  if seen.any (fun e => decide (e.2 + 128 < late)) then s1.deskewFailed q (some h)
  else seen.foldl (fun t e => t.wr (LCH_DP_STATUS.SKEW e.1) (late - e.2)) s1

/-- ALIGNMENT_GAINED (R73, R74, R82, R83): a Standard Side receiver in SEARCH enters ALIGNED. On a side that deskews the command
is also each later marker (a SKP ordered set, an EIEOS, the start of a data stream, a frame boundary), with its arrival on
the lane in units of 0.5 ns from the marker's own origin. -/
def execAlignmentGained (h : HalfId) (arrival : Nat) (s : State) : Host.Outcome State Fault Refusal :=
  match s.claim h with
  | none => .next s
  | some q =>
    let p := q / 2
    let st := s.rd (LCH_DP_STATUS.ALIGN_STATE h)
    .next (if s.isSeg q then
        if s.bit (LCH_SEG_FEC.FRAME_LOCK h) then (s.noteArrival q h arrival).noted s p else s
      else if !s.bit (LCH_FOM.LOCK h) ∨ st = 0 then s
      else if s.isTT p then (if st = 1 then (s.setAlign h 2).forwardAcross h else s)
      else
        let s1 := if st = 1 then ((s.setAlign h 2).upH h (fun x => { x with relocking := false, forwarding := true })).showStd p else s
        let s2 := if (s.half h).realign then (s1.upH h (fun x => { x with realign := false })).pathSoon p else s1
        (s2.noteArrival q h arrival).noted s p)

/-- ALIGNMENT_LOST (R73): a Standard Side receiver returns to SEARCH. -/
def execAlignmentLost (h : HalfId) (s : State) : Host.Outcome State Fault Refusal :=
  match s.claim h with
  | none => .next s
  | some q => .next (if !s.isSeg q ∧ 2 ≤ s.rd (LCH_DP_STATUS.ALIGN_STATE h) then s.setAlign h 1 else s)

/-- DATA_STREAM_START (R73, R84, R100, R114): the receiver enters DATA; a stream without Flit Mode on a geared path is
refused; a Flit Mode stream clears NONFLIT_COUNT; streams in both directions bring the Port to ACTIVE. A Segment Side
receiver enters DATA at its first data frame (FRAME_RECEIVED). -/
def execDataStreamStart (h : HalfId) (flit : Bool) (s : State) : Host.Outcome State Fault Refusal :=
  match s.claim h with
  | none => .next s
  | some q =>
    let p := q / 2
    .next (if s.isSeg q ∨ s.rd (LCH_DP_STATUS.ALIGN_STATE h) ≠ 2 then s
      else
        let s1 := ((s.setAlign h 3).upH h (fun x => { x with inFlits := flit })).passMark h 0
        if s.isGeared p ∧ !flit then
          (if (s.portx p).nonflitHold ∨ s.trn p = tDETECT ∨ s.trn p = tHOLD then s1 else s1.refuseNonflit q).noted s p
        else
          let s2 := if flit then s1.wr (PRT_TRN_STATUS.NONFLIT_COUNT p) 0 else s1
          (if s.trn p = tFORWARD ∧ s.logical h < s.negWidth q then (s2.markStream q).streamsRun p flit else s2).noted s p)

/-- DATA_STREAM_END (R68, R73, R100, R104, R153): the receiver returns to ALIGNED; EIOS announces electrical idle; EIEOS in
ACTIVE is the entry to Recovery; what the stream brought crosses first, and on a geared path EIOS and EIEOS after it. An EIOS in
ALIGNED, as before a rate change, is noted and forwarded as well (R104, R112; DEDUCED, log entry 121). -/
def execDataStreamEnd (h : HalfId) (stop : StreamStop) (s : State) : Host.Outcome State Fault Refusal :=
  match s.claim h with
  | none => .next s
  | some q =>
    let p := q / 2
    .next (if s.isSeg q then s
      else if s.rd (LCH_DP_STATUS.ALIGN_STATE h) = 2 ∧ stop.how = .eios then
        ((s.upH h (fun x => { x with eios := true })).passMark h 2).relayOset q h 1
      else if s.rd (LCH_DP_STATUS.ALIGN_STATE h) ≠ 3 then s
      else
        let s1 := ((s.enterFlits (otherSide q) stop.before).passItems h stop.before).setAlign h 2
        match stop.how with
        | .eds => s1.passMark h 1
        | .eios => ((s1.upH h (fun x => { x with eios := true })).passMark h 2).relayOset q h 1
        | .eieos =>
          let s2 := (s1.passMark h 3).relayOset q h 2
          (if s.trn p = tACTIVE then s2.enterForward p none else s2).noted s p)

/-- NONFLIT_HOLD_EXPIRY (R114): 2 ms after the refusal. -/
def execNonflitHoldExpiry (p : PortId) (s : State) : Host.Outcome State Fault Refusal :=
  .next (if s.tileOn p ∧ (s.portx p).nonflitHold then
      ((s.advanceTo (s.portx p).nonflitUntil).upP p (fun x => { x with nonflitHold := false })).pathSoon p
    else s)

/-- The adjustment for a mean fill, over `n` lanes with total fill `tot` (R77): 1 to delete, −1 to add, 0 for neither. -/
def skpChoice (tot n slot : Nat) : Int :=
  if n = 0 then 0
  else if n * (centreFill slot + Config.skpUnit slot) ≤ tot then 1
  else if tot + n * Config.skpUnit slot ≤ n * centreFill slot then -1
  else 0

/-- The counters of a side for an adjustment (R80). -/
def State.countSkp (s : State) (q : Nat) (a : Int) : State :=
  if 0 < a then s.wrapUp (PRT_SKP_ADJ.DEL q) else if a < 0 then s.wrapUp (PRT_SKP_ADJ.ADD q) else s

/-- A buffer's fill once a SKP ordered set has been adjusted. -/
def fillLeft (a : Int) (fill slot : Nat) : Nat :=
  if 0 < a then fill - Config.skpUnit slot else if a < 0 then fill + Config.skpUnit slot else fill

/-- SKP_ADJUST (R77, R80, R103): on a TT Port, from the fills of the 16 lanes by logical lane, of which the side's own within
the negotiated width count; no fill exceeds the buffer's maximum, and a lane that the list does not reach counts as centred
(DEDUCED, log entry 88). -/
def execSkpAdjust (q : SideId) (fills : List Nat) (s : State) : Host.Outcome State Fault Refusal :=
  let p := q.val / 2
  .next (if s.enabled p ∧ s.isTT p ∧ tFORWARD ≤ s.trn p ∧ s.trn p ≠ tHOLD then
      let lanes := s.negHalves q
      let slot := s.rd (PRT_DP_STATUS.SLOT_NOW q)
      let fill (h : Nat) : Nat := min (maxFill slot) (fills.getD (s.logical h) (centreFill slot))
      let a := skpChoice (lanes.map fill).sum lanes.length slot
      let s1 := s.each lanes (fun t h => t.wr (LCH_DP_STATUS.EB_FILL h) (min 255 (fillLeft a (fill h) slot / 8)))
      (s1.countSkp q a).emit (.skp (otherSide q) (-a))
    else s)

/-- SKP_GENERATE (R79, R80, R119): the Standard Side that leaves a geared Port generates a SKP ordered set on the lanes that
send a standard stream, at the interval of the Port's CLOCKING mode, centring its elastic buffer; it carries the margining
responses that wait. The count is that of the stream received on the Segment Side. -/
def execSkpGenerate (q : SideId) (fill : Nat) (s : State) : Host.Outcome State Fault Refusal :=
  let p := q.val / 2
  let lanes := (s.negHalves q).filter (fun h => (s.half h).tx == .forward)
  .next (if s.enabled p ∧ s.isGeared p ∧ !s.isSeg q ∧ !lanes.isEmpty then
      let slot := s.rd (PRT_DP_STATUS.SLOT_NOW q)
      let have_ := min (maxFill slot) fill
      let a := skpChoice have_ 1 slot
      let s0 := s.advanceTo (s.portx p).skpAt
      let s1 := s0.each lanes (fun t h => t.wr (LCH_DP_STATUS.EB_FILL h) (min 255 (fillLeft a have_ slot / 8)))
      let s2 := ((s1.countSkp (otherSide q) a).emit (.skp q (-a))).upP p (fun x => { x with
        skpAt := s0.elapsed + Config.skpInterval (s.rd (PRT_DP_CTRL.CLOCKING p)) slot, marginReply := [], marginFar := none })
      let s3 := (s.portx p).marginReply.foldl (fun t r => t.emit (.marginReply r.1 r.2)) s2
      match (s.portx p).marginFar with
      | some bytes => s3.emit (.marginFar q bytes)
      | none => s3
    else s)

/-- EB_SLIP (R29, R78): in a tile that is ON the buffer is re-centred; the slip sets EB_SLIP, counts and is raised. -/
def execEbSlip (h : HalfId) (s : State) : Host.Outcome State Fault Refusal :=
  match s.claim h with
  | none => .next s
  | some q =>
    let p := q / 2
    .next (if s.isSeg q ∨ !s.tileOn p then s
      else
        let c := centreFill (s.rd (PRT_DP_STATUS.SLOT_NOW q)) / 8
        (((s.wr (LCH_DP_STATUS.EB_FILL h) c).on (PRT_DP_STATUS.EB_SLIP p)).satUp (PRT_DP_STATUS.EB_SLIP_CNT p)).raise
          0x03 p (h / 2) (h % 2) 0)

/-- DESKEW_FAIL (R29, R83): in a tile that is ON a marker is missing on a lane while present on the others, or the skew exceeds
64 ns. A TT Port does not deskew. -/
def execDeskewFail (q : SideId) (lane : Option HalfId) (s : State) : Host.Outcome State Fault Refusal :=
  let p := q.val / 2
  .next (if !s.enabled p ∨ s.isTT p ∨ !s.tileOn p then s else (s.deskewFailed q (lane.map Fin.val)).noted s p)

end Sys2Proof.Machine
end

