-- ==== Sys2Proof/Machine/LineCode.lean ====
section
/-! DEFINITION. The segment line code (05): frame bits, RS(222,210) over GF(2^10), the additive scrambler, the PAM4
mapping and run-limit stuffing. -/

namespace Sys2Proof.Machine

/-! ## GF(2^10) (R127) -/

/-- A field element times α: x^10 + x^3 + 1. -/
def gfTwice (a : Nat) : Nat := if a < 512 then 2 * a else (2 * a) ^^^ 0x409

/-- The product of two field elements, over `n` bits of the second. -/
def gfMulBits : Nat → Nat → Nat → Nat
  | 0, _, _ => 0
  | n + 1, a, b => (if b % 2 = 1 then a else 0) ^^^ gfMulBits n (gfTwice a) (b / 2)
/-- The product of two field elements. -/
def gfMul (a b : Nat) : Nat := gfMulBits 10 a b
/-- The product of a^2, a^4, … (n factors). -/
def gfSquares : Nat → Nat → Nat
  | 0, _ => 1
  | n + 1, a => let b := gfMul a a
    gfMul b (gfSquares n b)
/-- The inverse of a non-zero element: a^1022. -/
def gfInv (a : Nat) : Nat := gfSquares 9 a
/-- A power of an element. -/
def gfPow (a : Nat) : Nat → Nat
  | 0 => 1
  | n + 1 => gfMul a (gfPow a n)
/-- α^n. -/
def gfAlpha (n : Nat) : Nat := gfPow 2 n

/-! ## RS(222,210) (R127) -/

/-- A polynomial, lowest coefficient first, times (x + r). -/
def polyTimesRoot (p : List Nat) (r : Nat) : List Nat :=
  List.zipWith (· ^^^ ·) (0 :: p) (p.map (gfMul r) ++ [0])
/-- The generator polynomial, lowest coefficient first: 13 coefficients. -/
def rsGen : List Nat := (List.range 12).foldl (fun p i => polyTimesRoot p (gfAlpha i)) [1]

/-- One step of the division by the generator: the 12 remainder symbols, highest first, after one message symbol. -/
def rsStep (g : List Nat) (rem : List Nat) (m : Nat) : List Nat :=
  let f := m ^^^ rem.headD 0
  List.zipWith (fun r c => r ^^^ gfMul f c) (rem.drop 1 ++ [0]) g
/-- The parity symbols c_11 to c_0 of 210 message symbols m_209 to m_0. -/
def rsParity (msg : List Nat) : List Nat :=
  let g := (rsGen.take 12).reverse
  msg.foldl (rsStep g) (List.replicate 12 0)

/-- The value of a word, highest symbol first, at a field element. -/
def rsEval (w : List Nat) (x : Nat) : Nat := w.foldl (fun a c => gfMul a x ^^^ c) 0
/-- The 12 syndromes of a received word. -/
def rsSyndromes (w : List Nat) : List Nat := (List.range 12).map (fun j => rsEval w (gfAlpha j))

/-- The value of a polynomial, lowest coefficient first. -/
def polyEval (p : List Nat) (x : Nat) : Nat := rsEval p.reverse x
/-- `p + f · x^m · q`. -/
def polyAddShift (p : List Nat) (f m : Nat) (q : List Nat) : List Nat :=
  let t := List.replicate m 0 ++ q.map (gfMul f)
  (List.range (max p.length t.length)).map (fun i => p.getD i 0 ^^^ t.getD i 0)

/-- The state of the search for the error locator: locator, previous locator, length, shift, previous discrepancy. -/
structure Locator where
  c : List Nat
  b : List Nat
  l : Nat
  m : Nat
  d : Nat
  deriving DecidableEq, Repr

/-- One step of the search for the shortest register that makes the syndromes. -/
def locatorStep (syn : List Nat) (t : Locator) (n : Nat) : Locator :=
  let d := (List.range (t.l + 1)).foldl (fun a i => a ^^^ gfMul (t.c.getD i 0) (if i ≤ n then syn.getD (n - i) 0 else 0)) 0
  if d = 0 then { t with m := t.m + 1 }
  else
    let c' := polyAddShift t.c (gfMul d (gfInv t.d)) t.m t.b
    if 2 * t.l ≤ n then ⟨c', t.c, n + 1 - t.l, 1, d⟩ else { t with c := c', m := t.m + 1 }

/-- The error locator of 12 syndromes. -/
def locator (syn : List Nat) : Locator := (List.range 12).foldl (locatorStep syn) ⟨[1], [1], 0, 1, 1⟩

/-- The error value at a position, from the evaluator and the locator (the generator's first root is α^0). -/
def errorValue (syn c : List Nat) (i : Nat) : Nat :=
  let x := gfAlpha i
  let xi := gfInv x
  let om := (List.range 12).map (fun k => (List.range (k + 1)).foldl (fun a j => a ^^^ gfMul (c.getD j 0) (syn.getD (k - j) 0)) 0)
  let dc := (List.range c.length).map (fun k => if k % 2 = 0 then c.getD (k + 1) 0 else 0)
  gfMul x (gfMul (polyEval om xi) (gfInv (polyEval dc xi)))

/-- The received word of 222 symbols corrected, with the number of symbols corrected; none when it is uncorrectable.
At most 6 symbols are ever corrected, and the result is a codeword (R127). -/
def rsDecode (w : List Nat) : Option (List Nat × Nat) :=
  let syn := rsSyndromes w
  if syn.all (· == 0) then some (w, 0)
  else
    let t := locator syn
    if 6 < t.l then none
    else
      let bad := (List.range 222).filter (fun i => polyEval t.c (gfInv (gfAlpha i)) == 0)
      if bad.length ≠ t.l then none
      else
        let v := (List.range 222).map (fun k =>
          if bad.contains (221 - k) then w.getD k 0 ^^^ errorValue syn t.c (221 - k) else w.getD k 0)
        if (rsSyndromes v).all (· == 0) then some (v, t.l) else none

/-! ## Bits (R122, R123) -/

/-- `k` bits of a number, the most significant first. -/
def bitsHigh (k n : Nat) : List Bool := (List.range k).map (fun i => bitAt n (k - 1 - i))
/-- A number from bits, the most significant first. -/
def numHigh (bs : List Bool) : Nat := bs.foldl (fun a b => 2 * a + ofBool b) 0
/-- The first `n` pieces of `k` bits of a list, as numbers. -/
def groups (k : Nat) : Nat → List Bool → List Nat
  | 0, _ => []
  | n + 1, bs => numHigh (bs.take k) :: groups k n (bs.drop k)

/-- The fields of a frame header (05, Table 2). -/
structure Header where
  row : Nat
  type : Nat
  lane : Nat
  epoch : Nat
  ack : Nat
  nak : Bool
  omit_ : Bool
  credit : Nat
  deriving DecidableEq, Repr

/-- The 52 bits of a header. -/
def Header.encode (h : Header) : Nat :=
  h.row % 4096 * 2 ^ 40 + h.type % 16 * 2 ^ 36 + h.lane % 32 * 2 ^ 31 + h.epoch % 256 * 2 ^ 23 + h.ack % 4096 * 2 ^ 11 +
    ofBool h.nak * 2 ^ 10 + ofBool h.omit_ * 2 ^ 9 + h.credit % 256
/-- A header from its 52 bits; the reserved bit is ignored. -/
def Header.decode (n : Nat) : Header :=
  ⟨bitsOf n 40 12, bitsOf n 36 4, bitsOf n 31 5, bitsOf n 23 8, bitsOf n 11 12, bitAt n 10, bitAt n 9, bitsOf n 0 8⟩

/-- The seed of an epoch and a logical lane, and the training seed (R128). -/
def laneSeed (epoch lane : Nat) : Nat := epoch * 2 ^ 23 + lane * 2 ^ 18 + 0x2D365
def trainingSeed : Nat := laneSeed 0 31

/-- The scrambler of R128: each bit XORed with the register's output. -/
def scramble : Nat → List Bool → List Bool
  | _, [] => []
  | st, b :: bs =>
    let k := (st / 2 ^ 30 + st / 2 ^ 27) % 2
    (b != (k == 1)) :: scramble ((2 * st + k) % 2 ^ 31) bs

/-- The level of a pair of bits, the earlier first (R37, R122), and the pair of a level. -/
def pamLevel (a b : Bool) : Int := if a then (if b then 1 else 3) else (if b then -1 else -3)
def pamBits (l : Int) : List Bool := if 2 ≤ l then [true, false] else if 0 ≤ l then [true, true] else if -2 ≤ l then [false, true]
  else [false, false]
/-- The levels of a list of bits. -/
def pamMap : List Bool → List Int
  | a :: b :: r => pamLevel a b :: pamMap r
  | _ => []

/-- The 2,220 bits of a frame before scrambling (R122, R127). -/
def frameBits (h : Header) (payload : List Byte) : List Bool :=
  let msg := bitsHigh 52 h.encode ++ (List.range 256).flatMap (fun i => bitsHigh 8 (byteAt payload i))
  msg ++ (rsParity (groups 10 210 msg)).flatMap (bitsHigh 10)

/-! ## Run-limit stuffing (R129) -/

/-- The stuff symbol for a run at a level. -/
def stuffFor (l : Int) : Int := if 0 < l then -3 else 3
/-- One more symbol on the line. -/
def Run.next (r : Run) (l : Int) : Run := if r.len ≠ 0 ∧ r.level = l then ⟨l, r.len + 1⟩ else ⟨l, 1⟩

/-- The symbols sent for a frame, with the run at its end and the number of stuff symbols inserted. -/
def stuff : Run → List Int → List Int × Run × Nat
  | r, [] => ([], r, 0)
  | r, l :: ls =>
    let r1 := r.next l
    if r1.len = 12 then
      let t := stuffFor l
      let (out, r2, n) := stuff ⟨t, 1⟩ ls
      (l :: t :: out, r2, n + 1)
    else
      let (out, r2, n) := stuff r1 ls
      (l :: out, r2, n)

/-- The symbols received with stuff removed, the run at the end, and the stuff violations. -/
def destuff : Run → List Int → List Int × Run × Nat
  | r, [] => ([], r, 0)
  | r, l :: ls =>
    if r.len = 12 then
      let (out, r2, n) := destuff ⟨l, 1⟩ ls
      (out, r2, n + (if l = stuffFor r.level then 0 else 1))
    else
      let (out, r2, n) := destuff (r.next l) ls
      (l :: out, r2, n)

/-- A frame as its header, payload and corrected symbols, under a seed; none when it does not decode. -/
def decodeFrame (levels : List Int) (seed : Nat) : Option (Header × List Byte × Nat) :=
  if levels.length ≠ 1110 then none
  else match rsDecode (groups 10 222 (scramble seed (levels.flatMap pamBits))) with
    | none => none
    | some (w, n) =>
      let bits := w.flatMap (bitsHigh 10)
      some (Header.decode (numHigh (bits.take 52)), (groups 8 256 (bits.drop 52)).map (BitVec.ofNat 8), n)

end Sys2Proof.Machine
end

