-- ==== Sys2Proof/Machine/Training.lean ====
section
/-! DEFINITION. The commands of Standard Sides and link training (04). -/

namespace Sys2Proof.Machine

/-! ## What a training set does (R75, R76, R96 to R99, R103, R107, R108, R115) -/

/-- Whether a substate belongs to Configuration, to Polling, and whether it is Recovery. -/
def subConfig : Substate → Bool
  | .configLinkwidthStart | .configOther => true
  | _ => false
def subPolling : Substate → Bool
  | .pollingActive | .pollingConfiguration | .pollingCompliance => true
  | _ => false
def subRecovery : Substate → Bool
  | .recoveryRcvrLock | .recoverySpeed | .recoveryRcvrCfg | .recoveryIdle | .recoveryEq _ => true
  | _ => false

/-- The NEG_WIDTH code of a width (04, Table 10), 0 for any other number. -/
def widthCode (w : Nat) : Nat :=
  if w = 1 then 1 else if w = 2 then 2 else if w = 4 then 3 else if w = 8 then 4 else if w = 16 then 5 else 0

/-- A partner's substate, with the instant of its change (R106): one instant for both partners, so that a change of either begins the
time again (DESIGN CHOICE, log entry 140). On a geared path compliance silences the far side (R118). -/
def State.noteSub (s : State) (q : Nat) (sub : Substate) : State :=
  let old := if q % 2 = 0 then (s.portx (q / 2)).subA else (s.portx (q / 2)).subB
  let s1 := s.upP (q / 2) (fun x =>
    let y := if q % 2 = 0 then { x with subA := some sub } else { x with subB := some sub }
    { y with
      firstConfig := y.firstConfig && !subRecovery sub
      subAt := if old = some sub then x.subAt else s.elapsed })
  if (old == some .pollingCompliance) = (sub == .pollingCompliance) then s1 else s1.pathSoon (q / 2)

/-- An inverted set in Polling marks the lane's polarity (R75); the side's substate is the set's. -/
def State.noteSubstate (s : State) (q h : Nat) (ts : TrainingSet) : State :=
  (if ts.inverted ∧ subPolling ts.substate then s.on (LCH_DP_STATUS.POL_INV h) else s).noteSub q ts.substate

/-- The side the first Configuration set with a link number comes from is the upstream one; a TS2 of the upstream component
shows whether a Retimer stands before this one (R97), and its sets the de-emphasis of the link (R44; PRESUMED, log entry 91). -/
def State.noteUp (s : State) (q : Nat) (ts : TrainingSet) (first : Bool) : State :=
  let p := q / 2
  let s1 := if s.rd (PRT_TRN_CTRL.UPSTREAM p) = 0 ∧ s.rd (PRT_TRN_STATUS.UP_SIDE p) = 0 ∧ !ts.ts2 ∧ ts.link.isSome ∧ first then
      (s.wr (PRT_TRN_STATUS.UP_SIDE p) (1 + q % 2)).pathSoon p
    else s
  if s1.isUpp q then
    (if ts.ts2 then s1.wr (PRT_TRN_STATUS.RETIMER_POS p) (if ts.retimerPresent then 2 else 1) else s1).upP p
      (fun x => { x with deEmph := ts.deEmph })
  else s1

/-- The Lane number of a set on a geared Port, k or w − 1 − k of the negotiated width (R76), and its mark of CXL. -/
def State.noteLane (s : State) (q h : Nat) (ts : TrainingSet) (geared : Bool) : State :=
  let k := s.logical h
  let s1 := match ts.lane with
    | some l =>
      if geared ∧ subConfig ts.substate ∧ k < s.negWidth q ∧ (l = k ∨ l + k + 1 = s.negWidth q) then
        (s.wr (LCH_DP_STATUS.LINK_LANE h) l).put (PRT_DP_STATUS.REVERSED q) (l ≠ k)
      else s
    | none => s
  if ts.cxl then s1.on (PRT_TRN_STATUS.CXL (q / 2)) else s1

/-- The width a Configuration set agrees (R103): the logical lanes at or above it leave the link, on a TT Port too where the endpoints
reverse their lanes (DESIGN CHOICE, log entry 141). -/
def State.noteWidth (s : State) (p w : Nat) (geared : Bool) : State :=
  let s1 := s.wr (PRT_TRN_STATUS.NEG_WIDTH p) (widthCode w)
  (s1.each ((s1.stdHalves p).filter (fun g => decide (w ≤ s1.logical g))) (fun t g =>
    let t1 := t.setTx g .idle
    if geared then t1.releaseRx g else t1)).showStd p

/-- What a set says of the link: polarity, substate, orientation, position, width, lane order and protocol. -/
def State.noteSet (s : State) (q h : Nat) (ts : TrainingSet) : State :=
  let geared := s.isGeared (q / 2)
  let s1 := (s.noteSubstate q h ts).noteUp q ts (s.portx (q / 2)).firstConfig
  let s2 := match ts.width with
    | some w => if widthCode w = 0 ∨ !subConfig ts.substate then s1 else s1.noteWidth (q / 2) w geared
    | none => s1
  s2.noteLane q h ts geared

/-- What a set says of equalisation: the preset for the far transmitter, the partner's own preset, its request and its
precoding request (R107, R108). -/
def State.eqSet (s : State) (q h : Nat) (ts : TrainingSet) : State :=
  let p := q / 2
  let s1 := s.upH h (fun x => { x with txPrecode := ts.precode })
  let s2 := match ts.preset with
    | some n =>
      if s.trn p = tEQ then s1.upH h (fun x => { x with peerPreset := n })
      else if s.isUpp q ∧ s.isTT p then
        match s.across h with
        | some a => s1.upH a (fun x => { x with fwdPreset := some n })
        | none => s1
      else s1
    | none => s1
  match ts.request with
  | some r => if s.trn p = tEQ ∧ s.servesIn q (s.rd (PRT_TRN_STATUS.EQ_PHASE p)) ∧ !ts.ts2 then s2.eqRequest p h r else s2
  | none => s2

/-- The Port's training state after a set (04, Table 3): Hot Reset, Disable and Loopback, to which EQ leads by way of FORWARD,
the entry to Recovery seen in ACTIVE, and the phases of equalisation. A Loopback request on a geared path is refused (R115). The
states that Table 3 leaves only to DETECT stay. Where the partners' phases differ, the set received last counts (DESIGN CHOICE, log
entry 122). -/
def State.stateSet (s : State) (p : Nat) (ts : TrainingSet) : State :=
  let s1 := if s.trn p = tACTIVE then s.enterForward p none else s
  let leave (v : Nat) : State := (if s1.trn p = tEQ then s1.eqEnd p else s1).setTrn p v
  if s.trn p = tHOTRESET ∨ s.trn p = tDISABLED ∨ s.trn p = tLOOPBACK then s
  else if !ts.ts2 ∧ ts.hotReset then leave tHOTRESET
  else if !ts.ts2 ∧ ts.disable then leave tDISABLED
  else if !ts.ts2 ∧ ts.loopback then
    if s.isTT p then leave tLOOPBACK
    else (((s1.on (PRT_TRN_EVENTS.LOOPBACK_REFUSED p)).stdIdle p).upP p (fun x => { x with loopRefused := true })).pathSoon p
  else match ts.substate with
    | .recoveryEq ph =>
      if s1.trn p = tFORWARD ∨ (s1.trn p = tEQ ∧ s1.rd (PRT_TRN_STATUS.EQ_PHASE p) ≠ ph.val) then s1.eqBegin p ph.val else s1
    | _ => if s1.trn p = tEQ then s1.eqEnd p else s1

/-- The set sent on (R99): on a TT Port from the transmitter that answers, unchanged in LOOPBACK and in Polling.Compliance but
for the lane's inversion (R75, R118); on a geared path its content is kept for the OSREL frames (R151). Loopback sets and
compliance patterns do not cross a geared path (R115, R118). -/
def State.forwardSet (s : State) (q h : Nat) (ts : TrainingSet) : State :=
  let p := q / 2
  if s.isTT p then
    match s.across h with
    | some a =>
      if (s.half a).tx = .forward then
        s.emit (.trainingSet a (if s.trn p = tLOOPBACK ∨ ts.substate = .pollingCompliance then { ts with inverted := false }
          else s.sentSet (otherSide q) a (s.enteredSet q h ts)))
      else s
    | none => s
  else if (!ts.ts2 && ts.loopback) || ts.substate == .pollingCompliance then s.upH h (fun x => { x with tsSyms := [] })
  else s.upH h (fun x => { x with tsSyms := (s.enteredSet q h ts).symbols })

/-- TRAINING_SET_RECEIVED (R99, with R75, R76, R96, R97, R100, R103, R107, R108, R115, R118). -/
def execTrainingSetReceived (h : HalfId) (ts : TrainingSet) (s : State) : Host.Outcome State Fault Refusal :=
  match s.claim h with
  | none => .next s
  | some q =>
    let p := q / 2
    .next (if s.isSeg q ∨ s.rd (LCH_DP_STATUS.ALIGN_STATE h) < 2 ∨ s.trn p < tFORWARD ∨ s.trn p = tLOWPOWER ∨ s.trn p = tHOLD then s
      else ((((s.noteSet q h ts).stateSet p ts).eqSet q h ts).forwardSet q h ts).noted s p)

/-- EQ_PRESET_ACK (R109): the candidate is in force, and the receiver makes a warm start to measure it. -/
def execEqPresetAck (h : HalfId) (s : State) : Host.Outcome State Fault Refusal :=
  match (s.half h).eval with
  | none => .next s
  | some ev =>
    match ev.cur with
    | none => .next s
    | some c =>
      .next (if ev.acked then s
        else
          let s1 := s.upH h (fun x => { x with eval := some { ev with acked := true }, peerPreset := c })
          if ev.done then s1 else s1.requestRx h true)

/-- Whether both sides of a Port are in electrical idle: its Standard Sides, and the far side of a geared path. -/
def State.bothIdle (s : State) (p : Nat) : Bool := (s.stdSides p).all s.sideIdle && (!s.isGeared p || (s.portx p).farEi)

/-- HOT_RESET_EXIT (R100, R117): once both sides are in electrical idle, or 4 ms after entry. -/
def execHotResetExit (p : PortId) (s : State) : Host.Outcome State Fault Refusal :=
  .next (if s.trn p = tHOTRESET then
      ((if s.bothIdle p then s else s.advanceTo ((s.portx p).hotAt + 4000 * usUnit)).enterDetect p).noted s p
    else s)

/-- DISABLED_EXIT (R100, R117): a receiver of either side has left electrical idle. -/
def execDisabledExit (h : HalfId) (s : State) : Host.Outcome State Fault Refusal :=
  match s.claim h with
  | none => .next s
  | some q => .next (if !s.isSeg q ∧ s.trn (q / 2) = tDISABLED ∧ s.bit (LCH_FOM.SIGDET h) then
      (s.enterDetect (q / 2)).noted s (q / 2)
    else s)

/-- RECEIVER_DETECT_SCAN (R101): what receiver detection found on each data lane of a Standard Side in DETECT; on a TT
Port it sets the terminations of the other side, on a geared path the far end's report does. -/
def execReceiverDetectScan (q : SideId) (found : List HalfId) (s : State) : Host.Outcome State Fault Refusal :=
  let p := q.val / 2
  .next (if s.trn p = tDETECT ∧ !s.isSeg q then
      let hit (h : Nat) : Bool := (found.map Fin.val).contains h
      let s1 := s.each (s.dataHalves q) (fun t h => t.upH h (fun x => { x with found := hit h }))
      let s2 := if s.isTT p then
          s1.each (s1.dataHalves q) (fun t h => match t.across h with
            | some a => t.upH a (fun x => { x with term := hit h })
            | none => t)
        else s1.each (s1.dataHalves q) (fun t h => t.upH h (fun x => { x with term := (s.portx p).farPresent }))
      let none_ := (s.dataHalves q).all (fun h => !hit h)
      (s2.upP p (fun x =>
        if q.val % 2 = 0 then { x with scansA := if none_ then x.scansA + 1 else 0 }
        else { x with scansB := if none_ then x.scansB + 1 else 0 })).pathSoon p |>.noted s p
    else s)

/-- ELECTRICAL_IDLE_EXIT (R100, R102): the opposite transmitter starts; with both partners present DETECT ends. -/
def execElectricalIdleExit (h : HalfId) (s : State) : Host.Outcome State Fault Refusal :=
  match s.claim h with
  | none => .next s
  | some q =>
    let p := q / 2
    .next (if s.isSeg q ∨ !s.bit (LCH_FOM.SIGDET h) ∨ s.kept p then s
      else if s.trn p = tDETECT then
        if s.bothPresent p then
          let s1 := s.enterForward p (some false)
          (s1.each ((s1.stdHalves p).filter (fun g => s1.bit (LCH_FOM.SIGDET g))) State.startAcross).noted s p
        else s
      else if s.trn p = tFORWARD ∨ s.trn p = tEQ ∨ s.trn p = tLOOPBACK then s.startAcross h
      else s)

/-- PARTNER_LOST (R104, R105). -/
def execPartnerLost (q : SideId) (s : State) : Host.Outcome State Fault Refusal :=
  let p := q.val / 2
  .next (if s.enabled p ∧ !s.isSeg q ∧ (s.trn p = tFORWARD ∨ s.trn p = tEQ ∨ s.trn p = tACTIVE ∨ s.trn p = tLOOPBACK) ∧
      (s.negHalves q).all (fun h => !s.bit (LCH_FOM.SIGDET h) && !(s.half h).eios) then
      (s.losePartner q).noted s p
    else s)

/-- The timeout of a substate in ms (R106), 4 ms above the standard's; none where the spec leaves the standard's to it. -/
def substateLimit : Substate → Option Nat
  | .pollingActive | .configLinkwidthStart => some 28
  | .configOther => some 6
  | .pollingConfiguration | .pollingCompliance | .recoveryRcvrLock | .recoverySpeed | .recoveryRcvrCfg | .recoveryIdle
  | .recoveryEq _ | .loopback | .disabled | .hotReset => none

/-- TRAINING_TIMEOUT (R106): in FORWARD and EQ the time of a partner's substate has passed since the substate of either last changed
(DESIGN CHOICE, log entry 140); in LOWPOWER an exit has not been answered. -/
def execTrainingTimeout (p : PortId) (s : State) : Host.Outcome State Fault Refusal :=
  let x := s.portx p
  let due := match x.subA.bind substateLimit, x.subB.bind substateLimit with
    | some a, some b => x.subAt + min a b * (1000 * usUnit)
    | some a, none => x.subAt + a * (1000 * usUnit)
    | none, some b => x.subAt + b * (1000 * usUnit)
    | none, none => 0
  .next (if s.trn p = tFORWARD ∨ s.trn p = tEQ ∨ s.trn p = tLOWPOWER then
      (((if s.trn p = tLOWPOWER then s else s.advanceTo due).on (PRT_TRN_EVENTS.TRN_TIMEOUT p)).enterDetect p).noted s p
    else s)

/-- A half-lane follows a rate change (R112, R53): its converged state is discarded and it starts cold from the new slot's entry,
at once where it was in use and its signal is there; the presets forwarded for it are those of the new rate (R107), and no
rejection is pending (R108). -/
def State.changeRate (s : State) (slot h : Nat) : State :=
  let t := (((s.rxLeaves h).setTx h .idle).setSlot h slot).upH h (fun x => { x with eqPreset := x.fwdPreset, fwdPreset := none, rejected := false })
  match s.claim h with
  | some q =>
    if s.isGeared (q / 2) ∧ s.negWidth q ≤ s.logical h then t.releaseRx h
    else
      let u := t.requestRx h false
      if s.rd (LCH_FOM.ADAPT_STATE h) ≠ 0 ∧ s.bit (LCH_FOM.SIGDET h) ∧ s.engineUp h then u.acquire h else u
  | none => t

/-- RATE_CHANGE (R112): every data half-lane of the Standard Sides switches rate slot; partners that fall back out of
equalisation end it so. -/
def execRateChange (p : PortId) (slot : Fin 7) (s : State) : Host.Outcome State Fault Refusal :=
  .next (if (s.trn p = tFORWARD ∨ s.trn p = tEQ) ∧ (s.stdSides p).any (fun q => s.rd (PRT_DP_STATUS.SLOT_NOW q) != slot.val) then
      let s0 := if s.trn p = tEQ then s.eqEnd p else s
      let s1 := s0.each (s0.stdHalves p) (fun t h => t.changeRate slot h)
      ((s1.each (s1.stdSides p) (fun t q => t.wr (PRT_DP_STATUS.SLOT_NOW q) slot)).satUp (PRT_TRN_EVENTS.RATE_CHG_CNT p)).noted s p
    else s)

/-- Whether the direction that comes in on a side is in L0s, and the mark of it (R115). -/
def State.inL0s (s : State) (q : Nat) : Bool := if q % 2 = 0 then (s.portx (q / 2)).l0sA else (s.portx (q / 2)).l0sB
def State.markL0s (s : State) (q : Nat) (b : Bool) : State :=
  s.upP (q / 2) (fun x => if q % 2 = 0 then { x with l0sA := b } else { x with l0sB := b })

/-- A direction of a TT Port enters L0s (R115): its receivers hold their coefficients for a warm start, and its transmitters, on the
other side, are idle. The other direction goes on, and may enter L0s too. -/
def State.enterL0s (s : State) (q : Nat) : State :=
  let p := q / 2
  if s.isTT p ∧ !s.inL0s q ∧ (s.trn p = tACTIVE ∨ (s.trn p = tLOWPOWER ∧ s.rd (PRT_TRN_STATUS.LP_KIND p) = 1)) then
    let s0 := if s.trn p = tACTIVE then (s.setTrn p tLOWPOWER).wr (PRT_TRN_STATUS.LP_KIND p) 1 else s
    let s1 := s0.markL0s q true
    let s2 := s1.each (s1.dataHalves q) (fun t h => t.upH h (fun x => { x with warmLeft := 2 }))
    (s2.each (s2.dataHalves (otherSide q)) (fun t h => t.setTx h .idle)).noted s p
  else s

/-- A direction leaves L0s (R115): its transmitters forward again, and the Port returns to ACTIVE once neither direction is in L0s. -/
def State.leaveL0s (s : State) (q : Nat) : State :=
  let p := q / 2
  if s.trn p = tLOWPOWER ∧ s.rd (PRT_TRN_STATUS.LP_KIND p) = 1 ∧ s.inL0s q then
    let s1 := s.markL0s q false
    let s2 := if s1.inL0s (otherSide q) then s1
      else ((s1.setTrn p tACTIVE).upP p (fun x => { x with streamA := true, streamB := true })).each (s1.stdHalves p) (fun t h =>
        t.upH h (fun x => { x with ranSince := false }))
    (s2.each (s2.negHalves (otherSide q)) (fun t h =>
      if (t.half h).tx = .idle ∧ !t.l0pIdle h then t.setTx h .forward else t)).noted s p
  else s

/-- LOWPOWER_ENTRY (R115, Table 6). -/
def execLowpowerEntry (q : SideId) (kind : LpKind) (s : State) : Host.Outcome State Fault Refusal :=
  let p := q.val / 2
  .next (if kind = .l0s then s.enterL0s q
    else if s.trn p ≠ tACTIVE ∨ s.isSeg q then s
    else match kind with
      | .l0s => s
      | .l1 =>
        let s1 := ((s.setTrn p tLOWPOWER).wr (PRT_TRN_STATUS.LP_KIND p) 2).stdIdle p
        ((s1.each (s1.stdHalves p) State.releaseRx).pathSoon p).noted s p
      | .l2 =>
        let s1 := ((s.setTrn p tLOWPOWER).wr (PRT_TRN_STATUS.LP_KIND p) 3).stdIdle p
        ((s1.each (s1.stdHalves p) State.releaseRx).pathSoon p).noted s p
      | .l0p mask =>
        let m := mask % 2 ^ 16
        let s1 := (s.upP p (fun x => { x with l0pMask := m })).put (PRT_TRN_STATUS.L0P p) (m != 0)
        ((s1.each ((s1.stdHalves p).filter (fun h => bitAt m (s1.linkLane h))) (fun t h =>
          ((t.rxLeaves h).setTx h .idle).releaseRx h)).pathSoon p).noted s p)

/-- LOWPOWER_EXIT (R100, R102, R115, R116). -/
def execLowpowerExit (q : SideId) (kind : LpKind) (s : State) : Host.Outcome State Fault Refusal :=
  let p := q.val / 2
  .next (if s.isSeg q then s
    else match kind with
      | .l0s => s.leaveL0s q
      | .l1 =>
        if s.trn p = tLOWPOWER ∧ s.rd (PRT_TRN_STATUS.LP_KIND p) = 2 then
          let s1 := s.enterForward p (some true)
          (s1.each ((s1.stdHalves p).filter (fun h => s1.bit (LCH_FOM.SIGDET h))) State.startAcross).noted s p
        else s
      | .l2 =>
        if s.trn p = tLOWPOWER ∧ s.rd (PRT_TRN_STATUS.LP_KIND p) = 3 then (s.enterDetect p).noted s p else s
      | .l0p mask =>
        if s.trn p = tACTIVE then
          let m := mask % 2 ^ 16
          let old := (s.portx p).l0pMask
          let s1 := (s.upP p (fun x => { x with l0pMask := m })).put (PRT_TRN_STATUS.L0P p) (m != 0 || s.farMask p != 0)
          (((s1.each ((s1.stdHalves p).filter (fun h => bitAt old (s1.linkLane h) && !bitAt m (s1.linkLane h)))
            (fun t h => (t.requestRx h true).upH h (fun x => { x with realign := true }))).farStart p .forward).pathSoon p).noted s p
        else s)

/-- TRN_RETRAIN (R100, R114, R269): from any state but DOWN, and out of HOLD. -/
def execTrnRetrain (p : PortId) (s : State) : Host.Outcome State Fault Refusal :=
  .next (s.hostCmd (fun s => s.askRetrain p (PRT_TRN_CTRL.off p) (2 ^ (PRT_TRN_CTRL.RETRAIN p).lo)))

/-! ## Lane margining (R119 to R121) -/

/-- MARGIN_COMMAND (R119 to R121): a command that a control SKP ordered set brings on a half-lane, in ACTIVE from 16 GT/s
upward. The Receiver Number names the receiver of the lane on either pseudo-port; on a geared path a command for the far one goes on in
PATH frames, unless the path ends in a Grallaob port, which has none. -/
def execMarginCommand (h : HalfId) (msg : MarginMsg) (s : State) : Host.Outcome State Fault Refusal :=
  match s.claim h with
  | none => .next s
  | some q =>
    let p := q / 2
    let o := otherSide q
    .next (if s.isSeg q ∨ s.trn p ≠ tACTIVE ∨ s.rd (LCH_FOM.RATE_SLOT h) < 3 then s
      else if s.rxName q = some msg.receiver then s.marginDo h none msg.cmd
      else if s.rxName o ≠ some msg.receiver then s
      else if s.isTT p then
        match s.across h with
        | some a => s.marginDo a none msg.cmd
        | none => s
      else if bitAt (byteAt (s.seg o).pathIn 1) 5 then s
      else (s.upP p (fun x => { x with marginCmd := some (Config.marginBytes (s.linkLane h) msg.receiver msg.cmd) })).pathSoon p)

end Sys2Proof.Machine
end

