-- ==== Sys2Proof/Machine/FrameOps.lean ====
section
/-! DEFINITION. Operations on segment frames and rows (05): LANEID content and checks, entry to SCONFIRM and SACTIVE,
acknowledgement and replay, and the assembly and reception of rows. -/

namespace Sys2Proof.Machine

/-- `a − b` modulo 4,096. -/
def rowDiff (a b : Nat) : Nat := (a + 4096 - b % 4096) % 4096
/-- Whether row `a` is `b` or later, within a window of 2,048. -/
def rowGe (a b : Nat) : Bool := decide (rowDiff a b < 2048)

/-! ## Identity and placement at training (R145 to R149, R172) -/

/-- The receive buffer a side advertises (R142). -/
def State.bufferB (s : State) (q : Nat) : Nat := if s.isSS (q / 2) then 16 else 32

/-- The logical lanes of the partner that a side has heard. -/
def State.heardLanes (s : State) (q : Nat) : List Nat :=
  (List.range 20).filter (fun l => (s.segHalves q).any (fun h => s.rd (LCH_SEG_FEC.HEARD h) == l))

/-- The heard map of LANEID bytes 24 to 43: frozen once the side has left SDISCOVER (R145, R172). -/
def State.heardMap (s : State) (q : Nat) : List Byte :=
  let lanes := match (s.seg q).frozen with
    | some f => f
    | none => s.heardLanes q
  (List.range 20).map (fun l =>
    if lanes.contains l then
      match s.hearerOf q l with
      | some h => BitVec.ofNat 8 (0x80 + h / 2 % 32)
      | none => 0
    else 0)

/-- The payload of a LANEID frame (05, Table 6). -/
def State.laneid (s : State) (q h : Nat) : List Byte :=
  [0x4C, 0x41, 0x4E, 0x45, 0x01, 0x01] ++ beBytes 8 Config.serial ++
    [q / 2, q % 2, s.logical h, s.width q, s.spares q, s.segSlot q, if s.legacy q then 4 else 7,
     ofBool (s.seg q).ready + 2 * ofBool (s.legacy q), s.bufferB q, 0].map (BitVec.ofNat 8) ++ s.heardMap q ++ zeros 212

/-- The partner's identity that a LANEID payload gives. -/
def partnerOf (m : List Byte) : Partner :=
  { version := byteAt m 4
    kind := byteAt m 5
    serial := beNat ((m.drop 6).take 8)
    port := byteAt m 14
    side := byteAt m 15
    width := byteAt m 17
    spares := byteAt m 18
    slot := byteAt m 19
    caps := byteAt m 20
    legacy := bitAt (byteAt m 21) 1
    buffer := byteAt m 22 }

/-- The lanes a heard map shows heard. -/
def mapLanes (m : List Nat) : List Nat := (List.range 20).filter (fun l => 0x80 ≤ m.getD l 0)

/-- The placement of R172 from heard lanes, under this side's policy as it is in force in a direction, told by its receiving side
(R88). -/
def State.placeFrom (s : State) (q d : Nat) (heard : List Nat) : Option (List Nat) :=
  initialPlacement (s.width q) (s.spares q) heard (s.trellis q) (s.inForce d (PRT_TRL_CTRL.POLICY q) == 1)
    (s.inForce d (PRT_TRL_CTRL.MIN_WIDTH q))

/-- The failure reason of a LANEID frame from a half-lane, the lowest that applies; 0 for none (05, Table 7). A CR4064 partner
outside slot 7 fails as one without LEGACY does (R161; DEDUCED, log entry 99). -/
def State.laneidFail (s : State) (q h : Nat) (m : List Byte) : Nat :=
  let pt := partnerOf m
  if pt.width ≠ s.width q ∨ pt.spares ≠ s.spares q then 4
  else if pt.slot ≠ s.segSlot q then 5
  else if pt.serial = Config.serial ∧ pt.port = q / 2 ∧ pt.side = q % 2 then 6
  else if (pt.kind = 3 ∧ (!s.legacy q ∨ s.segSlot q ≠ 7)) ∨ (pt.kind ≠ 3 ∧ s.legacy q) then 7
  else if (s.segHalves q).any (fun g => g != h && s.rd (LCH_SEG_FEC.HEARD g) == byteAt m 16) then 9
  else if s.isGeared (q / 2) ∧ !bitAt pt.caps 2 then 0xA
  else 0

/-- SCONFIRM entered: the heard map is frozen, the placement of the direction received is fixed, and LANEID frames carry
READY (R146, R148, R172). -/
def State.toSConfirm (s : State) (q : Nat) : State :=
  let f := s.heardLanes q
  (s.wr (PRT_SEG_STATUS.STATE q) sCONFIRM).upS q (fun x => { x with
    enteredAt := s.elapsed, frozen := some f, rxPlace := (s.placeFrom q q f).getD (identityPlacement (s.width q + s.spares q)), ready := true })

/-- The first LANEID frame with READY = 1 fixes the placement of the direction sent (R172). -/
def State.noteReady (s : State) (q : Nat) (m : List Byte) : State :=
  if bitAt (byteAt m 21) 0 ∧ (s.seg q).peerReady.isNone then
    let heard := (List.range 20).map (fun l => byteAt m (24 + l))
    match s.placeFrom q (otherSide q) (mapLanes heard) with
    | some pl => s.upS q (fun x => { x with peerReady := some heard, gotReady := true, txPlace := pl })
    | none => s.upS q (fun x => { x with peerReady := some heard, gotReady := true })
  else s

/-- The side moves to SCONFIRM once every logical lane has been heard in both directions (R146); with LEGACY, whose spares are powered
down, those of the data width (DESIGN CHOICE, log entry 144). -/
def State.discoverDone (s : State) (q : Nat) : State :=
  let n := if s.legacy q then s.width q else s.width q + s.spares q
  if s.segState q = sDISCOVER ∧ (List.range n).all (fun l => (s.heardLanes q).contains l) ∧
      (List.range n).all (fun l => (mapLanes (s.seg q).peerHeard).contains l) then s.toSConfirm q
  else s

/-- SACTIVE entered once the transmitter has switched and every heard data half-lane has marked the switch (R149). -/
def State.sactiveEntry (s : State) (q : Nat) : State :=
  if s.segState q = sCONFIRM ∧ (s.seg q).switched ∧ (s.segHalves q).all (fun h =>
      match s.rxLogical q h with
      | some l => decide (s.width q ≤ l) || (s.half h).marked
      | none => true) then
    let b := match (s.seg q).partner with
      | some pt => pt.buffer
      | none => 0
    let s1 := ((((s.wr (PRT_SEG_STATUS.STATE q) sACTIVE).wr (PRT_SEG_STATUS.ATTEMPTS q) 0).wr (PRT_SEG_STATUS.LAST_FAIL q) 0).wr
      (PRT_SEG_STATUS.HOPS q) 0).upS q (fun x => { x with credit := b, ackAt := s.elapsed, rttOver := false, rows := 0 }) |>.upTs q (fun _ => {})
    ((s1.each (s1.segHalves q) (fun t h => t.upH h (fun x => { x with belowFault := false, ranSince := false, corrBlock := 0 }))).showSide
      q).pathSoon (q / 2)
  else s

/-! ## Loss of the partner (R150) -/

/-- The partner of a Segment Side is lost (R150). -/
def State.segPartnerGone (s : State) (q : Nat) : State :=
  (((s.on (PRT_SEG_STATUS.PARTNER_LOST q)).raise 0x05 (q / 2) 0xFF (q % 2) 0).toSDetect q).segLost q

/-! ## Acknowledgement and replay (R135 to R139) -/

/-- A replay from the row after the latest ACK, or RETRY_EXHAUSTED in place of a ninth of one row (R136, R137). -/
def State.startReplay (s : State) (q : Nat) : State :=
  let x := s.seg q
  let r := (x.acked + 1) % 4096
  if x.unacked.isEmpty then s
  else if x.replayRow = r ∧ 8 ≤ x.replayCount then (s.on (PRT_SEG_STATUS.RETRY_EXHAUSTED q)).segPartnerGone q
  else (s.wrapUp (PRT_SEG_CNT.REPLAYS q)).upS q (fun y => { y with
    replay := some r, replayAt := none, replayCount := if y.replayRow = r then y.replayCount + 1 else 1, replayRow := r })

/-- The ACK of a header (R135, R136, R139): the rows it covers are released, and the newest of them gives the round trip, which
counts as late in SACTIVE alone. -/
def State.takeAck (s : State) (q a : Nat) : State :=
  let x := s.seg q
  let d := rowDiff a x.acked
  match x.unacked.find? (fun r => r.row == a) with
  | some r =>
    if d = 0 ∨ 2048 ≤ d then s
    else
      let took := s.elapsed - r.since
      let rtt := min 255 (took / (10 * nsUnit))
      let late := s.segState q == sACTIVE && decide (s.rttMaxNs q * nsUnit < took)
      let s1 := (s.wr (PRT_SEG_STATUS.RTT q) rtt).upS q (fun y => { y with
        acked := a
        unacked := y.unacked.filter (fun r => !rowGe a r.row)
        ackAt := s.elapsed
        replayCount := 0
        replay := match y.replay with
          | some n => if rowGe a n then (if (a + 1) % 4096 = y.nextRow then none else some ((a + 1) % 4096)) else some n
          | none => none
        rttOver := late })
      if late ∧ !x.rttOver then (s1.on (PRT_SEG_STATUS.RTT_OVER q)).raise 0x0A (q / 2) 0xFF (q % 2) rtt else s1
  | none => s

/-- The NAK of a header (R136): repeated for one row within RTT_MAX + 96 ns of its replay, it is ignored. -/
def State.takeNak (s : State) (q a : Nat) : State :=
  let x := s.seg q
  let r := (a + 1) % 4096
  if x.acked ≠ a then s
  else if x.replayRow = r then
    match x.replayAt with
    | none => if x.replay = some r then s else s.startReplay q
    | some t => if s.elapsed ≤ t + (s.rttMaxNs q + 96) * nsUnit then s else s.startReplay q
  else s.startReplay q

/-! ## Reception of a row (R132 to R135) -/

/-- A row's frames with one more lane's. -/
def addFrame (row lane : Nat) (f : Option Frame) (isNew : Bool) : List RxRow → List RxRow
  | [] => [⟨row, [(lane, f)], if isNew then [lane] else []⟩]
  | r :: rs =>
    if r.row = row then
      (if r.got.any (fun g => g.1 == lane) then r
       else { r with got := r.got ++ [(lane, f)], newEp := if isNew then lane :: r.newEp else r.newEp }) :: rs
    else r :: addFrame row lane f isNew rs

/-- The data lanes a row needs: those the placement in force places; after the first frame under a degrade's epoch, those
of the new placement (R133, R171, R175). -/
def State.neededLanes (s : State) (q : Nat) : List Nat :=
  match (s.seg q).prop with
  | some pr => if (s.seg q).degradeSeen then placedLanes pr.placement (s.width q) else placedLanes (s.seg q).rxPlace (s.width q)
  | none => placedLanes (s.seg q).rxPlace (s.width q)

/-- The sequenced frames of a row in ascending lane. -/
def RxRow.frames (r : RxRow) (lanes : List Nat) : List Frame :=
  lanes.filterMap (fun l => match r.got.find? (fun g => g.1 == l) with
    | some (_, some f) => if f.type = 1 ∨ f.type = 2 then some f else none
    | _ => none)

/-- The stream of a geared path's far side has ended (R100). -/
def State.farStreamEnds (s : State) (p : Nat) : State := s.upP p (fun x => { x with farEnded := true, oldStream := false })

/-- A sequenced frame delivered (R134, R141, R159): on an SS Port it waits for the other side's rows; elsewhere it is
released to the output at once, over the half-lanes of the Standard Side in link-lane order (R76), which sends nothing of a stream
that it has broken (R188) or that a commit has stopped (R273; DEDUCED, log entry 147). The first DATA frame begins the
stream of a geared Port's Segment Side, but for those that the stream before it had still to bring; EIOS and EIEOS end it (R100). -/
def State.deliverFrame (s : State) (q : Nat) (f : Frame) : State :=
  let p := q / 2
  let d := otherSide q
  let s1 := if s.isGeared p ∧ ((s.portx p).cut ∨ s.txn.stopped.contains q) then s
    else s.emit (.deliver q f.type f.payload (if s.isSS p then [] else (List.range (s.negWidth d)).filterMap (s.laneHalf d)))
  if s.isSS p then s1.upS q (fun x => { x with exitq := x.exitq ++ [f] })
  else
    let s2 := s1.upS q (fun x => { x with released := x.released + 1 })
    if f.type = 1 then
      let s3 := s2.upP p (fun x => { x with farEnded := false })
      if (s.portx p).oldStream then s3 else (s3.markStream q).streamsRun p true
    else if f.type = 2 ∧ byteAt f.payload 0 ≤ 2 then s2.farStreamEnds p
    else s2

/-- Complete rows accepted in order (R133). An OSREL row 1,024 rows back is forgotten, so that a later frame stays the later one
(R151). -/
def State.acceptRows : Nat → State → Nat → State
  | 0, s, _ => s
  | n + 1, s, q =>
    let x := s.seg q
    let r := (x.lastAcc + 1) % 4096
    let lanes := s.neededLanes q
    match x.arriving.find? (fun e => e.row == r) with
    | some e =>
      if lanes.all (fun l => e.got.any (fun g => g.1 == l)) then
        let s1 := s.upS q (fun y => { y with
          lastAcc := r, nak := false, arriving := y.arriving.filter (fun e => e.row != r)
          osrelRow := if y.osrelRow = some ((r + 3072) % 4096) then none else y.osrelRow })
        State.acceptRows n ((e.frames lanes).foldl (fun t f => t.deliverFrame q f) s1) q
      else s
    | none => s

/-- The rows by which the deskew tolerance lets one half-lane run ahead of another (R82, R132). -/
def deskewRows (slot : Nat) : Nat := if slot = 7 then 2 else 4

/-- Whether a data lane has failed the next row to accept: its receiver's position is past the row, or another lane is past it
by more than the deskew tolerance, for which alone the earliest half-lanes are held (R132, R135). -/
def State.laneFailed (s : State) (q r l : Nat) : Bool :=
  let got := match (s.seg q).arriving.find? (fun e => e.row == r) with
    | some e => e.got.any (fun g => g.1 == l)
    | none => false
  let past (h n : Nat) : Bool := !(s.half h).stale && match (s.half h).prevRow with
    | some v => rowGe v ((r + n) % 4096)
    | none => false
  !got && (s.segHalves q).any (fun h => match s.rxLogical q h with
    | some k => if k = l then past h 0 else decide (k < s.width q) && past h (deskewRows (s.segSlot q))
    | none => false)

/-- NAK rises when a data lane has failed the row after the last accepted one (R135); rows after it are discarded until it
is accepted (R133). -/
def State.judgeNak (s : State) (q : Nat) : State :=
  let x := s.seg q
  let r := (x.lastAcc + 1) % 4096
  if !x.nak && (s.neededLanes q).any (s.laneFailed q r) then
    let s1 := (s.wrapUp (PRT_SEG_CNT.NAK_SENT q)).upS q (fun y => { y with
      nak := true, arriving := y.arriving.filter (fun e => e.row == r) })
    s1.each (s1.segHalves q) (fun t h => t.upH h (fun y => match y.prevRow with
      | some v => { y with returned := false, stale := y.stale || (v != r && rowGe v r) }
      | none => { y with returned := false }))
  else s

/-- A lane's frame of a row, none for an omission, put among the rows arriving. -/
def State.putFrame (s : State) (q row l : Nat) (f : Option Frame) (isNew : Bool) : State :=
  s.upS q (fun y => { y with arriving := addFrame row l f isNew y.arriving })

/-- A frame takes its place in its row, and the omission that it marks in the row before (R133). -/
def State.placeFrame (s : State) (q l : Nat) (hd : Header) (payload : List Byte) (isNew : Bool) : State :=
  let s1 := s.putFrame q hd.row l (some ⟨hd.type, if hd.type = 1 ∨ hd.type = 2 then payload else []⟩) isNew
  if hd.omit_ ∧ 1 < rowDiff hd.row (s.seg q).lastAcc then s1.putFrame q ((hd.row + 4095) % 4096) l none isNew else s1

/-- A correctly decoded frame of a data lane takes its place in its row (R133, R175). While a failed row is awaited a later one is
discarded, but the omission it marks may be what that row still lacks; those of a half-lane that is back from the failed row are held
as far as the deskew tolerance goes (R132). -/
def State.rowFrame (s : State) (q h l : Nat) (hd : Header) (payload : List Byte) (isNew : Bool) : State :=
  let x := s.seg q
  let d := rowDiff hd.row x.lastAcc
  let old := x.degradeSeen && !isNew
  if d = 0 ∨ 2048 < d ∨ (s.half h).stale then s
  else if x.nak ∧ 1 < d ∧ !((s.half h).returned ∧ d ≤ 1 + deskewRows (s.segSlot q)) then
    let s1 := if d = 2 ∧ hd.omit_ ∧ !old then State.acceptRows 1 (s.putFrame q ((hd.row + 4095) % 4096) l none isNew) q else s
    if (s1.seg q).nak then s1.upH h (fun y => { y with stale := true, returned := false }) else s1.placeFrame q l hd payload isNew
  else if old then s
  else s.placeFrame q l hd payload isNew

/-- What a receiver tries on a frame (R128, R149, R174): the seed, the epoch, the lane expected, whether it is the
proposed epoch, and whether it is the training seed. -/
structure Try where
  seed : Nat
  epoch : Nat
  lane : Nat
  isNew : Bool
  training : Bool
  deriving DecidableEq, Repr

def tryTraining : Try := ⟨trainingSeed, 0, 31, false, true⟩
def tryLane (epoch lane : Nat) (isNew : Bool) : Try := ⟨laneSeed epoch lane, epoch, lane, isNew, false⟩

/-- The seeds a receiver tries, in order. -/
def State.tries (s : State) (q h : Nat) : List Try :=
  let cur := match s.rxLogical q h with
    | some l => [tryLane (s.rd (PRT_TRL_STATUS.RX_EPOCH q)) l false]
    | none => []
  let x := s.half h
  if s.segState q = sACTIVE then
    match (s.seg q).prop with
    | some pr =>
      if s.steer q = stCOMMITTING then
        let new := match (List.range 20).find? (fun l => pr.placement.getD l 0x1F == s.rd (LCH_SEG_FEC.HEARD h)) with
          | some l => [tryLane pr.epoch l true]
          | none => []
        if x.newEpoch then new else cur ++ new
      else cur
    | none => if x.marked then cur else cur ++ [tryTraining]
  else if s.segState q = sCONFIRM ∧ (s.seg q).gotReady then (if x.marked then cur else cur ++ [tryTraining])
  else [tryTraining]

/-- The first of the tries under which the levels decode. -/
def firstDecode (levels : List Int) : List Try → Option (Try × Header × List Byte × Nat)
  | [] => none
  | t :: ts =>
    match decodeFrame levels t.seed with
    | some (hd, pl, n) => some (t, hd, pl, n)
    | none => firstDecode levels ts

/-- Whether R132 admits a frame's row on a half-lane. -/
def Half.admits (x : Half) (t : Try) (hd : Header) : Bool :=
  if t.training || !x.marked then true
  else match x.prevRow with
    | none => true
    | some v => hd.row == (v + 1) % 4096 || (hd.row == (v + 2) % 4096 && hd.omit_) || decide (rowDiff v hd.row < 2048)

/-- An uncorrectable frame (R126, R127, R167): counted, with the `n` symbols that were corrected in one that decodes; the
position on the half-lane moves on; reason 0x5 follows at the frame that reaches UNCORR_LIMIT within 1,024. -/
def State.badFrame (s : State) (q h n : Nat) : State :=
  let x := s.half h
  let recent := x.badAt.filter (fun n => decide (x.frameNo < n + 1024))
  let s1 := ((s.satUp (LCH_SEG_FEC.UNCORR h)).wr (LCH_SEG_FEC.CORR_SYM h) (s.rd (LCH_SEG_FEC.CORR_SYM h) + n)).upH h (fun y => { y with
    corrBlock := y.corrBlock + n
    badRun := y.badRun + 1
    goodRun := 0
    badInWindow := true
    frameNo := y.frameNo + 1
    badAt := x.frameNo :: recent
    prevRow := y.prevRow.map (fun v => (v + 1) % 4096) })
  let s2 := if (s.segState q = sACTIVE ∨ s.segState q = sCONFIRM) ∧ x.marked then s1.judgeNak q else s1
  let lim := s.rd (PRT_TRL_CTRL.UNCORR_LIMIT q)
  let s3 := if s.segState q = sACTIVE then s2.showSide q else s2
  if s.segState q = sACTIVE ∧ recent.length < lim ∧ lim ≤ recent.length + 1 then s3.declareFault q h 5 else s3

/-- A correctly decoded frame; the first data frame takes the receiver to DATA, where it stays until frame lock is lost (R73; DEDUCED,
log entry 89; R127, R132 to R136, R139, R149, R174, R183). A frame whose NAK loses the partner (R137) is not read further. -/
def State.goodFrame (s : State) (q h : Nat) (t : Try) (hd : Header) (payload : List Byte) (n : Nat) : State :=
  let x := s.half h
  let mark := !t.training && (x.marked || hd.row == 0)
  let turned := match x.prevRow with
    | some v => decide (rowDiff v hd.row < 2048)
    | none => true
  let d := rowDiff hd.row (s.seg q).lastAcc
  let s1 := (s.wr (LCH_SEG_FEC.CORR_SYM h) (s.rd (LCH_SEG_FEC.CORR_SYM h) + n)).upH h (fun y => { y with
    badRun := 0
    goodRun := y.goodRun + 1
    frameNo := y.frameNo + 1
    badAt := y.badAt.filter (fun k => decide (y.frameNo < k + 1024))
    corrBlock := y.corrBlock + n
    marked := mark
    newEpoch := y.newEpoch || t.isNew
    prevRow := if mark then some hd.row else none
    stale := y.stale && !turned
    returned := y.returned || (turned && (s.seg q).nak && !(1 < d && d ≤ 2048)) })
  if t.training then s1
  else
    let s1 := if hd.type = 1 ∧ s1.rd (LCH_DP_STATUS.ALIGN_STATE h) = 2 then s1.setAlign h 3 else s1
    let s2 := s1.takeAck q hd.ack
    let s3 := if hd.nak then s2.takeNak q hd.ack else s2
    if s3.segState q ≠ s1.segState q then s3 else
    let degr := match (s3.seg q).prop with
      | some pr => t.isNew && pr.spare == 0x1F && !(s3.seg q).degradeSeen
      | none => false
    let s4 := s3.upS q (fun y => { y with
      credit := hd.credit, arriving := if degr then [] else y.arriving, degradeSeen := y.degradeSeen || degr })
    let s5 := if t.lane < s.width q ∧ mark then s4.rowFrame q h t.lane hd payload t.isNew else s4
    let s6 := (State.acceptRows ((s5.seg q).arriving.length + 1) s5 q).judgeNak q
    let s7 := ((s6.sactiveEntry q).commitDone q).recoveredHard q h
    if s7.segState q = sACTIVE then s7.showSide q else s7

/-! ## Launch of a row (R475, R131) -/

/-- The unsequenced frames due in a row, with the lane each is named for: TRELLIS or TIME first, then OSREL and PATH
(R475, R179, R356). -/
def State.unsequenced (s : State) (q : Nat) (placed : List Nat) : List (Option Nat × Frame) :=
  let x := s.seg q
  let steer := if x.steerWait = 0 then x.steerMsg.toList else []
  let msgs := steer ++ x.replies.take 1
  let first : List (Option Nat × Frame) :=
    if !msgs.isEmpty ∧ s.trellis q then
      [(placed[(if !steer.isEmpty then x.steerLane else if (msgs.headD []).take 2 = x.lastReply then x.replyLane else 0) %
          max 1 placed.length]?,
        ⟨6, [0x01, BitVec.ofNat 8 msgs.length] ++ zeros 30 ++ msgs.flatten ++ zeros (224 - 32 * msgs.length)⟩)]
    else match x.timeDue with
      | some pl => [(placed.head?, ⟨5, pl⟩)]
      | none => []
  first ++ (x.osrelDue.toList.map (fun pl => (none, ⟨3, pl⟩))) ++ (x.pathDue.toList.map (fun pl => (none, ⟨4, pl⟩)))

/-- Unsequenced frames placed: each on the lane named if it is free, else on the lowest free one; those that find none
wait. -/
def placeFrames (placed : List Nat) : List (Option Nat × Frame) → List (Nat × Frame) → List (Nat × Frame)
  | [], taken => taken
  | (want, f) :: fs, taken =>
    let free := placed.filter (fun l => !(taken.map Prod.fst).contains l)
    let lane := match want with
      | some w => if free.contains w then some w else free.head?
      | none => free.head?
    match lane with
    | some l => placeFrames placed fs (taken ++ [(l, f)])
    | none => placeFrames placed fs taken

/-- The dues that a row has carried are over: the steering message waits 8 rows, a sent reply is dropped (R179). -/
def State.consumeDue (s : State) (q : Nat) (sent : List Frame) : State :=
  let has (ty : Nat) : Bool := sent.any (fun f => f.type == ty)
  s.upS q (fun x =>
    let steered := has 6 && x.steerWait == 0 && x.steerMsg.isSome
    let replied := has 6 && !x.replies.isEmpty
    let key := (x.replies.headD []).take 2
    { x with
      steerWait := if steered then 7 else x.steerWait - 1
      replies := if replied then x.replies.drop 1 else x.replies
      steerLane := if steered then x.steerLane + 1 else x.steerLane
      replyLane := if replied then (if key = x.lastReply then x.replyLane + 1 else 1) else x.replyLane
      lastReply := if replied then key else x.lastReply
      timeDue := if has 5 then none else x.timeDue
      osrelDue := if has 3 then none else x.osrelDue
      pathDue := if has 4 then none else x.pathDue })

/-- How many of `n` waiting sequenced frames credit allows, from a count already sent (R141). -/
def creditAllows (credit sent : Nat) : Nat → Nat
  | 0 => 0
  | n + 1 =>
    let d := (credit + 256 - sent / 16 % 256) % 256
    if 1 ≤ d ∧ d ≤ 127 then 1 + creditAllows credit (sent + 1) n else 0

/-- The sequenced frames waiting for a side: the entry buffer of a geared Port, or what the other side of an SS Port has
received (R142, R159). -/
def State.waiting (s : State) (q : Nat) : List Frame :=
  if s.isSS (q / 2) then (s.seg (otherSide q)).exitq else (s.seg q).outq

/-- `n` waiting frames are taken; on an SS Port that releases them on the side that received them (R141, R159). -/
def State.takeWaiting (s : State) (q n : Nat) : State :=
  if s.isSS (q / 2) then s.upS (otherSide q) (fun x => { x with
    exitq := x.exitq.drop n, released := x.released + (n - x.carried), carried := x.carried - n })
  else s.upS q (fun x => { x with outq := x.outq.drop n })

/-- The line symbols of one frame leave a half-lane, or, for an IDLE frame of a half-lane far ahead in stuff symbols, the
row is omitted (R129, R131). `low` is the lowest count of the side. -/
def State.sendFrame (s : State) (h seed : Nat) (hd : Header) (payload : List Byte) (low : Int) : State :=
  let x := s.half h
  if hd.type = 0 ∧ seed ≠ trainingSeed ∧ low + 1110 ≤ x.stuffBal then
    (s.upH h (fun y => { y with stuffBal := y.stuffBal - 1110, omitNext := true })).emit (.omit h)
  else
    let (line, run, n) := stuff x.txRun (pamMap (scramble seed (frameBits { hd with omit_ := x.omitNext } payload)))
    (s.upH h (fun y => { y with
      txRun := run
      stuffBal := y.stuffBal + n
      omitNext := false
      sentNo := y.sentNo + 1
      stuffAt := (if n = 0 then [] else [(y.sentNo, n)]) ++ y.stuffAt.filter (fun e => decide (y.sentNo < e.1 + 65536)) })).emit
      (.line h line)

/-- Whether the stuff symbols of a half-lane exceed 0.5% of the symbols it sent over the last 65,536 frames (R130). -/
def Half.stuffOver (x : Half) : Bool :=
  let n := ((x.stuffAt.filter (fun e => decide (x.sentNo ≤ e.1 + 65536))).map Prod.snd).sum
  decide (65536 ≤ x.sentNo) && decide (65536 * 1110 + n < 200 * n)

/-- The lane index that each half-lane of a side sends: the lane placed on it, and a dropped lane's on the half-lane that carried
it (R170, R171); a lane dropped at training was at home (R172). -/
def State.lanesSent (s : State) (q : Nat) : List (Nat × Nat) :=
  let pl := (s.seg q).txPlace
  let n := s.width q + s.spares q
  let home (l : Nat) : Nat := match (s.seg q).dropHomes.find? (fun e => e.1 == l) with
    | some e => e.2
    | none => l
  (s.segHalves q).filterMap (fun h =>
    ((List.range n).find? (fun l => pl.getD l 0x1F == s.logical h || (pl.getD l 0x1F == 0x1F && home l == s.logical h))).map
      (fun l => (h, l)))

/-- A row leaves every half-lane of a side: the given frames on their lanes, IDLE elsewhere. -/
def State.sendRow (s : State) (q row : Nat) (frames : List (Nat × Frame)) : State :=
  let x := s.seg q
  let ep := s.rd (PRT_TRL_STATUS.TX_EPOCH q)
  let lanes := s.lanesSent q
  let low := match lanes.map (fun e => (s.half e.1).stuffBal) with
    | [] => 0
    | a :: as => as.foldl min a
  lanes.foldl (fun t e =>
    let f := match frames.find? (fun g => g.1 == e.2) with
      | some g => if (placedLanes x.txPlace (s.width q)).contains e.2 then g.2 else ⟨0, []⟩
      | none => ⟨0, []⟩
    t.sendFrame e.1 (laneSeed ep e.2) ⟨row, f.type, e.2, ep, x.lastAcc, x.nak, false,
      (s.bufferB q + x.released / 16) % 256⟩ f.payload low) s

/-- A row launched by a side that has switched to lane seeds (R475, R136, R140, R141). While every slot is taken, rows without sequenced
frames take numbers and are kept for replay beyond SLOTS (DESIGN CHOICE, log entry 142). A direction that a commit has stopped sends
none of its waiting frames (R273). -/
def State.launchRow (s : State) (q : Nat) : State :=
  let x := s.seg q
  let placed := placedLanes x.txPlace (s.width q)
  let due := s.unsequenced q placed
  match x.replay with
  | some r =>
    let seq := match x.unacked.find? (fun e => e.row == r) with
      | some e => e.frames
      | none => []
    let all := placeFrames placed due seq
    let s1 := (s.sendRow q r all).consumeDue q ((all.drop seq.length).map Prod.snd)
    s1.upS q (fun y => { y with
      replayAt := if r = y.replayRow ∧ y.replayAt.isNone then some s.elapsed else y.replayAt
      replay := if (r + 1) % 4096 = y.nextRow then none else some ((r + 1) % 4096)
      rows := y.rows + 1 })
  | none =>
    let unseq := placeFrames placed due []
    let free := placed.filter (fun l => !(unseq.map Prod.fst).contains l)
    let w := if s.txn.stopped.contains (otherSide q) then [] else (s.waiting q).take free.length
    let room := decide ((x.unacked.length + 1) * placed.length ≤ s.rd (PRT_SEG_CTRL.SLOTS q))
    let n := if room ∧ s.segState q = sACTIVE then creditAllows x.credit x.sent w.length else 0
    let seq := free.zip (w.take n)
    let s0 := if !room ∧ !w.isEmpty then s.on (PRT_SEG_STATUS.REPLAY_FULL q) else s
    let s1 := ((s0.sendRow q x.nextRow (unseq ++ seq)).consumeDue q (unseq.map Prod.snd)).takeWaiting q n
    s1.upS q (fun y => { y with
      unacked := y.unacked ++ [⟨x.nextRow, seq, s.elapsed⟩]
      nextRow := (x.nextRow + 1) % 4096
      sent := y.sent + n
      rows := y.rows + 1 })

end Sys2Proof.Machine
end

