-- ==== Sys2Proof/Machine/Segment.lean ====
section
/-! DEFINITION. The commands of Segment Sides (05). -/

namespace Sys2Proof.Machine

/-- The transmitter switches to lane seeds (R149): from its next frame it repeats row 0, of IDLE frames, which is kept for
replay as any row is. -/
def State.switchTx (s : State) (q : Nat) : State :=
  (s.upS q (fun y => { y with switched := true, unacked := [⟨0, [], s.elapsed⟩], nextRow := 1 })).each (s.segHalves q)
    (fun t h => t.setTx h .frames)

/-- ROW_LAUNCH (R475, R122 to R131, R135, R136, R140, R141, R145, R149): in training and in SBACKOFF every half-lane sends
a LANEID frame under the training seed; once READY has been sent and decoded the transmitter switches to lane seeds
(R149) and sends row 0 until SACTIVE needs rows (DEDUCED, log entry 96); in SACTIVE rows are launched. What has arrived of the
data stream since the last row comes with the command. -/
def execRowLaunch (q : SideId) (arrived : List StreamItem) (s : State) : Host.Outcome State Fault Refusal :=
  let st := s.segState q
  let x := s.seg q
  .next (if !s.isSeg q ∨ st = sDOWN then s
    else if st = sACTIVE then ((s.enterFlits q arrived).launchRow q).noted s (q / 2)
    else if st = sCONFIRM ∧ (x.switched ∨ (x.readySent ∧ x.gotReady)) then
      (((if x.switched then s else s.switchTx q).sendRow q 0 []).sactiveEntry q).noted s (q / 2)
    else (s.upS q (fun y => { y with readySent := y.readySent || y.ready })).each (s.segHalves q) (fun t h =>
      t.sendFrame h trainingSeed ⟨0, 7, 31, 0, 0, false, false, 0⟩ (t.laneid q h) 0))

/-- FRAME_RECEIVED (R126 to R129, R132 to R137, R139, R141, R149, R165, R167, R174, R175, R182, R183): the line symbols
of one frame on a receiver that holds frame lock. What the frame's type asks beyond its row is the command of that type. -/
def execFrameReceived (h : HalfId) (line : List Int) (s : State) : Host.Outcome State Fault Refusal :=
  match s.claim h with
  | none => .next s
  | some q =>
    .next (if !s.isSeg q ∨ !s.bit (LCH_SEG_FEC.FRAME_LOCK h) ∨ s.segState q < sACQUIRE ∨ sACTIVE < s.segState q then s
      else
        let lv := if s.bit (LCH_SEG_FEC.SEG_POL_INV h) then line.map (fun l => -l) else line
        let (levels, run, bad) := destuff (s.half h).rxRun lv
        let s1 := s.upH h (fun x => { x with rxRun := run })
        match firstDecode levels (s1.tries q h) with
        | some (t, hd, pl, n) =>
          if hd.type ≤ 7 ∧ hd.lane = t.lane ∧ hd.epoch = t.epoch ∧ bad = 0 ∧ (s1.half h).admits t hd then
            (s1.goodFrame q h t hd pl n).noted s (q / 2)
          else (s1.badFrame q h n).noted s (q / 2)
        | none => if (s1.tries q h).isEmpty then s1 else (s1.badFrame q h 0).noted s (q / 2))

/-- ACK_TIMEOUT (R137): the transmitter acts as on a NAK of the latest ACK, and the time begins again. -/
def execAckTimeout (q : SideId) (s : State) : Host.Outcome State Fault Refusal :=
  .next (if s.isSeg q ∧ s.segState q = sACTIVE ∧ !(s.seg q).unacked.isEmpty then
      let t := s.advanceTo ((s.seg q).ackAt + 4 * s.rttMaxNs q * nsUnit)
      ((t.upS q (fun x => { x with ackAt := t.elapsed })).takeNak q (s.seg q).acked).noted s (q / 2)
    else s)

/-- FRAME_LOCK_GAINED (R132, R73, R143): the polarity found is kept; enough receivers end SACQUIRE. The count of equal symbols
received goes on from before the lock (R129; DEDUCED, log entry 93). -/
def execFrameLockGained (h : HalfId) (negated : Bool) (s : State) : Host.Outcome State Fault Refusal :=
  match s.claim h with
  | none => .next s
  | some q =>
    .next (if s.isSeg q ∧ s.bit (LCH_FOM.LOCK h) ∧ !s.bit (LCH_SEG_FEC.FRAME_LOCK h) ∧ sACQUIRE ≤ s.segState q ∧
        s.segState q ≤ sACTIVE then
        let s1 := (((s.on (LCH_SEG_FEC.FRAME_LOCK h)).put (LCH_SEG_FEC.SEG_POL_INV h) negated).setAlign h 2).upH h (fun x => { x with
          prevRow := none, badRun := 0, goodRun := 0, stale := false, returned := false })
        let s2 := (s1.upS q (fun x => { x with hadLock := true })).segLocks q
        (if s.segState q = sACTIVE then s2.showSide q else s2).noted s (q / 2)
      else s)

/-- FRAME_LOCK_LOST (R132, R73): after four consecutive uncorrectable frames. -/
def execFrameLockLost (h : HalfId) (s : State) : Host.Outcome State Fault Refusal :=
  .next (if s.bit (LCH_SEG_FEC.FRAME_LOCK h) ∧ 4 ≤ (s.half h).badRun then
      (((s.off (LCH_SEG_FEC.FRAME_LOCK h)).setAlign h 1).upH h (fun x => { x with
        prevRow := none, badRun := 0, goodRun := 0 })).showOf h
    else s)

/-- STUFF_HIGH (R130): the stuff symbols sent exceed the reserve. -/
def execStuffHigh (h : HalfId) (s : State) : Host.Outcome State Fault Refusal :=
  match s.claim h with
  | none => .next s
  | some q => .next (if s.isSeg q ∧ s.tileOn (q / 2) ∧ (s.half h).stuffOver then (s.on (PRT_SEG_STATUS.STUFF_HIGH q)).raise 0x09 (q / 2) (h / 2) (h % 2) 0 else s)

/-- FLIT_DROP (R142): the entry buffer that feeds a Segment Side overflows. -/
def execFlitDrop (q : SideId) (s : State) : Host.Outcome State Fault Refusal :=
  .next (if s.isSeg q ∧ s.isGeared (q / 2) ∧ s.tileOn (q / 2) then s.flitDrop q else s)

/-- Whether a direction may run with lanes unheard (R148, R172): with Trellis at both ends or under DEGRADE, where a placement exists. -/
def State.placeable (s : State) (q d : Nat) (heard : List Nat) : Bool :=
  (s.trellis q || s.inForce d (PRT_TRL_CTRL.POLICY q) == 1) && (s.placeFrom q d heard).isSome

/-- What the end of a training state's 2 ms brings (R143, R148, R172): SBACKOFF; in SDISCOVER the side moves on where a placement
exists in both directions, under the conditions of R148 or of DEGRADE. -/
def State.trainingOver (s : State) (q : Nat) : State :=
  let st := s.segState q
  if !s.isSeg q then s
  else if st = sDETECT then s.toSBackoff q 1
  else if st = sACQUIRE then s.toSBackoff q 2
  else if st = sDISCOVER then
    if s.placeable q q (s.heardLanes q) ∧ s.placeable q (otherSide q) (mapLanes (s.seg q).peerHeard) then s.toSConfirm q
    else s.toSBackoff q 3
  else if st = sCONFIRM then s.toSBackoff q 8
  else s

/-- SEG_TRAINING_TIMEOUT (R143): a training state has lasted 2 ms without exit. -/
def execSegTrainingTimeout (q : SideId) (s : State) : Host.Outcome State Fault Refusal :=
  let st := s.segState q
  let late := if s.isSeg q ∧ sDETECT ≤ st ∧ st ≤ sCONFIRM then s.advanceTo ((s.seg q).enteredAt + 2000 * usUnit) else s
  .next ((late.trainingOver q).noted s (q / 2))

/-- BACKOFF_END (R143, R144): the backoff is over. A side whose partner lacks what its Port needs tries again and fails again with
the same reason, which is how it stays in SBACKOFF (R147; DEDUCED, log entry 95). -/
def execBackoffEnd (q : SideId) (s : State) : Host.Outcome State Fault Refusal :=
  .next (if s.isSeg q ∧ s.segState q = sBACKOFF then
      ((s.advanceTo ((s.seg q).enteredAt + backoffMs (s.rd (PRT_SEG_STATUS.ATTEMPTS q)) * (1000 * usUnit))).toSDetect q).noted s (q / 2)
    else s)

/-- LANEID_RECEIVED (R145 to R147, R149, R161, R172): read in SDISCOVER and SCONFIRM on a receiver with frame lock. -/
def execLaneidReceived (h : HalfId) (payload : List Byte) (s : State) : Host.Outcome State Fault Refusal :=
  match s.claim h with
  | none => .next s
  | some q =>
    let st := s.segState q
    .next (if !s.isSeg q ∨ !s.bit (LCH_SEG_FEC.FRAME_LOCK h) ∨ (st ≠ sDISCOVER ∧ st ≠ sCONFIRM) ∨
        payload.take 5 ≠ [0x4C, 0x41, 0x4E, 0x45, 0x01] then s
      else
        let pt := partnerOf payload
        let s1 := (s.upS q (fun x => { x with
          partner := some pt, peerHeard := (List.range 20).map (fun l => byteAt payload (24 + l)) })).wr
          (PRT_SEG_STATUS.PARTNER q) pt.kind
        if st = sDISCOVER then
          let s2 := s1.wr (LCH_SEG_FEC.HEARD h) (byteAt payload 16)
          let fail := s2.laneidFail q h payload
          if fail ≠ 0 then (s2.toSBackoff q fail).noted s (q / 2)
          else ((s2.noteReady q payload).discoverDone q).noted s (q / 2)
        else ((s1.noteReady q payload).sactiveEntry q).noted s (q / 2))

/-- SEG_PARTNER_LOST (R150): no half-lane has signal detect, or none holds frame lock (in SACQUIRE only once one has). -/
def execSegPartnerLost (q : SideId) (s : State) : Host.Outcome State Fault Refusal :=
  let st := s.segState q
  .next (if s.isSeg q ∧ sACQUIRE ≤ st ∧ st ≤ sACTIVE ∧
      (s.countRx q LCH_FOM.SIGDET = 0 ∨ (s.countRx q LCH_SEG_FEC.FRAME_LOCK = 0 ∧ (st ≠ sACQUIRE ∨ (s.seg q).hadLock))) then
      (s.segPartnerGone q).noted s (q / 2)
    else s)

/-- SEG_RETRAIN (R143, R144, R162): from any state but SDOWN; leaving SACTIVE, the path beyond learns of it (R143). -/
def execSegRetrain (q : SideId) (s : State) : Host.Outcome State Fault Refusal :=
  .next (s.hostCmd (fun s => s.askRetrain (q / 2) (PRT_SEG_CTRL.off q) (2 ^ (PRT_SEG_CTRL.RETRAIN q).lo)))

/-! ## The relay of a standard link (R151 to R155, R159) -/

/-- The training content of a Standard Side by link lane (R151). -/
def State.osrelContent (s : State) (d : Nat) : List Byte :=
  (List.range 16).flatMap (fun k =>
    match s.laneHalf d k with
    | some h => (List.range 16).map (fun i => (s.half h).tsSyms.getD i 0)
    | none => zeros 16)

/-- The states of a Standard Side in which its training sets cross the segment (R151). -/
def relays (st : Nat) : Bool := [tFORWARD, tEQ, tHOTRESET, tDISABLED, tLOOPBACK].contains st

/-- OSREL_SEND (R151): an OSREL frame becomes due on the Segment Side of a geared Port. -/
def execOsrelSend (q : SideId) (s : State) : Host.Outcome State Fault Refusal :=
  .next (if s.isSeg q ∧ s.isGeared (q / 2) ∧ s.segState q = sACTIVE ∧ relays (s.trn (q / 2)) ∧
        !s.txn.stopped.contains (otherSide q) then
      s.upS q (fun x => { x with osrelDue := some (s.osrelContent (otherSide q)) })
    else s)

/-- The symbols of a link lane in an OSREL payload, and the lanes that carry a set (R151). -/
def osrelLane (m : List Byte) (k : Nat) : List Byte := (m.drop (16 * k)).take 16
def osrelLanes (m : List Byte) : List Nat := (List.range 16).filter (fun k => (osrelLane m k).any (fun b => b != 0))

/-- What a set of the far partner says to the Port (R97, R100, R106, R107): its substate, the position and the de-emphasis where
it comes from upstream, the protocol, and the training state. -/
def State.farSet (s : State) (q : Nat) (ts : TrainingSet) : State :=
  let p := q / 2
  let s1 := s.noteSub q ts.substate
  let s2 := if s1.isUpp q then
      (if ts.ts2 then s1.wr (PRT_TRN_STATUS.RETIMER_POS p) (if ts.twoRetimers then 2 else 1) else s1).upP p
        (fun x => { x with deEmph := ts.deEmph })
    else s1
  (if ts.cxl then s2.on (PRT_TRN_STATUS.CXL p) else s2).stateSet p ts

/-- The preset that a far set forwards for the transmitter of a link lane of the DPP (R107). -/
def State.farPreset (s : State) (q k : Nat) (ts : TrainingSet) : State :=
  match s.laneHalf (otherSide q) k, ts.preset with
  | some g, some n => if s.trn (q / 2) ≠ tEQ ∧ s.isUpp q then s.upH g (fun x => { x with fwdPreset := some n }) else s
  | _, _ => s

/-- The sets of an OSREL payload as the far Port's state takes them: the first lane's moves it, and each lane's preset is kept. -/
def State.takeSets (s : State) (q : Nat) (m : List Byte) : State :=
  let s1 := match (osrelLanes m).head?.bind (fun k => Config.tsContent (osrelLane m k)) with
    | some ts => s.farSet q ts
    | none => if s.trn (q / 2) = tACTIVE ∧ !(osrelLanes m).isEmpty then s.enterForward (q / 2) none else s
  (osrelLanes m).foldl (fun t k => match Config.tsContent (osrelLane m k) with
    | some ts => t.farPreset q k ts
    | none => t) s1

/-- The symbols sent on a link lane of the exit in place of those that crossed, with the pseudo-port's own fields (R98, R99). The
other changes of Table 2 of 04 are the entry's, so that a terminating port's sets are taken to carry them (DEDUCED, log entry
123). -/
def State.exitLane (s : State) (d : Nat) (m : List Byte) (k : Nat) : List Byte :=
  match s.laneHalf d k, Config.tsContent (osrelLane m k) with
  | some g, some ts => if s.sentSet d g ts = ts then osrelLane m k else (s.sentSet d g ts).symbols
  | _, _ => osrelLane m k

/-- The link lanes on which a payload's sets leave the exit: those whose transmitter is to send (R102, R118). -/
def State.exitLanes (s : State) (d : Nat) (m : List Byte) : List Nat :=
  (osrelLanes m).filter (fun k => match s.laneHalf d k with
    | some h => (s.half h).tx != .idle
    | none => false)

/-- The content regenerated at the exit, by link lane; a lane without a set carries none. -/
def State.exitSets (s : State) (d : Nat) (m : List Byte) : List Byte :=
  (List.range 16).flatMap (fun k => if (s.exitLanes d m).contains k then s.exitLane d m k else zeros 16)

/-- OSREL_RECEIVED (R97 to R100, R107, R151, R159): the later row wins; the content is regenerated on the Standard Side, whose
Port follows the far partner's training, or forwarded unchanged by an SS Port to a partner that relays. -/
def execOsrelReceived (q : SideId) (row : Nat) (payload : List Byte) (s : State) : Host.Outcome State Fault Refusal :=
  let p := q.val / 2
  .next (if !s.isSeg q ∨ s.segState q ≠ sACTIVE then s
    else
      let fresh := match (s.seg q).osrelRow with
        | some r => rowGe row r
        | none => true
      if !fresh then s
      else
        let s0 := s.upS q (fun x => { x with osrelRow := some (row % 4096), osrelIn := payload })
        let s1 := if (osrelLanes payload).isEmpty ∨ s.isSS p then s0 else s0.farStreamEnds p
        let o := otherSide q
        if s.isSS p then
          if s.segState o = sACTIVE ∧ s.relayOk o ∧ !s.txn.stopped.contains q.val then
            s1.upS o (fun x => { x with osrelDue := some payload })
          else s1
        else if s.trn p < tFORWARD ∨ s.trn p = tLOWPOWER ∨ s.trn p = tHOLD then s1
        else
          let s2 := s1.takeSets q payload
          if relays (s2.trn p) ∧ !(s2.exitLanes o payload).isEmpty then
            (s2.each ((osrelLanes payload).filterMap (s2.laneHalf o)) (fun t h =>
              if (t.half h).tx = .start then t.setTx h .forward else t)).emit (.osrel o (s2.exitSets o payload)) |>.noted s p
          else s2.noted s p)

/-- PATH_SEND (R152): a PATH frame becomes due; an SS Port repeats what it forwarded last. -/
def execPathSend (q : SideId) (s : State) : Host.Outcome State Fault Refusal :=
  .next (if !s.isSeg q ∨ s.segState q ≠ sACTIVE then s
    else if s.isGeared (q / 2) then s.pathSoon (q / 2)
    else if (s.seg q).pathOut.isEmpty then s
    else s.upS q (fun x => { x with pathDue := some x.pathOut }))

/-- The training states in which a change at the far side reaches a Standard Side (R476). -/
def followsFar (st : Nat) : Bool := [tFORWARD, tEQ, tACTIVE, tLOWPOWER, tHOTRESET, tDISABLED, tLOOPBACK].contains st

/-- The margining bytes of a PATH frame (R119, R152): a command for this pseudo-port's receiver is served, and a response waits
for the next SKP ordered set; both act when they change. A response takes the command back out of the PATH frames, and that takes
the response back, so that the next of either is served though its bytes be the same (DESIGN CHOICE, log entry 146). -/
def State.pathMargin (s : State) (q : Nat) (m : List Byte) : State :=
  let p := q / 2
  let d := otherSide q
  let part (bs : List Byte) (i : Nat) : List Byte := (bs.drop i).take 8
  let old := (s.seg q).pathIn
  let given (bs : List Byte) (i : Nat) : Bool := (part bs i).any (fun b => b != 0)
  let news (i : Nat) : Bool := part m i != part old i && given m i
  if s.trn p ≠ tACTIVE then s
  else
    let s0 := if given m 16 ∨ (s.portx p).marginAns.isNone then s else (s.upP p (fun x => { x with marginAns := none })).pathSoon p
    let s1 := if news 24 then (s0.upP p (fun x => { x with marginFar := some (part m 24), marginCmd := none })).pathSoon p else s0
    if news 16 then
      match Config.marginContent (part m 16) with
      | some (lane, name, cmd) => match s.laneHalf d lane with
        | some g => if s.rxName d = some name ∧ 3 ≤ s.rd (LCH_FOM.RATE_SLOT g) then s1.marginDo g (some (lane, name)) cmd else s1
        | none => s1
      | none => s1
    else s1

/-- What the far side's signal, `ei` its absence, does to a Standard Side whose Port follows it (R100, R102, R115, R476). `was` says
that the far side was idle before. -/
def State.farSignal (s : State) (p : Nat) (ei was : Bool) (mask : Nat) : State :=
  let sides := s.stdSides p
  if ei then (if followsFar (s.trn p) then s.stdIdle p else s)
  else if was ∧ s.trn p = tDISABLED then s.enterDetect p
  else
    let s1 := if was ∧ s.trn p = tLOWPOWER ∧ s.rd (PRT_TRN_STATUS.LP_KIND p) = 2 then s.enterForward p (some true) else s
    if s1.trn p = tFORWARD ∨ s1.trn p = tEQ ∨ s1.trn p = tHOTRESET then s1.farStart p .start
    else if s1.trn p = tACTIVE then
      ((s1.each ((sides.flatMap s1.dataHalves).filter (fun h => bitAt mask (s1.linkLane h))) (fun t h => t.setTx h .idle)).put
        (PRT_TRN_STATUS.L0P p) (mask != 0 || (s1.portx p).l0pMask != 0)).farStart p .forward
    else s1

/-- Whether a Port's partners are in the first Configuration since DETECT, in which the orientation is resolved (R96). -/
def State.configuring (s : State) (p : Nat) : Bool :=
  let x := s.portx p
  decide (tFORWARD ≤ s.trn p) && x.firstConfig && (x.subA.any subConfig || x.subB.any subConfig)

/-- A PATH frame at the Standard Side of a geared Port; the far end's orientation is taken in the first Configuration since DETECT,
so that one of before is not taken up again (DEDUCED, log entry 145) (R96, R101, R102, R115, R119, R152, R154, R155, R188,
R476). -/
def State.pathArrived (s : State) (q : Nat) (m : List Byte) : State :=
  let p := q / 2
  let d := otherSide q
  let flags := byteAt m 1
  let hops := byteAt m 2
  let present := bitAt flags 0
  let ei := !present || bitAt flags 1
  let old := (s.seg q).pathIn
  let was := (s.portx p).farEi
  let s1 := (s.pathMargin q m).upP p (fun x => { x with
    capacity := some (leNat ((m.drop 6).take 2)), farPresent := present && decide (hops ≤ 4), farEi := ei }) |>.upS q
    (fun x => { x with pathIn := m })
  let s2 := if 4 < hops then
      let t := s1.on (PRT_SEG_STATUS.CHAIN_TOO_LONG q)
      if old.isEmpty ∨ byteAt old 2 ≤ 4 then t.raise 0x07 p 0xFF (q % 2) hops else t
    else s1
  let s3 := if s.trn p = tDOWN ∨ s.trn p = tHOLD then s2
    else s2.each (s.dataHalves d) (fun t h => t.upH h (fun x => { x with term := present && decide (hops ≤ 4) }))
  if !present then (if followsFar (s.trn p) then s3.enterDetect p else s3)
  else
    let s4 := if bitAt flags 2 ∧ s.rd (PRT_TRN_STATUS.UP_SIDE p) = 0 ∧ s.rd (PRT_TRN_CTRL.UPSTREAM p) = 0 ∧ s.configuring p then
        s3.wr (PRT_TRN_STATUS.UP_SIDE p) (if bitAt flags 3 then 1 + q % 2 else 1 + d % 2)
      else s3
    let clash := bitAt flags 4 && s.rd (PRT_TRN_CTRL.UPSTREAM p) != 0 &&
      (bitAt flags 3 == (s.rd (PRT_TRN_CTRL.UPSTREAM p) == 1 + d % 2))
    let fits := capacityOk (leNat ((m.drop 6).take 2)) (s.negWidth d) (s.rd (PRT_DP_STATUS.SLOT_NOW d))
    if clash ∧ (s.trn p = tFORWARD ∨ s.trn p = tEQ) then (s4.on (PRT_TRN_EVENTS.TRN_TIMEOUT p)).enterDetect p
    else (if s.trn p = tACTIVE ∧ !fits then s4.breakStream d else s4).farSignal p ei was (leNat ((m.drop 4).take 2))

/-- PATH_FRAME_RECEIVED (R152, with R96, R101, R154, R155, R159, R476). HOPS shows no more than 7 (DESIGN CHOICE, log entry 117). -/
def execPathFrameReceived (q : SideId) (payload : List Byte) (s : State) : Host.Outcome State Fault Refusal :=
  .next (if !s.isSeg q ∨ s.segState q ≠ sACTIVE ∨ byteAt payload 0 ≠ 1 then s
    else
      let o := otherSide q
      let s1 := s.wr (PRT_SEG_STATUS.HOPS q) (max (s.rd (PRT_SEG_STATUS.HOPS q)) (min 7 (byteAt payload 2)))
      let s2 :=
        if s.isSS (q / 2) then
          if s.segState o = sACTIVE ∧ s.relayOk o then
            s1.upS o (fun x => { x with pathDue := some (s.pathOnward o payload), pathOut := s.pathOnward o payload })
          else s1
        else s1.pathArrived q payload
      (s2.upS q (fun x => { x with pathIn := payload })).noted s (q / 2))

/-- OSET_RECEIVED (R100, R153): the exit regenerates the ordered set at its place among the flits; EIOS and EIEOS end the far partner's
stream, and its EIEOS in ACTIVE is the entry to Recovery. A direction that a commit has stopped forwards none (R273). -/
def execOsetReceived (q : SideId) (payload : List Byte) (s : State) : Host.Outcome State Fault Refusal :=
  .next (if s.isSeg q ∧ s.isGeared (q / 2) ∧ s.segState q = sACTIVE then
      let p := q.val / 2
      let s1 := if s.txn.stopped.contains q.val then s
        else s.emit (.orderedSet (otherSide q) (byteAt payload 0) (leNat ((payload.drop 2).take 2))
          (if byteAt payload 0 = 3 then (payload.drop 16).take 16 else []))
      let s2 := if byteAt payload 0 ≤ 2 then s1.farStreamEnds p else s1
      (if byteAt payload 0 = 2 ∧ s.trn p = tACTIVE then s2.enterForward p none else s2).noted s p
    else s)

end Sys2Proof.Machine
end

