-- ==== Sys2Proof/Machine/Sideband.lean ====
section
/-! DEFINITION. The commands of the SMBus sideband (16). -/

namespace Sys2Proof.Machine

/-! ## Status codes and registers (R454 to R456) -/

def sbOK : Nat := 0
def sbBUSY : Nat := 1
def sbDENIED : Nat := 2
def sbBADOFFSET : Nat := 3
def sbNOTMIRRORED : Nat := 4
def sbPECERROR : Nat := 5

/-- Whether C3 serves (R454, Table 2): no watchdog has expired and the device is not booting. -/
def State.c3Serves (s : State) : Bool := !s.mgmt.coresDown && !s.power.inReset

/-- Whether an offset lies in a reserved range of BAR0, or beyond it (10, Table 3). -/
def reservedOffset (x : Nat) : Bool :=
  (decide (0x9000 ≤ x) && decide (x < 0x10000)) || (decide (0x140000 ≤ x) && decide (x < 0x200000)) ||
  (decide (0x211000 ≤ x) && decide (x < 0xF00000)) || (decide (0xF08000 ≤ x) && decide (x < 0xF10000)) ||
  decide (0xF10100 ≤ x)

/-- The index in a Port mirror of the register at an offset of a Port's block (R438). -/
def mirrorIndex (x : Nat) : Option Nat :=
  if 0x100000 ≤ x ∧ x < 0x140000 then
    let r := x % 0x1000
    if r = 0x24 then some 0 else if r = 0x48 then some 1 else if r = 0x4C then some 2 else if r = 0x08 then some 3 else none
  else none

/-- Whether a register is mirrored (R455). -/
def mirrored (x : Nat) : Bool :=
  (mirrorIndex x).isSome || decide (x < 0x1000) || (decide (0x3000 ≤ x) && decide (x < 0x6000)) ||
  (decide (0x7000 ≤ x) && decide (x < 0x9000)) || x == CAL_STATUS.off || x == CAL_GEN.off ||
  (decide (0x11000 ≤ x) && decide (x < 0x11800))

/-- The value that a READ returns (R455): of a Port mirror register the mirror, never a live value. -/
def State.sbValue (s : State) (x : Nat) : Nat :=
  match mirrorIndex x with
  | some i => (s.portx ((x - 0x100000) / 0x1000)).mirror.getD i 0
  | none => s.valueAt x

/-- Whether an offset is a bad one (16, Table 2). -/
def State.sbBad (s : State) (x : Nat) : Bool :=
  x % 4 != 0 || reservedOffset x || (s.bit IMG_STATUS.RECOVERY && decide (0x2000 ≤ x))

/-- The status of a READ of a list of registers. -/
def State.sbReadStatus (s : State) (xs : List Nat) : Nat :=
  if xs.any s.sbBad then sbBADOFFSET
  else if xs.any (fun x => (mirrorIndex x).isNone && (s.holder x).isSome) then sbNOTMIRRORED
  else if xs.any (fun x => !mirrored x) ∧ !s.c3Serves then sbBUSY
  else sbOK

/-! ## Messages (R453, R454, R459) -/

/-- The packet error code of SMBus over a message's bytes (PRESUMED, log entry 20): the CRC-8 of x⁸ + x² + x + 1. -/
def crc8 (bytes : List Nat) : Nat :=
  bytes.foldl (fun c b => (List.range 8).foldl (fun v _ => if 128 ≤ v then (2 * v % 256) ^^^ 7 else 2 * v) (c ^^^ (b % 256))) 0

/-- The device's address (R453). -/
def State.sbAddress (s : State) : Nat := 0x58 + s.power.straps
/-- Bytes answered: what was written after the address, and the block returned, closed by its packet error code. -/
def State.sbAnswer (s : State) (written block : List Nat) : State :=
  s.emit (.sideband (block ++ [crc8 (2 * s.sbAddress :: written ++ [2 * s.sbAddress + 1] ++ block)]))
/-- A block of a process call, with its byte count. -/
def sbBlock (bytes : List Nat) : List Nat := bytes.length :: bytes

/-- The end of a message with a status (R459): reported by STATUS, and counted where it is not OK. -/
def State.sbEnd (s : State) (status : Nat) : State :=
  let t := s.wr SB_STATUS.LAST_STATUS status
  if status = sbOK then t else t.satUp SB_CNT.ERRORS

/-- No sideband message is in progress any more (R457). -/
def State.sbOver (s : State) : State := s.upPw (fun x => { x with sbBusy := false })

/-- A message that arrives (R402, R454, R457, R459): one that the device does not answer changes nothing; the address match wakes
it from IDLE and begins it, unless SB_ADDRESS_MATCH has begun it; with its end none is in progress. -/
def State.sbMessage (s : State) (act : State → State) : State :=
  if s.sbUp then (act (if s.powerState = 1 then s.wakeDevice .sbMatch none else s).sbBegin).sbOver else s

/-- Whether a write part has a PEC error (R454). -/
def State.pecError (s : State) (pec : Pec) : Bool :=
  pec == .wrong || (pec == .absent && s.bit SB_CTRL.PEC_REQUIRED)

/-- SB_READ (R454, R455). -/
def execSbRead (offset count : Nat) (pec : Pec) (s : State) : Host.Outcome State Fault Refusal :=
  let n := clampNat 1 8 (count % 256)
  let written := [1, 5] ++ leNum 4 offset ++ [count % 256]
  let xs := (List.range n).map (fun i => offset % 2 ^ 32 + 4 * i)
  .next (s.sbMessage (fun s =>
    if s.pecError pec then ((s.on SB_STATUS.PEC_ERR).sbEnd sbPECERROR).sbAnswer written (sbBlock [sbPECERROR])
    else
      let status := s.sbReadStatus xs
      if status ≠ sbOK then (s.sbEnd status).sbAnswer written (sbBlock [status])
      else (s.sbEnd sbOK).sbAnswer written (sbBlock (sbOK :: xs.flatMap (fun x => leNum 4 (s.sbValue x))))))

/-- Whether a WRITE may be carried out on a register (R456). -/
def sbWritable (x : Nat) : Bool :=
  x == SB_CTRL.off || x == SB_STATUS.off || (decide (0x3040 ≤ x) && decide (x < 0x3080))

/-- SB_WRITE (R454, R456): STATUS reports the outcome. -/
def execSbWrite (offset value : Nat) (pec : Pec) (s : State) : Host.Outcome State Fault Refusal :=
  let x := offset % 2 ^ 32
  .next (s.sbMessage (fun s =>
    if s.pecError pec then (s.on SB_STATUS.PEC_ERR).sbEnd sbPECERROR
    else if s.sbBad x then s.sbEnd sbBADOFFSET
    else if !sbWritable x then s.sbEnd sbDENIED
    else if !s.c3Serves then s.sbEnd sbBUSY
    else (s.storeWord (fieldsAt x) (value % 2 ^ 32)).sbEnd sbOK))

/-- SB_STATUS_READ (R454): the status of the latest READ, WRITE or PORT_MIRROR. -/
def execSbStatusRead (s : State) : Host.Outcome State Fault Refusal :=
  .next (s.sbMessage (fun s => s.sbAnswer [3] [s.rd SB_STATUS.LAST_STATUS]))

/-- PORT_MIRROR (R438, R439, R454): a Port above 63 is clamped. -/
def execPortMirror (port : Nat) (pec : Pec) (s : State) : Host.Outcome State Fault Refusal :=
  let p := min 63 (port % 256)
  let written := [4, 1, port % 256]
  .next (s.sbMessage (fun s =>
    if s.pecError pec then ((s.on SB_STATUS.PEC_ERR).sbEnd sbPECERROR).sbAnswer written (sbBlock [sbPECERROR])
    else
      let x := s.portx p
      (s.sbEnd sbOK).sbAnswer written (sbBlock (sbOK :: leNum 4 x.mirrorSeq ++ x.mirror.flatMap (leNum 4)))))

/-- IDENTIFY (R453, R454): GLB_REVISION, the Device Serial Number, most significant byte first, and the address. -/
def execIdentify (s : State) : Host.Outcome State Fault Refusal :=
  .next (s.sbMessage (fun s => s.sbAnswer [5]
    (sbBlock (leNum 4 (s.word GLB_REVISION.fields) ++ (leNum 8 Config.serial).reverse ++ [s.sbAddress]))))

/-- Whether SB_ALERT_N is low (R409, R458): an alert is pending, and the central tile drives the pin. -/
def State.alertLow (s : State) : Bool :=
  s.bit SB_STATUS.ALERT_PENDING && decide (s.powerState ≤ 1) && !s.power.inReset

/-- ALERT_RESPONSE (R458): the device that wins arbitration returns its address and releases SB_ALERT_N. -/
def execAlertResponse (won : Bool) (s : State) : Host.Outcome State Fault Refusal :=
  .next (if s.sbUp ∧ won ∧ s.alertLow then
      (s.off SB_STATUS.ALERT_PENDING).emit (.sideband [2 * s.sbAddress, crc8 [0x19, 2 * s.sbAddress]])
    else s)

/-- SB_TIMEOUT (R457): the message is abandoned. -/
def execSbTimeout (s : State) : Host.Outcome State Fault Refusal :=
  .next (if s.sbUp then (s.on SB_STATUS.TIMEOUT).sbOver else s)

end Sys2Proof.Machine
end

