-- ==== Sys2Proof/Machine/Trellis.lean ====
section
/-! DEFINITION. The commands of lane faults and Trellis sparing (06). -/

namespace Sys2Proof.Machine

/-- Whether Trellis messages are exchanged on a side: it is in SACTIVE with Trellis at both ends (R147, R161). -/
def State.trellisRuns (s : State) (q : Nat) : Bool := s.isSeg q && s.segState q == sACTIVE && s.trellis q

/-- Whether a message names the proposal of the steering end. -/
def State.ours (s : State) (q : Nat) (m : List Byte) : Bool :=
  match (s.seg q).prop with
  | some pr => pr.epoch == byteAt m 1
  | none => false

/-- Whether the condition of a hard fault reason holds on a receiver (06, Table 1). -/
def State.hardCause (s : State) (h reason : Nat) : Bool :=
  (reason == 1 && !s.bit (LCH_FOM.SIGDET h)) || (reason == 2 && !s.bit (LCH_FOM.LOCK h)) ||
  (reason == 3 && !s.bit (LCH_SEG_FEC.FRAME_LOCK h))

/-- HARD_FAULT_DECLARE (R167 to R169, R187): the condition has held for 256 ns and another half-lane of the side holds
frame lock. -/
def execHardFaultDeclare (h : HalfId) (reason : Fin 16) (s : State) : Host.Outcome State Fault Refusal :=
  match s.claim h with
  | none => .next s
  | some q =>
    .next (if s.isSeg q ∧ s.segState q = sACTIVE ∧ (s.segHalves q).contains h.val ∧ s.hardCause h reason ∧
        (s.segHalves q).any (fun g => g != h && s.bit (LCH_SEG_FEC.FRAME_LOCK g)) then
        (s.declareFault q h reason).noted s (q / 2)
      else s)

/-- CORR_BLOCK_END (R167): more than 256 × CORR_LIMIT corrected symbols in the block declare reason 0x6. -/
def execCorrBlockEnd (h : HalfId) (s : State) : Host.Outcome State Fault Refusal :=
  match s.claim h with
  | none => .next s
  | some q =>
    .next (if s.isSeg q ∧ s.segState q = sACTIVE then
        let s1 := s.upH h (fun x => { x with corrBlock := 0 })
        if 256 * s.rd (PRT_TRL_CTRL.CORR_LIMIT q) < (s.half h).corrBlock then (s1.declareFault q h 6).noted s (q / 2) else s1
      else s)

/-- STANDARD_LANE_FAULT (R190, R191). -/
def execStandardLaneFault (h : HalfId) (reason : Fin 16) (s : State) : Host.Outcome State Fault Refusal :=
  match s.claim h with
  | none => .next s
  | some q =>
    .next (if s.stdFaultable q h ∧ ((reason = 1 ∧ !s.bit (LCH_FOM.SIGDET h) ∧ !(s.half h).eios) ∨
        (reason = 2 ∧ !s.bit (LCH_FOM.LOCK h))) then s.stdLaneFault q h reason
      else s)

/-- TRELLIS_PROPOSE (R173, R182, R187, R198): the steering end in WATCH serves the first queued fault or request. -/
def execTrellisPropose (q : SideId) (s : State) : Host.Outcome State Fault Refusal :=
  .next (if s.isSeg q ∧ s.segState q = sACTIVE ∧ s.steer q = stWATCH then
      match (s.seg q).queue with
      | it :: rest => (((s.upS q (fun x => { x with queue := rest })).serve q it)).noted s (q / 2)
      | [] => s
    else s)

/-- TRELLIS_PROPOSE_RECEIVED (R179 to R182): a copy of the prepared proposal is answered PREPARED again; a newer one voids
it and is checked, as is any PROPOSE in STEADY. -/
def execTrellisProposeReceived (q : SideId) (msg : List Byte) (s : State) : Host.Outcome State Fault Refusal :=
  .next (if !s.trellisRuns q then s
    else match (s.seg q).prepared with
      | some pr =>
        if s.xmit q = xmREADY ∧ byteAt msg 1 = pr.epoch then s.answer q 2 0 msg
        else if newer256 (byteAt msg 1) (s.seg q).seenEpoch ∧ !(s.seg q).switchDue then (s.voidPrepared q).checkPropose q msg
        else s.answer q 3 1 msg
      | none => s.checkPropose q msg)

/-- TRELLIS_PREPARED_RECEIVED (R182): HOLDING, or COMMITTING at once for a request. -/
def execTrellisPreparedReceived (q : SideId) (msg : List Byte) (s : State) : Host.Outcome State Fault Refusal :=
  .next (if s.trellisRuns q ∧ s.steer q = stPROPOSING ∧ s.ours q msg then
      let s1 := ((s.wr (PRT_TRL_STATUS.STEER_STATE q) stHOLDING).steerStop q).upS q (fun x => { x with steerAt := s.elapsed })
      match (s.seg q).prop with
      | some pr => if pr.item.isRequest then s1.toCommitting q else s1
      | none => s1
    else s)

/-- TRELLIS_REFUSED_RECEIVED (R182, R197): PROPOSING or COMMITTING ends in WATCH with the item re-queued. -/
def execTrellisRefusedReceived (q : SideId) (msg : List Byte) (s : State) : Host.Outcome State Fault Refusal :=
  .next (match (s.seg q).prop with
    | some pr =>
      if s.trellisRuns q ∧ s.ours q msg ∧ (s.steer q = stPROPOSING ∨ s.steer q = stCOMMITTING) then
        (((s.toWatch q).satUp (PRT_TRL_CNT.REFUSE_CNT q)).requeue q pr.item).noted s (q / 2)
      else s
    | none => s)

/-- COMMIT_HOLD_EXPIRY (R182): declaration + COMMIT_HOLD passes with the fault persisting. -/
def execCommitHoldExpiry (q : SideId) (s : State) : Host.Outcome State Fault Refusal :=
  .next (match (s.seg q).prop with
    | some pr =>
      if s.trellisRuns q ∧ s.steer q = stHOLDING then
        (s.advanceTo (pr.item.since + s.rd (PRT_TRL_CTRL.COMMIT_HOLD q) * usUnit)).toCommitting q
      else s
    | none => s)

/-- TRELLIS_COMMIT_RECEIVED (R180, R182): the switch for the prepared epoch falls due at the next row boundary; in any
other case a COMMIT for an epoch that is not the current one is refused as stale. -/
def execTrellisCommitReceived (q : SideId) (msg : List Byte) (s : State) : Host.Outcome State Fault Refusal :=
  let current := byteAt msg 1 = s.rd (PRT_TRL_STATUS.TX_EPOCH q)
  .next (if !s.trellisRuns q then s
    else match (s.seg q).prepared with
      | some pr =>
        if byteAt msg 1 = pr.epoch then s.upS q (fun x => { x with switchDue := true })
        else if current then s else s.answer q 3 1 msg
      | none => if current then s else s.answer q 3 1 msg)

/-- TRELLIS_SWITCH (R184). -/
def execTrellisSwitch (q : SideId) (s : State) : Host.Outcome State Fault Refusal :=
  .next (match (s.seg q).prepared with
    | some pr => if s.trellisRuns q ∧ (s.seg q).switchDue then s.doSwitch q pr else s
    | none => s)

/-- TRELLIS_CANCEL_RECEIVED (R182): the prepared epoch is voided; a CANCEL for the current epoch is refused as stale. -/
def execTrellisCancelReceived (q : SideId) (msg : List Byte) (s : State) : Host.Outcome State Fault Refusal :=
  let current := byteAt msg 1 = s.rd (PRT_TRL_STATUS.TX_EPOCH q)
  .next (if !s.trellisRuns q then s
    else match (s.seg q).prepared with
      | some pr =>
        if byteAt msg 1 = pr.epoch ∧ !(s.seg q).switchDue then (s.voidPrepared q).answer q 6 0 msg
        else if current ∨ byteAt msg 1 = pr.epoch then s.answer q 3 1 msg else s.answer q 6 0 msg
      | none => if current then s.answer q 3 1 msg else s.answer q 6 0 msg)

/-- TRELLIS_VOIDED_RECEIVED (R182): CANCELLING ends in WATCH, and CANCELLED is set. -/
def execTrellisVoidedReceived (q : SideId) (msg : List Byte) (s : State) : Host.Outcome State Fault Refusal :=
  .next (if s.trellisRuns q ∧ s.steer q = stCANCELLING ∧ s.ours q msg then (s.toWatch q).on (PRT_TRL_STATUS.CANCELLED q) else s)

/-- PROPOSE_REPLY_TIMEOUT (R182): CANCELLING, with the item re-queued as a new attempt. -/
def execProposeReplyTimeout (q : SideId) (s : State) : Host.Outcome State Fault Refusal :=
  .next (match (s.seg q).prop with
    | some pr =>
      if s.trellisRuns q ∧ s.steer q = stPROPOSING then
        (((s.advanceTo ((s.seg q).steerAt + (2 * s.rttMaxNs q + 2000) * nsUnit)).toCancelling q).requeue q pr.item).noted s (q / 2)
      else s
    | none => s)

/-- COMMITTING_TIMEOUT (R182, R187, R189): the side is faulted. -/
def execCommittingTimeout (q : SideId) (s : State) : Host.Outcome State Fault Refusal :=
  .next (if s.isSeg q ∧ s.segState q = sACTIVE ∧ s.steer q = stCOMMITTING then
      ((s.advanceTo ((s.seg q).steerAt + 50 * usUnit)).faultSide q 2).noted s (q / 2)
    else s)

/-- CANCELLING_TIMEOUT (R182): 50 µs without VOIDED. -/
def execCancellingTimeout (q : SideId) (s : State) : Host.Outcome State Fault Refusal :=
  .next (if s.isSeg q ∧ s.segState q = sACTIVE ∧ s.steer q = stCANCELLING then
      ((s.advanceTo ((s.seg q).steerAt + 50 * usUnit)).toWatch q).on (PRT_TRL_STATUS.CANCELLED q)
    else s)

/-- READY_TIMEOUT (R182): the prepared proposal is voided. -/
def execReadyTimeout (q : SideId) (s : State) : Host.Outcome State Fault Refusal :=
  .next (if s.isSeg q ∧ s.xmit q = xmREADY ∧ !(s.seg q).switchDue then
      (s.advanceTo ((s.seg q).readyAt + 100 * usUnit)).voidPrepared q
    else s)

/-- RETIRED_EXPIRY (R176): 1 s of the readiness conditions makes a retired receiver a ready spare again. -/
def execRetiredExpiry (h : HalfId) (s : State) : Host.Outcome State Fault Refusal :=
  .next (if (s.half h).retired ∧ s.spareFit h then
      ((s.advanceTo ((s.half h).fitAt.getD s.elapsed + 1000000 * usUnit)).upH h (fun x => { x with retired := false })).showOf h
    else s)

/-- TRL_MOVE (R198): reason 0x8, written to a tile that takes the write (R28 to R30). -/
def execTrlMove (q : SideId) (lane spare : Fin 32) (s : State) : Host.Outcome State Fault Refusal :=
  .next (s.hostWrite (fun s =>
    s.tileStore (PRT_TRL_CMD.off q) (2 ^ 31 + 1 * 2 ^ 29 + lane.val * 2 ^ 24 + spare.val * 2 ^ 16)))

/-- TRL_RETURN_HOME (R198): reason 0x9. -/
def execTrlReturnHome (q : SideId) (lane : Fin 32) (s : State) : Host.Outcome State Fault Refusal :=
  .next (s.hostWrite (fun s => s.tileStore (PRT_TRL_CMD.off q) (2 ^ 31 + 2 * 2 ^ 29 + lane.val * 2 ^ 24)))

end Sys2Proof.Machine
end

