-- ==== Sys2Proof/Machine/Dispatch.lean ====
section
/-! DEFINITION. One arm for each command of spec/opcode_table.json: the call of its meaning. -/

namespace Sys2Proof.Machine

/-- A command's effect on everything but the queue. -/
def exec (i : Instr) (s : State) : Host.Outcome State Fault Refusal :=
  match i with
  | .registerWrite bar addr be data => Sys2Proof.Machine.execRegisterWrite bar addr be data s
  | .unsupportedRequest kind addr span header => Sys2Proof.Machine.execUnsupportedRequest kind addr span header s
  | .fencedTileAccess isWrite offset value => Sys2Proof.Machine.execFencedTileAccess isWrite offset value s
  | .tileAccessComplete t => Sys2Proof.Machine.execTileAccessComplete t s
  | .coreWatchdogExpiry core => Sys2Proof.Machine.execCoreWatchdogExpiry core s
  | .tileWakeRequest t cause => Sys2Proof.Machine.execTileWakeRequest t cause s
  | .tileRampStart => Sys2Proof.Machine.execTileRampStart s
  | .tileRampDone t => Sys2Proof.Machine.execTileRampDone t s
  | .tileRestoreDone t => Sys2Proof.Machine.execTileRestoreDone t s
  | .tileIdleExpiry t => Sys2Proof.Machine.execTileIdleExpiry t s
  | .halfLanePowerUp h => Sys2Proof.Machine.execHalfLanePowerUp h s
  | .tileFence t cause => Sys2Proof.Machine.execTileFence t cause s
  | .autoTileReset t => Sys2Proof.Machine.execAutoTileReset t s
  | .signalDetectRise h => Sys2Proof.Machine.execSignalDetectRise h s
  | .signalDetectFall h => Sys2Proof.Machine.execSignalDetectFall h s
  | .lockRise h rx => Sys2Proof.Machine.execLockRise h rx s
  | .lockFall h => Sys2Proof.Machine.execLockFall h s
  | .acquireStart h => Sys2Proof.Machine.execAcquireStart h s
  | .acquireTimeout h => Sys2Proof.Machine.execAcquireTimeout h s
  | .convergeTimeout h => Sys2Proof.Machine.execConvergeTimeout h s
  | .fomWindowEnd h pwr noise rx => Sys2Proof.Machine.execFomWindowEnd h pwr noise rx s
  | .freezeWrite h v => Sys2Proof.Machine.execFreezeWrite h v s
  | .fomMinClr h => Sys2Proof.Machine.execFomMinClr h s
  | .alignmentGained h arrival => Sys2Proof.Machine.execAlignmentGained h arrival s
  | .alignmentLost h => Sys2Proof.Machine.execAlignmentLost h s
  | .dataStreamStart h flit => Sys2Proof.Machine.execDataStreamStart h flit s
  | .dataStreamEnd h stop => Sys2Proof.Machine.execDataStreamEnd h stop s
  | .nonflitHoldExpiry p => Sys2Proof.Machine.execNonflitHoldExpiry p s
  | .skpAdjust q fills => Sys2Proof.Machine.execSkpAdjust q fills s
  | .skpGenerate q fill => Sys2Proof.Machine.execSkpGenerate q fill s
  | .ebSlip h => Sys2Proof.Machine.execEbSlip h s
  | .deskewFail q lane => Sys2Proof.Machine.execDeskewFail q lane s
  | .applyPoint edge => Sys2Proof.Machine.execApplyPoint edge s
  | .applyPointTimeout p => Sys2Proof.Machine.execApplyPointTimeout p s
  | .trainingSetReceived h ts => Sys2Proof.Machine.execTrainingSetReceived h ts s
  | .eqPresetAck h => Sys2Proof.Machine.execEqPresetAck h s
  | .hotResetExit p => Sys2Proof.Machine.execHotResetExit p s
  | .disabledExit h => Sys2Proof.Machine.execDisabledExit h s
  | .receiverDetectScan q found => Sys2Proof.Machine.execReceiverDetectScan q found s
  | .electricalIdleExit h => Sys2Proof.Machine.execElectricalIdleExit h s
  | .partnerLost q => Sys2Proof.Machine.execPartnerLost q s
  | .trainingTimeout p => Sys2Proof.Machine.execTrainingTimeout p s
  | .rateChange p slot => Sys2Proof.Machine.execRateChange p slot s
  | .lowpowerEntry q kind => Sys2Proof.Machine.execLowpowerEntry q kind s
  | .lowpowerExit q kind => Sys2Proof.Machine.execLowpowerExit q kind s
  | .trnRetrain p => Sys2Proof.Machine.execTrnRetrain p s
  | .marginCommand h msg => Sys2Proof.Machine.execMarginCommand h msg s
  | .rowLaunch q arrived => Sys2Proof.Machine.execRowLaunch q arrived s
  | .frameReceived h line => Sys2Proof.Machine.execFrameReceived h line s
  | .ackTimeout q => Sys2Proof.Machine.execAckTimeout q s
  | .frameLockGained h negated => Sys2Proof.Machine.execFrameLockGained h negated s
  | .frameLockLost h => Sys2Proof.Machine.execFrameLockLost h s
  | .stuffHigh h => Sys2Proof.Machine.execStuffHigh h s
  | .flitDrop q => Sys2Proof.Machine.execFlitDrop q s
  | .segTrainingTimeout q => Sys2Proof.Machine.execSegTrainingTimeout q s
  | .backoffEnd q => Sys2Proof.Machine.execBackoffEnd q s
  | .laneidReceived h payload => Sys2Proof.Machine.execLaneidReceived h payload s
  | .segPartnerLost q => Sys2Proof.Machine.execSegPartnerLost q s
  | .segRetrain q => Sys2Proof.Machine.execSegRetrain q s
  | .osrelSend q => Sys2Proof.Machine.execOsrelSend q s
  | .osrelReceived q row payload => Sys2Proof.Machine.execOsrelReceived q row payload s
  | .pathSend q => Sys2Proof.Machine.execPathSend q s
  | .pathFrameReceived q payload => Sys2Proof.Machine.execPathFrameReceived q payload s
  | .osetReceived q payload => Sys2Proof.Machine.execOsetReceived q payload s
  | .hardFaultDeclare h reason => Sys2Proof.Machine.execHardFaultDeclare h reason s
  | .corrBlockEnd h => Sys2Proof.Machine.execCorrBlockEnd h s
  | .standardLaneFault h reason => Sys2Proof.Machine.execStandardLaneFault h reason s
  | .trellisPropose q => Sys2Proof.Machine.execTrellisPropose q s
  | .trellisProposeReceived q msg => Sys2Proof.Machine.execTrellisProposeReceived q msg s
  | .trellisPreparedReceived q msg => Sys2Proof.Machine.execTrellisPreparedReceived q msg s
  | .trellisRefusedReceived q msg => Sys2Proof.Machine.execTrellisRefusedReceived q msg s
  | .commitHoldExpiry q => Sys2Proof.Machine.execCommitHoldExpiry q s
  | .trellisCommitReceived q msg => Sys2Proof.Machine.execTrellisCommitReceived q msg s
  | .trellisSwitch q => Sys2Proof.Machine.execTrellisSwitch q s
  | .trellisCancelReceived q msg => Sys2Proof.Machine.execTrellisCancelReceived q msg s
  | .trellisVoidedReceived q msg => Sys2Proof.Machine.execTrellisVoidedReceived q msg s
  | .proposeReplyTimeout q => Sys2Proof.Machine.execProposeReplyTimeout q s
  | .committingTimeout q => Sys2Proof.Machine.execCommittingTimeout q s
  | .cancellingTimeout q => Sys2Proof.Machine.execCancellingTimeout q s
  | .readyTimeout q => Sys2Proof.Machine.execReadyTimeout q s
  | .retiredExpiry h => Sys2Proof.Machine.execRetiredExpiry h s
  | .trlMove q lane spare => Sys2Proof.Machine.execTrlMove q lane spare s
  | .trlReturnHome q lane => Sys2Proof.Machine.execTrlReturnHome q lane s
  | .calRun scope half index => Sys2Proof.Machine.execCalRun scope half index s
  | .calStore => Sys2Proof.Machine.execCalStore s
  | .calReload => Sys2Proof.Machine.execCalReload s
  | .calClear scope half index => Sys2Proof.Machine.execCalClear scope half index s
  | .calAutoRun h => Sys2Proof.Machine.execCalAutoRun h s
  | .calAutoStore => Sys2Proof.Machine.execCalAutoStore s
  | .calCaptureStart h => Sys2Proof.Machine.execCalCaptureStart h s
  | .calCaptureEnd h stats errors => Sys2Proof.Machine.execCalCaptureEnd h stats errors s
  | .calComputeDone h => Sys2Proof.Machine.execCalComputeDone h s
  | .calHoldWrite h => Sys2Proof.Machine.execCalHoldWrite h s
  | .interpolationStep t temp => Sys2Proof.Machine.execInterpolationStep t temp s
  | .calStoreFlashDone ok => Sys2Proof.Machine.execCalStoreFlashDone ok s
  | .calStoreTimeout => Sys2Proof.Machine.execCalStoreTimeout s
  | .engineStepEnd k => Sys2Proof.Machine.execEngineStepEnd k s
  | .epochStart => Sys2Proof.Machine.execEpochStart s
  | .jobDispatch k => Sys2Proof.Machine.execJobDispatch k s
  | .safePoint k r => Sys2Proof.Machine.execSafePoint k r s
  | .restoreDone k => Sys2Proof.Machine.execRestoreDone k s
  | .waitExpired k => Sys2Proof.Machine.execWaitExpired k s
  | .engineFault k => Sys2Proof.Machine.execEngineFault k s
  | .engineRestartDone k => Sys2Proof.Machine.execEngineRestartDone k s
  | .engPermitWrite k value => Sys2Proof.Machine.execEngPermitWrite k value s
  | .sliceJobsOffWrite v => Sys2Proof.Machine.execSliceJobsOffWrite v s
  | .boot flashAnswers => Sys2Proof.Machine.execBoot flashAnswers s
  | .writeSlot len => Sys2Proof.Machine.execWriteSlot len s
  | .imgFlashOpDone r => Sys2Proof.Machine.execImgFlashOpDone r s
  | .confirm => Sys2Proof.Machine.execConfirm s
  | .confirmAfterExpiry => Sys2Proof.Machine.execConfirmAfterExpiry s
  | .advanceArb => Sys2Proof.Machine.execAdvanceArb s
  | .swapFw => Sys2Proof.Machine.execSwapFw s
  | .programKey slot => Sys2Proof.Machine.execProgramKey slot s
  | .revokeKey slot => Sys2Proof.Machine.execRevokeKey slot s
  | .txnBegin => Sys2Proof.Machine.execTxnBegin s
  | .commit => Sys2Proof.Machine.execCommit s
  | .rollback => Sys2Proof.Machine.execRollback s
  | .rwtWrite offset value => Sys2Proof.Machine.execRwtWrite offset value s
  | .bctStage hi => Sys2Proof.Machine.execBctStage hi s
  | .txnValidationDone => Sys2Proof.Machine.execTxnValidationDone s
  | .txnCommitTime => Sys2Proof.Machine.execTxnCommitTime s
  | .txnApplyFail cause => Sys2Proof.Machine.execTxnApplyFail cause s
  | .txnRollbackDone => Sys2Proof.Machine.execTxnRollbackDone s
  | .abandoned => Sys2Proof.Machine.execAbandoned s
  | .completionReceived tag status header data => Sys2Proof.Machine.execCompletionReceived tag status header data s
  | .completionTimeout tag => Sys2Proof.Machine.execCompletionTimeout tag s
  | .tagRetireExpiry tag => Sys2Proof.Machine.execTagRetireExpiry tag s
  | .ctoDisableClear => Sys2Proof.Machine.execCtoDisableClear s
  | .holdStart cause => Sys2Proof.Machine.execHoldStart cause s
  | .holdEnd cause => Sys2Proof.Machine.execHoldEnd cause s
  | .flr => Sys2Proof.Machine.execFlr s
  | .mgmtHotReset => Sys2Proof.Machine.execMgmtHotReset s
  | .dataLinkDown => Sys2Proof.Machine.execDataLinkDown s
  | .perstAssert => Sys2Proof.Machine.execPerstAssert s
  | .perstDeassert => Sys2Proof.Machine.execPerstDeassert s
  | .d3hotEntry => Sys2Proof.Machine.execD3hotEntry s
  | .d0Return => Sys2Proof.Machine.execD0Return s
  | .pmeTurnOff => Sys2Proof.Machine.execPmeTurnOff s
  | .aspmL1Entry => Sys2Proof.Machine.execAspmL1Entry s
  | .aspmL1Exit => Sys2Proof.Machine.execAspmL1Exit s
  | .msixUnmask vector => Sys2Proof.Machine.execMsixUnmask vector s
  | .aliveBeat => Sys2Proof.Machine.execAliveBeat s
  | .create k => Sys2Proof.Machine.execCreate k s
  | .sliceReset k => Sys2Proof.Machine.execSliceReset k s
  | .selfReset k => Sys2Proof.Machine.execSelfReset k s
  | .destroy k => Sys2Proof.Machine.execDestroy k s
  | .resetDone k => Sys2Proof.Machine.execResetDone k s
  | .destroyDone k => Sys2Proof.Machine.execDestroyDone k s
  | .shareWrite k reg value => Sys2Proof.Machine.execShareWrite k reg value s
  | .visibilityRemove k hi value => Sys2Proof.Machine.execVisibilityRemove k hi value s
  | .pasidEnableChange v => Sys2Proof.Machine.execPasidEnableChange v s
  | .ringEnable k ring ctrl => Sys2Proof.Machine.execRingEnable k ring ctrl s
  | .ringDisable k ring ctrl => Sys2Proof.Machine.execRingDisable k ring ctrl s
  | .ringResume k ring => Sys2Proof.Machine.execRingResume k ring s
  | .cmdDoorbell k ring index => Sys2Proof.Machine.execCmdDoorbell k ring index s
  | .eventDoorbell k ring index => Sys2Proof.Machine.execEventDoorbell k ring index s
  | .eventPost => Sys2Proof.Machine.execEventPost s
  | .nop k ring => Sys2Proof.Machine.execNop k ring s
  | .jobSubmit k ring => Sys2Proof.Machine.execJobSubmit k ring s
  | .portStatus k ring => Sys2Proof.Machine.execPortStatus k ring s
  | .readReg k ring => Sys2Proof.Machine.execReadReg k ring s
  | .portRetrain k ring => Sys2Proof.Machine.execPortRetrain k ring s
  | .fence k ring => Sys2Proof.Machine.execFence k ring s
  | .mirrorPublish p => Sys2Proof.Machine.execMirrorPublish p s
  | .timeFrameSend q departure => Sys2Proof.Machine.execTimeFrameSend q departure s
  | .timeFrameReceived q payload arrival => Sys2Proof.Machine.execTimeFrameReceived q payload arrival s
  | .holdoverEntry => Sys2Proof.Machine.execHoldoverEntry s
  | .tpulseOut => Sys2Proof.Machine.execTpulseOut s
  | .tpulseEdge e => Sys2Proof.Machine.execTpulseEdge e s
  | .timSet hi => Sys2Proof.Machine.execTimSet hi s
  | .aonRatioMeasure ratio => Sys2Proof.Machine.execAonRatioMeasure ratio s
  | .winnowItem p dir item ide stamp raw => Sys2Proof.Machine.execWinnowItem p dir item ide stamp raw s
  | .traceDmaWrite t => Sys2Proof.Machine.execTraceDmaWrite t s
  | .windowOpen k ring => Sys2Proof.Machine.execWindowOpen k ring s
  | .windowClose k ring => Sys2Proof.Machine.execWindowClose k ring s
  | .windowCloseDone k w => Sys2Proof.Machine.execWindowCloseDone k w s
  | .windowResume k w => Sys2Proof.Machine.execWindowResume k w s
  | .winnowClaim k ring => Sys2Proof.Machine.execWinnowClaim k ring s
  | .winnowRelease k ring => Sys2Proof.Machine.execWinnowRelease k ring s
  | .winnowUnit k ring => Sys2Proof.Machine.execWinnowUnit k ring s
  | .trigger k ring => Sys2Proof.Machine.execTrigger k ring s
  | .fire => Sys2Proof.Machine.execFire s
  | .trigNEdge stamp => Sys2Proof.Machine.execTrigNEdge stamp s
  | .trigNRelease => Sys2Proof.Machine.execTrigNRelease s
  | .trcSchedGo flood => Sys2Proof.Machine.execTrcSchedGo flood s
  | .scheduleFire => Sys2Proof.Machine.execScheduleFire s
  | .latch => Sys2Proof.Machine.execLatch s
  | .rearm => Sys2Proof.Machine.execRearm s
  | .autoRearmExpiry => Sys2Proof.Machine.execAutoRearmExpiry s
  | .refclkLost => Sys2Proof.Machine.execRefclkLost s
  | .refclkReturn => Sys2Proof.Machine.execRefclkReturn s
  | .rootLock => Sys2Proof.Machine.execRootLock s
  | .vidWaitExpiry => Sys2Proof.Machine.execVidWaitExpiry s
  | .idleEntry => Sys2Proof.Machine.execIdleEntry s
  | .sleepEntry => Sys2Proof.Machine.execSleepEntry s
  | .deepEntry centralTemp => Sys2Proof.Machine.execDeepEntry centralTemp s
  | .offEntry => Sys2Proof.Machine.execOffEntry s
  | .sbAddressMatch => Sys2Proof.Machine.execSbAddressMatch s
  | .wakeIn => Sys2Proof.Machine.execWakeIn s
  | .mgmtLinkWake => Sys2Proof.Machine.execMgmtLinkWake s
  | .parkPoll => Sys2Proof.Machine.execParkPoll s
  | .sleepWakeDone aonCycles us => Sys2Proof.Machine.execSleepWakeDone aonCycles us s
  | .deepWakeReloadDone flashAnswers loftPass aonCycles us => Sys2Proof.Machine.execDeepWakeReloadDone flashAnswers loftPass aonCycles us s
  | .aonBrownout cause => Sys2Proof.Machine.execAonBrownout cause s
  | .coldReset => Sys2Proof.Machine.execColdReset s
  | .resetNAssert => Sys2Proof.Machine.execResetNAssert s
  | .resetNDeassert => Sys2Proof.Machine.execResetNDeassert s
  | .supplyMonitor rail => Sys2Proof.Machine.execSupplyMonitor rail s
  | .supplyRecovered => Sys2Proof.Machine.execSupplyRecovered s
  | .rstDevice key => Sys2Proof.Machine.execRstDevice key s
  | .rstPort index => Sys2Proof.Machine.execRstPort index s
  | .rstTile index => Sys2Proof.Machine.execRstTile index s
  | .portResetDone p => Sys2Proof.Machine.execPortResetDone p s
  | .tileResetDone t => Sys2Proof.Machine.execTileResetDone t s
  | .thermtrip => Sys2Proof.Machine.execThermtrip s
  | .sbRead offset count pec => Sys2Proof.Machine.execSbRead offset count pec s
  | .sbWrite offset value pec => Sys2Proof.Machine.execSbWrite offset value pec s
  | .sbStatusRead => Sys2Proof.Machine.execSbStatusRead s
  | .portMirror port pec => Sys2Proof.Machine.execPortMirror port pec s
  | .identify => Sys2Proof.Machine.execIdentify s
  | .alertResponse won => Sys2Proof.Machine.execAlertResponse won s
  | .sbTimeout => Sys2Proof.Machine.execSbTimeout s
  | .replayMemoryError q => Sys2Proof.Machine.execReplayMemoryError q s
  | .internalEccError corrected => Sys2Proof.Machine.execInternalEccError corrected s
  | .managementLinkError e => Sys2Proof.Machine.execManagementLinkError e s
  | .configurationWrite field value => Sys2Proof.Machine.execConfigurationWrite field value s
  | .alwaysOnTimerWake => Sys2Proof.Machine.execAlwaysOnTimerWake s
  | .alwaysOnResetRelease straps => Sys2Proof.Machine.execAlwaysOnResetRelease straps s

end Sys2Proof.Machine
end

