-- ==== Sys2Proof/Safety.lean ====
section
/-! DEFINITION. What the statements speak of: the canonical form of the state's tables, what no command may take back,
and what a command leaves unchanged. -/

namespace Sys2Proof.Machine

/-! ## The canonical form of tables -/

/-- The keys of a table rise strictly, so that a key has at most one entry and equal tables are equal data. -/
abbrev Tab.wf {α : Type} (t : Tab α) : Prop := (t.entries.map Prod.fst).Pairwise (· < ·)

/-- A cell agrees with the register map: the field that the map has at its key, if any, is of its width and Cold value. -/
def Cell.agrees (c : Cell) : Prop :=
  ∀ f ∈ fieldsAt (c.key / 32), f.cell.key = c.key → f.cell.width = c.width ∧ f.cell.cold = c.cold
/-- Register fields in canonical form: keys rise, each value is within the width of its field, and none is listed at its Cold
value. -/
def regsWf (r : Tab Nat) : Prop :=
  r.wf ∧ ∀ e ∈ r.entries, ∀ f ∈ fieldsAt (e.1 / 32), f.cell.key = e.1 → e.2 < 2 ^ f.cell.width ∧ e.2 ≠ f.cell.cold
/-- The tables of a transaction, of the management function, of Fabric Time and of the snapshot. -/
abbrev Txn.wf (x : Txn) : Prop :=
  x.shadow.wf ∧ x.table.wf ∧ x.oldTable.wf ∧ (∀ e ∈ x.shadow.entries, e.2.1.agrees) ∧ ∀ c ∈ x.changes, c.cell.agrees
abbrev Mgmt.wf (m : Mgmt) : Prop := m.msix.wf ∧ m.cfg.wf
abbrev Tim.wf (t : Tim) : Prop := t.sides.wf
abbrev Snapshot.wf (n : Snapshot) : Prop := regsWf n.regs ∧ n.bct.wf ∧ n.halves.wf
abbrev Fuses.wf (f : Fuses) : Prop := f.keys.wf
/-- The records of a calibration store under way. -/
def calStoreWf : Option CalStore → Prop
  | some c => c.buffer.wf
  | none => True

/-- Every table of the state, the registers and the flash are in canonical form. -/
structure State.wf (s : State) : Prop where
  regs : regsWf s.regs
  halves : s.halves.wf
  sides : s.sides.wf
  ports : s.ports.wf
  bct : s.bct.wf
  calTab : s.calTab.wf
  engines : s.engines.wf
  slices : s.slices.wf
  rings : s.rings.wf
  tags : s.tags.wf
  flash : s.flash.wf
  calStore : calStoreWf s.calStore
  fuses : s.fuses.wf
  txn : s.txn.wf
  mgmt : s.mgmt.wf
  winnows : s.winnows.wf
  windows : s.windows.wf
  tim : s.tim.wf
  snap : s.snap.wf
  tiles : s.tiles.wf
  replicas : s.replicas.wf

/-! ## The coefficients of transmitters -/

/-- The main coefficient is 63 less the magnitudes of the other four, and these add up to at most 21 (R42). -/
abbrev TxCoef.derived (c : TxCoef) : Prop :=
  c.c0 = 63 - (|c.cm2| + |c.cm1| + |c.cp1| + |c.cp2|) ∧ |c.cm2| + |c.cm1| + |c.cp1| + |c.cp2| ≤ 21
/-- Every transmitter uses such coefficients. -/
def State.derived (s : State) : Prop := ∀ h, (s.half h).txCoef.derived

/-! ## What no command takes back -/

/-- From `s` to `t`: the queue is as it was, time and the count of free values have not gone back, what has left the block
stays sent, blown anti-rollback steps stay blown and revoked key slots stay revoked (R256, R259). -/
structure Follows (s t : State) : Prop where
  pending : t.pending = s.pending
  elapsed : s.elapsed ≤ t.elapsed
  freeCtr : s.freeCtr ≤ t.freeCtr
  outbox : s.outbox <:+ t.outbox
  steps : s.fuses.steps ≤ t.fuses.steps
  revoked : s.fuses.revoked ⊆ t.fuses.revoked

/-! ## Commands of a Ring -/

/-- The next command of a Ring may be taken now, it is the only entry fetched, and no earlier command has yet to complete: its
index, its 64 bytes and its opcode (R324, R327, R328). -/
abbrev State.front (s : State) (k i idx : Nat) (e : List Byte) (op : Nat) : Prop :=
  s.takes k i = true ∧ (s.ringx k i).fetched = [(idx, e)] ∧ cmdOp e = op ∧ idx < 2 ^ 16 ∧ (s.ringx k i).order = []

/-- From `s` to `t` the entry `e` has been taken and has completed with a status: HEAD has passed it, and one event of type
COMPLETION with the entry's Tag is due at the event Ring that it names (R324, R331, R334). -/
abbrev State.completed (s t : State) (k i idx : Nat) (e : List Byte) (status : Nat) : Prop :=
  t.rd (RNG_POS.HEAD k i) = (idx + 1) % s.ringSize k i % 2 ^ 16 ∧ t.evq.length = s.evq.length + 1 ∧
    (t.evq.getLast?.map (fun v => (v.slice, v.type, v.code, v.tag, v.ring))) = some (k, 1, status, cmdTag e, some (cmdEvRing e))

/-! ## What a command leaves unchanged -/

/-- The parts of the state beside the registers. -/
inductive Part where
  | halves | sides | ports | era | bct | calTab | engines | slices | rings | tags | flash | calStore | storeWait
  | lastStore | fuses | chip | lastWritten | imgOp | txn | mgmt | winnows | windows | tim | snap | tiles
  | power | evq | staged | now | count | replicas | elapsed | outbox | freeCtr
  deriving DecidableEq, Repr

/-- A part is the same in two states. -/
def Part.same (s t : State) : Part → Prop
  | .halves => t.halves = s.halves
  | .sides => t.sides = s.sides
  | .ports => t.ports = s.ports
  | .era => t.era = s.era
  | .bct => t.bct = s.bct
  | .calTab => t.calTab = s.calTab
  | .engines => t.engines = s.engines
  | .slices => t.slices = s.slices
  | .rings => t.rings = s.rings
  | .tags => t.tags = s.tags
  | .flash => t.flash = s.flash
  | .calStore => t.calStore = s.calStore
  | .storeWait => t.storeWait = s.storeWait
  | .lastStore => t.lastStore = s.lastStore
  | .fuses => t.fuses = s.fuses
  | .chip => t.chip = s.chip
  | .lastWritten => t.lastWritten = s.lastWritten
  | .imgOp => t.imgOp = s.imgOp
  | .txn => t.txn = s.txn
  | .mgmt => t.mgmt = s.mgmt
  | .winnows => t.winnows = s.winnows
  | .windows => t.windows = s.windows
  | .tim => t.tim = s.tim
  | .snap => t.snap = s.snap
  | .tiles => t.tiles = s.tiles
  | .power => t.power = s.power
  | .evq => t.evq = s.evq
  | .staged => t.staged = s.staged
  | .now => t.now = s.now
  | .count => t.count = s.count
  | .replicas => t.replicas = s.replicas
  | .elapsed => t.elapsed = s.elapsed
  | .outbox => t.outbox = s.outbox
  | .freeCtr => t.freeCtr = s.freeCtr

/-- Ranges of offsets that hold the registers of one name for each index, with the distance from one to the next: the
Port blocks and their side pairs, the Lane Channel blocks with their halves A and B, the Slices, the Slice windows with
their Rings and Granary windows, and the arrays of single registers (10, Tables 3 and 4). -/
def arrays : List (Nat × Nat × Nat) :=
  [(0x100000, 0x140000, 0x1000), (0x10000C, 0x100014, 4), (0x100040, 0x100048, 4),
   (0x100048, 0x100050, 4), (0x100050, 0x100058, 4), (0x100060, 0x100068, 4), (0x100068, 0x100070, 4),
   (0x100070, 0x100078, 4), (0x100078, 0x100080, 4),
   (0x200000, 0x210000, 0x40), (0x210000, 0x210024, 4), (0x30000, 0x38000, 0x80), (0x30014, 0x3001C, 4),
   (0x1000000, 0x2000000, 0x10000), (0x1001000, 0x1009000, 0x20), (0x1001000, 0x1001008, 4),
   (0x1009000, 0x1009100, 0x10), (0x40000, 0x80000, 0x10), (0x1008, 0x1010, 4), (0x1018, 0x1020, 4),
   (0x200C, 0x2014, 4), (0x2014, 0x201C, 4), (0x300C, 0x3014, 4), (0x3040, 0x3080, 4), (0x6020, 0x6028, 4),
   (0x6100, 0x6200, 4), (0x7008, 0x7010, 4), (0x7014, 0x701C, 4), (0x10040, 0x10060, 4), (0x11000, 0x11800, 4),
   (0x20400, 0x20600, 4), (0x20600, 0x20800, 4), (0x20800, 0x20C00, 4), (0x80004, 0x8000C, 4), (0x80040, 0x80060, 4),
   (0x81000, 0x81100, 4), (0xFF008, 0xFF010, 4)]

/-- The registers that a reset of the Ports `P` and the half-lanes `H` spares (R34, R413): every PRT_MODE and LCH_ASSIGN, and what the
blocks of other Ports and of other half-lanes hold, their CAL_RX among it. -/
def spared (P H : Nat → Prop) (off : Nat) : Prop :=
  (0x100000 ≤ off ∧ off < 0x140000 ∧ ((off - 0x100000) % 0x1000 = 0 ∨ ¬P ((off - 0x100000) / 0x1000))) ∨
  (0x200000 ≤ off ∧ off < 0x210000 ∧
    (off % 0x100 < 0x10 ∨ ¬H (2 * ((off - 0x200000) / 0x100) + (off % 0x100 - 0x10) / 0x40))) ∨
  (0x11000 ≤ off ∧ off < 0x11800 ∧ ¬H ((off - 0x11000) / 4))

/-- From `s` to `t` every Port but `P`, every side but theirs and every half-lane but `H` is as it was, in its own state and in its
registers; no engine has taken a job, and the same accesses and Ring commands wait for Lane Tiles. -/
structure Apart (P H : Nat → Prop) (s t : State) : Prop where
  ports : ∀ p, ¬P p → t.portx p = s.portx p
  sides : ∀ q, ¬P (q / 2) → t.seg q = s.seg q
  halves : ∀ h, ¬H h → t.half h = s.half h
  fields : ∀ key, spared P H (key / 32) → ∀ d, t.regs.get d key = s.regs.get d key
  jobs : ∀ k j, (t.engine k).slot = some j → ∃ i, (s.engine k).slot = some i ∧ i.half = j.half
  accesses : ∀ i, (t.tile i).accesses = (s.tile i).accesses
  waits : ∀ k i, (t.ringx k i).waits = (s.ringx k i).waits

/-- An offset within a range brought to the same place in the range's first block, range by range. -/
def strip : List (Nat × Nat × Nat) → Nat → Nat
  | [], o => o
  | (lo, hi, size) :: rows, o => strip rows (if lo ≤ o ∧ o < hi then lo + (o - lo) % size else o)

/-- An offset with its index taken away: that of the register of the same name with index 0. -/
def nameOf (off : Nat) : Nat := strip arrays off

/-- The key of a cell with its index taken away: the field of the same name with index 0. -/
def fieldName (key : Nat) : Nat :=
  let o := nameOf (key / 32)
  let b := key % 32
  32 * o + (if o = GLB_TILE_STATUS.off then b % 4 else if o = CLK_DCLK_SEL.off ∨ (o = IMG_KEYS.off ∧ b < 8) then b % 2 else b)

/-- What a command may change: parts of the state, and register fields by name, whatever their index; none for any. -/
structure Foot where
  parts : List Part
  fields : Option (List Nat)
  deriving DecidableEq, Repr

/-- Every part and every register field outside a footprint is the same in two states. -/
structure Kept (F : Foot) (s t : State) : Prop where
  parts : ∀ p, p ∉ F.parts → p.same s t
  fields : ∀ fs, F.fields = some fs → ∀ key, fieldName key ∉ fs → ∀ d, t.regs.get d key = s.regs.get d key

end Sys2Proof.Machine
end

