-- ==== Sys2Proof/Frames.lean ====
section
/-! DEFINITION. The footprint of each command: the parts of the state and the register fields it may change. A field is
named by its cell with index 0 and stands for the fields of that name at every index. -/

set_option Elab.async false

namespace Sys2Proof.Machine

/-- A footprint of some parts and of the fields with the names of some cells. -/
def Foot.of (parts : List Part) (cells : List Cell) : Foot := ⟨parts, some (cells.map Cell.key)⟩
/-- A footprint of some parts and of any register field, for a command that restores or resets whole blocks, or that may let
held register writes of any kind take effect. -/
def Foot.any (parts : List Part) : Foot := ⟨parts, none⟩

namespace Foot

/-- The Device Plane error registers (15, R452). -/
def errorLog : List Cell := [ERR_DP_CNT.CORRECTABLE, ERR_DP_CNT.FATAL, ERR_DP_CNT.NONFATAL, ERR_DP_LOG0.CODE,
  ERR_DP_LOG0.DETAIL, ERR_DP_LOG0.OVERFLOW, ERR_DP_LOG0.PORT, ERR_DP_LOG0.VALID, ERR_DP_LOG_TIME.TIME 0,
  ERR_DP_PORTS.PORTS 0, ERR_DP_STATUS.CODES]
/-- What a lane engine shows of its job (08, R246). -/
def jobShown : List Cell := [ENG_STATUS.JOB_BUSY 0, ENG_STATUS.JOB_KIND 0, ENG_STATUS.JOB_RX 0,
  ENG_STATUS.JOB_SLICE 0, ENG_STATUS.JOB_STATE 0]
/-- The cause of the last wake (13, R412). -/
def wakeShown : List Cell := [PWR_WAKE_SOURCE.AON_TIMER, PWR_WAKE_SOURCE.FROM_STATE, PWR_WAKE_SOURCE.INTERNAL,
  PWR_WAKE_SOURCE.MGMT_LINK, PWR_WAKE_SOURCE.SB_MATCH, PWR_WAKE_SOURCE.SIGDET, PWR_WAKE_SOURCE.SIGDET_PORT,
  PWR_WAKE_SOURCE.WAKE_IN, PWR_WAKE_STATUS.ABANDONED]
/-- The coefficients of a transmitter in use (02, R66). -/
def txTaps : List Cell := [LCH_TX_COEF.C0 0, LCH_TX_COEF.CM1 0, LCH_TX_COEF.CM2 0, LCH_TX_COEF.CP1 0,
  LCH_TX_COEF.CP2 0, LCH_TX_COEF.SRC 0]
/-- The training state of a Port (04, R121). -/
def trainingShown : List Cell := [PRT_DP_STATUS.FLIT 0, PRT_TRN_EVENTS.DETECT_CNT 0, PRT_TRN_EVENTS.RECOVERY_CNT 0,
  PRT_TRN_STATUS.EQ_PHASE 0, PRT_TRN_STATUS.LP_KIND 0, PRT_TRN_STATUS.STATE 0]
/-- The logical positions of lanes and the spares of a Port side (06, R196, R199). -/
def sparesShown : List Cell := [LCH_LANE_FAULT.RX_LOGICAL 0, LCH_LANE_FAULT.TX_LOGICAL 0, PRT_TRL_STATUS.DEGRADED 0,
  PRT_TRL_STATUS.READY_SPARES 0, PRT_TRL_STATUS.SPARE_LOST 0]
/-- What was negotiated for a link (03, R94; 04, R121). -/
def linkShown : List Cell := [LCH_DP_STATUS.LINK_LANE 0, LCH_DP_STATUS.POL_INV 0, PRT_DP_STATUS.A_REVERSED 0,
  PRT_DP_STATUS.B_REVERSED 0, PRT_TRN_STATUS.NEG_WIDTH 0, PRT_TRN_STATUS.UP_SIDE 0]
/-- What a calibration run leaves (07, R223). -/
def calShown : List Cell := [CAL_RX.LAST_RESULT 0, CAL_RX.NQ_REASON 0, CAL_STATUS.RUNS_ACTIVE]
/-- The alignment of a lane and of its Port side (03, R94). -/
def alignShown : List Cell := [LCH_DP_STATUS.ALIGN_STATE 0, PRT_DP_STATUS.A_ALIGN 0, PRT_DP_STATUS.B_ALIGN 0]
/-- The sources of the clocks (13, R412). -/
def clocksShown : List Cell := [CLK_STATUS.CORE_SRC, CLK_STATUS.MCLK_SRC, CLK_STATUS.ROOT_LOCK]
/-- The claims of a Port's units (12, R386). -/
def winnowShown : List Cell := [TRC_WN_STATUS.AB_CLAIMED 0, TRC_WN_STATUS.AB_OWNER 0, TRC_WN_STATUS.AB_UNITS 0,
  TRC_WN_STATUS.BA_CLAIMED 0, TRC_WN_STATUS.BA_OWNER 0, TRC_WN_STATUS.BA_UNITS 0]
/-- The rate slot in use (03, R94). -/
def rateShown : List Cell := [LCH_FOM.RATE_SLOT 0, PRT_DP_STATUS.A_SLOT_NOW 0, PRT_DP_STATUS.B_SLOT_NOW 0]
/-- A Slice's state and what its reset clears (11, R345 to R351). -/
def sliceShown : List Cell := [RNG_BASE.ADDR 0 0 0, RNG_CTRL.RESUME 0 0, SLC_SELF_CTRL.CLASS_MASK 0,
  SLC_SELF_CTRL.NOTICE_RING 0, SLC_SELF_CTRL.RESET 0, SLC_STATUS.STATE 0]
/-- The control of a Ring (11, R351). -/
def ringControl : List Cell := [RNG_CTRL.ENABLE 0 0, RNG_CTRL.INT_EN 0 0, RNG_CTRL.KIND 0 0, RNG_CTRL.SIZE_LOG2 0 0,
  RNG_CTRL.VECTOR 0 0]
/-- A Granary window (12, R386). -/
def windowShown : List Cell := [TRC_WIN_READ.READ 0 0, TRC_WIN_STATUS.GRANULES 0 0, TRC_WIN_STATUS.KIND 0 0,
  TRC_WIN_STATUS.MODE 0 0, TRC_WIN_STATUS.RESUME 0 0]
/-- What a Segment side has heard of its partner (05, R163, R165). -/
def partnerShown : List Cell := [LCH_SEG_FEC.HEARD 0, PRT_SEG_STATUS.PARTNER 0, PRT_TRL_STATUS.RX_EPOCH 0]
/-- The result of a transaction and the power limit it names (09, R279). -/
def txnShown : List Cell := [PWR_STATUS.PL_TARGET, TXN_STATUS.FAIL_INDEX, TXN_STATUS.LAST_RESULT, TXN_STATUS.REASON]
/-- The permission of a Slice to use the engines (08, R247). -/
def permitShown : List Cell := [ENG_PERMIT.DATA_ON_DATA 0, ENG_PERMIT.EYE_SCAN 0, ENG_PERMIT.MARGIN_DATA 0,
  ENG_PERMIT.MARGIN_SAMPLER 0]
/-- The shares of a Slice (11, R347). -/
def shareShown : List Cell := [SLC_RINGS.COUNT 0, SLC_SHARE.GRANULES 0, SLC_SHARE.TOKENS 0, SLC_VECTORS.COUNT 0]
/-- The lane faults counted (06, R199). -/
def faultShown : List Cell := [LCH_LANE_FAULT.FAULT_CNT 0, LCH_LANE_FAULT.FAULT_NEW 0, LCH_LANE_FAULT.LAST_REASON 0]
/-- The management link (10, R311). -/
def mgmtShown : List Cell := [GLB_MGMT_STATUS.FLIT, GLB_MGMT_STATUS.LINK_RATE, GLB_MGMT_STATUS.LINK_UP,
  GLB_MGMT_STATUS.LINK_WIDTH]
/-- Fabric Time's source and offset (12, R386). -/
def timeShown : List Cell := [TIM_OFFSET.THETA, TIM_RATE.PPB, TIM_STATUS.MASTER_ID, TIM_STATUS.MASTER_VALID,
  TIM_STATUS.PARENT_PORT, TIM_STATUS.PARENT_PULSE, TIM_STATUS.PARENT_SIDE, TIM_STATUS.STEPPED, TIM_STATUS.STRATUM]
/-- The receiver coefficients shown (02, R66). -/
def rxShown : List Cell := [LCH_RX_EQ.DFE_H1 0, LCH_RX_EQ.FFE_MAIN 0, LCH_RX_EQ.VGA 0]
/-- What the frames of a Segment count (05, R163, R165). -/
def frameCounts : List Cell := [LCH_SEG_FEC.CORR_SYM 0, LCH_SEG_FEC.UNCORR 0, PRT_SEG_CNT.NAK_SENT 0,
  PRT_SEG_STATUS.RTT 0, PRT_SEG_STATUS.RTT_OVER 0, PRT_TRL_CNT.COMMIT_CNT 0]
/-- The least figure of merit and its warnings (02, R66). -/
def fomShown : List Cell := [CAL_RX.RUN_CNT 0, LCH_FOM.FAULT_SEEN 0, LCH_FOM.FOM_MIN 0, LCH_FOM.WARN 0]

end Foot

/-- What a command may change beside the queue. -/
def Foot.ofCommand : Instr → Foot
  | .registerWrite _ _ _ _ => .any [.halves, .sides, .ports, .era, .bct, .calTab, .engines, .slices, .rings, .tags,
    .flash, .calStore, .storeWait, .lastStore, .fuses, .chip, .lastWritten, .imgOp, .txn, .mgmt, .winnows, .windows,
    .tim, .snap, .tiles, .power, .evq, .staged, .now, .count, .replicas, .outbox, .freeCtr]
  | .unsupportedRequest _ _ _ _ => .any [.halves, .sides, .ports, .era, .bct, .calTab, .engines, .slices, .rings,
    .tags, .flash, .calStore, .storeWait, .lastStore, .fuses, .chip, .lastWritten, .imgOp, .txn, .mgmt, .winnows,
    .windows, .tim, .snap, .tiles, .power, .evq, .staged, .now, .count, .replicas, .outbox, .freeCtr]
  | .fencedTileAccess _ _ _ => .any [.halves, .sides, .ports, .engines, .mgmt, .tiles, .evq, .outbox]
  | .tileAccessComplete _ => .any [.halves, .sides, .ports, .engines, .rings, .tags, .mgmt, .tiles, .power, .evq,
    .outbox]
  | .coreWatchdogExpiry _ => .of [.ports, .txn, .mgmt, .tim, .tiles, .power, .evq, .now, .count, .replicas,
    .elapsed, .outbox] (txnShown ++ [PWR_STATUS.PL, PWR_STATUS.VID_BUSY, PWR_STATUS.VID_CODE, TIM_STATUS.HOLDOVER,
    TIM_STATUS.LOCKED, TIM_STATUS.QUALITY, TIM_STATUS.SLEWING, TIM_UNCERT.BOUND, TXN_STATUS.STATE])
  | .tileWakeRequest _ _ => .any [.halves, .sides, .ports, .engines, .mgmt, .tim, .tiles, .power, .evq, .now, .count,
    .replicas, .outbox, .freeCtr]
  | .tileRampStart => .of [.power] ([])
  | .tileRampDone _ => .of [.tiles, .power] ([])
  | .tileRestoreDone _ => .any [.halves, .sides, .ports, .engines, .rings, .txn, .winnows, .tiles, .power, .evq,
    .replicas]
  | .tileIdleExpiry _ => .of [.halves, .sides, .ports, .engines, .rings, .imgOp, .mgmt, .tim, .tiles, .power, .evq,
    .now, .count, .replicas, .elapsed, .outbox] (errorLog ++ jobShown ++ txTaps ++ trainingShown ++ sparesShown
    ++ calShown ++ alignShown ++ rateShown ++ partnerShown ++ [CAL_TEMP.VALID 0, CLK_DCLK_SEL.LT 0,
    ENG_CNT.DISPLACED 0, ENG_STATUS.STATE 0, GLB_MGMT_STATUS.STAGING_FULL, GLB_TILE_STATUS.LT 0,
    IMG_STATUS.CMD_BUSY, IMG_STATUS.CMD_RESULT, IMG_STATUS.ENG_FW_SLOT, LCH_FOM.ADAPT_STATE 0, LCH_FOM.FOM 0,
    LCH_FOM.FOM_VALID 0, LCH_FOM.LOCK 0, LCH_LANE_FAULT.STATUS 0, LCH_SEG_FEC.FRAME_LOCK 0,
    LCH_SEG_FEC.SEG_POL_INV 0, PRT_SEG_STATUS.STATE 0, PRT_TRL_STATUS.STEER_STATE 0, PRT_TRL_STATUS.TX_EPOCH 0,
    PRT_TRL_STATUS.XMIT_STATE 0, SB_STATUS.ALERT_PENDING, TIM_STATUS.SLEWING, TIM_UNCERT.BOUND])
  | .halfLanePowerUp _ => .of [.halves, .tim, .power, .now, .count, .replicas, .elapsed] ([TIM_STATUS.SLEWING,
    TIM_UNCERT.BOUND])
  | .tileFence _ _ => .any [.halves, .sides, .ports, .bct, .engines, .rings, .tags, .imgOp, .txn, .mgmt, .winnows,
    .tim, .tiles, .power, .evq, .replicas, .outbox]
  | .autoTileReset _ => .any [.halves, .sides, .ports, .bct, .engines, .rings, .tags, .imgOp, .txn, .mgmt, .winnows,
    .tim, .tiles, .power, .evq, .now, .count, .replicas, .elapsed, .outbox]
  | .signalDetectRise _ => .of [.halves, .sides, .ports, .tim, .tiles, .power, .evq, .now, .count, .replicas,
    .freeCtr] (wakeShown ++ alignShown ++ clocksShown ++ [GLB_TILE_STATUS.LT 0, LCH_FOM.ADAPT_STATE 0,
    LCH_FOM.FOM 0, LCH_FOM.FOM_VALID 0, LCH_FOM.LOCK 0, LCH_FOM.SIGDET 0, PRT_SEG_STATUS.STATE 0, PWR_STATUS.PL,
    PWR_STATUS.STATE, PWR_STATUS.VID_BUSY, PWR_STATUS.VID_CODE, PWR_WAKE_STATUS.WAKE_US])
  | .signalDetectFall _ => .of [.halves, .sides, .ports, .engines, .tiles, .evq] (errorLog ++ jobShown ++ txTaps
    ++ trainingShown ++ sparesShown ++ linkShown ++ calShown ++ alignShown ++ rateShown ++ [LCH_FOM.ADAPT_STATE 0,
    LCH_FOM.FOM 0, LCH_FOM.FOM_VALID 0, LCH_FOM.LOCK 0, LCH_FOM.SIGDET 0, LCH_LANE_FAULT.STATUS 0,
    LCH_SEG_FEC.FRAME_LOCK 0, PRT_TRN_STATUS.CXL 0, PRT_TRN_STATUS.EQ_SLOT 0, PRT_TRN_STATUS.L0P 0,
    PRT_TRN_STATUS.RETIMER_POS 0, SB_STATUS.ALERT_PENDING])
  | .lockRise _ _ => .of [.halves, .sides, .engines] (jobShown ++ txTaps ++ sparesShown ++ alignShown ++ rxShown
    ++ [LCH_FOM.ADAPT_STATE 0, LCH_FOM.LOCK 0, LCH_LANE_FAULT.STATUS 0])
  | .lockFall _ => .of [.halves, .sides, .engines, .tiles, .evq] (errorLog ++ jobShown ++ sparesShown ++ calShown
    ++ alignShown ++ [LCH_FOM.LOCK 0, LCH_LANE_FAULT.STATUS 0, LCH_SEG_FEC.FRAME_LOCK 0, SB_STATUS.ALERT_PENDING])
  | .acquireStart _ => .of [.halves, .sides, .ports, .engines, .tiles, .evq] (txTaps ++ alignShown ++ rxShown
    ++ [CAL_RX.APPLIED_TEMP 0, LCH_FOM.ADAPT_STATE 0, LCH_FOM.FOM 0, LCH_FOM.FOM_VALID 0, LCH_FOM.LOCK 0,
    LCH_RX_EQ.CTLE 0, LCH_RX_EQ.TABLE_DEFAULT 0, LCH_RX_EQ.WARM 0, PRT_SEG_STATUS.STATE 0])
  | .acquireTimeout _ => .of [.halves] (alignShown ++ [LCH_FOM.ADAPT_STATE 0, LCH_FOM.FOM 0, LCH_FOM.FOM_VALID 0,
    LCH_FOM.LOCK 0])
  | .convergeTimeout _ => .of [.halves] ([LCH_FOM.ADAPT_STATE 0, LCH_FOM.BELOW_TARGET 0])
  | .fomWindowEnd _ _ _ _ => .of [.halves, .sides, .ports, .calTab, .engines, .calStore, .tiles, .evq,
    .outbox] (errorLog ++ jobShown ++ txTaps ++ trainingShown ++ sparesShown ++ linkShown ++ calShown ++ alignShown
    ++ rateShown ++ partnerShown ++ faultShown ++ rxShown ++ fomShown ++ [CAL_RX.VALID_POINTS 0, CAL_STATUS.DIRTY,
    LCH_FOM.ADAPT_STATE 0, LCH_FOM.BELOW_TARGET 0, LCH_FOM.FOM 0, LCH_FOM.FOM_VALID 0, LCH_FOM.LOCK 0,
    LCH_LANE_FAULT.STATUS 0, LCH_RX_EQ.CTLE 0, LCH_SEG_FEC.FRAME_LOCK 0, LCH_SEG_FEC.SEG_POL_INV 0,
    PRT_SEG_STATUS.STATE 0, PRT_TRL_CNT.CANCEL_CNT 0, PRT_TRL_STATUS.PORT_FAULT 0, PRT_TRL_STATUS.STEER_STATE 0,
    PRT_TRL_STATUS.TX_EPOCH 0, PRT_TRL_STATUS.XMIT_STATE 0, PRT_TRN_EVENTS.EQ_BELOW_TARGET 0, PRT_TRN_STATUS.CXL 0,
    PRT_TRN_STATUS.EQ_SLOT 0, PRT_TRN_STATUS.L0P 0, PRT_TRN_STATUS.RETIMER_POS 0, SB_STATUS.ALERT_PENDING])
  | .freezeWrite _ _ => .any [.halves, .sides, .ports, .engines, .mgmt, .tim, .tiles, .power, .evq, .now, .count,
    .replicas, .outbox, .freeCtr]
  | .fomMinClr _ => .any [.halves, .sides, .ports, .engines, .mgmt, .tim, .tiles, .power, .evq, .now, .count,
    .replicas, .outbox, .freeCtr]
  | .alignmentGained _ _ => .of [.halves, .sides, .ports, .engines, .tiles, .evq] (errorLog ++ jobShown ++ txTaps
    ++ trainingShown ++ sparesShown ++ linkShown ++ calShown ++ alignShown ++ rateShown ++ partnerShown
    ++ faultShown ++ [LCH_DP_STATUS.SKEW 0, LCH_FOM.ADAPT_STATE 0, LCH_FOM.FOM 0, LCH_FOM.FOM_VALID 0,
    LCH_FOM.LOCK 0, LCH_LANE_FAULT.STATUS 0, LCH_SEG_FEC.FRAME_LOCK 0, LCH_SEG_FEC.SEG_POL_INV 0,
    PRT_DP_STATUS.DESKEW_FAIL 0, PRT_SEG_STATUS.STATE 0, PRT_TRL_CNT.CANCEL_CNT 0, PRT_TRL_STATUS.PORT_FAULT 0,
    PRT_TRL_STATUS.STEER_STATE 0, PRT_TRL_STATUS.TX_EPOCH 0, PRT_TRL_STATUS.XMIT_STATE 0, PRT_TRN_STATUS.CXL 0,
    PRT_TRN_STATUS.EQ_SLOT 0, PRT_TRN_STATUS.L0P 0, PRT_TRN_STATUS.RETIMER_POS 0, SB_STATUS.ALERT_PENDING])
  | .alignmentLost _ => .of [.halves] (alignShown)
  | .dataStreamStart _ _ => .of [.halves, .sides, .ports, .engines, .tiles, .evq, .outbox] (errorLog ++ jobShown
    ++ txTaps ++ trainingShown ++ linkShown ++ calShown ++ alignShown ++ rateShown ++ [LCH_FOM.ADAPT_STATE 0,
    LCH_FOM.FOM 0, LCH_FOM.FOM_VALID 0, LCH_FOM.LOCK 0, LCH_LANE_FAULT.STATUS 0, PRT_TRN_EVENTS.NONFLIT_REFUSED 0,
    PRT_TRN_STATUS.CXL 0, PRT_TRN_STATUS.EQ_SLOT 0, PRT_TRN_STATUS.L0P 0, PRT_TRN_STATUS.NONFLIT_COUNT 0,
    PRT_TRN_STATUS.RETIMER_POS 0, SB_STATUS.ALERT_PENDING])
  | .dataStreamEnd _ _ => .of [.halves, .sides, .ports, .engines, .tiles, .evq, .outbox] (errorLog ++ jobShown
    ++ txTaps ++ trainingShown ++ calShown ++ alignShown ++ [LCH_FOM.ADAPT_STATE 0, LCH_FOM.FOM 0,
    LCH_FOM.FOM_VALID 0, LCH_FOM.LOCK 0, LCH_LANE_FAULT.STATUS 0, PRT_SEG_STATUS.FLIT_DROP 0,
    SB_STATUS.ALERT_PENDING])
  | .nonflitHoldExpiry _ => .of [.sides, .ports, .tim, .power, .now, .count, .replicas,
    .elapsed] ([TIM_STATUS.SLEWING, TIM_UNCERT.BOUND])
  | .skpAdjust _ _ => .of [.outbox] ([LCH_DP_STATUS.EB_FILL 0, PRT_SKP_ADJ.ADD 0, PRT_SKP_ADJ.DEL 0])
  | .skpGenerate _ _ => .of [.ports, .tim, .power, .now, .count, .replicas, .elapsed,
    .outbox] ([LCH_DP_STATUS.EB_FILL 0, PRT_SKP_ADJ.ADD 0, PRT_SKP_ADJ.DEL 0, TIM_STATUS.SLEWING, TIM_UNCERT.BOUND])
  | .ebSlip _ => .of [.evq] (errorLog ++ [LCH_DP_STATUS.EB_FILL 0, PRT_DP_STATUS.EB_SLIP 0,
    PRT_DP_STATUS.EB_SLIP_CNT 0, SB_STATUS.ALERT_PENDING])
  | .deskewFail _ _ => .of [.halves, .sides, .ports, .engines, .tiles, .evq] (errorLog ++ jobShown ++ txTaps
    ++ trainingShown ++ sparesShown ++ linkShown ++ calShown ++ alignShown ++ rateShown ++ partnerShown
    ++ faultShown ++ [LCH_FOM.ADAPT_STATE 0, LCH_FOM.FOM 0, LCH_FOM.FOM_VALID 0, LCH_FOM.LOCK 0,
    LCH_LANE_FAULT.STATUS 0, LCH_SEG_FEC.FRAME_LOCK 0, LCH_SEG_FEC.SEG_POL_INV 0, PRT_DP_STATUS.DESKEW_FAIL 0,
    PRT_SEG_STATUS.STATE 0, PRT_TRL_CNT.CANCEL_CNT 0, PRT_TRL_STATUS.PORT_FAULT 0, PRT_TRL_STATUS.STEER_STATE 0,
    PRT_TRL_STATUS.TX_EPOCH 0, PRT_TRL_STATUS.XMIT_STATE 0, PRT_TRN_STATUS.CXL 0, PRT_TRN_STATUS.EQ_SLOT 0,
    PRT_TRN_STATUS.L0P 0, PRT_TRN_STATUS.RETIMER_POS 0, SB_STATUS.ALERT_PENDING])
  | .applyPoint _ => .any [.halves, .sides, .ports, .engines, .rings, .txn, .winnows, .tim, .tiles, .power, .evq,
    .outbox]
  | .applyPointTimeout _ => .any [.halves, .sides, .ports, .bct, .engines, .rings, .txn, .winnows, .tim, .tiles,
    .power, .evq, .now, .count, .replicas, .elapsed]
  | .trainingSetReceived _ _ => .of [.halves, .sides, .ports, .engines, .tiles, .evq, .outbox] (errorLog ++ jobShown
    ++ txTaps ++ trainingShown ++ linkShown ++ calShown ++ alignShown ++ [LCH_FOM.ADAPT_STATE 0, LCH_FOM.FOM 0,
    LCH_FOM.FOM_VALID 0, LCH_FOM.LOCK 0, LCH_LANE_FAULT.STATUS 0, PRT_TRN_EVENTS.EQ_BELOW_TARGET 0,
    PRT_TRN_EVENTS.EQ_REQ_REJECTED 0, PRT_TRN_EVENTS.LOOPBACK_REFUSED 0, PRT_TRN_STATUS.CXL 0,
    PRT_TRN_STATUS.EQ_SLOT 0, PRT_TRN_STATUS.RETIMER_POS 0, SB_STATUS.ALERT_PENDING])
  | .eqPresetAck _ => .of [.halves] (alignShown ++ [LCH_FOM.ADAPT_STATE 0, LCH_FOM.FOM 0, LCH_FOM.FOM_VALID 0,
    LCH_FOM.LOCK 0])
  | .hotResetExit _ => .of [.halves, .sides, .ports, .engines, .tim, .tiles, .power, .evq, .now, .count, .replicas,
    .elapsed] (errorLog ++ jobShown ++ txTaps ++ trainingShown ++ linkShown ++ calShown ++ alignShown ++ rateShown
    ++ [LCH_FOM.ADAPT_STATE 0, LCH_FOM.FOM 0, LCH_FOM.FOM_VALID 0, LCH_FOM.LOCK 0, LCH_LANE_FAULT.STATUS 0,
    PRT_TRN_STATUS.CXL 0, PRT_TRN_STATUS.EQ_SLOT 0, PRT_TRN_STATUS.L0P 0, PRT_TRN_STATUS.RETIMER_POS 0,
    SB_STATUS.ALERT_PENDING, TIM_STATUS.SLEWING, TIM_UNCERT.BOUND])
  | .disabledExit _ => .of [.halves, .sides, .ports, .engines, .tiles, .evq] (errorLog ++ jobShown ++ txTaps
    ++ trainingShown ++ linkShown ++ calShown ++ alignShown ++ rateShown ++ [LCH_FOM.ADAPT_STATE 0, LCH_FOM.FOM 0,
    LCH_FOM.FOM_VALID 0, LCH_FOM.LOCK 0, LCH_LANE_FAULT.STATUS 0, PRT_TRN_STATUS.CXL 0, PRT_TRN_STATUS.EQ_SLOT 0,
    PRT_TRN_STATUS.L0P 0, PRT_TRN_STATUS.RETIMER_POS 0, SB_STATUS.ALERT_PENDING])
  | .receiverDetectScan _ _ => .of [.halves, .sides, .ports, .tiles, .evq] ([])
  | .electricalIdleExit _ => .of [.halves, .sides, .ports, .engines, .tiles, .evq] (errorLog ++ jobShown ++ txTaps
    ++ trainingShown ++ calShown ++ alignShown ++ [LCH_FOM.ADAPT_STATE 0, LCH_FOM.FOM 0, LCH_FOM.FOM_VALID 0,
    LCH_FOM.LOCK 0, LCH_LANE_FAULT.STATUS 0, SB_STATUS.ALERT_PENDING])
  | .partnerLost _ => .of [.halves, .sides, .ports, .engines, .tiles, .evq] (errorLog ++ jobShown ++ txTaps
    ++ trainingShown ++ linkShown ++ calShown ++ alignShown ++ rateShown ++ [LCH_FOM.ADAPT_STATE 0, LCH_FOM.FOM 0,
    LCH_FOM.FOM_VALID 0, LCH_FOM.LOCK 0, LCH_LANE_FAULT.STATUS 0, PRT_TRN_EVENTS.PARTNER_LOST_A 0,
    PRT_TRN_EVENTS.PARTNER_LOST_B 0, PRT_TRN_STATUS.CXL 0, PRT_TRN_STATUS.EQ_SLOT 0, PRT_TRN_STATUS.L0P 0,
    PRT_TRN_STATUS.RETIMER_POS 0, SB_STATUS.ALERT_PENDING])
  | .trainingTimeout _ => .of [.halves, .sides, .ports, .engines, .tim, .tiles, .power, .evq, .now, .count,
    .replicas, .elapsed] (errorLog ++ jobShown ++ txTaps ++ trainingShown ++ linkShown ++ calShown ++ alignShown
    ++ rateShown ++ [LCH_FOM.ADAPT_STATE 0, LCH_FOM.FOM 0, LCH_FOM.FOM_VALID 0, LCH_FOM.LOCK 0,
    LCH_LANE_FAULT.STATUS 0, PRT_TRN_EVENTS.TRN_TIMEOUT 0, PRT_TRN_STATUS.CXL 0, PRT_TRN_STATUS.EQ_SLOT 0,
    PRT_TRN_STATUS.L0P 0, PRT_TRN_STATUS.RETIMER_POS 0, SB_STATUS.ALERT_PENDING, TIM_STATUS.SLEWING,
    TIM_UNCERT.BOUND])
  | .rateChange _ _ => .of [.halves, .ports, .engines, .tiles, .evq] (errorLog ++ jobShown ++ txTaps
    ++ trainingShown ++ calShown ++ alignShown ++ rateShown ++ rxShown ++ [CAL_RX.APPLIED_TEMP 0,
    LCH_FOM.ADAPT_STATE 0, LCH_FOM.FOM 0, LCH_FOM.FOM_VALID 0, LCH_FOM.LOCK 0, LCH_RX_EQ.CTLE 0,
    LCH_RX_EQ.TABLE_DEFAULT 0, LCH_RX_EQ.WARM 0, PRT_TRN_EVENTS.RATE_CHG_CNT 0, SB_STATUS.ALERT_PENDING])
  | .lowpowerEntry _ _ => .of [.halves, .sides, .ports, .engines, .tiles, .evq] (errorLog ++ jobShown ++ txTaps
    ++ trainingShown ++ calShown ++ alignShown ++ [LCH_FOM.ADAPT_STATE 0, LCH_FOM.FOM 0, LCH_FOM.FOM_VALID 0,
    LCH_FOM.LOCK 0, PRT_TRN_STATUS.L0P 0, SB_STATUS.ALERT_PENDING])
  | .lowpowerExit _ _ => .of [.halves, .sides, .ports, .engines, .tiles, .evq] (errorLog ++ jobShown ++ txTaps
    ++ trainingShown ++ linkShown ++ calShown ++ alignShown ++ rateShown ++ [LCH_FOM.ADAPT_STATE 0, LCH_FOM.FOM 0,
    LCH_FOM.FOM_VALID 0, LCH_FOM.LOCK 0, LCH_LANE_FAULT.STATUS 0, PRT_TRN_STATUS.CXL 0, PRT_TRN_STATUS.EQ_SLOT 0,
    PRT_TRN_STATUS.L0P 0, PRT_TRN_STATUS.RETIMER_POS 0, SB_STATUS.ALERT_PENDING])
  | .trnRetrain _ => .any [.halves, .sides, .ports, .engines, .mgmt, .tim, .tiles, .power, .evq, .now, .count,
    .replicas, .outbox, .freeCtr]
  | .marginCommand _ _ => .of [.halves, .sides, .ports, .engines, .outbox, .freeCtr] (jobShown)
  | .rowLaunch _ _ => .of [.halves, .sides, .ports, .engines, .tim, .tiles, .evq, .outbox] (errorLog ++ jobShown
    ++ txTaps ++ sparesShown ++ [LCH_LANE_FAULT.STATUS 0, PRT_SEG_STATUS.ATTEMPTS 0, PRT_SEG_STATUS.FLIT_DROP 0,
    PRT_SEG_STATUS.HOPS 0, PRT_SEG_STATUS.LAST_FAIL 0, PRT_SEG_STATUS.REPLAY_FULL 0, PRT_SEG_STATUS.STATE 0,
    SB_STATUS.ALERT_PENDING])
  | .frameReceived _ _ => .of [.halves, .sides, .ports, .engines, .tim, .tiles, .evq, .outbox] (errorLog ++ jobShown
    ++ txTaps ++ trainingShown ++ sparesShown ++ linkShown ++ calShown ++ alignShown ++ rateShown ++ partnerShown
    ++ faultShown ++ frameCounts ++ [LCH_FOM.ADAPT_STATE 0, LCH_FOM.FOM 0, LCH_FOM.FOM_VALID 0, LCH_FOM.LOCK 0,
    LCH_LANE_FAULT.STATUS 0, LCH_SEG_FEC.FRAME_LOCK 0, LCH_SEG_FEC.SEG_POL_INV 0, PRT_SEG_CNT.REPLAYS 0,
    PRT_SEG_STATUS.ATTEMPTS 0, PRT_SEG_STATUS.HOPS 0, PRT_SEG_STATUS.LAST_FAIL 0, PRT_SEG_STATUS.PARTNER_LOST 0,
    PRT_SEG_STATUS.RETRY_EXHAUSTED 0, PRT_SEG_STATUS.STATE 0, PRT_TRL_CNT.CANCEL_CNT 0, PRT_TRL_STATUS.PORT_FAULT 0,
    PRT_TRL_STATUS.REMAPPED 0, PRT_TRL_STATUS.STEER_STATE 0, PRT_TRL_STATUS.TX_EPOCH 0, PRT_TRL_STATUS.XMIT_STATE 0,
    PRT_TRN_STATUS.CXL 0, PRT_TRN_STATUS.EQ_SLOT 0, PRT_TRN_STATUS.L0P 0, PRT_TRN_STATUS.RETIMER_POS 0,
    SB_STATUS.ALERT_PENDING])
  | .ackTimeout _ => .of [.halves, .sides, .ports, .engines, .tim, .tiles, .power, .evq, .now, .count, .replicas,
    .elapsed] (errorLog ++ jobShown ++ txTaps ++ trainingShown ++ sparesShown ++ linkShown ++ calShown ++ alignShown
    ++ rateShown ++ partnerShown ++ [LCH_FOM.ADAPT_STATE 0, LCH_FOM.FOM 0, LCH_FOM.FOM_VALID 0, LCH_FOM.LOCK 0,
    LCH_LANE_FAULT.STATUS 0, LCH_SEG_FEC.FRAME_LOCK 0, LCH_SEG_FEC.SEG_POL_INV 0, PRT_SEG_CNT.REPLAYS 0,
    PRT_SEG_STATUS.PARTNER_LOST 0, PRT_SEG_STATUS.RETRY_EXHAUSTED 0, PRT_SEG_STATUS.STATE 0,
    PRT_TRL_STATUS.STEER_STATE 0, PRT_TRL_STATUS.TX_EPOCH 0, PRT_TRL_STATUS.XMIT_STATE 0, PRT_TRN_STATUS.CXL 0,
    PRT_TRN_STATUS.EQ_SLOT 0, PRT_TRN_STATUS.L0P 0, PRT_TRN_STATUS.RETIMER_POS 0, SB_STATUS.ALERT_PENDING,
    TIM_STATUS.SLEWING, TIM_UNCERT.BOUND])
  | .frameLockGained _ _ => .of [.halves, .sides, .ports, .engines, .tiles, .evq] (jobShown ++ sparesShown
    ++ alignShown ++ [LCH_LANE_FAULT.STATUS 0, LCH_SEG_FEC.FRAME_LOCK 0, LCH_SEG_FEC.SEG_POL_INV 0,
    PRT_SEG_STATUS.STATE 0])
  | .frameLockLost _ => .of [.halves, .sides, .engines] (jobShown ++ sparesShown ++ alignShown
    ++ [LCH_LANE_FAULT.STATUS 0, LCH_SEG_FEC.FRAME_LOCK 0])
  | .stuffHigh _ => .of [.evq] (errorLog ++ [PRT_SEG_STATUS.STUFF_HIGH 0, SB_STATUS.ALERT_PENDING])
  | .flitDrop _ => .of [.evq] (errorLog ++ [PRT_SEG_STATUS.FLIT_DROP 0, SB_STATUS.ALERT_PENDING])
  | .segTrainingTimeout _ => .of [.halves, .sides, .ports, .engines, .tim, .tiles, .power, .evq, .now, .count,
    .replicas, .elapsed] (errorLog ++ jobShown ++ txTaps ++ sparesShown ++ calShown ++ alignShown ++ partnerShown
    ++ [LCH_FOM.ADAPT_STATE 0, LCH_FOM.FOM 0, LCH_FOM.FOM_VALID 0, LCH_FOM.LOCK 0, LCH_LANE_FAULT.STATUS 0,
    LCH_SEG_FEC.FRAME_LOCK 0, LCH_SEG_FEC.SEG_POL_INV 0, PRT_SEG_STATUS.ATTEMPTS 0, PRT_SEG_STATUS.LAST_FAIL 0,
    PRT_SEG_STATUS.STATE 0, PRT_TRL_STATUS.STEER_STATE 0, PRT_TRL_STATUS.TX_EPOCH 0, PRT_TRL_STATUS.XMIT_STATE 0,
    SB_STATUS.ALERT_PENDING, TIM_STATUS.SLEWING, TIM_UNCERT.BOUND])
  | .backoffEnd _ => .of [.halves, .sides, .ports, .engines, .tim, .tiles, .power, .evq, .now, .count, .replicas,
    .elapsed] (errorLog ++ jobShown ++ txTaps ++ sparesShown ++ calShown ++ alignShown ++ rateShown ++ partnerShown
    ++ [LCH_FOM.ADAPT_STATE 0, LCH_FOM.FOM 0, LCH_FOM.FOM_VALID 0, LCH_FOM.LOCK 0, LCH_LANE_FAULT.STATUS 0,
    LCH_SEG_FEC.FRAME_LOCK 0, LCH_SEG_FEC.SEG_POL_INV 0, PRT_SEG_STATUS.STATE 0, PRT_TRL_STATUS.STEER_STATE 0,
    PRT_TRL_STATUS.TX_EPOCH 0, PRT_TRL_STATUS.XMIT_STATE 0, SB_STATUS.ALERT_PENDING, TIM_STATUS.SLEWING,
    TIM_UNCERT.BOUND])
  | .laneidReceived _ _ => .of [.halves, .sides, .ports, .engines, .tim, .tiles, .evq] (errorLog ++ jobShown
    ++ txTaps ++ sparesShown ++ calShown ++ alignShown ++ partnerShown ++ [LCH_FOM.ADAPT_STATE 0, LCH_FOM.FOM 0,
    LCH_FOM.FOM_VALID 0, LCH_FOM.LOCK 0, LCH_LANE_FAULT.STATUS 0, LCH_SEG_FEC.FRAME_LOCK 0,
    LCH_SEG_FEC.SEG_POL_INV 0, PRT_SEG_STATUS.ATTEMPTS 0, PRT_SEG_STATUS.HOPS 0, PRT_SEG_STATUS.LAST_FAIL 0,
    PRT_SEG_STATUS.STATE 0, PRT_TRL_STATUS.STEER_STATE 0, PRT_TRL_STATUS.TX_EPOCH 0, PRT_TRL_STATUS.XMIT_STATE 0,
    SB_STATUS.ALERT_PENDING])
  | .segPartnerLost _ => .of [.halves, .sides, .ports, .engines, .tiles, .evq] (errorLog ++ jobShown ++ txTaps
    ++ trainingShown ++ sparesShown ++ linkShown ++ calShown ++ alignShown ++ rateShown ++ partnerShown
    ++ [LCH_FOM.ADAPT_STATE 0, LCH_FOM.FOM 0, LCH_FOM.FOM_VALID 0, LCH_FOM.LOCK 0, LCH_LANE_FAULT.STATUS 0,
    LCH_SEG_FEC.FRAME_LOCK 0, LCH_SEG_FEC.SEG_POL_INV 0, PRT_SEG_STATUS.PARTNER_LOST 0, PRT_SEG_STATUS.STATE 0,
    PRT_TRL_STATUS.STEER_STATE 0, PRT_TRL_STATUS.TX_EPOCH 0, PRT_TRL_STATUS.XMIT_STATE 0, PRT_TRN_STATUS.CXL 0,
    PRT_TRN_STATUS.EQ_SLOT 0, PRT_TRN_STATUS.L0P 0, PRT_TRN_STATUS.RETIMER_POS 0, SB_STATUS.ALERT_PENDING])
  | .segRetrain _ => .any [.halves, .sides, .ports, .engines, .mgmt, .tim, .tiles, .power, .evq, .now, .count,
    .replicas, .outbox, .freeCtr]
  | .osrelSend _ => .of [.sides] ([])
  | .osrelReceived _ _ _ => .of [.halves, .sides, .ports, .engines, .tiles, .evq, .outbox] (errorLog ++ jobShown
    ++ txTaps ++ trainingShown ++ calShown ++ alignShown ++ [LCH_FOM.ADAPT_STATE 0, LCH_FOM.FOM 0,
    LCH_FOM.FOM_VALID 0, LCH_FOM.LOCK 0, LCH_LANE_FAULT.STATUS 0, PRT_TRN_EVENTS.EQ_BELOW_TARGET 0,
    PRT_TRN_EVENTS.LOOPBACK_REFUSED 0, PRT_TRN_STATUS.CXL 0, PRT_TRN_STATUS.EQ_SLOT 0, PRT_TRN_STATUS.RETIMER_POS 0,
    SB_STATUS.ALERT_PENDING])
  | .pathSend _ => .of [.sides] ([])
  | .pathFrameReceived _ _ => .of [.halves, .sides, .ports, .engines, .tiles, .evq, .outbox, .freeCtr] (errorLog
    ++ jobShown ++ txTaps ++ trainingShown ++ linkShown ++ calShown ++ alignShown ++ rateShown
    ++ [LCH_FOM.ADAPT_STATE 0, LCH_FOM.FOM 0, LCH_FOM.FOM_VALID 0, LCH_FOM.LOCK 0, LCH_LANE_FAULT.STATUS 0,
    PRT_SEG_STATUS.CHAIN_TOO_LONG 0, PRT_SEG_STATUS.HOPS 0, PRT_TRN_EVENTS.TRN_TIMEOUT 0, PRT_TRN_STATUS.CXL 0,
    PRT_TRN_STATUS.EQ_SLOT 0, PRT_TRN_STATUS.L0P 0, PRT_TRN_STATUS.RETIMER_POS 0, SB_STATUS.ALERT_PENDING])
  | .osetReceived _ _ => .of [.halves, .ports, .engines, .tiles, .evq, .outbox] (errorLog ++ jobShown ++ txTaps
    ++ trainingShown ++ calShown ++ alignShown ++ [LCH_FOM.ADAPT_STATE 0, LCH_FOM.FOM 0, LCH_FOM.FOM_VALID 0,
    LCH_FOM.LOCK 0, LCH_LANE_FAULT.STATUS 0, SB_STATUS.ALERT_PENDING])
  | .hardFaultDeclare _ _ => .of [.halves, .sides, .ports, .engines, .tiles, .evq] (errorLog ++ jobShown ++ txTaps
    ++ trainingShown ++ sparesShown ++ linkShown ++ calShown ++ alignShown ++ rateShown ++ partnerShown
    ++ faultShown ++ [LCH_FOM.ADAPT_STATE 0, LCH_FOM.FOM 0, LCH_FOM.FOM_VALID 0, LCH_FOM.LOCK 0,
    LCH_LANE_FAULT.STATUS 0, LCH_SEG_FEC.FRAME_LOCK 0, LCH_SEG_FEC.SEG_POL_INV 0, PRT_SEG_STATUS.STATE 0,
    PRT_TRL_CNT.CANCEL_CNT 0, PRT_TRL_STATUS.PORT_FAULT 0, PRT_TRL_STATUS.STEER_STATE 0, PRT_TRL_STATUS.TX_EPOCH 0,
    PRT_TRL_STATUS.XMIT_STATE 0, PRT_TRN_STATUS.CXL 0, PRT_TRN_STATUS.EQ_SLOT 0, PRT_TRN_STATUS.L0P 0,
    PRT_TRN_STATUS.RETIMER_POS 0, SB_STATUS.ALERT_PENDING])
  | .corrBlockEnd _ => .of [.halves, .sides, .ports, .engines, .tiles, .evq] (errorLog ++ jobShown ++ txTaps
    ++ trainingShown ++ sparesShown ++ linkShown ++ calShown ++ alignShown ++ rateShown ++ partnerShown
    ++ faultShown ++ [LCH_FOM.ADAPT_STATE 0, LCH_FOM.FOM 0, LCH_FOM.FOM_VALID 0, LCH_FOM.LOCK 0,
    LCH_LANE_FAULT.STATUS 0, LCH_SEG_FEC.FRAME_LOCK 0, LCH_SEG_FEC.SEG_POL_INV 0, PRT_SEG_STATUS.STATE 0,
    PRT_TRL_CNT.CANCEL_CNT 0, PRT_TRL_STATUS.PORT_FAULT 0, PRT_TRL_STATUS.STEER_STATE 0, PRT_TRL_STATUS.TX_EPOCH 0,
    PRT_TRL_STATUS.XMIT_STATE 0, PRT_TRN_STATUS.CXL 0, PRT_TRN_STATUS.EQ_SLOT 0, PRT_TRN_STATUS.L0P 0,
    PRT_TRN_STATUS.RETIMER_POS 0, SB_STATUS.ALERT_PENDING])
  | .standardLaneFault _ _ => .of [.halves, .sides, .ports, .engines, .tiles, .evq] (errorLog ++ jobShown ++ txTaps
    ++ calShown ++ alignShown ++ faultShown ++ [LCH_FOM.ADAPT_STATE 0, LCH_FOM.FOM 0, LCH_FOM.FOM_VALID 0,
    LCH_FOM.LOCK 0, LCH_LANE_FAULT.STATUS 0, SB_STATUS.ALERT_PENDING])
  | .trellisPropose _ => .of [.halves, .sides, .ports, .engines, .tiles, .evq] (errorLog ++ jobShown ++ txTaps
    ++ trainingShown ++ sparesShown ++ linkShown ++ calShown ++ alignShown ++ rateShown ++ partnerShown
    ++ [LCH_FOM.ADAPT_STATE 0, LCH_FOM.FOM 0, LCH_FOM.FOM_VALID 0, LCH_FOM.LOCK 0, LCH_LANE_FAULT.STATUS 0,
    LCH_SEG_FEC.FRAME_LOCK 0, LCH_SEG_FEC.SEG_POL_INV 0, PRT_SEG_STATUS.STATE 0, PRT_TRL_CNT.PROPOSE_CNT 0,
    PRT_TRL_STATUS.NO_SPARE 0, PRT_TRL_STATUS.PORT_FAULT 0, PRT_TRL_STATUS.STEER_STATE 0, PRT_TRL_STATUS.TX_EPOCH 0,
    PRT_TRL_STATUS.XMIT_STATE 0, PRT_TRN_STATUS.CXL 0, PRT_TRN_STATUS.EQ_SLOT 0, PRT_TRN_STATUS.L0P 0,
    PRT_TRN_STATUS.RETIMER_POS 0, SB_STATUS.ALERT_PENDING])
  | .trellisProposeReceived _ _ => .of [.sides] ([PRT_TRL_STATUS.XMIT_STATE 0])
  | .trellisPreparedReceived _ _ => .of [.halves, .sides] ([PRT_TRL_STATUS.STEER_STATE 0])
  | .trellisRefusedReceived _ _ => .of [.halves, .sides, .ports, .engines, .tiles, .evq] (errorLog ++ jobShown
    ++ txTaps ++ trainingShown ++ sparesShown ++ linkShown ++ calShown ++ alignShown ++ rateShown ++ partnerShown
    ++ [LCH_FOM.ADAPT_STATE 0, LCH_FOM.FOM 0, LCH_FOM.FOM_VALID 0, LCH_FOM.LOCK 0, LCH_LANE_FAULT.STATUS 0,
    LCH_SEG_FEC.FRAME_LOCK 0, LCH_SEG_FEC.SEG_POL_INV 0, PRT_SEG_STATUS.STATE 0, PRT_TRL_CNT.REFUSE_CNT 0,
    PRT_TRL_STATUS.PORT_FAULT 0, PRT_TRL_STATUS.STEER_STATE 0, PRT_TRL_STATUS.TX_EPOCH 0,
    PRT_TRL_STATUS.XMIT_STATE 0, PRT_TRN_STATUS.CXL 0, PRT_TRN_STATUS.EQ_SLOT 0, PRT_TRN_STATUS.L0P 0,
    PRT_TRN_STATUS.RETIMER_POS 0, SB_STATUS.ALERT_PENDING])
  | .commitHoldExpiry _ => .of [.halves, .sides, .tim, .power, .now, .count, .replicas,
    .elapsed] ([PRT_TRL_STATUS.STEER_STATE 0, TIM_STATUS.SLEWING, TIM_UNCERT.BOUND])
  | .trellisCommitReceived _ _ => .of [.sides] ([])
  | .trellisSwitch _ => .of [.halves, .sides, .ports, .engines, .tim, .evq, .outbox] (jobShown ++ sparesShown
    ++ [LCH_LANE_FAULT.STATUS 0, PRT_SEG_CNT.REPLAYS 0, PRT_TRL_STATUS.REMAPPED 0, PRT_TRL_STATUS.TX_EPOCH 0,
    PRT_TRL_STATUS.XMIT_STATE 0])
  | .trellisCancelReceived _ _ => .of [.sides] ([PRT_TRL_STATUS.XMIT_STATE 0])
  | .trellisVoidedReceived _ _ => .of [.halves, .sides] ([PRT_TRL_STATUS.CANCELLED 0, PRT_TRL_STATUS.STEER_STATE 0])
  | .proposeReplyTimeout _ => .of [.halves, .sides, .ports, .engines, .tim, .tiles, .power, .evq, .now, .count,
    .replicas, .elapsed] (errorLog ++ jobShown ++ txTaps ++ trainingShown ++ sparesShown ++ linkShown ++ calShown
    ++ alignShown ++ rateShown ++ partnerShown ++ [LCH_FOM.ADAPT_STATE 0, LCH_FOM.FOM 0, LCH_FOM.FOM_VALID 0,
    LCH_FOM.LOCK 0, LCH_LANE_FAULT.STATUS 0, LCH_SEG_FEC.FRAME_LOCK 0, LCH_SEG_FEC.SEG_POL_INV 0,
    PRT_SEG_STATUS.STATE 0, PRT_TRL_CNT.CANCEL_CNT 0, PRT_TRL_STATUS.PORT_FAULT 0, PRT_TRL_STATUS.STEER_STATE 0,
    PRT_TRL_STATUS.TX_EPOCH 0, PRT_TRL_STATUS.XMIT_STATE 0, PRT_TRN_STATUS.CXL 0, PRT_TRN_STATUS.EQ_SLOT 0,
    PRT_TRN_STATUS.L0P 0, PRT_TRN_STATUS.RETIMER_POS 0, SB_STATUS.ALERT_PENDING, TIM_STATUS.SLEWING,
    TIM_UNCERT.BOUND])
  | .committingTimeout _ => .of [.halves, .sides, .ports, .engines, .tim, .tiles, .power, .evq, .now, .count,
    .replicas, .elapsed] (errorLog ++ jobShown ++ txTaps ++ trainingShown ++ sparesShown ++ linkShown ++ calShown
    ++ alignShown ++ rateShown ++ partnerShown ++ [LCH_FOM.ADAPT_STATE 0, LCH_FOM.FOM 0, LCH_FOM.FOM_VALID 0,
    LCH_FOM.LOCK 0, LCH_LANE_FAULT.STATUS 0, LCH_SEG_FEC.FRAME_LOCK 0, LCH_SEG_FEC.SEG_POL_INV 0,
    PRT_SEG_STATUS.STATE 0, PRT_TRL_STATUS.PORT_FAULT 0, PRT_TRL_STATUS.STEER_STATE 0, PRT_TRL_STATUS.TX_EPOCH 0,
    PRT_TRL_STATUS.XMIT_STATE 0, PRT_TRN_STATUS.CXL 0, PRT_TRN_STATUS.EQ_SLOT 0, PRT_TRN_STATUS.L0P 0,
    PRT_TRN_STATUS.RETIMER_POS 0, SB_STATUS.ALERT_PENDING, TIM_STATUS.SLEWING, TIM_UNCERT.BOUND])
  | .cancellingTimeout _ => .of [.halves, .sides, .tim, .power, .now, .count, .replicas,
    .elapsed] ([PRT_TRL_STATUS.CANCELLED 0, PRT_TRL_STATUS.STEER_STATE 0, TIM_STATUS.SLEWING, TIM_UNCERT.BOUND])
  | .readyTimeout _ => .of [.sides, .tim, .power, .now, .count, .replicas, .elapsed] ([PRT_TRL_STATUS.XMIT_STATE 0,
    TIM_STATUS.SLEWING, TIM_UNCERT.BOUND])
  | .retiredExpiry _ => .of [.halves, .sides, .engines, .tim, .power, .now, .count, .replicas, .elapsed] (jobShown
    ++ sparesShown ++ [LCH_LANE_FAULT.STATUS 0, TIM_STATUS.SLEWING, TIM_UNCERT.BOUND])
  | .trlMove _ _ _ => .any [.halves, .sides, .ports, .engines, .mgmt, .tim, .tiles, .power, .evq, .now, .count,
    .replicas, .outbox, .freeCtr]
  | .trlReturnHome _ _ => .any [.halves, .sides, .ports, .engines, .mgmt, .tim, .tiles, .power, .evq, .now, .count,
    .replicas, .outbox, .freeCtr]
  | .calRun _ _ _ => .of [.halves, .engines, .tim, .power, .now, .count, .replicas, .freeCtr] (jobShown ++ wakeShown
    ++ calShown ++ clocksShown ++ [PWR_STATUS.PL, PWR_STATUS.STATE, PWR_STATUS.VID_BUSY, PWR_STATUS.VID_CODE,
    PWR_WAKE_STATUS.WAKE_US])
  | .calStore => .of [.calStore, .storeWait, .lastStore, .imgOp, .tim, .tiles, .power, .now, .count, .replicas,
    .freeCtr] (wakeShown ++ clocksShown ++ [CAL_STATUS.STORE_BUSY, CAL_STATUS.STORE_RESULT, PWR_STATUS.PL,
    PWR_STATUS.STATE, PWR_STATUS.VID_BUSY, PWR_STATUS.VID_CODE, PWR_WAKE_STATUS.WAKE_US])
  | .calReload => .of [.halves, .calTab, .tim, .tiles, .power, .evq, .now, .count, .replicas, .freeCtr] (errorLog
    ++ wakeShown ++ calShown ++ clocksShown ++ [CAL_GEN.GENERATION, CAL_RX.VALID_POINTS 0, CAL_STATUS.BOOT_COPY,
    CAL_STATUS.DIRTY, CAL_STATUS.STORE_RESULT, PWR_STATUS.PL, PWR_STATUS.STATE, PWR_STATUS.VID_BUSY,
    PWR_STATUS.VID_CODE, PWR_WAKE_STATUS.WAKE_US, SB_STATUS.ALERT_PENDING])
  | .calClear _ _ _ => .of [.halves, .calTab, .calStore, .tim, .tiles, .power, .evq, .now, .count, .replicas,
    .freeCtr] (errorLog ++ wakeShown ++ calShown ++ clocksShown ++ [CAL_RX.VALID_POINTS 0, CAL_STATUS.DIRTY,
    PWR_STATUS.PL, PWR_STATUS.STATE, PWR_STATUS.VID_BUSY, PWR_STATUS.VID_CODE, PWR_WAKE_STATUS.WAKE_US,
    SB_STATUS.ALERT_PENDING])
  | .calAutoRun _ => .of [.halves, .engines, .tim, .power, .now, .count, .replicas, .elapsed] (jobShown ++ calShown
    ++ [TIM_STATUS.SLEWING, TIM_UNCERT.BOUND])
  | .calAutoStore => .of [.calStore, .storeWait, .lastStore, .imgOp, .tim, .tiles, .power, .now, .count, .replicas,
    .elapsed] ([CAL_STATUS.STORE_BUSY, CAL_STATUS.STORE_RESULT, TIM_STATUS.SLEWING, TIM_UNCERT.BOUND])
  | .calCaptureStart _ => .of [.halves] ([])
  | .calCaptureEnd _ _ _ => .of [.halves, .tiles, .evq] (errorLog ++ calShown ++ [SB_STATUS.ALERT_PENDING])
  | .calComputeDone _ => .of [.halves] ([])
  | .calHoldWrite _ => .of [.halves, .tiles, .evq] (errorLog ++ calShown ++ [CAL_RX.HOLD 0,
    SB_STATUS.ALERT_PENDING])
  | .interpolationStep _ _ => .of [.halves] ([CAL_TEMP.TEMP 0, CAL_TEMP.VALID 0])
  | .calStoreFlashDone _ => .of [.flash, .calStore, .storeWait, .imgOp, .tiles, .power,
    .freeCtr] ([CAL_GEN.GENERATION, CAL_STATUS.DIRTY, CAL_STATUS.STORE_BUSY, CAL_STATUS.STORE_RESULT])
  | .calStoreTimeout => .of [.flash, .calStore, .storeWait, .imgOp, .tim, .tiles, .power, .now, .count, .replicas,
    .elapsed, .freeCtr] ([CAL_STATUS.STORE_BUSY, CAL_STATUS.STORE_RESULT, TIM_STATUS.SLEWING, TIM_UNCERT.BOUND])
  | .engineStepEnd _ => .of [.engines, .freeCtr] ([])
  | .epochStart => .of [.engines, .slices, .tim, .power, .evq, .now, .count, .replicas, .elapsed,
    .freeCtr] ([ENG_STATUS.LOAD 0, TIM_STATUS.SLEWING, TIM_UNCERT.BOUND])
  | .jobDispatch _ => .of [.halves, .sides, .engines, .slices, .rings, .tiles, .power, .evq] (jobShown
    ++ sparesShown ++ [ENG_CNT.DISPLACED 0, ENG_CNT.STEPS 0, LCH_LANE_FAULT.STATUS 0])
  | .safePoint _ _ => .of [.halves, .engines, .slices] (jobShown ++ [ENG_CNT.STEPS 0])
  | .restoreDone _ => .of [.halves, .sides, .ports, .engines, .rings, .mgmt, .tiles, .power, .evq, .outbox,
    .freeCtr] (jobShown ++ sparesShown ++ [ENG_CNT.DISPLACED 0, GLB_MGMT_STATUS.STAGING_FULL,
    LCH_LANE_FAULT.STATUS 0])
  | .waitExpired _ => .of [.engines, .rings, .tim, .tiles, .power, .evq, .now, .count, .replicas,
    .elapsed] ([ENG_CNT.DISPLACED 0, ENG_CNT.EXPIRED 0, TIM_STATUS.SLEWING, TIM_UNCERT.BOUND])
  | .engineFault _ => .of [.halves, .sides, .engines, .rings, .mgmt, .tiles, .power, .evq, .outbox] (errorLog
    ++ jobShown ++ sparesShown ++ calShown ++ [ENG_CNT.DISPLACED 0, ENG_STATUS.FAULTS 0, ENG_STATUS.STATE 0,
    GLB_MGMT_STATUS.STAGING_FULL, LCH_FOM.FOM 0, LCH_FOM.FOM_VALID 0, LCH_LANE_FAULT.STATUS 0,
    SB_STATUS.ALERT_PENDING])
  | .engineRestartDone _ => .of [.halves, .sides, .engines, .rings, .imgOp, .mgmt, .tiles, .power, .evq,
    .outbox] (errorLog ++ jobShown ++ sparesShown ++ calShown ++ alignShown ++ [CAL_RX.APPLIED_TEMP 0,
    ENG_CNT.DISPLACED 0, ENG_STATUS.STATE 0, GLB_MGMT_STATUS.STAGING_FULL, IMG_STATUS.CMD_BUSY,
    IMG_STATUS.CMD_RESULT, IMG_STATUS.ENG_FW_SLOT, LCH_FOM.ADAPT_STATE 0, LCH_FOM.FOM 0, LCH_FOM.FOM_VALID 0,
    LCH_FOM.LOCK 0, LCH_LANE_FAULT.STATUS 0, SB_STATUS.ALERT_PENDING])
  | .engPermitWrite _ _ => .of [.engines, .rings, .tiles, .power, .evq] (jobShown ++ permitShown
    ++ [ENG_CNT.DISPLACED 0])
  | .sliceJobsOffWrite _ => .of [.engines] (jobShown ++ [ENG_CTRL.SLICE_JOBS_OFF])
  | .boot _ => .any [.bct, .calTab, .slices, .rings, .flash, .lastStore, .chip, .tim, .power]
  | .writeSlot _ => .of [.imgOp, .tim, .power, .now, .count, .replicas, .freeCtr] (wakeShown ++ clocksShown
    ++ [IMG_STATUS.CMD_BUSY, IMG_STATUS.CMD_RESULT, PWR_STATUS.PL, PWR_STATUS.STATE, PWR_STATUS.VID_BUSY,
    PWR_STATUS.VID_CODE, PWR_WAKE_STATUS.WAKE_US])
  | .imgFlashOpDone _ => .of [.tags, .flash, .calStore, .storeWait, .lastStore, .lastWritten, .imgOp, .mgmt, .tiles,
    .power, .outbox, .freeCtr] ([CAL_STATUS.STORE_BUSY, CAL_STATUS.STORE_RESULT, IMG_STATUS.CMD_BUSY,
    IMG_STATUS.CMD_RESULT])
  | .confirm => .of [.flash, .tim, .power, .now, .count, .replicas, .freeCtr] (wakeShown ++ clocksShown
    ++ [IMG_STATUS.CMD_RESULT, IMG_STATUS.CONFIRMED, PWR_STATUS.PL, PWR_STATUS.STATE, PWR_STATUS.VID_BUSY,
    PWR_STATUS.VID_CODE, PWR_WAKE_STATUS.WAKE_US])
  | .confirmAfterExpiry => .of [.flash, .tim, .power, .now, .count, .replicas, .elapsed] ([IMG_STATUS.CONFIRMED,
    TIM_STATUS.SLEWING, TIM_UNCERT.BOUND])
  | .advanceArb => .of [.fuses, .tim, .power, .now, .count, .replicas, .freeCtr] (wakeShown ++ clocksShown
    ++ [IMG_KEYS.SLOT 0, IMG_STATUS.ARB_FUSE, IMG_STATUS.CMD_RESULT, PWR_STATUS.PL, PWR_STATUS.STATE,
    PWR_STATUS.VID_BUSY, PWR_STATUS.VID_CODE, PWR_WAKE_STATUS.WAKE_US])
  | .swapFw => .of [.halves, .sides, .engines, .rings, .imgOp, .mgmt, .tim, .tiles, .power, .evq, .now, .count,
    .replicas, .outbox, .freeCtr] (errorLog ++ jobShown ++ wakeShown ++ sparesShown ++ calShown ++ clocksShown
    ++ [ENG_CNT.DISPLACED 0, ENG_STATUS.STATE 0, GLB_MGMT_STATUS.STAGING_FULL, IMG_STATUS.CMD_BUSY,
    IMG_STATUS.CMD_RESULT, IMG_STATUS.ENG_FW_SLOT, LCH_FOM.FOM 0, LCH_FOM.FOM_VALID 0, LCH_LANE_FAULT.STATUS 0,
    PWR_STATUS.PL, PWR_STATUS.STATE, PWR_STATUS.VID_BUSY, PWR_STATUS.VID_CODE, PWR_WAKE_STATUS.WAKE_US,
    SB_STATUS.ALERT_PENDING])
  | .programKey _ => .of [.tags, .imgOp, .mgmt, .tim, .power, .now, .count, .replicas, .outbox, .freeCtr] (wakeShown
    ++ clocksShown ++ [IMG_STATUS.CMD_BUSY, IMG_STATUS.CMD_RESULT, PWR_STATUS.PL, PWR_STATUS.STATE,
    PWR_STATUS.VID_BUSY, PWR_STATUS.VID_CODE, PWR_WAKE_STATUS.WAKE_US])
  | .revokeKey _ => .of [.fuses, .tim, .power, .now, .count, .replicas, .freeCtr] (wakeShown ++ clocksShown
    ++ [IMG_KEYS.SLOT 0, IMG_STATUS.ARB_FUSE, IMG_STATUS.CMD_RESULT, PWR_STATUS.PL, PWR_STATUS.STATE,
    PWR_STATUS.VID_BUSY, PWR_STATUS.VID_CODE, PWR_WAKE_STATUS.WAKE_US])
  | .txnBegin => .of [.txn, .tim, .power, .now, .count, .replicas, .freeCtr] (wakeShown ++ clocksShown
    ++ [PWR_STATUS.PL, PWR_STATUS.STATE, PWR_STATUS.VID_BUSY, PWR_STATUS.VID_CODE, PWR_WAKE_STATUS.WAKE_US,
    TXN_STATUS.ID, TXN_STATUS.STATE])
  | .commit => .of [.txn, .tim, .power, .now, .count, .replicas, .freeCtr] (wakeShown ++ clocksShown
    ++ [GLB_TILE_STATUS.LT 0, PWR_STATUS.PL, PWR_STATUS.STATE, PWR_STATUS.VID_BUSY, PWR_STATUS.VID_CODE,
    PWR_WAKE_STATUS.WAKE_US, TXN_STATUS.STATE, TXN_TIME.TIME 0])
  | .rollback => .of [.ports, .txn, .tim, .tiles, .power, .evq, .now, .count, .replicas, .freeCtr] (wakeShown
    ++ clocksShown ++ txnShown ++ [PWR_STATUS.PL, PWR_STATUS.STATE, PWR_STATUS.VID_BUSY, PWR_STATUS.VID_CODE,
    PWR_WAKE_STATUS.WAKE_US, TXN_STATUS.STATE])
  | .rwtWrite _ _ => .any [.halves, .sides, .ports, .engines, .txn, .mgmt, .tim, .tiles, .power, .evq, .now, .count,
    .replicas, .outbox, .freeCtr]
  | .bctStage _ => .of [.txn] ([TXN_STATUS.STRAY])
  | .txnValidationDone => .of [.ports, .txn, .tiles, .power, .evq] (txnShown ++ [LCH_FOM_LIMITS.TARGET 0,
    LCH_FOM_LIMITS.WARN 0, PRT_DP_CTRL.A_SLOT 0, PRT_DP_CTRL.B_SLOT 0, PRT_MODE.MODE 0, PRT_SEG_CTRL.SLOTS 0,
    PRT_TRL_CTRL.MIN_WIDTH 0, PWR_STATUS.PL, PWR_STATUS.VID_BUSY, PWR_STATUS.VID_CODE, TXN_STATUS.STATE])
  | .txnCommitTime => .any [.halves, .sides, .ports, .bct, .engines, .rings, .txn, .winnows, .tim, .tiles, .power,
    .evq, .now, .count, .replicas, .elapsed]
  | .txnApplyFail _ => .any [.halves, .sides, .ports, .bct, .engines, .rings, .txn, .winnows, .tim, .tiles, .power,
    .evq, .now, .count, .replicas, .elapsed]
  | .txnRollbackDone => .of [.ports, .txn, .tiles, .power, .evq] (txnShown ++ [PWR_STATUS.PL, PWR_STATUS.VID_BUSY,
    PWR_STATUS.VID_CODE, TXN_STATUS.STATE])
  | .abandoned => .of [.ports, .txn, .tim, .tiles, .power, .evq, .now, .count, .replicas, .elapsed] (txnShown
    ++ [PWR_STATUS.PL, PWR_STATUS.VID_BUSY, PWR_STATUS.VID_CODE, TIM_STATUS.SLEWING, TIM_UNCERT.BOUND,
    TXN_STATUS.STATE])
  | .completionReceived _ _ _ _ => .of [.rings, .tags, .fuses, .imgOp, .mgmt, .windows, .power, .evq,
    .outbox] (windowShown ++ [GLB_MGMT_CNT.LATE_CPL_CNT, GLB_MGMT_STATUS.LATE_CPL, IMG_KEYS.SLOT 0,
    IMG_STATUS.CMD_BUSY, IMG_STATUS.CMD_RESULT, RNG_POS.HEAD 0 0, RNG_STATUS.ERRORS 0 0, RNG_STATUS.STATE 0 0,
    TRC_WIN_DROPS.DROPS 0 0, TRC_WIN_POS.POS 0 0, TRC_WIN_STATUS.STATE 0 0])
  | .completionTimeout _ => .of [.rings, .tags, .imgOp, .mgmt, .windows, .tim, .power, .evq, .now, .count,
    .replicas, .elapsed, .outbox] (windowShown ++ [GLB_MGMT_CNT.TIMEOUTS, IMG_STATUS.CMD_BUSY,
    IMG_STATUS.CMD_RESULT, RNG_POS.HEAD 0 0, RNG_STATUS.ERRORS 0 0, RNG_STATUS.STATE 0 0, TIM_STATUS.SLEWING,
    TIM_UNCERT.BOUND, TRC_WIN_DROPS.DROPS 0 0, TRC_WIN_POS.POS 0 0, TRC_WIN_STATUS.STATE 0 0])
  | .tagRetireExpiry _ => .of [.tags, .mgmt, .tim, .power, .now, .count, .replicas, .elapsed,
    .outbox] ([TIM_STATUS.SLEWING, TIM_UNCERT.BOUND])
  | .ctoDisableClear => .of [.tags, .mgmt, .outbox] ([])
  | .holdStart _ => .of [.ports, .engines, .slices, .rings, .tags, .imgOp, .txn, .mgmt, .winnows, .windows, .tiles,
    .power, .evq, .staged, .outbox] (jobShown ++ winnowShown ++ sliceShown ++ ringControl ++ windowShown ++ txnShown
    ++ permitShown ++ shareShown ++ mgmtShown ++ [ENG_CNT.DISPLACED 0, GLB_ALIVE.MGMT_RESETS,
    GLB_MGMT_STATUS.DMA_HELD, GLB_MGMT_STATUS.STAGED, GLB_MGMT_STATUS.STAGING_FULL, IMG_STATUS.CMD_BUSY,
    IMG_STATUS.CMD_RESULT, PWR_STATUS.PL, PWR_STATUS.VID_BUSY, PWR_STATUS.VID_CODE, RNG_POS.HEAD 0 0,
    RNG_POS.TAIL 0 0, RNG_STATUS.ERRORS 0 0, RNG_STATUS.PHASE 0 0, RNG_STATUS.STATE 0 0, SLC_CTRL.PASID 0,
    SLC_PORTS.PORTS 0 0, SLC_RINGS.BASE 0, SLC_SELF_STATUS.DISCARDED 0, SLC_SELF_STATUS.DROPPED 0,
    SLC_STATUS.DESTROY_PENDING 0, SLC_STATUS.GENERATION 0, SLC_STATUS.STAGED 0, SLC_VECTORS.BASE 0,
    TRC_WIN_DROPS.DROPS 0 0, TRC_WIN_POS.POS 0 0, TRC_WIN_STATUS.STATE 0 0, TXN_STATUS.STATE])
  | .holdEnd _ => .of [.engines, .rings, .tags, .mgmt, .tiles, .power, .evq, .staged, .outbox] (jobShown
    ++ mgmtShown ++ [ENG_CNT.DISPLACED 0, GLB_MGMT_STATUS.DMA_HELD, GLB_MGMT_STATUS.STAGED,
    GLB_MGMT_STATUS.STAGING_FULL, RNG_POS.TAIL 0 0, RNG_STATUS.PHASE 0 0, RNG_STATUS.STATE 0 0,
    SLC_SELF_STATUS.DISCARDED 0, SLC_STATUS.STAGED 0])
  | .flr => .of [.ports, .engines, .slices, .rings, .tags, .imgOp, .txn, .mgmt, .winnows, .windows, .tiles, .power,
    .evq, .staged, .outbox] (jobShown ++ winnowShown ++ sliceShown ++ ringControl ++ windowShown ++ txnShown
    ++ permitShown ++ shareShown ++ [ENG_CNT.DISPLACED 0, GLB_ALIVE.MGMT_RESETS, GLB_MGMT_STATUS.DMA_HELD,
    GLB_MGMT_STATUS.STAGED, GLB_MGMT_STATUS.STAGING_FULL, IMG_STATUS.CMD_BUSY, IMG_STATUS.CMD_RESULT, PWR_STATUS.PL,
    PWR_STATUS.VID_BUSY, PWR_STATUS.VID_CODE, RNG_POS.HEAD 0 0, RNG_POS.TAIL 0 0, RNG_STATUS.ERRORS 0 0,
    RNG_STATUS.PHASE 0 0, RNG_STATUS.STATE 0 0, SLC_CTRL.PASID 0, SLC_PORTS.PORTS 0 0, SLC_RINGS.BASE 0,
    SLC_SELF_STATUS.DISCARDED 0, SLC_SELF_STATUS.DROPPED 0, SLC_STATUS.DESTROY_PENDING 0, SLC_STATUS.GENERATION 0,
    SLC_STATUS.STAGED 0, SLC_VECTORS.BASE 0, TRC_WIN_DROPS.DROPS 0 0, TRC_WIN_POS.POS 0 0, TRC_WIN_STATUS.STATE 0 0,
    TXN_STATUS.STATE])
  | .mgmtHotReset => .of [.ports, .engines, .slices, .rings, .tags, .imgOp, .txn, .mgmt, .winnows, .windows, .tiles,
    .power, .evq, .staged, .outbox] (jobShown ++ winnowShown ++ sliceShown ++ ringControl ++ windowShown ++ txnShown
    ++ permitShown ++ shareShown ++ mgmtShown ++ [ENG_CNT.DISPLACED 0, GLB_ALIVE.MGMT_RESETS,
    GLB_MGMT_STATUS.DMA_HELD, GLB_MGMT_STATUS.STAGED, GLB_MGMT_STATUS.STAGING_FULL, IMG_STATUS.CMD_BUSY,
    IMG_STATUS.CMD_RESULT, PWR_STATUS.PL, PWR_STATUS.VID_BUSY, PWR_STATUS.VID_CODE, RNG_POS.HEAD 0 0,
    RNG_POS.TAIL 0 0, RNG_STATUS.ERRORS 0 0, RNG_STATUS.PHASE 0 0, RNG_STATUS.STATE 0 0, SLC_CTRL.PASID 0,
    SLC_PORTS.PORTS 0 0, SLC_RINGS.BASE 0, SLC_SELF_STATUS.DISCARDED 0, SLC_SELF_STATUS.DROPPED 0,
    SLC_STATUS.DESTROY_PENDING 0, SLC_STATUS.GENERATION 0, SLC_STATUS.STAGED 0, SLC_VECTORS.BASE 0,
    TRC_WIN_DROPS.DROPS 0 0, TRC_WIN_POS.POS 0 0, TRC_WIN_STATUS.STATE 0 0, TXN_STATUS.STATE])
  | .dataLinkDown => .of [.ports, .engines, .slices, .rings, .tags, .imgOp, .txn, .mgmt, .winnows, .windows, .tiles,
    .power, .evq, .staged, .outbox] (jobShown ++ winnowShown ++ sliceShown ++ ringControl ++ windowShown ++ txnShown
    ++ permitShown ++ shareShown ++ mgmtShown ++ [ENG_CNT.DISPLACED 0, GLB_ALIVE.MGMT_RESETS,
    GLB_MGMT_STATUS.DMA_HELD, GLB_MGMT_STATUS.STAGED, GLB_MGMT_STATUS.STAGING_FULL, IMG_STATUS.CMD_BUSY,
    IMG_STATUS.CMD_RESULT, PWR_STATUS.PL, PWR_STATUS.VID_BUSY, PWR_STATUS.VID_CODE, RNG_POS.HEAD 0 0,
    RNG_POS.TAIL 0 0, RNG_STATUS.ERRORS 0 0, RNG_STATUS.PHASE 0 0, RNG_STATUS.STATE 0 0, SLC_CTRL.PASID 0,
    SLC_PORTS.PORTS 0 0, SLC_RINGS.BASE 0, SLC_SELF_STATUS.DISCARDED 0, SLC_SELF_STATUS.DROPPED 0,
    SLC_STATUS.DESTROY_PENDING 0, SLC_STATUS.GENERATION 0, SLC_STATUS.STAGED 0, SLC_VECTORS.BASE 0,
    TRC_WIN_DROPS.DROPS 0 0, TRC_WIN_POS.POS 0 0, TRC_WIN_STATUS.STATE 0 0, TXN_STATUS.STATE])
  | .perstAssert => .of [.ports, .engines, .slices, .rings, .tags, .imgOp, .txn, .mgmt, .winnows, .windows, .tiles,
    .power, .evq, .staged, .outbox] (jobShown ++ winnowShown ++ sliceShown ++ ringControl ++ windowShown ++ txnShown
    ++ permitShown ++ shareShown ++ mgmtShown ++ [ENG_CNT.DISPLACED 0, GLB_ALIVE.MGMT_RESETS,
    GLB_MGMT_STATUS.DMA_HELD, GLB_MGMT_STATUS.STAGED, GLB_MGMT_STATUS.STAGING_FULL, IMG_STATUS.CMD_BUSY,
    IMG_STATUS.CMD_RESULT, PWR_STATUS.PL, PWR_STATUS.VID_BUSY, PWR_STATUS.VID_CODE, RNG_POS.HEAD 0 0,
    RNG_POS.TAIL 0 0, RNG_STATUS.ERRORS 0 0, RNG_STATUS.PHASE 0 0, RNG_STATUS.STATE 0 0, SLC_CTRL.PASID 0,
    SLC_PORTS.PORTS 0 0, SLC_RINGS.BASE 0, SLC_SELF_STATUS.DISCARDED 0, SLC_SELF_STATUS.DROPPED 0,
    SLC_STATUS.DESTROY_PENDING 0, SLC_STATUS.GENERATION 0, SLC_STATUS.STAGED 0, SLC_VECTORS.BASE 0,
    TRC_WIN_DROPS.DROPS 0 0, TRC_WIN_POS.POS 0 0, TRC_WIN_STATUS.STATE 0 0, TXN_STATUS.STATE])
  | .perstDeassert => .of [.mgmt, .tim, .power, .now, .count, .replicas, .freeCtr] (wakeShown ++ clocksShown
    ++ [PWR_STATUS.PL, PWR_STATUS.STATE, PWR_STATUS.VID_BUSY, PWR_STATUS.VID_CODE, PWR_WAKE_STATUS.WAKE_US])
  | .d3hotEntry => .of [.tags, .imgOp, .mgmt, .power, .outbox] ([GLB_MGMT_STATUS.DMA_HELD, IMG_STATUS.CMD_BUSY,
    IMG_STATUS.CMD_RESULT])
  | .d0Return => .of [.engines, .rings, .tags, .mgmt, .tiles, .power, .evq, .staged, .outbox] (jobShown
    ++ [ENG_CNT.DISPLACED 0, GLB_MGMT_STATUS.DMA_HELD, GLB_MGMT_STATUS.STAGED, GLB_MGMT_STATUS.STAGING_FULL,
    RNG_POS.TAIL 0 0, RNG_STATUS.PHASE 0 0, RNG_STATUS.STATE 0 0, SLC_SELF_STATUS.DISCARDED 0, SLC_STATUS.STAGED 0])
  | .pmeTurnOff => .of [.tags, .imgOp, .mgmt, .power, .outbox] ([IMG_STATUS.CMD_BUSY, IMG_STATUS.CMD_RESULT])
  | .aspmL1Entry => .of [.mgmt] ([])
  | .aspmL1Exit => .of [.mgmt] ([])
  | .msixUnmask _ => .of [.mgmt, .outbox] ([])
  | .aliveBeat => .of [.mgmt, .tim, .power, .now, .count, .replicas, .elapsed, .outbox] ([GLB_ALIVE.BEAT,
    TIM_STATUS.SLEWING, TIM_UNCERT.BOUND])
  | .create _ => .of [.slices, .rings, .tim, .power, .now, .count, .replicas, .freeCtr] (wakeShown ++ clocksShown
    ++ sliceShown ++ ringControl ++ permitShown ++ shareShown ++ [PWR_STATUS.PL, PWR_STATUS.STATE,
    PWR_STATUS.VID_BUSY, PWR_STATUS.VID_CODE, PWR_WAKE_STATUS.WAKE_US, RNG_POS.HEAD 0 0, RNG_POS.TAIL 0 0,
    RNG_STATUS.ERRORS 0 0, RNG_STATUS.PHASE 0 0, RNG_STATUS.STATE 0 0, SLC_SELF_STATUS.DISCARDED 0,
    SLC_SELF_STATUS.DROPPED 0, SLC_STATUS.RESULT 0])
  | .sliceReset _ => .of [.engines, .rings, .tags, .imgOp, .mgmt, .winnows, .windows, .tim, .tiles, .power, .evq,
    .staged, .now, .count, .replicas, .outbox, .freeCtr] (jobShown ++ wakeShown ++ clocksShown ++ winnowShown
    ++ sliceShown ++ ringControl ++ windowShown ++ [ENG_CNT.DISPLACED 0, GLB_MGMT_STATUS.STAGED,
    GLB_MGMT_STATUS.STAGING_FULL, IMG_STATUS.CMD_BUSY, IMG_STATUS.CMD_RESULT, PWR_STATUS.PL, PWR_STATUS.STATE,
    PWR_STATUS.VID_BUSY, PWR_STATUS.VID_CODE, PWR_WAKE_STATUS.WAKE_US, RNG_POS.HEAD 0 0, RNG_POS.TAIL 0 0,
    RNG_STATUS.ERRORS 0 0, RNG_STATUS.PHASE 0 0, RNG_STATUS.STATE 0 0, SLC_SELF_STATUS.DISCARDED 0,
    SLC_SELF_STATUS.DROPPED 0, SLC_STATUS.GENERATION 0, SLC_STATUS.RESULT 0, SLC_STATUS.STAGED 0,
    TRC_WIN_DROPS.DROPS 0 0, TRC_WIN_POS.POS 0 0, TRC_WIN_STATUS.STATE 0 0])
  | .selfReset _ => .of [.engines, .rings, .tags, .imgOp, .mgmt, .winnows, .windows, .tim, .tiles, .power, .evq,
    .staged, .now, .count, .replicas, .outbox, .freeCtr] (jobShown ++ wakeShown ++ clocksShown ++ winnowShown
    ++ sliceShown ++ ringControl ++ windowShown ++ [ENG_CNT.DISPLACED 0, GLB_MGMT_STATUS.STAGED,
    GLB_MGMT_STATUS.STAGING_FULL, IMG_STATUS.CMD_BUSY, IMG_STATUS.CMD_RESULT, PWR_STATUS.PL, PWR_STATUS.STATE,
    PWR_STATUS.VID_BUSY, PWR_STATUS.VID_CODE, PWR_WAKE_STATUS.WAKE_US, RNG_POS.HEAD 0 0, RNG_POS.TAIL 0 0,
    RNG_STATUS.ERRORS 0 0, RNG_STATUS.PHASE 0 0, RNG_STATUS.STATE 0 0, SLC_SELF_STATUS.DISCARDED 0,
    SLC_SELF_STATUS.DROPPED 0, SLC_STATUS.GENERATION 0, SLC_STATUS.STAGED 0, TRC_WIN_DROPS.DROPS 0 0,
    TRC_WIN_POS.POS 0 0, TRC_WIN_STATUS.STATE 0 0])
  | .destroy _ => .of [.engines, .rings, .tags, .imgOp, .mgmt, .winnows, .windows, .tim, .tiles, .power, .evq,
    .staged, .now, .count, .replicas, .outbox, .freeCtr] (jobShown ++ wakeShown ++ clocksShown ++ winnowShown
    ++ sliceShown ++ ringControl ++ windowShown ++ [ENG_CNT.DISPLACED 0, GLB_MGMT_STATUS.STAGED,
    GLB_MGMT_STATUS.STAGING_FULL, IMG_STATUS.CMD_BUSY, IMG_STATUS.CMD_RESULT, PWR_STATUS.PL, PWR_STATUS.STATE,
    PWR_STATUS.VID_BUSY, PWR_STATUS.VID_CODE, PWR_WAKE_STATUS.WAKE_US, RNG_POS.HEAD 0 0, RNG_POS.TAIL 0 0,
    RNG_STATUS.ERRORS 0 0, RNG_STATUS.PHASE 0 0, RNG_STATUS.STATE 0 0, SLC_SELF_STATUS.DISCARDED 0,
    SLC_SELF_STATUS.DROPPED 0, SLC_STATUS.DESTROY_PENDING 0, SLC_STATUS.GENERATION 0, SLC_STATUS.RESULT 0,
    SLC_STATUS.STAGED 0, TRC_WIN_DROPS.DROPS 0 0, TRC_WIN_POS.POS 0 0, TRC_WIN_STATUS.STATE 0 0])
  | .resetDone _ => .of [.engines, .rings, .tags, .imgOp, .mgmt, .winnows, .windows, .tiles, .power, .evq, .staged,
    .outbox] (jobShown ++ winnowShown ++ sliceShown ++ ringControl ++ windowShown ++ [ENG_CNT.DISPLACED 0,
    GLB_MGMT_STATUS.STAGED, GLB_MGMT_STATUS.STAGING_FULL, IMG_STATUS.CMD_BUSY, IMG_STATUS.CMD_RESULT,
    RNG_POS.HEAD 0 0, RNG_POS.TAIL 0 0, RNG_STATUS.ERRORS 0 0, RNG_STATUS.PHASE 0 0, RNG_STATUS.STATE 0 0,
    SLC_SELF_STATUS.DISCARDED 0, SLC_SELF_STATUS.DROPPED 0, SLC_SELF_STATUS.RESET_DONE 0,
    SLC_STATUS.DESTROY_PENDING 0, SLC_STATUS.GENERATION 0, SLC_STATUS.RESET_DONE 0, SLC_STATUS.STAGED 0,
    TRC_WIN_DROPS.DROPS 0 0, TRC_WIN_POS.POS 0 0, TRC_WIN_STATUS.STATE 0 0])
  | .destroyDone _ => .of [.slices, .rings, .mgmt, .evq] (sliceShown ++ ringControl ++ permitShown ++ shareShown
    ++ [RNG_POS.HEAD 0 0, RNG_POS.TAIL 0 0, RNG_STATUS.ERRORS 0 0, RNG_STATUS.PHASE 0 0, RNG_STATUS.STATE 0 0,
    SLC_CTRL.PASID 0, SLC_PORTS.PORTS 0 0, SLC_RINGS.BASE 0, SLC_SELF_STATUS.DISCARDED 0, SLC_SELF_STATUS.DROPPED 0,
    SLC_STATUS.DESTROY_PENDING 0, SLC_STATUS.GENERATION 0, SLC_VECTORS.BASE 0])
  | .shareWrite _ _ _ => .of [.evq] (shareShown ++ [SLC_RINGS.BASE 0, SLC_VECTORS.BASE 0])
  | .visibilityRemove _ _ _ => .of [.engines, .rings, .winnows, .tiles, .power, .evq] (jobShown ++ winnowShown
    ++ [ENG_CNT.DISPLACED 0, SLC_PORTS.PORTS 0 0])
  | .pasidEnableChange _ => .of [.engines, .rings, .tags, .imgOp, .mgmt, .tiles, .power, .evq, .staged,
    .outbox] (jobShown ++ [ENG_CNT.DISPLACED 0, GLB_MGMT_STATUS.STAGED, GLB_MGMT_STATUS.STAGING_FULL,
    IMG_STATUS.CMD_BUSY, IMG_STATUS.CMD_RESULT, RNG_POS.TAIL 0 0, RNG_STATUS.PHASE 0 0, RNG_STATUS.STATE 0 0,
    SLC_SELF_STATUS.DISCARDED 0, SLC_STATUS.STAGED 0])
  | .ringEnable _ _ _ => .of [.engines, .rings, .mgmt, .tiles, .power, .evq, .staged, .outbox] (jobShown
    ++ ringControl ++ [ENG_CNT.DISPLACED 0, GLB_MGMT_STATUS.STAGED, GLB_MGMT_STATUS.STAGING_FULL, RNG_POS.HEAD 0 0,
    RNG_POS.TAIL 0 0, RNG_STATUS.PHASE 0 0, RNG_STATUS.STATE 0 0, SLC_SELF_STATUS.DISCARDED 0, SLC_STATUS.STAGED 0])
  | .ringDisable _ _ _ => .of [.engines, .rings, .tags, .mgmt, .tiles, .power, .evq, .staged, .outbox] (jobShown
    ++ ringControl ++ [ENG_CNT.DISPLACED 0, GLB_MGMT_STATUS.STAGED, GLB_MGMT_STATUS.STAGING_FULL, RNG_POS.TAIL 0 0,
    RNG_STATUS.PHASE 0 0, RNG_STATUS.STATE 0 0, SLC_SELF_STATUS.DISCARDED 0, SLC_STATUS.STAGED 0])
  | .ringResume _ _ => .of [.tags, .mgmt, .power, .outbox] ([RNG_STATUS.STATE 0 0])
  | .cmdDoorbell _ _ _ => .of [.tags, .mgmt, .tim, .power, .now, .count, .replicas, .outbox, .freeCtr] (wakeShown
    ++ clocksShown ++ [PWR_STATUS.PL, PWR_STATUS.STATE, PWR_STATUS.VID_BUSY, PWR_STATUS.VID_CODE,
    PWR_WAKE_STATUS.WAKE_US, RNG_POS.TAIL 0 0])
  | .eventDoorbell _ _ _ => .of [.engines, .rings, .mgmt, .tim, .tiles, .power, .evq, .staged, .now, .count,
    .replicas, .outbox, .freeCtr] (jobShown ++ wakeShown ++ clocksShown ++ [ENG_CNT.DISPLACED 0,
    GLB_MGMT_STATUS.STAGED, GLB_MGMT_STATUS.STAGING_FULL, PWR_STATUS.PL, PWR_STATUS.STATE, PWR_STATUS.VID_BUSY,
    PWR_STATUS.VID_CODE, PWR_WAKE_STATUS.WAKE_US, RNG_POS.HEAD 0 0, RNG_POS.TAIL 0 0, RNG_STATUS.PHASE 0 0,
    RNG_STATUS.STATE 0 0, SLC_SELF_STATUS.DISCARDED 0, SLC_STATUS.STAGED 0])
  | .eventPost => .of [.ports, .engines, .rings, .mgmt, .tiles, .power, .evq, .staged, .outbox] (jobShown
    ++ [ENG_CNT.DISPLACED 0, GLB_MGMT_CNT.STAGE_DROPS, GLB_MGMT_STATUS.STAGED, GLB_MGMT_STATUS.STAGING_FULL,
    RNG_POS.TAIL 0 0, RNG_STATUS.PHASE 0 0, RNG_STATUS.STATE 0 0, SLC_SELF_STATUS.DISCARDED 0,
    SLC_SELF_STATUS.DROPPED 0, SLC_STATUS.STAGED 0])
  | .nop _ _ => .of [.rings, .tags, .mgmt, .power, .evq, .outbox] ([RNG_POS.HEAD 0 0])
  | .jobSubmit _ _ => .of [.engines, .rings, .tags, .mgmt, .power, .evq, .outbox] ([RNG_POS.HEAD 0 0])
  | .portStatus _ _ => .of [.ports, .rings, .tags, .mgmt, .power, .evq, .outbox] ([RNG_POS.HEAD 0 0])
  | .readReg _ _ => .of [.ports, .rings, .tags, .mgmt, .power, .evq, .outbox] (errorLog ++ [GLB_TILE_STATUS.LT 0,
    RNG_POS.HEAD 0 0, SB_STATUS.ALERT_PENDING])
  | .portRetrain _ _ => .of [.halves, .sides, .ports, .engines, .rings, .tags, .mgmt, .tiles, .power, .evq,
    .outbox] (errorLog ++ jobShown ++ txTaps ++ trainingShown ++ sparesShown ++ linkShown ++ calShown ++ alignShown
    ++ rateShown ++ partnerShown ++ [GLB_TILE_STATUS.LT 0, LCH_FOM.ADAPT_STATE 0, LCH_FOM.FOM 0,
    LCH_FOM.FOM_VALID 0, LCH_FOM.LOCK 0, LCH_LANE_FAULT.STATUS 0, LCH_SEG_FEC.FRAME_LOCK 0,
    LCH_SEG_FEC.SEG_POL_INV 0, PRT_SEG_STATUS.ATTEMPTS 0, PRT_SEG_STATUS.STATE 0, PRT_TRL_STATUS.STEER_STATE 0,
    PRT_TRL_STATUS.TX_EPOCH 0, PRT_TRL_STATUS.XMIT_STATE 0, PRT_TRN_STATUS.CXL 0, PRT_TRN_STATUS.EQ_SLOT 0,
    PRT_TRN_STATUS.L0P 0, PRT_TRN_STATUS.RETIMER_POS 0, RNG_POS.HEAD 0 0, SB_STATUS.ALERT_PENDING])
  | .fence _ _ => .of [.rings, .tags, .mgmt, .power, .evq, .outbox] ([RNG_POS.HEAD 0 0])
  | .mirrorPublish _ => .of [.ports, .evq] ([])
  | .timeFrameSend _ _ => .of [.sides, .tim] ([])
  | .timeFrameReceived _ _ _ => .of [.tim, .now, .count, .replicas, .freeCtr] (timeShown ++ [TIM_STATUS.CONFLICT,
    TIM_STATUS.HOLDOVER, TIM_STATUS.LOCKED, TIM_STATUS.QUALITY, TIM_STATUS.SLEWING, TIM_UNCERT.BOUND,
    TRC_SCHED_CTRL.LATE, TRC_SCHED_CTRL.LATE_CNT, TRC_SCHED_CTRL.NUMBER, TRC_SCHED_CTRL.PENDING])
  | .holdoverEntry => .of [.tim, .power, .now, .count, .replicas, .elapsed] ([TIM_STATUS.HOLDOVER,
    TIM_STATUS.LOCKED, TIM_STATUS.QUALITY, TIM_STATUS.SLEWING, TIM_UNCERT.BOUND])
  | .tpulseOut => .of [.tim, .power, .now, .count, .replicas, .elapsed, .outbox] ([TIM_STATUS.SLEWING,
    TIM_UNCERT.BOUND])
  | .tpulseEdge _ => .of [.tim, .now, .count, .replicas, .freeCtr] (timeShown ++ [TIM_STATUS.HOLDOVER,
    TIM_STATUS.LOCKED, TIM_STATUS.QUALITY, TIM_STATUS.SLEWING, TIM_UNCERT.BOUND])
  | .timSet _ => .of [.tim, .now, .count, .replicas] ([TIM_SET.TIME 0, TIM_STATUS.QUALITY, TIM_STATUS.SLEWING,
    TIM_UNCERT.BOUND])
  | .aonRatioMeasure _ => .of [.tim] ([CLK_AON_RATIO.RATIO])
  | .winnowItem _ _ _ _ _ _ => .of [.winnows, .windows, .tim, .tiles, .outbox, .freeCtr] (winnowShown
    ++ [SNP_STATUS.MISSED, TRC_DROPS.COUNT 0, TRC_WIN_DROPS.DROPS 0 0])
  | .traceDmaWrite _ => .of [.mgmt, .windows, .tim, .tiles, .outbox] ([TRC_WIN_DROPS.DROPS 0 0, TRC_WIN_POS.POS 0 0,
    TRC_WIN_STATUS.STATE 0 0])
  | .windowOpen _ _ => .of [.rings, .tags, .mgmt, .windows, .power, .evq, .outbox] (windowShown
    ++ [RNG_POS.HEAD 0 0, TRC_WIN_DROPS.DROPS 0 0, TRC_WIN_POS.POS 0 0, TRC_WIN_STATUS.STATE 0 0])
  | .windowClose _ _ => .of [.rings, .tags, .mgmt, .windows, .power, .evq, .outbox] ([RNG_POS.HEAD 0 0])
  | .windowCloseDone _ _ => .of [.rings, .windows, .power, .evq] (windowShown ++ [TRC_WIN_DROPS.DROPS 0 0,
    TRC_WIN_POS.POS 0 0, TRC_WIN_STATUS.STATE 0 0])
  | .windowResume _ _ => .of [] ([TRC_WIN_STATUS.STATE 0 0])
  | .winnowClaim _ _ => .of [.ports, .rings, .tags, .mgmt, .winnows, .power, .evq, .outbox] (winnowShown
    ++ [RNG_POS.HEAD 0 0])
  | .winnowRelease _ _ => .of [.ports, .rings, .tags, .mgmt, .winnows, .power, .evq, .outbox] (winnowShown
    ++ [RNG_POS.HEAD 0 0])
  | .winnowUnit _ _ => .of [.ports, .rings, .tags, .mgmt, .winnows, .power, .evq, .outbox] (winnowShown
    ++ [RNG_POS.HEAD 0 0])
  | .trigger _ _ => .of [.rings, .tags, .mgmt, .tim, .power, .evq, .outbox, .freeCtr] ([RNG_POS.HEAD 0 0,
    SNP_STATUS.MISSED])
  | .fire => .of [.tim, .outbox, .freeCtr] ([SNP_STATUS.MISSED])
  | .trigNEdge _ => .of [.tim] ([SNP_STATUS.MISSED])
  | .trigNRelease => .of [.tim, .power, .now, .count, .replicas, .elapsed, .outbox] ([TIM_STATUS.SLEWING,
    TIM_UNCERT.BOUND])
  | .trcSchedGo _ => .of [.tim] ([TRC_SCHED_CTRL.FLOOD, TRC_SCHED_CTRL.LATE, TRC_SCHED_CTRL.LATE_CNT,
    TRC_SCHED_CTRL.NUMBER, TRC_SCHED_CTRL.PENDING])
  | .scheduleFire => .of [.tim, .power, .now, .count, .replicas, .elapsed, .freeCtr] (wakeShown ++ clocksShown
    ++ [PWR_STATUS.PL, PWR_STATUS.STATE, PWR_STATUS.VID_BUSY, PWR_STATUS.VID_CODE, PWR_WAKE_STATUS.WAKE_US,
    SNP_STATUS.MISSED, TIM_STATUS.SLEWING, TIM_UNCERT.BOUND, TRC_SCHED_CTRL.PENDING])
  | .latch => .of [.mgmt, .windows, .tim, .snap, .power, .now, .count, .replicas, .elapsed,
    .outbox] ([SNP_STATUS.LATCH_ID, SNP_STATUS.SOURCES, SNP_STATUS.STATE, SNP_STATUS.TILES_LATCHED, SNP_TIME.TIME 0,
    TIM_STATUS.SLEWING, TIM_UNCERT.BOUND, TRC_WIN_DROPS.DROPS 0 0, TRC_WIN_POS.POS 0 0, TRC_WIN_STATUS.STATE 0 0])
  | .rearm => .of [] ([SNP_STATUS.STATE])
  | .autoRearmExpiry => .of [.tim, .power, .now, .count, .replicas, .elapsed] ([SNP_STATUS.STATE,
    TIM_STATUS.SLEWING, TIM_UNCERT.BOUND])
  | .refclkLost => .any [.halves, .sides, .ports, .bct, .engines, .rings, .tags, .imgOp, .txn, .mgmt, .winnows, .tim,
    .tiles, .power, .evq, .replicas, .outbox]
  | .refclkReturn => .of [] ([CLK_STATUS.REFCLK_OK])
  | .rootLock => .of [] (clocksShown)
  | .vidWaitExpiry => .of [.tim, .power, .now, .count, .replicas, .elapsed] ([PWR_STATUS.PL, PWR_STATUS.VID_BUSY,
    PWR_STATUS.VID_CODE, TIM_STATUS.SLEWING, TIM_UNCERT.BOUND])
  | .idleEntry => .of [.tim, .power, .now, .count, .replicas, .elapsed] ([PWR_STATUS.STATE, TIM_STATUS.SLEWING,
    TIM_UNCERT.BOUND])
  | .sleepEntry => .of [.tim, .power, .now, .count, .replicas, .elapsed, .outbox, .freeCtr] (clocksShown
    ++ [PWR_STATUS.STATE, PWR_STATUS.VID_BUSY, PWR_STATUS.VID_CODE, TIM_STATUS.SLEWING, TIM_UNCERT.BOUND])
  | .deepEntry _ => .of [.tim, .power, .now, .count, .replicas, .elapsed, .outbox] ([PWR_STATUS.STATE,
    PWR_STATUS.VID_CODE, TIM_STATUS.SLEWING, TIM_UNCERT.BOUND])
  | .offEntry => .of [.tim, .power, .now, .count, .replicas, .elapsed] ([PWR_STATUS.STATE, TIM_STATUS.SLEWING,
    TIM_UNCERT.BOUND])
  | .sbAddressMatch => .of [.tim, .power, .now, .count, .replicas, .freeCtr] (wakeShown ++ clocksShown
    ++ [PWR_STATUS.PL, PWR_STATUS.STATE, PWR_STATUS.VID_BUSY, PWR_STATUS.VID_CODE, PWR_WAKE_STATUS.WAKE_US,
    SB_CNT.MESSAGES])
  | .wakeIn => .any [.halves, .sides, .ports, .era, .bct, .calTab, .engines, .slices, .rings, .tags, .calStore,
    .storeWait, .lastStore, .chip, .lastWritten, .imgOp, .txn, .mgmt, .winnows, .windows, .tim, .snap, .tiles, .power,
    .evq, .staged, .now, .count, .replicas, .freeCtr]
  | .mgmtLinkWake => .of [.tim, .power, .now, .count, .replicas, .freeCtr] (wakeShown ++ clocksShown
    ++ [PWR_STATUS.PL, PWR_STATUS.STATE, PWR_STATUS.VID_BUSY, PWR_STATUS.VID_CODE, PWR_WAKE_STATUS.WAKE_US])
  | .parkPoll => .of [.tim, .power, .now, .count, .replicas, .elapsed, .freeCtr] (wakeShown ++ clocksShown
    ++ [GLB_TILE_STATUS.LT 0, PWR_STATUS.PL, PWR_STATUS.STATE, PWR_STATUS.VID_BUSY, PWR_STATUS.VID_CODE,
    PWR_WAKE_STATUS.WAKE_US, TIM_STATUS.SLEWING, TIM_UNCERT.BOUND])
  | .sleepWakeDone _ _ => .of [.tim, .power, .now, .count, .replicas, .elapsed] ([PWR_STATUS.STATE,
    PWR_WAKE_STATUS.WAKE_US, TIM_STATUS.QUALITY, TIM_STATUS.SLEWING, TIM_UNCERT.BOUND])
  | .deepWakeReloadDone _ _ _ _ => .any [.halves, .sides, .ports, .era, .bct, .calTab, .engines, .slices, .rings,
    .tags, .calStore, .storeWait, .lastStore, .chip, .lastWritten, .imgOp, .txn, .mgmt, .winnows, .windows, .tim,
    .snap, .tiles, .power, .evq, .staged, .now, .count, .replicas, .elapsed, .outbox]
  | .aonBrownout _ => .any [.halves, .sides, .ports, .era, .bct, .calTab, .engines, .slices, .rings, .tags, .calStore,
    .storeWait, .lastStore, .chip, .lastWritten, .imgOp, .txn, .mgmt, .winnows, .windows, .tim, .snap, .tiles, .power,
    .evq, .staged, .now, .count, .replicas]
  | .coldReset => .any [.halves, .sides, .ports, .era, .bct, .calTab, .engines, .slices, .rings, .tags, .calStore,
    .storeWait, .lastStore, .chip, .lastWritten, .imgOp, .txn, .mgmt, .winnows, .windows, .tim, .snap, .tiles, .power,
    .evq, .staged, .now, .count, .replicas]
  | .resetNAssert => .any [.halves, .sides, .ports, .era, .bct, .calTab, .engines, .slices, .rings, .tags, .calStore,
    .storeWait, .lastStore, .chip, .lastWritten, .imgOp, .txn, .mgmt, .winnows, .windows, .tim, .snap, .tiles, .power,
    .evq, .staged, .now, .count, .replicas]
  | .resetNDeassert => .of [.tim, .power, .now, .count, .replicas, .elapsed] ([TIM_STATUS.SLEWING,
    TIM_UNCERT.BOUND])
  | .supplyMonitor _ => .any [.halves, .sides, .ports, .era, .bct, .calTab, .engines, .slices, .rings, .tags,
    .calStore, .storeWait, .lastStore, .chip, .lastWritten, .imgOp, .txn, .mgmt, .winnows, .windows, .tim, .snap,
    .tiles, .power, .evq, .staged, .now, .count, .replicas]
  | .supplyRecovered => .of [.power] ([])
  | .rstDevice _ => .any [.halves, .sides, .ports, .era, .bct, .calTab, .engines, .slices, .rings, .tags, .calStore,
    .storeWait, .lastStore, .chip, .lastWritten, .imgOp, .txn, .mgmt, .winnows, .windows, .tim, .snap, .tiles, .power,
    .evq, .staged, .now, .count, .replicas, .freeCtr]
  | .rstPort _ => .of [.halves, .sides, .ports, .engines, .rings, .tim, .tiles, .power, .evq, .now, .count,
    .replicas, .freeCtr] (errorLog ++ jobShown ++ wakeShown ++ txTaps ++ trainingShown ++ sparesShown ++ linkShown
    ++ calShown ++ alignShown ++ clocksShown ++ rateShown ++ partnerShown ++ faultShown ++ rxShown ++ frameCounts
    ++ fomShown ++ [CAL_RX.APPLIED_TEMP 0, CAL_RX.HOLD 0, CAL_RX.VALID_POINTS 0, ENG_CNT.DISPLACED 0,
    LCH_DP_STATUS.EB_FILL 0, LCH_DP_STATUS.SKEW 0, LCH_FOM.ADAPT_STATE 0, LCH_FOM.BELOW_TARGET 0, LCH_FOM.FOM 0,
    LCH_FOM.FOM_VALID 0, LCH_FOM.LOCK 0, LCH_FOM.SIGDET 0, LCH_LANE_FAULT.STATUS 0, LCH_RX_EQ.CTLE 0,
    LCH_RX_EQ.TABLE_DEFAULT 0, LCH_RX_EQ.WARM 0, LCH_SEG_FEC.FRAME_LOCK 0, LCH_SEG_FEC.SEG_POL_INV 0,
    PRT_DP_STATUS.DESKEW_FAIL 0, PRT_DP_STATUS.EB_SLIP 0, PRT_DP_STATUS.EB_SLIP_CNT 0, PRT_SEG_CNT.REPLAYS 0,
    PRT_SEG_STATUS.ATTEMPTS 0, PRT_SEG_STATUS.CHAIN_TOO_LONG 0, PRT_SEG_STATUS.FLIT_DROP 0, PRT_SEG_STATUS.HOPS 0,
    PRT_SEG_STATUS.LAST_FAIL 0, PRT_SEG_STATUS.PARTNER_LOST 0, PRT_SEG_STATUS.REPLAY_FULL 0,
    PRT_SEG_STATUS.RETRY_EXHAUSTED 0, PRT_SEG_STATUS.STATE 0, PRT_SEG_STATUS.STUFF_HIGH 0, PRT_SKP_ADJ.ADD 0,
    PRT_SKP_ADJ.DEL 0, PRT_TRL_CNT.CANCEL_CNT 0, PRT_TRL_CNT.PROPOSE_CNT 0, PRT_TRL_CNT.REFUSE_CNT 0,
    PRT_TRL_STATUS.CANCELLED 0, PRT_TRL_STATUS.NO_SPARE 0, PRT_TRL_STATUS.PORT_FAULT 0, PRT_TRL_STATUS.REMAPPED 0,
    PRT_TRL_STATUS.STEER_STATE 0, PRT_TRL_STATUS.TX_EPOCH 0, PRT_TRL_STATUS.XMIT_STATE 0,
    PRT_TRN_EVENTS.EQ_BELOW_TARGET 0, PRT_TRN_EVENTS.EQ_REQ_REJECTED 0, PRT_TRN_EVENTS.LOOPBACK_REFUSED 0,
    PRT_TRN_EVENTS.NONFLIT_REFUSED 0, PRT_TRN_EVENTS.PARTNER_LOST_A 0, PRT_TRN_EVENTS.PARTNER_LOST_B 0,
    PRT_TRN_EVENTS.RATE_CHG_CNT 0, PRT_TRN_EVENTS.TRN_TIMEOUT 0, PRT_TRN_STATUS.CXL 0, PRT_TRN_STATUS.EQ_SLOT 0,
    PRT_TRN_STATUS.L0P 0, PRT_TRN_STATUS.NONFLIT_COUNT 0, PRT_TRN_STATUS.RETIMER_POS 0, PWR_STATUS.PL,
    PWR_STATUS.STATE, PWR_STATUS.VID_BUSY, PWR_STATUS.VID_CODE, PWR_WAKE_STATUS.WAKE_US, RST_CNT.PORT_RESETS,
    SB_STATUS.ALERT_PENDING])
  | .rstTile _ => .any [.halves, .sides, .ports, .bct, .engines, .rings, .tags, .imgOp, .txn, .mgmt, .winnows, .tim,
    .tiles, .power, .evq, .now, .count, .replicas, .outbox, .freeCtr]
  | .portResetDone _ => .of [.halves, .sides, .ports, .engines, .tiles, .evq] (errorLog ++ jobShown ++ txTaps
    ++ trainingShown ++ sparesShown ++ linkShown ++ calShown ++ alignShown ++ rateShown ++ partnerShown
    ++ [LCH_FOM.ADAPT_STATE 0, LCH_FOM.FOM 0, LCH_FOM.FOM_VALID 0, LCH_FOM.LOCK 0, LCH_LANE_FAULT.STATUS 0,
    LCH_SEG_FEC.FRAME_LOCK 0, LCH_SEG_FEC.SEG_POL_INV 0, PRT_SEG_STATUS.STATE 0, PRT_TRL_STATUS.STEER_STATE 0,
    PRT_TRL_STATUS.TX_EPOCH 0, PRT_TRL_STATUS.XMIT_STATE 0, PRT_TRN_STATUS.CXL 0, PRT_TRN_STATUS.EQ_SLOT 0,
    PRT_TRN_STATUS.L0P 0, PRT_TRN_STATUS.RETIMER_POS 0, SB_STATUS.ALERT_PENDING])
  | .tileResetDone _ => .any [.halves, .sides, .ports, .engines, .rings, .txn, .winnows, .tiles, .power, .evq,
    .replicas]
  | .thermtrip => .any [.halves, .sides, .ports, .bct, .engines, .rings, .tags, .imgOp, .txn, .mgmt, .winnows, .tim,
    .tiles, .power, .evq, .replicas, .outbox]
  | .sbRead _ _ _ => .of [.tim, .power, .now, .count, .replicas, .outbox, .freeCtr] (wakeShown ++ clocksShown
    ++ [PWR_STATUS.PL, PWR_STATUS.STATE, PWR_STATUS.VID_BUSY, PWR_STATUS.VID_CODE, PWR_WAKE_STATUS.WAKE_US,
    SB_CNT.ERRORS, SB_CNT.MESSAGES, SB_STATUS.LAST_STATUS, SB_STATUS.PEC_ERR])
  | .sbWrite _ _ _ => .any [.tim, .power, .now, .count, .replicas, .freeCtr]
  | .sbStatusRead => .of [.tim, .power, .now, .count, .replicas, .outbox, .freeCtr] (wakeShown ++ clocksShown
    ++ [PWR_STATUS.PL, PWR_STATUS.STATE, PWR_STATUS.VID_BUSY, PWR_STATUS.VID_CODE, PWR_WAKE_STATUS.WAKE_US,
    SB_CNT.MESSAGES])
  | .portMirror _ _ => .of [.tim, .power, .now, .count, .replicas, .outbox, .freeCtr] (wakeShown ++ clocksShown
    ++ [PWR_STATUS.PL, PWR_STATUS.STATE, PWR_STATUS.VID_BUSY, PWR_STATUS.VID_CODE, PWR_WAKE_STATUS.WAKE_US,
    SB_CNT.ERRORS, SB_CNT.MESSAGES, SB_STATUS.LAST_STATUS, SB_STATUS.PEC_ERR])
  | .identify => .of [.tim, .power, .now, .count, .replicas, .outbox, .freeCtr] (wakeShown ++ clocksShown
    ++ [PWR_STATUS.PL, PWR_STATUS.STATE, PWR_STATUS.VID_BUSY, PWR_STATUS.VID_CODE, PWR_WAKE_STATUS.WAKE_US,
    SB_CNT.MESSAGES])
  | .alertResponse _ => .of [.outbox] ([SB_STATUS.ALERT_PENDING])
  | .sbTimeout => .of [.power] ([SB_STATUS.TIMEOUT])
  | .replayMemoryError _ => .of [.halves, .sides, .ports, .engines, .tiles, .evq] (errorLog ++ jobShown ++ txTaps
    ++ trainingShown ++ sparesShown ++ linkShown ++ calShown ++ alignShown ++ rateShown ++ partnerShown
    ++ [LCH_FOM.ADAPT_STATE 0, LCH_FOM.FOM 0, LCH_FOM.FOM_VALID 0, LCH_FOM.LOCK 0, LCH_LANE_FAULT.STATUS 0,
    LCH_SEG_FEC.FRAME_LOCK 0, LCH_SEG_FEC.SEG_POL_INV 0, PRT_SEG_STATUS.STATE 0, PRT_TRL_STATUS.PORT_FAULT 0,
    PRT_TRL_STATUS.STEER_STATE 0, PRT_TRL_STATUS.TX_EPOCH 0, PRT_TRL_STATUS.XMIT_STATE 0, PRT_TRN_STATUS.CXL 0,
    PRT_TRN_STATUS.EQ_SLOT 0, PRT_TRN_STATUS.L0P 0, PRT_TRN_STATUS.RETIMER_POS 0, SB_STATUS.ALERT_PENDING])
  | .internalEccError _ => .of [.mgmt, .outbox] ([])
  | .managementLinkError _ => .of [.mgmt, .outbox] ([])
  | .configurationWrite _ _ => .of [.tags, .mgmt, .outbox] ([])
  | .alwaysOnTimerWake => .of [.tim, .power, .now, .count, .replicas, .elapsed, .freeCtr] (wakeShown ++ clocksShown
    ++ [GLB_TILE_STATUS.LT 0, PWR_STATUS.PL, PWR_STATUS.STATE, PWR_STATUS.VID_BUSY, PWR_STATUS.VID_CODE,
    PWR_WAKE_STATUS.WAKE_US, TIM_STATUS.SLEWING, TIM_UNCERT.BOUND])
  | .alwaysOnResetRelease _ => .of [.power] ([PWR_STATUS.VID_CODE, SB_STATUS.ADDRESS])

end Sys2Proof.Machine
end

