-- ==== Sys2Proof/Certificates/Slice0/Obligations.lean ====
section
/-! DEFINITION. The statements for the provers. Each names the commands, the rules of the spec it rests on and the
entries of the assumption log of the choices it rests on. -/

set_option Elab.async false

open Sys2Proof Sys2Proof.Machine

/-! ## The machine as a whole -/

/-- A step takes the command at the front of the queue and runs it on the state with the rest of the queue (rests on
00_scope.md, 95_what_each_step_holds.md). Choices of the model it rests on: log entry 1. -/
def Obligations.StepRunsTheFrontCommand : Prop :=
  (∀ (s : State) (c : Instr) (rest : List Instr), s.pending = c :: rest → step s = exec c { s with pending := rest })

/-- On an empty queue one TCLK period of 10 ns passes (the model's choice, log entry 1); what passing time does to the
counters (00_scope.md). -/
def Obligations.EmptyQueueLetsTimePass : Prop :=
  (∀ (s : State), s.pending = [] → step s = .next (s.advance (10 * nsUnit))) ∧
  -- what passing time does: it counts up elapsed time, and Fabric Time, which stands while nothing counts it, goes back at its wrap alone
  (∀ (s : State) (d : Nat),
    (s.advance d).elapsed = s.elapsed + d ∧ (s.now + s.fabricOf d < timeSpan → s.now ≤ (s.advance d).now) ∧ (s.timeRuns = false → (s.advance d).now = s.now % timeSpan) ∧ (s.advance d).pending = s.pending ∧ (s.advance d).halves = s.halves) ∧
  -- at an edge of TCLK while time counts, the central counter and the replica of every Lane Tile that is ON read Fabric Time (R353, R473)
  (∀ (s : State) (d k : Nat), s.timeRuns = true → k < 8 → s.rd (GLB_TILE_STATUS.LT k) = 2 →
    (s.elapsed + d) % tclk = 0 → (s.advance d).count = (s.advance d).now ∧ (s.advance d).replica k = (s.advance d).now)

/-- In the reset state every register field holds its Cold value, Fabric Time is 0 and INVALID, nothing is pending and
boot is due (log entries 4 and 5) (00_scope.md, 14_resets_and_persistence.md). -/
def Obligations.ResetStateIsCold : Prop :=
  (∀ (c : Cell), State.reset.rd c = c.cold) ∧
  (
    State.reset.now = 0 ∧ State.reset.quality = qINVALID ∧ State.reset.pending = [] ∧ State.reset.power.inReset = true ∧ State.reset.power.bootDue = true ∧ State.reset.txnState = xIDLE ∧ State.reset.era = 1 ∧ (∀ i : TileId, State.reset.tileState i = 0) ∧ (∀ p : PortId, State.reset.enabled p = false) ∧ (∀ k : SliceId, State.reset.sliceState k = slFREE))

/-- In the reset state every table is in canonical form, and no register is listed at its Cold value or beyond the
width of its field (rests on 00_scope.md). Choices of the model it rests on: log entries 5, 74. -/
def Obligations.ResetTablesAreCanonical : Prop :=
  ( State.reset.wf)

/-- Every step keeps every table in canonical form, with no register listed at its Cold value or beyond the width of
its field (rests on 00_scope.md). Choices of the model it rests on: log entries 1, 74. -/
def Obligations.StepKeepsTablesCanonical : Prop :=
  (∀ (s t : State), s.wf → step s = .next t → t.wf)

/-- Every command ends in a next state: none faults and none is refused, whatever the state (rests on 00_scope.md,
10_management_endpoint.md). Choices of the model it rests on: log entry 3. -/
def Obligations.EveryCommandIsTaken : Prop :=
  (∀ (c : Instr) (s : State), ∃ t, exec c s = .next t)

/-- No command touches the queue, takes back what was sent, turns time back, or undoes a blown step or a revoked key
(rests on R256, R259). Choices of the model it rests on: log entry 9. -/
def Obligations.CommandsTakeNothingBack : Prop :=
  (∀ (c : Instr) (s t : State), exec c s = .next t → Follows s t)

/-- Every command leaves unchanged every part of the state and every register field outside its footprint (rests on
00_scope.md, 10_management_endpoint.md). -/
def Obligations.CommandsKeepTheRest : Prop :=
  (∀ (c : Instr) (s t : State), exec c s = .next t → Kept (Foot.ofCommand c) s t)

/-- The fields of every register lie apart within 32 bits, and a stored word gives each field what its access kind
says (rests on R3, R4, R7, R8, R9). Choices of the model it rests on: log entry 74. -/
def Obligations.RegisterFieldsAreApart : Prop :=
  (∀ (x : Nat) (f : Field), f ∈ fieldsAt x →
    f.cell.off = x ∧ 0 < f.cell.width ∧ f.cell.lo + f.cell.width ≤ 32 ∧ f.cell.cold < 2 ^ f.cell.width) ∧
  (∀ (x : Nat),
    (fieldsAt x).Pairwise (fun f g => f.cell.lo + f.cell.width ≤ g.cell.lo ∨ g.cell.lo + g.cell.width ≤ f.cell.lo)) ∧
  -- an RW or RWS field takes its own bits of the word, held to its range
  (∀ (s : State) (x w : Nat) (f : Field), f ∈ fieldsAt x → f.acc = .rw ∨ f.acc = .rws →
    (s.storeWord (fieldsAt x) w).rd f.cell = f.fix.apply (s.rd f.cell) (bitsOf w f.cell.lo f.cell.width) % 2 ^ f.cell.width) ∧
  -- an RW1C or RW1CS field loses the bits written as 1
  (∀ (s : State) (x w : Nat) (f : Field), f ∈ fieldsAt x → f.acc = .rw1c ∨ f.acc = .rw1cs →
    (s.storeWord (fieldsAt x) w).rd f.cell = (s.rd f.cell - (s.rd f.cell &&& bitsOf w f.cell.lo f.cell.width)) % 2 ^ f.cell.width) ∧
  -- a field of another kind keeps its value
  (∀ (s : State) (x w : Nat) (f : Field), f ∈ fieldsAt x →
    f.acc ≠ .rw ∧ f.acc ≠ .rws ∧ f.acc ≠ .rw1c ∧ f.acc ≠ .rw1cs → (s.storeWord (fieldsAt x) w).rd f.cell = s.rd f.cell) ∧
  -- and every field at another offset keeps its value
  (∀ (s : State) (x w : Nat) (c : Cell), c.off ≠ x → c.lo < 32 → (s.storeWord (fieldsAt x) w).rd c = s.rd c) ∧
  -- a field reads within its width, and so it does after every step
  (∀ (s t : State) (x : Nat) (f : Field), s.wf → f ∈ fieldsAt x → step s = .next t →
    s.rd f.cell < 2 ^ f.cell.width ∧ t.rd f.cell < 2 ^ f.cell.width)

/-- What the line code does is undone: scrambling, levels, stuff symbols, headers and whole frames; runs are at most
12 (rests on R37, R122, R128, R129). -/
def Obligations.LineCodeRoundTrips : Prop :=
  (∀ (seed : Nat) (bs : List Bool), scramble seed (scramble seed bs) = bs) ∧
  (∀ (bs : List Bool), bs.length % 2 = 0 → (pamMap bs).flatMap pamBits = bs) ∧
  (∀ (r : Run) (ls : List Int), r.len < 12 → destuff r (stuff r ls).1 = (ls, (stuff r ls).2.1, 0)) ∧
  -- no level stands more than 12 times in a row on the line
  (∀ (r : Run) (ls : List Int), r.len < 12 → (stuff r ls).2.1.len < 12) ∧
  -- the run of equal levels after any part of the line is at most 12 long
  (∀ (r : Run) (ls : List Int) (n : Nat), r.len < 12 → (((stuff r ls).1.take n).foldl Run.next r).len ≤ 12) ∧
  (∀ (h : Header), h.row < 4096 → h.type < 16 → h.lane < 32 → h.epoch < 256 → h.ack < 4096 → h.credit < 256 →
    Header.decode h.encode = h) ∧
  -- a frame that arrives as it was sent gives back its header and its payload, with no symbol corrected
  (∀ (h : Header) (payload : List Byte) (seed : Nat), Header.decode h.encode = h → payload.length = 256 →
    decodeFrame (pamMap (scramble seed (frameBits h payload))) seed = some (h, payload, 0))

/-- The c0 that a transmitter uses is 63 less the sum of the other four magnitudes, at most 21, in the reset state and
after every step (R42). It formalises: "The main coefficient is always derived from the other four:" -/
def Obligations.MainCoefficientIsDerived : Prop :=
  -- after every step, where it is so of all transmitters before
  (∀ (s t : State) (h : Nat), ∀ k, (s.half k).txCoef.derived → step s = .next t →
    (t.half h).txCoef.c0 = 63 - (|(t.half h).txCoef.cm2| + |(t.half h).txCoef.cm1| + |(t.half h).txCoef.cp1| + |(t.half h).txCoef.cp2|) ∧ |(t.half h).txCoef.cm2| + |(t.half h).txCoef.cm1| + |(t.half h).txCoef.cp1| + |(t.half h).txCoef.cp2| ≤ 21) ∧
  -- in the reset state
  (∀ (h : Nat), (State.reset.half h).txCoef.derived) ∧
  -- four requested taps
  (∀ (a b c d : Int), (fitTaps a b c d).derived) ∧
  -- taps within their ranges that add up to at most 21 are kept
  (∀ (a b c d : Int), |a| ≤ 7 ∧ |b| ≤ 21 ∧ |c| ≤ 21 ∧ |d| ≤ 7 → |a| + |b| + |c| + |d| ≤ 21 →
    fitTaps a b c d = { cm2 := a, cm1 := b, c0 := 63 - (|a| + |b| + |c| + |d|), cp1 := c, cp2 := d }) ∧
  -- taps within their ranges that add up to more lose the excess in the order c+2, c-2, c+1, c-1 (R43)
  (∀ (a b c d e : Int), |a| ≤ 7 ∧ |b| ≤ 21 ∧ |c| ≤ 21 ∧ |d| ≤ 7 → |a| + |b| + |c| + |d| = 21 + e → 0 ≤ e →
    |(fitTaps a b c d).cp2| = max 0 (|d| - e) ∧ |(fitTaps a b c d).cm2| = max 0 (|a| - max 0 (e - |d|)) ∧ |(fitTaps a b c d).cp1| = max 0 (|c| - max 0 (e - |d| - |a|)) ∧ |(fitTaps a b c d).cm1| = |b| - max 0 (e - |d| - |a| - |c|) ∧ 0 ≤ a * (fitTaps a b c d).cm2 ∧ 0 ≤ b * (fitTaps a b c d).cm1 ∧ 0 ≤ c * (fitTaps a b c d).cp1 ∧ 0 ≤ d * (fitTaps a b c d).cp2) ∧
  -- a tap beyond its range is taken at its end
  (∀ (a b c d : Int),
    fitTaps a b c d = fitTaps (max (-7) (min 7 a)) (max (-21) (min 21 b)) (max (-21) (min 21 c)) (max (-7) (min 7 d))) ∧
  -- a preset of the standard, whatever its taps
  (∀ (slot n : Nat), (presetCoef slot n).derived) ∧
  -- an entry of the board channel table
  (∀ (deEmph : Bool) (e slot : Nat), (entryCoef deEmph e slot).derived) ∧
  -- coefficients that the partner asks for: taken only as they satisfy the sum, else the transmitter keeps its own
  (∀ (s : State) (p h cm1 c0 cp1 : Nat),
    ((s.eqRequest p h (.coef cm1 c0 cp1)).half h).txCoef = (s.half h).txCoef ∨ (((s.eqRequest p h (.coef cm1 c0 cp1)).half h).txCoef = { cm2 := 0, cm1 := -(cm1 : Int), c0 := 63 - ((cm1 : Int) + cp1), cp1 := -(cp1 : Int), cp2 := 0 } ∧ cm1 + cp1 ≤ 21))

/-- COLD_RESET, AON_BROWNOUT: a Cold reset and an AON brown-out reset leave every register at its Cold value, but for
RST_STATUS and the brown-out latch (rests on R413, R414, R423, R424, R438). Choices of the model it rests on: log
entry 5. -/
def Obligations.ColdResetsRestoreColdValues : Prop :=
  -- COLD_RESET: the latch is clear with the rest
  (∀ (s : State), ∃ t, exec (.coldReset) s = .next t ∧ (∀ c : Cell, t.rd c = c.cold) ∧ t.rd RST_STATUS.REASON = 0 ∧
    t.rd PWR_AON_STATUS.BOR = 0 ∧ t.rd PWR_AON_STATUS.LOAD = 0 ∧ t.rd PWR_AON_STATUS.SUPPLY = 0 ∧
    t.power.sealed = false ∧ t.power.timerAt = none ∧ t.era = 1 ∧ t.now = 0 ∧ t.quality = qINVALID ∧
    t.fuses = s.fuses ∧ t.flash = s.flash ∧
    t.power.inReset = true ∧ t.power.aonReset = true ∧ t.power.bootDue = false ∧
    t.evq = [] ∧ t.staged = [] ∧ t.slices = {} ∧ t.rings = {} ∧ t.tags = {}) ∧
  -- AON_BROWNOUT: the latch and THERMTRIP_SEEN outlive the reset
  (∀ (s : State) (cause : BrownoutCause), ∃ t, exec (.aonBrownout cause) s = .next t ∧
    (∀ c : Cell, c.lo < 32 → c.off ≠ PWR_AON_STATUS.off → c.off ≠ RST_STATUS.off → t.rd c = c.cold) ∧
    t.rd RST_STATUS.REASON = 6 ∧ t.rd RST_STATUS.THERMTRIP_SEEN = s.rd RST_STATUS.THERMTRIP_SEEN ∧
    t.rd PWR_AON_STATUS.BOR = 1 ∧
    t.rd (match cause with | .load => PWR_AON_STATUS.LOAD | .supply => PWR_AON_STATUS.SUPPLY) = 1 ∧
    t.rd RST_STATUS.PIN_CNT = 0 ∧ t.rd RST_STATUS.BOOT_DONE = 0 ∧
    t.power.sealed = false ∧ t.power.timerAt = none ∧ t.era = 1 ∧ t.power.aonReset = true)

/-- ABANDONED, RWT_WRITE, REGISTER_WRITE: a transaction in OPEN that nothing was written to for 100 ms is rolled back
with ABANDONED (rests on R267, R276). Choices of the model it rests on: log entries 2, 3. -/
def Obligations.AbandonedTransactionRollsBack : Prop :=
  -- ABANDONED in OPEN, 100 ms after the last write
  (∀ (s : State), s.txnState = xOPEN → ∃ t, exec (.abandoned) s = .next t ∧ t.txnState = xIDLE ∧
    t.rd TXN_STATUS.LAST_RESULT = 4 ∧ t.rd TXN_STATUS.REASON = 0xD ∧ t.txn = {} ∧
    s.txn.touched + 100000 * usUnit ≤ t.elapsed) ∧
  -- ABANDONED: outside OPEN nothing is abandoned
  (∀ (s : State), s.txnState ≠ xOPEN → exec (.abandoned) s = .next (s)) ∧
  -- RWT_WRITE: a covered write starts the 100 ms again
  (∀ (s : State) (p : PortId) (v : Nat), s.hosted = true → s.txnState = xOPEN → s.inScope p = true →
    ∃ t, exec (.rwtWrite (PRT_MODE.off p) v) s = .next t ∧ t.txn.touched = s.elapsed) ∧
  -- REGISTER_WRITE: so does a write to a TXN_ register
  (∀ (s : State) (data : Nat), s.mgmtUp = true → s.mgmt.d3hot = false → s.bit IMG_STATUS.RECOVERY = false →
    ∃ t, exec (.registerWrite .bar0 TXN_STATUS.off 0xF0 data) s = .next t ∧ t.txn.touched = s.elapsed)

/-! ## Register access -/

/-- REGISTER_WRITE, FENCED_TILE_ACCESS, TILE_ACCESS_COMPLETE: register writes by access kind, and accesses to Lane
Tiles that are OFF, waking or FENCED (rests on R4, R27, R28, R30, R286, R289, R447). Choices of the model it rests on:
log entries 3, 57, 59. -/
def Obligations.RegisterWritesStoreFields : Prop :=
  -- REGISTER_WRITE of an RW field: SNP_CTRL
  (∀ (s : State) (data : Nat), s.mgmtUp = true → s.mgmt.d3hot = false → s.bit IMG_STATUS.RECOVERY = false →
    ∃ t, exec (.registerWrite .bar0 0xFF000 0x0F data) s = .next t ∧ t.rd SNP_CTRL.AUTO_REARM = data % 2 ^ 16 ∧
    t.evq = s.evq) ∧
  -- REGISTER_WRITE of an RW1CS field: ERR_DP_STATUS
  (∀ (s : State) (data : Nat), s.mgmtUp = true → s.mgmt.d3hot = false → s.bit IMG_STATUS.RECOVERY = false →
    s.rd ERR_DP_STATUS.CODES < 2 ^ 18 → ∃ t, exec (.registerWrite .bar0 0x7000 0x0F data) s = .next t ∧
    t.rd ERR_DP_STATUS.CODES = s.rd ERR_DP_STATUS.CODES - (s.rd ERR_DP_STATUS.CODES &&& bitsOf data 1 18)) ∧
  -- REGISTER_WRITE of read-only fields alone: GLB_REVISION keeps its value
  (∀ (s : State) (data : Nat), s.mgmtUp = true → s.mgmt.d3hot = false →
    exec (.registerWrite .bar0 0x0 0x0F data) s = .next (s)) ∧
  -- REGISTER_WRITE of some bytes of a register outside the MSI-X ranges: discarded, with BAD_ACCESS
  (∀ (s : State) (bar : Bar) (addr data : Nat), s.mgmtUp = true → s.mgmt.d3hot = false →
    bar = .bar2 ∨ addr % bar2Base < 0xF00000 → exec (.registerWrite bar addr 0x07 data) s = .next
    (s.on GLB_MGMT_STATUS.BAD_ACCESS)) ∧
  -- REGISTER_WRITE of a register of a Lane Tile that is OFF: the tile wakes, and the write waits
  (∀ (s : State) (data : Nat) (n : Fin 256), s.mgmtUp = true → s.mgmt.d3hot = false →
    s.bit IMG_STATUS.RECOVERY = false → s.powerState ≠ 1 → s.resetsHeld = false → s.tileState (n.val / 32) = 0 →
    ∃ t, exec (.registerWrite .bar0 (0x200010 + 0x100 * n.val) 0x0F data) s = .next t ∧ t.tileState (n.val / 32) = 1 ∧
    (t.tile (n.val / 32)).accesses = (s.tile (n.val / 32)).accesses ++ [⟨true, 0x200010 + 0x100 * n.val, data % 2 ^ 32⟩] ∧
    t.rd (LCH_EQ_CTRL.FREEZE (2 * n)) = s.rd (LCH_EQ_CTRL.FREEZE (2 * n))) ∧
  -- FENCED_TILE_ACCESS, a read: it returns 0, with FENCED_ACCESS
  (∀ (s : State) (x t' v : Nat), s.hosted = true → s.holder x = some t' → s.tileState t' = 4 →
    ∃ t, exec (.fencedTileAccess false x v) s = .next t ∧ t.outbox = .readDone x 0 :: s.outbox ∧
    bitAt (t.rd ERR_DP_STATUS.CODES) 13 = true) ∧
  -- FENCED_TILE_ACCESS, a write: it changes nothing that the tile holds
  (∀ (s : State) (x t' v : Nat), s.hosted = true → s.holder x = some t' → s.tileState t' = 4 → keptReg x = false →
    ∃ t, exec (.fencedTileAccess true x v) s = .next t ∧ (∀ c : Cell, c.off = x → c.lo < 32 → t.rd c = s.rd c) ∧
    t.halves = s.halves ∧ t.sides = s.sides ∧ t.ports = s.ports ∧ t.engines = s.engines ∧ t.tiles = s.tiles ∧
    t.outbox = s.outbox ∧ bitAt (t.rd ERR_DP_STATUS.CODES) 13 = true) ∧
  -- TILE_ACCESS_COMPLETE of a read that waited, in a tile that is ON
  (∀ (s : State) (i : TileId) (x : Nat), s.tileState i = 2 → (s.tile i).accesses = [⟨false, x, 0⟩] → s.rings = {} →
    ∃ t, exec (.tileAccessComplete i) s = .next t ∧ t.outbox = .readDone x (s.valueAt x) :: s.outbox ∧
    (t.tile i).accesses = [] ∧ t.regs = s.regs)

/-! ## Receivers (02) -/

/-- SIGNAL_DETECT_RISE, SIGNAL_DETECT_FALL, LOCK_RISE, LOCK_FALL, ACQUIRE_START, ACQUIRE_TIMEOUT, CONVERGE_TIMEOUT:
what each does where its clause says (rests on R32, R40, R41, R53, R57, R59, R63, R73, R474). Choices of the model it
rests on: log entries 2, 3, 10, 23, 28, 139. -/
def Obligations.ReceiversDetectLockAndAdapt : Prop :=
  -- SIGNAL_DETECT_RISE on a receiver in use
  (∀ (s : State) (h : HalfId) (q : Nat), s.claim h = some q → s.live h = true → s.bit (LCH_FOM.SIGDET h) = false →
    ∃ t, exec (.signalDetectRise h) s = .next t ∧ t.rd (LCH_FOM.SIGDET h) = 1) ∧
  -- SIGNAL_DETECT_FALL, on either kind of side; a Port in LOOPBACK may go on to DETECT
  (∀ (s : State) (h : HalfId) (q : Nat), s.bit (LCH_FOM.SIGDET h) = true → s.claim h = some q →
    s.trn (q / 2) ≠ tLOOPBACK → ∃ t, exec (.signalDetectFall h) s = .next t ∧ t.rd (LCH_FOM.SIGDET h) = 0 ∧
    t.rd (LCH_FOM.LOCK h) = 0 ∧ t.rd (LCH_FOM.ADAPT_STATE h) = 0 ∧ t.rd (LCH_FOM.FOM_VALID h) = 0 ∧
    t.rd (LCH_FOM.FOM h) = 0 ∧ t.rd (LCH_DP_STATUS.ALIGN_STATE h) = 0 ∧ t.rd (LCH_SEG_FEC.FRAME_LOCK h) = 0) ∧
  -- LOCK_RISE in ACQUIRE: to FROZEN under FREEZE, else to TRACK on a warm start and to CONVERGE on a cold one
  (∀ (s : State) (h : HalfId) (rx : RxCoef), s.live h = true → s.bit (LCH_FOM.SIGDET h) = true →
    s.bit (LCH_FOM.LOCK h) = false → s.rd (LCH_FOM.ADAPT_STATE h) = 1 → s.engineUp h = true →
    ∃ t, exec (.lockRise h rx) s = .next t ∧ t.rd (LCH_FOM.LOCK h) = 1 ∧
    t.rd (LCH_FOM.ADAPT_STATE h) = (if s.bit (LCH_EQ_CTRL.FREEZE h) then 5 else if s.bit (LCH_RX_EQ.WARM h) then 4 else 2)) ∧
  -- LOCK_FALL
  (∀ (s : State) (h : HalfId), s.bit (LCH_FOM.LOCK h) = true → ∃ t, exec (.lockFall h) s = .next t ∧
    t.rd (LCH_FOM.LOCK h) = 0 ∧ t.rd (LCH_SEG_FEC.FRAME_LOCK h) = 0 ∧ t.rd (LCH_DP_STATUS.ALIGN_STATE h) = 0 ∧
    t.rd (LCH_FOM.ADAPT_STATE h) = s.rd (LCH_FOM.ADAPT_STATE h)) ∧
  -- ACQUIRE_START of a receiver that has no converged state to start from warm
  (∀ (s : State) (h : HalfId) (q : Nat), s.claim h = some q → s.isSeg q = false → s.live h = true →
    s.rd (LCH_FOM.ADAPT_STATE h) = 0 → (s.half h).wantRx = true → s.bit (LCH_FOM.SIGDET h) = true →
    s.engineUp h = true → (s.half h).conv = none → ∃ t, exec (.acquireStart h) s = .next t ∧
    t.rd (LCH_FOM.ADAPT_STATE h) = 1 ∧ t.rd (LCH_FOM.FOM_VALID h) = 0 ∧ t.rd (LCH_FOM.FOM h) = 0 ∧
    t.rd (LCH_RX_EQ.WARM h) = 0 ∧
    (t.half h).swing = (if 8 < s.rd (LCH_FOM.RATE_SLOT h) then (s.half h).swing else entrySwing (s.entry h (s.rd (LCH_FOM.RATE_SLOT h))))) ∧
  -- ACQUIRE_TIMEOUT
  (∀ (s : State) (h : HalfId), s.rd (LCH_FOM.ADAPT_STATE h) = 1 → s.engineUp h = true →
    ∃ t, exec (.acquireTimeout h) s = .next t ∧ t.rd (LCH_FOM.ADAPT_STATE h) = 0 ∧ t.rd (LCH_FOM.LOCK h) = 0 ∧
    (t.half h).warmLeft = (s.half h).warmLeft - 1) ∧
  -- CONVERGE_TIMEOUT: while its engine is stopped the receiver holds its coefficients and does not leave CONVERGE
  (∀ (s : State) (h : HalfId), s.rd (LCH_FOM.ADAPT_STATE h) = 2 → s.engineUp h = false →
    exec (.convergeTimeout h) s = .next (s))

/-- A receiver that leaves CONVERGE at its time limit below target sets BELOW_TARGET and enters TRIM or TRACK (R56).
It formalises: "A receiver that leaves CONVERGE after 1 ms without having reached its FoM target enters TRIM or TRACK
all the same, and `BELOW_TARGET` is set." -/
def Obligations.ConvergeTimeoutLeavesConverge : Prop :=
  -- CONVERGE_TIMEOUT
  (∀ (s : State) (h : HalfId), s.rd (LCH_FOM.ADAPT_STATE h) = 2 →
    (s.bit (LCH_FOM.FOM_VALID h) && decide (s.fomTarget h ≤ s.rd (LCH_FOM.FOM h))) = false → s.engineUp h = true →
    ∃ t, exec (.convergeTimeout h) s = .next t ∧ t.rd (LCH_FOM.BELOW_TARGET h) = 1 ∧
    t.rd (LCH_FOM.ADAPT_STATE h) = (if s.mayTrim h then 3 else 4))

/-- FOM_WINDOW_END, FREEZE_WRITE, FOM_MIN_CLR: the end of an FoM window, and the writes of LCH_EQ_CTRL (rests on R28,
R57, R58, R62, R63, R66). Choices of the model it rests on: log entries 10, 24, 74, 84, 85, 86. -/
def Obligations.WindowsPublishTheFigureOfMerit : Prop :=
  -- FOM_WINDOW_END
  (∀ (s : State) (h : HalfId) (q pwr noise : Nat) (rx : RxCoef), s.claim h = some q → s.isSeg q = false →
    s.live h = true → s.rd (LCH_FOM.ADAPT_STATE h) = 2 → s.engineUp h = true → (s.half h).held = false →
    (s.half h).discard = false → ∃ t, exec (.fomWindowEnd h pwr noise rx) s = .next t ∧
    t.rd (LCH_FOM.FOM h) = fomOf pwr noise ∧ t.rd (LCH_FOM.FOM_VALID h) = 1 ∧
    t.rd (LCH_FOM.FOM_MIN h) = min (fomOf pwr noise) (s.rd (LCH_FOM.FOM_MIN h))) ∧
  -- FOM_WINDOW_END: a window in which an Apply Point fell publishes nothing
  (∀ (s : State) (h : HalfId) (pwr noise : Nat) (rx : RxCoef), s.live h = true → s.rd (LCH_FOM.ADAPT_STATE h) = 4 →
    s.engineUp h = true → (s.half h).held = false → (s.half h).discard = true →
    ∃ t, exec (.fomWindowEnd h pwr noise rx) s = .next t ∧ t.rd (LCH_FOM.FOM h) = s.rd (LCH_FOM.FOM h) ∧
    t.rd (LCH_FOM.FOM_MIN h) = s.rd (LCH_FOM.FOM_MIN h) ∧ (t.half h).discard = false) ∧
  -- FREEZE_WRITE
  (∀ (s : State) (h : HalfId) (v : Bool), s.hosted = true → s.tileState (tileOfHalf h) = 2 →
    (s.tile (tileOfHalf h)).accesses = [] → ∃ t, exec (.freezeWrite h v) s = .next t ∧
    t.rd (LCH_EQ_CTRL.FREEZE h) = ofBool v ∧
    t.rd (LCH_EQ_CTRL.CTLE_TRIM_OFF h) = s.rd (LCH_EQ_CTRL.CTLE_TRIM_OFF h) % 2 ∧
    t.rd (LCH_FOM.FOM_MIN h) = s.rd (LCH_FOM.FOM_MIN h)) ∧
  -- FOM_MIN_CLR
  (∀ (s : State) (h : HalfId), s.hosted = true → s.tileState (tileOfHalf h) = 2 →
    (s.tile (tileOfHalf h)).accesses = [] → ∃ t, exec (.fomMinClr h) s = .next t ∧ t.rd (LCH_FOM.FOM_MIN h) = 255 ∧
    t.rd (LCH_EQ_CTRL.FREEZE h) = s.rd (LCH_EQ_CTRL.FREEZE h) % 2)

/-! ## Datapath (03) -/

/-- ALIGNMENT_GAINED, ALIGNMENT_LOST, DATA_STREAM_START, DATA_STREAM_END: alignment of a Standard Side receiver as
alignment and data streams come and go (rests on R73, R74, R82, R100, R114). Choices of the model it rests on: log
entries 2, 31, 32, 90, 147. -/
def Obligations.AlignmentFollowsTheStream : Prop :=
  -- ALIGNMENT_GAINED in SEARCH
  (∀ (s : State) (h : HalfId) (q skew : Nat), s.claim h = some q → s.isSeg q = false → s.bit (LCH_FOM.LOCK h) = true →
    s.rd (LCH_DP_STATUS.ALIGN_STATE h) = 1 → ∃ t, exec (.alignmentGained h skew) s = .next t ∧
    t.rd (LCH_DP_STATUS.ALIGN_STATE h) = 2) ∧
  -- ALIGNMENT_LOST in ALIGNED or DATA
  (∀ (s : State) (h : HalfId) (q : Nat), s.claim h = some q → s.isSeg q = false →
    2 ≤ s.rd (LCH_DP_STATUS.ALIGN_STATE h) → ∃ t, exec (.alignmentLost h) s = .next t ∧
    t.rd (LCH_DP_STATUS.ALIGN_STATE h) = 1) ∧
  -- DATA_STREAM_START with Flit Mode, on any Standard Side
  (∀ (s : State) (h : HalfId) (q : Nat), s.claim h = some q → s.isSeg q = false →
    s.rd (LCH_DP_STATUS.ALIGN_STATE h) = 2 → ∃ t, exec (.dataStreamStart h true) s = .next t ∧
    t.rd (LCH_DP_STATUS.ALIGN_STATE h) = 3 ∧ t.rd (PRT_TRN_STATUS.NONFLIT_COUNT (q / 2)) = 0) ∧
  -- DATA_STREAM_START on a Port with two Standard Sides in FORWARD, whose other direction carries a stream: ACTIVE
  (∀ (s : State) (h : HalfId) (q : Nat) (flit : Bool), s.claim h = some q → s.isTT (q / 2) = true →
    s.rd (LCH_DP_STATUS.ALIGN_STATE h) = 2 → s.trn (q / 2) = tFORWARD → s.logical h < s.negWidth q →
    (if q % 2 = 0 then (s.portx (q / 2)).streamB else (s.portx (q / 2)).streamA) = true →
    ∃ t, exec (.dataStreamStart h flit) s = .next t ∧ t.rd (PRT_TRN_STATUS.STATE (q / 2)) = tACTIVE ∧
    t.rd (PRT_DP_STATUS.FLIT (q / 2)) = ofBool flit) ∧
  -- DATA_STREAM_START without Flit Mode on a geared path is refused
  (∀ (s : State) (h : HalfId) (q : Nat), s.claim h = some q → s.isSeg q = false → s.isGeared (q / 2) = true →
    s.rd (LCH_DP_STATUS.ALIGN_STATE h) = 2 → s.trn (q / 2) = tFORWARD → (s.portx (q / 2)).nonflitHold = false →
    ∃ t, exec (.dataStreamStart h false) s = .next t ∧ t.rd (PRT_TRN_EVENTS.NONFLIT_REFUSED (q / 2)) = 1 ∧
    t.rd (PRT_TRN_STATUS.NONFLIT_COUNT (q / 2)) = min 15 (s.rd (PRT_TRN_STATUS.NONFLIT_COUNT (q / 2)) + 1) ∧
    (t.portx (q / 2)).nonflitHold = true ∧
    t.rd (PRT_TRN_STATUS.STATE (q / 2)) = (if s.rd (PRT_TRN_CTRL.NONFLIT_LIMIT (q / 2)) ≤ min 15 (s.rd (PRT_TRN_STATUS.NONFLIT_COUNT (q / 2)) + 1) then tHOLD else tDETECT)) ∧
  -- DATA_STREAM_END by EDS
  (∀ (s : State) (h : HalfId) (q : Nat) (before : List StreamItem), s.claim h = some q → s.isSeg q = false →
    s.rd (LCH_DP_STATUS.ALIGN_STATE h) = 3 → ∃ t, exec (.dataStreamEnd h ⟨.eds, before⟩) s = .next t ∧
    t.rd (LCH_DP_STATUS.ALIGN_STATE h) = 2 ∧ t.rd (PRT_TRN_STATUS.STATE (q / 2)) = s.rd (PRT_TRN_STATUS.STATE (q / 2))) ∧
  -- DATA_STREAM_END by EIOS announces electrical idle
  (∀ (s : State) (h : HalfId) (q : Nat) (before : List StreamItem), s.claim h = some q → s.isSeg q = false →
    s.rd (LCH_DP_STATUS.ALIGN_STATE h) = 3 → ∃ t, exec (.dataStreamEnd h ⟨.eios, before⟩) s = .next t ∧
    t.rd (LCH_DP_STATUS.ALIGN_STATE h) = 2 ∧ (t.half h).eios = true) ∧
  -- DATA_STREAM_END by EIEOS in ACTIVE is the entry to Recovery
  (∀ (s : State) (h : HalfId) (q : Nat) (before : List StreamItem), s.claim h = some q → s.isSeg q = false →
    s.rd (LCH_DP_STATUS.ALIGN_STATE h) = 3 → s.trn (q / 2) = tACTIVE →
    ∃ t, exec (.dataStreamEnd h ⟨.eieos, before⟩) s = .next t ∧ t.rd (LCH_DP_STATUS.ALIGN_STATE h) = 2 ∧
    t.rd (PRT_TRN_STATUS.STATE (q / 2)) = tFORWARD ∧
    t.rd (PRT_TRN_EVENTS.RECOVERY_CNT (q / 2)) = satInc 8 (s.rd (PRT_TRN_EVENTS.RECOVERY_CNT (q / 2))))

/-- NONFLIT_HOLD_EXPIRY, SKP_ADJUST, SKP_GENERATE, EB_SLIP, DESKEW_FAIL: what each does where its clause says (rests
on R77, R78, R79, R80, R83, R114). Choices of the model it rests on: log entries 2, 15, 38, 88. -/
def Obligations.BuffersSkpAndDeskew : Prop :=
  -- NONFLIT_HOLD_EXPIRY in a tile that is ON: no register of a Port or of a lane changes, and none at all while Fabric Time neither slews nor is in holdover
  (∀ (s : State) (p : PortId), s.tileOn p = true → ∃ t, exec (.nonflitHoldExpiry p) s = .next t ∧
    (t.portx p).nonflitHold = false ∧
    (∀ c : Cell, 0x100000 ≤ c.off → c.off < 0x220000 → c.lo < 32 → t.rd c = s.rd c) ∧
    (s.bit TIM_STATUS.SLEWING = false → s.bit TIM_STATUS.HOLDOVER = false → t.regs = s.regs) ∧
    ((s.portx p).nonflitHold = true → (s.portx p).nonflitUntil ≤ t.elapsed)) ∧
  -- SKP_ADJUST of a side of one lane: a SKP unit above the centre deletes one, a unit below it adds one
  (∀ (s : State) (q : SideId) (h fill : Nat), s.enabled (q / 2) = true → s.isTT (q / 2) = true →
    s.trn (q / 2) = tACTIVE → s.negHalves q = [h] → s.logical h = 0 →
    fill ≤ maxFill (s.rd (PRT_DP_STATUS.SLOT_NOW q)) → ∃ t, exec (.skpAdjust q [fill]) s = .next t ∧
    t.rd (PRT_SKP_ADJ.DEL q) = (if centreFill (s.rd (PRT_DP_STATUS.SLOT_NOW q)) + Config.skpUnit (s.rd (PRT_DP_STATUS.SLOT_NOW q)) ≤ fill then (s.rd (PRT_SKP_ADJ.DEL q) + 1) % 2 ^ 16 else s.rd (PRT_SKP_ADJ.DEL q)) ∧
    t.rd (PRT_SKP_ADJ.ADD q) = (if fill < centreFill (s.rd (PRT_DP_STATUS.SLOT_NOW q)) + Config.skpUnit (s.rd (PRT_DP_STATUS.SLOT_NOW q)) ∧ fill + Config.skpUnit (s.rd (PRT_DP_STATUS.SLOT_NOW q)) ≤ centreFill (s.rd (PRT_DP_STATUS.SLOT_NOW q)) then (s.rd (PRT_SKP_ADJ.ADD q) + 1) % 2 ^ 16 else s.rd (PRT_SKP_ADJ.ADD q))) ∧
  -- SKP_GENERATE on the Standard Side of a geared Port, which centres its buffer
  (∀ (s : State) (q : SideId) (h fill : Nat), s.enabled (q / 2) = true → s.isGeared (q / 2) = true →
    s.isSeg q = false → h ∈ s.negHalves q → (s.half h).tx = .forward →
    fill ≤ maxFill (s.rd (PRT_DP_STATUS.SLOT_NOW q)) → ∃ t, exec (.skpGenerate q fill) s = .next t ∧
    t.rd (PRT_SKP_ADJ.DEL (otherSide q)) = (if centreFill (s.rd (PRT_DP_STATUS.SLOT_NOW q)) + Config.skpUnit (s.rd (PRT_DP_STATUS.SLOT_NOW q)) ≤ fill then (s.rd (PRT_SKP_ADJ.DEL (otherSide q)) + 1) % 2 ^ 16 else s.rd (PRT_SKP_ADJ.DEL (otherSide q))) ∧
    (t.portx (q / 2)).marginReply = [] ∧
    (t.portx (q / 2)).skpAt = max s.elapsed (s.portx (q / 2)).skpAt + Config.skpInterval (s.rd (PRT_DP_CTRL.CLOCKING (q / 2))) (s.rd (PRT_DP_STATUS.SLOT_NOW q))) ∧
  -- EB_SLIP: the buffer is at its centre again, and the slip is shown, counted and raised
  (∀ (s : State) (h : HalfId) (q : Nat), s.claim h = some q → s.isSeg q = false → s.tileOn (q / 2) = true →
    ∃ t, exec (.ebSlip h) s = .next t ∧ t.rd (PRT_DP_STATUS.EB_SLIP (q / 2)) = 1 ∧
    t.rd (PRT_DP_STATUS.EB_SLIP_CNT (q / 2)) = satInc 8 (s.rd (PRT_DP_STATUS.EB_SLIP_CNT (q / 2))) ∧
    t.rd (LCH_DP_STATUS.EB_FILL h) = centreFill (s.rd (PRT_DP_STATUS.SLOT_NOW q)) / 8 ∧
    bitAt (t.rd ERR_DP_STATUS.CODES) 2 = true) ∧
  -- DESKEW_FAIL on a Port that deskews, with no lane to name
  (∀ (s : State) (q : SideId), s.enabled (q / 2) = true → s.isTT (q / 2) = false → s.tileOn (q / 2) = true →
    ∃ t, exec (.deskewFail q none) s = .next t ∧ t.rd (PRT_DP_STATUS.DESKEW_FAIL (q / 2)) = 1 ∧
    bitAt (t.rd ERR_DP_STATUS.CODES) 3 = true)

/-! ## Training (04) -/

/-- TRAINING_SET_RECEIVED, EQ_PRESET_ACK: what a training set received does to a Standard Side Port, and the
acknowledgement of a preset (rests on R99, R100, R109, R117). Choices of the model it rests on: log entries 15, 71,
140, 141, 145. -/
def Obligations.TrainingSetsMoveThePort : Prop :=
  -- TRAINING_SET_RECEIVED: a TS1 with the Hot Reset bit
  (∀ (s : State) (h : HalfId) (q : Nat) (ts : TrainingSet), s.claim h = some q → s.isSeg q = false →
    2 ≤ s.rd (LCH_DP_STATUS.ALIGN_STATE h) → s.trn (q / 2) = tFORWARD → ts.ts2 = false → ts.hotReset = true →
    ∃ t, exec (.trainingSetReceived h ts) s = .next t ∧ t.rd (PRT_TRN_STATUS.STATE (q / 2)) = tHOTRESET) ∧
  -- TRAINING_SET_RECEIVED: a TS1 with the Disable bit
  (∀ (s : State) (h : HalfId) (q : Nat) (ts : TrainingSet), s.claim h = some q → s.isSeg q = false →
    2 ≤ s.rd (LCH_DP_STATUS.ALIGN_STATE h) → s.trn (q / 2) = tFORWARD → ts.ts2 = false → ts.hotReset = false →
    ts.disable = true → ∃ t, exec (.trainingSetReceived h ts) s = .next t ∧
    t.rd (PRT_TRN_STATUS.STATE (q / 2)) = tDISABLED) ∧
  -- TRAINING_SET_RECEIVED: a TS2 is sent on from the transmitter that answers, with its link and lane numbers as they are, a retimer shown and no bypass
  (∀ (s : State) (h : HalfId) (q a : Nat) (ts : TrainingSet), s.claim h = some q → s.isTT (q / 2) = true →
    2 ≤ s.rd (LCH_DP_STATUS.ALIGN_STATE h) → s.trn (q / 2) = tFORWARD → ts.ts2 = true →
    ts.substate = .recoveryRcvrCfg → ts.width = none → s.across h = some a → (s.half a).tx = .forward →
    ∃ t, exec (.trainingSetReceived h ts) s = .next t ∧ t.outbox.tail = s.outbox ∧
    t.outbox.head?.map (fun o => match o with | .trainingSet b u => (b, u.link, u.lane, u.shb, u.retimerPresent) | _ => (0, none, none, true, false)) = some (a, ts.link, ts.lane, false, true)) ∧
  -- EQ_PRESET_ACK: the receiver starts again to measure the candidate
  (∀ (s : State) (h : HalfId) (ev : Eval) (c : Nat), (s.half h).eval = some ev → ev.cur = some c → ev.acked = false →
    ev.done = false → ∃ t, exec (.eqPresetAck h) s = .next t ∧ (t.half h).eval = some { ev with acked := true } ∧
    (t.half h).peerPreset = c ∧ (t.half h).wantRx = true ∧ t.rd (LCH_FOM.ADAPT_STATE h) = 0)

/-- HOT_RESET_EXIT, DISABLED_EXIT, PARTNER_LOST, TRAINING_TIMEOUT, TRN_RETRAIN: Standard Sides enter DETECT,
transmitters idle, half-lanes at 2.5 GT/s (rests on R100, R104, R105, R106, R117). Choices of the model it rests on:
log entries 2, 30, 140. -/
def Obligations.TrainingEndsInDetect : Prop :=
  -- HOT_RESET_EXIT of a Port in HOT_RESET
  (∀ (s : State) (p : PortId) (h : Nat), s.trn p = tHOTRESET → h ∈ s.stdHalves p →
    ∃ t, exec (.hotResetExit p) s = .next t ∧ t.rd (PRT_TRN_STATUS.STATE p) = tDETECT ∧
    t.rd (PRT_TRN_STATUS.NEG_WIDTH p) = 0 ∧
    t.rd (PRT_TRN_EVENTS.DETECT_CNT p) = satInc 8 (s.rd (PRT_TRN_EVENTS.DETECT_CNT p)) ∧ (t.half h).tx = .idle ∧
    t.rd (LCH_FOM.RATE_SLOT h) = 0) ∧
  -- DISABLED_EXIT of a Port in DISABLED, by a receiver whose signal is there
  (∀ (s : State) (g : HalfId) (q h : Nat), s.claim g = some q → s.isSeg q = false → s.trn (q / 2) = tDISABLED →
    s.bit (LCH_FOM.SIGDET g) = true → h ∈ s.stdHalves (q / 2) → ∃ t, exec (.disabledExit g) s = .next t ∧
    t.rd (PRT_TRN_STATUS.STATE (q / 2)) = tDETECT ∧ t.rd (PRT_TRN_STATUS.NEG_WIDTH (q / 2)) = 0 ∧
    t.rd (PRT_TRN_EVENTS.DETECT_CNT (q / 2)) = satInc 8 (s.rd (PRT_TRN_EVENTS.DETECT_CNT (q / 2))) ∧
    (t.half h).tx = .idle ∧ t.rd (LCH_FOM.RATE_SLOT h) = 0) ∧
  -- PARTNER_LOST on a Standard Side of an enabled Port in FORWARD, EQ, ACTIVE or LOOPBACK: shown and raised too
  (∀ (s : State) (q : SideId) (h : Nat), s.enabled (q / 2) = true → s.isSeg q = false →
    s.trn (q / 2) = tFORWARD ∨ s.trn (q / 2) = tEQ ∨ s.trn (q / 2) = tACTIVE ∨ s.trn (q / 2) = tLOOPBACK →
    (∀ g ∈ s.negHalves q, s.bit (LCH_FOM.SIGDET g) = false ∧ (s.half g).eios = false) → h ∈ s.stdHalves (q / 2) →
    ∃ t, exec (.partnerLost q) s = .next t ∧ t.rd (PRT_TRN_EVENTS.PARTNER_LOST q) = 1 ∧
    bitAt (t.rd ERR_DP_STATUS.CODES) 4 = true ∧ t.rd (PRT_TRN_STATUS.STATE (q / 2)) = tDETECT ∧
    t.rd (PRT_TRN_STATUS.NEG_WIDTH (q / 2)) = 0 ∧
    t.rd (PRT_TRN_EVENTS.DETECT_CNT (q / 2)) = satInc 8 (s.rd (PRT_TRN_EVENTS.DETECT_CNT (q / 2))) ∧
    (t.half h).tx = .idle ∧ t.rd (LCH_FOM.RATE_SLOT h) = 0) ∧
  -- TRAINING_TIMEOUT of a Port in FORWARD, EQ or LOWPOWER
  (∀ (s : State) (p : PortId) (h : Nat), s.trn p = tFORWARD ∨ s.trn p = tEQ ∨ s.trn p = tLOWPOWER →
    h ∈ s.stdHalves p → ∃ t, exec (.trainingTimeout p) s = .next t ∧ t.rd (PRT_TRN_EVENTS.TRN_TIMEOUT p) = 1 ∧
    t.rd (PRT_TRN_STATUS.STATE p) = tDETECT ∧ t.rd (PRT_TRN_STATUS.NEG_WIDTH p) = 0 ∧
    t.rd (PRT_TRN_EVENTS.DETECT_CNT p) = satInc 8 (s.rd (PRT_TRN_EVENTS.DETECT_CNT p)) ∧ (t.half h).tx = .idle ∧
    t.rd (LCH_FOM.RATE_SLOT h) = 0) ∧
  -- TRN_RETRAIN of an enabled Port that is in HOLD, with its Lane Tile ON
  (∀ (s : State) (p : PortId) (h : Nat), s.hosted = true → s.powerState ≠ 1 → s.enabled p = true →
    s.tileState (s.tileOf p) = 2 → (s.tile (s.tileOf p)).accesses = [] → s.trn p = tHOLD → h ∈ s.stdHalves p →
    ∃ t, exec (.trnRetrain p) s = .next t ∧ t.rd (PRT_TRN_STATUS.STATE p) = tDETECT ∧
    t.rd (PRT_TRN_STATUS.NEG_WIDTH p) = 0 ∧
    t.rd (PRT_TRN_EVENTS.DETECT_CNT p) = satInc 8 (s.rd (PRT_TRN_EVENTS.DETECT_CNT p)) ∧ (t.half h).tx = .idle ∧
    t.rd (LCH_FOM.RATE_SLOT h) = 0)

/-- RECEIVER_DETECT_SCAN, ELECTRICAL_IDLE_EXIT, RATE_CHANGE, MARGIN_COMMAND: receiver detection, rate changes and
margin commands (rests on R100, R101, R102, R112, R119, R120, R121). Choices of the model it rests on: log entries 15,
37, 92, 140, 146. -/
def Obligations.DetectionRateChangeAndMargining : Prop :=
  -- RECEIVER_DETECT_SCAN in DETECT
  (∀ (s : State) (q : SideId) (found : List HalfId) (h : Nat), s.trn (q / 2) = tDETECT → s.isSeg q = false →
    h ∈ s.dataHalves q → ∃ t, exec (.receiverDetectScan q found) s = .next t ∧
    (t.half h).found = (found.map Fin.val).contains h ∧ t.rd (PRT_TRN_STATUS.STATE (q / 2)) = tDETECT) ∧
  -- ELECTRICAL_IDLE_EXIT in DETECT with both partners present
  (∀ (s : State) (h : HalfId) (q : Nat), s.claim h = some q → s.isSeg q = false → s.bit (LCH_FOM.SIGDET h) = true →
    s.kept (q / 2) = false → s.trn (q / 2) = tDETECT → s.bothPresent (q / 2) = true →
    ∃ t, exec (.electricalIdleExit h) s = .next t ∧ t.rd (PRT_TRN_STATUS.STATE (q / 2)) = tFORWARD) ∧
  -- ELECTRICAL_IDLE_EXIT in FORWARD starts the transmitter that answers
  (∀ (s : State) (h : HalfId) (q a : Nat), s.claim h = some q → s.isTT (q / 2) = true →
    s.bit (LCH_FOM.SIGDET h) = true → s.kept (q / 2) = false → s.trn (q / 2) = tFORWARD → s.across h = some a →
    (s.half a).tx = .idle → s.txStopped a = false → s.logical h < s.negWidth q → s.l0pIdle h = false →
    ∃ t, exec (.electricalIdleExit h) s = .next t ∧ (t.half a).tx = .start) ∧
  -- RATE_CHANGE: every data half-lane of the Standard Sides is in the new slot, its receiver to acquire again at once where it was adapting with a signal and its engine up, else as soon as it may
  (∀ (s : State) (p : PortId) (slot : Fin 7) (q h : Nat), s.trn p = tFORWARD → q ∈ s.stdSides p →
    s.rd (PRT_DP_STATUS.SLOT_NOW q) ≠ slot → h ∈ s.dataHalves q → ∃ t, exec (.rateChange p slot) s = .next t ∧
    t.rd (PRT_DP_STATUS.SLOT_NOW q) = slot ∧ t.rd (LCH_FOM.RATE_SLOT h) = slot ∧ (t.half h).tx = .idle ∧
    t.rd (LCH_FOM.ADAPT_STATE h) = (if s.isGeared p = true ∧ s.negWidth q ≤ s.logical h then 0 else if s.rd (LCH_FOM.ADAPT_STATE h) ≠ 0 ∧ s.bit (LCH_FOM.SIGDET h) = true ∧ s.engineUp h = true then 1 else 0) ∧
    (t.half h).wantRx = !(s.isGeared p && decide (s.negWidth q ≤ s.logical h)) ∧
    t.rd (PRT_TRN_EVENTS.RATE_CHG_CNT p) = satInc 8 (s.rd (PRT_TRN_EVENTS.RATE_CHG_CNT p))) ∧
  -- MARGIN_COMMAND for the receiver named: a report of a capability changes nothing else
  (∀ (s : State) (h : HalfId) (q item : Nat) (r : RxName), s.claim h = some q → s.isTT (q / 2) = true →
    s.trn (q / 2) = tACTIVE → 3 ≤ s.rd (LCH_FOM.RATE_SLOT h) → s.rxName q = some r →
    exec (.marginCommand h ⟨r, .report item⟩) s = .next (s.emit (.marginReply h (marginCaps.getD item 0)))) ∧
  -- MARGIN_COMMAND: a step, with the error sampler free
  (∀ (s : State) (h : HalfId) (q : Nat) (axis : Fin 4) (offset : Nat) (r : RxName), s.claim h = some q →
    s.isSeg q = false → s.trn (q / 2) = tACTIVE → 3 ≤ s.rd (LCH_FOM.RATE_SLOT h) → s.holdsSampler h = false →
    s.rxName q = some r → ∃ t, exec (.marginCommand h ⟨r, .step axis offset⟩) s = .next t ∧
    (t.half h).margin = some ⟨axis, offset, none⟩ ∧ (t.half h).marginWait = none ∧ t.regs = s.regs) ∧
  -- MARGIN_COMMAND: normal settings end the session
  (∀ (s : State) (h : HalfId) (q : Nat) (r : RxName), s.claim h = some q → s.isSeg q = false →
    s.trn (q / 2) = tACTIVE → 3 ≤ s.rd (LCH_FOM.RATE_SLOT h) → s.rxName q = some r →
    ∃ t, exec (.marginCommand h ⟨r, .normal⟩) s = .next t ∧ (t.half h).margin = none ∧ (t.half h).marginWait = none ∧
    t.regs = s.regs) ∧
  -- MARGIN_COMMAND: a receiver of neither pseudo-port of the Port gives no response
  (∀ (s : State) (h : HalfId) (q : Nat) (r : RxName) (cmd : MarginCmd), s.claim h = some q → s.rxName q ≠ some r →
    s.rxName (otherSide q) ≠ some r → exec (.marginCommand h ⟨r, cmd⟩) s = .next (s))

/-- LOWPOWER_ENTRY, LOWPOWER_EXIT: low-power link states entered and left (rests on R100, R115, R116). Choices of the
model it rests on: log entries 2, 31, 87. -/
def Obligations.LinkLowPower : Prop :=
  -- LOWPOWER_ENTRY of L1 and of L2
  (∀ (s : State) (q : SideId), s.trn (q / 2) = tACTIVE → s.isSeg q = false →
    ∃ t, exec (.lowpowerEntry q .l1) s = .next t ∧ t.rd (PRT_TRN_STATUS.STATE (q / 2)) = tLOWPOWER ∧
    t.rd (PRT_TRN_STATUS.LP_KIND (q / 2)) = 2) ∧
  -- LOWPOWER_ENTRY
  (∀ (s : State) (q : SideId), s.trn (q / 2) = tACTIVE → s.isSeg q = false →
    ∃ t, exec (.lowpowerEntry q .l2) s = .next t ∧ t.rd (PRT_TRN_STATUS.STATE (q / 2)) = tLOWPOWER ∧
    t.rd (PRT_TRN_STATUS.LP_KIND (q / 2)) = 3) ∧
  -- LOWPOWER_ENTRY of L0s, on a Port with two Standard Sides
  (∀ (s : State) (q : SideId), s.trn (q / 2) = tACTIVE → s.isTT (q / 2) = true → s.inL0s q = false →
    ∃ t, exec (.lowpowerEntry q .l0s) s = .next t ∧ t.inL0s q = true ∧
    t.rd (PRT_TRN_STATUS.STATE (q / 2)) = tLOWPOWER ∧ t.rd (PRT_TRN_STATUS.LP_KIND (q / 2)) = 1) ∧
  -- LOWPOWER_ENTRY of L0p leaves the Port in ACTIVE
  (∀ (s : State) (q : SideId) (mask : Nat), s.trn (q / 2) = tACTIVE → s.isSeg q = false →
    ∃ t, exec (.lowpowerEntry q (.l0p mask)) s = .next t ∧
    t.rd (PRT_TRN_STATUS.L0P (q / 2)) = ofBool (mask % 2 ^ 16 != 0) ∧ t.rd (PRT_TRN_STATUS.STATE (q / 2)) = tACTIVE) ∧
  -- LOWPOWER_ENTRY: the second direction of the Port enters L0s too
  (∀ (s : State) (q : SideId), s.trn (q / 2) = tLOWPOWER → s.rd (PRT_TRN_STATUS.LP_KIND (q / 2)) = 1 →
    s.isTT (q / 2) = true → s.inL0s q = false → s.inL0s (otherSide q) = true →
    ∃ t, exec (.lowpowerEntry q .l0s) s = .next t ∧ t.inL0s q = true ∧ t.inL0s (otherSide q) = true ∧
    t.rd (PRT_TRN_STATUS.STATE (q / 2)) = tLOWPOWER) ∧
  -- LOWPOWER_EXIT from L0s, the other direction not in it; from L1 and L2
  (∀ (s : State) (q : SideId), s.isSeg q = false → s.trn (q / 2) = tLOWPOWER →
    s.rd (PRT_TRN_STATUS.LP_KIND (q / 2)) = 1 → s.inL0s q = true → s.inL0s (otherSide q) = false →
    ∃ t, exec (.lowpowerExit q .l0s) s = .next t ∧ t.rd (PRT_TRN_STATUS.STATE (q / 2)) = tACTIVE ∧
    t.rd (PRT_TRN_STATUS.LP_KIND (q / 2)) = 0) ∧
  -- LOWPOWER_EXIT: while the other direction is in L0s the Port stays in LOWPOWER
  (∀ (s : State) (q : SideId), s.isSeg q = false → s.trn (q / 2) = tLOWPOWER →
    s.rd (PRT_TRN_STATUS.LP_KIND (q / 2)) = 1 → s.inL0s q = true → s.inL0s (otherSide q) = true →
    ∃ t, exec (.lowpowerExit q .l0s) s = .next t ∧ t.inL0s q = false ∧ t.inL0s (otherSide q) = true ∧
    t.rd (PRT_TRN_STATUS.STATE (q / 2)) = tLOWPOWER) ∧
  -- LOWPOWER_EXIT
  (∀ (s : State) (q : SideId), s.isSeg q = false → s.trn (q / 2) = tLOWPOWER →
    s.rd (PRT_TRN_STATUS.LP_KIND (q / 2)) = 2 → ∃ t, exec (.lowpowerExit q .l1) s = .next t ∧
    t.rd (PRT_TRN_STATUS.STATE (q / 2)) = tFORWARD ∧ t.rd (PRT_TRN_STATUS.LP_KIND (q / 2)) = 0) ∧
  -- LOWPOWER_EXIT
  (∀ (s : State) (q : SideId), s.isSeg q = false → s.trn (q / 2) = tLOWPOWER →
    s.rd (PRT_TRN_STATUS.LP_KIND (q / 2)) = 3 → ∃ t, exec (.lowpowerExit q .l2) s = .next t ∧
    t.rd (PRT_TRN_STATUS.STATE (q / 2)) = tDETECT)

/-! ## Segment Sides (05) -/

/-- ROW_LAUNCH, FRAME_RECEIVED, ACK_TIMEOUT, STUFF_HIGH, FLIT_DROP: what each does where its clause says (rests on
R122, R126, R127, R128, R129, R130, R132, R136, R137, R142, R149, R475). Choices of the model it rests on: log entries
2, 33, 34, 35, 94, 96, 142, 147. -/
def Obligations.SegmentFramesAndRows : Prop :=
  -- ROW_LAUNCH in SDETECT: one LANEID frame leaves every half-lane
  (∀ (s : State) (q : SideId), s.isSeg q = true → s.segState q = sDETECT → ∃ t, exec (.rowLaunch q []) s = .next t ∧
    t.outbox.length = s.outbox.length + (s.segHalves q).length ∧ t.regs = s.regs) ∧
  -- ROW_LAUNCH in SACTIVE: one row more has been launched
  (∀ (s : State) (q : SideId) (arrived : List StreamItem), s.isSeg q = true → s.segState q = sACTIVE →
    (s.seg q).switched = true → ∃ t, exec (.rowLaunch q arrived) s = .next t ∧ (t.seg q).rows = (s.seg q).rows + 1 ∧
    t.rd (PRT_SEG_STATUS.STATE q) = sACTIVE) ∧
  -- FRAME_RECEIVED in SDISCOVER: a frame that does not decode under the training seed
  (∀ (s : State) (h : HalfId) (q : Nat) (line : List Int), s.claim h = some q → s.isSeg q = true →
    s.segState q = sDISCOVER → s.bit (LCH_SEG_FEC.FRAME_LOCK h) = true → s.bit (LCH_SEG_FEC.SEG_POL_INV h) = false →
    decodeFrame (destuff (s.half h).rxRun line).1 trainingSeed = none →
    ∃ t, exec (.frameReceived h line) s = .next t ∧
    t.rd (LCH_SEG_FEC.UNCORR h) = satInc 8 (s.rd (LCH_SEG_FEC.UNCORR h)) ∧ (t.half h).badRun = (s.half h).badRun + 1 ∧
    (t.half h).goodRun = 0) ∧
  -- ACK_TIMEOUT: a replay from the row after the latest acknowledged one
  (∀ (s : State) (q : SideId), s.isSeg q = true → s.segState q = sACTIVE → (s.seg q).unacked ≠ [] →
    (s.seg q).replayRow ≠ ((s.seg q).acked + 1) % 4096 → ∃ t, exec (.ackTimeout q) s = .next t ∧
    t.rd (PRT_SEG_CNT.REPLAYS q) = (s.rd (PRT_SEG_CNT.REPLAYS q) + 1) % 2 ^ 16 ∧
    (t.seg q).replay = some (((s.seg q).acked + 1) % 4096) ∧ (t.seg q).replayCount = 1) ∧
  -- STUFF_HIGH
  (∀ (s : State) (h : HalfId) (q : Nat), s.claim h = some q → s.isSeg q = true → s.tileOn (q / 2) = true →
    (s.half h).stuffOver = true → ∃ t, exec (.stuffHigh h) s = .next t ∧ t.rd (PRT_SEG_STATUS.STUFF_HIGH q) = 1 ∧
    bitAt (t.rd ERR_DP_STATUS.CODES) 8 = true) ∧
  -- FLIT_DROP at the entry to a segment
  (∀ (s : State) (q : SideId), s.isSeg q = true → s.isGeared (q / 2) = true → s.tileOn (q / 2) = true →
    ∃ t, exec (.flitDrop q) s = .next t ∧ t.rd (PRT_SEG_STATUS.FLIT_DROP q) = 1 ∧
    bitAt (t.rd ERR_DP_STATUS.CODES) 10 = true) ∧
  -- FRAME_RECEIVED of the line symbols of a LANEID frame sent while the receiver's run is the sender's
  (∀ (s : State) (h : HalfId) (q : Nat) (hd : Header) (payload : List Byte), s.claim h = some q → s.isSeg q = true →
    s.segState q = sDISCOVER → s.bit (LCH_SEG_FEC.FRAME_LOCK h) = true → s.bit (LCH_SEG_FEC.SEG_POL_INV h) = false →
    (s.half h).rxRun.len < 12 → payload.length = 256 →
    hd.row < 4096 ∧ hd.type = 7 ∧ hd.lane = 31 ∧ hd.epoch = 0 ∧ hd.ack < 4096 ∧ hd.credit < 256 →
    ∃ t, exec (.frameReceived h (stuff (s.half h).rxRun (pamMap (scramble trainingSeed (frameBits hd payload)))).1) s = .next t ∧
    t.rd (LCH_SEG_FEC.CORR_SYM h) = s.rd (LCH_SEG_FEC.CORR_SYM h) % 2 ^ 16 ∧
    t.rd (LCH_SEG_FEC.UNCORR h) = s.rd (LCH_SEG_FEC.UNCORR h) ∧ (t.half h).badRun = 0 ∧
    (t.half h).goodRun = (s.half h).goodRun + 1)

/-- FRAME_LOCK_GAINED, FRAME_LOCK_LOST, SEG_TRAINING_TIMEOUT, BACKOFF_END, LANEID_RECEIVED, SEG_PARTNER_LOST,
SEG_RETRAIN: the training states of a Segment Side (rests on R73, R132, R143, R144, R145, R150, R162, R172). Choices
of the model it rests on: log entries 2, 37, 40, 89, 95, 144. -/
def Obligations.SegmentTrainingMoves : Prop :=
  -- FRAME_LOCK_GAINED in SDISCOVER
  (∀ (s : State) (h : HalfId) (q : Nat) (negated : Bool), s.claim h = some q → s.isSeg q = true →
    s.segState q = sDISCOVER → s.bit (LCH_FOM.LOCK h) = true → s.bit (LCH_SEG_FEC.FRAME_LOCK h) = false →
    ∃ t, exec (.frameLockGained h negated) s = .next t ∧ t.rd (LCH_SEG_FEC.FRAME_LOCK h) = 1 ∧
    t.rd (LCH_SEG_FEC.SEG_POL_INV h) = ofBool negated ∧ t.rd (LCH_DP_STATUS.ALIGN_STATE h) = 2) ∧
  -- FRAME_LOCK_GAINED in SACQUIRE on a side of one data lane: SDISCOVER
  (∀ (s : State) (h : HalfId) (q : Nat) (negated : Bool), s.claim h = some q → s.isSeg q = true →
    s.segState q = sACQUIRE → s.width q = 1 → h.val ∈ s.segHalves q → s.bit (LCH_FOM.LOCK h) = true →
    s.bit (LCH_SEG_FEC.FRAME_LOCK h) = false → ∃ t, exec (.frameLockGained h negated) s = .next t ∧
    t.rd (PRT_SEG_STATUS.STATE q) = sDISCOVER) ∧
  -- FRAME_LOCK_LOST after four uncorrectable frames
  (∀ (s : State) (h : HalfId), s.bit (LCH_SEG_FEC.FRAME_LOCK h) = true → 4 ≤ (s.half h).badRun →
    ∃ t, exec (.frameLockLost h) s = .next t ∧ t.rd (LCH_SEG_FEC.FRAME_LOCK h) = 0 ∧
    t.rd (LCH_DP_STATUS.ALIGN_STATE h) = 1 ∧ (t.half h).badRun = 0) ∧
  -- SEG_TRAINING_TIMEOUT in SDETECT, SACQUIRE and SCONFIRM: SBACKOFF with the state's reason
  (∀ (s : State) (q : SideId), s.isSeg q = true →
    s.segState q = sDETECT ∨ s.segState q = sACQUIRE ∨ s.segState q = sCONFIRM →
    ∃ t, exec (.segTrainingTimeout q) s = .next t ∧ t.rd (PRT_SEG_STATUS.STATE q) = sBACKOFF ∧
    t.rd (PRT_SEG_STATUS.LAST_FAIL q) = (if s.segState q = sDETECT then 1 else if s.segState q = sACQUIRE then 2 else 8) ∧
    t.rd (PRT_SEG_STATUS.ATTEMPTS q) = satInc 4 (s.rd (PRT_SEG_STATUS.ATTEMPTS q))) ∧
  -- BACKOFF_END
  (∀ (s : State) (q : SideId), s.isSeg q = true → s.segState q = sBACKOFF → ∃ t, exec (.backoffEnd q) s = .next t ∧
    t.rd (PRT_SEG_STATUS.STATE q) = sDETECT ∧ t.rd (PRT_SEG_STATUS.ATTEMPTS q) = s.rd (PRT_SEG_STATUS.ATTEMPTS q)) ∧
  -- LANEID_RECEIVED in SDISCOVER from a partner of another width: SBACKOFF with reason 4
  (∀ (s : State) (h : HalfId) (q : Nat) (payload : List Byte), s.claim h = some q → s.isSeg q = true →
    s.segState q = sDISCOVER → s.bit (LCH_SEG_FEC.FRAME_LOCK h) = true →
    payload.take 5 = [0x4C, 0x41, 0x4E, 0x45, 0x01] → byteAt payload 17 ≠ s.width q →
    ∃ t, exec (.laneidReceived h payload) s = .next t ∧ t.rd (PRT_SEG_STATUS.STATE q) = sBACKOFF ∧
    t.rd (PRT_SEG_STATUS.LAST_FAIL q) = 4) ∧
  -- LANEID_RECEIVED in SDISCOVER from a partner that fits: its kind and the lane heard are shown
  (∀ (s : State) (h : HalfId) (q : Nat) (payload : List Byte), s.claim h = some q → s.isSeg q = true →
    s.segState q = sDISCOVER → s.bit (LCH_SEG_FEC.FRAME_LOCK h) = true →
    payload.take 5 = [0x4C, 0x41, 0x4E, 0x45, 0x01] → byteAt payload 17 = s.width q → byteAt payload 18 = s.spares q →
    byteAt payload 19 = s.segSlot q → byteAt payload 14 ≠ q / 2 → byteAt payload 5 = 1 → s.legacy q = false →
    byteAt payload 16 < 20 → (∀ g ∈ s.segHalves q, g ≠ h → s.rd (LCH_SEG_FEC.HEARD g) ≠ byteAt payload 16) →
    bitAt (byteAt payload 20) 2 = true → ∃ t, exec (.laneidReceived h payload) s = .next t ∧
    t.rd (PRT_SEG_STATUS.PARTNER q) = 1 ∧ t.rd (LCH_SEG_FEC.HEARD h) = byteAt payload 16 ∧
    (t.rd (PRT_SEG_STATUS.STATE q) = sDISCOVER ∨ t.rd (PRT_SEG_STATUS.STATE q) = sCONFIRM)) ∧
  -- SEG_PARTNER_LOST in SACTIVE with no signal
  (∀ (s : State) (q : SideId), s.isSeg q = true → s.segState q = sACTIVE → s.countRx q LCH_FOM.SIGDET = 0 →
    ∃ t, exec (.segPartnerLost q) s = .next t ∧ t.rd (PRT_SEG_STATUS.PARTNER_LOST q) = 1 ∧
    t.rd (PRT_SEG_STATUS.STATE q) = sDETECT ∧ bitAt (t.rd ERR_DP_STATUS.CODES) 4 = true) ∧
  -- SEG_RETRAIN
  (∀ (s : State) (q : SideId), s.hosted = true → s.powerState ≠ 1 → s.enabled (q / 2) = true →
    s.tileState (s.tileOf (q / 2)) = 2 → (s.tile (s.tileOf (q / 2))).accesses = [] → s.isSeg q = true →
    s.segState q ≠ sDOWN → ∃ t, exec (.segRetrain q) s = .next t ∧ t.rd (PRT_SEG_STATUS.STATE q) = sDETECT ∧
    t.rd (PRT_SEG_STATUS.ATTEMPTS q) = 0)

/-- OSREL_SEND, OSREL_RECEIVED, PATH_SEND, PATH_FRAME_RECEIVED, OSET_RECEIVED: what a Segment Side carries of the
standard link across the segment (rests on R151, R152, R153, R159). Choices of the model it rests on: log entries 29,
35, 37, 97, 98, 117, 123, 143, 145, 146, 147. -/
def Obligations.SegmentRelaysTheLink : Prop :=
  -- OSREL_SEND of a geared Port that trains
  (∀ (s : State) (q : SideId), s.isSeg q = true → s.isGeared (q / 2) = true → s.segState q = sACTIVE →
    s.trn (q / 2) = tFORWARD → s.txn.stopped.contains (otherSide q) = false → ∃ t, exec (.osrelSend q) s = .next t ∧
    (t.seg q).osrelDue = some (s.osrelContent (otherSide q)) ∧ t.regs = s.regs) ∧
  -- OSREL_RECEIVED on a geared Port that trains: regenerated on the Standard Side, on the lanes that are to send
  (∀ (s : State) (q : SideId) (row : Nat) (payload : List Byte), s.isSeg q = true → s.isSS (q / 2) = false →
    s.segState q = sACTIVE → s.trn (q / 2) = tFORWARD → (s.seg q).osrelRow = none → osrelLanes payload ≠ [] →
    ∃ t, exec (.osrelReceived q row payload) s = .next t ∧
    (let u := ((s.upS q (fun x => { x with osrelRow := some (row % 4096), osrelIn := payload })).farStreamEnds (q / 2)).takeSets q payload; relays (u.trn (q / 2)) = true → u.exitLanes (otherSide q) payload ≠ [] → t.outbox.head? = some (.osrel (otherSide q) (u.exitSets (otherSide q) payload))) ∧
    (t.outbox.take (t.outbox.length - s.outbox.length)).all (fun o => match o with | .osrel d m => d == otherSide q && (osrelLanes m).all (fun k => (osrelLanes payload).contains k) | _ => true) = true ∧
    (t.seg q).osrelRow = some (row % 4096)) ∧
  -- OSREL_RECEIVED with no set on any lane: nothing is sent
  (∀ (s : State) (q : SideId) (row : Nat), s.isSeg q = true → s.isSS (q / 2) = false → s.segState q = sACTIVE →
    (s.seg q).osrelRow = none → ∃ t, exec (.osrelReceived q row (zeros 256)) s = .next t ∧
    (t.seg q).osrelRow = some (row % 4096) ∧ t.outbox = s.outbox ∧ t.regs = s.regs) ∧
  -- OSREL_RECEIVED on a Port with two Segment Sides: sent on unchanged
  (∀ (s : State) (q : SideId) (row : Nat) (payload : List Byte), s.isSS (q / 2) = true → s.segState q = sACTIVE →
    s.segState (otherSide q) = sACTIVE → s.relayOk (otherSide q) = true → s.txn.stopped.contains q.val = false →
    (s.seg q).osrelRow = none → ∃ t, exec (.osrelReceived q row payload) s = .next t ∧
    (t.seg (otherSide q)).osrelDue = some payload ∧ t.regs = s.regs) ∧
  -- PATH_SEND of a geared Port
  (∀ (s : State) (q : SideId), s.isSeg q = true → s.isGeared (q / 2) = true → s.segState q = sACTIVE →
    ∃ t, exec (.pathSend q) s = .next t ∧ (t.seg q).pathDue = some (s.pathContent (q / 2)) ∧ t.regs = s.regs) ∧
  -- PATH_FRAME_RECEIVED: the greatest number of hops is shown
  (∀ (s : State) (q : SideId) (payload : List Byte), s.isSeg q = true → s.segState q = sACTIVE →
    byteAt payload 0 = 1 → ∃ t, exec (.pathFrameReceived q payload) s = .next t ∧
    t.rd (PRT_SEG_STATUS.HOPS q) = max (s.rd (PRT_SEG_STATUS.HOPS q)) (min 7 (byteAt payload 2)) % 8 ∧
    (t.seg q).pathIn = payload) ∧
  -- PATH_FRAME_RECEIVED on a geared Port with the far partner absent: the Standard Side returns to DETECT
  (∀ (s : State) (q : SideId) (payload : List Byte), s.isSeg q = true → s.isGeared (q / 2) = true →
    s.segState q = sACTIVE → byteAt payload 0 = 1 → bitAt (byteAt payload 1) 0 = false → s.trn (q / 2) = tACTIVE →
    ∃ t, exec (.pathFrameReceived q payload) s = .next t ∧ t.rd (PRT_TRN_STATUS.STATE (q / 2)) = tDETECT) ∧
  -- OSET_RECEIVED, another ordered set of the stream: regenerated at its place among the flits with its 16 symbols
  (∀ (s : State) (q : SideId) (payload : List Byte), s.isSeg q = true → s.isGeared (q / 2) = true →
    s.segState q = sACTIVE → s.txn.stopped.contains q.val = false → byteAt payload 0 = 3 →
    exec (.osetReceived q payload) s = .next
    (s.emit (.orderedSet (otherSide q) 3 (leNat ((payload.drop 2).take 2)) ((payload.drop 16).take 16)))) ∧
  -- OSET_RECEIVED, the far partner's EIEOS in ACTIVE: regenerated, and the Port enters FORWARD
  (∀ (s : State) (q : SideId) (payload : List Byte), s.isSeg q = true → s.isGeared (q / 2) = true →
    s.segState q = sACTIVE → s.txn.stopped.contains q.val = false → byteAt payload 0 = 2 → s.trn (q / 2) = tACTIVE →
    ∃ t, exec (.osetReceived q payload) s = .next t ∧ t.trn (q / 2) = tFORWARD ∧
    Out.orderedSet (otherSide q) 2 (leNat ((payload.drop 2).take 2)) [] ∈ t.outbox)

/-! ## Lane faults and Trellis (06) -/

/-- HARD_FAULT_DECLARE, CORR_BLOCK_END, STANDARD_LANE_FAULT, RETIRED_EXPIRY, TRL_MOVE, TRL_RETURN_HOME: what each does
where its clause says (rests on R28, R167, R169, R176, R190, R191, R198). Choices of the model it rests on: log
entries 36, 100, 101. -/
def Obligations.LaneFaultsAndRequestsAreQueued : Prop :=
  -- HARD_FAULT_DECLARE
  (∀ (s : State) (h : HalfId) (q : Nat) (reason : Fin 16), s.claim h = some q → s.isSeg q = true →
    s.segState q = sACTIVE → h.val ∈ s.segHalves q → s.hardCause h reason = true →
    (s.segHalves q).any (fun g => g != h && s.bit (LCH_SEG_FEC.FRAME_LOCK g)) = true →
    ∃ t, exec (.hardFaultDeclare h reason) s = .next t ∧ t.rd (LCH_LANE_FAULT.FAULT_NEW h) = 1 ∧
    t.rd (LCH_LANE_FAULT.LAST_REASON h) = reason ∧
    t.rd (LCH_LANE_FAULT.FAULT_CNT h) = satInc 8 (s.rd (LCH_LANE_FAULT.FAULT_CNT h)) ∧
    bitAt (t.rd ERR_DP_STATUS.CODES) 0 = true) ∧
  -- CORR_BLOCK_END above the limit
  (∀ (s : State) (h : HalfId) (q : Nat), s.claim h = some q → s.isSeg q = true → s.segState q = sACTIVE →
    256 * s.rd (PRT_TRL_CTRL.CORR_LIMIT q) < (s.half h).corrBlock → s.holdsData h = false →
    ∃ t, exec (.corrBlockEnd h) s = .next t ∧ t.rd (LCH_LANE_FAULT.FAULT_NEW h) = 1 ∧
    t.rd (LCH_LANE_FAULT.LAST_REASON h) = 6 ∧ (t.half h).corrBlock = 0) ∧
  -- CORR_BLOCK_END at or below the limit: a new block begins
  (∀ (s : State) (h : HalfId) (q : Nat), s.claim h = some q → s.isSeg q = true → s.segState q = sACTIVE →
    (s.half h).corrBlock ≤ 256 * s.rd (PRT_TRL_CTRL.CORR_LIMIT q) → ∃ t, exec (.corrBlockEnd h) s = .next t ∧
    (t.half h).corrBlock = 0 ∧ t.regs = s.regs) ∧
  -- STANDARD_LANE_FAULT on loss of LOCK
  (∀ (s : State) (h : HalfId) (q : Nat), s.claim h = some q → s.stdFaultable q h = true →
    s.bit (LCH_FOM.LOCK h) = false → ∃ t, exec (.standardLaneFault h 2) s = .next t ∧
    t.rd (LCH_LANE_FAULT.FAULT_NEW h) = 1 ∧ t.rd (LCH_LANE_FAULT.LAST_REASON h) = 2 ∧ (t.half h).relocking = true ∧
    (t.half h).wantRx = true) ∧
  -- RETIRED_EXPIRY
  (∀ (s : State) (h : HalfId), (s.half h).retired = true → s.spareFit h = true →
    ∃ t, exec (.retiredExpiry h) s = .next t ∧ (t.half h).retired = false) ∧
  -- TRL_MOVE on a side in WATCH whose request meets its conditions
  (∀ (s : State) (q : SideId) (lane spare : Fin 32), s.hosted = true → s.enabled (q / 2) = true →
    s.tileOf (q / 2) < 8 → s.tileState (s.tileOf (q / 2)) = 2 → (s.tile (s.tileOf (q / 2))).accesses = [] →
    s.isSeg q = true → s.steer q = stWATCH → (s.requestSpare q ⟨lane, 8, spare, 0, 0, 0⟩).isSome = true →
    ∃ t, exec (.trlMove q lane spare) s = .next t ∧
    (t.seg q).queue.any (fun i => i.lane == lane.val && i.reason == 8 && i.spare == spare.val) = true) ∧
  -- TRL_RETURN_HOME
  (∀ (s : State) (q : SideId) (lane : Fin 32), s.hosted = true → s.enabled (q / 2) = true → s.tileOf (q / 2) < 8 →
    s.tileState (s.tileOf (q / 2)) = 2 → (s.tile (s.tileOf (q / 2))).accesses = [] → s.isSeg q = true →
    s.steer q = stWATCH → (s.requestSpare q ⟨lane, 9, 0x1F, 0, 0, 0⟩).isSome = true →
    ∃ t, exec (.trlReturnHome q lane) s = .next t ∧
    (t.seg q).queue.any (fun i => i.lane == lane.val && i.reason == 9) = true)

/-- What the steering end of Trellis does with faults, replies and its timers: clause by clause, for the commands and
conditions named there (rests on R173, R182, R187, R189, R197, R198). Choices of the model it rests on: log entries 2,
36. -/
def Obligations.TrellisSteeringEnd : Prop :=
  -- TRELLIS_PROPOSE of a fault with a spare ready
  (∀ (s : State) (q : SideId) (it : Item) (rest : List Item) (sp : Nat) (more : List Nat), s.isSeg q = true →
    s.segState q = sACTIVE → s.steer q = stWATCH → (s.seg q).queue = it :: rest → it.isRequest = false →
    s.rxLogical q it.half = some it.lane → s.trellis q = true → s.bit (PRT_TRL_CTRL.TRELLIS_OFF q) = false →
    s.readySpares q = sp :: more → ∃ t, exec (.trellisPropose q) s = .next t ∧
    t.rd (PRT_TRL_STATUS.STEER_STATE q) = stPROPOSING ∧
    t.rd (PRT_TRL_CNT.PROPOSE_CNT q) = satInc 8 (s.rd (PRT_TRL_CNT.PROPOSE_CNT q)) ∧
    (t.seg q).prop = some ⟨it, ((s.seg q).lastEpoch + 1) % 256, sp, movePlacement (s.seg q).rxPlace it.lane sp⟩ ∧
    (t.seg q).queue = rest) ∧
  -- TRELLIS_PROPOSE of a fault with no spare and no degrade: the side is faulted
  (∀ (s : State) (q : SideId) (it : Item) (rest : List Item), s.isSeg q = true → s.segState q = sACTIVE →
    s.steer q = stWATCH → (s.seg q).queue = it :: rest → it.isRequest = false → s.rxLogical q it.half = some it.lane →
    s.trellis q = true → s.bit (PRT_TRL_CTRL.TRELLIS_OFF q) = false → s.readySpares q = [] →
    s.bit (PRT_TRL_CTRL.POLICY q) = false → ∃ t, exec (.trellisPropose q) s = .next t ∧
    t.rd (PRT_TRL_STATUS.NO_SPARE q) = 1 ∧ t.rd (PRT_TRL_STATUS.PORT_FAULT q) = 1 ∧
    t.rd (PRT_SEG_STATUS.STATE q) = sDETECT) ∧
  -- TRELLIS_PREPARED_RECEIVED for a fault: HOLDING; for a request: COMMITTING at once
  (∀ (s : State) (q : SideId) (msg : List Byte) (pr : Proposal), s.trellisRuns q = true → s.steer q = stPROPOSING →
    (s.seg q).prop = some pr → pr.epoch = byteAt msg 1 → ∃ t, exec (.trellisPreparedReceived q msg) s = .next t ∧
    t.rd (PRT_TRL_STATUS.STEER_STATE q) = (if pr.item.isRequest then stCOMMITTING else stHOLDING)) ∧
  -- TRELLIS_REFUSED_RECEIVED
  (∀ (s : State) (q : SideId) (msg : List Byte) (pr : Proposal), s.trellisRuns q = true →
    s.steer q = stPROPOSING ∨ s.steer q = stCOMMITTING → (s.seg q).prop = some pr → pr.epoch = byteAt msg 1 →
    pr.item.tries < 2 → ∃ t, exec (.trellisRefusedReceived q msg) s = .next t ∧
    t.rd (PRT_TRL_STATUS.STEER_STATE q) = stWATCH ∧
    t.rd (PRT_TRL_CNT.REFUSE_CNT q) = satInc 8 (s.rd (PRT_TRL_CNT.REFUSE_CNT q)) ∧ (t.seg q).prop = none ∧
    { pr.item with tries := pr.item.tries + 1 } ∈ (t.seg q).queue) ∧
  -- COMMIT_HOLD_EXPIRY
  (∀ (s : State) (q : SideId) (pr : Proposal), s.trellisRuns q = true → s.steer q = stHOLDING →
    (s.seg q).prop = some pr → ∃ t, exec (.commitHoldExpiry q) s = .next t ∧
    t.rd (PRT_TRL_STATUS.STEER_STATE q) = stCOMMITTING ∧
    pr.item.since + s.rd (PRT_TRL_CTRL.COMMIT_HOLD q) * usUnit ≤ t.elapsed) ∧
  -- TRELLIS_VOIDED_RECEIVED
  (∀ (s : State) (q : SideId) (msg : List Byte) (pr : Proposal), s.trellisRuns q = true → s.steer q = stCANCELLING →
    (s.seg q).prop = some pr → pr.epoch = byteAt msg 1 → ∃ t, exec (.trellisVoidedReceived q msg) s = .next t ∧
    t.rd (PRT_TRL_STATUS.STEER_STATE q) = stWATCH ∧ t.rd (PRT_TRL_STATUS.CANCELLED q) = 1 ∧ (t.seg q).prop = none) ∧
  -- PROPOSE_REPLY_TIMEOUT
  (∀ (s : State) (q : SideId) (pr : Proposal), s.trellisRuns q = true → s.steer q = stPROPOSING →
    (s.seg q).prop = some pr → pr.item.tries < 2 → ∃ t, exec (.proposeReplyTimeout q) s = .next t ∧
    t.rd (PRT_TRL_STATUS.STEER_STATE q) = stCANCELLING ∧
    t.rd (PRT_TRL_CNT.CANCEL_CNT q) = satInc 8 (s.rd (PRT_TRL_CNT.CANCEL_CNT q)) ∧
    { pr.item with tries := pr.item.tries + 1 } ∈ (t.seg q).queue) ∧
  -- COMMITTING_TIMEOUT
  (∀ (s : State) (q : SideId), s.isSeg q = true → s.segState q = sACTIVE → s.steer q = stCOMMITTING →
    ∃ t, exec (.committingTimeout q) s = .next t ∧ t.rd (PRT_TRL_STATUS.PORT_FAULT q) = 1 ∧
    t.rd (PRT_SEG_STATUS.STATE q) = sDETECT) ∧
  -- CANCELLING_TIMEOUT
  (∀ (s : State) (q : SideId), s.isSeg q = true → s.segState q = sACTIVE → s.steer q = stCANCELLING →
    ∃ t, exec (.cancellingTimeout q) s = .next t ∧ t.rd (PRT_TRL_STATUS.STEER_STATE q) = stWATCH ∧
    t.rd (PRT_TRL_STATUS.CANCELLED q) = 1)

/-- TRELLIS_PROPOSE_RECEIVED, TRELLIS_COMMIT_RECEIVED, TRELLIS_SWITCH, TRELLIS_CANCEL_RECEIVED, READY_TIMEOUT: what
each does where its clause says (rests on R179, R180, R181, R182, R184). Choices of the model it rests on: log entries
2, 36, 56. -/
def Obligations.TrellisTransmittingEnd : Prop :=
  -- TRELLIS_PROPOSE_RECEIVED in STEADY that no test refuses
  (∀ (s : State) (q : SideId) (msg : List Byte), s.trellisRuns q = true → (s.seg q).prepared = none →
    s.refusal q msg = 0 → ∃ t, exec (.trellisProposeReceived q msg) s = .next t ∧
    t.rd (PRT_TRL_STATUS.XMIT_STATE q) = xmREADY ∧
    (t.seg q).prepared = some ⟨byteAt msg 1, byteAt msg 3, byteAt msg 4, msgPlacement msg⟩ ∧
    (t.seg q).replies.length = (s.seg q).replies.length + 1) ∧
  -- TRELLIS_PROPOSE_RECEIVED in STEADY that a test refuses: answered, and nothing prepared
  (∀ (s : State) (q : SideId) (msg : List Byte), s.trellisRuns q = true → (s.seg q).prepared = none →
    s.refusal q msg ≠ 0 → ∃ t, exec (.trellisProposeReceived q msg) s = .next t ∧ t.regs = s.regs ∧
    (t.seg q).prepared = none ∧ (t.seg q).replies.length = (s.seg q).replies.length + 1) ∧
  -- TRELLIS_COMMIT_RECEIVED for the prepared epoch
  (∀ (s : State) (q : SideId) (msg : List Byte) (pr : Prepared), s.trellisRuns q = true →
    (s.seg q).prepared = some pr → byteAt msg 1 = pr.epoch → ∃ t, exec (.trellisCommitReceived q msg) s = .next t ∧
    (t.seg q).switchDue = true ∧ t.regs = s.regs) ∧
  -- TRELLIS_SWITCH to a spare
  (∀ (s : State) (q : SideId) (pr : Prepared), s.trellisRuns q = true → (s.seg q).prepared = some pr →
    (s.seg q).switchDue = true → pr.epoch < 256 → pr.spare ≠ 0x1F → ∃ t, exec (.trellisSwitch q) s = .next t ∧
    t.rd (PRT_TRL_STATUS.TX_EPOCH q) = pr.epoch ∧ t.rd (PRT_TRL_STATUS.XMIT_STATE q) = xmSTEADY ∧
    t.rd (PRT_TRL_STATUS.REMAPPED q) = 1 ∧ (t.seg q).txPlace = pr.placement ∧ (t.seg q).prepared = none) ∧
  -- TRELLIS_CANCEL_RECEIVED for the prepared epoch
  (∀ (s : State) (q : SideId) (msg : List Byte) (pr : Prepared), s.trellisRuns q = true →
    (s.seg q).prepared = some pr → byteAt msg 1 = pr.epoch → (s.seg q).switchDue = false →
    ∃ t, exec (.trellisCancelReceived q msg) s = .next t ∧ t.rd (PRT_TRL_STATUS.XMIT_STATE q) = xmSTEADY ∧
    (t.seg q).prepared = none ∧ (t.seg q).replies.length = (s.seg q).replies.length + 1) ∧
  -- READY_TIMEOUT
  (∀ (s : State) (q : SideId), s.isSeg q = true → s.xmit q = xmREADY → (s.seg q).switchDue = false →
    ∃ t, exec (.readyTimeout q) s = .next t ∧ t.rd (PRT_TRL_STATUS.XMIT_STATE q) = xmSTEADY ∧
    (t.seg q).prepared = none)

/-! ## Calibration (07) -/

/-- CAL_RUN, CAL_AUTO_RUN, CAL_HOLD_WRITE, INTERPOLATION_STEP, CAL_CLEAR: calibration runs start; sets are held,
stepped and cleared (rests on R202, R203, R204, R205, R208, R214, R215, R223). Choices of the model it rests on: log
entries 2, 25, 61, 138, 139. -/
def Obligations.CalibrationRunsStartAndSetsClear : Prop :=
  -- CAL_RUN of one receiver that is eligible and has no run: the run waits to capture
  (∀ (s : State) (half : Bool) (index : Nat), index ≤ 255 → s.hosted = true → s.powerState ≠ 1 →
    s.calReady (2 * index + ofBool half) = true → (s.half (2 * index + ofBool half)).run = none →
    s.holdsData (2 * index + ofBool half) = false → ∃ t, exec (.calRun 0 half index) s = .next t ∧
    (t.half (2 * index + ofBool half)).run = some { stage := .pending, noErr := s.samplerBusy (2 * index + ofBool half) } ∧
    t.rd (CAL_RX.LAST_RESULT (2 * index + ofBool half)) = 6 ∧ t.rd (CAL_RX.NQ_REASON (2 * index + ofBool half)) = 0) ∧
  -- CAL_RUN of one receiver that is not: it ends at once
  (∀ (s : State) (half : Bool) (index q : Nat), index ≤ 255 → s.hosted = true → s.powerState ≠ 1 →
    s.claim (2 * index + ofBool half) = some q → s.calReady (2 * index + ofBool half) = false →
    s.calRateOnly (2 * index + ofBool half) = false → (s.half (2 * index + ofBool half)).run = none →
    ∃ t, exec (.calRun 0 half index) s = .next t ∧ (t.half (2 * index + ofBool half)).run = none ∧
    t.rd (CAL_RX.LAST_RESULT (2 * index + ofBool half)) = 3) ∧
  -- CAL_AUTO_RUN, with no run since the side became active
  (∀ (s : State) (h : HalfId), s.bit CAL_POLICY.AUTO_RUN = true → s.calReady h = true → (s.half h).run = none →
    (s.half h).lastRun = none → s.holdsData h = false → ∃ t, exec (.calAutoRun h) s = .next t ∧
    (t.half h).run = some { stage := .pending, noErr := s.samplerBusy h } ∧ t.rd (CAL_RX.LAST_RESULT h) = 6) ∧
  -- CAL_HOLD_WRITE ends a run
  (∀ (s : State) (h : HalfId), s.hosted = true → ∃ t, exec (.calHoldWrite h) s = .next t ∧ t.rd (CAL_RX.HOLD h) = 1 ∧
    (t.half h).run = none) ∧
  -- INTERPOLATION_STEP in a tile that is ON
  (∀ (s : State) (i : TileId) (temp : Int), s.tileState i = 2 → ∃ t, exec (.interpolationStep i temp) s = .next t ∧
    t.rd (CAL_TEMP.TEMP i) = ofSigned 10 temp ∧ t.rd (CAL_TEMP.VALID i) = 1 ∧ t.calTab = s.calTab) ∧
  -- CAL_CLEAR of the whole device
  (∀ (s : State) (half : Bool) (index h : Nat), s.hosted = true → s.powerState ≠ 1 → h < 512 →
    s.calTab.entries.any (fun e => e.2.valid && decide (e.1 < 2048)) = true →
    ∃ t, exec (.calClear 3 half index) s = .next t ∧ (∀ i : Nat, i < 4 → (t.calRec h i).valid = false) ∧
    (t.half h).run = none ∧ t.rd CAL_STATUS.DIRTY = 1)

/-- CAL_CAPTURE_START, CAL_CAPTURE_END, CAL_COMPUTE_DONE: what each does where its clause says (rests on R205, R206,
R207, R209, R210, R212). Choices of the model it rests on: log entries 25, 41, 102. -/
def Obligations.CalibrationCaptureAndCompute : Prop :=
  -- CAL_CAPTURE_START
  (∀ (s : State) (h : HalfId) (r : CalRun), (s.half h).run = some r → r.stage = .pending → s.holdsData h = false →
    s.engineUp h = true →
    (List.range 4).all (fun i => 4 * engineOf h + i == h.val || (s.half (4 * engineOf h + i)).run.isNone) = true →
    ∃ t, exec (.calCaptureStart h) s = .next t ∧
    (t.half h).run = some { r with stage := .capturing, noErr := r.noErr || s.samplerBusy h }) ∧
  -- CAL_CAPTURE_END with every test passed
  (∀ (s : State) (h : HalfId) (r : CalRun) (stats : CaptureStats) (errors : CaptureErrors), (s.half h).run = some r →
    r.stage = .capturing → nqReason (s.rd (LCH_FOM.RATE_SLOT h)) stats r.disturbed = 0 →
    ∃ t, exec (.calCaptureEnd h stats errors) s = .next t ∧
    (t.half h).run.map (fun x => (x.stage, x.measured)) = some (.computing, measuredSet (s.half h).applied (if 5 ≤ s.rd (LCH_FOM.RATE_SLOT h) then 4 else 2) stats errors) ∧
    t.rd (CAL_RX.NQ_REASON h) = s.rd (CAL_RX.NQ_REASON h)) ∧
  -- CAL_CAPTURE_END with a test failed
  (∀ (s : State) (h : HalfId) (r : CalRun) (stats : CaptureStats) (errors : CaptureErrors), (s.half h).run = some r →
    r.stage = .capturing → nqReason (s.rd (LCH_FOM.RATE_SLOT h)) stats r.disturbed ≠ 0 →
    ∃ t, exec (.calCaptureEnd h stats errors) s = .next t ∧ (t.half h).run = none ∧ t.rd (CAL_RX.LAST_RESULT h) = 2 ∧
    t.rd (CAL_RX.NQ_REASON h) = nqReason (s.rd (LCH_FOM.RATE_SLOT h)) stats r.disturbed) ∧
  -- CAL_COMPUTE_DONE: the working table is not yet changed
  (∀ (s : State) (h : HalfId) (r : CalRun), (s.half h).run = some r → r.stage = .computing →
    ∃ t, exec (.calComputeDone h) s = .next t ∧ (t.half h).run.map (fun x => x.stage) = some .scheduled ∧
    (t.half h).pendingRun = true ∧ (t.half h).pendingSet.isSome = true ∧ t.calTab = s.calTab)

/-- CAL_STORE, CAL_AUTO_STORE, CAL_STORE_FLASH_DONE, CAL_STORE_TIMEOUT, CAL_RELOAD: storing and reloading the
calibration table, step by step (rests on R214, R215, R219, R220, R221). Choices of the model it rests on: log entries
2, 14, 136, 137. -/
def Obligations.CalibrationStoreTakesItsSteps : Prop :=
  -- CAL_STORE while a store is under way is refused with BUSY
  (∀ (s : State), s.hosted = true → s.powerState ≠ 1 → s.bit CAL_STATUS.STORE_BUSY = true →
    ∃ t, exec (.calStore) s = .next t ∧ t.rd CAL_STATUS.STORE_RESULT = 4 ∧ t.calStore = s.calStore) ∧
  -- CAL_STORE with the flash free and no valid copy yet: the table is copied, and the target's header is to be erased
  (∀ (s : State), s.hosted = true → s.powerState ≠ 1 → s.bit CAL_STATUS.STORE_BUSY = false → s.imageWriting = false →
    s.currentCopy = none → ∃ t, exec (.calStore) s = .next t ∧ t.rd CAL_STATUS.STORE_BUSY = 1 ∧
    t.calStore.map (fun c => (c.step, c.toB, c.gen, c.buffer)) = some (2, false, 1, s.calTab)) ∧
  -- CAL_AUTO_STORE
  (∀ (s : State), s.bit CAL_POLICY.AUTO_STORE = true → s.bit CAL_STATUS.DIRTY = true →
    s.bit CAL_STATUS.STORE_BUSY = false → s.imageWriting = false → s.currentCopy = none → s.awake = true →
    ∃ t, exec (.calAutoStore) s = .next t ∧ t.rd CAL_STATUS.STORE_BUSY = 1 ∧
    t.lastStore = max s.elapsed (s.lastStore + s.rd CAL_POLICY.STORE_INTERVAL * 600000000 * usUnit) ∧
    t.calStore.map (fun c => (c.step, c.buffer)) = some (2, s.calTab)) ∧
  -- CAL_STORE_FLASH_DONE of step 2: the target's header sector is erased, and nothing else
  (∀ (s : State) (c : CalStore) (a : Nat), s.calStore = some c → c.step = 2 → s.awake = true →
    ∃ t, exec (.calStoreFlashDone true) s = .next t ∧ t.calStore = some { c with step := 3 } ∧
    t.flash.get a = (if copyBase c.toB ≤ a ∧ a < copyBase c.toB + 4096 then 0xFF else s.flash.get a) ∧ t.regs = s.regs) ∧
  -- CAL_STORE_FLASH_DONE of step 3: the target's body is erased, and nothing else
  (∀ (s : State) (c : CalStore) (a : Nat), s.calStore = some c → c.step = 3 → s.awake = true →
    ∃ t, exec (.calStoreFlashDone true) s = .next t ∧ t.calStore = some { c with step := 4 } ∧
    t.flash.get a = (if copyBody c.toB ≤ a ∧ a < copyBody c.toB + bodyLength then 0xFF else s.flash.get a) ∧
    t.regs = s.regs) ∧
  -- CAL_STORE_FLASH_DONE: of step 4: the body is programmed from the copy of the table, and nothing else
  (∀ (s : State) (c : CalStore) (a : Nat), s.calStore = some c → c.step = 4 → s.awake = true →
    ∃ t, exec (.calStoreFlashDone true) s = .next t ∧ t.calStore = some { c with step := 5 } ∧
    t.flash.get a = (if copyBody c.toB ≤ a ∧ a < copyBody c.toB + bodyLength then (calBody c.buffer).getD (a - copyBody c.toB) 0 else s.flash.get a) ∧
    t.regs = s.regs) ∧
  -- CAL_STORE_FLASH_DONE: of step 5: the body read back has matched
  (∀ (s : State) (c : CalStore), s.calStore = some c → c.step = 5 → s.awake = true →
    exec (.calStoreFlashDone true) s = .next (s.setCalStore (some { c with step := 6 }))) ∧
  -- CAL_STORE_FLASH_DONE of step 6: the header is programmed, with its two CRCs
  (∀ (s : State) (c : CalStore), s.calStore = some c → c.step = 6 → s.awake = true →
    ∃ t, exec (.calStoreFlashDone true) s = .next t ∧ t.calStore = some { c with step := 7 } ∧
    t.flash = s.flash.put (copyBase c.toB) (calHeader c.gen c.time (crc32 (calBody c.buffer)) ++ leBytes 4 (crc32 (calHeader c.gen c.time (crc32 (calBody c.buffer)))))) ∧
  -- CAL_STORE_FLASH_DONE of step 7: the copy is valid and current
  (∀ (s : State) (c : CalStore), s.calStore = some c → c.step = 7 → c.gen < 2 ^ 32 → s.awake = true →
    ∃ t, exec (.calStoreFlashDone true) s = .next t ∧ t.calStore = none ∧ t.flash = s.flash ∧
    t.rd CAL_STATUS.STORE_RESULT = 1 ∧ t.rd CAL_STATUS.STORE_BUSY = 0 ∧ t.rd CAL_GEN.GENERATION = c.gen ∧
    t.rd CAL_STATUS.DIRTY = ofBool c.changed) ∧
  -- CAL_STORE_FLASH_DONE: a verification that fails erases the target's header
  (∀ (s : State) (c : CalStore) (a : Nat), s.calStore = some c → c.step = 5 ∨ c.step = 7 → s.awake = true →
    ∃ t, exec (.calStoreFlashDone false) s = .next t ∧ t.calStore = none ∧
    t.flash.get a = (if copyBase c.toB ≤ a ∧ a < copyBase c.toB + 4096 then 0xFF else s.flash.get a) ∧
    t.rd CAL_STATUS.STORE_RESULT = 2 ∧ t.rd CAL_STATUS.STORE_BUSY = 0) ∧
  -- CAL_STORE_TIMEOUT: nothing outside the target copy has changed
  (∀ (s : State) (c : CalStore) (a : Nat), s.calStore = some c → a < copyBase c.toB ∨ copyBase c.toB + 0x40000 ≤ a →
    s.awake = true → ∃ t, exec (.calStoreTimeout) s = .next t ∧ t.calStore = none ∧ t.rd CAL_STATUS.STORE_RESULT = 3 ∧
    t.rd CAL_STATUS.STORE_BUSY = 0 ∧ t.flash.get a = s.flash.get a) ∧
  -- CAL_RELOAD: the table of the current copy, or no valid record where there is none or the flash does not answer (log entry 12: whether it answers is a free value)
  (∀ (s : State), s.hosted = true → s.powerState ≠ 1 → s.bit CAL_STATUS.STORE_BUSY = false →
    ∃ t, exec (.calReload) s = .next t ∧ t.rd CAL_STATUS.DIRTY = 0 ∧
    t.calTab = (match if s.takeFree.1 % 2 == 1 then s.currentCopy else none with | some c => bodyTab 2048 0 (s.flash.read (copyBody c.1) bodyLength) {} | none => {}) ∧
    t.rd CAL_STATUS.BOOT_COPY = (match if s.takeFree.1 % 2 == 1 then s.currentCopy else none with | some c => 1 + ofBool c.1 | none => 0) ∧
    t.rd CAL_GEN.GENERATION = (match if s.takeFree.1 % 2 == 1 then s.currentCopy else none with | some c => c.2 % 2 ^ 32 | none => 0))

/-! ## Lane engines (08) -/

/-- ENGINE_STEP_END, JOB_DISPATCH, SAFE_POINT, RESTORE_DONE, WAIT_EXPIRED: what dispatch, safe points, restoring and
waiting do to the jobs of a lane engine (rests on R225, R234, R235, R236, R238, R248). Choices of the model it rests
on: log entries 2, 12, 46, 47, 72, 104, 133, 134, 135. -/
def Obligations.EnginesServeJobs : Prop :=
  -- ENGINE_STEP_END: the ready step of the highest priority starts
  (∀ (s : State) (k : EngineId), s.rd (ENG_STATUS.STATE k) = engRunning → s.ownPriority k ≠ 0 →
    exec (.engineStepEnd k) s = .next (s.upE k (fun e => { e with work := s.ownPriority k }))) ∧
  -- JOB_DISPATCH of the job that comes next, where its Slice permits it
  (∀ (s : State) (k : EngineId) (j : Job), s.rd (ENG_STATUS.STATE k) = engRunning →
    s.bit ENG_CTRL.SLICE_JOBS_OFF = false → s.ownWork k = false → (s.engine k).slot = none → s.pickJob k = some j →
    s.permits j = true → ∃ t, exec (.jobDispatch k) s = .next t ∧ t.rd (ENG_STATUS.JOB_BUSY k) = 1 ∧
    t.rd (ENG_STATUS.JOB_STATE k) = 1 ∧ (t.engine k).queue = (s.engine k).queue.erase j ∧
    (t.engine k).lastSlice = j.slice) ∧
  -- SAFE_POINT of a stopping job: it goes on to restore the receiver
  (∀ (s : State) (k : EngineId) (j : Job) (r : StepResult), (s.engine k).slot = some j →
    s.rd (ENG_STATUS.JOB_STATE k) = 2 → ∃ t, exec (.safePoint k r) s = .next t ∧ t.rd (ENG_STATUS.JOB_STATE k) = 3 ∧
    (t.engine k).slot = some j) ∧
  -- SAFE_POINT within a dwell: the errors are added up
  (∀ (s : State) (k : EngineId) (j : Job) (r : StepResult), (s.engine k).slot = some j →
    s.rd (ENG_STATUS.JOB_STATE k) = 1 → j.paid = true → r.complete = false → ∃ t, exec (.safePoint k r) s = .next t ∧
    (t.engine k).slot = some { j with count := j.count + r.errors }) ∧
  -- RESTORE_DONE: the receiver is at rest again, and the job has left the engine
  (∀ (s : State) (k : EngineId) (j : Job), (s.engine k).slot = some j → s.rd (ENG_STATUS.JOB_STATE k) = 3 →
    (s.half j.half).marginWait = none → s.canWrite j = true → ∃ t, exec (.restoreDone k) s = .next t ∧
    (t.half j.half).moved = none ∧ (t.engine k).slot = none ∧ t.rd (ENG_STATUS.JOB_BUSY k) = 0) ∧
  -- WAIT_EXPIRED: the job that has waited longest ends
  (∀ (s : State) (k : EngineId) (j : Job) (rest : List Job), (s.engine k).queue = j :: rest →
    ∃ t, exec (.waitExpired k) s = .next t ∧ (t.engine k).queue = rest ∧
    t.rd (ENG_CNT.EXPIRED k) = satInc 8 (s.rd (ENG_CNT.EXPIRED k)))

/-- ENGINE_FAULT, ENGINE_RESTART_DONE, ENG_PERMIT_WRITE, SLICE_JOBS_OFF_WRITE, EPOCH_START: what each does where its
clause says (rests on R232, R233, R242, R244, R245, R246, R247, R339). Choices of the model it rests on: log entries
2, 12, 63, 113. -/
def Obligations.EngineFaultsControlAndEpochs : Prop :=
  -- ENGINE_FAULT of an engine below its limit of faults: it is reloaded
  (∀ (s : State) (k : EngineId), s.rd (ENG_STATUS.STATE k) = engRunning →
    ((s.engine k).faultsAt.filter (fun t => decide (s.elapsed < t + 1000000 * usUnit))).length + 1 < s.rd ENG_CTRL.FAULT_LIMIT →
    ∃ t, exec (.engineFault k) s = .next t ∧ t.rd (ENG_STATUS.STATE k) = engRestarting ∧
    t.rd (ENG_STATUS.FAULTS k) = satInc 4 (s.rd (ENG_STATUS.FAULTS k)) ∧ (t.engine k).work = 0) ∧
  -- ENGINE_FAULT that reaches the limit: it is disabled
  (∀ (s : State) (k : EngineId), s.rd (ENG_STATUS.STATE k) = engRunning →
    s.rd ENG_CTRL.FAULT_LIMIT ≤ ((s.engine k).faultsAt.filter (fun t => decide (s.elapsed < t + 1000000 * usUnit))).length + 1 →
    ∃ t, exec (.engineFault k) s = .next t ∧ t.rd (ENG_STATUS.STATE k) = engDisabled ∧
    t.rd (ENG_STATUS.FAULTS k) = satInc 4 (s.rd (ENG_STATUS.FAULTS k))) ∧
  -- ENGINE_RESTART_DONE outside SWAP_FW
  (∀ (s : State) (k : EngineId), s.rd (ENG_STATUS.STATE k) = engRestarting → s.imgOp = none →
    ∃ t, exec (.engineRestartDone k) s = .next t ∧ t.rd (ENG_STATUS.STATE k) = engRunning) ∧
  -- ENG_PERMIT_WRITE
  (∀ (s : State) (k : SliceId) (value : Nat), s.hosted = true → ∃ t, exec (.engPermitWrite k value) s = .next t ∧
    t.rd (ENG_PERMIT.EYE_SCAN k) = bitsOf value 0 1 ∧ t.rd (ENG_PERMIT.MARGIN_SAMPLER k) = bitsOf value 1 1 ∧
    t.rd (ENG_PERMIT.MARGIN_DATA k) = bitsOf value 2 1 ∧ t.rd (ENG_PERMIT.DATA_ON_DATA k) = bitsOf value 3 1) ∧
  -- SLICE_JOBS_OFF_WRITE
  (∀ (s : State) (v : Bool), s.hosted = true → ∃ t, exec (.sliceJobsOffWrite v) s = .next t ∧
    t.rd ENG_CTRL.SLICE_JOBS_OFF = ofBool v) ∧
  -- EPOCH_START while the device runs; the epoch is one later, or the one Fabric Time has reached, and time stands at its start or later
  (∀ (s : State) (k : Nat), k < 256 → s.awake = true → s.sliceState k ≠ slFREE → ∃ t, exec (.epochStart) s = .next t ∧
    (t.slicex k).balance = s.rd (SLC_SHARE.TOKENS k) ∧ t.tim.epoch = max (s.tim.epoch + 1) (s.nowNs / 10000) ∧
    t.now = (s.fabricTo (max (s.tim.epoch + 1) (s.nowNs / 10000) * 10000 * nsUnit)).now) ∧
  -- EPOCH_START: an engine that does not run and has not run in the epoch shows LOAD 0
  (∀ (s : State) (k : EngineId), s.awake = true → s.rd (ENG_STATUS.STATE k) ≠ engRunning → (s.engine k).ran = false →
    ∃ t, exec (.epochStart) s = .next t ∧ t.rd (ENG_STATUS.LOAD k) = 0 ∧
    t.rd (ENG_STATUS.STATE k) = s.rd (ENG_STATUS.STATE k))

/-! ## Structure image (09) -/

/-- BOOT, CONFIRM, CONFIRM_AFTER_EXPIRY, ADVANCE_ARB: boot, confirmation and the anti-rollback fuses (rests on R258,
R259, R260, R261, R262, R263, R318, R433). Choices of the model it rests on: log entries 2, 14, 55. -/
def Obligations.BootPicksAnImage : Prop :=
  -- BOOT with the source of the reset over: the image picked runs, or the device enters recovery mode; Slice 0 is there
  (∀ (s : State) (answers : Bool) (a : Nat), s.power.inReset = true → s.power.bootDue = true →
    s.power.resetN = false → s.power.aonReset = false → s.power.lowRails = [] →
    ∃ t, exec (.boot answers) s = .next t ∧
    t.chip = (match if answers then s.pickSlot else none with | some c => some c.2 | none => s.chip) ∧
    t.rd RST_STATUS.BOOT_DONE = (match if answers then s.pickSlot else none with | some _ => 1 | none => s.rd RST_STATUS.BOOT_DONE) ∧
    t.rd IMG_STATUS.RECOVERY = (match if answers then s.pickSlot else none with | some _ => s.rd IMG_STATUS.RECOVERY | none => 1) ∧
    t.rd IMG_STATUS.BOOT_SLOT = (match if answers then s.pickSlot else none with | some c => 1 + ofBool c.1 | none => s.rd IMG_STATUS.BOOT_SLOT) ∧
    (∀ b, (if answers then s.pickSlot else none).map Prod.fst = some b → t.tried b = true ∨ t.confirmedSlot b = true) ∧
    (((if answers then s.pickSlot else none).map (fun c => slotTrailer c.1)) ≠ some a → t.flash.get a = s.flash.get a) ∧
    t.power.inReset = false ∧ t.power.bootDue = false ∧ t.rd (SLC_STATUS.STATE 0) = slACTIVE) ∧
  -- CONFIRM: one byte of the trailer is programmed
  (∀ (s : State) (a : Nat), s.served = true → s.powerState ≠ 1 → s.bit IMG_STATUS.CMD_BUSY = false →
    s.bit IMG_STATUS.RECOVERY = false → ∃ t, exec (.confirm) s = .next t ∧ t.rd IMG_STATUS.CONFIRMED = 1 ∧
    t.confirmedSlot s.bootedB = true ∧ (a ≠ slotTrailer s.bootedB + 1 → t.flash.get a = s.flash.get a) ∧
    t.rd IMG_STATUS.CMD_RESULT = 1) ∧
  -- CONFIRM_AFTER_EXPIRY
  (∀ (s : State) (bs : List Byte) (a : Nat), s.chip = some bs → s.power.inReset = false →
    s.bit IMG_STATUS.RECOVERY = false → imgConfirmAfter bs ≠ 0 → s.power.watchdogSeen = false →
    s.bit IMG_STATUS.CONFIRMED = false → s.powerState = 0 → ∃ t, exec (.confirmAfterExpiry) s = .next t ∧
    t.rd IMG_STATUS.CONFIRMED = 1 ∧ t.confirmedSlot s.bootedB = true ∧
    (a ≠ slotTrailer s.bootedB + 1 → t.flash.get a = s.flash.get a) ∧
    s.elapsed + imgConfirmAfter bs * 1000000 * usUnit ≤ t.elapsed + s.power.ranFor) ∧
  -- ADVANCE_ARB of a confirmed image
  (∀ (s : State) (bs : List Byte), s.served = true → s.powerState ≠ 1 → s.bit IMG_STATUS.CMD_BUSY = false →
    s.bit IMG_STATUS.RECOVERY = false → s.bit IMG_STATUS.CONFIRMED = true → s.chip = some bs →
    ∃ t, exec (.advanceArb) s = .next t ∧ t.fuses.steps = max s.fuses.steps (imgArb bs) ∧
    t.rd IMG_STATUS.ARB_FUSE = max s.fuses.steps (imgArb bs) % 2 ^ 5 ∧ t.rd IMG_STATUS.CMD_RESULT = 1) ∧
  -- ADVANCE_ARB of an image that is not confirmed: refused
  (∀ (s : State), s.served = true → s.powerState ≠ 1 → s.bit IMG_STATUS.CMD_BUSY = false →
    s.bit IMG_STATUS.CONFIRMED = false → exec (.advanceArb) s = .next (s.wr IMG_STATUS.CMD_RESULT 5))

/-- WRITE_SLOT, IMG_FLASH_OP_DONE, SWAP_FW, PROGRAM_KEY, REVOKE_KEY: image writes, SWAP_FW and the image keys (rests
on R256, R262, R264, R266). Choices of the model it rests on: log entries 2, 14, 54. -/
def Obligations.ImageWritesAndKeys : Prop :=
  -- WRITE_SLOT
  (∀ (s : State) (len : Nat), s.served = true → s.powerState ≠ 1 → s.bit IMG_STATUS.CMD_BUSY = false →
    s.bit IMG_STATUS.RECOVERY = false → s.calStore = none → len % 4096 ≠ 0 → ∃ t, exec (.writeSlot len) s = .next t ∧
    t.imgOp = some (.write { step := 1, toB := !s.bootedB, len := 4096 * (len % 4096), src := s.imgSrc }) ∧
    t.rd IMG_STATUS.CMD_BUSY = 1) ∧
  -- WRITE_SLOT while another action is under way: BUSY
  (∀ (s : State) (len : Nat), s.served = true → s.powerState ≠ 1 → s.bit IMG_STATUS.CMD_BUSY = true →
    exec (.writeSlot len) s = .next (s.wr IMG_STATUS.CMD_RESULT 2)) ∧
  -- IMG_FLASH_OP_DONE of step 1: the trailer sector is erased, and nothing else
  (∀ (s : State) (w : ImgWrite) (a : Nat), s.imgOp = some (.write w) → w.step = 1 →
    ∃ t, exec (.imgFlashOpDone .ok) s = .next t ∧
    t.flash.get a = (if slotTrailer w.toB ≤ a ∧ a < slotTrailer w.toB + 4096 then 0xFF else s.flash.get a) ∧
    t.imgOp = some (.write { w with step := 2 }) ∧ t.regs = s.regs) ∧
  -- IMG_FLASH_OP_DONE: of step 2: the area of the image is erased, and nothing else; the image is then read
  (∀ (s : State) (w : ImgWrite) (a : Nat), s.imgOp = some (.write w) → w.step = 2 →
    ∃ t, exec (.imgFlashOpDone .ok) s = .next t ∧
    t.flash.get a = (if slotBase w.toB ≤ a ∧ a < slotBase w.toB + w.len then 0xFF else s.flash.get a) ∧
    (t.rd IMG_STATUS.CMD_BUSY = 0 ∨ (match t.imgOp with | some (.write v) => v.step == 3 && v.toB == w.toB && v.len == w.len | _ => false) = true)) ∧
  -- IMG_FLASH_OP_DONE: of step 3: all but the first sector of the image read is programmed, and nothing else
  (∀ (s : State) (w : ImgWrite) (a : Nat), s.imgOp = some (.write w) → w.step = 3 → w.data.length = w.len →
    ∃ t, exec (.imgFlashOpDone .ok) s = .next t ∧
    t.flash.get a = (if slotBase w.toB + 4096 ≤ a ∧ a < slotBase w.toB + w.len then w.data.getD (a - slotBase w.toB) 0 else s.flash.get a) ∧
    t.imgOp = some (.write { w with step := 4 }) ∧ t.regs = s.regs) ∧
  -- IMG_FLASH_OP_DONE: of step 4: the first sector of the image read is programmed
  (∀ (s : State) (w : ImgWrite) (a : Nat), s.imgOp = some (.write w) → w.step = 4 → 4096 ≤ w.data.length → a < 4096 →
    ∃ t, exec (.imgFlashOpDone .ok) s = .next t ∧ t.flash.get (slotBase w.toB + a) = w.data.getD a 0 ∧
    t.imgOp = some (.write { w with step := 5 })) ∧
  -- IMG_FLASH_OP_DONE: of step 5: an authentic image ends the write, any other is erased by step 6
  (∀ (s : State) (w : ImgWrite), s.imgOp = some (.write w) → w.step = 5 → s.storeWait = false →
    ∃ t, exec (.imgFlashOpDone .ok) s = .next t ∧
    t.imgOp = (if (s.slotAuthentic w.toB).isSome then none else some (.write { w with step := 6, result := 3 })) ∧
    t.lastWritten = (if (s.slotAuthentic w.toB).isSome then some w.toB else s.lastWritten) ∧
    t.rd IMG_STATUS.CMD_RESULT = (if (s.slotAuthentic w.toB).isSome then 1 else s.rd IMG_STATUS.CMD_RESULT)) ∧
  -- IMG_FLASH_OP_DONE: of a step that failed: FLASH_FAIL, with nothing changed outside what the step worked on
  (∀ (s : State) (w : ImgWrite) (a : Nat), s.imgOp = some (.write w) → 1 ≤ w.step ∧ w.step ≤ 4 → s.storeWait = false →
    a < w.area.1 ∨ w.area.1 + w.area.2 ≤ a → ∃ t, exec (.imgFlashOpDone .failed) s = .next t ∧
    t.flash.get a = s.flash.get a ∧ t.rd IMG_STATUS.CMD_RESULT = 4 ∧ t.rd IMG_STATUS.CMD_BUSY = 0 ∧ t.imgOp = none) ∧
  -- SWAP_FW: the first running engine restarts where the slot written last holds an authentic image of the running ABI; otherwise refused
  (∀ (s : State) (k : EngineId), s.served = true → s.powerState ≠ 1 → s.bit IMG_STATUS.CMD_BUSY = false →
    s.bit IMG_STATUS.RECOVERY = false → s.imgOp = none →
    (List.range 128).find? (fun n => s.rd (ENG_STATUS.STATE n) == engRunning) = some k.val →
    ∃ t, exec (.swapFw) s = .next t ∧ t.imgOp = (if s.swappable then some (.swap k) else none) ∧
    t.rd (ENG_STATUS.STATE k) = (if s.swappable then engRestarting else engRunning) ∧
    t.rd IMG_STATUS.CMD_BUSY = (if s.swappable then 1 else s.rd IMG_STATUS.CMD_BUSY)) ∧
  -- SWAP_FW with no slot written since boot: refused
  (∀ (s : State), s.served = true → s.powerState ≠ 1 → s.bit IMG_STATUS.CMD_BUSY = false → s.lastWritten = none →
    exec (.swapFw) s = .next (s.wr IMG_STATUS.CMD_RESULT 5)) ∧
  -- PROGRAM_KEY of an empty slot: its hash is read from host memory
  (∀ (s : State) (slot : Fin 4) (g : Nat), s.served = true → s.powerState ≠ 1 → s.bit IMG_STATUS.CMD_BUSY = false →
    slot.val ≠ 0 → s.rd (IMG_KEYS.SLOT slot) = 0 → s.sliceHeld 0 = false → s.freeTag = some g →
    ∃ t, exec (.programKey slot) s = .next t ∧ t.imgOp = some (.key slot) ∧ t.rd IMG_STATUS.CMD_BUSY = 1 ∧
    t.tag g = .outstanding .keyHash s.elapsed) ∧
  -- PROGRAM_KEY of a slot that is not empty: refused
  (∀ (s : State) (slot : Fin 4), s.served = true → s.powerState ≠ 1 → s.bit IMG_STATUS.CMD_BUSY = false →
    s.rd (IMG_KEYS.SLOT slot) ≠ 0 → exec (.programKey slot) s = .next (s.wr IMG_STATUS.CMD_RESULT 5)) ∧
  -- REVOKE_KEY while another slot stays programmed
  (∀ (s : State) (slot : Fin 4), s.served = true → s.powerState ≠ 1 → s.bit IMG_STATUS.CMD_BUSY = false →
    (List.range 4).any (fun n => n != slot.val && s.rd (IMG_KEYS.SLOT n) == 1) = true →
    ∃ t, exec (.revokeKey slot) s = .next t ∧ slot.val ∈ t.fuses.revoked ∧ t.rd (IMG_KEYS.SLOT slot) = 3 ∧
    t.rd IMG_STATUS.CMD_RESULT = 1) ∧
  -- REVOKE_KEY of the last programmed slot: refused
  (∀ (s : State) (slot : Fin 4), s.served = true → s.powerState ≠ 1 → s.bit IMG_STATUS.CMD_BUSY = false →
    (List.range 4).any (fun n => n != slot.val && s.rd (IMG_KEYS.SLOT n) == 1) = false →
    exec (.revokeKey slot) s = .next (s.wr IMG_STATUS.CMD_RESULT 5))

/-! ## Transactions (09) -/

/-- BEGIN, RWT_WRITE, BCT_STAGE, COMMIT, ROLLBACK: BEGIN, staging, COMMIT and ROLLBACK (rests on R47, R267, R268,
R269, R270, R272, R275). Choices of the model it rests on: log entries 2, 81. -/
def Obligations.TransactionsOpenAndStage : Prop :=
  -- TXN_BEGIN in IDLE
  (∀ (s : State), s.hosted = true → s.powerState ≠ 1 → s.mgmt.coresDown = false → s.txnState = xIDLE →
    ∃ t, exec (.txnBegin) s = .next t ∧ t.txnState = xOPEN ∧ t.rd TXN_STATUS.ID = (s.rd TXN_STATUS.ID + 1) % 2 ^ 8 ∧
    t.txn = { touched := s.elapsed }) ∧
  -- RWT_WRITE of PRT_MODE covered by the scope: staged, and no register changes
  (∀ (s : State) (p : PortId) (v : Nat), s.hosted = true → s.txnState = xOPEN → s.inScope p = true →
    s.txn.size < 8192 → ∃ t, exec (.rwtWrite (PRT_MODE.off p) v) s = .next t ∧
    t.txn.shadow.get (PRT_MODE.TILE p, 0) (PRT_MODE.TILE p).key = (PRT_MODE.TILE p, bitsOf v 24 3) ∧
    t.txn.shadow.get (PRT_MODE.ENABLE p, 0) (PRT_MODE.ENABLE p).key = (PRT_MODE.ENABLE p, bitsOf v 31 1) ∧
    t.regs = s.regs) ∧
  -- RWT_WRITE outside a transaction or its scope: discarded, with STRAY
  (∀ (s : State) (p : PortId) (v : Nat), s.hosted = true → s.txnState ≠ xOPEN ∨ s.inScope p = false →
    exec (.rwtWrite (PRT_MODE.off p) v) s = .next (s.on TXN_STATUS.STRAY)) ∧
  -- BCT_STAGE in scope
  (∀ (s : State) (hi : Nat), s.hosted = true → s.txnState = xOPEN → s.bit TXN_SCOPE_G.CHANNEL_TABLE = true →
    s.txn.size + 2 ≤ 8192 → ∃ t, exec (.bctStage hi) s = .next t ∧
    t.txn.table.get 0 (s.rd IMG_BCT_INDEX.INDEX) = storedEntry (s.rd IMG_BCT_INDEX.INDEX) (s.rd (IMG_BCT.ENTRY 0) + 2 ^ 32 * (hi % 2 ^ 32)) ∧
    t.bct = s.bct ∧ t.regs = s.regs) ∧
  -- COMMIT in OPEN: T is held to its range, and validation begins
  (∀ (s : State), s.hosted = true → s.powerState ≠ 1 → s.mgmt.coresDown = false → s.txnState = xOPEN →
    s.nowNs + 10000000000 < 2 ^ 64 → ∃ t, exec (.commit) s = .next t ∧ t.txnState = xVALIDATING ∧
    t.txnTime = clampNat (s.nowNs + 100000) (s.nowNs + 10000000000) s.txnTime ∧ t.txn.shadow = s.txn.shadow) ∧
  -- ROLLBACK before T
  (∀ (s : State), s.hosted = true → s.powerState ≠ 1 → s.mgmt.coresDown = false →
    s.txnState = xOPEN ∨ s.txnState = xVALIDATING ∨ s.txnState = xSCHEDULED → ∃ t, exec (.rollback) s = .next t ∧
    t.txnState = xIDLE ∧ t.rd TXN_STATUS.LAST_RESULT = 4 ∧ t.rd TXN_STATUS.REASON = 0xE ∧ t.txn = {})

/-- TXN_VALIDATION_DONE, TXN_COMMIT_TIME, APPLY_POINT, APPLY_POINT_TIMEOUT, TXN_APPLY_FAIL, TXN_ROLLBACK_DONE: what
each does where its clause says (rests on R270, R271, R273, R274, R278, R279). Choices of the model it rests on: log
entries 2, 18, 27, 87, 113, 147. -/
def Obligations.TransactionsCommitOrFail : Prop :=
  -- TXN_VALIDATION_DONE of a commit that R271 refuses
  (∀ (s : State) (r : Nat × Nat), s.txnState = xVALIDATING →
    s.commitRefusal (s.staging.clamped s.scopePorts) = some r → ∃ t, exec (.txnValidationDone) s = .next t ∧
    t.txnState = xIDLE ∧ t.rd TXN_STATUS.LAST_RESULT = 2 ∧ t.rd TXN_STATUS.REASON = r.1 % 2 ^ 5 ∧
    t.rd TXN_STATUS.FAIL_INDEX = r.2 % 2 ^ 8 ∧ t.txn = {}) ∧
  -- TXN_VALIDATION_DONE of a commit that passes every check
  (∀ (s : State), s.txnState = xVALIDATING → s.commitRefusal (s.staging.clamped s.scopePorts) = none →
    ∃ t, exec (.txnValidationDone) s = .next t ∧ t.txnState = xSCHEDULED ∧
    t.txn.changes = s.changesTo (s.staging.clamped s.scopePorts) (s.txn.shadow.entries.map (fun e => e.2.1) ++ clampCells s.scopePorts) ∧
    t.txn.tiles = s.scopeTiles (s.staging.clamped s.scopePorts)) ∧
  -- TXN_COMMIT_TIME of a change of a global register
  (∀ (s : State) (v old : Nat), s.txnState = xSCHEDULED → s.txn.changes = [⟨none, TRC_TRIG_CTRL.SRC_EN, v, old⟩] →
    s.txn.restruct = [] → v < 16 → ∃ t, exec (.txnCommitTime) s = .next t ∧ t.rd TRC_TRIG_CTRL.SRC_EN = v ∧
    t.txnState = xIDLE ∧ t.rd TXN_STATUS.LAST_RESULT = 1 ∧ t.now = (s.fabricTo (s.txnTime * nsUnit)).now) ∧
  -- TXN_COMMIT_TIME of a change of an enabled Port: it waits for the Apply Points of the directions that the change is of
  (∀ (s : State) (p : PortId) (c : Cell) (v old : Nat), s.txnState = xSCHEDULED →
    s.txn.changes = [⟨some p.val, c, v, old⟩] → s.txn.restruct = [] → s.txn.lost = [] → s.enabled p = true →
    ∃ t, exec (.txnCommitTime) s = .next t ∧ t.txnState = xAPPLYING ∧ t.txn.waiting = [p.val] ∧
    (t.portx p).applyAB = (oneWay p c != some (2 * p.val + 1)) ∧
    (t.portx p).applyBA = (oneWay p c != some (2 * p.val)) ∧
    ((t.portx p).applyAB = true ∨ (t.portx p).applyBA = true) ∧ t.now = (s.fabricTo (s.txnTime * nsUnit)).now) ∧
  -- TXN_COMMIT_TIME after the Lane Tile of a Port that changes was fenced or reset: the apply fails
  (∀ (s : State) (p : PortId) (i : TileId) (c : Cell) (v old : Nat), s.txnState = xSCHEDULED →
    s.txn.changes = [⟨some p.val, c, v, old⟩] → c.key / 32 ≠ TXN_STATUS.off → s.txn.restruct = [] →
    s.txn.lost = [i.val] → s.tileOf p = i → ∃ t, exec (.txnCommitTime) s = .next t ∧ t.txnState = xROLLING ∧
    t.txn.waiting = [] ∧ t.txn.reason = 0xC ∧ t.txn.index = i.val) ∧
  -- APPLY_POINT of the last direction of the last Port: its change takes effect, and the transaction commits
  (∀ (s : State) (h : HalfId) (q v old : Nat) (b : Boundary), s.claim h = some q → q % 2 = 0 →
    s.isSeg (q + 1) = false → s.governs q h = true → (s.portx (q / 2)).applyAB = true →
    (s.portx (q / 2)).applyBA = false → s.txnState = xAPPLYING → s.txn.waiting = [q / 2] → s.txn.restruct = [] →
    s.txn.changes = [⟨some (q / 2), PRT_TRL_CTRL.CORR_LIMIT q, v, old⟩] → v < 2 ^ 8 → (s.half h).pendingSet = none →
    s.isApplyPoint h b = true → ∃ t, exec (.applyPoint ⟨h, b⟩) s = .next t ∧ t.rd (PRT_TRL_CTRL.CORR_LIMIT q) = v ∧
    t.txnState = xIDLE ∧ t.rd TXN_STATUS.LAST_RESULT = 1 ∧ (t.portx (q / 2)).applyAB = false) ∧
  -- APPLY_POINT of a receiver with a calibration set pending and nothing else due
  (∀ (s : State) (h : HalfId) (q : Nat) (c : CalSet) (temp : Int) (b : Boundary), s.claim h = some q →
    s.isSeg (otherSide q) = false → (s.portx (q / 2)).applyAB = false → (s.portx (q / 2)).applyBA = false →
    (s.half h).pendingSet = some (c, temp) → s.engineUp h = true → (s.half h).run = none →
    (s.engine (engineOf h)).slot = none → s.isApplyPoint h b = true → exec (.applyPoint ⟨h, b⟩) s = .next
    (s.applySet h c temp)) ∧
  -- APPLY_POINT_TIMEOUT 1 ms after T: the apply fails, and what has applied is withdrawn
  (∀ (s : State) (p : PortId), s.txnState = xAPPLYING → s.txn.waiting.contains p.val = true →
    s.txn.changes.all (fun c => c.cell.key / 32 != TXN_STATUS.off) = true → s.missingTile p = none →
    ∃ t, exec (.applyPointTimeout p) s = .next t ∧ t.txnState = xROLLING ∧ t.txn.waiting = [] ∧
    t.txn.reason = 0xB ∧ t.txn.index = p.val ∧
    (s.txn.changes.all (fun c => c.port.isSome) = true → s.txn.applied.all s.enabled = true → t.txn.back = s.txn.applied) ∧
    t.now = (s.fabricTo ((s.txnTime + 1000000) * nsUnit)).now ∧
    t.elapsed = (s.fabricTo ((s.txnTime + 1000000) * nsUnit)).elapsed ∧ t.txn.failedAt = t.elapsed) ∧
  -- APPLY_POINT_TIMEOUT of a commit that has changed a global register: it has its previous value again at once
  (∀ (s : State) (p : PortId) (v old : Nat), s.txnState = xAPPLYING → s.txn.waiting = [p.val] → s.txn.applied = [] →
    s.txn.changes = [⟨none, TRC_TRIG_CTRL.SRC_EN, v, old⟩] → old < 16 → ∃ t, exec (.applyPointTimeout p) s = .next t ∧
    t.rd TRC_TRIG_CTRL.SRC_EN = old ∧ t.txnState = xROLLING) ∧
  -- APPLY_POINT_TIMEOUT during the withdrawal of the Port: it is forced back
  (∀ (s : State) (p : PortId), s.txnState = xROLLING → s.txn.back = [p.val] → s.txn.changes = [] →
    ∃ t, exec (.applyPointTimeout p) s = .next t ∧ t.txn.back = [] ∧ t.txnState = xROLLING ∧
    s.txn.failedAt + 1000 * usUnit ≤ t.elapsed) ∧
  -- TXN_APPLY_FAIL for want of an Apply Point
  (∀ (s : State) (p : PortId), s.txnState = xAPPLYING → s.txn.waiting.contains p.val = true →
    s.txn.changes.all (fun c => c.cell.key / 32 != TXN_STATUS.off) = true →
    ∃ t, exec (.txnApplyFail (.noApplyPoint p)) s = .next t ∧ t.txnState = xROLLING ∧
    t.txn.reason = 0xB ∧ t.txn.index = p.val) ∧
  -- TXN_APPLY_FAIL for a Lane Tile that is not ON
  (∀ (s : State) (i : TileId), s.txnState = xAPPLYING → s.txn.tiles.contains i.val = true → s.tileState i ≠ 2 →
    s.txn.changes.all (fun c => c.cell.key / 32 != TXN_STATUS.off) = true →
    ∃ t, exec (.txnApplyFail (.tileNotReady i)) s = .next t ∧ t.txnState = xROLLING ∧
    t.txn.reason = 0xC ∧ t.txn.index = i.val) ∧
  -- TXN_ROLLBACK_DONE
  (∀ (s : State), s.txnState = xROLLING → s.txn.back = [] → s.txn.restruct = [] →
    ∃ t, exec (.txnRollbackDone) s = .next t ∧ t.txnState = xIDLE ∧ t.rd TXN_STATUS.LAST_RESULT = 3 ∧
    t.rd TXN_STATUS.REASON = s.txn.reason % 2 ^ 5 ∧ t.rd TXN_STATUS.FAIL_INDEX = s.txn.index % 2 ^ 8)

/-! ## Management function (10) -/

/-- UNSUPPORTED_REQUEST, COMPLETION_RECEIVED, COMPLETION_TIMEOUT, TAG_RETIRE_EXPIRY, CTO_DISABLE_CLEAR: what each does
where its clause says (rests on R281, R286, R295, R298, R299, R300, R301, R302, R332, R417, R433). Choices of the
model it rests on: log entries 2, 9, 16, 22, 103, 105. -/
def Obligations.RequestsAndCompletions : Prop :=
  -- UNSUPPORTED_REQUEST: any memory request in D3hot is refused
  (∀ (s : State) (w : Bool) (bar : Bar) (addr n f l data header : Nat), s.mgmtUp = true → s.mgmt.d3hot = true →
    ∃ t, exec (.unsupportedRequest (.memory w bar) addr ⟨n, f, l, data⟩ header) s = .next t ∧
    t.outbox.head? = some .unsupported ∧ bitAt t.mgmt.uncStatus 20 = true ∧ t.regs = s.regs) ∧
  -- UNSUPPORTED_REQUEST: a memory request of another length than one or two words is refused
  (∀ (s : State) (w : Bool) (addr n f l data header : Nat), s.mgmtUp = true → s.mgmt.d3hot = false → n ≠ 1 → n ≠ 2 →
    ∃ t, exec (.unsupportedRequest (.memory w .bar2) addr ⟨n, f, l, data⟩ header) s = .next t ∧
    t.outbox.head? = some .unsupported ∧ bitAt t.mgmt.uncStatus 20 = true ∧ t.regs = s.regs) ∧
  -- UNSUPPORTED_REQUEST: an accepted read of one word is answered with the register's value
  (∀ (s : State) (data header : Nat), s.mgmtUp = true → s.mgmt.d3hot = false →
    exec (.unsupportedRequest (.memory false .bar0) 0x7000 ⟨1, 15, 0, data⟩ header) s = .next
    (s.sendUp (.readDone 0x7000 (s.valueAt 0x7000)))) ∧
  -- UNSUPPORTED_REQUEST: a read of configuration space: Vendor and Device ID, and Revision ID with Class Code
  (∀ (s : State) (span : ReqSpan) (header : Nat), s.mgmtUp = true →
    ∃ t, exec (.unsupportedRequest .config 0 span header) s = .next t ∧
    t.outbox = .configDone 0 0x92561F3A :: s.outbox ∧ t.regs = s.regs) ∧
  -- UNSUPPORTED_REQUEST
  (∀ (s : State) (span : ReqSpan) (header : Nat), s.mgmtUp = true →
    ∃ t, exec (.unsupportedRequest .config 8 span header) s = .next t ∧
    t.outbox = .configDone 8 0x08800011 :: s.outbox ∧ t.mgmt = { s.mgmt with inL1 := false }) ∧
  -- UNSUPPORTED_REQUEST: any read of configuration space before boot has completed: Request Retry Status
  (∀ (s : State) (addr : Nat) (span : ReqSpan) (header : Nat), s.power.bootDue = true → s.mgmt.perst = false →
    s.mgmtUp = false → ∃ t, exec (.unsupportedRequest .config addr span header) s = .next t ∧
    t.outbox = .configRetry :: s.outbox ∧ t.regs = s.regs) ∧
  -- COMPLETION_RECEIVED with the one entry that a Ring fetch asked for
  (∀ (s : State) (tag : TagId) (header since k i first : Nat) (e : List Byte), s.mgmtUp = true →
    s.tag tag = .outstanding (.ring k i first 1) since → s.mgmt.readQueue = [] → validOp (cmdOp e) = true →
    ∃ t, exec (.completionReceived tag .ok header (.entries [e])) s = .next t ∧ t.tag tag = .free ∧
    (t.ringx k i).fetched = [(first % s.ringSize k i, e)] ∧ t.rd (RNG_POS.HEAD k i) = s.rd (RNG_POS.HEAD k i)) ∧
  -- COMPLETION_RECEIVED with Unsupported Request for a Ring fetch: HEAD passes the entry and the Ring is in ERROR
  (∀ (s : State) (tag : TagId) (header since k i first n : Nat) (data : ReadData), s.mgmtUp = true →
    s.tag tag = .outstanding (.ring k i first n) since → s.mgmt.readQueue = [] → s.ringState k i ≠ rDISABLED →
    s.sliceActive k = true → s.mgmt.coresDown = false → (s.ringx k i).order = [] →
    ∃ t, exec (.completionReceived tag .ur header data) s = .next t ∧ t.mgmt.masterAbort = true ∧ t.tag tag = .free ∧
    t.rd (RNG_STATUS.STATE k i) = rERROR ∧ t.rd (RNG_STATUS.ERRORS k i) = satInc 8 (s.rd (RNG_STATUS.ERRORS k i)) ∧
    t.rd (RNG_POS.HEAD k i) = (first + 1) % s.ringSize k i % 2 ^ 16 ∧
    (t.evq.getLast?.map (fun v => (v.slice, v.type, v.code, v.entry))) = some (k, 1, 6, first)) ∧
  -- COMPLETION_RECEIVED with a tag that is free
  (∀ (s : State) (tag : TagId) (header : Nat) (status : CplStatus) (data : ReadData), s.mgmtUp = true →
    s.tag tag = .free → bitAt s.mgmt.uncSeverity 16 = false →
    ∃ t, exec (.completionReceived tag status header data) s = .next t ∧ t.rd GLB_MGMT_STATUS.LATE_CPL = 1 ∧
    t.rd GLB_MGMT_CNT.LATE_CPL_CNT = (s.rd GLB_MGMT_CNT.LATE_CPL_CNT + 1) % 2 ^ 16 ∧ bitAt t.mgmt.corStatus 13 = true) ∧
  -- COMPLETION_TIMEOUT of a Ring fetch: its tag is retired for four timeouts
  (∀ (s : State) (tag : TagId) (since k i first n : Nat), s.tag tag = .outstanding (.ring k i first n) since →
    s.awake = true → s.mgmt.ctoDisable = false → s.mgmt.readQueue = [] →
    ∃ t, exec (.completionTimeout tag) s = .next t ∧ t.tag tag = .retired (t.elapsed + 4 * s.ctoNow) false ∧
    t.rd GLB_MGMT_CNT.TIMEOUTS = satInc 8 (s.rd GLB_MGMT_CNT.TIMEOUTS) ∧ bitAt t.mgmt.uncStatus 14 = true ∧
    since + s.ctoNow ≤ t.elapsed) ∧
  -- TAG_RETIRE_EXPIRY
  (∀ (s : State) (tag : TagId) (e : Nat) (quiet : Bool), s.tag tag = .retired e quiet → s.awake = true →
    s.mgmt.readQueue = [] → ∃ t, exec (.tagRetireExpiry tag) s = .next t ∧ t.tag tag = .free ∧ e ≤ t.elapsed) ∧
  -- CTO_DISABLE_CLEAR
  (∀ (s : State), s.mgmtUp = true → s.mgmt.ctoDisable = true → ∃ t, exec (.ctoDisableClear) s = .next t ∧
    t.mgmt.ctoDisable = false ∧ t.regs = s.regs)

/-- HOLD_START, HOLD_END, D3HOT_ENTRY, D0_RETURN, PME_TURN_OFF, ASPM_L1_ENTRY, ASPM_L1_EXIT: holds of requests, power
management of the function and ASPM L1 (rests on R295, R296, R297, R303, R305, R311). Choices of the model it rests
on: log entries 9, 22. -/
def Obligations.HoldsBeginAndEnd : Prop :=
  -- HOLD_START by Bus Master Enable: no read is outstanding any more
  (∀ (s : State), s.mgmtUp = true → s.held = false → ∃ t, exec (.holdStart .bme) s = .next t ∧ t.mgmt.bme = false ∧
    t.rd GLB_MGMT_STATUS.DMA_HELD = 1 ∧ t.tags.entries.all (fun e => !e.2.isOut) = true) ∧
  -- HOLD_START by the link
  (∀ (s : State) (r : Fin 8) (w : Fin 4) (f : Bool), s.mgmtUp = true →
    ∃ t, exec (.holdStart (.link r w f)) s = .next t ∧ t.rd GLB_MGMT_STATUS.LINK_UP = 0 ∧
    t.rd GLB_MGMT_STATUS.DMA_HELD = 1) ∧
  -- HOLD_END by Bus Master Enable with no other condition
  (∀ (s : State), s.mgmtUp = true → s.mgmt.d3hot = false → s.bit GLB_MGMT_STATUS.LINK_UP = true → s.held = true →
    ∃ t, exec (.holdEnd .bme) s = .next t ∧ t.mgmt.bme = true ∧ t.rd GLB_MGMT_STATUS.DMA_HELD = 0) ∧
  -- HOLD_END by the link with Bus Master Enable 1
  (∀ (s : State) (r : Fin 8) (w : Fin 4) (f : Bool), s.mgmtUp = true → s.mgmt.d3hot = false → s.mgmt.bme = true →
    ∃ t, exec (.holdEnd (.link r w f)) s = .next t ∧ t.rd GLB_MGMT_STATUS.LINK_UP = 1 ∧
    t.rd GLB_MGMT_STATUS.LINK_RATE = r ∧ t.rd GLB_MGMT_STATUS.LINK_WIDTH = w ∧
    (t.rd GLB_MGMT_STATUS.DMA_HELD = 0 ∨ s.held = false)) ∧
  -- D3HOT_ENTRY
  (∀ (s : State), s.mgmtUp = true → s.held = false → ∃ t, exec (.d3hotEntry) s = .next t ∧ t.mgmt.d3hot = true ∧
    t.rd GLB_MGMT_STATUS.DMA_HELD = 1) ∧
  -- D0_RETURN
  (∀ (s : State), s.mgmtUp = true → s.mgmt.bme = true → s.bit GLB_MGMT_STATUS.LINK_UP = true → s.held = true →
    ∃ t, exec (.d0Return) s = .next t ∧ t.mgmt.d3hot = false ∧ t.rd GLB_MGMT_STATUS.DMA_HELD = 0) ∧
  -- PME_TURN_OFF
  (∀ (s : State), s.mgmtUp = true → s.bit GLB_MGMT_STATUS.LINK_UP = true → ∃ t, exec (.pmeTurnOff) s = .next t ∧
    t.outbox.head? = some .pmeToAck ∧ t.mgmt.turnedOff = true ∧ t.tags.entries.all (fun e => !e.2.isOut) = true) ∧
  -- ASPM_L1_ENTRY
  (∀ (s : State), s.mgmtUp = true → s.mgmt.aspmL1 = true → s.bit GLB_MGMT_STATUS.LINK_UP = true →
    exec (.aspmL1Entry) s = .next (s.upM (fun m => { m with inL1 := true }))) ∧
  -- ASPM_L1_EXIT
  (∀ (s : State), s.mgmtUp = true → exec (.aspmL1Exit) s = .next (s.upM (fun m => { m with inL1 := false })))

/-- FLR, MGMT_HOT_RESET, DATA_LINK_DOWN, PERST_ASSERT, PERST_DEASSERT: what every management reset does (rests on
R306, R307, R318, R417, R426). Choices of the model it rests on: log entries 3, 8, 43, 126. -/
def Obligations.ManagementResetsDestroySlices : Prop :=
  -- FLR
  (∀ (s : State), s.mgmtUp = true → ∃ t, exec (.flr) s = .next t ∧
    t.mgmt.bme = false ∧ t.mgmt.pasid = false ∧ t.mgmt.coresDown = false ∧ t.rd GLB_MGMT_STATUS.DMA_HELD = 1 ∧
    t.rd GLB_ALIVE.MGMT_RESETS = (s.rd GLB_ALIVE.MGMT_RESETS + 1) % 2 ^ 8 ∧
    t.activeSlices.all (fun k => k == 0) = true ∧ t.mgmt.uncStatus = s.mgmt.uncStatus) ∧
  -- MGMT_HOT_RESET
  (∀ (s : State), s.mgmtUp = true → s.bit GLB_MGMT_STATUS.LINK_UP = true → ∃ t, exec (.mgmtHotReset) s = .next t ∧
    t.mgmt.bme = false ∧ t.mgmt.pasid = false ∧ t.rd GLB_MGMT_STATUS.LINK_UP = 0 ∧ t.rd GLB_MGMT_STATUS.DMA_HELD = 1 ∧
    t.rd GLB_ALIVE.MGMT_RESETS = (s.rd GLB_ALIVE.MGMT_RESETS + 1) % 2 ^ 8 ∧
    t.activeSlices.all (fun k => k == 0) = true) ∧
  -- DATA_LINK_DOWN
  (∀ (s : State), s.mgmtUp = true → s.bit GLB_MGMT_STATUS.LINK_UP = true → ∃ t, exec (.dataLinkDown) s = .next t ∧
    t.mgmt.bme = false ∧ t.mgmt.pasid = false ∧ t.rd GLB_MGMT_STATUS.LINK_UP = 0 ∧
    t.rd GLB_ALIVE.MGMT_RESETS = (s.rd GLB_ALIVE.MGMT_RESETS + 1) % 2 ^ 8 ∧
    t.activeSlices.all (fun k => k == 0) = true) ∧
  -- PERST_ASSERT outside DEEP and OFF: the sticky error status is reset too
  (∀ (s : State), s.mgmt.perst = false → s.power.inReset = false → s.powerState ≠ 3 ∧ s.powerState ≠ 4 →
    ∃ t, exec (.perstAssert) s = .next t ∧ t.mgmt.perst = true ∧ t.mgmt.uncStatus = 0 ∧ t.mgmt.corStatus = 0 ∧
    t.rd GLB_MGMT_STATUS.LINK_UP = 0 ∧ t.rd GLB_ALIVE.MGMT_RESETS = (s.rd GLB_ALIVE.MGMT_RESETS + 1) % 2 ^ 8 ∧
    t.activeSlices.all (fun k => k == 0) = true) ∧
  -- PERST_ASSERT in DEEP: its reset waits for the wake
  (∀ (s : State), s.mgmt.perst = false → s.power.inReset = false → s.powerState = 3 → s.power.entry = none →
    ∃ t, exec (.perstAssert) s = .next t ∧ t.mgmt.perst = true ∧ t.mgmt.perstDue = true ∧
    t.rd GLB_ALIVE.MGMT_RESETS = s.rd GLB_ALIVE.MGMT_RESETS ∧ t.mgmt.uncStatus = s.mgmt.uncStatus) ∧
  -- PERST_DEASSERT outside DEEP
  (∀ (s : State), s.mgmt.perst = true → s.powerState ≠ 3 → exec (.perstDeassert) s = .next
    (s.upM (fun m => { m with perst := false, wakeN := false })))

/-- MSIX_UNMASK, ALIVE_BEAT, MANAGEMENT_LINK_ERROR, INTERNAL_ECC_ERROR, CORE_WATCHDOG_EXPIRY, CONFIGURATION_WRITE:
what each does where its clause says (rests on R25, R281, R283, R290, R291, R293, R296, R309). Choices of the model it
rests on: log entries 2, 8, 9, 16, 55, 124. -/
def Obligations.FunctionReportsErrors : Prop :=
  -- MSIX_UNMASK of a vector whose message waits
  (∀ (s : State) (v : Fin 2048), s.mgmtUp = true → s.mgmt.pba = [v.val] → s.mgmt.msixEnable = true →
    s.mgmt.functionMask = false → s.held = false → s.msixWord (4 * v) ≠ 0 → ∃ t, exec (.msixUnmask v) s = .next t ∧
    t.outbox = .msix v :: s.outbox ∧ t.mgmt.pba = [] ∧ t.msixWord (4 * v + 3) = 0) ∧
  -- ALIVE_BEAT
  (∀ (s : State), s.powerState ≤ 1 → s.power.inReset = false → s.power.wake = none →
    ∃ t, exec (.aliveBeat) s = .next t ∧ t.rd GLB_ALIVE.BEAT = (s.rd GLB_ALIVE.BEAT + 1) % 2 ^ 16 ∧
    s.elapsed < t.elapsed) ∧
  -- ALIVE_BEAT in D3hot with PME_Status still set 100 ms after the last PME: it is sent again
  (∀ (s : State), s.powerState ≤ 1 → s.power.inReset = false → s.power.wake = none →
    s.mgmt.d3hot = true ∧ s.mgmt.pmeEn = true ∧ s.mgmt.pmeStatus = true ∧ s.mgmt.perst = false →
    s.mgmt.pmeAt + 100000 * usUnit ≤ s.elapsed → s.bit GLB_MGMT_STATUS.LINK_UP = true ∧ s.mgmt.turnedOff = false →
    ∃ t, exec (.aliveBeat) s = .next t ∧ t.outbox = .pme :: s.outbox ∧ t.mgmt.pmeAt = t.elapsed) ∧
  -- MANAGEMENT_LINK_ERROR, a correctable one that is not masked and whose message is enabled
  (∀ (s : State), s.mgmtUp = true → bitAt s.mgmt.corMask 6 = false → bitAt s.mgmt.reports 0 = true →
    ∃ t, exec (.managementLinkError .badTlp) s = .next t ∧ bitAt t.mgmt.corStatus 6 = true ∧
    t.outbox = .errMsg 0 :: s.outbox ∧ t.regs = s.regs) ∧
  -- MANAGEMENT_LINK_ERROR, a fatal one that is not masked and whose message is enabled; its header is logged
  (∀ (s : State) (header : Nat), s.mgmtUp = true → bitAt s.mgmt.uncMask 18 = false →
    bitAt s.mgmt.uncSeverity 18 = true → bitAt s.mgmt.reports 2 = true → s.mgmt.firstError = none →
    ∃ t, exec (.managementLinkError (.malformedTlp header)) s = .next t ∧ bitAt t.mgmt.uncStatus 18 = true ∧
    bitAt t.mgmt.detected 2 = true ∧ t.mgmt.firstError = some (18, some header) ∧ t.outbox = .errMsg 2 :: s.outbox) ∧
  -- INTERNAL_ECC_ERROR, corrected
  (∀ (s : State), s.mgmtUp = true → ∃ t, exec (.internalEccError true) s = .next t ∧
    bitAt t.mgmt.corStatus 14 = true ∧ t.regs = s.regs) ∧
  -- INTERNAL_ECC_ERROR, not corrected
  (∀ (s : State), s.mgmtUp = true → ∃ t, exec (.internalEccError false) s = .next t ∧
    bitAt t.mgmt.uncStatus 22 = true ∧ t.regs = s.regs) ∧
  -- CORE_WATCHDOG_EXPIRY
  (∀ (s : State) (core : Fin 4), s.awake = true → ∃ t, exec (.coreWatchdogExpiry core) s = .next t ∧
    t.mgmt.coresDown = true ∧ bitAt t.mgmt.uncStatus 22 = true ∧ t.power.watchdogSeen = true) ∧
  -- CONFIGURATION_WRITE of Max_Payload_Size
  (∀ (s : State) (v : Nat), s.mgmtUp = true → exec (.configurationWrite .maxPayload v) s = .next
    (if v ≤ 2 then s.upM (fun m => { m with mps := v }) else s)) ∧
  -- CONFIGURATION_WRITE of PME_Status clears it when written 1
  (∀ (s : State) (v : Nat), s.mgmtUp = true → ∃ t, exec (.configurationWrite .pmeStatus v) s = .next t ∧
    t.mgmt.pmeStatus = (if v % 2 = 1 then false else s.mgmt.pmeStatus) ∧ t.regs = s.regs) ∧
  -- CONFIGURATION_WRITE of the uncorrectable error status clears the bits written as 1
  (∀ (s : State) (v : Nat), s.mgmtUp = true → ∃ t, exec (.configurationWrite .aerUncStatus v) s = .next t ∧
    t.mgmt.uncStatus = s.mgmt.uncStatus - (s.mgmt.uncStatus &&& v) ∧ t.regs = s.regs) ∧
  -- CONFIGURATION_WRITE of Interrupt Line, which holds what the standard gives
  (∀ (s : State) (v : Nat), s.mgmtUp = true → ∃ t, exec (.configurationWrite (.standard 0x3C) v) s = .next t ∧
    t.mgmt.cfg.get 0 0x3C = v % 256 ∧ t.regs = s.regs)

/-! ## Slices and Rings (11) -/

/-- CREATE, SLICE_RESET, SELF_RESET, DESTROY, RESET_DONE, DESTROY_DONE: creation, reset and destruction of Slices
(rests on R313, R314, R315, R316, R317, R341, R342, R345). Choices of the model it rests on: log entries 42, 43, 47,
106. -/
def Obligations.SlicesAreCreatedAndDestroyed : Prop :=
  -- CREATE of a FREE Slice that no reason refuses: its counts are clamped and it is ACTIVE
  (∀ (s : State) (k : SliceId), s.hosted = true → s.powerState ≠ 1 → s.sliceState k = slFREE → s.mgmt.pasid = true →
    (s.otherSlices k).any (fun j => s.rd (SLC_CTRL.PASID j) == s.rd (SLC_CTRL.PASID k)) = false →
    (s.ringRanges k).any (insideRange (s.rd (SLC_RINGS.BASE k))) = false →
    (s.vectorRanges k).any (insideRange (s.rd (SLC_VECTORS.BASE k))) = false → ∃ t, exec (.create k) s = .next t ∧
    t.rd (SLC_STATUS.STATE k) = slACTIVE ∧ t.rd (SLC_STATUS.RESULT k) = 1 ∧
    t.rd (SLC_RINGS.COUNT k) = min (s.rd (SLC_RINGS.COUNT k)) (s.maxRings k) % 2 ^ 11 ∧
    t.rd (SLC_VECTORS.COUNT k) = min (s.rd (SLC_VECTORS.COUNT k)) (s.maxVectors k) % 2 ^ 12 ∧
    t.rd (SLC_SHARE.TOKENS k) = min (s.rd (SLC_SHARE.TOKENS k)) (s.maxTokens k) % 2 ^ 10 ∧
    t.rd (SLC_SHARE.GRANULES k) = min (s.rd (SLC_SHARE.GRANULES k)) (s.maxGranules k) % 2 ^ 17 ∧
    t.slicex k = { balance := 0, tokens := t.rd (SLC_SHARE.TOKENS k) }) ∧
  -- CREATE of a Slice that exists
  (∀ (s : State) (k : SliceId), s.hosted = true → s.powerState ≠ 1 → s.sliceState k ≠ slFREE →
    exec (.create k) s = .next (s.wr (SLC_STATUS.RESULT k) 2)) ∧
  -- SLICE_RESET of an ACTIVE Slice
  (∀ (s : State) (k : SliceId), s.hosted = true → s.powerState ≠ 1 → s.sliceState k = slACTIVE →
    ∃ t, exec (.sliceReset k) s = .next t ∧ t.rd (SLC_STATUS.STATE k) = slRESETTING ∧ t.rd (SLC_STATUS.RESULT k) = 1 ∧
    t.rd (SLC_STATUS.GENERATION k) = (s.rd (SLC_STATUS.GENERATION k) + 1) % 2 ^ 8 ∧
    t.evq.all (fun e => e.slice != k.val) = true ∧ t.staged.all (fun e => e.slice != k.val) = true) ∧
  -- SLICE_RESET of a Slice that is not ACTIVE
  (∀ (s : State) (k : SliceId), s.hosted = true → s.powerState ≠ 1 → s.sliceState k ≠ slACTIVE →
    exec (.sliceReset k) s = .next (s.wr (SLC_STATUS.RESULT k) 2)) ∧
  -- SELF_RESET
  (∀ (s : State) (k : SliceId), s.hosted = true → s.powerState ≠ 1 → s.sliceState k = slACTIVE →
    ∃ t, exec (.selfReset k) s = .next t ∧ t.rd (SLC_STATUS.STATE k) = slRESETTING ∧
    t.rd (SLC_STATUS.GENERATION k) = (s.rd (SLC_STATUS.GENERATION k) + 1) % 2 ^ 8) ∧
  -- DESTROY of an ACTIVE Slice other than S0
  (∀ (s : State) (k : SliceId), s.hosted = true → s.powerState ≠ 1 → k.val ≠ 0 → s.sliceState k = slACTIVE →
    ∃ t, exec (.destroy k) s = .next t ∧ t.rd (SLC_STATUS.STATE k) = slDESTROYING ∧ t.rd (SLC_STATUS.RESULT k) = 1 ∧
    t.rd (SLC_STATUS.GENERATION k) = (s.rd (SLC_STATUS.GENERATION k) + 1) % 2 ^ 8) ∧
  -- DESTROY of a Slice in RESETTING waits for the reset
  (∀ (s : State) (k : SliceId), s.hosted = true → s.powerState ≠ 1 → k.val ≠ 0 → s.sliceState k = slRESETTING →
    ∃ t, exec (.destroy k) s = .next t ∧ t.rd (SLC_STATUS.STATE k) = slRESETTING ∧
    t.rd (SLC_STATUS.DESTROY_PENDING k) = 1) ∧
  -- DESTROY of S0: refused
  (∀ (s : State), s.hosted = true → s.powerState ≠ 1 → exec (.destroy 0) s = .next (s.wr (SLC_STATUS.RESULT 0) 6)) ∧
  -- RESET_DONE with no DESTROY waiting
  (∀ (s : State) (k : SliceId), s.sliceState k = slRESETTING → s.oldJobs k = false →
    s.bit (SLC_STATUS.DESTROY_PENDING k) = false → s.awake = true → ∃ t, exec (.resetDone k) s = .next t ∧
    t.rd (SLC_STATUS.STATE k) = slACTIVE ∧ t.rd (SLC_STATUS.RESET_DONE k) = 1 ∧
    t.rd (SLC_SELF_STATUS.RESET_DONE k) = 1) ∧
  -- DESTROY_DONE
  (∀ (s : State) (k : SliceId), s.sliceState k = slDESTROYING → s.oldJobs k = false → s.mgmt.s0Due = false →
    s.awake = true → ∃ t, exec (.destroyDone k) s = .next t ∧ t.rd (SLC_STATUS.STATE k) = slFREE ∧
    t.rd (SLC_STATUS.GENERATION k) = (s.rd (SLC_STATUS.GENERATION k) + 1) % 2 ^ 8 ∧ t.slicex k = {})

/-- SHARE_WRITE, VISIBILITY_REMOVE, PASID_ENABLE_CHANGE: share writes are clamped; the visibility set and PASID Enable
change (rests on R284, R313, R319, R338, R339, R340). Choices of the model it rests on: log entries 42, 43. -/
def Obligations.SharesAndVisibilityChange : Prop :=
  -- SHARE_WRITE of SLC_RINGS of an ACTIVE Slice
  (∀ (s : State) (k : SliceId) (value : Nat), s.hosted = true → s.sliceState k = slACTIVE →
    ∃ t, exec (.shareWrite k .rings value) s = .next t ∧
    t.rd (SLC_RINGS.COUNT k) = clampNat (s.leastRings k) (s.maxRings k) (bitsOf value 0 11) % 2 ^ 11 ∧
    t.rd (SLC_RINGS.BASE k) = s.rd (SLC_RINGS.BASE k)) ∧
  -- SHARE_WRITE of SLC_VECTORS of an ACTIVE Slice
  (∀ (s : State) (k : SliceId) (value : Nat), s.hosted = true → s.sliceState k = slACTIVE →
    ∃ t, exec (.shareWrite k .vectors value) s = .next t ∧
    t.rd (SLC_VECTORS.COUNT k) = clampNat (s.leastVectors k) (s.maxVectors k) (bitsOf value 0 12) % 2 ^ 12) ∧
  -- SHARE_WRITE of SLC_SHARE of an ACTIVE Slice: tokens take force at the next epoch
  (∀ (s : State) (k : SliceId) (value : Nat), s.hosted = true → s.sliceState k = slACTIVE →
    ∃ t, exec (.shareWrite k .share value) s = .next t ∧
    t.rd (SLC_SHARE.TOKENS k) = min (bitsOf value 18 10) (s.maxTokens k) % 2 ^ 10 ∧
    t.rd (SLC_SHARE.GRANULES k) = clampNat (s.granulesHeld k) (s.maxGranules k) (bitsOf value 0 17) % 2 ^ 17 ∧
    t.slicex k = s.slicex k) ∧
  -- VISIBILITY_REMOVE
  (∀ (s : State) (k : SliceId) (hi : Bool) (value : Nat), s.hosted = true →
    ∃ t, exec (.visibilityRemove k hi value) s = .next t ∧ t.rd (SLC_PORTS.PORTS k (ofBool hi)) = value % 2 ^ 32 ∧
    t.rd (SLC_PORTS.PORTS k (ofBool (!hi))) = s.rd (SLC_PORTS.PORTS k (ofBool (!hi)))) ∧
  -- PASID_ENABLE_CHANGE
  (∀ (s : State) (v : Bool), s.mgmtUp = true → ∃ t, exec (.pasidEnableChange v) s = .next t ∧ t.mgmt.pasid = v)

/-- RING_ENABLE, RING_DISABLE, RING_RESUME, CMD_DOORBELL, EVENT_DOORBELL, EVENT_POST, MIRROR_PUBLISH: what each does
where its clause says (rests on R322, R323, R324, R325, R333, R437, R439). Choices of the model it rests on: log
entries 22, 43, 44. -/
def Obligations.RingsAreKept : Prop :=
  -- RING_ENABLE
  (∀ (s : State) (k : SliceId) (i : RingId) (ctrl : Nat), s.hosted = true → s.ringHere k i = true →
    s.ringState k i = rDISABLED → ∃ t, exec (.ringEnable k i ctrl) s = .next t ∧
    t.rd (RNG_STATUS.STATE k i) = rACTIVE ∧ t.rd (RNG_CTRL.KIND k i) = bitsOf ctrl 29 1 ∧
    t.rd (RNG_CTRL.ENABLE k i) = 1 ∧ t.rd (RNG_STATUS.PHASE k i) = 1 ∧ t.rd (RNG_POS.HEAD k i) = 0 ∧
    t.rd (RNG_POS.TAIL k i) = 0) ∧
  -- RING_DISABLE
  (∀ (s : State) (k : SliceId) (i : RingId) (ctrl : Nat), s.hosted = true → s.ringHere k i = true →
    s.ringState k i ≠ rDISABLED → ∃ t, exec (.ringDisable k i ctrl) s = .next t ∧
    t.rd (RNG_STATUS.STATE k i) = rDISABLED ∧ t.rd (RNG_CTRL.ENABLE k i) = 0 ∧ (t.ringx k i).fetched = []) ∧
  -- RING_RESUME of a command Ring in ERROR
  (∀ (s : State) (k : SliceId) (i : RingId), s.hosted = true → s.ringHere k i = true → s.rd (RNG_CTRL.KIND k i) = 0 →
    s.ringState k i = rERROR → ∃ t, exec (.ringResume k i) s = .next t ∧ t.rd (RNG_STATUS.STATE k i) = rACTIVE ∧
    t.rd (RNG_POS.HEAD k i) = s.rd (RNG_POS.HEAD k i)) ∧
  -- CMD_DOORBELL
  (∀ (s : State) (k : SliceId) (i : RingId) (index : Nat), s.hosted = true → s.powerState ≠ 1 →
    s.ringHere k i = true → s.ringState k i ≠ rDISABLED → s.rd (RNG_CTRL.KIND k i) = 0 → index < s.ringSize k i →
    index < 2 ^ 16 → ∃ t, exec (.cmdDoorbell k i index) s = .next t ∧ t.rd (RNG_POS.TAIL k i) = index ∧
    t.rd (RNG_POS.HEAD k i) = s.rd (RNG_POS.HEAD k i)) ∧
  -- EVENT_DOORBELL with nothing staged
  (∀ (s : State) (k : SliceId) (i : RingId) (index : Nat), s.hosted = true → s.powerState ≠ 1 →
    s.ringHere k i = true → s.ringState k i = rACTIVE → s.rd (RNG_CTRL.KIND k i) = 1 → index < s.ringSize k i →
    index < 2 ^ 16 →
    (index + s.ringSize k i - s.ringHead k i) % s.ringSize k i ≤ (s.ringTail k i + s.ringSize k i - s.ringHead k i) % s.ringSize k i →
    s.staged = [] → ∃ t, exec (.eventDoorbell k i index) s = .next t ∧ t.rd (RNG_POS.HEAD k i) = index ∧
    t.rd (RNG_POS.TAIL k i) = s.rd (RNG_POS.TAIL k i)) ∧
  -- EVENT_POST of the only event, which has what it reports, to an event Ring with room
  (∀ (s : State) (e : Ev) (r : Nat), s.evq = [e] → e.state.isSome = true → s.sliceActive e.slice = true →
    s.route e = some (r, false) → s.sliceHeld e.slice = false → s.ringFull e.slice r = false → s.staged = [] →
    s.bit (RNG_CTRL.INT_EN e.slice r) = false → s.awake = true → ∃ t, exec (.eventPost) s = .next t ∧ t.evq = [] ∧
    t.rd (RNG_POS.TAIL e.slice r) = (s.ringTail e.slice r + 1) % s.ringSize e.slice r % 2 ^ 16 ∧
    t.outbox.length = s.outbox.length + 1) ∧
  -- MIRROR_PUBLISH
  (∀ (s : State) (p : PortId), s.tileOn p = true → ∃ t, exec (.mirrorPublish p) s = .next t ∧
    (t.portx p).mirror = s.portRegs p ∧ (t.portx p).mirrorSeq = s.seqOf p ∧ t.regs = s.regs)

/-- NOP, FENCE, PORT_STATUS, READ_REG, PORT_RETRAIN and JOB_SUBMIT from a command Ring (rests on R231, R327, R328,
R329, R330, R331, R441). Choices of the model it rests on: log entries 17, 44, 132. -/
def Obligations.RingCommandsComplete : Prop :=
  -- NOP
  (∀ (s : State) (k : SliceId) (i : RingId) (idx : Nat) (e : List Byte), s.front k i idx e 0 →
    ∃ t, exec (.nop k i) s = .next t ∧ s.completed t k i idx e 0) ∧
  -- FENCE once no command of the Ring is open
  (∀ (s : State) (k : SliceId) (i : RingId) (idx : Nat) (e : List Byte), s.front k i idx e 5 →
    (s.ringx k i).open_ = 0 → ∃ t, exec (.fence k i) s = .next t ∧ s.completed t k i idx e 0) ∧
  -- FENCE while a command of the Ring is open: not taken
  (∀ (s : State) (k : SliceId) (i : RingId) (idx : Nat) (e : List Byte), s.front k i idx e 5 →
    (s.ringx k i).open_ ≠ 0 → exec (.fence k i) s = .next (s)) ∧
  -- PORT_STATUS of a Port that the Slice sees: published, and reported
  (∀ (s : State) (k : SliceId) (i : RingId) (idx : Nat) (e : List Byte), s.front k i idx e 2 → cmdPort e < 64 →
    s.sees k (cmdPort e) = true → s.enabled (cmdPort e) = true → s.tileOn (cmdPort e) = true → cmdCheck e = false →
    ∃ t, exec (.portStatus k i) s = .next t ∧ s.completed t k i idx e 0 ∧
    (t.evq.getLast?.bind Ev.state) = some (s.seqOf (cmdPort e) :: s.portRegs (cmdPort e))) ∧
  -- PORT_STATUS of a Port outside the visibility set: DENIED
  (∀ (s : State) (k : SliceId) (i : RingId) (idx : Nat) (e : List Byte), s.front k i idx e 2 → cmdPort e < 64 →
    s.sees k (cmdPort e) = false → ∃ t, exec (.portStatus k i) s = .next t ∧ s.completed t k i idx e 2) ∧
  -- PORT_STATUS with a sequence number that is not the mirror's: STALE
  (∀ (s : State) (k : SliceId) (i : RingId) (idx : Nat) (e : List Byte), s.front k i idx e 2 → cmdPort e < 64 →
    s.sees k (cmdPort e) = true → s.enabled (cmdPort e) = true → s.tileOn (cmdPort e) = true → cmdCheck e = true →
    cmdField e 12 4 ≠ s.seqOf (cmdPort e) → ∃ t, exec (.portStatus k i) s = .next t ∧ s.completed t k i idx e 3) ∧
  -- READ_REG of S0 of one register that no Lane Tile holds
  (∀ (s : State) (i : RingId) (idx : Nat) (e : List Byte), s.front 0 i idx e 3 → cmdPort e < 64 →
    s.sees 0 (cmdPort e) = true → s.enabled (cmdPort e) = true → cmdCheck e = false → byteAt e 20 ≤ 1 →
    cmdField e 16 4 % 4 = 0 → registerAt (cmdField e 16 4) = true → s.holder (cmdField e 16 4) = none →
    ∃ t, exec (.readReg 0 i) s = .next t ∧ s.completed t 0 i idx e 0 ∧
    (t.evq.getLast?.map (fun v => v.result.take 4)) = some (leNum 4 (s.valueAt (cmdField e 16 4)))) ∧
  -- READ_REG of an offset that holds no register: DENIED
  (∀ (s : State) (k : SliceId) (i : RingId) (idx : Nat) (e : List Byte), s.front k i idx e 3 → cmdPort e < 64 →
    s.sees k (cmdPort e) = true → s.enabled (cmdPort e) = true → cmdCheck e = false →
    registerAt (cmdField e 16 4 / 4 * 4) = false → ∃ t, exec (.readReg k i) s = .next t ∧ s.completed t k i idx e 2) ∧
  -- READ_REG that names a Port that is not enabled: BAD_TARGET
  (∀ (s : State) (k : SliceId) (i : RingId) (idx : Nat) (e : List Byte), s.front k i idx e 3 → cmdPort e < 64 →
    s.sees k (cmdPort e) = true → s.enabled (cmdPort e) = false → ∃ t, exec (.readReg k i) s = .next t ∧
    s.completed t k i idx e 7) ∧
  -- PORT_RETRAIN of S0 on the A-side of a TT Port
  (∀ (s : State) (i : RingId) (idx : Nat) (e : List Byte), s.front 0 i idx e 4 → cmdPort e < 64 → byteAt e 9 = 0 →
    s.sees 0 (cmdPort e) = true → s.enabled (cmdPort e) = true → s.tileOn (cmdPort e) = true →
    s.isTT (cmdPort e) = true → s.trn (cmdPort e) ≠ tDOWN → cmdCheck e = false →
    ∃ t, exec (.portRetrain 0 i) s = .next t ∧ t.rd (PRT_TRN_STATUS.STATE (cmdPort e)) = tDETECT ∧
    t.rd (RNG_POS.HEAD 0 i) = (idx + 1) % s.ringSize 0 i % 2 ^ 16) ∧
  -- PORT_RETRAIN of another Slice: DENIED
  (∀ (s : State) (k : SliceId) (i : RingId) (idx : Nat) (e : List Byte), s.front k i idx e 4 → k.val ≠ 0 →
    ∃ t, exec (.portRetrain k i) s = .next t ∧ s.completed t k i idx e 2) ∧
  -- JOB_SUBMIT of a job that nothing refuses: queued on the engine of its receiver
  (∀ (s : State) (k : SliceId) (i : RingId) (idx : Nat) (e : List Byte) (j : Job), s.front k i idx e 1 →
    s.jobCount k < 64 → s.parseJob k i idx e = some j → s.refuseJob j = none →
    ∃ t, exec (.jobSubmit k i) s = .next t ∧
    (t.engine (engineOf j.half)).queue = (s.engine (engineOf j.half)).queue ++ [j] ∧
    t.rd (RNG_POS.HEAD k i) = (idx + 1) % s.ringSize k i % 2 ^ 16 ∧ t.evq = s.evq) ∧
  -- JOB_SUBMIT of a job that is refused: it completes with its result code
  (∀ (s : State) (k : SliceId) (i : RingId) (idx : Nat) (e : List Byte) (j : Job) (code : Nat), s.front k i idx e 1 →
    s.jobCount k < 64 → s.parseJob k i idx e = some j → s.refuseJob j = some code →
    ∃ t, exec (.jobSubmit k i) s = .next t ∧ s.completed t k i idx e 4 ∧
    (t.evq.getLast?.map (fun v => v.result.take 2)) = some [code, byteAt e 16] ∧ t.engines = s.engines)

/-! ## Fabric Time (12) -/

/-- TIME_FRAME_SEND, TIME_FRAME_RECEIVED: TIME frames: what a side sends, whom it follows and what a measurement
leaves (rests on R147, R355, R356, R357, R358, R359). Choices of the model it rests on: log entries 11, 39, 51, 110.
-/
def Obligations.TimeFramesCarryTheTime : Prop :=
  -- TIME_FRAME_SEND
  (∀ (s : State) (q : SideId) (departure : Nat), s.timeFrames q = true → s.bit TIM_CTRL.TIME_FRAMES_OFF = false →
    256 * (s.timeSide q).due ≤ (s.seg q).rows → ∃ t, exec (.timeFrameSend q departure) s = .next t ∧
    (t.seg q).timeDue = some (s.timePayload q) ∧ (t.timeSide q).next = ((s.timeSide q).next + 1) % 256 ∧
    (t.timeSide q).sent.head? = some ((s.timeSide q).next, departure) ∧ t.regs = s.regs) ∧
  -- TIME_FRAME_RECEIVED at a part that is no follower: the sender is noted; told of another master, a master says so
  (∀ (s : State) (q : SideId) (payload : List Byte) (arrival : Nat), s.timeFrames q = true → byteAt payload 0 = 1 →
    s.role = roleMASTER → bitAt (byteAt payload 1) 3 = true → bitAt (byteAt payload 1) 4 = false →
    leNat ((payload.drop 4).take 2) ≠ s.rd GLB_FABRIC_ID.FABRIC_ID →
    ∃ t, exec (.timeFrameReceived q payload arrival) s = .next t ∧ t.rd TIM_STATUS.CONFLICT = 1 ∧
    ((t.timeSide q).peer.map TimePeer.seq) = some (byteAt payload 7) ∧
    ((t.timeSide q).peer.map TimePeer.arrival) = some arrival) ∧
  -- TIME_FRAME_RECEIVED of a follower's parent that completes a measurement
  (∀ (s : State) (q : SideId) (payload : List Byte) (arrival : Nat) (c : Candidate) (theta delay : Int),
    s.timeFrames q = true → byteAt payload 0 = 1 → s.role = roleFOLLOWER → s.mgmt.coresDown = false →
    bitAt (byteAt payload 1) 4 = false → (s.notePeer q payload arrival).parent = some c → c.side = some q.val →
    s.timeMeasure q payload = some (theta, delay) → delayOff (s.timeSide q).delays delay = false →
    ∃ t, exec (.timeFrameReceived q payload arrival) s = .next t ∧
    t.rd TIM_OFFSET.THETA = ofSigned 32 (clampInt (-2 ^ 31) (2 ^ 31 - 1) (roundDiv theta (2 ^ 13))) ∧
    t.rd TIM_STATUS.STRATUM = min 15 (c.stratum + 1) ∧ t.rd TIM_STATUS.MASTER_VALID = 1 ∧
    t.rd TIM_STATUS.PARENT_PULSE = 0 ∧ t.rd TIM_STATUS.PARENT_PORT = q / 2 ∧
    (t.timeSide q).delays = (delay :: (s.timeSide q).delays).take 8 ∧ t.tim.lastAt = s.elapsed) ∧
  -- TIME_FRAME_RECEIVED with a newer schedule whose time has not passed
  (∀ (s : State) (q : SideId) (payload : List Byte) (arrival : Nat), s.timeFrames q = true → byteAt payload 0 = 1 →
    s.role ≠ roleFOLLOWER → bitAt (byteAt payload 1) 4 = true → newer256 (byteAt payload 40) s.tim.seen = true →
    leNat ((payload.drop 32).take 8) ≠ 0 → s.now ≤ leNat ((payload.drop 32).take 8) * nsUnit →
    ∃ t, exec (.timeFrameReceived q payload arrival) s = .next t ∧ t.rd TRC_SCHED_CTRL.NUMBER = byteAt payload 40 ∧
    t.rd TRC_SCHED_CTRL.PENDING = 1 ∧ t.tim.schedTime = leNat ((payload.drop 32).take 8) ∧ t.tim.flood = true)

/-- HOLDOVER_ENTRY, TPULSE_OUT, TPULSE_EDGE, TIM_SET, AON_RATIO_MEASURE: holdover, the TPULSE pin, a set of the time
and the oscillator's ratio (rests on R354, R360, R361, R363, R364, R412). Choices of the model it rests on: log
entries 2, 12, 51, 76, 113. -/
def Obligations.FabricTimeIsKept : Prop :=
  -- HOLDOVER_ENTRY
  (∀ (s : State), s.awake = true → s.role = roleFOLLOWER → s.bit TIM_STATUS.LOCKED = true →
    ∃ t, exec (.holdoverEntry) s = .next t ∧ t.rd TIM_STATUS.LOCKED = 0 ∧ t.rd TIM_STATUS.HOLDOVER = 1 ∧
    t.quality = (if s.quality = qVALID then qESTIMATED else s.quality) ∧ s.tim.lastAt + 1000 * usUnit ≤ t.elapsed) ∧
  -- TPULSE_OUT
  (∀ (s : State), s.rd TIM_CTRL.TPULSE_MODE = 2 → s.role = roleMASTER ∨ s.bit TIM_STATUS.LOCKED = true →
    s.awake = true → ∃ t, exec (.tpulseOut) s = .next t ∧
    t.outbox = .tpulse ((s.nowNs / s.pulsePeriod + 1) * s.pulsePeriod % 2 ^ 64) :: s.outbox ∧
    t.now = (s.fabricTo ((s.nowNs / s.pulsePeriod + 1) * s.pulsePeriod % 2 ^ 64 * nsUnit)).now) ∧
  -- TPULSE_EDGE with a set that waits for it
  (∀ (s : State) (e : Nat), s.awake = true → s.rd TIM_CTRL.TPULSE_MODE = 1 → s.tim.setDue = true →
    ∃ t, exec (.tpulseEdge e) s = .next t ∧
    t.nowNs = (s.rd (TIM_SET.TIME 0) + 2 ^ 32 * s.rd (TIM_SET.TIME 1)) % 2 ^ 64 ∧ t.quality = qVALID ∧
    t.tim.setDue = false) ∧
  -- TPULSE_EDGE at a follower whose parent is TPULSE
  (∀ (s : State) (e : Nat) (c : Candidate), s.awake = true → s.mgmt.coresDown = false →
    s.rd TIM_CTRL.TPULSE_MODE = 1 → s.tim.setDue = false → s.role = roleFOLLOWER → s.parent = some c → c.side = none →
    ∃ t, exec (.tpulseEdge e) s = .next t ∧ t.rd TIM_STATUS.PARENT_PULSE = 1 ∧
    t.rd TIM_STATUS.STRATUM = min 15 (c.stratum + 1) ∧ t.tim.lastAt = s.elapsed) ∧
  -- TIM_SET of a part that is not locked to another, at once
  (∀ (s : State) (hi : Nat), s.hosted = true → ¬(s.role = roleFOLLOWER ∧ s.bit TIM_STATUS.LOCKED = true) →
    s.bit TIM_PULSE.SET_AT_PULSE = false → hi < 2 ^ 32 → ∃ t, exec (.timSet hi) s = .next t ∧
    t.nowNs = (s.rd (TIM_SET.TIME 0) + 2 ^ 32 * hi) % 2 ^ 64 ∧ t.quality = qVALID ∧ t.rd TIM_STATUS.SLEWING = 0) ∧
  -- TIM_SET of a locked follower: no set
  (∀ (s : State) (hi : Nat), s.hosted = true → s.role = roleFOLLOWER → s.bit TIM_STATUS.LOCKED = true →
    exec (.timSet hi) s = .next (s.wr (TIM_SET.TIME 1) hi)) ∧
  -- AON_RATIO_MEASURE
  (∀ (s : State) (ratio : Nat), s.powerState = 0 → s.timeRuns = true →
    ∃ t, exec (.aonRatioMeasure ratio) s = .next t ∧ t.rd CLK_AON_RATIO.RATIO = ratio % 2 ^ 32 ∧ t.tim.ratioOk = true)

/-! ## Trace and trigger (12) -/

/-- WINNOW_ITEM, TRACE_DMA_WRITE, WINNOW_CLAIM, WINNOW_RELEASE, WINNOW_UNIT: Winnow units match items; records go to
windows (rests on R297, R365, R366, R367, R368, R369, R371, R373, R374, R376, R377). Choices of the model it rests on:
log entries 52, 53, 72, 107, 108, 124, 125, 131. -/
def Obligations.WinnowRecordsItems : Prop :=
  -- WINNOW_ITEM matched by one unit that records: one record is queued in the tile for the unit's window
  (∀ (s : State) (p : PortId) (dir : Dir) (item : Observed) (ide : Bool) (stamp : Nat) (raw : List Byte) (k : Nat) (u : Unit4),
    s.tileOn p = true → s.enabled p = true → s.observes (2 * p + dirBit dir) item = true →
    (s.winnow p (dirBit dir)).owner = some k → (s.winnow p (dirBit dir)).units = [u, {}, {}, {}] →
    u.hits (itemKey item ide raw) (itemCipher item ide) = true → u.record = true → u.trigger = false →
    s.takesRecords k u.window = true → s.sliceHeld k = false → s.bufferBytes (s.tileOf p) + 320 ≤ 65536 →
    ∃ t, exec (.winnowItem p dir item ide stamp raw) s = .next t ∧
    (t.tile (s.tileOf p)).buffer.length = (s.tile (s.tileOf p)).buffer.length + 1 ∧
    ((t.tile (s.tileOf p)).buffer.getLast?.map (fun e => (e.1, e.2.1, e.2.2.type, e.2.2.port, e.2.2.units, e.2.2.time))) = some (k, u.window, 1, p.val, 1, stamp) ∧
    t.rd (TRC_WIN_DROPS.DROPS k u.window) = s.rd (TRC_WIN_DROPS.DROPS k u.window)) ∧
  -- WINNOW_ITEM of a kind that the side cannot bring: nothing is matched
  (∀ (s : State) (p : PortId) (dir : Dir) (item : Observed) (ide : Bool) (stamp : Nat) (raw : List Byte),
    s.observes (2 * p + dirBit dir) item = false → exec (.winnowItem p dir item ide stamp raw) s = .next (s)) ∧
  -- TRACE_DMA_WRITE of one record into a WRAP window in OPEN: it is written at the position, which moves on
  (∀ (s : State) (t' : TileId) (k w : Nat) (r : TraceRec), s.mgmt.inL1 = false → s.traceTurn = true →
    s.shareOf (s.tile t').carried + 64 * r.units64 ≤ 60000 → s.shareOf s.tim.dma + 64 * r.units64 ≤ 240000 →
    (s.tile t').buffer = [(k, w, r)] → s.takesRecords k w = true → s.rd (TRC_WIN_STATUS.STATE k w) = 2 →
    s.sliceHeld k = false → s.rd (TRC_WIN_STATUS.MODE k w) = 1 → (s.window k w).dropped = 0 → r.type = 1 →
    0 < s.windowSize k w → s.rd (TRC_WIN_POS.POS k w) % 32768 + r.units64 ≤ 32768 →
    s.rd (TRC_WIN_POS.POS k w) < s.windowSize k w → (r.bytes (s.window k w).written).length ≤ 128 * 2 ^ s.mgmt.mps →
    64 * s.rd (TRC_WIN_POS.POS k w) % 4096 + (r.bytes (s.window k w).written).length ≤ 4096 → s.awake = true →
    ∃ t, exec (.traceDmaWrite t') s = .next t ∧
    t.rd (TRC_WIN_POS.POS k w) = (s.rd (TRC_WIN_POS.POS k w) + r.units64) % s.windowSize k w ∧
    (t.tile t').buffer = [] ∧
    t.outbox = .granaryWrite k w (64 * s.rd (TRC_WIN_POS.POS k w)) (s.pasidOf k) s.mgmt.ro (r.bytes (s.window k w).written) :: s.outbox ∧
    (t.window k w).written = ((s.window k w).written + 1) % 2 ^ 32) ∧
  -- TRACE_DMA_WRITE of one record that the plane of its Lane Tile does not hold: it waits in the buffer
  (∀ (s : State) (t' : TileId) (k w : Nat) (r : TraceRec), s.awake = true → s.mgmt.inL1 = false → s.traceTurn = true →
    60000 < s.shareOf (s.tile t').carried + 64 * r.units64 → (s.tile t').buffer = [(k, w, r)] →
    s.takesRecords k w = true → ∃ t, exec (.traceDmaWrite t') s = .next t ∧
    t.rd (TRC_WIN_DROPS.DROPS k w) = s.rd (TRC_WIN_DROPS.DROPS k w) ∧
    t.rd (TRC_WIN_POS.POS k w) = s.rd (TRC_WIN_POS.POS k w) ∧ (t.tile t').buffer = [(k, w, r)]) ∧
  -- TRACE_DMA_WRITE of one record that the share of the DMA engine does not hold: it is dropped and counted
  (∀ (s : State) (t' : TileId) (k w : Nat) (r : TraceRec), s.awake = true → s.mgmt.inL1 = false → s.traceTurn = true →
    s.shareOf (s.tile t').carried + 64 * r.units64 ≤ 60000 → 240000 < s.shareOf s.tim.dma + 64 * r.units64 →
    (s.tile t').buffer = [(k, w, r)] → s.takesRecords k w = true → ∃ t, exec (.traceDmaWrite t') s = .next t ∧
    t.rd (TRC_WIN_DROPS.DROPS k w) = (s.rd (TRC_WIN_DROPS.DROPS k w) + 1) % 2 ^ 32 ∧
    t.rd (TRC_WIN_POS.POS k w) = s.rd (TRC_WIN_POS.POS k w) ∧ (t.tile t').buffer = [] ∧ t.outbox = s.outbox) ∧
  -- TRACE_DMA_WRITE while the link is in L1, or while what goes before trace records is ready: the records wait
  (∀ (s : State) (t' : TileId), s.mgmt.inL1 = true ∨ s.traceTurn = false → exec (.traceDmaWrite t') s = .next (s)) ∧
  -- WINNOW_CLAIM of a Winnow nobody owns
  (∀ (s : State) (k : SliceId) (i : RingId) (idx : Nat) (e : List Byte), s.front k i idx e 0x12 → cmdPort e < 64 →
    s.sees k (cmdPort e) = true → s.enabled (cmdPort e) = true → cmdCheck e = false →
    (s.winnow (cmdPort e) (byteAt e 16)).owner = none → ∃ t, exec (.winnowClaim k i) s = .next t ∧
    s.completed t k i idx e 0 ∧ (t.winnow (cmdPort e) (byteAt e 16)).owner = some k.val ∧
    t.rd (TRC_WN_STATUS.CLAIMED (2 * cmdPort e + byteAt e 16 % 2)) = 1 ∧
    t.rd (TRC_WN_STATUS.OWNER (2 * cmdPort e + byteAt e 16 % 2)) = k) ∧
  -- WINNOW_RELEASE of a Winnow of the Slice
  (∀ (s : State) (k : SliceId) (i : RingId) (idx : Nat) (e : List Byte), s.front k i idx e 0x13 → cmdPort e < 64 →
    s.sees k (cmdPort e) = true → s.enabled (cmdPort e) = true → cmdCheck e = false →
    (s.winnow (cmdPort e) (byteAt e 16)).owner = some k.val → ∃ t, exec (.winnowRelease k i) s = .next t ∧
    s.completed t k i idx e 0 ∧ (t.winnow (cmdPort e) (byteAt e 16)).owner = none ∧
    (t.winnow (cmdPort e) (byteAt e 16)).units.all (fun u => !u.enabled) = true ∧
    t.rd (TRC_WN_STATUS.CLAIMED (2 * cmdPort e + byteAt e 16 % 2)) = 0) ∧
  -- WINNOW_RELEASE of another Slice's Winnow: NOT_OWNER
  (∀ (s : State) (k : SliceId) (i : RingId) (idx : Nat) (e : List Byte), s.front k i idx e 0x13 → cmdPort e < 64 →
    s.sees k (cmdPort e) = true → s.enabled (cmdPort e) = true → cmdCheck e = false →
    (s.winnow (cmdPort e) (byteAt e 16)).owner ≠ some k.val → ∃ t, exec (.winnowRelease k i) s = .next t ∧
    s.completed t k i idx e 0x14 ∧ t.winnows = s.winnows) ∧
  -- WINNOW_UNIT
  (∀ (s : State) (k : SliceId) (i : RingId) (idx : Nat) (e : List Byte), s.front k i idx e 0x14 → cmdPort e < 64 →
    s.sees k (cmdPort e) = true → s.enabled (cmdPort e) = true → cmdCheck e = false →
    (s.winnow (cmdPort e) (byteAt e 16)).owner = some k.val → ∃ t, exec (.winnowUnit k i) s = .next t ∧
    s.completed t k i idx e 0 ∧
    (t.winnow (cmdPort e) (byteAt e 16)).units = setUnit (s.winnow (cmdPort e) (byteAt e 16)).units e ∧
    (t.winnow (cmdPort e) (byteAt e 16)).owner = some k.val)

/-- WINDOW_OPEN, WINDOW_CLOSE, WINDOW_CLOSE_DONE, WINDOW_RESUME: Granary windows open within the quota, close and
resume (rests on R370, R377, R378). Choices of the model it rests on: log entries 9, 48. -/
def Obligations.WindowsOpenAndClose : Prop :=
  -- WINDOW_OPEN of a closed window within the quota: OPENING, and its granule list is read
  (∀ (s : State) (k : SliceId) (i : RingId) (idx : Nat) (e : List Byte), s.front k i idx e 0x10 →
    s.rd (TRC_WIN_STATUS.STATE k (byteAt e 16)) = 0 → 0 < cmdField e 20 4 →
    s.granulesHeld k + cmdField e 20 4 ≤ s.rd (SLC_SHARE.GRANULES k) → ∃ t, exec (.windowOpen k i) s = .next t ∧
    t.rd (TRC_WIN_STATUS.STATE k (byteAt e 16)) = 1 ∧ (t.window k (byteAt e 16)).want = cmdField e 20 4 ∧
    (t.window k (byteAt e 16)).opener = some (i.val, idx, cmdTag e, cmdEvRing e) ∧
    (s.sliceHeld k = false → ∀ n, s.freeTag = some n → t.tag n = .outstanding (.granules k (byteAt e 16 % 16) (s.piece (cmdField e 24 8) (8 * cmdField e 20 4))) s.elapsed ∧ t.outbox.head? = some (.dmaRead n (s.pasidOf k) (cmdField e 24 8) (s.piece (cmdField e 24 8) (8 * cmdField e 20 4)))) ∧
    t.rd (RNG_POS.HEAD k i) = (idx + 1) % s.ringSize k i % 2 ^ 16) ∧
  -- WINDOW_OPEN beyond the quota: QUOTA; the window stays closed
  (∀ (s : State) (k : SliceId) (i : RingId) (idx : Nat) (e : List Byte), s.front k i idx e 0x10 →
    s.rd (TRC_WIN_STATUS.STATE k (byteAt e 16)) = 0 →
    s.rd (SLC_SHARE.GRANULES k) < s.granulesHeld k + cmdField e 20 4 → ∃ t, exec (.windowOpen k i) s = .next t ∧
    s.completed t k i idx e 0x10 ∧ t.rd (TRC_WIN_STATUS.STATE k (byteAt e 16)) = 0) ∧
  -- WINDOW_CLOSE: the window takes no more records
  (∀ (s : State) (k : SliceId) (i : RingId) (idx : Nat) (e : List Byte), s.front k i idx e 0x11 →
    s.rd (TRC_WIN_STATUS.STATE k (byteAt e 16)) ≠ 0 → (s.window k (byteAt e 16)).closing = false →
    ∃ t, exec (.windowClose k i) s = .next t ∧ t.takesRecords k (byteAt e 16) = false ∧
    (t.window k (byteAt e 16)).closer = some (i.val, idx, cmdTag e, cmdEvRing e) ∧ t.evq = s.evq) ∧
  -- WINDOW_CLOSE_DONE: CLOSED, its granules no longer held, and the command completes
  (∀ (s : State) (k : SliceId) (w : WindowId) (i idx tag ev : Nat), s.awake = true → s.sliceActive k = true →
    s.mgmt.coresDown = false → (s.window k w).closing = true → s.rd (TRC_WIN_STATUS.STATE k w) ≠ 1 →
    (s.window k w).closer = some (i, idx, tag, ev) → ∃ t, exec (.windowCloseDone k w) s = .next t ∧
    t.rd (TRC_WIN_STATUS.STATE k w) = 0 ∧ t.rd (TRC_WIN_STATUS.GRANULES k w) = 0 ∧ t.evq.length = s.evq.length + 1 ∧
    (t.evq.getLast?.map (fun v => (v.slice, v.code, v.tag, v.ring))) = some (k.val, 0, tag, some ev)) ∧
  -- WINDOW_RESUME of a FROZEN window
  (∀ (s : State) (k : SliceId) (w : WindowId), s.hosted = true → s.sliceActive k = true →
    s.rd (TRC_WIN_STATUS.STATE k w) = 4 → exec (.windowResume k w) s = .next (s.wr (TRC_WIN_STATUS.STATE k w) 2))

/-- TRIGGER, FIRE, TRIG_N_EDGE, TRIG_N_RELEASE, TRC_SCHED_GO, SCHEDULE_FIRE, LATCH, REARM, AUTO_REARM_EXPIRY: what
each does where its clause says (rests on R379, R380, R381, R382, R383). Choices of the model it rests on: log entries
2, 12, 45, 51, 113. -/
def Obligations.CommonTriggerLatches : Prop :=
  -- TRIGGER, permitted, while the trigger is armed and TRIG_N is not to be driven
  (∀ (s : State) (k : SliceId) (i : RingId) (idx : Nat) (e : List Byte), s.front k i idx e 0x15 →
    k.val = 0 ∨ s.bit TRC_TRIG_CTRL.SLICE_TRIG = true → bitAt (s.rd TRC_TRIG_CTRL.SRC_EN) 1 = true →
    s.bit SNP_STATUS.STATE = false → s.tim.latch = none → s.bit TRC_TRIG_CTRL.TRIG_OUT = false →
    ∃ t, exec (.trigger k i) s = .next t ∧ s.completed t k i idx e 0 ∧ t.tim.latch = some (s.now + 64 * nsUnit, 2)) ∧
  -- TRIGGER of another Slice without SLICE_TRIG: DENIED
  (∀ (s : State) (k : SliceId) (i : RingId) (idx : Nat) (e : List Byte), s.front k i idx e 0x15 → k.val ≠ 0 →
    s.bit TRC_TRIG_CTRL.SLICE_TRIG = false → ∃ t, exec (.trigger k i) s = .next t ∧ s.completed t k i idx e 2 ∧
    t.tim = s.tim) ∧
  -- FIRE while the trigger is armed and TRIG_N is not to be driven
  (∀ (s : State), s.hosted = true → bitAt (s.rd TRC_TRIG_CTRL.SRC_EN) 1 = true → s.bit SNP_STATUS.STATE = false →
    s.tim.latch = none → s.bit TRC_TRIG_CTRL.TRIG_OUT = false → exec (.fire) s = .next
    (s.upTim (fun x => { x with latch := some (s.now + 64 * nsUnit, 2) }))) ∧
  -- FIRE while a latch is shown: counted as missed
  (∀ (s : State), s.hosted = true → bitAt (s.rd TRC_TRIG_CTRL.SRC_EN) 1 = true → s.bit SNP_STATUS.STATE = true →
    ∃ t, exec (.fire) s = .next t ∧ t.rd SNP_STATUS.MISSED = satInc 8 (s.rd SNP_STATUS.MISSED) ∧ t.tim = s.tim) ∧
  -- TRIG_N_EDGE of another part
  (∀ (s : State) (stamp : Nat), s.awake = true → s.tim.trigOut = false → s.tim.deafUntil ≤ s.elapsed →
    bitAt (s.rd TRC_TRIG_CTRL.SRC_EN) 2 = true → s.bit SNP_STATUS.STATE = false → s.tim.latch = none →
    exec (.trigNEdge stamp) s = .next (s.upTim (fun x => { x with latch := some (stamp * 65536 + 64 * nsUnit, 4) }))) ∧
  -- TRIG_N_EDGE while the device drives the pin or within 100 ns after: ignored
  (∀ (s : State) (stamp : Nat), s.tim.trigOut = true ∨ s.elapsed < s.tim.deafUntil → exec (.trigNEdge stamp) s = .next
    (s)) ∧
  -- TRIG_N_RELEASE
  (∀ (s : State), s.awake = true → s.tim.trigOut = true → ∃ t, exec (.trigNRelease) s = .next t ∧
    t.outbox = .trigN false :: s.outbox ∧ t.tim.trigOut = false ∧ t.tim.deafUntil = s.tim.deafUntil + 100 * nsUnit ∧
    s.tim.deafUntil ≤ t.elapsed) ∧
  -- TRC_SCHED_GO with a time to come
  (∀ (s : State) (flood : Bool), s.hosted = true → s.rd (TRC_SCHED.TIME 0) + 2 ^ 32 * s.rd (TRC_SCHED.TIME 1) ≠ 0 →
    s.now ≤ (s.rd (TRC_SCHED.TIME 0) + 2 ^ 32 * s.rd (TRC_SCHED.TIME 1)) * nsUnit →
    ∃ t, exec (.trcSchedGo flood) s = .next t ∧ t.rd TRC_SCHED_CTRL.PENDING = 1 ∧
    t.rd TRC_SCHED_CTRL.NUMBER = (s.tim.seen + 1) % 256 ∧
    t.tim.schedTime = s.rd (TRC_SCHED.TIME 0) + 2 ^ 32 * s.rd (TRC_SCHED.TIME 1) ∧ t.tim.flood = flood) ∧
  -- TRC_SCHED_GO with a time that has passed: late
  (∀ (s : State) (flood : Bool), s.hosted = true → s.rd (TRC_SCHED.TIME 0) + 2 ^ 32 * s.rd (TRC_SCHED.TIME 1) ≠ 0 →
    (s.rd (TRC_SCHED.TIME 0) + 2 ^ 32 * s.rd (TRC_SCHED.TIME 1)) * nsUnit < s.now →
    ∃ t, exec (.trcSchedGo flood) s = .next t ∧ t.rd TRC_SCHED_CTRL.LATE = 1 ∧
    t.rd TRC_SCHED_CTRL.LATE_CNT = satInc 8 (s.rd TRC_SCHED_CTRL.LATE_CNT) ∧ t.tim.seen = (s.tim.seen + 1) % 256 ∧
    t.tim.latch = s.tim.latch) ∧
  -- SCHEDULE_FIRE
  (∀ (s : State), s.bit TRC_SCHED_CTRL.PENDING = true → s.timeRuns = true →
    bitAt (s.rd TRC_TRIG_CTRL.SRC_EN) 3 = true → s.bit SNP_STATUS.STATE = false → s.tim.latch = none →
    ∃ t, exec (.scheduleFire) s = .next t ∧ t.rd TRC_SCHED_CTRL.PENDING = 0 ∧
    t.tim.latch = some (s.tim.schedTime * nsUnit, 8) ∧ t.now = (s.fabricTo (s.tim.schedTime * nsUnit)).now) ∧
  -- LATCH
  (∀ (s : State) (tl src : Nat), s.awake = true → s.tim.latch = some (tl, src) → src < 16 →
    ∃ t, exec (.latch) s = .next t ∧ t.rd SNP_STATUS.STATE = 1 ∧ t.rd SNP_STATUS.SOURCES = src ∧
    t.rd SNP_STATUS.LATCH_ID = (s.rd SNP_STATUS.LATCH_ID + 1) % 256 ∧ t.rd (SNP_TIME.TIME 0) = tl / nsUnit % 2 ^ 32 ∧
    t.tim.latch = none ∧ t.snap.bct = s.bct ∧ t.snap.halves = s.halves ∧ t.snap.now = tl) ∧
  -- REARM
  (∀ (s : State), s.hosted = true → exec (.rearm) s = .next (s.off SNP_STATUS.STATE)) ∧
  -- AUTO_REARM_EXPIRY
  (∀ (s : State), s.awake = true → s.bit SNP_STATUS.STATE = true → s.rd SNP_CTRL.AUTO_REARM ≠ 0 →
    ∃ t, exec (.autoRearmExpiry) s = .next t ∧ t.rd SNP_STATUS.STATE = 0 ∧
    s.tim.latchedAt + s.rd SNP_CTRL.AUTO_REARM * usUnit ≤ t.elapsed)

/-! ## Power and clocks (13) -/

/-- TILE_WAKE_REQUEST, TILE_RAMP_START, TILE_RAMP_DONE, TILE_RESTORE_DONE, TILE_IDLE_EXPIRY, HALF_LANE_POWER_UP: what
each does where its clause says (rests on R15, R28, R31, R389, R397, R401, R404, R407, R408). Choices of the model it
rests on: log entries 2, 3, 58, 69, 109. -/
def Obligations.TilesWakeAndRest : Prop :=
  -- TILE_WAKE_REQUEST of a park poll
  (∀ (s : State) (t' : TileId), s.parked t' = true → s.resetsHeld = false → s.powerState ≤ 2 →
    s.power.inReset = false → ∃ t, exec (.tileWakeRequest t' .parkPoll) s = .next t ∧ t.tileState t' = 1 ∧
    t.power.ramp = s.power.ramp ++ [t'.val]) ∧
  -- TILE_WAKE_REQUEST of a read of a register that the tile holds: the access waits
  (∀ (s : State) (t' : TileId) (x : Nat), s.hosted = true → s.powerState ≠ 1 → s.holder x = some t'.val →
    s.tileState t' = 0 → s.resetsHeld = false → s.powerState ≤ 2 → s.power.inReset = false →
    ∃ t, exec (.tileWakeRequest t' (.access false x 0)) s = .next t ∧ t.tileState t' = 1 ∧
    t.power.ramp = s.power.ramp ++ [t'.val] ∧ (t.tile t').accesses = (s.tile t').accesses ++ [⟨false, x, 0⟩]) ∧
  -- TILE_WAKE_REQUEST of a park poll in DEEP and OFF: none is made there
  (∀ (s : State) (t' : TileId), s.parked t' = true → s.powerState = 3 ∨ s.powerState = 4 → s.power.inReset = false →
    s.power.wake = none → s.power.entry = none → s.power.wokeAt ≠ s.elapsed →
    exec (.tileWakeRequest t' .parkPoll) s = .next (s)) ∧
  -- TILE_RAMP_START
  (∀ (s : State) (t' : Nat) (rest : List Nat), s.power.ramping = none → s.power.ramp = t' :: rest → s.awake = true →
    s.bit CLK_STATUS.ROOT_LOCK = true → exec (.tileRampStart) s = .next
    (s.upPw (fun x => { x with ramping := some t', ramp := rest }))) ∧
  -- TILE_RAMP_DONE
  (∀ (s : State) (t' : TileId), s.power.ramping = some t'.val → ∃ t, exec (.tileRampDone t') s = .next t ∧
    t.power.ramping = none ∧ (t.tile t').restoring = true ∧ t.tileState t' = s.tileState t') ∧
  -- TILE_RESTORE_DONE: the tile is ON and its engines run
  (∀ (s : State) (t' : TileId) (k : EngineId), s.tileState t' = 1 → (s.tile t').restoring = true →
    s.bit CLK_STATUS.ROOT_LOCK = true → k.val / 16 = t'.val → (s.engine k).disabled = false →
    ∃ t, exec (.tileRestoreDone t') s = .next t ∧ t.tileState t' = 2 ∧ (t.tile t').restoring = false ∧
    t.rd (ENG_STATUS.STATE k) = engRunning) ∧
  -- TILE_IDLE_EXPIRY of a tile that nothing holds in ON
  (∀ (s : State) (t' : TileId), s.tileState t' = 2 → s.tileIdle t' = true →
    ∃ t, exec (.tileIdleExpiry t') s = .next t ∧ t.tileState t' = 0) ∧
  -- TILE_IDLE_EXPIRY of a tile that something holds in ON
  (∀ (s : State) (t' : TileId), s.tileState t' = 2 → s.tileIdle t' = false → exec (.tileIdleExpiry t') s = .next (s)) ∧
  -- HALF_LANE_POWER_UP
  (∀ (s : State) (h : HalfId), s.calledFor h = true → ∃ t, exec (.halfLanePowerUp h) s = .next t ∧
    (t.half h).powered = true ∧ t.power.poweredAt = t.elapsed ∧ s.power.poweredAt + 200 * nsUnit ≤ t.elapsed)

/-- REFCLK_LOST, REFCLK_RETURN, ROOT_LOCK, VID_WAIT_EXPIRY: the loss and the return of REFCLK, the root's lock and the
end of a change of level (rests on R388, R389, R390, R391, R393, R395). Choices of the model it rests on: log entries
2, 50. -/
def Obligations.ClocksAndLevelsChange : Prop :=
  -- REFCLK_LOST: the cores leave the root, and every Lane Tile is in reset or OFF
  (∀ (s : State), s.rootMay = true → s.bit CLK_STATUS.REFCLK_OK = true → s.txn.changes = [] ∨ s.txnState ≠ xAPPLYING →
    ∃ t, exec (.refclkLost) s = .next t ∧ t.rd CLK_STATUS.ROOT_LOCK = 0 ∧ t.rd CLK_STATUS.REFCLK_OK = 0 ∧
    t.rd CLK_STATUS.CORE_SRC = 0 ∧ t.rd CLK_STATUS.MCLK_SRC = 0 ∧ t.rd CLK_STATUS.REFCLK_LOST = 1 ∧
    t.rd CLK_STATUS.LOSS_CNT = satInc 8 (s.rd CLK_STATUS.LOSS_CNT) ∧
    (∀ i : TileId, t.tileState i = if s.power.thermtrip = true ∨ s.tileState i = 0 then s.tileState i else 3)) ∧
  -- REFCLK_RETURN
  (∀ (s : State), s.power.inReset = false → s.bit CLK_STATUS.REFCLK_OK = false → exec (.refclkReturn) s = .next
    (s.on CLK_STATUS.REFCLK_OK)) ∧
  -- ROOT_LOCK
  (∀ (s : State), s.power.wake = none → s.powerState ≤ 1 → s.power.inReset = false →
    s.bit CLK_STATUS.REFCLK_OK = true → s.bit CLK_STATUS.ROOT_LOCK = false → exec (.rootLock) s = .next
    (((s.on CLK_STATUS.ROOT_LOCK).on CLK_STATUS.CORE_SRC).on CLK_STATUS.MCLK_SRC)) ∧
  -- VID_WAIT_EXPIRY of a change of level with no other due
  (∀ (s : State), s.power.wake = none → s.bit PWR_STATUS.VID_BUSY = true → s.power.nextLevel = none →
    ∃ t, exec (.vidWaitExpiry) s = .next t ∧ t.rd PWR_STATUS.VID_BUSY = 0 ∧ t.rd PWR_STATUS.PL = s.rd PWR_STATUS.PL ∧
    t.rd PWR_STATUS.VID_CODE = s.rd PWR_STATUS.VID_CODE) ∧
  -- VID_WAIT_EXPIRY with another level due
  (∀ (s : State) (l : Fin 4), s.power.wake = none → s.bit PWR_STATUS.VID_BUSY = true →
    s.power.nextLevel = some l.val → s.rd PWR_STATUS.PL ≠ l → ∃ t, exec (.vidWaitExpiry) s = .next t ∧
    t.rd PWR_STATUS.VID_BUSY = 1 ∧ t.rd PWR_STATUS.PL = l ∧ t.rd PWR_STATUS.VID_CODE = levelCode l ∧
    t.power.nextLevel = none) ∧
  -- VID_WAIT_EXPIRY of a wake: it goes on
  (∀ (s : State) (w : Wake), s.power.wake = some w → exec (.vidWaitExpiry) s = .next
    ((s.advanceTo (s.power.vidAt + s.vidWait)).upPw (fun x => { x with wake := some { w with voltage := true } })))

/-- IDLE_ENTRY, SLEEP_ENTRY, DEEP_ENTRY, OFF_ENTRY: entry to IDLE, SLEEP, DEEP and OFF under their conditions (rests
on R363, R393, R398, R399, R400, R426, R457). Choices of the model it rests on: log entries 2, 3, 12, 19, 26, 70, 80,
109, 130. -/
def Obligations.PowerStatesAreEntered : Prop :=
  -- IDLE_ENTRY
  (∀ (s : State), s.awake = true → s.powerState = 0 → s.idleFit = true → ∃ t, exec (.idleEntry) s = .next t ∧
    t.powerState = 1 ∧ s.power.quietAt + max 1 (s.rd PWR_TIMERS.IDLE_TIMER) * 1000 * usUnit ≤ t.elapsed ∧
    t.halves = s.halves ∧ t.rings = s.rings ∧ t.txn = s.txn) ∧
  -- IDLE_ENTRY while a condition is not met
  (∀ (s : State), s.idleFit = false → exec (.idleEntry) s = .next (s)) ∧
  -- SLEEP_ENTRY
  (∀ (s : State), s.awake = true → s.powerState = 1 → s.sleepFit = true → s.power.sbBusy = false →
    ∃ t, exec (.sleepEntry) s = .next t ∧ t.powerState = 2 ∧ t.rd PWR_STATUS.VID_CODE = 20 ∧
    t.rd CLK_STATUS.ROOT_LOCK = 0 ∧ t.rd CLK_STATUS.CORE_SRC = 0 ∧ t.power.timerAt.isSome = true ∧
    t.power.edgeAt ≤ t.elapsed + s.aonPeriod ∧
    s.power.quietAt + max 1 (s.rd PWR_TIMERS.SLEEP_TIMER) * 10000 * usUnit ≤ t.elapsed ∧ t.freeCtr = s.freeCtr + 1) ∧
  -- DEEP_ENTRY
  (∀ (s : State) (temp : Int), s.powerState = 2 → s.power.wake = none → s.deepFit temp = true →
    s.power.sbBusy = false → ∃ t, exec (.deepEntry temp) s = .next t ∧ t.powerState = 3 ∧
    t.rd PWR_STATUS.VID_CODE = 0 ∧ t.power.sealed = true ∧ t.power.timerAt = none ∧
    t.power.edgeAt = s.power.edgeAt + ((t.elapsed - s.power.edgeAt) / s.aonPeriod + 1) * s.aonPeriod ∧
    t.power.timeAt = s.power.timeAt + ((t.elapsed - s.power.edgeAt) / s.aonPeriod + 1) * s.aonPeriod) ∧
  -- SLEEP_ENTRY while a sideband message is in progress: no entry begins
  (∀ (s : State), s.power.sbBusy = true → exec (.sleepEntry) s = .next (s)) ∧
  -- DEEP_ENTRY while a sideband message is in progress: no entry begins
  (∀ (s : State) (temp : Int), s.power.sbBusy = true → exec (.deepEntry temp) s = .next (s)) ∧
  -- OFF_ENTRY
  (∀ (s : State), s.powerState = 3 → s.power.wake = none → s.deepFit 0 = true → s.bit PWR_POLICY.OFF_EN = true →
    ∃ t, exec (.offEntry) s = .next t ∧ t.powerState = 4 ∧ t.power.sealed = false ∧ t.power.entry = none)

/-- SB_ADDRESS_MATCH, MGMT_LINK_WAKE, WAKE_IN, PARK_POLL, ALWAYS_ON_TIMER_WAKE: wake sources in IDLE, SLEEP, DEEP and
OFF (rests on R401, R403, R404, R405, R415). Choices of the model it rests on: log entries 2, 3, 26, 80, 111, 129. -/
def Obligations.WakeSourcesWakeTheDevice : Prop :=
  -- SB_ADDRESS_MATCH in SLEEP or DEEP past the commit point: the wake begins
  (∀ (s : State), s.powerState = 2 ∨ s.powerState = 3 → s.power.inReset = false → s.power.wake = none →
    s.power.entry = none → ∃ t, exec (.sbAddressMatch) s = .next t ∧
    t.power.wake = some ⟨s.powerState, s.elapsed, false⟩ ∧ t.rd PWR_WAKE_SOURCE.SB_MATCH = 1 ∧
    t.rd PWR_WAKE_SOURCE.FROM_STATE = s.powerState ∧ t.rd PWR_STATUS.VID_CODE = levelCode s.requiredLevel ∧
    t.powerState = s.powerState ∧
    (s.powerState = 2 → t.power.sbBusy = true ∧ t.rd SB_CNT.MESSAGES = if s.power.sbBusy = true then s.rd SB_CNT.MESSAGES else (s.rd SB_CNT.MESSAGES + 1) % 2 ^ 16)) ∧
  -- SB_ADDRESS_MATCH before the commit point of an entry to DEEP from SLEEP: the entry is abandoned, and the wake is from SLEEP
  (∀ (s : State) (en : PowerEntry), s.powerState = 3 → s.power.inReset = false → s.power.wake = none →
    s.power.entry = some en → s.elapsed < en.commitAt → en.state = 2 → en.clocks = none →
    ∃ t, exec (.sbAddressMatch) s = .next t ∧ t.rd PWR_WAKE_STATUS.ABANDONED = 1 ∧ t.powerState = 2 ∧
    t.power.wake = some ⟨2, s.elapsed, false⟩ ∧ t.power.sealed = false ∧
    (t.power.timeAt, t.power.edgeAt, t.power.uncertAt) = en.edge) ∧
  -- MGMT_LINK_WAKE in IDLE: RUN at once
  (∀ (s : State), s.powerState = 1 → s.power.inReset = false → s.power.wake = none → s.power.entry = none →
    ∃ t, exec (.mgmtLinkWake) s = .next t ∧ t.powerState = 0 ∧ t.rd PWR_WAKE_SOURCE.MGMT_LINK = 1 ∧
    t.rd PWR_WAKE_SOURCE.FROM_STATE = 1) ∧
  -- WAKE_IN in OFF: a Pin reset
  (∀ (s : State), s.powerState = 4 → s.power.inReset = false → ∃ t, exec (.wakeIn) s = .next t ∧
    t.rd RST_STATUS.REASON = 4 ∧ t.rd RST_STATUS.BOOT_DONE = 0 ∧ t.power.inReset = true ∧
    t.rd PWR_WAKE_SOURCE.WAKE_IN = 1 ∧ t.rd PWR_WAKE_SOURCE.FROM_STATE = 4) ∧
  -- WAKE_IN in SLEEP past the commit point
  (∀ (s : State), s.powerState = 2 → s.power.inReset = false → s.power.wake = none → s.power.entry = none →
    ∃ t, exec (.wakeIn) s = .next t ∧ t.power.wake = some ⟨2, s.elapsed, false⟩ ∧ t.rd PWR_WAKE_SOURCE.WAKE_IN = 1) ∧
  -- WAKE_IN at the instant of a wake from SLEEP under way: recorded with its source
  (∀ (s : State) (w : Wake), s.powerState = 2 → s.power.inReset = false → s.power.entry = none →
    s.power.wake = some w → s.power.wokeFrom = 2 → s.power.wokeAt = s.elapsed → exec (.wakeIn) s = .next
    (s.on PWR_WAKE_SOURCE.WAKE_IN)) ∧
  -- WAKE_IN later in a wake: no effect
  (∀ (s : State) (w : Wake), s.powerState = 2 → s.power.inReset = false → s.power.entry = none →
    s.power.wake = some w → s.power.wokeAt < s.elapsed → exec (.wakeIn) s = .next (s)) ∧
  -- PARK_POLL in RUN: the parked tiles wake
  (∀ (s : State) (t' : TileId), s.powerState = 0 → s.power.inReset = false → s.power.wake = none →
    s.resetsHeld = false → s.parked t' = true → ∃ t, exec (.parkPoll) s = .next t ∧ t.tileState t' = 1 ∧
    s.nextPoll ≤ t.elapsed) ∧
  -- ALWAYS_ON_TIMER_WAKE in SLEEP past the commit point
  (∀ (s : State) (e : Nat), s.powerState = 2 → s.power.inReset = false → s.power.wake = none → s.power.entry = none →
    s.power.timerAt = some e → ∃ t, exec (.alwaysOnTimerWake) s = .next t ∧
    t.power.wake = some ⟨2, max e s.elapsed, false⟩ ∧ t.rd PWR_WAKE_SOURCE.AON_TIMER = 1 ∧ e ≤ t.elapsed)

/-- SLEEP_WAKE_DONE, DEEP_WAKE_RELOAD_DONE: the end of a wake from SLEEP and from DEEP (rests on R363, R389, R403,
R425, R426, R428, R438). Choices of the model it rests on: log entries 2, 64. -/
def Obligations.WakesEndInRun : Prop :=
  -- SLEEP_WAKE_DONE
  (∀ (s : State) (w : Wake) (cycles us : Nat), s.power.wake = some w → w.from_ = 2 → w.voltage = true →
    s.bit CLK_STATUS.ROOT_LOCK = true → ∃ t, exec (.sleepWakeDone cycles us) s = .next t ∧ t.powerState = 0 ∧
    t.now = (s.power.timeAt + cycles * s.aonPeriod) % timeSpan ∧ t.rd PWR_WAKE_STATUS.WAKE_US = min us 16383 ∧
    t.power.wake = none ∧ t.quality = (if s.quality = qINVALID ∨ s.tim.ratioOk = false then qINVALID else qESTIMATED)) ∧
  -- DEEP_WAKE_RELOAD_DONE with all banks of the Loft good: RUN under a new mirror era where the image read again is authentic, a Pin reset where it is not
  (∀ (s : State) (w : Wake) (answers : Bool) (cycles us : Nat), s.power.wake = some w → w.from_ = 3 →
    w.voltage = true → s.bit CLK_STATUS.ROOT_LOCK = true → s.power.sealed = true →
    ∃ t, exec (.deepWakeReloadDone answers (List.replicate 8 true) cycles us) s = .next t ∧ t.power.wake = none ∧
    ((if answers then s.slotAuthentic s.bootedB else none).isSome = true → t.powerState = 0 ∧ t.era = (if s.era = 255 then 1 else s.era + 1) ∧ t.rd PWR_WAKE_STATUS.LOFT_FAIL = s.rd PWR_WAKE_STATUS.LOFT_FAIL % 2 ^ 8 ∧ t.rd PWR_WAKE_STATUS.WAKE_US = min us 16383 ∧ t.evq.length = s.evq.length) ∧
    ((if answers then s.slotAuthentic s.bootedB else none).isSome = false → t.rd RST_STATUS.REASON = 5 ∧ t.power.inReset = true))

/-! ## Resets (14) -/

/-- ALWAYS_ON_RESET_RELEASE, RESET_N_ASSERT, RESET_N_DEASSERT, SUPPLY_MONITOR, SUPPLY_RECOVERED, RST_DEVICE: what each
does where its clause says (rests on R413, R415, R423, R424, R432, R436, R453). Choices of the model it rests on: log
entries 5, 68. -/
def Obligations.DeviceResetsLeaveTheirReason : Prop :=
  -- ALWAYS_ON_RESET_RELEASE
  (∀ (s : State) (straps : Fin 8), s.power.aonReset = true → ∃ t, exec (.alwaysOnResetRelease straps) s = .next t ∧
    t.power.aonReset = false ∧ t.rd SB_STATUS.ADDRESS = 0x58 + straps.val ∧ t.rd PWR_STATUS.VID_CODE = 0x2C) ∧
  -- RESET_N_ASSERT on a device outside a reset: a Pin reset
  (∀ (s : State), s.power.resetN = false → s.power.inReset = false → ∃ t, exec (.resetNAssert) s = .next t ∧
    t.rd RST_STATUS.REASON = 1 ∧ t.rd RST_STATUS.BOOT_DONE = 0 ∧
    t.rd RST_STATUS.PIN_CNT = satInc 8 (s.rd RST_STATUS.PIN_CNT) ∧
    t.power.resetN = true ∧ t.power.inReset = true ∧ t.power.bootDue = false ∧
    t.halves = {} ∧ t.evq = [] ∧ t.fuses = s.fuses ∧ t.now = 0 ∧ t.quality = qINVALID) ∧
  -- RESET_N_DEASSERT with nothing else that holds the reset: boot is due
  (∀ (s : State), s.power.resetN = true → s.power.inReset = true → s.power.bootDue = false →
    s.power.aonReset = false → s.power.lowRails = [] → exec (.resetNDeassert) s = .next
    (s.upPw (fun x => { x with resetN := false, bootDue := true }))) ∧
  -- SUPPLY_MONITOR outside DEEP, OFF and a reset: a Pin reset
  (∀ (s : State) (rail : Rail), s.powerState ≠ 3 → s.powerState ≠ 4 → s.power.aonReset = false →
    s.power.inReset = false → ∃ t, exec (.supplyMonitor rail) s = .next t ∧ t.rd RST_STATUS.REASON = 3 ∧
    rail ∈ t.power.lowRails ∧ t.power.inReset = true) ∧
  -- SUPPLY_RECOVERED
  (∀ (s : State), exec (.supplyRecovered) s = .next (s.upPw (fun x => { x with lowRails := [] }))) ∧
  -- RST_DEVICE with the key
  (∀ (s : State) (key : Nat), s.hosted = true → s.powerState ≠ 1 → key % 256 = 0x5A → s.power.inReset = false →
    ∃ t, exec (.rstDevice key) s = .next t ∧ t.rd RST_STATUS.REASON = 2 ∧ t.power.inReset = true) ∧
  -- RST_DEVICE without the key
  (∀ (s : State) (key : Nat), s.hosted = true → s.powerState ≠ 1 → key % 256 ≠ 0x5A → exec (.rstDevice key) s = .next
    (s))

/-- The Cold, AON brown-out and Pin resets, from each of their sources, restart Fabric Time at 0 and INVALID, and no
other reset changes it or its quality (R423). It formalises: "The resets that restart the Fabric Time counter at 0,
with quality INVALID, are the Cold, AON brown-out and Pin resets, whatever their source. No other reset changes Fabric
Time or its quality." -/
def Obligations.OnlyDeviceResetsRestartFabricTime : Prop :=
  -- COLD_RESET: the Cold reset
  (∀ (s : State), ∃ t, exec (.coldReset) s = .next t ∧ t.now = 0 ∧ t.quality = qINVALID) ∧
  -- AON_BROWNOUT: the AON brown-out reset
  (∀ (s : State) (cause : BrownoutCause), ∃ t, exec (.aonBrownout cause) s = .next t ∧
    t.now = 0 ∧ t.quality = qINVALID) ∧
  -- RESET_N_ASSERT: a Pin reset by RESET_N, of a device that is in no reset yet
  (∀ (s : State), s.power.resetN = false → s.power.inReset = false ∨ s.power.bootDue = true →
    ∃ t, exec (.resetNAssert) s = .next t ∧ t.now = 0 ∧ t.quality = qINVALID) ∧
  -- SUPPLY_MONITOR: a Pin reset by a supply monitor
  (∀ (s : State) (rail : Rail), s.powerState ≠ 3 ∧ s.powerState ≠ 4 → s.power.aonReset = false →
    s.power.inReset = false ∨ s.power.bootDue = true → ∃ t, exec (.supplyMonitor rail) s = .next t ∧
    t.now = 0 ∧ t.quality = qINVALID) ∧
  -- RST_DEVICE: a Pin reset by RST_CMD with DEVICE
  (∀ (s : State) (key : Nat), s.hosted = true → s.powerState ≠ 1 → key % 256 = 0x5A → s.power.inReset = false →
    ∃ t, exec (.rstDevice key) s = .next t ∧ t.now = 0 ∧ t.quality = qINVALID) ∧
  -- WAKE_IN: a Pin reset by a wake from OFF
  (∀ (s : State), s.powerState = 4 → s.power.inReset = false → ∃ t, exec (.wakeIn) s = .next t ∧
    t.now = 0 ∧ t.quality = qINVALID) ∧
  -- DEEP_WAKE_RELOAD_DONE: a Pin reset by a reload that fails after DEEP
  (∀ (s : State) (w : Wake) (good : List Bool) (cycles us : Nat), s.power.wake = some w → w.from_ = 3 →
    w.voltage = true → s.bit CLK_STATUS.ROOT_LOCK = true →
    ∃ t, exec (.deepWakeReloadDone false good cycles us) s = .next t ∧ t.now = 0 ∧ t.quality = qINVALID) ∧
  -- PERST_ASSERT: the Management Fundamental reset
  (∀ (s : State), ∃ t, exec (.perstAssert) s = .next t ∧ t.now = s.now ∧ t.quality = s.quality) ∧
  -- MGMT_HOT_RESET: the Management Hot reset
  (∀ (s : State), ∃ t, exec (.mgmtHotReset) s = .next t ∧ t.now = s.now ∧ t.quality = s.quality) ∧
  -- DATA_LINK_DOWN
  (∀ (s : State), ∃ t, exec (.dataLinkDown) s = .next t ∧ t.now = s.now ∧ t.quality = s.quality) ∧
  -- FLR
  (∀ (s : State), ∃ t, exec (.flr) s = .next t ∧ t.now = s.now ∧ t.quality = s.quality) ∧
  -- SLICE_RESET: the Slice reset
  (∀ (s : State) (k : SliceId), s.powerState ≠ 1 → ∃ t, exec (.sliceReset k) s = .next t ∧
    t.now = s.now ∧ t.quality = s.quality) ∧
  -- SELF_RESET
  (∀ (s : State) (k : SliceId), s.powerState ≠ 1 → ∃ t, exec (.selfReset k) s = .next t ∧
    t.now = s.now ∧ t.quality = s.quality) ∧
  -- the Port, Restructure and Tile resets, whatever asks for them
  (∀ (s : State) (p : Nat), (s.portReset p).now = s.now ∧ (s.portReset p).quality = s.quality) ∧
  (∀ (s : State) (p : Nat), (s.restructure p).now = s.now ∧ (s.restructure p).quality = s.quality) ∧
  (∀ (s : State) (i : Nat), s.txn.changes.all (fun c => c.cell.key / 32 != TIM_STATUS.off) = true →
    (s.resetTile i).now = s.now ∧ (s.resetTile i).quality = s.quality)

/-- RST_PORT, RST_TILE, PORT_RESET_DONE, TILE_RESET_DONE, THERMTRIP, TILE_FENCE, AUTO_TILE_RESET, REPLAY_MEMORY_ERROR:
each takes its effect (rests on R31, R391, R416, R418, R420, R421, R423, R444, R445, R446, R458). Choices of the model
it rests on: log entries 2, 40, 49, 63, 65, 68, 112. -/
def Obligations.PortsAndTilesAreReset : Prop :=
  -- RST_PORT of an enabled Port outside a reset: its sides are down and its transmitters idle
  (∀ (s : State) (p : PortId) (h : Nat), s.hosted = true → s.powerState ≠ 1 → s.enabled p = true →
    s.tileState (s.tileOf p) ≠ 3 → s.tileState (s.tileOf p) ≠ 4 →
    s.tileState (s.tileOf p) ≠ 0 ∨ s.resetsHeld = false → (s.portx p).reset = none → h ∈ s.stdHalves p →
    ∃ t, exec (.rstPort p) s = .next t ∧ (t.half h).tx = .idle ∧ (t.portx p).reset = some .port ∧
    t.rd (PRT_TRN_STATUS.STATE p) = tDOWN ∧
    t.rd (PRT_SEG_STATUS.STATE (2 * p)) = sDOWN ∧ t.rd (PRT_SEG_STATUS.STATE (2 * p + 1)) = sDOWN ∧
    t.rd RST_CNT.PORT_RESETS = (s.rd RST_CNT.PORT_RESETS + 1) % 2 ^ 16 ∧ t.now = s.now ∧ t.quality = s.quality) ∧
  -- RST_TILE of a tile that is neither OFF nor in reset
  (∀ (s : State) (i : TileId), s.hosted = true → s.powerState ≠ 1 → s.tileState i ≠ 0 → s.tileState i ≠ 3 →
    s.txnState ≠ xAPPLYING → ∃ t, exec (.rstTile i) s = .next t ∧ t.tileState i = 3 ∧
    t.rd RST_CNT.TILE_RESETS = satInc 8 (s.rd RST_CNT.TILE_RESETS) ∧ t.now = s.now ∧ t.quality = s.quality) ∧
  -- PORT_RESET_DONE of a TT Port whose tile is ON
  (∀ (s : State) (p : PortId), (s.portx p).reset = some .port ∨ (s.portx p).reset = some .restructure →
    s.enabled p = true → s.tileOn p = true → s.isTT p = true → s.trn p = tDOWN → s.awake = true →
    ∃ t, exec (.portResetDone p) s = .next t ∧ (t.portx p).reset = none ∧ t.rd (PRT_TRN_STATUS.STATE p) = tDETECT) ∧
  -- TILE_RESET_DONE
  (∀ (s : State) (i : TileId), s.tileState i = 3 → s.resetsHeld = false → s.bit CLK_STATUS.ROOT_LOCK = true →
    ∃ t, exec (.tileResetDone i) s = .next t ∧ t.tileState i = 2 ∧ (t.tile i).leftReset = some s.elapsed ∧
    (t.tile i).stayFenced = false) ∧
  -- THERMTRIP outside OFF, DEEP past its commit point and a reset of the device
  (∀ (s : State), s.power.thermtrip = false → s.powerState ≠ 4 → s.powerState ≠ 3 ∨ s.entering = true →
    s.power.inReset = false → s.txn.changes = [] ∨ s.txnState ≠ xAPPLYING → s.bit SB_CTRL.ALERT_EN = true →
    ∃ t, exec (.thermtrip) s = .next t ∧ t.power.thermtrip = true ∧ t.rd RST_STATUS.THERMTRIP_SEEN = 1 ∧
    t.rd SB_STATUS.ALERT_PENDING = 1 ∧
    (∀ i : TileId, t.tileState i = if s.resetsHeld = true ∨ s.tileState i = 0 then s.tileState i else 3)) ∧
  -- THERMTRIP in a reset of the device, which it merges into: the trip is recorded and the sideband alerted
  (∀ (s : State), s.power.thermtrip = false → s.powerState ≠ 4 → s.power.inReset = true →
    s.bit SB_CTRL.ALERT_EN = true → ∃ t, exec (.thermtrip) s = .next t ∧ t.power.thermtrip = true ∧
    t.rd RST_STATUS.THERMTRIP_SEEN = 1 ∧ t.rd SB_STATUS.ALERT_PENDING = 1 ∧ t.evq = s.evq ∧
    t.rd RST_CNT.TILE_RESETS = s.rd RST_CNT.TILE_RESETS) ∧
  -- THERMTRIP in DEEP past the commit point: the Tile resets wait for the wake
  (∀ (s : State) (i : TileId), s.power.thermtrip = false → s.powerState = 3 → s.entering = false →
    s.power.inReset = false → ∃ t, exec (.thermtrip) s = .next t ∧ t.power.thermtrip = true ∧ t.power.tripDue = true ∧
    t.rd RST_STATUS.THERMTRIP_SEEN = 1 ∧ t.tileState i = s.tileState i ∧
    t.halves = s.halves ∧ t.sides = s.sides ∧ t.ports = s.ports) ∧
  -- RST_PORT spares every other Port, its sides, its half-lanes and their registers
  (∀ (s t : State) (p : PortId), s.tileOf p < 8 → exec (.rstPort p) s = .next t →
    Apart (fun r => r = p.val) (fun h => h ∈ s.portMembers p) s t) ∧
  -- RST_TILE spares every Port, half-lane and register of other Lane Tiles, where no access and no Ring command waits for the tile, no transaction holds it and no firmware is reloaded
  (∀ (s t : State) (i : TileId), s.txn.tiles.contains i.val = false → s.imgOp = none → (s.tile i).accesses = [] →
    ∀ k j, ∀ w ∈ (s.ringx k j).waits, w.1 ≠ i.val →
    ∀ e ∈ tileEngines i, ∀ j, (s.engine e).slot = some j → tileOfHalf j.half = i.val → exec (.rstTile i) s = .next t →
    Apart (fun r => s.enabled r = true ∧ s.tileOf r = i.val) (fun h => tileOfHalf h = i.val) s t) ∧
  -- TILE_FENCE spares them too
  (∀ (s t : State) (i : TileId) (cause : FenceCause), s.txn.tiles.contains i.val = false → s.imgOp = none →
    (s.tile i).accesses = [] → ∀ k j, ∀ w ∈ (s.ringx k j).waits, w.1 ≠ i.val →
    ∀ e ∈ tileEngines i, ∀ j, (s.engine e).slot = some j → tileOfHalf j.half = i.val →
    exec (.tileFence i cause) s = .next t →
    Apart (fun r => s.enabled r = true ∧ s.tileOf r = i.val) (fun h => tileOfHalf h = i.val) s t) ∧
  -- TILE_FENCE of a tile that is ON: its Ports are down, and their transmitters idle
  (∀ (s : State) (i : TileId) (cause : FenceCause) (p h : Nat), s.tileState i = 2 → p ∈ s.portsOf i →
    h ∈ s.stdHalves p → ∃ t, exec (.tileFence i cause) s = .next t ∧ t.rd (PRT_TRN_STATUS.STATE p) = tDOWN ∧
    (t.half h).tx = .idle ∧ t.tileState i = 4 ∧ (t.tile i).fencedAt = s.elapsed ∧
    bitAt (t.rd ERR_DP_STATUS.CODES) 14 = true) ∧
  -- AUTO_TILE_RESET of a FENCED tile whose Ports no commit changes: 10 ms after it was fenced
  (∀ (s : State) (i : TileId), s.bit ERR_CTRL.AUTO_TILE_RESET = true → s.tileState i = 4 →
    (s.tile i).stayFenced = false → s.txnState ≠ xAPPLYING → ∃ t, exec (.autoTileReset i) s = .next t ∧
    t.tileState i = 3 ∧ (s.tile i).fencedAt + 10000 * usUnit ≤ t.elapsed ∧
    t.rd RST_CNT.TILE_RESETS = satInc 8 (s.rd RST_CNT.TILE_RESETS)) ∧
  -- REPLAY_MEMORY_ERROR in SACTIVE: the side is faulted
  (∀ (s : State) (q : SideId), s.isSeg q = true → s.segState q = sACTIVE →
    ∃ t, exec (.replayMemoryError q) s = .next t ∧ t.rd (PRT_TRL_STATUS.PORT_FAULT q) = 1 ∧
    t.rd (PRT_SEG_STATUS.STATE q) = sDETECT ∧ bitAt (t.rd ERR_DP_STATUS.CODES) 7 = true)

/-! ## Sideband (16) -/

/-- SB_READ, SB_WRITE, SB_STATUS_READ, PORT_MIRROR, IDENTIFY, ALERT_RESPONSE, SB_TIMEOUT: messages of the SMBus
sideband (rests on R438, R439, R453, R454, R455, R456, R457, R458, R459). Choices of the model it rests on: log
entries 3, 9, 20, 66, 67, 111. -/
def Obligations.SidebandAnswersMessages : Prop :=
  -- SB_READ of one register
  (∀ (s : State) (x : Nat), s.sbUp = true → s.powerState ≠ 1 → x < 2 ^ 32 → s.sbReadStatus [x] = sbOK →
    ∃ t, exec (.sbRead x 1 .right) s = .next t ∧
    t.outbox = .sideband (sbBlock (sbOK :: leNum 4 (s.sbValue x)) ++ [crc8 (2 * s.sbAddress :: ([1, 5] ++ leNum 4 x ++ [1]) ++ [2 * s.sbAddress + 1] ++ sbBlock (sbOK :: leNum 4 (s.sbValue x)))]) :: s.outbox ∧
    t.rd SB_STATUS.LAST_STATUS = sbOK ∧
    t.rd SB_CNT.MESSAGES = (if s.power.sbBusy = true then s.rd SB_CNT.MESSAGES else (s.rd SB_CNT.MESSAGES + 1) % 2 ^ 16) ∧
    t.rd SB_CNT.ERRORS = s.rd SB_CNT.ERRORS) ∧
  -- SB_READ that is answered with a status alone
  (∀ (s : State) (x : Nat) (status : Nat), s.sbUp = true → s.powerState ≠ 1 → x < 2 ^ 32 →
    s.sbReadStatus [x] = status → status ≠ sbOK → ∃ t, exec (.sbRead x 1 .right) s = .next t ∧
    t.rd SB_STATUS.LAST_STATUS = status % 2 ^ 8 ∧ t.rd SB_CNT.ERRORS = satInc 8 (s.rd SB_CNT.ERRORS) ∧
    t.outbox.length = s.outbox.length + 1) ∧
  -- SB_READ with a wrong packet error code
  (∀ (s : State) (x n : Nat), s.sbUp = true → s.powerState ≠ 1 → ∃ t, exec (.sbRead x n .wrong) s = .next t ∧
    t.rd SB_STATUS.PEC_ERR = 1 ∧ t.rd SB_STATUS.LAST_STATUS = sbPECERROR ∧
    t.rd SB_CNT.ERRORS = satInc 8 (s.rd SB_CNT.ERRORS)) ∧
  -- SB_WRITE of SB_CTRL
  (∀ (s : State) (v : Nat), s.sbUp = true → s.powerState ≠ 1 → s.hosted = true → s.c3Serves = true →
    ∃ t, exec (.sbWrite SB_CTRL.off v .right) s = .next t ∧ t.rd SB_CTRL.ALERT_EN = bitsOf v 31 1 ∧
    t.rd SB_CTRL.PEC_REQUIRED = bitsOf v 28 1 ∧ t.rd SB_STATUS.LAST_STATUS = sbOK ∧ t.outbox = s.outbox) ∧
  -- SB_WRITE of a register that the sideband may not write
  (∀ (s : State) (x v : Nat), s.sbUp = true → s.powerState ≠ 1 → x < 2 ^ 32 → s.sbBad x = false →
    sbWritable x = false → ∃ t, exec (.sbWrite x v .right) s = .next t ∧ t.rd SB_STATUS.LAST_STATUS = sbDENIED ∧
    t.rd SB_CNT.ERRORS = satInc 8 (s.rd SB_CNT.ERRORS) ∧ t.halves = s.halves) ∧
  -- SB_STATUS_READ
  (∀ (s : State), s.sbUp = true → s.powerState ≠ 1 → ∃ t, exec (.sbStatusRead) s = .next t ∧
    t.outbox = .sideband [s.rd SB_STATUS.LAST_STATUS, crc8 [2 * s.sbAddress, 3, 2 * s.sbAddress + 1, s.rd SB_STATUS.LAST_STATUS]] :: s.outbox ∧
    t.rd SB_STATUS.LAST_STATUS = s.rd SB_STATUS.LAST_STATUS ∧
    t.rd SB_CNT.MESSAGES = (if s.power.sbBusy = true then s.rd SB_CNT.MESSAGES else (s.rd SB_CNT.MESSAGES + 1) % 2 ^ 16)) ∧
  -- PORT_MIRROR
  (∀ (s : State) (p : PortId), s.sbUp = true → s.powerState ≠ 1 → ∃ t, exec (.portMirror p .right) s = .next t ∧
    (t.outbox.head?.bind (fun o => match o with | .sideband b => some (b.take (2 + 4 + 4 * (s.portx p).mirror.length)) | _ => none)) = some (sbBlock (sbOK :: leNum 4 (s.portx p).mirrorSeq ++ (s.portx p).mirror.flatMap (leNum 4))) ∧
    t.rd SB_STATUS.LAST_STATUS = sbOK ∧ t.ports = s.ports) ∧
  -- IDENTIFY
  (∀ (s : State), s.sbUp = true → s.powerState ≠ 1 → ∃ t, exec (.identify) s = .next t ∧
    t.outbox.length = s.outbox.length + 1 ∧
    (t.outbox.head?.bind (fun o => match o with | .sideband b => some (b.take 14) | _ => none)) = some (13 :: leNum 4 (s.word GLB_REVISION.fields) ++ (leNum 8 Config.serial).reverse ++ [s.sbAddress]) ∧
    t.rd SB_CNT.MESSAGES = (if s.power.sbBusy = true then s.rd SB_CNT.MESSAGES else (s.rd SB_CNT.MESSAGES + 1) % 2 ^ 16)) ∧
  -- ALERT_RESPONSE that the device wins
  (∀ (s : State), s.sbUp = true → s.alertLow = true → ∃ t, exec (.alertResponse true) s = .next t ∧
    t.rd SB_STATUS.ALERT_PENDING = 0 ∧
    t.outbox = .sideband [2 * s.sbAddress, crc8 [0x19, 2 * s.sbAddress]] :: s.outbox) ∧
  -- SB_TIMEOUT: the message in progress is over
  (∀ (s : State), s.sbUp = true → exec (.sbTimeout) s = .next
    ((s.on SB_STATUS.TIMEOUT).upPw (fun x => { x with sbBusy := false }))) ∧
  -- SB_READ: A message in SLEEP before the cores have started: not answered
  (∀ (s : State) (c : Nat), s.powerState = 2 → s.power.wake = none → exec (.sbRead 0 c .right) s = .next (s))
end

