-- ==== Sys2Proof/Laws/Tables.lean ====
section
/-! SUPPORT. The laws of the sparse tables: what a key reads as after a change, and that every change keeps the canonical
form. -/

set_option Elab.async false

namespace Sys2Proof.Machine

variable {α : Type}

theorem lookupKey_dropKey_same (k : Nat) (l : List (Nat × α)) : lookupKey k (dropKey k l) = none := by
  induction l with
  | nil => rfl
  | cons e es ih =>
    by_cases h : e.1 = k
    · simp [dropKey, h, ih]
    · simp [dropKey, h, lookupKey, ih]

theorem lookupKey_dropKey_ne {k j : Nat} (h : j ≠ k) (l : List (Nat × α)) :
    lookupKey j (dropKey k l) = lookupKey j l := by
  induction l with
  | nil => rfl
  | cons e es ih =>
    by_cases h1 : e.1 = k
    · have h2 : ¬ k = j := fun h3 => h h3.symm
      simp [dropKey, h1, lookupKey, ih, h2]
    · simp [dropKey, h1, lookupKey, ih]

theorem lookupKey_insertKey_ne {k j : Nat} (h : j ≠ k) (v : α) (l : List (Nat × α)) :
    lookupKey j (insertKey k v l) = lookupKey j l := by
  have h2 : ¬ k = j := fun h3 => h h3.symm
  induction l with
  | nil => simp [insertKey, lookupKey, h2]
  | cons e es ih =>
    by_cases h1 : k < e.1
    · simp [insertKey, h1, lookupKey, h2]
    · simp [insertKey, h1, lookupKey, ih]

theorem lookupKey_insertKey_same (k : Nat) (v : α) (l : List (Nat × α)) (h : lookupKey k l = none) :
    lookupKey k (insertKey k v l) = some v := by
  induction l with
  | nil => simp [insertKey, lookupKey]
  | cons e es ih =>
    by_cases h0 : e.1 = k
    · simp [lookupKey, h0] at h
    · by_cases h1 : k < e.1
      · simp [insertKey, h1, lookupKey]
      · simp only [lookupKey, h0, if_false] at h
        simp [insertKey, h1, lookupKey, h0, ih h]

/-- A key reads as the value set. -/
@[simp] theorem Tab.get_set_same (t : Tab α) (d v : α) (k : Nat) : (t.set k v).get d k = v := by
  simp [Tab.get, Tab.set, lookupKey_insertKey_same _ _ _ (lookupKey_dropKey_same k t.entries)]

/-- A setting changes no other key. -/
theorem Tab.get_set_ne (t : Tab α) (d v : α) {j k : Nat} (h : j ≠ k) : (t.set k v).get d j = t.get d j := by
  simp [Tab.get, Tab.set, lookupKey_insertKey_ne h, lookupKey_dropKey_ne h]

/-- A removed key reads as the default. -/
@[simp] theorem Tab.get_erase_same (t : Tab α) (d : α) (k : Nat) : (t.erase k).get d k = d := by
  simp [Tab.get, Tab.erase, lookupKey_dropKey_same]

/-- A removal changes no other key. -/
theorem Tab.get_erase_ne (t : Tab α) (d : α) {j k : Nat} (h : j ≠ k) : (t.erase k).get d j = t.get d j := by
  simp [Tab.get, Tab.erase, lookupKey_dropKey_ne h]

/-- An empty table reads as the default everywhere. -/
@[simp] theorem Tab.get_empty (d : α) (k : Nat) : ({} : Tab α).get d k = d := rfl

/-! ## The canonical form -/

theorem dropKey_sublist (k : Nat) (l : List (Nat × α)) : (dropKey k l).Sublist l := by
  induction l with
  | nil => exact List.Sublist.refl _
  | cons e es ih =>
    by_cases h : e.1 = k
    · simpa [dropKey, h] using ih.cons e
    · simpa [dropKey, h] using ih.cons_cons e

theorem not_mem_dropKey (k : Nat) (l : List (Nat × α)) : k ∉ (dropKey k l).map Prod.fst := by
  induction l with
  | nil => simp [dropKey]
  | cons e es ih =>
    by_cases h : e.1 = k
    · simpa [dropKey, h] using ih
    · simp only [dropKey, h, if_false, List.map_cons, List.mem_cons, not_or]
      exact ⟨fun h2 => h h2.symm, ih⟩

theorem mem_insertKey {k j : Nat} {v : α} {l : List (Nat × α)} (h : j ∈ (insertKey k v l).map Prod.fst) :
    j = k ∨ j ∈ l.map Prod.fst := by
  induction l with
  | nil => simpa [insertKey] using h
  | cons e es ih =>
    by_cases h1 : k < e.1
    · simpa [insertKey, h1] using h
    · simp only [insertKey, h1, if_false, List.map_cons, List.mem_cons] at h ⊢
      rcases h with h | h
      · exact Or.inr (Or.inl h)
      · rcases ih h with h | h
        · exact Or.inl h
        · exact Or.inr (Or.inr h)

theorem insertKey_sorted {k : Nat} {v : α} {l : List (Nat × α)} (hk : k ∉ l.map Prod.fst)
    (h : (l.map Prod.fst).Pairwise (· < ·)) : ((insertKey k v l).map Prod.fst).Pairwise (· < ·) := by
  induction l with
  | nil => simp [insertKey]
  | cons e es ih =>
    simp only [List.map_cons, List.pairwise_cons, List.mem_cons, not_or] at h hk
    by_cases h1 : k < e.1
    · simp only [insertKey, h1, if_true, List.map_cons, List.pairwise_cons, List.mem_cons]
      refine ⟨?_, h⟩
      rintro a (rfl | ha)
      · exact h1
      · exact Nat.lt_trans h1 (h.1 a ha)
    · simp only [insertKey, h1, if_false, List.map_cons, List.pairwise_cons]
      refine ⟨?_, ih hk.2 h.2⟩
      intro a ha
      rcases mem_insertKey ha with rfl | ha
      · exact Nat.lt_of_le_of_ne (Nat.le_of_not_lt h1) (fun h3 => hk.1 h3.symm)
      · exact h.1 a ha

theorem Tab.wf_empty : ({} : Tab α).wf := List.Pairwise.nil

theorem Tab.wf_erase {t : Tab α} (h : t.wf) (k : Nat) : (t.erase k).wf :=
  List.Pairwise.sublist ((dropKey_sublist k t.entries).map Prod.fst) h

theorem Tab.wf_set {t : Tab α} (h : t.wf) (k : Nat) (v : α) : (t.set k v).wf :=
  insertKey_sorted (not_mem_dropKey k t.entries) (Tab.wf_erase h k)

theorem Tab.wf_keep {t : Tab α} (h : t.wf) (f : Nat → Bool) : (t.keep f).wf :=
  List.Pairwise.sublist (List.filter_sublist.map Prod.fst) h

/-- A table whose values are changed entry by entry keeps its form. -/
theorem Tab.wf_map {β : Type} {t : Tab α} (h : t.wf) (f : Nat × α → β) :
    Tab.wf (⟨t.entries.map (fun e => (e.1, f e))⟩ : Tab β) := by
  simpa [Tab.wf, List.map_map, Function.comp_def] using h

/-! ## The flash -/

theorem memory_wf_iff (m : Memory) : m.wf = true ↔ (m.map Prod.fst).Pairwise (· < ·) ∧ ∀ c ∈ m, c.2 ≠ 0xFF := by
  induction m with
  | nil => simp [Memory.wf]
  | cons c rest ih =>
    simp only [Memory.wf, Bool.and_eq_true, bne_iff_ne, List.all_eq_true, decide_eq_true_eq, ih, List.map_cons,
      List.pairwise_cons, List.mem_map, List.forall_mem_cons]
    exact ⟨fun h => ⟨⟨by rintro _ ⟨d, hd, rfl⟩; exact h.1.2 d hd, h.2.1⟩, h.1.1, h.2.2⟩,
      fun h => ⟨⟨h.2.1, fun d hd => h.1.1 _ ⟨d, hd, rfl⟩⟩, h.1.2, h.2.2⟩⟩

theorem memory_wf_filter {m : Memory} (h : m.wf = true) (p : Host.Cell → Bool) : Memory.wf (m.filter p) = true := by
  rw [memory_wf_iff] at h ⊢
  exact ⟨List.Pairwise.sublist (List.filter_sublist.map Prod.fst) h.1, fun c hc => h.2 c (List.mem_filter.1 hc).1⟩

/-- Erasing keeps the canonical form. -/
theorem Memory.wf_clear {m : Memory} (h : m.wf = true) (a n : Nat) : (m.clear a n).wf = true := memory_wf_filter h _

theorem mem_cellsOf {c : Host.Cell} {bs : List Byte} : ∀ {a : Nat}, c ∈ cellsOf a bs → a ≤ c.1 ∧ c.1 < a + bs.length ∧ c.2 ≠ 0xFF := by
  induction bs with
  | nil => intro a h; cases h
  | cons b bs ih =>
    intro a h
    rw [cellsOf] at h
    split at h
    · have := ih h
      simp only [List.length_cons]
      exact ⟨by omega, by omega, this.2.2⟩
    · rcases List.mem_cons.1 h with rfl | h
      · exact ⟨Nat.le_refl _, by simp, by assumption⟩
      · have := ih h
        simp only [List.length_cons]
        exact ⟨by omega, by omega, this.2.2⟩

theorem cellsOf_sorted (bs : List Byte) : ∀ a : Nat, ((cellsOf a bs).map Prod.fst).Pairwise (· < ·) := by
  induction bs with
  | nil => intro a; exact List.Pairwise.nil
  | cons b bs ih =>
    intro a
    rw [cellsOf]
    split
    · exact ih (a + 1)
    · rw [List.map_cons, List.pairwise_cons]
      refine ⟨fun k hk => ?_, ih (a + 1)⟩
      obtain ⟨d, hd, rfl⟩ := List.mem_map.1 hk
      have := (mem_cellsOf hd).1
      show a < d.1
      omega

/-- Programming keeps the canonical form. -/
theorem Memory.wf_put {m : Memory} (h : m.wf = true) (a : Nat) (bs : List Byte) : (m.put a bs).wf = true := by
  have h1 := (memory_wf_iff _).1 (memory_wf_filter h (fun c => decide (c.1 < a)))
  have h2 := (memory_wf_iff _).1 (memory_wf_filter h (fun c => decide (a + bs.length ≤ c.1)))
  rw [memory_wf_iff, Memory.put]
  simp only [List.map_append, List.pairwise_append, List.mem_append, List.mem_map]
  refine ⟨⟨⟨h1.1, cellsOf_sorted bs a, ?_⟩, h2.1, ?_⟩, ?_⟩
  · rintro _ ⟨c, hc, rfl⟩ _ ⟨d, hd, rfl⟩
    have h3 := (List.mem_filter.1 hc).2
    have h4 := mem_cellsOf hd
    simp only [decide_eq_true_eq] at h3
    omega
  · rintro _ (⟨c, hc, rfl⟩ | ⟨c, hc, rfl⟩) _ ⟨d, hd, rfl⟩
    · have h3 := (List.mem_filter.1 hc).2
      have h4 := (List.mem_filter.1 hd).2
      simp only [decide_eq_true_eq] at h3 h4
      omega
    · have h3 := mem_cellsOf hc
      have h4 := (List.mem_filter.1 hd).2
      simp only [decide_eq_true_eq] at h4
      omega
  · rintro c ((hc | hc) | hc)
    · exact h1.2 c hc
    · exact (mem_cellsOf hc).2.2
    · exact h2.2 c hc

theorem lookupKey_append (k : Nat) (l r : List (Nat × α)) :
    lookupKey k (l ++ r) = (lookupKey k l).or (lookupKey k r) := by
  induction l with
  | nil => simp [lookupKey]
  | cons e es ih =>
    by_cases h : e.1 = k <;> simp [lookupKey, h, ih]

theorem lookupKey_filter_true {p : Nat × α → Bool} {k : Nat} (hp : ∀ v, p (k, v) = true) (l : List (Nat × α)) :
    lookupKey k (l.filter p) = lookupKey k l := by
  induction l with
  | nil => rfl
  | cons e es ih =>
    obtain ⟨j, v⟩ := e
    by_cases h : j = k
    · subst h
      simp [lookupKey, hp]
    · cases hq : p (j, v) <;> simp [lookupKey, h, hq, ih]

theorem lookupKey_none {k : Nat} {l : List (Nat × α)} (h : ∀ c ∈ l, c.1 ≠ k) : lookupKey k l = none := by
  induction l with
  | nil => rfl
  | cons e es ih =>
    simp [lookupKey, h e List.mem_cons_self, ih (fun c hc => h c (List.mem_cons_of_mem _ hc))]

/-- A byte outside an erased range reads as before, and one inside it as erased. -/
theorem Memory.get_clear_out (m : Memory) {a n k : Nat} (h : k < a ∨ a + n ≤ k) : (m.clear a n).get k = m.get k := by
  unfold Memory.get Memory.clear
  rw [lookupKey_filter_true]
  intro v
  simpa using h

theorem Memory.get_clear_in (m : Memory) {a n k : Nat} (h1 : a ≤ k) (h2 : k < a + n) : (m.clear a n).get k = 0xFF := by
  unfold Memory.get Memory.clear
  rw [lookupKey_none]
  · rfl
  · intro c hc e
    have := (List.mem_filter.1 hc).2
    simp only [Bool.or_eq_true, decide_eq_true_eq] at this
    omega

/-- A byte outside the programmed ones reads as before. -/
theorem Memory.get_put_out (m : Memory) (bs : List Byte) {a k : Nat} (h : k < a ∨ a + bs.length ≤ k) :
    (m.put a bs).get k = m.get k := by
  unfold Memory.get Memory.put
  rw [lookupKey_append, lookupKey_append, lookupKey_none (l := cellsOf a bs) (fun c hc e => by
    have := mem_cellsOf hc
    omega)]
  rcases h with h | h
  · rw [lookupKey_filter_true (fun v => by simpa using h), lookupKey_none (l := m.filter _) (fun c hc e => by
      have := (List.mem_filter.1 hc).2
      simp only [decide_eq_true_eq] at this
      omega)]
    simp
  · rw [lookupKey_none (l := m.filter _) (fun c hc e => by
      have := (List.mem_filter.1 hc).2
      simp only [decide_eq_true_eq] at this
      omega), lookupKey_filter_true (fun v => by simpa using h)]
    simp

theorem lookupKey_cellsOf (bs : List Byte) : ∀ (a i : Nat), i < bs.length →
    (lookupKey (a + i) (cellsOf a bs)).getD 0xFF = bs.getD i 0 := by
  induction bs with
  | nil => intro a i h; simp at h
  | cons b bs ih =>
    intro a i h
    cases i with
    | zero =>
      rw [cellsOf]
      split
      · rw [lookupKey_none (fun c hc e => by
          have := (mem_cellsOf hc).1
          omega)]
        simp_all
      · simp [lookupKey]
    | succ i =>
      have h1 := ih (a + 1) i (by simpa using h)
      have h2 : a + 1 + i = a + (i + 1) := by omega
      rw [h2] at h1
      rw [cellsOf]
      split
      · simpa using h1
      · simpa [lookupKey] using h1

/-- A programmed byte reads as the byte written. -/
theorem Memory.get_put_in (m : Memory) (bs : List Byte) (a : Nat) {i : Nat} (h : i < bs.length) :
    (m.put a bs).get (a + i) = bs.getD i 0 := by
  have h1 := lookupKey_cellsOf bs a i h
  unfold Memory.get Memory.put
  rw [lookupKey_append, lookupKey_append, lookupKey_none (l := m.filter _) (k := a + i) (fun c hc e => by
    have := (List.mem_filter.1 hc).2
    simp only [decide_eq_true_eq] at this
    omega), lookupKey_none (l := m.filter _) (k := a + i) (fun c hc e => by
    have := (List.mem_filter.1 hc).2
    simp only [decide_eq_true_eq] at this
    omega)]
  simpa using h1

/-! ## Cells -/

/-- A field written reads as the value within its width. -/
@[simp] theorem State.rd_wr_same (s : State) (c : Cell) (v : Nat) : (s.wr c v).rd c = v % 2 ^ c.width := by
  unfold State.rd State.wr
  by_cases h : v % 2 ^ c.width = c.cold <;> simp [h]

theorem State.get_wr_ne (s : State) (c : Cell) (v : Nat) {k : Nat} (h : k ≠ c.key) (d : Nat) :
    (s.wr c v).regs.get d k = s.regs.get d k := by
  unfold State.wr
  by_cases h1 : v % 2 ^ c.width = c.cold
  · simp [h1, Tab.get_erase_ne _ _ h]
  · simp [h1, Tab.get_set_ne _ _ _ h]

/-- A write of one field changes no other. -/
theorem State.rd_wr_ne (s : State) (c d : Cell) (v : Nat) (h : d.key ≠ c.key) : (s.wr c v).rd d = s.rd d :=
  s.get_wr_ne c v h d.cold

@[simp] theorem State.rd_cold_same (s : State) (c : Cell) : (s.cold c).rd c = c.cold := by simp [State.rd, State.cold]

theorem State.get_cold_ne (s : State) (c : Cell) {k : Nat} (h : k ≠ c.key) (d : Nat) :
    (s.cold c).regs.get d k = s.regs.get d k := by simp [State.cold, Tab.get_erase_ne _ _ h]

/-- A field returned to its Cold value changes no other. -/
theorem State.rd_cold_ne (s : State) (c d : Cell) (h : d.key ≠ c.key) : (s.cold c).rd d = s.rd d :=
  s.get_cold_ne c h d.cold

end Sys2Proof.Machine
end

