-- ==== Sys2Proof/Laws/Names.lean ====
section
/-! SUPPORT. The name of every field of the register map: its key without its index. Fields of different names have
different keys, whatever their indices. -/

set_option Elab.async false

set_option maxRecDepth 10000

namespace Sys2Proof.Machine

theorem fieldName_of (c : Cell) (o b n : Nat) (ho : nameOf c.off = o) (hb : c.lo = b) (hl : b < 32)
    (hn : 32 * o + (if o = GLB_TILE_STATUS.off then b % 4 else if o = CLK_DCLK_SEL.off ∨ (o = IMG_KEYS.off ∧ b < 8) then b % 2
      else b) = n) : fieldName c.key = n := by
  have h1 : c.key / 32 = c.off := by unfold Cell.key; omega
  have h2 : c.key % 32 = b := by unfold Cell.key; omega
  unfold fieldName
  rw [h1, h2, ho]
  exact hn

/-- Cells whose names differ have different keys. -/
theorem key_ne_of_name {c d : Cell} {m n : Nat} (hc : fieldName c.key = m) (hd : fieldName d.key = n) (h : m ≠ n) :
    c.key ≠ d.key := fun e => h (by rw [← hc, ← hd, e])

theorem strip_skip {lo hi size o : Nat} {rows : List (Nat × Nat × Nat)} (h : ¬(lo ≤ o ∧ o < hi)) :
    strip ((lo, hi, size) :: rows) o = strip rows o := by rw [strip, if_neg h]

theorem strip_take {lo hi size o n : Nat} {rows : List (Nat × Nat × Nat)} (h : lo ≤ o ∧ o < hi)
    (e : lo + (o - lo) % size = n) : strip ((lo, hi, size) :: rows) o = strip rows n := by rw [strip, if_pos h, e]

theorem nameOf_port (p r : Nat) (hr : r < 0x1000) : nameOf (0x100000 + 0x1000 * (p % 64) + r) = nameOf (0x100000 + r) :=
  (strip_take (n := 0x100000 + r) (by omega) (by omega)).trans (strip_take (n := 0x100000 + r) (by omega) (by omega)).symm

theorem nameOf_lane (m d r : Nat) (hr : r < 0x40) : nameOf (0x200000 + 0x100 * (m % 256) + 0x40 * (d % 2) + r) = 0x200000 + r := by
  unfold nameOf arrays
  iterate 9 refine (strip_skip (by omega)).trans ?_
  refine (strip_take (n := 0x200000 + r) (by omega) (by omega)).trans ?_
  iterate 27 refine (strip_skip (by omega)).trans ?_
  rfl

theorem nameOf_lane0 (m : Nat) : nameOf (0x200000 + 0x100 * (m % 256)) = 0x200000 := by
  unfold nameOf arrays
  iterate 9 refine (strip_skip (by omega)).trans ?_
  refine (strip_take (n := 0x200000) (by omega) (by omega)).trans ?_
  iterate 27 refine (strip_skip (by omega)).trans ?_
  rfl

theorem nameOf_slice (m r : Nat) (hr : r < 0x14) : nameOf (0x30000 + 0x80 * (m % 256) + r) = 0x30000 + r := by
  unfold nameOf arrays
  iterate 11 refine (strip_skip (by omega)).trans ?_
  refine (strip_take (n := 0x30000 + r) (by omega) (by omega)).trans ?_
  iterate 25 refine (strip_skip (by omega)).trans ?_
  rfl

theorem nameOf_slicePorts (m k : Nat) : nameOf (0x30000 + 0x80 * (m % 256) + 0x14 + 4 * (k % 2)) = 0x30014 := by
  unfold nameOf arrays
  iterate 11 refine (strip_skip (by omega)).trans ?_
  refine (strip_take (n := 0x30014 + 4 * (k % 2)) (by omega) (by omega)).trans ?_
  refine (strip_take (n := 0x30014) (by omega) (by omega)).trans ?_
  iterate 24 refine (strip_skip (by omega)).trans ?_
  rfl

theorem nameOf_self (m r : Nat) (hr : r < 0x1000) : nameOf (0x1000000 + 0x10000 * (m % 256) + r) = 0x1000000 + r := by
  unfold nameOf arrays
  iterate 13 refine (strip_skip (by omega)).trans ?_
  refine (strip_take (n := 0x1000000 + r) (by omega) (by omega)).trans ?_
  iterate 23 refine (strip_skip (by omega)).trans ?_
  rfl

theorem nameOf_ring (m i r : Nat) (h8 : 8 ≤ r) (hr : r < 0x20) :
    nameOf (0x1000000 + 0x10000 * (m % 256) + 0x1000 + 0x20 * (i % 1024) + r) = 0x1001000 + r := by
  unfold nameOf arrays
  iterate 13 refine (strip_skip (by omega)).trans ?_
  refine (strip_take (n := 0x1001000 + 0x20 * (i % 1024) + r) (by omega) (by omega)).trans ?_
  refine (strip_take (n := 0x1001000 + r) (by omega) (by omega)).trans ?_
  iterate 22 refine (strip_skip (by omega)).trans ?_
  rfl

theorem nameOf_ringBase (m i k : Nat) :
    nameOf (0x1000000 + 0x10000 * (m % 256) + 0x1000 + 0x20 * (i % 1024) + 4 * (k % 2)) = 0x1001000 := by
  unfold nameOf arrays
  iterate 13 refine (strip_skip (by omega)).trans ?_
  refine (strip_take (n := 0x1001000 + 0x20 * (i % 1024) + 4 * (k % 2)) (by omega) (by omega)).trans ?_
  refine (strip_take (n := 0x1001000 + 4 * (k % 2)) (by omega) (by omega)).trans ?_
  refine (strip_take (n := 0x1001000) (by omega) (by omega)).trans ?_
  iterate 21 refine (strip_skip (by omega)).trans ?_
  rfl

theorem nameOf_window (m w r : Nat) (hr : r < 0x10) :
    nameOf (0x1000000 + 0x10000 * (m % 256) + 0x9000 + 0x10 * (w % 16) + r) = 0x1009000 + r := by
  unfold nameOf arrays
  iterate 13 refine (strip_skip (by omega)).trans ?_
  refine (strip_take (n := 0x1009000 + 0x10 * (w % 16) + r) (by omega) (by omega)).trans ?_
  iterate 2 refine (strip_skip (by omega)).trans ?_
  refine (strip_take (n := 0x1009000 + r) (by omega) (by omega)).trans ?_
  iterate 20 refine (strip_skip (by omega)).trans ?_
  rfl

@[simp] theorem nameOf_PRT_MODE (p : Nat) : nameOf (PRT_MODE.off p) = 0x100000 := by
  unfold PRT_MODE.off
  exact (nameOf_port p 0x0 (by decide)).trans (by decide)

@[simp] theorem nameOf_LCH_ASSIGN (n : Nat) : nameOf (LCH_ASSIGN.off n) = 0x200000 := by
  unfold LCH_ASSIGN.off
  exact nameOf_lane0 n

@[simp] theorem nameOf_LCH_EQ_CTRL (h : Nat) : nameOf (LCH_EQ_CTRL.off h) = 0x200010 := by
  unfold LCH_EQ_CTRL.off
  exact nameOf_lane (h / 2) h 0x10 (by decide)

@[simp] theorem nameOf_LCH_FOM (h : Nat) : nameOf (LCH_FOM.off h) = 0x200014 := by
  unfold LCH_FOM.off
  exact nameOf_lane (h / 2) h 0x14 (by decide)

@[simp] theorem nameOf_LCH_RX_EQ (h : Nat) : nameOf (LCH_RX_EQ.off h) = 0x200018 := by
  unfold LCH_RX_EQ.off
  exact nameOf_lane (h / 2) h 0x18 (by decide)

@[simp] theorem nameOf_LCH_TX_COEF (h : Nat) : nameOf (LCH_TX_COEF.off h) = 0x20001C := by
  unfold LCH_TX_COEF.off
  exact nameOf_lane (h / 2) h 0x1C (by decide)

@[simp] theorem nameOf_LCH_FOM_LIMITS (r : Nat) : nameOf (LCH_FOM_LIMITS.off r) = 0x210000 := by
  unfold LCH_FOM_LIMITS.off
  unfold nameOf arrays
  iterate 10 refine (strip_skip (by omega)).trans ?_
  refine (strip_take (n := 0x210000) (by omega) (by omega)).trans ?_
  iterate 26 refine (strip_skip (by omega)).trans ?_
  rfl

@[simp] theorem nameOf_PRT_DP_CTRL (p : Nat) : nameOf (PRT_DP_CTRL.off p) = 0x100004 := by
  unfold PRT_DP_CTRL.off
  exact (nameOf_port p 0x4 (by decide)).trans (by decide)

@[simp] theorem nameOf_PRT_DP_STATUS (p : Nat) : nameOf (PRT_DP_STATUS.off p) = 0x100008 := by
  unfold PRT_DP_STATUS.off
  exact (nameOf_port p 0x8 (by decide)).trans (by decide)

@[simp] theorem nameOf_LCH_DP_STATUS (h : Nat) : nameOf (LCH_DP_STATUS.off h) = 0x200020 := by
  unfold LCH_DP_STATUS.off
  exact nameOf_lane (h / 2) h 0x20 (by decide)

@[simp] theorem nameOf_PRT_SKP_ADJ (q : Nat) : nameOf (PRT_SKP_ADJ.off q) = 0x10000C := by
  unfold PRT_SKP_ADJ.off
  rcases Nat.mod_two_eq_zero_or_one q with h | h <;> rw [h]
  · exact (nameOf_port (q / 2) 0xC (by decide)).trans (by decide)
  · exact (nameOf_port (q / 2) (0xC + 4) (by decide)).trans (by decide)

@[simp] theorem nameOf_PRT_TRN_CTRL (p : Nat) : nameOf (PRT_TRN_CTRL.off p) = 0x100020 := by
  unfold PRT_TRN_CTRL.off
  exact (nameOf_port p 0x20 (by decide)).trans (by decide)

@[simp] theorem nameOf_PRT_TRN_STATUS (p : Nat) : nameOf (PRT_TRN_STATUS.off p) = 0x100024 := by
  unfold PRT_TRN_STATUS.off
  exact (nameOf_port p 0x24 (by decide)).trans (by decide)

@[simp] theorem nameOf_PRT_TRN_EVENTS (p : Nat) : nameOf (PRT_TRN_EVENTS.off p) = 0x100028 := by
  unfold PRT_TRN_EVENTS.off
  exact (nameOf_port p 0x28 (by decide)).trans (by decide)

@[simp] theorem nameOf_PRT_SEG_CTRL (q : Nat) : nameOf (PRT_SEG_CTRL.off q) = 0x100040 := by
  unfold PRT_SEG_CTRL.off
  rcases Nat.mod_two_eq_zero_or_one q with h | h <;> rw [h]
  · exact (nameOf_port (q / 2) 0x40 (by decide)).trans (by decide)
  · exact (nameOf_port (q / 2) (0x40 + 4) (by decide)).trans (by decide)

@[simp] theorem nameOf_PRT_SEG_STATUS (q : Nat) : nameOf (PRT_SEG_STATUS.off q) = 0x100048 := by
  unfold PRT_SEG_STATUS.off
  rcases Nat.mod_two_eq_zero_or_one q with h | h <;> rw [h]
  · exact (nameOf_port (q / 2) 0x48 (by decide)).trans (by decide)
  · exact (nameOf_port (q / 2) (0x48 + 4) (by decide)).trans (by decide)

@[simp] theorem nameOf_PRT_SEG_CNT (q : Nat) : nameOf (PRT_SEG_CNT.off q) = 0x100050 := by
  unfold PRT_SEG_CNT.off
  rcases Nat.mod_two_eq_zero_or_one q with h | h <;> rw [h]
  · exact (nameOf_port (q / 2) 0x50 (by decide)).trans (by decide)
  · exact (nameOf_port (q / 2) (0x50 + 4) (by decide)).trans (by decide)

@[simp] theorem nameOf_LCH_SEG_FEC (h : Nat) : nameOf (LCH_SEG_FEC.off h) = 0x200024 := by
  unfold LCH_SEG_FEC.off
  exact nameOf_lane (h / 2) h 0x24 (by decide)

@[simp] theorem nameOf_PRT_TRL_CTRL (q : Nat) : nameOf (PRT_TRL_CTRL.off q) = 0x100060 := by
  unfold PRT_TRL_CTRL.off
  rcases Nat.mod_two_eq_zero_or_one q with h | h <;> rw [h]
  · exact (nameOf_port (q / 2) 0x60 (by decide)).trans (by decide)
  · exact (nameOf_port (q / 2) (0x60 + 4) (by decide)).trans (by decide)

@[simp] theorem nameOf_PRT_TRL_STATUS (q : Nat) : nameOf (PRT_TRL_STATUS.off q) = 0x100068 := by
  unfold PRT_TRL_STATUS.off
  rcases Nat.mod_two_eq_zero_or_one q with h | h <;> rw [h]
  · exact (nameOf_port (q / 2) 0x68 (by decide)).trans (by decide)
  · exact (nameOf_port (q / 2) (0x68 + 4) (by decide)).trans (by decide)

@[simp] theorem nameOf_PRT_TRL_CNT (q : Nat) : nameOf (PRT_TRL_CNT.off q) = 0x100070 := by
  unfold PRT_TRL_CNT.off
  rcases Nat.mod_two_eq_zero_or_one q with h | h <;> rw [h]
  · exact (nameOf_port (q / 2) 0x70 (by decide)).trans (by decide)
  · exact (nameOf_port (q / 2) (0x70 + 4) (by decide)).trans (by decide)

@[simp] theorem nameOf_PRT_TRL_CMD (q : Nat) : nameOf (PRT_TRL_CMD.off q) = 0x100078 := by
  unfold PRT_TRL_CMD.off
  rcases Nat.mod_two_eq_zero_or_one q with h | h <;> rw [h]
  · exact (nameOf_port (q / 2) 0x78 (by decide)).trans (by decide)
  · exact (nameOf_port (q / 2) (0x78 + 4) (by decide)).trans (by decide)

@[simp] theorem nameOf_LCH_LANE_FAULT (h : Nat) : nameOf (LCH_LANE_FAULT.off h) = 0x200028 := by
  unfold LCH_LANE_FAULT.off
  exact nameOf_lane (h / 2) h 0x28 (by decide)

@[simp] theorem nameOf_CAL_TEMP (t : Nat) : nameOf (CAL_TEMP.off t) = 0x10040 := by
  unfold CAL_TEMP.off
  unfold nameOf arrays
  iterate 28 refine (strip_skip (by omega)).trans ?_
  refine (strip_take (n := 0x10040) (by omega) (by omega)).trans ?_
  iterate 8 refine (strip_skip (by omega)).trans ?_
  rfl

@[simp] theorem nameOf_CAL_RX (h : Nat) : nameOf (CAL_RX.off h) = 0x11000 := by
  unfold CAL_RX.off
  unfold nameOf arrays
  iterate 29 refine (strip_skip (by omega)).trans ?_
  refine (strip_take (n := 0x11000) (by omega) (by omega)).trans ?_
  iterate 7 refine (strip_skip (by omega)).trans ?_
  rfl

@[simp] theorem nameOf_ENG_STATUS (k : Nat) : nameOf (ENG_STATUS.off k) = 0x20400 := by
  unfold ENG_STATUS.off
  unfold nameOf arrays
  iterate 30 refine (strip_skip (by omega)).trans ?_
  refine (strip_take (n := 0x20400) (by omega) (by omega)).trans ?_
  iterate 6 refine (strip_skip (by omega)).trans ?_
  rfl

@[simp] theorem nameOf_ENG_PERMIT (s : Nat) : nameOf (ENG_PERMIT.off s) = 0x20800 := by
  unfold ENG_PERMIT.off
  unfold nameOf arrays
  iterate 32 refine (strip_skip (by omega)).trans ?_
  refine (strip_take (n := 0x20800) (by omega) (by omega)).trans ?_
  iterate 4 refine (strip_skip (by omega)).trans ?_
  rfl

@[simp] theorem nameOf_ENG_CNT (k : Nat) : nameOf (ENG_CNT.off k) = 0x20600 := by
  unfold ENG_CNT.off
  unfold nameOf arrays
  iterate 31 refine (strip_skip (by omega)).trans ?_
  refine (strip_take (n := 0x20600) (by omega) (by omega)).trans ?_
  iterate 5 refine (strip_skip (by omega)).trans ?_
  rfl

@[simp] theorem nameOf_TXN_SCOPE_P (k : Nat) : nameOf (TXN_SCOPE_P.off k) = 0x200C := by
  unfold TXN_SCOPE_P.off
  unfold nameOf arrays
  iterate 20 refine (strip_skip (by omega)).trans ?_
  refine (strip_take (n := 0x200C) (by omega) (by omega)).trans ?_
  iterate 16 refine (strip_skip (by omega)).trans ?_
  rfl

@[simp] theorem nameOf_TXN_TIME (k : Nat) : nameOf (TXN_TIME.off k) = 0x2014 := by
  unfold TXN_TIME.off
  unfold nameOf arrays
  iterate 21 refine (strip_skip (by omega)).trans ?_
  refine (strip_take (n := 0x2014) (by omega) (by omega)).trans ?_
  iterate 15 refine (strip_skip (by omega)).trans ?_
  rfl

@[simp] theorem nameOf_IMG_SRC (k : Nat) : nameOf (IMG_SRC.off k) = 0x1008 := by
  unfold IMG_SRC.off
  unfold nameOf arrays
  iterate 18 refine (strip_skip (by omega)).trans ?_
  refine (strip_take (n := 0x1008) (by omega) (by omega)).trans ?_
  iterate 18 refine (strip_skip (by omega)).trans ?_
  rfl

@[simp] theorem nameOf_IMG_BCT (k : Nat) : nameOf (IMG_BCT.off k) = 0x1018 := by
  unfold IMG_BCT.off
  unfold nameOf arrays
  iterate 19 refine (strip_skip (by omega)).trans ?_
  refine (strip_take (n := 0x1018) (by omega) (by omega)).trans ?_
  iterate 17 refine (strip_skip (by omega)).trans ?_
  rfl

@[simp] theorem nameOf_SLC_CTRL (s : Nat) : nameOf (SLC_CTRL.off s) = 0x30000 := by
  unfold SLC_CTRL.off
  exact nameOf_slice s 0x0 (by decide)

@[simp] theorem nameOf_SLC_STATUS (s : Nat) : nameOf (SLC_STATUS.off s) = 0x30004 := by
  unfold SLC_STATUS.off
  exact nameOf_slice s 0x4 (by decide)

@[simp] theorem nameOf_SLC_RINGS (s : Nat) : nameOf (SLC_RINGS.off s) = 0x30008 := by
  unfold SLC_RINGS.off
  exact nameOf_slice s 0x8 (by decide)

@[simp] theorem nameOf_SLC_VECTORS (s : Nat) : nameOf (SLC_VECTORS.off s) = 0x3000C := by
  unfold SLC_VECTORS.off
  exact nameOf_slice s 0xC (by decide)

@[simp] theorem nameOf_SLC_SHARE (s : Nat) : nameOf (SLC_SHARE.off s) = 0x30010 := by
  unfold SLC_SHARE.off
  exact nameOf_slice s 0x10 (by decide)

@[simp] theorem nameOf_SLC_PORTS (s k : Nat) : nameOf (SLC_PORTS.off s k) = 0x30014 := by
  unfold SLC_PORTS.off
  exact nameOf_slicePorts s k

@[simp] theorem nameOf_RNG_INFO (i : Nat) : nameOf (RNG_INFO.off i) = 0x40000 := by
  unfold RNG_INFO.off
  unfold nameOf arrays
  iterate 17 refine (strip_skip (by omega)).trans ?_
  refine (strip_take (n := 0x40000) (by omega) (by omega)).trans ?_
  iterate 19 refine (strip_skip (by omega)).trans ?_
  rfl

@[simp] theorem nameOf_SLC_SELF_INFO (s : Nat) : nameOf (SLC_SELF_INFO.off s) = 0x1000000 := by
  unfold SLC_SELF_INFO.off
  exact nameOf_self s 0x0 (by decide)

@[simp] theorem nameOf_SLC_SELF_CTRL (s : Nat) : nameOf (SLC_SELF_CTRL.off s) = 0x1000004 := by
  unfold SLC_SELF_CTRL.off
  exact nameOf_self s 0x4 (by decide)

@[simp] theorem nameOf_SLC_SELF_STATUS (s : Nat) : nameOf (SLC_SELF_STATUS.off s) = 0x1000008 := by
  unfold SLC_SELF_STATUS.off
  exact nameOf_self s 0x8 (by decide)

@[simp] theorem nameOf_RNG_BASE (s i k : Nat) : nameOf (RNG_BASE.off s i k) = 0x1001000 := by
  unfold RNG_BASE.off
  exact nameOf_ringBase s i k

@[simp] theorem nameOf_RNG_CTRL (s i : Nat) : nameOf (RNG_CTRL.off s i) = 0x1001008 := by
  unfold RNG_CTRL.off
  exact nameOf_ring s i 0x8 (by decide) (by decide)

@[simp] theorem nameOf_RNG_DOORBELL (s i : Nat) : nameOf (RNG_DOORBELL.off s i) = 0x100100C := by
  unfold RNG_DOORBELL.off
  exact nameOf_ring s i 0xC (by decide) (by decide)

@[simp] theorem nameOf_RNG_POS (s i : Nat) : nameOf (RNG_POS.off s i) = 0x1001010 := by
  unfold RNG_POS.off
  exact nameOf_ring s i 0x10 (by decide) (by decide)

@[simp] theorem nameOf_RNG_STATUS (s i : Nat) : nameOf (RNG_STATUS.off s i) = 0x1001014 := by
  unfold RNG_STATUS.off
  exact nameOf_ring s i 0x14 (by decide) (by decide)

@[simp] theorem nameOf_TIM_ASYM (p : Nat) : nameOf (TIM_ASYM.off p) = 0x6100 := by
  unfold TIM_ASYM.off
  unfold nameOf arrays
  iterate 25 refine (strip_skip (by omega)).trans ?_
  refine (strip_take (n := 0x6100) (by omega) (by omega)).trans ?_
  iterate 11 refine (strip_skip (by omega)).trans ?_
  rfl

@[simp] theorem nameOf_TRC_SCHED (k : Nat) : nameOf (TRC_SCHED.off k) = 0x80004 := by
  unfold TRC_SCHED.off
  unfold nameOf arrays
  iterate 33 refine (strip_skip (by omega)).trans ?_
  refine (strip_take (n := 0x80004) (by omega) (by omega)).trans ?_
  iterate 3 refine (strip_skip (by omega)).trans ?_
  rfl

@[simp] theorem nameOf_TRC_DROPS (t : Nat) : nameOf (TRC_DROPS.off t) = 0x80040 := by
  unfold TRC_DROPS.off
  unfold nameOf arrays
  iterate 34 refine (strip_skip (by omega)).trans ?_
  refine (strip_take (n := 0x80040) (by omega) (by omega)).trans ?_
  iterate 2 refine (strip_skip (by omega)).trans ?_
  rfl

@[simp] theorem nameOf_TRC_WN_STATUS (p : Nat) : nameOf (TRC_WN_STATUS.off p) = 0x81000 := by
  unfold TRC_WN_STATUS.off
  unfold nameOf arrays
  iterate 35 refine (strip_skip (by omega)).trans ?_
  refine (strip_take (n := 0x81000) (by omega) (by omega)).trans ?_
  iterate 1 refine (strip_skip (by omega)).trans ?_
  rfl

@[simp] theorem nameOf_SNP_TIME (k : Nat) : nameOf (SNP_TIME.off k) = 0xFF008 := by
  unfold SNP_TIME.off
  unfold nameOf arrays
  iterate 36 refine (strip_skip (by omega)).trans ?_
  refine (strip_take (n := 0xFF008) (by omega) (by omega)).trans ?_
  rfl

@[simp] theorem nameOf_TRC_WIN_STATUS (s w : Nat) : nameOf (TRC_WIN_STATUS.off s w) = 0x1009000 := by
  unfold TRC_WIN_STATUS.off
  exact nameOf_window s w 0x0 (by decide)

@[simp] theorem nameOf_TRC_WIN_POS (s w : Nat) : nameOf (TRC_WIN_POS.off s w) = 0x1009004 := by
  unfold TRC_WIN_POS.off
  exact nameOf_window s w 0x4 (by decide)

@[simp] theorem nameOf_TRC_WIN_READ (s w : Nat) : nameOf (TRC_WIN_READ.off s w) = 0x1009008 := by
  unfold TRC_WIN_READ.off
  exact nameOf_window s w 0x8 (by decide)

@[simp] theorem nameOf_TRC_WIN_DROPS (s w : Nat) : nameOf (TRC_WIN_DROPS.off s w) = 0x100900C := by
  unfold TRC_WIN_DROPS.off
  exact nameOf_window s w 0xC (by decide)

@[simp] theorem nameOf_PWR_PORT_ARM (k : Nat) : nameOf (PWR_PORT_ARM.off k) = 0x300C := by
  unfold PWR_PORT_ARM.off
  unfold nameOf arrays
  iterate 22 refine (strip_skip (by omega)).trans ?_
  refine (strip_take (n := 0x300C) (by omega) (by omega)).trans ?_
  iterate 14 refine (strip_skip (by omega)).trans ?_
  rfl

@[simp] theorem nameOf_PWR_AON_REC (i : Nat) : nameOf (PWR_AON_REC.off i) = 0x3040 := by
  unfold PWR_AON_REC.off
  unfold nameOf arrays
  iterate 23 refine (strip_skip (by omega)).trans ?_
  refine (strip_take (n := 0x3040) (by omega) (by omega)).trans ?_
  iterate 13 refine (strip_skip (by omega)).trans ?_
  rfl

@[simp] theorem nameOf_ERR_DP_PORTS (k : Nat) : nameOf (ERR_DP_PORTS.off k) = 0x7008 := by
  unfold ERR_DP_PORTS.off
  unfold nameOf arrays
  iterate 26 refine (strip_skip (by omega)).trans ?_
  refine (strip_take (n := 0x7008) (by omega) (by omega)).trans ?_
  iterate 10 refine (strip_skip (by omega)).trans ?_
  rfl

@[simp] theorem nameOf_ERR_DP_LOG_TIME (k : Nat) : nameOf (ERR_DP_LOG_TIME.off k) = 0x7014 := by
  unfold ERR_DP_LOG_TIME.off
  unfold nameOf arrays
  iterate 27 refine (strip_skip (by omega)).trans ?_
  refine (strip_take (n := 0x7014) (by omega) (by omega)).trans ?_
  iterate 9 refine (strip_skip (by omega)).trans ?_
  rfl

@[simp] theorem nameOf_TIM_SET (k : Nat) : nameOf (TIM_SET.off k) = 0x6020 := by
  unfold TIM_SET.off
  unfold nameOf arrays
  iterate 24 refine (strip_skip (by omega)).trans ?_
  refine (strip_take (n := 0x6020) (by omega) (by omega)).trans ?_
  iterate 12 refine (strip_skip (by omega)).trans ?_
  rfl

@[simp] theorem fieldName_GLB_REVISION_DEVICE : fieldName (GLB_REVISION.DEVICE).key = 0x10 :=
  fieldName_of _ 0x0 16 _ (by decide) rfl (by decide) (by decide)
@[simp] theorem fieldName_GLB_REVISION_STEP_MAJOR : fieldName (GLB_REVISION.STEP_MAJOR).key = 0xC :=
  fieldName_of _ 0x0 12 _ (by decide) rfl (by decide) (by decide)
@[simp] theorem fieldName_GLB_REVISION_STEP_MINOR : fieldName (GLB_REVISION.STEP_MINOR).key = 0x8 :=
  fieldName_of _ 0x0 8 _ (by decide) rfl (by decide) (by decide)
@[simp] theorem fieldName_GLB_REVISION_FAMILY : fieldName (GLB_REVISION.FAMILY).key = 0x4 :=
  fieldName_of _ 0x0 4 _ (by decide) rfl (by decide) (by decide)
@[simp] theorem fieldName_PRT_MODE_ENABLE (p : Nat) : fieldName (PRT_MODE.ENABLE p).key = 0x200001F :=
  fieldName_of _ 0x100000 31 _ (nameOf_PRT_MODE p) rfl (by decide) (by decide)
@[simp] theorem fieldName_PRT_MODE_MODE (p : Nat) : fieldName (PRT_MODE.MODE p).key = 0x200001C :=
  fieldName_of _ 0x100000 28 _ (nameOf_PRT_MODE p) rfl (by decide) (by decide)
@[simp] theorem fieldName_PRT_MODE_TILE (p : Nat) : fieldName (PRT_MODE.TILE p).key = 0x2000018 :=
  fieldName_of _ 0x100000 24 _ (nameOf_PRT_MODE p) rfl (by decide) (by decide)
@[simp] theorem fieldName_PRT_MODE_A_SEGMENT (p : Nat) : fieldName (PRT_MODE.A_SEGMENT p).key = 0x2000011 :=
  fieldName_of _ 0x100000 17 _ (nameOf_PRT_MODE p) rfl (by decide) (by decide)
@[simp] theorem fieldName_PRT_MODE_B_SEGMENT (p : Nat) : fieldName (PRT_MODE.B_SEGMENT p).key = 0x2000010 :=
  fieldName_of _ 0x100000 16 _ (nameOf_PRT_MODE p) rfl (by decide) (by decide)
@[simp] theorem fieldName_PRT_MODE_A_SPARES (p : Nat) : fieldName (PRT_MODE.A_SPARES p).key = 0x200000E :=
  fieldName_of _ 0x100000 14 _ (nameOf_PRT_MODE p) rfl (by decide) (by decide)
@[simp] theorem fieldName_PRT_MODE_A_WIDTH (p : Nat) : fieldName (PRT_MODE.A_WIDTH p).key = 0x2000009 :=
  fieldName_of _ 0x100000 9 _ (nameOf_PRT_MODE p) rfl (by decide) (by decide)
@[simp] theorem fieldName_PRT_MODE_B_SPARES (p : Nat) : fieldName (PRT_MODE.B_SPARES p).key = 0x2000007 :=
  fieldName_of _ 0x100000 7 _ (nameOf_PRT_MODE p) rfl (by decide) (by decide)
@[simp] theorem fieldName_PRT_MODE_B_WIDTH (p : Nat) : fieldName (PRT_MODE.B_WIDTH p).key = 0x2000002 :=
  fieldName_of _ 0x100000 2 _ (nameOf_PRT_MODE p) rfl (by decide) (by decide)
@[simp] theorem fieldName_LCH_ASSIGN_A_VALID (n : Nat) : fieldName (LCH_ASSIGN.A_VALID n).key = 0x400001F :=
  fieldName_of _ 0x200000 31 _ (nameOf_LCH_ASSIGN n) rfl (by decide) (by decide)
@[simp] theorem fieldName_LCH_ASSIGN_A_PORT (n : Nat) : fieldName (LCH_ASSIGN.A_PORT n).key = 0x4000018 :=
  fieldName_of _ 0x200000 24 _ (nameOf_LCH_ASSIGN n) rfl (by decide) (by decide)
@[simp] theorem fieldName_LCH_ASSIGN_A_LOGICAL (n : Nat) : fieldName (LCH_ASSIGN.A_LOGICAL n).key = 0x4000010 :=
  fieldName_of _ 0x200000 16 _ (nameOf_LCH_ASSIGN n) rfl (by decide) (by decide)
@[simp] theorem fieldName_LCH_ASSIGN_B_VALID (n : Nat) : fieldName (LCH_ASSIGN.B_VALID n).key = 0x400000F :=
  fieldName_of _ 0x200000 15 _ (nameOf_LCH_ASSIGN n) rfl (by decide) (by decide)
@[simp] theorem fieldName_LCH_ASSIGN_B_PORT (n : Nat) : fieldName (LCH_ASSIGN.B_PORT n).key = 0x4000008 :=
  fieldName_of _ 0x200000 8 _ (nameOf_LCH_ASSIGN n) rfl (by decide) (by decide)
@[simp] theorem fieldName_LCH_ASSIGN_B_LOGICAL (n : Nat) : fieldName (LCH_ASSIGN.B_LOGICAL n).key = 0x4000000 :=
  fieldName_of _ 0x200000 0 _ (nameOf_LCH_ASSIGN n) rfl (by decide) (by decide)
@[simp] theorem fieldName_GLB_TILE_STATUS_LT (t : Nat) : fieldName (GLB_TILE_STATUS.LT t).key = 0x100 :=
  fieldName_of _ 0x8 (4 * (t % 8)) _ (show nameOf GLB_TILE_STATUS.off = _ by decide) rfl (by omega) (by
    rw [if_pos (by decide)]; omega)
@[simp] theorem fieldName_LCH_EQ_CTRL_FOM_MIN_CLR (h : Nat) : fieldName (LCH_EQ_CTRL.FOM_MIN_CLR h).key = 0x4000203 :=
  fieldName_of _ 0x200010 3 _ (nameOf_LCH_EQ_CTRL h) rfl (by decide) (by decide)
@[simp] theorem fieldName_LCH_EQ_CTRL_CTLE_TRIM_OFF (h : Nat) : fieldName (LCH_EQ_CTRL.CTLE_TRIM_OFF h).key = 0x4000202 :=
  fieldName_of _ 0x200010 2 _ (nameOf_LCH_EQ_CTRL h) rfl (by decide) (by decide)
@[simp] theorem fieldName_LCH_EQ_CTRL_FREEZE (h : Nat) : fieldName (LCH_EQ_CTRL.FREEZE h).key = 0x4000201 :=
  fieldName_of _ 0x200010 1 _ (nameOf_LCH_EQ_CTRL h) rfl (by decide) (by decide)
@[simp] theorem fieldName_LCH_FOM_SIGDET (h : Nat) : fieldName (LCH_FOM.SIGDET h).key = 0x400029F :=
  fieldName_of _ 0x200014 31 _ (nameOf_LCH_FOM h) rfl (by decide) (by decide)
@[simp] theorem fieldName_LCH_FOM_LOCK (h : Nat) : fieldName (LCH_FOM.LOCK h).key = 0x400029E :=
  fieldName_of _ 0x200014 30 _ (nameOf_LCH_FOM h) rfl (by decide) (by decide)
@[simp] theorem fieldName_LCH_FOM_FOM_VALID (h : Nat) : fieldName (LCH_FOM.FOM_VALID h).key = 0x400029D :=
  fieldName_of _ 0x200014 29 _ (nameOf_LCH_FOM h) rfl (by decide) (by decide)
@[simp] theorem fieldName_LCH_FOM_BELOW_TARGET (h : Nat) : fieldName (LCH_FOM.BELOW_TARGET h).key = 0x400029C :=
  fieldName_of _ 0x200014 28 _ (nameOf_LCH_FOM h) rfl (by decide) (by decide)
@[simp] theorem fieldName_LCH_FOM_WARN (h : Nat) : fieldName (LCH_FOM.WARN h).key = 0x400029B :=
  fieldName_of _ 0x200014 27 _ (nameOf_LCH_FOM h) rfl (by decide) (by decide)
@[simp] theorem fieldName_LCH_FOM_FAULT_SEEN (h : Nat) : fieldName (LCH_FOM.FAULT_SEEN h).key = 0x400029A :=
  fieldName_of _ 0x200014 26 _ (nameOf_LCH_FOM h) rfl (by decide) (by decide)
@[simp] theorem fieldName_LCH_FOM_ADAPT_STATE (h : Nat) : fieldName (LCH_FOM.ADAPT_STATE h).key = 0x4000294 :=
  fieldName_of _ 0x200014 20 _ (nameOf_LCH_FOM h) rfl (by decide) (by decide)
@[simp] theorem fieldName_LCH_FOM_RATE_SLOT (h : Nat) : fieldName (LCH_FOM.RATE_SLOT h).key = 0x4000290 :=
  fieldName_of _ 0x200014 16 _ (nameOf_LCH_FOM h) rfl (by decide) (by decide)
@[simp] theorem fieldName_LCH_FOM_FOM_MIN (h : Nat) : fieldName (LCH_FOM.FOM_MIN h).key = 0x4000288 :=
  fieldName_of _ 0x200014 8 _ (nameOf_LCH_FOM h) rfl (by decide) (by decide)
@[simp] theorem fieldName_LCH_FOM_FOM (h : Nat) : fieldName (LCH_FOM.FOM h).key = 0x4000280 :=
  fieldName_of _ 0x200014 0 _ (nameOf_LCH_FOM h) rfl (by decide) (by decide)
@[simp] theorem fieldName_LCH_RX_EQ_TABLE_DEFAULT (h : Nat) : fieldName (LCH_RX_EQ.TABLE_DEFAULT h).key = 0x400031F :=
  fieldName_of _ 0x200018 31 _ (nameOf_LCH_RX_EQ h) rfl (by decide) (by decide)
@[simp] theorem fieldName_LCH_RX_EQ_WARM (h : Nat) : fieldName (LCH_RX_EQ.WARM h).key = 0x400031E :=
  fieldName_of _ 0x200018 30 _ (nameOf_LCH_RX_EQ h) rfl (by decide) (by decide)
@[simp] theorem fieldName_LCH_RX_EQ_CTLE (h : Nat) : fieldName (LCH_RX_EQ.CTLE h).key = 0x4000319 :=
  fieldName_of _ 0x200018 25 _ (nameOf_LCH_RX_EQ h) rfl (by decide) (by decide)
@[simp] theorem fieldName_LCH_RX_EQ_VGA (h : Nat) : fieldName (LCH_RX_EQ.VGA h).key = 0x4000313 :=
  fieldName_of _ 0x200018 19 _ (nameOf_LCH_RX_EQ h) rfl (by decide) (by decide)
@[simp] theorem fieldName_LCH_RX_EQ_DFE_H1 (h : Nat) : fieldName (LCH_RX_EQ.DFE_H1 h).key = 0x400030C :=
  fieldName_of _ 0x200018 12 _ (nameOf_LCH_RX_EQ h) rfl (by decide) (by decide)
@[simp] theorem fieldName_LCH_RX_EQ_FFE_MAIN (h : Nat) : fieldName (LCH_RX_EQ.FFE_MAIN h).key = 0x4000304 :=
  fieldName_of _ 0x200018 4 _ (nameOf_LCH_RX_EQ h) rfl (by decide) (by decide)
@[simp] theorem fieldName_LCH_TX_COEF_SRC (h : Nat) : fieldName (LCH_TX_COEF.SRC h).key = 0x400039E :=
  fieldName_of _ 0x20001C 30 _ (nameOf_LCH_TX_COEF h) rfl (by decide) (by decide)
@[simp] theorem fieldName_LCH_TX_COEF_C0 (h : Nat) : fieldName (LCH_TX_COEF.C0 h).key = 0x4000398 :=
  fieldName_of _ 0x20001C 24 _ (nameOf_LCH_TX_COEF h) rfl (by decide) (by decide)
@[simp] theorem fieldName_LCH_TX_COEF_CM2 (h : Nat) : fieldName (LCH_TX_COEF.CM2 h).key = 0x4000392 :=
  fieldName_of _ 0x20001C 18 _ (nameOf_LCH_TX_COEF h) rfl (by decide) (by decide)
@[simp] theorem fieldName_LCH_TX_COEF_CM1 (h : Nat) : fieldName (LCH_TX_COEF.CM1 h).key = 0x400038C :=
  fieldName_of _ 0x20001C 12 _ (nameOf_LCH_TX_COEF h) rfl (by decide) (by decide)
@[simp] theorem fieldName_LCH_TX_COEF_CP1 (h : Nat) : fieldName (LCH_TX_COEF.CP1 h).key = 0x4000386 :=
  fieldName_of _ 0x20001C 6 _ (nameOf_LCH_TX_COEF h) rfl (by decide) (by decide)
@[simp] theorem fieldName_LCH_TX_COEF_CP2 (h : Nat) : fieldName (LCH_TX_COEF.CP2 h).key = 0x4000380 :=
  fieldName_of _ 0x20001C 0 _ (nameOf_LCH_TX_COEF h) rfl (by decide) (by decide)
@[simp] theorem fieldName_LCH_FOM_LIMITS_TARGET (r : Nat) : fieldName (LCH_FOM_LIMITS.TARGET r).key = 0x4200010 :=
  fieldName_of _ 0x210000 16 _ (nameOf_LCH_FOM_LIMITS r) rfl (by decide) (by decide)
@[simp] theorem fieldName_LCH_FOM_LIMITS_WARN (r : Nat) : fieldName (LCH_FOM_LIMITS.WARN r).key = 0x4200008 :=
  fieldName_of _ 0x210000 8 _ (nameOf_LCH_FOM_LIMITS r) rfl (by decide) (by decide)
@[simp] theorem fieldName_LCH_FOM_LIMITS_FAULT (r : Nat) : fieldName (LCH_FOM_LIMITS.FAULT r).key = 0x4200000 :=
  fieldName_of _ 0x210000 0 _ (nameOf_LCH_FOM_LIMITS r) rfl (by decide) (by decide)
@[simp] theorem fieldName_CLK_DCLK_SEL_LT (t : Nat) : fieldName (CLK_DCLK_SEL.LT t).key = 0x80000 :=
  fieldName_of _ 0x4000 (2 * (t % 8)) _ (show nameOf CLK_DCLK_SEL.off = _ by decide) rfl (by omega) (by
    rw [if_neg (by decide), if_pos (Or.inl (by decide))]; omega)
@[simp] theorem fieldName_PRT_DP_CTRL_CLOCKING (p : Nat) : fieldName (PRT_DP_CTRL.CLOCKING p).key = 0x200008A :=
  fieldName_of _ 0x100004 10 _ (nameOf_PRT_DP_CTRL p) rfl (by decide) (by decide)
@[simp] theorem fieldName_PRT_DP_CTRL_A_SLOT (p : Nat) : fieldName (PRT_DP_CTRL.A_SLOT p).key = 0x2000084 :=
  fieldName_of _ 0x100004 4 _ (nameOf_PRT_DP_CTRL p) rfl (by decide) (by decide)
@[simp] theorem fieldName_PRT_DP_CTRL_B_SLOT (p : Nat) : fieldName (PRT_DP_CTRL.B_SLOT p).key = 0x2000080 :=
  fieldName_of _ 0x100004 0 _ (nameOf_PRT_DP_CTRL p) rfl (by decide) (by decide)
@[simp] theorem fieldName_PRT_DP_STATUS_FLIT (p : Nat) : fieldName (PRT_DP_STATUS.FLIT p).key = 0x200011F :=
  fieldName_of _ 0x100008 31 _ (nameOf_PRT_DP_STATUS p) rfl (by decide) (by decide)
@[simp] theorem fieldName_PRT_DP_STATUS_A_REVERSED (p : Nat) : fieldName (PRT_DP_STATUS.A_REVERSED p).key = 0x200011E :=
  fieldName_of _ 0x100008 30 _ (nameOf_PRT_DP_STATUS p) rfl (by decide) (by decide)
@[simp] theorem fieldName_PRT_DP_STATUS_B_REVERSED (p : Nat) : fieldName (PRT_DP_STATUS.B_REVERSED p).key = 0x200011D :=
  fieldName_of _ 0x100008 29 _ (nameOf_PRT_DP_STATUS p) rfl (by decide) (by decide)
@[simp] theorem fieldName_PRT_DP_STATUS_DESKEW_FAIL (p : Nat) : fieldName (PRT_DP_STATUS.DESKEW_FAIL p).key = 0x2000119 :=
  fieldName_of _ 0x100008 25 _ (nameOf_PRT_DP_STATUS p) rfl (by decide) (by decide)
@[simp] theorem fieldName_PRT_DP_STATUS_EB_SLIP (p : Nat) : fieldName (PRT_DP_STATUS.EB_SLIP p).key = 0x2000118 :=
  fieldName_of _ 0x100008 24 _ (nameOf_PRT_DP_STATUS p) rfl (by decide) (by decide)
@[simp] theorem fieldName_PRT_DP_STATUS_EB_SLIP_CNT (p : Nat) : fieldName (PRT_DP_STATUS.EB_SLIP_CNT p).key = 0x2000110 :=
  fieldName_of _ 0x100008 16 _ (nameOf_PRT_DP_STATUS p) rfl (by decide) (by decide)
@[simp] theorem fieldName_PRT_DP_STATUS_A_SLOT_NOW (p : Nat) : fieldName (PRT_DP_STATUS.A_SLOT_NOW p).key = 0x200010C :=
  fieldName_of _ 0x100008 12 _ (nameOf_PRT_DP_STATUS p) rfl (by decide) (by decide)
@[simp] theorem fieldName_PRT_DP_STATUS_B_SLOT_NOW (p : Nat) : fieldName (PRT_DP_STATUS.B_SLOT_NOW p).key = 0x2000108 :=
  fieldName_of _ 0x100008 8 _ (nameOf_PRT_DP_STATUS p) rfl (by decide) (by decide)
@[simp] theorem fieldName_PRT_DP_STATUS_A_ALIGN (p : Nat) : fieldName (PRT_DP_STATUS.A_ALIGN p).key = 0x2000104 :=
  fieldName_of _ 0x100008 4 _ (nameOf_PRT_DP_STATUS p) rfl (by decide) (by decide)
@[simp] theorem fieldName_PRT_DP_STATUS_B_ALIGN (p : Nat) : fieldName (PRT_DP_STATUS.B_ALIGN p).key = 0x2000100 :=
  fieldName_of _ 0x100008 0 _ (nameOf_PRT_DP_STATUS p) rfl (by decide) (by decide)
@[simp] theorem fieldName_LCH_DP_STATUS_POL_INV (h : Nat) : fieldName (LCH_DP_STATUS.POL_INV h).key = 0x400041F :=
  fieldName_of _ 0x200020 31 _ (nameOf_LCH_DP_STATUS h) rfl (by decide) (by decide)
@[simp] theorem fieldName_LCH_DP_STATUS_ALIGN_STATE (h : Nat) : fieldName (LCH_DP_STATUS.ALIGN_STATE h).key = 0x4000418 :=
  fieldName_of _ 0x200020 24 _ (nameOf_LCH_DP_STATUS h) rfl (by decide) (by decide)
@[simp] theorem fieldName_LCH_DP_STATUS_LINK_LANE (h : Nat) : fieldName (LCH_DP_STATUS.LINK_LANE h).key = 0x4000413 :=
  fieldName_of _ 0x200020 19 _ (nameOf_LCH_DP_STATUS h) rfl (by decide) (by decide)
@[simp] theorem fieldName_LCH_DP_STATUS_SKEW (h : Nat) : fieldName (LCH_DP_STATUS.SKEW h).key = 0x4000408 :=
  fieldName_of _ 0x200020 8 _ (nameOf_LCH_DP_STATUS h) rfl (by decide) (by decide)
@[simp] theorem fieldName_LCH_DP_STATUS_EB_FILL (h : Nat) : fieldName (LCH_DP_STATUS.EB_FILL h).key = 0x4000400 :=
  fieldName_of _ 0x200020 0 _ (nameOf_LCH_DP_STATUS h) rfl (by decide) (by decide)
@[simp] theorem fieldName_PRT_SKP_ADJ_ADD (q : Nat) : fieldName (PRT_SKP_ADJ.ADD q).key = 0x2000190 :=
  fieldName_of _ 0x10000C 16 _ (nameOf_PRT_SKP_ADJ q) rfl (by decide) (by decide)
@[simp] theorem fieldName_PRT_SKP_ADJ_DEL (q : Nat) : fieldName (PRT_SKP_ADJ.DEL q).key = 0x2000180 :=
  fieldName_of _ 0x10000C 0 _ (nameOf_PRT_SKP_ADJ q) rfl (by decide) (by decide)
@[simp] theorem fieldName_PRT_TRN_CTRL_RETRAIN (p : Nat) : fieldName (PRT_TRN_CTRL.RETRAIN p).key = 0x200041F :=
  fieldName_of _ 0x100020 31 _ (nameOf_PRT_TRN_CTRL p) rfl (by decide) (by decide)
@[simp] theorem fieldName_PRT_TRN_CTRL_UPSTREAM (p : Nat) : fieldName (PRT_TRN_CTRL.UPSTREAM p).key = 0x2000416 :=
  fieldName_of _ 0x100020 22 _ (nameOf_PRT_TRN_CTRL p) rfl (by decide) (by decide)
@[simp] theorem fieldName_PRT_TRN_CTRL_NONFLIT_LIMIT (p : Nat) : fieldName (PRT_TRN_CTRL.NONFLIT_LIMIT p).key = 0x2000410 :=
  fieldName_of _ 0x100020 16 _ (nameOf_PRT_TRN_CTRL p) rfl (by decide) (by decide)
@[simp] theorem fieldName_PRT_TRN_CTRL_EQ_CANDIDATES (p : Nat) : fieldName (PRT_TRN_CTRL.EQ_CANDIDATES p).key = 0x200040C :=
  fieldName_of _ 0x100020 12 _ (nameOf_PRT_TRN_CTRL p) rfl (by decide) (by decide)
@[simp] theorem fieldName_PRT_TRN_STATUS_STATE (p : Nat) : fieldName (PRT_TRN_STATUS.STATE p).key = 0x200049C :=
  fieldName_of _ 0x100024 28 _ (nameOf_PRT_TRN_STATUS p) rfl (by decide) (by decide)
@[simp] theorem fieldName_PRT_TRN_STATUS_EQ_PHASE (p : Nat) : fieldName (PRT_TRN_STATUS.EQ_PHASE p).key = 0x2000498 :=
  fieldName_of _ 0x100024 24 _ (nameOf_PRT_TRN_STATUS p) rfl (by decide) (by decide)
@[simp] theorem fieldName_PRT_TRN_STATUS_EQ_SLOT (p : Nat) : fieldName (PRT_TRN_STATUS.EQ_SLOT p).key = 0x2000494 :=
  fieldName_of _ 0x100024 20 _ (nameOf_PRT_TRN_STATUS p) rfl (by decide) (by decide)
@[simp] theorem fieldName_PRT_TRN_STATUS_UP_SIDE (p : Nat) : fieldName (PRT_TRN_STATUS.UP_SIDE p).key = 0x2000492 :=
  fieldName_of _ 0x100024 18 _ (nameOf_PRT_TRN_STATUS p) rfl (by decide) (by decide)
@[simp] theorem fieldName_PRT_TRN_STATUS_RETIMER_POS (p : Nat) : fieldName (PRT_TRN_STATUS.RETIMER_POS p).key = 0x2000490 :=
  fieldName_of _ 0x100024 16 _ (nameOf_PRT_TRN_STATUS p) rfl (by decide) (by decide)
@[simp] theorem fieldName_PRT_TRN_STATUS_CXL (p : Nat) : fieldName (PRT_TRN_STATUS.CXL p).key = 0x200048F :=
  fieldName_of _ 0x100024 15 _ (nameOf_PRT_TRN_STATUS p) rfl (by decide) (by decide)
@[simp] theorem fieldName_PRT_TRN_STATUS_L0P (p : Nat) : fieldName (PRT_TRN_STATUS.L0P p).key = 0x200048E :=
  fieldName_of _ 0x100024 14 _ (nameOf_PRT_TRN_STATUS p) rfl (by decide) (by decide)
@[simp] theorem fieldName_PRT_TRN_STATUS_LP_KIND (p : Nat) : fieldName (PRT_TRN_STATUS.LP_KIND p).key = 0x200048B :=
  fieldName_of _ 0x100024 11 _ (nameOf_PRT_TRN_STATUS p) rfl (by decide) (by decide)
@[simp] theorem fieldName_PRT_TRN_STATUS_NEG_WIDTH (p : Nat) : fieldName (PRT_TRN_STATUS.NEG_WIDTH p).key = 0x2000488 :=
  fieldName_of _ 0x100024 8 _ (nameOf_PRT_TRN_STATUS p) rfl (by decide) (by decide)
@[simp] theorem fieldName_PRT_TRN_STATUS_NONFLIT_COUNT (p : Nat) : fieldName (PRT_TRN_STATUS.NONFLIT_COUNT p).key = 0x2000484 :=
  fieldName_of _ 0x100024 4 _ (nameOf_PRT_TRN_STATUS p) rfl (by decide) (by decide)
@[simp] theorem fieldName_PRT_TRN_EVENTS_PARTNER_LOST_A (p : Nat) : fieldName (PRT_TRN_EVENTS.PARTNER_LOST_A p).key = 0x200051F :=
  fieldName_of _ 0x100028 31 _ (nameOf_PRT_TRN_EVENTS p) rfl (by decide) (by decide)
@[simp] theorem fieldName_PRT_TRN_EVENTS_PARTNER_LOST_B (p : Nat) : fieldName (PRT_TRN_EVENTS.PARTNER_LOST_B p).key = 0x200051E :=
  fieldName_of _ 0x100028 30 _ (nameOf_PRT_TRN_EVENTS p) rfl (by decide) (by decide)
@[simp] theorem fieldName_PRT_TRN_EVENTS_TRN_TIMEOUT (p : Nat) : fieldName (PRT_TRN_EVENTS.TRN_TIMEOUT p).key = 0x200051D :=
  fieldName_of _ 0x100028 29 _ (nameOf_PRT_TRN_EVENTS p) rfl (by decide) (by decide)
@[simp] theorem fieldName_PRT_TRN_EVENTS_NONFLIT_REFUSED (p : Nat) : fieldName (PRT_TRN_EVENTS.NONFLIT_REFUSED p).key = 0x200051C :=
  fieldName_of _ 0x100028 28 _ (nameOf_PRT_TRN_EVENTS p) rfl (by decide) (by decide)
@[simp] theorem fieldName_PRT_TRN_EVENTS_LOOPBACK_REFUSED (p : Nat) : fieldName (PRT_TRN_EVENTS.LOOPBACK_REFUSED p).key = 0x200051B :=
  fieldName_of _ 0x100028 27 _ (nameOf_PRT_TRN_EVENTS p) rfl (by decide) (by decide)
@[simp] theorem fieldName_PRT_TRN_EVENTS_EQ_REQ_REJECTED (p : Nat) : fieldName (PRT_TRN_EVENTS.EQ_REQ_REJECTED p).key = 0x200051A :=
  fieldName_of _ 0x100028 26 _ (nameOf_PRT_TRN_EVENTS p) rfl (by decide) (by decide)
@[simp] theorem fieldName_PRT_TRN_EVENTS_EQ_BELOW_TARGET (p : Nat) : fieldName (PRT_TRN_EVENTS.EQ_BELOW_TARGET p).key = 0x2000519 :=
  fieldName_of _ 0x100028 25 _ (nameOf_PRT_TRN_EVENTS p) rfl (by decide) (by decide)
@[simp] theorem fieldName_PRT_TRN_EVENTS_DETECT_CNT (p : Nat) : fieldName (PRT_TRN_EVENTS.DETECT_CNT p).key = 0x2000510 :=
  fieldName_of _ 0x100028 16 _ (nameOf_PRT_TRN_EVENTS p) rfl (by decide) (by decide)
@[simp] theorem fieldName_PRT_TRN_EVENTS_RECOVERY_CNT (p : Nat) : fieldName (PRT_TRN_EVENTS.RECOVERY_CNT p).key = 0x2000508 :=
  fieldName_of _ 0x100028 8 _ (nameOf_PRT_TRN_EVENTS p) rfl (by decide) (by decide)
@[simp] theorem fieldName_PRT_TRN_EVENTS_RATE_CHG_CNT (p : Nat) : fieldName (PRT_TRN_EVENTS.RATE_CHG_CNT p).key = 0x2000500 :=
  fieldName_of _ 0x100028 0 _ (nameOf_PRT_TRN_EVENTS p) rfl (by decide) (by decide)
@[simp] theorem fieldName_PRT_SEG_CTRL_RETRAIN (q : Nat) : fieldName (PRT_SEG_CTRL.RETRAIN q).key = 0x200081F :=
  fieldName_of _ 0x100040 31 _ (nameOf_PRT_SEG_CTRL q) rfl (by decide) (by decide)
@[simp] theorem fieldName_PRT_SEG_CTRL_LEGACY (q : Nat) : fieldName (PRT_SEG_CTRL.LEGACY q).key = 0x200081E :=
  fieldName_of _ 0x100040 30 _ (nameOf_PRT_SEG_CTRL q) rfl (by decide) (by decide)
@[simp] theorem fieldName_PRT_SEG_CTRL_RTT_MAX (q : Nat) : fieldName (PRT_SEG_CTRL.RTT_MAX q).key = 0x2000814 :=
  fieldName_of _ 0x100040 20 _ (nameOf_PRT_SEG_CTRL q) rfl (by decide) (by decide)
@[simp] theorem fieldName_PRT_SEG_CTRL_SLOTS (q : Nat) : fieldName (PRT_SEG_CTRL.SLOTS q).key = 0x2000800 :=
  fieldName_of _ 0x100040 0 _ (nameOf_PRT_SEG_CTRL q) rfl (by decide) (by decide)
@[simp] theorem fieldName_PRT_SEG_STATUS_STATE (q : Nat) : fieldName (PRT_SEG_STATUS.STATE q).key = 0x200091C :=
  fieldName_of _ 0x100048 28 _ (nameOf_PRT_SEG_STATUS q) rfl (by decide) (by decide)
@[simp] theorem fieldName_PRT_SEG_STATUS_LAST_FAIL (q : Nat) : fieldName (PRT_SEG_STATUS.LAST_FAIL q).key = 0x2000918 :=
  fieldName_of _ 0x100048 24 _ (nameOf_PRT_SEG_STATUS q) rfl (by decide) (by decide)
@[simp] theorem fieldName_PRT_SEG_STATUS_ATTEMPTS (q : Nat) : fieldName (PRT_SEG_STATUS.ATTEMPTS q).key = 0x2000914 :=
  fieldName_of _ 0x100048 20 _ (nameOf_PRT_SEG_STATUS q) rfl (by decide) (by decide)
@[simp] theorem fieldName_PRT_SEG_STATUS_RTT (q : Nat) : fieldName (PRT_SEG_STATUS.RTT q).key = 0x200090C :=
  fieldName_of _ 0x100048 12 _ (nameOf_PRT_SEG_STATUS q) rfl (by decide) (by decide)
@[simp] theorem fieldName_PRT_SEG_STATUS_PARTNER (q : Nat) : fieldName (PRT_SEG_STATUS.PARTNER q).key = 0x200090A :=
  fieldName_of _ 0x100048 10 _ (nameOf_PRT_SEG_STATUS q) rfl (by decide) (by decide)
@[simp] theorem fieldName_PRT_SEG_STATUS_HOPS (q : Nat) : fieldName (PRT_SEG_STATUS.HOPS q).key = 0x2000907 :=
  fieldName_of _ 0x100048 7 _ (nameOf_PRT_SEG_STATUS q) rfl (by decide) (by decide)
@[simp] theorem fieldName_PRT_SEG_STATUS_CHAIN_TOO_LONG (q : Nat) : fieldName (PRT_SEG_STATUS.CHAIN_TOO_LONG q).key = 0x2000906 :=
  fieldName_of _ 0x100048 6 _ (nameOf_PRT_SEG_STATUS q) rfl (by decide) (by decide)
@[simp] theorem fieldName_PRT_SEG_STATUS_PARTNER_LOST (q : Nat) : fieldName (PRT_SEG_STATUS.PARTNER_LOST q).key = 0x2000905 :=
  fieldName_of _ 0x100048 5 _ (nameOf_PRT_SEG_STATUS q) rfl (by decide) (by decide)
@[simp] theorem fieldName_PRT_SEG_STATUS_RTT_OVER (q : Nat) : fieldName (PRT_SEG_STATUS.RTT_OVER q).key = 0x2000904 :=
  fieldName_of _ 0x100048 4 _ (nameOf_PRT_SEG_STATUS q) rfl (by decide) (by decide)
@[simp] theorem fieldName_PRT_SEG_STATUS_REPLAY_FULL (q : Nat) : fieldName (PRT_SEG_STATUS.REPLAY_FULL q).key = 0x2000903 :=
  fieldName_of _ 0x100048 3 _ (nameOf_PRT_SEG_STATUS q) rfl (by decide) (by decide)
@[simp] theorem fieldName_PRT_SEG_STATUS_FLIT_DROP (q : Nat) : fieldName (PRT_SEG_STATUS.FLIT_DROP q).key = 0x2000902 :=
  fieldName_of _ 0x100048 2 _ (nameOf_PRT_SEG_STATUS q) rfl (by decide) (by decide)
@[simp] theorem fieldName_PRT_SEG_STATUS_STUFF_HIGH (q : Nat) : fieldName (PRT_SEG_STATUS.STUFF_HIGH q).key = 0x2000901 :=
  fieldName_of _ 0x100048 1 _ (nameOf_PRT_SEG_STATUS q) rfl (by decide) (by decide)
@[simp] theorem fieldName_PRT_SEG_STATUS_RETRY_EXHAUSTED (q : Nat) : fieldName (PRT_SEG_STATUS.RETRY_EXHAUSTED q).key = 0x2000900 :=
  fieldName_of _ 0x100048 0 _ (nameOf_PRT_SEG_STATUS q) rfl (by decide) (by decide)
@[simp] theorem fieldName_PRT_SEG_CNT_NAK_SENT (q : Nat) : fieldName (PRT_SEG_CNT.NAK_SENT q).key = 0x2000A10 :=
  fieldName_of _ 0x100050 16 _ (nameOf_PRT_SEG_CNT q) rfl (by decide) (by decide)
@[simp] theorem fieldName_PRT_SEG_CNT_REPLAYS (q : Nat) : fieldName (PRT_SEG_CNT.REPLAYS q).key = 0x2000A00 :=
  fieldName_of _ 0x100050 0 _ (nameOf_PRT_SEG_CNT q) rfl (by decide) (by decide)
@[simp] theorem fieldName_LCH_SEG_FEC_CORR_SYM (h : Nat) : fieldName (LCH_SEG_FEC.CORR_SYM h).key = 0x4000490 :=
  fieldName_of _ 0x200024 16 _ (nameOf_LCH_SEG_FEC h) rfl (by decide) (by decide)
@[simp] theorem fieldName_LCH_SEG_FEC_UNCORR (h : Nat) : fieldName (LCH_SEG_FEC.UNCORR h).key = 0x4000488 :=
  fieldName_of _ 0x200024 8 _ (nameOf_LCH_SEG_FEC h) rfl (by decide) (by decide)
@[simp] theorem fieldName_LCH_SEG_FEC_SEG_POL_INV (h : Nat) : fieldName (LCH_SEG_FEC.SEG_POL_INV h).key = 0x4000487 :=
  fieldName_of _ 0x200024 7 _ (nameOf_LCH_SEG_FEC h) rfl (by decide) (by decide)
@[simp] theorem fieldName_LCH_SEG_FEC_FRAME_LOCK (h : Nat) : fieldName (LCH_SEG_FEC.FRAME_LOCK h).key = 0x4000486 :=
  fieldName_of _ 0x200024 6 _ (nameOf_LCH_SEG_FEC h) rfl (by decide) (by decide)
@[simp] theorem fieldName_LCH_SEG_FEC_HEARD (h : Nat) : fieldName (LCH_SEG_FEC.HEARD h).key = 0x4000480 :=
  fieldName_of _ 0x200024 0 _ (nameOf_LCH_SEG_FEC h) rfl (by decide) (by decide)
@[simp] theorem fieldName_PRT_TRL_CTRL_TRELLIS_OFF (q : Nat) : fieldName (PRT_TRL_CTRL.TRELLIS_OFF q).key = 0x2000C1F :=
  fieldName_of _ 0x100060 31 _ (nameOf_PRT_TRL_CTRL q) rfl (by decide) (by decide)
@[simp] theorem fieldName_PRT_TRL_CTRL_POLICY (q : Nat) : fieldName (PRT_TRL_CTRL.POLICY q).key = 0x2000C1E :=
  fieldName_of _ 0x100060 30 _ (nameOf_PRT_TRL_CTRL q) rfl (by decide) (by decide)
@[simp] theorem fieldName_PRT_TRL_CTRL_MIN_WIDTH (q : Nat) : fieldName (PRT_TRL_CTRL.MIN_WIDTH q).key = 0x2000C19 :=
  fieldName_of _ 0x100060 25 _ (nameOf_PRT_TRL_CTRL q) rfl (by decide) (by decide)
@[simp] theorem fieldName_PRT_TRL_CTRL_COMMIT_HOLD (q : Nat) : fieldName (PRT_TRL_CTRL.COMMIT_HOLD q).key = 0x2000C14 :=
  fieldName_of _ 0x100060 20 _ (nameOf_PRT_TRL_CTRL q) rfl (by decide) (by decide)
@[simp] theorem fieldName_PRT_TRL_CTRL_UNCORR_LIMIT (q : Nat) : fieldName (PRT_TRL_CTRL.UNCORR_LIMIT q).key = 0x2000C08 :=
  fieldName_of _ 0x100060 8 _ (nameOf_PRT_TRL_CTRL q) rfl (by decide) (by decide)
@[simp] theorem fieldName_PRT_TRL_CTRL_CORR_LIMIT (q : Nat) : fieldName (PRT_TRL_CTRL.CORR_LIMIT q).key = 0x2000C00 :=
  fieldName_of _ 0x100060 0 _ (nameOf_PRT_TRL_CTRL q) rfl (by decide) (by decide)
@[simp] theorem fieldName_PRT_TRL_STATUS_STEER_STATE (q : Nat) : fieldName (PRT_TRL_STATUS.STEER_STATE q).key = 0x2000D1C :=
  fieldName_of _ 0x100068 28 _ (nameOf_PRT_TRL_STATUS q) rfl (by decide) (by decide)
@[simp] theorem fieldName_PRT_TRL_STATUS_XMIT_STATE (q : Nat) : fieldName (PRT_TRL_STATUS.XMIT_STATE q).key = 0x2000D18 :=
  fieldName_of _ 0x100068 24 _ (nameOf_PRT_TRL_STATUS q) rfl (by decide) (by decide)
@[simp] theorem fieldName_PRT_TRL_STATUS_RX_EPOCH (q : Nat) : fieldName (PRT_TRL_STATUS.RX_EPOCH q).key = 0x2000D10 :=
  fieldName_of _ 0x100068 16 _ (nameOf_PRT_TRL_STATUS q) rfl (by decide) (by decide)
@[simp] theorem fieldName_PRT_TRL_STATUS_TX_EPOCH (q : Nat) : fieldName (PRT_TRL_STATUS.TX_EPOCH q).key = 0x2000D08 :=
  fieldName_of _ 0x100068 8 _ (nameOf_PRT_TRL_STATUS q) rfl (by decide) (by decide)
@[simp] theorem fieldName_PRT_TRL_STATUS_READY_SPARES (q : Nat) : fieldName (PRT_TRL_STATUS.READY_SPARES q).key = 0x2000D06 :=
  fieldName_of _ 0x100068 6 _ (nameOf_PRT_TRL_STATUS q) rfl (by decide) (by decide)
@[simp] theorem fieldName_PRT_TRL_STATUS_DEGRADED (q : Nat) : fieldName (PRT_TRL_STATUS.DEGRADED q).key = 0x2000D05 :=
  fieldName_of _ 0x100068 5 _ (nameOf_PRT_TRL_STATUS q) rfl (by decide) (by decide)
@[simp] theorem fieldName_PRT_TRL_STATUS_NO_SPARE (q : Nat) : fieldName (PRT_TRL_STATUS.NO_SPARE q).key = 0x2000D04 :=
  fieldName_of _ 0x100068 4 _ (nameOf_PRT_TRL_STATUS q) rfl (by decide) (by decide)
@[simp] theorem fieldName_PRT_TRL_STATUS_PORT_FAULT (q : Nat) : fieldName (PRT_TRL_STATUS.PORT_FAULT q).key = 0x2000D03 :=
  fieldName_of _ 0x100068 3 _ (nameOf_PRT_TRL_STATUS q) rfl (by decide) (by decide)
@[simp] theorem fieldName_PRT_TRL_STATUS_REMAPPED (q : Nat) : fieldName (PRT_TRL_STATUS.REMAPPED q).key = 0x2000D02 :=
  fieldName_of _ 0x100068 2 _ (nameOf_PRT_TRL_STATUS q) rfl (by decide) (by decide)
@[simp] theorem fieldName_PRT_TRL_STATUS_CANCELLED (q : Nat) : fieldName (PRT_TRL_STATUS.CANCELLED q).key = 0x2000D01 :=
  fieldName_of _ 0x100068 1 _ (nameOf_PRT_TRL_STATUS q) rfl (by decide) (by decide)
@[simp] theorem fieldName_PRT_TRL_STATUS_SPARE_LOST (q : Nat) : fieldName (PRT_TRL_STATUS.SPARE_LOST q).key = 0x2000D00 :=
  fieldName_of _ 0x100068 0 _ (nameOf_PRT_TRL_STATUS q) rfl (by decide) (by decide)
@[simp] theorem fieldName_PRT_TRL_CNT_PROPOSE_CNT (q : Nat) : fieldName (PRT_TRL_CNT.PROPOSE_CNT q).key = 0x2000E18 :=
  fieldName_of _ 0x100070 24 _ (nameOf_PRT_TRL_CNT q) rfl (by decide) (by decide)
@[simp] theorem fieldName_PRT_TRL_CNT_COMMIT_CNT (q : Nat) : fieldName (PRT_TRL_CNT.COMMIT_CNT q).key = 0x2000E10 :=
  fieldName_of _ 0x100070 16 _ (nameOf_PRT_TRL_CNT q) rfl (by decide) (by decide)
@[simp] theorem fieldName_PRT_TRL_CNT_CANCEL_CNT (q : Nat) : fieldName (PRT_TRL_CNT.CANCEL_CNT q).key = 0x2000E08 :=
  fieldName_of _ 0x100070 8 _ (nameOf_PRT_TRL_CNT q) rfl (by decide) (by decide)
@[simp] theorem fieldName_PRT_TRL_CNT_REFUSE_CNT (q : Nat) : fieldName (PRT_TRL_CNT.REFUSE_CNT q).key = 0x2000E00 :=
  fieldName_of _ 0x100070 0 _ (nameOf_PRT_TRL_CNT q) rfl (by decide) (by decide)
@[simp] theorem fieldName_PRT_TRL_CMD_GO (q : Nat) : fieldName (PRT_TRL_CMD.GO q).key = 0x2000F1F :=
  fieldName_of _ 0x100078 31 _ (nameOf_PRT_TRL_CMD q) rfl (by decide) (by decide)
@[simp] theorem fieldName_PRT_TRL_CMD_KIND (q : Nat) : fieldName (PRT_TRL_CMD.KIND q).key = 0x2000F1D :=
  fieldName_of _ 0x100078 29 _ (nameOf_PRT_TRL_CMD q) rfl (by decide) (by decide)
@[simp] theorem fieldName_PRT_TRL_CMD_LANE (q : Nat) : fieldName (PRT_TRL_CMD.LANE q).key = 0x2000F18 :=
  fieldName_of _ 0x100078 24 _ (nameOf_PRT_TRL_CMD q) rfl (by decide) (by decide)
@[simp] theorem fieldName_PRT_TRL_CMD_SPARE (q : Nat) : fieldName (PRT_TRL_CMD.SPARE q).key = 0x2000F10 :=
  fieldName_of _ 0x100078 16 _ (nameOf_PRT_TRL_CMD q) rfl (by decide) (by decide)
@[simp] theorem fieldName_LCH_LANE_FAULT_STATUS (h : Nat) : fieldName (LCH_LANE_FAULT.STATUS h).key = 0x400051C :=
  fieldName_of _ 0x200028 28 _ (nameOf_LCH_LANE_FAULT h) rfl (by decide) (by decide)
@[simp] theorem fieldName_LCH_LANE_FAULT_LAST_REASON (h : Nat) : fieldName (LCH_LANE_FAULT.LAST_REASON h).key = 0x4000518 :=
  fieldName_of _ 0x200028 24 _ (nameOf_LCH_LANE_FAULT h) rfl (by decide) (by decide)
@[simp] theorem fieldName_LCH_LANE_FAULT_TX_LOGICAL (h : Nat) : fieldName (LCH_LANE_FAULT.TX_LOGICAL h).key = 0x4000513 :=
  fieldName_of _ 0x200028 19 _ (nameOf_LCH_LANE_FAULT h) rfl (by decide) (by decide)
@[simp] theorem fieldName_LCH_LANE_FAULT_RX_LOGICAL (h : Nat) : fieldName (LCH_LANE_FAULT.RX_LOGICAL h).key = 0x400050E :=
  fieldName_of _ 0x200028 14 _ (nameOf_LCH_LANE_FAULT h) rfl (by decide) (by decide)
@[simp] theorem fieldName_LCH_LANE_FAULT_FAULT_NEW (h : Nat) : fieldName (LCH_LANE_FAULT.FAULT_NEW h).key = 0x400050D :=
  fieldName_of _ 0x200028 13 _ (nameOf_LCH_LANE_FAULT h) rfl (by decide) (by decide)
@[simp] theorem fieldName_LCH_LANE_FAULT_FAULT_CNT (h : Nat) : fieldName (LCH_LANE_FAULT.FAULT_CNT h).key = 0x4000500 :=
  fieldName_of _ 0x200028 0 _ (nameOf_LCH_LANE_FAULT h) rfl (by decide) (by decide)
@[simp] theorem fieldName_CAL_POLICY_AUTO_RUN : fieldName (CAL_POLICY.AUTO_RUN).key = 0x20001F :=
  fieldName_of _ 0x10000 31 _ (by decide) rfl (by decide) (by decide)
@[simp] theorem fieldName_CAL_POLICY_AUTO_STORE : fieldName (CAL_POLICY.AUTO_STORE).key = 0x20001E :=
  fieldName_of _ 0x10000 30 _ (by decide) rfl (by decide) (by decide)
@[simp] theorem fieldName_CAL_POLICY_RUN_INTERVAL : fieldName (CAL_POLICY.RUN_INTERVAL).key = 0x200010 :=
  fieldName_of _ 0x10000 16 _ (by decide) rfl (by decide) (by decide)
@[simp] theorem fieldName_CAL_POLICY_TEMP_STEP : fieldName (CAL_POLICY.TEMP_STEP).key = 0x20000C :=
  fieldName_of _ 0x10000 12 _ (by decide) rfl (by decide) (by decide)
@[simp] theorem fieldName_CAL_POLICY_STORE_INTERVAL : fieldName (CAL_POLICY.STORE_INTERVAL).key = 0x200000 :=
  fieldName_of _ 0x10000 0 _ (by decide) rfl (by decide) (by decide)
@[simp] theorem fieldName_CAL_CMD_GO : fieldName (CAL_CMD.GO).key = 0x20009F :=
  fieldName_of _ 0x10004 31 _ (by decide) rfl (by decide) (by decide)
@[simp] theorem fieldName_CAL_CMD_ACTION : fieldName (CAL_CMD.ACTION).key = 0x20009C :=
  fieldName_of _ 0x10004 28 _ (by decide) rfl (by decide) (by decide)
@[simp] theorem fieldName_CAL_CMD_SCOPE : fieldName (CAL_CMD.SCOPE).key = 0x20009A :=
  fieldName_of _ 0x10004 26 _ (by decide) rfl (by decide) (by decide)
@[simp] theorem fieldName_CAL_CMD_HALF : fieldName (CAL_CMD.HALF).key = 0x200099 :=
  fieldName_of _ 0x10004 25 _ (by decide) rfl (by decide) (by decide)
@[simp] theorem fieldName_CAL_CMD_INDEX : fieldName (CAL_CMD.INDEX).key = 0x200090 :=
  fieldName_of _ 0x10004 16 _ (by decide) rfl (by decide) (by decide)
@[simp] theorem fieldName_CAL_STATUS_STORE_BUSY : fieldName (CAL_STATUS.STORE_BUSY).key = 0x20011F :=
  fieldName_of _ 0x10008 31 _ (by decide) rfl (by decide) (by decide)
@[simp] theorem fieldName_CAL_STATUS_STORE_RESULT : fieldName (CAL_STATUS.STORE_RESULT).key = 0x20011C :=
  fieldName_of _ 0x10008 28 _ (by decide) rfl (by decide) (by decide)
@[simp] theorem fieldName_CAL_STATUS_BOOT_COPY : fieldName (CAL_STATUS.BOOT_COPY).key = 0x20011A :=
  fieldName_of _ 0x10008 26 _ (by decide) rfl (by decide) (by decide)
@[simp] theorem fieldName_CAL_STATUS_DIRTY : fieldName (CAL_STATUS.DIRTY).key = 0x200119 :=
  fieldName_of _ 0x10008 25 _ (by decide) rfl (by decide) (by decide)
@[simp] theorem fieldName_CAL_STATUS_RUNS_ACTIVE : fieldName (CAL_STATUS.RUNS_ACTIVE).key = 0x200100 :=
  fieldName_of _ 0x10008 0 _ (by decide) rfl (by decide) (by decide)
@[simp] theorem fieldName_CAL_GEN_GENERATION : fieldName (CAL_GEN.GENERATION).key = 0x200180 :=
  fieldName_of _ 0x1000C 0 _ (by decide) rfl (by decide) (by decide)
@[simp] theorem fieldName_CAL_TEMP_VALID (t : Nat) : fieldName (CAL_TEMP.VALID t).key = 0x20081F :=
  fieldName_of _ 0x10040 31 _ (nameOf_CAL_TEMP t) rfl (by decide) (by decide)
@[simp] theorem fieldName_CAL_TEMP_TEMP (t : Nat) : fieldName (CAL_TEMP.TEMP t).key = 0x200800 :=
  fieldName_of _ 0x10040 0 _ (nameOf_CAL_TEMP t) rfl (by decide) (by decide)
@[simp] theorem fieldName_CAL_RX_HOLD (h : Nat) : fieldName (CAL_RX.HOLD h).key = 0x22001F :=
  fieldName_of _ 0x11000 31 _ (nameOf_CAL_RX h) rfl (by decide) (by decide)
@[simp] theorem fieldName_CAL_RX_LAST_RESULT (h : Nat) : fieldName (CAL_RX.LAST_RESULT h).key = 0x220018 :=
  fieldName_of _ 0x11000 24 _ (nameOf_CAL_RX h) rfl (by decide) (by decide)
@[simp] theorem fieldName_CAL_RX_NQ_REASON (h : Nat) : fieldName (CAL_RX.NQ_REASON h).key = 0x220010 :=
  fieldName_of _ 0x11000 16 _ (nameOf_CAL_RX h) rfl (by decide) (by decide)
@[simp] theorem fieldName_CAL_RX_APPLIED_TEMP (h : Nat) : fieldName (CAL_RX.APPLIED_TEMP h).key = 0x220008 :=
  fieldName_of _ 0x11000 8 _ (nameOf_CAL_RX h) rfl (by decide) (by decide)
@[simp] theorem fieldName_CAL_RX_VALID_POINTS (h : Nat) : fieldName (CAL_RX.VALID_POINTS h).key = 0x220004 :=
  fieldName_of _ 0x11000 4 _ (nameOf_CAL_RX h) rfl (by decide) (by decide)
@[simp] theorem fieldName_CAL_RX_RUN_CNT (h : Nat) : fieldName (CAL_RX.RUN_CNT h).key = 0x220000 :=
  fieldName_of _ 0x11000 0 _ (nameOf_CAL_RX h) rfl (by decide) (by decide)
@[simp] theorem fieldName_ENG_CTRL_SLICE_JOBS_OFF : fieldName (ENG_CTRL.SLICE_JOBS_OFF).key = 0x40001F :=
  fieldName_of _ 0x20000 31 _ (by decide) rfl (by decide) (by decide)
@[simp] theorem fieldName_ENG_CTRL_FAULT_LIMIT : fieldName (ENG_CTRL.FAULT_LIMIT).key = 0x400008 :=
  fieldName_of _ 0x20000 8 _ (by decide) rfl (by decide) (by decide)
@[simp] theorem fieldName_ENG_CTRL_WAIT_LIMIT : fieldName (ENG_CTRL.WAIT_LIMIT).key = 0x400000 :=
  fieldName_of _ 0x20000 0 _ (by decide) rfl (by decide) (by decide)
@[simp] theorem fieldName_ENG_STATUS_STATE (k : Nat) : fieldName (ENG_STATUS.STATE k).key = 0x40801C :=
  fieldName_of _ 0x20400 28 _ (nameOf_ENG_STATUS k) rfl (by decide) (by decide)
@[simp] theorem fieldName_ENG_STATUS_FAULTS (k : Nat) : fieldName (ENG_STATUS.FAULTS k).key = 0x408018 :=
  fieldName_of _ 0x20400 24 _ (nameOf_ENG_STATUS k) rfl (by decide) (by decide)
@[simp] theorem fieldName_ENG_STATUS_LOAD (k : Nat) : fieldName (ENG_STATUS.LOAD k).key = 0x408010 :=
  fieldName_of _ 0x20400 16 _ (nameOf_ENG_STATUS k) rfl (by decide) (by decide)
@[simp] theorem fieldName_ENG_STATUS_JOB_BUSY (k : Nat) : fieldName (ENG_STATUS.JOB_BUSY k).key = 0x40800F :=
  fieldName_of _ 0x20400 15 _ (nameOf_ENG_STATUS k) rfl (by decide) (by decide)
@[simp] theorem fieldName_ENG_STATUS_JOB_STATE (k : Nat) : fieldName (ENG_STATUS.JOB_STATE k).key = 0x40800C :=
  fieldName_of _ 0x20400 12 _ (nameOf_ENG_STATUS k) rfl (by decide) (by decide)
@[simp] theorem fieldName_ENG_STATUS_JOB_RX (k : Nat) : fieldName (ENG_STATUS.JOB_RX k).key = 0x40800A :=
  fieldName_of _ 0x20400 10 _ (nameOf_ENG_STATUS k) rfl (by decide) (by decide)
@[simp] theorem fieldName_ENG_STATUS_JOB_KIND (k : Nat) : fieldName (ENG_STATUS.JOB_KIND k).key = 0x408008 :=
  fieldName_of _ 0x20400 8 _ (nameOf_ENG_STATUS k) rfl (by decide) (by decide)
@[simp] theorem fieldName_ENG_STATUS_JOB_SLICE (k : Nat) : fieldName (ENG_STATUS.JOB_SLICE k).key = 0x408000 :=
  fieldName_of _ 0x20400 0 _ (nameOf_ENG_STATUS k) rfl (by decide) (by decide)
@[simp] theorem fieldName_ENG_PERMIT_DATA_ON_DATA (s : Nat) : fieldName (ENG_PERMIT.DATA_ON_DATA s).key = 0x410003 :=
  fieldName_of _ 0x20800 3 _ (nameOf_ENG_PERMIT s) rfl (by decide) (by decide)
@[simp] theorem fieldName_ENG_PERMIT_MARGIN_DATA (s : Nat) : fieldName (ENG_PERMIT.MARGIN_DATA s).key = 0x410002 :=
  fieldName_of _ 0x20800 2 _ (nameOf_ENG_PERMIT s) rfl (by decide) (by decide)
@[simp] theorem fieldName_ENG_PERMIT_MARGIN_SAMPLER (s : Nat) : fieldName (ENG_PERMIT.MARGIN_SAMPLER s).key = 0x410001 :=
  fieldName_of _ 0x20800 1 _ (nameOf_ENG_PERMIT s) rfl (by decide) (by decide)
@[simp] theorem fieldName_ENG_PERMIT_EYE_SCAN (s : Nat) : fieldName (ENG_PERMIT.EYE_SCAN s).key = 0x410000 :=
  fieldName_of _ 0x20800 0 _ (nameOf_ENG_PERMIT s) rfl (by decide) (by decide)
@[simp] theorem fieldName_ENG_CNT_STEPS (k : Nat) : fieldName (ENG_CNT.STEPS k).key = 0x40C010 :=
  fieldName_of _ 0x20600 16 _ (nameOf_ENG_CNT k) rfl (by decide) (by decide)
@[simp] theorem fieldName_ENG_CNT_DISPLACED (k : Nat) : fieldName (ENG_CNT.DISPLACED k).key = 0x40C008 :=
  fieldName_of _ 0x20600 8 _ (nameOf_ENG_CNT k) rfl (by decide) (by decide)
@[simp] theorem fieldName_ENG_CNT_EXPIRED (k : Nat) : fieldName (ENG_CNT.EXPIRED k).key = 0x40C000 :=
  fieldName_of _ 0x20600 0 _ (nameOf_ENG_CNT k) rfl (by decide) (by decide)
@[simp] theorem fieldName_IMG_STATUS_BOOT_SLOT : fieldName (IMG_STATUS.BOOT_SLOT).key = 0x2001E :=
  fieldName_of _ 0x1000 30 _ (by decide) rfl (by decide) (by decide)
@[simp] theorem fieldName_IMG_STATUS_ENG_FW_SLOT : fieldName (IMG_STATUS.ENG_FW_SLOT).key = 0x2001C :=
  fieldName_of _ 0x1000 28 _ (by decide) rfl (by decide) (by decide)
@[simp] theorem fieldName_IMG_STATUS_RECOVERY : fieldName (IMG_STATUS.RECOVERY).key = 0x2001B :=
  fieldName_of _ 0x1000 27 _ (by decide) rfl (by decide) (by decide)
@[simp] theorem fieldName_IMG_STATUS_CONFIRMED : fieldName (IMG_STATUS.CONFIRMED).key = 0x2001A :=
  fieldName_of _ 0x1000 26 _ (by decide) rfl (by decide) (by decide)
@[simp] theorem fieldName_IMG_STATUS_STRUCT_REFUSED : fieldName (IMG_STATUS.STRUCT_REFUSED).key = 0x20019 :=
  fieldName_of _ 0x1000 25 _ (by decide) rfl (by decide) (by decide)
@[simp] theorem fieldName_IMG_STATUS_STRUCT_REASON : fieldName (IMG_STATUS.STRUCT_REASON).key = 0x20014 :=
  fieldName_of _ 0x1000 20 _ (by decide) rfl (by decide) (by decide)
@[simp] theorem fieldName_IMG_STATUS_ARB_FUSE : fieldName (IMG_STATUS.ARB_FUSE).key = 0x2000F :=
  fieldName_of _ 0x1000 15 _ (by decide) rfl (by decide) (by decide)
@[simp] theorem fieldName_IMG_STATUS_ARB_IMAGE : fieldName (IMG_STATUS.ARB_IMAGE).key = 0x2000A :=
  fieldName_of _ 0x1000 10 _ (by decide) rfl (by decide) (by decide)
@[simp] theorem fieldName_IMG_STATUS_CMD_RESULT : fieldName (IMG_STATUS.CMD_RESULT).key = 0x20007 :=
  fieldName_of _ 0x1000 7 _ (by decide) rfl (by decide) (by decide)
@[simp] theorem fieldName_IMG_STATUS_CMD_BUSY : fieldName (IMG_STATUS.CMD_BUSY).key = 0x20006 :=
  fieldName_of _ 0x1000 6 _ (by decide) rfl (by decide) (by decide)
@[simp] theorem fieldName_IMG_CMD_GO : fieldName (IMG_CMD.GO).key = 0x2009F :=
  fieldName_of _ 0x1004 31 _ (by decide) rfl (by decide) (by decide)
@[simp] theorem fieldName_IMG_CMD_ACTION : fieldName (IMG_CMD.ACTION).key = 0x2009C :=
  fieldName_of _ 0x1004 28 _ (by decide) rfl (by decide) (by decide)
@[simp] theorem fieldName_IMG_CMD_KEY : fieldName (IMG_CMD.KEY).key = 0x2009A :=
  fieldName_of _ 0x1004 26 _ (by decide) rfl (by decide) (by decide)
@[simp] theorem fieldName_IMG_CMD_LEN : fieldName (IMG_CMD.LEN).key = 0x20080 :=
  fieldName_of _ 0x1004 0 _ (by decide) rfl (by decide) (by decide)
@[simp] theorem fieldName_TXN_SCOPE_G_TRACE : fieldName (TXN_SCOPE_G.TRACE).key = 0x40105 :=
  fieldName_of _ 0x2008 5 _ (by decide) rfl (by decide) (by decide)
@[simp] theorem fieldName_TXN_SCOPE_G_DOMAIN : fieldName (TXN_SCOPE_G.DOMAIN).key = 0x40104 :=
  fieldName_of _ 0x2008 4 _ (by decide) rfl (by decide) (by decide)
@[simp] theorem fieldName_TXN_SCOPE_G_POWER_POLICY : fieldName (TXN_SCOPE_G.POWER_POLICY).key = 0x40103 :=
  fieldName_of _ 0x2008 3 _ (by decide) rfl (by decide) (by decide)
@[simp] theorem fieldName_TXN_SCOPE_G_SLICE_DEFAULTS : fieldName (TXN_SCOPE_G.SLICE_DEFAULTS).key = 0x40102 :=
  fieldName_of _ 0x2008 2 _ (by decide) rfl (by decide) (by decide)
@[simp] theorem fieldName_TXN_SCOPE_G_LANE_POLICY : fieldName (TXN_SCOPE_G.LANE_POLICY).key = 0x40101 :=
  fieldName_of _ 0x2008 1 _ (by decide) rfl (by decide) (by decide)
@[simp] theorem fieldName_TXN_SCOPE_G_CHANNEL_TABLE : fieldName (TXN_SCOPE_G.CHANNEL_TABLE).key = 0x40100 :=
  fieldName_of _ 0x2008 0 _ (by decide) rfl (by decide) (by decide)
@[simp] theorem fieldName_TXN_SCOPE_P_PORTS (k : Nat) : fieldName (TXN_SCOPE_P.PORTS k).key = 0x40180 :=
  fieldName_of _ 0x200C 0 _ (nameOf_TXN_SCOPE_P k) rfl (by decide) (by decide)
@[simp] theorem fieldName_TXN_TIME_TIME (k : Nat) : fieldName (TXN_TIME.TIME k).key = 0x40280 :=
  fieldName_of _ 0x2014 0 _ (nameOf_TXN_TIME k) rfl (by decide) (by decide)
@[simp] theorem fieldName_TXN_CMD_GO : fieldName (TXN_CMD.GO).key = 0x4001F :=
  fieldName_of _ 0x2000 31 _ (by decide) rfl (by decide) (by decide)
@[simp] theorem fieldName_TXN_CMD_ACTION : fieldName (TXN_CMD.ACTION).key = 0x4001D :=
  fieldName_of _ 0x2000 29 _ (by decide) rfl (by decide) (by decide)
@[simp] theorem fieldName_TXN_STATUS_STATE : fieldName (TXN_STATUS.STATE).key = 0x4009C :=
  fieldName_of _ 0x2004 28 _ (by decide) rfl (by decide) (by decide)
@[simp] theorem fieldName_TXN_STATUS_LAST_RESULT : fieldName (TXN_STATUS.LAST_RESULT).key = 0x40099 :=
  fieldName_of _ 0x2004 25 _ (by decide) rfl (by decide) (by decide)
@[simp] theorem fieldName_TXN_STATUS_STRAY : fieldName (TXN_STATUS.STRAY).key = 0x40098 :=
  fieldName_of _ 0x2004 24 _ (by decide) rfl (by decide) (by decide)
@[simp] theorem fieldName_TXN_STATUS_ID : fieldName (TXN_STATUS.ID).key = 0x40090 :=
  fieldName_of _ 0x2004 16 _ (by decide) rfl (by decide) (by decide)
@[simp] theorem fieldName_TXN_STATUS_FAIL_INDEX : fieldName (TXN_STATUS.FAIL_INDEX).key = 0x40088 :=
  fieldName_of _ 0x2004 8 _ (by decide) rfl (by decide) (by decide)
@[simp] theorem fieldName_TXN_STATUS_REASON : fieldName (TXN_STATUS.REASON).key = 0x40080 :=
  fieldName_of _ 0x2004 0 _ (by decide) rfl (by decide) (by decide)
@[simp] theorem fieldName_IMG_SRC_ADDR (k : Nat) : fieldName (IMG_SRC.ADDR k).key = 0x20100 :=
  fieldName_of _ 0x1008 0 _ (nameOf_IMG_SRC k) rfl (by decide) (by decide)
@[simp] theorem fieldName_IMG_KEYS_FW_KEY : fieldName (IMG_KEYS.FW_KEY).key = 0x20208 :=
  fieldName_of _ 0x1010 8 _ (by decide) rfl (by decide) (by decide)
@[simp] theorem fieldName_IMG_KEYS_SLOT (t : Nat) : fieldName (IMG_KEYS.SLOT t).key = 0x20200 :=
  fieldName_of _ 0x1010 (2 * (t % 4)) _ (show nameOf IMG_KEYS.off = _ by decide) rfl (by omega) (by
    rw [if_neg (by decide), if_pos (Or.inr ⟨by decide, by omega⟩)]; omega)
@[simp] theorem fieldName_IMG_BCT_INDEX_INDEX : fieldName (IMG_BCT_INDEX.INDEX).key = 0x20280 :=
  fieldName_of _ 0x1014 0 _ (by decide) rfl (by decide) (by decide)
@[simp] theorem fieldName_IMG_BCT_ENTRY (k : Nat) : fieldName (IMG_BCT.ENTRY k).key = 0x20300 :=
  fieldName_of _ 0x1018 0 _ (nameOf_IMG_BCT k) rfl (by decide) (by decide)
@[simp] theorem fieldName_GLB_ALIVE_MARK : fieldName (GLB_ALIVE.MARK).key = 0x98 :=
  fieldName_of _ 0x4 24 _ (by decide) rfl (by decide) (by decide)
@[simp] theorem fieldName_GLB_ALIVE_MGMT_RESETS : fieldName (GLB_ALIVE.MGMT_RESETS).key = 0x90 :=
  fieldName_of _ 0x4 16 _ (by decide) rfl (by decide) (by decide)
@[simp] theorem fieldName_GLB_ALIVE_BEAT : fieldName (GLB_ALIVE.BEAT).key = 0x80 :=
  fieldName_of _ 0x4 0 _ (by decide) rfl (by decide) (by decide)
@[simp] theorem fieldName_GLB_MGMT_CTRL_WAKE_ON_EVENT : fieldName (GLB_MGMT_CTRL.WAKE_ON_EVENT).key = 0x203 :=
  fieldName_of _ 0x10 3 _ (by decide) rfl (by decide) (by decide)
@[simp] theorem fieldName_GLB_MGMT_CTRL_WAKE_CLASS : fieldName (GLB_MGMT_CTRL.WAKE_CLASS).key = 0x201 :=
  fieldName_of _ 0x10 1 _ (by decide) rfl (by decide) (by decide)
@[simp] theorem fieldName_GLB_MGMT_STATUS_LINK_UP : fieldName (GLB_MGMT_STATUS.LINK_UP).key = 0x29F :=
  fieldName_of _ 0x14 31 _ (by decide) rfl (by decide) (by decide)
@[simp] theorem fieldName_GLB_MGMT_STATUS_LINK_RATE : fieldName (GLB_MGMT_STATUS.LINK_RATE).key = 0x29C :=
  fieldName_of _ 0x14 28 _ (by decide) rfl (by decide) (by decide)
@[simp] theorem fieldName_GLB_MGMT_STATUS_LINK_WIDTH : fieldName (GLB_MGMT_STATUS.LINK_WIDTH).key = 0x29A :=
  fieldName_of _ 0x14 26 _ (by decide) rfl (by decide) (by decide)
@[simp] theorem fieldName_GLB_MGMT_STATUS_FLIT : fieldName (GLB_MGMT_STATUS.FLIT).key = 0x299 :=
  fieldName_of _ 0x14 25 _ (by decide) rfl (by decide) (by decide)
@[simp] theorem fieldName_GLB_MGMT_STATUS_DMA_HELD : fieldName (GLB_MGMT_STATUS.DMA_HELD).key = 0x298 :=
  fieldName_of _ 0x14 24 _ (by decide) rfl (by decide) (by decide)
@[simp] theorem fieldName_GLB_MGMT_STATUS_BAD_ACCESS : fieldName (GLB_MGMT_STATUS.BAD_ACCESS).key = 0x297 :=
  fieldName_of _ 0x14 23 _ (by decide) rfl (by decide) (by decide)
@[simp] theorem fieldName_GLB_MGMT_STATUS_LATE_CPL : fieldName (GLB_MGMT_STATUS.LATE_CPL).key = 0x296 :=
  fieldName_of _ 0x14 22 _ (by decide) rfl (by decide) (by decide)
@[simp] theorem fieldName_GLB_MGMT_STATUS_STAGING_FULL : fieldName (GLB_MGMT_STATUS.STAGING_FULL).key = 0x295 :=
  fieldName_of _ 0x14 21 _ (by decide) rfl (by decide) (by decide)
@[simp] theorem fieldName_GLB_MGMT_STATUS_STAGED : fieldName (GLB_MGMT_STATUS.STAGED).key = 0x280 :=
  fieldName_of _ 0x14 0 _ (by decide) rfl (by decide) (by decide)
@[simp] theorem fieldName_GLB_MGMT_CNT_LATE_CPL_CNT : fieldName (GLB_MGMT_CNT.LATE_CPL_CNT).key = 0x310 :=
  fieldName_of _ 0x18 16 _ (by decide) rfl (by decide) (by decide)
@[simp] theorem fieldName_GLB_MGMT_CNT_TIMEOUTS : fieldName (GLB_MGMT_CNT.TIMEOUTS).key = 0x308 :=
  fieldName_of _ 0x18 8 _ (by decide) rfl (by decide) (by decide)
@[simp] theorem fieldName_GLB_MGMT_CNT_STAGE_DROPS : fieldName (GLB_MGMT_CNT.STAGE_DROPS).key = 0x300 :=
  fieldName_of _ 0x18 0 _ (by decide) rfl (by decide) (by decide)
@[simp] theorem fieldName_SLC_CTRL_GO (s : Nat) : fieldName (SLC_CTRL.GO s).key = 0x60001F :=
  fieldName_of _ 0x30000 31 _ (nameOf_SLC_CTRL s) rfl (by decide) (by decide)
@[simp] theorem fieldName_SLC_CTRL_ACTION (s : Nat) : fieldName (SLC_CTRL.ACTION s).key = 0x60001C :=
  fieldName_of _ 0x30000 28 _ (nameOf_SLC_CTRL s) rfl (by decide) (by decide)
@[simp] theorem fieldName_SLC_CTRL_PASID (s : Nat) : fieldName (SLC_CTRL.PASID s).key = 0x600000 :=
  fieldName_of _ 0x30000 0 _ (nameOf_SLC_CTRL s) rfl (by decide) (by decide)
@[simp] theorem fieldName_SLC_STATUS_STATE (s : Nat) : fieldName (SLC_STATUS.STATE s).key = 0x60009C :=
  fieldName_of _ 0x30004 28 _ (nameOf_SLC_STATUS s) rfl (by decide) (by decide)
@[simp] theorem fieldName_SLC_STATUS_RESULT (s : Nat) : fieldName (SLC_STATUS.RESULT s).key = 0x600098 :=
  fieldName_of _ 0x30004 24 _ (nameOf_SLC_STATUS s) rfl (by decide) (by decide)
@[simp] theorem fieldName_SLC_STATUS_GENERATION (s : Nat) : fieldName (SLC_STATUS.GENERATION s).key = 0x600090 :=
  fieldName_of _ 0x30004 16 _ (nameOf_SLC_STATUS s) rfl (by decide) (by decide)
@[simp] theorem fieldName_SLC_STATUS_RESET_DONE (s : Nat) : fieldName (SLC_STATUS.RESET_DONE s).key = 0x60008F :=
  fieldName_of _ 0x30004 15 _ (nameOf_SLC_STATUS s) rfl (by decide) (by decide)
@[simp] theorem fieldName_SLC_STATUS_DESTROY_PENDING (s : Nat) : fieldName (SLC_STATUS.DESTROY_PENDING s).key = 0x60008E :=
  fieldName_of _ 0x30004 14 _ (nameOf_SLC_STATUS s) rfl (by decide) (by decide)
@[simp] theorem fieldName_SLC_STATUS_STAGED (s : Nat) : fieldName (SLC_STATUS.STAGED s).key = 0x600080 :=
  fieldName_of _ 0x30004 0 _ (nameOf_SLC_STATUS s) rfl (by decide) (by decide)
@[simp] theorem fieldName_SLC_RINGS_BASE (s : Nat) : fieldName (SLC_RINGS.BASE s).key = 0x600110 :=
  fieldName_of _ 0x30008 16 _ (nameOf_SLC_RINGS s) rfl (by decide) (by decide)
@[simp] theorem fieldName_SLC_RINGS_COUNT (s : Nat) : fieldName (SLC_RINGS.COUNT s).key = 0x600100 :=
  fieldName_of _ 0x30008 0 _ (nameOf_SLC_RINGS s) rfl (by decide) (by decide)
@[simp] theorem fieldName_SLC_VECTORS_BASE (s : Nat) : fieldName (SLC_VECTORS.BASE s).key = 0x600190 :=
  fieldName_of _ 0x3000C 16 _ (nameOf_SLC_VECTORS s) rfl (by decide) (by decide)
@[simp] theorem fieldName_SLC_VECTORS_COUNT (s : Nat) : fieldName (SLC_VECTORS.COUNT s).key = 0x600180 :=
  fieldName_of _ 0x3000C 0 _ (nameOf_SLC_VECTORS s) rfl (by decide) (by decide)
@[simp] theorem fieldName_SLC_SHARE_TOKENS (s : Nat) : fieldName (SLC_SHARE.TOKENS s).key = 0x600212 :=
  fieldName_of _ 0x30010 18 _ (nameOf_SLC_SHARE s) rfl (by decide) (by decide)
@[simp] theorem fieldName_SLC_SHARE_GRANULES (s : Nat) : fieldName (SLC_SHARE.GRANULES s).key = 0x600200 :=
  fieldName_of _ 0x30010 0 _ (nameOf_SLC_SHARE s) rfl (by decide) (by decide)
@[simp] theorem fieldName_SLC_PORTS_PORTS (s k : Nat) : fieldName (SLC_PORTS.PORTS s k).key = 0x600280 :=
  fieldName_of _ 0x30014 0 _ (nameOf_SLC_PORTS s k) rfl (by decide) (by decide)
@[simp] theorem fieldName_SLC_DEF_S0_RINGS : fieldName (SLC_DEF_S0.RINGS).key = 0x700016 :=
  fieldName_of _ 0x38000 22 _ (by decide) rfl (by decide) (by decide)
@[simp] theorem fieldName_SLC_DEF_S0_VECTORS : fieldName (SLC_DEF_S0.VECTORS).key = 0x70000E :=
  fieldName_of _ 0x38000 14 _ (by decide) rfl (by decide) (by decide)
@[simp] theorem fieldName_SLC_DEF_S0_TOKENS : fieldName (SLC_DEF_S0.TOKENS).key = 0x700007 :=
  fieldName_of _ 0x38000 7 _ (by decide) rfl (by decide) (by decide)
@[simp] theorem fieldName_SLC_DEF_S0_GRANULES : fieldName (SLC_DEF_S0.GRANULES).key = 0x700000 :=
  fieldName_of _ 0x38000 0 _ (by decide) rfl (by decide) (by decide)
@[simp] theorem fieldName_RNG_INFO_VALID (i : Nat) : fieldName (RNG_INFO.VALID i).key = 0x80001F :=
  fieldName_of _ 0x40000 31 _ (nameOf_RNG_INFO i) rfl (by decide) (by decide)
@[simp] theorem fieldName_RNG_INFO_STATE (i : Nat) : fieldName (RNG_INFO.STATE i).key = 0x800018 :=
  fieldName_of _ 0x40000 24 _ (nameOf_RNG_INFO i) rfl (by decide) (by decide)
@[simp] theorem fieldName_RNG_INFO_OWNER (i : Nat) : fieldName (RNG_INFO.OWNER i).key = 0x800010 :=
  fieldName_of _ 0x40000 16 _ (nameOf_RNG_INFO i) rfl (by decide) (by decide)
@[simp] theorem fieldName_RNG_INFO_KIND (i : Nat) : fieldName (RNG_INFO.KIND i).key = 0x80000F :=
  fieldName_of _ 0x40000 15 _ (nameOf_RNG_INFO i) rfl (by decide) (by decide)
@[simp] theorem fieldName_RNG_INFO_LOCAL (i : Nat) : fieldName (RNG_INFO.LOCAL i).key = 0x800000 :=
  fieldName_of _ 0x40000 0 _ (nameOf_RNG_INFO i) rfl (by decide) (by decide)
@[simp] theorem fieldName_SLC_SELF_INFO_SLICE (s : Nat) : fieldName (SLC_SELF_INFO.SLICE s).key = 0x20000018 :=
  fieldName_of _ 0x1000000 24 _ (nameOf_SLC_SELF_INFO s) rfl (by decide) (by decide)
@[simp] theorem fieldName_SLC_SELF_INFO_GENERATION (s : Nat) : fieldName (SLC_SELF_INFO.GENERATION s).key = 0x20000010 :=
  fieldName_of _ 0x1000000 16 _ (nameOf_SLC_SELF_INFO s) rfl (by decide) (by decide)
@[simp] theorem fieldName_SLC_SELF_INFO_STATE (s : Nat) : fieldName (SLC_SELF_INFO.STATE s).key = 0x2000000C :=
  fieldName_of _ 0x1000000 12 _ (nameOf_SLC_SELF_INFO s) rfl (by decide) (by decide)
@[simp] theorem fieldName_SLC_SELF_INFO_HELD (s : Nat) : fieldName (SLC_SELF_INFO.HELD s).key = 0x2000000B :=
  fieldName_of _ 0x1000000 11 _ (nameOf_SLC_SELF_INFO s) rfl (by decide) (by decide)
@[simp] theorem fieldName_SLC_SELF_CTRL_RESET (s : Nat) : fieldName (SLC_SELF_CTRL.RESET s).key = 0x2000009F :=
  fieldName_of _ 0x1000004 31 _ (nameOf_SLC_SELF_CTRL s) rfl (by decide) (by decide)
@[simp] theorem fieldName_SLC_SELF_CTRL_NOTICE_RING (s : Nat) : fieldName (SLC_SELF_CTRL.NOTICE_RING s).key = 0x20000090 :=
  fieldName_of _ 0x1000004 16 _ (nameOf_SLC_SELF_CTRL s) rfl (by decide) (by decide)
@[simp] theorem fieldName_SLC_SELF_CTRL_CLASS_MASK (s : Nat) : fieldName (SLC_SELF_CTRL.CLASS_MASK s).key = 0x20000080 :=
  fieldName_of _ 0x1000004 0 _ (nameOf_SLC_SELF_CTRL s) rfl (by decide) (by decide)
@[simp] theorem fieldName_SLC_SELF_STATUS_RESET_DONE (s : Nat) : fieldName (SLC_SELF_STATUS.RESET_DONE s).key = 0x2000011F :=
  fieldName_of _ 0x1000008 31 _ (nameOf_SLC_SELF_STATUS s) rfl (by decide) (by decide)
@[simp] theorem fieldName_SLC_SELF_STATUS_DISCARDED (s : Nat) : fieldName (SLC_SELF_STATUS.DISCARDED s).key = 0x20000108 :=
  fieldName_of _ 0x1000008 8 _ (nameOf_SLC_SELF_STATUS s) rfl (by decide) (by decide)
@[simp] theorem fieldName_SLC_SELF_STATUS_DROPPED (s : Nat) : fieldName (SLC_SELF_STATUS.DROPPED s).key = 0x20000100 :=
  fieldName_of _ 0x1000008 0 _ (nameOf_SLC_SELF_STATUS s) rfl (by decide) (by decide)
@[simp] theorem fieldName_RNG_BASE_ADDR (s i k : Nat) : fieldName (RNG_BASE.ADDR s i k).key = 0x20020000 :=
  fieldName_of _ 0x1001000 0 _ (nameOf_RNG_BASE s i k) rfl (by decide) (by decide)
@[simp] theorem fieldName_RNG_CTRL_ENABLE (s i : Nat) : fieldName (RNG_CTRL.ENABLE s i).key = 0x2002011F :=
  fieldName_of _ 0x1001008 31 _ (nameOf_RNG_CTRL s i) rfl (by decide) (by decide)
@[simp] theorem fieldName_RNG_CTRL_RESUME (s i : Nat) : fieldName (RNG_CTRL.RESUME s i).key = 0x2002011E :=
  fieldName_of _ 0x1001008 30 _ (nameOf_RNG_CTRL s i) rfl (by decide) (by decide)
@[simp] theorem fieldName_RNG_CTRL_KIND (s i : Nat) : fieldName (RNG_CTRL.KIND s i).key = 0x2002011D :=
  fieldName_of _ 0x1001008 29 _ (nameOf_RNG_CTRL s i) rfl (by decide) (by decide)
@[simp] theorem fieldName_RNG_CTRL_INT_EN (s i : Nat) : fieldName (RNG_CTRL.INT_EN s i).key = 0x2002011C :=
  fieldName_of _ 0x1001008 28 _ (nameOf_RNG_CTRL s i) rfl (by decide) (by decide)
@[simp] theorem fieldName_RNG_CTRL_SIZE_LOG2 (s i : Nat) : fieldName (RNG_CTRL.SIZE_LOG2 s i).key = 0x20020114 :=
  fieldName_of _ 0x1001008 20 _ (nameOf_RNG_CTRL s i) rfl (by decide) (by decide)
@[simp] theorem fieldName_RNG_CTRL_VECTOR (s i : Nat) : fieldName (RNG_CTRL.VECTOR s i).key = 0x20020100 :=
  fieldName_of _ 0x1001008 0 _ (nameOf_RNG_CTRL s i) rfl (by decide) (by decide)
@[simp] theorem fieldName_RNG_DOORBELL_INDEX (s i : Nat) : fieldName (RNG_DOORBELL.INDEX s i).key = 0x20020180 :=
  fieldName_of _ 0x100100C 0 _ (nameOf_RNG_DOORBELL s i) rfl (by decide) (by decide)
@[simp] theorem fieldName_RNG_POS_HEAD (s i : Nat) : fieldName (RNG_POS.HEAD s i).key = 0x20020210 :=
  fieldName_of _ 0x1001010 16 _ (nameOf_RNG_POS s i) rfl (by decide) (by decide)
@[simp] theorem fieldName_RNG_POS_TAIL (s i : Nat) : fieldName (RNG_POS.TAIL s i).key = 0x20020200 :=
  fieldName_of _ 0x1001010 0 _ (nameOf_RNG_POS s i) rfl (by decide) (by decide)
@[simp] theorem fieldName_RNG_STATUS_STATE (s i : Nat) : fieldName (RNG_STATUS.STATE s i).key = 0x2002029C :=
  fieldName_of _ 0x1001014 28 _ (nameOf_RNG_STATUS s i) rfl (by decide) (by decide)
@[simp] theorem fieldName_RNG_STATUS_PHASE (s i : Nat) : fieldName (RNG_STATUS.PHASE s i).key = 0x2002029B :=
  fieldName_of _ 0x1001014 27 _ (nameOf_RNG_STATUS s i) rfl (by decide) (by decide)
@[simp] theorem fieldName_RNG_STATUS_ERRORS (s i : Nat) : fieldName (RNG_STATUS.ERRORS s i).key = 0x20020280 :=
  fieldName_of _ 0x1001014 0 _ (nameOf_RNG_STATUS s i) rfl (by decide) (by decide)
@[simp] theorem fieldName_GLB_FABRIC_ID_FABRIC_ID : fieldName (GLB_FABRIC_ID.FABRIC_ID).key = 0x180 :=
  fieldName_of _ 0xC 0 _ (by decide) rfl (by decide) (by decide)
@[simp] theorem fieldName_TIM_CTRL_ROLE : fieldName (TIM_CTRL.ROLE).key = 0xC019E :=
  fieldName_of _ 0x600C 30 _ (by decide) rfl (by decide) (by decide)
@[simp] theorem fieldName_TIM_CTRL_TPULSE_MODE : fieldName (TIM_CTRL.TPULSE_MODE).key = 0xC019C :=
  fieldName_of _ 0x600C 28 _ (by decide) rfl (by decide) (by decide)
@[simp] theorem fieldName_TIM_CTRL_TIME_FRAMES_OFF : fieldName (TIM_CTRL.TIME_FRAMES_OFF).key = 0xC019B :=
  fieldName_of _ 0x600C 27 _ (by decide) rfl (by decide) (by decide)
@[simp] theorem fieldName_TIM_STATUS_QUALITY : fieldName (TIM_STATUS.QUALITY).key = 0xC021E :=
  fieldName_of _ 0x6010 30 _ (by decide) rfl (by decide) (by decide)
@[simp] theorem fieldName_TIM_STATUS_LOCKED : fieldName (TIM_STATUS.LOCKED).key = 0xC021D :=
  fieldName_of _ 0x6010 29 _ (by decide) rfl (by decide) (by decide)
@[simp] theorem fieldName_TIM_STATUS_HOLDOVER : fieldName (TIM_STATUS.HOLDOVER).key = 0xC021C :=
  fieldName_of _ 0x6010 28 _ (by decide) rfl (by decide) (by decide)
@[simp] theorem fieldName_TIM_STATUS_SLEWING : fieldName (TIM_STATUS.SLEWING).key = 0xC021B :=
  fieldName_of _ 0x6010 27 _ (by decide) rfl (by decide) (by decide)
@[simp] theorem fieldName_TIM_STATUS_CONFLICT : fieldName (TIM_STATUS.CONFLICT).key = 0xC021A :=
  fieldName_of _ 0x6010 26 _ (by decide) rfl (by decide) (by decide)
@[simp] theorem fieldName_TIM_STATUS_STEPPED : fieldName (TIM_STATUS.STEPPED).key = 0xC0219 :=
  fieldName_of _ 0x6010 25 _ (by decide) rfl (by decide) (by decide)
@[simp] theorem fieldName_TIM_STATUS_STRATUM : fieldName (TIM_STATUS.STRATUM).key = 0xC0215 :=
  fieldName_of _ 0x6010 21 _ (by decide) rfl (by decide) (by decide)
@[simp] theorem fieldName_TIM_STATUS_PARENT_SIDE : fieldName (TIM_STATUS.PARENT_SIDE).key = 0xC0214 :=
  fieldName_of _ 0x6010 20 _ (by decide) rfl (by decide) (by decide)
@[simp] theorem fieldName_TIM_STATUS_PARENT_PORT : fieldName (TIM_STATUS.PARENT_PORT).key = 0xC020E :=
  fieldName_of _ 0x6010 14 _ (by decide) rfl (by decide) (by decide)
@[simp] theorem fieldName_TIM_STATUS_PARENT_PULSE : fieldName (TIM_STATUS.PARENT_PULSE).key = 0xC020D :=
  fieldName_of _ 0x6010 13 _ (by decide) rfl (by decide) (by decide)
@[simp] theorem fieldName_TIM_STATUS_MASTER_VALID : fieldName (TIM_STATUS.MASTER_VALID).key = 0xC020A :=
  fieldName_of _ 0x6010 10 _ (by decide) rfl (by decide) (by decide)
@[simp] theorem fieldName_TIM_STATUS_MASTER_ID : fieldName (TIM_STATUS.MASTER_ID).key = 0xC0200 :=
  fieldName_of _ 0x6010 0 _ (by decide) rfl (by decide) (by decide)
@[simp] theorem fieldName_TIM_UNCERT_BOUND : fieldName (TIM_UNCERT.BOUND).key = 0xC0280 :=
  fieldName_of _ 0x6014 0 _ (by decide) rfl (by decide) (by decide)
@[simp] theorem fieldName_TIM_OFFSET_THETA : fieldName (TIM_OFFSET.THETA).key = 0xC0300 :=
  fieldName_of _ 0x6018 0 _ (by decide) rfl (by decide) (by decide)
@[simp] theorem fieldName_TIM_RATE_PPB : fieldName (TIM_RATE.PPB).key = 0xC0380 :=
  fieldName_of _ 0x601C 0 _ (by decide) rfl (by decide) (by decide)
@[simp] theorem fieldName_TIM_PULSE_SET_AT_PULSE : fieldName (TIM_PULSE.SET_AT_PULSE).key = 0xC051F :=
  fieldName_of _ 0x6028 31 _ (by decide) rfl (by decide) (by decide)
@[simp] theorem fieldName_TIM_PULSE_PERIOD : fieldName (TIM_PULSE.PERIOD).key = 0xC051C :=
  fieldName_of _ 0x6028 28 _ (by decide) rfl (by decide) (by decide)
@[simp] theorem fieldName_TIM_PULSE_IN_STRATUM : fieldName (TIM_PULSE.IN_STRATUM).key = 0xC0518 :=
  fieldName_of _ 0x6028 24 _ (by decide) rfl (by decide) (by decide)
@[simp] theorem fieldName_TIM_PULSE_DELAY : fieldName (TIM_PULSE.DELAY).key = 0xC0500 :=
  fieldName_of _ 0x6028 0 _ (by decide) rfl (by decide) (by decide)
@[simp] theorem fieldName_TIM_ASYM_A_ASYM (p : Nat) : fieldName (TIM_ASYM.A_ASYM p).key = 0xC2010 :=
  fieldName_of _ 0x6100 16 _ (nameOf_TIM_ASYM p) rfl (by decide) (by decide)
@[simp] theorem fieldName_TIM_ASYM_B_ASYM (p : Nat) : fieldName (TIM_ASYM.B_ASYM p).key = 0xC2000 :=
  fieldName_of _ 0x6100 0 _ (nameOf_TIM_ASYM p) rfl (by decide) (by decide)
@[simp] theorem fieldName_TRC_TRIG_CTRL_FIRE : fieldName (TRC_TRIG_CTRL.FIRE).key = 0x100001F :=
  fieldName_of _ 0x80000 31 _ (by decide) rfl (by decide) (by decide)
@[simp] theorem fieldName_TRC_TRIG_CTRL_TRIG_OUT : fieldName (TRC_TRIG_CTRL.TRIG_OUT).key = 0x100001A :=
  fieldName_of _ 0x80000 26 _ (by decide) rfl (by decide) (by decide)
@[simp] theorem fieldName_TRC_TRIG_CTRL_SLICE_TRIG : fieldName (TRC_TRIG_CTRL.SLICE_TRIG).key = 0x1000019 :=
  fieldName_of _ 0x80000 25 _ (by decide) rfl (by decide) (by decide)
@[simp] theorem fieldName_TRC_TRIG_CTRL_SRC_EN : fieldName (TRC_TRIG_CTRL.SRC_EN).key = 0x1000000 :=
  fieldName_of _ 0x80000 0 _ (by decide) rfl (by decide) (by decide)
@[simp] theorem fieldName_TRC_SCHED_TIME (k : Nat) : fieldName (TRC_SCHED.TIME k).key = 0x1000080 :=
  fieldName_of _ 0x80004 0 _ (nameOf_TRC_SCHED k) rfl (by decide) (by decide)
@[simp] theorem fieldName_TRC_SCHED_CTRL_GO : fieldName (TRC_SCHED_CTRL.GO).key = 0x100019F :=
  fieldName_of _ 0x8000C 31 _ (by decide) rfl (by decide) (by decide)
@[simp] theorem fieldName_TRC_SCHED_CTRL_FLOOD : fieldName (TRC_SCHED_CTRL.FLOOD).key = 0x100019E :=
  fieldName_of _ 0x8000C 30 _ (by decide) rfl (by decide) (by decide)
@[simp] theorem fieldName_TRC_SCHED_CTRL_PENDING : fieldName (TRC_SCHED_CTRL.PENDING).key = 0x100019D :=
  fieldName_of _ 0x8000C 29 _ (by decide) rfl (by decide) (by decide)
@[simp] theorem fieldName_TRC_SCHED_CTRL_LATE : fieldName (TRC_SCHED_CTRL.LATE).key = 0x100019C :=
  fieldName_of _ 0x8000C 28 _ (by decide) rfl (by decide) (by decide)
@[simp] theorem fieldName_TRC_SCHED_CTRL_NUMBER : fieldName (TRC_SCHED_CTRL.NUMBER).key = 0x1000188 :=
  fieldName_of _ 0x8000C 8 _ (by decide) rfl (by decide) (by decide)
@[simp] theorem fieldName_TRC_SCHED_CTRL_LATE_CNT : fieldName (TRC_SCHED_CTRL.LATE_CNT).key = 0x1000180 :=
  fieldName_of _ 0x8000C 0 _ (by decide) rfl (by decide) (by decide)
@[simp] theorem fieldName_TRC_DROPS_COUNT (t : Nat) : fieldName (TRC_DROPS.COUNT t).key = 0x1000800 :=
  fieldName_of _ 0x80040 0 _ (nameOf_TRC_DROPS t) rfl (by decide) (by decide)
@[simp] theorem fieldName_TRC_WN_STATUS_AB_CLAIMED (p : Nat) : fieldName (TRC_WN_STATUS.AB_CLAIMED p).key = 0x102001F :=
  fieldName_of _ 0x81000 31 _ (nameOf_TRC_WN_STATUS p) rfl (by decide) (by decide)
@[simp] theorem fieldName_TRC_WN_STATUS_AB_OWNER (p : Nat) : fieldName (TRC_WN_STATUS.AB_OWNER p).key = 0x1020017 :=
  fieldName_of _ 0x81000 23 _ (nameOf_TRC_WN_STATUS p) rfl (by decide) (by decide)
@[simp] theorem fieldName_TRC_WN_STATUS_AB_UNITS (p : Nat) : fieldName (TRC_WN_STATUS.AB_UNITS p).key = 0x1020013 :=
  fieldName_of _ 0x81000 19 _ (nameOf_TRC_WN_STATUS p) rfl (by decide) (by decide)
@[simp] theorem fieldName_TRC_WN_STATUS_BA_CLAIMED (p : Nat) : fieldName (TRC_WN_STATUS.BA_CLAIMED p).key = 0x102000F :=
  fieldName_of _ 0x81000 15 _ (nameOf_TRC_WN_STATUS p) rfl (by decide) (by decide)
@[simp] theorem fieldName_TRC_WN_STATUS_BA_OWNER (p : Nat) : fieldName (TRC_WN_STATUS.BA_OWNER p).key = 0x1020007 :=
  fieldName_of _ 0x81000 7 _ (nameOf_TRC_WN_STATUS p) rfl (by decide) (by decide)
@[simp] theorem fieldName_TRC_WN_STATUS_BA_UNITS (p : Nat) : fieldName (TRC_WN_STATUS.BA_UNITS p).key = 0x1020003 :=
  fieldName_of _ 0x81000 3 _ (nameOf_TRC_WN_STATUS p) rfl (by decide) (by decide)
@[simp] theorem fieldName_SNP_CTRL_REARM : fieldName (SNP_CTRL.REARM).key = 0x1FE001F :=
  fieldName_of _ 0xFF000 31 _ (by decide) rfl (by decide) (by decide)
@[simp] theorem fieldName_SNP_CTRL_AUTO_REARM : fieldName (SNP_CTRL.AUTO_REARM).key = 0x1FE0000 :=
  fieldName_of _ 0xFF000 0 _ (by decide) rfl (by decide) (by decide)
@[simp] theorem fieldName_SNP_STATUS_STATE : fieldName (SNP_STATUS.STATE).key = 0x1FE009F :=
  fieldName_of _ 0xFF004 31 _ (by decide) rfl (by decide) (by decide)
@[simp] theorem fieldName_SNP_STATUS_SOURCES : fieldName (SNP_STATUS.SOURCES).key = 0x1FE009B :=
  fieldName_of _ 0xFF004 27 _ (by decide) rfl (by decide) (by decide)
@[simp] theorem fieldName_SNP_STATUS_LATCH_ID : fieldName (SNP_STATUS.LATCH_ID).key = 0x1FE0090 :=
  fieldName_of _ 0xFF004 16 _ (by decide) rfl (by decide) (by decide)
@[simp] theorem fieldName_SNP_STATUS_TILES_LATCHED : fieldName (SNP_STATUS.TILES_LATCHED).key = 0x1FE0088 :=
  fieldName_of _ 0xFF004 8 _ (by decide) rfl (by decide) (by decide)
@[simp] theorem fieldName_SNP_STATUS_MISSED : fieldName (SNP_STATUS.MISSED).key = 0x1FE0080 :=
  fieldName_of _ 0xFF004 0 _ (by decide) rfl (by decide) (by decide)
@[simp] theorem fieldName_SNP_TIME_TIME (k : Nat) : fieldName (SNP_TIME.TIME k).key = 0x1FE0100 :=
  fieldName_of _ 0xFF008 0 _ (nameOf_SNP_TIME k) rfl (by decide) (by decide)
@[simp] theorem fieldName_TRC_WIN_STATUS_STATE (s w : Nat) : fieldName (TRC_WIN_STATUS.STATE s w).key = 0x2012001C :=
  fieldName_of _ 0x1009000 28 _ (nameOf_TRC_WIN_STATUS s w) rfl (by decide) (by decide)
@[simp] theorem fieldName_TRC_WIN_STATUS_KIND (s w : Nat) : fieldName (TRC_WIN_STATUS.KIND s w).key = 0x2012001B :=
  fieldName_of _ 0x1009000 27 _ (nameOf_TRC_WIN_STATUS s w) rfl (by decide) (by decide)
@[simp] theorem fieldName_TRC_WIN_STATUS_MODE (s w : Nat) : fieldName (TRC_WIN_STATUS.MODE s w).key = 0x2012001A :=
  fieldName_of _ 0x1009000 26 _ (nameOf_TRC_WIN_STATUS s w) rfl (by decide) (by decide)
@[simp] theorem fieldName_TRC_WIN_STATUS_RESUME (s w : Nat) : fieldName (TRC_WIN_STATUS.RESUME s w).key = 0x20120019 :=
  fieldName_of _ 0x1009000 25 _ (nameOf_TRC_WIN_STATUS s w) rfl (by decide) (by decide)
@[simp] theorem fieldName_TRC_WIN_STATUS_GRANULES (s w : Nat) : fieldName (TRC_WIN_STATUS.GRANULES s w).key = 0x20120000 :=
  fieldName_of _ 0x1009000 0 _ (nameOf_TRC_WIN_STATUS s w) rfl (by decide) (by decide)
@[simp] theorem fieldName_TRC_WIN_POS_POS (s w : Nat) : fieldName (TRC_WIN_POS.POS s w).key = 0x20120080 :=
  fieldName_of _ 0x1009004 0 _ (nameOf_TRC_WIN_POS s w) rfl (by decide) (by decide)
@[simp] theorem fieldName_TRC_WIN_READ_READ (s w : Nat) : fieldName (TRC_WIN_READ.READ s w).key = 0x20120100 :=
  fieldName_of _ 0x1009008 0 _ (nameOf_TRC_WIN_READ s w) rfl (by decide) (by decide)
@[simp] theorem fieldName_TRC_WIN_DROPS_DROPS (s w : Nat) : fieldName (TRC_WIN_DROPS.DROPS s w).key = 0x20120180 :=
  fieldName_of _ 0x100900C 0 _ (nameOf_TRC_WIN_DROPS s w) rfl (by decide) (by decide)
@[simp] theorem fieldName_PWR_STATUS_STATE : fieldName (PWR_STATUS.STATE).key = 0x6001C :=
  fieldName_of _ 0x3000 28 _ (by decide) rfl (by decide) (by decide)
@[simp] theorem fieldName_PWR_STATUS_PL : fieldName (PWR_STATUS.PL).key = 0x6001A :=
  fieldName_of _ 0x3000 26 _ (by decide) rfl (by decide) (by decide)
@[simp] theorem fieldName_PWR_STATUS_PL_TARGET : fieldName (PWR_STATUS.PL_TARGET).key = 0x60018 :=
  fieldName_of _ 0x3000 24 _ (by decide) rfl (by decide) (by decide)
@[simp] theorem fieldName_PWR_STATUS_VID_CODE : fieldName (PWR_STATUS.VID_CODE).key = 0x60010 :=
  fieldName_of _ 0x3000 16 _ (by decide) rfl (by decide) (by decide)
@[simp] theorem fieldName_PWR_STATUS_VID_BUSY : fieldName (PWR_STATUS.VID_BUSY).key = 0x6000F :=
  fieldName_of _ 0x3000 15 _ (by decide) rfl (by decide) (by decide)
@[simp] theorem fieldName_PWR_STATUS_ACTIVE_PORTS : fieldName (PWR_STATUS.ACTIVE_PORTS).key = 0x60000 :=
  fieldName_of _ 0x3000 0 _ (by decide) rfl (by decide) (by decide)
@[simp] theorem fieldName_PWR_POLICY_DEEP_EN : fieldName (PWR_POLICY.DEEP_EN).key = 0x6009F :=
  fieldName_of _ 0x3004 31 _ (by decide) rfl (by decide) (by decide)
@[simp] theorem fieldName_PWR_POLICY_OFF_EN : fieldName (PWR_POLICY.OFF_EN).key = 0x6009E :=
  fieldName_of _ 0x3004 30 _ (by decide) rfl (by decide) (by decide)
@[simp] theorem fieldName_PWR_POLICY_PL_FLOOR : fieldName (PWR_POLICY.PL_FLOOR).key = 0x6009C :=
  fieldName_of _ 0x3004 28 _ (by decide) rfl (by decide) (by decide)
@[simp] theorem fieldName_PWR_POLICY_VID_WAIT : fieldName (PWR_POLICY.VID_WAIT).key = 0x60090 :=
  fieldName_of _ 0x3004 16 _ (by decide) rfl (by decide) (by decide)
@[simp] theorem fieldName_PWR_POLICY_DEEP_TMAX : fieldName (PWR_POLICY.DEEP_TMAX).key = 0x60088 :=
  fieldName_of _ 0x3004 8 _ (by decide) rfl (by decide) (by decide)
@[simp] theorem fieldName_PWR_TIMERS_TILE_IDLE : fieldName (PWR_TIMERS.TILE_IDLE).key = 0x60118 :=
  fieldName_of _ 0x3008 24 _ (by decide) rfl (by decide) (by decide)
@[simp] theorem fieldName_PWR_TIMERS_IDLE_TIMER : fieldName (PWR_TIMERS.IDLE_TIMER).key = 0x60114 :=
  fieldName_of _ 0x3008 20 _ (by decide) rfl (by decide) (by decide)
@[simp] theorem fieldName_PWR_TIMERS_SLEEP_TIMER : fieldName (PWR_TIMERS.SLEEP_TIMER).key = 0x6010C :=
  fieldName_of _ 0x3008 12 _ (by decide) rfl (by decide) (by decide)
@[simp] theorem fieldName_PWR_TIMERS_DEEP_TIMER : fieldName (PWR_TIMERS.DEEP_TIMER).key = 0x60108 :=
  fieldName_of _ 0x3008 8 _ (by decide) rfl (by decide) (by decide)
@[simp] theorem fieldName_PWR_TIMERS_OFF_TIMER : fieldName (PWR_TIMERS.OFF_TIMER).key = 0x60104 :=
  fieldName_of _ 0x3008 4 _ (by decide) rfl (by decide) (by decide)
@[simp] theorem fieldName_PWR_TIMERS_PARK_POLL : fieldName (PWR_TIMERS.PARK_POLL).key = 0x60100 :=
  fieldName_of _ 0x3008 0 _ (by decide) rfl (by decide) (by decide)
@[simp] theorem fieldName_PWR_PORT_ARM_PORTS (k : Nat) : fieldName (PWR_PORT_ARM.PORTS k).key = 0x60180 :=
  fieldName_of _ 0x300C 0 _ (nameOf_PWR_PORT_ARM k) rfl (by decide) (by decide)
@[simp] theorem fieldName_PWR_WAKE_SOURCE_FROM_STATE : fieldName (PWR_WAKE_SOURCE.FROM_STATE).key = 0x60290 :=
  fieldName_of _ 0x3014 16 _ (by decide) rfl (by decide) (by decide)
@[simp] theorem fieldName_PWR_WAKE_SOURCE_SIGDET_PORT : fieldName (PWR_WAKE_SOURCE.SIGDET_PORT).key = 0x60288 :=
  fieldName_of _ 0x3014 8 _ (by decide) rfl (by decide) (by decide)
@[simp] theorem fieldName_PWR_WAKE_SOURCE_INTERNAL : fieldName (PWR_WAKE_SOURCE.INTERNAL).key = 0x60285 :=
  fieldName_of _ 0x3014 5 _ (by decide) rfl (by decide) (by decide)
@[simp] theorem fieldName_PWR_WAKE_SOURCE_AON_TIMER : fieldName (PWR_WAKE_SOURCE.AON_TIMER).key = 0x60284 :=
  fieldName_of _ 0x3014 4 _ (by decide) rfl (by decide) (by decide)
@[simp] theorem fieldName_PWR_WAKE_SOURCE_SIGDET : fieldName (PWR_WAKE_SOURCE.SIGDET).key = 0x60283 :=
  fieldName_of _ 0x3014 3 _ (by decide) rfl (by decide) (by decide)
@[simp] theorem fieldName_PWR_WAKE_SOURCE_MGMT_LINK : fieldName (PWR_WAKE_SOURCE.MGMT_LINK).key = 0x60282 :=
  fieldName_of _ 0x3014 2 _ (by decide) rfl (by decide) (by decide)
@[simp] theorem fieldName_PWR_WAKE_SOURCE_WAKE_IN : fieldName (PWR_WAKE_SOURCE.WAKE_IN).key = 0x60281 :=
  fieldName_of _ 0x3014 1 _ (by decide) rfl (by decide) (by decide)
@[simp] theorem fieldName_PWR_WAKE_SOURCE_SB_MATCH : fieldName (PWR_WAKE_SOURCE.SB_MATCH).key = 0x60280 :=
  fieldName_of _ 0x3014 0 _ (by decide) rfl (by decide) (by decide)
@[simp] theorem fieldName_PWR_WAKE_STATUS_LOFT_FAIL : fieldName (PWR_WAKE_STATUS.LOFT_FAIL).key = 0x60318 :=
  fieldName_of _ 0x3018 24 _ (by decide) rfl (by decide) (by decide)
@[simp] theorem fieldName_PWR_WAKE_STATUS_ABANDONED : fieldName (PWR_WAKE_STATUS.ABANDONED).key = 0x6030E :=
  fieldName_of _ 0x3018 14 _ (by decide) rfl (by decide) (by decide)
@[simp] theorem fieldName_PWR_WAKE_STATUS_WAKE_US : fieldName (PWR_WAKE_STATUS.WAKE_US).key = 0x60300 :=
  fieldName_of _ 0x3018 0 _ (by decide) rfl (by decide) (by decide)
@[simp] theorem fieldName_PWR_AON_STATUS_BOR : fieldName (PWR_AON_STATUS.BOR).key = 0x6039F :=
  fieldName_of _ 0x301C 31 _ (by decide) rfl (by decide) (by decide)
@[simp] theorem fieldName_PWR_AON_STATUS_LOAD : fieldName (PWR_AON_STATUS.LOAD).key = 0x6039E :=
  fieldName_of _ 0x301C 30 _ (by decide) rfl (by decide) (by decide)
@[simp] theorem fieldName_PWR_AON_STATUS_SUPPLY : fieldName (PWR_AON_STATUS.SUPPLY).key = 0x6039D :=
  fieldName_of _ 0x301C 29 _ (by decide) rfl (by decide) (by decide)
@[simp] theorem fieldName_PWR_AON_REC_DATA (i : Nat) : fieldName (PWR_AON_REC.DATA i).key = 0x60800 :=
  fieldName_of _ 0x3040 0 _ (nameOf_PWR_AON_REC i) rfl (by decide) (by decide)
@[simp] theorem fieldName_CLK_STATUS_ROOT_LOCK : fieldName (CLK_STATUS.ROOT_LOCK).key = 0x8009F :=
  fieldName_of _ 0x4004 31 _ (by decide) rfl (by decide) (by decide)
@[simp] theorem fieldName_CLK_STATUS_REFCLK_OK : fieldName (CLK_STATUS.REFCLK_OK).key = 0x8009E :=
  fieldName_of _ 0x4004 30 _ (by decide) rfl (by decide) (by decide)
@[simp] theorem fieldName_CLK_STATUS_CORE_SRC : fieldName (CLK_STATUS.CORE_SRC).key = 0x8009D :=
  fieldName_of _ 0x4004 29 _ (by decide) rfl (by decide) (by decide)
@[simp] theorem fieldName_CLK_STATUS_MCLK_SRC : fieldName (CLK_STATUS.MCLK_SRC).key = 0x8009C :=
  fieldName_of _ 0x4004 28 _ (by decide) rfl (by decide) (by decide)
@[simp] theorem fieldName_CLK_STATUS_REFCLK_LOST : fieldName (CLK_STATUS.REFCLK_LOST).key = 0x8009B :=
  fieldName_of _ 0x4004 27 _ (by decide) rfl (by decide) (by decide)
@[simp] theorem fieldName_CLK_STATUS_LOSS_CNT : fieldName (CLK_STATUS.LOSS_CNT).key = 0x80090 :=
  fieldName_of _ 0x4004 16 _ (by decide) rfl (by decide) (by decide)
@[simp] theorem fieldName_CLK_AON_RATIO_RATIO : fieldName (CLK_AON_RATIO.RATIO).key = 0x80100 :=
  fieldName_of _ 0x4008 0 _ (by decide) rfl (by decide) (by decide)
@[simp] theorem fieldName_RST_STATUS_REASON : fieldName (RST_STATUS.REASON).key = 0xA001C :=
  fieldName_of _ 0x5000 28 _ (by decide) rfl (by decide) (by decide)
@[simp] theorem fieldName_RST_STATUS_THERMTRIP_SEEN : fieldName (RST_STATUS.THERMTRIP_SEEN).key = 0xA001B :=
  fieldName_of _ 0x5000 27 _ (by decide) rfl (by decide) (by decide)
@[simp] theorem fieldName_RST_STATUS_BOOT_DONE : fieldName (RST_STATUS.BOOT_DONE).key = 0xA001A :=
  fieldName_of _ 0x5000 26 _ (by decide) rfl (by decide) (by decide)
@[simp] theorem fieldName_RST_STATUS_PIN_CNT : fieldName (RST_STATUS.PIN_CNT).key = 0xA0008 :=
  fieldName_of _ 0x5000 8 _ (by decide) rfl (by decide) (by decide)
@[simp] theorem fieldName_RST_CMD_GO : fieldName (RST_CMD.GO).key = 0xA009F :=
  fieldName_of _ 0x5004 31 _ (by decide) rfl (by decide) (by decide)
@[simp] theorem fieldName_RST_CMD_ACTION : fieldName (RST_CMD.ACTION).key = 0xA009D :=
  fieldName_of _ 0x5004 29 _ (by decide) rfl (by decide) (by decide)
@[simp] theorem fieldName_RST_CMD_INDEX : fieldName (RST_CMD.INDEX).key = 0xA0090 :=
  fieldName_of _ 0x5004 16 _ (by decide) rfl (by decide) (by decide)
@[simp] theorem fieldName_RST_CMD_KEY : fieldName (RST_CMD.KEY).key = 0xA0088 :=
  fieldName_of _ 0x5004 8 _ (by decide) rfl (by decide) (by decide)
@[simp] theorem fieldName_RST_CNT_TILE_RESETS : fieldName (RST_CNT.TILE_RESETS).key = 0xA0118 :=
  fieldName_of _ 0x5008 24 _ (by decide) rfl (by decide) (by decide)
@[simp] theorem fieldName_RST_CNT_RESTRUCTURES : fieldName (RST_CNT.RESTRUCTURES).key = 0xA0110 :=
  fieldName_of _ 0x5008 16 _ (by decide) rfl (by decide) (by decide)
@[simp] theorem fieldName_RST_CNT_PORT_RESETS : fieldName (RST_CNT.PORT_RESETS).key = 0xA0100 :=
  fieldName_of _ 0x5008 0 _ (by decide) rfl (by decide) (by decide)
@[simp] theorem fieldName_ERR_DP_STATUS_CODES : fieldName (ERR_DP_STATUS.CODES).key = 0xE0001 :=
  fieldName_of _ 0x7000 1 _ (by decide) rfl (by decide) (by decide)
@[simp] theorem fieldName_ERR_DP_MASK_CODES : fieldName (ERR_DP_MASK.CODES).key = 0xE0081 :=
  fieldName_of _ 0x7004 1 _ (by decide) rfl (by decide) (by decide)
@[simp] theorem fieldName_ERR_DP_PORTS_PORTS (k : Nat) : fieldName (ERR_DP_PORTS.PORTS k).key = 0xE0100 :=
  fieldName_of _ 0x7008 0 _ (nameOf_ERR_DP_PORTS k) rfl (by decide) (by decide)
@[simp] theorem fieldName_ERR_DP_LOG0_VALID : fieldName (ERR_DP_LOG0.VALID).key = 0xE021F :=
  fieldName_of _ 0x7010 31 _ (by decide) rfl (by decide) (by decide)
@[simp] theorem fieldName_ERR_DP_LOG0_OVERFLOW : fieldName (ERR_DP_LOG0.OVERFLOW).key = 0xE021E :=
  fieldName_of _ 0x7010 30 _ (by decide) rfl (by decide) (by decide)
@[simp] theorem fieldName_ERR_DP_LOG0_CODE : fieldName (ERR_DP_LOG0.CODE).key = 0xE0210 :=
  fieldName_of _ 0x7010 16 _ (by decide) rfl (by decide) (by decide)
@[simp] theorem fieldName_ERR_DP_LOG0_PORT : fieldName (ERR_DP_LOG0.PORT).key = 0xE0208 :=
  fieldName_of _ 0x7010 8 _ (by decide) rfl (by decide) (by decide)
@[simp] theorem fieldName_ERR_DP_LOG0_DETAIL : fieldName (ERR_DP_LOG0.DETAIL).key = 0xE0200 :=
  fieldName_of _ 0x7010 0 _ (by decide) rfl (by decide) (by decide)
@[simp] theorem fieldName_ERR_DP_LOG_TIME_TIME (k : Nat) : fieldName (ERR_DP_LOG_TIME.TIME k).key = 0xE0280 :=
  fieldName_of _ 0x7014 0 _ (nameOf_ERR_DP_LOG_TIME k) rfl (by decide) (by decide)
@[simp] theorem fieldName_ERR_DP_CNT_CORRECTABLE : fieldName (ERR_DP_CNT.CORRECTABLE).key = 0xE0390 :=
  fieldName_of _ 0x701C 16 _ (by decide) rfl (by decide) (by decide)
@[simp] theorem fieldName_ERR_DP_CNT_NONFATAL : fieldName (ERR_DP_CNT.NONFATAL).key = 0xE0388 :=
  fieldName_of _ 0x701C 8 _ (by decide) rfl (by decide) (by decide)
@[simp] theorem fieldName_ERR_DP_CNT_FATAL : fieldName (ERR_DP_CNT.FATAL).key = 0xE0380 :=
  fieldName_of _ 0x701C 0 _ (by decide) rfl (by decide) (by decide)
@[simp] theorem fieldName_ERR_CTRL_AUTO_TILE_RESET : fieldName (ERR_CTRL.AUTO_TILE_RESET).key = 0xE041F :=
  fieldName_of _ 0x7020 31 _ (by decide) rfl (by decide) (by decide)
@[simp] theorem fieldName_SB_CTRL_ALERT_EN : fieldName (SB_CTRL.ALERT_EN).key = 0x10001F :=
  fieldName_of _ 0x8000 31 _ (by decide) rfl (by decide) (by decide)
@[simp] theorem fieldName_SB_CTRL_ALERT_CLASS : fieldName (SB_CTRL.ALERT_CLASS).key = 0x10001D :=
  fieldName_of _ 0x8000 29 _ (by decide) rfl (by decide) (by decide)
@[simp] theorem fieldName_SB_CTRL_PEC_REQUIRED : fieldName (SB_CTRL.PEC_REQUIRED).key = 0x10001C :=
  fieldName_of _ 0x8000 28 _ (by decide) rfl (by decide) (by decide)
@[simp] theorem fieldName_SB_STATUS_ADDRESS : fieldName (SB_STATUS.ADDRESS).key = 0x100098 :=
  fieldName_of _ 0x8004 24 _ (by decide) rfl (by decide) (by decide)
@[simp] theorem fieldName_SB_STATUS_ALERT_PENDING : fieldName (SB_STATUS.ALERT_PENDING).key = 0x100097 :=
  fieldName_of _ 0x8004 23 _ (by decide) rfl (by decide) (by decide)
@[simp] theorem fieldName_SB_STATUS_PEC_ERR : fieldName (SB_STATUS.PEC_ERR).key = 0x100096 :=
  fieldName_of _ 0x8004 22 _ (by decide) rfl (by decide) (by decide)
@[simp] theorem fieldName_SB_STATUS_TIMEOUT : fieldName (SB_STATUS.TIMEOUT).key = 0x100095 :=
  fieldName_of _ 0x8004 21 _ (by decide) rfl (by decide) (by decide)
@[simp] theorem fieldName_SB_STATUS_LAST_STATUS : fieldName (SB_STATUS.LAST_STATUS).key = 0x100088 :=
  fieldName_of _ 0x8004 8 _ (by decide) rfl (by decide) (by decide)
@[simp] theorem fieldName_SB_CNT_MESSAGES : fieldName (SB_CNT.MESSAGES).key = 0x100110 :=
  fieldName_of _ 0x8008 16 _ (by decide) rfl (by decide) (by decide)
@[simp] theorem fieldName_SB_CNT_ERRORS : fieldName (SB_CNT.ERRORS).key = 0x100100 :=
  fieldName_of _ 0x8008 0 _ (by decide) rfl (by decide) (by decide)
@[simp] theorem fieldName_TIM_SET_TIME (k : Nat) : fieldName (TIM_SET.TIME k).key = 0xC0400 :=
  fieldName_of _ 0x6020 0 _ (nameOf_TIM_SET k) rfl (by decide) (by decide)

end Sys2Proof.Machine
end

