-- ==== Sys2Proof/Laws/Known.lean ====
section
/-! SUPPORT. The width and the Cold value of every field, by its key: what two cells of one key share, so that a write keeps the
registers in canonical form. -/

set_option maxRecDepth 10000
set_option linter.all false
set_option Elab.async false

namespace Sys2Proof.Machine

def shapes0 : List (Nat × Nat × Nat) :=
  [(0x10, 16, 37462), (0xC, 4, 1), (0x8, 4, 1), (0x4, 4, 3),
   (0x200001F, 1, 0), (0x200001C, 2, 0), (0x2000018, 3, 0), (0x2000011, 1, 0),
   (0x2000010, 1, 0), (0x200000E, 2, 0), (0x2000009, 5, 0), (0x2000007, 2, 0),
   (0x2000002, 5, 0), (0x400001F, 1, 0), (0x4000018, 6, 0), (0x4000010, 5, 0),
   (0x400000F, 1, 0), (0x4000008, 6, 0), (0x4000000, 5, 0), (0x100, 4, 0),
   (0x4000203, 1, 0), (0x4000202, 1, 0), (0x4000201, 1, 0), (0x400029F, 1, 0),
   (0x400029E, 1, 0), (0x400029D, 1, 0), (0x400029C, 1, 0), (0x400029B, 1, 0),
   (0x400029A, 1, 0), (0x4000294, 4, 0), (0x4000290, 4, 15), (0x4000288, 8, 255),
   (0x4000280, 8, 0), (0x400031F, 1, 0), (0x400031E, 1, 0), (0x4000319, 5, 0),
   (0x4000313, 6, 0), (0x400030C, 6, 0), (0x4000304, 8, 0), (0x400039E, 2, 3),
   (0x4000398, 6, 0), (0x4000392, 6, 0), (0x400038C, 6, 0), (0x4000386, 6, 0),
   (0x4000380, 6, 0), (0x4200010, 8, 0), (0x4200008, 8, 0), (0x4200000, 8, 0)]
def shapes1 : List (Nat × Nat × Nat) :=
  [(0x80000, 2, 3), (0x200008A, 2, 0), (0x2000084, 4, 6), (0x2000080, 4, 6),
   (0x200011F, 1, 0), (0x200011E, 1, 0), (0x200011D, 1, 0), (0x2000119, 1, 0),
   (0x2000118, 1, 0), (0x2000110, 8, 0), (0x200010C, 4, 15), (0x2000108, 4, 15),
   (0x2000104, 4, 0), (0x2000100, 4, 0), (0x400041F, 1, 0), (0x4000418, 4, 0),
   (0x4000413, 5, 31), (0x4000408, 8, 0), (0x4000400, 8, 0), (0x2000190, 16, 0),
   (0x2000180, 16, 0), (0x200041F, 1, 0), (0x2000416, 2, 0), (0x2000410, 4, 3),
   (0x200040C, 4, 6), (0x200049C, 4, 0), (0x2000498, 4, 15), (0x2000494, 4, 15),
   (0x2000492, 2, 0), (0x2000490, 2, 0), (0x200048F, 1, 0), (0x200048E, 1, 0),
   (0x200048B, 3, 0), (0x2000488, 3, 0), (0x2000484, 4, 0), (0x200051F, 1, 0),
   (0x200051E, 1, 0), (0x200051D, 1, 0), (0x200051C, 1, 0), (0x200051B, 1, 0),
   (0x200051A, 1, 0), (0x2000519, 1, 0), (0x2000510, 8, 0), (0x2000508, 8, 0),
   (0x2000500, 8, 0), (0x200081F, 1, 0), (0x200081E, 1, 0), (0x2000814, 5, 25)]
def shapes2 : List (Nat × Nat × Nat) :=
  [(0x2000800, 14, 0), (0x200091C, 4, 0), (0x2000918, 4, 0), (0x2000914, 4, 0),
   (0x200090C, 8, 0), (0x200090A, 2, 0), (0x2000907, 3, 0), (0x2000906, 1, 0),
   (0x2000905, 1, 0), (0x2000904, 1, 0), (0x2000903, 1, 0), (0x2000902, 1, 0),
   (0x2000901, 1, 0), (0x2000900, 1, 0), (0x2000A10, 16, 0), (0x2000A00, 16, 0),
   (0x4000490, 16, 0), (0x4000488, 8, 0), (0x4000487, 1, 0), (0x4000486, 1, 0),
   (0x4000480, 5, 31), (0x2000C1F, 1, 0), (0x2000C1E, 1, 0), (0x2000C19, 5, 1),
   (0x2000C14, 4, 2), (0x2000C08, 8, 4), (0x2000C00, 8, 32), (0x2000D1C, 4, 0),
   (0x2000D18, 4, 0), (0x2000D10, 8, 0), (0x2000D08, 8, 0), (0x2000D06, 2, 0),
   (0x2000D05, 1, 0), (0x2000D04, 1, 0), (0x2000D03, 1, 0), (0x2000D02, 1, 0),
   (0x2000D01, 1, 0), (0x2000D00, 1, 0), (0x2000E18, 8, 0), (0x2000E10, 8, 0),
   (0x2000E08, 8, 0), (0x2000E00, 8, 0), (0x2000F1F, 1, 0), (0x2000F1D, 2, 0),
   (0x2000F18, 5, 0), (0x2000F10, 5, 0), (0x400051C, 4, 15), (0x4000518, 4, 0)]
def shapes3 : List (Nat × Nat × Nat) :=
  [(0x4000513, 5, 31), (0x400050E, 5, 31), (0x400050D, 1, 0), (0x4000500, 8, 0),
   (0x20001F, 1, 1), (0x20001E, 1, 1), (0x200010, 8, 60), (0x20000C, 4, 5),
   (0x200000, 8, 6), (0x20009F, 1, 0), (0x20009C, 3, 0), (0x20009A, 2, 0),
   (0x200099, 1, 0), (0x200090, 8, 0), (0x20011F, 1, 0), (0x20011C, 3, 0),
   (0x20011A, 2, 0), (0x200119, 1, 0), (0x200100, 10, 0), (0x200180, 32, 0),
   (0x20081F, 1, 0), (0x200800, 10, 0), (0x22001F, 1, 0), (0x220018, 4, 0),
   (0x220010, 8, 0), (0x220008, 8, 0), (0x220004, 4, 0), (0x220000, 4, 0),
   (0x40001F, 1, 0), (0x400008, 4, 3), (0x400000, 8, 100), (0x40801C, 4, 0),
   (0x408018, 4, 0), (0x408010, 8, 0), (0x40800F, 1, 0), (0x40800C, 3, 0),
   (0x40800A, 2, 0), (0x408008, 2, 0), (0x408000, 8, 0), (0x410003, 1, 0),
   (0x410002, 1, 0), (0x410001, 1, 0), (0x410000, 1, 0), (0x40C010, 16, 0),
   (0x40C008, 8, 0), (0x40C000, 8, 0), (0x2001E, 2, 0), (0x2001C, 2, 0)]
def shapes4 : List (Nat × Nat × Nat) :=
  [(0x2001B, 1, 0), (0x2001A, 1, 0), (0x20019, 1, 0), (0x20014, 5, 0),
   (0x2000F, 5, 0), (0x2000A, 5, 0), (0x20007, 3, 0), (0x20006, 1, 0),
   (0x2009F, 1, 0), (0x2009C, 3, 0), (0x2009A, 2, 0), (0x20080, 12, 0),
   (0x40105, 1, 0), (0x40104, 1, 0), (0x40103, 1, 0), (0x40102, 1, 0),
   (0x40101, 1, 0), (0x40100, 1, 0), (0x40180, 32, 0), (0x40280, 32, 0),
   (0x4001F, 1, 0), (0x4001D, 2, 0), (0x4009C, 4, 0), (0x40099, 3, 0),
   (0x40098, 1, 0), (0x40090, 8, 0), (0x40088, 8, 255), (0x40080, 5, 0),
   (0x20100, 32, 0), (0x20208, 1, 1), (0x20200, 2, 0), (0x20280, 13, 0),
   (0x20300, 32, 0), (0x98, 7, 42), (0x90, 8, 0), (0x80, 16, 0),
   (0x203, 1, 0), (0x201, 2, 2), (0x29F, 1, 0), (0x29C, 3, 0),
   (0x29A, 2, 0), (0x299, 1, 0), (0x298, 1, 1), (0x297, 1, 0),
   (0x296, 1, 0), (0x295, 1, 0), (0x280, 14, 0), (0x310, 16, 0)]
def shapes5 : List (Nat × Nat × Nat) :=
  [(0x308, 8, 0), (0x300, 8, 0), (0x60001F, 1, 0), (0x60001C, 3, 0),
   (0x600000, 20, 0), (0x60009C, 4, 0), (0x600098, 4, 0), (0x600090, 8, 0),
   (0x60008F, 1, 0), (0x60008E, 1, 0), (0x600080, 14, 0), (0x600110, 14, 0),
   (0x600100, 11, 0), (0x600190, 11, 0), (0x600180, 12, 0), (0x600212, 10, 0),
   (0x600200, 17, 0), (0x600280, 32, 0), (0x700016, 7, 4), (0x70000E, 8, 4),
   (0x700007, 7, 16), (0x700000, 7, 4), (0x80001F, 1, 0), (0x800018, 4, 0),
   (0x800010, 8, 0), (0x80000F, 1, 0), (0x800000, 10, 0), (0x20000018, 8, 0),
   (0x20000010, 8, 0), (0x2000000C, 4, 0), (0x2000000B, 1, 0), (0x2000009F, 1, 0),
   (0x20000090, 11, 0), (0x20000080, 3, 7), (0x2000011F, 1, 0), (0x20000108, 8, 0),
   (0x20000100, 8, 0), (0x20020000, 32, 0), (0x2002011F, 1, 0), (0x2002011E, 1, 0),
   (0x2002011D, 1, 0), (0x2002011C, 1, 0), (0x20020114, 4, 4), (0x20020100, 11, 0),
   (0x20020180, 16, 0), (0x20020210, 16, 0), (0x20020200, 16, 0), (0x2002029C, 4, 0)]
def shapes6 : List (Nat × Nat × Nat) :=
  [(0x2002029B, 1, 0), (0x20020280, 8, 0), (0x180, 10, 0), (0xC019E, 2, 0),
   (0xC019C, 2, 0), (0xC019B, 1, 0), (0xC021E, 2, 0), (0xC021D, 1, 0),
   (0xC021C, 1, 0), (0xC021B, 1, 0), (0xC021A, 1, 0), (0xC0219, 1, 0),
   (0xC0215, 4, 15), (0xC0214, 1, 0), (0xC020E, 6, 0), (0xC020D, 1, 0),
   (0xC020A, 1, 0), (0xC0200, 10, 0), (0xC0280, 32, 0), (0xC0300, 32, 0),
   (0xC0380, 32, 0), (0xC051F, 1, 0), (0xC051C, 3, 0), (0xC0518, 4, 0),
   (0xC0500, 16, 0), (0xC2010, 16, 0), (0xC2000, 16, 0), (0x100001F, 1, 0),
   (0x100001A, 1, 0), (0x1000019, 1, 0), (0x1000000, 4, 15), (0x1000080, 32, 0),
   (0x100019F, 1, 0), (0x100019E, 1, 1), (0x100019D, 1, 0), (0x100019C, 1, 0),
   (0x1000188, 8, 0), (0x1000180, 8, 0), (0x1000800, 32, 0), (0x102001F, 1, 0),
   (0x1020017, 8, 0), (0x1020013, 4, 0), (0x102000F, 1, 0), (0x1020007, 8, 0),
   (0x1020003, 4, 0), (0x1FE001F, 1, 0), (0x1FE0000, 16, 0), (0x1FE009F, 1, 0)]
def shapes7 : List (Nat × Nat × Nat) :=
  [(0x1FE009B, 4, 0), (0x1FE0090, 8, 0), (0x1FE0088, 8, 0), (0x1FE0080, 8, 0),
   (0x1FE0100, 32, 0), (0x2012001C, 4, 0), (0x2012001B, 1, 0), (0x2012001A, 1, 0),
   (0x20120019, 1, 0), (0x20120000, 17, 0), (0x20120080, 32, 0), (0x20120100, 32, 0),
   (0x20120180, 32, 0), (0x6001C, 4, 0), (0x6001A, 2, 1), (0x60018, 2, 1),
   (0x60010, 8, 44), (0x6000F, 1, 0), (0x60000, 7, 0), (0x6009F, 1, 0),
   (0x6009E, 1, 0), (0x6009C, 2, 0), (0x60090, 6, 50), (0x60088, 8, 70),
   (0x60118, 8, 10), (0x60114, 4, 1), (0x6010C, 8, 10), (0x60108, 4, 1),
   (0x60104, 4, 1), (0x60100, 4, 10), (0x60180, 32, 0), (0x60290, 3, 0),
   (0x60288, 7, 0), (0x60285, 1, 0), (0x60284, 1, 0), (0x60283, 1, 0),
   (0x60282, 1, 0), (0x60281, 1, 0), (0x60280, 1, 0), (0x60318, 8, 0),
   (0x6030E, 1, 0), (0x60300, 14, 0), (0x6039F, 1, 0), (0x6039E, 1, 0),
   (0x6039D, 1, 0), (0x60800, 32, 0), (0x8009F, 1, 0), (0x8009E, 1, 0)]
def shapes8 : List (Nat × Nat × Nat) :=
  [(0x8009D, 1, 0), (0x8009C, 1, 0), (0x8009B, 1, 0), (0x80090, 8, 0),
   (0x80100, 32, 2000000000), (0xA001C, 4, 0), (0xA001B, 1, 0), (0xA001A, 1, 0),
   (0xA0008, 8, 0), (0xA009F, 1, 0), (0xA009D, 2, 0), (0xA0090, 6, 0),
   (0xA0088, 8, 0), (0xA0118, 8, 0), (0xA0110, 8, 0), (0xA0100, 16, 0),
   (0xE0001, 18, 0), (0xE0081, 18, 0), (0xE0100, 32, 0), (0xE021F, 1, 0),
   (0xE021E, 1, 0), (0xE0210, 8, 0), (0xE0208, 8, 0), (0xE0200, 8, 0),
   (0xE0280, 32, 0), (0xE0390, 16, 0), (0xE0388, 8, 0), (0xE0380, 8, 0),
   (0xE041F, 1, 1), (0x10001F, 1, 1), (0x10001D, 2, 1), (0x10001C, 1, 0),
   (0x100098, 7, 88), (0x100097, 1, 0), (0x100096, 1, 0), (0x100095, 1, 0),
   (0x100088, 8, 0), (0x100110, 16, 0), (0x100100, 8, 0), (0xC0400, 32, 0)]

/-- Width and Cold value of every field, by its name. -/
def shapes : List (Nat × Nat × Nat) := shapes0 ++ shapes1 ++ shapes2 ++ shapes3 ++ shapes4 ++ shapes5 ++ shapes6 ++ shapes7 ++ shapes8

/-- The names of the fields whose Cold value depends on their index. -/
def coldVaries : List Nat := [0x4200010, 0x4200008, 0x4200000, 0x20200]

/-- The Cold value of the field at a key. -/
def coldOf (key : Nat) : Nat :=
  let n := fieldName key
  let low := decide ((key / 32 - 0x210000) / 4 < 5)
  if n = 0x4200010 then (if low then 72 else 80)
  else if n = 0x4200008 then (if low then 62 else 68)
  else if n = 0x4200000 then (if low then 52 else 56)
  else if n = 0x20200 then (if key % 32 = 0 then 1 else 0)
  else match lookupKey n shapes with
    | some x => x.2
    | none => 0

/-- A cell has the width and the Cold value that its key gives. -/
def Cell.known (c : Cell) : Prop := (lookupKey (fieldName c.key) shapes).map Prod.fst = some c.width ∧ coldOf c.key = c.cold

theorem Cell.known_eq {c d : Cell} (hc : c.known) (hd : d.known) (h : c.key = d.key) : c.width = d.width ∧ c.cold = d.cold := by
  obtain ⟨h1, h2⟩ := hc
  obtain ⟨h3, h4⟩ := hd
  rw [h] at h1 h2
  exact ⟨Option.some.inj (h1.symm.trans h3), h2.symm.trans h4⟩

theorem known_of {c : Cell} {n w d : Nat} (hn : fieldName c.key = n) (hs : lookupKey n shapes = some (w, d)) (hw : c.width = w)
    (hd : c.cold = d) (hv : coldVaries.contains n = false) : c.known := by
  have h : n ≠ 0x4200010 ∧ n ≠ 0x4200008 ∧ n ≠ 0x4200000 ∧ n ≠ 0x20200 := by
    simpa [coldVaries] using hv
  refine ⟨by rw [hn, hs, hw]; rfl, ?_⟩
  unfold coldOf
  simp only [hn, hs, if_neg h.1, if_neg h.2.1, if_neg h.2.2.1, if_neg h.2.2.2, hd]

theorem known_GLB_REVISION_DEVICE : (GLB_REVISION.DEVICE).known :=
  known_of fieldName_GLB_REVISION_DEVICE (w := 16) (d := 37462) (by decide +kernel) rfl rfl (by decide +kernel)
theorem known_GLB_REVISION_STEP_MAJOR : (GLB_REVISION.STEP_MAJOR).known :=
  known_of fieldName_GLB_REVISION_STEP_MAJOR (w := 4) (d := 1) (by decide +kernel) rfl rfl (by decide +kernel)
theorem known_GLB_REVISION_STEP_MINOR : (GLB_REVISION.STEP_MINOR).known :=
  known_of fieldName_GLB_REVISION_STEP_MINOR (w := 4) (d := 1) (by decide +kernel) rfl rfl (by decide +kernel)
theorem known_GLB_REVISION_FAMILY : (GLB_REVISION.FAMILY).known :=
  known_of fieldName_GLB_REVISION_FAMILY (w := 4) (d := 3) (by decide +kernel) rfl rfl (by decide +kernel)
theorem known_PRT_MODE_ENABLE (p : Nat) : (PRT_MODE.ENABLE p).known :=
  known_of (fieldName_PRT_MODE_ENABLE p) (w := 1) (d := 0) (by decide +kernel) rfl rfl (by decide +kernel)
theorem known_PRT_MODE_MODE (p : Nat) : (PRT_MODE.MODE p).known :=
  known_of (fieldName_PRT_MODE_MODE p) (w := 2) (d := 0) (by decide +kernel) rfl rfl (by decide +kernel)
theorem known_PRT_MODE_TILE (p : Nat) : (PRT_MODE.TILE p).known :=
  known_of (fieldName_PRT_MODE_TILE p) (w := 3) (d := 0) (by decide +kernel) rfl rfl (by decide +kernel)
theorem known_PRT_MODE_A_SEGMENT (p : Nat) : (PRT_MODE.A_SEGMENT p).known :=
  known_of (fieldName_PRT_MODE_A_SEGMENT p) (w := 1) (d := 0) (by decide +kernel) rfl rfl (by decide +kernel)
theorem known_PRT_MODE_B_SEGMENT (p : Nat) : (PRT_MODE.B_SEGMENT p).known :=
  known_of (fieldName_PRT_MODE_B_SEGMENT p) (w := 1) (d := 0) (by decide +kernel) rfl rfl (by decide +kernel)
theorem known_PRT_MODE_A_SPARES (p : Nat) : (PRT_MODE.A_SPARES p).known :=
  known_of (fieldName_PRT_MODE_A_SPARES p) (w := 2) (d := 0) (by decide +kernel) rfl rfl (by decide +kernel)
theorem known_PRT_MODE_A_WIDTH (p : Nat) : (PRT_MODE.A_WIDTH p).known :=
  known_of (fieldName_PRT_MODE_A_WIDTH p) (w := 5) (d := 0) (by decide +kernel) rfl rfl (by decide +kernel)
theorem known_PRT_MODE_B_SPARES (p : Nat) : (PRT_MODE.B_SPARES p).known :=
  known_of (fieldName_PRT_MODE_B_SPARES p) (w := 2) (d := 0) (by decide +kernel) rfl rfl (by decide +kernel)
theorem known_PRT_MODE_B_WIDTH (p : Nat) : (PRT_MODE.B_WIDTH p).known :=
  known_of (fieldName_PRT_MODE_B_WIDTH p) (w := 5) (d := 0) (by decide +kernel) rfl rfl (by decide +kernel)
theorem known_LCH_ASSIGN_A_VALID (n : Nat) : (LCH_ASSIGN.A_VALID n).known :=
  known_of (fieldName_LCH_ASSIGN_A_VALID n) (w := 1) (d := 0) (by decide +kernel) rfl rfl (by decide +kernel)
theorem known_LCH_ASSIGN_A_PORT (n : Nat) : (LCH_ASSIGN.A_PORT n).known :=
  known_of (fieldName_LCH_ASSIGN_A_PORT n) (w := 6) (d := 0) (by decide +kernel) rfl rfl (by decide +kernel)
theorem known_LCH_ASSIGN_A_LOGICAL (n : Nat) : (LCH_ASSIGN.A_LOGICAL n).known :=
  known_of (fieldName_LCH_ASSIGN_A_LOGICAL n) (w := 5) (d := 0) (by decide +kernel) rfl rfl (by decide +kernel)
theorem known_LCH_ASSIGN_B_VALID (n : Nat) : (LCH_ASSIGN.B_VALID n).known :=
  known_of (fieldName_LCH_ASSIGN_B_VALID n) (w := 1) (d := 0) (by decide +kernel) rfl rfl (by decide +kernel)
theorem known_LCH_ASSIGN_B_PORT (n : Nat) : (LCH_ASSIGN.B_PORT n).known :=
  known_of (fieldName_LCH_ASSIGN_B_PORT n) (w := 6) (d := 0) (by decide +kernel) rfl rfl (by decide +kernel)
theorem known_LCH_ASSIGN_B_LOGICAL (n : Nat) : (LCH_ASSIGN.B_LOGICAL n).known :=
  known_of (fieldName_LCH_ASSIGN_B_LOGICAL n) (w := 5) (d := 0) (by decide +kernel) rfl rfl (by decide +kernel)
theorem known_GLB_TILE_STATUS_LT (t : Nat) : (GLB_TILE_STATUS.LT t).known :=
  known_of (fieldName_GLB_TILE_STATUS_LT t) (w := 4) (d := 0) (by decide +kernel) rfl rfl (by decide +kernel)
theorem known_LCH_EQ_CTRL_FOM_MIN_CLR (h : Nat) : (LCH_EQ_CTRL.FOM_MIN_CLR h).known :=
  known_of (fieldName_LCH_EQ_CTRL_FOM_MIN_CLR h) (w := 1) (d := 0) (by decide +kernel) rfl rfl (by decide +kernel)
theorem known_LCH_EQ_CTRL_CTLE_TRIM_OFF (h : Nat) : (LCH_EQ_CTRL.CTLE_TRIM_OFF h).known :=
  known_of (fieldName_LCH_EQ_CTRL_CTLE_TRIM_OFF h) (w := 1) (d := 0) (by decide +kernel) rfl rfl (by decide +kernel)
theorem known_LCH_EQ_CTRL_FREEZE (h : Nat) : (LCH_EQ_CTRL.FREEZE h).known :=
  known_of (fieldName_LCH_EQ_CTRL_FREEZE h) (w := 1) (d := 0) (by decide +kernel) rfl rfl (by decide +kernel)
theorem known_LCH_FOM_SIGDET (h : Nat) : (LCH_FOM.SIGDET h).known :=
  known_of (fieldName_LCH_FOM_SIGDET h) (w := 1) (d := 0) (by decide +kernel) rfl rfl (by decide +kernel)
theorem known_LCH_FOM_LOCK (h : Nat) : (LCH_FOM.LOCK h).known :=
  known_of (fieldName_LCH_FOM_LOCK h) (w := 1) (d := 0) (by decide +kernel) rfl rfl (by decide +kernel)
theorem known_LCH_FOM_FOM_VALID (h : Nat) : (LCH_FOM.FOM_VALID h).known :=
  known_of (fieldName_LCH_FOM_FOM_VALID h) (w := 1) (d := 0) (by decide +kernel) rfl rfl (by decide +kernel)
theorem known_LCH_FOM_BELOW_TARGET (h : Nat) : (LCH_FOM.BELOW_TARGET h).known :=
  known_of (fieldName_LCH_FOM_BELOW_TARGET h) (w := 1) (d := 0) (by decide +kernel) rfl rfl (by decide +kernel)
theorem known_LCH_FOM_WARN (h : Nat) : (LCH_FOM.WARN h).known :=
  known_of (fieldName_LCH_FOM_WARN h) (w := 1) (d := 0) (by decide +kernel) rfl rfl (by decide +kernel)
theorem known_LCH_FOM_FAULT_SEEN (h : Nat) : (LCH_FOM.FAULT_SEEN h).known :=
  known_of (fieldName_LCH_FOM_FAULT_SEEN h) (w := 1) (d := 0) (by decide +kernel) rfl rfl (by decide +kernel)
theorem known_LCH_FOM_ADAPT_STATE (h : Nat) : (LCH_FOM.ADAPT_STATE h).known :=
  known_of (fieldName_LCH_FOM_ADAPT_STATE h) (w := 4) (d := 0) (by decide +kernel) rfl rfl (by decide +kernel)
theorem known_LCH_FOM_RATE_SLOT (h : Nat) : (LCH_FOM.RATE_SLOT h).known :=
  known_of (fieldName_LCH_FOM_RATE_SLOT h) (w := 4) (d := 15) (by decide +kernel) rfl rfl (by decide +kernel)
theorem known_LCH_FOM_FOM_MIN (h : Nat) : (LCH_FOM.FOM_MIN h).known :=
  known_of (fieldName_LCH_FOM_FOM_MIN h) (w := 8) (d := 255) (by decide +kernel) rfl rfl (by decide +kernel)
theorem known_LCH_FOM_FOM (h : Nat) : (LCH_FOM.FOM h).known :=
  known_of (fieldName_LCH_FOM_FOM h) (w := 8) (d := 0) (by decide +kernel) rfl rfl (by decide +kernel)
theorem known_LCH_RX_EQ_TABLE_DEFAULT (h : Nat) : (LCH_RX_EQ.TABLE_DEFAULT h).known :=
  known_of (fieldName_LCH_RX_EQ_TABLE_DEFAULT h) (w := 1) (d := 0) (by decide +kernel) rfl rfl (by decide +kernel)
theorem known_LCH_RX_EQ_WARM (h : Nat) : (LCH_RX_EQ.WARM h).known :=
  known_of (fieldName_LCH_RX_EQ_WARM h) (w := 1) (d := 0) (by decide +kernel) rfl rfl (by decide +kernel)
theorem known_LCH_RX_EQ_CTLE (h : Nat) : (LCH_RX_EQ.CTLE h).known :=
  known_of (fieldName_LCH_RX_EQ_CTLE h) (w := 5) (d := 0) (by decide +kernel) rfl rfl (by decide +kernel)
theorem known_LCH_RX_EQ_VGA (h : Nat) : (LCH_RX_EQ.VGA h).known :=
  known_of (fieldName_LCH_RX_EQ_VGA h) (w := 6) (d := 0) (by decide +kernel) rfl rfl (by decide +kernel)
theorem known_LCH_RX_EQ_DFE_H1 (h : Nat) : (LCH_RX_EQ.DFE_H1 h).known :=
  known_of (fieldName_LCH_RX_EQ_DFE_H1 h) (w := 6) (d := 0) (by decide +kernel) rfl rfl (by decide +kernel)
theorem known_LCH_RX_EQ_FFE_MAIN (h : Nat) : (LCH_RX_EQ.FFE_MAIN h).known :=
  known_of (fieldName_LCH_RX_EQ_FFE_MAIN h) (w := 8) (d := 0) (by decide +kernel) rfl rfl (by decide +kernel)
theorem known_LCH_TX_COEF_SRC (h : Nat) : (LCH_TX_COEF.SRC h).known :=
  known_of (fieldName_LCH_TX_COEF_SRC h) (w := 2) (d := 3) (by decide +kernel) rfl rfl (by decide +kernel)
theorem known_LCH_TX_COEF_C0 (h : Nat) : (LCH_TX_COEF.C0 h).known :=
  known_of (fieldName_LCH_TX_COEF_C0 h) (w := 6) (d := 0) (by decide +kernel) rfl rfl (by decide +kernel)
theorem known_LCH_TX_COEF_CM2 (h : Nat) : (LCH_TX_COEF.CM2 h).known :=
  known_of (fieldName_LCH_TX_COEF_CM2 h) (w := 6) (d := 0) (by decide +kernel) rfl rfl (by decide +kernel)
theorem known_LCH_TX_COEF_CM1 (h : Nat) : (LCH_TX_COEF.CM1 h).known :=
  known_of (fieldName_LCH_TX_COEF_CM1 h) (w := 6) (d := 0) (by decide +kernel) rfl rfl (by decide +kernel)
theorem known_LCH_TX_COEF_CP1 (h : Nat) : (LCH_TX_COEF.CP1 h).known :=
  known_of (fieldName_LCH_TX_COEF_CP1 h) (w := 6) (d := 0) (by decide +kernel) rfl rfl (by decide +kernel)
theorem known_LCH_TX_COEF_CP2 (h : Nat) : (LCH_TX_COEF.CP2 h).known :=
  known_of (fieldName_LCH_TX_COEF_CP2 h) (w := 6) (d := 0) (by decide +kernel) rfl rfl (by decide +kernel)
theorem known_LCH_FOM_LIMITS_TARGET (r : Nat) : (LCH_FOM_LIMITS.TARGET r).known := by
  have h : ((LCH_FOM_LIMITS.TARGET r).key / 32 - 0x210000) / 4 = r % 9 := by unfold LCH_FOM_LIMITS.TARGET LCH_FOM_LIMITS.off Cell.key; simp only; omega
  refine ⟨by rw [fieldName_LCH_FOM_LIMITS_TARGET]; exact (by decide +kernel : (lookupKey 0x4200010 shapes).map Prod.fst = some 8), ?_⟩
  have e : coldOf (LCH_FOM_LIMITS.TARGET r).key = (if decide (((LCH_FOM_LIMITS.TARGET r).key / 32 - 0x210000) / 4 < 5) then 72 else 80) := by
    unfold coldOf
    rw [fieldName_LCH_FOM_LIMITS_TARGET]
    exact if_pos rfl
  rw [e, h]
  simp only [decide_eq_true_eq]
  rfl
theorem known_LCH_FOM_LIMITS_WARN (r : Nat) : (LCH_FOM_LIMITS.WARN r).known := by
  have h : ((LCH_FOM_LIMITS.WARN r).key / 32 - 0x210000) / 4 = r % 9 := by unfold LCH_FOM_LIMITS.WARN LCH_FOM_LIMITS.off Cell.key; simp only; omega
  refine ⟨by rw [fieldName_LCH_FOM_LIMITS_WARN]; exact (by decide +kernel : (lookupKey 0x4200008 shapes).map Prod.fst = some 8), ?_⟩
  have e : coldOf (LCH_FOM_LIMITS.WARN r).key = (if decide (((LCH_FOM_LIMITS.WARN r).key / 32 - 0x210000) / 4 < 5) then 62 else 68) := by
    unfold coldOf
    rw [fieldName_LCH_FOM_LIMITS_WARN]
    exact (if_neg (by decide)).trans (if_pos rfl)
  rw [e, h]
  simp only [decide_eq_true_eq]
  rfl
theorem known_LCH_FOM_LIMITS_FAULT (r : Nat) : (LCH_FOM_LIMITS.FAULT r).known := by
  have h : ((LCH_FOM_LIMITS.FAULT r).key / 32 - 0x210000) / 4 = r % 9 := by unfold LCH_FOM_LIMITS.FAULT LCH_FOM_LIMITS.off Cell.key; simp only; omega
  refine ⟨by rw [fieldName_LCH_FOM_LIMITS_FAULT]; exact (by decide +kernel : (lookupKey 0x4200000 shapes).map Prod.fst = some 8), ?_⟩
  have e : coldOf (LCH_FOM_LIMITS.FAULT r).key = (if decide (((LCH_FOM_LIMITS.FAULT r).key / 32 - 0x210000) / 4 < 5) then 52 else 56) := by
    unfold coldOf
    rw [fieldName_LCH_FOM_LIMITS_FAULT]
    exact (if_neg (by decide)).trans ((if_neg (by decide)).trans (if_pos rfl))
  rw [e, h]
  simp only [decide_eq_true_eq]
  rfl
theorem known_CLK_DCLK_SEL_LT (t : Nat) : (CLK_DCLK_SEL.LT t).known :=
  known_of (fieldName_CLK_DCLK_SEL_LT t) (w := 2) (d := 3) (by decide +kernel) rfl rfl (by decide +kernel)
theorem known_PRT_DP_CTRL_CLOCKING (p : Nat) : (PRT_DP_CTRL.CLOCKING p).known :=
  known_of (fieldName_PRT_DP_CTRL_CLOCKING p) (w := 2) (d := 0) (by decide +kernel) rfl rfl (by decide +kernel)
theorem known_PRT_DP_CTRL_A_SLOT (p : Nat) : (PRT_DP_CTRL.A_SLOT p).known :=
  known_of (fieldName_PRT_DP_CTRL_A_SLOT p) (w := 4) (d := 6) (by decide +kernel) rfl rfl (by decide +kernel)
theorem known_PRT_DP_CTRL_B_SLOT (p : Nat) : (PRT_DP_CTRL.B_SLOT p).known :=
  known_of (fieldName_PRT_DP_CTRL_B_SLOT p) (w := 4) (d := 6) (by decide +kernel) rfl rfl (by decide +kernel)
theorem known_PRT_DP_STATUS_FLIT (p : Nat) : (PRT_DP_STATUS.FLIT p).known :=
  known_of (fieldName_PRT_DP_STATUS_FLIT p) (w := 1) (d := 0) (by decide +kernel) rfl rfl (by decide +kernel)
theorem known_PRT_DP_STATUS_A_REVERSED (p : Nat) : (PRT_DP_STATUS.A_REVERSED p).known :=
  known_of (fieldName_PRT_DP_STATUS_A_REVERSED p) (w := 1) (d := 0) (by decide +kernel) rfl rfl (by decide +kernel)
theorem known_PRT_DP_STATUS_B_REVERSED (p : Nat) : (PRT_DP_STATUS.B_REVERSED p).known :=
  known_of (fieldName_PRT_DP_STATUS_B_REVERSED p) (w := 1) (d := 0) (by decide +kernel) rfl rfl (by decide +kernel)
theorem known_PRT_DP_STATUS_DESKEW_FAIL (p : Nat) : (PRT_DP_STATUS.DESKEW_FAIL p).known :=
  known_of (fieldName_PRT_DP_STATUS_DESKEW_FAIL p) (w := 1) (d := 0) (by decide +kernel) rfl rfl (by decide +kernel)
theorem known_PRT_DP_STATUS_EB_SLIP (p : Nat) : (PRT_DP_STATUS.EB_SLIP p).known :=
  known_of (fieldName_PRT_DP_STATUS_EB_SLIP p) (w := 1) (d := 0) (by decide +kernel) rfl rfl (by decide +kernel)
theorem known_PRT_DP_STATUS_EB_SLIP_CNT (p : Nat) : (PRT_DP_STATUS.EB_SLIP_CNT p).known :=
  known_of (fieldName_PRT_DP_STATUS_EB_SLIP_CNT p) (w := 8) (d := 0) (by decide +kernel) rfl rfl (by decide +kernel)
theorem known_PRT_DP_STATUS_A_SLOT_NOW (p : Nat) : (PRT_DP_STATUS.A_SLOT_NOW p).known :=
  known_of (fieldName_PRT_DP_STATUS_A_SLOT_NOW p) (w := 4) (d := 15) (by decide +kernel) rfl rfl (by decide +kernel)
theorem known_PRT_DP_STATUS_B_SLOT_NOW (p : Nat) : (PRT_DP_STATUS.B_SLOT_NOW p).known :=
  known_of (fieldName_PRT_DP_STATUS_B_SLOT_NOW p) (w := 4) (d := 15) (by decide +kernel) rfl rfl (by decide +kernel)
theorem known_PRT_DP_STATUS_A_ALIGN (p : Nat) : (PRT_DP_STATUS.A_ALIGN p).known :=
  known_of (fieldName_PRT_DP_STATUS_A_ALIGN p) (w := 4) (d := 0) (by decide +kernel) rfl rfl (by decide +kernel)
theorem known_PRT_DP_STATUS_B_ALIGN (p : Nat) : (PRT_DP_STATUS.B_ALIGN p).known :=
  known_of (fieldName_PRT_DP_STATUS_B_ALIGN p) (w := 4) (d := 0) (by decide +kernel) rfl rfl (by decide +kernel)
theorem known_LCH_DP_STATUS_POL_INV (h : Nat) : (LCH_DP_STATUS.POL_INV h).known :=
  known_of (fieldName_LCH_DP_STATUS_POL_INV h) (w := 1) (d := 0) (by decide +kernel) rfl rfl (by decide +kernel)
theorem known_LCH_DP_STATUS_ALIGN_STATE (h : Nat) : (LCH_DP_STATUS.ALIGN_STATE h).known :=
  known_of (fieldName_LCH_DP_STATUS_ALIGN_STATE h) (w := 4) (d := 0) (by decide +kernel) rfl rfl (by decide +kernel)
theorem known_LCH_DP_STATUS_LINK_LANE (h : Nat) : (LCH_DP_STATUS.LINK_LANE h).known :=
  known_of (fieldName_LCH_DP_STATUS_LINK_LANE h) (w := 5) (d := 31) (by decide +kernel) rfl rfl (by decide +kernel)
theorem known_LCH_DP_STATUS_SKEW (h : Nat) : (LCH_DP_STATUS.SKEW h).known :=
  known_of (fieldName_LCH_DP_STATUS_SKEW h) (w := 8) (d := 0) (by decide +kernel) rfl rfl (by decide +kernel)
theorem known_LCH_DP_STATUS_EB_FILL (h : Nat) : (LCH_DP_STATUS.EB_FILL h).known :=
  known_of (fieldName_LCH_DP_STATUS_EB_FILL h) (w := 8) (d := 0) (by decide +kernel) rfl rfl (by decide +kernel)
theorem known_PRT_SKP_ADJ_ADD (q : Nat) : (PRT_SKP_ADJ.ADD q).known :=
  known_of (fieldName_PRT_SKP_ADJ_ADD q) (w := 16) (d := 0) (by decide +kernel) rfl rfl (by decide +kernel)
theorem known_PRT_SKP_ADJ_DEL (q : Nat) : (PRT_SKP_ADJ.DEL q).known :=
  known_of (fieldName_PRT_SKP_ADJ_DEL q) (w := 16) (d := 0) (by decide +kernel) rfl rfl (by decide +kernel)
theorem known_PRT_TRN_CTRL_RETRAIN (p : Nat) : (PRT_TRN_CTRL.RETRAIN p).known :=
  known_of (fieldName_PRT_TRN_CTRL_RETRAIN p) (w := 1) (d := 0) (by decide +kernel) rfl rfl (by decide +kernel)
theorem known_PRT_TRN_CTRL_UPSTREAM (p : Nat) : (PRT_TRN_CTRL.UPSTREAM p).known :=
  known_of (fieldName_PRT_TRN_CTRL_UPSTREAM p) (w := 2) (d := 0) (by decide +kernel) rfl rfl (by decide +kernel)
theorem known_PRT_TRN_CTRL_NONFLIT_LIMIT (p : Nat) : (PRT_TRN_CTRL.NONFLIT_LIMIT p).known :=
  known_of (fieldName_PRT_TRN_CTRL_NONFLIT_LIMIT p) (w := 4) (d := 3) (by decide +kernel) rfl rfl (by decide +kernel)
theorem known_PRT_TRN_CTRL_EQ_CANDIDATES (p : Nat) : (PRT_TRN_CTRL.EQ_CANDIDATES p).known :=
  known_of (fieldName_PRT_TRN_CTRL_EQ_CANDIDATES p) (w := 4) (d := 6) (by decide +kernel) rfl rfl (by decide +kernel)
theorem known_PRT_TRN_STATUS_STATE (p : Nat) : (PRT_TRN_STATUS.STATE p).known :=
  known_of (fieldName_PRT_TRN_STATUS_STATE p) (w := 4) (d := 0) (by decide +kernel) rfl rfl (by decide +kernel)
theorem known_PRT_TRN_STATUS_EQ_PHASE (p : Nat) : (PRT_TRN_STATUS.EQ_PHASE p).known :=
  known_of (fieldName_PRT_TRN_STATUS_EQ_PHASE p) (w := 4) (d := 15) (by decide +kernel) rfl rfl (by decide +kernel)
theorem known_PRT_TRN_STATUS_EQ_SLOT (p : Nat) : (PRT_TRN_STATUS.EQ_SLOT p).known :=
  known_of (fieldName_PRT_TRN_STATUS_EQ_SLOT p) (w := 4) (d := 15) (by decide +kernel) rfl rfl (by decide +kernel)
theorem known_PRT_TRN_STATUS_UP_SIDE (p : Nat) : (PRT_TRN_STATUS.UP_SIDE p).known :=
  known_of (fieldName_PRT_TRN_STATUS_UP_SIDE p) (w := 2) (d := 0) (by decide +kernel) rfl rfl (by decide +kernel)
theorem known_PRT_TRN_STATUS_RETIMER_POS (p : Nat) : (PRT_TRN_STATUS.RETIMER_POS p).known :=
  known_of (fieldName_PRT_TRN_STATUS_RETIMER_POS p) (w := 2) (d := 0) (by decide +kernel) rfl rfl (by decide +kernel)
theorem known_PRT_TRN_STATUS_CXL (p : Nat) : (PRT_TRN_STATUS.CXL p).known :=
  known_of (fieldName_PRT_TRN_STATUS_CXL p) (w := 1) (d := 0) (by decide +kernel) rfl rfl (by decide +kernel)
theorem known_PRT_TRN_STATUS_L0P (p : Nat) : (PRT_TRN_STATUS.L0P p).known :=
  known_of (fieldName_PRT_TRN_STATUS_L0P p) (w := 1) (d := 0) (by decide +kernel) rfl rfl (by decide +kernel)
theorem known_PRT_TRN_STATUS_LP_KIND (p : Nat) : (PRT_TRN_STATUS.LP_KIND p).known :=
  known_of (fieldName_PRT_TRN_STATUS_LP_KIND p) (w := 3) (d := 0) (by decide +kernel) rfl rfl (by decide +kernel)
theorem known_PRT_TRN_STATUS_NEG_WIDTH (p : Nat) : (PRT_TRN_STATUS.NEG_WIDTH p).known :=
  known_of (fieldName_PRT_TRN_STATUS_NEG_WIDTH p) (w := 3) (d := 0) (by decide +kernel) rfl rfl (by decide +kernel)
theorem known_PRT_TRN_STATUS_NONFLIT_COUNT (p : Nat) : (PRT_TRN_STATUS.NONFLIT_COUNT p).known :=
  known_of (fieldName_PRT_TRN_STATUS_NONFLIT_COUNT p) (w := 4) (d := 0) (by decide +kernel) rfl rfl (by decide +kernel)
theorem known_PRT_TRN_EVENTS_PARTNER_LOST_A (p : Nat) : (PRT_TRN_EVENTS.PARTNER_LOST_A p).known :=
  known_of (fieldName_PRT_TRN_EVENTS_PARTNER_LOST_A p) (w := 1) (d := 0) (by decide +kernel) rfl rfl (by decide +kernel)
theorem known_PRT_TRN_EVENTS_PARTNER_LOST_B (p : Nat) : (PRT_TRN_EVENTS.PARTNER_LOST_B p).known :=
  known_of (fieldName_PRT_TRN_EVENTS_PARTNER_LOST_B p) (w := 1) (d := 0) (by decide +kernel) rfl rfl (by decide +kernel)
theorem known_PRT_TRN_EVENTS_TRN_TIMEOUT (p : Nat) : (PRT_TRN_EVENTS.TRN_TIMEOUT p).known :=
  known_of (fieldName_PRT_TRN_EVENTS_TRN_TIMEOUT p) (w := 1) (d := 0) (by decide +kernel) rfl rfl (by decide +kernel)
theorem known_PRT_TRN_EVENTS_NONFLIT_REFUSED (p : Nat) : (PRT_TRN_EVENTS.NONFLIT_REFUSED p).known :=
  known_of (fieldName_PRT_TRN_EVENTS_NONFLIT_REFUSED p) (w := 1) (d := 0) (by decide +kernel) rfl rfl (by decide +kernel)
theorem known_PRT_TRN_EVENTS_LOOPBACK_REFUSED (p : Nat) : (PRT_TRN_EVENTS.LOOPBACK_REFUSED p).known :=
  known_of (fieldName_PRT_TRN_EVENTS_LOOPBACK_REFUSED p) (w := 1) (d := 0) (by decide +kernel) rfl rfl (by decide +kernel)
theorem known_PRT_TRN_EVENTS_EQ_REQ_REJECTED (p : Nat) : (PRT_TRN_EVENTS.EQ_REQ_REJECTED p).known :=
  known_of (fieldName_PRT_TRN_EVENTS_EQ_REQ_REJECTED p) (w := 1) (d := 0) (by decide +kernel) rfl rfl (by decide +kernel)
theorem known_PRT_TRN_EVENTS_EQ_BELOW_TARGET (p : Nat) : (PRT_TRN_EVENTS.EQ_BELOW_TARGET p).known :=
  known_of (fieldName_PRT_TRN_EVENTS_EQ_BELOW_TARGET p) (w := 1) (d := 0) (by decide +kernel) rfl rfl (by decide +kernel)
theorem known_PRT_TRN_EVENTS_DETECT_CNT (p : Nat) : (PRT_TRN_EVENTS.DETECT_CNT p).known :=
  known_of (fieldName_PRT_TRN_EVENTS_DETECT_CNT p) (w := 8) (d := 0) (by decide +kernel) rfl rfl (by decide +kernel)
theorem known_PRT_TRN_EVENTS_RECOVERY_CNT (p : Nat) : (PRT_TRN_EVENTS.RECOVERY_CNT p).known :=
  known_of (fieldName_PRT_TRN_EVENTS_RECOVERY_CNT p) (w := 8) (d := 0) (by decide +kernel) rfl rfl (by decide +kernel)
theorem known_PRT_TRN_EVENTS_RATE_CHG_CNT (p : Nat) : (PRT_TRN_EVENTS.RATE_CHG_CNT p).known :=
  known_of (fieldName_PRT_TRN_EVENTS_RATE_CHG_CNT p) (w := 8) (d := 0) (by decide +kernel) rfl rfl (by decide +kernel)
theorem known_PRT_SEG_CTRL_RETRAIN (q : Nat) : (PRT_SEG_CTRL.RETRAIN q).known :=
  known_of (fieldName_PRT_SEG_CTRL_RETRAIN q) (w := 1) (d := 0) (by decide +kernel) rfl rfl (by decide +kernel)
theorem known_PRT_SEG_CTRL_LEGACY (q : Nat) : (PRT_SEG_CTRL.LEGACY q).known :=
  known_of (fieldName_PRT_SEG_CTRL_LEGACY q) (w := 1) (d := 0) (by decide +kernel) rfl rfl (by decide +kernel)
theorem known_PRT_SEG_CTRL_RTT_MAX (q : Nat) : (PRT_SEG_CTRL.RTT_MAX q).known :=
  known_of (fieldName_PRT_SEG_CTRL_RTT_MAX q) (w := 5) (d := 25) (by decide +kernel) rfl rfl (by decide +kernel)
theorem known_PRT_SEG_CTRL_SLOTS (q : Nat) : (PRT_SEG_CTRL.SLOTS q).known :=
  known_of (fieldName_PRT_SEG_CTRL_SLOTS q) (w := 14) (d := 0) (by decide +kernel) rfl rfl (by decide +kernel)
theorem known_PRT_SEG_STATUS_STATE (q : Nat) : (PRT_SEG_STATUS.STATE q).known :=
  known_of (fieldName_PRT_SEG_STATUS_STATE q) (w := 4) (d := 0) (by decide +kernel) rfl rfl (by decide +kernel)
theorem known_PRT_SEG_STATUS_LAST_FAIL (q : Nat) : (PRT_SEG_STATUS.LAST_FAIL q).known :=
  known_of (fieldName_PRT_SEG_STATUS_LAST_FAIL q) (w := 4) (d := 0) (by decide +kernel) rfl rfl (by decide +kernel)
theorem known_PRT_SEG_STATUS_ATTEMPTS (q : Nat) : (PRT_SEG_STATUS.ATTEMPTS q).known :=
  known_of (fieldName_PRT_SEG_STATUS_ATTEMPTS q) (w := 4) (d := 0) (by decide +kernel) rfl rfl (by decide +kernel)
theorem known_PRT_SEG_STATUS_RTT (q : Nat) : (PRT_SEG_STATUS.RTT q).known :=
  known_of (fieldName_PRT_SEG_STATUS_RTT q) (w := 8) (d := 0) (by decide +kernel) rfl rfl (by decide +kernel)
theorem known_PRT_SEG_STATUS_PARTNER (q : Nat) : (PRT_SEG_STATUS.PARTNER q).known :=
  known_of (fieldName_PRT_SEG_STATUS_PARTNER q) (w := 2) (d := 0) (by decide +kernel) rfl rfl (by decide +kernel)
theorem known_PRT_SEG_STATUS_HOPS (q : Nat) : (PRT_SEG_STATUS.HOPS q).known :=
  known_of (fieldName_PRT_SEG_STATUS_HOPS q) (w := 3) (d := 0) (by decide +kernel) rfl rfl (by decide +kernel)
theorem known_PRT_SEG_STATUS_CHAIN_TOO_LONG (q : Nat) : (PRT_SEG_STATUS.CHAIN_TOO_LONG q).known :=
  known_of (fieldName_PRT_SEG_STATUS_CHAIN_TOO_LONG q) (w := 1) (d := 0) (by decide +kernel) rfl rfl (by decide +kernel)
theorem known_PRT_SEG_STATUS_PARTNER_LOST (q : Nat) : (PRT_SEG_STATUS.PARTNER_LOST q).known :=
  known_of (fieldName_PRT_SEG_STATUS_PARTNER_LOST q) (w := 1) (d := 0) (by decide +kernel) rfl rfl (by decide +kernel)
theorem known_PRT_SEG_STATUS_RTT_OVER (q : Nat) : (PRT_SEG_STATUS.RTT_OVER q).known :=
  known_of (fieldName_PRT_SEG_STATUS_RTT_OVER q) (w := 1) (d := 0) (by decide +kernel) rfl rfl (by decide +kernel)
theorem known_PRT_SEG_STATUS_REPLAY_FULL (q : Nat) : (PRT_SEG_STATUS.REPLAY_FULL q).known :=
  known_of (fieldName_PRT_SEG_STATUS_REPLAY_FULL q) (w := 1) (d := 0) (by decide +kernel) rfl rfl (by decide +kernel)
theorem known_PRT_SEG_STATUS_FLIT_DROP (q : Nat) : (PRT_SEG_STATUS.FLIT_DROP q).known :=
  known_of (fieldName_PRT_SEG_STATUS_FLIT_DROP q) (w := 1) (d := 0) (by decide +kernel) rfl rfl (by decide +kernel)
theorem known_PRT_SEG_STATUS_STUFF_HIGH (q : Nat) : (PRT_SEG_STATUS.STUFF_HIGH q).known :=
  known_of (fieldName_PRT_SEG_STATUS_STUFF_HIGH q) (w := 1) (d := 0) (by decide +kernel) rfl rfl (by decide +kernel)
theorem known_PRT_SEG_STATUS_RETRY_EXHAUSTED (q : Nat) : (PRT_SEG_STATUS.RETRY_EXHAUSTED q).known :=
  known_of (fieldName_PRT_SEG_STATUS_RETRY_EXHAUSTED q) (w := 1) (d := 0) (by decide +kernel) rfl rfl (by decide +kernel)
theorem known_PRT_SEG_CNT_NAK_SENT (q : Nat) : (PRT_SEG_CNT.NAK_SENT q).known :=
  known_of (fieldName_PRT_SEG_CNT_NAK_SENT q) (w := 16) (d := 0) (by decide +kernel) rfl rfl (by decide +kernel)
theorem known_PRT_SEG_CNT_REPLAYS (q : Nat) : (PRT_SEG_CNT.REPLAYS q).known :=
  known_of (fieldName_PRT_SEG_CNT_REPLAYS q) (w := 16) (d := 0) (by decide +kernel) rfl rfl (by decide +kernel)
theorem known_LCH_SEG_FEC_CORR_SYM (h : Nat) : (LCH_SEG_FEC.CORR_SYM h).known :=
  known_of (fieldName_LCH_SEG_FEC_CORR_SYM h) (w := 16) (d := 0) (by decide +kernel) rfl rfl (by decide +kernel)
theorem known_LCH_SEG_FEC_UNCORR (h : Nat) : (LCH_SEG_FEC.UNCORR h).known :=
  known_of (fieldName_LCH_SEG_FEC_UNCORR h) (w := 8) (d := 0) (by decide +kernel) rfl rfl (by decide +kernel)
theorem known_LCH_SEG_FEC_SEG_POL_INV (h : Nat) : (LCH_SEG_FEC.SEG_POL_INV h).known :=
  known_of (fieldName_LCH_SEG_FEC_SEG_POL_INV h) (w := 1) (d := 0) (by decide +kernel) rfl rfl (by decide +kernel)
theorem known_LCH_SEG_FEC_FRAME_LOCK (h : Nat) : (LCH_SEG_FEC.FRAME_LOCK h).known :=
  known_of (fieldName_LCH_SEG_FEC_FRAME_LOCK h) (w := 1) (d := 0) (by decide +kernel) rfl rfl (by decide +kernel)
theorem known_LCH_SEG_FEC_HEARD (h : Nat) : (LCH_SEG_FEC.HEARD h).known :=
  known_of (fieldName_LCH_SEG_FEC_HEARD h) (w := 5) (d := 31) (by decide +kernel) rfl rfl (by decide +kernel)
theorem known_PRT_TRL_CTRL_TRELLIS_OFF (q : Nat) : (PRT_TRL_CTRL.TRELLIS_OFF q).known :=
  known_of (fieldName_PRT_TRL_CTRL_TRELLIS_OFF q) (w := 1) (d := 0) (by decide +kernel) rfl rfl (by decide +kernel)
theorem known_PRT_TRL_CTRL_POLICY (q : Nat) : (PRT_TRL_CTRL.POLICY q).known :=
  known_of (fieldName_PRT_TRL_CTRL_POLICY q) (w := 1) (d := 0) (by decide +kernel) rfl rfl (by decide +kernel)
theorem known_PRT_TRL_CTRL_MIN_WIDTH (q : Nat) : (PRT_TRL_CTRL.MIN_WIDTH q).known :=
  known_of (fieldName_PRT_TRL_CTRL_MIN_WIDTH q) (w := 5) (d := 1) (by decide +kernel) rfl rfl (by decide +kernel)
theorem known_PRT_TRL_CTRL_COMMIT_HOLD (q : Nat) : (PRT_TRL_CTRL.COMMIT_HOLD q).known :=
  known_of (fieldName_PRT_TRL_CTRL_COMMIT_HOLD q) (w := 4) (d := 2) (by decide +kernel) rfl rfl (by decide +kernel)
theorem known_PRT_TRL_CTRL_UNCORR_LIMIT (q : Nat) : (PRT_TRL_CTRL.UNCORR_LIMIT q).known :=
  known_of (fieldName_PRT_TRL_CTRL_UNCORR_LIMIT q) (w := 8) (d := 4) (by decide +kernel) rfl rfl (by decide +kernel)
theorem known_PRT_TRL_CTRL_CORR_LIMIT (q : Nat) : (PRT_TRL_CTRL.CORR_LIMIT q).known :=
  known_of (fieldName_PRT_TRL_CTRL_CORR_LIMIT q) (w := 8) (d := 32) (by decide +kernel) rfl rfl (by decide +kernel)
theorem known_PRT_TRL_STATUS_STEER_STATE (q : Nat) : (PRT_TRL_STATUS.STEER_STATE q).known :=
  known_of (fieldName_PRT_TRL_STATUS_STEER_STATE q) (w := 4) (d := 0) (by decide +kernel) rfl rfl (by decide +kernel)
theorem known_PRT_TRL_STATUS_XMIT_STATE (q : Nat) : (PRT_TRL_STATUS.XMIT_STATE q).known :=
  known_of (fieldName_PRT_TRL_STATUS_XMIT_STATE q) (w := 4) (d := 0) (by decide +kernel) rfl rfl (by decide +kernel)
theorem known_PRT_TRL_STATUS_RX_EPOCH (q : Nat) : (PRT_TRL_STATUS.RX_EPOCH q).known :=
  known_of (fieldName_PRT_TRL_STATUS_RX_EPOCH q) (w := 8) (d := 0) (by decide +kernel) rfl rfl (by decide +kernel)
theorem known_PRT_TRL_STATUS_TX_EPOCH (q : Nat) : (PRT_TRL_STATUS.TX_EPOCH q).known :=
  known_of (fieldName_PRT_TRL_STATUS_TX_EPOCH q) (w := 8) (d := 0) (by decide +kernel) rfl rfl (by decide +kernel)
theorem known_PRT_TRL_STATUS_READY_SPARES (q : Nat) : (PRT_TRL_STATUS.READY_SPARES q).known :=
  known_of (fieldName_PRT_TRL_STATUS_READY_SPARES q) (w := 2) (d := 0) (by decide +kernel) rfl rfl (by decide +kernel)
theorem known_PRT_TRL_STATUS_DEGRADED (q : Nat) : (PRT_TRL_STATUS.DEGRADED q).known :=
  known_of (fieldName_PRT_TRL_STATUS_DEGRADED q) (w := 1) (d := 0) (by decide +kernel) rfl rfl (by decide +kernel)
theorem known_PRT_TRL_STATUS_NO_SPARE (q : Nat) : (PRT_TRL_STATUS.NO_SPARE q).known :=
  known_of (fieldName_PRT_TRL_STATUS_NO_SPARE q) (w := 1) (d := 0) (by decide +kernel) rfl rfl (by decide +kernel)
theorem known_PRT_TRL_STATUS_PORT_FAULT (q : Nat) : (PRT_TRL_STATUS.PORT_FAULT q).known :=
  known_of (fieldName_PRT_TRL_STATUS_PORT_FAULT q) (w := 1) (d := 0) (by decide +kernel) rfl rfl (by decide +kernel)
theorem known_PRT_TRL_STATUS_REMAPPED (q : Nat) : (PRT_TRL_STATUS.REMAPPED q).known :=
  known_of (fieldName_PRT_TRL_STATUS_REMAPPED q) (w := 1) (d := 0) (by decide +kernel) rfl rfl (by decide +kernel)
theorem known_PRT_TRL_STATUS_CANCELLED (q : Nat) : (PRT_TRL_STATUS.CANCELLED q).known :=
  known_of (fieldName_PRT_TRL_STATUS_CANCELLED q) (w := 1) (d := 0) (by decide +kernel) rfl rfl (by decide +kernel)
theorem known_PRT_TRL_STATUS_SPARE_LOST (q : Nat) : (PRT_TRL_STATUS.SPARE_LOST q).known :=
  known_of (fieldName_PRT_TRL_STATUS_SPARE_LOST q) (w := 1) (d := 0) (by decide +kernel) rfl rfl (by decide +kernel)
theorem known_PRT_TRL_CNT_PROPOSE_CNT (q : Nat) : (PRT_TRL_CNT.PROPOSE_CNT q).known :=
  known_of (fieldName_PRT_TRL_CNT_PROPOSE_CNT q) (w := 8) (d := 0) (by decide +kernel) rfl rfl (by decide +kernel)
theorem known_PRT_TRL_CNT_COMMIT_CNT (q : Nat) : (PRT_TRL_CNT.COMMIT_CNT q).known :=
  known_of (fieldName_PRT_TRL_CNT_COMMIT_CNT q) (w := 8) (d := 0) (by decide +kernel) rfl rfl (by decide +kernel)
theorem known_PRT_TRL_CNT_CANCEL_CNT (q : Nat) : (PRT_TRL_CNT.CANCEL_CNT q).known :=
  known_of (fieldName_PRT_TRL_CNT_CANCEL_CNT q) (w := 8) (d := 0) (by decide +kernel) rfl rfl (by decide +kernel)
theorem known_PRT_TRL_CNT_REFUSE_CNT (q : Nat) : (PRT_TRL_CNT.REFUSE_CNT q).known :=
  known_of (fieldName_PRT_TRL_CNT_REFUSE_CNT q) (w := 8) (d := 0) (by decide +kernel) rfl rfl (by decide +kernel)
theorem known_PRT_TRL_CMD_GO (q : Nat) : (PRT_TRL_CMD.GO q).known :=
  known_of (fieldName_PRT_TRL_CMD_GO q) (w := 1) (d := 0) (by decide +kernel) rfl rfl (by decide +kernel)
theorem known_PRT_TRL_CMD_KIND (q : Nat) : (PRT_TRL_CMD.KIND q).known :=
  known_of (fieldName_PRT_TRL_CMD_KIND q) (w := 2) (d := 0) (by decide +kernel) rfl rfl (by decide +kernel)
theorem known_PRT_TRL_CMD_LANE (q : Nat) : (PRT_TRL_CMD.LANE q).known :=
  known_of (fieldName_PRT_TRL_CMD_LANE q) (w := 5) (d := 0) (by decide +kernel) rfl rfl (by decide +kernel)
theorem known_PRT_TRL_CMD_SPARE (q : Nat) : (PRT_TRL_CMD.SPARE q).known :=
  known_of (fieldName_PRT_TRL_CMD_SPARE q) (w := 5) (d := 0) (by decide +kernel) rfl rfl (by decide +kernel)
theorem known_LCH_LANE_FAULT_STATUS (h : Nat) : (LCH_LANE_FAULT.STATUS h).known :=
  known_of (fieldName_LCH_LANE_FAULT_STATUS h) (w := 4) (d := 15) (by decide +kernel) rfl rfl (by decide +kernel)
theorem known_LCH_LANE_FAULT_LAST_REASON (h : Nat) : (LCH_LANE_FAULT.LAST_REASON h).known :=
  known_of (fieldName_LCH_LANE_FAULT_LAST_REASON h) (w := 4) (d := 0) (by decide +kernel) rfl rfl (by decide +kernel)
theorem known_LCH_LANE_FAULT_TX_LOGICAL (h : Nat) : (LCH_LANE_FAULT.TX_LOGICAL h).known :=
  known_of (fieldName_LCH_LANE_FAULT_TX_LOGICAL h) (w := 5) (d := 31) (by decide +kernel) rfl rfl (by decide +kernel)
theorem known_LCH_LANE_FAULT_RX_LOGICAL (h : Nat) : (LCH_LANE_FAULT.RX_LOGICAL h).known :=
  known_of (fieldName_LCH_LANE_FAULT_RX_LOGICAL h) (w := 5) (d := 31) (by decide +kernel) rfl rfl (by decide +kernel)
theorem known_LCH_LANE_FAULT_FAULT_NEW (h : Nat) : (LCH_LANE_FAULT.FAULT_NEW h).known :=
  known_of (fieldName_LCH_LANE_FAULT_FAULT_NEW h) (w := 1) (d := 0) (by decide +kernel) rfl rfl (by decide +kernel)
theorem known_LCH_LANE_FAULT_FAULT_CNT (h : Nat) : (LCH_LANE_FAULT.FAULT_CNT h).known :=
  known_of (fieldName_LCH_LANE_FAULT_FAULT_CNT h) (w := 8) (d := 0) (by decide +kernel) rfl rfl (by decide +kernel)
theorem known_CAL_POLICY_AUTO_RUN : (CAL_POLICY.AUTO_RUN).known :=
  known_of fieldName_CAL_POLICY_AUTO_RUN (w := 1) (d := 1) (by decide +kernel) rfl rfl (by decide +kernel)
theorem known_CAL_POLICY_AUTO_STORE : (CAL_POLICY.AUTO_STORE).known :=
  known_of fieldName_CAL_POLICY_AUTO_STORE (w := 1) (d := 1) (by decide +kernel) rfl rfl (by decide +kernel)
theorem known_CAL_POLICY_RUN_INTERVAL : (CAL_POLICY.RUN_INTERVAL).known :=
  known_of fieldName_CAL_POLICY_RUN_INTERVAL (w := 8) (d := 60) (by decide +kernel) rfl rfl (by decide +kernel)
theorem known_CAL_POLICY_TEMP_STEP : (CAL_POLICY.TEMP_STEP).known :=
  known_of fieldName_CAL_POLICY_TEMP_STEP (w := 4) (d := 5) (by decide +kernel) rfl rfl (by decide +kernel)
theorem known_CAL_POLICY_STORE_INTERVAL : (CAL_POLICY.STORE_INTERVAL).known :=
  known_of fieldName_CAL_POLICY_STORE_INTERVAL (w := 8) (d := 6) (by decide +kernel) rfl rfl (by decide +kernel)
theorem known_CAL_CMD_GO : (CAL_CMD.GO).known :=
  known_of fieldName_CAL_CMD_GO (w := 1) (d := 0) (by decide +kernel) rfl rfl (by decide +kernel)
theorem known_CAL_CMD_ACTION : (CAL_CMD.ACTION).known :=
  known_of fieldName_CAL_CMD_ACTION (w := 3) (d := 0) (by decide +kernel) rfl rfl (by decide +kernel)
theorem known_CAL_CMD_SCOPE : (CAL_CMD.SCOPE).known :=
  known_of fieldName_CAL_CMD_SCOPE (w := 2) (d := 0) (by decide +kernel) rfl rfl (by decide +kernel)
theorem known_CAL_CMD_HALF : (CAL_CMD.HALF).known :=
  known_of fieldName_CAL_CMD_HALF (w := 1) (d := 0) (by decide +kernel) rfl rfl (by decide +kernel)
theorem known_CAL_CMD_INDEX : (CAL_CMD.INDEX).known :=
  known_of fieldName_CAL_CMD_INDEX (w := 8) (d := 0) (by decide +kernel) rfl rfl (by decide +kernel)
theorem known_CAL_STATUS_STORE_BUSY : (CAL_STATUS.STORE_BUSY).known :=
  known_of fieldName_CAL_STATUS_STORE_BUSY (w := 1) (d := 0) (by decide +kernel) rfl rfl (by decide +kernel)
theorem known_CAL_STATUS_STORE_RESULT : (CAL_STATUS.STORE_RESULT).known :=
  known_of fieldName_CAL_STATUS_STORE_RESULT (w := 3) (d := 0) (by decide +kernel) rfl rfl (by decide +kernel)
theorem known_CAL_STATUS_BOOT_COPY : (CAL_STATUS.BOOT_COPY).known :=
  known_of fieldName_CAL_STATUS_BOOT_COPY (w := 2) (d := 0) (by decide +kernel) rfl rfl (by decide +kernel)
theorem known_CAL_STATUS_DIRTY : (CAL_STATUS.DIRTY).known :=
  known_of fieldName_CAL_STATUS_DIRTY (w := 1) (d := 0) (by decide +kernel) rfl rfl (by decide +kernel)
theorem known_CAL_STATUS_RUNS_ACTIVE : (CAL_STATUS.RUNS_ACTIVE).known :=
  known_of fieldName_CAL_STATUS_RUNS_ACTIVE (w := 10) (d := 0) (by decide +kernel) rfl rfl (by decide +kernel)
theorem known_CAL_GEN_GENERATION : (CAL_GEN.GENERATION).known :=
  known_of fieldName_CAL_GEN_GENERATION (w := 32) (d := 0) (by decide +kernel) rfl rfl (by decide +kernel)
theorem known_CAL_TEMP_VALID (t : Nat) : (CAL_TEMP.VALID t).known :=
  known_of (fieldName_CAL_TEMP_VALID t) (w := 1) (d := 0) (by decide +kernel) rfl rfl (by decide +kernel)
theorem known_CAL_TEMP_TEMP (t : Nat) : (CAL_TEMP.TEMP t).known :=
  known_of (fieldName_CAL_TEMP_TEMP t) (w := 10) (d := 0) (by decide +kernel) rfl rfl (by decide +kernel)
theorem known_CAL_RX_HOLD (h : Nat) : (CAL_RX.HOLD h).known :=
  known_of (fieldName_CAL_RX_HOLD h) (w := 1) (d := 0) (by decide +kernel) rfl rfl (by decide +kernel)
theorem known_CAL_RX_LAST_RESULT (h : Nat) : (CAL_RX.LAST_RESULT h).known :=
  known_of (fieldName_CAL_RX_LAST_RESULT h) (w := 4) (d := 0) (by decide +kernel) rfl rfl (by decide +kernel)
theorem known_CAL_RX_NQ_REASON (h : Nat) : (CAL_RX.NQ_REASON h).known :=
  known_of (fieldName_CAL_RX_NQ_REASON h) (w := 8) (d := 0) (by decide +kernel) rfl rfl (by decide +kernel)
theorem known_CAL_RX_APPLIED_TEMP (h : Nat) : (CAL_RX.APPLIED_TEMP h).known :=
  known_of (fieldName_CAL_RX_APPLIED_TEMP h) (w := 8) (d := 0) (by decide +kernel) rfl rfl (by decide +kernel)
theorem known_CAL_RX_VALID_POINTS (h : Nat) : (CAL_RX.VALID_POINTS h).known :=
  known_of (fieldName_CAL_RX_VALID_POINTS h) (w := 4) (d := 0) (by decide +kernel) rfl rfl (by decide +kernel)
theorem known_CAL_RX_RUN_CNT (h : Nat) : (CAL_RX.RUN_CNT h).known :=
  known_of (fieldName_CAL_RX_RUN_CNT h) (w := 4) (d := 0) (by decide +kernel) rfl rfl (by decide +kernel)
theorem known_ENG_CTRL_SLICE_JOBS_OFF : (ENG_CTRL.SLICE_JOBS_OFF).known :=
  known_of fieldName_ENG_CTRL_SLICE_JOBS_OFF (w := 1) (d := 0) (by decide +kernel) rfl rfl (by decide +kernel)
theorem known_ENG_CTRL_FAULT_LIMIT : (ENG_CTRL.FAULT_LIMIT).known :=
  known_of fieldName_ENG_CTRL_FAULT_LIMIT (w := 4) (d := 3) (by decide +kernel) rfl rfl (by decide +kernel)
theorem known_ENG_CTRL_WAIT_LIMIT : (ENG_CTRL.WAIT_LIMIT).known :=
  known_of fieldName_ENG_CTRL_WAIT_LIMIT (w := 8) (d := 100) (by decide +kernel) rfl rfl (by decide +kernel)
theorem known_ENG_STATUS_STATE (k : Nat) : (ENG_STATUS.STATE k).known :=
  known_of (fieldName_ENG_STATUS_STATE k) (w := 4) (d := 0) (by decide +kernel) rfl rfl (by decide +kernel)
theorem known_ENG_STATUS_FAULTS (k : Nat) : (ENG_STATUS.FAULTS k).known :=
  known_of (fieldName_ENG_STATUS_FAULTS k) (w := 4) (d := 0) (by decide +kernel) rfl rfl (by decide +kernel)
theorem known_ENG_STATUS_LOAD (k : Nat) : (ENG_STATUS.LOAD k).known :=
  known_of (fieldName_ENG_STATUS_LOAD k) (w := 8) (d := 0) (by decide +kernel) rfl rfl (by decide +kernel)
theorem known_ENG_STATUS_JOB_BUSY (k : Nat) : (ENG_STATUS.JOB_BUSY k).known :=
  known_of (fieldName_ENG_STATUS_JOB_BUSY k) (w := 1) (d := 0) (by decide +kernel) rfl rfl (by decide +kernel)
theorem known_ENG_STATUS_JOB_STATE (k : Nat) : (ENG_STATUS.JOB_STATE k).known :=
  known_of (fieldName_ENG_STATUS_JOB_STATE k) (w := 3) (d := 0) (by decide +kernel) rfl rfl (by decide +kernel)
theorem known_ENG_STATUS_JOB_RX (k : Nat) : (ENG_STATUS.JOB_RX k).known :=
  known_of (fieldName_ENG_STATUS_JOB_RX k) (w := 2) (d := 0) (by decide +kernel) rfl rfl (by decide +kernel)
theorem known_ENG_STATUS_JOB_KIND (k : Nat) : (ENG_STATUS.JOB_KIND k).known :=
  known_of (fieldName_ENG_STATUS_JOB_KIND k) (w := 2) (d := 0) (by decide +kernel) rfl rfl (by decide +kernel)
theorem known_ENG_STATUS_JOB_SLICE (k : Nat) : (ENG_STATUS.JOB_SLICE k).known :=
  known_of (fieldName_ENG_STATUS_JOB_SLICE k) (w := 8) (d := 0) (by decide +kernel) rfl rfl (by decide +kernel)
theorem known_ENG_PERMIT_DATA_ON_DATA (s : Nat) : (ENG_PERMIT.DATA_ON_DATA s).known :=
  known_of (fieldName_ENG_PERMIT_DATA_ON_DATA s) (w := 1) (d := 0) (by decide +kernel) rfl rfl (by decide +kernel)
theorem known_ENG_PERMIT_MARGIN_DATA (s : Nat) : (ENG_PERMIT.MARGIN_DATA s).known :=
  known_of (fieldName_ENG_PERMIT_MARGIN_DATA s) (w := 1) (d := 0) (by decide +kernel) rfl rfl (by decide +kernel)
theorem known_ENG_PERMIT_MARGIN_SAMPLER (s : Nat) : (ENG_PERMIT.MARGIN_SAMPLER s).known :=
  known_of (fieldName_ENG_PERMIT_MARGIN_SAMPLER s) (w := 1) (d := 0) (by decide +kernel) rfl rfl (by decide +kernel)
theorem known_ENG_PERMIT_EYE_SCAN (s : Nat) : (ENG_PERMIT.EYE_SCAN s).known :=
  known_of (fieldName_ENG_PERMIT_EYE_SCAN s) (w := 1) (d := 0) (by decide +kernel) rfl rfl (by decide +kernel)
theorem known_ENG_CNT_STEPS (k : Nat) : (ENG_CNT.STEPS k).known :=
  known_of (fieldName_ENG_CNT_STEPS k) (w := 16) (d := 0) (by decide +kernel) rfl rfl (by decide +kernel)
theorem known_ENG_CNT_DISPLACED (k : Nat) : (ENG_CNT.DISPLACED k).known :=
  known_of (fieldName_ENG_CNT_DISPLACED k) (w := 8) (d := 0) (by decide +kernel) rfl rfl (by decide +kernel)
theorem known_ENG_CNT_EXPIRED (k : Nat) : (ENG_CNT.EXPIRED k).known :=
  known_of (fieldName_ENG_CNT_EXPIRED k) (w := 8) (d := 0) (by decide +kernel) rfl rfl (by decide +kernel)
theorem known_IMG_STATUS_BOOT_SLOT : (IMG_STATUS.BOOT_SLOT).known :=
  known_of fieldName_IMG_STATUS_BOOT_SLOT (w := 2) (d := 0) (by decide +kernel) rfl rfl (by decide +kernel)
theorem known_IMG_STATUS_ENG_FW_SLOT : (IMG_STATUS.ENG_FW_SLOT).known :=
  known_of fieldName_IMG_STATUS_ENG_FW_SLOT (w := 2) (d := 0) (by decide +kernel) rfl rfl (by decide +kernel)
theorem known_IMG_STATUS_RECOVERY : (IMG_STATUS.RECOVERY).known :=
  known_of fieldName_IMG_STATUS_RECOVERY (w := 1) (d := 0) (by decide +kernel) rfl rfl (by decide +kernel)
theorem known_IMG_STATUS_CONFIRMED : (IMG_STATUS.CONFIRMED).known :=
  known_of fieldName_IMG_STATUS_CONFIRMED (w := 1) (d := 0) (by decide +kernel) rfl rfl (by decide +kernel)
theorem known_IMG_STATUS_STRUCT_REFUSED : (IMG_STATUS.STRUCT_REFUSED).known :=
  known_of fieldName_IMG_STATUS_STRUCT_REFUSED (w := 1) (d := 0) (by decide +kernel) rfl rfl (by decide +kernel)
theorem known_IMG_STATUS_STRUCT_REASON : (IMG_STATUS.STRUCT_REASON).known :=
  known_of fieldName_IMG_STATUS_STRUCT_REASON (w := 5) (d := 0) (by decide +kernel) rfl rfl (by decide +kernel)
theorem known_IMG_STATUS_ARB_FUSE : (IMG_STATUS.ARB_FUSE).known :=
  known_of fieldName_IMG_STATUS_ARB_FUSE (w := 5) (d := 0) (by decide +kernel) rfl rfl (by decide +kernel)
theorem known_IMG_STATUS_ARB_IMAGE : (IMG_STATUS.ARB_IMAGE).known :=
  known_of fieldName_IMG_STATUS_ARB_IMAGE (w := 5) (d := 0) (by decide +kernel) rfl rfl (by decide +kernel)
theorem known_IMG_STATUS_CMD_RESULT : (IMG_STATUS.CMD_RESULT).known :=
  known_of fieldName_IMG_STATUS_CMD_RESULT (w := 3) (d := 0) (by decide +kernel) rfl rfl (by decide +kernel)
theorem known_IMG_STATUS_CMD_BUSY : (IMG_STATUS.CMD_BUSY).known :=
  known_of fieldName_IMG_STATUS_CMD_BUSY (w := 1) (d := 0) (by decide +kernel) rfl rfl (by decide +kernel)
theorem known_IMG_CMD_GO : (IMG_CMD.GO).known :=
  known_of fieldName_IMG_CMD_GO (w := 1) (d := 0) (by decide +kernel) rfl rfl (by decide +kernel)
theorem known_IMG_CMD_ACTION : (IMG_CMD.ACTION).known :=
  known_of fieldName_IMG_CMD_ACTION (w := 3) (d := 0) (by decide +kernel) rfl rfl (by decide +kernel)
theorem known_IMG_CMD_KEY : (IMG_CMD.KEY).known :=
  known_of fieldName_IMG_CMD_KEY (w := 2) (d := 0) (by decide +kernel) rfl rfl (by decide +kernel)
theorem known_IMG_CMD_LEN : (IMG_CMD.LEN).known :=
  known_of fieldName_IMG_CMD_LEN (w := 12) (d := 0) (by decide +kernel) rfl rfl (by decide +kernel)
theorem known_TXN_SCOPE_G_TRACE : (TXN_SCOPE_G.TRACE).known :=
  known_of fieldName_TXN_SCOPE_G_TRACE (w := 1) (d := 0) (by decide +kernel) rfl rfl (by decide +kernel)
theorem known_TXN_SCOPE_G_DOMAIN : (TXN_SCOPE_G.DOMAIN).known :=
  known_of fieldName_TXN_SCOPE_G_DOMAIN (w := 1) (d := 0) (by decide +kernel) rfl rfl (by decide +kernel)
theorem known_TXN_SCOPE_G_POWER_POLICY : (TXN_SCOPE_G.POWER_POLICY).known :=
  known_of fieldName_TXN_SCOPE_G_POWER_POLICY (w := 1) (d := 0) (by decide +kernel) rfl rfl (by decide +kernel)
theorem known_TXN_SCOPE_G_SLICE_DEFAULTS : (TXN_SCOPE_G.SLICE_DEFAULTS).known :=
  known_of fieldName_TXN_SCOPE_G_SLICE_DEFAULTS (w := 1) (d := 0) (by decide +kernel) rfl rfl (by decide +kernel)
theorem known_TXN_SCOPE_G_LANE_POLICY : (TXN_SCOPE_G.LANE_POLICY).known :=
  known_of fieldName_TXN_SCOPE_G_LANE_POLICY (w := 1) (d := 0) (by decide +kernel) rfl rfl (by decide +kernel)
theorem known_TXN_SCOPE_G_CHANNEL_TABLE : (TXN_SCOPE_G.CHANNEL_TABLE).known :=
  known_of fieldName_TXN_SCOPE_G_CHANNEL_TABLE (w := 1) (d := 0) (by decide +kernel) rfl rfl (by decide +kernel)
theorem known_TXN_SCOPE_P_PORTS (k : Nat) : (TXN_SCOPE_P.PORTS k).known :=
  known_of (fieldName_TXN_SCOPE_P_PORTS k) (w := 32) (d := 0) (by decide +kernel) rfl rfl (by decide +kernel)
theorem known_TXN_TIME_TIME (k : Nat) : (TXN_TIME.TIME k).known :=
  known_of (fieldName_TXN_TIME_TIME k) (w := 32) (d := 0) (by decide +kernel) rfl rfl (by decide +kernel)
theorem known_TXN_CMD_GO : (TXN_CMD.GO).known :=
  known_of fieldName_TXN_CMD_GO (w := 1) (d := 0) (by decide +kernel) rfl rfl (by decide +kernel)
theorem known_TXN_CMD_ACTION : (TXN_CMD.ACTION).known :=
  known_of fieldName_TXN_CMD_ACTION (w := 2) (d := 0) (by decide +kernel) rfl rfl (by decide +kernel)
theorem known_TXN_STATUS_STATE : (TXN_STATUS.STATE).known :=
  known_of fieldName_TXN_STATUS_STATE (w := 4) (d := 0) (by decide +kernel) rfl rfl (by decide +kernel)
theorem known_TXN_STATUS_LAST_RESULT : (TXN_STATUS.LAST_RESULT).known :=
  known_of fieldName_TXN_STATUS_LAST_RESULT (w := 3) (d := 0) (by decide +kernel) rfl rfl (by decide +kernel)
theorem known_TXN_STATUS_STRAY : (TXN_STATUS.STRAY).known :=
  known_of fieldName_TXN_STATUS_STRAY (w := 1) (d := 0) (by decide +kernel) rfl rfl (by decide +kernel)
theorem known_TXN_STATUS_ID : (TXN_STATUS.ID).known :=
  known_of fieldName_TXN_STATUS_ID (w := 8) (d := 0) (by decide +kernel) rfl rfl (by decide +kernel)
theorem known_TXN_STATUS_FAIL_INDEX : (TXN_STATUS.FAIL_INDEX).known :=
  known_of fieldName_TXN_STATUS_FAIL_INDEX (w := 8) (d := 255) (by decide +kernel) rfl rfl (by decide +kernel)
theorem known_TXN_STATUS_REASON : (TXN_STATUS.REASON).known :=
  known_of fieldName_TXN_STATUS_REASON (w := 5) (d := 0) (by decide +kernel) rfl rfl (by decide +kernel)
theorem known_IMG_SRC_ADDR (k : Nat) : (IMG_SRC.ADDR k).known :=
  known_of (fieldName_IMG_SRC_ADDR k) (w := 32) (d := 0) (by decide +kernel) rfl rfl (by decide +kernel)
theorem known_IMG_KEYS_FW_KEY : (IMG_KEYS.FW_KEY).known :=
  known_of fieldName_IMG_KEYS_FW_KEY (w := 1) (d := 1) (by decide +kernel) rfl rfl (by decide +kernel)
theorem known_IMG_KEYS_SLOT (t : Nat) : (IMG_KEYS.SLOT t).known := by
  have h : (IMG_KEYS.SLOT t).key % 32 = 2 * (t % 4) := by unfold IMG_KEYS.SLOT Cell.key; simp only; omega
  refine ⟨by rw [fieldName_IMG_KEYS_SLOT]; exact (by decide +kernel : (lookupKey 0x20200 shapes).map Prod.fst = some 2), ?_⟩
  have e : coldOf (IMG_KEYS.SLOT t).key = (if (IMG_KEYS.SLOT t).key % 32 = 0 then 1 else 0) := by
    unfold coldOf
    rw [fieldName_IMG_KEYS_SLOT]
    exact (if_neg (by decide)).trans ((if_neg (by decide)).trans ((if_neg (by decide)).trans (if_pos rfl)))
  have e2 : (2 * (t % 4) = 0) = (t % 4 = 0) := propext (by omega)
  rw [e, h]
  simp only [e2]
  rfl
theorem known_IMG_BCT_INDEX_INDEX : (IMG_BCT_INDEX.INDEX).known :=
  known_of fieldName_IMG_BCT_INDEX_INDEX (w := 13) (d := 0) (by decide +kernel) rfl rfl (by decide +kernel)
theorem known_IMG_BCT_ENTRY (k : Nat) : (IMG_BCT.ENTRY k).known :=
  known_of (fieldName_IMG_BCT_ENTRY k) (w := 32) (d := 0) (by decide +kernel) rfl rfl (by decide +kernel)
theorem known_GLB_ALIVE_MARK : (GLB_ALIVE.MARK).known :=
  known_of fieldName_GLB_ALIVE_MARK (w := 7) (d := 42) (by decide +kernel) rfl rfl (by decide +kernel)
theorem known_GLB_ALIVE_MGMT_RESETS : (GLB_ALIVE.MGMT_RESETS).known :=
  known_of fieldName_GLB_ALIVE_MGMT_RESETS (w := 8) (d := 0) (by decide +kernel) rfl rfl (by decide +kernel)
theorem known_GLB_ALIVE_BEAT : (GLB_ALIVE.BEAT).known :=
  known_of fieldName_GLB_ALIVE_BEAT (w := 16) (d := 0) (by decide +kernel) rfl rfl (by decide +kernel)
theorem known_GLB_MGMT_CTRL_WAKE_ON_EVENT : (GLB_MGMT_CTRL.WAKE_ON_EVENT).known :=
  known_of fieldName_GLB_MGMT_CTRL_WAKE_ON_EVENT (w := 1) (d := 0) (by decide +kernel) rfl rfl (by decide +kernel)
theorem known_GLB_MGMT_CTRL_WAKE_CLASS : (GLB_MGMT_CTRL.WAKE_CLASS).known :=
  known_of fieldName_GLB_MGMT_CTRL_WAKE_CLASS (w := 2) (d := 2) (by decide +kernel) rfl rfl (by decide +kernel)
theorem known_GLB_MGMT_STATUS_LINK_UP : (GLB_MGMT_STATUS.LINK_UP).known :=
  known_of fieldName_GLB_MGMT_STATUS_LINK_UP (w := 1) (d := 0) (by decide +kernel) rfl rfl (by decide +kernel)
theorem known_GLB_MGMT_STATUS_LINK_RATE : (GLB_MGMT_STATUS.LINK_RATE).known :=
  known_of fieldName_GLB_MGMT_STATUS_LINK_RATE (w := 3) (d := 0) (by decide +kernel) rfl rfl (by decide +kernel)
theorem known_GLB_MGMT_STATUS_LINK_WIDTH : (GLB_MGMT_STATUS.LINK_WIDTH).known :=
  known_of fieldName_GLB_MGMT_STATUS_LINK_WIDTH (w := 2) (d := 0) (by decide +kernel) rfl rfl (by decide +kernel)
theorem known_GLB_MGMT_STATUS_FLIT : (GLB_MGMT_STATUS.FLIT).known :=
  known_of fieldName_GLB_MGMT_STATUS_FLIT (w := 1) (d := 0) (by decide +kernel) rfl rfl (by decide +kernel)
theorem known_GLB_MGMT_STATUS_DMA_HELD : (GLB_MGMT_STATUS.DMA_HELD).known :=
  known_of fieldName_GLB_MGMT_STATUS_DMA_HELD (w := 1) (d := 1) (by decide +kernel) rfl rfl (by decide +kernel)
theorem known_GLB_MGMT_STATUS_BAD_ACCESS : (GLB_MGMT_STATUS.BAD_ACCESS).known :=
  known_of fieldName_GLB_MGMT_STATUS_BAD_ACCESS (w := 1) (d := 0) (by decide +kernel) rfl rfl (by decide +kernel)
theorem known_GLB_MGMT_STATUS_LATE_CPL : (GLB_MGMT_STATUS.LATE_CPL).known :=
  known_of fieldName_GLB_MGMT_STATUS_LATE_CPL (w := 1) (d := 0) (by decide +kernel) rfl rfl (by decide +kernel)
theorem known_GLB_MGMT_STATUS_STAGING_FULL : (GLB_MGMT_STATUS.STAGING_FULL).known :=
  known_of fieldName_GLB_MGMT_STATUS_STAGING_FULL (w := 1) (d := 0) (by decide +kernel) rfl rfl (by decide +kernel)
theorem known_GLB_MGMT_STATUS_STAGED : (GLB_MGMT_STATUS.STAGED).known :=
  known_of fieldName_GLB_MGMT_STATUS_STAGED (w := 14) (d := 0) (by decide +kernel) rfl rfl (by decide +kernel)
theorem known_GLB_MGMT_CNT_LATE_CPL_CNT : (GLB_MGMT_CNT.LATE_CPL_CNT).known :=
  known_of fieldName_GLB_MGMT_CNT_LATE_CPL_CNT (w := 16) (d := 0) (by decide +kernel) rfl rfl (by decide +kernel)
theorem known_GLB_MGMT_CNT_TIMEOUTS : (GLB_MGMT_CNT.TIMEOUTS).known :=
  known_of fieldName_GLB_MGMT_CNT_TIMEOUTS (w := 8) (d := 0) (by decide +kernel) rfl rfl (by decide +kernel)
theorem known_GLB_MGMT_CNT_STAGE_DROPS : (GLB_MGMT_CNT.STAGE_DROPS).known :=
  known_of fieldName_GLB_MGMT_CNT_STAGE_DROPS (w := 8) (d := 0) (by decide +kernel) rfl rfl (by decide +kernel)
theorem known_SLC_CTRL_GO (s : Nat) : (SLC_CTRL.GO s).known :=
  known_of (fieldName_SLC_CTRL_GO s) (w := 1) (d := 0) (by decide +kernel) rfl rfl (by decide +kernel)
theorem known_SLC_CTRL_ACTION (s : Nat) : (SLC_CTRL.ACTION s).known :=
  known_of (fieldName_SLC_CTRL_ACTION s) (w := 3) (d := 0) (by decide +kernel) rfl rfl (by decide +kernel)
theorem known_SLC_CTRL_PASID (s : Nat) : (SLC_CTRL.PASID s).known :=
  known_of (fieldName_SLC_CTRL_PASID s) (w := 20) (d := 0) (by decide +kernel) rfl rfl (by decide +kernel)
theorem known_SLC_STATUS_STATE (s : Nat) : (SLC_STATUS.STATE s).known :=
  known_of (fieldName_SLC_STATUS_STATE s) (w := 4) (d := 0) (by decide +kernel) rfl rfl (by decide +kernel)
theorem known_SLC_STATUS_RESULT (s : Nat) : (SLC_STATUS.RESULT s).known :=
  known_of (fieldName_SLC_STATUS_RESULT s) (w := 4) (d := 0) (by decide +kernel) rfl rfl (by decide +kernel)
theorem known_SLC_STATUS_GENERATION (s : Nat) : (SLC_STATUS.GENERATION s).known :=
  known_of (fieldName_SLC_STATUS_GENERATION s) (w := 8) (d := 0) (by decide +kernel) rfl rfl (by decide +kernel)
theorem known_SLC_STATUS_RESET_DONE (s : Nat) : (SLC_STATUS.RESET_DONE s).known :=
  known_of (fieldName_SLC_STATUS_RESET_DONE s) (w := 1) (d := 0) (by decide +kernel) rfl rfl (by decide +kernel)
theorem known_SLC_STATUS_DESTROY_PENDING (s : Nat) : (SLC_STATUS.DESTROY_PENDING s).known :=
  known_of (fieldName_SLC_STATUS_DESTROY_PENDING s) (w := 1) (d := 0) (by decide +kernel) rfl rfl (by decide +kernel)
theorem known_SLC_STATUS_STAGED (s : Nat) : (SLC_STATUS.STAGED s).known :=
  known_of (fieldName_SLC_STATUS_STAGED s) (w := 14) (d := 0) (by decide +kernel) rfl rfl (by decide +kernel)
theorem known_SLC_RINGS_BASE (s : Nat) : (SLC_RINGS.BASE s).known :=
  known_of (fieldName_SLC_RINGS_BASE s) (w := 14) (d := 0) (by decide +kernel) rfl rfl (by decide +kernel)
theorem known_SLC_RINGS_COUNT (s : Nat) : (SLC_RINGS.COUNT s).known :=
  known_of (fieldName_SLC_RINGS_COUNT s) (w := 11) (d := 0) (by decide +kernel) rfl rfl (by decide +kernel)
theorem known_SLC_VECTORS_BASE (s : Nat) : (SLC_VECTORS.BASE s).known :=
  known_of (fieldName_SLC_VECTORS_BASE s) (w := 11) (d := 0) (by decide +kernel) rfl rfl (by decide +kernel)
theorem known_SLC_VECTORS_COUNT (s : Nat) : (SLC_VECTORS.COUNT s).known :=
  known_of (fieldName_SLC_VECTORS_COUNT s) (w := 12) (d := 0) (by decide +kernel) rfl rfl (by decide +kernel)
theorem known_SLC_SHARE_TOKENS (s : Nat) : (SLC_SHARE.TOKENS s).known :=
  known_of (fieldName_SLC_SHARE_TOKENS s) (w := 10) (d := 0) (by decide +kernel) rfl rfl (by decide +kernel)
theorem known_SLC_SHARE_GRANULES (s : Nat) : (SLC_SHARE.GRANULES s).known :=
  known_of (fieldName_SLC_SHARE_GRANULES s) (w := 17) (d := 0) (by decide +kernel) rfl rfl (by decide +kernel)
theorem known_SLC_PORTS_PORTS (s k : Nat) : (SLC_PORTS.PORTS s k).known :=
  known_of (fieldName_SLC_PORTS_PORTS s k) (w := 32) (d := 0) (by decide +kernel) rfl rfl (by decide +kernel)
theorem known_SLC_DEF_S0_RINGS : (SLC_DEF_S0.RINGS).known :=
  known_of fieldName_SLC_DEF_S0_RINGS (w := 7) (d := 4) (by decide +kernel) rfl rfl (by decide +kernel)
theorem known_SLC_DEF_S0_VECTORS : (SLC_DEF_S0.VECTORS).known :=
  known_of fieldName_SLC_DEF_S0_VECTORS (w := 8) (d := 4) (by decide +kernel) rfl rfl (by decide +kernel)
theorem known_SLC_DEF_S0_TOKENS : (SLC_DEF_S0.TOKENS).known :=
  known_of fieldName_SLC_DEF_S0_TOKENS (w := 7) (d := 16) (by decide +kernel) rfl rfl (by decide +kernel)
theorem known_SLC_DEF_S0_GRANULES : (SLC_DEF_S0.GRANULES).known :=
  known_of fieldName_SLC_DEF_S0_GRANULES (w := 7) (d := 4) (by decide +kernel) rfl rfl (by decide +kernel)
theorem known_RNG_INFO_VALID (i : Nat) : (RNG_INFO.VALID i).known :=
  known_of (fieldName_RNG_INFO_VALID i) (w := 1) (d := 0) (by decide +kernel) rfl rfl (by decide +kernel)
theorem known_RNG_INFO_STATE (i : Nat) : (RNG_INFO.STATE i).known :=
  known_of (fieldName_RNG_INFO_STATE i) (w := 4) (d := 0) (by decide +kernel) rfl rfl (by decide +kernel)
theorem known_RNG_INFO_OWNER (i : Nat) : (RNG_INFO.OWNER i).known :=
  known_of (fieldName_RNG_INFO_OWNER i) (w := 8) (d := 0) (by decide +kernel) rfl rfl (by decide +kernel)
theorem known_RNG_INFO_KIND (i : Nat) : (RNG_INFO.KIND i).known :=
  known_of (fieldName_RNG_INFO_KIND i) (w := 1) (d := 0) (by decide +kernel) rfl rfl (by decide +kernel)
theorem known_RNG_INFO_LOCAL (i : Nat) : (RNG_INFO.LOCAL i).known :=
  known_of (fieldName_RNG_INFO_LOCAL i) (w := 10) (d := 0) (by decide +kernel) rfl rfl (by decide +kernel)
theorem known_SLC_SELF_INFO_SLICE (s : Nat) : (SLC_SELF_INFO.SLICE s).known :=
  known_of (fieldName_SLC_SELF_INFO_SLICE s) (w := 8) (d := 0) (by decide +kernel) rfl rfl (by decide +kernel)
theorem known_SLC_SELF_INFO_GENERATION (s : Nat) : (SLC_SELF_INFO.GENERATION s).known :=
  known_of (fieldName_SLC_SELF_INFO_GENERATION s) (w := 8) (d := 0) (by decide +kernel) rfl rfl (by decide +kernel)
theorem known_SLC_SELF_INFO_STATE (s : Nat) : (SLC_SELF_INFO.STATE s).known :=
  known_of (fieldName_SLC_SELF_INFO_STATE s) (w := 4) (d := 0) (by decide +kernel) rfl rfl (by decide +kernel)
theorem known_SLC_SELF_INFO_HELD (s : Nat) : (SLC_SELF_INFO.HELD s).known :=
  known_of (fieldName_SLC_SELF_INFO_HELD s) (w := 1) (d := 0) (by decide +kernel) rfl rfl (by decide +kernel)
theorem known_SLC_SELF_CTRL_RESET (s : Nat) : (SLC_SELF_CTRL.RESET s).known :=
  known_of (fieldName_SLC_SELF_CTRL_RESET s) (w := 1) (d := 0) (by decide +kernel) rfl rfl (by decide +kernel)
theorem known_SLC_SELF_CTRL_NOTICE_RING (s : Nat) : (SLC_SELF_CTRL.NOTICE_RING s).known :=
  known_of (fieldName_SLC_SELF_CTRL_NOTICE_RING s) (w := 11) (d := 0) (by decide +kernel) rfl rfl (by decide +kernel)
theorem known_SLC_SELF_CTRL_CLASS_MASK (s : Nat) : (SLC_SELF_CTRL.CLASS_MASK s).known :=
  known_of (fieldName_SLC_SELF_CTRL_CLASS_MASK s) (w := 3) (d := 7) (by decide +kernel) rfl rfl (by decide +kernel)
theorem known_SLC_SELF_STATUS_RESET_DONE (s : Nat) : (SLC_SELF_STATUS.RESET_DONE s).known :=
  known_of (fieldName_SLC_SELF_STATUS_RESET_DONE s) (w := 1) (d := 0) (by decide +kernel) rfl rfl (by decide +kernel)
theorem known_SLC_SELF_STATUS_DISCARDED (s : Nat) : (SLC_SELF_STATUS.DISCARDED s).known :=
  known_of (fieldName_SLC_SELF_STATUS_DISCARDED s) (w := 8) (d := 0) (by decide +kernel) rfl rfl (by decide +kernel)
theorem known_SLC_SELF_STATUS_DROPPED (s : Nat) : (SLC_SELF_STATUS.DROPPED s).known :=
  known_of (fieldName_SLC_SELF_STATUS_DROPPED s) (w := 8) (d := 0) (by decide +kernel) rfl rfl (by decide +kernel)
theorem known_RNG_BASE_ADDR (s i k : Nat) : (RNG_BASE.ADDR s i k).known :=
  known_of (fieldName_RNG_BASE_ADDR s i k) (w := 32) (d := 0) (by decide +kernel) rfl rfl (by decide +kernel)
theorem known_RNG_CTRL_ENABLE (s i : Nat) : (RNG_CTRL.ENABLE s i).known :=
  known_of (fieldName_RNG_CTRL_ENABLE s i) (w := 1) (d := 0) (by decide +kernel) rfl rfl (by decide +kernel)
theorem known_RNG_CTRL_RESUME (s i : Nat) : (RNG_CTRL.RESUME s i).known :=
  known_of (fieldName_RNG_CTRL_RESUME s i) (w := 1) (d := 0) (by decide +kernel) rfl rfl (by decide +kernel)
theorem known_RNG_CTRL_KIND (s i : Nat) : (RNG_CTRL.KIND s i).known :=
  known_of (fieldName_RNG_CTRL_KIND s i) (w := 1) (d := 0) (by decide +kernel) rfl rfl (by decide +kernel)
theorem known_RNG_CTRL_INT_EN (s i : Nat) : (RNG_CTRL.INT_EN s i).known :=
  known_of (fieldName_RNG_CTRL_INT_EN s i) (w := 1) (d := 0) (by decide +kernel) rfl rfl (by decide +kernel)
theorem known_RNG_CTRL_SIZE_LOG2 (s i : Nat) : (RNG_CTRL.SIZE_LOG2 s i).known :=
  known_of (fieldName_RNG_CTRL_SIZE_LOG2 s i) (w := 4) (d := 4) (by decide +kernel) rfl rfl (by decide +kernel)
theorem known_RNG_CTRL_VECTOR (s i : Nat) : (RNG_CTRL.VECTOR s i).known :=
  known_of (fieldName_RNG_CTRL_VECTOR s i) (w := 11) (d := 0) (by decide +kernel) rfl rfl (by decide +kernel)
theorem known_RNG_DOORBELL_INDEX (s i : Nat) : (RNG_DOORBELL.INDEX s i).known :=
  known_of (fieldName_RNG_DOORBELL_INDEX s i) (w := 16) (d := 0) (by decide +kernel) rfl rfl (by decide +kernel)
theorem known_RNG_POS_HEAD (s i : Nat) : (RNG_POS.HEAD s i).known :=
  known_of (fieldName_RNG_POS_HEAD s i) (w := 16) (d := 0) (by decide +kernel) rfl rfl (by decide +kernel)
theorem known_RNG_POS_TAIL (s i : Nat) : (RNG_POS.TAIL s i).known :=
  known_of (fieldName_RNG_POS_TAIL s i) (w := 16) (d := 0) (by decide +kernel) rfl rfl (by decide +kernel)
theorem known_RNG_STATUS_STATE (s i : Nat) : (RNG_STATUS.STATE s i).known :=
  known_of (fieldName_RNG_STATUS_STATE s i) (w := 4) (d := 0) (by decide +kernel) rfl rfl (by decide +kernel)
theorem known_RNG_STATUS_PHASE (s i : Nat) : (RNG_STATUS.PHASE s i).known :=
  known_of (fieldName_RNG_STATUS_PHASE s i) (w := 1) (d := 0) (by decide +kernel) rfl rfl (by decide +kernel)
theorem known_RNG_STATUS_ERRORS (s i : Nat) : (RNG_STATUS.ERRORS s i).known :=
  known_of (fieldName_RNG_STATUS_ERRORS s i) (w := 8) (d := 0) (by decide +kernel) rfl rfl (by decide +kernel)
theorem known_GLB_FABRIC_ID_FABRIC_ID : (GLB_FABRIC_ID.FABRIC_ID).known :=
  known_of fieldName_GLB_FABRIC_ID_FABRIC_ID (w := 10) (d := 0) (by decide +kernel) rfl rfl (by decide +kernel)
theorem known_TIM_CTRL_ROLE : (TIM_CTRL.ROLE).known :=
  known_of fieldName_TIM_CTRL_ROLE (w := 2) (d := 0) (by decide +kernel) rfl rfl (by decide +kernel)
theorem known_TIM_CTRL_TPULSE_MODE : (TIM_CTRL.TPULSE_MODE).known :=
  known_of fieldName_TIM_CTRL_TPULSE_MODE (w := 2) (d := 0) (by decide +kernel) rfl rfl (by decide +kernel)
theorem known_TIM_CTRL_TIME_FRAMES_OFF : (TIM_CTRL.TIME_FRAMES_OFF).known :=
  known_of fieldName_TIM_CTRL_TIME_FRAMES_OFF (w := 1) (d := 0) (by decide +kernel) rfl rfl (by decide +kernel)
theorem known_TIM_STATUS_QUALITY : (TIM_STATUS.QUALITY).known :=
  known_of fieldName_TIM_STATUS_QUALITY (w := 2) (d := 0) (by decide +kernel) rfl rfl (by decide +kernel)
theorem known_TIM_STATUS_LOCKED : (TIM_STATUS.LOCKED).known :=
  known_of fieldName_TIM_STATUS_LOCKED (w := 1) (d := 0) (by decide +kernel) rfl rfl (by decide +kernel)
theorem known_TIM_STATUS_HOLDOVER : (TIM_STATUS.HOLDOVER).known :=
  known_of fieldName_TIM_STATUS_HOLDOVER (w := 1) (d := 0) (by decide +kernel) rfl rfl (by decide +kernel)
theorem known_TIM_STATUS_SLEWING : (TIM_STATUS.SLEWING).known :=
  known_of fieldName_TIM_STATUS_SLEWING (w := 1) (d := 0) (by decide +kernel) rfl rfl (by decide +kernel)
theorem known_TIM_STATUS_CONFLICT : (TIM_STATUS.CONFLICT).known :=
  known_of fieldName_TIM_STATUS_CONFLICT (w := 1) (d := 0) (by decide +kernel) rfl rfl (by decide +kernel)
theorem known_TIM_STATUS_STEPPED : (TIM_STATUS.STEPPED).known :=
  known_of fieldName_TIM_STATUS_STEPPED (w := 1) (d := 0) (by decide +kernel) rfl rfl (by decide +kernel)
theorem known_TIM_STATUS_STRATUM : (TIM_STATUS.STRATUM).known :=
  known_of fieldName_TIM_STATUS_STRATUM (w := 4) (d := 15) (by decide +kernel) rfl rfl (by decide +kernel)
theorem known_TIM_STATUS_PARENT_SIDE : (TIM_STATUS.PARENT_SIDE).known :=
  known_of fieldName_TIM_STATUS_PARENT_SIDE (w := 1) (d := 0) (by decide +kernel) rfl rfl (by decide +kernel)
theorem known_TIM_STATUS_PARENT_PORT : (TIM_STATUS.PARENT_PORT).known :=
  known_of fieldName_TIM_STATUS_PARENT_PORT (w := 6) (d := 0) (by decide +kernel) rfl rfl (by decide +kernel)
theorem known_TIM_STATUS_PARENT_PULSE : (TIM_STATUS.PARENT_PULSE).known :=
  known_of fieldName_TIM_STATUS_PARENT_PULSE (w := 1) (d := 0) (by decide +kernel) rfl rfl (by decide +kernel)
theorem known_TIM_STATUS_MASTER_VALID : (TIM_STATUS.MASTER_VALID).known :=
  known_of fieldName_TIM_STATUS_MASTER_VALID (w := 1) (d := 0) (by decide +kernel) rfl rfl (by decide +kernel)
theorem known_TIM_STATUS_MASTER_ID : (TIM_STATUS.MASTER_ID).known :=
  known_of fieldName_TIM_STATUS_MASTER_ID (w := 10) (d := 0) (by decide +kernel) rfl rfl (by decide +kernel)
theorem known_TIM_UNCERT_BOUND : (TIM_UNCERT.BOUND).known :=
  known_of fieldName_TIM_UNCERT_BOUND (w := 32) (d := 0) (by decide +kernel) rfl rfl (by decide +kernel)
theorem known_TIM_OFFSET_THETA : (TIM_OFFSET.THETA).known :=
  known_of fieldName_TIM_OFFSET_THETA (w := 32) (d := 0) (by decide +kernel) rfl rfl (by decide +kernel)
theorem known_TIM_RATE_PPB : (TIM_RATE.PPB).known :=
  known_of fieldName_TIM_RATE_PPB (w := 32) (d := 0) (by decide +kernel) rfl rfl (by decide +kernel)
theorem known_TIM_PULSE_SET_AT_PULSE : (TIM_PULSE.SET_AT_PULSE).known :=
  known_of fieldName_TIM_PULSE_SET_AT_PULSE (w := 1) (d := 0) (by decide +kernel) rfl rfl (by decide +kernel)
theorem known_TIM_PULSE_PERIOD : (TIM_PULSE.PERIOD).known :=
  known_of fieldName_TIM_PULSE_PERIOD (w := 3) (d := 0) (by decide +kernel) rfl rfl (by decide +kernel)
theorem known_TIM_PULSE_IN_STRATUM : (TIM_PULSE.IN_STRATUM).known :=
  known_of fieldName_TIM_PULSE_IN_STRATUM (w := 4) (d := 0) (by decide +kernel) rfl rfl (by decide +kernel)
theorem known_TIM_PULSE_DELAY : (TIM_PULSE.DELAY).known :=
  known_of fieldName_TIM_PULSE_DELAY (w := 16) (d := 0) (by decide +kernel) rfl rfl (by decide +kernel)
theorem known_TIM_ASYM_A_ASYM (p : Nat) : (TIM_ASYM.A_ASYM p).known :=
  known_of (fieldName_TIM_ASYM_A_ASYM p) (w := 16) (d := 0) (by decide +kernel) rfl rfl (by decide +kernel)
theorem known_TIM_ASYM_B_ASYM (p : Nat) : (TIM_ASYM.B_ASYM p).known :=
  known_of (fieldName_TIM_ASYM_B_ASYM p) (w := 16) (d := 0) (by decide +kernel) rfl rfl (by decide +kernel)
theorem known_TRC_TRIG_CTRL_FIRE : (TRC_TRIG_CTRL.FIRE).known :=
  known_of fieldName_TRC_TRIG_CTRL_FIRE (w := 1) (d := 0) (by decide +kernel) rfl rfl (by decide +kernel)
theorem known_TRC_TRIG_CTRL_TRIG_OUT : (TRC_TRIG_CTRL.TRIG_OUT).known :=
  known_of fieldName_TRC_TRIG_CTRL_TRIG_OUT (w := 1) (d := 0) (by decide +kernel) rfl rfl (by decide +kernel)
theorem known_TRC_TRIG_CTRL_SLICE_TRIG : (TRC_TRIG_CTRL.SLICE_TRIG).known :=
  known_of fieldName_TRC_TRIG_CTRL_SLICE_TRIG (w := 1) (d := 0) (by decide +kernel) rfl rfl (by decide +kernel)
theorem known_TRC_TRIG_CTRL_SRC_EN : (TRC_TRIG_CTRL.SRC_EN).known :=
  known_of fieldName_TRC_TRIG_CTRL_SRC_EN (w := 4) (d := 15) (by decide +kernel) rfl rfl (by decide +kernel)
theorem known_TRC_SCHED_TIME (k : Nat) : (TRC_SCHED.TIME k).known :=
  known_of (fieldName_TRC_SCHED_TIME k) (w := 32) (d := 0) (by decide +kernel) rfl rfl (by decide +kernel)
theorem known_TRC_SCHED_CTRL_GO : (TRC_SCHED_CTRL.GO).known :=
  known_of fieldName_TRC_SCHED_CTRL_GO (w := 1) (d := 0) (by decide +kernel) rfl rfl (by decide +kernel)
theorem known_TRC_SCHED_CTRL_FLOOD : (TRC_SCHED_CTRL.FLOOD).known :=
  known_of fieldName_TRC_SCHED_CTRL_FLOOD (w := 1) (d := 1) (by decide +kernel) rfl rfl (by decide +kernel)
theorem known_TRC_SCHED_CTRL_PENDING : (TRC_SCHED_CTRL.PENDING).known :=
  known_of fieldName_TRC_SCHED_CTRL_PENDING (w := 1) (d := 0) (by decide +kernel) rfl rfl (by decide +kernel)
theorem known_TRC_SCHED_CTRL_LATE : (TRC_SCHED_CTRL.LATE).known :=
  known_of fieldName_TRC_SCHED_CTRL_LATE (w := 1) (d := 0) (by decide +kernel) rfl rfl (by decide +kernel)
theorem known_TRC_SCHED_CTRL_NUMBER : (TRC_SCHED_CTRL.NUMBER).known :=
  known_of fieldName_TRC_SCHED_CTRL_NUMBER (w := 8) (d := 0) (by decide +kernel) rfl rfl (by decide +kernel)
theorem known_TRC_SCHED_CTRL_LATE_CNT : (TRC_SCHED_CTRL.LATE_CNT).known :=
  known_of fieldName_TRC_SCHED_CTRL_LATE_CNT (w := 8) (d := 0) (by decide +kernel) rfl rfl (by decide +kernel)
theorem known_TRC_DROPS_COUNT (t : Nat) : (TRC_DROPS.COUNT t).known :=
  known_of (fieldName_TRC_DROPS_COUNT t) (w := 32) (d := 0) (by decide +kernel) rfl rfl (by decide +kernel)
theorem known_TRC_WN_STATUS_AB_CLAIMED (p : Nat) : (TRC_WN_STATUS.AB_CLAIMED p).known :=
  known_of (fieldName_TRC_WN_STATUS_AB_CLAIMED p) (w := 1) (d := 0) (by decide +kernel) rfl rfl (by decide +kernel)
theorem known_TRC_WN_STATUS_AB_OWNER (p : Nat) : (TRC_WN_STATUS.AB_OWNER p).known :=
  known_of (fieldName_TRC_WN_STATUS_AB_OWNER p) (w := 8) (d := 0) (by decide +kernel) rfl rfl (by decide +kernel)
theorem known_TRC_WN_STATUS_AB_UNITS (p : Nat) : (TRC_WN_STATUS.AB_UNITS p).known :=
  known_of (fieldName_TRC_WN_STATUS_AB_UNITS p) (w := 4) (d := 0) (by decide +kernel) rfl rfl (by decide +kernel)
theorem known_TRC_WN_STATUS_BA_CLAIMED (p : Nat) : (TRC_WN_STATUS.BA_CLAIMED p).known :=
  known_of (fieldName_TRC_WN_STATUS_BA_CLAIMED p) (w := 1) (d := 0) (by decide +kernel) rfl rfl (by decide +kernel)
theorem known_TRC_WN_STATUS_BA_OWNER (p : Nat) : (TRC_WN_STATUS.BA_OWNER p).known :=
  known_of (fieldName_TRC_WN_STATUS_BA_OWNER p) (w := 8) (d := 0) (by decide +kernel) rfl rfl (by decide +kernel)
theorem known_TRC_WN_STATUS_BA_UNITS (p : Nat) : (TRC_WN_STATUS.BA_UNITS p).known :=
  known_of (fieldName_TRC_WN_STATUS_BA_UNITS p) (w := 4) (d := 0) (by decide +kernel) rfl rfl (by decide +kernel)
theorem known_SNP_CTRL_REARM : (SNP_CTRL.REARM).known :=
  known_of fieldName_SNP_CTRL_REARM (w := 1) (d := 0) (by decide +kernel) rfl rfl (by decide +kernel)
theorem known_SNP_CTRL_AUTO_REARM : (SNP_CTRL.AUTO_REARM).known :=
  known_of fieldName_SNP_CTRL_AUTO_REARM (w := 16) (d := 0) (by decide +kernel) rfl rfl (by decide +kernel)
theorem known_SNP_STATUS_STATE : (SNP_STATUS.STATE).known :=
  known_of fieldName_SNP_STATUS_STATE (w := 1) (d := 0) (by decide +kernel) rfl rfl (by decide +kernel)
theorem known_SNP_STATUS_SOURCES : (SNP_STATUS.SOURCES).known :=
  known_of fieldName_SNP_STATUS_SOURCES (w := 4) (d := 0) (by decide +kernel) rfl rfl (by decide +kernel)
theorem known_SNP_STATUS_LATCH_ID : (SNP_STATUS.LATCH_ID).known :=
  known_of fieldName_SNP_STATUS_LATCH_ID (w := 8) (d := 0) (by decide +kernel) rfl rfl (by decide +kernel)
theorem known_SNP_STATUS_TILES_LATCHED : (SNP_STATUS.TILES_LATCHED).known :=
  known_of fieldName_SNP_STATUS_TILES_LATCHED (w := 8) (d := 0) (by decide +kernel) rfl rfl (by decide +kernel)
theorem known_SNP_STATUS_MISSED : (SNP_STATUS.MISSED).known :=
  known_of fieldName_SNP_STATUS_MISSED (w := 8) (d := 0) (by decide +kernel) rfl rfl (by decide +kernel)
theorem known_SNP_TIME_TIME (k : Nat) : (SNP_TIME.TIME k).known :=
  known_of (fieldName_SNP_TIME_TIME k) (w := 32) (d := 0) (by decide +kernel) rfl rfl (by decide +kernel)
theorem known_TRC_WIN_STATUS_STATE (s w : Nat) : (TRC_WIN_STATUS.STATE s w).known :=
  known_of (fieldName_TRC_WIN_STATUS_STATE s w) (w := 4) (d := 0) (by decide +kernel) rfl rfl (by decide +kernel)
theorem known_TRC_WIN_STATUS_KIND (s w : Nat) : (TRC_WIN_STATUS.KIND s w).known :=
  known_of (fieldName_TRC_WIN_STATUS_KIND s w) (w := 1) (d := 0) (by decide +kernel) rfl rfl (by decide +kernel)
theorem known_TRC_WIN_STATUS_MODE (s w : Nat) : (TRC_WIN_STATUS.MODE s w).known :=
  known_of (fieldName_TRC_WIN_STATUS_MODE s w) (w := 1) (d := 0) (by decide +kernel) rfl rfl (by decide +kernel)
theorem known_TRC_WIN_STATUS_RESUME (s w : Nat) : (TRC_WIN_STATUS.RESUME s w).known :=
  known_of (fieldName_TRC_WIN_STATUS_RESUME s w) (w := 1) (d := 0) (by decide +kernel) rfl rfl (by decide +kernel)
theorem known_TRC_WIN_STATUS_GRANULES (s w : Nat) : (TRC_WIN_STATUS.GRANULES s w).known :=
  known_of (fieldName_TRC_WIN_STATUS_GRANULES s w) (w := 17) (d := 0) (by decide +kernel) rfl rfl (by decide +kernel)
theorem known_TRC_WIN_POS_POS (s w : Nat) : (TRC_WIN_POS.POS s w).known :=
  known_of (fieldName_TRC_WIN_POS_POS s w) (w := 32) (d := 0) (by decide +kernel) rfl rfl (by decide +kernel)
theorem known_TRC_WIN_READ_READ (s w : Nat) : (TRC_WIN_READ.READ s w).known :=
  known_of (fieldName_TRC_WIN_READ_READ s w) (w := 32) (d := 0) (by decide +kernel) rfl rfl (by decide +kernel)
theorem known_TRC_WIN_DROPS_DROPS (s w : Nat) : (TRC_WIN_DROPS.DROPS s w).known :=
  known_of (fieldName_TRC_WIN_DROPS_DROPS s w) (w := 32) (d := 0) (by decide +kernel) rfl rfl (by decide +kernel)
theorem known_PWR_STATUS_STATE : (PWR_STATUS.STATE).known :=
  known_of fieldName_PWR_STATUS_STATE (w := 4) (d := 0) (by decide +kernel) rfl rfl (by decide +kernel)
theorem known_PWR_STATUS_PL : (PWR_STATUS.PL).known :=
  known_of fieldName_PWR_STATUS_PL (w := 2) (d := 1) (by decide +kernel) rfl rfl (by decide +kernel)
theorem known_PWR_STATUS_PL_TARGET : (PWR_STATUS.PL_TARGET).known :=
  known_of fieldName_PWR_STATUS_PL_TARGET (w := 2) (d := 1) (by decide +kernel) rfl rfl (by decide +kernel)
theorem known_PWR_STATUS_VID_CODE : (PWR_STATUS.VID_CODE).known :=
  known_of fieldName_PWR_STATUS_VID_CODE (w := 8) (d := 44) (by decide +kernel) rfl rfl (by decide +kernel)
theorem known_PWR_STATUS_VID_BUSY : (PWR_STATUS.VID_BUSY).known :=
  known_of fieldName_PWR_STATUS_VID_BUSY (w := 1) (d := 0) (by decide +kernel) rfl rfl (by decide +kernel)
theorem known_PWR_STATUS_ACTIVE_PORTS : (PWR_STATUS.ACTIVE_PORTS).known :=
  known_of fieldName_PWR_STATUS_ACTIVE_PORTS (w := 7) (d := 0) (by decide +kernel) rfl rfl (by decide +kernel)
theorem known_PWR_POLICY_DEEP_EN : (PWR_POLICY.DEEP_EN).known :=
  known_of fieldName_PWR_POLICY_DEEP_EN (w := 1) (d := 0) (by decide +kernel) rfl rfl (by decide +kernel)
theorem known_PWR_POLICY_OFF_EN : (PWR_POLICY.OFF_EN).known :=
  known_of fieldName_PWR_POLICY_OFF_EN (w := 1) (d := 0) (by decide +kernel) rfl rfl (by decide +kernel)
theorem known_PWR_POLICY_PL_FLOOR : (PWR_POLICY.PL_FLOOR).known :=
  known_of fieldName_PWR_POLICY_PL_FLOOR (w := 2) (d := 0) (by decide +kernel) rfl rfl (by decide +kernel)
theorem known_PWR_POLICY_VID_WAIT : (PWR_POLICY.VID_WAIT).known :=
  known_of fieldName_PWR_POLICY_VID_WAIT (w := 6) (d := 50) (by decide +kernel) rfl rfl (by decide +kernel)
theorem known_PWR_POLICY_DEEP_TMAX : (PWR_POLICY.DEEP_TMAX).known :=
  known_of fieldName_PWR_POLICY_DEEP_TMAX (w := 8) (d := 70) (by decide +kernel) rfl rfl (by decide +kernel)
theorem known_PWR_TIMERS_TILE_IDLE : (PWR_TIMERS.TILE_IDLE).known :=
  known_of fieldName_PWR_TIMERS_TILE_IDLE (w := 8) (d := 10) (by decide +kernel) rfl rfl (by decide +kernel)
theorem known_PWR_TIMERS_IDLE_TIMER : (PWR_TIMERS.IDLE_TIMER).known :=
  known_of fieldName_PWR_TIMERS_IDLE_TIMER (w := 4) (d := 1) (by decide +kernel) rfl rfl (by decide +kernel)
theorem known_PWR_TIMERS_SLEEP_TIMER : (PWR_TIMERS.SLEEP_TIMER).known :=
  known_of fieldName_PWR_TIMERS_SLEEP_TIMER (w := 8) (d := 10) (by decide +kernel) rfl rfl (by decide +kernel)
theorem known_PWR_TIMERS_DEEP_TIMER : (PWR_TIMERS.DEEP_TIMER).known :=
  known_of fieldName_PWR_TIMERS_DEEP_TIMER (w := 4) (d := 1) (by decide +kernel) rfl rfl (by decide +kernel)
theorem known_PWR_TIMERS_OFF_TIMER : (PWR_TIMERS.OFF_TIMER).known :=
  known_of fieldName_PWR_TIMERS_OFF_TIMER (w := 4) (d := 1) (by decide +kernel) rfl rfl (by decide +kernel)
theorem known_PWR_TIMERS_PARK_POLL : (PWR_TIMERS.PARK_POLL).known :=
  known_of fieldName_PWR_TIMERS_PARK_POLL (w := 4) (d := 10) (by decide +kernel) rfl rfl (by decide +kernel)
theorem known_PWR_PORT_ARM_PORTS (k : Nat) : (PWR_PORT_ARM.PORTS k).known :=
  known_of (fieldName_PWR_PORT_ARM_PORTS k) (w := 32) (d := 0) (by decide +kernel) rfl rfl (by decide +kernel)
theorem known_PWR_WAKE_SOURCE_FROM_STATE : (PWR_WAKE_SOURCE.FROM_STATE).known :=
  known_of fieldName_PWR_WAKE_SOURCE_FROM_STATE (w := 3) (d := 0) (by decide +kernel) rfl rfl (by decide +kernel)
theorem known_PWR_WAKE_SOURCE_SIGDET_PORT : (PWR_WAKE_SOURCE.SIGDET_PORT).known :=
  known_of fieldName_PWR_WAKE_SOURCE_SIGDET_PORT (w := 7) (d := 0) (by decide +kernel) rfl rfl (by decide +kernel)
theorem known_PWR_WAKE_SOURCE_INTERNAL : (PWR_WAKE_SOURCE.INTERNAL).known :=
  known_of fieldName_PWR_WAKE_SOURCE_INTERNAL (w := 1) (d := 0) (by decide +kernel) rfl rfl (by decide +kernel)
theorem known_PWR_WAKE_SOURCE_AON_TIMER : (PWR_WAKE_SOURCE.AON_TIMER).known :=
  known_of fieldName_PWR_WAKE_SOURCE_AON_TIMER (w := 1) (d := 0) (by decide +kernel) rfl rfl (by decide +kernel)
theorem known_PWR_WAKE_SOURCE_SIGDET : (PWR_WAKE_SOURCE.SIGDET).known :=
  known_of fieldName_PWR_WAKE_SOURCE_SIGDET (w := 1) (d := 0) (by decide +kernel) rfl rfl (by decide +kernel)
theorem known_PWR_WAKE_SOURCE_MGMT_LINK : (PWR_WAKE_SOURCE.MGMT_LINK).known :=
  known_of fieldName_PWR_WAKE_SOURCE_MGMT_LINK (w := 1) (d := 0) (by decide +kernel) rfl rfl (by decide +kernel)
theorem known_PWR_WAKE_SOURCE_WAKE_IN : (PWR_WAKE_SOURCE.WAKE_IN).known :=
  known_of fieldName_PWR_WAKE_SOURCE_WAKE_IN (w := 1) (d := 0) (by decide +kernel) rfl rfl (by decide +kernel)
theorem known_PWR_WAKE_SOURCE_SB_MATCH : (PWR_WAKE_SOURCE.SB_MATCH).known :=
  known_of fieldName_PWR_WAKE_SOURCE_SB_MATCH (w := 1) (d := 0) (by decide +kernel) rfl rfl (by decide +kernel)
theorem known_PWR_WAKE_STATUS_LOFT_FAIL : (PWR_WAKE_STATUS.LOFT_FAIL).known :=
  known_of fieldName_PWR_WAKE_STATUS_LOFT_FAIL (w := 8) (d := 0) (by decide +kernel) rfl rfl (by decide +kernel)
theorem known_PWR_WAKE_STATUS_ABANDONED : (PWR_WAKE_STATUS.ABANDONED).known :=
  known_of fieldName_PWR_WAKE_STATUS_ABANDONED (w := 1) (d := 0) (by decide +kernel) rfl rfl (by decide +kernel)
theorem known_PWR_WAKE_STATUS_WAKE_US : (PWR_WAKE_STATUS.WAKE_US).known :=
  known_of fieldName_PWR_WAKE_STATUS_WAKE_US (w := 14) (d := 0) (by decide +kernel) rfl rfl (by decide +kernel)
theorem known_PWR_AON_STATUS_BOR : (PWR_AON_STATUS.BOR).known :=
  known_of fieldName_PWR_AON_STATUS_BOR (w := 1) (d := 0) (by decide +kernel) rfl rfl (by decide +kernel)
theorem known_PWR_AON_STATUS_LOAD : (PWR_AON_STATUS.LOAD).known :=
  known_of fieldName_PWR_AON_STATUS_LOAD (w := 1) (d := 0) (by decide +kernel) rfl rfl (by decide +kernel)
theorem known_PWR_AON_STATUS_SUPPLY : (PWR_AON_STATUS.SUPPLY).known :=
  known_of fieldName_PWR_AON_STATUS_SUPPLY (w := 1) (d := 0) (by decide +kernel) rfl rfl (by decide +kernel)
theorem known_PWR_AON_REC_DATA (i : Nat) : (PWR_AON_REC.DATA i).known :=
  known_of (fieldName_PWR_AON_REC_DATA i) (w := 32) (d := 0) (by decide +kernel) rfl rfl (by decide +kernel)
theorem known_CLK_STATUS_ROOT_LOCK : (CLK_STATUS.ROOT_LOCK).known :=
  known_of fieldName_CLK_STATUS_ROOT_LOCK (w := 1) (d := 0) (by decide +kernel) rfl rfl (by decide +kernel)
theorem known_CLK_STATUS_REFCLK_OK : (CLK_STATUS.REFCLK_OK).known :=
  known_of fieldName_CLK_STATUS_REFCLK_OK (w := 1) (d := 0) (by decide +kernel) rfl rfl (by decide +kernel)
theorem known_CLK_STATUS_CORE_SRC : (CLK_STATUS.CORE_SRC).known :=
  known_of fieldName_CLK_STATUS_CORE_SRC (w := 1) (d := 0) (by decide +kernel) rfl rfl (by decide +kernel)
theorem known_CLK_STATUS_MCLK_SRC : (CLK_STATUS.MCLK_SRC).known :=
  known_of fieldName_CLK_STATUS_MCLK_SRC (w := 1) (d := 0) (by decide +kernel) rfl rfl (by decide +kernel)
theorem known_CLK_STATUS_REFCLK_LOST : (CLK_STATUS.REFCLK_LOST).known :=
  known_of fieldName_CLK_STATUS_REFCLK_LOST (w := 1) (d := 0) (by decide +kernel) rfl rfl (by decide +kernel)
theorem known_CLK_STATUS_LOSS_CNT : (CLK_STATUS.LOSS_CNT).known :=
  known_of fieldName_CLK_STATUS_LOSS_CNT (w := 8) (d := 0) (by decide +kernel) rfl rfl (by decide +kernel)
theorem known_CLK_AON_RATIO_RATIO : (CLK_AON_RATIO.RATIO).known :=
  known_of fieldName_CLK_AON_RATIO_RATIO (w := 32) (d := 2000000000) (by decide +kernel) rfl rfl (by decide +kernel)
theorem known_RST_STATUS_REASON : (RST_STATUS.REASON).known :=
  known_of fieldName_RST_STATUS_REASON (w := 4) (d := 0) (by decide +kernel) rfl rfl (by decide +kernel)
theorem known_RST_STATUS_THERMTRIP_SEEN : (RST_STATUS.THERMTRIP_SEEN).known :=
  known_of fieldName_RST_STATUS_THERMTRIP_SEEN (w := 1) (d := 0) (by decide +kernel) rfl rfl (by decide +kernel)
theorem known_RST_STATUS_BOOT_DONE : (RST_STATUS.BOOT_DONE).known :=
  known_of fieldName_RST_STATUS_BOOT_DONE (w := 1) (d := 0) (by decide +kernel) rfl rfl (by decide +kernel)
theorem known_RST_STATUS_PIN_CNT : (RST_STATUS.PIN_CNT).known :=
  known_of fieldName_RST_STATUS_PIN_CNT (w := 8) (d := 0) (by decide +kernel) rfl rfl (by decide +kernel)
theorem known_RST_CMD_GO : (RST_CMD.GO).known :=
  known_of fieldName_RST_CMD_GO (w := 1) (d := 0) (by decide +kernel) rfl rfl (by decide +kernel)
theorem known_RST_CMD_ACTION : (RST_CMD.ACTION).known :=
  known_of fieldName_RST_CMD_ACTION (w := 2) (d := 0) (by decide +kernel) rfl rfl (by decide +kernel)
theorem known_RST_CMD_INDEX : (RST_CMD.INDEX).known :=
  known_of fieldName_RST_CMD_INDEX (w := 6) (d := 0) (by decide +kernel) rfl rfl (by decide +kernel)
theorem known_RST_CMD_KEY : (RST_CMD.KEY).known :=
  known_of fieldName_RST_CMD_KEY (w := 8) (d := 0) (by decide +kernel) rfl rfl (by decide +kernel)
theorem known_RST_CNT_TILE_RESETS : (RST_CNT.TILE_RESETS).known :=
  known_of fieldName_RST_CNT_TILE_RESETS (w := 8) (d := 0) (by decide +kernel) rfl rfl (by decide +kernel)
theorem known_RST_CNT_RESTRUCTURES : (RST_CNT.RESTRUCTURES).known :=
  known_of fieldName_RST_CNT_RESTRUCTURES (w := 8) (d := 0) (by decide +kernel) rfl rfl (by decide +kernel)
theorem known_RST_CNT_PORT_RESETS : (RST_CNT.PORT_RESETS).known :=
  known_of fieldName_RST_CNT_PORT_RESETS (w := 16) (d := 0) (by decide +kernel) rfl rfl (by decide +kernel)
theorem known_ERR_DP_STATUS_CODES : (ERR_DP_STATUS.CODES).known :=
  known_of fieldName_ERR_DP_STATUS_CODES (w := 18) (d := 0) (by decide +kernel) rfl rfl (by decide +kernel)
theorem known_ERR_DP_MASK_CODES : (ERR_DP_MASK.CODES).known :=
  known_of fieldName_ERR_DP_MASK_CODES (w := 18) (d := 0) (by decide +kernel) rfl rfl (by decide +kernel)
theorem known_ERR_DP_PORTS_PORTS (k : Nat) : (ERR_DP_PORTS.PORTS k).known :=
  known_of (fieldName_ERR_DP_PORTS_PORTS k) (w := 32) (d := 0) (by decide +kernel) rfl rfl (by decide +kernel)
theorem known_ERR_DP_LOG0_VALID : (ERR_DP_LOG0.VALID).known :=
  known_of fieldName_ERR_DP_LOG0_VALID (w := 1) (d := 0) (by decide +kernel) rfl rfl (by decide +kernel)
theorem known_ERR_DP_LOG0_OVERFLOW : (ERR_DP_LOG0.OVERFLOW).known :=
  known_of fieldName_ERR_DP_LOG0_OVERFLOW (w := 1) (d := 0) (by decide +kernel) rfl rfl (by decide +kernel)
theorem known_ERR_DP_LOG0_CODE : (ERR_DP_LOG0.CODE).known :=
  known_of fieldName_ERR_DP_LOG0_CODE (w := 8) (d := 0) (by decide +kernel) rfl rfl (by decide +kernel)
theorem known_ERR_DP_LOG0_PORT : (ERR_DP_LOG0.PORT).known :=
  known_of fieldName_ERR_DP_LOG0_PORT (w := 8) (d := 0) (by decide +kernel) rfl rfl (by decide +kernel)
theorem known_ERR_DP_LOG0_DETAIL : (ERR_DP_LOG0.DETAIL).known :=
  known_of fieldName_ERR_DP_LOG0_DETAIL (w := 8) (d := 0) (by decide +kernel) rfl rfl (by decide +kernel)
theorem known_ERR_DP_LOG_TIME_TIME (k : Nat) : (ERR_DP_LOG_TIME.TIME k).known :=
  known_of (fieldName_ERR_DP_LOG_TIME_TIME k) (w := 32) (d := 0) (by decide +kernel) rfl rfl (by decide +kernel)
theorem known_ERR_DP_CNT_CORRECTABLE : (ERR_DP_CNT.CORRECTABLE).known :=
  known_of fieldName_ERR_DP_CNT_CORRECTABLE (w := 16) (d := 0) (by decide +kernel) rfl rfl (by decide +kernel)
theorem known_ERR_DP_CNT_NONFATAL : (ERR_DP_CNT.NONFATAL).known :=
  known_of fieldName_ERR_DP_CNT_NONFATAL (w := 8) (d := 0) (by decide +kernel) rfl rfl (by decide +kernel)
theorem known_ERR_DP_CNT_FATAL : (ERR_DP_CNT.FATAL).known :=
  known_of fieldName_ERR_DP_CNT_FATAL (w := 8) (d := 0) (by decide +kernel) rfl rfl (by decide +kernel)
theorem known_ERR_CTRL_AUTO_TILE_RESET : (ERR_CTRL.AUTO_TILE_RESET).known :=
  known_of fieldName_ERR_CTRL_AUTO_TILE_RESET (w := 1) (d := 1) (by decide +kernel) rfl rfl (by decide +kernel)
theorem known_SB_CTRL_ALERT_EN : (SB_CTRL.ALERT_EN).known :=
  known_of fieldName_SB_CTRL_ALERT_EN (w := 1) (d := 1) (by decide +kernel) rfl rfl (by decide +kernel)
theorem known_SB_CTRL_ALERT_CLASS : (SB_CTRL.ALERT_CLASS).known :=
  known_of fieldName_SB_CTRL_ALERT_CLASS (w := 2) (d := 1) (by decide +kernel) rfl rfl (by decide +kernel)
theorem known_SB_CTRL_PEC_REQUIRED : (SB_CTRL.PEC_REQUIRED).known :=
  known_of fieldName_SB_CTRL_PEC_REQUIRED (w := 1) (d := 0) (by decide +kernel) rfl rfl (by decide +kernel)
theorem known_SB_STATUS_ADDRESS : (SB_STATUS.ADDRESS).known :=
  known_of fieldName_SB_STATUS_ADDRESS (w := 7) (d := 88) (by decide +kernel) rfl rfl (by decide +kernel)
theorem known_SB_STATUS_ALERT_PENDING : (SB_STATUS.ALERT_PENDING).known :=
  known_of fieldName_SB_STATUS_ALERT_PENDING (w := 1) (d := 0) (by decide +kernel) rfl rfl (by decide +kernel)
theorem known_SB_STATUS_PEC_ERR : (SB_STATUS.PEC_ERR).known :=
  known_of fieldName_SB_STATUS_PEC_ERR (w := 1) (d := 0) (by decide +kernel) rfl rfl (by decide +kernel)
theorem known_SB_STATUS_TIMEOUT : (SB_STATUS.TIMEOUT).known :=
  known_of fieldName_SB_STATUS_TIMEOUT (w := 1) (d := 0) (by decide +kernel) rfl rfl (by decide +kernel)
theorem known_SB_STATUS_LAST_STATUS : (SB_STATUS.LAST_STATUS).known :=
  known_of fieldName_SB_STATUS_LAST_STATUS (w := 8) (d := 0) (by decide +kernel) rfl rfl (by decide +kernel)
theorem known_SB_CNT_MESSAGES : (SB_CNT.MESSAGES).known :=
  known_of fieldName_SB_CNT_MESSAGES (w := 16) (d := 0) (by decide +kernel) rfl rfl (by decide +kernel)
theorem known_SB_CNT_ERRORS : (SB_CNT.ERRORS).known :=
  known_of fieldName_SB_CNT_ERRORS (w := 8) (d := 0) (by decide +kernel) rfl rfl (by decide +kernel)
theorem known_TIM_SET_TIME (k : Nat) : (TIM_SET.TIME k).known :=
  known_of (fieldName_TIM_SET_TIME k) (w := 32) (d := 0) (by decide +kernel) rfl rfl (by decide +kernel)
theorem knowns_GLB_REVISION : ∀ f ∈ GLB_REVISION.fields, f.cell.known := by
  unfold GLB_REVISION.fields
  refine List.forall_mem_cons.2 ⟨known_GLB_REVISION_DEVICE, ?_⟩
  refine List.forall_mem_cons.2 ⟨known_GLB_REVISION_STEP_MAJOR, ?_⟩
  refine List.forall_mem_cons.2 ⟨known_GLB_REVISION_STEP_MINOR, ?_⟩
  refine List.forall_mem_cons.2 ⟨known_GLB_REVISION_FAMILY, ?_⟩
  exact List.forall_mem_nil _
theorem knowns_PRT_MODE (p : Nat) : ∀ f ∈ PRT_MODE.fields p, f.cell.known := by
  unfold PRT_MODE.fields
  refine List.forall_mem_cons.2 ⟨known_PRT_MODE_ENABLE p, ?_⟩
  refine List.forall_mem_cons.2 ⟨known_PRT_MODE_MODE p, ?_⟩
  refine List.forall_mem_cons.2 ⟨known_PRT_MODE_TILE p, ?_⟩
  refine List.forall_mem_cons.2 ⟨known_PRT_MODE_A_SEGMENT p, ?_⟩
  refine List.forall_mem_cons.2 ⟨known_PRT_MODE_B_SEGMENT p, ?_⟩
  refine List.forall_mem_cons.2 ⟨known_PRT_MODE_A_SPARES p, ?_⟩
  refine List.forall_mem_cons.2 ⟨known_PRT_MODE_A_WIDTH p, ?_⟩
  refine List.forall_mem_cons.2 ⟨known_PRT_MODE_B_SPARES p, ?_⟩
  refine List.forall_mem_cons.2 ⟨known_PRT_MODE_B_WIDTH p, ?_⟩
  exact List.forall_mem_nil _
theorem knowns_LCH_ASSIGN (n : Nat) : ∀ f ∈ LCH_ASSIGN.fields n, f.cell.known := by
  unfold LCH_ASSIGN.fields
  refine List.forall_mem_cons.2 ⟨known_LCH_ASSIGN_A_VALID n, ?_⟩
  refine List.forall_mem_cons.2 ⟨known_LCH_ASSIGN_A_PORT n, ?_⟩
  refine List.forall_mem_cons.2 ⟨known_LCH_ASSIGN_A_LOGICAL n, ?_⟩
  refine List.forall_mem_cons.2 ⟨known_LCH_ASSIGN_B_VALID n, ?_⟩
  refine List.forall_mem_cons.2 ⟨known_LCH_ASSIGN_B_PORT n, ?_⟩
  refine List.forall_mem_cons.2 ⟨known_LCH_ASSIGN_B_LOGICAL n, ?_⟩
  exact List.forall_mem_nil _
theorem knowns_GLB_TILE_STATUS : ∀ f ∈ GLB_TILE_STATUS.fields, f.cell.known := by
  unfold GLB_TILE_STATUS.fields
  refine List.forall_mem_cons.2 ⟨known_GLB_TILE_STATUS_LT 7, ?_⟩
  refine List.forall_mem_cons.2 ⟨known_GLB_TILE_STATUS_LT 6, ?_⟩
  refine List.forall_mem_cons.2 ⟨known_GLB_TILE_STATUS_LT 5, ?_⟩
  refine List.forall_mem_cons.2 ⟨known_GLB_TILE_STATUS_LT 4, ?_⟩
  refine List.forall_mem_cons.2 ⟨known_GLB_TILE_STATUS_LT 3, ?_⟩
  refine List.forall_mem_cons.2 ⟨known_GLB_TILE_STATUS_LT 2, ?_⟩
  refine List.forall_mem_cons.2 ⟨known_GLB_TILE_STATUS_LT 1, ?_⟩
  refine List.forall_mem_cons.2 ⟨known_GLB_TILE_STATUS_LT 0, ?_⟩
  exact List.forall_mem_nil _
theorem knowns_LCH_EQ_CTRL (h : Nat) : ∀ f ∈ LCH_EQ_CTRL.fields h, f.cell.known := by
  unfold LCH_EQ_CTRL.fields
  refine List.forall_mem_cons.2 ⟨known_LCH_EQ_CTRL_FOM_MIN_CLR h, ?_⟩
  refine List.forall_mem_cons.2 ⟨known_LCH_EQ_CTRL_CTLE_TRIM_OFF h, ?_⟩
  refine List.forall_mem_cons.2 ⟨known_LCH_EQ_CTRL_FREEZE h, ?_⟩
  exact List.forall_mem_nil _
theorem knowns_LCH_FOM (h : Nat) : ∀ f ∈ LCH_FOM.fields h, f.cell.known := by
  unfold LCH_FOM.fields
  refine List.forall_mem_cons.2 ⟨known_LCH_FOM_SIGDET h, ?_⟩
  refine List.forall_mem_cons.2 ⟨known_LCH_FOM_LOCK h, ?_⟩
  refine List.forall_mem_cons.2 ⟨known_LCH_FOM_FOM_VALID h, ?_⟩
  refine List.forall_mem_cons.2 ⟨known_LCH_FOM_BELOW_TARGET h, ?_⟩
  refine List.forall_mem_cons.2 ⟨known_LCH_FOM_WARN h, ?_⟩
  refine List.forall_mem_cons.2 ⟨known_LCH_FOM_FAULT_SEEN h, ?_⟩
  refine List.forall_mem_cons.2 ⟨known_LCH_FOM_ADAPT_STATE h, ?_⟩
  refine List.forall_mem_cons.2 ⟨known_LCH_FOM_RATE_SLOT h, ?_⟩
  refine List.forall_mem_cons.2 ⟨known_LCH_FOM_FOM_MIN h, ?_⟩
  refine List.forall_mem_cons.2 ⟨known_LCH_FOM_FOM h, ?_⟩
  exact List.forall_mem_nil _
theorem knowns_LCH_RX_EQ (h : Nat) : ∀ f ∈ LCH_RX_EQ.fields h, f.cell.known := by
  unfold LCH_RX_EQ.fields
  refine List.forall_mem_cons.2 ⟨known_LCH_RX_EQ_TABLE_DEFAULT h, ?_⟩
  refine List.forall_mem_cons.2 ⟨known_LCH_RX_EQ_WARM h, ?_⟩
  refine List.forall_mem_cons.2 ⟨known_LCH_RX_EQ_CTLE h, ?_⟩
  refine List.forall_mem_cons.2 ⟨known_LCH_RX_EQ_VGA h, ?_⟩
  refine List.forall_mem_cons.2 ⟨known_LCH_RX_EQ_DFE_H1 h, ?_⟩
  refine List.forall_mem_cons.2 ⟨known_LCH_RX_EQ_FFE_MAIN h, ?_⟩
  exact List.forall_mem_nil _
theorem knowns_LCH_TX_COEF (h : Nat) : ∀ f ∈ LCH_TX_COEF.fields h, f.cell.known := by
  unfold LCH_TX_COEF.fields
  refine List.forall_mem_cons.2 ⟨known_LCH_TX_COEF_SRC h, ?_⟩
  refine List.forall_mem_cons.2 ⟨known_LCH_TX_COEF_C0 h, ?_⟩
  refine List.forall_mem_cons.2 ⟨known_LCH_TX_COEF_CM2 h, ?_⟩
  refine List.forall_mem_cons.2 ⟨known_LCH_TX_COEF_CM1 h, ?_⟩
  refine List.forall_mem_cons.2 ⟨known_LCH_TX_COEF_CP1 h, ?_⟩
  refine List.forall_mem_cons.2 ⟨known_LCH_TX_COEF_CP2 h, ?_⟩
  exact List.forall_mem_nil _
theorem knowns_LCH_FOM_LIMITS (r : Nat) : ∀ f ∈ LCH_FOM_LIMITS.fields r, f.cell.known := by
  unfold LCH_FOM_LIMITS.fields
  refine List.forall_mem_cons.2 ⟨known_LCH_FOM_LIMITS_TARGET r, ?_⟩
  refine List.forall_mem_cons.2 ⟨known_LCH_FOM_LIMITS_WARN r, ?_⟩
  refine List.forall_mem_cons.2 ⟨known_LCH_FOM_LIMITS_FAULT r, ?_⟩
  exact List.forall_mem_nil _
theorem knowns_CLK_DCLK_SEL : ∀ f ∈ CLK_DCLK_SEL.fields, f.cell.known := by
  unfold CLK_DCLK_SEL.fields
  refine List.forall_mem_cons.2 ⟨known_CLK_DCLK_SEL_LT 7, ?_⟩
  refine List.forall_mem_cons.2 ⟨known_CLK_DCLK_SEL_LT 6, ?_⟩
  refine List.forall_mem_cons.2 ⟨known_CLK_DCLK_SEL_LT 5, ?_⟩
  refine List.forall_mem_cons.2 ⟨known_CLK_DCLK_SEL_LT 4, ?_⟩
  refine List.forall_mem_cons.2 ⟨known_CLK_DCLK_SEL_LT 3, ?_⟩
  refine List.forall_mem_cons.2 ⟨known_CLK_DCLK_SEL_LT 2, ?_⟩
  refine List.forall_mem_cons.2 ⟨known_CLK_DCLK_SEL_LT 1, ?_⟩
  refine List.forall_mem_cons.2 ⟨known_CLK_DCLK_SEL_LT 0, ?_⟩
  exact List.forall_mem_nil _
theorem knowns_PRT_DP_CTRL (p : Nat) : ∀ f ∈ PRT_DP_CTRL.fields p, f.cell.known := by
  unfold PRT_DP_CTRL.fields
  refine List.forall_mem_cons.2 ⟨known_PRT_DP_CTRL_CLOCKING p, ?_⟩
  refine List.forall_mem_cons.2 ⟨known_PRT_DP_CTRL_A_SLOT p, ?_⟩
  refine List.forall_mem_cons.2 ⟨known_PRT_DP_CTRL_B_SLOT p, ?_⟩
  exact List.forall_mem_nil _
theorem knowns_PRT_DP_STATUS (p : Nat) : ∀ f ∈ PRT_DP_STATUS.fields p, f.cell.known := by
  unfold PRT_DP_STATUS.fields
  refine List.forall_mem_cons.2 ⟨known_PRT_DP_STATUS_FLIT p, ?_⟩
  refine List.forall_mem_cons.2 ⟨known_PRT_DP_STATUS_A_REVERSED p, ?_⟩
  refine List.forall_mem_cons.2 ⟨known_PRT_DP_STATUS_B_REVERSED p, ?_⟩
  refine List.forall_mem_cons.2 ⟨known_PRT_DP_STATUS_DESKEW_FAIL p, ?_⟩
  refine List.forall_mem_cons.2 ⟨known_PRT_DP_STATUS_EB_SLIP p, ?_⟩
  refine List.forall_mem_cons.2 ⟨known_PRT_DP_STATUS_EB_SLIP_CNT p, ?_⟩
  refine List.forall_mem_cons.2 ⟨known_PRT_DP_STATUS_A_SLOT_NOW p, ?_⟩
  refine List.forall_mem_cons.2 ⟨known_PRT_DP_STATUS_B_SLOT_NOW p, ?_⟩
  refine List.forall_mem_cons.2 ⟨known_PRT_DP_STATUS_A_ALIGN p, ?_⟩
  refine List.forall_mem_cons.2 ⟨known_PRT_DP_STATUS_B_ALIGN p, ?_⟩
  exact List.forall_mem_nil _
theorem knowns_LCH_DP_STATUS (h : Nat) : ∀ f ∈ LCH_DP_STATUS.fields h, f.cell.known := by
  unfold LCH_DP_STATUS.fields
  refine List.forall_mem_cons.2 ⟨known_LCH_DP_STATUS_POL_INV h, ?_⟩
  refine List.forall_mem_cons.2 ⟨known_LCH_DP_STATUS_ALIGN_STATE h, ?_⟩
  refine List.forall_mem_cons.2 ⟨known_LCH_DP_STATUS_LINK_LANE h, ?_⟩
  refine List.forall_mem_cons.2 ⟨known_LCH_DP_STATUS_SKEW h, ?_⟩
  refine List.forall_mem_cons.2 ⟨known_LCH_DP_STATUS_EB_FILL h, ?_⟩
  exact List.forall_mem_nil _
theorem knowns_PRT_SKP_ADJ (q : Nat) : ∀ f ∈ PRT_SKP_ADJ.fields q, f.cell.known := by
  unfold PRT_SKP_ADJ.fields
  refine List.forall_mem_cons.2 ⟨known_PRT_SKP_ADJ_ADD q, ?_⟩
  refine List.forall_mem_cons.2 ⟨known_PRT_SKP_ADJ_DEL q, ?_⟩
  exact List.forall_mem_nil _
theorem knowns_PRT_TRN_CTRL (p : Nat) : ∀ f ∈ PRT_TRN_CTRL.fields p, f.cell.known := by
  unfold PRT_TRN_CTRL.fields
  refine List.forall_mem_cons.2 ⟨known_PRT_TRN_CTRL_RETRAIN p, ?_⟩
  refine List.forall_mem_cons.2 ⟨known_PRT_TRN_CTRL_UPSTREAM p, ?_⟩
  refine List.forall_mem_cons.2 ⟨known_PRT_TRN_CTRL_NONFLIT_LIMIT p, ?_⟩
  refine List.forall_mem_cons.2 ⟨known_PRT_TRN_CTRL_EQ_CANDIDATES p, ?_⟩
  exact List.forall_mem_nil _
theorem knowns_PRT_TRN_STATUS (p : Nat) : ∀ f ∈ PRT_TRN_STATUS.fields p, f.cell.known := by
  unfold PRT_TRN_STATUS.fields
  refine List.forall_mem_cons.2 ⟨known_PRT_TRN_STATUS_STATE p, ?_⟩
  refine List.forall_mem_cons.2 ⟨known_PRT_TRN_STATUS_EQ_PHASE p, ?_⟩
  refine List.forall_mem_cons.2 ⟨known_PRT_TRN_STATUS_EQ_SLOT p, ?_⟩
  refine List.forall_mem_cons.2 ⟨known_PRT_TRN_STATUS_UP_SIDE p, ?_⟩
  refine List.forall_mem_cons.2 ⟨known_PRT_TRN_STATUS_RETIMER_POS p, ?_⟩
  refine List.forall_mem_cons.2 ⟨known_PRT_TRN_STATUS_CXL p, ?_⟩
  refine List.forall_mem_cons.2 ⟨known_PRT_TRN_STATUS_L0P p, ?_⟩
  refine List.forall_mem_cons.2 ⟨known_PRT_TRN_STATUS_LP_KIND p, ?_⟩
  refine List.forall_mem_cons.2 ⟨known_PRT_TRN_STATUS_NEG_WIDTH p, ?_⟩
  refine List.forall_mem_cons.2 ⟨known_PRT_TRN_STATUS_NONFLIT_COUNT p, ?_⟩
  exact List.forall_mem_nil _
theorem knowns_PRT_TRN_EVENTS (p : Nat) : ∀ f ∈ PRT_TRN_EVENTS.fields p, f.cell.known := by
  unfold PRT_TRN_EVENTS.fields
  refine List.forall_mem_cons.2 ⟨known_PRT_TRN_EVENTS_PARTNER_LOST_A p, ?_⟩
  refine List.forall_mem_cons.2 ⟨known_PRT_TRN_EVENTS_PARTNER_LOST_B p, ?_⟩
  refine List.forall_mem_cons.2 ⟨known_PRT_TRN_EVENTS_TRN_TIMEOUT p, ?_⟩
  refine List.forall_mem_cons.2 ⟨known_PRT_TRN_EVENTS_NONFLIT_REFUSED p, ?_⟩
  refine List.forall_mem_cons.2 ⟨known_PRT_TRN_EVENTS_LOOPBACK_REFUSED p, ?_⟩
  refine List.forall_mem_cons.2 ⟨known_PRT_TRN_EVENTS_EQ_REQ_REJECTED p, ?_⟩
  refine List.forall_mem_cons.2 ⟨known_PRT_TRN_EVENTS_EQ_BELOW_TARGET p, ?_⟩
  refine List.forall_mem_cons.2 ⟨known_PRT_TRN_EVENTS_DETECT_CNT p, ?_⟩
  refine List.forall_mem_cons.2 ⟨known_PRT_TRN_EVENTS_RECOVERY_CNT p, ?_⟩
  refine List.forall_mem_cons.2 ⟨known_PRT_TRN_EVENTS_RATE_CHG_CNT p, ?_⟩
  exact List.forall_mem_nil _
theorem knowns_PRT_SEG_CTRL (q : Nat) : ∀ f ∈ PRT_SEG_CTRL.fields q, f.cell.known := by
  unfold PRT_SEG_CTRL.fields
  refine List.forall_mem_cons.2 ⟨known_PRT_SEG_CTRL_RETRAIN q, ?_⟩
  refine List.forall_mem_cons.2 ⟨known_PRT_SEG_CTRL_LEGACY q, ?_⟩
  refine List.forall_mem_cons.2 ⟨known_PRT_SEG_CTRL_RTT_MAX q, ?_⟩
  refine List.forall_mem_cons.2 ⟨known_PRT_SEG_CTRL_SLOTS q, ?_⟩
  exact List.forall_mem_nil _
theorem knowns_PRT_SEG_STATUS (q : Nat) : ∀ f ∈ PRT_SEG_STATUS.fields q, f.cell.known := by
  unfold PRT_SEG_STATUS.fields
  refine List.forall_mem_cons.2 ⟨known_PRT_SEG_STATUS_STATE q, ?_⟩
  refine List.forall_mem_cons.2 ⟨known_PRT_SEG_STATUS_LAST_FAIL q, ?_⟩
  refine List.forall_mem_cons.2 ⟨known_PRT_SEG_STATUS_ATTEMPTS q, ?_⟩
  refine List.forall_mem_cons.2 ⟨known_PRT_SEG_STATUS_RTT q, ?_⟩
  refine List.forall_mem_cons.2 ⟨known_PRT_SEG_STATUS_PARTNER q, ?_⟩
  refine List.forall_mem_cons.2 ⟨known_PRT_SEG_STATUS_HOPS q, ?_⟩
  refine List.forall_mem_cons.2 ⟨known_PRT_SEG_STATUS_CHAIN_TOO_LONG q, ?_⟩
  refine List.forall_mem_cons.2 ⟨known_PRT_SEG_STATUS_PARTNER_LOST q, ?_⟩
  refine List.forall_mem_cons.2 ⟨known_PRT_SEG_STATUS_RTT_OVER q, ?_⟩
  refine List.forall_mem_cons.2 ⟨known_PRT_SEG_STATUS_REPLAY_FULL q, ?_⟩
  refine List.forall_mem_cons.2 ⟨known_PRT_SEG_STATUS_FLIT_DROP q, ?_⟩
  refine List.forall_mem_cons.2 ⟨known_PRT_SEG_STATUS_STUFF_HIGH q, ?_⟩
  refine List.forall_mem_cons.2 ⟨known_PRT_SEG_STATUS_RETRY_EXHAUSTED q, ?_⟩
  exact List.forall_mem_nil _
theorem knowns_PRT_SEG_CNT (q : Nat) : ∀ f ∈ PRT_SEG_CNT.fields q, f.cell.known := by
  unfold PRT_SEG_CNT.fields
  refine List.forall_mem_cons.2 ⟨known_PRT_SEG_CNT_NAK_SENT q, ?_⟩
  refine List.forall_mem_cons.2 ⟨known_PRT_SEG_CNT_REPLAYS q, ?_⟩
  exact List.forall_mem_nil _
theorem knowns_LCH_SEG_FEC (h : Nat) : ∀ f ∈ LCH_SEG_FEC.fields h, f.cell.known := by
  unfold LCH_SEG_FEC.fields
  refine List.forall_mem_cons.2 ⟨known_LCH_SEG_FEC_CORR_SYM h, ?_⟩
  refine List.forall_mem_cons.2 ⟨known_LCH_SEG_FEC_UNCORR h, ?_⟩
  refine List.forall_mem_cons.2 ⟨known_LCH_SEG_FEC_SEG_POL_INV h, ?_⟩
  refine List.forall_mem_cons.2 ⟨known_LCH_SEG_FEC_FRAME_LOCK h, ?_⟩
  refine List.forall_mem_cons.2 ⟨known_LCH_SEG_FEC_HEARD h, ?_⟩
  exact List.forall_mem_nil _
theorem knowns_PRT_TRL_CTRL (q : Nat) : ∀ f ∈ PRT_TRL_CTRL.fields q, f.cell.known := by
  unfold PRT_TRL_CTRL.fields
  refine List.forall_mem_cons.2 ⟨known_PRT_TRL_CTRL_TRELLIS_OFF q, ?_⟩
  refine List.forall_mem_cons.2 ⟨known_PRT_TRL_CTRL_POLICY q, ?_⟩
  refine List.forall_mem_cons.2 ⟨known_PRT_TRL_CTRL_MIN_WIDTH q, ?_⟩
  refine List.forall_mem_cons.2 ⟨known_PRT_TRL_CTRL_COMMIT_HOLD q, ?_⟩
  refine List.forall_mem_cons.2 ⟨known_PRT_TRL_CTRL_UNCORR_LIMIT q, ?_⟩
  refine List.forall_mem_cons.2 ⟨known_PRT_TRL_CTRL_CORR_LIMIT q, ?_⟩
  exact List.forall_mem_nil _
theorem knowns_PRT_TRL_STATUS (q : Nat) : ∀ f ∈ PRT_TRL_STATUS.fields q, f.cell.known := by
  unfold PRT_TRL_STATUS.fields
  refine List.forall_mem_cons.2 ⟨known_PRT_TRL_STATUS_STEER_STATE q, ?_⟩
  refine List.forall_mem_cons.2 ⟨known_PRT_TRL_STATUS_XMIT_STATE q, ?_⟩
  refine List.forall_mem_cons.2 ⟨known_PRT_TRL_STATUS_RX_EPOCH q, ?_⟩
  refine List.forall_mem_cons.2 ⟨known_PRT_TRL_STATUS_TX_EPOCH q, ?_⟩
  refine List.forall_mem_cons.2 ⟨known_PRT_TRL_STATUS_READY_SPARES q, ?_⟩
  refine List.forall_mem_cons.2 ⟨known_PRT_TRL_STATUS_DEGRADED q, ?_⟩
  refine List.forall_mem_cons.2 ⟨known_PRT_TRL_STATUS_NO_SPARE q, ?_⟩
  refine List.forall_mem_cons.2 ⟨known_PRT_TRL_STATUS_PORT_FAULT q, ?_⟩
  refine List.forall_mem_cons.2 ⟨known_PRT_TRL_STATUS_REMAPPED q, ?_⟩
  refine List.forall_mem_cons.2 ⟨known_PRT_TRL_STATUS_CANCELLED q, ?_⟩
  refine List.forall_mem_cons.2 ⟨known_PRT_TRL_STATUS_SPARE_LOST q, ?_⟩
  exact List.forall_mem_nil _
theorem knowns_PRT_TRL_CNT (q : Nat) : ∀ f ∈ PRT_TRL_CNT.fields q, f.cell.known := by
  unfold PRT_TRL_CNT.fields
  refine List.forall_mem_cons.2 ⟨known_PRT_TRL_CNT_PROPOSE_CNT q, ?_⟩
  refine List.forall_mem_cons.2 ⟨known_PRT_TRL_CNT_COMMIT_CNT q, ?_⟩
  refine List.forall_mem_cons.2 ⟨known_PRT_TRL_CNT_CANCEL_CNT q, ?_⟩
  refine List.forall_mem_cons.2 ⟨known_PRT_TRL_CNT_REFUSE_CNT q, ?_⟩
  exact List.forall_mem_nil _
theorem knowns_PRT_TRL_CMD (q : Nat) : ∀ f ∈ PRT_TRL_CMD.fields q, f.cell.known := by
  unfold PRT_TRL_CMD.fields
  refine List.forall_mem_cons.2 ⟨known_PRT_TRL_CMD_GO q, ?_⟩
  refine List.forall_mem_cons.2 ⟨known_PRT_TRL_CMD_KIND q, ?_⟩
  refine List.forall_mem_cons.2 ⟨known_PRT_TRL_CMD_LANE q, ?_⟩
  refine List.forall_mem_cons.2 ⟨known_PRT_TRL_CMD_SPARE q, ?_⟩
  exact List.forall_mem_nil _
theorem knowns_LCH_LANE_FAULT (h : Nat) : ∀ f ∈ LCH_LANE_FAULT.fields h, f.cell.known := by
  unfold LCH_LANE_FAULT.fields
  refine List.forall_mem_cons.2 ⟨known_LCH_LANE_FAULT_STATUS h, ?_⟩
  refine List.forall_mem_cons.2 ⟨known_LCH_LANE_FAULT_LAST_REASON h, ?_⟩
  refine List.forall_mem_cons.2 ⟨known_LCH_LANE_FAULT_TX_LOGICAL h, ?_⟩
  refine List.forall_mem_cons.2 ⟨known_LCH_LANE_FAULT_RX_LOGICAL h, ?_⟩
  refine List.forall_mem_cons.2 ⟨known_LCH_LANE_FAULT_FAULT_NEW h, ?_⟩
  refine List.forall_mem_cons.2 ⟨known_LCH_LANE_FAULT_FAULT_CNT h, ?_⟩
  exact List.forall_mem_nil _
theorem knowns_CAL_POLICY : ∀ f ∈ CAL_POLICY.fields, f.cell.known := by
  unfold CAL_POLICY.fields
  refine List.forall_mem_cons.2 ⟨known_CAL_POLICY_AUTO_RUN, ?_⟩
  refine List.forall_mem_cons.2 ⟨known_CAL_POLICY_AUTO_STORE, ?_⟩
  refine List.forall_mem_cons.2 ⟨known_CAL_POLICY_RUN_INTERVAL, ?_⟩
  refine List.forall_mem_cons.2 ⟨known_CAL_POLICY_TEMP_STEP, ?_⟩
  refine List.forall_mem_cons.2 ⟨known_CAL_POLICY_STORE_INTERVAL, ?_⟩
  exact List.forall_mem_nil _
theorem knowns_CAL_CMD : ∀ f ∈ CAL_CMD.fields, f.cell.known := by
  unfold CAL_CMD.fields
  refine List.forall_mem_cons.2 ⟨known_CAL_CMD_GO, ?_⟩
  refine List.forall_mem_cons.2 ⟨known_CAL_CMD_ACTION, ?_⟩
  refine List.forall_mem_cons.2 ⟨known_CAL_CMD_SCOPE, ?_⟩
  refine List.forall_mem_cons.2 ⟨known_CAL_CMD_HALF, ?_⟩
  refine List.forall_mem_cons.2 ⟨known_CAL_CMD_INDEX, ?_⟩
  exact List.forall_mem_nil _
theorem knowns_CAL_STATUS : ∀ f ∈ CAL_STATUS.fields, f.cell.known := by
  unfold CAL_STATUS.fields
  refine List.forall_mem_cons.2 ⟨known_CAL_STATUS_STORE_BUSY, ?_⟩
  refine List.forall_mem_cons.2 ⟨known_CAL_STATUS_STORE_RESULT, ?_⟩
  refine List.forall_mem_cons.2 ⟨known_CAL_STATUS_BOOT_COPY, ?_⟩
  refine List.forall_mem_cons.2 ⟨known_CAL_STATUS_DIRTY, ?_⟩
  refine List.forall_mem_cons.2 ⟨known_CAL_STATUS_RUNS_ACTIVE, ?_⟩
  exact List.forall_mem_nil _
theorem knowns_CAL_GEN : ∀ f ∈ CAL_GEN.fields, f.cell.known := by
  unfold CAL_GEN.fields
  refine List.forall_mem_cons.2 ⟨known_CAL_GEN_GENERATION, ?_⟩
  exact List.forall_mem_nil _
theorem knowns_CAL_TEMP (t : Nat) : ∀ f ∈ CAL_TEMP.fields t, f.cell.known := by
  unfold CAL_TEMP.fields
  refine List.forall_mem_cons.2 ⟨known_CAL_TEMP_VALID t, ?_⟩
  refine List.forall_mem_cons.2 ⟨known_CAL_TEMP_TEMP t, ?_⟩
  exact List.forall_mem_nil _
theorem knowns_CAL_RX (h : Nat) : ∀ f ∈ CAL_RX.fields h, f.cell.known := by
  unfold CAL_RX.fields
  refine List.forall_mem_cons.2 ⟨known_CAL_RX_HOLD h, ?_⟩
  refine List.forall_mem_cons.2 ⟨known_CAL_RX_LAST_RESULT h, ?_⟩
  refine List.forall_mem_cons.2 ⟨known_CAL_RX_NQ_REASON h, ?_⟩
  refine List.forall_mem_cons.2 ⟨known_CAL_RX_APPLIED_TEMP h, ?_⟩
  refine List.forall_mem_cons.2 ⟨known_CAL_RX_VALID_POINTS h, ?_⟩
  refine List.forall_mem_cons.2 ⟨known_CAL_RX_RUN_CNT h, ?_⟩
  exact List.forall_mem_nil _
theorem knowns_ENG_CTRL : ∀ f ∈ ENG_CTRL.fields, f.cell.known := by
  unfold ENG_CTRL.fields
  refine List.forall_mem_cons.2 ⟨known_ENG_CTRL_SLICE_JOBS_OFF, ?_⟩
  refine List.forall_mem_cons.2 ⟨known_ENG_CTRL_FAULT_LIMIT, ?_⟩
  refine List.forall_mem_cons.2 ⟨known_ENG_CTRL_WAIT_LIMIT, ?_⟩
  exact List.forall_mem_nil _
theorem knowns_ENG_STATUS (k : Nat) : ∀ f ∈ ENG_STATUS.fields k, f.cell.known := by
  unfold ENG_STATUS.fields
  refine List.forall_mem_cons.2 ⟨known_ENG_STATUS_STATE k, ?_⟩
  refine List.forall_mem_cons.2 ⟨known_ENG_STATUS_FAULTS k, ?_⟩
  refine List.forall_mem_cons.2 ⟨known_ENG_STATUS_LOAD k, ?_⟩
  refine List.forall_mem_cons.2 ⟨known_ENG_STATUS_JOB_BUSY k, ?_⟩
  refine List.forall_mem_cons.2 ⟨known_ENG_STATUS_JOB_STATE k, ?_⟩
  refine List.forall_mem_cons.2 ⟨known_ENG_STATUS_JOB_RX k, ?_⟩
  refine List.forall_mem_cons.2 ⟨known_ENG_STATUS_JOB_KIND k, ?_⟩
  refine List.forall_mem_cons.2 ⟨known_ENG_STATUS_JOB_SLICE k, ?_⟩
  exact List.forall_mem_nil _
theorem knowns_ENG_PERMIT (s : Nat) : ∀ f ∈ ENG_PERMIT.fields s, f.cell.known := by
  unfold ENG_PERMIT.fields
  refine List.forall_mem_cons.2 ⟨known_ENG_PERMIT_DATA_ON_DATA s, ?_⟩
  refine List.forall_mem_cons.2 ⟨known_ENG_PERMIT_MARGIN_DATA s, ?_⟩
  refine List.forall_mem_cons.2 ⟨known_ENG_PERMIT_MARGIN_SAMPLER s, ?_⟩
  refine List.forall_mem_cons.2 ⟨known_ENG_PERMIT_EYE_SCAN s, ?_⟩
  exact List.forall_mem_nil _
theorem knowns_ENG_CNT (k : Nat) : ∀ f ∈ ENG_CNT.fields k, f.cell.known := by
  unfold ENG_CNT.fields
  refine List.forall_mem_cons.2 ⟨known_ENG_CNT_STEPS k, ?_⟩
  refine List.forall_mem_cons.2 ⟨known_ENG_CNT_DISPLACED k, ?_⟩
  refine List.forall_mem_cons.2 ⟨known_ENG_CNT_EXPIRED k, ?_⟩
  exact List.forall_mem_nil _
theorem knowns_IMG_STATUS : ∀ f ∈ IMG_STATUS.fields, f.cell.known := by
  unfold IMG_STATUS.fields
  refine List.forall_mem_cons.2 ⟨known_IMG_STATUS_BOOT_SLOT, ?_⟩
  refine List.forall_mem_cons.2 ⟨known_IMG_STATUS_ENG_FW_SLOT, ?_⟩
  refine List.forall_mem_cons.2 ⟨known_IMG_STATUS_RECOVERY, ?_⟩
  refine List.forall_mem_cons.2 ⟨known_IMG_STATUS_CONFIRMED, ?_⟩
  refine List.forall_mem_cons.2 ⟨known_IMG_STATUS_STRUCT_REFUSED, ?_⟩
  refine List.forall_mem_cons.2 ⟨known_IMG_STATUS_STRUCT_REASON, ?_⟩
  refine List.forall_mem_cons.2 ⟨known_IMG_STATUS_ARB_FUSE, ?_⟩
  refine List.forall_mem_cons.2 ⟨known_IMG_STATUS_ARB_IMAGE, ?_⟩
  refine List.forall_mem_cons.2 ⟨known_IMG_STATUS_CMD_RESULT, ?_⟩
  refine List.forall_mem_cons.2 ⟨known_IMG_STATUS_CMD_BUSY, ?_⟩
  exact List.forall_mem_nil _
theorem knowns_IMG_CMD : ∀ f ∈ IMG_CMD.fields, f.cell.known := by
  unfold IMG_CMD.fields
  refine List.forall_mem_cons.2 ⟨known_IMG_CMD_GO, ?_⟩
  refine List.forall_mem_cons.2 ⟨known_IMG_CMD_ACTION, ?_⟩
  refine List.forall_mem_cons.2 ⟨known_IMG_CMD_KEY, ?_⟩
  refine List.forall_mem_cons.2 ⟨known_IMG_CMD_LEN, ?_⟩
  exact List.forall_mem_nil _
theorem knowns_TXN_SCOPE_G : ∀ f ∈ TXN_SCOPE_G.fields, f.cell.known := by
  unfold TXN_SCOPE_G.fields
  refine List.forall_mem_cons.2 ⟨known_TXN_SCOPE_G_TRACE, ?_⟩
  refine List.forall_mem_cons.2 ⟨known_TXN_SCOPE_G_DOMAIN, ?_⟩
  refine List.forall_mem_cons.2 ⟨known_TXN_SCOPE_G_POWER_POLICY, ?_⟩
  refine List.forall_mem_cons.2 ⟨known_TXN_SCOPE_G_SLICE_DEFAULTS, ?_⟩
  refine List.forall_mem_cons.2 ⟨known_TXN_SCOPE_G_LANE_POLICY, ?_⟩
  refine List.forall_mem_cons.2 ⟨known_TXN_SCOPE_G_CHANNEL_TABLE, ?_⟩
  exact List.forall_mem_nil _
theorem knowns_TXN_SCOPE_P (k : Nat) : ∀ f ∈ TXN_SCOPE_P.fields k, f.cell.known := by
  unfold TXN_SCOPE_P.fields
  refine List.forall_mem_cons.2 ⟨known_TXN_SCOPE_P_PORTS k, ?_⟩
  exact List.forall_mem_nil _
theorem knowns_TXN_TIME (k : Nat) : ∀ f ∈ TXN_TIME.fields k, f.cell.known := by
  unfold TXN_TIME.fields
  refine List.forall_mem_cons.2 ⟨known_TXN_TIME_TIME k, ?_⟩
  exact List.forall_mem_nil _
theorem knowns_TXN_CMD : ∀ f ∈ TXN_CMD.fields, f.cell.known := by
  unfold TXN_CMD.fields
  refine List.forall_mem_cons.2 ⟨known_TXN_CMD_GO, ?_⟩
  refine List.forall_mem_cons.2 ⟨known_TXN_CMD_ACTION, ?_⟩
  exact List.forall_mem_nil _
theorem knowns_TXN_STATUS : ∀ f ∈ TXN_STATUS.fields, f.cell.known := by
  unfold TXN_STATUS.fields
  refine List.forall_mem_cons.2 ⟨known_TXN_STATUS_STATE, ?_⟩
  refine List.forall_mem_cons.2 ⟨known_TXN_STATUS_LAST_RESULT, ?_⟩
  refine List.forall_mem_cons.2 ⟨known_TXN_STATUS_STRAY, ?_⟩
  refine List.forall_mem_cons.2 ⟨known_TXN_STATUS_ID, ?_⟩
  refine List.forall_mem_cons.2 ⟨known_TXN_STATUS_FAIL_INDEX, ?_⟩
  refine List.forall_mem_cons.2 ⟨known_TXN_STATUS_REASON, ?_⟩
  exact List.forall_mem_nil _
theorem knowns_IMG_SRC (k : Nat) : ∀ f ∈ IMG_SRC.fields k, f.cell.known := by
  unfold IMG_SRC.fields
  refine List.forall_mem_cons.2 ⟨known_IMG_SRC_ADDR k, ?_⟩
  exact List.forall_mem_nil _
theorem knowns_IMG_KEYS : ∀ f ∈ IMG_KEYS.fields, f.cell.known := by
  unfold IMG_KEYS.fields
  refine List.forall_mem_cons.2 ⟨known_IMG_KEYS_FW_KEY, ?_⟩
  refine List.forall_mem_cons.2 ⟨known_IMG_KEYS_SLOT 3, ?_⟩
  refine List.forall_mem_cons.2 ⟨known_IMG_KEYS_SLOT 2, ?_⟩
  refine List.forall_mem_cons.2 ⟨known_IMG_KEYS_SLOT 1, ?_⟩
  refine List.forall_mem_cons.2 ⟨known_IMG_KEYS_SLOT 0, ?_⟩
  exact List.forall_mem_nil _
theorem knowns_IMG_BCT_INDEX : ∀ f ∈ IMG_BCT_INDEX.fields, f.cell.known := by
  unfold IMG_BCT_INDEX.fields
  refine List.forall_mem_cons.2 ⟨known_IMG_BCT_INDEX_INDEX, ?_⟩
  exact List.forall_mem_nil _
theorem knowns_IMG_BCT (k : Nat) : ∀ f ∈ IMG_BCT.fields k, f.cell.known := by
  unfold IMG_BCT.fields
  refine List.forall_mem_cons.2 ⟨known_IMG_BCT_ENTRY k, ?_⟩
  exact List.forall_mem_nil _
theorem knowns_GLB_ALIVE : ∀ f ∈ GLB_ALIVE.fields, f.cell.known := by
  unfold GLB_ALIVE.fields
  refine List.forall_mem_cons.2 ⟨known_GLB_ALIVE_MARK, ?_⟩
  refine List.forall_mem_cons.2 ⟨known_GLB_ALIVE_MGMT_RESETS, ?_⟩
  refine List.forall_mem_cons.2 ⟨known_GLB_ALIVE_BEAT, ?_⟩
  exact List.forall_mem_nil _
theorem knowns_GLB_MGMT_CTRL : ∀ f ∈ GLB_MGMT_CTRL.fields, f.cell.known := by
  unfold GLB_MGMT_CTRL.fields
  refine List.forall_mem_cons.2 ⟨known_GLB_MGMT_CTRL_WAKE_ON_EVENT, ?_⟩
  refine List.forall_mem_cons.2 ⟨known_GLB_MGMT_CTRL_WAKE_CLASS, ?_⟩
  exact List.forall_mem_nil _
theorem knowns_GLB_MGMT_STATUS : ∀ f ∈ GLB_MGMT_STATUS.fields, f.cell.known := by
  unfold GLB_MGMT_STATUS.fields
  refine List.forall_mem_cons.2 ⟨known_GLB_MGMT_STATUS_LINK_UP, ?_⟩
  refine List.forall_mem_cons.2 ⟨known_GLB_MGMT_STATUS_LINK_RATE, ?_⟩
  refine List.forall_mem_cons.2 ⟨known_GLB_MGMT_STATUS_LINK_WIDTH, ?_⟩
  refine List.forall_mem_cons.2 ⟨known_GLB_MGMT_STATUS_FLIT, ?_⟩
  refine List.forall_mem_cons.2 ⟨known_GLB_MGMT_STATUS_DMA_HELD, ?_⟩
  refine List.forall_mem_cons.2 ⟨known_GLB_MGMT_STATUS_BAD_ACCESS, ?_⟩
  refine List.forall_mem_cons.2 ⟨known_GLB_MGMT_STATUS_LATE_CPL, ?_⟩
  refine List.forall_mem_cons.2 ⟨known_GLB_MGMT_STATUS_STAGING_FULL, ?_⟩
  refine List.forall_mem_cons.2 ⟨known_GLB_MGMT_STATUS_STAGED, ?_⟩
  exact List.forall_mem_nil _
theorem knowns_GLB_MGMT_CNT : ∀ f ∈ GLB_MGMT_CNT.fields, f.cell.known := by
  unfold GLB_MGMT_CNT.fields
  refine List.forall_mem_cons.2 ⟨known_GLB_MGMT_CNT_LATE_CPL_CNT, ?_⟩
  refine List.forall_mem_cons.2 ⟨known_GLB_MGMT_CNT_TIMEOUTS, ?_⟩
  refine List.forall_mem_cons.2 ⟨known_GLB_MGMT_CNT_STAGE_DROPS, ?_⟩
  exact List.forall_mem_nil _
theorem knowns_SLC_CTRL (s : Nat) : ∀ f ∈ SLC_CTRL.fields s, f.cell.known := by
  unfold SLC_CTRL.fields
  refine List.forall_mem_cons.2 ⟨known_SLC_CTRL_GO s, ?_⟩
  refine List.forall_mem_cons.2 ⟨known_SLC_CTRL_ACTION s, ?_⟩
  refine List.forall_mem_cons.2 ⟨known_SLC_CTRL_PASID s, ?_⟩
  exact List.forall_mem_nil _
theorem knowns_SLC_STATUS (s : Nat) : ∀ f ∈ SLC_STATUS.fields s, f.cell.known := by
  unfold SLC_STATUS.fields
  refine List.forall_mem_cons.2 ⟨known_SLC_STATUS_STATE s, ?_⟩
  refine List.forall_mem_cons.2 ⟨known_SLC_STATUS_RESULT s, ?_⟩
  refine List.forall_mem_cons.2 ⟨known_SLC_STATUS_GENERATION s, ?_⟩
  refine List.forall_mem_cons.2 ⟨known_SLC_STATUS_RESET_DONE s, ?_⟩
  refine List.forall_mem_cons.2 ⟨known_SLC_STATUS_DESTROY_PENDING s, ?_⟩
  refine List.forall_mem_cons.2 ⟨known_SLC_STATUS_STAGED s, ?_⟩
  exact List.forall_mem_nil _
theorem knowns_SLC_RINGS (s : Nat) : ∀ f ∈ SLC_RINGS.fields s, f.cell.known := by
  unfold SLC_RINGS.fields
  refine List.forall_mem_cons.2 ⟨known_SLC_RINGS_BASE s, ?_⟩
  refine List.forall_mem_cons.2 ⟨known_SLC_RINGS_COUNT s, ?_⟩
  exact List.forall_mem_nil _
theorem knowns_SLC_VECTORS (s : Nat) : ∀ f ∈ SLC_VECTORS.fields s, f.cell.known := by
  unfold SLC_VECTORS.fields
  refine List.forall_mem_cons.2 ⟨known_SLC_VECTORS_BASE s, ?_⟩
  refine List.forall_mem_cons.2 ⟨known_SLC_VECTORS_COUNT s, ?_⟩
  exact List.forall_mem_nil _
theorem knowns_SLC_SHARE (s : Nat) : ∀ f ∈ SLC_SHARE.fields s, f.cell.known := by
  unfold SLC_SHARE.fields
  refine List.forall_mem_cons.2 ⟨known_SLC_SHARE_TOKENS s, ?_⟩
  refine List.forall_mem_cons.2 ⟨known_SLC_SHARE_GRANULES s, ?_⟩
  exact List.forall_mem_nil _
theorem knowns_SLC_PORTS (s k : Nat) : ∀ f ∈ SLC_PORTS.fields s k, f.cell.known := by
  unfold SLC_PORTS.fields
  refine List.forall_mem_cons.2 ⟨known_SLC_PORTS_PORTS s k, ?_⟩
  exact List.forall_mem_nil _
theorem knowns_SLC_DEF_S0 : ∀ f ∈ SLC_DEF_S0.fields, f.cell.known := by
  unfold SLC_DEF_S0.fields
  refine List.forall_mem_cons.2 ⟨known_SLC_DEF_S0_RINGS, ?_⟩
  refine List.forall_mem_cons.2 ⟨known_SLC_DEF_S0_VECTORS, ?_⟩
  refine List.forall_mem_cons.2 ⟨known_SLC_DEF_S0_TOKENS, ?_⟩
  refine List.forall_mem_cons.2 ⟨known_SLC_DEF_S0_GRANULES, ?_⟩
  exact List.forall_mem_nil _
theorem knowns_RNG_INFO (i : Nat) : ∀ f ∈ RNG_INFO.fields i, f.cell.known := by
  unfold RNG_INFO.fields
  refine List.forall_mem_cons.2 ⟨known_RNG_INFO_VALID i, ?_⟩
  refine List.forall_mem_cons.2 ⟨known_RNG_INFO_STATE i, ?_⟩
  refine List.forall_mem_cons.2 ⟨known_RNG_INFO_OWNER i, ?_⟩
  refine List.forall_mem_cons.2 ⟨known_RNG_INFO_KIND i, ?_⟩
  refine List.forall_mem_cons.2 ⟨known_RNG_INFO_LOCAL i, ?_⟩
  exact List.forall_mem_nil _
theorem knowns_SLC_SELF_INFO (s : Nat) : ∀ f ∈ SLC_SELF_INFO.fields s, f.cell.known := by
  unfold SLC_SELF_INFO.fields
  refine List.forall_mem_cons.2 ⟨known_SLC_SELF_INFO_SLICE s, ?_⟩
  refine List.forall_mem_cons.2 ⟨known_SLC_SELF_INFO_GENERATION s, ?_⟩
  refine List.forall_mem_cons.2 ⟨known_SLC_SELF_INFO_STATE s, ?_⟩
  refine List.forall_mem_cons.2 ⟨known_SLC_SELF_INFO_HELD s, ?_⟩
  exact List.forall_mem_nil _
theorem knowns_SLC_SELF_CTRL (s : Nat) : ∀ f ∈ SLC_SELF_CTRL.fields s, f.cell.known := by
  unfold SLC_SELF_CTRL.fields
  refine List.forall_mem_cons.2 ⟨known_SLC_SELF_CTRL_RESET s, ?_⟩
  refine List.forall_mem_cons.2 ⟨known_SLC_SELF_CTRL_NOTICE_RING s, ?_⟩
  refine List.forall_mem_cons.2 ⟨known_SLC_SELF_CTRL_CLASS_MASK s, ?_⟩
  exact List.forall_mem_nil _
theorem knowns_SLC_SELF_STATUS (s : Nat) : ∀ f ∈ SLC_SELF_STATUS.fields s, f.cell.known := by
  unfold SLC_SELF_STATUS.fields
  refine List.forall_mem_cons.2 ⟨known_SLC_SELF_STATUS_RESET_DONE s, ?_⟩
  refine List.forall_mem_cons.2 ⟨known_SLC_SELF_STATUS_DISCARDED s, ?_⟩
  refine List.forall_mem_cons.2 ⟨known_SLC_SELF_STATUS_DROPPED s, ?_⟩
  exact List.forall_mem_nil _
theorem knowns_RNG_BASE (s i k : Nat) : ∀ f ∈ RNG_BASE.fields s i k, f.cell.known := by
  unfold RNG_BASE.fields
  refine List.forall_mem_cons.2 ⟨known_RNG_BASE_ADDR s i k, ?_⟩
  exact List.forall_mem_nil _
theorem knowns_RNG_CTRL (s i : Nat) : ∀ f ∈ RNG_CTRL.fields s i, f.cell.known := by
  unfold RNG_CTRL.fields
  refine List.forall_mem_cons.2 ⟨known_RNG_CTRL_ENABLE s i, ?_⟩
  refine List.forall_mem_cons.2 ⟨known_RNG_CTRL_RESUME s i, ?_⟩
  refine List.forall_mem_cons.2 ⟨known_RNG_CTRL_KIND s i, ?_⟩
  refine List.forall_mem_cons.2 ⟨known_RNG_CTRL_INT_EN s i, ?_⟩
  refine List.forall_mem_cons.2 ⟨known_RNG_CTRL_SIZE_LOG2 s i, ?_⟩
  refine List.forall_mem_cons.2 ⟨known_RNG_CTRL_VECTOR s i, ?_⟩
  exact List.forall_mem_nil _
theorem knowns_RNG_DOORBELL (s i : Nat) : ∀ f ∈ RNG_DOORBELL.fields s i, f.cell.known := by
  unfold RNG_DOORBELL.fields
  refine List.forall_mem_cons.2 ⟨known_RNG_DOORBELL_INDEX s i, ?_⟩
  exact List.forall_mem_nil _
theorem knowns_RNG_POS (s i : Nat) : ∀ f ∈ RNG_POS.fields s i, f.cell.known := by
  unfold RNG_POS.fields
  refine List.forall_mem_cons.2 ⟨known_RNG_POS_HEAD s i, ?_⟩
  refine List.forall_mem_cons.2 ⟨known_RNG_POS_TAIL s i, ?_⟩
  exact List.forall_mem_nil _
theorem knowns_RNG_STATUS (s i : Nat) : ∀ f ∈ RNG_STATUS.fields s i, f.cell.known := by
  unfold RNG_STATUS.fields
  refine List.forall_mem_cons.2 ⟨known_RNG_STATUS_STATE s i, ?_⟩
  refine List.forall_mem_cons.2 ⟨known_RNG_STATUS_PHASE s i, ?_⟩
  refine List.forall_mem_cons.2 ⟨known_RNG_STATUS_ERRORS s i, ?_⟩
  exact List.forall_mem_nil _
theorem knowns_GLB_FABRIC_ID : ∀ f ∈ GLB_FABRIC_ID.fields, f.cell.known := by
  unfold GLB_FABRIC_ID.fields
  refine List.forall_mem_cons.2 ⟨known_GLB_FABRIC_ID_FABRIC_ID, ?_⟩
  exact List.forall_mem_nil _
theorem knowns_TIM_CTRL : ∀ f ∈ TIM_CTRL.fields, f.cell.known := by
  unfold TIM_CTRL.fields
  refine List.forall_mem_cons.2 ⟨known_TIM_CTRL_ROLE, ?_⟩
  refine List.forall_mem_cons.2 ⟨known_TIM_CTRL_TPULSE_MODE, ?_⟩
  refine List.forall_mem_cons.2 ⟨known_TIM_CTRL_TIME_FRAMES_OFF, ?_⟩
  exact List.forall_mem_nil _
theorem knowns_TIM_STATUS : ∀ f ∈ TIM_STATUS.fields, f.cell.known := by
  unfold TIM_STATUS.fields
  refine List.forall_mem_cons.2 ⟨known_TIM_STATUS_QUALITY, ?_⟩
  refine List.forall_mem_cons.2 ⟨known_TIM_STATUS_LOCKED, ?_⟩
  refine List.forall_mem_cons.2 ⟨known_TIM_STATUS_HOLDOVER, ?_⟩
  refine List.forall_mem_cons.2 ⟨known_TIM_STATUS_SLEWING, ?_⟩
  refine List.forall_mem_cons.2 ⟨known_TIM_STATUS_CONFLICT, ?_⟩
  refine List.forall_mem_cons.2 ⟨known_TIM_STATUS_STEPPED, ?_⟩
  refine List.forall_mem_cons.2 ⟨known_TIM_STATUS_STRATUM, ?_⟩
  refine List.forall_mem_cons.2 ⟨known_TIM_STATUS_PARENT_SIDE, ?_⟩
  refine List.forall_mem_cons.2 ⟨known_TIM_STATUS_PARENT_PORT, ?_⟩
  refine List.forall_mem_cons.2 ⟨known_TIM_STATUS_PARENT_PULSE, ?_⟩
  refine List.forall_mem_cons.2 ⟨known_TIM_STATUS_MASTER_VALID, ?_⟩
  refine List.forall_mem_cons.2 ⟨known_TIM_STATUS_MASTER_ID, ?_⟩
  exact List.forall_mem_nil _
theorem knowns_TIM_UNCERT : ∀ f ∈ TIM_UNCERT.fields, f.cell.known := by
  unfold TIM_UNCERT.fields
  refine List.forall_mem_cons.2 ⟨known_TIM_UNCERT_BOUND, ?_⟩
  exact List.forall_mem_nil _
theorem knowns_TIM_OFFSET : ∀ f ∈ TIM_OFFSET.fields, f.cell.known := by
  unfold TIM_OFFSET.fields
  refine List.forall_mem_cons.2 ⟨known_TIM_OFFSET_THETA, ?_⟩
  exact List.forall_mem_nil _
theorem knowns_TIM_RATE : ∀ f ∈ TIM_RATE.fields, f.cell.known := by
  unfold TIM_RATE.fields
  refine List.forall_mem_cons.2 ⟨known_TIM_RATE_PPB, ?_⟩
  exact List.forall_mem_nil _
theorem knowns_TIM_PULSE : ∀ f ∈ TIM_PULSE.fields, f.cell.known := by
  unfold TIM_PULSE.fields
  refine List.forall_mem_cons.2 ⟨known_TIM_PULSE_SET_AT_PULSE, ?_⟩
  refine List.forall_mem_cons.2 ⟨known_TIM_PULSE_PERIOD, ?_⟩
  refine List.forall_mem_cons.2 ⟨known_TIM_PULSE_IN_STRATUM, ?_⟩
  refine List.forall_mem_cons.2 ⟨known_TIM_PULSE_DELAY, ?_⟩
  exact List.forall_mem_nil _
theorem knowns_TIM_ASYM (p : Nat) : ∀ f ∈ TIM_ASYM.fields p, f.cell.known := by
  unfold TIM_ASYM.fields
  refine List.forall_mem_cons.2 ⟨known_TIM_ASYM_A_ASYM p, ?_⟩
  refine List.forall_mem_cons.2 ⟨known_TIM_ASYM_B_ASYM p, ?_⟩
  exact List.forall_mem_nil _
theorem knowns_TRC_TRIG_CTRL : ∀ f ∈ TRC_TRIG_CTRL.fields, f.cell.known := by
  unfold TRC_TRIG_CTRL.fields
  refine List.forall_mem_cons.2 ⟨known_TRC_TRIG_CTRL_FIRE, ?_⟩
  refine List.forall_mem_cons.2 ⟨known_TRC_TRIG_CTRL_TRIG_OUT, ?_⟩
  refine List.forall_mem_cons.2 ⟨known_TRC_TRIG_CTRL_SLICE_TRIG, ?_⟩
  refine List.forall_mem_cons.2 ⟨known_TRC_TRIG_CTRL_SRC_EN, ?_⟩
  exact List.forall_mem_nil _
theorem knowns_TRC_SCHED (k : Nat) : ∀ f ∈ TRC_SCHED.fields k, f.cell.known := by
  unfold TRC_SCHED.fields
  refine List.forall_mem_cons.2 ⟨known_TRC_SCHED_TIME k, ?_⟩
  exact List.forall_mem_nil _
theorem knowns_TRC_SCHED_CTRL : ∀ f ∈ TRC_SCHED_CTRL.fields, f.cell.known := by
  unfold TRC_SCHED_CTRL.fields
  refine List.forall_mem_cons.2 ⟨known_TRC_SCHED_CTRL_GO, ?_⟩
  refine List.forall_mem_cons.2 ⟨known_TRC_SCHED_CTRL_FLOOD, ?_⟩
  refine List.forall_mem_cons.2 ⟨known_TRC_SCHED_CTRL_PENDING, ?_⟩
  refine List.forall_mem_cons.2 ⟨known_TRC_SCHED_CTRL_LATE, ?_⟩
  refine List.forall_mem_cons.2 ⟨known_TRC_SCHED_CTRL_NUMBER, ?_⟩
  refine List.forall_mem_cons.2 ⟨known_TRC_SCHED_CTRL_LATE_CNT, ?_⟩
  exact List.forall_mem_nil _
theorem knowns_TRC_DROPS (t : Nat) : ∀ f ∈ TRC_DROPS.fields t, f.cell.known := by
  unfold TRC_DROPS.fields
  refine List.forall_mem_cons.2 ⟨known_TRC_DROPS_COUNT t, ?_⟩
  exact List.forall_mem_nil _
theorem knowns_TRC_WN_STATUS (p : Nat) : ∀ f ∈ TRC_WN_STATUS.fields p, f.cell.known := by
  unfold TRC_WN_STATUS.fields
  refine List.forall_mem_cons.2 ⟨known_TRC_WN_STATUS_AB_CLAIMED p, ?_⟩
  refine List.forall_mem_cons.2 ⟨known_TRC_WN_STATUS_AB_OWNER p, ?_⟩
  refine List.forall_mem_cons.2 ⟨known_TRC_WN_STATUS_AB_UNITS p, ?_⟩
  refine List.forall_mem_cons.2 ⟨known_TRC_WN_STATUS_BA_CLAIMED p, ?_⟩
  refine List.forall_mem_cons.2 ⟨known_TRC_WN_STATUS_BA_OWNER p, ?_⟩
  refine List.forall_mem_cons.2 ⟨known_TRC_WN_STATUS_BA_UNITS p, ?_⟩
  exact List.forall_mem_nil _
theorem knowns_SNP_CTRL : ∀ f ∈ SNP_CTRL.fields, f.cell.known := by
  unfold SNP_CTRL.fields
  refine List.forall_mem_cons.2 ⟨known_SNP_CTRL_REARM, ?_⟩
  refine List.forall_mem_cons.2 ⟨known_SNP_CTRL_AUTO_REARM, ?_⟩
  exact List.forall_mem_nil _
theorem knowns_SNP_STATUS : ∀ f ∈ SNP_STATUS.fields, f.cell.known := by
  unfold SNP_STATUS.fields
  refine List.forall_mem_cons.2 ⟨known_SNP_STATUS_STATE, ?_⟩
  refine List.forall_mem_cons.2 ⟨known_SNP_STATUS_SOURCES, ?_⟩
  refine List.forall_mem_cons.2 ⟨known_SNP_STATUS_LATCH_ID, ?_⟩
  refine List.forall_mem_cons.2 ⟨known_SNP_STATUS_TILES_LATCHED, ?_⟩
  refine List.forall_mem_cons.2 ⟨known_SNP_STATUS_MISSED, ?_⟩
  exact List.forall_mem_nil _
theorem knowns_SNP_TIME (k : Nat) : ∀ f ∈ SNP_TIME.fields k, f.cell.known := by
  unfold SNP_TIME.fields
  refine List.forall_mem_cons.2 ⟨known_SNP_TIME_TIME k, ?_⟩
  exact List.forall_mem_nil _
theorem knowns_TRC_WIN_STATUS (s w : Nat) : ∀ f ∈ TRC_WIN_STATUS.fields s w, f.cell.known := by
  unfold TRC_WIN_STATUS.fields
  refine List.forall_mem_cons.2 ⟨known_TRC_WIN_STATUS_STATE s w, ?_⟩
  refine List.forall_mem_cons.2 ⟨known_TRC_WIN_STATUS_KIND s w, ?_⟩
  refine List.forall_mem_cons.2 ⟨known_TRC_WIN_STATUS_MODE s w, ?_⟩
  refine List.forall_mem_cons.2 ⟨known_TRC_WIN_STATUS_RESUME s w, ?_⟩
  refine List.forall_mem_cons.2 ⟨known_TRC_WIN_STATUS_GRANULES s w, ?_⟩
  exact List.forall_mem_nil _
theorem knowns_TRC_WIN_POS (s w : Nat) : ∀ f ∈ TRC_WIN_POS.fields s w, f.cell.known := by
  unfold TRC_WIN_POS.fields
  refine List.forall_mem_cons.2 ⟨known_TRC_WIN_POS_POS s w, ?_⟩
  exact List.forall_mem_nil _
theorem knowns_TRC_WIN_READ (s w : Nat) : ∀ f ∈ TRC_WIN_READ.fields s w, f.cell.known := by
  unfold TRC_WIN_READ.fields
  refine List.forall_mem_cons.2 ⟨known_TRC_WIN_READ_READ s w, ?_⟩
  exact List.forall_mem_nil _
theorem knowns_TRC_WIN_DROPS (s w : Nat) : ∀ f ∈ TRC_WIN_DROPS.fields s w, f.cell.known := by
  unfold TRC_WIN_DROPS.fields
  refine List.forall_mem_cons.2 ⟨known_TRC_WIN_DROPS_DROPS s w, ?_⟩
  exact List.forall_mem_nil _
theorem knowns_PWR_STATUS : ∀ f ∈ PWR_STATUS.fields, f.cell.known := by
  unfold PWR_STATUS.fields
  refine List.forall_mem_cons.2 ⟨known_PWR_STATUS_STATE, ?_⟩
  refine List.forall_mem_cons.2 ⟨known_PWR_STATUS_PL, ?_⟩
  refine List.forall_mem_cons.2 ⟨known_PWR_STATUS_PL_TARGET, ?_⟩
  refine List.forall_mem_cons.2 ⟨known_PWR_STATUS_VID_CODE, ?_⟩
  refine List.forall_mem_cons.2 ⟨known_PWR_STATUS_VID_BUSY, ?_⟩
  refine List.forall_mem_cons.2 ⟨known_PWR_STATUS_ACTIVE_PORTS, ?_⟩
  exact List.forall_mem_nil _
theorem knowns_PWR_POLICY : ∀ f ∈ PWR_POLICY.fields, f.cell.known := by
  unfold PWR_POLICY.fields
  refine List.forall_mem_cons.2 ⟨known_PWR_POLICY_DEEP_EN, ?_⟩
  refine List.forall_mem_cons.2 ⟨known_PWR_POLICY_OFF_EN, ?_⟩
  refine List.forall_mem_cons.2 ⟨known_PWR_POLICY_PL_FLOOR, ?_⟩
  refine List.forall_mem_cons.2 ⟨known_PWR_POLICY_VID_WAIT, ?_⟩
  refine List.forall_mem_cons.2 ⟨known_PWR_POLICY_DEEP_TMAX, ?_⟩
  exact List.forall_mem_nil _
theorem knowns_PWR_TIMERS : ∀ f ∈ PWR_TIMERS.fields, f.cell.known := by
  unfold PWR_TIMERS.fields
  refine List.forall_mem_cons.2 ⟨known_PWR_TIMERS_TILE_IDLE, ?_⟩
  refine List.forall_mem_cons.2 ⟨known_PWR_TIMERS_IDLE_TIMER, ?_⟩
  refine List.forall_mem_cons.2 ⟨known_PWR_TIMERS_SLEEP_TIMER, ?_⟩
  refine List.forall_mem_cons.2 ⟨known_PWR_TIMERS_DEEP_TIMER, ?_⟩
  refine List.forall_mem_cons.2 ⟨known_PWR_TIMERS_OFF_TIMER, ?_⟩
  refine List.forall_mem_cons.2 ⟨known_PWR_TIMERS_PARK_POLL, ?_⟩
  exact List.forall_mem_nil _
theorem knowns_PWR_PORT_ARM (k : Nat) : ∀ f ∈ PWR_PORT_ARM.fields k, f.cell.known := by
  unfold PWR_PORT_ARM.fields
  refine List.forall_mem_cons.2 ⟨known_PWR_PORT_ARM_PORTS k, ?_⟩
  exact List.forall_mem_nil _
theorem knowns_PWR_WAKE_SOURCE : ∀ f ∈ PWR_WAKE_SOURCE.fields, f.cell.known := by
  unfold PWR_WAKE_SOURCE.fields
  refine List.forall_mem_cons.2 ⟨known_PWR_WAKE_SOURCE_FROM_STATE, ?_⟩
  refine List.forall_mem_cons.2 ⟨known_PWR_WAKE_SOURCE_SIGDET_PORT, ?_⟩
  refine List.forall_mem_cons.2 ⟨known_PWR_WAKE_SOURCE_INTERNAL, ?_⟩
  refine List.forall_mem_cons.2 ⟨known_PWR_WAKE_SOURCE_AON_TIMER, ?_⟩
  refine List.forall_mem_cons.2 ⟨known_PWR_WAKE_SOURCE_SIGDET, ?_⟩
  refine List.forall_mem_cons.2 ⟨known_PWR_WAKE_SOURCE_MGMT_LINK, ?_⟩
  refine List.forall_mem_cons.2 ⟨known_PWR_WAKE_SOURCE_WAKE_IN, ?_⟩
  refine List.forall_mem_cons.2 ⟨known_PWR_WAKE_SOURCE_SB_MATCH, ?_⟩
  exact List.forall_mem_nil _
theorem knowns_PWR_WAKE_STATUS : ∀ f ∈ PWR_WAKE_STATUS.fields, f.cell.known := by
  unfold PWR_WAKE_STATUS.fields
  refine List.forall_mem_cons.2 ⟨known_PWR_WAKE_STATUS_LOFT_FAIL, ?_⟩
  refine List.forall_mem_cons.2 ⟨known_PWR_WAKE_STATUS_ABANDONED, ?_⟩
  refine List.forall_mem_cons.2 ⟨known_PWR_WAKE_STATUS_WAKE_US, ?_⟩
  exact List.forall_mem_nil _
theorem knowns_PWR_AON_STATUS : ∀ f ∈ PWR_AON_STATUS.fields, f.cell.known := by
  unfold PWR_AON_STATUS.fields
  refine List.forall_mem_cons.2 ⟨known_PWR_AON_STATUS_BOR, ?_⟩
  refine List.forall_mem_cons.2 ⟨known_PWR_AON_STATUS_LOAD, ?_⟩
  refine List.forall_mem_cons.2 ⟨known_PWR_AON_STATUS_SUPPLY, ?_⟩
  exact List.forall_mem_nil _
theorem knowns_PWR_AON_REC (i : Nat) : ∀ f ∈ PWR_AON_REC.fields i, f.cell.known := by
  unfold PWR_AON_REC.fields
  refine List.forall_mem_cons.2 ⟨known_PWR_AON_REC_DATA i, ?_⟩
  exact List.forall_mem_nil _
theorem knowns_CLK_STATUS : ∀ f ∈ CLK_STATUS.fields, f.cell.known := by
  unfold CLK_STATUS.fields
  refine List.forall_mem_cons.2 ⟨known_CLK_STATUS_ROOT_LOCK, ?_⟩
  refine List.forall_mem_cons.2 ⟨known_CLK_STATUS_REFCLK_OK, ?_⟩
  refine List.forall_mem_cons.2 ⟨known_CLK_STATUS_CORE_SRC, ?_⟩
  refine List.forall_mem_cons.2 ⟨known_CLK_STATUS_MCLK_SRC, ?_⟩
  refine List.forall_mem_cons.2 ⟨known_CLK_STATUS_REFCLK_LOST, ?_⟩
  refine List.forall_mem_cons.2 ⟨known_CLK_STATUS_LOSS_CNT, ?_⟩
  exact List.forall_mem_nil _
theorem knowns_CLK_AON_RATIO : ∀ f ∈ CLK_AON_RATIO.fields, f.cell.known := by
  unfold CLK_AON_RATIO.fields
  refine List.forall_mem_cons.2 ⟨known_CLK_AON_RATIO_RATIO, ?_⟩
  exact List.forall_mem_nil _
theorem knowns_RST_STATUS : ∀ f ∈ RST_STATUS.fields, f.cell.known := by
  unfold RST_STATUS.fields
  refine List.forall_mem_cons.2 ⟨known_RST_STATUS_REASON, ?_⟩
  refine List.forall_mem_cons.2 ⟨known_RST_STATUS_THERMTRIP_SEEN, ?_⟩
  refine List.forall_mem_cons.2 ⟨known_RST_STATUS_BOOT_DONE, ?_⟩
  refine List.forall_mem_cons.2 ⟨known_RST_STATUS_PIN_CNT, ?_⟩
  exact List.forall_mem_nil _
theorem knowns_RST_CMD : ∀ f ∈ RST_CMD.fields, f.cell.known := by
  unfold RST_CMD.fields
  refine List.forall_mem_cons.2 ⟨known_RST_CMD_GO, ?_⟩
  refine List.forall_mem_cons.2 ⟨known_RST_CMD_ACTION, ?_⟩
  refine List.forall_mem_cons.2 ⟨known_RST_CMD_INDEX, ?_⟩
  refine List.forall_mem_cons.2 ⟨known_RST_CMD_KEY, ?_⟩
  exact List.forall_mem_nil _
theorem knowns_RST_CNT : ∀ f ∈ RST_CNT.fields, f.cell.known := by
  unfold RST_CNT.fields
  refine List.forall_mem_cons.2 ⟨known_RST_CNT_TILE_RESETS, ?_⟩
  refine List.forall_mem_cons.2 ⟨known_RST_CNT_RESTRUCTURES, ?_⟩
  refine List.forall_mem_cons.2 ⟨known_RST_CNT_PORT_RESETS, ?_⟩
  exact List.forall_mem_nil _
theorem knowns_ERR_DP_STATUS : ∀ f ∈ ERR_DP_STATUS.fields, f.cell.known := by
  unfold ERR_DP_STATUS.fields
  refine List.forall_mem_cons.2 ⟨known_ERR_DP_STATUS_CODES, ?_⟩
  exact List.forall_mem_nil _
theorem knowns_ERR_DP_MASK : ∀ f ∈ ERR_DP_MASK.fields, f.cell.known := by
  unfold ERR_DP_MASK.fields
  refine List.forall_mem_cons.2 ⟨known_ERR_DP_MASK_CODES, ?_⟩
  exact List.forall_mem_nil _
theorem knowns_ERR_DP_PORTS (k : Nat) : ∀ f ∈ ERR_DP_PORTS.fields k, f.cell.known := by
  unfold ERR_DP_PORTS.fields
  refine List.forall_mem_cons.2 ⟨known_ERR_DP_PORTS_PORTS k, ?_⟩
  exact List.forall_mem_nil _
theorem knowns_ERR_DP_LOG0 : ∀ f ∈ ERR_DP_LOG0.fields, f.cell.known := by
  unfold ERR_DP_LOG0.fields
  refine List.forall_mem_cons.2 ⟨known_ERR_DP_LOG0_VALID, ?_⟩
  refine List.forall_mem_cons.2 ⟨known_ERR_DP_LOG0_OVERFLOW, ?_⟩
  refine List.forall_mem_cons.2 ⟨known_ERR_DP_LOG0_CODE, ?_⟩
  refine List.forall_mem_cons.2 ⟨known_ERR_DP_LOG0_PORT, ?_⟩
  refine List.forall_mem_cons.2 ⟨known_ERR_DP_LOG0_DETAIL, ?_⟩
  exact List.forall_mem_nil _
theorem knowns_ERR_DP_LOG_TIME (k : Nat) : ∀ f ∈ ERR_DP_LOG_TIME.fields k, f.cell.known := by
  unfold ERR_DP_LOG_TIME.fields
  refine List.forall_mem_cons.2 ⟨known_ERR_DP_LOG_TIME_TIME k, ?_⟩
  exact List.forall_mem_nil _
theorem knowns_ERR_DP_CNT : ∀ f ∈ ERR_DP_CNT.fields, f.cell.known := by
  unfold ERR_DP_CNT.fields
  refine List.forall_mem_cons.2 ⟨known_ERR_DP_CNT_CORRECTABLE, ?_⟩
  refine List.forall_mem_cons.2 ⟨known_ERR_DP_CNT_NONFATAL, ?_⟩
  refine List.forall_mem_cons.2 ⟨known_ERR_DP_CNT_FATAL, ?_⟩
  exact List.forall_mem_nil _
theorem knowns_ERR_CTRL : ∀ f ∈ ERR_CTRL.fields, f.cell.known := by
  unfold ERR_CTRL.fields
  refine List.forall_mem_cons.2 ⟨known_ERR_CTRL_AUTO_TILE_RESET, ?_⟩
  exact List.forall_mem_nil _
theorem knowns_SB_CTRL : ∀ f ∈ SB_CTRL.fields, f.cell.known := by
  unfold SB_CTRL.fields
  refine List.forall_mem_cons.2 ⟨known_SB_CTRL_ALERT_EN, ?_⟩
  refine List.forall_mem_cons.2 ⟨known_SB_CTRL_ALERT_CLASS, ?_⟩
  refine List.forall_mem_cons.2 ⟨known_SB_CTRL_PEC_REQUIRED, ?_⟩
  exact List.forall_mem_nil _
theorem knowns_SB_STATUS : ∀ f ∈ SB_STATUS.fields, f.cell.known := by
  unfold SB_STATUS.fields
  refine List.forall_mem_cons.2 ⟨known_SB_STATUS_ADDRESS, ?_⟩
  refine List.forall_mem_cons.2 ⟨known_SB_STATUS_ALERT_PENDING, ?_⟩
  refine List.forall_mem_cons.2 ⟨known_SB_STATUS_PEC_ERR, ?_⟩
  refine List.forall_mem_cons.2 ⟨known_SB_STATUS_TIMEOUT, ?_⟩
  refine List.forall_mem_cons.2 ⟨known_SB_STATUS_LAST_STATUS, ?_⟩
  exact List.forall_mem_nil _
theorem knowns_SB_CNT : ∀ f ∈ SB_CNT.fields, f.cell.known := by
  unfold SB_CNT.fields
  refine List.forall_mem_cons.2 ⟨known_SB_CNT_MESSAGES, ?_⟩
  refine List.forall_mem_cons.2 ⟨known_SB_CNT_ERRORS, ?_⟩
  exact List.forall_mem_nil _
theorem knowns_TIM_SET (k : Nat) : ∀ f ∈ TIM_SET.fields k, f.cell.known := by
  unfold TIM_SET.fields
  refine List.forall_mem_cons.2 ⟨known_TIM_SET_TIME k, ?_⟩
  exact List.forall_mem_nil _
theorem known_PRT_MODE_SEGMENT (q : Nat) : (PRT_MODE.SEGMENT q).known := by
  unfold PRT_MODE.SEGMENT
  split
  · exact known_PRT_MODE_A_SEGMENT _
  · exact known_PRT_MODE_B_SEGMENT _
theorem known_PRT_MODE_WIDTH (q : Nat) : (PRT_MODE.WIDTH q).known := by
  unfold PRT_MODE.WIDTH
  split
  · exact known_PRT_MODE_A_WIDTH _
  · exact known_PRT_MODE_B_WIDTH _
theorem known_PRT_MODE_SPARES (q : Nat) : (PRT_MODE.SPARES q).known := by
  unfold PRT_MODE.SPARES
  split
  · exact known_PRT_MODE_A_SPARES _
  · exact known_PRT_MODE_B_SPARES _
theorem known_PRT_DP_CTRL_SLOT (q : Nat) : (PRT_DP_CTRL.SLOT q).known := by
  unfold PRT_DP_CTRL.SLOT
  split
  · exact known_PRT_DP_CTRL_A_SLOT _
  · exact known_PRT_DP_CTRL_B_SLOT _
theorem known_PRT_DP_STATUS_SLOT_NOW (q : Nat) : (PRT_DP_STATUS.SLOT_NOW q).known := by
  unfold PRT_DP_STATUS.SLOT_NOW
  split
  · exact known_PRT_DP_STATUS_A_SLOT_NOW _
  · exact known_PRT_DP_STATUS_B_SLOT_NOW _
theorem known_PRT_DP_STATUS_ALIGN (q : Nat) : (PRT_DP_STATUS.ALIGN q).known := by
  unfold PRT_DP_STATUS.ALIGN
  split
  · exact known_PRT_DP_STATUS_A_ALIGN _
  · exact known_PRT_DP_STATUS_B_ALIGN _
theorem known_PRT_DP_STATUS_REVERSED (q : Nat) : (PRT_DP_STATUS.REVERSED q).known := by
  unfold PRT_DP_STATUS.REVERSED
  split
  · exact known_PRT_DP_STATUS_A_REVERSED _
  · exact known_PRT_DP_STATUS_B_REVERSED _
theorem known_PRT_TRN_EVENTS_PARTNER_LOST (q : Nat) : (PRT_TRN_EVENTS.PARTNER_LOST q).known := by
  unfold PRT_TRN_EVENTS.PARTNER_LOST
  split
  · exact known_PRT_TRN_EVENTS_PARTNER_LOST_A _
  · exact known_PRT_TRN_EVENTS_PARTNER_LOST_B _
theorem known_LCH_ASSIGN_VALID (h : Nat) : (LCH_ASSIGN.VALID h).known := by
  unfold LCH_ASSIGN.VALID
  split
  · exact known_LCH_ASSIGN_A_VALID _
  · exact known_LCH_ASSIGN_B_VALID _
theorem known_LCH_ASSIGN_PORT (h : Nat) : (LCH_ASSIGN.PORT h).known := by
  unfold LCH_ASSIGN.PORT
  split
  · exact known_LCH_ASSIGN_A_PORT _
  · exact known_LCH_ASSIGN_B_PORT _
theorem known_LCH_ASSIGN_LOGICAL (h : Nat) : (LCH_ASSIGN.LOGICAL h).known := by
  unfold LCH_ASSIGN.LOGICAL
  split
  · exact known_LCH_ASSIGN_A_LOGICAL _
  · exact known_LCH_ASSIGN_B_LOGICAL _
theorem known_TIM_ASYM_ASYM (q : Nat) : (TIM_ASYM.ASYM q).known := by
  unfold TIM_ASYM.ASYM
  split
  · exact known_TIM_ASYM_A_ASYM _
  · exact known_TIM_ASYM_B_ASYM _
theorem known_TRC_WN_STATUS_CLAIMED (w : Nat) : (TRC_WN_STATUS.CLAIMED w).known := by
  unfold TRC_WN_STATUS.CLAIMED
  split
  · exact known_TRC_WN_STATUS_AB_CLAIMED _
  · exact known_TRC_WN_STATUS_BA_CLAIMED _
theorem known_TRC_WN_STATUS_OWNER (w : Nat) : (TRC_WN_STATUS.OWNER w).known := by
  unfold TRC_WN_STATUS.OWNER
  split
  · exact known_TRC_WN_STATUS_AB_OWNER _
  · exact known_TRC_WN_STATUS_BA_OWNER _
theorem known_TRC_WN_STATUS_UNITS (w : Nat) : (TRC_WN_STATUS.UNITS w).known := by
  unfold TRC_WN_STATUS.UNITS
  split
  · exact known_TRC_WN_STATUS_AB_UNITS _
  · exact known_TRC_WN_STATUS_BA_UNITS _
theorem known_WakeSource_cell (w : WakeSource) : w.cell.known := by
  cases w
  all_goals first
    | exact known_PWR_WAKE_SOURCE_AON_TIMER
    | exact known_PWR_WAKE_SOURCE_INTERNAL
    | exact known_PWR_WAKE_SOURCE_MGMT_LINK
    | exact known_PWR_WAKE_SOURCE_SB_MATCH
    | exact known_PWR_WAKE_SOURCE_SIGDET
    | exact known_PWR_WAKE_SOURCE_SIGDET_PORT
    | exact known_PWR_WAKE_SOURCE_WAKE_IN

theorem known_ite {c : Prop} [Decidable c] {a b : List Field} (ha : ∀ f ∈ a, f.cell.known) (hb : ∀ f ∈ b, f.cell.known) :
    ∀ f ∈ (if c then a else b), f.cell.known := by
  split
  · exact ha
  · exact hb

theorem knowns_fieldsOne (x : Nat) : ∀ f ∈ fieldsOne x, f.cell.known := by
  unfold fieldsOne
  refine known_ite knowns_GLB_REVISION ?_
  refine known_ite knowns_GLB_TILE_STATUS ?_
  refine known_ite knowns_CLK_DCLK_SEL ?_
  refine known_ite knowns_CAL_POLICY ?_
  refine known_ite knowns_CAL_CMD ?_
  refine known_ite knowns_CAL_STATUS ?_
  refine known_ite knowns_CAL_GEN ?_
  refine known_ite knowns_ENG_CTRL ?_
  refine known_ite knowns_IMG_STATUS ?_
  refine known_ite knowns_IMG_CMD ?_
  refine known_ite knowns_TXN_SCOPE_G ?_
  refine known_ite knowns_TXN_CMD ?_
  refine known_ite knowns_TXN_STATUS ?_
  refine known_ite knowns_IMG_KEYS ?_
  refine known_ite knowns_IMG_BCT_INDEX ?_
  refine known_ite knowns_GLB_ALIVE ?_
  refine known_ite knowns_GLB_MGMT_CTRL ?_
  refine known_ite knowns_GLB_MGMT_STATUS ?_
  refine known_ite knowns_GLB_MGMT_CNT ?_
  refine known_ite knowns_SLC_DEF_S0 ?_
  refine known_ite knowns_GLB_FABRIC_ID ?_
  refine known_ite knowns_TIM_CTRL ?_
  refine known_ite knowns_TIM_STATUS ?_
  refine known_ite knowns_TIM_UNCERT ?_
  refine known_ite knowns_TIM_OFFSET ?_
  refine known_ite knowns_TIM_RATE ?_
  refine known_ite knowns_TIM_PULSE ?_
  refine known_ite knowns_TRC_TRIG_CTRL ?_
  refine known_ite knowns_TRC_SCHED_CTRL ?_
  refine known_ite knowns_SNP_CTRL ?_
  refine known_ite knowns_SNP_STATUS ?_
  refine known_ite knowns_PWR_STATUS ?_
  refine known_ite knowns_PWR_POLICY ?_
  refine known_ite knowns_PWR_TIMERS ?_
  refine known_ite knowns_PWR_WAKE_SOURCE ?_
  refine known_ite knowns_PWR_WAKE_STATUS ?_
  refine known_ite knowns_PWR_AON_STATUS ?_
  refine known_ite knowns_CLK_STATUS ?_
  refine known_ite knowns_CLK_AON_RATIO ?_
  refine known_ite knowns_RST_STATUS ?_
  refine known_ite knowns_RST_CMD ?_
  refine known_ite knowns_RST_CNT ?_
  refine known_ite knowns_ERR_DP_STATUS ?_
  refine known_ite knowns_ERR_DP_MASK ?_
  refine known_ite knowns_ERR_DP_LOG0 ?_
  refine known_ite knowns_ERR_DP_CNT ?_
  refine known_ite knowns_ERR_CTRL ?_
  refine known_ite knowns_SB_CTRL ?_
  refine known_ite knowns_SB_STATUS ?_
  refine known_ite knowns_SB_CNT ?_
  exact List.forall_mem_nil _

theorem knowns_fieldsPort (p o : Nat) : ∀ f ∈ fieldsPort p o, f.cell.known := by
  unfold fieldsPort
  try dsimp only
  repeat' first
    | with_reducible exact knowns_PRT_MODE _
    | with_reducible exact knowns_PRT_DP_CTRL _
    | with_reducible exact knowns_PRT_DP_STATUS _
    | with_reducible exact knowns_PRT_SKP_ADJ _
    | with_reducible exact knowns_PRT_TRN_CTRL _
    | with_reducible exact knowns_PRT_TRN_STATUS _
    | with_reducible exact knowns_PRT_TRN_EVENTS _
    | with_reducible exact knowns_PRT_SEG_CTRL _
    | with_reducible exact knowns_PRT_SEG_STATUS _
    | with_reducible exact knowns_PRT_SEG_CNT _
    | with_reducible exact knowns_PRT_TRL_CTRL _
    | with_reducible exact knowns_PRT_TRL_STATUS _
    | with_reducible exact knowns_PRT_TRL_CNT _
    | with_reducible exact knowns_PRT_TRL_CMD _
    | with_reducible exact List.forall_mem_nil _
    | with_reducible refine known_ite ?_ ?_

theorem knowns_fieldsLane (n o : Nat) : ∀ f ∈ fieldsLane n o, f.cell.known := by
  unfold fieldsLane
  try dsimp only
  repeat' first
    | with_reducible exact knowns_LCH_ASSIGN _
    | with_reducible exact knowns_LCH_EQ_CTRL _
    | with_reducible exact knowns_LCH_FOM _
    | with_reducible exact knowns_LCH_RX_EQ _
    | with_reducible exact knowns_LCH_TX_COEF _
    | with_reducible exact knowns_LCH_DP_STATUS _
    | with_reducible exact knowns_LCH_SEG_FEC _
    | with_reducible exact knowns_LCH_LANE_FAULT _
    | with_reducible exact List.forall_mem_nil _
    | with_reducible refine known_ite ?_ ?_

theorem knowns_fieldsSlice (s o : Nat) : ∀ f ∈ fieldsSlice s o, f.cell.known := by
  unfold fieldsSlice
  try dsimp only
  repeat' first
    | with_reducible exact knowns_SLC_CTRL _
    | with_reducible exact knowns_SLC_STATUS _
    | with_reducible exact knowns_SLC_RINGS _
    | with_reducible exact knowns_SLC_VECTORS _
    | with_reducible exact knowns_SLC_SHARE _
    | with_reducible exact knowns_SLC_PORTS _ _
    | with_reducible exact List.forall_mem_nil _
    | with_reducible refine known_ite ?_ ?_

theorem knowns_fieldsWindow (s o : Nat) : ∀ f ∈ fieldsWindow s o, f.cell.known := by
  unfold fieldsWindow
  try dsimp only
  repeat' first
    | with_reducible exact knowns_SLC_SELF_INFO _
    | with_reducible exact knowns_SLC_SELF_CTRL _
    | with_reducible exact knowns_SLC_SELF_STATUS _
    | with_reducible exact knowns_RNG_BASE _ _ _
    | with_reducible exact knowns_RNG_CTRL _ _
    | with_reducible exact knowns_RNG_DOORBELL _ _
    | with_reducible exact knowns_RNG_POS _ _
    | with_reducible exact knowns_RNG_STATUS _ _
    | with_reducible exact knowns_TRC_WIN_STATUS _ _
    | with_reducible exact knowns_TRC_WIN_POS _ _
    | with_reducible exact knowns_TRC_WIN_READ _ _
    | with_reducible exact knowns_TRC_WIN_DROPS _ _
    | with_reducible exact List.forall_mem_nil _
    | with_reducible refine known_ite ?_ ?_

theorem knowns_fieldsAt (x : Nat) : ∀ f ∈ fieldsAt x, f.cell.known := by
  unfold fieldsAt
  try dsimp only
  repeat' first
    | with_reducible exact knowns_LCH_FOM_LIMITS _
    | with_reducible exact knowns_RNG_INFO _
    | with_reducible exact knowns_IMG_SRC _
    | with_reducible exact knowns_IMG_BCT _
    | with_reducible exact knowns_TXN_SCOPE_P _
    | with_reducible exact knowns_TXN_TIME _
    | with_reducible exact knowns_PWR_PORT_ARM _
    | with_reducible exact knowns_PWR_AON_REC _
    | with_reducible exact knowns_TIM_SET _
    | with_reducible exact knowns_TIM_ASYM _
    | with_reducible exact knowns_ERR_DP_PORTS _
    | with_reducible exact knowns_ERR_DP_LOG_TIME _
    | with_reducible exact knowns_CAL_TEMP _
    | with_reducible exact knowns_CAL_RX _
    | with_reducible exact knowns_ENG_STATUS _
    | with_reducible exact knowns_ENG_CNT _
    | with_reducible exact knowns_ENG_PERMIT _
    | with_reducible exact knowns_TRC_SCHED _
    | with_reducible exact knowns_TRC_DROPS _
    | with_reducible exact knowns_TRC_WN_STATUS _
    | with_reducible exact knowns_SNP_TIME _
    | with_reducible exact knowns_fieldsWindow _ _
    | with_reducible exact knowns_fieldsLane _ _
    | with_reducible exact knowns_fieldsPort _ _
    | with_reducible exact knowns_fieldsSlice _ _
    | with_reducible exact knowns_fieldsOne _
    | with_reducible exact List.forall_mem_nil _
    | with_reducible refine known_ite ?_ ?_

/-- A cell of the map, told by its key, agrees with every field of the map at that key. -/
theorem Cell.known.agrees {c : Cell} (h : c.known) : c.agrees := fun f hf e => Cell.known_eq (knowns_fieldsAt _ f hf) h e

end Sys2Proof.Machine
end

