-- ==== Sys2Proof/Laws/Goes.lean ====
section
/-! SUPPORT. One relation that says everything a change of the state may do, with a lemma for each way of changing it: a
footprint is kept to, the tables keep their canonical form, and nothing is taken back. -/

set_option Elab.async false

namespace Sys2Proof.Machine

/-- Whether one footprint lies within another. -/
def Foot.le (A B : Foot) : Bool :=
  A.parts.all (fun p => B.parts.contains p) &&
  (match A.fields, B.fields with
    | _, none => true
    | none, some _ => false
    | some a, some b => a.all (fun n => b.contains n))

theorem Foot.le_iff {A B : Foot} : A.le B = true ↔
    (∀ p ∈ A.parts, p ∈ B.parts) ∧ (∀ b, B.fields = some b → ∃ a, A.fields = some a ∧ ∀ n ∈ a, n ∈ b) := by
  unfold Foot.le
  rw [Bool.and_eq_true, List.all_eq_true]
  refine and_congr ?_ ?_
  · constructor
    · intro h p hp
      simpa using h p hp
    · intro h p hp
      simpa using h p hp
  · cases hB : B.fields with
    | none => simp
    | some b =>
      cases hA : A.fields with
      | none => simp
      | some a => simp

theorem Foot.le_refl (A : Foot) : A.le A = true := Foot.le_iff.2 ⟨fun _ h => h, fun b h => ⟨b, h, fun _ h => h⟩⟩

theorem Foot.le_trans {A B C : Foot} (h1 : A.le B = true) (h2 : B.le C = true) : A.le C = true := by
  rw [Foot.le_iff] at *
  refine ⟨fun p hp => h2.1 p (h1.1 p hp), fun c hc => ?_⟩
  obtain ⟨b, hb, hbc⟩ := h2.2 c hc
  obtain ⟨a, ha, hab⟩ := h1.2 b hb
  exact ⟨a, ha, fun n hn => hbc n (hab n hn)⟩

theorem Kept.mono {A B : Foot} {s t : State} (h : A.le B = true) (k : Kept A s t) : Kept B s t := by
  rw [Foot.le_iff] at h
  refine ⟨fun p hp => k.parts p (fun h2 => hp (h.1 p h2)), fun b hb key hk d => ?_⟩
  obtain ⟨a, ha, hab⟩ := h.2 b hb
  exact k.fields a ha key (fun h2 => hk (hab _ h2)) d

theorem Part.same_refl (s : State) (p : Part) : p.same s s := by cases p <;> rfl

theorem Part.same_trans {s t u : State} {p : Part} (h1 : p.same s t) (h2 : p.same t u) : p.same s u := by
  cases p <;> exact Eq.trans h2 h1

theorem Kept.refl (F : Foot) (s : State) : Kept F s s := ⟨fun p _ => Part.same_refl s p, fun _ _ _ _ _ => rfl⟩

theorem Kept.trans {F : Foot} {s t u : State} (h1 : Kept F s t) (h2 : Kept F t u) : Kept F s u :=
  ⟨fun p hp => Part.same_trans (h1.parts p hp) (h2.parts p hp),
   fun fs hf key hk d => (h2.fields fs hf key hk d).trans (h1.fields fs hf key hk d)⟩

theorem Follows.refl (s : State) : Follows s s :=
  ⟨rfl, Nat.le_refl _, Nat.le_refl _, List.suffix_refl _, Nat.le_refl _, List.Subset.refl _⟩

theorem Follows.trans {s t u : State} (h1 : Follows s t) (h2 : Follows t u) : Follows s u :=
  ⟨h2.pending.trans h1.pending, h1.elapsed.trans h2.elapsed, h1.freeCtr.trans h2.freeCtr, h1.outbox.trans h2.outbox,
   h1.steps.trans h2.steps, fun _ m => h2.revoked (h1.revoked m)⟩

/-- From `s` to `t` within a footprint. -/
structure Goes (F : Foot) (s t : State) : Prop where
  kept : Kept F s t
  wf : s.wf → t.wf
  follows : Follows s t
  derived : s.derived → t.derived

variable {F : Foot} {s0 x y : State}

theorem Goes.refl (F : Foot) (s : State) : Goes F s s := ⟨Kept.refl F s, fun h => h, Follows.refl s, fun h => h⟩

theorem Goes.trans (h1 : Goes F s0 x) (h2 : Goes F x y) : Goes F s0 y :=
  ⟨h1.kept.trans h2.kept, fun h => h2.wf (h1.wf h), h1.follows.trans h2.follows, fun h => h2.derived (h1.derived h)⟩

theorem Goes.mono {A B : Foot} {s t : State} (h : A.le B = true) (g : Goes A s t) : Goes B s t :=
  ⟨g.kept.mono h, g.wf, g.follows, g.derived⟩

/-- A field outside the footprint reads as before. -/
theorem Goes.rd {fs : List Nat} {n : Nat} {c : Cell} (g : Goes F s0 x) (hf : F.fields = some fs) (hn : fieldName c.key = n)
    (h : fs.contains n = false) : x.rd c = s0.rd c := by
  refine g.kept.fields fs hf c.key ?_ c.cold
  rw [hn]
  intro h2
  rw [List.contains_iff_mem.2 h2] at h
  exact Bool.noConfusion h

/-- A change of some register fields alone. -/
theorem Goes.ofRegs {ns : List Nat} (hF : Foot.le ⟨[], some ns⟩ F = true) (h : Goes F s0 x) {r : Tab Nat}
    (hw : regsWf x.regs → regsWf r) (hk : ∀ key, fieldName key ∉ ns → ∀ d, r.get d key = x.regs.get d key) :
    Goes F s0 { x with regs := r } := by
  refine h.trans (Goes.mono hF ⟨⟨?_, ?_⟩, ?_, ?_, fun d => d⟩)
  · intro p _
    cases p <;> rfl
  · rintro fs hfs key hk2 d
    cases hfs
    exact hk key hk2 d
  · intro w
    exact { w with regs := hw w.regs }
  · exact ⟨rfl, Nat.le_refl _, Nat.le_refl _, List.suffix_refl _, Nat.le_refl _, List.Subset.refl _⟩

theorem Tab.mem_set {α : Type} {t : Tab α} {k : Nat} {v : α} {e : Nat × α} (h : e ∈ (t.set k v).entries) : e = (k, v) ∨ e ∈ t.entries := by
  have h2 : ∀ l : List (Nat × α), e ∈ insertKey k v l → e = (k, v) ∨ e ∈ l := by
    intro l
    induction l with
    | nil => intro h; exact Or.inl (by simpa [insertKey] using h)
    | cons a l ih =>
      intro h
      unfold insertKey at h
      split at h
      · rcases List.mem_cons.1 h with h | h
        · exact Or.inl h
        · exact Or.inr h
      · rcases List.mem_cons.1 h with h | h
        · exact Or.inr (List.mem_cons.2 (Or.inl h))
        · exact (ih h).imp id (List.mem_cons_of_mem a)
  exact (h2 _ h).imp id (fun h => (dropKey_sublist k t.entries).subset h)

theorem Tab.mem_erase {α : Type} {t : Tab α} {k : Nat} {e : Nat × α} (h : e ∈ (t.erase k).entries) : e ∈ t.entries :=
  (dropKey_sublist k t.entries).subset h

theorem regsWf_empty : regsWf {} := ⟨Tab.wf_empty, fun _ h => nomatch h⟩
theorem regsWf_erase {r : Tab Nat} (h : regsWf r) (k : Nat) : regsWf (r.erase k) :=
  ⟨Tab.wf_erase h.1 k, fun e he => h.2 e (Tab.mem_erase he)⟩
theorem regsWf_keep {r : Tab Nat} (h : regsWf r) (p : Nat → Bool) : regsWf (r.keep p) :=
  ⟨Tab.wf_keep h.1 p, fun e he => h.2 e (List.mem_of_mem_filter he)⟩
theorem regsWf_wr {s : State} (h : regsWf s.regs) {c : Cell} (hc : c.agrees) (v : Nat) : regsWf (s.wr c v).regs := by
  unfold State.wr
  dsimp only
  split
  · exact regsWf_erase h _
  · rename_i hne
    refine ⟨Tab.wf_set h.1 _ _, fun e he f hf hk => ?_⟩
    rcases Tab.mem_set he with rfl | he
    · obtain ⟨hw, hcold⟩ := hc f hf hk
      rw [hw, hcold]
      exact ⟨Nat.mod_lt _ (Nat.two_pow_pos _), hne⟩
    · exact h.2 e he f hf hk

theorem Goes.wr {ns : List Nat} {c : Cell} {v : Nat} (hn : fieldName c.key ∈ ns) (hc : c.agrees) (hF : Foot.le ⟨[], some ns⟩ F = true)
    (h : Goes F s0 x) : Goes F s0 (x.wr c v) := by
  refine Goes.ofRegs hF h (fun w => regsWf_wr w hc v) (fun key hk d => ?_)
  · exact x.get_wr_ne c v (fun e => hk (by rw [e]; exact hn)) d

theorem Goes.on {ns : List Nat} {c : Cell} (hn : fieldName c.key ∈ ns) (hc : c.agrees) (hF : Foot.le ⟨[], some ns⟩ F = true)
    (h : Goes F s0 x) : Goes F s0 (x.on c) := Goes.wr hn hc hF h
theorem Goes.off {ns : List Nat} {c : Cell} (hn : fieldName c.key ∈ ns) (hc : c.agrees) (hF : Foot.le ⟨[], some ns⟩ F = true)
    (h : Goes F s0 x) : Goes F s0 (x.off c) := Goes.wr hn hc hF h
theorem Goes.put {ns : List Nat} {c : Cell} {b : Bool} (hn : fieldName c.key ∈ ns) (hc : c.agrees)
    (hF : Foot.le ⟨[], some ns⟩ F = true) (h : Goes F s0 x) : Goes F s0 (x.put c b) := Goes.wr hn hc hF h
theorem Goes.satUp {ns : List Nat} {c : Cell} (hn : fieldName c.key ∈ ns) (hc : c.agrees) (hF : Foot.le ⟨[], some ns⟩ F = true)
    (h : Goes F s0 x) : Goes F s0 (x.satUp c) := Goes.wr hn hc hF h
theorem Goes.wrapUp {ns : List Nat} {c : Cell} (hn : fieldName c.key ∈ ns) (hc : c.agrees) (hF : Foot.le ⟨[], some ns⟩ F = true)
    (h : Goes F s0 x) : Goes F s0 (x.wrapUp c) := Goes.wr hn hc hF h
theorem Goes.cold {ns : List Nat} {c : Cell} (hn : fieldName c.key ∈ ns) (hF : Foot.le ⟨[], some ns⟩ F = true)
    (h : Goes F s0 x) : Goes F s0 (x.cold c) :=
  Goes.ofRegs hF h (fun w => regsWf_erase w _) (fun _ hk d => x.get_cold_ne c (fun e => hk (by rw [e]; exact hn)) d)

/-- Any write, in a footprint of every field. -/
theorem Goes.wrAny {c : Cell} {v : Nat} (hc : c.agrees) (hF : Foot.le ⟨[], none⟩ F = true) (h : Goes F s0 x) : Goes F s0 (x.wr c v) :=
  Goes.wr (ns := [fieldName c.key]) (List.mem_singleton.2 rfl) hc (Foot.le_trans (by
    rw [Foot.le_iff]
    exact ⟨fun _ h => h, fun _ h => by cases h⟩) hF) h
theorem Goes.offAny {c : Cell} (hc : c.agrees) (hF : Foot.le ⟨[], none⟩ F = true) (h : Goes F s0 x) : Goes F s0 (x.off c) := Goes.wrAny hc hF h
theorem Goes.onAny {c : Cell} (hc : c.agrees) (hF : Foot.le ⟨[], none⟩ F = true) (h : Goes F s0 x) : Goes F s0 (x.on c) := Goes.wrAny hc hF h

/-- The register table replaced, in a footprint of every field. -/
theorem Goes.regsAny {r : Tab Nat} (hF : Foot.le ⟨[], none⟩ F = true) (hw : s0.wf → x.wf → regsWf r) (h : Goes F s0 x) :
    Goes F s0 { x with regs := r } := by
  have h1 : F.fields = none := by
    cases hf : F.fields with
    | none => rfl
    | some a => simp [Foot.le, hf] at hF
  refine ⟨⟨fun p hp => ?_, fun fs hfs => by rw [h1] at hfs; cases hfs⟩, fun w => ?_, ?_, h.derived⟩
  · have := h.kept.parts p hp
    cases p <;> exact this
  · exact { h.wf w with regs := hw w (h.wf w) }
  · exact ⟨h.follows.pending, h.follows.elapsed, h.follows.freeCtr, h.follows.outbox, h.follows.steps, h.follows.revoked⟩

/-- A write of a cell of which the state's canonical form says that it agrees with the map. -/
theorem Goes.wrWf {c : Cell} {v : Nat} (hc : s0.wf → c.agrees) (hF : Foot.le ⟨[], none⟩ F = true) (h : Goes F s0 x) :
    Goes F s0 (x.wr c v) := Goes.regsAny hF (fun w w1 => regsWf_wr w1.regs (hc w) v) h

theorem Goes.coldAll {ns : List Nat} {fs : List Field} (hn : ∀ f ∈ fs, fieldName f.cell.key ∈ ns)
    (hF : Foot.le ⟨[], some ns⟩ F = true) (h : Goes F s0 x) : Goes F s0 (x.coldAll fs) := by
  unfold State.coldAll
  induction fs generalizing x with
  | nil => exact h
  | cons f fs ih =>
    exact ih (fun g hg => hn g (List.mem_cons_of_mem f hg)) (Goes.cold (hn f List.mem_cons_self) hF h)

theorem Goes.foldl {β : Type} {f : State → β → State} {l : List β} (hf : ∀ t, Goes F s0 t → ∀ b, Goes F s0 (f t b))
    (h : Goes F s0 x) : Goes F s0 (l.foldl f x) := by
  induction l generalizing x with
  | nil => exact h
  | cons b l ih => exact ih (hf x h b)

theorem Goes.foldl_mem {β : Type} {f : State → β → State} {l : List β} (hf : ∀ t, Goes F s0 t → ∀ b ∈ l, Goes F s0 (f t b))
    (h : Goes F s0 x) : Goes F s0 (l.foldl f x) := by
  induction l generalizing x with
  | nil => exact h
  | cons b l ih => exact ih (fun t ht c hc => hf t ht c (List.mem_cons_of_mem b hc)) (hf x h b List.mem_cons_self)

theorem Goes.each {f : State → Nat → State} {l : List Nat} (hf : ∀ t, Goes F s0 t → ∀ b, Goes F s0 (f t b))
    (h : Goes F s0 x) : Goes F s0 (x.each l f) := Goes.foldl hf h

theorem Goes.set_halves {v : Tab Half} (hF : Foot.le ⟨[.halves], some []⟩ F = true) (hw : s0.wf → x.wf → v.wf) (hd : x.derived → ∀ k, (Tab.get v {} k).txCoef.derived)
    (h : Goes F s0 x) : Goes F s0 { x with halves := v } := by
  refine ⟨⟨fun p hp => ?_, fun fs hfs key hk d => h.kept.fields fs hfs key hk d⟩, fun w => ?_, ?_, fun d => hd (h.derived d)⟩
  · have h1 := h.kept.parts p hp
    cases p
    case halves => exact absurd ((Foot.le_iff.1 hF).1 .halves (List.mem_singleton.2 rfl)) hp
    all_goals exact h1
  · exact { h.wf w with halves := hw w (h.wf w) }
  · exact ⟨h.follows.pending, h.follows.elapsed, h.follows.freeCtr, h.follows.outbox, h.follows.steps, h.follows.revoked⟩

theorem Goes.set_sides {v : Tab Seg} (hF : Foot.le ⟨[.sides], some []⟩ F = true) (hw : s0.wf → x.wf → v.wf)
    (h : Goes F s0 x) : Goes F s0 { x with sides := v } := by
  refine ⟨⟨fun p hp => ?_, fun fs hfs key hk d => h.kept.fields fs hfs key hk d⟩, fun w => ?_, ?_, h.derived⟩
  · have h1 := h.kept.parts p hp
    cases p
    case sides => exact absurd ((Foot.le_iff.1 hF).1 .sides (List.mem_singleton.2 rfl)) hp
    all_goals exact h1
  · exact { h.wf w with sides := hw w (h.wf w) }
  · exact ⟨h.follows.pending, h.follows.elapsed, h.follows.freeCtr, h.follows.outbox, h.follows.steps, h.follows.revoked⟩

theorem Goes.set_ports {v : Tab PortX} (hF : Foot.le ⟨[.ports], some []⟩ F = true) (hw : s0.wf → x.wf → v.wf)
    (h : Goes F s0 x) : Goes F s0 { x with ports := v } := by
  refine ⟨⟨fun p hp => ?_, fun fs hfs key hk d => h.kept.fields fs hfs key hk d⟩, fun w => ?_, ?_, h.derived⟩
  · have h1 := h.kept.parts p hp
    cases p
    case ports => exact absurd ((Foot.le_iff.1 hF).1 .ports (List.mem_singleton.2 rfl)) hp
    all_goals exact h1
  · exact { h.wf w with ports := hw w (h.wf w) }
  · exact ⟨h.follows.pending, h.follows.elapsed, h.follows.freeCtr, h.follows.outbox, h.follows.steps, h.follows.revoked⟩

theorem Goes.set_era {v : Nat} (hF : Foot.le ⟨[.era], some []⟩ F = true)
    (h : Goes F s0 x) : Goes F s0 { x with era := v } := by
  refine ⟨⟨fun p hp => ?_, fun fs hfs key hk d => h.kept.fields fs hfs key hk d⟩, fun w => ?_, ?_, h.derived⟩
  · have h1 := h.kept.parts p hp
    cases p
    case era => exact absurd ((Foot.le_iff.1 hF).1 .era (List.mem_singleton.2 rfl)) hp
    all_goals exact h1
  · exact { h.wf w with }
  · exact ⟨h.follows.pending, h.follows.elapsed, h.follows.freeCtr, h.follows.outbox, h.follows.steps, h.follows.revoked⟩

theorem Goes.set_bct {v : Tab Nat} (hF : Foot.le ⟨[.bct], some []⟩ F = true) (hw : s0.wf → x.wf → v.wf)
    (h : Goes F s0 x) : Goes F s0 { x with bct := v } := by
  refine ⟨⟨fun p hp => ?_, fun fs hfs key hk d => h.kept.fields fs hfs key hk d⟩, fun w => ?_, ?_, h.derived⟩
  · have h1 := h.kept.parts p hp
    cases p
    case bct => exact absurd ((Foot.le_iff.1 hF).1 .bct (List.mem_singleton.2 rfl)) hp
    all_goals exact h1
  · exact { h.wf w with bct := hw w (h.wf w) }
  · exact ⟨h.follows.pending, h.follows.elapsed, h.follows.freeCtr, h.follows.outbox, h.follows.steps, h.follows.revoked⟩

theorem Goes.set_calTab {v : Tab CalRec} (hF : Foot.le ⟨[.calTab], some []⟩ F = true) (hw : s0.wf → x.wf → v.wf)
    (h : Goes F s0 x) : Goes F s0 { x with calTab := v } := by
  refine ⟨⟨fun p hp => ?_, fun fs hfs key hk d => h.kept.fields fs hfs key hk d⟩, fun w => ?_, ?_, h.derived⟩
  · have h1 := h.kept.parts p hp
    cases p
    case calTab => exact absurd ((Foot.le_iff.1 hF).1 .calTab (List.mem_singleton.2 rfl)) hp
    all_goals exact h1
  · exact { h.wf w with calTab := hw w (h.wf w) }
  · exact ⟨h.follows.pending, h.follows.elapsed, h.follows.freeCtr, h.follows.outbox, h.follows.steps, h.follows.revoked⟩

theorem Goes.set_engines {v : Tab Engine} (hF : Foot.le ⟨[.engines], some []⟩ F = true) (hw : s0.wf → x.wf → v.wf)
    (h : Goes F s0 x) : Goes F s0 { x with engines := v } := by
  refine ⟨⟨fun p hp => ?_, fun fs hfs key hk d => h.kept.fields fs hfs key hk d⟩, fun w => ?_, ?_, h.derived⟩
  · have h1 := h.kept.parts p hp
    cases p
    case engines => exact absurd ((Foot.le_iff.1 hF).1 .engines (List.mem_singleton.2 rfl)) hp
    all_goals exact h1
  · exact { h.wf w with engines := hw w (h.wf w) }
  · exact ⟨h.follows.pending, h.follows.elapsed, h.follows.freeCtr, h.follows.outbox, h.follows.steps, h.follows.revoked⟩

theorem Goes.set_slices {v : Tab SliceX} (hF : Foot.le ⟨[.slices], some []⟩ F = true) (hw : s0.wf → x.wf → v.wf)
    (h : Goes F s0 x) : Goes F s0 { x with slices := v } := by
  refine ⟨⟨fun p hp => ?_, fun fs hfs key hk d => h.kept.fields fs hfs key hk d⟩, fun w => ?_, ?_, h.derived⟩
  · have h1 := h.kept.parts p hp
    cases p
    case slices => exact absurd ((Foot.le_iff.1 hF).1 .slices (List.mem_singleton.2 rfl)) hp
    all_goals exact h1
  · exact { h.wf w with slices := hw w (h.wf w) }
  · exact ⟨h.follows.pending, h.follows.elapsed, h.follows.freeCtr, h.follows.outbox, h.follows.steps, h.follows.revoked⟩

theorem Goes.set_rings {v : Tab RingX} (hF : Foot.le ⟨[.rings], some []⟩ F = true) (hw : s0.wf → x.wf → v.wf)
    (h : Goes F s0 x) : Goes F s0 { x with rings := v } := by
  refine ⟨⟨fun p hp => ?_, fun fs hfs key hk d => h.kept.fields fs hfs key hk d⟩, fun w => ?_, ?_, h.derived⟩
  · have h1 := h.kept.parts p hp
    cases p
    case rings => exact absurd ((Foot.le_iff.1 hF).1 .rings (List.mem_singleton.2 rfl)) hp
    all_goals exact h1
  · exact { h.wf w with rings := hw w (h.wf w) }
  · exact ⟨h.follows.pending, h.follows.elapsed, h.follows.freeCtr, h.follows.outbox, h.follows.steps, h.follows.revoked⟩

theorem Goes.set_tags {v : Tab TagState} (hF : Foot.le ⟨[.tags], some []⟩ F = true) (hw : s0.wf → x.wf → v.wf)
    (h : Goes F s0 x) : Goes F s0 { x with tags := v } := by
  refine ⟨⟨fun p hp => ?_, fun fs hfs key hk d => h.kept.fields fs hfs key hk d⟩, fun w => ?_, ?_, h.derived⟩
  · have h1 := h.kept.parts p hp
    cases p
    case tags => exact absurd ((Foot.le_iff.1 hF).1 .tags (List.mem_singleton.2 rfl)) hp
    all_goals exact h1
  · exact { h.wf w with tags := hw w (h.wf w) }
  · exact ⟨h.follows.pending, h.follows.elapsed, h.follows.freeCtr, h.follows.outbox, h.follows.steps, h.follows.revoked⟩

theorem Goes.set_flash {v : Memory} (hF : Foot.le ⟨[.flash], some []⟩ F = true) (hw : s0.wf → x.wf → Memory.wf v)
    (h : Goes F s0 x) : Goes F s0 { x with flash := v } := by
  refine ⟨⟨fun p hp => ?_, fun fs hfs key hk d => h.kept.fields fs hfs key hk d⟩, fun w => ?_, ?_, h.derived⟩
  · have h1 := h.kept.parts p hp
    cases p
    case flash => exact absurd ((Foot.le_iff.1 hF).1 .flash (List.mem_singleton.2 rfl)) hp
    all_goals exact h1
  · exact { h.wf w with flash := hw w (h.wf w) }
  · exact ⟨h.follows.pending, h.follows.elapsed, h.follows.freeCtr, h.follows.outbox, h.follows.steps, h.follows.revoked⟩

theorem Goes.set_calStore {v : Option CalStore} (hF : Foot.le ⟨[.calStore], some []⟩ F = true) (hw : s0.wf → x.wf → calStoreWf v)
    (h : Goes F s0 x) : Goes F s0 { x with calStore := v } := by
  refine ⟨⟨fun p hp => ?_, fun fs hfs key hk d => h.kept.fields fs hfs key hk d⟩, fun w => ?_, ?_, h.derived⟩
  · have h1 := h.kept.parts p hp
    cases p
    case calStore => exact absurd ((Foot.le_iff.1 hF).1 .calStore (List.mem_singleton.2 rfl)) hp
    all_goals exact h1
  · exact { h.wf w with calStore := hw w (h.wf w) }
  · exact ⟨h.follows.pending, h.follows.elapsed, h.follows.freeCtr, h.follows.outbox, h.follows.steps, h.follows.revoked⟩

theorem Goes.set_storeWait {v : Bool} (hF : Foot.le ⟨[.storeWait], some []⟩ F = true)
    (h : Goes F s0 x) : Goes F s0 { x with storeWait := v } := by
  refine ⟨⟨fun p hp => ?_, fun fs hfs key hk d => h.kept.fields fs hfs key hk d⟩, fun w => ?_, ?_, h.derived⟩
  · have h1 := h.kept.parts p hp
    cases p
    case storeWait => exact absurd ((Foot.le_iff.1 hF).1 .storeWait (List.mem_singleton.2 rfl)) hp
    all_goals exact h1
  · exact { h.wf w with }
  · exact ⟨h.follows.pending, h.follows.elapsed, h.follows.freeCtr, h.follows.outbox, h.follows.steps, h.follows.revoked⟩

theorem Goes.set_lastStore {v : Nat} (hF : Foot.le ⟨[.lastStore], some []⟩ F = true)
    (h : Goes F s0 x) : Goes F s0 { x with lastStore := v } := by
  refine ⟨⟨fun p hp => ?_, fun fs hfs key hk d => h.kept.fields fs hfs key hk d⟩, fun w => ?_, ?_, h.derived⟩
  · have h1 := h.kept.parts p hp
    cases p
    case lastStore => exact absurd ((Foot.le_iff.1 hF).1 .lastStore (List.mem_singleton.2 rfl)) hp
    all_goals exact h1
  · exact { h.wf w with }
  · exact ⟨h.follows.pending, h.follows.elapsed, h.follows.freeCtr, h.follows.outbox, h.follows.steps, h.follows.revoked⟩

theorem Goes.set_fuses {v : Fuses} (hF : Foot.le ⟨[.fuses], some []⟩ F = true) (hw : s0.wf → x.wf → v.wf) (hl : x.fuses.steps ≤ v.steps ∧ x.fuses.revoked ⊆ v.revoked)
    (h : Goes F s0 x) : Goes F s0 { x with fuses := v } := by
  refine ⟨⟨fun p hp => ?_, fun fs hfs key hk d => h.kept.fields fs hfs key hk d⟩, fun w => ?_, ?_, h.derived⟩
  · have h1 := h.kept.parts p hp
    cases p
    case fuses => exact absurd ((Foot.le_iff.1 hF).1 .fuses (List.mem_singleton.2 rfl)) hp
    all_goals exact h1
  · exact { h.wf w with fuses := hw w (h.wf w) }
  · exact ⟨h.follows.pending, h.follows.elapsed, h.follows.freeCtr, h.follows.outbox, h.follows.steps.trans hl.1, fun _ m => hl.2 (h.follows.revoked m)⟩

theorem Goes.set_chip {v : Option (List Byte)} (hF : Foot.le ⟨[.chip], some []⟩ F = true)
    (h : Goes F s0 x) : Goes F s0 { x with chip := v } := by
  refine ⟨⟨fun p hp => ?_, fun fs hfs key hk d => h.kept.fields fs hfs key hk d⟩, fun w => ?_, ?_, h.derived⟩
  · have h1 := h.kept.parts p hp
    cases p
    case chip => exact absurd ((Foot.le_iff.1 hF).1 .chip (List.mem_singleton.2 rfl)) hp
    all_goals exact h1
  · exact { h.wf w with }
  · exact ⟨h.follows.pending, h.follows.elapsed, h.follows.freeCtr, h.follows.outbox, h.follows.steps, h.follows.revoked⟩

theorem Goes.set_lastWritten {v : Option Bool} (hF : Foot.le ⟨[.lastWritten], some []⟩ F = true)
    (h : Goes F s0 x) : Goes F s0 { x with lastWritten := v } := by
  refine ⟨⟨fun p hp => ?_, fun fs hfs key hk d => h.kept.fields fs hfs key hk d⟩, fun w => ?_, ?_, h.derived⟩
  · have h1 := h.kept.parts p hp
    cases p
    case lastWritten => exact absurd ((Foot.le_iff.1 hF).1 .lastWritten (List.mem_singleton.2 rfl)) hp
    all_goals exact h1
  · exact { h.wf w with }
  · exact ⟨h.follows.pending, h.follows.elapsed, h.follows.freeCtr, h.follows.outbox, h.follows.steps, h.follows.revoked⟩

theorem Goes.set_imgOp {v : Option ImgOp} (hF : Foot.le ⟨[.imgOp], some []⟩ F = true)
    (h : Goes F s0 x) : Goes F s0 { x with imgOp := v } := by
  refine ⟨⟨fun p hp => ?_, fun fs hfs key hk d => h.kept.fields fs hfs key hk d⟩, fun w => ?_, ?_, h.derived⟩
  · have h1 := h.kept.parts p hp
    cases p
    case imgOp => exact absurd ((Foot.le_iff.1 hF).1 .imgOp (List.mem_singleton.2 rfl)) hp
    all_goals exact h1
  · exact { h.wf w with }
  · exact ⟨h.follows.pending, h.follows.elapsed, h.follows.freeCtr, h.follows.outbox, h.follows.steps, h.follows.revoked⟩

theorem Goes.set_txn {v : Txn} (hF : Foot.le ⟨[.txn], some []⟩ F = true) (hw : s0.wf → x.wf → v.wf)
    (h : Goes F s0 x) : Goes F s0 { x with txn := v } := by
  refine ⟨⟨fun p hp => ?_, fun fs hfs key hk d => h.kept.fields fs hfs key hk d⟩, fun w => ?_, ?_, h.derived⟩
  · have h1 := h.kept.parts p hp
    cases p
    case txn => exact absurd ((Foot.le_iff.1 hF).1 .txn (List.mem_singleton.2 rfl)) hp
    all_goals exact h1
  · exact { h.wf w with txn := hw w (h.wf w) }
  · exact ⟨h.follows.pending, h.follows.elapsed, h.follows.freeCtr, h.follows.outbox, h.follows.steps, h.follows.revoked⟩

theorem Goes.set_mgmt {v : Mgmt} (hF : Foot.le ⟨[.mgmt], some []⟩ F = true) (hw : s0.wf → x.wf → v.wf)
    (h : Goes F s0 x) : Goes F s0 { x with mgmt := v } := by
  refine ⟨⟨fun p hp => ?_, fun fs hfs key hk d => h.kept.fields fs hfs key hk d⟩, fun w => ?_, ?_, h.derived⟩
  · have h1 := h.kept.parts p hp
    cases p
    case mgmt => exact absurd ((Foot.le_iff.1 hF).1 .mgmt (List.mem_singleton.2 rfl)) hp
    all_goals exact h1
  · exact { h.wf w with mgmt := hw w (h.wf w) }
  · exact ⟨h.follows.pending, h.follows.elapsed, h.follows.freeCtr, h.follows.outbox, h.follows.steps, h.follows.revoked⟩

theorem Goes.set_winnows {v : Tab Winnow} (hF : Foot.le ⟨[.winnows], some []⟩ F = true) (hw : s0.wf → x.wf → v.wf)
    (h : Goes F s0 x) : Goes F s0 { x with winnows := v } := by
  refine ⟨⟨fun p hp => ?_, fun fs hfs key hk d => h.kept.fields fs hfs key hk d⟩, fun w => ?_, ?_, h.derived⟩
  · have h1 := h.kept.parts p hp
    cases p
    case winnows => exact absurd ((Foot.le_iff.1 hF).1 .winnows (List.mem_singleton.2 rfl)) hp
    all_goals exact h1
  · exact { h.wf w with winnows := hw w (h.wf w) }
  · exact ⟨h.follows.pending, h.follows.elapsed, h.follows.freeCtr, h.follows.outbox, h.follows.steps, h.follows.revoked⟩

theorem Goes.set_windows {v : Tab Window} (hF : Foot.le ⟨[.windows], some []⟩ F = true) (hw : s0.wf → x.wf → v.wf)
    (h : Goes F s0 x) : Goes F s0 { x with windows := v } := by
  refine ⟨⟨fun p hp => ?_, fun fs hfs key hk d => h.kept.fields fs hfs key hk d⟩, fun w => ?_, ?_, h.derived⟩
  · have h1 := h.kept.parts p hp
    cases p
    case windows => exact absurd ((Foot.le_iff.1 hF).1 .windows (List.mem_singleton.2 rfl)) hp
    all_goals exact h1
  · exact { h.wf w with windows := hw w (h.wf w) }
  · exact ⟨h.follows.pending, h.follows.elapsed, h.follows.freeCtr, h.follows.outbox, h.follows.steps, h.follows.revoked⟩

theorem Goes.set_tim {v : Tim} (hF : Foot.le ⟨[.tim], some []⟩ F = true) (hw : s0.wf → x.wf → v.wf)
    (h : Goes F s0 x) : Goes F s0 { x with tim := v } := by
  refine ⟨⟨fun p hp => ?_, fun fs hfs key hk d => h.kept.fields fs hfs key hk d⟩, fun w => ?_, ?_, h.derived⟩
  · have h1 := h.kept.parts p hp
    cases p
    case tim => exact absurd ((Foot.le_iff.1 hF).1 .tim (List.mem_singleton.2 rfl)) hp
    all_goals exact h1
  · exact { h.wf w with tim := hw w (h.wf w) }
  · exact ⟨h.follows.pending, h.follows.elapsed, h.follows.freeCtr, h.follows.outbox, h.follows.steps, h.follows.revoked⟩

theorem Goes.set_snap {v : Snapshot} (hF : Foot.le ⟨[.snap], some []⟩ F = true) (hw : s0.wf → x.wf → v.wf)
    (h : Goes F s0 x) : Goes F s0 { x with snap := v } := by
  refine ⟨⟨fun p hp => ?_, fun fs hfs key hk d => h.kept.fields fs hfs key hk d⟩, fun w => ?_, ?_, h.derived⟩
  · have h1 := h.kept.parts p hp
    cases p
    case snap => exact absurd ((Foot.le_iff.1 hF).1 .snap (List.mem_singleton.2 rfl)) hp
    all_goals exact h1
  · exact { h.wf w with snap := hw w (h.wf w) }
  · exact ⟨h.follows.pending, h.follows.elapsed, h.follows.freeCtr, h.follows.outbox, h.follows.steps, h.follows.revoked⟩

theorem Goes.set_tiles {v : Tab Tile} (hF : Foot.le ⟨[.tiles], some []⟩ F = true) (hw : s0.wf → x.wf → v.wf)
    (h : Goes F s0 x) : Goes F s0 { x with tiles := v } := by
  refine ⟨⟨fun p hp => ?_, fun fs hfs key hk d => h.kept.fields fs hfs key hk d⟩, fun w => ?_, ?_, h.derived⟩
  · have h1 := h.kept.parts p hp
    cases p
    case tiles => exact absurd ((Foot.le_iff.1 hF).1 .tiles (List.mem_singleton.2 rfl)) hp
    all_goals exact h1
  · exact { h.wf w with tiles := hw w (h.wf w) }
  · exact ⟨h.follows.pending, h.follows.elapsed, h.follows.freeCtr, h.follows.outbox, h.follows.steps, h.follows.revoked⟩

theorem Goes.set_power {v : Power} (hF : Foot.le ⟨[.power], some []⟩ F = true)
    (h : Goes F s0 x) : Goes F s0 { x with power := v } := by
  refine ⟨⟨fun p hp => ?_, fun fs hfs key hk d => h.kept.fields fs hfs key hk d⟩, fun w => ?_, ?_, h.derived⟩
  · have h1 := h.kept.parts p hp
    cases p
    case power => exact absurd ((Foot.le_iff.1 hF).1 .power (List.mem_singleton.2 rfl)) hp
    all_goals exact h1
  · exact { h.wf w with }
  · exact ⟨h.follows.pending, h.follows.elapsed, h.follows.freeCtr, h.follows.outbox, h.follows.steps, h.follows.revoked⟩

theorem Goes.set_evq {v : List Ev} (hF : Foot.le ⟨[.evq], some []⟩ F = true)
    (h : Goes F s0 x) : Goes F s0 { x with evq := v } := by
  refine ⟨⟨fun p hp => ?_, fun fs hfs key hk d => h.kept.fields fs hfs key hk d⟩, fun w => ?_, ?_, h.derived⟩
  · have h1 := h.kept.parts p hp
    cases p
    case evq => exact absurd ((Foot.le_iff.1 hF).1 .evq (List.mem_singleton.2 rfl)) hp
    all_goals exact h1
  · exact { h.wf w with }
  · exact ⟨h.follows.pending, h.follows.elapsed, h.follows.freeCtr, h.follows.outbox, h.follows.steps, h.follows.revoked⟩

theorem Goes.set_staged {v : List Ev} (hF : Foot.le ⟨[.staged], some []⟩ F = true)
    (h : Goes F s0 x) : Goes F s0 { x with staged := v } := by
  refine ⟨⟨fun p hp => ?_, fun fs hfs key hk d => h.kept.fields fs hfs key hk d⟩, fun w => ?_, ?_, h.derived⟩
  · have h1 := h.kept.parts p hp
    cases p
    case staged => exact absurd ((Foot.le_iff.1 hF).1 .staged (List.mem_singleton.2 rfl)) hp
    all_goals exact h1
  · exact { h.wf w with }
  · exact ⟨h.follows.pending, h.follows.elapsed, h.follows.freeCtr, h.follows.outbox, h.follows.steps, h.follows.revoked⟩

theorem Goes.set_now {v : Nat} (hF : Foot.le ⟨[.now], some []⟩ F = true)
    (h : Goes F s0 x) : Goes F s0 { x with now := v } := by
  refine ⟨⟨fun p hp => ?_, fun fs hfs key hk d => h.kept.fields fs hfs key hk d⟩, fun w => ?_, ?_, h.derived⟩
  · have h1 := h.kept.parts p hp
    cases p
    case now => exact absurd ((Foot.le_iff.1 hF).1 .now (List.mem_singleton.2 rfl)) hp
    all_goals exact h1
  · exact { h.wf w with }
  · exact ⟨h.follows.pending, h.follows.elapsed, h.follows.freeCtr, h.follows.outbox, h.follows.steps, h.follows.revoked⟩

theorem Goes.set_count {v : Nat} (hF : Foot.le ⟨[.count], some []⟩ F = true)
    (h : Goes F s0 x) : Goes F s0 { x with count := v } := by
  refine ⟨⟨fun p hp => ?_, fun fs hfs key hk d => h.kept.fields fs hfs key hk d⟩, fun w => ?_, ?_, h.derived⟩
  · have h1 := h.kept.parts p hp
    cases p
    case count => exact absurd ((Foot.le_iff.1 hF).1 .count (List.mem_singleton.2 rfl)) hp
    all_goals exact h1
  · exact { h.wf w with }
  · exact ⟨h.follows.pending, h.follows.elapsed, h.follows.freeCtr, h.follows.outbox, h.follows.steps, h.follows.revoked⟩

theorem Goes.set_replicas {v : Tab Nat} (hF : Foot.le ⟨[.replicas], some []⟩ F = true) (hw : s0.wf → x.wf → v.wf)
    (h : Goes F s0 x) : Goes F s0 { x with replicas := v } := by
  refine ⟨⟨fun p hp => ?_, fun fs hfs key hk d => h.kept.fields fs hfs key hk d⟩, fun w => ?_, ?_, h.derived⟩
  · have h1 := h.kept.parts p hp
    cases p
    case replicas => exact absurd ((Foot.le_iff.1 hF).1 .replicas (List.mem_singleton.2 rfl)) hp
    all_goals exact h1
  · exact { h.wf w with replicas := hw w (h.wf w) }
  · exact ⟨h.follows.pending, h.follows.elapsed, h.follows.freeCtr, h.follows.outbox, h.follows.steps, h.follows.revoked⟩

theorem Goes.set_elapsed {v : Nat} (hF : Foot.le ⟨[.elapsed], some []⟩ F = true) (hl : x.elapsed ≤ v)
    (h : Goes F s0 x) : Goes F s0 { x with elapsed := v } := by
  refine ⟨⟨fun p hp => ?_, fun fs hfs key hk d => h.kept.fields fs hfs key hk d⟩, fun w => ?_, ?_, h.derived⟩
  · have h1 := h.kept.parts p hp
    cases p
    case elapsed => exact absurd ((Foot.le_iff.1 hF).1 .elapsed (List.mem_singleton.2 rfl)) hp
    all_goals exact h1
  · exact { h.wf w with }
  · exact ⟨h.follows.pending, h.follows.elapsed.trans hl, h.follows.freeCtr, h.follows.outbox, h.follows.steps, h.follows.revoked⟩

theorem Goes.set_outbox {v : List Out} (hF : Foot.le ⟨[.outbox], some []⟩ F = true) (hl : x.outbox <:+ v)
    (h : Goes F s0 x) : Goes F s0 { x with outbox := v } := by
  refine ⟨⟨fun p hp => ?_, fun fs hfs key hk d => h.kept.fields fs hfs key hk d⟩, fun w => ?_, ?_, h.derived⟩
  · have h1 := h.kept.parts p hp
    cases p
    case outbox => exact absurd ((Foot.le_iff.1 hF).1 .outbox (List.mem_singleton.2 rfl)) hp
    all_goals exact h1
  · exact { h.wf w with }
  · exact ⟨h.follows.pending, h.follows.elapsed, h.follows.freeCtr, h.follows.outbox.trans hl, h.follows.steps, h.follows.revoked⟩

theorem Goes.set_freeCtr {v : Nat} (hF : Foot.le ⟨[.freeCtr], some []⟩ F = true) (hl : x.freeCtr ≤ v)
    (h : Goes F s0 x) : Goes F s0 { x with freeCtr := v } := by
  refine ⟨⟨fun p hp => ?_, fun fs hfs key hk d => h.kept.fields fs hfs key hk d⟩, fun w => ?_, ?_, h.derived⟩
  · have h1 := h.kept.parts p hp
    cases p
    case freeCtr => exact absurd ((Foot.le_iff.1 hF).1 .freeCtr (List.mem_singleton.2 rfl)) hp
    all_goals exact h1
  · exact { h.wf w with }
  · exact ⟨h.follows.pending, h.follows.elapsed, h.follows.freeCtr.trans hl, h.follows.outbox, h.follows.steps, h.follows.revoked⟩

theorem Goes.setReplicas {v : Tab Nat} (hF : Foot.le ⟨[.replicas], some []⟩ F = true) (hw : s0.wf → x.wf → v.wf)
    (h : Goes F s0 x) : Goes F s0 (x.setReplicas v) := Goes.set_replicas hF hw h
theorem Goes.setEvq {v : List Ev} (hF : Foot.le ⟨[.evq], some []⟩ F = true)
    (h : Goes F s0 x) : Goes F s0 (x.setEvq v) := Goes.set_evq hF h
theorem Goes.setStaged {v : List Ev} (hF : Foot.le ⟨[.staged], some []⟩ F = true)
    (h : Goes F s0 x) : Goes F s0 (x.setStaged v) := Goes.set_staged hF h
theorem Goes.setElapsed {v : Nat} (hF : Foot.le ⟨[.elapsed], some []⟩ F = true) (hl : x.elapsed ≤ v)
    (h : Goes F s0 x) : Goes F s0 (x.setElapsed v) := Goes.set_elapsed hF hl h
theorem Goes.setImgOp {v : Option ImgOp} (hF : Foot.le ⟨[.imgOp], some []⟩ F = true)
    (h : Goes F s0 x) : Goes F s0 (x.setImgOp v) := Goes.set_imgOp hF h
theorem Goes.setCalTab {v : Tab CalRec} (hF : Foot.le ⟨[.calTab], some []⟩ F = true) (hw : s0.wf → x.wf → v.wf)
    (h : Goes F s0 x) : Goes F s0 (x.setCalTab v) := Goes.set_calTab hF hw h
theorem Goes.setCalStore {v : Option CalStore} (hF : Foot.le ⟨[.calStore], some []⟩ F = true) (hw : s0.wf → x.wf → calStoreWf v)
    (h : Goes F s0 x) : Goes F s0 (x.setCalStore v) := Goes.set_calStore hF hw h
theorem Goes.setStoreWait {v : Bool} (hF : Foot.le ⟨[.storeWait], some []⟩ F = true)
    (h : Goes F s0 x) : Goes F s0 (x.setStoreWait v) := Goes.set_storeWait hF h
theorem Goes.setLastStore {v : Nat} (hF : Foot.le ⟨[.lastStore], some []⟩ F = true)
    (h : Goes F s0 x) : Goes F s0 (x.setLastStore v) := Goes.set_lastStore hF h
theorem Goes.setChip {v : Option (List Byte)} (hF : Foot.le ⟨[.chip], some []⟩ F = true)
    (h : Goes F s0 x) : Goes F s0 (x.setChip v) := Goes.set_chip hF h
theorem Goes.setBct {v : Tab Nat} (hF : Foot.le ⟨[.bct], some []⟩ F = true) (hw : s0.wf → x.wf → v.wf)
    (h : Goes F s0 x) : Goes F s0 (x.setBct v) := Goes.set_bct hF hw h
theorem Goes.setTags {v : Tab TagState} (hF : Foot.le ⟨[.tags], some []⟩ F = true) (hw : s0.wf → x.wf → v.wf)
    (h : Goes F s0 x) : Goes F s0 (x.setTags v) := Goes.set_tags hF hw h
theorem Goes.setFuses {v : Fuses} (hF : Foot.le ⟨[.fuses], some []⟩ F = true) (hw : s0.wf → x.wf → v.wf) (hl : x.fuses.steps ≤ v.steps ∧ x.fuses.revoked ⊆ v.revoked)
    (h : Goes F s0 x) : Goes F s0 (x.setFuses v) := Goes.set_fuses hF hw hl h
theorem Goes.setSnap {v : Snapshot} (hF : Foot.le ⟨[.snap], some []⟩ F = true) (hw : s0.wf → x.wf → v.wf)
    (h : Goes F s0 x) : Goes F s0 (x.setSnap v) := Goes.set_snap hF hw h
theorem Goes.setLastWritten {v : Option Bool} (hF : Foot.le ⟨[.lastWritten], some []⟩ F = true)
    (h : Goes F s0 x) : Goes F s0 (x.setLastWritten v) := Goes.set_lastWritten hF h
theorem Goes.setEra {v : Nat} (hF : Foot.le ⟨[.era], some []⟩ F = true)
    (h : Goes F s0 x) : Goes F s0 (x.setEra v) := Goes.set_era hF h
theorem Goes.setFlash {v : Memory} (hF : Foot.le ⟨[.flash], some []⟩ F = true) (hw : s0.wf → x.wf → Memory.wf v)
    (h : Goes F s0 x) : Goes F s0 (x.setFlash v) := Goes.set_flash hF hw h
theorem Goes.setEngines {v : Tab Engine} (hF : Foot.le ⟨[.engines], some []⟩ F = true) (hw : s0.wf → x.wf → v.wf)
    (h : Goes F s0 x) : Goes F s0 (x.setEngines v) := Goes.set_engines hF hw h
theorem Goes.setSlices {v : Tab SliceX} (hF : Foot.le ⟨[.slices], some []⟩ F = true) (hw : s0.wf → x.wf → v.wf)
    (h : Goes F s0 x) : Goes F s0 (x.setSlices v) := Goes.set_slices hF hw h
theorem Goes.setRings {v : Tab RingX} (hF : Foot.le ⟨[.rings], some []⟩ F = true) (hw : s0.wf → x.wf → v.wf)
    (h : Goes F s0 x) : Goes F s0 (x.setRings v) := Goes.set_rings hF hw h
theorem Goes.setWinnows {v : Tab Winnow} (hF : Foot.le ⟨[.winnows], some []⟩ F = true) (hw : s0.wf → x.wf → v.wf)
    (h : Goes F s0 x) : Goes F s0 (x.setWinnows v) := Goes.set_winnows hF hw h
theorem Goes.setWindows {v : Tab Window} (hF : Foot.le ⟨[.windows], some []⟩ F = true) (hw : s0.wf → x.wf → v.wf)
    (h : Goes F s0 x) : Goes F s0 (x.setWindows v) := Goes.set_windows hF hw h
theorem Goes.setPorts {v : Tab PortX} (hF : Foot.le ⟨[.ports], some []⟩ F = true) (hw : s0.wf → x.wf → v.wf)
    (h : Goes F s0 x) : Goes F s0 (x.setPorts v) := Goes.set_ports hF hw h
theorem Goes.setTime {v c : Nat} (hF : Foot.le ⟨[.now, .count], some []⟩ F = true) (h : Goes F s0 x) :
    Goes F s0 (x.setTime v c) :=
  Goes.set_count (x := { x with now := v % timeSpan }) (Foot.le_trans (by decide +kernel) hF)
    (Goes.set_now (Foot.le_trans (by decide +kernel) hF) h)
/-- What has left may be put in fewer pieces, so long as what had left first is kept. -/
theorem Goes.setOutbox {v : List Out} (hF : Foot.le ⟨[.outbox], some []⟩ F = true) (hl : s0.outbox <:+ v) (h : Goes F s0 x) :
    Goes F s0 (x.setOutbox v) := by
  refine ⟨⟨fun p hp => ?_, fun fs hfs key hk d => h.kept.fields fs hfs key hk d⟩, fun w => ?_, ?_, h.derived⟩
  · have h1 := h.kept.parts p hp
    cases p
    case outbox => exact absurd ((Foot.le_iff.1 hF).1 .outbox (List.mem_singleton.2 rfl)) hp
    all_goals exact h1
  · exact { h.wf w with }
  · exact ⟨h.follows.pending, h.follows.elapsed, h.follows.freeCtr, hl, h.follows.steps, h.follows.revoked⟩
theorem Goes.setRegs {r : Tab Nat} (hF : Foot.le ⟨[], none⟩ F = true) (hw : s0.wf → x.wf → regsWf r) (h : Goes F s0 x) :
    Goes F s0 (x.setRegs r) := Goes.regsAny hF hw h
theorem Goes.upH {k : Nat} {f : Half → Half} (hF : Foot.le ⟨[.halves], some []⟩ F = true)
    (hd : ∀ y : Half, y.txCoef.derived → (f y).txCoef.derived) (h : Goes F s0 x) : Goes F s0 (x.upH k f) :=
  Goes.set_halves hF (fun _ w => Tab.wf_set w.halves _ _) (fun d j => by
    by_cases e : j = k
    · rw [e, Tab.get_set_same]; exact hd _ (d k)
    · rw [Tab.get_set_ne _ _ _ e]; exact d j) h
theorem Goes.upS {k : Nat} {f : Seg → Seg} (hF : Foot.le ⟨[.sides], some []⟩ F = true) (h : Goes F s0 x) :
    Goes F s0 (x.upS k f) := Goes.set_sides hF (fun _ w => Tab.wf_set w.sides _ _) h
theorem Goes.upP {k : Nat} {f : PortX → PortX} (hF : Foot.le ⟨[.ports], some []⟩ F = true) (h : Goes F s0 x) :
    Goes F s0 (x.upP k f) := Goes.set_ports hF (fun _ w => Tab.wf_set w.ports _ _) h
theorem Goes.upE {k : Nat} {f : Engine → Engine} (hF : Foot.le ⟨[.engines], some []⟩ F = true) (h : Goes F s0 x) :
    Goes F s0 (x.upE k f) := Goes.set_engines hF (fun _ w => Tab.wf_set w.engines _ _) h
theorem Goes.upSl {k : Nat} {f : SliceX → SliceX} (hF : Foot.le ⟨[.slices], some []⟩ F = true) (h : Goes F s0 x) :
    Goes F s0 (x.upSl k f) := Goes.set_slices hF (fun _ w => Tab.wf_set w.slices _ _) h
theorem Goes.upR {k i : Nat} {f : RingX → RingX} (hF : Foot.le ⟨[.rings], some []⟩ F = true) (h : Goes F s0 x) :
    Goes F s0 (x.upR k i f) := Goes.set_rings hF (fun _ w => Tab.wf_set w.rings _ _) h
theorem Goes.upT {k : Nat} {f : Tile → Tile} (hF : Foot.le ⟨[.tiles], some []⟩ F = true) (h : Goes F s0 x) :
    Goes F s0 (x.upT k f) := Goes.set_tiles hF (fun _ w => Tab.wf_set w.tiles _ _) h
theorem Goes.upW {k i : Nat} {f : Winnow → Winnow} (hF : Foot.le ⟨[.winnows], some []⟩ F = true) (h : Goes F s0 x) :
    Goes F s0 (x.upW k i f) := Goes.set_winnows hF (fun _ w => Tab.wf_set w.winnows _ _) h
theorem Goes.upPw {f : Power → Power} (hF : Foot.le ⟨[.power], some []⟩ F = true) (h : Goes F s0 x) :
    Goes F s0 (x.upPw f) := Goes.set_power hF h
theorem Goes.upWin {k i : Nat} {f : Window → Window} (hF : Foot.le ⟨[.windows], some []⟩ F = true) (h : Goes F s0 x) :
    Goes F s0 (x.upWin k i f) := Goes.set_windows hF (fun _ w => Tab.wf_set w.windows _ _) h
theorem Goes.upM {f : Mgmt → Mgmt} (hF : Foot.le ⟨[.mgmt], some []⟩ F = true) (hw : ∀ m, m.wf → (f m).wf)
    (h : Goes F s0 x) : Goes F s0 (x.upM f) := Goes.set_mgmt hF (fun _ w => hw _ w.mgmt) h
theorem Goes.upTim {f : Tim → Tim} (hF : Foot.le ⟨[.tim], some []⟩ F = true) (hw : ∀ m, m.wf → (f m).wf)
    (h : Goes F s0 x) : Goes F s0 (x.upTim f) := Goes.set_tim hF (fun _ w => hw _ w.tim) h
theorem Goes.upX {f : Txn → Txn} (hF : Foot.le ⟨[.txn], some []⟩ F = true) (hw : ∀ m, m.wf → (f m).wf)
    (h : Goes F s0 x) : Goes F s0 (x.upX f) := Goes.set_txn hF (fun _ w => hw _ w.txn) h
theorem Goes.emit {o : Out} (hF : Foot.le ⟨[.outbox], some []⟩ F = true) (h : Goes F s0 x) : Goes F s0 (x.emit o) :=
  Goes.set_outbox hF (List.suffix_cons o x.outbox) h
theorem Goes.upTs {q : Nat} {f : TimeSide → TimeSide} (hF : Foot.le ⟨[.tim], some []⟩ F = true) (h : Goes F s0 x) :
    Goes F s0 (x.upTs q f) := Goes.upTim hF (fun _ w => Tab.wf_set w _ _) h

theorem Txn.wf_new {n : Nat} : Txn.wf { touched := n } :=
  ⟨Tab.wf_empty, Tab.wf_empty, Tab.wf_empty, (by intro e h; cases h), (by intro c h; cases h)⟩

/-- A command runs: it answers a next state, within a footprint. -/
def Runs (F : Foot) (s : State) (o : Host.Outcome State Fault Refusal) : Prop := ∃ t, o = .next t ∧ Goes F s t

theorem Runs.next {t : State} (h : Goes F s0 t) : Runs F s0 (.next t) := ⟨t, rfl, h⟩

end Sys2Proof.Machine
end

