-- ==== Sys2Proof/Laws/Lists.lean ====
section
/-! SUPPORT. The names of the fields that stand for either side, and of the lists of fields that are cleared at once. -/

set_option Elab.async false

namespace Sys2Proof.Machine

theorem mem_two {a b c : Nat} (h : a = b ∨ a = c) : a ∈ [b, c] := by simpa using h

theorem names_PRT_MODE_SEGMENT (q : Nat) : fieldName (PRT_MODE.SEGMENT q).key = 0x2000011 ∨ fieldName (PRT_MODE.SEGMENT q).key = 0x2000010 := by
  unfold PRT_MODE.SEGMENT
  split
  · simp
  · simp

theorem names_PRT_MODE_WIDTH (q : Nat) : fieldName (PRT_MODE.WIDTH q).key = 0x2000009 ∨ fieldName (PRT_MODE.WIDTH q).key = 0x2000002 := by
  unfold PRT_MODE.WIDTH
  split
  · simp
  · simp

theorem names_PRT_MODE_SPARES (q : Nat) : fieldName (PRT_MODE.SPARES q).key = 0x200000E ∨ fieldName (PRT_MODE.SPARES q).key = 0x2000007 := by
  unfold PRT_MODE.SPARES
  split
  · simp
  · simp

theorem names_PRT_DP_CTRL_SLOT (q : Nat) : fieldName (PRT_DP_CTRL.SLOT q).key = 0x2000084 ∨ fieldName (PRT_DP_CTRL.SLOT q).key = 0x2000080 := by
  unfold PRT_DP_CTRL.SLOT
  split
  · simp
  · simp

theorem names_PRT_DP_STATUS_SLOT_NOW (q : Nat) : fieldName (PRT_DP_STATUS.SLOT_NOW q).key = 0x200010C ∨ fieldName (PRT_DP_STATUS.SLOT_NOW q).key = 0x2000108 := by
  unfold PRT_DP_STATUS.SLOT_NOW
  split
  · simp
  · simp

theorem names_PRT_DP_STATUS_ALIGN (q : Nat) : fieldName (PRT_DP_STATUS.ALIGN q).key = 0x2000104 ∨ fieldName (PRT_DP_STATUS.ALIGN q).key = 0x2000100 := by
  unfold PRT_DP_STATUS.ALIGN
  split
  · simp
  · simp

theorem names_PRT_DP_STATUS_REVERSED (q : Nat) : fieldName (PRT_DP_STATUS.REVERSED q).key = 0x200011E ∨ fieldName (PRT_DP_STATUS.REVERSED q).key = 0x200011D := by
  unfold PRT_DP_STATUS.REVERSED
  split
  · simp
  · simp

theorem names_PRT_TRN_EVENTS_PARTNER_LOST (q : Nat) : fieldName (PRT_TRN_EVENTS.PARTNER_LOST q).key = 0x200051F ∨ fieldName (PRT_TRN_EVENTS.PARTNER_LOST q).key = 0x200051E := by
  unfold PRT_TRN_EVENTS.PARTNER_LOST
  split
  · simp
  · simp

theorem names_LCH_ASSIGN_VALID (q : Nat) : fieldName (LCH_ASSIGN.VALID q).key = 0x400001F ∨ fieldName (LCH_ASSIGN.VALID q).key = 0x400000F := by
  unfold LCH_ASSIGN.VALID
  split
  · simp
  · simp

theorem names_LCH_ASSIGN_PORT (q : Nat) : fieldName (LCH_ASSIGN.PORT q).key = 0x4000018 ∨ fieldName (LCH_ASSIGN.PORT q).key = 0x4000008 := by
  unfold LCH_ASSIGN.PORT
  split
  · simp
  · simp

theorem names_LCH_ASSIGN_LOGICAL (q : Nat) : fieldName (LCH_ASSIGN.LOGICAL q).key = 0x4000010 ∨ fieldName (LCH_ASSIGN.LOGICAL q).key = 0x4000000 := by
  unfold LCH_ASSIGN.LOGICAL
  split
  · simp
  · simp

theorem names_TIM_ASYM_ASYM (q : Nat) : fieldName (TIM_ASYM.ASYM q).key = 0xC2010 ∨ fieldName (TIM_ASYM.ASYM q).key = 0xC2000 := by
  unfold TIM_ASYM.ASYM
  split
  · simp
  · simp

theorem names_TRC_WN_STATUS_CLAIMED (q : Nat) : fieldName (TRC_WN_STATUS.CLAIMED q).key = 0x102001F ∨ fieldName (TRC_WN_STATUS.CLAIMED q).key = 0x102000F := by
  unfold TRC_WN_STATUS.CLAIMED
  split
  · simp
  · simp

theorem names_TRC_WN_STATUS_OWNER (q : Nat) : fieldName (TRC_WN_STATUS.OWNER q).key = 0x1020017 ∨ fieldName (TRC_WN_STATUS.OWNER q).key = 0x1020007 := by
  unfold TRC_WN_STATUS.OWNER
  split
  · simp
  · simp

theorem names_TRC_WN_STATUS_UNITS (q : Nat) : fieldName (TRC_WN_STATUS.UNITS q).key = 0x1020013 ∨ fieldName (TRC_WN_STATUS.UNITS q).key = 0x1020003 := by
  unfold TRC_WN_STATUS.UNITS
  split
  · simp
  · simp

theorem names_WakeSource_cell (w : WakeSource) : fieldName w.cell.key ∈ [0x60284, 0x60285, 0x60282, 0x60280, 0x60283, 0x60288, 0x60281] := by
  cases w <;> simp [WakeSource.cell]

theorem names_CAL_RX_fields (h : Nat) : ∀ f ∈ CAL_RX.fields h, fieldName f.cell.key ∈ [0x220008, 0x22001F, 0x220018, 0x220010, 0x220000, 0x220004] := by
  simp [CAL_RX.fields]

theorem names_ENG_CNT_fields (k : Nat) : ∀ f ∈ ENG_CNT.fields k, fieldName f.cell.key ∈ [0x40C008, 0x40C000, 0x40C010] := by
  simp [ENG_CNT.fields]

theorem names_ENG_CTRL_fields : ∀ f ∈ ENG_CTRL.fields, fieldName f.cell.key ∈ [0x400008, 0x40001F, 0x400000] := by
  simp [ENG_CTRL.fields]

theorem names_ENG_PERMIT_fields (s : Nat) : ∀ f ∈ ENG_PERMIT.fields s, fieldName f.cell.key ∈ [0x410003, 0x410000, 0x410002, 0x410001] := by
  simp [ENG_PERMIT.fields]

theorem names_ENG_STATUS_fields (k : Nat) : ∀ f ∈ ENG_STATUS.fields k, fieldName f.cell.key ∈ [0x408018, 0x40800F, 0x408008, 0x40800A, 0x408000, 0x40800C, 0x408010, 0x40801C] := by
  simp [ENG_STATUS.fields]

theorem names_ERR_DP_LOG0_fields : ∀ f ∈ ERR_DP_LOG0.fields, fieldName f.cell.key ∈ [0xE0210, 0xE0200, 0xE021E, 0xE0208, 0xE021F] := by
  simp [ERR_DP_LOG0.fields]

theorem names_LCH_DP_STATUS_fields (h : Nat) : ∀ f ∈ LCH_DP_STATUS.fields h, fieldName f.cell.key ∈ [0x4000418, 0x4000400, 0x4000413, 0x400041F, 0x4000408] := by
  simp [LCH_DP_STATUS.fields]

theorem names_LCH_EQ_CTRL_fields (h : Nat) : ∀ f ∈ LCH_EQ_CTRL.fields h, fieldName f.cell.key ∈ [0x4000202, 0x4000203, 0x4000201] := by
  simp [LCH_EQ_CTRL.fields]

theorem names_LCH_FOM_fields (h : Nat) : ∀ f ∈ LCH_FOM.fields h, fieldName f.cell.key ∈ [0x4000294, 0x400029C, 0x400029A, 0x4000280, 0x4000288, 0x400029D, 0x400029E, 0x4000290, 0x400029F, 0x400029B] := by
  simp [LCH_FOM.fields]

theorem names_LCH_LANE_FAULT_fields (h : Nat) : ∀ f ∈ LCH_LANE_FAULT.fields h, fieldName f.cell.key ∈ [0x4000500, 0x400050D, 0x4000518, 0x400050E, 0x400051C, 0x4000513] := by
  simp [LCH_LANE_FAULT.fields]

theorem names_LCH_RX_EQ_fields (h : Nat) : ∀ f ∈ LCH_RX_EQ.fields h, fieldName f.cell.key ∈ [0x4000319, 0x400030C, 0x4000304, 0x400031F, 0x4000313, 0x400031E] := by
  simp [LCH_RX_EQ.fields]

theorem names_LCH_SEG_FEC_fields (h : Nat) : ∀ f ∈ LCH_SEG_FEC.fields h, fieldName f.cell.key ∈ [0x4000490, 0x4000486, 0x4000480, 0x4000487, 0x4000488] := by
  simp [LCH_SEG_FEC.fields]

theorem names_LCH_TX_COEF_fields (h : Nat) : ∀ f ∈ LCH_TX_COEF.fields h, fieldName f.cell.key ∈ [0x4000398, 0x400038C, 0x4000392, 0x4000386, 0x4000380, 0x400039E] := by
  simp [LCH_TX_COEF.fields]

theorem names_PRT_DP_STATUS_fields (p : Nat) : ∀ f ∈ PRT_DP_STATUS.fields p, fieldName f.cell.key ∈ [0x2000104, 0x200011E, 0x200010C, 0x2000100, 0x200011D, 0x2000108, 0x2000119, 0x2000118, 0x2000110, 0x200011F] := by
  simp [PRT_DP_STATUS.fields]

theorem names_PRT_SEG_CNT_fields (q : Nat) : ∀ f ∈ PRT_SEG_CNT.fields q, fieldName f.cell.key ∈ [0x2000A10, 0x2000A00] := by
  simp [PRT_SEG_CNT.fields]

theorem names_PRT_SEG_STATUS_fields (q : Nat) : ∀ f ∈ PRT_SEG_STATUS.fields q, fieldName f.cell.key ∈ [0x2000914, 0x2000906, 0x2000902, 0x2000907, 0x2000918, 0x200090A, 0x2000905, 0x2000903, 0x2000900, 0x200090C, 0x2000904, 0x200091C, 0x2000901] := by
  simp [PRT_SEG_STATUS.fields]

theorem names_PRT_SKP_ADJ_fields (q : Nat) : ∀ f ∈ PRT_SKP_ADJ.fields q, fieldName f.cell.key ∈ [0x2000190, 0x2000180] := by
  simp [PRT_SKP_ADJ.fields]

theorem names_PRT_TRL_CNT_fields (q : Nat) : ∀ f ∈ PRT_TRL_CNT.fields q, fieldName f.cell.key ∈ [0x2000E08, 0x2000E10, 0x2000E18, 0x2000E00] := by
  simp [PRT_TRL_CNT.fields]

theorem names_PRT_TRL_STATUS_fields (q : Nat) : ∀ f ∈ PRT_TRL_STATUS.fields q, fieldName f.cell.key ∈ [0x2000D01, 0x2000D05, 0x2000D04, 0x2000D03, 0x2000D06, 0x2000D02, 0x2000D10, 0x2000D00, 0x2000D1C, 0x2000D08, 0x2000D18] := by
  simp [PRT_TRL_STATUS.fields]

theorem names_PRT_TRN_EVENTS_fields (p : Nat) : ∀ f ∈ PRT_TRN_EVENTS.fields p, fieldName f.cell.key ∈ [0x2000510, 0x2000519, 0x200051A, 0x200051B, 0x200051C, 0x200051F, 0x200051E, 0x2000500, 0x2000508, 0x200051D] := by
  simp [PRT_TRN_EVENTS.fields]

theorem names_PRT_TRN_STATUS_fields (p : Nat) : ∀ f ∈ PRT_TRN_STATUS.fields p, fieldName f.cell.key ∈ [0x200048F, 0x2000498, 0x2000494, 0x200048E, 0x200048B, 0x2000488, 0x2000484, 0x2000490, 0x200049C, 0x2000492] := by
  simp [PRT_TRN_STATUS.fields]

theorem names_RNG_BASE_fields (s i k : Nat) : ∀ f ∈ RNG_BASE.fields s i k, fieldName f.cell.key ∈ [0x20020000] := by
  simp [RNG_BASE.fields]

theorem names_RNG_CTRL_fields (s i : Nat) : ∀ f ∈ RNG_CTRL.fields s i, fieldName f.cell.key ∈ [0x2002011F, 0x2002011C, 0x2002011D, 0x2002011E, 0x20020114, 0x20020100] := by
  simp [RNG_CTRL.fields]

theorem names_RNG_POS_fields (s i : Nat) : ∀ f ∈ RNG_POS.fields s i, fieldName f.cell.key ∈ [0x20020210, 0x20020200] := by
  simp [RNG_POS.fields]

theorem names_RNG_STATUS_fields (s i : Nat) : ∀ f ∈ RNG_STATUS.fields s i, fieldName f.cell.key ∈ [0x20020280, 0x2002029B, 0x2002029C] := by
  simp [RNG_STATUS.fields]

theorem names_SLC_RINGS_fields (s : Nat) : ∀ f ∈ SLC_RINGS.fields s, fieldName f.cell.key ∈ [0x600110, 0x600100] := by
  simp [SLC_RINGS.fields]

theorem names_SLC_SELF_CTRL_fields (s : Nat) : ∀ f ∈ SLC_SELF_CTRL.fields s, fieldName f.cell.key ∈ [0x20000080, 0x20000090, 0x2000009F] := by
  simp [SLC_SELF_CTRL.fields]

theorem names_SLC_SHARE_fields (s : Nat) : ∀ f ∈ SLC_SHARE.fields s, fieldName f.cell.key ∈ [0x600200, 0x600212] := by
  simp [SLC_SHARE.fields]

theorem names_SLC_VECTORS_fields (s : Nat) : ∀ f ∈ SLC_VECTORS.fields s, fieldName f.cell.key ∈ [0x600190, 0x600180] := by
  simp [SLC_VECTORS.fields]

theorem names_SNP_CTRL_fields : ∀ f ∈ SNP_CTRL.fields, fieldName f.cell.key ∈ [0x1FE0000, 0x1FE001F] := by
  simp [SNP_CTRL.fields]

theorem names_TRC_SCHED_CTRL_fields : ∀ f ∈ TRC_SCHED_CTRL.fields, fieldName f.cell.key ∈ [0x100019E, 0x100019F, 0x100019C, 0x1000180, 0x1000188, 0x100019D] := by
  simp [TRC_SCHED_CTRL.fields]

theorem names_TRC_WIN_DROPS_fields (s w : Nat) : ∀ f ∈ TRC_WIN_DROPS.fields s w, fieldName f.cell.key ∈ [0x20120180] := by
  simp [TRC_WIN_DROPS.fields]

theorem names_TRC_WIN_POS_fields (s w : Nat) : ∀ f ∈ TRC_WIN_POS.fields s w, fieldName f.cell.key ∈ [0x20120080] := by
  simp [TRC_WIN_POS.fields]

theorem names_TRC_WIN_READ_fields (s w : Nat) : ∀ f ∈ TRC_WIN_READ.fields s w, fieldName f.cell.key ∈ [0x20120100] := by
  simp [TRC_WIN_READ.fields]

theorem names_TRC_WIN_STATUS_fields (s w : Nat) : ∀ f ∈ TRC_WIN_STATUS.fields s w, fieldName f.cell.key ∈ [0x20120000, 0x2012001B, 0x2012001A, 0x20120019, 0x2012001C] := by
  simp [TRC_WIN_STATUS.fields]

end Sys2Proof.Machine
end

