-- ==== Sys2Proof/Laws/OnOps.lean ====
section
/-! SUPPORT. What each operation of `Machine/Ops.lean` may change: one lemma for each. -/

set_option linter.all false
set_option Elab.async false

namespace Sys2Proof.Machine

variable {F : Foot} {s0 : State}

/-- What `State.loadReplicas` may change. -/
def fp_loadReplicas : Foot := ⟨[.replicas], some []⟩
theorem Goes.loadReplicas {s : State} {f : Nat → Nat} (hF : fp_loadReplicas.le F = true) (hgo : Goes F s0 s) :
     Goes F s0 (State.loadReplicas s f) := by
  unfold State.loadReplicas
  refine Goes.setReplicas (Foot.le_trans (by decide +kernel) hF) (fun _ _ => ?_) hgo
  have h : ((s.clocked.map (fun t => (t, f t % timeSpan))).map Prod.fst) = s.clocked := by
    rw [List.map_map]
    exact List.map_id' _
  show List.Pairwise _ _
  rw [h]
  exact List.Pairwise.filter _ (by decide)

/-- What `State.setNow` may change. -/
def fp_setNow : Foot := ⟨[.now, .count, .replicas], some []⟩
theorem Goes.setNow {s : State} {v : Nat} (hF : fp_setNow.le F = true) (hgo : Goes F s0 s) :
     Goes F s0 (State.setNow s v) := by
  unfold State.setNow
  try dsimp only
  repeat' first
    | with_reducible assumption
    | with_reducible refine Goes.loadReplicas (Foot.le_trans (by decide +kernel) hF) ?_
    | with_reducible refine Goes.setTime (Foot.le_trans (by decide +kernel) hF) ?_
    | with_reducible refine Goes.foldl ?_ ?_
    | split
    | intro _

/-- What `State.sendUp` may change. -/
def fp_sendUp : Foot := ⟨[.mgmt, .outbox], some []⟩
theorem Goes.sendUp {s : State} {o : Out} (hF : fp_sendUp.le F = true) (hgo : Goes F s0 s) :
     Goes F s0 (State.sendUp s o) := by
  unfold State.sendUp
  try dsimp only
  repeat' first
    | with_reducible assumption
    | with_reducible refine Goes.upM (Foot.le_trans (by decide +kernel) hF) (fun _ h => h) ?_
    | with_reducible refine Goes.upM (Foot.le_trans (by decide +kernel) hF) ?_ ?_
    | with_reducible refine Goes.emit (Foot.le_trans (by decide +kernel) hF) ?_
    | with_reducible refine Goes.foldl ?_ ?_
    | exact fun _ h => Tab.wf_set h _ _
    | exact fun _ h => Tab.wf_erase h _
    | exact fun _ h => Tab.wf_empty
    | split
    | intro _

/-- What `State.configAsk` may change. -/
def fp_configAsk : Foot := ⟨[.mgmt, .outbox], some []⟩
theorem Goes.configAsk {s : State} {act : State → State} (hF : fp_configAsk.le F = true) (hact : ∀ t, Goes F s0 t → Goes F s0 (act t)) (hgo : Goes F s0 s) :
     Goes F s0 (State.configAsk s act) := by
  unfold State.configAsk
  try dsimp only
  repeat' first
    | with_reducible assumption
    | with_reducible refine hact _ ?_
    | with_reducible refine Goes.sendUp (Foot.le_trans (by decide +kernel) hF) ?_
    | with_reducible refine Goes.foldl ?_ ?_
    | split
    | intro _

/-- What `State.advance` may change. -/
def fp_advance : Foot := ⟨[.tim, .power, .now, .count, .replicas, .elapsed], some [0xC021B, 0xC0280]⟩
theorem Goes.advance {s : State} {d : Nat} (hF : fp_advance.le F = true) (hgo : Goes F s0 s) :
     Goes F s0 (State.advance s d) := by
  unfold State.advance
  extract_lets f lose t0 t u
  have h0 : Goes F s0 t0 := Goes.upTim (Foot.le_trans (by decide +kernel) hF) (fun _ w => w)
    (Goes.loadReplicas (Foot.le_trans (by decide +kernel) hF) (Goes.setTime (Foot.le_trans (by decide +kernel) hF)
      (Goes.setElapsed (Foot.le_trans (by decide +kernel) hF) (Nat.le_add_right _ _) hgo)))
  clear_value t0
  have h1 : Goes F s0 t := by
    unfold t
    split
    · exact Goes.upPw (Foot.le_trans (by decide +kernel) hF) h0
    · exact h0
  clear_value t
  have h2 : Goes F s0 u := by
    unfold u
    split
    · exact Goes.off (List.mem_singleton.2 fieldName_TIM_STATUS_SLEWING) known_TIM_STATUS_SLEWING.agrees
        (Foot.le_trans (by decide +kernel) hF) h1
    · exact h1
  clear_value u
  split
  · exact Goes.wr (List.mem_singleton.2 fieldName_TIM_UNCERT_BOUND) known_TIM_UNCERT_BOUND.agrees
      (Foot.le_trans (by decide +kernel) hF) h2
  · exact h2

/-- What `State.advanceTo` may change. -/
def fp_advanceTo : Foot := ⟨[.tim, .power, .now, .count, .replicas, .elapsed], some [0xC021B, 0xC0280]⟩
theorem Goes.advanceTo {s : State} {e : Nat} (hF : fp_advanceTo.le F = true) (hgo : Goes F s0 s) :
     Goes F s0 (State.advanceTo s e) := by
  unfold State.advanceTo
  try dsimp only
  repeat' first
    | with_reducible assumption
    | with_reducible refine Goes.advance (Foot.le_trans (by decide +kernel) hF) ?_
    | with_reducible refine Goes.foldl ?_ ?_
    | split
    | intro _

/-- What `State.fabricTo` may change. -/
def fp_fabricTo : Foot := ⟨[.tim, .power, .now, .count, .replicas, .elapsed], some [0xC021B, 0xC0280]⟩
theorem Goes.fabricTo {s : State} {f : Nat} (hF : fp_fabricTo.le F = true) (hgo : Goes F s0 s) :
     Goes F s0 (State.fabricTo s f) := by
  unfold State.fabricTo
  try dsimp only
  repeat' first
    | with_reducible assumption
    | with_reducible refine Goes.setNow (Foot.le_trans (by decide +kernel) hF) ?_
    | with_reducible refine Goes.advance (Foot.le_trans (by decide +kernel) hF) ?_
    | with_reducible refine Goes.foldl ?_ ?_
    | split
    | intro _

/-- What `State.takeFree` may change. -/
def fp_takeFree : Foot := ⟨[.freeCtr], some []⟩
theorem Goes.takeFree {s : State} (hF : fp_takeFree.le F = true) (hgo : Goes F s0 s) :
     Goes F s0 (State.takeFree s).2 := by
  exact Goes.set_freeCtr (Foot.le_trans (by decide +kernel) hF) (Nat.le_succ _) hgo

/-- What `State.tileQuiet` may change. -/
def fp_tileQuiet : Foot := ⟨[.tiles], some []⟩
theorem Goes.tileQuiet {s : State} {t : Nat} (hF : fp_tileQuiet.le F = true) (hgo : Goes F s0 s) :
     Goes F s0 (State.tileQuiet s t) := by
  unfold State.tileQuiet
  try dsimp only
  repeat' first
    | with_reducible assumption
    | with_reducible refine Goes.upT (Foot.le_trans (by decide +kernel) hF) ?_
    | with_reducible refine Goes.foldl ?_ ?_
    | split
    | intro _

/-- What `State.deviceQuiet` may change. -/
def fp_deviceQuiet : Foot := ⟨[.power], some []⟩
theorem Goes.deviceQuiet {s : State} (hF : fp_deviceQuiet.le F = true) (hgo : Goes F s0 s) :
     Goes F s0 (State.deviceQuiet s) := by
  unfold State.deviceQuiet
  try dsimp only
  repeat' first
    | with_reducible assumption
    | with_reducible refine Goes.upPw (Foot.le_trans (by decide +kernel) hF) ?_
    | with_reducible refine Goes.foldl ?_ ?_
    | split
    | intro _

/-- What `State.publish` may change. -/
def fp_publish : Foot := ⟨[.ports, .evq], some []⟩
theorem Goes.publish {s : State} {p : Nat} (hF : fp_publish.le F = true) (hgo : Goes F s0 s) :
     Goes F s0 (State.publish s p) := by
  unfold State.publish
  try dsimp only
  repeat' first
    | with_reducible assumption
    | with_reducible refine Goes.setEvq (Foot.le_trans (by decide +kernel) hF) ?_
    | with_reducible refine Goes.upP (Foot.le_trans (by decide +kernel) hF) ?_
    | with_reducible refine Goes.foldl ?_ ?_
    | split
    | intro _

/-- What `State.bump` may change. -/
def fp_bump : Foot := ⟨[.ports, .evq], some []⟩
theorem Goes.bump {s : State} {p : Nat} (hF : fp_bump.le F = true) (hgo : Goes F s0 s) :
     Goes F s0 (State.bump s p) := by
  unfold State.bump
  try dsimp only
  repeat' first
    | with_reducible assumption
    | with_reducible refine Goes.upP (Foot.le_trans (by decide +kernel) hF) ?_
    | with_reducible refine Goes.publish (Foot.le_trans (by decide +kernel) hF) ?_
    | with_reducible refine Goes.foldl ?_ ?_
    | split
    | intro _

/-- What `State.settled` may change. -/
def fp_settled : Foot := ⟨[.tiles], some []⟩
theorem Goes.settled {s : State} {old : State} {p : Nat} (hF : fp_settled.le F = true) (hgo : Goes F s0 s) :
     Goes F s0 (State.settled s old p) := by
  unfold State.settled
  try dsimp only
  repeat' first
    | with_reducible assumption
    | with_reducible refine Goes.tileQuiet (Foot.le_trans (by decide +kernel) hF) ?_
    | with_reducible refine Goes.foldl ?_ ?_
    | split
    | intro _

/-- What `State.noted` may change. -/
def fp_noted : Foot := ⟨[.ports, .tiles, .evq], some []⟩
theorem Goes.noted {s : State} {old : State} {p : Nat} (hF : fp_noted.le F = true) (hgo : Goes F s0 s) :
     Goes F s0 (State.noted s old p) := by
  unfold State.noted
  try dsimp only
  repeat' first
    | with_reducible assumption
    | with_reducible refine Goes.bump (Foot.le_trans (by decide +kernel) hF) ?_
    | with_reducible refine Goes.settled (Foot.le_trans (by decide +kernel) hF) ?_
    | with_reducible refine Goes.foldl ?_ ?_
    | split
    | intro _

/-- What `State.recordDp` may change. -/
def fp_recordDp : Foot := ⟨[], some [0xE0390, 0xE0380, 0xE0388, 0xE0210, 0xE0200, 0xE021E, 0xE0208, 0xE021F, 0xE0280,
  0xE0100, 0xE0001]⟩
theorem Goes.recordDp {s : State} {code : Nat} {port : Option Nat} {b16 : Nat} (hF : fp_recordDp.le F = true) (hgo : Goes F s0 s) :
     Goes F s0 (State.recordDp s code port b16) := by
  unfold State.recordDp
  try dsimp only
  repeat' first
    | with_reducible assumption
    | with_reducible refine Goes.satUp (List.mem_singleton.2 (fieldName_ERR_DP_CNT_CORRECTABLE)) (known_ERR_DP_CNT_CORRECTABLE).agrees (Foot.le_trans (by decide +kernel) hF) ?_
    | with_reducible refine Goes.satUp (List.mem_singleton.2 (fieldName_ERR_DP_CNT_FATAL)) (known_ERR_DP_CNT_FATAL).agrees (Foot.le_trans (by decide +kernel) hF) ?_
    | with_reducible refine Goes.satUp (List.mem_singleton.2 (fieldName_ERR_DP_CNT_NONFATAL)) (known_ERR_DP_CNT_NONFATAL).agrees (Foot.le_trans (by decide +kernel) hF) ?_
    | with_reducible refine Goes.satUp (List.mem_singleton.2 (fieldName_ERR_DP_LOG0_CODE)) (known_ERR_DP_LOG0_CODE).agrees (Foot.le_trans (by decide +kernel) hF) ?_
    | with_reducible refine Goes.satUp (List.mem_singleton.2 (fieldName_ERR_DP_LOG0_DETAIL)) (known_ERR_DP_LOG0_DETAIL).agrees (Foot.le_trans (by decide +kernel) hF) ?_
    | with_reducible refine Goes.satUp (List.mem_singleton.2 (fieldName_ERR_DP_LOG0_OVERFLOW)) (known_ERR_DP_LOG0_OVERFLOW).agrees (Foot.le_trans (by decide +kernel) hF) ?_
    | with_reducible refine Goes.satUp (List.mem_singleton.2 (fieldName_ERR_DP_LOG0_PORT)) (known_ERR_DP_LOG0_PORT).agrees (Foot.le_trans (by decide +kernel) hF) ?_
    | with_reducible refine Goes.satUp (List.mem_singleton.2 (fieldName_ERR_DP_LOG0_VALID)) (known_ERR_DP_LOG0_VALID).agrees (Foot.le_trans (by decide +kernel) hF) ?_
    | with_reducible refine Goes.satUp (List.mem_singleton.2 (fieldName_ERR_DP_LOG_TIME_TIME _)) (known_ERR_DP_LOG_TIME_TIME _).agrees (Foot.le_trans (by decide +kernel) hF) ?_
    | with_reducible refine Goes.satUp (List.mem_singleton.2 (fieldName_ERR_DP_PORTS_PORTS _)) (known_ERR_DP_PORTS_PORTS _).agrees (Foot.le_trans (by decide +kernel) hF) ?_
    | with_reducible refine Goes.satUp (List.mem_singleton.2 (fieldName_ERR_DP_STATUS_CODES)) (known_ERR_DP_STATUS_CODES).agrees (Foot.le_trans (by decide +kernel) hF) ?_
    | with_reducible refine Goes.on (List.mem_singleton.2 (fieldName_ERR_DP_CNT_CORRECTABLE)) (known_ERR_DP_CNT_CORRECTABLE).agrees (Foot.le_trans (by decide +kernel) hF) ?_
    | with_reducible refine Goes.on (List.mem_singleton.2 (fieldName_ERR_DP_CNT_FATAL)) (known_ERR_DP_CNT_FATAL).agrees (Foot.le_trans (by decide +kernel) hF) ?_
    | with_reducible refine Goes.on (List.mem_singleton.2 (fieldName_ERR_DP_CNT_NONFATAL)) (known_ERR_DP_CNT_NONFATAL).agrees (Foot.le_trans (by decide +kernel) hF) ?_
    | with_reducible refine Goes.on (List.mem_singleton.2 (fieldName_ERR_DP_LOG0_CODE)) (known_ERR_DP_LOG0_CODE).agrees (Foot.le_trans (by decide +kernel) hF) ?_
    | with_reducible refine Goes.on (List.mem_singleton.2 (fieldName_ERR_DP_LOG0_DETAIL)) (known_ERR_DP_LOG0_DETAIL).agrees (Foot.le_trans (by decide +kernel) hF) ?_
    | with_reducible refine Goes.on (List.mem_singleton.2 (fieldName_ERR_DP_LOG0_OVERFLOW)) (known_ERR_DP_LOG0_OVERFLOW).agrees (Foot.le_trans (by decide +kernel) hF) ?_
    | with_reducible refine Goes.on (List.mem_singleton.2 (fieldName_ERR_DP_LOG0_PORT)) (known_ERR_DP_LOG0_PORT).agrees (Foot.le_trans (by decide +kernel) hF) ?_
    | with_reducible refine Goes.on (List.mem_singleton.2 (fieldName_ERR_DP_LOG0_VALID)) (known_ERR_DP_LOG0_VALID).agrees (Foot.le_trans (by decide +kernel) hF) ?_
    | with_reducible refine Goes.on (List.mem_singleton.2 (fieldName_ERR_DP_LOG_TIME_TIME _)) (known_ERR_DP_LOG_TIME_TIME _).agrees (Foot.le_trans (by decide +kernel) hF) ?_
    | with_reducible refine Goes.on (List.mem_singleton.2 (fieldName_ERR_DP_PORTS_PORTS _)) (known_ERR_DP_PORTS_PORTS _).agrees (Foot.le_trans (by decide +kernel) hF) ?_
    | with_reducible refine Goes.on (List.mem_singleton.2 (fieldName_ERR_DP_STATUS_CODES)) (known_ERR_DP_STATUS_CODES).agrees (Foot.le_trans (by decide +kernel) hF) ?_
    | with_reducible refine Goes.wr (List.mem_singleton.2 (fieldName_ERR_DP_CNT_CORRECTABLE)) (known_ERR_DP_CNT_CORRECTABLE).agrees (Foot.le_trans (by decide +kernel) hF) ?_
    | with_reducible refine Goes.wr (List.mem_singleton.2 (fieldName_ERR_DP_CNT_FATAL)) (known_ERR_DP_CNT_FATAL).agrees (Foot.le_trans (by decide +kernel) hF) ?_
    | with_reducible refine Goes.wr (List.mem_singleton.2 (fieldName_ERR_DP_CNT_NONFATAL)) (known_ERR_DP_CNT_NONFATAL).agrees (Foot.le_trans (by decide +kernel) hF) ?_
    | with_reducible refine Goes.wr (List.mem_singleton.2 (fieldName_ERR_DP_LOG0_CODE)) (known_ERR_DP_LOG0_CODE).agrees (Foot.le_trans (by decide +kernel) hF) ?_
    | with_reducible refine Goes.wr (List.mem_singleton.2 (fieldName_ERR_DP_LOG0_DETAIL)) (known_ERR_DP_LOG0_DETAIL).agrees (Foot.le_trans (by decide +kernel) hF) ?_
    | with_reducible refine Goes.wr (List.mem_singleton.2 (fieldName_ERR_DP_LOG0_OVERFLOW)) (known_ERR_DP_LOG0_OVERFLOW).agrees (Foot.le_trans (by decide +kernel) hF) ?_
    | with_reducible refine Goes.wr (List.mem_singleton.2 (fieldName_ERR_DP_LOG0_PORT)) (known_ERR_DP_LOG0_PORT).agrees (Foot.le_trans (by decide +kernel) hF) ?_
    | with_reducible refine Goes.wr (List.mem_singleton.2 (fieldName_ERR_DP_LOG0_VALID)) (known_ERR_DP_LOG0_VALID).agrees (Foot.le_trans (by decide +kernel) hF) ?_
    | with_reducible refine Goes.wr (List.mem_singleton.2 (fieldName_ERR_DP_LOG_TIME_TIME _)) (known_ERR_DP_LOG_TIME_TIME _).agrees (Foot.le_trans (by decide +kernel) hF) ?_
    | with_reducible refine Goes.wr (List.mem_singleton.2 (fieldName_ERR_DP_PORTS_PORTS _)) (known_ERR_DP_PORTS_PORTS _).agrees (Foot.le_trans (by decide +kernel) hF) ?_
    | with_reducible refine Goes.wr (List.mem_singleton.2 (fieldName_ERR_DP_STATUS_CODES)) (known_ERR_DP_STATUS_CODES).agrees (Foot.le_trans (by decide +kernel) hF) ?_
    | with_reducible refine Goes.wrapUp (List.mem_singleton.2 (fieldName_ERR_DP_CNT_CORRECTABLE)) (known_ERR_DP_CNT_CORRECTABLE).agrees (Foot.le_trans (by decide +kernel) hF) ?_
    | with_reducible refine Goes.wrapUp (List.mem_singleton.2 (fieldName_ERR_DP_CNT_FATAL)) (known_ERR_DP_CNT_FATAL).agrees (Foot.le_trans (by decide +kernel) hF) ?_
    | with_reducible refine Goes.wrapUp (List.mem_singleton.2 (fieldName_ERR_DP_CNT_NONFATAL)) (known_ERR_DP_CNT_NONFATAL).agrees (Foot.le_trans (by decide +kernel) hF) ?_
    | with_reducible refine Goes.wrapUp (List.mem_singleton.2 (fieldName_ERR_DP_LOG0_CODE)) (known_ERR_DP_LOG0_CODE).agrees (Foot.le_trans (by decide +kernel) hF) ?_
    | with_reducible refine Goes.wrapUp (List.mem_singleton.2 (fieldName_ERR_DP_LOG0_DETAIL)) (known_ERR_DP_LOG0_DETAIL).agrees (Foot.le_trans (by decide +kernel) hF) ?_
    | with_reducible refine Goes.wrapUp (List.mem_singleton.2 (fieldName_ERR_DP_LOG0_OVERFLOW)) (known_ERR_DP_LOG0_OVERFLOW).agrees (Foot.le_trans (by decide +kernel) hF) ?_
    | with_reducible refine Goes.wrapUp (List.mem_singleton.2 (fieldName_ERR_DP_LOG0_PORT)) (known_ERR_DP_LOG0_PORT).agrees (Foot.le_trans (by decide +kernel) hF) ?_
    | with_reducible refine Goes.wrapUp (List.mem_singleton.2 (fieldName_ERR_DP_LOG0_VALID)) (known_ERR_DP_LOG0_VALID).agrees (Foot.le_trans (by decide +kernel) hF) ?_
    | with_reducible refine Goes.wrapUp (List.mem_singleton.2 (fieldName_ERR_DP_LOG_TIME_TIME _)) (known_ERR_DP_LOG_TIME_TIME _).agrees (Foot.le_trans (by decide +kernel) hF) ?_
    | with_reducible refine Goes.wrapUp (List.mem_singleton.2 (fieldName_ERR_DP_PORTS_PORTS _)) (known_ERR_DP_PORTS_PORTS _).agrees (Foot.le_trans (by decide +kernel) hF) ?_
    | with_reducible refine Goes.wrapUp (List.mem_singleton.2 (fieldName_ERR_DP_STATUS_CODES)) (known_ERR_DP_STATUS_CODES).agrees (Foot.le_trans (by decide +kernel) hF) ?_
    | with_reducible refine Goes.foldl ?_ ?_
    | split
    | intro _

/-- What `State.alert` may change. -/
def fp_alert : Foot := ⟨[], some [0x100097]⟩
theorem Goes.alert {s : State} {cls : Nat} (hF : fp_alert.le F = true) (hgo : Goes F s0 s) :
     Goes F s0 (State.alert s cls) := by
  unfold State.alert
  try dsimp only
  repeat' first
    | with_reducible assumption
    | with_reducible refine Goes.on (List.mem_singleton.2 (fieldName_SB_STATUS_ALERT_PENDING)) (known_SB_STATUS_ALERT_PENDING).agrees (Foot.le_trans (by decide +kernel) hF) ?_
    | with_reducible refine Goes.foldl ?_ ?_
    | split
    | intro _

/-- What `State.raiseFor` may change. -/
def fp_raiseFor : Foot := ⟨[.evq], some [0xE0390, 0xE0380, 0xE0388, 0xE0210, 0xE0200, 0xE021E, 0xE0208, 0xE021F,
  0xE0280, 0xE0100, 0xE0001, 0x100097]⟩
theorem Goes.raiseFor {s : State} {code : Nat} {port : Option Nat} {ports : List Nat} {b16 : Nat} {b17 : Nat} {b18 : Nat} (hF : fp_raiseFor.le F = true) (hgo : Goes F s0 s) :
     Goes F s0 (State.raiseFor s code port ports b16 b17 b18) := by
  unfold State.raiseFor
  try dsimp only
  repeat' first
    | with_reducible assumption
    | with_reducible refine Goes.setEvq (Foot.le_trans (by decide +kernel) hF) ?_
    | with_reducible refine Goes.alert (Foot.le_trans (by decide +kernel) hF) ?_
    | with_reducible refine Goes.recordDp (Foot.le_trans (by decide +kernel) hF) ?_
    | with_reducible refine Goes.foldl ?_ ?_
    | split
    | intro _

/-- What `State.raise` may change. -/
def fp_raise : Foot := ⟨[.evq], some [0xE0390, 0xE0380, 0xE0388, 0xE0210, 0xE0200, 0xE021E, 0xE0208, 0xE021F, 0xE0280,
  0xE0100, 0xE0001, 0x100097]⟩
theorem Goes.raise {s : State} {code : Nat} {p : Nat} {b16 : Nat} {b17 : Nat} {b18 : Nat} (hF : fp_raise.le F = true) (hgo : Goes F s0 s) :
     Goes F s0 (State.raise s code p b16 b17 b18) := by
  unfold State.raise
  try dsimp only
  repeat' first
    | with_reducible assumption
    | with_reducible refine Goes.raiseFor (Foot.le_trans (by decide +kernel) hF) ?_
    | with_reducible refine Goes.foldl ?_ ?_
    | split
    | intro _

/-- What `State.raiseDev` may change. -/
def fp_raiseDev : Foot := ⟨[.evq], some [0xE0390, 0xE0380, 0xE0388, 0xE0210, 0xE0200, 0xE021E, 0xE0208, 0xE021F,
  0xE0280, 0xE0100, 0xE0001, 0x100097]⟩
theorem Goes.raiseDev {s : State} {code : Nat} {b16 : Nat} {b17 : Nat} {b18 : Nat} (hF : fp_raiseDev.le F = true) (hgo : Goes F s0 s) :
     Goes F s0 (State.raiseDev s code b16 b17 b18) := by
  unfold State.raiseDev
  try dsimp only
  repeat' first
    | with_reducible assumption
    | with_reducible refine Goes.raiseFor (Foot.le_trans (by decide +kernel) hF) ?_
    | with_reducible refine Goes.foldl ?_ ?_
    | split
    | intro _

/-- What `State.completeAs` may change. -/
def fp_completeAs : Foot := ⟨[.rings, .power, .evq], some []⟩
theorem Goes.completeAs {s : State} {k : Nat} {i : Nat} {entry : Nat} {tag : Nat} {evRing : Option Nat} {status : Nat} {result : List Nat} {port : Option Nat} {mirror : List Nat} (hF : fp_completeAs.le F = true) (hgo : Goes F s0 s) :
     Goes F s0 (State.completeAs s k i entry tag evRing status result port mirror) := by
  unfold State.completeAs
  try dsimp only
  repeat' first
    | with_reducible assumption
    | with_reducible refine Goes.setEvq (Foot.le_trans (by decide +kernel) hF) ?_
    | with_reducible refine Goes.upR (Foot.le_trans (by decide +kernel) hF) ?_
    | with_reducible refine Goes.deviceQuiet (Foot.le_trans (by decide +kernel) hF) ?_
    | with_reducible refine Goes.foldl ?_ ?_
    | split
    | intro _

/-- What `State.complete` may change. -/
def fp_complete : Foot := ⟨[.rings, .power, .evq], some []⟩
theorem Goes.complete {s : State} {k : Nat} {i : Nat} {entry : Nat} {tag : Nat} {evRing : Option Nat} {status : Nat} {result : List Nat} {port : Option Nat} (hF : fp_complete.le F = true) (hgo : Goes F s0 s) :
     Goes F s0 (State.complete s k i entry tag evRing status result port) := by
  unfold State.complete
  try dsimp only
  repeat' first
    | with_reducible assumption
    | with_reducible refine Goes.completeAs (Foot.le_trans (by decide +kernel) hF) ?_
    | with_reducible refine Goes.foldl ?_ ?_
    | split
    | intro _

end Sys2Proof.Machine
end

