-- ==== Sys2Proof/Laws/OnFlash.lean ====
section
/-! SUPPORT. What each operation of `Machine/Flash.lean` may change: one lemma for each. -/

set_option linter.all false
set_option Elab.async false

namespace Sys2Proof.Machine

variable {F : Foot} {s0 : State}

/-- What `State.flashErase` may change. -/
def fp_flashErase : Foot := ⟨[.flash], some []⟩
theorem Goes.flashErase {s : State} {a : Nat} {n : Nat} (hF : fp_flashErase.le F = true) (hgo : Goes F s0 s) :
     Goes F s0 (State.flashErase s a n) := by
  unfold State.flashErase
  try dsimp only
  repeat' first
    | with_reducible assumption
    | exact fun _ w => Memory.wf_clear w.flash _ _
    | with_reducible refine Goes.setFlash (Foot.le_trans (by decide +kernel) hF) ?_ ?_
    | with_reducible refine Goes.foldl ?_ ?_
    | exact fun _ w => Tab.wf_empty
    | exact fun _ w => Tab.wf_set w.flash _ _
    | exact fun _ w => Tab.wf_erase w.flash _
    | exact fun _ w => Tab.wf_keep w.flash _
    | exact fun _ w => Tab.wf_map w.flash _
    | split
    | intro _

/-- What `State.flashWrite` may change. -/
def fp_flashWrite : Foot := ⟨[.flash], some []⟩
theorem Goes.flashWrite {s : State} {a : Nat} {bs : List Byte} (hF : fp_flashWrite.le F = true) (hgo : Goes F s0 s) :
     Goes F s0 (State.flashWrite s a bs) := by
  unfold State.flashWrite
  try dsimp only
  repeat' first
    | with_reducible assumption
    | exact fun _ w => Memory.wf_put w.flash _ _
    | with_reducible refine Goes.setFlash (Foot.le_trans (by decide +kernel) hF) ?_ ?_
    | with_reducible refine Goes.foldl ?_ ?_
    | exact fun _ w => Tab.wf_empty
    | exact fun _ w => Tab.wf_set w.flash _ _
    | exact fun _ w => Tab.wf_erase w.flash _
    | exact fun _ w => Tab.wf_keep w.flash _
    | exact fun _ w => Tab.wf_map w.flash _
    | split
    | intro _

/-- What `State.flashSpoil` may change. -/
def fp_flashSpoil : Foot := ⟨[.flash, .freeCtr], some []⟩
theorem Goes.flashSpoil {s : State} {a : Nat} {n : Nat} (hF : fp_flashSpoil.le F = true) (hgo : Goes F s0 s) :
     Goes F s0 (State.flashSpoil s a n) := by
  unfold State.flashSpoil
  try dsimp only
  repeat' first
    | with_reducible assumption
    | with_reducible refine Goes.flashWrite (Foot.le_trans (by decide +kernel) hF) ?_
    | with_reducible refine Goes.takeFree (Foot.le_trans (by decide +kernel) hF) ?_
    | with_reducible refine Goes.foldl ?_ ?_
    | split
    | intro _

/-- What `State.setTrailer` may change. -/
def fp_setTrailer : Foot := ⟨[.flash], some []⟩
theorem Goes.setTrailer {s : State} {b : Bool} {i : Nat} (hF : fp_setTrailer.le F = true) (hgo : Goes F s0 s) :
     Goes F s0 (State.setTrailer s b i) := by
  unfold State.setTrailer
  try dsimp only
  repeat' first
    | with_reducible assumption
    | with_reducible refine Goes.flashWrite (Foot.le_trans (by decide +kernel) hF) ?_
    | with_reducible refine Goes.foldl ?_ ?_
    | split
    | intro _

end Sys2Proof.Machine
end

