-- ==== Sys2Proof/Laws/OnLaneOps.lean ====
section
/-! SUPPORT. What each operation of `Machine/LaneOps.lean` may change: one lemma for each. -/

set_option linter.all false
set_option Elab.async false

namespace Sys2Proof.Machine

variable {F : Foot} {s0 : State}

theorem default_derived : ({} : TxCoef).derived := by decide

theorem abs_shrink (v : Int) (n : Nat) : |shrink v n| = max 0 (|v| - n) := by
  unfold shrink
  split
  · rw [abs_of_nonpos (by omega), abs_of_nonpos (by omega)]; omega
  · rw [abs_of_nonneg (by omega), abs_of_nonneg (by omega)]

theorem fitTaps_derived (a b c d : Int) : (fitTaps a b c d).derived := by
  unfold fitTaps TxCoef.derived mainTap
  dsimp only
  refine ⟨rfl, ?_⟩
  simp only [abs_shrink]
  have ha := abs_nonneg (clampInt (-7) 7 a)
  have hb := abs_nonneg (clampInt (-21) 21 b)
  have hc := abs_nonneg (clampInt (-21) 21 c)
  have hd := abs_nonneg (clampInt (-7) 7 d)
  generalize |clampInt (-7) 7 a| = a at *
  generalize |clampInt (-21) 21 b| = b at *
  generalize |clampInt (-21) 21 c| = c at *
  generalize |clampInt (-7) 7 d| = d at *
  omega

theorem presetCoef_derived (r n : Nat) : (presetCoef r n).derived := fitTaps_derived _ _ _ _

theorem entryCoef_derived (b : Bool) (e r : Nat) : (entryCoef b e r).derived := by
  unfold entryCoef
  repeat' split
  all_goals exact fitTaps_derived _ _ _ _

/-- What `State.showTx` may change. -/
def fp_showTx : Foot := ⟨[], some [0x4000398, 0x400038C, 0x4000392, 0x4000386, 0x4000380, 0x400039E]⟩
theorem Goes.showTx {s : State} {h : Nat} (hF : fp_showTx.le F = true) (hgo : Goes F s0 s) :
     Goes F s0 (State.showTx s h) := by
  unfold State.showTx
  try dsimp only
  repeat' first
    | with_reducible assumption
    | with_reducible refine Goes.coldAll (names_LCH_TX_COEF_fields _) (Foot.le_trans (by decide +kernel) hF) ?_
    | with_reducible refine Goes.wr (List.mem_singleton.2 (fieldName_LCH_TX_COEF_C0 _)) (known_LCH_TX_COEF_C0 _).agrees (Foot.le_trans (by decide +kernel) hF) ?_
    | with_reducible refine Goes.wr (List.mem_singleton.2 (fieldName_LCH_TX_COEF_CM1 _)) (known_LCH_TX_COEF_CM1 _).agrees (Foot.le_trans (by decide +kernel) hF) ?_
    | with_reducible refine Goes.wr (List.mem_singleton.2 (fieldName_LCH_TX_COEF_CM2 _)) (known_LCH_TX_COEF_CM2 _).agrees (Foot.le_trans (by decide +kernel) hF) ?_
    | with_reducible refine Goes.wr (List.mem_singleton.2 (fieldName_LCH_TX_COEF_CP1 _)) (known_LCH_TX_COEF_CP1 _).agrees (Foot.le_trans (by decide +kernel) hF) ?_
    | with_reducible refine Goes.wr (List.mem_singleton.2 (fieldName_LCH_TX_COEF_CP2 _)) (known_LCH_TX_COEF_CP2 _).agrees (Foot.le_trans (by decide +kernel) hF) ?_
    | with_reducible refine Goes.wr (List.mem_singleton.2 (fieldName_LCH_TX_COEF_SRC _)) (known_LCH_TX_COEF_SRC _).agrees (Foot.le_trans (by decide +kernel) hF) ?_
    | with_reducible refine Goes.foldl ?_ ?_
    | split
    | intro _

/-- What `State.setTx` may change. -/
def fp_setTx : Foot := ⟨[.halves], some [0x4000398, 0x400038C, 0x4000392, 0x4000386, 0x4000380, 0x400039E]⟩
theorem Goes.setTx {s : State} {h : Nat} {m : TxMode} (hF : fp_setTx.le F = true) (hgo : Goes F s0 s) :
     Goes F s0 (State.setTx s h m) := by
  unfold State.setTx
  try dsimp only
  repeat' first
    | with_reducible assumption
    | with_reducible refine Goes.upH (Foot.le_trans (by decide +kernel) hF) (fun _ h => h) ?_
    | with_reducible refine Goes.upH (Foot.le_trans (by decide +kernel) hF) ?_ ?_
    | with_reducible refine Goes.showTx (Foot.le_trans (by decide +kernel) hF) ?_
    | with_reducible refine Goes.foldl ?_ ?_
    | exact fun _ h => h
    | exact fun _ h => by dsimp only; (repeat' split) <;> exact h
    | split
    | intro _

/-- What `State.loadEntry` may change. -/
def fp_loadEntry : Foot := ⟨[.halves], some [0x4000398, 0x400038C, 0x4000392, 0x4000386, 0x4000380, 0x400039E]⟩
theorem Goes.loadEntry {s : State} {h : Nat} {e : Nat} (hF : fp_loadEntry.le F = true) (hgo : Goes F s0 s) :
     Goes F s0 (State.loadEntry s h e) := by
  unfold State.loadEntry
  try dsimp only
  repeat' first
    | with_reducible assumption
    | exact fun _ _ => entryCoef_derived _ _ _
    | with_reducible refine Goes.upH (Foot.le_trans (by decide +kernel) hF) (fun _ h => h) ?_
    | with_reducible refine Goes.upH (Foot.le_trans (by decide +kernel) hF) ?_ ?_
    | with_reducible refine Goes.showTx (Foot.le_trans (by decide +kernel) hF) ?_
    | with_reducible refine Goes.foldl ?_ ?_
    | exact fun _ h => h
    | exact fun _ h => by dsimp only; (repeat' split) <;> exact h
    | split
    | intro _

/-- What `State.loadTx` may change. -/
def fp_loadTx : Foot := ⟨[.halves], some [0x4000398, 0x400038C, 0x4000392, 0x4000386, 0x4000380, 0x400039E]⟩
theorem Goes.loadTx {s : State} {h : Nat} (hF : fp_loadTx.le F = true) (hgo : Goes F s0 s) :
     Goes F s0 (State.loadTx s h) := by
  unfold State.loadTx
  try dsimp only
  repeat' first
    | with_reducible assumption
    | with_reducible refine Goes.loadEntry (Foot.le_trans (by decide +kernel) hF) ?_
    | with_reducible refine Goes.foldl ?_ ?_
    | split
    | intro _

/-- What `State.linkTx` may change. -/
def fp_linkTx : Foot := ⟨[.halves], some [0x4000398, 0x400038C, 0x4000392, 0x4000386, 0x4000380, 0x400039E]⟩
theorem Goes.linkTx {s : State} {h : Nat} {c : TxCoef} {preset : Option Nat} (hF : fp_linkTx.le F = true) (hc : c.derived) (hgo : Goes F s0 s) :
     Goes F s0 (State.linkTx s h c preset) := by
  unfold State.linkTx
  try dsimp only
  repeat' first
    | with_reducible assumption
    | exact fun _ _ => hc
    | with_reducible refine Goes.upH (Foot.le_trans (by decide +kernel) hF) (fun _ h => h) ?_
    | with_reducible refine Goes.upH (Foot.le_trans (by decide +kernel) hF) ?_ ?_
    | with_reducible refine Goes.showTx (Foot.le_trans (by decide +kernel) hF) ?_
    | with_reducible refine Goes.foldl ?_ ?_
    | exact fun _ h => h
    | exact fun _ h => by dsimp only; (repeat' split) <;> exact h
    | split
    | intro _

/-- What `State.linkPreset` may change. -/
def fp_linkPreset : Foot := ⟨[.halves], some [0x4000398, 0x400038C, 0x4000392, 0x4000386, 0x4000380, 0x400039E]⟩
theorem Goes.linkPreset {s : State} {h : Nat} {n : Nat} (hF : fp_linkPreset.le F = true) (hgo : Goes F s0 s) :
     Goes F s0 (State.linkPreset s h n) := by
  unfold State.linkPreset
  try dsimp only
  repeat' first
    | with_reducible assumption
    | exact presetCoef_derived _ _
    | with_reducible refine Goes.linkTx (Foot.le_trans (by decide +kernel) hF) ?_ ?_
    | with_reducible refine Goes.foldl ?_ ?_
    | split
    | intro _

/-- What `State.setAlign` may change. -/
def fp_setAlign : Foot := ⟨[.halves], some [0x4000418, 0x2000104, 0x2000100]⟩
theorem Goes.setAlign {s : State} {h : Nat} {v : Nat} (hF : fp_setAlign.le F = true) (hgo : Goes F s0 s) :
     Goes F s0 (State.setAlign s h v) := by
  unfold State.setAlign
  try dsimp only
  repeat' first
    | with_reducible assumption
    | with_reducible refine Goes.upH (Foot.le_trans (by decide +kernel) hF) (fun _ h => h) ?_
    | with_reducible refine Goes.upH (Foot.le_trans (by decide +kernel) hF) ?_ ?_
    | with_reducible refine Goes.wr (List.mem_singleton.2 (fieldName_LCH_DP_STATUS_ALIGN_STATE _)) (known_LCH_DP_STATUS_ALIGN_STATE _).agrees (Foot.le_trans (by decide +kernel) hF) ?_
    | with_reducible refine Goes.wr (mem_two (names_PRT_DP_STATUS_ALIGN _)) (known_PRT_DP_STATUS_ALIGN _).agrees (Foot.le_trans (by decide +kernel) hF) ?_
    | with_reducible refine Goes.foldl ?_ ?_
    | exact fun _ h => h
    | exact fun _ h => by dsimp only; (repeat' split) <;> exact h
    | split
    | intro _

/-- What `State.applySet` may change. -/
def fp_applySet : Foot := ⟨[.halves], some [0x220008]⟩
theorem Goes.applySet {s : State} {h : Nat} {c : CalSet} {temp : Int} (hF : fp_applySet.le F = true) (hgo : Goes F s0 s) :
     Goes F s0 (State.applySet s h c temp) := by
  unfold State.applySet
  try dsimp only
  repeat' first
    | with_reducible assumption
    | with_reducible refine Goes.upH (Foot.le_trans (by decide +kernel) hF) (fun _ h => h) ?_
    | with_reducible refine Goes.upH (Foot.le_trans (by decide +kernel) hF) ?_ ?_
    | with_reducible refine Goes.wr (List.mem_singleton.2 (fieldName_CAL_RX_APPLIED_TEMP _)) (known_CAL_RX_APPLIED_TEMP _).agrees (Foot.le_trans (by decide +kernel) hF) ?_
    | with_reducible refine Goes.foldl ?_ ?_
    | exact fun _ h => h
    | exact fun _ h => by dsimp only; (repeat' split) <;> exact h
    | split
    | intro _

/-- What `State.setCoef` may change. -/
def fp_setCoef : Foot := ⟨[.halves], some [0x400030C, 0x4000304, 0x4000313]⟩
theorem Goes.setCoef {s : State} {h : Nat} {c : RxCoef} (hF : fp_setCoef.le F = true) (hgo : Goes F s0 s) :
     Goes F s0 (State.setCoef s h c) := by
  unfold State.setCoef
  try dsimp only
  repeat' first
    | with_reducible assumption
    | with_reducible refine Goes.upH (Foot.le_trans (by decide +kernel) hF) (fun _ h => h) ?_
    | with_reducible refine Goes.upH (Foot.le_trans (by decide +kernel) hF) ?_ ?_
    | with_reducible refine Goes.wr (List.mem_singleton.2 (fieldName_LCH_RX_EQ_DFE_H1 _)) (known_LCH_RX_EQ_DFE_H1 _).agrees (Foot.le_trans (by decide +kernel) hF) ?_
    | with_reducible refine Goes.wr (List.mem_singleton.2 (fieldName_LCH_RX_EQ_FFE_MAIN _)) (known_LCH_RX_EQ_FFE_MAIN _).agrees (Foot.le_trans (by decide +kernel) hF) ?_
    | with_reducible refine Goes.wr (List.mem_singleton.2 (fieldName_LCH_RX_EQ_VGA _)) (known_LCH_RX_EQ_VGA _).agrees (Foot.le_trans (by decide +kernel) hF) ?_
    | with_reducible refine Goes.foldl ?_ ?_
    | exact fun _ h => h
    | exact fun _ h => by dsimp only; (repeat' split) <;> exact h
    | split
    | intro _

/-- What `State.noFom` may change. -/
def fp_noFom : Foot := ⟨[.halves], some [0x4000280, 0x400029D]⟩
theorem Goes.noFom {s : State} {h : Nat} (hF : fp_noFom.le F = true) (hgo : Goes F s0 s) :
     Goes F s0 (State.noFom s h) := by
  unfold State.noFom
  try dsimp only
  repeat' first
    | with_reducible assumption
    | with_reducible refine Goes.upH (Foot.le_trans (by decide +kernel) hF) (fun _ h => h) ?_
    | with_reducible refine Goes.upH (Foot.le_trans (by decide +kernel) hF) ?_ ?_
    | with_reducible refine Goes.wr (List.mem_singleton.2 (fieldName_LCH_FOM_FOM _)) (known_LCH_FOM_FOM _).agrees (Foot.le_trans (by decide +kernel) hF) ?_
    | with_reducible refine Goes.wr (List.mem_singleton.2 (fieldName_LCH_FOM_FOM_VALID _)) (known_LCH_FOM_FOM_VALID _).agrees (Foot.le_trans (by decide +kernel) hF) ?_
    | with_reducible refine Goes.off (List.mem_singleton.2 (fieldName_LCH_FOM_FOM _)) (known_LCH_FOM_FOM _).agrees (Foot.le_trans (by decide +kernel) hF) ?_
    | with_reducible refine Goes.off (List.mem_singleton.2 (fieldName_LCH_FOM_FOM_VALID _)) (known_LCH_FOM_FOM_VALID _).agrees (Foot.le_trans (by decide +kernel) hF) ?_
    | with_reducible refine Goes.foldl ?_ ?_
    | exact fun _ h => h
    | exact fun _ h => by dsimp only; (repeat' split) <;> exact h
    | split
    | intro _

/-- What `State.rxIdle` may change. -/
def fp_rxIdle : Foot := ⟨[.halves], some [0x4000418, 0x4000294, 0x4000280, 0x400029D, 0x400029E, 0x2000104,
  0x2000100]⟩
theorem Goes.rxIdle {s : State} {h : Nat} (hF : fp_rxIdle.le F = true) (hgo : Goes F s0 s) :
     Goes F s0 (State.rxIdle s h) := by
  unfold State.rxIdle
  try dsimp only
  repeat' first
    | with_reducible assumption
    | with_reducible refine Goes.upH (Foot.le_trans (by decide +kernel) hF) (fun _ h => h) ?_
    | with_reducible refine Goes.upH (Foot.le_trans (by decide +kernel) hF) ?_ ?_
    | with_reducible refine Goes.noFom (Foot.le_trans (by decide +kernel) hF) ?_
    | with_reducible refine Goes.wr (List.mem_singleton.2 (fieldName_LCH_FOM_ADAPT_STATE _)) (known_LCH_FOM_ADAPT_STATE _).agrees (Foot.le_trans (by decide +kernel) hF) ?_
    | with_reducible refine Goes.wr (List.mem_singleton.2 (fieldName_LCH_FOM_LOCK _)) (known_LCH_FOM_LOCK _).agrees (Foot.le_trans (by decide +kernel) hF) ?_
    | with_reducible refine Goes.setAlign (Foot.le_trans (by decide +kernel) hF) ?_
    | with_reducible refine Goes.off (List.mem_singleton.2 (fieldName_LCH_FOM_ADAPT_STATE _)) (known_LCH_FOM_ADAPT_STATE _).agrees (Foot.le_trans (by decide +kernel) hF) ?_
    | with_reducible refine Goes.off (List.mem_singleton.2 (fieldName_LCH_FOM_LOCK _)) (known_LCH_FOM_LOCK _).agrees (Foot.le_trans (by decide +kernel) hF) ?_
    | with_reducible refine Goes.foldl ?_ ?_
    | exact fun _ h => h
    | exact fun _ h => by dsimp only; (repeat' split) <;> exact h
    | split
    | intro _

/-- What `State.requestRx` may change. -/
def fp_requestRx : Foot := ⟨[.halves], some [0x4000418, 0x4000294, 0x4000280, 0x400029D, 0x400029E, 0x2000104,
  0x2000100]⟩
theorem Goes.requestRx {s : State} {h : Nat} {warm : Bool} (hF : fp_requestRx.le F = true) (hgo : Goes F s0 s) :
     Goes F s0 (State.requestRx s h warm) := by
  unfold State.requestRx
  try dsimp only
  repeat' first
    | with_reducible assumption
    | with_reducible refine Goes.upH (Foot.le_trans (by decide +kernel) hF) (fun _ h => h) ?_
    | with_reducible refine Goes.upH (Foot.le_trans (by decide +kernel) hF) ?_ ?_
    | with_reducible refine Goes.rxIdle (Foot.le_trans (by decide +kernel) hF) ?_
    | with_reducible refine Goes.foldl ?_ ?_
    | exact fun _ h => h
    | exact fun _ h => by dsimp only; (repeat' split) <;> exact h
    | split
    | intro _

/-- What `State.releaseRx` may change. -/
def fp_releaseRx : Foot := ⟨[.halves], some [0x4000418, 0x4000294, 0x4000280, 0x400029D, 0x400029E, 0x2000104,
  0x2000100]⟩
theorem Goes.releaseRx {s : State} {h : Nat} (hF : fp_releaseRx.le F = true) (hgo : Goes F s0 s) :
     Goes F s0 (State.releaseRx s h) := by
  unfold State.releaseRx
  try dsimp only
  repeat' first
    | with_reducible assumption
    | with_reducible refine Goes.upH (Foot.le_trans (by decide +kernel) hF) (fun _ h => h) ?_
    | with_reducible refine Goes.upH (Foot.le_trans (by decide +kernel) hF) ?_ ?_
    | with_reducible refine Goes.rxIdle (Foot.le_trans (by decide +kernel) hF) ?_
    | with_reducible refine Goes.foldl ?_ ?_
    | exact fun _ h => h
    | exact fun _ h => by dsimp only; (repeat' split) <;> exact h
    | split
    | intro _

/-- What `State.setSlot` may change. -/
def fp_setSlot : Foot := ⟨[.halves], some [0x4000290, 0x4000398, 0x400038C, 0x4000392, 0x4000386, 0x4000380,
  0x400039E]⟩
theorem Goes.setSlot {s : State} {h : Nat} {r : Nat} (hF : fp_setSlot.le F = true) (hgo : Goes F s0 s) :
     Goes F s0 (State.setSlot s h r) := by
  unfold State.setSlot
  try dsimp only
  repeat' first
    | with_reducible assumption
    | with_reducible refine Goes.upH (Foot.le_trans (by decide +kernel) hF) (fun _ h => h) ?_
    | with_reducible refine Goes.upH (Foot.le_trans (by decide +kernel) hF) ?_ ?_
    | with_reducible refine Goes.wr (List.mem_singleton.2 (fieldName_LCH_FOM_RATE_SLOT _)) (known_LCH_FOM_RATE_SLOT _).agrees (Foot.le_trans (by decide +kernel) hF) ?_
    | with_reducible refine Goes.loadTx (Foot.le_trans (by decide +kernel) hF) ?_
    | with_reducible refine Goes.foldl ?_ ?_
    | exact fun _ h => h
    | exact fun _ h => by dsimp only; (repeat' split) <;> exact h
    | split
    | intro _

/-- What `State.acquire` may change. -/
def fp_acquire : Foot := ⟨[.halves, .engines], some [0x220008, 0x4000294, 0x4000280, 0x400029D, 0x4000319, 0x400030C,
  0x4000304, 0x400031F, 0x4000313, 0x400031E, 0x4000398, 0x400038C, 0x4000392, 0x4000386, 0x4000380, 0x400039E]⟩
theorem Goes.acquire {s : State} {h : Nat} (hF : fp_acquire.le F = true) (hgo : Goes F s0 s) :
     Goes F s0 (State.acquire s h) := by
  unfold State.acquire
  try dsimp only
  repeat' first
    | with_reducible assumption
    | with_reducible refine Goes.upH (Foot.le_trans (by decide +kernel) hF) (fun _ h => h) ?_
    | with_reducible refine Goes.upH (Foot.le_trans (by decide +kernel) hF) ?_ ?_
    | with_reducible refine Goes.on (List.mem_singleton.2 (fieldName_LCH_FOM_ADAPT_STATE _)) (known_LCH_FOM_ADAPT_STATE _).agrees (Foot.le_trans (by decide +kernel) hF) ?_
    | with_reducible refine Goes.on (List.mem_singleton.2 (fieldName_LCH_RX_EQ_CTLE _)) (known_LCH_RX_EQ_CTLE _).agrees (Foot.le_trans (by decide +kernel) hF) ?_
    | with_reducible refine Goes.on (List.mem_singleton.2 (fieldName_LCH_RX_EQ_TABLE_DEFAULT _)) (known_LCH_RX_EQ_TABLE_DEFAULT _).agrees (Foot.le_trans (by decide +kernel) hF) ?_
    | with_reducible refine Goes.on (List.mem_singleton.2 (fieldName_LCH_RX_EQ_WARM _)) (known_LCH_RX_EQ_WARM _).agrees (Foot.le_trans (by decide +kernel) hF) ?_
    | with_reducible refine Goes.noFom (Foot.le_trans (by decide +kernel) hF) ?_
    | with_reducible refine Goes.wr (List.mem_singleton.2 (fieldName_LCH_FOM_ADAPT_STATE _)) (known_LCH_FOM_ADAPT_STATE _).agrees (Foot.le_trans (by decide +kernel) hF) ?_
    | with_reducible refine Goes.wr (List.mem_singleton.2 (fieldName_LCH_RX_EQ_CTLE _)) (known_LCH_RX_EQ_CTLE _).agrees (Foot.le_trans (by decide +kernel) hF) ?_
    | with_reducible refine Goes.wr (List.mem_singleton.2 (fieldName_LCH_RX_EQ_TABLE_DEFAULT _)) (known_LCH_RX_EQ_TABLE_DEFAULT _).agrees (Foot.le_trans (by decide +kernel) hF) ?_
    | with_reducible refine Goes.wr (List.mem_singleton.2 (fieldName_LCH_RX_EQ_WARM _)) (known_LCH_RX_EQ_WARM _).agrees (Foot.le_trans (by decide +kernel) hF) ?_
    | with_reducible refine Goes.upE (Foot.le_trans (by decide +kernel) hF) ?_
    | with_reducible refine Goes.off (List.mem_singleton.2 (fieldName_LCH_FOM_ADAPT_STATE _)) (known_LCH_FOM_ADAPT_STATE _).agrees (Foot.le_trans (by decide +kernel) hF) ?_
    | with_reducible refine Goes.off (List.mem_singleton.2 (fieldName_LCH_RX_EQ_CTLE _)) (known_LCH_RX_EQ_CTLE _).agrees (Foot.le_trans (by decide +kernel) hF) ?_
    | with_reducible refine Goes.off (List.mem_singleton.2 (fieldName_LCH_RX_EQ_TABLE_DEFAULT _)) (known_LCH_RX_EQ_TABLE_DEFAULT _).agrees (Foot.le_trans (by decide +kernel) hF) ?_
    | with_reducible refine Goes.off (List.mem_singleton.2 (fieldName_LCH_RX_EQ_WARM _)) (known_LCH_RX_EQ_WARM _).agrees (Foot.le_trans (by decide +kernel) hF) ?_
    | with_reducible refine Goes.put (List.mem_singleton.2 (fieldName_LCH_FOM_ADAPT_STATE _)) (known_LCH_FOM_ADAPT_STATE _).agrees (Foot.le_trans (by decide +kernel) hF) ?_
    | with_reducible refine Goes.put (List.mem_singleton.2 (fieldName_LCH_RX_EQ_CTLE _)) (known_LCH_RX_EQ_CTLE _).agrees (Foot.le_trans (by decide +kernel) hF) ?_
    | with_reducible refine Goes.put (List.mem_singleton.2 (fieldName_LCH_RX_EQ_TABLE_DEFAULT _)) (known_LCH_RX_EQ_TABLE_DEFAULT _).agrees (Foot.le_trans (by decide +kernel) hF) ?_
    | with_reducible refine Goes.put (List.mem_singleton.2 (fieldName_LCH_RX_EQ_WARM _)) (known_LCH_RX_EQ_WARM _).agrees (Foot.le_trans (by decide +kernel) hF) ?_
    | with_reducible refine Goes.applySet (Foot.le_trans (by decide +kernel) hF) ?_
    | with_reducible refine Goes.loadTx (Foot.le_trans (by decide +kernel) hF) ?_
    | with_reducible refine Goes.setCoef (Foot.le_trans (by decide +kernel) hF) ?_
    | with_reducible refine Goes.foldl ?_ ?_
    | exact fun _ h => h
    | exact fun _ h => by dsimp only; (repeat' split) <;> exact h
    | split
    | intro _

/-- What `State.keepConv` may change. -/
def fp_keepConv : Foot := ⟨[.halves], some []⟩
theorem Goes.keepConv {s : State} {h : Nat} (hF : fp_keepConv.le F = true) (hgo : Goes F s0 s) :
     Goes F s0 (State.keepConv s h) := by
  unfold State.keepConv
  try dsimp only
  repeat' first
    | with_reducible assumption
    | with_reducible refine Goes.upH (Foot.le_trans (by decide +kernel) hF) (fun _ h => h) ?_
    | with_reducible refine Goes.upH (Foot.le_trans (by decide +kernel) hF) ?_ ?_
    | with_reducible refine Goes.foldl ?_ ?_
    | exact fun _ h => h
    | exact fun _ h => by dsimp only; (repeat' split) <;> exact h
    | split
    | intro _

/-- What `State.toTrack` may change. -/
def fp_toTrack : Foot := ⟨[.halves], some [0x4000294]⟩
theorem Goes.toTrack {s : State} {h : Nat} {frozen : Bool} (hF : fp_toTrack.le F = true) (hgo : Goes F s0 s) :
     Goes F s0 (State.toTrack s h frozen) := by
  unfold State.toTrack
  try dsimp only
  repeat' first
    | with_reducible assumption
    | with_reducible refine Goes.upH (Foot.le_trans (by decide +kernel) hF) (fun _ h => h) ?_
    | with_reducible refine Goes.upH (Foot.le_trans (by decide +kernel) hF) ?_ ?_
    | with_reducible refine Goes.wr (List.mem_singleton.2 (fieldName_LCH_FOM_ADAPT_STATE _)) (known_LCH_FOM_ADAPT_STATE _).agrees (Foot.le_trans (by decide +kernel) hF) ?_
    | with_reducible refine Goes.keepConv (Foot.le_trans (by decide +kernel) hF) ?_
    | with_reducible refine Goes.foldl ?_ ?_
    | exact fun _ h => h
    | exact fun _ h => by dsimp only; (repeat' split) <;> exact h
    | split
    | intro _

/-- What `State.leaveConverge` may change. -/
def fp_leaveConverge : Foot := ⟨[.halves], some [0x4000294]⟩
theorem Goes.leaveConverge {s : State} {h : Nat} (hF : fp_leaveConverge.le F = true) (hgo : Goes F s0 s) :
     Goes F s0 (State.leaveConverge s h) := by
  unfold State.leaveConverge
  try dsimp only
  repeat' first
    | with_reducible assumption
    | with_reducible refine Goes.upH (Foot.le_trans (by decide +kernel) hF) (fun _ h => h) ?_
    | with_reducible refine Goes.upH (Foot.le_trans (by decide +kernel) hF) ?_ ?_
    | with_reducible refine Goes.wr (List.mem_singleton.2 (fieldName_LCH_FOM_ADAPT_STATE _)) (known_LCH_FOM_ADAPT_STATE _).agrees (Foot.le_trans (by decide +kernel) hF) ?_
    | with_reducible refine Goes.toTrack (Foot.le_trans (by decide +kernel) hF) ?_
    | with_reducible refine Goes.foldl ?_ ?_
    | exact fun _ h => h
    | exact fun _ h => by dsimp only; (repeat' split) <;> exact h
    | split
    | intro _

/-- What `State.trimWindow` may change. -/
def fp_trimWindow : Foot := ⟨[.halves], some [0x4000294, 0x4000319]⟩
theorem Goes.trimWindow {s : State} {h : Nat} {t : Trim} {fom : Nat} (hF : fp_trimWindow.le F = true) (hgo : Goes F s0 s) :
     Goes F s0 (State.trimWindow s h t fom) := by
  unfold State.trimWindow
  try dsimp only
  repeat' first
    | with_reducible assumption
    | with_reducible refine Goes.upH (Foot.le_trans (by decide +kernel) hF) (fun _ h => h) ?_
    | with_reducible refine Goes.upH (Foot.le_trans (by decide +kernel) hF) ?_ ?_
    | with_reducible refine Goes.wr (List.mem_singleton.2 (fieldName_LCH_RX_EQ_CTLE _)) (known_LCH_RX_EQ_CTLE _).agrees (Foot.le_trans (by decide +kernel) hF) ?_
    | with_reducible refine Goes.toTrack (Foot.le_trans (by decide +kernel) hF) ?_
    | with_reducible refine Goes.foldl ?_ ?_
    | exact fun _ h => h
    | exact fun _ h => by dsimp only; (repeat' split) <;> exact h
    | split
    | intro _

/-- What `State.freeze` may change. -/
def fp_freeze : Foot := ⟨[.halves], some [0x4000294, 0x4000319]⟩
theorem Goes.freeze {s : State} {h : Nat} (hF : fp_freeze.le F = true) (hgo : Goes F s0 s) :
     Goes F s0 (State.freeze s h) := by
  unfold State.freeze
  try dsimp only
  repeat' first
    | with_reducible assumption
    | with_reducible refine Goes.wr (List.mem_singleton.2 (fieldName_LCH_RX_EQ_CTLE _)) (known_LCH_RX_EQ_CTLE _).agrees (Foot.le_trans (by decide +kernel) hF) ?_
    | with_reducible refine Goes.toTrack (Foot.le_trans (by decide +kernel) hF) ?_
    | with_reducible refine Goes.foldl ?_ ?_
    | split
    | intro _

/-- What `State.holdLimits` may change. -/
def fp_holdLimits : Foot := ⟨[.halves], some []⟩
theorem Goes.holdLimits {s : State} {h : Nat} (hF : fp_holdLimits.le F = true) (hgo : Goes F s0 s) :
     Goes F s0 (State.holdLimits s h) := by
  unfold State.holdLimits
  try dsimp only
  repeat' first
    | with_reducible assumption
    | with_reducible refine Goes.upH (Foot.le_trans (by decide +kernel) hF) (fun _ h => h) ?_
    | with_reducible refine Goes.upH (Foot.le_trans (by decide +kernel) hF) ?_ ?_
    | with_reducible refine Goes.foldl ?_ ?_
    | exact fun _ h => h
    | exact fun _ h => by dsimp only; (repeat' split) <;> exact h
    | split
    | intro _

/-- What `State.holdAllLimits` may change. -/
def fp_holdAllLimits : Foot := ⟨[.halves], some []⟩
theorem Goes.holdAllLimits {s : State} (hF : fp_holdAllLimits.le F = true) (hgo : Goes F s0 s) :
     Goes F s0 (State.holdAllLimits s) := by
  unfold State.holdAllLimits
  try dsimp only
  repeat' first
    | with_reducible assumption
    | with_reducible refine Goes.each ?_ ?_
    | with_reducible refine Goes.holdLimits (Foot.le_trans (by decide +kernel) hF) ?_
    | with_reducible refine Goes.foldl ?_ ?_
    | split
    | intro _

/-- What `State.publishFom` may change. -/
def fp_publishFom : Foot := ⟨[.halves, .evq], some [0xE0390, 0xE0380, 0xE0388, 0xE0210, 0xE0200, 0xE021E, 0xE0208,
  0xE021F, 0xE0280, 0xE0100, 0xE0001, 0x400029C, 0x400029A, 0x4000280, 0x4000288, 0x400029D, 0x400029B, 0x100097]⟩
theorem Goes.publishFom {s : State} {h : Nat} {fom : Nat} (hF : fp_publishFom.le F = true) (hgo : Goes F s0 s) :
     Goes F s0 (State.publishFom s h fom) := by
  unfold State.publishFom
  try dsimp only
  repeat' first
    | with_reducible assumption
    | with_reducible refine Goes.upH (Foot.le_trans (by decide +kernel) hF) (fun _ h => h) ?_
    | with_reducible refine Goes.upH (Foot.le_trans (by decide +kernel) hF) ?_ ?_
    | with_reducible refine Goes.on (List.mem_singleton.2 (fieldName_LCH_FOM_BELOW_TARGET _)) (known_LCH_FOM_BELOW_TARGET _).agrees (Foot.le_trans (by decide +kernel) hF) ?_
    | with_reducible refine Goes.on (List.mem_singleton.2 (fieldName_LCH_FOM_FAULT_SEEN _)) (known_LCH_FOM_FAULT_SEEN _).agrees (Foot.le_trans (by decide +kernel) hF) ?_
    | with_reducible refine Goes.on (List.mem_singleton.2 (fieldName_LCH_FOM_FOM _)) (known_LCH_FOM_FOM _).agrees (Foot.le_trans (by decide +kernel) hF) ?_
    | with_reducible refine Goes.on (List.mem_singleton.2 (fieldName_LCH_FOM_FOM_MIN _)) (known_LCH_FOM_FOM_MIN _).agrees (Foot.le_trans (by decide +kernel) hF) ?_
    | with_reducible refine Goes.on (List.mem_singleton.2 (fieldName_LCH_FOM_FOM_VALID _)) (known_LCH_FOM_FOM_VALID _).agrees (Foot.le_trans (by decide +kernel) hF) ?_
    | with_reducible refine Goes.on (List.mem_singleton.2 (fieldName_LCH_FOM_WARN _)) (known_LCH_FOM_WARN _).agrees (Foot.le_trans (by decide +kernel) hF) ?_
    | with_reducible refine Goes.wr (List.mem_singleton.2 (fieldName_LCH_FOM_BELOW_TARGET _)) (known_LCH_FOM_BELOW_TARGET _).agrees (Foot.le_trans (by decide +kernel) hF) ?_
    | with_reducible refine Goes.wr (List.mem_singleton.2 (fieldName_LCH_FOM_FAULT_SEEN _)) (known_LCH_FOM_FAULT_SEEN _).agrees (Foot.le_trans (by decide +kernel) hF) ?_
    | with_reducible refine Goes.wr (List.mem_singleton.2 (fieldName_LCH_FOM_FOM _)) (known_LCH_FOM_FOM _).agrees (Foot.le_trans (by decide +kernel) hF) ?_
    | with_reducible refine Goes.wr (List.mem_singleton.2 (fieldName_LCH_FOM_FOM_MIN _)) (known_LCH_FOM_FOM_MIN _).agrees (Foot.le_trans (by decide +kernel) hF) ?_
    | with_reducible refine Goes.wr (List.mem_singleton.2 (fieldName_LCH_FOM_FOM_VALID _)) (known_LCH_FOM_FOM_VALID _).agrees (Foot.le_trans (by decide +kernel) hF) ?_
    | with_reducible refine Goes.wr (List.mem_singleton.2 (fieldName_LCH_FOM_WARN _)) (known_LCH_FOM_WARN _).agrees (Foot.le_trans (by decide +kernel) hF) ?_
    | with_reducible refine Goes.raise (Foot.le_trans (by decide +kernel) hF) ?_
    | with_reducible refine Goes.put (List.mem_singleton.2 (fieldName_LCH_FOM_BELOW_TARGET _)) (known_LCH_FOM_BELOW_TARGET _).agrees (Foot.le_trans (by decide +kernel) hF) ?_
    | with_reducible refine Goes.put (List.mem_singleton.2 (fieldName_LCH_FOM_FAULT_SEEN _)) (known_LCH_FOM_FAULT_SEEN _).agrees (Foot.le_trans (by decide +kernel) hF) ?_
    | with_reducible refine Goes.put (List.mem_singleton.2 (fieldName_LCH_FOM_FOM _)) (known_LCH_FOM_FOM _).agrees (Foot.le_trans (by decide +kernel) hF) ?_
    | with_reducible refine Goes.put (List.mem_singleton.2 (fieldName_LCH_FOM_FOM_MIN _)) (known_LCH_FOM_FOM_MIN _).agrees (Foot.le_trans (by decide +kernel) hF) ?_
    | with_reducible refine Goes.put (List.mem_singleton.2 (fieldName_LCH_FOM_FOM_VALID _)) (known_LCH_FOM_FOM_VALID _).agrees (Foot.le_trans (by decide +kernel) hF) ?_
    | with_reducible refine Goes.put (List.mem_singleton.2 (fieldName_LCH_FOM_WARN _)) (known_LCH_FOM_WARN _).agrees (Foot.le_trans (by decide +kernel) hF) ?_
    | with_reducible refine Goes.foldl ?_ ?_
    | exact fun _ h => h
    | exact fun _ h => by dsimp only; (repeat' split) <;> exact h
    | split
    | intro _

/-- What `State.adapted` may change. -/
def fp_adapted : Foot := ⟨[.halves], some [0x400030C, 0x4000304, 0x4000313]⟩
theorem Goes.adapted {s : State} {h : Nat} {c : RxCoef} (hF : fp_adapted.le F = true) (hgo : Goes F s0 s) :
     Goes F s0 (State.adapted s h c) := by
  unfold State.adapted
  try dsimp only
  repeat' first
    | with_reducible assumption
    | with_reducible refine Goes.setCoef (Foot.le_trans (by decide +kernel) hF) ?_
    | with_reducible refine Goes.foldl ?_ ?_
    | split
    | intro _

/-- What `State.windowStep` may change. -/
def fp_windowStep : Foot := ⟨[.halves], some [0x4000294, 0x4000319]⟩
theorem Goes.windowStep {s : State} {h : Nat} {fom : Nat} (hF : fp_windowStep.le F = true) (hgo : Goes F s0 s) :
     Goes F s0 (State.windowStep s h fom) := by
  unfold State.windowStep
  try dsimp only
  repeat' first
    | with_reducible assumption
    | with_reducible refine Goes.trimWindow (Foot.le_trans (by decide +kernel) hF) ?_
    | with_reducible refine Goes.freeze (Foot.le_trans (by decide +kernel) hF) ?_
    | with_reducible refine Goes.upH (Foot.le_trans (by decide +kernel) hF) (fun _ h => h) ?_
    | with_reducible refine Goes.upH (Foot.le_trans (by decide +kernel) hF) ?_ ?_
    | with_reducible refine Goes.leaveConverge (Foot.le_trans (by decide +kernel) hF) ?_
    | with_reducible refine Goes.toTrack (Foot.le_trans (by decide +kernel) hF) ?_
    | with_reducible refine Goes.keepConv (Foot.le_trans (by decide +kernel) hF) ?_
    | with_reducible refine Goes.foldl ?_ ?_
    | exact fun _ h => h
    | exact fun _ h => by dsimp only; (repeat' split) <;> exact h
    | split
    | intro _

/-- What `State.windowDropped` may change. -/
def fp_windowDropped : Foot := ⟨[.halves], some [0x4000294, 0x4000319, 0x400030C, 0x4000304, 0x4000313]⟩
theorem Goes.windowDropped {s : State} {h : Nat} {rx : RxCoef} (hF : fp_windowDropped.le F = true) (hgo : Goes F s0 s) :
     Goes F s0 (State.windowDropped s h rx) := by
  unfold State.windowDropped
  try dsimp only
  repeat' first
    | with_reducible assumption
    | with_reducible refine Goes.freeze (Foot.le_trans (by decide +kernel) hF) ?_
    | with_reducible refine Goes.upH (Foot.le_trans (by decide +kernel) hF) (fun _ h => h) ?_
    | with_reducible refine Goes.upH (Foot.le_trans (by decide +kernel) hF) ?_ ?_
    | with_reducible refine Goes.adapted (Foot.le_trans (by decide +kernel) hF) ?_
    | with_reducible refine Goes.toTrack (Foot.le_trans (by decide +kernel) hF) ?_
    | with_reducible refine Goes.keepConv (Foot.le_trans (by decide +kernel) hF) ?_
    | with_reducible refine Goes.foldl ?_ ?_
    | exact fun _ h => h
    | exact fun _ h => by dsimp only; (repeat' split) <;> exact h
    | split
    | intro _

end Sys2Proof.Machine
end

