-- ==== Sys2Proof/Laws/OnEngOps.lean ====
section
/-! SUPPORT. What each operation of `Machine/EngOps.lean` may change: one lemma for each. -/

set_option linter.all false
set_option Elab.async false

namespace Sys2Proof.Machine

variable {F : Foot} {s0 : State}

/-- What `State.runEngine` may change. -/
def fp_runEngine : Foot := ⟨[.engines], some [0x40801C]⟩
theorem Goes.runEngine {s : State} {k : Nat} (hF : fp_runEngine.le F = true) (hgo : Goes F s0 s) :
     Goes F s0 (State.runEngine s k) := by
  unfold State.runEngine
  try dsimp only
  repeat' first
    | with_reducible assumption
    | with_reducible refine Goes.wr (List.mem_singleton.2 (fieldName_ENG_STATUS_STATE _)) (known_ENG_STATUS_STATE _).agrees (Foot.le_trans (by decide +kernel) hF) ?_
    | with_reducible refine Goes.upE (Foot.le_trans (by decide +kernel) hF) ?_
    | with_reducible refine Goes.foldl ?_ ?_
    | split
    | intro _

/-- What `State.showJob` may change. -/
def fp_showJob : Foot := ⟨[], some [0x40800F, 0x408008, 0x40800A, 0x408000, 0x40800C]⟩
theorem Goes.showJob {s : State} {k : Nat} {st : Nat} (hF : fp_showJob.le F = true) (hgo : Goes F s0 s) :
     Goes F s0 (State.showJob s k st) := by
  unfold State.showJob
  try dsimp only
  repeat' first
    | with_reducible assumption
    | with_reducible refine Goes.on (List.mem_singleton.2 (fieldName_ENG_STATUS_JOB_BUSY _)) (known_ENG_STATUS_JOB_BUSY _).agrees (Foot.le_trans (by decide +kernel) hF) ?_
    | with_reducible refine Goes.on (List.mem_singleton.2 (fieldName_ENG_STATUS_JOB_KIND _)) (known_ENG_STATUS_JOB_KIND _).agrees (Foot.le_trans (by decide +kernel) hF) ?_
    | with_reducible refine Goes.on (List.mem_singleton.2 (fieldName_ENG_STATUS_JOB_RX _)) (known_ENG_STATUS_JOB_RX _).agrees (Foot.le_trans (by decide +kernel) hF) ?_
    | with_reducible refine Goes.on (List.mem_singleton.2 (fieldName_ENG_STATUS_JOB_SLICE _)) (known_ENG_STATUS_JOB_SLICE _).agrees (Foot.le_trans (by decide +kernel) hF) ?_
    | with_reducible refine Goes.on (List.mem_singleton.2 (fieldName_ENG_STATUS_JOB_STATE _)) (known_ENG_STATUS_JOB_STATE _).agrees (Foot.le_trans (by decide +kernel) hF) ?_
    | with_reducible refine Goes.wr (List.mem_singleton.2 (fieldName_ENG_STATUS_JOB_BUSY _)) (known_ENG_STATUS_JOB_BUSY _).agrees (Foot.le_trans (by decide +kernel) hF) ?_
    | with_reducible refine Goes.wr (List.mem_singleton.2 (fieldName_ENG_STATUS_JOB_KIND _)) (known_ENG_STATUS_JOB_KIND _).agrees (Foot.le_trans (by decide +kernel) hF) ?_
    | with_reducible refine Goes.wr (List.mem_singleton.2 (fieldName_ENG_STATUS_JOB_RX _)) (known_ENG_STATUS_JOB_RX _).agrees (Foot.le_trans (by decide +kernel) hF) ?_
    | with_reducible refine Goes.wr (List.mem_singleton.2 (fieldName_ENG_STATUS_JOB_SLICE _)) (known_ENG_STATUS_JOB_SLICE _).agrees (Foot.le_trans (by decide +kernel) hF) ?_
    | with_reducible refine Goes.wr (List.mem_singleton.2 (fieldName_ENG_STATUS_JOB_STATE _)) (known_ENG_STATUS_JOB_STATE _).agrees (Foot.le_trans (by decide +kernel) hF) ?_
    | with_reducible refine Goes.off (List.mem_singleton.2 (fieldName_ENG_STATUS_JOB_BUSY _)) (known_ENG_STATUS_JOB_BUSY _).agrees (Foot.le_trans (by decide +kernel) hF) ?_
    | with_reducible refine Goes.off (List.mem_singleton.2 (fieldName_ENG_STATUS_JOB_KIND _)) (known_ENG_STATUS_JOB_KIND _).agrees (Foot.le_trans (by decide +kernel) hF) ?_
    | with_reducible refine Goes.off (List.mem_singleton.2 (fieldName_ENG_STATUS_JOB_RX _)) (known_ENG_STATUS_JOB_RX _).agrees (Foot.le_trans (by decide +kernel) hF) ?_
    | with_reducible refine Goes.off (List.mem_singleton.2 (fieldName_ENG_STATUS_JOB_SLICE _)) (known_ENG_STATUS_JOB_SLICE _).agrees (Foot.le_trans (by decide +kernel) hF) ?_
    | with_reducible refine Goes.off (List.mem_singleton.2 (fieldName_ENG_STATUS_JOB_STATE _)) (known_ENG_STATUS_JOB_STATE _).agrees (Foot.le_trans (by decide +kernel) hF) ?_
    | with_reducible refine Goes.foldl ?_ ?_
    | split
    | intro _

/-- What `State.stopJob` may change. -/
def fp_stopJob : Foot := ⟨[.engines], some [0x40800F, 0x408008, 0x40800A, 0x408000, 0x40800C]⟩
theorem Goes.stopJob {s : State} {k : Nat} {cause : Nat} (hF : fp_stopJob.le F = true) (hgo : Goes F s0 s) :
     Goes F s0 (State.stopJob s k cause) := by
  unfold State.stopJob
  try dsimp only
  repeat' first
    | with_reducible assumption
    | with_reducible refine Goes.showJob (Foot.le_trans (by decide +kernel) hF) ?_
    | with_reducible refine Goes.upE (Foot.le_trans (by decide +kernel) hF) ?_
    | with_reducible refine Goes.foldl ?_ ?_
    | split
    | intro _

/-- What `State.stopJobsOn` may change. -/
def fp_stopJobsOn : Foot := ⟨[.engines], some [0x40800F, 0x408008, 0x40800A, 0x408000, 0x40800C]⟩
theorem Goes.stopJobsOn {s : State} {h : Nat} {cause : Nat} (hF : fp_stopJobsOn.le F = true) (hgo : Goes F s0 s) :
     Goes F s0 (State.stopJobsOn s h cause) := by
  unfold State.stopJobsOn
  try dsimp only
  repeat' first
    | with_reducible assumption
    | with_reducible refine Goes.stopJob (Foot.le_trans (by decide +kernel) hF) ?_
    | with_reducible refine Goes.each ?_ ?_
    | with_reducible refine Goes.foldl ?_ ?_
    | split
    | intro _

/-- What `State.restoreRx` may change. -/
def fp_restoreRx : Foot := ⟨[.halves], some []⟩
theorem Goes.restoreRx {s : State} {h : Nat} (hF : fp_restoreRx.le F = true) (hgo : Goes F s0 s) :
     Goes F s0 (State.restoreRx s h) := by
  unfold State.restoreRx
  try dsimp only
  repeat' first
    | with_reducible assumption
    | with_reducible refine Goes.upH (Foot.le_trans (by decide +kernel) hF) (fun _ h => h) ?_
    | with_reducible refine Goes.upH (Foot.le_trans (by decide +kernel) hF) ?_ ?_
    | with_reducible refine Goes.foldl ?_ ?_
    | exact fun _ h => h
    | exact fun _ h => by dsimp only; (repeat' split) <;> exact h
    | split
    | intro _

/-- What `State.endJob` may change. -/
def fp_endJob : Foot := ⟨[.rings, .tiles, .power, .evq], some [0x40C008]⟩
theorem Goes.endJob {s : State} {j : Job} {code : Nat} (hF : fp_endJob.le F = true) (hgo : Goes F s0 s) :
     Goes F s0 (State.endJob s j code) := by
  unfold State.endJob
  try dsimp only
  repeat' first
    | with_reducible assumption
    | with_reducible refine Goes.satUp (List.mem_singleton.2 (fieldName_ENG_CNT_DISPLACED _)) (known_ENG_CNT_DISPLACED _).agrees (Foot.le_trans (by decide +kernel) hF) ?_
    | with_reducible refine Goes.complete (Foot.le_trans (by decide +kernel) hF) ?_
    | with_reducible refine Goes.tileQuiet (Foot.le_trans (by decide +kernel) hF) ?_
    | with_reducible refine Goes.foldl ?_ ?_
    | split
    | intro _

/-- What `State.endQueued` may change. -/
def fp_endQueued : Foot := ⟨[.engines, .rings, .tiles, .power, .evq], some [0x40C008]⟩
theorem Goes.endQueued {s : State} {pick : Job → Bool} {code : Nat} (hF : fp_endQueued.le F = true) (hgo : Goes F s0 s) :
     Goes F s0 (State.endQueued s pick code) := by
  unfold State.endQueued
  try dsimp only
  repeat' first
    | with_reducible assumption
    | with_reducible refine Goes.upE (Foot.le_trans (by decide +kernel) hF) ?_
    | with_reducible refine Goes.each ?_ ?_
    | with_reducible refine Goes.endJob (Foot.le_trans (by decide +kernel) hF) ?_
    | with_reducible refine Goes.foldl ?_ ?_
    | split
    | intro _

/-- What `State.stopRunning` may change. -/
def fp_stopRunning : Foot := ⟨[.engines], some [0x40800F, 0x408008, 0x40800A, 0x408000, 0x40800C]⟩
theorem Goes.stopRunning {s : State} {pick : Job → Bool} {cause : Nat} (hF : fp_stopRunning.le F = true) (hgo : Goes F s0 s) :
     Goes F s0 (State.stopRunning s pick cause) := by
  unfold State.stopRunning
  try dsimp only
  repeat' first
    | with_reducible assumption
    | with_reducible refine Goes.stopJob (Foot.le_trans (by decide +kernel) hF) ?_
    | with_reducible refine Goes.each ?_ ?_
    | with_reducible refine Goes.foldl ?_ ?_
    | split
    | intro _

end Sys2Proof.Machine
end

