-- ==== Sys2Proof/Laws/OnCalOps.lean ====
section
/-! SUPPORT. What each operation of `Machine/CalOps.lean` may change: one lemma for each. -/

set_option linter.all false
set_option Elab.async false

namespace Sys2Proof.Machine

variable {F : Foot} {s0 : State}

/-- What `State.scheduleSet` may change. -/
def fp_scheduleSet : Foot := ⟨[.halves], some []⟩
theorem Goes.scheduleSet {s : State} {h : Nat} {c : CalSet} {temp : Int} {ofRun : Bool} (hF : fp_scheduleSet.le F = true) (hgo : Goes F s0 s) :
     Goes F s0 (State.scheduleSet s h c temp ofRun) := by
  unfold State.scheduleSet
  try dsimp only
  repeat' first
    | with_reducible assumption
    | with_reducible refine Goes.upH (Foot.le_trans (by decide +kernel) hF) (fun _ h => h) ?_
    | with_reducible refine Goes.upH (Foot.le_trans (by decide +kernel) hF) ?_ ?_
    | with_reducible refine Goes.foldl ?_ ?_
    | exact fun _ h => h
    | exact fun _ h => by dsimp only; (repeat' split) <;> exact h
    | split
    | intro _

/-- What `State.scheduleTable` may change. -/
def fp_scheduleTable : Foot := ⟨[.halves], some []⟩
theorem Goes.scheduleTable {s : State} {h : Nat} (hF : fp_scheduleTable.le F = true) (hgo : Goes F s0 s) :
     Goes F s0 (State.scheduleTable s h) := by
  unfold State.scheduleTable
  try dsimp only
  repeat' first
    | with_reducible assumption
    | with_reducible refine Goes.scheduleSet (Foot.le_trans (by decide +kernel) hF) ?_
    | with_reducible refine Goes.foldl ?_ ?_
    | split
    | intro _

/-- What `State.scheduleBack` may change. -/
def fp_scheduleBack : Foot := ⟨[.halves], some []⟩
theorem Goes.scheduleBack {s : State} {h : Nat} (hF : fp_scheduleBack.le F = true) (hgo : Goes F s0 s) :
     Goes F s0 (State.scheduleBack s h) := by
  unfold State.scheduleBack
  try dsimp only
  repeat' first
    | with_reducible assumption
    | with_reducible refine Goes.upH (Foot.le_trans (by decide +kernel) hF) (fun _ h => h) ?_
    | with_reducible refine Goes.upH (Foot.le_trans (by decide +kernel) hF) ?_ ?_
    | with_reducible refine Goes.scheduleTable (Foot.le_trans (by decide +kernel) hF) ?_
    | with_reducible refine Goes.foldl ?_ ?_
    | exact fun _ h => h
    | exact fun _ h => by dsimp only; (repeat' split) <;> exact h
    | split
    | intro _

/-- What `State.showRuns` may change. -/
def fp_showRuns : Foot := ⟨[], some [0x200100]⟩
theorem Goes.showRuns {s : State} (hF : fp_showRuns.le F = true) (hgo : Goes F s0 s) :
     Goes F s0 (State.showRuns s) := by
  unfold State.showRuns
  try dsimp only
  repeat' first
    | with_reducible assumption
    | with_reducible refine Goes.wr (List.mem_singleton.2 (fieldName_CAL_STATUS_RUNS_ACTIVE)) (known_CAL_STATUS_RUNS_ACTIVE).agrees (Foot.le_trans (by decide +kernel) hF) ?_
    | with_reducible refine Goes.foldl ?_ ?_
    | split
    | intro _

/-- What `State.endRun` may change. -/
def fp_endRun : Foot := ⟨[.halves, .tiles, .evq], some [0x220018, 0x220010, 0x200100, 0xE0390, 0xE0380, 0xE0388,
  0xE0210, 0xE0200, 0xE021E, 0xE0208, 0xE021F, 0xE0280, 0xE0100, 0xE0001, 0x100097]⟩
theorem Goes.endRun {s : State} {h : Nat} {result : Nat} (hF : fp_endRun.le F = true) (hgo : Goes F s0 s) :
     Goes F s0 (State.endRun s h result) := by
  unfold State.endRun
  try dsimp only
  repeat' first
    | with_reducible assumption
    | with_reducible refine Goes.upH (Foot.le_trans (by decide +kernel) hF) (fun _ h => h) ?_
    | with_reducible refine Goes.upH (Foot.le_trans (by decide +kernel) hF) ?_ ?_
    | with_reducible refine Goes.raiseDev (Foot.le_trans (by decide +kernel) hF) ?_
    | with_reducible refine Goes.showRuns (Foot.le_trans (by decide +kernel) hF) ?_
    | with_reducible refine Goes.wr (List.mem_singleton.2 (fieldName_CAL_RX_LAST_RESULT _)) (known_CAL_RX_LAST_RESULT _).agrees (Foot.le_trans (by decide +kernel) hF) ?_
    | with_reducible refine Goes.wr (List.mem_singleton.2 (fieldName_CAL_RX_NQ_REASON _)) (known_CAL_RX_NQ_REASON _).agrees (Foot.le_trans (by decide +kernel) hF) ?_
    | with_reducible refine Goes.tileQuiet (Foot.le_trans (by decide +kernel) hF) ?_
    | with_reducible refine Goes.raise (Foot.le_trans (by decide +kernel) hF) ?_
    | with_reducible refine Goes.foldl ?_ ?_
    | exact fun _ h => h
    | exact fun _ h => by dsimp only; (repeat' split) <;> exact h
    | split
    | intro _

/-- What `State.disturb` may change. -/
def fp_disturb : Foot := ⟨[.halves], some []⟩
theorem Goes.disturb {s : State} {h : Nat} (hF : fp_disturb.le F = true) (hgo : Goes F s0 s) :
     Goes F s0 (State.disturb s h) := by
  unfold State.disturb
  try dsimp only
  repeat' first
    | with_reducible assumption
    | with_reducible refine Goes.upH (Foot.le_trans (by decide +kernel) hF) (fun _ h => h) ?_
    | with_reducible refine Goes.upH (Foot.le_trans (by decide +kernel) hF) ?_ ?_
    | with_reducible refine Goes.foldl ?_ ?_
    | exact fun _ h => h
    | exact fun _ h => by dsimp only; (repeat' split) <;> exact h
    | split
    | intro _

/-- What `State.abortRun` may change. -/
def fp_abortRun : Foot := ⟨[.halves, .tiles, .evq], some [0x220018, 0x220010, 0x200100, 0xE0390, 0xE0380, 0xE0388,
  0xE0210, 0xE0200, 0xE021E, 0xE0208, 0xE021F, 0xE0280, 0xE0100, 0xE0001, 0x100097]⟩
theorem Goes.abortRun {s : State} {h : Nat} (hF : fp_abortRun.le F = true) (hgo : Goes F s0 s) :
     Goes F s0 (State.abortRun s h) := by
  unfold State.abortRun
  try dsimp only
  repeat' first
    | with_reducible assumption
    | with_reducible refine Goes.upH (Foot.le_trans (by decide +kernel) hF) (fun _ h => h) ?_
    | with_reducible refine Goes.upH (Foot.le_trans (by decide +kernel) hF) ?_ ?_
    | with_reducible refine Goes.scheduleBack (Foot.le_trans (by decide +kernel) hF) ?_
    | with_reducible refine Goes.endRun (Foot.le_trans (by decide +kernel) hF) ?_
    | with_reducible refine Goes.foldl ?_ ?_
    | exact fun _ h => h
    | exact fun _ h => by dsimp only; (repeat' split) <;> exact h
    | split
    | intro _

/-- What `State.clearRun` may change. -/
def fp_clearRun : Foot := ⟨[.halves, .tiles, .evq], some [0x220018, 0x220010, 0x200100, 0xE0390, 0xE0380, 0xE0388,
  0xE0210, 0xE0200, 0xE021E, 0xE0208, 0xE021F, 0xE0280, 0xE0100, 0xE0001, 0x100097]⟩
theorem Goes.clearRun {s : State} {h : Nat} (hF : fp_clearRun.le F = true) (hgo : Goes F s0 s) :
     Goes F s0 (State.clearRun s h) := by
  unfold State.clearRun
  try dsimp only
  repeat' first
    | with_reducible assumption
    | with_reducible refine Goes.upH (Foot.le_trans (by decide +kernel) hF) (fun _ h => h) ?_
    | with_reducible refine Goes.upH (Foot.le_trans (by decide +kernel) hF) ?_ ?_
    | with_reducible refine Goes.endRun (Foot.le_trans (by decide +kernel) hF) ?_
    | with_reducible refine Goes.foldl ?_ ?_
    | exact fun _ h => h
    | exact fun _ h => by dsimp only; (repeat' split) <;> exact h
    | split
    | intro _

/-- What `State.rxLeaves` may change. -/
def fp_rxLeaves : Foot := ⟨[.halves, .engines, .tiles, .evq], some [0x220018, 0x220010, 0x200100, 0x40800F, 0x408008,
  0x40800A, 0x408000, 0x40800C, 0xE0390, 0xE0380, 0xE0388, 0xE0210, 0xE0200, 0xE021E, 0xE0208, 0xE021F, 0xE0280,
  0xE0100, 0xE0001, 0x100097]⟩
theorem Goes.rxLeaves {s : State} {h : Nat} (hF : fp_rxLeaves.le F = true) (hgo : Goes F s0 s) :
     Goes F s0 (State.rxLeaves s h) := by
  unfold State.rxLeaves
  try dsimp only
  repeat' first
    | with_reducible assumption
    | with_reducible refine Goes.stopJobsOn (Foot.le_trans (by decide +kernel) hF) ?_
    | with_reducible refine Goes.abortRun (Foot.le_trans (by decide +kernel) hF) ?_
    | with_reducible refine Goes.foldl ?_ ?_
    | split
    | intro _

end Sys2Proof.Machine
end

