-- ==== Sys2Proof/Laws/OnSegOps.lean ====
section
/-! SUPPORT. What each operation of `Machine/SegOps.lean` may change: one lemma for each. -/

set_option linter.all false
set_option Elab.async false

namespace Sys2Proof.Machine

variable {F : Foot} {s0 : State}

/-- What `State.pathSoon` may change. -/
def fp_pathSoon : Foot := ⟨[.sides], some []⟩
theorem Goes.pathSoon {s : State} {p : Nat} (hF : fp_pathSoon.le F = true) (hgo : Goes F s0 s) :
     Goes F s0 (State.pathSoon s p) := by
  unfold State.pathSoon
  try dsimp only
  repeat' first
    | with_reducible assumption
    | with_reducible refine Goes.upS (Foot.le_trans (by decide +kernel) hF) ?_
    | with_reducible refine Goes.foldl ?_ ?_
    | split
    | intro _

/-- What `State.pathAbsent` may change. -/
def fp_pathAbsent : Foot := ⟨[.sides], some []⟩
theorem Goes.pathAbsent {s : State} {q : Nat} (hF : fp_pathAbsent.le F = true) (hgo : Goes F s0 s) :
     Goes F s0 (State.pathAbsent s q) := by
  unfold State.pathAbsent
  try dsimp only
  repeat' first
    | with_reducible assumption
    | with_reducible refine Goes.upS (Foot.le_trans (by decide +kernel) hF) ?_
    | with_reducible refine Goes.foldl ?_ ?_
    | split
    | intro _

/-- What `State.showSide` may change. -/
def fp_showSide : Foot := ⟨[.halves, .sides, .engines], some [0x40800F, 0x408008, 0x40800A, 0x408000, 0x40800C,
  0x400050E, 0x400051C, 0x4000513, 0x2000D05, 0x2000D06, 0x2000D00]⟩
theorem Goes.showSide {s : State} {q : Nat} (hF : fp_showSide.le F = true) (hgo : Goes F s0 s) :
     Goes F s0 (State.showSide s q) := by
  unfold State.showSide
  try dsimp only
  repeat' first
    | with_reducible assumption
    | with_reducible refine Goes.upH (Foot.le_trans (by decide +kernel) hF) (fun _ h => h) ?_
    | with_reducible refine Goes.upH (Foot.le_trans (by decide +kernel) hF) ?_ ?_
    | with_reducible refine Goes.stopJob (Foot.le_trans (by decide +kernel) hF) ?_
    | with_reducible refine Goes.on (List.mem_singleton.2 (fieldName_LCH_LANE_FAULT_RX_LOGICAL _)) (known_LCH_LANE_FAULT_RX_LOGICAL _).agrees (Foot.le_trans (by decide +kernel) hF) ?_
    | with_reducible refine Goes.on (List.mem_singleton.2 (fieldName_LCH_LANE_FAULT_STATUS _)) (known_LCH_LANE_FAULT_STATUS _).agrees (Foot.le_trans (by decide +kernel) hF) ?_
    | with_reducible refine Goes.on (List.mem_singleton.2 (fieldName_LCH_LANE_FAULT_TX_LOGICAL _)) (known_LCH_LANE_FAULT_TX_LOGICAL _).agrees (Foot.le_trans (by decide +kernel) hF) ?_
    | with_reducible refine Goes.on (List.mem_singleton.2 (fieldName_PRT_TRL_STATUS_DEGRADED _)) (known_PRT_TRL_STATUS_DEGRADED _).agrees (Foot.le_trans (by decide +kernel) hF) ?_
    | with_reducible refine Goes.on (List.mem_singleton.2 (fieldName_PRT_TRL_STATUS_READY_SPARES _)) (known_PRT_TRL_STATUS_READY_SPARES _).agrees (Foot.le_trans (by decide +kernel) hF) ?_
    | with_reducible refine Goes.on (List.mem_singleton.2 (fieldName_PRT_TRL_STATUS_SPARE_LOST _)) (known_PRT_TRL_STATUS_SPARE_LOST _).agrees (Foot.le_trans (by decide +kernel) hF) ?_
    | with_reducible refine Goes.wr (List.mem_singleton.2 (fieldName_LCH_LANE_FAULT_RX_LOGICAL _)) (known_LCH_LANE_FAULT_RX_LOGICAL _).agrees (Foot.le_trans (by decide +kernel) hF) ?_
    | with_reducible refine Goes.wr (List.mem_singleton.2 (fieldName_LCH_LANE_FAULT_STATUS _)) (known_LCH_LANE_FAULT_STATUS _).agrees (Foot.le_trans (by decide +kernel) hF) ?_
    | with_reducible refine Goes.wr (List.mem_singleton.2 (fieldName_LCH_LANE_FAULT_TX_LOGICAL _)) (known_LCH_LANE_FAULT_TX_LOGICAL _).agrees (Foot.le_trans (by decide +kernel) hF) ?_
    | with_reducible refine Goes.wr (List.mem_singleton.2 (fieldName_PRT_TRL_STATUS_DEGRADED _)) (known_PRT_TRL_STATUS_DEGRADED _).agrees (Foot.le_trans (by decide +kernel) hF) ?_
    | with_reducible refine Goes.wr (List.mem_singleton.2 (fieldName_PRT_TRL_STATUS_READY_SPARES _)) (known_PRT_TRL_STATUS_READY_SPARES _).agrees (Foot.le_trans (by decide +kernel) hF) ?_
    | with_reducible refine Goes.wr (List.mem_singleton.2 (fieldName_PRT_TRL_STATUS_SPARE_LOST _)) (known_PRT_TRL_STATUS_SPARE_LOST _).agrees (Foot.le_trans (by decide +kernel) hF) ?_
    | with_reducible refine Goes.upS (Foot.le_trans (by decide +kernel) hF) ?_
    | with_reducible refine Goes.each ?_ ?_
    | with_reducible refine Goes.off (List.mem_singleton.2 (fieldName_LCH_LANE_FAULT_RX_LOGICAL _)) (known_LCH_LANE_FAULT_RX_LOGICAL _).agrees (Foot.le_trans (by decide +kernel) hF) ?_
    | with_reducible refine Goes.off (List.mem_singleton.2 (fieldName_LCH_LANE_FAULT_STATUS _)) (known_LCH_LANE_FAULT_STATUS _).agrees (Foot.le_trans (by decide +kernel) hF) ?_
    | with_reducible refine Goes.off (List.mem_singleton.2 (fieldName_LCH_LANE_FAULT_TX_LOGICAL _)) (known_LCH_LANE_FAULT_TX_LOGICAL _).agrees (Foot.le_trans (by decide +kernel) hF) ?_
    | with_reducible refine Goes.off (List.mem_singleton.2 (fieldName_PRT_TRL_STATUS_DEGRADED _)) (known_PRT_TRL_STATUS_DEGRADED _).agrees (Foot.le_trans (by decide +kernel) hF) ?_
    | with_reducible refine Goes.off (List.mem_singleton.2 (fieldName_PRT_TRL_STATUS_READY_SPARES _)) (known_PRT_TRL_STATUS_READY_SPARES _).agrees (Foot.le_trans (by decide +kernel) hF) ?_
    | with_reducible refine Goes.off (List.mem_singleton.2 (fieldName_PRT_TRL_STATUS_SPARE_LOST _)) (known_PRT_TRL_STATUS_SPARE_LOST _).agrees (Foot.le_trans (by decide +kernel) hF) ?_
    | with_reducible refine Goes.put (List.mem_singleton.2 (fieldName_LCH_LANE_FAULT_RX_LOGICAL _)) (known_LCH_LANE_FAULT_RX_LOGICAL _).agrees (Foot.le_trans (by decide +kernel) hF) ?_
    | with_reducible refine Goes.put (List.mem_singleton.2 (fieldName_LCH_LANE_FAULT_STATUS _)) (known_LCH_LANE_FAULT_STATUS _).agrees (Foot.le_trans (by decide +kernel) hF) ?_
    | with_reducible refine Goes.put (List.mem_singleton.2 (fieldName_LCH_LANE_FAULT_TX_LOGICAL _)) (known_LCH_LANE_FAULT_TX_LOGICAL _).agrees (Foot.le_trans (by decide +kernel) hF) ?_
    | with_reducible refine Goes.put (List.mem_singleton.2 (fieldName_PRT_TRL_STATUS_DEGRADED _)) (known_PRT_TRL_STATUS_DEGRADED _).agrees (Foot.le_trans (by decide +kernel) hF) ?_
    | with_reducible refine Goes.put (List.mem_singleton.2 (fieldName_PRT_TRL_STATUS_READY_SPARES _)) (known_PRT_TRL_STATUS_READY_SPARES _).agrees (Foot.le_trans (by decide +kernel) hF) ?_
    | with_reducible refine Goes.put (List.mem_singleton.2 (fieldName_PRT_TRL_STATUS_SPARE_LOST _)) (known_PRT_TRL_STATUS_SPARE_LOST _).agrees (Foot.le_trans (by decide +kernel) hF) ?_
    | with_reducible refine Goes.foldl ?_ ?_
    | exact fun _ h => h
    | exact fun _ h => by dsimp only; (repeat' split) <;> exact h
    | split
    | intro _

/-- What `State.showOf` may change. -/
def fp_showOf : Foot := ⟨[.halves, .sides, .engines], some [0x40800F, 0x408008, 0x40800A, 0x408000, 0x40800C,
  0x400050E, 0x400051C, 0x4000513, 0x2000D05, 0x2000D06, 0x2000D00]⟩
theorem Goes.showOf {s : State} {h : Nat} (hF : fp_showOf.le F = true) (hgo : Goes F s0 s) :
     Goes F s0 (State.showOf s h) := by
  unfold State.showOf
  try dsimp only
  repeat' first
    | with_reducible assumption
    | with_reducible refine Goes.showSide (Foot.le_trans (by decide +kernel) hF) ?_
    | with_reducible refine Goes.foldl ?_ ?_
    | split
    | intro _

/-- What `State.clearFrames` may change. -/
def fp_clearFrames : Foot := ⟨[.halves], some [0x4000486, 0x4000480, 0x4000487]⟩
theorem Goes.clearFrames {s : State} {h : Nat} (hF : fp_clearFrames.le F = true) (hgo : Goes F s0 s) :
     Goes F s0 (State.clearFrames s h) := by
  unfold State.clearFrames
  try dsimp only
  repeat' first
    | with_reducible assumption
    | with_reducible refine Goes.upH (Foot.le_trans (by decide +kernel) hF) (fun _ h => h) ?_
    | with_reducible refine Goes.upH (Foot.le_trans (by decide +kernel) hF) ?_ ?_
    | with_reducible refine Goes.wr (List.mem_singleton.2 (fieldName_LCH_SEG_FEC_FRAME_LOCK _)) (known_LCH_SEG_FEC_FRAME_LOCK _).agrees (Foot.le_trans (by decide +kernel) hF) ?_
    | with_reducible refine Goes.wr (List.mem_singleton.2 (fieldName_LCH_SEG_FEC_HEARD _)) (known_LCH_SEG_FEC_HEARD _).agrees (Foot.le_trans (by decide +kernel) hF) ?_
    | with_reducible refine Goes.wr (List.mem_singleton.2 (fieldName_LCH_SEG_FEC_SEG_POL_INV _)) (known_LCH_SEG_FEC_SEG_POL_INV _).agrees (Foot.le_trans (by decide +kernel) hF) ?_
    | with_reducible refine Goes.off (List.mem_singleton.2 (fieldName_LCH_SEG_FEC_FRAME_LOCK _)) (known_LCH_SEG_FEC_FRAME_LOCK _).agrees (Foot.le_trans (by decide +kernel) hF) ?_
    | with_reducible refine Goes.off (List.mem_singleton.2 (fieldName_LCH_SEG_FEC_HEARD _)) (known_LCH_SEG_FEC_HEARD _).agrees (Foot.le_trans (by decide +kernel) hF) ?_
    | with_reducible refine Goes.off (List.mem_singleton.2 (fieldName_LCH_SEG_FEC_SEG_POL_INV _)) (known_LCH_SEG_FEC_SEG_POL_INV _).agrees (Foot.le_trans (by decide +kernel) hF) ?_
    | with_reducible refine Goes.foldl ?_ ?_
    | exact fun _ h => h
    | exact fun _ h => by dsimp only; (repeat' split) <;> exact h
    | split
    | intro _

/-- What `State.clearTrellis` may change. -/
def fp_clearTrellis : Foot := ⟨[], some [0x2000D10, 0x2000D1C, 0x2000D08, 0x2000D18]⟩
theorem Goes.clearTrellis {s : State} {q : Nat} (hF : fp_clearTrellis.le F = true) (hgo : Goes F s0 s) :
     Goes F s0 (State.clearTrellis s q) := by
  unfold State.clearTrellis
  try dsimp only
  repeat' first
    | with_reducible assumption
    | with_reducible refine Goes.wr (List.mem_singleton.2 (fieldName_PRT_TRL_STATUS_RX_EPOCH _)) (known_PRT_TRL_STATUS_RX_EPOCH _).agrees (Foot.le_trans (by decide +kernel) hF) ?_
    | with_reducible refine Goes.wr (List.mem_singleton.2 (fieldName_PRT_TRL_STATUS_STEER_STATE _)) (known_PRT_TRL_STATUS_STEER_STATE _).agrees (Foot.le_trans (by decide +kernel) hF) ?_
    | with_reducible refine Goes.wr (List.mem_singleton.2 (fieldName_PRT_TRL_STATUS_TX_EPOCH _)) (known_PRT_TRL_STATUS_TX_EPOCH _).agrees (Foot.le_trans (by decide +kernel) hF) ?_
    | with_reducible refine Goes.wr (List.mem_singleton.2 (fieldName_PRT_TRL_STATUS_XMIT_STATE _)) (known_PRT_TRL_STATUS_XMIT_STATE _).agrees (Foot.le_trans (by decide +kernel) hF) ?_
    | with_reducible refine Goes.foldl ?_ ?_
    | split
    | intro _

/-- What `State.returnRows` may change. -/
def fp_returnRows : Foot := ⟨[.sides], some []⟩
theorem Goes.returnRows {s : State} {q : Nat} (hF : fp_returnRows.le F = true) (hgo : Goes F s0 s) :
     Goes F s0 (State.returnRows s q) := by
  unfold State.returnRows
  try dsimp only
  repeat' first
    | with_reducible assumption
    | with_reducible refine Goes.upS (Foot.le_trans (by decide +kernel) hF) ?_
    | with_reducible refine Goes.foldl ?_ ?_
    | split
    | intro _

/-- What `State.dropSegment` may change. -/
def fp_dropSegment : Foot := ⟨[.halves, .sides, .engines, .tiles, .evq], some [0x220018, 0x220010, 0x200100, 0x40800F,
  0x408008, 0x40800A, 0x408000, 0x40800C, 0xE0390, 0xE0380, 0xE0388, 0xE0210, 0xE0200, 0xE021E, 0xE0208, 0xE021F,
  0xE0280, 0xE0100, 0xE0001, 0x4000486, 0x4000480, 0x4000487, 0x200090A, 0x2000D10, 0x2000D1C, 0x2000D08, 0x2000D18,
  0x100097]⟩
theorem Goes.dropSegment {s : State} {q : Nat} (hF : fp_dropSegment.le F = true) (hgo : Goes F s0 s) :
     Goes F s0 (State.dropSegment s q) := by
  unfold State.dropSegment
  try dsimp only
  repeat' first
    | with_reducible assumption
    | with_reducible refine Goes.rxLeaves (Foot.le_trans (by decide +kernel) hF) ?_
    | with_reducible refine Goes.wr (List.mem_singleton.2 (fieldName_PRT_SEG_STATUS_PARTNER _)) (known_PRT_SEG_STATUS_PARTNER _).agrees (Foot.le_trans (by decide +kernel) hF) ?_
    | with_reducible refine Goes.upS (Foot.le_trans (by decide +kernel) hF) ?_
    | with_reducible refine Goes.each ?_ ?_
    | with_reducible refine Goes.clearTrellis (Foot.le_trans (by decide +kernel) hF) ?_
    | with_reducible refine Goes.abortRun (Foot.le_trans (by decide +kernel) hF) ?_
    | with_reducible refine Goes.clearFrames (Foot.le_trans (by decide +kernel) hF) ?_
    | with_reducible refine Goes.foldl ?_ ?_
    | split
    | intro _

/-- What `State.toSDetect` may change. -/
def fp_toSDetect : Foot := ⟨[.halves, .sides, .engines, .tiles, .evq], some [0x220018, 0x220010, 0x200100, 0x40800F,
  0x408008, 0x40800A, 0x408000, 0x40800C, 0xE0390, 0xE0380, 0xE0388, 0xE0210, 0xE0200, 0xE021E, 0xE0208, 0xE021F,
  0xE0280, 0xE0100, 0xE0001, 0x4000418, 0x4000294, 0x4000280, 0x400029D, 0x400029E, 0x4000290, 0x400050E, 0x400051C,
  0x4000513, 0x4000486, 0x4000480, 0x4000487, 0x4000398, 0x400038C, 0x4000392, 0x4000386, 0x4000380, 0x400039E,
  0x2000104, 0x200010C, 0x2000100, 0x2000108, 0x200090A, 0x200091C, 0x2000D05, 0x2000D06, 0x2000D10, 0x2000D00,
  0x2000D1C, 0x2000D08, 0x2000D18, 0x100097]⟩
theorem Goes.toSDetect {s : State} {q : Nat} (hF : fp_toSDetect.le F = true) (hgo : Goes F s0 s) :
     Goes F s0 (State.toSDetect s q) := by
  unfold State.toSDetect
  try dsimp only
  repeat' first
    | with_reducible assumption
    | with_reducible refine Goes.returnRows (Foot.le_trans (by decide +kernel) hF) ?_
    | with_reducible refine Goes.wr (mem_two (names_PRT_DP_STATUS_SLOT_NOW _)) (known_PRT_DP_STATUS_SLOT_NOW _).agrees (Foot.le_trans (by decide +kernel) hF) ?_
    | with_reducible refine Goes.wr (List.mem_singleton.2 (fieldName_PRT_SEG_STATUS_STATE _)) (known_PRT_SEG_STATUS_STATE _).agrees (Foot.le_trans (by decide +kernel) hF) ?_
    | with_reducible refine Goes.setSlot (Foot.le_trans (by decide +kernel) hF) ?_
    | with_reducible refine Goes.each ?_ ?_
    | with_reducible refine Goes.showSide (Foot.le_trans (by decide +kernel) hF) ?_
    | with_reducible refine Goes.dropSegment (Foot.le_trans (by decide +kernel) hF) ?_
    | with_reducible refine Goes.releaseRx (Foot.le_trans (by decide +kernel) hF) ?_
    | with_reducible refine Goes.setTx (Foot.le_trans (by decide +kernel) hF) ?_
    | with_reducible refine Goes.foldl ?_ ?_
    | split
    | intro _

/-- What `State.toSAcquire` may change. -/
def fp_toSAcquire : Foot := ⟨[.halves, .sides], some [0x4000418, 0x4000294, 0x4000280, 0x400029D, 0x400029E,
  0x2000104, 0x2000100, 0x200091C]⟩
theorem Goes.toSAcquire {s : State} {q : Nat} (hF : fp_toSAcquire.le F = true) (hgo : Goes F s0 s) :
     Goes F s0 (State.toSAcquire s q) := by
  unfold State.toSAcquire
  try dsimp only
  repeat' first
    | with_reducible assumption
    | with_reducible refine Goes.wr (List.mem_singleton.2 (fieldName_PRT_SEG_STATUS_STATE _)) (known_PRT_SEG_STATUS_STATE _).agrees (Foot.le_trans (by decide +kernel) hF) ?_
    | with_reducible refine Goes.requestRx (Foot.le_trans (by decide +kernel) hF) ?_
    | with_reducible refine Goes.upS (Foot.le_trans (by decide +kernel) hF) ?_
    | with_reducible refine Goes.each ?_ ?_
    | with_reducible refine Goes.foldl ?_ ?_
    | split
    | intro _

/-- What `State.toSBackoff` may change. -/
def fp_toSBackoff : Foot := ⟨[.halves, .sides, .engines, .tiles, .evq], some [0x220018, 0x220010, 0x200100, 0x40800F,
  0x408008, 0x40800A, 0x408000, 0x40800C, 0xE0390, 0xE0380, 0xE0388, 0xE0210, 0xE0200, 0xE021E, 0xE0208, 0xE021F,
  0xE0280, 0xE0100, 0xE0001, 0x4000418, 0x4000294, 0x4000280, 0x400029D, 0x400029E, 0x400050E, 0x400051C, 0x4000513,
  0x4000486, 0x4000480, 0x4000487, 0x4000398, 0x400038C, 0x4000392, 0x4000386, 0x4000380, 0x400039E, 0x2000104,
  0x2000100, 0x2000914, 0x2000918, 0x200090A, 0x200091C, 0x2000D05, 0x2000D06, 0x2000D10, 0x2000D00, 0x2000D1C,
  0x2000D08, 0x2000D18, 0x100097]⟩
theorem Goes.toSBackoff {s : State} {q : Nat} {reason : Nat} (hF : fp_toSBackoff.le F = true) (hgo : Goes F s0 s) :
     Goes F s0 (State.toSBackoff s q reason) := by
  unfold State.toSBackoff
  try dsimp only
  repeat' first
    | with_reducible assumption
    | with_reducible refine Goes.returnRows (Foot.le_trans (by decide +kernel) hF) ?_
    | with_reducible refine Goes.satUp (List.mem_singleton.2 (fieldName_PRT_SEG_STATUS_ATTEMPTS _)) (known_PRT_SEG_STATUS_ATTEMPTS _).agrees (Foot.le_trans (by decide +kernel) hF) ?_
    | with_reducible refine Goes.satUp (List.mem_singleton.2 (fieldName_PRT_SEG_STATUS_LAST_FAIL _)) (known_PRT_SEG_STATUS_LAST_FAIL _).agrees (Foot.le_trans (by decide +kernel) hF) ?_
    | with_reducible refine Goes.satUp (List.mem_singleton.2 (fieldName_PRT_SEG_STATUS_STATE _)) (known_PRT_SEG_STATUS_STATE _).agrees (Foot.le_trans (by decide +kernel) hF) ?_
    | with_reducible refine Goes.wr (List.mem_singleton.2 (fieldName_PRT_SEG_STATUS_ATTEMPTS _)) (known_PRT_SEG_STATUS_ATTEMPTS _).agrees (Foot.le_trans (by decide +kernel) hF) ?_
    | with_reducible refine Goes.wr (List.mem_singleton.2 (fieldName_PRT_SEG_STATUS_LAST_FAIL _)) (known_PRT_SEG_STATUS_LAST_FAIL _).agrees (Foot.le_trans (by decide +kernel) hF) ?_
    | with_reducible refine Goes.wr (List.mem_singleton.2 (fieldName_PRT_SEG_STATUS_STATE _)) (known_PRT_SEG_STATUS_STATE _).agrees (Foot.le_trans (by decide +kernel) hF) ?_
    | with_reducible refine Goes.each ?_ ?_
    | with_reducible refine Goes.showSide (Foot.le_trans (by decide +kernel) hF) ?_
    | with_reducible refine Goes.dropSegment (Foot.le_trans (by decide +kernel) hF) ?_
    | with_reducible refine Goes.releaseRx (Foot.le_trans (by decide +kernel) hF) ?_
    | with_reducible refine Goes.setTx (Foot.le_trans (by decide +kernel) hF) ?_
    | with_reducible refine Goes.foldl ?_ ?_
    | split
    | intro _

/-- What `State.toSDown` may change. -/
def fp_toSDown : Foot := ⟨[.halves, .sides, .engines, .tiles, .evq], some [0x220018, 0x220010, 0x200100, 0x40800F,
  0x408008, 0x40800A, 0x408000, 0x40800C, 0xE0390, 0xE0380, 0xE0388, 0xE0210, 0xE0200, 0xE021E, 0xE0208, 0xE021F,
  0xE0280, 0xE0100, 0xE0001, 0x4000418, 0x4000294, 0x4000280, 0x400029D, 0x400029E, 0x4000290, 0x400050E, 0x400051C,
  0x4000513, 0x4000486, 0x4000480, 0x4000487, 0x4000398, 0x400038C, 0x4000392, 0x4000386, 0x4000380, 0x400039E,
  0x2000104, 0x200010C, 0x2000100, 0x2000108, 0x200090A, 0x200091C, 0x2000D05, 0x2000D06, 0x2000D10, 0x2000D00,
  0x2000D1C, 0x2000D08, 0x2000D18, 0x100097]⟩
theorem Goes.toSDown {s : State} {q : Nat} (hF : fp_toSDown.le F = true) (hgo : Goes F s0 s) :
     Goes F s0 (State.toSDown s q) := by
  unfold State.toSDown
  try dsimp only
  repeat' first
    | with_reducible assumption
    | with_reducible refine Goes.wr (List.mem_singleton.2 (fieldName_LCH_FOM_RATE_SLOT _)) (known_LCH_FOM_RATE_SLOT _).agrees (Foot.le_trans (by decide +kernel) hF) ?_
    | with_reducible refine Goes.wr (mem_two (names_PRT_DP_STATUS_SLOT_NOW _)) (known_PRT_DP_STATUS_SLOT_NOW _).agrees (Foot.le_trans (by decide +kernel) hF) ?_
    | with_reducible refine Goes.wr (List.mem_singleton.2 (fieldName_PRT_SEG_STATUS_STATE _)) (known_PRT_SEG_STATUS_STATE _).agrees (Foot.le_trans (by decide +kernel) hF) ?_
    | with_reducible refine Goes.upS (Foot.le_trans (by decide +kernel) hF) ?_
    | with_reducible refine Goes.each ?_ ?_
    | with_reducible refine Goes.showSide (Foot.le_trans (by decide +kernel) hF) ?_
    | with_reducible refine Goes.dropSegment (Foot.le_trans (by decide +kernel) hF) ?_
    | with_reducible refine Goes.releaseRx (Foot.le_trans (by decide +kernel) hF) ?_
    | with_reducible refine Goes.setTx (Foot.le_trans (by decide +kernel) hF) ?_
    | with_reducible refine Goes.foldl ?_ ?_
    | split
    | intro _

/-- What `State.segSignals` may change. -/
def fp_segSignals : Foot := ⟨[.halves, .sides], some [0x4000418, 0x4000294, 0x4000280, 0x400029D, 0x400029E,
  0x2000104, 0x2000100, 0x200091C]⟩
theorem Goes.segSignals {s : State} {q : Nat} (hF : fp_segSignals.le F = true) (hgo : Goes F s0 s) :
     Goes F s0 (State.segSignals s q) := by
  unfold State.segSignals
  try dsimp only
  repeat' first
    | with_reducible assumption
    | with_reducible refine Goes.toSAcquire (Foot.le_trans (by decide +kernel) hF) ?_
    | with_reducible refine Goes.foldl ?_ ?_
    | split
    | intro _

/-- What `State.segLocks` may change. -/
def fp_segLocks : Foot := ⟨[.sides], some [0x200091C]⟩
theorem Goes.segLocks {s : State} {q : Nat} (hF : fp_segLocks.le F = true) (hgo : Goes F s0 s) :
     Goes F s0 (State.segLocks s q) := by
  unfold State.segLocks
  try dsimp only
  repeat' first
    | with_reducible assumption
    | with_reducible refine Goes.wr (List.mem_singleton.2 (fieldName_PRT_SEG_STATUS_STATE _)) (known_PRT_SEG_STATUS_STATE _).agrees (Foot.le_trans (by decide +kernel) hF) ?_
    | with_reducible refine Goes.upS (Foot.le_trans (by decide +kernel) hF) ?_
    | with_reducible refine Goes.foldl ?_ ?_
    | split
    | intro _

end Sys2Proof.Machine
end

