-- ==== Sys2Proof/Laws/OnTrainOps.lean ====
section
/-! SUPPORT. What each operation of `Machine/TrainOps.lean` may change: one lemma for each. -/

set_option linter.all false
set_option Elab.async false

namespace Sys2Proof.Machine

variable {F : Foot} {s0 : State}

theorem request_derived {cm1 c0 cp1 : Nat} (h : cm1 + c0 + cp1 = 63 ∧ 21 + cm1 + cp1 ≤ c0) :
    ({ cm2 := 0, cm1 := -(cm1 : Int), c0 := c0, cp1 := -(cp1 : Int), cp2 := 0 } : TxCoef).derived := by
  unfold TxCoef.derived
  dsimp only
  rw [abs_neg, abs_neg, abs_of_nonneg (Int.natCast_nonneg cm1), abs_of_nonneg (Int.natCast_nonneg cp1), abs_zero]
  omega

/-- What `State.showStd` may change. -/
def fp_showStd : Foot := ⟨[], some [0x400051C]⟩
theorem Goes.showStd {s : State} {p : Nat} (hF : fp_showStd.le F = true) (hgo : Goes F s0 s) :
     Goes F s0 (State.showStd s p) := by
  unfold State.showStd
  try dsimp only
  repeat' first
    | with_reducible assumption
    | with_reducible refine Goes.wr (List.mem_singleton.2 (fieldName_LCH_LANE_FAULT_STATUS _)) (known_LCH_LANE_FAULT_STATUS _).agrees (Foot.le_trans (by decide +kernel) hF) ?_
    | with_reducible refine Goes.each ?_ ?_
    | with_reducible refine Goes.foldl ?_ ?_
    | split
    | intro _

/-- What `State.setTrn` may change. -/
def fp_setTrn : Foot := ⟨[.halves, .ports, .engines, .tiles, .evq], some [0x220018, 0x220010, 0x200100, 0x40800F,
  0x408008, 0x40800A, 0x408000, 0x40800C, 0xE0390, 0xE0380, 0xE0388, 0xE0210, 0xE0200, 0xE021E, 0xE0208, 0xE021F,
  0xE0280, 0xE0100, 0xE0001, 0x200011F, 0x2000510, 0x2000508, 0x2000498, 0x200048B, 0x200049C, 0x100097]⟩
theorem Goes.setTrn {s : State} {p : Nat} {v : Nat} (hF : fp_setTrn.le F = true) (hgo : Goes F s0 s) :
     Goes F s0 (State.setTrn s p v) := by
  unfold State.setTrn
  try dsimp only
  repeat' first
    | with_reducible assumption
    | with_reducible refine Goes.upH (Foot.le_trans (by decide +kernel) hF) (fun _ h => h) ?_
    | with_reducible refine Goes.upH (Foot.le_trans (by decide +kernel) hF) ?_ ?_
    | with_reducible refine Goes.satUp (List.mem_singleton.2 (fieldName_PRT_DP_STATUS_FLIT _)) (known_PRT_DP_STATUS_FLIT _).agrees (Foot.le_trans (by decide +kernel) hF) ?_
    | with_reducible refine Goes.satUp (List.mem_singleton.2 (fieldName_PRT_TRN_EVENTS_DETECT_CNT _)) (known_PRT_TRN_EVENTS_DETECT_CNT _).agrees (Foot.le_trans (by decide +kernel) hF) ?_
    | with_reducible refine Goes.satUp (List.mem_singleton.2 (fieldName_PRT_TRN_EVENTS_RECOVERY_CNT _)) (known_PRT_TRN_EVENTS_RECOVERY_CNT _).agrees (Foot.le_trans (by decide +kernel) hF) ?_
    | with_reducible refine Goes.satUp (List.mem_singleton.2 (fieldName_PRT_TRN_STATUS_EQ_PHASE _)) (known_PRT_TRN_STATUS_EQ_PHASE _).agrees (Foot.le_trans (by decide +kernel) hF) ?_
    | with_reducible refine Goes.satUp (List.mem_singleton.2 (fieldName_PRT_TRN_STATUS_LP_KIND _)) (known_PRT_TRN_STATUS_LP_KIND _).agrees (Foot.le_trans (by decide +kernel) hF) ?_
    | with_reducible refine Goes.satUp (List.mem_singleton.2 (fieldName_PRT_TRN_STATUS_STATE _)) (known_PRT_TRN_STATUS_STATE _).agrees (Foot.le_trans (by decide +kernel) hF) ?_
    | with_reducible refine Goes.rxLeaves (Foot.le_trans (by decide +kernel) hF) ?_
    | with_reducible refine Goes.upP (Foot.le_trans (by decide +kernel) hF) ?_
    | with_reducible refine Goes.wr (List.mem_singleton.2 (fieldName_PRT_DP_STATUS_FLIT _)) (known_PRT_DP_STATUS_FLIT _).agrees (Foot.le_trans (by decide +kernel) hF) ?_
    | with_reducible refine Goes.wr (List.mem_singleton.2 (fieldName_PRT_TRN_EVENTS_DETECT_CNT _)) (known_PRT_TRN_EVENTS_DETECT_CNT _).agrees (Foot.le_trans (by decide +kernel) hF) ?_
    | with_reducible refine Goes.wr (List.mem_singleton.2 (fieldName_PRT_TRN_EVENTS_RECOVERY_CNT _)) (known_PRT_TRN_EVENTS_RECOVERY_CNT _).agrees (Foot.le_trans (by decide +kernel) hF) ?_
    | with_reducible refine Goes.wr (List.mem_singleton.2 (fieldName_PRT_TRN_STATUS_EQ_PHASE _)) (known_PRT_TRN_STATUS_EQ_PHASE _).agrees (Foot.le_trans (by decide +kernel) hF) ?_
    | with_reducible refine Goes.wr (List.mem_singleton.2 (fieldName_PRT_TRN_STATUS_LP_KIND _)) (known_PRT_TRN_STATUS_LP_KIND _).agrees (Foot.le_trans (by decide +kernel) hF) ?_
    | with_reducible refine Goes.wr (List.mem_singleton.2 (fieldName_PRT_TRN_STATUS_STATE _)) (known_PRT_TRN_STATUS_STATE _).agrees (Foot.le_trans (by decide +kernel) hF) ?_
    | with_reducible refine Goes.each ?_ ?_
    | with_reducible refine Goes.off (List.mem_singleton.2 (fieldName_PRT_DP_STATUS_FLIT _)) (known_PRT_DP_STATUS_FLIT _).agrees (Foot.le_trans (by decide +kernel) hF) ?_
    | with_reducible refine Goes.off (List.mem_singleton.2 (fieldName_PRT_TRN_EVENTS_DETECT_CNT _)) (known_PRT_TRN_EVENTS_DETECT_CNT _).agrees (Foot.le_trans (by decide +kernel) hF) ?_
    | with_reducible refine Goes.off (List.mem_singleton.2 (fieldName_PRT_TRN_EVENTS_RECOVERY_CNT _)) (known_PRT_TRN_EVENTS_RECOVERY_CNT _).agrees (Foot.le_trans (by decide +kernel) hF) ?_
    | with_reducible refine Goes.off (List.mem_singleton.2 (fieldName_PRT_TRN_STATUS_EQ_PHASE _)) (known_PRT_TRN_STATUS_EQ_PHASE _).agrees (Foot.le_trans (by decide +kernel) hF) ?_
    | with_reducible refine Goes.off (List.mem_singleton.2 (fieldName_PRT_TRN_STATUS_LP_KIND _)) (known_PRT_TRN_STATUS_LP_KIND _).agrees (Foot.le_trans (by decide +kernel) hF) ?_
    | with_reducible refine Goes.off (List.mem_singleton.2 (fieldName_PRT_TRN_STATUS_STATE _)) (known_PRT_TRN_STATUS_STATE _).agrees (Foot.le_trans (by decide +kernel) hF) ?_
    | with_reducible refine Goes.foldl ?_ ?_
    | exact fun _ h => h
    | exact fun _ h => by dsimp only; (repeat' split) <;> exact h
    | split
    | intro _

/-- What `State.stdIdle` may change. -/
def fp_stdIdle : Foot := ⟨[.halves], some [0x4000398, 0x400038C, 0x4000392, 0x4000386, 0x4000380, 0x400039E]⟩
theorem Goes.stdIdle {s : State} {p : Nat} (hF : fp_stdIdle.le F = true) (hgo : Goes F s0 s) :
     Goes F s0 (State.stdIdle s p) := by
  unfold State.stdIdle
  try dsimp only
  repeat' first
    | with_reducible assumption
    | with_reducible refine Goes.each ?_ ?_
    | with_reducible refine Goes.setTx (Foot.le_trans (by decide +kernel) hF) ?_
    | with_reducible refine Goes.foldl ?_ ?_
    | split
    | intro _

/-- What `State.freshSides` may change. -/
def fp_freshSides : Foot := ⟨[.halves, .sides, .ports], some [0x4000418, 0x4000413, 0x400041F, 0x4000294, 0x4000280,
  0x400029D, 0x400029E, 0x4000290, 0x400051C, 0x4000398, 0x400038C, 0x4000392, 0x4000386, 0x4000380, 0x400039E,
  0x2000104, 0x200011E, 0x200010C, 0x2000100, 0x200011D, 0x2000108, 0x200048F, 0x2000494, 0x200048E, 0x2000488,
  0x2000490, 0x2000492]⟩
theorem Goes.freshSides {s : State} {p : Nat} (hF : fp_freshSides.le F = true) (hgo : Goes F s0 s) :
     Goes F s0 (State.freshSides s p) := by
  unfold State.freshSides
  try dsimp only
  repeat' first
    | with_reducible assumption
    | with_reducible refine Goes.pathSoon (Foot.le_trans (by decide +kernel) hF) ?_
    | with_reducible refine Goes.stdIdle (Foot.le_trans (by decide +kernel) hF) ?_
    | with_reducible refine Goes.upH (Foot.le_trans (by decide +kernel) hF) (fun _ h => h) ?_
    | with_reducible refine Goes.upH (Foot.le_trans (by decide +kernel) hF) ?_ ?_
    | with_reducible refine Goes.upP (Foot.le_trans (by decide +kernel) hF) ?_
    | with_reducible refine Goes.wr (List.mem_singleton.2 (fieldName_LCH_DP_STATUS_LINK_LANE _)) (known_LCH_DP_STATUS_LINK_LANE _).agrees (Foot.le_trans (by decide +kernel) hF) ?_
    | with_reducible refine Goes.wr (List.mem_singleton.2 (fieldName_LCH_DP_STATUS_POL_INV _)) (known_LCH_DP_STATUS_POL_INV _).agrees (Foot.le_trans (by decide +kernel) hF) ?_
    | with_reducible refine Goes.wr (mem_two (names_PRT_DP_STATUS_REVERSED _)) (known_PRT_DP_STATUS_REVERSED _).agrees (Foot.le_trans (by decide +kernel) hF) ?_
    | with_reducible refine Goes.wr (mem_two (names_PRT_DP_STATUS_SLOT_NOW _)) (known_PRT_DP_STATUS_SLOT_NOW _).agrees (Foot.le_trans (by decide +kernel) hF) ?_
    | with_reducible refine Goes.wr (List.mem_singleton.2 (fieldName_PRT_TRN_STATUS_CXL _)) (known_PRT_TRN_STATUS_CXL _).agrees (Foot.le_trans (by decide +kernel) hF) ?_
    | with_reducible refine Goes.wr (List.mem_singleton.2 (fieldName_PRT_TRN_STATUS_EQ_SLOT _)) (known_PRT_TRN_STATUS_EQ_SLOT _).agrees (Foot.le_trans (by decide +kernel) hF) ?_
    | with_reducible refine Goes.wr (List.mem_singleton.2 (fieldName_PRT_TRN_STATUS_L0P _)) (known_PRT_TRN_STATUS_L0P _).agrees (Foot.le_trans (by decide +kernel) hF) ?_
    | with_reducible refine Goes.wr (List.mem_singleton.2 (fieldName_PRT_TRN_STATUS_NEG_WIDTH _)) (known_PRT_TRN_STATUS_NEG_WIDTH _).agrees (Foot.le_trans (by decide +kernel) hF) ?_
    | with_reducible refine Goes.wr (List.mem_singleton.2 (fieldName_PRT_TRN_STATUS_RETIMER_POS _)) (known_PRT_TRN_STATUS_RETIMER_POS _).agrees (Foot.le_trans (by decide +kernel) hF) ?_
    | with_reducible refine Goes.wr (List.mem_singleton.2 (fieldName_PRT_TRN_STATUS_UP_SIDE _)) (known_PRT_TRN_STATUS_UP_SIDE _).agrees (Foot.le_trans (by decide +kernel) hF) ?_
    | with_reducible refine Goes.setSlot (Foot.le_trans (by decide +kernel) hF) ?_
    | with_reducible refine Goes.each ?_ ?_
    | with_reducible refine Goes.off (List.mem_singleton.2 (fieldName_LCH_DP_STATUS_LINK_LANE _)) (known_LCH_DP_STATUS_LINK_LANE _).agrees (Foot.le_trans (by decide +kernel) hF) ?_
    | with_reducible refine Goes.off (List.mem_singleton.2 (fieldName_LCH_DP_STATUS_POL_INV _)) (known_LCH_DP_STATUS_POL_INV _).agrees (Foot.le_trans (by decide +kernel) hF) ?_
    | with_reducible refine Goes.off (mem_two (names_PRT_DP_STATUS_REVERSED _)) (known_PRT_DP_STATUS_REVERSED _).agrees (Foot.le_trans (by decide +kernel) hF) ?_
    | with_reducible refine Goes.off (mem_two (names_PRT_DP_STATUS_SLOT_NOW _)) (known_PRT_DP_STATUS_SLOT_NOW _).agrees (Foot.le_trans (by decide +kernel) hF) ?_
    | with_reducible refine Goes.off (List.mem_singleton.2 (fieldName_PRT_TRN_STATUS_CXL _)) (known_PRT_TRN_STATUS_CXL _).agrees (Foot.le_trans (by decide +kernel) hF) ?_
    | with_reducible refine Goes.off (List.mem_singleton.2 (fieldName_PRT_TRN_STATUS_EQ_SLOT _)) (known_PRT_TRN_STATUS_EQ_SLOT _).agrees (Foot.le_trans (by decide +kernel) hF) ?_
    | with_reducible refine Goes.off (List.mem_singleton.2 (fieldName_PRT_TRN_STATUS_L0P _)) (known_PRT_TRN_STATUS_L0P _).agrees (Foot.le_trans (by decide +kernel) hF) ?_
    | with_reducible refine Goes.off (List.mem_singleton.2 (fieldName_PRT_TRN_STATUS_NEG_WIDTH _)) (known_PRT_TRN_STATUS_NEG_WIDTH _).agrees (Foot.le_trans (by decide +kernel) hF) ?_
    | with_reducible refine Goes.off (List.mem_singleton.2 (fieldName_PRT_TRN_STATUS_RETIMER_POS _)) (known_PRT_TRN_STATUS_RETIMER_POS _).agrees (Foot.le_trans (by decide +kernel) hF) ?_
    | with_reducible refine Goes.off (List.mem_singleton.2 (fieldName_PRT_TRN_STATUS_UP_SIDE _)) (known_PRT_TRN_STATUS_UP_SIDE _).agrees (Foot.le_trans (by decide +kernel) hF) ?_
    | with_reducible refine Goes.showStd (Foot.le_trans (by decide +kernel) hF) ?_
    | with_reducible refine Goes.releaseRx (Foot.le_trans (by decide +kernel) hF) ?_
    | with_reducible refine Goes.foldl ?_ ?_
    | exact fun _ h => h
    | exact fun _ h => by dsimp only; (repeat' split) <;> exact h
    | split
    | intro _

/-- What `State.enterDetect` may change. -/
def fp_enterDetect : Foot := ⟨[.halves, .sides, .ports, .engines, .tiles, .evq], some [0x220018, 0x220010, 0x200100,
  0x40800F, 0x408008, 0x40800A, 0x408000, 0x40800C, 0xE0390, 0xE0380, 0xE0388, 0xE0210, 0xE0200, 0xE021E, 0xE0208,
  0xE021F, 0xE0280, 0xE0100, 0xE0001, 0x4000418, 0x4000413, 0x400041F, 0x4000294, 0x4000280, 0x400029D, 0x400029E,
  0x4000290, 0x400051C, 0x4000398, 0x400038C, 0x4000392, 0x4000386, 0x4000380, 0x400039E, 0x2000104, 0x200011E,
  0x200010C, 0x2000100, 0x200011D, 0x2000108, 0x200011F, 0x2000510, 0x2000508, 0x200048F, 0x2000498, 0x2000494,
  0x200048E, 0x200048B, 0x2000488, 0x2000490, 0x200049C, 0x2000492, 0x100097]⟩
theorem Goes.enterDetect {s : State} {p : Nat} (hF : fp_enterDetect.le F = true) (hgo : Goes F s0 s) :
     Goes F s0 (State.enterDetect s p) := by
  unfold State.enterDetect
  try dsimp only
  repeat' first
    | with_reducible assumption
    | with_reducible refine Goes.setTrn (Foot.le_trans (by decide +kernel) hF) ?_
    | with_reducible refine Goes.freshSides (Foot.le_trans (by decide +kernel) hF) ?_
    | with_reducible refine Goes.foldl ?_ ?_
    | split
    | intro _

/-- What `State.enterDown` may change. -/
def fp_enterDown : Foot := ⟨[.halves, .ports, .engines, .tiles, .evq], some [0x220018, 0x220010, 0x200100, 0x40800F,
  0x408008, 0x40800A, 0x408000, 0x40800C, 0xE0390, 0xE0380, 0xE0388, 0xE0210, 0xE0200, 0xE021E, 0xE0208, 0xE021F,
  0xE0280, 0xE0100, 0xE0001, 0x4000418, 0x4000294, 0x4000280, 0x400029D, 0x400029E, 0x4000290, 0x400051C, 0x4000398,
  0x400038C, 0x4000392, 0x4000386, 0x4000380, 0x400039E, 0x2000104, 0x200010C, 0x2000100, 0x2000108, 0x200011F,
  0x2000510, 0x2000508, 0x2000498, 0x200048B, 0x200049C, 0x100097]⟩
theorem Goes.enterDown {s : State} {p : Nat} (hF : fp_enterDown.le F = true) (hgo : Goes F s0 s) :
     Goes F s0 (State.enterDown s p) := by
  unfold State.enterDown
  try dsimp only
  repeat' first
    | with_reducible assumption
    | with_reducible refine Goes.stdIdle (Foot.le_trans (by decide +kernel) hF) ?_
    | with_reducible refine Goes.upH (Foot.le_trans (by decide +kernel) hF) (fun _ h => h) ?_
    | with_reducible refine Goes.upH (Foot.le_trans (by decide +kernel) hF) ?_ ?_
    | with_reducible refine Goes.setTrn (Foot.le_trans (by decide +kernel) hF) ?_
    | with_reducible refine Goes.wr (List.mem_singleton.2 (fieldName_LCH_FOM_RATE_SLOT _)) (known_LCH_FOM_RATE_SLOT _).agrees (Foot.le_trans (by decide +kernel) hF) ?_
    | with_reducible refine Goes.wr (mem_two (names_PRT_DP_STATUS_SLOT_NOW _)) (known_PRT_DP_STATUS_SLOT_NOW _).agrees (Foot.le_trans (by decide +kernel) hF) ?_
    | with_reducible refine Goes.each ?_ ?_
    | with_reducible refine Goes.showStd (Foot.le_trans (by decide +kernel) hF) ?_
    | with_reducible refine Goes.releaseRx (Foot.le_trans (by decide +kernel) hF) ?_
    | with_reducible refine Goes.foldl ?_ ?_
    | exact fun _ h => h
    | exact fun _ h => by dsimp only; (repeat' split) <;> exact h
    | split
    | intro _

/-- What `State.enterHold` may change. -/
def fp_enterHold : Foot := ⟨[.halves, .sides, .ports, .engines, .tiles, .evq], some [0x220018, 0x220010, 0x200100,
  0x40800F, 0x408008, 0x40800A, 0x408000, 0x40800C, 0xE0390, 0xE0380, 0xE0388, 0xE0210, 0xE0200, 0xE021E, 0xE0208,
  0xE021F, 0xE0280, 0xE0100, 0xE0001, 0x4000418, 0x4000413, 0x400041F, 0x4000294, 0x4000280, 0x400029D, 0x400029E,
  0x4000290, 0x400051C, 0x4000398, 0x400038C, 0x4000392, 0x4000386, 0x4000380, 0x400039E, 0x2000104, 0x200011E,
  0x200010C, 0x2000100, 0x200011D, 0x2000108, 0x200011F, 0x2000510, 0x2000508, 0x200048F, 0x2000498, 0x2000494,
  0x200048E, 0x200048B, 0x2000488, 0x2000490, 0x200049C, 0x2000492, 0x100097]⟩
theorem Goes.enterHold {s : State} {p : Nat} (hF : fp_enterHold.le F = true) (hgo : Goes F s0 s) :
     Goes F s0 (State.enterHold s p) := by
  unfold State.enterHold
  try dsimp only
  repeat' first
    | with_reducible assumption
    | with_reducible refine Goes.upH (Foot.le_trans (by decide +kernel) hF) (fun _ h => h) ?_
    | with_reducible refine Goes.upH (Foot.le_trans (by decide +kernel) hF) ?_ ?_
    | with_reducible refine Goes.setTrn (Foot.le_trans (by decide +kernel) hF) ?_
    | with_reducible refine Goes.each ?_ ?_
    | with_reducible refine Goes.freshSides (Foot.le_trans (by decide +kernel) hF) ?_
    | with_reducible refine Goes.foldl ?_ ?_
    | exact fun _ h => h
    | exact fun _ h => by dsimp only; (repeat' split) <;> exact h
    | split
    | intro _

/-- What `State.farStart` may change. -/
def fp_farStart : Foot := ⟨[.halves], some [0x4000398, 0x400038C, 0x4000392, 0x4000386, 0x4000380, 0x400039E]⟩
theorem Goes.farStart {s : State} {p : Nat} {m : TxMode} (hF : fp_farStart.le F = true) (hgo : Goes F s0 s) :
     Goes F s0 (State.farStart s p m) := by
  unfold State.farStart
  try dsimp only
  repeat' first
    | with_reducible assumption
    | with_reducible refine Goes.each ?_ ?_
    | with_reducible refine Goes.setTx (Foot.le_trans (by decide +kernel) hF) ?_
    | with_reducible refine Goes.foldl ?_ ?_
    | split
    | intro _

/-- What `State.enterForward` may change. -/
def fp_enterForward : Foot := ⟨[.halves, .ports, .engines, .tiles, .evq], some [0x220018, 0x220010, 0x200100,
  0x40800F, 0x408008, 0x40800A, 0x408000, 0x40800C, 0xE0390, 0xE0380, 0xE0388, 0xE0210, 0xE0200, 0xE021E, 0xE0208,
  0xE021F, 0xE0280, 0xE0100, 0xE0001, 0x4000418, 0x4000294, 0x4000280, 0x400029D, 0x400029E, 0x400051C, 0x4000398,
  0x400038C, 0x4000392, 0x4000386, 0x4000380, 0x400039E, 0x2000104, 0x2000100, 0x200011F, 0x2000510, 0x2000508,
  0x2000498, 0x200048B, 0x200049C, 0x100097]⟩
theorem Goes.enterForward {s : State} {p : Nat} {warm : Option Bool} (hF : fp_enterForward.le F = true) (hgo : Goes F s0 s) :
     Goes F s0 (State.enterForward s p warm) := by
  unfold State.enterForward
  try dsimp only
  repeat' first
    | with_reducible assumption
    | with_reducible refine Goes.setTrn (Foot.le_trans (by decide +kernel) hF) ?_
    | with_reducible refine Goes.farStart (Foot.le_trans (by decide +kernel) hF) ?_
    | with_reducible refine Goes.requestRx (Foot.le_trans (by decide +kernel) hF) ?_
    | with_reducible refine Goes.each ?_ ?_
    | with_reducible refine Goes.showStd (Foot.le_trans (by decide +kernel) hF) ?_
    | with_reducible refine Goes.foldl ?_ ?_
    | split
    | intro _

/-- What `State.startAcross` may change. -/
def fp_startAcross : Foot := ⟨[.halves, .sides], some [0x4000398, 0x400038C, 0x4000392, 0x4000386, 0x4000380,
  0x400039E]⟩
theorem Goes.startAcross {s : State} {h : Nat} (hF : fp_startAcross.le F = true) (hgo : Goes F s0 s) :
     Goes F s0 (State.startAcross s h) := by
  unfold State.startAcross
  try dsimp only
  repeat' first
    | with_reducible assumption
    | with_reducible refine Goes.pathSoon (Foot.le_trans (by decide +kernel) hF) ?_
    | with_reducible refine Goes.setTx (Foot.le_trans (by decide +kernel) hF) ?_
    | with_reducible refine Goes.foldl ?_ ?_
    | split
    | intro _

/-- What `State.forwardAcross` may change. -/
def fp_forwardAcross : Foot := ⟨[.halves], some [0x400051C, 0x4000398, 0x400038C, 0x4000392, 0x4000386, 0x4000380,
  0x400039E]⟩
theorem Goes.forwardAcross {s : State} {h : Nat} (hF : fp_forwardAcross.le F = true) (hgo : Goes F s0 s) :
     Goes F s0 (State.forwardAcross s h) := by
  unfold State.forwardAcross
  try dsimp only
  repeat' first
    | with_reducible assumption
    | with_reducible refine Goes.upH (Foot.le_trans (by decide +kernel) hF) (fun _ h => h) ?_
    | with_reducible refine Goes.upH (Foot.le_trans (by decide +kernel) hF) ?_ ?_
    | with_reducible refine Goes.showStd (Foot.le_trans (by decide +kernel) hF) ?_
    | with_reducible refine Goes.setTx (Foot.le_trans (by decide +kernel) hF) ?_
    | with_reducible refine Goes.foldl ?_ ?_
    | exact fun _ h => h
    | exact fun _ h => by dsimp only; (repeat' split) <;> exact h
    | split
    | intro _

/-- What `State.losePartner` may change. -/
def fp_losePartner : Foot := ⟨[.halves, .sides, .ports, .engines, .tiles, .evq], some [0x220018, 0x220010, 0x200100,
  0x40800F, 0x408008, 0x40800A, 0x408000, 0x40800C, 0xE0390, 0xE0380, 0xE0388, 0xE0210, 0xE0200, 0xE021E, 0xE0208,
  0xE021F, 0xE0280, 0xE0100, 0xE0001, 0x4000418, 0x4000413, 0x400041F, 0x4000294, 0x4000280, 0x400029D, 0x400029E,
  0x4000290, 0x400051C, 0x4000398, 0x400038C, 0x4000392, 0x4000386, 0x4000380, 0x400039E, 0x2000104, 0x200011E,
  0x200010C, 0x2000100, 0x200011D, 0x2000108, 0x200011F, 0x2000510, 0x200051F, 0x200051E, 0x2000508, 0x200048F,
  0x2000498, 0x2000494, 0x200048E, 0x200048B, 0x2000488, 0x2000490, 0x200049C, 0x2000492, 0x100097]⟩
theorem Goes.losePartner {s : State} {q : Nat} (hF : fp_losePartner.le F = true) (hgo : Goes F s0 s) :
     Goes F s0 (State.losePartner s q) := by
  unfold State.losePartner
  try dsimp only
  repeat' first
    | with_reducible assumption
    | with_reducible refine Goes.enterDetect (Foot.le_trans (by decide +kernel) hF) ?_
    | with_reducible refine Goes.on (mem_two (names_PRT_TRN_EVENTS_PARTNER_LOST _)) (known_PRT_TRN_EVENTS_PARTNER_LOST _).agrees (Foot.le_trans (by decide +kernel) hF) ?_
    | with_reducible refine Goes.raise (Foot.le_trans (by decide +kernel) hF) ?_
    | with_reducible refine Goes.foldl ?_ ?_
    | split
    | intro _

/-- What `State.segGone` may change. -/
def fp_segGone : Foot := ⟨[.halves, .sides, .ports, .engines, .tiles, .evq], some [0x220018, 0x220010, 0x200100,
  0x40800F, 0x408008, 0x40800A, 0x408000, 0x40800C, 0xE0390, 0xE0380, 0xE0388, 0xE0210, 0xE0200, 0xE021E, 0xE0208,
  0xE021F, 0xE0280, 0xE0100, 0xE0001, 0x4000418, 0x4000413, 0x400041F, 0x4000294, 0x4000280, 0x400029D, 0x400029E,
  0x4000290, 0x400051C, 0x4000398, 0x400038C, 0x4000392, 0x4000386, 0x4000380, 0x400039E, 0x2000104, 0x200011E,
  0x200010C, 0x2000100, 0x200011D, 0x2000108, 0x200011F, 0x2000510, 0x2000508, 0x200048F, 0x2000498, 0x2000494,
  0x200048E, 0x200048B, 0x2000488, 0x2000490, 0x200049C, 0x2000492, 0x100097]⟩
theorem Goes.segGone {s : State} {p : Nat} (hF : fp_segGone.le F = true) (hgo : Goes F s0 s) :
     Goes F s0 (State.segGone s p) := by
  unfold State.segGone
  try dsimp only
  repeat' first
    | with_reducible assumption
    | with_reducible refine Goes.upH (Foot.le_trans (by decide +kernel) hF) (fun _ h => h) ?_
    | with_reducible refine Goes.upH (Foot.le_trans (by decide +kernel) hF) ?_ ?_
    | with_reducible refine Goes.enterDetect (Foot.le_trans (by decide +kernel) hF) ?_
    | with_reducible refine Goes.upP (Foot.le_trans (by decide +kernel) hF) ?_
    | with_reducible refine Goes.each ?_ ?_
    | with_reducible refine Goes.foldl ?_ ?_
    | exact fun _ h => h
    | exact fun _ h => by dsimp only; (repeat' split) <;> exact h
    | split
    | intro _

/-- What `State.segLost` may change. -/
def fp_segLost : Foot := ⟨[.halves, .sides, .ports, .engines, .tiles, .evq], some [0x220018, 0x220010, 0x200100,
  0x40800F, 0x408008, 0x40800A, 0x408000, 0x40800C, 0xE0390, 0xE0380, 0xE0388, 0xE0210, 0xE0200, 0xE021E, 0xE0208,
  0xE021F, 0xE0280, 0xE0100, 0xE0001, 0x4000418, 0x4000413, 0x400041F, 0x4000294, 0x4000280, 0x400029D, 0x400029E,
  0x4000290, 0x400051C, 0x4000398, 0x400038C, 0x4000392, 0x4000386, 0x4000380, 0x400039E, 0x2000104, 0x200011E,
  0x200010C, 0x2000100, 0x200011D, 0x2000108, 0x200011F, 0x2000510, 0x2000508, 0x200048F, 0x2000498, 0x2000494,
  0x200048E, 0x200048B, 0x2000488, 0x2000490, 0x200049C, 0x2000492, 0x100097]⟩
theorem Goes.segLost {s : State} {q : Nat} (hF : fp_segLost.le F = true) (hgo : Goes F s0 s) :
     Goes F s0 (State.segLost s q) := by
  unfold State.segLost
  try dsimp only
  repeat' first
    | with_reducible assumption
    | with_reducible refine Goes.segGone (Foot.le_trans (by decide +kernel) hF) ?_
    | with_reducible refine Goes.pathAbsent (Foot.le_trans (by decide +kernel) hF) ?_
    | with_reducible refine Goes.foldl ?_ ?_
    | split
    | intro _

/-- What `State.faultSide` may change. -/
def fp_faultSide : Foot := ⟨[.halves, .sides, .ports, .engines, .tiles, .evq], some [0x220018, 0x220010, 0x200100,
  0x40800F, 0x408008, 0x40800A, 0x408000, 0x40800C, 0xE0390, 0xE0380, 0xE0388, 0xE0210, 0xE0200, 0xE021E, 0xE0208,
  0xE021F, 0xE0280, 0xE0100, 0xE0001, 0x4000418, 0x4000413, 0x400041F, 0x4000294, 0x4000280, 0x400029D, 0x400029E,
  0x4000290, 0x400050E, 0x400051C, 0x4000513, 0x4000486, 0x4000480, 0x4000487, 0x4000398, 0x400038C, 0x4000392,
  0x4000386, 0x4000380, 0x400039E, 0x2000104, 0x200011E, 0x200010C, 0x2000100, 0x200011D, 0x2000108, 0x200011F,
  0x200090A, 0x200091C, 0x2000D05, 0x2000D03, 0x2000D06, 0x2000D10, 0x2000D00, 0x2000D1C, 0x2000D08, 0x2000D18,
  0x2000510, 0x2000508, 0x200048F, 0x2000498, 0x2000494, 0x200048E, 0x200048B, 0x2000488, 0x2000490, 0x200049C,
  0x2000492, 0x100097]⟩
theorem Goes.faultSide {s : State} {q : Nat} {cause : Nat} (hF : fp_faultSide.le F = true) (hgo : Goes F s0 s) :
     Goes F s0 (State.faultSide s q cause) := by
  unfold State.faultSide
  try dsimp only
  repeat' first
    | with_reducible assumption
    | with_reducible refine Goes.on (List.mem_singleton.2 (fieldName_PRT_TRL_STATUS_PORT_FAULT _)) (known_PRT_TRL_STATUS_PORT_FAULT _).agrees (Foot.le_trans (by decide +kernel) hF) ?_
    | with_reducible refine Goes.raise (Foot.le_trans (by decide +kernel) hF) ?_
    | with_reducible refine Goes.segLost (Foot.le_trans (by decide +kernel) hF) ?_
    | with_reducible refine Goes.toSDetect (Foot.le_trans (by decide +kernel) hF) ?_
    | with_reducible refine Goes.foldl ?_ ?_
    | split
    | intro _

/-- What `State.retrainStd` may change. -/
def fp_retrainStd : Foot := ⟨[.halves, .sides, .ports, .engines, .tiles, .evq], some [0x220018, 0x220010, 0x200100,
  0x40800F, 0x408008, 0x40800A, 0x408000, 0x40800C, 0xE0390, 0xE0380, 0xE0388, 0xE0210, 0xE0200, 0xE021E, 0xE0208,
  0xE021F, 0xE0280, 0xE0100, 0xE0001, 0x4000418, 0x4000413, 0x400041F, 0x4000294, 0x4000280, 0x400029D, 0x400029E,
  0x4000290, 0x400051C, 0x4000398, 0x400038C, 0x4000392, 0x4000386, 0x4000380, 0x400039E, 0x2000104, 0x200011E,
  0x200010C, 0x2000100, 0x200011D, 0x2000108, 0x200011F, 0x2000510, 0x2000508, 0x200048F, 0x2000498, 0x2000494,
  0x200048E, 0x200048B, 0x2000488, 0x2000490, 0x200049C, 0x2000492, 0x100097]⟩
theorem Goes.retrainStd {s : State} {p : Nat} (hF : fp_retrainStd.le F = true) (hgo : Goes F s0 s) :
     Goes F s0 (State.retrainStd s p) := by
  unfold State.retrainStd
  try dsimp only
  repeat' first
    | with_reducible assumption
    | with_reducible refine Goes.noted (Foot.le_trans (by decide +kernel) hF) ?_
    | with_reducible refine Goes.enterDetect (Foot.le_trans (by decide +kernel) hF) ?_
    | with_reducible refine Goes.foldl ?_ ?_
    | split
    | intro _

/-- What `State.retrainSeg` may change. -/
def fp_retrainSeg : Foot := ⟨[.halves, .sides, .ports, .engines, .tiles, .evq], some [0x220018, 0x220010, 0x200100,
  0x40800F, 0x408008, 0x40800A, 0x408000, 0x40800C, 0xE0390, 0xE0380, 0xE0388, 0xE0210, 0xE0200, 0xE021E, 0xE0208,
  0xE021F, 0xE0280, 0xE0100, 0xE0001, 0x4000418, 0x4000413, 0x400041F, 0x4000294, 0x4000280, 0x400029D, 0x400029E,
  0x4000290, 0x400050E, 0x400051C, 0x4000513, 0x4000486, 0x4000480, 0x4000487, 0x4000398, 0x400038C, 0x4000392,
  0x4000386, 0x4000380, 0x400039E, 0x2000104, 0x200011E, 0x200010C, 0x2000100, 0x200011D, 0x2000108, 0x200011F,
  0x2000914, 0x200090A, 0x200091C, 0x2000D05, 0x2000D06, 0x2000D10, 0x2000D00, 0x2000D1C, 0x2000D08, 0x2000D18,
  0x2000510, 0x2000508, 0x200048F, 0x2000498, 0x2000494, 0x200048E, 0x200048B, 0x2000488, 0x2000490, 0x200049C,
  0x2000492, 0x100097]⟩
theorem Goes.retrainSeg {s : State} {q : Nat} (hF : fp_retrainSeg.le F = true) (hgo : Goes F s0 s) :
     Goes F s0 (State.retrainSeg s q) := by
  unfold State.retrainSeg
  try dsimp only
  repeat' first
    | with_reducible assumption
    | with_reducible refine Goes.noted (Foot.le_trans (by decide +kernel) hF) ?_
    | with_reducible refine Goes.wr (List.mem_singleton.2 (fieldName_PRT_SEG_STATUS_ATTEMPTS _)) (known_PRT_SEG_STATUS_ATTEMPTS _).agrees (Foot.le_trans (by decide +kernel) hF) ?_
    | with_reducible refine Goes.segLost (Foot.le_trans (by decide +kernel) hF) ?_
    | with_reducible refine Goes.toSDetect (Foot.le_trans (by decide +kernel) hF) ?_
    | with_reducible refine Goes.foldl ?_ ?_
    | split
    | intro _

/-- What `State.refuseNonflit` may change. -/
def fp_refuseNonflit : Foot := ⟨[.halves, .sides, .ports, .engines, .tiles, .evq], some [0x220018, 0x220010, 0x200100,
  0x40800F, 0x408008, 0x40800A, 0x408000, 0x40800C, 0xE0390, 0xE0380, 0xE0388, 0xE0210, 0xE0200, 0xE021E, 0xE0208,
  0xE021F, 0xE0280, 0xE0100, 0xE0001, 0x4000418, 0x4000413, 0x400041F, 0x4000294, 0x4000280, 0x400029D, 0x400029E,
  0x4000290, 0x400051C, 0x4000398, 0x400038C, 0x4000392, 0x4000386, 0x4000380, 0x400039E, 0x2000104, 0x200011E,
  0x200010C, 0x2000100, 0x200011D, 0x2000108, 0x200011F, 0x2000510, 0x200051C, 0x2000508, 0x200048F, 0x2000498,
  0x2000494, 0x200048E, 0x200048B, 0x2000488, 0x2000484, 0x2000490, 0x200049C, 0x2000492, 0x100097]⟩
theorem Goes.refuseNonflit {s : State} {q : Nat} (hF : fp_refuseNonflit.le F = true) (hgo : Goes F s0 s) :
     Goes F s0 (State.refuseNonflit s q) := by
  unfold State.refuseNonflit
  try dsimp only
  repeat' first
    | with_reducible assumption
    | with_reducible refine Goes.enterDetect (Foot.le_trans (by decide +kernel) hF) ?_
    | with_reducible refine Goes.enterHold (Foot.le_trans (by decide +kernel) hF) ?_
    | with_reducible refine Goes.on (List.mem_singleton.2 (fieldName_PRT_TRN_EVENTS_NONFLIT_REFUSED _)) (known_PRT_TRN_EVENTS_NONFLIT_REFUSED _).agrees (Foot.le_trans (by decide +kernel) hF) ?_
    | with_reducible refine Goes.on (List.mem_singleton.2 (fieldName_PRT_TRN_STATUS_NONFLIT_COUNT _)) (known_PRT_TRN_STATUS_NONFLIT_COUNT _).agrees (Foot.le_trans (by decide +kernel) hF) ?_
    | with_reducible refine Goes.upP (Foot.le_trans (by decide +kernel) hF) ?_
    | with_reducible refine Goes.wr (List.mem_singleton.2 (fieldName_PRT_TRN_EVENTS_NONFLIT_REFUSED _)) (known_PRT_TRN_EVENTS_NONFLIT_REFUSED _).agrees (Foot.le_trans (by decide +kernel) hF) ?_
    | with_reducible refine Goes.wr (List.mem_singleton.2 (fieldName_PRT_TRN_STATUS_NONFLIT_COUNT _)) (known_PRT_TRN_STATUS_NONFLIT_COUNT _).agrees (Foot.le_trans (by decide +kernel) hF) ?_
    | with_reducible refine Goes.raise (Foot.le_trans (by decide +kernel) hF) ?_
    | with_reducible refine Goes.foldl ?_ ?_
    | split
    | intro _

/-- What `State.evalNext` may change. -/
def fp_evalNext : Foot := ⟨[.halves, .outbox], some [0x2000519]⟩
theorem Goes.evalNext {s : State} {h : Nat} {ev : Eval} (hF : fp_evalNext.le F = true) (hgo : Goes F s0 s) :
     Goes F s0 (State.evalNext s h ev) := by
  unfold State.evalNext
  try dsimp only
  repeat' first
    | with_reducible assumption
    | with_reducible refine Goes.upH (Foot.le_trans (by decide +kernel) hF) (fun _ h => h) ?_
    | with_reducible refine Goes.upH (Foot.le_trans (by decide +kernel) hF) ?_ ?_
    | with_reducible refine Goes.on (List.mem_singleton.2 (fieldName_PRT_TRN_EVENTS_EQ_BELOW_TARGET _)) (known_PRT_TRN_EVENTS_EQ_BELOW_TARGET _).agrees (Foot.le_trans (by decide +kernel) hF) ?_
    | with_reducible refine Goes.emit (Foot.le_trans (by decide +kernel) hF) ?_
    | with_reducible refine Goes.foldl ?_ ?_
    | exact fun _ h => h
    | exact fun _ h => by dsimp only; (repeat' split) <;> exact h
    | split
    | intro _

/-- What `State.evalWindow` may change. -/
def fp_evalWindow : Foot := ⟨[.halves, .outbox], some [0x2000519]⟩
theorem Goes.evalWindow {s : State} {h : Nat} {fom : Nat} (hF : fp_evalWindow.le F = true) (hgo : Goes F s0 s) :
     Goes F s0 (State.evalWindow s h fom) := by
  unfold State.evalWindow
  try dsimp only
  repeat' first
    | with_reducible assumption
    | with_reducible refine Goes.upH (Foot.le_trans (by decide +kernel) hF) (fun _ h => h) ?_
    | with_reducible refine Goes.upH (Foot.le_trans (by decide +kernel) hF) ?_ ?_
    | with_reducible refine Goes.evalNext (Foot.le_trans (by decide +kernel) hF) ?_
    | with_reducible refine Goes.foldl ?_ ?_
    | exact fun _ h => h
    | exact fun _ h => by dsimp only; (repeat' split) <;> exact h
    | split
    | intro _

/-- What `State.evalBegin` may change. -/
def fp_evalBegin : Foot := ⟨[.halves, .outbox], some [0x2000519]⟩
theorem Goes.evalBegin {s : State} {h : Nat} (hF : fp_evalBegin.le F = true) (hgo : Goes F s0 s) :
     Goes F s0 (State.evalBegin s h) := by
  unfold State.evalBegin
  try dsimp only
  repeat' first
    | with_reducible assumption
    | with_reducible refine Goes.upH (Foot.le_trans (by decide +kernel) hF) (fun _ h => h) ?_
    | with_reducible refine Goes.upH (Foot.le_trans (by decide +kernel) hF) ?_ ?_
    | with_reducible refine Goes.evalNext (Foot.le_trans (by decide +kernel) hF) ?_
    | with_reducible refine Goes.foldl ?_ ?_
    | exact fun _ h => h
    | exact fun _ h => by dsimp only; (repeat' split) <;> exact h
    | split
    | intro _

/-- What `State.phase0` may change. -/
def fp_phase0 : Foot := ⟨[.halves], some [0x4000398, 0x400038C, 0x4000392, 0x4000386, 0x4000380, 0x400039E]⟩
theorem Goes.phase0 {s : State} {h : Nat} (hF : fp_phase0.le F = true) (hgo : Goes F s0 s) :
     Goes F s0 (State.phase0 s h) := by
  unfold State.phase0
  try dsimp only
  repeat' first
    | with_reducible assumption
    | with_reducible refine Goes.upH (Foot.le_trans (by decide +kernel) hF) (fun _ h => h) ?_
    | with_reducible refine Goes.upH (Foot.le_trans (by decide +kernel) hF) ?_ ?_
    | with_reducible refine Goes.linkPreset (Foot.le_trans (by decide +kernel) hF) ?_
    | with_reducible refine Goes.loadEntry (Foot.le_trans (by decide +kernel) hF) ?_
    | with_reducible refine Goes.foldl ?_ ?_
    | exact fun _ h => h
    | exact fun _ h => by dsimp only; (repeat' split) <;> exact h
    | split
    | intro _

/-- What `State.eqBegin` may change. -/
def fp_eqBegin : Foot := ⟨[.halves, .ports, .engines, .tiles, .evq, .outbox], some [0x220018, 0x220010, 0x200100,
  0x40800F, 0x408008, 0x40800A, 0x408000, 0x40800C, 0xE0390, 0xE0380, 0xE0388, 0xE0210, 0xE0200, 0xE021E, 0xE0208,
  0xE021F, 0xE0280, 0xE0100, 0xE0001, 0x4000398, 0x400038C, 0x4000392, 0x4000386, 0x4000380, 0x400039E, 0x200011F,
  0x2000510, 0x2000519, 0x2000508, 0x2000498, 0x2000494, 0x200048B, 0x200049C, 0x100097]⟩
theorem Goes.eqBegin {s : State} {p : Nat} {ph : Nat} (hF : fp_eqBegin.le F = true) (hgo : Goes F s0 s) :
     Goes F s0 (State.eqBegin s p ph) := by
  unfold State.eqBegin
  try dsimp only
  repeat' first
    | with_reducible assumption
    | with_reducible refine Goes.evalBegin (Foot.le_trans (by decide +kernel) hF) ?_
    | with_reducible refine Goes.upH (Foot.le_trans (by decide +kernel) hF) (fun _ h => h) ?_
    | with_reducible refine Goes.upH (Foot.le_trans (by decide +kernel) hF) ?_ ?_
    | with_reducible refine Goes.setTrn (Foot.le_trans (by decide +kernel) hF) ?_
    | with_reducible refine Goes.wr (List.mem_singleton.2 (fieldName_PRT_TRN_STATUS_EQ_PHASE _)) (known_PRT_TRN_STATUS_EQ_PHASE _).agrees (Foot.le_trans (by decide +kernel) hF) ?_
    | with_reducible refine Goes.wr (List.mem_singleton.2 (fieldName_PRT_TRN_STATUS_EQ_SLOT _)) (known_PRT_TRN_STATUS_EQ_SLOT _).agrees (Foot.le_trans (by decide +kernel) hF) ?_
    | with_reducible refine Goes.phase0 (Foot.le_trans (by decide +kernel) hF) ?_
    | with_reducible refine Goes.each ?_ ?_
    | with_reducible refine Goes.foldl ?_ ?_
    | exact fun _ h => h
    | exact fun _ h => by dsimp only; (repeat' split) <;> exact h
    | split
    | intro _

/-- What `State.eqEnd` may change. -/
def fp_eqEnd : Foot := ⟨[.halves, .ports, .engines, .tiles, .evq], some [0x220018, 0x220010, 0x200100, 0x40800F,
  0x408008, 0x40800A, 0x408000, 0x40800C, 0xE0390, 0xE0380, 0xE0388, 0xE0210, 0xE0200, 0xE021E, 0xE0208, 0xE021F,
  0xE0280, 0xE0100, 0xE0001, 0x200011F, 0x2000510, 0x2000508, 0x2000498, 0x200048B, 0x200049C, 0x100097]⟩
theorem Goes.eqEnd {s : State} {p : Nat} (hF : fp_eqEnd.le F = true) (hgo : Goes F s0 s) :
     Goes F s0 (State.eqEnd s p) := by
  unfold State.eqEnd
  try dsimp only
  repeat' first
    | with_reducible assumption
    | with_reducible refine Goes.upH (Foot.le_trans (by decide +kernel) hF) (fun _ h => h) ?_
    | with_reducible refine Goes.upH (Foot.le_trans (by decide +kernel) hF) ?_ ?_
    | with_reducible refine Goes.setTrn (Foot.le_trans (by decide +kernel) hF) ?_
    | with_reducible refine Goes.each ?_ ?_
    | with_reducible refine Goes.foldl ?_ ?_
    | exact fun _ h => h
    | exact fun _ h => by dsimp only; (repeat' split) <;> exact h
    | split
    | intro _

/-- What `State.eqRequest` may change. -/
def fp_eqRequest : Foot := ⟨[.halves], some [0x4000398, 0x400038C, 0x4000392, 0x4000386, 0x4000380, 0x400039E,
  0x200051A]⟩
theorem Goes.eqRequest {s : State} {p : Nat} {h : Nat} {r : EqRequest} (hF : fp_eqRequest.le F = true) (hgo : Goes F s0 s) :
     Goes F s0 (State.eqRequest s p h r) := by
  unfold State.eqRequest
  try dsimp only
  repeat' first
    | with_reducible assumption
    | exact request_derived (by assumption)
    | with_reducible refine Goes.upH (Foot.le_trans (by decide +kernel) hF) (fun _ h => h) ?_
    | with_reducible refine Goes.upH (Foot.le_trans (by decide +kernel) hF) ?_ ?_
    | with_reducible refine Goes.on (List.mem_singleton.2 (fieldName_PRT_TRN_EVENTS_EQ_REQ_REJECTED _)) (known_PRT_TRN_EVENTS_EQ_REQ_REJECTED _).agrees (Foot.le_trans (by decide +kernel) hF) ?_
    | with_reducible refine Goes.linkPreset (Foot.le_trans (by decide +kernel) hF) ?_
    | with_reducible refine Goes.linkTx (Foot.le_trans (by decide +kernel) hF) ?_ ?_
    | with_reducible refine Goes.foldl ?_ ?_
    | exact fun _ h => h
    | exact fun _ h => by dsimp only; (repeat' split) <;> exact h
    | split
    | intro _

/-- What `State.answerMargin` may change. -/
def fp_answerMargin : Foot := ⟨[.sides, .ports, .outbox], some []⟩
theorem Goes.answerMargin {s : State} {h : Nat} {far : Option (Nat × RxName)} {value : Nat} (hF : fp_answerMargin.le F = true) (hgo : Goes F s0 s) :
     Goes F s0 (State.answerMargin s h far value) := by
  unfold State.answerMargin
  try dsimp only
  repeat' first
    | with_reducible assumption
    | with_reducible refine Goes.pathSoon (Foot.le_trans (by decide +kernel) hF) ?_
    | with_reducible refine Goes.upP (Foot.le_trans (by decide +kernel) hF) ?_
    | with_reducible refine Goes.emit (Foot.le_trans (by decide +kernel) hF) ?_
    | with_reducible refine Goes.foldl ?_ ?_
    | split
    | intro _

/-- What `State.serveMargin` may change. -/
def fp_serveMargin : Foot := ⟨[.halves, .sides, .ports, .outbox, .freeCtr], some []⟩
theorem Goes.serveMargin {s : State} {h : Nat} {m : Margin} (hF : fp_serveMargin.le F = true) (hgo : Goes F s0 s) :
     Goes F s0 (State.serveMargin s h m) := by
  unfold State.serveMargin
  try dsimp only
  repeat' first
    | with_reducible assumption
    | with_reducible refine Goes.upH (Foot.le_trans (by decide +kernel) hF) (fun _ h => h) ?_
    | with_reducible refine Goes.upH (Foot.le_trans (by decide +kernel) hF) ?_ ?_
    | with_reducible refine Goes.answerMargin (Foot.le_trans (by decide +kernel) hF) ?_
    | with_reducible refine Goes.takeFree (Foot.le_trans (by decide +kernel) hF) ?_
    | with_reducible refine Goes.foldl ?_ ?_
    | exact fun _ h => h
    | exact fun _ h => by dsimp only; (repeat' split) <;> exact h
    | split
    | intro _

/-- What `State.marginDo` may change. -/
def fp_marginDo : Foot := ⟨[.halves, .sides, .ports, .engines, .outbox, .freeCtr], some [0x40800F, 0x408008, 0x40800A,
  0x408000, 0x40800C]⟩
theorem Goes.marginDo {s : State} {h : Nat} {far : Option (Nat × RxName)} {cmd : MarginCmd} (hF : fp_marginDo.le F = true) (hgo : Goes F s0 s) :
     Goes F s0 (State.marginDo s h far cmd) := by
  unfold State.marginDo
  try dsimp only
  repeat' first
    | with_reducible assumption
    | with_reducible refine Goes.upH (Foot.le_trans (by decide +kernel) hF) (fun _ h => h) ?_
    | with_reducible refine Goes.upH (Foot.le_trans (by decide +kernel) hF) ?_ ?_
    | with_reducible refine Goes.serveMargin (Foot.le_trans (by decide +kernel) hF) ?_
    | with_reducible refine Goes.stopJob (Foot.le_trans (by decide +kernel) hF) ?_
    | with_reducible refine Goes.answerMargin (Foot.le_trans (by decide +kernel) hF) ?_
    | with_reducible refine Goes.foldl ?_ ?_
    | exact fun _ h => h
    | exact fun _ h => by dsimp only; (repeat' split) <;> exact h
    | split
    | intro _

end Sys2Proof.Machine
end

