-- ==== Sys2Proof/Laws/OnTrellisOps.lean ====
section
/-! SUPPORT. What each operation of `Machine/TrellisOps.lean` may change: one lemma for each. -/

set_option linter.all false
set_option Elab.async false

namespace Sys2Proof.Machine

variable {F : Foot} {s0 : State}

/-- What `State.steerSend` may change. -/
def fp_steerSend : Foot := ⟨[.sides], some []⟩
theorem Goes.steerSend {s : State} {q : Nat} {kind : Nat} {pr : Proposal} (hF : fp_steerSend.le F = true) (hgo : Goes F s0 s) :
     Goes F s0 (State.steerSend s q kind pr) := by
  unfold State.steerSend
  try dsimp only
  repeat' first
    | with_reducible assumption
    | with_reducible refine Goes.upS (Foot.le_trans (by decide +kernel) hF) ?_
    | with_reducible refine Goes.foldl ?_ ?_
    | split
    | intro _

/-- What `State.steerStop` may change. -/
def fp_steerStop : Foot := ⟨[.sides], some []⟩
theorem Goes.steerStop {s : State} {q : Nat} (hF : fp_steerStop.le F = true) (hgo : Goes F s0 s) :
     Goes F s0 (State.steerStop s q) := by
  unfold State.steerStop
  try dsimp only
  repeat' first
    | with_reducible assumption
    | with_reducible refine Goes.upS (Foot.le_trans (by decide +kernel) hF) ?_
    | with_reducible refine Goes.foldl ?_ ?_
    | split
    | intro _

/-- What `State.answer` may change. -/
def fp_answer : Foot := ⟨[.sides], some []⟩
theorem Goes.answer {s : State} {q : Nat} {kind : Nat} {reason : Nat} {m : List Byte} (hF : fp_answer.le F = true) (hgo : Goes F s0 s) :
     Goes F s0 (State.answer s q kind reason m) := by
  unfold State.answer
  try dsimp only
  repeat' first
    | with_reducible assumption
    | with_reducible refine Goes.upS (Foot.le_trans (by decide +kernel) hF) ?_
    | with_reducible refine Goes.foldl ?_ ?_
    | split
    | intro _

/-- What `State.toWatch` may change. -/
def fp_toWatch : Foot := ⟨[.halves, .sides], some [0x2000D1C]⟩
theorem Goes.toWatch {s : State} {q : Nat} (hF : fp_toWatch.le F = true) (hgo : Goes F s0 s) :
     Goes F s0 (State.toWatch s q) := by
  unfold State.toWatch
  try dsimp only
  repeat' first
    | with_reducible assumption
    | with_reducible refine Goes.upH (Foot.le_trans (by decide +kernel) hF) (fun _ h => h) ?_
    | with_reducible refine Goes.upH (Foot.le_trans (by decide +kernel) hF) ?_ ?_
    | with_reducible refine Goes.wr (List.mem_singleton.2 (fieldName_PRT_TRL_STATUS_STEER_STATE _)) (known_PRT_TRL_STATUS_STEER_STATE _).agrees (Foot.le_trans (by decide +kernel) hF) ?_
    | with_reducible refine Goes.upS (Foot.le_trans (by decide +kernel) hF) ?_
    | with_reducible refine Goes.each ?_ ?_
    | with_reducible refine Goes.steerStop (Foot.le_trans (by decide +kernel) hF) ?_
    | with_reducible refine Goes.foldl ?_ ?_
    | exact fun _ h => h
    | exact fun _ h => by dsimp only; (repeat' split) <;> exact h
    | split
    | intro _

/-- What `State.requeue` may change. -/
def fp_requeue : Foot := ⟨[.halves, .sides, .ports, .engines, .tiles, .evq], some [0x220018, 0x220010, 0x200100,
  0x40800F, 0x408008, 0x40800A, 0x408000, 0x40800C, 0xE0390, 0xE0380, 0xE0388, 0xE0210, 0xE0200, 0xE021E, 0xE0208,
  0xE021F, 0xE0280, 0xE0100, 0xE0001, 0x4000418, 0x4000413, 0x400041F, 0x4000294, 0x4000280, 0x400029D, 0x400029E,
  0x4000290, 0x400050E, 0x400051C, 0x4000513, 0x4000486, 0x4000480, 0x4000487, 0x4000398, 0x400038C, 0x4000392,
  0x4000386, 0x4000380, 0x400039E, 0x2000104, 0x200011E, 0x200010C, 0x2000100, 0x200011D, 0x2000108, 0x200011F,
  0x200090A, 0x200091C, 0x2000D05, 0x2000D03, 0x2000D06, 0x2000D10, 0x2000D00, 0x2000D1C, 0x2000D08, 0x2000D18,
  0x2000510, 0x2000508, 0x200048F, 0x2000498, 0x2000494, 0x200048E, 0x200048B, 0x2000488, 0x2000490, 0x200049C,
  0x2000492, 0x100097]⟩
theorem Goes.requeue {s : State} {q : Nat} {it : Item} (hF : fp_requeue.le F = true) (hgo : Goes F s0 s) :
     Goes F s0 (State.requeue s q it) := by
  unfold State.requeue
  try dsimp only
  repeat' first
    | with_reducible assumption
    | with_reducible refine Goes.faultSide (Foot.le_trans (by decide +kernel) hF) ?_
    | with_reducible refine Goes.upS (Foot.le_trans (by decide +kernel) hF) ?_
    | with_reducible refine Goes.foldl ?_ ?_
    | split
    | intro _

/-- What `State.toCancelling` may change. -/
def fp_toCancelling : Foot := ⟨[.sides], some [0x2000E08, 0x2000D1C]⟩
theorem Goes.toCancelling {s : State} {q : Nat} (hF : fp_toCancelling.le F = true) (hgo : Goes F s0 s) :
     Goes F s0 (State.toCancelling s q) := by
  unfold State.toCancelling
  try dsimp only
  repeat' first
    | with_reducible assumption
    | with_reducible refine Goes.satUp (List.mem_singleton.2 (fieldName_PRT_TRL_CNT_CANCEL_CNT _)) (known_PRT_TRL_CNT_CANCEL_CNT _).agrees (Foot.le_trans (by decide +kernel) hF) ?_
    | with_reducible refine Goes.satUp (List.mem_singleton.2 (fieldName_PRT_TRL_STATUS_STEER_STATE _)) (known_PRT_TRL_STATUS_STEER_STATE _).agrees (Foot.le_trans (by decide +kernel) hF) ?_
    | with_reducible refine Goes.wr (List.mem_singleton.2 (fieldName_PRT_TRL_CNT_CANCEL_CNT _)) (known_PRT_TRL_CNT_CANCEL_CNT _).agrees (Foot.le_trans (by decide +kernel) hF) ?_
    | with_reducible refine Goes.wr (List.mem_singleton.2 (fieldName_PRT_TRL_STATUS_STEER_STATE _)) (known_PRT_TRL_STATUS_STEER_STATE _).agrees (Foot.le_trans (by decide +kernel) hF) ?_
    | with_reducible refine Goes.steerSend (Foot.le_trans (by decide +kernel) hF) ?_
    | with_reducible refine Goes.foldl ?_ ?_
    | split
    | intro _

/-- What `State.toCommitting` may change. -/
def fp_toCommitting : Foot := ⟨[.halves, .sides], some [0x2000D1C]⟩
theorem Goes.toCommitting {s : State} {q : Nat} (hF : fp_toCommitting.le F = true) (hgo : Goes F s0 s) :
     Goes F s0 (State.toCommitting s q) := by
  unfold State.toCommitting
  try dsimp only
  repeat' first
    | with_reducible assumption
    | with_reducible refine Goes.upH (Foot.le_trans (by decide +kernel) hF) (fun _ h => h) ?_
    | with_reducible refine Goes.upH (Foot.le_trans (by decide +kernel) hF) ?_ ?_
    | with_reducible refine Goes.wr (List.mem_singleton.2 (fieldName_PRT_TRL_STATUS_STEER_STATE _)) (known_PRT_TRL_STATUS_STEER_STATE _).agrees (Foot.le_trans (by decide +kernel) hF) ?_
    | with_reducible refine Goes.each ?_ ?_
    | with_reducible refine Goes.steerSend (Foot.le_trans (by decide +kernel) hF) ?_
    | with_reducible refine Goes.foldl ?_ ?_
    | exact fun _ h => h
    | exact fun _ h => by dsimp only; (repeat' split) <;> exact h
    | split
    | intro _

/-- What `State.propose` may change. -/
def fp_propose : Foot := ⟨[.sides], some [0x2000E18, 0x2000D1C]⟩
theorem Goes.propose {s : State} {q : Nat} {it : Item} {spare : Nat} (hF : fp_propose.le F = true) (hgo : Goes F s0 s) :
     Goes F s0 (State.propose s q it spare) := by
  unfold State.propose
  try dsimp only
  repeat' first
    | with_reducible assumption
    | with_reducible refine Goes.satUp (List.mem_singleton.2 (fieldName_PRT_TRL_CNT_PROPOSE_CNT _)) (known_PRT_TRL_CNT_PROPOSE_CNT _).agrees (Foot.le_trans (by decide +kernel) hF) ?_
    | with_reducible refine Goes.satUp (List.mem_singleton.2 (fieldName_PRT_TRL_STATUS_STEER_STATE _)) (known_PRT_TRL_STATUS_STEER_STATE _).agrees (Foot.le_trans (by decide +kernel) hF) ?_
    | with_reducible refine Goes.wr (List.mem_singleton.2 (fieldName_PRT_TRL_CNT_PROPOSE_CNT _)) (known_PRT_TRL_CNT_PROPOSE_CNT _).agrees (Foot.le_trans (by decide +kernel) hF) ?_
    | with_reducible refine Goes.wr (List.mem_singleton.2 (fieldName_PRT_TRL_STATUS_STEER_STATE _)) (known_PRT_TRL_STATUS_STEER_STATE _).agrees (Foot.le_trans (by decide +kernel) hF) ?_
    | with_reducible refine Goes.upS (Foot.le_trans (by decide +kernel) hF) ?_
    | with_reducible refine Goes.steerSend (Foot.le_trans (by decide +kernel) hF) ?_
    | with_reducible refine Goes.foldl ?_ ?_
    | split
    | intro _

/-- What `State.serve` may change. -/
def fp_serve : Foot := ⟨[.halves, .sides, .ports, .engines, .tiles, .evq], some [0x220018, 0x220010, 0x200100,
  0x40800F, 0x408008, 0x40800A, 0x408000, 0x40800C, 0xE0390, 0xE0380, 0xE0388, 0xE0210, 0xE0200, 0xE021E, 0xE0208,
  0xE021F, 0xE0280, 0xE0100, 0xE0001, 0x4000418, 0x4000413, 0x400041F, 0x4000294, 0x4000280, 0x400029D, 0x400029E,
  0x4000290, 0x400050E, 0x400051C, 0x4000513, 0x4000486, 0x4000480, 0x4000487, 0x4000398, 0x400038C, 0x4000392,
  0x4000386, 0x4000380, 0x400039E, 0x2000104, 0x200011E, 0x200010C, 0x2000100, 0x200011D, 0x2000108, 0x200011F,
  0x200090A, 0x200091C, 0x2000E18, 0x2000D05, 0x2000D04, 0x2000D03, 0x2000D06, 0x2000D10, 0x2000D00, 0x2000D1C,
  0x2000D08, 0x2000D18, 0x2000510, 0x2000508, 0x200048F, 0x2000498, 0x2000494, 0x200048E, 0x200048B, 0x2000488,
  0x2000490, 0x200049C, 0x2000492, 0x100097]⟩
theorem Goes.serve {s : State} {q : Nat} {it : Item} (hF : fp_serve.le F = true) (hgo : Goes F s0 s) :
     Goes F s0 (State.serve s q it) := by
  unfold State.serve
  try dsimp only
  repeat' first
    | with_reducible assumption
    | with_reducible refine Goes.on (List.mem_singleton.2 (fieldName_PRT_TRL_STATUS_NO_SPARE _)) (known_PRT_TRL_STATUS_NO_SPARE _).agrees (Foot.le_trans (by decide +kernel) hF) ?_
    | with_reducible refine Goes.faultSide (Foot.le_trans (by decide +kernel) hF) ?_
    | with_reducible refine Goes.propose (Foot.le_trans (by decide +kernel) hF) ?_
    | with_reducible refine Goes.foldl ?_ ?_
    | split
    | intro _

/-- What `State.recordFault` may change. -/
def fp_recordFault : Foot := ⟨[.halves, .engines, .tiles, .evq], some [0x220018, 0x220010, 0x200100, 0x40800F,
  0x408008, 0x40800A, 0x408000, 0x40800C, 0xE0390, 0xE0380, 0xE0388, 0xE0210, 0xE0200, 0xE021E, 0xE0208, 0xE021F,
  0xE0280, 0xE0100, 0xE0001, 0x4000500, 0x400050D, 0x4000518, 0x100097]⟩
theorem Goes.recordFault {s : State} {p : Nat} {h : Nat} {reason : Nat} (hF : fp_recordFault.le F = true) (hgo : Goes F s0 s) :
     Goes F s0 (State.recordFault s p h reason) := by
  unfold State.recordFault
  try dsimp only
  repeat' first
    | with_reducible assumption
    | with_reducible refine Goes.satUp (List.mem_singleton.2 (fieldName_LCH_LANE_FAULT_FAULT_CNT _)) (known_LCH_LANE_FAULT_FAULT_CNT _).agrees (Foot.le_trans (by decide +kernel) hF) ?_
    | with_reducible refine Goes.satUp (List.mem_singleton.2 (fieldName_LCH_LANE_FAULT_FAULT_NEW _)) (known_LCH_LANE_FAULT_FAULT_NEW _).agrees (Foot.le_trans (by decide +kernel) hF) ?_
    | with_reducible refine Goes.satUp (List.mem_singleton.2 (fieldName_LCH_LANE_FAULT_LAST_REASON _)) (known_LCH_LANE_FAULT_LAST_REASON _).agrees (Foot.le_trans (by decide +kernel) hF) ?_
    | with_reducible refine Goes.on (List.mem_singleton.2 (fieldName_LCH_LANE_FAULT_FAULT_CNT _)) (known_LCH_LANE_FAULT_FAULT_CNT _).agrees (Foot.le_trans (by decide +kernel) hF) ?_
    | with_reducible refine Goes.on (List.mem_singleton.2 (fieldName_LCH_LANE_FAULT_FAULT_NEW _)) (known_LCH_LANE_FAULT_FAULT_NEW _).agrees (Foot.le_trans (by decide +kernel) hF) ?_
    | with_reducible refine Goes.on (List.mem_singleton.2 (fieldName_LCH_LANE_FAULT_LAST_REASON _)) (known_LCH_LANE_FAULT_LAST_REASON _).agrees (Foot.le_trans (by decide +kernel) hF) ?_
    | with_reducible refine Goes.rxLeaves (Foot.le_trans (by decide +kernel) hF) ?_
    | with_reducible refine Goes.wr (List.mem_singleton.2 (fieldName_LCH_LANE_FAULT_FAULT_CNT _)) (known_LCH_LANE_FAULT_FAULT_CNT _).agrees (Foot.le_trans (by decide +kernel) hF) ?_
    | with_reducible refine Goes.wr (List.mem_singleton.2 (fieldName_LCH_LANE_FAULT_FAULT_NEW _)) (known_LCH_LANE_FAULT_FAULT_NEW _).agrees (Foot.le_trans (by decide +kernel) hF) ?_
    | with_reducible refine Goes.wr (List.mem_singleton.2 (fieldName_LCH_LANE_FAULT_LAST_REASON _)) (known_LCH_LANE_FAULT_LAST_REASON _).agrees (Foot.le_trans (by decide +kernel) hF) ?_
    | with_reducible refine Goes.raise (Foot.le_trans (by decide +kernel) hF) ?_
    | with_reducible refine Goes.foldl ?_ ?_
    | split
    | intro _

/-- What `State.queueFault` may change. -/
def fp_queueFault : Foot := ⟨[.sides], some []⟩
theorem Goes.queueFault {s : State} {q : Nat} {h : Nat} {lane : Nat} {reason : Nat} (hF : fp_queueFault.le F = true) (hgo : Goes F s0 s) :
     Goes F s0 (State.queueFault s q h lane reason) := by
  unfold State.queueFault
  try dsimp only
  repeat' first
    | with_reducible assumption
    | with_reducible refine Goes.upS (Foot.le_trans (by decide +kernel) hF) ?_
    | with_reducible refine Goes.foldl ?_ ?_
    | split
    | intro _

/-- What `State.declareFault` may change. -/
def fp_declareFault : Foot := ⟨[.halves, .sides, .ports, .engines, .tiles, .evq], some [0x220018, 0x220010, 0x200100,
  0x40800F, 0x408008, 0x40800A, 0x408000, 0x40800C, 0xE0390, 0xE0380, 0xE0388, 0xE0210, 0xE0200, 0xE021E, 0xE0208,
  0xE021F, 0xE0280, 0xE0100, 0xE0001, 0x4000418, 0x4000413, 0x400041F, 0x4000294, 0x4000280, 0x400029D, 0x400029E,
  0x4000290, 0x4000500, 0x400050D, 0x4000518, 0x400050E, 0x400051C, 0x4000513, 0x4000486, 0x4000480, 0x4000487,
  0x4000398, 0x400038C, 0x4000392, 0x4000386, 0x4000380, 0x400039E, 0x2000104, 0x200011E, 0x200010C, 0x2000100,
  0x200011D, 0x2000108, 0x200011F, 0x200090A, 0x200091C, 0x2000E08, 0x2000D05, 0x2000D03, 0x2000D06, 0x2000D10,
  0x2000D00, 0x2000D1C, 0x2000D08, 0x2000D18, 0x2000510, 0x2000508, 0x200048F, 0x2000498, 0x2000494, 0x200048E,
  0x200048B, 0x2000488, 0x2000490, 0x200049C, 0x2000492, 0x100097]⟩
theorem Goes.declareFault {s : State} {q : Nat} {h : Nat} {reason : Nat} (hF : fp_declareFault.le F = true) (hgo : Goes F s0 s) :
     Goes F s0 (State.declareFault s q h reason) := by
  unfold State.declareFault
  try dsimp only
  repeat' first
    | with_reducible assumption
    | with_reducible refine Goes.upH (Foot.le_trans (by decide +kernel) hF) (fun _ h => h) ?_
    | with_reducible refine Goes.upH (Foot.le_trans (by decide +kernel) hF) ?_ ?_
    | with_reducible refine Goes.toCancelling (Foot.le_trans (by decide +kernel) hF) ?_
    | with_reducible refine Goes.recordFault (Foot.le_trans (by decide +kernel) hF) ?_
    | with_reducible refine Goes.queueFault (Foot.le_trans (by decide +kernel) hF) ?_
    | with_reducible refine Goes.on (List.mem_singleton.2 (fieldName_LCH_SEG_FEC_FRAME_LOCK _)) (known_LCH_SEG_FEC_FRAME_LOCK _).agrees (Foot.le_trans (by decide +kernel) hF) ?_
    | with_reducible refine Goes.on (List.mem_singleton.2 (fieldName_PRT_TRL_STATUS_SPARE_LOST _)) (known_PRT_TRL_STATUS_SPARE_LOST _).agrees (Foot.le_trans (by decide +kernel) hF) ?_
    | with_reducible refine Goes.faultSide (Foot.le_trans (by decide +kernel) hF) ?_
    | with_reducible refine Goes.requestRx (Foot.le_trans (by decide +kernel) hF) ?_
    | with_reducible refine Goes.requeue (Foot.le_trans (by decide +kernel) hF) ?_
    | with_reducible refine Goes.off (List.mem_singleton.2 (fieldName_LCH_SEG_FEC_FRAME_LOCK _)) (known_LCH_SEG_FEC_FRAME_LOCK _).agrees (Foot.le_trans (by decide +kernel) hF) ?_
    | with_reducible refine Goes.off (List.mem_singleton.2 (fieldName_PRT_TRL_STATUS_SPARE_LOST _)) (known_PRT_TRL_STATUS_SPARE_LOST _).agrees (Foot.le_trans (by decide +kernel) hF) ?_
    | with_reducible refine Goes.showSide (Foot.le_trans (by decide +kernel) hF) ?_
    | with_reducible refine Goes.foldl ?_ ?_
    | exact fun _ h => h
    | exact fun _ h => by dsimp only; (repeat' split) <;> exact h
    | split
    | intro _

/-- What `State.stdLaneFault` may change. -/
def fp_stdLaneFault : Foot := ⟨[.halves, .sides, .ports, .engines, .tiles, .evq], some [0x220018, 0x220010, 0x200100,
  0x40800F, 0x408008, 0x40800A, 0x408000, 0x40800C, 0xE0390, 0xE0380, 0xE0388, 0xE0210, 0xE0200, 0xE021E, 0xE0208,
  0xE021F, 0xE0280, 0xE0100, 0xE0001, 0x4000418, 0x4000294, 0x4000280, 0x400029D, 0x400029E, 0x4000500, 0x400050D,
  0x4000518, 0x400051C, 0x4000398, 0x400038C, 0x4000392, 0x4000386, 0x4000380, 0x400039E, 0x2000104, 0x2000100,
  0x100097]⟩
theorem Goes.stdLaneFault {s : State} {q : Nat} {h : Nat} {reason : Nat} (hF : fp_stdLaneFault.le F = true) (hgo : Goes F s0 s) :
     Goes F s0 (State.stdLaneFault s q h reason) := by
  unfold State.stdLaneFault
  try dsimp only
  repeat' first
    | with_reducible assumption
    | with_reducible refine Goes.upH (Foot.le_trans (by decide +kernel) hF) (fun _ h => h) ?_
    | with_reducible refine Goes.upH (Foot.le_trans (by decide +kernel) hF) ?_ ?_
    | with_reducible refine Goes.recordFault (Foot.le_trans (by decide +kernel) hF) ?_
    | with_reducible refine Goes.upP (Foot.le_trans (by decide +kernel) hF) ?_
    | with_reducible refine Goes.requestRx (Foot.le_trans (by decide +kernel) hF) ?_
    | with_reducible refine Goes.upS (Foot.le_trans (by decide +kernel) hF) ?_
    | with_reducible refine Goes.showStd (Foot.le_trans (by decide +kernel) hF) ?_
    | with_reducible refine Goes.setTx (Foot.le_trans (by decide +kernel) hF) ?_
    | with_reducible refine Goes.foldl ?_ ?_
    | exact fun _ h => h
    | exact fun _ h => by dsimp only; (repeat' split) <;> exact h
    | split
    | intro _

/-- What `State.recovered` may change. -/
def fp_recovered : Foot := ⟨[.sides], some [0x2000E08, 0x2000D1C]⟩
theorem Goes.recovered {s : State} {q : Nat} {h : Nat} {pick : Item → Bool} (hF : fp_recovered.le F = true) (hgo : Goes F s0 s) :
     Goes F s0 (State.recovered s q h pick) := by
  unfold State.recovered
  try dsimp only
  repeat' first
    | with_reducible assumption
    | with_reducible refine Goes.toCancelling (Foot.le_trans (by decide +kernel) hF) ?_
    | with_reducible refine Goes.upS (Foot.le_trans (by decide +kernel) hF) ?_
    | with_reducible refine Goes.foldl ?_ ?_
    | split
    | intro _

/-- What `State.recoveredHard` may change. -/
def fp_recoveredHard : Foot := ⟨[.halves, .sides], some [0x2000E08, 0x2000D1C]⟩
theorem Goes.recoveredHard {s : State} {q : Nat} {h : Nat} (hF : fp_recoveredHard.le F = true) (hgo : Goes F s0 s) :
     Goes F s0 (State.recoveredHard s q h) := by
  unfold State.recoveredHard
  try dsimp only
  repeat' first
    | with_reducible assumption
    | with_reducible refine Goes.upH (Foot.le_trans (by decide +kernel) hF) (fun _ h => h) ?_
    | with_reducible refine Goes.upH (Foot.le_trans (by decide +kernel) hF) ?_ ?_
    | with_reducible refine Goes.recovered (Foot.le_trans (by decide +kernel) hF) ?_
    | with_reducible refine Goes.foldl ?_ ?_
    | exact fun _ h => h
    | exact fun _ h => by dsimp only; (repeat' split) <;> exact h
    | split
    | intro _

/-- What `State.recoveredSoft` may change. -/
def fp_recoveredSoft : Foot := ⟨[.halves, .sides], some [0x2000E08, 0x2000D1C]⟩
theorem Goes.recoveredSoft {s : State} {q : Nat} {h : Nat} {fom : Nat} (hF : fp_recoveredSoft.le F = true) (hgo : Goes F s0 s) :
     Goes F s0 (State.recoveredSoft s q h fom) := by
  unfold State.recoveredSoft
  try dsimp only
  repeat' first
    | with_reducible assumption
    | with_reducible refine Goes.upH (Foot.le_trans (by decide +kernel) hF) (fun _ h => h) ?_
    | with_reducible refine Goes.upH (Foot.le_trans (by decide +kernel) hF) ?_ ?_
    | with_reducible refine Goes.recovered (Foot.le_trans (by decide +kernel) hF) ?_
    | with_reducible refine Goes.foldl ?_ ?_
    | exact fun _ h => h
    | exact fun _ h => by dsimp only; (repeat' split) <;> exact h
    | split
    | intro _

/-- What `State.breakStream` may change. -/
def fp_breakStream : Foot := ⟨[.ports, .outbox], some []⟩
theorem Goes.breakStream {s : State} {d : Nat} (hF : fp_breakStream.le F = true) (hgo : Goes F s0 s) :
     Goes F s0 (State.breakStream s d) := by
  unfold State.breakStream
  try dsimp only
  repeat' first
    | with_reducible assumption
    | with_reducible refine Goes.upP (Foot.le_trans (by decide +kernel) hF) ?_
    | with_reducible refine Goes.emit (Foot.le_trans (by decide +kernel) hF) ?_
    | with_reducible refine Goes.foldl ?_ ?_
    | split
    | intro _

/-- What `State.degraded` may change. -/
def fp_degraded : Foot := ⟨[.sides, .ports, .outbox], some []⟩
theorem Goes.degraded {s : State} {q : Nat} (hF : fp_degraded.le F = true) (hgo : Goes F s0 s) :
     Goes F s0 (State.degraded s q) := by
  unfold State.degraded
  try dsimp only
  repeat' first
    | with_reducible assumption
    | with_reducible refine Goes.pathSoon (Foot.le_trans (by decide +kernel) hF) ?_
    | with_reducible refine Goes.breakStream (Foot.le_trans (by decide +kernel) hF) ?_
    | with_reducible refine Goes.upS (Foot.le_trans (by decide +kernel) hF) ?_
    | with_reducible refine Goes.foldl ?_ ?_
    | split
    | intro _

/-- What `State.commitDone` may change. -/
def fp_commitDone : Foot := ⟨[.halves, .sides, .ports, .engines, .tim, .evq, .outbox], some [0x40800F, 0x408008,
  0x40800A, 0x408000, 0x40800C, 0x4000518, 0x400050E, 0x400051C, 0x4000513, 0x2000E10, 0x2000D05, 0x2000D06, 0x2000D02,
  0x2000D10, 0x2000D00, 0x2000D1C]⟩
theorem Goes.commitDone {s : State} {q : Nat} (hF : fp_commitDone.le F = true) (hgo : Goes F s0 s) :
     Goes F s0 (State.commitDone s q) := by
  unfold State.commitDone
  try dsimp only
  repeat' first
    | with_reducible assumption
    | with_reducible refine Goes.upTs (Foot.le_trans (by decide +kernel) hF) ?_
    | with_reducible refine Goes.bump (Foot.le_trans (by decide +kernel) hF) ?_
    | with_reducible refine Goes.upH (Foot.le_trans (by decide +kernel) hF) (fun _ h => h) ?_
    | with_reducible refine Goes.upH (Foot.le_trans (by decide +kernel) hF) ?_ ?_
    | with_reducible refine Goes.satUp (List.mem_singleton.2 (fieldName_LCH_LANE_FAULT_LAST_REASON _)) (known_LCH_LANE_FAULT_LAST_REASON _).agrees (Foot.le_trans (by decide +kernel) hF) ?_
    | with_reducible refine Goes.satUp (List.mem_singleton.2 (fieldName_PRT_TRL_CNT_COMMIT_CNT _)) (known_PRT_TRL_CNT_COMMIT_CNT _).agrees (Foot.le_trans (by decide +kernel) hF) ?_
    | with_reducible refine Goes.satUp (List.mem_singleton.2 (fieldName_PRT_TRL_STATUS_REMAPPED _)) (known_PRT_TRL_STATUS_REMAPPED _).agrees (Foot.le_trans (by decide +kernel) hF) ?_
    | with_reducible refine Goes.satUp (List.mem_singleton.2 (fieldName_PRT_TRL_STATUS_RX_EPOCH _)) (known_PRT_TRL_STATUS_RX_EPOCH _).agrees (Foot.le_trans (by decide +kernel) hF) ?_
    | with_reducible refine Goes.on (List.mem_singleton.2 (fieldName_LCH_LANE_FAULT_LAST_REASON _)) (known_LCH_LANE_FAULT_LAST_REASON _).agrees (Foot.le_trans (by decide +kernel) hF) ?_
    | with_reducible refine Goes.on (List.mem_singleton.2 (fieldName_PRT_TRL_CNT_COMMIT_CNT _)) (known_PRT_TRL_CNT_COMMIT_CNT _).agrees (Foot.le_trans (by decide +kernel) hF) ?_
    | with_reducible refine Goes.on (List.mem_singleton.2 (fieldName_PRT_TRL_STATUS_REMAPPED _)) (known_PRT_TRL_STATUS_REMAPPED _).agrees (Foot.le_trans (by decide +kernel) hF) ?_
    | with_reducible refine Goes.on (List.mem_singleton.2 (fieldName_PRT_TRL_STATUS_RX_EPOCH _)) (known_PRT_TRL_STATUS_RX_EPOCH _).agrees (Foot.le_trans (by decide +kernel) hF) ?_
    | with_reducible refine Goes.wr (List.mem_singleton.2 (fieldName_LCH_LANE_FAULT_LAST_REASON _)) (known_LCH_LANE_FAULT_LAST_REASON _).agrees (Foot.le_trans (by decide +kernel) hF) ?_
    | with_reducible refine Goes.wr (List.mem_singleton.2 (fieldName_PRT_TRL_CNT_COMMIT_CNT _)) (known_PRT_TRL_CNT_COMMIT_CNT _).agrees (Foot.le_trans (by decide +kernel) hF) ?_
    | with_reducible refine Goes.wr (List.mem_singleton.2 (fieldName_PRT_TRL_STATUS_REMAPPED _)) (known_PRT_TRL_STATUS_REMAPPED _).agrees (Foot.le_trans (by decide +kernel) hF) ?_
    | with_reducible refine Goes.wr (List.mem_singleton.2 (fieldName_PRT_TRL_STATUS_RX_EPOCH _)) (known_PRT_TRL_STATUS_RX_EPOCH _).agrees (Foot.le_trans (by decide +kernel) hF) ?_
    | with_reducible refine Goes.upS (Foot.le_trans (by decide +kernel) hF) ?_
    | with_reducible refine Goes.each ?_ ?_
    | with_reducible refine Goes.degraded (Foot.le_trans (by decide +kernel) hF) ?_
    | with_reducible refine Goes.disturb (Foot.le_trans (by decide +kernel) hF) ?_
    | with_reducible refine Goes.showSide (Foot.le_trans (by decide +kernel) hF) ?_
    | with_reducible refine Goes.toWatch (Foot.le_trans (by decide +kernel) hF) ?_
    | with_reducible refine Goes.foldl ?_ ?_
    | exact fun _ h => h
    | exact fun _ h => by dsimp only; (repeat' split) <;> exact h
    | split
    | intro _

/-- What `State.checkPropose` may change. -/
def fp_checkPropose : Foot := ⟨[.sides], some [0x2000D18]⟩
theorem Goes.checkPropose {s : State} {q : Nat} {m : List Byte} (hF : fp_checkPropose.le F = true) (hgo : Goes F s0 s) :
     Goes F s0 (State.checkPropose s q m) := by
  unfold State.checkPropose
  try dsimp only
  repeat' first
    | with_reducible assumption
    | with_reducible refine Goes.answer (Foot.le_trans (by decide +kernel) hF) ?_
    | with_reducible refine Goes.wr (List.mem_singleton.2 (fieldName_PRT_TRL_STATUS_XMIT_STATE _)) (known_PRT_TRL_STATUS_XMIT_STATE _).agrees (Foot.le_trans (by decide +kernel) hF) ?_
    | with_reducible refine Goes.upS (Foot.le_trans (by decide +kernel) hF) ?_
    | with_reducible refine Goes.foldl ?_ ?_
    | split
    | intro _

/-- What `State.voidPrepared` may change. -/
def fp_voidPrepared : Foot := ⟨[.sides], some [0x2000D18]⟩
theorem Goes.voidPrepared {s : State} {q : Nat} (hF : fp_voidPrepared.le F = true) (hgo : Goes F s0 s) :
     Goes F s0 (State.voidPrepared s q) := by
  unfold State.voidPrepared
  try dsimp only
  repeat' first
    | with_reducible assumption
    | with_reducible refine Goes.wr (List.mem_singleton.2 (fieldName_PRT_TRL_STATUS_XMIT_STATE _)) (known_PRT_TRL_STATUS_XMIT_STATE _).agrees (Foot.le_trans (by decide +kernel) hF) ?_
    | with_reducible refine Goes.upS (Foot.le_trans (by decide +kernel) hF) ?_
    | with_reducible refine Goes.foldl ?_ ?_
    | split
    | intro _

/-- What `State.doSwitch` may change. -/
def fp_doSwitch : Foot := ⟨[.halves, .sides, .ports, .engines, .tim, .evq, .outbox], some [0x40800F, 0x408008,
  0x40800A, 0x408000, 0x40800C, 0x400050E, 0x400051C, 0x4000513, 0x2000A00, 0x2000D05, 0x2000D06, 0x2000D02, 0x2000D00,
  0x2000D08, 0x2000D18]⟩
theorem Goes.doSwitch {s : State} {q : Nat} {pr : Prepared} (hF : fp_doSwitch.le F = true) (hgo : Goes F s0 s) :
     Goes F s0 (State.doSwitch s q pr) := by
  unfold State.doSwitch
  try dsimp only
  repeat' first
    | with_reducible assumption
    | with_reducible refine Goes.upTs (Foot.le_trans (by decide +kernel) hF) ?_
    | with_reducible refine Goes.bump (Foot.le_trans (by decide +kernel) hF) ?_
    | with_reducible refine Goes.voidPrepared (Foot.le_trans (by decide +kernel) hF) ?_
    | with_reducible refine Goes.on (List.mem_singleton.2 (fieldName_PRT_SEG_CNT_REPLAYS _)) (known_PRT_SEG_CNT_REPLAYS _).agrees (Foot.le_trans (by decide +kernel) hF) ?_
    | with_reducible refine Goes.on (List.mem_singleton.2 (fieldName_PRT_TRL_STATUS_REMAPPED _)) (known_PRT_TRL_STATUS_REMAPPED _).agrees (Foot.le_trans (by decide +kernel) hF) ?_
    | with_reducible refine Goes.on (List.mem_singleton.2 (fieldName_PRT_TRL_STATUS_TX_EPOCH _)) (known_PRT_TRL_STATUS_TX_EPOCH _).agrees (Foot.le_trans (by decide +kernel) hF) ?_
    | with_reducible refine Goes.wr (List.mem_singleton.2 (fieldName_PRT_SEG_CNT_REPLAYS _)) (known_PRT_SEG_CNT_REPLAYS _).agrees (Foot.le_trans (by decide +kernel) hF) ?_
    | with_reducible refine Goes.wr (List.mem_singleton.2 (fieldName_PRT_TRL_STATUS_REMAPPED _)) (known_PRT_TRL_STATUS_REMAPPED _).agrees (Foot.le_trans (by decide +kernel) hF) ?_
    | with_reducible refine Goes.wr (List.mem_singleton.2 (fieldName_PRT_TRL_STATUS_TX_EPOCH _)) (known_PRT_TRL_STATUS_TX_EPOCH _).agrees (Foot.le_trans (by decide +kernel) hF) ?_
    | with_reducible refine Goes.upS (Foot.le_trans (by decide +kernel) hF) ?_
    | with_reducible refine Goes.degraded (Foot.le_trans (by decide +kernel) hF) ?_
    | with_reducible refine Goes.showSide (Foot.le_trans (by decide +kernel) hF) ?_
    | with_reducible refine Goes.wrapUp (List.mem_singleton.2 (fieldName_PRT_SEG_CNT_REPLAYS _)) (known_PRT_SEG_CNT_REPLAYS _).agrees (Foot.le_trans (by decide +kernel) hF) ?_
    | with_reducible refine Goes.wrapUp (List.mem_singleton.2 (fieldName_PRT_TRL_STATUS_REMAPPED _)) (known_PRT_TRL_STATUS_REMAPPED _).agrees (Foot.le_trans (by decide +kernel) hF) ?_
    | with_reducible refine Goes.wrapUp (List.mem_singleton.2 (fieldName_PRT_TRL_STATUS_TX_EPOCH _)) (known_PRT_TRL_STATUS_TX_EPOCH _).agrees (Foot.le_trans (by decide +kernel) hF) ?_
    | with_reducible refine Goes.foldl ?_ ?_
    | split
    | intro _

end Sys2Proof.Machine
end

