-- ==== Sys2Proof/Laws/OnPowerOps.lean ====
section
/-! SUPPORT. What each operation of `Machine/PowerOps.lean` may change: one lemma for each. -/

set_option linter.all false
set_option Elab.async false

namespace Sys2Proof.Machine

variable {F : Foot} {s0 : State}

/-- What `State.setLevel` may change. -/
def fp_setLevel : Foot := ⟨[], some [0x6001A, 0x60010]⟩
theorem Goes.setLevel {s : State} {l : Nat} (hF : fp_setLevel.le F = true) (hgo : Goes F s0 s) :
     Goes F s0 (State.setLevel s l) := by
  unfold State.setLevel
  try dsimp only
  repeat' first
    | with_reducible assumption
    | with_reducible refine Goes.wr (List.mem_singleton.2 (fieldName_PWR_STATUS_PL)) (known_PWR_STATUS_PL).agrees (Foot.le_trans (by decide +kernel) hF) ?_
    | with_reducible refine Goes.wr (List.mem_singleton.2 (fieldName_PWR_STATUS_VID_CODE)) (known_PWR_STATUS_VID_CODE).agrees (Foot.le_trans (by decide +kernel) hF) ?_
    | with_reducible refine Goes.foldl ?_ ?_
    | split
    | intro _

/-- What `State.showTarget` may change. -/
def fp_showTarget : Foot := ⟨[], some [0x60018]⟩
theorem Goes.showTarget {s : State} (hF : fp_showTarget.le F = true) (hgo : Goes F s0 s) :
     Goes F s0 (State.showTarget s) := by
  unfold State.showTarget
  try dsimp only
  repeat' first
    | with_reducible assumption
    | with_reducible refine Goes.wr (List.mem_singleton.2 (fieldName_PWR_STATUS_PL_TARGET)) (known_PWR_STATUS_PL_TARGET).agrees (Foot.le_trans (by decide +kernel) hF) ?_
    | with_reducible refine Goes.foldl ?_ ?_
    | split
    | intro _

/-- What `State.askLevel` may change. -/
def fp_askLevel : Foot := ⟨[.power], some [0x6001A, 0x6000F, 0x60010]⟩
theorem Goes.askLevel {s : State} {l : Nat} (hF : fp_askLevel.le F = true) (hgo : Goes F s0 s) :
     Goes F s0 (State.askLevel s l) := by
  unfold State.askLevel
  try dsimp only
  repeat' first
    | with_reducible assumption
    | with_reducible refine Goes.upPw (Foot.le_trans (by decide +kernel) hF) ?_
    | with_reducible refine Goes.on (List.mem_singleton.2 (fieldName_PWR_STATUS_VID_BUSY)) (known_PWR_STATUS_VID_BUSY).agrees (Foot.le_trans (by decide +kernel) hF) ?_
    | with_reducible refine Goes.setLevel (Foot.le_trans (by decide +kernel) hF) ?_
    | with_reducible refine Goes.foldl ?_ ?_
    | split
    | intro _

/-- What `State.showActive` may change. -/
def fp_showActive : Foot := ⟨[], some [0x60000]⟩
theorem Goes.showActive {s : State} (hF : fp_showActive.le F = true) (hgo : Goes F s0 s) :
     Goes F s0 (State.showActive s) := by
  unfold State.showActive
  try dsimp only
  repeat' first
    | with_reducible assumption
    | with_reducible refine Goes.wr (List.mem_singleton.2 (fieldName_PWR_STATUS_ACTIVE_PORTS)) (known_PWR_STATUS_ACTIVE_PORTS).agrees (Foot.le_trans (by decide +kernel) hF) ?_
    | with_reducible refine Goes.foldl ?_ ?_
    | split
    | intro _

/-- What `State.wakeTile` may change. -/
def fp_wakeTile : Foot := ⟨[.power], some [0x100]⟩
theorem Goes.wakeTile {s : State} {t : Nat} (hF : fp_wakeTile.le F = true) (hgo : Goes F s0 s) :
     Goes F s0 (State.wakeTile s t) := by
  unfold State.wakeTile
  try dsimp only
  repeat' first
    | with_reducible assumption
    | with_reducible refine Goes.upPw (Foot.le_trans (by decide +kernel) hF) ?_
    | with_reducible refine Goes.wr (List.mem_singleton.2 (fieldName_GLB_TILE_STATUS_LT _)) (known_GLB_TILE_STATUS_LT _).agrees (Foot.le_trans (by decide +kernel) hF) ?_
    | with_reducible refine Goes.foldl ?_ ?_
    | split
    | intro _

/-- What `State.realign` may change. -/
def fp_realign : Foot := ⟨[.replicas], some []⟩
theorem Goes.realign {s : State} (hF : fp_realign.le F = true) (hgo : Goes F s0 s) :
     Goes F s0 (State.realign s) := by
  unfold State.realign
  try dsimp only
  repeat' first
    | with_reducible assumption
    | with_reducible refine Goes.loadReplicas (Foot.le_trans (by decide +kernel) hF) ?_
    | with_reducible refine Goes.foldl ?_ ?_
    | split
    | intro _

/-- What `State.setAt` may change. -/
def fp_setAt : Foot := ⟨[.now, .count, .replicas], some []⟩
theorem Goes.setAt {s : State} {v : Nat} (hF : fp_setAt.le F = true) (hgo : Goes F s0 s) :
     Goes F s0 (State.setAt s v) := by
  unfold State.setAt
  try dsimp only
  repeat' first
    | with_reducible assumption
    | with_reducible refine Goes.setTime (Foot.le_trans (by decide +kernel) hF) ?_
    | with_reducible refine Goes.realign (Foot.le_trans (by decide +kernel) hF) ?_
    | with_reducible refine Goes.foldl ?_ ?_
    | split
    | intro _

/-- What `State.abandonEntry` may change. -/
def fp_abandonEntry : Foot := ⟨[.tim, .power, .now, .count, .replicas], some [0x8009D, 0x8009C, 0x8009F, 0x6001C,
  0x6000F, 0x60010, 0x6030E]⟩
theorem Goes.abandonEntry {s : State} (hF : fp_abandonEntry.le F = true) (hgo : Goes F s0 s) :
     Goes F s0 (State.abandonEntry s) := by
  unfold State.abandonEntry
  try dsimp only
  repeat' first
    | with_reducible assumption
    | with_reducible refine Goes.upPw (Foot.le_trans (by decide +kernel) hF) ?_
    | with_reducible refine Goes.on (List.mem_singleton.2 (fieldName_CLK_STATUS_CORE_SRC)) (known_CLK_STATUS_CORE_SRC).agrees (Foot.le_trans (by decide +kernel) hF) ?_
    | with_reducible refine Goes.on (List.mem_singleton.2 (fieldName_CLK_STATUS_MCLK_SRC)) (known_CLK_STATUS_MCLK_SRC).agrees (Foot.le_trans (by decide +kernel) hF) ?_
    | with_reducible refine Goes.on (List.mem_singleton.2 (fieldName_CLK_STATUS_ROOT_LOCK)) (known_CLK_STATUS_ROOT_LOCK).agrees (Foot.le_trans (by decide +kernel) hF) ?_
    | with_reducible refine Goes.on (List.mem_singleton.2 (fieldName_PWR_STATUS_STATE)) (known_PWR_STATUS_STATE).agrees (Foot.le_trans (by decide +kernel) hF) ?_
    | with_reducible refine Goes.on (List.mem_singleton.2 (fieldName_PWR_STATUS_VID_BUSY)) (known_PWR_STATUS_VID_BUSY).agrees (Foot.le_trans (by decide +kernel) hF) ?_
    | with_reducible refine Goes.on (List.mem_singleton.2 (fieldName_PWR_STATUS_VID_CODE)) (known_PWR_STATUS_VID_CODE).agrees (Foot.le_trans (by decide +kernel) hF) ?_
    | with_reducible refine Goes.on (List.mem_singleton.2 (fieldName_PWR_WAKE_STATUS_ABANDONED)) (known_PWR_WAKE_STATUS_ABANDONED).agrees (Foot.le_trans (by decide +kernel) hF) ?_
    | with_reducible refine Goes.wr (List.mem_singleton.2 (fieldName_CLK_STATUS_CORE_SRC)) (known_CLK_STATUS_CORE_SRC).agrees (Foot.le_trans (by decide +kernel) hF) ?_
    | with_reducible refine Goes.wr (List.mem_singleton.2 (fieldName_CLK_STATUS_MCLK_SRC)) (known_CLK_STATUS_MCLK_SRC).agrees (Foot.le_trans (by decide +kernel) hF) ?_
    | with_reducible refine Goes.wr (List.mem_singleton.2 (fieldName_CLK_STATUS_ROOT_LOCK)) (known_CLK_STATUS_ROOT_LOCK).agrees (Foot.le_trans (by decide +kernel) hF) ?_
    | with_reducible refine Goes.wr (List.mem_singleton.2 (fieldName_PWR_STATUS_STATE)) (known_PWR_STATUS_STATE).agrees (Foot.le_trans (by decide +kernel) hF) ?_
    | with_reducible refine Goes.wr (List.mem_singleton.2 (fieldName_PWR_STATUS_VID_BUSY)) (known_PWR_STATUS_VID_BUSY).agrees (Foot.le_trans (by decide +kernel) hF) ?_
    | with_reducible refine Goes.wr (List.mem_singleton.2 (fieldName_PWR_STATUS_VID_CODE)) (known_PWR_STATUS_VID_CODE).agrees (Foot.le_trans (by decide +kernel) hF) ?_
    | with_reducible refine Goes.wr (List.mem_singleton.2 (fieldName_PWR_WAKE_STATUS_ABANDONED)) (known_PWR_WAKE_STATUS_ABANDONED).agrees (Foot.le_trans (by decide +kernel) hF) ?_
    | with_reducible refine Goes.upTim (Foot.le_trans (by decide +kernel) hF) (fun _ h => h) ?_
    | with_reducible refine Goes.upTim (Foot.le_trans (by decide +kernel) hF) ?_ ?_
    | with_reducible refine Goes.setAt (Foot.le_trans (by decide +kernel) hF) ?_
    | with_reducible refine Goes.foldl ?_ ?_
    | exact fun _ h => Tab.wf_erase h _
    | exact fun _ h => Tab.wf_empty
    | exact fun _ h => Tab.wf_set h _ _
    | split
    | intro _

/-- What `State.recordWake` may change. -/
def fp_recordWake : Foot := ⟨[.power], some [0x60284, 0x60290, 0x60285, 0x60282, 0x60280, 0x60283, 0x60288, 0x60281]⟩
theorem Goes.recordWake {s : State} {w : WakeSource} {port : Option Nat} {from_ : Nat} (hF : fp_recordWake.le F = true) (hgo : Goes F s0 s) :
     Goes F s0 (State.recordWake s w port from_) := by
  unfold State.recordWake
  try dsimp only
  repeat' first
    | with_reducible assumption
    | with_reducible refine Goes.upPw (Foot.le_trans (by decide +kernel) hF) ?_
    | with_reducible refine Goes.on (List.mem_singleton.2 (fieldName_PWR_WAKE_SOURCE_FROM_STATE)) (known_PWR_WAKE_SOURCE_FROM_STATE).agrees (Foot.le_trans (by decide +kernel) hF) ?_
    | with_reducible refine Goes.on (List.mem_singleton.2 (fieldName_PWR_WAKE_SOURCE_SIGDET_PORT)) (known_PWR_WAKE_SOURCE_SIGDET_PORT).agrees (Foot.le_trans (by decide +kernel) hF) ?_
    | with_reducible refine Goes.on (names_WakeSource_cell _) (known_WakeSource_cell _).agrees (Foot.le_trans (by decide +kernel) hF) ?_
    | with_reducible refine Goes.wr (List.mem_singleton.2 (fieldName_PWR_WAKE_SOURCE_FROM_STATE)) (known_PWR_WAKE_SOURCE_FROM_STATE).agrees (Foot.le_trans (by decide +kernel) hF) ?_
    | with_reducible refine Goes.wr (List.mem_singleton.2 (fieldName_PWR_WAKE_SOURCE_SIGDET_PORT)) (known_PWR_WAKE_SOURCE_SIGDET_PORT).agrees (Foot.le_trans (by decide +kernel) hF) ?_
    | with_reducible refine Goes.wr (names_WakeSource_cell _) (known_WakeSource_cell _).agrees (Foot.le_trans (by decide +kernel) hF) ?_
    | with_reducible refine Goes.foldl ?_ ?_
    | split
    | intro _

/-- What `State.joinWake` may change. -/
def fp_joinWake : Foot := ⟨[.power], some [0x60284, 0x60285, 0x60282, 0x60280, 0x60283, 0x60288, 0x60281]⟩
theorem Goes.joinWake {s : State} {w : WakeSource} {port : Option Nat} (hF : fp_joinWake.le F = true) (hgo : Goes F s0 s) :
     Goes F s0 (State.joinWake s w port) := by
  unfold State.joinWake
  try dsimp only
  repeat' first
    | with_reducible assumption
    | with_reducible refine Goes.upPw (Foot.le_trans (by decide +kernel) hF) ?_
    | with_reducible refine Goes.on (List.mem_singleton.2 (fieldName_PWR_WAKE_SOURCE_SIGDET_PORT)) (known_PWR_WAKE_SOURCE_SIGDET_PORT).agrees (Foot.le_trans (by decide +kernel) hF) ?_
    | with_reducible refine Goes.on (names_WakeSource_cell _) (known_WakeSource_cell _).agrees (Foot.le_trans (by decide +kernel) hF) ?_
    | with_reducible refine Goes.wr (List.mem_singleton.2 (fieldName_PWR_WAKE_SOURCE_SIGDET_PORT)) (known_PWR_WAKE_SOURCE_SIGDET_PORT).agrees (Foot.le_trans (by decide +kernel) hF) ?_
    | with_reducible refine Goes.wr (names_WakeSource_cell _) (known_WakeSource_cell _).agrees (Foot.le_trans (by decide +kernel) hF) ?_
    | with_reducible refine Goes.foldl ?_ ?_
    | split
    | intro _

/-- What `State.wakeDevice` may change. -/
def fp_wakeDevice : Foot := ⟨[.tim, .power, .now, .count, .replicas, .freeCtr], some [0x8009D, 0x8009C, 0x8009F,
  0x6001A, 0x6001C, 0x6000F, 0x60010, 0x60284, 0x60290, 0x60285, 0x60282, 0x60280, 0x60283, 0x60288, 0x60281, 0x6030E,
  0x60300]⟩
theorem Goes.wakeDevice {s : State} {w : WakeSource} {port : Option Nat} (hF : fp_wakeDevice.le F = true) (hgo : Goes F s0 s) :
     Goes F s0 (State.wakeDevice s w port) := by
  unfold State.wakeDevice
  try dsimp only
  repeat' first
    | with_reducible assumption
    | with_reducible refine Goes.joinWake (Foot.le_trans (by decide +kernel) hF) ?_
    | with_reducible refine Goes.abandonEntry (Foot.le_trans (by decide +kernel) hF) ?_
    | with_reducible refine Goes.upPw (Foot.le_trans (by decide +kernel) hF) ?_
    | with_reducible refine Goes.wr (List.mem_singleton.2 (fieldName_PWR_STATUS_STATE)) (known_PWR_STATUS_STATE).agrees (Foot.le_trans (by decide +kernel) hF) ?_
    | with_reducible refine Goes.wr (List.mem_singleton.2 (fieldName_PWR_WAKE_STATUS_WAKE_US)) (known_PWR_WAKE_STATUS_WAKE_US).agrees (Foot.le_trans (by decide +kernel) hF) ?_
    | with_reducible refine Goes.recordWake (Foot.le_trans (by decide +kernel) hF) ?_
    | with_reducible refine Goes.deviceQuiet (Foot.le_trans (by decide +kernel) hF) ?_
    | with_reducible refine Goes.setLevel (Foot.le_trans (by decide +kernel) hF) ?_
    | with_reducible refine Goes.takeFree (Foot.le_trans (by decide +kernel) hF) ?_
    | with_reducible refine Goes.foldl ?_ ?_
    | split
    | intro _

/-- What `State.hostWrite` may change. -/
def fp_hostWrite : Foot := ⟨[], some []⟩
theorem Goes.hostWrite {s : State} {act : State → State} (hF : fp_hostWrite.le F = true) (hact : ∀ t, Goes F s0 t → Goes F s0 (act t)) (hgo : Goes F s0 s) :
     Goes F s0 (State.hostWrite s act) := by
  unfold State.hostWrite
  try dsimp only
  repeat' first
    | with_reducible assumption
    | with_reducible refine hact _ ?_
    | with_reducible refine Goes.foldl ?_ ?_
    | split
    | intro _

/-- What `State.hostCmd` may change. -/
def fp_hostCmd : Foot := ⟨[.tim, .power, .now, .count, .replicas, .freeCtr], some [0x8009D, 0x8009C, 0x8009F, 0x6001A,
  0x6001C, 0x6000F, 0x60010, 0x60284, 0x60290, 0x60285, 0x60282, 0x60280, 0x60283, 0x60288, 0x60281, 0x6030E, 0x60300]⟩
theorem Goes.hostCmd {s : State} {act : State → State} (hF : fp_hostCmd.le F = true) (hact : ∀ t, Goes F s0 t → Goes F s0 (act t)) (hgo : Goes F s0 s) :
     Goes F s0 (State.hostCmd s act) := by
  unfold State.hostCmd
  try dsimp only
  repeat' first
    | with_reducible assumption
    | with_reducible refine hact _ ?_
    | with_reducible refine Goes.wakeDevice (Foot.le_trans (by decide +kernel) hF) ?_
    | with_reducible refine Goes.hostWrite (Foot.le_trans (by decide +kernel) hF) ?_ ?_
    | with_reducible refine Goes.foldl ?_ ?_
    | split
    | intro _

/-- What `State.releaseTrig` may change. -/
def fp_releaseTrig : Foot := ⟨[.tim, .outbox], some []⟩
theorem Goes.releaseTrig {s : State} (hF : fp_releaseTrig.le F = true) (hgo : Goes F s0 s) :
     Goes F s0 (State.releaseTrig s) := by
  unfold State.releaseTrig
  try dsimp only
  repeat' first
    | with_reducible assumption
    | with_reducible refine Goes.upTim (Foot.le_trans (by decide +kernel) hF) (fun _ h => h) ?_
    | with_reducible refine Goes.upTim (Foot.le_trans (by decide +kernel) hF) ?_ ?_
    | with_reducible refine Goes.emit (Foot.le_trans (by decide +kernel) hF) ?_
    | with_reducible refine Goes.foldl ?_ ?_
    | exact fun _ h => Tab.wf_erase h _
    | exact fun _ h => Tab.wf_empty
    | exact fun _ h => Tab.wf_set h _ _
    | split
    | intro _

/-- What `State.sigdetWake` may change. -/
def fp_sigdetWake : Foot := ⟨[.tim, .power, .now, .count, .replicas, .freeCtr], some [0x8009D, 0x8009C, 0x8009F,
  0x100, 0x6001A, 0x6001C, 0x6000F, 0x60010, 0x60284, 0x60290, 0x60285, 0x60282, 0x60280, 0x60283, 0x60288, 0x60281,
  0x6030E, 0x60300]⟩
theorem Goes.sigdetWake {s : State} {h : Nat} (hF : fp_sigdetWake.le F = true) (hgo : Goes F s0 s) :
     Goes F s0 (State.sigdetWake s h) := by
  unfold State.sigdetWake
  try dsimp only
  repeat' first
    | with_reducible assumption
    | with_reducible refine Goes.wakeDevice (Foot.le_trans (by decide +kernel) hF) ?_
    | with_reducible refine Goes.wakeTile (Foot.le_trans (by decide +kernel) hF) ?_
    | with_reducible refine Goes.foldl ?_ ?_
    | split
    | intro _

end Sys2Proof.Machine
end

