-- ==== Sys2Proof/Laws/OnCalibration.lean ====
section
/-! SUPPORT. What each operation of `Machine/Calibration.lean` may change: one lemma for each. -/

set_option linter.all false
set_option Elab.async false

namespace Sys2Proof.Machine

variable {F : Foot} {s0 : State}

theorem calStoreWf_map {f : CalStore → CalStore} {o : Option CalStore} (h : calStoreWf o) (hf : ∀ c, (f c).buffer = c.buffer) :
    calStoreWf (o.map f) := by
  cases o with
  | none => trivial
  | some c => simpa [calStoreWf, hf] using h

theorem calStoreWf_some {s : State} {c : CalStore} (w : s.wf) (h : s.calStore = some c) : c.buffer.wf := by
  have h1 := w.calStore
  rw [h] at h1
  exact h1

theorem Tab.wf_foldl_set {α β : Type} {t : Tab α} (h : t.wf) (l : List β) (k : β → Nat) (v : β → α) :
    (l.foldl (fun t e => t.set (k e) (v e)) t).wf := by
  induction l generalizing t with
  | nil => exact h
  | cons e l ih => exact ih (Tab.wf_set h _ _)

theorem calStoreWf_step {s : State} {c : CalStore} (w : s.wf) (h : s.calStore = some c) (n : Nat) :
    calStoreWf (some { c with step := n }) := show c.buffer.wf from calStoreWf_some w h

theorem bodyTab_wf (n : Nat) : ∀ (j : Nat) (bs : List Byte) {t : Tab CalRec}, t.wf → (bodyTab n j bs t).wf := by
  induction n with
  | zero => exact fun _ _ _ h => h
  | succ n ih =>
    intro j bs t h
    refine ih _ _ ?_
    split
    · exact h
    · exact Tab.wf_set h _ _

/-- What `State.startRun` may change. -/
def fp_startRun : Foot := ⟨[.halves, .engines], some [0x220018, 0x220010, 0x200100, 0x40800F, 0x408008, 0x40800A,
  0x408000, 0x40800C]⟩
theorem Goes.startRun {s : State} {h : Nat} (hF : fp_startRun.le F = true) (hgo : Goes F s0 s) :
     Goes F s0 (State.startRun s h) := by
  unfold State.startRun
  try dsimp only
  repeat' first
    | with_reducible assumption
    | with_reducible refine Goes.upH (Foot.le_trans (by decide +kernel) hF) (fun _ h => h) ?_
    | with_reducible refine Goes.upH (Foot.le_trans (by decide +kernel) hF) ?_ ?_
    | with_reducible refine Goes.stopJob (Foot.le_trans (by decide +kernel) hF) ?_
    | with_reducible refine Goes.showRuns (Foot.le_trans (by decide +kernel) hF) ?_
    | with_reducible refine Goes.wr (List.mem_singleton.2 (fieldName_CAL_RX_LAST_RESULT _)) (known_CAL_RX_LAST_RESULT _).agrees (Foot.le_trans (by decide +kernel) hF) ?_
    | with_reducible refine Goes.wr (List.mem_singleton.2 (fieldName_CAL_RX_NQ_REASON _)) (known_CAL_RX_NQ_REASON _).agrees (Foot.le_trans (by decide +kernel) hF) ?_
    | with_reducible refine Goes.upE (Foot.le_trans (by decide +kernel) hF) ?_
    | with_reducible refine Goes.foldl ?_ ?_
    | exact fun _ h => h
    | exact fun _ h => by dsimp only; (repeat' split) <;> exact h
    | split
    | intro _

/-- What `State.calRun` may change. -/
def fp_calRun : Foot := ⟨[.halves, .engines], some [0x220018, 0x220010, 0x200100, 0x40800F, 0x408008, 0x40800A,
  0x408000, 0x40800C]⟩
theorem Goes.calRun {s : State} {scope : Nat} {half : Bool} {index : Nat} (hF : fp_calRun.le F = true) (hgo : Goes F s0 s) :
     Goes F s0 (State.calRun s scope half index) := by
  unfold State.calRun
  try dsimp only
  repeat' first
    | with_reducible assumption
    | with_reducible refine Goes.startRun (Foot.le_trans (by decide +kernel) hF) ?_
    | with_reducible refine Goes.each ?_ ?_
    | with_reducible refine Goes.foldl ?_ ?_
    | split
    | intro _

/-- What `execCalRun` may change. -/
def fp_execCalRun : Foot := ⟨[.halves, .engines, .tim, .power, .now, .count, .replicas, .freeCtr], some [0x220018,
  0x220010, 0x200100, 0x8009D, 0x8009C, 0x8009F, 0x40800F, 0x408008, 0x40800A, 0x408000, 0x40800C, 0x6001A, 0x6001C,
  0x6000F, 0x60010, 0x60284, 0x60290, 0x60285, 0x60282, 0x60280, 0x60283, 0x60288, 0x60281, 0x6030E, 0x60300]⟩
theorem goes_execCalRun {scope : Fin 4} {half : Bool} {index : Nat} {s : State} (hF : fp_execCalRun.le F = true) (hgo : Goes F s0 s) :
     Runs F s0 (execCalRun scope half index s) := by
  unfold execCalRun
  try dsimp only
  repeat' first
    | with_reducible assumption
    | with_reducible refine Runs.next ?_
    | with_reducible refine Goes.calRun (Foot.le_trans (by decide +kernel) hF) ?_
    | with_reducible refine Goes.hostCmd (Foot.le_trans (by decide +kernel) hF) ?_ ?_
    | with_reducible refine Goes.foldl ?_ ?_
    | split
    | intro _

/-- What `execCalAutoRun` may change. -/
def fp_execCalAutoRun : Foot := ⟨[.halves, .engines, .tim, .power, .now, .count, .replicas, .elapsed], some [0x220018,
  0x220010, 0x200100, 0x40800F, 0x408008, 0x40800A, 0x408000, 0x40800C, 0xC021B, 0xC0280]⟩
theorem goes_execCalAutoRun {h : HalfId} {s : State} (hF : fp_execCalAutoRun.le F = true) (hgo : Goes F s0 s) :
     Runs F s0 (execCalAutoRun h s) := by
  unfold execCalAutoRun
  try dsimp only
  repeat' first
    | with_reducible assumption
    | with_reducible refine Runs.next ?_
    | with_reducible refine Goes.advanceTo (Foot.le_trans (by decide +kernel) hF) ?_
    | with_reducible refine Goes.startRun (Foot.le_trans (by decide +kernel) hF) ?_
    | with_reducible refine Goes.foldl ?_ ?_
    | split
    | intro _

/-- What `execCalCaptureStart` may change. -/
def fp_execCalCaptureStart : Foot := ⟨[.halves], some []⟩
theorem goes_execCalCaptureStart {h : HalfId} {s : State} (hF : fp_execCalCaptureStart.le F = true) (hgo : Goes F s0 s) :
     Runs F s0 (execCalCaptureStart h s) := by
  unfold execCalCaptureStart
  try dsimp only
  repeat' first
    | with_reducible assumption
    | with_reducible refine Runs.next ?_
    | with_reducible refine Goes.upH (Foot.le_trans (by decide +kernel) hF) (fun _ h => h) ?_
    | with_reducible refine Goes.upH (Foot.le_trans (by decide +kernel) hF) ?_ ?_
    | with_reducible refine Goes.foldl ?_ ?_
    | exact fun _ h => h
    | exact fun _ h => by dsimp only; (repeat' split) <;> exact h
    | split
    | intro _

/-- What `execCalCaptureEnd` may change. -/
def fp_execCalCaptureEnd : Foot := ⟨[.halves, .tiles, .evq], some [0x220018, 0x220010, 0x200100, 0xE0390, 0xE0380,
  0xE0388, 0xE0210, 0xE0200, 0xE021E, 0xE0208, 0xE021F, 0xE0280, 0xE0100, 0xE0001, 0x100097]⟩
theorem goes_execCalCaptureEnd {h : HalfId} {stats : CaptureStats} {errors : CaptureErrors} {s : State} (hF : fp_execCalCaptureEnd.le F = true) (hgo : Goes F s0 s) :
     Runs F s0 (execCalCaptureEnd h stats errors s) := by
  unfold execCalCaptureEnd
  try dsimp only
  repeat' first
    | with_reducible assumption
    | with_reducible refine Runs.next ?_
    | with_reducible refine Goes.upH (Foot.le_trans (by decide +kernel) hF) (fun _ h => h) ?_
    | with_reducible refine Goes.upH (Foot.le_trans (by decide +kernel) hF) ?_ ?_
    | with_reducible refine Goes.wr (List.mem_singleton.2 (fieldName_CAL_RX_NQ_REASON _)) (known_CAL_RX_NQ_REASON _).agrees (Foot.le_trans (by decide +kernel) hF) ?_
    | with_reducible refine Goes.endRun (Foot.le_trans (by decide +kernel) hF) ?_
    | with_reducible refine Goes.foldl ?_ ?_
    | exact fun _ h => h
    | exact fun _ h => by dsimp only; (repeat' split) <;> exact h
    | split
    | intro _

/-- What `execCalComputeDone` may change. -/
def fp_execCalComputeDone : Foot := ⟨[.halves], some []⟩
theorem goes_execCalComputeDone {h : HalfId} {s : State} (hF : fp_execCalComputeDone.le F = true) (hgo : Goes F s0 s) :
     Runs F s0 (execCalComputeDone h s) := by
  unfold execCalComputeDone
  try dsimp only
  repeat' first
    | with_reducible assumption
    | with_reducible refine Runs.next ?_
    | with_reducible refine Goes.upH (Foot.le_trans (by decide +kernel) hF) (fun _ h => h) ?_
    | with_reducible refine Goes.upH (Foot.le_trans (by decide +kernel) hF) ?_ ?_
    | with_reducible refine Goes.scheduleSet (Foot.le_trans (by decide +kernel) hF) ?_
    | with_reducible refine Goes.foldl ?_ ?_
    | exact fun _ h => h
    | exact fun _ h => by dsimp only; (repeat' split) <;> exact h
    | split
    | intro _

/-- What `State.showPoints` may change. -/
def fp_showPoints : Foot := ⟨[], some [0x220004]⟩
theorem Goes.showPoints {s : State} {h : Nat} (hF : fp_showPoints.le F = true) (hgo : Goes F s0 s) :
     Goes F s0 (State.showPoints s h) := by
  unfold State.showPoints
  try dsimp only
  repeat' first
    | with_reducible assumption
    | with_reducible refine Goes.wr (List.mem_singleton.2 (fieldName_CAL_RX_VALID_POINTS _)) (known_CAL_RX_VALID_POINTS _).agrees (Foot.le_trans (by decide +kernel) hF) ?_
    | with_reducible refine Goes.foldl ?_ ?_
    | split
    | intro _

/-- What `State.calChanged` may change. -/
def fp_calChanged : Foot := ⟨[.calStore], some [0x200119]⟩
theorem Goes.calChanged {s : State} (hF : fp_calChanged.le F = true) (hgo : Goes F s0 s) :
     Goes F s0 (State.calChanged s) := by
  unfold State.calChanged
  try dsimp only
  repeat' first
    | with_reducible assumption
    | exact fun _ w => calStoreWf_map w.calStore (fun _ => rfl)
    | with_reducible refine Goes.setCalStore (Foot.le_trans (by decide +kernel) hF) ?_ ?_
    | with_reducible refine Goes.on (List.mem_singleton.2 (fieldName_CAL_STATUS_DIRTY)) (known_CAL_STATUS_DIRTY).agrees (Foot.le_trans (by decide +kernel) hF) ?_
    | with_reducible refine Goes.foldl ?_ ?_
    | exact fun _ _ => trivial
    | split
    | intro _

/-- What `State.calVerify` may change. -/
def fp_calVerify : Foot := ⟨[.halves, .calTab, .calStore, .tiles, .evq], some [0x220018, 0x220010, 0x220000, 0x220004,
  0x200119, 0x200100, 0xE0390, 0xE0380, 0xE0388, 0xE0210, 0xE0200, 0xE021E, 0xE0208, 0xE021F, 0xE0280, 0xE0100, 0xE0001,
  0x100097]⟩
theorem Goes.calVerify {s : State} {h : Nat} {fom : Nat} (hF : fp_calVerify.le F = true) (hgo : Goes F s0 s) :
     Goes F s0 (State.calVerify s h fom) := by
  unfold State.calVerify
  try dsimp only
  repeat' first
    | with_reducible assumption
    | exact fun _ w => Tab.wf_foldl_set w.calTab _ _ _
    | with_reducible refine Goes.setCalTab (Foot.le_trans (by decide +kernel) hF) ?_ ?_
    | with_reducible refine Goes.upH (Foot.le_trans (by decide +kernel) hF) (fun _ h => h) ?_
    | with_reducible refine Goes.upH (Foot.le_trans (by decide +kernel) hF) ?_ ?_
    | with_reducible refine Goes.scheduleTable (Foot.le_trans (by decide +kernel) hF) ?_
    | with_reducible refine Goes.calChanged (Foot.le_trans (by decide +kernel) hF) ?_
    | with_reducible refine Goes.scheduleBack (Foot.le_trans (by decide +kernel) hF) ?_
    | with_reducible refine Goes.endRun (Foot.le_trans (by decide +kernel) hF) ?_
    | with_reducible refine Goes.showPoints (Foot.le_trans (by decide +kernel) hF) ?_
    | with_reducible refine Goes.wrapUp (List.mem_singleton.2 (fieldName_CAL_RX_RUN_CNT _)) (known_CAL_RX_RUN_CNT _).agrees (Foot.le_trans (by decide +kernel) hF) ?_
    | with_reducible refine Goes.foldl ?_ ?_
    | exact fun _ w => Tab.wf_empty
    | exact fun _ w => Tab.wf_set w.calTab _ _
    | exact fun _ w => Tab.wf_erase w.calTab _
    | exact fun _ w => Tab.wf_keep w.calTab _
    | exact fun _ w => Tab.wf_map w.calTab _
    | exact fun _ h => h
    | exact fun _ h => by dsimp only; (repeat' split) <;> exact h
    | split
    | intro _

/-- What `execFomWindowEnd` may change. -/
def fp_execFomWindowEnd : Foot := ⟨[.halves, .sides, .ports, .calTab, .engines, .calStore, .tiles, .evq, .outbox],
  some [0x220018, 0x220010, 0x220000, 0x220004, 0x200119, 0x200100, 0x40800F, 0x408008, 0x40800A, 0x408000, 0x40800C,
  0xE0390, 0xE0380, 0xE0388, 0xE0210, 0xE0200, 0xE021E, 0xE0208, 0xE021F, 0xE0280, 0xE0100, 0xE0001, 0x4000418,
  0x4000413, 0x400041F, 0x4000294, 0x400029C, 0x400029A, 0x4000280, 0x4000288, 0x400029D, 0x400029E, 0x4000290,
  0x400029B, 0x4000500, 0x400050D, 0x4000518, 0x400050E, 0x400051C, 0x4000513, 0x4000319, 0x400030C, 0x4000304,
  0x4000313, 0x4000486, 0x4000480, 0x4000487, 0x4000398, 0x400038C, 0x4000392, 0x4000386, 0x4000380, 0x400039E,
  0x2000104, 0x200011E, 0x200010C, 0x2000100, 0x200011D, 0x2000108, 0x200011F, 0x200090A, 0x200091C, 0x2000E08,
  0x2000D05, 0x2000D03, 0x2000D06, 0x2000D10, 0x2000D00, 0x2000D1C, 0x2000D08, 0x2000D18, 0x2000510, 0x2000519,
  0x2000508, 0x200048F, 0x2000498, 0x2000494, 0x200048E, 0x200048B, 0x2000488, 0x2000490, 0x200049C, 0x2000492,
  0x100097]⟩
theorem goes_execFomWindowEnd {h : HalfId} {pwr : Nat} {noise : Nat} {rx : RxCoef} {s : State} (hF : fp_execFomWindowEnd.le F = true) (hgo : Goes F s0 s) :
     Runs F s0 (execFomWindowEnd h pwr noise rx s) := by
  unfold execFomWindowEnd
  try dsimp only
  repeat' first
    | with_reducible assumption
    | with_reducible refine Runs.next ?_
    | with_reducible refine Goes.windowDropped (Foot.le_trans (by decide +kernel) hF) ?_
    | with_reducible refine Goes.windowStep (Foot.le_trans (by decide +kernel) hF) ?_
    | with_reducible refine Goes.upH (Foot.le_trans (by decide +kernel) hF) (fun _ h => h) ?_
    | with_reducible refine Goes.upH (Foot.le_trans (by decide +kernel) hF) ?_ ?_
    | with_reducible refine Goes.noted (Foot.le_trans (by decide +kernel) hF) ?_
    | with_reducible refine Goes.declareFault (Foot.le_trans (by decide +kernel) hF) ?_
    | with_reducible refine Goes.calVerify (Foot.le_trans (by decide +kernel) hF) ?_
    | with_reducible refine Goes.recoveredSoft (Foot.le_trans (by decide +kernel) hF) ?_
    | with_reducible refine Goes.publishFom (Foot.le_trans (by decide +kernel) hF) ?_
    | with_reducible refine Goes.evalWindow (Foot.le_trans (by decide +kernel) hF) ?_
    | with_reducible refine Goes.showSide (Foot.le_trans (by decide +kernel) hF) ?_
    | with_reducible refine Goes.adapted (Foot.le_trans (by decide +kernel) hF) ?_
    | with_reducible refine Goes.foldl ?_ ?_
    | exact fun _ h => h
    | exact fun _ h => by dsimp only; (repeat' split) <;> exact h
    | split
    | intro _

/-- What `State.setHold` may change. -/
def fp_setHold : Foot := ⟨[.halves, .tiles, .evq], some [0x22001F, 0x220018, 0x220010, 0x200100, 0xE0390, 0xE0380,
  0xE0388, 0xE0210, 0xE0200, 0xE021E, 0xE0208, 0xE021F, 0xE0280, 0xE0100, 0xE0001, 0x100097]⟩
theorem Goes.setHold {s : State} {h : Nat} (hF : fp_setHold.le F = true) (hgo : Goes F s0 s) :
     Goes F s0 (State.setHold s h) := by
  unfold State.setHold
  try dsimp only
  repeat' first
    | with_reducible assumption
    | with_reducible refine Goes.upH (Foot.le_trans (by decide +kernel) hF) (fun _ h => h) ?_
    | with_reducible refine Goes.upH (Foot.le_trans (by decide +kernel) hF) ?_ ?_
    | with_reducible refine Goes.on (List.mem_singleton.2 (fieldName_CAL_RX_HOLD _)) (known_CAL_RX_HOLD _).agrees (Foot.le_trans (by decide +kernel) hF) ?_
    | with_reducible refine Goes.abortRun (Foot.le_trans (by decide +kernel) hF) ?_
    | with_reducible refine Goes.foldl ?_ ?_
    | exact fun _ h => h
    | exact fun _ h => by dsimp only; (repeat' split) <;> exact h
    | split
    | intro _

/-- What `execCalHoldWrite` may change. -/
def fp_execCalHoldWrite : Foot := ⟨[.halves, .tiles, .evq], some [0x22001F, 0x220018, 0x220010, 0x200100, 0xE0390,
  0xE0380, 0xE0388, 0xE0210, 0xE0200, 0xE021E, 0xE0208, 0xE021F, 0xE0280, 0xE0100, 0xE0001, 0x100097]⟩
theorem goes_execCalHoldWrite {h : HalfId} {s : State} (hF : fp_execCalHoldWrite.le F = true) (hgo : Goes F s0 s) :
     Runs F s0 (execCalHoldWrite h s) := by
  unfold execCalHoldWrite
  try dsimp only
  repeat' first
    | with_reducible assumption
    | with_reducible refine Runs.next ?_
    | with_reducible refine Goes.hostWrite (Foot.le_trans (by decide +kernel) hF) ?_ ?_
    | with_reducible refine Goes.setHold (Foot.le_trans (by decide +kernel) hF) ?_
    | with_reducible refine Goes.foldl ?_ ?_
    | split
    | intro _

/-- What `execInterpolationStep` may change. -/
def fp_execInterpolationStep : Foot := ⟨[.halves], some [0x200800, 0x20081F]⟩
theorem goes_execInterpolationStep {t : TileId} {temp : Int} {s : State} (hF : fp_execInterpolationStep.le F = true) (hgo : Goes F s0 s) :
     Runs F s0 (execInterpolationStep t temp s) := by
  unfold execInterpolationStep
  try dsimp only
  repeat' first
    | with_reducible assumption
    | with_reducible refine Runs.next ?_
    | with_reducible refine Goes.scheduleTable (Foot.le_trans (by decide +kernel) hF) ?_
    | with_reducible refine Goes.on (List.mem_singleton.2 (fieldName_CAL_TEMP_TEMP _)) (known_CAL_TEMP_TEMP _).agrees (Foot.le_trans (by decide +kernel) hF) ?_
    | with_reducible refine Goes.on (List.mem_singleton.2 (fieldName_CAL_TEMP_VALID _)) (known_CAL_TEMP_VALID _).agrees (Foot.le_trans (by decide +kernel) hF) ?_
    | with_reducible refine Goes.wr (List.mem_singleton.2 (fieldName_CAL_TEMP_TEMP _)) (known_CAL_TEMP_TEMP _).agrees (Foot.le_trans (by decide +kernel) hF) ?_
    | with_reducible refine Goes.wr (List.mem_singleton.2 (fieldName_CAL_TEMP_VALID _)) (known_CAL_TEMP_VALID _).agrees (Foot.le_trans (by decide +kernel) hF) ?_
    | with_reducible refine Goes.each ?_ ?_
    | with_reducible refine Goes.foldl ?_ ?_
    | split
    | intro _

/-- What `State.tableChanged` may change. -/
def fp_tableChanged : Foot := ⟨[.halves, .tiles, .evq], some [0x220018, 0x220010, 0x220004, 0x200100, 0xE0390,
  0xE0380, 0xE0388, 0xE0210, 0xE0200, 0xE021E, 0xE0208, 0xE021F, 0xE0280, 0xE0100, 0xE0001, 0x100097]⟩
theorem Goes.tableChanged {s : State} {h : Nat} (hF : fp_tableChanged.le F = true) (hgo : Goes F s0 s) :
     Goes F s0 (State.tableChanged s h) := by
  unfold State.tableChanged
  try dsimp only
  repeat' first
    | with_reducible assumption
    | with_reducible refine Goes.scheduleTable (Foot.le_trans (by decide +kernel) hF) ?_
    | with_reducible refine Goes.showPoints (Foot.le_trans (by decide +kernel) hF) ?_
    | with_reducible refine Goes.clearRun (Foot.le_trans (by decide +kernel) hF) ?_
    | with_reducible refine Goes.foldl ?_ ?_
    | split
    | intro _

/-- What `State.calClear` may change. -/
def fp_calClear : Foot := ⟨[.halves, .calTab, .calStore, .tiles, .evq], some [0x220018, 0x220010, 0x220004, 0x200119,
  0x200100, 0xE0390, 0xE0380, 0xE0388, 0xE0210, 0xE0200, 0xE021E, 0xE0208, 0xE021F, 0xE0280, 0xE0100, 0xE0001,
  0x100097]⟩
theorem Goes.calClear {s : State} {scope : Nat} {half : Bool} {index : Nat} (hF : fp_calClear.le F = true) (hgo : Goes F s0 s) :
     Goes F s0 (State.calClear s scope half index) := by
  unfold State.calClear
  try dsimp only
  repeat' first
    | with_reducible assumption
    | with_reducible refine Goes.setCalTab (Foot.le_trans (by decide +kernel) hF) ?_ ?_
    | with_reducible refine Goes.calChanged (Foot.le_trans (by decide +kernel) hF) ?_
    | with_reducible refine Goes.each ?_ ?_
    | with_reducible refine Goes.tableChanged (Foot.le_trans (by decide +kernel) hF) ?_
    | with_reducible refine Goes.foldl ?_ ?_
    | exact fun _ w => Tab.wf_empty
    | exact fun _ w => Tab.wf_set w.calTab _ _
    | exact fun _ w => Tab.wf_erase w.calTab _
    | exact fun _ w => Tab.wf_keep w.calTab _
    | exact fun _ w => Tab.wf_map w.calTab _
    | split
    | intro _

/-- What `execCalClear` may change. -/
def fp_execCalClear : Foot := ⟨[.halves, .calTab, .calStore, .tim, .tiles, .power, .evq, .now, .count, .replicas,
  .freeCtr], some [0x220018, 0x220010, 0x220004, 0x200119, 0x200100, 0x8009D, 0x8009C, 0x8009F, 0xE0390, 0xE0380,
  0xE0388, 0xE0210, 0xE0200, 0xE021E, 0xE0208, 0xE021F, 0xE0280, 0xE0100, 0xE0001, 0x6001A, 0x6001C, 0x6000F, 0x60010,
  0x60284, 0x60290, 0x60285, 0x60282, 0x60280, 0x60283, 0x60288, 0x60281, 0x6030E, 0x60300, 0x100097]⟩
theorem goes_execCalClear {scope : Fin 4} {half : Bool} {index : Nat} {s : State} (hF : fp_execCalClear.le F = true) (hgo : Goes F s0 s) :
     Runs F s0 (execCalClear scope half index s) := by
  unfold execCalClear
  try dsimp only
  repeat' first
    | with_reducible assumption
    | with_reducible refine Runs.next ?_
    | with_reducible refine Goes.hostCmd (Foot.le_trans (by decide +kernel) hF) ?_ ?_
    | with_reducible refine Goes.calClear (Foot.le_trans (by decide +kernel) hF) ?_
    | with_reducible refine Goes.foldl ?_ ?_
    | split
    | intro _

/-- What `State.storeEnd` may change. -/
def fp_storeEnd : Foot := ⟨[.calStore, .storeWait, .imgOp, .tiles, .power], some [0x20011F, 0x20011C]⟩
theorem Goes.storeEnd {s : State} {result : Nat} (hF : fp_storeEnd.le F = true) (hgo : Goes F s0 s) :
     Goes F s0 (State.storeEnd s result) := by
  unfold State.storeEnd
  try dsimp only
  repeat' first
    | with_reducible assumption
    | with_reducible refine Goes.setCalStore (Foot.le_trans (by decide +kernel) hF) ?_ ?_
    | with_reducible refine Goes.wr (List.mem_singleton.2 (fieldName_CAL_STATUS_STORE_BUSY)) (known_CAL_STATUS_STORE_BUSY).agrees (Foot.le_trans (by decide +kernel) hF) ?_
    | with_reducible refine Goes.wr (List.mem_singleton.2 (fieldName_CAL_STATUS_STORE_RESULT)) (known_CAL_STATUS_STORE_RESULT).agrees (Foot.le_trans (by decide +kernel) hF) ?_
    | with_reducible refine Goes.tileQuiet (Foot.le_trans (by decide +kernel) hF) ?_
    | with_reducible refine Goes.each ?_ ?_
    | with_reducible refine Goes.off (List.mem_singleton.2 (fieldName_CAL_STATUS_STORE_BUSY)) (known_CAL_STATUS_STORE_BUSY).agrees (Foot.le_trans (by decide +kernel) hF) ?_
    | with_reducible refine Goes.off (List.mem_singleton.2 (fieldName_CAL_STATUS_STORE_RESULT)) (known_CAL_STATUS_STORE_RESULT).agrees (Foot.le_trans (by decide +kernel) hF) ?_
    | with_reducible refine Goes.setImgOp (Foot.le_trans (by decide +kernel) hF) ?_
    | with_reducible refine Goes.setStoreWait (Foot.le_trans (by decide +kernel) hF) ?_
    | with_reducible refine Goes.deviceQuiet (Foot.le_trans (by decide +kernel) hF) ?_
    | with_reducible refine Goes.foldl ?_ ?_
    | exact fun _ _ => trivial
    | split
    | intro _

/-- What `State.storeBegin` may change. -/
def fp_storeBegin : Foot := ⟨[.calStore, .storeWait, .lastStore, .imgOp, .tiles, .power], some [0x20011F, 0x20011C]⟩
theorem Goes.storeBegin {s : State} (hF : fp_storeBegin.le F = true) (hgo : Goes F s0 s) :
     Goes F s0 (State.storeBegin s) := by
  unfold State.storeBegin
  try dsimp only
  repeat' first
    | with_reducible assumption
    | exact fun _ w => w.calTab
    | with_reducible refine Goes.setCalStore (Foot.le_trans (by decide +kernel) hF) ?_ ?_
    | with_reducible refine Goes.on (List.mem_singleton.2 (fieldName_CAL_STATUS_STORE_BUSY)) (known_CAL_STATUS_STORE_BUSY).agrees (Foot.le_trans (by decide +kernel) hF) ?_
    | with_reducible refine Goes.setStoreWait (Foot.le_trans (by decide +kernel) hF) ?_
    | with_reducible refine Goes.storeEnd (Foot.le_trans (by decide +kernel) hF) ?_
    | with_reducible refine Goes.setLastStore (Foot.le_trans (by decide +kernel) hF) ?_
    | with_reducible refine Goes.foldl ?_ ?_
    | exact fun _ _ => trivial
    | split
    | intro _

/-- What `State.storeAsk` may change. -/
def fp_storeAsk : Foot := ⟨[.calStore, .storeWait, .lastStore, .imgOp, .tiles, .power], some [0x20011F, 0x20011C]⟩
theorem Goes.storeAsk {s : State} (hF : fp_storeAsk.le F = true) (hgo : Goes F s0 s) :
     Goes F s0 (State.storeAsk s) := by
  unfold State.storeAsk
  try dsimp only
  repeat' first
    | with_reducible assumption
    | with_reducible refine Goes.on (List.mem_singleton.2 (fieldName_CAL_STATUS_STORE_BUSY)) (known_CAL_STATUS_STORE_BUSY).agrees (Foot.le_trans (by decide +kernel) hF) ?_
    | with_reducible refine Goes.storeBegin (Foot.le_trans (by decide +kernel) hF) ?_
    | with_reducible refine Goes.setStoreWait (Foot.le_trans (by decide +kernel) hF) ?_
    | with_reducible refine Goes.foldl ?_ ?_
    | split
    | intro _

/-- What `State.calStoreCmd` may change. -/
def fp_calStoreCmd : Foot := ⟨[.calStore, .storeWait, .lastStore, .imgOp, .tiles, .power], some [0x20011F, 0x20011C]⟩
theorem Goes.calStoreCmd {s : State} (hF : fp_calStoreCmd.le F = true) (hgo : Goes F s0 s) :
     Goes F s0 (State.calStoreCmd s) := by
  unfold State.calStoreCmd
  try dsimp only
  repeat' first
    | with_reducible assumption
    | with_reducible refine Goes.wr (List.mem_singleton.2 (fieldName_CAL_STATUS_STORE_RESULT)) (known_CAL_STATUS_STORE_RESULT).agrees (Foot.le_trans (by decide +kernel) hF) ?_
    | with_reducible refine Goes.storeAsk (Foot.le_trans (by decide +kernel) hF) ?_
    | with_reducible refine Goes.foldl ?_ ?_
    | split
    | intro _

/-- What `execCalStore` may change. -/
def fp_execCalStore : Foot := ⟨[.calStore, .storeWait, .lastStore, .imgOp, .tim, .tiles, .power, .now, .count,
  .replicas, .freeCtr], some [0x20011F, 0x20011C, 0x8009D, 0x8009C, 0x8009F, 0x6001A, 0x6001C, 0x6000F, 0x60010,
  0x60284, 0x60290, 0x60285, 0x60282, 0x60280, 0x60283, 0x60288, 0x60281, 0x6030E, 0x60300]⟩
theorem goes_execCalStore {s : State} (hF : fp_execCalStore.le F = true) (hgo : Goes F s0 s) :
     Runs F s0 (execCalStore s) := by
  unfold execCalStore
  try dsimp only
  repeat' first
    | with_reducible assumption
    | with_reducible refine Runs.next ?_
    | with_reducible refine Goes.calStoreCmd (Foot.le_trans (by decide +kernel) hF) ?_
    | with_reducible refine Goes.hostCmd (Foot.le_trans (by decide +kernel) hF) ?_ ?_
    | with_reducible refine Goes.foldl ?_ ?_
    | split
    | intro _

/-- What `execCalAutoStore` may change. -/
def fp_execCalAutoStore : Foot := ⟨[.calStore, .storeWait, .lastStore, .imgOp, .tim, .tiles, .power, .now, .count,
  .replicas, .elapsed], some [0x20011F, 0x20011C, 0xC021B, 0xC0280]⟩
theorem goes_execCalAutoStore {s : State} (hF : fp_execCalAutoStore.le F = true) (hgo : Goes F s0 s) :
     Runs F s0 (execCalAutoStore s) := by
  unfold execCalAutoStore
  try dsimp only
  repeat' first
    | with_reducible assumption
    | with_reducible refine Runs.next ?_
    | with_reducible refine Goes.advanceTo (Foot.le_trans (by decide +kernel) hF) ?_
    | with_reducible refine Goes.storeAsk (Foot.le_trans (by decide +kernel) hF) ?_
    | with_reducible refine Goes.foldl ?_ ?_
    | split
    | intro _

/-- What `State.loadCal` may change. -/
def fp_loadCal : Foot := ⟨[.calTab], some [0x200180, 0x220004, 0x20011A, 0x200119]⟩
theorem Goes.loadCal {s : State} {flashAnswers : Bool} (hF : fp_loadCal.le F = true) (hgo : Goes F s0 s) :
     Goes F s0 (State.loadCal s flashAnswers) := by
  unfold State.loadCal
  try dsimp only
  repeat' first
    | with_reducible assumption
    | with_reducible exact fun _ _ => bodyTab_wf _ _ _ Tab.wf_empty
    | with_reducible exact fun _ _ => Tab.wf_empty
    | with_reducible refine Goes.setCalTab (Foot.le_trans (by decide +kernel) hF) ?_ ?_
    | with_reducible refine Goes.wr (List.mem_singleton.2 (fieldName_CAL_GEN_GENERATION)) (known_CAL_GEN_GENERATION).agrees (Foot.le_trans (by decide +kernel) hF) ?_
    | with_reducible refine Goes.wr (List.mem_singleton.2 (fieldName_CAL_STATUS_BOOT_COPY)) (known_CAL_STATUS_BOOT_COPY).agrees (Foot.le_trans (by decide +kernel) hF) ?_
    | with_reducible refine Goes.wr (List.mem_singleton.2 (fieldName_CAL_STATUS_DIRTY)) (known_CAL_STATUS_DIRTY).agrees (Foot.le_trans (by decide +kernel) hF) ?_
    | with_reducible refine Goes.each ?_ ?_
    | with_reducible refine Goes.off (List.mem_singleton.2 (fieldName_CAL_GEN_GENERATION)) (known_CAL_GEN_GENERATION).agrees (Foot.le_trans (by decide +kernel) hF) ?_
    | with_reducible refine Goes.off (List.mem_singleton.2 (fieldName_CAL_STATUS_BOOT_COPY)) (known_CAL_STATUS_BOOT_COPY).agrees (Foot.le_trans (by decide +kernel) hF) ?_
    | with_reducible refine Goes.off (List.mem_singleton.2 (fieldName_CAL_STATUS_DIRTY)) (known_CAL_STATUS_DIRTY).agrees (Foot.le_trans (by decide +kernel) hF) ?_
    | with_reducible refine Goes.showPoints (Foot.le_trans (by decide +kernel) hF) ?_
    | with_reducible refine Goes.foldl ?_ ?_
    | exact fun _ w => Tab.wf_empty
    | exact fun _ w => Tab.wf_set w.calTab _ _
    | exact fun _ w => Tab.wf_erase w.calTab _
    | exact fun _ w => Tab.wf_keep w.calTab _
    | exact fun _ w => Tab.wf_map w.calTab _
    | split
    | intro _

/-- What `State.calReload` may change. -/
def fp_calReload : Foot := ⟨[.halves, .calTab, .tiles, .evq, .freeCtr], some [0x200180, 0x220018, 0x220010, 0x220004,
  0x20011A, 0x200119, 0x200100, 0x20011C, 0xE0390, 0xE0380, 0xE0388, 0xE0210, 0xE0200, 0xE021E, 0xE0208, 0xE021F,
  0xE0280, 0xE0100, 0xE0001, 0x100097]⟩
theorem Goes.calReload {s : State} (hF : fp_calReload.le F = true) (hgo : Goes F s0 s) :
     Goes F s0 (State.calReload s) := by
  unfold State.calReload
  try dsimp only
  repeat' first
    | with_reducible assumption
    | with_reducible refine Goes.wr (List.mem_singleton.2 (fieldName_CAL_STATUS_STORE_RESULT)) (known_CAL_STATUS_STORE_RESULT).agrees (Foot.le_trans (by decide +kernel) hF) ?_
    | with_reducible refine Goes.each ?_ ?_
    | with_reducible refine Goes.tableChanged (Foot.le_trans (by decide +kernel) hF) ?_
    | with_reducible refine Goes.takeFree (Foot.le_trans (by decide +kernel) hF) ?_
    | with_reducible refine Goes.loadCal (Foot.le_trans (by decide +kernel) hF) ?_
    | with_reducible refine Goes.foldl ?_ ?_
    | split
    | intro _

/-- What `execCalReload` may change. -/
def fp_execCalReload : Foot := ⟨[.halves, .calTab, .tim, .tiles, .power, .evq, .now, .count, .replicas, .freeCtr],
  some [0x200180, 0x220018, 0x220010, 0x220004, 0x20011A, 0x200119, 0x200100, 0x20011C, 0x8009D, 0x8009C, 0x8009F,
  0xE0390, 0xE0380, 0xE0388, 0xE0210, 0xE0200, 0xE021E, 0xE0208, 0xE021F, 0xE0280, 0xE0100, 0xE0001, 0x6001A, 0x6001C,
  0x6000F, 0x60010, 0x60284, 0x60290, 0x60285, 0x60282, 0x60280, 0x60283, 0x60288, 0x60281, 0x6030E, 0x60300, 0x100097]⟩
theorem goes_execCalReload {s : State} (hF : fp_execCalReload.le F = true) (hgo : Goes F s0 s) :
     Runs F s0 (execCalReload s) := by
  unfold execCalReload
  try dsimp only
  repeat' first
    | with_reducible assumption
    | with_reducible refine Runs.next ?_
    | with_reducible refine Goes.calReload (Foot.le_trans (by decide +kernel) hF) ?_
    | with_reducible refine Goes.hostCmd (Foot.le_trans (by decide +kernel) hF) ?_ ?_
    | with_reducible refine Goes.foldl ?_ ?_
    | split
    | intro _

/-- What `State.eraseHeader` may change. -/
def fp_eraseHeader : Foot := ⟨[.flash], some []⟩
theorem Goes.eraseHeader {s : State} {b : Bool} (hF : fp_eraseHeader.le F = true) (hgo : Goes F s0 s) :
     Goes F s0 (State.eraseHeader s b) := by
  unfold State.eraseHeader
  try dsimp only
  repeat' first
    | with_reducible assumption
    | with_reducible refine Goes.flashErase (Foot.le_trans (by decide +kernel) hF) ?_
    | with_reducible refine Goes.foldl ?_ ?_
    | split
    | intro _

/-- What `State.writeHeader` may change. -/
def fp_writeHeader : Foot := ⟨[.flash], some []⟩
theorem Goes.writeHeader {s : State} {c : CalStore} (hF : fp_writeHeader.le F = true) (hgo : Goes F s0 s) :
     Goes F s0 (State.writeHeader s c) := by
  unfold State.writeHeader
  try dsimp only
  repeat' first
    | with_reducible assumption
    | with_reducible refine Goes.flashWrite (Foot.le_trans (by decide +kernel) hF) ?_
    | with_reducible refine Goes.foldl ?_ ?_
    | split
    | intro _

/-- What `State.spoilStore` may change. -/
def fp_spoilStore : Foot := ⟨[.flash, .freeCtr], some []⟩
theorem Goes.spoilStore {s : State} {c : CalStore} (hF : fp_spoilStore.le F = true) (hgo : Goes F s0 s) :
     Goes F s0 (State.spoilStore s c) := by
  unfold State.spoilStore
  try dsimp only
  repeat' first
    | with_reducible assumption
    | with_reducible refine Goes.flashErase (Foot.le_trans (by decide +kernel) hF) ?_
    | with_reducible refine Goes.flashSpoil (Foot.le_trans (by decide +kernel) hF) ?_
    | with_reducible refine Goes.foldl ?_ ?_
    | split
    | intro _

/-- What `State.storeStep` may change. -/
def fp_storeStep : Foot := ⟨[.flash], some []⟩
theorem Goes.storeStep {s : State} {c : CalStore} (hF : fp_storeStep.le F = true) (hgo : Goes F s0 s) :
     Goes F s0 (State.storeStep s c) := by
  unfold State.storeStep
  try dsimp only
  repeat' first
    | with_reducible assumption
    | with_reducible refine Goes.writeHeader (Foot.le_trans (by decide +kernel) hF) ?_
    | with_reducible refine Goes.eraseHeader (Foot.le_trans (by decide +kernel) hF) ?_
    | with_reducible refine Goes.flashErase (Foot.le_trans (by decide +kernel) hF) ?_
    | with_reducible refine Goes.flashWrite (Foot.le_trans (by decide +kernel) hF) ?_
    | with_reducible refine Goes.foldl ?_ ?_
    | split
    | intro _

/-- What `execCalStoreFlashDone` may change. -/
def fp_execCalStoreFlashDone : Foot := ⟨[.flash, .calStore, .storeWait, .imgOp, .tiles, .power, .freeCtr], some
  [0x200180, 0x200119, 0x20011F, 0x20011C]⟩
theorem goes_execCalStoreFlashDone {ok : Bool} {s : State} (hF : fp_execCalStoreFlashDone.le F = true) (hgo : Goes F s0 s) :
     Runs F s0 (execCalStoreFlashDone ok s) := by
  unfold execCalStoreFlashDone
  try dsimp only
  repeat' first
    | with_reducible assumption
    | with_reducible refine Runs.next ?_
    | exact fun w0 _ => calStoreWf_step (hgo.wf w0) (by assumption) _
    | exact fun _ _ => trivial
    | exact fun w0 _ => calStoreWf_some (hgo.wf w0) (by assumption)
    | with_reducible refine Goes.eraseHeader (Foot.le_trans (by decide +kernel) hF) ?_
    | with_reducible refine Goes.setCalStore (Foot.le_trans (by decide +kernel) hF) ?_ ?_
    | with_reducible refine Goes.spoilStore (Foot.le_trans (by decide +kernel) hF) ?_
    | with_reducible refine Goes.wr (List.mem_singleton.2 (fieldName_CAL_GEN_GENERATION)) (known_CAL_GEN_GENERATION).agrees (Foot.le_trans (by decide +kernel) hF) ?_
    | with_reducible refine Goes.wr (List.mem_singleton.2 (fieldName_CAL_STATUS_DIRTY)) (known_CAL_STATUS_DIRTY).agrees (Foot.le_trans (by decide +kernel) hF) ?_
    | with_reducible refine Goes.storeStep (Foot.le_trans (by decide +kernel) hF) ?_
    | with_reducible refine Goes.put (List.mem_singleton.2 (fieldName_CAL_GEN_GENERATION)) (known_CAL_GEN_GENERATION).agrees (Foot.le_trans (by decide +kernel) hF) ?_
    | with_reducible refine Goes.put (List.mem_singleton.2 (fieldName_CAL_STATUS_DIRTY)) (known_CAL_STATUS_DIRTY).agrees (Foot.le_trans (by decide +kernel) hF) ?_
    | with_reducible refine Goes.storeEnd (Foot.le_trans (by decide +kernel) hF) ?_
    | with_reducible refine Goes.foldl ?_ ?_
    | exact fun _ _ => trivial
    | split
    | intro _

/-- What `execCalStoreTimeout` may change. -/
def fp_execCalStoreTimeout : Foot := ⟨[.flash, .calStore, .storeWait, .imgOp, .tim, .tiles, .power, .now, .count,
  .replicas, .elapsed, .freeCtr], some [0x20011F, 0x20011C, 0xC021B, 0xC0280]⟩
theorem goes_execCalStoreTimeout {s : State} (hF : fp_execCalStoreTimeout.le F = true) (hgo : Goes F s0 s) :
     Runs F s0 (execCalStoreTimeout s) := by
  unfold execCalStoreTimeout
  try dsimp only
  repeat' first
    | with_reducible assumption
    | with_reducible refine Runs.next ?_
    | with_reducible refine Goes.advanceTo (Foot.le_trans (by decide +kernel) hF) ?_
    | with_reducible refine Goes.spoilStore (Foot.le_trans (by decide +kernel) hF) ?_
    | with_reducible refine Goes.storeEnd (Foot.le_trans (by decide +kernel) hF) ?_
    | with_reducible refine Goes.foldl ?_ ?_
    | split
    | intro _

end Sys2Proof.Machine
end

