-- ==== Sys2Proof/Laws/OnMgmtOps.lean ====
section
/-! SUPPORT. What each operation of `Machine/MgmtOps.lean` may change: one lemma for each. -/

set_option linter.all false
set_option Elab.async false

namespace Sys2Proof.Machine

variable {F : Foot} {s0 : State}

/-- What `State.detect` may change. -/
def fp_detect : Foot := ⟨[.mgmt], some []⟩
theorem Goes.detect {s : State} {b : Nat} {status : Nat} (hF : fp_detect.le F = true) (hgo : Goes F s0 s) :
     Goes F s0 (State.detect s b status) := by
  unfold State.detect
  try dsimp only
  repeat' first
    | with_reducible assumption
    | with_reducible refine Goes.upM (Foot.le_trans (by decide +kernel) hF) (fun _ h => h) ?_
    | with_reducible refine Goes.upM (Foot.le_trans (by decide +kernel) hF) ?_ ?_
    | with_reducible refine Goes.foldl ?_ ?_
    | exact fun _ h => Tab.wf_set h _ _
    | exact fun _ h => Tab.wf_erase h _
    | exact fun _ h => Tab.wf_empty
    | split
    | intro _

/-- What `State.corError` may change. -/
def fp_corError : Foot := ⟨[.mgmt, .outbox], some []⟩
theorem Goes.corError {s : State} {b : Nat} (hF : fp_corError.le F = true) (hgo : Goes F s0 s) :
     Goes F s0 (State.corError s b) := by
  unfold State.corError
  try dsimp only
  repeat' first
    | with_reducible assumption
    | with_reducible refine Goes.upM (Foot.le_trans (by decide +kernel) hF) (fun _ h => h) ?_
    | with_reducible refine Goes.upM (Foot.le_trans (by decide +kernel) hF) ?_ ?_
    | with_reducible refine Goes.detect (Foot.le_trans (by decide +kernel) hF) ?_
    | with_reducible refine Goes.sendUp (Foot.le_trans (by decide +kernel) hF) ?_
    | with_reducible refine Goes.foldl ?_ ?_
    | exact fun _ h => Tab.wf_set h _ _
    | exact fun _ h => Tab.wf_erase h _
    | exact fun _ h => Tab.wf_empty
    | split
    | intro _

/-- What `State.sendErr` may change. -/
def fp_sendErr : Foot := ⟨[.mgmt, .outbox], some []⟩
theorem Goes.sendErr {s : State} {severity : Nat} (hF : fp_sendErr.le F = true) (hgo : Goes F s0 s) :
     Goes F s0 (State.sendErr s severity) := by
  unfold State.sendErr
  try dsimp only
  repeat' first
    | with_reducible assumption
    | with_reducible refine Goes.upM (Foot.le_trans (by decide +kernel) hF) (fun _ h => h) ?_
    | with_reducible refine Goes.upM (Foot.le_trans (by decide +kernel) hF) ?_ ?_
    | with_reducible refine Goes.sendUp (Foot.le_trans (by decide +kernel) hF) ?_
    | with_reducible refine Goes.foldl ?_ ?_
    | exact fun _ h => Tab.wf_set h _ _
    | exact fun _ h => Tab.wf_erase h _
    | exact fun _ h => Tab.wf_empty
    | split
    | intro _

/-- What `State.logHeader` may change. -/
def fp_logHeader : Foot := ⟨[.mgmt, .outbox], some []⟩
theorem Goes.logHeader {s : State} {b : Nat} {header : Option Nat} (hF : fp_logHeader.le F = true) (hgo : Goes F s0 s) :
     Goes F s0 (State.logHeader s b header) := by
  unfold State.logHeader
  try dsimp only
  repeat' first
    | with_reducible assumption
    | with_reducible refine Goes.upM (Foot.le_trans (by decide +kernel) hF) (fun _ h => h) ?_
    | with_reducible refine Goes.upM (Foot.le_trans (by decide +kernel) hF) ?_ ?_
    | with_reducible refine Goes.corError (Foot.le_trans (by decide +kernel) hF) ?_
    | with_reducible refine Goes.foldl ?_ ?_
    | exact fun _ h => Tab.wf_set h _ _
    | exact fun _ h => Tab.wf_erase h _
    | exact fun _ h => Tab.wf_empty
    | split
    | intro _

/-- What `State.detectUnc` may change. -/
def fp_detectUnc : Foot := ⟨[.mgmt], some []⟩
theorem Goes.detectUnc {s : State} {b : Nat} {advisory : Bool} (hF : fp_detectUnc.le F = true) (hgo : Goes F s0 s) :
     Goes F s0 (State.detectUnc s b advisory) := by
  unfold State.detectUnc
  try dsimp only
  repeat' first
    | with_reducible assumption
    | with_reducible refine Goes.upM (Foot.le_trans (by decide +kernel) hF) (fun _ h => h) ?_
    | with_reducible refine Goes.upM (Foot.le_trans (by decide +kernel) hF) ?_ ?_
    | with_reducible refine Goes.detect (Foot.le_trans (by decide +kernel) hF) ?_
    | with_reducible refine Goes.foldl ?_ ?_
    | exact fun _ h => Tab.wf_set h _ _
    | exact fun _ h => Tab.wf_erase h _
    | exact fun _ h => Tab.wf_empty
    | split
    | intro _

/-- What `State.uncError` may change. -/
def fp_uncError : Foot := ⟨[.mgmt, .outbox], some []⟩
theorem Goes.uncError {s : State} {b : Nat} {advisory : Bool} {header : Option Nat} (hF : fp_uncError.le F = true) (hgo : Goes F s0 s) :
     Goes F s0 (State.uncError s b advisory header) := by
  unfold State.uncError
  try dsimp only
  repeat' first
    | with_reducible assumption
    | with_reducible refine Goes.sendErr (Foot.le_trans (by decide +kernel) hF) ?_
    | with_reducible refine Goes.upM (Foot.le_trans (by decide +kernel) hF) (fun _ h => h) ?_
    | with_reducible refine Goes.upM (Foot.le_trans (by decide +kernel) hF) ?_ ?_
    | with_reducible refine Goes.detectUnc (Foot.le_trans (by decide +kernel) hF) ?_
    | with_reducible refine Goes.logHeader (Foot.le_trans (by decide +kernel) hF) ?_
    | with_reducible refine Goes.corError (Foot.le_trans (by decide +kernel) hF) ?_
    | with_reducible refine Goes.foldl ?_ ?_
    | exact fun _ h => Tab.wf_set h _ _
    | exact fun _ h => Tab.wf_erase h _
    | exact fun _ h => Tab.wf_empty
    | split
    | intro _

/-- What `State.sendMsix` may change. -/
def fp_sendMsix : Foot := ⟨[.mgmt, .outbox], some []⟩
theorem Goes.sendMsix {s : State} {v : Nat} (hF : fp_sendMsix.le F = true) (hgo : Goes F s0 s) :
     Goes F s0 (State.sendMsix s v) := by
  unfold State.sendMsix
  try dsimp only
  repeat' first
    | with_reducible assumption
    | with_reducible refine Goes.upM (Foot.le_trans (by decide +kernel) hF) (fun _ h => h) ?_
    | with_reducible refine Goes.upM (Foot.le_trans (by decide +kernel) hF) ?_ ?_
    | with_reducible refine Goes.sendUp (Foot.le_trans (by decide +kernel) hF) ?_
    | with_reducible refine Goes.foldl ?_ ?_
    | exact fun _ h => Tab.wf_set h _ _
    | exact fun _ h => Tab.wf_erase h _
    | exact fun _ h => Tab.wf_empty
    | split
    | intro _

/-- What `State.flushMsix` may change. -/
def fp_flushMsix : Foot := ⟨[.mgmt, .outbox], some []⟩
theorem Goes.flushMsix {s : State} (hF : fp_flushMsix.le F = true) (hgo : Goes F s0 s) :
     Goes F s0 (State.flushMsix s) := by
  unfold State.flushMsix
  try dsimp only
  repeat' first
    | with_reducible assumption
    | with_reducible refine Goes.upM (Foot.le_trans (by decide +kernel) hF) (fun _ h => h) ?_
    | with_reducible refine Goes.upM (Foot.le_trans (by decide +kernel) hF) ?_ ?_
    | with_reducible refine Goes.sendUp (Foot.le_trans (by decide +kernel) hF) ?_
    | with_reducible refine Goes.foldl ?_ ?_
    | exact fun _ h => Tab.wf_set h _ _
    | exact fun _ h => Tab.wf_erase h _
    | exact fun _ h => Tab.wf_empty
    | split
    | intro _

/-- What `State.setTag` may change. -/
def fp_setTag : Foot := ⟨[.tags, .power], some []⟩
theorem Goes.setTag {s : State} {t : Nat} {v : TagState} (hF : fp_setTag.le F = true) (hgo : Goes F s0 s) :
     Goes F s0 (State.setTag s t v) := by
  unfold State.setTag
  try dsimp only
  repeat' first
    | with_reducible assumption
    | with_reducible refine Goes.setTags (Foot.le_trans (by decide +kernel) hF) ?_ ?_
    | with_reducible refine Goes.deviceQuiet (Foot.le_trans (by decide +kernel) hF) ?_
    | with_reducible refine Goes.foldl ?_ ?_
    | exact fun _ w => Tab.wf_empty
    | exact fun _ w => Tab.wf_set w.tags _ _
    | exact fun _ w => Tab.wf_erase w.tags _
    | exact fun _ w => Tab.wf_keep w.tags _
    | exact fun _ w => Tab.wf_map w.tags _
    | split
    | intro _

/-- What `State.retireTag` may change. -/
def fp_retireTag : Foot := ⟨[.tags, .power], some []⟩
theorem Goes.retireTag {s : State} {t : Nat} {quiet : Bool} (hF : fp_retireTag.le F = true) (hgo : Goes F s0 s) :
     Goes F s0 (State.retireTag s t quiet) := by
  unfold State.retireTag
  try dsimp only
  repeat' first
    | with_reducible assumption
    | with_reducible refine Goes.setTag (Foot.le_trans (by decide +kernel) hF) ?_
    | with_reducible refine Goes.foldl ?_ ?_
    | split
    | intro _

/-- What `State.askRead` may change. -/
def fp_askRead : Foot := ⟨[.tags, .mgmt, .power, .outbox], some []⟩
theorem Goes.askRead {s : State} {u : ReadFor} (hF : fp_askRead.le F = true) (hgo : Goes F s0 s) :
     Goes F s0 (State.askRead s u) := by
  unfold State.askRead
  try dsimp only
  repeat' first
    | with_reducible assumption
    | with_reducible refine Goes.upM (Foot.le_trans (by decide +kernel) hF) (fun _ h => h) ?_
    | with_reducible refine Goes.upM (Foot.le_trans (by decide +kernel) hF) ?_ ?_
    | with_reducible refine Goes.setTag (Foot.le_trans (by decide +kernel) hF) ?_
    | with_reducible refine Goes.sendUp (Foot.le_trans (by decide +kernel) hF) ?_
    | with_reducible refine Goes.foldl ?_ ?_
    | exact fun _ h => Tab.wf_set h _ _
    | exact fun _ h => Tab.wf_erase h _
    | exact fun _ h => Tab.wf_empty
    | split
    | intro _

/-- What `State.kickReads` may change. -/
def fp_kickReads : Foot := ⟨[.tags, .mgmt, .power, .outbox], some []⟩
theorem Goes.kickReads {s : State} (hF : fp_kickReads.le F = true) (hgo : Goes F s0 s) :
     Goes F s0 (State.kickReads s) := by
  unfold State.kickReads
  try dsimp only
  repeat' first
    | with_reducible assumption
    | with_reducible refine Goes.upM (Foot.le_trans (by decide +kernel) hF) (fun _ h => h) ?_
    | with_reducible refine Goes.upM (Foot.le_trans (by decide +kernel) hF) ?_ ?_
    | with_reducible refine Goes.askRead (Foot.le_trans (by decide +kernel) hF) ?_
    | with_reducible refine Goes.foldl ?_ ?_
    | exact fun _ h => Tab.wf_set h _ _
    | exact fun _ h => Tab.wf_erase h _
    | exact fun _ h => Tab.wf_empty
    | split
    | intro _

/-- What `State.askList` may change. -/
def fp_askList : Foot := ⟨[.tags, .mgmt, .power, .outbox], some []⟩
theorem Goes.askList {s : State} {k : Nat} {w : Nat} (hF : fp_askList.le F = true) (hgo : Goes F s0 s) :
     Goes F s0 (State.askList s k w) := by
  unfold State.askList
  try dsimp only
  repeat' first
    | with_reducible assumption
    | with_reducible refine Goes.askRead (Foot.le_trans (by decide +kernel) hF) ?_
    | with_reducible refine Goes.foldl ?_ ?_
    | split
    | intro _

/-- What `State.granary` may change. -/
def fp_granary : Foot := ⟨[.mgmt, .outbox], some []⟩
theorem Goes.granary {n k w : Nat} {trace : Bool} (hF : fp_granary.le F = true) :
    ∀ {s : State} {pos : Nat} {bytes : List Nat}, Goes F s0 s → Goes F s0 (State.granary n s k w pos trace bytes) := by
  induction n with
  | zero => exact fun h => h
  | succ n ih =>
    intro s pos bytes hgo
    unfold State.granary
    split
    · exact hgo
    · exact ih (Goes.sendUp (Foot.le_trans (by decide +kernel) hF) hgo)

/-- What `State.fetchRing` may change. -/
def fp_fetchRing : Foot := ⟨[.tags, .mgmt, .power, .outbox], some []⟩
theorem Goes.fetchRing {s : State} {k : Nat} {i : Nat} (hF : fp_fetchRing.le F = true) (hgo : Goes F s0 s) :
     Goes F s0 (State.fetchRing s k i) := by
  unfold State.fetchRing
  try dsimp only
  repeat' first
    | with_reducible assumption
    | with_reducible refine Goes.askRead (Foot.le_trans (by decide +kernel) hF) ?_
    | with_reducible refine Goes.foldl ?_ ?_
    | split
    | intro _

/-- What `State.writeEvent` may change. -/
def fp_writeEvent : Foot := ⟨[.mgmt, .outbox], some [0x20020200, 0x2002029B]⟩
theorem Goes.writeEvent {s : State} {e : Ev} {r : Nat} {redirected : Bool} (hF : fp_writeEvent.le F = true) (hgo : Goes F s0 s) :
     Goes F s0 (State.writeEvent s e r redirected) := by
  unfold State.writeEvent
  try dsimp only
  repeat' first
    | with_reducible assumption
    | with_reducible refine Goes.wr (List.mem_singleton.2 (fieldName_RNG_POS_TAIL _ _)) (known_RNG_POS_TAIL _ _).agrees (Foot.le_trans (by decide +kernel) hF) ?_
    | with_reducible refine Goes.wr (List.mem_singleton.2 (fieldName_RNG_STATUS_PHASE _ _)) (known_RNG_STATUS_PHASE _ _).agrees (Foot.le_trans (by decide +kernel) hF) ?_
    | with_reducible refine Goes.put (List.mem_singleton.2 (fieldName_RNG_POS_TAIL _ _)) (known_RNG_POS_TAIL _ _).agrees (Foot.le_trans (by decide +kernel) hF) ?_
    | with_reducible refine Goes.put (List.mem_singleton.2 (fieldName_RNG_STATUS_PHASE _ _)) (known_RNG_STATUS_PHASE _ _).agrees (Foot.le_trans (by decide +kernel) hF) ?_
    | with_reducible refine Goes.sendMsix (Foot.le_trans (by decide +kernel) hF) ?_
    | with_reducible refine Goes.sendUp (Foot.le_trans (by decide +kernel) hF) ?_
    | with_reducible refine Goes.foldl ?_ ?_
    | split
    | intro _

/-- What `State.showStaged` may change. -/
def fp_showStaged : Foot := ⟨[.power], some [0x280, 0x600080]⟩
theorem Goes.showStaged {s : State} {k : Nat} (hF : fp_showStaged.le F = true) (hgo : Goes F s0 s) :
     Goes F s0 (State.showStaged s k) := by
  unfold State.showStaged
  try dsimp only
  repeat' first
    | with_reducible assumption
    | with_reducible refine Goes.wr (List.mem_singleton.2 (fieldName_GLB_MGMT_STATUS_STAGED)) (known_GLB_MGMT_STATUS_STAGED).agrees (Foot.le_trans (by decide +kernel) hF) ?_
    | with_reducible refine Goes.wr (List.mem_singleton.2 (fieldName_SLC_STATUS_STAGED _)) (known_SLC_STATUS_STAGED _).agrees (Foot.le_trans (by decide +kernel) hF) ?_
    | with_reducible refine Goes.deviceQuiet (Foot.le_trans (by decide +kernel) hF) ?_
    | with_reducible refine Goes.foldl ?_ ?_
    | split
    | intro _

/-- What `State.sendPme` may change. -/
def fp_sendPme : Foot := ⟨[.mgmt, .outbox], some []⟩
theorem Goes.sendPme {s : State} (hF : fp_sendPme.le F = true) (hgo : Goes F s0 s) :
     Goes F s0 (State.sendPme s) := by
  unfold State.sendPme
  try dsimp only
  repeat' first
    | with_reducible assumption
    | with_reducible refine Goes.upM (Foot.le_trans (by decide +kernel) hF) (fun _ h => h) ?_
    | with_reducible refine Goes.upM (Foot.le_trans (by decide +kernel) hF) ?_ ?_
    | with_reducible refine Goes.sendUp (Foot.le_trans (by decide +kernel) hF) ?_
    | with_reducible refine Goes.foldl ?_ ?_
    | exact fun _ h => Tab.wf_set h _ _
    | exact fun _ h => Tab.wf_erase h _
    | exact fun _ h => Tab.wf_empty
    | split
    | intro _

/-- What `State.wakeEvent` may change. -/
def fp_wakeEvent : Foot := ⟨[.mgmt, .outbox], some []⟩
theorem Goes.wakeEvent {s : State} {e : Ev} (hF : fp_wakeEvent.le F = true) (hgo : Goes F s0 s) :
     Goes F s0 (State.wakeEvent s e) := by
  unfold State.wakeEvent
  try dsimp only
  repeat' first
    | with_reducible assumption
    | with_reducible refine Goes.upM (Foot.le_trans (by decide +kernel) hF) (fun _ h => h) ?_
    | with_reducible refine Goes.upM (Foot.le_trans (by decide +kernel) hF) ?_ ?_
    | with_reducible refine Goes.sendPme (Foot.le_trans (by decide +kernel) hF) ?_
    | with_reducible refine Goes.foldl ?_ ?_
    | exact fun _ h => Tab.wf_set h _ _
    | exact fun _ h => Tab.wf_erase h _
    | exact fun _ h => Tab.wf_empty
    | split
    | intro _

/-- What `State.markFull` may change. -/
def fp_markFull : Foot := ⟨[], some [0x2002029C]⟩
theorem Goes.markFull {s : State} {k : Nat} {r : Option Nat} (hF : fp_markFull.le F = true) (hgo : Goes F s0 s) :
     Goes F s0 (State.markFull s k r) := by
  unfold State.markFull
  try dsimp only
  repeat' first
    | with_reducible assumption
    | with_reducible refine Goes.wr (List.mem_singleton.2 (fieldName_RNG_STATUS_STATE _ _)) (known_RNG_STATUS_STATE _ _).agrees (Foot.le_trans (by decide +kernel) hF) ?_
    | with_reducible refine Goes.foldl ?_ ?_
    | split
    | intro _

/-- What `State.stage` may change. -/
def fp_stage : Foot := ⟨[.mgmt, .power, .staged, .outbox], some [0x280, 0x2002029C, 0x600080]⟩
theorem Goes.stage {s : State} {e : Ev} {r : Option Nat} (hF : fp_stage.le F = true) (hgo : Goes F s0 s) :
     Goes F s0 (State.stage s e r) := by
  unfold State.stage
  try dsimp only
  repeat' first
    | with_reducible assumption
    | with_reducible refine Goes.showStaged (Foot.le_trans (by decide +kernel) hF) ?_
    | with_reducible refine Goes.setStaged (Foot.le_trans (by decide +kernel) hF) ?_
    | with_reducible refine Goes.wakeEvent (Foot.le_trans (by decide +kernel) hF) ?_
    | with_reducible refine Goes.markFull (Foot.le_trans (by decide +kernel) hF) ?_
    | with_reducible refine Goes.foldl ?_ ?_
    | split
    | intro _

/-- What `State.flushFor` may change. -/
def fp_flushFor : Foot := ⟨[.mgmt, .power, .staged, .outbox], some [0x280, 0x20020200, 0x2002029B, 0x2002029C,
  0x20000108, 0x600080]⟩
theorem Goes.flushFor {s : State} {pick : Ev → Bool} (hF : fp_flushFor.le F = true) (hgo : Goes F s0 s) :
     Goes F s0 (State.flushFor s pick) := by
  unfold State.flushFor
  try dsimp only
  repeat' first
    | with_reducible assumption
    | with_reducible refine Goes.satUp (List.mem_singleton.2 (fieldName_RNG_STATUS_STATE _ _)) (known_RNG_STATUS_STATE _ _).agrees (Foot.le_trans (by decide +kernel) hF) ?_
    | with_reducible refine Goes.satUp (List.mem_singleton.2 (fieldName_SLC_SELF_STATUS_DISCARDED _)) (known_SLC_SELF_STATUS_DISCARDED _).agrees (Foot.le_trans (by decide +kernel) hF) ?_
    | with_reducible refine Goes.showStaged (Foot.le_trans (by decide +kernel) hF) ?_
    | with_reducible refine Goes.wr (List.mem_singleton.2 (fieldName_RNG_STATUS_STATE _ _)) (known_RNG_STATUS_STATE _ _).agrees (Foot.le_trans (by decide +kernel) hF) ?_
    | with_reducible refine Goes.wr (List.mem_singleton.2 (fieldName_SLC_SELF_STATUS_DISCARDED _)) (known_SLC_SELF_STATUS_DISCARDED _).agrees (Foot.le_trans (by decide +kernel) hF) ?_
    | with_reducible refine Goes.setStaged (Foot.le_trans (by decide +kernel) hF) ?_
    | with_reducible refine Goes.each ?_ ?_
    | with_reducible refine Goes.writeEvent (Foot.le_trans (by decide +kernel) hF) ?_
    | with_reducible refine Goes.foldl ?_ ?_
    | split
    | intro _

/-- What `State.stageOr` may change. -/
def fp_stageOr : Foot := ⟨[.mgmt, .power, .staged, .outbox], some [0x300, 0x280, 0x295, 0x2002029C, 0x20000100,
  0x600080]⟩
theorem Goes.stageOr {s : State} {e : Ev} {r : Option Nat} (hF : fp_stageOr.le F = true) (hgo : Goes F s0 s) :
     Goes F s0 (State.stageOr s e r).1 := by
  unfold State.stageOr
  try dsimp only
  repeat' first
    | with_reducible assumption
    | with_reducible refine Goes.satUp (List.mem_singleton.2 (fieldName_GLB_MGMT_CNT_STAGE_DROPS)) (known_GLB_MGMT_CNT_STAGE_DROPS).agrees (Foot.le_trans (by decide +kernel) hF) ?_
    | with_reducible refine Goes.satUp (List.mem_singleton.2 (fieldName_GLB_MGMT_STATUS_STAGING_FULL)) (known_GLB_MGMT_STATUS_STAGING_FULL).agrees (Foot.le_trans (by decide +kernel) hF) ?_
    | with_reducible refine Goes.satUp (List.mem_singleton.2 (fieldName_SLC_SELF_STATUS_DROPPED _)) (known_SLC_SELF_STATUS_DROPPED _).agrees (Foot.le_trans (by decide +kernel) hF) ?_
    | with_reducible refine Goes.stage (Foot.le_trans (by decide +kernel) hF) ?_
    | with_reducible refine Goes.on (List.mem_singleton.2 (fieldName_GLB_MGMT_CNT_STAGE_DROPS)) (known_GLB_MGMT_CNT_STAGE_DROPS).agrees (Foot.le_trans (by decide +kernel) hF) ?_
    | with_reducible refine Goes.on (List.mem_singleton.2 (fieldName_GLB_MGMT_STATUS_STAGING_FULL)) (known_GLB_MGMT_STATUS_STAGING_FULL).agrees (Foot.le_trans (by decide +kernel) hF) ?_
    | with_reducible refine Goes.on (List.mem_singleton.2 (fieldName_SLC_SELF_STATUS_DROPPED _)) (known_SLC_SELF_STATUS_DROPPED _).agrees (Foot.le_trans (by decide +kernel) hF) ?_
    | with_reducible refine Goes.markFull (Foot.le_trans (by decide +kernel) hF) ?_
    | with_reducible refine Goes.foldl ?_ ?_
    | split
    | intro _

/-- What `State.postEvent` may change. -/
def fp_postEvent : Foot := ⟨[.mgmt, .power, .staged, .outbox], some [0x300, 0x280, 0x295, 0x20020200, 0x2002029B,
  0x2002029C, 0x20000108, 0x20000100, 0x600080]⟩
theorem Goes.postEvent {s : State} {e : Ev} (hF : fp_postEvent.le F = true) (hgo : Goes F s0 s) :
     Goes F s0 (State.postEvent s e).1 := by
  unfold State.postEvent
  try dsimp only
  repeat' first
    | with_reducible assumption
    | with_reducible refine Goes.satUp (List.mem_singleton.2 (fieldName_SLC_SELF_STATUS_DISCARDED _)) (known_SLC_SELF_STATUS_DISCARDED _).agrees (Foot.le_trans (by decide +kernel) hF) ?_
    | with_reducible refine Goes.stageOr (Foot.le_trans (by decide +kernel) hF) ?_
    | with_reducible refine Goes.writeEvent (Foot.le_trans (by decide +kernel) hF) ?_
    | with_reducible refine Goes.foldl ?_ ?_
    | split
    | intro _

/-- What `State.dmaFail` may change. -/
def fp_dmaFail : Foot := ⟨[.imgOp], some [0x20006, 0x20007]⟩
theorem Goes.dmaFail {s : State} {u : ReadFor} (hF : fp_dmaFail.le F = true) (hgo : Goes F s0 s) :
     Goes F s0 (State.dmaFail s u) := by
  unfold State.dmaFail
  try dsimp only
  repeat' first
    | with_reducible assumption
    | with_reducible refine Goes.wr (List.mem_singleton.2 (fieldName_IMG_STATUS_CMD_BUSY)) (known_IMG_STATUS_CMD_BUSY).agrees (Foot.le_trans (by decide +kernel) hF) ?_
    | with_reducible refine Goes.wr (List.mem_singleton.2 (fieldName_IMG_STATUS_CMD_RESULT)) (known_IMG_STATUS_CMD_RESULT).agrees (Foot.le_trans (by decide +kernel) hF) ?_
    | with_reducible refine Goes.off (List.mem_singleton.2 (fieldName_IMG_STATUS_CMD_BUSY)) (known_IMG_STATUS_CMD_BUSY).agrees (Foot.le_trans (by decide +kernel) hF) ?_
    | with_reducible refine Goes.off (List.mem_singleton.2 (fieldName_IMG_STATUS_CMD_RESULT)) (known_IMG_STATUS_CMD_RESULT).agrees (Foot.le_trans (by decide +kernel) hF) ?_
    | with_reducible refine Goes.setImgOp (Foot.le_trans (by decide +kernel) hF) ?_
    | with_reducible refine Goes.foldl ?_ ?_
    | split
    | intro _

/-- What `State.voidReads` may change. -/
def fp_voidReads : Foot := ⟨[.tags, .imgOp, .mgmt, .power], some [0x20006, 0x20007]⟩
theorem Goes.voidReads {s : State} {pick : ReadFor → Bool} (hF : fp_voidReads.le F = true) (hgo : Goes F s0 s) :
     Goes F s0 (State.voidReads s pick) := by
  unfold State.voidReads
  try dsimp only
  repeat' first
    | with_reducible assumption
    | with_reducible refine Goes.upM (Foot.le_trans (by decide +kernel) hF) (fun _ h => h) ?_
    | with_reducible refine Goes.upM (Foot.le_trans (by decide +kernel) hF) ?_ ?_
    | with_reducible refine Goes.retireTag (Foot.le_trans (by decide +kernel) hF) ?_
    | with_reducible refine Goes.dmaFail (Foot.le_trans (by decide +kernel) hF) ?_
    | with_reducible refine Goes.foldl ?_ ?_
    | exact fun _ h => Tab.wf_set h _ _
    | exact fun _ h => Tab.wf_erase h _
    | exact fun _ h => Tab.wf_empty
    | split
    | intro _

/-- What `State.beginHold` may change. -/
def fp_beginHold : Foot := ⟨[.tags, .imgOp, .mgmt, .power], some [0x298, 0x20006, 0x20007]⟩
theorem Goes.beginHold {s : State} (hF : fp_beginHold.le F = true) (hgo : Goes F s0 s) :
     Goes F s0 (State.beginHold s) := by
  unfold State.beginHold
  try dsimp only
  repeat' first
    | with_reducible assumption
    | with_reducible refine Goes.upM (Foot.le_trans (by decide +kernel) hF) (fun _ h => h) ?_
    | with_reducible refine Goes.upM (Foot.le_trans (by decide +kernel) hF) ?_ ?_
    | with_reducible refine Goes.on (List.mem_singleton.2 (fieldName_GLB_MGMT_STATUS_DMA_HELD)) (known_GLB_MGMT_STATUS_DMA_HELD).agrees (Foot.le_trans (by decide +kernel) hF) ?_
    | with_reducible refine Goes.voidReads (Foot.le_trans (by decide +kernel) hF) ?_
    | with_reducible refine Goes.dmaFail (Foot.le_trans (by decide +kernel) hF) ?_
    | with_reducible refine Goes.foldl ?_ ?_
    | exact fun _ h => Tab.wf_set h _ _
    | exact fun _ h => Tab.wf_erase h _
    | exact fun _ h => Tab.wf_empty
    | split
    | intro _

/-- What `State.checkHold` may change. -/
def fp_checkHold : Foot := ⟨[.tags, .imgOp, .mgmt, .power], some [0x298, 0x20006, 0x20007]⟩
theorem Goes.checkHold {s : State} (hF : fp_checkHold.le F = true) (hgo : Goes F s0 s) :
     Goes F s0 (State.checkHold s) := by
  unfold State.checkHold
  try dsimp only
  repeat' first
    | with_reducible assumption
    | with_reducible refine Goes.beginHold (Foot.le_trans (by decide +kernel) hF) ?_
    | with_reducible refine Goes.foldl ?_ ?_
    | split
    | intro _

/-- What `State.resume` may change. -/
def fp_resume : Foot := ⟨[.tags, .mgmt, .power, .staged, .outbox], some [0x280, 0x20020200, 0x2002029B, 0x2002029C,
  0x20000108, 0x600080]⟩
theorem Goes.resume {s : State} {pick : Nat → Bool} (hF : fp_resume.le F = true) (hgo : Goes F s0 s) :
     Goes F s0 (State.resume s pick) := by
  unfold State.resume
  try dsimp only
  repeat' first
    | with_reducible assumption
    | with_reducible refine Goes.flushMsix (Foot.le_trans (by decide +kernel) hF) ?_
    | with_reducible refine Goes.kickReads (Foot.le_trans (by decide +kernel) hF) ?_
    | with_reducible refine Goes.each ?_ ?_
    | with_reducible refine Goes.fetchRing (Foot.le_trans (by decide +kernel) hF) ?_
    | with_reducible refine Goes.flushFor (Foot.le_trans (by decide +kernel) hF) ?_
    | with_reducible refine Goes.foldl ?_ ?_
    | split
    | intro _

/-- What `State.endHold` may change. -/
def fp_endHold : Foot := ⟨[.tags, .mgmt, .power, .staged, .outbox], some [0x298, 0x280, 0x20020200, 0x2002029B,
  0x2002029C, 0x20000108, 0x600080]⟩
theorem Goes.endHold {s : State} (hF : fp_endHold.le F = true) (hgo : Goes F s0 s) :
     Goes F s0 (State.endHold s) := by
  unfold State.endHold
  try dsimp only
  repeat' first
    | with_reducible assumption
    | with_reducible refine Goes.resume (Foot.le_trans (by decide +kernel) hF) ?_
    | with_reducible refine Goes.off (List.mem_singleton.2 (fieldName_GLB_MGMT_STATUS_DMA_HELD)) (known_GLB_MGMT_STATUS_DMA_HELD).agrees (Foot.le_trans (by decide +kernel) hF) ?_
    | with_reducible refine Goes.foldl ?_ ?_
    | split
    | intro _

end Sys2Proof.Machine
end

