-- ==== Sys2Proof/Laws/OnAccessOps.lean ====
section
/-! SUPPORT. What each operation of `Machine/AccessOps.lean` may change: one lemma for each. -/

set_option linter.all false
set_option Elab.async false

namespace Sys2Proof.Machine

variable {F : Foot} {s0 : State}

variable {x : State}

theorem Goes.storeField {ns : List Nat} {w : Nat} {f : Field} (hn : fieldName f.cell.key ∈ ns) (hc : f.cell.agrees)
    (hF : Foot.le ⟨[], some ns⟩ F = true) (hgo : Goes F s0 x) : Goes F s0 (x.storeField w f) := by
  unfold State.storeField
  dsimp only
  split
  · exact Goes.wr hn hc hF hgo
  · exact Goes.wr hn hc hF hgo
  · exact Goes.wr hn hc hF hgo
  · exact Goes.wr hn hc hF hgo
  · exact hgo

theorem Goes.storeWord {ns : List Nat} {fs : List Field} {w : Nat} (hn : ∀ f ∈ fs, fieldName f.cell.key ∈ ns)
    (hc : ∀ f ∈ fs, f.cell.agrees) (hF : Foot.le ⟨[], some ns⟩ F = true) (hgo : Goes F s0 x) :
    Goes F s0 (x.storeWord fs w) := by
  unfold State.storeWord
  induction fs generalizing x with
  | nil => exact hgo
  | cons f fs ih =>
    exact ih (fun g hg => hn g (List.mem_cons_of_mem f hg)) (fun g hg => hc g (List.mem_cons_of_mem f hg))
      (Goes.storeField (hn f List.mem_cons_self) (hc f List.mem_cons_self) hF hgo)

/-- Any register stored to, in a footprint of every field. -/
theorem Goes.storeWordAny {fs : List Field} {w : Nat} (hc : ∀ f ∈ fs, f.cell.agrees) (hF : Foot.le ⟨[], none⟩ F = true)
    (hgo : Goes F s0 x) : Goes F s0 (x.storeWord fs w) := by
  refine Goes.storeWord (ns := fs.map (fun f => fieldName f.cell.key)) ?_ hc (Foot.le_trans ?_ hF) hgo
  · intro f hf
    exact List.mem_map.2 ⟨f, hf, rfl⟩
  · rw [Foot.le_iff]
    exact ⟨fun _ h => h, fun _ h => by cases h⟩

/-- What `State.fencedAccess` may change. -/
def fp_fencedAccess : Foot := ⟨[.evq], some [0xE0390, 0xE0380, 0xE0388, 0xE0210, 0xE0200, 0xE021E, 0xE0208, 0xE021F,
  0xE0280, 0xE0100, 0xE0001, 0x100097]⟩
theorem Goes.fencedAccess {s : State} {t : Nat} {isWrite : Bool} (hF : fp_fencedAccess.le F = true) (hgo : Goes F s0 s) :
     Goes F s0 (State.fencedAccess s t isWrite) := by
  unfold State.fencedAccess
  try dsimp only
  repeat' first
    | with_reducible assumption
    | with_reducible refine Goes.raiseDev (Foot.le_trans (by decide +kernel) hF) ?_
    | with_reducible refine Goes.foldl ?_ ?_
    | split
    | intro _

/-- What `State.readNow` may change. -/
def fp_readNow : Foot := ⟨[.evq], some [0xE0390, 0xE0380, 0xE0388, 0xE0210, 0xE0200, 0xE021E, 0xE0208, 0xE021F,
  0xE0280, 0xE0100, 0xE0001, 0x100097]⟩
theorem Goes.readNow {s : State} {x : Nat} (hF : fp_readNow.le F = true) (hgo : Goes F s0 s) :
     Goes F s0 (State.readNow s x).1 := by
  unfold State.readNow
  try dsimp only
  repeat' first
    | with_reducible assumption
    | with_reducible refine Goes.fencedAccess (Foot.le_trans (by decide +kernel) hF) ?_
    | with_reducible refine Goes.foldl ?_ ?_
    | split
    | intro _

/-- What `State.keptWrite` may change. -/
def fp_keptWrite : Foot := ⟨[], none⟩
theorem Goes.keptWrite {s : State} {x : Nat} {v : Nat} (hF : fp_keptWrite.le F = true) (hgo : Goes F s0 s) :
     Goes F s0 (State.keptWrite s x v) := by
  unfold State.keptWrite
  try dsimp only
  repeat' first
    | with_reducible assumption
    | with_reducible refine Goes.storeWordAny (fun f hf => (knowns_fieldsAt _ f hf).agrees) (Foot.le_trans (by decide +kernel) hF) ?_
    | with_reducible refine Goes.foldl ?_ ?_
    | split
    | intro _

end Sys2Proof.Machine
end

