-- ==== Sys2Proof/Laws/OnTileOps.lean ====
section
/-! SUPPORT. What each operation of `Machine/TileOps.lean` may change: one lemma for each. -/

set_option linter.all false
set_option Elab.async false

namespace Sys2Proof.Machine

variable {F : Foot} {s0 : State}

/-- What `State.request` may change. -/
def fp_request : Foot := ⟨[.sides], some []⟩
theorem Goes.request {s : State} {q : Nat} {lane : Nat} {reason : Nat} {spare : Nat} (hF : fp_request.le F = true) (hgo : Goes F s0 s) :
     Goes F s0 (State.request s q lane reason spare) := by
  unfold State.request
  try dsimp only
  repeat' first
    | with_reducible assumption
    | with_reducible refine Goes.upS (Foot.le_trans (by decide +kernel) hF) ?_
    | with_reducible refine Goes.foldl ?_ ?_
    | split
    | intro _

/-- What `State.trlCommand` may change. -/
def fp_trlCommand : Foot := ⟨[.sides], some []⟩
theorem Goes.trlCommand {s : State} {q : Nat} {v : Nat} (hF : fp_trlCommand.le F = true) (hgo : Goes F s0 s) :
     Goes F s0 (State.trlCommand s q v) := by
  unfold State.trlCommand
  try dsimp only
  repeat' first
    | with_reducible assumption
    | with_reducible refine Goes.request (Foot.le_trans (by decide +kernel) hF) ?_
    | with_reducible refine Goes.foldl ?_ ?_
    | split
    | intro _

/-- What `State.eqCommand` may change. -/
def fp_eqCommand : Foot := ⟨[.halves], some [0x4000202, 0x4000203, 0x4000201, 0x4000288]⟩
theorem Goes.eqCommand {s : State} {h : Nat} {v : Nat} (hF : fp_eqCommand.le F = true) (hgo : Goes F s0 s) :
     Goes F s0 (State.eqCommand s h v) := by
  unfold State.eqCommand
  try dsimp only
  repeat' first
    | with_reducible assumption
    | with_reducible refine Goes.wr (List.mem_singleton.2 (fieldName_LCH_FOM_FOM_MIN _)) (known_LCH_FOM_FOM_MIN _).agrees (Foot.le_trans (by decide +kernel) hF) ?_
    | with_reducible refine Goes.storeWord (names_LCH_EQ_CTRL_fields _) (fun f hf => (knowns_LCH_EQ_CTRL _ f hf).agrees) (Foot.le_trans (by decide +kernel) hF) ?_
    | with_reducible refine Goes.disturb (Foot.le_trans (by decide +kernel) hF) ?_
    | with_reducible refine Goes.foldl ?_ ?_
    | split
    | intro _

/-- What `State.retrain` may change. -/
def fp_retrain : Foot := ⟨[.halves, .sides, .ports, .engines, .tiles, .evq], some [0x220018, 0x220010, 0x200100,
  0x40800F, 0x408008, 0x40800A, 0x408000, 0x40800C, 0xE0390, 0xE0380, 0xE0388, 0xE0210, 0xE0200, 0xE021E, 0xE0208,
  0xE021F, 0xE0280, 0xE0100, 0xE0001, 0x4000418, 0x4000413, 0x400041F, 0x4000294, 0x4000280, 0x400029D, 0x400029E,
  0x4000290, 0x400050E, 0x400051C, 0x4000513, 0x4000486, 0x4000480, 0x4000487, 0x4000398, 0x400038C, 0x4000392,
  0x4000386, 0x4000380, 0x400039E, 0x2000104, 0x200011E, 0x200010C, 0x2000100, 0x200011D, 0x2000108, 0x200011F,
  0x2000914, 0x200090A, 0x200091C, 0x2000D05, 0x2000D06, 0x2000D10, 0x2000D00, 0x2000D1C, 0x2000D08, 0x2000D18,
  0x2000510, 0x2000508, 0x200048F, 0x2000498, 0x2000494, 0x200048E, 0x200048B, 0x2000488, 0x2000490, 0x200049C,
  0x2000492, 0x100097]⟩
theorem Goes.retrain {s : State} {x : Nat} {v : Nat} (hF : fp_retrain.le F = true) (hgo : Goes F s0 s) :
     Goes F s0 (State.retrain s x v) := by
  unfold State.retrain
  try dsimp only
  repeat' first
    | with_reducible assumption
    | with_reducible refine Goes.retrainSeg (Foot.le_trans (by decide +kernel) hF) ?_
    | with_reducible refine Goes.retrainStd (Foot.le_trans (by decide +kernel) hF) ?_
    | with_reducible refine Goes.foldl ?_ ?_
    | split
    | intro _

/-- What `State.tileWrite` may change. -/
def fp_tileWrite : Foot := ⟨[.halves, .sides, .ports, .engines, .tiles, .evq], none⟩
theorem Goes.tileWrite {s : State} {x : Nat} {v : Nat} (hF : fp_tileWrite.le F = true) (hgo : Goes F s0 s) :
     Goes F s0 (State.tileWrite s x v) := by
  unfold State.tileWrite
  try dsimp only
  repeat' first
    | with_reducible assumption
    | with_reducible refine Goes.storeWordAny (fun f hf => (knowns_fieldsAt _ f hf).agrees) (Foot.le_trans (by decide +kernel) hF) ?_
    | with_reducible refine Goes.eqCommand (Foot.le_trans (by decide +kernel) hF) ?_
    | with_reducible refine Goes.retrain (Foot.le_trans (by decide +kernel) hF) ?_
    | with_reducible refine Goes.trlCommand (Foot.le_trans (by decide +kernel) hF) ?_
    | with_reducible refine Goes.foldl ?_ ?_
    | split
    | intro _

/-- What `State.takeAccess` may change. -/
def fp_takeAccess : Foot := ⟨[.halves, .sides, .ports, .engines, .mgmt, .tiles, .evq, .outbox], none⟩
theorem Goes.takeAccess {s : State} {t : Nat} {a : TileAccess} (hF : fp_takeAccess.le F = true) (hgo : Goes F s0 s) :
     Goes F s0 (State.takeAccess s t a) := by
  unfold State.takeAccess
  try dsimp only
  repeat' first
    | with_reducible assumption
    | with_reducible refine Goes.tileWrite (Foot.le_trans (by decide +kernel) hF) ?_
    | with_reducible refine Goes.fencedAccess (Foot.le_trans (by decide +kernel) hF) ?_
    | with_reducible refine Goes.keptWrite (Foot.le_trans (by decide +kernel) hF) ?_
    | with_reducible refine Goes.sendUp (Foot.le_trans (by decide +kernel) hF) ?_
    | with_reducible refine Goes.foldl ?_ ?_
    | split
    | intro _

/-- What `State.drainAccesses` may change. -/
def fp_drainAccesses : Foot := ⟨[.halves, .sides, .ports, .engines, .mgmt, .tiles, .evq, .outbox], none⟩
theorem Goes.drainAccesses {s : State} {t : Nat} (hF : fp_drainAccesses.le F = true) (hgo : Goes F s0 s) :
     Goes F s0 (State.drainAccesses s t) := by
  unfold State.drainAccesses
  try dsimp only
  repeat' first
    | with_reducible assumption
    | with_reducible refine Goes.tileQuiet (Foot.le_trans (by decide +kernel) hF) ?_
    | with_reducible refine Goes.upT (Foot.le_trans (by decide +kernel) hF) ?_
    | with_reducible refine Goes.takeAccess (Foot.le_trans (by decide +kernel) hF) ?_
    | with_reducible refine Goes.foldl ?_ ?_
    | split
    | intro _

/-- What `State.wakeOnDemand` may change. -/
def fp_wakeOnDemand : Foot := ⟨[.tim, .power, .now, .count, .replicas, .freeCtr], some [0x8009D, 0x8009C, 0x8009F,
  0x100, 0x6001A, 0x6001C, 0x6000F, 0x60010, 0x60284, 0x60290, 0x60285, 0x60282, 0x60280, 0x60283, 0x60288, 0x60281,
  0x6030E, 0x60300]⟩
theorem Goes.wakeOnDemand {s : State} {t : Nat} (hF : fp_wakeOnDemand.le F = true) (hgo : Goes F s0 s) :
     Goes F s0 (State.wakeOnDemand s t) := by
  unfold State.wakeOnDemand
  try dsimp only
  repeat' first
    | with_reducible assumption
    | with_reducible refine Goes.wakeDevice (Foot.le_trans (by decide +kernel) hF) ?_
    | with_reducible refine Goes.wakeTile (Foot.le_trans (by decide +kernel) hF) ?_
    | with_reducible refine Goes.foldl ?_ ?_
    | split
    | intro _

/-- What `State.tileAccess` may change. -/
def fp_tileAccess : Foot := ⟨[.halves, .sides, .ports, .engines, .mgmt, .tim, .tiles, .power, .evq, .now, .count,
  .replicas, .outbox, .freeCtr], none⟩
theorem Goes.tileAccess {s : State} {t : Nat} {a : TileAccess} (hF : fp_tileAccess.le F = true) (hgo : Goes F s0 s) :
     Goes F s0 (State.tileAccess s t a) := by
  unfold State.tileAccess
  try dsimp only
  repeat' first
    | with_reducible assumption
    | with_reducible refine Goes.drainAccesses (Foot.le_trans (by decide +kernel) hF) ?_
    | with_reducible refine Goes.tileQuiet (Foot.le_trans (by decide +kernel) hF) ?_
    | with_reducible refine Goes.wakeOnDemand (Foot.le_trans (by decide +kernel) hF) ?_
    | with_reducible refine Goes.upT (Foot.le_trans (by decide +kernel) hF) ?_
    | with_reducible refine Goes.takeAccess (Foot.le_trans (by decide +kernel) hF) ?_
    | with_reducible refine Goes.foldl ?_ ?_
    | split
    | intro _

/-- What `State.askRetrain` may change. -/
def fp_askRetrain : Foot := ⟨[.halves, .sides, .ports, .engines, .mgmt, .tim, .tiles, .power, .evq, .now, .count,
  .replicas, .outbox, .freeCtr], none⟩
theorem Goes.askRetrain {s : State} {p : Nat} {x : Nat} {v : Nat} (hF : fp_askRetrain.le F = true) (hgo : Goes F s0 s) :
     Goes F s0 (State.askRetrain s p x v) := by
  unfold State.askRetrain
  try dsimp only
  repeat' first
    | with_reducible assumption
    | with_reducible refine Goes.tileAccess (Foot.le_trans (by decide +kernel) hF) ?_
    | with_reducible refine Goes.foldl ?_ ?_
    | split
    | intro _

/-- What `State.tileStore` may change. -/
def fp_tileStore : Foot := ⟨[.halves, .sides, .ports, .engines, .mgmt, .tim, .tiles, .power, .evq, .now, .count,
  .replicas, .outbox, .freeCtr], none⟩
theorem Goes.tileStore {s : State} {x : Nat} {v : Nat} (hF : fp_tileStore.le F = true) (hgo : Goes F s0 s) :
     Goes F s0 (State.tileStore s x v) := by
  unfold State.tileStore
  try dsimp only
  repeat' first
    | with_reducible assumption
    | with_reducible refine Goes.tileAccess (Foot.le_trans (by decide +kernel) hF) ?_
    | with_reducible refine Goes.foldl ?_ ?_
    | split
    | intro _

end Sys2Proof.Machine
end

