-- ==== Sys2Proof/Laws/OnSliceOps.lean ====
section
/-! SUPPORT. What each operation of `Machine/SliceOps.lean` may change: one lemma for each. -/

set_option linter.all false
set_option Elab.async false

namespace Sys2Proof.Machine

variable {F : Foot} {s0 : State}

/-- What `State.coldRing` may change. -/
def fp_coldRing : Foot := ⟨[.rings], some [0x20020000, 0x2002011F, 0x2002011C, 0x2002011D, 0x2002011E, 0x20020114,
  0x20020100, 0x20020210, 0x20020200, 0x20020280, 0x2002029B, 0x2002029C]⟩
theorem Goes.coldRing {s : State} {k : Nat} {i : Nat} (hF : fp_coldRing.le F = true) (hgo : Goes F s0 s) :
     Goes F s0 (State.coldRing s k i) := by
  unfold State.coldRing
  try dsimp only
  repeat' first
    | with_reducible assumption
    | with_reducible refine Goes.coldAll (names_RNG_BASE_fields _ _ _) (Foot.le_trans (by decide +kernel) hF) ?_
    | with_reducible refine Goes.coldAll (names_RNG_CTRL_fields _ _) (Foot.le_trans (by decide +kernel) hF) ?_
    | with_reducible refine Goes.coldAll (names_RNG_POS_fields _ _) (Foot.le_trans (by decide +kernel) hF) ?_
    | with_reducible refine Goes.coldAll (names_RNG_STATUS_fields _ _) (Foot.le_trans (by decide +kernel) hF) ?_
    | with_reducible refine Goes.setRings (Foot.le_trans (by decide +kernel) hF) ?_ ?_
    | with_reducible refine Goes.foldl ?_ ?_
    | exact fun _ w => Tab.wf_empty
    | exact fun _ w => Tab.wf_set w.rings _ _
    | exact fun _ w => Tab.wf_erase w.rings _
    | exact fun _ w => Tab.wf_keep w.rings _
    | exact fun _ w => Tab.wf_map w.rings _
    | split
    | intro _

/-- What `State.coldWindow` may change. -/
def fp_coldWindow : Foot := ⟨[], some [0x20000080, 0x20000090, 0x2000009F, 0x20000108, 0x20000100]⟩
theorem Goes.coldWindow {s : State} {k : Nat} (hF : fp_coldWindow.le F = true) (hgo : Goes F s0 s) :
     Goes F s0 (State.coldWindow s k) := by
  unfold State.coldWindow
  try dsimp only
  repeat' first
    | with_reducible assumption
    | with_reducible refine Goes.coldAll (names_SLC_SELF_CTRL_fields _) (Foot.le_trans (by decide +kernel) hF) ?_
    | with_reducible refine Goes.cold (List.mem_singleton.2 (fieldName_SLC_SELF_STATUS_DISCARDED _)) (Foot.le_trans (by decide +kernel) hF) ?_
    | with_reducible refine Goes.cold (List.mem_singleton.2 (fieldName_SLC_SELF_STATUS_DROPPED _)) (Foot.le_trans (by decide +kernel) hF) ?_
    | with_reducible refine Goes.foldl ?_ ?_
    | split
    | intro _

/-- What `State.sliceEvent` may change. -/
def fp_sliceEvent : Foot := ⟨[.evq], some []⟩
theorem Goes.sliceEvent {s : State} {to_ : Nat} {k : Nat} {code : Nat} {result : List Nat} (hF : fp_sliceEvent.le F = true) (hgo : Goes F s0 s) :
     Goes F s0 (State.sliceEvent s to_ k code result) := by
  unfold State.sliceEvent
  try dsimp only
  repeat' first
    | with_reducible assumption
    | with_reducible refine Goes.setEvq (Foot.le_trans (by decide +kernel) hF) ?_
    | with_reducible refine Goes.foldl ?_ ?_
    | split
    | intro _

/-- What `State.shareChanged` may change. -/
def fp_shareChanged : Foot := ⟨[.evq], some []⟩
theorem Goes.shareChanged {s : State} {k : Nat} (hF : fp_shareChanged.le F = true) (hgo : Goes F s0 s) :
     Goes F s0 (State.shareChanged s k) := by
  unfold State.shareChanged
  try dsimp only
  repeat' first
    | with_reducible assumption
    | with_reducible refine Goes.sliceEvent (Foot.le_trans (by decide +kernel) hF) ?_
    | with_reducible refine Goes.foldl ?_ ?_
    | split
    | intro _

/-- What `State.activate` may change. -/
def fp_activate : Foot := ⟨[.slices, .rings], some [0x410003, 0x410000, 0x410002, 0x410001, 0x20020000, 0x2002011F,
  0x2002011C, 0x2002011D, 0x2002011E, 0x20020114, 0x20020100, 0x20020210, 0x20020200, 0x20020280, 0x2002029B,
  0x2002029C, 0x20000080, 0x20000090, 0x2000009F, 0x20000108, 0x20000100, 0x60009C]⟩
theorem Goes.activate {s : State} {k : Nat} (hF : fp_activate.le F = true) (hgo : Goes F s0 s) :
     Goes F s0 (State.activate s k) := by
  unfold State.activate
  try dsimp only
  repeat' first
    | with_reducible assumption
    | with_reducible refine Goes.coldAll (names_ENG_PERMIT_fields _) (Foot.le_trans (by decide +kernel) hF) ?_
    | with_reducible refine Goes.wr (List.mem_singleton.2 (fieldName_SLC_STATUS_STATE _)) (known_SLC_STATUS_STATE _).agrees (Foot.le_trans (by decide +kernel) hF) ?_
    | with_reducible refine Goes.upSl (Foot.le_trans (by decide +kernel) hF) ?_
    | with_reducible refine Goes.coldWindow (Foot.le_trans (by decide +kernel) hF) ?_
    | with_reducible refine Goes.each ?_ ?_
    | with_reducible refine Goes.coldRing (Foot.le_trans (by decide +kernel) hF) ?_
    | with_reducible refine Goes.foldl ?_ ?_
    | split
    | intro _

/-- What `State.createS0` may change. -/
def fp_createS0 : Foot := ⟨[.slices, .rings], some [0x410003, 0x410000, 0x410002, 0x410001, 0x20020000, 0x2002011F,
  0x2002011C, 0x2002011D, 0x2002011E, 0x20020114, 0x20020100, 0x20020210, 0x20020200, 0x20020280, 0x2002029B,
  0x2002029C, 0x600000, 0x600280, 0x600110, 0x600100, 0x20000080, 0x20000090, 0x2000009F, 0x20000108, 0x20000100,
  0x600200, 0x600212, 0x60009C, 0x600190, 0x600180]⟩
theorem Goes.createS0 {s : State} (hF : fp_createS0.le F = true) (hgo : Goes F s0 s) :
     Goes F s0 (State.createS0 s) := by
  unfold State.createS0
  try dsimp only
  repeat' first
    | with_reducible assumption
    | with_reducible refine Goes.wr (List.mem_singleton.2 (fieldName_SLC_CTRL_PASID _)) (known_SLC_CTRL_PASID _).agrees (Foot.le_trans (by decide +kernel) hF) ?_
    | with_reducible refine Goes.wr (List.mem_singleton.2 (fieldName_SLC_PORTS_PORTS _ _)) (known_SLC_PORTS_PORTS _ _).agrees (Foot.le_trans (by decide +kernel) hF) ?_
    | with_reducible refine Goes.wr (List.mem_singleton.2 (fieldName_SLC_RINGS_BASE _)) (known_SLC_RINGS_BASE _).agrees (Foot.le_trans (by decide +kernel) hF) ?_
    | with_reducible refine Goes.wr (List.mem_singleton.2 (fieldName_SLC_RINGS_COUNT _)) (known_SLC_RINGS_COUNT _).agrees (Foot.le_trans (by decide +kernel) hF) ?_
    | with_reducible refine Goes.wr (List.mem_singleton.2 (fieldName_SLC_SHARE_GRANULES _)) (known_SLC_SHARE_GRANULES _).agrees (Foot.le_trans (by decide +kernel) hF) ?_
    | with_reducible refine Goes.wr (List.mem_singleton.2 (fieldName_SLC_SHARE_TOKENS _)) (known_SLC_SHARE_TOKENS _).agrees (Foot.le_trans (by decide +kernel) hF) ?_
    | with_reducible refine Goes.wr (List.mem_singleton.2 (fieldName_SLC_VECTORS_BASE _)) (known_SLC_VECTORS_BASE _).agrees (Foot.le_trans (by decide +kernel) hF) ?_
    | with_reducible refine Goes.wr (List.mem_singleton.2 (fieldName_SLC_VECTORS_COUNT _)) (known_SLC_VECTORS_COUNT _).agrees (Foot.le_trans (by decide +kernel) hF) ?_
    | with_reducible refine Goes.activate (Foot.le_trans (by decide +kernel) hF) ?_
    | with_reducible refine Goes.foldl ?_ ?_
    | split
    | intro _

/-- What `State.showWinnow` may change. -/
def fp_showWinnow : Foot := ⟨[], some [0x102001F, 0x1020017, 0x1020013, 0x102000F, 0x1020007, 0x1020003]⟩
theorem Goes.showWinnow {s : State} {w : Nat} (hF : fp_showWinnow.le F = true) (hgo : Goes F s0 s) :
     Goes F s0 (State.showWinnow s w) := by
  unfold State.showWinnow
  try dsimp only
  repeat' first
    | with_reducible assumption
    | with_reducible refine Goes.wr (mem_two (names_TRC_WN_STATUS_CLAIMED _)) (known_TRC_WN_STATUS_CLAIMED _).agrees (Foot.le_trans (by decide +kernel) hF) ?_
    | with_reducible refine Goes.wr (mem_two (names_TRC_WN_STATUS_OWNER _)) (known_TRC_WN_STATUS_OWNER _).agrees (Foot.le_trans (by decide +kernel) hF) ?_
    | with_reducible refine Goes.wr (mem_two (names_TRC_WN_STATUS_UNITS _)) (known_TRC_WN_STATUS_UNITS _).agrees (Foot.le_trans (by decide +kernel) hF) ?_
    | with_reducible refine Goes.put (mem_two (names_TRC_WN_STATUS_CLAIMED _)) (known_TRC_WN_STATUS_CLAIMED _).agrees (Foot.le_trans (by decide +kernel) hF) ?_
    | with_reducible refine Goes.put (mem_two (names_TRC_WN_STATUS_OWNER _)) (known_TRC_WN_STATUS_OWNER _).agrees (Foot.le_trans (by decide +kernel) hF) ?_
    | with_reducible refine Goes.put (mem_two (names_TRC_WN_STATUS_UNITS _)) (known_TRC_WN_STATUS_UNITS _).agrees (Foot.le_trans (by decide +kernel) hF) ?_
    | with_reducible refine Goes.foldl ?_ ?_
    | split
    | intro _

/-- What `State.releaseWinnow` may change. -/
def fp_releaseWinnow : Foot := ⟨[.winnows], some [0x102001F, 0x1020017, 0x1020013, 0x102000F, 0x1020007, 0x1020003]⟩
theorem Goes.releaseWinnow {s : State} {w : Nat} (hF : fp_releaseWinnow.le F = true) (hgo : Goes F s0 s) :
     Goes F s0 (State.releaseWinnow s w) := by
  unfold State.releaseWinnow
  try dsimp only
  repeat' first
    | with_reducible assumption
    | with_reducible refine Goes.showWinnow (Foot.le_trans (by decide +kernel) hF) ?_
    | with_reducible refine Goes.upW (Foot.le_trans (by decide +kernel) hF) ?_
    | with_reducible refine Goes.foldl ?_ ?_
    | split
    | intro _

/-- What `State.releaseOwned` may change. -/
def fp_releaseOwned : Foot := ⟨[.winnows], some [0x102001F, 0x1020017, 0x1020013, 0x102000F, 0x1020007, 0x1020003]⟩
theorem Goes.releaseOwned {s : State} {k : Nat} {pick : Nat → Bool} (hF : fp_releaseOwned.le F = true) (hgo : Goes F s0 s) :
     Goes F s0 (State.releaseOwned s k pick) := by
  unfold State.releaseOwned
  try dsimp only
  repeat' first
    | with_reducible assumption
    | with_reducible refine Goes.each ?_ ?_
    | with_reducible refine Goes.releaseWinnow (Foot.le_trans (by decide +kernel) hF) ?_
    | with_reducible refine Goes.foldl ?_ ?_
    | split
    | intro _

/-- What `State.closeWindow` may change. -/
def fp_closeWindow : Foot := ⟨[.windows], some [0x20120180, 0x20120080, 0x20120100, 0x20120000, 0x2012001B,
  0x2012001A, 0x20120019, 0x2012001C]⟩
theorem Goes.closeWindow {s : State} {k : Nat} {w : Nat} (hF : fp_closeWindow.le F = true) (hgo : Goes F s0 s) :
     Goes F s0 (State.closeWindow s k w) := by
  unfold State.closeWindow
  try dsimp only
  repeat' first
    | with_reducible assumption
    | with_reducible refine Goes.coldAll (names_TRC_WIN_DROPS_fields _ _) (Foot.le_trans (by decide +kernel) hF) ?_
    | with_reducible refine Goes.coldAll (names_TRC_WIN_POS_fields _ _) (Foot.le_trans (by decide +kernel) hF) ?_
    | with_reducible refine Goes.coldAll (names_TRC_WIN_READ_fields _ _) (Foot.le_trans (by decide +kernel) hF) ?_
    | with_reducible refine Goes.coldAll (names_TRC_WIN_STATUS_fields _ _) (Foot.le_trans (by decide +kernel) hF) ?_
    | with_reducible refine Goes.setWindows (Foot.le_trans (by decide +kernel) hF) ?_ ?_
    | with_reducible refine Goes.foldl ?_ ?_
    | exact fun _ w => Tab.wf_empty
    | exact fun _ w => Tab.wf_set w.windows _ _
    | exact fun _ w => Tab.wf_erase w.windows _
    | exact fun _ w => Tab.wf_keep w.windows _
    | exact fun _ w => Tab.wf_map w.windows _
    | split
    | intro _

/-- What `State.stopTrace` may change. -/
def fp_stopTrace : Foot := ⟨[.winnows, .windows, .tiles], some [0x20120180, 0x20120080, 0x20120100, 0x20120000,
  0x2012001B, 0x2012001A, 0x20120019, 0x2012001C, 0x102001F, 0x1020017, 0x1020013, 0x102000F, 0x1020007, 0x1020003]⟩
theorem Goes.stopTrace {s : State} {k : Nat} (hF : fp_stopTrace.le F = true) (hgo : Goes F s0 s) :
     Goes F s0 (State.stopTrace s k) := by
  unfold State.stopTrace
  try dsimp only
  repeat' first
    | with_reducible assumption
    | with_reducible refine Goes.closeWindow (Foot.le_trans (by decide +kernel) hF) ?_
    | with_reducible refine Goes.each ?_ ?_
    | with_reducible refine Goes.upT (Foot.le_trans (by decide +kernel) hF) ?_
    | with_reducible refine Goes.releaseOwned (Foot.le_trans (by decide +kernel) hF) ?_
    | with_reducible refine Goes.foldl ?_ ?_
    | split
    | intro _

/-- What `State.dropJobs` may change. -/
def fp_dropJobs : Foot := ⟨[.engines], some [0x40800F, 0x408008, 0x40800A, 0x408000, 0x40800C]⟩
theorem Goes.dropJobs {s : State} {k : Nat} (hF : fp_dropJobs.le F = true) (hgo : Goes F s0 s) :
     Goes F s0 (State.dropJobs s k) := by
  unfold State.dropJobs
  try dsimp only
  repeat' first
    | with_reducible assumption
    | with_reducible refine Goes.showJob (Foot.le_trans (by decide +kernel) hF) ?_
    | with_reducible refine Goes.stopJob (Foot.le_trans (by decide +kernel) hF) ?_
    | with_reducible refine Goes.upE (Foot.le_trans (by decide +kernel) hF) ?_
    | with_reducible refine Goes.each ?_ ?_
    | with_reducible refine Goes.foldl ?_ ?_
    | split
    | intro _

/-- What `State.quietSlice` may change. -/
def fp_quietSlice : Foot := ⟨[.engines, .rings, .tags, .imgOp, .mgmt, .winnows, .windows, .tiles, .power, .evq,
  .staged], some [0x40800F, 0x408008, 0x40800A, 0x408000, 0x40800C, 0x280, 0x20006, 0x20007, 0x20020000, 0x2002011F,
  0x2002011C, 0x2002011D, 0x2002011E, 0x20020114, 0x20020100, 0x20020210, 0x20020200, 0x20020280, 0x2002029B,
  0x2002029C, 0x20000080, 0x20000090, 0x2000009F, 0x20000108, 0x20000100, 0x600090, 0x600080, 0x20120180, 0x20120080,
  0x20120100, 0x20120000, 0x2012001B, 0x2012001A, 0x20120019, 0x2012001C, 0x102001F, 0x1020017, 0x1020013, 0x102000F,
  0x1020007, 0x1020003]⟩
theorem Goes.quietSlice {s : State} {k : Nat} (hF : fp_quietSlice.le F = true) (hgo : Goes F s0 s) :
     Goes F s0 (State.quietSlice s k) := by
  unfold State.quietSlice
  try dsimp only
  repeat' first
    | with_reducible assumption
    | with_reducible refine Goes.upM (Foot.le_trans (by decide +kernel) hF) (fun _ h => h) ?_
    | with_reducible refine Goes.upM (Foot.le_trans (by decide +kernel) hF) ?_ ?_
    | with_reducible refine Goes.dropJobs (Foot.le_trans (by decide +kernel) hF) ?_
    | with_reducible refine Goes.setEvq (Foot.le_trans (by decide +kernel) hF) ?_
    | with_reducible refine Goes.stopTrace (Foot.le_trans (by decide +kernel) hF) ?_
    | with_reducible refine Goes.showStaged (Foot.le_trans (by decide +kernel) hF) ?_
    | with_reducible refine Goes.setStaged (Foot.le_trans (by decide +kernel) hF) ?_
    | with_reducible refine Goes.coldWindow (Foot.le_trans (by decide +kernel) hF) ?_
    | with_reducible refine Goes.each ?_ ?_
    | with_reducible refine Goes.voidReads (Foot.le_trans (by decide +kernel) hF) ?_
    | with_reducible refine Goes.deviceQuiet (Foot.le_trans (by decide +kernel) hF) ?_
    | with_reducible refine Goes.coldRing (Foot.le_trans (by decide +kernel) hF) ?_
    | with_reducible refine Goes.wrapUp (List.mem_singleton.2 (fieldName_SLC_STATUS_GENERATION _)) (known_SLC_STATUS_GENERATION _).agrees (Foot.le_trans (by decide +kernel) hF) ?_
    | with_reducible refine Goes.foldl ?_ ?_
    | exact fun _ h => Tab.wf_set h _ _
    | exact fun _ h => Tab.wf_erase h _
    | exact fun _ h => Tab.wf_empty
    | split
    | intro _

/-- What `State.freeSlice` may change. -/
def fp_freeSlice : Foot := ⟨[.slices, .rings, .mgmt, .evq], some [0x410003, 0x410000, 0x410002, 0x410001, 0x20020000,
  0x2002011F, 0x2002011C, 0x2002011D, 0x2002011E, 0x20020114, 0x20020100, 0x20020210, 0x20020200, 0x20020280,
  0x2002029B, 0x2002029C, 0x600000, 0x600280, 0x600110, 0x600100, 0x20000080, 0x20000090, 0x2000009F, 0x20000108,
  0x20000100, 0x600200, 0x600212, 0x60008E, 0x600090, 0x60009C, 0x600190, 0x600180]⟩
theorem Goes.freeSlice {s : State} {k : Nat} {tell : Bool} (hF : fp_freeSlice.le F = true) (hgo : Goes F s0 s) :
     Goes F s0 (State.freeSlice s k tell) := by
  unfold State.freeSlice
  try dsimp only
  repeat' first
    | with_reducible assumption
    | with_reducible refine Goes.upM (Foot.le_trans (by decide +kernel) hF) (fun _ h => h) ?_
    | with_reducible refine Goes.upM (Foot.le_trans (by decide +kernel) hF) ?_ ?_
    | with_reducible refine Goes.sliceEvent (Foot.le_trans (by decide +kernel) hF) ?_
    | with_reducible refine Goes.coldAll (names_ENG_PERMIT_fields _) (Foot.le_trans (by decide +kernel) hF) ?_
    | with_reducible refine Goes.wr (List.mem_singleton.2 (fieldName_SLC_STATUS_DESTROY_PENDING _)) (known_SLC_STATUS_DESTROY_PENDING _).agrees (Foot.le_trans (by decide +kernel) hF) ?_
    | with_reducible refine Goes.wr (List.mem_singleton.2 (fieldName_SLC_STATUS_GENERATION _)) (known_SLC_STATUS_GENERATION _).agrees (Foot.le_trans (by decide +kernel) hF) ?_
    | with_reducible refine Goes.wr (List.mem_singleton.2 (fieldName_SLC_STATUS_STATE _)) (known_SLC_STATUS_STATE _).agrees (Foot.le_trans (by decide +kernel) hF) ?_
    | with_reducible refine Goes.upSl (Foot.le_trans (by decide +kernel) hF) ?_
    | with_reducible refine Goes.off (List.mem_singleton.2 (fieldName_SLC_STATUS_DESTROY_PENDING _)) (known_SLC_STATUS_DESTROY_PENDING _).agrees (Foot.le_trans (by decide +kernel) hF) ?_
    | with_reducible refine Goes.off (List.mem_singleton.2 (fieldName_SLC_STATUS_GENERATION _)) (known_SLC_STATUS_GENERATION _).agrees (Foot.le_trans (by decide +kernel) hF) ?_
    | with_reducible refine Goes.off (List.mem_singleton.2 (fieldName_SLC_STATUS_STATE _)) (known_SLC_STATUS_STATE _).agrees (Foot.le_trans (by decide +kernel) hF) ?_
    | with_reducible refine Goes.createS0 (Foot.le_trans (by decide +kernel) hF) ?_
    | with_reducible refine Goes.wrapUp (List.mem_singleton.2 (fieldName_SLC_STATUS_DESTROY_PENDING _)) (known_SLC_STATUS_DESTROY_PENDING _).agrees (Foot.le_trans (by decide +kernel) hF) ?_
    | with_reducible refine Goes.wrapUp (List.mem_singleton.2 (fieldName_SLC_STATUS_GENERATION _)) (known_SLC_STATUS_GENERATION _).agrees (Foot.le_trans (by decide +kernel) hF) ?_
    | with_reducible refine Goes.wrapUp (List.mem_singleton.2 (fieldName_SLC_STATUS_STATE _)) (known_SLC_STATUS_STATE _).agrees (Foot.le_trans (by decide +kernel) hF) ?_
    | with_reducible refine Goes.foldl ?_ ?_
    | exact fun _ h => Tab.wf_set h _ _
    | exact fun _ h => Tab.wf_erase h _
    | exact fun _ h => Tab.wf_empty
    | split
    | intro _

/-- What `State.reply` may change. -/
def fp_reply : Foot := ⟨[.rings, .power, .evq], some []⟩
theorem Goes.reply {s : State} {k : Nat} {i : Nat} {idx : Nat} {e : List Byte} {status : Nat} {result : List Nat} {port : Option Nat} (hF : fp_reply.le F = true) (hgo : Goes F s0 s) :
     Goes F s0 (State.reply s k i idx e status result port) := by
  unfold State.reply
  try dsimp only
  repeat' first
    | with_reducible assumption
    | with_reducible refine Goes.complete (Foot.le_trans (by decide +kernel) hF) ?_
    | with_reducible refine Goes.foldl ?_ ?_
    | split
    | intro _

/-- What `State.replyAs` may change. -/
def fp_replyAs : Foot := ⟨[.rings, .power, .evq], some []⟩
theorem Goes.replyAs {s : State} {k : Nat} {i : Nat} {idx : Nat} {e : List Byte} {status : Nat} {result : List Nat} {pub : Option (List Nat)} (hF : fp_replyAs.le F = true) (hgo : Goes F s0 s) :
     Goes F s0 (State.replyAs s k i idx e status result pub) := by
  unfold State.replyAs
  try dsimp only
  repeat' first
    | with_reducible assumption
    | with_reducible refine Goes.completeAs (Foot.le_trans (by decide +kernel) hF) ?_
    | with_reducible refine Goes.foldl ?_ ?_
    | split
    | intro _

/-- What `State.takeFront` may change. -/
def fp_takeFront : Foot := ⟨[.rings], some [0x20020210]⟩
theorem Goes.takeFront {s : State} {k : Nat} {i : Nat} {cmd : Nat} {job : Bool} (hF : fp_takeFront.le F = true) (hgo : Goes F s0 s) :
     Goes F s0 (State.takeFront s k i cmd job) := by
  unfold State.takeFront
  try dsimp only
  repeat' first
    | with_reducible assumption
    | with_reducible refine Goes.wr (List.mem_singleton.2 (fieldName_RNG_POS_HEAD _ _)) (known_RNG_POS_HEAD _ _).agrees (Foot.le_trans (by decide +kernel) hF) ?_
    | with_reducible refine Goes.upR (Foot.le_trans (by decide +kernel) hF) ?_
    | with_reducible refine Goes.foldl ?_ ?_
    | split
    | intro _

/-- What `State.drain` may change. -/
def fp_drain : Foot := ⟨[.rings, .tags, .mgmt, .power, .evq, .outbox], some [0x20020210]⟩
theorem Goes.drain {s : State} {k i n : Nat} (hF : fp_drain.le F = true) (hgo : Goes F s0 s) :
    Goes F s0 (State.drain s k i n) := by
  induction n generalizing s with
  | zero => exact Goes.fetchRing (Foot.le_trans (by decide +kernel) hF) hgo
  | succ n ih =>
    unfold State.drain
    repeat' first
      | with_reducible assumption
      | exact Goes.fetchRing (Foot.le_trans (by decide +kernel) hF) hgo
      | exact ih (Goes.reply (Foot.le_trans (by decide +kernel) hF) (Goes.takeFront (Foot.le_trans (by decide +kernel) hF) hgo))
      | split

/-- What `State.command` may change. -/
def fp_command : Foot := ⟨[.rings, .tags, .mgmt, .power, .evq, .outbox], some [0x20020210]⟩
theorem Goes.command {s : State} {k : Nat} {i : Nat} {op : Nat} {ready : Bool} {act : State → Nat → List Byte → State} (hF : fp_command.le F = true) (hact : ∀ t, Goes F s0 t → ∀ b0 b1, Goes F s0 (act t b0 b1)) (hgo : Goes F s0 s) :
     Goes F s0 (State.command s k i op ready act) := by
  unfold State.command
  try dsimp only
  repeat' first
    | with_reducible assumption
    | with_reducible refine hact _ ?_ _ _
    | with_reducible refine Goes.takeFront (Foot.le_trans (by decide +kernel) hF) ?_
    | with_reducible refine Goes.drain (Foot.le_trans (by decide +kernel) hF) ?_
    | with_reducible refine Goes.foldl ?_ ?_
    | split
    | intro _

/-- What `State.named` may change. -/
def fp_named : Foot := ⟨[.ports, .rings, .power, .evq], some []⟩
theorem Goes.named {s : State} {k : Nat} {i : Nat} {idx : Nat} {e : List Byte} {permitted : Bool} {needEnabled : Bool} {act : State → State} (hF : fp_named.le F = true) (hact : ∀ t, Goes F s0 t → Goes F s0 (act t)) (hgo : Goes F s0 s) :
     Goes F s0 (State.named s k i idx e permitted needEnabled act) := by
  unfold State.named
  try dsimp only
  repeat' first
    | with_reducible assumption
    | with_reducible refine hact _ ?_
    | with_reducible refine Goes.reply (Foot.le_trans (by decide +kernel) hF) ?_
    | with_reducible refine Goes.publish (Foot.le_trans (by decide +kernel) hF) ?_
    | with_reducible refine Goes.foldl ?_ ?_
    | split
    | intro _

end Sys2Proof.Machine
end

