-- ==== Sys2Proof/Laws/OnJobOps.lean ====
section
/-! SUPPORT. What each operation of `Machine/JobOps.lean` may change: one lemma for each. -/

set_option linter.all false
set_option Elab.async false

namespace Sys2Proof.Machine

variable {F : Foot} {s0 : State}

/-- What `State.moveRx` may change. -/
def fp_moveRx : Foot := ⟨[.halves], some []⟩
theorem Goes.moveRx {s : State} {j : Job} (hF : fp_moveRx.le F = true) (hgo : Goes F s0 s) :
     Goes F s0 (State.moveRx s j) := by
  unfold State.moveRx
  try dsimp only
  repeat' first
    | with_reducible assumption
    | with_reducible refine Goes.upH (Foot.le_trans (by decide +kernel) hF) (fun _ h => h) ?_
    | with_reducible refine Goes.upH (Foot.le_trans (by decide +kernel) hF) ?_ ?_
    | with_reducible refine Goes.foldl ?_ ?_
    | exact fun _ h => h
    | exact fun _ h => by dsimp only; (repeat' split) <;> exact h
    | split
    | intro _

/-- What `State.payStep` may change. -/
def fp_payStep : Foot := ⟨[.halves, .engines, .slices], some [0x40C010]⟩
theorem Goes.payStep {s : State} {k : Nat} {j : Job} (hF : fp_payStep.le F = true) (hgo : Goes F s0 s) :
     Goes F s0 (State.payStep s k j) := by
  unfold State.payStep
  try dsimp only
  repeat' first
    | with_reducible assumption
    | with_reducible refine Goes.upSl (Foot.le_trans (by decide +kernel) hF) ?_
    | with_reducible refine Goes.upE (Foot.le_trans (by decide +kernel) hF) ?_
    | with_reducible refine Goes.moveRx (Foot.le_trans (by decide +kernel) hF) ?_
    | with_reducible refine Goes.wrapUp (List.mem_singleton.2 (fieldName_ENG_CNT_STEPS _)) (known_ENG_CNT_STEPS _).agrees (Foot.le_trans (by decide +kernel) hF) ?_
    | with_reducible refine Goes.foldl ?_ ?_
    | split
    | intro _

/-- What `State.writeResults` may change. -/
def fp_writeResults : Foot := ⟨[.mgmt, .outbox], some []⟩
theorem Goes.writeResults {s : State} {j : Job} (hF : fp_writeResults.le F = true) (hgo : Goes F s0 s) :
     Goes F s0 (State.writeResults s j).1 := by
  unfold State.writeResults
  try dsimp only
  repeat' first
    | with_reducible assumption
    | with_reducible refine Goes.granary (Foot.le_trans (by decide +kernel) hF) ?_
    | with_reducible refine Goes.foldl ?_ ?_
    | split
    | intro _

/-- What `State.finishJob` may change. -/
def fp_finishJob : Foot := ⟨[.engines, .rings, .mgmt, .tiles, .power, .evq, .outbox], some [0x40C008, 0x40800F,
  0x408008, 0x40800A, 0x408000, 0x40800C, 0x295]⟩
theorem Goes.finishJob {s : State} {k : Nat} {j : Job} (hF : fp_finishJob.le F = true) (hgo : Goes F s0 s) :
     Goes F s0 (State.finishJob s k j) := by
  unfold State.finishJob
  try dsimp only
  repeat' first
    | with_reducible assumption
    | with_reducible refine Goes.writeResults (Foot.le_trans (by decide +kernel) hF) ?_
    | with_reducible refine Goes.showJob (Foot.le_trans (by decide +kernel) hF) ?_
    | with_reducible refine Goes.on (List.mem_singleton.2 (fieldName_GLB_MGMT_STATUS_STAGING_FULL)) (known_GLB_MGMT_STATUS_STAGING_FULL).agrees (Foot.le_trans (by decide +kernel) hF) ?_
    | with_reducible refine Goes.upE (Foot.le_trans (by decide +kernel) hF) ?_
    | with_reducible refine Goes.endJob (Foot.le_trans (by decide +kernel) hF) ?_
    | with_reducible refine Goes.foldl ?_ ?_
    | split
    | intro _

/-- What `State.releaseJobs` may change. -/
def fp_releaseJobs : Foot := ⟨[.engines, .rings, .mgmt, .tiles, .power, .evq, .outbox], some [0x40C008, 0x40800F,
  0x408008, 0x40800A, 0x408000, 0x40800C, 0x295]⟩
theorem Goes.releaseJobs {s : State} (hF : fp_releaseJobs.le F = true) (hgo : Goes F s0 s) :
     Goes F s0 (State.releaseJobs s) := by
  unfold State.releaseJobs
  try dsimp only
  repeat' first
    | with_reducible assumption
    | with_reducible refine Goes.each ?_ ?_
    | with_reducible refine Goes.finishJob (Foot.le_trans (by decide +kernel) hF) ?_
    | with_reducible refine Goes.foldl ?_ ?_
    | split
    | intro _

end Sys2Proof.Machine
end

