-- ==== Sys2Proof/Laws/OnTimeOps.lean ====
section
/-! SUPPORT. What each operation of `Machine/TimeOps.lean` may change: one lemma for each. -/

set_option linter.all false
set_option Elab.async false

namespace Sys2Proof.Machine

variable {F : Foot} {s0 : State}

/-- What `State.toQuality` may change. -/
def fp_toQuality : Foot := ⟨[.tim], some [0xC021E, 0xC0280]⟩
theorem Goes.toQuality {s : State} {q : Nat} (hF : fp_toQuality.le F = true) (hgo : Goes F s0 s) :
     Goes F s0 (State.toQuality s q) := by
  unfold State.toQuality
  try dsimp only
  repeat' first
    | with_reducible assumption
    | with_reducible refine Goes.wr (List.mem_singleton.2 (fieldName_TIM_STATUS_QUALITY)) (known_TIM_STATUS_QUALITY).agrees (Foot.le_trans (by decide +kernel) hF) ?_
    | with_reducible refine Goes.wr (List.mem_singleton.2 (fieldName_TIM_UNCERT_BOUND)) (known_TIM_UNCERT_BOUND).agrees (Foot.le_trans (by decide +kernel) hF) ?_
    | with_reducible refine Goes.upTim (Foot.le_trans (by decide +kernel) hF) (fun _ h => h) ?_
    | with_reducible refine Goes.upTim (Foot.le_trans (by decide +kernel) hF) ?_ ?_
    | with_reducible refine Goes.foldl ?_ ?_
    | exact fun _ h => Tab.wf_erase h _
    | exact fun _ h => Tab.wf_empty
    | exact fun _ h => Tab.wf_set h _ _
    | split
    | intro _

/-- What `State.noParent` may change. -/
def fp_noParent : Foot := ⟨[], some [0xC020E, 0xC020D, 0xC0214]⟩
theorem Goes.noParent {s : State} (hF : fp_noParent.le F = true) (hgo : Goes F s0 s) :
     Goes F s0 (State.noParent s) := by
  unfold State.noParent
  try dsimp only
  repeat' first
    | with_reducible assumption
    | with_reducible refine Goes.wr (List.mem_singleton.2 (fieldName_TIM_STATUS_PARENT_PORT)) (known_TIM_STATUS_PARENT_PORT).agrees (Foot.le_trans (by decide +kernel) hF) ?_
    | with_reducible refine Goes.wr (List.mem_singleton.2 (fieldName_TIM_STATUS_PARENT_PULSE)) (known_TIM_STATUS_PARENT_PULSE).agrees (Foot.le_trans (by decide +kernel) hF) ?_
    | with_reducible refine Goes.wr (List.mem_singleton.2 (fieldName_TIM_STATUS_PARENT_SIDE)) (known_TIM_STATUS_PARENT_SIDE).agrees (Foot.le_trans (by decide +kernel) hF) ?_
    | with_reducible refine Goes.off (List.mem_singleton.2 (fieldName_TIM_STATUS_PARENT_PORT)) (known_TIM_STATUS_PARENT_PORT).agrees (Foot.le_trans (by decide +kernel) hF) ?_
    | with_reducible refine Goes.off (List.mem_singleton.2 (fieldName_TIM_STATUS_PARENT_PULSE)) (known_TIM_STATUS_PARENT_PULSE).agrees (Foot.le_trans (by decide +kernel) hF) ?_
    | with_reducible refine Goes.off (List.mem_singleton.2 (fieldName_TIM_STATUS_PARENT_SIDE)) (known_TIM_STATUS_PARENT_SIDE).agrees (Foot.le_trans (by decide +kernel) hF) ?_
    | with_reducible refine Goes.foldl ?_ ?_
    | split
    | intro _

/-- What `State.noMaster` may change. -/
def fp_noMaster : Foot := ⟨[], some [0xC0200, 0xC020A, 0xC020E, 0xC020D, 0xC0214, 0xC0215]⟩
theorem Goes.noMaster {s : State} (hF : fp_noMaster.le F = true) (hgo : Goes F s0 s) :
     Goes F s0 (State.noMaster s) := by
  unfold State.noMaster
  try dsimp only
  repeat' first
    | with_reducible assumption
    | with_reducible refine Goes.wr (List.mem_singleton.2 (fieldName_TIM_STATUS_MASTER_ID)) (known_TIM_STATUS_MASTER_ID).agrees (Foot.le_trans (by decide +kernel) hF) ?_
    | with_reducible refine Goes.wr (List.mem_singleton.2 (fieldName_TIM_STATUS_MASTER_VALID)) (known_TIM_STATUS_MASTER_VALID).agrees (Foot.le_trans (by decide +kernel) hF) ?_
    | with_reducible refine Goes.wr (List.mem_singleton.2 (fieldName_TIM_STATUS_STRATUM)) (known_TIM_STATUS_STRATUM).agrees (Foot.le_trans (by decide +kernel) hF) ?_
    | with_reducible refine Goes.off (List.mem_singleton.2 (fieldName_TIM_STATUS_MASTER_ID)) (known_TIM_STATUS_MASTER_ID).agrees (Foot.le_trans (by decide +kernel) hF) ?_
    | with_reducible refine Goes.off (List.mem_singleton.2 (fieldName_TIM_STATUS_MASTER_VALID)) (known_TIM_STATUS_MASTER_VALID).agrees (Foot.le_trans (by decide +kernel) hF) ?_
    | with_reducible refine Goes.off (List.mem_singleton.2 (fieldName_TIM_STATUS_STRATUM)) (known_TIM_STATUS_STRATUM).agrees (Foot.le_trans (by decide +kernel) hF) ?_
    | with_reducible refine Goes.noParent (Foot.le_trans (by decide +kernel) hF) ?_
    | with_reducible refine Goes.foldl ?_ ?_
    | split
    | intro _

/-- What `State.showRole` may change. -/
def fp_showRole : Foot := ⟨[.tim], some [0xC021C, 0xC021D, 0xC0200, 0xC020A, 0xC020E, 0xC020D, 0xC0214, 0xC0215]⟩
theorem Goes.showRole {s : State} (hF : fp_showRole.le F = true) (hgo : Goes F s0 s) :
     Goes F s0 (State.showRole s) := by
  unfold State.showRole
  try dsimp only
  repeat' first
    | with_reducible assumption
    | with_reducible refine Goes.on (List.mem_singleton.2 (fieldName_TIM_STATUS_HOLDOVER)) (known_TIM_STATUS_HOLDOVER).agrees (Foot.le_trans (by decide +kernel) hF) ?_
    | with_reducible refine Goes.on (List.mem_singleton.2 (fieldName_TIM_STATUS_LOCKED)) (known_TIM_STATUS_LOCKED).agrees (Foot.le_trans (by decide +kernel) hF) ?_
    | with_reducible refine Goes.on (List.mem_singleton.2 (fieldName_TIM_STATUS_MASTER_ID)) (known_TIM_STATUS_MASTER_ID).agrees (Foot.le_trans (by decide +kernel) hF) ?_
    | with_reducible refine Goes.on (List.mem_singleton.2 (fieldName_TIM_STATUS_MASTER_VALID)) (known_TIM_STATUS_MASTER_VALID).agrees (Foot.le_trans (by decide +kernel) hF) ?_
    | with_reducible refine Goes.on (List.mem_singleton.2 (fieldName_TIM_STATUS_STRATUM)) (known_TIM_STATUS_STRATUM).agrees (Foot.le_trans (by decide +kernel) hF) ?_
    | with_reducible refine Goes.wr (List.mem_singleton.2 (fieldName_TIM_STATUS_HOLDOVER)) (known_TIM_STATUS_HOLDOVER).agrees (Foot.le_trans (by decide +kernel) hF) ?_
    | with_reducible refine Goes.wr (List.mem_singleton.2 (fieldName_TIM_STATUS_LOCKED)) (known_TIM_STATUS_LOCKED).agrees (Foot.le_trans (by decide +kernel) hF) ?_
    | with_reducible refine Goes.wr (List.mem_singleton.2 (fieldName_TIM_STATUS_MASTER_ID)) (known_TIM_STATUS_MASTER_ID).agrees (Foot.le_trans (by decide +kernel) hF) ?_
    | with_reducible refine Goes.wr (List.mem_singleton.2 (fieldName_TIM_STATUS_MASTER_VALID)) (known_TIM_STATUS_MASTER_VALID).agrees (Foot.le_trans (by decide +kernel) hF) ?_
    | with_reducible refine Goes.wr (List.mem_singleton.2 (fieldName_TIM_STATUS_STRATUM)) (known_TIM_STATUS_STRATUM).agrees (Foot.le_trans (by decide +kernel) hF) ?_
    | with_reducible refine Goes.off (List.mem_singleton.2 (fieldName_TIM_STATUS_HOLDOVER)) (known_TIM_STATUS_HOLDOVER).agrees (Foot.le_trans (by decide +kernel) hF) ?_
    | with_reducible refine Goes.off (List.mem_singleton.2 (fieldName_TIM_STATUS_LOCKED)) (known_TIM_STATUS_LOCKED).agrees (Foot.le_trans (by decide +kernel) hF) ?_
    | with_reducible refine Goes.off (List.mem_singleton.2 (fieldName_TIM_STATUS_MASTER_ID)) (known_TIM_STATUS_MASTER_ID).agrees (Foot.le_trans (by decide +kernel) hF) ?_
    | with_reducible refine Goes.off (List.mem_singleton.2 (fieldName_TIM_STATUS_MASTER_VALID)) (known_TIM_STATUS_MASTER_VALID).agrees (Foot.le_trans (by decide +kernel) hF) ?_
    | with_reducible refine Goes.off (List.mem_singleton.2 (fieldName_TIM_STATUS_STRATUM)) (known_TIM_STATUS_STRATUM).agrees (Foot.le_trans (by decide +kernel) hF) ?_
    | with_reducible refine Goes.noMaster (Foot.le_trans (by decide +kernel) hF) ?_
    | with_reducible refine Goes.upTim (Foot.le_trans (by decide +kernel) hF) (fun _ h => h) ?_
    | with_reducible refine Goes.upTim (Foot.le_trans (by decide +kernel) hF) ?_ ?_
    | with_reducible refine Goes.noParent (Foot.le_trans (by decide +kernel) hF) ?_
    | with_reducible refine Goes.foldl ?_ ?_
    | exact fun _ h => Tab.wf_erase h _
    | exact fun _ h => Tab.wf_empty
    | exact fun _ h => Tab.wf_set h _ _
    | split
    | intro _

/-- What `State.showParent` may change. -/
def fp_showParent : Foot := ⟨[], some [0xC021D, 0xC0200, 0xC020A, 0xC020E, 0xC020D, 0xC0214, 0xC0215]⟩
theorem Goes.showParent {s : State} {c : Candidate} (hF : fp_showParent.le F = true) (hgo : Goes F s0 s) :
     Goes F s0 (State.showParent s c) := by
  unfold State.showParent
  try dsimp only
  repeat' first
    | with_reducible assumption
    | with_reducible refine Goes.on (List.mem_singleton.2 (fieldName_TIM_STATUS_LOCKED)) (known_TIM_STATUS_LOCKED).agrees (Foot.le_trans (by decide +kernel) hF) ?_
    | with_reducible refine Goes.on (List.mem_singleton.2 (fieldName_TIM_STATUS_MASTER_ID)) (known_TIM_STATUS_MASTER_ID).agrees (Foot.le_trans (by decide +kernel) hF) ?_
    | with_reducible refine Goes.on (List.mem_singleton.2 (fieldName_TIM_STATUS_MASTER_VALID)) (known_TIM_STATUS_MASTER_VALID).agrees (Foot.le_trans (by decide +kernel) hF) ?_
    | with_reducible refine Goes.on (List.mem_singleton.2 (fieldName_TIM_STATUS_PARENT_PORT)) (known_TIM_STATUS_PARENT_PORT).agrees (Foot.le_trans (by decide +kernel) hF) ?_
    | with_reducible refine Goes.on (List.mem_singleton.2 (fieldName_TIM_STATUS_PARENT_PULSE)) (known_TIM_STATUS_PARENT_PULSE).agrees (Foot.le_trans (by decide +kernel) hF) ?_
    | with_reducible refine Goes.on (List.mem_singleton.2 (fieldName_TIM_STATUS_PARENT_SIDE)) (known_TIM_STATUS_PARENT_SIDE).agrees (Foot.le_trans (by decide +kernel) hF) ?_
    | with_reducible refine Goes.on (List.mem_singleton.2 (fieldName_TIM_STATUS_STRATUM)) (known_TIM_STATUS_STRATUM).agrees (Foot.le_trans (by decide +kernel) hF) ?_
    | with_reducible refine Goes.wr (List.mem_singleton.2 (fieldName_TIM_STATUS_LOCKED)) (known_TIM_STATUS_LOCKED).agrees (Foot.le_trans (by decide +kernel) hF) ?_
    | with_reducible refine Goes.wr (List.mem_singleton.2 (fieldName_TIM_STATUS_MASTER_ID)) (known_TIM_STATUS_MASTER_ID).agrees (Foot.le_trans (by decide +kernel) hF) ?_
    | with_reducible refine Goes.wr (List.mem_singleton.2 (fieldName_TIM_STATUS_MASTER_VALID)) (known_TIM_STATUS_MASTER_VALID).agrees (Foot.le_trans (by decide +kernel) hF) ?_
    | with_reducible refine Goes.wr (List.mem_singleton.2 (fieldName_TIM_STATUS_PARENT_PORT)) (known_TIM_STATUS_PARENT_PORT).agrees (Foot.le_trans (by decide +kernel) hF) ?_
    | with_reducible refine Goes.wr (List.mem_singleton.2 (fieldName_TIM_STATUS_PARENT_PULSE)) (known_TIM_STATUS_PARENT_PULSE).agrees (Foot.le_trans (by decide +kernel) hF) ?_
    | with_reducible refine Goes.wr (List.mem_singleton.2 (fieldName_TIM_STATUS_PARENT_SIDE)) (known_TIM_STATUS_PARENT_SIDE).agrees (Foot.le_trans (by decide +kernel) hF) ?_
    | with_reducible refine Goes.wr (List.mem_singleton.2 (fieldName_TIM_STATUS_STRATUM)) (known_TIM_STATUS_STRATUM).agrees (Foot.le_trans (by decide +kernel) hF) ?_
    | with_reducible refine Goes.off (List.mem_singleton.2 (fieldName_TIM_STATUS_LOCKED)) (known_TIM_STATUS_LOCKED).agrees (Foot.le_trans (by decide +kernel) hF) ?_
    | with_reducible refine Goes.off (List.mem_singleton.2 (fieldName_TIM_STATUS_MASTER_ID)) (known_TIM_STATUS_MASTER_ID).agrees (Foot.le_trans (by decide +kernel) hF) ?_
    | with_reducible refine Goes.off (List.mem_singleton.2 (fieldName_TIM_STATUS_MASTER_VALID)) (known_TIM_STATUS_MASTER_VALID).agrees (Foot.le_trans (by decide +kernel) hF) ?_
    | with_reducible refine Goes.off (List.mem_singleton.2 (fieldName_TIM_STATUS_PARENT_PORT)) (known_TIM_STATUS_PARENT_PORT).agrees (Foot.le_trans (by decide +kernel) hF) ?_
    | with_reducible refine Goes.off (List.mem_singleton.2 (fieldName_TIM_STATUS_PARENT_PULSE)) (known_TIM_STATUS_PARENT_PULSE).agrees (Foot.le_trans (by decide +kernel) hF) ?_
    | with_reducible refine Goes.off (List.mem_singleton.2 (fieldName_TIM_STATUS_PARENT_SIDE)) (known_TIM_STATUS_PARENT_SIDE).agrees (Foot.le_trans (by decide +kernel) hF) ?_
    | with_reducible refine Goes.off (List.mem_singleton.2 (fieldName_TIM_STATUS_STRATUM)) (known_TIM_STATUS_STRATUM).agrees (Foot.le_trans (by decide +kernel) hF) ?_
    | with_reducible refine Goes.put (List.mem_singleton.2 (fieldName_TIM_STATUS_LOCKED)) (known_TIM_STATUS_LOCKED).agrees (Foot.le_trans (by decide +kernel) hF) ?_
    | with_reducible refine Goes.put (List.mem_singleton.2 (fieldName_TIM_STATUS_MASTER_ID)) (known_TIM_STATUS_MASTER_ID).agrees (Foot.le_trans (by decide +kernel) hF) ?_
    | with_reducible refine Goes.put (List.mem_singleton.2 (fieldName_TIM_STATUS_MASTER_VALID)) (known_TIM_STATUS_MASTER_VALID).agrees (Foot.le_trans (by decide +kernel) hF) ?_
    | with_reducible refine Goes.put (List.mem_singleton.2 (fieldName_TIM_STATUS_PARENT_PORT)) (known_TIM_STATUS_PARENT_PORT).agrees (Foot.le_trans (by decide +kernel) hF) ?_
    | with_reducible refine Goes.put (List.mem_singleton.2 (fieldName_TIM_STATUS_PARENT_PULSE)) (known_TIM_STATUS_PARENT_PULSE).agrees (Foot.le_trans (by decide +kernel) hF) ?_
    | with_reducible refine Goes.put (List.mem_singleton.2 (fieldName_TIM_STATUS_PARENT_SIDE)) (known_TIM_STATUS_PARENT_SIDE).agrees (Foot.le_trans (by decide +kernel) hF) ?_
    | with_reducible refine Goes.put (List.mem_singleton.2 (fieldName_TIM_STATUS_STRATUM)) (known_TIM_STATUS_STRATUM).agrees (Foot.le_trans (by decide +kernel) hF) ?_
    | with_reducible refine Goes.foldl ?_ ?_
    | split
    | intro _

/-- What `State.setSlew` may change. -/
def fp_setSlew : Foot := ⟨[.tim], some [0xC021B]⟩
theorem Goes.setSlew {s : State} {n : Nat} (hF : fp_setSlew.le F = true) (hgo : Goes F s0 s) :
     Goes F s0 (State.setSlew s n) := by
  unfold State.setSlew
  try dsimp only
  repeat' first
    | with_reducible assumption
    | with_reducible refine Goes.put (List.mem_singleton.2 (fieldName_TIM_STATUS_SLEWING)) (known_TIM_STATUS_SLEWING).agrees (Foot.le_trans (by decide +kernel) hF) ?_
    | with_reducible refine Goes.upTim (Foot.le_trans (by decide +kernel) hF) (fun _ h => h) ?_
    | with_reducible refine Goes.upTim (Foot.le_trans (by decide +kernel) hF) ?_ ?_
    | with_reducible refine Goes.foldl ?_ ?_
    | exact fun _ h => Tab.wf_erase h _
    | exact fun _ h => Tab.wf_empty
    | exact fun _ h => Tab.wf_set h _ _
    | split
    | intro _

/-- What `State.stepTime` may change. -/
def fp_stepTime : Foot := ⟨[.tim, .now, .count, .replicas], some [0xC021B, 0xC0219]⟩
theorem Goes.stepTime {s : State} {v : Nat} (hF : fp_stepTime.le F = true) (hgo : Goes F s0 s) :
     Goes F s0 (State.stepTime s v) := by
  unfold State.stepTime
  try dsimp only
  repeat' first
    | with_reducible assumption
    | with_reducible refine Goes.setNow (Foot.le_trans (by decide +kernel) hF) ?_
    | with_reducible refine Goes.on (List.mem_singleton.2 (fieldName_TIM_STATUS_STEPPED)) (known_TIM_STATUS_STEPPED).agrees (Foot.le_trans (by decide +kernel) hF) ?_
    | with_reducible refine Goes.setSlew (Foot.le_trans (by decide +kernel) hF) ?_
    | with_reducible refine Goes.upTim (Foot.le_trans (by decide +kernel) hF) (fun _ h => h) ?_
    | with_reducible refine Goes.upTim (Foot.le_trans (by decide +kernel) hF) ?_ ?_
    | with_reducible refine Goes.foldl ?_ ?_
    | exact fun _ h => Tab.wf_erase h _
    | exact fun _ h => Tab.wf_empty
    | exact fun _ h => Tab.wf_set h _ _
    | split
    | intro _

/-- What `State.correct` may change. -/
def fp_correct : Foot := ⟨[.tim, .now, .count, .replicas, .freeCtr], some [0xC0380, 0xC021B, 0xC0219]⟩
theorem Goes.correct {s : State} {theta2 : Int} (hF : fp_correct.le F = true) (hgo : Goes F s0 s) :
     Goes F s0 (State.correct s theta2) := by
  unfold State.correct
  try dsimp only
  repeat' first
    | with_reducible assumption
    | with_reducible refine Goes.wr (List.mem_singleton.2 (fieldName_TIM_RATE_PPB)) (known_TIM_RATE_PPB).agrees (Foot.le_trans (by decide +kernel) hF) ?_
    | with_reducible refine Goes.setSlew (Foot.le_trans (by decide +kernel) hF) ?_
    | with_reducible refine Goes.stepTime (Foot.le_trans (by decide +kernel) hF) ?_
    | with_reducible refine Goes.takeFree (Foot.le_trans (by decide +kernel) hF) ?_
    | with_reducible refine Goes.foldl ?_ ?_
    | split
    | intro _

/-- What `State.measured` may change. -/
def fp_measured : Foot := ⟨[.tim, .now, .count, .replicas, .freeCtr], some [0xC0300, 0xC0380, 0xC021C, 0xC021D,
  0xC021E, 0xC021B, 0xC0219, 0xC0280]⟩
theorem Goes.measured {s : State} {theta2 : Int} {parentValid : Bool} (hF : fp_measured.le F = true) (hgo : Goes F s0 s) :
     Goes F s0 (State.measured s theta2 parentValid) := by
  unfold State.measured
  try dsimp only
  repeat' first
    | with_reducible assumption
    | with_reducible refine Goes.on (List.mem_singleton.2 (fieldName_TIM_OFFSET_THETA)) (known_TIM_OFFSET_THETA).agrees (Foot.le_trans (by decide +kernel) hF) ?_
    | with_reducible refine Goes.on (List.mem_singleton.2 (fieldName_TIM_STATUS_HOLDOVER)) (known_TIM_STATUS_HOLDOVER).agrees (Foot.le_trans (by decide +kernel) hF) ?_
    | with_reducible refine Goes.on (List.mem_singleton.2 (fieldName_TIM_STATUS_LOCKED)) (known_TIM_STATUS_LOCKED).agrees (Foot.le_trans (by decide +kernel) hF) ?_
    | with_reducible refine Goes.wr (List.mem_singleton.2 (fieldName_TIM_OFFSET_THETA)) (known_TIM_OFFSET_THETA).agrees (Foot.le_trans (by decide +kernel) hF) ?_
    | with_reducible refine Goes.wr (List.mem_singleton.2 (fieldName_TIM_STATUS_HOLDOVER)) (known_TIM_STATUS_HOLDOVER).agrees (Foot.le_trans (by decide +kernel) hF) ?_
    | with_reducible refine Goes.wr (List.mem_singleton.2 (fieldName_TIM_STATUS_LOCKED)) (known_TIM_STATUS_LOCKED).agrees (Foot.le_trans (by decide +kernel) hF) ?_
    | with_reducible refine Goes.off (List.mem_singleton.2 (fieldName_TIM_OFFSET_THETA)) (known_TIM_OFFSET_THETA).agrees (Foot.le_trans (by decide +kernel) hF) ?_
    | with_reducible refine Goes.off (List.mem_singleton.2 (fieldName_TIM_STATUS_HOLDOVER)) (known_TIM_STATUS_HOLDOVER).agrees (Foot.le_trans (by decide +kernel) hF) ?_
    | with_reducible refine Goes.off (List.mem_singleton.2 (fieldName_TIM_STATUS_LOCKED)) (known_TIM_STATUS_LOCKED).agrees (Foot.le_trans (by decide +kernel) hF) ?_
    | with_reducible refine Goes.toQuality (Foot.le_trans (by decide +kernel) hF) ?_
    | with_reducible refine Goes.correct (Foot.le_trans (by decide +kernel) hF) ?_
    | with_reducible refine Goes.upTim (Foot.le_trans (by decide +kernel) hF) (fun _ h => h) ?_
    | with_reducible refine Goes.upTim (Foot.le_trans (by decide +kernel) hF) ?_ ?_
    | with_reducible refine Goes.foldl ?_ ?_
    | exact fun _ h => Tab.wf_erase h _
    | exact fun _ h => Tab.wf_empty
    | exact fun _ h => Tab.wf_set h _ _
    | split
    | intro _

/-- What `State.enterHoldover` may change. -/
def fp_enterHoldover : Foot := ⟨[.tim, .power, .now, .count, .replicas, .elapsed], some [0xC021C, 0xC021D, 0xC021E,
  0xC021B, 0xC0280]⟩
theorem Goes.enterHoldover {s : State} (hF : fp_enterHoldover.le F = true) (hgo : Goes F s0 s) :
     Goes F s0 (State.enterHoldover s) := by
  unfold State.enterHoldover
  try dsimp only
  repeat' first
    | with_reducible assumption
    | with_reducible refine Goes.on (List.mem_singleton.2 (fieldName_TIM_STATUS_HOLDOVER)) (known_TIM_STATUS_HOLDOVER).agrees (Foot.le_trans (by decide +kernel) hF) ?_
    | with_reducible refine Goes.on (List.mem_singleton.2 (fieldName_TIM_STATUS_LOCKED)) (known_TIM_STATUS_LOCKED).agrees (Foot.le_trans (by decide +kernel) hF) ?_
    | with_reducible refine Goes.off (List.mem_singleton.2 (fieldName_TIM_STATUS_HOLDOVER)) (known_TIM_STATUS_HOLDOVER).agrees (Foot.le_trans (by decide +kernel) hF) ?_
    | with_reducible refine Goes.off (List.mem_singleton.2 (fieldName_TIM_STATUS_LOCKED)) (known_TIM_STATUS_LOCKED).agrees (Foot.le_trans (by decide +kernel) hF) ?_
    | with_reducible refine Goes.toQuality (Foot.le_trans (by decide +kernel) hF) ?_
    | with_reducible refine Goes.upTim (Foot.le_trans (by decide +kernel) hF) (fun _ h => h) ?_
    | with_reducible refine Goes.upTim (Foot.le_trans (by decide +kernel) hF) ?_ ?_
    | with_reducible refine Goes.advance (Foot.le_trans (by decide +kernel) hF) ?_
    | with_reducible refine Goes.foldl ?_ ?_
    | exact fun _ h => Tab.wf_erase h _
    | exact fun _ h => Tab.wf_empty
    | exact fun _ h => Tab.wf_set h _ _
    | split
    | intro _

/-- What `State.source` may change. -/
def fp_source : Foot := ⟨[.tim], some [0x1FE0080]⟩
theorem Goes.source {s : State} {b : Nat} {tl : Nat} (hF : fp_source.le F = true) (hgo : Goes F s0 s) :
     Goes F s0 (State.source s b tl) := by
  unfold State.source
  try dsimp only
  repeat' first
    | with_reducible assumption
    | with_reducible refine Goes.satUp (List.mem_singleton.2 (fieldName_SNP_STATUS_MISSED)) (known_SNP_STATUS_MISSED).agrees (Foot.le_trans (by decide +kernel) hF) ?_
    | with_reducible refine Goes.upTim (Foot.le_trans (by decide +kernel) hF) (fun _ h => h) ?_
    | with_reducible refine Goes.upTim (Foot.le_trans (by decide +kernel) hF) ?_ ?_
    | with_reducible refine Goes.foldl ?_ ?_
    | exact fun _ h => Tab.wf_erase h _
    | exact fun _ h => Tab.wf_empty
    | exact fun _ h => Tab.wf_set h _ _
    | split
    | intro _

/-- What `State.sourceNow` may change. -/
def fp_sourceNow : Foot := ⟨[.tim, .outbox, .freeCtr], some [0x1FE0080]⟩
theorem Goes.sourceNow {s : State} {b : Nat} (hF : fp_sourceNow.le F = true) (hgo : Goes F s0 s) :
     Goes F s0 (State.sourceNow s b) := by
  unfold State.sourceNow
  try dsimp only
  repeat' first
    | with_reducible assumption
    | with_reducible refine Goes.takeFree (Foot.le_trans (by decide +kernel) hF) ?_
    | with_reducible refine Goes.source (Foot.le_trans (by decide +kernel) hF) ?_
    | with_reducible refine Goes.upTim (Foot.le_trans (by decide +kernel) hF) (fun _ h => h) ?_
    | with_reducible refine Goes.upTim (Foot.le_trans (by decide +kernel) hF) ?_ ?_
    | with_reducible refine Goes.emit (Foot.le_trans (by decide +kernel) hF) ?_
    | with_reducible refine Goes.foldl ?_ ?_
    | exact fun _ h => Tab.wf_erase h _
    | exact fun _ h => Tab.wf_empty
    | exact fun _ h => Tab.wf_set h _ _
    | split
    | intro _

/-- What `State.takeSchedule` may change. -/
def fp_takeSchedule : Foot := ⟨[.tim], some [0x100019C, 0x1000180, 0x1000188, 0x100019D]⟩
theorem Goes.takeSchedule {s : State} {number : Nat} {time : Nat} {flood : Bool} (hF : fp_takeSchedule.le F = true) (hgo : Goes F s0 s) :
     Goes F s0 (State.takeSchedule s number time flood) := by
  unfold State.takeSchedule
  try dsimp only
  repeat' first
    | with_reducible assumption
    | with_reducible refine Goes.satUp (List.mem_singleton.2 (fieldName_TRC_SCHED_CTRL_LATE)) (known_TRC_SCHED_CTRL_LATE).agrees (Foot.le_trans (by decide +kernel) hF) ?_
    | with_reducible refine Goes.satUp (List.mem_singleton.2 (fieldName_TRC_SCHED_CTRL_LATE_CNT)) (known_TRC_SCHED_CTRL_LATE_CNT).agrees (Foot.le_trans (by decide +kernel) hF) ?_
    | with_reducible refine Goes.satUp (List.mem_singleton.2 (fieldName_TRC_SCHED_CTRL_NUMBER)) (known_TRC_SCHED_CTRL_NUMBER).agrees (Foot.le_trans (by decide +kernel) hF) ?_
    | with_reducible refine Goes.satUp (List.mem_singleton.2 (fieldName_TRC_SCHED_CTRL_PENDING)) (known_TRC_SCHED_CTRL_PENDING).agrees (Foot.le_trans (by decide +kernel) hF) ?_
    | with_reducible refine Goes.on (List.mem_singleton.2 (fieldName_TRC_SCHED_CTRL_LATE)) (known_TRC_SCHED_CTRL_LATE).agrees (Foot.le_trans (by decide +kernel) hF) ?_
    | with_reducible refine Goes.on (List.mem_singleton.2 (fieldName_TRC_SCHED_CTRL_LATE_CNT)) (known_TRC_SCHED_CTRL_LATE_CNT).agrees (Foot.le_trans (by decide +kernel) hF) ?_
    | with_reducible refine Goes.on (List.mem_singleton.2 (fieldName_TRC_SCHED_CTRL_NUMBER)) (known_TRC_SCHED_CTRL_NUMBER).agrees (Foot.le_trans (by decide +kernel) hF) ?_
    | with_reducible refine Goes.on (List.mem_singleton.2 (fieldName_TRC_SCHED_CTRL_PENDING)) (known_TRC_SCHED_CTRL_PENDING).agrees (Foot.le_trans (by decide +kernel) hF) ?_
    | with_reducible refine Goes.wr (List.mem_singleton.2 (fieldName_TRC_SCHED_CTRL_LATE)) (known_TRC_SCHED_CTRL_LATE).agrees (Foot.le_trans (by decide +kernel) hF) ?_
    | with_reducible refine Goes.wr (List.mem_singleton.2 (fieldName_TRC_SCHED_CTRL_LATE_CNT)) (known_TRC_SCHED_CTRL_LATE_CNT).agrees (Foot.le_trans (by decide +kernel) hF) ?_
    | with_reducible refine Goes.wr (List.mem_singleton.2 (fieldName_TRC_SCHED_CTRL_NUMBER)) (known_TRC_SCHED_CTRL_NUMBER).agrees (Foot.le_trans (by decide +kernel) hF) ?_
    | with_reducible refine Goes.wr (List.mem_singleton.2 (fieldName_TRC_SCHED_CTRL_PENDING)) (known_TRC_SCHED_CTRL_PENDING).agrees (Foot.le_trans (by decide +kernel) hF) ?_
    | with_reducible refine Goes.off (List.mem_singleton.2 (fieldName_TRC_SCHED_CTRL_LATE)) (known_TRC_SCHED_CTRL_LATE).agrees (Foot.le_trans (by decide +kernel) hF) ?_
    | with_reducible refine Goes.off (List.mem_singleton.2 (fieldName_TRC_SCHED_CTRL_LATE_CNT)) (known_TRC_SCHED_CTRL_LATE_CNT).agrees (Foot.le_trans (by decide +kernel) hF) ?_
    | with_reducible refine Goes.off (List.mem_singleton.2 (fieldName_TRC_SCHED_CTRL_NUMBER)) (known_TRC_SCHED_CTRL_NUMBER).agrees (Foot.le_trans (by decide +kernel) hF) ?_
    | with_reducible refine Goes.off (List.mem_singleton.2 (fieldName_TRC_SCHED_CTRL_PENDING)) (known_TRC_SCHED_CTRL_PENDING).agrees (Foot.le_trans (by decide +kernel) hF) ?_
    | with_reducible refine Goes.upTim (Foot.le_trans (by decide +kernel) hF) (fun _ h => h) ?_
    | with_reducible refine Goes.upTim (Foot.le_trans (by decide +kernel) hF) ?_ ?_
    | with_reducible refine Goes.foldl ?_ ?_
    | exact fun _ h => Tab.wf_erase h _
    | exact fun _ h => Tab.wf_empty
    | exact fun _ h => Tab.wf_set h _ _
    | split
    | intro _

/-- What `State.loadSet` may change. -/
def fp_loadSet : Foot := ⟨[.tim, .now, .count, .replicas], some [0xC021E, 0xC021B, 0xC0280]⟩
theorem Goes.loadSet {s : State} (hF : fp_loadSet.le F = true) (hgo : Goes F s0 s) :
     Goes F s0 (State.loadSet s) := by
  unfold State.loadSet
  try dsimp only
  repeat' first
    | with_reducible assumption
    | with_reducible refine Goes.setNow (Foot.le_trans (by decide +kernel) hF) ?_
    | with_reducible refine Goes.setSlew (Foot.le_trans (by decide +kernel) hF) ?_
    | with_reducible refine Goes.toQuality (Foot.le_trans (by decide +kernel) hF) ?_
    | with_reducible refine Goes.upTim (Foot.le_trans (by decide +kernel) hF) (fun _ h => h) ?_
    | with_reducible refine Goes.upTim (Foot.le_trans (by decide +kernel) hF) ?_ ?_
    | with_reducible refine Goes.foldl ?_ ?_
    | exact fun _ h => Tab.wf_erase h _
    | exact fun _ h => Tab.wf_empty
    | exact fun _ h => Tab.wf_set h _ _
    | split
    | intro _

end Sys2Proof.Machine
end

