-- ==== Sys2Proof/Laws/OnTraceOps.lean ====
section
/-! SUPPORT. What each operation of `Machine/TraceOps.lean` may change: one lemma for each. -/

set_option linter.all false
set_option Elab.async false

namespace Sys2Proof.Machine

variable {F : Foot} {s0 : State}

/-- What `State.dropRecord` may change. -/
def fp_dropRecord : Foot := ⟨[.windows], some [0x20120180]⟩
theorem Goes.dropRecord {s : State} {k : Nat} {w : Nat} {time : Nat} (hF : fp_dropRecord.le F = true) (hgo : Goes F s0 s) :
     Goes F s0 (State.dropRecord s k w time) := by
  unfold State.dropRecord
  try dsimp only
  repeat' first
    | with_reducible assumption
    | with_reducible refine Goes.upWin (Foot.le_trans (by decide +kernel) hF) ?_
    | with_reducible refine Goes.wrapUp (List.mem_singleton.2 (fieldName_TRC_WIN_DROPS_DROPS _ _)) (known_TRC_WIN_DROPS_DROPS _ _).agrees (Foot.le_trans (by decide +kernel) hF) ?_
    | with_reducible refine Goes.foldl ?_ ?_
    | split
    | intro _

/-- What `State.putRecord` may change. -/
def fp_putRecord : Foot := ⟨[.mgmt, .windows, .outbox], some [0x20120080]⟩
theorem Goes.putRecord {s : State} {k : Nat} {w : Nat} {e : Nat × Nat × TraceRec} (hF : fp_putRecord.le F = true) (hgo : Goes F s0 s) :
     Goes F s0 (State.putRecord s k w e) := by
  unfold State.putRecord
  try dsimp only
  repeat' first
    | with_reducible assumption
    | with_reducible refine Goes.wr (List.mem_singleton.2 (fieldName_TRC_WIN_POS_POS _ _)) (known_TRC_WIN_POS_POS _ _).agrees (Foot.le_trans (by decide +kernel) hF) ?_
    | with_reducible refine Goes.upWin (Foot.le_trans (by decide +kernel) hF) ?_
    | with_reducible refine Goes.granary (Foot.le_trans (by decide +kernel) hF) ?_
    | with_reducible refine Goes.foldl ?_ ?_
    | split
    | intro _

/-- What `State.writeRecord` may change. -/
def fp_writeRecord : Foot := ⟨[.mgmt, .windows, .tim, .outbox], some [0x20120180, 0x20120080, 0x2012001C]⟩
theorem Goes.writeRecord {s : State} {k : Nat} {w : Nat} {r : TraceRec} (hF : fp_writeRecord.le F = true) (hgo : Goes F s0 s) :
     Goes F s0 (State.writeRecord s k w r) := by
  unfold State.writeRecord
  try dsimp only
  repeat' first
    | with_reducible assumption
    | with_reducible refine Goes.wr (List.mem_singleton.2 (fieldName_TRC_WIN_STATUS_STATE _ _)) (known_TRC_WIN_STATUS_STATE _ _).agrees (Foot.le_trans (by decide +kernel) hF) ?_
    | with_reducible refine Goes.dropRecord (Foot.le_trans (by decide +kernel) hF) ?_
    | with_reducible refine Goes.upWin (Foot.le_trans (by decide +kernel) hF) ?_
    | with_reducible refine Goes.upTim (Foot.le_trans (by decide +kernel) hF) (fun _ h => h) ?_
    | with_reducible refine Goes.upTim (Foot.le_trans (by decide +kernel) hF) ?_ ?_
    | with_reducible refine Goes.putRecord (Foot.le_trans (by decide +kernel) hF) ?_
    | with_reducible refine Goes.foldl ?_ ?_
    | exact fun _ h => Tab.wf_erase h _
    | exact fun _ h => Tab.wf_empty
    | exact fun _ h => Tab.wf_set h _ _
    | split
    | intro _

/-- What `State.drainBuffer` may change. -/
def fp_drainBuffer : Foot := ⟨[.mgmt, .windows, .tim, .tiles, .outbox], some [0x20120180, 0x20120080, 0x2012001C]⟩
theorem Goes.drainBuffer {s : State} {t : Nat} {l : List (Nat × Nat × TraceRec)} (hF : fp_drainBuffer.le F = true) (hgo : Goes F s0 s) :
    Goes F s0 (State.drainBuffer s t l) := by
  induction l generalizing s with
  | nil => exact Goes.upT (Foot.le_trans (by decide +kernel) hF) hgo
  | cons e l ih =>
    unfold State.drainBuffer
    dsimp only
    split
    · exact ih hgo
    · split
      · exact Goes.upT (Foot.le_trans (by decide +kernel) hF) hgo
      · exact ih (Goes.upT (Foot.le_trans (by decide +kernel) hF) (Goes.writeRecord (Foot.le_trans (by decide +kernel) hF) hgo))

/-- What `State.joined` may change. -/
def fp_joined : Foot := ⟨[.outbox], some []⟩
theorem Goes.joined {s : State} {old : State} (hF : fp_joined.le F = true) (ho : Goes F s0 old) (hgo : Goes F s0 s) :
     Goes F s0 (State.joined s old) := by
  unfold State.joined
  exact Goes.setOutbox (Foot.le_trans (by decide +kernel) hF) (ho.follows.outbox.trans (List.suffix_append _ _)) hgo

/-- What `State.queueRecord` may change. -/
def fp_queueRecord : Foot := ⟨[.windows, .tiles], some [0x1000800, 0x20120180]⟩
theorem Goes.queueRecord {s : State} {t : Nat} {k : Nat} {w : Nat} {r : TraceRec} (hF : fp_queueRecord.le F = true) (hgo : Goes F s0 s) :
     Goes F s0 (State.queueRecord s t k w r) := by
  unfold State.queueRecord
  try dsimp only
  repeat' first
    | with_reducible assumption
    | with_reducible refine Goes.dropRecord (Foot.le_trans (by decide +kernel) hF) ?_
    | with_reducible refine Goes.upT (Foot.le_trans (by decide +kernel) hF) ?_
    | with_reducible refine Goes.wrapUp (List.mem_singleton.2 (fieldName_TRC_DROPS_COUNT _)) (known_TRC_DROPS_COUNT _).agrees (Foot.le_trans (by decide +kernel) hF) ?_
    | with_reducible refine Goes.foldl ?_ ?_
    | split
    | intro _

/-- What `State.triggerRecords` may change. -/
def fp_triggerRecords : Foot := ⟨[.mgmt, .windows, .tim, .outbox], some [0x20120180, 0x20120080, 0x2012001C]⟩
theorem Goes.triggerRecords {s : State} {tl : Nat} {src : Nat} (hF : fp_triggerRecords.le F = true) (hgo : Goes F s0 s) :
     Goes F s0 (State.triggerRecords s tl src) := by
  unfold State.triggerRecords
  try dsimp only
  repeat' first
    | with_reducible assumption
    | with_reducible refine Goes.writeRecord (Foot.le_trans (by decide +kernel) hF) ?_
    | with_reducible refine Goes.each ?_ ?_
    | with_reducible refine Goes.foldl ?_ ?_
    | split
    | intro _

end Sys2Proof.Machine
end

