-- ==== Sys2Proof/Laws/OnPortOps.lean ====
section
/-! SUPPORT. What each operation of `Machine/PortOps.lean` may change: one lemma for each. -/

set_option linter.all false
set_option Elab.async false

namespace Sys2Proof.Machine

variable {F : Foot} {s0 : State}

/-- What `State.showDclk` may change. -/
def fp_showDclk : Foot := ⟨[], some [0x80000]⟩
theorem Goes.showDclk {s : State} {t : Nat} (hF : fp_showDclk.le F = true) (hgo : Goes F s0 s) :
     Goes F s0 (State.showDclk s t) := by
  unfold State.showDclk
  try dsimp only
  repeat' first
    | with_reducible assumption
    | with_reducible refine Goes.wr (List.mem_singleton.2 (fieldName_CLK_DCLK_SEL_LT _)) (known_CLK_DCLK_SEL_LT _).agrees (Foot.le_trans (by decide +kernel) hF) ?_
    | with_reducible refine Goes.cold (List.mem_singleton.2 (fieldName_CLK_DCLK_SEL_LT _)) (Foot.le_trans (by decide +kernel) hF) ?_
    | with_reducible refine Goes.foldl ?_ ?_
    | split
    | intro _

/-- What `State.coldHalf` may change. -/
def fp_coldHalf : Foot := ⟨[], some [0x220008, 0x22001F, 0x220018, 0x220010, 0x220000, 0x220004, 0x4000418, 0x4000400,
  0x4000413, 0x400041F, 0x4000408, 0x4000294, 0x400029C, 0x400029A, 0x4000280, 0x4000288, 0x400029D, 0x400029E,
  0x4000290, 0x400029F, 0x400029B, 0x4000500, 0x400050D, 0x4000518, 0x400050E, 0x400051C, 0x4000513, 0x4000319,
  0x400030C, 0x4000304, 0x400031F, 0x4000313, 0x400031E, 0x4000490, 0x4000486, 0x4000480, 0x4000487, 0x4000488,
  0x4000398, 0x400038C, 0x4000392, 0x4000386, 0x4000380, 0x400039E]⟩
theorem Goes.coldHalf {s : State} {h : Nat} (hF : fp_coldHalf.le F = true) (hgo : Goes F s0 s) :
     Goes F s0 (State.coldHalf s h) := by
  unfold State.coldHalf
  try dsimp only
  repeat' first
    | with_reducible assumption
    | with_reducible refine Goes.coldAll (fun f hf => names_CAL_RX_fields _ f (List.mem_of_mem_filter hf)) (Foot.le_trans (by decide +kernel) hF) ?_
    | with_reducible refine Goes.coldAll (names_LCH_DP_STATUS_fields _) (Foot.le_trans (by decide +kernel) hF) ?_
    | with_reducible refine Goes.coldAll (names_LCH_FOM_fields _) (Foot.le_trans (by decide +kernel) hF) ?_
    | with_reducible refine Goes.coldAll (names_LCH_LANE_FAULT_fields _) (Foot.le_trans (by decide +kernel) hF) ?_
    | with_reducible refine Goes.coldAll (names_LCH_RX_EQ_fields _) (Foot.le_trans (by decide +kernel) hF) ?_
    | with_reducible refine Goes.coldAll (names_LCH_SEG_FEC_fields _) (Foot.le_trans (by decide +kernel) hF) ?_
    | with_reducible refine Goes.coldAll (names_LCH_TX_COEF_fields _) (Foot.le_trans (by decide +kernel) hF) ?_
    | with_reducible refine Goes.foldl ?_ ?_
    | split
    | intro _

/-- What `State.coldPort` may change. -/
def fp_coldPort : Foot := ⟨[], some [0x2000104, 0x200011E, 0x200010C, 0x2000100, 0x200011D, 0x2000108, 0x2000119,
  0x2000118, 0x2000110, 0x200011F, 0x2000A10, 0x2000A00, 0x2000914, 0x2000906, 0x2000902, 0x2000907, 0x2000918,
  0x200090A, 0x2000905, 0x2000903, 0x2000900, 0x200090C, 0x2000904, 0x200091C, 0x2000901, 0x2000190, 0x2000180,
  0x2000E08, 0x2000E10, 0x2000E18, 0x2000E00, 0x2000D01, 0x2000D05, 0x2000D04, 0x2000D03, 0x2000D06, 0x2000D02,
  0x2000D10, 0x2000D00, 0x2000D1C, 0x2000D08, 0x2000D18, 0x2000510, 0x2000519, 0x200051A, 0x200051B, 0x200051C,
  0x200051F, 0x200051E, 0x2000500, 0x2000508, 0x200051D, 0x200048F, 0x2000498, 0x2000494, 0x200048E, 0x200048B,
  0x2000488, 0x2000484, 0x2000490, 0x200049C, 0x2000492]⟩
theorem Goes.coldPort {s : State} {p : Nat} (hF : fp_coldPort.le F = true) (hgo : Goes F s0 s) :
     Goes F s0 (State.coldPort s p) := by
  unfold State.coldPort
  try dsimp only
  repeat' first
    | with_reducible assumption
    | with_reducible refine Goes.coldAll (names_PRT_DP_STATUS_fields _) (Foot.le_trans (by decide +kernel) hF) ?_
    | with_reducible refine Goes.coldAll (names_PRT_SEG_CNT_fields _) (Foot.le_trans (by decide +kernel) hF) ?_
    | with_reducible refine Goes.coldAll (names_PRT_SEG_STATUS_fields _) (Foot.le_trans (by decide +kernel) hF) ?_
    | with_reducible refine Goes.coldAll (names_PRT_SKP_ADJ_fields _) (Foot.le_trans (by decide +kernel) hF) ?_
    | with_reducible refine Goes.coldAll (names_PRT_TRL_CNT_fields _) (Foot.le_trans (by decide +kernel) hF) ?_
    | with_reducible refine Goes.coldAll (names_PRT_TRL_STATUS_fields _) (Foot.le_trans (by decide +kernel) hF) ?_
    | with_reducible refine Goes.coldAll (names_PRT_TRN_EVENTS_fields _) (Foot.le_trans (by decide +kernel) hF) ?_
    | with_reducible refine Goes.coldAll (names_PRT_TRN_STATUS_fields _) (Foot.le_trans (by decide +kernel) hF) ?_
    | with_reducible refine Goes.each ?_ ?_
    | with_reducible refine Goes.foldl ?_ ?_
    | split
    | intro _

/-- What `State.quietPort` may change. -/
def fp_quietPort : Foot := ⟨[.halves, .sides, .ports, .engines, .rings, .tiles, .power, .evq], some [0x220008,
  0x22001F, 0x220018, 0x220010, 0x220000, 0x220004, 0x200100, 0x40C008, 0x40800F, 0x408008, 0x40800A, 0x408000,
  0x40800C, 0xE0390, 0xE0380, 0xE0388, 0xE0210, 0xE0200, 0xE021E, 0xE0208, 0xE021F, 0xE0280, 0xE0100, 0xE0001,
  0x4000418, 0x4000400, 0x4000413, 0x400041F, 0x4000408, 0x4000294, 0x400029C, 0x400029A, 0x4000280, 0x4000288,
  0x400029D, 0x400029E, 0x4000290, 0x400029F, 0x400029B, 0x4000500, 0x400050D, 0x4000518, 0x400050E, 0x400051C,
  0x4000513, 0x4000319, 0x400030C, 0x4000304, 0x400031F, 0x4000313, 0x400031E, 0x4000490, 0x4000486, 0x4000480,
  0x4000487, 0x4000488, 0x4000398, 0x400038C, 0x4000392, 0x4000386, 0x4000380, 0x400039E, 0x2000104, 0x200011E,
  0x200010C, 0x2000100, 0x200011D, 0x2000108, 0x2000119, 0x2000118, 0x2000110, 0x200011F, 0x2000A10, 0x2000A00,
  0x2000914, 0x2000906, 0x2000902, 0x2000907, 0x2000918, 0x200090A, 0x2000905, 0x2000903, 0x2000900, 0x200090C,
  0x2000904, 0x200091C, 0x2000901, 0x2000190, 0x2000180, 0x2000E08, 0x2000E10, 0x2000E18, 0x2000E00, 0x2000D01,
  0x2000D05, 0x2000D04, 0x2000D03, 0x2000D06, 0x2000D02, 0x2000D10, 0x2000D00, 0x2000D1C, 0x2000D08, 0x2000D18,
  0x2000510, 0x2000519, 0x200051A, 0x200051B, 0x200051C, 0x200051F, 0x200051E, 0x2000500, 0x2000508, 0x200051D,
  0x200048F, 0x2000498, 0x2000494, 0x200048E, 0x200048B, 0x2000488, 0x2000484, 0x2000490, 0x200049C, 0x2000492,
  0x100097]⟩
theorem Goes.quietPort {s : State} {p : Nat} {why : Option PortReset} (hF : fp_quietPort.le F = true) (hgo : Goes F s0 s) :
     Goes F s0 (State.quietPort s p why) := by
  unfold State.quietPort
  try dsimp only
  repeat' first
    | with_reducible assumption
    | exact fun _ _ => default_derived
    | with_reducible refine Goes.settled (Foot.le_trans (by decide +kernel) hF) ?_
    | with_reducible refine Goes.upH (Foot.le_trans (by decide +kernel) hF) (fun _ h => h) ?_
    | with_reducible refine Goes.upH (Foot.le_trans (by decide +kernel) hF) ?_ ?_
    | with_reducible refine Goes.rxLeaves (Foot.le_trans (by decide +kernel) hF) ?_
    | with_reducible refine Goes.coldPort (Foot.le_trans (by decide +kernel) hF) ?_
    | with_reducible refine Goes.upP (Foot.le_trans (by decide +kernel) hF) ?_
    | with_reducible refine Goes.endQueued (Foot.le_trans (by decide +kernel) hF) ?_
    | with_reducible refine Goes.each ?_ ?_
    | with_reducible refine Goes.enterDown (Foot.le_trans (by decide +kernel) hF) ?_
    | with_reducible refine Goes.coldHalf (Foot.le_trans (by decide +kernel) hF) ?_
    | with_reducible refine Goes.releaseRx (Foot.le_trans (by decide +kernel) hF) ?_
    | with_reducible refine Goes.setTx (Foot.le_trans (by decide +kernel) hF) ?_
    | with_reducible refine Goes.toSDown (Foot.le_trans (by decide +kernel) hF) ?_
    | with_reducible refine Goes.foldl ?_ ?_
    | exact fun _ h => h
    | exact fun _ h => by dsimp only; (repeat' split) <;> exact h
    | split
    | intro _

/-- What `State.portReset` may change. -/
def fp_portReset : Foot := ⟨[.halves, .sides, .ports, .engines, .rings, .tiles, .power, .evq], some [0x220008,
  0x22001F, 0x220018, 0x220010, 0x220000, 0x220004, 0x200100, 0x40C008, 0x40800F, 0x408008, 0x40800A, 0x408000,
  0x40800C, 0xE0390, 0xE0380, 0xE0388, 0xE0210, 0xE0200, 0xE021E, 0xE0208, 0xE021F, 0xE0280, 0xE0100, 0xE0001,
  0x4000418, 0x4000400, 0x4000413, 0x400041F, 0x4000408, 0x4000294, 0x400029C, 0x400029A, 0x4000280, 0x4000288,
  0x400029D, 0x400029E, 0x4000290, 0x400029F, 0x400029B, 0x4000500, 0x400050D, 0x4000518, 0x400050E, 0x400051C,
  0x4000513, 0x4000319, 0x400030C, 0x4000304, 0x400031F, 0x4000313, 0x400031E, 0x4000490, 0x4000486, 0x4000480,
  0x4000487, 0x4000488, 0x4000398, 0x400038C, 0x4000392, 0x4000386, 0x4000380, 0x400039E, 0x2000104, 0x200011E,
  0x200010C, 0x2000100, 0x200011D, 0x2000108, 0x2000119, 0x2000118, 0x2000110, 0x200011F, 0x2000A10, 0x2000A00,
  0x2000914, 0x2000906, 0x2000902, 0x2000907, 0x2000918, 0x200090A, 0x2000905, 0x2000903, 0x2000900, 0x200090C,
  0x2000904, 0x200091C, 0x2000901, 0x2000190, 0x2000180, 0x2000E08, 0x2000E10, 0x2000E18, 0x2000E00, 0x2000D01,
  0x2000D05, 0x2000D04, 0x2000D03, 0x2000D06, 0x2000D02, 0x2000D10, 0x2000D00, 0x2000D1C, 0x2000D08, 0x2000D18,
  0x2000510, 0x2000519, 0x200051A, 0x200051B, 0x200051C, 0x200051F, 0x200051E, 0x2000500, 0x2000508, 0x200051D,
  0x200048F, 0x2000498, 0x2000494, 0x200048E, 0x200048B, 0x2000488, 0x2000484, 0x2000490, 0x200049C, 0x2000492, 0xA0100,
  0x100097]⟩
theorem Goes.portReset {s : State} {p : Nat} (hF : fp_portReset.le F = true) (hgo : Goes F s0 s) :
     Goes F s0 (State.portReset s p) := by
  unfold State.portReset
  try dsimp only
  repeat' first
    | with_reducible assumption
    | with_reducible refine Goes.bump (Foot.le_trans (by decide +kernel) hF) ?_
    | with_reducible refine Goes.quietPort (Foot.le_trans (by decide +kernel) hF) ?_
    | with_reducible refine Goes.wrapUp (List.mem_singleton.2 (fieldName_RST_CNT_PORT_RESETS)) (known_RST_CNT_PORT_RESETS).agrees (Foot.le_trans (by decide +kernel) hF) ?_
    | with_reducible refine Goes.foldl ?_ ?_
    | split
    | intro _

/-- What `State.restructure` may change. -/
def fp_restructure : Foot := ⟨[.halves, .sides, .ports, .engines, .rings, .winnows, .tiles, .power, .evq], some
  [0x220008, 0x22001F, 0x220018, 0x220010, 0x220000, 0x220004, 0x200100, 0x40C008, 0x40800F, 0x408008, 0x40800A,
  0x408000, 0x40800C, 0xE0390, 0xE0380, 0xE0388, 0xE0210, 0xE0200, 0xE021E, 0xE0208, 0xE021F, 0xE0280, 0xE0100, 0xE0001,
  0x4000418, 0x4000400, 0x4000413, 0x400041F, 0x4000408, 0x4000294, 0x400029C, 0x400029A, 0x4000280, 0x4000288,
  0x400029D, 0x400029E, 0x4000290, 0x400029F, 0x400029B, 0x4000500, 0x400050D, 0x4000518, 0x400050E, 0x400051C,
  0x4000513, 0x4000319, 0x400030C, 0x4000304, 0x400031F, 0x4000313, 0x400031E, 0x4000490, 0x4000486, 0x4000480,
  0x4000487, 0x4000488, 0x4000398, 0x400038C, 0x4000392, 0x4000386, 0x4000380, 0x400039E, 0x2000104, 0x200011E,
  0x200010C, 0x2000100, 0x200011D, 0x2000108, 0x2000119, 0x2000118, 0x2000110, 0x200011F, 0x2000A10, 0x2000A00,
  0x2000914, 0x2000906, 0x2000902, 0x2000907, 0x2000918, 0x200090A, 0x2000905, 0x2000903, 0x2000900, 0x200090C,
  0x2000904, 0x200091C, 0x2000901, 0x2000190, 0x2000180, 0x2000E08, 0x2000E10, 0x2000E18, 0x2000E00, 0x2000D01,
  0x2000D05, 0x2000D04, 0x2000D03, 0x2000D06, 0x2000D02, 0x2000D10, 0x2000D00, 0x2000D1C, 0x2000D08, 0x2000D18,
  0x2000510, 0x2000519, 0x200051A, 0x200051B, 0x200051C, 0x200051F, 0x200051E, 0x2000500, 0x2000508, 0x200051D,
  0x200048F, 0x2000498, 0x2000494, 0x200048E, 0x200048B, 0x2000488, 0x2000484, 0x2000490, 0x200049C, 0x2000492, 0xA0110,
  0x100097, 0x102001F, 0x1020017, 0x1020013, 0x102000F, 0x1020007, 0x1020003]⟩
theorem Goes.restructure {s : State} {p : Nat} (hF : fp_restructure.le F = true) (hgo : Goes F s0 s) :
     Goes F s0 (State.restructure s p) := by
  unfold State.restructure
  try dsimp only
  repeat' first
    | with_reducible assumption
    | with_reducible refine Goes.bump (Foot.le_trans (by decide +kernel) hF) ?_
    | with_reducible refine Goes.satUp (List.mem_singleton.2 (fieldName_RST_CNT_RESTRUCTURES)) (known_RST_CNT_RESTRUCTURES).agrees (Foot.le_trans (by decide +kernel) hF) ?_
    | with_reducible refine Goes.quietPort (Foot.le_trans (by decide +kernel) hF) ?_
    | with_reducible refine Goes.releaseWinnow (Foot.le_trans (by decide +kernel) hF) ?_
    | with_reducible refine Goes.foldl ?_ ?_
    | split
    | intro _

/-- What `State.startPort` may change. -/
def fp_startPort : Foot := ⟨[.halves, .sides, .ports, .engines, .tiles, .evq], some [0x220018, 0x220010, 0x200100,
  0x40800F, 0x408008, 0x40800A, 0x408000, 0x40800C, 0xE0390, 0xE0380, 0xE0388, 0xE0210, 0xE0200, 0xE021E, 0xE0208,
  0xE021F, 0xE0280, 0xE0100, 0xE0001, 0x4000418, 0x4000413, 0x400041F, 0x4000294, 0x4000280, 0x400029D, 0x400029E,
  0x4000290, 0x400050E, 0x400051C, 0x4000513, 0x4000486, 0x4000480, 0x4000487, 0x4000398, 0x400038C, 0x4000392,
  0x4000386, 0x4000380, 0x400039E, 0x2000104, 0x200011E, 0x200010C, 0x2000100, 0x200011D, 0x2000108, 0x200011F,
  0x200090A, 0x200091C, 0x2000D05, 0x2000D06, 0x2000D10, 0x2000D00, 0x2000D1C, 0x2000D08, 0x2000D18, 0x2000510,
  0x2000508, 0x200048F, 0x2000498, 0x2000494, 0x200048E, 0x200048B, 0x2000488, 0x2000490, 0x200049C, 0x2000492,
  0x100097]⟩
theorem Goes.startPort {s : State} {p : Nat} (hF : fp_startPort.le F = true) (hgo : Goes F s0 s) :
     Goes F s0 (State.startPort s p) := by
  unfold State.startPort
  try dsimp only
  repeat' first
    | with_reducible assumption
    | with_reducible refine Goes.noted (Foot.le_trans (by decide +kernel) hF) ?_
    | with_reducible refine Goes.enterDetect (Foot.le_trans (by decide +kernel) hF) ?_
    | with_reducible refine Goes.each ?_ ?_
    | with_reducible refine Goes.toSDetect (Foot.le_trans (by decide +kernel) hF) ?_
    | with_reducible refine Goes.foldl ?_ ?_
    | split
    | intro _

end Sys2Proof.Machine
end

