-- ==== Sys2Proof/Laws/OnTxnOps.lean ====
section
/-! SUPPORT. What each operation of `Machine/TxnOps.lean` may change: one lemma for each. -/

set_option linter.all false
set_option Elab.async false

namespace Sys2Proof.Machine

variable {F : Foot} {s0 : State}

theorem Tab.wf_foldl {α β : Type} {t : Tab α} {f : Tab α → β → Tab α} (h : t.wf) (l : List β)
    (hf : ∀ t b, t.wf → (f t b).wf) : (l.foldl f t).wf := by
  induction l generalizing t with
  | nil => exact h
  | cons e l ih => exact ih (hf t e h)

theorem changesTo_agrees {s new : State} {cells : List Cell} (h : ∀ c ∈ cells, c.agrees) :
    ∀ d ∈ s.changesTo new cells, d.cell.agrees := by
  intro d hd
  unfold State.changesTo at hd
  obtain ⟨c, hc, he⟩ := List.mem_filterMap.1 hd
  split at he
  · cases he
  · cases he
    exact h c hc

theorem clampCells_agrees (ports : List Nat) : ∀ c ∈ clampCells ports, c.agrees := by
  intro c hc
  unfold clampCells at hc
  rcases List.mem_append.1 hc with hc | hc
  · obtain ⟨r, -, hr⟩ := List.mem_flatMap.1 hc
    rcases List.mem_cons.1 hr with rfl | hr
    · exact (known_LCH_FOM_LIMITS_WARN r).agrees
    · rw [List.mem_singleton.1 hr]
      exact (known_LCH_FOM_LIMITS_TARGET r).agrees
  · obtain ⟨p, -, hp⟩ := List.mem_flatMap.1 hc
    rcases List.mem_cons.1 hp with rfl | hp
    · exact (known_PRT_MODE_MODE p).agrees
    · obtain ⟨q, -, hq⟩ := List.mem_flatMap.1 hp
      rcases List.mem_cons.1 hq with rfl | hq
      · exact (known_PRT_DP_CTRL_SLOT q).agrees
      · rcases List.mem_cons.1 hq with rfl | hq
        · exact (known_PRT_TRL_CTRL_MIN_WIDTH q).agrees
        · rw [List.mem_singleton.1 hq]
          exact (known_PRT_SEG_CTRL_SLOTS q).agrees

/-- What `State.putTable` may change. -/
def fp_putTable : Foot := ⟨[.bct], some []⟩
theorem Goes.putTable {s : State} {t : Tab Nat} (hF : fp_putTable.le F = true) (hgo : Goes F s0 s) :
     Goes F s0 (State.putTable s t) := by
  unfold State.putTable
  try dsimp only
  repeat' first
    | with_reducible assumption
    | exact fun _ w => Tab.wf_foldl w.bct _ (fun t e h => by split; exact Tab.wf_erase h _; exact Tab.wf_set h _ _)
    | with_reducible refine Goes.setBct (Foot.le_trans (by decide +kernel) hF) ?_ ?_
    | with_reducible refine Goes.foldl ?_ ?_
    | exact fun _ w => Tab.wf_empty
    | exact fun _ w => Tab.wf_set w.bct _ _
    | exact fun _ w => Tab.wf_erase w.bct _
    | exact fun _ w => Tab.wf_keep w.bct _
    | exact fun _ w => Tab.wf_map w.bct _
    | split
    | intro _

/-- What `State.stageWord` may change. -/
def fp_stageWord : Foot := ⟨[.txn], some []⟩
theorem Goes.stageWord {s : State} {off : Nat} {value : Nat} {fs : List Field} (hF : fp_stageWord.le F = true) (hfs : ∀ f ∈ fs, f.cell.agrees) (hgo : Goes F s0 s) :
     Goes F s0 (State.stageWord s off value fs) := by
  unfold State.stageWord
  split
  · exact Goes.upX (Foot.le_trans (by decide +kernel) hF) (fun _ h => h) hgo
  · refine Goes.foldl_mem (fun t ht f hf => ?_) (Goes.upX (Foot.le_trans (by decide +kernel) hF) (fun _ h => h) hgo)
    split
    · refine Goes.upX (Foot.le_trans (by decide +kernel) hF) (fun m h => ⟨Tab.wf_set h.1 _ _, h.2.1, h.2.2.1, fun e he => ?_, h.2.2.2.2⟩) ht
      rcases Tab.mem_set he with rfl | he
      · exact hfs f hf
      · exact h.2.2.2.1 e he
    · exact ht

/-- What `State.stageEntry` may change. -/
def fp_stageEntry : Foot := ⟨[.txn], some []⟩
theorem Goes.stageEntry {s : State} {i : Nat} {v : Nat} (hF : fp_stageEntry.le F = true) (hgo : Goes F s0 s) :
     Goes F s0 (State.stageEntry s i v) := by
  unfold State.stageEntry
  try dsimp only
  repeat' first
    | with_reducible assumption
    | with_reducible refine Goes.upX (Foot.le_trans (by decide +kernel) hF) (fun _ h => h) ?_
    | with_reducible refine Goes.upX (Foot.le_trans (by decide +kernel) hF) ?_ ?_
    | with_reducible refine Goes.foldl ?_ ?_
    | exact fun _ h => ⟨Tab.wf_set h.1 _ _, h.2⟩
    | exact fun _ h => ⟨h.1, Tab.wf_set h.2.1 _ _, h.2.2⟩
    | exact fun _ _ => Txn.wf_new
    | split
    | intro _

/-- What `State.clampFom` may change. -/
def fp_clampFom : Foot := ⟨[], some [0x4200010, 0x4200008]⟩
theorem Goes.clampFom {s : State} {r : Nat} (hF : fp_clampFom.le F = true) (hgo : Goes F s0 s) :
     Goes F s0 (State.clampFom s r) := by
  unfold State.clampFom
  try dsimp only
  repeat' first
    | with_reducible assumption
    | with_reducible refine Goes.wr (List.mem_singleton.2 (fieldName_LCH_FOM_LIMITS_TARGET _)) (known_LCH_FOM_LIMITS_TARGET _).agrees (Foot.le_trans (by decide +kernel) hF) ?_
    | with_reducible refine Goes.wr (List.mem_singleton.2 (fieldName_LCH_FOM_LIMITS_WARN _)) (known_LCH_FOM_LIMITS_WARN _).agrees (Foot.le_trans (by decide +kernel) hF) ?_
    | with_reducible refine Goes.foldl ?_ ?_
    | split
    | intro _

/-- What `State.clampSlot` may change. -/
def fp_clampSlot : Foot := ⟨[], some [0x2000084, 0x2000080]⟩
theorem Goes.clampSlot {s : State} {q : Nat} (hF : fp_clampSlot.le F = true) (hgo : Goes F s0 s) :
     Goes F s0 (State.clampSlot s q) := by
  unfold State.clampSlot
  try dsimp only
  repeat' first
    | with_reducible assumption
    | with_reducible refine Goes.wr (mem_two (names_PRT_DP_CTRL_SLOT _)) (known_PRT_DP_CTRL_SLOT _).agrees (Foot.le_trans (by decide +kernel) hF) ?_
    | with_reducible refine Goes.foldl ?_ ?_
    | split
    | intro _

/-- What `State.clampGear` may change. -/
def fp_clampGear : Foot := ⟨[], some [0x2000084, 0x2000080]⟩
theorem Goes.clampGear {s : State} {q : Nat} (hF : fp_clampGear.le F = true) (hgo : Goes F s0 s) :
     Goes F s0 (State.clampGear s q) := by
  unfold State.clampGear
  try dsimp only
  repeat' first
    | with_reducible assumption
    | with_reducible refine Goes.wr (mem_two (names_PRT_DP_CTRL_SLOT _)) (known_PRT_DP_CTRL_SLOT _).agrees (Foot.le_trans (by decide +kernel) hF) ?_
    | with_reducible refine Goes.foldl ?_ ?_
    | split
    | intro _

/-- What `State.clampMin` may change. -/
def fp_clampMin : Foot := ⟨[], some [0x2000C19]⟩
theorem Goes.clampMin {s : State} {q : Nat} (hF : fp_clampMin.le F = true) (hgo : Goes F s0 s) :
     Goes F s0 (State.clampMin s q) := by
  unfold State.clampMin
  try dsimp only
  repeat' first
    | with_reducible assumption
    | with_reducible refine Goes.wr (List.mem_singleton.2 (fieldName_PRT_TRL_CTRL_MIN_WIDTH _)) (known_PRT_TRL_CTRL_MIN_WIDTH _).agrees (Foot.le_trans (by decide +kernel) hF) ?_
    | with_reducible refine Goes.foldl ?_ ?_
    | split
    | intro _

/-- What `State.computed` may change. -/
def fp_computed : Foot := ⟨[], some [0x200001C, 0x2000800]⟩
theorem Goes.computed {s : State} {p : Nat} (hF : fp_computed.le F = true) (hgo : Goes F s0 s) :
     Goes F s0 (State.computed s p) := by
  unfold State.computed
  try dsimp only
  repeat' first
    | with_reducible assumption
    | with_reducible refine Goes.wr (List.mem_singleton.2 (fieldName_PRT_MODE_MODE _)) (known_PRT_MODE_MODE _).agrees (Foot.le_trans (by decide +kernel) hF) ?_
    | with_reducible refine Goes.wr (List.mem_singleton.2 (fieldName_PRT_SEG_CTRL_SLOTS _)) (known_PRT_SEG_CTRL_SLOTS _).agrees (Foot.le_trans (by decide +kernel) hF) ?_
    | with_reducible refine Goes.each ?_ ?_
    | with_reducible refine Goes.foldl ?_ ?_
    | split
    | intro _

/-- What `State.clamped` may change. -/
def fp_clamped : Foot := ⟨[], some [0x4200010, 0x4200008, 0x2000084, 0x2000080, 0x200001C, 0x2000800, 0x2000C19]⟩
theorem Goes.clamped {s : State} {ports : List Nat} (hF : fp_clamped.le F = true) (hgo : Goes F s0 s) :
     Goes F s0 (State.clamped s ports) := by
  unfold State.clamped
  try dsimp only
  repeat' first
    | with_reducible assumption
    | with_reducible refine Goes.clampMin (Foot.le_trans (by decide +kernel) hF) ?_
    | with_reducible refine Goes.clampFom (Foot.le_trans (by decide +kernel) hF) ?_
    | with_reducible refine Goes.clampGear (Foot.le_trans (by decide +kernel) hF) ?_
    | with_reducible refine Goes.computed (Foot.le_trans (by decide +kernel) hF) ?_
    | with_reducible refine Goes.each ?_ ?_
    | with_reducible refine Goes.clampSlot (Foot.le_trans (by decide +kernel) hF) ?_
    | with_reducible refine Goes.foldl ?_ ?_
    | split
    | intro _

/-- What `State.endTxn` may change. -/
def fp_endTxn : Foot := ⟨[.ports, .txn, .tiles, .power, .evq], some [0x6001A, 0x60018, 0x6000F, 0x60010, 0x40088,
  0x40099, 0x40080, 0x4009C]⟩
theorem Goes.endTxn {s : State} {result : Nat} {reason : Nat} {index : Nat} (hF : fp_endTxn.le F = true) (hgo : Goes F s0 s) :
     Goes F s0 (State.endTxn s result reason index) := by
  unfold State.endTxn
  try dsimp only
  repeat' first
    | with_reducible assumption
    | with_reducible refine Goes.showTarget (Foot.le_trans (by decide +kernel) hF) ?_
    | with_reducible refine Goes.upX (Foot.le_trans (by decide +kernel) hF) (fun _ h => h) ?_
    | with_reducible refine Goes.upX (Foot.le_trans (by decide +kernel) hF) ?_ ?_
    | with_reducible refine Goes.setEvq (Foot.le_trans (by decide +kernel) hF) ?_
    | with_reducible refine Goes.wr (List.mem_singleton.2 (fieldName_TXN_STATUS_FAIL_INDEX)) (known_TXN_STATUS_FAIL_INDEX).agrees (Foot.le_trans (by decide +kernel) hF) ?_
    | with_reducible refine Goes.wr (List.mem_singleton.2 (fieldName_TXN_STATUS_LAST_RESULT)) (known_TXN_STATUS_LAST_RESULT).agrees (Foot.le_trans (by decide +kernel) hF) ?_
    | with_reducible refine Goes.wr (List.mem_singleton.2 (fieldName_TXN_STATUS_REASON)) (known_TXN_STATUS_REASON).agrees (Foot.le_trans (by decide +kernel) hF) ?_
    | with_reducible refine Goes.wr (List.mem_singleton.2 (fieldName_TXN_STATUS_STATE)) (known_TXN_STATUS_STATE).agrees (Foot.le_trans (by decide +kernel) hF) ?_
    | with_reducible refine Goes.askLevel (Foot.le_trans (by decide +kernel) hF) ?_
    | with_reducible refine Goes.tileQuiet (Foot.le_trans (by decide +kernel) hF) ?_
    | with_reducible refine Goes.each ?_ ?_
    | with_reducible refine Goes.deviceQuiet (Foot.le_trans (by decide +kernel) hF) ?_
    | with_reducible refine Goes.setPorts (Foot.le_trans (by decide +kernel) hF) ?_ ?_
    | with_reducible refine Goes.foldl ?_ ?_
    | exact fun _ w => Tab.wf_empty
    | exact fun _ w => Tab.wf_set w.ports _ _
    | exact fun _ w => Tab.wf_erase w.ports _
    | exact fun _ w => Tab.wf_keep w.ports _
    | exact fun _ w => Tab.wf_map w.ports _
    | exact fun _ h => ⟨Tab.wf_set h.1 _ _, h.2⟩
    | exact fun _ h => ⟨h.1, Tab.wf_set h.2.1 _ _, h.2.2⟩
    | exact fun _ _ => Txn.wf_new
    | split
    | intro _

/-- What `State.rollTxn` may change. -/
def fp_rollTxn : Foot := ⟨[.ports, .txn, .tiles, .power, .evq], some [0x6001A, 0x60018, 0x6000F, 0x60010, 0x40088,
  0x40099, 0x40080, 0x4009C]⟩
theorem Goes.rollTxn {s : State} {reason : Nat} (hF : fp_rollTxn.le F = true) (hgo : Goes F s0 s) :
     Goes F s0 (State.rollTxn s reason) := by
  unfold State.rollTxn
  try dsimp only
  repeat' first
    | with_reducible assumption
    | with_reducible refine Goes.endTxn (Foot.le_trans (by decide +kernel) hF) ?_
    | with_reducible refine Goes.foldl ?_ ?_
    | split
    | intro _

/-- What `State.putChanges` may change. -/
def fp_putChanges : Foot := ⟨[], none⟩
theorem Goes.putChanges {s : State} {port : Option Nat} {back : Bool} (hF : fp_putChanges.le F = true) (hgo : Goes F s0 s) :
     Goes F s0 (State.putChanges s port back) := by
  unfold State.putChanges
  exact Goes.foldl_mem (fun t ht c hc => Goes.wrWf (fun w => (hgo.wf w).txn.2.2.2.2 c (List.mem_of_mem_filter hc))
    (Foot.le_trans (by decide +kernel) hF) ht) hgo

/-- What `State.putOneWay` may change. -/
def fp_putOneWay : Foot := ⟨[], none⟩
theorem Goes.putOneWay {s : State} {q : Nat} {back : Bool} (hF : fp_putOneWay.le F = true) (hgo : Goes F s0 s) :
     Goes F s0 (State.putOneWay s q back) := by
  unfold State.putOneWay
  exact Goes.foldl_mem (fun t ht c hc => Goes.wrWf (fun w => (hgo.wf w).txn.2.2.2.2 c (List.mem_of_mem_filter hc))
    (Foot.le_trans (by decide +kernel) hF) ht) hgo

/-- What `State.putGlobals` may change. -/
def fp_putGlobals : Foot := ⟨[.halves, .bct, .tim], none⟩
theorem Goes.putGlobals {s : State} {back : Bool} (hF : fp_putGlobals.le F = true) (hgo : Goes F s0 s) :
     Goes F s0 (State.putGlobals s back) := by
  unfold State.putGlobals
  try dsimp only
  repeat' first
    | with_reducible assumption
    | with_reducible refine Goes.showActive (Foot.le_trans (by decide +kernel) hF) ?_
    | with_reducible refine Goes.showRole (Foot.le_trans (by decide +kernel) hF) ?_
    | with_reducible refine Goes.putChanges (Foot.le_trans (by decide +kernel) hF) ?_
    | with_reducible refine Goes.putTable (Foot.le_trans (by decide +kernel) hF) ?_
    | with_reducible refine Goes.holdAllLimits (Foot.le_trans (by decide +kernel) hF) ?_
    | with_reducible refine Goes.foldl ?_ ?_
    | split
    | intro _

/-- What `State.dropUncalled` may change. -/
def fp_dropUncalled : Foot := ⟨[.halves], some [0x4000398, 0x400038C, 0x4000392, 0x4000386, 0x4000380, 0x400039E]⟩
theorem Goes.dropUncalled {s : State} {hs : List Nat} (hF : fp_dropUncalled.le F = true) (hgo : Goes F s0 s) :
     Goes F s0 (State.dropUncalled s hs) := by
  unfold State.dropUncalled
  try dsimp only
  repeat' first
    | with_reducible assumption
    | with_reducible refine Goes.upH (Foot.le_trans (by decide +kernel) hF) (fun _ h => h) ?_
    | with_reducible refine Goes.upH (Foot.le_trans (by decide +kernel) hF) ?_ ?_
    | with_reducible refine Goes.each ?_ ?_
    | with_reducible refine Goes.setTx (Foot.le_trans (by decide +kernel) hF) ?_
    | with_reducible refine Goes.foldl ?_ ?_
    | exact fun _ h => h
    | exact fun _ h => by dsimp only; (repeat' split) <;> exact h
    | split
    | intro _

/-- What `State.settlePort` may change. -/
def fp_settlePort : Foot := ⟨[.halves, .sides, .ports, .engines, .rings, .winnows, .tiles, .power, .evq], some
  [0x220008, 0x22001F, 0x220018, 0x220010, 0x220000, 0x220004, 0x200100, 0x40C008, 0x40800F, 0x408008, 0x40800A,
  0x408000, 0x40800C, 0xE0390, 0xE0380, 0xE0388, 0xE0210, 0xE0200, 0xE021E, 0xE0208, 0xE021F, 0xE0280, 0xE0100, 0xE0001,
  0x4000418, 0x4000400, 0x4000413, 0x400041F, 0x4000408, 0x4000294, 0x400029C, 0x400029A, 0x4000280, 0x4000288,
  0x400029D, 0x400029E, 0x4000290, 0x400029F, 0x400029B, 0x4000500, 0x400050D, 0x4000518, 0x400050E, 0x400051C,
  0x4000513, 0x4000319, 0x400030C, 0x4000304, 0x400031F, 0x4000313, 0x400031E, 0x4000490, 0x4000486, 0x4000480,
  0x4000487, 0x4000488, 0x4000398, 0x400038C, 0x4000392, 0x4000386, 0x4000380, 0x400039E, 0x2000104, 0x200011E,
  0x200010C, 0x2000100, 0x200011D, 0x2000108, 0x2000119, 0x2000118, 0x2000110, 0x200011F, 0x2000A10, 0x2000A00,
  0x2000914, 0x2000906, 0x2000902, 0x2000907, 0x2000918, 0x200090A, 0x2000905, 0x2000903, 0x2000900, 0x200090C,
  0x2000904, 0x200091C, 0x2000901, 0x2000190, 0x2000180, 0x2000E08, 0x2000E10, 0x2000E18, 0x2000E00, 0x2000D01,
  0x2000D05, 0x2000D04, 0x2000D03, 0x2000D06, 0x2000D02, 0x2000D10, 0x2000D00, 0x2000D1C, 0x2000D08, 0x2000D18,
  0x2000510, 0x2000519, 0x200051A, 0x200051B, 0x200051C, 0x200051F, 0x200051E, 0x2000500, 0x2000508, 0x200051D,
  0x200048F, 0x2000498, 0x2000494, 0x200048E, 0x200048B, 0x2000488, 0x2000484, 0x2000490, 0x200049C, 0x2000492, 0xA0110,
  0x100097, 0x102001F, 0x1020017, 0x1020013, 0x102000F, 0x1020007, 0x1020003]⟩
theorem Goes.settlePort {s : State} {old : State} {p : Nat} (hF : fp_settlePort.le F = true) (hgo : Goes F s0 s) :
     Goes F s0 (State.settlePort s old p) := by
  unfold State.settlePort
  try dsimp only
  repeat' first
    | with_reducible assumption
    | with_reducible refine Goes.restructure (Foot.le_trans (by decide +kernel) hF) ?_
    | with_reducible refine Goes.foldl ?_ ?_
    | split
    | intro _

/-- What `State.turnPorts` may change. -/
def fp_turnPorts : Foot := ⟨[.halves, .sides, .ports, .engines, .rings, .winnows, .tiles, .power, .evq], none⟩
theorem Goes.turnPorts {s : State} {ps : List Nat} {back : Bool} (hF : fp_turnPorts.le F = true) (hgo : Goes F s0 s) :
     Goes F s0 (State.turnPorts s ps back) := by
  unfold State.turnPorts
  try dsimp only
  repeat' first
    | with_reducible assumption
    | with_reducible refine Goes.quietPort (Foot.le_trans (by decide +kernel) hF) ?_
    | with_reducible refine Goes.each ?_ ?_
    | with_reducible refine Goes.dropUncalled (Foot.le_trans (by decide +kernel) hF) ?_
    | with_reducible refine Goes.settlePort (Foot.le_trans (by decide +kernel) hF) ?_
    | with_reducible refine Goes.putChanges (Foot.le_trans (by decide +kernel) hF) ?_
    | with_reducible refine Goes.foldl ?_ ?_
    | split
    | intro _

/-- What `State.settleDclk` may change. -/
def fp_settleDclk : Foot := ⟨[], some [0x80000]⟩
theorem Goes.settleDclk {s : State} (hF : fp_settleDclk.le F = true) (hgo : Goes F s0 s) :
     Goes F s0 (State.settleDclk s) := by
  unfold State.settleDclk
  try dsimp only
  repeat' first
    | with_reducible assumption
    | with_reducible refine Goes.showDclk (Foot.le_trans (by decide +kernel) hF) ?_
    | with_reducible refine Goes.each ?_ ?_
    | with_reducible refine Goes.foldl ?_ ?_
    | split
    | intro _

/-- What `State.turnGroup` may change. -/
def fp_turnGroup : Foot := ⟨[.halves, .sides, .ports, .engines, .rings, .txn, .winnows, .tiles, .power, .evq], none⟩
theorem Goes.turnGroup {s : State} {p : Nat} (hF : fp_turnGroup.le F = true) (hgo : Goes F s0 s) :
     Goes F s0 (State.turnGroup s p) := by
  unfold State.turnGroup
  try dsimp only
  repeat' first
    | with_reducible assumption
    | with_reducible refine Goes.settleDclk (Foot.le_trans (by decide +kernel) hF) ?_
    | with_reducible refine Goes.upX (Foot.le_trans (by decide +kernel) hF) (fun _ h => h) ?_
    | with_reducible refine Goes.upX (Foot.le_trans (by decide +kernel) hF) ?_ ?_
    | with_reducible refine Goes.turnPorts (Foot.le_trans (by decide +kernel) hF) ?_
    | with_reducible refine Goes.endTxn (Foot.le_trans (by decide +kernel) hF) ?_
    | with_reducible refine Goes.foldl ?_ ?_
    | exact fun _ h => ⟨Tab.wf_set h.1 _ _, h.2⟩
    | exact fun _ h => ⟨h.1, Tab.wf_set h.2.1 _ _, h.2.2⟩
    | exact fun _ _ => Txn.wf_new
    | split
    | intro _

/-- What `State.reached` may change. -/
def fp_reached : Foot := ⟨[.halves, .sides, .ports, .engines, .rings, .txn, .winnows, .tiles, .power, .evq], none⟩
theorem Goes.reached {s : State} {p : Nat} (hF : fp_reached.le F = true) (hgo : Goes F s0 s) :
     Goes F s0 (State.reached s p) := by
  unfold State.reached
  try dsimp only
  repeat' first
    | with_reducible assumption
    | with_reducible refine Goes.upX (Foot.le_trans (by decide +kernel) hF) (fun _ h => h) ?_
    | with_reducible refine Goes.upX (Foot.le_trans (by decide +kernel) hF) ?_ ?_
    | with_reducible refine Goes.turnGroup (Foot.le_trans (by decide +kernel) hF) ?_
    | with_reducible refine Goes.foldl ?_ ?_
    | exact fun _ h => ⟨Tab.wf_set h.1 _ _, h.2⟩
    | exact fun _ h => ⟨h.1, Tab.wf_set h.2.1 _ _, h.2.2⟩
    | exact fun _ _ => Txn.wf_new
    | split
    | intro _

/-- What `State.turnReady` may change. -/
def fp_turnReady : Foot := ⟨[.halves, .sides, .ports, .engines, .rings, .txn, .winnows, .tiles, .power, .evq], none⟩
theorem Goes.turnReady {s : State} (hF : fp_turnReady.le F = true) (hgo : Goes F s0 s) :
     Goes F s0 (State.turnReady s) := by
  unfold State.turnReady
  try dsimp only
  repeat' first
    | with_reducible assumption
    | with_reducible refine Goes.each ?_ ?_
    | with_reducible refine Goes.turnGroup (Foot.le_trans (by decide +kernel) hF) ?_
    | with_reducible refine Goes.foldl ?_ ?_
    | split
    | intro _

/-- What `State.awaitPort` may change. -/
def fp_awaitPort : Foot := ⟨[.ports], some []⟩
theorem Goes.awaitPort {s : State} {p : Nat} (hF : fp_awaitPort.le F = true) (hgo : Goes F s0 s) :
     Goes F s0 (State.awaitPort s p) := by
  unfold State.awaitPort
  try dsimp only
  repeat' first
    | with_reducible assumption
    | with_reducible refine Goes.upP (Foot.le_trans (by decide +kernel) hF) ?_
    | with_reducible refine Goes.foldl ?_ ?_
    | split
    | intro _

/-- What `State.forgetPort` may change. -/
def fp_forgetPort : Foot := ⟨[.ports], some []⟩
theorem Goes.forgetPort {s : State} {p : Nat} (hF : fp_forgetPort.le F = true) (hgo : Goes F s0 s) :
     Goes F s0 (State.forgetPort s p) := by
  unfold State.forgetPort
  try dsimp only
  repeat' first
    | with_reducible assumption
    | with_reducible refine Goes.upP (Foot.le_trans (by decide +kernel) hF) ?_
    | with_reducible refine Goes.foldl ?_ ?_
    | split
    | intro _

/-- What `State.markPort` may change. -/
def fp_markPort : Foot := ⟨[.ports, .evq], some []⟩
theorem Goes.markPort {s : State} {p : Nat} (hF : fp_markPort.le F = true) (hgo : Goes F s0 s) :
     Goes F s0 (State.markPort s p) := by
  unfold State.markPort
  try dsimp only
  repeat' first
    | with_reducible assumption
    | with_reducible refine Goes.bump (Foot.le_trans (by decide +kernel) hF) ?_
    | with_reducible refine Goes.upP (Foot.le_trans (by decide +kernel) hF) ?_
    | with_reducible refine Goes.foldl ?_ ?_
    | split
    | intro _

/-- What `State.clearMarks` may change. -/
def fp_clearMarks : Foot := ⟨[.ports], some []⟩
theorem Goes.clearMarks {s : State} (hF : fp_clearMarks.le F = true) (hgo : Goes F s0 s) :
     Goes F s0 (State.clearMarks s) := by
  unfold State.clearMarks
  try dsimp only
  repeat' first
    | with_reducible assumption
    | with_reducible refine Goes.setPorts (Foot.le_trans (by decide +kernel) hF) ?_ ?_
    | with_reducible refine Goes.foldl ?_ ?_
    | exact fun _ w => Tab.wf_empty
    | exact fun _ w => Tab.wf_set w.ports _ _
    | exact fun _ w => Tab.wf_erase w.ports _
    | exact fun _ w => Tab.wf_keep w.ports _
    | exact fun _ w => Tab.wf_map w.ports _
    | split
    | intro _

/-- What `State.markDirection` may change. -/
def fp_markDirection : Foot := ⟨[.ports, .evq], some []⟩
theorem Goes.markDirection {s : State} {q : Nat} (hF : fp_markDirection.le F = true) (hgo : Goes F s0 s) :
     Goes F s0 (State.markDirection s q) := by
  unfold State.markDirection
  try dsimp only
  repeat' first
    | with_reducible assumption
    | with_reducible refine Goes.bump (Foot.le_trans (by decide +kernel) hF) ?_
    | with_reducible refine Goes.upP (Foot.le_trans (by decide +kernel) hF) ?_
    | with_reducible refine Goes.foldl ?_ ?_
    | split
    | intro _

/-- What `State.resumeForwarding` may change. -/
def fp_resumeForwarding : Foot := ⟨[.halves, .txn], some [0x4000398, 0x400038C, 0x4000392, 0x4000386, 0x4000380,
  0x400039E]⟩
theorem Goes.resumeForwarding {s : State} (hF : fp_resumeForwarding.le F = true) (hgo : Goes F s0 s) :
     Goes F s0 (State.resumeForwarding s) := by
  unfold State.resumeForwarding
  try dsimp only
  repeat' first
    | with_reducible assumption
    | with_reducible refine Goes.upH (Foot.le_trans (by decide +kernel) hF) (fun _ h => h) ?_
    | with_reducible refine Goes.upH (Foot.le_trans (by decide +kernel) hF) ?_ ?_
    | with_reducible refine Goes.upX (Foot.le_trans (by decide +kernel) hF) (fun _ h => h) ?_
    | with_reducible refine Goes.upX (Foot.le_trans (by decide +kernel) hF) ?_ ?_
    | with_reducible refine Goes.each ?_ ?_
    | with_reducible refine Goes.setTx (Foot.le_trans (by decide +kernel) hF) ?_
    | with_reducible refine Goes.foldl ?_ ?_
    | exact fun _ h => ⟨Tab.wf_set h.1 _ _, h.2⟩
    | exact fun _ h => ⟨h.1, Tab.wf_set h.2.1 _ _, h.2.2⟩
    | exact fun _ _ => Txn.wf_new
    | exact fun _ h => h
    | exact fun _ h => by dsimp only; (repeat' split) <;> exact h
    | split
    | intro _

/-- What `State.failTxn` may change. -/
def fp_failTxn : Foot := ⟨[.halves, .sides, .ports, .bct, .engines, .rings, .txn, .winnows, .tim, .tiles, .power,
  .evq], none⟩
theorem Goes.failTxn {s : State} {reason : Nat} {index : Nat} (hF : fp_failTxn.le F = true) (hgo : Goes F s0 s) :
     Goes F s0 (State.failTxn s reason index) := by
  unfold State.failTxn
  try dsimp only
  repeat' first
    | with_reducible assumption
    | with_reducible refine Goes.upX (Foot.le_trans (by decide +kernel) hF) (fun _ h => h) ?_
    | with_reducible refine Goes.upX (Foot.le_trans (by decide +kernel) hF) ?_ ?_
    | with_reducible refine Goes.putGlobals (Foot.le_trans (by decide +kernel) hF) ?_
    | with_reducible refine Goes.putOneWay (Foot.le_trans (by decide +kernel) hF) ?_
    | with_reducible refine Goes.wr (List.mem_singleton.2 (fieldName_TXN_STATUS_STATE)) (known_TXN_STATUS_STATE).agrees (Foot.le_trans (by decide +kernel) hF) ?_
    | with_reducible refine Goes.resumeForwarding (Foot.le_trans (by decide +kernel) hF) ?_
    | with_reducible refine Goes.each ?_ ?_
    | with_reducible refine Goes.reached (Foot.le_trans (by decide +kernel) hF) ?_
    | with_reducible refine Goes.clearMarks (Foot.le_trans (by decide +kernel) hF) ?_
    | with_reducible refine Goes.forgetPort (Foot.le_trans (by decide +kernel) hF) ?_
    | with_reducible refine Goes.awaitPort (Foot.le_trans (by decide +kernel) hF) ?_
    | with_reducible refine Goes.foldl ?_ ?_
    | exact fun _ h => ⟨Tab.wf_set h.1 _ _, h.2⟩
    | exact fun _ h => ⟨h.1, Tab.wf_set h.2.1 _ _, h.2.2⟩
    | exact fun _ _ => Txn.wf_new
    | split
    | intro _

/-- What `State.tileLost` may change. -/
def fp_tileLost : Foot := ⟨[.halves, .sides, .ports, .bct, .engines, .rings, .txn, .winnows, .tim, .tiles, .power,
  .evq], none⟩
theorem Goes.tileLost {s : State} {t : Nat} (hF : fp_tileLost.le F = true) (hgo : Goes F s0 s) :
     Goes F s0 (State.tileLost s t) := by
  unfold State.tileLost
  try dsimp only
  repeat' first
    | with_reducible assumption
    | with_reducible refine Goes.upX (Foot.le_trans (by decide +kernel) hF) (fun _ h => h) ?_
    | with_reducible refine Goes.upX (Foot.le_trans (by decide +kernel) hF) ?_ ?_
    | with_reducible refine Goes.failTxn (Foot.le_trans (by decide +kernel) hF) ?_
    | with_reducible refine Goes.foldl ?_ ?_
    | exact fun _ h => ⟨Tab.wf_set h.1 _ _, h.2⟩
    | exact fun _ h => ⟨h.1, Tab.wf_set h.2.1 _ _, h.2.2⟩
    | exact fun _ _ => Txn.wf_new
    | split
    | intro _

/-- What `State.stopForwarding` may change. -/
def fp_stopForwarding : Foot := ⟨[.halves, .txn], some [0x4000398, 0x400038C, 0x4000392, 0x4000386, 0x4000380,
  0x400039E]⟩
theorem Goes.stopForwarding {s : State} {q : Nat} (hF : fp_stopForwarding.le F = true) (hgo : Goes F s0 s) :
     Goes F s0 (State.stopForwarding s q) := by
  unfold State.stopForwarding
  try dsimp only
  repeat' first
    | with_reducible assumption
    | with_reducible refine Goes.upH (Foot.le_trans (by decide +kernel) hF) (fun _ h => h) ?_
    | with_reducible refine Goes.upH (Foot.le_trans (by decide +kernel) hF) ?_ ?_
    | with_reducible refine Goes.upX (Foot.le_trans (by decide +kernel) hF) (fun _ h => h) ?_
    | with_reducible refine Goes.upX (Foot.le_trans (by decide +kernel) hF) ?_ ?_
    | with_reducible refine Goes.each ?_ ?_
    | with_reducible refine Goes.setTx (Foot.le_trans (by decide +kernel) hF) ?_
    | with_reducible refine Goes.foldl ?_ ?_
    | exact fun _ h => ⟨Tab.wf_set h.1 _ _, h.2⟩
    | exact fun _ h => ⟨h.1, Tab.wf_set h.2.1 _ _, h.2.2⟩
    | exact fun _ _ => Txn.wf_new
    | exact fun _ h => h
    | exact fun _ h => by dsimp only; (repeat' split) <;> exact h
    | split
    | intro _

/-- What `State.applyDirection` may change. -/
def fp_applyDirection : Foot := ⟨[.halves, .sides, .ports, .engines, .rings, .txn, .winnows, .tiles, .power, .evq],
  none⟩
theorem Goes.applyDirection {s : State} {h : Nat} (hF : fp_applyDirection.le F = true) (hgo : Goes F s0 s) :
     Goes F s0 (State.applyDirection s h) := by
  unfold State.applyDirection
  try dsimp only
  repeat' first
    | with_reducible assumption
    | with_reducible refine Goes.upX (Foot.le_trans (by decide +kernel) hF) (fun _ h => h) ?_
    | with_reducible refine Goes.upX (Foot.le_trans (by decide +kernel) hF) ?_ ?_
    | with_reducible refine Goes.putOneWay (Foot.le_trans (by decide +kernel) hF) ?_
    | with_reducible refine Goes.upP (Foot.le_trans (by decide +kernel) hF) ?_
    | with_reducible refine Goes.each ?_ ?_
    | with_reducible refine Goes.reached (Foot.le_trans (by decide +kernel) hF) ?_
    | with_reducible refine Goes.disturb (Foot.le_trans (by decide +kernel) hF) ?_
    | with_reducible refine Goes.stopForwarding (Foot.le_trans (by decide +kernel) hF) ?_
    | with_reducible refine Goes.foldl ?_ ?_
    | exact fun _ h => ⟨Tab.wf_set h.1 _ _, h.2⟩
    | exact fun _ h => ⟨h.1, Tab.wf_set h.2.1 _ _, h.2.2⟩
    | exact fun _ _ => Txn.wf_new
    | split
    | intro _

end Sys2Proof.Machine
end

