-- ==== Sys2Proof/Laws/OnEngines.lean ====
section
/-! SUPPORT. What each operation of `Machine/Engines.lean` may change: one lemma for each. -/

set_option linter.all false
set_option Elab.async false

namespace Sys2Proof.Machine

variable {F : Foot} {s0 : State}

/-- What `execEngineStepEnd` may change. -/
def fp_execEngineStepEnd : Foot := ⟨[.engines, .freeCtr], some []⟩
theorem goes_execEngineStepEnd {k : EngineId} {s : State} (hF : fp_execEngineStepEnd.le F = true) (hgo : Goes F s0 s) :
     Runs F s0 (execEngineStepEnd k s) := by
  unfold execEngineStepEnd
  try dsimp only
  repeat' first
    | with_reducible assumption
    | with_reducible refine Runs.next ?_
    | with_reducible refine Goes.upE (Foot.le_trans (by decide +kernel) hF) ?_
    | with_reducible refine Goes.takeFree (Foot.le_trans (by decide +kernel) hF) ?_
    | with_reducible refine Goes.foldl ?_ ?_
    | split
    | intro _

/-- What `State.newEpoch` may change. -/
def fp_newEpoch : Foot := ⟨[.slices, .evq], some []⟩
theorem Goes.newEpoch {s : State} {k : Nat} (hF : fp_newEpoch.le F = true) (hgo : Goes F s0 s) :
     Goes F s0 (State.newEpoch s k) := by
  unfold State.newEpoch
  try dsimp only
  repeat' first
    | with_reducible assumption
    | with_reducible refine Goes.shareChanged (Foot.le_trans (by decide +kernel) hF) ?_
    | with_reducible refine Goes.upSl (Foot.le_trans (by decide +kernel) hF) ?_
    | with_reducible refine Goes.foldl ?_ ?_
    | split
    | intro _

/-- What `State.engineEpoch` may change. -/
def fp_engineEpoch : Foot := ⟨[.engines, .freeCtr], some [0x408010]⟩
theorem Goes.engineEpoch {s : State} {k : Nat} (hF : fp_engineEpoch.le F = true) (hgo : Goes F s0 s) :
     Goes F s0 (State.engineEpoch s k) := by
  unfold State.engineEpoch
  try dsimp only
  repeat' first
    | with_reducible assumption
    | with_reducible refine Goes.wr (List.mem_singleton.2 (fieldName_ENG_STATUS_LOAD _)) (known_ENG_STATUS_LOAD _).agrees (Foot.le_trans (by decide +kernel) hF) ?_
    | with_reducible refine Goes.upE (Foot.le_trans (by decide +kernel) hF) ?_
    | with_reducible refine Goes.takeFree (Foot.le_trans (by decide +kernel) hF) ?_
    | with_reducible refine Goes.foldl ?_ ?_
    | split
    | intro _

/-- What `execEpochStart` may change. -/
def fp_execEpochStart : Foot := ⟨[.engines, .slices, .tim, .power, .evq, .now, .count, .replicas, .elapsed, .freeCtr],
  some [0x408010, 0xC021B, 0xC0280]⟩
theorem goes_execEpochStart {s : State} (hF : fp_execEpochStart.le F = true) (hgo : Goes F s0 s) :
     Runs F s0 (execEpochStart s) := by
  unfold execEpochStart
  extract_lets n s1 s2
  have h1 : Goes F s0 s1 := Goes.upTim (Foot.le_trans (by decide +kernel) hF) (fun _ h => h)
    (Goes.fabricTo (Foot.le_trans (by decide +kernel) hF) hgo)
  have h2 : Goes F s0 s2 := Goes.each (fun t ht b => Goes.newEpoch (Foot.le_trans (by decide +kernel) hF) ht) h1
  split
  · exact Runs.next (Goes.each (fun t ht b => Goes.engineEpoch (Foot.le_trans (by decide +kernel) hF) ht) h2)
  · exact Runs.next hgo

/-- What `State.dispatch` may change. -/
def fp_dispatch : Foot := ⟨[.halves, .sides, .engines, .slices, .rings, .tiles, .power, .evq], some [0x40C008,
  0x40C010, 0x40800F, 0x408008, 0x40800A, 0x408000, 0x40800C, 0x400050E, 0x400051C, 0x4000513, 0x2000D05, 0x2000D06,
  0x2000D00]⟩
theorem Goes.dispatch {s : State} {k n : Nat} (hF : fp_dispatch.le F = true) (hgo : Goes F s0 s) :
    Goes F s0 (State.dispatch s k n) := by
  induction n generalizing s with
  | zero => exact hgo
  | succ n ih =>
    unfold State.dispatch
    dsimp only
    split
    · exact hgo
    · have h1 := Goes.upE (k := k) (f := fun e => { e with queue := e.queue.erase (by assumption) })
        (Foot.le_trans (by decide +kernel) hF) hgo
      split
      · exact Goes.showOf (Foot.le_trans (by decide +kernel) hF) (Goes.showJob (Foot.le_trans (by decide +kernel) hF)
          (Goes.payStep (Foot.le_trans (by decide +kernel) hF) (Goes.upE (Foot.le_trans (by decide +kernel) hF) h1)))
      · exact ih (Goes.endJob (Foot.le_trans (by decide +kernel) hF) h1)

/-- What `execJobDispatch` may change. -/
def fp_execJobDispatch : Foot := ⟨[.halves, .sides, .engines, .slices, .rings, .tiles, .power, .evq], some [0x40C008,
  0x40C010, 0x40800F, 0x408008, 0x40800A, 0x408000, 0x40800C, 0x400050E, 0x400051C, 0x4000513, 0x2000D05, 0x2000D06,
  0x2000D00]⟩
theorem goes_execJobDispatch {k : EngineId} {s : State} (hF : fp_execJobDispatch.le F = true) (hgo : Goes F s0 s) :
     Runs F s0 (execJobDispatch k s) := by
  unfold execJobDispatch
  try dsimp only
  repeat' first
    | with_reducible assumption
    | with_reducible refine Runs.next ?_
    | with_reducible refine Goes.payStep (Foot.le_trans (by decide +kernel) hF) ?_
    | with_reducible refine Goes.dispatch (Foot.le_trans (by decide +kernel) hF) ?_
    | with_reducible refine Goes.foldl ?_ ?_
    | split
    | intro _

/-- What `State.stepDone` may change. -/
def fp_stepDone : Foot := ⟨[.halves, .engines, .slices], some [0x40C010, 0x40800F, 0x408008, 0x40800A, 0x408000,
  0x40800C]⟩
theorem Goes.stepDone {s : State} {k : Nat} {j : Job} {count : Nat} (hF : fp_stepDone.le F = true) (hgo : Goes F s0 s) :
     Goes F s0 (State.stepDone s k j count) := by
  unfold State.stepDone
  try dsimp only
  repeat' first
    | with_reducible assumption
    | with_reducible refine Goes.showJob (Foot.le_trans (by decide +kernel) hF) ?_
    | with_reducible refine Goes.payStep (Foot.le_trans (by decide +kernel) hF) ?_
    | with_reducible refine Goes.upE (Foot.le_trans (by decide +kernel) hF) ?_
    | with_reducible refine Goes.foldl ?_ ?_
    | split
    | intro _

/-- What `execSafePoint` may change. -/
def fp_execSafePoint : Foot := ⟨[.halves, .engines, .slices], some [0x40C010, 0x40800F, 0x408008, 0x40800A, 0x408000,
  0x40800C]⟩
theorem goes_execSafePoint {k : EngineId} {r : StepResult} {s : State} (hF : fp_execSafePoint.le F = true) (hgo : Goes F s0 s) :
     Runs F s0 (execSafePoint k r s) := by
  unfold execSafePoint
  try dsimp only
  repeat' first
    | with_reducible assumption
    | with_reducible refine Runs.next ?_
    | with_reducible refine Goes.showJob (Foot.le_trans (by decide +kernel) hF) ?_
    | with_reducible refine Goes.stepDone (Foot.le_trans (by decide +kernel) hF) ?_
    | with_reducible refine Goes.upE (Foot.le_trans (by decide +kernel) hF) ?_
    | with_reducible refine Goes.foldl ?_ ?_
    | split
    | intro _

/-- What `execRestoreDone` may change. -/
def fp_execRestoreDone : Foot := ⟨[.halves, .sides, .ports, .engines, .rings, .mgmt, .tiles, .power, .evq, .outbox,
  .freeCtr], some [0x40C008, 0x40800F, 0x408008, 0x40800A, 0x408000, 0x40800C, 0x295, 0x400050E, 0x400051C, 0x4000513,
  0x2000D05, 0x2000D06, 0x2000D00]⟩
theorem goes_execRestoreDone {k : EngineId} {s : State} (hF : fp_execRestoreDone.le F = true) (hgo : Goes F s0 s) :
     Runs F s0 (execRestoreDone k s) := by
  unfold execRestoreDone
  try dsimp only
  repeat' first
    | with_reducible assumption
    | with_reducible refine Runs.next ?_
    | with_reducible refine Goes.serveMargin (Foot.le_trans (by decide +kernel) hF) ?_
    | with_reducible refine Goes.showOf (Foot.le_trans (by decide +kernel) hF) ?_
    | with_reducible refine Goes.finishJob (Foot.le_trans (by decide +kernel) hF) ?_
    | with_reducible refine Goes.restoreRx (Foot.le_trans (by decide +kernel) hF) ?_
    | with_reducible refine Goes.foldl ?_ ?_
    | split
    | intro _

/-- What `execWaitExpired` may change. -/
def fp_execWaitExpired : Foot := ⟨[.engines, .rings, .tim, .tiles, .power, .evq, .now, .count, .replicas, .elapsed],
  some [0x40C008, 0x40C000, 0xC021B, 0xC0280]⟩
theorem goes_execWaitExpired {k : EngineId} {s : State} (hF : fp_execWaitExpired.le F = true) (hgo : Goes F s0 s) :
     Runs F s0 (execWaitExpired k s) := by
  unfold execWaitExpired
  try dsimp only
  repeat' first
    | with_reducible assumption
    | with_reducible refine Runs.next ?_
    | with_reducible refine Goes.advanceTo (Foot.le_trans (by decide +kernel) hF) ?_
    | with_reducible refine Goes.satUp (List.mem_singleton.2 (fieldName_ENG_CNT_EXPIRED _)) (known_ENG_CNT_EXPIRED _).agrees (Foot.le_trans (by decide +kernel) hF) ?_
    | with_reducible refine Goes.upE (Foot.le_trans (by decide +kernel) hF) ?_
    | with_reducible refine Goes.endJob (Foot.le_trans (by decide +kernel) hF) ?_
    | with_reducible refine Goes.foldl ?_ ?_
    | split
    | intro _

/-- What `State.haltEngine` may change. -/
def fp_haltEngine : Foot := ⟨[.halves, .engines, .rings, .mgmt, .tiles, .power, .evq, .outbox], some [0x40C008,
  0x40800F, 0x408008, 0x40800A, 0x408000, 0x40800C, 0x295, 0x4000280, 0x400029D]⟩
theorem Goes.haltEngine {s : State} {k : Nat} {code : Nat} (hF : fp_haltEngine.le F = true) (hgo : Goes F s0 s) :
     Goes F s0 (State.haltEngine s k code) := by
  unfold State.haltEngine
  try dsimp only
  repeat' first
    | with_reducible assumption
    | with_reducible refine Goes.upH (Foot.le_trans (by decide +kernel) hF) (fun _ h => h) ?_
    | with_reducible refine Goes.upH (Foot.le_trans (by decide +kernel) hF) ?_ ?_
    | with_reducible refine Goes.wr (List.mem_singleton.2 (fieldName_LCH_FOM_FOM _)) (known_LCH_FOM_FOM _).agrees (Foot.le_trans (by decide +kernel) hF) ?_
    | with_reducible refine Goes.wr (List.mem_singleton.2 (fieldName_LCH_FOM_FOM_VALID _)) (known_LCH_FOM_FOM_VALID _).agrees (Foot.le_trans (by decide +kernel) hF) ?_
    | with_reducible refine Goes.upE (Foot.le_trans (by decide +kernel) hF) ?_
    | with_reducible refine Goes.each ?_ ?_
    | with_reducible refine Goes.off (List.mem_singleton.2 (fieldName_LCH_FOM_FOM _)) (known_LCH_FOM_FOM _).agrees (Foot.le_trans (by decide +kernel) hF) ?_
    | with_reducible refine Goes.off (List.mem_singleton.2 (fieldName_LCH_FOM_FOM_VALID _)) (known_LCH_FOM_FOM_VALID _).agrees (Foot.le_trans (by decide +kernel) hF) ?_
    | with_reducible refine Goes.finishJob (Foot.le_trans (by decide +kernel) hF) ?_
    | with_reducible refine Goes.restoreRx (Foot.le_trans (by decide +kernel) hF) ?_
    | with_reducible refine Goes.foldl ?_ ?_
    | exact fun _ h => h
    | exact fun _ h => by dsimp only; (repeat' split) <;> exact h
    | split
    | intro _

/-- What `State.showEngine` may change. -/
def fp_showEngine : Foot := ⟨[.halves, .sides, .engines], some [0x40800F, 0x408008, 0x40800A, 0x408000, 0x40800C,
  0x400050E, 0x400051C, 0x4000513, 0x2000D05, 0x2000D06, 0x2000D00]⟩
theorem Goes.showEngine {s : State} {k : Nat} (hF : fp_showEngine.le F = true) (hgo : Goes F s0 s) :
     Goes F s0 (State.showEngine s k) := by
  unfold State.showEngine
  try dsimp only
  repeat' first
    | with_reducible assumption
    | with_reducible refine Goes.each ?_ ?_
    | with_reducible refine Goes.showSide (Foot.le_trans (by decide +kernel) hF) ?_
    | with_reducible refine Goes.foldl ?_ ?_
    | split
    | intro _

/-- What `execEngineFault` may change. -/
def fp_execEngineFault : Foot := ⟨[.halves, .sides, .engines, .rings, .mgmt, .tiles, .power, .evq, .outbox], some
  [0x220018, 0x220010, 0x200100, 0x40C008, 0x408018, 0x40800F, 0x408008, 0x40800A, 0x408000, 0x40800C, 0x40801C,
  0xE0390, 0xE0380, 0xE0388, 0xE0210, 0xE0200, 0xE021E, 0xE0208, 0xE021F, 0xE0280, 0xE0100, 0xE0001, 0x295, 0x4000280,
  0x400029D, 0x400050E, 0x400051C, 0x4000513, 0x2000D05, 0x2000D06, 0x2000D00, 0x100097]⟩
theorem goes_execEngineFault {k : EngineId} {s : State} (hF : fp_execEngineFault.le F = true) (hgo : Goes F s0 s) :
     Runs F s0 (execEngineFault k s) := by
  unfold execEngineFault
  try dsimp only
  repeat' first
    | with_reducible assumption
    | with_reducible refine Runs.next ?_
    | with_reducible refine Goes.showEngine (Foot.le_trans (by decide +kernel) hF) ?_
    | with_reducible refine Goes.satUp (List.mem_singleton.2 (fieldName_ENG_STATUS_FAULTS _)) (known_ENG_STATUS_FAULTS _).agrees (Foot.le_trans (by decide +kernel) hF) ?_
    | with_reducible refine Goes.satUp (List.mem_singleton.2 (fieldName_ENG_STATUS_STATE _)) (known_ENG_STATUS_STATE _).agrees (Foot.le_trans (by decide +kernel) hF) ?_
    | with_reducible refine Goes.raiseDev (Foot.le_trans (by decide +kernel) hF) ?_
    | with_reducible refine Goes.wr (List.mem_singleton.2 (fieldName_ENG_STATUS_FAULTS _)) (known_ENG_STATUS_FAULTS _).agrees (Foot.le_trans (by decide +kernel) hF) ?_
    | with_reducible refine Goes.wr (List.mem_singleton.2 (fieldName_ENG_STATUS_STATE _)) (known_ENG_STATUS_STATE _).agrees (Foot.le_trans (by decide +kernel) hF) ?_
    | with_reducible refine Goes.upE (Foot.le_trans (by decide +kernel) hF) ?_
    | with_reducible refine Goes.each ?_ ?_
    | with_reducible refine Goes.abortRun (Foot.le_trans (by decide +kernel) hF) ?_
    | with_reducible refine Goes.haltEngine (Foot.le_trans (by decide +kernel) hF) ?_
    | with_reducible refine Goes.foldl ?_ ?_
    | split
    | intro _

/-- What `State.swapFrom` may change. -/
def fp_swapFrom : Foot := ⟨[.halves, .sides, .engines, .rings, .imgOp, .mgmt, .tiles, .power, .evq, .outbox], some
  [0x220018, 0x220010, 0x200100, 0x40C008, 0x40800F, 0x408008, 0x40800A, 0x408000, 0x40800C, 0x40801C, 0xE0390, 0xE0380,
  0xE0388, 0xE0210, 0xE0200, 0xE021E, 0xE0208, 0xE021F, 0xE0280, 0xE0100, 0xE0001, 0x295, 0x20006, 0x20007, 0x2001C,
  0x4000280, 0x400029D, 0x400050E, 0x400051C, 0x4000513, 0x2000D05, 0x2000D06, 0x2000D00, 0x100097]⟩
theorem Goes.swapFrom {s : State} {k : Nat} (hF : fp_swapFrom.le F = true) (hgo : Goes F s0 s) :
     Goes F s0 (State.swapFrom s k) := by
  unfold State.swapFrom
  try dsimp only
  repeat' first
    | with_reducible assumption
    | with_reducible refine Goes.showEngine (Foot.le_trans (by decide +kernel) hF) ?_
    | with_reducible refine Goes.wr (List.mem_singleton.2 (fieldName_ENG_STATUS_STATE _)) (known_ENG_STATUS_STATE _).agrees (Foot.le_trans (by decide +kernel) hF) ?_
    | with_reducible refine Goes.wr (List.mem_singleton.2 (fieldName_IMG_STATUS_CMD_BUSY)) (known_IMG_STATUS_CMD_BUSY).agrees (Foot.le_trans (by decide +kernel) hF) ?_
    | with_reducible refine Goes.wr (List.mem_singleton.2 (fieldName_IMG_STATUS_CMD_RESULT)) (known_IMG_STATUS_CMD_RESULT).agrees (Foot.le_trans (by decide +kernel) hF) ?_
    | with_reducible refine Goes.wr (List.mem_singleton.2 (fieldName_IMG_STATUS_ENG_FW_SLOT)) (known_IMG_STATUS_ENG_FW_SLOT).agrees (Foot.le_trans (by decide +kernel) hF) ?_
    | with_reducible refine Goes.each ?_ ?_
    | with_reducible refine Goes.abortRun (Foot.le_trans (by decide +kernel) hF) ?_
    | with_reducible refine Goes.off (List.mem_singleton.2 (fieldName_ENG_STATUS_STATE _)) (known_ENG_STATUS_STATE _).agrees (Foot.le_trans (by decide +kernel) hF) ?_
    | with_reducible refine Goes.off (List.mem_singleton.2 (fieldName_IMG_STATUS_CMD_BUSY)) (known_IMG_STATUS_CMD_BUSY).agrees (Foot.le_trans (by decide +kernel) hF) ?_
    | with_reducible refine Goes.off (List.mem_singleton.2 (fieldName_IMG_STATUS_CMD_RESULT)) (known_IMG_STATUS_CMD_RESULT).agrees (Foot.le_trans (by decide +kernel) hF) ?_
    | with_reducible refine Goes.off (List.mem_singleton.2 (fieldName_IMG_STATUS_ENG_FW_SLOT)) (known_IMG_STATUS_ENG_FW_SLOT).agrees (Foot.le_trans (by decide +kernel) hF) ?_
    | with_reducible refine Goes.setImgOp (Foot.le_trans (by decide +kernel) hF) ?_
    | with_reducible refine Goes.haltEngine (Foot.le_trans (by decide +kernel) hF) ?_
    | with_reducible refine Goes.deviceQuiet (Foot.le_trans (by decide +kernel) hF) ?_
    | with_reducible refine Goes.foldl ?_ ?_
    | split
    | intro _

/-- What `State.resumeRx` may change. -/
def fp_resumeRx : Foot := ⟨[.halves], some [0x220008, 0x4000418, 0x4000294, 0x4000280, 0x400029D, 0x400029E,
  0x2000104, 0x2000100]⟩
theorem Goes.resumeRx {s : State} {k : Nat} {h : Nat} (hF : fp_resumeRx.le F = true) (hgo : Goes F s0 s) :
     Goes F s0 (State.resumeRx s k h) := by
  unfold State.resumeRx
  try dsimp only
  repeat' first
    | with_reducible assumption
    | with_reducible refine Goes.requestRx (Foot.le_trans (by decide +kernel) hF) ?_
    | with_reducible refine Goes.applySet (Foot.le_trans (by decide +kernel) hF) ?_
    | with_reducible refine Goes.foldl ?_ ?_
    | split
    | intro _

/-- What `execEngineRestartDone` may change. -/
def fp_execEngineRestartDone : Foot := ⟨[.halves, .sides, .engines, .rings, .imgOp, .mgmt, .tiles, .power, .evq,
  .outbox], some [0x220008, 0x220018, 0x220010, 0x200100, 0x40C008, 0x40800F, 0x408008, 0x40800A, 0x408000, 0x40800C,
  0x40801C, 0xE0390, 0xE0380, 0xE0388, 0xE0210, 0xE0200, 0xE021E, 0xE0208, 0xE021F, 0xE0280, 0xE0100, 0xE0001, 0x295,
  0x20006, 0x20007, 0x2001C, 0x4000418, 0x4000294, 0x4000280, 0x400029D, 0x400029E, 0x400050E, 0x400051C, 0x4000513,
  0x2000104, 0x2000100, 0x2000D05, 0x2000D06, 0x2000D00, 0x100097]⟩
theorem goes_execEngineRestartDone {k : EngineId} {s : State} (hF : fp_execEngineRestartDone.le F = true) (hgo : Goes F s0 s) :
     Runs F s0 (execEngineRestartDone k s) := by
  unfold execEngineRestartDone
  try dsimp only
  repeat' first
    | with_reducible assumption
    | with_reducible refine Runs.next ?_
    | with_reducible refine Goes.showEngine (Foot.le_trans (by decide +kernel) hF) ?_
    | with_reducible refine Goes.resumeRx (Foot.le_trans (by decide +kernel) hF) ?_
    | with_reducible refine Goes.runEngine (Foot.le_trans (by decide +kernel) hF) ?_
    | with_reducible refine Goes.swapFrom (Foot.le_trans (by decide +kernel) hF) ?_
    | with_reducible refine Goes.upE (Foot.le_trans (by decide +kernel) hF) ?_
    | with_reducible refine Goes.each ?_ ?_
    | with_reducible refine Goes.foldl ?_ ?_
    | split
    | intro _

/-- What `State.setPermits` may change. -/
def fp_setPermits : Foot := ⟨[.engines, .rings, .tiles, .power, .evq], some [0x40C008, 0x410003, 0x410000, 0x410002,
  0x410001, 0x40800F, 0x408008, 0x40800A, 0x408000, 0x40800C]⟩
theorem Goes.setPermits {s : State} {k : Nat} {value : Nat} (hF : fp_setPermits.le F = true) (hgo : Goes F s0 s) :
     Goes F s0 (State.setPermits s k value) := by
  unfold State.setPermits
  try dsimp only
  repeat' first
    | with_reducible assumption
    | with_reducible refine Goes.stopRunning (Foot.le_trans (by decide +kernel) hF) ?_
    | with_reducible refine Goes.endQueued (Foot.le_trans (by decide +kernel) hF) ?_
    | with_reducible refine Goes.storeWord (names_ENG_PERMIT_fields _) (fun f hf => (knowns_ENG_PERMIT _ f hf).agrees) (Foot.le_trans (by decide +kernel) hF) ?_
    | with_reducible refine Goes.foldl ?_ ?_
    | split
    | intro _

/-- What `execEngPermitWrite` may change. -/
def fp_execEngPermitWrite : Foot := ⟨[.engines, .rings, .tiles, .power, .evq], some [0x40C008, 0x410003, 0x410000,
  0x410002, 0x410001, 0x40800F, 0x408008, 0x40800A, 0x408000, 0x40800C]⟩
theorem goes_execEngPermitWrite {k : SliceId} {value : Nat} {s : State} (hF : fp_execEngPermitWrite.le F = true) (hgo : Goes F s0 s) :
     Runs F s0 (execEngPermitWrite k value s) := by
  unfold execEngPermitWrite
  try dsimp only
  repeat' first
    | with_reducible assumption
    | with_reducible refine Runs.next ?_
    | with_reducible refine Goes.setPermits (Foot.le_trans (by decide +kernel) hF) ?_
    | with_reducible refine Goes.hostWrite (Foot.le_trans (by decide +kernel) hF) ?_ ?_
    | with_reducible refine Goes.foldl ?_ ?_
    | split
    | intro _

/-- What `execSliceJobsOffWrite` may change. -/
def fp_execSliceJobsOffWrite : Foot := ⟨[.engines], some [0x40001F, 0x40800F, 0x408008, 0x40800A, 0x408000, 0x40800C]⟩
theorem goes_execSliceJobsOffWrite {v : Bool} {s : State} (hF : fp_execSliceJobsOffWrite.le F = true) (hgo : Goes F s0 s) :
     Runs F s0 (execSliceJobsOffWrite v s) := by
  unfold execSliceJobsOffWrite
  try dsimp only
  repeat' first
    | with_reducible assumption
    | with_reducible refine Runs.next ?_
    | with_reducible refine Goes.stopRunning (Foot.le_trans (by decide +kernel) hF) ?_
    | with_reducible refine Goes.on (List.mem_singleton.2 (fieldName_ENG_CTRL_SLICE_JOBS_OFF)) (known_ENG_CTRL_SLICE_JOBS_OFF).agrees (Foot.le_trans (by decide +kernel) hF) ?_
    | with_reducible refine Goes.off (List.mem_singleton.2 (fieldName_ENG_CTRL_SLICE_JOBS_OFF)) (known_ENG_CTRL_SLICE_JOBS_OFF).agrees (Foot.le_trans (by decide +kernel) hF) ?_
    | with_reducible refine Goes.hostWrite (Foot.le_trans (by decide +kernel) hF) ?_ ?_
    | with_reducible refine Goes.foldl ?_ ?_
    | split
    | intro _

/-- What `execJobSubmit` may change. -/
def fp_execJobSubmit : Foot := ⟨[.engines, .rings, .tags, .mgmt, .power, .evq, .outbox], some [0x20020210]⟩
theorem goes_execJobSubmit {k : SliceId} {i : RingId} {s : State} (hF : fp_execJobSubmit.le F = true) (hgo : Goes F s0 s) :
     Runs F s0 (execJobSubmit k i s) := by
  unfold execJobSubmit
  try dsimp only
  repeat' first
    | with_reducible assumption
    | with_reducible refine Runs.next ?_
    | with_reducible refine Goes.reply (Foot.le_trans (by decide +kernel) hF) ?_
    | with_reducible refine Goes.command (Foot.le_trans (by decide +kernel) hF) ?_ ?_
    | with_reducible refine Goes.upE (Foot.le_trans (by decide +kernel) hF) ?_
    | with_reducible refine Goes.foldl ?_ ?_
    | split
    | intro _

end Sys2Proof.Machine
end

