-- ==== Sys2Proof/Laws/OnSlices.lean ====
section
/-! SUPPORT. What each operation of `Machine/Slices.lean` may change: one lemma for each. -/

set_option linter.all false
set_option Elab.async false

namespace Sys2Proof.Machine

variable {F : Foot} {s0 : State}

/-- What `State.sliceResult` may change. -/
def fp_sliceResult : Foot := ⟨[], some [0x600098]⟩
theorem Goes.sliceResult {s : State} {k : Nat} {n : Nat} (hF : fp_sliceResult.le F = true) (hgo : Goes F s0 s) :
     Goes F s0 (State.sliceResult s k n) := by
  unfold State.sliceResult
  try dsimp only
  repeat' first
    | with_reducible assumption
    | with_reducible refine Goes.wr (List.mem_singleton.2 (fieldName_SLC_STATUS_RESULT _)) (known_SLC_STATUS_RESULT _).agrees (Foot.le_trans (by decide +kernel) hF) ?_
    | with_reducible refine Goes.foldl ?_ ?_
    | split
    | intro _

/-- What `State.createSlice` may change. -/
def fp_createSlice : Foot := ⟨[.slices, .rings], some [0x410003, 0x410000, 0x410002, 0x410001, 0x20020000, 0x2002011F,
  0x2002011C, 0x2002011D, 0x2002011E, 0x20020114, 0x20020100, 0x20020210, 0x20020200, 0x20020280, 0x2002029B,
  0x2002029C, 0x600100, 0x20000080, 0x20000090, 0x2000009F, 0x20000108, 0x20000100, 0x600200, 0x600212, 0x600098,
  0x60009C, 0x600180]⟩
theorem Goes.createSlice {s : State} {k : Nat} (hF : fp_createSlice.le F = true) (hgo : Goes F s0 s) :
     Goes F s0 (State.createSlice s k) := by
  unfold State.createSlice
  try dsimp only
  repeat' first
    | with_reducible assumption
    | with_reducible refine Goes.sliceResult (Foot.le_trans (by decide +kernel) hF) ?_
    | with_reducible refine Goes.wr (List.mem_singleton.2 (fieldName_SLC_RINGS_COUNT _)) (known_SLC_RINGS_COUNT _).agrees (Foot.le_trans (by decide +kernel) hF) ?_
    | with_reducible refine Goes.wr (List.mem_singleton.2 (fieldName_SLC_SHARE_GRANULES _)) (known_SLC_SHARE_GRANULES _).agrees (Foot.le_trans (by decide +kernel) hF) ?_
    | with_reducible refine Goes.wr (List.mem_singleton.2 (fieldName_SLC_SHARE_TOKENS _)) (known_SLC_SHARE_TOKENS _).agrees (Foot.le_trans (by decide +kernel) hF) ?_
    | with_reducible refine Goes.wr (List.mem_singleton.2 (fieldName_SLC_VECTORS_COUNT _)) (known_SLC_VECTORS_COUNT _).agrees (Foot.le_trans (by decide +kernel) hF) ?_
    | with_reducible refine Goes.activate (Foot.le_trans (by decide +kernel) hF) ?_
    | with_reducible refine Goes.foldl ?_ ?_
    | split
    | intro _

/-- What `execCreate` may change. -/
def fp_execCreate : Foot := ⟨[.slices, .rings, .tim, .power, .now, .count, .replicas, .freeCtr], some [0x8009D,
  0x8009C, 0x8009F, 0x410003, 0x410000, 0x410002, 0x410001, 0x6001A, 0x6001C, 0x6000F, 0x60010, 0x60284, 0x60290,
  0x60285, 0x60282, 0x60280, 0x60283, 0x60288, 0x60281, 0x6030E, 0x60300, 0x20020000, 0x2002011F, 0x2002011C,
  0x2002011D, 0x2002011E, 0x20020114, 0x20020100, 0x20020210, 0x20020200, 0x20020280, 0x2002029B, 0x2002029C, 0x600100,
  0x20000080, 0x20000090, 0x2000009F, 0x20000108, 0x20000100, 0x600200, 0x600212, 0x600098, 0x60009C, 0x600180]⟩
theorem goes_execCreate {k : SliceId} {s : State} (hF : fp_execCreate.le F = true) (hgo : Goes F s0 s) :
     Runs F s0 (execCreate k s) := by
  unfold execCreate
  try dsimp only
  repeat' first
    | with_reducible assumption
    | with_reducible refine Runs.next ?_
    | with_reducible refine Goes.createSlice (Foot.le_trans (by decide +kernel) hF) ?_
    | with_reducible refine Goes.hostCmd (Foot.le_trans (by decide +kernel) hF) ?_ ?_
    | with_reducible refine Goes.foldl ?_ ?_
    | split
    | intro _

/-- What `State.resetSlice` may change. -/
def fp_resetSlice : Foot := ⟨[.engines, .rings, .tags, .imgOp, .mgmt, .winnows, .windows, .tiles, .power, .evq,
  .staged, .outbox], some [0x40C008, 0x40800F, 0x408008, 0x40800A, 0x408000, 0x40800C, 0x280, 0x295, 0x20006, 0x20007,
  0x20020000, 0x2002011F, 0x2002011C, 0x2002011D, 0x2002011E, 0x20020114, 0x20020100, 0x20020210, 0x20020200,
  0x20020280, 0x2002029B, 0x2002029C, 0x20000080, 0x20000090, 0x2000009F, 0x20000108, 0x20000100, 0x600090, 0x600080,
  0x60009C, 0x20120180, 0x20120080, 0x20120100, 0x20120000, 0x2012001B, 0x2012001A, 0x20120019, 0x2012001C, 0x102001F,
  0x1020017, 0x1020013, 0x102000F, 0x1020007, 0x1020003]⟩
theorem Goes.resetSlice {s : State} {k : Nat} (hF : fp_resetSlice.le F = true) (hgo : Goes F s0 s) :
     Goes F s0 (State.resetSlice s k) := by
  unfold State.resetSlice
  try dsimp only
  repeat' first
    | with_reducible assumption
    | with_reducible refine Goes.releaseJobs (Foot.le_trans (by decide +kernel) hF) ?_
    | with_reducible refine Goes.wr (List.mem_singleton.2 (fieldName_SLC_STATUS_STATE _)) (known_SLC_STATUS_STATE _).agrees (Foot.le_trans (by decide +kernel) hF) ?_
    | with_reducible refine Goes.quietSlice (Foot.le_trans (by decide +kernel) hF) ?_
    | with_reducible refine Goes.foldl ?_ ?_
    | split
    | intro _

/-- What `State.askReset` may change. -/
def fp_askReset : Foot := ⟨[.engines, .rings, .tags, .imgOp, .mgmt, .winnows, .windows, .tiles, .power, .evq, .staged,
  .outbox], some [0x40C008, 0x40800F, 0x408008, 0x40800A, 0x408000, 0x40800C, 0x280, 0x295, 0x20006, 0x20007,
  0x20020000, 0x2002011F, 0x2002011C, 0x2002011D, 0x2002011E, 0x20020114, 0x20020100, 0x20020210, 0x20020200,
  0x20020280, 0x2002029B, 0x2002029C, 0x20000080, 0x20000090, 0x2000009F, 0x20000108, 0x20000100, 0x600090, 0x600098,
  0x600080, 0x60009C, 0x20120180, 0x20120080, 0x20120100, 0x20120000, 0x2012001B, 0x2012001A, 0x20120019, 0x2012001C,
  0x102001F, 0x1020017, 0x1020013, 0x102000F, 0x1020007, 0x1020003]⟩
theorem Goes.askReset {s : State} {k : Nat} (hF : fp_askReset.le F = true) (hgo : Goes F s0 s) :
     Goes F s0 (State.askReset s k) := by
  unfold State.askReset
  try dsimp only
  repeat' first
    | with_reducible assumption
    | with_reducible refine Goes.sliceResult (Foot.le_trans (by decide +kernel) hF) ?_
    | with_reducible refine Goes.resetSlice (Foot.le_trans (by decide +kernel) hF) ?_
    | with_reducible refine Goes.foldl ?_ ?_
    | split
    | intro _

/-- What `execSliceReset` may change. -/
def fp_execSliceReset : Foot := ⟨[.engines, .rings, .tags, .imgOp, .mgmt, .winnows, .windows, .tim, .tiles, .power,
  .evq, .staged, .now, .count, .replicas, .outbox, .freeCtr], some [0x8009D, 0x8009C, 0x8009F, 0x40C008, 0x40800F,
  0x408008, 0x40800A, 0x408000, 0x40800C, 0x280, 0x295, 0x20006, 0x20007, 0x6001A, 0x6001C, 0x6000F, 0x60010, 0x60284,
  0x60290, 0x60285, 0x60282, 0x60280, 0x60283, 0x60288, 0x60281, 0x6030E, 0x60300, 0x20020000, 0x2002011F, 0x2002011C,
  0x2002011D, 0x2002011E, 0x20020114, 0x20020100, 0x20020210, 0x20020200, 0x20020280, 0x2002029B, 0x2002029C,
  0x20000080, 0x20000090, 0x2000009F, 0x20000108, 0x20000100, 0x600090, 0x600098, 0x600080, 0x60009C, 0x20120180,
  0x20120080, 0x20120100, 0x20120000, 0x2012001B, 0x2012001A, 0x20120019, 0x2012001C, 0x102001F, 0x1020017, 0x1020013,
  0x102000F, 0x1020007, 0x1020003]⟩
theorem goes_execSliceReset {k : SliceId} {s : State} (hF : fp_execSliceReset.le F = true) (hgo : Goes F s0 s) :
     Runs F s0 (execSliceReset k s) := by
  unfold execSliceReset
  try dsimp only
  repeat' first
    | with_reducible assumption
    | with_reducible refine Runs.next ?_
    | with_reducible refine Goes.hostCmd (Foot.le_trans (by decide +kernel) hF) ?_ ?_
    | with_reducible refine Goes.askReset (Foot.le_trans (by decide +kernel) hF) ?_
    | with_reducible refine Goes.foldl ?_ ?_
    | split
    | intro _

/-- What `State.selfReset` may change. -/
def fp_selfReset : Foot := ⟨[.engines, .rings, .tags, .imgOp, .mgmt, .winnows, .windows, .tiles, .power, .evq,
  .staged, .outbox], some [0x40C008, 0x40800F, 0x408008, 0x40800A, 0x408000, 0x40800C, 0x280, 0x295, 0x20006, 0x20007,
  0x20020000, 0x2002011F, 0x2002011C, 0x2002011D, 0x2002011E, 0x20020114, 0x20020100, 0x20020210, 0x20020200,
  0x20020280, 0x2002029B, 0x2002029C, 0x20000080, 0x20000090, 0x2000009F, 0x20000108, 0x20000100, 0x600090, 0x600080,
  0x60009C, 0x20120180, 0x20120080, 0x20120100, 0x20120000, 0x2012001B, 0x2012001A, 0x20120019, 0x2012001C, 0x102001F,
  0x1020017, 0x1020013, 0x102000F, 0x1020007, 0x1020003]⟩
theorem Goes.selfReset {s : State} {k : Nat} (hF : fp_selfReset.le F = true) (hgo : Goes F s0 s) :
     Goes F s0 (State.selfReset s k) := by
  unfold State.selfReset
  try dsimp only
  repeat' first
    | with_reducible assumption
    | with_reducible refine Goes.resetSlice (Foot.le_trans (by decide +kernel) hF) ?_
    | with_reducible refine Goes.foldl ?_ ?_
    | split
    | intro _

/-- What `execSelfReset` may change. -/
def fp_execSelfReset : Foot := ⟨[.engines, .rings, .tags, .imgOp, .mgmt, .winnows, .windows, .tim, .tiles, .power,
  .evq, .staged, .now, .count, .replicas, .outbox, .freeCtr], some [0x8009D, 0x8009C, 0x8009F, 0x40C008, 0x40800F,
  0x408008, 0x40800A, 0x408000, 0x40800C, 0x280, 0x295, 0x20006, 0x20007, 0x6001A, 0x6001C, 0x6000F, 0x60010, 0x60284,
  0x60290, 0x60285, 0x60282, 0x60280, 0x60283, 0x60288, 0x60281, 0x6030E, 0x60300, 0x20020000, 0x2002011F, 0x2002011C,
  0x2002011D, 0x2002011E, 0x20020114, 0x20020100, 0x20020210, 0x20020200, 0x20020280, 0x2002029B, 0x2002029C,
  0x20000080, 0x20000090, 0x2000009F, 0x20000108, 0x20000100, 0x600090, 0x600080, 0x60009C, 0x20120180, 0x20120080,
  0x20120100, 0x20120000, 0x2012001B, 0x2012001A, 0x20120019, 0x2012001C, 0x102001F, 0x1020017, 0x1020013, 0x102000F,
  0x1020007, 0x1020003]⟩
theorem goes_execSelfReset {k : SliceId} {s : State} (hF : fp_execSelfReset.le F = true) (hgo : Goes F s0 s) :
     Runs F s0 (execSelfReset k s) := by
  unfold execSelfReset
  try dsimp only
  repeat' first
    | with_reducible assumption
    | with_reducible refine Runs.next ?_
    | with_reducible refine Goes.selfReset (Foot.le_trans (by decide +kernel) hF) ?_
    | with_reducible refine Goes.hostCmd (Foot.le_trans (by decide +kernel) hF) ?_ ?_
    | with_reducible refine Goes.foldl ?_ ?_
    | split
    | intro _

/-- What `State.destroySlice` may change. -/
def fp_destroySlice : Foot := ⟨[.engines, .rings, .tags, .imgOp, .mgmt, .winnows, .windows, .tiles, .power, .evq,
  .staged, .outbox], some [0x40C008, 0x40800F, 0x408008, 0x40800A, 0x408000, 0x40800C, 0x280, 0x295, 0x20006, 0x20007,
  0x20020000, 0x2002011F, 0x2002011C, 0x2002011D, 0x2002011E, 0x20020114, 0x20020100, 0x20020210, 0x20020200,
  0x20020280, 0x2002029B, 0x2002029C, 0x20000080, 0x20000090, 0x2000009F, 0x20000108, 0x20000100, 0x60008E, 0x600090,
  0x600080, 0x60009C, 0x20120180, 0x20120080, 0x20120100, 0x20120000, 0x2012001B, 0x2012001A, 0x20120019, 0x2012001C,
  0x102001F, 0x1020017, 0x1020013, 0x102000F, 0x1020007, 0x1020003]⟩
theorem Goes.destroySlice {s : State} {k : Nat} (hF : fp_destroySlice.le F = true) (hgo : Goes F s0 s) :
     Goes F s0 (State.destroySlice s k) := by
  unfold State.destroySlice
  try dsimp only
  repeat' first
    | with_reducible assumption
    | with_reducible refine Goes.releaseJobs (Foot.le_trans (by decide +kernel) hF) ?_
    | with_reducible refine Goes.wr (List.mem_singleton.2 (fieldName_SLC_STATUS_DESTROY_PENDING _)) (known_SLC_STATUS_DESTROY_PENDING _).agrees (Foot.le_trans (by decide +kernel) hF) ?_
    | with_reducible refine Goes.wr (List.mem_singleton.2 (fieldName_SLC_STATUS_STATE _)) (known_SLC_STATUS_STATE _).agrees (Foot.le_trans (by decide +kernel) hF) ?_
    | with_reducible refine Goes.off (List.mem_singleton.2 (fieldName_SLC_STATUS_DESTROY_PENDING _)) (known_SLC_STATUS_DESTROY_PENDING _).agrees (Foot.le_trans (by decide +kernel) hF) ?_
    | with_reducible refine Goes.off (List.mem_singleton.2 (fieldName_SLC_STATUS_STATE _)) (known_SLC_STATUS_STATE _).agrees (Foot.le_trans (by decide +kernel) hF) ?_
    | with_reducible refine Goes.quietSlice (Foot.le_trans (by decide +kernel) hF) ?_
    | with_reducible refine Goes.foldl ?_ ?_
    | split
    | intro _

/-- What `State.askDestroy` may change. -/
def fp_askDestroy : Foot := ⟨[.engines, .rings, .tags, .imgOp, .mgmt, .winnows, .windows, .tiles, .power, .evq,
  .staged, .outbox], some [0x40C008, 0x40800F, 0x408008, 0x40800A, 0x408000, 0x40800C, 0x280, 0x295, 0x20006, 0x20007,
  0x20020000, 0x2002011F, 0x2002011C, 0x2002011D, 0x2002011E, 0x20020114, 0x20020100, 0x20020210, 0x20020200,
  0x20020280, 0x2002029B, 0x2002029C, 0x20000080, 0x20000090, 0x2000009F, 0x20000108, 0x20000100, 0x60008E, 0x600090,
  0x600098, 0x600080, 0x60009C, 0x20120180, 0x20120080, 0x20120100, 0x20120000, 0x2012001B, 0x2012001A, 0x20120019,
  0x2012001C, 0x102001F, 0x1020017, 0x1020013, 0x102000F, 0x1020007, 0x1020003]⟩
theorem Goes.askDestroy {s : State} {k : Nat} (hF : fp_askDestroy.le F = true) (hgo : Goes F s0 s) :
     Goes F s0 (State.askDestroy s k) := by
  unfold State.askDestroy
  try dsimp only
  repeat' first
    | with_reducible assumption
    | with_reducible refine Goes.destroySlice (Foot.le_trans (by decide +kernel) hF) ?_
    | with_reducible refine Goes.sliceResult (Foot.le_trans (by decide +kernel) hF) ?_
    | with_reducible refine Goes.on (List.mem_singleton.2 (fieldName_SLC_STATUS_DESTROY_PENDING _)) (known_SLC_STATUS_DESTROY_PENDING _).agrees (Foot.le_trans (by decide +kernel) hF) ?_
    | with_reducible refine Goes.foldl ?_ ?_
    | split
    | intro _

/-- What `execDestroy` may change. -/
def fp_execDestroy : Foot := ⟨[.engines, .rings, .tags, .imgOp, .mgmt, .winnows, .windows, .tim, .tiles, .power, .evq,
  .staged, .now, .count, .replicas, .outbox, .freeCtr], some [0x8009D, 0x8009C, 0x8009F, 0x40C008, 0x40800F, 0x408008,
  0x40800A, 0x408000, 0x40800C, 0x280, 0x295, 0x20006, 0x20007, 0x6001A, 0x6001C, 0x6000F, 0x60010, 0x60284, 0x60290,
  0x60285, 0x60282, 0x60280, 0x60283, 0x60288, 0x60281, 0x6030E, 0x60300, 0x20020000, 0x2002011F, 0x2002011C,
  0x2002011D, 0x2002011E, 0x20020114, 0x20020100, 0x20020210, 0x20020200, 0x20020280, 0x2002029B, 0x2002029C,
  0x20000080, 0x20000090, 0x2000009F, 0x20000108, 0x20000100, 0x60008E, 0x600090, 0x600098, 0x600080, 0x60009C,
  0x20120180, 0x20120080, 0x20120100, 0x20120000, 0x2012001B, 0x2012001A, 0x20120019, 0x2012001C, 0x102001F, 0x1020017,
  0x1020013, 0x102000F, 0x1020007, 0x1020003]⟩
theorem goes_execDestroy {k : SliceId} {s : State} (hF : fp_execDestroy.le F = true) (hgo : Goes F s0 s) :
     Runs F s0 (execDestroy k s) := by
  unfold execDestroy
  try dsimp only
  repeat' first
    | with_reducible assumption
    | with_reducible refine Runs.next ?_
    | with_reducible refine Goes.askDestroy (Foot.le_trans (by decide +kernel) hF) ?_
    | with_reducible refine Goes.hostCmd (Foot.le_trans (by decide +kernel) hF) ?_ ?_
    | with_reducible refine Goes.foldl ?_ ?_
    | split
    | intro _

/-- What `execResetDone` may change. -/
def fp_execResetDone : Foot := ⟨[.engines, .rings, .tags, .imgOp, .mgmt, .winnows, .windows, .tiles, .power, .evq,
  .staged, .outbox], some [0x40C008, 0x40800F, 0x408008, 0x40800A, 0x408000, 0x40800C, 0x280, 0x295, 0x20006, 0x20007,
  0x20020000, 0x2002011F, 0x2002011C, 0x2002011D, 0x2002011E, 0x20020114, 0x20020100, 0x20020210, 0x20020200,
  0x20020280, 0x2002029B, 0x2002029C, 0x20000080, 0x20000090, 0x2000009F, 0x20000108, 0x20000100, 0x2000011F, 0x60008E,
  0x600090, 0x60008F, 0x600080, 0x60009C, 0x20120180, 0x20120080, 0x20120100, 0x20120000, 0x2012001B, 0x2012001A,
  0x20120019, 0x2012001C, 0x102001F, 0x1020017, 0x1020013, 0x102000F, 0x1020007, 0x1020003]⟩
theorem goes_execResetDone {k : SliceId} {s : State} (hF : fp_execResetDone.le F = true) (hgo : Goes F s0 s) :
     Runs F s0 (execResetDone k s) := by
  unfold execResetDone
  try dsimp only
  repeat' first
    | with_reducible assumption
    | with_reducible refine Runs.next ?_
    | with_reducible refine Goes.destroySlice (Foot.le_trans (by decide +kernel) hF) ?_
    | with_reducible refine Goes.sliceEvent (Foot.le_trans (by decide +kernel) hF) ?_
    | with_reducible refine Goes.on (List.mem_singleton.2 (fieldName_SLC_SELF_STATUS_RESET_DONE _)) (known_SLC_SELF_STATUS_RESET_DONE _).agrees (Foot.le_trans (by decide +kernel) hF) ?_
    | with_reducible refine Goes.on (List.mem_singleton.2 (fieldName_SLC_STATUS_RESET_DONE _)) (known_SLC_STATUS_RESET_DONE _).agrees (Foot.le_trans (by decide +kernel) hF) ?_
    | with_reducible refine Goes.on (List.mem_singleton.2 (fieldName_SLC_STATUS_STATE _)) (known_SLC_STATUS_STATE _).agrees (Foot.le_trans (by decide +kernel) hF) ?_
    | with_reducible refine Goes.wr (List.mem_singleton.2 (fieldName_SLC_SELF_STATUS_RESET_DONE _)) (known_SLC_SELF_STATUS_RESET_DONE _).agrees (Foot.le_trans (by decide +kernel) hF) ?_
    | with_reducible refine Goes.wr (List.mem_singleton.2 (fieldName_SLC_STATUS_RESET_DONE _)) (known_SLC_STATUS_RESET_DONE _).agrees (Foot.le_trans (by decide +kernel) hF) ?_
    | with_reducible refine Goes.wr (List.mem_singleton.2 (fieldName_SLC_STATUS_STATE _)) (known_SLC_STATUS_STATE _).agrees (Foot.le_trans (by decide +kernel) hF) ?_
    | with_reducible refine Goes.foldl ?_ ?_
    | split
    | intro _

/-- What `execDestroyDone` may change. -/
def fp_execDestroyDone : Foot := ⟨[.slices, .rings, .mgmt, .evq], some [0x410003, 0x410000, 0x410002, 0x410001,
  0x20020000, 0x2002011F, 0x2002011C, 0x2002011D, 0x2002011E, 0x20020114, 0x20020100, 0x20020210, 0x20020200,
  0x20020280, 0x2002029B, 0x2002029C, 0x600000, 0x600280, 0x600110, 0x600100, 0x20000080, 0x20000090, 0x2000009F,
  0x20000108, 0x20000100, 0x600200, 0x600212, 0x60008E, 0x600090, 0x60009C, 0x600190, 0x600180]⟩
theorem goes_execDestroyDone {k : SliceId} {s : State} (hF : fp_execDestroyDone.le F = true) (hgo : Goes F s0 s) :
     Runs F s0 (execDestroyDone k s) := by
  unfold execDestroyDone
  try dsimp only
  repeat' first
    | with_reducible assumption
    | with_reducible refine Runs.next ?_
    | with_reducible refine Goes.freeSlice (Foot.le_trans (by decide +kernel) hF) ?_
    | with_reducible refine Goes.foldl ?_ ?_
    | split
    | intro _

/-- What `State.shareWrite` may change. -/
def fp_shareWrite : Foot := ⟨[.evq], some [0x600110, 0x600100, 0x600200, 0x600212, 0x600190, 0x600180]⟩
theorem Goes.shareWrite {s : State} {k : Nat} {reg : ShareReg} {value : Nat} (hF : fp_shareWrite.le F = true) (hgo : Goes F s0 s) :
     Goes F s0 (State.shareWrite s k reg value) := by
  unfold State.shareWrite
  try dsimp only
  repeat' first
    | with_reducible assumption
    | with_reducible refine Goes.shareChanged (Foot.le_trans (by decide +kernel) hF) ?_
    | with_reducible refine Goes.wr (List.mem_singleton.2 (fieldName_SLC_RINGS_COUNT _)) (known_SLC_RINGS_COUNT _).agrees (Foot.le_trans (by decide +kernel) hF) ?_
    | with_reducible refine Goes.wr (List.mem_singleton.2 (fieldName_SLC_SHARE_GRANULES _)) (known_SLC_SHARE_GRANULES _).agrees (Foot.le_trans (by decide +kernel) hF) ?_
    | with_reducible refine Goes.wr (List.mem_singleton.2 (fieldName_SLC_SHARE_TOKENS _)) (known_SLC_SHARE_TOKENS _).agrees (Foot.le_trans (by decide +kernel) hF) ?_
    | with_reducible refine Goes.wr (List.mem_singleton.2 (fieldName_SLC_VECTORS_COUNT _)) (known_SLC_VECTORS_COUNT _).agrees (Foot.le_trans (by decide +kernel) hF) ?_
    | with_reducible refine Goes.storeWord (names_SLC_RINGS_fields _) (fun f hf => (knowns_SLC_RINGS _ f hf).agrees) (Foot.le_trans (by decide +kernel) hF) ?_
    | with_reducible refine Goes.storeWord (names_SLC_SHARE_fields _) (fun f hf => (knowns_SLC_SHARE _ f hf).agrees) (Foot.le_trans (by decide +kernel) hF) ?_
    | with_reducible refine Goes.storeWord (names_SLC_VECTORS_fields _) (fun f hf => (knowns_SLC_VECTORS _ f hf).agrees) (Foot.le_trans (by decide +kernel) hF) ?_
    | with_reducible refine Goes.foldl ?_ ?_
    | split
    | intro _

/-- What `execShareWrite` may change. -/
def fp_execShareWrite : Foot := ⟨[.evq], some [0x600110, 0x600100, 0x600200, 0x600212, 0x600190, 0x600180]⟩
theorem goes_execShareWrite {k : SliceId} {reg : ShareReg} {value : Nat} {s : State} (hF : fp_execShareWrite.le F = true) (hgo : Goes F s0 s) :
     Runs F s0 (execShareWrite k reg value s) := by
  unfold execShareWrite
  try dsimp only
  repeat' first
    | with_reducible assumption
    | with_reducible refine Runs.next ?_
    | with_reducible refine Goes.hostWrite (Foot.le_trans (by decide +kernel) hF) ?_ ?_
    | with_reducible refine Goes.shareWrite (Foot.le_trans (by decide +kernel) hF) ?_
    | with_reducible refine Goes.foldl ?_ ?_
    | split
    | intro _

/-- What `State.setVisible` may change. -/
def fp_setVisible : Foot := ⟨[.engines, .rings, .winnows, .tiles, .power, .evq], some [0x40C008, 0x40800F, 0x408008,
  0x40800A, 0x408000, 0x40800C, 0x600280, 0x102001F, 0x1020017, 0x1020013, 0x102000F, 0x1020007, 0x1020003]⟩
theorem Goes.setVisible {s : State} {k : Nat} {hi : Nat} {value : Nat} (hF : fp_setVisible.le F = true) (hgo : Goes F s0 s) :
     Goes F s0 (State.setVisible s k hi value) := by
  unfold State.setVisible
  try dsimp only
  repeat' first
    | with_reducible assumption
    | with_reducible refine Goes.stopRunning (Foot.le_trans (by decide +kernel) hF) ?_
    | with_reducible refine Goes.wr (List.mem_singleton.2 (fieldName_SLC_PORTS_PORTS _ _)) (known_SLC_PORTS_PORTS _ _).agrees (Foot.le_trans (by decide +kernel) hF) ?_
    | with_reducible refine Goes.endQueued (Foot.le_trans (by decide +kernel) hF) ?_
    | with_reducible refine Goes.releaseOwned (Foot.le_trans (by decide +kernel) hF) ?_
    | with_reducible refine Goes.foldl ?_ ?_
    | split
    | intro _

/-- What `execVisibilityRemove` may change. -/
def fp_execVisibilityRemove : Foot := ⟨[.engines, .rings, .winnows, .tiles, .power, .evq], some [0x40C008, 0x40800F,
  0x408008, 0x40800A, 0x408000, 0x40800C, 0x600280, 0x102001F, 0x1020017, 0x1020013, 0x102000F, 0x1020007, 0x1020003]⟩
theorem goes_execVisibilityRemove {k : SliceId} {hi : Bool} {value : Nat} {s : State} (hF : fp_execVisibilityRemove.le F = true) (hgo : Goes F s0 s) :
     Runs F s0 (execVisibilityRemove k hi value s) := by
  unfold execVisibilityRemove
  try dsimp only
  repeat' first
    | with_reducible assumption
    | with_reducible refine Runs.next ?_
    | with_reducible refine Goes.setVisible (Foot.le_trans (by decide +kernel) hF) ?_
    | with_reducible refine Goes.hostWrite (Foot.le_trans (by decide +kernel) hF) ?_ ?_
    | with_reducible refine Goes.foldl ?_ ?_
    | split
    | intro _

/-- What `State.setPasid` may change. -/
def fp_setPasid : Foot := ⟨[.engines, .rings, .tags, .imgOp, .mgmt, .tiles, .power, .evq, .staged, .outbox], some
  [0x40C008, 0x40800F, 0x408008, 0x40800A, 0x408000, 0x40800C, 0x280, 0x295, 0x20006, 0x20007, 0x20020200, 0x2002029B,
  0x2002029C, 0x20000108, 0x600080]⟩
theorem Goes.setPasid {s : State} {v : Bool} (hF : fp_setPasid.le F = true) (hgo : Goes F s0 s) :
     Goes F s0 (State.setPasid s v) := by
  unfold State.setPasid
  try dsimp only
  repeat' first
    | with_reducible assumption
    | with_reducible refine Goes.upM (Foot.le_trans (by decide +kernel) hF) (fun _ h => h) ?_
    | with_reducible refine Goes.upM (Foot.le_trans (by decide +kernel) hF) ?_ ?_
    | with_reducible refine Goes.resume (Foot.le_trans (by decide +kernel) hF) ?_
    | with_reducible refine Goes.releaseJobs (Foot.le_trans (by decide +kernel) hF) ?_
    | with_reducible refine Goes.voidReads (Foot.le_trans (by decide +kernel) hF) ?_
    | with_reducible refine Goes.foldl ?_ ?_
    | exact fun _ h => Tab.wf_set h _ _
    | exact fun _ h => Tab.wf_erase h _
    | exact fun _ h => Tab.wf_empty
    | split
    | intro _

/-- What `execPasidEnableChange` may change. -/
def fp_execPasidEnableChange : Foot := ⟨[.engines, .rings, .tags, .imgOp, .mgmt, .tiles, .power, .evq, .staged,
  .outbox], some [0x40C008, 0x40800F, 0x408008, 0x40800A, 0x408000, 0x40800C, 0x280, 0x295, 0x20006, 0x20007,
  0x20020200, 0x2002029B, 0x2002029C, 0x20000108, 0x600080]⟩
theorem goes_execPasidEnableChange {v : Bool} {s : State} (hF : fp_execPasidEnableChange.le F = true) (hgo : Goes F s0 s) :
     Runs F s0 (execPasidEnableChange v s) := by
  unfold execPasidEnableChange
  try dsimp only
  repeat' first
    | with_reducible assumption
    | with_reducible refine Runs.next ?_
    | with_reducible refine Goes.configAsk (Foot.le_trans (by decide +kernel) hF) ?_ ?_
    | with_reducible refine Goes.setPasid (Foot.le_trans (by decide +kernel) hF) ?_
    | with_reducible refine Goes.foldl ?_ ?_
    | split
    | intro _

/-- What `State.ringVector` may change. -/
def fp_ringVector : Foot := ⟨[], some [0x2002011C, 0x20020100]⟩
theorem Goes.ringVector {s : State} {k : Nat} {i : Nat} {ctrl : Nat} (hF : fp_ringVector.le F = true) (hgo : Goes F s0 s) :
     Goes F s0 (State.ringVector s k i ctrl) := by
  unfold State.ringVector
  try dsimp only
  repeat' first
    | with_reducible assumption
    | with_reducible refine Goes.wr (List.mem_singleton.2 (fieldName_RNG_CTRL_INT_EN _ _)) (known_RNG_CTRL_INT_EN _ _).agrees (Foot.le_trans (by decide +kernel) hF) ?_
    | with_reducible refine Goes.wr (List.mem_singleton.2 (fieldName_RNG_CTRL_VECTOR _ _)) (known_RNG_CTRL_VECTOR _ _).agrees (Foot.le_trans (by decide +kernel) hF) ?_
    | with_reducible refine Goes.foldl ?_ ?_
    | split
    | intro _

/-- What `State.ringShape` may change. -/
def fp_ringShape : Foot := ⟨[], some [0x2002011D, 0x20020114]⟩
theorem Goes.ringShape {s : State} {k : Nat} {i : Nat} {ctrl : Nat} (hF : fp_ringShape.le F = true) (hgo : Goes F s0 s) :
     Goes F s0 (State.ringShape s k i ctrl) := by
  unfold State.ringShape
  try dsimp only
  repeat' first
    | with_reducible assumption
    | with_reducible refine Goes.wr (List.mem_singleton.2 (fieldName_RNG_CTRL_KIND _ _)) (known_RNG_CTRL_KIND _ _).agrees (Foot.le_trans (by decide +kernel) hF) ?_
    | with_reducible refine Goes.wr (List.mem_singleton.2 (fieldName_RNG_CTRL_SIZE_LOG2 _ _)) (known_RNG_CTRL_SIZE_LOG2 _ _).agrees (Foot.le_trans (by decide +kernel) hF) ?_
    | with_reducible refine Goes.foldl ?_ ?_
    | split
    | intro _

/-- What `State.reroute` may change. -/
def fp_reroute : Foot := ⟨[.engines, .rings, .mgmt, .tiles, .power, .evq, .staged, .outbox], some [0x40C008, 0x40800F,
  0x408008, 0x40800A, 0x408000, 0x40800C, 0x280, 0x295, 0x20020200, 0x2002029B, 0x2002029C, 0x20000108, 0x600080]⟩
theorem Goes.reroute {s : State} {k : Nat} (hF : fp_reroute.le F = true) (hgo : Goes F s0 s) :
     Goes F s0 (State.reroute s k) := by
  unfold State.reroute
  try dsimp only
  repeat' first
    | with_reducible assumption
    | with_reducible refine Goes.releaseJobs (Foot.le_trans (by decide +kernel) hF) ?_
    | with_reducible refine Goes.flushFor (Foot.le_trans (by decide +kernel) hF) ?_
    | with_reducible refine Goes.foldl ?_ ?_
    | split
    | intro _

/-- What `State.ringEnable` may change. -/
def fp_ringEnable : Foot := ⟨[.engines, .rings, .mgmt, .tiles, .power, .evq, .staged, .outbox], some [0x40C008,
  0x40800F, 0x408008, 0x40800A, 0x408000, 0x40800C, 0x280, 0x295, 0x2002011F, 0x2002011C, 0x2002011D, 0x20020114,
  0x20020100, 0x20020210, 0x20020200, 0x2002029B, 0x2002029C, 0x20000108, 0x600080]⟩
theorem Goes.ringEnable {s : State} {k : Nat} {i : Nat} {ctrl : Nat} (hF : fp_ringEnable.le F = true) (hgo : Goes F s0 s) :
     Goes F s0 (State.ringEnable s k i ctrl) := by
  unfold State.ringEnable
  try dsimp only
  repeat' first
    | with_reducible assumption
    | with_reducible refine Goes.on (List.mem_singleton.2 (fieldName_RNG_CTRL_ENABLE _ _)) (known_RNG_CTRL_ENABLE _ _).agrees (Foot.le_trans (by decide +kernel) hF) ?_
    | with_reducible refine Goes.on (List.mem_singleton.2 (fieldName_RNG_POS_HEAD _ _)) (known_RNG_POS_HEAD _ _).agrees (Foot.le_trans (by decide +kernel) hF) ?_
    | with_reducible refine Goes.on (List.mem_singleton.2 (fieldName_RNG_POS_TAIL _ _)) (known_RNG_POS_TAIL _ _).agrees (Foot.le_trans (by decide +kernel) hF) ?_
    | with_reducible refine Goes.on (List.mem_singleton.2 (fieldName_RNG_STATUS_PHASE _ _)) (known_RNG_STATUS_PHASE _ _).agrees (Foot.le_trans (by decide +kernel) hF) ?_
    | with_reducible refine Goes.on (List.mem_singleton.2 (fieldName_RNG_STATUS_STATE _ _)) (known_RNG_STATUS_STATE _ _).agrees (Foot.le_trans (by decide +kernel) hF) ?_
    | with_reducible refine Goes.reroute (Foot.le_trans (by decide +kernel) hF) ?_
    | with_reducible refine Goes.wr (List.mem_singleton.2 (fieldName_RNG_CTRL_ENABLE _ _)) (known_RNG_CTRL_ENABLE _ _).agrees (Foot.le_trans (by decide +kernel) hF) ?_
    | with_reducible refine Goes.wr (List.mem_singleton.2 (fieldName_RNG_POS_HEAD _ _)) (known_RNG_POS_HEAD _ _).agrees (Foot.le_trans (by decide +kernel) hF) ?_
    | with_reducible refine Goes.wr (List.mem_singleton.2 (fieldName_RNG_POS_TAIL _ _)) (known_RNG_POS_TAIL _ _).agrees (Foot.le_trans (by decide +kernel) hF) ?_
    | with_reducible refine Goes.wr (List.mem_singleton.2 (fieldName_RNG_STATUS_PHASE _ _)) (known_RNG_STATUS_PHASE _ _).agrees (Foot.le_trans (by decide +kernel) hF) ?_
    | with_reducible refine Goes.wr (List.mem_singleton.2 (fieldName_RNG_STATUS_STATE _ _)) (known_RNG_STATUS_STATE _ _).agrees (Foot.le_trans (by decide +kernel) hF) ?_
    | with_reducible refine Goes.upR (Foot.le_trans (by decide +kernel) hF) ?_
    | with_reducible refine Goes.ringShape (Foot.le_trans (by decide +kernel) hF) ?_
    | with_reducible refine Goes.ringVector (Foot.le_trans (by decide +kernel) hF) ?_
    | with_reducible refine Goes.foldl ?_ ?_
    | split
    | intro _

/-- What `execRingEnable` may change. -/
def fp_execRingEnable : Foot := ⟨[.engines, .rings, .mgmt, .tiles, .power, .evq, .staged, .outbox], some [0x40C008,
  0x40800F, 0x408008, 0x40800A, 0x408000, 0x40800C, 0x280, 0x295, 0x2002011F, 0x2002011C, 0x2002011D, 0x20020114,
  0x20020100, 0x20020210, 0x20020200, 0x2002029B, 0x2002029C, 0x20000108, 0x600080]⟩
theorem goes_execRingEnable {k : SliceId} {i : RingId} {ctrl : Nat} {s : State} (hF : fp_execRingEnable.le F = true) (hgo : Goes F s0 s) :
     Runs F s0 (execRingEnable k i ctrl s) := by
  unfold execRingEnable
  try dsimp only
  repeat' first
    | with_reducible assumption
    | with_reducible refine Runs.next ?_
    | with_reducible refine Goes.ringEnable (Foot.le_trans (by decide +kernel) hF) ?_
    | with_reducible refine Goes.hostWrite (Foot.le_trans (by decide +kernel) hF) ?_ ?_
    | with_reducible refine Goes.foldl ?_ ?_
    | split
    | intro _

/-- What `State.dropFetch` may change. -/
def fp_dropFetch : Foot := ⟨[.tags, .mgmt], some []⟩
theorem Goes.dropFetch {s : State} {k : Nat} {i : Nat} (hF : fp_dropFetch.le F = true) (hgo : Goes F s0 s) :
     Goes F s0 (State.dropFetch s k i) := by
  unfold State.dropFetch
  try dsimp only
  repeat' first
    | with_reducible assumption
    | with_reducible refine Goes.upM (Foot.le_trans (by decide +kernel) hF) (fun _ h => h) ?_
    | with_reducible refine Goes.upM (Foot.le_trans (by decide +kernel) hF) ?_ ?_
    | with_reducible refine Goes.setTags (Foot.le_trans (by decide +kernel) hF) ?_ ?_
    | with_reducible refine Goes.foldl ?_ ?_
    | exact fun _ w => Tab.wf_empty
    | exact fun _ w => Tab.wf_set w.tags _ _
    | exact fun _ w => Tab.wf_erase w.tags _
    | exact fun _ w => Tab.wf_keep w.tags _
    | exact fun _ w => Tab.wf_map w.tags _
    | exact fun _ h => Tab.wf_set h _ _
    | exact fun _ h => Tab.wf_erase h _
    | exact fun _ h => Tab.wf_empty
    | split
    | intro _

/-- What `State.ringDisable` may change. -/
def fp_ringDisable : Foot := ⟨[.engines, .rings, .tags, .mgmt, .tiles, .power, .evq, .staged, .outbox], some
  [0x40C008, 0x40800F, 0x408008, 0x40800A, 0x408000, 0x40800C, 0x280, 0x295, 0x2002011F, 0x2002011C, 0x2002011D,
  0x20020114, 0x20020100, 0x20020200, 0x2002029B, 0x2002029C, 0x20000108, 0x600080]⟩
theorem Goes.ringDisable {s : State} {k : Nat} {i : Nat} {ctrl : Nat} (hF : fp_ringDisable.le F = true) (hgo : Goes F s0 s) :
     Goes F s0 (State.ringDisable s k i ctrl) := by
  unfold State.ringDisable
  try dsimp only
  repeat' first
    | with_reducible assumption
    | with_reducible refine Goes.reroute (Foot.le_trans (by decide +kernel) hF) ?_
    | with_reducible refine Goes.wr (List.mem_singleton.2 (fieldName_RNG_CTRL_ENABLE _ _)) (known_RNG_CTRL_ENABLE _ _).agrees (Foot.le_trans (by decide +kernel) hF) ?_
    | with_reducible refine Goes.wr (List.mem_singleton.2 (fieldName_RNG_STATUS_STATE _ _)) (known_RNG_STATUS_STATE _ _).agrees (Foot.le_trans (by decide +kernel) hF) ?_
    | with_reducible refine Goes.off (List.mem_singleton.2 (fieldName_RNG_CTRL_ENABLE _ _)) (known_RNG_CTRL_ENABLE _ _).agrees (Foot.le_trans (by decide +kernel) hF) ?_
    | with_reducible refine Goes.off (List.mem_singleton.2 (fieldName_RNG_STATUS_STATE _ _)) (known_RNG_STATUS_STATE _ _).agrees (Foot.le_trans (by decide +kernel) hF) ?_
    | with_reducible refine Goes.dropFetch (Foot.le_trans (by decide +kernel) hF) ?_
    | with_reducible refine Goes.upR (Foot.le_trans (by decide +kernel) hF) ?_
    | with_reducible refine Goes.deviceQuiet (Foot.le_trans (by decide +kernel) hF) ?_
    | with_reducible refine Goes.ringShape (Foot.le_trans (by decide +kernel) hF) ?_
    | with_reducible refine Goes.ringVector (Foot.le_trans (by decide +kernel) hF) ?_
    | with_reducible refine Goes.foldl ?_ ?_
    | split
    | intro _

/-- What `execRingDisable` may change. -/
def fp_execRingDisable : Foot := ⟨[.engines, .rings, .tags, .mgmt, .tiles, .power, .evq, .staged, .outbox], some
  [0x40C008, 0x40800F, 0x408008, 0x40800A, 0x408000, 0x40800C, 0x280, 0x295, 0x2002011F, 0x2002011C, 0x2002011D,
  0x20020114, 0x20020100, 0x20020200, 0x2002029B, 0x2002029C, 0x20000108, 0x600080]⟩
theorem goes_execRingDisable {k : SliceId} {i : RingId} {ctrl : Nat} {s : State} (hF : fp_execRingDisable.le F = true) (hgo : Goes F s0 s) :
     Runs F s0 (execRingDisable k i ctrl s) := by
  unfold execRingDisable
  try dsimp only
  repeat' first
    | with_reducible assumption
    | with_reducible refine Runs.next ?_
    | with_reducible refine Goes.ringDisable (Foot.le_trans (by decide +kernel) hF) ?_
    | with_reducible refine Goes.hostWrite (Foot.le_trans (by decide +kernel) hF) ?_ ?_
    | with_reducible refine Goes.foldl ?_ ?_
    | split
    | intro _

/-- What `State.ringResume` may change. -/
def fp_ringResume : Foot := ⟨[.tags, .mgmt, .power, .outbox], some [0x2002029C]⟩
theorem Goes.ringResume {s : State} {k : Nat} {i : Nat} (hF : fp_ringResume.le F = true) (hgo : Goes F s0 s) :
     Goes F s0 (State.ringResume s k i) := by
  unfold State.ringResume
  try dsimp only
  repeat' first
    | with_reducible assumption
    | with_reducible refine Goes.wr (List.mem_singleton.2 (fieldName_RNG_STATUS_STATE _ _)) (known_RNG_STATUS_STATE _ _).agrees (Foot.le_trans (by decide +kernel) hF) ?_
    | with_reducible refine Goes.fetchRing (Foot.le_trans (by decide +kernel) hF) ?_
    | with_reducible refine Goes.foldl ?_ ?_
    | split
    | intro _

/-- What `execRingResume` may change. -/
def fp_execRingResume : Foot := ⟨[.tags, .mgmt, .power, .outbox], some [0x2002029C]⟩
theorem goes_execRingResume {k : SliceId} {i : RingId} {s : State} (hF : fp_execRingResume.le F = true) (hgo : Goes F s0 s) :
     Runs F s0 (execRingResume k i s) := by
  unfold execRingResume
  try dsimp only
  repeat' first
    | with_reducible assumption
    | with_reducible refine Runs.next ?_
    | with_reducible refine Goes.hostWrite (Foot.le_trans (by decide +kernel) hF) ?_ ?_
    | with_reducible refine Goes.ringResume (Foot.le_trans (by decide +kernel) hF) ?_
    | with_reducible refine Goes.foldl ?_ ?_
    | split
    | intro _

/-- What `State.cmdDoorbell` may change. -/
def fp_cmdDoorbell : Foot := ⟨[.tags, .mgmt, .power, .outbox], some [0x20020200]⟩
theorem Goes.cmdDoorbell {s : State} {k : Nat} {i : Nat} {index : Nat} (hF : fp_cmdDoorbell.le F = true) (hgo : Goes F s0 s) :
     Goes F s0 (State.cmdDoorbell s k i index) := by
  unfold State.cmdDoorbell
  try dsimp only
  repeat' first
    | with_reducible assumption
    | with_reducible refine Goes.wr (List.mem_singleton.2 (fieldName_RNG_POS_TAIL _ _)) (known_RNG_POS_TAIL _ _).agrees (Foot.le_trans (by decide +kernel) hF) ?_
    | with_reducible refine Goes.fetchRing (Foot.le_trans (by decide +kernel) hF) ?_
    | with_reducible refine Goes.foldl ?_ ?_
    | split
    | intro _

/-- What `execCmdDoorbell` may change. -/
def fp_execCmdDoorbell : Foot := ⟨[.tags, .mgmt, .tim, .power, .now, .count, .replicas, .outbox, .freeCtr], some
  [0x8009D, 0x8009C, 0x8009F, 0x6001A, 0x6001C, 0x6000F, 0x60010, 0x60284, 0x60290, 0x60285, 0x60282, 0x60280, 0x60283,
  0x60288, 0x60281, 0x6030E, 0x60300, 0x20020200]⟩
theorem goes_execCmdDoorbell {k : SliceId} {i : RingId} {index : Nat} {s : State} (hF : fp_execCmdDoorbell.le F = true) (hgo : Goes F s0 s) :
     Runs F s0 (execCmdDoorbell k i index s) := by
  unfold execCmdDoorbell
  try dsimp only
  repeat' first
    | with_reducible assumption
    | with_reducible refine Runs.next ?_
    | with_reducible refine Goes.cmdDoorbell (Foot.le_trans (by decide +kernel) hF) ?_
    | with_reducible refine Goes.hostCmd (Foot.le_trans (by decide +kernel) hF) ?_ ?_
    | with_reducible refine Goes.foldl ?_ ?_
    | split
    | intro _

/-- What `State.eventDoorbell` may change. -/
def fp_eventDoorbell : Foot := ⟨[.engines, .rings, .mgmt, .tiles, .power, .evq, .staged, .outbox], some [0x40C008,
  0x40800F, 0x408008, 0x40800A, 0x408000, 0x40800C, 0x280, 0x295, 0x20020210, 0x20020200, 0x2002029B, 0x2002029C,
  0x20000108, 0x600080]⟩
theorem Goes.eventDoorbell {s : State} {k : Nat} {i : Nat} {index : Nat} (hF : fp_eventDoorbell.le F = true) (hgo : Goes F s0 s) :
     Goes F s0 (State.eventDoorbell s k i index) := by
  unfold State.eventDoorbell
  try dsimp only
  repeat' first
    | with_reducible assumption
    | with_reducible refine Goes.reroute (Foot.le_trans (by decide +kernel) hF) ?_
    | with_reducible refine Goes.wr (List.mem_singleton.2 (fieldName_RNG_POS_HEAD _ _)) (known_RNG_POS_HEAD _ _).agrees (Foot.le_trans (by decide +kernel) hF) ?_
    | with_reducible refine Goes.wr (List.mem_singleton.2 (fieldName_RNG_STATUS_STATE _ _)) (known_RNG_STATUS_STATE _ _).agrees (Foot.le_trans (by decide +kernel) hF) ?_
    | with_reducible refine Goes.foldl ?_ ?_
    | split
    | intro _

/-- What `execEventDoorbell` may change. -/
def fp_execEventDoorbell : Foot := ⟨[.engines, .rings, .mgmt, .tim, .tiles, .power, .evq, .staged, .now, .count,
  .replicas, .outbox, .freeCtr], some [0x8009D, 0x8009C, 0x8009F, 0x40C008, 0x40800F, 0x408008, 0x40800A, 0x408000,
  0x40800C, 0x280, 0x295, 0x6001A, 0x6001C, 0x6000F, 0x60010, 0x60284, 0x60290, 0x60285, 0x60282, 0x60280, 0x60283,
  0x60288, 0x60281, 0x6030E, 0x60300, 0x20020210, 0x20020200, 0x2002029B, 0x2002029C, 0x20000108, 0x600080]⟩
theorem goes_execEventDoorbell {k : SliceId} {i : RingId} {index : Nat} {s : State} (hF : fp_execEventDoorbell.le F = true) (hgo : Goes F s0 s) :
     Runs F s0 (execEventDoorbell k i index s) := by
  unfold execEventDoorbell
  try dsimp only
  repeat' first
    | with_reducible assumption
    | with_reducible refine Runs.next ?_
    | with_reducible refine Goes.eventDoorbell (Foot.le_trans (by decide +kernel) hF) ?_
    | with_reducible refine Goes.hostCmd (Foot.le_trans (by decide +kernel) hF) ?_ ?_
    | with_reducible refine Goes.foldl ?_ ?_
    | split
    | intro _

/-- What `State.postFirst` may change. -/
def fp_postFirst : Foot := ⟨[.mgmt, .power, .evq, .staged, .outbox], some [0x300, 0x280, 0x295, 0x20020200,
  0x2002029B, 0x2002029C, 0x20000108, 0x20000100, 0x600080]⟩
theorem Goes.postFirst {s : State} {kept l : List Ev} (hF : fp_postFirst.le F = true) (hgo : Goes F s0 s) :
    Goes F s0 (State.postFirst s kept l) := by
  induction l generalizing s kept with
  | nil => exact Goes.setEvq (Foot.le_trans (by decide +kernel) hF) hgo
  | cons e l ih =>
    unfold State.postFirst
    dsimp only
    have h1 : Goes F s0 (s.postEvent e).1 := Goes.postEvent (Foot.le_trans (by decide +kernel) hF) hgo
    split
    · exact Goes.setEvq (Foot.le_trans (by decide +kernel) hF) h1
    · exact ih h1

/-- What `execEventPost` may change. -/
def fp_execEventPost : Foot := ⟨[.ports, .engines, .rings, .mgmt, .tiles, .power, .evq, .staged, .outbox], some
  [0x40C008, 0x40800F, 0x408008, 0x40800A, 0x408000, 0x40800C, 0x300, 0x280, 0x295, 0x20020200, 0x2002029B, 0x2002029C,
  0x20000108, 0x20000100, 0x600080]⟩
theorem goes_execEventPost {s : State} (hF : fp_execEventPost.le F = true) (hgo : Goes F s0 s) :
     Runs F s0 (execEventPost s) := by
  unfold execEventPost
  try dsimp only
  repeat' first
    | with_reducible assumption
    | with_reducible refine Runs.next ?_
    | with_reducible refine Goes.releaseJobs (Foot.le_trans (by decide +kernel) hF) ?_
    | with_reducible refine Goes.postFirst (Foot.le_trans (by decide +kernel) hF) ?_
    | with_reducible refine Goes.each ?_ ?_
    | with_reducible refine Goes.publish (Foot.le_trans (by decide +kernel) hF) ?_
    | with_reducible refine Goes.deviceQuiet (Foot.le_trans (by decide +kernel) hF) ?_
    | with_reducible refine Goes.foldl ?_ ?_
    | split
    | intro _

/-- What `execMirrorPublish` may change. -/
def fp_execMirrorPublish : Foot := ⟨[.ports, .evq], some []⟩
theorem goes_execMirrorPublish {p : PortId} {s : State} (hF : fp_execMirrorPublish.le F = true) (hgo : Goes F s0 s) :
     Runs F s0 (execMirrorPublish p s) := by
  unfold execMirrorPublish
  try dsimp only
  repeat' first
    | with_reducible assumption
    | with_reducible refine Runs.next ?_
    | with_reducible refine Goes.publish (Foot.le_trans (by decide +kernel) hF) ?_
    | with_reducible refine Goes.foldl ?_ ?_
    | split
    | intro _

/-- What `execNop` may change. -/
def fp_execNop : Foot := ⟨[.rings, .tags, .mgmt, .power, .evq, .outbox], some [0x20020210]⟩
theorem goes_execNop {k : SliceId} {i : RingId} {s : State} (hF : fp_execNop.le F = true) (hgo : Goes F s0 s) :
     Runs F s0 (execNop k i s) := by
  unfold execNop
  try dsimp only
  repeat' first
    | with_reducible assumption
    | with_reducible refine Runs.next ?_
    | with_reducible refine Goes.reply (Foot.le_trans (by decide +kernel) hF) ?_
    | with_reducible refine Goes.command (Foot.le_trans (by decide +kernel) hF) ?_ ?_
    | with_reducible refine Goes.foldl ?_ ?_
    | split
    | intro _

/-- What `execFence` may change. -/
def fp_execFence : Foot := ⟨[.rings, .tags, .mgmt, .power, .evq, .outbox], some [0x20020210]⟩
theorem goes_execFence {k : SliceId} {i : RingId} {s : State} (hF : fp_execFence.le F = true) (hgo : Goes F s0 s) :
     Runs F s0 (execFence k i s) := by
  unfold execFence
  try dsimp only
  repeat' first
    | with_reducible assumption
    | with_reducible refine Runs.next ?_
    | with_reducible refine Goes.reply (Foot.le_trans (by decide +kernel) hF) ?_
    | with_reducible refine Goes.command (Foot.le_trans (by decide +kernel) hF) ?_ ?_
    | with_reducible refine Goes.foldl ?_ ?_
    | split
    | intro _

/-- What `execPortStatus` may change. -/
def fp_execPortStatus : Foot := ⟨[.ports, .rings, .tags, .mgmt, .power, .evq, .outbox], some [0x20020210]⟩
theorem goes_execPortStatus {k : SliceId} {i : RingId} {s : State} (hF : fp_execPortStatus.le F = true) (hgo : Goes F s0 s) :
     Runs F s0 (execPortStatus k i s) := by
  unfold execPortStatus
  try dsimp only
  repeat' first
    | with_reducible assumption
    | with_reducible refine Runs.next ?_
    | with_reducible refine Goes.reply (Foot.le_trans (by decide +kernel) hF) ?_
    | with_reducible refine Goes.command (Foot.le_trans (by decide +kernel) hF) ?_ ?_
    | with_reducible refine Goes.named (Foot.le_trans (by decide +kernel) hF) ?_ ?_
    | with_reducible refine Goes.foldl ?_ ?_
    | split
    | intro _

/-- What `State.readAll` may change. -/
def fp_readAll : Foot := ⟨[.evq], some [0xE0390, 0xE0380, 0xE0388, 0xE0210, 0xE0200, 0xE021E, 0xE0208, 0xE021F,
  0xE0280, 0xE0100, 0xE0001, 0x100097]⟩
theorem Goes.readAll {s : State} {l : List Nat} (hF : fp_readAll.le F = true) (hgo : Goes F s0 s) :
    Goes F s0 (State.readAll s l).1 := by
  induction l generalizing s with
  | nil => exact hgo
  | cons x l ih => exact ih (Goes.readNow (Foot.le_trans (by decide +kernel) hF) hgo)

/-- What `State.waitTile` may change. -/
def fp_waitTile : Foot := ⟨[.rings, .power], some [0x100]⟩
theorem Goes.waitTile {s : State} {k : Nat} {i : Nat} {idx : Nat} {e : List Byte} {pub : Option (List Nat)} {t : Nat} (hF : fp_waitTile.le F = true) (hgo : Goes F s0 s) :
     Goes F s0 (State.waitTile s k i idx e pub t) := by
  unfold State.waitTile
  try dsimp only
  repeat' first
    | with_reducible assumption
    | with_reducible refine Goes.upR (Foot.le_trans (by decide +kernel) hF) ?_
    | with_reducible refine Goes.wakeTile (Foot.le_trans (by decide +kernel) hF) ?_
    | with_reducible refine Goes.foldl ?_ ?_
    | split
    | intro _

/-- What `State.readRegs` may change. -/
def fp_readRegs : Foot := ⟨[.rings, .power, .evq], some [0xE0390, 0xE0380, 0xE0388, 0xE0210, 0xE0200, 0xE021E,
  0xE0208, 0xE021F, 0xE0280, 0xE0100, 0xE0001, 0x100, 0x100097]⟩
theorem Goes.readRegs {s : State} {k : Nat} {i : Nat} {idx : Nat} {e : List Byte} {pub : Option (List Nat)} (hF : fp_readRegs.le F = true) (hgo : Goes F s0 s) :
     Goes F s0 (State.readRegs s k i idx e pub) := by
  unfold State.readRegs
  try dsimp only
  repeat' first
    | with_reducible assumption
    | with_reducible refine Goes.readAll (Foot.le_trans (by decide +kernel) hF) ?_
    | with_reducible refine Goes.waitTile (Foot.le_trans (by decide +kernel) hF) ?_
    | with_reducible refine Goes.replyAs (Foot.le_trans (by decide +kernel) hF) ?_
    | with_reducible refine Goes.foldl ?_ ?_
    | split
    | intro _

/-- What `State.runReadReg` may change. -/
def fp_runReadReg : Foot := ⟨[.ports, .rings, .power, .evq], some [0xE0390, 0xE0380, 0xE0388, 0xE0210, 0xE0200,
  0xE021E, 0xE0208, 0xE021F, 0xE0280, 0xE0100, 0xE0001, 0x100, 0x100097]⟩
theorem Goes.runReadReg {s : State} {k : Nat} {i : Nat} {idx : Nat} {e : List Byte} (hF : fp_runReadReg.le F = true) (hgo : Goes F s0 s) :
     Goes F s0 (State.runReadReg s k i idx e) := by
  unfold State.runReadReg
  try dsimp only
  repeat' first
    | with_reducible assumption
    | with_reducible refine Goes.reply (Foot.le_trans (by decide +kernel) hF) ?_
    | with_reducible refine Goes.readRegs (Foot.le_trans (by decide +kernel) hF) ?_
    | with_reducible refine Goes.named (Foot.le_trans (by decide +kernel) hF) ?_ ?_
    | with_reducible refine Goes.foldl ?_ ?_
    | split
    | intro _

/-- What `execReadReg` may change. -/
def fp_execReadReg : Foot := ⟨[.ports, .rings, .tags, .mgmt, .power, .evq, .outbox], some [0xE0390, 0xE0380, 0xE0388,
  0xE0210, 0xE0200, 0xE021E, 0xE0208, 0xE021F, 0xE0280, 0xE0100, 0xE0001, 0x100, 0x20020210, 0x100097]⟩
theorem goes_execReadReg {k : SliceId} {i : RingId} {s : State} (hF : fp_execReadReg.le F = true) (hgo : Goes F s0 s) :
     Runs F s0 (execReadReg k i s) := by
  unfold execReadReg
  try dsimp only
  repeat' first
    | with_reducible assumption
    | with_reducible refine Runs.next ?_
    | with_reducible refine Goes.command (Foot.le_trans (by decide +kernel) hF) ?_ ?_
    | with_reducible refine Goes.runReadReg (Foot.le_trans (by decide +kernel) hF) ?_
    | with_reducible refine Goes.foldl ?_ ?_
    | split
    | intro _

/-- What `State.retrainSides` may change. -/
def fp_retrainSides : Foot := ⟨[.halves, .sides, .ports, .engines, .tiles, .evq], some [0x220018, 0x220010, 0x200100,
  0x40800F, 0x408008, 0x40800A, 0x408000, 0x40800C, 0xE0390, 0xE0380, 0xE0388, 0xE0210, 0xE0200, 0xE021E, 0xE0208,
  0xE021F, 0xE0280, 0xE0100, 0xE0001, 0x4000418, 0x4000413, 0x400041F, 0x4000294, 0x4000280, 0x400029D, 0x400029E,
  0x4000290, 0x400050E, 0x400051C, 0x4000513, 0x4000486, 0x4000480, 0x4000487, 0x4000398, 0x400038C, 0x4000392,
  0x4000386, 0x4000380, 0x400039E, 0x2000104, 0x200011E, 0x200010C, 0x2000100, 0x200011D, 0x2000108, 0x200011F,
  0x2000914, 0x200090A, 0x200091C, 0x2000D05, 0x2000D06, 0x2000D10, 0x2000D00, 0x2000D1C, 0x2000D08, 0x2000D18,
  0x2000510, 0x2000508, 0x200048F, 0x2000498, 0x2000494, 0x200048E, 0x200048B, 0x2000488, 0x2000490, 0x200049C,
  0x2000492, 0x100097]⟩
theorem Goes.retrainSides {s : State} {p : Nat} {side : Nat} (hF : fp_retrainSides.le F = true) (hgo : Goes F s0 s) :
     Goes F s0 (State.retrainSides s p side) := by
  unfold State.retrainSides
  try dsimp only
  repeat' first
    | with_reducible assumption
    | with_reducible refine Goes.each ?_ ?_
    | with_reducible refine Goes.retrainSeg (Foot.le_trans (by decide +kernel) hF) ?_
    | with_reducible refine Goes.retrainStd (Foot.le_trans (by decide +kernel) hF) ?_
    | with_reducible refine Goes.foldl ?_ ?_
    | split
    | intro _

/-- What `State.runRetrain` may change. -/
def fp_runRetrain : Foot := ⟨[.halves, .sides, .ports, .engines, .rings, .tiles, .power, .evq], some [0x220018,
  0x220010, 0x200100, 0x40800F, 0x408008, 0x40800A, 0x408000, 0x40800C, 0xE0390, 0xE0380, 0xE0388, 0xE0210, 0xE0200,
  0xE021E, 0xE0208, 0xE021F, 0xE0280, 0xE0100, 0xE0001, 0x100, 0x4000418, 0x4000413, 0x400041F, 0x4000294, 0x4000280,
  0x400029D, 0x400029E, 0x4000290, 0x400050E, 0x400051C, 0x4000513, 0x4000486, 0x4000480, 0x4000487, 0x4000398,
  0x400038C, 0x4000392, 0x4000386, 0x4000380, 0x400039E, 0x2000104, 0x200011E, 0x200010C, 0x2000100, 0x200011D,
  0x2000108, 0x200011F, 0x2000914, 0x200090A, 0x200091C, 0x2000D05, 0x2000D06, 0x2000D10, 0x2000D00, 0x2000D1C,
  0x2000D08, 0x2000D18, 0x2000510, 0x2000508, 0x200048F, 0x2000498, 0x2000494, 0x200048E, 0x200048B, 0x2000488,
  0x2000490, 0x200049C, 0x2000492, 0x100097]⟩
theorem Goes.runRetrain {s : State} {k : Nat} {i : Nat} {idx : Nat} {e : List Byte} (hF : fp_runRetrain.le F = true) (hgo : Goes F s0 s) :
     Goes F s0 (State.runRetrain s k i idx e) := by
  unfold State.runRetrain
  try dsimp only
  repeat' first
    | with_reducible assumption
    | with_reducible refine Goes.reply (Foot.le_trans (by decide +kernel) hF) ?_
    | with_reducible refine Goes.waitTile (Foot.le_trans (by decide +kernel) hF) ?_
    | with_reducible refine Goes.retrainSides (Foot.le_trans (by decide +kernel) hF) ?_
    | with_reducible refine Goes.named (Foot.le_trans (by decide +kernel) hF) ?_ ?_
    | with_reducible refine Goes.foldl ?_ ?_
    | split
    | intro _

/-- What `execPortRetrain` may change. -/
def fp_execPortRetrain : Foot := ⟨[.halves, .sides, .ports, .engines, .rings, .tags, .mgmt, .tiles, .power, .evq,
  .outbox], some [0x220018, 0x220010, 0x200100, 0x40800F, 0x408008, 0x40800A, 0x408000, 0x40800C, 0xE0390, 0xE0380,
  0xE0388, 0xE0210, 0xE0200, 0xE021E, 0xE0208, 0xE021F, 0xE0280, 0xE0100, 0xE0001, 0x100, 0x4000418, 0x4000413,
  0x400041F, 0x4000294, 0x4000280, 0x400029D, 0x400029E, 0x4000290, 0x400050E, 0x400051C, 0x4000513, 0x4000486,
  0x4000480, 0x4000487, 0x4000398, 0x400038C, 0x4000392, 0x4000386, 0x4000380, 0x400039E, 0x2000104, 0x200011E,
  0x200010C, 0x2000100, 0x200011D, 0x2000108, 0x200011F, 0x2000914, 0x200090A, 0x200091C, 0x2000D05, 0x2000D06,
  0x2000D10, 0x2000D00, 0x2000D1C, 0x2000D08, 0x2000D18, 0x2000510, 0x2000508, 0x200048F, 0x2000498, 0x2000494,
  0x200048E, 0x200048B, 0x2000488, 0x2000490, 0x200049C, 0x2000492, 0x20020210, 0x100097]⟩
theorem goes_execPortRetrain {k : SliceId} {i : RingId} {s : State} (hF : fp_execPortRetrain.le F = true) (hgo : Goes F s0 s) :
     Runs F s0 (execPortRetrain k i s) := by
  unfold execPortRetrain
  try dsimp only
  repeat' first
    | with_reducible assumption
    | with_reducible refine Runs.next ?_
    | with_reducible refine Goes.runRetrain (Foot.le_trans (by decide +kernel) hF) ?_
    | with_reducible refine Goes.command (Foot.le_trans (by decide +kernel) hF) ?_ ?_
    | with_reducible refine Goes.foldl ?_ ?_
    | split
    | intro _

/-- What `State.goOn` may change. -/
def fp_goOn : Foot := ⟨[.halves, .sides, .ports, .engines, .rings, .tiles, .power, .evq], some [0x220018, 0x220010,
  0x200100, 0x40800F, 0x408008, 0x40800A, 0x408000, 0x40800C, 0xE0390, 0xE0380, 0xE0388, 0xE0210, 0xE0200, 0xE021E,
  0xE0208, 0xE021F, 0xE0280, 0xE0100, 0xE0001, 0x100, 0x4000418, 0x4000413, 0x400041F, 0x4000294, 0x4000280, 0x400029D,
  0x400029E, 0x4000290, 0x400050E, 0x400051C, 0x4000513, 0x4000486, 0x4000480, 0x4000487, 0x4000398, 0x400038C,
  0x4000392, 0x4000386, 0x4000380, 0x400039E, 0x2000104, 0x200011E, 0x200010C, 0x2000100, 0x200011D, 0x2000108,
  0x200011F, 0x2000914, 0x200090A, 0x200091C, 0x2000D05, 0x2000D06, 0x2000D10, 0x2000D00, 0x2000D1C, 0x2000D08,
  0x2000D18, 0x2000510, 0x2000508, 0x200048F, 0x2000498, 0x2000494, 0x200048E, 0x200048B, 0x2000488, 0x2000490,
  0x200049C, 0x2000492, 0x100097]⟩
theorem Goes.goOn {s : State} {k : Nat} {i : Nat} {w : Nat × Nat × List Byte × Option (List Nat)} (hF : fp_goOn.le F = true) (hgo : Goes F s0 s) :
     Goes F s0 (State.goOn s k i w) := by
  unfold State.goOn
  try dsimp only
  repeat' first
    | with_reducible assumption
    | with_reducible refine Goes.runRetrain (Foot.le_trans (by decide +kernel) hF) ?_
    | with_reducible refine Goes.readRegs (Foot.le_trans (by decide +kernel) hF) ?_
    | with_reducible refine Goes.tileQuiet (Foot.le_trans (by decide +kernel) hF) ?_
    | with_reducible refine Goes.foldl ?_ ?_
    | split
    | intro _

/-- What `State.resumeWaits` may change. -/
def fp_resumeWaits : Foot := ⟨[.halves, .sides, .ports, .engines, .rings, .tags, .mgmt, .tiles, .power, .evq,
  .outbox], some [0x220018, 0x220010, 0x200100, 0x40800F, 0x408008, 0x40800A, 0x408000, 0x40800C, 0xE0390, 0xE0380,
  0xE0388, 0xE0210, 0xE0200, 0xE021E, 0xE0208, 0xE021F, 0xE0280, 0xE0100, 0xE0001, 0x100, 0x4000418, 0x4000413,
  0x400041F, 0x4000294, 0x4000280, 0x400029D, 0x400029E, 0x4000290, 0x400050E, 0x400051C, 0x4000513, 0x4000486,
  0x4000480, 0x4000487, 0x4000398, 0x400038C, 0x4000392, 0x4000386, 0x4000380, 0x400039E, 0x2000104, 0x200011E,
  0x200010C, 0x2000100, 0x200011D, 0x2000108, 0x200011F, 0x2000914, 0x200090A, 0x200091C, 0x2000D05, 0x2000D06,
  0x2000D10, 0x2000D00, 0x2000D1C, 0x2000D08, 0x2000D18, 0x2000510, 0x2000508, 0x200048F, 0x2000498, 0x2000494,
  0x200048E, 0x200048B, 0x2000488, 0x2000490, 0x200049C, 0x2000492, 0x20020210, 0x100097]⟩
theorem Goes.resumeWaits {s : State} {t : Nat} (hF : fp_resumeWaits.le F = true) (hgo : Goes F s0 s) :
     Goes F s0 (State.resumeWaits s t) := by
  unfold State.resumeWaits
  try dsimp only
  repeat' first
    | with_reducible assumption
    | with_reducible refine Goes.goOn (Foot.le_trans (by decide +kernel) hF) ?_
    | with_reducible refine Goes.each ?_ ?_
    | with_reducible refine Goes.upR (Foot.le_trans (by decide +kernel) hF) ?_
    | with_reducible refine Goes.drain (Foot.le_trans (by decide +kernel) hF) ?_
    | with_reducible refine Goes.foldl ?_ ?_
    | split
    | intro _

end Sys2Proof.Machine
end

