-- ==== Sys2Proof/Laws/OnResetOps.lean ====
section
/-! SUPPORT. What each operation of `Machine/ResetOps.lean` may change: one lemma for each. -/

set_option linter.all false
set_option Elab.async false

namespace Sys2Proof.Machine

variable {F : Foot} {s0 : State}

theorem configReset_wf (b : Bool) : ∀ m : Mgmt, m.wf → (m.configReset b).wf := by
  intro m h
  unfold Mgmt.configReset
  dsimp only
  split
  · exact ⟨Tab.wf_empty, Tab.wf_empty⟩
  · exact ⟨Tab.wf_empty, Tab.wf_empty⟩

/-- What `State.loseJob` may change. -/
def fp_loseJob : Foot := ⟨[.halves, .engines, .rings, .tiles, .power, .evq], some [0x40C008]⟩
theorem Goes.loseJob {s : State} {k : Nat} (hF : fp_loseJob.le F = true) (hgo : Goes F s0 s) :
     Goes F s0 (State.loseJob s k) := by
  unfold State.loseJob
  try dsimp only
  repeat' first
    | with_reducible assumption
    | with_reducible refine Goes.upE (Foot.le_trans (by decide +kernel) hF) ?_
    | with_reducible refine Goes.restoreRx (Foot.le_trans (by decide +kernel) hF) ?_
    | with_reducible refine Goes.endJob (Foot.le_trans (by decide +kernel) hF) ?_
    | with_reducible refine Goes.foldl ?_ ?_
    | split
    | intro _

/-- What `State.stopEngine` may change. -/
def fp_stopEngine : Foot := ⟨[.halves, .engines, .rings, .tiles, .power, .evq], some [0x40C008, 0x40C000, 0x40C010,
  0x408018, 0x40800F, 0x408008, 0x40800A, 0x408000, 0x40800C, 0x408010, 0x40801C]⟩
theorem Goes.stopEngine {s : State} {k : Nat} (hF : fp_stopEngine.le F = true) (hgo : Goes F s0 s) :
     Goes F s0 (State.stopEngine s k) := by
  unfold State.stopEngine
  try dsimp only
  repeat' first
    | with_reducible assumption
    | with_reducible refine Goes.loseJob (Foot.le_trans (by decide +kernel) hF) ?_
    | with_reducible refine Goes.coldAll (names_ENG_CNT_fields _) (Foot.le_trans (by decide +kernel) hF) ?_
    | with_reducible refine Goes.coldAll (names_ENG_STATUS_fields _) (Foot.le_trans (by decide +kernel) hF) ?_
    | with_reducible refine Goes.upE (Foot.le_trans (by decide +kernel) hF) ?_
    | with_reducible refine Goes.foldl ?_ ?_
    | split
    | intro _

/-- What `State.leavesOn` may change. -/
def fp_leavesOn : Foot := ⟨[.halves, .sides, .engines, .rings, .imgOp, .mgmt, .tiles, .power, .evq, .replicas,
  .outbox], some [0x220018, 0x220010, 0x200100, 0x20081F, 0x40C008, 0x40800F, 0x408008, 0x40800A, 0x408000, 0x40800C,
  0x40801C, 0xE0390, 0xE0380, 0xE0388, 0xE0210, 0xE0200, 0xE021E, 0xE0208, 0xE021F, 0xE0280, 0xE0100, 0xE0001, 0x295,
  0x100, 0x20006, 0x20007, 0x2001C, 0x4000280, 0x400029D, 0x400050E, 0x400051C, 0x4000513, 0x2000D05, 0x2000D06,
  0x2000D00, 0x100097]⟩
theorem Goes.leavesOn {s : State} {t : Nat} {st : Nat} (hF : fp_leavesOn.le F = true) (hgo : Goes F s0 s) :
     Goes F s0 (State.leavesOn s t st) := by
  unfold State.leavesOn
  try dsimp only
  repeat' first
    | with_reducible assumption
    | with_reducible refine Goes.wr (List.mem_singleton.2 (fieldName_CAL_TEMP_VALID _)) (known_CAL_TEMP_VALID _).agrees (Foot.le_trans (by decide +kernel) hF) ?_
    | with_reducible refine Goes.wr (List.mem_singleton.2 (fieldName_GLB_TILE_STATUS_LT _)) (known_GLB_TILE_STATUS_LT _).agrees (Foot.le_trans (by decide +kernel) hF) ?_
    | with_reducible refine Goes.swapFrom (Foot.le_trans (by decide +kernel) hF) ?_
    | with_reducible refine Goes.off (List.mem_singleton.2 (fieldName_CAL_TEMP_VALID _)) (known_CAL_TEMP_VALID _).agrees (Foot.le_trans (by decide +kernel) hF) ?_
    | with_reducible refine Goes.off (List.mem_singleton.2 (fieldName_GLB_TILE_STATUS_LT _)) (known_GLB_TILE_STATUS_LT _).agrees (Foot.le_trans (by decide +kernel) hF) ?_
    | with_reducible refine Goes.deviceQuiet (Foot.le_trans (by decide +kernel) hF) ?_
    | with_reducible refine Goes.realign (Foot.le_trans (by decide +kernel) hF) ?_
    | with_reducible refine Goes.foldl ?_ ?_
    | split
    | intro _

/-- What `State.dropAccesses` may change. -/
def fp_dropAccesses : Foot := ⟨[.halves, .sides, .ports, .engines, .mgmt, .tiles, .evq, .outbox], none⟩
theorem Goes.dropAccesses {s : State} {t : Nat} (hF : fp_dropAccesses.le F = true) (hgo : Goes F s0 s) :
     Goes F s0 (State.dropAccesses s t) := by
  unfold State.dropAccesses
  try dsimp only
  repeat' first
    | with_reducible assumption
    | with_reducible refine Goes.drainAccesses (Foot.le_trans (by decide +kernel) hF) ?_
    | with_reducible refine Goes.upT (Foot.le_trans (by decide +kernel) hF) ?_
    | with_reducible refine Goes.foldl ?_ ?_
    | split
    | intro _

/-- What `State.quietTile` may change. -/
def fp_quietTile : Foot := ⟨[.halves, .sides, .ports, .engines, .rings, .tiles, .power, .evq], some [0x220008,
  0x22001F, 0x220018, 0x220010, 0x220000, 0x220004, 0x200100, 0x40C008, 0x40C000, 0x40C010, 0x408018, 0x40800F,
  0x408008, 0x40800A, 0x408000, 0x40800C, 0x408010, 0x40801C, 0xE0390, 0xE0380, 0xE0388, 0xE0210, 0xE0200, 0xE021E,
  0xE0208, 0xE021F, 0xE0280, 0xE0100, 0xE0001, 0x4000418, 0x4000400, 0x4000413, 0x400041F, 0x4000408, 0x4000294,
  0x400029C, 0x400029A, 0x4000280, 0x4000288, 0x400029D, 0x400029E, 0x4000290, 0x400029F, 0x400029B, 0x4000500,
  0x400050D, 0x4000518, 0x400050E, 0x400051C, 0x4000513, 0x4000319, 0x400030C, 0x4000304, 0x400031F, 0x4000313,
  0x400031E, 0x4000490, 0x4000486, 0x4000480, 0x4000487, 0x4000488, 0x4000398, 0x400038C, 0x4000392, 0x4000386,
  0x4000380, 0x400039E, 0x2000104, 0x200011E, 0x200010C, 0x2000100, 0x200011D, 0x2000108, 0x2000119, 0x2000118,
  0x2000110, 0x200011F, 0x2000A10, 0x2000A00, 0x2000914, 0x2000906, 0x2000902, 0x2000907, 0x2000918, 0x200090A,
  0x2000905, 0x2000903, 0x2000900, 0x200090C, 0x2000904, 0x200091C, 0x2000901, 0x2000190, 0x2000180, 0x2000E08,
  0x2000E10, 0x2000E18, 0x2000E00, 0x2000D01, 0x2000D05, 0x2000D04, 0x2000D03, 0x2000D06, 0x2000D02, 0x2000D10,
  0x2000D00, 0x2000D1C, 0x2000D08, 0x2000D18, 0x2000510, 0x2000519, 0x200051A, 0x200051B, 0x200051C, 0x200051F,
  0x200051E, 0x2000500, 0x2000508, 0x200051D, 0x200048F, 0x2000498, 0x2000494, 0x200048E, 0x200048B, 0x2000488,
  0x2000484, 0x2000490, 0x200049C, 0x2000492, 0x100097]⟩
theorem Goes.quietTile {s : State} {t : Nat} {why : Option PortReset} (hF : fp_quietTile.le F = true) (hgo : Goes F s0 s) :
     Goes F s0 (State.quietTile s t why) := by
  unfold State.quietTile
  try dsimp only
  repeat' first
    | with_reducible assumption
    | exact fun _ _ => default_derived
    | with_reducible refine Goes.bump (Foot.le_trans (by decide +kernel) hF) ?_
    | with_reducible refine Goes.upH (Foot.le_trans (by decide +kernel) hF) (fun _ h => h) ?_
    | with_reducible refine Goes.upH (Foot.le_trans (by decide +kernel) hF) ?_ ?_
    | with_reducible refine Goes.endQueued (Foot.le_trans (by decide +kernel) hF) ?_
    | with_reducible refine Goes.quietPort (Foot.le_trans (by decide +kernel) hF) ?_
    | with_reducible refine Goes.each ?_ ?_
    | with_reducible refine Goes.abortRun (Foot.le_trans (by decide +kernel) hF) ?_
    | with_reducible refine Goes.upT (Foot.le_trans (by decide +kernel) hF) ?_
    | with_reducible refine Goes.stopEngine (Foot.le_trans (by decide +kernel) hF) ?_
    | with_reducible refine Goes.coldHalf (Foot.le_trans (by decide +kernel) hF) ?_
    | with_reducible refine Goes.setTx (Foot.le_trans (by decide +kernel) hF) ?_
    | with_reducible refine Goes.foldl ?_ ?_
    | exact fun _ h => h
    | exact fun _ h => by dsimp only; (repeat' split) <;> exact h
    | split
    | intro _

/-- What `State.resetTile` may change. -/
def fp_resetTile : Foot := ⟨[.halves, .sides, .ports, .bct, .engines, .rings, .tags, .imgOp, .txn, .mgmt, .winnows,
  .tim, .tiles, .power, .evq, .replicas, .outbox], none⟩
theorem Goes.resetTile {s : State} {t : Nat} (hF : fp_resetTile.le F = true) (hgo : Goes F s0 s) :
     Goes F s0 (State.resetTile s t) := by
  unfold State.resetTile
  try dsimp only
  repeat' first
    | with_reducible assumption
    | with_reducible refine Goes.leavesOn (Foot.le_trans (by decide +kernel) hF) ?_
    | with_reducible refine Goes.resumeWaits (Foot.le_trans (by decide +kernel) hF) ?_
    | with_reducible refine Goes.satUp (List.mem_singleton.2 (fieldName_RST_CNT_TILE_RESETS)) (known_RST_CNT_TILE_RESETS).agrees (Foot.le_trans (by decide +kernel) hF) ?_
    | with_reducible refine Goes.upPw (Foot.le_trans (by decide +kernel) hF) ?_
    | with_reducible refine Goes.dropAccesses (Foot.le_trans (by decide +kernel) hF) ?_
    | with_reducible refine Goes.tileLost (Foot.le_trans (by decide +kernel) hF) ?_
    | with_reducible refine Goes.quietTile (Foot.le_trans (by decide +kernel) hF) ?_
    | with_reducible refine Goes.foldl ?_ ?_
    | split
    | intro _

/-- What `State.tileReset` may change. -/
def fp_tileReset : Foot := ⟨[.halves, .sides, .ports, .bct, .engines, .rings, .tags, .imgOp, .txn, .mgmt, .winnows,
  .tim, .tiles, .power, .evq, .replicas, .outbox], none⟩
theorem Goes.tileReset {s : State} {t : Nat} (hF : fp_tileReset.le F = true) (hgo : Goes F s0 s) :
     Goes F s0 (State.tileReset s t) := by
  unfold State.tileReset
  try dsimp only
  repeat' first
    | with_reducible assumption
    | with_reducible refine Goes.resetTile (Foot.le_trans (by decide +kernel) hF) ?_
    | with_reducible refine Goes.foldl ?_ ?_
    | split
    | intro _

/-- What `State.tileEnters` may change. -/
def fp_tileEnters : Foot := ⟨[.halves, .sides, .ports, .engines, .rings, .txn, .winnows, .tiles, .power, .evq,
  .replicas], none⟩
theorem Goes.tileEnters {s : State} {t : Nat} (hF : fp_tileEnters.le F = true) (hgo : Goes F s0 s) :
     Goes F s0 (State.tileEnters s t) := by
  unfold State.tileEnters
  try dsimp only
  repeat' first
    | with_reducible assumption
    | with_reducible refine Goes.runEngine (Foot.le_trans (by decide +kernel) hF) ?_
    | with_reducible refine Goes.showDclk (Foot.le_trans (by decide +kernel) hF) ?_
    | with_reducible refine Goes.upP (Foot.le_trans (by decide +kernel) hF) ?_
    | with_reducible refine Goes.wr (List.mem_singleton.2 (fieldName_ENG_STATUS_STATE _)) (known_ENG_STATUS_STATE _).agrees (Foot.le_trans (by decide +kernel) hF) ?_
    | with_reducible refine Goes.wr (List.mem_singleton.2 (fieldName_GLB_TILE_STATUS_LT _)) (known_GLB_TILE_STATUS_LT _).agrees (Foot.le_trans (by decide +kernel) hF) ?_
    | with_reducible refine Goes.tileQuiet (Foot.le_trans (by decide +kernel) hF) ?_
    | with_reducible refine Goes.each ?_ ?_
    | with_reducible refine Goes.startPort (Foot.le_trans (by decide +kernel) hF) ?_
    | with_reducible refine Goes.realign (Foot.le_trans (by decide +kernel) hF) ?_
    | with_reducible refine Goes.turnReady (Foot.le_trans (by decide +kernel) hF) ?_
    | with_reducible refine Goes.foldl ?_ ?_
    | split
    | intro _

/-- What `State.destroyAll` may change. -/
def fp_destroyAll : Foot := ⟨[.engines, .slices, .rings, .tags, .imgOp, .mgmt, .winnows, .windows, .tiles, .power,
  .evq, .staged, .outbox], some [0x40C008, 0x410003, 0x410000, 0x410002, 0x410001, 0x40800F, 0x408008, 0x40800A,
  0x408000, 0x40800C, 0x280, 0x295, 0x20006, 0x20007, 0x20020000, 0x2002011F, 0x2002011C, 0x2002011D, 0x2002011E,
  0x20020114, 0x20020100, 0x20020210, 0x20020200, 0x20020280, 0x2002029B, 0x2002029C, 0x600000, 0x600280, 0x600110,
  0x600100, 0x20000080, 0x20000090, 0x2000009F, 0x20000108, 0x20000100, 0x600200, 0x600212, 0x60008E, 0x600090,
  0x600080, 0x60009C, 0x600190, 0x600180, 0x20120180, 0x20120080, 0x20120100, 0x20120000, 0x2012001B, 0x2012001A,
  0x20120019, 0x2012001C, 0x102001F, 0x1020017, 0x1020013, 0x102000F, 0x1020007, 0x1020003]⟩
theorem Goes.destroyAll {s : State} (hF : fp_destroyAll.le F = true) (hgo : Goes F s0 s) :
     Goes F s0 (State.destroyAll s) := by
  unfold State.destroyAll
  try dsimp only
  repeat' first
    | with_reducible assumption
    | with_reducible refine Goes.destroySlice (Foot.le_trans (by decide +kernel) hF) ?_
    | with_reducible refine Goes.upM (Foot.le_trans (by decide +kernel) hF) (fun _ h => h) ?_
    | with_reducible refine Goes.upM (Foot.le_trans (by decide +kernel) hF) ?_ ?_
    | with_reducible refine Goes.freeSlice (Foot.le_trans (by decide +kernel) hF) ?_
    | with_reducible refine Goes.each ?_ ?_
    | with_reducible refine Goes.createS0 (Foot.le_trans (by decide +kernel) hF) ?_
    | with_reducible refine Goes.foldl ?_ ?_
    | exact fun _ h => Tab.wf_set h _ _
    | exact fun _ h => Tab.wf_erase h _
    | exact fun _ h => Tab.wf_empty
    | split
    | intro _

/-- What `State.mgmtReset` may change. -/
def fp_mgmtReset : Foot := ⟨[.ports, .engines, .slices, .rings, .tags, .imgOp, .txn, .mgmt, .winnows, .windows,
  .tiles, .power, .evq, .staged, .outbox], some [0x40C008, 0x410003, 0x410000, 0x410002, 0x410001, 0x40800F, 0x408008,
  0x40800A, 0x408000, 0x40800C, 0x90, 0x298, 0x280, 0x295, 0x20006, 0x20007, 0x6001A, 0x60018, 0x6000F, 0x60010,
  0x20020000, 0x2002011F, 0x2002011C, 0x2002011D, 0x2002011E, 0x20020114, 0x20020100, 0x20020210, 0x20020200,
  0x20020280, 0x2002029B, 0x2002029C, 0x600000, 0x600280, 0x600110, 0x600100, 0x20000080, 0x20000090, 0x2000009F,
  0x20000108, 0x20000100, 0x600200, 0x600212, 0x60008E, 0x600090, 0x600080, 0x60009C, 0x600190, 0x600180, 0x20120180,
  0x20120080, 0x20120100, 0x20120000, 0x2012001B, 0x2012001A, 0x20120019, 0x2012001C, 0x102001F, 0x1020017, 0x1020013,
  0x102000F, 0x1020007, 0x1020003, 0x40088, 0x40099, 0x40080, 0x4009C]⟩
theorem Goes.mgmtReset {s : State} {sticky : Bool} (hF : fp_mgmtReset.le F = true) (hgo : Goes F s0 s) :
     Goes F s0 (State.mgmtReset s sticky) := by
  unfold State.mgmtReset
  try dsimp only
  repeat' first
    | with_reducible assumption
    | exact configReset_wf _
    | with_reducible refine Goes.upM (Foot.le_trans (by decide +kernel) hF) (fun _ h => h) ?_
    | with_reducible refine Goes.upM (Foot.le_trans (by decide +kernel) hF) ?_ ?_
    | with_reducible refine Goes.destroyAll (Foot.le_trans (by decide +kernel) hF) ?_
    | with_reducible refine Goes.rollTxn (Foot.le_trans (by decide +kernel) hF) ?_
    | with_reducible refine Goes.beginHold (Foot.le_trans (by decide +kernel) hF) ?_
    | with_reducible refine Goes.wrapUp (List.mem_singleton.2 (fieldName_GLB_ALIVE_MGMT_RESETS)) (known_GLB_ALIVE_MGMT_RESETS).agrees (Foot.le_trans (by decide +kernel) hF) ?_
    | with_reducible refine Goes.foldl ?_ ?_
    | exact fun _ h => Tab.wf_set h _ _
    | exact fun _ h => Tab.wf_erase h _
    | exact fun _ h => Tab.wf_empty
    | split
    | intro _

/-- What `State.functionReset` may change. -/
def fp_functionReset : Foot := ⟨[.ports, .engines, .slices, .rings, .tags, .imgOp, .txn, .mgmt, .winnows, .windows,
  .tiles, .power, .evq, .staged, .outbox], some [0x40C008, 0x410003, 0x410000, 0x410002, 0x410001, 0x40800F, 0x408008,
  0x40800A, 0x408000, 0x40800C, 0x90, 0x298, 0x280, 0x295, 0x20006, 0x20007, 0x6001A, 0x60018, 0x6000F, 0x60010,
  0x20020000, 0x2002011F, 0x2002011C, 0x2002011D, 0x2002011E, 0x20020114, 0x20020100, 0x20020210, 0x20020200,
  0x20020280, 0x2002029B, 0x2002029C, 0x600000, 0x600280, 0x600110, 0x600100, 0x20000080, 0x20000090, 0x2000009F,
  0x20000108, 0x20000100, 0x600200, 0x600212, 0x60008E, 0x600090, 0x600080, 0x60009C, 0x600190, 0x600180, 0x20120180,
  0x20120080, 0x20120100, 0x20120000, 0x2012001B, 0x2012001A, 0x20120019, 0x2012001C, 0x102001F, 0x1020017, 0x1020013,
  0x102000F, 0x1020007, 0x1020003, 0x40088, 0x40099, 0x40080, 0x4009C]⟩
theorem Goes.functionReset {s : State} (hF : fp_functionReset.le F = true) (hgo : Goes F s0 s) :
     Goes F s0 (State.functionReset s) := by
  unfold State.functionReset
  try dsimp only
  repeat' first
    | with_reducible assumption
    | with_reducible refine Goes.upM (Foot.le_trans (by decide +kernel) hF) (fun _ h => h) ?_
    | with_reducible refine Goes.upM (Foot.le_trans (by decide +kernel) hF) ?_ ?_
    | with_reducible refine Goes.mgmtReset (Foot.le_trans (by decide +kernel) hF) ?_
    | with_reducible refine Goes.foldl ?_ ?_
    | exact fun _ h => Tab.wf_set h _ _
    | exact fun _ h => Tab.wf_erase h _
    | exact fun _ h => Tab.wf_empty
    | split
    | intro _

/-- What `State.linkDown` may change. -/
def fp_linkDown : Foot := ⟨[.power], some [0x299, 0x29C, 0x29F, 0x29A]⟩
theorem Goes.linkDown {s : State} (hF : fp_linkDown.le F = true) (hgo : Goes F s0 s) :
     Goes F s0 (State.linkDown s) := by
  unfold State.linkDown
  try dsimp only
  repeat' first
    | with_reducible assumption
    | with_reducible refine Goes.wr (List.mem_singleton.2 (fieldName_GLB_MGMT_STATUS_FLIT)) (known_GLB_MGMT_STATUS_FLIT).agrees (Foot.le_trans (by decide +kernel) hF) ?_
    | with_reducible refine Goes.wr (List.mem_singleton.2 (fieldName_GLB_MGMT_STATUS_LINK_RATE)) (known_GLB_MGMT_STATUS_LINK_RATE).agrees (Foot.le_trans (by decide +kernel) hF) ?_
    | with_reducible refine Goes.wr (List.mem_singleton.2 (fieldName_GLB_MGMT_STATUS_LINK_UP)) (known_GLB_MGMT_STATUS_LINK_UP).agrees (Foot.le_trans (by decide +kernel) hF) ?_
    | with_reducible refine Goes.wr (List.mem_singleton.2 (fieldName_GLB_MGMT_STATUS_LINK_WIDTH)) (known_GLB_MGMT_STATUS_LINK_WIDTH).agrees (Foot.le_trans (by decide +kernel) hF) ?_
    | with_reducible refine Goes.off (List.mem_singleton.2 (fieldName_GLB_MGMT_STATUS_FLIT)) (known_GLB_MGMT_STATUS_FLIT).agrees (Foot.le_trans (by decide +kernel) hF) ?_
    | with_reducible refine Goes.off (List.mem_singleton.2 (fieldName_GLB_MGMT_STATUS_LINK_RATE)) (known_GLB_MGMT_STATUS_LINK_RATE).agrees (Foot.le_trans (by decide +kernel) hF) ?_
    | with_reducible refine Goes.off (List.mem_singleton.2 (fieldName_GLB_MGMT_STATUS_LINK_UP)) (known_GLB_MGMT_STATUS_LINK_UP).agrees (Foot.le_trans (by decide +kernel) hF) ?_
    | with_reducible refine Goes.off (List.mem_singleton.2 (fieldName_GLB_MGMT_STATUS_LINK_WIDTH)) (known_GLB_MGMT_STATUS_LINK_WIDTH).agrees (Foot.le_trans (by decide +kernel) hF) ?_
    | with_reducible refine Goes.deviceQuiet (Foot.le_trans (by decide +kernel) hF) ?_
    | with_reducible refine Goes.foldl ?_ ?_
    | split
    | intro _

/-- What `State.showAddress` may change. -/
def fp_showAddress : Foot := ⟨[], some [0x100098]⟩
theorem Goes.showAddress {s : State} (hF : fp_showAddress.le F = true) (hgo : Goes F s0 s) :
     Goes F s0 (State.showAddress s) := by
  unfold State.showAddress
  try dsimp only
  repeat' first
    | with_reducible assumption
    | with_reducible refine Goes.wr (List.mem_singleton.2 (fieldName_SB_STATUS_ADDRESS)) (known_SB_STATUS_ADDRESS).agrees (Foot.le_trans (by decide +kernel) hF) ?_
    | with_reducible refine Goes.foldl ?_ ?_
    | split
    | intro _

/-- What `State.newEra` may change. -/
def fp_newEra : Foot := ⟨[.ports, .era, .evq], some []⟩
theorem Goes.newEra {s : State} {era : Nat} (hF : fp_newEra.le F = true) (hgo : Goes F s0 s) :
     Goes F s0 (State.newEra s era) := by
  unfold State.newEra
  try dsimp only
  repeat' first
    | with_reducible assumption
    | with_reducible refine Goes.upP (Foot.le_trans (by decide +kernel) hF) ?_
    | with_reducible refine Goes.each ?_ ?_
    | with_reducible refine Goes.publish (Foot.le_trans (by decide +kernel) hF) ?_
    | with_reducible refine Goes.setEra (Foot.le_trans (by decide +kernel) hF) ?_
    | with_reducible refine Goes.foldl ?_ ?_
    | split
    | intro _

/-- What `State.blank` may change. -/
def fp_blank : Foot := ⟨[.halves, .sides, .ports, .era, .bct, .calTab, .engines, .slices, .rings, .tags, .calStore,
  .storeWait, .lastStore, .chip, .lastWritten, .imgOp, .txn, .mgmt, .winnows, .windows, .tim, .snap, .tiles, .power,
  .evq, .staged, .now, .count, .replicas], none⟩
theorem Goes.blank {s : State} {regs : Tab Nat} (hF : fp_blank.le F = true) (hc : s0.wf → s.wf → regsWf regs) (hgo : Goes F s0 s) :
     Goes F s0 (State.blank s regs) := by
  obtain ⟨hp, hf⟩ := Foot.le_iff.1 hF
  refine ⟨⟨fun p h => ?_, fun fs h => ?_⟩, fun w => ?_, ?_, fun _ _ => default_derived⟩
  · have h1 := hgo.kept.parts p h
    cases p <;> first | exact h1 | exact absurd (hp _ (by decide)) h
  · obtain ⟨a, ha, -⟩ := hf fs h
    cases ha
  · have w1 := hgo.wf w
    exact ⟨hc w w1, Tab.wf_empty, Tab.wf_empty, Tab.wf_empty, Tab.wf_empty, Tab.wf_empty, Tab.wf_empty, Tab.wf_empty,
      Tab.wf_empty, Tab.wf_empty, w1.flash, trivial, w1.fuses, Txn.wf_new,
      ⟨Tab.wf_empty, Tab.wf_empty⟩, Tab.wf_empty, Tab.wf_empty, Tab.wf_empty, ⟨regsWf_empty, Tab.wf_empty, Tab.wf_empty⟩, Tab.wf_empty, Tab.wf_empty⟩
  · exact ⟨hgo.follows.pending, hgo.follows.elapsed, hgo.follows.freeCtr, hgo.follows.outbox, hgo.follows.steps,
      hgo.follows.revoked⟩

/-- What `State.pinReset` may change. -/
def fp_pinReset : Foot := ⟨[.halves, .sides, .ports, .era, .bct, .calTab, .engines, .slices, .rings, .tags, .calStore,
  .storeWait, .lastStore, .chip, .lastWritten, .imgOp, .txn, .mgmt, .winnows, .windows, .tim, .snap, .tiles, .power,
  .evq, .staged, .now, .count, .replicas], none⟩
theorem Goes.pinReset {s : State} {reason : Nat} (hF : fp_pinReset.le F = true) (hgo : Goes F s0 s) :
     Goes F s0 (State.pinReset s reason) := by
  unfold State.pinReset
  try dsimp only
  repeat' first
    | with_reducible assumption
    | with_reducible refine Goes.showAddress (Foot.le_trans (by decide +kernel) hF) ?_
    | with_reducible refine Goes.satUp (List.mem_singleton.2 (fieldName_RST_STATUS_BOOT_DONE)) (known_RST_STATUS_BOOT_DONE).agrees (Foot.le_trans (by decide +kernel) hF) ?_
    | with_reducible refine Goes.satUp (List.mem_singleton.2 (fieldName_RST_STATUS_PIN_CNT)) (known_RST_STATUS_PIN_CNT).agrees (Foot.le_trans (by decide +kernel) hF) ?_
    | with_reducible refine Goes.satUp (List.mem_singleton.2 (fieldName_RST_STATUS_REASON)) (known_RST_STATUS_REASON).agrees (Foot.le_trans (by decide +kernel) hF) ?_
    | with_reducible refine Goes.wr (List.mem_singleton.2 (fieldName_RST_STATUS_BOOT_DONE)) (known_RST_STATUS_BOOT_DONE).agrees (Foot.le_trans (by decide +kernel) hF) ?_
    | with_reducible refine Goes.wr (List.mem_singleton.2 (fieldName_RST_STATUS_PIN_CNT)) (known_RST_STATUS_PIN_CNT).agrees (Foot.le_trans (by decide +kernel) hF) ?_
    | with_reducible refine Goes.wr (List.mem_singleton.2 (fieldName_RST_STATUS_REASON)) (known_RST_STATUS_REASON).agrees (Foot.le_trans (by decide +kernel) hF) ?_
    | with_reducible refine Goes.off (List.mem_singleton.2 (fieldName_RST_STATUS_BOOT_DONE)) (known_RST_STATUS_BOOT_DONE).agrees (Foot.le_trans (by decide +kernel) hF) ?_
    | with_reducible refine Goes.off (List.mem_singleton.2 (fieldName_RST_STATUS_PIN_CNT)) (known_RST_STATUS_PIN_CNT).agrees (Foot.le_trans (by decide +kernel) hF) ?_
    | with_reducible refine Goes.off (List.mem_singleton.2 (fieldName_RST_STATUS_REASON)) (known_RST_STATUS_REASON).agrees (Foot.le_trans (by decide +kernel) hF) ?_
    | with_reducible refine Goes.newEra (Foot.le_trans (by decide +kernel) hF) ?_
    | with_reducible refine Goes.blank (Foot.le_trans (by decide +kernel) hF) ?_ ?_
    | with_reducible refine Goes.foldl ?_ ?_
    | exact fun _ w => regsWf_keep w.regs _
    | exact fun _ w => regsWf_empty
    | split
    | intro _

/-- What `State.coldReset` may change. -/
def fp_coldReset : Foot := ⟨[.halves, .sides, .ports, .era, .bct, .calTab, .engines, .slices, .rings, .tags,
  .calStore, .storeWait, .lastStore, .chip, .lastWritten, .imgOp, .txn, .mgmt, .winnows, .windows, .tim, .snap, .tiles,
  .power, .evq, .staged, .now, .count, .replicas], none⟩
theorem Goes.coldReset {s : State} {brownout : Bool} (hF : fp_coldReset.le F = true) (hgo : Goes F s0 s) :
     Goes F s0 (State.coldReset s brownout) := by
  unfold State.coldReset
  try dsimp only
  repeat' first
    | with_reducible assumption
    | with_reducible refine Goes.upM (Foot.le_trans (by decide +kernel) hF) (fun _ h => h) ?_
    | with_reducible refine Goes.upM (Foot.le_trans (by decide +kernel) hF) ?_ ?_
    | with_reducible refine Goes.upPw (Foot.le_trans (by decide +kernel) hF) ?_
    | with_reducible refine Goes.wr (List.mem_singleton.2 (fieldName_RST_STATUS_BOOT_DONE)) (known_RST_STATUS_BOOT_DONE).agrees (Foot.le_trans (by decide +kernel) hF) ?_
    | with_reducible refine Goes.wr (List.mem_singleton.2 (fieldName_RST_STATUS_PIN_CNT)) (known_RST_STATUS_PIN_CNT).agrees (Foot.le_trans (by decide +kernel) hF) ?_
    | with_reducible refine Goes.wr (List.mem_singleton.2 (fieldName_RST_STATUS_REASON)) (known_RST_STATUS_REASON).agrees (Foot.le_trans (by decide +kernel) hF) ?_
    | with_reducible refine Goes.off (List.mem_singleton.2 (fieldName_RST_STATUS_BOOT_DONE)) (known_RST_STATUS_BOOT_DONE).agrees (Foot.le_trans (by decide +kernel) hF) ?_
    | with_reducible refine Goes.off (List.mem_singleton.2 (fieldName_RST_STATUS_PIN_CNT)) (known_RST_STATUS_PIN_CNT).agrees (Foot.le_trans (by decide +kernel) hF) ?_
    | with_reducible refine Goes.off (List.mem_singleton.2 (fieldName_RST_STATUS_REASON)) (known_RST_STATUS_REASON).agrees (Foot.le_trans (by decide +kernel) hF) ?_
    | with_reducible refine Goes.newEra (Foot.le_trans (by decide +kernel) hF) ?_
    | with_reducible refine Goes.blank (Foot.le_trans (by decide +kernel) hF) ?_ ?_
    | with_reducible refine Goes.foldl ?_ ?_
    | exact fun _ w => regsWf_keep w.regs _
    | exact fun _ w => regsWf_empty
    | exact fun _ h => Tab.wf_set h _ _
    | exact fun _ h => Tab.wf_erase h _
    | exact fun _ h => Tab.wf_empty
    | split
    | intro _

end Sys2Proof.Machine
end

