-- ==== Sys2Proof/Laws/OnImgOps.lean ====
section
/-! SUPPORT. What each operation of `Machine/ImgOps.lean` may change: one lemma for each. -/

set_option linter.all false
set_option Elab.async false

namespace Sys2Proof.Machine

variable {F : Foot} {s0 : State}

theorem Tab.wf_ite {α : Type} {c : Prop} [Decidable c] {a b : Tab α} (ha : a.wf) (hb : b.wf) : (if c then a else b).wf := by
  split
  · exact ha
  · exact hb

theorem wf_tableOf (g : Nat → Nat → Nat) (l : List (Nat × Nat)) : (l.foldl (fun (b : Tab Nat) e =>
    if g e.2 e.1 = 0 ∨ 4608 ≤ e.2 then b else b.set e.2 (g e.2 e.1)) {}).wf :=
  Tab.wf_foldl Tab.wf_empty _ (fun _ _ h => Tab.wf_ite h (Tab.wf_set h _ _))

/-- What `State.imageWord` may change. -/
def fp_imageWord : Foot := ⟨[], none⟩
theorem Goes.imageWord {s : State} {x : Nat} {v : Nat} (hF : fp_imageWord.le F = true) (hgo : Goes F s0 s) :
     Goes F s0 (State.imageWord s x v) := by
  unfold State.imageWord
  refine Goes.foldl_mem (fun t ht f hf => ?_) hgo
  split
  · exact Goes.wrAny (knowns_fieldsAt _ f hf).agrees (Foot.le_trans (by decide +kernel) hF) ht
  · exact Goes.wrAny (knowns_fieldsAt _ f hf).agrees (Foot.le_trans (by decide +kernel) hF) ht
  · exact Goes.wrAny (knowns_fieldsAt _ f hf).agrees (Foot.le_trans (by decide +kernel) hF) ht
  · exact Goes.wrAny (knowns_fieldsAt _ f hf).agrees (Foot.le_trans (by decide +kernel) hF) ht
  · exact ht

/-- What `State.putPortMap` may change. -/
def fp_putPortMap : Foot := ⟨[], none⟩
theorem Goes.putPortMap {s : State} {m : List Nat} (hF : fp_putPortMap.le F = true) (hgo : Goes F s0 s) :
     Goes F s0 (State.putPortMap s m) := by
  unfold State.putPortMap
  try dsimp only
  repeat' first
    | with_reducible assumption
    | with_reducible refine Goes.each ?_ ?_
    | with_reducible refine Goes.imageWord (Foot.le_trans (by decide +kernel) hF) ?_
    | with_reducible refine Goes.foldl ?_ ?_
    | split
    | intro _

/-- What `State.putList` may change. -/
def fp_putList : Foot := ⟨[], none⟩
theorem Goes.putList {s : State} {blocks : List Block} {es : List (Nat × Nat)} (hF : fp_putList.le F = true) (hgo : Goes F s0 s) :
     Goes F s0 (State.putList s blocks es) := by
  unfold State.putList
  try dsimp only
  repeat' first
    | with_reducible assumption
    | with_reducible refine Goes.imageWord (Foot.le_trans (by decide +kernel) hF) ?_
    | with_reducible refine Goes.foldl ?_ ?_
    | split
    | intro _

/-- What `State.putPolicies` may change. -/
def fp_putPolicies : Foot := ⟨[.bct], none⟩
theorem Goes.putPolicies {s : State} {i : Image} (hF : fp_putPolicies.le F = true) (hgo : Goes F s0 s) :
     Goes F s0 (State.putPolicies s i) := by
  have h1 : Goes F s0 (s.setBct (i.channelTable.zipIdx.foldl (fun b e =>
      if storedEntry e.2 e.1 = 0 ∨ 4608 ≤ e.2 then b else b.set e.2 (storedEntry e.2 e.1)) {})) :=
    Goes.setBct (Foot.le_trans (by decide +kernel) hF)
      (fun _ _ => wf_tableOf storedEntry _) hgo
  unfold State.putPolicies
  generalize s.setBct (i.channelTable.zipIdx.foldl (fun b e =>
      if storedEntry e.2 e.1 = 0 ∨ 4608 ≤ e.2 then b else b.set e.2 (storedEntry e.2 e.1)) {}) = t at h1
  exact Goes.putList (Foot.le_trans (by decide +kernel) hF) (Goes.putList (Foot.le_trans (by decide +kernel) hF)
    (Goes.putList (Foot.le_trans (by decide +kernel) hF) (Goes.putList (Foot.le_trans (by decide +kernel) hF) h1)))

/-- What `State.bootEnd` may change. -/
def fp_bootEnd : Foot := ⟨[], some [0x20014, 0x20019]⟩
theorem Goes.bootEnd {all bare : State} {refusal : Option (Nat × Nat)} (hF : fp_bootEnd.le F = true) (h1 : Goes F s0 all)
    (h2 : Goes F s0 bare) : Goes F s0 (State.bootEnd all bare refusal) := by
  unfold State.bootEnd
  cases refusal with
  | none => exact h1
  | some r =>
    exact Goes.wr (List.mem_singleton.2 fieldName_IMG_STATUS_STRUCT_REASON) known_IMG_STATUS_STRUCT_REASON.agrees (Foot.le_trans (by decide +kernel) hF)
      (Goes.on (List.mem_singleton.2 fieldName_IMG_STATUS_STRUCT_REFUSED) known_IMG_STATUS_STRUCT_REFUSED.agrees (Foot.le_trans (by decide +kernel) hF) h2)

/-- What `State.bootTxn` may change. -/
def fp_bootTxn : Foot := ⟨[.bct], none⟩
theorem Goes.bootTxn {s : State} {i : Image} (hF : fp_bootTxn.le F = true) (hgo : Goes F s0 s) :
     Goes F s0 (State.bootTxn s i) := by
  have h1 : Goes F s0 (s.putPolicies i) := Goes.putPolicies (Foot.le_trans (by decide +kernel) hF) hgo
  unfold State.bootTxn
  exact Goes.bootEnd (Foot.le_trans (by decide +kernel) hF)
    (Goes.clamped (Foot.le_trans (by decide +kernel) hF) (Goes.putPortMap (Foot.le_trans (by decide +kernel) hF) h1))
    (Goes.clamped (Foot.le_trans (by decide +kernel) hF) h1)

/-- What `State.showFuses` may change. -/
def fp_showFuses : Foot := ⟨[], some [0x20200, 0x2000F]⟩
theorem Goes.showFuses {s : State} (hF : fp_showFuses.le F = true) (hgo : Goes F s0 s) :
     Goes F s0 (State.showFuses s) := by
  unfold State.showFuses
  try dsimp only
  repeat' first
    | with_reducible assumption
    | with_reducible refine Goes.wr (List.mem_singleton.2 (fieldName_IMG_KEYS_SLOT _)) (known_IMG_KEYS_SLOT _).agrees (Foot.le_trans (by decide +kernel) hF) ?_
    | with_reducible refine Goes.wr (List.mem_singleton.2 (fieldName_IMG_STATUS_ARB_FUSE)) (known_IMG_STATUS_ARB_FUSE).agrees (Foot.le_trans (by decide +kernel) hF) ?_
    | with_reducible refine Goes.each ?_ ?_
    | with_reducible refine Goes.foldl ?_ ?_
    | split
    | intro _

/-- What `State.bootShow` may change. -/
def fp_bootShow : Foot := ⟨[.tim], some [0x60000, 0x6001A, 0x60018, 0x60010, 0xC021C, 0xC021D, 0xC0200, 0xC020A,
  0xC020E, 0xC020D, 0xC0214, 0xC0215]⟩
theorem Goes.bootShow {s : State} (hF : fp_bootShow.le F = true) (hgo : Goes F s0 s) :
     Goes F s0 (State.bootShow s) := by
  unfold State.bootShow
  try dsimp only
  repeat' first
    | with_reducible assumption
    | with_reducible refine Goes.showTarget (Foot.le_trans (by decide +kernel) hF) ?_
    | with_reducible refine Goes.showActive (Foot.le_trans (by decide +kernel) hF) ?_
    | with_reducible refine Goes.showRole (Foot.le_trans (by decide +kernel) hF) ?_
    | with_reducible refine Goes.setLevel (Foot.le_trans (by decide +kernel) hF) ?_
    | with_reducible refine Goes.foldl ?_ ?_
    | split
    | intro _

/-- What `State.imgCmd` may change. -/
def fp_imgCmd : Foot := ⟨[.tim, .power, .now, .count, .replicas, .freeCtr], some [0x8009D, 0x8009C, 0x8009F, 0x20007,
  0x6001A, 0x6001C, 0x6000F, 0x60010, 0x60284, 0x60290, 0x60285, 0x60282, 0x60280, 0x60283, 0x60288, 0x60281, 0x6030E,
  0x60300]⟩
theorem Goes.imgCmd {s : State} {act : State → State} (hF : fp_imgCmd.le F = true) (hact : ∀ t, Goes F s0 t → Goes F s0 (act t)) (hgo : Goes F s0 s) :
     Goes F s0 (State.imgCmd s act) := by
  unfold State.imgCmd
  try dsimp only
  repeat' first
    | with_reducible assumption
    | with_reducible refine hact _ ?_
    | with_reducible refine Goes.wr (List.mem_singleton.2 (fieldName_IMG_STATUS_CMD_RESULT)) (known_IMG_STATUS_CMD_RESULT).agrees (Foot.le_trans (by decide +kernel) hF) ?_
    | with_reducible refine Goes.wakeDevice (Foot.le_trans (by decide +kernel) hF) ?_
    | with_reducible refine Goes.foldl ?_ ?_
    | split
    | intro _

/-- What `State.imgDone` may change. -/
def fp_imgDone : Foot := ⟨[.imgOp, .power], some [0x20006, 0x20007]⟩
theorem Goes.imgDone {s : State} {result : Nat} (hF : fp_imgDone.le F = true) (hgo : Goes F s0 s) :
     Goes F s0 (State.imgDone s result) := by
  unfold State.imgDone
  try dsimp only
  repeat' first
    | with_reducible assumption
    | with_reducible refine Goes.wr (List.mem_singleton.2 (fieldName_IMG_STATUS_CMD_BUSY)) (known_IMG_STATUS_CMD_BUSY).agrees (Foot.le_trans (by decide +kernel) hF) ?_
    | with_reducible refine Goes.wr (List.mem_singleton.2 (fieldName_IMG_STATUS_CMD_RESULT)) (known_IMG_STATUS_CMD_RESULT).agrees (Foot.le_trans (by decide +kernel) hF) ?_
    | with_reducible refine Goes.off (List.mem_singleton.2 (fieldName_IMG_STATUS_CMD_BUSY)) (known_IMG_STATUS_CMD_BUSY).agrees (Foot.le_trans (by decide +kernel) hF) ?_
    | with_reducible refine Goes.off (List.mem_singleton.2 (fieldName_IMG_STATUS_CMD_RESULT)) (known_IMG_STATUS_CMD_RESULT).agrees (Foot.le_trans (by decide +kernel) hF) ?_
    | with_reducible refine Goes.setImgOp (Foot.le_trans (by decide +kernel) hF) ?_
    | with_reducible refine Goes.deviceQuiet (Foot.le_trans (by decide +kernel) hF) ?_
    | with_reducible refine Goes.foldl ?_ ?_
    | split
    | intro _

/-- What `State.writeEnd` may change. -/
def fp_writeEnd : Foot := ⟨[.calStore, .storeWait, .lastStore, .imgOp, .tiles, .power], some [0x20011F, 0x20011C,
  0x20006, 0x20007]⟩
theorem Goes.writeEnd {s : State} {result : Nat} (hF : fp_writeEnd.le F = true) (hgo : Goes F s0 s) :
     Goes F s0 (State.writeEnd s result) := by
  unfold State.writeEnd
  try dsimp only
  repeat' first
    | with_reducible assumption
    | with_reducible refine Goes.storeBegin (Foot.le_trans (by decide +kernel) hF) ?_
    | with_reducible refine Goes.imgDone (Foot.le_trans (by decide +kernel) hF) ?_
    | with_reducible refine Goes.foldl ?_ ?_
    | split
    | intro _

/-- What `State.imgRead` may change. -/
def fp_imgRead : Foot := ⟨[.tags, .imgOp, .mgmt, .power, .outbox], some [0x20006, 0x20007]⟩
theorem Goes.imgRead {s : State} {u : ReadFor} (hF : fp_imgRead.le F = true) (hgo : Goes F s0 s) :
     Goes F s0 (State.imgRead s u) := by
  unfold State.imgRead
  try dsimp only
  repeat' first
    | with_reducible assumption
    | with_reducible refine Goes.dmaFail (Foot.le_trans (by decide +kernel) hF) ?_
    | with_reducible refine Goes.askRead (Foot.le_trans (by decide +kernel) hF) ?_
    | with_reducible refine Goes.foldl ?_ ?_
    | split
    | intro _

/-- What `State.imgNext` may change. -/
def fp_imgNext : Foot := ⟨[.tags, .imgOp, .mgmt, .power, .outbox], some [0x20006, 0x20007]⟩
theorem Goes.imgNext {s : State} (hF : fp_imgNext.le F = true) (hgo : Goes F s0 s) :
     Goes F s0 (State.imgNext s) := by
  unfold State.imgNext
  try dsimp only
  repeat' first
    | with_reducible assumption
    | with_reducible refine Goes.imgRead (Foot.le_trans (by decide +kernel) hF) ?_
    | with_reducible refine Goes.foldl ?_ ?_
    | split
    | intro _

/-- What `State.confirm` may change. -/
def fp_confirm : Foot := ⟨[.flash], some [0x2001A]⟩
theorem Goes.confirm {s : State} (hF : fp_confirm.le F = true) (hgo : Goes F s0 s) :
     Goes F s0 (State.confirm s) := by
  unfold State.confirm
  try dsimp only
  repeat' first
    | with_reducible assumption
    | with_reducible refine Goes.setTrailer (Foot.le_trans (by decide +kernel) hF) ?_
    | with_reducible refine Goes.on (List.mem_singleton.2 (fieldName_IMG_STATUS_CONFIRMED)) (known_IMG_STATUS_CONFIRMED).agrees (Foot.le_trans (by decide +kernel) hF) ?_
    | with_reducible refine Goes.foldl ?_ ?_
    | split
    | intro _

/-- What `State.atStep` may change. -/
def fp_atStep : Foot := ⟨[.imgOp], some []⟩
theorem Goes.atStep {s : State} {w : ImgWrite} {step : Nat} (hF : fp_atStep.le F = true) (hgo : Goes F s0 s) :
     Goes F s0 (State.atStep s w step) := by
  unfold State.atStep
  try dsimp only
  repeat' first
    | with_reducible assumption
    | with_reducible refine Goes.setImgOp (Foot.le_trans (by decide +kernel) hF) ?_
    | with_reducible refine Goes.foldl ?_ ?_
    | split
    | intro _

/-- What `State.writeCheck` may change. -/
def fp_writeCheck : Foot := ⟨[.calStore, .storeWait, .lastStore, .lastWritten, .imgOp, .tiles, .power], some
  [0x20011F, 0x20011C, 0x20006, 0x20007]⟩
theorem Goes.writeCheck {s : State} {w : ImgWrite} (hF : fp_writeCheck.le F = true) (hgo : Goes F s0 s) :
     Goes F s0 (State.writeCheck s w) := by
  unfold State.writeCheck
  try dsimp only
  repeat' first
    | with_reducible assumption
    | with_reducible refine Goes.setLastWritten (Foot.le_trans (by decide +kernel) hF) ?_
    | with_reducible refine Goes.setImgOp (Foot.le_trans (by decide +kernel) hF) ?_
    | with_reducible refine Goes.writeEnd (Foot.le_trans (by decide +kernel) hF) ?_
    | with_reducible refine Goes.foldl ?_ ?_
    | split
    | intro _

/-- What `State.writeStep` may change. -/
def fp_writeStep : Foot := ⟨[.tags, .flash, .calStore, .storeWait, .lastStore, .lastWritten, .imgOp, .mgmt, .tiles,
  .power, .outbox], some [0x20011F, 0x20011C, 0x20006, 0x20007]⟩
theorem Goes.writeStep {s : State} {w : ImgWrite} (hF : fp_writeStep.le F = true) (hgo : Goes F s0 s) :
     Goes F s0 (State.writeStep s w) := by
  unfold State.writeStep
  try dsimp only
  repeat' first
    | with_reducible assumption
    | with_reducible refine Goes.flashErase (Foot.le_trans (by decide +kernel) hF) ?_
    | with_reducible refine Goes.flashWrite (Foot.le_trans (by decide +kernel) hF) ?_
    | with_reducible refine Goes.writeEnd (Foot.le_trans (by decide +kernel) hF) ?_
    | with_reducible refine Goes.atStep (Foot.le_trans (by decide +kernel) hF) ?_
    | with_reducible refine Goes.writeCheck (Foot.le_trans (by decide +kernel) hF) ?_
    | with_reducible refine Goes.imgNext (Foot.le_trans (by decide +kernel) hF) ?_
    | with_reducible refine Goes.foldl ?_ ?_
    | split
    | intro _

/-- What `State.writeFails` may change. -/
def fp_writeFails : Foot := ⟨[.flash, .calStore, .storeWait, .lastStore, .imgOp, .tiles, .power, .freeCtr], some
  [0x20011F, 0x20011C, 0x20006, 0x20007]⟩
theorem Goes.writeFails {s : State} {w : ImgWrite} (hF : fp_writeFails.le F = true) (hgo : Goes F s0 s) :
     Goes F s0 (State.writeFails s w) := by
  unfold State.writeFails
  try dsimp only
  repeat' first
    | with_reducible assumption
    | with_reducible refine Goes.flashSpoil (Foot.le_trans (by decide +kernel) hF) ?_
    | with_reducible refine Goes.writeEnd (Foot.le_trans (by decide +kernel) hF) ?_
    | with_reducible refine Goes.foldl ?_ ?_
    | split
    | intro _

end Sys2Proof.Machine
end

