-- ==== Sys2Proof/Laws/OnLane.lean ====
section
/-! SUPPORT. What each operation of `Machine/Lane.lean` may change: one lemma for each. -/

set_option linter.all false
set_option Elab.async false

namespace Sys2Proof.Machine

variable {F : Foot} {s0 : State}

/-- What `State.lockLost` may change. -/
def fp_lockLost : Foot := ⟨[.halves, .tiles, .evq], some [0x220018, 0x220010, 0x200100, 0xE0390, 0xE0380, 0xE0388,
  0xE0210, 0xE0200, 0xE021E, 0xE0208, 0xE021F, 0xE0280, 0xE0100, 0xE0001, 0x4000418, 0x400029E, 0x4000486, 0x2000104,
  0x2000100, 0x100097]⟩
theorem Goes.lockLost {s : State} {h : Nat} (hF : fp_lockLost.le F = true) (hgo : Goes F s0 s) :
     Goes F s0 (State.lockLost s h) := by
  unfold State.lockLost
  try dsimp only
  repeat' first
    | with_reducible assumption
    | with_reducible refine Goes.upH (Foot.le_trans (by decide +kernel) hF) (fun _ h => h) ?_
    | with_reducible refine Goes.upH (Foot.le_trans (by decide +kernel) hF) ?_ ?_
    | with_reducible refine Goes.abortRun (Foot.le_trans (by decide +kernel) hF) ?_
    | with_reducible refine Goes.setAlign (Foot.le_trans (by decide +kernel) hF) ?_
    | with_reducible refine Goes.off (List.mem_singleton.2 (fieldName_LCH_FOM_LOCK _)) (known_LCH_FOM_LOCK _).agrees (Foot.le_trans (by decide +kernel) hF) ?_
    | with_reducible refine Goes.off (List.mem_singleton.2 (fieldName_LCH_SEG_FEC_FRAME_LOCK _)) (known_LCH_SEG_FEC_FRAME_LOCK _).agrees (Foot.le_trans (by decide +kernel) hF) ?_
    | with_reducible refine Goes.foldl ?_ ?_
    | exact fun _ h => h
    | exact fun _ h => by dsimp only; (repeat' split) <;> exact h
    | split
    | intro _

/-- What `State.quietAcross` may change. -/
def fp_quietAcross : Foot := ⟨[.halves, .sides], some [0x4000398, 0x400038C, 0x4000392, 0x4000386, 0x4000380,
  0x400039E]⟩
theorem Goes.quietAcross {s : State} {h : Nat} (hF : fp_quietAcross.le F = true) (hgo : Goes F s0 s) :
     Goes F s0 (State.quietAcross s h) := by
  unfold State.quietAcross
  try dsimp only
  repeat' first
    | with_reducible assumption
    | with_reducible refine Goes.pathSoon (Foot.le_trans (by decide +kernel) hF) ?_
    | with_reducible refine Goes.setTx (Foot.le_trans (by decide +kernel) hF) ?_
    | with_reducible refine Goes.foldl ?_ ?_
    | split
    | intro _

/-- What `State.loopbackEnd` may change. -/
def fp_loopbackEnd : Foot := ⟨[.halves, .sides, .ports, .engines, .tiles, .evq], some [0x220018, 0x220010, 0x200100,
  0x40800F, 0x408008, 0x40800A, 0x408000, 0x40800C, 0xE0390, 0xE0380, 0xE0388, 0xE0210, 0xE0200, 0xE021E, 0xE0208,
  0xE021F, 0xE0280, 0xE0100, 0xE0001, 0x4000418, 0x4000413, 0x400041F, 0x4000294, 0x4000280, 0x400029D, 0x400029E,
  0x4000290, 0x400051C, 0x4000398, 0x400038C, 0x4000392, 0x4000386, 0x4000380, 0x400039E, 0x2000104, 0x200011E,
  0x200010C, 0x2000100, 0x200011D, 0x2000108, 0x200011F, 0x2000510, 0x2000508, 0x200048F, 0x2000498, 0x2000494,
  0x200048E, 0x200048B, 0x2000488, 0x2000490, 0x200049C, 0x2000492, 0x100097]⟩
theorem Goes.loopbackEnd {s : State} {p : Nat} (hF : fp_loopbackEnd.le F = true) (hgo : Goes F s0 s) :
     Goes F s0 (State.loopbackEnd s p) := by
  unfold State.loopbackEnd
  try dsimp only
  repeat' first
    | with_reducible assumption
    | with_reducible refine Goes.enterDetect (Foot.le_trans (by decide +kernel) hF) ?_
    | with_reducible refine Goes.foldl ?_ ?_
    | split
    | intro _

/-- What `execSignalDetectRise` may change. -/
def fp_execSignalDetectRise : Foot := ⟨[.halves, .sides, .ports, .tim, .tiles, .power, .evq, .now, .count, .replicas,
  .freeCtr], some [0x8009D, 0x8009C, 0x8009F, 0x100, 0x4000418, 0x4000294, 0x4000280, 0x400029D, 0x400029E, 0x400029F,
  0x2000104, 0x2000100, 0x200091C, 0x6001A, 0x6001C, 0x6000F, 0x60010, 0x60284, 0x60290, 0x60285, 0x60282, 0x60280,
  0x60283, 0x60288, 0x60281, 0x6030E, 0x60300]⟩
theorem goes_execSignalDetectRise {h : HalfId} {s : State} (hF : fp_execSignalDetectRise.le F = true) (hgo : Goes F s0 s) :
     Runs F s0 (execSignalDetectRise h s) := by
  unfold execSignalDetectRise
  try dsimp only
  repeat' first
    | with_reducible assumption
    | with_reducible refine Runs.next ?_
    | with_reducible refine Goes.pathSoon (Foot.le_trans (by decide +kernel) hF) ?_
    | with_reducible refine Goes.upH (Foot.le_trans (by decide +kernel) hF) (fun _ h => h) ?_
    | with_reducible refine Goes.upH (Foot.le_trans (by decide +kernel) hF) ?_ ?_
    | with_reducible refine Goes.noted (Foot.le_trans (by decide +kernel) hF) ?_
    | with_reducible refine Goes.segSignals (Foot.le_trans (by decide +kernel) hF) ?_
    | with_reducible refine Goes.on (List.mem_singleton.2 (fieldName_LCH_FOM_SIGDET _)) (known_LCH_FOM_SIGDET _).agrees (Foot.le_trans (by decide +kernel) hF) ?_
    | with_reducible refine Goes.sigdetWake (Foot.le_trans (by decide +kernel) hF) ?_
    | with_reducible refine Goes.foldl ?_ ?_
    | exact fun _ h => h
    | exact fun _ h => by dsimp only; (repeat' split) <;> exact h
    | split
    | intro _

/-- What `execSignalDetectFall` may change. -/
def fp_execSignalDetectFall : Foot := ⟨[.halves, .sides, .ports, .engines, .tiles, .evq], some [0x220018, 0x220010,
  0x200100, 0x40800F, 0x408008, 0x40800A, 0x408000, 0x40800C, 0xE0390, 0xE0380, 0xE0388, 0xE0210, 0xE0200, 0xE021E,
  0xE0208, 0xE021F, 0xE0280, 0xE0100, 0xE0001, 0x4000418, 0x4000413, 0x400041F, 0x4000294, 0x4000280, 0x400029D,
  0x400029E, 0x4000290, 0x400029F, 0x400050E, 0x400051C, 0x4000513, 0x4000486, 0x4000398, 0x400038C, 0x4000392,
  0x4000386, 0x4000380, 0x400039E, 0x2000104, 0x200011E, 0x200010C, 0x2000100, 0x200011D, 0x2000108, 0x200011F,
  0x2000D05, 0x2000D06, 0x2000D00, 0x2000510, 0x2000508, 0x200048F, 0x2000498, 0x2000494, 0x200048E, 0x200048B,
  0x2000488, 0x2000490, 0x200049C, 0x2000492, 0x100097]⟩
theorem goes_execSignalDetectFall {h : HalfId} {s : State} (hF : fp_execSignalDetectFall.le F = true) (hgo : Goes F s0 s) :
     Runs F s0 (execSignalDetectFall h s) := by
  unfold execSignalDetectFall
  try dsimp only
  repeat' first
    | with_reducible assumption
    | with_reducible refine Runs.next ?_
    | with_reducible refine Goes.noted (Foot.le_trans (by decide +kernel) hF) ?_
    | with_reducible refine Goes.loopbackEnd (Foot.le_trans (by decide +kernel) hF) ?_
    | with_reducible refine Goes.rxIdle (Foot.le_trans (by decide +kernel) hF) ?_
    | with_reducible refine Goes.off (List.mem_singleton.2 (fieldName_LCH_FOM_SIGDET _)) (known_LCH_FOM_SIGDET _).agrees (Foot.le_trans (by decide +kernel) hF) ?_
    | with_reducible refine Goes.showSide (Foot.le_trans (by decide +kernel) hF) ?_
    | with_reducible refine Goes.lockLost (Foot.le_trans (by decide +kernel) hF) ?_
    | with_reducible refine Goes.quietAcross (Foot.le_trans (by decide +kernel) hF) ?_
    | with_reducible refine Goes.foldl ?_ ?_
    | split
    | intro _

/-- What `execLockRise` may change. -/
def fp_execLockRise : Foot := ⟨[.halves, .sides, .engines], some [0x40800F, 0x408008, 0x40800A, 0x408000, 0x40800C,
  0x4000418, 0x4000294, 0x400029E, 0x400050E, 0x400051C, 0x4000513, 0x400030C, 0x4000304, 0x4000313, 0x4000398,
  0x400038C, 0x4000392, 0x4000386, 0x4000380, 0x400039E, 0x2000104, 0x2000100, 0x2000D05, 0x2000D06, 0x2000D00]⟩
theorem goes_execLockRise {h : HalfId} {rx : RxCoef} {s : State} (hF : fp_execLockRise.le F = true) (hgo : Goes F s0 s) :
     Runs F s0 (execLockRise h rx s) := by
  unfold execLockRise
  try dsimp only
  repeat' first
    | with_reducible assumption
    | with_reducible refine Runs.next ?_
    | with_reducible refine Goes.upH (Foot.le_trans (by decide +kernel) hF) (fun _ h => h) ?_
    | with_reducible refine Goes.upH (Foot.le_trans (by decide +kernel) hF) ?_ ?_
    | with_reducible refine Goes.on (List.mem_singleton.2 (fieldName_LCH_FOM_ADAPT_STATE _)) (known_LCH_FOM_ADAPT_STATE _).agrees (Foot.le_trans (by decide +kernel) hF) ?_
    | with_reducible refine Goes.on (List.mem_singleton.2 (fieldName_LCH_FOM_LOCK _)) (known_LCH_FOM_LOCK _).agrees (Foot.le_trans (by decide +kernel) hF) ?_
    | with_reducible refine Goes.forwardAcross (Foot.le_trans (by decide +kernel) hF) ?_
    | with_reducible refine Goes.wr (List.mem_singleton.2 (fieldName_LCH_FOM_ADAPT_STATE _)) (known_LCH_FOM_ADAPT_STATE _).agrees (Foot.le_trans (by decide +kernel) hF) ?_
    | with_reducible refine Goes.wr (List.mem_singleton.2 (fieldName_LCH_FOM_LOCK _)) (known_LCH_FOM_LOCK _).agrees (Foot.le_trans (by decide +kernel) hF) ?_
    | with_reducible refine Goes.setAlign (Foot.le_trans (by decide +kernel) hF) ?_
    | with_reducible refine Goes.showOf (Foot.le_trans (by decide +kernel) hF) ?_
    | with_reducible refine Goes.adapted (Foot.le_trans (by decide +kernel) hF) ?_
    | with_reducible refine Goes.toTrack (Foot.le_trans (by decide +kernel) hF) ?_
    | with_reducible refine Goes.foldl ?_ ?_
    | exact fun _ h => h
    | exact fun _ h => by dsimp only; (repeat' split) <;> exact h
    | split
    | intro _

/-- What `execLockFall` may change. -/
def fp_execLockFall : Foot := ⟨[.halves, .sides, .engines, .tiles, .evq], some [0x220018, 0x220010, 0x200100,
  0x40800F, 0x408008, 0x40800A, 0x408000, 0x40800C, 0xE0390, 0xE0380, 0xE0388, 0xE0210, 0xE0200, 0xE021E, 0xE0208,
  0xE021F, 0xE0280, 0xE0100, 0xE0001, 0x4000418, 0x400029E, 0x400050E, 0x400051C, 0x4000513, 0x4000486, 0x2000104,
  0x2000100, 0x2000D05, 0x2000D06, 0x2000D00, 0x100097]⟩
theorem goes_execLockFall {h : HalfId} {s : State} (hF : fp_execLockFall.le F = true) (hgo : Goes F s0 s) :
     Runs F s0 (execLockFall h s) := by
  unfold execLockFall
  try dsimp only
  repeat' first
    | with_reducible assumption
    | with_reducible refine Runs.next ?_
    | with_reducible refine Goes.showOf (Foot.le_trans (by decide +kernel) hF) ?_
    | with_reducible refine Goes.lockLost (Foot.le_trans (by decide +kernel) hF) ?_
    | with_reducible refine Goes.foldl ?_ ?_
    | split
    | intro _

/-- What `execAcquireStart` may change. -/
def fp_execAcquireStart : Foot := ⟨[.halves, .sides, .ports, .engines, .tiles, .evq], some [0x220008, 0x4000418,
  0x4000294, 0x4000280, 0x400029D, 0x400029E, 0x4000319, 0x400030C, 0x4000304, 0x400031F, 0x4000313, 0x400031E,
  0x4000398, 0x400038C, 0x4000392, 0x4000386, 0x4000380, 0x400039E, 0x2000104, 0x2000100, 0x200091C]⟩
theorem goes_execAcquireStart {h : HalfId} {s : State} (hF : fp_execAcquireStart.le F = true) (hgo : Goes F s0 s) :
     Runs F s0 (execAcquireStart h s) := by
  unfold execAcquireStart
  try dsimp only
  repeat' first
    | with_reducible assumption
    | with_reducible refine Runs.next ?_
    | with_reducible refine Goes.acquire (Foot.le_trans (by decide +kernel) hF) ?_
    | with_reducible refine Goes.noted (Foot.le_trans (by decide +kernel) hF) ?_
    | with_reducible refine Goes.segSignals (Foot.le_trans (by decide +kernel) hF) ?_
    | with_reducible refine Goes.foldl ?_ ?_
    | split
    | intro _

/-- What `execAcquireTimeout` may change. -/
def fp_execAcquireTimeout : Foot := ⟨[.halves], some [0x4000418, 0x4000294, 0x4000280, 0x400029D, 0x400029E,
  0x2000104, 0x2000100]⟩
theorem goes_execAcquireTimeout {h : HalfId} {s : State} (hF : fp_execAcquireTimeout.le F = true) (hgo : Goes F s0 s) :
     Runs F s0 (execAcquireTimeout h s) := by
  unfold execAcquireTimeout
  try dsimp only
  repeat' first
    | with_reducible assumption
    | with_reducible refine Runs.next ?_
    | with_reducible refine Goes.upH (Foot.le_trans (by decide +kernel) hF) (fun _ h => h) ?_
    | with_reducible refine Goes.upH (Foot.le_trans (by decide +kernel) hF) ?_ ?_
    | with_reducible refine Goes.rxIdle (Foot.le_trans (by decide +kernel) hF) ?_
    | with_reducible refine Goes.foldl ?_ ?_
    | exact fun _ h => h
    | exact fun _ h => by dsimp only; (repeat' split) <;> exact h
    | split
    | intro _

/-- What `execConvergeTimeout` may change. -/
def fp_execConvergeTimeout : Foot := ⟨[.halves], some [0x4000294, 0x400029C]⟩
theorem goes_execConvergeTimeout {h : HalfId} {s : State} (hF : fp_execConvergeTimeout.le F = true) (hgo : Goes F s0 s) :
     Runs F s0 (execConvergeTimeout h s) := by
  unfold execConvergeTimeout
  try dsimp only
  repeat' first
    | with_reducible assumption
    | with_reducible refine Runs.next ?_
    | with_reducible refine Goes.leaveConverge (Foot.le_trans (by decide +kernel) hF) ?_
    | with_reducible refine Goes.put (List.mem_singleton.2 (fieldName_LCH_FOM_BELOW_TARGET _)) (known_LCH_FOM_BELOW_TARGET _).agrees (Foot.le_trans (by decide +kernel) hF) ?_
    | with_reducible refine Goes.foldl ?_ ?_
    | split
    | intro _

/-- What `execFreezeWrite` may change. -/
def fp_execFreezeWrite : Foot := ⟨[.halves, .sides, .ports, .engines, .mgmt, .tim, .tiles, .power, .evq, .now, .count,
  .replicas, .outbox, .freeCtr], none⟩
theorem goes_execFreezeWrite {h : HalfId} {v : Bool} {s : State} (hF : fp_execFreezeWrite.le F = true) (hgo : Goes F s0 s) :
     Runs F s0 (execFreezeWrite h v s) := by
  unfold execFreezeWrite
  try dsimp only
  repeat' first
    | with_reducible assumption
    | with_reducible refine Runs.next ?_
    | with_reducible refine Goes.tileStore (Foot.le_trans (by decide +kernel) hF) ?_
    | with_reducible refine Goes.hostWrite (Foot.le_trans (by decide +kernel) hF) ?_ ?_
    | with_reducible refine Goes.foldl ?_ ?_
    | split
    | intro _

/-- What `execFomMinClr` may change. -/
def fp_execFomMinClr : Foot := ⟨[.halves, .sides, .ports, .engines, .mgmt, .tim, .tiles, .power, .evq, .now, .count,
  .replicas, .outbox, .freeCtr], none⟩
theorem goes_execFomMinClr {h : HalfId} {s : State} (hF : fp_execFomMinClr.le F = true) (hgo : Goes F s0 s) :
     Runs F s0 (execFomMinClr h s) := by
  unfold execFomMinClr
  try dsimp only
  repeat' first
    | with_reducible assumption
    | with_reducible refine Runs.next ?_
    | with_reducible refine Goes.tileStore (Foot.le_trans (by decide +kernel) hF) ?_
    | with_reducible refine Goes.hostWrite (Foot.le_trans (by decide +kernel) hF) ?_ ?_
    | with_reducible refine Goes.foldl ?_ ?_
    | split
    | intro _

end Sys2Proof.Machine
end

