-- ==== Sys2Proof/Laws/OnDatapath.lean ====
section
/-! SUPPORT. What each operation of `Machine/Datapath.lean` may change: one lemma for each. -/

set_option linter.all false
set_option Elab.async false

namespace Sys2Proof.Machine

variable {F : Foot} {s0 : State}

/-- What `State.streamsRun` may change. -/
def fp_streamsRun : Foot := ⟨[.halves, .ports, .engines, .tiles, .evq], some [0x220018, 0x220010, 0x200100, 0x40800F,
  0x408008, 0x40800A, 0x408000, 0x40800C, 0xE0390, 0xE0380, 0xE0388, 0xE0210, 0xE0200, 0xE021E, 0xE0208, 0xE021F,
  0xE0280, 0xE0100, 0xE0001, 0x200011F, 0x2000510, 0x2000508, 0x2000498, 0x200048B, 0x200049C, 0x100097]⟩
theorem Goes.streamsRun {s : State} {p : Nat} {flit : Bool} (hF : fp_streamsRun.le F = true) (hgo : Goes F s0 s) :
     Goes F s0 (State.streamsRun s p flit) := by
  unfold State.streamsRun
  try dsimp only
  repeat' first
    | with_reducible assumption
    | with_reducible refine Goes.upH (Foot.le_trans (by decide +kernel) hF) (fun _ h => h) ?_
    | with_reducible refine Goes.upH (Foot.le_trans (by decide +kernel) hF) ?_ ?_
    | with_reducible refine Goes.setTrn (Foot.le_trans (by decide +kernel) hF) ?_
    | with_reducible refine Goes.upP (Foot.le_trans (by decide +kernel) hF) ?_
    | with_reducible refine Goes.each ?_ ?_
    | with_reducible refine Goes.put (List.mem_singleton.2 (fieldName_PRT_DP_STATUS_FLIT _)) (known_PRT_DP_STATUS_FLIT _).agrees (Foot.le_trans (by decide +kernel) hF) ?_
    | with_reducible refine Goes.foldl ?_ ?_
    | exact fun _ h => h
    | exact fun _ h => by dsimp only; (repeat' split) <;> exact h
    | split
    | intro _

/-- What `State.markStream` may change. -/
def fp_markStream : Foot := ⟨[.ports], some []⟩
theorem Goes.markStream {s : State} {q : Nat} (hF : fp_markStream.le F = true) (hgo : Goes F s0 s) :
     Goes F s0 (State.markStream s q) := by
  unfold State.markStream
  try dsimp only
  repeat' first
    | with_reducible assumption
    | with_reducible refine Goes.upP (Foot.le_trans (by decide +kernel) hF) ?_
    | with_reducible refine Goes.foldl ?_ ?_
    | split
    | intro _

/-- What `State.passOn` may change. -/
def fp_passOn : Foot := ⟨[.outbox], some []⟩
theorem Goes.passOn {s : State} {h : Nat} {o : Nat → Out} (hF : fp_passOn.le F = true) (hgo : Goes F s0 s) :
     Goes F s0 (State.passOn s h o) := by
  unfold State.passOn
  try dsimp only
  repeat' first
    | with_reducible assumption
    | with_reducible refine Goes.emit (Foot.le_trans (by decide +kernel) hF) ?_
    | with_reducible refine Goes.foldl ?_ ?_
    | split
    | intro _

/-- What `State.passMark` may change. -/
def fp_passMark : Foot := ⟨[.outbox], some []⟩
theorem Goes.passMark {s : State} {h : Nat} {what : Nat} (hF : fp_passMark.le F = true) (hgo : Goes F s0 s) :
     Goes F s0 (State.passMark s h what) := by
  unfold State.passMark
  try dsimp only
  repeat' first
    | with_reducible assumption
    | with_reducible refine Goes.passOn (Foot.le_trans (by decide +kernel) hF) ?_
    | with_reducible refine Goes.foldl ?_ ?_
    | split
    | intro _

/-- What `State.passItems` may change. -/
def fp_passItems : Foot := ⟨[.outbox], some []⟩
theorem Goes.passItems {s : State} {h : Nat} {items : List StreamItem} (hF : fp_passItems.le F = true) (hgo : Goes F s0 s) :
     Goes F s0 (State.passItems s h items) := by
  unfold State.passItems
  try dsimp only
  repeat' first
    | with_reducible assumption
    | with_reducible refine Goes.passOn (Foot.le_trans (by decide +kernel) hF) ?_
    | with_reducible refine Goes.foldl ?_ ?_
    | split
    | intro _

/-- What `State.flitDrop` may change. -/
def fp_flitDrop : Foot := ⟨[.evq], some [0xE0390, 0xE0380, 0xE0388, 0xE0210, 0xE0200, 0xE021E, 0xE0208, 0xE021F,
  0xE0280, 0xE0100, 0xE0001, 0x2000902, 0x100097]⟩
theorem Goes.flitDrop {s : State} {q : Nat} (hF : fp_flitDrop.le F = true) (hgo : Goes F s0 s) :
     Goes F s0 (State.flitDrop s q) := by
  unfold State.flitDrop
  try dsimp only
  repeat' first
    | with_reducible assumption
    | with_reducible refine Goes.on (List.mem_singleton.2 (fieldName_PRT_SEG_STATUS_FLIT_DROP _)) (known_PRT_SEG_STATUS_FLIT_DROP _).agrees (Foot.le_trans (by decide +kernel) hF) ?_
    | with_reducible refine Goes.raise (Foot.le_trans (by decide +kernel) hF) ?_
    | with_reducible refine Goes.foldl ?_ ?_
    | split
    | intro _

/-- What `State.enterFlits` may change. -/
def fp_enterFlits : Foot := ⟨[.sides, .evq], some [0xE0390, 0xE0380, 0xE0388, 0xE0210, 0xE0200, 0xE021E, 0xE0208,
  0xE021F, 0xE0280, 0xE0100, 0xE0001, 0x2000902, 0x100097]⟩
theorem Goes.enterFlits {s : State} {q : Nat} {arrived : List StreamItem} (hF : fp_enterFlits.le F = true) (hgo : Goes F s0 s) :
     Goes F s0 (State.enterFlits s q arrived) := by
  unfold State.enterFlits
  try dsimp only
  repeat' first
    | with_reducible assumption
    | with_reducible refine Goes.upS (Foot.le_trans (by decide +kernel) hF) ?_
    | with_reducible refine Goes.flitDrop (Foot.le_trans (by decide +kernel) hF) ?_
    | with_reducible refine Goes.foldl ?_ ?_
    | split
    | intro _

/-- What `State.pushOset` may change. -/
def fp_pushOset : Foot := ⟨[.sides], some []⟩
theorem Goes.pushOset {s : State} {sg : Nat} {kind : Nat} {lane : Nat} (hF : fp_pushOset.le F = true) (hgo : Goes F s0 s) :
     Goes F s0 (State.pushOset s sg kind lane) := by
  unfold State.pushOset
  try dsimp only
  repeat' first
    | with_reducible assumption
    | with_reducible refine Goes.upS (Foot.le_trans (by decide +kernel) hF) ?_
    | with_reducible refine Goes.foldl ?_ ?_
    | split
    | intro _

/-- What `State.relayOset` may change. -/
def fp_relayOset : Foot := ⟨[.sides], some []⟩
theorem Goes.relayOset {s : State} {q : Nat} {h : Nat} {kind : Nat} (hF : fp_relayOset.le F = true) (hgo : Goes F s0 s) :
     Goes F s0 (State.relayOset s q h kind) := by
  unfold State.relayOset
  try dsimp only
  repeat' first
    | with_reducible assumption
    | with_reducible refine Goes.pushOset (Foot.le_trans (by decide +kernel) hF) ?_
    | with_reducible refine Goes.foldl ?_ ?_
    | split
    | intro _

/-- What `State.deskewFailed` may change. -/
def fp_deskewFailed : Foot := ⟨[.halves, .sides, .ports, .engines, .tiles, .evq], some [0x220018, 0x220010, 0x200100,
  0x40800F, 0x408008, 0x40800A, 0x408000, 0x40800C, 0xE0390, 0xE0380, 0xE0388, 0xE0210, 0xE0200, 0xE021E, 0xE0208,
  0xE021F, 0xE0280, 0xE0100, 0xE0001, 0x4000418, 0x4000413, 0x400041F, 0x4000294, 0x4000280, 0x400029D, 0x400029E,
  0x4000290, 0x4000500, 0x400050D, 0x4000518, 0x400050E, 0x400051C, 0x4000513, 0x4000486, 0x4000480, 0x4000487,
  0x4000398, 0x400038C, 0x4000392, 0x4000386, 0x4000380, 0x400039E, 0x2000104, 0x200011E, 0x200010C, 0x2000100,
  0x200011D, 0x2000108, 0x2000119, 0x200011F, 0x200090A, 0x200091C, 0x2000E08, 0x2000D05, 0x2000D03, 0x2000D06,
  0x2000D10, 0x2000D00, 0x2000D1C, 0x2000D08, 0x2000D18, 0x2000510, 0x2000508, 0x200048F, 0x2000498, 0x2000494,
  0x200048E, 0x200048B, 0x2000488, 0x2000490, 0x200049C, 0x2000492, 0x100097]⟩
theorem Goes.deskewFailed {s : State} {q : Nat} {lane : Option Nat} (hF : fp_deskewFailed.le F = true) (hgo : Goes F s0 s) :
     Goes F s0 (State.deskewFailed s q lane) := by
  unfold State.deskewFailed
  try dsimp only
  repeat' first
    | with_reducible assumption
    | with_reducible refine Goes.stdLaneFault (Foot.le_trans (by decide +kernel) hF) ?_
    | with_reducible refine Goes.upH (Foot.le_trans (by decide +kernel) hF) (fun _ h => h) ?_
    | with_reducible refine Goes.upH (Foot.le_trans (by decide +kernel) hF) ?_ ?_
    | with_reducible refine Goes.declareFault (Foot.le_trans (by decide +kernel) hF) ?_
    | with_reducible refine Goes.on (List.mem_singleton.2 (fieldName_PRT_DP_STATUS_DESKEW_FAIL _)) (known_PRT_DP_STATUS_DESKEW_FAIL _).agrees (Foot.le_trans (by decide +kernel) hF) ?_
    | with_reducible refine Goes.each ?_ ?_
    | with_reducible refine Goes.raise (Foot.le_trans (by decide +kernel) hF) ?_
    | with_reducible refine Goes.foldl ?_ ?_
    | exact fun _ h => h
    | exact fun _ h => by dsimp only; (repeat' split) <;> exact h
    | split
    | intro _

/-- What `State.noteArrival` may change. -/
def fp_noteArrival : Foot := ⟨[.halves, .sides, .ports, .engines, .tiles, .evq], some [0x220018, 0x220010, 0x200100,
  0x40800F, 0x408008, 0x40800A, 0x408000, 0x40800C, 0xE0390, 0xE0380, 0xE0388, 0xE0210, 0xE0200, 0xE021E, 0xE0208,
  0xE021F, 0xE0280, 0xE0100, 0xE0001, 0x4000418, 0x4000413, 0x400041F, 0x4000408, 0x4000294, 0x4000280, 0x400029D,
  0x400029E, 0x4000290, 0x4000500, 0x400050D, 0x4000518, 0x400050E, 0x400051C, 0x4000513, 0x4000486, 0x4000480,
  0x4000487, 0x4000398, 0x400038C, 0x4000392, 0x4000386, 0x4000380, 0x400039E, 0x2000104, 0x200011E, 0x200010C,
  0x2000100, 0x200011D, 0x2000108, 0x2000119, 0x200011F, 0x200090A, 0x200091C, 0x2000E08, 0x2000D05, 0x2000D03,
  0x2000D06, 0x2000D10, 0x2000D00, 0x2000D1C, 0x2000D08, 0x2000D18, 0x2000510, 0x2000508, 0x200048F, 0x2000498,
  0x2000494, 0x200048E, 0x200048B, 0x2000488, 0x2000490, 0x200049C, 0x2000492, 0x100097]⟩
theorem Goes.noteArrival {s : State} {q : Nat} {h : Nat} {arrival : Nat} (hF : fp_noteArrival.le F = true) (hgo : Goes F s0 s) :
     Goes F s0 (State.noteArrival s q h arrival) := by
  unfold State.noteArrival
  try dsimp only
  repeat' first
    | with_reducible assumption
    | with_reducible refine Goes.upH (Foot.le_trans (by decide +kernel) hF) (fun _ h => h) ?_
    | with_reducible refine Goes.upH (Foot.le_trans (by decide +kernel) hF) ?_ ?_
    | with_reducible refine Goes.wr (List.mem_singleton.2 (fieldName_LCH_DP_STATUS_SKEW _)) (known_LCH_DP_STATUS_SKEW _).agrees (Foot.le_trans (by decide +kernel) hF) ?_
    | with_reducible refine Goes.deskewFailed (Foot.le_trans (by decide +kernel) hF) ?_
    | with_reducible refine Goes.foldl ?_ ?_
    | exact fun _ h => h
    | exact fun _ h => by dsimp only; (repeat' split) <;> exact h
    | split
    | intro _

/-- What `execAlignmentGained` may change. -/
def fp_execAlignmentGained : Foot := ⟨[.halves, .sides, .ports, .engines, .tiles, .evq], some [0x220018, 0x220010,
  0x200100, 0x40800F, 0x408008, 0x40800A, 0x408000, 0x40800C, 0xE0390, 0xE0380, 0xE0388, 0xE0210, 0xE0200, 0xE021E,
  0xE0208, 0xE021F, 0xE0280, 0xE0100, 0xE0001, 0x4000418, 0x4000413, 0x400041F, 0x4000408, 0x4000294, 0x4000280,
  0x400029D, 0x400029E, 0x4000290, 0x4000500, 0x400050D, 0x4000518, 0x400050E, 0x400051C, 0x4000513, 0x4000486,
  0x4000480, 0x4000487, 0x4000398, 0x400038C, 0x4000392, 0x4000386, 0x4000380, 0x400039E, 0x2000104, 0x200011E,
  0x200010C, 0x2000100, 0x200011D, 0x2000108, 0x2000119, 0x200011F, 0x200090A, 0x200091C, 0x2000E08, 0x2000D05,
  0x2000D03, 0x2000D06, 0x2000D10, 0x2000D00, 0x2000D1C, 0x2000D08, 0x2000D18, 0x2000510, 0x2000508, 0x200048F,
  0x2000498, 0x2000494, 0x200048E, 0x200048B, 0x2000488, 0x2000490, 0x200049C, 0x2000492, 0x100097]⟩
theorem goes_execAlignmentGained {h : HalfId} {arrival : Nat} {s : State} (hF : fp_execAlignmentGained.le F = true) (hgo : Goes F s0 s) :
     Runs F s0 (execAlignmentGained h arrival s) := by
  unfold execAlignmentGained
  try dsimp only
  repeat' first
    | with_reducible assumption
    | with_reducible refine Runs.next ?_
    | with_reducible refine Goes.pathSoon (Foot.le_trans (by decide +kernel) hF) ?_
    | with_reducible refine Goes.upH (Foot.le_trans (by decide +kernel) hF) (fun _ h => h) ?_
    | with_reducible refine Goes.upH (Foot.le_trans (by decide +kernel) hF) ?_ ?_
    | with_reducible refine Goes.noted (Foot.le_trans (by decide +kernel) hF) ?_
    | with_reducible refine Goes.forwardAcross (Foot.le_trans (by decide +kernel) hF) ?_
    | with_reducible refine Goes.noteArrival (Foot.le_trans (by decide +kernel) hF) ?_
    | with_reducible refine Goes.setAlign (Foot.le_trans (by decide +kernel) hF) ?_
    | with_reducible refine Goes.showStd (Foot.le_trans (by decide +kernel) hF) ?_
    | with_reducible refine Goes.foldl ?_ ?_
    | exact fun _ h => h
    | exact fun _ h => by dsimp only; (repeat' split) <;> exact h
    | split
    | intro _

/-- What `execAlignmentLost` may change. -/
def fp_execAlignmentLost : Foot := ⟨[.halves], some [0x4000418, 0x2000104, 0x2000100]⟩
theorem goes_execAlignmentLost {h : HalfId} {s : State} (hF : fp_execAlignmentLost.le F = true) (hgo : Goes F s0 s) :
     Runs F s0 (execAlignmentLost h s) := by
  unfold execAlignmentLost
  try dsimp only
  repeat' first
    | with_reducible assumption
    | with_reducible refine Runs.next ?_
    | with_reducible refine Goes.setAlign (Foot.le_trans (by decide +kernel) hF) ?_
    | with_reducible refine Goes.foldl ?_ ?_
    | split
    | intro _

/-- What `execDataStreamStart` may change. -/
def fp_execDataStreamStart : Foot := ⟨[.halves, .sides, .ports, .engines, .tiles, .evq, .outbox], some [0x220018,
  0x220010, 0x200100, 0x40800F, 0x408008, 0x40800A, 0x408000, 0x40800C, 0xE0390, 0xE0380, 0xE0388, 0xE0210, 0xE0200,
  0xE021E, 0xE0208, 0xE021F, 0xE0280, 0xE0100, 0xE0001, 0x4000418, 0x4000413, 0x400041F, 0x4000294, 0x4000280,
  0x400029D, 0x400029E, 0x4000290, 0x400051C, 0x4000398, 0x400038C, 0x4000392, 0x4000386, 0x4000380, 0x400039E,
  0x2000104, 0x200011E, 0x200010C, 0x2000100, 0x200011D, 0x2000108, 0x200011F, 0x2000510, 0x200051C, 0x2000508,
  0x200048F, 0x2000498, 0x2000494, 0x200048E, 0x200048B, 0x2000488, 0x2000484, 0x2000490, 0x200049C, 0x2000492,
  0x100097]⟩
theorem goes_execDataStreamStart {h : HalfId} {flit : Bool} {s : State} (hF : fp_execDataStreamStart.le F = true) (hgo : Goes F s0 s) :
     Runs F s0 (execDataStreamStart h flit s) := by
  unfold execDataStreamStart
  try dsimp only
  repeat' first
    | with_reducible assumption
    | with_reducible refine Runs.next ?_
    | with_reducible refine Goes.upH (Foot.le_trans (by decide +kernel) hF) (fun _ h => h) ?_
    | with_reducible refine Goes.upH (Foot.le_trans (by decide +kernel) hF) ?_ ?_
    | with_reducible refine Goes.noted (Foot.le_trans (by decide +kernel) hF) ?_
    | with_reducible refine Goes.refuseNonflit (Foot.le_trans (by decide +kernel) hF) ?_
    | with_reducible refine Goes.wr (List.mem_singleton.2 (fieldName_PRT_TRN_STATUS_NONFLIT_COUNT _)) (known_PRT_TRN_STATUS_NONFLIT_COUNT _).agrees (Foot.le_trans (by decide +kernel) hF) ?_
    | with_reducible refine Goes.setAlign (Foot.le_trans (by decide +kernel) hF) ?_
    | with_reducible refine Goes.markStream (Foot.le_trans (by decide +kernel) hF) ?_
    | with_reducible refine Goes.streamsRun (Foot.le_trans (by decide +kernel) hF) ?_
    | with_reducible refine Goes.passMark (Foot.le_trans (by decide +kernel) hF) ?_
    | with_reducible refine Goes.foldl ?_ ?_
    | exact fun _ h => h
    | exact fun _ h => by dsimp only; (repeat' split) <;> exact h
    | split
    | intro _

/-- What `execDataStreamEnd` may change. -/
def fp_execDataStreamEnd : Foot := ⟨[.halves, .sides, .ports, .engines, .tiles, .evq, .outbox], some [0x220018,
  0x220010, 0x200100, 0x40800F, 0x408008, 0x40800A, 0x408000, 0x40800C, 0xE0390, 0xE0380, 0xE0388, 0xE0210, 0xE0200,
  0xE021E, 0xE0208, 0xE021F, 0xE0280, 0xE0100, 0xE0001, 0x4000418, 0x4000294, 0x4000280, 0x400029D, 0x400029E,
  0x400051C, 0x4000398, 0x400038C, 0x4000392, 0x4000386, 0x4000380, 0x400039E, 0x2000104, 0x2000100, 0x200011F,
  0x2000902, 0x2000510, 0x2000508, 0x2000498, 0x200048B, 0x200049C, 0x100097]⟩
theorem goes_execDataStreamEnd {h : HalfId} {stop : StreamStop} {s : State} (hF : fp_execDataStreamEnd.le F = true) (hgo : Goes F s0 s) :
     Runs F s0 (execDataStreamEnd h stop s) := by
  unfold execDataStreamEnd
  try dsimp only
  repeat' first
    | with_reducible assumption
    | with_reducible refine Runs.next ?_
    | with_reducible refine Goes.enterForward (Foot.le_trans (by decide +kernel) hF) ?_
    | with_reducible refine Goes.upH (Foot.le_trans (by decide +kernel) hF) (fun _ h => h) ?_
    | with_reducible refine Goes.upH (Foot.le_trans (by decide +kernel) hF) ?_ ?_
    | with_reducible refine Goes.noted (Foot.le_trans (by decide +kernel) hF) ?_
    | with_reducible refine Goes.relayOset (Foot.le_trans (by decide +kernel) hF) ?_
    | with_reducible refine Goes.enterFlits (Foot.le_trans (by decide +kernel) hF) ?_
    | with_reducible refine Goes.setAlign (Foot.le_trans (by decide +kernel) hF) ?_
    | with_reducible refine Goes.passItems (Foot.le_trans (by decide +kernel) hF) ?_
    | with_reducible refine Goes.passMark (Foot.le_trans (by decide +kernel) hF) ?_
    | with_reducible refine Goes.foldl ?_ ?_
    | exact fun _ h => h
    | exact fun _ h => by dsimp only; (repeat' split) <;> exact h
    | split
    | intro _

/-- What `execNonflitHoldExpiry` may change. -/
def fp_execNonflitHoldExpiry : Foot := ⟨[.sides, .ports, .tim, .power, .now, .count, .replicas, .elapsed], some
  [0xC021B, 0xC0280]⟩
theorem goes_execNonflitHoldExpiry {p : PortId} {s : State} (hF : fp_execNonflitHoldExpiry.le F = true) (hgo : Goes F s0 s) :
     Runs F s0 (execNonflitHoldExpiry p s) := by
  unfold execNonflitHoldExpiry
  try dsimp only
  repeat' first
    | with_reducible assumption
    | with_reducible refine Runs.next ?_
    | with_reducible refine Goes.advanceTo (Foot.le_trans (by decide +kernel) hF) ?_
    | with_reducible refine Goes.pathSoon (Foot.le_trans (by decide +kernel) hF) ?_
    | with_reducible refine Goes.upP (Foot.le_trans (by decide +kernel) hF) ?_
    | with_reducible refine Goes.foldl ?_ ?_
    | split
    | intro _

/-- What `State.countSkp` may change. -/
def fp_countSkp : Foot := ⟨[], some [0x2000190, 0x2000180]⟩
theorem Goes.countSkp {s : State} {q : Nat} {a : Int} (hF : fp_countSkp.le F = true) (hgo : Goes F s0 s) :
     Goes F s0 (State.countSkp s q a) := by
  unfold State.countSkp
  try dsimp only
  repeat' first
    | with_reducible assumption
    | with_reducible refine Goes.wrapUp (List.mem_singleton.2 (fieldName_PRT_SKP_ADJ_ADD _)) (known_PRT_SKP_ADJ_ADD _).agrees (Foot.le_trans (by decide +kernel) hF) ?_
    | with_reducible refine Goes.wrapUp (List.mem_singleton.2 (fieldName_PRT_SKP_ADJ_DEL _)) (known_PRT_SKP_ADJ_DEL _).agrees (Foot.le_trans (by decide +kernel) hF) ?_
    | with_reducible refine Goes.foldl ?_ ?_
    | split
    | intro _

/-- What `execSkpAdjust` may change. -/
def fp_execSkpAdjust : Foot := ⟨[.outbox], some [0x4000400, 0x2000190, 0x2000180]⟩
theorem goes_execSkpAdjust {q : SideId} {fills : List Nat} {s : State} (hF : fp_execSkpAdjust.le F = true) (hgo : Goes F s0 s) :
     Runs F s0 (execSkpAdjust q fills s) := by
  unfold execSkpAdjust
  try dsimp only
  repeat' first
    | with_reducible assumption
    | with_reducible refine Runs.next ?_
    | with_reducible refine Goes.wr (List.mem_singleton.2 (fieldName_LCH_DP_STATUS_EB_FILL _)) (known_LCH_DP_STATUS_EB_FILL _).agrees (Foot.le_trans (by decide +kernel) hF) ?_
    | with_reducible refine Goes.each ?_ ?_
    | with_reducible refine Goes.countSkp (Foot.le_trans (by decide +kernel) hF) ?_
    | with_reducible refine Goes.emit (Foot.le_trans (by decide +kernel) hF) ?_
    | with_reducible refine Goes.foldl ?_ ?_
    | split
    | intro _

/-- What `execSkpGenerate` may change. -/
def fp_execSkpGenerate : Foot := ⟨[.ports, .tim, .power, .now, .count, .replicas, .elapsed, .outbox], some [0x4000400,
  0x2000190, 0x2000180, 0xC021B, 0xC0280]⟩
theorem goes_execSkpGenerate {q : SideId} {fill : Nat} {s : State} (hF : fp_execSkpGenerate.le F = true) (hgo : Goes F s0 s) :
     Runs F s0 (execSkpGenerate q fill s) := by
  unfold execSkpGenerate
  try dsimp only
  repeat' first
    | with_reducible assumption
    | with_reducible refine Runs.next ?_
    | with_reducible refine Goes.advanceTo (Foot.le_trans (by decide +kernel) hF) ?_
    | with_reducible refine Goes.upP (Foot.le_trans (by decide +kernel) hF) ?_
    | with_reducible refine Goes.wr (List.mem_singleton.2 (fieldName_LCH_DP_STATUS_EB_FILL _)) (known_LCH_DP_STATUS_EB_FILL _).agrees (Foot.le_trans (by decide +kernel) hF) ?_
    | with_reducible refine Goes.each ?_ ?_
    | with_reducible refine Goes.countSkp (Foot.le_trans (by decide +kernel) hF) ?_
    | with_reducible refine Goes.emit (Foot.le_trans (by decide +kernel) hF) ?_
    | with_reducible refine Goes.foldl ?_ ?_
    | split
    | intro _

/-- What `execEbSlip` may change. -/
def fp_execEbSlip : Foot := ⟨[.evq], some [0xE0390, 0xE0380, 0xE0388, 0xE0210, 0xE0200, 0xE021E, 0xE0208, 0xE021F,
  0xE0280, 0xE0100, 0xE0001, 0x4000400, 0x2000118, 0x2000110, 0x100097]⟩
theorem goes_execEbSlip {h : HalfId} {s : State} (hF : fp_execEbSlip.le F = true) (hgo : Goes F s0 s) :
     Runs F s0 (execEbSlip h s) := by
  unfold execEbSlip
  try dsimp only
  repeat' first
    | with_reducible assumption
    | with_reducible refine Runs.next ?_
    | with_reducible refine Goes.satUp (List.mem_singleton.2 (fieldName_LCH_DP_STATUS_EB_FILL _)) (known_LCH_DP_STATUS_EB_FILL _).agrees (Foot.le_trans (by decide +kernel) hF) ?_
    | with_reducible refine Goes.satUp (List.mem_singleton.2 (fieldName_PRT_DP_STATUS_EB_SLIP _)) (known_PRT_DP_STATUS_EB_SLIP _).agrees (Foot.le_trans (by decide +kernel) hF) ?_
    | with_reducible refine Goes.satUp (List.mem_singleton.2 (fieldName_PRT_DP_STATUS_EB_SLIP_CNT _)) (known_PRT_DP_STATUS_EB_SLIP_CNT _).agrees (Foot.le_trans (by decide +kernel) hF) ?_
    | with_reducible refine Goes.on (List.mem_singleton.2 (fieldName_LCH_DP_STATUS_EB_FILL _)) (known_LCH_DP_STATUS_EB_FILL _).agrees (Foot.le_trans (by decide +kernel) hF) ?_
    | with_reducible refine Goes.on (List.mem_singleton.2 (fieldName_PRT_DP_STATUS_EB_SLIP _)) (known_PRT_DP_STATUS_EB_SLIP _).agrees (Foot.le_trans (by decide +kernel) hF) ?_
    | with_reducible refine Goes.on (List.mem_singleton.2 (fieldName_PRT_DP_STATUS_EB_SLIP_CNT _)) (known_PRT_DP_STATUS_EB_SLIP_CNT _).agrees (Foot.le_trans (by decide +kernel) hF) ?_
    | with_reducible refine Goes.wr (List.mem_singleton.2 (fieldName_LCH_DP_STATUS_EB_FILL _)) (known_LCH_DP_STATUS_EB_FILL _).agrees (Foot.le_trans (by decide +kernel) hF) ?_
    | with_reducible refine Goes.wr (List.mem_singleton.2 (fieldName_PRT_DP_STATUS_EB_SLIP _)) (known_PRT_DP_STATUS_EB_SLIP _).agrees (Foot.le_trans (by decide +kernel) hF) ?_
    | with_reducible refine Goes.wr (List.mem_singleton.2 (fieldName_PRT_DP_STATUS_EB_SLIP_CNT _)) (known_PRT_DP_STATUS_EB_SLIP_CNT _).agrees (Foot.le_trans (by decide +kernel) hF) ?_
    | with_reducible refine Goes.raise (Foot.le_trans (by decide +kernel) hF) ?_
    | with_reducible refine Goes.foldl ?_ ?_
    | split
    | intro _

/-- What `execDeskewFail` may change. -/
def fp_execDeskewFail : Foot := ⟨[.halves, .sides, .ports, .engines, .tiles, .evq], some [0x220018, 0x220010,
  0x200100, 0x40800F, 0x408008, 0x40800A, 0x408000, 0x40800C, 0xE0390, 0xE0380, 0xE0388, 0xE0210, 0xE0200, 0xE021E,
  0xE0208, 0xE021F, 0xE0280, 0xE0100, 0xE0001, 0x4000418, 0x4000413, 0x400041F, 0x4000294, 0x4000280, 0x400029D,
  0x400029E, 0x4000290, 0x4000500, 0x400050D, 0x4000518, 0x400050E, 0x400051C, 0x4000513, 0x4000486, 0x4000480,
  0x4000487, 0x4000398, 0x400038C, 0x4000392, 0x4000386, 0x4000380, 0x400039E, 0x2000104, 0x200011E, 0x200010C,
  0x2000100, 0x200011D, 0x2000108, 0x2000119, 0x200011F, 0x200090A, 0x200091C, 0x2000E08, 0x2000D05, 0x2000D03,
  0x2000D06, 0x2000D10, 0x2000D00, 0x2000D1C, 0x2000D08, 0x2000D18, 0x2000510, 0x2000508, 0x200048F, 0x2000498,
  0x2000494, 0x200048E, 0x200048B, 0x2000488, 0x2000490, 0x200049C, 0x2000492, 0x100097]⟩
theorem goes_execDeskewFail {q : SideId} {lane : Option HalfId} {s : State} (hF : fp_execDeskewFail.le F = true) (hgo : Goes F s0 s) :
     Runs F s0 (execDeskewFail q lane s) := by
  unfold execDeskewFail
  try dsimp only
  repeat' first
    | with_reducible assumption
    | with_reducible refine Runs.next ?_
    | with_reducible refine Goes.noted (Foot.le_trans (by decide +kernel) hF) ?_
    | with_reducible refine Goes.deskewFailed (Foot.le_trans (by decide +kernel) hF) ?_
    | with_reducible refine Goes.foldl ?_ ?_
    | split
    | intro _

end Sys2Proof.Machine
end

