-- ==== Sys2Proof/Laws/OnTraining.lean ====
section
/-! SUPPORT. What each operation of `Machine/Training.lean` may change: one lemma for each. -/

set_option linter.all false
set_option Elab.async false

namespace Sys2Proof.Machine

variable {F : Foot} {s0 : State}

/-- What `State.noteSub` may change. -/
def fp_noteSub : Foot := ⟨[.sides, .ports], some []⟩
theorem Goes.noteSub {s : State} {q : Nat} {sub : Substate} (hF : fp_noteSub.le F = true) (hgo : Goes F s0 s) :
     Goes F s0 (State.noteSub s q sub) := by
  unfold State.noteSub
  try dsimp only
  repeat' first
    | with_reducible assumption
    | with_reducible refine Goes.pathSoon (Foot.le_trans (by decide +kernel) hF) ?_
    | with_reducible refine Goes.upP (Foot.le_trans (by decide +kernel) hF) ?_
    | with_reducible refine Goes.foldl ?_ ?_
    | split
    | intro _

/-- What `State.noteSubstate` may change. -/
def fp_noteSubstate : Foot := ⟨[.sides, .ports], some [0x400041F]⟩
theorem Goes.noteSubstate {s : State} {q : Nat} {h : Nat} {ts : TrainingSet} (hF : fp_noteSubstate.le F = true) (hgo : Goes F s0 s) :
     Goes F s0 (State.noteSubstate s q h ts) := by
  unfold State.noteSubstate
  try dsimp only
  repeat' first
    | with_reducible assumption
    | with_reducible refine Goes.on (List.mem_singleton.2 (fieldName_LCH_DP_STATUS_POL_INV _)) (known_LCH_DP_STATUS_POL_INV _).agrees (Foot.le_trans (by decide +kernel) hF) ?_
    | with_reducible refine Goes.noteSub (Foot.le_trans (by decide +kernel) hF) ?_
    | with_reducible refine Goes.foldl ?_ ?_
    | split
    | intro _

/-- What `State.noteUp` may change. -/
def fp_noteUp : Foot := ⟨[.sides, .ports], some [0x2000490, 0x2000492]⟩
theorem Goes.noteUp {s : State} {q : Nat} {ts : TrainingSet} {first : Bool} (hF : fp_noteUp.le F = true) (hgo : Goes F s0 s) :
     Goes F s0 (State.noteUp s q ts first) := by
  unfold State.noteUp
  try dsimp only
  repeat' first
    | with_reducible assumption
    | with_reducible refine Goes.pathSoon (Foot.le_trans (by decide +kernel) hF) ?_
    | with_reducible refine Goes.upP (Foot.le_trans (by decide +kernel) hF) ?_
    | with_reducible refine Goes.wr (List.mem_singleton.2 (fieldName_PRT_TRN_STATUS_RETIMER_POS _)) (known_PRT_TRN_STATUS_RETIMER_POS _).agrees (Foot.le_trans (by decide +kernel) hF) ?_
    | with_reducible refine Goes.wr (List.mem_singleton.2 (fieldName_PRT_TRN_STATUS_UP_SIDE _)) (known_PRT_TRN_STATUS_UP_SIDE _).agrees (Foot.le_trans (by decide +kernel) hF) ?_
    | with_reducible refine Goes.foldl ?_ ?_
    | split
    | intro _

/-- What `State.noteLane` may change. -/
def fp_noteLane : Foot := ⟨[], some [0x4000413, 0x200011E, 0x200011D, 0x200048F]⟩
theorem Goes.noteLane {s : State} {q : Nat} {h : Nat} {ts : TrainingSet} {geared : Bool} (hF : fp_noteLane.le F = true) (hgo : Goes F s0 s) :
     Goes F s0 (State.noteLane s q h ts geared) := by
  unfold State.noteLane
  try dsimp only
  repeat' first
    | with_reducible assumption
    | with_reducible refine Goes.on (List.mem_singleton.2 (fieldName_LCH_DP_STATUS_LINK_LANE _)) (known_LCH_DP_STATUS_LINK_LANE _).agrees (Foot.le_trans (by decide +kernel) hF) ?_
    | with_reducible refine Goes.on (mem_two (names_PRT_DP_STATUS_REVERSED _)) (known_PRT_DP_STATUS_REVERSED _).agrees (Foot.le_trans (by decide +kernel) hF) ?_
    | with_reducible refine Goes.on (List.mem_singleton.2 (fieldName_PRT_TRN_STATUS_CXL _)) (known_PRT_TRN_STATUS_CXL _).agrees (Foot.le_trans (by decide +kernel) hF) ?_
    | with_reducible refine Goes.wr (List.mem_singleton.2 (fieldName_LCH_DP_STATUS_LINK_LANE _)) (known_LCH_DP_STATUS_LINK_LANE _).agrees (Foot.le_trans (by decide +kernel) hF) ?_
    | with_reducible refine Goes.wr (mem_two (names_PRT_DP_STATUS_REVERSED _)) (known_PRT_DP_STATUS_REVERSED _).agrees (Foot.le_trans (by decide +kernel) hF) ?_
    | with_reducible refine Goes.wr (List.mem_singleton.2 (fieldName_PRT_TRN_STATUS_CXL _)) (known_PRT_TRN_STATUS_CXL _).agrees (Foot.le_trans (by decide +kernel) hF) ?_
    | with_reducible refine Goes.put (List.mem_singleton.2 (fieldName_LCH_DP_STATUS_LINK_LANE _)) (known_LCH_DP_STATUS_LINK_LANE _).agrees (Foot.le_trans (by decide +kernel) hF) ?_
    | with_reducible refine Goes.put (mem_two (names_PRT_DP_STATUS_REVERSED _)) (known_PRT_DP_STATUS_REVERSED _).agrees (Foot.le_trans (by decide +kernel) hF) ?_
    | with_reducible refine Goes.put (List.mem_singleton.2 (fieldName_PRT_TRN_STATUS_CXL _)) (known_PRT_TRN_STATUS_CXL _).agrees (Foot.le_trans (by decide +kernel) hF) ?_
    | with_reducible refine Goes.foldl ?_ ?_
    | split
    | intro _

/-- What `State.noteWidth` may change. -/
def fp_noteWidth : Foot := ⟨[.halves], some [0x4000418, 0x4000294, 0x4000280, 0x400029D, 0x400029E, 0x400051C,
  0x4000398, 0x400038C, 0x4000392, 0x4000386, 0x4000380, 0x400039E, 0x2000104, 0x2000100, 0x2000488]⟩
theorem Goes.noteWidth {s : State} {p : Nat} {w : Nat} {geared : Bool} (hF : fp_noteWidth.le F = true) (hgo : Goes F s0 s) :
     Goes F s0 (State.noteWidth s p w geared) := by
  unfold State.noteWidth
  try dsimp only
  repeat' first
    | with_reducible assumption
    | with_reducible refine Goes.wr (List.mem_singleton.2 (fieldName_PRT_TRN_STATUS_NEG_WIDTH _)) (known_PRT_TRN_STATUS_NEG_WIDTH _).agrees (Foot.le_trans (by decide +kernel) hF) ?_
    | with_reducible refine Goes.each ?_ ?_
    | with_reducible refine Goes.showStd (Foot.le_trans (by decide +kernel) hF) ?_
    | with_reducible refine Goes.releaseRx (Foot.le_trans (by decide +kernel) hF) ?_
    | with_reducible refine Goes.setTx (Foot.le_trans (by decide +kernel) hF) ?_
    | with_reducible refine Goes.foldl ?_ ?_
    | split
    | intro _

/-- What `State.noteSet` may change. -/
def fp_noteSet : Foot := ⟨[.halves, .sides, .ports], some [0x4000418, 0x4000413, 0x400041F, 0x4000294, 0x4000280,
  0x400029D, 0x400029E, 0x400051C, 0x4000398, 0x400038C, 0x4000392, 0x4000386, 0x4000380, 0x400039E, 0x2000104,
  0x200011E, 0x2000100, 0x200011D, 0x200048F, 0x2000488, 0x2000490, 0x2000492]⟩
theorem Goes.noteSet {s : State} {q : Nat} {h : Nat} {ts : TrainingSet} (hF : fp_noteSet.le F = true) (hgo : Goes F s0 s) :
     Goes F s0 (State.noteSet s q h ts) := by
  unfold State.noteSet
  try dsimp only
  repeat' first
    | with_reducible assumption
    | with_reducible refine Goes.noteWidth (Foot.le_trans (by decide +kernel) hF) ?_
    | with_reducible refine Goes.noteSubstate (Foot.le_trans (by decide +kernel) hF) ?_
    | with_reducible refine Goes.noteUp (Foot.le_trans (by decide +kernel) hF) ?_
    | with_reducible refine Goes.noteLane (Foot.le_trans (by decide +kernel) hF) ?_
    | with_reducible refine Goes.foldl ?_ ?_
    | split
    | intro _

/-- What `State.eqSet` may change. -/
def fp_eqSet : Foot := ⟨[.halves], some [0x4000398, 0x400038C, 0x4000392, 0x4000386, 0x4000380, 0x400039E, 0x200051A]⟩
theorem Goes.eqSet {s : State} {q : Nat} {h : Nat} {ts : TrainingSet} (hF : fp_eqSet.le F = true) (hgo : Goes F s0 s) :
     Goes F s0 (State.eqSet s q h ts) := by
  unfold State.eqSet
  try dsimp only
  repeat' first
    | with_reducible assumption
    | with_reducible refine Goes.upH (Foot.le_trans (by decide +kernel) hF) (fun _ h => h) ?_
    | with_reducible refine Goes.upH (Foot.le_trans (by decide +kernel) hF) ?_ ?_
    | with_reducible refine Goes.eqRequest (Foot.le_trans (by decide +kernel) hF) ?_
    | with_reducible refine Goes.foldl ?_ ?_
    | exact fun _ h => h
    | exact fun _ h => by dsimp only; (repeat' split) <;> exact h
    | split
    | intro _

/-- What `State.stateSet` may change. -/
def fp_stateSet : Foot := ⟨[.halves, .sides, .ports, .engines, .tiles, .evq, .outbox], some [0x220018, 0x220010,
  0x200100, 0x40800F, 0x408008, 0x40800A, 0x408000, 0x40800C, 0xE0390, 0xE0380, 0xE0388, 0xE0210, 0xE0200, 0xE021E,
  0xE0208, 0xE021F, 0xE0280, 0xE0100, 0xE0001, 0x4000418, 0x4000294, 0x4000280, 0x400029D, 0x400029E, 0x400051C,
  0x4000398, 0x400038C, 0x4000392, 0x4000386, 0x4000380, 0x400039E, 0x2000104, 0x2000100, 0x200011F, 0x2000510,
  0x2000519, 0x200051B, 0x2000508, 0x2000498, 0x2000494, 0x200048B, 0x200049C, 0x100097]⟩
theorem Goes.stateSet {s : State} {p : Nat} {ts : TrainingSet} (hF : fp_stateSet.le F = true) (hgo : Goes F s0 s) :
     Goes F s0 (State.stateSet s p ts) := by
  unfold State.stateSet
  try dsimp only
  repeat' first
    | with_reducible assumption
    | with_reducible refine Goes.enterForward (Foot.le_trans (by decide +kernel) hF) ?_
    | with_reducible refine Goes.pathSoon (Foot.le_trans (by decide +kernel) hF) ?_
    | with_reducible refine Goes.stdIdle (Foot.le_trans (by decide +kernel) hF) ?_
    | with_reducible refine Goes.eqBegin (Foot.le_trans (by decide +kernel) hF) ?_
    | with_reducible refine Goes.setTrn (Foot.le_trans (by decide +kernel) hF) ?_
    | with_reducible refine Goes.on (List.mem_singleton.2 (fieldName_PRT_TRN_EVENTS_LOOPBACK_REFUSED _)) (known_PRT_TRN_EVENTS_LOOPBACK_REFUSED _).agrees (Foot.le_trans (by decide +kernel) hF) ?_
    | with_reducible refine Goes.upP (Foot.le_trans (by decide +kernel) hF) ?_
    | with_reducible refine Goes.eqEnd (Foot.le_trans (by decide +kernel) hF) ?_
    | with_reducible refine Goes.foldl ?_ ?_
    | split
    | intro _

/-- What `State.forwardSet` may change. -/
def fp_forwardSet : Foot := ⟨[.halves, .outbox], some []⟩
theorem Goes.forwardSet {s : State} {q : Nat} {h : Nat} {ts : TrainingSet} (hF : fp_forwardSet.le F = true) (hgo : Goes F s0 s) :
     Goes F s0 (State.forwardSet s q h ts) := by
  unfold State.forwardSet
  try dsimp only
  repeat' first
    | with_reducible assumption
    | with_reducible refine Goes.upH (Foot.le_trans (by decide +kernel) hF) (fun _ h => h) ?_
    | with_reducible refine Goes.upH (Foot.le_trans (by decide +kernel) hF) ?_ ?_
    | with_reducible refine Goes.emit (Foot.le_trans (by decide +kernel) hF) ?_
    | with_reducible refine Goes.foldl ?_ ?_
    | exact fun _ h => h
    | exact fun _ h => by dsimp only; (repeat' split) <;> exact h
    | split
    | intro _

/-- What `execTrainingSetReceived` may change. -/
def fp_execTrainingSetReceived : Foot := ⟨[.halves, .sides, .ports, .engines, .tiles, .evq, .outbox], some [0x220018,
  0x220010, 0x200100, 0x40800F, 0x408008, 0x40800A, 0x408000, 0x40800C, 0xE0390, 0xE0380, 0xE0388, 0xE0210, 0xE0200,
  0xE021E, 0xE0208, 0xE021F, 0xE0280, 0xE0100, 0xE0001, 0x4000418, 0x4000413, 0x400041F, 0x4000294, 0x4000280,
  0x400029D, 0x400029E, 0x400051C, 0x4000398, 0x400038C, 0x4000392, 0x4000386, 0x4000380, 0x400039E, 0x2000104,
  0x200011E, 0x2000100, 0x200011D, 0x200011F, 0x2000510, 0x2000519, 0x200051A, 0x200051B, 0x2000508, 0x200048F,
  0x2000498, 0x2000494, 0x200048B, 0x2000488, 0x2000490, 0x200049C, 0x2000492, 0x100097]⟩
theorem goes_execTrainingSetReceived {h : HalfId} {ts : TrainingSet} {s : State} (hF : fp_execTrainingSetReceived.le F = true) (hgo : Goes F s0 s) :
     Runs F s0 (execTrainingSetReceived h ts s) := by
  unfold execTrainingSetReceived
  try dsimp only
  repeat' first
    | with_reducible assumption
    | with_reducible refine Runs.next ?_
    | with_reducible refine Goes.noteSet (Foot.le_trans (by decide +kernel) hF) ?_
    | with_reducible refine Goes.noted (Foot.le_trans (by decide +kernel) hF) ?_
    | with_reducible refine Goes.eqSet (Foot.le_trans (by decide +kernel) hF) ?_
    | with_reducible refine Goes.stateSet (Foot.le_trans (by decide +kernel) hF) ?_
    | with_reducible refine Goes.forwardSet (Foot.le_trans (by decide +kernel) hF) ?_
    | with_reducible refine Goes.foldl ?_ ?_
    | split
    | intro _

/-- What `execEqPresetAck` may change. -/
def fp_execEqPresetAck : Foot := ⟨[.halves], some [0x4000418, 0x4000294, 0x4000280, 0x400029D, 0x400029E, 0x2000104,
  0x2000100]⟩
theorem goes_execEqPresetAck {h : HalfId} {s : State} (hF : fp_execEqPresetAck.le F = true) (hgo : Goes F s0 s) :
     Runs F s0 (execEqPresetAck h s) := by
  unfold execEqPresetAck
  try dsimp only
  repeat' first
    | with_reducible assumption
    | with_reducible refine Runs.next ?_
    | with_reducible refine Goes.upH (Foot.le_trans (by decide +kernel) hF) (fun _ h => h) ?_
    | with_reducible refine Goes.upH (Foot.le_trans (by decide +kernel) hF) ?_ ?_
    | with_reducible refine Goes.requestRx (Foot.le_trans (by decide +kernel) hF) ?_
    | with_reducible refine Goes.foldl ?_ ?_
    | exact fun _ h => h
    | exact fun _ h => by dsimp only; (repeat' split) <;> exact h
    | split
    | intro _

/-- What `execHotResetExit` may change. -/
def fp_execHotResetExit : Foot := ⟨[.halves, .sides, .ports, .engines, .tim, .tiles, .power, .evq, .now, .count,
  .replicas, .elapsed], some [0x220018, 0x220010, 0x200100, 0x40800F, 0x408008, 0x40800A, 0x408000, 0x40800C, 0xE0390,
  0xE0380, 0xE0388, 0xE0210, 0xE0200, 0xE021E, 0xE0208, 0xE021F, 0xE0280, 0xE0100, 0xE0001, 0x4000418, 0x4000413,
  0x400041F, 0x4000294, 0x4000280, 0x400029D, 0x400029E, 0x4000290, 0x400051C, 0x4000398, 0x400038C, 0x4000392,
  0x4000386, 0x4000380, 0x400039E, 0x2000104, 0x200011E, 0x200010C, 0x2000100, 0x200011D, 0x2000108, 0x200011F,
  0x2000510, 0x2000508, 0x200048F, 0x2000498, 0x2000494, 0x200048E, 0x200048B, 0x2000488, 0x2000490, 0x200049C,
  0x2000492, 0x100097, 0xC021B, 0xC0280]⟩
theorem goes_execHotResetExit {p : PortId} {s : State} (hF : fp_execHotResetExit.le F = true) (hgo : Goes F s0 s) :
     Runs F s0 (execHotResetExit p s) := by
  unfold execHotResetExit
  try dsimp only
  repeat' first
    | with_reducible assumption
    | with_reducible refine Runs.next ?_
    | with_reducible refine Goes.advanceTo (Foot.le_trans (by decide +kernel) hF) ?_
    | with_reducible refine Goes.noted (Foot.le_trans (by decide +kernel) hF) ?_
    | with_reducible refine Goes.enterDetect (Foot.le_trans (by decide +kernel) hF) ?_
    | with_reducible refine Goes.foldl ?_ ?_
    | split
    | intro _

/-- What `execDisabledExit` may change. -/
def fp_execDisabledExit : Foot := ⟨[.halves, .sides, .ports, .engines, .tiles, .evq], some [0x220018, 0x220010,
  0x200100, 0x40800F, 0x408008, 0x40800A, 0x408000, 0x40800C, 0xE0390, 0xE0380, 0xE0388, 0xE0210, 0xE0200, 0xE021E,
  0xE0208, 0xE021F, 0xE0280, 0xE0100, 0xE0001, 0x4000418, 0x4000413, 0x400041F, 0x4000294, 0x4000280, 0x400029D,
  0x400029E, 0x4000290, 0x400051C, 0x4000398, 0x400038C, 0x4000392, 0x4000386, 0x4000380, 0x400039E, 0x2000104,
  0x200011E, 0x200010C, 0x2000100, 0x200011D, 0x2000108, 0x200011F, 0x2000510, 0x2000508, 0x200048F, 0x2000498,
  0x2000494, 0x200048E, 0x200048B, 0x2000488, 0x2000490, 0x200049C, 0x2000492, 0x100097]⟩
theorem goes_execDisabledExit {h : HalfId} {s : State} (hF : fp_execDisabledExit.le F = true) (hgo : Goes F s0 s) :
     Runs F s0 (execDisabledExit h s) := by
  unfold execDisabledExit
  try dsimp only
  repeat' first
    | with_reducible assumption
    | with_reducible refine Runs.next ?_
    | with_reducible refine Goes.noted (Foot.le_trans (by decide +kernel) hF) ?_
    | with_reducible refine Goes.enterDetect (Foot.le_trans (by decide +kernel) hF) ?_
    | with_reducible refine Goes.foldl ?_ ?_
    | split
    | intro _

/-- What `execReceiverDetectScan` may change. -/
def fp_execReceiverDetectScan : Foot := ⟨[.halves, .sides, .ports, .tiles, .evq], some []⟩
theorem goes_execReceiverDetectScan {q : SideId} {found : List HalfId} {s : State} (hF : fp_execReceiverDetectScan.le F = true) (hgo : Goes F s0 s) :
     Runs F s0 (execReceiverDetectScan q found s) := by
  unfold execReceiverDetectScan
  try dsimp only
  repeat' first
    | with_reducible assumption
    | with_reducible refine Runs.next ?_
    | with_reducible refine Goes.pathSoon (Foot.le_trans (by decide +kernel) hF) ?_
    | with_reducible refine Goes.upH (Foot.le_trans (by decide +kernel) hF) (fun _ h => h) ?_
    | with_reducible refine Goes.upH (Foot.le_trans (by decide +kernel) hF) ?_ ?_
    | with_reducible refine Goes.noted (Foot.le_trans (by decide +kernel) hF) ?_
    | with_reducible refine Goes.upP (Foot.le_trans (by decide +kernel) hF) ?_
    | with_reducible refine Goes.each ?_ ?_
    | with_reducible refine Goes.foldl ?_ ?_
    | exact fun _ h => h
    | exact fun _ h => by dsimp only; (repeat' split) <;> exact h
    | split
    | intro _

/-- What `execElectricalIdleExit` may change. -/
def fp_execElectricalIdleExit : Foot := ⟨[.halves, .sides, .ports, .engines, .tiles, .evq], some [0x220018, 0x220010,
  0x200100, 0x40800F, 0x408008, 0x40800A, 0x408000, 0x40800C, 0xE0390, 0xE0380, 0xE0388, 0xE0210, 0xE0200, 0xE021E,
  0xE0208, 0xE021F, 0xE0280, 0xE0100, 0xE0001, 0x4000418, 0x4000294, 0x4000280, 0x400029D, 0x400029E, 0x400051C,
  0x4000398, 0x400038C, 0x4000392, 0x4000386, 0x4000380, 0x400039E, 0x2000104, 0x2000100, 0x200011F, 0x2000510,
  0x2000508, 0x2000498, 0x200048B, 0x200049C, 0x100097]⟩
theorem goes_execElectricalIdleExit {h : HalfId} {s : State} (hF : fp_execElectricalIdleExit.le F = true) (hgo : Goes F s0 s) :
     Runs F s0 (execElectricalIdleExit h s) := by
  unfold execElectricalIdleExit
  try dsimp only
  repeat' first
    | with_reducible assumption
    | with_reducible refine Runs.next ?_
    | with_reducible refine Goes.enterForward (Foot.le_trans (by decide +kernel) hF) ?_
    | with_reducible refine Goes.noted (Foot.le_trans (by decide +kernel) hF) ?_
    | with_reducible refine Goes.startAcross (Foot.le_trans (by decide +kernel) hF) ?_
    | with_reducible refine Goes.each ?_ ?_
    | with_reducible refine Goes.foldl ?_ ?_
    | split
    | intro _

/-- What `execPartnerLost` may change. -/
def fp_execPartnerLost : Foot := ⟨[.halves, .sides, .ports, .engines, .tiles, .evq], some [0x220018, 0x220010,
  0x200100, 0x40800F, 0x408008, 0x40800A, 0x408000, 0x40800C, 0xE0390, 0xE0380, 0xE0388, 0xE0210, 0xE0200, 0xE021E,
  0xE0208, 0xE021F, 0xE0280, 0xE0100, 0xE0001, 0x4000418, 0x4000413, 0x400041F, 0x4000294, 0x4000280, 0x400029D,
  0x400029E, 0x4000290, 0x400051C, 0x4000398, 0x400038C, 0x4000392, 0x4000386, 0x4000380, 0x400039E, 0x2000104,
  0x200011E, 0x200010C, 0x2000100, 0x200011D, 0x2000108, 0x200011F, 0x2000510, 0x200051F, 0x200051E, 0x2000508,
  0x200048F, 0x2000498, 0x2000494, 0x200048E, 0x200048B, 0x2000488, 0x2000490, 0x200049C, 0x2000492, 0x100097]⟩
theorem goes_execPartnerLost {q : SideId} {s : State} (hF : fp_execPartnerLost.le F = true) (hgo : Goes F s0 s) :
     Runs F s0 (execPartnerLost q s) := by
  unfold execPartnerLost
  try dsimp only
  repeat' first
    | with_reducible assumption
    | with_reducible refine Runs.next ?_
    | with_reducible refine Goes.noted (Foot.le_trans (by decide +kernel) hF) ?_
    | with_reducible refine Goes.losePartner (Foot.le_trans (by decide +kernel) hF) ?_
    | with_reducible refine Goes.foldl ?_ ?_
    | split
    | intro _

/-- What `execTrainingTimeout` may change. -/
def fp_execTrainingTimeout : Foot := ⟨[.halves, .sides, .ports, .engines, .tim, .tiles, .power, .evq, .now, .count,
  .replicas, .elapsed], some [0x220018, 0x220010, 0x200100, 0x40800F, 0x408008, 0x40800A, 0x408000, 0x40800C, 0xE0390,
  0xE0380, 0xE0388, 0xE0210, 0xE0200, 0xE021E, 0xE0208, 0xE021F, 0xE0280, 0xE0100, 0xE0001, 0x4000418, 0x4000413,
  0x400041F, 0x4000294, 0x4000280, 0x400029D, 0x400029E, 0x4000290, 0x400051C, 0x4000398, 0x400038C, 0x4000392,
  0x4000386, 0x4000380, 0x400039E, 0x2000104, 0x200011E, 0x200010C, 0x2000100, 0x200011D, 0x2000108, 0x200011F,
  0x2000510, 0x2000508, 0x200051D, 0x200048F, 0x2000498, 0x2000494, 0x200048E, 0x200048B, 0x2000488, 0x2000490,
  0x200049C, 0x2000492, 0x100097, 0xC021B, 0xC0280]⟩
theorem goes_execTrainingTimeout {p : PortId} {s : State} (hF : fp_execTrainingTimeout.le F = true) (hgo : Goes F s0 s) :
     Runs F s0 (execTrainingTimeout p s) := by
  unfold execTrainingTimeout
  try dsimp only
  repeat' first
    | with_reducible assumption
    | with_reducible refine Runs.next ?_
    | with_reducible refine Goes.advanceTo (Foot.le_trans (by decide +kernel) hF) ?_
    | with_reducible refine Goes.noted (Foot.le_trans (by decide +kernel) hF) ?_
    | with_reducible refine Goes.enterDetect (Foot.le_trans (by decide +kernel) hF) ?_
    | with_reducible refine Goes.on (List.mem_singleton.2 (fieldName_PRT_TRN_EVENTS_TRN_TIMEOUT _)) (known_PRT_TRN_EVENTS_TRN_TIMEOUT _).agrees (Foot.le_trans (by decide +kernel) hF) ?_
    | with_reducible refine Goes.foldl ?_ ?_
    | split
    | intro _

/-- What `State.changeRate` may change. -/
def fp_changeRate : Foot := ⟨[.halves, .engines, .tiles, .evq], some [0x220008, 0x220018, 0x220010, 0x200100,
  0x40800F, 0x408008, 0x40800A, 0x408000, 0x40800C, 0xE0390, 0xE0380, 0xE0388, 0xE0210, 0xE0200, 0xE021E, 0xE0208,
  0xE021F, 0xE0280, 0xE0100, 0xE0001, 0x4000418, 0x4000294, 0x4000280, 0x400029D, 0x400029E, 0x4000290, 0x4000319,
  0x400030C, 0x4000304, 0x400031F, 0x4000313, 0x400031E, 0x4000398, 0x400038C, 0x4000392, 0x4000386, 0x4000380,
  0x400039E, 0x2000104, 0x2000100, 0x100097]⟩
theorem Goes.changeRate {s : State} {slot : Nat} {h : Nat} (hF : fp_changeRate.le F = true) (hgo : Goes F s0 s) :
     Goes F s0 (State.changeRate s slot h) := by
  unfold State.changeRate
  try dsimp only
  repeat' first
    | with_reducible assumption
    | with_reducible refine Goes.acquire (Foot.le_trans (by decide +kernel) hF) ?_
    | with_reducible refine Goes.upH (Foot.le_trans (by decide +kernel) hF) (fun _ h => h) ?_
    | with_reducible refine Goes.upH (Foot.le_trans (by decide +kernel) hF) ?_ ?_
    | with_reducible refine Goes.rxLeaves (Foot.le_trans (by decide +kernel) hF) ?_
    | with_reducible refine Goes.setSlot (Foot.le_trans (by decide +kernel) hF) ?_
    | with_reducible refine Goes.requestRx (Foot.le_trans (by decide +kernel) hF) ?_
    | with_reducible refine Goes.releaseRx (Foot.le_trans (by decide +kernel) hF) ?_
    | with_reducible refine Goes.setTx (Foot.le_trans (by decide +kernel) hF) ?_
    | with_reducible refine Goes.foldl ?_ ?_
    | exact fun _ h => h
    | exact fun _ h => by dsimp only; (repeat' split) <;> exact h
    | split
    | intro _

/-- What `execRateChange` may change. -/
def fp_execRateChange : Foot := ⟨[.halves, .ports, .engines, .tiles, .evq], some [0x220008, 0x220018, 0x220010,
  0x200100, 0x40800F, 0x408008, 0x40800A, 0x408000, 0x40800C, 0xE0390, 0xE0380, 0xE0388, 0xE0210, 0xE0200, 0xE021E,
  0xE0208, 0xE021F, 0xE0280, 0xE0100, 0xE0001, 0x4000418, 0x4000294, 0x4000280, 0x400029D, 0x400029E, 0x4000290,
  0x4000319, 0x400030C, 0x4000304, 0x400031F, 0x4000313, 0x400031E, 0x4000398, 0x400038C, 0x4000392, 0x4000386,
  0x4000380, 0x400039E, 0x2000104, 0x200010C, 0x2000100, 0x2000108, 0x200011F, 0x2000510, 0x2000500, 0x2000508,
  0x2000498, 0x200048B, 0x200049C, 0x100097]⟩
theorem goes_execRateChange {p : PortId} {slot : Fin 7} {s : State} (hF : fp_execRateChange.le F = true) (hgo : Goes F s0 s) :
     Runs F s0 (execRateChange p slot s) := by
  unfold execRateChange
  try dsimp only
  repeat' first
    | with_reducible assumption
    | with_reducible refine Runs.next ?_
    | with_reducible refine Goes.noted (Foot.le_trans (by decide +kernel) hF) ?_
    | with_reducible refine Goes.satUp (mem_two (names_PRT_DP_STATUS_SLOT_NOW _)) (known_PRT_DP_STATUS_SLOT_NOW _).agrees (Foot.le_trans (by decide +kernel) hF) ?_
    | with_reducible refine Goes.satUp (List.mem_singleton.2 (fieldName_PRT_TRN_EVENTS_RATE_CHG_CNT _)) (known_PRT_TRN_EVENTS_RATE_CHG_CNT _).agrees (Foot.le_trans (by decide +kernel) hF) ?_
    | with_reducible refine Goes.wr (mem_two (names_PRT_DP_STATUS_SLOT_NOW _)) (known_PRT_DP_STATUS_SLOT_NOW _).agrees (Foot.le_trans (by decide +kernel) hF) ?_
    | with_reducible refine Goes.wr (List.mem_singleton.2 (fieldName_PRT_TRN_EVENTS_RATE_CHG_CNT _)) (known_PRT_TRN_EVENTS_RATE_CHG_CNT _).agrees (Foot.le_trans (by decide +kernel) hF) ?_
    | with_reducible refine Goes.each ?_ ?_
    | with_reducible refine Goes.eqEnd (Foot.le_trans (by decide +kernel) hF) ?_
    | with_reducible refine Goes.changeRate (Foot.le_trans (by decide +kernel) hF) ?_
    | with_reducible refine Goes.foldl ?_ ?_
    | split
    | intro _

/-- What `State.markL0s` may change. -/
def fp_markL0s : Foot := ⟨[.ports], some []⟩
theorem Goes.markL0s {s : State} {q : Nat} {b : Bool} (hF : fp_markL0s.le F = true) (hgo : Goes F s0 s) :
     Goes F s0 (State.markL0s s q b) := by
  unfold State.markL0s
  try dsimp only
  repeat' first
    | with_reducible assumption
    | with_reducible refine Goes.upP (Foot.le_trans (by decide +kernel) hF) ?_
    | with_reducible refine Goes.foldl ?_ ?_
    | split
    | intro _

/-- What `State.enterL0s` may change. -/
def fp_enterL0s : Foot := ⟨[.halves, .ports, .engines, .tiles, .evq], some [0x220018, 0x220010, 0x200100, 0x40800F,
  0x408008, 0x40800A, 0x408000, 0x40800C, 0xE0390, 0xE0380, 0xE0388, 0xE0210, 0xE0200, 0xE021E, 0xE0208, 0xE021F,
  0xE0280, 0xE0100, 0xE0001, 0x4000398, 0x400038C, 0x4000392, 0x4000386, 0x4000380, 0x400039E, 0x200011F, 0x2000510,
  0x2000508, 0x2000498, 0x200048B, 0x200049C, 0x100097]⟩
theorem Goes.enterL0s {s : State} {q : Nat} (hF : fp_enterL0s.le F = true) (hgo : Goes F s0 s) :
     Goes F s0 (State.enterL0s s q) := by
  unfold State.enterL0s
  try dsimp only
  repeat' first
    | with_reducible assumption
    | with_reducible refine Goes.upH (Foot.le_trans (by decide +kernel) hF) (fun _ h => h) ?_
    | with_reducible refine Goes.upH (Foot.le_trans (by decide +kernel) hF) ?_ ?_
    | with_reducible refine Goes.noted (Foot.le_trans (by decide +kernel) hF) ?_
    | with_reducible refine Goes.setTrn (Foot.le_trans (by decide +kernel) hF) ?_
    | with_reducible refine Goes.wr (List.mem_singleton.2 (fieldName_PRT_TRN_STATUS_LP_KIND _)) (known_PRT_TRN_STATUS_LP_KIND _).agrees (Foot.le_trans (by decide +kernel) hF) ?_
    | with_reducible refine Goes.each ?_ ?_
    | with_reducible refine Goes.markL0s (Foot.le_trans (by decide +kernel) hF) ?_
    | with_reducible refine Goes.setTx (Foot.le_trans (by decide +kernel) hF) ?_
    | with_reducible refine Goes.foldl ?_ ?_
    | exact fun _ h => h
    | exact fun _ h => by dsimp only; (repeat' split) <;> exact h
    | split
    | intro _

/-- What `State.leaveL0s` may change. -/
def fp_leaveL0s : Foot := ⟨[.halves, .ports, .engines, .tiles, .evq], some [0x220018, 0x220010, 0x200100, 0x40800F,
  0x408008, 0x40800A, 0x408000, 0x40800C, 0xE0390, 0xE0380, 0xE0388, 0xE0210, 0xE0200, 0xE021E, 0xE0208, 0xE021F,
  0xE0280, 0xE0100, 0xE0001, 0x4000398, 0x400038C, 0x4000392, 0x4000386, 0x4000380, 0x400039E, 0x200011F, 0x2000510,
  0x2000508, 0x2000498, 0x200048B, 0x200049C, 0x100097]⟩
theorem Goes.leaveL0s {s : State} {q : Nat} (hF : fp_leaveL0s.le F = true) (hgo : Goes F s0 s) :
     Goes F s0 (State.leaveL0s s q) := by
  unfold State.leaveL0s
  try dsimp only
  repeat' first
    | with_reducible assumption
    | with_reducible refine Goes.upH (Foot.le_trans (by decide +kernel) hF) (fun _ h => h) ?_
    | with_reducible refine Goes.upH (Foot.le_trans (by decide +kernel) hF) ?_ ?_
    | with_reducible refine Goes.noted (Foot.le_trans (by decide +kernel) hF) ?_
    | with_reducible refine Goes.setTrn (Foot.le_trans (by decide +kernel) hF) ?_
    | with_reducible refine Goes.upP (Foot.le_trans (by decide +kernel) hF) ?_
    | with_reducible refine Goes.each ?_ ?_
    | with_reducible refine Goes.markL0s (Foot.le_trans (by decide +kernel) hF) ?_
    | with_reducible refine Goes.setTx (Foot.le_trans (by decide +kernel) hF) ?_
    | with_reducible refine Goes.foldl ?_ ?_
    | exact fun _ h => h
    | exact fun _ h => by dsimp only; (repeat' split) <;> exact h
    | split
    | intro _

/-- What `execLowpowerEntry` may change. -/
def fp_execLowpowerEntry : Foot := ⟨[.halves, .sides, .ports, .engines, .tiles, .evq], some [0x220018, 0x220010,
  0x200100, 0x40800F, 0x408008, 0x40800A, 0x408000, 0x40800C, 0xE0390, 0xE0380, 0xE0388, 0xE0210, 0xE0200, 0xE021E,
  0xE0208, 0xE021F, 0xE0280, 0xE0100, 0xE0001, 0x4000418, 0x4000294, 0x4000280, 0x400029D, 0x400029E, 0x4000398,
  0x400038C, 0x4000392, 0x4000386, 0x4000380, 0x400039E, 0x2000104, 0x2000100, 0x200011F, 0x2000510, 0x2000508,
  0x2000498, 0x200048E, 0x200048B, 0x200049C, 0x100097]⟩
theorem goes_execLowpowerEntry {q : SideId} {kind : LpKind} {s : State} (hF : fp_execLowpowerEntry.le F = true) (hgo : Goes F s0 s) :
     Runs F s0 (execLowpowerEntry q kind s) := by
  unfold execLowpowerEntry
  try dsimp only
  repeat' first
    | with_reducible assumption
    | with_reducible refine Runs.next ?_
    | with_reducible refine Goes.pathSoon (Foot.le_trans (by decide +kernel) hF) ?_
    | with_reducible refine Goes.stdIdle (Foot.le_trans (by decide +kernel) hF) ?_
    | with_reducible refine Goes.noted (Foot.le_trans (by decide +kernel) hF) ?_
    | with_reducible refine Goes.setTrn (Foot.le_trans (by decide +kernel) hF) ?_
    | with_reducible refine Goes.rxLeaves (Foot.le_trans (by decide +kernel) hF) ?_
    | with_reducible refine Goes.upP (Foot.le_trans (by decide +kernel) hF) ?_
    | with_reducible refine Goes.wr (List.mem_singleton.2 (fieldName_PRT_TRN_STATUS_L0P _)) (known_PRT_TRN_STATUS_L0P _).agrees (Foot.le_trans (by decide +kernel) hF) ?_
    | with_reducible refine Goes.wr (List.mem_singleton.2 (fieldName_PRT_TRN_STATUS_LP_KIND _)) (known_PRT_TRN_STATUS_LP_KIND _).agrees (Foot.le_trans (by decide +kernel) hF) ?_
    | with_reducible refine Goes.each ?_ ?_
    | with_reducible refine Goes.put (List.mem_singleton.2 (fieldName_PRT_TRN_STATUS_L0P _)) (known_PRT_TRN_STATUS_L0P _).agrees (Foot.le_trans (by decide +kernel) hF) ?_
    | with_reducible refine Goes.put (List.mem_singleton.2 (fieldName_PRT_TRN_STATUS_LP_KIND _)) (known_PRT_TRN_STATUS_LP_KIND _).agrees (Foot.le_trans (by decide +kernel) hF) ?_
    | with_reducible refine Goes.enterL0s (Foot.le_trans (by decide +kernel) hF) ?_
    | with_reducible refine Goes.releaseRx (Foot.le_trans (by decide +kernel) hF) ?_
    | with_reducible refine Goes.setTx (Foot.le_trans (by decide +kernel) hF) ?_
    | with_reducible refine Goes.foldl ?_ ?_
    | split
    | intro _

/-- What `execLowpowerExit` may change. -/
def fp_execLowpowerExit : Foot := ⟨[.halves, .sides, .ports, .engines, .tiles, .evq], some [0x220018, 0x220010,
  0x200100, 0x40800F, 0x408008, 0x40800A, 0x408000, 0x40800C, 0xE0390, 0xE0380, 0xE0388, 0xE0210, 0xE0200, 0xE021E,
  0xE0208, 0xE021F, 0xE0280, 0xE0100, 0xE0001, 0x4000418, 0x4000413, 0x400041F, 0x4000294, 0x4000280, 0x400029D,
  0x400029E, 0x4000290, 0x400051C, 0x4000398, 0x400038C, 0x4000392, 0x4000386, 0x4000380, 0x400039E, 0x2000104,
  0x200011E, 0x200010C, 0x2000100, 0x200011D, 0x2000108, 0x200011F, 0x2000510, 0x2000508, 0x200048F, 0x2000498,
  0x2000494, 0x200048E, 0x200048B, 0x2000488, 0x2000490, 0x200049C, 0x2000492, 0x100097]⟩
theorem goes_execLowpowerExit {q : SideId} {kind : LpKind} {s : State} (hF : fp_execLowpowerExit.le F = true) (hgo : Goes F s0 s) :
     Runs F s0 (execLowpowerExit q kind s) := by
  unfold execLowpowerExit
  try dsimp only
  repeat' first
    | with_reducible assumption
    | with_reducible refine Runs.next ?_
    | with_reducible refine Goes.enterForward (Foot.le_trans (by decide +kernel) hF) ?_
    | with_reducible refine Goes.pathSoon (Foot.le_trans (by decide +kernel) hF) ?_
    | with_reducible refine Goes.upH (Foot.le_trans (by decide +kernel) hF) (fun _ h => h) ?_
    | with_reducible refine Goes.upH (Foot.le_trans (by decide +kernel) hF) ?_ ?_
    | with_reducible refine Goes.noted (Foot.le_trans (by decide +kernel) hF) ?_
    | with_reducible refine Goes.leaveL0s (Foot.le_trans (by decide +kernel) hF) ?_
    | with_reducible refine Goes.enterDetect (Foot.le_trans (by decide +kernel) hF) ?_
    | with_reducible refine Goes.startAcross (Foot.le_trans (by decide +kernel) hF) ?_
    | with_reducible refine Goes.upP (Foot.le_trans (by decide +kernel) hF) ?_
    | with_reducible refine Goes.farStart (Foot.le_trans (by decide +kernel) hF) ?_
    | with_reducible refine Goes.requestRx (Foot.le_trans (by decide +kernel) hF) ?_
    | with_reducible refine Goes.each ?_ ?_
    | with_reducible refine Goes.put (List.mem_singleton.2 (fieldName_PRT_TRN_STATUS_L0P _)) (known_PRT_TRN_STATUS_L0P _).agrees (Foot.le_trans (by decide +kernel) hF) ?_
    | with_reducible refine Goes.foldl ?_ ?_
    | exact fun _ h => h
    | exact fun _ h => by dsimp only; (repeat' split) <;> exact h
    | split
    | intro _

/-- What `execTrnRetrain` may change. -/
def fp_execTrnRetrain : Foot := ⟨[.halves, .sides, .ports, .engines, .mgmt, .tim, .tiles, .power, .evq, .now, .count,
  .replicas, .outbox, .freeCtr], none⟩
theorem goes_execTrnRetrain {p : PortId} {s : State} (hF : fp_execTrnRetrain.le F = true) (hgo : Goes F s0 s) :
     Runs F s0 (execTrnRetrain p s) := by
  unfold execTrnRetrain
  try dsimp only
  repeat' first
    | with_reducible assumption
    | with_reducible refine Runs.next ?_
    | with_reducible refine Goes.hostCmd (Foot.le_trans (by decide +kernel) hF) ?_ ?_
    | with_reducible refine Goes.askRetrain (Foot.le_trans (by decide +kernel) hF) ?_
    | with_reducible refine Goes.foldl ?_ ?_
    | split
    | intro _

/-- What `execMarginCommand` may change. -/
def fp_execMarginCommand : Foot := ⟨[.halves, .sides, .ports, .engines, .outbox, .freeCtr], some [0x40800F, 0x408008,
  0x40800A, 0x408000, 0x40800C]⟩
theorem goes_execMarginCommand {h : HalfId} {msg : MarginMsg} {s : State} (hF : fp_execMarginCommand.le F = true) (hgo : Goes F s0 s) :
     Runs F s0 (execMarginCommand h msg s) := by
  unfold execMarginCommand
  try dsimp only
  repeat' first
    | with_reducible assumption
    | with_reducible refine Runs.next ?_
    | with_reducible refine Goes.pathSoon (Foot.le_trans (by decide +kernel) hF) ?_
    | with_reducible refine Goes.upP (Foot.le_trans (by decide +kernel) hF) ?_
    | with_reducible refine Goes.marginDo (Foot.le_trans (by decide +kernel) hF) ?_
    | with_reducible refine Goes.foldl ?_ ?_
    | split
    | intro _

end Sys2Proof.Machine
end

