-- ==== Sys2Proof/Laws/OnFrameOps.lean ====
section
/-! SUPPORT. What each operation of `Machine/FrameOps.lean` may change: one lemma for each. -/

set_option linter.all false
set_option Elab.async false

namespace Sys2Proof.Machine

variable {F : Foot} {s0 : State}

/-- What `State.toSConfirm` may change. -/
def fp_toSConfirm : Foot := ⟨[.sides], some [0x200091C]⟩
theorem Goes.toSConfirm {s : State} {q : Nat} (hF : fp_toSConfirm.le F = true) (hgo : Goes F s0 s) :
     Goes F s0 (State.toSConfirm s q) := by
  unfold State.toSConfirm
  try dsimp only
  repeat' first
    | with_reducible assumption
    | with_reducible refine Goes.wr (List.mem_singleton.2 (fieldName_PRT_SEG_STATUS_STATE _)) (known_PRT_SEG_STATUS_STATE _).agrees (Foot.le_trans (by decide +kernel) hF) ?_
    | with_reducible refine Goes.upS (Foot.le_trans (by decide +kernel) hF) ?_
    | with_reducible refine Goes.foldl ?_ ?_
    | split
    | intro _

/-- What `State.noteReady` may change. -/
def fp_noteReady : Foot := ⟨[.sides], some []⟩
theorem Goes.noteReady {s : State} {q : Nat} {m : List Byte} (hF : fp_noteReady.le F = true) (hgo : Goes F s0 s) :
     Goes F s0 (State.noteReady s q m) := by
  unfold State.noteReady
  try dsimp only
  repeat' first
    | with_reducible assumption
    | with_reducible refine Goes.upS (Foot.le_trans (by decide +kernel) hF) ?_
    | with_reducible refine Goes.foldl ?_ ?_
    | split
    | intro _

/-- What `State.discoverDone` may change. -/
def fp_discoverDone : Foot := ⟨[.sides], some [0x200091C]⟩
theorem Goes.discoverDone {s : State} {q : Nat} (hF : fp_discoverDone.le F = true) (hgo : Goes F s0 s) :
     Goes F s0 (State.discoverDone s q) := by
  unfold State.discoverDone
  try dsimp only
  repeat' first
    | with_reducible assumption
    | with_reducible refine Goes.toSConfirm (Foot.le_trans (by decide +kernel) hF) ?_
    | with_reducible refine Goes.foldl ?_ ?_
    | split
    | intro _

/-- What `State.sactiveEntry` may change. -/
def fp_sactiveEntry : Foot := ⟨[.halves, .sides, .engines, .tim], some [0x40800F, 0x408008, 0x40800A, 0x408000,
  0x40800C, 0x400050E, 0x400051C, 0x4000513, 0x2000914, 0x2000907, 0x2000918, 0x200091C, 0x2000D05, 0x2000D06,
  0x2000D00]⟩
theorem Goes.sactiveEntry {s : State} {q : Nat} (hF : fp_sactiveEntry.le F = true) (hgo : Goes F s0 s) :
     Goes F s0 (State.sactiveEntry s q) := by
  unfold State.sactiveEntry
  try dsimp only
  repeat' first
    | with_reducible assumption
    | with_reducible refine Goes.upTs (Foot.le_trans (by decide +kernel) hF) ?_
    | with_reducible refine Goes.pathSoon (Foot.le_trans (by decide +kernel) hF) ?_
    | with_reducible refine Goes.upH (Foot.le_trans (by decide +kernel) hF) (fun _ h => h) ?_
    | with_reducible refine Goes.upH (Foot.le_trans (by decide +kernel) hF) ?_ ?_
    | with_reducible refine Goes.wr (List.mem_singleton.2 (fieldName_PRT_SEG_STATUS_ATTEMPTS _)) (known_PRT_SEG_STATUS_ATTEMPTS _).agrees (Foot.le_trans (by decide +kernel) hF) ?_
    | with_reducible refine Goes.wr (List.mem_singleton.2 (fieldName_PRT_SEG_STATUS_HOPS _)) (known_PRT_SEG_STATUS_HOPS _).agrees (Foot.le_trans (by decide +kernel) hF) ?_
    | with_reducible refine Goes.wr (List.mem_singleton.2 (fieldName_PRT_SEG_STATUS_LAST_FAIL _)) (known_PRT_SEG_STATUS_LAST_FAIL _).agrees (Foot.le_trans (by decide +kernel) hF) ?_
    | with_reducible refine Goes.wr (List.mem_singleton.2 (fieldName_PRT_SEG_STATUS_STATE _)) (known_PRT_SEG_STATUS_STATE _).agrees (Foot.le_trans (by decide +kernel) hF) ?_
    | with_reducible refine Goes.upS (Foot.le_trans (by decide +kernel) hF) ?_
    | with_reducible refine Goes.each ?_ ?_
    | with_reducible refine Goes.showSide (Foot.le_trans (by decide +kernel) hF) ?_
    | with_reducible refine Goes.foldl ?_ ?_
    | exact fun _ h => h
    | exact fun _ h => by dsimp only; (repeat' split) <;> exact h
    | split
    | intro _

/-- What `State.segPartnerGone` may change. -/
def fp_segPartnerGone : Foot := ⟨[.halves, .sides, .ports, .engines, .tiles, .evq], some [0x220018, 0x220010,
  0x200100, 0x40800F, 0x408008, 0x40800A, 0x408000, 0x40800C, 0xE0390, 0xE0380, 0xE0388, 0xE0210, 0xE0200, 0xE021E,
  0xE0208, 0xE021F, 0xE0280, 0xE0100, 0xE0001, 0x4000418, 0x4000413, 0x400041F, 0x4000294, 0x4000280, 0x400029D,
  0x400029E, 0x4000290, 0x400050E, 0x400051C, 0x4000513, 0x4000486, 0x4000480, 0x4000487, 0x4000398, 0x400038C,
  0x4000392, 0x4000386, 0x4000380, 0x400039E, 0x2000104, 0x200011E, 0x200010C, 0x2000100, 0x200011D, 0x2000108,
  0x200011F, 0x200090A, 0x2000905, 0x200091C, 0x2000D05, 0x2000D06, 0x2000D10, 0x2000D00, 0x2000D1C, 0x2000D08,
  0x2000D18, 0x2000510, 0x2000508, 0x200048F, 0x2000498, 0x2000494, 0x200048E, 0x200048B, 0x2000488, 0x2000490,
  0x200049C, 0x2000492, 0x100097]⟩
theorem Goes.segPartnerGone {s : State} {q : Nat} (hF : fp_segPartnerGone.le F = true) (hgo : Goes F s0 s) :
     Goes F s0 (State.segPartnerGone s q) := by
  unfold State.segPartnerGone
  try dsimp only
  repeat' first
    | with_reducible assumption
    | with_reducible refine Goes.on (List.mem_singleton.2 (fieldName_PRT_SEG_STATUS_PARTNER_LOST _)) (known_PRT_SEG_STATUS_PARTNER_LOST _).agrees (Foot.le_trans (by decide +kernel) hF) ?_
    | with_reducible refine Goes.raise (Foot.le_trans (by decide +kernel) hF) ?_
    | with_reducible refine Goes.segLost (Foot.le_trans (by decide +kernel) hF) ?_
    | with_reducible refine Goes.toSDetect (Foot.le_trans (by decide +kernel) hF) ?_
    | with_reducible refine Goes.foldl ?_ ?_
    | split
    | intro _

/-- What `State.startReplay` may change. -/
def fp_startReplay : Foot := ⟨[.halves, .sides, .ports, .engines, .tiles, .evq], some [0x220018, 0x220010, 0x200100,
  0x40800F, 0x408008, 0x40800A, 0x408000, 0x40800C, 0xE0390, 0xE0380, 0xE0388, 0xE0210, 0xE0200, 0xE021E, 0xE0208,
  0xE021F, 0xE0280, 0xE0100, 0xE0001, 0x4000418, 0x4000413, 0x400041F, 0x4000294, 0x4000280, 0x400029D, 0x400029E,
  0x4000290, 0x400050E, 0x400051C, 0x4000513, 0x4000486, 0x4000480, 0x4000487, 0x4000398, 0x400038C, 0x4000392,
  0x4000386, 0x4000380, 0x400039E, 0x2000104, 0x200011E, 0x200010C, 0x2000100, 0x200011D, 0x2000108, 0x200011F,
  0x2000A00, 0x200090A, 0x2000905, 0x2000900, 0x200091C, 0x2000D05, 0x2000D06, 0x2000D10, 0x2000D00, 0x2000D1C,
  0x2000D08, 0x2000D18, 0x2000510, 0x2000508, 0x200048F, 0x2000498, 0x2000494, 0x200048E, 0x200048B, 0x2000488,
  0x2000490, 0x200049C, 0x2000492, 0x100097]⟩
theorem Goes.startReplay {s : State} {q : Nat} (hF : fp_startReplay.le F = true) (hgo : Goes F s0 s) :
     Goes F s0 (State.startReplay s q) := by
  unfold State.startReplay
  try dsimp only
  repeat' first
    | with_reducible assumption
    | with_reducible refine Goes.on (List.mem_singleton.2 (fieldName_PRT_SEG_CNT_REPLAYS _)) (known_PRT_SEG_CNT_REPLAYS _).agrees (Foot.le_trans (by decide +kernel) hF) ?_
    | with_reducible refine Goes.on (List.mem_singleton.2 (fieldName_PRT_SEG_STATUS_RETRY_EXHAUSTED _)) (known_PRT_SEG_STATUS_RETRY_EXHAUSTED _).agrees (Foot.le_trans (by decide +kernel) hF) ?_
    | with_reducible refine Goes.upS (Foot.le_trans (by decide +kernel) hF) ?_
    | with_reducible refine Goes.segPartnerGone (Foot.le_trans (by decide +kernel) hF) ?_
    | with_reducible refine Goes.wrapUp (List.mem_singleton.2 (fieldName_PRT_SEG_CNT_REPLAYS _)) (known_PRT_SEG_CNT_REPLAYS _).agrees (Foot.le_trans (by decide +kernel) hF) ?_
    | with_reducible refine Goes.wrapUp (List.mem_singleton.2 (fieldName_PRT_SEG_STATUS_RETRY_EXHAUSTED _)) (known_PRT_SEG_STATUS_RETRY_EXHAUSTED _).agrees (Foot.le_trans (by decide +kernel) hF) ?_
    | with_reducible refine Goes.foldl ?_ ?_
    | split
    | intro _

/-- What `State.takeAck` may change. -/
def fp_takeAck : Foot := ⟨[.sides, .evq], some [0xE0390, 0xE0380, 0xE0388, 0xE0210, 0xE0200, 0xE021E, 0xE0208,
  0xE021F, 0xE0280, 0xE0100, 0xE0001, 0x200090C, 0x2000904, 0x100097]⟩
theorem Goes.takeAck {s : State} {q : Nat} {a : Nat} (hF : fp_takeAck.le F = true) (hgo : Goes F s0 s) :
     Goes F s0 (State.takeAck s q a) := by
  unfold State.takeAck
  try dsimp only
  repeat' first
    | with_reducible assumption
    | with_reducible refine Goes.on (List.mem_singleton.2 (fieldName_PRT_SEG_STATUS_RTT _)) (known_PRT_SEG_STATUS_RTT _).agrees (Foot.le_trans (by decide +kernel) hF) ?_
    | with_reducible refine Goes.on (List.mem_singleton.2 (fieldName_PRT_SEG_STATUS_RTT_OVER _)) (known_PRT_SEG_STATUS_RTT_OVER _).agrees (Foot.le_trans (by decide +kernel) hF) ?_
    | with_reducible refine Goes.wr (List.mem_singleton.2 (fieldName_PRT_SEG_STATUS_RTT _)) (known_PRT_SEG_STATUS_RTT _).agrees (Foot.le_trans (by decide +kernel) hF) ?_
    | with_reducible refine Goes.wr (List.mem_singleton.2 (fieldName_PRT_SEG_STATUS_RTT_OVER _)) (known_PRT_SEG_STATUS_RTT_OVER _).agrees (Foot.le_trans (by decide +kernel) hF) ?_
    | with_reducible refine Goes.upS (Foot.le_trans (by decide +kernel) hF) ?_
    | with_reducible refine Goes.raise (Foot.le_trans (by decide +kernel) hF) ?_
    | with_reducible refine Goes.foldl ?_ ?_
    | split
    | intro _

/-- What `State.takeNak` may change. -/
def fp_takeNak : Foot := ⟨[.halves, .sides, .ports, .engines, .tiles, .evq], some [0x220018, 0x220010, 0x200100,
  0x40800F, 0x408008, 0x40800A, 0x408000, 0x40800C, 0xE0390, 0xE0380, 0xE0388, 0xE0210, 0xE0200, 0xE021E, 0xE0208,
  0xE021F, 0xE0280, 0xE0100, 0xE0001, 0x4000418, 0x4000413, 0x400041F, 0x4000294, 0x4000280, 0x400029D, 0x400029E,
  0x4000290, 0x400050E, 0x400051C, 0x4000513, 0x4000486, 0x4000480, 0x4000487, 0x4000398, 0x400038C, 0x4000392,
  0x4000386, 0x4000380, 0x400039E, 0x2000104, 0x200011E, 0x200010C, 0x2000100, 0x200011D, 0x2000108, 0x200011F,
  0x2000A00, 0x200090A, 0x2000905, 0x2000900, 0x200091C, 0x2000D05, 0x2000D06, 0x2000D10, 0x2000D00, 0x2000D1C,
  0x2000D08, 0x2000D18, 0x2000510, 0x2000508, 0x200048F, 0x2000498, 0x2000494, 0x200048E, 0x200048B, 0x2000488,
  0x2000490, 0x200049C, 0x2000492, 0x100097]⟩
theorem Goes.takeNak {s : State} {q : Nat} {a : Nat} (hF : fp_takeNak.le F = true) (hgo : Goes F s0 s) :
     Goes F s0 (State.takeNak s q a) := by
  unfold State.takeNak
  try dsimp only
  repeat' first
    | with_reducible assumption
    | with_reducible refine Goes.startReplay (Foot.le_trans (by decide +kernel) hF) ?_
    | with_reducible refine Goes.foldl ?_ ?_
    | split
    | intro _

/-- What `State.farStreamEnds` may change. -/
def fp_farStreamEnds : Foot := ⟨[.ports], some []⟩
theorem Goes.farStreamEnds {s : State} {p : Nat} (hF : fp_farStreamEnds.le F = true) (hgo : Goes F s0 s) :
     Goes F s0 (State.farStreamEnds s p) := by
  unfold State.farStreamEnds
  try dsimp only
  repeat' first
    | with_reducible assumption
    | with_reducible refine Goes.upP (Foot.le_trans (by decide +kernel) hF) ?_
    | with_reducible refine Goes.foldl ?_ ?_
    | split
    | intro _

/-- What `State.deliverFrame` may change. -/
def fp_deliverFrame : Foot := ⟨[.halves, .sides, .ports, .engines, .tiles, .evq, .outbox], some [0x220018, 0x220010,
  0x200100, 0x40800F, 0x408008, 0x40800A, 0x408000, 0x40800C, 0xE0390, 0xE0380, 0xE0388, 0xE0210, 0xE0200, 0xE021E,
  0xE0208, 0xE021F, 0xE0280, 0xE0100, 0xE0001, 0x200011F, 0x2000510, 0x2000508, 0x2000498, 0x200048B, 0x200049C,
  0x100097]⟩
theorem Goes.deliverFrame {s : State} {q : Nat} {f : Frame} (hF : fp_deliverFrame.le F = true) (hgo : Goes F s0 s) :
     Goes F s0 (State.deliverFrame s q f) := by
  unfold State.deliverFrame
  try dsimp only
  repeat' first
    | with_reducible assumption
    | with_reducible refine Goes.upP (Foot.le_trans (by decide +kernel) hF) ?_
    | with_reducible refine Goes.upS (Foot.le_trans (by decide +kernel) hF) ?_
    | with_reducible refine Goes.markStream (Foot.le_trans (by decide +kernel) hF) ?_
    | with_reducible refine Goes.farStreamEnds (Foot.le_trans (by decide +kernel) hF) ?_
    | with_reducible refine Goes.streamsRun (Foot.le_trans (by decide +kernel) hF) ?_
    | with_reducible refine Goes.emit (Foot.le_trans (by decide +kernel) hF) ?_
    | with_reducible refine Goes.foldl ?_ ?_
    | split
    | intro _

/-- What `State.acceptRows` may change. -/
def fp_acceptRows : Foot := ⟨[.halves, .sides, .ports, .engines, .tiles, .evq, .outbox], some [0x220018, 0x220010,
  0x200100, 0x40800F, 0x408008, 0x40800A, 0x408000, 0x40800C, 0xE0390, 0xE0380, 0xE0388, 0xE0210, 0xE0200, 0xE021E,
  0xE0208, 0xE021F, 0xE0280, 0xE0100, 0xE0001, 0x200011F, 0x2000510, 0x2000508, 0x2000498, 0x200048B, 0x200049C,
  0x100097]⟩
theorem Goes.acceptRows {s : State} {n q : Nat} (hF : fp_acceptRows.le F = true) (hgo : Goes F s0 s) :
    Goes F s0 (State.acceptRows n s q) := by
  induction n generalizing s with
  | zero => exact hgo
  | succ n ih =>
    unfold State.acceptRows
    dsimp only
    split
    · split
      · exact ih (Goes.foldl (fun t ht f => Goes.deliverFrame (Foot.le_trans (by decide +kernel) hF) ht)
          (Goes.upS (Foot.le_trans (by decide +kernel) hF) hgo))
      · exact hgo
    · exact hgo

/-- What `State.judgeNak` may change. -/
def fp_judgeNak : Foot := ⟨[.halves, .sides], some [0x2000A10]⟩
theorem Goes.judgeNak {s : State} {q : Nat} (hF : fp_judgeNak.le F = true) (hgo : Goes F s0 s) :
     Goes F s0 (State.judgeNak s q) := by
  unfold State.judgeNak
  try dsimp only
  repeat' first
    | with_reducible assumption
    | with_reducible refine Goes.upH (Foot.le_trans (by decide +kernel) hF) (fun _ h => h) ?_
    | with_reducible refine Goes.upH (Foot.le_trans (by decide +kernel) hF) ?_ ?_
    | with_reducible refine Goes.upS (Foot.le_trans (by decide +kernel) hF) ?_
    | with_reducible refine Goes.each ?_ ?_
    | with_reducible refine Goes.wrapUp (List.mem_singleton.2 (fieldName_PRT_SEG_CNT_NAK_SENT _)) (known_PRT_SEG_CNT_NAK_SENT _).agrees (Foot.le_trans (by decide +kernel) hF) ?_
    | with_reducible refine Goes.foldl ?_ ?_
    | exact fun _ h => h
    | exact fun _ h => by dsimp only; (repeat' split) <;> exact h
    | split
    | intro _

/-- What `State.putFrame` may change. -/
def fp_putFrame : Foot := ⟨[.sides], some []⟩
theorem Goes.putFrame {s : State} {q : Nat} {row : Nat} {l : Nat} {f : Option Frame} {isNew : Bool} (hF : fp_putFrame.le F = true) (hgo : Goes F s0 s) :
     Goes F s0 (State.putFrame s q row l f isNew) := by
  unfold State.putFrame
  try dsimp only
  repeat' first
    | with_reducible assumption
    | with_reducible refine Goes.upS (Foot.le_trans (by decide +kernel) hF) ?_
    | with_reducible refine Goes.foldl ?_ ?_
    | split
    | intro _

/-- What `State.placeFrame` may change. -/
def fp_placeFrame : Foot := ⟨[.sides], some []⟩
theorem Goes.placeFrame {s : State} {q : Nat} {l : Nat} {hd : Header} {payload : List Byte} {isNew : Bool} (hF : fp_placeFrame.le F = true) (hgo : Goes F s0 s) :
     Goes F s0 (State.placeFrame s q l hd payload isNew) := by
  unfold State.placeFrame
  try dsimp only
  repeat' first
    | with_reducible assumption
    | with_reducible refine Goes.putFrame (Foot.le_trans (by decide +kernel) hF) ?_
    | with_reducible refine Goes.foldl ?_ ?_
    | split
    | intro _

/-- What `State.rowFrame` may change. -/
def fp_rowFrame : Foot := ⟨[.halves, .sides, .ports, .engines, .tiles, .evq, .outbox], some [0x220018, 0x220010,
  0x200100, 0x40800F, 0x408008, 0x40800A, 0x408000, 0x40800C, 0xE0390, 0xE0380, 0xE0388, 0xE0210, 0xE0200, 0xE021E,
  0xE0208, 0xE021F, 0xE0280, 0xE0100, 0xE0001, 0x200011F, 0x2000510, 0x2000508, 0x2000498, 0x200048B, 0x200049C,
  0x100097]⟩
theorem Goes.rowFrame {s : State} {q : Nat} {h : Nat} {l : Nat} {hd : Header} {payload : List Byte} {isNew : Bool} (hF : fp_rowFrame.le F = true) (hgo : Goes F s0 s) :
     Goes F s0 (State.rowFrame s q h l hd payload isNew) := by
  unfold State.rowFrame
  try dsimp only
  repeat' first
    | with_reducible assumption
    | with_reducible refine Goes.placeFrame (Foot.le_trans (by decide +kernel) hF) ?_
    | with_reducible refine Goes.upH (Foot.le_trans (by decide +kernel) hF) (fun _ h => h) ?_
    | with_reducible refine Goes.upH (Foot.le_trans (by decide +kernel) hF) ?_ ?_
    | with_reducible refine Goes.putFrame (Foot.le_trans (by decide +kernel) hF) ?_
    | with_reducible refine Goes.acceptRows (Foot.le_trans (by decide +kernel) hF) ?_
    | with_reducible refine Goes.foldl ?_ ?_
    | exact fun _ h => h
    | exact fun _ h => by dsimp only; (repeat' split) <;> exact h
    | split
    | intro _

/-- What `State.badFrame` may change. -/
def fp_badFrame : Foot := ⟨[.halves, .sides, .ports, .engines, .tiles, .evq], some [0x220018, 0x220010, 0x200100,
  0x40800F, 0x408008, 0x40800A, 0x408000, 0x40800C, 0xE0390, 0xE0380, 0xE0388, 0xE0210, 0xE0200, 0xE021E, 0xE0208,
  0xE021F, 0xE0280, 0xE0100, 0xE0001, 0x4000418, 0x4000413, 0x400041F, 0x4000294, 0x4000280, 0x400029D, 0x400029E,
  0x4000290, 0x4000500, 0x400050D, 0x4000518, 0x400050E, 0x400051C, 0x4000513, 0x4000490, 0x4000486, 0x4000480,
  0x4000487, 0x4000488, 0x4000398, 0x400038C, 0x4000392, 0x4000386, 0x4000380, 0x400039E, 0x2000104, 0x200011E,
  0x200010C, 0x2000100, 0x200011D, 0x2000108, 0x200011F, 0x2000A10, 0x200090A, 0x200091C, 0x2000E08, 0x2000D05,
  0x2000D03, 0x2000D06, 0x2000D10, 0x2000D00, 0x2000D1C, 0x2000D08, 0x2000D18, 0x2000510, 0x2000508, 0x200048F,
  0x2000498, 0x2000494, 0x200048E, 0x200048B, 0x2000488, 0x2000490, 0x200049C, 0x2000492, 0x100097]⟩
theorem Goes.badFrame {s : State} {q : Nat} {h : Nat} {n : Nat} (hF : fp_badFrame.le F = true) (hgo : Goes F s0 s) :
     Goes F s0 (State.badFrame s q h n) := by
  unfold State.badFrame
  try dsimp only
  repeat' first
    | with_reducible assumption
    | with_reducible refine Goes.upH (Foot.le_trans (by decide +kernel) hF) (fun _ h => h) ?_
    | with_reducible refine Goes.upH (Foot.le_trans (by decide +kernel) hF) ?_ ?_
    | with_reducible refine Goes.declareFault (Foot.le_trans (by decide +kernel) hF) ?_
    | with_reducible refine Goes.satUp (List.mem_singleton.2 (fieldName_LCH_SEG_FEC_CORR_SYM _)) (known_LCH_SEG_FEC_CORR_SYM _).agrees (Foot.le_trans (by decide +kernel) hF) ?_
    | with_reducible refine Goes.satUp (List.mem_singleton.2 (fieldName_LCH_SEG_FEC_UNCORR _)) (known_LCH_SEG_FEC_UNCORR _).agrees (Foot.le_trans (by decide +kernel) hF) ?_
    | with_reducible refine Goes.wr (List.mem_singleton.2 (fieldName_LCH_SEG_FEC_CORR_SYM _)) (known_LCH_SEG_FEC_CORR_SYM _).agrees (Foot.le_trans (by decide +kernel) hF) ?_
    | with_reducible refine Goes.wr (List.mem_singleton.2 (fieldName_LCH_SEG_FEC_UNCORR _)) (known_LCH_SEG_FEC_UNCORR _).agrees (Foot.le_trans (by decide +kernel) hF) ?_
    | with_reducible refine Goes.judgeNak (Foot.le_trans (by decide +kernel) hF) ?_
    | with_reducible refine Goes.showSide (Foot.le_trans (by decide +kernel) hF) ?_
    | with_reducible refine Goes.foldl ?_ ?_
    | exact fun _ h => h
    | exact fun _ h => by dsimp only; (repeat' split) <;> exact h
    | split
    | intro _

/-- What `State.goodFrame` may change. -/
def fp_goodFrame : Foot := ⟨[.halves, .sides, .ports, .engines, .tim, .tiles, .evq, .outbox], some [0x220018,
  0x220010, 0x200100, 0x40800F, 0x408008, 0x40800A, 0x408000, 0x40800C, 0xE0390, 0xE0380, 0xE0388, 0xE0210, 0xE0200,
  0xE021E, 0xE0208, 0xE021F, 0xE0280, 0xE0100, 0xE0001, 0x4000418, 0x4000413, 0x400041F, 0x4000294, 0x4000280,
  0x400029D, 0x400029E, 0x4000290, 0x4000518, 0x400050E, 0x400051C, 0x4000513, 0x4000490, 0x4000486, 0x4000480,
  0x4000487, 0x4000398, 0x400038C, 0x4000392, 0x4000386, 0x4000380, 0x400039E, 0x2000104, 0x200011E, 0x200010C,
  0x2000100, 0x200011D, 0x2000108, 0x200011F, 0x2000A10, 0x2000A00, 0x2000914, 0x2000907, 0x2000918, 0x200090A,
  0x2000905, 0x2000900, 0x200090C, 0x2000904, 0x200091C, 0x2000E08, 0x2000E10, 0x2000D05, 0x2000D06, 0x2000D02,
  0x2000D10, 0x2000D00, 0x2000D1C, 0x2000D08, 0x2000D18, 0x2000510, 0x2000508, 0x200048F, 0x2000498, 0x2000494,
  0x200048E, 0x200048B, 0x2000488, 0x2000490, 0x200049C, 0x2000492, 0x100097]⟩
theorem Goes.goodFrame {s : State} {q : Nat} {h : Nat} {t : Try} {hd : Header} {payload : List Byte} {n : Nat} (hF : fp_goodFrame.le F = true) (hgo : Goes F s0 s) :
     Goes F s0 (State.goodFrame s q h t hd payload n) := by
  unfold State.goodFrame
  extract_lets x mark turned d s1 t1 s2 s3 degr s4 s5 s6 s7
  have h_s1 : Goes F s0 s1 := by
    unfold s1
    repeat' first
      | with_reducible assumption
      | with_reducible refine Goes.rowFrame (Foot.le_trans (by decide +kernel) hF) ?_
      | with_reducible refine Goes.takeAck (Foot.le_trans (by decide +kernel) hF) ?_
      | with_reducible refine Goes.upH (Foot.le_trans (by decide +kernel) hF) (fun _ h => h) ?_
      | with_reducible refine Goes.upH (Foot.le_trans (by decide +kernel) hF) ?_ ?_
      | with_reducible refine Goes.sactiveEntry (Foot.le_trans (by decide +kernel) hF) ?_
      | with_reducible refine Goes.wr (List.mem_singleton.2 (fieldName_LCH_SEG_FEC_CORR_SYM _)) (known_LCH_SEG_FEC_CORR_SYM _).agrees (Foot.le_trans (by decide +kernel) hF) ?_
      | with_reducible refine Goes.judgeNak (Foot.le_trans (by decide +kernel) hF) ?_
      | with_reducible refine Goes.upS (Foot.le_trans (by decide +kernel) hF) ?_
      | with_reducible refine Goes.setAlign (Foot.le_trans (by decide +kernel) hF) ?_
      | with_reducible refine Goes.commitDone (Foot.le_trans (by decide +kernel) hF) ?_
      | with_reducible refine Goes.showSide (Foot.le_trans (by decide +kernel) hF) ?_
      | with_reducible refine Goes.recoveredHard (Foot.le_trans (by decide +kernel) hF) ?_
      | with_reducible refine Goes.acceptRows (Foot.le_trans (by decide +kernel) hF) ?_
      | with_reducible refine Goes.takeNak (Foot.le_trans (by decide +kernel) hF) ?_
      | with_reducible refine Goes.foldl ?_ ?_
      | exact fun _ h => h
      | exact fun _ h => by dsimp only; (repeat' split) <;> exact h
      | split
      | intro _
  clear_value s1
  have h_t1 : Goes F s0 t1 := by
    unfold t1
    repeat' first
      | with_reducible assumption
      | with_reducible refine Goes.rowFrame (Foot.le_trans (by decide +kernel) hF) ?_
      | with_reducible refine Goes.takeAck (Foot.le_trans (by decide +kernel) hF) ?_
      | with_reducible refine Goes.upH (Foot.le_trans (by decide +kernel) hF) (fun _ h => h) ?_
      | with_reducible refine Goes.upH (Foot.le_trans (by decide +kernel) hF) ?_ ?_
      | with_reducible refine Goes.sactiveEntry (Foot.le_trans (by decide +kernel) hF) ?_
      | with_reducible refine Goes.wr (List.mem_singleton.2 (fieldName_LCH_SEG_FEC_CORR_SYM _)) (known_LCH_SEG_FEC_CORR_SYM _).agrees (Foot.le_trans (by decide +kernel) hF) ?_
      | with_reducible refine Goes.judgeNak (Foot.le_trans (by decide +kernel) hF) ?_
      | with_reducible refine Goes.upS (Foot.le_trans (by decide +kernel) hF) ?_
      | with_reducible refine Goes.setAlign (Foot.le_trans (by decide +kernel) hF) ?_
      | with_reducible refine Goes.commitDone (Foot.le_trans (by decide +kernel) hF) ?_
      | with_reducible refine Goes.showSide (Foot.le_trans (by decide +kernel) hF) ?_
      | with_reducible refine Goes.recoveredHard (Foot.le_trans (by decide +kernel) hF) ?_
      | with_reducible refine Goes.acceptRows (Foot.le_trans (by decide +kernel) hF) ?_
      | with_reducible refine Goes.takeNak (Foot.le_trans (by decide +kernel) hF) ?_
      | with_reducible refine Goes.foldl ?_ ?_
      | exact fun _ h => h
      | exact fun _ h => by dsimp only; (repeat' split) <;> exact h
      | split
      | intro _
  clear_value t1
  have h_s2 : Goes F s0 s2 := by
    unfold s2
    repeat' first
      | with_reducible assumption
      | with_reducible refine Goes.rowFrame (Foot.le_trans (by decide +kernel) hF) ?_
      | with_reducible refine Goes.takeAck (Foot.le_trans (by decide +kernel) hF) ?_
      | with_reducible refine Goes.upH (Foot.le_trans (by decide +kernel) hF) (fun _ h => h) ?_
      | with_reducible refine Goes.upH (Foot.le_trans (by decide +kernel) hF) ?_ ?_
      | with_reducible refine Goes.sactiveEntry (Foot.le_trans (by decide +kernel) hF) ?_
      | with_reducible refine Goes.wr (List.mem_singleton.2 (fieldName_LCH_SEG_FEC_CORR_SYM _)) (known_LCH_SEG_FEC_CORR_SYM _).agrees (Foot.le_trans (by decide +kernel) hF) ?_
      | with_reducible refine Goes.judgeNak (Foot.le_trans (by decide +kernel) hF) ?_
      | with_reducible refine Goes.upS (Foot.le_trans (by decide +kernel) hF) ?_
      | with_reducible refine Goes.setAlign (Foot.le_trans (by decide +kernel) hF) ?_
      | with_reducible refine Goes.commitDone (Foot.le_trans (by decide +kernel) hF) ?_
      | with_reducible refine Goes.showSide (Foot.le_trans (by decide +kernel) hF) ?_
      | with_reducible refine Goes.recoveredHard (Foot.le_trans (by decide +kernel) hF) ?_
      | with_reducible refine Goes.acceptRows (Foot.le_trans (by decide +kernel) hF) ?_
      | with_reducible refine Goes.takeNak (Foot.le_trans (by decide +kernel) hF) ?_
      | with_reducible refine Goes.foldl ?_ ?_
      | exact fun _ h => h
      | exact fun _ h => by dsimp only; (repeat' split) <;> exact h
      | split
      | intro _
  clear_value s2
  have h_s3 : Goes F s0 s3 := by
    unfold s3
    repeat' first
      | with_reducible assumption
      | with_reducible refine Goes.rowFrame (Foot.le_trans (by decide +kernel) hF) ?_
      | with_reducible refine Goes.takeAck (Foot.le_trans (by decide +kernel) hF) ?_
      | with_reducible refine Goes.upH (Foot.le_trans (by decide +kernel) hF) (fun _ h => h) ?_
      | with_reducible refine Goes.upH (Foot.le_trans (by decide +kernel) hF) ?_ ?_
      | with_reducible refine Goes.sactiveEntry (Foot.le_trans (by decide +kernel) hF) ?_
      | with_reducible refine Goes.wr (List.mem_singleton.2 (fieldName_LCH_SEG_FEC_CORR_SYM _)) (known_LCH_SEG_FEC_CORR_SYM _).agrees (Foot.le_trans (by decide +kernel) hF) ?_
      | with_reducible refine Goes.judgeNak (Foot.le_trans (by decide +kernel) hF) ?_
      | with_reducible refine Goes.upS (Foot.le_trans (by decide +kernel) hF) ?_
      | with_reducible refine Goes.setAlign (Foot.le_trans (by decide +kernel) hF) ?_
      | with_reducible refine Goes.commitDone (Foot.le_trans (by decide +kernel) hF) ?_
      | with_reducible refine Goes.showSide (Foot.le_trans (by decide +kernel) hF) ?_
      | with_reducible refine Goes.recoveredHard (Foot.le_trans (by decide +kernel) hF) ?_
      | with_reducible refine Goes.acceptRows (Foot.le_trans (by decide +kernel) hF) ?_
      | with_reducible refine Goes.takeNak (Foot.le_trans (by decide +kernel) hF) ?_
      | with_reducible refine Goes.foldl ?_ ?_
      | exact fun _ h => h
      | exact fun _ h => by dsimp only; (repeat' split) <;> exact h
      | split
      | intro _
  clear_value s3
  have h_s4 : Goes F s0 s4 := by
    unfold s4
    repeat' first
      | with_reducible assumption
      | with_reducible refine Goes.rowFrame (Foot.le_trans (by decide +kernel) hF) ?_
      | with_reducible refine Goes.takeAck (Foot.le_trans (by decide +kernel) hF) ?_
      | with_reducible refine Goes.upH (Foot.le_trans (by decide +kernel) hF) (fun _ h => h) ?_
      | with_reducible refine Goes.upH (Foot.le_trans (by decide +kernel) hF) ?_ ?_
      | with_reducible refine Goes.sactiveEntry (Foot.le_trans (by decide +kernel) hF) ?_
      | with_reducible refine Goes.wr (List.mem_singleton.2 (fieldName_LCH_SEG_FEC_CORR_SYM _)) (known_LCH_SEG_FEC_CORR_SYM _).agrees (Foot.le_trans (by decide +kernel) hF) ?_
      | with_reducible refine Goes.judgeNak (Foot.le_trans (by decide +kernel) hF) ?_
      | with_reducible refine Goes.upS (Foot.le_trans (by decide +kernel) hF) ?_
      | with_reducible refine Goes.setAlign (Foot.le_trans (by decide +kernel) hF) ?_
      | with_reducible refine Goes.commitDone (Foot.le_trans (by decide +kernel) hF) ?_
      | with_reducible refine Goes.showSide (Foot.le_trans (by decide +kernel) hF) ?_
      | with_reducible refine Goes.recoveredHard (Foot.le_trans (by decide +kernel) hF) ?_
      | with_reducible refine Goes.acceptRows (Foot.le_trans (by decide +kernel) hF) ?_
      | with_reducible refine Goes.takeNak (Foot.le_trans (by decide +kernel) hF) ?_
      | with_reducible refine Goes.foldl ?_ ?_
      | exact fun _ h => h
      | exact fun _ h => by dsimp only; (repeat' split) <;> exact h
      | split
      | intro _
  clear_value s4
  have h_s5 : Goes F s0 s5 := by
    unfold s5
    repeat' first
      | with_reducible assumption
      | with_reducible refine Goes.rowFrame (Foot.le_trans (by decide +kernel) hF) ?_
      | with_reducible refine Goes.takeAck (Foot.le_trans (by decide +kernel) hF) ?_
      | with_reducible refine Goes.upH (Foot.le_trans (by decide +kernel) hF) (fun _ h => h) ?_
      | with_reducible refine Goes.upH (Foot.le_trans (by decide +kernel) hF) ?_ ?_
      | with_reducible refine Goes.sactiveEntry (Foot.le_trans (by decide +kernel) hF) ?_
      | with_reducible refine Goes.wr (List.mem_singleton.2 (fieldName_LCH_SEG_FEC_CORR_SYM _)) (known_LCH_SEG_FEC_CORR_SYM _).agrees (Foot.le_trans (by decide +kernel) hF) ?_
      | with_reducible refine Goes.judgeNak (Foot.le_trans (by decide +kernel) hF) ?_
      | with_reducible refine Goes.upS (Foot.le_trans (by decide +kernel) hF) ?_
      | with_reducible refine Goes.setAlign (Foot.le_trans (by decide +kernel) hF) ?_
      | with_reducible refine Goes.commitDone (Foot.le_trans (by decide +kernel) hF) ?_
      | with_reducible refine Goes.showSide (Foot.le_trans (by decide +kernel) hF) ?_
      | with_reducible refine Goes.recoveredHard (Foot.le_trans (by decide +kernel) hF) ?_
      | with_reducible refine Goes.acceptRows (Foot.le_trans (by decide +kernel) hF) ?_
      | with_reducible refine Goes.takeNak (Foot.le_trans (by decide +kernel) hF) ?_
      | with_reducible refine Goes.foldl ?_ ?_
      | exact fun _ h => h
      | exact fun _ h => by dsimp only; (repeat' split) <;> exact h
      | split
      | intro _
  clear_value s5
  have h_s6 : Goes F s0 s6 := by
    unfold s6
    repeat' first
      | with_reducible assumption
      | with_reducible refine Goes.rowFrame (Foot.le_trans (by decide +kernel) hF) ?_
      | with_reducible refine Goes.takeAck (Foot.le_trans (by decide +kernel) hF) ?_
      | with_reducible refine Goes.upH (Foot.le_trans (by decide +kernel) hF) (fun _ h => h) ?_
      | with_reducible refine Goes.upH (Foot.le_trans (by decide +kernel) hF) ?_ ?_
      | with_reducible refine Goes.sactiveEntry (Foot.le_trans (by decide +kernel) hF) ?_
      | with_reducible refine Goes.wr (List.mem_singleton.2 (fieldName_LCH_SEG_FEC_CORR_SYM _)) (known_LCH_SEG_FEC_CORR_SYM _).agrees (Foot.le_trans (by decide +kernel) hF) ?_
      | with_reducible refine Goes.judgeNak (Foot.le_trans (by decide +kernel) hF) ?_
      | with_reducible refine Goes.upS (Foot.le_trans (by decide +kernel) hF) ?_
      | with_reducible refine Goes.setAlign (Foot.le_trans (by decide +kernel) hF) ?_
      | with_reducible refine Goes.commitDone (Foot.le_trans (by decide +kernel) hF) ?_
      | with_reducible refine Goes.showSide (Foot.le_trans (by decide +kernel) hF) ?_
      | with_reducible refine Goes.recoveredHard (Foot.le_trans (by decide +kernel) hF) ?_
      | with_reducible refine Goes.acceptRows (Foot.le_trans (by decide +kernel) hF) ?_
      | with_reducible refine Goes.takeNak (Foot.le_trans (by decide +kernel) hF) ?_
      | with_reducible refine Goes.foldl ?_ ?_
      | exact fun _ h => h
      | exact fun _ h => by dsimp only; (repeat' split) <;> exact h
      | split
      | intro _
  clear_value s6
  have h_s7 : Goes F s0 s7 := by
    unfold s7
    repeat' first
      | with_reducible assumption
      | with_reducible refine Goes.rowFrame (Foot.le_trans (by decide +kernel) hF) ?_
      | with_reducible refine Goes.takeAck (Foot.le_trans (by decide +kernel) hF) ?_
      | with_reducible refine Goes.upH (Foot.le_trans (by decide +kernel) hF) (fun _ h => h) ?_
      | with_reducible refine Goes.upH (Foot.le_trans (by decide +kernel) hF) ?_ ?_
      | with_reducible refine Goes.sactiveEntry (Foot.le_trans (by decide +kernel) hF) ?_
      | with_reducible refine Goes.wr (List.mem_singleton.2 (fieldName_LCH_SEG_FEC_CORR_SYM _)) (known_LCH_SEG_FEC_CORR_SYM _).agrees (Foot.le_trans (by decide +kernel) hF) ?_
      | with_reducible refine Goes.judgeNak (Foot.le_trans (by decide +kernel) hF) ?_
      | with_reducible refine Goes.upS (Foot.le_trans (by decide +kernel) hF) ?_
      | with_reducible refine Goes.setAlign (Foot.le_trans (by decide +kernel) hF) ?_
      | with_reducible refine Goes.commitDone (Foot.le_trans (by decide +kernel) hF) ?_
      | with_reducible refine Goes.showSide (Foot.le_trans (by decide +kernel) hF) ?_
      | with_reducible refine Goes.recoveredHard (Foot.le_trans (by decide +kernel) hF) ?_
      | with_reducible refine Goes.acceptRows (Foot.le_trans (by decide +kernel) hF) ?_
      | with_reducible refine Goes.takeNak (Foot.le_trans (by decide +kernel) hF) ?_
      | with_reducible refine Goes.foldl ?_ ?_
      | exact fun _ h => h
      | exact fun _ h => by dsimp only; (repeat' split) <;> exact h
      | split
      | intro _
  clear_value s7
  repeat' first
    | with_reducible assumption
    | with_reducible refine Goes.rowFrame (Foot.le_trans (by decide +kernel) hF) ?_
    | with_reducible refine Goes.takeAck (Foot.le_trans (by decide +kernel) hF) ?_
    | with_reducible refine Goes.upH (Foot.le_trans (by decide +kernel) hF) (fun _ h => h) ?_
    | with_reducible refine Goes.upH (Foot.le_trans (by decide +kernel) hF) ?_ ?_
    | with_reducible refine Goes.sactiveEntry (Foot.le_trans (by decide +kernel) hF) ?_
    | with_reducible refine Goes.wr (List.mem_singleton.2 (fieldName_LCH_SEG_FEC_CORR_SYM _)) (known_LCH_SEG_FEC_CORR_SYM _).agrees (Foot.le_trans (by decide +kernel) hF) ?_
    | with_reducible refine Goes.judgeNak (Foot.le_trans (by decide +kernel) hF) ?_
    | with_reducible refine Goes.upS (Foot.le_trans (by decide +kernel) hF) ?_
    | with_reducible refine Goes.setAlign (Foot.le_trans (by decide +kernel) hF) ?_
    | with_reducible refine Goes.commitDone (Foot.le_trans (by decide +kernel) hF) ?_
    | with_reducible refine Goes.showSide (Foot.le_trans (by decide +kernel) hF) ?_
    | with_reducible refine Goes.recoveredHard (Foot.le_trans (by decide +kernel) hF) ?_
    | with_reducible refine Goes.acceptRows (Foot.le_trans (by decide +kernel) hF) ?_
    | with_reducible refine Goes.takeNak (Foot.le_trans (by decide +kernel) hF) ?_
    | with_reducible refine Goes.foldl ?_ ?_
    | exact fun _ h => h
    | exact fun _ h => by dsimp only; (repeat' split) <;> exact h
    | split
    | intro _

/-- What `State.consumeDue` may change. -/
def fp_consumeDue : Foot := ⟨[.sides], some []⟩
theorem Goes.consumeDue {s : State} {q : Nat} {sent : List Frame} (hF : fp_consumeDue.le F = true) (hgo : Goes F s0 s) :
     Goes F s0 (State.consumeDue s q sent) := by
  unfold State.consumeDue
  try dsimp only
  repeat' first
    | with_reducible assumption
    | with_reducible refine Goes.upS (Foot.le_trans (by decide +kernel) hF) ?_
    | with_reducible refine Goes.foldl ?_ ?_
    | split
    | intro _

/-- What `State.takeWaiting` may change. -/
def fp_takeWaiting : Foot := ⟨[.sides], some []⟩
theorem Goes.takeWaiting {s : State} {q : Nat} {n : Nat} (hF : fp_takeWaiting.le F = true) (hgo : Goes F s0 s) :
     Goes F s0 (State.takeWaiting s q n) := by
  unfold State.takeWaiting
  try dsimp only
  repeat' first
    | with_reducible assumption
    | with_reducible refine Goes.upS (Foot.le_trans (by decide +kernel) hF) ?_
    | with_reducible refine Goes.foldl ?_ ?_
    | split
    | intro _

/-- What `State.sendFrame` may change. -/
def fp_sendFrame : Foot := ⟨[.halves, .outbox], some []⟩
theorem Goes.sendFrame {s : State} {h : Nat} {seed : Nat} {hd : Header} {payload : List Byte} {low : Int} (hF : fp_sendFrame.le F = true) (hgo : Goes F s0 s) :
     Goes F s0 (State.sendFrame s h seed hd payload low) := by
  unfold State.sendFrame
  try dsimp only
  repeat' first
    | with_reducible assumption
    | with_reducible refine Goes.upH (Foot.le_trans (by decide +kernel) hF) (fun _ h => h) ?_
    | with_reducible refine Goes.upH (Foot.le_trans (by decide +kernel) hF) ?_ ?_
    | with_reducible refine Goes.emit (Foot.le_trans (by decide +kernel) hF) ?_
    | with_reducible refine Goes.foldl ?_ ?_
    | exact fun _ h => h
    | exact fun _ h => by dsimp only; (repeat' split) <;> exact h
    | split
    | intro _

/-- What `State.sendRow` may change. -/
def fp_sendRow : Foot := ⟨[.halves, .outbox], some []⟩
theorem Goes.sendRow {s : State} {q : Nat} {row : Nat} {frames : List (Nat × Frame)} (hF : fp_sendRow.le F = true) (hgo : Goes F s0 s) :
     Goes F s0 (State.sendRow s q row frames) := by
  unfold State.sendRow
  try dsimp only
  repeat' first
    | with_reducible assumption
    | with_reducible refine Goes.sendFrame (Foot.le_trans (by decide +kernel) hF) ?_
    | with_reducible refine Goes.foldl ?_ ?_
    | split
    | intro _

/-- What `State.launchRow` may change. -/
def fp_launchRow : Foot := ⟨[.halves, .sides, .outbox], some [0x2000903]⟩
theorem Goes.launchRow {s : State} {q : Nat} (hF : fp_launchRow.le F = true) (hgo : Goes F s0 s) :
     Goes F s0 (State.launchRow s q) := by
  unfold State.launchRow
  try dsimp only
  repeat' first
    | with_reducible assumption
    | with_reducible refine Goes.sendRow (Foot.le_trans (by decide +kernel) hF) ?_
    | with_reducible refine Goes.consumeDue (Foot.le_trans (by decide +kernel) hF) ?_
    | with_reducible refine Goes.on (List.mem_singleton.2 (fieldName_PRT_SEG_STATUS_REPLAY_FULL _)) (known_PRT_SEG_STATUS_REPLAY_FULL _).agrees (Foot.le_trans (by decide +kernel) hF) ?_
    | with_reducible refine Goes.upS (Foot.le_trans (by decide +kernel) hF) ?_
    | with_reducible refine Goes.takeWaiting (Foot.le_trans (by decide +kernel) hF) ?_
    | with_reducible refine Goes.foldl ?_ ?_
    | split
    | intro _

end Sys2Proof.Machine
end

