-- ==== Sys2Proof/Laws/OnSegment.lean ====
section
/-! SUPPORT. What each operation of `Machine/Segment.lean` may change: one lemma for each. -/

set_option linter.all false
set_option Elab.async false

namespace Sys2Proof.Machine

variable {F : Foot} {s0 : State}

/-- What `State.switchTx` may change. -/
def fp_switchTx : Foot := ⟨[.halves, .sides], some [0x4000398, 0x400038C, 0x4000392, 0x4000386, 0x4000380, 0x400039E]⟩
theorem Goes.switchTx {s : State} {q : Nat} (hF : fp_switchTx.le F = true) (hgo : Goes F s0 s) :
     Goes F s0 (State.switchTx s q) := by
  unfold State.switchTx
  try dsimp only
  repeat' first
    | with_reducible assumption
    | with_reducible refine Goes.upS (Foot.le_trans (by decide +kernel) hF) ?_
    | with_reducible refine Goes.each ?_ ?_
    | with_reducible refine Goes.setTx (Foot.le_trans (by decide +kernel) hF) ?_
    | with_reducible refine Goes.foldl ?_ ?_
    | split
    | intro _

/-- What `execRowLaunch` may change. -/
def fp_execRowLaunch : Foot := ⟨[.halves, .sides, .ports, .engines, .tim, .tiles, .evq, .outbox], some [0x40800F,
  0x408008, 0x40800A, 0x408000, 0x40800C, 0xE0390, 0xE0380, 0xE0388, 0xE0210, 0xE0200, 0xE021E, 0xE0208, 0xE021F,
  0xE0280, 0xE0100, 0xE0001, 0x400050E, 0x400051C, 0x4000513, 0x4000398, 0x400038C, 0x4000392, 0x4000386, 0x4000380,
  0x400039E, 0x2000914, 0x2000902, 0x2000907, 0x2000918, 0x2000903, 0x200091C, 0x2000D05, 0x2000D06, 0x2000D00,
  0x100097]⟩
theorem goes_execRowLaunch {q : SideId} {arrived : List StreamItem} {s : State} (hF : fp_execRowLaunch.le F = true) (hgo : Goes F s0 s) :
     Runs F s0 (execRowLaunch q arrived s) := by
  unfold execRowLaunch
  try dsimp only
  repeat' first
    | with_reducible assumption
    | with_reducible refine Runs.next ?_
    | with_reducible refine Goes.sendRow (Foot.le_trans (by decide +kernel) hF) ?_
    | with_reducible refine Goes.noted (Foot.le_trans (by decide +kernel) hF) ?_
    | with_reducible refine Goes.sendFrame (Foot.le_trans (by decide +kernel) hF) ?_
    | with_reducible refine Goes.switchTx (Foot.le_trans (by decide +kernel) hF) ?_
    | with_reducible refine Goes.sactiveEntry (Foot.le_trans (by decide +kernel) hF) ?_
    | with_reducible refine Goes.enterFlits (Foot.le_trans (by decide +kernel) hF) ?_
    | with_reducible refine Goes.upS (Foot.le_trans (by decide +kernel) hF) ?_
    | with_reducible refine Goes.each ?_ ?_
    | with_reducible refine Goes.launchRow (Foot.le_trans (by decide +kernel) hF) ?_
    | with_reducible refine Goes.foldl ?_ ?_
    | split
    | intro _

/-- What `execFrameReceived` may change. -/
def fp_execFrameReceived : Foot := ⟨[.halves, .sides, .ports, .engines, .tim, .tiles, .evq, .outbox], some [0x220018,
  0x220010, 0x200100, 0x40800F, 0x408008, 0x40800A, 0x408000, 0x40800C, 0xE0390, 0xE0380, 0xE0388, 0xE0210, 0xE0200,
  0xE021E, 0xE0208, 0xE021F, 0xE0280, 0xE0100, 0xE0001, 0x4000418, 0x4000413, 0x400041F, 0x4000294, 0x4000280,
  0x400029D, 0x400029E, 0x4000290, 0x4000500, 0x400050D, 0x4000518, 0x400050E, 0x400051C, 0x4000513, 0x4000490,
  0x4000486, 0x4000480, 0x4000487, 0x4000488, 0x4000398, 0x400038C, 0x4000392, 0x4000386, 0x4000380, 0x400039E,
  0x2000104, 0x200011E, 0x200010C, 0x2000100, 0x200011D, 0x2000108, 0x200011F, 0x2000A10, 0x2000A00, 0x2000914,
  0x2000907, 0x2000918, 0x200090A, 0x2000905, 0x2000900, 0x200090C, 0x2000904, 0x200091C, 0x2000E08, 0x2000E10,
  0x2000D05, 0x2000D03, 0x2000D06, 0x2000D02, 0x2000D10, 0x2000D00, 0x2000D1C, 0x2000D08, 0x2000D18, 0x2000510,
  0x2000508, 0x200048F, 0x2000498, 0x2000494, 0x200048E, 0x200048B, 0x2000488, 0x2000490, 0x200049C, 0x2000492,
  0x100097]⟩
theorem goes_execFrameReceived {h : HalfId} {line : List Int} {s : State} (hF : fp_execFrameReceived.le F = true) (hgo : Goes F s0 s) :
     Runs F s0 (execFrameReceived h line s) := by
  unfold execFrameReceived
  try dsimp only
  repeat' first
    | with_reducible assumption
    | with_reducible refine Runs.next ?_
    | with_reducible refine Goes.upH (Foot.le_trans (by decide +kernel) hF) (fun _ h => h) ?_
    | with_reducible refine Goes.upH (Foot.le_trans (by decide +kernel) hF) ?_ ?_
    | with_reducible refine Goes.noted (Foot.le_trans (by decide +kernel) hF) ?_
    | with_reducible refine Goes.badFrame (Foot.le_trans (by decide +kernel) hF) ?_
    | with_reducible refine Goes.goodFrame (Foot.le_trans (by decide +kernel) hF) ?_
    | with_reducible refine Goes.foldl ?_ ?_
    | exact fun _ h => h
    | exact fun _ h => by dsimp only; (repeat' split) <;> exact h
    | split
    | intro _

/-- What `execAckTimeout` may change. -/
def fp_execAckTimeout : Foot := ⟨[.halves, .sides, .ports, .engines, .tim, .tiles, .power, .evq, .now, .count,
  .replicas, .elapsed], some [0x220018, 0x220010, 0x200100, 0x40800F, 0x408008, 0x40800A, 0x408000, 0x40800C, 0xE0390,
  0xE0380, 0xE0388, 0xE0210, 0xE0200, 0xE021E, 0xE0208, 0xE021F, 0xE0280, 0xE0100, 0xE0001, 0x4000418, 0x4000413,
  0x400041F, 0x4000294, 0x4000280, 0x400029D, 0x400029E, 0x4000290, 0x400050E, 0x400051C, 0x4000513, 0x4000486,
  0x4000480, 0x4000487, 0x4000398, 0x400038C, 0x4000392, 0x4000386, 0x4000380, 0x400039E, 0x2000104, 0x200011E,
  0x200010C, 0x2000100, 0x200011D, 0x2000108, 0x200011F, 0x2000A00, 0x200090A, 0x2000905, 0x2000900, 0x200091C,
  0x2000D05, 0x2000D06, 0x2000D10, 0x2000D00, 0x2000D1C, 0x2000D08, 0x2000D18, 0x2000510, 0x2000508, 0x200048F,
  0x2000498, 0x2000494, 0x200048E, 0x200048B, 0x2000488, 0x2000490, 0x200049C, 0x2000492, 0x100097, 0xC021B, 0xC0280]⟩
theorem goes_execAckTimeout {q : SideId} {s : State} (hF : fp_execAckTimeout.le F = true) (hgo : Goes F s0 s) :
     Runs F s0 (execAckTimeout q s) := by
  unfold execAckTimeout
  try dsimp only
  repeat' first
    | with_reducible assumption
    | with_reducible refine Runs.next ?_
    | with_reducible refine Goes.advanceTo (Foot.le_trans (by decide +kernel) hF) ?_
    | with_reducible refine Goes.noted (Foot.le_trans (by decide +kernel) hF) ?_
    | with_reducible refine Goes.upS (Foot.le_trans (by decide +kernel) hF) ?_
    | with_reducible refine Goes.takeNak (Foot.le_trans (by decide +kernel) hF) ?_
    | with_reducible refine Goes.foldl ?_ ?_
    | split
    | intro _

/-- What `execFrameLockGained` may change. -/
def fp_execFrameLockGained : Foot := ⟨[.halves, .sides, .ports, .engines, .tiles, .evq], some [0x40800F, 0x408008,
  0x40800A, 0x408000, 0x40800C, 0x4000418, 0x400050E, 0x400051C, 0x4000513, 0x4000486, 0x4000487, 0x2000104, 0x2000100,
  0x200091C, 0x2000D05, 0x2000D06, 0x2000D00]⟩
theorem goes_execFrameLockGained {h : HalfId} {negated : Bool} {s : State} (hF : fp_execFrameLockGained.le F = true) (hgo : Goes F s0 s) :
     Runs F s0 (execFrameLockGained h negated s) := by
  unfold execFrameLockGained
  try dsimp only
  repeat' first
    | with_reducible assumption
    | with_reducible refine Runs.next ?_
    | with_reducible refine Goes.upH (Foot.le_trans (by decide +kernel) hF) (fun _ h => h) ?_
    | with_reducible refine Goes.upH (Foot.le_trans (by decide +kernel) hF) ?_ ?_
    | with_reducible refine Goes.noted (Foot.le_trans (by decide +kernel) hF) ?_
    | with_reducible refine Goes.on (List.mem_singleton.2 (fieldName_LCH_SEG_FEC_FRAME_LOCK _)) (known_LCH_SEG_FEC_FRAME_LOCK _).agrees (Foot.le_trans (by decide +kernel) hF) ?_
    | with_reducible refine Goes.on (List.mem_singleton.2 (fieldName_LCH_SEG_FEC_SEG_POL_INV _)) (known_LCH_SEG_FEC_SEG_POL_INV _).agrees (Foot.le_trans (by decide +kernel) hF) ?_
    | with_reducible refine Goes.segLocks (Foot.le_trans (by decide +kernel) hF) ?_
    | with_reducible refine Goes.upS (Foot.le_trans (by decide +kernel) hF) ?_
    | with_reducible refine Goes.setAlign (Foot.le_trans (by decide +kernel) hF) ?_
    | with_reducible refine Goes.put (List.mem_singleton.2 (fieldName_LCH_SEG_FEC_FRAME_LOCK _)) (known_LCH_SEG_FEC_FRAME_LOCK _).agrees (Foot.le_trans (by decide +kernel) hF) ?_
    | with_reducible refine Goes.put (List.mem_singleton.2 (fieldName_LCH_SEG_FEC_SEG_POL_INV _)) (known_LCH_SEG_FEC_SEG_POL_INV _).agrees (Foot.le_trans (by decide +kernel) hF) ?_
    | with_reducible refine Goes.showSide (Foot.le_trans (by decide +kernel) hF) ?_
    | with_reducible refine Goes.foldl ?_ ?_
    | exact fun _ h => h
    | exact fun _ h => by dsimp only; (repeat' split) <;> exact h
    | split
    | intro _

/-- What `execFrameLockLost` may change. -/
def fp_execFrameLockLost : Foot := ⟨[.halves, .sides, .engines], some [0x40800F, 0x408008, 0x40800A, 0x408000,
  0x40800C, 0x4000418, 0x400050E, 0x400051C, 0x4000513, 0x4000486, 0x2000104, 0x2000100, 0x2000D05, 0x2000D06,
  0x2000D00]⟩
theorem goes_execFrameLockLost {h : HalfId} {s : State} (hF : fp_execFrameLockLost.le F = true) (hgo : Goes F s0 s) :
     Runs F s0 (execFrameLockLost h s) := by
  unfold execFrameLockLost
  try dsimp only
  repeat' first
    | with_reducible assumption
    | with_reducible refine Runs.next ?_
    | with_reducible refine Goes.upH (Foot.le_trans (by decide +kernel) hF) (fun _ h => h) ?_
    | with_reducible refine Goes.upH (Foot.le_trans (by decide +kernel) hF) ?_ ?_
    | with_reducible refine Goes.setAlign (Foot.le_trans (by decide +kernel) hF) ?_
    | with_reducible refine Goes.off (List.mem_singleton.2 (fieldName_LCH_SEG_FEC_FRAME_LOCK _)) (known_LCH_SEG_FEC_FRAME_LOCK _).agrees (Foot.le_trans (by decide +kernel) hF) ?_
    | with_reducible refine Goes.showOf (Foot.le_trans (by decide +kernel) hF) ?_
    | with_reducible refine Goes.foldl ?_ ?_
    | exact fun _ h => h
    | exact fun _ h => by dsimp only; (repeat' split) <;> exact h
    | split
    | intro _

/-- What `execStuffHigh` may change. -/
def fp_execStuffHigh : Foot := ⟨[.evq], some [0xE0390, 0xE0380, 0xE0388, 0xE0210, 0xE0200, 0xE021E, 0xE0208, 0xE021F,
  0xE0280, 0xE0100, 0xE0001, 0x2000901, 0x100097]⟩
theorem goes_execStuffHigh {h : HalfId} {s : State} (hF : fp_execStuffHigh.le F = true) (hgo : Goes F s0 s) :
     Runs F s0 (execStuffHigh h s) := by
  unfold execStuffHigh
  try dsimp only
  repeat' first
    | with_reducible assumption
    | with_reducible refine Runs.next ?_
    | with_reducible refine Goes.on (List.mem_singleton.2 (fieldName_PRT_SEG_STATUS_STUFF_HIGH _)) (known_PRT_SEG_STATUS_STUFF_HIGH _).agrees (Foot.le_trans (by decide +kernel) hF) ?_
    | with_reducible refine Goes.raise (Foot.le_trans (by decide +kernel) hF) ?_
    | with_reducible refine Goes.foldl ?_ ?_
    | split
    | intro _

/-- What `execFlitDrop` may change. -/
def fp_execFlitDrop : Foot := ⟨[.evq], some [0xE0390, 0xE0380, 0xE0388, 0xE0210, 0xE0200, 0xE021E, 0xE0208, 0xE021F,
  0xE0280, 0xE0100, 0xE0001, 0x2000902, 0x100097]⟩
theorem goes_execFlitDrop {q : SideId} {s : State} (hF : fp_execFlitDrop.le F = true) (hgo : Goes F s0 s) :
     Runs F s0 (execFlitDrop q s) := by
  unfold execFlitDrop
  try dsimp only
  repeat' first
    | with_reducible assumption
    | with_reducible refine Runs.next ?_
    | with_reducible refine Goes.flitDrop (Foot.le_trans (by decide +kernel) hF) ?_
    | with_reducible refine Goes.foldl ?_ ?_
    | split
    | intro _

/-- What `State.trainingOver` may change. -/
def fp_trainingOver : Foot := ⟨[.halves, .sides, .engines, .tiles, .evq], some [0x220018, 0x220010, 0x200100,
  0x40800F, 0x408008, 0x40800A, 0x408000, 0x40800C, 0xE0390, 0xE0380, 0xE0388, 0xE0210, 0xE0200, 0xE021E, 0xE0208,
  0xE021F, 0xE0280, 0xE0100, 0xE0001, 0x4000418, 0x4000294, 0x4000280, 0x400029D, 0x400029E, 0x400050E, 0x400051C,
  0x4000513, 0x4000486, 0x4000480, 0x4000487, 0x4000398, 0x400038C, 0x4000392, 0x4000386, 0x4000380, 0x400039E,
  0x2000104, 0x2000100, 0x2000914, 0x2000918, 0x200090A, 0x200091C, 0x2000D05, 0x2000D06, 0x2000D10, 0x2000D00,
  0x2000D1C, 0x2000D08, 0x2000D18, 0x100097]⟩
theorem Goes.trainingOver {s : State} {q : Nat} (hF : fp_trainingOver.le F = true) (hgo : Goes F s0 s) :
     Goes F s0 (State.trainingOver s q) := by
  unfold State.trainingOver
  try dsimp only
  repeat' first
    | with_reducible assumption
    | with_reducible refine Goes.toSBackoff (Foot.le_trans (by decide +kernel) hF) ?_
    | with_reducible refine Goes.toSConfirm (Foot.le_trans (by decide +kernel) hF) ?_
    | with_reducible refine Goes.foldl ?_ ?_
    | split
    | intro _

/-- What `execSegTrainingTimeout` may change. -/
def fp_execSegTrainingTimeout : Foot := ⟨[.halves, .sides, .ports, .engines, .tim, .tiles, .power, .evq, .now, .count,
  .replicas, .elapsed], some [0x220018, 0x220010, 0x200100, 0x40800F, 0x408008, 0x40800A, 0x408000, 0x40800C, 0xE0390,
  0xE0380, 0xE0388, 0xE0210, 0xE0200, 0xE021E, 0xE0208, 0xE021F, 0xE0280, 0xE0100, 0xE0001, 0x4000418, 0x4000294,
  0x4000280, 0x400029D, 0x400029E, 0x400050E, 0x400051C, 0x4000513, 0x4000486, 0x4000480, 0x4000487, 0x4000398,
  0x400038C, 0x4000392, 0x4000386, 0x4000380, 0x400039E, 0x2000104, 0x2000100, 0x2000914, 0x2000918, 0x200090A,
  0x200091C, 0x2000D05, 0x2000D06, 0x2000D10, 0x2000D00, 0x2000D1C, 0x2000D08, 0x2000D18, 0x100097, 0xC021B, 0xC0280]⟩
theorem goes_execSegTrainingTimeout {q : SideId} {s : State} (hF : fp_execSegTrainingTimeout.le F = true) (hgo : Goes F s0 s) :
     Runs F s0 (execSegTrainingTimeout q s) := by
  unfold execSegTrainingTimeout
  try dsimp only
  repeat' first
    | with_reducible assumption
    | with_reducible refine Runs.next ?_
    | with_reducible refine Goes.advanceTo (Foot.le_trans (by decide +kernel) hF) ?_
    | with_reducible refine Goes.noted (Foot.le_trans (by decide +kernel) hF) ?_
    | with_reducible refine Goes.trainingOver (Foot.le_trans (by decide +kernel) hF) ?_
    | with_reducible refine Goes.foldl ?_ ?_
    | split
    | intro _

/-- What `execBackoffEnd` may change. -/
def fp_execBackoffEnd : Foot := ⟨[.halves, .sides, .ports, .engines, .tim, .tiles, .power, .evq, .now, .count,
  .replicas, .elapsed], some [0x220018, 0x220010, 0x200100, 0x40800F, 0x408008, 0x40800A, 0x408000, 0x40800C, 0xE0390,
  0xE0380, 0xE0388, 0xE0210, 0xE0200, 0xE021E, 0xE0208, 0xE021F, 0xE0280, 0xE0100, 0xE0001, 0x4000418, 0x4000294,
  0x4000280, 0x400029D, 0x400029E, 0x4000290, 0x400050E, 0x400051C, 0x4000513, 0x4000486, 0x4000480, 0x4000487,
  0x4000398, 0x400038C, 0x4000392, 0x4000386, 0x4000380, 0x400039E, 0x2000104, 0x200010C, 0x2000100, 0x2000108,
  0x200090A, 0x200091C, 0x2000D05, 0x2000D06, 0x2000D10, 0x2000D00, 0x2000D1C, 0x2000D08, 0x2000D18, 0x100097, 0xC021B,
  0xC0280]⟩
theorem goes_execBackoffEnd {q : SideId} {s : State} (hF : fp_execBackoffEnd.le F = true) (hgo : Goes F s0 s) :
     Runs F s0 (execBackoffEnd q s) := by
  unfold execBackoffEnd
  try dsimp only
  repeat' first
    | with_reducible assumption
    | with_reducible refine Runs.next ?_
    | with_reducible refine Goes.advanceTo (Foot.le_trans (by decide +kernel) hF) ?_
    | with_reducible refine Goes.noted (Foot.le_trans (by decide +kernel) hF) ?_
    | with_reducible refine Goes.toSDetect (Foot.le_trans (by decide +kernel) hF) ?_
    | with_reducible refine Goes.foldl ?_ ?_
    | split
    | intro _

/-- What `execLaneidReceived` may change. -/
def fp_execLaneidReceived : Foot := ⟨[.halves, .sides, .ports, .engines, .tim, .tiles, .evq], some [0x220018,
  0x220010, 0x200100, 0x40800F, 0x408008, 0x40800A, 0x408000, 0x40800C, 0xE0390, 0xE0380, 0xE0388, 0xE0210, 0xE0200,
  0xE021E, 0xE0208, 0xE021F, 0xE0280, 0xE0100, 0xE0001, 0x4000418, 0x4000294, 0x4000280, 0x400029D, 0x400029E,
  0x400050E, 0x400051C, 0x4000513, 0x4000486, 0x4000480, 0x4000487, 0x4000398, 0x400038C, 0x4000392, 0x4000386,
  0x4000380, 0x400039E, 0x2000104, 0x2000100, 0x2000914, 0x2000907, 0x2000918, 0x200090A, 0x200091C, 0x2000D05,
  0x2000D06, 0x2000D10, 0x2000D00, 0x2000D1C, 0x2000D08, 0x2000D18, 0x100097]⟩
theorem goes_execLaneidReceived {h : HalfId} {payload : List Byte} {s : State} (hF : fp_execLaneidReceived.le F = true) (hgo : Goes F s0 s) :
     Runs F s0 (execLaneidReceived h payload s) := by
  unfold execLaneidReceived
  try dsimp only
  repeat' first
    | with_reducible assumption
    | with_reducible refine Runs.next ?_
    | with_reducible refine Goes.toSBackoff (Foot.le_trans (by decide +kernel) hF) ?_
    | with_reducible refine Goes.noted (Foot.le_trans (by decide +kernel) hF) ?_
    | with_reducible refine Goes.sactiveEntry (Foot.le_trans (by decide +kernel) hF) ?_
    | with_reducible refine Goes.wr (List.mem_singleton.2 (fieldName_LCH_SEG_FEC_HEARD _)) (known_LCH_SEG_FEC_HEARD _).agrees (Foot.le_trans (by decide +kernel) hF) ?_
    | with_reducible refine Goes.wr (List.mem_singleton.2 (fieldName_PRT_SEG_STATUS_PARTNER _)) (known_PRT_SEG_STATUS_PARTNER _).agrees (Foot.le_trans (by decide +kernel) hF) ?_
    | with_reducible refine Goes.discoverDone (Foot.le_trans (by decide +kernel) hF) ?_
    | with_reducible refine Goes.noteReady (Foot.le_trans (by decide +kernel) hF) ?_
    | with_reducible refine Goes.upS (Foot.le_trans (by decide +kernel) hF) ?_
    | with_reducible refine Goes.foldl ?_ ?_
    | split
    | intro _

/-- What `execSegPartnerLost` may change. -/
def fp_execSegPartnerLost : Foot := ⟨[.halves, .sides, .ports, .engines, .tiles, .evq], some [0x220018, 0x220010,
  0x200100, 0x40800F, 0x408008, 0x40800A, 0x408000, 0x40800C, 0xE0390, 0xE0380, 0xE0388, 0xE0210, 0xE0200, 0xE021E,
  0xE0208, 0xE021F, 0xE0280, 0xE0100, 0xE0001, 0x4000418, 0x4000413, 0x400041F, 0x4000294, 0x4000280, 0x400029D,
  0x400029E, 0x4000290, 0x400050E, 0x400051C, 0x4000513, 0x4000486, 0x4000480, 0x4000487, 0x4000398, 0x400038C,
  0x4000392, 0x4000386, 0x4000380, 0x400039E, 0x2000104, 0x200011E, 0x200010C, 0x2000100, 0x200011D, 0x2000108,
  0x200011F, 0x200090A, 0x2000905, 0x200091C, 0x2000D05, 0x2000D06, 0x2000D10, 0x2000D00, 0x2000D1C, 0x2000D08,
  0x2000D18, 0x2000510, 0x2000508, 0x200048F, 0x2000498, 0x2000494, 0x200048E, 0x200048B, 0x2000488, 0x2000490,
  0x200049C, 0x2000492, 0x100097]⟩
theorem goes_execSegPartnerLost {q : SideId} {s : State} (hF : fp_execSegPartnerLost.le F = true) (hgo : Goes F s0 s) :
     Runs F s0 (execSegPartnerLost q s) := by
  unfold execSegPartnerLost
  try dsimp only
  repeat' first
    | with_reducible assumption
    | with_reducible refine Runs.next ?_
    | with_reducible refine Goes.noted (Foot.le_trans (by decide +kernel) hF) ?_
    | with_reducible refine Goes.segPartnerGone (Foot.le_trans (by decide +kernel) hF) ?_
    | with_reducible refine Goes.foldl ?_ ?_
    | split
    | intro _

/-- What `execSegRetrain` may change. -/
def fp_execSegRetrain : Foot := ⟨[.halves, .sides, .ports, .engines, .mgmt, .tim, .tiles, .power, .evq, .now, .count,
  .replicas, .outbox, .freeCtr], none⟩
theorem goes_execSegRetrain {q : SideId} {s : State} (hF : fp_execSegRetrain.le F = true) (hgo : Goes F s0 s) :
     Runs F s0 (execSegRetrain q s) := by
  unfold execSegRetrain
  try dsimp only
  repeat' first
    | with_reducible assumption
    | with_reducible refine Runs.next ?_
    | with_reducible refine Goes.hostCmd (Foot.le_trans (by decide +kernel) hF) ?_ ?_
    | with_reducible refine Goes.askRetrain (Foot.le_trans (by decide +kernel) hF) ?_
    | with_reducible refine Goes.foldl ?_ ?_
    | split
    | intro _

/-- What `execOsrelSend` may change. -/
def fp_execOsrelSend : Foot := ⟨[.sides], some []⟩
theorem goes_execOsrelSend {q : SideId} {s : State} (hF : fp_execOsrelSend.le F = true) (hgo : Goes F s0 s) :
     Runs F s0 (execOsrelSend q s) := by
  unfold execOsrelSend
  try dsimp only
  repeat' first
    | with_reducible assumption
    | with_reducible refine Runs.next ?_
    | with_reducible refine Goes.upS (Foot.le_trans (by decide +kernel) hF) ?_
    | with_reducible refine Goes.foldl ?_ ?_
    | split
    | intro _

/-- What `State.farSet` may change. -/
def fp_farSet : Foot := ⟨[.halves, .sides, .ports, .engines, .tiles, .evq, .outbox], some [0x220018, 0x220010,
  0x200100, 0x40800F, 0x408008, 0x40800A, 0x408000, 0x40800C, 0xE0390, 0xE0380, 0xE0388, 0xE0210, 0xE0200, 0xE021E,
  0xE0208, 0xE021F, 0xE0280, 0xE0100, 0xE0001, 0x4000418, 0x4000294, 0x4000280, 0x400029D, 0x400029E, 0x400051C,
  0x4000398, 0x400038C, 0x4000392, 0x4000386, 0x4000380, 0x400039E, 0x2000104, 0x2000100, 0x200011F, 0x2000510,
  0x2000519, 0x200051B, 0x2000508, 0x200048F, 0x2000498, 0x2000494, 0x200048B, 0x2000490, 0x200049C, 0x100097]⟩
theorem Goes.farSet {s : State} {q : Nat} {ts : TrainingSet} (hF : fp_farSet.le F = true) (hgo : Goes F s0 s) :
     Goes F s0 (State.farSet s q ts) := by
  unfold State.farSet
  try dsimp only
  repeat' first
    | with_reducible assumption
    | with_reducible refine Goes.on (List.mem_singleton.2 (fieldName_PRT_TRN_STATUS_CXL _)) (known_PRT_TRN_STATUS_CXL _).agrees (Foot.le_trans (by decide +kernel) hF) ?_
    | with_reducible refine Goes.on (List.mem_singleton.2 (fieldName_PRT_TRN_STATUS_RETIMER_POS _)) (known_PRT_TRN_STATUS_RETIMER_POS _).agrees (Foot.le_trans (by decide +kernel) hF) ?_
    | with_reducible refine Goes.upP (Foot.le_trans (by decide +kernel) hF) ?_
    | with_reducible refine Goes.noteSub (Foot.le_trans (by decide +kernel) hF) ?_
    | with_reducible refine Goes.wr (List.mem_singleton.2 (fieldName_PRT_TRN_STATUS_CXL _)) (known_PRT_TRN_STATUS_CXL _).agrees (Foot.le_trans (by decide +kernel) hF) ?_
    | with_reducible refine Goes.wr (List.mem_singleton.2 (fieldName_PRT_TRN_STATUS_RETIMER_POS _)) (known_PRT_TRN_STATUS_RETIMER_POS _).agrees (Foot.le_trans (by decide +kernel) hF) ?_
    | with_reducible refine Goes.stateSet (Foot.le_trans (by decide +kernel) hF) ?_
    | with_reducible refine Goes.foldl ?_ ?_
    | split
    | intro _

/-- What `State.farPreset` may change. -/
def fp_farPreset : Foot := ⟨[.halves], some []⟩
theorem Goes.farPreset {s : State} {q : Nat} {k : Nat} {ts : TrainingSet} (hF : fp_farPreset.le F = true) (hgo : Goes F s0 s) :
     Goes F s0 (State.farPreset s q k ts) := by
  unfold State.farPreset
  try dsimp only
  repeat' first
    | with_reducible assumption
    | with_reducible refine Goes.upH (Foot.le_trans (by decide +kernel) hF) (fun _ h => h) ?_
    | with_reducible refine Goes.upH (Foot.le_trans (by decide +kernel) hF) ?_ ?_
    | with_reducible refine Goes.foldl ?_ ?_
    | exact fun _ h => h
    | exact fun _ h => by dsimp only; (repeat' split) <;> exact h
    | split
    | intro _

/-- What `State.takeSets` may change. -/
def fp_takeSets : Foot := ⟨[.halves, .sides, .ports, .engines, .tiles, .evq, .outbox], some [0x220018, 0x220010,
  0x200100, 0x40800F, 0x408008, 0x40800A, 0x408000, 0x40800C, 0xE0390, 0xE0380, 0xE0388, 0xE0210, 0xE0200, 0xE021E,
  0xE0208, 0xE021F, 0xE0280, 0xE0100, 0xE0001, 0x4000418, 0x4000294, 0x4000280, 0x400029D, 0x400029E, 0x400051C,
  0x4000398, 0x400038C, 0x4000392, 0x4000386, 0x4000380, 0x400039E, 0x2000104, 0x2000100, 0x200011F, 0x2000510,
  0x2000519, 0x200051B, 0x2000508, 0x200048F, 0x2000498, 0x2000494, 0x200048B, 0x2000490, 0x200049C, 0x100097]⟩
theorem Goes.takeSets {s : State} {q : Nat} {m : List Byte} (hF : fp_takeSets.le F = true) (hgo : Goes F s0 s) :
     Goes F s0 (State.takeSets s q m) := by
  unfold State.takeSets
  try dsimp only
  repeat' first
    | with_reducible assumption
    | with_reducible refine Goes.enterForward (Foot.le_trans (by decide +kernel) hF) ?_
    | with_reducible refine Goes.farPreset (Foot.le_trans (by decide +kernel) hF) ?_
    | with_reducible refine Goes.farSet (Foot.le_trans (by decide +kernel) hF) ?_
    | with_reducible refine Goes.foldl ?_ ?_
    | split
    | intro _

/-- What `execOsrelReceived` may change. -/
def fp_execOsrelReceived : Foot := ⟨[.halves, .sides, .ports, .engines, .tiles, .evq, .outbox], some [0x220018,
  0x220010, 0x200100, 0x40800F, 0x408008, 0x40800A, 0x408000, 0x40800C, 0xE0390, 0xE0380, 0xE0388, 0xE0210, 0xE0200,
  0xE021E, 0xE0208, 0xE021F, 0xE0280, 0xE0100, 0xE0001, 0x4000418, 0x4000294, 0x4000280, 0x400029D, 0x400029E,
  0x400051C, 0x4000398, 0x400038C, 0x4000392, 0x4000386, 0x4000380, 0x400039E, 0x2000104, 0x2000100, 0x200011F,
  0x2000510, 0x2000519, 0x200051B, 0x2000508, 0x200048F, 0x2000498, 0x2000494, 0x200048B, 0x2000490, 0x200049C,
  0x100097]⟩
theorem goes_execOsrelReceived {q : SideId} {row : Nat} {payload : List Byte} {s : State} (hF : fp_execOsrelReceived.le F = true) (hgo : Goes F s0 s) :
     Runs F s0 (execOsrelReceived q row payload s) := by
  unfold execOsrelReceived
  try dsimp only
  repeat' first
    | with_reducible assumption
    | with_reducible refine Runs.next ?_
    | with_reducible refine Goes.noted (Foot.le_trans (by decide +kernel) hF) ?_
    | with_reducible refine Goes.takeSets (Foot.le_trans (by decide +kernel) hF) ?_
    | with_reducible refine Goes.upS (Foot.le_trans (by decide +kernel) hF) ?_
    | with_reducible refine Goes.each ?_ ?_
    | with_reducible refine Goes.farStreamEnds (Foot.le_trans (by decide +kernel) hF) ?_
    | with_reducible refine Goes.setTx (Foot.le_trans (by decide +kernel) hF) ?_
    | with_reducible refine Goes.emit (Foot.le_trans (by decide +kernel) hF) ?_
    | with_reducible refine Goes.foldl ?_ ?_
    | split
    | intro _

/-- What `execPathSend` may change. -/
def fp_execPathSend : Foot := ⟨[.sides], some []⟩
theorem goes_execPathSend {q : SideId} {s : State} (hF : fp_execPathSend.le F = true) (hgo : Goes F s0 s) :
     Runs F s0 (execPathSend q s) := by
  unfold execPathSend
  try dsimp only
  repeat' first
    | with_reducible assumption
    | with_reducible refine Runs.next ?_
    | with_reducible refine Goes.pathSoon (Foot.le_trans (by decide +kernel) hF) ?_
    | with_reducible refine Goes.upS (Foot.le_trans (by decide +kernel) hF) ?_
    | with_reducible refine Goes.foldl ?_ ?_
    | split
    | intro _

/-- What `State.pathMargin` may change. -/
def fp_pathMargin : Foot := ⟨[.halves, .sides, .ports, .engines, .outbox, .freeCtr], some [0x40800F, 0x408008,
  0x40800A, 0x408000, 0x40800C]⟩
theorem Goes.pathMargin {s : State} {q : Nat} {m : List Byte} (hF : fp_pathMargin.le F = true) (hgo : Goes F s0 s) :
     Goes F s0 (State.pathMargin s q m) := by
  unfold State.pathMargin
  try dsimp only
  repeat' first
    | with_reducible assumption
    | with_reducible refine Goes.pathSoon (Foot.le_trans (by decide +kernel) hF) ?_
    | with_reducible refine Goes.upP (Foot.le_trans (by decide +kernel) hF) ?_
    | with_reducible refine Goes.marginDo (Foot.le_trans (by decide +kernel) hF) ?_
    | with_reducible refine Goes.foldl ?_ ?_
    | split
    | intro _

/-- What `State.farSignal` may change. -/
def fp_farSignal : Foot := ⟨[.halves, .sides, .ports, .engines, .tiles, .evq], some [0x220018, 0x220010, 0x200100,
  0x40800F, 0x408008, 0x40800A, 0x408000, 0x40800C, 0xE0390, 0xE0380, 0xE0388, 0xE0210, 0xE0200, 0xE021E, 0xE0208,
  0xE021F, 0xE0280, 0xE0100, 0xE0001, 0x4000418, 0x4000413, 0x400041F, 0x4000294, 0x4000280, 0x400029D, 0x400029E,
  0x4000290, 0x400051C, 0x4000398, 0x400038C, 0x4000392, 0x4000386, 0x4000380, 0x400039E, 0x2000104, 0x200011E,
  0x200010C, 0x2000100, 0x200011D, 0x2000108, 0x200011F, 0x2000510, 0x2000508, 0x200048F, 0x2000498, 0x2000494,
  0x200048E, 0x200048B, 0x2000488, 0x2000490, 0x200049C, 0x2000492, 0x100097]⟩
theorem Goes.farSignal {s : State} {p : Nat} {ei : Bool} {was : Bool} {mask : Nat} (hF : fp_farSignal.le F = true) (hgo : Goes F s0 s) :
     Goes F s0 (State.farSignal s p ei was mask) := by
  unfold State.farSignal
  try dsimp only
  repeat' first
    | with_reducible assumption
    | with_reducible refine Goes.enterForward (Foot.le_trans (by decide +kernel) hF) ?_
    | with_reducible refine Goes.stdIdle (Foot.le_trans (by decide +kernel) hF) ?_
    | with_reducible refine Goes.enterDetect (Foot.le_trans (by decide +kernel) hF) ?_
    | with_reducible refine Goes.farStart (Foot.le_trans (by decide +kernel) hF) ?_
    | with_reducible refine Goes.each ?_ ?_
    | with_reducible refine Goes.put (List.mem_singleton.2 (fieldName_PRT_TRN_STATUS_L0P _)) (known_PRT_TRN_STATUS_L0P _).agrees (Foot.le_trans (by decide +kernel) hF) ?_
    | with_reducible refine Goes.setTx (Foot.le_trans (by decide +kernel) hF) ?_
    | with_reducible refine Goes.foldl ?_ ?_
    | split
    | intro _

/-- What `State.pathArrived` may change. -/
def fp_pathArrived : Foot := ⟨[.halves, .sides, .ports, .engines, .tiles, .evq, .outbox, .freeCtr], some [0x220018,
  0x220010, 0x200100, 0x40800F, 0x408008, 0x40800A, 0x408000, 0x40800C, 0xE0390, 0xE0380, 0xE0388, 0xE0210, 0xE0200,
  0xE021E, 0xE0208, 0xE021F, 0xE0280, 0xE0100, 0xE0001, 0x4000418, 0x4000413, 0x400041F, 0x4000294, 0x4000280,
  0x400029D, 0x400029E, 0x4000290, 0x400051C, 0x4000398, 0x400038C, 0x4000392, 0x4000386, 0x4000380, 0x400039E,
  0x2000104, 0x200011E, 0x200010C, 0x2000100, 0x200011D, 0x2000108, 0x200011F, 0x2000906, 0x2000510, 0x2000508,
  0x200051D, 0x200048F, 0x2000498, 0x2000494, 0x200048E, 0x200048B, 0x2000488, 0x2000490, 0x200049C, 0x2000492,
  0x100097]⟩
theorem Goes.pathArrived {s : State} {q : Nat} {m : List Byte} (hF : fp_pathArrived.le F = true) (hgo : Goes F s0 s) :
     Goes F s0 (State.pathArrived s q m) := by
  unfold State.pathArrived
  extract_lets p d flags hops present ei old was s1 t s2 s3 s4 clash fits
  have h_s1 : Goes F s0 s1 := by
    unfold s1
    repeat' first
      | with_reducible assumption
      | with_reducible refine Goes.upH (Foot.le_trans (by decide +kernel) hF) (fun _ h => h) ?_
      | with_reducible refine Goes.upH (Foot.le_trans (by decide +kernel) hF) ?_ ?_
      | with_reducible refine Goes.breakStream (Foot.le_trans (by decide +kernel) hF) ?_
      | with_reducible refine Goes.enterDetect (Foot.le_trans (by decide +kernel) hF) ?_
      | with_reducible refine Goes.on (List.mem_singleton.2 (fieldName_PRT_SEG_STATUS_CHAIN_TOO_LONG _)) (known_PRT_SEG_STATUS_CHAIN_TOO_LONG _).agrees (Foot.le_trans (by decide +kernel) hF) ?_
      | with_reducible refine Goes.on (List.mem_singleton.2 (fieldName_PRT_TRN_EVENTS_TRN_TIMEOUT _)) (known_PRT_TRN_EVENTS_TRN_TIMEOUT _).agrees (Foot.le_trans (by decide +kernel) hF) ?_
      | with_reducible refine Goes.on (List.mem_singleton.2 (fieldName_PRT_TRN_STATUS_UP_SIDE _)) (known_PRT_TRN_STATUS_UP_SIDE _).agrees (Foot.le_trans (by decide +kernel) hF) ?_
      | with_reducible refine Goes.pathMargin (Foot.le_trans (by decide +kernel) hF) ?_
      | with_reducible refine Goes.upP (Foot.le_trans (by decide +kernel) hF) ?_
      | with_reducible refine Goes.wr (List.mem_singleton.2 (fieldName_PRT_SEG_STATUS_CHAIN_TOO_LONG _)) (known_PRT_SEG_STATUS_CHAIN_TOO_LONG _).agrees (Foot.le_trans (by decide +kernel) hF) ?_
      | with_reducible refine Goes.wr (List.mem_singleton.2 (fieldName_PRT_TRN_EVENTS_TRN_TIMEOUT _)) (known_PRT_TRN_EVENTS_TRN_TIMEOUT _).agrees (Foot.le_trans (by decide +kernel) hF) ?_
      | with_reducible refine Goes.wr (List.mem_singleton.2 (fieldName_PRT_TRN_STATUS_UP_SIDE _)) (known_PRT_TRN_STATUS_UP_SIDE _).agrees (Foot.le_trans (by decide +kernel) hF) ?_
      | with_reducible refine Goes.upS (Foot.le_trans (by decide +kernel) hF) ?_
      | with_reducible refine Goes.each ?_ ?_
      | with_reducible refine Goes.raise (Foot.le_trans (by decide +kernel) hF) ?_
      | with_reducible refine Goes.farSignal (Foot.le_trans (by decide +kernel) hF) ?_
      | with_reducible refine Goes.foldl ?_ ?_
      | exact fun _ h => h
      | exact fun _ h => by dsimp only; (repeat' split) <;> exact h
      | split
      | intro _
  clear_value s1
  have h_t : Goes F s0 t := by
    unfold t
    repeat' first
      | with_reducible assumption
      | with_reducible refine Goes.upH (Foot.le_trans (by decide +kernel) hF) (fun _ h => h) ?_
      | with_reducible refine Goes.upH (Foot.le_trans (by decide +kernel) hF) ?_ ?_
      | with_reducible refine Goes.breakStream (Foot.le_trans (by decide +kernel) hF) ?_
      | with_reducible refine Goes.enterDetect (Foot.le_trans (by decide +kernel) hF) ?_
      | with_reducible refine Goes.on (List.mem_singleton.2 (fieldName_PRT_SEG_STATUS_CHAIN_TOO_LONG _)) (known_PRT_SEG_STATUS_CHAIN_TOO_LONG _).agrees (Foot.le_trans (by decide +kernel) hF) ?_
      | with_reducible refine Goes.on (List.mem_singleton.2 (fieldName_PRT_TRN_EVENTS_TRN_TIMEOUT _)) (known_PRT_TRN_EVENTS_TRN_TIMEOUT _).agrees (Foot.le_trans (by decide +kernel) hF) ?_
      | with_reducible refine Goes.on (List.mem_singleton.2 (fieldName_PRT_TRN_STATUS_UP_SIDE _)) (known_PRT_TRN_STATUS_UP_SIDE _).agrees (Foot.le_trans (by decide +kernel) hF) ?_
      | with_reducible refine Goes.pathMargin (Foot.le_trans (by decide +kernel) hF) ?_
      | with_reducible refine Goes.upP (Foot.le_trans (by decide +kernel) hF) ?_
      | with_reducible refine Goes.wr (List.mem_singleton.2 (fieldName_PRT_SEG_STATUS_CHAIN_TOO_LONG _)) (known_PRT_SEG_STATUS_CHAIN_TOO_LONG _).agrees (Foot.le_trans (by decide +kernel) hF) ?_
      | with_reducible refine Goes.wr (List.mem_singleton.2 (fieldName_PRT_TRN_EVENTS_TRN_TIMEOUT _)) (known_PRT_TRN_EVENTS_TRN_TIMEOUT _).agrees (Foot.le_trans (by decide +kernel) hF) ?_
      | with_reducible refine Goes.wr (List.mem_singleton.2 (fieldName_PRT_TRN_STATUS_UP_SIDE _)) (known_PRT_TRN_STATUS_UP_SIDE _).agrees (Foot.le_trans (by decide +kernel) hF) ?_
      | with_reducible refine Goes.upS (Foot.le_trans (by decide +kernel) hF) ?_
      | with_reducible refine Goes.each ?_ ?_
      | with_reducible refine Goes.raise (Foot.le_trans (by decide +kernel) hF) ?_
      | with_reducible refine Goes.farSignal (Foot.le_trans (by decide +kernel) hF) ?_
      | with_reducible refine Goes.foldl ?_ ?_
      | exact fun _ h => h
      | exact fun _ h => by dsimp only; (repeat' split) <;> exact h
      | split
      | intro _
  clear_value t
  have h_s2 : Goes F s0 s2 := by
    unfold s2
    repeat' first
      | with_reducible assumption
      | with_reducible refine Goes.upH (Foot.le_trans (by decide +kernel) hF) (fun _ h => h) ?_
      | with_reducible refine Goes.upH (Foot.le_trans (by decide +kernel) hF) ?_ ?_
      | with_reducible refine Goes.breakStream (Foot.le_trans (by decide +kernel) hF) ?_
      | with_reducible refine Goes.enterDetect (Foot.le_trans (by decide +kernel) hF) ?_
      | with_reducible refine Goes.on (List.mem_singleton.2 (fieldName_PRT_SEG_STATUS_CHAIN_TOO_LONG _)) (known_PRT_SEG_STATUS_CHAIN_TOO_LONG _).agrees (Foot.le_trans (by decide +kernel) hF) ?_
      | with_reducible refine Goes.on (List.mem_singleton.2 (fieldName_PRT_TRN_EVENTS_TRN_TIMEOUT _)) (known_PRT_TRN_EVENTS_TRN_TIMEOUT _).agrees (Foot.le_trans (by decide +kernel) hF) ?_
      | with_reducible refine Goes.on (List.mem_singleton.2 (fieldName_PRT_TRN_STATUS_UP_SIDE _)) (known_PRT_TRN_STATUS_UP_SIDE _).agrees (Foot.le_trans (by decide +kernel) hF) ?_
      | with_reducible refine Goes.pathMargin (Foot.le_trans (by decide +kernel) hF) ?_
      | with_reducible refine Goes.upP (Foot.le_trans (by decide +kernel) hF) ?_
      | with_reducible refine Goes.wr (List.mem_singleton.2 (fieldName_PRT_SEG_STATUS_CHAIN_TOO_LONG _)) (known_PRT_SEG_STATUS_CHAIN_TOO_LONG _).agrees (Foot.le_trans (by decide +kernel) hF) ?_
      | with_reducible refine Goes.wr (List.mem_singleton.2 (fieldName_PRT_TRN_EVENTS_TRN_TIMEOUT _)) (known_PRT_TRN_EVENTS_TRN_TIMEOUT _).agrees (Foot.le_trans (by decide +kernel) hF) ?_
      | with_reducible refine Goes.wr (List.mem_singleton.2 (fieldName_PRT_TRN_STATUS_UP_SIDE _)) (known_PRT_TRN_STATUS_UP_SIDE _).agrees (Foot.le_trans (by decide +kernel) hF) ?_
      | with_reducible refine Goes.upS (Foot.le_trans (by decide +kernel) hF) ?_
      | with_reducible refine Goes.each ?_ ?_
      | with_reducible refine Goes.raise (Foot.le_trans (by decide +kernel) hF) ?_
      | with_reducible refine Goes.farSignal (Foot.le_trans (by decide +kernel) hF) ?_
      | with_reducible refine Goes.foldl ?_ ?_
      | exact fun _ h => h
      | exact fun _ h => by dsimp only; (repeat' split) <;> exact h
      | split
      | intro _
  clear_value s2
  have h_s3 : Goes F s0 s3 := by
    unfold s3
    repeat' first
      | with_reducible assumption
      | with_reducible refine Goes.upH (Foot.le_trans (by decide +kernel) hF) (fun _ h => h) ?_
      | with_reducible refine Goes.upH (Foot.le_trans (by decide +kernel) hF) ?_ ?_
      | with_reducible refine Goes.breakStream (Foot.le_trans (by decide +kernel) hF) ?_
      | with_reducible refine Goes.enterDetect (Foot.le_trans (by decide +kernel) hF) ?_
      | with_reducible refine Goes.on (List.mem_singleton.2 (fieldName_PRT_SEG_STATUS_CHAIN_TOO_LONG _)) (known_PRT_SEG_STATUS_CHAIN_TOO_LONG _).agrees (Foot.le_trans (by decide +kernel) hF) ?_
      | with_reducible refine Goes.on (List.mem_singleton.2 (fieldName_PRT_TRN_EVENTS_TRN_TIMEOUT _)) (known_PRT_TRN_EVENTS_TRN_TIMEOUT _).agrees (Foot.le_trans (by decide +kernel) hF) ?_
      | with_reducible refine Goes.on (List.mem_singleton.2 (fieldName_PRT_TRN_STATUS_UP_SIDE _)) (known_PRT_TRN_STATUS_UP_SIDE _).agrees (Foot.le_trans (by decide +kernel) hF) ?_
      | with_reducible refine Goes.pathMargin (Foot.le_trans (by decide +kernel) hF) ?_
      | with_reducible refine Goes.upP (Foot.le_trans (by decide +kernel) hF) ?_
      | with_reducible refine Goes.wr (List.mem_singleton.2 (fieldName_PRT_SEG_STATUS_CHAIN_TOO_LONG _)) (known_PRT_SEG_STATUS_CHAIN_TOO_LONG _).agrees (Foot.le_trans (by decide +kernel) hF) ?_
      | with_reducible refine Goes.wr (List.mem_singleton.2 (fieldName_PRT_TRN_EVENTS_TRN_TIMEOUT _)) (known_PRT_TRN_EVENTS_TRN_TIMEOUT _).agrees (Foot.le_trans (by decide +kernel) hF) ?_
      | with_reducible refine Goes.wr (List.mem_singleton.2 (fieldName_PRT_TRN_STATUS_UP_SIDE _)) (known_PRT_TRN_STATUS_UP_SIDE _).agrees (Foot.le_trans (by decide +kernel) hF) ?_
      | with_reducible refine Goes.upS (Foot.le_trans (by decide +kernel) hF) ?_
      | with_reducible refine Goes.each ?_ ?_
      | with_reducible refine Goes.raise (Foot.le_trans (by decide +kernel) hF) ?_
      | with_reducible refine Goes.farSignal (Foot.le_trans (by decide +kernel) hF) ?_
      | with_reducible refine Goes.foldl ?_ ?_
      | exact fun _ h => h
      | exact fun _ h => by dsimp only; (repeat' split) <;> exact h
      | split
      | intro _
  clear_value s3
  have h_s4 : Goes F s0 s4 := by
    unfold s4
    repeat' first
      | with_reducible assumption
      | with_reducible refine Goes.upH (Foot.le_trans (by decide +kernel) hF) (fun _ h => h) ?_
      | with_reducible refine Goes.upH (Foot.le_trans (by decide +kernel) hF) ?_ ?_
      | with_reducible refine Goes.breakStream (Foot.le_trans (by decide +kernel) hF) ?_
      | with_reducible refine Goes.enterDetect (Foot.le_trans (by decide +kernel) hF) ?_
      | with_reducible refine Goes.on (List.mem_singleton.2 (fieldName_PRT_SEG_STATUS_CHAIN_TOO_LONG _)) (known_PRT_SEG_STATUS_CHAIN_TOO_LONG _).agrees (Foot.le_trans (by decide +kernel) hF) ?_
      | with_reducible refine Goes.on (List.mem_singleton.2 (fieldName_PRT_TRN_EVENTS_TRN_TIMEOUT _)) (known_PRT_TRN_EVENTS_TRN_TIMEOUT _).agrees (Foot.le_trans (by decide +kernel) hF) ?_
      | with_reducible refine Goes.on (List.mem_singleton.2 (fieldName_PRT_TRN_STATUS_UP_SIDE _)) (known_PRT_TRN_STATUS_UP_SIDE _).agrees (Foot.le_trans (by decide +kernel) hF) ?_
      | with_reducible refine Goes.pathMargin (Foot.le_trans (by decide +kernel) hF) ?_
      | with_reducible refine Goes.upP (Foot.le_trans (by decide +kernel) hF) ?_
      | with_reducible refine Goes.wr (List.mem_singleton.2 (fieldName_PRT_SEG_STATUS_CHAIN_TOO_LONG _)) (known_PRT_SEG_STATUS_CHAIN_TOO_LONG _).agrees (Foot.le_trans (by decide +kernel) hF) ?_
      | with_reducible refine Goes.wr (List.mem_singleton.2 (fieldName_PRT_TRN_EVENTS_TRN_TIMEOUT _)) (known_PRT_TRN_EVENTS_TRN_TIMEOUT _).agrees (Foot.le_trans (by decide +kernel) hF) ?_
      | with_reducible refine Goes.wr (List.mem_singleton.2 (fieldName_PRT_TRN_STATUS_UP_SIDE _)) (known_PRT_TRN_STATUS_UP_SIDE _).agrees (Foot.le_trans (by decide +kernel) hF) ?_
      | with_reducible refine Goes.upS (Foot.le_trans (by decide +kernel) hF) ?_
      | with_reducible refine Goes.each ?_ ?_
      | with_reducible refine Goes.raise (Foot.le_trans (by decide +kernel) hF) ?_
      | with_reducible refine Goes.farSignal (Foot.le_trans (by decide +kernel) hF) ?_
      | with_reducible refine Goes.foldl ?_ ?_
      | exact fun _ h => h
      | exact fun _ h => by dsimp only; (repeat' split) <;> exact h
      | split
      | intro _
  clear_value s4
  repeat' first
    | with_reducible assumption
    | with_reducible refine Goes.upH (Foot.le_trans (by decide +kernel) hF) (fun _ h => h) ?_
    | with_reducible refine Goes.upH (Foot.le_trans (by decide +kernel) hF) ?_ ?_
    | with_reducible refine Goes.breakStream (Foot.le_trans (by decide +kernel) hF) ?_
    | with_reducible refine Goes.enterDetect (Foot.le_trans (by decide +kernel) hF) ?_
    | with_reducible refine Goes.on (List.mem_singleton.2 (fieldName_PRT_SEG_STATUS_CHAIN_TOO_LONG _)) (known_PRT_SEG_STATUS_CHAIN_TOO_LONG _).agrees (Foot.le_trans (by decide +kernel) hF) ?_
    | with_reducible refine Goes.on (List.mem_singleton.2 (fieldName_PRT_TRN_EVENTS_TRN_TIMEOUT _)) (known_PRT_TRN_EVENTS_TRN_TIMEOUT _).agrees (Foot.le_trans (by decide +kernel) hF) ?_
    | with_reducible refine Goes.on (List.mem_singleton.2 (fieldName_PRT_TRN_STATUS_UP_SIDE _)) (known_PRT_TRN_STATUS_UP_SIDE _).agrees (Foot.le_trans (by decide +kernel) hF) ?_
    | with_reducible refine Goes.pathMargin (Foot.le_trans (by decide +kernel) hF) ?_
    | with_reducible refine Goes.upP (Foot.le_trans (by decide +kernel) hF) ?_
    | with_reducible refine Goes.wr (List.mem_singleton.2 (fieldName_PRT_SEG_STATUS_CHAIN_TOO_LONG _)) (known_PRT_SEG_STATUS_CHAIN_TOO_LONG _).agrees (Foot.le_trans (by decide +kernel) hF) ?_
    | with_reducible refine Goes.wr (List.mem_singleton.2 (fieldName_PRT_TRN_EVENTS_TRN_TIMEOUT _)) (known_PRT_TRN_EVENTS_TRN_TIMEOUT _).agrees (Foot.le_trans (by decide +kernel) hF) ?_
    | with_reducible refine Goes.wr (List.mem_singleton.2 (fieldName_PRT_TRN_STATUS_UP_SIDE _)) (known_PRT_TRN_STATUS_UP_SIDE _).agrees (Foot.le_trans (by decide +kernel) hF) ?_
    | with_reducible refine Goes.upS (Foot.le_trans (by decide +kernel) hF) ?_
    | with_reducible refine Goes.each ?_ ?_
    | with_reducible refine Goes.raise (Foot.le_trans (by decide +kernel) hF) ?_
    | with_reducible refine Goes.farSignal (Foot.le_trans (by decide +kernel) hF) ?_
    | with_reducible refine Goes.foldl ?_ ?_
    | exact fun _ h => h
    | exact fun _ h => by dsimp only; (repeat' split) <;> exact h
    | split
    | intro _

/-- What `execPathFrameReceived` may change. -/
def fp_execPathFrameReceived : Foot := ⟨[.halves, .sides, .ports, .engines, .tiles, .evq, .outbox, .freeCtr], some
  [0x220018, 0x220010, 0x200100, 0x40800F, 0x408008, 0x40800A, 0x408000, 0x40800C, 0xE0390, 0xE0380, 0xE0388, 0xE0210,
  0xE0200, 0xE021E, 0xE0208, 0xE021F, 0xE0280, 0xE0100, 0xE0001, 0x4000418, 0x4000413, 0x400041F, 0x4000294, 0x4000280,
  0x400029D, 0x400029E, 0x4000290, 0x400051C, 0x4000398, 0x400038C, 0x4000392, 0x4000386, 0x4000380, 0x400039E,
  0x2000104, 0x200011E, 0x200010C, 0x2000100, 0x200011D, 0x2000108, 0x200011F, 0x2000906, 0x2000907, 0x2000510,
  0x2000508, 0x200051D, 0x200048F, 0x2000498, 0x2000494, 0x200048E, 0x200048B, 0x2000488, 0x2000490, 0x200049C,
  0x2000492, 0x100097]⟩
theorem goes_execPathFrameReceived {q : SideId} {payload : List Byte} {s : State} (hF : fp_execPathFrameReceived.le F = true) (hgo : Goes F s0 s) :
     Runs F s0 (execPathFrameReceived q payload s) := by
  unfold execPathFrameReceived
  try dsimp only
  repeat' first
    | with_reducible assumption
    | with_reducible refine Runs.next ?_
    | with_reducible refine Goes.noted (Foot.le_trans (by decide +kernel) hF) ?_
    | with_reducible refine Goes.pathArrived (Foot.le_trans (by decide +kernel) hF) ?_
    | with_reducible refine Goes.wr (List.mem_singleton.2 (fieldName_PRT_SEG_STATUS_HOPS _)) (known_PRT_SEG_STATUS_HOPS _).agrees (Foot.le_trans (by decide +kernel) hF) ?_
    | with_reducible refine Goes.upS (Foot.le_trans (by decide +kernel) hF) ?_
    | with_reducible refine Goes.foldl ?_ ?_
    | split
    | intro _

/-- What `execOsetReceived` may change. -/
def fp_execOsetReceived : Foot := ⟨[.halves, .ports, .engines, .tiles, .evq, .outbox], some [0x220018, 0x220010,
  0x200100, 0x40800F, 0x408008, 0x40800A, 0x408000, 0x40800C, 0xE0390, 0xE0380, 0xE0388, 0xE0210, 0xE0200, 0xE021E,
  0xE0208, 0xE021F, 0xE0280, 0xE0100, 0xE0001, 0x4000418, 0x4000294, 0x4000280, 0x400029D, 0x400029E, 0x400051C,
  0x4000398, 0x400038C, 0x4000392, 0x4000386, 0x4000380, 0x400039E, 0x2000104, 0x2000100, 0x200011F, 0x2000510,
  0x2000508, 0x2000498, 0x200048B, 0x200049C, 0x100097]⟩
theorem goes_execOsetReceived {q : SideId} {payload : List Byte} {s : State} (hF : fp_execOsetReceived.le F = true) (hgo : Goes F s0 s) :
     Runs F s0 (execOsetReceived q payload s) := by
  unfold execOsetReceived
  try dsimp only
  repeat' first
    | with_reducible assumption
    | with_reducible refine Runs.next ?_
    | with_reducible refine Goes.enterForward (Foot.le_trans (by decide +kernel) hF) ?_
    | with_reducible refine Goes.noted (Foot.le_trans (by decide +kernel) hF) ?_
    | with_reducible refine Goes.farStreamEnds (Foot.le_trans (by decide +kernel) hF) ?_
    | with_reducible refine Goes.emit (Foot.le_trans (by decide +kernel) hF) ?_
    | with_reducible refine Goes.foldl ?_ ?_
    | split
    | intro _

end Sys2Proof.Machine
end

