-- ==== Sys2Proof/Laws/OnTrellis.lean ====
section
/-! SUPPORT. What each operation of `Machine/Trellis.lean` may change: one lemma for each. -/

set_option linter.all false
set_option Elab.async false

namespace Sys2Proof.Machine

variable {F : Foot} {s0 : State}

/-- What `execHardFaultDeclare` may change. -/
def fp_execHardFaultDeclare : Foot := ⟨[.halves, .sides, .ports, .engines, .tiles, .evq], some [0x220018, 0x220010,
  0x200100, 0x40800F, 0x408008, 0x40800A, 0x408000, 0x40800C, 0xE0390, 0xE0380, 0xE0388, 0xE0210, 0xE0200, 0xE021E,
  0xE0208, 0xE021F, 0xE0280, 0xE0100, 0xE0001, 0x4000418, 0x4000413, 0x400041F, 0x4000294, 0x4000280, 0x400029D,
  0x400029E, 0x4000290, 0x4000500, 0x400050D, 0x4000518, 0x400050E, 0x400051C, 0x4000513, 0x4000486, 0x4000480,
  0x4000487, 0x4000398, 0x400038C, 0x4000392, 0x4000386, 0x4000380, 0x400039E, 0x2000104, 0x200011E, 0x200010C,
  0x2000100, 0x200011D, 0x2000108, 0x200011F, 0x200090A, 0x200091C, 0x2000E08, 0x2000D05, 0x2000D03, 0x2000D06,
  0x2000D10, 0x2000D00, 0x2000D1C, 0x2000D08, 0x2000D18, 0x2000510, 0x2000508, 0x200048F, 0x2000498, 0x2000494,
  0x200048E, 0x200048B, 0x2000488, 0x2000490, 0x200049C, 0x2000492, 0x100097]⟩
theorem goes_execHardFaultDeclare {h : HalfId} {reason : Fin 16} {s : State} (hF : fp_execHardFaultDeclare.le F = true) (hgo : Goes F s0 s) :
     Runs F s0 (execHardFaultDeclare h reason s) := by
  unfold execHardFaultDeclare
  try dsimp only
  repeat' first
    | with_reducible assumption
    | with_reducible refine Runs.next ?_
    | with_reducible refine Goes.noted (Foot.le_trans (by decide +kernel) hF) ?_
    | with_reducible refine Goes.declareFault (Foot.le_trans (by decide +kernel) hF) ?_
    | with_reducible refine Goes.foldl ?_ ?_
    | split
    | intro _

/-- What `execCorrBlockEnd` may change. -/
def fp_execCorrBlockEnd : Foot := ⟨[.halves, .sides, .ports, .engines, .tiles, .evq], some [0x220018, 0x220010,
  0x200100, 0x40800F, 0x408008, 0x40800A, 0x408000, 0x40800C, 0xE0390, 0xE0380, 0xE0388, 0xE0210, 0xE0200, 0xE021E,
  0xE0208, 0xE021F, 0xE0280, 0xE0100, 0xE0001, 0x4000418, 0x4000413, 0x400041F, 0x4000294, 0x4000280, 0x400029D,
  0x400029E, 0x4000290, 0x4000500, 0x400050D, 0x4000518, 0x400050E, 0x400051C, 0x4000513, 0x4000486, 0x4000480,
  0x4000487, 0x4000398, 0x400038C, 0x4000392, 0x4000386, 0x4000380, 0x400039E, 0x2000104, 0x200011E, 0x200010C,
  0x2000100, 0x200011D, 0x2000108, 0x200011F, 0x200090A, 0x200091C, 0x2000E08, 0x2000D05, 0x2000D03, 0x2000D06,
  0x2000D10, 0x2000D00, 0x2000D1C, 0x2000D08, 0x2000D18, 0x2000510, 0x2000508, 0x200048F, 0x2000498, 0x2000494,
  0x200048E, 0x200048B, 0x2000488, 0x2000490, 0x200049C, 0x2000492, 0x100097]⟩
theorem goes_execCorrBlockEnd {h : HalfId} {s : State} (hF : fp_execCorrBlockEnd.le F = true) (hgo : Goes F s0 s) :
     Runs F s0 (execCorrBlockEnd h s) := by
  unfold execCorrBlockEnd
  try dsimp only
  repeat' first
    | with_reducible assumption
    | with_reducible refine Runs.next ?_
    | with_reducible refine Goes.upH (Foot.le_trans (by decide +kernel) hF) (fun _ h => h) ?_
    | with_reducible refine Goes.upH (Foot.le_trans (by decide +kernel) hF) ?_ ?_
    | with_reducible refine Goes.noted (Foot.le_trans (by decide +kernel) hF) ?_
    | with_reducible refine Goes.declareFault (Foot.le_trans (by decide +kernel) hF) ?_
    | with_reducible refine Goes.foldl ?_ ?_
    | exact fun _ h => h
    | exact fun _ h => by dsimp only; (repeat' split) <;> exact h
    | split
    | intro _

/-- What `execStandardLaneFault` may change. -/
def fp_execStandardLaneFault : Foot := ⟨[.halves, .sides, .ports, .engines, .tiles, .evq], some [0x220018, 0x220010,
  0x200100, 0x40800F, 0x408008, 0x40800A, 0x408000, 0x40800C, 0xE0390, 0xE0380, 0xE0388, 0xE0210, 0xE0200, 0xE021E,
  0xE0208, 0xE021F, 0xE0280, 0xE0100, 0xE0001, 0x4000418, 0x4000294, 0x4000280, 0x400029D, 0x400029E, 0x4000500,
  0x400050D, 0x4000518, 0x400051C, 0x4000398, 0x400038C, 0x4000392, 0x4000386, 0x4000380, 0x400039E, 0x2000104,
  0x2000100, 0x100097]⟩
theorem goes_execStandardLaneFault {h : HalfId} {reason : Fin 16} {s : State} (hF : fp_execStandardLaneFault.le F = true) (hgo : Goes F s0 s) :
     Runs F s0 (execStandardLaneFault h reason s) := by
  unfold execStandardLaneFault
  try dsimp only
  repeat' first
    | with_reducible assumption
    | with_reducible refine Runs.next ?_
    | with_reducible refine Goes.stdLaneFault (Foot.le_trans (by decide +kernel) hF) ?_
    | with_reducible refine Goes.foldl ?_ ?_
    | split
    | intro _

/-- What `execTrellisPropose` may change. -/
def fp_execTrellisPropose : Foot := ⟨[.halves, .sides, .ports, .engines, .tiles, .evq], some [0x220018, 0x220010,
  0x200100, 0x40800F, 0x408008, 0x40800A, 0x408000, 0x40800C, 0xE0390, 0xE0380, 0xE0388, 0xE0210, 0xE0200, 0xE021E,
  0xE0208, 0xE021F, 0xE0280, 0xE0100, 0xE0001, 0x4000418, 0x4000413, 0x400041F, 0x4000294, 0x4000280, 0x400029D,
  0x400029E, 0x4000290, 0x400050E, 0x400051C, 0x4000513, 0x4000486, 0x4000480, 0x4000487, 0x4000398, 0x400038C,
  0x4000392, 0x4000386, 0x4000380, 0x400039E, 0x2000104, 0x200011E, 0x200010C, 0x2000100, 0x200011D, 0x2000108,
  0x200011F, 0x200090A, 0x200091C, 0x2000E18, 0x2000D05, 0x2000D04, 0x2000D03, 0x2000D06, 0x2000D10, 0x2000D00,
  0x2000D1C, 0x2000D08, 0x2000D18, 0x2000510, 0x2000508, 0x200048F, 0x2000498, 0x2000494, 0x200048E, 0x200048B,
  0x2000488, 0x2000490, 0x200049C, 0x2000492, 0x100097]⟩
theorem goes_execTrellisPropose {q : SideId} {s : State} (hF : fp_execTrellisPropose.le F = true) (hgo : Goes F s0 s) :
     Runs F s0 (execTrellisPropose q s) := by
  unfold execTrellisPropose
  try dsimp only
  repeat' first
    | with_reducible assumption
    | with_reducible refine Runs.next ?_
    | with_reducible refine Goes.noted (Foot.le_trans (by decide +kernel) hF) ?_
    | with_reducible refine Goes.serve (Foot.le_trans (by decide +kernel) hF) ?_
    | with_reducible refine Goes.upS (Foot.le_trans (by decide +kernel) hF) ?_
    | with_reducible refine Goes.foldl ?_ ?_
    | split
    | intro _

/-- What `execTrellisProposeReceived` may change. -/
def fp_execTrellisProposeReceived : Foot := ⟨[.sides], some [0x2000D18]⟩
theorem goes_execTrellisProposeReceived {q : SideId} {msg : List Byte} {s : State} (hF : fp_execTrellisProposeReceived.le F = true) (hgo : Goes F s0 s) :
     Runs F s0 (execTrellisProposeReceived q msg s) := by
  unfold execTrellisProposeReceived
  try dsimp only
  repeat' first
    | with_reducible assumption
    | with_reducible refine Runs.next ?_
    | with_reducible refine Goes.answer (Foot.le_trans (by decide +kernel) hF) ?_
    | with_reducible refine Goes.voidPrepared (Foot.le_trans (by decide +kernel) hF) ?_
    | with_reducible refine Goes.checkPropose (Foot.le_trans (by decide +kernel) hF) ?_
    | with_reducible refine Goes.foldl ?_ ?_
    | split
    | intro _

/-- What `execTrellisPreparedReceived` may change. -/
def fp_execTrellisPreparedReceived : Foot := ⟨[.halves, .sides], some [0x2000D1C]⟩
theorem goes_execTrellisPreparedReceived {q : SideId} {msg : List Byte} {s : State} (hF : fp_execTrellisPreparedReceived.le F = true) (hgo : Goes F s0 s) :
     Runs F s0 (execTrellisPreparedReceived q msg s) := by
  unfold execTrellisPreparedReceived
  try dsimp only
  repeat' first
    | with_reducible assumption
    | with_reducible refine Runs.next ?_
    | with_reducible refine Goes.wr (List.mem_singleton.2 (fieldName_PRT_TRL_STATUS_STEER_STATE _)) (known_PRT_TRL_STATUS_STEER_STATE _).agrees (Foot.le_trans (by decide +kernel) hF) ?_
    | with_reducible refine Goes.toCommitting (Foot.le_trans (by decide +kernel) hF) ?_
    | with_reducible refine Goes.upS (Foot.le_trans (by decide +kernel) hF) ?_
    | with_reducible refine Goes.steerStop (Foot.le_trans (by decide +kernel) hF) ?_
    | with_reducible refine Goes.foldl ?_ ?_
    | split
    | intro _

/-- What `execTrellisRefusedReceived` may change. -/
def fp_execTrellisRefusedReceived : Foot := ⟨[.halves, .sides, .ports, .engines, .tiles, .evq], some [0x220018,
  0x220010, 0x200100, 0x40800F, 0x408008, 0x40800A, 0x408000, 0x40800C, 0xE0390, 0xE0380, 0xE0388, 0xE0210, 0xE0200,
  0xE021E, 0xE0208, 0xE021F, 0xE0280, 0xE0100, 0xE0001, 0x4000418, 0x4000413, 0x400041F, 0x4000294, 0x4000280,
  0x400029D, 0x400029E, 0x4000290, 0x400050E, 0x400051C, 0x4000513, 0x4000486, 0x4000480, 0x4000487, 0x4000398,
  0x400038C, 0x4000392, 0x4000386, 0x4000380, 0x400039E, 0x2000104, 0x200011E, 0x200010C, 0x2000100, 0x200011D,
  0x2000108, 0x200011F, 0x200090A, 0x200091C, 0x2000E00, 0x2000D05, 0x2000D03, 0x2000D06, 0x2000D10, 0x2000D00,
  0x2000D1C, 0x2000D08, 0x2000D18, 0x2000510, 0x2000508, 0x200048F, 0x2000498, 0x2000494, 0x200048E, 0x200048B,
  0x2000488, 0x2000490, 0x200049C, 0x2000492, 0x100097]⟩
theorem goes_execTrellisRefusedReceived {q : SideId} {msg : List Byte} {s : State} (hF : fp_execTrellisRefusedReceived.le F = true) (hgo : Goes F s0 s) :
     Runs F s0 (execTrellisRefusedReceived q msg s) := by
  unfold execTrellisRefusedReceived
  try dsimp only
  repeat' first
    | with_reducible assumption
    | with_reducible refine Runs.next ?_
    | with_reducible refine Goes.noted (Foot.le_trans (by decide +kernel) hF) ?_
    | with_reducible refine Goes.satUp (List.mem_singleton.2 (fieldName_PRT_TRL_CNT_REFUSE_CNT _)) (known_PRT_TRL_CNT_REFUSE_CNT _).agrees (Foot.le_trans (by decide +kernel) hF) ?_
    | with_reducible refine Goes.requeue (Foot.le_trans (by decide +kernel) hF) ?_
    | with_reducible refine Goes.toWatch (Foot.le_trans (by decide +kernel) hF) ?_
    | with_reducible refine Goes.foldl ?_ ?_
    | split
    | intro _

/-- What `execCommitHoldExpiry` may change. -/
def fp_execCommitHoldExpiry : Foot := ⟨[.halves, .sides, .tim, .power, .now, .count, .replicas, .elapsed], some
  [0x2000D1C, 0xC021B, 0xC0280]⟩
theorem goes_execCommitHoldExpiry {q : SideId} {s : State} (hF : fp_execCommitHoldExpiry.le F = true) (hgo : Goes F s0 s) :
     Runs F s0 (execCommitHoldExpiry q s) := by
  unfold execCommitHoldExpiry
  try dsimp only
  repeat' first
    | with_reducible assumption
    | with_reducible refine Runs.next ?_
    | with_reducible refine Goes.advanceTo (Foot.le_trans (by decide +kernel) hF) ?_
    | with_reducible refine Goes.toCommitting (Foot.le_trans (by decide +kernel) hF) ?_
    | with_reducible refine Goes.foldl ?_ ?_
    | split
    | intro _

/-- What `execTrellisCommitReceived` may change. -/
def fp_execTrellisCommitReceived : Foot := ⟨[.sides], some []⟩
theorem goes_execTrellisCommitReceived {q : SideId} {msg : List Byte} {s : State} (hF : fp_execTrellisCommitReceived.le F = true) (hgo : Goes F s0 s) :
     Runs F s0 (execTrellisCommitReceived q msg s) := by
  unfold execTrellisCommitReceived
  try dsimp only
  repeat' first
    | with_reducible assumption
    | with_reducible refine Runs.next ?_
    | with_reducible refine Goes.answer (Foot.le_trans (by decide +kernel) hF) ?_
    | with_reducible refine Goes.upS (Foot.le_trans (by decide +kernel) hF) ?_
    | with_reducible refine Goes.foldl ?_ ?_
    | split
    | intro _

/-- What `execTrellisSwitch` may change. -/
def fp_execTrellisSwitch : Foot := ⟨[.halves, .sides, .ports, .engines, .tim, .evq, .outbox], some [0x40800F,
  0x408008, 0x40800A, 0x408000, 0x40800C, 0x400050E, 0x400051C, 0x4000513, 0x2000A00, 0x2000D05, 0x2000D06, 0x2000D02,
  0x2000D00, 0x2000D08, 0x2000D18]⟩
theorem goes_execTrellisSwitch {q : SideId} {s : State} (hF : fp_execTrellisSwitch.le F = true) (hgo : Goes F s0 s) :
     Runs F s0 (execTrellisSwitch q s) := by
  unfold execTrellisSwitch
  try dsimp only
  repeat' first
    | with_reducible assumption
    | with_reducible refine Runs.next ?_
    | with_reducible refine Goes.doSwitch (Foot.le_trans (by decide +kernel) hF) ?_
    | with_reducible refine Goes.foldl ?_ ?_
    | split
    | intro _

/-- What `execTrellisCancelReceived` may change. -/
def fp_execTrellisCancelReceived : Foot := ⟨[.sides], some [0x2000D18]⟩
theorem goes_execTrellisCancelReceived {q : SideId} {msg : List Byte} {s : State} (hF : fp_execTrellisCancelReceived.le F = true) (hgo : Goes F s0 s) :
     Runs F s0 (execTrellisCancelReceived q msg s) := by
  unfold execTrellisCancelReceived
  try dsimp only
  repeat' first
    | with_reducible assumption
    | with_reducible refine Runs.next ?_
    | with_reducible refine Goes.answer (Foot.le_trans (by decide +kernel) hF) ?_
    | with_reducible refine Goes.voidPrepared (Foot.le_trans (by decide +kernel) hF) ?_
    | with_reducible refine Goes.foldl ?_ ?_
    | split
    | intro _

/-- What `execTrellisVoidedReceived` may change. -/
def fp_execTrellisVoidedReceived : Foot := ⟨[.halves, .sides], some [0x2000D01, 0x2000D1C]⟩
theorem goes_execTrellisVoidedReceived {q : SideId} {msg : List Byte} {s : State} (hF : fp_execTrellisVoidedReceived.le F = true) (hgo : Goes F s0 s) :
     Runs F s0 (execTrellisVoidedReceived q msg s) := by
  unfold execTrellisVoidedReceived
  try dsimp only
  repeat' first
    | with_reducible assumption
    | with_reducible refine Runs.next ?_
    | with_reducible refine Goes.on (List.mem_singleton.2 (fieldName_PRT_TRL_STATUS_CANCELLED _)) (known_PRT_TRL_STATUS_CANCELLED _).agrees (Foot.le_trans (by decide +kernel) hF) ?_
    | with_reducible refine Goes.toWatch (Foot.le_trans (by decide +kernel) hF) ?_
    | with_reducible refine Goes.foldl ?_ ?_
    | split
    | intro _

/-- What `execProposeReplyTimeout` may change. -/
def fp_execProposeReplyTimeout : Foot := ⟨[.halves, .sides, .ports, .engines, .tim, .tiles, .power, .evq, .now,
  .count, .replicas, .elapsed], some [0x220018, 0x220010, 0x200100, 0x40800F, 0x408008, 0x40800A, 0x408000, 0x40800C,
  0xE0390, 0xE0380, 0xE0388, 0xE0210, 0xE0200, 0xE021E, 0xE0208, 0xE021F, 0xE0280, 0xE0100, 0xE0001, 0x4000418,
  0x4000413, 0x400041F, 0x4000294, 0x4000280, 0x400029D, 0x400029E, 0x4000290, 0x400050E, 0x400051C, 0x4000513,
  0x4000486, 0x4000480, 0x4000487, 0x4000398, 0x400038C, 0x4000392, 0x4000386, 0x4000380, 0x400039E, 0x2000104,
  0x200011E, 0x200010C, 0x2000100, 0x200011D, 0x2000108, 0x200011F, 0x200090A, 0x200091C, 0x2000E08, 0x2000D05,
  0x2000D03, 0x2000D06, 0x2000D10, 0x2000D00, 0x2000D1C, 0x2000D08, 0x2000D18, 0x2000510, 0x2000508, 0x200048F,
  0x2000498, 0x2000494, 0x200048E, 0x200048B, 0x2000488, 0x2000490, 0x200049C, 0x2000492, 0x100097, 0xC021B, 0xC0280]⟩
theorem goes_execProposeReplyTimeout {q : SideId} {s : State} (hF : fp_execProposeReplyTimeout.le F = true) (hgo : Goes F s0 s) :
     Runs F s0 (execProposeReplyTimeout q s) := by
  unfold execProposeReplyTimeout
  try dsimp only
  repeat' first
    | with_reducible assumption
    | with_reducible refine Runs.next ?_
    | with_reducible refine Goes.advanceTo (Foot.le_trans (by decide +kernel) hF) ?_
    | with_reducible refine Goes.noted (Foot.le_trans (by decide +kernel) hF) ?_
    | with_reducible refine Goes.toCancelling (Foot.le_trans (by decide +kernel) hF) ?_
    | with_reducible refine Goes.requeue (Foot.le_trans (by decide +kernel) hF) ?_
    | with_reducible refine Goes.foldl ?_ ?_
    | split
    | intro _

/-- What `execCommittingTimeout` may change. -/
def fp_execCommittingTimeout : Foot := ⟨[.halves, .sides, .ports, .engines, .tim, .tiles, .power, .evq, .now, .count,
  .replicas, .elapsed], some [0x220018, 0x220010, 0x200100, 0x40800F, 0x408008, 0x40800A, 0x408000, 0x40800C, 0xE0390,
  0xE0380, 0xE0388, 0xE0210, 0xE0200, 0xE021E, 0xE0208, 0xE021F, 0xE0280, 0xE0100, 0xE0001, 0x4000418, 0x4000413,
  0x400041F, 0x4000294, 0x4000280, 0x400029D, 0x400029E, 0x4000290, 0x400050E, 0x400051C, 0x4000513, 0x4000486,
  0x4000480, 0x4000487, 0x4000398, 0x400038C, 0x4000392, 0x4000386, 0x4000380, 0x400039E, 0x2000104, 0x200011E,
  0x200010C, 0x2000100, 0x200011D, 0x2000108, 0x200011F, 0x200090A, 0x200091C, 0x2000D05, 0x2000D03, 0x2000D06,
  0x2000D10, 0x2000D00, 0x2000D1C, 0x2000D08, 0x2000D18, 0x2000510, 0x2000508, 0x200048F, 0x2000498, 0x2000494,
  0x200048E, 0x200048B, 0x2000488, 0x2000490, 0x200049C, 0x2000492, 0x100097, 0xC021B, 0xC0280]⟩
theorem goes_execCommittingTimeout {q : SideId} {s : State} (hF : fp_execCommittingTimeout.le F = true) (hgo : Goes F s0 s) :
     Runs F s0 (execCommittingTimeout q s) := by
  unfold execCommittingTimeout
  try dsimp only
  repeat' first
    | with_reducible assumption
    | with_reducible refine Runs.next ?_
    | with_reducible refine Goes.advanceTo (Foot.le_trans (by decide +kernel) hF) ?_
    | with_reducible refine Goes.noted (Foot.le_trans (by decide +kernel) hF) ?_
    | with_reducible refine Goes.faultSide (Foot.le_trans (by decide +kernel) hF) ?_
    | with_reducible refine Goes.foldl ?_ ?_
    | split
    | intro _

/-- What `execCancellingTimeout` may change. -/
def fp_execCancellingTimeout : Foot := ⟨[.halves, .sides, .tim, .power, .now, .count, .replicas, .elapsed], some
  [0x2000D01, 0x2000D1C, 0xC021B, 0xC0280]⟩
theorem goes_execCancellingTimeout {q : SideId} {s : State} (hF : fp_execCancellingTimeout.le F = true) (hgo : Goes F s0 s) :
     Runs F s0 (execCancellingTimeout q s) := by
  unfold execCancellingTimeout
  try dsimp only
  repeat' first
    | with_reducible assumption
    | with_reducible refine Runs.next ?_
    | with_reducible refine Goes.advanceTo (Foot.le_trans (by decide +kernel) hF) ?_
    | with_reducible refine Goes.on (List.mem_singleton.2 (fieldName_PRT_TRL_STATUS_CANCELLED _)) (known_PRT_TRL_STATUS_CANCELLED _).agrees (Foot.le_trans (by decide +kernel) hF) ?_
    | with_reducible refine Goes.toWatch (Foot.le_trans (by decide +kernel) hF) ?_
    | with_reducible refine Goes.foldl ?_ ?_
    | split
    | intro _

/-- What `execReadyTimeout` may change. -/
def fp_execReadyTimeout : Foot := ⟨[.sides, .tim, .power, .now, .count, .replicas, .elapsed], some [0x2000D18,
  0xC021B, 0xC0280]⟩
theorem goes_execReadyTimeout {q : SideId} {s : State} (hF : fp_execReadyTimeout.le F = true) (hgo : Goes F s0 s) :
     Runs F s0 (execReadyTimeout q s) := by
  unfold execReadyTimeout
  try dsimp only
  repeat' first
    | with_reducible assumption
    | with_reducible refine Runs.next ?_
    | with_reducible refine Goes.advanceTo (Foot.le_trans (by decide +kernel) hF) ?_
    | with_reducible refine Goes.voidPrepared (Foot.le_trans (by decide +kernel) hF) ?_
    | with_reducible refine Goes.foldl ?_ ?_
    | split
    | intro _

/-- What `execRetiredExpiry` may change. -/
def fp_execRetiredExpiry : Foot := ⟨[.halves, .sides, .engines, .tim, .power, .now, .count, .replicas, .elapsed], some
  [0x40800F, 0x408008, 0x40800A, 0x408000, 0x40800C, 0x400050E, 0x400051C, 0x4000513, 0x2000D05, 0x2000D06, 0x2000D00,
  0xC021B, 0xC0280]⟩
theorem goes_execRetiredExpiry {h : HalfId} {s : State} (hF : fp_execRetiredExpiry.le F = true) (hgo : Goes F s0 s) :
     Runs F s0 (execRetiredExpiry h s) := by
  unfold execRetiredExpiry
  try dsimp only
  repeat' first
    | with_reducible assumption
    | with_reducible refine Runs.next ?_
    | with_reducible refine Goes.advanceTo (Foot.le_trans (by decide +kernel) hF) ?_
    | with_reducible refine Goes.upH (Foot.le_trans (by decide +kernel) hF) (fun _ h => h) ?_
    | with_reducible refine Goes.upH (Foot.le_trans (by decide +kernel) hF) ?_ ?_
    | with_reducible refine Goes.showOf (Foot.le_trans (by decide +kernel) hF) ?_
    | with_reducible refine Goes.foldl ?_ ?_
    | exact fun _ h => h
    | exact fun _ h => by dsimp only; (repeat' split) <;> exact h
    | split
    | intro _

/-- What `execTrlMove` may change. -/
def fp_execTrlMove : Foot := ⟨[.halves, .sides, .ports, .engines, .mgmt, .tim, .tiles, .power, .evq, .now, .count,
  .replicas, .outbox, .freeCtr], none⟩
theorem goes_execTrlMove {q : SideId} {lane : Fin 32} {spare : Fin 32} {s : State} (hF : fp_execTrlMove.le F = true) (hgo : Goes F s0 s) :
     Runs F s0 (execTrlMove q lane spare s) := by
  unfold execTrlMove
  try dsimp only
  repeat' first
    | with_reducible assumption
    | with_reducible refine Runs.next ?_
    | with_reducible refine Goes.tileStore (Foot.le_trans (by decide +kernel) hF) ?_
    | with_reducible refine Goes.hostWrite (Foot.le_trans (by decide +kernel) hF) ?_ ?_
    | with_reducible refine Goes.foldl ?_ ?_
    | split
    | intro _

/-- What `execTrlReturnHome` may change. -/
def fp_execTrlReturnHome : Foot := ⟨[.halves, .sides, .ports, .engines, .mgmt, .tim, .tiles, .power, .evq, .now,
  .count, .replicas, .outbox, .freeCtr], none⟩
theorem goes_execTrlReturnHome {q : SideId} {lane : Fin 32} {s : State} (hF : fp_execTrlReturnHome.le F = true) (hgo : Goes F s0 s) :
     Runs F s0 (execTrlReturnHome q lane s) := by
  unfold execTrlReturnHome
  try dsimp only
  repeat' first
    | with_reducible assumption
    | with_reducible refine Runs.next ?_
    | with_reducible refine Goes.tileStore (Foot.le_trans (by decide +kernel) hF) ?_
    | with_reducible refine Goes.hostWrite (Foot.le_trans (by decide +kernel) hF) ?_ ?_
    | with_reducible refine Goes.foldl ?_ ?_
    | split
    | intro _

end Sys2Proof.Machine
end

