-- ==== Sys2Proof/Laws/OnTime.lean ====
section
/-! SUPPORT. What each operation of `Machine/Time.lean` may change: one lemma for each. -/

set_option linter.all false
set_option Elab.async false

namespace Sys2Proof.Machine

variable {F : Foot} {s0 : State}

/-- What `execTimeFrameSend` may change. -/
def fp_execTimeFrameSend : Foot := ⟨[.sides, .tim], some []⟩
theorem goes_execTimeFrameSend {q : SideId} {departure : Nat} {s : State} (hF : fp_execTimeFrameSend.le F = true) (hgo : Goes F s0 s) :
     Runs F s0 (execTimeFrameSend q departure s) := by
  unfold execTimeFrameSend
  try dsimp only
  repeat' first
    | with_reducible assumption
    | with_reducible refine Runs.next ?_
    | with_reducible refine Goes.upTs (Foot.le_trans (by decide +kernel) hF) ?_
    | with_reducible refine Goes.upS (Foot.le_trans (by decide +kernel) hF) ?_
    | with_reducible refine Goes.foldl ?_ ?_
    | split
    | intro _

/-- What `State.notePeer` may change. -/
def fp_notePeer : Foot := ⟨[.tim], some [0xC021A]⟩
theorem Goes.notePeer {s : State} {q : Nat} {m : List Byte} {arrival : Nat} (hF : fp_notePeer.le F = true) (hgo : Goes F s0 s) :
     Goes F s0 (State.notePeer s q m arrival) := by
  unfold State.notePeer
  try dsimp only
  repeat' first
    | with_reducible assumption
    | with_reducible refine Goes.upTs (Foot.le_trans (by decide +kernel) hF) ?_
    | with_reducible refine Goes.on (List.mem_singleton.2 (fieldName_TIM_STATUS_CONFLICT)) (known_TIM_STATUS_CONFLICT).agrees (Foot.le_trans (by decide +kernel) hF) ?_
    | with_reducible refine Goes.foldl ?_ ?_
    | split
    | intro _

/-- What `execTimeFrameReceived` may change. -/
def fp_execTimeFrameReceived : Foot := ⟨[.tim, .now, .count, .replicas, .freeCtr], some [0xC0300, 0xC0380, 0xC021A,
  0xC021C, 0xC021D, 0xC0200, 0xC020A, 0xC020E, 0xC020D, 0xC0214, 0xC021E, 0xC021B, 0xC0219, 0xC0215, 0xC0280, 0x100019C,
  0x1000180, 0x1000188, 0x100019D]⟩
theorem goes_execTimeFrameReceived {q : SideId} {payload : List Byte} {arrival : Nat} {s : State} (hF : fp_execTimeFrameReceived.le F = true) (hgo : Goes F s0 s) :
     Runs F s0 (execTimeFrameReceived q payload arrival s) := by
  unfold execTimeFrameReceived
  try dsimp only
  repeat' first
    | with_reducible assumption
    | with_reducible refine Runs.next ?_
    | with_reducible refine Goes.upTs (Foot.le_trans (by decide +kernel) hF) ?_
    | with_reducible refine Goes.notePeer (Foot.le_trans (by decide +kernel) hF) ?_
    | with_reducible refine Goes.takeSchedule (Foot.le_trans (by decide +kernel) hF) ?_
    | with_reducible refine Goes.measured (Foot.le_trans (by decide +kernel) hF) ?_
    | with_reducible refine Goes.showParent (Foot.le_trans (by decide +kernel) hF) ?_
    | with_reducible refine Goes.noMaster (Foot.le_trans (by decide +kernel) hF) ?_
    | with_reducible refine Goes.foldl ?_ ?_
    | split
    | intro _

/-- What `execHoldoverEntry` may change. -/
def fp_execHoldoverEntry : Foot := ⟨[.tim, .power, .now, .count, .replicas, .elapsed], some [0xC021C, 0xC021D,
  0xC021E, 0xC021B, 0xC0280]⟩
theorem goes_execHoldoverEntry {s : State} (hF : fp_execHoldoverEntry.le F = true) (hgo : Goes F s0 s) :
     Runs F s0 (execHoldoverEntry s) := by
  unfold execHoldoverEntry
  try dsimp only
  repeat' first
    | with_reducible assumption
    | with_reducible refine Runs.next ?_
    | with_reducible refine Goes.advanceTo (Foot.le_trans (by decide +kernel) hF) ?_
    | with_reducible refine Goes.enterHoldover (Foot.le_trans (by decide +kernel) hF) ?_
    | with_reducible refine Goes.foldl ?_ ?_
    | split
    | intro _

/-- What `execTpulseOut` may change. -/
def fp_execTpulseOut : Foot := ⟨[.tim, .power, .now, .count, .replicas, .elapsed, .outbox], some [0xC021B, 0xC0280]⟩
theorem goes_execTpulseOut {s : State} (hF : fp_execTpulseOut.le F = true) (hgo : Goes F s0 s) :
     Runs F s0 (execTpulseOut s) := by
  unfold execTpulseOut
  try dsimp only
  repeat' first
    | with_reducible assumption
    | with_reducible refine Runs.next ?_
    | with_reducible refine Goes.fabricTo (Foot.le_trans (by decide +kernel) hF) ?_
    | with_reducible refine Goes.emit (Foot.le_trans (by decide +kernel) hF) ?_
    | with_reducible refine Goes.foldl ?_ ?_
    | split
    | intro _

/-- What `execTpulseEdge` may change. -/
def fp_execTpulseEdge : Foot := ⟨[.tim, .now, .count, .replicas, .freeCtr], some [0xC0300, 0xC0380, 0xC021C, 0xC021D,
  0xC0200, 0xC020A, 0xC020E, 0xC020D, 0xC0214, 0xC021E, 0xC021B, 0xC0219, 0xC0215, 0xC0280]⟩
theorem goes_execTpulseEdge {e : Nat} {s : State} (hF : fp_execTpulseEdge.le F = true) (hgo : Goes F s0 s) :
     Runs F s0 (execTpulseEdge e s) := by
  unfold execTpulseEdge
  try dsimp only
  repeat' first
    | with_reducible assumption
    | with_reducible refine Runs.next ?_
    | with_reducible refine Goes.loadSet (Foot.le_trans (by decide +kernel) hF) ?_
    | with_reducible refine Goes.measured (Foot.le_trans (by decide +kernel) hF) ?_
    | with_reducible refine Goes.showParent (Foot.le_trans (by decide +kernel) hF) ?_
    | with_reducible refine Goes.foldl ?_ ?_
    | split
    | intro _

/-- What `State.timSet` may change. -/
def fp_timSet : Foot := ⟨[.tim, .now, .count, .replicas], some [0xC0400, 0xC021E, 0xC021B, 0xC0280]⟩
theorem Goes.timSet {s : State} {hi : Nat} (hF : fp_timSet.le F = true) (hgo : Goes F s0 s) :
     Goes F s0 (State.timSet s hi) := by
  unfold State.timSet
  try dsimp only
  repeat' first
    | with_reducible assumption
    | with_reducible refine Goes.wr (List.mem_singleton.2 (fieldName_TIM_SET_TIME _)) (known_TIM_SET_TIME _).agrees (Foot.le_trans (by decide +kernel) hF) ?_
    | with_reducible refine Goes.loadSet (Foot.le_trans (by decide +kernel) hF) ?_
    | with_reducible refine Goes.upTim (Foot.le_trans (by decide +kernel) hF) (fun _ h => h) ?_
    | with_reducible refine Goes.upTim (Foot.le_trans (by decide +kernel) hF) ?_ ?_
    | with_reducible refine Goes.foldl ?_ ?_
    | exact fun _ h => Tab.wf_erase h _
    | exact fun _ h => Tab.wf_empty
    | exact fun _ h => Tab.wf_set h _ _
    | split
    | intro _

/-- What `execTimSet` may change. -/
def fp_execTimSet : Foot := ⟨[.tim, .now, .count, .replicas], some [0xC0400, 0xC021E, 0xC021B, 0xC0280]⟩
theorem goes_execTimSet {hi : Nat} {s : State} (hF : fp_execTimSet.le F = true) (hgo : Goes F s0 s) :
     Runs F s0 (execTimSet hi s) := by
  unfold execTimSet
  try dsimp only
  repeat' first
    | with_reducible assumption
    | with_reducible refine Runs.next ?_
    | with_reducible refine Goes.timSet (Foot.le_trans (by decide +kernel) hF) ?_
    | with_reducible refine Goes.hostWrite (Foot.le_trans (by decide +kernel) hF) ?_ ?_
    | with_reducible refine Goes.foldl ?_ ?_
    | split
    | intro _

/-- What `execAonRatioMeasure` may change. -/
def fp_execAonRatioMeasure : Foot := ⟨[.tim], some [0x80100]⟩
theorem goes_execAonRatioMeasure {ratio : Nat} {s : State} (hF : fp_execAonRatioMeasure.le F = true) (hgo : Goes F s0 s) :
     Runs F s0 (execAonRatioMeasure ratio s) := by
  unfold execAonRatioMeasure
  try dsimp only
  repeat' first
    | with_reducible assumption
    | with_reducible refine Runs.next ?_
    | with_reducible refine Goes.wr (List.mem_singleton.2 (fieldName_CLK_AON_RATIO_RATIO)) (known_CLK_AON_RATIO_RATIO).agrees (Foot.le_trans (by decide +kernel) hF) ?_
    | with_reducible refine Goes.upTim (Foot.le_trans (by decide +kernel) hF) (fun _ h => h) ?_
    | with_reducible refine Goes.upTim (Foot.le_trans (by decide +kernel) hF) ?_ ?_
    | with_reducible refine Goes.foldl ?_ ?_
    | exact fun _ h => Tab.wf_erase h _
    | exact fun _ h => Tab.wf_empty
    | exact fun _ h => Tab.wf_set h _ _
    | split
    | intro _

end Sys2Proof.Machine
end

