-- ==== Sys2Proof/Laws/OnTrace.lean ====
section
/-! SUPPORT. What each operation of `Machine/Trace.lean` may change: one lemma for each. -/

set_option linter.all false
set_option Elab.async false

namespace Sys2Proof.Machine

variable {F : Foot} {s0 : State}

theorem shownRegs_wf {s : State} (w : s.wf) : regsWf s.shownRegs :=
  ((Goes.showActive (F := ⟨fp_showActive.parts ++ fp_showTarget.parts, none⟩) (by decide +kernel)
    (Goes.showTarget (by decide +kernel) (Goes.refl _ s))).wf w).regs

theorem snapshot_wf {r : Tab Nat} {b : Tab Nat} {h : Tab Half} {n : Nat} (hr : regsWf r) (hb : b.wf) (hh : h.wf) :
    Snapshot.wf ⟨r, b, h, n⟩ := ⟨hr, hb, hh⟩

/-- What `execWinnowItem` may change. -/
def fp_execWinnowItem : Foot := ⟨[.winnows, .windows, .tim, .tiles, .outbox, .freeCtr], some [0x1FE0080, 0x1000800,
  0x20120180, 0x102001F, 0x1020017, 0x1020013, 0x102000F, 0x1020007, 0x1020003]⟩
theorem goes_execWinnowItem {p : PortId} {dir : Dir} {item : Observed} {ide : Bool} {stamp : Nat} {raw : List Byte} {s : State} (hF : fp_execWinnowItem.le F = true) (hgo : Goes F s0 s) :
     Runs F s0 (execWinnowItem p dir item ide stamp raw s) := by
  unfold execWinnowItem
  try dsimp only
  repeat' first
    | with_reducible assumption
    | with_reducible refine Runs.next ?_
    | with_reducible refine Goes.showWinnow (Foot.le_trans (by decide +kernel) hF) ?_
    | with_reducible refine Goes.queueRecord (Foot.le_trans (by decide +kernel) hF) ?_
    | with_reducible refine Goes.sourceNow (Foot.le_trans (by decide +kernel) hF) ?_
    | with_reducible refine Goes.upW (Foot.le_trans (by decide +kernel) hF) ?_
    | with_reducible refine Goes.foldl ?_ ?_
    | split
    | intro _

/-- What `execTraceDmaWrite` may change. -/
def fp_execTraceDmaWrite : Foot := ⟨[.mgmt, .windows, .tim, .tiles, .outbox], some [0x20120180, 0x20120080,
  0x2012001C]⟩
theorem goes_execTraceDmaWrite {t : TileId} {s : State} (hF : fp_execTraceDmaWrite.le F = true) (hgo : Goes F s0 s) :
     Runs F s0 (execTraceDmaWrite t s) := by
  unfold execTraceDmaWrite
  try dsimp only
  repeat' first
    | with_reducible assumption
    | with_reducible refine Runs.next ?_
    | with_reducible refine Goes.joined (Foot.le_trans (by decide +kernel) hF) ?_ ?_
    | with_reducible refine Goes.drainBuffer (Foot.le_trans (by decide +kernel) hF) ?_
    | with_reducible refine Goes.foldl ?_ ?_
    | split
    | intro _

/-- What `State.owned` may change. -/
def fp_owned : Foot := ⟨[.ports, .rings, .power, .evq], some []⟩
theorem Goes.owned {s : State} {k : Nat} {i : Nat} {idx : Nat} {e : List Byte} {act : State → Nat → State} (hF : fp_owned.le F = true) (hact : ∀ t, Goes F s0 t → ∀ b0, Goes F s0 (act t b0)) (hgo : Goes F s0 s) :
     Goes F s0 (State.owned s k i idx e act) := by
  unfold State.owned
  try dsimp only
  repeat' first
    | with_reducible assumption
    | with_reducible refine hact _ ?_ _
    | with_reducible refine Goes.reply (Foot.le_trans (by decide +kernel) hF) ?_
    | with_reducible refine Goes.named (Foot.le_trans (by decide +kernel) hF) ?_ ?_
    | with_reducible refine Goes.foldl ?_ ?_
    | split
    | intro _

/-- What `execWinnowClaim` may change. -/
def fp_execWinnowClaim : Foot := ⟨[.ports, .rings, .tags, .mgmt, .winnows, .power, .evq, .outbox], some [0x20020210,
  0x102001F, 0x1020017, 0x1020013, 0x102000F, 0x1020007, 0x1020003]⟩
theorem goes_execWinnowClaim {k : SliceId} {i : RingId} {s : State} (hF : fp_execWinnowClaim.le F = true) (hgo : Goes F s0 s) :
     Runs F s0 (execWinnowClaim k i s) := by
  unfold execWinnowClaim
  try dsimp only
  repeat' first
    | with_reducible assumption
    | with_reducible refine Runs.next ?_
    | with_reducible refine Goes.reply (Foot.le_trans (by decide +kernel) hF) ?_
    | with_reducible refine Goes.command (Foot.le_trans (by decide +kernel) hF) ?_ ?_
    | with_reducible refine Goes.showWinnow (Foot.le_trans (by decide +kernel) hF) ?_
    | with_reducible refine Goes.upW (Foot.le_trans (by decide +kernel) hF) ?_
    | with_reducible refine Goes.releaseWinnow (Foot.le_trans (by decide +kernel) hF) ?_
    | with_reducible refine Goes.named (Foot.le_trans (by decide +kernel) hF) ?_ ?_
    | with_reducible refine Goes.foldl ?_ ?_
    | split
    | intro _

/-- What `execWinnowRelease` may change. -/
def fp_execWinnowRelease : Foot := ⟨[.ports, .rings, .tags, .mgmt, .winnows, .power, .evq, .outbox], some [0x20020210,
  0x102001F, 0x1020017, 0x1020013, 0x102000F, 0x1020007, 0x1020003]⟩
theorem goes_execWinnowRelease {k : SliceId} {i : RingId} {s : State} (hF : fp_execWinnowRelease.le F = true) (hgo : Goes F s0 s) :
     Runs F s0 (execWinnowRelease k i s) := by
  unfold execWinnowRelease
  try dsimp only
  repeat' first
    | with_reducible assumption
    | with_reducible refine Runs.next ?_
    | with_reducible refine Goes.command (Foot.le_trans (by decide +kernel) hF) ?_ ?_
    | with_reducible refine Goes.releaseWinnow (Foot.le_trans (by decide +kernel) hF) ?_
    | with_reducible refine Goes.owned (Foot.le_trans (by decide +kernel) hF) ?_ ?_
    | with_reducible refine Goes.foldl ?_ ?_
    | split
    | intro _

/-- What `execWinnowUnit` may change. -/
def fp_execWinnowUnit : Foot := ⟨[.ports, .rings, .tags, .mgmt, .winnows, .power, .evq, .outbox], some [0x20020210,
  0x102001F, 0x1020017, 0x1020013, 0x102000F, 0x1020007, 0x1020003]⟩
theorem goes_execWinnowUnit {k : SliceId} {i : RingId} {s : State} (hF : fp_execWinnowUnit.le F = true) (hgo : Goes F s0 s) :
     Runs F s0 (execWinnowUnit k i s) := by
  unfold execWinnowUnit
  try dsimp only
  repeat' first
    | with_reducible assumption
    | with_reducible refine Runs.next ?_
    | with_reducible refine Goes.command (Foot.le_trans (by decide +kernel) hF) ?_ ?_
    | with_reducible refine Goes.showWinnow (Foot.le_trans (by decide +kernel) hF) ?_
    | with_reducible refine Goes.upW (Foot.le_trans (by decide +kernel) hF) ?_
    | with_reducible refine Goes.owned (Foot.le_trans (by decide +kernel) hF) ?_ ?_
    | with_reducible refine Goes.foldl ?_ ?_
    | split
    | intro _

/-- What `execWindowOpen` may change. -/
def fp_execWindowOpen : Foot := ⟨[.rings, .tags, .mgmt, .windows, .power, .evq, .outbox], some [0x20020210,
  0x20120180, 0x20120080, 0x20120100, 0x20120000, 0x2012001B, 0x2012001A, 0x20120019, 0x2012001C]⟩
theorem goes_execWindowOpen {k : SliceId} {i : RingId} {s : State} (hF : fp_execWindowOpen.le F = true) (hgo : Goes F s0 s) :
     Runs F s0 (execWindowOpen k i s) := by
  unfold execWindowOpen
  try dsimp only
  repeat' first
    | with_reducible assumption
    | with_reducible refine Runs.next ?_
    | with_reducible refine Goes.reply (Foot.le_trans (by decide +kernel) hF) ?_
    | with_reducible refine Goes.closeWindow (Foot.le_trans (by decide +kernel) hF) ?_
    | with_reducible refine Goes.command (Foot.le_trans (by decide +kernel) hF) ?_ ?_
    | with_reducible refine Goes.askList (Foot.le_trans (by decide +kernel) hF) ?_
    | with_reducible refine Goes.wr (List.mem_singleton.2 (fieldName_TRC_WIN_STATUS_KIND _ _)) (known_TRC_WIN_STATUS_KIND _ _).agrees (Foot.le_trans (by decide +kernel) hF) ?_
    | with_reducible refine Goes.wr (List.mem_singleton.2 (fieldName_TRC_WIN_STATUS_MODE _ _)) (known_TRC_WIN_STATUS_MODE _ _).agrees (Foot.le_trans (by decide +kernel) hF) ?_
    | with_reducible refine Goes.wr (List.mem_singleton.2 (fieldName_TRC_WIN_STATUS_STATE _ _)) (known_TRC_WIN_STATUS_STATE _ _).agrees (Foot.le_trans (by decide +kernel) hF) ?_
    | with_reducible refine Goes.upWin (Foot.le_trans (by decide +kernel) hF) ?_
    | with_reducible refine Goes.foldl ?_ ?_
    | split
    | intro _

/-- What `execWindowClose` may change. -/
def fp_execWindowClose : Foot := ⟨[.rings, .tags, .mgmt, .windows, .power, .evq, .outbox], some [0x20020210]⟩
theorem goes_execWindowClose {k : SliceId} {i : RingId} {s : State} (hF : fp_execWindowClose.le F = true) (hgo : Goes F s0 s) :
     Runs F s0 (execWindowClose k i s) := by
  unfold execWindowClose
  try dsimp only
  repeat' first
    | with_reducible assumption
    | with_reducible refine Runs.next ?_
    | with_reducible refine Goes.reply (Foot.le_trans (by decide +kernel) hF) ?_
    | with_reducible refine Goes.command (Foot.le_trans (by decide +kernel) hF) ?_ ?_
    | with_reducible refine Goes.upWin (Foot.le_trans (by decide +kernel) hF) ?_
    | with_reducible refine Goes.foldl ?_ ?_
    | split
    | intro _

/-- What `execWindowCloseDone` may change. -/
def fp_execWindowCloseDone : Foot := ⟨[.rings, .windows, .power, .evq], some [0x20120180, 0x20120080, 0x20120100,
  0x20120000, 0x2012001B, 0x2012001A, 0x20120019, 0x2012001C]⟩
theorem goes_execWindowCloseDone {k : SliceId} {w : WindowId} {s : State} (hF : fp_execWindowCloseDone.le F = true) (hgo : Goes F s0 s) :
     Runs F s0 (execWindowCloseDone k w s) := by
  unfold execWindowCloseDone
  try dsimp only
  repeat' first
    | with_reducible assumption
    | with_reducible refine Runs.next ?_
    | with_reducible refine Goes.closeWindow (Foot.le_trans (by decide +kernel) hF) ?_
    | with_reducible refine Goes.complete (Foot.le_trans (by decide +kernel) hF) ?_
    | with_reducible refine Goes.foldl ?_ ?_
    | split
    | intro _

/-- What `State.windowResume` may change. -/
def fp_windowResume : Foot := ⟨[], some [0x2012001C]⟩
theorem Goes.windowResume {s : State} {k : Nat} {w : Nat} (hF : fp_windowResume.le F = true) (hgo : Goes F s0 s) :
     Goes F s0 (State.windowResume s k w) := by
  unfold State.windowResume
  try dsimp only
  repeat' first
    | with_reducible assumption
    | with_reducible refine Goes.wr (List.mem_singleton.2 (fieldName_TRC_WIN_STATUS_STATE _ _)) (known_TRC_WIN_STATUS_STATE _ _).agrees (Foot.le_trans (by decide +kernel) hF) ?_
    | with_reducible refine Goes.foldl ?_ ?_
    | split
    | intro _

/-- What `execWindowResume` may change. -/
def fp_execWindowResume : Foot := ⟨[], some [0x2012001C]⟩
theorem goes_execWindowResume {k : SliceId} {w : WindowId} {s : State} (hF : fp_execWindowResume.le F = true) (hgo : Goes F s0 s) :
     Runs F s0 (execWindowResume k w s) := by
  unfold execWindowResume
  try dsimp only
  repeat' first
    | with_reducible assumption
    | with_reducible refine Runs.next ?_
    | with_reducible refine Goes.hostWrite (Foot.le_trans (by decide +kernel) hF) ?_ ?_
    | with_reducible refine Goes.windowResume (Foot.le_trans (by decide +kernel) hF) ?_
    | with_reducible refine Goes.foldl ?_ ?_
    | split
    | intro _

/-- What `execTrigger` may change. -/
def fp_execTrigger : Foot := ⟨[.rings, .tags, .mgmt, .tim, .power, .evq, .outbox, .freeCtr], some [0x20020210,
  0x1FE0080]⟩
theorem goes_execTrigger {k : SliceId} {i : RingId} {s : State} (hF : fp_execTrigger.le F = true) (hgo : Goes F s0 s) :
     Runs F s0 (execTrigger k i s) := by
  unfold execTrigger
  try dsimp only
  repeat' first
    | with_reducible assumption
    | with_reducible refine Runs.next ?_
    | with_reducible refine Goes.reply (Foot.le_trans (by decide +kernel) hF) ?_
    | with_reducible refine Goes.command (Foot.le_trans (by decide +kernel) hF) ?_ ?_
    | with_reducible refine Goes.sourceNow (Foot.le_trans (by decide +kernel) hF) ?_
    | with_reducible refine Goes.foldl ?_ ?_
    | split
    | intro _

/-- What `execFire` may change. -/
def fp_execFire : Foot := ⟨[.tim, .outbox, .freeCtr], some [0x1FE0080]⟩
theorem goes_execFire {s : State} (hF : fp_execFire.le F = true) (hgo : Goes F s0 s) :
     Runs F s0 (execFire s) := by
  unfold execFire
  try dsimp only
  repeat' first
    | with_reducible assumption
    | with_reducible refine Runs.next ?_
    | with_reducible refine Goes.hostWrite (Foot.le_trans (by decide +kernel) hF) ?_ ?_
    | with_reducible refine Goes.sourceNow (Foot.le_trans (by decide +kernel) hF) ?_
    | with_reducible refine Goes.foldl ?_ ?_
    | split
    | intro _

/-- What `execTrigNEdge` may change. -/
def fp_execTrigNEdge : Foot := ⟨[.tim], some [0x1FE0080]⟩
theorem goes_execTrigNEdge {stamp : Nat} {s : State} (hF : fp_execTrigNEdge.le F = true) (hgo : Goes F s0 s) :
     Runs F s0 (execTrigNEdge stamp s) := by
  unfold execTrigNEdge
  try dsimp only
  repeat' first
    | with_reducible assumption
    | with_reducible refine Runs.next ?_
    | with_reducible refine Goes.source (Foot.le_trans (by decide +kernel) hF) ?_
    | with_reducible refine Goes.foldl ?_ ?_
    | split
    | intro _

/-- What `execTrigNRelease` may change. -/
def fp_execTrigNRelease : Foot := ⟨[.tim, .power, .now, .count, .replicas, .elapsed, .outbox], some [0xC021B,
  0xC0280]⟩
theorem goes_execTrigNRelease {s : State} (hF : fp_execTrigNRelease.le F = true) (hgo : Goes F s0 s) :
     Runs F s0 (execTrigNRelease s) := by
  unfold execTrigNRelease
  try dsimp only
  repeat' first
    | with_reducible assumption
    | with_reducible refine Runs.next ?_
    | with_reducible refine Goes.advanceTo (Foot.le_trans (by decide +kernel) hF) ?_
    | with_reducible refine Goes.upTim (Foot.le_trans (by decide +kernel) hF) (fun _ h => h) ?_
    | with_reducible refine Goes.upTim (Foot.le_trans (by decide +kernel) hF) ?_ ?_
    | with_reducible refine Goes.emit (Foot.le_trans (by decide +kernel) hF) ?_
    | with_reducible refine Goes.foldl ?_ ?_
    | exact fun _ h => Tab.wf_erase h _
    | exact fun _ h => Tab.wf_empty
    | exact fun _ h => Tab.wf_set h _ _
    | split
    | intro _

/-- What `State.scheduleGo` may change. -/
def fp_scheduleGo : Foot := ⟨[.tim], some [0x100019E, 0x100019C, 0x1000180, 0x1000188, 0x100019D]⟩
theorem Goes.scheduleGo {s : State} {flood : Bool} (hF : fp_scheduleGo.le F = true) (hgo : Goes F s0 s) :
     Goes F s0 (State.scheduleGo s flood) := by
  unfold State.scheduleGo
  try dsimp only
  repeat' first
    | with_reducible assumption
    | with_reducible refine Goes.takeSchedule (Foot.le_trans (by decide +kernel) hF) ?_
    | with_reducible refine Goes.put (List.mem_singleton.2 (fieldName_TRC_SCHED_CTRL_FLOOD)) (known_TRC_SCHED_CTRL_FLOOD).agrees (Foot.le_trans (by decide +kernel) hF) ?_
    | with_reducible refine Goes.foldl ?_ ?_
    | split
    | intro _

/-- What `execTrcSchedGo` may change. -/
def fp_execTrcSchedGo : Foot := ⟨[.tim], some [0x100019E, 0x100019C, 0x1000180, 0x1000188, 0x100019D]⟩
theorem goes_execTrcSchedGo {flood : Bool} {s : State} (hF : fp_execTrcSchedGo.le F = true) (hgo : Goes F s0 s) :
     Runs F s0 (execTrcSchedGo flood s) := by
  unfold execTrcSchedGo
  try dsimp only
  repeat' first
    | with_reducible assumption
    | with_reducible refine Runs.next ?_
    | with_reducible refine Goes.scheduleGo (Foot.le_trans (by decide +kernel) hF) ?_
    | with_reducible refine Goes.hostWrite (Foot.le_trans (by decide +kernel) hF) ?_ ?_
    | with_reducible refine Goes.foldl ?_ ?_
    | split
    | intro _

/-- What `execScheduleFire` may change. -/
def fp_execScheduleFire : Foot := ⟨[.tim, .power, .now, .count, .replicas, .elapsed, .freeCtr], some [0x8009D,
  0x8009C, 0x8009F, 0x6001A, 0x6001C, 0x6000F, 0x60010, 0x60284, 0x60290, 0x60285, 0x60282, 0x60280, 0x60283, 0x60288,
  0x60281, 0x6030E, 0x60300, 0x1FE0080, 0xC021B, 0xC0280, 0x100019D]⟩
theorem goes_execScheduleFire {s : State} (hF : fp_execScheduleFire.le F = true) (hgo : Goes F s0 s) :
     Runs F s0 (execScheduleFire s) := by
  unfold execScheduleFire
  try dsimp only
  repeat' first
    | with_reducible assumption
    | with_reducible refine Runs.next ?_
    | with_reducible refine Goes.wakeDevice (Foot.le_trans (by decide +kernel) hF) ?_
    | with_reducible refine Goes.off (List.mem_singleton.2 (fieldName_TRC_SCHED_CTRL_PENDING)) (known_TRC_SCHED_CTRL_PENDING).agrees (Foot.le_trans (by decide +kernel) hF) ?_
    | with_reducible refine Goes.fabricTo (Foot.le_trans (by decide +kernel) hF) ?_
    | with_reducible refine Goes.deviceQuiet (Foot.le_trans (by decide +kernel) hF) ?_
    | with_reducible refine Goes.source (Foot.le_trans (by decide +kernel) hF) ?_
    | with_reducible refine Goes.foldl ?_ ?_
    | split
    | intro _

/-- What `execLatch` may change. -/
def fp_execLatch : Foot := ⟨[.mgmt, .windows, .tim, .snap, .power, .now, .count, .replicas, .elapsed, .outbox], some
  [0x1FE0090, 0x1FE009B, 0x1FE009F, 0x1FE0088, 0x1FE0100, 0xC021B, 0xC0280, 0x20120180, 0x20120080, 0x2012001C]⟩
theorem goes_execLatch {s : State} (hF : fp_execLatch.le F = true) (hgo : Goes F s0 s) :
     Runs F s0 (execLatch s) := by
  unfold execLatch
  refine Runs.next ?_
  split
  · exact hgo
  · rename_i tl src _
    have h1 : Goes F s0 (s.fabricTo tl) := Goes.fabricTo (Foot.le_trans (by decide +kernel) hF) hgo
    generalize s.fabricTo tl = t at h1
    have h2 : Goes F s0 (t.setSnap ⟨t.shownRegs, t.bct, t.halves, tl⟩) :=
      Goes.setSnap (Foot.le_trans (by decide +kernel) hF) (fun _ w => snapshot_wf (shownRegs_wf w) w.bct w.halves) h1
    refine Goes.triggerRecords (Foot.le_trans (by decide +kernel) hF)
      (Goes.upTim (Foot.le_trans (by decide +kernel) hF) (fun _ h => h)
        (Goes.wr (List.mem_singleton.2 (fieldName_SNP_TIME_TIME _)) (known_SNP_TIME_TIME _).agrees (Foot.le_trans (by decide +kernel) hF)
          (Goes.wr (List.mem_singleton.2 (fieldName_SNP_TIME_TIME _)) (known_SNP_TIME_TIME _).agrees (Foot.le_trans (by decide +kernel) hF)
            (Goes.wr (List.mem_singleton.2 fieldName_SNP_STATUS_TILES_LATCHED) known_SNP_STATUS_TILES_LATCHED.agrees (Foot.le_trans (by decide +kernel) hF)
              (Goes.wrapUp (List.mem_singleton.2 fieldName_SNP_STATUS_LATCH_ID) known_SNP_STATUS_LATCH_ID.agrees (Foot.le_trans (by decide +kernel) hF)
                (Goes.wr (List.mem_singleton.2 fieldName_SNP_STATUS_SOURCES) known_SNP_STATUS_SOURCES.agrees (Foot.le_trans (by decide +kernel) hF)
                  (Goes.on (List.mem_singleton.2 fieldName_SNP_STATUS_STATE) known_SNP_STATUS_STATE.agrees (Foot.le_trans (by decide +kernel) hF) h2)))))))

/-- What `execRearm` may change. -/
def fp_execRearm : Foot := ⟨[], some [0x1FE009F]⟩
theorem goes_execRearm {s : State} (hF : fp_execRearm.le F = true) (hgo : Goes F s0 s) :
     Runs F s0 (execRearm s) := by
  unfold execRearm
  try dsimp only
  repeat' first
    | with_reducible assumption
    | with_reducible refine Runs.next ?_
    | with_reducible refine Goes.off (List.mem_singleton.2 (fieldName_SNP_STATUS_STATE)) (known_SNP_STATUS_STATE).agrees (Foot.le_trans (by decide +kernel) hF) ?_
    | with_reducible refine Goes.hostWrite (Foot.le_trans (by decide +kernel) hF) ?_ ?_
    | with_reducible refine Goes.foldl ?_ ?_
    | split
    | intro _

/-- What `execAutoRearmExpiry` may change. -/
def fp_execAutoRearmExpiry : Foot := ⟨[.tim, .power, .now, .count, .replicas, .elapsed], some [0x1FE009F, 0xC021B,
  0xC0280]⟩
theorem goes_execAutoRearmExpiry {s : State} (hF : fp_execAutoRearmExpiry.le F = true) (hgo : Goes F s0 s) :
     Runs F s0 (execAutoRearmExpiry s) := by
  unfold execAutoRearmExpiry
  try dsimp only
  repeat' first
    | with_reducible assumption
    | with_reducible refine Runs.next ?_
    | with_reducible refine Goes.advanceTo (Foot.le_trans (by decide +kernel) hF) ?_
    | with_reducible refine Goes.off (List.mem_singleton.2 (fieldName_SNP_STATUS_STATE)) (known_SNP_STATUS_STATE).agrees (Foot.le_trans (by decide +kernel) hF) ?_
    | with_reducible refine Goes.foldl ?_ ?_
    | split
    | intro _

end Sys2Proof.Machine
end

