-- ==== Sys2Proof/Laws/OnMgmt.lean ====
section
/-! SUPPORT. What each operation of `Machine/Mgmt.lean` may change: one lemma for each. -/

set_option linter.all false
set_option Elab.async false

namespace Sys2Proof.Machine

variable {F : Foot} {s0 : State}

theorem mem_some {x : State} (h : Goes F s0 x) : ∀ t ∈ some x, Goes F s0 t := by
  intro t ht
  cases ht
  exact h

theorem mem_none : ∀ t ∈ (none : Option State), Goes F s0 t := by
  intro t ht
  cases ht

/-- What `State.listFailed` may change. -/
def fp_listFailed : Foot := ⟨[.rings, .windows, .power, .evq], some [0x20120180, 0x20120080, 0x20120100, 0x20120000,
  0x2012001B, 0x2012001A, 0x20120019, 0x2012001C]⟩
theorem Goes.listFailed {s : State} {k : Nat} {w : Nat} (hF : fp_listFailed.le F = true) (hgo : Goes F s0 s) :
     Goes F s0 (State.listFailed s k w) := by
  unfold State.listFailed
  try dsimp only
  repeat' first
    | with_reducible assumption
    | with_reducible refine Goes.closeWindow (Foot.le_trans (by decide +kernel) hF) ?_
    | with_reducible refine Goes.complete (Foot.le_trans (by decide +kernel) hF) ?_
    | with_reducible refine Goes.foldl ?_ ?_
    | split
    | intro _

/-- What `State.fetchFailed` may change. -/
def fp_fetchFailed : Foot := ⟨[.rings, .power, .evq], some [0x20020210, 0x20020280, 0x2002029C]⟩
theorem Goes.fetchFailed {s : State} {k : Nat} {i : Nat} {first : Nat} {code : Nat} (hF : fp_fetchFailed.le F = true) (hgo : Goes F s0 s) :
     Goes F s0 (State.fetchFailed s k i first code) := by
  unfold State.fetchFailed
  try dsimp only
  repeat' first
    | with_reducible assumption
    | with_reducible refine Goes.satUp (List.mem_singleton.2 (fieldName_RNG_STATUS_ERRORS _ _)) (known_RNG_STATUS_ERRORS _ _).agrees (Foot.le_trans (by decide +kernel) hF) ?_
    | with_reducible refine Goes.satUp (List.mem_singleton.2 (fieldName_RNG_STATUS_STATE _ _)) (known_RNG_STATUS_STATE _ _).agrees (Foot.le_trans (by decide +kernel) hF) ?_
    | with_reducible refine Goes.complete (Foot.le_trans (by decide +kernel) hF) ?_
    | with_reducible refine Goes.wr (List.mem_singleton.2 (fieldName_RNG_STATUS_ERRORS _ _)) (known_RNG_STATUS_ERRORS _ _).agrees (Foot.le_trans (by decide +kernel) hF) ?_
    | with_reducible refine Goes.wr (List.mem_singleton.2 (fieldName_RNG_STATUS_STATE _ _)) (known_RNG_STATUS_STATE _ _).agrees (Foot.le_trans (by decide +kernel) hF) ?_
    | with_reducible refine Goes.takeFront (Foot.le_trans (by decide +kernel) hF) ?_
    | with_reducible refine Goes.foldl ?_ ?_
    | split
    | intro _

/-- What `State.readFailed` may change. -/
def fp_readFailed : Foot := ⟨[.rings, .imgOp, .windows, .power, .evq], some [0x20006, 0x20007, 0x20020210, 0x20020280,
  0x2002029C, 0x20120180, 0x20120080, 0x20120100, 0x20120000, 0x2012001B, 0x2012001A, 0x20120019, 0x2012001C]⟩
theorem Goes.readFailed {s : State} {u : ReadFor} {code : Nat} (hF : fp_readFailed.le F = true) (hgo : Goes F s0 s) :
     Goes F s0 (State.readFailed s u code) := by
  unfold State.readFailed
  try dsimp only
  repeat' first
    | with_reducible assumption
    | with_reducible refine Goes.listFailed (Foot.le_trans (by decide +kernel) hF) ?_
    | with_reducible refine Goes.fetchFailed (Foot.le_trans (by decide +kernel) hF) ?_
    | with_reducible refine Goes.dmaFail (Foot.le_trans (by decide +kernel) hF) ?_
    | with_reducible refine Goes.foldl ?_ ?_
    | split
    | intro _

/-- What `State.takeGranules` may change. -/
def fp_takeGranules : Foot := ⟨[.rings, .windows, .power, .evq], some [0x20120180, 0x20120080, 0x20120100, 0x20120000,
  0x2012001B, 0x2012001A, 0x20120019, 0x2012001C]⟩
theorem Goes.takeGranules {s : State} {k : Nat} {w : Nat} {addrs : List Nat} (hF : fp_takeGranules.le F = true) (hgo : Goes F s0 s) :
     Goes F s0 (State.takeGranules s k w addrs) := by
  unfold State.takeGranules
  try dsimp only
  repeat' first
    | with_reducible assumption
    | with_reducible refine Goes.listFailed (Foot.le_trans (by decide +kernel) hF) ?_
    | with_reducible refine Goes.complete (Foot.le_trans (by decide +kernel) hF) ?_
    | with_reducible refine Goes.wr (List.mem_singleton.2 (fieldName_TRC_WIN_STATUS_GRANULES _ _)) (known_TRC_WIN_STATUS_GRANULES _ _).agrees (Foot.le_trans (by decide +kernel) hF) ?_
    | with_reducible refine Goes.wr (List.mem_singleton.2 (fieldName_TRC_WIN_STATUS_STATE _ _)) (known_TRC_WIN_STATUS_STATE _ _).agrees (Foot.le_trans (by decide +kernel) hF) ?_
    | with_reducible refine Goes.upWin (Foot.le_trans (by decide +kernel) hF) ?_
    | with_reducible refine Goes.foldl ?_ ?_
    | split
    | intro _

/-- What `State.takeList` may change. -/
def fp_takeList : Foot := ⟨[.rings, .tags, .mgmt, .windows, .power, .evq, .outbox], some [0x20120180, 0x20120080,
  0x20120100, 0x20120000, 0x2012001B, 0x2012001A, 0x20120019, 0x2012001C]⟩
theorem Goes.takeList {s : State} {k : Nat} {w : Nat} {bs : List Byte} (hF : fp_takeList.le F = true) (hgo : Goes F s0 s) :
     Goes F s0 (State.takeList s k w bs) := by
  unfold State.takeList
  try dsimp only
  repeat' first
    | with_reducible assumption
    | with_reducible refine Goes.askList (Foot.le_trans (by decide +kernel) hF) ?_
    | with_reducible refine Goes.takeGranules (Foot.le_trans (by decide +kernel) hF) ?_
    | with_reducible refine Goes.upWin (Foot.le_trans (by decide +kernel) hF) ?_
    | with_reducible refine Goes.foldl ?_ ?_
    | split
    | intro _

/-- What `State.takeImage` may change. -/
def fp_takeImage : Foot := ⟨[.tags, .imgOp, .mgmt, .power, .outbox], some [0x20006, 0x20007]⟩
theorem Goes.takeImage {s : State} {bs : List Byte} (hF : fp_takeImage.le F = true) (hgo : Goes F s0 s) :
     Goes F s0 (State.takeImage s bs) := by
  unfold State.takeImage
  try dsimp only
  repeat' first
    | with_reducible assumption
    | with_reducible refine Goes.setImgOp (Foot.le_trans (by decide +kernel) hF) ?_
    | with_reducible refine Goes.imgNext (Foot.le_trans (by decide +kernel) hF) ?_
    | with_reducible refine Goes.foldl ?_ ?_
    | split
    | intro _

/-- What `State.takeKey` may change. -/
def fp_takeKey : Foot := ⟨[.fuses, .imgOp], some [0x20200, 0x20006, 0x20007]⟩
theorem Goes.takeKey {s : State} {digest : Nat} (hF : fp_takeKey.le F = true) (hgo : Goes F s0 s) :
     Goes F s0 (State.takeKey s digest) := by
  unfold State.takeKey
  try dsimp only
  repeat' first
    | with_reducible assumption
    | (refine Goes.setFuses (Foot.le_trans (by decide +kernel) hF) (fun _ w => Tab.wf_set (t := s.fuses.keys) w.fuses _ _) ⟨Nat.le_refl s.fuses.steps, fun _ h => h⟩ ?_)
    | with_reducible refine Goes.setFuses (Foot.le_trans (by decide +kernel) hF) ?_ ?_
    | with_reducible refine Goes.wr (List.mem_singleton.2 (fieldName_IMG_KEYS_SLOT _)) (known_IMG_KEYS_SLOT _).agrees (Foot.le_trans (by decide +kernel) hF) ?_
    | with_reducible refine Goes.wr (List.mem_singleton.2 (fieldName_IMG_STATUS_CMD_BUSY)) (known_IMG_STATUS_CMD_BUSY).agrees (Foot.le_trans (by decide +kernel) hF) ?_
    | with_reducible refine Goes.wr (List.mem_singleton.2 (fieldName_IMG_STATUS_CMD_RESULT)) (known_IMG_STATUS_CMD_RESULT).agrees (Foot.le_trans (by decide +kernel) hF) ?_
    | with_reducible refine Goes.off (List.mem_singleton.2 (fieldName_IMG_KEYS_SLOT _)) (known_IMG_KEYS_SLOT _).agrees (Foot.le_trans (by decide +kernel) hF) ?_
    | with_reducible refine Goes.off (List.mem_singleton.2 (fieldName_IMG_STATUS_CMD_BUSY)) (known_IMG_STATUS_CMD_BUSY).agrees (Foot.le_trans (by decide +kernel) hF) ?_
    | with_reducible refine Goes.off (List.mem_singleton.2 (fieldName_IMG_STATUS_CMD_RESULT)) (known_IMG_STATUS_CMD_RESULT).agrees (Foot.le_trans (by decide +kernel) hF) ?_
    | with_reducible refine Goes.setImgOp (Foot.le_trans (by decide +kernel) hF) ?_
    | with_reducible refine Goes.foldl ?_ ?_
    | exact fun _ w => Tab.wf_empty
    | exact fun _ w => Tab.wf_set w.fuses _ _
    | exact fun _ w => Tab.wf_erase w.fuses _
    | exact fun _ w => Tab.wf_keep w.fuses _
    | exact fun _ w => Tab.wf_map w.fuses _
    | split
    | intro _

/-- What `State.delivered` may change. -/
def fp_delivered : Foot := ⟨[.rings, .tags, .fuses, .imgOp, .mgmt, .windows, .power, .evq, .outbox], some [0x20200,
  0x20006, 0x20007, 0x20120180, 0x20120080, 0x20120100, 0x20120000, 0x2012001B, 0x2012001A, 0x20120019, 0x2012001C]⟩
theorem Goes.delivered {s : State} {u : ReadFor} {d : ReadData} (hF : fp_delivered.le F = true) (hgo : Goes F s0 s) :
     ∀ t ∈ (State.delivered s u d), Goes F s0 t := by
  unfold State.delivered
  try dsimp only
  repeat' first
    | with_reducible assumption
    | with_reducible exact mem_none
    | with_reducible refine mem_some ?_
    | with_reducible refine Goes.takeKey (Foot.le_trans (by decide +kernel) hF) ?_
    | with_reducible refine Goes.takeList (Foot.le_trans (by decide +kernel) hF) ?_
    | with_reducible refine Goes.upR (Foot.le_trans (by decide +kernel) hF) ?_
    | with_reducible refine Goes.takeImage (Foot.le_trans (by decide +kernel) hF) ?_
    | with_reducible refine Goes.foldl ?_ ?_
    | split
    | intro _

/-- What `State.afterRead` may change. -/
def fp_afterRead : Foot := ⟨[.rings, .tags, .mgmt, .power, .evq, .outbox], some [0x20020210]⟩
theorem Goes.afterRead {s : State} {u : ReadFor} (hF : fp_afterRead.le F = true) (hgo : Goes F s0 s) :
     Goes F s0 (State.afterRead s u) := by
  unfold State.afterRead
  try dsimp only
  repeat' first
    | with_reducible assumption
    | with_reducible refine Goes.kickReads (Foot.le_trans (by decide +kernel) hF) ?_
    | with_reducible refine Goes.drain (Foot.le_trans (by decide +kernel) hF) ?_
    | with_reducible refine Goes.foldl ?_ ?_
    | split
    | intro _

/-- What `State.lateCompletion` may change. -/
def fp_lateCompletion : Foot := ⟨[.mgmt, .outbox], some [0x310, 0x296]⟩
theorem Goes.lateCompletion {s : State} {header : Nat} (hF : fp_lateCompletion.le F = true) (hgo : Goes F s0 s) :
     Goes F s0 (State.lateCompletion s header) := by
  unfold State.lateCompletion
  try dsimp only
  repeat' first
    | with_reducible assumption
    | with_reducible refine Goes.uncError (Foot.le_trans (by decide +kernel) hF) ?_
    | with_reducible refine Goes.on (List.mem_singleton.2 (fieldName_GLB_MGMT_CNT_LATE_CPL_CNT)) (known_GLB_MGMT_CNT_LATE_CPL_CNT).agrees (Foot.le_trans (by decide +kernel) hF) ?_
    | with_reducible refine Goes.on (List.mem_singleton.2 (fieldName_GLB_MGMT_STATUS_LATE_CPL)) (known_GLB_MGMT_STATUS_LATE_CPL).agrees (Foot.le_trans (by decide +kernel) hF) ?_
    | with_reducible refine Goes.wrapUp (List.mem_singleton.2 (fieldName_GLB_MGMT_CNT_LATE_CPL_CNT)) (known_GLB_MGMT_CNT_LATE_CPL_CNT).agrees (Foot.le_trans (by decide +kernel) hF) ?_
    | with_reducible refine Goes.wrapUp (List.mem_singleton.2 (fieldName_GLB_MGMT_STATUS_LATE_CPL)) (known_GLB_MGMT_STATUS_LATE_CPL).agrees (Foot.le_trans (by decide +kernel) hF) ?_
    | with_reducible refine Goes.foldl ?_ ?_
    | split
    | intro _

/-- What `State.parityError` may change. -/
def fp_parityError : Foot := ⟨[.mgmt], some []⟩
theorem Goes.parityError {s : State} (hF : fp_parityError.le F = true) (hgo : Goes F s0 s) :
     Goes F s0 (State.parityError s) := by
  unfold State.parityError
  try dsimp only
  repeat' first
    | with_reducible assumption
    | with_reducible refine Goes.upM (Foot.le_trans (by decide +kernel) hF) (fun _ h => h) ?_
    | with_reducible refine Goes.upM (Foot.le_trans (by decide +kernel) hF) ?_ ?_
    | with_reducible refine Goes.foldl ?_ ?_
    | exact fun _ h => Tab.wf_set h _ _
    | exact fun _ h => Tab.wf_erase h _
    | exact fun _ h => Tab.wf_empty
    | split
    | intro _

/-- What `execCompletionReceived` may change. -/
def fp_execCompletionReceived : Foot := ⟨[.rings, .tags, .fuses, .imgOp, .mgmt, .windows, .power, .evq, .outbox], some
  [0x310, 0x296, 0x20200, 0x20006, 0x20007, 0x20020210, 0x20020280, 0x2002029C, 0x20120180, 0x20120080, 0x20120100,
  0x20120000, 0x2012001B, 0x2012001A, 0x20120019, 0x2012001C]⟩
theorem goes_execCompletionReceived {tag : TagId} {status : CplStatus} {header : Nat} {data : ReadData} {s : State} (hF : fp_execCompletionReceived.le F = true) (hgo : Goes F s0 s) :
     Runs F s0 (execCompletionReceived tag status header data s) := by
  unfold execCompletionReceived
  try dsimp only
  repeat' first
    | with_reducible assumption
    | with_reducible refine Runs.next ?_
    | with_reducible refine Goes.afterRead (Foot.le_trans (by decide +kernel) hF) (Goes.delivered (Foot.le_trans (by decide +kernel) hF) ?_ _ (Option.mem_def.2 (by assumption)))
    | with_reducible refine Goes.upM (Foot.le_trans (by decide +kernel) hF) (fun _ h => h) ?_
    | with_reducible refine Goes.upM (Foot.le_trans (by decide +kernel) hF) ?_ ?_
    | with_reducible refine Goes.uncError (Foot.le_trans (by decide +kernel) hF) ?_
    | with_reducible refine Goes.kickReads (Foot.le_trans (by decide +kernel) hF) ?_
    | with_reducible refine Goes.parityError (Foot.le_trans (by decide +kernel) hF) ?_
    | with_reducible refine Goes.delivered (Foot.le_trans (by decide +kernel) hF) ?_
    | with_reducible refine Goes.setTag (Foot.le_trans (by decide +kernel) hF) ?_
    | with_reducible refine Goes.afterRead (Foot.le_trans (by decide +kernel) hF) ?_
    | with_reducible refine Goes.readFailed (Foot.le_trans (by decide +kernel) hF) ?_
    | with_reducible refine Goes.lateCompletion (Foot.le_trans (by decide +kernel) hF) ?_
    | with_reducible refine Goes.foldl ?_ ?_
    | exact fun _ h => Tab.wf_set h _ _
    | exact fun _ h => Tab.wf_erase h _
    | exact fun _ h => Tab.wf_empty
    | split
    | intro _

/-- What `execCompletionTimeout` may change. -/
def fp_execCompletionTimeout : Foot := ⟨[.rings, .tags, .imgOp, .mgmt, .windows, .tim, .power, .evq, .now, .count,
  .replicas, .elapsed, .outbox], some [0x308, 0x20006, 0x20007, 0x20020210, 0x20020280, 0x2002029C, 0xC021B, 0xC0280,
  0x20120180, 0x20120080, 0x20120100, 0x20120000, 0x2012001B, 0x2012001A, 0x20120019, 0x2012001C]⟩
theorem goes_execCompletionTimeout {tag : TagId} {s : State} (hF : fp_execCompletionTimeout.le F = true) (hgo : Goes F s0 s) :
     Runs F s0 (execCompletionTimeout tag s) := by
  unfold execCompletionTimeout
  try dsimp only
  repeat' first
    | with_reducible assumption
    | with_reducible refine Runs.next ?_
    | with_reducible refine Goes.advanceTo (Foot.le_trans (by decide +kernel) hF) ?_
    | with_reducible refine Goes.uncError (Foot.le_trans (by decide +kernel) hF) ?_
    | with_reducible refine Goes.satUp (List.mem_singleton.2 (fieldName_GLB_MGMT_CNT_TIMEOUTS)) (known_GLB_MGMT_CNT_TIMEOUTS).agrees (Foot.le_trans (by decide +kernel) hF) ?_
    | with_reducible refine Goes.kickReads (Foot.le_trans (by decide +kernel) hF) ?_
    | with_reducible refine Goes.readFailed (Foot.le_trans (by decide +kernel) hF) ?_
    | with_reducible refine Goes.retireTag (Foot.le_trans (by decide +kernel) hF) ?_
    | with_reducible refine Goes.foldl ?_ ?_
    | split
    | intro _

/-- What `execTagRetireExpiry` may change. -/
def fp_execTagRetireExpiry : Foot := ⟨[.tags, .mgmt, .tim, .power, .now, .count, .replicas, .elapsed, .outbox], some
  [0xC021B, 0xC0280]⟩
theorem goes_execTagRetireExpiry {tag : TagId} {s : State} (hF : fp_execTagRetireExpiry.le F = true) (hgo : Goes F s0 s) :
     Runs F s0 (execTagRetireExpiry tag s) := by
  unfold execTagRetireExpiry
  try dsimp only
  repeat' first
    | with_reducible assumption
    | with_reducible refine Runs.next ?_
    | with_reducible refine Goes.advanceTo (Foot.le_trans (by decide +kernel) hF) ?_
    | with_reducible refine Goes.kickReads (Foot.le_trans (by decide +kernel) hF) ?_
    | with_reducible refine Goes.setTag (Foot.le_trans (by decide +kernel) hF) ?_
    | with_reducible refine Goes.foldl ?_ ?_
    | split
    | intro _

/-- What `State.restartCto` may change. -/
def fp_restartCto : Foot := ⟨[.tags, .mgmt], some []⟩
theorem Goes.restartCto {s : State} (hF : fp_restartCto.le F = true) (hgo : Goes F s0 s) :
     Goes F s0 (State.restartCto s) := by
  unfold State.restartCto
  try dsimp only
  repeat' first
    | with_reducible assumption
    | with_reducible refine Goes.upM (Foot.le_trans (by decide +kernel) hF) (fun _ h => h) ?_
    | with_reducible refine Goes.upM (Foot.le_trans (by decide +kernel) hF) ?_ ?_
    | with_reducible refine Goes.setTags (Foot.le_trans (by decide +kernel) hF) ?_ ?_
    | with_reducible refine Goes.foldl ?_ ?_
    | exact fun _ w => Tab.wf_empty
    | exact fun _ w => Tab.wf_set w.tags _ _
    | exact fun _ w => Tab.wf_erase w.tags _
    | exact fun _ w => Tab.wf_keep w.tags _
    | exact fun _ w => Tab.wf_map w.tags _
    | exact fun _ h => Tab.wf_set h _ _
    | exact fun _ h => Tab.wf_erase h _
    | exact fun _ h => Tab.wf_empty
    | split
    | intro _

/-- What `execCtoDisableClear` may change. -/
def fp_execCtoDisableClear : Foot := ⟨[.tags, .mgmt, .outbox], some []⟩
theorem goes_execCtoDisableClear {s : State} (hF : fp_execCtoDisableClear.le F = true) (hgo : Goes F s0 s) :
     Runs F s0 (execCtoDisableClear s) := by
  unfold execCtoDisableClear
  try dsimp only
  repeat' first
    | with_reducible assumption
    | with_reducible refine Runs.next ?_
    | with_reducible refine Goes.configAsk (Foot.le_trans (by decide +kernel) hF) ?_ ?_
    | with_reducible refine Goes.restartCto (Foot.le_trans (by decide +kernel) hF) ?_
    | with_reducible refine Goes.foldl ?_ ?_
    | split
    | intro _

/-- What `State.linkLost` may change. -/
def fp_linkLost : Foot := ⟨[.ports, .engines, .slices, .rings, .tags, .imgOp, .txn, .mgmt, .winnows, .windows, .tiles,
  .power, .evq, .staged, .outbox], some [0x40C008, 0x410003, 0x410000, 0x410002, 0x410001, 0x40800F, 0x408008, 0x40800A,
  0x408000, 0x40800C, 0x90, 0x298, 0x299, 0x29C, 0x29F, 0x29A, 0x280, 0x295, 0x20006, 0x20007, 0x6001A, 0x60018,
  0x6000F, 0x60010, 0x20020000, 0x2002011F, 0x2002011C, 0x2002011D, 0x2002011E, 0x20020114, 0x20020100, 0x20020210,
  0x20020200, 0x20020280, 0x2002029B, 0x2002029C, 0x600000, 0x600280, 0x600110, 0x600100, 0x20000080, 0x20000090,
  0x2000009F, 0x20000108, 0x20000100, 0x600200, 0x600212, 0x60008E, 0x600090, 0x600080, 0x60009C, 0x600190, 0x600180,
  0x20120180, 0x20120080, 0x20120100, 0x20120000, 0x2012001B, 0x2012001A, 0x20120019, 0x2012001C, 0x102001F, 0x1020017,
  0x1020013, 0x102000F, 0x1020007, 0x1020003, 0x40088, 0x40099, 0x40080, 0x4009C]⟩
theorem Goes.linkLost {s : State} (hF : fp_linkLost.le F = true) (hgo : Goes F s0 s) :
     Goes F s0 (State.linkLost s) := by
  unfold State.linkLost
  try dsimp only
  repeat' first
    | with_reducible assumption
    | with_reducible refine Goes.linkDown (Foot.le_trans (by decide +kernel) hF) ?_
    | with_reducible refine Goes.mgmtReset (Foot.le_trans (by decide +kernel) hF) ?_
    | with_reducible refine Goes.checkHold (Foot.le_trans (by decide +kernel) hF) ?_
    | with_reducible refine Goes.foldl ?_ ?_
    | split
    | intro _

/-- What `execHoldStart` may change. -/
def fp_execHoldStart : Foot := ⟨[.ports, .engines, .slices, .rings, .tags, .imgOp, .txn, .mgmt, .winnows, .windows,
  .tiles, .power, .evq, .staged, .outbox], some [0x40C008, 0x410003, 0x410000, 0x410002, 0x410001, 0x40800F, 0x408008,
  0x40800A, 0x408000, 0x40800C, 0x90, 0x298, 0x299, 0x29C, 0x29F, 0x29A, 0x280, 0x295, 0x20006, 0x20007, 0x6001A,
  0x60018, 0x6000F, 0x60010, 0x20020000, 0x2002011F, 0x2002011C, 0x2002011D, 0x2002011E, 0x20020114, 0x20020100,
  0x20020210, 0x20020200, 0x20020280, 0x2002029B, 0x2002029C, 0x600000, 0x600280, 0x600110, 0x600100, 0x20000080,
  0x20000090, 0x2000009F, 0x20000108, 0x20000100, 0x600200, 0x600212, 0x60008E, 0x600090, 0x600080, 0x60009C, 0x600190,
  0x600180, 0x20120180, 0x20120080, 0x20120100, 0x20120000, 0x2012001B, 0x2012001A, 0x20120019, 0x2012001C, 0x102001F,
  0x1020017, 0x1020013, 0x102000F, 0x1020007, 0x1020003, 0x40088, 0x40099, 0x40080, 0x4009C]⟩
theorem goes_execHoldStart {cause : HoldCause} {s : State} (hF : fp_execHoldStart.le F = true) (hgo : Goes F s0 s) :
     Runs F s0 (execHoldStart cause s) := by
  unfold execHoldStart
  try dsimp only
  repeat' first
    | with_reducible assumption
    | with_reducible refine Runs.next ?_
    | with_reducible refine Goes.upM (Foot.le_trans (by decide +kernel) hF) (fun _ h => h) ?_
    | with_reducible refine Goes.upM (Foot.le_trans (by decide +kernel) hF) ?_ ?_
    | with_reducible refine Goes.configAsk (Foot.le_trans (by decide +kernel) hF) ?_ ?_
    | with_reducible refine Goes.linkLost (Foot.le_trans (by decide +kernel) hF) ?_
    | with_reducible refine Goes.checkHold (Foot.le_trans (by decide +kernel) hF) ?_
    | with_reducible refine Goes.foldl ?_ ?_
    | exact fun _ h => Tab.wf_set h _ _
    | exact fun _ h => Tab.wf_erase h _
    | exact fun _ h => Tab.wf_empty
    | split
    | intro _

/-- What `execHoldEnd` may change. -/
def fp_execHoldEnd : Foot := ⟨[.engines, .rings, .tags, .mgmt, .tiles, .power, .evq, .staged, .outbox], some
  [0x40C008, 0x40800F, 0x408008, 0x40800A, 0x408000, 0x40800C, 0x298, 0x299, 0x29C, 0x29F, 0x29A, 0x280, 0x295,
  0x20020200, 0x2002029B, 0x2002029C, 0x20000108, 0x600080]⟩
theorem goes_execHoldEnd {cause : HoldCause} {s : State} (hF : fp_execHoldEnd.le F = true) (hgo : Goes F s0 s) :
     Runs F s0 (execHoldEnd cause s) := by
  unfold execHoldEnd
  try dsimp only
  repeat' first
    | with_reducible assumption
    | with_reducible refine Runs.next ?_
    | with_reducible refine Goes.upM (Foot.le_trans (by decide +kernel) hF) (fun _ h => h) ?_
    | with_reducible refine Goes.upM (Foot.le_trans (by decide +kernel) hF) ?_ ?_
    | with_reducible refine Goes.configAsk (Foot.le_trans (by decide +kernel) hF) ?_ ?_
    | with_reducible refine Goes.releaseJobs (Foot.le_trans (by decide +kernel) hF) ?_
    | with_reducible refine Goes.on (List.mem_singleton.2 (fieldName_GLB_MGMT_STATUS_FLIT)) (known_GLB_MGMT_STATUS_FLIT).agrees (Foot.le_trans (by decide +kernel) hF) ?_
    | with_reducible refine Goes.on (List.mem_singleton.2 (fieldName_GLB_MGMT_STATUS_LINK_RATE)) (known_GLB_MGMT_STATUS_LINK_RATE).agrees (Foot.le_trans (by decide +kernel) hF) ?_
    | with_reducible refine Goes.on (List.mem_singleton.2 (fieldName_GLB_MGMT_STATUS_LINK_UP)) (known_GLB_MGMT_STATUS_LINK_UP).agrees (Foot.le_trans (by decide +kernel) hF) ?_
    | with_reducible refine Goes.on (List.mem_singleton.2 (fieldName_GLB_MGMT_STATUS_LINK_WIDTH)) (known_GLB_MGMT_STATUS_LINK_WIDTH).agrees (Foot.le_trans (by decide +kernel) hF) ?_
    | with_reducible refine Goes.wr (List.mem_singleton.2 (fieldName_GLB_MGMT_STATUS_FLIT)) (known_GLB_MGMT_STATUS_FLIT).agrees (Foot.le_trans (by decide +kernel) hF) ?_
    | with_reducible refine Goes.wr (List.mem_singleton.2 (fieldName_GLB_MGMT_STATUS_LINK_RATE)) (known_GLB_MGMT_STATUS_LINK_RATE).agrees (Foot.le_trans (by decide +kernel) hF) ?_
    | with_reducible refine Goes.wr (List.mem_singleton.2 (fieldName_GLB_MGMT_STATUS_LINK_UP)) (known_GLB_MGMT_STATUS_LINK_UP).agrees (Foot.le_trans (by decide +kernel) hF) ?_
    | with_reducible refine Goes.wr (List.mem_singleton.2 (fieldName_GLB_MGMT_STATUS_LINK_WIDTH)) (known_GLB_MGMT_STATUS_LINK_WIDTH).agrees (Foot.le_trans (by decide +kernel) hF) ?_
    | with_reducible refine Goes.put (List.mem_singleton.2 (fieldName_GLB_MGMT_STATUS_FLIT)) (known_GLB_MGMT_STATUS_FLIT).agrees (Foot.le_trans (by decide +kernel) hF) ?_
    | with_reducible refine Goes.put (List.mem_singleton.2 (fieldName_GLB_MGMT_STATUS_LINK_RATE)) (known_GLB_MGMT_STATUS_LINK_RATE).agrees (Foot.le_trans (by decide +kernel) hF) ?_
    | with_reducible refine Goes.put (List.mem_singleton.2 (fieldName_GLB_MGMT_STATUS_LINK_UP)) (known_GLB_MGMT_STATUS_LINK_UP).agrees (Foot.le_trans (by decide +kernel) hF) ?_
    | with_reducible refine Goes.put (List.mem_singleton.2 (fieldName_GLB_MGMT_STATUS_LINK_WIDTH)) (known_GLB_MGMT_STATUS_LINK_WIDTH).agrees (Foot.le_trans (by decide +kernel) hF) ?_
    | with_reducible refine Goes.endHold (Foot.le_trans (by decide +kernel) hF) ?_
    | with_reducible refine Goes.foldl ?_ ?_
    | exact fun _ h => Tab.wf_set h _ _
    | exact fun _ h => Tab.wf_erase h _
    | exact fun _ h => Tab.wf_empty
    | split
    | intro _

/-- What `execFlr` may change. -/
def fp_execFlr : Foot := ⟨[.ports, .engines, .slices, .rings, .tags, .imgOp, .txn, .mgmt, .winnows, .windows, .tiles,
  .power, .evq, .staged, .outbox], some [0x40C008, 0x410003, 0x410000, 0x410002, 0x410001, 0x40800F, 0x408008, 0x40800A,
  0x408000, 0x40800C, 0x90, 0x298, 0x280, 0x295, 0x20006, 0x20007, 0x6001A, 0x60018, 0x6000F, 0x60010, 0x20020000,
  0x2002011F, 0x2002011C, 0x2002011D, 0x2002011E, 0x20020114, 0x20020100, 0x20020210, 0x20020200, 0x20020280,
  0x2002029B, 0x2002029C, 0x600000, 0x600280, 0x600110, 0x600100, 0x20000080, 0x20000090, 0x2000009F, 0x20000108,
  0x20000100, 0x600200, 0x600212, 0x60008E, 0x600090, 0x600080, 0x60009C, 0x600190, 0x600180, 0x20120180, 0x20120080,
  0x20120100, 0x20120000, 0x2012001B, 0x2012001A, 0x20120019, 0x2012001C, 0x102001F, 0x1020017, 0x1020013, 0x102000F,
  0x1020007, 0x1020003, 0x40088, 0x40099, 0x40080, 0x4009C]⟩
theorem goes_execFlr {s : State} (hF : fp_execFlr.le F = true) (hgo : Goes F s0 s) :
     Runs F s0 (execFlr s) := by
  unfold execFlr
  try dsimp only
  repeat' first
    | with_reducible assumption
    | with_reducible refine Runs.next ?_
    | with_reducible refine Goes.configAsk (Foot.le_trans (by decide +kernel) hF) ?_ ?_
    | with_reducible refine Goes.functionReset (Foot.le_trans (by decide +kernel) hF) ?_
    | with_reducible refine Goes.foldl ?_ ?_
    | split
    | intro _

/-- What `execMgmtHotReset` may change. -/
def fp_execMgmtHotReset : Foot := ⟨[.ports, .engines, .slices, .rings, .tags, .imgOp, .txn, .mgmt, .winnows, .windows,
  .tiles, .power, .evq, .staged, .outbox], some [0x40C008, 0x410003, 0x410000, 0x410002, 0x410001, 0x40800F, 0x408008,
  0x40800A, 0x408000, 0x40800C, 0x90, 0x298, 0x299, 0x29C, 0x29F, 0x29A, 0x280, 0x295, 0x20006, 0x20007, 0x6001A,
  0x60018, 0x6000F, 0x60010, 0x20020000, 0x2002011F, 0x2002011C, 0x2002011D, 0x2002011E, 0x20020114, 0x20020100,
  0x20020210, 0x20020200, 0x20020280, 0x2002029B, 0x2002029C, 0x600000, 0x600280, 0x600110, 0x600100, 0x20000080,
  0x20000090, 0x2000009F, 0x20000108, 0x20000100, 0x600200, 0x600212, 0x60008E, 0x600090, 0x600080, 0x60009C, 0x600190,
  0x600180, 0x20120180, 0x20120080, 0x20120100, 0x20120000, 0x2012001B, 0x2012001A, 0x20120019, 0x2012001C, 0x102001F,
  0x1020017, 0x1020013, 0x102000F, 0x1020007, 0x1020003, 0x40088, 0x40099, 0x40080, 0x4009C]⟩
theorem goes_execMgmtHotReset {s : State} (hF : fp_execMgmtHotReset.le F = true) (hgo : Goes F s0 s) :
     Runs F s0 (execMgmtHotReset s) := by
  unfold execMgmtHotReset
  try dsimp only
  repeat' first
    | with_reducible assumption
    | with_reducible refine Runs.next ?_
    | with_reducible refine Goes.linkDown (Foot.le_trans (by decide +kernel) hF) ?_
    | with_reducible refine Goes.mgmtReset (Foot.le_trans (by decide +kernel) hF) ?_
    | with_reducible refine Goes.foldl ?_ ?_
    | split
    | intro _

/-- What `execDataLinkDown` may change. -/
def fp_execDataLinkDown : Foot := ⟨[.ports, .engines, .slices, .rings, .tags, .imgOp, .txn, .mgmt, .winnows, .windows,
  .tiles, .power, .evq, .staged, .outbox], some [0x40C008, 0x410003, 0x410000, 0x410002, 0x410001, 0x40800F, 0x408008,
  0x40800A, 0x408000, 0x40800C, 0x90, 0x298, 0x299, 0x29C, 0x29F, 0x29A, 0x280, 0x295, 0x20006, 0x20007, 0x6001A,
  0x60018, 0x6000F, 0x60010, 0x20020000, 0x2002011F, 0x2002011C, 0x2002011D, 0x2002011E, 0x20020114, 0x20020100,
  0x20020210, 0x20020200, 0x20020280, 0x2002029B, 0x2002029C, 0x600000, 0x600280, 0x600110, 0x600100, 0x20000080,
  0x20000090, 0x2000009F, 0x20000108, 0x20000100, 0x600200, 0x600212, 0x60008E, 0x600090, 0x600080, 0x60009C, 0x600190,
  0x600180, 0x20120180, 0x20120080, 0x20120100, 0x20120000, 0x2012001B, 0x2012001A, 0x20120019, 0x2012001C, 0x102001F,
  0x1020017, 0x1020013, 0x102000F, 0x1020007, 0x1020003, 0x40088, 0x40099, 0x40080, 0x4009C]⟩
theorem goes_execDataLinkDown {s : State} (hF : fp_execDataLinkDown.le F = true) (hgo : Goes F s0 s) :
     Runs F s0 (execDataLinkDown s) := by
  unfold execDataLinkDown
  try dsimp only
  repeat' first
    | with_reducible assumption
    | with_reducible refine Runs.next ?_
    | with_reducible refine Goes.linkLost (Foot.le_trans (by decide +kernel) hF) ?_
    | with_reducible refine Goes.foldl ?_ ?_
    | split
    | intro _

/-- What `execPerstAssert` may change. -/
def fp_execPerstAssert : Foot := ⟨[.ports, .engines, .slices, .rings, .tags, .imgOp, .txn, .mgmt, .winnows, .windows,
  .tiles, .power, .evq, .staged, .outbox], some [0x40C008, 0x410003, 0x410000, 0x410002, 0x410001, 0x40800F, 0x408008,
  0x40800A, 0x408000, 0x40800C, 0x90, 0x298, 0x299, 0x29C, 0x29F, 0x29A, 0x280, 0x295, 0x20006, 0x20007, 0x6001A,
  0x60018, 0x6000F, 0x60010, 0x20020000, 0x2002011F, 0x2002011C, 0x2002011D, 0x2002011E, 0x20020114, 0x20020100,
  0x20020210, 0x20020200, 0x20020280, 0x2002029B, 0x2002029C, 0x600000, 0x600280, 0x600110, 0x600100, 0x20000080,
  0x20000090, 0x2000009F, 0x20000108, 0x20000100, 0x600200, 0x600212, 0x60008E, 0x600090, 0x600080, 0x60009C, 0x600190,
  0x600180, 0x20120180, 0x20120080, 0x20120100, 0x20120000, 0x2012001B, 0x2012001A, 0x20120019, 0x2012001C, 0x102001F,
  0x1020017, 0x1020013, 0x102000F, 0x1020007, 0x1020003, 0x40088, 0x40099, 0x40080, 0x4009C]⟩
theorem goes_execPerstAssert {s : State} (hF : fp_execPerstAssert.le F = true) (hgo : Goes F s0 s) :
     Runs F s0 (execPerstAssert s) := by
  unfold execPerstAssert
  try dsimp only
  repeat' first
    | with_reducible assumption
    | with_reducible refine Runs.next ?_
    | with_reducible refine Goes.upM (Foot.le_trans (by decide +kernel) hF) (fun _ h => h) ?_
    | with_reducible refine Goes.upM (Foot.le_trans (by decide +kernel) hF) ?_ ?_
    | with_reducible refine Goes.linkDown (Foot.le_trans (by decide +kernel) hF) ?_
    | with_reducible refine Goes.mgmtReset (Foot.le_trans (by decide +kernel) hF) ?_
    | with_reducible refine Goes.deviceQuiet (Foot.le_trans (by decide +kernel) hF) ?_
    | with_reducible refine Goes.foldl ?_ ?_
    | exact fun _ h => Tab.wf_set h _ _
    | exact fun _ h => Tab.wf_erase h _
    | exact fun _ h => Tab.wf_empty
    | split
    | intro _

/-- What `execPerstDeassert` may change. -/
def fp_execPerstDeassert : Foot := ⟨[.mgmt, .tim, .power, .now, .count, .replicas, .freeCtr], some [0x8009D, 0x8009C,
  0x8009F, 0x6001A, 0x6001C, 0x6000F, 0x60010, 0x60284, 0x60290, 0x60285, 0x60282, 0x60280, 0x60283, 0x60288, 0x60281,
  0x6030E, 0x60300]⟩
theorem goes_execPerstDeassert {s : State} (hF : fp_execPerstDeassert.le F = true) (hgo : Goes F s0 s) :
     Runs F s0 (execPerstDeassert s) := by
  unfold execPerstDeassert
  try dsimp only
  repeat' first
    | with_reducible assumption
    | with_reducible refine Runs.next ?_
    | with_reducible refine Goes.upM (Foot.le_trans (by decide +kernel) hF) (fun _ h => h) ?_
    | with_reducible refine Goes.upM (Foot.le_trans (by decide +kernel) hF) ?_ ?_
    | with_reducible refine Goes.wakeDevice (Foot.le_trans (by decide +kernel) hF) ?_
    | with_reducible refine Goes.foldl ?_ ?_
    | exact fun _ h => Tab.wf_set h _ _
    | exact fun _ h => Tab.wf_erase h _
    | exact fun _ h => Tab.wf_empty
    | split
    | intro _

/-- What `execD3hotEntry` may change. -/
def fp_execD3hotEntry : Foot := ⟨[.tags, .imgOp, .mgmt, .power, .outbox], some [0x298, 0x20006, 0x20007]⟩
theorem goes_execD3hotEntry {s : State} (hF : fp_execD3hotEntry.le F = true) (hgo : Goes F s0 s) :
     Runs F s0 (execD3hotEntry s) := by
  unfold execD3hotEntry
  try dsimp only
  repeat' first
    | with_reducible assumption
    | with_reducible refine Runs.next ?_
    | with_reducible refine Goes.upM (Foot.le_trans (by decide +kernel) hF) (fun _ h => h) ?_
    | with_reducible refine Goes.upM (Foot.le_trans (by decide +kernel) hF) ?_ ?_
    | with_reducible refine Goes.configAsk (Foot.le_trans (by decide +kernel) hF) ?_ ?_
    | with_reducible refine Goes.deviceQuiet (Foot.le_trans (by decide +kernel) hF) ?_
    | with_reducible refine Goes.checkHold (Foot.le_trans (by decide +kernel) hF) ?_
    | with_reducible refine Goes.foldl ?_ ?_
    | exact fun _ h => Tab.wf_set h _ _
    | exact fun _ h => Tab.wf_erase h _
    | exact fun _ h => Tab.wf_empty
    | split
    | intro _

/-- What `execD0Return` may change. -/
def fp_execD0Return : Foot := ⟨[.engines, .rings, .tags, .mgmt, .tiles, .power, .evq, .staged, .outbox], some
  [0x40C008, 0x40800F, 0x408008, 0x40800A, 0x408000, 0x40800C, 0x298, 0x280, 0x295, 0x20020200, 0x2002029B, 0x2002029C,
  0x20000108, 0x600080]⟩
theorem goes_execD0Return {s : State} (hF : fp_execD0Return.le F = true) (hgo : Goes F s0 s) :
     Runs F s0 (execD0Return s) := by
  unfold execD0Return
  try dsimp only
  repeat' first
    | with_reducible assumption
    | with_reducible refine Runs.next ?_
    | with_reducible refine Goes.upM (Foot.le_trans (by decide +kernel) hF) (fun _ h => h) ?_
    | with_reducible refine Goes.upM (Foot.le_trans (by decide +kernel) hF) ?_ ?_
    | with_reducible refine Goes.configAsk (Foot.le_trans (by decide +kernel) hF) ?_ ?_
    | with_reducible refine Goes.releaseJobs (Foot.le_trans (by decide +kernel) hF) ?_
    | with_reducible refine Goes.endHold (Foot.le_trans (by decide +kernel) hF) ?_
    | with_reducible refine Goes.foldl ?_ ?_
    | exact fun _ h => Tab.wf_set h _ _
    | exact fun _ h => Tab.wf_erase h _
    | exact fun _ h => Tab.wf_empty
    | split
    | intro _

/-- What `execPmeTurnOff` may change. -/
def fp_execPmeTurnOff : Foot := ⟨[.tags, .imgOp, .mgmt, .power, .outbox], some [0x20006, 0x20007]⟩
theorem goes_execPmeTurnOff {s : State} (hF : fp_execPmeTurnOff.le F = true) (hgo : Goes F s0 s) :
     Runs F s0 (execPmeTurnOff s) := by
  unfold execPmeTurnOff
  try dsimp only
  repeat' first
    | with_reducible assumption
    | with_reducible refine Runs.next ?_
    | with_reducible refine Goes.upM (Foot.le_trans (by decide +kernel) hF) (fun _ h => h) ?_
    | with_reducible refine Goes.upM (Foot.le_trans (by decide +kernel) hF) ?_ ?_
    | with_reducible refine Goes.voidReads (Foot.le_trans (by decide +kernel) hF) ?_
    | with_reducible refine Goes.sendUp (Foot.le_trans (by decide +kernel) hF) ?_
    | with_reducible refine Goes.foldl ?_ ?_
    | exact fun _ h => Tab.wf_set h _ _
    | exact fun _ h => Tab.wf_erase h _
    | exact fun _ h => Tab.wf_empty
    | split
    | intro _

/-- What `execAspmL1Entry` may change. -/
def fp_execAspmL1Entry : Foot := ⟨[.mgmt], some []⟩
theorem goes_execAspmL1Entry {s : State} (hF : fp_execAspmL1Entry.le F = true) (hgo : Goes F s0 s) :
     Runs F s0 (execAspmL1Entry s) := by
  unfold execAspmL1Entry
  try dsimp only
  repeat' first
    | with_reducible assumption
    | with_reducible refine Runs.next ?_
    | with_reducible refine Goes.upM (Foot.le_trans (by decide +kernel) hF) (fun _ h => h) ?_
    | with_reducible refine Goes.upM (Foot.le_trans (by decide +kernel) hF) ?_ ?_
    | with_reducible refine Goes.foldl ?_ ?_
    | exact fun _ h => Tab.wf_set h _ _
    | exact fun _ h => Tab.wf_erase h _
    | exact fun _ h => Tab.wf_empty
    | split
    | intro _

/-- What `execAspmL1Exit` may change. -/
def fp_execAspmL1Exit : Foot := ⟨[.mgmt], some []⟩
theorem goes_execAspmL1Exit {s : State} (hF : fp_execAspmL1Exit.le F = true) (hgo : Goes F s0 s) :
     Runs F s0 (execAspmL1Exit s) := by
  unfold execAspmL1Exit
  try dsimp only
  repeat' first
    | with_reducible assumption
    | with_reducible refine Runs.next ?_
    | with_reducible refine Goes.upM (Foot.le_trans (by decide +kernel) hF) (fun _ h => h) ?_
    | with_reducible refine Goes.upM (Foot.le_trans (by decide +kernel) hF) ?_ ?_
    | with_reducible refine Goes.foldl ?_ ?_
    | exact fun _ h => Tab.wf_set h _ _
    | exact fun _ h => Tab.wf_erase h _
    | exact fun _ h => Tab.wf_empty
    | split
    | intro _

/-- What `State.putMsix` may change. -/
def fp_putMsix : Foot := ⟨[.mgmt], some []⟩
theorem Goes.putMsix {s : State} {i : Nat} {v : Nat} (hF : fp_putMsix.le F = true) (hgo : Goes F s0 s) :
     Goes F s0 (State.putMsix s i v) := by
  unfold State.putMsix
  try dsimp only
  repeat' first
    | with_reducible assumption
    | exact fun _ h => ⟨Tab.wf_erase h.1 _, h.2⟩
    | exact fun _ h => ⟨Tab.wf_set h.1 _ _, h.2⟩
    | exact fun _ h => ⟨h.1, Tab.wf_set h.2 _ _⟩
    | with_reducible refine Goes.upM (Foot.le_trans (by decide +kernel) hF) (fun _ h => h) ?_
    | with_reducible refine Goes.upM (Foot.le_trans (by decide +kernel) hF) ?_ ?_
    | with_reducible refine Goes.foldl ?_ ?_
    | exact fun _ h => Tab.wf_set h _ _
    | exact fun _ h => Tab.wf_erase h _
    | exact fun _ h => Tab.wf_empty
    | split
    | intro _

/-- What `execMsixUnmask` may change. -/
def fp_execMsixUnmask : Foot := ⟨[.mgmt, .outbox], some []⟩
theorem goes_execMsixUnmask {v : Fin 2048} {s : State} (hF : fp_execMsixUnmask.le F = true) (hgo : Goes F s0 s) :
     Runs F s0 (execMsixUnmask v s) := by
  unfold execMsixUnmask
  try dsimp only
  repeat' first
    | with_reducible assumption
    | with_reducible refine Runs.next ?_
    | with_reducible refine Goes.flushMsix (Foot.le_trans (by decide +kernel) hF) ?_
    | with_reducible refine Goes.putMsix (Foot.le_trans (by decide +kernel) hF) ?_
    | with_reducible refine Goes.foldl ?_ ?_
    | split
    | intro _

/-- What `State.repeatPme` may change. -/
def fp_repeatPme : Foot := ⟨[.mgmt, .outbox], some []⟩
theorem Goes.repeatPme {s : State} (hF : fp_repeatPme.le F = true) (hgo : Goes F s0 s) :
     Goes F s0 (State.repeatPme s) := by
  unfold State.repeatPme
  try dsimp only
  repeat' first
    | with_reducible assumption
    | with_reducible refine Goes.sendPme (Foot.le_trans (by decide +kernel) hF) ?_
    | with_reducible refine Goes.foldl ?_ ?_
    | split
    | intro _

/-- What `execAliveBeat` may change. -/
def fp_execAliveBeat : Foot := ⟨[.mgmt, .tim, .power, .now, .count, .replicas, .elapsed, .outbox], some [0x80,
  0xC021B, 0xC0280]⟩
theorem goes_execAliveBeat {s : State} (hF : fp_execAliveBeat.le F = true) (hgo : Goes F s0 s) :
     Runs F s0 (execAliveBeat s) := by
  unfold execAliveBeat
  try dsimp only
  repeat' first
    | with_reducible assumption
    | with_reducible refine Runs.next ?_
    | with_reducible refine Goes.advanceTo (Foot.le_trans (by decide +kernel) hF) ?_
    | with_reducible refine Goes.repeatPme (Foot.le_trans (by decide +kernel) hF) ?_
    | with_reducible refine Goes.wrapUp (List.mem_singleton.2 (fieldName_GLB_ALIVE_BEAT)) (known_GLB_ALIVE_BEAT).agrees (Foot.le_trans (by decide +kernel) hF) ?_
    | with_reducible refine Goes.foldl ?_ ?_
    | split
    | intro _

/-- What `execManagementLinkError` may change. -/
def fp_execManagementLinkError : Foot := ⟨[.mgmt, .outbox], some []⟩
theorem goes_execManagementLinkError {e : LinkError} {s : State} (hF : fp_execManagementLinkError.le F = true) (hgo : Goes F s0 s) :
     Runs F s0 (execManagementLinkError e s) := by
  unfold execManagementLinkError
  try dsimp only
  repeat' first
    | with_reducible assumption
    | with_reducible refine Runs.next ?_
    | with_reducible refine Goes.uncError (Foot.le_trans (by decide +kernel) hF) ?_
    | with_reducible refine Goes.corError (Foot.le_trans (by decide +kernel) hF) ?_
    | with_reducible refine Goes.foldl ?_ ?_
    | split
    | intro _

/-- What `execInternalEccError` may change. -/
def fp_execInternalEccError : Foot := ⟨[.mgmt, .outbox], some []⟩
theorem goes_execInternalEccError {corrected : Bool} {s : State} (hF : fp_execInternalEccError.le F = true) (hgo : Goes F s0 s) :
     Runs F s0 (execInternalEccError corrected s) := by
  unfold execInternalEccError
  try dsimp only
  repeat' first
    | with_reducible assumption
    | with_reducible refine Runs.next ?_
    | with_reducible refine Goes.uncError (Foot.le_trans (by decide +kernel) hF) ?_
    | with_reducible refine Goes.corError (Foot.le_trans (by decide +kernel) hF) ?_
    | with_reducible refine Goes.foldl ?_ ?_
    | split
    | intro _

/-- What `execCoreWatchdogExpiry` may change. -/
def fp_execCoreWatchdogExpiry : Foot := ⟨[.ports, .txn, .mgmt, .tim, .tiles, .power, .evq, .now, .count, .replicas,
  .elapsed, .outbox], some [0x6001A, 0x60018, 0x6000F, 0x60010, 0xC021C, 0xC021D, 0xC021E, 0xC021B, 0xC0280, 0x40088,
  0x40099, 0x40080, 0x4009C]⟩
theorem goes_execCoreWatchdogExpiry {_core : Fin 4} {s : State} (hF : fp_execCoreWatchdogExpiry.le F = true) (hgo : Goes F s0 s) :
     Runs F s0 (execCoreWatchdogExpiry _core s) := by
  unfold execCoreWatchdogExpiry
  try dsimp only
  repeat' first
    | with_reducible assumption
    | with_reducible refine Runs.next ?_
    | with_reducible refine Goes.upM (Foot.le_trans (by decide +kernel) hF) (fun _ h => h) ?_
    | with_reducible refine Goes.upM (Foot.le_trans (by decide +kernel) hF) ?_ ?_
    | with_reducible refine Goes.uncError (Foot.le_trans (by decide +kernel) hF) ?_
    | with_reducible refine Goes.upPw (Foot.le_trans (by decide +kernel) hF) ?_
    | with_reducible refine Goes.rollTxn (Foot.le_trans (by decide +kernel) hF) ?_
    | with_reducible refine Goes.enterHoldover (Foot.le_trans (by decide +kernel) hF) ?_
    | with_reducible refine Goes.foldl ?_ ?_
    | exact fun _ h => Tab.wf_set h _ _
    | exact fun _ h => Tab.wf_erase h _
    | exact fun _ h => Tab.wf_empty
    | split
    | intro _

/-- What `State.putStandard` may change. -/
def fp_putStandard : Foot := ⟨[.mgmt], some []⟩
theorem Goes.putStandard {s : State} {o : Nat} {v : Nat} (hF : fp_putStandard.le F = true) (hgo : Goes F s0 s) :
     Goes F s0 (State.putStandard s o v) := by
  unfold State.putStandard
  try dsimp only
  repeat' first
    | with_reducible assumption
    | exact fun _ h => ⟨Tab.wf_erase h.1 _, h.2⟩
    | exact fun _ h => ⟨Tab.wf_set h.1 _ _, h.2⟩
    | exact fun _ h => ⟨h.1, Tab.wf_set h.2 _ _⟩
    | with_reducible refine Goes.upM (Foot.le_trans (by decide +kernel) hF) (fun _ h => h) ?_
    | with_reducible refine Goes.upM (Foot.le_trans (by decide +kernel) hF) ?_ ?_
    | with_reducible refine Goes.foldl ?_ ?_
    | exact fun _ h => Tab.wf_set h _ _
    | exact fun _ h => Tab.wf_erase h _
    | exact fun _ h => Tab.wf_empty
    | split
    | intro _

/-- What `execConfigurationWrite` may change. -/
def fp_execConfigurationWrite : Foot := ⟨[.tags, .mgmt, .outbox], some []⟩
theorem goes_execConfigurationWrite {field : CfgField} {v : Nat} {s : State} (hF : fp_execConfigurationWrite.le F = true) (hgo : Goes F s0 s) :
     Runs F s0 (execConfigurationWrite field v s) := by
  unfold execConfigurationWrite
  try dsimp only
  repeat' first
    | with_reducible assumption
    | with_reducible refine Runs.next ?_
    | with_reducible refine Goes.flushMsix (Foot.le_trans (by decide +kernel) hF) ?_
    | with_reducible refine Goes.upM (Foot.le_trans (by decide +kernel) hF) (fun _ h => h) ?_
    | with_reducible refine Goes.upM (Foot.le_trans (by decide +kernel) hF) ?_ ?_
    | with_reducible refine Goes.putStandard (Foot.le_trans (by decide +kernel) hF) ?_
    | with_reducible refine Goes.configAsk (Foot.le_trans (by decide +kernel) hF) ?_ ?_
    | with_reducible refine Goes.restartCto (Foot.le_trans (by decide +kernel) hF) ?_
    | with_reducible refine Goes.foldl ?_ ?_
    | exact fun _ h => Tab.wf_set h _ _
    | exact fun _ h => Tab.wf_erase h _
    | exact fun _ h => Tab.wf_empty
    | split
    | intro _

end Sys2Proof.Machine
end

