-- ==== Sys2Proof/Laws/OnImage.lean ====
section
/-! SUPPORT. What each operation of `Machine/Image.lean` may change: one lemma for each. -/

set_option linter.all false
set_option Elab.async false

namespace Sys2Proof.Machine

variable {F : Foot} {s0 : State}

/-- What `State.wokeFromOff` may change. -/
def fp_wokeFromOff : Foot := ⟨[], some [0x60300]⟩
theorem Goes.wokeFromOff {s : State} (hF : fp_wokeFromOff.le F = true) (hgo : Goes F s0 s) :
     Goes F s0 (State.wokeFromOff s) := by
  unfold State.wokeFromOff
  try dsimp only
  repeat' first
    | with_reducible assumption
    | with_reducible refine Goes.wr (List.mem_singleton.2 (fieldName_PWR_WAKE_STATUS_WAKE_US)) (known_PWR_WAKE_STATUS_WAKE_US).agrees (Foot.le_trans (by decide +kernel) hF) ?_
    | with_reducible refine Goes.foldl ?_ ?_
    | split
    | intro _

/-- What `execBoot` may change. -/
def fp_execBoot : Foot := ⟨[.bct, .calTab, .slices, .rings, .flash, .lastStore, .chip, .tim, .power], none⟩
theorem goes_execBoot {flashAnswers : Bool} {s : State} (hF : fp_execBoot.le F = true) (hgo : Goes F s0 s) :
     Runs F s0 (execBoot flashAnswers s) := by
  unfold execBoot
  try dsimp only
  repeat' first
    | with_reducible assumption
    | with_reducible refine Runs.next ?_
    | with_reducible refine Goes.setTrailer (Foot.le_trans (by decide +kernel) hF) ?_
    | with_reducible refine Goes.bootTxn (Foot.le_trans (by decide +kernel) hF) ?_
    | with_reducible refine Goes.showAddress (Foot.le_trans (by decide +kernel) hF) ?_
    | with_reducible refine Goes.upPw (Foot.le_trans (by decide +kernel) hF) ?_
    | with_reducible refine Goes.showFuses (Foot.le_trans (by decide +kernel) hF) ?_
    | with_reducible refine Goes.on (List.mem_singleton.2 (fieldName_CLK_STATUS_CORE_SRC)) (known_CLK_STATUS_CORE_SRC).agrees (Foot.le_trans (by decide +kernel) hF) ?_
    | with_reducible refine Goes.on (List.mem_singleton.2 (fieldName_CLK_STATUS_MCLK_SRC)) (known_CLK_STATUS_MCLK_SRC).agrees (Foot.le_trans (by decide +kernel) hF) ?_
    | with_reducible refine Goes.on (List.mem_singleton.2 (fieldName_CLK_STATUS_REFCLK_OK)) (known_CLK_STATUS_REFCLK_OK).agrees (Foot.le_trans (by decide +kernel) hF) ?_
    | with_reducible refine Goes.on (List.mem_singleton.2 (fieldName_CLK_STATUS_ROOT_LOCK)) (known_CLK_STATUS_ROOT_LOCK).agrees (Foot.le_trans (by decide +kernel) hF) ?_
    | with_reducible refine Goes.on (List.mem_singleton.2 (fieldName_IMG_STATUS_ARB_IMAGE)) (known_IMG_STATUS_ARB_IMAGE).agrees (Foot.le_trans (by decide +kernel) hF) ?_
    | with_reducible refine Goes.on (List.mem_singleton.2 (fieldName_IMG_STATUS_BOOT_SLOT)) (known_IMG_STATUS_BOOT_SLOT).agrees (Foot.le_trans (by decide +kernel) hF) ?_
    | with_reducible refine Goes.on (List.mem_singleton.2 (fieldName_IMG_STATUS_CONFIRMED)) (known_IMG_STATUS_CONFIRMED).agrees (Foot.le_trans (by decide +kernel) hF) ?_
    | with_reducible refine Goes.on (List.mem_singleton.2 (fieldName_IMG_STATUS_ENG_FW_SLOT)) (known_IMG_STATUS_ENG_FW_SLOT).agrees (Foot.le_trans (by decide +kernel) hF) ?_
    | with_reducible refine Goes.on (List.mem_singleton.2 (fieldName_IMG_STATUS_RECOVERY)) (known_IMG_STATUS_RECOVERY).agrees (Foot.le_trans (by decide +kernel) hF) ?_
    | with_reducible refine Goes.on (List.mem_singleton.2 (fieldName_RST_STATUS_BOOT_DONE)) (known_RST_STATUS_BOOT_DONE).agrees (Foot.le_trans (by decide +kernel) hF) ?_
    | with_reducible refine Goes.wr (List.mem_singleton.2 (fieldName_CLK_STATUS_CORE_SRC)) (known_CLK_STATUS_CORE_SRC).agrees (Foot.le_trans (by decide +kernel) hF) ?_
    | with_reducible refine Goes.wr (List.mem_singleton.2 (fieldName_CLK_STATUS_MCLK_SRC)) (known_CLK_STATUS_MCLK_SRC).agrees (Foot.le_trans (by decide +kernel) hF) ?_
    | with_reducible refine Goes.wr (List.mem_singleton.2 (fieldName_CLK_STATUS_REFCLK_OK)) (known_CLK_STATUS_REFCLK_OK).agrees (Foot.le_trans (by decide +kernel) hF) ?_
    | with_reducible refine Goes.wr (List.mem_singleton.2 (fieldName_CLK_STATUS_ROOT_LOCK)) (known_CLK_STATUS_ROOT_LOCK).agrees (Foot.le_trans (by decide +kernel) hF) ?_
    | with_reducible refine Goes.wr (List.mem_singleton.2 (fieldName_IMG_STATUS_ARB_IMAGE)) (known_IMG_STATUS_ARB_IMAGE).agrees (Foot.le_trans (by decide +kernel) hF) ?_
    | with_reducible refine Goes.wr (List.mem_singleton.2 (fieldName_IMG_STATUS_BOOT_SLOT)) (known_IMG_STATUS_BOOT_SLOT).agrees (Foot.le_trans (by decide +kernel) hF) ?_
    | with_reducible refine Goes.wr (List.mem_singleton.2 (fieldName_IMG_STATUS_CONFIRMED)) (known_IMG_STATUS_CONFIRMED).agrees (Foot.le_trans (by decide +kernel) hF) ?_
    | with_reducible refine Goes.wr (List.mem_singleton.2 (fieldName_IMG_STATUS_ENG_FW_SLOT)) (known_IMG_STATUS_ENG_FW_SLOT).agrees (Foot.le_trans (by decide +kernel) hF) ?_
    | with_reducible refine Goes.wr (List.mem_singleton.2 (fieldName_IMG_STATUS_RECOVERY)) (known_IMG_STATUS_RECOVERY).agrees (Foot.le_trans (by decide +kernel) hF) ?_
    | with_reducible refine Goes.wr (List.mem_singleton.2 (fieldName_RST_STATUS_BOOT_DONE)) (known_RST_STATUS_BOOT_DONE).agrees (Foot.le_trans (by decide +kernel) hF) ?_
    | with_reducible refine Goes.wokeFromOff (Foot.le_trans (by decide +kernel) hF) ?_
    | with_reducible refine Goes.put (List.mem_singleton.2 (fieldName_CLK_STATUS_CORE_SRC)) (known_CLK_STATUS_CORE_SRC).agrees (Foot.le_trans (by decide +kernel) hF) ?_
    | with_reducible refine Goes.put (List.mem_singleton.2 (fieldName_CLK_STATUS_MCLK_SRC)) (known_CLK_STATUS_MCLK_SRC).agrees (Foot.le_trans (by decide +kernel) hF) ?_
    | with_reducible refine Goes.put (List.mem_singleton.2 (fieldName_CLK_STATUS_REFCLK_OK)) (known_CLK_STATUS_REFCLK_OK).agrees (Foot.le_trans (by decide +kernel) hF) ?_
    | with_reducible refine Goes.put (List.mem_singleton.2 (fieldName_CLK_STATUS_ROOT_LOCK)) (known_CLK_STATUS_ROOT_LOCK).agrees (Foot.le_trans (by decide +kernel) hF) ?_
    | with_reducible refine Goes.put (List.mem_singleton.2 (fieldName_IMG_STATUS_ARB_IMAGE)) (known_IMG_STATUS_ARB_IMAGE).agrees (Foot.le_trans (by decide +kernel) hF) ?_
    | with_reducible refine Goes.put (List.mem_singleton.2 (fieldName_IMG_STATUS_BOOT_SLOT)) (known_IMG_STATUS_BOOT_SLOT).agrees (Foot.le_trans (by decide +kernel) hF) ?_
    | with_reducible refine Goes.put (List.mem_singleton.2 (fieldName_IMG_STATUS_CONFIRMED)) (known_IMG_STATUS_CONFIRMED).agrees (Foot.le_trans (by decide +kernel) hF) ?_
    | with_reducible refine Goes.put (List.mem_singleton.2 (fieldName_IMG_STATUS_ENG_FW_SLOT)) (known_IMG_STATUS_ENG_FW_SLOT).agrees (Foot.le_trans (by decide +kernel) hF) ?_
    | with_reducible refine Goes.put (List.mem_singleton.2 (fieldName_IMG_STATUS_RECOVERY)) (known_IMG_STATUS_RECOVERY).agrees (Foot.le_trans (by decide +kernel) hF) ?_
    | with_reducible refine Goes.put (List.mem_singleton.2 (fieldName_RST_STATUS_BOOT_DONE)) (known_RST_STATUS_BOOT_DONE).agrees (Foot.le_trans (by decide +kernel) hF) ?_
    | with_reducible refine Goes.bootShow (Foot.le_trans (by decide +kernel) hF) ?_
    | with_reducible refine Goes.setChip (Foot.le_trans (by decide +kernel) hF) ?_
    | with_reducible refine Goes.createS0 (Foot.le_trans (by decide +kernel) hF) ?_
    | with_reducible refine Goes.loadCal (Foot.le_trans (by decide +kernel) hF) ?_
    | with_reducible refine Goes.setLastStore (Foot.le_trans (by decide +kernel) hF) ?_
    | with_reducible refine Goes.foldl ?_ ?_
    | split
    | intro _

/-- What `State.writeSlot` may change. -/
def fp_writeSlot : Foot := ⟨[.imgOp], some [0x20006, 0x20007]⟩
theorem Goes.writeSlot {s : State} {len : Nat} (hF : fp_writeSlot.le F = true) (hgo : Goes F s0 s) :
     Goes F s0 (State.writeSlot s len) := by
  unfold State.writeSlot
  try dsimp only
  repeat' first
    | with_reducible assumption
    | with_reducible refine Goes.on (List.mem_singleton.2 (fieldName_IMG_STATUS_CMD_BUSY)) (known_IMG_STATUS_CMD_BUSY).agrees (Foot.le_trans (by decide +kernel) hF) ?_
    | with_reducible refine Goes.on (List.mem_singleton.2 (fieldName_IMG_STATUS_CMD_RESULT)) (known_IMG_STATUS_CMD_RESULT).agrees (Foot.le_trans (by decide +kernel) hF) ?_
    | with_reducible refine Goes.wr (List.mem_singleton.2 (fieldName_IMG_STATUS_CMD_BUSY)) (known_IMG_STATUS_CMD_BUSY).agrees (Foot.le_trans (by decide +kernel) hF) ?_
    | with_reducible refine Goes.wr (List.mem_singleton.2 (fieldName_IMG_STATUS_CMD_RESULT)) (known_IMG_STATUS_CMD_RESULT).agrees (Foot.le_trans (by decide +kernel) hF) ?_
    | with_reducible refine Goes.setImgOp (Foot.le_trans (by decide +kernel) hF) ?_
    | with_reducible refine Goes.foldl ?_ ?_
    | split
    | intro _

/-- What `execWriteSlot` may change. -/
def fp_execWriteSlot : Foot := ⟨[.imgOp, .tim, .power, .now, .count, .replicas, .freeCtr], some [0x8009D, 0x8009C,
  0x8009F, 0x20006, 0x20007, 0x6001A, 0x6001C, 0x6000F, 0x60010, 0x60284, 0x60290, 0x60285, 0x60282, 0x60280, 0x60283,
  0x60288, 0x60281, 0x6030E, 0x60300]⟩
theorem goes_execWriteSlot {len : Nat} {s : State} (hF : fp_execWriteSlot.le F = true) (hgo : Goes F s0 s) :
     Runs F s0 (execWriteSlot len s) := by
  unfold execWriteSlot
  try dsimp only
  repeat' first
    | with_reducible assumption
    | with_reducible refine Runs.next ?_
    | with_reducible refine Goes.imgCmd (Foot.le_trans (by decide +kernel) hF) ?_ ?_
    | with_reducible refine Goes.writeSlot (Foot.le_trans (by decide +kernel) hF) ?_
    | with_reducible refine Goes.foldl ?_ ?_
    | split
    | intro _

/-- What `execImgFlashOpDone` may change. -/
def fp_execImgFlashOpDone : Foot := ⟨[.tags, .flash, .calStore, .storeWait, .lastStore, .lastWritten, .imgOp, .mgmt,
  .tiles, .power, .outbox, .freeCtr], some [0x20011F, 0x20011C, 0x20006, 0x20007]⟩
theorem goes_execImgFlashOpDone {r : FlashDone} {s : State} (hF : fp_execImgFlashOpDone.le F = true) (hgo : Goes F s0 s) :
     Runs F s0 (execImgFlashOpDone r s) := by
  unfold execImgFlashOpDone
  try dsimp only
  repeat' first
    | with_reducible assumption
    | with_reducible refine Runs.next ?_
    | with_reducible refine Goes.writeStep (Foot.le_trans (by decide +kernel) hF) ?_
    | with_reducible refine Goes.writeFails (Foot.le_trans (by decide +kernel) hF) ?_
    | with_reducible refine Goes.foldl ?_ ?_
    | split
    | intro _

/-- What `State.confirmCmd` may change. -/
def fp_confirmCmd : Foot := ⟨[.flash], some [0x20007, 0x2001A]⟩
theorem Goes.confirmCmd {s : State} (hF : fp_confirmCmd.le F = true) (hgo : Goes F s0 s) :
     Goes F s0 (State.confirmCmd s) := by
  unfold State.confirmCmd
  try dsimp only
  repeat' first
    | with_reducible assumption
    | with_reducible refine Goes.wr (List.mem_singleton.2 (fieldName_IMG_STATUS_CMD_RESULT)) (known_IMG_STATUS_CMD_RESULT).agrees (Foot.le_trans (by decide +kernel) hF) ?_
    | with_reducible refine Goes.confirm (Foot.le_trans (by decide +kernel) hF) ?_
    | with_reducible refine Goes.foldl ?_ ?_
    | split
    | intro _

/-- What `execConfirm` may change. -/
def fp_execConfirm : Foot := ⟨[.flash, .tim, .power, .now, .count, .replicas, .freeCtr], some [0x8009D, 0x8009C,
  0x8009F, 0x20007, 0x2001A, 0x6001A, 0x6001C, 0x6000F, 0x60010, 0x60284, 0x60290, 0x60285, 0x60282, 0x60280, 0x60283,
  0x60288, 0x60281, 0x6030E, 0x60300]⟩
theorem goes_execConfirm {s : State} (hF : fp_execConfirm.le F = true) (hgo : Goes F s0 s) :
     Runs F s0 (execConfirm s) := by
  unfold execConfirm
  try dsimp only
  repeat' first
    | with_reducible assumption
    | with_reducible refine Runs.next ?_
    | with_reducible refine Goes.imgCmd (Foot.le_trans (by decide +kernel) hF) ?_ ?_
    | with_reducible refine Goes.confirmCmd (Foot.le_trans (by decide +kernel) hF) ?_
    | with_reducible refine Goes.foldl ?_ ?_
    | split
    | intro _

/-- What `execConfirmAfterExpiry` may change. -/
def fp_execConfirmAfterExpiry : Foot := ⟨[.flash, .tim, .power, .now, .count, .replicas, .elapsed], some [0x2001A,
  0xC021B, 0xC0280]⟩
theorem goes_execConfirmAfterExpiry {s : State} (hF : fp_execConfirmAfterExpiry.le F = true) (hgo : Goes F s0 s) :
     Runs F s0 (execConfirmAfterExpiry s) := by
  unfold execConfirmAfterExpiry
  try dsimp only
  repeat' first
    | with_reducible assumption
    | with_reducible refine Runs.next ?_
    | with_reducible refine Goes.advanceTo (Foot.le_trans (by decide +kernel) hF) ?_
    | with_reducible refine Goes.confirm (Foot.le_trans (by decide +kernel) hF) ?_
    | with_reducible refine Goes.foldl ?_ ?_
    | split
    | intro _

/-- What `State.advanceArb` may change. -/
def fp_advanceArb : Foot := ⟨[.fuses], some [0x20200, 0x2000F, 0x20007]⟩
theorem Goes.advanceArb {s : State} (hF : fp_advanceArb.le F = true) (hgo : Goes F s0 s) :
     Goes F s0 (State.advanceArb s) := by
  unfold State.advanceArb
  try dsimp only
  repeat' first
    | with_reducible assumption
    | (refine Goes.setFuses (Foot.le_trans (by decide +kernel) hF) (fun _ w => w.fuses) ⟨Nat.le_max_left _ _, fun _ h => h⟩ ?_)
    | with_reducible refine Goes.setFuses (Foot.le_trans (by decide +kernel) hF) ?_ ?_
    | with_reducible refine Goes.showFuses (Foot.le_trans (by decide +kernel) hF) ?_
    | with_reducible refine Goes.wr (List.mem_singleton.2 (fieldName_IMG_STATUS_CMD_RESULT)) (known_IMG_STATUS_CMD_RESULT).agrees (Foot.le_trans (by decide +kernel) hF) ?_
    | with_reducible refine Goes.foldl ?_ ?_
    | exact fun _ w => Tab.wf_empty
    | exact fun _ w => Tab.wf_set w.fuses _ _
    | exact fun _ w => Tab.wf_erase w.fuses _
    | exact fun _ w => Tab.wf_keep w.fuses _
    | exact fun _ w => Tab.wf_map w.fuses _
    | split
    | intro _

/-- What `execAdvanceArb` may change. -/
def fp_execAdvanceArb : Foot := ⟨[.fuses, .tim, .power, .now, .count, .replicas, .freeCtr], some [0x8009D, 0x8009C,
  0x8009F, 0x20200, 0x2000F, 0x20007, 0x6001A, 0x6001C, 0x6000F, 0x60010, 0x60284, 0x60290, 0x60285, 0x60282, 0x60280,
  0x60283, 0x60288, 0x60281, 0x6030E, 0x60300]⟩
theorem goes_execAdvanceArb {s : State} (hF : fp_execAdvanceArb.le F = true) (hgo : Goes F s0 s) :
     Runs F s0 (execAdvanceArb s) := by
  unfold execAdvanceArb
  try dsimp only
  repeat' first
    | with_reducible assumption
    | with_reducible refine Runs.next ?_
    | (refine Goes.setFuses (Foot.le_trans (by decide +kernel) hF) (fun _ w => w.fuses) ⟨Nat.le_max_left _ _, fun _ h => h⟩ ?_)
    | with_reducible refine Goes.imgCmd (Foot.le_trans (by decide +kernel) hF) ?_ ?_
    | with_reducible refine Goes.advanceArb (Foot.le_trans (by decide +kernel) hF) ?_
    | with_reducible refine Goes.foldl ?_ ?_
    | split
    | intro _

/-- What `State.swapFw` may change. -/
def fp_swapFw : Foot := ⟨[.halves, .sides, .engines, .rings, .imgOp, .mgmt, .tiles, .power, .evq, .outbox], some
  [0x220018, 0x220010, 0x200100, 0x40C008, 0x40800F, 0x408008, 0x40800A, 0x408000, 0x40800C, 0x40801C, 0xE0390, 0xE0380,
  0xE0388, 0xE0210, 0xE0200, 0xE021E, 0xE0208, 0xE021F, 0xE0280, 0xE0100, 0xE0001, 0x295, 0x20006, 0x20007, 0x2001C,
  0x4000280, 0x400029D, 0x400050E, 0x400051C, 0x4000513, 0x2000D05, 0x2000D06, 0x2000D00, 0x100097]⟩
theorem Goes.swapFw {s : State} (hF : fp_swapFw.le F = true) (hgo : Goes F s0 s) :
     Goes F s0 (State.swapFw s) := by
  unfold State.swapFw
  try dsimp only
  repeat' first
    | with_reducible assumption
    | with_reducible refine Goes.on (List.mem_singleton.2 (fieldName_IMG_STATUS_CMD_BUSY)) (known_IMG_STATUS_CMD_BUSY).agrees (Foot.le_trans (by decide +kernel) hF) ?_
    | with_reducible refine Goes.on (List.mem_singleton.2 (fieldName_IMG_STATUS_CMD_RESULT)) (known_IMG_STATUS_CMD_RESULT).agrees (Foot.le_trans (by decide +kernel) hF) ?_
    | with_reducible refine Goes.wr (List.mem_singleton.2 (fieldName_IMG_STATUS_CMD_BUSY)) (known_IMG_STATUS_CMD_BUSY).agrees (Foot.le_trans (by decide +kernel) hF) ?_
    | with_reducible refine Goes.wr (List.mem_singleton.2 (fieldName_IMG_STATUS_CMD_RESULT)) (known_IMG_STATUS_CMD_RESULT).agrees (Foot.le_trans (by decide +kernel) hF) ?_
    | with_reducible refine Goes.swapFrom (Foot.le_trans (by decide +kernel) hF) ?_
    | with_reducible refine Goes.foldl ?_ ?_
    | split
    | intro _

/-- What `execSwapFw` may change. -/
def fp_execSwapFw : Foot := ⟨[.halves, .sides, .engines, .rings, .imgOp, .mgmt, .tim, .tiles, .power, .evq, .now,
  .count, .replicas, .outbox, .freeCtr], some [0x220018, 0x220010, 0x200100, 0x8009D, 0x8009C, 0x8009F, 0x40C008,
  0x40800F, 0x408008, 0x40800A, 0x408000, 0x40800C, 0x40801C, 0xE0390, 0xE0380, 0xE0388, 0xE0210, 0xE0200, 0xE021E,
  0xE0208, 0xE021F, 0xE0280, 0xE0100, 0xE0001, 0x295, 0x20006, 0x20007, 0x2001C, 0x4000280, 0x400029D, 0x400050E,
  0x400051C, 0x4000513, 0x2000D05, 0x2000D06, 0x2000D00, 0x6001A, 0x6001C, 0x6000F, 0x60010, 0x60284, 0x60290, 0x60285,
  0x60282, 0x60280, 0x60283, 0x60288, 0x60281, 0x6030E, 0x60300, 0x100097]⟩
theorem goes_execSwapFw {s : State} (hF : fp_execSwapFw.le F = true) (hgo : Goes F s0 s) :
     Runs F s0 (execSwapFw s) := by
  unfold execSwapFw
  try dsimp only
  repeat' first
    | with_reducible assumption
    | with_reducible refine Runs.next ?_
    | with_reducible refine Goes.imgCmd (Foot.le_trans (by decide +kernel) hF) ?_ ?_
    | with_reducible refine Goes.swapFw (Foot.le_trans (by decide +kernel) hF) ?_
    | with_reducible refine Goes.foldl ?_ ?_
    | split
    | intro _

/-- What `State.programKey` may change. -/
def fp_programKey : Foot := ⟨[.tags, .imgOp, .mgmt, .power, .outbox], some [0x20006, 0x20007]⟩
theorem Goes.programKey {s : State} {slot : Nat} (hF : fp_programKey.le F = true) (hgo : Goes F s0 s) :
     Goes F s0 (State.programKey s slot) := by
  unfold State.programKey
  try dsimp only
  repeat' first
    | with_reducible assumption
    | with_reducible refine Goes.imgRead (Foot.le_trans (by decide +kernel) hF) ?_
    | with_reducible refine Goes.on (List.mem_singleton.2 (fieldName_IMG_STATUS_CMD_BUSY)) (known_IMG_STATUS_CMD_BUSY).agrees (Foot.le_trans (by decide +kernel) hF) ?_
    | with_reducible refine Goes.on (List.mem_singleton.2 (fieldName_IMG_STATUS_CMD_RESULT)) (known_IMG_STATUS_CMD_RESULT).agrees (Foot.le_trans (by decide +kernel) hF) ?_
    | with_reducible refine Goes.wr (List.mem_singleton.2 (fieldName_IMG_STATUS_CMD_BUSY)) (known_IMG_STATUS_CMD_BUSY).agrees (Foot.le_trans (by decide +kernel) hF) ?_
    | with_reducible refine Goes.wr (List.mem_singleton.2 (fieldName_IMG_STATUS_CMD_RESULT)) (known_IMG_STATUS_CMD_RESULT).agrees (Foot.le_trans (by decide +kernel) hF) ?_
    | with_reducible refine Goes.setImgOp (Foot.le_trans (by decide +kernel) hF) ?_
    | with_reducible refine Goes.foldl ?_ ?_
    | split
    | intro _

/-- What `execProgramKey` may change. -/
def fp_execProgramKey : Foot := ⟨[.tags, .imgOp, .mgmt, .tim, .power, .now, .count, .replicas, .outbox, .freeCtr],
  some [0x8009D, 0x8009C, 0x8009F, 0x20006, 0x20007, 0x6001A, 0x6001C, 0x6000F, 0x60010, 0x60284, 0x60290, 0x60285,
  0x60282, 0x60280, 0x60283, 0x60288, 0x60281, 0x6030E, 0x60300]⟩
theorem goes_execProgramKey {slot : Fin 4} {s : State} (hF : fp_execProgramKey.le F = true) (hgo : Goes F s0 s) :
     Runs F s0 (execProgramKey slot s) := by
  unfold execProgramKey
  try dsimp only
  repeat' first
    | with_reducible assumption
    | with_reducible refine Runs.next ?_
    | with_reducible refine Goes.imgCmd (Foot.le_trans (by decide +kernel) hF) ?_ ?_
    | with_reducible refine Goes.programKey (Foot.le_trans (by decide +kernel) hF) ?_
    | with_reducible refine Goes.foldl ?_ ?_
    | split
    | intro _

/-- What `State.revokeKey` may change. -/
def fp_revokeKey : Foot := ⟨[.fuses], some [0x20200, 0x2000F, 0x20007]⟩
theorem Goes.revokeKey {s : State} {slot : Nat} (hF : fp_revokeKey.le F = true) (hgo : Goes F s0 s) :
     Goes F s0 (State.revokeKey s slot) := by
  unfold State.revokeKey
  split
  · refine Goes.wr (List.mem_singleton.2 fieldName_IMG_STATUS_CMD_RESULT) known_IMG_STATUS_CMD_RESULT.agrees (Foot.le_trans (by decide +kernel) hF)
      (Goes.showFuses (Foot.le_trans (by decide +kernel) hF)
        (Goes.setFuses (Foot.le_trans (by decide +kernel) hF) (fun _ w => w.fuses) ⟨Nat.le_refl _, fun _ h => ?_⟩ hgo))
    show _ ∈ (if _ then _ else _)
    split
    · exact h
    · exact List.mem_append_left _ h
  · exact Goes.wr (List.mem_singleton.2 fieldName_IMG_STATUS_CMD_RESULT) known_IMG_STATUS_CMD_RESULT.agrees (Foot.le_trans (by decide +kernel) hF) hgo

/-- What `execRevokeKey` may change. -/
def fp_execRevokeKey : Foot := ⟨[.fuses, .tim, .power, .now, .count, .replicas, .freeCtr], some [0x8009D, 0x8009C,
  0x8009F, 0x20200, 0x2000F, 0x20007, 0x6001A, 0x6001C, 0x6000F, 0x60010, 0x60284, 0x60290, 0x60285, 0x60282, 0x60280,
  0x60283, 0x60288, 0x60281, 0x6030E, 0x60300]⟩
theorem goes_execRevokeKey {slot : Fin 4} {s : State} (hF : fp_execRevokeKey.le F = true) (hgo : Goes F s0 s) :
     Runs F s0 (execRevokeKey slot s) := by
  unfold execRevokeKey
  try dsimp only
  repeat' first
    | with_reducible assumption
    | with_reducible refine Runs.next ?_
    | with_reducible refine Goes.imgCmd (Foot.le_trans (by decide +kernel) hF) ?_ ?_
    | with_reducible refine Goes.revokeKey (Foot.le_trans (by decide +kernel) hF) ?_
    | with_reducible refine Goes.foldl ?_ ?_
    | split
    | intro _

end Sys2Proof.Machine
end

