-- ==== Sys2Proof/Laws/OnTxn.lean ====
section
/-! SUPPORT. What each operation of `Machine/Txn.lean` may change: one lemma for each. -/

set_option linter.all false
set_option Elab.async false

namespace Sys2Proof.Machine

variable {F : Foot} {s0 : State}

/-- What `State.txnCmd` may change. -/
def fp_txnCmd : Foot := ⟨[.txn, .tim, .power, .now, .count, .replicas, .freeCtr], some [0x8009D, 0x8009C, 0x8009F,
  0x6001A, 0x6001C, 0x6000F, 0x60010, 0x60284, 0x60290, 0x60285, 0x60282, 0x60280, 0x60283, 0x60288, 0x60281, 0x6030E,
  0x60300]⟩
theorem Goes.txnCmd {s : State} {act : State → State} (hF : fp_txnCmd.le F = true) (hact : ∀ t, Goes F s0 t → Goes F s0 (act t)) (hgo : Goes F s0 s) :
     Goes F s0 (State.txnCmd s act) := by
  unfold State.txnCmd
  try dsimp only
  repeat' first
    | with_reducible assumption
    | with_reducible refine hact _ ?_
    | with_reducible refine Goes.upX (Foot.le_trans (by decide +kernel) hF) (fun _ h => h) ?_
    | with_reducible refine Goes.upX (Foot.le_trans (by decide +kernel) hF) ?_ ?_
    | with_reducible refine Goes.hostCmd (Foot.le_trans (by decide +kernel) hF) ?_ ?_
    | with_reducible refine Goes.foldl ?_ ?_
    | exact fun _ h => ⟨Tab.wf_set h.1 _ _, h.2⟩
    | exact fun _ h => ⟨h.1, Tab.wf_set h.2.1 _ _, h.2.2⟩
    | exact fun _ _ => Txn.wf_new
    | split
    | intro _

/-- What `State.txnBegin` may change. -/
def fp_txnBegin : Foot := ⟨[.txn], some [0x40090, 0x4009C]⟩
theorem Goes.txnBegin {s : State} (hF : fp_txnBegin.le F = true) (hgo : Goes F s0 s) :
     Goes F s0 (State.txnBegin s) := by
  unfold State.txnBegin
  try dsimp only
  repeat' first
    | with_reducible assumption
    | with_reducible refine Goes.upX (Foot.le_trans (by decide +kernel) hF) (fun _ h => h) ?_
    | with_reducible refine Goes.upX (Foot.le_trans (by decide +kernel) hF) ?_ ?_
    | with_reducible refine Goes.wr (List.mem_singleton.2 (fieldName_TXN_STATUS_ID)) (known_TXN_STATUS_ID).agrees (Foot.le_trans (by decide +kernel) hF) ?_
    | with_reducible refine Goes.wr (List.mem_singleton.2 (fieldName_TXN_STATUS_STATE)) (known_TXN_STATUS_STATE).agrees (Foot.le_trans (by decide +kernel) hF) ?_
    | with_reducible refine Goes.wrapUp (List.mem_singleton.2 (fieldName_TXN_STATUS_ID)) (known_TXN_STATUS_ID).agrees (Foot.le_trans (by decide +kernel) hF) ?_
    | with_reducible refine Goes.wrapUp (List.mem_singleton.2 (fieldName_TXN_STATUS_STATE)) (known_TXN_STATUS_STATE).agrees (Foot.le_trans (by decide +kernel) hF) ?_
    | with_reducible refine Goes.foldl ?_ ?_
    | exact fun _ h => ⟨Tab.wf_set h.1 _ _, h.2⟩
    | exact fun _ h => ⟨h.1, Tab.wf_set h.2.1 _ _, h.2.2⟩
    | exact fun _ _ => Txn.wf_new
    | split
    | intro _

/-- What `execTxnBegin` may change. -/
def fp_execTxnBegin : Foot := ⟨[.txn, .tim, .power, .now, .count, .replicas, .freeCtr], some [0x8009D, 0x8009C,
  0x8009F, 0x6001A, 0x6001C, 0x6000F, 0x60010, 0x60284, 0x60290, 0x60285, 0x60282, 0x60280, 0x60283, 0x60288, 0x60281,
  0x6030E, 0x60300, 0x40090, 0x4009C]⟩
theorem goes_execTxnBegin {s : State} (hF : fp_execTxnBegin.le F = true) (hgo : Goes F s0 s) :
     Runs F s0 (execTxnBegin s) := by
  unfold execTxnBegin
  try dsimp only
  repeat' first
    | with_reducible assumption
    | with_reducible refine Runs.next ?_
    | with_reducible refine Goes.txnBegin (Foot.le_trans (by decide +kernel) hF) ?_
    | with_reducible refine Goes.txnCmd (Foot.le_trans (by decide +kernel) hF) ?_ ?_
    | with_reducible refine Goes.foldl ?_ ?_
    | split
    | intro _

/-- What `State.txnCommit` may change. -/
def fp_txnCommit : Foot := ⟨[.power], some [0x100, 0x4009C, 0x40280]⟩
theorem Goes.txnCommit {s : State} (hF : fp_txnCommit.le F = true) (hgo : Goes F s0 s) :
     Goes F s0 (State.txnCommit s) := by
  unfold State.txnCommit
  try dsimp only
  repeat' first
    | with_reducible assumption
    | with_reducible refine Goes.wr (List.mem_singleton.2 (fieldName_TXN_STATUS_STATE)) (known_TXN_STATUS_STATE).agrees (Foot.le_trans (by decide +kernel) hF) ?_
    | with_reducible refine Goes.wr (List.mem_singleton.2 (fieldName_TXN_TIME_TIME _)) (known_TXN_TIME_TIME _).agrees (Foot.le_trans (by decide +kernel) hF) ?_
    | with_reducible refine Goes.each ?_ ?_
    | with_reducible refine Goes.wakeTile (Foot.le_trans (by decide +kernel) hF) ?_
    | with_reducible refine Goes.foldl ?_ ?_
    | split
    | intro _

/-- What `execCommit` may change. -/
def fp_execCommit : Foot := ⟨[.txn, .tim, .power, .now, .count, .replicas, .freeCtr], some [0x8009D, 0x8009C, 0x8009F,
  0x100, 0x6001A, 0x6001C, 0x6000F, 0x60010, 0x60284, 0x60290, 0x60285, 0x60282, 0x60280, 0x60283, 0x60288, 0x60281,
  0x6030E, 0x60300, 0x4009C, 0x40280]⟩
theorem goes_execCommit {s : State} (hF : fp_execCommit.le F = true) (hgo : Goes F s0 s) :
     Runs F s0 (execCommit s) := by
  unfold execCommit
  try dsimp only
  repeat' first
    | with_reducible assumption
    | with_reducible refine Runs.next ?_
    | with_reducible refine Goes.txnCommit (Foot.le_trans (by decide +kernel) hF) ?_
    | with_reducible refine Goes.txnCmd (Foot.le_trans (by decide +kernel) hF) ?_ ?_
    | with_reducible refine Goes.foldl ?_ ?_
    | split
    | intro _

/-- What `execRollback` may change. -/
def fp_execRollback : Foot := ⟨[.ports, .txn, .tim, .tiles, .power, .evq, .now, .count, .replicas, .freeCtr], some
  [0x8009D, 0x8009C, 0x8009F, 0x6001A, 0x60018, 0x6001C, 0x6000F, 0x60010, 0x60284, 0x60290, 0x60285, 0x60282, 0x60280,
  0x60283, 0x60288, 0x60281, 0x6030E, 0x60300, 0x40088, 0x40099, 0x40080, 0x4009C]⟩
theorem goes_execRollback {s : State} (hF : fp_execRollback.le F = true) (hgo : Goes F s0 s) :
     Runs F s0 (execRollback s) := by
  unfold execRollback
  try dsimp only
  repeat' first
    | with_reducible assumption
    | with_reducible refine Runs.next ?_
    | with_reducible refine Goes.rollTxn (Foot.le_trans (by decide +kernel) hF) ?_
    | with_reducible refine Goes.txnCmd (Foot.le_trans (by decide +kernel) hF) ?_ ?_
    | with_reducible refine Goes.foldl ?_ ?_
    | split
    | intro _

/-- What `execTxnValidationDone` may change. -/
def fp_execTxnValidationDone : Foot := ⟨[.ports, .txn, .tiles, .power, .evq], some [0x4200010, 0x4200008, 0x2000084,
  0x2000080, 0x200001C, 0x2000800, 0x2000C19, 0x6001A, 0x60018, 0x6000F, 0x60010, 0x40088, 0x40099, 0x40080, 0x4009C]⟩
theorem goes_execTxnValidationDone {s : State} (hF : fp_execTxnValidationDone.le F = true) (hgo : Goes F s0 s) :
     Runs F s0 (execTxnValidationDone s) := by
  unfold execTxnValidationDone
  refine Runs.next ?_
  split
  · exact hgo
  · dsimp only
    split
    · exact Goes.endTxn (Foot.le_trans (by decide +kernel) hF) hgo
    · have h0 : Goes F s0 (s.wr TXN_STATUS.STATE xSCHEDULED) :=
        Goes.wr (List.mem_singleton.2 fieldName_TXN_STATUS_STATE) known_TXN_STATUS_STATE.agrees (Foot.le_trans (by decide +kernel) hF) hgo
      have h1 : ∀ f : Txn → Txn, (s0.wf → ∀ m, m.wf → (f m).wf) → Goes F s0 ((s.wr TXN_STATUS.STATE xSCHEDULED).upX f) :=
        fun f h => Goes.set_txn (Foot.le_trans (by decide +kernel) hF) (fun w w1 => h w _ w1.txn) h0
      have h2 : ∀ new : State, s0.wf → ∀ d ∈ s.changesTo new (s.txn.shadow.entries.map (fun e => e.2.1) ++ clampCells s.scopePorts),
          d.cell.agrees := fun new w => changesTo_agrees (fun c hc => by
        rcases List.mem_append.1 hc with hc | hc
        · obtain ⟨e, he, rfl⟩ := List.mem_map.1 hc
          exact (hgo.wf w).txn.2.2.2.1 e he
        · exact clampCells_agrees _ c hc)
      split
      · exact Goes.askLevel (Foot.le_trans (by decide +kernel) hF)
          (h1 _ (fun w m h => ⟨h.1, h.2.1, Tab.wf_map h.2.1 _, h.2.2.2.1, h2 _ w⟩))
      · exact h1 _ (fun w m h => ⟨h.1, h.2.1, Tab.wf_map h.2.1 _, h.2.2.2.1, h2 _ w⟩)

/-- What `State.startApply` may change. -/
def fp_startApply : Foot := ⟨[.halves, .sides, .ports, .bct, .engines, .rings, .txn, .winnows, .tim, .tiles, .power,
  .evq], none⟩
theorem Goes.startApply {s : State} {ports : List Nat} (hF : fp_startApply.le F = true) (hgo : Goes F s0 s) :
     Goes F s0 (State.startApply s ports) := by
  unfold State.startApply
  try dsimp only
  repeat' first
    | with_reducible assumption
    | with_reducible refine Goes.settleDclk (Foot.le_trans (by decide +kernel) hF) ?_
    | with_reducible refine Goes.markPort (Foot.le_trans (by decide +kernel) hF) ?_
    | with_reducible refine Goes.each ?_ ?_
    | with_reducible refine Goes.reached (Foot.le_trans (by decide +kernel) hF) ?_
    | with_reducible refine Goes.failTxn (Foot.le_trans (by decide +kernel) hF) ?_
    | with_reducible refine Goes.awaitPort (Foot.le_trans (by decide +kernel) hF) ?_
    | with_reducible refine Goes.endTxn (Foot.le_trans (by decide +kernel) hF) ?_
    | with_reducible refine Goes.foldl ?_ ?_
    | split
    | intro _

/-- What `execTxnCommitTime` may change. -/
def fp_execTxnCommitTime : Foot := ⟨[.halves, .sides, .ports, .bct, .engines, .rings, .txn, .winnows, .tim, .tiles,
  .power, .evq, .now, .count, .replicas, .elapsed], none⟩
theorem goes_execTxnCommitTime {s : State} (hF : fp_execTxnCommitTime.le F = true) (hgo : Goes F s0 s) :
     Runs F s0 (execTxnCommitTime s) := by
  unfold execTxnCommitTime
  try dsimp only
  repeat' first
    | with_reducible assumption
    | with_reducible refine Runs.next ?_
    | with_reducible refine Goes.upX (Foot.le_trans (by decide +kernel) hF) (fun _ h => h) ?_
    | with_reducible refine Goes.upX (Foot.le_trans (by decide +kernel) hF) ?_ ?_
    | with_reducible refine Goes.putGlobals (Foot.le_trans (by decide +kernel) hF) ?_
    | with_reducible refine Goes.startApply (Foot.le_trans (by decide +kernel) hF) ?_
    | with_reducible refine Goes.wr (List.mem_singleton.2 (fieldName_TXN_STATUS_STATE)) (known_TXN_STATUS_STATE).agrees (Foot.le_trans (by decide +kernel) hF) ?_
    | with_reducible refine Goes.fabricTo (Foot.le_trans (by decide +kernel) hF) ?_
    | with_reducible refine Goes.foldl ?_ ?_
    | exact fun _ h => ⟨Tab.wf_set h.1 _ _, h.2⟩
    | exact fun _ h => ⟨h.1, Tab.wf_set h.2.1 _ _, h.2.2⟩
    | exact fun _ _ => Txn.wf_new
    | split
    | intro _

/-- What `State.applyCal` may change. -/
def fp_applyCal : Foot := ⟨[.halves, .engines], some [0x220008]⟩
theorem Goes.applyCal {s : State} {h : Nat} (hF : fp_applyCal.le F = true) (hgo : Goes F s0 s) :
     Goes F s0 (State.applyCal s h) := by
  unfold State.applyCal
  try dsimp only
  repeat' first
    | with_reducible assumption
    | with_reducible refine Goes.upH (Foot.le_trans (by decide +kernel) hF) (fun _ h => h) ?_
    | with_reducible refine Goes.upH (Foot.le_trans (by decide +kernel) hF) ?_ ?_
    | with_reducible refine Goes.upE (Foot.le_trans (by decide +kernel) hF) ?_
    | with_reducible refine Goes.disturb (Foot.le_trans (by decide +kernel) hF) ?_
    | with_reducible refine Goes.applySet (Foot.le_trans (by decide +kernel) hF) ?_
    | with_reducible refine Goes.foldl ?_ ?_
    | exact fun _ h => h
    | exact fun _ h => by dsimp only; (repeat' split) <;> exact h
    | split
    | intro _

/-- What `execApplyPoint` may change. -/
def fp_execApplyPoint : Foot := ⟨[.halves, .sides, .ports, .engines, .rings, .txn, .winnows, .tim, .tiles, .power,
  .evq, .outbox], none⟩
theorem goes_execApplyPoint {edge : StreamEdge} {s : State} (hF : fp_execApplyPoint.le F = true) (hgo : Goes F s0 s) :
     Runs F s0 (execApplyPoint edge s) := by
  unfold execApplyPoint
  try dsimp only
  repeat' first
    | with_reducible assumption
    | with_reducible refine Runs.next ?_
    | with_reducible refine Goes.markDirection (Foot.le_trans (by decide +kernel) hF) ?_
    | with_reducible refine Goes.applyDirection (Foot.le_trans (by decide +kernel) hF) ?_
    | with_reducible refine Goes.applyCal (Foot.le_trans (by decide +kernel) hF) ?_
    | with_reducible refine Goes.doSwitch (Foot.le_trans (by decide +kernel) hF) ?_
    | with_reducible refine Goes.foldl ?_ ?_
    | split
    | intro _

/-- What `State.forceBack` may change. -/
def fp_forceBack : Foot := ⟨[.halves, .sides, .ports, .engines, .rings, .txn, .winnows, .tiles, .power, .evq], none⟩
theorem Goes.forceBack {s : State} {p : Nat} (hF : fp_forceBack.le F = true) (hgo : Goes F s0 s) :
     Goes F s0 (State.forceBack s p) := by
  unfold State.forceBack
  try dsimp only
  repeat' first
    | with_reducible assumption
    | with_reducible refine Goes.upX (Foot.le_trans (by decide +kernel) hF) (fun _ h => h) ?_
    | with_reducible refine Goes.upX (Foot.le_trans (by decide +kernel) hF) ?_ ?_
    | with_reducible refine Goes.each ?_ ?_
    | with_reducible refine Goes.reached (Foot.le_trans (by decide +kernel) hF) ?_
    | with_reducible refine Goes.stopForwarding (Foot.le_trans (by decide +kernel) hF) ?_
    | with_reducible refine Goes.forgetPort (Foot.le_trans (by decide +kernel) hF) ?_
    | with_reducible refine Goes.foldl ?_ ?_
    | exact fun _ h => ⟨Tab.wf_set h.1 _ _, h.2⟩
    | exact fun _ h => ⟨h.1, Tab.wf_set h.2.1 _ _, h.2.2⟩
    | exact fun _ _ => Txn.wf_new
    | split
    | intro _

/-- What `execApplyPointTimeout` may change. -/
def fp_execApplyPointTimeout : Foot := ⟨[.halves, .sides, .ports, .bct, .engines, .rings, .txn, .winnows, .tim,
  .tiles, .power, .evq, .now, .count, .replicas, .elapsed], none⟩
theorem goes_execApplyPointTimeout {p : PortId} {s : State} (hF : fp_execApplyPointTimeout.le F = true) (hgo : Goes F s0 s) :
     Runs F s0 (execApplyPointTimeout p s) := by
  unfold execApplyPointTimeout
  try dsimp only
  repeat' first
    | with_reducible assumption
    | with_reducible refine Runs.next ?_
    | with_reducible refine Goes.advanceTo (Foot.le_trans (by decide +kernel) hF) ?_
    | with_reducible refine Goes.fabricTo (Foot.le_trans (by decide +kernel) hF) ?_
    | with_reducible refine Goes.forceBack (Foot.le_trans (by decide +kernel) hF) ?_
    | with_reducible refine Goes.failTxn (Foot.le_trans (by decide +kernel) hF) ?_
    | with_reducible refine Goes.foldl ?_ ?_
    | split
    | intro _

/-- What `execTxnApplyFail` may change. -/
def fp_execTxnApplyFail : Foot := ⟨[.halves, .sides, .ports, .bct, .engines, .rings, .txn, .winnows, .tim, .tiles,
  .power, .evq, .now, .count, .replicas, .elapsed], none⟩
theorem goes_execTxnApplyFail {cause : ApplyFailCause} {s : State} (hF : fp_execTxnApplyFail.le F = true) (hgo : Goes F s0 s) :
     Runs F s0 (execTxnApplyFail cause s) := by
  unfold execTxnApplyFail
  try dsimp only
  repeat' first
    | with_reducible assumption
    | with_reducible refine Runs.next ?_
    | with_reducible refine Goes.fabricTo (Foot.le_trans (by decide +kernel) hF) ?_
    | with_reducible refine Goes.failTxn (Foot.le_trans (by decide +kernel) hF) ?_
    | with_reducible refine Goes.foldl ?_ ?_
    | split
    | intro _

/-- What `execTxnRollbackDone` may change. -/
def fp_execTxnRollbackDone : Foot := ⟨[.ports, .txn, .tiles, .power, .evq], some [0x6001A, 0x60018, 0x6000F, 0x60010,
  0x40088, 0x40099, 0x40080, 0x4009C]⟩
theorem goes_execTxnRollbackDone {s : State} (hF : fp_execTxnRollbackDone.le F = true) (hgo : Goes F s0 s) :
     Runs F s0 (execTxnRollbackDone s) := by
  unfold execTxnRollbackDone
  try dsimp only
  repeat' first
    | with_reducible assumption
    | with_reducible refine Runs.next ?_
    | with_reducible refine Goes.endTxn (Foot.le_trans (by decide +kernel) hF) ?_
    | with_reducible refine Goes.foldl ?_ ?_
    | split
    | intro _

/-- What `execAbandoned` may change. -/
def fp_execAbandoned : Foot := ⟨[.ports, .txn, .tim, .tiles, .power, .evq, .now, .count, .replicas, .elapsed], some
  [0x6001A, 0x60018, 0x6000F, 0x60010, 0xC021B, 0xC0280, 0x40088, 0x40099, 0x40080, 0x4009C]⟩
theorem goes_execAbandoned {s : State} (hF : fp_execAbandoned.le F = true) (hgo : Goes F s0 s) :
     Runs F s0 (execAbandoned s) := by
  unfold execAbandoned
  try dsimp only
  repeat' first
    | with_reducible assumption
    | with_reducible refine Runs.next ?_
    | with_reducible refine Goes.advanceTo (Foot.le_trans (by decide +kernel) hF) ?_
    | with_reducible refine Goes.rollTxn (Foot.le_trans (by decide +kernel) hF) ?_
    | with_reducible refine Goes.foldl ?_ ?_
    | split
    | intro _

/-- What `State.stageBct` may change. -/
def fp_stageBct : Foot := ⟨[.txn], some [0x40098]⟩
theorem Goes.stageBct {s : State} {hi : Nat} (hF : fp_stageBct.le F = true) (hgo : Goes F s0 s) :
     Goes F s0 (State.stageBct s hi) := by
  unfold State.stageBct
  try dsimp only
  repeat' first
    | with_reducible assumption
    | with_reducible refine Goes.upX (Foot.le_trans (by decide +kernel) hF) (fun _ h => h) ?_
    | with_reducible refine Goes.upX (Foot.le_trans (by decide +kernel) hF) ?_ ?_
    | with_reducible refine Goes.on (List.mem_singleton.2 (fieldName_TXN_STATUS_STRAY)) (known_TXN_STATUS_STRAY).agrees (Foot.le_trans (by decide +kernel) hF) ?_
    | with_reducible refine Goes.stageEntry (Foot.le_trans (by decide +kernel) hF) ?_
    | with_reducible refine Goes.foldl ?_ ?_
    | exact fun _ h => ⟨Tab.wf_set h.1 _ _, h.2⟩
    | exact fun _ h => ⟨h.1, Tab.wf_set h.2.1 _ _, h.2.2⟩
    | exact fun _ _ => Txn.wf_new
    | split
    | intro _

/-- What `execBctStage` may change. -/
def fp_execBctStage : Foot := ⟨[.txn], some [0x40098]⟩
theorem goes_execBctStage {hi : Nat} {s : State} (hF : fp_execBctStage.le F = true) (hgo : Goes F s0 s) :
     Runs F s0 (execBctStage hi s) := by
  unfold execBctStage
  try dsimp only
  repeat' first
    | with_reducible assumption
    | with_reducible refine Runs.next ?_
    | with_reducible refine Goes.on (List.mem_singleton.2 (fieldName_TXN_STATUS_STRAY)) (known_TXN_STATUS_STRAY).agrees (Foot.le_trans (by decide +kernel) hF) ?_
    | with_reducible refine Goes.stageBct (Foot.le_trans (by decide +kernel) hF) ?_
    | with_reducible refine Goes.foldl ?_ ?_
    | split
    | intro _

end Sys2Proof.Machine
end

