-- ==== Sys2Proof/Laws/OnPower.lean ====
section
/-! SUPPORT. What each operation of `Machine/Power.lean` may change: one lemma for each. -/

set_option linter.all false
set_option Elab.async false

namespace Sys2Proof.Machine

variable {F : Foot} {s0 : State}

/-- What `execTileWakeRequest` may change. -/
def fp_execTileWakeRequest : Foot := ⟨[.halves, .sides, .ports, .engines, .mgmt, .tim, .tiles, .power, .evq, .now,
  .count, .replicas, .outbox, .freeCtr], none⟩
theorem goes_execTileWakeRequest {t : TileId} {cause : WakeCause} {s : State} (hF : fp_execTileWakeRequest.le F = true) (hgo : Goes F s0 s) :
     Runs F s0 (execTileWakeRequest t cause s) := by
  unfold execTileWakeRequest
  try dsimp only
  repeat' first
    | with_reducible assumption
    | with_reducible refine Runs.next ?_
    | with_reducible refine Goes.tileAccess (Foot.le_trans (by decide +kernel) hF) ?_
    | with_reducible refine Goes.wakeDevice (Foot.le_trans (by decide +kernel) hF) ?_
    | with_reducible refine Goes.hostWrite (Foot.le_trans (by decide +kernel) hF) ?_ ?_
    | with_reducible refine Goes.wakeOnDemand (Foot.le_trans (by decide +kernel) hF) ?_
    | with_reducible refine Goes.sigdetWake (Foot.le_trans (by decide +kernel) hF) ?_
    | with_reducible refine Goes.wakeTile (Foot.le_trans (by decide +kernel) hF) ?_
    | with_reducible refine Goes.foldl ?_ ?_
    | split
    | intro _

/-- What `execTileRampStart` may change. -/
def fp_execTileRampStart : Foot := ⟨[.power], some []⟩
theorem goes_execTileRampStart {s : State} (hF : fp_execTileRampStart.le F = true) (hgo : Goes F s0 s) :
     Runs F s0 (execTileRampStart s) := by
  unfold execTileRampStart
  try dsimp only
  repeat' first
    | with_reducible assumption
    | with_reducible refine Runs.next ?_
    | with_reducible refine Goes.upPw (Foot.le_trans (by decide +kernel) hF) ?_
    | with_reducible refine Goes.foldl ?_ ?_
    | split
    | intro _

/-- What `execTileRampDone` may change. -/
def fp_execTileRampDone : Foot := ⟨[.tiles, .power], some []⟩
theorem goes_execTileRampDone {t : TileId} {s : State} (hF : fp_execTileRampDone.le F = true) (hgo : Goes F s0 s) :
     Runs F s0 (execTileRampDone t s) := by
  unfold execTileRampDone
  try dsimp only
  repeat' first
    | with_reducible assumption
    | with_reducible refine Runs.next ?_
    | with_reducible refine Goes.upPw (Foot.le_trans (by decide +kernel) hF) ?_
    | with_reducible refine Goes.upT (Foot.le_trans (by decide +kernel) hF) ?_
    | with_reducible refine Goes.foldl ?_ ?_
    | split
    | intro _

/-- What `execTileRestoreDone` may change. -/
def fp_execTileRestoreDone : Foot := ⟨[.halves, .sides, .ports, .engines, .rings, .txn, .winnows, .tiles, .power,
  .evq, .replicas], none⟩
theorem goes_execTileRestoreDone {t : TileId} {s : State} (hF : fp_execTileRestoreDone.le F = true) (hgo : Goes F s0 s) :
     Runs F s0 (execTileRestoreDone t s) := by
  unfold execTileRestoreDone
  try dsimp only
  repeat' first
    | with_reducible assumption
    | with_reducible refine Runs.next ?_
    | with_reducible refine Goes.upT (Foot.le_trans (by decide +kernel) hF) ?_
    | with_reducible refine Goes.tileEnters (Foot.le_trans (by decide +kernel) hF) ?_
    | with_reducible refine Goes.foldl ?_ ?_
    | split
    | intro _

/-- What `State.downPort` may change. -/
def fp_downPort : Foot := ⟨[.halves, .sides, .ports, .engines, .tiles, .evq], some [0x220018, 0x220010, 0x200100,
  0x40800F, 0x408008, 0x40800A, 0x408000, 0x40800C, 0xE0390, 0xE0380, 0xE0388, 0xE0210, 0xE0200, 0xE021E, 0xE0208,
  0xE021F, 0xE0280, 0xE0100, 0xE0001, 0x4000418, 0x4000294, 0x4000280, 0x400029D, 0x400029E, 0x4000290, 0x400050E,
  0x400051C, 0x4000513, 0x4000486, 0x4000480, 0x4000487, 0x4000398, 0x400038C, 0x4000392, 0x4000386, 0x4000380,
  0x400039E, 0x2000104, 0x200010C, 0x2000100, 0x2000108, 0x200011F, 0x200090A, 0x200091C, 0x2000D05, 0x2000D06,
  0x2000D10, 0x2000D00, 0x2000D1C, 0x2000D08, 0x2000D18, 0x2000510, 0x2000508, 0x2000498, 0x200048B, 0x200049C,
  0x100097]⟩
theorem Goes.downPort {s : State} {p : Nat} (hF : fp_downPort.le F = true) (hgo : Goes F s0 s) :
     Goes F s0 (State.downPort s p) := by
  unfold State.downPort
  try dsimp only
  repeat' first
    | with_reducible assumption
    | with_reducible refine Goes.upH (Foot.le_trans (by decide +kernel) hF) (fun _ h => h) ?_
    | with_reducible refine Goes.upH (Foot.le_trans (by decide +kernel) hF) ?_ ?_
    | with_reducible refine Goes.rxLeaves (Foot.le_trans (by decide +kernel) hF) ?_
    | with_reducible refine Goes.each ?_ ?_
    | with_reducible refine Goes.enterDown (Foot.le_trans (by decide +kernel) hF) ?_
    | with_reducible refine Goes.releaseRx (Foot.le_trans (by decide +kernel) hF) ?_
    | with_reducible refine Goes.setTx (Foot.le_trans (by decide +kernel) hF) ?_
    | with_reducible refine Goes.toSDown (Foot.le_trans (by decide +kernel) hF) ?_
    | with_reducible refine Goes.foldl ?_ ?_
    | exact fun _ h => h
    | exact fun _ h => by dsimp only; (repeat' split) <;> exact h
    | split
    | intro _

/-- What `State.engineOff` may change. -/
def fp_engineOff : Foot := ⟨[.engines], some [0x40801C]⟩
theorem Goes.engineOff {s : State} {k : Nat} (hF : fp_engineOff.le F = true) (hgo : Goes F s0 s) :
     Goes F s0 (State.engineOff s k) := by
  unfold State.engineOff
  try dsimp only
  repeat' first
    | with_reducible assumption
    | with_reducible refine Goes.wr (List.mem_singleton.2 (fieldName_ENG_STATUS_STATE _)) (known_ENG_STATUS_STATE _).agrees (Foot.le_trans (by decide +kernel) hF) ?_
    | with_reducible refine Goes.upE (Foot.le_trans (by decide +kernel) hF) ?_
    | with_reducible refine Goes.foldl ?_ ?_
    | split
    | intro _

/-- What `execTileIdleExpiry` may change. -/
def fp_execTileIdleExpiry : Foot := ⟨[.halves, .sides, .ports, .engines, .rings, .imgOp, .mgmt, .tim, .tiles, .power,
  .evq, .now, .count, .replicas, .elapsed, .outbox], some [0x220018, 0x220010, 0x200100, 0x20081F, 0x80000, 0x40C008,
  0x40800F, 0x408008, 0x40800A, 0x408000, 0x40800C, 0x40801C, 0xE0390, 0xE0380, 0xE0388, 0xE0210, 0xE0200, 0xE021E,
  0xE0208, 0xE021F, 0xE0280, 0xE0100, 0xE0001, 0x295, 0x100, 0x20006, 0x20007, 0x2001C, 0x4000418, 0x4000294, 0x4000280,
  0x400029D, 0x400029E, 0x4000290, 0x400050E, 0x400051C, 0x4000513, 0x4000486, 0x4000480, 0x4000487, 0x4000398,
  0x400038C, 0x4000392, 0x4000386, 0x4000380, 0x400039E, 0x2000104, 0x200010C, 0x2000100, 0x2000108, 0x200011F,
  0x200090A, 0x200091C, 0x2000D05, 0x2000D06, 0x2000D10, 0x2000D00, 0x2000D1C, 0x2000D08, 0x2000D18, 0x2000510,
  0x2000508, 0x2000498, 0x200048B, 0x200049C, 0x100097, 0xC021B, 0xC0280]⟩
theorem goes_execTileIdleExpiry {t : TileId} {s : State} (hF : fp_execTileIdleExpiry.le F = true) (hgo : Goes F s0 s) :
     Runs F s0 (execTileIdleExpiry t s) := by
  unfold execTileIdleExpiry
  try dsimp only
  repeat' first
    | with_reducible assumption
    | with_reducible refine Runs.next ?_
    | with_reducible refine Goes.advanceTo (Foot.le_trans (by decide +kernel) hF) ?_
    | with_reducible refine Goes.leavesOn (Foot.le_trans (by decide +kernel) hF) ?_
    | with_reducible refine Goes.upH (Foot.le_trans (by decide +kernel) hF) (fun _ h => h) ?_
    | with_reducible refine Goes.upH (Foot.le_trans (by decide +kernel) hF) ?_ ?_
    | with_reducible refine Goes.noted (Foot.le_trans (by decide +kernel) hF) ?_
    | with_reducible refine Goes.downPort (Foot.le_trans (by decide +kernel) hF) ?_
    | with_reducible refine Goes.showDclk (Foot.le_trans (by decide +kernel) hF) ?_
    | with_reducible refine Goes.each ?_ ?_
    | with_reducible refine Goes.engineOff (Foot.le_trans (by decide +kernel) hF) ?_
    | with_reducible refine Goes.setTx (Foot.le_trans (by decide +kernel) hF) ?_
    | with_reducible refine Goes.foldl ?_ ?_
    | exact fun _ h => h
    | exact fun _ h => by dsimp only; (repeat' split) <;> exact h
    | split
    | intro _

/-- What `execHalfLanePowerUp` may change. -/
def fp_execHalfLanePowerUp : Foot := ⟨[.halves, .tim, .power, .now, .count, .replicas, .elapsed], some [0xC021B,
  0xC0280]⟩
theorem goes_execHalfLanePowerUp {h : HalfId} {s : State} (hF : fp_execHalfLanePowerUp.le F = true) (hgo : Goes F s0 s) :
     Runs F s0 (execHalfLanePowerUp h s) := by
  unfold execHalfLanePowerUp
  try dsimp only
  repeat' first
    | with_reducible assumption
    | with_reducible refine Runs.next ?_
    | with_reducible refine Goes.advanceTo (Foot.le_trans (by decide +kernel) hF) ?_
    | with_reducible refine Goes.upH (Foot.le_trans (by decide +kernel) hF) (fun _ h => h) ?_
    | with_reducible refine Goes.upH (Foot.le_trans (by decide +kernel) hF) ?_ ?_
    | with_reducible refine Goes.upPw (Foot.le_trans (by decide +kernel) hF) ?_
    | with_reducible refine Goes.foldl ?_ ?_
    | exact fun _ h => h
    | exact fun _ h => by dsimp only; (repeat' split) <;> exact h
    | split
    | intro _

/-- What `execRefclkLost` may change. -/
def fp_execRefclkLost : Foot := ⟨[.halves, .sides, .ports, .bct, .engines, .rings, .tags, .imgOp, .txn, .mgmt,
  .winnows, .tim, .tiles, .power, .evq, .replicas, .outbox], none⟩
theorem goes_execRefclkLost {s : State} (hF : fp_execRefclkLost.le F = true) (hgo : Goes F s0 s) :
     Runs F s0 (execRefclkLost s) := by
  unfold execRefclkLost
  try dsimp only
  repeat' first
    | with_reducible assumption
    | with_reducible refine Runs.next ?_
    | with_reducible refine Goes.satUp (List.mem_singleton.2 (fieldName_CLK_STATUS_CORE_SRC)) (known_CLK_STATUS_CORE_SRC).agrees (Foot.le_trans (by decide +kernel) hF) ?_
    | with_reducible refine Goes.satUp (List.mem_singleton.2 (fieldName_CLK_STATUS_LOSS_CNT)) (known_CLK_STATUS_LOSS_CNT).agrees (Foot.le_trans (by decide +kernel) hF) ?_
    | with_reducible refine Goes.satUp (List.mem_singleton.2 (fieldName_CLK_STATUS_MCLK_SRC)) (known_CLK_STATUS_MCLK_SRC).agrees (Foot.le_trans (by decide +kernel) hF) ?_
    | with_reducible refine Goes.satUp (List.mem_singleton.2 (fieldName_CLK_STATUS_REFCLK_LOST)) (known_CLK_STATUS_REFCLK_LOST).agrees (Foot.le_trans (by decide +kernel) hF) ?_
    | with_reducible refine Goes.satUp (List.mem_singleton.2 (fieldName_CLK_STATUS_REFCLK_OK)) (known_CLK_STATUS_REFCLK_OK).agrees (Foot.le_trans (by decide +kernel) hF) ?_
    | with_reducible refine Goes.satUp (List.mem_singleton.2 (fieldName_CLK_STATUS_ROOT_LOCK)) (known_CLK_STATUS_ROOT_LOCK).agrees (Foot.le_trans (by decide +kernel) hF) ?_
    | with_reducible refine Goes.on (List.mem_singleton.2 (fieldName_CLK_STATUS_CORE_SRC)) (known_CLK_STATUS_CORE_SRC).agrees (Foot.le_trans (by decide +kernel) hF) ?_
    | with_reducible refine Goes.on (List.mem_singleton.2 (fieldName_CLK_STATUS_LOSS_CNT)) (known_CLK_STATUS_LOSS_CNT).agrees (Foot.le_trans (by decide +kernel) hF) ?_
    | with_reducible refine Goes.on (List.mem_singleton.2 (fieldName_CLK_STATUS_MCLK_SRC)) (known_CLK_STATUS_MCLK_SRC).agrees (Foot.le_trans (by decide +kernel) hF) ?_
    | with_reducible refine Goes.on (List.mem_singleton.2 (fieldName_CLK_STATUS_REFCLK_LOST)) (known_CLK_STATUS_REFCLK_LOST).agrees (Foot.le_trans (by decide +kernel) hF) ?_
    | with_reducible refine Goes.on (List.mem_singleton.2 (fieldName_CLK_STATUS_REFCLK_OK)) (known_CLK_STATUS_REFCLK_OK).agrees (Foot.le_trans (by decide +kernel) hF) ?_
    | with_reducible refine Goes.on (List.mem_singleton.2 (fieldName_CLK_STATUS_ROOT_LOCK)) (known_CLK_STATUS_ROOT_LOCK).agrees (Foot.le_trans (by decide +kernel) hF) ?_
    | with_reducible refine Goes.raiseDev (Foot.le_trans (by decide +kernel) hF) ?_
    | with_reducible refine Goes.each ?_ ?_
    | with_reducible refine Goes.resetTile (Foot.le_trans (by decide +kernel) hF) ?_
    | with_reducible refine Goes.off (List.mem_singleton.2 (fieldName_CLK_STATUS_CORE_SRC)) (known_CLK_STATUS_CORE_SRC).agrees (Foot.le_trans (by decide +kernel) hF) ?_
    | with_reducible refine Goes.off (List.mem_singleton.2 (fieldName_CLK_STATUS_LOSS_CNT)) (known_CLK_STATUS_LOSS_CNT).agrees (Foot.le_trans (by decide +kernel) hF) ?_
    | with_reducible refine Goes.off (List.mem_singleton.2 (fieldName_CLK_STATUS_MCLK_SRC)) (known_CLK_STATUS_MCLK_SRC).agrees (Foot.le_trans (by decide +kernel) hF) ?_
    | with_reducible refine Goes.off (List.mem_singleton.2 (fieldName_CLK_STATUS_REFCLK_LOST)) (known_CLK_STATUS_REFCLK_LOST).agrees (Foot.le_trans (by decide +kernel) hF) ?_
    | with_reducible refine Goes.off (List.mem_singleton.2 (fieldName_CLK_STATUS_REFCLK_OK)) (known_CLK_STATUS_REFCLK_OK).agrees (Foot.le_trans (by decide +kernel) hF) ?_
    | with_reducible refine Goes.off (List.mem_singleton.2 (fieldName_CLK_STATUS_ROOT_LOCK)) (known_CLK_STATUS_ROOT_LOCK).agrees (Foot.le_trans (by decide +kernel) hF) ?_
    | with_reducible refine Goes.foldl ?_ ?_
    | split
    | intro _

/-- What `execRefclkReturn` may change. -/
def fp_execRefclkReturn : Foot := ⟨[], some [0x8009E]⟩
theorem goes_execRefclkReturn {s : State} (hF : fp_execRefclkReturn.le F = true) (hgo : Goes F s0 s) :
     Runs F s0 (execRefclkReturn s) := by
  unfold execRefclkReturn
  try dsimp only
  repeat' first
    | with_reducible assumption
    | with_reducible refine Runs.next ?_
    | with_reducible refine Goes.on (List.mem_singleton.2 (fieldName_CLK_STATUS_REFCLK_OK)) (known_CLK_STATUS_REFCLK_OK).agrees (Foot.le_trans (by decide +kernel) hF) ?_
    | with_reducible refine Goes.foldl ?_ ?_
    | split
    | intro _

/-- What `execRootLock` may change. -/
def fp_execRootLock : Foot := ⟨[], some [0x8009D, 0x8009C, 0x8009F]⟩
theorem goes_execRootLock {s : State} (hF : fp_execRootLock.le F = true) (hgo : Goes F s0 s) :
     Runs F s0 (execRootLock s) := by
  unfold execRootLock
  try dsimp only
  repeat' first
    | with_reducible assumption
    | with_reducible refine Runs.next ?_
    | with_reducible refine Goes.on (List.mem_singleton.2 (fieldName_CLK_STATUS_CORE_SRC)) (known_CLK_STATUS_CORE_SRC).agrees (Foot.le_trans (by decide +kernel) hF) ?_
    | with_reducible refine Goes.on (List.mem_singleton.2 (fieldName_CLK_STATUS_MCLK_SRC)) (known_CLK_STATUS_MCLK_SRC).agrees (Foot.le_trans (by decide +kernel) hF) ?_
    | with_reducible refine Goes.on (List.mem_singleton.2 (fieldName_CLK_STATUS_ROOT_LOCK)) (known_CLK_STATUS_ROOT_LOCK).agrees (Foot.le_trans (by decide +kernel) hF) ?_
    | with_reducible refine Goes.foldl ?_ ?_
    | split
    | intro _

/-- What `execVidWaitExpiry` may change. -/
def fp_execVidWaitExpiry : Foot := ⟨[.tim, .power, .now, .count, .replicas, .elapsed], some [0x6001A, 0x6000F,
  0x60010, 0xC021B, 0xC0280]⟩
theorem goes_execVidWaitExpiry {s : State} (hF : fp_execVidWaitExpiry.le F = true) (hgo : Goes F s0 s) :
     Runs F s0 (execVidWaitExpiry s) := by
  unfold execVidWaitExpiry
  try dsimp only
  repeat' first
    | with_reducible assumption
    | with_reducible refine Runs.next ?_
    | with_reducible refine Goes.advanceTo (Foot.le_trans (by decide +kernel) hF) ?_
    | with_reducible refine Goes.upPw (Foot.le_trans (by decide +kernel) hF) ?_
    | with_reducible refine Goes.askLevel (Foot.le_trans (by decide +kernel) hF) ?_
    | with_reducible refine Goes.off (List.mem_singleton.2 (fieldName_PWR_STATUS_VID_BUSY)) (known_PWR_STATUS_VID_BUSY).agrees (Foot.le_trans (by decide +kernel) hF) ?_
    | with_reducible refine Goes.foldl ?_ ?_
    | split
    | intro _

/-- What `State.rested` may change. -/
def fp_rested : Foot := ⟨[.tim, .power, .now, .count, .replicas, .elapsed], some [0xC021B, 0xC0280]⟩
theorem Goes.rested {s : State} {us : Nat} (hF : fp_rested.le F = true) (hgo : Goes F s0 s) :
     Goes F s0 (State.rested s us) := by
  unfold State.rested
  try dsimp only
  repeat' first
    | with_reducible assumption
    | with_reducible refine Goes.advanceTo (Foot.le_trans (by decide +kernel) hF) ?_
    | with_reducible refine Goes.deviceQuiet (Foot.le_trans (by decide +kernel) hF) ?_
    | with_reducible refine Goes.foldl ?_ ?_
    | split
    | intro _

/-- What `execIdleEntry` may change. -/
def fp_execIdleEntry : Foot := ⟨[.tim, .power, .now, .count, .replicas, .elapsed], some [0x6001C, 0xC021B, 0xC0280]⟩
theorem goes_execIdleEntry {s : State} (hF : fp_execIdleEntry.le F = true) (hgo : Goes F s0 s) :
     Runs F s0 (execIdleEntry s) := by
  unfold execIdleEntry
  try dsimp only
  repeat' first
    | with_reducible assumption
    | with_reducible refine Runs.next ?_
    | with_reducible refine Goes.wr (List.mem_singleton.2 (fieldName_PWR_STATUS_STATE)) (known_PWR_STATUS_STATE).agrees (Foot.le_trans (by decide +kernel) hF) ?_
    | with_reducible refine Goes.rested (Foot.le_trans (by decide +kernel) hF) ?_
    | with_reducible refine Goes.foldl ?_ ?_
    | split
    | intro _

/-- What `State.edgeWait` may change. -/
def fp_edgeWait : Foot := ⟨[.freeCtr], some []⟩
theorem Goes.edgeWait {s : State} (hF : fp_edgeWait.le F = true) (hgo : Goes F s0 s) :
     Goes F s0 (State.edgeWait s).2 := by
  unfold State.edgeWait
  try dsimp only
  repeat' first
    | with_reducible assumption
    | with_reducible refine Goes.takeFree (Foot.le_trans (by decide +kernel) hF) ?_
    | with_reducible refine Goes.foldl ?_ ?_
    | split
    | intro _

/-- What `execSleepEntry` may change. -/
def fp_execSleepEntry : Foot := ⟨[.tim, .power, .now, .count, .replicas, .elapsed, .outbox, .freeCtr], some [0x8009D,
  0x8009C, 0x8009F, 0x6001C, 0x6000F, 0x60010, 0xC021B, 0xC0280]⟩
theorem goes_execSleepEntry {s : State} (hF : fp_execSleepEntry.le F = true) (hgo : Goes F s0 s) :
     Runs F s0 (execSleepEntry s) := by
  unfold execSleepEntry
  try dsimp only
  repeat' first
    | with_reducible assumption
    | with_reducible refine Runs.next ?_
    | with_reducible refine Goes.setNow (Foot.le_trans (by decide +kernel) hF) ?_
    | with_reducible refine Goes.upPw (Foot.le_trans (by decide +kernel) hF) ?_
    | with_reducible refine Goes.wr (List.mem_singleton.2 (fieldName_CLK_STATUS_CORE_SRC)) (known_CLK_STATUS_CORE_SRC).agrees (Foot.le_trans (by decide +kernel) hF) ?_
    | with_reducible refine Goes.wr (List.mem_singleton.2 (fieldName_CLK_STATUS_MCLK_SRC)) (known_CLK_STATUS_MCLK_SRC).agrees (Foot.le_trans (by decide +kernel) hF) ?_
    | with_reducible refine Goes.wr (List.mem_singleton.2 (fieldName_CLK_STATUS_ROOT_LOCK)) (known_CLK_STATUS_ROOT_LOCK).agrees (Foot.le_trans (by decide +kernel) hF) ?_
    | with_reducible refine Goes.wr (List.mem_singleton.2 (fieldName_PWR_STATUS_STATE)) (known_PWR_STATUS_STATE).agrees (Foot.le_trans (by decide +kernel) hF) ?_
    | with_reducible refine Goes.wr (List.mem_singleton.2 (fieldName_PWR_STATUS_VID_BUSY)) (known_PWR_STATUS_VID_BUSY).agrees (Foot.le_trans (by decide +kernel) hF) ?_
    | with_reducible refine Goes.wr (List.mem_singleton.2 (fieldName_PWR_STATUS_VID_CODE)) (known_PWR_STATUS_VID_CODE).agrees (Foot.le_trans (by decide +kernel) hF) ?_
    | with_reducible refine Goes.releaseTrig (Foot.le_trans (by decide +kernel) hF) ?_
    | with_reducible refine Goes.off (List.mem_singleton.2 (fieldName_CLK_STATUS_CORE_SRC)) (known_CLK_STATUS_CORE_SRC).agrees (Foot.le_trans (by decide +kernel) hF) ?_
    | with_reducible refine Goes.off (List.mem_singleton.2 (fieldName_CLK_STATUS_MCLK_SRC)) (known_CLK_STATUS_MCLK_SRC).agrees (Foot.le_trans (by decide +kernel) hF) ?_
    | with_reducible refine Goes.off (List.mem_singleton.2 (fieldName_CLK_STATUS_ROOT_LOCK)) (known_CLK_STATUS_ROOT_LOCK).agrees (Foot.le_trans (by decide +kernel) hF) ?_
    | with_reducible refine Goes.off (List.mem_singleton.2 (fieldName_PWR_STATUS_STATE)) (known_PWR_STATUS_STATE).agrees (Foot.le_trans (by decide +kernel) hF) ?_
    | with_reducible refine Goes.off (List.mem_singleton.2 (fieldName_PWR_STATUS_VID_BUSY)) (known_PWR_STATUS_VID_BUSY).agrees (Foot.le_trans (by decide +kernel) hF) ?_
    | with_reducible refine Goes.off (List.mem_singleton.2 (fieldName_PWR_STATUS_VID_CODE)) (known_PWR_STATUS_VID_CODE).agrees (Foot.le_trans (by decide +kernel) hF) ?_
    | with_reducible refine Goes.rested (Foot.le_trans (by decide +kernel) hF) ?_
    | with_reducible refine Goes.edgeWait (Foot.le_trans (by decide +kernel) hF) ?_
    | with_reducible refine Goes.upTim (Foot.le_trans (by decide +kernel) hF) (fun _ h => h) ?_
    | with_reducible refine Goes.upTim (Foot.le_trans (by decide +kernel) hF) ?_ ?_
    | with_reducible refine Goes.foldl ?_ ?_
    | exact fun _ h => Tab.wf_erase h _
    | exact fun _ h => Tab.wf_empty
    | exact fun _ h => Tab.wf_set h _ _
    | split
    | intro _

/-- What `execDeepEntry` may change. -/
def fp_execDeepEntry : Foot := ⟨[.tim, .power, .now, .count, .replicas, .elapsed, .outbox], some [0x6001C, 0x60010,
  0xC021B, 0xC0280]⟩
theorem goes_execDeepEntry {temp : Int} {s : State} (hF : fp_execDeepEntry.le F = true) (hgo : Goes F s0 s) :
     Runs F s0 (execDeepEntry temp s) := by
  unfold execDeepEntry
  try dsimp only
  repeat' first
    | with_reducible assumption
    | with_reducible refine Runs.next ?_
    | with_reducible refine Goes.upPw (Foot.le_trans (by decide +kernel) hF) ?_
    | with_reducible refine Goes.wr (List.mem_singleton.2 (fieldName_PWR_STATUS_STATE)) (known_PWR_STATUS_STATE).agrees (Foot.le_trans (by decide +kernel) hF) ?_
    | with_reducible refine Goes.wr (List.mem_singleton.2 (fieldName_PWR_STATUS_VID_CODE)) (known_PWR_STATUS_VID_CODE).agrees (Foot.le_trans (by decide +kernel) hF) ?_
    | with_reducible refine Goes.releaseTrig (Foot.le_trans (by decide +kernel) hF) ?_
    | with_reducible refine Goes.rested (Foot.le_trans (by decide +kernel) hF) ?_
    | with_reducible refine Goes.foldl ?_ ?_
    | split
    | intro _

/-- What `execOffEntry` may change. -/
def fp_execOffEntry : Foot := ⟨[.tim, .power, .now, .count, .replicas, .elapsed], some [0x6001C, 0xC021B, 0xC0280]⟩
theorem goes_execOffEntry {s : State} (hF : fp_execOffEntry.le F = true) (hgo : Goes F s0 s) :
     Runs F s0 (execOffEntry s) := by
  unfold execOffEntry
  try dsimp only
  repeat' first
    | with_reducible assumption
    | with_reducible refine Runs.next ?_
    | with_reducible refine Goes.upPw (Foot.le_trans (by decide +kernel) hF) ?_
    | with_reducible refine Goes.wr (List.mem_singleton.2 (fieldName_PWR_STATUS_STATE)) (known_PWR_STATUS_STATE).agrees (Foot.le_trans (by decide +kernel) hF) ?_
    | with_reducible refine Goes.rested (Foot.le_trans (by decide +kernel) hF) ?_
    | with_reducible refine Goes.foldl ?_ ?_
    | split
    | intro _

/-- What `State.sbBegin` may change. -/
def fp_sbBegin : Foot := ⟨[.power], some [0x100110]⟩
theorem Goes.sbBegin {s : State} (hF : fp_sbBegin.le F = true) (hgo : Goes F s0 s) :
     Goes F s0 (State.sbBegin s) := by
  unfold State.sbBegin
  try dsimp only
  repeat' first
    | with_reducible assumption
    | with_reducible refine Goes.upPw (Foot.le_trans (by decide +kernel) hF) ?_
    | with_reducible refine Goes.wrapUp (List.mem_singleton.2 (fieldName_SB_CNT_MESSAGES)) (known_SB_CNT_MESSAGES).agrees (Foot.le_trans (by decide +kernel) hF) ?_
    | with_reducible refine Goes.foldl ?_ ?_
    | split
    | intro _

/-- What `execSbAddressMatch` may change. -/
def fp_execSbAddressMatch : Foot := ⟨[.tim, .power, .now, .count, .replicas, .freeCtr], some [0x8009D, 0x8009C,
  0x8009F, 0x6001A, 0x6001C, 0x6000F, 0x60010, 0x60284, 0x60290, 0x60285, 0x60282, 0x60280, 0x60283, 0x60288, 0x60281,
  0x6030E, 0x60300, 0x100110]⟩
theorem goes_execSbAddressMatch {s : State} (hF : fp_execSbAddressMatch.le F = true) (hgo : Goes F s0 s) :
     Runs F s0 (execSbAddressMatch s) := by
  unfold execSbAddressMatch
  try dsimp only
  repeat' first
    | with_reducible assumption
    | with_reducible refine Runs.next ?_
    | with_reducible refine Goes.sbBegin (Foot.le_trans (by decide +kernel) hF) ?_
    | with_reducible refine Goes.wakeDevice (Foot.le_trans (by decide +kernel) hF) ?_
    | with_reducible refine Goes.foldl ?_ ?_
    | split
    | intro _

/-- What `execWakeIn` may change. -/
def fp_execWakeIn : Foot := ⟨[.halves, .sides, .ports, .era, .bct, .calTab, .engines, .slices, .rings, .tags,
  .calStore, .storeWait, .lastStore, .chip, .lastWritten, .imgOp, .txn, .mgmt, .winnows, .windows, .tim, .snap, .tiles,
  .power, .evq, .staged, .now, .count, .replicas, .freeCtr], none⟩
theorem goes_execWakeIn {s : State} (hF : fp_execWakeIn.le F = true) (hgo : Goes F s0 s) :
     Runs F s0 (execWakeIn s) := by
  unfold execWakeIn
  try dsimp only
  repeat' first
    | with_reducible assumption
    | with_reducible refine Runs.next ?_
    | with_reducible refine Goes.wr (List.mem_singleton.2 (fieldName_SB_STATUS_ALERT_PENDING)) (known_SB_STATUS_ALERT_PENDING).agrees (Foot.le_trans (by decide +kernel) hF) ?_
    | with_reducible refine Goes.wakeDevice (Foot.le_trans (by decide +kernel) hF) ?_
    | with_reducible refine Goes.recordWake (Foot.le_trans (by decide +kernel) hF) ?_
    | with_reducible refine Goes.pinReset (Foot.le_trans (by decide +kernel) hF) ?_
    | with_reducible refine Goes.foldl ?_ ?_
    | split
    | intro _

/-- What `execMgmtLinkWake` may change. -/
def fp_execMgmtLinkWake : Foot := ⟨[.tim, .power, .now, .count, .replicas, .freeCtr], some [0x8009D, 0x8009C, 0x8009F,
  0x6001A, 0x6001C, 0x6000F, 0x60010, 0x60284, 0x60290, 0x60285, 0x60282, 0x60280, 0x60283, 0x60288, 0x60281, 0x6030E,
  0x60300]⟩
theorem goes_execMgmtLinkWake {s : State} (hF : fp_execMgmtLinkWake.le F = true) (hgo : Goes F s0 s) :
     Runs F s0 (execMgmtLinkWake s) := by
  unfold execMgmtLinkWake
  try dsimp only
  repeat' first
    | with_reducible assumption
    | with_reducible refine Runs.next ?_
    | with_reducible refine Goes.wakeDevice (Foot.le_trans (by decide +kernel) hF) ?_
    | with_reducible refine Goes.foldl ?_ ?_
    | split
    | intro _

/-- What `State.poll` may change. -/
def fp_poll : Foot := ⟨[.tim, .power, .now, .count, .replicas, .freeCtr], some [0x8009D, 0x8009C, 0x8009F, 0x100,
  0x6001A, 0x6001C, 0x6000F, 0x60010, 0x60284, 0x60290, 0x60285, 0x60282, 0x60280, 0x60283, 0x60288, 0x60281, 0x6030E,
  0x60300]⟩
theorem Goes.poll {s : State} (hF : fp_poll.le F = true) (hgo : Goes F s0 s) :
     Goes F s0 (State.poll s) := by
  unfold State.poll
  try dsimp only
  repeat' first
    | with_reducible assumption
    | with_reducible refine Goes.wakeDevice (Foot.le_trans (by decide +kernel) hF) ?_
    | with_reducible refine Goes.each ?_ ?_
    | with_reducible refine Goes.wakeTile (Foot.le_trans (by decide +kernel) hF) ?_
    | with_reducible refine Goes.foldl ?_ ?_
    | split
    | intro _

/-- What `execParkPoll` may change. -/
def fp_execParkPoll : Foot := ⟨[.tim, .power, .now, .count, .replicas, .elapsed, .freeCtr], some [0x8009D, 0x8009C,
  0x8009F, 0x100, 0x6001A, 0x6001C, 0x6000F, 0x60010, 0x60284, 0x60290, 0x60285, 0x60282, 0x60280, 0x60283, 0x60288,
  0x60281, 0x6030E, 0x60300, 0xC021B, 0xC0280]⟩
theorem goes_execParkPoll {s : State} (hF : fp_execParkPoll.le F = true) (hgo : Goes F s0 s) :
     Runs F s0 (execParkPoll s) := by
  unfold execParkPoll
  try dsimp only
  repeat' first
    | with_reducible assumption
    | with_reducible refine Runs.next ?_
    | with_reducible refine Goes.advanceTo (Foot.le_trans (by decide +kernel) hF) ?_
    | with_reducible refine Goes.poll (Foot.le_trans (by decide +kernel) hF) ?_
    | with_reducible refine Goes.foldl ?_ ?_
    | split
    | intro _

/-- What `execAlwaysOnTimerWake` may change. -/
def fp_execAlwaysOnTimerWake : Foot := ⟨[.tim, .power, .now, .count, .replicas, .elapsed, .freeCtr], some [0x8009D,
  0x8009C, 0x8009F, 0x100, 0x6001A, 0x6001C, 0x6000F, 0x60010, 0x60284, 0x60290, 0x60285, 0x60282, 0x60280, 0x60283,
  0x60288, 0x60281, 0x6030E, 0x60300, 0xC021B, 0xC0280]⟩
theorem goes_execAlwaysOnTimerWake {s : State} (hF : fp_execAlwaysOnTimerWake.le F = true) (hgo : Goes F s0 s) :
     Runs F s0 (execAlwaysOnTimerWake s) := by
  unfold execAlwaysOnTimerWake
  try dsimp only
  repeat' first
    | with_reducible assumption
    | with_reducible refine Runs.next ?_
    | with_reducible refine Goes.advanceTo (Foot.le_trans (by decide +kernel) hF) ?_
    | with_reducible refine Goes.wakeDevice (Foot.le_trans (by decide +kernel) hF) ?_
    | with_reducible refine Goes.poll (Foot.le_trans (by decide +kernel) hF) ?_
    | with_reducible refine Goes.foldl ?_ ?_
    | split
    | intro _

/-- What `State.restoreTime` may change. -/
def fp_restoreTime : Foot := ⟨[.tim, .now, .count, .replicas], some [0xC021E, 0xC0280]⟩
theorem Goes.restoreTime {s : State} {cycles : Nat} (hF : fp_restoreTime.le F = true) (hgo : Goes F s0 s) :
     Goes F s0 (State.restoreTime s cycles) := by
  unfold State.restoreTime
  try dsimp only
  repeat' first
    | with_reducible assumption
    | with_reducible refine Goes.setNow (Foot.le_trans (by decide +kernel) hF) ?_
    | with_reducible refine Goes.wr (List.mem_singleton.2 (fieldName_TIM_UNCERT_BOUND)) (known_TIM_UNCERT_BOUND).agrees (Foot.le_trans (by decide +kernel) hF) ?_
    | with_reducible refine Goes.toQuality (Foot.le_trans (by decide +kernel) hF) ?_
    | with_reducible refine Goes.upTim (Foot.le_trans (by decide +kernel) hF) (fun _ h => h) ?_
    | with_reducible refine Goes.upTim (Foot.le_trans (by decide +kernel) hF) ?_ ?_
    | with_reducible refine Goes.foldl ?_ ?_
    | exact fun _ h => Tab.wf_erase h _
    | exact fun _ h => Tab.wf_empty
    | exact fun _ h => Tab.wf_set h _ _
    | split
    | intro _

/-- What `State.enterRun` may change. -/
def fp_enterRun : Foot := ⟨[.power], some [0x6001C, 0x60300]⟩
theorem Goes.enterRun {s : State} {us : Nat} (hF : fp_enterRun.le F = true) (hgo : Goes F s0 s) :
     Goes F s0 (State.enterRun s us) := by
  unfold State.enterRun
  try dsimp only
  repeat' first
    | with_reducible assumption
    | with_reducible refine Goes.upPw (Foot.le_trans (by decide +kernel) hF) ?_
    | with_reducible refine Goes.wr (List.mem_singleton.2 (fieldName_PWR_STATUS_STATE)) (known_PWR_STATUS_STATE).agrees (Foot.le_trans (by decide +kernel) hF) ?_
    | with_reducible refine Goes.wr (List.mem_singleton.2 (fieldName_PWR_WAKE_STATUS_WAKE_US)) (known_PWR_WAKE_STATUS_WAKE_US).agrees (Foot.le_trans (by decide +kernel) hF) ?_
    | with_reducible refine Goes.deviceQuiet (Foot.le_trans (by decide +kernel) hF) ?_
    | with_reducible refine Goes.foldl ?_ ?_
    | split
    | intro _

/-- What `execSleepWakeDone` may change. -/
def fp_execSleepWakeDone : Foot := ⟨[.tim, .power, .now, .count, .replicas, .elapsed], some [0x6001C, 0x60300,
  0xC021E, 0xC021B, 0xC0280]⟩
theorem goes_execSleepWakeDone {aonCycles : Nat} {us : Nat} {s : State} (hF : fp_execSleepWakeDone.le F = true) (hgo : Goes F s0 s) :
     Runs F s0 (execSleepWakeDone aonCycles us s) := by
  unfold execSleepWakeDone
  try dsimp only
  repeat' first
    | with_reducible assumption
    | with_reducible refine Runs.next ?_
    | with_reducible refine Goes.advanceTo (Foot.le_trans (by decide +kernel) hF) ?_
    | with_reducible refine Goes.enterRun (Foot.le_trans (by decide +kernel) hF) ?_
    | with_reducible refine Goes.restoreTime (Foot.le_trans (by decide +kernel) hF) ?_
    | with_reducible refine Goes.foldl ?_ ?_
    | split
    | intro _

/-- What `State.afterDeep` may change. -/
def fp_afterDeep : Foot := ⟨[.ports, .era, .engines, .tags, .mgmt, .tim, .snap, .evq], none⟩
theorem Goes.afterDeep {s : State} (hF : fp_afterDeep.le F = true) (hgo : Goes F s0 s) :
     Goes F s0 (State.afterDeep s) := by
  unfold State.afterDeep
  try dsimp only
  repeat' first
    | with_reducible assumption
    | exact fun _ _ => ⟨regsWf_empty, Tab.wf_empty, Tab.wf_empty⟩
    | exact fun _ _ => Txn.wf_new
    | exact configReset_wf _
    | with_reducible refine Goes.upM (Foot.le_trans (by decide +kernel) hF) (fun _ h => h) ?_
    | with_reducible refine Goes.upM (Foot.le_trans (by decide +kernel) hF) ?_ ?_
    | with_reducible refine Goes.showAddress (Foot.le_trans (by decide +kernel) hF) ?_
    | with_reducible refine Goes.on (List.mem_singleton.2 (fieldName_CLK_STATUS_CORE_SRC)) (known_CLK_STATUS_CORE_SRC).agrees (Foot.le_trans (by decide +kernel) hF) ?_
    | with_reducible refine Goes.on (List.mem_singleton.2 (fieldName_CLK_STATUS_MCLK_SRC)) (known_CLK_STATUS_MCLK_SRC).agrees (Foot.le_trans (by decide +kernel) hF) ?_
    | with_reducible refine Goes.on (List.mem_singleton.2 (fieldName_CLK_STATUS_REFCLK_OK)) (known_CLK_STATUS_REFCLK_OK).agrees (Foot.le_trans (by decide +kernel) hF) ?_
    | with_reducible refine Goes.on (List.mem_singleton.2 (fieldName_CLK_STATUS_ROOT_LOCK)) (known_CLK_STATUS_ROOT_LOCK).agrees (Foot.le_trans (by decide +kernel) hF) ?_
    | with_reducible refine Goes.on (List.mem_singleton.2 (fieldName_SB_STATUS_ALERT_PENDING)) (known_SB_STATUS_ALERT_PENDING).agrees (Foot.le_trans (by decide +kernel) hF) ?_
    | with_reducible refine Goes.wr (List.mem_singleton.2 (fieldName_CLK_STATUS_CORE_SRC)) (known_CLK_STATUS_CORE_SRC).agrees (Foot.le_trans (by decide +kernel) hF) ?_
    | with_reducible refine Goes.wr (List.mem_singleton.2 (fieldName_CLK_STATUS_MCLK_SRC)) (known_CLK_STATUS_MCLK_SRC).agrees (Foot.le_trans (by decide +kernel) hF) ?_
    | with_reducible refine Goes.wr (List.mem_singleton.2 (fieldName_CLK_STATUS_REFCLK_OK)) (known_CLK_STATUS_REFCLK_OK).agrees (Foot.le_trans (by decide +kernel) hF) ?_
    | with_reducible refine Goes.wr (List.mem_singleton.2 (fieldName_CLK_STATUS_ROOT_LOCK)) (known_CLK_STATUS_ROOT_LOCK).agrees (Foot.le_trans (by decide +kernel) hF) ?_
    | with_reducible refine Goes.wr (List.mem_singleton.2 (fieldName_SB_STATUS_ALERT_PENDING)) (known_SB_STATUS_ALERT_PENDING).agrees (Foot.le_trans (by decide +kernel) hF) ?_
    | with_reducible refine Goes.setTags (Foot.le_trans (by decide +kernel) hF) ?_ ?_
    | with_reducible refine Goes.setEngines (Foot.le_trans (by decide +kernel) hF) ?_ ?_
    | with_reducible refine Goes.newEra (Foot.le_trans (by decide +kernel) hF) ?_
    | with_reducible refine Goes.setSnap (Foot.le_trans (by decide +kernel) hF) ?_ ?_
    | with_reducible refine Goes.setRegs (Foot.le_trans (by decide +kernel) hF) ?_ ?_
    | with_reducible refine Goes.upTim (Foot.le_trans (by decide +kernel) hF) (fun _ h => h) ?_
    | with_reducible refine Goes.upTim (Foot.le_trans (by decide +kernel) hF) ?_ ?_
    | with_reducible refine Goes.foldl ?_ ?_
    | exact fun _ w => Tab.wf_empty
    | exact fun _ w => Tab.wf_set w.engines _ _
    | exact fun _ w => Tab.wf_erase w.engines _
    | exact fun _ w => Tab.wf_keep w.engines _
    | exact fun _ w => Tab.wf_map w.engines _
    | exact fun _ w => regsWf_keep w.regs _
    | exact fun _ _ => regsWf_empty
    | exact fun _ w => Tab.wf_empty
    | exact fun _ w => Tab.wf_set w.snap _ _
    | exact fun _ w => Tab.wf_erase w.snap _
    | exact fun _ w => Tab.wf_keep w.snap _
    | exact fun _ w => Tab.wf_map w.snap _
    | exact fun _ w => Tab.wf_empty
    | exact fun _ w => Tab.wf_set w.tags _ _
    | exact fun _ w => Tab.wf_erase w.tags _
    | exact fun _ w => Tab.wf_keep w.tags _
    | exact fun _ w => Tab.wf_map w.tags _
    | exact fun _ h => Tab.wf_set h _ _
    | exact fun _ h => Tab.wf_erase h _
    | exact fun _ h => Tab.wf_empty
    | exact fun _ h => Tab.wf_erase h _
    | exact fun _ h => Tab.wf_empty
    | exact fun _ h => Tab.wf_set h _ _
    | split
    | intro _

/-- What `State.loseSlices` may change. -/
def fp_loseSlices : Foot := ⟨[.slices, .rings, .winnows, .windows, .evq, .staged], none⟩
theorem Goes.loseSlices {s : State} (hF : fp_loseSlices.le F = true) (hgo : Goes F s0 s) :
     Goes F s0 (State.loseSlices s) := by
  unfold State.loseSlices
  try dsimp only
  repeat' first
    | with_reducible assumption
    | with_reducible refine Goes.setSlices (Foot.le_trans (by decide +kernel) hF) ?_ ?_
    | with_reducible refine Goes.setEvq (Foot.le_trans (by decide +kernel) hF) ?_
    | with_reducible refine Goes.setStaged (Foot.le_trans (by decide +kernel) hF) ?_
    | with_reducible refine Goes.setRings (Foot.le_trans (by decide +kernel) hF) ?_ ?_
    | with_reducible refine Goes.setWindows (Foot.le_trans (by decide +kernel) hF) ?_ ?_
    | with_reducible refine Goes.createS0 (Foot.le_trans (by decide +kernel) hF) ?_
    | with_reducible refine Goes.setRegs (Foot.le_trans (by decide +kernel) hF) ?_ ?_
    | with_reducible refine Goes.setWinnows (Foot.le_trans (by decide +kernel) hF) ?_ ?_
    | with_reducible refine Goes.foldl ?_ ?_
    | exact fun _ w => regsWf_keep w.regs _
    | exact fun _ _ => regsWf_empty
    | exact fun _ w => Tab.wf_empty
    | exact fun _ w => Tab.wf_set w.rings _ _
    | exact fun _ w => Tab.wf_erase w.rings _
    | exact fun _ w => Tab.wf_keep w.rings _
    | exact fun _ w => Tab.wf_map w.rings _
    | exact fun _ w => Tab.wf_empty
    | exact fun _ w => Tab.wf_set w.slices _ _
    | exact fun _ w => Tab.wf_erase w.slices _
    | exact fun _ w => Tab.wf_keep w.slices _
    | exact fun _ w => Tab.wf_map w.slices _
    | exact fun _ w => Tab.wf_empty
    | exact fun _ w => Tab.wf_set w.windows _ _
    | exact fun _ w => Tab.wf_erase w.windows _
    | exact fun _ w => Tab.wf_keep w.windows _
    | exact fun _ w => Tab.wf_map w.windows _
    | exact fun _ w => Tab.wf_empty
    | exact fun _ w => Tab.wf_set w.winnows _ _
    | exact fun _ w => Tab.wf_erase w.winnows _
    | exact fun _ w => Tab.wf_keep w.winnows _
    | exact fun _ w => Tab.wf_map w.winnows _
    | split
    | intro _

/-- What `State.rebuild` may change. -/
def fp_rebuild : Foot := ⟨[.halves, .sides, .ports, .bct, .calTab, .engines, .slices, .rings, .mgmt, .winnows,
  .windows, .tim, .tiles, .power, .evq, .staged], none⟩
theorem Goes.rebuild {s : State} {b : Nat} (hF : fp_rebuild.le F = true) (hgo : Goes F s0 s) :
     Goes F s0 (State.rebuild s b) := by
  have hA : ∀ (u : State) (l r : List Nat), Goes F s0 u →
      Goes F s0 ((u.each l (fun t h => t.upH h (fun x => { x with conv := none }))).each r State.portReset) := fun u l r h =>
    Goes.each (fun _ ht _ => Goes.portReset (Foot.le_trans (by decide +kernel) hF) ht)
      (Goes.each (fun _ ht _ => Goes.upH (Foot.le_trans (by decide +kernel) hF) (fun _ h => h) ht) h)
  have hQ : ∀ u : State, Goes F s0 u → ∀ l : List Nat, Goes F s0 (u.each l (fun u p => u.quietPort p none)) := fun u h l =>
    Goes.each (fun _ ht _ => Goes.quietPort (Foot.le_trans (by decide +kernel) hF) ht) h
  have h5 : ∀ q : State, Goes F s0 q →
      Goes F s0 (((q.setRegs (q.regs.keep (fun k => !loft5Key k))).setBct {}).upM (fun m => { m.configReset true with
        pmeEn := false, pmeStatus := false })) := fun q h =>
    Goes.upM (Foot.le_trans (by decide +kernel) hF) (fun m h => configReset_wf true m h) (Goes.setBct (Foot.le_trans (by decide +kernel) hF)
      (fun _ _ => Tab.wf_empty) (Goes.setRegs (Foot.le_trans (by decide +kernel) hF) (fun _ w => regsWf_keep w.regs _) h))
  have hB : ∀ u : State, Goes F s0 u → Goes F s0 (u.each ((List.range 64).filter u.enabled) State.restructure) := fun u h =>
    Goes.each (fun _ ht _ => Goes.restructure (Foot.le_trans (by decide +kernel) hF) ht) h
  unfold State.rebuild
  split
  · exact hA _ _ _ hgo
  · split
    · exact Goes.loadCal (Foot.le_trans (by decide +kernel) hF) hgo
    · split
      · have h6 := h5 _ (hQ _ hgo ((List.range 64).filter s.enabled))
        extract_lets q t u
        have ht : Goes F s0 t := h6
        clear_value t
        have hu : Goes F s0 u := by
          unfold u
          split
          · exact Goes.bootShow (Foot.le_trans (by decide +kernel) hF) (Goes.bootTxn (Foot.le_trans (by decide +kernel) hF) ht)
          · exact ht
        clear_value u
        exact hB _ hu
      · split
        · exact Goes.loseSlices (Foot.le_trans (by decide +kernel) hF) hgo
        · exact Goes.each (fun _ ht _ => Goes.showPoints (Foot.le_trans (by decide +kernel) hF) ht)
            (Goes.setEngines (Foot.le_trans (by decide +kernel) hF) (fun _ _ => Tab.wf_empty)
              (Goes.setRegs (Foot.le_trans (by decide +kernel) hF) (fun _ w => regsWf_keep w.regs _) hgo))

/-- What `State.restoreEarlier` may change. -/
def fp_restoreEarlier : Foot := ⟨[.tim, .now, .count, .replicas], some [0xC021E, 0xC0280]⟩
theorem Goes.restoreEarlier {s : State} {cycles : Nat} (hF : fp_restoreEarlier.le F = true) (hgo : Goes F s0 s) :
     Goes F s0 (State.restoreEarlier s cycles) := by
  unfold State.restoreEarlier
  try dsimp only
  repeat' first
    | with_reducible assumption
    | with_reducible refine Goes.setAt (Foot.le_trans (by decide +kernel) hF) ?_
    | with_reducible refine Goes.restoreTime (Foot.le_trans (by decide +kernel) hF) ?_
    | with_reducible refine Goes.foldl ?_ ?_
    | split
    | intro _

/-- What `State.duePerst` may change. -/
def fp_duePerst : Foot := ⟨[.ports, .engines, .slices, .rings, .tags, .imgOp, .txn, .mgmt, .winnows, .windows, .tiles,
  .power, .evq, .staged, .outbox], some [0x40C008, 0x410003, 0x410000, 0x410002, 0x410001, 0x40800F, 0x408008, 0x40800A,
  0x408000, 0x40800C, 0x90, 0x298, 0x299, 0x29C, 0x29F, 0x29A, 0x280, 0x295, 0x20006, 0x20007, 0x6001A, 0x60018,
  0x6000F, 0x60010, 0x20020000, 0x2002011F, 0x2002011C, 0x2002011D, 0x2002011E, 0x20020114, 0x20020100, 0x20020210,
  0x20020200, 0x20020280, 0x2002029B, 0x2002029C, 0x600000, 0x600280, 0x600110, 0x600100, 0x20000080, 0x20000090,
  0x2000009F, 0x20000108, 0x20000100, 0x600200, 0x600212, 0x60008E, 0x600090, 0x600080, 0x60009C, 0x600190, 0x600180,
  0x20120180, 0x20120080, 0x20120100, 0x20120000, 0x2012001B, 0x2012001A, 0x20120019, 0x2012001C, 0x102001F, 0x1020017,
  0x1020013, 0x102000F, 0x1020007, 0x1020003, 0x40088, 0x40099, 0x40080, 0x4009C]⟩
theorem Goes.duePerst {s : State} (hF : fp_duePerst.le F = true) (hgo : Goes F s0 s) :
     Goes F s0 (State.duePerst s) := by
  unfold State.duePerst
  try dsimp only
  repeat' first
    | with_reducible assumption
    | with_reducible refine Goes.upM (Foot.le_trans (by decide +kernel) hF) (fun _ h => h) ?_
    | with_reducible refine Goes.upM (Foot.le_trans (by decide +kernel) hF) ?_ ?_
    | with_reducible refine Goes.linkDown (Foot.le_trans (by decide +kernel) hF) ?_
    | with_reducible refine Goes.mgmtReset (Foot.le_trans (by decide +kernel) hF) ?_
    | with_reducible refine Goes.foldl ?_ ?_
    | exact fun _ h => Tab.wf_set h _ _
    | exact fun _ h => Tab.wf_erase h _
    | exact fun _ h => Tab.wf_empty
    | split
    | intro _

/-- What `State.dueTrip` may change. -/
def fp_dueTrip : Foot := ⟨[.halves, .sides, .ports, .bct, .engines, .rings, .tags, .imgOp, .txn, .mgmt, .winnows,
  .tim, .tiles, .power, .evq, .replicas, .outbox], none⟩
theorem Goes.dueTrip {s : State} (hF : fp_dueTrip.le F = true) (hgo : Goes F s0 s) :
     Goes F s0 (State.dueTrip s) := by
  unfold State.dueTrip
  try dsimp only
  repeat' first
    | with_reducible assumption
    | with_reducible refine Goes.upPw (Foot.le_trans (by decide +kernel) hF) ?_
    | with_reducible refine Goes.raiseDev (Foot.le_trans (by decide +kernel) hF) ?_
    | with_reducible refine Goes.each ?_ ?_
    | with_reducible refine Goes.resetTile (Foot.le_trans (by decide +kernel) hF) ?_
    | with_reducible refine Goes.foldl ?_ ?_
    | split
    | intro _

/-- What `execDeepWakeReloadDone` may change. -/
def fp_execDeepWakeReloadDone : Foot := ⟨[.halves, .sides, .ports, .era, .bct, .calTab, .engines, .slices, .rings,
  .tags, .calStore, .storeWait, .lastStore, .chip, .lastWritten, .imgOp, .txn, .mgmt, .winnows, .windows, .tim, .snap,
  .tiles, .power, .evq, .staged, .now, .count, .replicas, .elapsed, .outbox], none⟩
theorem goes_execDeepWakeReloadDone {flashAnswers : Bool} {loftPass : List Bool} {aonCycles : Nat} {us : Nat} {s : State} (hF : fp_execDeepWakeReloadDone.le F = true) (hgo : Goes F s0 s) :
     Runs F s0 (execDeepWakeReloadDone flashAnswers loftPass aonCycles us s) := by
  unfold execDeepWakeReloadDone
  try dsimp only
  repeat' first
    | with_reducible assumption
    | with_reducible refine Runs.next ?_
    | with_reducible refine Goes.advanceTo (Foot.le_trans (by decide +kernel) hF) ?_
    | with_reducible refine Goes.restoreEarlier (Foot.le_trans (by decide +kernel) hF) ?_
    | with_reducible refine Goes.upPw (Foot.le_trans (by decide +kernel) hF) ?_
    | with_reducible refine Goes.afterDeep (Foot.le_trans (by decide +kernel) hF) ?_
    | with_reducible refine Goes.raiseDev (Foot.le_trans (by decide +kernel) hF) ?_
    | with_reducible refine Goes.wr (List.mem_singleton.2 (fieldName_IMG_STATUS_ENG_FW_SLOT)) (known_IMG_STATUS_ENG_FW_SLOT).agrees (Foot.le_trans (by decide +kernel) hF) ?_
    | with_reducible refine Goes.wr (List.mem_singleton.2 (fieldName_PWR_WAKE_STATUS_LOFT_FAIL)) (known_PWR_WAKE_STATUS_LOFT_FAIL).agrees (Foot.le_trans (by decide +kernel) hF) ?_
    | with_reducible refine Goes.wr (List.mem_singleton.2 (fieldName_SB_STATUS_ALERT_PENDING)) (known_SB_STATUS_ALERT_PENDING).agrees (Foot.le_trans (by decide +kernel) hF) ?_
    | with_reducible refine Goes.duePerst (Foot.le_trans (by decide +kernel) hF) ?_
    | with_reducible refine Goes.each ?_ ?_
    | with_reducible refine Goes.publish (Foot.le_trans (by decide +kernel) hF) ?_
    | with_reducible refine Goes.rebuild (Foot.le_trans (by decide +kernel) hF) ?_
    | with_reducible refine Goes.dueTrip (Foot.le_trans (by decide +kernel) hF) ?_
    | with_reducible refine Goes.enterRun (Foot.le_trans (by decide +kernel) hF) ?_
    | with_reducible refine Goes.setChip (Foot.le_trans (by decide +kernel) hF) ?_
    | with_reducible refine Goes.pinReset (Foot.le_trans (by decide +kernel) hF) ?_
    | with_reducible refine Goes.foldl ?_ ?_
    | split
    | intro _

end Sys2Proof.Machine
end

