-- ==== Sys2Proof/Laws/OnResets.lean ====
section
/-! SUPPORT. What each operation of `Machine/Resets.lean` may change: one lemma for each. -/

set_option linter.all false
set_option Elab.async false

namespace Sys2Proof.Machine

variable {F : Foot} {s0 : State}

/-- What `execColdReset` may change. -/
def fp_execColdReset : Foot := ⟨[.halves, .sides, .ports, .era, .bct, .calTab, .engines, .slices, .rings, .tags,
  .calStore, .storeWait, .lastStore, .chip, .lastWritten, .imgOp, .txn, .mgmt, .winnows, .windows, .tim, .snap, .tiles,
  .power, .evq, .staged, .now, .count, .replicas], none⟩
theorem goes_execColdReset {s : State} (hF : fp_execColdReset.le F = true) (hgo : Goes F s0 s) :
     Runs F s0 (execColdReset s) := by
  unfold execColdReset
  try dsimp only
  repeat' first
    | with_reducible assumption
    | with_reducible refine Runs.next ?_
    | with_reducible refine Goes.coldReset (Foot.le_trans (by decide +kernel) hF) ?_
    | with_reducible refine Goes.foldl ?_ ?_
    | split
    | intro _

/-- What `execAonBrownout` may change. -/
def fp_execAonBrownout : Foot := ⟨[.halves, .sides, .ports, .era, .bct, .calTab, .engines, .slices, .rings, .tags,
  .calStore, .storeWait, .lastStore, .chip, .lastWritten, .imgOp, .txn, .mgmt, .winnows, .windows, .tim, .snap, .tiles,
  .power, .evq, .staged, .now, .count, .replicas], none⟩
theorem goes_execAonBrownout {cause : BrownoutCause} {s : State} (hF : fp_execAonBrownout.le F = true) (hgo : Goes F s0 s) :
     Runs F s0 (execAonBrownout cause s) := by
  unfold execAonBrownout
  try dsimp only
  repeat' first
    | with_reducible assumption
    | with_reducible refine Runs.next ?_
    | with_reducible refine Goes.on (List.mem_singleton.2 (fieldName_PWR_AON_STATUS_BOR)) (known_PWR_AON_STATUS_BOR).agrees (Foot.le_trans (by decide +kernel) hF) ?_
    | with_reducible refine Goes.on (List.mem_singleton.2 (fieldName_PWR_AON_STATUS_LOAD)) (known_PWR_AON_STATUS_LOAD).agrees (Foot.le_trans (by decide +kernel) hF) ?_
    | with_reducible refine Goes.on (List.mem_singleton.2 (fieldName_PWR_AON_STATUS_SUPPLY)) (known_PWR_AON_STATUS_SUPPLY).agrees (Foot.le_trans (by decide +kernel) hF) ?_
    | with_reducible refine Goes.coldReset (Foot.le_trans (by decide +kernel) hF) ?_
    | with_reducible refine Goes.foldl ?_ ?_
    | split
    | intro _

/-- What `execAlwaysOnResetRelease` may change. -/
def fp_execAlwaysOnResetRelease : Foot := ⟨[.power], some [0x60010, 0x100098]⟩
theorem goes_execAlwaysOnResetRelease {straps : Fin 8} {s : State} (hF : fp_execAlwaysOnResetRelease.le F = true) (hgo : Goes F s0 s) :
     Runs F s0 (execAlwaysOnResetRelease straps s) := by
  unfold execAlwaysOnResetRelease
  try dsimp only
  repeat' first
    | with_reducible assumption
    | with_reducible refine Runs.next ?_
    | with_reducible refine Goes.showAddress (Foot.le_trans (by decide +kernel) hF) ?_
    | with_reducible refine Goes.upPw (Foot.le_trans (by decide +kernel) hF) ?_
    | with_reducible refine Goes.wr (List.mem_singleton.2 (fieldName_PWR_STATUS_VID_CODE)) (known_PWR_STATUS_VID_CODE).agrees (Foot.le_trans (by decide +kernel) hF) ?_
    | with_reducible refine Goes.foldl ?_ ?_
    | split
    | intro _

/-- What `State.pinSource` may change. -/
def fp_pinSource : Foot := ⟨[.halves, .sides, .ports, .era, .bct, .calTab, .engines, .slices, .rings, .tags,
  .calStore, .storeWait, .lastStore, .chip, .lastWritten, .imgOp, .txn, .mgmt, .winnows, .windows, .tim, .snap, .tiles,
  .power, .evq, .staged, .now, .count, .replicas], none⟩
theorem Goes.pinSource {s : State} {reason : Nat} (hF : fp_pinSource.le F = true) (hgo : Goes F s0 s) :
     Goes F s0 (State.pinSource s reason) := by
  unfold State.pinSource
  try dsimp only
  repeat' first
    | with_reducible assumption
    | with_reducible refine Goes.pinReset (Foot.le_trans (by decide +kernel) hF) ?_
    | with_reducible refine Goes.foldl ?_ ?_
    | split
    | intro _

/-- What `execResetNAssert` may change. -/
def fp_execResetNAssert : Foot := ⟨[.halves, .sides, .ports, .era, .bct, .calTab, .engines, .slices, .rings, .tags,
  .calStore, .storeWait, .lastStore, .chip, .lastWritten, .imgOp, .txn, .mgmt, .winnows, .windows, .tim, .snap, .tiles,
  .power, .evq, .staged, .now, .count, .replicas], none⟩
theorem goes_execResetNAssert {s : State} (hF : fp_execResetNAssert.le F = true) (hgo : Goes F s0 s) :
     Runs F s0 (execResetNAssert s) := by
  unfold execResetNAssert
  try dsimp only
  repeat' first
    | with_reducible assumption
    | with_reducible refine Runs.next ?_
    | with_reducible refine Goes.pinSource (Foot.le_trans (by decide +kernel) hF) ?_
    | with_reducible refine Goes.upPw (Foot.le_trans (by decide +kernel) hF) ?_
    | with_reducible refine Goes.foldl ?_ ?_
    | split
    | intro _

/-- What `execResetNDeassert` may change. -/
def fp_execResetNDeassert : Foot := ⟨[.tim, .power, .now, .count, .replicas, .elapsed], some [0xC021B, 0xC0280]⟩
theorem goes_execResetNDeassert {s : State} (hF : fp_execResetNDeassert.le F = true) (hgo : Goes F s0 s) :
     Runs F s0 (execResetNDeassert s) := by
  unfold execResetNDeassert
  try dsimp only
  repeat' first
    | with_reducible assumption
    | with_reducible refine Runs.next ?_
    | with_reducible refine Goes.upPw (Foot.le_trans (by decide +kernel) hF) ?_
    | with_reducible refine Goes.advance (Foot.le_trans (by decide +kernel) hF) ?_
    | with_reducible refine Goes.foldl ?_ ?_
    | split
    | intro _

/-- What `execSupplyMonitor` may change. -/
def fp_execSupplyMonitor : Foot := ⟨[.halves, .sides, .ports, .era, .bct, .calTab, .engines, .slices, .rings, .tags,
  .calStore, .storeWait, .lastStore, .chip, .lastWritten, .imgOp, .txn, .mgmt, .winnows, .windows, .tim, .snap, .tiles,
  .power, .evq, .staged, .now, .count, .replicas], none⟩
theorem goes_execSupplyMonitor {rail : Rail} {s : State} (hF : fp_execSupplyMonitor.le F = true) (hgo : Goes F s0 s) :
     Runs F s0 (execSupplyMonitor rail s) := by
  unfold execSupplyMonitor
  try dsimp only
  repeat' first
    | with_reducible assumption
    | with_reducible refine Runs.next ?_
    | with_reducible refine Goes.pinSource (Foot.le_trans (by decide +kernel) hF) ?_
    | with_reducible refine Goes.upPw (Foot.le_trans (by decide +kernel) hF) ?_
    | with_reducible refine Goes.foldl ?_ ?_
    | split
    | intro _

/-- What `execSupplyRecovered` may change. -/
def fp_execSupplyRecovered : Foot := ⟨[.power], some []⟩
theorem goes_execSupplyRecovered {s : State} (hF : fp_execSupplyRecovered.le F = true) (hgo : Goes F s0 s) :
     Runs F s0 (execSupplyRecovered s) := by
  unfold execSupplyRecovered
  try dsimp only
  repeat' first
    | with_reducible assumption
    | with_reducible refine Runs.next ?_
    | with_reducible refine Goes.upPw (Foot.le_trans (by decide +kernel) hF) ?_
    | with_reducible refine Goes.foldl ?_ ?_
    | split
    | intro _

/-- What `State.rstDevice` may change. -/
def fp_rstDevice : Foot := ⟨[.halves, .sides, .ports, .era, .bct, .calTab, .engines, .slices, .rings, .tags,
  .calStore, .storeWait, .lastStore, .chip, .lastWritten, .imgOp, .txn, .mgmt, .winnows, .windows, .tim, .snap, .tiles,
  .power, .evq, .staged, .now, .count, .replicas], none⟩
theorem Goes.rstDevice {s : State} {key : Nat} (hF : fp_rstDevice.le F = true) (hgo : Goes F s0 s) :
     Goes F s0 (State.rstDevice s key) := by
  unfold State.rstDevice
  try dsimp only
  repeat' first
    | with_reducible assumption
    | with_reducible refine Goes.pinSource (Foot.le_trans (by decide +kernel) hF) ?_
    | with_reducible refine Goes.foldl ?_ ?_
    | split
    | intro _

/-- What `execRstDevice` may change. -/
def fp_execRstDevice : Foot := ⟨[.halves, .sides, .ports, .era, .bct, .calTab, .engines, .slices, .rings, .tags,
  .calStore, .storeWait, .lastStore, .chip, .lastWritten, .imgOp, .txn, .mgmt, .winnows, .windows, .tim, .snap, .tiles,
  .power, .evq, .staged, .now, .count, .replicas, .freeCtr], none⟩
theorem goes_execRstDevice {key : Nat} {s : State} (hF : fp_execRstDevice.le F = true) (hgo : Goes F s0 s) :
     Runs F s0 (execRstDevice key s) := by
  unfold execRstDevice
  try dsimp only
  repeat' first
    | with_reducible assumption
    | with_reducible refine Runs.next ?_
    | with_reducible refine Goes.hostCmd (Foot.le_trans (by decide +kernel) hF) ?_ ?_
    | with_reducible refine Goes.rstDevice (Foot.le_trans (by decide +kernel) hF) ?_
    | with_reducible refine Goes.foldl ?_ ?_
    | split
    | intro _

/-- What `execRstPort` may change. -/
def fp_execRstPort : Foot := ⟨[.halves, .sides, .ports, .engines, .rings, .tim, .tiles, .power, .evq, .now, .count,
  .replicas, .freeCtr], some [0x220008, 0x22001F, 0x220018, 0x220010, 0x220000, 0x220004, 0x200100, 0x8009D, 0x8009C,
  0x8009F, 0x40C008, 0x40800F, 0x408008, 0x40800A, 0x408000, 0x40800C, 0xE0390, 0xE0380, 0xE0388, 0xE0210, 0xE0200,
  0xE021E, 0xE0208, 0xE021F, 0xE0280, 0xE0100, 0xE0001, 0x4000418, 0x4000400, 0x4000413, 0x400041F, 0x4000408,
  0x4000294, 0x400029C, 0x400029A, 0x4000280, 0x4000288, 0x400029D, 0x400029E, 0x4000290, 0x400029F, 0x400029B,
  0x4000500, 0x400050D, 0x4000518, 0x400050E, 0x400051C, 0x4000513, 0x4000319, 0x400030C, 0x4000304, 0x400031F,
  0x4000313, 0x400031E, 0x4000490, 0x4000486, 0x4000480, 0x4000487, 0x4000488, 0x4000398, 0x400038C, 0x4000392,
  0x4000386, 0x4000380, 0x400039E, 0x2000104, 0x200011E, 0x200010C, 0x2000100, 0x200011D, 0x2000108, 0x2000119,
  0x2000118, 0x2000110, 0x200011F, 0x2000A10, 0x2000A00, 0x2000914, 0x2000906, 0x2000902, 0x2000907, 0x2000918,
  0x200090A, 0x2000905, 0x2000903, 0x2000900, 0x200090C, 0x2000904, 0x200091C, 0x2000901, 0x2000190, 0x2000180,
  0x2000E08, 0x2000E10, 0x2000E18, 0x2000E00, 0x2000D01, 0x2000D05, 0x2000D04, 0x2000D03, 0x2000D06, 0x2000D02,
  0x2000D10, 0x2000D00, 0x2000D1C, 0x2000D08, 0x2000D18, 0x2000510, 0x2000519, 0x200051A, 0x200051B, 0x200051C,
  0x200051F, 0x200051E, 0x2000500, 0x2000508, 0x200051D, 0x200048F, 0x2000498, 0x2000494, 0x200048E, 0x200048B,
  0x2000488, 0x2000484, 0x2000490, 0x200049C, 0x2000492, 0x6001A, 0x6001C, 0x6000F, 0x60010, 0x60284, 0x60290, 0x60285,
  0x60282, 0x60280, 0x60283, 0x60288, 0x60281, 0x6030E, 0x60300, 0xA0100, 0x100097]⟩
theorem goes_execRstPort {index : Nat} {s : State} (hF : fp_execRstPort.le F = true) (hgo : Goes F s0 s) :
     Runs F s0 (execRstPort index s) := by
  unfold execRstPort
  try dsimp only
  repeat' first
    | with_reducible assumption
    | with_reducible refine Runs.next ?_
    | with_reducible refine Goes.portReset (Foot.le_trans (by decide +kernel) hF) ?_
    | with_reducible refine Goes.hostCmd (Foot.le_trans (by decide +kernel) hF) ?_ ?_
    | with_reducible refine Goes.foldl ?_ ?_
    | split
    | intro _

/-- What `execRstTile` may change. -/
def fp_execRstTile : Foot := ⟨[.halves, .sides, .ports, .bct, .engines, .rings, .tags, .imgOp, .txn, .mgmt, .winnows,
  .tim, .tiles, .power, .evq, .now, .count, .replicas, .outbox, .freeCtr], none⟩
theorem goes_execRstTile {index : Nat} {s : State} (hF : fp_execRstTile.le F = true) (hgo : Goes F s0 s) :
     Runs F s0 (execRstTile index s) := by
  unfold execRstTile
  try dsimp only
  repeat' first
    | with_reducible assumption
    | with_reducible refine Runs.next ?_
    | with_reducible refine Goes.tileReset (Foot.le_trans (by decide +kernel) hF) ?_
    | with_reducible refine Goes.hostCmd (Foot.le_trans (by decide +kernel) hF) ?_ ?_
    | with_reducible refine Goes.foldl ?_ ?_
    | split
    | intro _

/-- What `execPortResetDone` may change. -/
def fp_execPortResetDone : Foot := ⟨[.halves, .sides, .ports, .engines, .tiles, .evq], some [0x220018, 0x220010,
  0x200100, 0x40800F, 0x408008, 0x40800A, 0x408000, 0x40800C, 0xE0390, 0xE0380, 0xE0388, 0xE0210, 0xE0200, 0xE021E,
  0xE0208, 0xE021F, 0xE0280, 0xE0100, 0xE0001, 0x4000418, 0x4000413, 0x400041F, 0x4000294, 0x4000280, 0x400029D,
  0x400029E, 0x4000290, 0x400050E, 0x400051C, 0x4000513, 0x4000486, 0x4000480, 0x4000487, 0x4000398, 0x400038C,
  0x4000392, 0x4000386, 0x4000380, 0x400039E, 0x2000104, 0x200011E, 0x200010C, 0x2000100, 0x200011D, 0x2000108,
  0x200011F, 0x200090A, 0x200091C, 0x2000D05, 0x2000D06, 0x2000D10, 0x2000D00, 0x2000D1C, 0x2000D08, 0x2000D18,
  0x2000510, 0x2000508, 0x200048F, 0x2000498, 0x2000494, 0x200048E, 0x200048B, 0x2000488, 0x2000490, 0x200049C,
  0x2000492, 0x100097]⟩
theorem goes_execPortResetDone {p : PortId} {s : State} (hF : fp_execPortResetDone.le F = true) (hgo : Goes F s0 s) :
     Runs F s0 (execPortResetDone p s) := by
  unfold execPortResetDone
  try dsimp only
  repeat' first
    | with_reducible assumption
    | with_reducible refine Runs.next ?_
    | with_reducible refine Goes.upP (Foot.le_trans (by decide +kernel) hF) ?_
    | with_reducible refine Goes.startPort (Foot.le_trans (by decide +kernel) hF) ?_
    | with_reducible refine Goes.foldl ?_ ?_
    | split
    | intro _

/-- What `execTileResetDone` may change. -/
def fp_execTileResetDone : Foot := ⟨[.halves, .sides, .ports, .engines, .rings, .txn, .winnows, .tiles, .power, .evq,
  .replicas], none⟩
theorem goes_execTileResetDone {t : TileId} {s : State} (hF : fp_execTileResetDone.le F = true) (hgo : Goes F s0 s) :
     Runs F s0 (execTileResetDone t s) := by
  unfold execTileResetDone
  try dsimp only
  repeat' first
    | with_reducible assumption
    | with_reducible refine Runs.next ?_
    | with_reducible refine Goes.upT (Foot.le_trans (by decide +kernel) hF) ?_
    | with_reducible refine Goes.tileEnters (Foot.le_trans (by decide +kernel) hF) ?_
    | with_reducible refine Goes.foldl ?_ ?_
    | split
    | intro _

/-- What `execThermtrip` may change. -/
def fp_execThermtrip : Foot := ⟨[.halves, .sides, .ports, .bct, .engines, .rings, .tags, .imgOp, .txn, .mgmt,
  .winnows, .tim, .tiles, .power, .evq, .replicas, .outbox], none⟩
theorem goes_execThermtrip {s : State} (hF : fp_execThermtrip.le F = true) (hgo : Goes F s0 s) :
     Runs F s0 (execThermtrip s) := by
  unfold execThermtrip
  try dsimp only
  repeat' first
    | with_reducible assumption
    | with_reducible refine Runs.next ?_
    | with_reducible refine Goes.upPw (Foot.le_trans (by decide +kernel) hF) ?_
    | with_reducible refine Goes.on (List.mem_singleton.2 (fieldName_RST_STATUS_THERMTRIP_SEEN)) (known_RST_STATUS_THERMTRIP_SEEN).agrees (Foot.le_trans (by decide +kernel) hF) ?_
    | with_reducible refine Goes.on (List.mem_singleton.2 (fieldName_SB_STATUS_ALERT_PENDING)) (known_SB_STATUS_ALERT_PENDING).agrees (Foot.le_trans (by decide +kernel) hF) ?_
    | with_reducible refine Goes.raiseDev (Foot.le_trans (by decide +kernel) hF) ?_
    | with_reducible refine Goes.each ?_ ?_
    | with_reducible refine Goes.resetTile (Foot.le_trans (by decide +kernel) hF) ?_
    | with_reducible refine Goes.foldl ?_ ?_
    | split
    | intro _

/-- What `State.cutJob` may change. -/
def fp_cutJob : Foot := ⟨[.halves, .engines, .rings, .mgmt, .tiles, .power, .evq, .outbox], some [0x40C008, 0x40800F,
  0x408008, 0x40800A, 0x408000, 0x40800C, 0x295]⟩
theorem Goes.cutJob {s : State} {k : Nat} (hF : fp_cutJob.le F = true) (hgo : Goes F s0 s) :
     Goes F s0 (State.cutJob s k) := by
  unfold State.cutJob
  try dsimp only
  repeat' first
    | with_reducible assumption
    | with_reducible refine Goes.finishJob (Foot.le_trans (by decide +kernel) hF) ?_
    | with_reducible refine Goes.restoreRx (Foot.le_trans (by decide +kernel) hF) ?_
    | with_reducible refine Goes.foldl ?_ ?_
    | split
    | intro _

/-- What `execTileFence` may change. -/
def fp_execTileFence : Foot := ⟨[.halves, .sides, .ports, .bct, .engines, .rings, .tags, .imgOp, .txn, .mgmt,
  .winnows, .tim, .tiles, .power, .evq, .replicas, .outbox], none⟩
theorem goes_execTileFence {t : TileId} {cause : FenceCause} {s : State} (hF : fp_execTileFence.le F = true) (hgo : Goes F s0 s) :
     Runs F s0 (execTileFence t cause s) := by
  unfold execTileFence
  try dsimp only
  repeat' first
    | with_reducible assumption
    | with_reducible refine Runs.next ?_
    | with_reducible refine Goes.bump (Foot.le_trans (by decide +kernel) hF) ?_
    | with_reducible refine Goes.cutJob (Foot.le_trans (by decide +kernel) hF) ?_
    | with_reducible refine Goes.leavesOn (Foot.le_trans (by decide +kernel) hF) ?_
    | with_reducible refine Goes.upH (Foot.le_trans (by decide +kernel) hF) (fun _ h => h) ?_
    | with_reducible refine Goes.upH (Foot.le_trans (by decide +kernel) hF) ?_ ?_
    | with_reducible refine Goes.resumeWaits (Foot.le_trans (by decide +kernel) hF) ?_
    | with_reducible refine Goes.downPort (Foot.le_trans (by decide +kernel) hF) ?_
    | with_reducible refine Goes.drainAccesses (Foot.le_trans (by decide +kernel) hF) ?_
    | with_reducible refine Goes.each ?_ ?_
    | with_reducible refine Goes.engineOff (Foot.le_trans (by decide +kernel) hF) ?_
    | with_reducible refine Goes.raiseFor (Foot.le_trans (by decide +kernel) hF) ?_
    | with_reducible refine Goes.upT (Foot.le_trans (by decide +kernel) hF) ?_
    | with_reducible refine Goes.tileLost (Foot.le_trans (by decide +kernel) hF) ?_
    | with_reducible refine Goes.clearRun (Foot.le_trans (by decide +kernel) hF) ?_
    | with_reducible refine Goes.setTx (Foot.le_trans (by decide +kernel) hF) ?_
    | with_reducible refine Goes.foldl ?_ ?_
    | exact fun _ h => h
    | exact fun _ h => by dsimp only; (repeat' split) <;> exact h
    | split
    | intro _

/-- What `execAutoTileReset` may change. -/
def fp_execAutoTileReset : Foot := ⟨[.halves, .sides, .ports, .bct, .engines, .rings, .tags, .imgOp, .txn, .mgmt,
  .winnows, .tim, .tiles, .power, .evq, .now, .count, .replicas, .elapsed, .outbox], none⟩
theorem goes_execAutoTileReset {t : TileId} {s : State} (hF : fp_execAutoTileReset.le F = true) (hgo : Goes F s0 s) :
     Runs F s0 (execAutoTileReset t s) := by
  unfold execAutoTileReset
  try dsimp only
  repeat' first
    | with_reducible assumption
    | with_reducible refine Runs.next ?_
    | with_reducible refine Goes.tileReset (Foot.le_trans (by decide +kernel) hF) ?_
    | with_reducible refine Goes.advanceTo (Foot.le_trans (by decide +kernel) hF) ?_
    | with_reducible refine Goes.foldl ?_ ?_
    | split
    | intro _

/-- What `execReplayMemoryError` may change. -/
def fp_execReplayMemoryError : Foot := ⟨[.halves, .sides, .ports, .engines, .tiles, .evq], some [0x220018, 0x220010,
  0x200100, 0x40800F, 0x408008, 0x40800A, 0x408000, 0x40800C, 0xE0390, 0xE0380, 0xE0388, 0xE0210, 0xE0200, 0xE021E,
  0xE0208, 0xE021F, 0xE0280, 0xE0100, 0xE0001, 0x4000418, 0x4000413, 0x400041F, 0x4000294, 0x4000280, 0x400029D,
  0x400029E, 0x4000290, 0x400050E, 0x400051C, 0x4000513, 0x4000486, 0x4000480, 0x4000487, 0x4000398, 0x400038C,
  0x4000392, 0x4000386, 0x4000380, 0x400039E, 0x2000104, 0x200011E, 0x200010C, 0x2000100, 0x200011D, 0x2000108,
  0x200011F, 0x200090A, 0x200091C, 0x2000D05, 0x2000D03, 0x2000D06, 0x2000D10, 0x2000D00, 0x2000D1C, 0x2000D08,
  0x2000D18, 0x2000510, 0x2000508, 0x200048F, 0x2000498, 0x2000494, 0x200048E, 0x200048B, 0x2000488, 0x2000490,
  0x200049C, 0x2000492, 0x100097]⟩
theorem goes_execReplayMemoryError {q : SideId} {s : State} (hF : fp_execReplayMemoryError.le F = true) (hgo : Goes F s0 s) :
     Runs F s0 (execReplayMemoryError q s) := by
  unfold execReplayMemoryError
  try dsimp only
  repeat' first
    | with_reducible assumption
    | with_reducible refine Runs.next ?_
    | with_reducible refine Goes.noted (Foot.le_trans (by decide +kernel) hF) ?_
    | with_reducible refine Goes.faultSide (Foot.le_trans (by decide +kernel) hF) ?_
    | with_reducible refine Goes.foldl ?_ ?_
    | split
    | intro _

end Sys2Proof.Machine
end

