-- ==== Sys2Proof/Laws/Apart.lean ====
section
/-! SUPPORT. What a reset of some Ports and half-lanes spares: every other Port, side and half-lane, with its registers (R34, R413). -/

set_option linter.all false
set_option Elab.async false

namespace Sys2Proof.Machine

/-! ## The relation -/

variable {P H : Nat → Prop} {s0 x y : State}

theorem Apart.refl (P H : Nat → Prop) (s : State) : Apart P H s s :=
  ⟨fun _ _ => rfl, fun _ _ => rfl, fun _ _ => rfl, fun _ _ _ => rfl, fun _ j e => ⟨j, e, rfl⟩, fun _ => rfl, fun _ _ => rfl⟩

theorem Apart.trans (h1 : Apart P H s0 x) (h2 : Apart P H x y) : Apart P H s0 y :=
  ⟨fun p h => (h2.ports p h).trans (h1.ports p h), fun q h => (h2.sides q h).trans (h1.sides q h),
   fun a h => (h2.halves a h).trans (h1.halves a h), fun k h d => (h2.fields k h d).trans (h1.fields k h d),
   fun k j e => by
     obtain ⟨i, e1, e2⟩ := h2.jobs k j e
     obtain ⟨m, e3, e4⟩ := h1.jobs k i e1
     exact ⟨m, e3, e4.trans e2⟩,
   fun i => (h2.accesses i).trans (h1.accesses i), fun k i => (h2.waits k i).trans (h1.waits k i)⟩

/-- The three blocks of `spared`. -/
def blocks : List (Nat × Nat) := [(0x100000, 0x140000), (0x200000, 0x210000), (0x11000, 0x11800)]

theorem strip_block {lo hi : Nat} : ∀ (rows : List (Nat × Nat × Nat)),
    (∀ r ∈ rows, (lo ≤ r.1 ∧ r.2.1 ≤ hi) ∨ r.2.1 ≤ lo ∨ hi ≤ r.1) → ∀ o, lo ≤ o → o < hi → lo ≤ strip rows o ∧ strip rows o < hi := by
  intro rows
  induction rows with
  | nil => intro _ o h1 h2; exact ⟨h1, h2⟩
  | cons r rows ih =>
    obtain ⟨a, b, n⟩ := r
    intro hr o h1 h2
    unfold strip
    have h3 := hr (a, b, n) List.mem_cons_self
    have h4 := Nat.mod_le (o - a) n
    refine ih (fun r h => hr r (List.mem_cons_of_mem _ h)) _ ?_ ?_
    · split <;> simp only at h3 <;> omega
    · split <;> simp only at h3 <;> omega

/-- A spared field's name lies in the same block. -/
theorem fieldName_block {key : Nat} (b : Nat × Nat) (hb : b ∈ blocks) (h1 : b.1 ≤ key / 32) (h2 : key / 32 < b.2) :
    b.1 ≤ fieldName key / 32 ∧ fieldName key / 32 < b.2 := by
  have h3 : b.1 ≤ nameOf (key / 32) ∧ nameOf (key / 32) < b.2 := by
    refine strip_block arrays ?_ _ h1 h2
    have h5 : ∀ b ∈ blocks, ∀ r ∈ arrays, (b.1 ≤ r.1 ∧ r.2.1 ≤ b.2) ∨ r.2.1 ≤ b.1 ∨ b.2 ≤ r.1 := by decide +kernel
    exact h5 b hb
  have h4 : fieldName key / 32 = nameOf (key / 32) := by
    unfold fieldName
    dsimp only
    split
    · omega
    · split <;> omega
  rw [h4]; exact h3

/-- A footprint that meets no block and holds none of the tables by index. -/
def Foot.off (F : Foot) : Bool :=
  !F.parts.contains .halves && !F.parts.contains .sides && !F.parts.contains .ports && !F.parts.contains .engines &&
  !F.parts.contains .tiles && !F.parts.contains .rings &&
  (match F.fields with
    | none => false
    | some fs => fs.all (fun n => blocks.all (fun b => !(decide (b.1 ≤ n / 32) && decide (n / 32 < b.2)))))

theorem Apart.ofGoes {F : Foot} (hF : F.off = true) (g : Goes F x y) : Apart P H x y := by
  unfold Foot.off at hF
  simp only [Bool.and_eq_true, Bool.not_eq_true'] at hF
  obtain ⟨⟨⟨⟨⟨⟨h1, h2⟩, h3⟩, he⟩, ht⟩, hr⟩, h4⟩ := hF
  have hp : ∀ p, F.parts.contains p = false → p.same x y := fun p h => g.kept.parts p (fun m => by
    rw [List.contains_iff_mem.2 m] at h; exact Bool.noConfusion h)
  refine ⟨fun p _ => ?_, fun q _ => ?_, fun h _ => ?_, fun key hk d => ?_, fun k j e => ?_, fun i => ?_, fun k i => ?_⟩
  · exact congrArg (fun t => Tab.get t {} p) (hp _ h3)
  · exact congrArg (fun t => Tab.get t {} q) (hp _ h2)
  · exact congrArg (fun t => Tab.get t {} h) (hp _ h1)
  · split at h4
    · cases h4
    · rename_i fs hf
      refine g.kept.fields fs hf key (fun m => ?_) d
      have h5 := List.all_eq_true.1 h4 _ m
      rw [List.all_eq_true] at h5
      have h6 : ∀ b ∈ blocks, b.1 ≤ key / 32 → key / 32 < b.2 → False := by
        intro b hb ha hb2
        have h7 := h5 b hb
        have h8 := fieldName_block b hb ha hb2
        rw [decide_eq_true h8.1, decide_eq_true h8.2] at h7
        exact Bool.noConfusion h7
      rcases hk with ⟨ha, hb, -⟩ | ⟨ha, hb, -⟩ | ⟨ha, hb, -⟩
      · exact h6 (0x100000, 0x140000) (by decide) ha hb
      · exact h6 (0x200000, 0x210000) (by decide) ha hb
      · exact h6 (0x11000, 0x11800) (by decide) ha hb
  · have h5 : y.engine k = x.engine k := congrArg (fun t : Tab Engine => t.get {} k) (hp _ he)
    exact ⟨j, by rw [← h5]; exact e, rfl⟩
  · exact congrArg (fun t => (Tab.get t {} i).accesses) (hp _ ht)
  · exact congrArg (fun t => (Tab.get t {} (1024 * k + i % 1024)).waits) (hp _ hr)

/-! ## Changes of one table or one field -/

theorem Apart.upH {k : Nat} {f : Half → Half} (hk : H k) (h : Apart P H s0 x) : Apart P H s0 (x.upH k f) :=
  ⟨h.ports, h.sides, fun a ha => (Tab.get_set_ne _ _ _ (fun e => ha (by rw [e]; exact hk))).trans (h.halves a ha), h.fields, h.jobs, h.accesses, h.waits⟩
theorem Apart.upP {k : Nat} {f : PortX → PortX} (hk : P k) (h : Apart P H s0 x) : Apart P H s0 (x.upP k f) :=
  ⟨fun a ha => (Tab.get_set_ne _ _ _ (fun e => ha (by rw [e]; exact hk))).trans (h.ports a ha), h.sides, h.halves, h.fields, h.jobs, h.accesses, h.waits⟩
theorem Apart.upS {k : Nat} {f : Seg → Seg} (hk : P (k / 2)) (h : Apart P H s0 x) : Apart P H s0 (x.upS k f) :=
  ⟨h.ports, fun a ha => (Tab.get_set_ne _ _ _ (fun e => ha (by rw [e]; exact hk))).trans (h.sides a ha), h.halves, h.fields, h.jobs, h.accesses, h.waits⟩
theorem Apart.upE {k : Nat} {f : Engine → Engine} (hf : ∀ j, (f (x.engine k)).slot = some j → ∃ i, (x.engine k).slot = some i ∧ i.half = j.half)
    (h : Apart P H s0 x) : Apart P H s0 (x.upE k f) := by
  refine h.trans ⟨fun _ _ => rfl, fun _ _ => rfl, fun _ _ => rfl, fun _ _ _ => rfl, fun a j e => ?_, fun _ => rfl, fun _ _ => rfl⟩
  by_cases ha : a = k
  · have h1 : (x.upE k f).engine a = f (x.engine k) := by rw [ha]; exact Tab.get_set_same _ _ _ _
    rw [h1] at e
    rw [ha]
    exact hf _ e
  · have h1 : (x.upE k f).engine a = x.engine a := Tab.get_set_ne _ _ _ ha
    rw [h1] at e
    exact ⟨j, e, rfl⟩
/-- An engine given a job on a receiver whose job it held. -/
theorem Apart.giveJob {k : Nat} {f : Engine → Engine} {j : Job} (hj : ∃ i, (s0.engine k).slot = some i ∧ i.half = j.half)
    (hf : ∀ e, (f e).slot = some j) (h : Apart P H s0 x) : Apart P H s0 (x.upE k f) := by
  refine ⟨h.ports, h.sides, h.halves, h.fields, fun a i e => ?_, h.accesses, h.waits⟩
  by_cases ha : a = k
  · have h1 : (x.upE k f).engine a = f (x.engine k) := by rw [ha]; exact Tab.get_set_same _ _ _ _
    rw [h1, hf] at e
    cases e
    rw [ha]
    exact hj
  · have h1 : (x.upE k f).engine a = x.engine a := Tab.get_set_ne _ _ _ ha
    rw [h1] at e
    exact h.jobs a i e
theorem Apart.upT {k : Nat} {f : Tile → Tile} (hf : ∀ y, (f y).accesses = y.accesses) (h : Apart P H s0 x) :
    Apart P H s0 (x.upT k f) := by
  refine h.trans ⟨fun _ _ => rfl, fun _ _ => rfl, fun _ _ => rfl, fun _ _ _ => rfl, fun _ j e => ⟨j, e, rfl⟩, fun a => ?_, fun _ _ => rfl⟩
  by_cases ha : a = k
  · have h1 : (x.upT k f).tile a = f (x.tile k) := by rw [ha]; exact Tab.get_set_same _ _ _ _
    rw [h1, hf, ha]
  · exact congrArg Tile.accesses (Tab.get_set_ne _ _ _ ha)
theorem Apart.upR {k i : Nat} {f : RingX → RingX} (hf : ∀ y, (f y).waits = y.waits) (h : Apart P H s0 x) :
    Apart P H s0 (x.upR k i f) := by
  refine h.trans ⟨fun _ _ => rfl, fun _ _ => rfl, fun _ _ => rfl, fun _ _ _ => rfl, fun _ j e => ⟨j, e, rfl⟩, fun _ => rfl, fun a b => ?_⟩
  by_cases ha : 1024 * a + b % 1024 = 1024 * k + i % 1024
  · have h1 : (x.upR k i f).ringx a b = f (x.ringx k i) := by
      unfold State.ringx State.upR
      rw [ha]
      exact Tab.get_set_same _ _ _ _
    have h2 : x.ringx a b = x.ringx k i := by unfold State.ringx; rw [ha]
    rw [h1, hf, h2]
  · exact congrArg RingX.waits (Tab.get_set_ne _ _ _ ha)
theorem Apart.wr {c : Cell} {v : Nat} (hc : ¬spared P H (c.key / 32)) (h : Apart P H s0 x) : Apart P H s0 (x.wr c v) :=
  ⟨h.ports, h.sides, h.halves, fun k hk d => (x.get_wr_ne c v (fun e => hc (e ▸ hk)) d).trans (h.fields k hk d), h.jobs, h.accesses, h.waits⟩
theorem Apart.on {c : Cell} (hc : ¬spared P H (c.key / 32)) (h : Apart P H s0 x) : Apart P H s0 (x.on c) := Apart.wr hc h
theorem Apart.off {c : Cell} (hc : ¬spared P H (c.key / 32)) (h : Apart P H s0 x) : Apart P H s0 (x.off c) := Apart.wr hc h
theorem Apart.put {c : Cell} {b : Bool} (hc : ¬spared P H (c.key / 32)) (h : Apart P H s0 x) : Apart P H s0 (x.put c b) := Apart.wr hc h
theorem Apart.satUp {c : Cell} (hc : ¬spared P H (c.key / 32)) (h : Apart P H s0 x) : Apart P H s0 (x.satUp c) := Apart.wr hc h
theorem Apart.wrapUp {c : Cell} (hc : ¬spared P H (c.key / 32)) (h : Apart P H s0 x) : Apart P H s0 (x.wrapUp c) := Apart.wr hc h
theorem Apart.cold {c : Cell} (hc : ¬spared P H (c.key / 32)) (h : Apart P H s0 x) : Apart P H s0 (x.cold c) :=
  ⟨h.ports, h.sides, h.halves, fun k hk d => (x.get_cold_ne c (fun e => hc (e ▸ hk)) d).trans (h.fields k hk d), h.jobs, h.accesses, h.waits⟩
theorem Apart.coldAll {fs : List Field} (hc : ∀ f ∈ fs, ¬spared P H (f.cell.key / 32)) (h : Apart P H s0 x) :
    Apart P H s0 (x.coldAll fs) := by
  unfold State.coldAll
  induction fs generalizing x with
  | nil => exact h
  | cons f fs ih => exact ih (fun g hg => hc g (List.mem_cons_of_mem f hg)) (Apart.cold (hc f List.mem_cons_self) h)
theorem Apart.foldl {β : Type} {f : State → β → State} {l : List β} (hf : ∀ t, Apart P H s0 t → ∀ b ∈ l, Apart P H s0 (f t b))
    (h : Apart P H s0 x) : Apart P H s0 (l.foldl f x) := by
  induction l generalizing x with
  | nil => exact h
  | cons b l ih => exact ih (fun t ht c hc => hf t ht c (List.mem_cons_of_mem b hc)) (hf x h b List.mem_cons_self)
theorem Apart.each {f : State → Nat → State} {l : List Nat} (hf : ∀ t, Apart P H s0 t → ∀ b ∈ l, Apart P H s0 (f t b))
    (h : Apart P H s0 x) : Apart P H s0 (x.each l f) := Apart.foldl hf h

/-! ## What belongs to the Ports and half-lanes in question -/

/-- The Ports and half-lanes stand in the device, and the sides of the Ports claim only half-lanes among them. -/
structure Covers (P H : Nat → Prop) (s : State) : Prop where
  ports : ∀ p, P p → p < 64
  halves : ∀ h, H h → h < 512
  members : ∀ q, P (q / 2) → ∀ h ∈ s.members q, H h

/-- A half-lane that a side of the Ports claims. -/
def Mem (P : Nat → Prop) (s : State) (h : Nat) : Prop := ∃ q, P (q / 2) ∧ h ∈ s.members q

theorem Mem.half (hc : Covers P H s0) {h : Nat} (m : Mem P s0 h) : H h := by
  obtain ⟨q, hq, hm⟩ := m
  exact hc.members q hq h hm

theorem own_cell {c : Cell} (h : ¬spared P H c.off) (hl : c.lo < 32) : ¬spared P H (c.key / 32) := by
  have h1 : c.key / 32 = c.off := by unfold Cell.key; omega
  rw [h1]; exact h

theorem own_port (hc : Covers P H s0) {p o : Nat} (h : P p) (h0 : 0 < o) (h1 : o < 0x1000) :
    ¬spared P H (0x100000 + 0x1000 * (p % 64) + o) := by
  have h2 := hc.ports p h
  have h3 : (0x100000 + 0x1000 * (p % 64) + o - 0x100000) / 0x1000 = p := by omega
  rintro (⟨_, _, h4 | h4⟩ | ⟨_, _, _⟩ | ⟨_, _, _⟩)
  · omega
  · rw [h3] at h4; exact h4 h
  · omega
  · omega

theorem own_half (hc : Covers P H s0) {n o : Nat} (h : H n) (h0 : 0x10 ≤ o) (h1 : o < 0x40) :
    ¬spared P H (0x200000 + 0x100 * (n / 2 % 256) + 0x40 * (n % 2) + o) := by
  have h2 := hc.halves n h
  have h3 : 2 * ((0x200000 + 0x100 * (n / 2 % 256) + 0x40 * (n % 2) + o - 0x200000) / 0x100) +
      ((0x200000 + 0x100 * (n / 2 % 256) + 0x40 * (n % 2) + o) % 0x100 - 0x10) / 0x40 = n := by omega
  rintro (⟨_, _, _⟩ | ⟨_, _, h4 | h4⟩ | ⟨_, _, _⟩)
  · omega
  · omega
  · rw [h3] at h4; exact h4 h
  · omega

theorem own_cal (hc : Covers P H s0) {n : Nat} (h : H n) : ¬spared P H (0x11000 + 4 * (n % 512)) := by
  have h2 := hc.halves n h
  have h3 : (0x11000 + 4 * (n % 512) - 0x11000) / 4 = n := by omega
  rintro (⟨_, _, _⟩ | ⟨_, _, _⟩ | ⟨_, _, h4⟩)
  · omega
  · omega
  · rw [h3] at h4; exact h4 h

theorem own_PRT_DP_STATUS (hc : Covers P H s0) {p : Nat} (h : P p) : ¬spared P H (PRT_DP_STATUS.off p) :=
  own_port hc h (by decide) (by decide)

theorem own_PRT_DP_STATUS_FLIT (hc : Covers P H s0) {p : Nat} (h : P p) : ¬spared P H ((PRT_DP_STATUS.FLIT p).key / 32) :=
  own_cell (own_PRT_DP_STATUS hc h) (Nat.le_of_ble_eq_true rfl)

theorem own_PRT_DP_STATUS_A_REVERSED (hc : Covers P H s0) {p : Nat} (h : P p) : ¬spared P H ((PRT_DP_STATUS.A_REVERSED p).key / 32) :=
  own_cell (own_PRT_DP_STATUS hc h) (Nat.le_of_ble_eq_true rfl)

theorem own_PRT_DP_STATUS_B_REVERSED (hc : Covers P H s0) {p : Nat} (h : P p) : ¬spared P H ((PRT_DP_STATUS.B_REVERSED p).key / 32) :=
  own_cell (own_PRT_DP_STATUS hc h) (Nat.le_of_ble_eq_true rfl)

theorem own_PRT_DP_STATUS_DESKEW_FAIL (hc : Covers P H s0) {p : Nat} (h : P p) : ¬spared P H ((PRT_DP_STATUS.DESKEW_FAIL p).key / 32) :=
  own_cell (own_PRT_DP_STATUS hc h) (Nat.le_of_ble_eq_true rfl)

theorem own_PRT_DP_STATUS_EB_SLIP (hc : Covers P H s0) {p : Nat} (h : P p) : ¬spared P H ((PRT_DP_STATUS.EB_SLIP p).key / 32) :=
  own_cell (own_PRT_DP_STATUS hc h) (Nat.le_of_ble_eq_true rfl)

theorem own_PRT_DP_STATUS_EB_SLIP_CNT (hc : Covers P H s0) {p : Nat} (h : P p) : ¬spared P H ((PRT_DP_STATUS.EB_SLIP_CNT p).key / 32) :=
  own_cell (own_PRT_DP_STATUS hc h) (Nat.le_of_ble_eq_true rfl)

theorem own_PRT_DP_STATUS_A_SLOT_NOW (hc : Covers P H s0) {p : Nat} (h : P p) : ¬spared P H ((PRT_DP_STATUS.A_SLOT_NOW p).key / 32) :=
  own_cell (own_PRT_DP_STATUS hc h) (Nat.le_of_ble_eq_true rfl)

theorem own_PRT_DP_STATUS_B_SLOT_NOW (hc : Covers P H s0) {p : Nat} (h : P p) : ¬spared P H ((PRT_DP_STATUS.B_SLOT_NOW p).key / 32) :=
  own_cell (own_PRT_DP_STATUS hc h) (Nat.le_of_ble_eq_true rfl)

theorem own_PRT_DP_STATUS_A_ALIGN (hc : Covers P H s0) {p : Nat} (h : P p) : ¬spared P H ((PRT_DP_STATUS.A_ALIGN p).key / 32) :=
  own_cell (own_PRT_DP_STATUS hc h) (Nat.le_of_ble_eq_true rfl)

theorem own_PRT_DP_STATUS_B_ALIGN (hc : Covers P H s0) {p : Nat} (h : P p) : ¬spared P H ((PRT_DP_STATUS.B_ALIGN p).key / 32) :=
  own_cell (own_PRT_DP_STATUS hc h) (Nat.le_of_ble_eq_true rfl)

theorem own_PRT_DP_STATUS_fields (hc : Covers P H s0) {p : Nat} (h : P p) : ∀ f ∈ PRT_DP_STATUS.fields p, ¬spared P H (f.cell.key / 32) := by
  intro f hf
  simp only [PRT_DP_STATUS.fields, List.mem_cons, List.not_mem_nil, or_false] at hf
  rcases hf with rfl | rfl | rfl | rfl | rfl | rfl | rfl | rfl | rfl | rfl
  all_goals exact own_cell (own_PRT_DP_STATUS hc h) (Nat.le_of_ble_eq_true rfl)

theorem own_PRT_TRN_STATUS (hc : Covers P H s0) {p : Nat} (h : P p) : ¬spared P H (PRT_TRN_STATUS.off p) :=
  own_port hc h (by decide) (by decide)

theorem own_PRT_TRN_STATUS_STATE (hc : Covers P H s0) {p : Nat} (h : P p) : ¬spared P H ((PRT_TRN_STATUS.STATE p).key / 32) :=
  own_cell (own_PRT_TRN_STATUS hc h) (Nat.le_of_ble_eq_true rfl)

theorem own_PRT_TRN_STATUS_EQ_PHASE (hc : Covers P H s0) {p : Nat} (h : P p) : ¬spared P H ((PRT_TRN_STATUS.EQ_PHASE p).key / 32) :=
  own_cell (own_PRT_TRN_STATUS hc h) (Nat.le_of_ble_eq_true rfl)

theorem own_PRT_TRN_STATUS_EQ_SLOT (hc : Covers P H s0) {p : Nat} (h : P p) : ¬spared P H ((PRT_TRN_STATUS.EQ_SLOT p).key / 32) :=
  own_cell (own_PRT_TRN_STATUS hc h) (Nat.le_of_ble_eq_true rfl)

theorem own_PRT_TRN_STATUS_UP_SIDE (hc : Covers P H s0) {p : Nat} (h : P p) : ¬spared P H ((PRT_TRN_STATUS.UP_SIDE p).key / 32) :=
  own_cell (own_PRT_TRN_STATUS hc h) (Nat.le_of_ble_eq_true rfl)

theorem own_PRT_TRN_STATUS_RETIMER_POS (hc : Covers P H s0) {p : Nat} (h : P p) : ¬spared P H ((PRT_TRN_STATUS.RETIMER_POS p).key / 32) :=
  own_cell (own_PRT_TRN_STATUS hc h) (Nat.le_of_ble_eq_true rfl)

theorem own_PRT_TRN_STATUS_CXL (hc : Covers P H s0) {p : Nat} (h : P p) : ¬spared P H ((PRT_TRN_STATUS.CXL p).key / 32) :=
  own_cell (own_PRT_TRN_STATUS hc h) (Nat.le_of_ble_eq_true rfl)

theorem own_PRT_TRN_STATUS_L0P (hc : Covers P H s0) {p : Nat} (h : P p) : ¬spared P H ((PRT_TRN_STATUS.L0P p).key / 32) :=
  own_cell (own_PRT_TRN_STATUS hc h) (Nat.le_of_ble_eq_true rfl)

theorem own_PRT_TRN_STATUS_LP_KIND (hc : Covers P H s0) {p : Nat} (h : P p) : ¬spared P H ((PRT_TRN_STATUS.LP_KIND p).key / 32) :=
  own_cell (own_PRT_TRN_STATUS hc h) (Nat.le_of_ble_eq_true rfl)

theorem own_PRT_TRN_STATUS_NEG_WIDTH (hc : Covers P H s0) {p : Nat} (h : P p) : ¬spared P H ((PRT_TRN_STATUS.NEG_WIDTH p).key / 32) :=
  own_cell (own_PRT_TRN_STATUS hc h) (Nat.le_of_ble_eq_true rfl)

theorem own_PRT_TRN_STATUS_NONFLIT_COUNT (hc : Covers P H s0) {p : Nat} (h : P p) : ¬spared P H ((PRT_TRN_STATUS.NONFLIT_COUNT p).key / 32) :=
  own_cell (own_PRT_TRN_STATUS hc h) (Nat.le_of_ble_eq_true rfl)

theorem own_PRT_TRN_STATUS_fields (hc : Covers P H s0) {p : Nat} (h : P p) : ∀ f ∈ PRT_TRN_STATUS.fields p, ¬spared P H (f.cell.key / 32) := by
  intro f hf
  simp only [PRT_TRN_STATUS.fields, List.mem_cons, List.not_mem_nil, or_false] at hf
  rcases hf with rfl | rfl | rfl | rfl | rfl | rfl | rfl | rfl | rfl | rfl
  all_goals exact own_cell (own_PRT_TRN_STATUS hc h) (Nat.le_of_ble_eq_true rfl)

theorem own_PRT_TRN_EVENTS (hc : Covers P H s0) {p : Nat} (h : P p) : ¬spared P H (PRT_TRN_EVENTS.off p) :=
  own_port hc h (by decide) (by decide)

theorem own_PRT_TRN_EVENTS_PARTNER_LOST_A (hc : Covers P H s0) {p : Nat} (h : P p) : ¬spared P H ((PRT_TRN_EVENTS.PARTNER_LOST_A p).key / 32) :=
  own_cell (own_PRT_TRN_EVENTS hc h) (Nat.le_of_ble_eq_true rfl)

theorem own_PRT_TRN_EVENTS_PARTNER_LOST_B (hc : Covers P H s0) {p : Nat} (h : P p) : ¬spared P H ((PRT_TRN_EVENTS.PARTNER_LOST_B p).key / 32) :=
  own_cell (own_PRT_TRN_EVENTS hc h) (Nat.le_of_ble_eq_true rfl)

theorem own_PRT_TRN_EVENTS_TRN_TIMEOUT (hc : Covers P H s0) {p : Nat} (h : P p) : ¬spared P H ((PRT_TRN_EVENTS.TRN_TIMEOUT p).key / 32) :=
  own_cell (own_PRT_TRN_EVENTS hc h) (Nat.le_of_ble_eq_true rfl)

theorem own_PRT_TRN_EVENTS_NONFLIT_REFUSED (hc : Covers P H s0) {p : Nat} (h : P p) : ¬spared P H ((PRT_TRN_EVENTS.NONFLIT_REFUSED p).key / 32) :=
  own_cell (own_PRT_TRN_EVENTS hc h) (Nat.le_of_ble_eq_true rfl)

theorem own_PRT_TRN_EVENTS_LOOPBACK_REFUSED (hc : Covers P H s0) {p : Nat} (h : P p) : ¬spared P H ((PRT_TRN_EVENTS.LOOPBACK_REFUSED p).key / 32) :=
  own_cell (own_PRT_TRN_EVENTS hc h) (Nat.le_of_ble_eq_true rfl)

theorem own_PRT_TRN_EVENTS_EQ_REQ_REJECTED (hc : Covers P H s0) {p : Nat} (h : P p) : ¬spared P H ((PRT_TRN_EVENTS.EQ_REQ_REJECTED p).key / 32) :=
  own_cell (own_PRT_TRN_EVENTS hc h) (Nat.le_of_ble_eq_true rfl)

theorem own_PRT_TRN_EVENTS_EQ_BELOW_TARGET (hc : Covers P H s0) {p : Nat} (h : P p) : ¬spared P H ((PRT_TRN_EVENTS.EQ_BELOW_TARGET p).key / 32) :=
  own_cell (own_PRT_TRN_EVENTS hc h) (Nat.le_of_ble_eq_true rfl)

theorem own_PRT_TRN_EVENTS_DETECT_CNT (hc : Covers P H s0) {p : Nat} (h : P p) : ¬spared P H ((PRT_TRN_EVENTS.DETECT_CNT p).key / 32) :=
  own_cell (own_PRT_TRN_EVENTS hc h) (Nat.le_of_ble_eq_true rfl)

theorem own_PRT_TRN_EVENTS_RECOVERY_CNT (hc : Covers P H s0) {p : Nat} (h : P p) : ¬spared P H ((PRT_TRN_EVENTS.RECOVERY_CNT p).key / 32) :=
  own_cell (own_PRT_TRN_EVENTS hc h) (Nat.le_of_ble_eq_true rfl)

theorem own_PRT_TRN_EVENTS_RATE_CHG_CNT (hc : Covers P H s0) {p : Nat} (h : P p) : ¬spared P H ((PRT_TRN_EVENTS.RATE_CHG_CNT p).key / 32) :=
  own_cell (own_PRT_TRN_EVENTS hc h) (Nat.le_of_ble_eq_true rfl)

theorem own_PRT_TRN_EVENTS_fields (hc : Covers P H s0) {p : Nat} (h : P p) : ∀ f ∈ PRT_TRN_EVENTS.fields p, ¬spared P H (f.cell.key / 32) := by
  intro f hf
  simp only [PRT_TRN_EVENTS.fields, List.mem_cons, List.not_mem_nil, or_false] at hf
  rcases hf with rfl | rfl | rfl | rfl | rfl | rfl | rfl | rfl | rfl | rfl
  all_goals exact own_cell (own_PRT_TRN_EVENTS hc h) (Nat.le_of_ble_eq_true rfl)

theorem own_PRT_SKP_ADJ (hc : Covers P H s0) {q : Nat} (h : P (q / 2)) : ¬spared P H (PRT_SKP_ADJ.off q) :=
  by unfold PRT_SKP_ADJ.off; rw [Nat.add_assoc]; exact own_port hc h (by omega) (by omega)

theorem own_PRT_SKP_ADJ_ADD (hc : Covers P H s0) {q : Nat} (h : P (q / 2)) : ¬spared P H ((PRT_SKP_ADJ.ADD q).key / 32) :=
  own_cell (own_PRT_SKP_ADJ hc h) (Nat.le_of_ble_eq_true rfl)

theorem own_PRT_SKP_ADJ_DEL (hc : Covers P H s0) {q : Nat} (h : P (q / 2)) : ¬spared P H ((PRT_SKP_ADJ.DEL q).key / 32) :=
  own_cell (own_PRT_SKP_ADJ hc h) (Nat.le_of_ble_eq_true rfl)

theorem own_PRT_SKP_ADJ_fields (hc : Covers P H s0) {q : Nat} (h : P (q / 2)) : ∀ f ∈ PRT_SKP_ADJ.fields q, ¬spared P H (f.cell.key / 32) := by
  intro f hf
  simp only [PRT_SKP_ADJ.fields, List.mem_cons, List.not_mem_nil, or_false] at hf
  rcases hf with rfl | rfl
  all_goals exact own_cell (own_PRT_SKP_ADJ hc h) (Nat.le_of_ble_eq_true rfl)

theorem own_PRT_SEG_STATUS (hc : Covers P H s0) {q : Nat} (h : P (q / 2)) : ¬spared P H (PRT_SEG_STATUS.off q) :=
  by unfold PRT_SEG_STATUS.off; rw [Nat.add_assoc]; exact own_port hc h (by omega) (by omega)

theorem own_PRT_SEG_STATUS_STATE (hc : Covers P H s0) {q : Nat} (h : P (q / 2)) : ¬spared P H ((PRT_SEG_STATUS.STATE q).key / 32) :=
  own_cell (own_PRT_SEG_STATUS hc h) (Nat.le_of_ble_eq_true rfl)

theorem own_PRT_SEG_STATUS_LAST_FAIL (hc : Covers P H s0) {q : Nat} (h : P (q / 2)) : ¬spared P H ((PRT_SEG_STATUS.LAST_FAIL q).key / 32) :=
  own_cell (own_PRT_SEG_STATUS hc h) (Nat.le_of_ble_eq_true rfl)

theorem own_PRT_SEG_STATUS_ATTEMPTS (hc : Covers P H s0) {q : Nat} (h : P (q / 2)) : ¬spared P H ((PRT_SEG_STATUS.ATTEMPTS q).key / 32) :=
  own_cell (own_PRT_SEG_STATUS hc h) (Nat.le_of_ble_eq_true rfl)

theorem own_PRT_SEG_STATUS_RTT (hc : Covers P H s0) {q : Nat} (h : P (q / 2)) : ¬spared P H ((PRT_SEG_STATUS.RTT q).key / 32) :=
  own_cell (own_PRT_SEG_STATUS hc h) (Nat.le_of_ble_eq_true rfl)

theorem own_PRT_SEG_STATUS_PARTNER (hc : Covers P H s0) {q : Nat} (h : P (q / 2)) : ¬spared P H ((PRT_SEG_STATUS.PARTNER q).key / 32) :=
  own_cell (own_PRT_SEG_STATUS hc h) (Nat.le_of_ble_eq_true rfl)

theorem own_PRT_SEG_STATUS_HOPS (hc : Covers P H s0) {q : Nat} (h : P (q / 2)) : ¬spared P H ((PRT_SEG_STATUS.HOPS q).key / 32) :=
  own_cell (own_PRT_SEG_STATUS hc h) (Nat.le_of_ble_eq_true rfl)

theorem own_PRT_SEG_STATUS_CHAIN_TOO_LONG (hc : Covers P H s0) {q : Nat} (h : P (q / 2)) : ¬spared P H ((PRT_SEG_STATUS.CHAIN_TOO_LONG q).key / 32) :=
  own_cell (own_PRT_SEG_STATUS hc h) (Nat.le_of_ble_eq_true rfl)

theorem own_PRT_SEG_STATUS_PARTNER_LOST (hc : Covers P H s0) {q : Nat} (h : P (q / 2)) : ¬spared P H ((PRT_SEG_STATUS.PARTNER_LOST q).key / 32) :=
  own_cell (own_PRT_SEG_STATUS hc h) (Nat.le_of_ble_eq_true rfl)

theorem own_PRT_SEG_STATUS_RTT_OVER (hc : Covers P H s0) {q : Nat} (h : P (q / 2)) : ¬spared P H ((PRT_SEG_STATUS.RTT_OVER q).key / 32) :=
  own_cell (own_PRT_SEG_STATUS hc h) (Nat.le_of_ble_eq_true rfl)

theorem own_PRT_SEG_STATUS_REPLAY_FULL (hc : Covers P H s0) {q : Nat} (h : P (q / 2)) : ¬spared P H ((PRT_SEG_STATUS.REPLAY_FULL q).key / 32) :=
  own_cell (own_PRT_SEG_STATUS hc h) (Nat.le_of_ble_eq_true rfl)

theorem own_PRT_SEG_STATUS_FLIT_DROP (hc : Covers P H s0) {q : Nat} (h : P (q / 2)) : ¬spared P H ((PRT_SEG_STATUS.FLIT_DROP q).key / 32) :=
  own_cell (own_PRT_SEG_STATUS hc h) (Nat.le_of_ble_eq_true rfl)

theorem own_PRT_SEG_STATUS_STUFF_HIGH (hc : Covers P H s0) {q : Nat} (h : P (q / 2)) : ¬spared P H ((PRT_SEG_STATUS.STUFF_HIGH q).key / 32) :=
  own_cell (own_PRT_SEG_STATUS hc h) (Nat.le_of_ble_eq_true rfl)

theorem own_PRT_SEG_STATUS_RETRY_EXHAUSTED (hc : Covers P H s0) {q : Nat} (h : P (q / 2)) : ¬spared P H ((PRT_SEG_STATUS.RETRY_EXHAUSTED q).key / 32) :=
  own_cell (own_PRT_SEG_STATUS hc h) (Nat.le_of_ble_eq_true rfl)

theorem own_PRT_SEG_STATUS_fields (hc : Covers P H s0) {q : Nat} (h : P (q / 2)) : ∀ f ∈ PRT_SEG_STATUS.fields q, ¬spared P H (f.cell.key / 32) := by
  intro f hf
  simp only [PRT_SEG_STATUS.fields, List.mem_cons, List.not_mem_nil, or_false] at hf
  rcases hf with rfl | rfl | rfl | rfl | rfl | rfl | rfl | rfl | rfl | rfl | rfl | rfl | rfl
  all_goals exact own_cell (own_PRT_SEG_STATUS hc h) (Nat.le_of_ble_eq_true rfl)

theorem own_PRT_SEG_CNT (hc : Covers P H s0) {q : Nat} (h : P (q / 2)) : ¬spared P H (PRT_SEG_CNT.off q) :=
  by unfold PRT_SEG_CNT.off; rw [Nat.add_assoc]; exact own_port hc h (by omega) (by omega)

theorem own_PRT_SEG_CNT_NAK_SENT (hc : Covers P H s0) {q : Nat} (h : P (q / 2)) : ¬spared P H ((PRT_SEG_CNT.NAK_SENT q).key / 32) :=
  own_cell (own_PRT_SEG_CNT hc h) (Nat.le_of_ble_eq_true rfl)

theorem own_PRT_SEG_CNT_REPLAYS (hc : Covers P H s0) {q : Nat} (h : P (q / 2)) : ¬spared P H ((PRT_SEG_CNT.REPLAYS q).key / 32) :=
  own_cell (own_PRT_SEG_CNT hc h) (Nat.le_of_ble_eq_true rfl)

theorem own_PRT_SEG_CNT_fields (hc : Covers P H s0) {q : Nat} (h : P (q / 2)) : ∀ f ∈ PRT_SEG_CNT.fields q, ¬spared P H (f.cell.key / 32) := by
  intro f hf
  simp only [PRT_SEG_CNT.fields, List.mem_cons, List.not_mem_nil, or_false] at hf
  rcases hf with rfl | rfl
  all_goals exact own_cell (own_PRT_SEG_CNT hc h) (Nat.le_of_ble_eq_true rfl)

theorem own_PRT_TRL_STATUS (hc : Covers P H s0) {q : Nat} (h : P (q / 2)) : ¬spared P H (PRT_TRL_STATUS.off q) :=
  by unfold PRT_TRL_STATUS.off; rw [Nat.add_assoc]; exact own_port hc h (by omega) (by omega)

theorem own_PRT_TRL_STATUS_STEER_STATE (hc : Covers P H s0) {q : Nat} (h : P (q / 2)) : ¬spared P H ((PRT_TRL_STATUS.STEER_STATE q).key / 32) :=
  own_cell (own_PRT_TRL_STATUS hc h) (Nat.le_of_ble_eq_true rfl)

theorem own_PRT_TRL_STATUS_XMIT_STATE (hc : Covers P H s0) {q : Nat} (h : P (q / 2)) : ¬spared P H ((PRT_TRL_STATUS.XMIT_STATE q).key / 32) :=
  own_cell (own_PRT_TRL_STATUS hc h) (Nat.le_of_ble_eq_true rfl)

theorem own_PRT_TRL_STATUS_RX_EPOCH (hc : Covers P H s0) {q : Nat} (h : P (q / 2)) : ¬spared P H ((PRT_TRL_STATUS.RX_EPOCH q).key / 32) :=
  own_cell (own_PRT_TRL_STATUS hc h) (Nat.le_of_ble_eq_true rfl)

theorem own_PRT_TRL_STATUS_TX_EPOCH (hc : Covers P H s0) {q : Nat} (h : P (q / 2)) : ¬spared P H ((PRT_TRL_STATUS.TX_EPOCH q).key / 32) :=
  own_cell (own_PRT_TRL_STATUS hc h) (Nat.le_of_ble_eq_true rfl)

theorem own_PRT_TRL_STATUS_READY_SPARES (hc : Covers P H s0) {q : Nat} (h : P (q / 2)) : ¬spared P H ((PRT_TRL_STATUS.READY_SPARES q).key / 32) :=
  own_cell (own_PRT_TRL_STATUS hc h) (Nat.le_of_ble_eq_true rfl)

theorem own_PRT_TRL_STATUS_DEGRADED (hc : Covers P H s0) {q : Nat} (h : P (q / 2)) : ¬spared P H ((PRT_TRL_STATUS.DEGRADED q).key / 32) :=
  own_cell (own_PRT_TRL_STATUS hc h) (Nat.le_of_ble_eq_true rfl)

theorem own_PRT_TRL_STATUS_NO_SPARE (hc : Covers P H s0) {q : Nat} (h : P (q / 2)) : ¬spared P H ((PRT_TRL_STATUS.NO_SPARE q).key / 32) :=
  own_cell (own_PRT_TRL_STATUS hc h) (Nat.le_of_ble_eq_true rfl)

theorem own_PRT_TRL_STATUS_PORT_FAULT (hc : Covers P H s0) {q : Nat} (h : P (q / 2)) : ¬spared P H ((PRT_TRL_STATUS.PORT_FAULT q).key / 32) :=
  own_cell (own_PRT_TRL_STATUS hc h) (Nat.le_of_ble_eq_true rfl)

theorem own_PRT_TRL_STATUS_REMAPPED (hc : Covers P H s0) {q : Nat} (h : P (q / 2)) : ¬spared P H ((PRT_TRL_STATUS.REMAPPED q).key / 32) :=
  own_cell (own_PRT_TRL_STATUS hc h) (Nat.le_of_ble_eq_true rfl)

theorem own_PRT_TRL_STATUS_CANCELLED (hc : Covers P H s0) {q : Nat} (h : P (q / 2)) : ¬spared P H ((PRT_TRL_STATUS.CANCELLED q).key / 32) :=
  own_cell (own_PRT_TRL_STATUS hc h) (Nat.le_of_ble_eq_true rfl)

theorem own_PRT_TRL_STATUS_SPARE_LOST (hc : Covers P H s0) {q : Nat} (h : P (q / 2)) : ¬spared P H ((PRT_TRL_STATUS.SPARE_LOST q).key / 32) :=
  own_cell (own_PRT_TRL_STATUS hc h) (Nat.le_of_ble_eq_true rfl)

theorem own_PRT_TRL_STATUS_fields (hc : Covers P H s0) {q : Nat} (h : P (q / 2)) : ∀ f ∈ PRT_TRL_STATUS.fields q, ¬spared P H (f.cell.key / 32) := by
  intro f hf
  simp only [PRT_TRL_STATUS.fields, List.mem_cons, List.not_mem_nil, or_false] at hf
  rcases hf with rfl | rfl | rfl | rfl | rfl | rfl | rfl | rfl | rfl | rfl | rfl
  all_goals exact own_cell (own_PRT_TRL_STATUS hc h) (Nat.le_of_ble_eq_true rfl)

theorem own_PRT_TRL_CNT (hc : Covers P H s0) {q : Nat} (h : P (q / 2)) : ¬spared P H (PRT_TRL_CNT.off q) :=
  by unfold PRT_TRL_CNT.off; rw [Nat.add_assoc]; exact own_port hc h (by omega) (by omega)

theorem own_PRT_TRL_CNT_PROPOSE_CNT (hc : Covers P H s0) {q : Nat} (h : P (q / 2)) : ¬spared P H ((PRT_TRL_CNT.PROPOSE_CNT q).key / 32) :=
  own_cell (own_PRT_TRL_CNT hc h) (Nat.le_of_ble_eq_true rfl)

theorem own_PRT_TRL_CNT_COMMIT_CNT (hc : Covers P H s0) {q : Nat} (h : P (q / 2)) : ¬spared P H ((PRT_TRL_CNT.COMMIT_CNT q).key / 32) :=
  own_cell (own_PRT_TRL_CNT hc h) (Nat.le_of_ble_eq_true rfl)

theorem own_PRT_TRL_CNT_CANCEL_CNT (hc : Covers P H s0) {q : Nat} (h : P (q / 2)) : ¬spared P H ((PRT_TRL_CNT.CANCEL_CNT q).key / 32) :=
  own_cell (own_PRT_TRL_CNT hc h) (Nat.le_of_ble_eq_true rfl)

theorem own_PRT_TRL_CNT_REFUSE_CNT (hc : Covers P H s0) {q : Nat} (h : P (q / 2)) : ¬spared P H ((PRT_TRL_CNT.REFUSE_CNT q).key / 32) :=
  own_cell (own_PRT_TRL_CNT hc h) (Nat.le_of_ble_eq_true rfl)

theorem own_PRT_TRL_CNT_fields (hc : Covers P H s0) {q : Nat} (h : P (q / 2)) : ∀ f ∈ PRT_TRL_CNT.fields q, ¬spared P H (f.cell.key / 32) := by
  intro f hf
  simp only [PRT_TRL_CNT.fields, List.mem_cons, List.not_mem_nil, or_false] at hf
  rcases hf with rfl | rfl | rfl | rfl
  all_goals exact own_cell (own_PRT_TRL_CNT hc h) (Nat.le_of_ble_eq_true rfl)

theorem own_LCH_FOM (hc : Covers P H s0) {n : Nat} (h : H n) : ¬spared P H (LCH_FOM.off n) :=
  own_half hc h (by decide) (by decide)

theorem own_LCH_FOM_SIGDET (hc : Covers P H s0) {n : Nat} (h : H n) : ¬spared P H ((LCH_FOM.SIGDET n).key / 32) :=
  own_cell (own_LCH_FOM hc h) (Nat.le_of_ble_eq_true rfl)

theorem own_LCH_FOM_LOCK (hc : Covers P H s0) {n : Nat} (h : H n) : ¬spared P H ((LCH_FOM.LOCK n).key / 32) :=
  own_cell (own_LCH_FOM hc h) (Nat.le_of_ble_eq_true rfl)

theorem own_LCH_FOM_FOM_VALID (hc : Covers P H s0) {n : Nat} (h : H n) : ¬spared P H ((LCH_FOM.FOM_VALID n).key / 32) :=
  own_cell (own_LCH_FOM hc h) (Nat.le_of_ble_eq_true rfl)

theorem own_LCH_FOM_BELOW_TARGET (hc : Covers P H s0) {n : Nat} (h : H n) : ¬spared P H ((LCH_FOM.BELOW_TARGET n).key / 32) :=
  own_cell (own_LCH_FOM hc h) (Nat.le_of_ble_eq_true rfl)

theorem own_LCH_FOM_WARN (hc : Covers P H s0) {n : Nat} (h : H n) : ¬spared P H ((LCH_FOM.WARN n).key / 32) :=
  own_cell (own_LCH_FOM hc h) (Nat.le_of_ble_eq_true rfl)

theorem own_LCH_FOM_FAULT_SEEN (hc : Covers P H s0) {n : Nat} (h : H n) : ¬spared P H ((LCH_FOM.FAULT_SEEN n).key / 32) :=
  own_cell (own_LCH_FOM hc h) (Nat.le_of_ble_eq_true rfl)

theorem own_LCH_FOM_ADAPT_STATE (hc : Covers P H s0) {n : Nat} (h : H n) : ¬spared P H ((LCH_FOM.ADAPT_STATE n).key / 32) :=
  own_cell (own_LCH_FOM hc h) (Nat.le_of_ble_eq_true rfl)

theorem own_LCH_FOM_RATE_SLOT (hc : Covers P H s0) {n : Nat} (h : H n) : ¬spared P H ((LCH_FOM.RATE_SLOT n).key / 32) :=
  own_cell (own_LCH_FOM hc h) (Nat.le_of_ble_eq_true rfl)

theorem own_LCH_FOM_FOM_MIN (hc : Covers P H s0) {n : Nat} (h : H n) : ¬spared P H ((LCH_FOM.FOM_MIN n).key / 32) :=
  own_cell (own_LCH_FOM hc h) (Nat.le_of_ble_eq_true rfl)

theorem own_LCH_FOM_FOM (hc : Covers P H s0) {n : Nat} (h : H n) : ¬spared P H ((LCH_FOM.FOM n).key / 32) :=
  own_cell (own_LCH_FOM hc h) (Nat.le_of_ble_eq_true rfl)

theorem own_LCH_FOM_fields (hc : Covers P H s0) {n : Nat} (h : H n) : ∀ f ∈ LCH_FOM.fields n, ¬spared P H (f.cell.key / 32) := by
  intro f hf
  simp only [LCH_FOM.fields, List.mem_cons, List.not_mem_nil, or_false] at hf
  rcases hf with rfl | rfl | rfl | rfl | rfl | rfl | rfl | rfl | rfl | rfl
  all_goals exact own_cell (own_LCH_FOM hc h) (Nat.le_of_ble_eq_true rfl)

theorem own_LCH_RX_EQ (hc : Covers P H s0) {n : Nat} (h : H n) : ¬spared P H (LCH_RX_EQ.off n) :=
  own_half hc h (by decide) (by decide)

theorem own_LCH_RX_EQ_TABLE_DEFAULT (hc : Covers P H s0) {n : Nat} (h : H n) : ¬spared P H ((LCH_RX_EQ.TABLE_DEFAULT n).key / 32) :=
  own_cell (own_LCH_RX_EQ hc h) (Nat.le_of_ble_eq_true rfl)

theorem own_LCH_RX_EQ_WARM (hc : Covers P H s0) {n : Nat} (h : H n) : ¬spared P H ((LCH_RX_EQ.WARM n).key / 32) :=
  own_cell (own_LCH_RX_EQ hc h) (Nat.le_of_ble_eq_true rfl)

theorem own_LCH_RX_EQ_CTLE (hc : Covers P H s0) {n : Nat} (h : H n) : ¬spared P H ((LCH_RX_EQ.CTLE n).key / 32) :=
  own_cell (own_LCH_RX_EQ hc h) (Nat.le_of_ble_eq_true rfl)

theorem own_LCH_RX_EQ_VGA (hc : Covers P H s0) {n : Nat} (h : H n) : ¬spared P H ((LCH_RX_EQ.VGA n).key / 32) :=
  own_cell (own_LCH_RX_EQ hc h) (Nat.le_of_ble_eq_true rfl)

theorem own_LCH_RX_EQ_DFE_H1 (hc : Covers P H s0) {n : Nat} (h : H n) : ¬spared P H ((LCH_RX_EQ.DFE_H1 n).key / 32) :=
  own_cell (own_LCH_RX_EQ hc h) (Nat.le_of_ble_eq_true rfl)

theorem own_LCH_RX_EQ_FFE_MAIN (hc : Covers P H s0) {n : Nat} (h : H n) : ¬spared P H ((LCH_RX_EQ.FFE_MAIN n).key / 32) :=
  own_cell (own_LCH_RX_EQ hc h) (Nat.le_of_ble_eq_true rfl)

theorem own_LCH_RX_EQ_fields (hc : Covers P H s0) {n : Nat} (h : H n) : ∀ f ∈ LCH_RX_EQ.fields n, ¬spared P H (f.cell.key / 32) := by
  intro f hf
  simp only [LCH_RX_EQ.fields, List.mem_cons, List.not_mem_nil, or_false] at hf
  rcases hf with rfl | rfl | rfl | rfl | rfl | rfl
  all_goals exact own_cell (own_LCH_RX_EQ hc h) (Nat.le_of_ble_eq_true rfl)

theorem own_LCH_TX_COEF (hc : Covers P H s0) {n : Nat} (h : H n) : ¬spared P H (LCH_TX_COEF.off n) :=
  own_half hc h (by decide) (by decide)

theorem own_LCH_TX_COEF_SRC (hc : Covers P H s0) {n : Nat} (h : H n) : ¬spared P H ((LCH_TX_COEF.SRC n).key / 32) :=
  own_cell (own_LCH_TX_COEF hc h) (Nat.le_of_ble_eq_true rfl)

theorem own_LCH_TX_COEF_C0 (hc : Covers P H s0) {n : Nat} (h : H n) : ¬spared P H ((LCH_TX_COEF.C0 n).key / 32) :=
  own_cell (own_LCH_TX_COEF hc h) (Nat.le_of_ble_eq_true rfl)

theorem own_LCH_TX_COEF_CM2 (hc : Covers P H s0) {n : Nat} (h : H n) : ¬spared P H ((LCH_TX_COEF.CM2 n).key / 32) :=
  own_cell (own_LCH_TX_COEF hc h) (Nat.le_of_ble_eq_true rfl)

theorem own_LCH_TX_COEF_CM1 (hc : Covers P H s0) {n : Nat} (h : H n) : ¬spared P H ((LCH_TX_COEF.CM1 n).key / 32) :=
  own_cell (own_LCH_TX_COEF hc h) (Nat.le_of_ble_eq_true rfl)

theorem own_LCH_TX_COEF_CP1 (hc : Covers P H s0) {n : Nat} (h : H n) : ¬spared P H ((LCH_TX_COEF.CP1 n).key / 32) :=
  own_cell (own_LCH_TX_COEF hc h) (Nat.le_of_ble_eq_true rfl)

theorem own_LCH_TX_COEF_CP2 (hc : Covers P H s0) {n : Nat} (h : H n) : ¬spared P H ((LCH_TX_COEF.CP2 n).key / 32) :=
  own_cell (own_LCH_TX_COEF hc h) (Nat.le_of_ble_eq_true rfl)

theorem own_LCH_TX_COEF_fields (hc : Covers P H s0) {n : Nat} (h : H n) : ∀ f ∈ LCH_TX_COEF.fields n, ¬spared P H (f.cell.key / 32) := by
  intro f hf
  simp only [LCH_TX_COEF.fields, List.mem_cons, List.not_mem_nil, or_false] at hf
  rcases hf with rfl | rfl | rfl | rfl | rfl | rfl
  all_goals exact own_cell (own_LCH_TX_COEF hc h) (Nat.le_of_ble_eq_true rfl)

theorem own_LCH_DP_STATUS (hc : Covers P H s0) {n : Nat} (h : H n) : ¬spared P H (LCH_DP_STATUS.off n) :=
  own_half hc h (by decide) (by decide)

theorem own_LCH_DP_STATUS_POL_INV (hc : Covers P H s0) {n : Nat} (h : H n) : ¬spared P H ((LCH_DP_STATUS.POL_INV n).key / 32) :=
  own_cell (own_LCH_DP_STATUS hc h) (Nat.le_of_ble_eq_true rfl)

theorem own_LCH_DP_STATUS_ALIGN_STATE (hc : Covers P H s0) {n : Nat} (h : H n) : ¬spared P H ((LCH_DP_STATUS.ALIGN_STATE n).key / 32) :=
  own_cell (own_LCH_DP_STATUS hc h) (Nat.le_of_ble_eq_true rfl)

theorem own_LCH_DP_STATUS_LINK_LANE (hc : Covers P H s0) {n : Nat} (h : H n) : ¬spared P H ((LCH_DP_STATUS.LINK_LANE n).key / 32) :=
  own_cell (own_LCH_DP_STATUS hc h) (Nat.le_of_ble_eq_true rfl)

theorem own_LCH_DP_STATUS_SKEW (hc : Covers P H s0) {n : Nat} (h : H n) : ¬spared P H ((LCH_DP_STATUS.SKEW n).key / 32) :=
  own_cell (own_LCH_DP_STATUS hc h) (Nat.le_of_ble_eq_true rfl)

theorem own_LCH_DP_STATUS_EB_FILL (hc : Covers P H s0) {n : Nat} (h : H n) : ¬spared P H ((LCH_DP_STATUS.EB_FILL n).key / 32) :=
  own_cell (own_LCH_DP_STATUS hc h) (Nat.le_of_ble_eq_true rfl)

theorem own_LCH_DP_STATUS_fields (hc : Covers P H s0) {n : Nat} (h : H n) : ∀ f ∈ LCH_DP_STATUS.fields n, ¬spared P H (f.cell.key / 32) := by
  intro f hf
  simp only [LCH_DP_STATUS.fields, List.mem_cons, List.not_mem_nil, or_false] at hf
  rcases hf with rfl | rfl | rfl | rfl | rfl
  all_goals exact own_cell (own_LCH_DP_STATUS hc h) (Nat.le_of_ble_eq_true rfl)

theorem own_LCH_SEG_FEC (hc : Covers P H s0) {n : Nat} (h : H n) : ¬spared P H (LCH_SEG_FEC.off n) :=
  own_half hc h (by decide) (by decide)

theorem own_LCH_SEG_FEC_CORR_SYM (hc : Covers P H s0) {n : Nat} (h : H n) : ¬spared P H ((LCH_SEG_FEC.CORR_SYM n).key / 32) :=
  own_cell (own_LCH_SEG_FEC hc h) (Nat.le_of_ble_eq_true rfl)

theorem own_LCH_SEG_FEC_UNCORR (hc : Covers P H s0) {n : Nat} (h : H n) : ¬spared P H ((LCH_SEG_FEC.UNCORR n).key / 32) :=
  own_cell (own_LCH_SEG_FEC hc h) (Nat.le_of_ble_eq_true rfl)

theorem own_LCH_SEG_FEC_SEG_POL_INV (hc : Covers P H s0) {n : Nat} (h : H n) : ¬spared P H ((LCH_SEG_FEC.SEG_POL_INV n).key / 32) :=
  own_cell (own_LCH_SEG_FEC hc h) (Nat.le_of_ble_eq_true rfl)

theorem own_LCH_SEG_FEC_FRAME_LOCK (hc : Covers P H s0) {n : Nat} (h : H n) : ¬spared P H ((LCH_SEG_FEC.FRAME_LOCK n).key / 32) :=
  own_cell (own_LCH_SEG_FEC hc h) (Nat.le_of_ble_eq_true rfl)

theorem own_LCH_SEG_FEC_HEARD (hc : Covers P H s0) {n : Nat} (h : H n) : ¬spared P H ((LCH_SEG_FEC.HEARD n).key / 32) :=
  own_cell (own_LCH_SEG_FEC hc h) (Nat.le_of_ble_eq_true rfl)

theorem own_LCH_SEG_FEC_fields (hc : Covers P H s0) {n : Nat} (h : H n) : ∀ f ∈ LCH_SEG_FEC.fields n, ¬spared P H (f.cell.key / 32) := by
  intro f hf
  simp only [LCH_SEG_FEC.fields, List.mem_cons, List.not_mem_nil, or_false] at hf
  rcases hf with rfl | rfl | rfl | rfl | rfl
  all_goals exact own_cell (own_LCH_SEG_FEC hc h) (Nat.le_of_ble_eq_true rfl)

theorem own_LCH_LANE_FAULT (hc : Covers P H s0) {n : Nat} (h : H n) : ¬spared P H (LCH_LANE_FAULT.off n) :=
  own_half hc h (by decide) (by decide)

theorem own_LCH_LANE_FAULT_STATUS (hc : Covers P H s0) {n : Nat} (h : H n) : ¬spared P H ((LCH_LANE_FAULT.STATUS n).key / 32) :=
  own_cell (own_LCH_LANE_FAULT hc h) (Nat.le_of_ble_eq_true rfl)

theorem own_LCH_LANE_FAULT_LAST_REASON (hc : Covers P H s0) {n : Nat} (h : H n) : ¬spared P H ((LCH_LANE_FAULT.LAST_REASON n).key / 32) :=
  own_cell (own_LCH_LANE_FAULT hc h) (Nat.le_of_ble_eq_true rfl)

theorem own_LCH_LANE_FAULT_TX_LOGICAL (hc : Covers P H s0) {n : Nat} (h : H n) : ¬spared P H ((LCH_LANE_FAULT.TX_LOGICAL n).key / 32) :=
  own_cell (own_LCH_LANE_FAULT hc h) (Nat.le_of_ble_eq_true rfl)

theorem own_LCH_LANE_FAULT_RX_LOGICAL (hc : Covers P H s0) {n : Nat} (h : H n) : ¬spared P H ((LCH_LANE_FAULT.RX_LOGICAL n).key / 32) :=
  own_cell (own_LCH_LANE_FAULT hc h) (Nat.le_of_ble_eq_true rfl)

theorem own_LCH_LANE_FAULT_FAULT_NEW (hc : Covers P H s0) {n : Nat} (h : H n) : ¬spared P H ((LCH_LANE_FAULT.FAULT_NEW n).key / 32) :=
  own_cell (own_LCH_LANE_FAULT hc h) (Nat.le_of_ble_eq_true rfl)

theorem own_LCH_LANE_FAULT_FAULT_CNT (hc : Covers P H s0) {n : Nat} (h : H n) : ¬spared P H ((LCH_LANE_FAULT.FAULT_CNT n).key / 32) :=
  own_cell (own_LCH_LANE_FAULT hc h) (Nat.le_of_ble_eq_true rfl)

theorem own_LCH_LANE_FAULT_fields (hc : Covers P H s0) {n : Nat} (h : H n) : ∀ f ∈ LCH_LANE_FAULT.fields n, ¬spared P H (f.cell.key / 32) := by
  intro f hf
  simp only [LCH_LANE_FAULT.fields, List.mem_cons, List.not_mem_nil, or_false] at hf
  rcases hf with rfl | rfl | rfl | rfl | rfl | rfl
  all_goals exact own_cell (own_LCH_LANE_FAULT hc h) (Nat.le_of_ble_eq_true rfl)

theorem own_CAL_RX (hc : Covers P H s0) {n : Nat} (h : H n) : ¬spared P H (CAL_RX.off n) :=
  own_cal hc h

theorem own_CAL_RX_HOLD (hc : Covers P H s0) {n : Nat} (h : H n) : ¬spared P H ((CAL_RX.HOLD n).key / 32) :=
  own_cell (own_CAL_RX hc h) (Nat.le_of_ble_eq_true rfl)

theorem own_CAL_RX_LAST_RESULT (hc : Covers P H s0) {n : Nat} (h : H n) : ¬spared P H ((CAL_RX.LAST_RESULT n).key / 32) :=
  own_cell (own_CAL_RX hc h) (Nat.le_of_ble_eq_true rfl)

theorem own_CAL_RX_NQ_REASON (hc : Covers P H s0) {n : Nat} (h : H n) : ¬spared P H ((CAL_RX.NQ_REASON n).key / 32) :=
  own_cell (own_CAL_RX hc h) (Nat.le_of_ble_eq_true rfl)

theorem own_CAL_RX_APPLIED_TEMP (hc : Covers P H s0) {n : Nat} (h : H n) : ¬spared P H ((CAL_RX.APPLIED_TEMP n).key / 32) :=
  own_cell (own_CAL_RX hc h) (Nat.le_of_ble_eq_true rfl)

theorem own_CAL_RX_VALID_POINTS (hc : Covers P H s0) {n : Nat} (h : H n) : ¬spared P H ((CAL_RX.VALID_POINTS n).key / 32) :=
  own_cell (own_CAL_RX hc h) (Nat.le_of_ble_eq_true rfl)

theorem own_CAL_RX_RUN_CNT (hc : Covers P H s0) {n : Nat} (h : H n) : ¬spared P H ((CAL_RX.RUN_CNT n).key / 32) :=
  own_cell (own_CAL_RX hc h) (Nat.le_of_ble_eq_true rfl)

theorem own_CAL_RX_fields (hc : Covers P H s0) {n : Nat} (h : H n) : ∀ f ∈ CAL_RX.fields n, ¬spared P H (f.cell.key / 32) := by
  intro f hf
  simp only [CAL_RX.fields, List.mem_cons, List.not_mem_nil, or_false] at hf
  rcases hf with rfl | rfl | rfl | rfl | rfl | rfl
  all_goals exact own_cell (own_CAL_RX hc h) (Nat.le_of_ble_eq_true rfl)

/-! ## Operations that touch no Port, side or half-lane -/

theorem Apart.deviceQuiet {s : State} (hgo : Apart P H s0 s) : Apart P H s0 (State.deviceQuiet s) :=
  hgo.trans (Apart.ofGoes (F := fp_deviceQuiet) (by decide +kernel) (Goes.deviceQuiet (Foot.le_refl _) (Goes.refl _ _)))

theorem Apart.alert {s : State} {cls : Nat} (hgo : Apart P H s0 s) : Apart P H s0 (State.alert s cls) :=
  hgo.trans (Apart.ofGoes (F := fp_alert) (by decide +kernel) (Goes.alert (Foot.le_refl _) (Goes.refl _ _)))

theorem Apart.recordDp {s : State} {code : Nat} {port : Option Nat} {b16 : Nat} (hgo : Apart P H s0 s) : Apart P H s0 (State.recordDp s code port b16) :=
  hgo.trans (Apart.ofGoes (F := fp_recordDp) (by decide +kernel) (Goes.recordDp (Foot.le_refl _) (Goes.refl _ _)))

theorem Apart.raiseFor {s : State} {code : Nat} {port : Option Nat} {ports : List Nat} {b16 : Nat} {b17 : Nat} {b18 : Nat} (hgo : Apart P H s0 s) : Apart P H s0 (State.raiseFor s code port ports b16 b17 b18) :=
  hgo.trans (Apart.ofGoes (F := fp_raiseFor) (by decide +kernel) (Goes.raiseFor (Foot.le_refl _) (Goes.refl _ _)))

theorem Apart.raise {s : State} {code : Nat} {p : Nat} {b16 : Nat} {b17 : Nat} {b18 : Nat} (hgo : Apart P H s0 s) : Apart P H s0 (State.raise s code p b16 b17 b18) :=
  hgo.trans (Apart.ofGoes (F := fp_raise) (by decide +kernel) (Goes.raise (Foot.le_refl _) (Goes.refl _ _)))

theorem Apart.raiseDev {s : State} {code : Nat} {b16 : Nat} {b17 : Nat} {b18 : Nat} (hgo : Apart P H s0 s) : Apart P H s0 (State.raiseDev s code b16 b17 b18) :=
  hgo.trans (Apart.ofGoes (F := fp_raiseDev) (by decide +kernel) (Goes.raiseDev (Foot.le_refl _) (Goes.refl _ _)))

theorem Apart.showRuns {s : State} (hgo : Apart P H s0 s) : Apart P H s0 (State.showRuns s) :=
  hgo.trans (Apart.ofGoes (F := fp_showRuns) (by decide +kernel) (Goes.showRuns (Foot.le_refl _) (Goes.refl _ _)))

theorem Apart.showJob {s : State} {k : Nat} {st : Nat} (hgo : Apart P H s0 s) : Apart P H s0 (State.showJob s k st) :=
  hgo.trans (Apart.ofGoes (F := fp_showJob) (by decide +kernel) (Goes.showJob (Foot.le_refl _) (Goes.refl _ _)))

theorem Apart.realign {s : State} (hgo : Apart P H s0 s) : Apart P H s0 (State.realign s) :=
  hgo.trans (Apart.ofGoes (F := fp_realign) (by decide +kernel) (Goes.realign (Foot.le_refl _) (Goes.refl _ _)))

theorem Apart.wakeDevice {s : State} {w : WakeSource} {port : Option Nat} (hgo : Apart P H s0 s) : Apart P H s0 (State.wakeDevice s w port) :=
  hgo.trans (Apart.ofGoes (F := fp_wakeDevice) (by decide +kernel) (Goes.wakeDevice (Foot.le_refl _) (Goes.refl _ _)))

theorem Apart.writeResults {s : State} {j : Job} (hgo : Apart P H s0 s) : Apart P H s0 (State.writeResults s j).1 :=
  hgo.trans (Apart.ofGoes (F := fp_writeResults) (by decide +kernel) (Goes.writeResults (Foot.le_refl _) (Goes.refl _ _)))

theorem Apart.tileQuiet {s : State} {t : Nat} (hgo : Apart P H s0 s) : Apart P H s0 (s.tileQuiet t) := Apart.upT (fun _ => rfl) hgo
theorem Apart.settled {s old : State} {p : Nat} (hgo : Apart P H s0 s) : Apart P H s0 (s.settled old p) := by
  unfold State.settled
  split
  · exact Apart.tileQuiet hgo
  · exact hgo
theorem Apart.setEvq {v : List Ev} (h : Apart P H s0 x) : Apart P H s0 (x.setEvq v) :=
  ⟨h.ports, h.sides, h.halves, h.fields, h.jobs, h.accesses, h.waits⟩
theorem Apart.completeAs {s : State} {k i entry tag : Nat} {evRing : Option Nat} {status : Nat} {result : List Nat} {port : Option Nat}
    {mirror : List Nat} (hgo : Apart P H s0 s) : Apart P H s0 (s.completeAs k i entry tag evRing status result port mirror) := by
  unfold State.completeAs
  dsimp only
  split
  · split
    · exact Apart.setEvq (Apart.upR (fun _ => rfl) (Apart.deviceQuiet hgo))
    · exact Apart.setEvq (Apart.upR (fun _ => rfl) (Apart.deviceQuiet hgo))
  · exact hgo
theorem Apart.complete {s : State} {k i entry tag : Nat} {evRing : Option Nat} {status : Nat} {result : List Nat} {port : Option Nat}
    (hgo : Apart P H s0 s) : Apart P H s0 (s.complete k i entry tag evRing status result port) := Apart.completeAs hgo
theorem off_ENG (P H : Nat → Prop) (k : Nat) : ¬spared P H (ENG_STATUS.off k) ∧ ¬spared P H (ENG_CNT.off k) := by
  constructor
  · rintro (⟨_, _, _⟩ | ⟨_, _, _⟩ | ⟨_, _, _⟩) <;> unfold ENG_STATUS.off at * <;> omega
  · rintro (⟨_, _, _⟩ | ⟨_, _, _⟩ | ⟨_, _, _⟩) <;> unfold ENG_CNT.off at * <;> omega
theorem Apart.endJob {s : State} {j : Job} {code : Nat} (hgo : Apart P H s0 s) : Apart P H s0 (s.endJob j code) := by
  unfold State.endJob
  have h1 : Apart P H s0 (if code = 4 then (s.tileQuiet (tileOfHalf j.half)).satUp (ENG_CNT.DISPLACED (engineOf j.half))
      else s.tileQuiet (tileOfHalf j.half)) := by
    split
    · exact Apart.satUp (own_cell (off_ENG P H _).2 (Nat.le_of_ble_eq_true rfl)) (Apart.tileQuiet hgo)
    · exact Apart.tileQuiet hgo
  dsimp only
  split
  · exact h1
  · exact Apart.complete h1
theorem Apart.endQueued {s : State} {pick : Job → Bool} {code : Nat} (hgo : Apart P H s0 s) : Apart P H s0 (s.endQueued pick code) := by
  unfold State.endQueued
  exact Apart.each (fun t ht k _ => Apart.foldl (fun u hu j _ => Apart.endJob hu) (Apart.upE (fun j e => ⟨j, e, rfl⟩) ht)) hgo
theorem Apart.stopJob {s : State} {k cause : Nat} (hgo : Apart P H s0 s) : Apart P H s0 (s.stopJob k cause) := by
  unfold State.stopJob
  split
  · rename_i j hj
    split
    · exact Apart.showJob (Apart.upE (fun i e => ⟨j, hj, by cases e; rfl⟩) hgo)
    · exact hgo
  · exact hgo
theorem Apart.stopJobsOn {s : State} {h cause : Nat} (hgo : Apart P H s0 s) : Apart P H s0 (s.stopJobsOn h cause) :=
  Apart.each (fun t ht k _ => Apart.stopJob ht) hgo
theorem Apart.engineOff {s : State} {k : Nat} (hgo : Apart P H s0 s) : Apart P H s0 (s.engineOff k) :=
  Apart.wr (own_cell (off_ENG P H _).1 (Nat.le_of_ble_eq_true rfl)) (Apart.upE (fun j e => ⟨j, e, rfl⟩) hgo)
theorem writeResults_half (s : State) (j : Job) : (s.writeResults j).2.half = j.half := by
  unfold State.writeResults
  split
  · rfl
  · dsimp only
    split <;> rfl
theorem Apart.finishJob {s : State} {k : Nat} {j : Job} (hj : ∃ i, (s0.engine k).slot = some i ∧ i.half = j.half)
    (hgo : Apart P H s0 s) : Apart P H s0 (s.finishJob k j) := by
  unfold State.finishJob
  split
  · exact Apart.showJob (Apart.upE (fun i e => by cases e) hgo)
  · split
    · refine Apart.showJob (Apart.giveJob hj (fun _ => rfl) ?_)
      split
      · exact Apart.trans hgo (Apart.ofGoes (F := ⟨[], some [32 * GLB_MGMT_STATUS.off + GLB_MGMT_STATUS.STAGING_FULL.lo]⟩) (by decide +kernel)
          (Goes.on (List.mem_singleton.2 fieldName_GLB_MGMT_STATUS_STAGING_FULL) known_GLB_MGMT_STATUS_STAGING_FULL.agrees (by decide +kernel) (Goes.refl _ _)))
      · exact hgo
    · exact Apart.endJob (Apart.showJob (Apart.upE (fun i e => by cases e) (Apart.writeResults hgo)))

/-! ## What the registers spared decide -/

theorem Apart.rd (h : Apart P H s0 x) {c : Cell} (hs : spared P H c.off) (hl : c.lo < 32) : x.rd c = s0.rd c := by
  have h1 : c.key / 32 = c.off := by unfold Cell.key; omega
  exact h.fields c.key (by rw [h1]; exact hs) _

theorem spared_mode (P H : Nat → Prop) (p : Nat) : spared P H (PRT_MODE.off p) := by
  refine Or.inl ⟨?_, ?_, Or.inl ?_⟩ <;> unfold PRT_MODE.off <;> omega
theorem spared_assign (P H : Nat → Prop) (n : Nat) : spared P H (LCH_ASSIGN.off n) := by
  refine Or.inr (Or.inl ⟨?_, ?_, Or.inl ?_⟩) <;> unfold LCH_ASSIGN.off <;> omega

theorem Apart.enabled (h : Apart P H s0 x) (p : Nat) : x.enabled p = s0.enabled p := by
  unfold State.enabled State.bit
  rw [h.rd (spared_mode P H p) (Nat.le_of_ble_eq_true rfl)]
theorem Apart.tileOf (h : Apart P H s0 x) (p : Nat) : x.tileOf p = s0.tileOf p :=
  h.rd (spared_mode P H p) (Nat.le_of_ble_eq_true rfl)
theorem Apart.assigned (h : Apart P H s0 x) (n : Nat) :
    x.rd (LCH_ASSIGN.VALID n) = s0.rd (LCH_ASSIGN.VALID n) ∧ x.rd (LCH_ASSIGN.PORT n) = s0.rd (LCH_ASSIGN.PORT n) := by
  unfold LCH_ASSIGN.VALID LCH_ASSIGN.PORT
  split <;> exact ⟨h.rd (spared_assign P H _) (Nat.le_of_ble_eq_true rfl), h.rd (spared_assign P H _) (Nat.le_of_ble_eq_true rfl)⟩
theorem Apart.claim (h : Apart P H s0 x) (n : Nat) : x.claim n = s0.claim n := by
  unfold State.claim State.bit
  rw [(h.assigned n).1, (h.assigned n).2, h.enabled]
theorem Apart.members (h : Apart P H s0 x) (q : Nat) : x.members q = s0.members q := by
  unfold State.members
  rw [h.tileOf]
  exact List.filter_congr (fun n _ => by rw [h.claim])

theorem Mem.of_members (h : Apart P H s0 x) {q n : Nat} (hq : P (q / 2)) (m : n ∈ x.members q) : Mem P s0 n :=
  ⟨q, hq, by rw [← h.members]; exact m⟩
theorem Mem.of_halfAt (h : Apart P H s0 x) {q l n : Nat} (hq : P (q / 2)) (m : x.halfAt q l = some n) : Mem P s0 n :=
  Mem.of_members h hq (List.mem_of_find?_eq_some m)
theorem Mem.of_data (h : Apart P H s0 x) {q n : Nat} (hq : P (q / 2)) (m : n ∈ x.dataHalves q) : Mem P s0 n := by
  obtain ⟨l, -, e⟩ := List.mem_filterMap.1 m
  exact Mem.of_halfAt h hq e
theorem Mem.of_all (h : Apart P H s0 x) {q n : Nat} (hq : P (q / 2)) (m : n ∈ x.allHalves q) : Mem P s0 n := by
  obtain ⟨l, -, e⟩ := List.mem_filterMap.1 m
  exact Mem.of_halfAt h hq e
theorem Mem.of_seg (h : Apart P H s0 x) {q n : Nat} (hq : P (q / 2)) (m : n ∈ x.segHalves q) : Mem P s0 n := by
  unfold State.segHalves at m
  split at m
  · exact Mem.of_data h hq m
  · exact Mem.of_all h hq m
theorem mem_sidesOf {p q : Nat} (m : q ∈ sidesOf p) : q / 2 = p := by
  unfold sidesOf at m
  simp only [List.mem_cons, List.not_mem_nil, or_false] at m
  omega
theorem side_of_sides {p q : Nat} (hp : P p) (m : q ∈ sidesOf p) : P (q / 2) := by rw [mem_sidesOf m]; exact hp
theorem side_of_std {p q : Nat} (hp : P p) (m : q ∈ x.stdSides p) : P (q / 2) := side_of_sides hp (List.mem_of_mem_filter m)
theorem side_of_seg {p q : Nat} (hp : P p) (m : q ∈ x.segSides p) : P (q / 2) := side_of_sides hp (List.mem_of_mem_filter m)
theorem Mem.of_std (h : Apart P H s0 x) {p n : Nat} (hp : P p) (m : n ∈ x.stdHalves p) : Mem P s0 n := by
  obtain ⟨q, hq, e⟩ := List.mem_flatMap.1 m
  exact Mem.of_data h (side_of_std hp hq) e
theorem Mem.of_port (h : Apart P H s0 x) {p n : Nat} (hp : P p) (m : n ∈ x.portMembers p) : Mem P s0 n := by
  rcases List.mem_append.1 m with m | m
  · exact Mem.of_members h (q := 2 * p) (by rw [show 2 * p / 2 = p by omega]; exact hp) m
  · exact Mem.of_members h (q := 2 * p + 1) (by rw [show (2 * p + 1) / 2 = p by omega]; exact hp) m
/-- The side that claims such a half-lane is one of the Ports'. -/
theorem Mem.claim (h : Apart P H s0 x) {n q : Nat} (m : Mem P s0 n) (e : x.claim n = some q) : P (q / 2) := by
  obtain ⟨r, hr, hm⟩ := m
  have h1 : s0.claim n = some r := by
    have := (List.mem_filter.1 hm).2
    exact eq_of_beq this
  rw [h.claim, h1] at e
  cases e
  exact hr

/-! ## Operations on a Port, its sides and its half-lanes -/

theorem own_PRT_DP_STATUS_SLOT_NOW (hc : Covers P H s0) {q : Nat} (h : P (q / 2)) : ¬spared P H ((PRT_DP_STATUS.SLOT_NOW q).key / 32) := by
  unfold PRT_DP_STATUS.SLOT_NOW
  split <;> exact own_cell (own_PRT_DP_STATUS hc h) (Nat.le_of_ble_eq_true rfl)

theorem own_PRT_DP_STATUS_ALIGN (hc : Covers P H s0) {q : Nat} (h : P (q / 2)) : ¬spared P H ((PRT_DP_STATUS.ALIGN q).key / 32) := by
  unfold PRT_DP_STATUS.ALIGN
  split <;> exact own_cell (own_PRT_DP_STATUS hc h) (Nat.le_of_ble_eq_true rfl)

theorem Apart.endRun (hc : Covers P H s0) {s : State} {h : Nat} {result : Nat} (hk : H h) (hgo : Apart P H s0 s) :
    Apart P H s0 (State.endRun s h result) := by
  unfold State.endRun
  try dsimp only
  repeat' first
    | with_reducible assumption
    | with_reducible refine Apart.upH (by first | assumption | exact Mem.half hc (by assumption)) ?_
    | with_reducible refine Apart.raiseDev ?_
    | with_reducible refine Apart.showRuns ?_
    | with_reducible refine Apart.wr (own_CAL_RX_LAST_RESULT hc (by first | assumption | exact Mem.half hc (by assumption))) ?_
    | with_reducible refine Apart.wr (own_CAL_RX_NQ_REASON hc (by first | assumption | exact Mem.half hc (by assumption))) ?_
    | with_reducible refine Apart.tileQuiet ?_
    | with_reducible refine Apart.raise ?_
    | split

theorem Apart.scheduleSet (hc : Covers P H s0) {s : State} {h : Nat} {c : CalSet} {temp : Int} {ofRun : Bool} (hk : H h) (hgo : Apart P H s0 s) :
    Apart P H s0 (State.scheduleSet s h c temp ofRun) := by
  unfold State.scheduleSet
  try dsimp only
  repeat' first
    | with_reducible assumption
    | with_reducible refine Apart.upH (by first | assumption | exact Mem.half hc (by assumption)) ?_
    | split

theorem Apart.scheduleTable (hc : Covers P H s0) {s : State} {h : Nat} (hk : H h) (hgo : Apart P H s0 s) :
    Apart P H s0 (State.scheduleTable s h) := by
  unfold State.scheduleTable
  try dsimp only
  repeat' first
    | with_reducible assumption
    | with_reducible refine Apart.scheduleSet hc (by first | assumption | exact Mem.half hc (by assumption)) ?_
    | split

theorem Apart.scheduleBack (hc : Covers P H s0) {s : State} {h : Nat} (hk : H h) (hgo : Apart P H s0 s) :
    Apart P H s0 (State.scheduleBack s h) := by
  unfold State.scheduleBack
  try dsimp only
  repeat' first
    | with_reducible assumption
    | with_reducible refine Apart.upH (by first | assumption | exact Mem.half hc (by assumption)) ?_
    | with_reducible refine Apart.scheduleTable hc (by first | assumption | exact Mem.half hc (by assumption)) ?_
    | split

theorem Apart.abortRun (hc : Covers P H s0) {s : State} {h : Nat} (hk : H h) (hgo : Apart P H s0 s) :
    Apart P H s0 (State.abortRun s h) := by
  unfold State.abortRun
  try dsimp only
  repeat' first
    | with_reducible assumption
    | with_reducible refine Apart.upH (by first | assumption | exact Mem.half hc (by assumption)) ?_
    | with_reducible refine Apart.scheduleBack hc (by first | assumption | exact Mem.half hc (by assumption)) ?_
    | with_reducible refine Apart.endRun hc (by first | assumption | exact Mem.half hc (by assumption)) ?_
    | split

theorem Apart.clearRun (hc : Covers P H s0) {s : State} {h : Nat} (hk : H h) (hgo : Apart P H s0 s) :
    Apart P H s0 (State.clearRun s h) := by
  unfold State.clearRun
  try dsimp only
  repeat' first
    | with_reducible assumption
    | with_reducible refine Apart.upH (by first | assumption | exact Mem.half hc (by assumption)) ?_
    | with_reducible refine Apart.endRun hc (by first | assumption | exact Mem.half hc (by assumption)) ?_
    | split

theorem Apart.rxLeaves (hc : Covers P H s0) {s : State} {h : Nat} (hk : H h) (hgo : Apart P H s0 s) :
    Apart P H s0 (State.rxLeaves s h) := by
  unfold State.rxLeaves
  try dsimp only
  repeat' first
    | with_reducible assumption
    | with_reducible refine Apart.stopJobsOn ?_
    | with_reducible refine Apart.abortRun hc (by first | assumption | exact Mem.half hc (by assumption)) ?_
    | split

theorem Apart.noFom (hc : Covers P H s0) {s : State} {h : Nat} (hk : H h) (hgo : Apart P H s0 s) :
    Apart P H s0 (State.noFom s h) := by
  unfold State.noFom
  try dsimp only
  repeat' first
    | with_reducible assumption
    | with_reducible refine Apart.upH (by first | assumption | exact Mem.half hc (by assumption)) ?_
    | with_reducible refine Apart.wr (own_LCH_FOM_FOM hc (by first | assumption | exact Mem.half hc (by assumption))) ?_
    | with_reducible refine Apart.wr (own_LCH_FOM_FOM_VALID hc (by first | assumption | exact Mem.half hc (by assumption))) ?_
    | with_reducible refine Apart.off (own_LCH_FOM_FOM hc (by first | assumption | exact Mem.half hc (by assumption))) ?_
    | with_reducible refine Apart.off (own_LCH_FOM_FOM_VALID hc (by first | assumption | exact Mem.half hc (by assumption))) ?_
    | split

theorem Apart.setAlign (hc : Covers P H s0) {s : State} {h : Nat} {v : Nat} (hk : Mem P s0 h) (hgo : Apart P H s0 s) :
    Apart P H s0 (State.setAlign s h v) := by
  unfold State.setAlign
  try dsimp only
  repeat' first
    | with_reducible assumption
    | with_reducible refine Apart.wr (own_PRT_DP_STATUS_ALIGN hc (Mem.claim hgo hk (by assumption))) ?_
    | with_reducible refine Apart.upH (by first | assumption | exact Mem.half hc (by assumption)) ?_
    | with_reducible refine Apart.wr (own_LCH_DP_STATUS_ALIGN_STATE hc (by first | assumption | exact Mem.half hc (by assumption))) ?_
    | with_reducible refine Apart.wr (own_PRT_DP_STATUS_ALIGN hc (by first | assumption | exact Mem.half hc (by assumption))) ?_
    | split

theorem Apart.rxIdle (hc : Covers P H s0) {s : State} {h : Nat} (hk : Mem P s0 h) (hgo : Apart P H s0 s) :
    Apart P H s0 (State.rxIdle s h) := by
  unfold State.rxIdle
  try dsimp only
  repeat' first
    | with_reducible assumption
    | with_reducible refine Apart.upH (by first | assumption | exact Mem.half hc (by assumption)) ?_
    | with_reducible refine Apart.noFom hc (by first | assumption | exact Mem.half hc (by assumption)) ?_
    | with_reducible refine Apart.wr (own_LCH_FOM_ADAPT_STATE hc (by first | assumption | exact Mem.half hc (by assumption))) ?_
    | with_reducible refine Apart.wr (own_LCH_FOM_LOCK hc (by first | assumption | exact Mem.half hc (by assumption))) ?_
    | with_reducible refine Apart.setAlign hc (by first | assumption | exact Mem.half hc (by assumption)) ?_
    | with_reducible refine Apart.off (own_LCH_FOM_ADAPT_STATE hc (by first | assumption | exact Mem.half hc (by assumption))) ?_
    | with_reducible refine Apart.off (own_LCH_FOM_LOCK hc (by first | assumption | exact Mem.half hc (by assumption))) ?_
    | split

theorem Apart.releaseRx (hc : Covers P H s0) {s : State} {h : Nat} (hk : Mem P s0 h) (hgo : Apart P H s0 s) :
    Apart P H s0 (State.releaseRx s h) := by
  unfold State.releaseRx
  try dsimp only
  repeat' first
    | with_reducible assumption
    | with_reducible refine Apart.upH (by first | assumption | exact Mem.half hc (by assumption)) ?_
    | with_reducible refine Apart.rxIdle hc (by first | assumption | exact Mem.half hc (by assumption)) ?_
    | split

theorem Apart.showTx (hc : Covers P H s0) {s : State} {h : Nat} (hk : H h) (hgo : Apart P H s0 s) :
    Apart P H s0 (State.showTx s h) := by
  unfold State.showTx
  try dsimp only
  repeat' first
    | with_reducible assumption
    | with_reducible refine Apart.coldAll (own_LCH_TX_COEF_fields hc (by first | assumption | exact Mem.half hc (by assumption))) ?_
    | with_reducible refine Apart.wr (own_LCH_TX_COEF_C0 hc (by first | assumption | exact Mem.half hc (by assumption))) ?_
    | with_reducible refine Apart.wr (own_LCH_TX_COEF_CM1 hc (by first | assumption | exact Mem.half hc (by assumption))) ?_
    | with_reducible refine Apart.wr (own_LCH_TX_COEF_CM2 hc (by first | assumption | exact Mem.half hc (by assumption))) ?_
    | with_reducible refine Apart.wr (own_LCH_TX_COEF_CP1 hc (by first | assumption | exact Mem.half hc (by assumption))) ?_
    | with_reducible refine Apart.wr (own_LCH_TX_COEF_CP2 hc (by first | assumption | exact Mem.half hc (by assumption))) ?_
    | with_reducible refine Apart.wr (own_LCH_TX_COEF_SRC hc (by first | assumption | exact Mem.half hc (by assumption))) ?_
    | split

theorem Apart.setTx (hc : Covers P H s0) {s : State} {h : Nat} {m : TxMode} (hk : H h) (hgo : Apart P H s0 s) :
    Apart P H s0 (State.setTx s h m) := by
  unfold State.setTx
  try dsimp only
  repeat' first
    | with_reducible assumption
    | with_reducible refine Apart.upH (by first | assumption | exact Mem.half hc (by assumption)) ?_
    | with_reducible refine Apart.showTx hc (by first | assumption | exact Mem.half hc (by assumption)) ?_
    | split

theorem Apart.clearFrames (hc : Covers P H s0) {s : State} {h : Nat} (hk : H h) (hgo : Apart P H s0 s) :
    Apart P H s0 (State.clearFrames s h) := by
  unfold State.clearFrames
  try dsimp only
  repeat' first
    | with_reducible assumption
    | with_reducible refine Apart.upH (by first | assumption | exact Mem.half hc (by assumption)) ?_
    | with_reducible refine Apart.wr (own_LCH_SEG_FEC_FRAME_LOCK hc (by first | assumption | exact Mem.half hc (by assumption))) ?_
    | with_reducible refine Apart.wr (own_LCH_SEG_FEC_HEARD hc (by first | assumption | exact Mem.half hc (by assumption))) ?_
    | with_reducible refine Apart.wr (own_LCH_SEG_FEC_SEG_POL_INV hc (by first | assumption | exact Mem.half hc (by assumption))) ?_
    | with_reducible refine Apart.off (own_LCH_SEG_FEC_FRAME_LOCK hc (by first | assumption | exact Mem.half hc (by assumption))) ?_
    | with_reducible refine Apart.off (own_LCH_SEG_FEC_HEARD hc (by first | assumption | exact Mem.half hc (by assumption))) ?_
    | with_reducible refine Apart.off (own_LCH_SEG_FEC_SEG_POL_INV hc (by first | assumption | exact Mem.half hc (by assumption))) ?_
    | split

theorem Apart.clearTrellis (hc : Covers P H s0) {s : State} {q : Nat} (hk : P (q / 2)) (hgo : Apart P H s0 s) :
    Apart P H s0 (State.clearTrellis s q) := by
  unfold State.clearTrellis
  try dsimp only
  repeat' first
    | with_reducible assumption
    | with_reducible refine Apart.wr (own_PRT_TRL_STATUS_RX_EPOCH hc (by first | assumption | exact Mem.half hc (by assumption))) ?_
    | with_reducible refine Apart.wr (own_PRT_TRL_STATUS_STEER_STATE hc (by first | assumption | exact Mem.half hc (by assumption))) ?_
    | with_reducible refine Apart.wr (own_PRT_TRL_STATUS_TX_EPOCH hc (by first | assumption | exact Mem.half hc (by assumption))) ?_
    | with_reducible refine Apart.wr (own_PRT_TRL_STATUS_XMIT_STATE hc (by first | assumption | exact Mem.half hc (by assumption))) ?_
    | split

theorem Apart.coldHalf (hc : Covers P H s0) {s : State} {h : Nat} (hk : H h) (hgo : Apart P H s0 s) :
    Apart P H s0 (State.coldHalf s h) := by
  unfold State.coldHalf
  try dsimp only
  repeat' first
    | with_reducible assumption
    | with_reducible refine Apart.coldAll (fun f hf => own_CAL_RX_fields hc hk f (List.mem_of_mem_filter hf)) ?_
    | with_reducible refine Apart.coldAll (own_LCH_DP_STATUS_fields hc (by first | assumption | exact Mem.half hc (by assumption))) ?_
    | with_reducible refine Apart.coldAll (own_LCH_FOM_fields hc (by first | assumption | exact Mem.half hc (by assumption))) ?_
    | with_reducible refine Apart.coldAll (own_LCH_LANE_FAULT_fields hc (by first | assumption | exact Mem.half hc (by assumption))) ?_
    | with_reducible refine Apart.coldAll (own_LCH_RX_EQ_fields hc (by first | assumption | exact Mem.half hc (by assumption))) ?_
    | with_reducible refine Apart.coldAll (own_LCH_SEG_FEC_fields hc (by first | assumption | exact Mem.half hc (by assumption))) ?_
    | with_reducible refine Apart.coldAll (own_LCH_TX_COEF_fields hc (by first | assumption | exact Mem.half hc (by assumption))) ?_
    | split

theorem Apart.coldPort (hc : Covers P H s0) {s : State} {p : Nat} (hk : P p) (hgo : Apart P H s0 s) :
    Apart P H s0 (State.coldPort s p) := by
  unfold State.coldPort
  try dsimp only
  repeat' first
    | with_reducible assumption
    | with_reducible refine Apart.each (fun t ht q hq => ?_) ?_
    | with_reducible refine Apart.coldAll (own_PRT_SKP_ADJ_fields hc (side_of_sides hk (by assumption))) ?_
    | with_reducible refine Apart.coldAll (own_PRT_SEG_STATUS_fields hc (side_of_sides hk (by assumption))) ?_
    | with_reducible refine Apart.coldAll (own_PRT_SEG_CNT_fields hc (side_of_sides hk (by assumption))) ?_
    | with_reducible refine Apart.coldAll (own_PRT_TRL_STATUS_fields hc (side_of_sides hk (by assumption))) ?_
    | with_reducible refine Apart.coldAll (own_PRT_TRL_CNT_fields hc (side_of_sides hk (by assumption))) ?_
    | with_reducible refine Apart.coldAll (own_PRT_DP_STATUS_fields hc (by first | assumption | exact Mem.half hc (by assumption))) ?_
    | with_reducible refine Apart.coldAll (own_PRT_SEG_CNT_fields hc (by first | assumption | exact Mem.half hc (by assumption))) ?_
    | with_reducible refine Apart.coldAll (own_PRT_SEG_STATUS_fields hc (by first | assumption | exact Mem.half hc (by assumption))) ?_
    | with_reducible refine Apart.coldAll (own_PRT_SKP_ADJ_fields hc (by first | assumption | exact Mem.half hc (by assumption))) ?_
    | with_reducible refine Apart.coldAll (own_PRT_TRL_CNT_fields hc (by first | assumption | exact Mem.half hc (by assumption))) ?_
    | with_reducible refine Apart.coldAll (own_PRT_TRL_STATUS_fields hc (by first | assumption | exact Mem.half hc (by assumption))) ?_
    | with_reducible refine Apart.coldAll (own_PRT_TRN_EVENTS_fields hc (by first | assumption | exact Mem.half hc (by assumption))) ?_
    | with_reducible refine Apart.coldAll (own_PRT_TRN_STATUS_fields hc (by first | assumption | exact Mem.half hc (by assumption))) ?_
    | split

theorem Apart.publish (hc : Covers P H s0) {s : State} {p : Nat} (hk : P p) (hgo : Apart P H s0 s) :
    Apart P H s0 (State.publish s p) := by
  unfold State.publish
  try dsimp only
  repeat' first
    | with_reducible assumption
    | with_reducible refine Apart.setEvq ?_
    | with_reducible refine Apart.upP (by assumption) ?_
    | split

theorem Apart.bump (hc : Covers P H s0) {s : State} {p : Nat} (hk : P p) (hgo : Apart P H s0 s) :
    Apart P H s0 (State.bump s p) := by
  unfold State.bump
  try dsimp only
  repeat' first
    | with_reducible assumption
    | with_reducible refine Apart.upP (by assumption) ?_
    | with_reducible refine Apart.publish hc (by first | assumption | exact Mem.half hc (by assumption)) ?_
    | split

theorem Apart.dropSegment (hc : Covers P H s0) {s : State} {q : Nat} (hk : P (q / 2)) (hgo : Apart P H s0 s) :
    Apart P H s0 (State.dropSegment s q) := by
  unfold State.dropSegment
  try dsimp only
  repeat' first
    | with_reducible assumption
    | with_reducible refine Apart.each (fun t ht b hb => (fun hM : Mem P s0 b => ?_) (Mem.of_seg hgo hk hb)) ?_
    | with_reducible refine Apart.rxLeaves hc (by first | assumption | exact Mem.half hc (by assumption)) ?_
    | with_reducible refine Apart.wr (own_PRT_SEG_STATUS_PARTNER hc (by first | assumption | exact Mem.half hc (by assumption))) ?_
    | with_reducible refine Apart.upS (by assumption) ?_
    | with_reducible refine Apart.clearTrellis hc (by first | assumption | exact Mem.half hc (by assumption)) ?_
    | with_reducible refine Apart.abortRun hc (by first | assumption | exact Mem.half hc (by assumption)) ?_
    | with_reducible refine Apart.clearFrames hc (by first | assumption | exact Mem.half hc (by assumption)) ?_
    | split

theorem Apart.stdIdle (hc : Covers P H s0) {s : State} {p : Nat} (hk : P p) (hgo : Apart P H s0 s) :
    Apart P H s0 (State.stdIdle s p) := by
  unfold State.stdIdle
  try dsimp only
  repeat' first
    | with_reducible assumption
    | with_reducible refine Apart.each (fun t ht b hb => (fun hM : Mem P s0 b => ?_) (Mem.of_std hgo hk hb)) ?_
    | with_reducible refine Apart.setTx hc (by first | assumption | exact Mem.half hc (by assumption)) ?_
    | split

theorem Apart.showStd (hc : Covers P H s0) {s : State} {p : Nat} (hk : P p) (hgo : Apart P H s0 s) :
    Apart P H s0 (State.showStd s p) := by
  unfold State.showStd
  try dsimp only
  repeat' first
    | with_reducible assumption
    | with_reducible refine Apart.each (fun t ht q hq => ?_) hgo
    | with_reducible refine Apart.each (fun u hu b hb => (fun hM : Mem P s0 b => ?_) (Mem.of_data hgo (side_of_std hk hq) hb)) ht
    | with_reducible refine Apart.wr (own_LCH_LANE_FAULT_STATUS hc (by first | assumption | exact Mem.half hc (by assumption))) ?_
    | split

theorem Apart.setTrn (hc : Covers P H s0) {s : State} {p : Nat} {v : Nat} (hk : P p) (hgo : Apart P H s0 s) :
    Apart P H s0 (State.setTrn s p v) := by
  unfold State.setTrn
  try dsimp only
  repeat' first
    | with_reducible assumption
    | with_reducible refine Apart.each (fun t ht b hb => (fun hM : Mem P s0 b => ?_) (Mem.of_std hgo hk hb)) ?_
    | with_reducible refine Apart.upH (by first | assumption | exact Mem.half hc (by assumption)) ?_
    | with_reducible refine Apart.satUp (own_PRT_DP_STATUS_FLIT hc (by first | assumption | exact Mem.half hc (by assumption))) ?_
    | with_reducible refine Apart.satUp (own_PRT_TRN_EVENTS_DETECT_CNT hc (by first | assumption | exact Mem.half hc (by assumption))) ?_
    | with_reducible refine Apart.satUp (own_PRT_TRN_EVENTS_RECOVERY_CNT hc (by first | assumption | exact Mem.half hc (by assumption))) ?_
    | with_reducible refine Apart.satUp (own_PRT_TRN_STATUS_EQ_PHASE hc (by first | assumption | exact Mem.half hc (by assumption))) ?_
    | with_reducible refine Apart.satUp (own_PRT_TRN_STATUS_LP_KIND hc (by first | assumption | exact Mem.half hc (by assumption))) ?_
    | with_reducible refine Apart.satUp (own_PRT_TRN_STATUS_STATE hc (by first | assumption | exact Mem.half hc (by assumption))) ?_
    | with_reducible refine Apart.rxLeaves hc (by first | assumption | exact Mem.half hc (by assumption)) ?_
    | with_reducible refine Apart.upP (by assumption) ?_
    | with_reducible refine Apart.wr (own_PRT_DP_STATUS_FLIT hc (by first | assumption | exact Mem.half hc (by assumption))) ?_
    | with_reducible refine Apart.wr (own_PRT_TRN_EVENTS_DETECT_CNT hc (by first | assumption | exact Mem.half hc (by assumption))) ?_
    | with_reducible refine Apart.wr (own_PRT_TRN_EVENTS_RECOVERY_CNT hc (by first | assumption | exact Mem.half hc (by assumption))) ?_
    | with_reducible refine Apart.wr (own_PRT_TRN_STATUS_EQ_PHASE hc (by first | assumption | exact Mem.half hc (by assumption))) ?_
    | with_reducible refine Apart.wr (own_PRT_TRN_STATUS_LP_KIND hc (by first | assumption | exact Mem.half hc (by assumption))) ?_
    | with_reducible refine Apart.wr (own_PRT_TRN_STATUS_STATE hc (by first | assumption | exact Mem.half hc (by assumption))) ?_
    | with_reducible refine Apart.off (own_PRT_DP_STATUS_FLIT hc (by first | assumption | exact Mem.half hc (by assumption))) ?_
    | with_reducible refine Apart.off (own_PRT_TRN_EVENTS_DETECT_CNT hc (by first | assumption | exact Mem.half hc (by assumption))) ?_
    | with_reducible refine Apart.off (own_PRT_TRN_EVENTS_RECOVERY_CNT hc (by first | assumption | exact Mem.half hc (by assumption))) ?_
    | with_reducible refine Apart.off (own_PRT_TRN_STATUS_EQ_PHASE hc (by first | assumption | exact Mem.half hc (by assumption))) ?_
    | with_reducible refine Apart.off (own_PRT_TRN_STATUS_LP_KIND hc (by first | assumption | exact Mem.half hc (by assumption))) ?_
    | with_reducible refine Apart.off (own_PRT_TRN_STATUS_STATE hc (by first | assumption | exact Mem.half hc (by assumption))) ?_
    | split

theorem Apart.enterDown (hc : Covers P H s0) {s : State} {p : Nat} (hk : P p) (hgo : Apart P H s0 s) : Apart P H s0 (s.enterDown p) := by
  unfold State.enterDown
  have h1 : Apart P H s0 ((s.setTrn p tDOWN).stdIdle p) := Apart.stdIdle hc hk (Apart.setTrn hc hk hgo)
  refine Apart.showStd hc hk (Apart.each (fun t ht q hq => ?_) ?_)
  · exact Apart.wr (own_PRT_DP_STATUS_SLOT_NOW hc (side_of_std hk hq)) ht
  · refine Apart.each (fun t ht b hb => ?_) h1
    have hM : Mem P s0 b := Mem.of_std h1 hk hb
    exact Apart.upH (hM.half hc) (Apart.wr (own_LCH_FOM_RATE_SLOT hc (hM.half hc)) (Apart.releaseRx hc hM ht))

theorem Apart.showSide (hc : Covers P H s0) {s : State} {q : Nat} (hk : P (q / 2)) (hgo : Apart P H s0 s) : Apart P H s0 (s.showSide q) := by
  unfold State.showSide
  have hl : ∀ b ∈ s.segHalves q, H b := fun b hb => (Mem.of_seg hgo hk hb).half hc
  dsimp only
  split
  · refine Apart.put (own_PRT_TRL_STATUS_DEGRADED hc hk) (Apart.wr (own_PRT_TRL_STATUS_READY_SPARES hc hk) ?_)
    have h0 : Apart P H s0 ((if (s.seg q).spareReady.all (s.readySpares q).contains = true then s else s.on (PRT_TRL_STATUS.SPARE_LOST q)).upS q
        (fun x => { x with spareReady := s.readySpares q })) := by
      refine Apart.upS hk ?_
      split
      · exact hgo
      · exact Apart.on (own_PRT_TRL_STATUS_SPARE_LOST hc hk) hgo
    split
    · refine Apart.each (fun t ht b _ => Apart.stopJob ht) (Apart.each (fun t ht b hb => ?_) h0)
      exact Apart.upH (hl b hb) (Apart.wr (own_LCH_LANE_FAULT_TX_LOGICAL hc (hl b hb))
        (Apart.wr (own_LCH_LANE_FAULT_RX_LOGICAL hc (hl b hb))
          (Apart.wr (own_LCH_LANE_FAULT_STATUS hc (hl b hb)) ht)))
    · refine Apart.each (fun t ht b hb => ?_) h0
      exact Apart.upH (hl b hb) (Apart.wr (own_LCH_LANE_FAULT_TX_LOGICAL hc (hl b hb))
        (Apart.wr (own_LCH_LANE_FAULT_RX_LOGICAL hc (hl b hb))
          (Apart.wr (own_LCH_LANE_FAULT_STATUS hc (hl b hb)) ht)))
  · refine Apart.off (own_PRT_TRL_STATUS_DEGRADED hc hk) (Apart.wr (own_PRT_TRL_STATUS_READY_SPARES hc hk) ?_)
    refine Apart.each (fun t ht b hb => ?_) hgo
    exact Apart.wr (own_LCH_LANE_FAULT_TX_LOGICAL hc (hl b hb))
      (Apart.wr (own_LCH_LANE_FAULT_RX_LOGICAL hc (hl b hb))
        (Apart.wr (own_LCH_LANE_FAULT_STATUS hc (hl b hb)) ht))

theorem Apart.toSDown (hc : Covers P H s0) {s : State} {q : Nat} (hk : P (q / 2)) (hgo : Apart P H s0 s) : Apart P H s0 (s.toSDown q) := by
  unfold State.toSDown
  have h1 : Apart P H s0 (((s.dropSegment q).upS q (fun _ => { enteredAt := s.elapsed })).wr (PRT_SEG_STATUS.STATE q) sDOWN) :=
    Apart.wr (own_PRT_SEG_STATUS_STATE hc hk) (Apart.upS hk (Apart.dropSegment hc hk hgo))
  refine Apart.showSide hc hk (Apart.wr (own_PRT_DP_STATUS_SLOT_NOW hc hk) (Apart.each (fun t ht b hb => ?_) h1))
  have hM : Mem P s0 b := Mem.of_all h1 hk hb
  exact Apart.wr (own_LCH_FOM_RATE_SLOT hc (hM.half hc)) (Apart.setTx hc (hM.half hc) (Apart.releaseRx hc hM ht))

theorem Apart.quietPort (hc : Covers P H s0) {s : State} {p : Nat} {why : Option PortReset} (hk : P p) (hgo : Apart P H s0 s) : Apart P H s0 (s.quietPort p why) := by
  unfold State.quietPort
  have hm : ∀ b ∈ s.portMembers p, Mem P s0 b := fun b hb => Mem.of_port hgo hk hb
  have h1 : Apart P H s0 ((s.each (s.portMembers p) State.rxLeaves).endQueued (fun j => (s.portMembers p).contains j.half) 5) := 
    Apart.endQueued (Apart.each (fun t ht b hb => Apart.rxLeaves hc ((hm b hb).half hc) ht) hgo)
  have h2 : ∀ t, Apart P H s0 t → Apart P H s0 (if (t.stdSides p).isEmpty = true then t else t.enterDown p) := fun t ht => by
    split
    · exact ht
    · exact Apart.enterDown hc hk ht
  have h3 : ∀ t, Apart P H s0 t → Apart P H s0 (t.each (t.segSides p) State.toSDown) := fun t ht =>
    Apart.each (fun u hu q hq => Apart.toSDown hc (side_of_seg hk hq) hu) ht
  refine Apart.settled (Apart.upP hk (Apart.coldPort hc hk (Apart.each (fun t ht b hb => ?_) (h3 _ (h2 _ h1)))))
  have hH := (hm b hb).half hc
  exact Apart.coldHalf hc hH (Apart.upH hH (Apart.setTx hc hH (Apart.releaseRx hc (hm b hb) ht)))

theorem Apart.downPort (hc : Covers P H s0) {s : State} {p : Nat} (hk : P p) (hgo : Apart P H s0 s) : Apart P H s0 (s.downPort p) := by
  unfold State.downPort
  have hm : ∀ b ∈ s.portMembers p, Mem P s0 b := fun b hb => Mem.of_port hgo hk hb
  have h1 : Apart P H s0 (s.each (s.portMembers p) State.rxLeaves) := 
    Apart.each (fun t ht b hb => Apart.rxLeaves hc ((hm b hb).half hc) ht) hgo
  have h2 : ∀ t, Apart P H s0 t → Apart P H s0 (if (t.stdSides p).isEmpty = true then t else t.enterDown p) := fun t ht => by
    split
    · exact ht
    · exact Apart.enterDown hc hk ht
  have h3 : ∀ t, Apart P H s0 t → Apart P H s0 (t.each (t.segSides p) State.toSDown) := fun t ht =>
    Apart.each (fun u hu q hq => Apart.toSDown hc (side_of_seg hk hq) hu) ht
  refine Apart.each (fun t ht b hb => ?_) (h3 _ (h2 _ h1))
  have hH := (hm b hb).half hc
  exact Apart.upH hH (Apart.setTx hc hH (Apart.releaseRx hc (hm b hb) ht))

theorem Apart.portReset (hc : Covers P H s0) {s : State} {p : Nat} (hk : P p) (hgo : Apart P H s0 s) : Apart P H s0 (s.portReset p) := by
  unfold State.portReset
  dsimp only
  split
  · exact hgo
  · exact Apart.trans (Apart.bump hc hk (Apart.quietPort hc hk hgo)) (Apart.ofGoes (F := ⟨[], some [32 * RST_CNT.off + RST_CNT.PORT_RESETS.lo]⟩) (by decide +kernel)
      (Goes.wrapUp (List.mem_singleton.2 fieldName_RST_CNT_PORT_RESETS) known_RST_CNT_PORT_RESETS.agrees (by decide +kernel) (Goes.refl _ _)))

theorem Apart.restoreRx (hc : Covers P H s0) {s : State} {h : Nat} (hk : H h) (hgo : Apart P H s0 s) :
    Apart P H s0 (State.restoreRx s h) := by
  unfold State.restoreRx
  try dsimp only
  repeat' first
    | with_reducible assumption
    | with_reducible refine Apart.upH (by first | assumption | exact Mem.half hc (by assumption)) ?_
    | split

/-- The jobs in the engines' slots are on receivers among these half-lanes, wherever a tile's engines hold any. -/
theorem Apart.jobHalf (hgo : Apart P H s0 x) {k : Nat} {j : Job} (hj : ∀ i, (s0.engine k).slot = some i → H i.half)
    (e : (x.engine k).slot = some j) : H j.half := by
  obtain ⟨i, h1, h2⟩ := hgo.jobs k j e
  rw [← h2]; exact hj i h1
theorem Apart.loseJob (hc : Covers P H s0) {s : State} {k : Nat} (hj : ∀ i, (s0.engine k).slot = some i → H i.half)
    (hgo : Apart P H s0 s) : Apart P H s0 (s.loseJob k) := by
  unfold State.loseJob
  split
  · rename_i j e
    exact Apart.endJob (Apart.upE (fun i e => by cases e) (Apart.restoreRx hc (hgo.jobHalf hj e) hgo))
  · exact hgo
theorem Apart.cutJob (hc : Covers P H s0) {s : State} {k : Nat} (hj : ∀ i, (s0.engine k).slot = some i → H i.half)
    (hgo : Apart P H s0 s) : Apart P H s0 (s.cutJob k) := by
  unfold State.cutJob
  split
  · rename_i j e
    split
    · exact hgo
    · obtain ⟨i, h1, h2⟩ := hgo.jobs k j e
      exact Apart.finishJob ⟨i, h1, h2⟩ (Apart.restoreRx hc (hgo.jobHalf hj e) hgo)
  · exact hgo
theorem off_ENG_fields (P H : Nat → Prop) (k : Nat) :
    (∀ f ∈ ENG_STATUS.fields k, ¬spared P H (f.cell.key / 32)) ∧ ∀ f ∈ ENG_CNT.fields k, ¬spared P H (f.cell.key / 32) := by
  constructor
  · intro f hf
    simp only [ENG_STATUS.fields, List.mem_cons, List.not_mem_nil, or_false] at hf
    rcases hf with rfl | rfl | rfl | rfl | rfl | rfl | rfl | rfl
    all_goals exact own_cell (off_ENG P H k).1 (Nat.le_of_ble_eq_true rfl)
  · intro f hf
    simp only [ENG_CNT.fields, List.mem_cons, List.not_mem_nil, or_false] at hf
    rcases hf with rfl | rfl | rfl
    all_goals exact own_cell (off_ENG P H k).2 (Nat.le_of_ble_eq_true rfl)
theorem Apart.stopEngine (hc : Covers P H s0) {s : State} {k : Nat} (hj : ∀ i, (s0.engine k).slot = some i → H i.half)
    (hgo : Apart P H s0 s) : Apart P H s0 (s.stopEngine k) :=
  Apart.upE (fun i e => by cases e) (Apart.coldAll (off_ENG_fields P H k).2 (Apart.coldAll (off_ENG_fields P H k).1 (Apart.loseJob hc hj hgo)))

/-! ## A whole Lane Tile -/

/-- The Ports and the half-lanes of a Lane Tile, in which its engines' jobs are. -/
structure OfTile (t : Nat) (P H : Nat → Prop) (s : State) : Prop extends Covers P H s where
  port : ∀ p ∈ s.portsOf t, P p
  half : ∀ h ∈ tileRx t, H h
  jobs : ∀ k ∈ tileEngines t, ∀ i, (s.engine k).slot = some i → H i.half

theorem Apart.portsOf (h : Apart P H s0 x) (t : Nat) : x.portsOf t = s0.portsOf t := by
  unfold State.portsOf
  exact List.filter_congr (fun p _ => by rw [h.enabled, h.tileOf])
theorem Apart.quietTile {t : Nat} (hc : OfTile t P H s0) {s : State} {why : Option PortReset} (hgo : Apart P H s0 s) :
    Apart P H s0 (s.quietTile t why) := by
  unfold State.quietTile
  have c := hc.toCovers
  refine Apart.upT (fun _ => rfl) (Apart.each (fun u hu h hh => ?_) (Apart.each (fun u hu k hk => Apart.stopEngine c (hc.jobs k hk) hu)
    (Apart.endQueued (Apart.each (fun u hu p hp => ?_) hgo))))
  · have hH := hc.half h hh
    exact Apart.coldHalf c hH (Apart.upH hH (Apart.setTx c hH (Apart.abortRun c hH hu)))
  · have hP : P p := hc.port p (by rw [← hgo.portsOf]; exact hp)
    exact Apart.bump c hP (Apart.quietPort c hP hu)
theorem Apart.satTile {s : State} (hgo : Apart P H s0 s) : Apart P H s0 (s.satUp RST_CNT.TILE_RESETS) :=
  Apart.trans hgo (Apart.ofGoes (F := ⟨[], some [32 * RST_CNT.off + RST_CNT.TILE_RESETS.lo]⟩) (by decide +kernel)
    (Goes.satUp (List.mem_singleton.2 fieldName_RST_CNT_TILE_RESETS) known_RST_CNT_TILE_RESETS.agrees (by decide +kernel) (Goes.refl _ _)))
/-- Outside a reload of firmware. -/
theorem Apart.leavesOn {t st : Nat} {s : State} (hi : s.imgOp = none) (hgo : Apart P H s0 s) : Apart P H s0 (s.leavesOn t st) := by
  unfold State.leavesOn
  have h1 : Apart P H s0 (((s.wr (GLB_TILE_STATUS.LT t) st).off (CAL_TEMP.VALID t)).deviceQuiet).realign := by
    refine Apart.realign (Apart.deviceQuiet (Apart.off ?_ (Apart.wr ?_ hgo)))
    · refine own_cell ?_ (Nat.le_of_ble_eq_true rfl)
      rintro (⟨_, _, _⟩ | ⟨_, _, _⟩ | ⟨_, _, _⟩) <;> simp only [CAL_TEMP.VALID, CAL_TEMP.off] at * <;> omega
    · have h2 : (GLB_TILE_STATUS.LT t).key / 32 = GLB_TILE_STATUS.off := by unfold Cell.key GLB_TILE_STATUS.LT; simp only; omega
      rw [h2]
      rintro (⟨h, _, _⟩ | ⟨h, _, _⟩ | ⟨h, _, _⟩) <;> exact absurd h (by decide)
  have h2 : (((s.wr (GLB_TILE_STATUS.LT t) st).off (CAL_TEMP.VALID t)).deviceQuiet).realign.imgOp = none := hi
  dsimp only
  rw [h2]
  exact h1
/-- No access and no Ring command waits for the tile. -/
def Unawaited (s : State) (t : Nat) : Prop := (s.tile t).accesses = [] ∧ ∀ k i, ∀ w ∈ (s.ringx k i).waits, w.1 ≠ t
theorem Apart.drainAccesses {s : State} {t : Nat} (hn : (s0.tile t).accesses = []) (hgo : Apart P H s0 s) :
    Apart P H s0 (s.drainAccesses t) := by
  unfold State.drainAccesses
  rw [hgo.accesses, hn]
  refine Apart.tileQuiet (Apart.trans hgo ?_)
  refine ⟨fun _ _ => rfl, fun _ _ => rfl, fun _ _ => rfl, fun _ _ _ => rfl, fun _ j e => ⟨j, e, rfl⟩, fun a => ?_, fun _ _ => rfl⟩
  by_cases ha : a = t
  · rw [ha]
    have h1 : (s.upT t (fun x => { x with accesses := [] })).tile t = { s.tile t with accesses := [] } := Tab.get_set_same _ _ _ _
    rw [h1, hgo.accesses, hn]
  · exact congrArg Tile.accesses (Tab.get_set_ne _ _ _ ha)
theorem Apart.resumeWaits {s : State} {t : Nat} (hn : ∀ k i, ∀ w ∈ (s0.ringx k i).waits, w.1 ≠ t) (hgo : Apart P H s0 s) :
    Apart P H s0 (s.resumeWaits t) := by
  unfold State.resumeWaits
  refine Apart.each (fun u hu r _ => ?_) hgo
  have h1 : (u.ringx (r / 1024) (r % 1024)).waits.filter (fun w => w.1 == t) = [] := by
    rw [hu.waits, List.filter_eq_nil_iff]
    intro w hw e
    exact hn _ _ w hw (by simpa using e)
  simp only [h1, or_true, if_true]
  exact hu

theorem Apart.upPw {f : Power → Power} (h : Apart P H s0 x) : Apart P H s0 (x.upPw f) :=
  h.trans (Apart.ofGoes (F := ⟨[.power], some []⟩) (by decide +kernel) (Goes.upPw (by decide +kernel) (Goes.refl _ _)))
theorem tileLost_out {s : State} {t : Nat} (h : s.txn.tiles.contains t = false) : s.tileLost t = s := by
  unfold State.tileLost
  rw [h]
  rfl
theorem Apart.resetTile {t : Nat} (hc : OfTile t P H s0) (hn : Unawaited s0 t) {s : State} (hx : s.txn.tiles.contains t = false)
    (hi : s.imgOp = none) (hgo : Apart P H s0 s) : Apart P H s0 (s.resetTile t) := by
  unfold State.resetTile
  have h1 : ∀ why, Apart P H s0 (s.quietTile t why) := fun why => Apart.quietTile hc hgo
  have h2 : ∀ why, (s.quietTile t why).imgOp = none := fun why =>
    ((Goes.quietTile (F := fp_quietTile) (s0 := s) (Foot.le_refl _) (Goes.refl _ _)).kept.parts .imgOp (by decide +kernel)).trans hi
  split
  · exact hgo
  · split
    · exact Apart.satTile (h1 none)
    · rw [tileLost_out hx]
      refine Apart.resumeWaits hn.2 (Apart.satTile (Apart.upT (fun _ => rfl) (Apart.drainAccesses hn.1 ?_)))
      exact Apart.upPw (Apart.leavesOn (h2 _) (h1 (some .tile)))
theorem Apart.tileReset {t : Nat} (hc : OfTile t P H s0) (hn : Unawaited s0 t) {s : State} (hx : s.txn.tiles.contains t = false)
    (hi : s.imgOp = none) (hgo : Apart P H s0 s) : Apart P H s0 (s.tileReset t) := by
  unfold State.tileReset
  split
  · exact hgo
  · exact Apart.resetTile hc hn hx hi hgo

end Sys2Proof.Machine
end

