-- ==== Sys2Proof/Laws/LineCode.lean ====
section
/-! SUPPORT. The line code undone: arithmetic of the code's field, the parity of a codeword, and a whole frame (R122, R127). -/

set_option Elab.async false

namespace Sys2Proof.Machine

/-! ## The field -/

theorem xor_half (a b : Nat) : (a ^^^ b) / 2 = a / 2 ^^^ b / 2 := by
  apply Nat.eq_of_testBit_eq
  intro i
  simp [Nat.testBit_div_two]

theorem xor_double (a b : Nat) : 2 * (a ^^^ b) = 2 * a ^^^ 2 * b := by
  apply Nat.eq_of_testBit_eq
  intro i
  cases i with
  | zero => simp
  | succ i =>
    rw [Nat.testBit_xor, Nat.testBit_succ, Nat.testBit_succ, Nat.testBit_succ]
    simp

theorem gfTwice_lt : ∀ a, a < 1024 → gfTwice a < 1024 := by decide +kernel

theorem gfTwice_bit {a : Nat} (h : a < 1024) : gfTwice a = 2 * a ^^^ (if a.testBit 9 then 0x409 else 0) := by
  unfold gfTwice
  have h2 : a.testBit 9 = decide (512 ≤ a) := by
    rw [Nat.testBit_eq_decide_div_mod_eq]
    congr 1
    rw [eq_iff_iff]
    omega
  rw [h2]
  by_cases h3 : a < 512
  · simp [h3, Nat.not_le.2 h3]
  · simp [h3, Nat.le_of_not_lt h3]

theorem gfTwice_xor {a b : Nat} (ha : a < 1024) (hb : b < 1024) : gfTwice (a ^^^ b) = gfTwice a ^^^ gfTwice b := by
  rw [gfTwice_bit ha, gfTwice_bit hb, gfTwice_bit (Nat.xor_lt_two_pow (n := 10) ha hb), xor_double, Nat.testBit_xor]
  cases a.testBit 9 <;> cases b.testBit 9 <;> simp [Nat.xor_assoc, Nat.xor_comm, Nat.xor_left_comm]

theorem gfMulBits_lt : ∀ (n a b : Nat), a < 1024 → gfMulBits n a b < 1024 := by
  intro n
  induction n with
  | zero => intro a b _; exact Nat.zero_lt_succ _
  | succ n ih =>
    intro a b h
    unfold gfMulBits
    refine Nat.xor_lt_two_pow (n := 10) ?_ (ih _ _ (gfTwice_lt a h))
    split
    · exact h
    · decide

theorem gfMulBits_left : ∀ (n a b c : Nat), a < 1024 → b < 1024 → gfMulBits n (a ^^^ b) c = gfMulBits n a c ^^^ gfMulBits n b c := by
  intro n
  induction n with
  | zero => intro a b c _ _; simp [gfMulBits]
  | succ n ih =>
    intro a b c ha hb
    unfold gfMulBits
    rw [gfTwice_xor ha hb, ih _ _ _ (gfTwice_lt a ha) (gfTwice_lt b hb)]
    split
    · simp [Nat.xor_assoc, Nat.xor_left_comm]
    · simp

theorem gfMulBits_right : ∀ (n a b c : Nat), gfMulBits n a (b ^^^ c) = gfMulBits n a b ^^^ gfMulBits n a c := by
  intro n
  induction n with
  | zero => intro a b c; simp [gfMulBits]
  | succ n ih =>
    intro a b c
    unfold gfMulBits
    rw [xor_half, ih]
    have h1 : (b ^^^ c) % 2 = (b + c) % 2 := Nat.xor_mod_two_eq
    rcases Nat.mod_two_eq_zero_or_one b with hb | hb <;> rcases Nat.mod_two_eq_zero_or_one c with hc | hc
    · rw [if_neg (by omega), if_neg (by omega), if_neg (by omega)]; simp
    · rw [if_pos (by omega), if_neg (by omega), if_pos (by omega)]; simp [Nat.xor_left_comm]
    · rw [if_pos (by omega), if_pos (by omega), if_neg (by omega)]; simp [Nat.xor_assoc]
    · rw [if_neg (by omega), if_pos (by omega), if_pos (by omega)]
      simp [Nat.xor_assoc, Nat.xor_left_comm]

theorem gfMul_lt {a : Nat} (b : Nat) (h : a < 1024) : gfMul a b < 1024 := gfMulBits_lt 10 a b h
theorem gfMul_left {a b : Nat} (c : Nat) (ha : a < 1024) (hb : b < 1024) : gfMul (a ^^^ b) c = gfMul a c ^^^ gfMul b c :=
  gfMulBits_left 10 a b c ha hb
theorem gfMul_right (a b c : Nat) : gfMul a (b ^^^ c) = gfMul a b ^^^ gfMul a c := gfMulBits_right 10 a b c
theorem gfMul_zero (c : Nat) : gfMul 0 c = 0 := by
  have h := gfMul_left (a := 0) (b := 0) c (by decide) (by decide)
  simpa using h

/-- Two linear functions that agree on the powers of two agree everywhere. -/
theorem linear_ext {f g : Nat → Nat} (hf : ∀ a b, a < 1024 → b < 1024 → f (a ^^^ b) = f a ^^^ f b)
    (hg : ∀ a b, a < 1024 → b < 1024 → g (a ^^^ b) = g a ^^^ g b) (h : ∀ i, i < 10 → f (2 ^ i) = g (2 ^ i)) :
    ∀ a, a < 1024 → f a = g a := by
  have h0 : f 0 = g 0 := by
    have h1 := hf 0 0 (by decide) (by decide)
    have h2 := hg 0 0 (by decide) (by decide)
    simp only [Nat.xor_self] at h1 h2
    rw [h1, h2]
  have key : ∀ n, n ≤ 10 → ∀ a, a < 2 ^ n → f a = g a := by
    intro n
    induction n with
    | zero =>
      intro _ a ha
      have : a = 0 := by omega
      rw [this, h0]
    | succ n ih =>
      intro hn a ha
      have hp : 2 ^ n < 1024 := Nat.pow_lt_pow_right (a := 2) (by decide) (m := n) (n := 10) (by omega)
      by_cases hlt : a < 2 ^ n
      · exact ih (by omega) a hlt
      · have hs : a - 2 ^ n < 2 ^ n := by rw [Nat.pow_succ] at ha; omega
        have e : a = 2 ^ n ^^^ (a - 2 ^ n) := by
          have e1 := Nat.two_pow_add_eq_or_of_lt hs 1
          have e2 : 2 ^ n ^^^ (a - 2 ^ n) = 2 ^ n ||| (a - 2 ^ n) := by
            apply Nat.eq_of_testBit_eq
            intro i
            rw [Nat.testBit_xor, Nat.testBit_or]
            by_cases hi : i < n
            · simp [show ¬n = i by omega]
            · have h3 : (a - 2 ^ n).testBit i = false := Nat.testBit_lt_two_pow (Nat.lt_of_lt_of_le hs (Nat.pow_le_pow_right (by decide) (by omega)))
              simp [h3]
          rw [e2]
          have e3 : 2 ^ n * 1 + (a - 2 ^ n) = a := by omega
          rw [Nat.mul_one] at e1
          omega
        rw [e, hf _ _ hp (by omega), hg _ _ hp (by omega), h n (by omega), ih (by omega) _ hs]
  exact key 10 (Nat.le_refl _)

theorem xor_lt {a b : Nat} (ha : a < 1024) (hb : b < 1024) : a ^^^ b < 1024 := Nat.xor_lt_two_pow (n := 10) ha hb

theorem gfMul_comm {a b : Nat} (ha : a < 1024) (hb : b < 1024) : gfMul a b = gfMul b a := by
  have checked : ∀ i < 10, ∀ j < 10, gfMul (2 ^ i) (2 ^ j) = gfMul (2 ^ j) (2 ^ i) := by decide +kernel
  have hp : ∀ i, i < 10 → 2 ^ i < 1024 := fun i hi => Nat.pow_lt_pow_right (a := 2) (by decide) (n := 10) hi
  refine linear_ext (f := fun a => gfMul a b) (g := fun a => gfMul b a) (fun c d hc hd => gfMul_left b hc hd)
    (fun c d _ _ => gfMul_right b c d) (fun i hi => ?_) a ha
  exact linear_ext (f := fun b => gfMul (2 ^ i) b) (g := fun b => gfMul b (2 ^ i)) (fun c d _ _ => gfMul_right _ c d)
    (fun c d hc hd => gfMul_left _ hc hd) (fun j hj => checked i hi j hj) b hb

theorem gfMul_assoc {a b c : Nat} (ha : a < 1024) (hb : b < 1024) (hc : c < 1024) :
    gfMul (gfMul a b) c = gfMul a (gfMul b c) := by
  have checked : ∀ i < 10, ∀ j < 10, ∀ k < 10,
      gfMul (gfMul (2 ^ i) (2 ^ j)) (2 ^ k) = gfMul (2 ^ i) (gfMul (2 ^ j) (2 ^ k)) := by decide +kernel
  have hp : ∀ i, i < 10 → 2 ^ i < 1024 := fun i hi => Nat.pow_lt_pow_right (a := 2) (by decide) (n := 10) hi
  refine linear_ext (f := fun a => gfMul (gfMul a b) c) (g := fun a => gfMul a (gfMul b c)) (fun d e hd he => ?_)
    (fun d e hd he => gfMul_left _ hd he) (fun i hi => ?_) a ha
  · rw [gfMul_left b hd he, gfMul_left c (gfMul_lt _ hd) (gfMul_lt _ he)]
  refine linear_ext (f := fun b => gfMul (gfMul (2 ^ i) b) c) (g := fun b => gfMul (2 ^ i) (gfMul b c)) (fun d e _ _ => ?_)
    (fun d e hd he => ?_) (fun j hj => ?_) b hb
  · rw [gfMul_right, gfMul_left c (gfMul_lt _ (hp i hi)) (gfMul_lt _ (hp i hi))]
  · rw [gfMul_left c hd he, gfMul_right]
  exact linear_ext (f := fun c => gfMul (gfMul (2 ^ i) (2 ^ j)) c) (g := fun c => gfMul (2 ^ i) (gfMul (2 ^ j) c))
    (fun d e _ _ => gfMul_right _ d e) (fun d e _ _ => by rw [gfMul_right, gfMul_right]) (fun k hk => checked i hi j hj k hk) c hc

theorem gfMul_one {a : Nat} (ha : a < 1024) : gfMul a 1 = a := by
  have checked : ∀ i < 10, gfMul (2 ^ i) 1 = 2 ^ i := by decide
  exact linear_ext (f := fun a => gfMul a 1) (g := fun a => a) (fun c d hc hd => gfMul_left 1 hc hd) (fun _ _ _ _ => rfl)
    checked a ha

theorem gfPow_lt {x : Nat} (hx : x < 1024) : ∀ n, gfPow x n < 1024
  | 0 => by simp [gfPow]
  | n + 1 => gfMul_lt (gfPow x n) hx

/-! ## The parity -/

/-- Every symbol is one of the field. -/
def symbols (w : List Nat) : Prop := ∀ c ∈ w, c < 1024

theorem symbols_append {v w : List Nat} : symbols (v ++ w) ↔ symbols v ∧ symbols w := by
  constructor
  · exact fun h => ⟨fun c hc => h c (List.mem_append_left _ hc), fun c hc => h c (List.mem_append_right _ hc)⟩
  · rintro ⟨h, k⟩ c hc
    rcases List.mem_append.1 hc with hc | hc
    exacts [h c hc, k c hc]

theorem symbols_cons {c : Nat} {w : List Nat} : symbols (c :: w) ↔ c < 1024 ∧ symbols w := by simp [symbols]

/-- One step of the evaluation of a word. -/
theorem evalStep_lt {a c : Nat} (x : Nat) (ha : a < 1024) (hc : c < 1024) : gfMul a x ^^^ c < 1024 := xor_lt (gfMul_lt x ha) hc

theorem evalFrom_lt (x : Nat) : ∀ (w : List Nat) (a : Nat), symbols w → a < 1024 → w.foldl (fun a c => gfMul a x ^^^ c) a < 1024 := by
  intro w
  induction w with
  | nil => exact fun a _ h => h
  | cons c w ih => exact fun a hw ha => ih _ (symbols_cons.1 hw).2 (evalStep_lt x ha (symbols_cons.1 hw).1)

theorem rsEval_lt (x : Nat) {w : List Nat} (hw : symbols w) : rsEval w x < 1024 := evalFrom_lt x w 0 hw (by decide)

/-- A word evaluated from a value on: the value counts times the power of its length. -/
theorem evalFrom {x : Nat} (hx : x < 1024) : ∀ (w : List Nat) (a : Nat), symbols w → a < 1024 →
    w.foldl (fun a c => gfMul a x ^^^ c) a = gfMul a (gfPow x w.length) ^^^ rsEval w x := by
  intro w
  induction w with
  | nil => intro a _ ha; simp [rsEval, gfPow, gfMul_one ha]
  | cons c w ih =>
    intro a hw ha
    obtain ⟨hc, hw⟩ := symbols_cons.1 hw
    have h1 := ih (gfMul a x ^^^ c) hw (evalStep_lt x ha hc)
    have h2 := ih (gfMul 0 x ^^^ c) hw (evalStep_lt x (by decide) hc)
    simp only [rsEval, List.foldl_cons, List.length_cons] at h1 h2 ⊢
    rw [h1, h2, gfMul_zero, Nat.zero_xor, gfMul_left _ (gfMul_lt x ha) hc, gfMul_assoc ha hx (gfPow_lt hx _), gfPow, Nat.xor_assoc]

theorem rsEval_append {x : Nat} (hx : x < 1024) {v w : List Nat} (hv : symbols v) (hw : symbols w) :
    rsEval (v ++ w) x = gfMul (rsEval v x) (gfPow x w.length) ^^^ rsEval w x := by
  unfold rsEval
  rw [List.foldl_append]
  exact evalFrom hx w _ hw (rsEval_lt x hv)

theorem rsEval_cons {x c : Nat} (hx : x < 1024) {w : List Nat} (hc : c < 1024) (hw : symbols w) :
    rsEval (c :: w) x = gfMul c (gfPow x w.length) ^^^ rsEval w x := by
  have h := rsEval_append hx (v := [c]) (symbols_cons.2 ⟨hc, by simp [symbols]⟩) hw
  have h1 : rsEval [c] x = c := by simp [rsEval, gfMul_zero]
  rwa [h1] at h

/-- The sum of two words, the second times a factor, evaluated. -/
theorem rsEval_zip {x f : Nat} (hx : x < 1024) (hf : f < 1024) : ∀ (r g : List Nat), r.length = g.length → symbols r → symbols g →
    symbols (List.zipWith (fun r c => r ^^^ gfMul f c) r g) ∧
      rsEval (List.zipWith (fun r c => r ^^^ gfMul f c) r g) x = rsEval r x ^^^ gfMul f (rsEval g x) := by
  intro r
  induction r with
  | nil =>
    intro g h _ _
    have : g = [] := List.length_eq_zero_iff.1 h.symm
    subst this
    refine ⟨by simp [symbols], ?_⟩
    have h0 : gfMul f 0 = 0 := by have h := gfMul_right f 0 0; simpa using h
    simp [rsEval, h0]
  | cons a r ih =>
    intro g h hr hg
    cases g with
    | nil => simp at h
    | cons c g =>
      obtain ⟨ha, hr⟩ := symbols_cons.1 hr
      obtain ⟨hc, hg⟩ := symbols_cons.1 hg
      have hl : r.length = g.length := by simpa using h
      obtain ⟨hs, he⟩ := ih g hl hr hg
      have hm : a ^^^ gfMul f c < 1024 := xor_lt ha (gfMul_lt c hf)
      refine ⟨symbols_cons.2 ⟨hm, hs⟩, ?_⟩
      rw [List.zipWith_cons_cons, rsEval_cons hx hm hs, he, rsEval_cons hx ha hr, rsEval_cons hx hc hg,
        gfMul_left _ ha (gfMul_lt c hf), gfMul_assoc hf hc (gfPow_lt hx _), List.length_zipWith, ← hl, Nat.min_self, gfMul_right]
      simp [Nat.xor_assoc, Nat.xor_left_comm]

/-- One step of the division, at a root of the generator. -/
theorem rsEval_step {x m : Nat} {g rem : List Nat} (hx : x < 1024) (hm : m < 1024) (hg : symbols g) (hl : g.length = 12)
    (root : rsEval g x = gfPow x 12) (hr : symbols rem) (hn : rem.length = 12) :
    symbols (rsStep g rem m) ∧ (rsStep g rem m).length = 12 ∧
      rsEval (rsStep g rem m) x = gfMul (rsEval rem x) x ^^^ gfMul m (gfPow x 12) := by
  cases rem with
  | nil => simp at hn
  | cons r0 rs =>
    obtain ⟨h0, hs⟩ := symbols_cons.1 hr
    have hn' : rs.length = 11 := by simpa using hn
    have hf : m ^^^ r0 < 1024 := xor_lt hm h0
    have hz : symbols (rs ++ [0]) := symbols_append.2 ⟨hs, by simp [symbols]⟩
    obtain ⟨h1, h2⟩ := rsEval_zip hx hf (rs ++ [0]) g (by simp [hn', hl]) hz hg
    refine ⟨h1, by simp [rsStep, hn', hl], ?_⟩
    have h3 : rsEval (rs ++ [0]) x = gfMul (rsEval rs x) x := by
      rw [rsEval_append hx hs (by simp [symbols])]
      simp [rsEval, gfPow, gfMul_zero, gfMul_one hx]
    have h4 : gfMul (gfMul r0 (gfPow x 11)) x = gfMul r0 (gfPow x 12) := by
      rw [gfMul_assoc h0 (gfPow_lt hx 11) hx, gfMul_comm (gfPow_lt hx 11) hx]
      rfl
    have h5 : rsEval (r0 :: rs) x = gfMul r0 (gfPow x 11) ^^^ rsEval rs x := hn' ▸ rsEval_cons hx h0 hs
    show rsEval (List.zipWith (fun r c => r ^^^ gfMul (m ^^^ r0) c) (rs ++ [0]) g) x = _
    rw [h2, h3, root, h5, gfMul_left x (gfMul_lt _ h0) (rsEval_lt x hs), h4, gfMul_left _ hm h0]
    rw [Nat.xor_comm (gfMul m _), ← Nat.xor_assoc, Nat.xor_comm (gfMul (rsEval rs x) x)]

/-- The remainder after a message, at a root of the generator. -/
theorem rsEval_division {x : Nat} {g : List Nat} (hx : x < 1024) (hg : symbols g) (hl : g.length = 12)
    (root : rsEval g x = gfPow x 12) : ∀ (msg rem : List Nat) (e : Nat), symbols msg → symbols rem → rem.length = 12 → e < 1024 →
    rsEval rem x = gfMul e (gfPow x 12) →
    symbols (msg.foldl (rsStep g) rem) ∧ (msg.foldl (rsStep g) rem).length = 12 ∧
      rsEval (msg.foldl (rsStep g) rem) x = gfMul (msg.foldl (fun a c => gfMul a x ^^^ c) e) (gfPow x 12) := by
  intro msg
  induction msg with
  | nil => exact fun rem e _ hr hn _ h => ⟨hr, hn, h⟩
  | cons m msg ih =>
    intro rem e hm hr hn he h
    obtain ⟨hm, hs⟩ := symbols_cons.1 hm
    obtain ⟨h1, h2, h3⟩ := rsEval_step hx hm hg hl root hr hn
    refine ih (rsStep g rem m) (gfMul e x ^^^ m) hs h1 h2 (evalStep_lt x he hm) ?_
    rw [h3, h, gfMul_left _ (gfMul_lt x he) hm, gfMul_assoc he (gfPow_lt hx 12) hx, gfMul_comm (gfPow_lt hx 12) hx,
      gfMul_assoc he hx (gfPow_lt hx 12)]

theorem generator_symbols : symbols (rsGen.take 12).reverse := by unfold symbols; decide +kernel
theorem generator_length : (rsGen.take 12).reverse.length = 12 := by decide +kernel
/-- The twelve roots of the generator (R127). -/
theorem generator_roots : ∀ j < 12, gfAlpha j < 1024 ∧ rsEval (rsGen.take 12).reverse (gfAlpha j) = gfPow (gfAlpha j) 12 := by
  decide +kernel

theorem rsParity_symbols {msg : List Nat} (h : symbols msg) : symbols (rsParity msg) ∧ (rsParity msg).length = 12 := by
  have hr := generator_roots 0 (by decide)
  have d := rsEval_division hr.1 generator_symbols generator_length hr.2 msg (List.replicate 12 0) 0 h
    (by unfold symbols; decide) rfl (by decide) (by decide)
  exact ⟨d.1, d.2.1⟩

/-- A message with its parity is a codeword: every syndrome is 0 (R127). -/
theorem syndromes_of_parity {msg : List Nat} (h : symbols msg) : (rsSyndromes (msg ++ rsParity msg)).all (· == 0) = true := by
  rw [List.all_eq_true]
  intro v hv
  obtain ⟨j, hj, rfl⟩ := List.mem_map.1 hv
  have hr := generator_roots j (List.mem_range.1 hj)
  have d := rsEval_division hr.1 generator_symbols generator_length hr.2 msg (List.replicate 12 0) 0 h
    (by unfold symbols; decide) rfl (by decide) (by rw [gfMul_zero]; simp [rsEval, gfMul_zero, List.replicate])
  have p := rsParity_symbols h
  have e : rsEval (rsParity msg) (gfAlpha j) = gfMul (rsEval msg (gfAlpha j)) (gfPow (gfAlpha j) 12) := d.2.2
  rw [beq_iff_eq, rsEval_append hr.1 h p.1, p.2, e, Nat.xor_self]

/-- A codeword is decoded as it is. -/
theorem rsDecode_of_parity {msg : List Nat} (h : symbols msg) : rsDecode (msg ++ rsParity msg) = some (msg ++ rsParity msg, 0) := by
  simp [rsDecode, syndromes_of_parity h]

/-! ## Bits and symbols -/

theorem bitsHigh_length (k n : Nat) : (bitsHigh k n).length = k := by simp [bitsHigh]

theorem bitsHigh_succ (k n : Nat) : bitsHigh (k + 1) n = bitsHigh k (n / 2) ++ [bitAt n 0] := by
  unfold bitsHigh
  rw [List.range_succ, List.map_append]
  congr 1
  · apply List.map_congr_left
    intro i hi
    have hk : k + 1 - 1 - i = (k - 1 - i) + 1 := by have := List.mem_range.1 hi; omega
    rw [hk, bitAt, bitAt, Nat.pow_succ', ← Nat.div_div_eq_div_mul]
  · simp

theorem numHigh_append (bs : List Bool) (b : Bool) : numHigh (bs ++ [b]) = 2 * numHigh bs + ofBool b := by
  simp [numHigh]

theorem bitAt_zero_ofBool (n : Nat) (b : Bool) : bitAt (2 * n + ofBool b) 0 = b := by
  cases b <;> simp [bitAt, ofBool]

/-- The bits of a number give it back. -/
theorem numHigh_bitsHigh : ∀ (k n : Nat), n < 2 ^ k → numHigh (bitsHigh k n) = n := by
  intro k
  induction k with
  | zero =>
    intro n h
    have : n = 0 := by omega
    subst this
    rfl
  | succ k ih =>
    intro n h
    rw [bitsHigh_succ, numHigh_append, ih (n / 2) (by rw [Nat.pow_succ] at h; omega)]
    simp only [bitAt, ofBool, Nat.pow_zero, Nat.div_one, beq_iff_eq]
    split <;> omega

/-- The number of some bits gives them back, and is below the power of their number. -/
theorem bitsHigh_numHigh : ∀ (k : Nat) (bs : List Bool), bs.length = k → bitsHigh k (numHigh bs) = bs ∧ numHigh bs < 2 ^ k := by
  intro k
  induction k with
  | zero =>
    intro bs h
    rw [List.length_eq_zero_iff.1 h]
    exact ⟨rfl, by decide⟩
  | succ k ih =>
    intro bs h
    obtain ⟨l, b, rfl⟩ : ∃ l b, bs = l ++ [b] := by
      rcases List.eq_nil_or_concat bs with h0 | ⟨l, b, h0⟩
      · rw [h0] at h; simp at h
      · exact ⟨l, b, by simpa using h0⟩
    obtain ⟨h1, h2⟩ := ih l (by simpa using h)
    have hb : ofBool b < 2 := by cases b <;> decide
    rw [numHigh_append, bitsHigh_succ, bitAt_zero_ofBool, show (2 * numHigh l + ofBool b) / 2 = numHigh l by omega, h1]
    exact ⟨rfl, by rw [Nat.pow_succ]; omega⟩

theorem numHigh_lt (bs : List Bool) : numHigh bs < 2 ^ bs.length := (bitsHigh_numHigh _ bs rfl).2

theorem groups_length (k : Nat) : ∀ (n : Nat) (bs : List Bool), (groups k n bs).length = n := by
  intro n
  induction n with
  | zero => intro bs; rfl
  | succ n ih => intro bs; simp [groups, ih]

theorem groups_lt (k : Nat) : ∀ (n : Nat) (bs : List Bool), ∀ c ∈ groups k n bs, c < 2 ^ k := by
  intro n
  induction n with
  | zero => intro bs c h; simp [groups] at h
  | succ n ih =>
    intro bs c h
    rcases List.mem_cons.1 h with rfl | h
    · exact Nat.lt_of_lt_of_le (numHigh_lt _) (Nat.pow_le_pow_right (by decide) (List.length_take_le k bs))
    · exact ih _ c h

/-- The bits of some numbers, whatever follows them, are the numbers again. -/
theorem groups_of_bits {k : Nat} : ∀ (ws : List Nat) (r : List Bool), (∀ c ∈ ws, c < 2 ^ k) →
    groups k ws.length (ws.flatMap (bitsHigh k) ++ r) = ws := by
  intro ws
  induction ws with
  | nil => intro r _; rfl
  | cons w ws ih =>
    intro r h
    have hl := bitsHigh_length k w
    have h1 : (bitsHigh k w ++ (ws.flatMap (bitsHigh k) ++ r)).take k = bitsHigh k w := by
      rw [List.take_append_of_le_length (by omega), List.take_of_length_le (by omega)]
    have h2 : (bitsHigh k w ++ (ws.flatMap (bitsHigh k) ++ r)).drop k = ws.flatMap (bitsHigh k) ++ r := List.drop_left' hl
    show groups k (ws.length + 1) _ = _
    rw [List.flatMap_cons, List.append_assoc, groups, h1, h2, numHigh_bitsHigh k w (h w List.mem_cons_self),
      ih r (fun c hc => h c (List.mem_cons_of_mem _ hc))]

/-- Bits cut into numbers are those numbers' bits. -/
theorem bits_of_groups {k : Nat} : ∀ (n : Nat) (bs : List Bool), bs.length = k * n → (groups k n bs).flatMap (bitsHigh k) = bs := by
  intro n
  induction n with
  | zero => intro bs h; rw [List.length_eq_zero_iff.1 h]; rfl
  | succ n ih =>
    intro bs h
    rw [Nat.mul_succ] at h
    rw [groups, List.flatMap_cons, (bitsHigh_numHigh k (bs.take k) (by rw [List.length_take]; omega)).1,
      ih (bs.drop k) (by rw [List.length_drop]; omega), List.take_append_drop]

theorem flatMap_bits_length (k : Nat) (ws : List Nat) : (ws.flatMap (bitsHigh k)).length = k * ws.length := by
  induction ws with
  | nil => rfl
  | cons w ws ih => rw [List.flatMap_cons, List.length_append, ih, bitsHigh_length, List.length_cons, Nat.mul_succ, Nat.add_comm]

/-! ## A frame -/

theorem encode_lt (h : Header) : h.encode < 2 ^ 52 := by
  have hb : ∀ b, ofBool b < 2 := by decide
  have h1 := hb h.nak
  have h2 := hb h.omit_
  unfold Header.encode
  omega

/-- The symbols of a frame's bits are its message and the parity of it. -/
theorem frame_symbols (h : Header) (payload : List Byte) : ∃ msg : List Nat, symbols msg ∧ msg.length = 210 ∧
    msg.flatMap (bitsHigh 10) = bitsHigh 52 h.encode ++ (List.range 256).flatMap (fun i => bitsHigh 8 (byteAt payload i)) ∧
    frameBits h payload = (msg ++ rsParity msg).flatMap (bitsHigh 10) := by
  have hl : (bitsHigh 52 h.encode ++ (List.range 256).flatMap (fun i => bitsHigh 8 (byteAt payload i))).length = 10 * 210 := by
    have e : (List.range 256).flatMap (fun i => bitsHigh 8 (byteAt payload i)) = ((List.range 256).map (byteAt payload)).flatMap (bitsHigh 8) := by
      rw [List.flatMap_map]
    rw [e, List.length_append, bitsHigh_length, flatMap_bits_length, List.length_map, List.length_range]
  refine ⟨groups 10 210 _, fun c hc => groups_lt 10 210 _ c hc, groups_length _ _ _, bits_of_groups 210 _ hl, ?_⟩
  rw [List.flatMap_append, bits_of_groups 210 _ hl]
  rfl

theorem frameBits_length (h : Header) (payload : List Byte) : (frameBits h payload).length = 2220 := by
  obtain ⟨msg, hs, hn, -, e⟩ := frame_symbols h payload
  rw [e, flatMap_bits_length, List.length_append, hn, (rsParity_symbols hs).2]

/-- A frame's bits as they are sent decode to its own bits, with no symbol corrected (R127). -/
theorem rsDecode_frame (h : Header) (payload : List Byte) :
    ∃ w, rsDecode (groups 10 222 (frameBits h payload)) = some (w, 0) ∧ w.flatMap (bitsHigh 10) = frameBits h payload := by
  obtain ⟨msg, hs, hn, -, e⟩ := frame_symbols h payload
  obtain ⟨ps, pn⟩ := rsParity_symbols hs
  have hg := groups_of_bits (k := 10) (msg ++ rsParity msg) [] (fun c hc => symbols_append.2 ⟨hs, ps⟩ c hc)
  rw [List.append_nil, List.length_append, hn, pn, ← e] at hg
  exact ⟨_, by rw [hg]; exact rsDecode_of_parity hs, e.symm⟩

/-- The header and the payload are where the decoder takes them. -/
theorem frame_parts (h : Header) (payload : List Byte) :
    numHigh ((frameBits h payload).take 52) = h.encode ∧
      groups 8 256 ((frameBits h payload).drop 52) = (List.range 256).map (byteAt payload) := by
  have hl := bitsHigh_length 52 h.encode
  have e : (List.range 256).flatMap (fun i => bitsHigh 8 (byteAt payload i)) = ((List.range 256).map (byteAt payload)).flatMap (bitsHigh 8) := by
    rw [List.flatMap_map]
  unfold frameBits
  simp only [List.append_assoc]
  constructor
  · rw [List.take_append_of_le_length (by omega), List.take_of_length_le (by omega)]
    exact numHigh_bitsHigh 52 _ (encode_lt h)
  · rw [List.drop_left' hl, e]
    have := groups_of_bits (k := 8) ((List.range 256).map (byteAt payload))
    rw [List.length_map, List.length_range] at this
    refine this _ (fun c hc => ?_)
    obtain ⟨i, -, rfl⟩ := List.mem_map.1 hc
    exact (payload.getD i 0).isLt

/-- The bytes that a frame carries, for a payload of 256 bytes. -/
theorem payload_bytes {payload : List Byte} (h : payload.length = 256) :
    ((List.range 256).map (byteAt payload)).map (BitVec.ofNat 8) = payload := by
  apply List.ext_getElem
  · simp [h]
  · intro i h1 h2
    simp [byteAt, List.getD_eq_getElem?_getD, h2]

end Sys2Proof.Machine
end

