-- ==== Sys2Proof/Laws/OnAccess.lean ====
section
/-! SUPPORT. What each operation of `Machine/Access.lean` may change: one lemma for each. -/

set_option linter.all false
set_option Elab.async false

namespace Sys2Proof.Machine

variable {F : Foot} {s0 : State}

theorem Goes.ite {c : Prop} [Decidable c] {a b : State} (ha : Goes F s0 a) (hb : Goes F s0 b) : Goes F s0 (if c then a else b) := by
  split
  · exact ha
  · exact hb

/-- What `State.ringBase` may change. -/
def fp_ringBase : Foot := ⟨[], some [0x20020000]⟩
theorem Goes.ringBase {s : State} {k : Nat} {i : Nat} {hi : Nat} {v : Nat} (hF : fp_ringBase.le F = true) (hgo : Goes F s0 s) :
     Goes F s0 (State.ringBase s k i hi v) := by
  unfold State.ringBase
  try dsimp only
  repeat' first
    | with_reducible assumption
    | with_reducible refine Goes.wr (List.mem_singleton.2 (fieldName_RNG_BASE_ADDR _ _ _)) (known_RNG_BASE_ADDR _ _ _).agrees (Foot.le_trans (by decide +kernel) hF) ?_
    | with_reducible refine Goes.foldl ?_ ?_
    | split
    | intro _

/-- What `State.ringCtrl` may change. -/
def fp_ringCtrl : Foot := ⟨[.engines, .rings, .tags, .mgmt, .tiles, .power, .evq, .staged, .outbox], some [0x40C008,
  0x40800F, 0x408008, 0x40800A, 0x408000, 0x40800C, 0x280, 0x295, 0x2002011F, 0x2002011C, 0x2002011D, 0x20020114,
  0x20020100, 0x20020210, 0x20020200, 0x2002029B, 0x2002029C, 0x20000108, 0x600080]⟩
theorem Goes.ringCtrl {s : State} {k : Nat} {i : Nat} {v : Nat} (hF : fp_ringCtrl.le F = true) (hgo : Goes F s0 s) :
     Goes F s0 (State.ringCtrl s k i v) := by
  unfold State.ringCtrl
  try dsimp only
  repeat' first
    | with_reducible assumption
    | with_reducible refine Goes.ringEnable (Foot.le_trans (by decide +kernel) hF) ?_
    | with_reducible refine Goes.ringDisable (Foot.le_trans (by decide +kernel) hF) ?_
    | with_reducible refine Goes.ringResume (Foot.le_trans (by decide +kernel) hF) ?_
    | with_reducible refine Goes.foldl ?_ ?_
    | split
    | intro _

/-- What `State.ringDoorbell` may change. -/
def fp_ringDoorbell : Foot := ⟨[.engines, .rings, .tags, .mgmt, .tim, .tiles, .power, .evq, .staged, .now, .count,
  .replicas, .outbox, .freeCtr], some [0x8009D, 0x8009C, 0x8009F, 0x40C008, 0x40800F, 0x408008, 0x40800A, 0x408000,
  0x40800C, 0x280, 0x295, 0x6001A, 0x6001C, 0x6000F, 0x60010, 0x60284, 0x60290, 0x60285, 0x60282, 0x60280, 0x60283,
  0x60288, 0x60281, 0x6030E, 0x60300, 0x20020210, 0x20020200, 0x2002029B, 0x2002029C, 0x20000108, 0x600080]⟩
theorem Goes.ringDoorbell {s : State} {k : Nat} {i : Nat} {v : Nat} (hF : fp_ringDoorbell.le F = true) (hgo : Goes F s0 s) :
     Goes F s0 (State.ringDoorbell s k i v) := by
  unfold State.ringDoorbell
  try dsimp only
  repeat' first
    | with_reducible assumption
    | with_reducible refine Goes.eventDoorbell (Foot.le_trans (by decide +kernel) hF) ?_
    | with_reducible refine Goes.cmdDoorbell (Foot.le_trans (by decide +kernel) hF) ?_
    | with_reducible refine Goes.hostCmd (Foot.le_trans (by decide +kernel) hF) ?_ ?_
    | with_reducible refine Goes.foldl ?_ ?_
    | split
    | intro _

/-- What `State.windowWrite` may change. -/
def fp_windowWrite : Foot := ⟨[.engines, .rings, .tags, .imgOp, .mgmt, .winnows, .windows, .tim, .tiles, .power, .evq,
  .staged, .now, .count, .replicas, .outbox, .freeCtr], none⟩
theorem Goes.windowWrite {s : State} {k : Nat} {o : Nat} {v : Nat} (hF : fp_windowWrite.le F = true) (hgo : Goes F s0 s) :
     Goes F s0 (State.windowWrite s k o v) := by
  unfold State.windowWrite
  try dsimp only
  repeat' first
    | with_reducible assumption
    | with_reducible refine Goes.ringBase (Foot.le_trans (by decide +kernel) hF) ?_
    | with_reducible refine Goes.selfReset (Foot.le_trans (by decide +kernel) hF) ?_
    | with_reducible refine Goes.reroute (Foot.le_trans (by decide +kernel) hF) ?_
    | with_reducible refine Goes.wr (List.mem_singleton.2 (fieldName_TRC_WIN_READ_READ _ _)) (known_TRC_WIN_READ_READ _ _).agrees (Foot.le_trans (by decide +kernel) hF) ?_
    | with_reducible refine Goes.storeWordAny (fun f hf => (knowns_fieldsWindow _ _ f hf).agrees) (Foot.le_trans (by decide +kernel) hF) ?_
    | with_reducible refine Goes.windowResume (Foot.le_trans (by decide +kernel) hF) ?_
    | with_reducible refine Goes.ringCtrl (Foot.le_trans (by decide +kernel) hF) ?_
    | with_reducible refine Goes.hostCmd (Foot.le_trans (by decide +kernel) hF) ?_ ?_
    | with_reducible refine Goes.ringDoorbell (Foot.le_trans (by decide +kernel) hF) ?_
    | with_reducible refine Goes.foldl ?_ ?_
    | split
    | intro _

/-- What `State.sliceAction` may change. -/
def fp_sliceAction : Foot := ⟨[.engines, .slices, .rings, .tags, .imgOp, .mgmt, .winnows, .windows, .tim, .tiles,
  .power, .evq, .staged, .now, .count, .replicas, .outbox, .freeCtr], some [0x8009D, 0x8009C, 0x8009F, 0x40C008,
  0x410003, 0x410000, 0x410002, 0x410001, 0x40800F, 0x408008, 0x40800A, 0x408000, 0x40800C, 0x280, 0x295, 0x20006,
  0x20007, 0x6001A, 0x6001C, 0x6000F, 0x60010, 0x60284, 0x60290, 0x60285, 0x60282, 0x60280, 0x60283, 0x60288, 0x60281,
  0x6030E, 0x60300, 0x20020000, 0x2002011F, 0x2002011C, 0x2002011D, 0x2002011E, 0x20020114, 0x20020100, 0x20020210,
  0x20020200, 0x20020280, 0x2002029B, 0x2002029C, 0x600100, 0x20000080, 0x20000090, 0x2000009F, 0x20000108, 0x20000100,
  0x600200, 0x600212, 0x60008E, 0x600090, 0x600098, 0x600080, 0x60009C, 0x600180, 0x20120180, 0x20120080, 0x20120100,
  0x20120000, 0x2012001B, 0x2012001A, 0x20120019, 0x2012001C, 0x102001F, 0x1020017, 0x1020013, 0x102000F, 0x1020007,
  0x1020003]⟩
theorem Goes.sliceAction {s : State} {k : Nat} {v : Nat} (hF : fp_sliceAction.le F = true) (hgo : Goes F s0 s) :
     Goes F s0 (State.sliceAction s k v) := by
  unfold State.sliceAction
  try dsimp only
  repeat' first
    | with_reducible assumption
    | with_reducible refine Goes.askDestroy (Foot.le_trans (by decide +kernel) hF) ?_
    | with_reducible refine Goes.createSlice (Foot.le_trans (by decide +kernel) hF) ?_
    | with_reducible refine Goes.hostCmd (Foot.le_trans (by decide +kernel) hF) ?_ ?_
    | with_reducible refine Goes.askReset (Foot.le_trans (by decide +kernel) hF) ?_
    | with_reducible refine Goes.foldl ?_ ?_
    | split
    | intro _

/-- What `State.sliceWrite` may change. -/
def fp_sliceWrite : Foot := ⟨[.engines, .slices, .rings, .tags, .imgOp, .mgmt, .winnows, .windows, .tim, .tiles,
  .power, .evq, .staged, .now, .count, .replicas, .outbox, .freeCtr], none⟩
theorem Goes.sliceWrite {s : State} {k : Nat} {o : Nat} {v : Nat} (hF : fp_sliceWrite.le F = true) (hgo : Goes F s0 s) :
     Goes F s0 (State.sliceWrite s k o v) := by
  unfold State.sliceWrite
  try dsimp only
  repeat' first
    | with_reducible assumption
    | with_reducible refine Goes.sliceAction (Foot.le_trans (by decide +kernel) hF) ?_
    | with_reducible refine Goes.setVisible (Foot.le_trans (by decide +kernel) hF) ?_
    | with_reducible refine Goes.wr (List.mem_singleton.2 (fieldName_SLC_CTRL_PASID _)) (known_SLC_CTRL_PASID _).agrees (Foot.le_trans (by decide +kernel) hF) ?_
    | with_reducible refine Goes.storeWordAny (fun f hf => (knowns_fieldsSlice _ _ f hf).agrees) (Foot.le_trans (by decide +kernel) hF) ?_
    | with_reducible refine Goes.shareWrite (Foot.le_trans (by decide +kernel) hF) ?_
    | with_reducible refine Goes.foldl ?_ ?_
    | split
    | intro _

/-- What `State.txnAction` may change. -/
def fp_txnAction : Foot := ⟨[.ports, .txn, .tim, .tiles, .power, .evq, .now, .count, .replicas, .freeCtr], some
  [0x8009D, 0x8009C, 0x8009F, 0x100, 0x6001A, 0x60018, 0x6001C, 0x6000F, 0x60010, 0x60284, 0x60290, 0x60285, 0x60282,
  0x60280, 0x60283, 0x60288, 0x60281, 0x6030E, 0x60300, 0x40088, 0x40090, 0x40099, 0x40080, 0x4009C, 0x40280]⟩
theorem Goes.txnAction {s : State} {v : Nat} (hF : fp_txnAction.le F = true) (hgo : Goes F s0 s) :
     Goes F s0 (State.txnAction s v) := by
  unfold State.txnAction
  try dsimp only
  repeat' first
    | with_reducible assumption
    | with_reducible refine Goes.txnBegin (Foot.le_trans (by decide +kernel) hF) ?_
    | with_reducible refine Goes.rollTxn (Foot.le_trans (by decide +kernel) hF) ?_
    | with_reducible refine Goes.txnCommit (Foot.le_trans (by decide +kernel) hF) ?_
    | with_reducible refine Goes.txnCmd (Foot.le_trans (by decide +kernel) hF) ?_ ?_
    | with_reducible refine Goes.foldl ?_ ?_
    | split
    | intro _

/-- What `State.txnWrite` may change. -/
def fp_txnWrite : Foot := ⟨[.ports, .txn, .tim, .tiles, .power, .evq, .now, .count, .replicas, .freeCtr], none⟩
theorem Goes.txnWrite {s : State} {x : Nat} {v : Nat} (hF : fp_txnWrite.le F = true) (hgo : Goes F s0 s) :
     Goes F s0 (State.txnWrite s x v) := by
  unfold State.txnWrite
  try dsimp only
  repeat' first
    | with_reducible assumption
    | with_reducible refine Goes.txnAction (Foot.le_trans (by decide +kernel) hF) ?_
    | with_reducible refine Goes.upX (Foot.le_trans (by decide +kernel) hF) (fun _ h => h) ?_
    | with_reducible refine Goes.upX (Foot.le_trans (by decide +kernel) hF) ?_ ?_
    | with_reducible refine Goes.storeWordAny (fun f hf => (knowns_fieldsAt _ f hf).agrees) (Foot.le_trans (by decide +kernel) hF) ?_
    | with_reducible refine Goes.foldl ?_ ?_
    | exact fun _ h => ⟨Tab.wf_set h.1 _ _, h.2⟩
    | exact fun _ h => ⟨h.1, Tab.wf_set h.2.1 _ _, h.2.2⟩
    | exact fun _ _ => Txn.wf_new
    | split
    | intro _

/-- What `State.imgAction` may change. -/
def fp_imgAction : Foot := ⟨[.halves, .sides, .engines, .rings, .tags, .flash, .fuses, .imgOp, .mgmt, .tim, .tiles,
  .power, .evq, .now, .count, .replicas, .outbox, .freeCtr], some [0x220018, 0x220010, 0x200100, 0x8009D, 0x8009C,
  0x8009F, 0x40C008, 0x40800F, 0x408008, 0x40800A, 0x408000, 0x40800C, 0x40801C, 0xE0390, 0xE0380, 0xE0388, 0xE0210,
  0xE0200, 0xE021E, 0xE0208, 0xE021F, 0xE0280, 0xE0100, 0xE0001, 0x295, 0x20200, 0x2000F, 0x20006, 0x20007, 0x2001A,
  0x2001C, 0x4000280, 0x400029D, 0x400050E, 0x400051C, 0x4000513, 0x2000D05, 0x2000D06, 0x2000D00, 0x6001A, 0x6001C,
  0x6000F, 0x60010, 0x60284, 0x60290, 0x60285, 0x60282, 0x60280, 0x60283, 0x60288, 0x60281, 0x6030E, 0x60300, 0x100097]⟩
theorem Goes.imgAction {s : State} {v : Nat} (hF : fp_imgAction.le F = true) (hgo : Goes F s0 s) :
     Goes F s0 (State.imgAction s v) := by
  unfold State.imgAction
  try dsimp only
  repeat' first
    | with_reducible assumption
    | with_reducible refine Goes.imgCmd (Foot.le_trans (by decide +kernel) hF) ?_ ?_
    | with_reducible refine Goes.revokeKey (Foot.le_trans (by decide +kernel) hF) ?_
    | with_reducible refine Goes.programKey (Foot.le_trans (by decide +kernel) hF) ?_
    | with_reducible refine Goes.writeSlot (Foot.le_trans (by decide +kernel) hF) ?_
    | with_reducible refine Goes.confirmCmd (Foot.le_trans (by decide +kernel) hF) ?_
    | with_reducible refine Goes.swapFw (Foot.le_trans (by decide +kernel) hF) ?_
    | with_reducible refine Goes.advanceArb (Foot.le_trans (by decide +kernel) hF) ?_
    | with_reducible refine Goes.foldl ?_ ?_
    | split
    | intro _

/-- What `State.calAction` may change. -/
def fp_calAction : Foot := ⟨[.halves, .calTab, .engines, .calStore, .storeWait, .lastStore, .imgOp, .tim, .tiles,
  .power, .evq, .now, .count, .replicas, .freeCtr], some [0x200180, 0x220018, 0x220010, 0x220004, 0x20011A, 0x200119,
  0x200100, 0x20011F, 0x20011C, 0x8009D, 0x8009C, 0x8009F, 0x40800F, 0x408008, 0x40800A, 0x408000, 0x40800C, 0xE0390,
  0xE0380, 0xE0388, 0xE0210, 0xE0200, 0xE021E, 0xE0208, 0xE021F, 0xE0280, 0xE0100, 0xE0001, 0x6001A, 0x6001C, 0x6000F,
  0x60010, 0x60284, 0x60290, 0x60285, 0x60282, 0x60280, 0x60283, 0x60288, 0x60281, 0x6030E, 0x60300, 0x100097]⟩
theorem Goes.calAction {s : State} {v : Nat} (hF : fp_calAction.le F = true) (hgo : Goes F s0 s) :
     Goes F s0 (State.calAction s v) := by
  unfold State.calAction
  try dsimp only
  repeat' first
    | with_reducible assumption
    | with_reducible refine Goes.calStoreCmd (Foot.le_trans (by decide +kernel) hF) ?_
    | with_reducible refine Goes.calRun (Foot.le_trans (by decide +kernel) hF) ?_
    | with_reducible refine Goes.calReload (Foot.le_trans (by decide +kernel) hF) ?_
    | with_reducible refine Goes.hostCmd (Foot.le_trans (by decide +kernel) hF) ?_ ?_
    | with_reducible refine Goes.calClear (Foot.le_trans (by decide +kernel) hF) ?_
    | with_reducible refine Goes.foldl ?_ ?_
    | split
    | intro _

/-- What `State.rstAction` may change. -/
def fp_rstAction : Foot := ⟨[.halves, .sides, .ports, .era, .bct, .calTab, .engines, .slices, .rings, .tags,
  .calStore, .storeWait, .lastStore, .chip, .lastWritten, .imgOp, .txn, .mgmt, .winnows, .windows, .tim, .snap, .tiles,
  .power, .evq, .staged, .now, .count, .replicas, .outbox, .freeCtr], none⟩
theorem Goes.rstAction {s : State} {v : Nat} (hF : fp_rstAction.le F = true) (hgo : Goes F s0 s) :
     Goes F s0 (State.rstAction s v) := by
  unfold State.rstAction
  try dsimp only
  repeat' first
    | with_reducible assumption
    | with_reducible refine Goes.tileReset (Foot.le_trans (by decide +kernel) hF) ?_
    | with_reducible refine Goes.portReset (Foot.le_trans (by decide +kernel) hF) ?_
    | with_reducible refine Goes.hostCmd (Foot.le_trans (by decide +kernel) hF) ?_ ?_
    | with_reducible refine Goes.rstDevice (Foot.le_trans (by decide +kernel) hF) ?_
    | with_reducible refine Goes.foldl ?_ ?_
    | split
    | intro _

/-- What `State.plainWrite` may change. -/
def fp_plainWrite : Foot := ⟨[.halves, .sides, .ports, .era, .bct, .calTab, .engines, .slices, .rings, .tags, .flash,
  .calStore, .storeWait, .lastStore, .fuses, .chip, .lastWritten, .imgOp, .txn, .mgmt, .winnows, .windows, .tim, .snap,
  .tiles, .power, .evq, .staged, .now, .count, .replicas, .outbox, .freeCtr], none⟩
theorem Goes.plainWrite {s : State} {x : Nat} {v : Nat} (hF : fp_plainWrite.le F = true) (hgo : Goes F s0 s) :
     Goes F s0 (State.plainWrite s x v) := by
  unfold State.plainWrite
  try dsimp only
  repeat' first
    | with_reducible assumption
    | with_reducible refine Goes.flushMsix (Foot.le_trans (by decide +kernel) hF) ?_
    | with_reducible refine Goes.scheduleGo (Foot.le_trans (by decide +kernel) hF) ?_
    | with_reducible refine Goes.stopRunning (Foot.le_trans (by decide +kernel) hF) ?_
    | with_reducible refine Goes.rstAction (Foot.le_trans (by decide +kernel) hF) ?_
    | with_reducible refine Goes.imgAction (Foot.le_trans (by decide +kernel) hF) ?_
    | with_reducible refine Goes.tileStore (Foot.le_trans (by decide +kernel) hF) ?_
    | with_reducible refine Goes.calAction (Foot.le_trans (by decide +kernel) hF) ?_
    | with_reducible refine Goes.timSet (Foot.le_trans (by decide +kernel) hF) ?_
    | with_reducible refine Goes.putMsix (Foot.le_trans (by decide +kernel) hF) ?_
    | with_reducible refine Goes.setPermits (Foot.le_trans (by decide +kernel) hF) ?_
    | with_reducible refine Goes.windowWrite (Foot.le_trans (by decide +kernel) hF) ?_
    | with_reducible refine Goes.sliceWrite (Foot.le_trans (by decide +kernel) hF) ?_
    | with_reducible refine Goes.storeWord (names_ENG_CTRL_fields) (fun f hf => (knowns_ENG_CTRL f hf).agrees) (Foot.le_trans (by decide +kernel) hF) ?_
    | with_reducible refine Goes.storeWord (names_ERR_DP_LOG0_fields) (fun f hf => (knowns_ERR_DP_LOG0 f hf).agrees) (Foot.le_trans (by decide +kernel) hF) ?_
    | with_reducible refine Goes.storeWord (names_SNP_CTRL_fields) (fun f hf => (knowns_SNP_CTRL f hf).agrees) (Foot.le_trans (by decide +kernel) hF) ?_
    | with_reducible refine Goes.storeWord (names_TRC_SCHED_CTRL_fields) (fun f hf => (knowns_TRC_SCHED_CTRL f hf).agrees) (Foot.le_trans (by decide +kernel) hF) ?_
    | with_reducible refine Goes.storeWordAny (fun f hf => (knowns_fieldsAt _ f hf).agrees) (Foot.le_trans (by decide +kernel) hF) ?_
    | with_reducible refine Goes.off (List.mem_singleton.2 (fieldName_CAL_RX_HOLD _)) (known_CAL_RX_HOLD _).agrees (Foot.le_trans (by decide +kernel) hF) ?_
    | with_reducible refine Goes.off (List.mem_singleton.2 (fieldName_ERR_DP_LOG0_OVERFLOW)) (known_ERR_DP_LOG0_OVERFLOW).agrees (Foot.le_trans (by decide +kernel) hF) ?_
    | with_reducible refine Goes.off (List.mem_singleton.2 (fieldName_SNP_STATUS_STATE)) (known_SNP_STATUS_STATE).agrees (Foot.le_trans (by decide +kernel) hF) ?_
    | with_reducible refine Goes.txnWrite (Foot.le_trans (by decide +kernel) hF) ?_
    | with_reducible refine Goes.setHold (Foot.le_trans (by decide +kernel) hF) ?_
    | with_reducible refine Goes.foldl ?_ ?_
    | with_reducible refine Goes.ite ?_ ?_
    | split
    | intro _

/-- What `State.rwtActs` may change. -/
def fp_rwtActs : Foot := ⟨[.halves, .sides, .ports, .engines, .mgmt, .tim, .tiles, .power, .evq, .now, .count,
  .replicas, .outbox, .freeCtr], none⟩
theorem Goes.rwtActs {s : State} {x : Nat} {v : Nat} (hF : fp_rwtActs.le F = true) (hgo : Goes F s0 s) :
     Goes F s0 (State.rwtActs s x v) := by
  unfold State.rwtActs
  try dsimp only
  repeat' first
    | with_reducible assumption
    | with_reducible refine Goes.hostCmd (Foot.le_trans (by decide +kernel) hF) ?_ ?_
    | with_reducible refine Goes.sourceNow (Foot.le_trans (by decide +kernel) hF) ?_
    | with_reducible refine Goes.askRetrain (Foot.le_trans (by decide +kernel) hF) ?_
    | with_reducible refine Goes.foldl ?_ ?_
    | split
    | intro _

/-- What `State.stageRwt` may change. -/
def fp_stageRwt : Foot := ⟨[.txn], some [0x20300, 0x40098]⟩
theorem Goes.stageRwt {s : State} {x : Nat} {v : Nat} (hF : fp_stageRwt.le F = true) (hgo : Goes F s0 s) :
     Goes F s0 (State.stageRwt s x v) := by
  unfold State.stageRwt
  try dsimp only
  repeat' first
    | with_reducible assumption
    | exact fun f hf => (knowns_fieldsAt _ f hf).agrees
    | with_reducible refine Goes.upX (Foot.le_trans (by decide +kernel) hF) (fun _ h => h) ?_
    | with_reducible refine Goes.upX (Foot.le_trans (by decide +kernel) hF) ?_ ?_
    | with_reducible refine Goes.on (List.mem_singleton.2 (fieldName_IMG_BCT_ENTRY _)) (known_IMG_BCT_ENTRY _).agrees (Foot.le_trans (by decide +kernel) hF) ?_
    | with_reducible refine Goes.on (List.mem_singleton.2 (fieldName_TXN_STATUS_STRAY)) (known_TXN_STATUS_STRAY).agrees (Foot.le_trans (by decide +kernel) hF) ?_
    | with_reducible refine Goes.wr (List.mem_singleton.2 (fieldName_IMG_BCT_ENTRY _)) (known_IMG_BCT_ENTRY _).agrees (Foot.le_trans (by decide +kernel) hF) ?_
    | with_reducible refine Goes.wr (List.mem_singleton.2 (fieldName_TXN_STATUS_STRAY)) (known_TXN_STATUS_STRAY).agrees (Foot.le_trans (by decide +kernel) hF) ?_
    | with_reducible refine Goes.stageWord (Foot.le_trans (by decide +kernel) hF) ?_ ?_
    | with_reducible refine Goes.stageBct (Foot.le_trans (by decide +kernel) hF) ?_
    | with_reducible refine Goes.foldl ?_ ?_
    | exact fun _ h => ⟨Tab.wf_set h.1 _ _, h.2⟩
    | exact fun _ h => ⟨h.1, Tab.wf_set h.2.1 _ _, h.2.2⟩
    | exact fun _ _ => Txn.wf_new
    | split
    | intro _

/-- What `State.rwtWrite` may change. -/
def fp_rwtWrite : Foot := ⟨[.halves, .sides, .ports, .engines, .txn, .mgmt, .tim, .tiles, .power, .evq, .now, .count,
  .replicas, .outbox, .freeCtr], none⟩
theorem Goes.rwtWrite {s : State} {x : Nat} {v : Nat} (hF : fp_rwtWrite.le F = true) (hgo : Goes F s0 s) :
     Goes F s0 (State.rwtWrite s x v) := by
  unfold State.rwtWrite
  try dsimp only
  repeat' first
    | with_reducible assumption
    | with_reducible refine Goes.rwtActs (Foot.le_trans (by decide +kernel) hF) ?_
    | with_reducible refine Goes.on (List.mem_singleton.2 (fieldName_TXN_STATUS_STRAY)) (known_TXN_STATUS_STRAY).agrees (Foot.le_trans (by decide +kernel) hF) ?_
    | with_reducible refine Goes.stageRwt (Foot.le_trans (by decide +kernel) hF) ?_
    | with_reducible refine Goes.foldl ?_ ?_
    | split
    | intro _

/-- What `State.writeReg` may change. -/
def fp_writeReg : Foot := ⟨[.halves, .sides, .ports, .era, .bct, .calTab, .engines, .slices, .rings, .tags, .flash,
  .calStore, .storeWait, .lastStore, .fuses, .chip, .lastWritten, .imgOp, .txn, .mgmt, .winnows, .windows, .tim, .snap,
  .tiles, .power, .evq, .staged, .now, .count, .replicas, .outbox, .freeCtr], none⟩
theorem Goes.writeReg {s : State} {x : Nat} {v : Nat} (hF : fp_writeReg.le F = true) (hgo : Goes F s0 s) :
     Goes F s0 (State.writeReg s x v) := by
  unfold State.writeReg
  try dsimp only
  repeat' first
    | with_reducible assumption
    | with_reducible refine Goes.rwtWrite (Foot.le_trans (by decide +kernel) hF) ?_
    | with_reducible refine Goes.plainWrite (Foot.le_trans (by decide +kernel) hF) ?_
    | with_reducible refine Goes.foldl ?_ ?_
    | split
    | intro _

/-- What `State.refuse` may change. -/
def fp_refuse : Foot := ⟨[.mgmt, .outbox], some []⟩
theorem Goes.refuse {s : State} {header : Nat} (hF : fp_refuse.le F = true) (hgo : Goes F s0 s) :
     Goes F s0 (State.refuse s header) := by
  unfold State.refuse
  try dsimp only
  repeat' first
    | with_reducible assumption
    | with_reducible refine Goes.uncError (Foot.le_trans (by decide +kernel) hF) ?_
    | with_reducible refine Goes.sendUp (Foot.le_trans (by decide +kernel) hF) ?_
    | with_reducible refine Goes.foldl ?_ ?_
    | split
    | intro _

/-- What `State.readReg` may change. -/
def fp_readReg : Foot := ⟨[.halves, .sides, .ports, .engines, .mgmt, .tim, .tiles, .power, .evq, .now, .count,
  .replicas, .outbox, .freeCtr], none⟩
theorem Goes.readReg {s : State} {x : Nat} (hF : fp_readReg.le F = true) (hgo : Goes F s0 s) :
     Goes F s0 (State.readReg s x) := by
  unfold State.readReg
  try dsimp only
  repeat' first
    | with_reducible assumption
    | with_reducible refine Goes.tileAccess (Foot.le_trans (by decide +kernel) hF) ?_
    | with_reducible refine Goes.sendUp (Foot.le_trans (by decide +kernel) hF) ?_
    | with_reducible refine Goes.foldl ?_ ?_
    | split
    | intro _

/-- What `State.readSpan` may change. -/
def fp_readSpan : Foot := ⟨[.halves, .sides, .ports, .engines, .mgmt, .tim, .tiles, .power, .evq, .now, .count,
  .replicas, .outbox, .freeCtr], none⟩
theorem Goes.readSpan {s : State} {x : Nat} {lo : Nat} {hi : Nat} (hF : fp_readSpan.le F = true) (hgo : Goes F s0 s) :
     Goes F s0 (State.readSpan s x lo hi) := by
  unfold State.readSpan
  try dsimp only
  repeat' first
    | with_reducible assumption
    | with_reducible refine Goes.readReg (Foot.le_trans (by decide +kernel) hF) ?_
    | with_reducible refine Goes.foldl ?_ ?_
    | split
    | intro _

/-- What `State.writeSpan` may change. -/
def fp_writeSpan : Foot := ⟨[.halves, .sides, .ports, .era, .bct, .calTab, .engines, .slices, .rings, .tags, .flash,
  .calStore, .storeWait, .lastStore, .fuses, .chip, .lastWritten, .imgOp, .txn, .mgmt, .winnows, .windows, .tim, .snap,
  .tiles, .power, .evq, .staged, .now, .count, .replicas, .outbox, .freeCtr], none⟩
theorem Goes.writeSpan {s : State} {x : Nat} {lo : Nat} {hi : Nat} {data : Nat} (hF : fp_writeSpan.le F = true) (hgo : Goes F s0 s) :
     Goes F s0 (State.writeSpan s x lo hi data) := by
  unfold State.writeSpan
  try dsimp only
  repeat' first
    | with_reducible assumption
    | with_reducible refine Goes.on (List.mem_singleton.2 (fieldName_GLB_MGMT_STATUS_BAD_ACCESS)) (known_GLB_MGMT_STATUS_BAD_ACCESS).agrees (Foot.le_trans (by decide +kernel) hF) ?_
    | with_reducible refine Goes.writeReg (Foot.le_trans (by decide +kernel) hF) ?_
    | with_reducible refine Goes.foldl ?_ ?_
    | split
    | intro _

/-- What `State.msixOpenAccess` may change. -/
def fp_msixOpenAccess : Foot := ⟨[.halves, .sides, .ports, .era, .bct, .calTab, .engines, .slices, .rings, .tags,
  .flash, .calStore, .storeWait, .lastStore, .fuses, .chip, .lastWritten, .imgOp, .txn, .mgmt, .winnows, .windows, .tim,
  .snap, .tiles, .power, .evq, .staged, .now, .count, .replicas, .outbox, .freeCtr], none⟩
theorem Goes.msixOpenAccess {n : Nat} {isWrite : Bool} (hF : fp_msixOpenAccess.le F = true) :
    ∀ {s : State} {x : Nat}, Goes F s0 s → Goes F s0 (State.msixOpenAccess n s isWrite x) := by
  induction n with
  | zero => exact fun h => h
  | succ n ih =>
    intro s x hgo
    have h1 : Goes F s0 (s.takeFree).2 := Goes.takeFree (Foot.le_trans (by decide +kernel) hF) hgo
    unfold State.msixOpenAccess
    refine ih ?_
    split
    · exact Goes.writeReg (Foot.le_trans (by decide +kernel) hF) h1
    · exact Goes.sendUp (Foot.le_trans (by decide +kernel) hF) h1

/-- What `State.memRequest` may change. -/
def fp_memRequest : Foot := ⟨[.halves, .sides, .ports, .era, .bct, .calTab, .engines, .slices, .rings, .tags, .flash,
  .calStore, .storeWait, .lastStore, .fuses, .chip, .lastWritten, .imgOp, .txn, .mgmt, .winnows, .windows, .tim, .snap,
  .tiles, .power, .evq, .staged, .now, .count, .replicas, .outbox, .freeCtr], none⟩
theorem Goes.memRequest {s : State} {isWrite : Bool} {x : Nat} {n : Nat} {f : Nat} {l : Nat} {data : Nat} {header : Nat} (hF : fp_memRequest.le F = true) (hgo : Goes F s0 s) :
     Goes F s0 (State.memRequest s isWrite x n f l data header) := by
  unfold State.memRequest
  try dsimp only
  repeat' first
    | with_reducible assumption
    | with_reducible refine Goes.readSpan (Foot.le_trans (by decide +kernel) hF) ?_
    | with_reducible refine Goes.msixOpenAccess (Foot.le_trans (by decide +kernel) hF) ?_
    | with_reducible refine Goes.refuse (Foot.le_trans (by decide +kernel) hF) ?_
    | with_reducible refine Goes.writeSpan (Foot.le_trans (by decide +kernel) hF) ?_
    | with_reducible refine Goes.foldl ?_ ?_
    | split
    | intro _

/-- What `State.readConfig` may change. -/
def fp_readConfig : Foot := ⟨[.mgmt, .outbox], some []⟩
theorem Goes.readConfig {s : State} {o : Nat} (hF : fp_readConfig.le F = true) (hgo : Goes F s0 s) :
     Goes F s0 (State.readConfig s o) := by
  unfold State.readConfig
  try dsimp only
  repeat' first
    | with_reducible assumption
    | with_reducible refine Goes.sendUp (Foot.le_trans (by decide +kernel) hF) ?_
    | with_reducible refine Goes.foldl ?_ ?_
    | split
    | intro _

/-- What `execUnsupportedRequest` may change. -/
def fp_execUnsupportedRequest : Foot := ⟨[.halves, .sides, .ports, .era, .bct, .calTab, .engines, .slices, .rings,
  .tags, .flash, .calStore, .storeWait, .lastStore, .fuses, .chip, .lastWritten, .imgOp, .txn, .mgmt, .winnows,
  .windows, .tim, .snap, .tiles, .power, .evq, .staged, .now, .count, .replicas, .outbox, .freeCtr], none⟩
theorem goes_execUnsupportedRequest {kind : ReqKind} {addr : Nat} {span : ReqSpan} {header : Nat} {s : State} (hF : fp_execUnsupportedRequest.le F = true) (hgo : Goes F s0 s) :
     Runs F s0 (execUnsupportedRequest kind addr span header s) := by
  unfold execUnsupportedRequest
  try dsimp only
  repeat' first
    | with_reducible assumption
    | with_reducible refine Runs.next ?_
    | with_reducible refine Goes.configAsk (Foot.le_trans (by decide +kernel) hF) ?_ ?_
    | with_reducible refine Goes.refuse (Foot.le_trans (by decide +kernel) hF) ?_
    | with_reducible refine Goes.readConfig (Foot.le_trans (by decide +kernel) hF) ?_
    | with_reducible refine Goes.memRequest (Foot.le_trans (by decide +kernel) hF) ?_
    | with_reducible refine Goes.foldl ?_ ?_
    | split
    | intro _

/-- What `execRegisterWrite` may change. -/
def fp_execRegisterWrite : Foot := ⟨[.halves, .sides, .ports, .era, .bct, .calTab, .engines, .slices, .rings, .tags,
  .flash, .calStore, .storeWait, .lastStore, .fuses, .chip, .lastWritten, .imgOp, .txn, .mgmt, .winnows, .windows, .tim,
  .snap, .tiles, .power, .evq, .staged, .now, .count, .replicas, .outbox, .freeCtr], none⟩
theorem goes_execRegisterWrite {bar : Bar} {addr : Nat} {be : Nat} {data : Nat} {s : State} (hF : fp_execRegisterWrite.le F = true) (hgo : Goes F s0 s) :
     Runs F s0 (execRegisterWrite bar addr be data s) := by
  unfold execRegisterWrite
  try dsimp only
  repeat' first
    | with_reducible assumption
    | with_reducible refine Runs.next ?_
    | with_reducible refine Goes.refuse (Foot.le_trans (by decide +kernel) hF) ?_
    | with_reducible refine Goes.takeFree (Foot.le_trans (by decide +kernel) hF) ?_
    | with_reducible refine Goes.memRequest (Foot.le_trans (by decide +kernel) hF) ?_
    | with_reducible refine Goes.foldl ?_ ?_
    | split
    | intro _

/-- What `execRwtWrite` may change. -/
def fp_execRwtWrite : Foot := ⟨[.halves, .sides, .ports, .engines, .txn, .mgmt, .tim, .tiles, .power, .evq, .now,
  .count, .replicas, .outbox, .freeCtr], none⟩
theorem goes_execRwtWrite {offset : Nat} {value : Nat} {s : State} (hF : fp_execRwtWrite.le F = true) (hgo : Goes F s0 s) :
     Runs F s0 (execRwtWrite offset value s) := by
  unfold execRwtWrite
  try dsimp only
  repeat' first
    | with_reducible assumption
    | with_reducible refine Runs.next ?_
    | with_reducible refine Goes.rwtWrite (Foot.le_trans (by decide +kernel) hF) ?_
    | with_reducible refine Goes.foldl ?_ ?_
    | split
    | intro _

/-- What `execFencedTileAccess` may change. -/
def fp_execFencedTileAccess : Foot := ⟨[.halves, .sides, .ports, .engines, .mgmt, .tiles, .evq, .outbox], none⟩
theorem goes_execFencedTileAccess {isWrite : Bool} {offset : Nat} {value : Nat} {s : State} (hF : fp_execFencedTileAccess.le F = true) (hgo : Goes F s0 s) :
     Runs F s0 (execFencedTileAccess isWrite offset value s) := by
  unfold execFencedTileAccess
  try dsimp only
  repeat' first
    | with_reducible assumption
    | with_reducible refine Runs.next ?_
    | with_reducible refine Goes.hostWrite (Foot.le_trans (by decide +kernel) hF) ?_ ?_
    | with_reducible refine Goes.takeAccess (Foot.le_trans (by decide +kernel) hF) ?_
    | with_reducible refine Goes.foldl ?_ ?_
    | split
    | intro _

/-- What `execTileAccessComplete` may change. -/
def fp_execTileAccessComplete : Foot := ⟨[.halves, .sides, .ports, .engines, .rings, .tags, .mgmt, .tiles, .power,
  .evq, .outbox], none⟩
theorem goes_execTileAccessComplete {t : TileId} {s : State} (hF : fp_execTileAccessComplete.le F = true) (hgo : Goes F s0 s) :
     Runs F s0 (execTileAccessComplete t s) := by
  unfold execTileAccessComplete
  try dsimp only
  repeat' first
    | with_reducible assumption
    | with_reducible refine Runs.next ?_
    | with_reducible refine Goes.resumeWaits (Foot.le_trans (by decide +kernel) hF) ?_
    | with_reducible refine Goes.drainAccesses (Foot.le_trans (by decide +kernel) hF) ?_
    | with_reducible refine Goes.foldl ?_ ?_
    | split
    | intro _

end Sys2Proof.Machine
end

