-- ==== Sys2Proof/Laws/OnSideband.lean ====
section
/-! SUPPORT. What each operation of `Machine/Sideband.lean` may change: one lemma for each. -/

set_option linter.all false
set_option Elab.async false

namespace Sys2Proof.Machine

variable {F : Foot} {s0 : State}

/-- What `State.sbAnswer` may change. -/
def fp_sbAnswer : Foot := ⟨[.outbox], some []⟩
theorem Goes.sbAnswer {s : State} {written : List Nat} {block : List Nat} (hF : fp_sbAnswer.le F = true) (hgo : Goes F s0 s) :
     Goes F s0 (State.sbAnswer s written block) := by
  unfold State.sbAnswer
  try dsimp only
  repeat' first
    | with_reducible assumption
    | with_reducible refine Goes.emit (Foot.le_trans (by decide +kernel) hF) ?_
    | with_reducible refine Goes.foldl ?_ ?_
    | split
    | intro _

/-- What `State.sbEnd` may change. -/
def fp_sbEnd : Foot := ⟨[], some [0x100100, 0x100088]⟩
theorem Goes.sbEnd {s : State} {status : Nat} (hF : fp_sbEnd.le F = true) (hgo : Goes F s0 s) :
     Goes F s0 (State.sbEnd s status) := by
  unfold State.sbEnd
  try dsimp only
  repeat' first
    | with_reducible assumption
    | with_reducible refine Goes.satUp (List.mem_singleton.2 (fieldName_SB_CNT_ERRORS)) (known_SB_CNT_ERRORS).agrees (Foot.le_trans (by decide +kernel) hF) ?_
    | with_reducible refine Goes.satUp (List.mem_singleton.2 (fieldName_SB_STATUS_LAST_STATUS)) (known_SB_STATUS_LAST_STATUS).agrees (Foot.le_trans (by decide +kernel) hF) ?_
    | with_reducible refine Goes.wr (List.mem_singleton.2 (fieldName_SB_CNT_ERRORS)) (known_SB_CNT_ERRORS).agrees (Foot.le_trans (by decide +kernel) hF) ?_
    | with_reducible refine Goes.wr (List.mem_singleton.2 (fieldName_SB_STATUS_LAST_STATUS)) (known_SB_STATUS_LAST_STATUS).agrees (Foot.le_trans (by decide +kernel) hF) ?_
    | with_reducible refine Goes.foldl ?_ ?_
    | split
    | intro _

/-- What `State.sbOver` may change. -/
def fp_sbOver : Foot := ⟨[.power], some []⟩
theorem Goes.sbOver {s : State} (hF : fp_sbOver.le F = true) (hgo : Goes F s0 s) :
     Goes F s0 (State.sbOver s) := by
  unfold State.sbOver
  try dsimp only
  repeat' first
    | with_reducible assumption
    | with_reducible refine Goes.upPw (Foot.le_trans (by decide +kernel) hF) ?_
    | with_reducible refine Goes.foldl ?_ ?_
    | split
    | intro _

/-- What `State.sbMessage` may change. -/
def fp_sbMessage : Foot := ⟨[.tim, .power, .now, .count, .replicas, .freeCtr], some [0x8009D, 0x8009C, 0x8009F,
  0x6001A, 0x6001C, 0x6000F, 0x60010, 0x60284, 0x60290, 0x60285, 0x60282, 0x60280, 0x60283, 0x60288, 0x60281, 0x6030E,
  0x60300, 0x100110]⟩
theorem Goes.sbMessage {s : State} {act : State → State} (hF : fp_sbMessage.le F = true) (hact : ∀ t, Goes F s0 t → Goes F s0 (act t)) (hgo : Goes F s0 s) :
     Goes F s0 (State.sbMessage s act) := by
  unfold State.sbMessage
  try dsimp only
  repeat' first
    | with_reducible assumption
    | with_reducible refine hact _ ?_
    | with_reducible refine Goes.sbBegin (Foot.le_trans (by decide +kernel) hF) ?_
    | with_reducible refine Goes.wakeDevice (Foot.le_trans (by decide +kernel) hF) ?_
    | with_reducible refine Goes.sbOver (Foot.le_trans (by decide +kernel) hF) ?_
    | with_reducible refine Goes.foldl ?_ ?_
    | split
    | intro _

/-- What `execSbRead` may change. -/
def fp_execSbRead : Foot := ⟨[.tim, .power, .now, .count, .replicas, .outbox, .freeCtr], some [0x8009D, 0x8009C,
  0x8009F, 0x6001A, 0x6001C, 0x6000F, 0x60010, 0x60284, 0x60290, 0x60285, 0x60282, 0x60280, 0x60283, 0x60288, 0x60281,
  0x6030E, 0x60300, 0x100100, 0x100110, 0x100088, 0x100096]⟩
theorem goes_execSbRead {offset : Nat} {count : Nat} {pec : Pec} {s : State} (hF : fp_execSbRead.le F = true) (hgo : Goes F s0 s) :
     Runs F s0 (execSbRead offset count pec s) := by
  unfold execSbRead
  try dsimp only
  repeat' first
    | with_reducible assumption
    | with_reducible refine Runs.next ?_
    | with_reducible refine Goes.sbMessage (Foot.le_trans (by decide +kernel) hF) ?_ ?_
    | with_reducible refine Goes.on (List.mem_singleton.2 (fieldName_SB_STATUS_PEC_ERR)) (known_SB_STATUS_PEC_ERR).agrees (Foot.le_trans (by decide +kernel) hF) ?_
    | with_reducible refine Goes.sbEnd (Foot.le_trans (by decide +kernel) hF) ?_
    | with_reducible refine Goes.sbAnswer (Foot.le_trans (by decide +kernel) hF) ?_
    | with_reducible refine Goes.foldl ?_ ?_
    | split
    | intro _

/-- What `execSbWrite` may change. -/
def fp_execSbWrite : Foot := ⟨[.tim, .power, .now, .count, .replicas, .freeCtr], none⟩
theorem goes_execSbWrite {offset : Nat} {value : Nat} {pec : Pec} {s : State} (hF : fp_execSbWrite.le F = true) (hgo : Goes F s0 s) :
     Runs F s0 (execSbWrite offset value pec s) := by
  unfold execSbWrite
  try dsimp only
  repeat' first
    | with_reducible assumption
    | with_reducible refine Runs.next ?_
    | with_reducible refine Goes.sbMessage (Foot.le_trans (by decide +kernel) hF) ?_ ?_
    | with_reducible refine Goes.on (List.mem_singleton.2 (fieldName_SB_STATUS_PEC_ERR)) (known_SB_STATUS_PEC_ERR).agrees (Foot.le_trans (by decide +kernel) hF) ?_
    | with_reducible refine Goes.storeWordAny (fun f hf => (knowns_fieldsAt _ f hf).agrees) (Foot.le_trans (by decide +kernel) hF) ?_
    | with_reducible refine Goes.sbEnd (Foot.le_trans (by decide +kernel) hF) ?_
    | with_reducible refine Goes.foldl ?_ ?_
    | split
    | intro _

/-- What `execSbStatusRead` may change. -/
def fp_execSbStatusRead : Foot := ⟨[.tim, .power, .now, .count, .replicas, .outbox, .freeCtr], some [0x8009D, 0x8009C,
  0x8009F, 0x6001A, 0x6001C, 0x6000F, 0x60010, 0x60284, 0x60290, 0x60285, 0x60282, 0x60280, 0x60283, 0x60288, 0x60281,
  0x6030E, 0x60300, 0x100110]⟩
theorem goes_execSbStatusRead {s : State} (hF : fp_execSbStatusRead.le F = true) (hgo : Goes F s0 s) :
     Runs F s0 (execSbStatusRead s) := by
  unfold execSbStatusRead
  try dsimp only
  repeat' first
    | with_reducible assumption
    | with_reducible refine Runs.next ?_
    | with_reducible refine Goes.sbMessage (Foot.le_trans (by decide +kernel) hF) ?_ ?_
    | with_reducible refine Goes.sbAnswer (Foot.le_trans (by decide +kernel) hF) ?_
    | with_reducible refine Goes.foldl ?_ ?_
    | split
    | intro _

/-- What `execPortMirror` may change. -/
def fp_execPortMirror : Foot := ⟨[.tim, .power, .now, .count, .replicas, .outbox, .freeCtr], some [0x8009D, 0x8009C,
  0x8009F, 0x6001A, 0x6001C, 0x6000F, 0x60010, 0x60284, 0x60290, 0x60285, 0x60282, 0x60280, 0x60283, 0x60288, 0x60281,
  0x6030E, 0x60300, 0x100100, 0x100110, 0x100088, 0x100096]⟩
theorem goes_execPortMirror {port : Nat} {pec : Pec} {s : State} (hF : fp_execPortMirror.le F = true) (hgo : Goes F s0 s) :
     Runs F s0 (execPortMirror port pec s) := by
  unfold execPortMirror
  try dsimp only
  repeat' first
    | with_reducible assumption
    | with_reducible refine Runs.next ?_
    | with_reducible refine Goes.sbMessage (Foot.le_trans (by decide +kernel) hF) ?_ ?_
    | with_reducible refine Goes.on (List.mem_singleton.2 (fieldName_SB_STATUS_PEC_ERR)) (known_SB_STATUS_PEC_ERR).agrees (Foot.le_trans (by decide +kernel) hF) ?_
    | with_reducible refine Goes.sbEnd (Foot.le_trans (by decide +kernel) hF) ?_
    | with_reducible refine Goes.sbAnswer (Foot.le_trans (by decide +kernel) hF) ?_
    | with_reducible refine Goes.foldl ?_ ?_
    | split
    | intro _

/-- What `execIdentify` may change. -/
def fp_execIdentify : Foot := ⟨[.tim, .power, .now, .count, .replicas, .outbox, .freeCtr], some [0x8009D, 0x8009C,
  0x8009F, 0x6001A, 0x6001C, 0x6000F, 0x60010, 0x60284, 0x60290, 0x60285, 0x60282, 0x60280, 0x60283, 0x60288, 0x60281,
  0x6030E, 0x60300, 0x100110]⟩
theorem goes_execIdentify {s : State} (hF : fp_execIdentify.le F = true) (hgo : Goes F s0 s) :
     Runs F s0 (execIdentify s) := by
  unfold execIdentify
  try dsimp only
  repeat' first
    | with_reducible assumption
    | with_reducible refine Runs.next ?_
    | with_reducible refine Goes.sbMessage (Foot.le_trans (by decide +kernel) hF) ?_ ?_
    | with_reducible refine Goes.sbAnswer (Foot.le_trans (by decide +kernel) hF) ?_
    | with_reducible refine Goes.foldl ?_ ?_
    | split
    | intro _

/-- What `execAlertResponse` may change. -/
def fp_execAlertResponse : Foot := ⟨[.outbox], some [0x100097]⟩
theorem goes_execAlertResponse {won : Bool} {s : State} (hF : fp_execAlertResponse.le F = true) (hgo : Goes F s0 s) :
     Runs F s0 (execAlertResponse won s) := by
  unfold execAlertResponse
  try dsimp only
  repeat' first
    | with_reducible assumption
    | with_reducible refine Runs.next ?_
    | with_reducible refine Goes.off (List.mem_singleton.2 (fieldName_SB_STATUS_ALERT_PENDING)) (known_SB_STATUS_ALERT_PENDING).agrees (Foot.le_trans (by decide +kernel) hF) ?_
    | with_reducible refine Goes.emit (Foot.le_trans (by decide +kernel) hF) ?_
    | with_reducible refine Goes.foldl ?_ ?_
    | split
    | intro _

/-- What `execSbTimeout` may change. -/
def fp_execSbTimeout : Foot := ⟨[.power], some [0x100095]⟩
theorem goes_execSbTimeout {s : State} (hF : fp_execSbTimeout.le F = true) (hgo : Goes F s0 s) :
     Runs F s0 (execSbTimeout s) := by
  unfold execSbTimeout
  try dsimp only
  repeat' first
    | with_reducible assumption
    | with_reducible refine Runs.next ?_
    | with_reducible refine Goes.on (List.mem_singleton.2 (fieldName_SB_STATUS_TIMEOUT)) (known_SB_STATUS_TIMEOUT).agrees (Foot.le_trans (by decide +kernel) hF) ?_
    | with_reducible refine Goes.sbOver (Foot.le_trans (by decide +kernel) hF) ?_
    | with_reducible refine Goes.foldl ?_ ?_
    | split
    | intro _

end Sys2Proof.Machine
end

