-- ==== Sys2Proof/Laws/PerInstr.lean ====
section
/-! SUPPORT. What holds of every command as syntax, one lemma for each: the fields of its footprint are named as a field is
named whatever its index, so that a field is outside the footprint exactly when its name is not listed. -/

namespace Sys2Proof.Laws.FootNames

open Sys2Proof Sys2Proof.Machine

set_option Elab.async false

/-- Every field of a footprint is listed under its name. -/
def named (F : Foot) : Bool := match F.fields with | some fs => fs.all (fun f => fieldName f == f) | none => true

/-- The footprint of a command lists its fields under their names. -/
def Statement (i : Instr) : Prop := named (Foot.ofCommand i) = true

theorem registerWrite (bar : Bar) (addr : Nat) (be : Nat) (data : Nat) : Statement (.registerWrite bar addr be data) := by simp only [Statement, Foot.ofCommand]; decide +kernel
theorem unsupportedRequest (kind : ReqKind) (addr : Nat) (span : ReqSpan) (header : Nat) : Statement (.unsupportedRequest kind addr span header) := by simp only [Statement, Foot.ofCommand]; decide +kernel
theorem fencedTileAccess (isWrite : Bool) (offset : Nat) (value : Nat) : Statement (.fencedTileAccess isWrite offset value) := by simp only [Statement, Foot.ofCommand]; decide +kernel
theorem tileAccessComplete (t : TileId) : Statement (.tileAccessComplete t) := by simp only [Statement, Foot.ofCommand]; decide +kernel
theorem coreWatchdogExpiry (core : Fin 4) : Statement (.coreWatchdogExpiry core) := by simp only [Statement, Foot.ofCommand]; decide +kernel
theorem tileWakeRequest (t : TileId) (cause : WakeCause) : Statement (.tileWakeRequest t cause) := by simp only [Statement, Foot.ofCommand]; decide +kernel
theorem tileRampStart : Statement (.tileRampStart) := by simp only [Statement, Foot.ofCommand]; decide +kernel
theorem tileRampDone (t : TileId) : Statement (.tileRampDone t) := by simp only [Statement, Foot.ofCommand]; decide +kernel
theorem tileRestoreDone (t : TileId) : Statement (.tileRestoreDone t) := by simp only [Statement, Foot.ofCommand]; decide +kernel
theorem tileIdleExpiry (t : TileId) : Statement (.tileIdleExpiry t) := by simp only [Statement, Foot.ofCommand]; decide +kernel
theorem halfLanePowerUp (h : HalfId) : Statement (.halfLanePowerUp h) := by simp only [Statement, Foot.ofCommand]; decide +kernel
theorem tileFence (t : TileId) (cause : FenceCause) : Statement (.tileFence t cause) := by simp only [Statement, Foot.ofCommand]; decide +kernel
theorem autoTileReset (t : TileId) : Statement (.autoTileReset t) := by simp only [Statement, Foot.ofCommand]; decide +kernel
theorem signalDetectRise (h : HalfId) : Statement (.signalDetectRise h) := by simp only [Statement, Foot.ofCommand]; decide +kernel
theorem signalDetectFall (h : HalfId) : Statement (.signalDetectFall h) := by simp only [Statement, Foot.ofCommand]; decide +kernel
theorem lockRise (h : HalfId) (rx : RxCoef) : Statement (.lockRise h rx) := by simp only [Statement, Foot.ofCommand]; decide +kernel
theorem lockFall (h : HalfId) : Statement (.lockFall h) := by simp only [Statement, Foot.ofCommand]; decide +kernel
theorem acquireStart (h : HalfId) : Statement (.acquireStart h) := by simp only [Statement, Foot.ofCommand]; decide +kernel
theorem acquireTimeout (h : HalfId) : Statement (.acquireTimeout h) := by simp only [Statement, Foot.ofCommand]; decide +kernel
theorem convergeTimeout (h : HalfId) : Statement (.convergeTimeout h) := by simp only [Statement, Foot.ofCommand]; decide +kernel
theorem fomWindowEnd (h : HalfId) (pwr noise : Nat) (rx : RxCoef) : Statement (.fomWindowEnd h pwr noise rx) := by simp only [Statement, Foot.ofCommand]; decide +kernel
theorem freezeWrite (h : HalfId) (v : Bool) : Statement (.freezeWrite h v) := by simp only [Statement, Foot.ofCommand]; decide +kernel
theorem fomMinClr (h : HalfId) : Statement (.fomMinClr h) := by simp only [Statement, Foot.ofCommand]; decide +kernel
theorem alignmentGained (h : HalfId) (arrival : Nat) : Statement (.alignmentGained h arrival) := by simp only [Statement, Foot.ofCommand]; decide +kernel
theorem alignmentLost (h : HalfId) : Statement (.alignmentLost h) := by simp only [Statement, Foot.ofCommand]; decide +kernel
theorem dataStreamStart (h : HalfId) (flit : Bool) : Statement (.dataStreamStart h flit) := by simp only [Statement, Foot.ofCommand]; decide +kernel
theorem dataStreamEnd (h : HalfId) (stop : StreamStop) : Statement (.dataStreamEnd h stop) := by simp only [Statement, Foot.ofCommand]; decide +kernel
theorem nonflitHoldExpiry (p : PortId) : Statement (.nonflitHoldExpiry p) := by simp only [Statement, Foot.ofCommand]; decide +kernel
theorem skpAdjust (q : SideId) (fills : List Nat) : Statement (.skpAdjust q fills) := by simp only [Statement, Foot.ofCommand]; decide +kernel
theorem skpGenerate (q : SideId) (fill : Nat) : Statement (.skpGenerate q fill) := by simp only [Statement, Foot.ofCommand]; decide +kernel
theorem ebSlip (h : HalfId) : Statement (.ebSlip h) := by simp only [Statement, Foot.ofCommand]; decide +kernel
theorem deskewFail (q : SideId) (lane : Option HalfId) : Statement (.deskewFail q lane) := by simp only [Statement, Foot.ofCommand]; decide +kernel
theorem applyPoint (edge : StreamEdge) : Statement (.applyPoint edge) := by simp only [Statement, Foot.ofCommand]; decide +kernel
theorem applyPointTimeout (p : PortId) : Statement (.applyPointTimeout p) := by simp only [Statement, Foot.ofCommand]; decide +kernel
theorem trainingSetReceived (h : HalfId) (ts : TrainingSet) : Statement (.trainingSetReceived h ts) := by simp only [Statement, Foot.ofCommand]; decide +kernel
theorem eqPresetAck (h : HalfId) : Statement (.eqPresetAck h) := by simp only [Statement, Foot.ofCommand]; decide +kernel
theorem hotResetExit (p : PortId) : Statement (.hotResetExit p) := by simp only [Statement, Foot.ofCommand]; decide +kernel
theorem disabledExit (h : HalfId) : Statement (.disabledExit h) := by simp only [Statement, Foot.ofCommand]; decide +kernel
theorem receiverDetectScan (q : SideId) (found : List HalfId) : Statement (.receiverDetectScan q found) := by simp only [Statement, Foot.ofCommand]; decide +kernel
theorem electricalIdleExit (h : HalfId) : Statement (.electricalIdleExit h) := by simp only [Statement, Foot.ofCommand]; decide +kernel
theorem partnerLost (q : SideId) : Statement (.partnerLost q) := by simp only [Statement, Foot.ofCommand]; decide +kernel
theorem trainingTimeout (p : PortId) : Statement (.trainingTimeout p) := by simp only [Statement, Foot.ofCommand]; decide +kernel
theorem rateChange (p : PortId) (slot : Fin 7) : Statement (.rateChange p slot) := by simp only [Statement, Foot.ofCommand]; decide +kernel
theorem lowpowerEntry (q : SideId) (kind : LpKind) : Statement (.lowpowerEntry q kind) := by simp only [Statement, Foot.ofCommand]; decide +kernel
theorem lowpowerExit (q : SideId) (kind : LpKind) : Statement (.lowpowerExit q kind) := by simp only [Statement, Foot.ofCommand]; decide +kernel
theorem trnRetrain (p : PortId) : Statement (.trnRetrain p) := by simp only [Statement, Foot.ofCommand]; decide +kernel
theorem marginCommand (h : HalfId) (msg : MarginMsg) : Statement (.marginCommand h msg) := by simp only [Statement, Foot.ofCommand]; decide +kernel
theorem rowLaunch (q : SideId) (arrived : List StreamItem) : Statement (.rowLaunch q arrived) := by simp only [Statement, Foot.ofCommand]; decide +kernel
theorem frameReceived (h : HalfId) (line : List Int) : Statement (.frameReceived h line) := by simp only [Statement, Foot.ofCommand]; decide +kernel
theorem ackTimeout (q : SideId) : Statement (.ackTimeout q) := by simp only [Statement, Foot.ofCommand]; decide +kernel
theorem frameLockGained (h : HalfId) (negated : Bool) : Statement (.frameLockGained h negated) := by simp only [Statement, Foot.ofCommand]; decide +kernel
theorem frameLockLost (h : HalfId) : Statement (.frameLockLost h) := by simp only [Statement, Foot.ofCommand]; decide +kernel
theorem stuffHigh (h : HalfId) : Statement (.stuffHigh h) := by simp only [Statement, Foot.ofCommand]; decide +kernel
theorem flitDrop (q : SideId) : Statement (.flitDrop q) := by simp only [Statement, Foot.ofCommand]; decide +kernel
theorem segTrainingTimeout (q : SideId) : Statement (.segTrainingTimeout q) := by simp only [Statement, Foot.ofCommand]; decide +kernel
theorem backoffEnd (q : SideId) : Statement (.backoffEnd q) := by simp only [Statement, Foot.ofCommand]; decide +kernel
theorem laneidReceived (h : HalfId) (payload : List Byte) : Statement (.laneidReceived h payload) := by simp only [Statement, Foot.ofCommand]; decide +kernel
theorem segPartnerLost (q : SideId) : Statement (.segPartnerLost q) := by simp only [Statement, Foot.ofCommand]; decide +kernel
theorem segRetrain (q : SideId) : Statement (.segRetrain q) := by simp only [Statement, Foot.ofCommand]; decide +kernel
theorem osrelSend (q : SideId) : Statement (.osrelSend q) := by simp only [Statement, Foot.ofCommand]; decide +kernel
theorem osrelReceived (q : SideId) (row : Nat) (payload : List Byte) : Statement (.osrelReceived q row payload) := by simp only [Statement, Foot.ofCommand]; decide +kernel
theorem pathSend (q : SideId) : Statement (.pathSend q) := by simp only [Statement, Foot.ofCommand]; decide +kernel
theorem pathFrameReceived (q : SideId) (payload : List Byte) : Statement (.pathFrameReceived q payload) := by simp only [Statement, Foot.ofCommand]; decide +kernel
theorem osetReceived (q : SideId) (payload : List Byte) : Statement (.osetReceived q payload) := by simp only [Statement, Foot.ofCommand]; decide +kernel
theorem hardFaultDeclare (h : HalfId) (reason : Fin 16) : Statement (.hardFaultDeclare h reason) := by simp only [Statement, Foot.ofCommand]; decide +kernel
theorem corrBlockEnd (h : HalfId) : Statement (.corrBlockEnd h) := by simp only [Statement, Foot.ofCommand]; decide +kernel
theorem standardLaneFault (h : HalfId) (reason : Fin 16) : Statement (.standardLaneFault h reason) := by simp only [Statement, Foot.ofCommand]; decide +kernel
theorem trellisPropose (q : SideId) : Statement (.trellisPropose q) := by simp only [Statement, Foot.ofCommand]; decide +kernel
theorem trellisProposeReceived (q : SideId) (msg : List Byte) : Statement (.trellisProposeReceived q msg) := by simp only [Statement, Foot.ofCommand]; decide +kernel
theorem trellisPreparedReceived (q : SideId) (msg : List Byte) : Statement (.trellisPreparedReceived q msg) := by simp only [Statement, Foot.ofCommand]; decide +kernel
theorem trellisRefusedReceived (q : SideId) (msg : List Byte) : Statement (.trellisRefusedReceived q msg) := by simp only [Statement, Foot.ofCommand]; decide +kernel
theorem commitHoldExpiry (q : SideId) : Statement (.commitHoldExpiry q) := by simp only [Statement, Foot.ofCommand]; decide +kernel
theorem trellisCommitReceived (q : SideId) (msg : List Byte) : Statement (.trellisCommitReceived q msg) := by simp only [Statement, Foot.ofCommand]; decide +kernel
theorem trellisSwitch (q : SideId) : Statement (.trellisSwitch q) := by simp only [Statement, Foot.ofCommand]; decide +kernel
theorem trellisCancelReceived (q : SideId) (msg : List Byte) : Statement (.trellisCancelReceived q msg) := by simp only [Statement, Foot.ofCommand]; decide +kernel
theorem trellisVoidedReceived (q : SideId) (msg : List Byte) : Statement (.trellisVoidedReceived q msg) := by simp only [Statement, Foot.ofCommand]; decide +kernel
theorem proposeReplyTimeout (q : SideId) : Statement (.proposeReplyTimeout q) := by simp only [Statement, Foot.ofCommand]; decide +kernel
theorem committingTimeout (q : SideId) : Statement (.committingTimeout q) := by simp only [Statement, Foot.ofCommand]; decide +kernel
theorem cancellingTimeout (q : SideId) : Statement (.cancellingTimeout q) := by simp only [Statement, Foot.ofCommand]; decide +kernel
theorem readyTimeout (q : SideId) : Statement (.readyTimeout q) := by simp only [Statement, Foot.ofCommand]; decide +kernel
theorem retiredExpiry (h : HalfId) : Statement (.retiredExpiry h) := by simp only [Statement, Foot.ofCommand]; decide +kernel
theorem trlMove (q : SideId) (lane spare : Fin 32) : Statement (.trlMove q lane spare) := by simp only [Statement, Foot.ofCommand]; decide +kernel
theorem trlReturnHome (q : SideId) (lane : Fin 32) : Statement (.trlReturnHome q lane) := by simp only [Statement, Foot.ofCommand]; decide +kernel
theorem calRun (scope : Fin 4) (half : Bool) (index : Nat) : Statement (.calRun scope half index) := by simp only [Statement, Foot.ofCommand]; decide +kernel
theorem calStore : Statement (.calStore) := by simp only [Statement, Foot.ofCommand]; decide +kernel
theorem calReload : Statement (.calReload) := by simp only [Statement, Foot.ofCommand]; decide +kernel
theorem calClear (scope : Fin 4) (half : Bool) (index : Nat) : Statement (.calClear scope half index) := by simp only [Statement, Foot.ofCommand]; decide +kernel
theorem calAutoRun (h : HalfId) : Statement (.calAutoRun h) := by simp only [Statement, Foot.ofCommand]; decide +kernel
theorem calAutoStore : Statement (.calAutoStore) := by simp only [Statement, Foot.ofCommand]; decide +kernel
theorem calCaptureStart (h : HalfId) : Statement (.calCaptureStart h) := by simp only [Statement, Foot.ofCommand]; decide +kernel
theorem calCaptureEnd (h : HalfId) (stats : CaptureStats) (errors : CaptureErrors) : Statement (.calCaptureEnd h stats errors) := by simp only [Statement, Foot.ofCommand]; decide +kernel
theorem calComputeDone (h : HalfId) : Statement (.calComputeDone h) := by simp only [Statement, Foot.ofCommand]; decide +kernel
theorem calHoldWrite (h : HalfId) : Statement (.calHoldWrite h) := by simp only [Statement, Foot.ofCommand]; decide +kernel
theorem interpolationStep (t : TileId) (temp : Int) : Statement (.interpolationStep t temp) := by simp only [Statement, Foot.ofCommand]; decide +kernel
theorem calStoreFlashDone (ok : Bool) : Statement (.calStoreFlashDone ok) := by simp only [Statement, Foot.ofCommand]; decide +kernel
theorem calStoreTimeout : Statement (.calStoreTimeout) := by simp only [Statement, Foot.ofCommand]; decide +kernel
theorem engineStepEnd (k : EngineId) : Statement (.engineStepEnd k) := by simp only [Statement, Foot.ofCommand]; decide +kernel
theorem epochStart : Statement (.epochStart) := by simp only [Statement, Foot.ofCommand]; decide +kernel
theorem jobDispatch (k : EngineId) : Statement (.jobDispatch k) := by simp only [Statement, Foot.ofCommand]; decide +kernel
theorem safePoint (k : EngineId) (r : StepResult) : Statement (.safePoint k r) := by simp only [Statement, Foot.ofCommand]; decide +kernel
theorem restoreDone (k : EngineId) : Statement (.restoreDone k) := by simp only [Statement, Foot.ofCommand]; decide +kernel
theorem waitExpired (k : EngineId) : Statement (.waitExpired k) := by simp only [Statement, Foot.ofCommand]; decide +kernel
theorem engineFault (k : EngineId) : Statement (.engineFault k) := by simp only [Statement, Foot.ofCommand]; decide +kernel
theorem engineRestartDone (k : EngineId) : Statement (.engineRestartDone k) := by simp only [Statement, Foot.ofCommand]; decide +kernel
theorem engPermitWrite (k : SliceId) (value : Nat) : Statement (.engPermitWrite k value) := by simp only [Statement, Foot.ofCommand]; decide +kernel
theorem sliceJobsOffWrite (v : Bool) : Statement (.sliceJobsOffWrite v) := by simp only [Statement, Foot.ofCommand]; decide +kernel
theorem boot (flashAnswers : Bool) : Statement (.boot flashAnswers) := by simp only [Statement, Foot.ofCommand]; decide +kernel
theorem writeSlot (len : Nat) : Statement (.writeSlot len) := by simp only [Statement, Foot.ofCommand]; decide +kernel
theorem imgFlashOpDone (r : FlashDone) : Statement (.imgFlashOpDone r) := by simp only [Statement, Foot.ofCommand]; decide +kernel
theorem confirm : Statement (.confirm) := by simp only [Statement, Foot.ofCommand]; decide +kernel
theorem confirmAfterExpiry : Statement (.confirmAfterExpiry) := by simp only [Statement, Foot.ofCommand]; decide +kernel
theorem advanceArb : Statement (.advanceArb) := by simp only [Statement, Foot.ofCommand]; decide +kernel
theorem swapFw : Statement (.swapFw) := by simp only [Statement, Foot.ofCommand]; decide +kernel
theorem programKey (slot : Fin 4) : Statement (.programKey slot) := by simp only [Statement, Foot.ofCommand]; decide +kernel
theorem revokeKey (slot : Fin 4) : Statement (.revokeKey slot) := by simp only [Statement, Foot.ofCommand]; decide +kernel
theorem txnBegin : Statement (.txnBegin) := by simp only [Statement, Foot.ofCommand]; decide +kernel
theorem commit : Statement (.commit) := by simp only [Statement, Foot.ofCommand]; decide +kernel
theorem rollback : Statement (.rollback) := by simp only [Statement, Foot.ofCommand]; decide +kernel
theorem rwtWrite (offset : Nat) (value : Nat) : Statement (.rwtWrite offset value) := by simp only [Statement, Foot.ofCommand]; decide +kernel
theorem bctStage (hi : Nat) : Statement (.bctStage hi) := by simp only [Statement, Foot.ofCommand]; decide +kernel
theorem txnValidationDone : Statement (.txnValidationDone) := by simp only [Statement, Foot.ofCommand]; decide +kernel
theorem txnCommitTime : Statement (.txnCommitTime) := by simp only [Statement, Foot.ofCommand]; decide +kernel
theorem txnApplyFail (cause : ApplyFailCause) : Statement (.txnApplyFail cause) := by simp only [Statement, Foot.ofCommand]; decide +kernel
theorem txnRollbackDone : Statement (.txnRollbackDone) := by simp only [Statement, Foot.ofCommand]; decide +kernel
theorem abandoned : Statement (.abandoned) := by simp only [Statement, Foot.ofCommand]; decide +kernel
theorem completionReceived (tag : TagId) (status : CplStatus) (header : Nat) (data : ReadData) : Statement (.completionReceived tag status header data) := by simp only [Statement, Foot.ofCommand]; decide +kernel
theorem completionTimeout (tag : TagId) : Statement (.completionTimeout tag) := by simp only [Statement, Foot.ofCommand]; decide +kernel
theorem tagRetireExpiry (tag : TagId) : Statement (.tagRetireExpiry tag) := by simp only [Statement, Foot.ofCommand]; decide +kernel
theorem ctoDisableClear : Statement (.ctoDisableClear) := by simp only [Statement, Foot.ofCommand]; decide +kernel
theorem holdStart (cause : HoldCause) : Statement (.holdStart cause) := by simp only [Statement, Foot.ofCommand]; decide +kernel
theorem holdEnd (cause : HoldCause) : Statement (.holdEnd cause) := by simp only [Statement, Foot.ofCommand]; decide +kernel
theorem flr : Statement (.flr) := by simp only [Statement, Foot.ofCommand]; decide +kernel
theorem mgmtHotReset : Statement (.mgmtHotReset) := by simp only [Statement, Foot.ofCommand]; decide +kernel
theorem dataLinkDown : Statement (.dataLinkDown) := by simp only [Statement, Foot.ofCommand]; decide +kernel
theorem perstAssert : Statement (.perstAssert) := by simp only [Statement, Foot.ofCommand]; decide +kernel
theorem perstDeassert : Statement (.perstDeassert) := by simp only [Statement, Foot.ofCommand]; decide +kernel
theorem d3hotEntry : Statement (.d3hotEntry) := by simp only [Statement, Foot.ofCommand]; decide +kernel
theorem d0Return : Statement (.d0Return) := by simp only [Statement, Foot.ofCommand]; decide +kernel
theorem pmeTurnOff : Statement (.pmeTurnOff) := by simp only [Statement, Foot.ofCommand]; decide +kernel
theorem aspmL1Entry : Statement (.aspmL1Entry) := by simp only [Statement, Foot.ofCommand]; decide +kernel
theorem aspmL1Exit : Statement (.aspmL1Exit) := by simp only [Statement, Foot.ofCommand]; decide +kernel
theorem msixUnmask (vector : Fin 2048) : Statement (.msixUnmask vector) := by simp only [Statement, Foot.ofCommand]; decide +kernel
theorem aliveBeat : Statement (.aliveBeat) := by simp only [Statement, Foot.ofCommand]; decide +kernel
theorem create (k : SliceId) : Statement (.create k) := by simp only [Statement, Foot.ofCommand]; decide +kernel
theorem sliceReset (k : SliceId) : Statement (.sliceReset k) := by simp only [Statement, Foot.ofCommand]; decide +kernel
theorem selfReset (k : SliceId) : Statement (.selfReset k) := by simp only [Statement, Foot.ofCommand]; decide +kernel
theorem destroy (k : SliceId) : Statement (.destroy k) := by simp only [Statement, Foot.ofCommand]; decide +kernel
theorem resetDone (k : SliceId) : Statement (.resetDone k) := by simp only [Statement, Foot.ofCommand]; decide +kernel
theorem destroyDone (k : SliceId) : Statement (.destroyDone k) := by simp only [Statement, Foot.ofCommand]; decide +kernel
theorem shareWrite (k : SliceId) (reg : ShareReg) (value : Nat) : Statement (.shareWrite k reg value) := by simp only [Statement, Foot.ofCommand]; decide +kernel
theorem visibilityRemove (k : SliceId) (hi : Bool) (value : Nat) : Statement (.visibilityRemove k hi value) := by simp only [Statement, Foot.ofCommand]; decide +kernel
theorem pasidEnableChange (v : Bool) : Statement (.pasidEnableChange v) := by simp only [Statement, Foot.ofCommand]; decide +kernel
theorem ringEnable (k : SliceId) (i : RingId) (ctrl : Nat) : Statement (.ringEnable k i ctrl) := by simp only [Statement, Foot.ofCommand]; decide +kernel
theorem ringDisable (k : SliceId) (i : RingId) (ctrl : Nat) : Statement (.ringDisable k i ctrl) := by simp only [Statement, Foot.ofCommand]; decide +kernel
theorem ringResume (k : SliceId) (i : RingId) : Statement (.ringResume k i) := by simp only [Statement, Foot.ofCommand]; decide +kernel
theorem cmdDoorbell (k : SliceId) (i : RingId) (index : Nat) : Statement (.cmdDoorbell k i index) := by simp only [Statement, Foot.ofCommand]; decide +kernel
theorem eventDoorbell (k : SliceId) (i : RingId) (index : Nat) : Statement (.eventDoorbell k i index) := by simp only [Statement, Foot.ofCommand]; decide +kernel
theorem eventPost : Statement (.eventPost) := by simp only [Statement, Foot.ofCommand]; decide +kernel
theorem nop (k : SliceId) (i : RingId) : Statement (.nop k i) := by simp only [Statement, Foot.ofCommand]; decide +kernel
theorem jobSubmit (k : SliceId) (i : RingId) : Statement (.jobSubmit k i) := by simp only [Statement, Foot.ofCommand]; decide +kernel
theorem portStatus (k : SliceId) (i : RingId) : Statement (.portStatus k i) := by simp only [Statement, Foot.ofCommand]; decide +kernel
theorem readReg (k : SliceId) (i : RingId) : Statement (.readReg k i) := by simp only [Statement, Foot.ofCommand]; decide +kernel
theorem portRetrain (k : SliceId) (i : RingId) : Statement (.portRetrain k i) := by simp only [Statement, Foot.ofCommand]; decide +kernel
theorem fence (k : SliceId) (i : RingId) : Statement (.fence k i) := by simp only [Statement, Foot.ofCommand]; decide +kernel
theorem mirrorPublish (p : PortId) : Statement (.mirrorPublish p) := by simp only [Statement, Foot.ofCommand]; decide +kernel
theorem timeFrameSend (q : SideId) (departure : Nat) : Statement (.timeFrameSend q departure) := by simp only [Statement, Foot.ofCommand]; decide +kernel
theorem timeFrameReceived (q : SideId) (payload : List Byte) (arrival : Nat) : Statement (.timeFrameReceived q payload arrival) := by simp only [Statement, Foot.ofCommand]; decide +kernel
theorem holdoverEntry : Statement (.holdoverEntry) := by simp only [Statement, Foot.ofCommand]; decide +kernel
theorem tpulseOut : Statement (.tpulseOut) := by simp only [Statement, Foot.ofCommand]; decide +kernel
theorem tpulseEdge (e : Nat) : Statement (.tpulseEdge e) := by simp only [Statement, Foot.ofCommand]; decide +kernel
theorem timSet (hi : Nat) : Statement (.timSet hi) := by simp only [Statement, Foot.ofCommand]; decide +kernel
theorem aonRatioMeasure (ratio : Nat) : Statement (.aonRatioMeasure ratio) := by simp only [Statement, Foot.ofCommand]; decide +kernel
theorem winnowItem (p : PortId) (dir : Dir) (item : Observed) (ide : Bool) (stamp : Nat) (raw : List Byte) : Statement (.winnowItem p dir item ide stamp raw) := by simp only [Statement, Foot.ofCommand]; decide +kernel
theorem traceDmaWrite (t : TileId) : Statement (.traceDmaWrite t) := by simp only [Statement, Foot.ofCommand]; decide +kernel
theorem windowOpen (k : SliceId) (i : RingId) : Statement (.windowOpen k i) := by simp only [Statement, Foot.ofCommand]; decide +kernel
theorem windowClose (k : SliceId) (i : RingId) : Statement (.windowClose k i) := by simp only [Statement, Foot.ofCommand]; decide +kernel
theorem windowCloseDone (k : SliceId) (w : WindowId) : Statement (.windowCloseDone k w) := by simp only [Statement, Foot.ofCommand]; decide +kernel
theorem windowResume (k : SliceId) (w : WindowId) : Statement (.windowResume k w) := by simp only [Statement, Foot.ofCommand]; decide +kernel
theorem winnowClaim (k : SliceId) (i : RingId) : Statement (.winnowClaim k i) := by simp only [Statement, Foot.ofCommand]; decide +kernel
theorem winnowRelease (k : SliceId) (i : RingId) : Statement (.winnowRelease k i) := by simp only [Statement, Foot.ofCommand]; decide +kernel
theorem winnowUnit (k : SliceId) (i : RingId) : Statement (.winnowUnit k i) := by simp only [Statement, Foot.ofCommand]; decide +kernel
theorem trigger (k : SliceId) (i : RingId) : Statement (.trigger k i) := by simp only [Statement, Foot.ofCommand]; decide +kernel
theorem fire : Statement (.fire) := by simp only [Statement, Foot.ofCommand]; decide +kernel
theorem trigNEdge (stamp : Nat) : Statement (.trigNEdge stamp) := by simp only [Statement, Foot.ofCommand]; decide +kernel
theorem trigNRelease : Statement (.trigNRelease) := by simp only [Statement, Foot.ofCommand]; decide +kernel
theorem trcSchedGo (flood : Bool) : Statement (.trcSchedGo flood) := by simp only [Statement, Foot.ofCommand]; decide +kernel
theorem scheduleFire : Statement (.scheduleFire) := by simp only [Statement, Foot.ofCommand]; decide +kernel
theorem latch : Statement (.latch) := by simp only [Statement, Foot.ofCommand]; decide +kernel
theorem rearm : Statement (.rearm) := by simp only [Statement, Foot.ofCommand]; decide +kernel
theorem autoRearmExpiry : Statement (.autoRearmExpiry) := by simp only [Statement, Foot.ofCommand]; decide +kernel
theorem refclkLost : Statement (.refclkLost) := by simp only [Statement, Foot.ofCommand]; decide +kernel
theorem refclkReturn : Statement (.refclkReturn) := by simp only [Statement, Foot.ofCommand]; decide +kernel
theorem rootLock : Statement (.rootLock) := by simp only [Statement, Foot.ofCommand]; decide +kernel
theorem vidWaitExpiry : Statement (.vidWaitExpiry) := by simp only [Statement, Foot.ofCommand]; decide +kernel
theorem idleEntry : Statement (.idleEntry) := by simp only [Statement, Foot.ofCommand]; decide +kernel
theorem sleepEntry : Statement (.sleepEntry) := by simp only [Statement, Foot.ofCommand]; decide +kernel
theorem deepEntry (centralTemp : Int) : Statement (.deepEntry centralTemp) := by simp only [Statement, Foot.ofCommand]; decide +kernel
theorem offEntry : Statement (.offEntry) := by simp only [Statement, Foot.ofCommand]; decide +kernel
theorem sbAddressMatch : Statement (.sbAddressMatch) := by simp only [Statement, Foot.ofCommand]; decide +kernel
theorem wakeIn : Statement (.wakeIn) := by simp only [Statement, Foot.ofCommand]; decide +kernel
theorem mgmtLinkWake : Statement (.mgmtLinkWake) := by simp only [Statement, Foot.ofCommand]; decide +kernel
theorem parkPoll : Statement (.parkPoll) := by simp only [Statement, Foot.ofCommand]; decide +kernel
theorem sleepWakeDone (aonCycles : Nat) (us : Nat) : Statement (.sleepWakeDone aonCycles us) := by simp only [Statement, Foot.ofCommand]; decide +kernel
theorem deepWakeReloadDone (flashAnswers : Bool) (loftPass : List Bool) (aonCycles : Nat) (us : Nat) : Statement (.deepWakeReloadDone flashAnswers loftPass aonCycles us) := by simp only [Statement, Foot.ofCommand]; decide +kernel
theorem aonBrownout (cause : BrownoutCause) : Statement (.aonBrownout cause) := by simp only [Statement, Foot.ofCommand]; decide +kernel
theorem coldReset : Statement (.coldReset) := by simp only [Statement, Foot.ofCommand]; decide +kernel
theorem resetNAssert : Statement (.resetNAssert) := by simp only [Statement, Foot.ofCommand]; decide +kernel
theorem resetNDeassert : Statement (.resetNDeassert) := by simp only [Statement, Foot.ofCommand]; decide +kernel
theorem supplyMonitor (rail : Rail) : Statement (.supplyMonitor rail) := by simp only [Statement, Foot.ofCommand]; decide +kernel
theorem supplyRecovered : Statement (.supplyRecovered) := by simp only [Statement, Foot.ofCommand]; decide +kernel
theorem rstDevice (key : Nat) : Statement (.rstDevice key) := by simp only [Statement, Foot.ofCommand]; decide +kernel
theorem rstPort (index : Nat) : Statement (.rstPort index) := by simp only [Statement, Foot.ofCommand]; decide +kernel
theorem rstTile (index : Nat) : Statement (.rstTile index) := by simp only [Statement, Foot.ofCommand]; decide +kernel
theorem portResetDone (p : PortId) : Statement (.portResetDone p) := by simp only [Statement, Foot.ofCommand]; decide +kernel
theorem tileResetDone (t : TileId) : Statement (.tileResetDone t) := by simp only [Statement, Foot.ofCommand]; decide +kernel
theorem thermtrip : Statement (.thermtrip) := by simp only [Statement, Foot.ofCommand]; decide +kernel
theorem sbRead (offset count : Nat) (pec : Pec) : Statement (.sbRead offset count pec) := by simp only [Statement, Foot.ofCommand]; decide +kernel
theorem sbWrite (offset value : Nat) (pec : Pec) : Statement (.sbWrite offset value pec) := by simp only [Statement, Foot.ofCommand]; decide +kernel
theorem sbStatusRead : Statement (.sbStatusRead) := by simp only [Statement, Foot.ofCommand]; decide +kernel
theorem portMirror (port : Nat) (pec : Pec) : Statement (.portMirror port pec) := by simp only [Statement, Foot.ofCommand]; decide +kernel
theorem identify : Statement (.identify) := by simp only [Statement, Foot.ofCommand]; decide +kernel
theorem alertResponse (won : Bool) : Statement (.alertResponse won) := by simp only [Statement, Foot.ofCommand]; decide +kernel
theorem sbTimeout : Statement (.sbTimeout) := by simp only [Statement, Foot.ofCommand]; decide +kernel
theorem replayMemoryError (q : SideId) : Statement (.replayMemoryError q) := by simp only [Statement, Foot.ofCommand]; decide +kernel
theorem internalEccError (corrected : Bool) : Statement (.internalEccError corrected) := by simp only [Statement, Foot.ofCommand]; decide +kernel
theorem managementLinkError (e : LinkError) : Statement (.managementLinkError e) := by simp only [Statement, Foot.ofCommand]; decide +kernel
theorem configurationWrite (field : CfgField) (value : Nat) : Statement (.configurationWrite field value) := by simp only [Statement, Foot.ofCommand]; decide +kernel
theorem alwaysOnTimerWake : Statement (.alwaysOnTimerWake) := by simp only [Statement, Foot.ofCommand]; decide +kernel
theorem alwaysOnResetRelease (straps : Fin 8) : Statement (.alwaysOnResetRelease straps) := by simp only [Statement, Foot.ofCommand]; decide +kernel

end Sys2Proof.Laws.FootNames
end

