-- ==== Sys2Proof/Laws/State.lean ====
section
/-! SUPPORT. One lemma for each field of the state and each of its updates: what the field holds after the update. -/

set_option Elab.async false

set_option linter.all false

namespace Sys2Proof.Machine

variable (s : State)

/-! ### wr -/

@[simp] theorem State.wr_halves (c : Cell) (v : Nat) : (s.wr c v).halves = s.halves := rfl
@[simp] theorem State.wr_sides (c : Cell) (v : Nat) : (s.wr c v).sides = s.sides := rfl
@[simp] theorem State.wr_ports (c : Cell) (v : Nat) : (s.wr c v).ports = s.ports := rfl
@[simp] theorem State.wr_era (c : Cell) (v : Nat) : (s.wr c v).era = s.era := rfl
@[simp] theorem State.wr_bct (c : Cell) (v : Nat) : (s.wr c v).bct = s.bct := rfl
@[simp] theorem State.wr_calTab (c : Cell) (v : Nat) : (s.wr c v).calTab = s.calTab := rfl
@[simp] theorem State.wr_engines (c : Cell) (v : Nat) : (s.wr c v).engines = s.engines := rfl
@[simp] theorem State.wr_slices (c : Cell) (v : Nat) : (s.wr c v).slices = s.slices := rfl
@[simp] theorem State.wr_rings (c : Cell) (v : Nat) : (s.wr c v).rings = s.rings := rfl
@[simp] theorem State.wr_tags (c : Cell) (v : Nat) : (s.wr c v).tags = s.tags := rfl
@[simp] theorem State.wr_flash (c : Cell) (v : Nat) : (s.wr c v).flash = s.flash := rfl
@[simp] theorem State.wr_calStore (c : Cell) (v : Nat) : (s.wr c v).calStore = s.calStore := rfl
@[simp] theorem State.wr_storeWait (c : Cell) (v : Nat) : (s.wr c v).storeWait = s.storeWait := rfl
@[simp] theorem State.wr_lastStore (c : Cell) (v : Nat) : (s.wr c v).lastStore = s.lastStore := rfl
@[simp] theorem State.wr_fuses (c : Cell) (v : Nat) : (s.wr c v).fuses = s.fuses := rfl
@[simp] theorem State.wr_chip (c : Cell) (v : Nat) : (s.wr c v).chip = s.chip := rfl
@[simp] theorem State.wr_lastWritten (c : Cell) (v : Nat) : (s.wr c v).lastWritten = s.lastWritten := rfl
@[simp] theorem State.wr_imgOp (c : Cell) (v : Nat) : (s.wr c v).imgOp = s.imgOp := rfl
@[simp] theorem State.wr_txn (c : Cell) (v : Nat) : (s.wr c v).txn = s.txn := rfl
@[simp] theorem State.wr_mgmt (c : Cell) (v : Nat) : (s.wr c v).mgmt = s.mgmt := rfl
@[simp] theorem State.wr_winnows (c : Cell) (v : Nat) : (s.wr c v).winnows = s.winnows := rfl
@[simp] theorem State.wr_windows (c : Cell) (v : Nat) : (s.wr c v).windows = s.windows := rfl
@[simp] theorem State.wr_tim (c : Cell) (v : Nat) : (s.wr c v).tim = s.tim := rfl
@[simp] theorem State.wr_snap (c : Cell) (v : Nat) : (s.wr c v).snap = s.snap := rfl
@[simp] theorem State.wr_tiles (c : Cell) (v : Nat) : (s.wr c v).tiles = s.tiles := rfl
@[simp] theorem State.wr_power (c : Cell) (v : Nat) : (s.wr c v).power = s.power := rfl
@[simp] theorem State.wr_evq (c : Cell) (v : Nat) : (s.wr c v).evq = s.evq := rfl
@[simp] theorem State.wr_staged (c : Cell) (v : Nat) : (s.wr c v).staged = s.staged := rfl
@[simp] theorem State.wr_now (c : Cell) (v : Nat) : (s.wr c v).now = s.now := rfl
@[simp] theorem State.wr_count (c : Cell) (v : Nat) : (s.wr c v).count = s.count := rfl
@[simp] theorem State.wr_replicas (c : Cell) (v : Nat) : (s.wr c v).replicas = s.replicas := rfl
@[simp] theorem State.wr_elapsed (c : Cell) (v : Nat) : (s.wr c v).elapsed = s.elapsed := rfl
@[simp] theorem State.wr_outbox (c : Cell) (v : Nat) : (s.wr c v).outbox = s.outbox := rfl
@[simp] theorem State.wr_freeCtr (c : Cell) (v : Nat) : (s.wr c v).freeCtr = s.freeCtr := rfl
@[simp] theorem State.wr_pending (c : Cell) (v : Nat) : (s.wr c v).pending = s.pending := rfl

/-! ### cold -/

@[simp] theorem State.cold_regs (c : Cell) : (s.cold c).regs = s.regs.erase c.key := rfl
@[simp] theorem State.cold_halves (c : Cell) : (s.cold c).halves = s.halves := rfl
@[simp] theorem State.cold_sides (c : Cell) : (s.cold c).sides = s.sides := rfl
@[simp] theorem State.cold_ports (c : Cell) : (s.cold c).ports = s.ports := rfl
@[simp] theorem State.cold_era (c : Cell) : (s.cold c).era = s.era := rfl
@[simp] theorem State.cold_bct (c : Cell) : (s.cold c).bct = s.bct := rfl
@[simp] theorem State.cold_calTab (c : Cell) : (s.cold c).calTab = s.calTab := rfl
@[simp] theorem State.cold_engines (c : Cell) : (s.cold c).engines = s.engines := rfl
@[simp] theorem State.cold_slices (c : Cell) : (s.cold c).slices = s.slices := rfl
@[simp] theorem State.cold_rings (c : Cell) : (s.cold c).rings = s.rings := rfl
@[simp] theorem State.cold_tags (c : Cell) : (s.cold c).tags = s.tags := rfl
@[simp] theorem State.cold_flash (c : Cell) : (s.cold c).flash = s.flash := rfl
@[simp] theorem State.cold_calStore (c : Cell) : (s.cold c).calStore = s.calStore := rfl
@[simp] theorem State.cold_storeWait (c : Cell) : (s.cold c).storeWait = s.storeWait := rfl
@[simp] theorem State.cold_lastStore (c : Cell) : (s.cold c).lastStore = s.lastStore := rfl
@[simp] theorem State.cold_fuses (c : Cell) : (s.cold c).fuses = s.fuses := rfl
@[simp] theorem State.cold_chip (c : Cell) : (s.cold c).chip = s.chip := rfl
@[simp] theorem State.cold_lastWritten (c : Cell) : (s.cold c).lastWritten = s.lastWritten := rfl
@[simp] theorem State.cold_imgOp (c : Cell) : (s.cold c).imgOp = s.imgOp := rfl
@[simp] theorem State.cold_txn (c : Cell) : (s.cold c).txn = s.txn := rfl
@[simp] theorem State.cold_mgmt (c : Cell) : (s.cold c).mgmt = s.mgmt := rfl
@[simp] theorem State.cold_winnows (c : Cell) : (s.cold c).winnows = s.winnows := rfl
@[simp] theorem State.cold_windows (c : Cell) : (s.cold c).windows = s.windows := rfl
@[simp] theorem State.cold_tim (c : Cell) : (s.cold c).tim = s.tim := rfl
@[simp] theorem State.cold_snap (c : Cell) : (s.cold c).snap = s.snap := rfl
@[simp] theorem State.cold_tiles (c : Cell) : (s.cold c).tiles = s.tiles := rfl
@[simp] theorem State.cold_power (c : Cell) : (s.cold c).power = s.power := rfl
@[simp] theorem State.cold_evq (c : Cell) : (s.cold c).evq = s.evq := rfl
@[simp] theorem State.cold_staged (c : Cell) : (s.cold c).staged = s.staged := rfl
@[simp] theorem State.cold_now (c : Cell) : (s.cold c).now = s.now := rfl
@[simp] theorem State.cold_count (c : Cell) : (s.cold c).count = s.count := rfl
@[simp] theorem State.cold_replicas (c : Cell) : (s.cold c).replicas = s.replicas := rfl
@[simp] theorem State.cold_elapsed (c : Cell) : (s.cold c).elapsed = s.elapsed := rfl
@[simp] theorem State.cold_outbox (c : Cell) : (s.cold c).outbox = s.outbox := rfl
@[simp] theorem State.cold_freeCtr (c : Cell) : (s.cold c).freeCtr = s.freeCtr := rfl
@[simp] theorem State.cold_pending (c : Cell) : (s.cold c).pending = s.pending := rfl

/-! ### setEvq -/

@[simp] theorem State.setEvq_regs (v : List Ev) : (s.setEvq v).regs = s.regs := rfl
@[simp] theorem State.setEvq_halves (v : List Ev) : (s.setEvq v).halves = s.halves := rfl
@[simp] theorem State.setEvq_sides (v : List Ev) : (s.setEvq v).sides = s.sides := rfl
@[simp] theorem State.setEvq_ports (v : List Ev) : (s.setEvq v).ports = s.ports := rfl
@[simp] theorem State.setEvq_era (v : List Ev) : (s.setEvq v).era = s.era := rfl
@[simp] theorem State.setEvq_bct (v : List Ev) : (s.setEvq v).bct = s.bct := rfl
@[simp] theorem State.setEvq_calTab (v : List Ev) : (s.setEvq v).calTab = s.calTab := rfl
@[simp] theorem State.setEvq_engines (v : List Ev) : (s.setEvq v).engines = s.engines := rfl
@[simp] theorem State.setEvq_slices (v : List Ev) : (s.setEvq v).slices = s.slices := rfl
@[simp] theorem State.setEvq_rings (v : List Ev) : (s.setEvq v).rings = s.rings := rfl
@[simp] theorem State.setEvq_tags (v : List Ev) : (s.setEvq v).tags = s.tags := rfl
@[simp] theorem State.setEvq_flash (v : List Ev) : (s.setEvq v).flash = s.flash := rfl
@[simp] theorem State.setEvq_calStore (v : List Ev) : (s.setEvq v).calStore = s.calStore := rfl
@[simp] theorem State.setEvq_storeWait (v : List Ev) : (s.setEvq v).storeWait = s.storeWait := rfl
@[simp] theorem State.setEvq_lastStore (v : List Ev) : (s.setEvq v).lastStore = s.lastStore := rfl
@[simp] theorem State.setEvq_fuses (v : List Ev) : (s.setEvq v).fuses = s.fuses := rfl
@[simp] theorem State.setEvq_chip (v : List Ev) : (s.setEvq v).chip = s.chip := rfl
@[simp] theorem State.setEvq_lastWritten (v : List Ev) : (s.setEvq v).lastWritten = s.lastWritten := rfl
@[simp] theorem State.setEvq_imgOp (v : List Ev) : (s.setEvq v).imgOp = s.imgOp := rfl
@[simp] theorem State.setEvq_txn (v : List Ev) : (s.setEvq v).txn = s.txn := rfl
@[simp] theorem State.setEvq_mgmt (v : List Ev) : (s.setEvq v).mgmt = s.mgmt := rfl
@[simp] theorem State.setEvq_winnows (v : List Ev) : (s.setEvq v).winnows = s.winnows := rfl
@[simp] theorem State.setEvq_windows (v : List Ev) : (s.setEvq v).windows = s.windows := rfl
@[simp] theorem State.setEvq_tim (v : List Ev) : (s.setEvq v).tim = s.tim := rfl
@[simp] theorem State.setEvq_snap (v : List Ev) : (s.setEvq v).snap = s.snap := rfl
@[simp] theorem State.setEvq_tiles (v : List Ev) : (s.setEvq v).tiles = s.tiles := rfl
@[simp] theorem State.setEvq_power (v : List Ev) : (s.setEvq v).power = s.power := rfl
@[simp] theorem State.setEvq_evq (v : List Ev) : (s.setEvq v).evq = v := rfl
@[simp] theorem State.setEvq_staged (v : List Ev) : (s.setEvq v).staged = s.staged := rfl
@[simp] theorem State.setEvq_now (v : List Ev) : (s.setEvq v).now = s.now := rfl
@[simp] theorem State.setEvq_count (v : List Ev) : (s.setEvq v).count = s.count := rfl
@[simp] theorem State.setEvq_replicas (v : List Ev) : (s.setEvq v).replicas = s.replicas := rfl
@[simp] theorem State.setEvq_elapsed (v : List Ev) : (s.setEvq v).elapsed = s.elapsed := rfl
@[simp] theorem State.setEvq_outbox (v : List Ev) : (s.setEvq v).outbox = s.outbox := rfl
@[simp] theorem State.setEvq_freeCtr (v : List Ev) : (s.setEvq v).freeCtr = s.freeCtr := rfl
@[simp] theorem State.setEvq_pending (v : List Ev) : (s.setEvq v).pending = s.pending := rfl

/-! ### setStaged -/

@[simp] theorem State.setStaged_regs (v : List Ev) : (s.setStaged v).regs = s.regs := rfl
@[simp] theorem State.setStaged_halves (v : List Ev) : (s.setStaged v).halves = s.halves := rfl
@[simp] theorem State.setStaged_sides (v : List Ev) : (s.setStaged v).sides = s.sides := rfl
@[simp] theorem State.setStaged_ports (v : List Ev) : (s.setStaged v).ports = s.ports := rfl
@[simp] theorem State.setStaged_era (v : List Ev) : (s.setStaged v).era = s.era := rfl
@[simp] theorem State.setStaged_bct (v : List Ev) : (s.setStaged v).bct = s.bct := rfl
@[simp] theorem State.setStaged_calTab (v : List Ev) : (s.setStaged v).calTab = s.calTab := rfl
@[simp] theorem State.setStaged_engines (v : List Ev) : (s.setStaged v).engines = s.engines := rfl
@[simp] theorem State.setStaged_slices (v : List Ev) : (s.setStaged v).slices = s.slices := rfl
@[simp] theorem State.setStaged_rings (v : List Ev) : (s.setStaged v).rings = s.rings := rfl
@[simp] theorem State.setStaged_tags (v : List Ev) : (s.setStaged v).tags = s.tags := rfl
@[simp] theorem State.setStaged_flash (v : List Ev) : (s.setStaged v).flash = s.flash := rfl
@[simp] theorem State.setStaged_calStore (v : List Ev) : (s.setStaged v).calStore = s.calStore := rfl
@[simp] theorem State.setStaged_storeWait (v : List Ev) : (s.setStaged v).storeWait = s.storeWait := rfl
@[simp] theorem State.setStaged_lastStore (v : List Ev) : (s.setStaged v).lastStore = s.lastStore := rfl
@[simp] theorem State.setStaged_fuses (v : List Ev) : (s.setStaged v).fuses = s.fuses := rfl
@[simp] theorem State.setStaged_chip (v : List Ev) : (s.setStaged v).chip = s.chip := rfl
@[simp] theorem State.setStaged_lastWritten (v : List Ev) : (s.setStaged v).lastWritten = s.lastWritten := rfl
@[simp] theorem State.setStaged_imgOp (v : List Ev) : (s.setStaged v).imgOp = s.imgOp := rfl
@[simp] theorem State.setStaged_txn (v : List Ev) : (s.setStaged v).txn = s.txn := rfl
@[simp] theorem State.setStaged_mgmt (v : List Ev) : (s.setStaged v).mgmt = s.mgmt := rfl
@[simp] theorem State.setStaged_winnows (v : List Ev) : (s.setStaged v).winnows = s.winnows := rfl
@[simp] theorem State.setStaged_windows (v : List Ev) : (s.setStaged v).windows = s.windows := rfl
@[simp] theorem State.setStaged_tim (v : List Ev) : (s.setStaged v).tim = s.tim := rfl
@[simp] theorem State.setStaged_snap (v : List Ev) : (s.setStaged v).snap = s.snap := rfl
@[simp] theorem State.setStaged_tiles (v : List Ev) : (s.setStaged v).tiles = s.tiles := rfl
@[simp] theorem State.setStaged_power (v : List Ev) : (s.setStaged v).power = s.power := rfl
@[simp] theorem State.setStaged_evq (v : List Ev) : (s.setStaged v).evq = s.evq := rfl
@[simp] theorem State.setStaged_staged (v : List Ev) : (s.setStaged v).staged = v := rfl
@[simp] theorem State.setStaged_now (v : List Ev) : (s.setStaged v).now = s.now := rfl
@[simp] theorem State.setStaged_count (v : List Ev) : (s.setStaged v).count = s.count := rfl
@[simp] theorem State.setStaged_replicas (v : List Ev) : (s.setStaged v).replicas = s.replicas := rfl
@[simp] theorem State.setStaged_elapsed (v : List Ev) : (s.setStaged v).elapsed = s.elapsed := rfl
@[simp] theorem State.setStaged_outbox (v : List Ev) : (s.setStaged v).outbox = s.outbox := rfl
@[simp] theorem State.setStaged_freeCtr (v : List Ev) : (s.setStaged v).freeCtr = s.freeCtr := rfl
@[simp] theorem State.setStaged_pending (v : List Ev) : (s.setStaged v).pending = s.pending := rfl

/-! ### setReplicas -/

@[simp] theorem State.setReplicas_regs (v : Tab Nat) : (s.setReplicas v).regs = s.regs := rfl
@[simp] theorem State.setReplicas_halves (v : Tab Nat) : (s.setReplicas v).halves = s.halves := rfl
@[simp] theorem State.setReplicas_sides (v : Tab Nat) : (s.setReplicas v).sides = s.sides := rfl
@[simp] theorem State.setReplicas_ports (v : Tab Nat) : (s.setReplicas v).ports = s.ports := rfl
@[simp] theorem State.setReplicas_era (v : Tab Nat) : (s.setReplicas v).era = s.era := rfl
@[simp] theorem State.setReplicas_bct (v : Tab Nat) : (s.setReplicas v).bct = s.bct := rfl
@[simp] theorem State.setReplicas_calTab (v : Tab Nat) : (s.setReplicas v).calTab = s.calTab := rfl
@[simp] theorem State.setReplicas_engines (v : Tab Nat) : (s.setReplicas v).engines = s.engines := rfl
@[simp] theorem State.setReplicas_slices (v : Tab Nat) : (s.setReplicas v).slices = s.slices := rfl
@[simp] theorem State.setReplicas_rings (v : Tab Nat) : (s.setReplicas v).rings = s.rings := rfl
@[simp] theorem State.setReplicas_tags (v : Tab Nat) : (s.setReplicas v).tags = s.tags := rfl
@[simp] theorem State.setReplicas_flash (v : Tab Nat) : (s.setReplicas v).flash = s.flash := rfl
@[simp] theorem State.setReplicas_calStore (v : Tab Nat) : (s.setReplicas v).calStore = s.calStore := rfl
@[simp] theorem State.setReplicas_storeWait (v : Tab Nat) : (s.setReplicas v).storeWait = s.storeWait := rfl
@[simp] theorem State.setReplicas_lastStore (v : Tab Nat) : (s.setReplicas v).lastStore = s.lastStore := rfl
@[simp] theorem State.setReplicas_fuses (v : Tab Nat) : (s.setReplicas v).fuses = s.fuses := rfl
@[simp] theorem State.setReplicas_chip (v : Tab Nat) : (s.setReplicas v).chip = s.chip := rfl
@[simp] theorem State.setReplicas_lastWritten (v : Tab Nat) : (s.setReplicas v).lastWritten = s.lastWritten := rfl
@[simp] theorem State.setReplicas_imgOp (v : Tab Nat) : (s.setReplicas v).imgOp = s.imgOp := rfl
@[simp] theorem State.setReplicas_txn (v : Tab Nat) : (s.setReplicas v).txn = s.txn := rfl
@[simp] theorem State.setReplicas_mgmt (v : Tab Nat) : (s.setReplicas v).mgmt = s.mgmt := rfl
@[simp] theorem State.setReplicas_winnows (v : Tab Nat) : (s.setReplicas v).winnows = s.winnows := rfl
@[simp] theorem State.setReplicas_windows (v : Tab Nat) : (s.setReplicas v).windows = s.windows := rfl
@[simp] theorem State.setReplicas_tim (v : Tab Nat) : (s.setReplicas v).tim = s.tim := rfl
@[simp] theorem State.setReplicas_snap (v : Tab Nat) : (s.setReplicas v).snap = s.snap := rfl
@[simp] theorem State.setReplicas_tiles (v : Tab Nat) : (s.setReplicas v).tiles = s.tiles := rfl
@[simp] theorem State.setReplicas_power (v : Tab Nat) : (s.setReplicas v).power = s.power := rfl
@[simp] theorem State.setReplicas_evq (v : Tab Nat) : (s.setReplicas v).evq = s.evq := rfl
@[simp] theorem State.setReplicas_staged (v : Tab Nat) : (s.setReplicas v).staged = s.staged := rfl
@[simp] theorem State.setReplicas_now (v : Tab Nat) : (s.setReplicas v).now = s.now := rfl
@[simp] theorem State.setReplicas_count (v : Tab Nat) : (s.setReplicas v).count = s.count := rfl
@[simp] theorem State.setReplicas_replicas (v : Tab Nat) : (s.setReplicas v).replicas = v := rfl
@[simp] theorem State.setReplicas_elapsed (v : Tab Nat) : (s.setReplicas v).elapsed = s.elapsed := rfl
@[simp] theorem State.setReplicas_outbox (v : Tab Nat) : (s.setReplicas v).outbox = s.outbox := rfl
@[simp] theorem State.setReplicas_freeCtr (v : Tab Nat) : (s.setReplicas v).freeCtr = s.freeCtr := rfl
@[simp] theorem State.setReplicas_pending (v : Tab Nat) : (s.setReplicas v).pending = s.pending := rfl

/-! ### setElapsed -/

@[simp] theorem State.setElapsed_regs (v : Nat) : (s.setElapsed v).regs = s.regs := rfl
@[simp] theorem State.setElapsed_halves (v : Nat) : (s.setElapsed v).halves = s.halves := rfl
@[simp] theorem State.setElapsed_sides (v : Nat) : (s.setElapsed v).sides = s.sides := rfl
@[simp] theorem State.setElapsed_ports (v : Nat) : (s.setElapsed v).ports = s.ports := rfl
@[simp] theorem State.setElapsed_era (v : Nat) : (s.setElapsed v).era = s.era := rfl
@[simp] theorem State.setElapsed_bct (v : Nat) : (s.setElapsed v).bct = s.bct := rfl
@[simp] theorem State.setElapsed_calTab (v : Nat) : (s.setElapsed v).calTab = s.calTab := rfl
@[simp] theorem State.setElapsed_engines (v : Nat) : (s.setElapsed v).engines = s.engines := rfl
@[simp] theorem State.setElapsed_slices (v : Nat) : (s.setElapsed v).slices = s.slices := rfl
@[simp] theorem State.setElapsed_rings (v : Nat) : (s.setElapsed v).rings = s.rings := rfl
@[simp] theorem State.setElapsed_tags (v : Nat) : (s.setElapsed v).tags = s.tags := rfl
@[simp] theorem State.setElapsed_flash (v : Nat) : (s.setElapsed v).flash = s.flash := rfl
@[simp] theorem State.setElapsed_calStore (v : Nat) : (s.setElapsed v).calStore = s.calStore := rfl
@[simp] theorem State.setElapsed_storeWait (v : Nat) : (s.setElapsed v).storeWait = s.storeWait := rfl
@[simp] theorem State.setElapsed_lastStore (v : Nat) : (s.setElapsed v).lastStore = s.lastStore := rfl
@[simp] theorem State.setElapsed_fuses (v : Nat) : (s.setElapsed v).fuses = s.fuses := rfl
@[simp] theorem State.setElapsed_chip (v : Nat) : (s.setElapsed v).chip = s.chip := rfl
@[simp] theorem State.setElapsed_lastWritten (v : Nat) : (s.setElapsed v).lastWritten = s.lastWritten := rfl
@[simp] theorem State.setElapsed_imgOp (v : Nat) : (s.setElapsed v).imgOp = s.imgOp := rfl
@[simp] theorem State.setElapsed_txn (v : Nat) : (s.setElapsed v).txn = s.txn := rfl
@[simp] theorem State.setElapsed_mgmt (v : Nat) : (s.setElapsed v).mgmt = s.mgmt := rfl
@[simp] theorem State.setElapsed_winnows (v : Nat) : (s.setElapsed v).winnows = s.winnows := rfl
@[simp] theorem State.setElapsed_windows (v : Nat) : (s.setElapsed v).windows = s.windows := rfl
@[simp] theorem State.setElapsed_tim (v : Nat) : (s.setElapsed v).tim = s.tim := rfl
@[simp] theorem State.setElapsed_snap (v : Nat) : (s.setElapsed v).snap = s.snap := rfl
@[simp] theorem State.setElapsed_tiles (v : Nat) : (s.setElapsed v).tiles = s.tiles := rfl
@[simp] theorem State.setElapsed_power (v : Nat) : (s.setElapsed v).power = s.power := rfl
@[simp] theorem State.setElapsed_evq (v : Nat) : (s.setElapsed v).evq = s.evq := rfl
@[simp] theorem State.setElapsed_staged (v : Nat) : (s.setElapsed v).staged = s.staged := rfl
@[simp] theorem State.setElapsed_now (v : Nat) : (s.setElapsed v).now = s.now := rfl
@[simp] theorem State.setElapsed_count (v : Nat) : (s.setElapsed v).count = s.count := rfl
@[simp] theorem State.setElapsed_replicas (v : Nat) : (s.setElapsed v).replicas = s.replicas := rfl
@[simp] theorem State.setElapsed_elapsed (v : Nat) : (s.setElapsed v).elapsed = v := rfl
@[simp] theorem State.setElapsed_outbox (v : Nat) : (s.setElapsed v).outbox = s.outbox := rfl
@[simp] theorem State.setElapsed_freeCtr (v : Nat) : (s.setElapsed v).freeCtr = s.freeCtr := rfl
@[simp] theorem State.setElapsed_pending (v : Nat) : (s.setElapsed v).pending = s.pending := rfl

/-! ### setImgOp -/

@[simp] theorem State.setImgOp_regs (v : Option ImgOp) : (s.setImgOp v).regs = s.regs := rfl
@[simp] theorem State.setImgOp_halves (v : Option ImgOp) : (s.setImgOp v).halves = s.halves := rfl
@[simp] theorem State.setImgOp_sides (v : Option ImgOp) : (s.setImgOp v).sides = s.sides := rfl
@[simp] theorem State.setImgOp_ports (v : Option ImgOp) : (s.setImgOp v).ports = s.ports := rfl
@[simp] theorem State.setImgOp_era (v : Option ImgOp) : (s.setImgOp v).era = s.era := rfl
@[simp] theorem State.setImgOp_bct (v : Option ImgOp) : (s.setImgOp v).bct = s.bct := rfl
@[simp] theorem State.setImgOp_calTab (v : Option ImgOp) : (s.setImgOp v).calTab = s.calTab := rfl
@[simp] theorem State.setImgOp_engines (v : Option ImgOp) : (s.setImgOp v).engines = s.engines := rfl
@[simp] theorem State.setImgOp_slices (v : Option ImgOp) : (s.setImgOp v).slices = s.slices := rfl
@[simp] theorem State.setImgOp_rings (v : Option ImgOp) : (s.setImgOp v).rings = s.rings := rfl
@[simp] theorem State.setImgOp_tags (v : Option ImgOp) : (s.setImgOp v).tags = s.tags := rfl
@[simp] theorem State.setImgOp_flash (v : Option ImgOp) : (s.setImgOp v).flash = s.flash := rfl
@[simp] theorem State.setImgOp_calStore (v : Option ImgOp) : (s.setImgOp v).calStore = s.calStore := rfl
@[simp] theorem State.setImgOp_storeWait (v : Option ImgOp) : (s.setImgOp v).storeWait = s.storeWait := rfl
@[simp] theorem State.setImgOp_lastStore (v : Option ImgOp) : (s.setImgOp v).lastStore = s.lastStore := rfl
@[simp] theorem State.setImgOp_fuses (v : Option ImgOp) : (s.setImgOp v).fuses = s.fuses := rfl
@[simp] theorem State.setImgOp_chip (v : Option ImgOp) : (s.setImgOp v).chip = s.chip := rfl
@[simp] theorem State.setImgOp_lastWritten (v : Option ImgOp) : (s.setImgOp v).lastWritten = s.lastWritten := rfl
@[simp] theorem State.setImgOp_imgOp (v : Option ImgOp) : (s.setImgOp v).imgOp = v := rfl
@[simp] theorem State.setImgOp_txn (v : Option ImgOp) : (s.setImgOp v).txn = s.txn := rfl
@[simp] theorem State.setImgOp_mgmt (v : Option ImgOp) : (s.setImgOp v).mgmt = s.mgmt := rfl
@[simp] theorem State.setImgOp_winnows (v : Option ImgOp) : (s.setImgOp v).winnows = s.winnows := rfl
@[simp] theorem State.setImgOp_windows (v : Option ImgOp) : (s.setImgOp v).windows = s.windows := rfl
@[simp] theorem State.setImgOp_tim (v : Option ImgOp) : (s.setImgOp v).tim = s.tim := rfl
@[simp] theorem State.setImgOp_snap (v : Option ImgOp) : (s.setImgOp v).snap = s.snap := rfl
@[simp] theorem State.setImgOp_tiles (v : Option ImgOp) : (s.setImgOp v).tiles = s.tiles := rfl
@[simp] theorem State.setImgOp_power (v : Option ImgOp) : (s.setImgOp v).power = s.power := rfl
@[simp] theorem State.setImgOp_evq (v : Option ImgOp) : (s.setImgOp v).evq = s.evq := rfl
@[simp] theorem State.setImgOp_staged (v : Option ImgOp) : (s.setImgOp v).staged = s.staged := rfl
@[simp] theorem State.setImgOp_now (v : Option ImgOp) : (s.setImgOp v).now = s.now := rfl
@[simp] theorem State.setImgOp_count (v : Option ImgOp) : (s.setImgOp v).count = s.count := rfl
@[simp] theorem State.setImgOp_replicas (v : Option ImgOp) : (s.setImgOp v).replicas = s.replicas := rfl
@[simp] theorem State.setImgOp_elapsed (v : Option ImgOp) : (s.setImgOp v).elapsed = s.elapsed := rfl
@[simp] theorem State.setImgOp_outbox (v : Option ImgOp) : (s.setImgOp v).outbox = s.outbox := rfl
@[simp] theorem State.setImgOp_freeCtr (v : Option ImgOp) : (s.setImgOp v).freeCtr = s.freeCtr := rfl
@[simp] theorem State.setImgOp_pending (v : Option ImgOp) : (s.setImgOp v).pending = s.pending := rfl

/-! ### setCalTab -/

@[simp] theorem State.setCalTab_regs (v : Tab CalRec) : (s.setCalTab v).regs = s.regs := rfl
@[simp] theorem State.setCalTab_halves (v : Tab CalRec) : (s.setCalTab v).halves = s.halves := rfl
@[simp] theorem State.setCalTab_sides (v : Tab CalRec) : (s.setCalTab v).sides = s.sides := rfl
@[simp] theorem State.setCalTab_ports (v : Tab CalRec) : (s.setCalTab v).ports = s.ports := rfl
@[simp] theorem State.setCalTab_era (v : Tab CalRec) : (s.setCalTab v).era = s.era := rfl
@[simp] theorem State.setCalTab_bct (v : Tab CalRec) : (s.setCalTab v).bct = s.bct := rfl
@[simp] theorem State.setCalTab_calTab (v : Tab CalRec) : (s.setCalTab v).calTab = v := rfl
@[simp] theorem State.setCalTab_engines (v : Tab CalRec) : (s.setCalTab v).engines = s.engines := rfl
@[simp] theorem State.setCalTab_slices (v : Tab CalRec) : (s.setCalTab v).slices = s.slices := rfl
@[simp] theorem State.setCalTab_rings (v : Tab CalRec) : (s.setCalTab v).rings = s.rings := rfl
@[simp] theorem State.setCalTab_tags (v : Tab CalRec) : (s.setCalTab v).tags = s.tags := rfl
@[simp] theorem State.setCalTab_flash (v : Tab CalRec) : (s.setCalTab v).flash = s.flash := rfl
@[simp] theorem State.setCalTab_calStore (v : Tab CalRec) : (s.setCalTab v).calStore = s.calStore := rfl
@[simp] theorem State.setCalTab_storeWait (v : Tab CalRec) : (s.setCalTab v).storeWait = s.storeWait := rfl
@[simp] theorem State.setCalTab_lastStore (v : Tab CalRec) : (s.setCalTab v).lastStore = s.lastStore := rfl
@[simp] theorem State.setCalTab_fuses (v : Tab CalRec) : (s.setCalTab v).fuses = s.fuses := rfl
@[simp] theorem State.setCalTab_chip (v : Tab CalRec) : (s.setCalTab v).chip = s.chip := rfl
@[simp] theorem State.setCalTab_lastWritten (v : Tab CalRec) : (s.setCalTab v).lastWritten = s.lastWritten := rfl
@[simp] theorem State.setCalTab_imgOp (v : Tab CalRec) : (s.setCalTab v).imgOp = s.imgOp := rfl
@[simp] theorem State.setCalTab_txn (v : Tab CalRec) : (s.setCalTab v).txn = s.txn := rfl
@[simp] theorem State.setCalTab_mgmt (v : Tab CalRec) : (s.setCalTab v).mgmt = s.mgmt := rfl
@[simp] theorem State.setCalTab_winnows (v : Tab CalRec) : (s.setCalTab v).winnows = s.winnows := rfl
@[simp] theorem State.setCalTab_windows (v : Tab CalRec) : (s.setCalTab v).windows = s.windows := rfl
@[simp] theorem State.setCalTab_tim (v : Tab CalRec) : (s.setCalTab v).tim = s.tim := rfl
@[simp] theorem State.setCalTab_snap (v : Tab CalRec) : (s.setCalTab v).snap = s.snap := rfl
@[simp] theorem State.setCalTab_tiles (v : Tab CalRec) : (s.setCalTab v).tiles = s.tiles := rfl
@[simp] theorem State.setCalTab_power (v : Tab CalRec) : (s.setCalTab v).power = s.power := rfl
@[simp] theorem State.setCalTab_evq (v : Tab CalRec) : (s.setCalTab v).evq = s.evq := rfl
@[simp] theorem State.setCalTab_staged (v : Tab CalRec) : (s.setCalTab v).staged = s.staged := rfl
@[simp] theorem State.setCalTab_now (v : Tab CalRec) : (s.setCalTab v).now = s.now := rfl
@[simp] theorem State.setCalTab_count (v : Tab CalRec) : (s.setCalTab v).count = s.count := rfl
@[simp] theorem State.setCalTab_replicas (v : Tab CalRec) : (s.setCalTab v).replicas = s.replicas := rfl
@[simp] theorem State.setCalTab_elapsed (v : Tab CalRec) : (s.setCalTab v).elapsed = s.elapsed := rfl
@[simp] theorem State.setCalTab_outbox (v : Tab CalRec) : (s.setCalTab v).outbox = s.outbox := rfl
@[simp] theorem State.setCalTab_freeCtr (v : Tab CalRec) : (s.setCalTab v).freeCtr = s.freeCtr := rfl
@[simp] theorem State.setCalTab_pending (v : Tab CalRec) : (s.setCalTab v).pending = s.pending := rfl

/-! ### setCalStore -/

@[simp] theorem State.setCalStore_regs (v : Option CalStore) : (s.setCalStore v).regs = s.regs := rfl
@[simp] theorem State.setCalStore_halves (v : Option CalStore) : (s.setCalStore v).halves = s.halves := rfl
@[simp] theorem State.setCalStore_sides (v : Option CalStore) : (s.setCalStore v).sides = s.sides := rfl
@[simp] theorem State.setCalStore_ports (v : Option CalStore) : (s.setCalStore v).ports = s.ports := rfl
@[simp] theorem State.setCalStore_era (v : Option CalStore) : (s.setCalStore v).era = s.era := rfl
@[simp] theorem State.setCalStore_bct (v : Option CalStore) : (s.setCalStore v).bct = s.bct := rfl
@[simp] theorem State.setCalStore_calTab (v : Option CalStore) : (s.setCalStore v).calTab = s.calTab := rfl
@[simp] theorem State.setCalStore_engines (v : Option CalStore) : (s.setCalStore v).engines = s.engines := rfl
@[simp] theorem State.setCalStore_slices (v : Option CalStore) : (s.setCalStore v).slices = s.slices := rfl
@[simp] theorem State.setCalStore_rings (v : Option CalStore) : (s.setCalStore v).rings = s.rings := rfl
@[simp] theorem State.setCalStore_tags (v : Option CalStore) : (s.setCalStore v).tags = s.tags := rfl
@[simp] theorem State.setCalStore_flash (v : Option CalStore) : (s.setCalStore v).flash = s.flash := rfl
@[simp] theorem State.setCalStore_calStore (v : Option CalStore) : (s.setCalStore v).calStore = v := rfl
@[simp] theorem State.setCalStore_storeWait (v : Option CalStore) : (s.setCalStore v).storeWait = s.storeWait := rfl
@[simp] theorem State.setCalStore_lastStore (v : Option CalStore) : (s.setCalStore v).lastStore = s.lastStore := rfl
@[simp] theorem State.setCalStore_fuses (v : Option CalStore) : (s.setCalStore v).fuses = s.fuses := rfl
@[simp] theorem State.setCalStore_chip (v : Option CalStore) : (s.setCalStore v).chip = s.chip := rfl
@[simp] theorem State.setCalStore_lastWritten (v : Option CalStore) : (s.setCalStore v).lastWritten = s.lastWritten := rfl
@[simp] theorem State.setCalStore_imgOp (v : Option CalStore) : (s.setCalStore v).imgOp = s.imgOp := rfl
@[simp] theorem State.setCalStore_txn (v : Option CalStore) : (s.setCalStore v).txn = s.txn := rfl
@[simp] theorem State.setCalStore_mgmt (v : Option CalStore) : (s.setCalStore v).mgmt = s.mgmt := rfl
@[simp] theorem State.setCalStore_winnows (v : Option CalStore) : (s.setCalStore v).winnows = s.winnows := rfl
@[simp] theorem State.setCalStore_windows (v : Option CalStore) : (s.setCalStore v).windows = s.windows := rfl
@[simp] theorem State.setCalStore_tim (v : Option CalStore) : (s.setCalStore v).tim = s.tim := rfl
@[simp] theorem State.setCalStore_snap (v : Option CalStore) : (s.setCalStore v).snap = s.snap := rfl
@[simp] theorem State.setCalStore_tiles (v : Option CalStore) : (s.setCalStore v).tiles = s.tiles := rfl
@[simp] theorem State.setCalStore_power (v : Option CalStore) : (s.setCalStore v).power = s.power := rfl
@[simp] theorem State.setCalStore_evq (v : Option CalStore) : (s.setCalStore v).evq = s.evq := rfl
@[simp] theorem State.setCalStore_staged (v : Option CalStore) : (s.setCalStore v).staged = s.staged := rfl
@[simp] theorem State.setCalStore_now (v : Option CalStore) : (s.setCalStore v).now = s.now := rfl
@[simp] theorem State.setCalStore_count (v : Option CalStore) : (s.setCalStore v).count = s.count := rfl
@[simp] theorem State.setCalStore_replicas (v : Option CalStore) : (s.setCalStore v).replicas = s.replicas := rfl
@[simp] theorem State.setCalStore_elapsed (v : Option CalStore) : (s.setCalStore v).elapsed = s.elapsed := rfl
@[simp] theorem State.setCalStore_outbox (v : Option CalStore) : (s.setCalStore v).outbox = s.outbox := rfl
@[simp] theorem State.setCalStore_freeCtr (v : Option CalStore) : (s.setCalStore v).freeCtr = s.freeCtr := rfl
@[simp] theorem State.setCalStore_pending (v : Option CalStore) : (s.setCalStore v).pending = s.pending := rfl

/-! ### setStoreWait -/

@[simp] theorem State.setStoreWait_regs (v : Bool) : (s.setStoreWait v).regs = s.regs := rfl
@[simp] theorem State.setStoreWait_halves (v : Bool) : (s.setStoreWait v).halves = s.halves := rfl
@[simp] theorem State.setStoreWait_sides (v : Bool) : (s.setStoreWait v).sides = s.sides := rfl
@[simp] theorem State.setStoreWait_ports (v : Bool) : (s.setStoreWait v).ports = s.ports := rfl
@[simp] theorem State.setStoreWait_era (v : Bool) : (s.setStoreWait v).era = s.era := rfl
@[simp] theorem State.setStoreWait_bct (v : Bool) : (s.setStoreWait v).bct = s.bct := rfl
@[simp] theorem State.setStoreWait_calTab (v : Bool) : (s.setStoreWait v).calTab = s.calTab := rfl
@[simp] theorem State.setStoreWait_engines (v : Bool) : (s.setStoreWait v).engines = s.engines := rfl
@[simp] theorem State.setStoreWait_slices (v : Bool) : (s.setStoreWait v).slices = s.slices := rfl
@[simp] theorem State.setStoreWait_rings (v : Bool) : (s.setStoreWait v).rings = s.rings := rfl
@[simp] theorem State.setStoreWait_tags (v : Bool) : (s.setStoreWait v).tags = s.tags := rfl
@[simp] theorem State.setStoreWait_flash (v : Bool) : (s.setStoreWait v).flash = s.flash := rfl
@[simp] theorem State.setStoreWait_calStore (v : Bool) : (s.setStoreWait v).calStore = s.calStore := rfl
@[simp] theorem State.setStoreWait_storeWait (v : Bool) : (s.setStoreWait v).storeWait = v := rfl
@[simp] theorem State.setStoreWait_lastStore (v : Bool) : (s.setStoreWait v).lastStore = s.lastStore := rfl
@[simp] theorem State.setStoreWait_fuses (v : Bool) : (s.setStoreWait v).fuses = s.fuses := rfl
@[simp] theorem State.setStoreWait_chip (v : Bool) : (s.setStoreWait v).chip = s.chip := rfl
@[simp] theorem State.setStoreWait_lastWritten (v : Bool) : (s.setStoreWait v).lastWritten = s.lastWritten := rfl
@[simp] theorem State.setStoreWait_imgOp (v : Bool) : (s.setStoreWait v).imgOp = s.imgOp := rfl
@[simp] theorem State.setStoreWait_txn (v : Bool) : (s.setStoreWait v).txn = s.txn := rfl
@[simp] theorem State.setStoreWait_mgmt (v : Bool) : (s.setStoreWait v).mgmt = s.mgmt := rfl
@[simp] theorem State.setStoreWait_winnows (v : Bool) : (s.setStoreWait v).winnows = s.winnows := rfl
@[simp] theorem State.setStoreWait_windows (v : Bool) : (s.setStoreWait v).windows = s.windows := rfl
@[simp] theorem State.setStoreWait_tim (v : Bool) : (s.setStoreWait v).tim = s.tim := rfl
@[simp] theorem State.setStoreWait_snap (v : Bool) : (s.setStoreWait v).snap = s.snap := rfl
@[simp] theorem State.setStoreWait_tiles (v : Bool) : (s.setStoreWait v).tiles = s.tiles := rfl
@[simp] theorem State.setStoreWait_power (v : Bool) : (s.setStoreWait v).power = s.power := rfl
@[simp] theorem State.setStoreWait_evq (v : Bool) : (s.setStoreWait v).evq = s.evq := rfl
@[simp] theorem State.setStoreWait_staged (v : Bool) : (s.setStoreWait v).staged = s.staged := rfl
@[simp] theorem State.setStoreWait_now (v : Bool) : (s.setStoreWait v).now = s.now := rfl
@[simp] theorem State.setStoreWait_count (v : Bool) : (s.setStoreWait v).count = s.count := rfl
@[simp] theorem State.setStoreWait_replicas (v : Bool) : (s.setStoreWait v).replicas = s.replicas := rfl
@[simp] theorem State.setStoreWait_elapsed (v : Bool) : (s.setStoreWait v).elapsed = s.elapsed := rfl
@[simp] theorem State.setStoreWait_outbox (v : Bool) : (s.setStoreWait v).outbox = s.outbox := rfl
@[simp] theorem State.setStoreWait_freeCtr (v : Bool) : (s.setStoreWait v).freeCtr = s.freeCtr := rfl
@[simp] theorem State.setStoreWait_pending (v : Bool) : (s.setStoreWait v).pending = s.pending := rfl

/-! ### setLastStore -/

@[simp] theorem State.setLastStore_regs (v : Nat) : (s.setLastStore v).regs = s.regs := rfl
@[simp] theorem State.setLastStore_halves (v : Nat) : (s.setLastStore v).halves = s.halves := rfl
@[simp] theorem State.setLastStore_sides (v : Nat) : (s.setLastStore v).sides = s.sides := rfl
@[simp] theorem State.setLastStore_ports (v : Nat) : (s.setLastStore v).ports = s.ports := rfl
@[simp] theorem State.setLastStore_era (v : Nat) : (s.setLastStore v).era = s.era := rfl
@[simp] theorem State.setLastStore_bct (v : Nat) : (s.setLastStore v).bct = s.bct := rfl
@[simp] theorem State.setLastStore_calTab (v : Nat) : (s.setLastStore v).calTab = s.calTab := rfl
@[simp] theorem State.setLastStore_engines (v : Nat) : (s.setLastStore v).engines = s.engines := rfl
@[simp] theorem State.setLastStore_slices (v : Nat) : (s.setLastStore v).slices = s.slices := rfl
@[simp] theorem State.setLastStore_rings (v : Nat) : (s.setLastStore v).rings = s.rings := rfl
@[simp] theorem State.setLastStore_tags (v : Nat) : (s.setLastStore v).tags = s.tags := rfl
@[simp] theorem State.setLastStore_flash (v : Nat) : (s.setLastStore v).flash = s.flash := rfl
@[simp] theorem State.setLastStore_calStore (v : Nat) : (s.setLastStore v).calStore = s.calStore := rfl
@[simp] theorem State.setLastStore_storeWait (v : Nat) : (s.setLastStore v).storeWait = s.storeWait := rfl
@[simp] theorem State.setLastStore_lastStore (v : Nat) : (s.setLastStore v).lastStore = v := rfl
@[simp] theorem State.setLastStore_fuses (v : Nat) : (s.setLastStore v).fuses = s.fuses := rfl
@[simp] theorem State.setLastStore_chip (v : Nat) : (s.setLastStore v).chip = s.chip := rfl
@[simp] theorem State.setLastStore_lastWritten (v : Nat) : (s.setLastStore v).lastWritten = s.lastWritten := rfl
@[simp] theorem State.setLastStore_imgOp (v : Nat) : (s.setLastStore v).imgOp = s.imgOp := rfl
@[simp] theorem State.setLastStore_txn (v : Nat) : (s.setLastStore v).txn = s.txn := rfl
@[simp] theorem State.setLastStore_mgmt (v : Nat) : (s.setLastStore v).mgmt = s.mgmt := rfl
@[simp] theorem State.setLastStore_winnows (v : Nat) : (s.setLastStore v).winnows = s.winnows := rfl
@[simp] theorem State.setLastStore_windows (v : Nat) : (s.setLastStore v).windows = s.windows := rfl
@[simp] theorem State.setLastStore_tim (v : Nat) : (s.setLastStore v).tim = s.tim := rfl
@[simp] theorem State.setLastStore_snap (v : Nat) : (s.setLastStore v).snap = s.snap := rfl
@[simp] theorem State.setLastStore_tiles (v : Nat) : (s.setLastStore v).tiles = s.tiles := rfl
@[simp] theorem State.setLastStore_power (v : Nat) : (s.setLastStore v).power = s.power := rfl
@[simp] theorem State.setLastStore_evq (v : Nat) : (s.setLastStore v).evq = s.evq := rfl
@[simp] theorem State.setLastStore_staged (v : Nat) : (s.setLastStore v).staged = s.staged := rfl
@[simp] theorem State.setLastStore_now (v : Nat) : (s.setLastStore v).now = s.now := rfl
@[simp] theorem State.setLastStore_count (v : Nat) : (s.setLastStore v).count = s.count := rfl
@[simp] theorem State.setLastStore_replicas (v : Nat) : (s.setLastStore v).replicas = s.replicas := rfl
@[simp] theorem State.setLastStore_elapsed (v : Nat) : (s.setLastStore v).elapsed = s.elapsed := rfl
@[simp] theorem State.setLastStore_outbox (v : Nat) : (s.setLastStore v).outbox = s.outbox := rfl
@[simp] theorem State.setLastStore_freeCtr (v : Nat) : (s.setLastStore v).freeCtr = s.freeCtr := rfl
@[simp] theorem State.setLastStore_pending (v : Nat) : (s.setLastStore v).pending = s.pending := rfl

/-! ### setChip -/

@[simp] theorem State.setChip_regs (v : Option (List Byte)) : (s.setChip v).regs = s.regs := rfl
@[simp] theorem State.setChip_halves (v : Option (List Byte)) : (s.setChip v).halves = s.halves := rfl
@[simp] theorem State.setChip_sides (v : Option (List Byte)) : (s.setChip v).sides = s.sides := rfl
@[simp] theorem State.setChip_ports (v : Option (List Byte)) : (s.setChip v).ports = s.ports := rfl
@[simp] theorem State.setChip_era (v : Option (List Byte)) : (s.setChip v).era = s.era := rfl
@[simp] theorem State.setChip_bct (v : Option (List Byte)) : (s.setChip v).bct = s.bct := rfl
@[simp] theorem State.setChip_calTab (v : Option (List Byte)) : (s.setChip v).calTab = s.calTab := rfl
@[simp] theorem State.setChip_engines (v : Option (List Byte)) : (s.setChip v).engines = s.engines := rfl
@[simp] theorem State.setChip_slices (v : Option (List Byte)) : (s.setChip v).slices = s.slices := rfl
@[simp] theorem State.setChip_rings (v : Option (List Byte)) : (s.setChip v).rings = s.rings := rfl
@[simp] theorem State.setChip_tags (v : Option (List Byte)) : (s.setChip v).tags = s.tags := rfl
@[simp] theorem State.setChip_flash (v : Option (List Byte)) : (s.setChip v).flash = s.flash := rfl
@[simp] theorem State.setChip_calStore (v : Option (List Byte)) : (s.setChip v).calStore = s.calStore := rfl
@[simp] theorem State.setChip_storeWait (v : Option (List Byte)) : (s.setChip v).storeWait = s.storeWait := rfl
@[simp] theorem State.setChip_lastStore (v : Option (List Byte)) : (s.setChip v).lastStore = s.lastStore := rfl
@[simp] theorem State.setChip_fuses (v : Option (List Byte)) : (s.setChip v).fuses = s.fuses := rfl
@[simp] theorem State.setChip_chip (v : Option (List Byte)) : (s.setChip v).chip = v := rfl
@[simp] theorem State.setChip_lastWritten (v : Option (List Byte)) : (s.setChip v).lastWritten = s.lastWritten := rfl
@[simp] theorem State.setChip_imgOp (v : Option (List Byte)) : (s.setChip v).imgOp = s.imgOp := rfl
@[simp] theorem State.setChip_txn (v : Option (List Byte)) : (s.setChip v).txn = s.txn := rfl
@[simp] theorem State.setChip_mgmt (v : Option (List Byte)) : (s.setChip v).mgmt = s.mgmt := rfl
@[simp] theorem State.setChip_winnows (v : Option (List Byte)) : (s.setChip v).winnows = s.winnows := rfl
@[simp] theorem State.setChip_windows (v : Option (List Byte)) : (s.setChip v).windows = s.windows := rfl
@[simp] theorem State.setChip_tim (v : Option (List Byte)) : (s.setChip v).tim = s.tim := rfl
@[simp] theorem State.setChip_snap (v : Option (List Byte)) : (s.setChip v).snap = s.snap := rfl
@[simp] theorem State.setChip_tiles (v : Option (List Byte)) : (s.setChip v).tiles = s.tiles := rfl
@[simp] theorem State.setChip_power (v : Option (List Byte)) : (s.setChip v).power = s.power := rfl
@[simp] theorem State.setChip_evq (v : Option (List Byte)) : (s.setChip v).evq = s.evq := rfl
@[simp] theorem State.setChip_staged (v : Option (List Byte)) : (s.setChip v).staged = s.staged := rfl
@[simp] theorem State.setChip_now (v : Option (List Byte)) : (s.setChip v).now = s.now := rfl
@[simp] theorem State.setChip_count (v : Option (List Byte)) : (s.setChip v).count = s.count := rfl
@[simp] theorem State.setChip_replicas (v : Option (List Byte)) : (s.setChip v).replicas = s.replicas := rfl
@[simp] theorem State.setChip_elapsed (v : Option (List Byte)) : (s.setChip v).elapsed = s.elapsed := rfl
@[simp] theorem State.setChip_outbox (v : Option (List Byte)) : (s.setChip v).outbox = s.outbox := rfl
@[simp] theorem State.setChip_freeCtr (v : Option (List Byte)) : (s.setChip v).freeCtr = s.freeCtr := rfl
@[simp] theorem State.setChip_pending (v : Option (List Byte)) : (s.setChip v).pending = s.pending := rfl

/-! ### setBct -/

@[simp] theorem State.setBct_regs (v : Tab Nat) : (s.setBct v).regs = s.regs := rfl
@[simp] theorem State.setBct_halves (v : Tab Nat) : (s.setBct v).halves = s.halves := rfl
@[simp] theorem State.setBct_sides (v : Tab Nat) : (s.setBct v).sides = s.sides := rfl
@[simp] theorem State.setBct_ports (v : Tab Nat) : (s.setBct v).ports = s.ports := rfl
@[simp] theorem State.setBct_era (v : Tab Nat) : (s.setBct v).era = s.era := rfl
@[simp] theorem State.setBct_bct (v : Tab Nat) : (s.setBct v).bct = v := rfl
@[simp] theorem State.setBct_calTab (v : Tab Nat) : (s.setBct v).calTab = s.calTab := rfl
@[simp] theorem State.setBct_engines (v : Tab Nat) : (s.setBct v).engines = s.engines := rfl
@[simp] theorem State.setBct_slices (v : Tab Nat) : (s.setBct v).slices = s.slices := rfl
@[simp] theorem State.setBct_rings (v : Tab Nat) : (s.setBct v).rings = s.rings := rfl
@[simp] theorem State.setBct_tags (v : Tab Nat) : (s.setBct v).tags = s.tags := rfl
@[simp] theorem State.setBct_flash (v : Tab Nat) : (s.setBct v).flash = s.flash := rfl
@[simp] theorem State.setBct_calStore (v : Tab Nat) : (s.setBct v).calStore = s.calStore := rfl
@[simp] theorem State.setBct_storeWait (v : Tab Nat) : (s.setBct v).storeWait = s.storeWait := rfl
@[simp] theorem State.setBct_lastStore (v : Tab Nat) : (s.setBct v).lastStore = s.lastStore := rfl
@[simp] theorem State.setBct_fuses (v : Tab Nat) : (s.setBct v).fuses = s.fuses := rfl
@[simp] theorem State.setBct_chip (v : Tab Nat) : (s.setBct v).chip = s.chip := rfl
@[simp] theorem State.setBct_lastWritten (v : Tab Nat) : (s.setBct v).lastWritten = s.lastWritten := rfl
@[simp] theorem State.setBct_imgOp (v : Tab Nat) : (s.setBct v).imgOp = s.imgOp := rfl
@[simp] theorem State.setBct_txn (v : Tab Nat) : (s.setBct v).txn = s.txn := rfl
@[simp] theorem State.setBct_mgmt (v : Tab Nat) : (s.setBct v).mgmt = s.mgmt := rfl
@[simp] theorem State.setBct_winnows (v : Tab Nat) : (s.setBct v).winnows = s.winnows := rfl
@[simp] theorem State.setBct_windows (v : Tab Nat) : (s.setBct v).windows = s.windows := rfl
@[simp] theorem State.setBct_tim (v : Tab Nat) : (s.setBct v).tim = s.tim := rfl
@[simp] theorem State.setBct_snap (v : Tab Nat) : (s.setBct v).snap = s.snap := rfl
@[simp] theorem State.setBct_tiles (v : Tab Nat) : (s.setBct v).tiles = s.tiles := rfl
@[simp] theorem State.setBct_power (v : Tab Nat) : (s.setBct v).power = s.power := rfl
@[simp] theorem State.setBct_evq (v : Tab Nat) : (s.setBct v).evq = s.evq := rfl
@[simp] theorem State.setBct_staged (v : Tab Nat) : (s.setBct v).staged = s.staged := rfl
@[simp] theorem State.setBct_now (v : Tab Nat) : (s.setBct v).now = s.now := rfl
@[simp] theorem State.setBct_count (v : Tab Nat) : (s.setBct v).count = s.count := rfl
@[simp] theorem State.setBct_replicas (v : Tab Nat) : (s.setBct v).replicas = s.replicas := rfl
@[simp] theorem State.setBct_elapsed (v : Tab Nat) : (s.setBct v).elapsed = s.elapsed := rfl
@[simp] theorem State.setBct_outbox (v : Tab Nat) : (s.setBct v).outbox = s.outbox := rfl
@[simp] theorem State.setBct_freeCtr (v : Tab Nat) : (s.setBct v).freeCtr = s.freeCtr := rfl
@[simp] theorem State.setBct_pending (v : Tab Nat) : (s.setBct v).pending = s.pending := rfl

/-! ### setTags -/

@[simp] theorem State.setTags_regs (v : Tab TagState) : (s.setTags v).regs = s.regs := rfl
@[simp] theorem State.setTags_halves (v : Tab TagState) : (s.setTags v).halves = s.halves := rfl
@[simp] theorem State.setTags_sides (v : Tab TagState) : (s.setTags v).sides = s.sides := rfl
@[simp] theorem State.setTags_ports (v : Tab TagState) : (s.setTags v).ports = s.ports := rfl
@[simp] theorem State.setTags_era (v : Tab TagState) : (s.setTags v).era = s.era := rfl
@[simp] theorem State.setTags_bct (v : Tab TagState) : (s.setTags v).bct = s.bct := rfl
@[simp] theorem State.setTags_calTab (v : Tab TagState) : (s.setTags v).calTab = s.calTab := rfl
@[simp] theorem State.setTags_engines (v : Tab TagState) : (s.setTags v).engines = s.engines := rfl
@[simp] theorem State.setTags_slices (v : Tab TagState) : (s.setTags v).slices = s.slices := rfl
@[simp] theorem State.setTags_rings (v : Tab TagState) : (s.setTags v).rings = s.rings := rfl
@[simp] theorem State.setTags_tags (v : Tab TagState) : (s.setTags v).tags = v := rfl
@[simp] theorem State.setTags_flash (v : Tab TagState) : (s.setTags v).flash = s.flash := rfl
@[simp] theorem State.setTags_calStore (v : Tab TagState) : (s.setTags v).calStore = s.calStore := rfl
@[simp] theorem State.setTags_storeWait (v : Tab TagState) : (s.setTags v).storeWait = s.storeWait := rfl
@[simp] theorem State.setTags_lastStore (v : Tab TagState) : (s.setTags v).lastStore = s.lastStore := rfl
@[simp] theorem State.setTags_fuses (v : Tab TagState) : (s.setTags v).fuses = s.fuses := rfl
@[simp] theorem State.setTags_chip (v : Tab TagState) : (s.setTags v).chip = s.chip := rfl
@[simp] theorem State.setTags_lastWritten (v : Tab TagState) : (s.setTags v).lastWritten = s.lastWritten := rfl
@[simp] theorem State.setTags_imgOp (v : Tab TagState) : (s.setTags v).imgOp = s.imgOp := rfl
@[simp] theorem State.setTags_txn (v : Tab TagState) : (s.setTags v).txn = s.txn := rfl
@[simp] theorem State.setTags_mgmt (v : Tab TagState) : (s.setTags v).mgmt = s.mgmt := rfl
@[simp] theorem State.setTags_winnows (v : Tab TagState) : (s.setTags v).winnows = s.winnows := rfl
@[simp] theorem State.setTags_windows (v : Tab TagState) : (s.setTags v).windows = s.windows := rfl
@[simp] theorem State.setTags_tim (v : Tab TagState) : (s.setTags v).tim = s.tim := rfl
@[simp] theorem State.setTags_snap (v : Tab TagState) : (s.setTags v).snap = s.snap := rfl
@[simp] theorem State.setTags_tiles (v : Tab TagState) : (s.setTags v).tiles = s.tiles := rfl
@[simp] theorem State.setTags_power (v : Tab TagState) : (s.setTags v).power = s.power := rfl
@[simp] theorem State.setTags_evq (v : Tab TagState) : (s.setTags v).evq = s.evq := rfl
@[simp] theorem State.setTags_staged (v : Tab TagState) : (s.setTags v).staged = s.staged := rfl
@[simp] theorem State.setTags_now (v : Tab TagState) : (s.setTags v).now = s.now := rfl
@[simp] theorem State.setTags_count (v : Tab TagState) : (s.setTags v).count = s.count := rfl
@[simp] theorem State.setTags_replicas (v : Tab TagState) : (s.setTags v).replicas = s.replicas := rfl
@[simp] theorem State.setTags_elapsed (v : Tab TagState) : (s.setTags v).elapsed = s.elapsed := rfl
@[simp] theorem State.setTags_outbox (v : Tab TagState) : (s.setTags v).outbox = s.outbox := rfl
@[simp] theorem State.setTags_freeCtr (v : Tab TagState) : (s.setTags v).freeCtr = s.freeCtr := rfl
@[simp] theorem State.setTags_pending (v : Tab TagState) : (s.setTags v).pending = s.pending := rfl

/-! ### setFuses -/

@[simp] theorem State.setFuses_regs (v : Fuses) : (s.setFuses v).regs = s.regs := rfl
@[simp] theorem State.setFuses_halves (v : Fuses) : (s.setFuses v).halves = s.halves := rfl
@[simp] theorem State.setFuses_sides (v : Fuses) : (s.setFuses v).sides = s.sides := rfl
@[simp] theorem State.setFuses_ports (v : Fuses) : (s.setFuses v).ports = s.ports := rfl
@[simp] theorem State.setFuses_era (v : Fuses) : (s.setFuses v).era = s.era := rfl
@[simp] theorem State.setFuses_bct (v : Fuses) : (s.setFuses v).bct = s.bct := rfl
@[simp] theorem State.setFuses_calTab (v : Fuses) : (s.setFuses v).calTab = s.calTab := rfl
@[simp] theorem State.setFuses_engines (v : Fuses) : (s.setFuses v).engines = s.engines := rfl
@[simp] theorem State.setFuses_slices (v : Fuses) : (s.setFuses v).slices = s.slices := rfl
@[simp] theorem State.setFuses_rings (v : Fuses) : (s.setFuses v).rings = s.rings := rfl
@[simp] theorem State.setFuses_tags (v : Fuses) : (s.setFuses v).tags = s.tags := rfl
@[simp] theorem State.setFuses_flash (v : Fuses) : (s.setFuses v).flash = s.flash := rfl
@[simp] theorem State.setFuses_calStore (v : Fuses) : (s.setFuses v).calStore = s.calStore := rfl
@[simp] theorem State.setFuses_storeWait (v : Fuses) : (s.setFuses v).storeWait = s.storeWait := rfl
@[simp] theorem State.setFuses_lastStore (v : Fuses) : (s.setFuses v).lastStore = s.lastStore := rfl
@[simp] theorem State.setFuses_fuses (v : Fuses) : (s.setFuses v).fuses = v := rfl
@[simp] theorem State.setFuses_chip (v : Fuses) : (s.setFuses v).chip = s.chip := rfl
@[simp] theorem State.setFuses_lastWritten (v : Fuses) : (s.setFuses v).lastWritten = s.lastWritten := rfl
@[simp] theorem State.setFuses_imgOp (v : Fuses) : (s.setFuses v).imgOp = s.imgOp := rfl
@[simp] theorem State.setFuses_txn (v : Fuses) : (s.setFuses v).txn = s.txn := rfl
@[simp] theorem State.setFuses_mgmt (v : Fuses) : (s.setFuses v).mgmt = s.mgmt := rfl
@[simp] theorem State.setFuses_winnows (v : Fuses) : (s.setFuses v).winnows = s.winnows := rfl
@[simp] theorem State.setFuses_windows (v : Fuses) : (s.setFuses v).windows = s.windows := rfl
@[simp] theorem State.setFuses_tim (v : Fuses) : (s.setFuses v).tim = s.tim := rfl
@[simp] theorem State.setFuses_snap (v : Fuses) : (s.setFuses v).snap = s.snap := rfl
@[simp] theorem State.setFuses_tiles (v : Fuses) : (s.setFuses v).tiles = s.tiles := rfl
@[simp] theorem State.setFuses_power (v : Fuses) : (s.setFuses v).power = s.power := rfl
@[simp] theorem State.setFuses_evq (v : Fuses) : (s.setFuses v).evq = s.evq := rfl
@[simp] theorem State.setFuses_staged (v : Fuses) : (s.setFuses v).staged = s.staged := rfl
@[simp] theorem State.setFuses_now (v : Fuses) : (s.setFuses v).now = s.now := rfl
@[simp] theorem State.setFuses_count (v : Fuses) : (s.setFuses v).count = s.count := rfl
@[simp] theorem State.setFuses_replicas (v : Fuses) : (s.setFuses v).replicas = s.replicas := rfl
@[simp] theorem State.setFuses_elapsed (v : Fuses) : (s.setFuses v).elapsed = s.elapsed := rfl
@[simp] theorem State.setFuses_outbox (v : Fuses) : (s.setFuses v).outbox = s.outbox := rfl
@[simp] theorem State.setFuses_freeCtr (v : Fuses) : (s.setFuses v).freeCtr = s.freeCtr := rfl
@[simp] theorem State.setFuses_pending (v : Fuses) : (s.setFuses v).pending = s.pending := rfl

/-! ### setSnap -/

@[simp] theorem State.setSnap_regs (v : Snapshot) : (s.setSnap v).regs = s.regs := rfl
@[simp] theorem State.setSnap_halves (v : Snapshot) : (s.setSnap v).halves = s.halves := rfl
@[simp] theorem State.setSnap_sides (v : Snapshot) : (s.setSnap v).sides = s.sides := rfl
@[simp] theorem State.setSnap_ports (v : Snapshot) : (s.setSnap v).ports = s.ports := rfl
@[simp] theorem State.setSnap_era (v : Snapshot) : (s.setSnap v).era = s.era := rfl
@[simp] theorem State.setSnap_bct (v : Snapshot) : (s.setSnap v).bct = s.bct := rfl
@[simp] theorem State.setSnap_calTab (v : Snapshot) : (s.setSnap v).calTab = s.calTab := rfl
@[simp] theorem State.setSnap_engines (v : Snapshot) : (s.setSnap v).engines = s.engines := rfl
@[simp] theorem State.setSnap_slices (v : Snapshot) : (s.setSnap v).slices = s.slices := rfl
@[simp] theorem State.setSnap_rings (v : Snapshot) : (s.setSnap v).rings = s.rings := rfl
@[simp] theorem State.setSnap_tags (v : Snapshot) : (s.setSnap v).tags = s.tags := rfl
@[simp] theorem State.setSnap_flash (v : Snapshot) : (s.setSnap v).flash = s.flash := rfl
@[simp] theorem State.setSnap_calStore (v : Snapshot) : (s.setSnap v).calStore = s.calStore := rfl
@[simp] theorem State.setSnap_storeWait (v : Snapshot) : (s.setSnap v).storeWait = s.storeWait := rfl
@[simp] theorem State.setSnap_lastStore (v : Snapshot) : (s.setSnap v).lastStore = s.lastStore := rfl
@[simp] theorem State.setSnap_fuses (v : Snapshot) : (s.setSnap v).fuses = s.fuses := rfl
@[simp] theorem State.setSnap_chip (v : Snapshot) : (s.setSnap v).chip = s.chip := rfl
@[simp] theorem State.setSnap_lastWritten (v : Snapshot) : (s.setSnap v).lastWritten = s.lastWritten := rfl
@[simp] theorem State.setSnap_imgOp (v : Snapshot) : (s.setSnap v).imgOp = s.imgOp := rfl
@[simp] theorem State.setSnap_txn (v : Snapshot) : (s.setSnap v).txn = s.txn := rfl
@[simp] theorem State.setSnap_mgmt (v : Snapshot) : (s.setSnap v).mgmt = s.mgmt := rfl
@[simp] theorem State.setSnap_winnows (v : Snapshot) : (s.setSnap v).winnows = s.winnows := rfl
@[simp] theorem State.setSnap_windows (v : Snapshot) : (s.setSnap v).windows = s.windows := rfl
@[simp] theorem State.setSnap_tim (v : Snapshot) : (s.setSnap v).tim = s.tim := rfl
@[simp] theorem State.setSnap_snap (v : Snapshot) : (s.setSnap v).snap = v := rfl
@[simp] theorem State.setSnap_tiles (v : Snapshot) : (s.setSnap v).tiles = s.tiles := rfl
@[simp] theorem State.setSnap_power (v : Snapshot) : (s.setSnap v).power = s.power := rfl
@[simp] theorem State.setSnap_evq (v : Snapshot) : (s.setSnap v).evq = s.evq := rfl
@[simp] theorem State.setSnap_staged (v : Snapshot) : (s.setSnap v).staged = s.staged := rfl
@[simp] theorem State.setSnap_now (v : Snapshot) : (s.setSnap v).now = s.now := rfl
@[simp] theorem State.setSnap_count (v : Snapshot) : (s.setSnap v).count = s.count := rfl
@[simp] theorem State.setSnap_replicas (v : Snapshot) : (s.setSnap v).replicas = s.replicas := rfl
@[simp] theorem State.setSnap_elapsed (v : Snapshot) : (s.setSnap v).elapsed = s.elapsed := rfl
@[simp] theorem State.setSnap_outbox (v : Snapshot) : (s.setSnap v).outbox = s.outbox := rfl
@[simp] theorem State.setSnap_freeCtr (v : Snapshot) : (s.setSnap v).freeCtr = s.freeCtr := rfl
@[simp] theorem State.setSnap_pending (v : Snapshot) : (s.setSnap v).pending = s.pending := rfl

/-! ### setLastWritten -/

@[simp] theorem State.setLastWritten_regs (v : Option Bool) : (s.setLastWritten v).regs = s.regs := rfl
@[simp] theorem State.setLastWritten_halves (v : Option Bool) : (s.setLastWritten v).halves = s.halves := rfl
@[simp] theorem State.setLastWritten_sides (v : Option Bool) : (s.setLastWritten v).sides = s.sides := rfl
@[simp] theorem State.setLastWritten_ports (v : Option Bool) : (s.setLastWritten v).ports = s.ports := rfl
@[simp] theorem State.setLastWritten_era (v : Option Bool) : (s.setLastWritten v).era = s.era := rfl
@[simp] theorem State.setLastWritten_bct (v : Option Bool) : (s.setLastWritten v).bct = s.bct := rfl
@[simp] theorem State.setLastWritten_calTab (v : Option Bool) : (s.setLastWritten v).calTab = s.calTab := rfl
@[simp] theorem State.setLastWritten_engines (v : Option Bool) : (s.setLastWritten v).engines = s.engines := rfl
@[simp] theorem State.setLastWritten_slices (v : Option Bool) : (s.setLastWritten v).slices = s.slices := rfl
@[simp] theorem State.setLastWritten_rings (v : Option Bool) : (s.setLastWritten v).rings = s.rings := rfl
@[simp] theorem State.setLastWritten_tags (v : Option Bool) : (s.setLastWritten v).tags = s.tags := rfl
@[simp] theorem State.setLastWritten_flash (v : Option Bool) : (s.setLastWritten v).flash = s.flash := rfl
@[simp] theorem State.setLastWritten_calStore (v : Option Bool) : (s.setLastWritten v).calStore = s.calStore := rfl
@[simp] theorem State.setLastWritten_storeWait (v : Option Bool) : (s.setLastWritten v).storeWait = s.storeWait := rfl
@[simp] theorem State.setLastWritten_lastStore (v : Option Bool) : (s.setLastWritten v).lastStore = s.lastStore := rfl
@[simp] theorem State.setLastWritten_fuses (v : Option Bool) : (s.setLastWritten v).fuses = s.fuses := rfl
@[simp] theorem State.setLastWritten_chip (v : Option Bool) : (s.setLastWritten v).chip = s.chip := rfl
@[simp] theorem State.setLastWritten_lastWritten (v : Option Bool) : (s.setLastWritten v).lastWritten = v := rfl
@[simp] theorem State.setLastWritten_imgOp (v : Option Bool) : (s.setLastWritten v).imgOp = s.imgOp := rfl
@[simp] theorem State.setLastWritten_txn (v : Option Bool) : (s.setLastWritten v).txn = s.txn := rfl
@[simp] theorem State.setLastWritten_mgmt (v : Option Bool) : (s.setLastWritten v).mgmt = s.mgmt := rfl
@[simp] theorem State.setLastWritten_winnows (v : Option Bool) : (s.setLastWritten v).winnows = s.winnows := rfl
@[simp] theorem State.setLastWritten_windows (v : Option Bool) : (s.setLastWritten v).windows = s.windows := rfl
@[simp] theorem State.setLastWritten_tim (v : Option Bool) : (s.setLastWritten v).tim = s.tim := rfl
@[simp] theorem State.setLastWritten_snap (v : Option Bool) : (s.setLastWritten v).snap = s.snap := rfl
@[simp] theorem State.setLastWritten_tiles (v : Option Bool) : (s.setLastWritten v).tiles = s.tiles := rfl
@[simp] theorem State.setLastWritten_power (v : Option Bool) : (s.setLastWritten v).power = s.power := rfl
@[simp] theorem State.setLastWritten_evq (v : Option Bool) : (s.setLastWritten v).evq = s.evq := rfl
@[simp] theorem State.setLastWritten_staged (v : Option Bool) : (s.setLastWritten v).staged = s.staged := rfl
@[simp] theorem State.setLastWritten_now (v : Option Bool) : (s.setLastWritten v).now = s.now := rfl
@[simp] theorem State.setLastWritten_count (v : Option Bool) : (s.setLastWritten v).count = s.count := rfl
@[simp] theorem State.setLastWritten_replicas (v : Option Bool) : (s.setLastWritten v).replicas = s.replicas := rfl
@[simp] theorem State.setLastWritten_elapsed (v : Option Bool) : (s.setLastWritten v).elapsed = s.elapsed := rfl
@[simp] theorem State.setLastWritten_outbox (v : Option Bool) : (s.setLastWritten v).outbox = s.outbox := rfl
@[simp] theorem State.setLastWritten_freeCtr (v : Option Bool) : (s.setLastWritten v).freeCtr = s.freeCtr := rfl
@[simp] theorem State.setLastWritten_pending (v : Option Bool) : (s.setLastWritten v).pending = s.pending := rfl

/-! ### setEra -/

@[simp] theorem State.setEra_regs (v : Nat) : (s.setEra v).regs = s.regs := rfl
@[simp] theorem State.setEra_halves (v : Nat) : (s.setEra v).halves = s.halves := rfl
@[simp] theorem State.setEra_sides (v : Nat) : (s.setEra v).sides = s.sides := rfl
@[simp] theorem State.setEra_ports (v : Nat) : (s.setEra v).ports = s.ports := rfl
@[simp] theorem State.setEra_era (v : Nat) : (s.setEra v).era = v := rfl
@[simp] theorem State.setEra_bct (v : Nat) : (s.setEra v).bct = s.bct := rfl
@[simp] theorem State.setEra_calTab (v : Nat) : (s.setEra v).calTab = s.calTab := rfl
@[simp] theorem State.setEra_engines (v : Nat) : (s.setEra v).engines = s.engines := rfl
@[simp] theorem State.setEra_slices (v : Nat) : (s.setEra v).slices = s.slices := rfl
@[simp] theorem State.setEra_rings (v : Nat) : (s.setEra v).rings = s.rings := rfl
@[simp] theorem State.setEra_tags (v : Nat) : (s.setEra v).tags = s.tags := rfl
@[simp] theorem State.setEra_flash (v : Nat) : (s.setEra v).flash = s.flash := rfl
@[simp] theorem State.setEra_calStore (v : Nat) : (s.setEra v).calStore = s.calStore := rfl
@[simp] theorem State.setEra_storeWait (v : Nat) : (s.setEra v).storeWait = s.storeWait := rfl
@[simp] theorem State.setEra_lastStore (v : Nat) : (s.setEra v).lastStore = s.lastStore := rfl
@[simp] theorem State.setEra_fuses (v : Nat) : (s.setEra v).fuses = s.fuses := rfl
@[simp] theorem State.setEra_chip (v : Nat) : (s.setEra v).chip = s.chip := rfl
@[simp] theorem State.setEra_lastWritten (v : Nat) : (s.setEra v).lastWritten = s.lastWritten := rfl
@[simp] theorem State.setEra_imgOp (v : Nat) : (s.setEra v).imgOp = s.imgOp := rfl
@[simp] theorem State.setEra_txn (v : Nat) : (s.setEra v).txn = s.txn := rfl
@[simp] theorem State.setEra_mgmt (v : Nat) : (s.setEra v).mgmt = s.mgmt := rfl
@[simp] theorem State.setEra_winnows (v : Nat) : (s.setEra v).winnows = s.winnows := rfl
@[simp] theorem State.setEra_windows (v : Nat) : (s.setEra v).windows = s.windows := rfl
@[simp] theorem State.setEra_tim (v : Nat) : (s.setEra v).tim = s.tim := rfl
@[simp] theorem State.setEra_snap (v : Nat) : (s.setEra v).snap = s.snap := rfl
@[simp] theorem State.setEra_tiles (v : Nat) : (s.setEra v).tiles = s.tiles := rfl
@[simp] theorem State.setEra_power (v : Nat) : (s.setEra v).power = s.power := rfl
@[simp] theorem State.setEra_evq (v : Nat) : (s.setEra v).evq = s.evq := rfl
@[simp] theorem State.setEra_staged (v : Nat) : (s.setEra v).staged = s.staged := rfl
@[simp] theorem State.setEra_now (v : Nat) : (s.setEra v).now = s.now := rfl
@[simp] theorem State.setEra_count (v : Nat) : (s.setEra v).count = s.count := rfl
@[simp] theorem State.setEra_replicas (v : Nat) : (s.setEra v).replicas = s.replicas := rfl
@[simp] theorem State.setEra_elapsed (v : Nat) : (s.setEra v).elapsed = s.elapsed := rfl
@[simp] theorem State.setEra_outbox (v : Nat) : (s.setEra v).outbox = s.outbox := rfl
@[simp] theorem State.setEra_freeCtr (v : Nat) : (s.setEra v).freeCtr = s.freeCtr := rfl
@[simp] theorem State.setEra_pending (v : Nat) : (s.setEra v).pending = s.pending := rfl

/-! ### setFlash -/

@[simp] theorem State.setFlash_regs (v : Memory) : (s.setFlash v).regs = s.regs := rfl
@[simp] theorem State.setFlash_halves (v : Memory) : (s.setFlash v).halves = s.halves := rfl
@[simp] theorem State.setFlash_sides (v : Memory) : (s.setFlash v).sides = s.sides := rfl
@[simp] theorem State.setFlash_ports (v : Memory) : (s.setFlash v).ports = s.ports := rfl
@[simp] theorem State.setFlash_era (v : Memory) : (s.setFlash v).era = s.era := rfl
@[simp] theorem State.setFlash_bct (v : Memory) : (s.setFlash v).bct = s.bct := rfl
@[simp] theorem State.setFlash_calTab (v : Memory) : (s.setFlash v).calTab = s.calTab := rfl
@[simp] theorem State.setFlash_engines (v : Memory) : (s.setFlash v).engines = s.engines := rfl
@[simp] theorem State.setFlash_slices (v : Memory) : (s.setFlash v).slices = s.slices := rfl
@[simp] theorem State.setFlash_rings (v : Memory) : (s.setFlash v).rings = s.rings := rfl
@[simp] theorem State.setFlash_tags (v : Memory) : (s.setFlash v).tags = s.tags := rfl
@[simp] theorem State.setFlash_flash (v : Memory) : (s.setFlash v).flash = v := rfl
@[simp] theorem State.setFlash_calStore (v : Memory) : (s.setFlash v).calStore = s.calStore := rfl
@[simp] theorem State.setFlash_storeWait (v : Memory) : (s.setFlash v).storeWait = s.storeWait := rfl
@[simp] theorem State.setFlash_lastStore (v : Memory) : (s.setFlash v).lastStore = s.lastStore := rfl
@[simp] theorem State.setFlash_fuses (v : Memory) : (s.setFlash v).fuses = s.fuses := rfl
@[simp] theorem State.setFlash_chip (v : Memory) : (s.setFlash v).chip = s.chip := rfl
@[simp] theorem State.setFlash_lastWritten (v : Memory) : (s.setFlash v).lastWritten = s.lastWritten := rfl
@[simp] theorem State.setFlash_imgOp (v : Memory) : (s.setFlash v).imgOp = s.imgOp := rfl
@[simp] theorem State.setFlash_txn (v : Memory) : (s.setFlash v).txn = s.txn := rfl
@[simp] theorem State.setFlash_mgmt (v : Memory) : (s.setFlash v).mgmt = s.mgmt := rfl
@[simp] theorem State.setFlash_winnows (v : Memory) : (s.setFlash v).winnows = s.winnows := rfl
@[simp] theorem State.setFlash_windows (v : Memory) : (s.setFlash v).windows = s.windows := rfl
@[simp] theorem State.setFlash_tim (v : Memory) : (s.setFlash v).tim = s.tim := rfl
@[simp] theorem State.setFlash_snap (v : Memory) : (s.setFlash v).snap = s.snap := rfl
@[simp] theorem State.setFlash_tiles (v : Memory) : (s.setFlash v).tiles = s.tiles := rfl
@[simp] theorem State.setFlash_power (v : Memory) : (s.setFlash v).power = s.power := rfl
@[simp] theorem State.setFlash_evq (v : Memory) : (s.setFlash v).evq = s.evq := rfl
@[simp] theorem State.setFlash_staged (v : Memory) : (s.setFlash v).staged = s.staged := rfl
@[simp] theorem State.setFlash_now (v : Memory) : (s.setFlash v).now = s.now := rfl
@[simp] theorem State.setFlash_count (v : Memory) : (s.setFlash v).count = s.count := rfl
@[simp] theorem State.setFlash_replicas (v : Memory) : (s.setFlash v).replicas = s.replicas := rfl
@[simp] theorem State.setFlash_elapsed (v : Memory) : (s.setFlash v).elapsed = s.elapsed := rfl
@[simp] theorem State.setFlash_outbox (v : Memory) : (s.setFlash v).outbox = s.outbox := rfl
@[simp] theorem State.setFlash_freeCtr (v : Memory) : (s.setFlash v).freeCtr = s.freeCtr := rfl
@[simp] theorem State.setFlash_pending (v : Memory) : (s.setFlash v).pending = s.pending := rfl

/-! ### setRegs -/

@[simp] theorem State.setRegs_regs (v : Tab Nat) : (s.setRegs v).regs = v := rfl
@[simp] theorem State.setRegs_halves (v : Tab Nat) : (s.setRegs v).halves = s.halves := rfl
@[simp] theorem State.setRegs_sides (v : Tab Nat) : (s.setRegs v).sides = s.sides := rfl
@[simp] theorem State.setRegs_ports (v : Tab Nat) : (s.setRegs v).ports = s.ports := rfl
@[simp] theorem State.setRegs_era (v : Tab Nat) : (s.setRegs v).era = s.era := rfl
@[simp] theorem State.setRegs_bct (v : Tab Nat) : (s.setRegs v).bct = s.bct := rfl
@[simp] theorem State.setRegs_calTab (v : Tab Nat) : (s.setRegs v).calTab = s.calTab := rfl
@[simp] theorem State.setRegs_engines (v : Tab Nat) : (s.setRegs v).engines = s.engines := rfl
@[simp] theorem State.setRegs_slices (v : Tab Nat) : (s.setRegs v).slices = s.slices := rfl
@[simp] theorem State.setRegs_rings (v : Tab Nat) : (s.setRegs v).rings = s.rings := rfl
@[simp] theorem State.setRegs_tags (v : Tab Nat) : (s.setRegs v).tags = s.tags := rfl
@[simp] theorem State.setRegs_flash (v : Tab Nat) : (s.setRegs v).flash = s.flash := rfl
@[simp] theorem State.setRegs_calStore (v : Tab Nat) : (s.setRegs v).calStore = s.calStore := rfl
@[simp] theorem State.setRegs_storeWait (v : Tab Nat) : (s.setRegs v).storeWait = s.storeWait := rfl
@[simp] theorem State.setRegs_lastStore (v : Tab Nat) : (s.setRegs v).lastStore = s.lastStore := rfl
@[simp] theorem State.setRegs_fuses (v : Tab Nat) : (s.setRegs v).fuses = s.fuses := rfl
@[simp] theorem State.setRegs_chip (v : Tab Nat) : (s.setRegs v).chip = s.chip := rfl
@[simp] theorem State.setRegs_lastWritten (v : Tab Nat) : (s.setRegs v).lastWritten = s.lastWritten := rfl
@[simp] theorem State.setRegs_imgOp (v : Tab Nat) : (s.setRegs v).imgOp = s.imgOp := rfl
@[simp] theorem State.setRegs_txn (v : Tab Nat) : (s.setRegs v).txn = s.txn := rfl
@[simp] theorem State.setRegs_mgmt (v : Tab Nat) : (s.setRegs v).mgmt = s.mgmt := rfl
@[simp] theorem State.setRegs_winnows (v : Tab Nat) : (s.setRegs v).winnows = s.winnows := rfl
@[simp] theorem State.setRegs_windows (v : Tab Nat) : (s.setRegs v).windows = s.windows := rfl
@[simp] theorem State.setRegs_tim (v : Tab Nat) : (s.setRegs v).tim = s.tim := rfl
@[simp] theorem State.setRegs_snap (v : Tab Nat) : (s.setRegs v).snap = s.snap := rfl
@[simp] theorem State.setRegs_tiles (v : Tab Nat) : (s.setRegs v).tiles = s.tiles := rfl
@[simp] theorem State.setRegs_power (v : Tab Nat) : (s.setRegs v).power = s.power := rfl
@[simp] theorem State.setRegs_evq (v : Tab Nat) : (s.setRegs v).evq = s.evq := rfl
@[simp] theorem State.setRegs_staged (v : Tab Nat) : (s.setRegs v).staged = s.staged := rfl
@[simp] theorem State.setRegs_now (v : Tab Nat) : (s.setRegs v).now = s.now := rfl
@[simp] theorem State.setRegs_count (v : Tab Nat) : (s.setRegs v).count = s.count := rfl
@[simp] theorem State.setRegs_replicas (v : Tab Nat) : (s.setRegs v).replicas = s.replicas := rfl
@[simp] theorem State.setRegs_elapsed (v : Tab Nat) : (s.setRegs v).elapsed = s.elapsed := rfl
@[simp] theorem State.setRegs_outbox (v : Tab Nat) : (s.setRegs v).outbox = s.outbox := rfl
@[simp] theorem State.setRegs_freeCtr (v : Tab Nat) : (s.setRegs v).freeCtr = s.freeCtr := rfl
@[simp] theorem State.setRegs_pending (v : Tab Nat) : (s.setRegs v).pending = s.pending := rfl

/-! ### setEngines -/

@[simp] theorem State.setEngines_regs (v : Tab Engine) : (s.setEngines v).regs = s.regs := rfl
@[simp] theorem State.setEngines_halves (v : Tab Engine) : (s.setEngines v).halves = s.halves := rfl
@[simp] theorem State.setEngines_sides (v : Tab Engine) : (s.setEngines v).sides = s.sides := rfl
@[simp] theorem State.setEngines_ports (v : Tab Engine) : (s.setEngines v).ports = s.ports := rfl
@[simp] theorem State.setEngines_era (v : Tab Engine) : (s.setEngines v).era = s.era := rfl
@[simp] theorem State.setEngines_bct (v : Tab Engine) : (s.setEngines v).bct = s.bct := rfl
@[simp] theorem State.setEngines_calTab (v : Tab Engine) : (s.setEngines v).calTab = s.calTab := rfl
@[simp] theorem State.setEngines_engines (v : Tab Engine) : (s.setEngines v).engines = v := rfl
@[simp] theorem State.setEngines_slices (v : Tab Engine) : (s.setEngines v).slices = s.slices := rfl
@[simp] theorem State.setEngines_rings (v : Tab Engine) : (s.setEngines v).rings = s.rings := rfl
@[simp] theorem State.setEngines_tags (v : Tab Engine) : (s.setEngines v).tags = s.tags := rfl
@[simp] theorem State.setEngines_flash (v : Tab Engine) : (s.setEngines v).flash = s.flash := rfl
@[simp] theorem State.setEngines_calStore (v : Tab Engine) : (s.setEngines v).calStore = s.calStore := rfl
@[simp] theorem State.setEngines_storeWait (v : Tab Engine) : (s.setEngines v).storeWait = s.storeWait := rfl
@[simp] theorem State.setEngines_lastStore (v : Tab Engine) : (s.setEngines v).lastStore = s.lastStore := rfl
@[simp] theorem State.setEngines_fuses (v : Tab Engine) : (s.setEngines v).fuses = s.fuses := rfl
@[simp] theorem State.setEngines_chip (v : Tab Engine) : (s.setEngines v).chip = s.chip := rfl
@[simp] theorem State.setEngines_lastWritten (v : Tab Engine) : (s.setEngines v).lastWritten = s.lastWritten := rfl
@[simp] theorem State.setEngines_imgOp (v : Tab Engine) : (s.setEngines v).imgOp = s.imgOp := rfl
@[simp] theorem State.setEngines_txn (v : Tab Engine) : (s.setEngines v).txn = s.txn := rfl
@[simp] theorem State.setEngines_mgmt (v : Tab Engine) : (s.setEngines v).mgmt = s.mgmt := rfl
@[simp] theorem State.setEngines_winnows (v : Tab Engine) : (s.setEngines v).winnows = s.winnows := rfl
@[simp] theorem State.setEngines_windows (v : Tab Engine) : (s.setEngines v).windows = s.windows := rfl
@[simp] theorem State.setEngines_tim (v : Tab Engine) : (s.setEngines v).tim = s.tim := rfl
@[simp] theorem State.setEngines_snap (v : Tab Engine) : (s.setEngines v).snap = s.snap := rfl
@[simp] theorem State.setEngines_tiles (v : Tab Engine) : (s.setEngines v).tiles = s.tiles := rfl
@[simp] theorem State.setEngines_power (v : Tab Engine) : (s.setEngines v).power = s.power := rfl
@[simp] theorem State.setEngines_evq (v : Tab Engine) : (s.setEngines v).evq = s.evq := rfl
@[simp] theorem State.setEngines_staged (v : Tab Engine) : (s.setEngines v).staged = s.staged := rfl
@[simp] theorem State.setEngines_now (v : Tab Engine) : (s.setEngines v).now = s.now := rfl
@[simp] theorem State.setEngines_count (v : Tab Engine) : (s.setEngines v).count = s.count := rfl
@[simp] theorem State.setEngines_replicas (v : Tab Engine) : (s.setEngines v).replicas = s.replicas := rfl
@[simp] theorem State.setEngines_elapsed (v : Tab Engine) : (s.setEngines v).elapsed = s.elapsed := rfl
@[simp] theorem State.setEngines_outbox (v : Tab Engine) : (s.setEngines v).outbox = s.outbox := rfl
@[simp] theorem State.setEngines_freeCtr (v : Tab Engine) : (s.setEngines v).freeCtr = s.freeCtr := rfl
@[simp] theorem State.setEngines_pending (v : Tab Engine) : (s.setEngines v).pending = s.pending := rfl

/-! ### setSlices -/

@[simp] theorem State.setSlices_regs (v : Tab SliceX) : (s.setSlices v).regs = s.regs := rfl
@[simp] theorem State.setSlices_halves (v : Tab SliceX) : (s.setSlices v).halves = s.halves := rfl
@[simp] theorem State.setSlices_sides (v : Tab SliceX) : (s.setSlices v).sides = s.sides := rfl
@[simp] theorem State.setSlices_ports (v : Tab SliceX) : (s.setSlices v).ports = s.ports := rfl
@[simp] theorem State.setSlices_era (v : Tab SliceX) : (s.setSlices v).era = s.era := rfl
@[simp] theorem State.setSlices_bct (v : Tab SliceX) : (s.setSlices v).bct = s.bct := rfl
@[simp] theorem State.setSlices_calTab (v : Tab SliceX) : (s.setSlices v).calTab = s.calTab := rfl
@[simp] theorem State.setSlices_engines (v : Tab SliceX) : (s.setSlices v).engines = s.engines := rfl
@[simp] theorem State.setSlices_slices (v : Tab SliceX) : (s.setSlices v).slices = v := rfl
@[simp] theorem State.setSlices_rings (v : Tab SliceX) : (s.setSlices v).rings = s.rings := rfl
@[simp] theorem State.setSlices_tags (v : Tab SliceX) : (s.setSlices v).tags = s.tags := rfl
@[simp] theorem State.setSlices_flash (v : Tab SliceX) : (s.setSlices v).flash = s.flash := rfl
@[simp] theorem State.setSlices_calStore (v : Tab SliceX) : (s.setSlices v).calStore = s.calStore := rfl
@[simp] theorem State.setSlices_storeWait (v : Tab SliceX) : (s.setSlices v).storeWait = s.storeWait := rfl
@[simp] theorem State.setSlices_lastStore (v : Tab SliceX) : (s.setSlices v).lastStore = s.lastStore := rfl
@[simp] theorem State.setSlices_fuses (v : Tab SliceX) : (s.setSlices v).fuses = s.fuses := rfl
@[simp] theorem State.setSlices_chip (v : Tab SliceX) : (s.setSlices v).chip = s.chip := rfl
@[simp] theorem State.setSlices_lastWritten (v : Tab SliceX) : (s.setSlices v).lastWritten = s.lastWritten := rfl
@[simp] theorem State.setSlices_imgOp (v : Tab SliceX) : (s.setSlices v).imgOp = s.imgOp := rfl
@[simp] theorem State.setSlices_txn (v : Tab SliceX) : (s.setSlices v).txn = s.txn := rfl
@[simp] theorem State.setSlices_mgmt (v : Tab SliceX) : (s.setSlices v).mgmt = s.mgmt := rfl
@[simp] theorem State.setSlices_winnows (v : Tab SliceX) : (s.setSlices v).winnows = s.winnows := rfl
@[simp] theorem State.setSlices_windows (v : Tab SliceX) : (s.setSlices v).windows = s.windows := rfl
@[simp] theorem State.setSlices_tim (v : Tab SliceX) : (s.setSlices v).tim = s.tim := rfl
@[simp] theorem State.setSlices_snap (v : Tab SliceX) : (s.setSlices v).snap = s.snap := rfl
@[simp] theorem State.setSlices_tiles (v : Tab SliceX) : (s.setSlices v).tiles = s.tiles := rfl
@[simp] theorem State.setSlices_power (v : Tab SliceX) : (s.setSlices v).power = s.power := rfl
@[simp] theorem State.setSlices_evq (v : Tab SliceX) : (s.setSlices v).evq = s.evq := rfl
@[simp] theorem State.setSlices_staged (v : Tab SliceX) : (s.setSlices v).staged = s.staged := rfl
@[simp] theorem State.setSlices_now (v : Tab SliceX) : (s.setSlices v).now = s.now := rfl
@[simp] theorem State.setSlices_count (v : Tab SliceX) : (s.setSlices v).count = s.count := rfl
@[simp] theorem State.setSlices_replicas (v : Tab SliceX) : (s.setSlices v).replicas = s.replicas := rfl
@[simp] theorem State.setSlices_elapsed (v : Tab SliceX) : (s.setSlices v).elapsed = s.elapsed := rfl
@[simp] theorem State.setSlices_outbox (v : Tab SliceX) : (s.setSlices v).outbox = s.outbox := rfl
@[simp] theorem State.setSlices_freeCtr (v : Tab SliceX) : (s.setSlices v).freeCtr = s.freeCtr := rfl
@[simp] theorem State.setSlices_pending (v : Tab SliceX) : (s.setSlices v).pending = s.pending := rfl

/-! ### setRings -/

@[simp] theorem State.setRings_regs (v : Tab RingX) : (s.setRings v).regs = s.regs := rfl
@[simp] theorem State.setRings_halves (v : Tab RingX) : (s.setRings v).halves = s.halves := rfl
@[simp] theorem State.setRings_sides (v : Tab RingX) : (s.setRings v).sides = s.sides := rfl
@[simp] theorem State.setRings_ports (v : Tab RingX) : (s.setRings v).ports = s.ports := rfl
@[simp] theorem State.setRings_era (v : Tab RingX) : (s.setRings v).era = s.era := rfl
@[simp] theorem State.setRings_bct (v : Tab RingX) : (s.setRings v).bct = s.bct := rfl
@[simp] theorem State.setRings_calTab (v : Tab RingX) : (s.setRings v).calTab = s.calTab := rfl
@[simp] theorem State.setRings_engines (v : Tab RingX) : (s.setRings v).engines = s.engines := rfl
@[simp] theorem State.setRings_slices (v : Tab RingX) : (s.setRings v).slices = s.slices := rfl
@[simp] theorem State.setRings_rings (v : Tab RingX) : (s.setRings v).rings = v := rfl
@[simp] theorem State.setRings_tags (v : Tab RingX) : (s.setRings v).tags = s.tags := rfl
@[simp] theorem State.setRings_flash (v : Tab RingX) : (s.setRings v).flash = s.flash := rfl
@[simp] theorem State.setRings_calStore (v : Tab RingX) : (s.setRings v).calStore = s.calStore := rfl
@[simp] theorem State.setRings_storeWait (v : Tab RingX) : (s.setRings v).storeWait = s.storeWait := rfl
@[simp] theorem State.setRings_lastStore (v : Tab RingX) : (s.setRings v).lastStore = s.lastStore := rfl
@[simp] theorem State.setRings_fuses (v : Tab RingX) : (s.setRings v).fuses = s.fuses := rfl
@[simp] theorem State.setRings_chip (v : Tab RingX) : (s.setRings v).chip = s.chip := rfl
@[simp] theorem State.setRings_lastWritten (v : Tab RingX) : (s.setRings v).lastWritten = s.lastWritten := rfl
@[simp] theorem State.setRings_imgOp (v : Tab RingX) : (s.setRings v).imgOp = s.imgOp := rfl
@[simp] theorem State.setRings_txn (v : Tab RingX) : (s.setRings v).txn = s.txn := rfl
@[simp] theorem State.setRings_mgmt (v : Tab RingX) : (s.setRings v).mgmt = s.mgmt := rfl
@[simp] theorem State.setRings_winnows (v : Tab RingX) : (s.setRings v).winnows = s.winnows := rfl
@[simp] theorem State.setRings_windows (v : Tab RingX) : (s.setRings v).windows = s.windows := rfl
@[simp] theorem State.setRings_tim (v : Tab RingX) : (s.setRings v).tim = s.tim := rfl
@[simp] theorem State.setRings_snap (v : Tab RingX) : (s.setRings v).snap = s.snap := rfl
@[simp] theorem State.setRings_tiles (v : Tab RingX) : (s.setRings v).tiles = s.tiles := rfl
@[simp] theorem State.setRings_power (v : Tab RingX) : (s.setRings v).power = s.power := rfl
@[simp] theorem State.setRings_evq (v : Tab RingX) : (s.setRings v).evq = s.evq := rfl
@[simp] theorem State.setRings_staged (v : Tab RingX) : (s.setRings v).staged = s.staged := rfl
@[simp] theorem State.setRings_now (v : Tab RingX) : (s.setRings v).now = s.now := rfl
@[simp] theorem State.setRings_count (v : Tab RingX) : (s.setRings v).count = s.count := rfl
@[simp] theorem State.setRings_replicas (v : Tab RingX) : (s.setRings v).replicas = s.replicas := rfl
@[simp] theorem State.setRings_elapsed (v : Tab RingX) : (s.setRings v).elapsed = s.elapsed := rfl
@[simp] theorem State.setRings_outbox (v : Tab RingX) : (s.setRings v).outbox = s.outbox := rfl
@[simp] theorem State.setRings_freeCtr (v : Tab RingX) : (s.setRings v).freeCtr = s.freeCtr := rfl
@[simp] theorem State.setRings_pending (v : Tab RingX) : (s.setRings v).pending = s.pending := rfl

/-! ### setWinnows -/

@[simp] theorem State.setWinnows_regs (v : Tab Winnow) : (s.setWinnows v).regs = s.regs := rfl
@[simp] theorem State.setWinnows_halves (v : Tab Winnow) : (s.setWinnows v).halves = s.halves := rfl
@[simp] theorem State.setWinnows_sides (v : Tab Winnow) : (s.setWinnows v).sides = s.sides := rfl
@[simp] theorem State.setWinnows_ports (v : Tab Winnow) : (s.setWinnows v).ports = s.ports := rfl
@[simp] theorem State.setWinnows_era (v : Tab Winnow) : (s.setWinnows v).era = s.era := rfl
@[simp] theorem State.setWinnows_bct (v : Tab Winnow) : (s.setWinnows v).bct = s.bct := rfl
@[simp] theorem State.setWinnows_calTab (v : Tab Winnow) : (s.setWinnows v).calTab = s.calTab := rfl
@[simp] theorem State.setWinnows_engines (v : Tab Winnow) : (s.setWinnows v).engines = s.engines := rfl
@[simp] theorem State.setWinnows_slices (v : Tab Winnow) : (s.setWinnows v).slices = s.slices := rfl
@[simp] theorem State.setWinnows_rings (v : Tab Winnow) : (s.setWinnows v).rings = s.rings := rfl
@[simp] theorem State.setWinnows_tags (v : Tab Winnow) : (s.setWinnows v).tags = s.tags := rfl
@[simp] theorem State.setWinnows_flash (v : Tab Winnow) : (s.setWinnows v).flash = s.flash := rfl
@[simp] theorem State.setWinnows_calStore (v : Tab Winnow) : (s.setWinnows v).calStore = s.calStore := rfl
@[simp] theorem State.setWinnows_storeWait (v : Tab Winnow) : (s.setWinnows v).storeWait = s.storeWait := rfl
@[simp] theorem State.setWinnows_lastStore (v : Tab Winnow) : (s.setWinnows v).lastStore = s.lastStore := rfl
@[simp] theorem State.setWinnows_fuses (v : Tab Winnow) : (s.setWinnows v).fuses = s.fuses := rfl
@[simp] theorem State.setWinnows_chip (v : Tab Winnow) : (s.setWinnows v).chip = s.chip := rfl
@[simp] theorem State.setWinnows_lastWritten (v : Tab Winnow) : (s.setWinnows v).lastWritten = s.lastWritten := rfl
@[simp] theorem State.setWinnows_imgOp (v : Tab Winnow) : (s.setWinnows v).imgOp = s.imgOp := rfl
@[simp] theorem State.setWinnows_txn (v : Tab Winnow) : (s.setWinnows v).txn = s.txn := rfl
@[simp] theorem State.setWinnows_mgmt (v : Tab Winnow) : (s.setWinnows v).mgmt = s.mgmt := rfl
@[simp] theorem State.setWinnows_winnows (v : Tab Winnow) : (s.setWinnows v).winnows = v := rfl
@[simp] theorem State.setWinnows_windows (v : Tab Winnow) : (s.setWinnows v).windows = s.windows := rfl
@[simp] theorem State.setWinnows_tim (v : Tab Winnow) : (s.setWinnows v).tim = s.tim := rfl
@[simp] theorem State.setWinnows_snap (v : Tab Winnow) : (s.setWinnows v).snap = s.snap := rfl
@[simp] theorem State.setWinnows_tiles (v : Tab Winnow) : (s.setWinnows v).tiles = s.tiles := rfl
@[simp] theorem State.setWinnows_power (v : Tab Winnow) : (s.setWinnows v).power = s.power := rfl
@[simp] theorem State.setWinnows_evq (v : Tab Winnow) : (s.setWinnows v).evq = s.evq := rfl
@[simp] theorem State.setWinnows_staged (v : Tab Winnow) : (s.setWinnows v).staged = s.staged := rfl
@[simp] theorem State.setWinnows_now (v : Tab Winnow) : (s.setWinnows v).now = s.now := rfl
@[simp] theorem State.setWinnows_count (v : Tab Winnow) : (s.setWinnows v).count = s.count := rfl
@[simp] theorem State.setWinnows_replicas (v : Tab Winnow) : (s.setWinnows v).replicas = s.replicas := rfl
@[simp] theorem State.setWinnows_elapsed (v : Tab Winnow) : (s.setWinnows v).elapsed = s.elapsed := rfl
@[simp] theorem State.setWinnows_outbox (v : Tab Winnow) : (s.setWinnows v).outbox = s.outbox := rfl
@[simp] theorem State.setWinnows_freeCtr (v : Tab Winnow) : (s.setWinnows v).freeCtr = s.freeCtr := rfl
@[simp] theorem State.setWinnows_pending (v : Tab Winnow) : (s.setWinnows v).pending = s.pending := rfl

/-! ### setWindows -/

@[simp] theorem State.setWindows_regs (v : Tab Window) : (s.setWindows v).regs = s.regs := rfl
@[simp] theorem State.setWindows_halves (v : Tab Window) : (s.setWindows v).halves = s.halves := rfl
@[simp] theorem State.setWindows_sides (v : Tab Window) : (s.setWindows v).sides = s.sides := rfl
@[simp] theorem State.setWindows_ports (v : Tab Window) : (s.setWindows v).ports = s.ports := rfl
@[simp] theorem State.setWindows_era (v : Tab Window) : (s.setWindows v).era = s.era := rfl
@[simp] theorem State.setWindows_bct (v : Tab Window) : (s.setWindows v).bct = s.bct := rfl
@[simp] theorem State.setWindows_calTab (v : Tab Window) : (s.setWindows v).calTab = s.calTab := rfl
@[simp] theorem State.setWindows_engines (v : Tab Window) : (s.setWindows v).engines = s.engines := rfl
@[simp] theorem State.setWindows_slices (v : Tab Window) : (s.setWindows v).slices = s.slices := rfl
@[simp] theorem State.setWindows_rings (v : Tab Window) : (s.setWindows v).rings = s.rings := rfl
@[simp] theorem State.setWindows_tags (v : Tab Window) : (s.setWindows v).tags = s.tags := rfl
@[simp] theorem State.setWindows_flash (v : Tab Window) : (s.setWindows v).flash = s.flash := rfl
@[simp] theorem State.setWindows_calStore (v : Tab Window) : (s.setWindows v).calStore = s.calStore := rfl
@[simp] theorem State.setWindows_storeWait (v : Tab Window) : (s.setWindows v).storeWait = s.storeWait := rfl
@[simp] theorem State.setWindows_lastStore (v : Tab Window) : (s.setWindows v).lastStore = s.lastStore := rfl
@[simp] theorem State.setWindows_fuses (v : Tab Window) : (s.setWindows v).fuses = s.fuses := rfl
@[simp] theorem State.setWindows_chip (v : Tab Window) : (s.setWindows v).chip = s.chip := rfl
@[simp] theorem State.setWindows_lastWritten (v : Tab Window) : (s.setWindows v).lastWritten = s.lastWritten := rfl
@[simp] theorem State.setWindows_imgOp (v : Tab Window) : (s.setWindows v).imgOp = s.imgOp := rfl
@[simp] theorem State.setWindows_txn (v : Tab Window) : (s.setWindows v).txn = s.txn := rfl
@[simp] theorem State.setWindows_mgmt (v : Tab Window) : (s.setWindows v).mgmt = s.mgmt := rfl
@[simp] theorem State.setWindows_winnows (v : Tab Window) : (s.setWindows v).winnows = s.winnows := rfl
@[simp] theorem State.setWindows_windows (v : Tab Window) : (s.setWindows v).windows = v := rfl
@[simp] theorem State.setWindows_tim (v : Tab Window) : (s.setWindows v).tim = s.tim := rfl
@[simp] theorem State.setWindows_snap (v : Tab Window) : (s.setWindows v).snap = s.snap := rfl
@[simp] theorem State.setWindows_tiles (v : Tab Window) : (s.setWindows v).tiles = s.tiles := rfl
@[simp] theorem State.setWindows_power (v : Tab Window) : (s.setWindows v).power = s.power := rfl
@[simp] theorem State.setWindows_evq (v : Tab Window) : (s.setWindows v).evq = s.evq := rfl
@[simp] theorem State.setWindows_staged (v : Tab Window) : (s.setWindows v).staged = s.staged := rfl
@[simp] theorem State.setWindows_now (v : Tab Window) : (s.setWindows v).now = s.now := rfl
@[simp] theorem State.setWindows_count (v : Tab Window) : (s.setWindows v).count = s.count := rfl
@[simp] theorem State.setWindows_replicas (v : Tab Window) : (s.setWindows v).replicas = s.replicas := rfl
@[simp] theorem State.setWindows_elapsed (v : Tab Window) : (s.setWindows v).elapsed = s.elapsed := rfl
@[simp] theorem State.setWindows_outbox (v : Tab Window) : (s.setWindows v).outbox = s.outbox := rfl
@[simp] theorem State.setWindows_freeCtr (v : Tab Window) : (s.setWindows v).freeCtr = s.freeCtr := rfl
@[simp] theorem State.setWindows_pending (v : Tab Window) : (s.setWindows v).pending = s.pending := rfl

/-! ### setPorts -/

@[simp] theorem State.setPorts_regs (v : Tab PortX) : (s.setPorts v).regs = s.regs := rfl
@[simp] theorem State.setPorts_halves (v : Tab PortX) : (s.setPorts v).halves = s.halves := rfl
@[simp] theorem State.setPorts_sides (v : Tab PortX) : (s.setPorts v).sides = s.sides := rfl
@[simp] theorem State.setPorts_ports (v : Tab PortX) : (s.setPorts v).ports = v := rfl
@[simp] theorem State.setPorts_era (v : Tab PortX) : (s.setPorts v).era = s.era := rfl
@[simp] theorem State.setPorts_bct (v : Tab PortX) : (s.setPorts v).bct = s.bct := rfl
@[simp] theorem State.setPorts_calTab (v : Tab PortX) : (s.setPorts v).calTab = s.calTab := rfl
@[simp] theorem State.setPorts_engines (v : Tab PortX) : (s.setPorts v).engines = s.engines := rfl
@[simp] theorem State.setPorts_slices (v : Tab PortX) : (s.setPorts v).slices = s.slices := rfl
@[simp] theorem State.setPorts_rings (v : Tab PortX) : (s.setPorts v).rings = s.rings := rfl
@[simp] theorem State.setPorts_tags (v : Tab PortX) : (s.setPorts v).tags = s.tags := rfl
@[simp] theorem State.setPorts_flash (v : Tab PortX) : (s.setPorts v).flash = s.flash := rfl
@[simp] theorem State.setPorts_calStore (v : Tab PortX) : (s.setPorts v).calStore = s.calStore := rfl
@[simp] theorem State.setPorts_storeWait (v : Tab PortX) : (s.setPorts v).storeWait = s.storeWait := rfl
@[simp] theorem State.setPorts_lastStore (v : Tab PortX) : (s.setPorts v).lastStore = s.lastStore := rfl
@[simp] theorem State.setPorts_fuses (v : Tab PortX) : (s.setPorts v).fuses = s.fuses := rfl
@[simp] theorem State.setPorts_chip (v : Tab PortX) : (s.setPorts v).chip = s.chip := rfl
@[simp] theorem State.setPorts_lastWritten (v : Tab PortX) : (s.setPorts v).lastWritten = s.lastWritten := rfl
@[simp] theorem State.setPorts_imgOp (v : Tab PortX) : (s.setPorts v).imgOp = s.imgOp := rfl
@[simp] theorem State.setPorts_txn (v : Tab PortX) : (s.setPorts v).txn = s.txn := rfl
@[simp] theorem State.setPorts_mgmt (v : Tab PortX) : (s.setPorts v).mgmt = s.mgmt := rfl
@[simp] theorem State.setPorts_winnows (v : Tab PortX) : (s.setPorts v).winnows = s.winnows := rfl
@[simp] theorem State.setPorts_windows (v : Tab PortX) : (s.setPorts v).windows = s.windows := rfl
@[simp] theorem State.setPorts_tim (v : Tab PortX) : (s.setPorts v).tim = s.tim := rfl
@[simp] theorem State.setPorts_snap (v : Tab PortX) : (s.setPorts v).snap = s.snap := rfl
@[simp] theorem State.setPorts_tiles (v : Tab PortX) : (s.setPorts v).tiles = s.tiles := rfl
@[simp] theorem State.setPorts_power (v : Tab PortX) : (s.setPorts v).power = s.power := rfl
@[simp] theorem State.setPorts_evq (v : Tab PortX) : (s.setPorts v).evq = s.evq := rfl
@[simp] theorem State.setPorts_staged (v : Tab PortX) : (s.setPorts v).staged = s.staged := rfl
@[simp] theorem State.setPorts_now (v : Tab PortX) : (s.setPorts v).now = s.now := rfl
@[simp] theorem State.setPorts_count (v : Tab PortX) : (s.setPorts v).count = s.count := rfl
@[simp] theorem State.setPorts_replicas (v : Tab PortX) : (s.setPorts v).replicas = s.replicas := rfl
@[simp] theorem State.setPorts_elapsed (v : Tab PortX) : (s.setPorts v).elapsed = s.elapsed := rfl
@[simp] theorem State.setPorts_outbox (v : Tab PortX) : (s.setPorts v).outbox = s.outbox := rfl
@[simp] theorem State.setPorts_freeCtr (v : Tab PortX) : (s.setPorts v).freeCtr = s.freeCtr := rfl
@[simp] theorem State.setPorts_pending (v : Tab PortX) : (s.setPorts v).pending = s.pending := rfl

/-! ### setOutbox -/

@[simp] theorem State.setOutbox_regs (v : List Out) : (s.setOutbox v).regs = s.regs := rfl
@[simp] theorem State.setOutbox_halves (v : List Out) : (s.setOutbox v).halves = s.halves := rfl
@[simp] theorem State.setOutbox_sides (v : List Out) : (s.setOutbox v).sides = s.sides := rfl
@[simp] theorem State.setOutbox_ports (v : List Out) : (s.setOutbox v).ports = s.ports := rfl
@[simp] theorem State.setOutbox_era (v : List Out) : (s.setOutbox v).era = s.era := rfl
@[simp] theorem State.setOutbox_bct (v : List Out) : (s.setOutbox v).bct = s.bct := rfl
@[simp] theorem State.setOutbox_calTab (v : List Out) : (s.setOutbox v).calTab = s.calTab := rfl
@[simp] theorem State.setOutbox_engines (v : List Out) : (s.setOutbox v).engines = s.engines := rfl
@[simp] theorem State.setOutbox_slices (v : List Out) : (s.setOutbox v).slices = s.slices := rfl
@[simp] theorem State.setOutbox_rings (v : List Out) : (s.setOutbox v).rings = s.rings := rfl
@[simp] theorem State.setOutbox_tags (v : List Out) : (s.setOutbox v).tags = s.tags := rfl
@[simp] theorem State.setOutbox_flash (v : List Out) : (s.setOutbox v).flash = s.flash := rfl
@[simp] theorem State.setOutbox_calStore (v : List Out) : (s.setOutbox v).calStore = s.calStore := rfl
@[simp] theorem State.setOutbox_storeWait (v : List Out) : (s.setOutbox v).storeWait = s.storeWait := rfl
@[simp] theorem State.setOutbox_lastStore (v : List Out) : (s.setOutbox v).lastStore = s.lastStore := rfl
@[simp] theorem State.setOutbox_fuses (v : List Out) : (s.setOutbox v).fuses = s.fuses := rfl
@[simp] theorem State.setOutbox_chip (v : List Out) : (s.setOutbox v).chip = s.chip := rfl
@[simp] theorem State.setOutbox_lastWritten (v : List Out) : (s.setOutbox v).lastWritten = s.lastWritten := rfl
@[simp] theorem State.setOutbox_imgOp (v : List Out) : (s.setOutbox v).imgOp = s.imgOp := rfl
@[simp] theorem State.setOutbox_txn (v : List Out) : (s.setOutbox v).txn = s.txn := rfl
@[simp] theorem State.setOutbox_mgmt (v : List Out) : (s.setOutbox v).mgmt = s.mgmt := rfl
@[simp] theorem State.setOutbox_winnows (v : List Out) : (s.setOutbox v).winnows = s.winnows := rfl
@[simp] theorem State.setOutbox_windows (v : List Out) : (s.setOutbox v).windows = s.windows := rfl
@[simp] theorem State.setOutbox_tim (v : List Out) : (s.setOutbox v).tim = s.tim := rfl
@[simp] theorem State.setOutbox_snap (v : List Out) : (s.setOutbox v).snap = s.snap := rfl
@[simp] theorem State.setOutbox_tiles (v : List Out) : (s.setOutbox v).tiles = s.tiles := rfl
@[simp] theorem State.setOutbox_power (v : List Out) : (s.setOutbox v).power = s.power := rfl
@[simp] theorem State.setOutbox_evq (v : List Out) : (s.setOutbox v).evq = s.evq := rfl
@[simp] theorem State.setOutbox_staged (v : List Out) : (s.setOutbox v).staged = s.staged := rfl
@[simp] theorem State.setOutbox_now (v : List Out) : (s.setOutbox v).now = s.now := rfl
@[simp] theorem State.setOutbox_count (v : List Out) : (s.setOutbox v).count = s.count := rfl
@[simp] theorem State.setOutbox_replicas (v : List Out) : (s.setOutbox v).replicas = s.replicas := rfl
@[simp] theorem State.setOutbox_elapsed (v : List Out) : (s.setOutbox v).elapsed = s.elapsed := rfl
@[simp] theorem State.setOutbox_outbox (v : List Out) : (s.setOutbox v).outbox = v := rfl
@[simp] theorem State.setOutbox_freeCtr (v : List Out) : (s.setOutbox v).freeCtr = s.freeCtr := rfl
@[simp] theorem State.setOutbox_pending (v : List Out) : (s.setOutbox v).pending = s.pending := rfl

/-! ### upH -/

@[simp] theorem State.upH_regs (h : Nat) (f : Half → Half) : (s.upH h f).regs = s.regs := rfl
@[simp] theorem State.upH_halves (h : Nat) (f : Half → Half) : (s.upH h f).halves = s.halves.set h (f (s.half h)) := rfl
@[simp] theorem State.upH_sides (h : Nat) (f : Half → Half) : (s.upH h f).sides = s.sides := rfl
@[simp] theorem State.upH_ports (h : Nat) (f : Half → Half) : (s.upH h f).ports = s.ports := rfl
@[simp] theorem State.upH_era (h : Nat) (f : Half → Half) : (s.upH h f).era = s.era := rfl
@[simp] theorem State.upH_bct (h : Nat) (f : Half → Half) : (s.upH h f).bct = s.bct := rfl
@[simp] theorem State.upH_calTab (h : Nat) (f : Half → Half) : (s.upH h f).calTab = s.calTab := rfl
@[simp] theorem State.upH_engines (h : Nat) (f : Half → Half) : (s.upH h f).engines = s.engines := rfl
@[simp] theorem State.upH_slices (h : Nat) (f : Half → Half) : (s.upH h f).slices = s.slices := rfl
@[simp] theorem State.upH_rings (h : Nat) (f : Half → Half) : (s.upH h f).rings = s.rings := rfl
@[simp] theorem State.upH_tags (h : Nat) (f : Half → Half) : (s.upH h f).tags = s.tags := rfl
@[simp] theorem State.upH_flash (h : Nat) (f : Half → Half) : (s.upH h f).flash = s.flash := rfl
@[simp] theorem State.upH_calStore (h : Nat) (f : Half → Half) : (s.upH h f).calStore = s.calStore := rfl
@[simp] theorem State.upH_storeWait (h : Nat) (f : Half → Half) : (s.upH h f).storeWait = s.storeWait := rfl
@[simp] theorem State.upH_lastStore (h : Nat) (f : Half → Half) : (s.upH h f).lastStore = s.lastStore := rfl
@[simp] theorem State.upH_fuses (h : Nat) (f : Half → Half) : (s.upH h f).fuses = s.fuses := rfl
@[simp] theorem State.upH_chip (h : Nat) (f : Half → Half) : (s.upH h f).chip = s.chip := rfl
@[simp] theorem State.upH_lastWritten (h : Nat) (f : Half → Half) : (s.upH h f).lastWritten = s.lastWritten := rfl
@[simp] theorem State.upH_imgOp (h : Nat) (f : Half → Half) : (s.upH h f).imgOp = s.imgOp := rfl
@[simp] theorem State.upH_txn (h : Nat) (f : Half → Half) : (s.upH h f).txn = s.txn := rfl
@[simp] theorem State.upH_mgmt (h : Nat) (f : Half → Half) : (s.upH h f).mgmt = s.mgmt := rfl
@[simp] theorem State.upH_winnows (h : Nat) (f : Half → Half) : (s.upH h f).winnows = s.winnows := rfl
@[simp] theorem State.upH_windows (h : Nat) (f : Half → Half) : (s.upH h f).windows = s.windows := rfl
@[simp] theorem State.upH_tim (h : Nat) (f : Half → Half) : (s.upH h f).tim = s.tim := rfl
@[simp] theorem State.upH_snap (h : Nat) (f : Half → Half) : (s.upH h f).snap = s.snap := rfl
@[simp] theorem State.upH_tiles (h : Nat) (f : Half → Half) : (s.upH h f).tiles = s.tiles := rfl
@[simp] theorem State.upH_power (h : Nat) (f : Half → Half) : (s.upH h f).power = s.power := rfl
@[simp] theorem State.upH_evq (h : Nat) (f : Half → Half) : (s.upH h f).evq = s.evq := rfl
@[simp] theorem State.upH_staged (h : Nat) (f : Half → Half) : (s.upH h f).staged = s.staged := rfl
@[simp] theorem State.upH_now (h : Nat) (f : Half → Half) : (s.upH h f).now = s.now := rfl
@[simp] theorem State.upH_count (h : Nat) (f : Half → Half) : (s.upH h f).count = s.count := rfl
@[simp] theorem State.upH_replicas (h : Nat) (f : Half → Half) : (s.upH h f).replicas = s.replicas := rfl
@[simp] theorem State.upH_elapsed (h : Nat) (f : Half → Half) : (s.upH h f).elapsed = s.elapsed := rfl
@[simp] theorem State.upH_outbox (h : Nat) (f : Half → Half) : (s.upH h f).outbox = s.outbox := rfl
@[simp] theorem State.upH_freeCtr (h : Nat) (f : Half → Half) : (s.upH h f).freeCtr = s.freeCtr := rfl
@[simp] theorem State.upH_pending (h : Nat) (f : Half → Half) : (s.upH h f).pending = s.pending := rfl

/-! ### upS -/

@[simp] theorem State.upS_regs (q : Nat) (f : Seg → Seg) : (s.upS q f).regs = s.regs := rfl
@[simp] theorem State.upS_halves (q : Nat) (f : Seg → Seg) : (s.upS q f).halves = s.halves := rfl
@[simp] theorem State.upS_sides (q : Nat) (f : Seg → Seg) : (s.upS q f).sides = s.sides.set q (f (s.seg q)) := rfl
@[simp] theorem State.upS_ports (q : Nat) (f : Seg → Seg) : (s.upS q f).ports = s.ports := rfl
@[simp] theorem State.upS_era (q : Nat) (f : Seg → Seg) : (s.upS q f).era = s.era := rfl
@[simp] theorem State.upS_bct (q : Nat) (f : Seg → Seg) : (s.upS q f).bct = s.bct := rfl
@[simp] theorem State.upS_calTab (q : Nat) (f : Seg → Seg) : (s.upS q f).calTab = s.calTab := rfl
@[simp] theorem State.upS_engines (q : Nat) (f : Seg → Seg) : (s.upS q f).engines = s.engines := rfl
@[simp] theorem State.upS_slices (q : Nat) (f : Seg → Seg) : (s.upS q f).slices = s.slices := rfl
@[simp] theorem State.upS_rings (q : Nat) (f : Seg → Seg) : (s.upS q f).rings = s.rings := rfl
@[simp] theorem State.upS_tags (q : Nat) (f : Seg → Seg) : (s.upS q f).tags = s.tags := rfl
@[simp] theorem State.upS_flash (q : Nat) (f : Seg → Seg) : (s.upS q f).flash = s.flash := rfl
@[simp] theorem State.upS_calStore (q : Nat) (f : Seg → Seg) : (s.upS q f).calStore = s.calStore := rfl
@[simp] theorem State.upS_storeWait (q : Nat) (f : Seg → Seg) : (s.upS q f).storeWait = s.storeWait := rfl
@[simp] theorem State.upS_lastStore (q : Nat) (f : Seg → Seg) : (s.upS q f).lastStore = s.lastStore := rfl
@[simp] theorem State.upS_fuses (q : Nat) (f : Seg → Seg) : (s.upS q f).fuses = s.fuses := rfl
@[simp] theorem State.upS_chip (q : Nat) (f : Seg → Seg) : (s.upS q f).chip = s.chip := rfl
@[simp] theorem State.upS_lastWritten (q : Nat) (f : Seg → Seg) : (s.upS q f).lastWritten = s.lastWritten := rfl
@[simp] theorem State.upS_imgOp (q : Nat) (f : Seg → Seg) : (s.upS q f).imgOp = s.imgOp := rfl
@[simp] theorem State.upS_txn (q : Nat) (f : Seg → Seg) : (s.upS q f).txn = s.txn := rfl
@[simp] theorem State.upS_mgmt (q : Nat) (f : Seg → Seg) : (s.upS q f).mgmt = s.mgmt := rfl
@[simp] theorem State.upS_winnows (q : Nat) (f : Seg → Seg) : (s.upS q f).winnows = s.winnows := rfl
@[simp] theorem State.upS_windows (q : Nat) (f : Seg → Seg) : (s.upS q f).windows = s.windows := rfl
@[simp] theorem State.upS_tim (q : Nat) (f : Seg → Seg) : (s.upS q f).tim = s.tim := rfl
@[simp] theorem State.upS_snap (q : Nat) (f : Seg → Seg) : (s.upS q f).snap = s.snap := rfl
@[simp] theorem State.upS_tiles (q : Nat) (f : Seg → Seg) : (s.upS q f).tiles = s.tiles := rfl
@[simp] theorem State.upS_power (q : Nat) (f : Seg → Seg) : (s.upS q f).power = s.power := rfl
@[simp] theorem State.upS_evq (q : Nat) (f : Seg → Seg) : (s.upS q f).evq = s.evq := rfl
@[simp] theorem State.upS_staged (q : Nat) (f : Seg → Seg) : (s.upS q f).staged = s.staged := rfl
@[simp] theorem State.upS_now (q : Nat) (f : Seg → Seg) : (s.upS q f).now = s.now := rfl
@[simp] theorem State.upS_count (q : Nat) (f : Seg → Seg) : (s.upS q f).count = s.count := rfl
@[simp] theorem State.upS_replicas (q : Nat) (f : Seg → Seg) : (s.upS q f).replicas = s.replicas := rfl
@[simp] theorem State.upS_elapsed (q : Nat) (f : Seg → Seg) : (s.upS q f).elapsed = s.elapsed := rfl
@[simp] theorem State.upS_outbox (q : Nat) (f : Seg → Seg) : (s.upS q f).outbox = s.outbox := rfl
@[simp] theorem State.upS_freeCtr (q : Nat) (f : Seg → Seg) : (s.upS q f).freeCtr = s.freeCtr := rfl
@[simp] theorem State.upS_pending (q : Nat) (f : Seg → Seg) : (s.upS q f).pending = s.pending := rfl

/-! ### upP -/

@[simp] theorem State.upP_regs (p : Nat) (f : PortX → PortX) : (s.upP p f).regs = s.regs := rfl
@[simp] theorem State.upP_halves (p : Nat) (f : PortX → PortX) : (s.upP p f).halves = s.halves := rfl
@[simp] theorem State.upP_sides (p : Nat) (f : PortX → PortX) : (s.upP p f).sides = s.sides := rfl
@[simp] theorem State.upP_ports (p : Nat) (f : PortX → PortX) : (s.upP p f).ports = s.ports.set p (f (s.portx p)) := rfl
@[simp] theorem State.upP_era (p : Nat) (f : PortX → PortX) : (s.upP p f).era = s.era := rfl
@[simp] theorem State.upP_bct (p : Nat) (f : PortX → PortX) : (s.upP p f).bct = s.bct := rfl
@[simp] theorem State.upP_calTab (p : Nat) (f : PortX → PortX) : (s.upP p f).calTab = s.calTab := rfl
@[simp] theorem State.upP_engines (p : Nat) (f : PortX → PortX) : (s.upP p f).engines = s.engines := rfl
@[simp] theorem State.upP_slices (p : Nat) (f : PortX → PortX) : (s.upP p f).slices = s.slices := rfl
@[simp] theorem State.upP_rings (p : Nat) (f : PortX → PortX) : (s.upP p f).rings = s.rings := rfl
@[simp] theorem State.upP_tags (p : Nat) (f : PortX → PortX) : (s.upP p f).tags = s.tags := rfl
@[simp] theorem State.upP_flash (p : Nat) (f : PortX → PortX) : (s.upP p f).flash = s.flash := rfl
@[simp] theorem State.upP_calStore (p : Nat) (f : PortX → PortX) : (s.upP p f).calStore = s.calStore := rfl
@[simp] theorem State.upP_storeWait (p : Nat) (f : PortX → PortX) : (s.upP p f).storeWait = s.storeWait := rfl
@[simp] theorem State.upP_lastStore (p : Nat) (f : PortX → PortX) : (s.upP p f).lastStore = s.lastStore := rfl
@[simp] theorem State.upP_fuses (p : Nat) (f : PortX → PortX) : (s.upP p f).fuses = s.fuses := rfl
@[simp] theorem State.upP_chip (p : Nat) (f : PortX → PortX) : (s.upP p f).chip = s.chip := rfl
@[simp] theorem State.upP_lastWritten (p : Nat) (f : PortX → PortX) : (s.upP p f).lastWritten = s.lastWritten := rfl
@[simp] theorem State.upP_imgOp (p : Nat) (f : PortX → PortX) : (s.upP p f).imgOp = s.imgOp := rfl
@[simp] theorem State.upP_txn (p : Nat) (f : PortX → PortX) : (s.upP p f).txn = s.txn := rfl
@[simp] theorem State.upP_mgmt (p : Nat) (f : PortX → PortX) : (s.upP p f).mgmt = s.mgmt := rfl
@[simp] theorem State.upP_winnows (p : Nat) (f : PortX → PortX) : (s.upP p f).winnows = s.winnows := rfl
@[simp] theorem State.upP_windows (p : Nat) (f : PortX → PortX) : (s.upP p f).windows = s.windows := rfl
@[simp] theorem State.upP_tim (p : Nat) (f : PortX → PortX) : (s.upP p f).tim = s.tim := rfl
@[simp] theorem State.upP_snap (p : Nat) (f : PortX → PortX) : (s.upP p f).snap = s.snap := rfl
@[simp] theorem State.upP_tiles (p : Nat) (f : PortX → PortX) : (s.upP p f).tiles = s.tiles := rfl
@[simp] theorem State.upP_power (p : Nat) (f : PortX → PortX) : (s.upP p f).power = s.power := rfl
@[simp] theorem State.upP_evq (p : Nat) (f : PortX → PortX) : (s.upP p f).evq = s.evq := rfl
@[simp] theorem State.upP_staged (p : Nat) (f : PortX → PortX) : (s.upP p f).staged = s.staged := rfl
@[simp] theorem State.upP_now (p : Nat) (f : PortX → PortX) : (s.upP p f).now = s.now := rfl
@[simp] theorem State.upP_count (p : Nat) (f : PortX → PortX) : (s.upP p f).count = s.count := rfl
@[simp] theorem State.upP_replicas (p : Nat) (f : PortX → PortX) : (s.upP p f).replicas = s.replicas := rfl
@[simp] theorem State.upP_elapsed (p : Nat) (f : PortX → PortX) : (s.upP p f).elapsed = s.elapsed := rfl
@[simp] theorem State.upP_outbox (p : Nat) (f : PortX → PortX) : (s.upP p f).outbox = s.outbox := rfl
@[simp] theorem State.upP_freeCtr (p : Nat) (f : PortX → PortX) : (s.upP p f).freeCtr = s.freeCtr := rfl
@[simp] theorem State.upP_pending (p : Nat) (f : PortX → PortX) : (s.upP p f).pending = s.pending := rfl

/-! ### upE -/

@[simp] theorem State.upE_regs (k : Nat) (f : Engine → Engine) : (s.upE k f).regs = s.regs := rfl
@[simp] theorem State.upE_halves (k : Nat) (f : Engine → Engine) : (s.upE k f).halves = s.halves := rfl
@[simp] theorem State.upE_sides (k : Nat) (f : Engine → Engine) : (s.upE k f).sides = s.sides := rfl
@[simp] theorem State.upE_ports (k : Nat) (f : Engine → Engine) : (s.upE k f).ports = s.ports := rfl
@[simp] theorem State.upE_era (k : Nat) (f : Engine → Engine) : (s.upE k f).era = s.era := rfl
@[simp] theorem State.upE_bct (k : Nat) (f : Engine → Engine) : (s.upE k f).bct = s.bct := rfl
@[simp] theorem State.upE_calTab (k : Nat) (f : Engine → Engine) : (s.upE k f).calTab = s.calTab := rfl
@[simp] theorem State.upE_engines (k : Nat) (f : Engine → Engine) : (s.upE k f).engines = s.engines.set k (f (s.engine k)) := rfl
@[simp] theorem State.upE_slices (k : Nat) (f : Engine → Engine) : (s.upE k f).slices = s.slices := rfl
@[simp] theorem State.upE_rings (k : Nat) (f : Engine → Engine) : (s.upE k f).rings = s.rings := rfl
@[simp] theorem State.upE_tags (k : Nat) (f : Engine → Engine) : (s.upE k f).tags = s.tags := rfl
@[simp] theorem State.upE_flash (k : Nat) (f : Engine → Engine) : (s.upE k f).flash = s.flash := rfl
@[simp] theorem State.upE_calStore (k : Nat) (f : Engine → Engine) : (s.upE k f).calStore = s.calStore := rfl
@[simp] theorem State.upE_storeWait (k : Nat) (f : Engine → Engine) : (s.upE k f).storeWait = s.storeWait := rfl
@[simp] theorem State.upE_lastStore (k : Nat) (f : Engine → Engine) : (s.upE k f).lastStore = s.lastStore := rfl
@[simp] theorem State.upE_fuses (k : Nat) (f : Engine → Engine) : (s.upE k f).fuses = s.fuses := rfl
@[simp] theorem State.upE_chip (k : Nat) (f : Engine → Engine) : (s.upE k f).chip = s.chip := rfl
@[simp] theorem State.upE_lastWritten (k : Nat) (f : Engine → Engine) : (s.upE k f).lastWritten = s.lastWritten := rfl
@[simp] theorem State.upE_imgOp (k : Nat) (f : Engine → Engine) : (s.upE k f).imgOp = s.imgOp := rfl
@[simp] theorem State.upE_txn (k : Nat) (f : Engine → Engine) : (s.upE k f).txn = s.txn := rfl
@[simp] theorem State.upE_mgmt (k : Nat) (f : Engine → Engine) : (s.upE k f).mgmt = s.mgmt := rfl
@[simp] theorem State.upE_winnows (k : Nat) (f : Engine → Engine) : (s.upE k f).winnows = s.winnows := rfl
@[simp] theorem State.upE_windows (k : Nat) (f : Engine → Engine) : (s.upE k f).windows = s.windows := rfl
@[simp] theorem State.upE_tim (k : Nat) (f : Engine → Engine) : (s.upE k f).tim = s.tim := rfl
@[simp] theorem State.upE_snap (k : Nat) (f : Engine → Engine) : (s.upE k f).snap = s.snap := rfl
@[simp] theorem State.upE_tiles (k : Nat) (f : Engine → Engine) : (s.upE k f).tiles = s.tiles := rfl
@[simp] theorem State.upE_power (k : Nat) (f : Engine → Engine) : (s.upE k f).power = s.power := rfl
@[simp] theorem State.upE_evq (k : Nat) (f : Engine → Engine) : (s.upE k f).evq = s.evq := rfl
@[simp] theorem State.upE_staged (k : Nat) (f : Engine → Engine) : (s.upE k f).staged = s.staged := rfl
@[simp] theorem State.upE_now (k : Nat) (f : Engine → Engine) : (s.upE k f).now = s.now := rfl
@[simp] theorem State.upE_count (k : Nat) (f : Engine → Engine) : (s.upE k f).count = s.count := rfl
@[simp] theorem State.upE_replicas (k : Nat) (f : Engine → Engine) : (s.upE k f).replicas = s.replicas := rfl
@[simp] theorem State.upE_elapsed (k : Nat) (f : Engine → Engine) : (s.upE k f).elapsed = s.elapsed := rfl
@[simp] theorem State.upE_outbox (k : Nat) (f : Engine → Engine) : (s.upE k f).outbox = s.outbox := rfl
@[simp] theorem State.upE_freeCtr (k : Nat) (f : Engine → Engine) : (s.upE k f).freeCtr = s.freeCtr := rfl
@[simp] theorem State.upE_pending (k : Nat) (f : Engine → Engine) : (s.upE k f).pending = s.pending := rfl

/-! ### upSl -/

@[simp] theorem State.upSl_regs (k : Nat) (f : SliceX → SliceX) : (s.upSl k f).regs = s.regs := rfl
@[simp] theorem State.upSl_halves (k : Nat) (f : SliceX → SliceX) : (s.upSl k f).halves = s.halves := rfl
@[simp] theorem State.upSl_sides (k : Nat) (f : SliceX → SliceX) : (s.upSl k f).sides = s.sides := rfl
@[simp] theorem State.upSl_ports (k : Nat) (f : SliceX → SliceX) : (s.upSl k f).ports = s.ports := rfl
@[simp] theorem State.upSl_era (k : Nat) (f : SliceX → SliceX) : (s.upSl k f).era = s.era := rfl
@[simp] theorem State.upSl_bct (k : Nat) (f : SliceX → SliceX) : (s.upSl k f).bct = s.bct := rfl
@[simp] theorem State.upSl_calTab (k : Nat) (f : SliceX → SliceX) : (s.upSl k f).calTab = s.calTab := rfl
@[simp] theorem State.upSl_engines (k : Nat) (f : SliceX → SliceX) : (s.upSl k f).engines = s.engines := rfl
@[simp] theorem State.upSl_slices (k : Nat) (f : SliceX → SliceX) : (s.upSl k f).slices = s.slices.set k (f (s.slicex k)) := rfl
@[simp] theorem State.upSl_rings (k : Nat) (f : SliceX → SliceX) : (s.upSl k f).rings = s.rings := rfl
@[simp] theorem State.upSl_tags (k : Nat) (f : SliceX → SliceX) : (s.upSl k f).tags = s.tags := rfl
@[simp] theorem State.upSl_flash (k : Nat) (f : SliceX → SliceX) : (s.upSl k f).flash = s.flash := rfl
@[simp] theorem State.upSl_calStore (k : Nat) (f : SliceX → SliceX) : (s.upSl k f).calStore = s.calStore := rfl
@[simp] theorem State.upSl_storeWait (k : Nat) (f : SliceX → SliceX) : (s.upSl k f).storeWait = s.storeWait := rfl
@[simp] theorem State.upSl_lastStore (k : Nat) (f : SliceX → SliceX) : (s.upSl k f).lastStore = s.lastStore := rfl
@[simp] theorem State.upSl_fuses (k : Nat) (f : SliceX → SliceX) : (s.upSl k f).fuses = s.fuses := rfl
@[simp] theorem State.upSl_chip (k : Nat) (f : SliceX → SliceX) : (s.upSl k f).chip = s.chip := rfl
@[simp] theorem State.upSl_lastWritten (k : Nat) (f : SliceX → SliceX) : (s.upSl k f).lastWritten = s.lastWritten := rfl
@[simp] theorem State.upSl_imgOp (k : Nat) (f : SliceX → SliceX) : (s.upSl k f).imgOp = s.imgOp := rfl
@[simp] theorem State.upSl_txn (k : Nat) (f : SliceX → SliceX) : (s.upSl k f).txn = s.txn := rfl
@[simp] theorem State.upSl_mgmt (k : Nat) (f : SliceX → SliceX) : (s.upSl k f).mgmt = s.mgmt := rfl
@[simp] theorem State.upSl_winnows (k : Nat) (f : SliceX → SliceX) : (s.upSl k f).winnows = s.winnows := rfl
@[simp] theorem State.upSl_windows (k : Nat) (f : SliceX → SliceX) : (s.upSl k f).windows = s.windows := rfl
@[simp] theorem State.upSl_tim (k : Nat) (f : SliceX → SliceX) : (s.upSl k f).tim = s.tim := rfl
@[simp] theorem State.upSl_snap (k : Nat) (f : SliceX → SliceX) : (s.upSl k f).snap = s.snap := rfl
@[simp] theorem State.upSl_tiles (k : Nat) (f : SliceX → SliceX) : (s.upSl k f).tiles = s.tiles := rfl
@[simp] theorem State.upSl_power (k : Nat) (f : SliceX → SliceX) : (s.upSl k f).power = s.power := rfl
@[simp] theorem State.upSl_evq (k : Nat) (f : SliceX → SliceX) : (s.upSl k f).evq = s.evq := rfl
@[simp] theorem State.upSl_staged (k : Nat) (f : SliceX → SliceX) : (s.upSl k f).staged = s.staged := rfl
@[simp] theorem State.upSl_now (k : Nat) (f : SliceX → SliceX) : (s.upSl k f).now = s.now := rfl
@[simp] theorem State.upSl_count (k : Nat) (f : SliceX → SliceX) : (s.upSl k f).count = s.count := rfl
@[simp] theorem State.upSl_replicas (k : Nat) (f : SliceX → SliceX) : (s.upSl k f).replicas = s.replicas := rfl
@[simp] theorem State.upSl_elapsed (k : Nat) (f : SliceX → SliceX) : (s.upSl k f).elapsed = s.elapsed := rfl
@[simp] theorem State.upSl_outbox (k : Nat) (f : SliceX → SliceX) : (s.upSl k f).outbox = s.outbox := rfl
@[simp] theorem State.upSl_freeCtr (k : Nat) (f : SliceX → SliceX) : (s.upSl k f).freeCtr = s.freeCtr := rfl
@[simp] theorem State.upSl_pending (k : Nat) (f : SliceX → SliceX) : (s.upSl k f).pending = s.pending := rfl

/-! ### upT -/

@[simp] theorem State.upT_regs (i : Nat) (f : Tile → Tile) : (s.upT i f).regs = s.regs := rfl
@[simp] theorem State.upT_halves (i : Nat) (f : Tile → Tile) : (s.upT i f).halves = s.halves := rfl
@[simp] theorem State.upT_sides (i : Nat) (f : Tile → Tile) : (s.upT i f).sides = s.sides := rfl
@[simp] theorem State.upT_ports (i : Nat) (f : Tile → Tile) : (s.upT i f).ports = s.ports := rfl
@[simp] theorem State.upT_era (i : Nat) (f : Tile → Tile) : (s.upT i f).era = s.era := rfl
@[simp] theorem State.upT_bct (i : Nat) (f : Tile → Tile) : (s.upT i f).bct = s.bct := rfl
@[simp] theorem State.upT_calTab (i : Nat) (f : Tile → Tile) : (s.upT i f).calTab = s.calTab := rfl
@[simp] theorem State.upT_engines (i : Nat) (f : Tile → Tile) : (s.upT i f).engines = s.engines := rfl
@[simp] theorem State.upT_slices (i : Nat) (f : Tile → Tile) : (s.upT i f).slices = s.slices := rfl
@[simp] theorem State.upT_rings (i : Nat) (f : Tile → Tile) : (s.upT i f).rings = s.rings := rfl
@[simp] theorem State.upT_tags (i : Nat) (f : Tile → Tile) : (s.upT i f).tags = s.tags := rfl
@[simp] theorem State.upT_flash (i : Nat) (f : Tile → Tile) : (s.upT i f).flash = s.flash := rfl
@[simp] theorem State.upT_calStore (i : Nat) (f : Tile → Tile) : (s.upT i f).calStore = s.calStore := rfl
@[simp] theorem State.upT_storeWait (i : Nat) (f : Tile → Tile) : (s.upT i f).storeWait = s.storeWait := rfl
@[simp] theorem State.upT_lastStore (i : Nat) (f : Tile → Tile) : (s.upT i f).lastStore = s.lastStore := rfl
@[simp] theorem State.upT_fuses (i : Nat) (f : Tile → Tile) : (s.upT i f).fuses = s.fuses := rfl
@[simp] theorem State.upT_chip (i : Nat) (f : Tile → Tile) : (s.upT i f).chip = s.chip := rfl
@[simp] theorem State.upT_lastWritten (i : Nat) (f : Tile → Tile) : (s.upT i f).lastWritten = s.lastWritten := rfl
@[simp] theorem State.upT_imgOp (i : Nat) (f : Tile → Tile) : (s.upT i f).imgOp = s.imgOp := rfl
@[simp] theorem State.upT_txn (i : Nat) (f : Tile → Tile) : (s.upT i f).txn = s.txn := rfl
@[simp] theorem State.upT_mgmt (i : Nat) (f : Tile → Tile) : (s.upT i f).mgmt = s.mgmt := rfl
@[simp] theorem State.upT_winnows (i : Nat) (f : Tile → Tile) : (s.upT i f).winnows = s.winnows := rfl
@[simp] theorem State.upT_windows (i : Nat) (f : Tile → Tile) : (s.upT i f).windows = s.windows := rfl
@[simp] theorem State.upT_tim (i : Nat) (f : Tile → Tile) : (s.upT i f).tim = s.tim := rfl
@[simp] theorem State.upT_snap (i : Nat) (f : Tile → Tile) : (s.upT i f).snap = s.snap := rfl
@[simp] theorem State.upT_tiles (i : Nat) (f : Tile → Tile) : (s.upT i f).tiles = s.tiles.set i (f (s.tile i)) := rfl
@[simp] theorem State.upT_power (i : Nat) (f : Tile → Tile) : (s.upT i f).power = s.power := rfl
@[simp] theorem State.upT_evq (i : Nat) (f : Tile → Tile) : (s.upT i f).evq = s.evq := rfl
@[simp] theorem State.upT_staged (i : Nat) (f : Tile → Tile) : (s.upT i f).staged = s.staged := rfl
@[simp] theorem State.upT_now (i : Nat) (f : Tile → Tile) : (s.upT i f).now = s.now := rfl
@[simp] theorem State.upT_count (i : Nat) (f : Tile → Tile) : (s.upT i f).count = s.count := rfl
@[simp] theorem State.upT_replicas (i : Nat) (f : Tile → Tile) : (s.upT i f).replicas = s.replicas := rfl
@[simp] theorem State.upT_elapsed (i : Nat) (f : Tile → Tile) : (s.upT i f).elapsed = s.elapsed := rfl
@[simp] theorem State.upT_outbox (i : Nat) (f : Tile → Tile) : (s.upT i f).outbox = s.outbox := rfl
@[simp] theorem State.upT_freeCtr (i : Nat) (f : Tile → Tile) : (s.upT i f).freeCtr = s.freeCtr := rfl
@[simp] theorem State.upT_pending (i : Nat) (f : Tile → Tile) : (s.upT i f).pending = s.pending := rfl

/-! ### upR -/

@[simp] theorem State.upR_regs (k i : Nat) (f : RingX → RingX) : (s.upR k i f).regs = s.regs := rfl
@[simp] theorem State.upR_halves (k i : Nat) (f : RingX → RingX) : (s.upR k i f).halves = s.halves := rfl
@[simp] theorem State.upR_sides (k i : Nat) (f : RingX → RingX) : (s.upR k i f).sides = s.sides := rfl
@[simp] theorem State.upR_ports (k i : Nat) (f : RingX → RingX) : (s.upR k i f).ports = s.ports := rfl
@[simp] theorem State.upR_era (k i : Nat) (f : RingX → RingX) : (s.upR k i f).era = s.era := rfl
@[simp] theorem State.upR_bct (k i : Nat) (f : RingX → RingX) : (s.upR k i f).bct = s.bct := rfl
@[simp] theorem State.upR_calTab (k i : Nat) (f : RingX → RingX) : (s.upR k i f).calTab = s.calTab := rfl
@[simp] theorem State.upR_engines (k i : Nat) (f : RingX → RingX) : (s.upR k i f).engines = s.engines := rfl
@[simp] theorem State.upR_slices (k i : Nat) (f : RingX → RingX) : (s.upR k i f).slices = s.slices := rfl
@[simp] theorem State.upR_rings (k i : Nat) (f : RingX → RingX) : (s.upR k i f).rings = s.rings.set (1024 * k + i % 1024) (f (s.ringx k i)) := rfl
@[simp] theorem State.upR_tags (k i : Nat) (f : RingX → RingX) : (s.upR k i f).tags = s.tags := rfl
@[simp] theorem State.upR_flash (k i : Nat) (f : RingX → RingX) : (s.upR k i f).flash = s.flash := rfl
@[simp] theorem State.upR_calStore (k i : Nat) (f : RingX → RingX) : (s.upR k i f).calStore = s.calStore := rfl
@[simp] theorem State.upR_storeWait (k i : Nat) (f : RingX → RingX) : (s.upR k i f).storeWait = s.storeWait := rfl
@[simp] theorem State.upR_lastStore (k i : Nat) (f : RingX → RingX) : (s.upR k i f).lastStore = s.lastStore := rfl
@[simp] theorem State.upR_fuses (k i : Nat) (f : RingX → RingX) : (s.upR k i f).fuses = s.fuses := rfl
@[simp] theorem State.upR_chip (k i : Nat) (f : RingX → RingX) : (s.upR k i f).chip = s.chip := rfl
@[simp] theorem State.upR_lastWritten (k i : Nat) (f : RingX → RingX) : (s.upR k i f).lastWritten = s.lastWritten := rfl
@[simp] theorem State.upR_imgOp (k i : Nat) (f : RingX → RingX) : (s.upR k i f).imgOp = s.imgOp := rfl
@[simp] theorem State.upR_txn (k i : Nat) (f : RingX → RingX) : (s.upR k i f).txn = s.txn := rfl
@[simp] theorem State.upR_mgmt (k i : Nat) (f : RingX → RingX) : (s.upR k i f).mgmt = s.mgmt := rfl
@[simp] theorem State.upR_winnows (k i : Nat) (f : RingX → RingX) : (s.upR k i f).winnows = s.winnows := rfl
@[simp] theorem State.upR_windows (k i : Nat) (f : RingX → RingX) : (s.upR k i f).windows = s.windows := rfl
@[simp] theorem State.upR_tim (k i : Nat) (f : RingX → RingX) : (s.upR k i f).tim = s.tim := rfl
@[simp] theorem State.upR_snap (k i : Nat) (f : RingX → RingX) : (s.upR k i f).snap = s.snap := rfl
@[simp] theorem State.upR_tiles (k i : Nat) (f : RingX → RingX) : (s.upR k i f).tiles = s.tiles := rfl
@[simp] theorem State.upR_power (k i : Nat) (f : RingX → RingX) : (s.upR k i f).power = s.power := rfl
@[simp] theorem State.upR_evq (k i : Nat) (f : RingX → RingX) : (s.upR k i f).evq = s.evq := rfl
@[simp] theorem State.upR_staged (k i : Nat) (f : RingX → RingX) : (s.upR k i f).staged = s.staged := rfl
@[simp] theorem State.upR_now (k i : Nat) (f : RingX → RingX) : (s.upR k i f).now = s.now := rfl
@[simp] theorem State.upR_count (k i : Nat) (f : RingX → RingX) : (s.upR k i f).count = s.count := rfl
@[simp] theorem State.upR_replicas (k i : Nat) (f : RingX → RingX) : (s.upR k i f).replicas = s.replicas := rfl
@[simp] theorem State.upR_elapsed (k i : Nat) (f : RingX → RingX) : (s.upR k i f).elapsed = s.elapsed := rfl
@[simp] theorem State.upR_outbox (k i : Nat) (f : RingX → RingX) : (s.upR k i f).outbox = s.outbox := rfl
@[simp] theorem State.upR_freeCtr (k i : Nat) (f : RingX → RingX) : (s.upR k i f).freeCtr = s.freeCtr := rfl
@[simp] theorem State.upR_pending (k i : Nat) (f : RingX → RingX) : (s.upR k i f).pending = s.pending := rfl

/-! ### upW -/

@[simp] theorem State.upW_regs (p d : Nat) (f : Winnow → Winnow) : (s.upW p d f).regs = s.regs := rfl
@[simp] theorem State.upW_halves (p d : Nat) (f : Winnow → Winnow) : (s.upW p d f).halves = s.halves := rfl
@[simp] theorem State.upW_sides (p d : Nat) (f : Winnow → Winnow) : (s.upW p d f).sides = s.sides := rfl
@[simp] theorem State.upW_ports (p d : Nat) (f : Winnow → Winnow) : (s.upW p d f).ports = s.ports := rfl
@[simp] theorem State.upW_era (p d : Nat) (f : Winnow → Winnow) : (s.upW p d f).era = s.era := rfl
@[simp] theorem State.upW_bct (p d : Nat) (f : Winnow → Winnow) : (s.upW p d f).bct = s.bct := rfl
@[simp] theorem State.upW_calTab (p d : Nat) (f : Winnow → Winnow) : (s.upW p d f).calTab = s.calTab := rfl
@[simp] theorem State.upW_engines (p d : Nat) (f : Winnow → Winnow) : (s.upW p d f).engines = s.engines := rfl
@[simp] theorem State.upW_slices (p d : Nat) (f : Winnow → Winnow) : (s.upW p d f).slices = s.slices := rfl
@[simp] theorem State.upW_rings (p d : Nat) (f : Winnow → Winnow) : (s.upW p d f).rings = s.rings := rfl
@[simp] theorem State.upW_tags (p d : Nat) (f : Winnow → Winnow) : (s.upW p d f).tags = s.tags := rfl
@[simp] theorem State.upW_flash (p d : Nat) (f : Winnow → Winnow) : (s.upW p d f).flash = s.flash := rfl
@[simp] theorem State.upW_calStore (p d : Nat) (f : Winnow → Winnow) : (s.upW p d f).calStore = s.calStore := rfl
@[simp] theorem State.upW_storeWait (p d : Nat) (f : Winnow → Winnow) : (s.upW p d f).storeWait = s.storeWait := rfl
@[simp] theorem State.upW_lastStore (p d : Nat) (f : Winnow → Winnow) : (s.upW p d f).lastStore = s.lastStore := rfl
@[simp] theorem State.upW_fuses (p d : Nat) (f : Winnow → Winnow) : (s.upW p d f).fuses = s.fuses := rfl
@[simp] theorem State.upW_chip (p d : Nat) (f : Winnow → Winnow) : (s.upW p d f).chip = s.chip := rfl
@[simp] theorem State.upW_lastWritten (p d : Nat) (f : Winnow → Winnow) : (s.upW p d f).lastWritten = s.lastWritten := rfl
@[simp] theorem State.upW_imgOp (p d : Nat) (f : Winnow → Winnow) : (s.upW p d f).imgOp = s.imgOp := rfl
@[simp] theorem State.upW_txn (p d : Nat) (f : Winnow → Winnow) : (s.upW p d f).txn = s.txn := rfl
@[simp] theorem State.upW_mgmt (p d : Nat) (f : Winnow → Winnow) : (s.upW p d f).mgmt = s.mgmt := rfl
@[simp] theorem State.upW_winnows (p d : Nat) (f : Winnow → Winnow) : (s.upW p d f).winnows = s.winnows.set (2 * p + d % 2) (f (s.winnow p d)) := rfl
@[simp] theorem State.upW_windows (p d : Nat) (f : Winnow → Winnow) : (s.upW p d f).windows = s.windows := rfl
@[simp] theorem State.upW_tim (p d : Nat) (f : Winnow → Winnow) : (s.upW p d f).tim = s.tim := rfl
@[simp] theorem State.upW_snap (p d : Nat) (f : Winnow → Winnow) : (s.upW p d f).snap = s.snap := rfl
@[simp] theorem State.upW_tiles (p d : Nat) (f : Winnow → Winnow) : (s.upW p d f).tiles = s.tiles := rfl
@[simp] theorem State.upW_power (p d : Nat) (f : Winnow → Winnow) : (s.upW p d f).power = s.power := rfl
@[simp] theorem State.upW_evq (p d : Nat) (f : Winnow → Winnow) : (s.upW p d f).evq = s.evq := rfl
@[simp] theorem State.upW_staged (p d : Nat) (f : Winnow → Winnow) : (s.upW p d f).staged = s.staged := rfl
@[simp] theorem State.upW_now (p d : Nat) (f : Winnow → Winnow) : (s.upW p d f).now = s.now := rfl
@[simp] theorem State.upW_count (p d : Nat) (f : Winnow → Winnow) : (s.upW p d f).count = s.count := rfl
@[simp] theorem State.upW_replicas (p d : Nat) (f : Winnow → Winnow) : (s.upW p d f).replicas = s.replicas := rfl
@[simp] theorem State.upW_elapsed (p d : Nat) (f : Winnow → Winnow) : (s.upW p d f).elapsed = s.elapsed := rfl
@[simp] theorem State.upW_outbox (p d : Nat) (f : Winnow → Winnow) : (s.upW p d f).outbox = s.outbox := rfl
@[simp] theorem State.upW_freeCtr (p d : Nat) (f : Winnow → Winnow) : (s.upW p d f).freeCtr = s.freeCtr := rfl
@[simp] theorem State.upW_pending (p d : Nat) (f : Winnow → Winnow) : (s.upW p d f).pending = s.pending := rfl

/-! ### upWin -/

@[simp] theorem State.upWin_regs (k w : Nat) (f : Window → Window) : (s.upWin k w f).regs = s.regs := rfl
@[simp] theorem State.upWin_halves (k w : Nat) (f : Window → Window) : (s.upWin k w f).halves = s.halves := rfl
@[simp] theorem State.upWin_sides (k w : Nat) (f : Window → Window) : (s.upWin k w f).sides = s.sides := rfl
@[simp] theorem State.upWin_ports (k w : Nat) (f : Window → Window) : (s.upWin k w f).ports = s.ports := rfl
@[simp] theorem State.upWin_era (k w : Nat) (f : Window → Window) : (s.upWin k w f).era = s.era := rfl
@[simp] theorem State.upWin_bct (k w : Nat) (f : Window → Window) : (s.upWin k w f).bct = s.bct := rfl
@[simp] theorem State.upWin_calTab (k w : Nat) (f : Window → Window) : (s.upWin k w f).calTab = s.calTab := rfl
@[simp] theorem State.upWin_engines (k w : Nat) (f : Window → Window) : (s.upWin k w f).engines = s.engines := rfl
@[simp] theorem State.upWin_slices (k w : Nat) (f : Window → Window) : (s.upWin k w f).slices = s.slices := rfl
@[simp] theorem State.upWin_rings (k w : Nat) (f : Window → Window) : (s.upWin k w f).rings = s.rings := rfl
@[simp] theorem State.upWin_tags (k w : Nat) (f : Window → Window) : (s.upWin k w f).tags = s.tags := rfl
@[simp] theorem State.upWin_flash (k w : Nat) (f : Window → Window) : (s.upWin k w f).flash = s.flash := rfl
@[simp] theorem State.upWin_calStore (k w : Nat) (f : Window → Window) : (s.upWin k w f).calStore = s.calStore := rfl
@[simp] theorem State.upWin_storeWait (k w : Nat) (f : Window → Window) : (s.upWin k w f).storeWait = s.storeWait := rfl
@[simp] theorem State.upWin_lastStore (k w : Nat) (f : Window → Window) : (s.upWin k w f).lastStore = s.lastStore := rfl
@[simp] theorem State.upWin_fuses (k w : Nat) (f : Window → Window) : (s.upWin k w f).fuses = s.fuses := rfl
@[simp] theorem State.upWin_chip (k w : Nat) (f : Window → Window) : (s.upWin k w f).chip = s.chip := rfl
@[simp] theorem State.upWin_lastWritten (k w : Nat) (f : Window → Window) : (s.upWin k w f).lastWritten = s.lastWritten := rfl
@[simp] theorem State.upWin_imgOp (k w : Nat) (f : Window → Window) : (s.upWin k w f).imgOp = s.imgOp := rfl
@[simp] theorem State.upWin_txn (k w : Nat) (f : Window → Window) : (s.upWin k w f).txn = s.txn := rfl
@[simp] theorem State.upWin_mgmt (k w : Nat) (f : Window → Window) : (s.upWin k w f).mgmt = s.mgmt := rfl
@[simp] theorem State.upWin_winnows (k w : Nat) (f : Window → Window) : (s.upWin k w f).winnows = s.winnows := rfl
@[simp] theorem State.upWin_windows (k w : Nat) (f : Window → Window) : (s.upWin k w f).windows = s.windows.set (16 * k + w % 16) (f (s.window k w)) := rfl
@[simp] theorem State.upWin_tim (k w : Nat) (f : Window → Window) : (s.upWin k w f).tim = s.tim := rfl
@[simp] theorem State.upWin_snap (k w : Nat) (f : Window → Window) : (s.upWin k w f).snap = s.snap := rfl
@[simp] theorem State.upWin_tiles (k w : Nat) (f : Window → Window) : (s.upWin k w f).tiles = s.tiles := rfl
@[simp] theorem State.upWin_power (k w : Nat) (f : Window → Window) : (s.upWin k w f).power = s.power := rfl
@[simp] theorem State.upWin_evq (k w : Nat) (f : Window → Window) : (s.upWin k w f).evq = s.evq := rfl
@[simp] theorem State.upWin_staged (k w : Nat) (f : Window → Window) : (s.upWin k w f).staged = s.staged := rfl
@[simp] theorem State.upWin_now (k w : Nat) (f : Window → Window) : (s.upWin k w f).now = s.now := rfl
@[simp] theorem State.upWin_count (k w : Nat) (f : Window → Window) : (s.upWin k w f).count = s.count := rfl
@[simp] theorem State.upWin_replicas (k w : Nat) (f : Window → Window) : (s.upWin k w f).replicas = s.replicas := rfl
@[simp] theorem State.upWin_elapsed (k w : Nat) (f : Window → Window) : (s.upWin k w f).elapsed = s.elapsed := rfl
@[simp] theorem State.upWin_outbox (k w : Nat) (f : Window → Window) : (s.upWin k w f).outbox = s.outbox := rfl
@[simp] theorem State.upWin_freeCtr (k w : Nat) (f : Window → Window) : (s.upWin k w f).freeCtr = s.freeCtr := rfl
@[simp] theorem State.upWin_pending (k w : Nat) (f : Window → Window) : (s.upWin k w f).pending = s.pending := rfl

/-! ### upM -/

@[simp] theorem State.upM_regs (f : Mgmt → Mgmt) : (s.upM f).regs = s.regs := rfl
@[simp] theorem State.upM_halves (f : Mgmt → Mgmt) : (s.upM f).halves = s.halves := rfl
@[simp] theorem State.upM_sides (f : Mgmt → Mgmt) : (s.upM f).sides = s.sides := rfl
@[simp] theorem State.upM_ports (f : Mgmt → Mgmt) : (s.upM f).ports = s.ports := rfl
@[simp] theorem State.upM_era (f : Mgmt → Mgmt) : (s.upM f).era = s.era := rfl
@[simp] theorem State.upM_bct (f : Mgmt → Mgmt) : (s.upM f).bct = s.bct := rfl
@[simp] theorem State.upM_calTab (f : Mgmt → Mgmt) : (s.upM f).calTab = s.calTab := rfl
@[simp] theorem State.upM_engines (f : Mgmt → Mgmt) : (s.upM f).engines = s.engines := rfl
@[simp] theorem State.upM_slices (f : Mgmt → Mgmt) : (s.upM f).slices = s.slices := rfl
@[simp] theorem State.upM_rings (f : Mgmt → Mgmt) : (s.upM f).rings = s.rings := rfl
@[simp] theorem State.upM_tags (f : Mgmt → Mgmt) : (s.upM f).tags = s.tags := rfl
@[simp] theorem State.upM_flash (f : Mgmt → Mgmt) : (s.upM f).flash = s.flash := rfl
@[simp] theorem State.upM_calStore (f : Mgmt → Mgmt) : (s.upM f).calStore = s.calStore := rfl
@[simp] theorem State.upM_storeWait (f : Mgmt → Mgmt) : (s.upM f).storeWait = s.storeWait := rfl
@[simp] theorem State.upM_lastStore (f : Mgmt → Mgmt) : (s.upM f).lastStore = s.lastStore := rfl
@[simp] theorem State.upM_fuses (f : Mgmt → Mgmt) : (s.upM f).fuses = s.fuses := rfl
@[simp] theorem State.upM_chip (f : Mgmt → Mgmt) : (s.upM f).chip = s.chip := rfl
@[simp] theorem State.upM_lastWritten (f : Mgmt → Mgmt) : (s.upM f).lastWritten = s.lastWritten := rfl
@[simp] theorem State.upM_imgOp (f : Mgmt → Mgmt) : (s.upM f).imgOp = s.imgOp := rfl
@[simp] theorem State.upM_txn (f : Mgmt → Mgmt) : (s.upM f).txn = s.txn := rfl
@[simp] theorem State.upM_mgmt (f : Mgmt → Mgmt) : (s.upM f).mgmt = f s.mgmt := rfl
@[simp] theorem State.upM_winnows (f : Mgmt → Mgmt) : (s.upM f).winnows = s.winnows := rfl
@[simp] theorem State.upM_windows (f : Mgmt → Mgmt) : (s.upM f).windows = s.windows := rfl
@[simp] theorem State.upM_tim (f : Mgmt → Mgmt) : (s.upM f).tim = s.tim := rfl
@[simp] theorem State.upM_snap (f : Mgmt → Mgmt) : (s.upM f).snap = s.snap := rfl
@[simp] theorem State.upM_tiles (f : Mgmt → Mgmt) : (s.upM f).tiles = s.tiles := rfl
@[simp] theorem State.upM_power (f : Mgmt → Mgmt) : (s.upM f).power = s.power := rfl
@[simp] theorem State.upM_evq (f : Mgmt → Mgmt) : (s.upM f).evq = s.evq := rfl
@[simp] theorem State.upM_staged (f : Mgmt → Mgmt) : (s.upM f).staged = s.staged := rfl
@[simp] theorem State.upM_now (f : Mgmt → Mgmt) : (s.upM f).now = s.now := rfl
@[simp] theorem State.upM_count (f : Mgmt → Mgmt) : (s.upM f).count = s.count := rfl
@[simp] theorem State.upM_replicas (f : Mgmt → Mgmt) : (s.upM f).replicas = s.replicas := rfl
@[simp] theorem State.upM_elapsed (f : Mgmt → Mgmt) : (s.upM f).elapsed = s.elapsed := rfl
@[simp] theorem State.upM_outbox (f : Mgmt → Mgmt) : (s.upM f).outbox = s.outbox := rfl
@[simp] theorem State.upM_freeCtr (f : Mgmt → Mgmt) : (s.upM f).freeCtr = s.freeCtr := rfl
@[simp] theorem State.upM_pending (f : Mgmt → Mgmt) : (s.upM f).pending = s.pending := rfl

/-! ### upPw -/

@[simp] theorem State.upPw_regs (f : Power → Power) : (s.upPw f).regs = s.regs := rfl
@[simp] theorem State.upPw_halves (f : Power → Power) : (s.upPw f).halves = s.halves := rfl
@[simp] theorem State.upPw_sides (f : Power → Power) : (s.upPw f).sides = s.sides := rfl
@[simp] theorem State.upPw_ports (f : Power → Power) : (s.upPw f).ports = s.ports := rfl
@[simp] theorem State.upPw_era (f : Power → Power) : (s.upPw f).era = s.era := rfl
@[simp] theorem State.upPw_bct (f : Power → Power) : (s.upPw f).bct = s.bct := rfl
@[simp] theorem State.upPw_calTab (f : Power → Power) : (s.upPw f).calTab = s.calTab := rfl
@[simp] theorem State.upPw_engines (f : Power → Power) : (s.upPw f).engines = s.engines := rfl
@[simp] theorem State.upPw_slices (f : Power → Power) : (s.upPw f).slices = s.slices := rfl
@[simp] theorem State.upPw_rings (f : Power → Power) : (s.upPw f).rings = s.rings := rfl
@[simp] theorem State.upPw_tags (f : Power → Power) : (s.upPw f).tags = s.tags := rfl
@[simp] theorem State.upPw_flash (f : Power → Power) : (s.upPw f).flash = s.flash := rfl
@[simp] theorem State.upPw_calStore (f : Power → Power) : (s.upPw f).calStore = s.calStore := rfl
@[simp] theorem State.upPw_storeWait (f : Power → Power) : (s.upPw f).storeWait = s.storeWait := rfl
@[simp] theorem State.upPw_lastStore (f : Power → Power) : (s.upPw f).lastStore = s.lastStore := rfl
@[simp] theorem State.upPw_fuses (f : Power → Power) : (s.upPw f).fuses = s.fuses := rfl
@[simp] theorem State.upPw_chip (f : Power → Power) : (s.upPw f).chip = s.chip := rfl
@[simp] theorem State.upPw_lastWritten (f : Power → Power) : (s.upPw f).lastWritten = s.lastWritten := rfl
@[simp] theorem State.upPw_imgOp (f : Power → Power) : (s.upPw f).imgOp = s.imgOp := rfl
@[simp] theorem State.upPw_txn (f : Power → Power) : (s.upPw f).txn = s.txn := rfl
@[simp] theorem State.upPw_mgmt (f : Power → Power) : (s.upPw f).mgmt = s.mgmt := rfl
@[simp] theorem State.upPw_winnows (f : Power → Power) : (s.upPw f).winnows = s.winnows := rfl
@[simp] theorem State.upPw_windows (f : Power → Power) : (s.upPw f).windows = s.windows := rfl
@[simp] theorem State.upPw_tim (f : Power → Power) : (s.upPw f).tim = s.tim := rfl
@[simp] theorem State.upPw_snap (f : Power → Power) : (s.upPw f).snap = s.snap := rfl
@[simp] theorem State.upPw_tiles (f : Power → Power) : (s.upPw f).tiles = s.tiles := rfl
@[simp] theorem State.upPw_power (f : Power → Power) : (s.upPw f).power = f s.power := rfl
@[simp] theorem State.upPw_evq (f : Power → Power) : (s.upPw f).evq = s.evq := rfl
@[simp] theorem State.upPw_staged (f : Power → Power) : (s.upPw f).staged = s.staged := rfl
@[simp] theorem State.upPw_now (f : Power → Power) : (s.upPw f).now = s.now := rfl
@[simp] theorem State.upPw_count (f : Power → Power) : (s.upPw f).count = s.count := rfl
@[simp] theorem State.upPw_replicas (f : Power → Power) : (s.upPw f).replicas = s.replicas := rfl
@[simp] theorem State.upPw_elapsed (f : Power → Power) : (s.upPw f).elapsed = s.elapsed := rfl
@[simp] theorem State.upPw_outbox (f : Power → Power) : (s.upPw f).outbox = s.outbox := rfl
@[simp] theorem State.upPw_freeCtr (f : Power → Power) : (s.upPw f).freeCtr = s.freeCtr := rfl
@[simp] theorem State.upPw_pending (f : Power → Power) : (s.upPw f).pending = s.pending := rfl

/-! ### upTim -/

@[simp] theorem State.upTim_regs (f : Tim → Tim) : (s.upTim f).regs = s.regs := rfl
@[simp] theorem State.upTim_halves (f : Tim → Tim) : (s.upTim f).halves = s.halves := rfl
@[simp] theorem State.upTim_sides (f : Tim → Tim) : (s.upTim f).sides = s.sides := rfl
@[simp] theorem State.upTim_ports (f : Tim → Tim) : (s.upTim f).ports = s.ports := rfl
@[simp] theorem State.upTim_era (f : Tim → Tim) : (s.upTim f).era = s.era := rfl
@[simp] theorem State.upTim_bct (f : Tim → Tim) : (s.upTim f).bct = s.bct := rfl
@[simp] theorem State.upTim_calTab (f : Tim → Tim) : (s.upTim f).calTab = s.calTab := rfl
@[simp] theorem State.upTim_engines (f : Tim → Tim) : (s.upTim f).engines = s.engines := rfl
@[simp] theorem State.upTim_slices (f : Tim → Tim) : (s.upTim f).slices = s.slices := rfl
@[simp] theorem State.upTim_rings (f : Tim → Tim) : (s.upTim f).rings = s.rings := rfl
@[simp] theorem State.upTim_tags (f : Tim → Tim) : (s.upTim f).tags = s.tags := rfl
@[simp] theorem State.upTim_flash (f : Tim → Tim) : (s.upTim f).flash = s.flash := rfl
@[simp] theorem State.upTim_calStore (f : Tim → Tim) : (s.upTim f).calStore = s.calStore := rfl
@[simp] theorem State.upTim_storeWait (f : Tim → Tim) : (s.upTim f).storeWait = s.storeWait := rfl
@[simp] theorem State.upTim_lastStore (f : Tim → Tim) : (s.upTim f).lastStore = s.lastStore := rfl
@[simp] theorem State.upTim_fuses (f : Tim → Tim) : (s.upTim f).fuses = s.fuses := rfl
@[simp] theorem State.upTim_chip (f : Tim → Tim) : (s.upTim f).chip = s.chip := rfl
@[simp] theorem State.upTim_lastWritten (f : Tim → Tim) : (s.upTim f).lastWritten = s.lastWritten := rfl
@[simp] theorem State.upTim_imgOp (f : Tim → Tim) : (s.upTim f).imgOp = s.imgOp := rfl
@[simp] theorem State.upTim_txn (f : Tim → Tim) : (s.upTim f).txn = s.txn := rfl
@[simp] theorem State.upTim_mgmt (f : Tim → Tim) : (s.upTim f).mgmt = s.mgmt := rfl
@[simp] theorem State.upTim_winnows (f : Tim → Tim) : (s.upTim f).winnows = s.winnows := rfl
@[simp] theorem State.upTim_windows (f : Tim → Tim) : (s.upTim f).windows = s.windows := rfl
@[simp] theorem State.upTim_tim (f : Tim → Tim) : (s.upTim f).tim = f s.tim := rfl
@[simp] theorem State.upTim_snap (f : Tim → Tim) : (s.upTim f).snap = s.snap := rfl
@[simp] theorem State.upTim_tiles (f : Tim → Tim) : (s.upTim f).tiles = s.tiles := rfl
@[simp] theorem State.upTim_power (f : Tim → Tim) : (s.upTim f).power = s.power := rfl
@[simp] theorem State.upTim_evq (f : Tim → Tim) : (s.upTim f).evq = s.evq := rfl
@[simp] theorem State.upTim_staged (f : Tim → Tim) : (s.upTim f).staged = s.staged := rfl
@[simp] theorem State.upTim_now (f : Tim → Tim) : (s.upTim f).now = s.now := rfl
@[simp] theorem State.upTim_count (f : Tim → Tim) : (s.upTim f).count = s.count := rfl
@[simp] theorem State.upTim_replicas (f : Tim → Tim) : (s.upTim f).replicas = s.replicas := rfl
@[simp] theorem State.upTim_elapsed (f : Tim → Tim) : (s.upTim f).elapsed = s.elapsed := rfl
@[simp] theorem State.upTim_outbox (f : Tim → Tim) : (s.upTim f).outbox = s.outbox := rfl
@[simp] theorem State.upTim_freeCtr (f : Tim → Tim) : (s.upTim f).freeCtr = s.freeCtr := rfl
@[simp] theorem State.upTim_pending (f : Tim → Tim) : (s.upTim f).pending = s.pending := rfl

/-! ### upX -/

@[simp] theorem State.upX_regs (f : Txn → Txn) : (s.upX f).regs = s.regs := rfl
@[simp] theorem State.upX_halves (f : Txn → Txn) : (s.upX f).halves = s.halves := rfl
@[simp] theorem State.upX_sides (f : Txn → Txn) : (s.upX f).sides = s.sides := rfl
@[simp] theorem State.upX_ports (f : Txn → Txn) : (s.upX f).ports = s.ports := rfl
@[simp] theorem State.upX_era (f : Txn → Txn) : (s.upX f).era = s.era := rfl
@[simp] theorem State.upX_bct (f : Txn → Txn) : (s.upX f).bct = s.bct := rfl
@[simp] theorem State.upX_calTab (f : Txn → Txn) : (s.upX f).calTab = s.calTab := rfl
@[simp] theorem State.upX_engines (f : Txn → Txn) : (s.upX f).engines = s.engines := rfl
@[simp] theorem State.upX_slices (f : Txn → Txn) : (s.upX f).slices = s.slices := rfl
@[simp] theorem State.upX_rings (f : Txn → Txn) : (s.upX f).rings = s.rings := rfl
@[simp] theorem State.upX_tags (f : Txn → Txn) : (s.upX f).tags = s.tags := rfl
@[simp] theorem State.upX_flash (f : Txn → Txn) : (s.upX f).flash = s.flash := rfl
@[simp] theorem State.upX_calStore (f : Txn → Txn) : (s.upX f).calStore = s.calStore := rfl
@[simp] theorem State.upX_storeWait (f : Txn → Txn) : (s.upX f).storeWait = s.storeWait := rfl
@[simp] theorem State.upX_lastStore (f : Txn → Txn) : (s.upX f).lastStore = s.lastStore := rfl
@[simp] theorem State.upX_fuses (f : Txn → Txn) : (s.upX f).fuses = s.fuses := rfl
@[simp] theorem State.upX_chip (f : Txn → Txn) : (s.upX f).chip = s.chip := rfl
@[simp] theorem State.upX_lastWritten (f : Txn → Txn) : (s.upX f).lastWritten = s.lastWritten := rfl
@[simp] theorem State.upX_imgOp (f : Txn → Txn) : (s.upX f).imgOp = s.imgOp := rfl
@[simp] theorem State.upX_txn (f : Txn → Txn) : (s.upX f).txn = f s.txn := rfl
@[simp] theorem State.upX_mgmt (f : Txn → Txn) : (s.upX f).mgmt = s.mgmt := rfl
@[simp] theorem State.upX_winnows (f : Txn → Txn) : (s.upX f).winnows = s.winnows := rfl
@[simp] theorem State.upX_windows (f : Txn → Txn) : (s.upX f).windows = s.windows := rfl
@[simp] theorem State.upX_tim (f : Txn → Txn) : (s.upX f).tim = s.tim := rfl
@[simp] theorem State.upX_snap (f : Txn → Txn) : (s.upX f).snap = s.snap := rfl
@[simp] theorem State.upX_tiles (f : Txn → Txn) : (s.upX f).tiles = s.tiles := rfl
@[simp] theorem State.upX_power (f : Txn → Txn) : (s.upX f).power = s.power := rfl
@[simp] theorem State.upX_evq (f : Txn → Txn) : (s.upX f).evq = s.evq := rfl
@[simp] theorem State.upX_staged (f : Txn → Txn) : (s.upX f).staged = s.staged := rfl
@[simp] theorem State.upX_now (f : Txn → Txn) : (s.upX f).now = s.now := rfl
@[simp] theorem State.upX_count (f : Txn → Txn) : (s.upX f).count = s.count := rfl
@[simp] theorem State.upX_replicas (f : Txn → Txn) : (s.upX f).replicas = s.replicas := rfl
@[simp] theorem State.upX_elapsed (f : Txn → Txn) : (s.upX f).elapsed = s.elapsed := rfl
@[simp] theorem State.upX_outbox (f : Txn → Txn) : (s.upX f).outbox = s.outbox := rfl
@[simp] theorem State.upX_freeCtr (f : Txn → Txn) : (s.upX f).freeCtr = s.freeCtr := rfl
@[simp] theorem State.upX_pending (f : Txn → Txn) : (s.upX f).pending = s.pending := rfl

/-! ### emit -/

@[simp] theorem State.emit_regs (o : Out) : (s.emit o).regs = s.regs := rfl
@[simp] theorem State.emit_halves (o : Out) : (s.emit o).halves = s.halves := rfl
@[simp] theorem State.emit_sides (o : Out) : (s.emit o).sides = s.sides := rfl
@[simp] theorem State.emit_ports (o : Out) : (s.emit o).ports = s.ports := rfl
@[simp] theorem State.emit_era (o : Out) : (s.emit o).era = s.era := rfl
@[simp] theorem State.emit_bct (o : Out) : (s.emit o).bct = s.bct := rfl
@[simp] theorem State.emit_calTab (o : Out) : (s.emit o).calTab = s.calTab := rfl
@[simp] theorem State.emit_engines (o : Out) : (s.emit o).engines = s.engines := rfl
@[simp] theorem State.emit_slices (o : Out) : (s.emit o).slices = s.slices := rfl
@[simp] theorem State.emit_rings (o : Out) : (s.emit o).rings = s.rings := rfl
@[simp] theorem State.emit_tags (o : Out) : (s.emit o).tags = s.tags := rfl
@[simp] theorem State.emit_flash (o : Out) : (s.emit o).flash = s.flash := rfl
@[simp] theorem State.emit_calStore (o : Out) : (s.emit o).calStore = s.calStore := rfl
@[simp] theorem State.emit_storeWait (o : Out) : (s.emit o).storeWait = s.storeWait := rfl
@[simp] theorem State.emit_lastStore (o : Out) : (s.emit o).lastStore = s.lastStore := rfl
@[simp] theorem State.emit_fuses (o : Out) : (s.emit o).fuses = s.fuses := rfl
@[simp] theorem State.emit_chip (o : Out) : (s.emit o).chip = s.chip := rfl
@[simp] theorem State.emit_lastWritten (o : Out) : (s.emit o).lastWritten = s.lastWritten := rfl
@[simp] theorem State.emit_imgOp (o : Out) : (s.emit o).imgOp = s.imgOp := rfl
@[simp] theorem State.emit_txn (o : Out) : (s.emit o).txn = s.txn := rfl
@[simp] theorem State.emit_mgmt (o : Out) : (s.emit o).mgmt = s.mgmt := rfl
@[simp] theorem State.emit_winnows (o : Out) : (s.emit o).winnows = s.winnows := rfl
@[simp] theorem State.emit_windows (o : Out) : (s.emit o).windows = s.windows := rfl
@[simp] theorem State.emit_tim (o : Out) : (s.emit o).tim = s.tim := rfl
@[simp] theorem State.emit_snap (o : Out) : (s.emit o).snap = s.snap := rfl
@[simp] theorem State.emit_tiles (o : Out) : (s.emit o).tiles = s.tiles := rfl
@[simp] theorem State.emit_power (o : Out) : (s.emit o).power = s.power := rfl
@[simp] theorem State.emit_evq (o : Out) : (s.emit o).evq = s.evq := rfl
@[simp] theorem State.emit_staged (o : Out) : (s.emit o).staged = s.staged := rfl
@[simp] theorem State.emit_now (o : Out) : (s.emit o).now = s.now := rfl
@[simp] theorem State.emit_count (o : Out) : (s.emit o).count = s.count := rfl
@[simp] theorem State.emit_replicas (o : Out) : (s.emit o).replicas = s.replicas := rfl
@[simp] theorem State.emit_elapsed (o : Out) : (s.emit o).elapsed = s.elapsed := rfl
@[simp] theorem State.emit_outbox (o : Out) : (s.emit o).outbox = o :: s.outbox := rfl
@[simp] theorem State.emit_freeCtr (o : Out) : (s.emit o).freeCtr = s.freeCtr := rfl
@[simp] theorem State.emit_pending (o : Out) : (s.emit o).pending = s.pending := rfl

/-! ### setTime -/

@[simp] theorem State.setTime_regs (v c : Nat) : (s.setTime v c).regs = s.regs := rfl
@[simp] theorem State.setTime_halves (v c : Nat) : (s.setTime v c).halves = s.halves := rfl
@[simp] theorem State.setTime_sides (v c : Nat) : (s.setTime v c).sides = s.sides := rfl
@[simp] theorem State.setTime_ports (v c : Nat) : (s.setTime v c).ports = s.ports := rfl
@[simp] theorem State.setTime_era (v c : Nat) : (s.setTime v c).era = s.era := rfl
@[simp] theorem State.setTime_bct (v c : Nat) : (s.setTime v c).bct = s.bct := rfl
@[simp] theorem State.setTime_calTab (v c : Nat) : (s.setTime v c).calTab = s.calTab := rfl
@[simp] theorem State.setTime_engines (v c : Nat) : (s.setTime v c).engines = s.engines := rfl
@[simp] theorem State.setTime_slices (v c : Nat) : (s.setTime v c).slices = s.slices := rfl
@[simp] theorem State.setTime_rings (v c : Nat) : (s.setTime v c).rings = s.rings := rfl
@[simp] theorem State.setTime_tags (v c : Nat) : (s.setTime v c).tags = s.tags := rfl
@[simp] theorem State.setTime_flash (v c : Nat) : (s.setTime v c).flash = s.flash := rfl
@[simp] theorem State.setTime_calStore (v c : Nat) : (s.setTime v c).calStore = s.calStore := rfl
@[simp] theorem State.setTime_storeWait (v c : Nat) : (s.setTime v c).storeWait = s.storeWait := rfl
@[simp] theorem State.setTime_lastStore (v c : Nat) : (s.setTime v c).lastStore = s.lastStore := rfl
@[simp] theorem State.setTime_fuses (v c : Nat) : (s.setTime v c).fuses = s.fuses := rfl
@[simp] theorem State.setTime_chip (v c : Nat) : (s.setTime v c).chip = s.chip := rfl
@[simp] theorem State.setTime_lastWritten (v c : Nat) : (s.setTime v c).lastWritten = s.lastWritten := rfl
@[simp] theorem State.setTime_imgOp (v c : Nat) : (s.setTime v c).imgOp = s.imgOp := rfl
@[simp] theorem State.setTime_txn (v c : Nat) : (s.setTime v c).txn = s.txn := rfl
@[simp] theorem State.setTime_mgmt (v c : Nat) : (s.setTime v c).mgmt = s.mgmt := rfl
@[simp] theorem State.setTime_winnows (v c : Nat) : (s.setTime v c).winnows = s.winnows := rfl
@[simp] theorem State.setTime_windows (v c : Nat) : (s.setTime v c).windows = s.windows := rfl
@[simp] theorem State.setTime_tim (v c : Nat) : (s.setTime v c).tim = s.tim := rfl
@[simp] theorem State.setTime_snap (v c : Nat) : (s.setTime v c).snap = s.snap := rfl
@[simp] theorem State.setTime_tiles (v c : Nat) : (s.setTime v c).tiles = s.tiles := rfl
@[simp] theorem State.setTime_power (v c : Nat) : (s.setTime v c).power = s.power := rfl
@[simp] theorem State.setTime_evq (v c : Nat) : (s.setTime v c).evq = s.evq := rfl
@[simp] theorem State.setTime_staged (v c : Nat) : (s.setTime v c).staged = s.staged := rfl
@[simp] theorem State.setTime_now (v c : Nat) : (s.setTime v c).now = v % timeSpan := rfl
@[simp] theorem State.setTime_count (v c : Nat) : (s.setTime v c).count = c % timeSpan := rfl
@[simp] theorem State.setTime_replicas (v c : Nat) : (s.setTime v c).replicas = s.replicas := rfl
@[simp] theorem State.setTime_elapsed (v c : Nat) : (s.setTime v c).elapsed = s.elapsed := rfl
@[simp] theorem State.setTime_outbox (v c : Nat) : (s.setTime v c).outbox = s.outbox := rfl
@[simp] theorem State.setTime_freeCtr (v c : Nat) : (s.setTime v c).freeCtr = s.freeCtr := rfl
@[simp] theorem State.setTime_pending (v c : Nat) : (s.setTime v c).pending = s.pending := rfl

/-! ### setNow -/

@[simp] theorem State.setNow_regs (v : Nat) : (s.setNow v).regs = s.regs := rfl
@[simp] theorem State.setNow_halves (v : Nat) : (s.setNow v).halves = s.halves := rfl
@[simp] theorem State.setNow_sides (v : Nat) : (s.setNow v).sides = s.sides := rfl
@[simp] theorem State.setNow_ports (v : Nat) : (s.setNow v).ports = s.ports := rfl
@[simp] theorem State.setNow_era (v : Nat) : (s.setNow v).era = s.era := rfl
@[simp] theorem State.setNow_bct (v : Nat) : (s.setNow v).bct = s.bct := rfl
@[simp] theorem State.setNow_calTab (v : Nat) : (s.setNow v).calTab = s.calTab := rfl
@[simp] theorem State.setNow_engines (v : Nat) : (s.setNow v).engines = s.engines := rfl
@[simp] theorem State.setNow_slices (v : Nat) : (s.setNow v).slices = s.slices := rfl
@[simp] theorem State.setNow_rings (v : Nat) : (s.setNow v).rings = s.rings := rfl
@[simp] theorem State.setNow_tags (v : Nat) : (s.setNow v).tags = s.tags := rfl
@[simp] theorem State.setNow_flash (v : Nat) : (s.setNow v).flash = s.flash := rfl
@[simp] theorem State.setNow_calStore (v : Nat) : (s.setNow v).calStore = s.calStore := rfl
@[simp] theorem State.setNow_storeWait (v : Nat) : (s.setNow v).storeWait = s.storeWait := rfl
@[simp] theorem State.setNow_lastStore (v : Nat) : (s.setNow v).lastStore = s.lastStore := rfl
@[simp] theorem State.setNow_fuses (v : Nat) : (s.setNow v).fuses = s.fuses := rfl
@[simp] theorem State.setNow_chip (v : Nat) : (s.setNow v).chip = s.chip := rfl
@[simp] theorem State.setNow_lastWritten (v : Nat) : (s.setNow v).lastWritten = s.lastWritten := rfl
@[simp] theorem State.setNow_imgOp (v : Nat) : (s.setNow v).imgOp = s.imgOp := rfl
@[simp] theorem State.setNow_txn (v : Nat) : (s.setNow v).txn = s.txn := rfl
@[simp] theorem State.setNow_mgmt (v : Nat) : (s.setNow v).mgmt = s.mgmt := rfl
@[simp] theorem State.setNow_winnows (v : Nat) : (s.setNow v).winnows = s.winnows := rfl
@[simp] theorem State.setNow_windows (v : Nat) : (s.setNow v).windows = s.windows := rfl
@[simp] theorem State.setNow_tim (v : Nat) : (s.setNow v).tim = s.tim := rfl
@[simp] theorem State.setNow_snap (v : Nat) : (s.setNow v).snap = s.snap := rfl
@[simp] theorem State.setNow_tiles (v : Nat) : (s.setNow v).tiles = s.tiles := rfl
@[simp] theorem State.setNow_power (v : Nat) : (s.setNow v).power = s.power := rfl
@[simp] theorem State.setNow_evq (v : Nat) : (s.setNow v).evq = s.evq := rfl
@[simp] theorem State.setNow_staged (v : Nat) : (s.setNow v).staged = s.staged := rfl
@[simp] theorem State.setNow_now (v : Nat) : (s.setNow v).now = v % timeSpan := rfl
@[simp] theorem State.setNow_count (v : Nat) : (s.setNow v).count = v % timeSpan := rfl
@[simp] theorem State.setNow_replicas (v : Nat) : (s.setNow v).replicas = (s.setNow v).replicas := rfl
@[simp] theorem State.setNow_elapsed (v : Nat) : (s.setNow v).elapsed = s.elapsed := rfl
@[simp] theorem State.setNow_outbox (v : Nat) : (s.setNow v).outbox = s.outbox := rfl
@[simp] theorem State.setNow_freeCtr (v : Nat) : (s.setNow v).freeCtr = s.freeCtr := rfl
@[simp] theorem State.setNow_pending (v : Nat) : (s.setNow v).pending = s.pending := rfl

/-! ### Accessors -/

@[simp] theorem State.wr_half (c : Cell) (v : Nat) (j : Nat) : (s.wr c v).half j = s.half j := rfl
@[simp] theorem State.wr_seg (c : Cell) (v : Nat) (j : Nat) : (s.wr c v).seg j = s.seg j := rfl
@[simp] theorem State.wr_portx (c : Cell) (v : Nat) (j : Nat) : (s.wr c v).portx j = s.portx j := rfl
@[simp] theorem State.wr_engine (c : Cell) (v : Nat) (j : Nat) : (s.wr c v).engine j = s.engine j := rfl
@[simp] theorem State.wr_slicex (c : Cell) (v : Nat) (j : Nat) : (s.wr c v).slicex j = s.slicex j := rfl
@[simp] theorem State.wr_tile (c : Cell) (v : Nat) (j : Nat) : (s.wr c v).tile j = s.tile j := rfl
@[simp] theorem State.wr_ringx (c : Cell) (v : Nat) (a b : Nat) : (s.wr c v).ringx a b = s.ringx a b := rfl
@[simp] theorem State.wr_winnow (c : Cell) (v : Nat) (a b : Nat) : (s.wr c v).winnow a b = s.winnow a b := rfl
@[simp] theorem State.wr_window (c : Cell) (v : Nat) (a b : Nat) : (s.wr c v).window a b = s.window a b := rfl
@[simp] theorem State.wr_timeSide (c : Cell) (v : Nat) (j : Nat) : (s.wr c v).timeSide j = s.timeSide j := rfl
@[simp] theorem State.cold_half (c : Cell) (j : Nat) : (s.cold c).half j = s.half j := rfl
@[simp] theorem State.cold_seg (c : Cell) (j : Nat) : (s.cold c).seg j = s.seg j := rfl
@[simp] theorem State.cold_portx (c : Cell) (j : Nat) : (s.cold c).portx j = s.portx j := rfl
@[simp] theorem State.cold_engine (c : Cell) (j : Nat) : (s.cold c).engine j = s.engine j := rfl
@[simp] theorem State.cold_slicex (c : Cell) (j : Nat) : (s.cold c).slicex j = s.slicex j := rfl
@[simp] theorem State.cold_tile (c : Cell) (j : Nat) : (s.cold c).tile j = s.tile j := rfl
@[simp] theorem State.cold_ringx (c : Cell) (a b : Nat) : (s.cold c).ringx a b = s.ringx a b := rfl
@[simp] theorem State.cold_winnow (c : Cell) (a b : Nat) : (s.cold c).winnow a b = s.winnow a b := rfl
@[simp] theorem State.cold_window (c : Cell) (a b : Nat) : (s.cold c).window a b = s.window a b := rfl
@[simp] theorem State.cold_timeSide (c : Cell) (j : Nat) : (s.cold c).timeSide j = s.timeSide j := rfl
@[simp] theorem State.setEvq_half (v : List Ev) (j : Nat) : (s.setEvq v).half j = s.half j := rfl
@[simp] theorem State.setEvq_seg (v : List Ev) (j : Nat) : (s.setEvq v).seg j = s.seg j := rfl
@[simp] theorem State.setEvq_portx (v : List Ev) (j : Nat) : (s.setEvq v).portx j = s.portx j := rfl
@[simp] theorem State.setEvq_engine (v : List Ev) (j : Nat) : (s.setEvq v).engine j = s.engine j := rfl
@[simp] theorem State.setEvq_slicex (v : List Ev) (j : Nat) : (s.setEvq v).slicex j = s.slicex j := rfl
@[simp] theorem State.setEvq_tile (v : List Ev) (j : Nat) : (s.setEvq v).tile j = s.tile j := rfl
@[simp] theorem State.setEvq_ringx (v : List Ev) (a b : Nat) : (s.setEvq v).ringx a b = s.ringx a b := rfl
@[simp] theorem State.setEvq_winnow (v : List Ev) (a b : Nat) : (s.setEvq v).winnow a b = s.winnow a b := rfl
@[simp] theorem State.setEvq_window (v : List Ev) (a b : Nat) : (s.setEvq v).window a b = s.window a b := rfl
@[simp] theorem State.setEvq_timeSide (v : List Ev) (j : Nat) : (s.setEvq v).timeSide j = s.timeSide j := rfl
@[simp] theorem State.setEvq_rd (v : List Ev) (j : Cell) : (s.setEvq v).rd j = s.rd j := rfl
@[simp] theorem State.setEvq_bit (v : List Ev) (j : Cell) : (s.setEvq v).bit j = s.bit j := rfl
@[simp] theorem State.setStaged_half (v : List Ev) (j : Nat) : (s.setStaged v).half j = s.half j := rfl
@[simp] theorem State.setStaged_seg (v : List Ev) (j : Nat) : (s.setStaged v).seg j = s.seg j := rfl
@[simp] theorem State.setStaged_portx (v : List Ev) (j : Nat) : (s.setStaged v).portx j = s.portx j := rfl
@[simp] theorem State.setStaged_engine (v : List Ev) (j : Nat) : (s.setStaged v).engine j = s.engine j := rfl
@[simp] theorem State.setStaged_slicex (v : List Ev) (j : Nat) : (s.setStaged v).slicex j = s.slicex j := rfl
@[simp] theorem State.setStaged_tile (v : List Ev) (j : Nat) : (s.setStaged v).tile j = s.tile j := rfl
@[simp] theorem State.setStaged_ringx (v : List Ev) (a b : Nat) : (s.setStaged v).ringx a b = s.ringx a b := rfl
@[simp] theorem State.setStaged_winnow (v : List Ev) (a b : Nat) : (s.setStaged v).winnow a b = s.winnow a b := rfl
@[simp] theorem State.setStaged_window (v : List Ev) (a b : Nat) : (s.setStaged v).window a b = s.window a b := rfl
@[simp] theorem State.setStaged_timeSide (v : List Ev) (j : Nat) : (s.setStaged v).timeSide j = s.timeSide j := rfl
@[simp] theorem State.setStaged_rd (v : List Ev) (j : Cell) : (s.setStaged v).rd j = s.rd j := rfl
@[simp] theorem State.setStaged_bit (v : List Ev) (j : Cell) : (s.setStaged v).bit j = s.bit j := rfl
@[simp] theorem State.setReplicas_half (v : Tab Nat) (j : Nat) : (s.setReplicas v).half j = s.half j := rfl
@[simp] theorem State.setReplicas_seg (v : Tab Nat) (j : Nat) : (s.setReplicas v).seg j = s.seg j := rfl
@[simp] theorem State.setReplicas_portx (v : Tab Nat) (j : Nat) : (s.setReplicas v).portx j = s.portx j := rfl
@[simp] theorem State.setReplicas_engine (v : Tab Nat) (j : Nat) : (s.setReplicas v).engine j = s.engine j := rfl
@[simp] theorem State.setReplicas_slicex (v : Tab Nat) (j : Nat) : (s.setReplicas v).slicex j = s.slicex j := rfl
@[simp] theorem State.setReplicas_tile (v : Tab Nat) (j : Nat) : (s.setReplicas v).tile j = s.tile j := rfl
@[simp] theorem State.setReplicas_ringx (v : Tab Nat) (a b : Nat) : (s.setReplicas v).ringx a b = s.ringx a b := rfl
@[simp] theorem State.setReplicas_winnow (v : Tab Nat) (a b : Nat) : (s.setReplicas v).winnow a b = s.winnow a b := rfl
@[simp] theorem State.setReplicas_window (v : Tab Nat) (a b : Nat) : (s.setReplicas v).window a b = s.window a b := rfl
@[simp] theorem State.setReplicas_timeSide (v : Tab Nat) (j : Nat) : (s.setReplicas v).timeSide j = s.timeSide j := rfl
@[simp] theorem State.setReplicas_rd (v : Tab Nat) (j : Cell) : (s.setReplicas v).rd j = s.rd j := rfl
@[simp] theorem State.setReplicas_bit (v : Tab Nat) (j : Cell) : (s.setReplicas v).bit j = s.bit j := rfl
@[simp] theorem State.setElapsed_half (v : Nat) (j : Nat) : (s.setElapsed v).half j = s.half j := rfl
@[simp] theorem State.setElapsed_seg (v : Nat) (j : Nat) : (s.setElapsed v).seg j = s.seg j := rfl
@[simp] theorem State.setElapsed_portx (v : Nat) (j : Nat) : (s.setElapsed v).portx j = s.portx j := rfl
@[simp] theorem State.setElapsed_engine (v : Nat) (j : Nat) : (s.setElapsed v).engine j = s.engine j := rfl
@[simp] theorem State.setElapsed_slicex (v : Nat) (j : Nat) : (s.setElapsed v).slicex j = s.slicex j := rfl
@[simp] theorem State.setElapsed_tile (v : Nat) (j : Nat) : (s.setElapsed v).tile j = s.tile j := rfl
@[simp] theorem State.setElapsed_ringx (v : Nat) (a b : Nat) : (s.setElapsed v).ringx a b = s.ringx a b := rfl
@[simp] theorem State.setElapsed_winnow (v : Nat) (a b : Nat) : (s.setElapsed v).winnow a b = s.winnow a b := rfl
@[simp] theorem State.setElapsed_window (v : Nat) (a b : Nat) : (s.setElapsed v).window a b = s.window a b := rfl
@[simp] theorem State.setElapsed_timeSide (v : Nat) (j : Nat) : (s.setElapsed v).timeSide j = s.timeSide j := rfl
@[simp] theorem State.setElapsed_rd (v : Nat) (j : Cell) : (s.setElapsed v).rd j = s.rd j := rfl
@[simp] theorem State.setElapsed_bit (v : Nat) (j : Cell) : (s.setElapsed v).bit j = s.bit j := rfl
@[simp] theorem State.setImgOp_half (v : Option ImgOp) (j : Nat) : (s.setImgOp v).half j = s.half j := rfl
@[simp] theorem State.setImgOp_seg (v : Option ImgOp) (j : Nat) : (s.setImgOp v).seg j = s.seg j := rfl
@[simp] theorem State.setImgOp_portx (v : Option ImgOp) (j : Nat) : (s.setImgOp v).portx j = s.portx j := rfl
@[simp] theorem State.setImgOp_engine (v : Option ImgOp) (j : Nat) : (s.setImgOp v).engine j = s.engine j := rfl
@[simp] theorem State.setImgOp_slicex (v : Option ImgOp) (j : Nat) : (s.setImgOp v).slicex j = s.slicex j := rfl
@[simp] theorem State.setImgOp_tile (v : Option ImgOp) (j : Nat) : (s.setImgOp v).tile j = s.tile j := rfl
@[simp] theorem State.setImgOp_ringx (v : Option ImgOp) (a b : Nat) : (s.setImgOp v).ringx a b = s.ringx a b := rfl
@[simp] theorem State.setImgOp_winnow (v : Option ImgOp) (a b : Nat) : (s.setImgOp v).winnow a b = s.winnow a b := rfl
@[simp] theorem State.setImgOp_window (v : Option ImgOp) (a b : Nat) : (s.setImgOp v).window a b = s.window a b := rfl
@[simp] theorem State.setImgOp_timeSide (v : Option ImgOp) (j : Nat) : (s.setImgOp v).timeSide j = s.timeSide j := rfl
@[simp] theorem State.setImgOp_rd (v : Option ImgOp) (j : Cell) : (s.setImgOp v).rd j = s.rd j := rfl
@[simp] theorem State.setImgOp_bit (v : Option ImgOp) (j : Cell) : (s.setImgOp v).bit j = s.bit j := rfl
@[simp] theorem State.setCalTab_half (v : Tab CalRec) (j : Nat) : (s.setCalTab v).half j = s.half j := rfl
@[simp] theorem State.setCalTab_seg (v : Tab CalRec) (j : Nat) : (s.setCalTab v).seg j = s.seg j := rfl
@[simp] theorem State.setCalTab_portx (v : Tab CalRec) (j : Nat) : (s.setCalTab v).portx j = s.portx j := rfl
@[simp] theorem State.setCalTab_engine (v : Tab CalRec) (j : Nat) : (s.setCalTab v).engine j = s.engine j := rfl
@[simp] theorem State.setCalTab_slicex (v : Tab CalRec) (j : Nat) : (s.setCalTab v).slicex j = s.slicex j := rfl
@[simp] theorem State.setCalTab_tile (v : Tab CalRec) (j : Nat) : (s.setCalTab v).tile j = s.tile j := rfl
@[simp] theorem State.setCalTab_ringx (v : Tab CalRec) (a b : Nat) : (s.setCalTab v).ringx a b = s.ringx a b := rfl
@[simp] theorem State.setCalTab_winnow (v : Tab CalRec) (a b : Nat) : (s.setCalTab v).winnow a b = s.winnow a b := rfl
@[simp] theorem State.setCalTab_window (v : Tab CalRec) (a b : Nat) : (s.setCalTab v).window a b = s.window a b := rfl
@[simp] theorem State.setCalTab_timeSide (v : Tab CalRec) (j : Nat) : (s.setCalTab v).timeSide j = s.timeSide j := rfl
@[simp] theorem State.setCalTab_rd (v : Tab CalRec) (j : Cell) : (s.setCalTab v).rd j = s.rd j := rfl
@[simp] theorem State.setCalTab_bit (v : Tab CalRec) (j : Cell) : (s.setCalTab v).bit j = s.bit j := rfl
@[simp] theorem State.setCalStore_half (v : Option CalStore) (j : Nat) : (s.setCalStore v).half j = s.half j := rfl
@[simp] theorem State.setCalStore_seg (v : Option CalStore) (j : Nat) : (s.setCalStore v).seg j = s.seg j := rfl
@[simp] theorem State.setCalStore_portx (v : Option CalStore) (j : Nat) : (s.setCalStore v).portx j = s.portx j := rfl
@[simp] theorem State.setCalStore_engine (v : Option CalStore) (j : Nat) : (s.setCalStore v).engine j = s.engine j := rfl
@[simp] theorem State.setCalStore_slicex (v : Option CalStore) (j : Nat) : (s.setCalStore v).slicex j = s.slicex j := rfl
@[simp] theorem State.setCalStore_tile (v : Option CalStore) (j : Nat) : (s.setCalStore v).tile j = s.tile j := rfl
@[simp] theorem State.setCalStore_ringx (v : Option CalStore) (a b : Nat) : (s.setCalStore v).ringx a b = s.ringx a b := rfl
@[simp] theorem State.setCalStore_winnow (v : Option CalStore) (a b : Nat) : (s.setCalStore v).winnow a b = s.winnow a b := rfl
@[simp] theorem State.setCalStore_window (v : Option CalStore) (a b : Nat) : (s.setCalStore v).window a b = s.window a b := rfl
@[simp] theorem State.setCalStore_timeSide (v : Option CalStore) (j : Nat) : (s.setCalStore v).timeSide j = s.timeSide j := rfl
@[simp] theorem State.setCalStore_rd (v : Option CalStore) (j : Cell) : (s.setCalStore v).rd j = s.rd j := rfl
@[simp] theorem State.setCalStore_bit (v : Option CalStore) (j : Cell) : (s.setCalStore v).bit j = s.bit j := rfl
@[simp] theorem State.setStoreWait_half (v : Bool) (j : Nat) : (s.setStoreWait v).half j = s.half j := rfl
@[simp] theorem State.setStoreWait_seg (v : Bool) (j : Nat) : (s.setStoreWait v).seg j = s.seg j := rfl
@[simp] theorem State.setStoreWait_portx (v : Bool) (j : Nat) : (s.setStoreWait v).portx j = s.portx j := rfl
@[simp] theorem State.setStoreWait_engine (v : Bool) (j : Nat) : (s.setStoreWait v).engine j = s.engine j := rfl
@[simp] theorem State.setStoreWait_slicex (v : Bool) (j : Nat) : (s.setStoreWait v).slicex j = s.slicex j := rfl
@[simp] theorem State.setStoreWait_tile (v : Bool) (j : Nat) : (s.setStoreWait v).tile j = s.tile j := rfl
@[simp] theorem State.setStoreWait_ringx (v : Bool) (a b : Nat) : (s.setStoreWait v).ringx a b = s.ringx a b := rfl
@[simp] theorem State.setStoreWait_winnow (v : Bool) (a b : Nat) : (s.setStoreWait v).winnow a b = s.winnow a b := rfl
@[simp] theorem State.setStoreWait_window (v : Bool) (a b : Nat) : (s.setStoreWait v).window a b = s.window a b := rfl
@[simp] theorem State.setStoreWait_timeSide (v : Bool) (j : Nat) : (s.setStoreWait v).timeSide j = s.timeSide j := rfl
@[simp] theorem State.setStoreWait_rd (v : Bool) (j : Cell) : (s.setStoreWait v).rd j = s.rd j := rfl
@[simp] theorem State.setStoreWait_bit (v : Bool) (j : Cell) : (s.setStoreWait v).bit j = s.bit j := rfl
@[simp] theorem State.setLastStore_half (v : Nat) (j : Nat) : (s.setLastStore v).half j = s.half j := rfl
@[simp] theorem State.setLastStore_seg (v : Nat) (j : Nat) : (s.setLastStore v).seg j = s.seg j := rfl
@[simp] theorem State.setLastStore_portx (v : Nat) (j : Nat) : (s.setLastStore v).portx j = s.portx j := rfl
@[simp] theorem State.setLastStore_engine (v : Nat) (j : Nat) : (s.setLastStore v).engine j = s.engine j := rfl
@[simp] theorem State.setLastStore_slicex (v : Nat) (j : Nat) : (s.setLastStore v).slicex j = s.slicex j := rfl
@[simp] theorem State.setLastStore_tile (v : Nat) (j : Nat) : (s.setLastStore v).tile j = s.tile j := rfl
@[simp] theorem State.setLastStore_ringx (v : Nat) (a b : Nat) : (s.setLastStore v).ringx a b = s.ringx a b := rfl
@[simp] theorem State.setLastStore_winnow (v : Nat) (a b : Nat) : (s.setLastStore v).winnow a b = s.winnow a b := rfl
@[simp] theorem State.setLastStore_window (v : Nat) (a b : Nat) : (s.setLastStore v).window a b = s.window a b := rfl
@[simp] theorem State.setLastStore_timeSide (v : Nat) (j : Nat) : (s.setLastStore v).timeSide j = s.timeSide j := rfl
@[simp] theorem State.setLastStore_rd (v : Nat) (j : Cell) : (s.setLastStore v).rd j = s.rd j := rfl
@[simp] theorem State.setLastStore_bit (v : Nat) (j : Cell) : (s.setLastStore v).bit j = s.bit j := rfl
@[simp] theorem State.setChip_half (v : Option (List Byte)) (j : Nat) : (s.setChip v).half j = s.half j := rfl
@[simp] theorem State.setChip_seg (v : Option (List Byte)) (j : Nat) : (s.setChip v).seg j = s.seg j := rfl
@[simp] theorem State.setChip_portx (v : Option (List Byte)) (j : Nat) : (s.setChip v).portx j = s.portx j := rfl
@[simp] theorem State.setChip_engine (v : Option (List Byte)) (j : Nat) : (s.setChip v).engine j = s.engine j := rfl
@[simp] theorem State.setChip_slicex (v : Option (List Byte)) (j : Nat) : (s.setChip v).slicex j = s.slicex j := rfl
@[simp] theorem State.setChip_tile (v : Option (List Byte)) (j : Nat) : (s.setChip v).tile j = s.tile j := rfl
@[simp] theorem State.setChip_ringx (v : Option (List Byte)) (a b : Nat) : (s.setChip v).ringx a b = s.ringx a b := rfl
@[simp] theorem State.setChip_winnow (v : Option (List Byte)) (a b : Nat) : (s.setChip v).winnow a b = s.winnow a b := rfl
@[simp] theorem State.setChip_window (v : Option (List Byte)) (a b : Nat) : (s.setChip v).window a b = s.window a b := rfl
@[simp] theorem State.setChip_timeSide (v : Option (List Byte)) (j : Nat) : (s.setChip v).timeSide j = s.timeSide j := rfl
@[simp] theorem State.setChip_rd (v : Option (List Byte)) (j : Cell) : (s.setChip v).rd j = s.rd j := rfl
@[simp] theorem State.setChip_bit (v : Option (List Byte)) (j : Cell) : (s.setChip v).bit j = s.bit j := rfl
@[simp] theorem State.setBct_half (v : Tab Nat) (j : Nat) : (s.setBct v).half j = s.half j := rfl
@[simp] theorem State.setBct_seg (v : Tab Nat) (j : Nat) : (s.setBct v).seg j = s.seg j := rfl
@[simp] theorem State.setBct_portx (v : Tab Nat) (j : Nat) : (s.setBct v).portx j = s.portx j := rfl
@[simp] theorem State.setBct_engine (v : Tab Nat) (j : Nat) : (s.setBct v).engine j = s.engine j := rfl
@[simp] theorem State.setBct_slicex (v : Tab Nat) (j : Nat) : (s.setBct v).slicex j = s.slicex j := rfl
@[simp] theorem State.setBct_tile (v : Tab Nat) (j : Nat) : (s.setBct v).tile j = s.tile j := rfl
@[simp] theorem State.setBct_ringx (v : Tab Nat) (a b : Nat) : (s.setBct v).ringx a b = s.ringx a b := rfl
@[simp] theorem State.setBct_winnow (v : Tab Nat) (a b : Nat) : (s.setBct v).winnow a b = s.winnow a b := rfl
@[simp] theorem State.setBct_window (v : Tab Nat) (a b : Nat) : (s.setBct v).window a b = s.window a b := rfl
@[simp] theorem State.setBct_timeSide (v : Tab Nat) (j : Nat) : (s.setBct v).timeSide j = s.timeSide j := rfl
@[simp] theorem State.setBct_rd (v : Tab Nat) (j : Cell) : (s.setBct v).rd j = s.rd j := rfl
@[simp] theorem State.setBct_bit (v : Tab Nat) (j : Cell) : (s.setBct v).bit j = s.bit j := rfl
@[simp] theorem State.setTags_half (v : Tab TagState) (j : Nat) : (s.setTags v).half j = s.half j := rfl
@[simp] theorem State.setTags_seg (v : Tab TagState) (j : Nat) : (s.setTags v).seg j = s.seg j := rfl
@[simp] theorem State.setTags_portx (v : Tab TagState) (j : Nat) : (s.setTags v).portx j = s.portx j := rfl
@[simp] theorem State.setTags_engine (v : Tab TagState) (j : Nat) : (s.setTags v).engine j = s.engine j := rfl
@[simp] theorem State.setTags_slicex (v : Tab TagState) (j : Nat) : (s.setTags v).slicex j = s.slicex j := rfl
@[simp] theorem State.setTags_tile (v : Tab TagState) (j : Nat) : (s.setTags v).tile j = s.tile j := rfl
@[simp] theorem State.setTags_ringx (v : Tab TagState) (a b : Nat) : (s.setTags v).ringx a b = s.ringx a b := rfl
@[simp] theorem State.setTags_winnow (v : Tab TagState) (a b : Nat) : (s.setTags v).winnow a b = s.winnow a b := rfl
@[simp] theorem State.setTags_window (v : Tab TagState) (a b : Nat) : (s.setTags v).window a b = s.window a b := rfl
@[simp] theorem State.setTags_timeSide (v : Tab TagState) (j : Nat) : (s.setTags v).timeSide j = s.timeSide j := rfl
@[simp] theorem State.setTags_rd (v : Tab TagState) (j : Cell) : (s.setTags v).rd j = s.rd j := rfl
@[simp] theorem State.setTags_bit (v : Tab TagState) (j : Cell) : (s.setTags v).bit j = s.bit j := rfl
@[simp] theorem State.setFuses_half (v : Fuses) (j : Nat) : (s.setFuses v).half j = s.half j := rfl
@[simp] theorem State.setFuses_seg (v : Fuses) (j : Nat) : (s.setFuses v).seg j = s.seg j := rfl
@[simp] theorem State.setFuses_portx (v : Fuses) (j : Nat) : (s.setFuses v).portx j = s.portx j := rfl
@[simp] theorem State.setFuses_engine (v : Fuses) (j : Nat) : (s.setFuses v).engine j = s.engine j := rfl
@[simp] theorem State.setFuses_slicex (v : Fuses) (j : Nat) : (s.setFuses v).slicex j = s.slicex j := rfl
@[simp] theorem State.setFuses_tile (v : Fuses) (j : Nat) : (s.setFuses v).tile j = s.tile j := rfl
@[simp] theorem State.setFuses_ringx (v : Fuses) (a b : Nat) : (s.setFuses v).ringx a b = s.ringx a b := rfl
@[simp] theorem State.setFuses_winnow (v : Fuses) (a b : Nat) : (s.setFuses v).winnow a b = s.winnow a b := rfl
@[simp] theorem State.setFuses_window (v : Fuses) (a b : Nat) : (s.setFuses v).window a b = s.window a b := rfl
@[simp] theorem State.setFuses_timeSide (v : Fuses) (j : Nat) : (s.setFuses v).timeSide j = s.timeSide j := rfl
@[simp] theorem State.setFuses_rd (v : Fuses) (j : Cell) : (s.setFuses v).rd j = s.rd j := rfl
@[simp] theorem State.setFuses_bit (v : Fuses) (j : Cell) : (s.setFuses v).bit j = s.bit j := rfl
@[simp] theorem State.setSnap_half (v : Snapshot) (j : Nat) : (s.setSnap v).half j = s.half j := rfl
@[simp] theorem State.setSnap_seg (v : Snapshot) (j : Nat) : (s.setSnap v).seg j = s.seg j := rfl
@[simp] theorem State.setSnap_portx (v : Snapshot) (j : Nat) : (s.setSnap v).portx j = s.portx j := rfl
@[simp] theorem State.setSnap_engine (v : Snapshot) (j : Nat) : (s.setSnap v).engine j = s.engine j := rfl
@[simp] theorem State.setSnap_slicex (v : Snapshot) (j : Nat) : (s.setSnap v).slicex j = s.slicex j := rfl
@[simp] theorem State.setSnap_tile (v : Snapshot) (j : Nat) : (s.setSnap v).tile j = s.tile j := rfl
@[simp] theorem State.setSnap_ringx (v : Snapshot) (a b : Nat) : (s.setSnap v).ringx a b = s.ringx a b := rfl
@[simp] theorem State.setSnap_winnow (v : Snapshot) (a b : Nat) : (s.setSnap v).winnow a b = s.winnow a b := rfl
@[simp] theorem State.setSnap_window (v : Snapshot) (a b : Nat) : (s.setSnap v).window a b = s.window a b := rfl
@[simp] theorem State.setSnap_timeSide (v : Snapshot) (j : Nat) : (s.setSnap v).timeSide j = s.timeSide j := rfl
@[simp] theorem State.setSnap_rd (v : Snapshot) (j : Cell) : (s.setSnap v).rd j = s.rd j := rfl
@[simp] theorem State.setSnap_bit (v : Snapshot) (j : Cell) : (s.setSnap v).bit j = s.bit j := rfl
@[simp] theorem State.setLastWritten_half (v : Option Bool) (j : Nat) : (s.setLastWritten v).half j = s.half j := rfl
@[simp] theorem State.setLastWritten_seg (v : Option Bool) (j : Nat) : (s.setLastWritten v).seg j = s.seg j := rfl
@[simp] theorem State.setLastWritten_portx (v : Option Bool) (j : Nat) : (s.setLastWritten v).portx j = s.portx j := rfl
@[simp] theorem State.setLastWritten_engine (v : Option Bool) (j : Nat) : (s.setLastWritten v).engine j = s.engine j := rfl
@[simp] theorem State.setLastWritten_slicex (v : Option Bool) (j : Nat) : (s.setLastWritten v).slicex j = s.slicex j := rfl
@[simp] theorem State.setLastWritten_tile (v : Option Bool) (j : Nat) : (s.setLastWritten v).tile j = s.tile j := rfl
@[simp] theorem State.setLastWritten_ringx (v : Option Bool) (a b : Nat) : (s.setLastWritten v).ringx a b = s.ringx a b := rfl
@[simp] theorem State.setLastWritten_winnow (v : Option Bool) (a b : Nat) : (s.setLastWritten v).winnow a b = s.winnow a b := rfl
@[simp] theorem State.setLastWritten_window (v : Option Bool) (a b : Nat) : (s.setLastWritten v).window a b = s.window a b := rfl
@[simp] theorem State.setLastWritten_timeSide (v : Option Bool) (j : Nat) : (s.setLastWritten v).timeSide j = s.timeSide j := rfl
@[simp] theorem State.setLastWritten_rd (v : Option Bool) (j : Cell) : (s.setLastWritten v).rd j = s.rd j := rfl
@[simp] theorem State.setLastWritten_bit (v : Option Bool) (j : Cell) : (s.setLastWritten v).bit j = s.bit j := rfl
@[simp] theorem State.setEra_half (v : Nat) (j : Nat) : (s.setEra v).half j = s.half j := rfl
@[simp] theorem State.setEra_seg (v : Nat) (j : Nat) : (s.setEra v).seg j = s.seg j := rfl
@[simp] theorem State.setEra_portx (v : Nat) (j : Nat) : (s.setEra v).portx j = s.portx j := rfl
@[simp] theorem State.setEra_engine (v : Nat) (j : Nat) : (s.setEra v).engine j = s.engine j := rfl
@[simp] theorem State.setEra_slicex (v : Nat) (j : Nat) : (s.setEra v).slicex j = s.slicex j := rfl
@[simp] theorem State.setEra_tile (v : Nat) (j : Nat) : (s.setEra v).tile j = s.tile j := rfl
@[simp] theorem State.setEra_ringx (v : Nat) (a b : Nat) : (s.setEra v).ringx a b = s.ringx a b := rfl
@[simp] theorem State.setEra_winnow (v : Nat) (a b : Nat) : (s.setEra v).winnow a b = s.winnow a b := rfl
@[simp] theorem State.setEra_window (v : Nat) (a b : Nat) : (s.setEra v).window a b = s.window a b := rfl
@[simp] theorem State.setEra_timeSide (v : Nat) (j : Nat) : (s.setEra v).timeSide j = s.timeSide j := rfl
@[simp] theorem State.setEra_rd (v : Nat) (j : Cell) : (s.setEra v).rd j = s.rd j := rfl
@[simp] theorem State.setEra_bit (v : Nat) (j : Cell) : (s.setEra v).bit j = s.bit j := rfl
@[simp] theorem State.setFlash_half (v : Memory) (j : Nat) : (s.setFlash v).half j = s.half j := rfl
@[simp] theorem State.setFlash_seg (v : Memory) (j : Nat) : (s.setFlash v).seg j = s.seg j := rfl
@[simp] theorem State.setFlash_portx (v : Memory) (j : Nat) : (s.setFlash v).portx j = s.portx j := rfl
@[simp] theorem State.setFlash_engine (v : Memory) (j : Nat) : (s.setFlash v).engine j = s.engine j := rfl
@[simp] theorem State.setFlash_slicex (v : Memory) (j : Nat) : (s.setFlash v).slicex j = s.slicex j := rfl
@[simp] theorem State.setFlash_tile (v : Memory) (j : Nat) : (s.setFlash v).tile j = s.tile j := rfl
@[simp] theorem State.setFlash_ringx (v : Memory) (a b : Nat) : (s.setFlash v).ringx a b = s.ringx a b := rfl
@[simp] theorem State.setFlash_winnow (v : Memory) (a b : Nat) : (s.setFlash v).winnow a b = s.winnow a b := rfl
@[simp] theorem State.setFlash_window (v : Memory) (a b : Nat) : (s.setFlash v).window a b = s.window a b := rfl
@[simp] theorem State.setFlash_timeSide (v : Memory) (j : Nat) : (s.setFlash v).timeSide j = s.timeSide j := rfl
@[simp] theorem State.setFlash_rd (v : Memory) (j : Cell) : (s.setFlash v).rd j = s.rd j := rfl
@[simp] theorem State.setFlash_bit (v : Memory) (j : Cell) : (s.setFlash v).bit j = s.bit j := rfl
@[simp] theorem State.setRegs_half (v : Tab Nat) (j : Nat) : (s.setRegs v).half j = s.half j := rfl
@[simp] theorem State.setRegs_seg (v : Tab Nat) (j : Nat) : (s.setRegs v).seg j = s.seg j := rfl
@[simp] theorem State.setRegs_portx (v : Tab Nat) (j : Nat) : (s.setRegs v).portx j = s.portx j := rfl
@[simp] theorem State.setRegs_engine (v : Tab Nat) (j : Nat) : (s.setRegs v).engine j = s.engine j := rfl
@[simp] theorem State.setRegs_slicex (v : Tab Nat) (j : Nat) : (s.setRegs v).slicex j = s.slicex j := rfl
@[simp] theorem State.setRegs_tile (v : Tab Nat) (j : Nat) : (s.setRegs v).tile j = s.tile j := rfl
@[simp] theorem State.setRegs_ringx (v : Tab Nat) (a b : Nat) : (s.setRegs v).ringx a b = s.ringx a b := rfl
@[simp] theorem State.setRegs_winnow (v : Tab Nat) (a b : Nat) : (s.setRegs v).winnow a b = s.winnow a b := rfl
@[simp] theorem State.setRegs_window (v : Tab Nat) (a b : Nat) : (s.setRegs v).window a b = s.window a b := rfl
@[simp] theorem State.setRegs_timeSide (v : Tab Nat) (j : Nat) : (s.setRegs v).timeSide j = s.timeSide j := rfl
@[simp] theorem State.setEngines_half (v : Tab Engine) (j : Nat) : (s.setEngines v).half j = s.half j := rfl
@[simp] theorem State.setEngines_seg (v : Tab Engine) (j : Nat) : (s.setEngines v).seg j = s.seg j := rfl
@[simp] theorem State.setEngines_portx (v : Tab Engine) (j : Nat) : (s.setEngines v).portx j = s.portx j := rfl
@[simp] theorem State.setEngines_slicex (v : Tab Engine) (j : Nat) : (s.setEngines v).slicex j = s.slicex j := rfl
@[simp] theorem State.setEngines_tile (v : Tab Engine) (j : Nat) : (s.setEngines v).tile j = s.tile j := rfl
@[simp] theorem State.setEngines_ringx (v : Tab Engine) (a b : Nat) : (s.setEngines v).ringx a b = s.ringx a b := rfl
@[simp] theorem State.setEngines_winnow (v : Tab Engine) (a b : Nat) : (s.setEngines v).winnow a b = s.winnow a b := rfl
@[simp] theorem State.setEngines_window (v : Tab Engine) (a b : Nat) : (s.setEngines v).window a b = s.window a b := rfl
@[simp] theorem State.setEngines_timeSide (v : Tab Engine) (j : Nat) : (s.setEngines v).timeSide j = s.timeSide j := rfl
@[simp] theorem State.setEngines_rd (v : Tab Engine) (j : Cell) : (s.setEngines v).rd j = s.rd j := rfl
@[simp] theorem State.setEngines_bit (v : Tab Engine) (j : Cell) : (s.setEngines v).bit j = s.bit j := rfl
@[simp] theorem State.setSlices_half (v : Tab SliceX) (j : Nat) : (s.setSlices v).half j = s.half j := rfl
@[simp] theorem State.setSlices_seg (v : Tab SliceX) (j : Nat) : (s.setSlices v).seg j = s.seg j := rfl
@[simp] theorem State.setSlices_portx (v : Tab SliceX) (j : Nat) : (s.setSlices v).portx j = s.portx j := rfl
@[simp] theorem State.setSlices_engine (v : Tab SliceX) (j : Nat) : (s.setSlices v).engine j = s.engine j := rfl
@[simp] theorem State.setSlices_tile (v : Tab SliceX) (j : Nat) : (s.setSlices v).tile j = s.tile j := rfl
@[simp] theorem State.setSlices_ringx (v : Tab SliceX) (a b : Nat) : (s.setSlices v).ringx a b = s.ringx a b := rfl
@[simp] theorem State.setSlices_winnow (v : Tab SliceX) (a b : Nat) : (s.setSlices v).winnow a b = s.winnow a b := rfl
@[simp] theorem State.setSlices_window (v : Tab SliceX) (a b : Nat) : (s.setSlices v).window a b = s.window a b := rfl
@[simp] theorem State.setSlices_timeSide (v : Tab SliceX) (j : Nat) : (s.setSlices v).timeSide j = s.timeSide j := rfl
@[simp] theorem State.setSlices_rd (v : Tab SliceX) (j : Cell) : (s.setSlices v).rd j = s.rd j := rfl
@[simp] theorem State.setSlices_bit (v : Tab SliceX) (j : Cell) : (s.setSlices v).bit j = s.bit j := rfl
@[simp] theorem State.setRings_half (v : Tab RingX) (j : Nat) : (s.setRings v).half j = s.half j := rfl
@[simp] theorem State.setRings_seg (v : Tab RingX) (j : Nat) : (s.setRings v).seg j = s.seg j := rfl
@[simp] theorem State.setRings_portx (v : Tab RingX) (j : Nat) : (s.setRings v).portx j = s.portx j := rfl
@[simp] theorem State.setRings_engine (v : Tab RingX) (j : Nat) : (s.setRings v).engine j = s.engine j := rfl
@[simp] theorem State.setRings_slicex (v : Tab RingX) (j : Nat) : (s.setRings v).slicex j = s.slicex j := rfl
@[simp] theorem State.setRings_tile (v : Tab RingX) (j : Nat) : (s.setRings v).tile j = s.tile j := rfl
@[simp] theorem State.setRings_winnow (v : Tab RingX) (a b : Nat) : (s.setRings v).winnow a b = s.winnow a b := rfl
@[simp] theorem State.setRings_window (v : Tab RingX) (a b : Nat) : (s.setRings v).window a b = s.window a b := rfl
@[simp] theorem State.setRings_timeSide (v : Tab RingX) (j : Nat) : (s.setRings v).timeSide j = s.timeSide j := rfl
@[simp] theorem State.setRings_rd (v : Tab RingX) (j : Cell) : (s.setRings v).rd j = s.rd j := rfl
@[simp] theorem State.setRings_bit (v : Tab RingX) (j : Cell) : (s.setRings v).bit j = s.bit j := rfl
@[simp] theorem State.setWinnows_half (v : Tab Winnow) (j : Nat) : (s.setWinnows v).half j = s.half j := rfl
@[simp] theorem State.setWinnows_seg (v : Tab Winnow) (j : Nat) : (s.setWinnows v).seg j = s.seg j := rfl
@[simp] theorem State.setWinnows_portx (v : Tab Winnow) (j : Nat) : (s.setWinnows v).portx j = s.portx j := rfl
@[simp] theorem State.setWinnows_engine (v : Tab Winnow) (j : Nat) : (s.setWinnows v).engine j = s.engine j := rfl
@[simp] theorem State.setWinnows_slicex (v : Tab Winnow) (j : Nat) : (s.setWinnows v).slicex j = s.slicex j := rfl
@[simp] theorem State.setWinnows_tile (v : Tab Winnow) (j : Nat) : (s.setWinnows v).tile j = s.tile j := rfl
@[simp] theorem State.setWinnows_ringx (v : Tab Winnow) (a b : Nat) : (s.setWinnows v).ringx a b = s.ringx a b := rfl
@[simp] theorem State.setWinnows_window (v : Tab Winnow) (a b : Nat) : (s.setWinnows v).window a b = s.window a b := rfl
@[simp] theorem State.setWinnows_timeSide (v : Tab Winnow) (j : Nat) : (s.setWinnows v).timeSide j = s.timeSide j := rfl
@[simp] theorem State.setWinnows_rd (v : Tab Winnow) (j : Cell) : (s.setWinnows v).rd j = s.rd j := rfl
@[simp] theorem State.setWinnows_bit (v : Tab Winnow) (j : Cell) : (s.setWinnows v).bit j = s.bit j := rfl
@[simp] theorem State.setWindows_half (v : Tab Window) (j : Nat) : (s.setWindows v).half j = s.half j := rfl
@[simp] theorem State.setWindows_seg (v : Tab Window) (j : Nat) : (s.setWindows v).seg j = s.seg j := rfl
@[simp] theorem State.setWindows_portx (v : Tab Window) (j : Nat) : (s.setWindows v).portx j = s.portx j := rfl
@[simp] theorem State.setWindows_engine (v : Tab Window) (j : Nat) : (s.setWindows v).engine j = s.engine j := rfl
@[simp] theorem State.setWindows_slicex (v : Tab Window) (j : Nat) : (s.setWindows v).slicex j = s.slicex j := rfl
@[simp] theorem State.setWindows_tile (v : Tab Window) (j : Nat) : (s.setWindows v).tile j = s.tile j := rfl
@[simp] theorem State.setWindows_ringx (v : Tab Window) (a b : Nat) : (s.setWindows v).ringx a b = s.ringx a b := rfl
@[simp] theorem State.setWindows_winnow (v : Tab Window) (a b : Nat) : (s.setWindows v).winnow a b = s.winnow a b := rfl
@[simp] theorem State.setWindows_timeSide (v : Tab Window) (j : Nat) : (s.setWindows v).timeSide j = s.timeSide j := rfl
@[simp] theorem State.setWindows_rd (v : Tab Window) (j : Cell) : (s.setWindows v).rd j = s.rd j := rfl
@[simp] theorem State.setWindows_bit (v : Tab Window) (j : Cell) : (s.setWindows v).bit j = s.bit j := rfl
@[simp] theorem State.setPorts_half (v : Tab PortX) (j : Nat) : (s.setPorts v).half j = s.half j := rfl
@[simp] theorem State.setPorts_seg (v : Tab PortX) (j : Nat) : (s.setPorts v).seg j = s.seg j := rfl
@[simp] theorem State.setPorts_engine (v : Tab PortX) (j : Nat) : (s.setPorts v).engine j = s.engine j := rfl
@[simp] theorem State.setPorts_slicex (v : Tab PortX) (j : Nat) : (s.setPorts v).slicex j = s.slicex j := rfl
@[simp] theorem State.setPorts_tile (v : Tab PortX) (j : Nat) : (s.setPorts v).tile j = s.tile j := rfl
@[simp] theorem State.setPorts_ringx (v : Tab PortX) (a b : Nat) : (s.setPorts v).ringx a b = s.ringx a b := rfl
@[simp] theorem State.setPorts_winnow (v : Tab PortX) (a b : Nat) : (s.setPorts v).winnow a b = s.winnow a b := rfl
@[simp] theorem State.setPorts_window (v : Tab PortX) (a b : Nat) : (s.setPorts v).window a b = s.window a b := rfl
@[simp] theorem State.setPorts_timeSide (v : Tab PortX) (j : Nat) : (s.setPorts v).timeSide j = s.timeSide j := rfl
@[simp] theorem State.setPorts_rd (v : Tab PortX) (j : Cell) : (s.setPorts v).rd j = s.rd j := rfl
@[simp] theorem State.setPorts_bit (v : Tab PortX) (j : Cell) : (s.setPorts v).bit j = s.bit j := rfl
@[simp] theorem State.setOutbox_half (v : List Out) (j : Nat) : (s.setOutbox v).half j = s.half j := rfl
@[simp] theorem State.setOutbox_seg (v : List Out) (j : Nat) : (s.setOutbox v).seg j = s.seg j := rfl
@[simp] theorem State.setOutbox_portx (v : List Out) (j : Nat) : (s.setOutbox v).portx j = s.portx j := rfl
@[simp] theorem State.setOutbox_engine (v : List Out) (j : Nat) : (s.setOutbox v).engine j = s.engine j := rfl
@[simp] theorem State.setOutbox_slicex (v : List Out) (j : Nat) : (s.setOutbox v).slicex j = s.slicex j := rfl
@[simp] theorem State.setOutbox_tile (v : List Out) (j : Nat) : (s.setOutbox v).tile j = s.tile j := rfl
@[simp] theorem State.setOutbox_ringx (v : List Out) (a b : Nat) : (s.setOutbox v).ringx a b = s.ringx a b := rfl
@[simp] theorem State.setOutbox_winnow (v : List Out) (a b : Nat) : (s.setOutbox v).winnow a b = s.winnow a b := rfl
@[simp] theorem State.setOutbox_window (v : List Out) (a b : Nat) : (s.setOutbox v).window a b = s.window a b := rfl
@[simp] theorem State.setOutbox_timeSide (v : List Out) (j : Nat) : (s.setOutbox v).timeSide j = s.timeSide j := rfl
@[simp] theorem State.setOutbox_rd (v : List Out) (j : Cell) : (s.setOutbox v).rd j = s.rd j := rfl
@[simp] theorem State.setOutbox_bit (v : List Out) (j : Cell) : (s.setOutbox v).bit j = s.bit j := rfl
@[simp] theorem State.upH_seg (h : Nat) (f : Half → Half) (j : Nat) : (s.upH h f).seg j = s.seg j := rfl
@[simp] theorem State.upH_portx (h : Nat) (f : Half → Half) (j : Nat) : (s.upH h f).portx j = s.portx j := rfl
@[simp] theorem State.upH_engine (h : Nat) (f : Half → Half) (j : Nat) : (s.upH h f).engine j = s.engine j := rfl
@[simp] theorem State.upH_slicex (h : Nat) (f : Half → Half) (j : Nat) : (s.upH h f).slicex j = s.slicex j := rfl
@[simp] theorem State.upH_tile (h : Nat) (f : Half → Half) (j : Nat) : (s.upH h f).tile j = s.tile j := rfl
@[simp] theorem State.upH_ringx (h : Nat) (f : Half → Half) (a b : Nat) : (s.upH h f).ringx a b = s.ringx a b := rfl
@[simp] theorem State.upH_winnow (h : Nat) (f : Half → Half) (a b : Nat) : (s.upH h f).winnow a b = s.winnow a b := rfl
@[simp] theorem State.upH_window (h : Nat) (f : Half → Half) (a b : Nat) : (s.upH h f).window a b = s.window a b := rfl
@[simp] theorem State.upH_timeSide (h : Nat) (f : Half → Half) (j : Nat) : (s.upH h f).timeSide j = s.timeSide j := rfl
@[simp] theorem State.upH_rd (h : Nat) (f : Half → Half) (j : Cell) : (s.upH h f).rd j = s.rd j := rfl
@[simp] theorem State.upH_bit (h : Nat) (f : Half → Half) (j : Cell) : (s.upH h f).bit j = s.bit j := rfl
@[simp] theorem State.upS_half (q : Nat) (f : Seg → Seg) (j : Nat) : (s.upS q f).half j = s.half j := rfl
@[simp] theorem State.upS_portx (q : Nat) (f : Seg → Seg) (j : Nat) : (s.upS q f).portx j = s.portx j := rfl
@[simp] theorem State.upS_engine (q : Nat) (f : Seg → Seg) (j : Nat) : (s.upS q f).engine j = s.engine j := rfl
@[simp] theorem State.upS_slicex (q : Nat) (f : Seg → Seg) (j : Nat) : (s.upS q f).slicex j = s.slicex j := rfl
@[simp] theorem State.upS_tile (q : Nat) (f : Seg → Seg) (j : Nat) : (s.upS q f).tile j = s.tile j := rfl
@[simp] theorem State.upS_ringx (q : Nat) (f : Seg → Seg) (a b : Nat) : (s.upS q f).ringx a b = s.ringx a b := rfl
@[simp] theorem State.upS_winnow (q : Nat) (f : Seg → Seg) (a b : Nat) : (s.upS q f).winnow a b = s.winnow a b := rfl
@[simp] theorem State.upS_window (q : Nat) (f : Seg → Seg) (a b : Nat) : (s.upS q f).window a b = s.window a b := rfl
@[simp] theorem State.upS_timeSide (q : Nat) (f : Seg → Seg) (j : Nat) : (s.upS q f).timeSide j = s.timeSide j := rfl
@[simp] theorem State.upS_rd (q : Nat) (f : Seg → Seg) (j : Cell) : (s.upS q f).rd j = s.rd j := rfl
@[simp] theorem State.upS_bit (q : Nat) (f : Seg → Seg) (j : Cell) : (s.upS q f).bit j = s.bit j := rfl
@[simp] theorem State.upP_half (p : Nat) (f : PortX → PortX) (j : Nat) : (s.upP p f).half j = s.half j := rfl
@[simp] theorem State.upP_seg (p : Nat) (f : PortX → PortX) (j : Nat) : (s.upP p f).seg j = s.seg j := rfl
@[simp] theorem State.upP_engine (p : Nat) (f : PortX → PortX) (j : Nat) : (s.upP p f).engine j = s.engine j := rfl
@[simp] theorem State.upP_slicex (p : Nat) (f : PortX → PortX) (j : Nat) : (s.upP p f).slicex j = s.slicex j := rfl
@[simp] theorem State.upP_tile (p : Nat) (f : PortX → PortX) (j : Nat) : (s.upP p f).tile j = s.tile j := rfl
@[simp] theorem State.upP_ringx (p : Nat) (f : PortX → PortX) (a b : Nat) : (s.upP p f).ringx a b = s.ringx a b := rfl
@[simp] theorem State.upP_winnow (p : Nat) (f : PortX → PortX) (a b : Nat) : (s.upP p f).winnow a b = s.winnow a b := rfl
@[simp] theorem State.upP_window (p : Nat) (f : PortX → PortX) (a b : Nat) : (s.upP p f).window a b = s.window a b := rfl
@[simp] theorem State.upP_timeSide (p : Nat) (f : PortX → PortX) (j : Nat) : (s.upP p f).timeSide j = s.timeSide j := rfl
@[simp] theorem State.upP_rd (p : Nat) (f : PortX → PortX) (j : Cell) : (s.upP p f).rd j = s.rd j := rfl
@[simp] theorem State.upP_bit (p : Nat) (f : PortX → PortX) (j : Cell) : (s.upP p f).bit j = s.bit j := rfl
@[simp] theorem State.upE_half (k : Nat) (f : Engine → Engine) (j : Nat) : (s.upE k f).half j = s.half j := rfl
@[simp] theorem State.upE_seg (k : Nat) (f : Engine → Engine) (j : Nat) : (s.upE k f).seg j = s.seg j := rfl
@[simp] theorem State.upE_portx (k : Nat) (f : Engine → Engine) (j : Nat) : (s.upE k f).portx j = s.portx j := rfl
@[simp] theorem State.upE_slicex (k : Nat) (f : Engine → Engine) (j : Nat) : (s.upE k f).slicex j = s.slicex j := rfl
@[simp] theorem State.upE_tile (k : Nat) (f : Engine → Engine) (j : Nat) : (s.upE k f).tile j = s.tile j := rfl
@[simp] theorem State.upE_ringx (k : Nat) (f : Engine → Engine) (a b : Nat) : (s.upE k f).ringx a b = s.ringx a b := rfl
@[simp] theorem State.upE_winnow (k : Nat) (f : Engine → Engine) (a b : Nat) : (s.upE k f).winnow a b = s.winnow a b := rfl
@[simp] theorem State.upE_window (k : Nat) (f : Engine → Engine) (a b : Nat) : (s.upE k f).window a b = s.window a b := rfl
@[simp] theorem State.upE_timeSide (k : Nat) (f : Engine → Engine) (j : Nat) : (s.upE k f).timeSide j = s.timeSide j := rfl
@[simp] theorem State.upE_rd (k : Nat) (f : Engine → Engine) (j : Cell) : (s.upE k f).rd j = s.rd j := rfl
@[simp] theorem State.upE_bit (k : Nat) (f : Engine → Engine) (j : Cell) : (s.upE k f).bit j = s.bit j := rfl
@[simp] theorem State.upSl_half (k : Nat) (f : SliceX → SliceX) (j : Nat) : (s.upSl k f).half j = s.half j := rfl
@[simp] theorem State.upSl_seg (k : Nat) (f : SliceX → SliceX) (j : Nat) : (s.upSl k f).seg j = s.seg j := rfl
@[simp] theorem State.upSl_portx (k : Nat) (f : SliceX → SliceX) (j : Nat) : (s.upSl k f).portx j = s.portx j := rfl
@[simp] theorem State.upSl_engine (k : Nat) (f : SliceX → SliceX) (j : Nat) : (s.upSl k f).engine j = s.engine j := rfl
@[simp] theorem State.upSl_tile (k : Nat) (f : SliceX → SliceX) (j : Nat) : (s.upSl k f).tile j = s.tile j := rfl
@[simp] theorem State.upSl_ringx (k : Nat) (f : SliceX → SliceX) (a b : Nat) : (s.upSl k f).ringx a b = s.ringx a b := rfl
@[simp] theorem State.upSl_winnow (k : Nat) (f : SliceX → SliceX) (a b : Nat) : (s.upSl k f).winnow a b = s.winnow a b := rfl
@[simp] theorem State.upSl_window (k : Nat) (f : SliceX → SliceX) (a b : Nat) : (s.upSl k f).window a b = s.window a b := rfl
@[simp] theorem State.upSl_timeSide (k : Nat) (f : SliceX → SliceX) (j : Nat) : (s.upSl k f).timeSide j = s.timeSide j := rfl
@[simp] theorem State.upSl_rd (k : Nat) (f : SliceX → SliceX) (j : Cell) : (s.upSl k f).rd j = s.rd j := rfl
@[simp] theorem State.upSl_bit (k : Nat) (f : SliceX → SliceX) (j : Cell) : (s.upSl k f).bit j = s.bit j := rfl
@[simp] theorem State.upT_half (i : Nat) (f : Tile → Tile) (j : Nat) : (s.upT i f).half j = s.half j := rfl
@[simp] theorem State.upT_seg (i : Nat) (f : Tile → Tile) (j : Nat) : (s.upT i f).seg j = s.seg j := rfl
@[simp] theorem State.upT_portx (i : Nat) (f : Tile → Tile) (j : Nat) : (s.upT i f).portx j = s.portx j := rfl
@[simp] theorem State.upT_engine (i : Nat) (f : Tile → Tile) (j : Nat) : (s.upT i f).engine j = s.engine j := rfl
@[simp] theorem State.upT_slicex (i : Nat) (f : Tile → Tile) (j : Nat) : (s.upT i f).slicex j = s.slicex j := rfl
@[simp] theorem State.upT_ringx (i : Nat) (f : Tile → Tile) (a b : Nat) : (s.upT i f).ringx a b = s.ringx a b := rfl
@[simp] theorem State.upT_winnow (i : Nat) (f : Tile → Tile) (a b : Nat) : (s.upT i f).winnow a b = s.winnow a b := rfl
@[simp] theorem State.upT_window (i : Nat) (f : Tile → Tile) (a b : Nat) : (s.upT i f).window a b = s.window a b := rfl
@[simp] theorem State.upT_timeSide (i : Nat) (f : Tile → Tile) (j : Nat) : (s.upT i f).timeSide j = s.timeSide j := rfl
@[simp] theorem State.upT_rd (i : Nat) (f : Tile → Tile) (j : Cell) : (s.upT i f).rd j = s.rd j := rfl
@[simp] theorem State.upT_bit (i : Nat) (f : Tile → Tile) (j : Cell) : (s.upT i f).bit j = s.bit j := rfl
@[simp] theorem State.upR_half (k i : Nat) (f : RingX → RingX) (j : Nat) : (s.upR k i f).half j = s.half j := rfl
@[simp] theorem State.upR_seg (k i : Nat) (f : RingX → RingX) (j : Nat) : (s.upR k i f).seg j = s.seg j := rfl
@[simp] theorem State.upR_portx (k i : Nat) (f : RingX → RingX) (j : Nat) : (s.upR k i f).portx j = s.portx j := rfl
@[simp] theorem State.upR_engine (k i : Nat) (f : RingX → RingX) (j : Nat) : (s.upR k i f).engine j = s.engine j := rfl
@[simp] theorem State.upR_slicex (k i : Nat) (f : RingX → RingX) (j : Nat) : (s.upR k i f).slicex j = s.slicex j := rfl
@[simp] theorem State.upR_tile (k i : Nat) (f : RingX → RingX) (j : Nat) : (s.upR k i f).tile j = s.tile j := rfl
@[simp] theorem State.upR_winnow (k i : Nat) (f : RingX → RingX) (a b : Nat) : (s.upR k i f).winnow a b = s.winnow a b := rfl
@[simp] theorem State.upR_window (k i : Nat) (f : RingX → RingX) (a b : Nat) : (s.upR k i f).window a b = s.window a b := rfl
@[simp] theorem State.upR_timeSide (k i : Nat) (f : RingX → RingX) (j : Nat) : (s.upR k i f).timeSide j = s.timeSide j := rfl
@[simp] theorem State.upR_rd (k i : Nat) (f : RingX → RingX) (j : Cell) : (s.upR k i f).rd j = s.rd j := rfl
@[simp] theorem State.upR_bit (k i : Nat) (f : RingX → RingX) (j : Cell) : (s.upR k i f).bit j = s.bit j := rfl
@[simp] theorem State.upW_half (p d : Nat) (f : Winnow → Winnow) (j : Nat) : (s.upW p d f).half j = s.half j := rfl
@[simp] theorem State.upW_seg (p d : Nat) (f : Winnow → Winnow) (j : Nat) : (s.upW p d f).seg j = s.seg j := rfl
@[simp] theorem State.upW_portx (p d : Nat) (f : Winnow → Winnow) (j : Nat) : (s.upW p d f).portx j = s.portx j := rfl
@[simp] theorem State.upW_engine (p d : Nat) (f : Winnow → Winnow) (j : Nat) : (s.upW p d f).engine j = s.engine j := rfl
@[simp] theorem State.upW_slicex (p d : Nat) (f : Winnow → Winnow) (j : Nat) : (s.upW p d f).slicex j = s.slicex j := rfl
@[simp] theorem State.upW_tile (p d : Nat) (f : Winnow → Winnow) (j : Nat) : (s.upW p d f).tile j = s.tile j := rfl
@[simp] theorem State.upW_ringx (p d : Nat) (f : Winnow → Winnow) (a b : Nat) : (s.upW p d f).ringx a b = s.ringx a b := rfl
@[simp] theorem State.upW_window (p d : Nat) (f : Winnow → Winnow) (a b : Nat) : (s.upW p d f).window a b = s.window a b := rfl
@[simp] theorem State.upW_timeSide (p d : Nat) (f : Winnow → Winnow) (j : Nat) : (s.upW p d f).timeSide j = s.timeSide j := rfl
@[simp] theorem State.upW_rd (p d : Nat) (f : Winnow → Winnow) (j : Cell) : (s.upW p d f).rd j = s.rd j := rfl
@[simp] theorem State.upW_bit (p d : Nat) (f : Winnow → Winnow) (j : Cell) : (s.upW p d f).bit j = s.bit j := rfl
@[simp] theorem State.upWin_half (k w : Nat) (f : Window → Window) (j : Nat) : (s.upWin k w f).half j = s.half j := rfl
@[simp] theorem State.upWin_seg (k w : Nat) (f : Window → Window) (j : Nat) : (s.upWin k w f).seg j = s.seg j := rfl
@[simp] theorem State.upWin_portx (k w : Nat) (f : Window → Window) (j : Nat) : (s.upWin k w f).portx j = s.portx j := rfl
@[simp] theorem State.upWin_engine (k w : Nat) (f : Window → Window) (j : Nat) : (s.upWin k w f).engine j = s.engine j := rfl
@[simp] theorem State.upWin_slicex (k w : Nat) (f : Window → Window) (j : Nat) : (s.upWin k w f).slicex j = s.slicex j := rfl
@[simp] theorem State.upWin_tile (k w : Nat) (f : Window → Window) (j : Nat) : (s.upWin k w f).tile j = s.tile j := rfl
@[simp] theorem State.upWin_ringx (k w : Nat) (f : Window → Window) (a b : Nat) : (s.upWin k w f).ringx a b = s.ringx a b := rfl
@[simp] theorem State.upWin_winnow (k w : Nat) (f : Window → Window) (a b : Nat) : (s.upWin k w f).winnow a b = s.winnow a b := rfl
@[simp] theorem State.upWin_timeSide (k w : Nat) (f : Window → Window) (j : Nat) : (s.upWin k w f).timeSide j = s.timeSide j := rfl
@[simp] theorem State.upWin_rd (k w : Nat) (f : Window → Window) (j : Cell) : (s.upWin k w f).rd j = s.rd j := rfl
@[simp] theorem State.upWin_bit (k w : Nat) (f : Window → Window) (j : Cell) : (s.upWin k w f).bit j = s.bit j := rfl
@[simp] theorem State.upM_half (f : Mgmt → Mgmt) (j : Nat) : (s.upM f).half j = s.half j := rfl
@[simp] theorem State.upM_seg (f : Mgmt → Mgmt) (j : Nat) : (s.upM f).seg j = s.seg j := rfl
@[simp] theorem State.upM_portx (f : Mgmt → Mgmt) (j : Nat) : (s.upM f).portx j = s.portx j := rfl
@[simp] theorem State.upM_engine (f : Mgmt → Mgmt) (j : Nat) : (s.upM f).engine j = s.engine j := rfl
@[simp] theorem State.upM_slicex (f : Mgmt → Mgmt) (j : Nat) : (s.upM f).slicex j = s.slicex j := rfl
@[simp] theorem State.upM_tile (f : Mgmt → Mgmt) (j : Nat) : (s.upM f).tile j = s.tile j := rfl
@[simp] theorem State.upM_ringx (f : Mgmt → Mgmt) (a b : Nat) : (s.upM f).ringx a b = s.ringx a b := rfl
@[simp] theorem State.upM_winnow (f : Mgmt → Mgmt) (a b : Nat) : (s.upM f).winnow a b = s.winnow a b := rfl
@[simp] theorem State.upM_window (f : Mgmt → Mgmt) (a b : Nat) : (s.upM f).window a b = s.window a b := rfl
@[simp] theorem State.upM_timeSide (f : Mgmt → Mgmt) (j : Nat) : (s.upM f).timeSide j = s.timeSide j := rfl
@[simp] theorem State.upM_rd (f : Mgmt → Mgmt) (j : Cell) : (s.upM f).rd j = s.rd j := rfl
@[simp] theorem State.upM_bit (f : Mgmt → Mgmt) (j : Cell) : (s.upM f).bit j = s.bit j := rfl
@[simp] theorem State.upPw_half (f : Power → Power) (j : Nat) : (s.upPw f).half j = s.half j := rfl
@[simp] theorem State.upPw_seg (f : Power → Power) (j : Nat) : (s.upPw f).seg j = s.seg j := rfl
@[simp] theorem State.upPw_portx (f : Power → Power) (j : Nat) : (s.upPw f).portx j = s.portx j := rfl
@[simp] theorem State.upPw_engine (f : Power → Power) (j : Nat) : (s.upPw f).engine j = s.engine j := rfl
@[simp] theorem State.upPw_slicex (f : Power → Power) (j : Nat) : (s.upPw f).slicex j = s.slicex j := rfl
@[simp] theorem State.upPw_tile (f : Power → Power) (j : Nat) : (s.upPw f).tile j = s.tile j := rfl
@[simp] theorem State.upPw_ringx (f : Power → Power) (a b : Nat) : (s.upPw f).ringx a b = s.ringx a b := rfl
@[simp] theorem State.upPw_winnow (f : Power → Power) (a b : Nat) : (s.upPw f).winnow a b = s.winnow a b := rfl
@[simp] theorem State.upPw_window (f : Power → Power) (a b : Nat) : (s.upPw f).window a b = s.window a b := rfl
@[simp] theorem State.upPw_timeSide (f : Power → Power) (j : Nat) : (s.upPw f).timeSide j = s.timeSide j := rfl
@[simp] theorem State.upPw_rd (f : Power → Power) (j : Cell) : (s.upPw f).rd j = s.rd j := rfl
@[simp] theorem State.upPw_bit (f : Power → Power) (j : Cell) : (s.upPw f).bit j = s.bit j := rfl
@[simp] theorem State.upTim_half (f : Tim → Tim) (j : Nat) : (s.upTim f).half j = s.half j := rfl
@[simp] theorem State.upTim_seg (f : Tim → Tim) (j : Nat) : (s.upTim f).seg j = s.seg j := rfl
@[simp] theorem State.upTim_portx (f : Tim → Tim) (j : Nat) : (s.upTim f).portx j = s.portx j := rfl
@[simp] theorem State.upTim_engine (f : Tim → Tim) (j : Nat) : (s.upTim f).engine j = s.engine j := rfl
@[simp] theorem State.upTim_slicex (f : Tim → Tim) (j : Nat) : (s.upTim f).slicex j = s.slicex j := rfl
@[simp] theorem State.upTim_tile (f : Tim → Tim) (j : Nat) : (s.upTim f).tile j = s.tile j := rfl
@[simp] theorem State.upTim_ringx (f : Tim → Tim) (a b : Nat) : (s.upTim f).ringx a b = s.ringx a b := rfl
@[simp] theorem State.upTim_winnow (f : Tim → Tim) (a b : Nat) : (s.upTim f).winnow a b = s.winnow a b := rfl
@[simp] theorem State.upTim_window (f : Tim → Tim) (a b : Nat) : (s.upTim f).window a b = s.window a b := rfl
@[simp] theorem State.upTim_rd (f : Tim → Tim) (j : Cell) : (s.upTim f).rd j = s.rd j := rfl
@[simp] theorem State.upTim_bit (f : Tim → Tim) (j : Cell) : (s.upTim f).bit j = s.bit j := rfl
@[simp] theorem State.upX_half (f : Txn → Txn) (j : Nat) : (s.upX f).half j = s.half j := rfl
@[simp] theorem State.upX_seg (f : Txn → Txn) (j : Nat) : (s.upX f).seg j = s.seg j := rfl
@[simp] theorem State.upX_portx (f : Txn → Txn) (j : Nat) : (s.upX f).portx j = s.portx j := rfl
@[simp] theorem State.upX_engine (f : Txn → Txn) (j : Nat) : (s.upX f).engine j = s.engine j := rfl
@[simp] theorem State.upX_slicex (f : Txn → Txn) (j : Nat) : (s.upX f).slicex j = s.slicex j := rfl
@[simp] theorem State.upX_tile (f : Txn → Txn) (j : Nat) : (s.upX f).tile j = s.tile j := rfl
@[simp] theorem State.upX_ringx (f : Txn → Txn) (a b : Nat) : (s.upX f).ringx a b = s.ringx a b := rfl
@[simp] theorem State.upX_winnow (f : Txn → Txn) (a b : Nat) : (s.upX f).winnow a b = s.winnow a b := rfl
@[simp] theorem State.upX_window (f : Txn → Txn) (a b : Nat) : (s.upX f).window a b = s.window a b := rfl
@[simp] theorem State.upX_timeSide (f : Txn → Txn) (j : Nat) : (s.upX f).timeSide j = s.timeSide j := rfl
@[simp] theorem State.upX_rd (f : Txn → Txn) (j : Cell) : (s.upX f).rd j = s.rd j := rfl
@[simp] theorem State.upX_bit (f : Txn → Txn) (j : Cell) : (s.upX f).bit j = s.bit j := rfl
@[simp] theorem State.emit_half (o : Out) (j : Nat) : (s.emit o).half j = s.half j := rfl
@[simp] theorem State.emit_seg (o : Out) (j : Nat) : (s.emit o).seg j = s.seg j := rfl
@[simp] theorem State.emit_portx (o : Out) (j : Nat) : (s.emit o).portx j = s.portx j := rfl
@[simp] theorem State.emit_engine (o : Out) (j : Nat) : (s.emit o).engine j = s.engine j := rfl
@[simp] theorem State.emit_slicex (o : Out) (j : Nat) : (s.emit o).slicex j = s.slicex j := rfl
@[simp] theorem State.emit_tile (o : Out) (j : Nat) : (s.emit o).tile j = s.tile j := rfl
@[simp] theorem State.emit_ringx (o : Out) (a b : Nat) : (s.emit o).ringx a b = s.ringx a b := rfl
@[simp] theorem State.emit_winnow (o : Out) (a b : Nat) : (s.emit o).winnow a b = s.winnow a b := rfl
@[simp] theorem State.emit_window (o : Out) (a b : Nat) : (s.emit o).window a b = s.window a b := rfl
@[simp] theorem State.emit_timeSide (o : Out) (j : Nat) : (s.emit o).timeSide j = s.timeSide j := rfl
@[simp] theorem State.emit_rd (o : Out) (j : Cell) : (s.emit o).rd j = s.rd j := rfl
@[simp] theorem State.emit_bit (o : Out) (j : Cell) : (s.emit o).bit j = s.bit j := rfl
@[simp] theorem State.setTime_half (v c : Nat) (j : Nat) : (s.setTime v c).half j = s.half j := rfl
@[simp] theorem State.setTime_seg (v c : Nat) (j : Nat) : (s.setTime v c).seg j = s.seg j := rfl
@[simp] theorem State.setTime_portx (v c : Nat) (j : Nat) : (s.setTime v c).portx j = s.portx j := rfl
@[simp] theorem State.setTime_engine (v c : Nat) (j : Nat) : (s.setTime v c).engine j = s.engine j := rfl
@[simp] theorem State.setTime_slicex (v c : Nat) (j : Nat) : (s.setTime v c).slicex j = s.slicex j := rfl
@[simp] theorem State.setTime_tile (v c : Nat) (j : Nat) : (s.setTime v c).tile j = s.tile j := rfl
@[simp] theorem State.setTime_ringx (v c : Nat) (a b : Nat) : (s.setTime v c).ringx a b = s.ringx a b := rfl
@[simp] theorem State.setTime_winnow (v c : Nat) (a b : Nat) : (s.setTime v c).winnow a b = s.winnow a b := rfl
@[simp] theorem State.setTime_window (v c : Nat) (a b : Nat) : (s.setTime v c).window a b = s.window a b := rfl
@[simp] theorem State.setTime_timeSide (v c : Nat) (j : Nat) : (s.setTime v c).timeSide j = s.timeSide j := rfl
@[simp] theorem State.setTime_rd (v c : Nat) (j : Cell) : (s.setTime v c).rd j = s.rd j := rfl
@[simp] theorem State.setTime_bit (v c : Nat) (j : Cell) : (s.setTime v c).bit j = s.bit j := rfl
@[simp] theorem State.setNow_half (v : Nat) (j : Nat) : (s.setNow v).half j = s.half j := rfl
@[simp] theorem State.setNow_seg (v : Nat) (j : Nat) : (s.setNow v).seg j = s.seg j := rfl
@[simp] theorem State.setNow_portx (v : Nat) (j : Nat) : (s.setNow v).portx j = s.portx j := rfl
@[simp] theorem State.setNow_engine (v : Nat) (j : Nat) : (s.setNow v).engine j = s.engine j := rfl
@[simp] theorem State.setNow_slicex (v : Nat) (j : Nat) : (s.setNow v).slicex j = s.slicex j := rfl
@[simp] theorem State.setNow_tile (v : Nat) (j : Nat) : (s.setNow v).tile j = s.tile j := rfl
@[simp] theorem State.setNow_ringx (v : Nat) (a b : Nat) : (s.setNow v).ringx a b = s.ringx a b := rfl
@[simp] theorem State.setNow_winnow (v : Nat) (a b : Nat) : (s.setNow v).winnow a b = s.winnow a b := rfl
@[simp] theorem State.setNow_window (v : Nat) (a b : Nat) : (s.setNow v).window a b = s.window a b := rfl
@[simp] theorem State.setNow_timeSide (v : Nat) (j : Nat) : (s.setNow v).timeSide j = s.timeSide j := rfl
@[simp] theorem State.setNow_rd (v : Nat) (j : Cell) : (s.setNow v).rd j = s.rd j := rfl
@[simp] theorem State.setNow_bit (v : Nat) (j : Cell) : (s.setNow v).bit j = s.bit j := rfl

@[simp] theorem State.upH_half_same (h : Nat) (f : Half → Half) : (s.upH h f).half h = f (s.half h) :=
  Tab.get_set_same ..
theorem State.upH_half_ne (f : Half → Half) {h j : Nat} (hj : j ≠ h) : (s.upH h f).half j = s.half j :=
  Tab.get_set_ne _ _ _ hj
@[simp] theorem State.upS_seg_same (q : Nat) (f : Seg → Seg) : (s.upS q f).seg q = f (s.seg q) :=
  Tab.get_set_same ..
theorem State.upS_seg_ne (f : Seg → Seg) {q j : Nat} (hj : j ≠ q) : (s.upS q f).seg j = s.seg j :=
  Tab.get_set_ne _ _ _ hj
@[simp] theorem State.upP_portx_same (p : Nat) (f : PortX → PortX) : (s.upP p f).portx p = f (s.portx p) :=
  Tab.get_set_same ..
theorem State.upP_portx_ne (f : PortX → PortX) {p j : Nat} (hj : j ≠ p) : (s.upP p f).portx j = s.portx j :=
  Tab.get_set_ne _ _ _ hj
@[simp] theorem State.upE_engine_same (k : Nat) (f : Engine → Engine) : (s.upE k f).engine k = f (s.engine k) :=
  Tab.get_set_same ..
theorem State.upE_engine_ne (f : Engine → Engine) {k j : Nat} (hj : j ≠ k) : (s.upE k f).engine j = s.engine j :=
  Tab.get_set_ne _ _ _ hj
@[simp] theorem State.upSl_slicex_same (k : Nat) (f : SliceX → SliceX) : (s.upSl k f).slicex k = f (s.slicex k) :=
  Tab.get_set_same ..
theorem State.upSl_slicex_ne (f : SliceX → SliceX) {k j : Nat} (hj : j ≠ k) : (s.upSl k f).slicex j = s.slicex j :=
  Tab.get_set_ne _ _ _ hj
@[simp] theorem State.upT_tile_same (i : Nat) (f : Tile → Tile) : (s.upT i f).tile i = f (s.tile i) :=
  Tab.get_set_same ..
theorem State.upT_tile_ne (f : Tile → Tile) {i j : Nat} (hj : j ≠ i) : (s.upT i f).tile j = s.tile j :=
  Tab.get_set_ne _ _ _ hj
@[simp] theorem State.upR_ringx_same (k i : Nat) (f : RingX → RingX) : (s.upR k i f).ringx k i = f (s.ringx k i) :=
  Tab.get_set_same ..
@[simp] theorem State.upW_winnow_same (p d : Nat) (f : Winnow → Winnow) : (s.upW p d f).winnow p d = f (s.winnow p d) :=
  Tab.get_set_same ..
@[simp] theorem State.upWin_window_same (k w : Nat) (f : Window → Window) : (s.upWin k w f).window k w = f (s.window k w) :=
  Tab.get_set_same ..

/-! ### Fields of registers -/

@[simp] theorem State.rd_on_same (c : Cell) : (s.on c).rd c = 1 % 2 ^ c.width := State.rd_wr_same ..
@[simp] theorem State.rd_off_same (c : Cell) : (s.off c).rd c = 0 := by
  rw [State.off, State.rd_wr_same]
  exact Nat.zero_mod _
@[simp] theorem State.rd_put_same (c : Cell) (b : Bool) : (s.put c b).rd c = ofBool b % 2 ^ c.width := State.rd_wr_same ..
@[simp] theorem State.rd_satUp_same (c : Cell) : (s.satUp c).rd c = satInc c.width (s.rd c) % 2 ^ c.width :=
  State.rd_wr_same ..
@[simp] theorem State.rd_wrapUp_same (c : Cell) : (s.wrapUp c).rd c = (s.rd c + 1) % 2 ^ c.width := State.rd_wr_same ..
@[simp] theorem State.on_halves (c : Cell) : (s.on c).halves = s.halves := rfl
@[simp] theorem State.on_sides (c : Cell) : (s.on c).sides = s.sides := rfl
@[simp] theorem State.on_ports (c : Cell) : (s.on c).ports = s.ports := rfl
@[simp] theorem State.on_era (c : Cell) : (s.on c).era = s.era := rfl
@[simp] theorem State.on_bct (c : Cell) : (s.on c).bct = s.bct := rfl
@[simp] theorem State.on_calTab (c : Cell) : (s.on c).calTab = s.calTab := rfl
@[simp] theorem State.on_engines (c : Cell) : (s.on c).engines = s.engines := rfl
@[simp] theorem State.on_slices (c : Cell) : (s.on c).slices = s.slices := rfl
@[simp] theorem State.on_rings (c : Cell) : (s.on c).rings = s.rings := rfl
@[simp] theorem State.on_tags (c : Cell) : (s.on c).tags = s.tags := rfl
@[simp] theorem State.on_flash (c : Cell) : (s.on c).flash = s.flash := rfl
@[simp] theorem State.on_calStore (c : Cell) : (s.on c).calStore = s.calStore := rfl
@[simp] theorem State.on_storeWait (c : Cell) : (s.on c).storeWait = s.storeWait := rfl
@[simp] theorem State.on_lastStore (c : Cell) : (s.on c).lastStore = s.lastStore := rfl
@[simp] theorem State.on_fuses (c : Cell) : (s.on c).fuses = s.fuses := rfl
@[simp] theorem State.on_chip (c : Cell) : (s.on c).chip = s.chip := rfl
@[simp] theorem State.on_lastWritten (c : Cell) : (s.on c).lastWritten = s.lastWritten := rfl
@[simp] theorem State.on_imgOp (c : Cell) : (s.on c).imgOp = s.imgOp := rfl
@[simp] theorem State.on_txn (c : Cell) : (s.on c).txn = s.txn := rfl
@[simp] theorem State.on_mgmt (c : Cell) : (s.on c).mgmt = s.mgmt := rfl
@[simp] theorem State.on_winnows (c : Cell) : (s.on c).winnows = s.winnows := rfl
@[simp] theorem State.on_windows (c : Cell) : (s.on c).windows = s.windows := rfl
@[simp] theorem State.on_tim (c : Cell) : (s.on c).tim = s.tim := rfl
@[simp] theorem State.on_snap (c : Cell) : (s.on c).snap = s.snap := rfl
@[simp] theorem State.on_tiles (c : Cell) : (s.on c).tiles = s.tiles := rfl
@[simp] theorem State.on_power (c : Cell) : (s.on c).power = s.power := rfl
@[simp] theorem State.on_evq (c : Cell) : (s.on c).evq = s.evq := rfl
@[simp] theorem State.on_staged (c : Cell) : (s.on c).staged = s.staged := rfl
@[simp] theorem State.on_now (c : Cell) : (s.on c).now = s.now := rfl
@[simp] theorem State.on_count (c : Cell) : (s.on c).count = s.count := rfl
@[simp] theorem State.on_replicas (c : Cell) : (s.on c).replicas = s.replicas := rfl
@[simp] theorem State.on_elapsed (c : Cell) : (s.on c).elapsed = s.elapsed := rfl
@[simp] theorem State.on_outbox (c : Cell) : (s.on c).outbox = s.outbox := rfl
@[simp] theorem State.on_freeCtr (c : Cell) : (s.on c).freeCtr = s.freeCtr := rfl
@[simp] theorem State.on_pending (c : Cell) : (s.on c).pending = s.pending := rfl
@[simp] theorem State.on_half (c : Cell) (j : Nat) : (s.on c).half j = s.half j := rfl
@[simp] theorem State.on_seg (c : Cell) (j : Nat) : (s.on c).seg j = s.seg j := rfl
@[simp] theorem State.on_portx (c : Cell) (j : Nat) : (s.on c).portx j = s.portx j := rfl
@[simp] theorem State.on_engine (c : Cell) (j : Nat) : (s.on c).engine j = s.engine j := rfl
@[simp] theorem State.on_slicex (c : Cell) (j : Nat) : (s.on c).slicex j = s.slicex j := rfl
@[simp] theorem State.on_tile (c : Cell) (j : Nat) : (s.on c).tile j = s.tile j := rfl
@[simp] theorem State.on_ringx (c : Cell) (a b : Nat) : (s.on c).ringx a b = s.ringx a b := rfl
@[simp] theorem State.on_winnow (c : Cell) (a b : Nat) : (s.on c).winnow a b = s.winnow a b := rfl
@[simp] theorem State.on_window (c : Cell) (a b : Nat) : (s.on c).window a b = s.window a b := rfl
@[simp] theorem State.on_timeSide (c : Cell) (j : Nat) : (s.on c).timeSide j = s.timeSide j := rfl
@[simp] theorem State.off_halves (c : Cell) : (s.off c).halves = s.halves := rfl
@[simp] theorem State.off_sides (c : Cell) : (s.off c).sides = s.sides := rfl
@[simp] theorem State.off_ports (c : Cell) : (s.off c).ports = s.ports := rfl
@[simp] theorem State.off_era (c : Cell) : (s.off c).era = s.era := rfl
@[simp] theorem State.off_bct (c : Cell) : (s.off c).bct = s.bct := rfl
@[simp] theorem State.off_calTab (c : Cell) : (s.off c).calTab = s.calTab := rfl
@[simp] theorem State.off_engines (c : Cell) : (s.off c).engines = s.engines := rfl
@[simp] theorem State.off_slices (c : Cell) : (s.off c).slices = s.slices := rfl
@[simp] theorem State.off_rings (c : Cell) : (s.off c).rings = s.rings := rfl
@[simp] theorem State.off_tags (c : Cell) : (s.off c).tags = s.tags := rfl
@[simp] theorem State.off_flash (c : Cell) : (s.off c).flash = s.flash := rfl
@[simp] theorem State.off_calStore (c : Cell) : (s.off c).calStore = s.calStore := rfl
@[simp] theorem State.off_storeWait (c : Cell) : (s.off c).storeWait = s.storeWait := rfl
@[simp] theorem State.off_lastStore (c : Cell) : (s.off c).lastStore = s.lastStore := rfl
@[simp] theorem State.off_fuses (c : Cell) : (s.off c).fuses = s.fuses := rfl
@[simp] theorem State.off_chip (c : Cell) : (s.off c).chip = s.chip := rfl
@[simp] theorem State.off_lastWritten (c : Cell) : (s.off c).lastWritten = s.lastWritten := rfl
@[simp] theorem State.off_imgOp (c : Cell) : (s.off c).imgOp = s.imgOp := rfl
@[simp] theorem State.off_txn (c : Cell) : (s.off c).txn = s.txn := rfl
@[simp] theorem State.off_mgmt (c : Cell) : (s.off c).mgmt = s.mgmt := rfl
@[simp] theorem State.off_winnows (c : Cell) : (s.off c).winnows = s.winnows := rfl
@[simp] theorem State.off_windows (c : Cell) : (s.off c).windows = s.windows := rfl
@[simp] theorem State.off_tim (c : Cell) : (s.off c).tim = s.tim := rfl
@[simp] theorem State.off_snap (c : Cell) : (s.off c).snap = s.snap := rfl
@[simp] theorem State.off_tiles (c : Cell) : (s.off c).tiles = s.tiles := rfl
@[simp] theorem State.off_power (c : Cell) : (s.off c).power = s.power := rfl
@[simp] theorem State.off_evq (c : Cell) : (s.off c).evq = s.evq := rfl
@[simp] theorem State.off_staged (c : Cell) : (s.off c).staged = s.staged := rfl
@[simp] theorem State.off_now (c : Cell) : (s.off c).now = s.now := rfl
@[simp] theorem State.off_count (c : Cell) : (s.off c).count = s.count := rfl
@[simp] theorem State.off_replicas (c : Cell) : (s.off c).replicas = s.replicas := rfl
@[simp] theorem State.off_elapsed (c : Cell) : (s.off c).elapsed = s.elapsed := rfl
@[simp] theorem State.off_outbox (c : Cell) : (s.off c).outbox = s.outbox := rfl
@[simp] theorem State.off_freeCtr (c : Cell) : (s.off c).freeCtr = s.freeCtr := rfl
@[simp] theorem State.off_pending (c : Cell) : (s.off c).pending = s.pending := rfl
@[simp] theorem State.off_half (c : Cell) (j : Nat) : (s.off c).half j = s.half j := rfl
@[simp] theorem State.off_seg (c : Cell) (j : Nat) : (s.off c).seg j = s.seg j := rfl
@[simp] theorem State.off_portx (c : Cell) (j : Nat) : (s.off c).portx j = s.portx j := rfl
@[simp] theorem State.off_engine (c : Cell) (j : Nat) : (s.off c).engine j = s.engine j := rfl
@[simp] theorem State.off_slicex (c : Cell) (j : Nat) : (s.off c).slicex j = s.slicex j := rfl
@[simp] theorem State.off_tile (c : Cell) (j : Nat) : (s.off c).tile j = s.tile j := rfl
@[simp] theorem State.off_ringx (c : Cell) (a b : Nat) : (s.off c).ringx a b = s.ringx a b := rfl
@[simp] theorem State.off_winnow (c : Cell) (a b : Nat) : (s.off c).winnow a b = s.winnow a b := rfl
@[simp] theorem State.off_window (c : Cell) (a b : Nat) : (s.off c).window a b = s.window a b := rfl
@[simp] theorem State.off_timeSide (c : Cell) (j : Nat) : (s.off c).timeSide j = s.timeSide j := rfl
@[simp] theorem State.put_halves (c : Cell) (b : Bool) : (s.put c b).halves = s.halves := rfl
@[simp] theorem State.put_sides (c : Cell) (b : Bool) : (s.put c b).sides = s.sides := rfl
@[simp] theorem State.put_ports (c : Cell) (b : Bool) : (s.put c b).ports = s.ports := rfl
@[simp] theorem State.put_era (c : Cell) (b : Bool) : (s.put c b).era = s.era := rfl
@[simp] theorem State.put_bct (c : Cell) (b : Bool) : (s.put c b).bct = s.bct := rfl
@[simp] theorem State.put_calTab (c : Cell) (b : Bool) : (s.put c b).calTab = s.calTab := rfl
@[simp] theorem State.put_engines (c : Cell) (b : Bool) : (s.put c b).engines = s.engines := rfl
@[simp] theorem State.put_slices (c : Cell) (b : Bool) : (s.put c b).slices = s.slices := rfl
@[simp] theorem State.put_rings (c : Cell) (b : Bool) : (s.put c b).rings = s.rings := rfl
@[simp] theorem State.put_tags (c : Cell) (b : Bool) : (s.put c b).tags = s.tags := rfl
@[simp] theorem State.put_flash (c : Cell) (b : Bool) : (s.put c b).flash = s.flash := rfl
@[simp] theorem State.put_calStore (c : Cell) (b : Bool) : (s.put c b).calStore = s.calStore := rfl
@[simp] theorem State.put_storeWait (c : Cell) (b : Bool) : (s.put c b).storeWait = s.storeWait := rfl
@[simp] theorem State.put_lastStore (c : Cell) (b : Bool) : (s.put c b).lastStore = s.lastStore := rfl
@[simp] theorem State.put_fuses (c : Cell) (b : Bool) : (s.put c b).fuses = s.fuses := rfl
@[simp] theorem State.put_chip (c : Cell) (b : Bool) : (s.put c b).chip = s.chip := rfl
@[simp] theorem State.put_lastWritten (c : Cell) (b : Bool) : (s.put c b).lastWritten = s.lastWritten := rfl
@[simp] theorem State.put_imgOp (c : Cell) (b : Bool) : (s.put c b).imgOp = s.imgOp := rfl
@[simp] theorem State.put_txn (c : Cell) (b : Bool) : (s.put c b).txn = s.txn := rfl
@[simp] theorem State.put_mgmt (c : Cell) (b : Bool) : (s.put c b).mgmt = s.mgmt := rfl
@[simp] theorem State.put_winnows (c : Cell) (b : Bool) : (s.put c b).winnows = s.winnows := rfl
@[simp] theorem State.put_windows (c : Cell) (b : Bool) : (s.put c b).windows = s.windows := rfl
@[simp] theorem State.put_tim (c : Cell) (b : Bool) : (s.put c b).tim = s.tim := rfl
@[simp] theorem State.put_snap (c : Cell) (b : Bool) : (s.put c b).snap = s.snap := rfl
@[simp] theorem State.put_tiles (c : Cell) (b : Bool) : (s.put c b).tiles = s.tiles := rfl
@[simp] theorem State.put_power (c : Cell) (b : Bool) : (s.put c b).power = s.power := rfl
@[simp] theorem State.put_evq (c : Cell) (b : Bool) : (s.put c b).evq = s.evq := rfl
@[simp] theorem State.put_staged (c : Cell) (b : Bool) : (s.put c b).staged = s.staged := rfl
@[simp] theorem State.put_now (c : Cell) (b : Bool) : (s.put c b).now = s.now := rfl
@[simp] theorem State.put_count (c : Cell) (b : Bool) : (s.put c b).count = s.count := rfl
@[simp] theorem State.put_replicas (c : Cell) (b : Bool) : (s.put c b).replicas = s.replicas := rfl
@[simp] theorem State.put_elapsed (c : Cell) (b : Bool) : (s.put c b).elapsed = s.elapsed := rfl
@[simp] theorem State.put_outbox (c : Cell) (b : Bool) : (s.put c b).outbox = s.outbox := rfl
@[simp] theorem State.put_freeCtr (c : Cell) (b : Bool) : (s.put c b).freeCtr = s.freeCtr := rfl
@[simp] theorem State.put_pending (c : Cell) (b : Bool) : (s.put c b).pending = s.pending := rfl
@[simp] theorem State.put_half (c : Cell) (b : Bool) (j : Nat) : (s.put c b).half j = s.half j := rfl
@[simp] theorem State.put_seg (c : Cell) (b : Bool) (j : Nat) : (s.put c b).seg j = s.seg j := rfl
@[simp] theorem State.put_portx (c : Cell) (b : Bool) (j : Nat) : (s.put c b).portx j = s.portx j := rfl
@[simp] theorem State.put_engine (c : Cell) (b : Bool) (j : Nat) : (s.put c b).engine j = s.engine j := rfl
@[simp] theorem State.put_slicex (c : Cell) (b : Bool) (j : Nat) : (s.put c b).slicex j = s.slicex j := rfl
@[simp] theorem State.put_tile (c : Cell) (b : Bool) (j : Nat) : (s.put c b).tile j = s.tile j := rfl
@[simp] theorem State.put_ringx (c : Cell) (b : Bool) (a b : Nat) : (s.put c b).ringx a b = s.ringx a b := rfl
@[simp] theorem State.put_winnow (c : Cell) (b : Bool) (a b : Nat) : (s.put c b).winnow a b = s.winnow a b := rfl
@[simp] theorem State.put_window (c : Cell) (b : Bool) (a b : Nat) : (s.put c b).window a b = s.window a b := rfl
@[simp] theorem State.put_timeSide (c : Cell) (b : Bool) (j : Nat) : (s.put c b).timeSide j = s.timeSide j := rfl
@[simp] theorem State.satUp_halves (c : Cell) : (s.satUp c).halves = s.halves := rfl
@[simp] theorem State.satUp_sides (c : Cell) : (s.satUp c).sides = s.sides := rfl
@[simp] theorem State.satUp_ports (c : Cell) : (s.satUp c).ports = s.ports := rfl
@[simp] theorem State.satUp_era (c : Cell) : (s.satUp c).era = s.era := rfl
@[simp] theorem State.satUp_bct (c : Cell) : (s.satUp c).bct = s.bct := rfl
@[simp] theorem State.satUp_calTab (c : Cell) : (s.satUp c).calTab = s.calTab := rfl
@[simp] theorem State.satUp_engines (c : Cell) : (s.satUp c).engines = s.engines := rfl
@[simp] theorem State.satUp_slices (c : Cell) : (s.satUp c).slices = s.slices := rfl
@[simp] theorem State.satUp_rings (c : Cell) : (s.satUp c).rings = s.rings := rfl
@[simp] theorem State.satUp_tags (c : Cell) : (s.satUp c).tags = s.tags := rfl
@[simp] theorem State.satUp_flash (c : Cell) : (s.satUp c).flash = s.flash := rfl
@[simp] theorem State.satUp_calStore (c : Cell) : (s.satUp c).calStore = s.calStore := rfl
@[simp] theorem State.satUp_storeWait (c : Cell) : (s.satUp c).storeWait = s.storeWait := rfl
@[simp] theorem State.satUp_lastStore (c : Cell) : (s.satUp c).lastStore = s.lastStore := rfl
@[simp] theorem State.satUp_fuses (c : Cell) : (s.satUp c).fuses = s.fuses := rfl
@[simp] theorem State.satUp_chip (c : Cell) : (s.satUp c).chip = s.chip := rfl
@[simp] theorem State.satUp_lastWritten (c : Cell) : (s.satUp c).lastWritten = s.lastWritten := rfl
@[simp] theorem State.satUp_imgOp (c : Cell) : (s.satUp c).imgOp = s.imgOp := rfl
@[simp] theorem State.satUp_txn (c : Cell) : (s.satUp c).txn = s.txn := rfl
@[simp] theorem State.satUp_mgmt (c : Cell) : (s.satUp c).mgmt = s.mgmt := rfl
@[simp] theorem State.satUp_winnows (c : Cell) : (s.satUp c).winnows = s.winnows := rfl
@[simp] theorem State.satUp_windows (c : Cell) : (s.satUp c).windows = s.windows := rfl
@[simp] theorem State.satUp_tim (c : Cell) : (s.satUp c).tim = s.tim := rfl
@[simp] theorem State.satUp_snap (c : Cell) : (s.satUp c).snap = s.snap := rfl
@[simp] theorem State.satUp_tiles (c : Cell) : (s.satUp c).tiles = s.tiles := rfl
@[simp] theorem State.satUp_power (c : Cell) : (s.satUp c).power = s.power := rfl
@[simp] theorem State.satUp_evq (c : Cell) : (s.satUp c).evq = s.evq := rfl
@[simp] theorem State.satUp_staged (c : Cell) : (s.satUp c).staged = s.staged := rfl
@[simp] theorem State.satUp_now (c : Cell) : (s.satUp c).now = s.now := rfl
@[simp] theorem State.satUp_count (c : Cell) : (s.satUp c).count = s.count := rfl
@[simp] theorem State.satUp_replicas (c : Cell) : (s.satUp c).replicas = s.replicas := rfl
@[simp] theorem State.satUp_elapsed (c : Cell) : (s.satUp c).elapsed = s.elapsed := rfl
@[simp] theorem State.satUp_outbox (c : Cell) : (s.satUp c).outbox = s.outbox := rfl
@[simp] theorem State.satUp_freeCtr (c : Cell) : (s.satUp c).freeCtr = s.freeCtr := rfl
@[simp] theorem State.satUp_pending (c : Cell) : (s.satUp c).pending = s.pending := rfl
@[simp] theorem State.satUp_half (c : Cell) (j : Nat) : (s.satUp c).half j = s.half j := rfl
@[simp] theorem State.satUp_seg (c : Cell) (j : Nat) : (s.satUp c).seg j = s.seg j := rfl
@[simp] theorem State.satUp_portx (c : Cell) (j : Nat) : (s.satUp c).portx j = s.portx j := rfl
@[simp] theorem State.satUp_engine (c : Cell) (j : Nat) : (s.satUp c).engine j = s.engine j := rfl
@[simp] theorem State.satUp_slicex (c : Cell) (j : Nat) : (s.satUp c).slicex j = s.slicex j := rfl
@[simp] theorem State.satUp_tile (c : Cell) (j : Nat) : (s.satUp c).tile j = s.tile j := rfl
@[simp] theorem State.satUp_ringx (c : Cell) (a b : Nat) : (s.satUp c).ringx a b = s.ringx a b := rfl
@[simp] theorem State.satUp_winnow (c : Cell) (a b : Nat) : (s.satUp c).winnow a b = s.winnow a b := rfl
@[simp] theorem State.satUp_window (c : Cell) (a b : Nat) : (s.satUp c).window a b = s.window a b := rfl
@[simp] theorem State.satUp_timeSide (c : Cell) (j : Nat) : (s.satUp c).timeSide j = s.timeSide j := rfl
@[simp] theorem State.wrapUp_halves (c : Cell) : (s.wrapUp c).halves = s.halves := rfl
@[simp] theorem State.wrapUp_sides (c : Cell) : (s.wrapUp c).sides = s.sides := rfl
@[simp] theorem State.wrapUp_ports (c : Cell) : (s.wrapUp c).ports = s.ports := rfl
@[simp] theorem State.wrapUp_era (c : Cell) : (s.wrapUp c).era = s.era := rfl
@[simp] theorem State.wrapUp_bct (c : Cell) : (s.wrapUp c).bct = s.bct := rfl
@[simp] theorem State.wrapUp_calTab (c : Cell) : (s.wrapUp c).calTab = s.calTab := rfl
@[simp] theorem State.wrapUp_engines (c : Cell) : (s.wrapUp c).engines = s.engines := rfl
@[simp] theorem State.wrapUp_slices (c : Cell) : (s.wrapUp c).slices = s.slices := rfl
@[simp] theorem State.wrapUp_rings (c : Cell) : (s.wrapUp c).rings = s.rings := rfl
@[simp] theorem State.wrapUp_tags (c : Cell) : (s.wrapUp c).tags = s.tags := rfl
@[simp] theorem State.wrapUp_flash (c : Cell) : (s.wrapUp c).flash = s.flash := rfl
@[simp] theorem State.wrapUp_calStore (c : Cell) : (s.wrapUp c).calStore = s.calStore := rfl
@[simp] theorem State.wrapUp_storeWait (c : Cell) : (s.wrapUp c).storeWait = s.storeWait := rfl
@[simp] theorem State.wrapUp_lastStore (c : Cell) : (s.wrapUp c).lastStore = s.lastStore := rfl
@[simp] theorem State.wrapUp_fuses (c : Cell) : (s.wrapUp c).fuses = s.fuses := rfl
@[simp] theorem State.wrapUp_chip (c : Cell) : (s.wrapUp c).chip = s.chip := rfl
@[simp] theorem State.wrapUp_lastWritten (c : Cell) : (s.wrapUp c).lastWritten = s.lastWritten := rfl
@[simp] theorem State.wrapUp_imgOp (c : Cell) : (s.wrapUp c).imgOp = s.imgOp := rfl
@[simp] theorem State.wrapUp_txn (c : Cell) : (s.wrapUp c).txn = s.txn := rfl
@[simp] theorem State.wrapUp_mgmt (c : Cell) : (s.wrapUp c).mgmt = s.mgmt := rfl
@[simp] theorem State.wrapUp_winnows (c : Cell) : (s.wrapUp c).winnows = s.winnows := rfl
@[simp] theorem State.wrapUp_windows (c : Cell) : (s.wrapUp c).windows = s.windows := rfl
@[simp] theorem State.wrapUp_tim (c : Cell) : (s.wrapUp c).tim = s.tim := rfl
@[simp] theorem State.wrapUp_snap (c : Cell) : (s.wrapUp c).snap = s.snap := rfl
@[simp] theorem State.wrapUp_tiles (c : Cell) : (s.wrapUp c).tiles = s.tiles := rfl
@[simp] theorem State.wrapUp_power (c : Cell) : (s.wrapUp c).power = s.power := rfl
@[simp] theorem State.wrapUp_evq (c : Cell) : (s.wrapUp c).evq = s.evq := rfl
@[simp] theorem State.wrapUp_staged (c : Cell) : (s.wrapUp c).staged = s.staged := rfl
@[simp] theorem State.wrapUp_now (c : Cell) : (s.wrapUp c).now = s.now := rfl
@[simp] theorem State.wrapUp_count (c : Cell) : (s.wrapUp c).count = s.count := rfl
@[simp] theorem State.wrapUp_replicas (c : Cell) : (s.wrapUp c).replicas = s.replicas := rfl
@[simp] theorem State.wrapUp_elapsed (c : Cell) : (s.wrapUp c).elapsed = s.elapsed := rfl
@[simp] theorem State.wrapUp_outbox (c : Cell) : (s.wrapUp c).outbox = s.outbox := rfl
@[simp] theorem State.wrapUp_freeCtr (c : Cell) : (s.wrapUp c).freeCtr = s.freeCtr := rfl
@[simp] theorem State.wrapUp_pending (c : Cell) : (s.wrapUp c).pending = s.pending := rfl
@[simp] theorem State.wrapUp_half (c : Cell) (j : Nat) : (s.wrapUp c).half j = s.half j := rfl
@[simp] theorem State.wrapUp_seg (c : Cell) (j : Nat) : (s.wrapUp c).seg j = s.seg j := rfl
@[simp] theorem State.wrapUp_portx (c : Cell) (j : Nat) : (s.wrapUp c).portx j = s.portx j := rfl
@[simp] theorem State.wrapUp_engine (c : Cell) (j : Nat) : (s.wrapUp c).engine j = s.engine j := rfl
@[simp] theorem State.wrapUp_slicex (c : Cell) (j : Nat) : (s.wrapUp c).slicex j = s.slicex j := rfl
@[simp] theorem State.wrapUp_tile (c : Cell) (j : Nat) : (s.wrapUp c).tile j = s.tile j := rfl
@[simp] theorem State.wrapUp_ringx (c : Cell) (a b : Nat) : (s.wrapUp c).ringx a b = s.ringx a b := rfl
@[simp] theorem State.wrapUp_winnow (c : Cell) (a b : Nat) : (s.wrapUp c).winnow a b = s.winnow a b := rfl
@[simp] theorem State.wrapUp_window (c : Cell) (a b : Nat) : (s.wrapUp c).window a b = s.window a b := rfl
@[simp] theorem State.wrapUp_timeSide (c : Cell) (j : Nat) : (s.wrapUp c).timeSide j = s.timeSide j := rfl

end Sys2Proof.Machine
end

