-- ==== Sys2Proof/Laws/Reads.lean ====
section
/-! SUPPORT. What each operation leaves readable: a register field outside its footprint reads as before. -/

set_option Elab.async false

set_option linter.all false

namespace Sys2Proof.Machine

/-- Whether a field, by name, is outside a footprint. -/
def Foot.misses (F : Foot) (n : Nat) : Bool :=
  match F.fields with
  | none => false
  | some fs => !fs.contains n

theorem Goes.rd_misses {F : Foot} {s t : State} (g : Goes F s t) {c : Cell} (h : F.misses (fieldName c.key) = true) :
    t.rd c = s.rd c := by
  unfold Foot.misses at h
  split at h
  · cases h
  · rename_i fs hf
    exact g.rd hf rfl (by simpa using h)

section
variable (s : State) (c : Cell)

@[simp] theorem State.rd_wr_name (d : Cell) (v : Nat) (h : fieldName c.key ≠ fieldName d.key) : (s.wr d v).rd c = s.rd c :=
  State.rd_wr_ne s d c v (key_ne_of_name rfl rfl h)
@[simp] theorem State.rd_on_name (d : Cell) (h : fieldName c.key ≠ fieldName d.key) : (s.on d).rd c = s.rd c :=
  State.rd_wr_name _ _ _ _ h
@[simp] theorem State.rd_off_name (d : Cell) (h : fieldName c.key ≠ fieldName d.key) : (s.off d).rd c = s.rd c :=
  State.rd_wr_name _ _ _ _ h
@[simp] theorem State.rd_put_name (d : Cell) (b : Bool) (h : fieldName c.key ≠ fieldName d.key) : (s.put d b).rd c = s.rd c :=
  State.rd_wr_name _ _ _ _ h
@[simp] theorem State.rd_satUp_name (d : Cell) (h : fieldName c.key ≠ fieldName d.key) : (s.satUp d).rd c = s.rd c :=
  State.rd_wr_name _ _ _ _ h
@[simp] theorem State.rd_wrapUp_name (d : Cell) (h : fieldName c.key ≠ fieldName d.key) : (s.wrapUp d).rd c = s.rd c :=
  State.rd_wr_name _ _ _ _ h

@[simp] theorem State.rd_ite (p : Prop) [Decidable p] (a b : State) :
    (if p then a else b).rd c = if p then a.rd c else b.rd c := by
  split <;> rfl
@[simp] theorem State.rd_noted (old : State) (p : Nat) : (s.noted old p).rd c = s.rd c := by
  unfold State.noted State.settled State.bump State.publish State.tileQuiet
  dsimp only
  split <;> split <;> rfl
theorem State.rd_each (xs : List Nat) (f : State → Nat → State) (hf : ∀ t x, x ∈ xs → (f t x).rd c = t.rd c) :
    (s.each xs f).rd c = s.rd c := by
  unfold State.each
  induction xs generalizing s with
  | nil => rfl
  | cons x xs ih =>
    rw [List.foldl_cons, ih _ (fun t y hy => hf t y (List.mem_cons_of_mem x hy)), hf s x List.mem_cons_self]

@[simp] theorem State.rd_loadReplicas (f : Nat → Nat) (hc : fp_loadReplicas.misses (fieldName c.key) = true) :
    (State.loadReplicas s f).rd c = s.rd c :=
  (Goes.loadReplicas (Foot.le_refl _) (Goes.refl _ s)).rd_misses hc
@[simp] theorem State.rd_setNow (v : Nat) (hc : fp_setNow.misses (fieldName c.key) = true) :
    (State.setNow s v).rd c = s.rd c :=
  (Goes.setNow (Foot.le_refl _) (Goes.refl _ s)).rd_misses hc
@[simp] theorem State.rd_sendUp (o : Out) (hc : fp_sendUp.misses (fieldName c.key) = true) :
    (State.sendUp s o).rd c = s.rd c :=
  (Goes.sendUp (Foot.le_refl _) (Goes.refl _ s)).rd_misses hc
@[simp] theorem State.rd_advance (d : Nat) (hc : fp_advance.misses (fieldName c.key) = true) :
    (State.advance s d).rd c = s.rd c :=
  (Goes.advance (Foot.le_refl _) (Goes.refl _ s)).rd_misses hc
@[simp] theorem State.rd_advanceTo (e : Nat) (hc : fp_advanceTo.misses (fieldName c.key) = true) :
    (State.advanceTo s e).rd c = s.rd c :=
  (Goes.advanceTo (Foot.le_refl _) (Goes.refl _ s)).rd_misses hc
@[simp] theorem State.rd_fabricTo (f : Nat) (hc : fp_fabricTo.misses (fieldName c.key) = true) :
    (State.fabricTo s f).rd c = s.rd c :=
  (Goes.fabricTo (Foot.le_refl _) (Goes.refl _ s)).rd_misses hc
@[simp] theorem State.rd_tileQuiet (t : Nat) (hc : fp_tileQuiet.misses (fieldName c.key) = true) :
    (State.tileQuiet s t).rd c = s.rd c :=
  (Goes.tileQuiet (Foot.le_refl _) (Goes.refl _ s)).rd_misses hc
@[simp] theorem State.rd_deviceQuiet (hc : fp_deviceQuiet.misses (fieldName c.key) = true) :
    (State.deviceQuiet s).rd c = s.rd c :=
  (Goes.deviceQuiet (Foot.le_refl _) (Goes.refl _ s)).rd_misses hc
@[simp] theorem State.rd_publish (p : Nat) (hc : fp_publish.misses (fieldName c.key) = true) :
    (State.publish s p).rd c = s.rd c :=
  (Goes.publish (Foot.le_refl _) (Goes.refl _ s)).rd_misses hc
@[simp] theorem State.rd_bump (p : Nat) (hc : fp_bump.misses (fieldName c.key) = true) :
    (State.bump s p).rd c = s.rd c :=
  (Goes.bump (Foot.le_refl _) (Goes.refl _ s)).rd_misses hc
@[simp] theorem State.rd_recordDp (code : Nat) (port : Option Nat) (b16 : Nat) (hc : fp_recordDp.misses (fieldName c.key) = true) :
    (State.recordDp s code port b16).rd c = s.rd c :=
  (Goes.recordDp (Foot.le_refl _) (Goes.refl _ s)).rd_misses hc
@[simp] theorem State.rd_alert (cls : Nat) (hc : fp_alert.misses (fieldName c.key) = true) :
    (State.alert s cls).rd c = s.rd c :=
  (Goes.alert (Foot.le_refl _) (Goes.refl _ s)).rd_misses hc
@[simp] theorem State.rd_raiseFor (code : Nat) (port : Option Nat) (ports : List Nat) (b16 : Nat) (b17 : Nat) (b18 : Nat) (hc : fp_raiseFor.misses (fieldName c.key) = true) :
    (State.raiseFor s code port ports b16 b17 b18).rd c = s.rd c :=
  (Goes.raiseFor (Foot.le_refl _) (Goes.refl _ s)).rd_misses hc
@[simp] theorem State.rd_raise (code : Nat) (p : Nat) (b16 : Nat) (b17 : Nat) (b18 : Nat) (hc : fp_raise.misses (fieldName c.key) = true) :
    (State.raise s code p b16 b17 b18).rd c = s.rd c :=
  (Goes.raise (Foot.le_refl _) (Goes.refl _ s)).rd_misses hc
@[simp] theorem State.rd_raiseDev (code : Nat) (b16 : Nat) (b17 : Nat) (b18 : Nat) (hc : fp_raiseDev.misses (fieldName c.key) = true) :
    (State.raiseDev s code b16 b17 b18).rd c = s.rd c :=
  (Goes.raiseDev (Foot.le_refl _) (Goes.refl _ s)).rd_misses hc
@[simp] theorem State.rd_completeAs (k : Nat) (i : Nat) (entry : Nat) (tag : Nat) (evRing : Option Nat) (status : Nat) (result : List Nat) (port : Option Nat) (mirror : List Nat) (hc : fp_completeAs.misses (fieldName c.key) = true) :
    (State.completeAs s k i entry tag evRing status result port mirror).rd c = s.rd c :=
  (Goes.completeAs (Foot.le_refl _) (Goes.refl _ s)).rd_misses hc
@[simp] theorem State.rd_complete (k : Nat) (i : Nat) (entry : Nat) (tag : Nat) (evRing : Option Nat) (status : Nat) (result : List Nat) (port : Option Nat) (hc : fp_complete.misses (fieldName c.key) = true) :
    (State.complete s k i entry tag evRing status result port).rd c = s.rd c :=
  (Goes.complete (Foot.le_refl _) (Goes.refl _ s)).rd_misses hc
@[simp] theorem State.rd_flashErase (a : Nat) (n : Nat) (hc : fp_flashErase.misses (fieldName c.key) = true) :
    (State.flashErase s a n).rd c = s.rd c :=
  (Goes.flashErase (Foot.le_refl _) (Goes.refl _ s)).rd_misses hc
@[simp] theorem State.rd_flashWrite (a : Nat) (bs : List Byte) (hc : fp_flashWrite.misses (fieldName c.key) = true) :
    (State.flashWrite s a bs).rd c = s.rd c :=
  (Goes.flashWrite (Foot.le_refl _) (Goes.refl _ s)).rd_misses hc
@[simp] theorem State.rd_flashSpoil (a : Nat) (n : Nat) (hc : fp_flashSpoil.misses (fieldName c.key) = true) :
    (State.flashSpoil s a n).rd c = s.rd c :=
  (Goes.flashSpoil (Foot.le_refl _) (Goes.refl _ s)).rd_misses hc
@[simp] theorem State.rd_setTrailer (b : Bool) (i : Nat) (hc : fp_setTrailer.misses (fieldName c.key) = true) :
    (State.setTrailer s b i).rd c = s.rd c :=
  (Goes.setTrailer (Foot.le_refl _) (Goes.refl _ s)).rd_misses hc
@[simp] theorem State.rd_showTx (h : Nat) (hc : fp_showTx.misses (fieldName c.key) = true) :
    (State.showTx s h).rd c = s.rd c :=
  (Goes.showTx (Foot.le_refl _) (Goes.refl _ s)).rd_misses hc
@[simp] theorem State.rd_setTx (h : Nat) (m : TxMode) (hc : fp_setTx.misses (fieldName c.key) = true) :
    (State.setTx s h m).rd c = s.rd c :=
  (Goes.setTx (Foot.le_refl _) (Goes.refl _ s)).rd_misses hc
@[simp] theorem State.rd_loadEntry (h : Nat) (e : Nat) (hc : fp_loadEntry.misses (fieldName c.key) = true) :
    (State.loadEntry s h e).rd c = s.rd c :=
  (Goes.loadEntry (Foot.le_refl _) (Goes.refl _ s)).rd_misses hc
@[simp] theorem State.rd_loadTx (h : Nat) (hc : fp_loadTx.misses (fieldName c.key) = true) :
    (State.loadTx s h).rd c = s.rd c :=
  (Goes.loadTx (Foot.le_refl _) (Goes.refl _ s)).rd_misses hc
@[simp] theorem State.rd_linkPreset (h : Nat) (n : Nat) (hc : fp_linkPreset.misses (fieldName c.key) = true) :
    (State.linkPreset s h n).rd c = s.rd c :=
  (Goes.linkPreset (Foot.le_refl _) (Goes.refl _ s)).rd_misses hc
@[simp] theorem State.rd_setAlign (h : Nat) (v : Nat) (hc : fp_setAlign.misses (fieldName c.key) = true) :
    (State.setAlign s h v).rd c = s.rd c :=
  (Goes.setAlign (Foot.le_refl _) (Goes.refl _ s)).rd_misses hc
@[simp] theorem State.rd_applySet (h : Nat) (x2 : CalSet) (temp : Int) (hc : fp_applySet.misses (fieldName c.key) = true) :
    (State.applySet s h x2 temp).rd c = s.rd c :=
  (Goes.applySet (Foot.le_refl _) (Goes.refl _ s)).rd_misses hc
@[simp] theorem State.rd_setCoef (h : Nat) (x2 : RxCoef) (hc : fp_setCoef.misses (fieldName c.key) = true) :
    (State.setCoef s h x2).rd c = s.rd c :=
  (Goes.setCoef (Foot.le_refl _) (Goes.refl _ s)).rd_misses hc
@[simp] theorem State.rd_noFom (h : Nat) (hc : fp_noFom.misses (fieldName c.key) = true) :
    (State.noFom s h).rd c = s.rd c :=
  (Goes.noFom (Foot.le_refl _) (Goes.refl _ s)).rd_misses hc
@[simp] theorem State.rd_rxIdle (h : Nat) (hc : fp_rxIdle.misses (fieldName c.key) = true) :
    (State.rxIdle s h).rd c = s.rd c :=
  (Goes.rxIdle (Foot.le_refl _) (Goes.refl _ s)).rd_misses hc
@[simp] theorem State.rd_requestRx (h : Nat) (warm : Bool) (hc : fp_requestRx.misses (fieldName c.key) = true) :
    (State.requestRx s h warm).rd c = s.rd c :=
  (Goes.requestRx (Foot.le_refl _) (Goes.refl _ s)).rd_misses hc
@[simp] theorem State.rd_releaseRx (h : Nat) (hc : fp_releaseRx.misses (fieldName c.key) = true) :
    (State.releaseRx s h).rd c = s.rd c :=
  (Goes.releaseRx (Foot.le_refl _) (Goes.refl _ s)).rd_misses hc
@[simp] theorem State.rd_setSlot (h : Nat) (r : Nat) (hc : fp_setSlot.misses (fieldName c.key) = true) :
    (State.setSlot s h r).rd c = s.rd c :=
  (Goes.setSlot (Foot.le_refl _) (Goes.refl _ s)).rd_misses hc
@[simp] theorem State.rd_acquire (h : Nat) (hc : fp_acquire.misses (fieldName c.key) = true) :
    (State.acquire s h).rd c = s.rd c :=
  (Goes.acquire (Foot.le_refl _) (Goes.refl _ s)).rd_misses hc
@[simp] theorem State.rd_keepConv (h : Nat) (hc : fp_keepConv.misses (fieldName c.key) = true) :
    (State.keepConv s h).rd c = s.rd c :=
  (Goes.keepConv (Foot.le_refl _) (Goes.refl _ s)).rd_misses hc
@[simp] theorem State.rd_toTrack (h : Nat) (frozen : Bool) (hc : fp_toTrack.misses (fieldName c.key) = true) :
    (State.toTrack s h frozen).rd c = s.rd c :=
  (Goes.toTrack (Foot.le_refl _) (Goes.refl _ s)).rd_misses hc
@[simp] theorem State.rd_leaveConverge (h : Nat) (hc : fp_leaveConverge.misses (fieldName c.key) = true) :
    (State.leaveConverge s h).rd c = s.rd c :=
  (Goes.leaveConverge (Foot.le_refl _) (Goes.refl _ s)).rd_misses hc
@[simp] theorem State.rd_trimWindow (h : Nat) (t : Trim) (fom : Nat) (hc : fp_trimWindow.misses (fieldName c.key) = true) :
    (State.trimWindow s h t fom).rd c = s.rd c :=
  (Goes.trimWindow (Foot.le_refl _) (Goes.refl _ s)).rd_misses hc
@[simp] theorem State.rd_freeze (h : Nat) (hc : fp_freeze.misses (fieldName c.key) = true) :
    (State.freeze s h).rd c = s.rd c :=
  (Goes.freeze (Foot.le_refl _) (Goes.refl _ s)).rd_misses hc
@[simp] theorem State.rd_holdLimits (h : Nat) (hc : fp_holdLimits.misses (fieldName c.key) = true) :
    (State.holdLimits s h).rd c = s.rd c :=
  (Goes.holdLimits (Foot.le_refl _) (Goes.refl _ s)).rd_misses hc
@[simp] theorem State.rd_holdAllLimits (hc : fp_holdAllLimits.misses (fieldName c.key) = true) :
    (State.holdAllLimits s).rd c = s.rd c :=
  (Goes.holdAllLimits (Foot.le_refl _) (Goes.refl _ s)).rd_misses hc
@[simp] theorem State.rd_publishFom (h : Nat) (fom : Nat) (hc : fp_publishFom.misses (fieldName c.key) = true) :
    (State.publishFom s h fom).rd c = s.rd c :=
  (Goes.publishFom (Foot.le_refl _) (Goes.refl _ s)).rd_misses hc
@[simp] theorem State.rd_adapted (h : Nat) (x2 : RxCoef) (hc : fp_adapted.misses (fieldName c.key) = true) :
    (State.adapted s h x2).rd c = s.rd c :=
  (Goes.adapted (Foot.le_refl _) (Goes.refl _ s)).rd_misses hc
@[simp] theorem State.rd_windowStep (h : Nat) (fom : Nat) (hc : fp_windowStep.misses (fieldName c.key) = true) :
    (State.windowStep s h fom).rd c = s.rd c :=
  (Goes.windowStep (Foot.le_refl _) (Goes.refl _ s)).rd_misses hc
@[simp] theorem State.rd_windowDropped (h : Nat) (rx : RxCoef) (hc : fp_windowDropped.misses (fieldName c.key) = true) :
    (State.windowDropped s h rx).rd c = s.rd c :=
  (Goes.windowDropped (Foot.le_refl _) (Goes.refl _ s)).rd_misses hc
@[simp] theorem State.rd_runEngine (k : Nat) (hc : fp_runEngine.misses (fieldName c.key) = true) :
    (State.runEngine s k).rd c = s.rd c :=
  (Goes.runEngine (Foot.le_refl _) (Goes.refl _ s)).rd_misses hc
@[simp] theorem State.rd_showJob (k : Nat) (st : Nat) (hc : fp_showJob.misses (fieldName c.key) = true) :
    (State.showJob s k st).rd c = s.rd c :=
  (Goes.showJob (Foot.le_refl _) (Goes.refl _ s)).rd_misses hc
@[simp] theorem State.rd_stopJob (k : Nat) (cause : Nat) (hc : fp_stopJob.misses (fieldName c.key) = true) :
    (State.stopJob s k cause).rd c = s.rd c :=
  (Goes.stopJob (Foot.le_refl _) (Goes.refl _ s)).rd_misses hc
@[simp] theorem State.rd_stopJobsOn (h : Nat) (cause : Nat) (hc : fp_stopJobsOn.misses (fieldName c.key) = true) :
    (State.stopJobsOn s h cause).rd c = s.rd c :=
  (Goes.stopJobsOn (Foot.le_refl _) (Goes.refl _ s)).rd_misses hc
@[simp] theorem State.rd_restoreRx (h : Nat) (hc : fp_restoreRx.misses (fieldName c.key) = true) :
    (State.restoreRx s h).rd c = s.rd c :=
  (Goes.restoreRx (Foot.le_refl _) (Goes.refl _ s)).rd_misses hc
@[simp] theorem State.rd_endJob (j : Job) (code : Nat) (hc : fp_endJob.misses (fieldName c.key) = true) :
    (State.endJob s j code).rd c = s.rd c :=
  (Goes.endJob (Foot.le_refl _) (Goes.refl _ s)).rd_misses hc
@[simp] theorem State.rd_endQueued (pick : Job → Bool) (code : Nat) (hc : fp_endQueued.misses (fieldName c.key) = true) :
    (State.endQueued s pick code).rd c = s.rd c :=
  (Goes.endQueued (Foot.le_refl _) (Goes.refl _ s)).rd_misses hc
@[simp] theorem State.rd_stopRunning (pick : Job → Bool) (cause : Nat) (hc : fp_stopRunning.misses (fieldName c.key) = true) :
    (State.stopRunning s pick cause).rd c = s.rd c :=
  (Goes.stopRunning (Foot.le_refl _) (Goes.refl _ s)).rd_misses hc
@[simp] theorem State.rd_scheduleSet (h : Nat) (x2 : CalSet) (temp : Int) (ofRun : Bool) (hc : fp_scheduleSet.misses (fieldName c.key) = true) :
    (State.scheduleSet s h x2 temp ofRun).rd c = s.rd c :=
  (Goes.scheduleSet (Foot.le_refl _) (Goes.refl _ s)).rd_misses hc
@[simp] theorem State.rd_scheduleTable (h : Nat) (hc : fp_scheduleTable.misses (fieldName c.key) = true) :
    (State.scheduleTable s h).rd c = s.rd c :=
  (Goes.scheduleTable (Foot.le_refl _) (Goes.refl _ s)).rd_misses hc
@[simp] theorem State.rd_scheduleBack (h : Nat) (hc : fp_scheduleBack.misses (fieldName c.key) = true) :
    (State.scheduleBack s h).rd c = s.rd c :=
  (Goes.scheduleBack (Foot.le_refl _) (Goes.refl _ s)).rd_misses hc
@[simp] theorem State.rd_showRuns (hc : fp_showRuns.misses (fieldName c.key) = true) :
    (State.showRuns s).rd c = s.rd c :=
  (Goes.showRuns (Foot.le_refl _) (Goes.refl _ s)).rd_misses hc
@[simp] theorem State.rd_endRun (h : Nat) (result : Nat) (hc : fp_endRun.misses (fieldName c.key) = true) :
    (State.endRun s h result).rd c = s.rd c :=
  (Goes.endRun (Foot.le_refl _) (Goes.refl _ s)).rd_misses hc
@[simp] theorem State.rd_disturb (h : Nat) (hc : fp_disturb.misses (fieldName c.key) = true) :
    (State.disturb s h).rd c = s.rd c :=
  (Goes.disturb (Foot.le_refl _) (Goes.refl _ s)).rd_misses hc
@[simp] theorem State.rd_abortRun (h : Nat) (hc : fp_abortRun.misses (fieldName c.key) = true) :
    (State.abortRun s h).rd c = s.rd c :=
  (Goes.abortRun (Foot.le_refl _) (Goes.refl _ s)).rd_misses hc
@[simp] theorem State.rd_clearRun (h : Nat) (hc : fp_clearRun.misses (fieldName c.key) = true) :
    (State.clearRun s h).rd c = s.rd c :=
  (Goes.clearRun (Foot.le_refl _) (Goes.refl _ s)).rd_misses hc
@[simp] theorem State.rd_rxLeaves (h : Nat) (hc : fp_rxLeaves.misses (fieldName c.key) = true) :
    (State.rxLeaves s h).rd c = s.rd c :=
  (Goes.rxLeaves (Foot.le_refl _) (Goes.refl _ s)).rd_misses hc
@[simp] theorem State.rd_pathSoon (p : Nat) (hc : fp_pathSoon.misses (fieldName c.key) = true) :
    (State.pathSoon s p).rd c = s.rd c :=
  (Goes.pathSoon (Foot.le_refl _) (Goes.refl _ s)).rd_misses hc
@[simp] theorem State.rd_pathAbsent (q : Nat) (hc : fp_pathAbsent.misses (fieldName c.key) = true) :
    (State.pathAbsent s q).rd c = s.rd c :=
  (Goes.pathAbsent (Foot.le_refl _) (Goes.refl _ s)).rd_misses hc
@[simp] theorem State.rd_showSide (q : Nat) (hc : fp_showSide.misses (fieldName c.key) = true) :
    (State.showSide s q).rd c = s.rd c :=
  (Goes.showSide (Foot.le_refl _) (Goes.refl _ s)).rd_misses hc
@[simp] theorem State.rd_showOf (h : Nat) (hc : fp_showOf.misses (fieldName c.key) = true) :
    (State.showOf s h).rd c = s.rd c :=
  (Goes.showOf (Foot.le_refl _) (Goes.refl _ s)).rd_misses hc
@[simp] theorem State.rd_clearFrames (h : Nat) (hc : fp_clearFrames.misses (fieldName c.key) = true) :
    (State.clearFrames s h).rd c = s.rd c :=
  (Goes.clearFrames (Foot.le_refl _) (Goes.refl _ s)).rd_misses hc
@[simp] theorem State.rd_clearTrellis (q : Nat) (hc : fp_clearTrellis.misses (fieldName c.key) = true) :
    (State.clearTrellis s q).rd c = s.rd c :=
  (Goes.clearTrellis (Foot.le_refl _) (Goes.refl _ s)).rd_misses hc
@[simp] theorem State.rd_returnRows (q : Nat) (hc : fp_returnRows.misses (fieldName c.key) = true) :
    (State.returnRows s q).rd c = s.rd c :=
  (Goes.returnRows (Foot.le_refl _) (Goes.refl _ s)).rd_misses hc
@[simp] theorem State.rd_dropSegment (q : Nat) (hc : fp_dropSegment.misses (fieldName c.key) = true) :
    (State.dropSegment s q).rd c = s.rd c :=
  (Goes.dropSegment (Foot.le_refl _) (Goes.refl _ s)).rd_misses hc
@[simp] theorem State.rd_toSDetect (q : Nat) (hc : fp_toSDetect.misses (fieldName c.key) = true) :
    (State.toSDetect s q).rd c = s.rd c :=
  (Goes.toSDetect (Foot.le_refl _) (Goes.refl _ s)).rd_misses hc
@[simp] theorem State.rd_toSAcquire (q : Nat) (hc : fp_toSAcquire.misses (fieldName c.key) = true) :
    (State.toSAcquire s q).rd c = s.rd c :=
  (Goes.toSAcquire (Foot.le_refl _) (Goes.refl _ s)).rd_misses hc
@[simp] theorem State.rd_toSBackoff (q : Nat) (reason : Nat) (hc : fp_toSBackoff.misses (fieldName c.key) = true) :
    (State.toSBackoff s q reason).rd c = s.rd c :=
  (Goes.toSBackoff (Foot.le_refl _) (Goes.refl _ s)).rd_misses hc
@[simp] theorem State.rd_toSDown (q : Nat) (hc : fp_toSDown.misses (fieldName c.key) = true) :
    (State.toSDown s q).rd c = s.rd c :=
  (Goes.toSDown (Foot.le_refl _) (Goes.refl _ s)).rd_misses hc
@[simp] theorem State.rd_segSignals (q : Nat) (hc : fp_segSignals.misses (fieldName c.key) = true) :
    (State.segSignals s q).rd c = s.rd c :=
  (Goes.segSignals (Foot.le_refl _) (Goes.refl _ s)).rd_misses hc
@[simp] theorem State.rd_segLocks (q : Nat) (hc : fp_segLocks.misses (fieldName c.key) = true) :
    (State.segLocks s q).rd c = s.rd c :=
  (Goes.segLocks (Foot.le_refl _) (Goes.refl _ s)).rd_misses hc
@[simp] theorem State.rd_showStd (p : Nat) (hc : fp_showStd.misses (fieldName c.key) = true) :
    (State.showStd s p).rd c = s.rd c :=
  (Goes.showStd (Foot.le_refl _) (Goes.refl _ s)).rd_misses hc
@[simp] theorem State.rd_setTrn (p : Nat) (v : Nat) (hc : fp_setTrn.misses (fieldName c.key) = true) :
    (State.setTrn s p v).rd c = s.rd c :=
  (Goes.setTrn (Foot.le_refl _) (Goes.refl _ s)).rd_misses hc
@[simp] theorem State.rd_stdIdle (p : Nat) (hc : fp_stdIdle.misses (fieldName c.key) = true) :
    (State.stdIdle s p).rd c = s.rd c :=
  (Goes.stdIdle (Foot.le_refl _) (Goes.refl _ s)).rd_misses hc
@[simp] theorem State.rd_freshSides (p : Nat) (hc : fp_freshSides.misses (fieldName c.key) = true) :
    (State.freshSides s p).rd c = s.rd c :=
  (Goes.freshSides (Foot.le_refl _) (Goes.refl _ s)).rd_misses hc
@[simp] theorem State.rd_enterDetect (p : Nat) (hc : fp_enterDetect.misses (fieldName c.key) = true) :
    (State.enterDetect s p).rd c = s.rd c :=
  (Goes.enterDetect (Foot.le_refl _) (Goes.refl _ s)).rd_misses hc
@[simp] theorem State.rd_enterDown (p : Nat) (hc : fp_enterDown.misses (fieldName c.key) = true) :
    (State.enterDown s p).rd c = s.rd c :=
  (Goes.enterDown (Foot.le_refl _) (Goes.refl _ s)).rd_misses hc
@[simp] theorem State.rd_enterHold (p : Nat) (hc : fp_enterHold.misses (fieldName c.key) = true) :
    (State.enterHold s p).rd c = s.rd c :=
  (Goes.enterHold (Foot.le_refl _) (Goes.refl _ s)).rd_misses hc
@[simp] theorem State.rd_farStart (p : Nat) (m : TxMode) (hc : fp_farStart.misses (fieldName c.key) = true) :
    (State.farStart s p m).rd c = s.rd c :=
  (Goes.farStart (Foot.le_refl _) (Goes.refl _ s)).rd_misses hc
@[simp] theorem State.rd_enterForward (p : Nat) (warm : Option Bool) (hc : fp_enterForward.misses (fieldName c.key) = true) :
    (State.enterForward s p warm).rd c = s.rd c :=
  (Goes.enterForward (Foot.le_refl _) (Goes.refl _ s)).rd_misses hc
@[simp] theorem State.rd_startAcross (h : Nat) (hc : fp_startAcross.misses (fieldName c.key) = true) :
    (State.startAcross s h).rd c = s.rd c :=
  (Goes.startAcross (Foot.le_refl _) (Goes.refl _ s)).rd_misses hc
@[simp] theorem State.rd_forwardAcross (h : Nat) (hc : fp_forwardAcross.misses (fieldName c.key) = true) :
    (State.forwardAcross s h).rd c = s.rd c :=
  (Goes.forwardAcross (Foot.le_refl _) (Goes.refl _ s)).rd_misses hc
@[simp] theorem State.rd_losePartner (q : Nat) (hc : fp_losePartner.misses (fieldName c.key) = true) :
    (State.losePartner s q).rd c = s.rd c :=
  (Goes.losePartner (Foot.le_refl _) (Goes.refl _ s)).rd_misses hc
@[simp] theorem State.rd_segGone (p : Nat) (hc : fp_segGone.misses (fieldName c.key) = true) :
    (State.segGone s p).rd c = s.rd c :=
  (Goes.segGone (Foot.le_refl _) (Goes.refl _ s)).rd_misses hc
@[simp] theorem State.rd_segLost (q : Nat) (hc : fp_segLost.misses (fieldName c.key) = true) :
    (State.segLost s q).rd c = s.rd c :=
  (Goes.segLost (Foot.le_refl _) (Goes.refl _ s)).rd_misses hc
@[simp] theorem State.rd_faultSide (q : Nat) (cause : Nat) (hc : fp_faultSide.misses (fieldName c.key) = true) :
    (State.faultSide s q cause).rd c = s.rd c :=
  (Goes.faultSide (Foot.le_refl _) (Goes.refl _ s)).rd_misses hc
@[simp] theorem State.rd_retrainStd (p : Nat) (hc : fp_retrainStd.misses (fieldName c.key) = true) :
    (State.retrainStd s p).rd c = s.rd c :=
  (Goes.retrainStd (Foot.le_refl _) (Goes.refl _ s)).rd_misses hc
@[simp] theorem State.rd_retrainSeg (q : Nat) (hc : fp_retrainSeg.misses (fieldName c.key) = true) :
    (State.retrainSeg s q).rd c = s.rd c :=
  (Goes.retrainSeg (Foot.le_refl _) (Goes.refl _ s)).rd_misses hc
@[simp] theorem State.rd_refuseNonflit (q : Nat) (hc : fp_refuseNonflit.misses (fieldName c.key) = true) :
    (State.refuseNonflit s q).rd c = s.rd c :=
  (Goes.refuseNonflit (Foot.le_refl _) (Goes.refl _ s)).rd_misses hc
@[simp] theorem State.rd_evalNext (h : Nat) (ev : Eval) (hc : fp_evalNext.misses (fieldName c.key) = true) :
    (State.evalNext s h ev).rd c = s.rd c :=
  (Goes.evalNext (Foot.le_refl _) (Goes.refl _ s)).rd_misses hc
@[simp] theorem State.rd_evalWindow (h : Nat) (fom : Nat) (hc : fp_evalWindow.misses (fieldName c.key) = true) :
    (State.evalWindow s h fom).rd c = s.rd c :=
  (Goes.evalWindow (Foot.le_refl _) (Goes.refl _ s)).rd_misses hc
@[simp] theorem State.rd_evalBegin (h : Nat) (hc : fp_evalBegin.misses (fieldName c.key) = true) :
    (State.evalBegin s h).rd c = s.rd c :=
  (Goes.evalBegin (Foot.le_refl _) (Goes.refl _ s)).rd_misses hc
@[simp] theorem State.rd_phase0 (h : Nat) (hc : fp_phase0.misses (fieldName c.key) = true) :
    (State.phase0 s h).rd c = s.rd c :=
  (Goes.phase0 (Foot.le_refl _) (Goes.refl _ s)).rd_misses hc
@[simp] theorem State.rd_eqBegin (p : Nat) (ph : Nat) (hc : fp_eqBegin.misses (fieldName c.key) = true) :
    (State.eqBegin s p ph).rd c = s.rd c :=
  (Goes.eqBegin (Foot.le_refl _) (Goes.refl _ s)).rd_misses hc
@[simp] theorem State.rd_eqEnd (p : Nat) (hc : fp_eqEnd.misses (fieldName c.key) = true) :
    (State.eqEnd s p).rd c = s.rd c :=
  (Goes.eqEnd (Foot.le_refl _) (Goes.refl _ s)).rd_misses hc
@[simp] theorem State.rd_eqRequest (p : Nat) (h : Nat) (r : EqRequest) (hc : fp_eqRequest.misses (fieldName c.key) = true) :
    (State.eqRequest s p h r).rd c = s.rd c :=
  (Goes.eqRequest (Foot.le_refl _) (Goes.refl _ s)).rd_misses hc
@[simp] theorem State.rd_answerMargin (h : Nat) (far : Option (Nat × RxName)) (value : Nat) (hc : fp_answerMargin.misses (fieldName c.key) = true) :
    (State.answerMargin s h far value).rd c = s.rd c :=
  (Goes.answerMargin (Foot.le_refl _) (Goes.refl _ s)).rd_misses hc
@[simp] theorem State.rd_serveMargin (h : Nat) (m : Margin) (hc : fp_serveMargin.misses (fieldName c.key) = true) :
    (State.serveMargin s h m).rd c = s.rd c :=
  (Goes.serveMargin (Foot.le_refl _) (Goes.refl _ s)).rd_misses hc
@[simp] theorem State.rd_marginDo (h : Nat) (far : Option (Nat × RxName)) (cmd : MarginCmd) (hc : fp_marginDo.misses (fieldName c.key) = true) :
    (State.marginDo s h far cmd).rd c = s.rd c :=
  (Goes.marginDo (Foot.le_refl _) (Goes.refl _ s)).rd_misses hc
@[simp] theorem State.rd_steerSend (q : Nat) (kind : Nat) (pr : Proposal) (hc : fp_steerSend.misses (fieldName c.key) = true) :
    (State.steerSend s q kind pr).rd c = s.rd c :=
  (Goes.steerSend (Foot.le_refl _) (Goes.refl _ s)).rd_misses hc
@[simp] theorem State.rd_steerStop (q : Nat) (hc : fp_steerStop.misses (fieldName c.key) = true) :
    (State.steerStop s q).rd c = s.rd c :=
  (Goes.steerStop (Foot.le_refl _) (Goes.refl _ s)).rd_misses hc
@[simp] theorem State.rd_answer (q : Nat) (kind : Nat) (reason : Nat) (m : List Byte) (hc : fp_answer.misses (fieldName c.key) = true) :
    (State.answer s q kind reason m).rd c = s.rd c :=
  (Goes.answer (Foot.le_refl _) (Goes.refl _ s)).rd_misses hc
@[simp] theorem State.rd_toWatch (q : Nat) (hc : fp_toWatch.misses (fieldName c.key) = true) :
    (State.toWatch s q).rd c = s.rd c :=
  (Goes.toWatch (Foot.le_refl _) (Goes.refl _ s)).rd_misses hc
@[simp] theorem State.rd_requeue (q : Nat) (it : Item) (hc : fp_requeue.misses (fieldName c.key) = true) :
    (State.requeue s q it).rd c = s.rd c :=
  (Goes.requeue (Foot.le_refl _) (Goes.refl _ s)).rd_misses hc
@[simp] theorem State.rd_toCancelling (q : Nat) (hc : fp_toCancelling.misses (fieldName c.key) = true) :
    (State.toCancelling s q).rd c = s.rd c :=
  (Goes.toCancelling (Foot.le_refl _) (Goes.refl _ s)).rd_misses hc
@[simp] theorem State.rd_toCommitting (q : Nat) (hc : fp_toCommitting.misses (fieldName c.key) = true) :
    (State.toCommitting s q).rd c = s.rd c :=
  (Goes.toCommitting (Foot.le_refl _) (Goes.refl _ s)).rd_misses hc
@[simp] theorem State.rd_propose (q : Nat) (it : Item) (spare : Nat) (hc : fp_propose.misses (fieldName c.key) = true) :
    (State.propose s q it spare).rd c = s.rd c :=
  (Goes.propose (Foot.le_refl _) (Goes.refl _ s)).rd_misses hc
@[simp] theorem State.rd_serve (q : Nat) (it : Item) (hc : fp_serve.misses (fieldName c.key) = true) :
    (State.serve s q it).rd c = s.rd c :=
  (Goes.serve (Foot.le_refl _) (Goes.refl _ s)).rd_misses hc
@[simp] theorem State.rd_recordFault (p : Nat) (h : Nat) (reason : Nat) (hc : fp_recordFault.misses (fieldName c.key) = true) :
    (State.recordFault s p h reason).rd c = s.rd c :=
  (Goes.recordFault (Foot.le_refl _) (Goes.refl _ s)).rd_misses hc
@[simp] theorem State.rd_queueFault (q : Nat) (h : Nat) (lane : Nat) (reason : Nat) (hc : fp_queueFault.misses (fieldName c.key) = true) :
    (State.queueFault s q h lane reason).rd c = s.rd c :=
  (Goes.queueFault (Foot.le_refl _) (Goes.refl _ s)).rd_misses hc
@[simp] theorem State.rd_declareFault (q : Nat) (h : Nat) (reason : Nat) (hc : fp_declareFault.misses (fieldName c.key) = true) :
    (State.declareFault s q h reason).rd c = s.rd c :=
  (Goes.declareFault (Foot.le_refl _) (Goes.refl _ s)).rd_misses hc
@[simp] theorem State.rd_stdLaneFault (q : Nat) (h : Nat) (reason : Nat) (hc : fp_stdLaneFault.misses (fieldName c.key) = true) :
    (State.stdLaneFault s q h reason).rd c = s.rd c :=
  (Goes.stdLaneFault (Foot.le_refl _) (Goes.refl _ s)).rd_misses hc
@[simp] theorem State.rd_recovered (q : Nat) (h : Nat) (pick : Item → Bool) (hc : fp_recovered.misses (fieldName c.key) = true) :
    (State.recovered s q h pick).rd c = s.rd c :=
  (Goes.recovered (Foot.le_refl _) (Goes.refl _ s)).rd_misses hc
@[simp] theorem State.rd_recoveredHard (q : Nat) (h : Nat) (hc : fp_recoveredHard.misses (fieldName c.key) = true) :
    (State.recoveredHard s q h).rd c = s.rd c :=
  (Goes.recoveredHard (Foot.le_refl _) (Goes.refl _ s)).rd_misses hc
@[simp] theorem State.rd_recoveredSoft (q : Nat) (h : Nat) (fom : Nat) (hc : fp_recoveredSoft.misses (fieldName c.key) = true) :
    (State.recoveredSoft s q h fom).rd c = s.rd c :=
  (Goes.recoveredSoft (Foot.le_refl _) (Goes.refl _ s)).rd_misses hc
@[simp] theorem State.rd_breakStream (d : Nat) (hc : fp_breakStream.misses (fieldName c.key) = true) :
    (State.breakStream s d).rd c = s.rd c :=
  (Goes.breakStream (Foot.le_refl _) (Goes.refl _ s)).rd_misses hc
@[simp] theorem State.rd_degraded (q : Nat) (hc : fp_degraded.misses (fieldName c.key) = true) :
    (State.degraded s q).rd c = s.rd c :=
  (Goes.degraded (Foot.le_refl _) (Goes.refl _ s)).rd_misses hc
@[simp] theorem State.rd_commitDone (q : Nat) (hc : fp_commitDone.misses (fieldName c.key) = true) :
    (State.commitDone s q).rd c = s.rd c :=
  (Goes.commitDone (Foot.le_refl _) (Goes.refl _ s)).rd_misses hc
@[simp] theorem State.rd_checkPropose (q : Nat) (m : List Byte) (hc : fp_checkPropose.misses (fieldName c.key) = true) :
    (State.checkPropose s q m).rd c = s.rd c :=
  (Goes.checkPropose (Foot.le_refl _) (Goes.refl _ s)).rd_misses hc
@[simp] theorem State.rd_voidPrepared (q : Nat) (hc : fp_voidPrepared.misses (fieldName c.key) = true) :
    (State.voidPrepared s q).rd c = s.rd c :=
  (Goes.voidPrepared (Foot.le_refl _) (Goes.refl _ s)).rd_misses hc
@[simp] theorem State.rd_doSwitch (q : Nat) (pr : Prepared) (hc : fp_doSwitch.misses (fieldName c.key) = true) :
    (State.doSwitch s q pr).rd c = s.rd c :=
  (Goes.doSwitch (Foot.le_refl _) (Goes.refl _ s)).rd_misses hc
@[simp] theorem State.rd_setLevel (l : Nat) (hc : fp_setLevel.misses (fieldName c.key) = true) :
    (State.setLevel s l).rd c = s.rd c :=
  (Goes.setLevel (Foot.le_refl _) (Goes.refl _ s)).rd_misses hc
@[simp] theorem State.rd_showTarget (hc : fp_showTarget.misses (fieldName c.key) = true) :
    (State.showTarget s).rd c = s.rd c :=
  (Goes.showTarget (Foot.le_refl _) (Goes.refl _ s)).rd_misses hc
@[simp] theorem State.rd_askLevel (l : Nat) (hc : fp_askLevel.misses (fieldName c.key) = true) :
    (State.askLevel s l).rd c = s.rd c :=
  (Goes.askLevel (Foot.le_refl _) (Goes.refl _ s)).rd_misses hc
@[simp] theorem State.rd_showActive (hc : fp_showActive.misses (fieldName c.key) = true) :
    (State.showActive s).rd c = s.rd c :=
  (Goes.showActive (Foot.le_refl _) (Goes.refl _ s)).rd_misses hc
@[simp] theorem State.rd_wakeTile (t : Nat) (hc : fp_wakeTile.misses (fieldName c.key) = true) :
    (State.wakeTile s t).rd c = s.rd c :=
  (Goes.wakeTile (Foot.le_refl _) (Goes.refl _ s)).rd_misses hc
@[simp] theorem State.rd_realign (hc : fp_realign.misses (fieldName c.key) = true) :
    (State.realign s).rd c = s.rd c :=
  (Goes.realign (Foot.le_refl _) (Goes.refl _ s)).rd_misses hc
@[simp] theorem State.rd_setAt (v : Nat) (hc : fp_setAt.misses (fieldName c.key) = true) :
    (State.setAt s v).rd c = s.rd c :=
  (Goes.setAt (Foot.le_refl _) (Goes.refl _ s)).rd_misses hc
@[simp] theorem State.rd_abandonEntry (hc : fp_abandonEntry.misses (fieldName c.key) = true) :
    (State.abandonEntry s).rd c = s.rd c :=
  (Goes.abandonEntry (Foot.le_refl _) (Goes.refl _ s)).rd_misses hc
@[simp] theorem State.rd_recordWake (w : WakeSource) (port : Option Nat) (from_ : Nat) (hc : fp_recordWake.misses (fieldName c.key) = true) :
    (State.recordWake s w port from_).rd c = s.rd c :=
  (Goes.recordWake (Foot.le_refl _) (Goes.refl _ s)).rd_misses hc
@[simp] theorem State.rd_joinWake (w : WakeSource) (port : Option Nat) (hc : fp_joinWake.misses (fieldName c.key) = true) :
    (State.joinWake s w port).rd c = s.rd c :=
  (Goes.joinWake (Foot.le_refl _) (Goes.refl _ s)).rd_misses hc
@[simp] theorem State.rd_wakeDevice (w : WakeSource) (port : Option Nat) (hc : fp_wakeDevice.misses (fieldName c.key) = true) :
    (State.wakeDevice s w port).rd c = s.rd c :=
  (Goes.wakeDevice (Foot.le_refl _) (Goes.refl _ s)).rd_misses hc
@[simp] theorem State.rd_releaseTrig (hc : fp_releaseTrig.misses (fieldName c.key) = true) :
    (State.releaseTrig s).rd c = s.rd c :=
  (Goes.releaseTrig (Foot.le_refl _) (Goes.refl _ s)).rd_misses hc
@[simp] theorem State.rd_sigdetWake (h : Nat) (hc : fp_sigdetWake.misses (fieldName c.key) = true) :
    (State.sigdetWake s h).rd c = s.rd c :=
  (Goes.sigdetWake (Foot.le_refl _) (Goes.refl _ s)).rd_misses hc
@[simp] theorem State.rd_startRun (h : Nat) (hc : fp_startRun.misses (fieldName c.key) = true) :
    (State.startRun s h).rd c = s.rd c :=
  (Goes.startRun (Foot.le_refl _) (Goes.refl _ s)).rd_misses hc
@[simp] theorem State.rd_calRun (scope : Nat) (half : Bool) (index : Nat) (hc : fp_calRun.misses (fieldName c.key) = true) :
    (State.calRun s scope half index).rd c = s.rd c :=
  (Goes.calRun (Foot.le_refl _) (Goes.refl _ s)).rd_misses hc
@[simp] theorem State.rd_showPoints (h : Nat) (hc : fp_showPoints.misses (fieldName c.key) = true) :
    (State.showPoints s h).rd c = s.rd c :=
  (Goes.showPoints (Foot.le_refl _) (Goes.refl _ s)).rd_misses hc
@[simp] theorem State.rd_calChanged (hc : fp_calChanged.misses (fieldName c.key) = true) :
    (State.calChanged s).rd c = s.rd c :=
  (Goes.calChanged (Foot.le_refl _) (Goes.refl _ s)).rd_misses hc
@[simp] theorem State.rd_calVerify (h : Nat) (fom : Nat) (hc : fp_calVerify.misses (fieldName c.key) = true) :
    (State.calVerify s h fom).rd c = s.rd c :=
  (Goes.calVerify (Foot.le_refl _) (Goes.refl _ s)).rd_misses hc
@[simp] theorem State.rd_setHold (h : Nat) (hc : fp_setHold.misses (fieldName c.key) = true) :
    (State.setHold s h).rd c = s.rd c :=
  (Goes.setHold (Foot.le_refl _) (Goes.refl _ s)).rd_misses hc
@[simp] theorem State.rd_tableChanged (h : Nat) (hc : fp_tableChanged.misses (fieldName c.key) = true) :
    (State.tableChanged s h).rd c = s.rd c :=
  (Goes.tableChanged (Foot.le_refl _) (Goes.refl _ s)).rd_misses hc
@[simp] theorem State.rd_calClear (scope : Nat) (half : Bool) (index : Nat) (hc : fp_calClear.misses (fieldName c.key) = true) :
    (State.calClear s scope half index).rd c = s.rd c :=
  (Goes.calClear (Foot.le_refl _) (Goes.refl _ s)).rd_misses hc
@[simp] theorem State.rd_storeEnd (result : Nat) (hc : fp_storeEnd.misses (fieldName c.key) = true) :
    (State.storeEnd s result).rd c = s.rd c :=
  (Goes.storeEnd (Foot.le_refl _) (Goes.refl _ s)).rd_misses hc
@[simp] theorem State.rd_storeBegin (hc : fp_storeBegin.misses (fieldName c.key) = true) :
    (State.storeBegin s).rd c = s.rd c :=
  (Goes.storeBegin (Foot.le_refl _) (Goes.refl _ s)).rd_misses hc
@[simp] theorem State.rd_storeAsk (hc : fp_storeAsk.misses (fieldName c.key) = true) :
    (State.storeAsk s).rd c = s.rd c :=
  (Goes.storeAsk (Foot.le_refl _) (Goes.refl _ s)).rd_misses hc
@[simp] theorem State.rd_calStoreCmd (hc : fp_calStoreCmd.misses (fieldName c.key) = true) :
    (State.calStoreCmd s).rd c = s.rd c :=
  (Goes.calStoreCmd (Foot.le_refl _) (Goes.refl _ s)).rd_misses hc
@[simp] theorem State.rd_loadCal (flashAnswers : Bool) (hc : fp_loadCal.misses (fieldName c.key) = true) :
    (State.loadCal s flashAnswers).rd c = s.rd c :=
  (Goes.loadCal (Foot.le_refl _) (Goes.refl _ s)).rd_misses hc
@[simp] theorem State.rd_calReload (hc : fp_calReload.misses (fieldName c.key) = true) :
    (State.calReload s).rd c = s.rd c :=
  (Goes.calReload (Foot.le_refl _) (Goes.refl _ s)).rd_misses hc
@[simp] theorem State.rd_eraseHeader (b : Bool) (hc : fp_eraseHeader.misses (fieldName c.key) = true) :
    (State.eraseHeader s b).rd c = s.rd c :=
  (Goes.eraseHeader (Foot.le_refl _) (Goes.refl _ s)).rd_misses hc
@[simp] theorem State.rd_writeHeader (x1 : CalStore) (hc : fp_writeHeader.misses (fieldName c.key) = true) :
    (State.writeHeader s x1).rd c = s.rd c :=
  (Goes.writeHeader (Foot.le_refl _) (Goes.refl _ s)).rd_misses hc
@[simp] theorem State.rd_spoilStore (x1 : CalStore) (hc : fp_spoilStore.misses (fieldName c.key) = true) :
    (State.spoilStore s x1).rd c = s.rd c :=
  (Goes.spoilStore (Foot.le_refl _) (Goes.refl _ s)).rd_misses hc
@[simp] theorem State.rd_storeStep (x1 : CalStore) (hc : fp_storeStep.misses (fieldName c.key) = true) :
    (State.storeStep s x1).rd c = s.rd c :=
  (Goes.storeStep (Foot.le_refl _) (Goes.refl _ s)).rd_misses hc
@[simp] theorem State.rd_detect (b : Nat) (status : Nat) (hc : fp_detect.misses (fieldName c.key) = true) :
    (State.detect s b status).rd c = s.rd c :=
  (Goes.detect (Foot.le_refl _) (Goes.refl _ s)).rd_misses hc
@[simp] theorem State.rd_corError (b : Nat) (hc : fp_corError.misses (fieldName c.key) = true) :
    (State.corError s b).rd c = s.rd c :=
  (Goes.corError (Foot.le_refl _) (Goes.refl _ s)).rd_misses hc
@[simp] theorem State.rd_sendErr (severity : Nat) (hc : fp_sendErr.misses (fieldName c.key) = true) :
    (State.sendErr s severity).rd c = s.rd c :=
  (Goes.sendErr (Foot.le_refl _) (Goes.refl _ s)).rd_misses hc
@[simp] theorem State.rd_logHeader (b : Nat) (header : Option Nat) (hc : fp_logHeader.misses (fieldName c.key) = true) :
    (State.logHeader s b header).rd c = s.rd c :=
  (Goes.logHeader (Foot.le_refl _) (Goes.refl _ s)).rd_misses hc
@[simp] theorem State.rd_detectUnc (b : Nat) (advisory : Bool) (hc : fp_detectUnc.misses (fieldName c.key) = true) :
    (State.detectUnc s b advisory).rd c = s.rd c :=
  (Goes.detectUnc (Foot.le_refl _) (Goes.refl _ s)).rd_misses hc
@[simp] theorem State.rd_uncError (b : Nat) (advisory : Bool) (header : Option Nat) (hc : fp_uncError.misses (fieldName c.key) = true) :
    (State.uncError s b advisory header).rd c = s.rd c :=
  (Goes.uncError (Foot.le_refl _) (Goes.refl _ s)).rd_misses hc
@[simp] theorem State.rd_sendMsix (v : Nat) (hc : fp_sendMsix.misses (fieldName c.key) = true) :
    (State.sendMsix s v).rd c = s.rd c :=
  (Goes.sendMsix (Foot.le_refl _) (Goes.refl _ s)).rd_misses hc
@[simp] theorem State.rd_flushMsix (hc : fp_flushMsix.misses (fieldName c.key) = true) :
    (State.flushMsix s).rd c = s.rd c :=
  (Goes.flushMsix (Foot.le_refl _) (Goes.refl _ s)).rd_misses hc
@[simp] theorem State.rd_setTag (t : Nat) (v : TagState) (hc : fp_setTag.misses (fieldName c.key) = true) :
    (State.setTag s t v).rd c = s.rd c :=
  (Goes.setTag (Foot.le_refl _) (Goes.refl _ s)).rd_misses hc
@[simp] theorem State.rd_retireTag (t : Nat) (quiet : Bool) (hc : fp_retireTag.misses (fieldName c.key) = true) :
    (State.retireTag s t quiet).rd c = s.rd c :=
  (Goes.retireTag (Foot.le_refl _) (Goes.refl _ s)).rd_misses hc
@[simp] theorem State.rd_askRead (u : ReadFor) (hc : fp_askRead.misses (fieldName c.key) = true) :
    (State.askRead s u).rd c = s.rd c :=
  (Goes.askRead (Foot.le_refl _) (Goes.refl _ s)).rd_misses hc
@[simp] theorem State.rd_kickReads (hc : fp_kickReads.misses (fieldName c.key) = true) :
    (State.kickReads s).rd c = s.rd c :=
  (Goes.kickReads (Foot.le_refl _) (Goes.refl _ s)).rd_misses hc
@[simp] theorem State.rd_askList (k : Nat) (w : Nat) (hc : fp_askList.misses (fieldName c.key) = true) :
    (State.askList s k w).rd c = s.rd c :=
  (Goes.askList (Foot.le_refl _) (Goes.refl _ s)).rd_misses hc
@[simp] theorem State.rd_granary (x0 : Nat) (x2 : Nat) (x3 : Nat) (x4 : Nat) (x5 : Bool) (x6 : List Nat) (hc : fp_granary.misses (fieldName c.key) = true) :
    (State.granary x0 s x2 x3 x4 x5 x6).rd c = s.rd c :=
  (Goes.granary (Foot.le_refl _) (Goes.refl _ s)).rd_misses hc
@[simp] theorem State.rd_fetchRing (k : Nat) (i : Nat) (hc : fp_fetchRing.misses (fieldName c.key) = true) :
    (State.fetchRing s k i).rd c = s.rd c :=
  (Goes.fetchRing (Foot.le_refl _) (Goes.refl _ s)).rd_misses hc
@[simp] theorem State.rd_writeEvent (e : Ev) (r : Nat) (redirected : Bool) (hc : fp_writeEvent.misses (fieldName c.key) = true) :
    (State.writeEvent s e r redirected).rd c = s.rd c :=
  (Goes.writeEvent (Foot.le_refl _) (Goes.refl _ s)).rd_misses hc
@[simp] theorem State.rd_showStaged (k : Nat) (hc : fp_showStaged.misses (fieldName c.key) = true) :
    (State.showStaged s k).rd c = s.rd c :=
  (Goes.showStaged (Foot.le_refl _) (Goes.refl _ s)).rd_misses hc
@[simp] theorem State.rd_sendPme (hc : fp_sendPme.misses (fieldName c.key) = true) :
    (State.sendPme s).rd c = s.rd c :=
  (Goes.sendPme (Foot.le_refl _) (Goes.refl _ s)).rd_misses hc
@[simp] theorem State.rd_wakeEvent (e : Ev) (hc : fp_wakeEvent.misses (fieldName c.key) = true) :
    (State.wakeEvent s e).rd c = s.rd c :=
  (Goes.wakeEvent (Foot.le_refl _) (Goes.refl _ s)).rd_misses hc
@[simp] theorem State.rd_markFull (k : Nat) (r : Option Nat) (hc : fp_markFull.misses (fieldName c.key) = true) :
    (State.markFull s k r).rd c = s.rd c :=
  (Goes.markFull (Foot.le_refl _) (Goes.refl _ s)).rd_misses hc
@[simp] theorem State.rd_stage (e : Ev) (r : Option Nat) (hc : fp_stage.misses (fieldName c.key) = true) :
    (State.stage s e r).rd c = s.rd c :=
  (Goes.stage (Foot.le_refl _) (Goes.refl _ s)).rd_misses hc
@[simp] theorem State.rd_flushFor (pick : Ev → Bool) (hc : fp_flushFor.misses (fieldName c.key) = true) :
    (State.flushFor s pick).rd c = s.rd c :=
  (Goes.flushFor (Foot.le_refl _) (Goes.refl _ s)).rd_misses hc
@[simp] theorem State.rd_dmaFail (u : ReadFor) (hc : fp_dmaFail.misses (fieldName c.key) = true) :
    (State.dmaFail s u).rd c = s.rd c :=
  (Goes.dmaFail (Foot.le_refl _) (Goes.refl _ s)).rd_misses hc
@[simp] theorem State.rd_voidReads (pick : ReadFor → Bool) (hc : fp_voidReads.misses (fieldName c.key) = true) :
    (State.voidReads s pick).rd c = s.rd c :=
  (Goes.voidReads (Foot.le_refl _) (Goes.refl _ s)).rd_misses hc
@[simp] theorem State.rd_beginHold (hc : fp_beginHold.misses (fieldName c.key) = true) :
    (State.beginHold s).rd c = s.rd c :=
  (Goes.beginHold (Foot.le_refl _) (Goes.refl _ s)).rd_misses hc
@[simp] theorem State.rd_checkHold (hc : fp_checkHold.misses (fieldName c.key) = true) :
    (State.checkHold s).rd c = s.rd c :=
  (Goes.checkHold (Foot.le_refl _) (Goes.refl _ s)).rd_misses hc
@[simp] theorem State.rd_resume (pick : Nat → Bool) (hc : fp_resume.misses (fieldName c.key) = true) :
    (State.resume s pick).rd c = s.rd c :=
  (Goes.resume (Foot.le_refl _) (Goes.refl _ s)).rd_misses hc
@[simp] theorem State.rd_endHold (hc : fp_endHold.misses (fieldName c.key) = true) :
    (State.endHold s).rd c = s.rd c :=
  (Goes.endHold (Foot.le_refl _) (Goes.refl _ s)).rd_misses hc
@[simp] theorem State.rd_fencedAccess (t : Nat) (isWrite : Bool) (hc : fp_fencedAccess.misses (fieldName c.key) = true) :
    (State.fencedAccess s t isWrite).rd c = s.rd c :=
  (Goes.fencedAccess (Foot.le_refl _) (Goes.refl _ s)).rd_misses hc
@[simp] theorem State.rd_request (q : Nat) (lane : Nat) (reason : Nat) (spare : Nat) (hc : fp_request.misses (fieldName c.key) = true) :
    (State.request s q lane reason spare).rd c = s.rd c :=
  (Goes.request (Foot.le_refl _) (Goes.refl _ s)).rd_misses hc
@[simp] theorem State.rd_trlCommand (q : Nat) (v : Nat) (hc : fp_trlCommand.misses (fieldName c.key) = true) :
    (State.trlCommand s q v).rd c = s.rd c :=
  (Goes.trlCommand (Foot.le_refl _) (Goes.refl _ s)).rd_misses hc
@[simp] theorem State.rd_eqCommand (h : Nat) (v : Nat) (hc : fp_eqCommand.misses (fieldName c.key) = true) :
    (State.eqCommand s h v).rd c = s.rd c :=
  (Goes.eqCommand (Foot.le_refl _) (Goes.refl _ s)).rd_misses hc
@[simp] theorem State.rd_retrain (x : Nat) (v : Nat) (hc : fp_retrain.misses (fieldName c.key) = true) :
    (State.retrain s x v).rd c = s.rd c :=
  (Goes.retrain (Foot.le_refl _) (Goes.refl _ s)).rd_misses hc
@[simp] theorem State.rd_wakeOnDemand (t : Nat) (hc : fp_wakeOnDemand.misses (fieldName c.key) = true) :
    (State.wakeOnDemand s t).rd c = s.rd c :=
  (Goes.wakeOnDemand (Foot.le_refl _) (Goes.refl _ s)).rd_misses hc
@[simp] theorem State.rd_coldRing (k : Nat) (i : Nat) (hc : fp_coldRing.misses (fieldName c.key) = true) :
    (State.coldRing s k i).rd c = s.rd c :=
  (Goes.coldRing (Foot.le_refl _) (Goes.refl _ s)).rd_misses hc
@[simp] theorem State.rd_coldWindow (k : Nat) (hc : fp_coldWindow.misses (fieldName c.key) = true) :
    (State.coldWindow s k).rd c = s.rd c :=
  (Goes.coldWindow (Foot.le_refl _) (Goes.refl _ s)).rd_misses hc
@[simp] theorem State.rd_sliceEvent (to_ : Nat) (k : Nat) (code : Nat) (result : List Nat) (hc : fp_sliceEvent.misses (fieldName c.key) = true) :
    (State.sliceEvent s to_ k code result).rd c = s.rd c :=
  (Goes.sliceEvent (Foot.le_refl _) (Goes.refl _ s)).rd_misses hc
@[simp] theorem State.rd_shareChanged (k : Nat) (hc : fp_shareChanged.misses (fieldName c.key) = true) :
    (State.shareChanged s k).rd c = s.rd c :=
  (Goes.shareChanged (Foot.le_refl _) (Goes.refl _ s)).rd_misses hc
@[simp] theorem State.rd_activate (k : Nat) (hc : fp_activate.misses (fieldName c.key) = true) :
    (State.activate s k).rd c = s.rd c :=
  (Goes.activate (Foot.le_refl _) (Goes.refl _ s)).rd_misses hc
@[simp] theorem State.rd_createS0 (hc : fp_createS0.misses (fieldName c.key) = true) :
    (State.createS0 s).rd c = s.rd c :=
  (Goes.createS0 (Foot.le_refl _) (Goes.refl _ s)).rd_misses hc
@[simp] theorem State.rd_showWinnow (w : Nat) (hc : fp_showWinnow.misses (fieldName c.key) = true) :
    (State.showWinnow s w).rd c = s.rd c :=
  (Goes.showWinnow (Foot.le_refl _) (Goes.refl _ s)).rd_misses hc
@[simp] theorem State.rd_releaseWinnow (w : Nat) (hc : fp_releaseWinnow.misses (fieldName c.key) = true) :
    (State.releaseWinnow s w).rd c = s.rd c :=
  (Goes.releaseWinnow (Foot.le_refl _) (Goes.refl _ s)).rd_misses hc
@[simp] theorem State.rd_releaseOwned (k : Nat) (pick : Nat → Bool) (hc : fp_releaseOwned.misses (fieldName c.key) = true) :
    (State.releaseOwned s k pick).rd c = s.rd c :=
  (Goes.releaseOwned (Foot.le_refl _) (Goes.refl _ s)).rd_misses hc
@[simp] theorem State.rd_closeWindow (k : Nat) (w : Nat) (hc : fp_closeWindow.misses (fieldName c.key) = true) :
    (State.closeWindow s k w).rd c = s.rd c :=
  (Goes.closeWindow (Foot.le_refl _) (Goes.refl _ s)).rd_misses hc
@[simp] theorem State.rd_stopTrace (k : Nat) (hc : fp_stopTrace.misses (fieldName c.key) = true) :
    (State.stopTrace s k).rd c = s.rd c :=
  (Goes.stopTrace (Foot.le_refl _) (Goes.refl _ s)).rd_misses hc
@[simp] theorem State.rd_dropJobs (k : Nat) (hc : fp_dropJobs.misses (fieldName c.key) = true) :
    (State.dropJobs s k).rd c = s.rd c :=
  (Goes.dropJobs (Foot.le_refl _) (Goes.refl _ s)).rd_misses hc
@[simp] theorem State.rd_quietSlice (k : Nat) (hc : fp_quietSlice.misses (fieldName c.key) = true) :
    (State.quietSlice s k).rd c = s.rd c :=
  (Goes.quietSlice (Foot.le_refl _) (Goes.refl _ s)).rd_misses hc
@[simp] theorem State.rd_freeSlice (k : Nat) (tell : Bool) (hc : fp_freeSlice.misses (fieldName c.key) = true) :
    (State.freeSlice s k tell).rd c = s.rd c :=
  (Goes.freeSlice (Foot.le_refl _) (Goes.refl _ s)).rd_misses hc
@[simp] theorem State.rd_reply (k : Nat) (i : Nat) (idx : Nat) (e : List Byte) (status : Nat) (result : List Nat) (port : Option Nat) (hc : fp_reply.misses (fieldName c.key) = true) :
    (State.reply s k i idx e status result port).rd c = s.rd c :=
  (Goes.reply (Foot.le_refl _) (Goes.refl _ s)).rd_misses hc
@[simp] theorem State.rd_replyAs (k : Nat) (i : Nat) (idx : Nat) (e : List Byte) (status : Nat) (result : List Nat) (pub : Option (List Nat)) (hc : fp_replyAs.misses (fieldName c.key) = true) :
    (State.replyAs s k i idx e status result pub).rd c = s.rd c :=
  (Goes.replyAs (Foot.le_refl _) (Goes.refl _ s)).rd_misses hc
@[simp] theorem State.rd_takeFront (k : Nat) (i : Nat) (cmd : Nat) (job : Bool) (hc : fp_takeFront.misses (fieldName c.key) = true) :
    (State.takeFront s k i cmd job).rd c = s.rd c :=
  (Goes.takeFront (Foot.le_refl _) (Goes.refl _ s)).rd_misses hc
@[simp] theorem State.rd_drain (k : Nat) (i : Nat) (x3 : Nat) (hc : fp_drain.misses (fieldName c.key) = true) :
    (State.drain s k i x3).rd c = s.rd c :=
  (Goes.drain (Foot.le_refl _) (Goes.refl _ s)).rd_misses hc
@[simp] theorem State.rd_moveRx (j : Job) (hc : fp_moveRx.misses (fieldName c.key) = true) :
    (State.moveRx s j).rd c = s.rd c :=
  (Goes.moveRx (Foot.le_refl _) (Goes.refl _ s)).rd_misses hc
@[simp] theorem State.rd_payStep (k : Nat) (j : Job) (hc : fp_payStep.misses (fieldName c.key) = true) :
    (State.payStep s k j).rd c = s.rd c :=
  (Goes.payStep (Foot.le_refl _) (Goes.refl _ s)).rd_misses hc
@[simp] theorem State.rd_finishJob (k : Nat) (j : Job) (hc : fp_finishJob.misses (fieldName c.key) = true) :
    (State.finishJob s k j).rd c = s.rd c :=
  (Goes.finishJob (Foot.le_refl _) (Goes.refl _ s)).rd_misses hc
@[simp] theorem State.rd_releaseJobs (hc : fp_releaseJobs.misses (fieldName c.key) = true) :
    (State.releaseJobs s).rd c = s.rd c :=
  (Goes.releaseJobs (Foot.le_refl _) (Goes.refl _ s)).rd_misses hc
@[simp] theorem State.rd_toQuality (q : Nat) (hc : fp_toQuality.misses (fieldName c.key) = true) :
    (State.toQuality s q).rd c = s.rd c :=
  (Goes.toQuality (Foot.le_refl _) (Goes.refl _ s)).rd_misses hc
@[simp] theorem State.rd_noParent (hc : fp_noParent.misses (fieldName c.key) = true) :
    (State.noParent s).rd c = s.rd c :=
  (Goes.noParent (Foot.le_refl _) (Goes.refl _ s)).rd_misses hc
@[simp] theorem State.rd_noMaster (hc : fp_noMaster.misses (fieldName c.key) = true) :
    (State.noMaster s).rd c = s.rd c :=
  (Goes.noMaster (Foot.le_refl _) (Goes.refl _ s)).rd_misses hc
@[simp] theorem State.rd_showRole (hc : fp_showRole.misses (fieldName c.key) = true) :
    (State.showRole s).rd c = s.rd c :=
  (Goes.showRole (Foot.le_refl _) (Goes.refl _ s)).rd_misses hc
@[simp] theorem State.rd_showParent (x1 : Candidate) (hc : fp_showParent.misses (fieldName c.key) = true) :
    (State.showParent s x1).rd c = s.rd c :=
  (Goes.showParent (Foot.le_refl _) (Goes.refl _ s)).rd_misses hc
@[simp] theorem State.rd_setSlew (n : Nat) (hc : fp_setSlew.misses (fieldName c.key) = true) :
    (State.setSlew s n).rd c = s.rd c :=
  (Goes.setSlew (Foot.le_refl _) (Goes.refl _ s)).rd_misses hc
@[simp] theorem State.rd_stepTime (v : Nat) (hc : fp_stepTime.misses (fieldName c.key) = true) :
    (State.stepTime s v).rd c = s.rd c :=
  (Goes.stepTime (Foot.le_refl _) (Goes.refl _ s)).rd_misses hc
@[simp] theorem State.rd_correct (theta2 : Int) (hc : fp_correct.misses (fieldName c.key) = true) :
    (State.correct s theta2).rd c = s.rd c :=
  (Goes.correct (Foot.le_refl _) (Goes.refl _ s)).rd_misses hc
@[simp] theorem State.rd_measured (theta2 : Int) (parentValid : Bool) (hc : fp_measured.misses (fieldName c.key) = true) :
    (State.measured s theta2 parentValid).rd c = s.rd c :=
  (Goes.measured (Foot.le_refl _) (Goes.refl _ s)).rd_misses hc
@[simp] theorem State.rd_enterHoldover (hc : fp_enterHoldover.misses (fieldName c.key) = true) :
    (State.enterHoldover s).rd c = s.rd c :=
  (Goes.enterHoldover (Foot.le_refl _) (Goes.refl _ s)).rd_misses hc
@[simp] theorem State.rd_source (b : Nat) (tl : Nat) (hc : fp_source.misses (fieldName c.key) = true) :
    (State.source s b tl).rd c = s.rd c :=
  (Goes.source (Foot.le_refl _) (Goes.refl _ s)).rd_misses hc
@[simp] theorem State.rd_sourceNow (b : Nat) (hc : fp_sourceNow.misses (fieldName c.key) = true) :
    (State.sourceNow s b).rd c = s.rd c :=
  (Goes.sourceNow (Foot.le_refl _) (Goes.refl _ s)).rd_misses hc
@[simp] theorem State.rd_takeSchedule (number : Nat) (time : Nat) (flood : Bool) (hc : fp_takeSchedule.misses (fieldName c.key) = true) :
    (State.takeSchedule s number time flood).rd c = s.rd c :=
  (Goes.takeSchedule (Foot.le_refl _) (Goes.refl _ s)).rd_misses hc
@[simp] theorem State.rd_loadSet (hc : fp_loadSet.misses (fieldName c.key) = true) :
    (State.loadSet s).rd c = s.rd c :=
  (Goes.loadSet (Foot.le_refl _) (Goes.refl _ s)).rd_misses hc
@[simp] theorem State.rd_dropRecord (k : Nat) (w : Nat) (time : Nat) (hc : fp_dropRecord.misses (fieldName c.key) = true) :
    (State.dropRecord s k w time).rd c = s.rd c :=
  (Goes.dropRecord (Foot.le_refl _) (Goes.refl _ s)).rd_misses hc
@[simp] theorem State.rd_putRecord (k : Nat) (w : Nat) (e : Nat × Nat × TraceRec) (hc : fp_putRecord.misses (fieldName c.key) = true) :
    (State.putRecord s k w e).rd c = s.rd c :=
  (Goes.putRecord (Foot.le_refl _) (Goes.refl _ s)).rd_misses hc
@[simp] theorem State.rd_writeRecord (k : Nat) (w : Nat) (r : TraceRec) (hc : fp_writeRecord.misses (fieldName c.key) = true) :
    (State.writeRecord s k w r).rd c = s.rd c :=
  (Goes.writeRecord (Foot.le_refl _) (Goes.refl _ s)).rd_misses hc
@[simp] theorem State.rd_drainBuffer (t : Nat) (x2 : List (Nat × Nat × TraceRec)) (hc : fp_drainBuffer.misses (fieldName c.key) = true) :
    (State.drainBuffer s t x2).rd c = s.rd c :=
  (Goes.drainBuffer (Foot.le_refl _) (Goes.refl _ s)).rd_misses hc
@[simp] theorem State.rd_queueRecord (t : Nat) (k : Nat) (w : Nat) (r : TraceRec) (hc : fp_queueRecord.misses (fieldName c.key) = true) :
    (State.queueRecord s t k w r).rd c = s.rd c :=
  (Goes.queueRecord (Foot.le_refl _) (Goes.refl _ s)).rd_misses hc
@[simp] theorem State.rd_triggerRecords (tl : Nat) (src : Nat) (hc : fp_triggerRecords.misses (fieldName c.key) = true) :
    (State.triggerRecords s tl src).rd c = s.rd c :=
  (Goes.triggerRecords (Foot.le_refl _) (Goes.refl _ s)).rd_misses hc
@[simp] theorem State.rd_showDclk (t : Nat) (hc : fp_showDclk.misses (fieldName c.key) = true) :
    (State.showDclk s t).rd c = s.rd c :=
  (Goes.showDclk (Foot.le_refl _) (Goes.refl _ s)).rd_misses hc
@[simp] theorem State.rd_coldHalf (h : Nat) (hc : fp_coldHalf.misses (fieldName c.key) = true) :
    (State.coldHalf s h).rd c = s.rd c :=
  (Goes.coldHalf (Foot.le_refl _) (Goes.refl _ s)).rd_misses hc
@[simp] theorem State.rd_coldPort (p : Nat) (hc : fp_coldPort.misses (fieldName c.key) = true) :
    (State.coldPort s p).rd c = s.rd c :=
  (Goes.coldPort (Foot.le_refl _) (Goes.refl _ s)).rd_misses hc
@[simp] theorem State.rd_quietPort (p : Nat) (why : Option PortReset) (hc : fp_quietPort.misses (fieldName c.key) = true) :
    (State.quietPort s p why).rd c = s.rd c :=
  (Goes.quietPort (Foot.le_refl _) (Goes.refl _ s)).rd_misses hc
@[simp] theorem State.rd_portReset (p : Nat) (hc : fp_portReset.misses (fieldName c.key) = true) :
    (State.portReset s p).rd c = s.rd c :=
  (Goes.portReset (Foot.le_refl _) (Goes.refl _ s)).rd_misses hc
@[simp] theorem State.rd_restructure (p : Nat) (hc : fp_restructure.misses (fieldName c.key) = true) :
    (State.restructure s p).rd c = s.rd c :=
  (Goes.restructure (Foot.le_refl _) (Goes.refl _ s)).rd_misses hc
@[simp] theorem State.rd_startPort (p : Nat) (hc : fp_startPort.misses (fieldName c.key) = true) :
    (State.startPort s p).rd c = s.rd c :=
  (Goes.startPort (Foot.le_refl _) (Goes.refl _ s)).rd_misses hc
@[simp] theorem State.rd_putTable (t : Tab Nat) (hc : fp_putTable.misses (fieldName c.key) = true) :
    (State.putTable s t).rd c = s.rd c :=
  (Goes.putTable (Foot.le_refl _) (Goes.refl _ s)).rd_misses hc
@[simp] theorem State.rd_stageEntry (i : Nat) (v : Nat) (hc : fp_stageEntry.misses (fieldName c.key) = true) :
    (State.stageEntry s i v).rd c = s.rd c :=
  (Goes.stageEntry (Foot.le_refl _) (Goes.refl _ s)).rd_misses hc
@[simp] theorem State.rd_clampFom (r : Nat) (hc : fp_clampFom.misses (fieldName c.key) = true) :
    (State.clampFom s r).rd c = s.rd c :=
  (Goes.clampFom (Foot.le_refl _) (Goes.refl _ s)).rd_misses hc
@[simp] theorem State.rd_clampSlot (q : Nat) (hc : fp_clampSlot.misses (fieldName c.key) = true) :
    (State.clampSlot s q).rd c = s.rd c :=
  (Goes.clampSlot (Foot.le_refl _) (Goes.refl _ s)).rd_misses hc
@[simp] theorem State.rd_clampGear (q : Nat) (hc : fp_clampGear.misses (fieldName c.key) = true) :
    (State.clampGear s q).rd c = s.rd c :=
  (Goes.clampGear (Foot.le_refl _) (Goes.refl _ s)).rd_misses hc
@[simp] theorem State.rd_clampMin (q : Nat) (hc : fp_clampMin.misses (fieldName c.key) = true) :
    (State.clampMin s q).rd c = s.rd c :=
  (Goes.clampMin (Foot.le_refl _) (Goes.refl _ s)).rd_misses hc
@[simp] theorem State.rd_computed (p : Nat) (hc : fp_computed.misses (fieldName c.key) = true) :
    (State.computed s p).rd c = s.rd c :=
  (Goes.computed (Foot.le_refl _) (Goes.refl _ s)).rd_misses hc
@[simp] theorem State.rd_clamped (ports : List Nat) (hc : fp_clamped.misses (fieldName c.key) = true) :
    (State.clamped s ports).rd c = s.rd c :=
  (Goes.clamped (Foot.le_refl _) (Goes.refl _ s)).rd_misses hc
@[simp] theorem State.rd_endTxn (result : Nat) (reason : Nat) (index : Nat) (hc : fp_endTxn.misses (fieldName c.key) = true) :
    (State.endTxn s result reason index).rd c = s.rd c :=
  (Goes.endTxn (Foot.le_refl _) (Goes.refl _ s)).rd_misses hc
@[simp] theorem State.rd_rollTxn (reason : Nat) (hc : fp_rollTxn.misses (fieldName c.key) = true) :
    (State.rollTxn s reason).rd c = s.rd c :=
  (Goes.rollTxn (Foot.le_refl _) (Goes.refl _ s)).rd_misses hc
@[simp] theorem State.rd_dropUncalled (hs : List Nat) (hc : fp_dropUncalled.misses (fieldName c.key) = true) :
    (State.dropUncalled s hs).rd c = s.rd c :=
  (Goes.dropUncalled (Foot.le_refl _) (Goes.refl _ s)).rd_misses hc
@[simp] theorem State.rd_settleDclk (hc : fp_settleDclk.misses (fieldName c.key) = true) :
    (State.settleDclk s).rd c = s.rd c :=
  (Goes.settleDclk (Foot.le_refl _) (Goes.refl _ s)).rd_misses hc
@[simp] theorem State.rd_awaitPort (p : Nat) (hc : fp_awaitPort.misses (fieldName c.key) = true) :
    (State.awaitPort s p).rd c = s.rd c :=
  (Goes.awaitPort (Foot.le_refl _) (Goes.refl _ s)).rd_misses hc
@[simp] theorem State.rd_forgetPort (p : Nat) (hc : fp_forgetPort.misses (fieldName c.key) = true) :
    (State.forgetPort s p).rd c = s.rd c :=
  (Goes.forgetPort (Foot.le_refl _) (Goes.refl _ s)).rd_misses hc
@[simp] theorem State.rd_markPort (p : Nat) (hc : fp_markPort.misses (fieldName c.key) = true) :
    (State.markPort s p).rd c = s.rd c :=
  (Goes.markPort (Foot.le_refl _) (Goes.refl _ s)).rd_misses hc
@[simp] theorem State.rd_clearMarks (hc : fp_clearMarks.misses (fieldName c.key) = true) :
    (State.clearMarks s).rd c = s.rd c :=
  (Goes.clearMarks (Foot.le_refl _) (Goes.refl _ s)).rd_misses hc
@[simp] theorem State.rd_markDirection (q : Nat) (hc : fp_markDirection.misses (fieldName c.key) = true) :
    (State.markDirection s q).rd c = s.rd c :=
  (Goes.markDirection (Foot.le_refl _) (Goes.refl _ s)).rd_misses hc
@[simp] theorem State.rd_resumeForwarding (hc : fp_resumeForwarding.misses (fieldName c.key) = true) :
    (State.resumeForwarding s).rd c = s.rd c :=
  (Goes.resumeForwarding (Foot.le_refl _) (Goes.refl _ s)).rd_misses hc
@[simp] theorem State.rd_stopForwarding (q : Nat) (hc : fp_stopForwarding.misses (fieldName c.key) = true) :
    (State.stopForwarding s q).rd c = s.rd c :=
  (Goes.stopForwarding (Foot.le_refl _) (Goes.refl _ s)).rd_misses hc
@[simp] theorem State.rd_newEpoch (k : Nat) (hc : fp_newEpoch.misses (fieldName c.key) = true) :
    (State.newEpoch s k).rd c = s.rd c :=
  (Goes.newEpoch (Foot.le_refl _) (Goes.refl _ s)).rd_misses hc
@[simp] theorem State.rd_engineEpoch (k : Nat) (hc : fp_engineEpoch.misses (fieldName c.key) = true) :
    (State.engineEpoch s k).rd c = s.rd c :=
  (Goes.engineEpoch (Foot.le_refl _) (Goes.refl _ s)).rd_misses hc
@[simp] theorem State.rd_dispatch (k : Nat) (x2 : Nat) (hc : fp_dispatch.misses (fieldName c.key) = true) :
    (State.dispatch s k x2).rd c = s.rd c :=
  (Goes.dispatch (Foot.le_refl _) (Goes.refl _ s)).rd_misses hc
@[simp] theorem State.rd_stepDone (k : Nat) (j : Job) (count : Nat) (hc : fp_stepDone.misses (fieldName c.key) = true) :
    (State.stepDone s k j count).rd c = s.rd c :=
  (Goes.stepDone (Foot.le_refl _) (Goes.refl _ s)).rd_misses hc
@[simp] theorem State.rd_haltEngine (k : Nat) (code : Nat) (hc : fp_haltEngine.misses (fieldName c.key) = true) :
    (State.haltEngine s k code).rd c = s.rd c :=
  (Goes.haltEngine (Foot.le_refl _) (Goes.refl _ s)).rd_misses hc
@[simp] theorem State.rd_showEngine (k : Nat) (hc : fp_showEngine.misses (fieldName c.key) = true) :
    (State.showEngine s k).rd c = s.rd c :=
  (Goes.showEngine (Foot.le_refl _) (Goes.refl _ s)).rd_misses hc
@[simp] theorem State.rd_swapFrom (k : Nat) (hc : fp_swapFrom.misses (fieldName c.key) = true) :
    (State.swapFrom s k).rd c = s.rd c :=
  (Goes.swapFrom (Foot.le_refl _) (Goes.refl _ s)).rd_misses hc
@[simp] theorem State.rd_resumeRx (k : Nat) (h : Nat) (hc : fp_resumeRx.misses (fieldName c.key) = true) :
    (State.resumeRx s k h).rd c = s.rd c :=
  (Goes.resumeRx (Foot.le_refl _) (Goes.refl _ s)).rd_misses hc
@[simp] theorem State.rd_setPermits (k : Nat) (value : Nat) (hc : fp_setPermits.misses (fieldName c.key) = true) :
    (State.setPermits s k value).rd c = s.rd c :=
  (Goes.setPermits (Foot.le_refl _) (Goes.refl _ s)).rd_misses hc
@[simp] theorem State.rd_sliceResult (k : Nat) (n : Nat) (hc : fp_sliceResult.misses (fieldName c.key) = true) :
    (State.sliceResult s k n).rd c = s.rd c :=
  (Goes.sliceResult (Foot.le_refl _) (Goes.refl _ s)).rd_misses hc
@[simp] theorem State.rd_createSlice (k : Nat) (hc : fp_createSlice.misses (fieldName c.key) = true) :
    (State.createSlice s k).rd c = s.rd c :=
  (Goes.createSlice (Foot.le_refl _) (Goes.refl _ s)).rd_misses hc
@[simp] theorem State.rd_resetSlice (k : Nat) (hc : fp_resetSlice.misses (fieldName c.key) = true) :
    (State.resetSlice s k).rd c = s.rd c :=
  (Goes.resetSlice (Foot.le_refl _) (Goes.refl _ s)).rd_misses hc
@[simp] theorem State.rd_askReset (k : Nat) (hc : fp_askReset.misses (fieldName c.key) = true) :
    (State.askReset s k).rd c = s.rd c :=
  (Goes.askReset (Foot.le_refl _) (Goes.refl _ s)).rd_misses hc
@[simp] theorem State.rd_selfReset (k : Nat) (hc : fp_selfReset.misses (fieldName c.key) = true) :
    (State.selfReset s k).rd c = s.rd c :=
  (Goes.selfReset (Foot.le_refl _) (Goes.refl _ s)).rd_misses hc
@[simp] theorem State.rd_destroySlice (k : Nat) (hc : fp_destroySlice.misses (fieldName c.key) = true) :
    (State.destroySlice s k).rd c = s.rd c :=
  (Goes.destroySlice (Foot.le_refl _) (Goes.refl _ s)).rd_misses hc
@[simp] theorem State.rd_askDestroy (k : Nat) (hc : fp_askDestroy.misses (fieldName c.key) = true) :
    (State.askDestroy s k).rd c = s.rd c :=
  (Goes.askDestroy (Foot.le_refl _) (Goes.refl _ s)).rd_misses hc
@[simp] theorem State.rd_shareWrite (k : Nat) (reg : ShareReg) (value : Nat) (hc : fp_shareWrite.misses (fieldName c.key) = true) :
    (State.shareWrite s k reg value).rd c = s.rd c :=
  (Goes.shareWrite (Foot.le_refl _) (Goes.refl _ s)).rd_misses hc
@[simp] theorem State.rd_setVisible (k : Nat) (hi : Nat) (value : Nat) (hc : fp_setVisible.misses (fieldName c.key) = true) :
    (State.setVisible s k hi value).rd c = s.rd c :=
  (Goes.setVisible (Foot.le_refl _) (Goes.refl _ s)).rd_misses hc
@[simp] theorem State.rd_setPasid (v : Bool) (hc : fp_setPasid.misses (fieldName c.key) = true) :
    (State.setPasid s v).rd c = s.rd c :=
  (Goes.setPasid (Foot.le_refl _) (Goes.refl _ s)).rd_misses hc
@[simp] theorem State.rd_ringVector (k : Nat) (i : Nat) (ctrl : Nat) (hc : fp_ringVector.misses (fieldName c.key) = true) :
    (State.ringVector s k i ctrl).rd c = s.rd c :=
  (Goes.ringVector (Foot.le_refl _) (Goes.refl _ s)).rd_misses hc
@[simp] theorem State.rd_ringShape (k : Nat) (i : Nat) (ctrl : Nat) (hc : fp_ringShape.misses (fieldName c.key) = true) :
    (State.ringShape s k i ctrl).rd c = s.rd c :=
  (Goes.ringShape (Foot.le_refl _) (Goes.refl _ s)).rd_misses hc
@[simp] theorem State.rd_reroute (k : Nat) (hc : fp_reroute.misses (fieldName c.key) = true) :
    (State.reroute s k).rd c = s.rd c :=
  (Goes.reroute (Foot.le_refl _) (Goes.refl _ s)).rd_misses hc
@[simp] theorem State.rd_ringEnable (k : Nat) (i : Nat) (ctrl : Nat) (hc : fp_ringEnable.misses (fieldName c.key) = true) :
    (State.ringEnable s k i ctrl).rd c = s.rd c :=
  (Goes.ringEnable (Foot.le_refl _) (Goes.refl _ s)).rd_misses hc
@[simp] theorem State.rd_dropFetch (k : Nat) (i : Nat) (hc : fp_dropFetch.misses (fieldName c.key) = true) :
    (State.dropFetch s k i).rd c = s.rd c :=
  (Goes.dropFetch (Foot.le_refl _) (Goes.refl _ s)).rd_misses hc
@[simp] theorem State.rd_ringDisable (k : Nat) (i : Nat) (ctrl : Nat) (hc : fp_ringDisable.misses (fieldName c.key) = true) :
    (State.ringDisable s k i ctrl).rd c = s.rd c :=
  (Goes.ringDisable (Foot.le_refl _) (Goes.refl _ s)).rd_misses hc
@[simp] theorem State.rd_ringResume (k : Nat) (i : Nat) (hc : fp_ringResume.misses (fieldName c.key) = true) :
    (State.ringResume s k i).rd c = s.rd c :=
  (Goes.ringResume (Foot.le_refl _) (Goes.refl _ s)).rd_misses hc
@[simp] theorem State.rd_cmdDoorbell (k : Nat) (i : Nat) (index : Nat) (hc : fp_cmdDoorbell.misses (fieldName c.key) = true) :
    (State.cmdDoorbell s k i index).rd c = s.rd c :=
  (Goes.cmdDoorbell (Foot.le_refl _) (Goes.refl _ s)).rd_misses hc
@[simp] theorem State.rd_eventDoorbell (k : Nat) (i : Nat) (index : Nat) (hc : fp_eventDoorbell.misses (fieldName c.key) = true) :
    (State.eventDoorbell s k i index).rd c = s.rd c :=
  (Goes.eventDoorbell (Foot.le_refl _) (Goes.refl _ s)).rd_misses hc
@[simp] theorem State.rd_postFirst (kept : List Ev) (x2 : List Ev) (hc : fp_postFirst.misses (fieldName c.key) = true) :
    (State.postFirst s kept x2).rd c = s.rd c :=
  (Goes.postFirst (Foot.le_refl _) (Goes.refl _ s)).rd_misses hc
@[simp] theorem State.rd_waitTile (k : Nat) (i : Nat) (idx : Nat) (e : List Byte) (pub : Option (List Nat)) (t : Nat) (hc : fp_waitTile.misses (fieldName c.key) = true) :
    (State.waitTile s k i idx e pub t).rd c = s.rd c :=
  (Goes.waitTile (Foot.le_refl _) (Goes.refl _ s)).rd_misses hc
@[simp] theorem State.rd_readRegs (k : Nat) (i : Nat) (idx : Nat) (e : List Byte) (pub : Option (List Nat)) (hc : fp_readRegs.misses (fieldName c.key) = true) :
    (State.readRegs s k i idx e pub).rd c = s.rd c :=
  (Goes.readRegs (Foot.le_refl _) (Goes.refl _ s)).rd_misses hc
@[simp] theorem State.rd_runReadReg (k : Nat) (i : Nat) (idx : Nat) (e : List Byte) (hc : fp_runReadReg.misses (fieldName c.key) = true) :
    (State.runReadReg s k i idx e).rd c = s.rd c :=
  (Goes.runReadReg (Foot.le_refl _) (Goes.refl _ s)).rd_misses hc
@[simp] theorem State.rd_retrainSides (p : Nat) (side : Nat) (hc : fp_retrainSides.misses (fieldName c.key) = true) :
    (State.retrainSides s p side).rd c = s.rd c :=
  (Goes.retrainSides (Foot.le_refl _) (Goes.refl _ s)).rd_misses hc
@[simp] theorem State.rd_runRetrain (k : Nat) (i : Nat) (idx : Nat) (e : List Byte) (hc : fp_runRetrain.misses (fieldName c.key) = true) :
    (State.runRetrain s k i idx e).rd c = s.rd c :=
  (Goes.runRetrain (Foot.le_refl _) (Goes.refl _ s)).rd_misses hc
@[simp] theorem State.rd_goOn (k : Nat) (i : Nat) (w : Nat × Nat × List Byte × Option (List Nat)) (hc : fp_goOn.misses (fieldName c.key) = true) :
    (State.goOn s k i w).rd c = s.rd c :=
  (Goes.goOn (Foot.le_refl _) (Goes.refl _ s)).rd_misses hc
@[simp] theorem State.rd_resumeWaits (t : Nat) (hc : fp_resumeWaits.misses (fieldName c.key) = true) :
    (State.resumeWaits s t).rd c = s.rd c :=
  (Goes.resumeWaits (Foot.le_refl _) (Goes.refl _ s)).rd_misses hc
@[simp] theorem State.rd_loseJob (k : Nat) (hc : fp_loseJob.misses (fieldName c.key) = true) :
    (State.loseJob s k).rd c = s.rd c :=
  (Goes.loseJob (Foot.le_refl _) (Goes.refl _ s)).rd_misses hc
@[simp] theorem State.rd_stopEngine (k : Nat) (hc : fp_stopEngine.misses (fieldName c.key) = true) :
    (State.stopEngine s k).rd c = s.rd c :=
  (Goes.stopEngine (Foot.le_refl _) (Goes.refl _ s)).rd_misses hc
@[simp] theorem State.rd_leavesOn (t : Nat) (st : Nat) (hc : fp_leavesOn.misses (fieldName c.key) = true) :
    (State.leavesOn s t st).rd c = s.rd c :=
  (Goes.leavesOn (Foot.le_refl _) (Goes.refl _ s)).rd_misses hc
@[simp] theorem State.rd_quietTile (t : Nat) (why : Option PortReset) (hc : fp_quietTile.misses (fieldName c.key) = true) :
    (State.quietTile s t why).rd c = s.rd c :=
  (Goes.quietTile (Foot.le_refl _) (Goes.refl _ s)).rd_misses hc
@[simp] theorem State.rd_destroyAll (hc : fp_destroyAll.misses (fieldName c.key) = true) :
    (State.destroyAll s).rd c = s.rd c :=
  (Goes.destroyAll (Foot.le_refl _) (Goes.refl _ s)).rd_misses hc
@[simp] theorem State.rd_mgmtReset (sticky : Bool) (hc : fp_mgmtReset.misses (fieldName c.key) = true) :
    (State.mgmtReset s sticky).rd c = s.rd c :=
  (Goes.mgmtReset (Foot.le_refl _) (Goes.refl _ s)).rd_misses hc
@[simp] theorem State.rd_functionReset (hc : fp_functionReset.misses (fieldName c.key) = true) :
    (State.functionReset s).rd c = s.rd c :=
  (Goes.functionReset (Foot.le_refl _) (Goes.refl _ s)).rd_misses hc
@[simp] theorem State.rd_linkDown (hc : fp_linkDown.misses (fieldName c.key) = true) :
    (State.linkDown s).rd c = s.rd c :=
  (Goes.linkDown (Foot.le_refl _) (Goes.refl _ s)).rd_misses hc
@[simp] theorem State.rd_showAddress (hc : fp_showAddress.misses (fieldName c.key) = true) :
    (State.showAddress s).rd c = s.rd c :=
  (Goes.showAddress (Foot.le_refl _) (Goes.refl _ s)).rd_misses hc
@[simp] theorem State.rd_newEra (era : Nat) (hc : fp_newEra.misses (fieldName c.key) = true) :
    (State.newEra s era).rd c = s.rd c :=
  (Goes.newEra (Foot.le_refl _) (Goes.refl _ s)).rd_misses hc
@[simp] theorem State.rd_showFuses (hc : fp_showFuses.misses (fieldName c.key) = true) :
    (State.showFuses s).rd c = s.rd c :=
  (Goes.showFuses (Foot.le_refl _) (Goes.refl _ s)).rd_misses hc
@[simp] theorem State.rd_bootShow (hc : fp_bootShow.misses (fieldName c.key) = true) :
    (State.bootShow s).rd c = s.rd c :=
  (Goes.bootShow (Foot.le_refl _) (Goes.refl _ s)).rd_misses hc
@[simp] theorem State.rd_imgDone (result : Nat) (hc : fp_imgDone.misses (fieldName c.key) = true) :
    (State.imgDone s result).rd c = s.rd c :=
  (Goes.imgDone (Foot.le_refl _) (Goes.refl _ s)).rd_misses hc
@[simp] theorem State.rd_writeEnd (result : Nat) (hc : fp_writeEnd.misses (fieldName c.key) = true) :
    (State.writeEnd s result).rd c = s.rd c :=
  (Goes.writeEnd (Foot.le_refl _) (Goes.refl _ s)).rd_misses hc
@[simp] theorem State.rd_imgRead (u : ReadFor) (hc : fp_imgRead.misses (fieldName c.key) = true) :
    (State.imgRead s u).rd c = s.rd c :=
  (Goes.imgRead (Foot.le_refl _) (Goes.refl _ s)).rd_misses hc
@[simp] theorem State.rd_imgNext (hc : fp_imgNext.misses (fieldName c.key) = true) :
    (State.imgNext s).rd c = s.rd c :=
  (Goes.imgNext (Foot.le_refl _) (Goes.refl _ s)).rd_misses hc
@[simp] theorem State.rd_confirm (hc : fp_confirm.misses (fieldName c.key) = true) :
    (State.confirm s).rd c = s.rd c :=
  (Goes.confirm (Foot.le_refl _) (Goes.refl _ s)).rd_misses hc
@[simp] theorem State.rd_atStep (w : ImgWrite) (step : Nat) (hc : fp_atStep.misses (fieldName c.key) = true) :
    (State.atStep s w step).rd c = s.rd c :=
  (Goes.atStep (Foot.le_refl _) (Goes.refl _ s)).rd_misses hc
@[simp] theorem State.rd_writeCheck (w : ImgWrite) (hc : fp_writeCheck.misses (fieldName c.key) = true) :
    (State.writeCheck s w).rd c = s.rd c :=
  (Goes.writeCheck (Foot.le_refl _) (Goes.refl _ s)).rd_misses hc
@[simp] theorem State.rd_writeStep (w : ImgWrite) (hc : fp_writeStep.misses (fieldName c.key) = true) :
    (State.writeStep s w).rd c = s.rd c :=
  (Goes.writeStep (Foot.le_refl _) (Goes.refl _ s)).rd_misses hc
@[simp] theorem State.rd_writeFails (w : ImgWrite) (hc : fp_writeFails.misses (fieldName c.key) = true) :
    (State.writeFails s w).rd c = s.rd c :=
  (Goes.writeFails (Foot.le_refl _) (Goes.refl _ s)).rd_misses hc
@[simp] theorem State.rd_lockLost (h : Nat) (hc : fp_lockLost.misses (fieldName c.key) = true) :
    (State.lockLost s h).rd c = s.rd c :=
  (Goes.lockLost (Foot.le_refl _) (Goes.refl _ s)).rd_misses hc
@[simp] theorem State.rd_quietAcross (h : Nat) (hc : fp_quietAcross.misses (fieldName c.key) = true) :
    (State.quietAcross s h).rd c = s.rd c :=
  (Goes.quietAcross (Foot.le_refl _) (Goes.refl _ s)).rd_misses hc
@[simp] theorem State.rd_loopbackEnd (p : Nat) (hc : fp_loopbackEnd.misses (fieldName c.key) = true) :
    (State.loopbackEnd s p).rd c = s.rd c :=
  (Goes.loopbackEnd (Foot.le_refl _) (Goes.refl _ s)).rd_misses hc
@[simp] theorem State.rd_streamsRun (p : Nat) (flit : Bool) (hc : fp_streamsRun.misses (fieldName c.key) = true) :
    (State.streamsRun s p flit).rd c = s.rd c :=
  (Goes.streamsRun (Foot.le_refl _) (Goes.refl _ s)).rd_misses hc
@[simp] theorem State.rd_markStream (q : Nat) (hc : fp_markStream.misses (fieldName c.key) = true) :
    (State.markStream s q).rd c = s.rd c :=
  (Goes.markStream (Foot.le_refl _) (Goes.refl _ s)).rd_misses hc
@[simp] theorem State.rd_passOn (h : Nat) (o : Nat → Out) (hc : fp_passOn.misses (fieldName c.key) = true) :
    (State.passOn s h o).rd c = s.rd c :=
  (Goes.passOn (Foot.le_refl _) (Goes.refl _ s)).rd_misses hc
@[simp] theorem State.rd_passMark (h : Nat) (what : Nat) (hc : fp_passMark.misses (fieldName c.key) = true) :
    (State.passMark s h what).rd c = s.rd c :=
  (Goes.passMark (Foot.le_refl _) (Goes.refl _ s)).rd_misses hc
@[simp] theorem State.rd_passItems (h : Nat) (items : List StreamItem) (hc : fp_passItems.misses (fieldName c.key) = true) :
    (State.passItems s h items).rd c = s.rd c :=
  (Goes.passItems (Foot.le_refl _) (Goes.refl _ s)).rd_misses hc
@[simp] theorem State.rd_flitDrop (q : Nat) (hc : fp_flitDrop.misses (fieldName c.key) = true) :
    (State.flitDrop s q).rd c = s.rd c :=
  (Goes.flitDrop (Foot.le_refl _) (Goes.refl _ s)).rd_misses hc
@[simp] theorem State.rd_enterFlits (q : Nat) (arrived : List StreamItem) (hc : fp_enterFlits.misses (fieldName c.key) = true) :
    (State.enterFlits s q arrived).rd c = s.rd c :=
  (Goes.enterFlits (Foot.le_refl _) (Goes.refl _ s)).rd_misses hc
@[simp] theorem State.rd_pushOset (sg : Nat) (kind : Nat) (lane : Nat) (hc : fp_pushOset.misses (fieldName c.key) = true) :
    (State.pushOset s sg kind lane).rd c = s.rd c :=
  (Goes.pushOset (Foot.le_refl _) (Goes.refl _ s)).rd_misses hc
@[simp] theorem State.rd_relayOset (q : Nat) (h : Nat) (kind : Nat) (hc : fp_relayOset.misses (fieldName c.key) = true) :
    (State.relayOset s q h kind).rd c = s.rd c :=
  (Goes.relayOset (Foot.le_refl _) (Goes.refl _ s)).rd_misses hc
@[simp] theorem State.rd_deskewFailed (q : Nat) (lane : Option Nat) (hc : fp_deskewFailed.misses (fieldName c.key) = true) :
    (State.deskewFailed s q lane).rd c = s.rd c :=
  (Goes.deskewFailed (Foot.le_refl _) (Goes.refl _ s)).rd_misses hc
@[simp] theorem State.rd_noteArrival (q : Nat) (h : Nat) (arrival : Nat) (hc : fp_noteArrival.misses (fieldName c.key) = true) :
    (State.noteArrival s q h arrival).rd c = s.rd c :=
  (Goes.noteArrival (Foot.le_refl _) (Goes.refl _ s)).rd_misses hc
@[simp] theorem State.rd_countSkp (q : Nat) (a : Int) (hc : fp_countSkp.misses (fieldName c.key) = true) :
    (State.countSkp s q a).rd c = s.rd c :=
  (Goes.countSkp (Foot.le_refl _) (Goes.refl _ s)).rd_misses hc
@[simp] theorem State.rd_noteSub (q : Nat) (sub : Substate) (hc : fp_noteSub.misses (fieldName c.key) = true) :
    (State.noteSub s q sub).rd c = s.rd c :=
  (Goes.noteSub (Foot.le_refl _) (Goes.refl _ s)).rd_misses hc
@[simp] theorem State.rd_noteSubstate (q : Nat) (h : Nat) (ts : TrainingSet) (hc : fp_noteSubstate.misses (fieldName c.key) = true) :
    (State.noteSubstate s q h ts).rd c = s.rd c :=
  (Goes.noteSubstate (Foot.le_refl _) (Goes.refl _ s)).rd_misses hc
@[simp] theorem State.rd_noteUp (q : Nat) (ts : TrainingSet) (first : Bool) (hc : fp_noteUp.misses (fieldName c.key) = true) :
    (State.noteUp s q ts first).rd c = s.rd c :=
  (Goes.noteUp (Foot.le_refl _) (Goes.refl _ s)).rd_misses hc
@[simp] theorem State.rd_noteLane (q : Nat) (h : Nat) (ts : TrainingSet) (geared : Bool) (hc : fp_noteLane.misses (fieldName c.key) = true) :
    (State.noteLane s q h ts geared).rd c = s.rd c :=
  (Goes.noteLane (Foot.le_refl _) (Goes.refl _ s)).rd_misses hc
@[simp] theorem State.rd_noteWidth (p : Nat) (w : Nat) (geared : Bool) (hc : fp_noteWidth.misses (fieldName c.key) = true) :
    (State.noteWidth s p w geared).rd c = s.rd c :=
  (Goes.noteWidth (Foot.le_refl _) (Goes.refl _ s)).rd_misses hc
@[simp] theorem State.rd_noteSet (q : Nat) (h : Nat) (ts : TrainingSet) (hc : fp_noteSet.misses (fieldName c.key) = true) :
    (State.noteSet s q h ts).rd c = s.rd c :=
  (Goes.noteSet (Foot.le_refl _) (Goes.refl _ s)).rd_misses hc
@[simp] theorem State.rd_eqSet (q : Nat) (h : Nat) (ts : TrainingSet) (hc : fp_eqSet.misses (fieldName c.key) = true) :
    (State.eqSet s q h ts).rd c = s.rd c :=
  (Goes.eqSet (Foot.le_refl _) (Goes.refl _ s)).rd_misses hc
@[simp] theorem State.rd_stateSet (p : Nat) (ts : TrainingSet) (hc : fp_stateSet.misses (fieldName c.key) = true) :
    (State.stateSet s p ts).rd c = s.rd c :=
  (Goes.stateSet (Foot.le_refl _) (Goes.refl _ s)).rd_misses hc
@[simp] theorem State.rd_forwardSet (q : Nat) (h : Nat) (ts : TrainingSet) (hc : fp_forwardSet.misses (fieldName c.key) = true) :
    (State.forwardSet s q h ts).rd c = s.rd c :=
  (Goes.forwardSet (Foot.le_refl _) (Goes.refl _ s)).rd_misses hc
@[simp] theorem State.rd_changeRate (slot : Nat) (h : Nat) (hc : fp_changeRate.misses (fieldName c.key) = true) :
    (State.changeRate s slot h).rd c = s.rd c :=
  (Goes.changeRate (Foot.le_refl _) (Goes.refl _ s)).rd_misses hc
@[simp] theorem State.rd_markL0s (q : Nat) (b : Bool) (hc : fp_markL0s.misses (fieldName c.key) = true) :
    (State.markL0s s q b).rd c = s.rd c :=
  (Goes.markL0s (Foot.le_refl _) (Goes.refl _ s)).rd_misses hc
@[simp] theorem State.rd_enterL0s (q : Nat) (hc : fp_enterL0s.misses (fieldName c.key) = true) :
    (State.enterL0s s q).rd c = s.rd c :=
  (Goes.enterL0s (Foot.le_refl _) (Goes.refl _ s)).rd_misses hc
@[simp] theorem State.rd_leaveL0s (q : Nat) (hc : fp_leaveL0s.misses (fieldName c.key) = true) :
    (State.leaveL0s s q).rd c = s.rd c :=
  (Goes.leaveL0s (Foot.le_refl _) (Goes.refl _ s)).rd_misses hc
@[simp] theorem State.rd_toSConfirm (q : Nat) (hc : fp_toSConfirm.misses (fieldName c.key) = true) :
    (State.toSConfirm s q).rd c = s.rd c :=
  (Goes.toSConfirm (Foot.le_refl _) (Goes.refl _ s)).rd_misses hc
@[simp] theorem State.rd_noteReady (q : Nat) (m : List Byte) (hc : fp_noteReady.misses (fieldName c.key) = true) :
    (State.noteReady s q m).rd c = s.rd c :=
  (Goes.noteReady (Foot.le_refl _) (Goes.refl _ s)).rd_misses hc
@[simp] theorem State.rd_discoverDone (q : Nat) (hc : fp_discoverDone.misses (fieldName c.key) = true) :
    (State.discoverDone s q).rd c = s.rd c :=
  (Goes.discoverDone (Foot.le_refl _) (Goes.refl _ s)).rd_misses hc
@[simp] theorem State.rd_sactiveEntry (q : Nat) (hc : fp_sactiveEntry.misses (fieldName c.key) = true) :
    (State.sactiveEntry s q).rd c = s.rd c :=
  (Goes.sactiveEntry (Foot.le_refl _) (Goes.refl _ s)).rd_misses hc
@[simp] theorem State.rd_segPartnerGone (q : Nat) (hc : fp_segPartnerGone.misses (fieldName c.key) = true) :
    (State.segPartnerGone s q).rd c = s.rd c :=
  (Goes.segPartnerGone (Foot.le_refl _) (Goes.refl _ s)).rd_misses hc
@[simp] theorem State.rd_startReplay (q : Nat) (hc : fp_startReplay.misses (fieldName c.key) = true) :
    (State.startReplay s q).rd c = s.rd c :=
  (Goes.startReplay (Foot.le_refl _) (Goes.refl _ s)).rd_misses hc
@[simp] theorem State.rd_takeAck (q : Nat) (a : Nat) (hc : fp_takeAck.misses (fieldName c.key) = true) :
    (State.takeAck s q a).rd c = s.rd c :=
  (Goes.takeAck (Foot.le_refl _) (Goes.refl _ s)).rd_misses hc
@[simp] theorem State.rd_takeNak (q : Nat) (a : Nat) (hc : fp_takeNak.misses (fieldName c.key) = true) :
    (State.takeNak s q a).rd c = s.rd c :=
  (Goes.takeNak (Foot.le_refl _) (Goes.refl _ s)).rd_misses hc
@[simp] theorem State.rd_farStreamEnds (p : Nat) (hc : fp_farStreamEnds.misses (fieldName c.key) = true) :
    (State.farStreamEnds s p).rd c = s.rd c :=
  (Goes.farStreamEnds (Foot.le_refl _) (Goes.refl _ s)).rd_misses hc
@[simp] theorem State.rd_deliverFrame (q : Nat) (f : Frame) (hc : fp_deliverFrame.misses (fieldName c.key) = true) :
    (State.deliverFrame s q f).rd c = s.rd c :=
  (Goes.deliverFrame (Foot.le_refl _) (Goes.refl _ s)).rd_misses hc
@[simp] theorem State.rd_acceptRows (x0 : Nat) (x2 : Nat) (hc : fp_acceptRows.misses (fieldName c.key) = true) :
    (State.acceptRows x0 s x2).rd c = s.rd c :=
  (Goes.acceptRows (Foot.le_refl _) (Goes.refl _ s)).rd_misses hc
@[simp] theorem State.rd_judgeNak (q : Nat) (hc : fp_judgeNak.misses (fieldName c.key) = true) :
    (State.judgeNak s q).rd c = s.rd c :=
  (Goes.judgeNak (Foot.le_refl _) (Goes.refl _ s)).rd_misses hc
@[simp] theorem State.rd_putFrame (q : Nat) (row : Nat) (l : Nat) (f : Option Frame) (isNew : Bool) (hc : fp_putFrame.misses (fieldName c.key) = true) :
    (State.putFrame s q row l f isNew).rd c = s.rd c :=
  (Goes.putFrame (Foot.le_refl _) (Goes.refl _ s)).rd_misses hc
@[simp] theorem State.rd_placeFrame (q : Nat) (l : Nat) (hd : Header) (payload : List Byte) (isNew : Bool) (hc : fp_placeFrame.misses (fieldName c.key) = true) :
    (State.placeFrame s q l hd payload isNew).rd c = s.rd c :=
  (Goes.placeFrame (Foot.le_refl _) (Goes.refl _ s)).rd_misses hc
@[simp] theorem State.rd_rowFrame (q : Nat) (h : Nat) (l : Nat) (hd : Header) (payload : List Byte) (isNew : Bool) (hc : fp_rowFrame.misses (fieldName c.key) = true) :
    (State.rowFrame s q h l hd payload isNew).rd c = s.rd c :=
  (Goes.rowFrame (Foot.le_refl _) (Goes.refl _ s)).rd_misses hc
@[simp] theorem State.rd_badFrame (q : Nat) (h : Nat) (n : Nat) (hc : fp_badFrame.misses (fieldName c.key) = true) :
    (State.badFrame s q h n).rd c = s.rd c :=
  (Goes.badFrame (Foot.le_refl _) (Goes.refl _ s)).rd_misses hc
@[simp] theorem State.rd_goodFrame (q : Nat) (h : Nat) (t : Try) (hd : Header) (payload : List Byte) (n : Nat) (hc : fp_goodFrame.misses (fieldName c.key) = true) :
    (State.goodFrame s q h t hd payload n).rd c = s.rd c :=
  (Goes.goodFrame (Foot.le_refl _) (Goes.refl _ s)).rd_misses hc
@[simp] theorem State.rd_consumeDue (q : Nat) (sent : List Frame) (hc : fp_consumeDue.misses (fieldName c.key) = true) :
    (State.consumeDue s q sent).rd c = s.rd c :=
  (Goes.consumeDue (Foot.le_refl _) (Goes.refl _ s)).rd_misses hc
@[simp] theorem State.rd_takeWaiting (q : Nat) (n : Nat) (hc : fp_takeWaiting.misses (fieldName c.key) = true) :
    (State.takeWaiting s q n).rd c = s.rd c :=
  (Goes.takeWaiting (Foot.le_refl _) (Goes.refl _ s)).rd_misses hc
@[simp] theorem State.rd_sendFrame (h : Nat) (seed : Nat) (hd : Header) (payload : List Byte) (low : Int) (hc : fp_sendFrame.misses (fieldName c.key) = true) :
    (State.sendFrame s h seed hd payload low).rd c = s.rd c :=
  (Goes.sendFrame (Foot.le_refl _) (Goes.refl _ s)).rd_misses hc
@[simp] theorem State.rd_sendRow (q : Nat) (row : Nat) (frames : List (Nat × Frame)) (hc : fp_sendRow.misses (fieldName c.key) = true) :
    (State.sendRow s q row frames).rd c = s.rd c :=
  (Goes.sendRow (Foot.le_refl _) (Goes.refl _ s)).rd_misses hc
@[simp] theorem State.rd_launchRow (q : Nat) (hc : fp_launchRow.misses (fieldName c.key) = true) :
    (State.launchRow s q).rd c = s.rd c :=
  (Goes.launchRow (Foot.le_refl _) (Goes.refl _ s)).rd_misses hc
@[simp] theorem State.rd_switchTx (q : Nat) (hc : fp_switchTx.misses (fieldName c.key) = true) :
    (State.switchTx s q).rd c = s.rd c :=
  (Goes.switchTx (Foot.le_refl _) (Goes.refl _ s)).rd_misses hc
@[simp] theorem State.rd_trainingOver (q : Nat) (hc : fp_trainingOver.misses (fieldName c.key) = true) :
    (State.trainingOver s q).rd c = s.rd c :=
  (Goes.trainingOver (Foot.le_refl _) (Goes.refl _ s)).rd_misses hc
@[simp] theorem State.rd_farSet (q : Nat) (ts : TrainingSet) (hc : fp_farSet.misses (fieldName c.key) = true) :
    (State.farSet s q ts).rd c = s.rd c :=
  (Goes.farSet (Foot.le_refl _) (Goes.refl _ s)).rd_misses hc
@[simp] theorem State.rd_farPreset (q : Nat) (k : Nat) (ts : TrainingSet) (hc : fp_farPreset.misses (fieldName c.key) = true) :
    (State.farPreset s q k ts).rd c = s.rd c :=
  (Goes.farPreset (Foot.le_refl _) (Goes.refl _ s)).rd_misses hc
@[simp] theorem State.rd_takeSets (q : Nat) (m : List Byte) (hc : fp_takeSets.misses (fieldName c.key) = true) :
    (State.takeSets s q m).rd c = s.rd c :=
  (Goes.takeSets (Foot.le_refl _) (Goes.refl _ s)).rd_misses hc
@[simp] theorem State.rd_pathMargin (q : Nat) (m : List Byte) (hc : fp_pathMargin.misses (fieldName c.key) = true) :
    (State.pathMargin s q m).rd c = s.rd c :=
  (Goes.pathMargin (Foot.le_refl _) (Goes.refl _ s)).rd_misses hc
@[simp] theorem State.rd_farSignal (p : Nat) (ei : Bool) (was : Bool) (mask : Nat) (hc : fp_farSignal.misses (fieldName c.key) = true) :
    (State.farSignal s p ei was mask).rd c = s.rd c :=
  (Goes.farSignal (Foot.le_refl _) (Goes.refl _ s)).rd_misses hc
@[simp] theorem State.rd_pathArrived (q : Nat) (m : List Byte) (hc : fp_pathArrived.misses (fieldName c.key) = true) :
    (State.pathArrived s q m).rd c = s.rd c :=
  (Goes.pathArrived (Foot.le_refl _) (Goes.refl _ s)).rd_misses hc
@[simp] theorem State.rd_notePeer (q : Nat) (m : List Byte) (arrival : Nat) (hc : fp_notePeer.misses (fieldName c.key) = true) :
    (State.notePeer s q m arrival).rd c = s.rd c :=
  (Goes.notePeer (Foot.le_refl _) (Goes.refl _ s)).rd_misses hc
@[simp] theorem State.rd_timSet (hi : Nat) (hc : fp_timSet.misses (fieldName c.key) = true) :
    (State.timSet s hi).rd c = s.rd c :=
  (Goes.timSet (Foot.le_refl _) (Goes.refl _ s)).rd_misses hc
@[simp] theorem State.rd_windowResume (k : Nat) (w : Nat) (hc : fp_windowResume.misses (fieldName c.key) = true) :
    (State.windowResume s k w).rd c = s.rd c :=
  (Goes.windowResume (Foot.le_refl _) (Goes.refl _ s)).rd_misses hc
@[simp] theorem State.rd_scheduleGo (flood : Bool) (hc : fp_scheduleGo.misses (fieldName c.key) = true) :
    (State.scheduleGo s flood).rd c = s.rd c :=
  (Goes.scheduleGo (Foot.le_refl _) (Goes.refl _ s)).rd_misses hc
@[simp] theorem State.rd_listFailed (k : Nat) (w : Nat) (hc : fp_listFailed.misses (fieldName c.key) = true) :
    (State.listFailed s k w).rd c = s.rd c :=
  (Goes.listFailed (Foot.le_refl _) (Goes.refl _ s)).rd_misses hc
@[simp] theorem State.rd_fetchFailed (k : Nat) (i : Nat) (first : Nat) (code : Nat) (hc : fp_fetchFailed.misses (fieldName c.key) = true) :
    (State.fetchFailed s k i first code).rd c = s.rd c :=
  (Goes.fetchFailed (Foot.le_refl _) (Goes.refl _ s)).rd_misses hc
@[simp] theorem State.rd_readFailed (u : ReadFor) (code : Nat) (hc : fp_readFailed.misses (fieldName c.key) = true) :
    (State.readFailed s u code).rd c = s.rd c :=
  (Goes.readFailed (Foot.le_refl _) (Goes.refl _ s)).rd_misses hc
@[simp] theorem State.rd_takeGranules (k : Nat) (w : Nat) (addrs : List Nat) (hc : fp_takeGranules.misses (fieldName c.key) = true) :
    (State.takeGranules s k w addrs).rd c = s.rd c :=
  (Goes.takeGranules (Foot.le_refl _) (Goes.refl _ s)).rd_misses hc
@[simp] theorem State.rd_takeList (k : Nat) (w : Nat) (bs : List Byte) (hc : fp_takeList.misses (fieldName c.key) = true) :
    (State.takeList s k w bs).rd c = s.rd c :=
  (Goes.takeList (Foot.le_refl _) (Goes.refl _ s)).rd_misses hc
@[simp] theorem State.rd_takeImage (bs : List Byte) (hc : fp_takeImage.misses (fieldName c.key) = true) :
    (State.takeImage s bs).rd c = s.rd c :=
  (Goes.takeImage (Foot.le_refl _) (Goes.refl _ s)).rd_misses hc
@[simp] theorem State.rd_takeKey (digest : Nat) (hc : fp_takeKey.misses (fieldName c.key) = true) :
    (State.takeKey s digest).rd c = s.rd c :=
  (Goes.takeKey (Foot.le_refl _) (Goes.refl _ s)).rd_misses hc
@[simp] theorem State.rd_afterRead (u : ReadFor) (hc : fp_afterRead.misses (fieldName c.key) = true) :
    (State.afterRead s u).rd c = s.rd c :=
  (Goes.afterRead (Foot.le_refl _) (Goes.refl _ s)).rd_misses hc
@[simp] theorem State.rd_lateCompletion (header : Nat) (hc : fp_lateCompletion.misses (fieldName c.key) = true) :
    (State.lateCompletion s header).rd c = s.rd c :=
  (Goes.lateCompletion (Foot.le_refl _) (Goes.refl _ s)).rd_misses hc
@[simp] theorem State.rd_parityError (hc : fp_parityError.misses (fieldName c.key) = true) :
    (State.parityError s).rd c = s.rd c :=
  (Goes.parityError (Foot.le_refl _) (Goes.refl _ s)).rd_misses hc
@[simp] theorem State.rd_restartCto (hc : fp_restartCto.misses (fieldName c.key) = true) :
    (State.restartCto s).rd c = s.rd c :=
  (Goes.restartCto (Foot.le_refl _) (Goes.refl _ s)).rd_misses hc
@[simp] theorem State.rd_linkLost (hc : fp_linkLost.misses (fieldName c.key) = true) :
    (State.linkLost s).rd c = s.rd c :=
  (Goes.linkLost (Foot.le_refl _) (Goes.refl _ s)).rd_misses hc
@[simp] theorem State.rd_putMsix (i : Nat) (v : Nat) (hc : fp_putMsix.misses (fieldName c.key) = true) :
    (State.putMsix s i v).rd c = s.rd c :=
  (Goes.putMsix (Foot.le_refl _) (Goes.refl _ s)).rd_misses hc
@[simp] theorem State.rd_repeatPme (hc : fp_repeatPme.misses (fieldName c.key) = true) :
    (State.repeatPme s).rd c = s.rd c :=
  (Goes.repeatPme (Foot.le_refl _) (Goes.refl _ s)).rd_misses hc
@[simp] theorem State.rd_putStandard (o : Nat) (v : Nat) (hc : fp_putStandard.misses (fieldName c.key) = true) :
    (State.putStandard s o v).rd c = s.rd c :=
  (Goes.putStandard (Foot.le_refl _) (Goes.refl _ s)).rd_misses hc
@[simp] theorem State.rd_wokeFromOff (hc : fp_wokeFromOff.misses (fieldName c.key) = true) :
    (State.wokeFromOff s).rd c = s.rd c :=
  (Goes.wokeFromOff (Foot.le_refl _) (Goes.refl _ s)).rd_misses hc
@[simp] theorem State.rd_writeSlot (len : Nat) (hc : fp_writeSlot.misses (fieldName c.key) = true) :
    (State.writeSlot s len).rd c = s.rd c :=
  (Goes.writeSlot (Foot.le_refl _) (Goes.refl _ s)).rd_misses hc
@[simp] theorem State.rd_confirmCmd (hc : fp_confirmCmd.misses (fieldName c.key) = true) :
    (State.confirmCmd s).rd c = s.rd c :=
  (Goes.confirmCmd (Foot.le_refl _) (Goes.refl _ s)).rd_misses hc
@[simp] theorem State.rd_advanceArb (hc : fp_advanceArb.misses (fieldName c.key) = true) :
    (State.advanceArb s).rd c = s.rd c :=
  (Goes.advanceArb (Foot.le_refl _) (Goes.refl _ s)).rd_misses hc
@[simp] theorem State.rd_swapFw (hc : fp_swapFw.misses (fieldName c.key) = true) :
    (State.swapFw s).rd c = s.rd c :=
  (Goes.swapFw (Foot.le_refl _) (Goes.refl _ s)).rd_misses hc
@[simp] theorem State.rd_programKey (slot : Nat) (hc : fp_programKey.misses (fieldName c.key) = true) :
    (State.programKey s slot).rd c = s.rd c :=
  (Goes.programKey (Foot.le_refl _) (Goes.refl _ s)).rd_misses hc
@[simp] theorem State.rd_revokeKey (slot : Nat) (hc : fp_revokeKey.misses (fieldName c.key) = true) :
    (State.revokeKey s slot).rd c = s.rd c :=
  (Goes.revokeKey (Foot.le_refl _) (Goes.refl _ s)).rd_misses hc
@[simp] theorem State.rd_txnBegin (hc : fp_txnBegin.misses (fieldName c.key) = true) :
    (State.txnBegin s).rd c = s.rd c :=
  (Goes.txnBegin (Foot.le_refl _) (Goes.refl _ s)).rd_misses hc
@[simp] theorem State.rd_txnCommit (hc : fp_txnCommit.misses (fieldName c.key) = true) :
    (State.txnCommit s).rd c = s.rd c :=
  (Goes.txnCommit (Foot.le_refl _) (Goes.refl _ s)).rd_misses hc
@[simp] theorem State.rd_applyCal (h : Nat) (hc : fp_applyCal.misses (fieldName c.key) = true) :
    (State.applyCal s h).rd c = s.rd c :=
  (Goes.applyCal (Foot.le_refl _) (Goes.refl _ s)).rd_misses hc
@[simp] theorem State.rd_stageBct (hi : Nat) (hc : fp_stageBct.misses (fieldName c.key) = true) :
    (State.stageBct s hi).rd c = s.rd c :=
  (Goes.stageBct (Foot.le_refl _) (Goes.refl _ s)).rd_misses hc
@[simp] theorem State.rd_downPort (p : Nat) (hc : fp_downPort.misses (fieldName c.key) = true) :
    (State.downPort s p).rd c = s.rd c :=
  (Goes.downPort (Foot.le_refl _) (Goes.refl _ s)).rd_misses hc
@[simp] theorem State.rd_engineOff (k : Nat) (hc : fp_engineOff.misses (fieldName c.key) = true) :
    (State.engineOff s k).rd c = s.rd c :=
  (Goes.engineOff (Foot.le_refl _) (Goes.refl _ s)).rd_misses hc
@[simp] theorem State.rd_rested (us : Nat) (hc : fp_rested.misses (fieldName c.key) = true) :
    (State.rested s us).rd c = s.rd c :=
  (Goes.rested (Foot.le_refl _) (Goes.refl _ s)).rd_misses hc
@[simp] theorem State.rd_sbBegin (hc : fp_sbBegin.misses (fieldName c.key) = true) :
    (State.sbBegin s).rd c = s.rd c :=
  (Goes.sbBegin (Foot.le_refl _) (Goes.refl _ s)).rd_misses hc
@[simp] theorem State.rd_poll (hc : fp_poll.misses (fieldName c.key) = true) :
    (State.poll s).rd c = s.rd c :=
  (Goes.poll (Foot.le_refl _) (Goes.refl _ s)).rd_misses hc
@[simp] theorem State.rd_restoreTime (cycles : Nat) (hc : fp_restoreTime.misses (fieldName c.key) = true) :
    (State.restoreTime s cycles).rd c = s.rd c :=
  (Goes.restoreTime (Foot.le_refl _) (Goes.refl _ s)).rd_misses hc
@[simp] theorem State.rd_enterRun (us : Nat) (hc : fp_enterRun.misses (fieldName c.key) = true) :
    (State.enterRun s us).rd c = s.rd c :=
  (Goes.enterRun (Foot.le_refl _) (Goes.refl _ s)).rd_misses hc
@[simp] theorem State.rd_restoreEarlier (cycles : Nat) (hc : fp_restoreEarlier.misses (fieldName c.key) = true) :
    (State.restoreEarlier s cycles).rd c = s.rd c :=
  (Goes.restoreEarlier (Foot.le_refl _) (Goes.refl _ s)).rd_misses hc
@[simp] theorem State.rd_duePerst (hc : fp_duePerst.misses (fieldName c.key) = true) :
    (State.duePerst s).rd c = s.rd c :=
  (Goes.duePerst (Foot.le_refl _) (Goes.refl _ s)).rd_misses hc
@[simp] theorem State.rd_cutJob (k : Nat) (hc : fp_cutJob.misses (fieldName c.key) = true) :
    (State.cutJob s k).rd c = s.rd c :=
  (Goes.cutJob (Foot.le_refl _) (Goes.refl _ s)).rd_misses hc
@[simp] theorem State.rd_ringBase (k : Nat) (i : Nat) (hi : Nat) (v : Nat) (hc : fp_ringBase.misses (fieldName c.key) = true) :
    (State.ringBase s k i hi v).rd c = s.rd c :=
  (Goes.ringBase (Foot.le_refl _) (Goes.refl _ s)).rd_misses hc
@[simp] theorem State.rd_ringCtrl (k : Nat) (i : Nat) (v : Nat) (hc : fp_ringCtrl.misses (fieldName c.key) = true) :
    (State.ringCtrl s k i v).rd c = s.rd c :=
  (Goes.ringCtrl (Foot.le_refl _) (Goes.refl _ s)).rd_misses hc
@[simp] theorem State.rd_ringDoorbell (k : Nat) (i : Nat) (v : Nat) (hc : fp_ringDoorbell.misses (fieldName c.key) = true) :
    (State.ringDoorbell s k i v).rd c = s.rd c :=
  (Goes.ringDoorbell (Foot.le_refl _) (Goes.refl _ s)).rd_misses hc
@[simp] theorem State.rd_sliceAction (k : Nat) (v : Nat) (hc : fp_sliceAction.misses (fieldName c.key) = true) :
    (State.sliceAction s k v).rd c = s.rd c :=
  (Goes.sliceAction (Foot.le_refl _) (Goes.refl _ s)).rd_misses hc
@[simp] theorem State.rd_txnAction (v : Nat) (hc : fp_txnAction.misses (fieldName c.key) = true) :
    (State.txnAction s v).rd c = s.rd c :=
  (Goes.txnAction (Foot.le_refl _) (Goes.refl _ s)).rd_misses hc
@[simp] theorem State.rd_imgAction (v : Nat) (hc : fp_imgAction.misses (fieldName c.key) = true) :
    (State.imgAction s v).rd c = s.rd c :=
  (Goes.imgAction (Foot.le_refl _) (Goes.refl _ s)).rd_misses hc
@[simp] theorem State.rd_calAction (v : Nat) (hc : fp_calAction.misses (fieldName c.key) = true) :
    (State.calAction s v).rd c = s.rd c :=
  (Goes.calAction (Foot.le_refl _) (Goes.refl _ s)).rd_misses hc
@[simp] theorem State.rd_stageRwt (x : Nat) (v : Nat) (hc : fp_stageRwt.misses (fieldName c.key) = true) :
    (State.stageRwt s x v).rd c = s.rd c :=
  (Goes.stageRwt (Foot.le_refl _) (Goes.refl _ s)).rd_misses hc
@[simp] theorem State.rd_refuse (header : Nat) (hc : fp_refuse.misses (fieldName c.key) = true) :
    (State.refuse s header).rd c = s.rd c :=
  (Goes.refuse (Foot.le_refl _) (Goes.refl _ s)).rd_misses hc
@[simp] theorem State.rd_readConfig (o : Nat) (hc : fp_readConfig.misses (fieldName c.key) = true) :
    (State.readConfig s o).rd c = s.rd c :=
  (Goes.readConfig (Foot.le_refl _) (Goes.refl _ s)).rd_misses hc
@[simp] theorem State.rd_sbAnswer (written : List Nat) (block : List Nat) (hc : fp_sbAnswer.misses (fieldName c.key) = true) :
    (State.sbAnswer s written block).rd c = s.rd c :=
  (Goes.sbAnswer (Foot.le_refl _) (Goes.refl _ s)).rd_misses hc
@[simp] theorem State.rd_sbEnd (status : Nat) (hc : fp_sbEnd.misses (fieldName c.key) = true) :
    (State.sbEnd s status).rd c = s.rd c :=
  (Goes.sbEnd (Foot.le_refl _) (Goes.refl _ s)).rd_misses hc
@[simp] theorem State.rd_sbOver (hc : fp_sbOver.misses (fieldName c.key) = true) :
    (State.sbOver s).rd c = s.rd c :=
  (Goes.sbOver (Foot.le_refl _) (Goes.refl _ s)).rd_misses hc
end

end Sys2Proof.Machine
end

