-- ==== Sys2Proof/Laws/Widths.lean ====
section
/-! SUPPORT. The width of every field of the registers. -/

set_option Elab.async false

namespace Sys2Proof.Machine
@[simp] theorem GLB_REVISION.DEVICE_width : (GLB_REVISION.DEVICE).width = 16 := rfl
@[simp] theorem GLB_REVISION.STEP_MAJOR_width : (GLB_REVISION.STEP_MAJOR).width = 4 := rfl
@[simp] theorem GLB_REVISION.STEP_MINOR_width : (GLB_REVISION.STEP_MINOR).width = 4 := rfl
@[simp] theorem GLB_REVISION.FAMILY_width : (GLB_REVISION.FAMILY).width = 4 := rfl
@[simp] theorem PRT_MODE.ENABLE_width (p : Nat) : (PRT_MODE.ENABLE p).width = 1 := rfl
@[simp] theorem PRT_MODE.MODE_width (p : Nat) : (PRT_MODE.MODE p).width = 2 := rfl
@[simp] theorem PRT_MODE.TILE_width (p : Nat) : (PRT_MODE.TILE p).width = 3 := rfl
@[simp] theorem PRT_MODE.A_SEGMENT_width (p : Nat) : (PRT_MODE.A_SEGMENT p).width = 1 := rfl
@[simp] theorem PRT_MODE.B_SEGMENT_width (p : Nat) : (PRT_MODE.B_SEGMENT p).width = 1 := rfl
@[simp] theorem PRT_MODE.A_SPARES_width (p : Nat) : (PRT_MODE.A_SPARES p).width = 2 := rfl
@[simp] theorem PRT_MODE.A_WIDTH_width (p : Nat) : (PRT_MODE.A_WIDTH p).width = 5 := rfl
@[simp] theorem PRT_MODE.B_SPARES_width (p : Nat) : (PRT_MODE.B_SPARES p).width = 2 := rfl
@[simp] theorem PRT_MODE.B_WIDTH_width (p : Nat) : (PRT_MODE.B_WIDTH p).width = 5 := rfl
@[simp] theorem LCH_ASSIGN.A_VALID_width (n : Nat) : (LCH_ASSIGN.A_VALID n).width = 1 := rfl
@[simp] theorem LCH_ASSIGN.A_PORT_width (n : Nat) : (LCH_ASSIGN.A_PORT n).width = 6 := rfl
@[simp] theorem LCH_ASSIGN.A_LOGICAL_width (n : Nat) : (LCH_ASSIGN.A_LOGICAL n).width = 5 := rfl
@[simp] theorem LCH_ASSIGN.B_VALID_width (n : Nat) : (LCH_ASSIGN.B_VALID n).width = 1 := rfl
@[simp] theorem LCH_ASSIGN.B_PORT_width (n : Nat) : (LCH_ASSIGN.B_PORT n).width = 6 := rfl
@[simp] theorem LCH_ASSIGN.B_LOGICAL_width (n : Nat) : (LCH_ASSIGN.B_LOGICAL n).width = 5 := rfl
@[simp] theorem LCH_EQ_CTRL.FOM_MIN_CLR_width (h : Nat) : (LCH_EQ_CTRL.FOM_MIN_CLR h).width = 1 := rfl
@[simp] theorem LCH_EQ_CTRL.CTLE_TRIM_OFF_width (h : Nat) : (LCH_EQ_CTRL.CTLE_TRIM_OFF h).width = 1 := rfl
@[simp] theorem LCH_EQ_CTRL.FREEZE_width (h : Nat) : (LCH_EQ_CTRL.FREEZE h).width = 1 := rfl
@[simp] theorem LCH_FOM.SIGDET_width (h : Nat) : (LCH_FOM.SIGDET h).width = 1 := rfl
@[simp] theorem LCH_FOM.LOCK_width (h : Nat) : (LCH_FOM.LOCK h).width = 1 := rfl
@[simp] theorem LCH_FOM.FOM_VALID_width (h : Nat) : (LCH_FOM.FOM_VALID h).width = 1 := rfl
@[simp] theorem LCH_FOM.BELOW_TARGET_width (h : Nat) : (LCH_FOM.BELOW_TARGET h).width = 1 := rfl
@[simp] theorem LCH_FOM.WARN_width (h : Nat) : (LCH_FOM.WARN h).width = 1 := rfl
@[simp] theorem LCH_FOM.FAULT_SEEN_width (h : Nat) : (LCH_FOM.FAULT_SEEN h).width = 1 := rfl
@[simp] theorem LCH_FOM.ADAPT_STATE_width (h : Nat) : (LCH_FOM.ADAPT_STATE h).width = 4 := rfl
@[simp] theorem LCH_FOM.RATE_SLOT_width (h : Nat) : (LCH_FOM.RATE_SLOT h).width = 4 := rfl
@[simp] theorem LCH_FOM.FOM_MIN_width (h : Nat) : (LCH_FOM.FOM_MIN h).width = 8 := rfl
@[simp] theorem LCH_FOM.FOM_width (h : Nat) : (LCH_FOM.FOM h).width = 8 := rfl
@[simp] theorem LCH_RX_EQ.TABLE_DEFAULT_width (h : Nat) : (LCH_RX_EQ.TABLE_DEFAULT h).width = 1 := rfl
@[simp] theorem LCH_RX_EQ.WARM_width (h : Nat) : (LCH_RX_EQ.WARM h).width = 1 := rfl
@[simp] theorem LCH_RX_EQ.CTLE_width (h : Nat) : (LCH_RX_EQ.CTLE h).width = 5 := rfl
@[simp] theorem LCH_RX_EQ.VGA_width (h : Nat) : (LCH_RX_EQ.VGA h).width = 6 := rfl
@[simp] theorem LCH_RX_EQ.DFE_H1_width (h : Nat) : (LCH_RX_EQ.DFE_H1 h).width = 6 := rfl
@[simp] theorem LCH_RX_EQ.FFE_MAIN_width (h : Nat) : (LCH_RX_EQ.FFE_MAIN h).width = 8 := rfl
@[simp] theorem LCH_TX_COEF.SRC_width (h : Nat) : (LCH_TX_COEF.SRC h).width = 2 := rfl
@[simp] theorem LCH_TX_COEF.C0_width (h : Nat) : (LCH_TX_COEF.C0 h).width = 6 := rfl
@[simp] theorem LCH_TX_COEF.CM2_width (h : Nat) : (LCH_TX_COEF.CM2 h).width = 6 := rfl
@[simp] theorem LCH_TX_COEF.CM1_width (h : Nat) : (LCH_TX_COEF.CM1 h).width = 6 := rfl
@[simp] theorem LCH_TX_COEF.CP1_width (h : Nat) : (LCH_TX_COEF.CP1 h).width = 6 := rfl
@[simp] theorem LCH_TX_COEF.CP2_width (h : Nat) : (LCH_TX_COEF.CP2 h).width = 6 := rfl
@[simp] theorem PRT_DP_CTRL.CLOCKING_width (p : Nat) : (PRT_DP_CTRL.CLOCKING p).width = 2 := rfl
@[simp] theorem PRT_DP_CTRL.A_SLOT_width (p : Nat) : (PRT_DP_CTRL.A_SLOT p).width = 4 := rfl
@[simp] theorem PRT_DP_CTRL.B_SLOT_width (p : Nat) : (PRT_DP_CTRL.B_SLOT p).width = 4 := rfl
@[simp] theorem PRT_DP_STATUS.FLIT_width (p : Nat) : (PRT_DP_STATUS.FLIT p).width = 1 := rfl
@[simp] theorem PRT_DP_STATUS.A_REVERSED_width (p : Nat) : (PRT_DP_STATUS.A_REVERSED p).width = 1 := rfl
@[simp] theorem PRT_DP_STATUS.B_REVERSED_width (p : Nat) : (PRT_DP_STATUS.B_REVERSED p).width = 1 := rfl
@[simp] theorem PRT_DP_STATUS.DESKEW_FAIL_width (p : Nat) : (PRT_DP_STATUS.DESKEW_FAIL p).width = 1 := rfl
@[simp] theorem PRT_DP_STATUS.EB_SLIP_width (p : Nat) : (PRT_DP_STATUS.EB_SLIP p).width = 1 := rfl
@[simp] theorem PRT_DP_STATUS.EB_SLIP_CNT_width (p : Nat) : (PRT_DP_STATUS.EB_SLIP_CNT p).width = 8 := rfl
@[simp] theorem PRT_DP_STATUS.A_SLOT_NOW_width (p : Nat) : (PRT_DP_STATUS.A_SLOT_NOW p).width = 4 := rfl
@[simp] theorem PRT_DP_STATUS.B_SLOT_NOW_width (p : Nat) : (PRT_DP_STATUS.B_SLOT_NOW p).width = 4 := rfl
@[simp] theorem PRT_DP_STATUS.A_ALIGN_width (p : Nat) : (PRT_DP_STATUS.A_ALIGN p).width = 4 := rfl
@[simp] theorem PRT_DP_STATUS.B_ALIGN_width (p : Nat) : (PRT_DP_STATUS.B_ALIGN p).width = 4 := rfl
@[simp] theorem LCH_DP_STATUS.POL_INV_width (h : Nat) : (LCH_DP_STATUS.POL_INV h).width = 1 := rfl
@[simp] theorem LCH_DP_STATUS.ALIGN_STATE_width (h : Nat) : (LCH_DP_STATUS.ALIGN_STATE h).width = 4 := rfl
@[simp] theorem LCH_DP_STATUS.LINK_LANE_width (h : Nat) : (LCH_DP_STATUS.LINK_LANE h).width = 5 := rfl
@[simp] theorem LCH_DP_STATUS.SKEW_width (h : Nat) : (LCH_DP_STATUS.SKEW h).width = 8 := rfl
@[simp] theorem LCH_DP_STATUS.EB_FILL_width (h : Nat) : (LCH_DP_STATUS.EB_FILL h).width = 8 := rfl
@[simp] theorem PRT_SKP_ADJ.ADD_width (q : Nat) : (PRT_SKP_ADJ.ADD q).width = 16 := rfl
@[simp] theorem PRT_SKP_ADJ.DEL_width (q : Nat) : (PRT_SKP_ADJ.DEL q).width = 16 := rfl
@[simp] theorem PRT_TRN_CTRL.RETRAIN_width (p : Nat) : (PRT_TRN_CTRL.RETRAIN p).width = 1 := rfl
@[simp] theorem PRT_TRN_CTRL.UPSTREAM_width (p : Nat) : (PRT_TRN_CTRL.UPSTREAM p).width = 2 := rfl
@[simp] theorem PRT_TRN_CTRL.NONFLIT_LIMIT_width (p : Nat) : (PRT_TRN_CTRL.NONFLIT_LIMIT p).width = 4 := rfl
@[simp] theorem PRT_TRN_CTRL.EQ_CANDIDATES_width (p : Nat) : (PRT_TRN_CTRL.EQ_CANDIDATES p).width = 4 := rfl
@[simp] theorem PRT_TRN_STATUS.STATE_width (p : Nat) : (PRT_TRN_STATUS.STATE p).width = 4 := rfl
@[simp] theorem PRT_TRN_STATUS.EQ_PHASE_width (p : Nat) : (PRT_TRN_STATUS.EQ_PHASE p).width = 4 := rfl
@[simp] theorem PRT_TRN_STATUS.EQ_SLOT_width (p : Nat) : (PRT_TRN_STATUS.EQ_SLOT p).width = 4 := rfl
@[simp] theorem PRT_TRN_STATUS.UP_SIDE_width (p : Nat) : (PRT_TRN_STATUS.UP_SIDE p).width = 2 := rfl
@[simp] theorem PRT_TRN_STATUS.RETIMER_POS_width (p : Nat) : (PRT_TRN_STATUS.RETIMER_POS p).width = 2 := rfl
@[simp] theorem PRT_TRN_STATUS.CXL_width (p : Nat) : (PRT_TRN_STATUS.CXL p).width = 1 := rfl
@[simp] theorem PRT_TRN_STATUS.L0P_width (p : Nat) : (PRT_TRN_STATUS.L0P p).width = 1 := rfl
@[simp] theorem PRT_TRN_STATUS.LP_KIND_width (p : Nat) : (PRT_TRN_STATUS.LP_KIND p).width = 3 := rfl
@[simp] theorem PRT_TRN_STATUS.NEG_WIDTH_width (p : Nat) : (PRT_TRN_STATUS.NEG_WIDTH p).width = 3 := rfl
@[simp] theorem PRT_TRN_STATUS.NONFLIT_COUNT_width (p : Nat) : (PRT_TRN_STATUS.NONFLIT_COUNT p).width = 4 := rfl
@[simp] theorem PRT_TRN_EVENTS.PARTNER_LOST_A_width (p : Nat) : (PRT_TRN_EVENTS.PARTNER_LOST_A p).width = 1 := rfl
@[simp] theorem PRT_TRN_EVENTS.PARTNER_LOST_B_width (p : Nat) : (PRT_TRN_EVENTS.PARTNER_LOST_B p).width = 1 := rfl
@[simp] theorem PRT_TRN_EVENTS.TRN_TIMEOUT_width (p : Nat) : (PRT_TRN_EVENTS.TRN_TIMEOUT p).width = 1 := rfl
@[simp] theorem PRT_TRN_EVENTS.NONFLIT_REFUSED_width (p : Nat) : (PRT_TRN_EVENTS.NONFLIT_REFUSED p).width = 1 := rfl
@[simp] theorem PRT_TRN_EVENTS.LOOPBACK_REFUSED_width (p : Nat) : (PRT_TRN_EVENTS.LOOPBACK_REFUSED p).width = 1 := rfl
@[simp] theorem PRT_TRN_EVENTS.EQ_REQ_REJECTED_width (p : Nat) : (PRT_TRN_EVENTS.EQ_REQ_REJECTED p).width = 1 := rfl
@[simp] theorem PRT_TRN_EVENTS.EQ_BELOW_TARGET_width (p : Nat) : (PRT_TRN_EVENTS.EQ_BELOW_TARGET p).width = 1 := rfl
@[simp] theorem PRT_TRN_EVENTS.DETECT_CNT_width (p : Nat) : (PRT_TRN_EVENTS.DETECT_CNT p).width = 8 := rfl
@[simp] theorem PRT_TRN_EVENTS.RECOVERY_CNT_width (p : Nat) : (PRT_TRN_EVENTS.RECOVERY_CNT p).width = 8 := rfl
@[simp] theorem PRT_TRN_EVENTS.RATE_CHG_CNT_width (p : Nat) : (PRT_TRN_EVENTS.RATE_CHG_CNT p).width = 8 := rfl
@[simp] theorem PRT_SEG_CTRL.RETRAIN_width (q : Nat) : (PRT_SEG_CTRL.RETRAIN q).width = 1 := rfl
@[simp] theorem PRT_SEG_CTRL.LEGACY_width (q : Nat) : (PRT_SEG_CTRL.LEGACY q).width = 1 := rfl
@[simp] theorem PRT_SEG_CTRL.RTT_MAX_width (q : Nat) : (PRT_SEG_CTRL.RTT_MAX q).width = 5 := rfl
@[simp] theorem PRT_SEG_CTRL.SLOTS_width (q : Nat) : (PRT_SEG_CTRL.SLOTS q).width = 14 := rfl
@[simp] theorem PRT_SEG_STATUS.STATE_width (q : Nat) : (PRT_SEG_STATUS.STATE q).width = 4 := rfl
@[simp] theorem PRT_SEG_STATUS.LAST_FAIL_width (q : Nat) : (PRT_SEG_STATUS.LAST_FAIL q).width = 4 := rfl
@[simp] theorem PRT_SEG_STATUS.ATTEMPTS_width (q : Nat) : (PRT_SEG_STATUS.ATTEMPTS q).width = 4 := rfl
@[simp] theorem PRT_SEG_STATUS.RTT_width (q : Nat) : (PRT_SEG_STATUS.RTT q).width = 8 := rfl
@[simp] theorem PRT_SEG_STATUS.PARTNER_width (q : Nat) : (PRT_SEG_STATUS.PARTNER q).width = 2 := rfl
@[simp] theorem PRT_SEG_STATUS.HOPS_width (q : Nat) : (PRT_SEG_STATUS.HOPS q).width = 3 := rfl
@[simp] theorem PRT_SEG_STATUS.CHAIN_TOO_LONG_width (q : Nat) : (PRT_SEG_STATUS.CHAIN_TOO_LONG q).width = 1 := rfl
@[simp] theorem PRT_SEG_STATUS.PARTNER_LOST_width (q : Nat) : (PRT_SEG_STATUS.PARTNER_LOST q).width = 1 := rfl
@[simp] theorem PRT_SEG_STATUS.RTT_OVER_width (q : Nat) : (PRT_SEG_STATUS.RTT_OVER q).width = 1 := rfl
@[simp] theorem PRT_SEG_STATUS.REPLAY_FULL_width (q : Nat) : (PRT_SEG_STATUS.REPLAY_FULL q).width = 1 := rfl
@[simp] theorem PRT_SEG_STATUS.FLIT_DROP_width (q : Nat) : (PRT_SEG_STATUS.FLIT_DROP q).width = 1 := rfl
@[simp] theorem PRT_SEG_STATUS.STUFF_HIGH_width (q : Nat) : (PRT_SEG_STATUS.STUFF_HIGH q).width = 1 := rfl
@[simp] theorem PRT_SEG_STATUS.RETRY_EXHAUSTED_width (q : Nat) : (PRT_SEG_STATUS.RETRY_EXHAUSTED q).width = 1 := rfl
@[simp] theorem PRT_SEG_CNT.NAK_SENT_width (q : Nat) : (PRT_SEG_CNT.NAK_SENT q).width = 16 := rfl
@[simp] theorem PRT_SEG_CNT.REPLAYS_width (q : Nat) : (PRT_SEG_CNT.REPLAYS q).width = 16 := rfl
@[simp] theorem LCH_SEG_FEC.CORR_SYM_width (h : Nat) : (LCH_SEG_FEC.CORR_SYM h).width = 16 := rfl
@[simp] theorem LCH_SEG_FEC.UNCORR_width (h : Nat) : (LCH_SEG_FEC.UNCORR h).width = 8 := rfl
@[simp] theorem LCH_SEG_FEC.SEG_POL_INV_width (h : Nat) : (LCH_SEG_FEC.SEG_POL_INV h).width = 1 := rfl
@[simp] theorem LCH_SEG_FEC.FRAME_LOCK_width (h : Nat) : (LCH_SEG_FEC.FRAME_LOCK h).width = 1 := rfl
@[simp] theorem LCH_SEG_FEC.HEARD_width (h : Nat) : (LCH_SEG_FEC.HEARD h).width = 5 := rfl
@[simp] theorem PRT_TRL_CTRL.TRELLIS_OFF_width (q : Nat) : (PRT_TRL_CTRL.TRELLIS_OFF q).width = 1 := rfl
@[simp] theorem PRT_TRL_CTRL.POLICY_width (q : Nat) : (PRT_TRL_CTRL.POLICY q).width = 1 := rfl
@[simp] theorem PRT_TRL_CTRL.MIN_WIDTH_width (q : Nat) : (PRT_TRL_CTRL.MIN_WIDTH q).width = 5 := rfl
@[simp] theorem PRT_TRL_CTRL.COMMIT_HOLD_width (q : Nat) : (PRT_TRL_CTRL.COMMIT_HOLD q).width = 4 := rfl
@[simp] theorem PRT_TRL_CTRL.UNCORR_LIMIT_width (q : Nat) : (PRT_TRL_CTRL.UNCORR_LIMIT q).width = 8 := rfl
@[simp] theorem PRT_TRL_CTRL.CORR_LIMIT_width (q : Nat) : (PRT_TRL_CTRL.CORR_LIMIT q).width = 8 := rfl
@[simp] theorem PRT_TRL_STATUS.STEER_STATE_width (q : Nat) : (PRT_TRL_STATUS.STEER_STATE q).width = 4 := rfl
@[simp] theorem PRT_TRL_STATUS.XMIT_STATE_width (q : Nat) : (PRT_TRL_STATUS.XMIT_STATE q).width = 4 := rfl
@[simp] theorem PRT_TRL_STATUS.RX_EPOCH_width (q : Nat) : (PRT_TRL_STATUS.RX_EPOCH q).width = 8 := rfl
@[simp] theorem PRT_TRL_STATUS.TX_EPOCH_width (q : Nat) : (PRT_TRL_STATUS.TX_EPOCH q).width = 8 := rfl
@[simp] theorem PRT_TRL_STATUS.READY_SPARES_width (q : Nat) : (PRT_TRL_STATUS.READY_SPARES q).width = 2 := rfl
@[simp] theorem PRT_TRL_STATUS.DEGRADED_width (q : Nat) : (PRT_TRL_STATUS.DEGRADED q).width = 1 := rfl
@[simp] theorem PRT_TRL_STATUS.NO_SPARE_width (q : Nat) : (PRT_TRL_STATUS.NO_SPARE q).width = 1 := rfl
@[simp] theorem PRT_TRL_STATUS.PORT_FAULT_width (q : Nat) : (PRT_TRL_STATUS.PORT_FAULT q).width = 1 := rfl
@[simp] theorem PRT_TRL_STATUS.REMAPPED_width (q : Nat) : (PRT_TRL_STATUS.REMAPPED q).width = 1 := rfl
@[simp] theorem PRT_TRL_STATUS.CANCELLED_width (q : Nat) : (PRT_TRL_STATUS.CANCELLED q).width = 1 := rfl
@[simp] theorem PRT_TRL_STATUS.SPARE_LOST_width (q : Nat) : (PRT_TRL_STATUS.SPARE_LOST q).width = 1 := rfl
@[simp] theorem PRT_TRL_CNT.PROPOSE_CNT_width (q : Nat) : (PRT_TRL_CNT.PROPOSE_CNT q).width = 8 := rfl
@[simp] theorem PRT_TRL_CNT.COMMIT_CNT_width (q : Nat) : (PRT_TRL_CNT.COMMIT_CNT q).width = 8 := rfl
@[simp] theorem PRT_TRL_CNT.CANCEL_CNT_width (q : Nat) : (PRT_TRL_CNT.CANCEL_CNT q).width = 8 := rfl
@[simp] theorem PRT_TRL_CNT.REFUSE_CNT_width (q : Nat) : (PRT_TRL_CNT.REFUSE_CNT q).width = 8 := rfl
@[simp] theorem PRT_TRL_CMD.GO_width (q : Nat) : (PRT_TRL_CMD.GO q).width = 1 := rfl
@[simp] theorem PRT_TRL_CMD.KIND_width (q : Nat) : (PRT_TRL_CMD.KIND q).width = 2 := rfl
@[simp] theorem PRT_TRL_CMD.LANE_width (q : Nat) : (PRT_TRL_CMD.LANE q).width = 5 := rfl
@[simp] theorem PRT_TRL_CMD.SPARE_width (q : Nat) : (PRT_TRL_CMD.SPARE q).width = 5 := rfl
@[simp] theorem LCH_LANE_FAULT.STATUS_width (h : Nat) : (LCH_LANE_FAULT.STATUS h).width = 4 := rfl
@[simp] theorem LCH_LANE_FAULT.LAST_REASON_width (h : Nat) : (LCH_LANE_FAULT.LAST_REASON h).width = 4 := rfl
@[simp] theorem LCH_LANE_FAULT.TX_LOGICAL_width (h : Nat) : (LCH_LANE_FAULT.TX_LOGICAL h).width = 5 := rfl
@[simp] theorem LCH_LANE_FAULT.RX_LOGICAL_width (h : Nat) : (LCH_LANE_FAULT.RX_LOGICAL h).width = 5 := rfl
@[simp] theorem LCH_LANE_FAULT.FAULT_NEW_width (h : Nat) : (LCH_LANE_FAULT.FAULT_NEW h).width = 1 := rfl
@[simp] theorem LCH_LANE_FAULT.FAULT_CNT_width (h : Nat) : (LCH_LANE_FAULT.FAULT_CNT h).width = 8 := rfl
@[simp] theorem CAL_POLICY.AUTO_RUN_width : (CAL_POLICY.AUTO_RUN).width = 1 := rfl
@[simp] theorem CAL_POLICY.AUTO_STORE_width : (CAL_POLICY.AUTO_STORE).width = 1 := rfl
@[simp] theorem CAL_POLICY.RUN_INTERVAL_width : (CAL_POLICY.RUN_INTERVAL).width = 8 := rfl
@[simp] theorem CAL_POLICY.TEMP_STEP_width : (CAL_POLICY.TEMP_STEP).width = 4 := rfl
@[simp] theorem CAL_POLICY.STORE_INTERVAL_width : (CAL_POLICY.STORE_INTERVAL).width = 8 := rfl
@[simp] theorem CAL_CMD.GO_width : (CAL_CMD.GO).width = 1 := rfl
@[simp] theorem CAL_CMD.ACTION_width : (CAL_CMD.ACTION).width = 3 := rfl
@[simp] theorem CAL_CMD.SCOPE_width : (CAL_CMD.SCOPE).width = 2 := rfl
@[simp] theorem CAL_CMD.HALF_width : (CAL_CMD.HALF).width = 1 := rfl
@[simp] theorem CAL_CMD.INDEX_width : (CAL_CMD.INDEX).width = 8 := rfl
@[simp] theorem CAL_STATUS.STORE_BUSY_width : (CAL_STATUS.STORE_BUSY).width = 1 := rfl
@[simp] theorem CAL_STATUS.STORE_RESULT_width : (CAL_STATUS.STORE_RESULT).width = 3 := rfl
@[simp] theorem CAL_STATUS.BOOT_COPY_width : (CAL_STATUS.BOOT_COPY).width = 2 := rfl
@[simp] theorem CAL_STATUS.DIRTY_width : (CAL_STATUS.DIRTY).width = 1 := rfl
@[simp] theorem CAL_STATUS.RUNS_ACTIVE_width : (CAL_STATUS.RUNS_ACTIVE).width = 10 := rfl
@[simp] theorem CAL_GEN.GENERATION_width : (CAL_GEN.GENERATION).width = 32 := rfl
@[simp] theorem CAL_TEMP.VALID_width (t : Nat) : (CAL_TEMP.VALID t).width = 1 := rfl
@[simp] theorem CAL_TEMP.TEMP_width (t : Nat) : (CAL_TEMP.TEMP t).width = 10 := rfl
@[simp] theorem CAL_RX.HOLD_width (h : Nat) : (CAL_RX.HOLD h).width = 1 := rfl
@[simp] theorem CAL_RX.LAST_RESULT_width (h : Nat) : (CAL_RX.LAST_RESULT h).width = 4 := rfl
@[simp] theorem CAL_RX.NQ_REASON_width (h : Nat) : (CAL_RX.NQ_REASON h).width = 8 := rfl
@[simp] theorem CAL_RX.APPLIED_TEMP_width (h : Nat) : (CAL_RX.APPLIED_TEMP h).width = 8 := rfl
@[simp] theorem CAL_RX.VALID_POINTS_width (h : Nat) : (CAL_RX.VALID_POINTS h).width = 4 := rfl
@[simp] theorem CAL_RX.RUN_CNT_width (h : Nat) : (CAL_RX.RUN_CNT h).width = 4 := rfl
@[simp] theorem ENG_CTRL.SLICE_JOBS_OFF_width : (ENG_CTRL.SLICE_JOBS_OFF).width = 1 := rfl
@[simp] theorem ENG_CTRL.FAULT_LIMIT_width : (ENG_CTRL.FAULT_LIMIT).width = 4 := rfl
@[simp] theorem ENG_CTRL.WAIT_LIMIT_width : (ENG_CTRL.WAIT_LIMIT).width = 8 := rfl
@[simp] theorem ENG_STATUS.STATE_width (k : Nat) : (ENG_STATUS.STATE k).width = 4 := rfl
@[simp] theorem ENG_STATUS.FAULTS_width (k : Nat) : (ENG_STATUS.FAULTS k).width = 4 := rfl
@[simp] theorem ENG_STATUS.LOAD_width (k : Nat) : (ENG_STATUS.LOAD k).width = 8 := rfl
@[simp] theorem ENG_STATUS.JOB_BUSY_width (k : Nat) : (ENG_STATUS.JOB_BUSY k).width = 1 := rfl
@[simp] theorem ENG_STATUS.JOB_STATE_width (k : Nat) : (ENG_STATUS.JOB_STATE k).width = 3 := rfl
@[simp] theorem ENG_STATUS.JOB_RX_width (k : Nat) : (ENG_STATUS.JOB_RX k).width = 2 := rfl
@[simp] theorem ENG_STATUS.JOB_KIND_width (k : Nat) : (ENG_STATUS.JOB_KIND k).width = 2 := rfl
@[simp] theorem ENG_STATUS.JOB_SLICE_width (k : Nat) : (ENG_STATUS.JOB_SLICE k).width = 8 := rfl
@[simp] theorem ENG_PERMIT.DATA_ON_DATA_width (s : Nat) : (ENG_PERMIT.DATA_ON_DATA s).width = 1 := rfl
@[simp] theorem ENG_PERMIT.MARGIN_DATA_width (s : Nat) : (ENG_PERMIT.MARGIN_DATA s).width = 1 := rfl
@[simp] theorem ENG_PERMIT.MARGIN_SAMPLER_width (s : Nat) : (ENG_PERMIT.MARGIN_SAMPLER s).width = 1 := rfl
@[simp] theorem ENG_PERMIT.EYE_SCAN_width (s : Nat) : (ENG_PERMIT.EYE_SCAN s).width = 1 := rfl
@[simp] theorem ENG_CNT.STEPS_width (k : Nat) : (ENG_CNT.STEPS k).width = 16 := rfl
@[simp] theorem ENG_CNT.DISPLACED_width (k : Nat) : (ENG_CNT.DISPLACED k).width = 8 := rfl
@[simp] theorem ENG_CNT.EXPIRED_width (k : Nat) : (ENG_CNT.EXPIRED k).width = 8 := rfl
@[simp] theorem IMG_STATUS.BOOT_SLOT_width : (IMG_STATUS.BOOT_SLOT).width = 2 := rfl
@[simp] theorem IMG_STATUS.ENG_FW_SLOT_width : (IMG_STATUS.ENG_FW_SLOT).width = 2 := rfl
@[simp] theorem IMG_STATUS.RECOVERY_width : (IMG_STATUS.RECOVERY).width = 1 := rfl
@[simp] theorem IMG_STATUS.CONFIRMED_width : (IMG_STATUS.CONFIRMED).width = 1 := rfl
@[simp] theorem IMG_STATUS.STRUCT_REFUSED_width : (IMG_STATUS.STRUCT_REFUSED).width = 1 := rfl
@[simp] theorem IMG_STATUS.STRUCT_REASON_width : (IMG_STATUS.STRUCT_REASON).width = 5 := rfl
@[simp] theorem IMG_STATUS.ARB_FUSE_width : (IMG_STATUS.ARB_FUSE).width = 5 := rfl
@[simp] theorem IMG_STATUS.ARB_IMAGE_width : (IMG_STATUS.ARB_IMAGE).width = 5 := rfl
@[simp] theorem IMG_STATUS.CMD_RESULT_width : (IMG_STATUS.CMD_RESULT).width = 3 := rfl
@[simp] theorem IMG_STATUS.CMD_BUSY_width : (IMG_STATUS.CMD_BUSY).width = 1 := rfl
@[simp] theorem IMG_CMD.GO_width : (IMG_CMD.GO).width = 1 := rfl
@[simp] theorem IMG_CMD.ACTION_width : (IMG_CMD.ACTION).width = 3 := rfl
@[simp] theorem IMG_CMD.KEY_width : (IMG_CMD.KEY).width = 2 := rfl
@[simp] theorem IMG_CMD.LEN_width : (IMG_CMD.LEN).width = 12 := rfl
@[simp] theorem TXN_SCOPE_G.TRACE_width : (TXN_SCOPE_G.TRACE).width = 1 := rfl
@[simp] theorem TXN_SCOPE_G.DOMAIN_width : (TXN_SCOPE_G.DOMAIN).width = 1 := rfl
@[simp] theorem TXN_SCOPE_G.POWER_POLICY_width : (TXN_SCOPE_G.POWER_POLICY).width = 1 := rfl
@[simp] theorem TXN_SCOPE_G.SLICE_DEFAULTS_width : (TXN_SCOPE_G.SLICE_DEFAULTS).width = 1 := rfl
@[simp] theorem TXN_SCOPE_G.LANE_POLICY_width : (TXN_SCOPE_G.LANE_POLICY).width = 1 := rfl
@[simp] theorem TXN_SCOPE_G.CHANNEL_TABLE_width : (TXN_SCOPE_G.CHANNEL_TABLE).width = 1 := rfl
@[simp] theorem TXN_SCOPE_P.PORTS_width (k : Nat) : (TXN_SCOPE_P.PORTS k).width = 32 := rfl
@[simp] theorem TXN_TIME.TIME_width (k : Nat) : (TXN_TIME.TIME k).width = 32 := rfl
@[simp] theorem TXN_CMD.GO_width : (TXN_CMD.GO).width = 1 := rfl
@[simp] theorem TXN_CMD.ACTION_width : (TXN_CMD.ACTION).width = 2 := rfl
@[simp] theorem TXN_STATUS.STATE_width : (TXN_STATUS.STATE).width = 4 := rfl
@[simp] theorem TXN_STATUS.LAST_RESULT_width : (TXN_STATUS.LAST_RESULT).width = 3 := rfl
@[simp] theorem TXN_STATUS.STRAY_width : (TXN_STATUS.STRAY).width = 1 := rfl
@[simp] theorem TXN_STATUS.ID_width : (TXN_STATUS.ID).width = 8 := rfl
@[simp] theorem TXN_STATUS.FAIL_INDEX_width : (TXN_STATUS.FAIL_INDEX).width = 8 := rfl
@[simp] theorem TXN_STATUS.REASON_width : (TXN_STATUS.REASON).width = 5 := rfl
@[simp] theorem IMG_SRC.ADDR_width (k : Nat) : (IMG_SRC.ADDR k).width = 32 := rfl
@[simp] theorem IMG_KEYS.FW_KEY_width : (IMG_KEYS.FW_KEY).width = 1 := rfl
@[simp] theorem IMG_BCT_INDEX.INDEX_width : (IMG_BCT_INDEX.INDEX).width = 13 := rfl
@[simp] theorem IMG_BCT.ENTRY_width (k : Nat) : (IMG_BCT.ENTRY k).width = 32 := rfl
@[simp] theorem GLB_ALIVE.MARK_width : (GLB_ALIVE.MARK).width = 7 := rfl
@[simp] theorem GLB_ALIVE.MGMT_RESETS_width : (GLB_ALIVE.MGMT_RESETS).width = 8 := rfl
@[simp] theorem GLB_ALIVE.BEAT_width : (GLB_ALIVE.BEAT).width = 16 := rfl
@[simp] theorem GLB_MGMT_CTRL.WAKE_ON_EVENT_width : (GLB_MGMT_CTRL.WAKE_ON_EVENT).width = 1 := rfl
@[simp] theorem GLB_MGMT_CTRL.WAKE_CLASS_width : (GLB_MGMT_CTRL.WAKE_CLASS).width = 2 := rfl
@[simp] theorem GLB_MGMT_STATUS.LINK_UP_width : (GLB_MGMT_STATUS.LINK_UP).width = 1 := rfl
@[simp] theorem GLB_MGMT_STATUS.LINK_RATE_width : (GLB_MGMT_STATUS.LINK_RATE).width = 3 := rfl
@[simp] theorem GLB_MGMT_STATUS.LINK_WIDTH_width : (GLB_MGMT_STATUS.LINK_WIDTH).width = 2 := rfl
@[simp] theorem GLB_MGMT_STATUS.FLIT_width : (GLB_MGMT_STATUS.FLIT).width = 1 := rfl
@[simp] theorem GLB_MGMT_STATUS.DMA_HELD_width : (GLB_MGMT_STATUS.DMA_HELD).width = 1 := rfl
@[simp] theorem GLB_MGMT_STATUS.BAD_ACCESS_width : (GLB_MGMT_STATUS.BAD_ACCESS).width = 1 := rfl
@[simp] theorem GLB_MGMT_STATUS.LATE_CPL_width : (GLB_MGMT_STATUS.LATE_CPL).width = 1 := rfl
@[simp] theorem GLB_MGMT_STATUS.STAGING_FULL_width : (GLB_MGMT_STATUS.STAGING_FULL).width = 1 := rfl
@[simp] theorem GLB_MGMT_STATUS.STAGED_width : (GLB_MGMT_STATUS.STAGED).width = 14 := rfl
@[simp] theorem GLB_MGMT_CNT.LATE_CPL_CNT_width : (GLB_MGMT_CNT.LATE_CPL_CNT).width = 16 := rfl
@[simp] theorem GLB_MGMT_CNT.TIMEOUTS_width : (GLB_MGMT_CNT.TIMEOUTS).width = 8 := rfl
@[simp] theorem GLB_MGMT_CNT.STAGE_DROPS_width : (GLB_MGMT_CNT.STAGE_DROPS).width = 8 := rfl
@[simp] theorem SLC_CTRL.GO_width (s : Nat) : (SLC_CTRL.GO s).width = 1 := rfl
@[simp] theorem SLC_CTRL.ACTION_width (s : Nat) : (SLC_CTRL.ACTION s).width = 3 := rfl
@[simp] theorem SLC_CTRL.PASID_width (s : Nat) : (SLC_CTRL.PASID s).width = 20 := rfl
@[simp] theorem SLC_STATUS.STATE_width (s : Nat) : (SLC_STATUS.STATE s).width = 4 := rfl
@[simp] theorem SLC_STATUS.RESULT_width (s : Nat) : (SLC_STATUS.RESULT s).width = 4 := rfl
@[simp] theorem SLC_STATUS.GENERATION_width (s : Nat) : (SLC_STATUS.GENERATION s).width = 8 := rfl
@[simp] theorem SLC_STATUS.RESET_DONE_width (s : Nat) : (SLC_STATUS.RESET_DONE s).width = 1 := rfl
@[simp] theorem SLC_STATUS.DESTROY_PENDING_width (s : Nat) : (SLC_STATUS.DESTROY_PENDING s).width = 1 := rfl
@[simp] theorem SLC_STATUS.STAGED_width (s : Nat) : (SLC_STATUS.STAGED s).width = 14 := rfl
@[simp] theorem SLC_RINGS.BASE_width (s : Nat) : (SLC_RINGS.BASE s).width = 14 := rfl
@[simp] theorem SLC_RINGS.COUNT_width (s : Nat) : (SLC_RINGS.COUNT s).width = 11 := rfl
@[simp] theorem SLC_VECTORS.BASE_width (s : Nat) : (SLC_VECTORS.BASE s).width = 11 := rfl
@[simp] theorem SLC_VECTORS.COUNT_width (s : Nat) : (SLC_VECTORS.COUNT s).width = 12 := rfl
@[simp] theorem SLC_SHARE.TOKENS_width (s : Nat) : (SLC_SHARE.TOKENS s).width = 10 := rfl
@[simp] theorem SLC_SHARE.GRANULES_width (s : Nat) : (SLC_SHARE.GRANULES s).width = 17 := rfl
@[simp] theorem SLC_PORTS.PORTS_width (s k : Nat) : (SLC_PORTS.PORTS s k).width = 32 := rfl
@[simp] theorem SLC_DEF_S0.RINGS_width : (SLC_DEF_S0.RINGS).width = 7 := rfl
@[simp] theorem SLC_DEF_S0.VECTORS_width : (SLC_DEF_S0.VECTORS).width = 8 := rfl
@[simp] theorem SLC_DEF_S0.TOKENS_width : (SLC_DEF_S0.TOKENS).width = 7 := rfl
@[simp] theorem SLC_DEF_S0.GRANULES_width : (SLC_DEF_S0.GRANULES).width = 7 := rfl
@[simp] theorem RNG_INFO.VALID_width (i : Nat) : (RNG_INFO.VALID i).width = 1 := rfl
@[simp] theorem RNG_INFO.STATE_width (i : Nat) : (RNG_INFO.STATE i).width = 4 := rfl
@[simp] theorem RNG_INFO.OWNER_width (i : Nat) : (RNG_INFO.OWNER i).width = 8 := rfl
@[simp] theorem RNG_INFO.KIND_width (i : Nat) : (RNG_INFO.KIND i).width = 1 := rfl
@[simp] theorem RNG_INFO.LOCAL_width (i : Nat) : (RNG_INFO.LOCAL i).width = 10 := rfl
@[simp] theorem SLC_SELF_INFO.SLICE_width (s : Nat) : (SLC_SELF_INFO.SLICE s).width = 8 := rfl
@[simp] theorem SLC_SELF_INFO.GENERATION_width (s : Nat) : (SLC_SELF_INFO.GENERATION s).width = 8 := rfl
@[simp] theorem SLC_SELF_INFO.STATE_width (s : Nat) : (SLC_SELF_INFO.STATE s).width = 4 := rfl
@[simp] theorem SLC_SELF_INFO.HELD_width (s : Nat) : (SLC_SELF_INFO.HELD s).width = 1 := rfl
@[simp] theorem SLC_SELF_CTRL.RESET_width (s : Nat) : (SLC_SELF_CTRL.RESET s).width = 1 := rfl
@[simp] theorem SLC_SELF_CTRL.NOTICE_RING_width (s : Nat) : (SLC_SELF_CTRL.NOTICE_RING s).width = 11 := rfl
@[simp] theorem SLC_SELF_CTRL.CLASS_MASK_width (s : Nat) : (SLC_SELF_CTRL.CLASS_MASK s).width = 3 := rfl
@[simp] theorem SLC_SELF_STATUS.RESET_DONE_width (s : Nat) : (SLC_SELF_STATUS.RESET_DONE s).width = 1 := rfl
@[simp] theorem SLC_SELF_STATUS.DISCARDED_width (s : Nat) : (SLC_SELF_STATUS.DISCARDED s).width = 8 := rfl
@[simp] theorem SLC_SELF_STATUS.DROPPED_width (s : Nat) : (SLC_SELF_STATUS.DROPPED s).width = 8 := rfl
@[simp] theorem RNG_BASE.ADDR_width (s i k : Nat) : (RNG_BASE.ADDR s i k).width = 32 := rfl
@[simp] theorem RNG_CTRL.ENABLE_width (s i : Nat) : (RNG_CTRL.ENABLE s i).width = 1 := rfl
@[simp] theorem RNG_CTRL.RESUME_width (s i : Nat) : (RNG_CTRL.RESUME s i).width = 1 := rfl
@[simp] theorem RNG_CTRL.KIND_width (s i : Nat) : (RNG_CTRL.KIND s i).width = 1 := rfl
@[simp] theorem RNG_CTRL.INT_EN_width (s i : Nat) : (RNG_CTRL.INT_EN s i).width = 1 := rfl
@[simp] theorem RNG_CTRL.SIZE_LOG2_width (s i : Nat) : (RNG_CTRL.SIZE_LOG2 s i).width = 4 := rfl
@[simp] theorem RNG_CTRL.VECTOR_width (s i : Nat) : (RNG_CTRL.VECTOR s i).width = 11 := rfl
@[simp] theorem RNG_DOORBELL.INDEX_width (s i : Nat) : (RNG_DOORBELL.INDEX s i).width = 16 := rfl
@[simp] theorem RNG_POS.HEAD_width (s i : Nat) : (RNG_POS.HEAD s i).width = 16 := rfl
@[simp] theorem RNG_POS.TAIL_width (s i : Nat) : (RNG_POS.TAIL s i).width = 16 := rfl
@[simp] theorem RNG_STATUS.STATE_width (s i : Nat) : (RNG_STATUS.STATE s i).width = 4 := rfl
@[simp] theorem RNG_STATUS.PHASE_width (s i : Nat) : (RNG_STATUS.PHASE s i).width = 1 := rfl
@[simp] theorem RNG_STATUS.ERRORS_width (s i : Nat) : (RNG_STATUS.ERRORS s i).width = 8 := rfl
@[simp] theorem GLB_FABRIC_ID.FABRIC_ID_width : (GLB_FABRIC_ID.FABRIC_ID).width = 10 := rfl
@[simp] theorem TIM_CTRL.ROLE_width : (TIM_CTRL.ROLE).width = 2 := rfl
@[simp] theorem TIM_CTRL.TPULSE_MODE_width : (TIM_CTRL.TPULSE_MODE).width = 2 := rfl
@[simp] theorem TIM_CTRL.TIME_FRAMES_OFF_width : (TIM_CTRL.TIME_FRAMES_OFF).width = 1 := rfl
@[simp] theorem TIM_STATUS.QUALITY_width : (TIM_STATUS.QUALITY).width = 2 := rfl
@[simp] theorem TIM_STATUS.LOCKED_width : (TIM_STATUS.LOCKED).width = 1 := rfl
@[simp] theorem TIM_STATUS.HOLDOVER_width : (TIM_STATUS.HOLDOVER).width = 1 := rfl
@[simp] theorem TIM_STATUS.SLEWING_width : (TIM_STATUS.SLEWING).width = 1 := rfl
@[simp] theorem TIM_STATUS.CONFLICT_width : (TIM_STATUS.CONFLICT).width = 1 := rfl
@[simp] theorem TIM_STATUS.STEPPED_width : (TIM_STATUS.STEPPED).width = 1 := rfl
@[simp] theorem TIM_STATUS.STRATUM_width : (TIM_STATUS.STRATUM).width = 4 := rfl
@[simp] theorem TIM_STATUS.PARENT_SIDE_width : (TIM_STATUS.PARENT_SIDE).width = 1 := rfl
@[simp] theorem TIM_STATUS.PARENT_PORT_width : (TIM_STATUS.PARENT_PORT).width = 6 := rfl
@[simp] theorem TIM_STATUS.PARENT_PULSE_width : (TIM_STATUS.PARENT_PULSE).width = 1 := rfl
@[simp] theorem TIM_STATUS.MASTER_VALID_width : (TIM_STATUS.MASTER_VALID).width = 1 := rfl
@[simp] theorem TIM_STATUS.MASTER_ID_width : (TIM_STATUS.MASTER_ID).width = 10 := rfl
@[simp] theorem TIM_UNCERT.BOUND_width : (TIM_UNCERT.BOUND).width = 32 := rfl
@[simp] theorem TIM_OFFSET.THETA_width : (TIM_OFFSET.THETA).width = 32 := rfl
@[simp] theorem TIM_RATE.PPB_width : (TIM_RATE.PPB).width = 32 := rfl
@[simp] theorem TIM_PULSE.SET_AT_PULSE_width : (TIM_PULSE.SET_AT_PULSE).width = 1 := rfl
@[simp] theorem TIM_PULSE.PERIOD_width : (TIM_PULSE.PERIOD).width = 3 := rfl
@[simp] theorem TIM_PULSE.IN_STRATUM_width : (TIM_PULSE.IN_STRATUM).width = 4 := rfl
@[simp] theorem TIM_PULSE.DELAY_width : (TIM_PULSE.DELAY).width = 16 := rfl
@[simp] theorem TIM_ASYM.A_ASYM_width (p : Nat) : (TIM_ASYM.A_ASYM p).width = 16 := rfl
@[simp] theorem TIM_ASYM.B_ASYM_width (p : Nat) : (TIM_ASYM.B_ASYM p).width = 16 := rfl
@[simp] theorem TRC_TRIG_CTRL.FIRE_width : (TRC_TRIG_CTRL.FIRE).width = 1 := rfl
@[simp] theorem TRC_TRIG_CTRL.TRIG_OUT_width : (TRC_TRIG_CTRL.TRIG_OUT).width = 1 := rfl
@[simp] theorem TRC_TRIG_CTRL.SLICE_TRIG_width : (TRC_TRIG_CTRL.SLICE_TRIG).width = 1 := rfl
@[simp] theorem TRC_TRIG_CTRL.SRC_EN_width : (TRC_TRIG_CTRL.SRC_EN).width = 4 := rfl
@[simp] theorem TRC_SCHED.TIME_width (k : Nat) : (TRC_SCHED.TIME k).width = 32 := rfl
@[simp] theorem TRC_SCHED_CTRL.GO_width : (TRC_SCHED_CTRL.GO).width = 1 := rfl
@[simp] theorem TRC_SCHED_CTRL.FLOOD_width : (TRC_SCHED_CTRL.FLOOD).width = 1 := rfl
@[simp] theorem TRC_SCHED_CTRL.PENDING_width : (TRC_SCHED_CTRL.PENDING).width = 1 := rfl
@[simp] theorem TRC_SCHED_CTRL.LATE_width : (TRC_SCHED_CTRL.LATE).width = 1 := rfl
@[simp] theorem TRC_SCHED_CTRL.NUMBER_width : (TRC_SCHED_CTRL.NUMBER).width = 8 := rfl
@[simp] theorem TRC_SCHED_CTRL.LATE_CNT_width : (TRC_SCHED_CTRL.LATE_CNT).width = 8 := rfl
@[simp] theorem TRC_DROPS.COUNT_width (t : Nat) : (TRC_DROPS.COUNT t).width = 32 := rfl
@[simp] theorem TRC_WN_STATUS.AB_CLAIMED_width (p : Nat) : (TRC_WN_STATUS.AB_CLAIMED p).width = 1 := rfl
@[simp] theorem TRC_WN_STATUS.AB_OWNER_width (p : Nat) : (TRC_WN_STATUS.AB_OWNER p).width = 8 := rfl
@[simp] theorem TRC_WN_STATUS.AB_UNITS_width (p : Nat) : (TRC_WN_STATUS.AB_UNITS p).width = 4 := rfl
@[simp] theorem TRC_WN_STATUS.BA_CLAIMED_width (p : Nat) : (TRC_WN_STATUS.BA_CLAIMED p).width = 1 := rfl
@[simp] theorem TRC_WN_STATUS.BA_OWNER_width (p : Nat) : (TRC_WN_STATUS.BA_OWNER p).width = 8 := rfl
@[simp] theorem TRC_WN_STATUS.BA_UNITS_width (p : Nat) : (TRC_WN_STATUS.BA_UNITS p).width = 4 := rfl
@[simp] theorem SNP_CTRL.REARM_width : (SNP_CTRL.REARM).width = 1 := rfl
@[simp] theorem SNP_CTRL.AUTO_REARM_width : (SNP_CTRL.AUTO_REARM).width = 16 := rfl
@[simp] theorem SNP_STATUS.STATE_width : (SNP_STATUS.STATE).width = 1 := rfl
@[simp] theorem SNP_STATUS.SOURCES_width : (SNP_STATUS.SOURCES).width = 4 := rfl
@[simp] theorem SNP_STATUS.LATCH_ID_width : (SNP_STATUS.LATCH_ID).width = 8 := rfl
@[simp] theorem SNP_STATUS.TILES_LATCHED_width : (SNP_STATUS.TILES_LATCHED).width = 8 := rfl
@[simp] theorem SNP_STATUS.MISSED_width : (SNP_STATUS.MISSED).width = 8 := rfl
@[simp] theorem SNP_TIME.TIME_width (k : Nat) : (SNP_TIME.TIME k).width = 32 := rfl
@[simp] theorem TRC_WIN_STATUS.STATE_width (s w : Nat) : (TRC_WIN_STATUS.STATE s w).width = 4 := rfl
@[simp] theorem TRC_WIN_STATUS.KIND_width (s w : Nat) : (TRC_WIN_STATUS.KIND s w).width = 1 := rfl
@[simp] theorem TRC_WIN_STATUS.MODE_width (s w : Nat) : (TRC_WIN_STATUS.MODE s w).width = 1 := rfl
@[simp] theorem TRC_WIN_STATUS.RESUME_width (s w : Nat) : (TRC_WIN_STATUS.RESUME s w).width = 1 := rfl
@[simp] theorem TRC_WIN_STATUS.GRANULES_width (s w : Nat) : (TRC_WIN_STATUS.GRANULES s w).width = 17 := rfl
@[simp] theorem TRC_WIN_POS.POS_width (s w : Nat) : (TRC_WIN_POS.POS s w).width = 32 := rfl
@[simp] theorem TRC_WIN_READ.READ_width (s w : Nat) : (TRC_WIN_READ.READ s w).width = 32 := rfl
@[simp] theorem TRC_WIN_DROPS.DROPS_width (s w : Nat) : (TRC_WIN_DROPS.DROPS s w).width = 32 := rfl
@[simp] theorem PWR_STATUS.STATE_width : (PWR_STATUS.STATE).width = 4 := rfl
@[simp] theorem PWR_STATUS.PL_width : (PWR_STATUS.PL).width = 2 := rfl
@[simp] theorem PWR_STATUS.PL_TARGET_width : (PWR_STATUS.PL_TARGET).width = 2 := rfl
@[simp] theorem PWR_STATUS.VID_CODE_width : (PWR_STATUS.VID_CODE).width = 8 := rfl
@[simp] theorem PWR_STATUS.VID_BUSY_width : (PWR_STATUS.VID_BUSY).width = 1 := rfl
@[simp] theorem PWR_STATUS.ACTIVE_PORTS_width : (PWR_STATUS.ACTIVE_PORTS).width = 7 := rfl
@[simp] theorem PWR_POLICY.DEEP_EN_width : (PWR_POLICY.DEEP_EN).width = 1 := rfl
@[simp] theorem PWR_POLICY.OFF_EN_width : (PWR_POLICY.OFF_EN).width = 1 := rfl
@[simp] theorem PWR_POLICY.PL_FLOOR_width : (PWR_POLICY.PL_FLOOR).width = 2 := rfl
@[simp] theorem PWR_POLICY.VID_WAIT_width : (PWR_POLICY.VID_WAIT).width = 6 := rfl
@[simp] theorem PWR_POLICY.DEEP_TMAX_width : (PWR_POLICY.DEEP_TMAX).width = 8 := rfl
@[simp] theorem PWR_TIMERS.TILE_IDLE_width : (PWR_TIMERS.TILE_IDLE).width = 8 := rfl
@[simp] theorem PWR_TIMERS.IDLE_TIMER_width : (PWR_TIMERS.IDLE_TIMER).width = 4 := rfl
@[simp] theorem PWR_TIMERS.SLEEP_TIMER_width : (PWR_TIMERS.SLEEP_TIMER).width = 8 := rfl
@[simp] theorem PWR_TIMERS.DEEP_TIMER_width : (PWR_TIMERS.DEEP_TIMER).width = 4 := rfl
@[simp] theorem PWR_TIMERS.OFF_TIMER_width : (PWR_TIMERS.OFF_TIMER).width = 4 := rfl
@[simp] theorem PWR_TIMERS.PARK_POLL_width : (PWR_TIMERS.PARK_POLL).width = 4 := rfl
@[simp] theorem PWR_PORT_ARM.PORTS_width (k : Nat) : (PWR_PORT_ARM.PORTS k).width = 32 := rfl
@[simp] theorem PWR_WAKE_SOURCE.FROM_STATE_width : (PWR_WAKE_SOURCE.FROM_STATE).width = 3 := rfl
@[simp] theorem PWR_WAKE_SOURCE.SIGDET_PORT_width : (PWR_WAKE_SOURCE.SIGDET_PORT).width = 7 := rfl
@[simp] theorem PWR_WAKE_SOURCE.INTERNAL_width : (PWR_WAKE_SOURCE.INTERNAL).width = 1 := rfl
@[simp] theorem PWR_WAKE_SOURCE.AON_TIMER_width : (PWR_WAKE_SOURCE.AON_TIMER).width = 1 := rfl
@[simp] theorem PWR_WAKE_SOURCE.SIGDET_width : (PWR_WAKE_SOURCE.SIGDET).width = 1 := rfl
@[simp] theorem PWR_WAKE_SOURCE.MGMT_LINK_width : (PWR_WAKE_SOURCE.MGMT_LINK).width = 1 := rfl
@[simp] theorem PWR_WAKE_SOURCE.WAKE_IN_width : (PWR_WAKE_SOURCE.WAKE_IN).width = 1 := rfl
@[simp] theorem PWR_WAKE_SOURCE.SB_MATCH_width : (PWR_WAKE_SOURCE.SB_MATCH).width = 1 := rfl
@[simp] theorem PWR_WAKE_STATUS.LOFT_FAIL_width : (PWR_WAKE_STATUS.LOFT_FAIL).width = 8 := rfl
@[simp] theorem PWR_WAKE_STATUS.ABANDONED_width : (PWR_WAKE_STATUS.ABANDONED).width = 1 := rfl
@[simp] theorem PWR_WAKE_STATUS.WAKE_US_width : (PWR_WAKE_STATUS.WAKE_US).width = 14 := rfl
@[simp] theorem PWR_AON_STATUS.BOR_width : (PWR_AON_STATUS.BOR).width = 1 := rfl
@[simp] theorem PWR_AON_STATUS.LOAD_width : (PWR_AON_STATUS.LOAD).width = 1 := rfl
@[simp] theorem PWR_AON_STATUS.SUPPLY_width : (PWR_AON_STATUS.SUPPLY).width = 1 := rfl
@[simp] theorem PWR_AON_REC.DATA_width (i : Nat) : (PWR_AON_REC.DATA i).width = 32 := rfl
@[simp] theorem CLK_STATUS.ROOT_LOCK_width : (CLK_STATUS.ROOT_LOCK).width = 1 := rfl
@[simp] theorem CLK_STATUS.REFCLK_OK_width : (CLK_STATUS.REFCLK_OK).width = 1 := rfl
@[simp] theorem CLK_STATUS.CORE_SRC_width : (CLK_STATUS.CORE_SRC).width = 1 := rfl
@[simp] theorem CLK_STATUS.MCLK_SRC_width : (CLK_STATUS.MCLK_SRC).width = 1 := rfl
@[simp] theorem CLK_STATUS.REFCLK_LOST_width : (CLK_STATUS.REFCLK_LOST).width = 1 := rfl
@[simp] theorem CLK_STATUS.LOSS_CNT_width : (CLK_STATUS.LOSS_CNT).width = 8 := rfl
@[simp] theorem CLK_AON_RATIO.RATIO_width : (CLK_AON_RATIO.RATIO).width = 32 := rfl
@[simp] theorem RST_STATUS.REASON_width : (RST_STATUS.REASON).width = 4 := rfl
@[simp] theorem RST_STATUS.THERMTRIP_SEEN_width : (RST_STATUS.THERMTRIP_SEEN).width = 1 := rfl
@[simp] theorem RST_STATUS.BOOT_DONE_width : (RST_STATUS.BOOT_DONE).width = 1 := rfl
@[simp] theorem RST_STATUS.PIN_CNT_width : (RST_STATUS.PIN_CNT).width = 8 := rfl
@[simp] theorem RST_CMD.GO_width : (RST_CMD.GO).width = 1 := rfl
@[simp] theorem RST_CMD.ACTION_width : (RST_CMD.ACTION).width = 2 := rfl
@[simp] theorem RST_CMD.INDEX_width : (RST_CMD.INDEX).width = 6 := rfl
@[simp] theorem RST_CMD.KEY_width : (RST_CMD.KEY).width = 8 := rfl
@[simp] theorem RST_CNT.TILE_RESETS_width : (RST_CNT.TILE_RESETS).width = 8 := rfl
@[simp] theorem RST_CNT.RESTRUCTURES_width : (RST_CNT.RESTRUCTURES).width = 8 := rfl
@[simp] theorem RST_CNT.PORT_RESETS_width : (RST_CNT.PORT_RESETS).width = 16 := rfl
@[simp] theorem ERR_DP_STATUS.CODES_width : (ERR_DP_STATUS.CODES).width = 18 := rfl
@[simp] theorem ERR_DP_MASK.CODES_width : (ERR_DP_MASK.CODES).width = 18 := rfl
@[simp] theorem ERR_DP_PORTS.PORTS_width (k : Nat) : (ERR_DP_PORTS.PORTS k).width = 32 := rfl
@[simp] theorem ERR_DP_LOG0.VALID_width : (ERR_DP_LOG0.VALID).width = 1 := rfl
@[simp] theorem ERR_DP_LOG0.OVERFLOW_width : (ERR_DP_LOG0.OVERFLOW).width = 1 := rfl
@[simp] theorem ERR_DP_LOG0.CODE_width : (ERR_DP_LOG0.CODE).width = 8 := rfl
@[simp] theorem ERR_DP_LOG0.PORT_width : (ERR_DP_LOG0.PORT).width = 8 := rfl
@[simp] theorem ERR_DP_LOG0.DETAIL_width : (ERR_DP_LOG0.DETAIL).width = 8 := rfl
@[simp] theorem ERR_DP_LOG_TIME.TIME_width (k : Nat) : (ERR_DP_LOG_TIME.TIME k).width = 32 := rfl
@[simp] theorem ERR_DP_CNT.CORRECTABLE_width : (ERR_DP_CNT.CORRECTABLE).width = 16 := rfl
@[simp] theorem ERR_DP_CNT.NONFATAL_width : (ERR_DP_CNT.NONFATAL).width = 8 := rfl
@[simp] theorem ERR_DP_CNT.FATAL_width : (ERR_DP_CNT.FATAL).width = 8 := rfl
@[simp] theorem ERR_CTRL.AUTO_TILE_RESET_width : (ERR_CTRL.AUTO_TILE_RESET).width = 1 := rfl
@[simp] theorem SB_CTRL.ALERT_EN_width : (SB_CTRL.ALERT_EN).width = 1 := rfl
@[simp] theorem SB_CTRL.ALERT_CLASS_width : (SB_CTRL.ALERT_CLASS).width = 2 := rfl
@[simp] theorem SB_CTRL.PEC_REQUIRED_width : (SB_CTRL.PEC_REQUIRED).width = 1 := rfl
@[simp] theorem SB_STATUS.ALERT_PENDING_width : (SB_STATUS.ALERT_PENDING).width = 1 := rfl
@[simp] theorem SB_STATUS.PEC_ERR_width : (SB_STATUS.PEC_ERR).width = 1 := rfl
@[simp] theorem SB_STATUS.TIMEOUT_width : (SB_STATUS.TIMEOUT).width = 1 := rfl
@[simp] theorem SB_STATUS.LAST_STATUS_width : (SB_STATUS.LAST_STATUS).width = 8 := rfl
@[simp] theorem SB_CNT.MESSAGES_width : (SB_CNT.MESSAGES).width = 16 := rfl
@[simp] theorem SB_CNT.ERRORS_width : (SB_CNT.ERRORS).width = 8 := rfl
@[simp] theorem TIM_SET.TIME_width (k : Nat) : (TIM_SET.TIME k).width = 32 := rfl
end Sys2Proof.Machine
end

