-- ==== Sys2Proof/WellFormed.lean ====
section
/-! DEFINITION. Well-formed commands: operands in the ranges and of the lengths that the spec gives them. A constructor whose
operands their types already bound has no check. -/

namespace Sys2Proof

/-- An offset of a register (R3, R285). -/
def regOffset (x : Nat) : Bool := x % 4 == 0 && decide (x < 2 ^ 24)
/-- 16 FFE taps and three slicer levels (R53). -/
def RxCoef.wf (c : RxCoef) : Bool := c.ffe.length == 16 && c.levels.length == 3
/-- An access that asks for a wake names a register and a word. -/
def WakeCause.wf : WakeCause → Bool
  | .access _ offset value => regOffset offset && decide (value < 2 ^ 32)
  | .commit | .parkPoll | .signalDetect _ => true
/-- The 16 symbols of a training set and the ranges of its fields (R99). -/
def TrainingSet.wf (t : TrainingSet) : Bool :=
  t.symbols.length == 16 && decide (t.rates < 128) && decide (t.nFts < 256) &&
  (match t.link with | some n => decide (n < 256) | none => true) &&
  (match t.lane with | some n => decide (n < 32) | none => true) &&
  (match t.width with | some n => ([1, 2, 4, 8, 16] : List Nat).contains n | none => true)
/-- What a capture measured: of each of the 16 sub-ADCs, and of the four comparators (R206, R207). -/
def CaptureStats.wf (c : CaptureStats) : Bool := c.occupancy.length == 16 && c.means.length == 16
def CaptureErrors.wf (e : CaptureErrors) : Bool := e.timing.length == 16 && e.shifts.length == 4 && e.slope != 0
/-- Ring entries are of 64 bytes (R324). -/
def ReadData.wf : ReadData → Bool
  | .entries es => es.all (fun e => e.length == 64)
  | .bytes _ => true
/-- A flit of 256 bytes; an ordered set of 16 symbols, with a mask of 16 lanes (R142, R153); anything else is of some bytes (R68). -/
def StreamItem.wf : StreamItem → Bool
  | .flit bytes => bytes.length == 256
  | .oset mask symbols => decide (mask < 2 ^ 16) && symbols.length == 16
  | .other bytes => !bytes.isEmpty
/-- A report names a row of 04, Table 8; a step has an offset of seven bits (R119, R121). -/
def MarginCmd.wf : MarginCmd → Bool
  | .report item => decide (item < 10)
  | .step _ offset => decide (offset < 128)
  | .normal => true
/-- What an observed item holds, and the length of the unit of the stream it stands in (12, Table 3). -/
def Observed.wf (raw : Nat) : Observed → Bool
  | .oset encoding lanes symbols => decide (encoding ≤ 2) && decide (lanes < 2 ^ 16) && symbols.length == 16 && decide (raw ≤ 256)
  | .dllp inFlit bytes => decide (bytes.length ≤ 8) && (if inFlit then raw == 256 else decide (raw ≤ 256))
  | .tlp inFlit dw header data =>
    decide (dw < 2 ^ 16) && decide (header.length ≤ 16) && decide (data.length ≤ 8) && (if inFlit then raw == 256 else decide (raw ≤ 256))
  | .flit carried => decide (carried < 2 ^ 24) && raw == 256
  | .error code lane reason row =>
    decide (code < 256) && decide (lane < 256) && decide (reason < 256) && decide (row < 2 ^ 32) && decide (raw ≤ 256)
  | .unit => raw == 256
/-- What comes up is a link: of one of the rates 1 to 6, and of a width (R280). -/
def HoldCause.wf : HoldCause → Bool
  | .bme => true
  | .link rate width _ => decide (1 ≤ rate.val) && decide (rate.val ≤ 6) && decide (1 ≤ width.val)
/-- A request lies within its space and names its bytes (R285, R286). -/
def ReqKind.wf (addr : Nat) (x : ReqSpan) : ReqKind → Bool
  | .memory _ _ =>
    decide (addr < 2 ^ 24) && decide (x.dwords ≤ 1024) && decide (x.firstBe < 16) && decide (x.lastBe < 16) &&
    decide (x.data < 2 ^ (32 * x.dwords))
  | .config => addr % 4 == 0 && decide (addr < 4096)
/-- A written field is of 32 bits, an address of 64; a word of configuration space has an offset below 4096. -/
def CfgField.wf : CfgField → Nat → Bool
  | .bar0, v | .bar2, v => decide (v < 2 ^ 64)
  | .standard o, v => decide (o < 4096) && decide (v < 2 ^ 32)
  | _, v => decide (v < 2 ^ 32)

/-- A logged header is of up to 32 bytes, as in Flit Mode with the OHC (R292). -/
def LinkError.wf : LinkError → Bool
  | .malformedTlp header | .poisonedWrite header => decide (header < 2 ^ 256)
  | .receiverError | .badTlp | .badDllp | .replayRollover | .replayTimeout | .dataLinkProtocol | .flowControlProtocol
  | .receiverOverflow => true

/-- A well-formed command. -/
def Instr.wf : Instr → Bool
  | .registerWrite _ addr be data => decide (addr < 2 ^ 24) && decide (be < 2 ^ 8) && decide (data < 2 ^ 64)
  | .unsupportedRequest kind addr span header => kind.wf addr span && decide (header < 2 ^ 256)
  | .fencedTileAccess _ offset value => regOffset offset && decide (value < 2 ^ 32)
  | .tileAccessComplete _ => true
  | .coreWatchdogExpiry _ => true
  | .tileWakeRequest _ cause => cause.wf
  | .tileRampStart => true
  | .tileRampDone _ => true
  | .tileRestoreDone _ => true
  | .tileIdleExpiry _ => true
  | .halfLanePowerUp _ => true
  | .tileFence _ _ => true
  | .autoTileReset _ => true
  | .signalDetectRise _ => true
  | .signalDetectFall _ => true
  | .lockRise _ rx => rx.wf
  | .lockFall _ => true
  | .acquireStart _ => true
  | .acquireTimeout _ => true
  | .convergeTimeout _ => true
  | .fomWindowEnd _ _ _ rx => rx.wf
  | .freezeWrite _ _ => true
  | .fomMinClr _ => true
  | .alignmentGained _ _ => true
  | .alignmentLost _ => true
  | .dataStreamStart _ _ => true
  | .dataStreamEnd _ stop => stop.before.all StreamItem.wf
  | .nonflitHoldExpiry _ => true
  | .skpAdjust _ fills => decide (fills.length ≤ 16)
  | .skpGenerate _ _ => true
  | .ebSlip _ => true
  | .deskewFail _ _ => true
  | .applyPoint _ => true
  | .applyPointTimeout _ => true
  | .trainingSetReceived _ ts => ts.wf
  | .eqPresetAck _ => true
  | .hotResetExit _ => true
  | .disabledExit _ => true
  | .receiverDetectScan _ _ => true
  | .electricalIdleExit _ => true
  | .partnerLost _ => true
  | .trainingTimeout _ => true
  | .rateChange _ _ => true
  | .lowpowerEntry _ _ => true
  | .lowpowerExit _ _ => true
  | .trnRetrain _ => true
  | .marginCommand _ msg => msg.cmd.wf
  | .rowLaunch _ arrived => arrived.all StreamItem.wf
  | .frameReceived _ line => decide (1110 ≤ line.length)
  | .ackTimeout _ => true
  | .frameLockGained _ _ => true
  | .frameLockLost _ => true
  | .stuffHigh _ => true
  | .flitDrop _ => true
  | .segTrainingTimeout _ => true
  | .backoffEnd _ => true
  | .laneidReceived _ payload => payload.length == 256
  | .segPartnerLost _ => true
  | .segRetrain _ => true
  | .osrelSend _ => true
  | .osrelReceived _ row payload => decide (row < 2 ^ 12) && payload.length == 256
  | .pathSend _ => true
  | .pathFrameReceived _ payload => payload.length == 256
  | .osetReceived _ payload => payload.length == 256
  | .hardFaultDeclare _ _ => true
  | .corrBlockEnd _ => true
  | .standardLaneFault _ _ => true
  | .trellisPropose _ => true
  | .trellisProposeReceived _ msg => msg.length == 32
  | .trellisPreparedReceived _ msg => msg.length == 32
  | .trellisRefusedReceived _ msg => msg.length == 32
  | .commitHoldExpiry _ => true
  | .trellisCommitReceived _ msg => msg.length == 32
  | .trellisSwitch _ => true
  | .trellisCancelReceived _ msg => msg.length == 32
  | .trellisVoidedReceived _ msg => msg.length == 32
  | .proposeReplyTimeout _ => true
  | .committingTimeout _ => true
  | .cancellingTimeout _ => true
  | .readyTimeout _ => true
  | .retiredExpiry _ => true
  | .trlMove _ _ _ => true
  | .trlReturnHome _ _ => true
  | .calRun _ _ _ => true
  | .calStore => true
  | .calReload => true
  | .calClear _ _ _ => true
  | .calAutoRun _ => true
  | .calAutoStore => true
  | .calCaptureStart _ => true
  | .calCaptureEnd _ stats errors => stats.wf && errors.wf
  | .calComputeDone _ => true
  | .calHoldWrite _ => true
  | .interpolationStep _ temp => decide (-512 ≤ temp) && decide (temp < 512)
  | .calStoreFlashDone _ => true
  | .calStoreTimeout => true
  | .engineStepEnd _ => true
  | .epochStart => true
  | .jobDispatch _ => true
  | .safePoint _ _ => true
  | .restoreDone _ => true
  | .waitExpired _ => true
  | .engineFault _ => true
  | .engineRestartDone _ => true
  | .engPermitWrite _ value => decide (value < 2 ^ 32)
  | .sliceJobsOffWrite _ => true
  | .boot _ => true
  | .writeSlot len => decide (len < 2 ^ 12)
  | .imgFlashOpDone _ => true
  | .confirm => true
  | .confirmAfterExpiry => true
  | .advanceArb => true
  | .swapFw => true
  | .programKey _ => true
  | .revokeKey _ => true
  | .txnBegin => true
  | .commit => true
  | .rollback => true
  | .rwtWrite offset value => regOffset offset && decide (value < 2 ^ 32)
  | .bctStage hi => decide (hi < 2 ^ 32)
  | .txnValidationDone => true
  | .txnCommitTime => true
  | .txnApplyFail _ => true
  | .txnRollbackDone => true
  | .abandoned => true
  | .completionReceived _ _ header data => decide (header < 2 ^ 256) && data.wf
  | .completionTimeout _ => true
  | .tagRetireExpiry _ => true
  | .ctoDisableClear => true
  | .holdStart _ => true
  | .holdEnd cause => cause.wf
  | .flr => true
  | .mgmtHotReset => true
  | .dataLinkDown => true
  | .perstAssert => true
  | .perstDeassert => true
  | .d3hotEntry => true
  | .d0Return => true
  | .pmeTurnOff => true
  | .aspmL1Entry => true
  | .aspmL1Exit => true
  | .msixUnmask _ => true
  | .aliveBeat => true
  | .create _ => true
  | .sliceReset _ => true
  | .selfReset _ => true
  | .destroy _ => true
  | .resetDone _ => true
  | .destroyDone _ => true
  | .shareWrite _ _ value => decide (value < 2 ^ 32)
  | .visibilityRemove _ _ value => decide (value < 2 ^ 32)
  | .pasidEnableChange _ => true
  | .ringEnable _ _ ctrl => decide (ctrl < 2 ^ 32)
  | .ringDisable _ _ ctrl => decide (ctrl < 2 ^ 32)
  | .ringResume _ _ => true
  | .cmdDoorbell _ _ index => decide (index < 2 ^ 16)
  | .eventDoorbell _ _ index => decide (index < 2 ^ 16)
  | .eventPost => true
  | .nop _ _ => true
  | .jobSubmit _ _ => true
  | .portStatus _ _ => true
  | .readReg _ _ => true
  | .portRetrain _ _ => true
  | .fence _ _ => true
  | .mirrorPublish _ => true
  | .timeFrameSend _ departure => decide (departure < 2 ^ 80)
  | .timeFrameReceived _ payload _ => payload.length == 256
  | .holdoverEntry => true
  | .tpulseOut => true
  | .tpulseEdge _ => true
  | .timSet hi => decide (hi < 2 ^ 32)
  | .aonRatioMeasure ratio => decide (ratio < 2 ^ 32)
  | .winnowItem _ _ item _ _ raw => item.wf raw.length
  | .traceDmaWrite _ => true
  | .windowOpen _ _ => true
  | .windowClose _ _ => true
  | .windowCloseDone _ _ => true
  | .windowResume _ _ => true
  | .winnowClaim _ _ => true
  | .winnowRelease _ _ => true
  | .winnowUnit _ _ => true
  | .trigger _ _ => true
  | .fire => true
  | .trigNEdge _ => true
  | .trigNRelease => true
  | .trcSchedGo _ => true
  | .scheduleFire => true
  | .latch => true
  | .rearm => true
  | .autoRearmExpiry => true
  | .refclkLost => true
  | .refclkReturn => true
  | .rootLock => true
  | .vidWaitExpiry => true
  | .idleEntry => true
  | .sleepEntry => true
  | .deepEntry _ => true
  | .offEntry => true
  | .sbAddressMatch => true
  | .wakeIn => true
  | .mgmtLinkWake => true
  | .parkPoll => true
  | .sleepWakeDone _ _ => true
  | .deepWakeReloadDone _ loftPass _ _ => loftPass.length == 8
  | .aonBrownout _ => true
  | .coldReset => true
  | .resetNAssert => true
  | .resetNDeassert => true
  | .supplyMonitor _ => true
  | .supplyRecovered => true
  | .rstDevice key => decide (key < 2 ^ 8)
  | .rstPort index => decide (index < 2 ^ 6)
  | .rstTile index => decide (index < 2 ^ 6)
  | .portResetDone _ => true
  | .tileResetDone _ => true
  | .thermtrip => true
  | .sbRead offset count _ => decide (offset < 2 ^ 32) && decide (count < 2 ^ 8)
  | .sbWrite offset value _ => decide (offset < 2 ^ 32) && decide (value < 2 ^ 32)
  | .sbStatusRead => true
  | .portMirror port _ => decide (port < 2 ^ 8)
  | .identify => true
  | .alertResponse _ => true
  | .sbTimeout => true
  | .replayMemoryError _ => true
  | .internalEccError _ => true
  | .managementLinkError e => e.wf
  | .configurationWrite field value => field.wf value
  | .alwaysOnTimerWake => true
  | .alwaysOnResetRelease _ => true

end Sys2Proof
end

