-- ==== Sys2Proof/Tests/Slice0.lean ====
section
/-! SUPPORT. The model's own tests: ill-formed commands are refused, small states, and for every clause of every statement a
state and operands that meet its hypotheses together. -/

namespace Sys2Proof.Tests

set_option linter.unusedVariables false
set_option Elab.async false

open Sys2Proof Sys2Proof.Machine

def afterOf (c : Instr) (s : State) : State := match exec c s with | .next t => t | _ => s
/-- One write after another. -/
def setAll (s : State) (ws : List (Cell × Nat)) : State := ws.foldl (fun t w => t.wr w.1 w.2) s
/-- Port 0 from half-lane 0 (A) to half-lane 1 (B), one lane wide, in Lane Tile 0 that is ON; device in RUN. -/
def aPort : State :=
  (setAll { State.reset with power := {} }
    [(GLB_MGMT_STATUS.DMA_HELD, 0), (PRT_MODE.ENABLE 0, 1), (PRT_MODE.TILE 0, 0), (PRT_MODE.WIDTH 0, 1), (PRT_MODE.WIDTH 1, 1), (PRT_MODE.MODE 0, 1), (GLB_TILE_STATUS.LT 0, 2),
     (ENG_STATUS.STATE 0, 1), (LCH_ASSIGN.VALID 0, 1), (LCH_ASSIGN.PORT 0, 0), (LCH_ASSIGN.LOGICAL 0, 0),
     (LCH_ASSIGN.VALID 1, 1), (LCH_ASSIGN.PORT 1, 0), (LCH_ASSIGN.LOGICAL 1, 0)]).upH 0 (fun x => { x with powered := true })
    |>.upH 1 (fun x => { x with powered := true })
/-- The same with both sides Segment Sides. -/
def aSegPort : State := setAll aPort [(PRT_MODE.SEGMENT 0, 1), (PRT_MODE.SEGMENT 1, 1)]
def aRx : RxCoef := ⟨List.replicate 16 1, 2, [0, 5, 9], 40, 3, 4⟩
/-- Port 0 with both receivers converged and traffic in slot 4. -/
def aLive : State :=
  setAll aPort [(LCH_FOM.SIGDET 0, 1), (LCH_FOM.LOCK 0, 1), (LCH_FOM.ADAPT_STATE 0, 4), (LCH_FOM.FOM_VALID 0, 1), (LCH_FOM.RATE_SLOT 0, 4),
    (LCH_FOM.SIGDET 1, 1), (LCH_FOM.LOCK 1, 1), (LCH_FOM.ADAPT_STATE 1, 4), (LCH_FOM.FOM_VALID 1, 1), (LCH_FOM.RATE_SLOT 1, 4),
    (PRT_TRN_STATUS.STATE 0, 4)]
/-- The same with a calibration run in a stage. -/
def aRun (g : RunStage) : State := aLive.upH 0 (fun x => { x with run := some { stage := g } })
/-- A capture of a random NRZ stream that needs no correction. -/
def goodStats : CaptureStats :=
  ⟨List.replicate 16 [5000, 5000], List.replicate 16 [-10000, 10000], 0, 5, 5000⟩
/-- The errors measured beside it, all 0. -/
def goodErrs : CaptureErrors := ⟨List.replicate 16 0, 1, List.replicate 4 0⟩
/-- A store under way in a step. -/
def aStore (n : Nat) (b : Bool) : CalStore := { step := n, toB := b, buffer := {}, gen := 3, time := 0, changed := false, since := 0 }
/-- A snapshot job of Slice 1 on the receiver of half-lane 0. -/
def aJob : Job :=
  { slice := 1, gen := 0, ring := 0, entry := 0, tag := 7, evRing := 1, kind := 4, dataMethod := false, portScope := false, latched := false,
    half := 0, side := 0, axis := 0, steps := 1, tStride := 1, vStride := 1, dwell := 16, errLimit := 1, window := 0, offset := 0, since := 0 }
/-- Port 0 with traffic and a Segment Side on its B-side. -/
def aGear : State := aLive.wr (PRT_MODE.SEGMENT 1) 1
/-- A TS1 of Recovery with nothing asked for. -/
def aSet : TrainingSet :=
  { ts2 := false, link := none, lane := none, rates := 0x1F, nFts := 0, hotReset := false, disable := false, loopback := false,
    retimerPresent := false, twoRetimers := false, substate := .recoveryRcvrLock, preset := none, coefs := (0, 0, 0), deEmph := false, request := none, reject := false,
    precode := false, fs := 0, lf := 0, shb := false, cxl := false, width := none, inverted := false, symbols := List.replicate 16 0 }
/-- The partner of a Segment Side of one lane and one spare, with Trellis. -/
def aPartner : Partner :=
  { version := 1, kind := 1, serial := 9, port := 3, side := 0, width := 1, spares := 1, slot := 8, caps := 7, legacy := false, buffer := 32 }
/-- Port 0 geared, its B-side a Segment Side of one data lane and one spare (half-lanes 1 and 3) in SACTIVE with Trellis. -/
def aSeg : State :=
  (setAll aGear [(PRT_MODE.SPARES 1, 1), (LCH_ASSIGN.VALID 3, 1), (LCH_ASSIGN.PORT 3, 0), (LCH_ASSIGN.LOGICAL 3, 1),
    (LCH_FOM.SIGDET 3, 1), (LCH_FOM.LOCK 3, 1), (LCH_FOM.ADAPT_STATE 3, 4), (LCH_FOM.FOM_VALID 3, 1), (LCH_FOM.FOM 3, 200), (LCH_FOM.FOM 1, 200),
    (LCH_FOM.RATE_SLOT 1, 8), (LCH_FOM.RATE_SLOT 3, 8), (PRT_DP_CTRL.SLOT 1, 8), (LCH_SEG_FEC.FRAME_LOCK 1, 1),
    (LCH_SEG_FEC.FRAME_LOCK 3, 1), (LCH_SEG_FEC.HEARD 1, 0), (LCH_SEG_FEC.HEARD 3, 1), (PRT_SEG_STATUS.STATE 1, 5),
    (LCH_DP_STATUS.ALIGN_STATE 1, 2), (LCH_DP_STATUS.ALIGN_STATE 3, 2)]).upS 1 (fun x => { x with
      partner := some aPartner, rxPlace := identityPlacement 2, txPlace := identityPlacement 2, switched := true })
    |>.upH 3 (fun x => { x with powered := true, tx := .frames }) |>.upH 1 (fun x => { x with tx := .frames })
/-- The Segment Side in another state. -/
def aSegIn (st : Nat) : State := aSeg.wr (PRT_SEG_STATUS.STATE 1) st
/-- A LANEID payload of a partner of one lane and one spare in slot 8. -/
def aLaneid (width : Nat) : List Byte :=
  [0x4C, 0x41, 0x4E, 0x45, 0x01, 0x01] ++ zeros 8 ++ [9, 0, 0, width, 1, 8, 7, 0, 32, 0].map (BitVec.ofNat 8) ++ zeros 232
/-- A PATH payload with the partner present. -/
def aPath (flags hops : Nat) : List Byte := [1, flags, hops, 0].map (BitVec.ofNat 8) ++ zeros 252
/-- A fault of lane 0 of the Segment Side, and a proposal for it that uses the spare. -/
def anItem : Item := ⟨0, 1, 0x1F, 1, 0, 0⟩
def aProposal : Proposal := ⟨anItem, 1, 1, movePlacement (identityPlacement 2) 0 1⟩
/-- The steering end in a state with that proposal. -/
def aSteer (st : Nat) : State := (aSeg.wr (PRT_TRL_STATUS.STEER_STATE 1) st).upS 1 (fun x => { x with prop := some aProposal })
def aPrepared : Prepared := ⟨1, 0, 1, movePlacement (identityPlacement 2) 0 1⟩
/-- The transmitting end in READY. -/
def aReady (due : Bool) : State :=
  (aSeg.wr (PRT_TRL_STATUS.XMIT_STATE 1) 1).upS 1 (fun x => { x with prepared := some aPrepared, switchDue := due })
/-- A Trellis message of a kind for that move. -/
def aMsg (kind : Nat) : List Byte := trellisMsg kind 1 0 0 1 0 (movePlacement (identityPlacement 2) 0 1)
/-- Port 0 with two lanes on each side, half-lanes 0 and 2 (A) and 1 and 3 (B). -/
def aTwoLanes : State :=
  setAll aLive [(PRT_MODE.WIDTH 0, 2), (PRT_MODE.WIDTH 1, 2), (LCH_ASSIGN.VALID 2, 1), (LCH_ASSIGN.PORT 2, 0), (LCH_ASSIGN.LOGICAL 2, 1),
    (LCH_ASSIGN.VALID 3, 1), (LCH_ASSIGN.PORT 3, 0), (LCH_ASSIGN.LOGICAL 3, 1), (LCH_FOM.LOCK 2, 1), (LCH_FOM.LOCK 3, 1)]
/-- A TIME frame's payload from master 7 at stratum 0, Sequence 5, with its flags and schedule. -/
def aTime (flags sched number : Nat) : List Byte :=
  [1, BitVec.ofNat 8 flags] ++ leBytes 2 7 ++ leBytes 2 7 ++ [0, 5] ++ timeBytes (4 * 65536) ++ [0, 0] ++
    timeBytes (11 * 65536) ++ zeros 2 ++ leBytes 8 sched ++ leBytes 1 number ++ zeros 215
/-- A follower that has heard Sequence 4 from its partner. -/
def aTimed : State := (aSeg.wr TIM_CTRL.ROLE 2).upTs 1 (fun y => { y with
  sent := [(0, 10 * 65536)], peer := some ⟨9, 7, 7, 0, 4, 5 * 65536⟩ })
/-- Port 0 with traffic, Slice 0 and Slice 1, which sees Port 0, ACTIVE, and window 2 of Slice 1 open; no hold. -/
def aTrace : State :=
  setAll (aLive.upM (fun m => { m with pasid := true }))
    [(SLC_STATUS.STATE 0, 1), (SLC_STATUS.STATE 1, 1), (SLC_RINGS.COUNT 0, 4), (SLC_RINGS.BASE 1, 4), (SLC_RINGS.COUNT 1, 4),
     (SLC_PORTS.PORTS 0 0, 0xFFFFFFFF), (SLC_PORTS.PORTS 0 1, 0xFFFFFFFF), (SLC_PORTS.PORTS 1 0, 1), (SLC_SHARE.GRANULES 1, 64),
     (SLC_CTRL.PASID 1, 5), (TRC_WIN_STATUS.STATE 1 2, 2), (TRC_WIN_STATUS.MODE 1 2, 1), (TRC_WIN_STATUS.GRANULES 1 2, 4)]
/-- A command entry that names event Ring 1 and Tag 0x77, with its opcode, its Port and its bytes from 16 on. -/
def anEntry (op port : Nat) (rest : List Nat) : List Byte :=
  ([op, 0, 1, 0, 0x77, 0, 0, 0, port, 0, 0, 0, 0, 0, 0, 0] ++ rest ++ List.replicate (48 - rest.length) 0).map (BitVec.ofNat 8)
/-- Ring 0 of a Slice a command Ring whose entry 3 has been fetched, and Ring 1 an event Ring. -/
def aRing (s : State) (k : Nat) (e : List Byte) : State :=
  (setAll s [(RNG_STATUS.STATE k 0, 1), (RNG_CTRL.ENABLE k 0, 1), (RNG_CTRL.SIZE_LOG2 k 0, 4), (RNG_POS.HEAD k 0, 3),
    (RNG_POS.TAIL k 0, 4), (RNG_STATUS.STATE k 1, 1), (RNG_CTRL.ENABLE k 1, 1), (RNG_CTRL.KIND k 1, 1),
    (RNG_CTRL.SIZE_LOG2 k 1, 4), (RNG_STATUS.PHASE k 1, 1)]).upR k 0 (fun r => { r with fetched := [(3, e)], next := 4 })
/-- The MARGIN job that the entry of the tests asks for. -/
def aMarginJob : Job :=
  { slice := 1, gen := 0, ring := 0, entry := 3, tag := 0x77, evRing := 1, kind := 1, dataMethod := false, portScope := false, latched := false,
    half := 0, side := 0, axis := 0, steps := 8, tStride := 8, vStride := 1, dwell := 16, errLimit := 1, window := 0, offset := 0, since := 0 }
/-- The device in a power state with its clocks on the root and every Lane Tile OFF. -/
def aRest (st : Nat) : State := setAll { State.reset with power := {} } [(PWR_STATUS.STATE, st), (CLK_STATUS.ROOT_LOCK, 1),
  (CLK_STATUS.REFCLK_OK, 1), (CLK_STATUS.CORE_SRC, 1), (CLK_STATUS.MCLK_SRC, 1), (PWR_POLICY.DEEP_EN, 1), (PWR_POLICY.OFF_EN, 1)]
/-- The same with PERST_N asserted. -/
def aQuiet (st : Nat) : State := (aRest st).upM (fun m => { m with perst := true })
/-- Port 0 with traffic on a device with its clocks on the root. -/
def aClocked : State := setAll aTrace [(CLK_STATUS.ROOT_LOCK, 1), (CLK_STATUS.REFCLK_OK, 1), (CLK_STATUS.CORE_SRC, 1), (CLK_STATUS.MCLK_SRC, 1)]
/-- An armed Port 0 of Lane Tile 0, which is OFF. -/
def aParked : State := setAll (aRest 0) [(PRT_MODE.ENABLE 0, 1), (PRT_MODE.WIDTH 0, 1), (PRT_MODE.WIDTH 1, 1), (PWR_PORT_ARM.PORTS 0, 1)]
/-- A transaction in OPEN whose scope holds Port 0. -/
def anOpen : State := setAll aClocked [(TXN_STATUS.STATE, 1), (TXN_SCOPE_P.PORTS 0, 1)]
/-- The header of an image: anti-rollback index 3, Confirm after 60 s. -/
def anImage : List Byte := imageMagic ++ [1, 0, 6, 0, 128, 0, 0, 0, 0x11, 3, 1, 0, 5, 0, 0, 0, 60, 0] ++ zeros 106
/-- An image write of one sector into slot B in its first step. -/
def aWrite : ImgWrite := { step := 1, toB := true, len := 4096, src := 0 }

/-! ## Ill-formed commands are refused -/

/-- 15 or 16 numbers, and a training set with some of its fields changed. -/
def ints (n : Nat) : List Int := List.replicate n 0

theorem test_ill_formed_refused :
    ([.registerWrite .bar0 (2 ^ 24) 0x0F 0, .registerWrite .bar0 0 256 0, .registerWrite .bar0 0 0x0F (2 ^ 64),
      .unsupportedRequest (.memory false .bar0) (2 ^ 24) ⟨1, 0xF, 0, 0⟩ 0, .unsupportedRequest (.memory false .bar0) 0 ⟨1025, 0xF, 0, 0⟩ 0,
      .unsupportedRequest (.memory true .bar2) 0 ⟨1, 16, 0, 0⟩ 0, .unsupportedRequest (.memory true .bar2) 0 ⟨1, 15, 16, 0⟩ 0,
      .unsupportedRequest (.memory true .bar0) 0 ⟨1, 15, 0, (2 ^ 32)⟩ 0, .unsupportedRequest (.memory false .bar0) 0 ⟨1, 15, 0, 0⟩ (2 ^ 256),
      .unsupportedRequest .config 2 ⟨1, 0xF, 0, 0⟩ 0, .unsupportedRequest .config 4096 ⟨1, 0xF, 0, 0⟩ 0,
      .fencedTileAccess true 2 0, .fencedTileAccess true (2 ^ 24) 0, .fencedTileAccess true 0 (2 ^ 32),
      .tileWakeRequest 0 (.access true 1 0), .tileWakeRequest 0 (.access true 0 (2 ^ 32)),
      .lockRise 0 ⟨ints 15, 0, ints 3, 0, 0, 0⟩, .lockRise 0 ⟨ints 16, 0, ints 2, 0, 0, 0⟩,
      .fomWindowEnd 0 1 1 ⟨ints 15, 0, ints 3, 0, 0, 0⟩,
      .trainingSetReceived 0 { aSet with symbols := zeros 15 }, .trainingSetReceived 0 { aSet with rates := 128 },
      .trainingSetReceived 0 { aSet with nFts := 256 }, .trainingSetReceived 0 { aSet with link := some 256 },
      .trainingSetReceived 0 { aSet with lane := some 32 }, .trainingSetReceived 0 { aSet with width := some 3 },
      .dataStreamEnd 0 ⟨.eds, [.flit (zeros 255)]⟩, .rowLaunch 0 [.flit (zeros 255)], .rowLaunch 0 [.oset (2 ^ 16) (zeros 16)],
      .rowLaunch 0 [.oset 1 (zeros 15)], .skpAdjust 0 (List.replicate 17 0), .marginCommand 0 ⟨.b, .report 10⟩,
      .marginCommand 0 ⟨.b, .step 0 128⟩, .frameReceived 0 (ints 1109), .laneidReceived 0 (zeros 255), .osrelReceived 0 4096 (zeros 256),
      .osrelReceived 0 0 (zeros 255), .pathFrameReceived 0 (zeros 255), .osetReceived 0 (zeros 257)] : List Instr).all
      (fun i => !i.wf) = true := by decide +kernel

theorem test_ill_formed_refused_too :
    ([.trellisProposeReceived 0 (zeros 31), .trellisPreparedReceived 0 (zeros 31), .trellisRefusedReceived 0 (zeros 33),
      .trellisCommitReceived 0 (zeros 31), .trellisCancelReceived 0 (zeros 31), .trellisVoidedReceived 0 (zeros 31),
      .calCaptureEnd 0 { goodStats with occupancy := [] } goodErrs, .calCaptureEnd 0 { goodStats with means := [] } goodErrs,
      .calCaptureEnd 0 goodStats { goodErrs with timing := [] }, .calCaptureEnd 0 goodStats { goodErrs with shifts := [] },
      .calCaptureEnd 0 goodStats { goodErrs with slope := 0 }, .interpolationStep 0 512, .interpolationStep 0 (-513),
      .engPermitWrite 0 (2 ^ 32), .writeSlot 4096, .rwtWrite 1 0, .rwtWrite 0 (2 ^ 32), .bctStage (2 ^ 32),
      .completionReceived 0 .ok (2 ^ 256) (.bytes []), .completionReceived 0 .ok 0 (.entries [zeros 63]),
      .holdEnd (.link 0 1 false), .holdEnd (.link 7 1 false), .holdEnd (.link 1 0 true),
      .shareWrite 0 .rings (2 ^ 32), .visibilityRemove 0 false (2 ^ 32), .ringEnable 0 0 (2 ^ 32), .ringDisable 0 0 (2 ^ 32),
      .cmdDoorbell 0 0 65536, .eventDoorbell 0 0 65536, .timeFrameSend 0 (2 ^ 80), .timeFrameReceived 0 (zeros 255) 0,
      .timSet (2 ^ 32), .aonRatioMeasure (2 ^ 32), .winnowItem 0 .ab .unit false 0 (zeros 255), .winnowItem 0 .ab (.oset 3 1 (zeros 16)) false 0 [],
      .winnowItem 0 .ab (.dllp true (zeros 8)) false 0 (zeros 255), .winnowItem 0 .ab (.tlp false (2 ^ 16) [] []) false 0 [],
      .winnowItem 0 .ab (.flit (2 ^ 24)) false 0 (zeros 256), .winnowItem 0 .ab (.error 256 0 0 0) false 0 [],
      .deepWakeReloadDone true [true] 0 0, .rstDevice 256, .rstPort 64, .rstTile 64, .sbRead (2 ^ 32) 1 .right, .sbRead 0 256 .right,
      .sbWrite (2 ^ 32) 0 .right, .sbWrite 0 (2 ^ 32) .right, .portMirror 256 .right, .managementLinkError (.malformedTlp (2 ^ 256)),
      .managementLinkError (.poisonedWrite (2 ^ 256)), .configurationWrite .maxPayload (2 ^ 32), .configurationWrite (.standard 4096) 0,
      .configurationWrite .bar0 (2 ^ 64)] : List Instr).all
      (fun i => !i.wf) = true := by decide +kernel

theorem test_well_formed_taken :
    ([.registerWrite .bar0 8 0xFF (2 ^ 64 - 1), .unsupportedRequest (.memory true .bar0) 4096 ⟨2, 15, 15, (2 ^ 64 - 1)⟩ 0,
      .unsupportedRequest .config 4092 ⟨1, 0xF, 0, 0⟩ 0, .lockRise 0 aRx, .trainingSetReceived 0 aSet, .rowLaunch 0 [.flit (zeros 256)],
      .dataStreamEnd 0 ⟨.eios, [.oset 1 (zeros 16)]⟩, .calCaptureEnd 0 goodStats goodErrs, .trellisCommitReceived 1 (aMsg 4),
      .laneidReceived 1 (aLaneid 1), .timeFrameReceived 1 (aTime 1 0 0) 0, .winnowItem 0 .ab .unit false 0 (zeros 256), .rstDevice 0x5A,
      .coldReset] : List Instr).all Instr.wf = true := by decide +kernel

/-! ## Worked examples of the spec -/

/-- 02, Table 10: where the entries of Lane Channel 3 stand, and what they say. -/
theorem test_entry_index : bctIndex 6 5 = 2563 ∧ bctIndex 7 8 = 4355 := by decide
theorem test_entry_a_half : let e := 0x99C8A72000000000
    entryValid e = true ∧ entryCtle e 5 = 18 ∧ entrySeed e 5 = 10 ∧ entryLoss e = 28 ∧ entryTrim e = true ∧
      entryPrecode e 5 = false ∧ entryVga e = 48 := by decide
theorem test_entry_b_half : let e := 0xC23866007AD80000
    entryCtle e 8 = 14 ∧ entrySeed e 8 = 6 ∧ entryLoss e = 24 ∧ entryTrim e = false ∧ entryVga e = 40 ∧
      entryCoef false e 8 = { cm2 := 1, cm1 := -6, c0 := 46, cp1 := -10, cp2 := 0 } := by decide
/-- R45: the launch amplitudes of the two entries of 02, Table 10. -/
theorem test_launch_amplitude : launchMv (entrySwing 0x99C8A72000000000) = 1000 ∧ launchMv (entrySwing 0xC23866007AD80000) = 1050 := by decide
/-- 05, after R158: replay slots, flit storage, gearing, and the header and the seed of a frame. -/
theorem test_replay_slots : replaySlots 9 500 8 = 333 ∧ entryUnits 16 5 500 = 298 := by decide
theorem test_gearing : gearOk 9 128 16 5 = true ∧ gearOk 8 128 16 5 = false := by decide
theorem test_frame_header : Header.encode ⟨0x3A7, 1, 4, 0, 0x1F2, false, false, 0x40⟩ = 0x3A712000F9040 := by decide
theorem test_lane_seed : laneSeed 0 4 = 0x12D365 := by decide
/-- 07, the example before Table 4: ADC_OFS[5] at 58.25 °C between its values at P1 and P2. -/
theorem test_interpolation :
    (interpolate (fun i => { valid := i == 1 || i == 2, set := ⟨List.replicate 52 (if i = 1 then 6 else 10)⟩ }) 233).vals.getD 5 0 = 9 := by
  decide +kernel
/-- 02, R43: four taps whose sum is too great are reduced from c+2 on. -/
theorem test_fit_taps : fitTaps 7 (-10) (-7) 3 = { cm2 := 4, cm1 := -10, c0 := 42, cp1 := -7, cp2 := 0 } := by decide
/-- 02, R62: 4 × 10 × log10 of 100, and no noise at all. -/
theorem test_fom : fomOf 100 1 = 80 ∧ fomOf 5 0 = 255 := by decide +kernel
/-- No row of the table gives bits, so that no word spells a command. -/
theorem test_no_words : Sys2Proof.decodeTableWord 32 0 = none ∧ State.reset.withFetchWord 32 0 = State.reset := ⟨rfl, rfl⟩
/-- From reset: a flash that does not answer leaves the device in recovery mode (R262). -/
theorem test_boot_from_reset :
    (match step { State.reset with pending := [.boot false] } with | .next t => t.rd IMG_STATUS.RECOVERY | _ => 9) = 1 := by decide +kernel

/-! ## What each clause asks for can be met -/
theorem witness_StepRunsTheFrontCommand_1 :
    ∃ (s : State) (c : Instr) (rest : List Instr), s.pending = c :: rest :=
  ⟨{ aClocked with pending := [.supplyRecovered, .abandoned] }, .supplyRecovered, [.abandoned], by decide +kernel⟩
theorem witness_EmptyQueueLetsTimePass_1 :
    ∃ (s : State), s.pending = [] :=
  ⟨aClocked, by decide +kernel⟩
theorem witness_EmptyQueueLetsTimePass_3 :
    ∃ (s : State) (d k : Nat), (s.timeRuns = true) ∧ (k < 8) ∧ (s.rd (GLB_TILE_STATUS.LT k) = 2) ∧ ((s.elapsed + d) %
    tclk = 0) :=
  ⟨aClocked.wr (GLB_TILE_STATUS.LT 3) 2, 10 * nsUnit, 3, by decide +kernel⟩
theorem witness_StepKeepsTablesCanonical_1 :
    ∃ (s t : State), (s.wf) ∧ (step s = .next t) :=
  ⟨{ State.reset with pending := [.supplyRecovered] }, State.reset, ⟨by constructor <;> first | exact List.Pairwise.nil | exact ⟨List.Pairwise.nil, fun _ h => absurd h List.not_mem_nil⟩ | exact ⟨List.Pairwise.nil, List.Pairwise.nil, List.Pairwise.nil, fun _ h => absurd h List.not_mem_nil, fun _ h => absurd h List.not_mem_nil⟩ | exact ⟨List.Pairwise.nil, List.Pairwise.nil⟩ | exact ⟨⟨List.Pairwise.nil, fun _ h => absurd h List.not_mem_nil⟩, List.Pairwise.nil, List.Pairwise.nil⟩ | rfl | trivial, rfl⟩⟩
theorem witness_CommandsTakeNothingBack_1 :
    ∃ (c : Instr) (s t : State), exec c s = .next t :=
  ⟨.supplyRecovered, State.reset, State.reset, rfl⟩
theorem witness_CommandsKeepTheRest_1 :
    ∃ (c : Instr) (s t : State), exec c s = .next t :=
  ⟨.supplyRecovered, State.reset, State.reset, rfl⟩
theorem witness_RegisterFieldsAreApart_1 :
    ∃ (x : Nat) (f : Field), f ∈ fieldsAt x :=
  ⟨TXN_SCOPE_G.off, ⟨TXN_SCOPE_G.TRACE, .rw, .any⟩, by decide +kernel⟩
theorem witness_RegisterFieldsAreApart_3 :
    ∃ (s : State) (x w : Nat) (f : Field), (f ∈ fieldsAt x) ∧ (f.acc = .rw ∨ f.acc = .rws) :=
  ⟨aClocked, TXN_SCOPE_G.off, 0xFFFFFFFF, ⟨TXN_SCOPE_G.TRACE, .rw, .any⟩, by decide +kernel⟩
theorem witness_RegisterFieldsAreApart_4 :
    ∃ (s : State) (x w : Nat) (f : Field), (f ∈ fieldsAt x) ∧ (f.acc = .rw1c ∨ f.acc = .rw1cs) :=
  ⟨aClocked.wr RST_STATUS.THERMTRIP_SEEN 1, RST_STATUS.off, 0x08000000, ⟨RST_STATUS.THERMTRIP_SEEN, .rw1c, .any⟩, by decide +kernel⟩
theorem witness_RegisterFieldsAreApart_5 :
    ∃ (s : State) (x w : Nat) (f : Field), (f ∈ fieldsAt x) ∧ (f.acc ≠ .rw ∧ f.acc ≠ .rws ∧ f.acc ≠ .rw1c ∧ f.acc ≠
    .rw1cs) :=
  ⟨aClocked, RST_STATUS.off, 0xFFFFFFFF, ⟨RST_STATUS.REASON, .ro, .any⟩, by decide +kernel⟩
theorem witness_RegisterFieldsAreApart_6 :
    ∃ (s : State) (x w : Nat) (c : Cell), (c.off ≠ x) ∧ (c.lo < 32) :=
  ⟨aClocked, RST_STATUS.off, 0xFFFFFFFF, SB_CTRL.ALERT_EN, by decide +kernel⟩
theorem witness_RegisterFieldsAreApart_7 :
    ∃ (s t : State) (x : Nat) (f : Field), (s.wf) ∧ (f ∈ fieldsAt x) ∧ (step s = .next t) :=
  ⟨{ State.reset with pending := [.supplyRecovered] }, State.reset, TXN_SCOPE_G.off, ⟨TXN_SCOPE_G.TRACE, .rw, .any⟩, ⟨by constructor <;> first | exact List.Pairwise.nil | exact ⟨List.Pairwise.nil, fun _ h => absurd h List.not_mem_nil⟩ | exact ⟨List.Pairwise.nil, List.Pairwise.nil, List.Pairwise.nil, fun _ h => absurd h List.not_mem_nil, fun _ h => absurd h List.not_mem_nil⟩ | exact ⟨List.Pairwise.nil, List.Pairwise.nil⟩ | exact ⟨⟨List.Pairwise.nil, fun _ h => absurd h List.not_mem_nil⟩, List.Pairwise.nil, List.Pairwise.nil⟩ | rfl | trivial, by decide +kernel, rfl⟩⟩
theorem witness_LineCodeRoundTrips_2 :
    ∃ (bs : List Bool), bs.length % 2 = 0 :=
  ⟨[true, false, true, true, false, false, false, true], by decide +kernel⟩
theorem witness_LineCodeRoundTrips_3 :
    ∃ (r : Run) (ls : List Int), r.len < 12 :=
  ⟨⟨3, 11⟩, List.replicate 30 3, by decide +kernel⟩
theorem witness_LineCodeRoundTrips_3b :
    ∃ (r : Run) (ls : List Int), r.len < 12 :=
  ⟨⟨0, 0⟩, List.replicate 13 (-1) ++ [1, 3], by decide +kernel⟩
theorem witness_LineCodeRoundTrips_4 :
    ∃ (r : Run) (ls : List Int), r.len < 12 :=
  ⟨⟨3, 11⟩, List.replicate 30 3, by decide +kernel⟩
theorem witness_LineCodeRoundTrips_5 :
    ∃ (r : Run) (ls : List Int) (n : Nat), r.len < 12 :=
  ⟨⟨3, 11⟩, List.replicate 30 3, 14, by decide +kernel⟩
theorem witness_LineCodeRoundTrips_6 :
    ∃ (h : Header), (h.row < 4096) ∧ (h.type < 16) ∧ (h.lane < 32) ∧ (h.epoch < 256) ∧ (h.ack < 4096) ∧ (h.credit <
    256) :=
  ⟨⟨4095, 15, 31, 255, 4095, true, false, 255⟩, by decide +kernel⟩
theorem witness_LineCodeRoundTrips_6b :
    ∃ (h : Header), (h.row < 4096) ∧ (h.type < 16) ∧ (h.lane < 32) ∧ (h.epoch < 256) ∧ (h.ack < 4096) ∧ (h.credit <
    256) :=
  ⟨⟨0, 0, 0, 0, 0, false, true, 0⟩, by decide +kernel⟩
theorem witness_LineCodeRoundTrips_7 :
    ∃ (h : Header) (payload : List Byte) (seed : Nat), (Header.decode h.encode = h) ∧ (payload.length = 256) :=
  ⟨⟨4095, 15, 31, 255, 4095, true, false, 255⟩, zeros 256, 0x1234567, by decide +kernel⟩
theorem witness_MainCoefficientIsDerived_1 :
    ∃ (s t : State) (h : Nat), (∀ k, (s.half k).txCoef.derived) ∧ (step s = .next t) :=
  ⟨{ State.reset with pending := [.supplyRecovered] }, State.reset, 0, ⟨fun _ => (by decide : ({} : TxCoef).derived), rfl⟩⟩
theorem witness_MainCoefficientIsDerived_4 :
    ∃ (a b c d : Int), (|a| ≤ 7 ∧ |b| ≤ 21 ∧ |c| ≤ 21 ∧ |d| ≤ 7) ∧ (|a| + |b| + |c| + |d| ≤ 21) :=
  ⟨2, -9, -4, 1, by decide +kernel⟩
theorem witness_MainCoefficientIsDerived_5 :
    ∃ (a b c d e : Int), (|a| ≤ 7 ∧ |b| ≤ 21 ∧ |c| ≤ 21 ∧ |d| ≤ 7) ∧ (|a| + |b| + |c| + |d| = 21 + e) ∧ (0 ≤ e) :=
  ⟨7, -10, -7, 3, 6, by decide +kernel⟩
theorem witness_MainCoefficientIsDerived_5b :
    ∃ (a b c d e : Int), (|a| ≤ 7 ∧ |b| ≤ 21 ∧ |c| ≤ 21 ∧ |d| ≤ 7) ∧ (|a| + |b| + |c| + |d| = 21 + e) ∧ (0 ≤ e) :=
  ⟨-7, 21, 21, 7, 35, by decide +kernel⟩
theorem witness_AbandonedTransactionRollsBack_1 :
    ∃ (s : State), s.txnState = xOPEN :=
  ⟨anOpen, by decide +kernel⟩
theorem witness_AbandonedTransactionRollsBack_2 :
    ∃ (s : State), s.txnState ≠ xOPEN :=
  ⟨aClocked, by decide +kernel⟩
theorem witness_AbandonedTransactionRollsBack_3 :
    ∃ (s : State) (p : PortId) (v : Nat), (s.hosted = true) ∧ (s.txnState = xOPEN) ∧ (s.inScope p = true) :=
  ⟨anOpen, 0, 0x83000204, by decide +kernel⟩
theorem witness_AbandonedTransactionRollsBack_4 :
    ∃ (s : State) (data : Nat), (s.mgmtUp = true) ∧ (s.mgmt.d3hot = false) ∧ (s.bit IMG_STATUS.RECOVERY = false) :=
  ⟨anOpen, 0, by decide +kernel⟩
theorem witness_RegisterWritesStoreFields_1 :
    ∃ (s : State) (data : Nat), (s.mgmtUp = true) ∧ (s.mgmt.d3hot = false) ∧ (s.bit IMG_STATUS.RECOVERY = false) :=
  ⟨aClocked, 0x12345678, by decide +kernel⟩
theorem witness_RegisterWritesStoreFields_2 :
    ∃ (s : State) (data : Nat), (s.mgmtUp = true) ∧ (s.mgmt.d3hot = false) ∧ (s.bit IMG_STATUS.RECOVERY = false) ∧
    (s.rd ERR_DP_STATUS.CODES < 2 ^ 18) :=
  ⟨aClocked.wr ERR_DP_STATUS.CODES 0x3F, 0x1E, by decide +kernel⟩
theorem witness_RegisterWritesStoreFields_3 :
    ∃ (s : State) (data : Nat), (s.mgmtUp = true) ∧ (s.mgmt.d3hot = false) :=
  ⟨aClocked, 0x1E, by decide +kernel⟩
theorem witness_RegisterWritesStoreFields_4 :
    ∃ (s : State) (bar : Bar) (addr data : Nat), (s.mgmtUp = true) ∧ (s.mgmt.d3hot = false) ∧ (bar = .bar2 ∨ addr %
    bar2Base < 0xF00000) :=
  ⟨aClocked, .bar0, 0x7000, 9, by decide +kernel⟩
theorem witness_RegisterWritesStoreFields_5 :
    ∃ (s : State) (data : Nat) (n : Fin 256), (s.mgmtUp = true) ∧ (s.mgmt.d3hot = false) ∧ (s.bit IMG_STATUS.RECOVERY
    = false) ∧ (s.powerState ≠ 1) ∧ (s.resetsHeld = false) ∧ (s.tileState (n.val / 32) = 0) :=
  ⟨aParked, 2, 40, by decide +kernel⟩
theorem witness_RegisterWritesStoreFields_6 :
    ∃ (s : State) (x t' v : Nat), (s.hosted = true) ∧ (s.holder x = some t') ∧ (s.tileState t' = 4) :=
  ⟨aClocked.wr (GLB_TILE_STATUS.LT 0) 4, 0x200014, 0, 0, by decide +kernel⟩
theorem witness_RegisterWritesStoreFields_7 :
    ∃ (s : State) (x t' v : Nat), (s.hosted = true) ∧ (s.holder x = some t') ∧ (s.tileState t' = 4) ∧ (keptReg x =
    false) :=
  ⟨aClocked.wr (GLB_TILE_STATUS.LT 0) 4, 0x200014, 0, 5, by decide +kernel⟩
theorem witness_RegisterWritesStoreFields_8 :
    ∃ (s : State) (i : TileId) (x : Nat), (s.tileState i = 2) ∧ ((s.tile i).accesses = [⟨false, x, 0⟩]) ∧ (s.rings =
    {}) :=
  ⟨aLive.upT 0 (fun y => { y with accesses := [⟨false, 0x200014, 0⟩] }), 0, 0x200014, by decide +kernel⟩
theorem witness_ReceiversDetectLockAndAdapt_1 :
    ∃ (s : State) (h : HalfId) (q : Nat), (s.claim h = some q) ∧ (s.live h = true) ∧ (s.bit (LCH_FOM.SIGDET h) =
    false) :=
  ⟨aPort, 0, 0, by decide +kernel⟩
theorem witness_ReceiversDetectLockAndAdapt_2 :
    ∃ (s : State) (h : HalfId) (q : Nat), (s.bit (LCH_FOM.SIGDET h) = true) ∧ (s.claim h = some q) ∧ (s.trn (q / 2) ≠
    tLOOPBACK) :=
  ⟨setAll aPort [(LCH_FOM.SIGDET 0, 1), (LCH_FOM.LOCK 0, 1), (LCH_FOM.ADAPT_STATE 0, 4), (LCH_DP_STATUS.ALIGN_STATE 0, 3)], 0, 0, by decide +kernel⟩
theorem witness_ReceiversDetectLockAndAdapt_3 :
    ∃ (s : State) (h : HalfId) (rx : RxCoef), (s.live h = true) ∧ (s.bit (LCH_FOM.SIGDET h) = true) ∧ (s.bit
    (LCH_FOM.LOCK h) = false) ∧ (s.rd (LCH_FOM.ADAPT_STATE h) = 1) ∧ (s.engineUp h = true) :=
  ⟨setAll aPort [(LCH_FOM.SIGDET 0, 1), (LCH_FOM.ADAPT_STATE 0, 1), (LCH_EQ_CTRL.FREEZE 0, 1)], 0, aRx, by decide +kernel⟩
theorem witness_ReceiversDetectLockAndAdapt_4 :
    ∃ (s : State) (h : HalfId), s.bit (LCH_FOM.LOCK h) = true :=
  ⟨setAll aPort [(LCH_FOM.SIGDET 0, 1), (LCH_FOM.LOCK 0, 1), (LCH_DP_STATUS.ALIGN_STATE 0, 3)], 0, by decide +kernel⟩
theorem witness_ReceiversDetectLockAndAdapt_5 :
    ∃ (s : State) (h : HalfId) (q : Nat), (s.claim h = some q) ∧ (s.isSeg q = false) ∧ (s.live h = true) ∧ (s.rd
    (LCH_FOM.ADAPT_STATE h) = 0) ∧ ((s.half h).wantRx = true) ∧ (s.bit (LCH_FOM.SIGDET h) = true) ∧ (s.engineUp h =
    true) ∧ ((s.half h).conv = none) :=
  ⟨(setAll aPort [(LCH_FOM.SIGDET 0, 1)]).upH 0 (fun x => { x with wantRx := true }), 0, 0, by decide +kernel⟩
theorem witness_ReceiversDetectLockAndAdapt_6 :
    ∃ (s : State) (h : HalfId), (s.rd (LCH_FOM.ADAPT_STATE h) = 1) ∧ (s.engineUp h = true) :=
  ⟨aPort.wr (LCH_FOM.ADAPT_STATE 0) 1, 0, by decide +kernel⟩
theorem witness_ReceiversDetectLockAndAdapt_7 :
    ∃ (s : State) (h : HalfId), (s.rd (LCH_FOM.ADAPT_STATE h) = 2) ∧ (s.engineUp h = false) :=
  ⟨(aPort.wr (LCH_FOM.ADAPT_STATE 0) 2).wr (ENG_STATUS.STATE 0) 2, 0, by decide +kernel⟩
theorem witness_ConvergeTimeoutLeavesConverge_1 :
    ∃ (s : State) (h : HalfId), (s.rd (LCH_FOM.ADAPT_STATE h) = 2) ∧ ((s.bit (LCH_FOM.FOM_VALID h) && decide
    (s.fomTarget h ≤ s.rd (LCH_FOM.FOM h))) = false) ∧ (s.engineUp h = true) :=
  ⟨aPort.wr (LCH_FOM.ADAPT_STATE 0) 2, 0, by decide +kernel⟩
theorem witness_WindowsPublishTheFigureOfMerit_1 :
    ∃ (s : State) (h : HalfId) (q pwr noise : Nat) (rx : RxCoef), (s.claim h = some q) ∧ (s.isSeg q = false) ∧ (s.live
    h = true) ∧ (s.rd (LCH_FOM.ADAPT_STATE h) = 2) ∧ (s.engineUp h = true) ∧ ((s.half h).held = false) ∧ ((s.half
    h).discard = false) :=
  ⟨aPort.wr (LCH_FOM.ADAPT_STATE 0) 2, 0, 0, 100, 1, aRx, by decide +kernel⟩
theorem witness_WindowsPublishTheFigureOfMerit_2 :
    ∃ (s : State) (h : HalfId) (pwr noise : Nat) (rx : RxCoef), (s.live h = true) ∧ (s.rd (LCH_FOM.ADAPT_STATE h) = 4)
    ∧ (s.engineUp h = true) ∧ ((s.half h).held = false) ∧ ((s.half h).discard = true) :=
  ⟨(aPort.wr (LCH_FOM.ADAPT_STATE 0) 4).upH 0 (fun x => { x with discard := true }), 0, 100, 1, aRx, by decide +kernel⟩
theorem witness_WindowsPublishTheFigureOfMerit_3 :
    ∃ (s : State) (h : HalfId) (v : Bool), (s.hosted = true) ∧ (s.tileState (tileOfHalf h) = 2) ∧ ((s.tile (tileOfHalf
    h)).accesses = []) :=
  ⟨aPort, 0, true, by decide +kernel⟩
theorem witness_WindowsPublishTheFigureOfMerit_4 :
    ∃ (s : State) (h : HalfId), (s.hosted = true) ∧ (s.tileState (tileOfHalf h) = 2) ∧ ((s.tile (tileOfHalf
    h)).accesses = []) :=
  ⟨aPort.wr (LCH_FOM.FOM_MIN 3) 7, 3, by decide +kernel⟩
theorem witness_AlignmentFollowsTheStream_1 :
    ∃ (s : State) (h : HalfId) (q skew : Nat), (s.claim h = some q) ∧ (s.isSeg q = false) ∧ (s.bit (LCH_FOM.LOCK h) =
    true) ∧ (s.rd (LCH_DP_STATUS.ALIGN_STATE h) = 1) :=
  ⟨aLive.wr (LCH_DP_STATUS.ALIGN_STATE 0) 1, 0, 0, 3, by decide +kernel⟩
theorem witness_AlignmentFollowsTheStream_1b :
    ∃ (s : State) (h : HalfId) (q skew : Nat), (s.claim h = some q) ∧ (s.isSeg q = false) ∧ (s.bit (LCH_FOM.LOCK h) =
    true) ∧ (s.rd (LCH_DP_STATUS.ALIGN_STATE h) = 1) :=
  ⟨aGear.wr (LCH_DP_STATUS.ALIGN_STATE 0) 1, 0, 0, 3, by decide +kernel⟩
theorem witness_AlignmentFollowsTheStream_2 :
    ∃ (s : State) (h : HalfId) (q : Nat), (s.claim h = some q) ∧ (s.isSeg q = false) ∧ (2 ≤ s.rd
    (LCH_DP_STATUS.ALIGN_STATE h)) :=
  ⟨aLive.wr (LCH_DP_STATUS.ALIGN_STATE 0) 3, 0, 0, by decide +kernel⟩
theorem witness_AlignmentFollowsTheStream_3 :
    ∃ (s : State) (h : HalfId) (q : Nat), (s.claim h = some q) ∧ (s.isSeg q = false) ∧ (s.rd
    (LCH_DP_STATUS.ALIGN_STATE h) = 2) :=
  ⟨aLive.wr (LCH_DP_STATUS.ALIGN_STATE 0) 2, 0, 0, by decide +kernel⟩
theorem witness_AlignmentFollowsTheStream_3b :
    ∃ (s : State) (h : HalfId) (q : Nat), (s.claim h = some q) ∧ (s.isSeg q = false) ∧ (s.rd
    (LCH_DP_STATUS.ALIGN_STATE h) = 2) :=
  ⟨(aGear.wr (LCH_DP_STATUS.ALIGN_STATE 0) 2).wr (PRT_TRN_STATUS.NONFLIT_COUNT 0) 3, 0, 0, by decide +kernel⟩
theorem witness_AlignmentFollowsTheStream_4 :
    ∃ (s : State) (h : HalfId) (q : Nat) (flit : Bool), (s.claim h = some q) ∧ (s.isTT (q / 2) = true) ∧ (s.rd
    (LCH_DP_STATUS.ALIGN_STATE h) = 2) ∧ (s.trn (q / 2) = tFORWARD) ∧ (s.logical h < s.negWidth q) ∧ ((if q % 2 = 0
    then (s.portx (q / 2)).streamB else (s.portx (q / 2)).streamA) = true) :=
  ⟨(setAll aLive [(LCH_DP_STATUS.ALIGN_STATE 0, 2), (PRT_TRN_STATUS.STATE 0, 2)]).upP 0 (fun x => { x with streamB := true }), 0, 0, true, by decide +kernel⟩
theorem witness_AlignmentFollowsTheStream_4b :
    ∃ (s : State) (h : HalfId) (q : Nat) (flit : Bool), (s.claim h = some q) ∧ (s.isTT (q / 2) = true) ∧ (s.rd
    (LCH_DP_STATUS.ALIGN_STATE h) = 2) ∧ (s.trn (q / 2) = tFORWARD) ∧ (s.logical h < s.negWidth q) ∧ ((if q % 2 = 0
    then (s.portx (q / 2)).streamB else (s.portx (q / 2)).streamA) = true) :=
  ⟨(setAll aLive [(LCH_DP_STATUS.ALIGN_STATE 1, 2), (PRT_TRN_STATUS.STATE 0, 2)]).upP 0 (fun x => { x with streamA := true }), 1, 1, false, by decide +kernel⟩
theorem witness_AlignmentFollowsTheStream_5 :
    ∃ (s : State) (h : HalfId) (q : Nat), (s.claim h = some q) ∧ (s.isSeg q = false) ∧ (s.isGeared (q / 2) = true) ∧
    (s.rd (LCH_DP_STATUS.ALIGN_STATE h) = 2) ∧ (s.trn (q / 2) = tFORWARD) ∧ ((s.portx (q / 2)).nonflitHold = false) :=
  ⟨setAll aGear [(LCH_DP_STATUS.ALIGN_STATE 0, 2), (PRT_TRN_STATUS.STATE 0, 2)], 0, 0, by decide +kernel⟩
theorem witness_AlignmentFollowsTheStream_5b :
    ∃ (s : State) (h : HalfId) (q : Nat), (s.claim h = some q) ∧ (s.isSeg q = false) ∧ (s.isGeared (q / 2) = true) ∧
    (s.rd (LCH_DP_STATUS.ALIGN_STATE h) = 2) ∧ (s.trn (q / 2) = tFORWARD) ∧ ((s.portx (q / 2)).nonflitHold = false) :=
  ⟨setAll aGear [(LCH_DP_STATUS.ALIGN_STATE 0, 2), (PRT_TRN_STATUS.STATE 0, 2), (PRT_TRN_STATUS.NONFLIT_COUNT 0, 15)], 0, 0, by decide +kernel⟩
theorem witness_AlignmentFollowsTheStream_6 :
    ∃ (s : State) (h : HalfId) (q : Nat) (before : List StreamItem), (s.claim h = some q) ∧ (s.isSeg q = false) ∧
    (s.rd (LCH_DP_STATUS.ALIGN_STATE h) = 3) :=
  ⟨aLive.wr (LCH_DP_STATUS.ALIGN_STATE 0) 3, 0, 0, [], by decide +kernel⟩
theorem witness_AlignmentFollowsTheStream_7 :
    ∃ (s : State) (h : HalfId) (q : Nat) (before : List StreamItem), (s.claim h = some q) ∧ (s.isSeg q = false) ∧
    (s.rd (LCH_DP_STATUS.ALIGN_STATE h) = 3) :=
  ⟨aLive.wr (LCH_DP_STATUS.ALIGN_STATE 0) 3, 0, 0, [], by decide +kernel⟩
theorem witness_AlignmentFollowsTheStream_7b :
    ∃ (s : State) (h : HalfId) (q : Nat) (before : List StreamItem), (s.claim h = some q) ∧ (s.isSeg q = false) ∧
    (s.rd (LCH_DP_STATUS.ALIGN_STATE h) = 3) :=
  ⟨aGear.wr (LCH_DP_STATUS.ALIGN_STATE 0) 3, 0, 0, [], by decide +kernel⟩
theorem witness_AlignmentFollowsTheStream_8 :
    ∃ (s : State) (h : HalfId) (q : Nat) (before : List StreamItem), (s.claim h = some q) ∧ (s.isSeg q = false) ∧
    (s.rd (LCH_DP_STATUS.ALIGN_STATE h) = 3) ∧ (s.trn (q / 2) = tACTIVE) :=
  ⟨aLive.wr (LCH_DP_STATUS.ALIGN_STATE 0) 3, 0, 0, [], by decide +kernel⟩
theorem witness_AlignmentFollowsTheStream_8b :
    ∃ (s : State) (h : HalfId) (q : Nat) (before : List StreamItem), (s.claim h = some q) ∧ (s.isSeg q = false) ∧
    (s.rd (LCH_DP_STATUS.ALIGN_STATE h) = 3) ∧ (s.trn (q / 2) = tACTIVE) :=
  ⟨aGear.wr (LCH_DP_STATUS.ALIGN_STATE 0) 3, 0, 0, [], by decide +kernel⟩
theorem witness_BuffersSkpAndDeskew_1 :
    ∃ (s : State) (p : PortId), s.tileOn p = true :=
  ⟨aGear.upP 0 (fun x => { x with nonflitHold := true }), 0, by decide +kernel⟩
theorem witness_BuffersSkpAndDeskew_2 :
    ∃ (s : State) (q : SideId) (h fill : Nat), (s.enabled (q / 2) = true) ∧ (s.isTT (q / 2) = true) ∧ (s.trn (q / 2) =
    tACTIVE) ∧ (s.negHalves q = [h]) ∧ (s.logical h = 0) ∧ (fill ≤ maxFill (s.rd (PRT_DP_STATUS.SLOT_NOW q))) :=
  ⟨aLive.wr (PRT_DP_STATUS.SLOT_NOW 1) 0, 1, 1, 79, by decide +kernel⟩
theorem witness_BuffersSkpAndDeskew_3 :
    ∃ (s : State) (q : SideId) (h fill : Nat), (s.enabled (q / 2) = true) ∧ (s.isGeared (q / 2) = true) ∧ (s.isSeg q =
    false) ∧ (h ∈ s.negHalves q) ∧ ((s.half h).tx = .forward) ∧ (fill ≤ maxFill (s.rd (PRT_DP_STATUS.SLOT_NOW q))) :=
  ⟨(aGear.wr (PRT_DP_STATUS.SLOT_NOW 0) 4).upH 0 (fun x => { x with tx := .forward }), 0, 0, 3, by decide +kernel⟩
theorem witness_BuffersSkpAndDeskew_4 :
    ∃ (s : State) (h : HalfId) (q : Nat), (s.claim h = some q) ∧ (s.isSeg q = false) ∧ (s.tileOn (q / 2) = true) :=
  ⟨aLive, 1, 1, by decide +kernel⟩
theorem witness_BuffersSkpAndDeskew_5 :
    ∃ (s : State) (q : SideId), (s.enabled (q / 2) = true) ∧ (s.isTT (q / 2) = false) ∧ (s.tileOn (q / 2) = true) :=
  ⟨aGear, 1, by decide +kernel⟩
theorem witness_TrainingSetsMoveThePort_1 :
    ∃ (s : State) (h : HalfId) (q : Nat) (ts : TrainingSet), (s.claim h = some q) ∧ (s.isSeg q = false) ∧ (2 ≤ s.rd
    (LCH_DP_STATUS.ALIGN_STATE h)) ∧ (s.trn (q / 2) = tFORWARD) ∧ (ts.ts2 = false) ∧ (ts.hotReset = true) :=
  ⟨setAll aLive [(LCH_DP_STATUS.ALIGN_STATE 0, 2), (PRT_TRN_STATUS.STATE 0, 2)], 0, 0, { aSet with hotReset := true }, by decide +kernel⟩
theorem witness_TrainingSetsMoveThePort_1b :
    ∃ (s : State) (h : HalfId) (q : Nat) (ts : TrainingSet), (s.claim h = some q) ∧ (s.isSeg q = false) ∧ (2 ≤ s.rd
    (LCH_DP_STATUS.ALIGN_STATE h)) ∧ (s.trn (q / 2) = tFORWARD) ∧ (ts.ts2 = false) ∧ (ts.hotReset = true) :=
  ⟨setAll aGear [(LCH_DP_STATUS.ALIGN_STATE 0, 2), (PRT_TRN_STATUS.STATE 0, 2)], 0, 0, { aSet with hotReset := true, request := some (.preset 3), width := some 1, lane := some 0 }, by decide +kernel⟩
theorem witness_TrainingSetsMoveThePort_2 :
    ∃ (s : State) (h : HalfId) (q : Nat) (ts : TrainingSet), (s.claim h = some q) ∧ (s.isSeg q = false) ∧ (2 ≤ s.rd
    (LCH_DP_STATUS.ALIGN_STATE h)) ∧ (s.trn (q / 2) = tFORWARD) ∧ (ts.ts2 = false) ∧ (ts.hotReset = false) ∧
    (ts.disable = true) :=
  ⟨setAll aLive [(LCH_DP_STATUS.ALIGN_STATE 0, 2), (PRT_TRN_STATUS.STATE 0, 2)], 0, 0, { aSet with disable := true }, by decide +kernel⟩
theorem witness_TrainingSetsMoveThePort_3 :
    ∃ (s : State) (h : HalfId) (q a : Nat) (ts : TrainingSet), (s.claim h = some q) ∧ (s.isTT (q / 2) = true) ∧ (2 ≤
    s.rd (LCH_DP_STATUS.ALIGN_STATE h)) ∧ (s.trn (q / 2) = tFORWARD) ∧ (ts.ts2 = true) ∧ (ts.substate =
    .recoveryRcvrCfg) ∧ (ts.width = none) ∧ (s.across h = some a) ∧ ((s.half a).tx = .forward) :=
  ⟨(setAll aLive [(LCH_DP_STATUS.ALIGN_STATE 0, 2), (PRT_TRN_STATUS.STATE 0, 2)]).upH 1 (fun x => { x with tx := .forward }), 0, 0, 1, { aSet with ts2 := true, substate := .recoveryRcvrCfg, link := some 3, lane := some 0, shb := true }, by decide +kernel⟩
theorem witness_TrainingSetsMoveThePort_4 :
    ∃ (s : State) (h : HalfId) (ev : Eval) (c : Nat), ((s.half h).eval = some ev) ∧ (ev.cur = some c) ∧ (ev.acked =
    false) ∧ (ev.done = false) :=
  ⟨aLive.upH 0 (fun x => { x with eval := some ⟨[], some 5, false, 0, 0, false⟩ }), 0, ⟨[], some 5, false, 0, 0, false⟩, 5, by decide +kernel⟩
theorem witness_TrainingEndsInDetect_1 :
    ∃ (s : State) (p : PortId) (h : Nat), (s.trn p = tHOTRESET) ∧ (h ∈ s.stdHalves p) :=
  ⟨aLive.wr (PRT_TRN_STATUS.STATE 0) 6, 0, 1, by decide +kernel⟩
theorem witness_TrainingEndsInDetect_1b :
    ∃ (s : State) (p : PortId) (h : Nat), (s.trn p = tHOTRESET) ∧ (h ∈ s.stdHalves p) :=
  ⟨aGear.wr (PRT_TRN_STATUS.STATE 0) 6, 0, 0, by decide +kernel⟩
theorem witness_TrainingEndsInDetect_2 :
    ∃ (s : State) (g : HalfId) (q h : Nat), (s.claim g = some q) ∧ (s.isSeg q = false) ∧ (s.trn (q / 2) = tDISABLED) ∧
    (s.bit (LCH_FOM.SIGDET g) = true) ∧ (h ∈ s.stdHalves (q / 2)) :=
  ⟨aLive.wr (PRT_TRN_STATUS.STATE 0) 7, 1, 1, 0, by decide +kernel⟩
theorem witness_TrainingEndsInDetect_3 :
    ∃ (s : State) (q : SideId) (h : Nat), (s.enabled (q / 2) = true) ∧ (s.isSeg q = false) ∧ (s.trn (q / 2) = tFORWARD
    ∨ s.trn (q / 2) = tEQ ∨ s.trn (q / 2) = tACTIVE ∨ s.trn (q / 2) = tLOOPBACK) ∧ ((∀ g ∈ s.negHalves q, s.bit
    (LCH_FOM.SIGDET g) = false ∧ (s.half g).eios = false)) ∧ (h ∈ s.stdHalves (q / 2)) :=
  ⟨aLive.wr (LCH_FOM.SIGDET 1) 0, 1, 0, by decide +kernel⟩
theorem witness_TrainingEndsInDetect_4 :
    ∃ (s : State) (p : PortId) (h : Nat), (s.trn p = tFORWARD ∨ s.trn p = tEQ ∨ s.trn p = tLOWPOWER) ∧ (h ∈
    s.stdHalves p) :=
  ⟨aLive.wr (PRT_TRN_STATUS.STATE 0) 3, 0, 0, by decide +kernel⟩
theorem witness_TrainingEndsInDetect_5 :
    ∃ (s : State) (p : PortId) (h : Nat), (s.hosted = true) ∧ (s.powerState ≠ 1) ∧ (s.enabled p = true) ∧ (s.tileState
    (s.tileOf p) = 2) ∧ ((s.tile (s.tileOf p)).accesses = []) ∧ (s.trn p = tHOLD) ∧ (h ∈ s.stdHalves p) :=
  ⟨aLive.wr (PRT_TRN_STATUS.STATE 0) 9, 0, 0, by decide +kernel⟩
theorem witness_DetectionRateChangeAndMargining_1 :
    ∃ (s : State) (q : SideId) (found : List HalfId) (h : Nat), (s.trn (q / 2) = tDETECT) ∧ (s.isSeg q = false) ∧ (h ∈
    s.dataHalves q) :=
  ⟨aLive.wr (PRT_TRN_STATUS.STATE 0) 1, 0, [0], 0, by decide +kernel⟩
theorem witness_DetectionRateChangeAndMargining_1b :
    ∃ (s : State) (q : SideId) (found : List HalfId) (h : Nat), (s.trn (q / 2) = tDETECT) ∧ (s.isSeg q = false) ∧ (h ∈
    s.dataHalves q) :=
  ⟨aGear.wr (PRT_TRN_STATUS.STATE 0) 1, 0, [0], 0, by decide +kernel⟩
theorem witness_DetectionRateChangeAndMargining_2 :
    ∃ (s : State) (h : HalfId) (q : Nat), (s.claim h = some q) ∧ (s.isSeg q = false) ∧ (s.bit (LCH_FOM.SIGDET h) =
    true) ∧ (s.kept (q / 2) = false) ∧ (s.trn (q / 2) = tDETECT) ∧ (s.bothPresent (q / 2) = true) :=
  ⟨((aLive.wr (PRT_TRN_STATUS.STATE 0) 1).upH 0 (fun x => { x with found := true })).upH 1 (fun x => { x with found := true }), 0, 0, by decide +kernel⟩
theorem witness_DetectionRateChangeAndMargining_3 :
    ∃ (s : State) (h : HalfId) (q a : Nat), (s.claim h = some q) ∧ (s.isTT (q / 2) = true) ∧ (s.bit (LCH_FOM.SIGDET h)
    = true) ∧ (s.kept (q / 2) = false) ∧ (s.trn (q / 2) = tFORWARD) ∧ (s.across h = some a) ∧ ((s.half a).tx = .idle)
    ∧ (s.txStopped a = false) ∧ (s.logical h < s.negWidth q) ∧ (s.l0pIdle h = false) :=
  ⟨aLive.wr (PRT_TRN_STATUS.STATE 0) 2, 0, 0, 1, by decide +kernel⟩
theorem witness_DetectionRateChangeAndMargining_4 :
    ∃ (s : State) (p : PortId) (slot : Fin 7) (q h : Nat), (s.trn p = tFORWARD) ∧ (q ∈ s.stdSides p) ∧ (s.rd
    (PRT_DP_STATUS.SLOT_NOW q) ≠ slot) ∧ (h ∈ s.dataHalves q) :=
  ⟨setAll aLive [(PRT_TRN_STATUS.STATE 0, 2), (PRT_DP_STATUS.SLOT_NOW 0, 4), (PRT_DP_STATUS.SLOT_NOW 1, 4)], 0, 5, 1, 1, by decide +kernel⟩
theorem witness_DetectionRateChangeAndMargining_4b :
    ∃ (s : State) (p : PortId) (slot : Fin 7) (q h : Nat), (s.trn p = tFORWARD) ∧ (q ∈ s.stdSides p) ∧ (s.rd
    (PRT_DP_STATUS.SLOT_NOW q) ≠ slot) ∧ (h ∈ s.dataHalves q) :=
  ⟨setAll aGear [(PRT_TRN_STATUS.STATE 0, 2), (PRT_DP_STATUS.SLOT_NOW 0, 4), (PRT_TRN_STATUS.NEG_WIDTH 0, 1)], 0, 5, 0, 0, by decide +kernel⟩
theorem witness_DetectionRateChangeAndMargining_5 :
    ∃ (s : State) (h : HalfId) (q item : Nat) (r : RxName), (s.claim h = some q) ∧ (s.isTT (q / 2) = true) ∧ (s.trn (q
    / 2) = tACTIVE) ∧ (3 ≤ s.rd (LCH_FOM.RATE_SLOT h)) ∧ (s.rxName q = some r) :=
  ⟨setAll aLive [(PRT_TRN_STATUS.RETIMER_POS 0, 1), (PRT_TRN_STATUS.UP_SIDE 0, 1)], 0, 0, 5, .b, by decide +kernel⟩
theorem witness_DetectionRateChangeAndMargining_6 :
    ∃ (s : State) (h : HalfId) (q : Nat) (axis : Fin 4) (offset : Nat) (r : RxName), (s.claim h = some q) ∧ (s.isSeg q
    = false) ∧ (s.trn (q / 2) = tACTIVE) ∧ (3 ≤ s.rd (LCH_FOM.RATE_SLOT h)) ∧ (s.holdsSampler h = false) ∧ (s.rxName q
    = some r) :=
  ⟨setAll aLive [(PRT_TRN_STATUS.RETIMER_POS 0, 1), (PRT_TRN_STATUS.UP_SIDE 0, 1)], 0, 0, 2, 9, .b, by decide +kernel⟩
theorem witness_DetectionRateChangeAndMargining_7 :
    ∃ (s : State) (h : HalfId) (q : Nat) (r : RxName), (s.claim h = some q) ∧ (s.isSeg q = false) ∧ (s.trn (q / 2) =
    tACTIVE) ∧ (3 ≤ s.rd (LCH_FOM.RATE_SLOT h)) ∧ (s.rxName q = some r) :=
  ⟨(setAll aLive [(PRT_TRN_STATUS.RETIMER_POS 0, 2), (PRT_TRN_STATUS.UP_SIDE 0, 1)]).upH 1 (fun x => { x with margin := some ⟨0, 3, none⟩ }), 1, 1, .e, by decide +kernel⟩
theorem witness_DetectionRateChangeAndMargining_8 :
    ∃ (s : State) (h : HalfId) (q : Nat) (r : RxName) (cmd : MarginCmd), (s.claim h = some q) ∧ (s.rxName q ≠ some r)
    ∧ (s.rxName (otherSide q) ≠ some r) :=
  ⟨setAll aLive [(PRT_TRN_STATUS.RETIMER_POS 0, 1), (PRT_TRN_STATUS.UP_SIDE 0, 1)], 0, 0, .d, .report 3, by decide +kernel⟩
theorem witness_LinkLowPower_1 :
    ∃ (s : State) (q : SideId), (s.trn (q / 2) = tACTIVE) ∧ (s.isSeg q = false) :=
  ⟨aLive, 0, by decide +kernel⟩
theorem witness_LinkLowPower_1b :
    ∃ (s : State) (q : SideId), (s.trn (q / 2) = tACTIVE) ∧ (s.isSeg q = false) :=
  ⟨aGear, 0, by decide +kernel⟩
theorem witness_LinkLowPower_2 :
    ∃ (s : State) (q : SideId), (s.trn (q / 2) = tACTIVE) ∧ (s.isSeg q = false) :=
  ⟨aLive, 0, by decide +kernel⟩
theorem witness_LinkLowPower_3 :
    ∃ (s : State) (q : SideId), (s.trn (q / 2) = tACTIVE) ∧ (s.isTT (q / 2) = true) ∧ (s.inL0s q = false) :=
  ⟨aLive, 1, by decide +kernel⟩
theorem witness_LinkLowPower_4 :
    ∃ (s : State) (q : SideId) (mask : Nat), (s.trn (q / 2) = tACTIVE) ∧ (s.isSeg q = false) :=
  ⟨aLive, 1, 1, by decide +kernel⟩
theorem witness_LinkLowPower_5 :
    ∃ (s : State) (q : SideId), (s.trn (q / 2) = tLOWPOWER) ∧ (s.rd (PRT_TRN_STATUS.LP_KIND (q / 2)) = 1) ∧ (s.isTT (q
    / 2) = true) ∧ (s.inL0s q = false) ∧ (s.inL0s (otherSide q) = true) :=
  ⟨(setAll aLive [(PRT_TRN_STATUS.STATE 0, 5), (PRT_TRN_STATUS.LP_KIND 0, 1)]).markL0s 0 true, 1, by decide +kernel⟩
theorem witness_LinkLowPower_6 :
    ∃ (s : State) (q : SideId), (s.isSeg q = false) ∧ (s.trn (q / 2) = tLOWPOWER) ∧ (s.rd (PRT_TRN_STATUS.LP_KIND (q /
    2)) = 1) ∧ (s.inL0s q = true) ∧ (s.inL0s (otherSide q) = false) :=
  ⟨(setAll aLive [(PRT_TRN_STATUS.STATE 0, 5), (PRT_TRN_STATUS.LP_KIND 0, 1)]).markL0s 1 true, 1, by decide +kernel⟩
theorem witness_LinkLowPower_7 :
    ∃ (s : State) (q : SideId), (s.isSeg q = false) ∧ (s.trn (q / 2) = tLOWPOWER) ∧ (s.rd (PRT_TRN_STATUS.LP_KIND (q /
    2)) = 1) ∧ (s.inL0s q = true) ∧ (s.inL0s (otherSide q) = true) :=
  ⟨((setAll aLive [(PRT_TRN_STATUS.STATE 0, 5), (PRT_TRN_STATUS.LP_KIND 0, 1)]).markL0s 1 true).markL0s 0 true, 1, by decide +kernel⟩
theorem witness_LinkLowPower_8 :
    ∃ (s : State) (q : SideId), (s.isSeg q = false) ∧ (s.trn (q / 2) = tLOWPOWER) ∧ (s.rd (PRT_TRN_STATUS.LP_KIND (q /
    2)) = 2) :=
  ⟨setAll aLive [(PRT_TRN_STATUS.STATE 0, 5), (PRT_TRN_STATUS.LP_KIND 0, 2)], 1, by decide +kernel⟩
theorem witness_LinkLowPower_9 :
    ∃ (s : State) (q : SideId), (s.isSeg q = false) ∧ (s.trn (q / 2) = tLOWPOWER) ∧ (s.rd (PRT_TRN_STATUS.LP_KIND (q /
    2)) = 3) :=
  ⟨setAll aLive [(PRT_TRN_STATUS.STATE 0, 5), (PRT_TRN_STATUS.LP_KIND 0, 3)], 1, by decide +kernel⟩
theorem witness_SegmentFramesAndRows_1 :
    ∃ (s : State) (q : SideId), (s.isSeg q = true) ∧ (s.segState q = sDETECT) :=
  ⟨aSegIn 1, 1, by decide +kernel⟩
theorem witness_SegmentFramesAndRows_2 :
    ∃ (s : State) (q : SideId) (arrived : List StreamItem), (s.isSeg q = true) ∧ (s.segState q = sACTIVE) ∧ ((s.seg
    q).switched = true) :=
  ⟨aSeg, 1, [.flit (zeros 256)], by decide +kernel⟩
theorem witness_SegmentFramesAndRows_3 :
    ∃ (s : State) (h : HalfId) (q : Nat) (line : List Int), (s.claim h = some q) ∧ (s.isSeg q = true) ∧ (s.segState q
    = sDISCOVER) ∧ (s.bit (LCH_SEG_FEC.FRAME_LOCK h) = true) ∧ (s.bit (LCH_SEG_FEC.SEG_POL_INV h) = false) ∧
    (decodeFrame (destuff (s.half h).rxRun line).1 trainingSeed = none) :=
  ⟨aSegIn 3, 1, 1, [3], by decide +kernel⟩
theorem witness_SegmentFramesAndRows_4 :
    ∃ (s : State) (q : SideId), (s.isSeg q = true) ∧ (s.segState q = sACTIVE) ∧ ((s.seg q).unacked ≠ []) ∧ ((s.seg
    q).replayRow ≠ ((s.seg q).acked + 1) % 4096) :=
  ⟨aSeg.upS 1 (fun x => { x with unacked := [⟨0, [], 0⟩], replayRow := 9 }), 1, by decide +kernel⟩
theorem witness_SegmentFramesAndRows_5 :
    ∃ (s : State) (h : HalfId) (q : Nat), (s.claim h = some q) ∧ (s.isSeg q = true) ∧ (s.tileOn (q / 2) = true) ∧
    ((s.half h).stuffOver = true) :=
  ⟨aSeg.upH 3 (fun x => { x with sentNo := 65536, stuffAt := [(65536, 400000)] }), 3, 1, by decide +kernel⟩
theorem witness_SegmentFramesAndRows_6 :
    ∃ (s : State) (q : SideId), (s.isSeg q = true) ∧ (s.isGeared (q / 2) = true) ∧ (s.tileOn (q / 2) = true) :=
  ⟨aSeg, 1, by decide +kernel⟩
theorem witness_SegmentFramesAndRows_7 :
    ∃ (s : State) (h : HalfId) (q : Nat) (hd : Header) (payload : List Byte), (s.claim h = some q) ∧ (s.isSeg q =
    true) ∧ (s.segState q = sDISCOVER) ∧ (s.bit (LCH_SEG_FEC.FRAME_LOCK h) = true) ∧ (s.bit (LCH_SEG_FEC.SEG_POL_INV
    h) = false) ∧ ((s.half h).rxRun.len < 12) ∧ (payload.length = 256) ∧ (hd.row < 4096 ∧ hd.type = 7 ∧ hd.lane = 31 ∧
    hd.epoch = 0 ∧ hd.ack < 4096 ∧ hd.credit < 256) :=
  ⟨aSegIn 3, 1, 1, ⟨0, 7, 31, 0, 0, false, false, 0⟩, zeros 256, by decide +kernel⟩
theorem witness_SegmentFramesAndRows_7b :
    ∃ (s : State) (h : HalfId) (q : Nat) (hd : Header) (payload : List Byte), (s.claim h = some q) ∧ (s.isSeg q =
    true) ∧ (s.segState q = sDISCOVER) ∧ (s.bit (LCH_SEG_FEC.FRAME_LOCK h) = true) ∧ (s.bit (LCH_SEG_FEC.SEG_POL_INV
    h) = false) ∧ ((s.half h).rxRun.len < 12) ∧ (payload.length = 256) ∧ (hd.row < 4096 ∧ hd.type = 7 ∧ hd.lane = 31 ∧
    hd.epoch = 0 ∧ hd.ack < 4096 ∧ hd.credit < 256) :=
  ⟨aSegIn 3, 3, 1, ⟨4095, 7, 31, 0, 77, true, true, 255⟩, List.replicate 256 0xA7, by decide +kernel⟩
theorem witness_SegmentTrainingMoves_1 :
    ∃ (s : State) (h : HalfId) (q : Nat) (negated : Bool), (s.claim h = some q) ∧ (s.isSeg q = true) ∧ (s.segState q =
    sDISCOVER) ∧ (s.bit (LCH_FOM.LOCK h) = true) ∧ (s.bit (LCH_SEG_FEC.FRAME_LOCK h) = false) :=
  ⟨(aSegIn 3).off (LCH_SEG_FEC.FRAME_LOCK 1), 1, 1, true, by decide +kernel⟩
theorem witness_SegmentTrainingMoves_2 :
    ∃ (s : State) (h : HalfId) (q : Nat) (negated : Bool), (s.claim h = some q) ∧ (s.isSeg q = true) ∧ (s.segState q =
    sACQUIRE) ∧ (s.width q = 1) ∧ (h.val ∈ s.segHalves q) ∧ (s.bit (LCH_FOM.LOCK h) = true) ∧ (s.bit
    (LCH_SEG_FEC.FRAME_LOCK h) = false) :=
  ⟨((aSegIn 2).off (LCH_SEG_FEC.FRAME_LOCK 1)).off (LCH_SEG_FEC.FRAME_LOCK 3), 3, 1, false, by decide +kernel⟩
theorem witness_SegmentTrainingMoves_3 :
    ∃ (s : State) (h : HalfId), (s.bit (LCH_SEG_FEC.FRAME_LOCK h) = true) ∧ (4 ≤ (s.half h).badRun) :=
  ⟨aSeg.upH 1 (fun x => { x with badRun := 4 }), 1, by decide +kernel⟩
theorem witness_SegmentTrainingMoves_4 :
    ∃ (s : State) (q : SideId), (s.isSeg q = true) ∧ (s.segState q = sDETECT ∨ s.segState q = sACQUIRE ∨ s.segState q
    = sCONFIRM) :=
  ⟨aSegIn 4, 1, by decide +kernel⟩
theorem witness_SegmentTrainingMoves_4b :
    ∃ (s : State) (q : SideId), (s.isSeg q = true) ∧ (s.segState q = sDETECT ∨ s.segState q = sACQUIRE ∨ s.segState q
    = sCONFIRM) :=
  ⟨(aSegIn 2).wr (PRT_SEG_STATUS.ATTEMPTS 1) 15, 1, by decide +kernel⟩
theorem witness_SegmentTrainingMoves_5 :
    ∃ (s : State) (q : SideId), (s.isSeg q = true) ∧ (s.segState q = sBACKOFF) :=
  ⟨(aSegIn 6).wr (PRT_SEG_STATUS.ATTEMPTS 1) 3, 1, by decide +kernel⟩
theorem witness_SegmentTrainingMoves_6 :
    ∃ (s : State) (h : HalfId) (q : Nat) (payload : List Byte), (s.claim h = some q) ∧ (s.isSeg q = true) ∧
    (s.segState q = sDISCOVER) ∧ (s.bit (LCH_SEG_FEC.FRAME_LOCK h) = true) ∧ (payload.take 5 = [0x4C, 0x41, 0x4E,
    0x45, 0x01]) ∧ (byteAt payload 17 ≠ s.width q) :=
  ⟨aSegIn 3, 1, 1, aLaneid 2, by decide +kernel⟩
theorem witness_SegmentTrainingMoves_7 :
    ∃ (s : State) (h : HalfId) (q : Nat) (payload : List Byte), (s.claim h = some q) ∧ (s.isSeg q = true) ∧
    (s.segState q = sDISCOVER) ∧ (s.bit (LCH_SEG_FEC.FRAME_LOCK h) = true) ∧ (payload.take 5 = [0x4C, 0x41, 0x4E,
    0x45, 0x01]) ∧ (byteAt payload 17 = s.width q) ∧ (byteAt payload 18 = s.spares q) ∧ (byteAt payload 19 = s.segSlot
    q) ∧ (byteAt payload 14 ≠ q / 2) ∧ (byteAt payload 5 = 1) ∧ (s.legacy q = false) ∧ (byteAt payload 16 < 20) ∧ ((∀
    g ∈ s.segHalves q, g ≠ h → s.rd (LCH_SEG_FEC.HEARD g) ≠ byteAt payload 16)) ∧ (bitAt (byteAt payload 20) 2 = true)
    :=
  ⟨(aSegIn 3).wr (LCH_SEG_FEC.HEARD 1) 31, 1, 1, aLaneid 1, by decide +kernel⟩
theorem witness_SegmentTrainingMoves_8 :
    ∃ (s : State) (q : SideId), (s.isSeg q = true) ∧ (s.segState q = sACTIVE) ∧ (s.countRx q LCH_FOM.SIGDET = 0) :=
  ⟨(aSeg.off (LCH_FOM.SIGDET 1)).off (LCH_FOM.SIGDET 3), 1, by decide +kernel⟩
theorem witness_SegmentTrainingMoves_9 :
    ∃ (s : State) (q : SideId), (s.hosted = true) ∧ (s.powerState ≠ 1) ∧ (s.enabled (q / 2) = true) ∧ (s.tileState
    (s.tileOf (q / 2)) = 2) ∧ ((s.tile (s.tileOf (q / 2))).accesses = []) ∧ (s.isSeg q = true) ∧ (s.segState q ≠
    sDOWN) :=
  ⟨(aSegIn 6).wr (PRT_SEG_STATUS.ATTEMPTS 1) 9, 1, by decide +kernel⟩
theorem witness_SegmentTrainingMoves_9b :
    ∃ (s : State) (q : SideId), (s.hosted = true) ∧ (s.powerState ≠ 1) ∧ (s.enabled (q / 2) = true) ∧ (s.tileState
    (s.tileOf (q / 2)) = 2) ∧ ((s.tile (s.tileOf (q / 2))).accesses = []) ∧ (s.isSeg q = true) ∧ (s.segState q ≠
    sDOWN) :=
  ⟨aSeg, 1, by decide +kernel⟩
theorem witness_SegmentRelaysTheLink_1 :
    ∃ (s : State) (q : SideId), (s.isSeg q = true) ∧ (s.isGeared (q / 2) = true) ∧ (s.segState q = sACTIVE) ∧ (s.trn
    (q / 2) = tFORWARD) ∧ (s.txn.stopped.contains (otherSide q) = false) :=
  ⟨aSeg.wr (PRT_TRN_STATUS.STATE 0) 2, 1, by decide +kernel⟩
theorem witness_SegmentRelaysTheLink_2 :
    ∃ (s : State) (q : SideId) (row : Nat) (payload : List Byte), (s.isSeg q = true) ∧ (s.isSS (q / 2) = false) ∧
    (s.segState q = sACTIVE) ∧ (s.trn (q / 2) = tFORWARD) ∧ ((s.seg q).osrelRow = none) ∧ (osrelLanes payload ≠ []) :=
  ⟨(aSeg.wr (PRT_TRN_STATUS.STATE 0) 2).upH 0 (fun x => { x with tx := .start }), 1, 5, List.replicate 16 7 ++ zeros 240, by decide +kernel⟩
theorem witness_SegmentRelaysTheLink_3 :
    ∃ (s : State) (q : SideId) (row : Nat), (s.isSeg q = true) ∧ (s.isSS (q / 2) = false) ∧ (s.segState q = sACTIVE) ∧
    ((s.seg q).osrelRow = none) :=
  ⟨aSeg.wr (PRT_TRN_STATUS.STATE 0) 2, 1, 5, by decide +kernel⟩
theorem witness_SegmentRelaysTheLink_4 :
    ∃ (s : State) (q : SideId) (row : Nat) (payload : List Byte), (s.isSS (q / 2) = true) ∧ (s.segState q = sACTIVE) ∧
    (s.segState (otherSide q) = sACTIVE) ∧ (s.relayOk (otherSide q) = true) ∧ (s.txn.stopped.contains q.val = false) ∧
    ((s.seg q).osrelRow = none) :=
  ⟨(setAll aSeg [(PRT_MODE.SEGMENT 0, 1), (PRT_SEG_STATUS.STATE 0, 5)]).upS 0 (fun x => { x with partner := some aPartner }), 1, 5, zeros 256, by decide +kernel⟩
theorem witness_SegmentRelaysTheLink_5 :
    ∃ (s : State) (q : SideId), (s.isSeg q = true) ∧ (s.isGeared (q / 2) = true) ∧ (s.segState q = sACTIVE) :=
  ⟨aSeg, 1, by decide +kernel⟩
theorem witness_SegmentRelaysTheLink_6 :
    ∃ (s : State) (q : SideId) (payload : List Byte), (s.isSeg q = true) ∧ (s.segState q = sACTIVE) ∧ (byteAt payload
    0 = 1) :=
  ⟨aSeg, 1, aPath 1 2, by decide +kernel⟩
theorem witness_SegmentRelaysTheLink_7 :
    ∃ (s : State) (q : SideId) (payload : List Byte), (s.isSeg q = true) ∧ (s.isGeared (q / 2) = true) ∧ (s.segState q
    = sACTIVE) ∧ (byteAt payload 0 = 1) ∧ (bitAt (byteAt payload 1) 0 = false) ∧ (s.trn (q / 2) = tACTIVE) :=
  ⟨aSeg, 1, aPath 2 1, by decide +kernel⟩
theorem witness_SegmentRelaysTheLink_8 :
    ∃ (s : State) (q : SideId) (payload : List Byte), (s.isSeg q = true) ∧ (s.isGeared (q / 2) = true) ∧ (s.segState q
    = sACTIVE) ∧ (s.txn.stopped.contains q.val = false) ∧ (byteAt payload 0 = 3) :=
  ⟨aSeg, 1, [3, 0, 1, 0] ++ zeros 252, by decide +kernel⟩
theorem witness_SegmentRelaysTheLink_9 :
    ∃ (s : State) (q : SideId) (payload : List Byte), (s.isSeg q = true) ∧ (s.isGeared (q / 2) = true) ∧ (s.segState q
    = sACTIVE) ∧ (s.txn.stopped.contains q.val = false) ∧ (byteAt payload 0 = 2) ∧ (s.trn (q / 2) = tACTIVE) :=
  ⟨aSeg, 1, [2, 0, 1, 0] ++ zeros 252, by decide +kernel⟩
theorem witness_LaneFaultsAndRequestsAreQueued_1 :
    ∃ (s : State) (h : HalfId) (q : Nat) (reason : Fin 16), (s.claim h = some q) ∧ (s.isSeg q = true) ∧ (s.segState q
    = sACTIVE) ∧ (h.val ∈ s.segHalves q) ∧ (s.hardCause h reason = true) ∧ ((s.segHalves q).any (fun g => g != h &&
    s.bit (LCH_SEG_FEC.FRAME_LOCK g)) = true) :=
  ⟨aSeg.off (LCH_FOM.LOCK 1), 1, 1, 2, by decide +kernel⟩
theorem witness_LaneFaultsAndRequestsAreQueued_1b :
    ∃ (s : State) (h : HalfId) (q : Nat) (reason : Fin 16), (s.claim h = some q) ∧ (s.isSeg q = true) ∧ (s.segState q
    = sACTIVE) ∧ (h.val ∈ s.segHalves q) ∧ (s.hardCause h reason = true) ∧ ((s.segHalves q).any (fun g => g != h &&
    s.bit (LCH_SEG_FEC.FRAME_LOCK g)) = true) :=
  ⟨aSeg.off (LCH_FOM.SIGDET 3), 3, 1, 1, by decide +kernel⟩
theorem witness_LaneFaultsAndRequestsAreQueued_1c :
    ∃ (s : State) (h : HalfId) (q : Nat) (reason : Fin 16), (s.claim h = some q) ∧ (s.isSeg q = true) ∧ (s.segState q
    = sACTIVE) ∧ (h.val ∈ s.segHalves q) ∧ (s.hardCause h reason = true) ∧ ((s.segHalves q).any (fun g => g != h &&
    s.bit (LCH_SEG_FEC.FRAME_LOCK g)) = true) :=
  ⟨(aSeg.off (LCH_FOM.SIGDET 1)).on (PRT_TRL_CTRL.TRELLIS_OFF 1), 1, 1, 1, by decide +kernel⟩
theorem witness_LaneFaultsAndRequestsAreQueued_2 :
    ∃ (s : State) (h : HalfId) (q : Nat), (s.claim h = some q) ∧ (s.isSeg q = true) ∧ (s.segState q = sACTIVE) ∧ (256
    * s.rd (PRT_TRL_CTRL.CORR_LIMIT q) < (s.half h).corrBlock) ∧ (s.holdsData h = false) :=
  ⟨aSeg.upH 1 (fun x => { x with corrBlock := 1000000 }), 1, 1, by decide +kernel⟩
theorem witness_LaneFaultsAndRequestsAreQueued_3 :
    ∃ (s : State) (h : HalfId) (q : Nat), (s.claim h = some q) ∧ (s.isSeg q = true) ∧ (s.segState q = sACTIVE) ∧
    ((s.half h).corrBlock ≤ 256 * s.rd (PRT_TRL_CTRL.CORR_LIMIT q)) :=
  ⟨aSeg.upH 1 (fun x => { x with corrBlock := 1 }), 1, 1, by decide +kernel⟩
theorem witness_LaneFaultsAndRequestsAreQueued_4 :
    ∃ (s : State) (h : HalfId) (q : Nat), (s.claim h = some q) ∧ (s.stdFaultable q h = true) ∧ (s.bit (LCH_FOM.LOCK h)
    = false) :=
  ⟨aTwoLanes.off (LCH_FOM.LOCK 2), 2, 0, by decide +kernel⟩
theorem witness_LaneFaultsAndRequestsAreQueued_5 :
    ∃ (s : State) (h : HalfId), ((s.half h).retired = true) ∧ (s.spareFit h = true) :=
  ⟨aSeg.upH 3 (fun x => { x with retired := true }), 3, by decide +kernel⟩
theorem witness_LaneFaultsAndRequestsAreQueued_6 :
    ∃ (s : State) (q : SideId) (lane spare : Fin 32), (s.hosted = true) ∧ (s.enabled (q / 2) = true) ∧ (s.tileOf (q /
    2) < 8) ∧ (s.tileState (s.tileOf (q / 2)) = 2) ∧ ((s.tile (s.tileOf (q / 2))).accesses = []) ∧ (s.isSeg q = true)
    ∧ (s.steer q = stWATCH) ∧ ((s.requestSpare q ⟨lane, 8, spare, 0, 0, 0⟩).isSome = true) :=
  ⟨aSeg, 1, 0, 1, by decide +kernel⟩
theorem witness_LaneFaultsAndRequestsAreQueued_7 :
    ∃ (s : State) (q : SideId) (lane : Fin 32), (s.hosted = true) ∧ (s.enabled (q / 2) = true) ∧ (s.tileOf (q / 2) <
    8) ∧ (s.tileState (s.tileOf (q / 2)) = 2) ∧ ((s.tile (s.tileOf (q / 2))).accesses = []) ∧ (s.isSeg q = true) ∧
    (s.steer q = stWATCH) ∧ ((s.requestSpare q ⟨lane, 9, 0x1F, 0, 0, 0⟩).isSome = true) :=
  ⟨aSeg.upS 1 (fun x => { x with rxPlace := movePlacement (identityPlacement 2) 0 1 }), 1, 0, by decide +kernel⟩
theorem witness_TrellisSteeringEnd_1 :
    ∃ (s : State) (q : SideId) (it : Item) (rest : List Item) (sp : Nat) (more : List Nat), (s.isSeg q = true) ∧
    (s.segState q = sACTIVE) ∧ (s.steer q = stWATCH) ∧ ((s.seg q).queue = it :: rest) ∧ (it.isRequest = false) ∧
    (s.rxLogical q it.half = some it.lane) ∧ (s.trellis q = true) ∧ (s.bit (PRT_TRL_CTRL.TRELLIS_OFF q) = false) ∧
    (s.readySpares q = sp :: more) :=
  ⟨aSeg.upS 1 (fun x => { x with queue := [anItem] }), 1, anItem, [], 1, [], by decide +kernel⟩
theorem witness_TrellisSteeringEnd_2 :
    ∃ (s : State) (q : SideId) (it : Item) (rest : List Item), (s.isSeg q = true) ∧ (s.segState q = sACTIVE) ∧
    (s.steer q = stWATCH) ∧ ((s.seg q).queue = it :: rest) ∧ (it.isRequest = false) ∧ (s.rxLogical q it.half = some
    it.lane) ∧ (s.trellis q = true) ∧ (s.bit (PRT_TRL_CTRL.TRELLIS_OFF q) = false) ∧ (s.readySpares q = []) ∧ (s.bit
    (PRT_TRL_CTRL.POLICY q) = false) :=
  ⟨(aSeg.upS 1 (fun x => { x with queue := [anItem] })).off (LCH_FOM.LOCK 3), 1, anItem, [], by decide +kernel⟩
theorem witness_TrellisSteeringEnd_3 :
    ∃ (s : State) (q : SideId) (msg : List Byte) (pr : Proposal), (s.trellisRuns q = true) ∧ (s.steer q = stPROPOSING)
    ∧ ((s.seg q).prop = some pr) ∧ (pr.epoch = byteAt msg 1) :=
  ⟨aSteer 1, 1, aMsg 2, aProposal, by decide +kernel⟩
theorem witness_TrellisSteeringEnd_4 :
    ∃ (s : State) (q : SideId) (msg : List Byte) (pr : Proposal), (s.trellisRuns q = true) ∧ (s.steer q = stPROPOSING
    ∨ s.steer q = stCOMMITTING) ∧ ((s.seg q).prop = some pr) ∧ (pr.epoch = byteAt msg 1) ∧ (pr.item.tries < 2) :=
  ⟨aSteer 3, 1, aMsg 3, aProposal, by decide +kernel⟩
theorem witness_TrellisSteeringEnd_5 :
    ∃ (s : State) (q : SideId) (pr : Proposal), (s.trellisRuns q = true) ∧ (s.steer q = stHOLDING) ∧ ((s.seg q).prop =
    some pr) :=
  ⟨aSteer 2, 1, aProposal, by decide +kernel⟩
theorem witness_TrellisSteeringEnd_6 :
    ∃ (s : State) (q : SideId) (msg : List Byte) (pr : Proposal), (s.trellisRuns q = true) ∧ (s.steer q =
    stCANCELLING) ∧ ((s.seg q).prop = some pr) ∧ (pr.epoch = byteAt msg 1) :=
  ⟨aSteer 4, 1, aMsg 6, aProposal, by decide +kernel⟩
theorem witness_TrellisSteeringEnd_7 :
    ∃ (s : State) (q : SideId) (pr : Proposal), (s.trellisRuns q = true) ∧ (s.steer q = stPROPOSING) ∧ ((s.seg q).prop
    = some pr) ∧ (pr.item.tries < 2) :=
  ⟨aSteer 1, 1, aProposal, by decide +kernel⟩
theorem witness_TrellisSteeringEnd_8 :
    ∃ (s : State) (q : SideId), (s.isSeg q = true) ∧ (s.segState q = sACTIVE) ∧ (s.steer q = stCOMMITTING) :=
  ⟨aSteer 3, 1, by decide +kernel⟩
theorem witness_TrellisSteeringEnd_9 :
    ∃ (s : State) (q : SideId), (s.isSeg q = true) ∧ (s.segState q = sACTIVE) ∧ (s.steer q = stCANCELLING) :=
  ⟨aSteer 4, 1, by decide +kernel⟩
theorem witness_TrellisTransmittingEnd_1 :
    ∃ (s : State) (q : SideId) (msg : List Byte), (s.trellisRuns q = true) ∧ ((s.seg q).prepared = none) ∧ (s.refusal
    q msg = 0) :=
  ⟨aSeg, 1, aMsg 1, by decide +kernel⟩
theorem witness_TrellisTransmittingEnd_2 :
    ∃ (s : State) (q : SideId) (msg : List Byte), (s.trellisRuns q = true) ∧ ((s.seg q).prepared = none) ∧ (s.refusal
    q msg ≠ 0) :=
  ⟨aSeg.wr (PRT_TRL_STATUS.TX_EPOCH 1) 7, 1, aMsg 1, by decide +kernel⟩
theorem witness_TrellisTransmittingEnd_3 :
    ∃ (s : State) (q : SideId) (msg : List Byte) (pr : Prepared), (s.trellisRuns q = true) ∧ ((s.seg q).prepared =
    some pr) ∧ (byteAt msg 1 = pr.epoch) :=
  ⟨aReady false, 1, aMsg 4, aPrepared, by decide +kernel⟩
theorem witness_TrellisTransmittingEnd_4 :
    ∃ (s : State) (q : SideId) (pr : Prepared), (s.trellisRuns q = true) ∧ ((s.seg q).prepared = some pr) ∧ ((s.seg
    q).switchDue = true) ∧ (pr.epoch < 256) ∧ (pr.spare ≠ 0x1F) :=
  ⟨aReady true, 1, aPrepared, by decide +kernel⟩
theorem witness_TrellisTransmittingEnd_5 :
    ∃ (s : State) (q : SideId) (msg : List Byte) (pr : Prepared), (s.trellisRuns q = true) ∧ ((s.seg q).prepared =
    some pr) ∧ (byteAt msg 1 = pr.epoch) ∧ ((s.seg q).switchDue = false) :=
  ⟨aReady false, 1, aMsg 5, aPrepared, by decide +kernel⟩
theorem witness_TrellisTransmittingEnd_6 :
    ∃ (s : State) (q : SideId), (s.isSeg q = true) ∧ (s.xmit q = xmREADY) ∧ ((s.seg q).switchDue = false) :=
  ⟨aReady false, 1, by decide +kernel⟩
theorem witness_CalibrationRunsStartAndSetsClear_1 :
    ∃ (s : State) (half : Bool) (index : Nat), (index ≤ 255) ∧ (s.hosted = true) ∧ (s.powerState ≠ 1) ∧ (s.calReady (2
    * index + ofBool half) = true) ∧ ((s.half (2 * index + ofBool half)).run = none) ∧ (s.holdsData (2 * index +
    ofBool half) = false) :=
  ⟨aLive, false, 0, by decide +kernel⟩
theorem witness_CalibrationRunsStartAndSetsClear_2 :
    ∃ (s : State) (half : Bool) (index q : Nat), (index ≤ 255) ∧ (s.hosted = true) ∧ (s.powerState ≠ 1) ∧ (s.claim (2
    * index + ofBool half) = some q) ∧ (s.calReady (2 * index + ofBool half) = false) ∧ (s.calRateOnly (2 * index +
    ofBool half) = false) ∧ ((s.half (2 * index + ofBool half)).run = none) :=
  ⟨aPort, false, 0, 0, by decide +kernel⟩
theorem witness_CalibrationRunsStartAndSetsClear_3 :
    ∃ (s : State) (h : HalfId), (s.bit CAL_POLICY.AUTO_RUN = true) ∧ (s.calReady h = true) ∧ ((s.half h).run = none) ∧
    ((s.half h).lastRun = none) ∧ (s.holdsData h = false) :=
  ⟨aLive, 0, by decide +kernel⟩
theorem witness_CalibrationRunsStartAndSetsClear_4 :
    ∃ (s : State) (h : HalfId), s.hosted = true :=
  ⟨aRun .capturing, 0, by decide +kernel⟩
theorem witness_CalibrationRunsStartAndSetsClear_5 :
    ∃ (s : State) (i : TileId) (temp : Int), s.tileState i = 2 :=
  ⟨aLive, 0, -33, by decide +kernel⟩
theorem witness_CalibrationRunsStartAndSetsClear_6 :
    ∃ (s : State) (half : Bool) (index h : Nat), (s.hosted = true) ∧ (s.powerState ≠ 1) ∧ (h < 512) ∧
    (s.calTab.entries.any (fun e => e.2.valid && decide (e.1 < 2048)) = true) :=
  ⟨(aRun .verifying).setCalTab ⟨[(2, { valid := true })]⟩, false, 0, 0, by decide +kernel⟩
theorem witness_CalibrationCaptureAndCompute_1 :
    ∃ (s : State) (h : HalfId) (r : CalRun), ((s.half h).run = some r) ∧ (r.stage = .pending) ∧ (s.holdsData h =
    false) ∧ (s.engineUp h = true) ∧ ((List.range 4).all (fun i => 4 * engineOf h + i == h.val || (s.half (4 *
    engineOf h + i)).run.isNone) = true) :=
  ⟨aRun .pending, 0, { stage := .pending }, by decide +kernel⟩
theorem witness_CalibrationCaptureAndCompute_2 :
    ∃ (s : State) (h : HalfId) (r : CalRun) (stats : CaptureStats) (errors : CaptureErrors), ((s.half h).run = some r)
    ∧ (r.stage = .capturing) ∧ (nqReason (s.rd (LCH_FOM.RATE_SLOT h)) stats r.disturbed = 0) :=
  ⟨aRun .capturing, 0, { stage := .capturing }, goodStats, goodErrs, by decide +kernel⟩
theorem witness_CalibrationCaptureAndCompute_3 :
    ∃ (s : State) (h : HalfId) (r : CalRun) (stats : CaptureStats) (errors : CaptureErrors), ((s.half h).run = some r)
    ∧ (r.stage = .capturing) ∧ (nqReason (s.rd (LCH_FOM.RATE_SLOT h)) stats r.disturbed ≠ 0) :=
  ⟨aRun .capturing, 0, { stage := .capturing }, { goodStats with fullScale := 11 }, goodErrs, by decide +kernel⟩
theorem witness_CalibrationCaptureAndCompute_4 :
    ∃ (s : State) (h : HalfId) (r : CalRun), ((s.half h).run = some r) ∧ (r.stage = .computing) :=
  ⟨aRun .computing, 0, { stage := .computing }, by decide +kernel⟩
theorem witness_CalibrationStoreTakesItsSteps_1 :
    ∃ (s : State), (s.hosted = true) ∧ (s.powerState ≠ 1) ∧ (s.bit CAL_STATUS.STORE_BUSY = true) :=
  ⟨aLive.on CAL_STATUS.STORE_BUSY, by decide +kernel⟩
theorem witness_CalibrationStoreTakesItsSteps_2 :
    ∃ (s : State), (s.hosted = true) ∧ (s.powerState ≠ 1) ∧ (s.bit CAL_STATUS.STORE_BUSY = false) ∧ (s.imageWriting =
    false) ∧ (s.currentCopy = none) :=
  ⟨aLive, by decide +kernel⟩
theorem witness_CalibrationStoreTakesItsSteps_3 :
    ∃ (s : State), (s.bit CAL_POLICY.AUTO_STORE = true) ∧ (s.bit CAL_STATUS.DIRTY = true) ∧ (s.bit
    CAL_STATUS.STORE_BUSY = false) ∧ (s.imageWriting = false) ∧ (s.currentCopy = none) ∧ (s.awake = true) :=
  ⟨aLive.on CAL_STATUS.DIRTY, by decide +kernel⟩
theorem witness_CalibrationStoreTakesItsSteps_4 :
    ∃ (s : State) (c : CalStore) (a : Nat), (s.calStore = some c) ∧ (c.step = 2) ∧ (s.awake = true) :=
  ⟨{ aLive.setCalStore (some (aStore 2 true)) with flash := [(0x3FC0010, 7), (0x3FC1010, 9)] }, aStore 2 true, 0x3FC0010, by decide +kernel⟩
theorem witness_CalibrationStoreTakesItsSteps_4b :
    ∃ (s : State) (c : CalStore) (a : Nat), (s.calStore = some c) ∧ (c.step = 2) ∧ (s.awake = true) :=
  ⟨{ aLive.setCalStore (some (aStore 2 true)) with flash := [(0x3FC0010, 7), (0x3FC1010, 9)] }, aStore 2 true, 0x3FC1010, by decide +kernel⟩
theorem witness_CalibrationStoreTakesItsSteps_5 :
    ∃ (s : State) (c : CalStore) (a : Nat), (s.calStore = some c) ∧ (c.step = 3) ∧ (s.awake = true) :=
  ⟨{ aLive.setCalStore (some (aStore 3 true)) with flash := [(0x3FC0010, 7), (0x3FC1010, 9)] }, aStore 3 true, 0x3FC0010, by decide +kernel⟩
theorem witness_CalibrationStoreTakesItsSteps_5b :
    ∃ (s : State) (c : CalStore) (a : Nat), (s.calStore = some c) ∧ (c.step = 3) ∧ (s.awake = true) :=
  ⟨{ aLive.setCalStore (some (aStore 3 true)) with flash := [(0x3FC0010, 7), (0x3FC1010, 9)] }, aStore 3 true, 0x3FC1010, by decide +kernel⟩
theorem witness_CalibrationStoreTakesItsSteps_6 :
    ∃ (s : State) (c : CalStore) (a : Nat), (s.calStore = some c) ∧ (c.step = 4) ∧ (s.awake = true) :=
  ⟨{ aLive.setCalStore (some (aStore 4 true)) with flash := [(0x3FC0010, 7), (0x3FC1010, 9)] }, aStore 4 true, 0x3FC0010, by decide +kernel⟩
theorem witness_CalibrationStoreTakesItsSteps_6b :
    ∃ (s : State) (c : CalStore) (a : Nat), (s.calStore = some c) ∧ (c.step = 4) ∧ (s.awake = true) :=
  ⟨{ aLive.setCalStore (some (aStore 4 true)) with flash := [(0x3FC0010, 7), (0x3FC1010, 9)] }, aStore 4 true, 0x3FC1010, by decide +kernel⟩
theorem witness_CalibrationStoreTakesItsSteps_7 :
    ∃ (s : State) (c : CalStore), (s.calStore = some c) ∧ (c.step = 5) ∧ (s.awake = true) :=
  ⟨aLive.setCalStore (some (aStore 5 true)), aStore 5 true, by decide +kernel⟩
theorem witness_CalibrationStoreTakesItsSteps_8 :
    ∃ (s : State) (c : CalStore), (s.calStore = some c) ∧ (c.step = 6) ∧ (s.awake = true) :=
  ⟨aLive.setCalStore (some (aStore 6 true)), aStore 6 true, by decide +kernel⟩
theorem witness_CalibrationStoreTakesItsSteps_9 :
    ∃ (s : State) (c : CalStore), (s.calStore = some c) ∧ (c.step = 7) ∧ (c.gen < 2 ^ 32) ∧ (s.awake = true) :=
  ⟨aLive.setCalStore (some (aStore 7 true)), aStore 7 true, by decide +kernel⟩
theorem witness_CalibrationStoreTakesItsSteps_10 :
    ∃ (s : State) (c : CalStore) (a : Nat), (s.calStore = some c) ∧ (c.step = 5 ∨ c.step = 7) ∧ (s.awake = true) :=
  ⟨aLive.setCalStore (some (aStore 5 false)), aStore 5 false, 0x3F80000, by decide +kernel⟩
theorem witness_CalibrationStoreTakesItsSteps_11 :
    ∃ (s : State) (c : CalStore) (a : Nat), (s.calStore = some c) ∧ (a < copyBase c.toB ∨ copyBase c.toB + 0x40000 ≤
    a) ∧ (s.awake = true) :=
  ⟨aLive.setCalStore (some (aStore 4 false)), aStore 4 false, 0x3FC0000, by decide +kernel⟩
theorem witness_CalibrationStoreTakesItsSteps_12 :
    ∃ (s : State), (s.hosted = true) ∧ (s.powerState ≠ 1) ∧ (s.bit CAL_STATUS.STORE_BUSY = false) :=
  ⟨aLive.on CAL_STATUS.DIRTY, by decide +kernel⟩
theorem witness_EnginesServeJobs_1 :
    ∃ (s : State) (k : EngineId), (s.rd (ENG_STATUS.STATE k) = engRunning) ∧ (s.ownPriority k ≠ 0) :=
  ⟨aRun .capturing, 0, by decide +kernel⟩
theorem witness_EnginesServeJobs_2 :
    ∃ (s : State) (k : EngineId) (j : Job), (s.rd (ENG_STATUS.STATE k) = engRunning) ∧ (s.bit ENG_CTRL.SLICE_JOBS_OFF
    = false) ∧ (s.ownWork k = false) ∧ ((s.engine k).slot = none) ∧ (s.pickJob k = some j) ∧ (s.permits j = true) :=
  ⟨(aLive.upE 0 (fun e => { e with queue := [aJob] })).upSl 1 (fun _ => { balance := 3, tokens := 3 }), 0, aJob, by decide +kernel⟩
theorem witness_EnginesServeJobs_3 :
    ∃ (s : State) (k : EngineId) (j : Job) (r : StepResult), ((s.engine k).slot = some j) ∧ (s.rd
    (ENG_STATUS.JOB_STATE k) = 2) :=
  ⟨(aLive.upE 0 (fun e => { e with slot := some aJob })).wr (ENG_STATUS.JOB_STATE 0) 2, 0, aJob, ⟨3, true⟩, by decide +kernel⟩
theorem witness_EnginesServeJobs_4 :
    ∃ (s : State) (k : EngineId) (j : Job) (r : StepResult), ((s.engine k).slot = some j) ∧ (s.rd
    (ENG_STATUS.JOB_STATE k) = 1) ∧ (j.paid = true) ∧ (r.complete = false) :=
  ⟨(aLive.upE 0 (fun e => { e with slot := some { aJob with paid := true } })).wr (ENG_STATUS.JOB_STATE 0) 1, 0, { aJob with paid := true }, ⟨3, false⟩, by decide +kernel⟩
theorem witness_EnginesServeJobs_5 :
    ∃ (s : State) (k : EngineId) (j : Job), ((s.engine k).slot = some j) ∧ (s.rd (ENG_STATUS.JOB_STATE k) = 3) ∧
    ((s.half j.half).marginWait = none) ∧ (s.canWrite j = true) :=
  ⟨((aLive.upM (fun m => { m with pasid := true })).upE 0 (fun e => { e with slot := some aJob })).wr (ENG_STATUS.JOB_STATE 0) 3, 0, aJob, by decide +kernel⟩
theorem witness_EnginesServeJobs_6 :
    ∃ (s : State) (k : EngineId) (j : Job) (rest : List Job), (s.engine k).queue = j :: rest :=
  ⟨aLive.upE 0 (fun e => { e with queue := [aJob] }), 0, aJob, [], by decide +kernel⟩
theorem witness_EngineFaultsControlAndEpochs_1 :
    ∃ (s : State) (k : EngineId), (s.rd (ENG_STATUS.STATE k) = engRunning) ∧ (((s.engine k).faultsAt.filter (fun t =>
    decide (s.elapsed < t + 1000000 * usUnit))).length + 1 < s.rd ENG_CTRL.FAULT_LIMIT) :=
  ⟨aLive, 0, by decide +kernel⟩
theorem witness_EngineFaultsControlAndEpochs_2 :
    ∃ (s : State) (k : EngineId), (s.rd (ENG_STATUS.STATE k) = engRunning) ∧ (s.rd ENG_CTRL.FAULT_LIMIT ≤ ((s.engine
    k).faultsAt.filter (fun t => decide (s.elapsed < t + 1000000 * usUnit))).length + 1) :=
  ⟨aLive.upE 0 (fun e => { e with faultsAt := [0, 0] }), 0, by decide +kernel⟩
theorem witness_EngineFaultsControlAndEpochs_3 :
    ∃ (s : State) (k : EngineId), (s.rd (ENG_STATUS.STATE k) = engRestarting) ∧ (s.imgOp = none) :=
  ⟨aLive.wr (ENG_STATUS.STATE 0) 2, 0, by decide +kernel⟩
theorem witness_EngineFaultsControlAndEpochs_4 :
    ∃ (s : State) (k : SliceId) (value : Nat), s.hosted = true :=
  ⟨aLive, 5, 0xA, by decide +kernel⟩
theorem witness_EngineFaultsControlAndEpochs_5 :
    ∃ (s : State) (v : Bool), s.hosted = true :=
  ⟨aLive, true, by decide +kernel⟩
theorem witness_EngineFaultsControlAndEpochs_6 :
    ∃ (s : State) (k : Nat), (k < 256) ∧ (s.awake = true) ∧ (s.sliceState k ≠ slFREE) :=
  ⟨setAll aLive [(SLC_STATUS.STATE 1, 1), (SLC_SHARE.TOKENS 1, 9)], 1, by decide +kernel⟩
theorem witness_EngineFaultsControlAndEpochs_7 :
    ∃ (s : State) (k : EngineId), (s.awake = true) ∧ (s.rd (ENG_STATUS.STATE k) ≠ engRunning) ∧ ((s.engine k).ran =
    false) :=
  ⟨setAll aLive [(ENG_STATUS.STATE 1, 3), (ENG_STATUS.LOAD 1, 77)], 1, by decide +kernel⟩
theorem witness_BootPicksAnImage_1 :
    ∃ (s : State) (answers : Bool) (a : Nat), (s.power.inReset = true) ∧ (s.power.bootDue = true) ∧ (s.power.resetN =
    false) ∧ (s.power.aonReset = false) ∧ (s.power.lowRails = []) :=
  ⟨State.reset, false, 0x1FFF000, by decide +kernel⟩
theorem witness_BootPicksAnImage_2 :
    ∃ (s : State) (a : Nat), (s.served = true) ∧ (s.powerState ≠ 1) ∧ (s.bit IMG_STATUS.CMD_BUSY = false) ∧ (s.bit
    IMG_STATUS.RECOVERY = false) :=
  ⟨aClocked.wr IMG_STATUS.BOOT_SLOT 1, 0x1FFF000, by decide +kernel⟩
theorem witness_BootPicksAnImage_3 :
    ∃ (s : State) (bs : List Byte) (a : Nat), (s.chip = some bs) ∧ (s.power.inReset = false) ∧ (s.bit
    IMG_STATUS.RECOVERY = false) ∧ (imgConfirmAfter bs ≠ 0) ∧ (s.power.watchdogSeen = false) ∧ (s.bit
    IMG_STATUS.CONFIRMED = false) ∧ (s.powerState = 0) :=
  ⟨aClocked.setChip (some anImage), anImage, 0xFFF000, by decide +kernel⟩
theorem witness_BootPicksAnImage_4 :
    ∃ (s : State) (bs : List Byte), (s.served = true) ∧ (s.powerState ≠ 1) ∧ (s.bit IMG_STATUS.CMD_BUSY = false) ∧
    (s.bit IMG_STATUS.RECOVERY = false) ∧ (s.bit IMG_STATUS.CONFIRMED = true) ∧ (s.chip = some bs) :=
  ⟨(aClocked.setChip (some anImage)).on IMG_STATUS.CONFIRMED, anImage, by decide +kernel⟩
theorem witness_BootPicksAnImage_5 :
    ∃ (s : State), (s.served = true) ∧ (s.powerState ≠ 1) ∧ (s.bit IMG_STATUS.CMD_BUSY = false) ∧ (s.bit
    IMG_STATUS.CONFIRMED = false) :=
  ⟨aClocked, by decide +kernel⟩
theorem witness_ImageWritesAndKeys_1 :
    ∃ (s : State) (len : Nat), (s.served = true) ∧ (s.powerState ≠ 1) ∧ (s.bit IMG_STATUS.CMD_BUSY = false) ∧ (s.bit
    IMG_STATUS.RECOVERY = false) ∧ (s.calStore = none) ∧ (len % 4096 ≠ 0) :=
  ⟨aClocked.wr IMG_STATUS.BOOT_SLOT 1, 16, by decide +kernel⟩
theorem witness_ImageWritesAndKeys_2 :
    ∃ (s : State) (len : Nat), (s.served = true) ∧ (s.powerState ≠ 1) ∧ (s.bit IMG_STATUS.CMD_BUSY = true) :=
  ⟨aClocked.on IMG_STATUS.CMD_BUSY, 16, by decide +kernel⟩
theorem witness_ImageWritesAndKeys_3 :
    ∃ (s : State) (w : ImgWrite) (a : Nat), (s.imgOp = some (.write w)) ∧ (w.step = 1) :=
  ⟨{ aClocked.setImgOp (some (.write aWrite)) with flash := [(0x10, 3), (0x1FFF000, 0)] }, aWrite, 0x1FFF000, by decide +kernel⟩
theorem witness_ImageWritesAndKeys_4 :
    ∃ (s : State) (w : ImgWrite) (a : Nat), (s.imgOp = some (.write w)) ∧ (w.step = 2) :=
  ⟨{ aClocked.setImgOp (some (.write { aWrite with step := 2 })) with flash := [(0x1000010, 3), (0x1001000, 0)] }, { aWrite with step := 2 }, 0x1000010, by decide +kernel⟩
theorem witness_ImageWritesAndKeys_4b :
    ∃ (s : State) (w : ImgWrite) (a : Nat), (s.imgOp = some (.write w)) ∧ (w.step = 2) :=
  ⟨{ aClocked.setImgOp (some (.write { aWrite with step := 2 })) with flash := [(0x1000010, 3), (0x1001000, 0)] }, { aWrite with step := 2 }, 0x1001000, by decide +kernel⟩
theorem witness_ImageWritesAndKeys_5 :
    ∃ (s : State) (w : ImgWrite) (a : Nat), (s.imgOp = some (.write w)) ∧ (w.step = 3) ∧ (w.data.length = w.len) :=
  ⟨aClocked.setImgOp (some (.write { aWrite with step := 3, data := zeros 4096 })), { aWrite with step := 3, data := zeros 4096 }, 7, by exact ⟨rfl, rfl, List.length_replicate⟩⟩
theorem witness_ImageWritesAndKeys_6 :
    ∃ (s : State) (w : ImgWrite) (a : Nat), (s.imgOp = some (.write w)) ∧ (w.step = 4) ∧ (4096 ≤ w.data.length) ∧ (a <
    4096) :=
  ⟨aClocked.setImgOp (some (.write { aWrite with step := 4, data := zeros 4096 })), { aWrite with step := 4, data := zeros 4096 }, 7, by exact ⟨rfl, rfl, Nat.le_of_eq (List.length_replicate).symm, by decide⟩⟩
theorem witness_ImageWritesAndKeys_7 :
    ∃ (s : State) (w : ImgWrite), (s.imgOp = some (.write w)) ∧ (w.step = 5) ∧ (s.storeWait = false) :=
  ⟨aClocked.setImgOp (some (.write { aWrite with step := 5 })), { aWrite with step := 5 }, by decide +kernel⟩
theorem witness_ImageWritesAndKeys_8 :
    ∃ (s : State) (w : ImgWrite) (a : Nat), (s.imgOp = some (.write w)) ∧ (1 ≤ w.step ∧ w.step ≤ 4) ∧ (s.storeWait =
    false) ∧ (a < w.area.1 ∨ w.area.1 + w.area.2 ≤ a) :=
  ⟨aClocked.setImgOp (some (.write { aWrite with step := 4 })), { aWrite with step := 4 }, 0x1001000, by decide +kernel⟩
theorem witness_ImageWritesAndKeys_9 :
    ∃ (s : State) (k : EngineId), (s.served = true) ∧ (s.powerState ≠ 1) ∧ (s.bit IMG_STATUS.CMD_BUSY = false) ∧
    (s.bit IMG_STATUS.RECOVERY = false) ∧ (s.imgOp = none) ∧ ((List.range 128).find? (fun n => s.rd (ENG_STATUS.STATE
    n) == engRunning) = some k.val) :=
  ⟨aClocked, 0, by decide +kernel⟩
theorem witness_ImageWritesAndKeys_10 :
    ∃ (s : State), (s.served = true) ∧ (s.powerState ≠ 1) ∧ (s.bit IMG_STATUS.CMD_BUSY = false) ∧ (s.lastWritten =
    none) :=
  ⟨aClocked, by decide +kernel⟩
theorem witness_ImageWritesAndKeys_11 :
    ∃ (s : State) (slot : Fin 4) (g : Nat), (s.served = true) ∧ (s.powerState ≠ 1) ∧ (s.bit IMG_STATUS.CMD_BUSY =
    false) ∧ (slot.val ≠ 0) ∧ (s.rd (IMG_KEYS.SLOT slot) = 0) ∧ (s.sliceHeld 0 = false) ∧ (s.freeTag = some g) :=
  ⟨aClocked, 2, 0, by decide +kernel⟩
theorem witness_ImageWritesAndKeys_12 :
    ∃ (s : State) (slot : Fin 4), (s.served = true) ∧ (s.powerState ≠ 1) ∧ (s.bit IMG_STATUS.CMD_BUSY = false) ∧ (s.rd
    (IMG_KEYS.SLOT slot) ≠ 0) :=
  ⟨aClocked, 0, by decide +kernel⟩
theorem witness_ImageWritesAndKeys_13 :
    ∃ (s : State) (slot : Fin 4), (s.served = true) ∧ (s.powerState ≠ 1) ∧ (s.bit IMG_STATUS.CMD_BUSY = false) ∧
    ((List.range 4).any (fun n => n != slot.val && s.rd (IMG_KEYS.SLOT n) == 1) = true) :=
  ⟨aClocked, 2, by decide +kernel⟩
theorem witness_ImageWritesAndKeys_14 :
    ∃ (s : State) (slot : Fin 4), (s.served = true) ∧ (s.powerState ≠ 1) ∧ (s.bit IMG_STATUS.CMD_BUSY = false) ∧
    ((List.range 4).any (fun n => n != slot.val && s.rd (IMG_KEYS.SLOT n) == 1) = false) :=
  ⟨aClocked, 0, by decide +kernel⟩
theorem witness_TransactionsOpenAndStage_1 :
    ∃ (s : State), (s.hosted = true) ∧ (s.powerState ≠ 1) ∧ (s.mgmt.coresDown = false) ∧ (s.txnState = xIDLE) :=
  ⟨aClocked, by decide +kernel⟩
theorem witness_TransactionsOpenAndStage_2 :
    ∃ (s : State) (p : PortId) (v : Nat), (s.hosted = true) ∧ (s.txnState = xOPEN) ∧ (s.inScope p = true) ∧
    (s.txn.size < 8192) :=
  ⟨anOpen, 0, 0x83000204, by decide +kernel⟩
theorem witness_TransactionsOpenAndStage_3 :
    ∃ (s : State) (p : PortId) (v : Nat), (s.hosted = true) ∧ (s.txnState ≠ xOPEN ∨ s.inScope p = false) :=
  ⟨aClocked, 0, 1, by decide +kernel⟩
theorem witness_TransactionsOpenAndStage_3b :
    ∃ (s : State) (p : PortId) (v : Nat), (s.hosted = true) ∧ (s.txnState ≠ xOPEN ∨ s.inScope p = false) :=
  ⟨anOpen, 9, 1, by decide +kernel⟩
theorem witness_TransactionsOpenAndStage_4 :
    ∃ (s : State) (hi : Nat), (s.hosted = true) ∧ (s.txnState = xOPEN) ∧ (s.bit TXN_SCOPE_G.CHANNEL_TABLE = true) ∧
    (s.txn.size + 2 ≤ 8192) :=
  ⟨setAll anOpen [(TXN_SCOPE_G.CHANNEL_TABLE, 1), (IMG_BCT_INDEX.INDEX, 7), (IMG_BCT.ENTRY 0, 9)], 5, by decide +kernel⟩
theorem witness_TransactionsOpenAndStage_5 :
    ∃ (s : State), (s.hosted = true) ∧ (s.powerState ≠ 1) ∧ (s.mgmt.coresDown = false) ∧ (s.txnState = xOPEN) ∧
    (s.nowNs + 10000000000 < 2 ^ 64) :=
  ⟨anOpen, by decide +kernel⟩
theorem witness_TransactionsOpenAndStage_5b :
    ∃ (s : State), (s.hosted = true) ∧ (s.powerState ≠ 1) ∧ (s.mgmt.coresDown = false) ∧ (s.txnState = xOPEN) ∧
    (s.nowNs + 10000000000 < 2 ^ 64) :=
  ⟨setAll anOpen [(TXN_TIME.TIME 0, 5), (TXN_TIME.TIME 1, 5)], by decide +kernel⟩
theorem witness_TransactionsOpenAndStage_6 :
    ∃ (s : State), (s.hosted = true) ∧ (s.powerState ≠ 1) ∧ (s.mgmt.coresDown = false) ∧ (s.txnState = xOPEN ∨
    s.txnState = xVALIDATING ∨ s.txnState = xSCHEDULED) :=
  ⟨anOpen, by decide +kernel⟩
theorem witness_TransactionsCommitOrFail_1 :
    ∃ (s : State) (r : Nat × Nat), (s.txnState = xVALIDATING) ∧ (s.commitRefusal (s.staging.clamped s.scopePorts) =
    some r) :=
  ⟨(anOpen.wr TXN_STATUS.STATE 2).upX (fun x => { x with overflow := true }), (0xA, 0xFF), by decide +kernel⟩
theorem witness_TransactionsCommitOrFail_2 :
    ∃ (s : State), (s.txnState = xVALIDATING) ∧ (s.commitRefusal (s.staging.clamped s.scopePorts) = none) :=
  ⟨anOpen.wr TXN_STATUS.STATE 2, by decide +kernel⟩
theorem witness_TransactionsCommitOrFail_3 :
    ∃ (s : State) (v old : Nat), (s.txnState = xSCHEDULED) ∧ (s.txn.changes = [⟨none, TRC_TRIG_CTRL.SRC_EN, v, old⟩])
    ∧ (s.txn.restruct = []) ∧ (v < 16) :=
  ⟨(setAll anOpen [(TXN_STATUS.STATE, 3), (TXN_TIME.TIME 0, 900000)]).upX (fun x => { x with changes := [⟨none, TRC_TRIG_CTRL.SRC_EN, 3, 15⟩] }), 3, 15, by decide +kernel⟩
theorem witness_TransactionsCommitOrFail_4 :
    ∃ (s : State) (p : PortId) (c : Cell) (v old : Nat), (s.txnState = xSCHEDULED) ∧ (s.txn.changes = [⟨some p.val, c,
    v, old⟩]) ∧ (s.txn.restruct = []) ∧ (s.txn.lost = []) ∧ (s.enabled p = true) :=
  ⟨(anOpen.wr TXN_STATUS.STATE 3).upX (fun x => { x with changes := [⟨some 0, PRT_TRL_CTRL.CORR_LIMIT 1, 9, 32⟩] }), 0, PRT_TRL_CTRL.CORR_LIMIT 1, 9, 32, by decide +kernel⟩
theorem witness_TransactionsCommitOrFail_5 :
    ∃ (s : State) (p : PortId) (i : TileId) (c : Cell) (v old : Nat), (s.txnState = xSCHEDULED) ∧ (s.txn.changes =
    [⟨some p.val, c, v, old⟩]) ∧ (c.key / 32 ≠ TXN_STATUS.off) ∧ (s.txn.restruct = []) ∧ (s.txn.lost = [i.val]) ∧
    (s.tileOf p = i) :=
  ⟨(anOpen.wr TXN_STATUS.STATE 3).upX (fun x => { x with lost := [0], changes := [⟨some 0, PRT_TRL_CTRL.CORR_LIMIT 1, 9, 32⟩] }), 0, 0, PRT_TRL_CTRL.CORR_LIMIT 1, 9, 32, by decide +kernel⟩
theorem witness_TransactionsCommitOrFail_6 :
    ∃ (s : State) (h : HalfId) (q v old : Nat) (b : Boundary), (s.claim h = some q) ∧ (q % 2 = 0) ∧ (s.isSeg (q + 1) =
    false) ∧ (s.governs q h = true) ∧ ((s.portx (q / 2)).applyAB = true) ∧ ((s.portx (q / 2)).applyBA = false) ∧
    (s.txnState = xAPPLYING) ∧ (s.txn.waiting = [q / 2]) ∧ (s.txn.restruct = []) ∧ (s.txn.changes = [⟨some (q / 2),
    PRT_TRL_CTRL.CORR_LIMIT q, v, old⟩]) ∧ (v < 2 ^ 8) ∧ ((s.half h).pendingSet = none) ∧ (s.isApplyPoint h b = true)
    :=
  ⟨((aLive.wr TXN_STATUS.STATE 4).upX (fun x => { x with waiting := [0], changes := [⟨some 0, PRT_TRL_CTRL.CORR_LIMIT 0, 9, 32⟩] })).upP 0 (fun x => { x with applyAB := true }), 0, 0, 9, 32, .dclk, by decide +kernel⟩
theorem witness_TransactionsCommitOrFail_7 :
    ∃ (s : State) (h : HalfId) (q : Nat) (c : CalSet) (temp : Int) (b : Boundary), (s.claim h = some q) ∧ (s.isSeg
    (otherSide q) = false) ∧ ((s.portx (q / 2)).applyAB = false) ∧ ((s.portx (q / 2)).applyBA = false) ∧ ((s.half
    h).pendingSet = some (c, temp)) ∧ (s.engineUp h = true) ∧ ((s.half h).run = none) ∧ ((s.engine (engineOf h)).slot
    = none) ∧ (s.isApplyPoint h b = true) :=
  ⟨aLive.upH 0 (fun x => { x with pendingSet := some (⟨List.replicate 52 1⟩, 100) }), 0, 0, ⟨List.replicate 52 1⟩, 100, .dclk, by decide +kernel⟩
theorem witness_TransactionsCommitOrFail_8 :
    ∃ (s : State) (p : PortId), (s.txnState = xAPPLYING) ∧ (s.txn.waiting.contains p.val = true) ∧ (s.txn.changes.all
    (fun c => c.cell.key / 32 != TXN_STATUS.off) = true) ∧ (s.missingTile p = none) :=
  ⟨(anOpen.wr TXN_STATUS.STATE 4).upX (fun x => { x with waiting := [0] }), 0, by decide +kernel⟩
theorem witness_TransactionsCommitOrFail_9 :
    ∃ (s : State) (p : PortId) (v old : Nat), (s.txnState = xAPPLYING) ∧ (s.txn.waiting = [p.val]) ∧ (s.txn.applied =
    []) ∧ (s.txn.changes = [⟨none, TRC_TRIG_CTRL.SRC_EN, v, old⟩]) ∧ (old < 16) :=
  ⟨(setAll anOpen [(TXN_STATUS.STATE, 4), (TRC_TRIG_CTRL.SRC_EN, 3)]).upX (fun x => { x with waiting := [0], changes := [⟨none, TRC_TRIG_CTRL.SRC_EN, 3, 15⟩] }), 0, 3, 15, by decide +kernel⟩
theorem witness_TransactionsCommitOrFail_10 :
    ∃ (s : State) (p : PortId), (s.txnState = xROLLING) ∧ (s.txn.back = [p.val]) ∧ (s.txn.changes = []) :=
  ⟨(anOpen.wr TXN_STATUS.STATE 5).upX (fun x => { x with back := [0] }), 0, by decide +kernel⟩
theorem witness_TransactionsCommitOrFail_11 :
    ∃ (s : State) (p : PortId), (s.txnState = xAPPLYING) ∧ (s.txn.waiting.contains p.val = true) ∧ (s.txn.changes.all
    (fun c => c.cell.key / 32 != TXN_STATUS.off) = true) :=
  ⟨(anOpen.wr TXN_STATUS.STATE 4).upX (fun x => { x with waiting := [0] }), 0, by decide +kernel⟩
theorem witness_TransactionsCommitOrFail_12 :
    ∃ (s : State) (i : TileId), (s.txnState = xAPPLYING) ∧ (s.txn.tiles.contains i.val = true) ∧ (s.tileState i ≠ 2) ∧
    (s.txn.changes.all (fun c => c.cell.key / 32 != TXN_STATUS.off) = true) :=
  ⟨(anOpen.wr TXN_STATUS.STATE 4).upX (fun x => { x with tiles := [3] }), 3, by decide +kernel⟩
theorem witness_TransactionsCommitOrFail_13 :
    ∃ (s : State), (s.txnState = xROLLING) ∧ (s.txn.back = []) ∧ (s.txn.restruct = []) :=
  ⟨(anOpen.wr TXN_STATUS.STATE 5).upX (fun x => { x with reason := 0xB, index := 0 }), by decide +kernel⟩
theorem witness_RequestsAndCompletions_1 :
    ∃ (s : State) (w : Bool) (bar : Bar) (addr n f l data header : Nat), (s.mgmtUp = true) ∧ (s.mgmt.d3hot = true) :=
  ⟨aClocked.upM (fun m => { m with d3hot := true }), false, .bar0, 0, 1, 15, 0, 0, 1, by decide +kernel⟩
theorem witness_RequestsAndCompletions_2 :
    ∃ (s : State) (w : Bool) (addr n f l data header : Nat), (s.mgmtUp = true) ∧ (s.mgmt.d3hot = false) ∧ (n ≠ 1) ∧ (n
    ≠ 2) :=
  ⟨aClocked, false, 0, 3, 15, 15, 0, 1, by decide +kernel⟩
theorem witness_RequestsAndCompletions_3 :
    ∃ (s : State) (data header : Nat), (s.mgmtUp = true) ∧ (s.mgmt.d3hot = false) :=
  ⟨aClocked, 0, 1, by decide +kernel⟩
theorem witness_RequestsAndCompletions_4 :
    ∃ (s : State) (span : ReqSpan) (header : Nat), s.mgmtUp = true :=
  ⟨aClocked, ⟨1, 15, 0, 0⟩, 1, by decide +kernel⟩
theorem witness_RequestsAndCompletions_5 :
    ∃ (s : State) (span : ReqSpan) (header : Nat), s.mgmtUp = true :=
  ⟨aClocked, ⟨1, 15, 0, 0⟩, 1, by decide +kernel⟩
theorem witness_RequestsAndCompletions_6 :
    ∃ (s : State) (addr : Nat) (span : ReqSpan) (header : Nat), (s.power.bootDue = true) ∧ (s.mgmt.perst = false) ∧
    (s.mgmtUp = false) :=
  ⟨{ State.reset with power := { State.reset.power with bootDue := true } }, 0, ⟨1, 15, 0, 0⟩, 1, by decide +kernel⟩
theorem witness_RequestsAndCompletions_7 :
    ∃ (s : State) (tag : TagId) (header since k i first : Nat) (e : List Byte), (s.mgmtUp = true) ∧ (s.tag tag =
    .outstanding (.ring k i first 1) since) ∧ (s.mgmt.readQueue = []) ∧ (validOp (cmdOp e) = true) :=
  ⟨(aRing aClocked 1 (anEntry 0 0 [])).setTag 4 (.outstanding (.ring 1 0 5 1) 0), 4, 1, 0, 1, 0, 5, anEntry 2 0 [], by decide +kernel⟩
theorem witness_RequestsAndCompletions_8 :
    ∃ (s : State) (tag : TagId) (header since k i first n : Nat) (data : ReadData), (s.mgmtUp = true) ∧ (s.tag tag =
    .outstanding (.ring k i first n) since) ∧ (s.mgmt.readQueue = []) ∧ (s.ringState k i ≠ rDISABLED) ∧ (s.sliceActive
    k = true) ∧ (s.mgmt.coresDown = false) ∧ ((s.ringx k i).order = []) :=
  ⟨(aRing aClocked 1 (anEntry 0 0 [])).setTag 4 (.outstanding (.ring 1 0 5 1) 0), 4, 1, 0, 1, 0, 5, 1, .bytes [], by decide +kernel⟩
theorem witness_RequestsAndCompletions_9 :
    ∃ (s : State) (tag : TagId) (header : Nat) (status : CplStatus) (data : ReadData), (s.mgmtUp = true) ∧ (s.tag tag
    = .free) ∧ (bitAt s.mgmt.uncSeverity 16 = false) :=
  ⟨aClocked, 4, 1, .ok, .bytes [], by decide +kernel⟩
theorem witness_RequestsAndCompletions_10 :
    ∃ (s : State) (tag : TagId) (since k i first n : Nat), (s.tag tag = .outstanding (.ring k i first n) since) ∧
    (s.awake = true) ∧ (s.mgmt.ctoDisable = false) ∧ (s.mgmt.readQueue = []) :=
  ⟨(aRing aClocked 1 (anEntry 0 0 [])).setTag 4 (.outstanding (.ring 1 0 5 1) 0), 4, 0, 1, 0, 5, 1, by decide +kernel⟩
theorem witness_RequestsAndCompletions_11 :
    ∃ (s : State) (tag : TagId) (e : Nat) (quiet : Bool), (s.tag tag = .retired e quiet) ∧ (s.awake = true) ∧
    (s.mgmt.readQueue = []) :=
  ⟨aClocked.setTag 4 (.retired 900 false), 4, 900, false, by decide +kernel⟩
theorem witness_RequestsAndCompletions_12 :
    ∃ (s : State), (s.mgmtUp = true) ∧ (s.mgmt.ctoDisable = true) :=
  ⟨aClocked.upM (fun m => { m with ctoDisable := true }), by decide +kernel⟩
theorem witness_HoldsBeginAndEnd_1 :
    ∃ (s : State), (s.mgmtUp = true) ∧ (s.held = false) :=
  ⟨aClocked.setTag 4 (.outstanding (.ring 1 0 5 1) 0), by decide +kernel⟩
theorem witness_HoldsBeginAndEnd_2 :
    ∃ (s : State) (r : Fin 8) (w : Fin 4) (f : Bool), s.mgmtUp = true :=
  ⟨aClocked.on GLB_MGMT_STATUS.LINK_UP, 2, 1, true, by decide +kernel⟩
theorem witness_HoldsBeginAndEnd_3 :
    ∃ (s : State), (s.mgmtUp = true) ∧ (s.mgmt.d3hot = false) ∧ (s.bit GLB_MGMT_STATUS.LINK_UP = true) ∧ (s.held =
    true) :=
  ⟨(aClocked.on GLB_MGMT_STATUS.LINK_UP).on GLB_MGMT_STATUS.DMA_HELD, by decide +kernel⟩
theorem witness_HoldsBeginAndEnd_4 :
    ∃ (s : State) (r : Fin 8) (w : Fin 4) (f : Bool), (s.mgmtUp = true) ∧ (s.mgmt.d3hot = false) ∧ (s.mgmt.bme = true)
    :=
  ⟨(aClocked.upM (fun m => { m with bme := true })).on GLB_MGMT_STATUS.DMA_HELD, 3, 2, false, by decide +kernel⟩
theorem witness_HoldsBeginAndEnd_5 :
    ∃ (s : State), (s.mgmtUp = true) ∧ (s.held = false) :=
  ⟨aClocked, by decide +kernel⟩
theorem witness_HoldsBeginAndEnd_6 :
    ∃ (s : State), (s.mgmtUp = true) ∧ (s.mgmt.bme = true) ∧ (s.bit GLB_MGMT_STATUS.LINK_UP = true) ∧ (s.held = true)
    :=
  ⟨((aClocked.upM (fun m => { m with bme := true, d3hot := true })).on GLB_MGMT_STATUS.DMA_HELD).on GLB_MGMT_STATUS.LINK_UP, by decide +kernel⟩
theorem witness_HoldsBeginAndEnd_7 :
    ∃ (s : State), (s.mgmtUp = true) ∧ (s.bit GLB_MGMT_STATUS.LINK_UP = true) :=
  ⟨(aClocked.setTag 4 (.outstanding (.ring 1 0 5 1) 0)).on GLB_MGMT_STATUS.LINK_UP, by decide +kernel⟩
theorem witness_HoldsBeginAndEnd_8 :
    ∃ (s : State), (s.mgmtUp = true) ∧ (s.mgmt.aspmL1 = true) ∧ (s.bit GLB_MGMT_STATUS.LINK_UP = true) :=
  ⟨(aClocked.upM (fun m => { m with aspmL1 := true })).on GLB_MGMT_STATUS.LINK_UP, by decide +kernel⟩
theorem witness_HoldsBeginAndEnd_9 :
    ∃ (s : State), s.mgmtUp = true :=
  ⟨aClocked.upM (fun m => { m with inL1 := true }), by decide +kernel⟩
theorem witness_ManagementResetsDestroySlices_1 :
    ∃ (s : State), s.mgmtUp = true :=
  ⟨aClocked, by decide +kernel⟩
theorem witness_ManagementResetsDestroySlices_2 :
    ∃ (s : State), (s.mgmtUp = true) ∧ (s.bit GLB_MGMT_STATUS.LINK_UP = true) :=
  ⟨aClocked.on GLB_MGMT_STATUS.LINK_UP, by decide +kernel⟩
theorem witness_ManagementResetsDestroySlices_3 :
    ∃ (s : State), (s.mgmtUp = true) ∧ (s.bit GLB_MGMT_STATUS.LINK_UP = true) :=
  ⟨aClocked.on GLB_MGMT_STATUS.LINK_UP, by decide +kernel⟩
theorem witness_ManagementResetsDestroySlices_4 :
    ∃ (s : State), (s.mgmt.perst = false) ∧ (s.power.inReset = false) ∧ (s.powerState ≠ 3 ∧ s.powerState ≠ 4) :=
  ⟨aClocked.upM (fun m => { m with uncStatus := 5 }), by decide +kernel⟩
theorem witness_ManagementResetsDestroySlices_5 :
    ∃ (s : State), (s.mgmt.perst = false) ∧ (s.power.inReset = false) ∧ (s.powerState = 3) ∧ (s.power.entry = none) :=
  ⟨aRest 3, by decide +kernel⟩
theorem witness_ManagementResetsDestroySlices_6 :
    ∃ (s : State), (s.mgmt.perst = true) ∧ (s.powerState ≠ 3) :=
  ⟨aQuiet 2, by decide +kernel⟩
theorem witness_FunctionReportsErrors_1 :
    ∃ (s : State) (v : Fin 2048), (s.mgmtUp = true) ∧ (s.mgmt.pba = [v.val]) ∧ (s.mgmt.msixEnable = true) ∧
    (s.mgmt.functionMask = false) ∧ (s.held = false) ∧ (s.msixWord (4 * v) ≠ 0) :=
  ⟨aClocked.upM (fun m => { m with pba := [6], msixEnable := true, msix := ⟨[(24, 0x1000)]⟩ }), 6, by decide +kernel⟩
theorem witness_FunctionReportsErrors_2 :
    ∃ (s : State), (s.powerState ≤ 1) ∧ (s.power.inReset = false) ∧ (s.power.wake = none) :=
  ⟨aClocked, by decide +kernel⟩
theorem witness_FunctionReportsErrors_3 :
    ∃ (s : State), (s.powerState ≤ 1) ∧ (s.power.inReset = false) ∧ (s.power.wake = none) ∧ (s.mgmt.d3hot = true ∧
    s.mgmt.pmeEn = true ∧ s.mgmt.pmeStatus = true ∧ s.mgmt.perst = false) ∧ (s.mgmt.pmeAt + 100000 * usUnit ≤
    s.elapsed) ∧ (s.bit GLB_MGMT_STATUS.LINK_UP = true ∧ s.mgmt.turnedOff = false) :=
  ⟨((aClocked.on GLB_MGMT_STATUS.LINK_UP).setElapsed (200000 * usUnit)).upM (fun m => { m with d3hot := true, pmeEn := true, pmeStatus := true }), by decide +kernel⟩
theorem witness_FunctionReportsErrors_4 :
    ∃ (s : State), (s.mgmtUp = true) ∧ (bitAt s.mgmt.corMask 6 = false) ∧ (bitAt s.mgmt.reports 0 = true) :=
  ⟨aClocked.upM (fun m => { m with reports := 1 }), by decide +kernel⟩
theorem witness_FunctionReportsErrors_5 :
    ∃ (s : State) (header : Nat), (s.mgmtUp = true) ∧ (bitAt s.mgmt.uncMask 18 = false) ∧ (bitAt s.mgmt.uncSeverity 18
    = true) ∧ (bitAt s.mgmt.reports 2 = true) ∧ (s.mgmt.firstError = none) :=
  ⟨aClocked.upM (fun m => { m with reports := 7 }), 77, by decide +kernel⟩
theorem witness_FunctionReportsErrors_6 :
    ∃ (s : State), s.mgmtUp = true :=
  ⟨aClocked, by decide +kernel⟩
theorem witness_FunctionReportsErrors_7 :
    ∃ (s : State), s.mgmtUp = true :=
  ⟨aClocked, by decide +kernel⟩
theorem witness_FunctionReportsErrors_8 :
    ∃ (s : State) (core : Fin 4), s.awake = true :=
  ⟨aClocked, 2, by decide +kernel⟩
theorem witness_FunctionReportsErrors_9 :
    ∃ (s : State) (v : Nat), s.mgmtUp = true :=
  ⟨aClocked, 2, by decide +kernel⟩
theorem witness_FunctionReportsErrors_9b :
    ∃ (s : State) (v : Nat), s.mgmtUp = true :=
  ⟨aClocked, 3, by decide +kernel⟩
theorem witness_FunctionReportsErrors_10 :
    ∃ (s : State) (v : Nat), s.mgmtUp = true :=
  ⟨aClocked.upM (fun m => { m with pmeStatus := true }), 1, by decide +kernel⟩
theorem witness_FunctionReportsErrors_11 :
    ∃ (s : State) (v : Nat), s.mgmtUp = true :=
  ⟨aClocked.upM (fun m => { m with uncStatus := 0x40010 }), 0x10, by decide +kernel⟩
theorem witness_FunctionReportsErrors_12 :
    ∃ (s : State) (v : Nat), s.mgmtUp = true :=
  ⟨aClocked, 0x1B, by decide +kernel⟩
theorem witness_SlicesAreCreatedAndDestroyed_1 :
    ∃ (s : State) (k : SliceId), (s.hosted = true) ∧ (s.powerState ≠ 1) ∧ (s.sliceState k = slFREE) ∧ (s.mgmt.pasid =
    true) ∧ ((s.otherSlices k).any (fun j => s.rd (SLC_CTRL.PASID j) == s.rd (SLC_CTRL.PASID k)) = false) ∧
    ((s.ringRanges k).any (insideRange (s.rd (SLC_RINGS.BASE k))) = false) ∧ ((s.vectorRanges k).any (insideRange
    (s.rd (SLC_VECTORS.BASE k))) = false) :=
  ⟨setAll aTrace [(SLC_RINGS.BASE 2, 8), (SLC_RINGS.COUNT 2, 4), (SLC_CTRL.PASID 2, 9), (SLC_VECTORS.BASE 2, 40), (SLC_SHARE.TOKENS 2, 100)], 2, by decide +kernel⟩
theorem witness_SlicesAreCreatedAndDestroyed_2 :
    ∃ (s : State) (k : SliceId), (s.hosted = true) ∧ (s.powerState ≠ 1) ∧ (s.sliceState k ≠ slFREE) :=
  ⟨aTrace, 1, by decide +kernel⟩
theorem witness_SlicesAreCreatedAndDestroyed_3 :
    ∃ (s : State) (k : SliceId), (s.hosted = true) ∧ (s.powerState ≠ 1) ∧ (s.sliceState k = slACTIVE) :=
  ⟨aRing aTrace 1 (anEntry 0 0 []), 1, by decide +kernel⟩
theorem witness_SlicesAreCreatedAndDestroyed_4 :
    ∃ (s : State) (k : SliceId), (s.hosted = true) ∧ (s.powerState ≠ 1) ∧ (s.sliceState k ≠ slACTIVE) :=
  ⟨aTrace, 5, by decide +kernel⟩
theorem witness_SlicesAreCreatedAndDestroyed_5 :
    ∃ (s : State) (k : SliceId), (s.hosted = true) ∧ (s.powerState ≠ 1) ∧ (s.sliceState k = slACTIVE) :=
  ⟨aTrace, 1, by decide +kernel⟩
theorem witness_SlicesAreCreatedAndDestroyed_6 :
    ∃ (s : State) (k : SliceId), (s.hosted = true) ∧ (s.powerState ≠ 1) ∧ (k.val ≠ 0) ∧ (s.sliceState k = slACTIVE) :=
  ⟨aTrace, 1, by decide +kernel⟩
theorem witness_SlicesAreCreatedAndDestroyed_7 :
    ∃ (s : State) (k : SliceId), (s.hosted = true) ∧ (s.powerState ≠ 1) ∧ (k.val ≠ 0) ∧ (s.sliceState k = slRESETTING)
    :=
  ⟨aTrace.wr (SLC_STATUS.STATE 1) 2, 1, by decide +kernel⟩
theorem witness_SlicesAreCreatedAndDestroyed_8 :
    ∃ (s : State), (s.hosted = true) ∧ (s.powerState ≠ 1) :=
  ⟨aTrace, by decide +kernel⟩
theorem witness_SlicesAreCreatedAndDestroyed_9 :
    ∃ (s : State) (k : SliceId), (s.sliceState k = slRESETTING) ∧ (s.oldJobs k = false) ∧ (s.bit
    (SLC_STATUS.DESTROY_PENDING k) = false) ∧ (s.awake = true) :=
  ⟨aTrace.wr (SLC_STATUS.STATE 1) 2, 1, by decide +kernel⟩
theorem witness_SlicesAreCreatedAndDestroyed_10 :
    ∃ (s : State) (k : SliceId), (s.sliceState k = slDESTROYING) ∧ (s.oldJobs k = false) ∧ (s.mgmt.s0Due = false) ∧
    (s.awake = true) :=
  ⟨aTrace.wr (SLC_STATUS.STATE 1) 3, 1, by decide +kernel⟩
theorem witness_SharesAndVisibilityChange_1 :
    ∃ (s : State) (k : SliceId) (value : Nat), (s.hosted = true) ∧ (s.sliceState k = slACTIVE) :=
  ⟨aTrace, 1, 900, by decide +kernel⟩
theorem witness_SharesAndVisibilityChange_2 :
    ∃ (s : State) (k : SliceId) (value : Nat), (s.hosted = true) ∧ (s.sliceState k = slACTIVE) :=
  ⟨aTrace, 1, 4000, by decide +kernel⟩
theorem witness_SharesAndVisibilityChange_3 :
    ∃ (s : State) (k : SliceId) (value : Nat), (s.hosted = true) ∧ (s.sliceState k = slACTIVE) :=
  ⟨aTrace, 1, 100 * 2 ^ 18 + 2, by decide +kernel⟩
theorem witness_SharesAndVisibilityChange_4 :
    ∃ (s : State) (k : SliceId) (hi : Bool) (value : Nat), s.hosted = true :=
  ⟨aTrace.upW 0 1 (fun _ => { owner := some 1 }), 1, false, 0, by decide +kernel⟩
theorem witness_SharesAndVisibilityChange_5 :
    ∃ (s : State) (v : Bool), s.mgmtUp = true :=
  ⟨aTrace, false, by decide +kernel⟩
theorem witness_SharesAndVisibilityChange_5b :
    ∃ (s : State) (v : Bool), s.mgmtUp = true :=
  ⟨aTrace.upM (fun m => { m with pasid := false }), true, by decide +kernel⟩
theorem witness_RingsAreKept_1 :
    ∃ (s : State) (k : SliceId) (i : RingId) (ctrl : Nat), (s.hosted = true) ∧ (s.ringHere k i = true) ∧ (s.ringState
    k i = rDISABLED) :=
  ⟨aTrace, 1, 3, 0xA0500000, by decide +kernel⟩
theorem witness_RingsAreKept_2 :
    ∃ (s : State) (k : SliceId) (i : RingId) (ctrl : Nat), (s.hosted = true) ∧ (s.ringHere k i = true) ∧ (s.ringState
    k i ≠ rDISABLED) :=
  ⟨aRing aTrace 1 (anEntry 0 0 []), 1, 0, 0, by decide +kernel⟩
theorem witness_RingsAreKept_3 :
    ∃ (s : State) (k : SliceId) (i : RingId), (s.hosted = true) ∧ (s.ringHere k i = true) ∧ (s.rd (RNG_CTRL.KIND k i)
    = 0) ∧ (s.ringState k i = rERROR) :=
  ⟨(aRing aTrace 1 (anEntry 0 0 [])).wr (RNG_STATUS.STATE 1 0) 3, 1, 0, by decide +kernel⟩
theorem witness_RingsAreKept_4 :
    ∃ (s : State) (k : SliceId) (i : RingId) (index : Nat), (s.hosted = true) ∧ (s.powerState ≠ 1) ∧ (s.ringHere k i =
    true) ∧ (s.ringState k i ≠ rDISABLED) ∧ (s.rd (RNG_CTRL.KIND k i) = 0) ∧ (index < s.ringSize k i) ∧ (index < 2 ^
    16) :=
  ⟨aRing aTrace 1 (anEntry 0 0 []), 1, 0, 9, by decide +kernel⟩
theorem witness_RingsAreKept_5 :
    ∃ (s : State) (k : SliceId) (i : RingId) (index : Nat), (s.hosted = true) ∧ (s.powerState ≠ 1) ∧ (s.ringHere k i =
    true) ∧ (s.ringState k i = rACTIVE) ∧ (s.rd (RNG_CTRL.KIND k i) = 1) ∧ (index < s.ringSize k i) ∧ (index < 2 ^ 16)
    ∧ ((index + s.ringSize k i - s.ringHead k i) % s.ringSize k i ≤ (s.ringTail k i + s.ringSize k i - s.ringHead k i)
    % s.ringSize k i) ∧ (s.staged = []) :=
  ⟨(aRing aTrace 1 (anEntry 0 0 [])).wr (RNG_POS.TAIL 1 1) 5, 1, 1, 5, by decide +kernel⟩
theorem witness_RingsAreKept_5b :
    ∃ (s : State) (k : SliceId) (i : RingId) (index : Nat), (s.hosted = true) ∧ (s.powerState ≠ 1) ∧ (s.ringHere k i =
    true) ∧ (s.ringState k i = rACTIVE) ∧ (s.rd (RNG_CTRL.KIND k i) = 1) ∧ (index < s.ringSize k i) ∧ (index < 2 ^ 16)
    ∧ ((index + s.ringSize k i - s.ringHead k i) % s.ringSize k i ≤ (s.ringTail k i + s.ringSize k i - s.ringHead k i)
    % s.ringSize k i) ∧ (s.staged = []) :=
  ⟨(aRing aTrace 1 (anEntry 0 0 [])).wr (RNG_POS.TAIL 1 1) 5, 1, 1, 0, by decide +kernel⟩
theorem witness_RingsAreKept_6 :
    ∃ (s : State) (e : Ev) (r : Nat), (s.evq = [e]) ∧ (e.state.isSome = true) ∧ (s.sliceActive e.slice = true) ∧
    (s.route e = some (r, false)) ∧ (s.sliceHeld e.slice = false) ∧ (s.ringFull e.slice r = false) ∧ (s.staged = []) ∧
    (s.bit (RNG_CTRL.INT_EN e.slice r) = false) ∧ (s.awake = true) :=
  ⟨(aRing aTrace 1 (anEntry 0 0 [])).setEvq [{ slice := 1, ring := some 1, type := 1, cls := 0, code := 0, source := 0, time := 0, state := some [0, 0, 0, 0, 0] }], { slice := 1, ring := some 1, type := 1, cls := 0, code := 0, source := 0, time := 0, state := some [0, 0, 0, 0, 0] }, 1, by decide +kernel⟩
theorem witness_RingsAreKept_7 :
    ∃ (s : State) (p : PortId), s.tileOn p = true :=
  ⟨aSeg, 0, by decide +kernel⟩
theorem witness_RingCommandsComplete_1 :
    ∃ (s : State) (k : SliceId) (i : RingId) (idx : Nat) (e : List Byte), s.front k i idx e 0 :=
  ⟨aRing aTrace 1 (anEntry 0 0 []), 1, 0, 3, anEntry 0 0 [], by decide +kernel⟩
theorem witness_RingCommandsComplete_2 :
    ∃ (s : State) (k : SliceId) (i : RingId) (idx : Nat) (e : List Byte), (s.front k i idx e 5) ∧ ((s.ringx k i).open_
    = 0) :=
  ⟨aRing aTrace 1 (anEntry 5 0 []), 1, 0, 3, anEntry 5 0 [], by decide +kernel⟩
theorem witness_RingCommandsComplete_3 :
    ∃ (s : State) (k : SliceId) (i : RingId) (idx : Nat) (e : List Byte), (s.front k i idx e 5) ∧ ((s.ringx k i).open_
    ≠ 0) :=
  ⟨(aRing aTrace 1 (anEntry 5 0 [])).upR 1 0 (fun r => { r with open_ := 1 }), 1, 0, 3, anEntry 5 0 [], by decide +kernel⟩
theorem witness_RingCommandsComplete_4 :
    ∃ (s : State) (k : SliceId) (i : RingId) (idx : Nat) (e : List Byte), (s.front k i idx e 2) ∧ (cmdPort e < 64) ∧
    (s.sees k (cmdPort e) = true) ∧ (s.enabled (cmdPort e) = true) ∧ (s.tileOn (cmdPort e) = true) ∧ (cmdCheck e =
    false) :=
  ⟨aRing aTrace 1 (anEntry 2 0 []), 1, 0, 3, anEntry 2 0 [], by decide +kernel⟩
theorem witness_RingCommandsComplete_5 :
    ∃ (s : State) (k : SliceId) (i : RingId) (idx : Nat) (e : List Byte), (s.front k i idx e 2) ∧ (cmdPort e < 64) ∧
    (s.sees k (cmdPort e) = false) :=
  ⟨aRing aTrace 1 (anEntry 2 7 []), 1, 0, 3, anEntry 2 7 [], by decide +kernel⟩
theorem witness_RingCommandsComplete_6 :
    ∃ (s : State) (k : SliceId) (i : RingId) (idx : Nat) (e : List Byte), (s.front k i idx e 2) ∧ (cmdPort e < 64) ∧
    (s.sees k (cmdPort e) = true) ∧ (s.enabled (cmdPort e) = true) ∧ (s.tileOn (cmdPort e) = true) ∧ (cmdCheck e =
    true) ∧ (cmdField e 12 4 ≠ s.seqOf (cmdPort e)) :=
  ⟨aRing aTrace 1 ((anEntry 2 0 []).set 1 1), 1, 0, 3, (anEntry 2 0 []).set 1 1, by decide +kernel⟩
theorem witness_RingCommandsComplete_7 :
    ∃ (s : State) (i : RingId) (idx : Nat) (e : List Byte), (s.front 0 i idx e 3) ∧ (cmdPort e < 64) ∧ (s.sees 0
    (cmdPort e) = true) ∧ (s.enabled (cmdPort e) = true) ∧ (cmdCheck e = false) ∧ (byteAt e 20 ≤ 1) ∧ (cmdField e 16 4
    % 4 = 0) ∧ (registerAt (cmdField e 16 4) = true) ∧ (s.holder (cmdField e 16 4) = none) :=
  ⟨aRing aTrace 0 (anEntry 3 0 [0, 0, 0, 0, 1]), 0, 3, anEntry 3 0 [0, 0, 0, 0, 1], by decide +kernel⟩
theorem witness_RingCommandsComplete_8 :
    ∃ (s : State) (k : SliceId) (i : RingId) (idx : Nat) (e : List Byte), (s.front k i idx e 3) ∧ (cmdPort e < 64) ∧
    (s.sees k (cmdPort e) = true) ∧ (s.enabled (cmdPort e) = true) ∧ (cmdCheck e = false) ∧ (registerAt (cmdField e 16
    4 / 4 * 4) = false) :=
  ⟨aRing aTrace 1 (anEntry 3 0 [4, 0, 0x20, 0, 1]), 1, 0, 3, anEntry 3 0 [4, 0, 0x20, 0, 1], by decide +kernel⟩
theorem witness_RingCommandsComplete_9 :
    ∃ (s : State) (k : SliceId) (i : RingId) (idx : Nat) (e : List Byte), (s.front k i idx e 3) ∧ (cmdPort e < 64) ∧
    (s.sees k (cmdPort e) = true) ∧ (s.enabled (cmdPort e) = false) :=
  ⟨aRing aTrace 0 (anEntry 3 9 [0, 0, 0, 0, 1]), 0, 0, 3, anEntry 3 9 [0, 0, 0, 0, 1], by decide +kernel⟩
theorem witness_RingCommandsComplete_10 :
    ∃ (s : State) (i : RingId) (idx : Nat) (e : List Byte), (s.front 0 i idx e 4) ∧ (cmdPort e < 64) ∧ (byteAt e 9 =
    0) ∧ (s.sees 0 (cmdPort e) = true) ∧ (s.enabled (cmdPort e) = true) ∧ (s.tileOn (cmdPort e) = true) ∧ (s.isTT
    (cmdPort e) = true) ∧ (s.trn (cmdPort e) ≠ tDOWN) ∧ (cmdCheck e = false) :=
  ⟨aRing aTrace 0 (anEntry 4 0 []), 0, 3, anEntry 4 0 [], by decide +kernel⟩
theorem witness_RingCommandsComplete_11 :
    ∃ (s : State) (k : SliceId) (i : RingId) (idx : Nat) (e : List Byte), (s.front k i idx e 4) ∧ (k.val ≠ 0) :=
  ⟨aRing aTrace 1 (anEntry 4 0 []), 1, 0, 3, anEntry 4 0 [], by decide +kernel⟩
theorem witness_RingCommandsComplete_12 :
    ∃ (s : State) (k : SliceId) (i : RingId) (idx : Nat) (e : List Byte) (j : Job), (s.front k i idx e 1) ∧
    (s.jobCount k < 64) ∧ (s.parseJob k i idx e = some j) ∧ (s.refuseJob j = none) :=
  ⟨(aRing aTrace 1 (anEntry 1 0 [1, 0, 0, 0, 0, 0, 8])).wr (ENG_PERMIT.MARGIN_SAMPLER 1) 1, 1, 0, 3, anEntry 1 0 [1, 0, 0, 0, 0, 0, 8], aMarginJob, by decide +kernel⟩
theorem witness_RingCommandsComplete_13 :
    ∃ (s : State) (k : SliceId) (i : RingId) (idx : Nat) (e : List Byte) (j : Job) (code : Nat), (s.front k i idx e 1)
    ∧ (s.jobCount k < 64) ∧ (s.parseJob k i idx e = some j) ∧ (s.refuseJob j = some code) :=
  ⟨aRing aTrace 1 (anEntry 1 0 [1, 0, 0, 0, 0, 0, 8]), 1, 0, 3, anEntry 1 0 [1, 0, 0, 0, 0, 0, 8], aMarginJob, 1, by decide +kernel⟩
theorem witness_TimeFramesCarryTheTime_1 :
    ∃ (s : State) (q : SideId) (departure : Nat), (s.timeFrames q = true) ∧ (s.bit TIM_CTRL.TIME_FRAMES_OFF = false) ∧
    (256 * (s.timeSide q).due ≤ (s.seg q).rows) :=
  ⟨aSeg, 1, 77, by decide +kernel⟩
theorem witness_TimeFramesCarryTheTime_2 :
    ∃ (s : State) (q : SideId) (payload : List Byte) (arrival : Nat), (s.timeFrames q = true) ∧ (byteAt payload 0 = 1)
    ∧ (s.role = roleMASTER) ∧ (bitAt (byteAt payload 1) 3 = true) ∧ (bitAt (byteAt payload 1) 4 = false) ∧ (leNat
    ((payload.drop 4).take 2) ≠ s.rd GLB_FABRIC_ID.FABRIC_ID) :=
  ⟨aSeg.wr TIM_CTRL.ROLE 1, 1, aTime 9 0 0, 327680, by decide +kernel⟩
theorem witness_TimeFramesCarryTheTime_3 :
    ∃ (s : State) (q : SideId) (payload : List Byte) (arrival : Nat) (c : Candidate) (theta delay : Int),
    (s.timeFrames q = true) ∧ (byteAt payload 0 = 1) ∧ (s.role = roleFOLLOWER) ∧ (s.mgmt.coresDown = false) ∧ (bitAt
    (byteAt payload 1) 4 = false) ∧ ((s.notePeer q payload arrival).parent = some c) ∧ (c.side = some q.val) ∧
    (s.timeMeasure q payload = some (theta, delay)) ∧ (delayOff (s.timeSide q).delays delay = false) :=
  ⟨aTimed, 1, aTime 9 0 0, 720896, ⟨7, 0, some 1⟩, 0, 131072, by decide +kernel⟩
theorem witness_TimeFramesCarryTheTime_4 :
    ∃ (s : State) (q : SideId) (payload : List Byte) (arrival : Nat), (s.timeFrames q = true) ∧ (byteAt payload 0 = 1)
    ∧ (s.role ≠ roleFOLLOWER) ∧ (bitAt (byteAt payload 1) 4 = true) ∧ (newer256 (byteAt payload 40) s.tim.seen = true)
    ∧ (leNat ((payload.drop 32).take 8) ≠ 0) ∧ (s.now ≤ leNat ((payload.drop 32).take 8) * nsUnit) :=
  ⟨aSeg, 1, aTime 25 900 1, 720896, by decide +kernel⟩
theorem witness_FabricTimeIsKept_1 :
    ∃ (s : State), (s.awake = true) ∧ (s.role = roleFOLLOWER) ∧ (s.bit TIM_STATUS.LOCKED = true) :=
  ⟨setAll aPort [(TIM_CTRL.ROLE, 2), (TIM_STATUS.LOCKED, 1), (TIM_STATUS.QUALITY, 2)], by decide +kernel⟩
theorem witness_FabricTimeIsKept_1b :
    ∃ (s : State), (s.awake = true) ∧ (s.role = roleFOLLOWER) ∧ (s.bit TIM_STATUS.LOCKED = true) :=
  ⟨setAll aPort [(TIM_CTRL.ROLE, 2), (TIM_STATUS.LOCKED, 1), (TIM_STATUS.QUALITY, 0)], by decide +kernel⟩
theorem witness_FabricTimeIsKept_2 :
    ∃ (s : State), (s.rd TIM_CTRL.TPULSE_MODE = 2) ∧ (s.role = roleMASTER ∨ s.bit TIM_STATUS.LOCKED = true) ∧ (s.awake
    = true) :=
  ⟨setAll aPort [(TIM_CTRL.ROLE, 1), (TIM_CTRL.TPULSE_MODE, 2)], by decide +kernel⟩
theorem witness_FabricTimeIsKept_2b :
    ∃ (s : State), (s.rd TIM_CTRL.TPULSE_MODE = 2) ∧ (s.role = roleMASTER ∨ s.bit TIM_STATUS.LOCKED = true) ∧ (s.awake
    = true) :=
  ⟨setAll aPort [(TIM_CTRL.ROLE, 2), (TIM_STATUS.LOCKED, 1), (TIM_CTRL.TPULSE_MODE, 2), (TIM_RATE.PPB, 2 ^ 32 - 200000), (TIM_PULSE.PERIOD, 3)], by decide +kernel⟩
theorem witness_FabricTimeIsKept_3 :
    ∃ (s : State) (e : Nat), (s.awake = true) ∧ (s.rd TIM_CTRL.TPULSE_MODE = 1) ∧ (s.tim.setDue = true) :=
  ⟨(setAll aPort [(TIM_CTRL.TPULSE_MODE, 1), (TIM_SET.TIME 0, 5), (TIM_SET.TIME 1, 6)]).upTim (fun x => { x with setDue := true }), 9, by decide +kernel⟩
theorem witness_FabricTimeIsKept_4 :
    ∃ (s : State) (e : Nat) (c : Candidate), (s.awake = true) ∧ (s.mgmt.coresDown = false) ∧ (s.rd
    TIM_CTRL.TPULSE_MODE = 1) ∧ (s.tim.setDue = false) ∧ (s.role = roleFOLLOWER) ∧ (s.parent = some c) ∧ (c.side =
    none) :=
  ⟨setAll aPort [(TIM_CTRL.ROLE, 2), (TIM_CTRL.TPULSE_MODE, 1), (TIM_PULSE.IN_STRATUM, 2)], 131072, ⟨0, 2, none⟩, by decide +kernel⟩
theorem witness_FabricTimeIsKept_5 :
    ∃ (s : State) (hi : Nat), (s.hosted = true) ∧ (¬(s.role = roleFOLLOWER ∧ s.bit TIM_STATUS.LOCKED = true)) ∧ (s.bit
    TIM_PULSE.SET_AT_PULSE = false) ∧ (hi < 2 ^ 32) :=
  ⟨setAll aPort [(TIM_CTRL.ROLE, 1), (TIM_SET.TIME 0, 5)], 8, by decide +kernel⟩
theorem witness_FabricTimeIsKept_6 :
    ∃ (s : State) (hi : Nat), (s.hosted = true) ∧ (s.role = roleFOLLOWER) ∧ (s.bit TIM_STATUS.LOCKED = true) :=
  ⟨setAll aPort [(TIM_CTRL.ROLE, 2), (TIM_STATUS.LOCKED, 1)], 8, by decide +kernel⟩
theorem witness_FabricTimeIsKept_7 :
    ∃ (s : State) (ratio : Nat), (s.powerState = 0) ∧ (s.timeRuns = true) :=
  ⟨aPort, 1999999000, by decide +kernel⟩
theorem witness_WinnowRecordsItems_1 :
    ∃ (s : State) (p : PortId) (dir : Dir) (item : Observed) (ide : Bool) (stamp : Nat) (raw : List Byte) (k : Nat) (u
    : Unit4), (s.tileOn p = true) ∧ (s.enabled p = true) ∧ (s.observes (2 * p + dirBit dir) item = true) ∧ ((s.winnow
    p (dirBit dir)).owner = some k) ∧ ((s.winnow p (dirBit dir)).units = [u, {}, {}, {}]) ∧ (u.hits (itemKey item ide
    raw) (itemCipher item ide) = true) ∧ (u.record = true) ∧ (u.trigger = false) ∧ (s.takesRecords k u.window = true)
    ∧ (s.sliceHeld k = false) ∧ (s.bufferBytes (s.tileOf p) + 320 ≤ 65536) :=
  ⟨aTrace.upW 0 0 (fun _ => { owner := some 1, units := [{ control := 0xA8040000, enabled := true, armed := true }, {}, {}, {}] }), 0, .ab, .dllp false [1], false, 99, [1], 1, { control := 0xA8040000, enabled := true, armed := true }, by decide +kernel⟩
theorem witness_WinnowRecordsItems_2 :
    ∃ (s : State) (p : PortId) (dir : Dir) (item : Observed) (ide : Bool) (stamp : Nat) (raw : List Byte), s.observes
    (2 * p + dirBit dir) item = false :=
  ⟨aTrace.upW 0 0 (fun _ => { owner := some 1 }), 0, .ab, .unit, false, 99, [1], by decide +kernel⟩
theorem witness_WinnowRecordsItems_3 :
    ∃ (s : State) (t' : TileId) (k w : Nat) (r : TraceRec), (s.mgmt.inL1 = false) ∧ (s.traceTurn = true) ∧ (s.shareOf
    (s.tile t').carried + 64 * r.units64 ≤ 60000) ∧ (s.shareOf s.tim.dma + 64 * r.units64 ≤ 240000) ∧ ((s.tile
    t').buffer = [(k, w, r)]) ∧ (s.takesRecords k w = true) ∧ (s.rd (TRC_WIN_STATUS.STATE k w) = 2) ∧ (s.sliceHeld k =
    false) ∧ (s.rd (TRC_WIN_STATUS.MODE k w) = 1) ∧ ((s.window k w).dropped = 0) ∧ (r.type = 1) ∧ (0 < s.windowSize k
    w) ∧ (s.rd (TRC_WIN_POS.POS k w) % 32768 + r.units64 ≤ 32768) ∧ (s.rd (TRC_WIN_POS.POS k w) < s.windowSize k w) ∧
    ((r.bytes (s.window k w).written).length ≤ 128 * 2 ^ s.mgmt.mps) ∧ (64 * s.rd (TRC_WIN_POS.POS k w) % 4096 +
    (r.bytes (s.window k w).written).length ≤ 4096) ∧ (s.awake = true) :=
  ⟨aTrace.upT 0 (fun x => { x with buffer := [(1, 2, ⟨1, 0, 0, 1, 99, 0, [], none⟩)] }), 0, 1, 2, ⟨1, 0, 0, 1, 99, 0, [], none⟩, by decide +kernel⟩
theorem witness_WinnowRecordsItems_4 :
    ∃ (s : State) (t' : TileId) (k w : Nat) (r : TraceRec), (s.awake = true) ∧ (s.mgmt.inL1 = false) ∧ (s.traceTurn =
    true) ∧ (60000 < s.shareOf (s.tile t').carried + 64 * r.units64) ∧ ((s.tile t').buffer = [(k, w, r)]) ∧
    (s.takesRecords k w = true) :=
  ⟨aTrace.upT 0 (fun x => { x with buffer := [(1, 2, ⟨1, 0, 0, 1, 99, 0, [], none⟩)], carried := (0, 59999) }), 0, 1, 2, ⟨1, 0, 0, 1, 99, 0, [], none⟩, by decide +kernel⟩
theorem witness_WinnowRecordsItems_5 :
    ∃ (s : State) (t' : TileId) (k w : Nat) (r : TraceRec), (s.awake = true) ∧ (s.mgmt.inL1 = false) ∧ (s.traceTurn =
    true) ∧ (s.shareOf (s.tile t').carried + 64 * r.units64 ≤ 60000) ∧ (240000 < s.shareOf s.tim.dma + 64 * r.units64)
    ∧ ((s.tile t').buffer = [(k, w, r)]) ∧ (s.takesRecords k w = true) :=
  ⟨aTrace.upT 0 (fun x => { x with buffer := [(1, 2, ⟨1, 0, 0, 1, 99, 0, [], none⟩)], carried := (0, 1) }) |>.upTim (fun x => { x with dma := (0, 239999) }), 0, 1, 2, ⟨1, 0, 0, 1, 99, 0, [], none⟩, by decide +kernel⟩
theorem witness_WinnowRecordsItems_6 :
    ∃ (s : State) (t' : TileId), s.mgmt.inL1 = true ∨ s.traceTurn = false :=
  ⟨aTrace.upM (fun m => { m with inL1 := true }), 0, by decide +kernel⟩
theorem witness_WinnowRecordsItems_7 :
    ∃ (s : State) (k : SliceId) (i : RingId) (idx : Nat) (e : List Byte), (s.front k i idx e 0x12) ∧ (cmdPort e < 64)
    ∧ (s.sees k (cmdPort e) = true) ∧ (s.enabled (cmdPort e) = true) ∧ (cmdCheck e = false) ∧ ((s.winnow (cmdPort e)
    (byteAt e 16)).owner = none) :=
  ⟨aRing aTrace 1 (anEntry 0x12 0 [1]), 1, 0, 3, anEntry 0x12 0 [1], by decide +kernel⟩
theorem witness_WinnowRecordsItems_8 :
    ∃ (s : State) (k : SliceId) (i : RingId) (idx : Nat) (e : List Byte), (s.front k i idx e 0x13) ∧ (cmdPort e < 64)
    ∧ (s.sees k (cmdPort e) = true) ∧ (s.enabled (cmdPort e) = true) ∧ (cmdCheck e = false) ∧ ((s.winnow (cmdPort e)
    (byteAt e 16)).owner = some k.val) :=
  ⟨aRing (aTrace.upW 0 1 (fun _ => { owner := some 1 })) 1 (anEntry 0x13 0 [1]), 1, 0, 3, anEntry 0x13 0 [1], by decide +kernel⟩
theorem witness_WinnowRecordsItems_9 :
    ∃ (s : State) (k : SliceId) (i : RingId) (idx : Nat) (e : List Byte), (s.front k i idx e 0x13) ∧ (cmdPort e < 64)
    ∧ (s.sees k (cmdPort e) = true) ∧ (s.enabled (cmdPort e) = true) ∧ (cmdCheck e = false) ∧ ((s.winnow (cmdPort e)
    (byteAt e 16)).owner ≠ some k.val) :=
  ⟨aRing (aTrace.upW 0 1 (fun _ => { owner := some 2 })) 1 (anEntry 0x13 0 [1]), 1, 0, 3, anEntry 0x13 0 [1], by decide +kernel⟩
theorem witness_WinnowRecordsItems_10 :
    ∃ (s : State) (k : SliceId) (i : RingId) (idx : Nat) (e : List Byte), (s.front k i idx e 0x14) ∧ (cmdPort e < 64)
    ∧ (s.sees k (cmdPort e) = true) ∧ (s.enabled (cmdPort e) = true) ∧ (cmdCheck e = false) ∧ ((s.winnow (cmdPort e)
    (byteAt e 16)).owner = some k.val) :=
  ⟨aRing (aTrace.upW 0 1 (fun _ => { owner := some 1 })) 1 (anEntry 0x14 0 [1, 2, 0, 0, 0, 0, 0, 0x98]), 1, 0, 3, anEntry 0x14 0 [1, 2, 0, 0, 0, 0, 0, 0x98], by decide +kernel⟩
theorem witness_WindowsOpenAndClose_1 :
    ∃ (s : State) (k : SliceId) (i : RingId) (idx : Nat) (e : List Byte), (s.front k i idx e 0x10) ∧ (s.rd
    (TRC_WIN_STATUS.STATE k (byteAt e 16)) = 0) ∧ (0 < cmdField e 20 4) ∧ (s.granulesHeld k + cmdField e 20 4 ≤ s.rd
    (SLC_SHARE.GRANULES k)) :=
  ⟨aRing aTrace 1 (anEntry 0x10 0 [5, 0, 1, 0, 4]), 1, 0, 3, anEntry 0x10 0 [5, 0, 1, 0, 4], by decide +kernel⟩
theorem witness_WindowsOpenAndClose_2 :
    ∃ (s : State) (k : SliceId) (i : RingId) (idx : Nat) (e : List Byte), (s.front k i idx e 0x10) ∧ (s.rd
    (TRC_WIN_STATUS.STATE k (byteAt e 16)) = 0) ∧ (s.rd (SLC_SHARE.GRANULES k) < s.granulesHeld k + cmdField e 20 4)
    :=
  ⟨aRing aTrace 1 (anEntry 0x10 0 [5, 0, 1, 0, 0, 1]), 1, 0, 3, anEntry 0x10 0 [5, 0, 1, 0, 0, 1], by decide +kernel⟩
theorem witness_WindowsOpenAndClose_3 :
    ∃ (s : State) (k : SliceId) (i : RingId) (idx : Nat) (e : List Byte), (s.front k i idx e 0x11) ∧ (s.rd
    (TRC_WIN_STATUS.STATE k (byteAt e 16)) ≠ 0) ∧ ((s.window k (byteAt e 16)).closing = false) :=
  ⟨aRing aTrace 1 (anEntry 0x11 0 [2]), 1, 0, 3, anEntry 0x11 0 [2], by decide +kernel⟩
theorem witness_WindowsOpenAndClose_4 :
    ∃ (s : State) (k : SliceId) (w : WindowId) (i idx tag ev : Nat), (s.awake = true) ∧ (s.sliceActive k = true) ∧
    (s.mgmt.coresDown = false) ∧ ((s.window k w).closing = true) ∧ (s.rd (TRC_WIN_STATUS.STATE k w) ≠ 1) ∧ ((s.window
    k w).closer = some (i, idx, tag, ev)) :=
  ⟨(aRing aTrace 1 (anEntry 0x11 0 [2])).upWin 1 2 (fun x => { x with closing := true, closer := some (0, 2, 9, 1) }), 1, 2, 0, 2, 9, 1, by decide +kernel⟩
theorem witness_WindowsOpenAndClose_5 :
    ∃ (s : State) (k : SliceId) (w : WindowId), (s.hosted = true) ∧ (s.sliceActive k = true) ∧ (s.rd
    (TRC_WIN_STATUS.STATE k w) = 4) :=
  ⟨aTrace.wr (TRC_WIN_STATUS.STATE 1 2) 4, 1, 2, by decide +kernel⟩
theorem witness_CommonTriggerLatches_1 :
    ∃ (s : State) (k : SliceId) (i : RingId) (idx : Nat) (e : List Byte), (s.front k i idx e 0x15) ∧ (k.val = 0 ∨
    s.bit TRC_TRIG_CTRL.SLICE_TRIG = true) ∧ (bitAt (s.rd TRC_TRIG_CTRL.SRC_EN) 1 = true) ∧ (s.bit SNP_STATUS.STATE =
    false) ∧ (s.tim.latch = none) ∧ (s.bit TRC_TRIG_CTRL.TRIG_OUT = false) :=
  ⟨(aRing aTrace 0 (anEntry 0x15 0 [])).wr TRC_TRIG_CTRL.SRC_EN 15, 0, 0, 3, anEntry 0x15 0 [], by decide +kernel⟩
theorem witness_CommonTriggerLatches_2 :
    ∃ (s : State) (k : SliceId) (i : RingId) (idx : Nat) (e : List Byte), (s.front k i idx e 0x15) ∧ (k.val ≠ 0) ∧
    (s.bit TRC_TRIG_CTRL.SLICE_TRIG = false) :=
  ⟨(aRing aTrace 1 (anEntry 0x15 0 [])).wr TRC_TRIG_CTRL.SRC_EN 15, 1, 0, 3, anEntry 0x15 0 [], by decide +kernel⟩
theorem witness_CommonTriggerLatches_3 :
    ∃ (s : State), (s.hosted = true) ∧ (bitAt (s.rd TRC_TRIG_CTRL.SRC_EN) 1 = true) ∧ (s.bit SNP_STATUS.STATE = false)
    ∧ (s.tim.latch = none) ∧ (s.bit TRC_TRIG_CTRL.TRIG_OUT = false) :=
  ⟨aTrace.wr TRC_TRIG_CTRL.SRC_EN 2, by decide +kernel⟩
theorem witness_CommonTriggerLatches_4 :
    ∃ (s : State), (s.hosted = true) ∧ (bitAt (s.rd TRC_TRIG_CTRL.SRC_EN) 1 = true) ∧ (s.bit SNP_STATUS.STATE = true)
    :=
  ⟨setAll aTrace [(TRC_TRIG_CTRL.SRC_EN, 2), (SNP_STATUS.STATE, 1)], by decide +kernel⟩
theorem witness_CommonTriggerLatches_4b :
    ∃ (s : State), (s.hosted = true) ∧ (bitAt (s.rd TRC_TRIG_CTRL.SRC_EN) 1 = true) ∧ (s.bit SNP_STATUS.STATE = true)
    :=
  ⟨setAll aTrace [(TRC_TRIG_CTRL.SRC_EN, 2), (SNP_STATUS.STATE, 1), (SNP_STATUS.MISSED, 255)], by decide +kernel⟩
theorem witness_CommonTriggerLatches_5 :
    ∃ (s : State) (stamp : Nat), (s.awake = true) ∧ (s.tim.trigOut = false) ∧ (s.tim.deafUntil ≤ s.elapsed) ∧ (bitAt
    (s.rd TRC_TRIG_CTRL.SRC_EN) 2 = true) ∧ (s.bit SNP_STATUS.STATE = false) ∧ (s.tim.latch = none) :=
  ⟨aTrace.wr TRC_TRIG_CTRL.SRC_EN 4, 1000, by decide +kernel⟩
theorem witness_CommonTriggerLatches_6 :
    ∃ (s : State) (stamp : Nat), s.tim.trigOut = true ∨ s.elapsed < s.tim.deafUntil :=
  ⟨aTrace.upTim (fun x => { x with trigOut := true }), 1000, by decide +kernel⟩
theorem witness_CommonTriggerLatches_7 :
    ∃ (s : State), (s.awake = true) ∧ (s.tim.trigOut = true) :=
  ⟨aTrace.upTim (fun x => { x with trigOut := true, deafUntil := 500 * 2 ^ 32 }), by decide +kernel⟩
theorem witness_CommonTriggerLatches_8 :
    ∃ (s : State) (flood : Bool), (s.hosted = true) ∧ (s.rd (TRC_SCHED.TIME 0) + 2 ^ 32 * s.rd (TRC_SCHED.TIME 1) ≠ 0)
    ∧ (s.now ≤ (s.rd (TRC_SCHED.TIME 0) + 2 ^ 32 * s.rd (TRC_SCHED.TIME 1)) * nsUnit) :=
  ⟨aTrace.wr (TRC_SCHED.TIME 0) 500, true, by decide +kernel⟩
theorem witness_CommonTriggerLatches_9 :
    ∃ (s : State) (flood : Bool), (s.hosted = true) ∧ (s.rd (TRC_SCHED.TIME 0) + 2 ^ 32 * s.rd (TRC_SCHED.TIME 1) ≠ 0)
    ∧ ((s.rd (TRC_SCHED.TIME 0) + 2 ^ 32 * s.rd (TRC_SCHED.TIME 1)) * nsUnit < s.now) :=
  ⟨(aTrace.wr (TRC_SCHED.TIME 0) 500).setNow (2 ^ 60), true, by decide +kernel⟩
theorem witness_CommonTriggerLatches_10 :
    ∃ (s : State), (s.bit TRC_SCHED_CTRL.PENDING = true) ∧ (s.timeRuns = true) ∧ (bitAt (s.rd TRC_TRIG_CTRL.SRC_EN) 3
    = true) ∧ (s.bit SNP_STATUS.STATE = false) ∧ (s.tim.latch = none) :=
  ⟨(setAll aTrace [(TRC_TRIG_CTRL.SRC_EN, 8), (TRC_SCHED_CTRL.PENDING, 1)]).upTim (fun x => { x with schedTime := 800 }), by decide +kernel⟩
theorem witness_CommonTriggerLatches_11 :
    ∃ (s : State) (tl src : Nat), (s.awake = true) ∧ (s.tim.latch = some (tl, src)) ∧ (src < 16) :=
  ⟨aTrace.upTim (fun x => { x with latch := some (700 * 2 ^ 32, 2) }), 700 * 2 ^ 32, 2, by decide +kernel⟩
theorem witness_CommonTriggerLatches_12 :
    ∃ (s : State), s.hosted = true :=
  ⟨aTrace.on SNP_STATUS.STATE, by decide +kernel⟩
theorem witness_CommonTriggerLatches_13 :
    ∃ (s : State), (s.awake = true) ∧ (s.bit SNP_STATUS.STATE = true) ∧ (s.rd SNP_CTRL.AUTO_REARM ≠ 0) :=
  ⟨setAll aTrace [(SNP_STATUS.STATE, 1), (SNP_CTRL.AUTO_REARM, 3)], by decide +kernel⟩
theorem witness_TilesWakeAndRest_1 :
    ∃ (s : State) (t' : TileId), (s.parked t' = true) ∧ (s.resetsHeld = false) ∧ (s.powerState ≤ 2) ∧ (s.power.inReset
    = false) :=
  ⟨aParked, 0, by decide +kernel⟩
theorem witness_TilesWakeAndRest_2 :
    ∃ (s : State) (t' : TileId) (x : Nat), (s.hosted = true) ∧ (s.powerState ≠ 1) ∧ (s.holder x = some t'.val) ∧
    (s.tileState t' = 0) ∧ (s.resetsHeld = false) ∧ (s.powerState ≤ 2) ∧ (s.power.inReset = false) :=
  ⟨aParked, 0, 0x200014, by decide +kernel⟩
theorem witness_TilesWakeAndRest_3 :
    ∃ (s : State) (t' : TileId), (s.parked t' = true) ∧ (s.powerState = 3 ∨ s.powerState = 4) ∧ (s.power.inReset =
    false) ∧ (s.power.wake = none) ∧ (s.power.entry = none) ∧ (s.power.wokeAt ≠ s.elapsed) :=
  ⟨((aParked.wr PWR_STATUS.STATE 3).upPw (fun x => { x with wokeAt := 9 })), 0, by decide +kernel⟩
theorem witness_TilesWakeAndRest_4 :
    ∃ (s : State) (t' : Nat) (rest : List Nat), (s.power.ramping = none) ∧ (s.power.ramp = t' :: rest) ∧ (s.awake =
    true) ∧ (s.bit CLK_STATUS.ROOT_LOCK = true) :=
  ⟨(aRest 0).upPw (fun x => { x with ramp := [3, 5] }), 3, [5], by decide +kernel⟩
theorem witness_TilesWakeAndRest_5 :
    ∃ (s : State) (t' : TileId), s.power.ramping = some t'.val :=
  ⟨(aRest 0).upPw (fun x => { x with ramping := some 3 }), 3, by decide +kernel⟩
theorem witness_TilesWakeAndRest_6 :
    ∃ (s : State) (t' : TileId) (k : EngineId), (s.tileState t' = 1) ∧ ((s.tile t').restoring = true) ∧ (s.bit
    CLK_STATUS.ROOT_LOCK = true) ∧ (k.val / 16 = t'.val) ∧ ((s.engine k).disabled = false) :=
  ⟨(aParked.wr (GLB_TILE_STATUS.LT 0) 1).upT 0 (fun x => { x with restoring := true }), 0, 3, by decide +kernel⟩
theorem witness_TilesWakeAndRest_7 :
    ∃ (s : State) (t' : TileId), (s.tileState t' = 2) ∧ (s.tileIdle t' = true) :=
  ⟨aParked.wr (GLB_TILE_STATUS.LT 0) 2, 0, by decide +kernel⟩
theorem witness_TilesWakeAndRest_8 :
    ∃ (s : State) (t' : TileId), (s.tileState t' = 2) ∧ (s.tileIdle t' = false) :=
  ⟨aClocked, 0, by decide +kernel⟩
theorem witness_TilesWakeAndRest_9 :
    ∃ (s : State) (h : HalfId), s.calledFor h = true :=
  ⟨aLive.upH 1 (fun x => { x with powered := false }), 1, by decide +kernel⟩
theorem witness_ClocksAndLevelsChange_1 :
    ∃ (s : State), (s.rootMay = true) ∧ (s.bit CLK_STATUS.REFCLK_OK = true) ∧ (s.txn.changes = [] ∨ s.txnState ≠
    xAPPLYING) :=
  ⟨aClocked, by decide +kernel⟩
theorem witness_ClocksAndLevelsChange_2 :
    ∃ (s : State), (s.power.inReset = false) ∧ (s.bit CLK_STATUS.REFCLK_OK = false) :=
  ⟨(aRest 0).off CLK_STATUS.REFCLK_OK, by decide +kernel⟩
theorem witness_ClocksAndLevelsChange_3 :
    ∃ (s : State), (s.power.wake = none) ∧ (s.powerState ≤ 1) ∧ (s.power.inReset = false) ∧ (s.bit
    CLK_STATUS.REFCLK_OK = true) ∧ (s.bit CLK_STATUS.ROOT_LOCK = false) :=
  ⟨(aRest 0).off CLK_STATUS.ROOT_LOCK, by decide +kernel⟩
theorem witness_ClocksAndLevelsChange_4 :
    ∃ (s : State), (s.power.wake = none) ∧ (s.bit PWR_STATUS.VID_BUSY = true) ∧ (s.power.nextLevel = none) :=
  ⟨(aRest 0).on PWR_STATUS.VID_BUSY, by decide +kernel⟩
theorem witness_ClocksAndLevelsChange_5 :
    ∃ (s : State) (l : Fin 4), (s.power.wake = none) ∧ (s.bit PWR_STATUS.VID_BUSY = true) ∧ (s.power.nextLevel = some
    l.val) ∧ (s.rd PWR_STATUS.PL ≠ l) :=
  ⟨((aRest 0).on PWR_STATUS.VID_BUSY).upPw (fun x => { x with nextLevel := some 3 }), 3, by decide +kernel⟩
theorem witness_ClocksAndLevelsChange_6 :
    ∃ (s : State) (w : Wake), s.power.wake = some w :=
  ⟨(aRest 2).upPw (fun x => { x with wake := some ⟨2, 0, false⟩ }), ⟨2, 0, false⟩, by decide +kernel⟩
theorem witness_PowerStatesAreEntered_1 :
    ∃ (s : State), (s.awake = true) ∧ (s.powerState = 0) ∧ (s.idleFit = true) :=
  ⟨aRest 0, by decide +kernel⟩
theorem witness_PowerStatesAreEntered_2 :
    ∃ (s : State), s.idleFit = false :=
  ⟨aClocked, by decide +kernel⟩
theorem witness_PowerStatesAreEntered_3 :
    ∃ (s : State), (s.awake = true) ∧ (s.powerState = 1) ∧ (s.sleepFit = true) ∧ (s.power.sbBusy = false) :=
  ⟨(aRest 1).upM (fun m => { m with d3hot := true }), by decide +kernel⟩
theorem witness_PowerStatesAreEntered_4 :
    ∃ (s : State) (temp : Int), (s.powerState = 2) ∧ (s.power.wake = none) ∧ (s.deepFit temp = true) ∧ (s.power.sbBusy
    = false) :=
  ⟨(aRest 2).upM (fun m => { m with perst := true }), 70, by decide +kernel⟩
theorem witness_PowerStatesAreEntered_4b :
    ∃ (s : State) (temp : Int), (s.powerState = 2) ∧ (s.power.wake = none) ∧ (s.deepFit temp = true) ∧ (s.power.sbBusy
    = false) :=
  ⟨(aRest 2).upM (fun m => { m with perst := true }), -5, by decide +kernel⟩
theorem witness_PowerStatesAreEntered_5 :
    ∃ (s : State), s.power.sbBusy = true :=
  ⟨((aRest 1).upM (fun m => { m with d3hot := true })).upPw (fun x => { x with sbBusy := true }), by decide +kernel⟩
theorem witness_PowerStatesAreEntered_6 :
    ∃ (s : State) (temp : Int), s.power.sbBusy = true :=
  ⟨((aRest 2).upM (fun m => { m with perst := true })).upPw (fun x => { x with sbBusy := true }), 70, by decide +kernel⟩
theorem witness_PowerStatesAreEntered_7 :
    ∃ (s : State), (s.powerState = 3) ∧ (s.power.wake = none) ∧ (s.deepFit 0 = true) ∧ (s.bit PWR_POLICY.OFF_EN =
    true) :=
  ⟨aQuiet 3, by decide +kernel⟩
theorem witness_WakeSourcesWakeTheDevice_1 :
    ∃ (s : State), (s.powerState = 2 ∨ s.powerState = 3) ∧ (s.power.inReset = false) ∧ (s.power.wake = none) ∧
    (s.power.entry = none) :=
  ⟨aQuiet 2, by decide +kernel⟩
theorem witness_WakeSourcesWakeTheDevice_1b :
    ∃ (s : State), (s.powerState = 2 ∨ s.powerState = 3) ∧ (s.power.inReset = false) ∧ (s.power.wake = none) ∧
    (s.power.entry = none) :=
  ⟨aQuiet 3, by decide +kernel⟩
theorem witness_WakeSourcesWakeTheDevice_2 :
    ∃ (s : State) (en : PowerEntry), (s.powerState = 3) ∧ (s.power.inReset = false) ∧ (s.power.wake = none) ∧
    (s.power.entry = some en) ∧ (s.elapsed < en.commitAt) ∧ (en.state = 2) ∧ (en.clocks = none) :=
  ⟨(aQuiet 3).upPw (fun x => { x with entry := some ⟨5, 2, 20, none, (7, 3, 1)⟩, sealed := true }), ⟨5, 2, 20, none, (7, 3, 1)⟩, by decide +kernel⟩
theorem witness_WakeSourcesWakeTheDevice_3 :
    ∃ (s : State), (s.powerState = 1) ∧ (s.power.inReset = false) ∧ (s.power.wake = none) ∧ (s.power.entry = none) :=
  ⟨aRest 1, by decide +kernel⟩
theorem witness_WakeSourcesWakeTheDevice_4 :
    ∃ (s : State), (s.powerState = 4) ∧ (s.power.inReset = false) :=
  ⟨aQuiet 4, by decide +kernel⟩
theorem witness_WakeSourcesWakeTheDevice_5 :
    ∃ (s : State), (s.powerState = 2) ∧ (s.power.inReset = false) ∧ (s.power.wake = none) ∧ (s.power.entry = none) :=
  ⟨aQuiet 2, by decide +kernel⟩
theorem witness_WakeSourcesWakeTheDevice_6 :
    ∃ (s : State) (w : Wake), (s.powerState = 2) ∧ (s.power.inReset = false) ∧ (s.power.entry = none) ∧ (s.power.wake
    = some w) ∧ (s.power.wokeFrom = 2) ∧ (s.power.wokeAt = s.elapsed) :=
  ⟨(aQuiet 2).upPw (fun x => { x with wake := some ⟨2, 0, false⟩, wokeFrom := 2 }), ⟨2, 0, false⟩, by decide +kernel⟩
theorem witness_WakeSourcesWakeTheDevice_7 :
    ∃ (s : State) (w : Wake), (s.powerState = 2) ∧ (s.power.inReset = false) ∧ (s.power.entry = none) ∧ (s.power.wake
    = some w) ∧ (s.power.wokeAt < s.elapsed) :=
  ⟨((aQuiet 2).setElapsed 5).upPw (fun x => { x with wake := some ⟨2, 0, false⟩, wokeFrom := 2 }), ⟨2, 0, false⟩, by decide +kernel⟩
theorem witness_WakeSourcesWakeTheDevice_8 :
    ∃ (s : State) (t' : TileId), (s.powerState = 0) ∧ (s.power.inReset = false) ∧ (s.power.wake = none) ∧
    (s.resetsHeld = false) ∧ (s.parked t' = true) :=
  ⟨aParked, 0, by decide +kernel⟩
theorem witness_WakeSourcesWakeTheDevice_9 :
    ∃ (s : State) (e : Nat), (s.powerState = 2) ∧ (s.power.inReset = false) ∧ (s.power.wake = none) ∧ (s.power.entry =
    none) ∧ (s.power.timerAt = some e) :=
  ⟨(aQuiet 2).upPw (fun x => { x with timerAt := some (2 ^ 50) }), 2 ^ 50, by decide +kernel⟩
theorem witness_WakesEndInRun_1 :
    ∃ (s : State) (w : Wake) (cycles us : Nat), (s.power.wake = some w) ∧ (w.from_ = 2) ∧ (w.voltage = true) ∧ (s.bit
    CLK_STATUS.ROOT_LOCK = true) :=
  ⟨(aQuiet 2).upPw (fun x => { x with wake := some ⟨2, 0, true⟩, timeAt := 77 }), ⟨2, 0, true⟩, 9, 20000, by decide +kernel⟩
theorem witness_WakesEndInRun_1b :
    ∃ (s : State) (w : Wake) (cycles us : Nat), (s.power.wake = some w) ∧ (w.from_ = 2) ∧ (w.voltage = true) ∧ (s.bit
    CLK_STATUS.ROOT_LOCK = true) :=
  ⟨(((aQuiet 2).wr TIM_STATUS.QUALITY 2).upTim (fun x => { x with ratioOk := true })).upPw (fun x => { x with wake := some ⟨2, 0, true⟩, timeAt := 77 }), ⟨2, 0, true⟩, 9, 20, by decide +kernel⟩
theorem witness_WakesEndInRun_2 :
    ∃ (s : State) (w : Wake) (answers : Bool) (cycles us : Nat), (s.power.wake = some w) ∧ (w.from_ = 3) ∧ (w.voltage
    = true) ∧ (s.bit CLK_STATUS.ROOT_LOCK = true) ∧ (s.power.sealed = true) :=
  ⟨(aQuiet 3).upPw (fun x => { x with wake := some ⟨3, 0, true⟩, sealed := true }), ⟨3, 0, true⟩, true, 9, 400, by decide +kernel⟩
theorem witness_DeviceResetsLeaveTheirReason_1 :
    ∃ (s : State) (straps : Fin 8), s.power.aonReset = true :=
  ⟨State.reset.upPw (fun x => { x with aonReset := true }), 7, by decide +kernel⟩
theorem witness_DeviceResetsLeaveTheirReason_2 :
    ∃ (s : State), (s.power.resetN = false) ∧ (s.power.inReset = false) :=
  ⟨aClocked, by decide +kernel⟩
theorem witness_DeviceResetsLeaveTheirReason_3 :
    ∃ (s : State), (s.power.resetN = true) ∧ (s.power.inReset = true) ∧ (s.power.bootDue = false) ∧ (s.power.aonReset
    = false) ∧ (s.power.lowRails = []) :=
  ⟨State.reset.upPw (fun x => { x with resetN := true, bootDue := false }), by decide +kernel⟩
theorem witness_DeviceResetsLeaveTheirReason_4 :
    ∃ (s : State) (rail : Rail), (s.powerState ≠ 3) ∧ (s.powerState ≠ 4) ∧ (s.power.aonReset = false) ∧
    (s.power.inReset = false) :=
  ⟨aClocked, .pll, by decide +kernel⟩
theorem witness_DeviceResetsLeaveTheirReason_6 :
    ∃ (s : State) (key : Nat), (s.hosted = true) ∧ (s.powerState ≠ 1) ∧ (key % 256 = 0x5A) ∧ (s.power.inReset = false)
    :=
  ⟨aClocked, 0x5A, by decide +kernel⟩
theorem witness_DeviceResetsLeaveTheirReason_7 :
    ∃ (s : State) (key : Nat), (s.hosted = true) ∧ (s.powerState ≠ 1) ∧ (key % 256 ≠ 0x5A) :=
  ⟨aClocked, 0x5B, by decide +kernel⟩
theorem witness_OnlyDeviceResetsRestartFabricTime_3 :
    ∃ (s : State), (s.power.resetN = false) ∧ (s.power.inReset = false ∨ s.power.bootDue = true) :=
  ⟨aClocked.setNow 99, by decide +kernel⟩
theorem witness_OnlyDeviceResetsRestartFabricTime_4 :
    ∃ (s : State) (rail : Rail), (s.powerState ≠ 3 ∧ s.powerState ≠ 4) ∧ (s.power.aonReset = false) ∧ (s.power.inReset
    = false ∨ s.power.bootDue = true) :=
  ⟨aClocked.setNow 99, .pll, by decide +kernel⟩
theorem witness_OnlyDeviceResetsRestartFabricTime_5 :
    ∃ (s : State) (key : Nat), (s.hosted = true) ∧ (s.powerState ≠ 1) ∧ (key % 256 = 0x5A) ∧ (s.power.inReset = false)
    :=
  ⟨aClocked.setNow 99, 0x5A, by decide +kernel⟩
theorem witness_OnlyDeviceResetsRestartFabricTime_6 :
    ∃ (s : State), (s.powerState = 4) ∧ (s.power.inReset = false) :=
  ⟨(aQuiet 4).setNow 99, by decide +kernel⟩
theorem witness_OnlyDeviceResetsRestartFabricTime_7 :
    ∃ (s : State) (w : Wake) (good : List Bool) (cycles us : Nat), (s.power.wake = some w) ∧ (w.from_ = 3) ∧
    (w.voltage = true) ∧ (s.bit CLK_STATUS.ROOT_LOCK = true) :=
  ⟨((aQuiet 3).upPw (fun x => { x with wake := some ⟨3, 0, true⟩, sealed := true })).setNow 99, ⟨3, 0, true⟩, [], 9, 400, by decide +kernel⟩
theorem witness_OnlyDeviceResetsRestartFabricTime_12 :
    ∃ (s : State) (k : SliceId), s.powerState ≠ 1 :=
  ⟨aTrace.setNow 99, 1, by decide +kernel⟩
theorem witness_OnlyDeviceResetsRestartFabricTime_13 :
    ∃ (s : State) (k : SliceId), s.powerState ≠ 1 :=
  ⟨aTrace.setNow 99, 1, by decide +kernel⟩
theorem witness_OnlyDeviceResetsRestartFabricTime_16 :
    ∃ (s : State) (i : Nat), s.txn.changes.all (fun c => c.cell.key / 32 != TIM_STATUS.off) = true :=
  ⟨aSeg.setNow 99, 0, by decide +kernel⟩
theorem witness_PortsAndTilesAreReset_1 :
    ∃ (s : State) (p : PortId) (h : Nat), (s.hosted = true) ∧ (s.powerState ≠ 1) ∧ (s.enabled p = true) ∧ (s.tileState
    (s.tileOf p) ≠ 3) ∧ (s.tileState (s.tileOf p) ≠ 4) ∧ (s.tileState (s.tileOf p) ≠ 0 ∨ s.resetsHeld = false) ∧
    ((s.portx p).reset = none) ∧ (h ∈ s.stdHalves p) :=
  ⟨aSeg, 0, 0, by decide +kernel⟩
theorem witness_PortsAndTilesAreReset_2 :
    ∃ (s : State) (i : TileId), (s.hosted = true) ∧ (s.powerState ≠ 1) ∧ (s.tileState i ≠ 0) ∧ (s.tileState i ≠ 3) ∧
    (s.txnState ≠ xAPPLYING) :=
  ⟨aSeg, 0, by decide +kernel⟩
theorem witness_PortsAndTilesAreReset_2b :
    ∃ (s : State) (i : TileId), (s.hosted = true) ∧ (s.powerState ≠ 1) ∧ (s.tileState i ≠ 0) ∧ (s.tileState i ≠ 3) ∧
    (s.txnState ≠ xAPPLYING) :=
  ⟨aSeg.wr (GLB_TILE_STATUS.LT 7) 4, 7, by decide +kernel⟩
theorem witness_PortsAndTilesAreReset_3 :
    ∃ (s : State) (p : PortId), ((s.portx p).reset = some .port ∨ (s.portx p).reset = some .restructure) ∧ (s.enabled
    p = true) ∧ (s.tileOn p = true) ∧ (s.isTT p = true) ∧ (s.trn p = tDOWN) ∧ (s.awake = true) :=
  ⟨aPort.upP 0 (fun x => { x with reset := some .port }), 0, by decide +kernel⟩
theorem witness_PortsAndTilesAreReset_4 :
    ∃ (s : State) (i : TileId), (s.tileState i = 3) ∧ (s.resetsHeld = false) ∧ (s.bit CLK_STATUS.ROOT_LOCK = true) :=
  ⟨aClocked.wr (GLB_TILE_STATUS.LT 0) 3, 0, by decide +kernel⟩
theorem witness_PortsAndTilesAreReset_5 :
    ∃ (s : State), (s.power.thermtrip = false) ∧ (s.powerState ≠ 4) ∧ (s.powerState ≠ 3 ∨ s.entering = true) ∧
    (s.power.inReset = false) ∧ (s.txn.changes = [] ∨ s.txnState ≠ xAPPLYING) ∧ (s.bit SB_CTRL.ALERT_EN = true) :=
  ⟨aClocked.on SB_CTRL.ALERT_EN, by decide +kernel⟩
theorem witness_PortsAndTilesAreReset_6 :
    ∃ (s : State), (s.power.thermtrip = false) ∧ (s.powerState ≠ 4) ∧ (s.power.inReset = true) ∧ (s.bit
    SB_CTRL.ALERT_EN = true) :=
  ⟨State.reset.on SB_CTRL.ALERT_EN, by decide +kernel⟩
theorem witness_PortsAndTilesAreReset_7 :
    ∃ (s : State) (i : TileId), (s.power.thermtrip = false) ∧ (s.powerState = 3) ∧ (s.entering = false) ∧
    (s.power.inReset = false) :=
  ⟨aRest 3, 2, by decide +kernel⟩
theorem witness_PortsAndTilesAreReset_8 :
    ∃ (s t : State) (p : PortId), (s.tileOf p < 8) ∧ (exec (.rstPort p) s = .next t) :=
  ⟨aSeg, afterOf (.rstPort 0) aSeg, 0, ⟨by decide +kernel, rfl⟩⟩
theorem witness_PortsAndTilesAreReset_9 :
    ∃ (s t : State) (i : TileId), (s.txn.tiles.contains i.val = false) ∧ (s.imgOp = none) ∧ ((s.tile i).accesses = [])
    ∧ (∀ k j, ∀ w ∈ (s.ringx k j).waits, w.1 ≠ i.val) ∧ (∀ e ∈ tileEngines i, ∀ j, (s.engine e).slot = some j →
    tileOfHalf j.half = i.val) ∧ (exec (.rstTile i) s = .next t) :=
  ⟨aSeg, afterOf (.rstTile 0) aSeg, 0, ⟨by decide +kernel, by decide +kernel, by decide +kernel, fun _ _ _ h => absurd h List.not_mem_nil, fun _ _ j h => absurd (show (none : Option Job) = some j from h) (by simp), rfl⟩⟩
theorem witness_PortsAndTilesAreReset_10 :
    ∃ (s t : State) (i : TileId) (cause : FenceCause), (s.txn.tiles.contains i.val = false) ∧ (s.imgOp = none) ∧
    ((s.tile i).accesses = []) ∧ (∀ k j, ∀ w ∈ (s.ringx k j).waits, w.1 ≠ i.val) ∧ (∀ e ∈ tileEngines i, ∀ j,
    (s.engine e).slot = some j → tileOfHalf j.half = i.val) ∧ (exec (.tileFence i cause) s = .next t) :=
  ⟨aSeg, afterOf (.tileFence 0 .dclk) aSeg, 0, .dclk, ⟨by decide +kernel, by decide +kernel, by decide +kernel, fun _ _ _ h => absurd h List.not_mem_nil, fun _ _ j h => absurd (show (none : Option Job) = some j from h) (by simp), rfl⟩⟩
theorem witness_PortsAndTilesAreReset_11 :
    ∃ (s : State) (i : TileId) (cause : FenceCause) (p h : Nat), (s.tileState i = 2) ∧ (p ∈ s.portsOf i) ∧ (h ∈
    s.stdHalves p) :=
  ⟨aClocked, 0, .dclk, 0, 1, by decide +kernel⟩
theorem witness_PortsAndTilesAreReset_11b :
    ∃ (s : State) (i : TileId) (cause : FenceCause) (p h : Nat), (s.tileState i = 2) ∧ (p ∈ s.portsOf i) ∧ (h ∈
    s.stdHalves p) :=
  ⟨aSeg, 0, .supply, 0, 0, by decide +kernel⟩
theorem witness_PortsAndTilesAreReset_12 :
    ∃ (s : State) (i : TileId), (s.bit ERR_CTRL.AUTO_TILE_RESET = true) ∧ (s.tileState i = 4) ∧ ((s.tile i).stayFenced
    = false) ∧ (s.txnState ≠ xAPPLYING) :=
  ⟨(aClocked.wr (GLB_TILE_STATUS.LT 0) 4).on ERR_CTRL.AUTO_TILE_RESET, 0, by decide +kernel⟩
theorem witness_PortsAndTilesAreReset_13 :
    ∃ (s : State) (q : SideId), (s.isSeg q = true) ∧ (s.segState q = sACTIVE) :=
  ⟨aSeg, 1, by decide +kernel⟩
theorem witness_SidebandAnswersMessages_1 :
    ∃ (s : State) (x : Nat), (s.sbUp = true) ∧ (s.powerState ≠ 1) ∧ (x < 2 ^ 32) ∧ (s.sbReadStatus [x] = sbOK) :=
  ⟨aClocked, 0, by decide +kernel⟩
theorem witness_SidebandAnswersMessages_2 :
    ∃ (s : State) (x : Nat) (status : Nat), (s.sbUp = true) ∧ (s.powerState ≠ 1) ∧ (x < 2 ^ 32) ∧ (s.sbReadStatus [x]
    = status) ∧ (status ≠ sbOK) :=
  ⟨aClocked, 1, sbBADOFFSET, by decide +kernel⟩
theorem witness_SidebandAnswersMessages_2b :
    ∃ (s : State) (x : Nat) (status : Nat), (s.sbUp = true) ∧ (s.powerState ≠ 1) ∧ (x < 2 ^ 32) ∧ (s.sbReadStatus [x]
    = status) ∧ (status ≠ sbOK) :=
  ⟨aClocked, 0x200014, sbNOTMIRRORED, by decide +kernel⟩
theorem witness_SidebandAnswersMessages_3 :
    ∃ (s : State) (x n : Nat), (s.sbUp = true) ∧ (s.powerState ≠ 1) :=
  ⟨aClocked, 0, 3, by decide +kernel⟩
theorem witness_SidebandAnswersMessages_4 :
    ∃ (s : State) (v : Nat), (s.sbUp = true) ∧ (s.powerState ≠ 1) ∧ (s.hosted = true) ∧ (s.c3Serves = true) :=
  ⟨aClocked, 0x90000000, by decide +kernel⟩
theorem witness_SidebandAnswersMessages_5 :
    ∃ (s : State) (x v : Nat), (s.sbUp = true) ∧ (s.powerState ≠ 1) ∧ (x < 2 ^ 32) ∧ (s.sbBad x = false) ∧ (sbWritable
    x = false) :=
  ⟨aClocked, 0x3000, 1, by decide +kernel⟩
theorem witness_SidebandAnswersMessages_6 :
    ∃ (s : State), (s.sbUp = true) ∧ (s.powerState ≠ 1) :=
  ⟨aClocked.wr SB_STATUS.LAST_STATUS 2, by decide +kernel⟩
theorem witness_SidebandAnswersMessages_7 :
    ∃ (s : State) (p : PortId), (s.sbUp = true) ∧ (s.powerState ≠ 1) :=
  ⟨aClocked, 0, by decide +kernel⟩
theorem witness_SidebandAnswersMessages_8 :
    ∃ (s : State), (s.sbUp = true) ∧ (s.powerState ≠ 1) :=
  ⟨aClocked, by decide +kernel⟩
theorem witness_SidebandAnswersMessages_9 :
    ∃ (s : State), (s.sbUp = true) ∧ (s.alertLow = true) :=
  ⟨aClocked.on SB_STATUS.ALERT_PENDING, by decide +kernel⟩
theorem witness_SidebandAnswersMessages_10 :
    ∃ (s : State), s.sbUp = true :=
  ⟨aClocked.upPw (fun x => { x with sbBusy := true }), by decide +kernel⟩
theorem witness_SidebandAnswersMessages_11 :
    ∃ (s : State) (c : Nat), (s.powerState = 2) ∧ (s.power.wake = none) :=
  ⟨aQuiet 2, 1, by decide +kernel⟩

end Sys2Proof.Tests
end

section
/-! PROOFS. The time limit of CONVERGE (02, R56): what leaving CONVERGE makes of the adaptation state, and what the
CONVERGE_TIMEOUT command does to a receiver in CONVERGE whose engine runs. -/

namespace Sys2Proof.Machine

/-! ## What the adaptation operations leave in ADAPT_STATE -/

@[simp] theorem State.toTrack_adaptState (s : State) (h : Nat) (frozen : Bool) :
    (s.toTrack h frozen).rd (LCH_FOM.ADAPT_STATE h) = if frozen then 5 else 4 := by
  cases frozen <;> simp [State.toTrack, State.keepConv]

/-- Table 4 of chapter 02: CONVERGE ends in TRIM (3) where trimming is permitted, else in TRACK (4). -/
@[simp] theorem State.leaveConverge_adaptState (s : State) (h : Nat) :
    (s.leaveConverge h).rd (LCH_FOM.ADAPT_STATE h) = if s.mayTrim h then 3 else 4 := by
  unfold State.leaveConverge
  split
  case isTrue => simp
  case isFalse => exact s.toTrack_adaptState h false

/-- Of the registers, the permission to trim reads CTLE_TRIM_OFF alone (R54). -/
theorem State.put_mayTrim (s : State) (d : Cell) (b : Bool) (h : Nat)
    (hd : fieldName (LCH_EQ_CTRL.CTLE_TRIM_OFF h).key ≠ fieldName d.key) : (s.put d b).mayTrim h = s.mayTrim h := by
  simp only [State.mayTrim, State.put_half, State.bit, State.rd_put_name s _ d b hd]

/-! ## CONVERGE_TIMEOUT -/

theorem exec_convergeTimeout (h : HalfId) (s : State) :
    exec (.convergeTimeout h) s = execConvergeTimeout h s := rfl

/-- The command on a receiver in CONVERGE, below its target and with its engine running. -/
theorem exec_convergeTimeout_below_target {s : State} {h : HalfId} (hst : s.rd (LCH_FOM.ADAPT_STATE h) = 2)
    (hbelow : (s.bit (LCH_FOM.FOM_VALID h) && decide (s.fomTarget h ≤ s.rd (LCH_FOM.FOM h))) = false)
    (hup : s.engineUp h = true) :
    exec (.convergeTimeout h) s = .next ((s.put (LCH_FOM.BELOW_TARGET h) true).leaveConverge h) := by
  rw [exec_convergeTimeout, execConvergeTimeout, if_pos ⟨hst, hup⟩, hbelow, Bool.not_false]

/-- Settles O16: BELOW_TARGET is set first, which neither leaving CONVERGE nor the permission to trim touches. -/
theorem convergeTimeoutLeavesConverge : Obligations.ConvergeTimeoutLeavesConverge := by
  unfold Obligations.ConvergeTimeoutLeavesConverge
  intro s h hst hbelow hup
  refine ⟨_, exec_convergeTimeout_below_target hst hbelow hup, ?_, ?_⟩
  · rw [State.rd_leaveConverge _ _ _ (by rw [fieldName_LCH_FOM_BELOW_TARGET]; decide), State.rd_put_same]
    rfl
  · rw [State.leaveConverge_adaptState, State.put_mayTrim _ _ _ _ (by simp)]

end Sys2Proof.Machine
end

section
/-! PROOFS. Which resets restart Fabric Time (14, R423): the resets of the device build the state anew and keep no register
of it; the narrower ones spare it by their footprints, a Tile reset by what the apply that it fails and the accesses that
waited can reach. -/

namespace Sys2Proof.Machine

/-! ## Fabric Time and its quality, beside a footprint -/

/-- Whether a footprint holds neither Fabric Time nor its quality. -/
def Foot.sparesTime (F : Foot) : Bool := !F.parts.contains .now && F.misses (fieldName TIM_STATUS.QUALITY.key)

theorem Goes.quality {F : Foot} {s t : State} (g : Goes F s t) (hF : F.misses (fieldName TIM_STATUS.QUALITY.key) = true) :
    t.quality = s.quality :=
  g.rd_misses hF

theorem Goes.now {F : Foot} {s t : State} (g : Goes F s t) (hF : F.parts.contains .now = false) : t.now = s.now :=
  g.kept.parts .now (by simpa using hF)

theorem Goes.fabricTime {F : Foot} {s t : State} (g : Goes F s t) (hF : F.sparesTime = true) :
    t.now = s.now ∧ t.quality = s.quality := by
  obtain ⟨hnow, hquality⟩ := Bool.and_eq_true_iff.1 hF
  exact ⟨g.now (by simpa using hnow), g.quality hquality⟩

theorem Runs.fabricTime {F : Foot} {s : State} {o : Host.Outcome State Fault Refusal} (r : Runs F s o) (hF : F.sparesTime = true) :
    ∃ t, o = .next t ∧ t.now = s.now ∧ t.quality = s.quality := by
  obtain ⟨t, ho, g⟩ := r
  exact ⟨t, ho, g.fabricTime hF⟩

/-! ## The resets of the device -/

/-- Fabric Time as the resets of the device leave it (R423). -/
def TimeRestarted (s : State) : Prop := s.now = 0 ∧ s.quality = qINVALID

theorem TimeRestarted.of_goes {F : Foot} {s t : State} (h : TimeRestarted s) (g : Goes F s t) (hF : F.sparesTime = true) :
    TimeRestarted t := by
  obtain ⟨hnow, hquality⟩ := g.fabricTime hF
  exact ⟨hnow.trans h.1, hquality.trans h.2⟩

theorem TimeRestarted.wr {s : State} (h : TimeRestarted s) (c : Cell) (v : Nat)
    (hc : fieldName TIM_STATUS.QUALITY.key ≠ fieldName c.key) : TimeRestarted (s.wr c v) :=
  ⟨h.1, (State.rd_wr_name s _ c v hc).trans h.2⟩

theorem TimeRestarted.newEra {s : State} (h : TimeRestarted s) (era : Nat) : TimeRestarted (s.newEra era) :=
  h.of_goes (Goes.newEra (Foot.le_refl _) (Goes.refl _ s)) (by decide +kernel)

theorem Tab.get_keep_false {α : Type} (t : Tab α) (d : α) {p : Nat → Bool} {k : Nat} (h : p k = false) :
    (t.keep p).get d k = d := by
  have hnone : lookupKey k (t.keep p).entries = none :=
    lookupKey_none (fun e he hk => by
      have hp : p e.1 = true := (List.mem_filter.1 he).2
      rw [hk, h] at hp
      cases hp)
  simp [Tab.get, hnone]

theorem timeRestarted_blank (s : State) {regs : Tab Nat} (h : regs.get 0 TIM_STATUS.QUALITY.key = 0) :
    TimeRestarted (s.blank regs) := ⟨rfl, h⟩

/-- The Pin resets: no bank of the always-on domain holds the quality. -/
theorem timeRestarted_pinReset (s : State) (reason : Nat) : TimeRestarted (s.pinReset reason) := by
  have hblank : TimeRestarted (s.blank (s.regs.keep aonKey)) :=
    timeRestarted_blank s (Tab.get_keep_false _ _ (by decide))
  exact ((((hblank.newEra _).wr SB_STATUS.ADDRESS _ (by simp)).wr RST_STATUS.REASON _ (by simp)).wr
    RST_STATUS.BOOT_DONE _ (by simp)).wr RST_STATUS.PIN_CNT _ (by simp)

theorem TimeRestarted.upPw {s : State} (h : TimeRestarted s) (f : Power → Power) : TimeRestarted (s.upPw f) := h

theorem TimeRestarted.upM {s : State} (h : TimeRestarted s) (f : Mgmt → Mgmt) : TimeRestarted (s.upM f) := h

/-- The Cold reset, and the AON brown-out reset, which keeps PWR_AON_STATUS and RST_STATUS alone. -/
theorem timeRestarted_coldReset (s : State) (brownout : Bool) : TimeRestarted (s.coldReset brownout) := by
  cases brownout with
  | false =>
    have hblank := timeRestarted_blank s (Tab.get_empty 0 TIM_STATUS.QUALITY.key)
    simp only [State.coldReset, Bool.false_eq_true, if_false]
    exact ((hblank.newEra 1).upPw _).upM _
  | true =>
    have hblank := timeRestarted_blank s (Tab.get_keep_false s.regs 0 (k := TIM_STATUS.QUALITY.key)
      (p := fun k => k / 32 == 0x301C || k / 32 == 0x5000) (by decide))
    simp only [State.coldReset, if_true]
    exact (((((hblank.newEra 1).upPw _).upM _).wr RST_STATUS.REASON _ (by simp)).wr RST_STATUS.BOOT_DONE _ (by simp)).wr
      RST_STATUS.PIN_CNT _ (by simp)

/-! ## The sources of the resets of the device -/

/-- A source that arises outside a reset of the device, or once its end has made the boot due, is a Pin reset of its own
(R421). -/
theorem timeRestarted_pinSource {s : State} (h : s.power.inReset = false ∨ s.power.bootDue = true) (reason : Nat) :
    TimeRestarted (s.pinSource reason) := by
  have hown : ¬(s.power.inReset = true ∧ (!s.power.bootDue) = true) := by
    rintro ⟨hin, hdue⟩
    rcases h with h | h
    · simp [h] at hin
    · simp [h] at hdue
  rw [State.pinSource, if_neg hown]
  exact timeRestarted_pinReset s reason

/-- A host command that needs no wake from IDLE. -/
theorem State.hostCmd_awake {s : State} (h : s.powerState ≠ 1) (act : State → State) :
    s.hostCmd act = if s.hosted then act s else s := by
  simp only [State.hostCmd, State.hostWrite, if_neg h]

theorem exec_coldReset_restarts (s : State) : ∃ t, exec .coldReset s = .next t ∧ TimeRestarted t :=
  ⟨_, rfl, timeRestarted_coldReset s false⟩

theorem exec_aonBrownout_restarts (cause : BrownoutCause) (s : State) :
    ∃ t, exec (.aonBrownout cause) s = .next t ∧ TimeRestarted t :=
  ⟨_, rfl, timeRestarted_coldReset _ true⟩

theorem exec_resetNAssert_restarts {s : State} (hn : s.power.resetN = false)
    (h : s.power.inReset = false ∨ s.power.bootDue = true) :
    ∃ t, exec .resetNAssert s = .next t ∧ TimeRestarted t := by
  refine ⟨_, rfl, ?_⟩
  rw [hn, if_neg Bool.false_ne_true]
  refine timeRestarted_pinSource ?_ 1
  exact h

theorem exec_supplyMonitor_restarts (rail : Rail) {s : State} (hst : s.powerState ≠ 3 ∧ s.powerState ≠ 4)
    (haon : s.power.aonReset = false) (h : s.power.inReset = false ∨ s.power.bootDue = true) :
    ∃ t, exec (.supplyMonitor rail) s = .next t ∧ TimeRestarted t := by
  refine ⟨_, rfl, ?_⟩
  rw [if_neg (by simp [hst, haon])]
  refine timeRestarted_pinSource ?_ 3
  exact h

theorem exec_rstDevice_restarts {s : State} {key : Nat} (hhost : s.hosted = true) (hst : s.powerState ≠ 1)
    (hkey : key % 256 = 0x5A) (hin : s.power.inReset = false) :
    ∃ t, exec (.rstDevice key) s = .next t ∧ TimeRestarted t := by
  refine ⟨_, rfl, ?_⟩
  rw [State.hostCmd_awake hst, if_pos hhost, State.rstDevice, if_pos hkey]
  exact timeRestarted_pinSource (Or.inl hin) 2

theorem exec_wakeIn_restarts {s : State} (hst : s.powerState = 4) (hin : s.power.inReset = false) :
    ∃ t, exec .wakeIn s = .next t ∧ TimeRestarted t := by
  refine ⟨_, rfl, ?_⟩
  rw [if_pos (by simp [hst, hin])]
  exact (timeRestarted_pinReset _ 4).wr SB_STATUS.ALERT_PENDING _ (by simp)

/-- A flash that does not answer fails the reload, whatever the Loft holds. -/
theorem exec_deepWakeReloadDone_restarts {s : State} {w : Wake} (hw : s.power.wake = some w) (hfrom : w.from_ = 3)
    (hvolt : w.voltage = true) (hlock : s.bit CLK_STATUS.ROOT_LOCK = true) (good : List Bool) (cycles us : Nat) :
    ∃ t, exec (.deepWakeReloadDone false good cycles us) s = .next t ∧ TimeRestarted t := by
  refine ⟨(s.pinReset 5).wr SB_STATUS.ALERT_PENDING (s.rd SB_STATUS.ALERT_PENDING), ?_,
    (timeRestarted_pinReset s 5).wr SB_STATUS.ALERT_PENDING _ (by simp)⟩
  show execDeepWakeReloadDone false good cycles us s = _
  simp [execDeepWakeReloadDone, hw, hfrom, hvolt, hlock]

/-! ## The narrower resets -/

theorem exec_perstAssert_fabricTime (s : State) :
    ∃ t, exec .perstAssert s = .next t ∧ t.now = s.now ∧ t.quality = s.quality :=
  (goes_execPerstAssert (Foot.le_refl _) (Goes.refl _ s)).fabricTime (by decide +kernel)

theorem exec_mgmtHotReset_fabricTime (s : State) :
    ∃ t, exec .mgmtHotReset s = .next t ∧ t.now = s.now ∧ t.quality = s.quality :=
  (goes_execMgmtHotReset (Foot.le_refl _) (Goes.refl _ s)).fabricTime (by decide +kernel)

theorem exec_dataLinkDown_fabricTime (s : State) :
    ∃ t, exec .dataLinkDown s = .next t ∧ t.now = s.now ∧ t.quality = s.quality :=
  (goes_execDataLinkDown (Foot.le_refl _) (Goes.refl _ s)).fabricTime (by decide +kernel)

theorem exec_flr_fabricTime (s : State) :
    ∃ t, exec .flr s = .next t ∧ t.now = s.now ∧ t.quality = s.quality :=
  (goes_execFlr (Foot.le_refl _) (Goes.refl _ s)).fabricTime (by decide +kernel)

/-- A host command that needs no wake from IDLE leaves Fabric Time to what it asks for. -/
theorem State.hostCmd_fabricTime {s : State} (h : s.powerState ≠ 1) {act : State → State}
    (hact : (act s).now = s.now ∧ (act s).quality = s.quality) :
    (s.hostCmd act).now = s.now ∧ (s.hostCmd act).quality = s.quality := by
  rw [State.hostCmd_awake h]
  split
  · exact hact
  · exact ⟨rfl, rfl⟩

theorem exec_sliceReset_fabricTime {s : State} (k : SliceId) (h : s.powerState ≠ 1) :
    ∃ t, exec (.sliceReset k) s = .next t ∧ t.now = s.now ∧ t.quality = s.quality :=
  ⟨_, rfl, State.hostCmd_fabricTime h
    ((Goes.askReset (Foot.le_refl _) (Goes.refl _ s)).fabricTime (by decide +kernel))⟩

theorem exec_selfReset_fabricTime {s : State} (k : SliceId) (h : s.powerState ≠ 1) :
    ∃ t, exec (.selfReset k) s = .next t ∧ t.now = s.now ∧ t.quality = s.quality :=
  ⟨_, rfl, State.hostCmd_fabricTime h
    ((Goes.selfReset (Foot.le_refl _) (Goes.refl _ s)).fabricTime (by decide +kernel))⟩

theorem State.portReset_fabricTime (s : State) (p : Nat) :
    (s.portReset p).now = s.now ∧ (s.portReset p).quality = s.quality :=
  (Goes.portReset (Foot.le_refl _) (Goes.refl _ s)).fabricTime (by decide +kernel)

theorem State.restructure_fabricTime (s : State) (p : Nat) :
    (s.restructure p).now = s.now ∧ (s.restructure p).quality = s.quality :=
  (Goes.restructure (Foot.le_refl _) (Goes.refl _ s)).fabricTime (by decide +kernel)

/-! ## Accesses of a tile that is not ON -/

/-- The fields at an offset of LCH_EQ_CTRL are that register's. -/
theorem fieldsAt_of_keptReg {x : Nat} (h : keptReg x = true) : ∃ n, fieldsAt x = LCH_EQ_CTRL.fields n := by
  simp only [keptReg, Bool.and_eq_true, Bool.or_eq_true, decide_eq_true_eq, beq_iff_eq] at h
  obtain ⟨⟨hlo, hhi⟩, ho⟩ := h
  have hlane : fieldsAt x = fieldsLane ((x - 0x200000) / 0x100) (x % 0x100) := by
    rw [fieldsAt, if_neg (by omega), if_neg (by omega), if_pos ⟨hlo, hhi⟩]
  rw [hlane, fieldsLane, if_neg (by omega)]
  rcases ho with ho | ho
  · exact ⟨_, if_pos (by unfold LCH_EQ_CTRL.off; omega)⟩
  · exact ⟨_, by rw [if_neg (by unfold LCH_EQ_CTRL.off; omega), if_pos (by unfold LCH_EQ_CTRL.off; omega)]⟩

/-- What the accesses that wait for a tile that is not ON may change: LCH_EQ_CTRL, the answers of reads and the event of a
FENCED tile. -/
def fp_shutAccess : Foot := ⟨[.mgmt, .tiles, .evq, .outbox], some [0x4000202, 0x4000203, 0x4000201, 0xE0390, 0xE0380,
  0xE0388, 0xE0210, 0xE0200, 0xE021E, 0xE0208, 0xE021F, 0xE0280, 0xE0100, 0xE0001, 0x100097]⟩

section
variable {s0 s : State} {i : Nat}

theorem Goes.tileState {F : Foot} (g : Goes F s0 s) (hF : F.misses 0x100 = true) (i : Nat) : s.tileState i = s0.tileState i :=
  g.rd_misses (by rw [fieldName_GLB_TILE_STATUS_LT]; exact hF)

theorem Goes.keptWrite_shut (x v : Nat) (g : Goes fp_shutAccess s0 s) : Goes fp_shutAccess s0 (s.keptWrite x v) := by
  unfold State.keptWrite
  split
  case isTrue hk =>
    obtain ⟨n, hn⟩ := fieldsAt_of_keptReg hk
    rw [hn]
    exact Goes.storeWord (names_LCH_EQ_CTRL_fields n) (fun f hf => (knowns_LCH_EQ_CTRL n f hf).agrees) (by decide +kernel) g
  case isFalse => exact g

theorem Goes.takeAccess_shut (a : TileAccess) (hoff : s.tileState i ≠ 2) (g : Goes fp_shutAccess s0 s) :
    Goes fp_shutAccess s0 (s.takeAccess i a) := by
  rw [State.takeAccess, if_neg hoff]
  have hfenced (b : Bool) : Goes fp_shutAccess s0 (s.fencedAccess i b) := Goes.fencedAccess (by decide +kernel) g
  split
  · split
    · exact (hfenced true).keptWrite_shut _ _
    · exact Goes.sendUp (by decide +kernel) (hfenced false)
  · split
    · exact g.keptWrite_shut _ _
    · exact Goes.sendUp (by decide +kernel) g

/-- No access that waited acts in the tile: the tile is not ON before any of them. -/
theorem Goes.dropAccesses_shut (hoff : s.tileState i ≠ 2) : Goes fp_shutAccess s (s.dropAccesses i) := by
  have hdrained : Goes fp_shutAccess s (s.drainAccesses i) :=
    List.foldlRecOn _ _ (motive := Goes fp_shutAccess s)
      (Goes.tileQuiet (by decide +kernel) (Goes.upT (by decide +kernel) (Goes.refl _ s)))
      (fun u g a _ => g.takeAccess_shut a (by rw [g.tileState (by decide)]; exact hoff))
  exact Goes.upT (by decide +kernel) hdrained

theorem State.dropAccesses_quality (hoff : s.tileState i ≠ 2) : (s.dropAccesses i).quality = s.quality :=
  (Goes.dropAccesses_shut hoff).quality (by decide +kernel)

end

/-! ## A transaction's changes beside the quality -/

/-- Fabric Time's quality is `q`, and the transaction holds no change of TIM_STATUS, none of whose fields is RWT (12,
Table 12). -/
structure QualityStays (q : Nat) (s : State) : Prop where
  quality : s.quality = q
  spared : ∀ c ∈ s.txn.changes, c.cell.key / 32 ≠ TIM_STATUS.off

/-- Whether a footprint holds neither the transaction nor the quality. -/
def Foot.sparesQuality (F : Foot) : Bool := !F.parts.contains .txn && F.misses (fieldName TIM_STATUS.QUALITY.key)

namespace QualityStays

variable {q : Nat} {s t : State}

theorem of_goes {F : Foot} (h : QualityStays q s) (g : Goes F s t) (hF : F.sparesQuality = true) : QualityStays q t := by
  obtain ⟨htxn, hquality⟩ := Bool.and_eq_true_iff.1 hF
  have hsame : t.txn = s.txn := g.kept.parts .txn (by simpa using htxn)
  exact ⟨(g.quality hquality).trans h.quality, by rw [hsame]; exact h.spared⟩

theorem ite {p : Prop} [Decidable p] (hs : QualityStays q s) (ht : QualityStays q t) : QualityStays q (if p then s else t) := by
  split
  · exact hs
  · exact ht

theorem upX (h : QualityStays q s) {f : Txn → Txn} (hf : ∀ x, (f x).changes = x.changes := by intro _; rfl) :
    QualityStays q (s.upX f) :=
  ⟨h.quality, by rw [State.upX_txn, hf]; exact h.spared⟩

theorem wr (h : QualityStays q s) {c : Cell} (hc : c.key / 32 ≠ TIM_STATUS.off) (v : Nat) : QualityStays q (s.wr c v) := by
  have hkey : TIM_STATUS.QUALITY.key ≠ c.key := by
    intro he
    rw [← he] at hc
    exact hc (by decide)
  exact ⟨(s.rd_wr_ne c _ v hkey).trans h.quality, h.spared⟩

theorem each (h : QualityStays q s) {l : List Nat} {f : State → Nat → State}
    (hf : ∀ u, QualityStays q u → ∀ x, QualityStays q (f u x)) : QualityStays q (s.each l f) :=
  List.foldlRecOn l f h (fun u hu x _ => hf u hu x)

/-- Changes of the transaction take effect, or are taken back. -/
theorem foldl_changes (h : QualityStays q s) (p : Change → Bool) (v : Change → Nat) :
    QualityStays q ((s.txn.changes.filter p).foldl (fun u c => u.wr c.cell (v c)) s) :=
  List.foldlRecOn _ _ h (fun _ hu c hc => hu.wr (h.spared c (List.mem_of_mem_filter hc)) _)

theorem putChanges (h : QualityStays q s) (port : Option Nat) (back : Bool) : QualityStays q (s.putChanges port back) :=
  h.foldl_changes _ _

theorem putOneWay (h : QualityStays q s) (r : Nat) (back : Bool) : QualityStays q (s.putOneWay r back) :=
  h.foldl_changes _ _

theorem quietPort (h : QualityStays q s) (p : Nat) (why : Option PortReset) : QualityStays q (s.quietPort p why) :=
  h.of_goes (Goes.quietPort (Foot.le_refl _) (Goes.refl _ _)) (by decide +kernel)

theorem settlePort (h : QualityStays q s) (old : State) (p : Nat) : QualityStays q (s.settlePort old p) :=
  h.of_goes (Goes.settlePort (Foot.le_refl _) (Goes.refl _ _)) (by decide +kernel)

theorem forgetPort (h : QualityStays q s) (p : Nat) : QualityStays q (s.forgetPort p) :=
  h.of_goes (Goes.forgetPort (Foot.le_refl _) (Goes.refl _ _)) (by decide +kernel)

theorem awaitPort (h : QualityStays q s) (p : Nat) : QualityStays q (s.awaitPort p) :=
  h.of_goes (Goes.awaitPort (Foot.le_refl _) (Goes.refl _ _)) (by decide +kernel)

theorem clearMarks (h : QualityStays q s) : QualityStays q s.clearMarks :=
  h.of_goes (Goes.clearMarks (Foot.le_refl _) (Goes.refl _ _)) (by decide +kernel)

theorem settleDclk (h : QualityStays q s) : QualityStays q s.settleDclk :=
  h.of_goes (Goes.settleDclk (Foot.le_refl _) (Goes.refl _ _)) (by decide +kernel)

theorem setTx (h : QualityStays q s) (n : Nat) (m : TxMode) : QualityStays q (s.setTx n m) :=
  h.of_goes (Goes.setTx (Foot.le_refl _) (Goes.refl _ _)) (by decide +kernel)

theorem tileQuiet (h : QualityStays q s) (i : Nat) : QualityStays q (s.tileQuiet i) :=
  h.of_goes (Goes.tileQuiet (Foot.le_refl _) (Goes.refl _ _)) (by decide +kernel)

theorem deviceQuiet (h : QualityStays q s) : QualityStays q s.deviceQuiet :=
  h.of_goes (Goes.deviceQuiet (Foot.le_refl _) (Goes.refl _ _)) (by decide +kernel)

theorem showTarget (h : QualityStays q s) : QualityStays q s.showTarget :=
  h.of_goes (Goes.showTarget (Foot.le_refl _) (Goes.refl _ _)) (by decide +kernel)

theorem askLevel (h : QualityStays q s) (l : Nat) : QualityStays q (s.askLevel l) :=
  h.of_goes (Goes.askLevel (Foot.le_refl _) (Goes.refl _ _)) (by decide +kernel)

theorem dropTxn (h : QualityStays q s) : QualityStays q (s.upX (fun _ => {})) :=
  ⟨h.quality, fun _ hc => absurd hc List.not_mem_nil⟩

theorem setEvq (h : QualityStays q s) (v : List Ev) : QualityStays q (s.setEvq v) := ⟨h.quality, h.spared⟩

theorem setPorts (h : QualityStays q s) (v : Tab PortX) : QualityStays q (s.setPorts v) := ⟨h.quality, h.spared⟩

theorem upH (h : QualityStays q s) (n : Nat) (f : Half → Half) : QualityStays q (s.upH n f) := ⟨h.quality, h.spared⟩

/-- The change of a role shows in TIM_STATUS, but not in its quality (R355). -/
theorem putGlobals (h : QualityStays q s) (back : Bool) : QualityStays q (s.putGlobals back) := by
  have hheld := h.of_goes (Goes.holdAllLimits (Foot.le_refl _) (Goes.refl _ _)) (by decide +kernel)
  have htable := (hheld.putChanges none back).of_goes
    (Goes.putTable (t := if back then s.txn.oldTable else s.txn.table) (Foot.le_refl _) (Goes.refl _ _))
    (by decide +kernel)
  have hactive := htable.of_goes (Goes.showActive (Foot.le_refl _) (Goes.refl _ _)) (by decide +kernel)
  unfold State.putGlobals
  dsimp only
  split
  · exact hactive
  · exact hactive.of_goes (Goes.showRole (Foot.le_refl _) (Goes.refl _ _)) (by decide +kernel)

theorem turnPorts (h : QualityStays q s) (ps : List Nat) (back : Bool) : QualityStays q (s.turnPorts ps back) := by
  have hquiet := h.each (l := ps.filter s.txn.restruct.contains) (fun _ hu p => hu.quietPort p none)
  have hput := hquiet.each (l := ps) (fun _ hu p => hu.putChanges (some p) back)
  have hsettled := hput.each (l := ps) (fun _ hu p => hu.settlePort s p)
  exact hsettled.of_goes (Goes.dropUncalled (Foot.le_refl _) (Goes.refl _ _)) (by decide +kernel)

/-- A transaction that ends drops its changes. -/
theorem endTxn (h : QualityStays q s) (result reason index : Nat) : QualityStays q (s.endTxn result reason index) := by
  have hidle := (((h.wr (c := TXN_STATUS.STATE) (by decide) xIDLE).wr (c := TXN_STATUS.LAST_RESULT) (by decide) result).wr
    (c := TXN_STATUS.REASON) (by decide) reason).wr (c := TXN_STATUS.FAIL_INDEX) (by decide) index
  have hquiet := (hidle.each (l := List.range 8) (fun _ hu i => hu.tileQuiet i)).deviceQuiet
  unfold State.endTxn
  exact ite (((hquiet.dropTxn.setEvq _).setPorts _).showTarget.askLevel _) ((hquiet.dropTxn.setEvq _).setPorts _).showTarget

theorem turnGroup (h : QualityStays q s) (p : Nat) : QualityStays q (s.turnGroup p) := by
  unfold State.turnGroup
  exact ite h (ite (((h.turnPorts _ _).upX.settleDclk).endTxn 1 0 0xFF) (h.turnPorts _ _).upX.settleDclk)

theorem reached (h : QualityStays q s) (p : Nat) : QualityStays q (s.reached p) := by
  unfold State.reached
  exact ite (h.upX.turnGroup p) h

theorem resumeForwarding (h : QualityStays q s) : QualityStays q s.resumeForwarding := by
  unfold State.resumeForwarding
  refine each (each h.upX (fun u hu n => ?_)) (fun u hu n => ?_)
  · exact ite (hu.upH n _) hu
  · exact ite (hu.setTx n .forward) hu

/-- An apply that fails takes back what the transaction had changed, TIM_STATUS not among it. -/
theorem failTxn (h : QualityStays q s) (reason index : Nat) : QualityStays q (s.failTxn reason index) := by
  have hforward := h.resumeForwarding.each (l := s.txn.waiting.flatMap sidesOf) (fun _ hu r => hu.putOneWay r true)
  have hback := hforward.putGlobals true
  have hrolling := (hback.clearMarks.each (l := s.txn.waiting) (fun _ hu p => hu.forgetPort p)).wr
    (c := TXN_STATUS.STATE) (by decide) xROLLING
  unfold State.failTxn
  exact (hrolling.upX.each (fun _ hu p => hu.awaitPort p)).each (fun _ hu p => hu.reached p)

theorem tileLost (h : QualityStays q s) (i : Nat) : QualityStays q (s.tileLost i) := by
  unfold State.tileLost
  exact ite h (ite (h.failTxn 0xC i) (ite h.upX h))

end QualityStays

/-! ## The Tile reset -/

theorem State.leavesOn_tileState (s : State) (i : Nat) : (s.leavesOn i 3).tileState i = 3 := by
  have hleft : (((s.wr (GLB_TILE_STATUS.LT i) 3).off (CAL_TEMP.VALID i)).deviceQuiet).realign.tileState i = 3 := by
    rw [(Goes.realign (Foot.le_refl _) (Goes.refl _ _)).tileState (by decide),
      (Goes.deviceQuiet (Foot.le_refl _) (Goes.refl _ _)).tileState (by decide), State.tileState,
      State.rd_off_name _ _ _ (by simp), State.rd_wr_same]
    rfl
  have hswap (u : State) (j : Nat) : (u.swapFrom j).tileState i = u.tileState i :=
    (Goes.swapFrom (Foot.le_refl _) (Goes.refl _ _)).tileState (by decide) i
  unfold State.leavesOn
  dsimp only
  split
  · split
    · exact hleft
    · exact (hswap _ _).trans hleft
  · exact hleft

theorem State.quietTile_quality (s : State) (i : Nat) (why : Option PortReset) : (s.quietTile i why).quality = s.quality :=
  State.rd_quietTile s _ i why (by decide +kernel)

theorem State.leavesOn_quality (s : State) (i st : Nat) : (s.leavesOn i st).quality = s.quality :=
  State.rd_leavesOn s _ i st (by decide +kernel)

theorem State.resumeWaits_quality (s : State) (i : Nat) : (s.resumeWaits i).quality = s.quality :=
  State.rd_resumeWaits s _ i (by decide +kernel)

theorem State.satUp_tileResets_quality (s : State) : (s.satUp RST_CNT.TILE_RESETS).quality = s.quality :=
  State.rd_satUp_name s _ _ (by simp)

/-- A Tile reset reaches Fabric Time by none of its parts: the apply that it fails takes back changes of other registers, and
the accesses that waited complete on a tile that is in reset by then. -/
theorem State.resetTile_quality {s : State} (hs : ∀ c ∈ s.txn.changes, c.cell.key / 32 ≠ TIM_STATUS.off) (i : Nat) :
    (s.resetTile i).quality = s.quality := by
  unfold State.resetTile
  split
  · rfl
  · split
    · rw [State.satUp_tileResets_quality, State.quietTile_quality]
    · have hlost : (s.tileLost i).quality = s.quality := (QualityStays.tileLost ⟨rfl, hs⟩ i).quality
      have hreset : (((s.tileLost i).quietTile i (some .tile)).leavesOn i 3).tileState i ≠ 2 := by
        rw [State.leavesOn_tileState]
        decide
      have hleft : (((s.tileLost i).quietTile i (some .tile)).leavesOn i 3).quality = s.quality := by
        rw [State.leavesOn_quality, State.quietTile_quality, hlost]
      rw [State.resumeWaits_quality, State.satUp_tileResets_quality]
      refine (State.dropAccesses_quality ?_).trans ?_
      · rw [State.tileState, State.upPw_rd]
        exact hreset
      · rw [State.quality, State.upPw_rd]
        exact hleft

theorem State.resetTile_fabricTime {s : State}
    (hs : s.txn.changes.all (fun c => c.cell.key / 32 != TIM_STATUS.off) = true) (i : Nat) :
    (s.resetTile i).now = s.now ∧ (s.resetTile i).quality = s.quality :=
  ⟨(Goes.resetTile (Foot.le_refl _) (Goes.refl _ s)).now (by decide),
    State.resetTile_quality (by simpa using hs) i⟩

/-! ## The obligation -/

/-- Settles O58: the resets of the device build the state anew and keep no register of Fabric Time; the footprints of the
others spare it, and so does the apply that a Tile reset fails. -/
theorem onlyDeviceResetsRestartFabricTime : Obligations.OnlyDeviceResetsRestartFabricTime := by
  unfold Obligations.OnlyDeviceResetsRestartFabricTime
  exact ⟨exec_coldReset_restarts,
    fun s cause => exec_aonBrownout_restarts cause s,
    fun _ hn h => exec_resetNAssert_restarts hn h,
    fun _ rail hst haon h => exec_supplyMonitor_restarts rail hst haon h,
    fun _ _ hhost hst hkey hin => exec_rstDevice_restarts hhost hst hkey hin,
    fun _ hst hin => exec_wakeIn_restarts hst hin,
    fun _ _ good cycles us hw hfrom hvolt hlock => exec_deepWakeReloadDone_restarts hw hfrom hvolt hlock good cycles us,
    exec_perstAssert_fabricTime,
    exec_mgmtHotReset_fabricTime,
    exec_dataLinkDown_fabricTime,
    exec_flr_fabricTime,
    fun _ k hst => exec_sliceReset_fabricTime k hst,
    fun _ k hst => exec_selfReset_fabricTime k hst,
    State.portReset_fabricTime,
    State.restructure_fabricTime,
    fun _ i hs => State.resetTile_fabricTime hs i⟩

end Sys2Proof.Machine
end

section
/-! PROOFS. The machine as a whole: every command is taken, keeps within its footprint, keeps the canonical form of the
tables and takes nothing back, and so does every step. -/

set_option Elab.async false

namespace Sys2Proof.Machine

/-! ## Every command within its footprint -/

/-- Every command answers a next state, within its footprint. -/
theorem exec_runs (c : Instr) (s : State) : Runs (Foot.ofCommand c) s (exec c s) := by
  cases c with
  | registerWrite => exact goes_execRegisterWrite (by simp only [Foot.ofCommand]; decide +kernel) (Goes.refl _ s)
  | unsupportedRequest => exact goes_execUnsupportedRequest (by simp only [Foot.ofCommand]; decide +kernel) (Goes.refl _ s)
  | fencedTileAccess => exact goes_execFencedTileAccess (by simp only [Foot.ofCommand]; decide +kernel) (Goes.refl _ s)
  | tileAccessComplete => exact goes_execTileAccessComplete (by simp only [Foot.ofCommand]; decide +kernel) (Goes.refl _ s)
  | coreWatchdogExpiry core => exact goes_execCoreWatchdogExpiry (_core := core) (by simp only [Foot.ofCommand]; decide +kernel) (Goes.refl _ s)
  | tileWakeRequest => exact goes_execTileWakeRequest (by simp only [Foot.ofCommand]; decide +kernel) (Goes.refl _ s)
  | tileRampStart => exact goes_execTileRampStart (by simp only [Foot.ofCommand]; decide +kernel) (Goes.refl _ s)
  | tileRampDone => exact goes_execTileRampDone (by simp only [Foot.ofCommand]; decide +kernel) (Goes.refl _ s)
  | tileRestoreDone => exact goes_execTileRestoreDone (by simp only [Foot.ofCommand]; decide +kernel) (Goes.refl _ s)
  | tileIdleExpiry => exact goes_execTileIdleExpiry (by simp only [Foot.ofCommand]; decide +kernel) (Goes.refl _ s)
  | halfLanePowerUp => exact goes_execHalfLanePowerUp (by simp only [Foot.ofCommand]; decide +kernel) (Goes.refl _ s)
  | tileFence => exact goes_execTileFence (by simp only [Foot.ofCommand]; decide +kernel) (Goes.refl _ s)
  | autoTileReset => exact goes_execAutoTileReset (by simp only [Foot.ofCommand]; decide +kernel) (Goes.refl _ s)
  | signalDetectRise => exact goes_execSignalDetectRise (by simp only [Foot.ofCommand]; decide +kernel) (Goes.refl _ s)
  | signalDetectFall => exact goes_execSignalDetectFall (by simp only [Foot.ofCommand]; decide +kernel) (Goes.refl _ s)
  | lockRise => exact goes_execLockRise (by simp only [Foot.ofCommand]; decide +kernel) (Goes.refl _ s)
  | lockFall => exact goes_execLockFall (by simp only [Foot.ofCommand]; decide +kernel) (Goes.refl _ s)
  | acquireStart => exact goes_execAcquireStart (by simp only [Foot.ofCommand]; decide +kernel) (Goes.refl _ s)
  | acquireTimeout => exact goes_execAcquireTimeout (by simp only [Foot.ofCommand]; decide +kernel) (Goes.refl _ s)
  | convergeTimeout => exact goes_execConvergeTimeout (by simp only [Foot.ofCommand]; decide +kernel) (Goes.refl _ s)
  | fomWindowEnd => exact goes_execFomWindowEnd (by simp only [Foot.ofCommand]; decide +kernel) (Goes.refl _ s)
  | freezeWrite => exact goes_execFreezeWrite (by simp only [Foot.ofCommand]; decide +kernel) (Goes.refl _ s)
  | fomMinClr => exact goes_execFomMinClr (by simp only [Foot.ofCommand]; decide +kernel) (Goes.refl _ s)
  | alignmentGained => exact goes_execAlignmentGained (by simp only [Foot.ofCommand]; decide +kernel) (Goes.refl _ s)
  | alignmentLost => exact goes_execAlignmentLost (by simp only [Foot.ofCommand]; decide +kernel) (Goes.refl _ s)
  | dataStreamStart => exact goes_execDataStreamStart (by simp only [Foot.ofCommand]; decide +kernel) (Goes.refl _ s)
  | dataStreamEnd => exact goes_execDataStreamEnd (by simp only [Foot.ofCommand]; decide +kernel) (Goes.refl _ s)
  | nonflitHoldExpiry => exact goes_execNonflitHoldExpiry (by simp only [Foot.ofCommand]; decide +kernel) (Goes.refl _ s)
  | skpAdjust => exact goes_execSkpAdjust (by simp only [Foot.ofCommand]; decide +kernel) (Goes.refl _ s)
  | skpGenerate => exact goes_execSkpGenerate (by simp only [Foot.ofCommand]; decide +kernel) (Goes.refl _ s)
  | ebSlip => exact goes_execEbSlip (by simp only [Foot.ofCommand]; decide +kernel) (Goes.refl _ s)
  | deskewFail => exact goes_execDeskewFail (by simp only [Foot.ofCommand]; decide +kernel) (Goes.refl _ s)
  | applyPoint => exact goes_execApplyPoint (by simp only [Foot.ofCommand]; decide +kernel) (Goes.refl _ s)
  | applyPointTimeout => exact goes_execApplyPointTimeout (by simp only [Foot.ofCommand]; decide +kernel) (Goes.refl _ s)
  | trainingSetReceived => exact goes_execTrainingSetReceived (by simp only [Foot.ofCommand]; decide +kernel) (Goes.refl _ s)
  | eqPresetAck => exact goes_execEqPresetAck (by simp only [Foot.ofCommand]; decide +kernel) (Goes.refl _ s)
  | hotResetExit => exact goes_execHotResetExit (by simp only [Foot.ofCommand]; decide +kernel) (Goes.refl _ s)
  | disabledExit => exact goes_execDisabledExit (by simp only [Foot.ofCommand]; decide +kernel) (Goes.refl _ s)
  | receiverDetectScan => exact goes_execReceiverDetectScan (by simp only [Foot.ofCommand]; decide +kernel) (Goes.refl _ s)
  | electricalIdleExit => exact goes_execElectricalIdleExit (by simp only [Foot.ofCommand]; decide +kernel) (Goes.refl _ s)
  | partnerLost => exact goes_execPartnerLost (by simp only [Foot.ofCommand]; decide +kernel) (Goes.refl _ s)
  | trainingTimeout => exact goes_execTrainingTimeout (by simp only [Foot.ofCommand]; decide +kernel) (Goes.refl _ s)
  | rateChange => exact goes_execRateChange (by simp only [Foot.ofCommand]; decide +kernel) (Goes.refl _ s)
  | lowpowerEntry => exact goes_execLowpowerEntry (by simp only [Foot.ofCommand]; decide +kernel) (Goes.refl _ s)
  | lowpowerExit => exact goes_execLowpowerExit (by simp only [Foot.ofCommand]; decide +kernel) (Goes.refl _ s)
  | trnRetrain => exact goes_execTrnRetrain (by simp only [Foot.ofCommand]; decide +kernel) (Goes.refl _ s)
  | marginCommand => exact goes_execMarginCommand (by simp only [Foot.ofCommand]; decide +kernel) (Goes.refl _ s)
  | rowLaunch => exact goes_execRowLaunch (by simp only [Foot.ofCommand]; decide +kernel) (Goes.refl _ s)
  | frameReceived => exact goes_execFrameReceived (by simp only [Foot.ofCommand]; decide +kernel) (Goes.refl _ s)
  | ackTimeout => exact goes_execAckTimeout (by simp only [Foot.ofCommand]; decide +kernel) (Goes.refl _ s)
  | frameLockGained => exact goes_execFrameLockGained (by simp only [Foot.ofCommand]; decide +kernel) (Goes.refl _ s)
  | frameLockLost => exact goes_execFrameLockLost (by simp only [Foot.ofCommand]; decide +kernel) (Goes.refl _ s)
  | stuffHigh => exact goes_execStuffHigh (by simp only [Foot.ofCommand]; decide +kernel) (Goes.refl _ s)
  | flitDrop => exact goes_execFlitDrop (by simp only [Foot.ofCommand]; decide +kernel) (Goes.refl _ s)
  | segTrainingTimeout => exact goes_execSegTrainingTimeout (by simp only [Foot.ofCommand]; decide +kernel) (Goes.refl _ s)
  | backoffEnd => exact goes_execBackoffEnd (by simp only [Foot.ofCommand]; decide +kernel) (Goes.refl _ s)
  | laneidReceived => exact goes_execLaneidReceived (by simp only [Foot.ofCommand]; decide +kernel) (Goes.refl _ s)
  | segPartnerLost => exact goes_execSegPartnerLost (by simp only [Foot.ofCommand]; decide +kernel) (Goes.refl _ s)
  | segRetrain => exact goes_execSegRetrain (by simp only [Foot.ofCommand]; decide +kernel) (Goes.refl _ s)
  | osrelSend => exact goes_execOsrelSend (by simp only [Foot.ofCommand]; decide +kernel) (Goes.refl _ s)
  | osrelReceived => exact goes_execOsrelReceived (by simp only [Foot.ofCommand]; decide +kernel) (Goes.refl _ s)
  | pathSend => exact goes_execPathSend (by simp only [Foot.ofCommand]; decide +kernel) (Goes.refl _ s)
  | pathFrameReceived => exact goes_execPathFrameReceived (by simp only [Foot.ofCommand]; decide +kernel) (Goes.refl _ s)
  | osetReceived => exact goes_execOsetReceived (by simp only [Foot.ofCommand]; decide +kernel) (Goes.refl _ s)
  | hardFaultDeclare => exact goes_execHardFaultDeclare (by simp only [Foot.ofCommand]; decide +kernel) (Goes.refl _ s)
  | corrBlockEnd => exact goes_execCorrBlockEnd (by simp only [Foot.ofCommand]; decide +kernel) (Goes.refl _ s)
  | standardLaneFault => exact goes_execStandardLaneFault (by simp only [Foot.ofCommand]; decide +kernel) (Goes.refl _ s)
  | trellisPropose => exact goes_execTrellisPropose (by simp only [Foot.ofCommand]; decide +kernel) (Goes.refl _ s)
  | trellisProposeReceived => exact goes_execTrellisProposeReceived (by simp only [Foot.ofCommand]; decide +kernel) (Goes.refl _ s)
  | trellisPreparedReceived => exact goes_execTrellisPreparedReceived (by simp only [Foot.ofCommand]; decide +kernel) (Goes.refl _ s)
  | trellisRefusedReceived => exact goes_execTrellisRefusedReceived (by simp only [Foot.ofCommand]; decide +kernel) (Goes.refl _ s)
  | commitHoldExpiry => exact goes_execCommitHoldExpiry (by simp only [Foot.ofCommand]; decide +kernel) (Goes.refl _ s)
  | trellisCommitReceived => exact goes_execTrellisCommitReceived (by simp only [Foot.ofCommand]; decide +kernel) (Goes.refl _ s)
  | trellisSwitch => exact goes_execTrellisSwitch (by simp only [Foot.ofCommand]; decide +kernel) (Goes.refl _ s)
  | trellisCancelReceived => exact goes_execTrellisCancelReceived (by simp only [Foot.ofCommand]; decide +kernel) (Goes.refl _ s)
  | trellisVoidedReceived => exact goes_execTrellisVoidedReceived (by simp only [Foot.ofCommand]; decide +kernel) (Goes.refl _ s)
  | proposeReplyTimeout => exact goes_execProposeReplyTimeout (by simp only [Foot.ofCommand]; decide +kernel) (Goes.refl _ s)
  | committingTimeout => exact goes_execCommittingTimeout (by simp only [Foot.ofCommand]; decide +kernel) (Goes.refl _ s)
  | cancellingTimeout => exact goes_execCancellingTimeout (by simp only [Foot.ofCommand]; decide +kernel) (Goes.refl _ s)
  | readyTimeout => exact goes_execReadyTimeout (by simp only [Foot.ofCommand]; decide +kernel) (Goes.refl _ s)
  | retiredExpiry => exact goes_execRetiredExpiry (by simp only [Foot.ofCommand]; decide +kernel) (Goes.refl _ s)
  | trlMove => exact goes_execTrlMove (by simp only [Foot.ofCommand]; decide +kernel) (Goes.refl _ s)
  | trlReturnHome => exact goes_execTrlReturnHome (by simp only [Foot.ofCommand]; decide +kernel) (Goes.refl _ s)
  | calRun => exact goes_execCalRun (by simp only [Foot.ofCommand]; decide +kernel) (Goes.refl _ s)
  | calStore => exact goes_execCalStore (by simp only [Foot.ofCommand]; decide +kernel) (Goes.refl _ s)
  | calReload => exact goes_execCalReload (by simp only [Foot.ofCommand]; decide +kernel) (Goes.refl _ s)
  | calClear => exact goes_execCalClear (by simp only [Foot.ofCommand]; decide +kernel) (Goes.refl _ s)
  | calAutoRun => exact goes_execCalAutoRun (by simp only [Foot.ofCommand]; decide +kernel) (Goes.refl _ s)
  | calAutoStore => exact goes_execCalAutoStore (by simp only [Foot.ofCommand]; decide +kernel) (Goes.refl _ s)
  | calCaptureStart => exact goes_execCalCaptureStart (by simp only [Foot.ofCommand]; decide +kernel) (Goes.refl _ s)
  | calCaptureEnd => exact goes_execCalCaptureEnd (by simp only [Foot.ofCommand]; decide +kernel) (Goes.refl _ s)
  | calComputeDone => exact goes_execCalComputeDone (by simp only [Foot.ofCommand]; decide +kernel) (Goes.refl _ s)
  | calHoldWrite => exact goes_execCalHoldWrite (by simp only [Foot.ofCommand]; decide +kernel) (Goes.refl _ s)
  | interpolationStep => exact goes_execInterpolationStep (by simp only [Foot.ofCommand]; decide +kernel) (Goes.refl _ s)
  | calStoreFlashDone => exact goes_execCalStoreFlashDone (by simp only [Foot.ofCommand]; decide +kernel) (Goes.refl _ s)
  | calStoreTimeout => exact goes_execCalStoreTimeout (by simp only [Foot.ofCommand]; decide +kernel) (Goes.refl _ s)
  | engineStepEnd => exact goes_execEngineStepEnd (by simp only [Foot.ofCommand]; decide +kernel) (Goes.refl _ s)
  | epochStart => exact goes_execEpochStart (by simp only [Foot.ofCommand]; decide +kernel) (Goes.refl _ s)
  | jobDispatch => exact goes_execJobDispatch (by simp only [Foot.ofCommand]; decide +kernel) (Goes.refl _ s)
  | safePoint => exact goes_execSafePoint (by simp only [Foot.ofCommand]; decide +kernel) (Goes.refl _ s)
  | restoreDone => exact goes_execRestoreDone (by simp only [Foot.ofCommand]; decide +kernel) (Goes.refl _ s)
  | waitExpired => exact goes_execWaitExpired (by simp only [Foot.ofCommand]; decide +kernel) (Goes.refl _ s)
  | engineFault => exact goes_execEngineFault (by simp only [Foot.ofCommand]; decide +kernel) (Goes.refl _ s)
  | engineRestartDone => exact goes_execEngineRestartDone (by simp only [Foot.ofCommand]; decide +kernel) (Goes.refl _ s)
  | engPermitWrite => exact goes_execEngPermitWrite (by simp only [Foot.ofCommand]; decide +kernel) (Goes.refl _ s)
  | sliceJobsOffWrite => exact goes_execSliceJobsOffWrite (by simp only [Foot.ofCommand]; decide +kernel) (Goes.refl _ s)
  | boot => exact goes_execBoot (by simp only [Foot.ofCommand]; decide +kernel) (Goes.refl _ s)
  | writeSlot => exact goes_execWriteSlot (by simp only [Foot.ofCommand]; decide +kernel) (Goes.refl _ s)
  | imgFlashOpDone => exact goes_execImgFlashOpDone (by simp only [Foot.ofCommand]; decide +kernel) (Goes.refl _ s)
  | confirm => exact goes_execConfirm (by simp only [Foot.ofCommand]; decide +kernel) (Goes.refl _ s)
  | confirmAfterExpiry => exact goes_execConfirmAfterExpiry (by simp only [Foot.ofCommand]; decide +kernel) (Goes.refl _ s)
  | advanceArb => exact goes_execAdvanceArb (by simp only [Foot.ofCommand]; decide +kernel) (Goes.refl _ s)
  | swapFw => exact goes_execSwapFw (by simp only [Foot.ofCommand]; decide +kernel) (Goes.refl _ s)
  | programKey => exact goes_execProgramKey (by simp only [Foot.ofCommand]; decide +kernel) (Goes.refl _ s)
  | revokeKey => exact goes_execRevokeKey (by simp only [Foot.ofCommand]; decide +kernel) (Goes.refl _ s)
  | txnBegin => exact goes_execTxnBegin (by simp only [Foot.ofCommand]; decide +kernel) (Goes.refl _ s)
  | commit => exact goes_execCommit (by simp only [Foot.ofCommand]; decide +kernel) (Goes.refl _ s)
  | rollback => exact goes_execRollback (by simp only [Foot.ofCommand]; decide +kernel) (Goes.refl _ s)
  | rwtWrite => exact goes_execRwtWrite (by simp only [Foot.ofCommand]; decide +kernel) (Goes.refl _ s)
  | bctStage => exact goes_execBctStage (by simp only [Foot.ofCommand]; decide +kernel) (Goes.refl _ s)
  | txnValidationDone => exact goes_execTxnValidationDone (by simp only [Foot.ofCommand]; decide +kernel) (Goes.refl _ s)
  | txnCommitTime => exact goes_execTxnCommitTime (by simp only [Foot.ofCommand]; decide +kernel) (Goes.refl _ s)
  | txnApplyFail => exact goes_execTxnApplyFail (by simp only [Foot.ofCommand]; decide +kernel) (Goes.refl _ s)
  | txnRollbackDone => exact goes_execTxnRollbackDone (by simp only [Foot.ofCommand]; decide +kernel) (Goes.refl _ s)
  | abandoned => exact goes_execAbandoned (by simp only [Foot.ofCommand]; decide +kernel) (Goes.refl _ s)
  | completionReceived => exact goes_execCompletionReceived (by simp only [Foot.ofCommand]; decide +kernel) (Goes.refl _ s)
  | completionTimeout => exact goes_execCompletionTimeout (by simp only [Foot.ofCommand]; decide +kernel) (Goes.refl _ s)
  | tagRetireExpiry => exact goes_execTagRetireExpiry (by simp only [Foot.ofCommand]; decide +kernel) (Goes.refl _ s)
  | ctoDisableClear => exact goes_execCtoDisableClear (by simp only [Foot.ofCommand]; decide +kernel) (Goes.refl _ s)
  | holdStart => exact goes_execHoldStart (by simp only [Foot.ofCommand]; decide +kernel) (Goes.refl _ s)
  | holdEnd => exact goes_execHoldEnd (by simp only [Foot.ofCommand]; decide +kernel) (Goes.refl _ s)
  | flr => exact goes_execFlr (by simp only [Foot.ofCommand]; decide +kernel) (Goes.refl _ s)
  | mgmtHotReset => exact goes_execMgmtHotReset (by simp only [Foot.ofCommand]; decide +kernel) (Goes.refl _ s)
  | dataLinkDown => exact goes_execDataLinkDown (by simp only [Foot.ofCommand]; decide +kernel) (Goes.refl _ s)
  | perstAssert => exact goes_execPerstAssert (by simp only [Foot.ofCommand]; decide +kernel) (Goes.refl _ s)
  | perstDeassert => exact goes_execPerstDeassert (by simp only [Foot.ofCommand]; decide +kernel) (Goes.refl _ s)
  | d3hotEntry => exact goes_execD3hotEntry (by simp only [Foot.ofCommand]; decide +kernel) (Goes.refl _ s)
  | d0Return => exact goes_execD0Return (by simp only [Foot.ofCommand]; decide +kernel) (Goes.refl _ s)
  | pmeTurnOff => exact goes_execPmeTurnOff (by simp only [Foot.ofCommand]; decide +kernel) (Goes.refl _ s)
  | aspmL1Entry => exact goes_execAspmL1Entry (by simp only [Foot.ofCommand]; decide +kernel) (Goes.refl _ s)
  | aspmL1Exit => exact goes_execAspmL1Exit (by simp only [Foot.ofCommand]; decide +kernel) (Goes.refl _ s)
  | msixUnmask => exact goes_execMsixUnmask (by simp only [Foot.ofCommand]; decide +kernel) (Goes.refl _ s)
  | aliveBeat => exact goes_execAliveBeat (by simp only [Foot.ofCommand]; decide +kernel) (Goes.refl _ s)
  | create => exact goes_execCreate (by simp only [Foot.ofCommand]; decide +kernel) (Goes.refl _ s)
  | sliceReset => exact goes_execSliceReset (by simp only [Foot.ofCommand]; decide +kernel) (Goes.refl _ s)
  | selfReset => exact goes_execSelfReset (by simp only [Foot.ofCommand]; decide +kernel) (Goes.refl _ s)
  | destroy => exact goes_execDestroy (by simp only [Foot.ofCommand]; decide +kernel) (Goes.refl _ s)
  | resetDone => exact goes_execResetDone (by simp only [Foot.ofCommand]; decide +kernel) (Goes.refl _ s)
  | destroyDone => exact goes_execDestroyDone (by simp only [Foot.ofCommand]; decide +kernel) (Goes.refl _ s)
  | shareWrite => exact goes_execShareWrite (by simp only [Foot.ofCommand]; decide +kernel) (Goes.refl _ s)
  | visibilityRemove => exact goes_execVisibilityRemove (by simp only [Foot.ofCommand]; decide +kernel) (Goes.refl _ s)
  | pasidEnableChange => exact goes_execPasidEnableChange (by simp only [Foot.ofCommand]; decide +kernel) (Goes.refl _ s)
  | ringEnable => exact goes_execRingEnable (by simp only [Foot.ofCommand]; decide +kernel) (Goes.refl _ s)
  | ringDisable => exact goes_execRingDisable (by simp only [Foot.ofCommand]; decide +kernel) (Goes.refl _ s)
  | ringResume => exact goes_execRingResume (by simp only [Foot.ofCommand]; decide +kernel) (Goes.refl _ s)
  | cmdDoorbell => exact goes_execCmdDoorbell (by simp only [Foot.ofCommand]; decide +kernel) (Goes.refl _ s)
  | eventDoorbell => exact goes_execEventDoorbell (by simp only [Foot.ofCommand]; decide +kernel) (Goes.refl _ s)
  | eventPost => exact goes_execEventPost (by simp only [Foot.ofCommand]; decide +kernel) (Goes.refl _ s)
  | nop => exact goes_execNop (by simp only [Foot.ofCommand]; decide +kernel) (Goes.refl _ s)
  | jobSubmit => exact goes_execJobSubmit (by simp only [Foot.ofCommand]; decide +kernel) (Goes.refl _ s)
  | portStatus => exact goes_execPortStatus (by simp only [Foot.ofCommand]; decide +kernel) (Goes.refl _ s)
  | readReg => exact goes_execReadReg (by simp only [Foot.ofCommand]; decide +kernel) (Goes.refl _ s)
  | portRetrain => exact goes_execPortRetrain (by simp only [Foot.ofCommand]; decide +kernel) (Goes.refl _ s)
  | fence => exact goes_execFence (by simp only [Foot.ofCommand]; decide +kernel) (Goes.refl _ s)
  | mirrorPublish => exact goes_execMirrorPublish (by simp only [Foot.ofCommand]; decide +kernel) (Goes.refl _ s)
  | timeFrameSend => exact goes_execTimeFrameSend (by simp only [Foot.ofCommand]; decide +kernel) (Goes.refl _ s)
  | timeFrameReceived => exact goes_execTimeFrameReceived (by simp only [Foot.ofCommand]; decide +kernel) (Goes.refl _ s)
  | holdoverEntry => exact goes_execHoldoverEntry (by simp only [Foot.ofCommand]; decide +kernel) (Goes.refl _ s)
  | tpulseOut => exact goes_execTpulseOut (by simp only [Foot.ofCommand]; decide +kernel) (Goes.refl _ s)
  | tpulseEdge => exact goes_execTpulseEdge (by simp only [Foot.ofCommand]; decide +kernel) (Goes.refl _ s)
  | timSet => exact goes_execTimSet (by simp only [Foot.ofCommand]; decide +kernel) (Goes.refl _ s)
  | aonRatioMeasure => exact goes_execAonRatioMeasure (by simp only [Foot.ofCommand]; decide +kernel) (Goes.refl _ s)
  | winnowItem => exact goes_execWinnowItem (by simp only [Foot.ofCommand]; decide +kernel) (Goes.refl _ s)
  | traceDmaWrite => exact goes_execTraceDmaWrite (by simp only [Foot.ofCommand]; decide +kernel) (Goes.refl _ s)
  | windowOpen => exact goes_execWindowOpen (by simp only [Foot.ofCommand]; decide +kernel) (Goes.refl _ s)
  | windowClose => exact goes_execWindowClose (by simp only [Foot.ofCommand]; decide +kernel) (Goes.refl _ s)
  | windowCloseDone => exact goes_execWindowCloseDone (by simp only [Foot.ofCommand]; decide +kernel) (Goes.refl _ s)
  | windowResume => exact goes_execWindowResume (by simp only [Foot.ofCommand]; decide +kernel) (Goes.refl _ s)
  | winnowClaim => exact goes_execWinnowClaim (by simp only [Foot.ofCommand]; decide +kernel) (Goes.refl _ s)
  | winnowRelease => exact goes_execWinnowRelease (by simp only [Foot.ofCommand]; decide +kernel) (Goes.refl _ s)
  | winnowUnit => exact goes_execWinnowUnit (by simp only [Foot.ofCommand]; decide +kernel) (Goes.refl _ s)
  | trigger => exact goes_execTrigger (by simp only [Foot.ofCommand]; decide +kernel) (Goes.refl _ s)
  | fire => exact goes_execFire (by simp only [Foot.ofCommand]; decide +kernel) (Goes.refl _ s)
  | trigNEdge => exact goes_execTrigNEdge (by simp only [Foot.ofCommand]; decide +kernel) (Goes.refl _ s)
  | trigNRelease => exact goes_execTrigNRelease (by simp only [Foot.ofCommand]; decide +kernel) (Goes.refl _ s)
  | trcSchedGo => exact goes_execTrcSchedGo (by simp only [Foot.ofCommand]; decide +kernel) (Goes.refl _ s)
  | scheduleFire => exact goes_execScheduleFire (by simp only [Foot.ofCommand]; decide +kernel) (Goes.refl _ s)
  | latch => exact goes_execLatch (by simp only [Foot.ofCommand]; decide +kernel) (Goes.refl _ s)
  | rearm => exact goes_execRearm (by simp only [Foot.ofCommand]; decide +kernel) (Goes.refl _ s)
  | autoRearmExpiry => exact goes_execAutoRearmExpiry (by simp only [Foot.ofCommand]; decide +kernel) (Goes.refl _ s)
  | refclkLost => exact goes_execRefclkLost (by simp only [Foot.ofCommand]; decide +kernel) (Goes.refl _ s)
  | refclkReturn => exact goes_execRefclkReturn (by simp only [Foot.ofCommand]; decide +kernel) (Goes.refl _ s)
  | rootLock => exact goes_execRootLock (by simp only [Foot.ofCommand]; decide +kernel) (Goes.refl _ s)
  | vidWaitExpiry => exact goes_execVidWaitExpiry (by simp only [Foot.ofCommand]; decide +kernel) (Goes.refl _ s)
  | idleEntry => exact goes_execIdleEntry (by simp only [Foot.ofCommand]; decide +kernel) (Goes.refl _ s)
  | sleepEntry => exact goes_execSleepEntry (by simp only [Foot.ofCommand]; decide +kernel) (Goes.refl _ s)
  | deepEntry => exact goes_execDeepEntry (by simp only [Foot.ofCommand]; decide +kernel) (Goes.refl _ s)
  | offEntry => exact goes_execOffEntry (by simp only [Foot.ofCommand]; decide +kernel) (Goes.refl _ s)
  | sbAddressMatch => exact goes_execSbAddressMatch (by simp only [Foot.ofCommand]; decide +kernel) (Goes.refl _ s)
  | wakeIn => exact goes_execWakeIn (by simp only [Foot.ofCommand]; decide +kernel) (Goes.refl _ s)
  | mgmtLinkWake => exact goes_execMgmtLinkWake (by simp only [Foot.ofCommand]; decide +kernel) (Goes.refl _ s)
  | parkPoll => exact goes_execParkPoll (by simp only [Foot.ofCommand]; decide +kernel) (Goes.refl _ s)
  | sleepWakeDone => exact goes_execSleepWakeDone (by simp only [Foot.ofCommand]; decide +kernel) (Goes.refl _ s)
  | deepWakeReloadDone => exact goes_execDeepWakeReloadDone (by simp only [Foot.ofCommand]; decide +kernel) (Goes.refl _ s)
  | aonBrownout => exact goes_execAonBrownout (by simp only [Foot.ofCommand]; decide +kernel) (Goes.refl _ s)
  | coldReset => exact goes_execColdReset (by simp only [Foot.ofCommand]; decide +kernel) (Goes.refl _ s)
  | resetNAssert => exact goes_execResetNAssert (by simp only [Foot.ofCommand]; decide +kernel) (Goes.refl _ s)
  | resetNDeassert => exact goes_execResetNDeassert (by simp only [Foot.ofCommand]; decide +kernel) (Goes.refl _ s)
  | supplyMonitor => exact goes_execSupplyMonitor (by simp only [Foot.ofCommand]; decide +kernel) (Goes.refl _ s)
  | supplyRecovered => exact goes_execSupplyRecovered (by simp only [Foot.ofCommand]; decide +kernel) (Goes.refl _ s)
  | rstDevice => exact goes_execRstDevice (by simp only [Foot.ofCommand]; decide +kernel) (Goes.refl _ s)
  | rstPort => exact goes_execRstPort (by simp only [Foot.ofCommand]; decide +kernel) (Goes.refl _ s)
  | rstTile => exact goes_execRstTile (by simp only [Foot.ofCommand]; decide +kernel) (Goes.refl _ s)
  | portResetDone => exact goes_execPortResetDone (by simp only [Foot.ofCommand]; decide +kernel) (Goes.refl _ s)
  | tileResetDone => exact goes_execTileResetDone (by simp only [Foot.ofCommand]; decide +kernel) (Goes.refl _ s)
  | thermtrip => exact goes_execThermtrip (by simp only [Foot.ofCommand]; decide +kernel) (Goes.refl _ s)
  | sbRead => exact goes_execSbRead (by simp only [Foot.ofCommand]; decide +kernel) (Goes.refl _ s)
  | sbWrite => exact goes_execSbWrite (by simp only [Foot.ofCommand]; decide +kernel) (Goes.refl _ s)
  | sbStatusRead => exact goes_execSbStatusRead (by simp only [Foot.ofCommand]; decide +kernel) (Goes.refl _ s)
  | portMirror => exact goes_execPortMirror (by simp only [Foot.ofCommand]; decide +kernel) (Goes.refl _ s)
  | identify => exact goes_execIdentify (by simp only [Foot.ofCommand]; decide +kernel) (Goes.refl _ s)
  | alertResponse => exact goes_execAlertResponse (by simp only [Foot.ofCommand]; decide +kernel) (Goes.refl _ s)
  | sbTimeout => exact goes_execSbTimeout (by simp only [Foot.ofCommand]; decide +kernel) (Goes.refl _ s)
  | replayMemoryError => exact goes_execReplayMemoryError (by simp only [Foot.ofCommand]; decide +kernel) (Goes.refl _ s)
  | internalEccError => exact goes_execInternalEccError (by simp only [Foot.ofCommand]; decide +kernel) (Goes.refl _ s)
  | managementLinkError => exact goes_execManagementLinkError (by simp only [Foot.ofCommand]; decide +kernel) (Goes.refl _ s)
  | configurationWrite => exact goes_execConfigurationWrite (by simp only [Foot.ofCommand]; decide +kernel) (Goes.refl _ s)
  | alwaysOnTimerWake => exact goes_execAlwaysOnTimerWake (by simp only [Foot.ofCommand]; decide +kernel) (Goes.refl _ s)
  | alwaysOnResetRelease => exact goes_execAlwaysOnResetRelease (by simp only [Foot.ofCommand]; decide +kernel) (Goes.refl _ s)

theorem exec_goes {c : Instr} {s t : State} (h : exec c s = .next t) : Goes (Foot.ofCommand c) s t := by
  obtain ⟨u, hu, g⟩ := exec_runs c s
  rw [h] at hu
  cases hu
  exact g

theorem step_of_pending {s : State} {c : Instr} {rest : List Instr} (h : s.pending = c :: rest) :
    step s = exec c { s with pending := rest } := by
  rw [step, h]

theorem step_of_idle {s : State} (h : s.pending = []) : step s = .next (s.advance tclk) := by
  rw [step, h]

/-- Taking a command off the queue touches no table. -/
theorem State.wf_dequeue {s : State} (h : s.wf) (rest : List Instr) : State.wf { s with pending := rest } :=
  { h with }

theorem step_keeps_wf {s t : State} (h : s.wf) (hs : step s = .next t) : t.wf := by
  cases hp : s.pending with
  | nil =>
    rw [step_of_idle hp] at hs
    cases hs
    exact (Goes.advance (Foot.le_refl _) (Goes.refl _ s)).wf h
  | cons c rest =>
    rw [step_of_pending hp] at hs
    exact (exec_goes hs).wf (State.wf_dequeue h rest)

/-- Settles O5: a command keeps the canonical form within its footprint, and so does the passing of time. -/
theorem stepKeepsTablesCanonical : Obligations.StepKeepsTablesCanonical := by
  unfold Obligations.StepKeepsTablesCanonical
  exact fun _ _ hw hs => step_keeps_wf hw hs

/-- Settles O6: every command runs within its footprint, whatever the state. -/
theorem everyCommandIsTaken : Obligations.EveryCommandIsTaken := by
  unfold Obligations.EveryCommandIsTaken
  intro c s
  obtain ⟨t, ht, -⟩ := exec_runs c s
  exact ⟨t, ht⟩

/-- Settles O7: what a command does within its footprint takes nothing back. -/
theorem commandsTakeNothingBack : Obligations.CommandsTakeNothingBack := by
  unfold Obligations.CommandsTakeNothingBack
  exact fun _ _ _ h => (exec_goes h).follows

/-- Settles O8: a command runs within its footprint. -/
theorem commandsKeepTheRest : Obligations.CommandsKeepTheRest := by
  unfold Obligations.CommandsKeepTheRest
  exact fun _ _ _ h => (exec_goes h).kept

/-! ## Steps and the passing of time -/

/-- Settles O1: the definition of a step on a queue that holds a command. -/
theorem stepRunsTheFrontCommand : Obligations.StepRunsTheFrontCommand := by
  unfold Obligations.StepRunsTheFrontCommand
  exact fun _ _ _ h => step_of_pending h

theorem State.setTime_clocked (s : State) (v c : Nat) : (s.setTime v c).clocked = s.clocked := rfl

theorem State.setElapsed_clocked (s : State) (v : Nat) : (s.setElapsed v).clocked = s.clocked := rfl

/-- What the passing of time leaves of each counter, beside what it shows in registers. -/
theorem State.advance_counters (s : State) (d : Nat) :
    (s.advance d).elapsed = s.elapsed + d ∧
    (s.advance d).now = (s.now + ((if s.timeRuns then s.fabricOf d else 0) - s.loses (if s.timeRuns then s.fabricOf d else 0))) % timeSpan ∧
    (s.advance d).count = s.atEdge d tclk s.count % timeSpan ∧
    (s.advance d).replicas = ⟨s.clocked.map (fun k => (k, s.atEdge d (s.dclk k) (s.replica k) % timeSpan))⟩ ∧
    (s.advance d).pending = s.pending ∧ (s.advance d).halves = s.halves := by
  unfold State.advance
  dsimp only
  generalize (if s.timeRuns then s.fabricOf d else 0) = f
  split <;> split <;> split <;> simp [State.loadReplicas, State.setTime_clocked, State.setElapsed_clocked]

theorem State.loses_le (s : State) (f : Nat) : s.loses f ≤ f :=
  (Nat.min_le_left _ _).trans (Nat.div_le_self f 2)

/-- A counter reads Fabric Time at an edge of its clock (R473). -/
theorem State.atEdge_of_edge {s : State} {d period : Nat} (old : Nat) (ht : s.timeRuns = true)
    (he : (s.elapsed + d) % period = 0) : s.atEdge d period old = s.now + s.gains d := by
  simp only [State.atEdge, he, ht, Nat.zero_le, and_self, if_true, Nat.sub_zero]

/-- Every edge of TCLK is an edge of every DCLK (03, Table 2). -/
theorem State.dclk_dvd_tclk (s : State) (k : Nat) : s.dclk k ∣ tclk := by
  have hsel : dclkQuarterNs (s.rd (CLK_DCLK_SEL.LT k)) ∣ 40 := by
    unfold dclkQuarterNs
    rcases s.rd (CLK_DCLK_SEL.LT k) with _ | _ | _ | n
    · decide
    · decide
    · decide
    · rw [List.getD_eq_default _ _ (by simp)]
      decide
  exact (Nat.mul_dvd_mul_right hsel (nsUnit / 4)).trans (by decide)

theorem lookupKey_map_of_mem {α : Type} (f : Nat → α) {k : Nat} : ∀ {l : List Nat}, k ∈ l →
    lookupKey k (l.map (fun j => (j, f j))) = some (f k)
  | j :: l, h => by
    by_cases hj : j = k
    · simp [lookupKey, hj]
    · have hl : k ∈ l := (List.mem_cons.1 h).resolve_left (fun e => hj e.symm)
      simpa [lookupKey, hj] using lookupKey_map_of_mem f hl

theorem State.mem_clocked {s : State} {k : Nat} : k ∈ s.clocked ↔ k < 8 ∧ s.rd (GLB_TILE_STATUS.LT k) = 2 := by
  simp [State.clocked]

/-- Settles O2: the fields of the state that time counts up; DCLK divides TCLK, so an edge of TCLK is an edge of both. -/
theorem emptyQueueLetsTimePass : Obligations.EmptyQueueLetsTimePass := by
  unfold Obligations.EmptyQueueLetsTimePass
  refine ⟨fun s h => step_of_idle h, fun s d => ?_, fun s d k hruns hk hon hedge => ?_⟩
  · obtain ⟨helapsed, hnow, -, -, hpending, hhalves⟩ := s.advance_counters d
    refine ⟨helapsed, fun hspan => ?_, fun hstands => ?_, hpending, hhalves⟩
    · have hloss := s.loses_le (if s.timeRuns then s.fabricOf d else 0)
      have hgain : (if s.timeRuns then s.fabricOf d else 0) ≤ s.fabricOf d := by split <;> omega
      rw [hnow, Nat.mod_eq_of_lt (by omega)]
      omega
    · rw [hnow, hstands]
      simp
  · obtain ⟨-, hnow, hcount, hreplicas, -, -⟩ := s.advance_counters d
    have hdclk : (s.elapsed + d) % s.dclk k = 0 :=
      Nat.mod_eq_zero_of_dvd ((s.dclk_dvd_tclk k).trans (Nat.dvd_of_mod_eq_zero hedge))
    have hfabric : (s.advance d).now = (s.now + s.gains d) % timeSpan := by
      rw [hnow, hruns]
      rfl
    refine ⟨by rw [hcount, hfabric, State.atEdge_of_edge _ hruns hedge], ?_⟩
    rw [State.replica, hreplicas, hfabric, Tab.get,
      lookupKey_map_of_mem (fun j => s.atEdge d (s.dclk j) (s.replica j) % timeSpan) (State.mem_clocked.2 ⟨hk, hon⟩)]
    simp only [Option.getD_some, State.atEdge_of_edge _ hruns hdclk]

/-! ## The reset state -/

theorem State.reset_rd (c : Cell) : State.reset.rd c = c.cold := rfl

/-- Settles O3: no register is listed in the reset state. -/
theorem resetStateIsCold : Obligations.ResetStateIsCold := by
  unfold Obligations.ResetStateIsCold
  exact ⟨State.reset_rd, rfl, rfl, rfl, rfl, rfl, rfl, rfl, fun _ => rfl,
    fun p => by simp [State.enabled, State.bit, State.reset_rd, PRT_MODE.ENABLE], fun _ => rfl⟩

/-- Settles O4: the tables of the reset state hold no entry but the fused hash of key slot 0. -/
theorem resetTablesAreCanonical : Obligations.ResetTablesAreCanonical := by
  unfold Obligations.ResetTablesAreCanonical
  exact {
    regs := regsWf_empty
    halves := Tab.wf_empty
    sides := Tab.wf_empty
    ports := Tab.wf_empty
    bct := Tab.wf_empty
    calTab := Tab.wf_empty
    engines := Tab.wf_empty
    slices := Tab.wf_empty
    rings := Tab.wf_empty
    tags := Tab.wf_empty
    flash := rfl
    calStore := trivial
    fuses := List.pairwise_singleton _ _
    txn := Txn.wf_new
    mgmt := ⟨Tab.wf_empty, Tab.wf_empty⟩
    winnows := Tab.wf_empty
    windows := Tab.wf_empty
    tim := Tab.wf_empty
    snap := ⟨regsWf_empty, Tab.wf_empty, Tab.wf_empty⟩
    tiles := Tab.wf_empty
    replicas := Tab.wf_empty }

end Sys2Proof.Machine
end

section
/-! PROOFS. The fields of a register lie apart, and a stored word gives each what its access kind says (R3 to R9). -/

set_option Elab.async false

namespace Sys2Proof.Machine

/-! ## Where the fields of a register lie -/

/-- Two fields have no bit in common. -/
def Field.apart (f g : Field) : Prop :=
  f.cell.lo + f.cell.width ≤ g.cell.lo ∨ g.cell.lo + g.cell.width ≤ f.cell.lo

/-- A field has at least one bit, all of them within 32 and its Cold value within them. -/
def Field.fits (f : Field) : Prop :=
  0 < f.cell.width ∧ f.cell.lo + f.cell.width ≤ 32 ∧ f.cell.cold < 2 ^ f.cell.width

/-- Whether the fields of a register fit and lie apart, as computed from their places. -/
def packed : List Field → Bool
  | [] => true
  | f :: fs =>
    decide (0 < f.cell.width) && decide (f.cell.lo + f.cell.width ≤ 32) && decide (f.cell.cold < 2 ^ f.cell.width) &&
    fs.all (fun g => decide (f.cell.lo + f.cell.width ≤ g.cell.lo) || decide (g.cell.lo + g.cell.width ≤ f.cell.lo)) &&
    packed fs

theorem packed_iff : ∀ {fs : List Field}, packed fs = true ↔ (∀ f ∈ fs, f.fits) ∧ fs.Pairwise Field.apart
  | [] => by simp [packed]
  | f :: fs => by
    simp only [packed, Bool.and_eq_true, decide_eq_true_eq, List.all_eq_true, Bool.or_eq_true, packed_iff (fs := fs),
      List.forall_mem_cons, List.pairwise_cons, Field.fits, Field.apart]
    tauto

/-- The fields of the register at an offset: they are at that offset, fit and lie apart. -/
structure Laid (x : Nat) (fs : List Field) : Prop where
  offs : fs.map (fun f => f.cell.off) = List.replicate fs.length x
  packed : packed fs = true

theorem Laid.nil (x : Nat) : Laid x [] := ⟨rfl, rfl⟩

theorem Laid.off {x : Nat} {fs : List Field} (h : Laid x fs) {f : Field} (hf : f ∈ fs) : f.cell.off = x :=
  List.eq_of_mem_replicate (h.offs ▸ List.mem_map_of_mem hf)

/-- A register's own list, at its own offset, in a branch that has found the offset to be that of the register. -/
theorem Laid.at {x y : Nat} {fs : List Field} (hx : y = x) (ho : fs.map (fun f => f.cell.off) = List.replicate fs.length y)
    (hp : Machine.packed fs = true) : Laid x fs := hx ▸ ⟨ho, hp⟩

theorem Laid.ite {x : Nat} {p : Prop} [Decidable p] {fs gs : List Field} (hf : p → Laid x fs) (hg : ¬p → Laid x gs) :
    Laid x (if p then fs else gs) := by
  split
  · exact hf ‹_›
  · exact hg ‹_›

theorem Laid.moved {x y : Nat} {fs : List Field} (hx : y = x) (h : Laid y fs) : Laid x fs := hx ▸ h

theorem laid_fieldsOne (x : Nat) : Laid x (fieldsOne x) := by
  unfold fieldsOne
  iterate 50 refine Laid.ite (fun h => Laid.at (Eq.symm h) rfl rfl) (fun _ => ?_)
  exact Laid.nil x

theorem laid_fieldsPort (p o : Nat) : Laid (0x100000 + 0x1000 * p + o) (fieldsPort p o) := by
  unfold fieldsPort
  iterate 22 refine Laid.ite (fun h => Laid.at h rfl rfl) (fun _ => ?_)
  exact Laid.nil _

/-- A Lane Channel's assignment is at its start. -/
theorem LCH_ASSIGN.off_lane {n : Nat} (h : n < 256) : LCH_ASSIGN.off n = 0x200000 + 0x100 * n := by
  unfold LCH_ASSIGN.off
  omega

theorem laid_fieldsLane {n : Nat} (hn : n < 256) (o : Nat) : Laid (0x200000 + 0x100 * n + o) (fieldsLane n o) := by
  unfold fieldsLane
  refine Laid.ite (fun h => Laid.at (y := LCH_ASSIGN.off n) (by rw [h, LCH_ASSIGN.off_lane hn]; rfl) rfl rfl) (fun _ => ?_)
  iterate 14 refine Laid.ite (fun h => Laid.at h rfl rfl) (fun _ => ?_)
  exact Laid.nil _

theorem laid_fieldsSlice {n : Nat} (hn : n < 256) (o : Nat) : Laid (0x30000 + 0x80 * n + o) (fieldsSlice n o) := by
  unfold fieldsSlice
  refine Laid.ite (fun h => Laid.at (y := SLC_CTRL.off n) (by unfold SLC_CTRL.off; omega) rfl rfl) (fun _ => ?_)
  refine Laid.ite (fun h => Laid.at (y := SLC_STATUS.off n) (by unfold SLC_STATUS.off; omega) rfl rfl) (fun _ => ?_)
  refine Laid.ite (fun h => Laid.at (y := SLC_RINGS.off n) (by unfold SLC_RINGS.off; omega) rfl rfl) (fun _ => ?_)
  refine Laid.ite (fun h => Laid.at (y := SLC_VECTORS.off n) (by unfold SLC_VECTORS.off; omega) rfl rfl) (fun _ => ?_)
  refine Laid.ite (fun h => Laid.at (y := SLC_SHARE.off n) (by unfold SLC_SHARE.off; omega) rfl rfl) (fun _ => ?_)
  refine Laid.ite (fun h => Laid.at (y := SLC_PORTS.off n 0) (by unfold SLC_PORTS.off; omega) rfl rfl) (fun _ => ?_)
  refine Laid.ite (fun h => Laid.at (y := SLC_PORTS.off n 1) (by unfold SLC_PORTS.off; omega) rfl rfl) (fun _ => ?_)
  exact Laid.nil _

/-- The registers of a Ring in a Slice's window, at `r` in the 32 bytes of the Ring. -/
theorem laid_fieldsRing {n i : Nat} (hn : n < 256) (hi : i < 1024) (r : Nat) :
    Laid (0x1000000 + 0x10000 * n + 0x1000 + 0x20 * i + r)
      (if r = 0x0 then RNG_BASE.fields n i 0
      else if r = 0x4 then RNG_BASE.fields n i 1
      else if r = 0x8 then RNG_CTRL.fields n i
      else if r = 0xC then RNG_DOORBELL.fields n i
      else if r = 0x10 then RNG_POS.fields n i
      else if r = 0x14 then RNG_STATUS.fields n i
      else []) := by
  refine Laid.ite (fun h => Laid.at (y := RNG_BASE.off n i 0) (by unfold RNG_BASE.off; omega) rfl rfl) (fun _ => ?_)
  refine Laid.ite (fun h => Laid.at (y := RNG_BASE.off n i 1) (by unfold RNG_BASE.off; omega) rfl rfl) (fun _ => ?_)
  refine Laid.ite (fun h => Laid.at (y := RNG_CTRL.off n i) (by unfold RNG_CTRL.off; omega) rfl rfl) (fun _ => ?_)
  refine Laid.ite (fun h => Laid.at (y := RNG_DOORBELL.off n i) (by unfold RNG_DOORBELL.off; omega) rfl rfl) (fun _ => ?_)
  refine Laid.ite (fun h => Laid.at (y := RNG_POS.off n i) (by unfold RNG_POS.off; omega) rfl rfl) (fun _ => ?_)
  refine Laid.ite (fun h => Laid.at (y := RNG_STATUS.off n i) (by unfold RNG_STATUS.off; omega) rfl rfl) (fun _ => ?_)
  exact Laid.nil _

/-- The registers of a Granary window in a Slice's window, at `r` in the 16 bytes of the Granary window. -/
theorem laid_fieldsTraceWindow {n w r : Nat} (hn : n < 256) (hw : w < 16) (hr : r % 4 = 0) (hr16 : r < 16) :
    Laid (0x1000000 + 0x10000 * n + 0x9000 + 0x10 * w + r)
      (if r = 0x0 then TRC_WIN_STATUS.fields n w
      else if r = 0x4 then TRC_WIN_POS.fields n w
      else if r = 0x8 then TRC_WIN_READ.fields n w
      else TRC_WIN_DROPS.fields n w) := by
  refine Laid.ite (fun h => Laid.at (y := TRC_WIN_STATUS.off n w) (by unfold TRC_WIN_STATUS.off; omega) rfl rfl) (fun _ => ?_)
  refine Laid.ite (fun h => Laid.at (y := TRC_WIN_POS.off n w) (by unfold TRC_WIN_POS.off; omega) rfl rfl) (fun _ => ?_)
  refine Laid.ite (fun h => Laid.at (y := TRC_WIN_READ.off n w) (by unfold TRC_WIN_READ.off; omega) rfl rfl) (fun _ => ?_)
  exact Laid.at (y := TRC_WIN_DROPS.off n w) (by unfold TRC_WIN_DROPS.off; omega) rfl rfl

theorem laid_fieldsWindow {n o : Nat} (hn : n < 256) (ho : o % 4 = 0) : Laid (0x1000000 + 0x10000 * n + o) (fieldsWindow n o) := by
  unfold fieldsWindow
  refine Laid.ite (fun h => Laid.at (y := SLC_SELF_INFO.off n) (by unfold SLC_SELF_INFO.off; omega) rfl rfl) (fun _ => ?_)
  refine Laid.ite (fun h => Laid.at (y := SLC_SELF_CTRL.off n) (by unfold SLC_SELF_CTRL.off; omega) rfl rfl) (fun _ => ?_)
  refine Laid.ite (fun h => Laid.at (y := SLC_SELF_STATUS.off n) (by unfold SLC_SELF_STATUS.off; omega) rfl rfl) (fun _ => ?_)
  refine Laid.ite (fun h => ?_) (fun _ => Laid.ite (fun h => ?_) (fun _ => Laid.nil _))
  · refine Laid.moved ?_ (laid_fieldsRing hn (i := (o - 0x1000) / 0x20) (by omega) ((o - 0x1000) % 0x20))
    omega
  · refine Laid.moved ?_ (laid_fieldsTraceWindow hn (w := (o - 0x9000) / 0x10) (r := (o - 0x9000) % 0x10) (by omega)
      (by omega) (by omega))
    omega

theorem packed_LCH_FOM_LIMITS (r : Nat) : packed (LCH_FOM_LIMITS.fields r) = true := by
  by_cases h : r % 9 < 5 <;>
    simp [packed, LCH_FOM_LIMITS.fields, LCH_FOM_LIMITS.TARGET, LCH_FOM_LIMITS.WARN, LCH_FOM_LIMITS.FAULT, h]

theorem laid_fieldsAt (x : Nat) : Laid x (fieldsAt x) := by
  unfold fieldsAt
  refine Laid.ite (fun _ => Laid.nil x) (fun hx => Laid.ite (fun h => Laid.ite (fun h' => ?_) (fun _ => Laid.nil x)) (fun _ => ?_))
  · exact Laid.moved (by omega) (laid_fieldsWindow (n := (x - 0x1000000) / 0x10000) (by omega) (by omega))
  refine Laid.ite (fun h => Laid.moved (by omega) (laid_fieldsLane (n := (x - 0x200000) / 0x100) (by omega) (x % 0x100))) (fun _ => ?_)
  refine Laid.ite (fun h => Laid.moved (by omega) (laid_fieldsPort ((x - 0x100000) / 0x1000) (x % 0x1000))) (fun _ => ?_)
  refine Laid.ite (fun h => Laid.at (y := LCH_FOM_LIMITS.off ((x - 0x210000) / 4)) (by unfold LCH_FOM_LIMITS.off; omega) rfl (packed_LCH_FOM_LIMITS _)) (fun _ => ?_)
  refine Laid.ite (fun h => Laid.moved (by omega) (laid_fieldsSlice (n := (x - 0x30000) / 0x80) (by omega) (x % 0x80))) (fun _ => ?_)
  refine Laid.ite (fun h => Laid.ite (fun h' => Laid.at (y := RNG_INFO.off ((x - 0x40000) / 0x10)) (by unfold RNG_INFO.off; omega) rfl rfl) (fun _ => Laid.nil x)) (fun _ => ?_)
  refine Laid.ite (fun h => Laid.at (y := IMG_SRC.off ((x - 0x1008) / 4)) (by unfold IMG_SRC.off; omega) rfl rfl) (fun _ => ?_)
  refine Laid.ite (fun h => Laid.at (y := IMG_BCT.off ((x - 0x1018) / 4)) (by unfold IMG_BCT.off; omega) rfl rfl) (fun _ => ?_)
  refine Laid.ite (fun h => Laid.at (y := TXN_SCOPE_P.off ((x - 0x200C) / 4)) (by unfold TXN_SCOPE_P.off; omega) rfl rfl) (fun _ => ?_)
  refine Laid.ite (fun h => Laid.at (y := TXN_TIME.off ((x - 0x2014) / 4)) (by unfold TXN_TIME.off; omega) rfl rfl) (fun _ => ?_)
  refine Laid.ite (fun h => Laid.at (y := PWR_PORT_ARM.off ((x - 0x300C) / 4)) (by unfold PWR_PORT_ARM.off; omega) rfl rfl) (fun _ => ?_)
  refine Laid.ite (fun h => Laid.at (y := PWR_AON_REC.off ((x - 0x3040) / 4)) (by unfold PWR_AON_REC.off; omega) rfl rfl) (fun _ => ?_)
  refine Laid.ite (fun h => Laid.at (y := TIM_SET.off ((x - 0x6020) / 4)) (by unfold TIM_SET.off; omega) rfl rfl) (fun _ => ?_)
  refine Laid.ite (fun h => Laid.at (y := TIM_ASYM.off ((x - 0x6100) / 4)) (by unfold TIM_ASYM.off; omega) rfl rfl) (fun _ => ?_)
  refine Laid.ite (fun h => Laid.at (y := ERR_DP_PORTS.off ((x - 0x7008) / 4)) (by unfold ERR_DP_PORTS.off; omega) rfl rfl) (fun _ => ?_)
  refine Laid.ite (fun h => Laid.at (y := ERR_DP_LOG_TIME.off ((x - 0x7014) / 4)) (by unfold ERR_DP_LOG_TIME.off; omega) rfl rfl) (fun _ => ?_)
  refine Laid.ite (fun h => Laid.at (y := CAL_TEMP.off ((x - 0x10040) / 4)) (by unfold CAL_TEMP.off; omega) rfl rfl) (fun _ => ?_)
  refine Laid.ite (fun h => Laid.at (y := CAL_RX.off ((x - 0x11000) / 4)) (by unfold CAL_RX.off; omega) rfl rfl) (fun _ => ?_)
  refine Laid.ite (fun h => Laid.at (y := ENG_STATUS.off ((x - 0x20400) / 4)) (by unfold ENG_STATUS.off; omega) rfl rfl) (fun _ => ?_)
  refine Laid.ite (fun h => Laid.at (y := ENG_CNT.off ((x - 0x20600) / 4)) (by unfold ENG_CNT.off; omega) rfl rfl) (fun _ => ?_)
  refine Laid.ite (fun h => Laid.at (y := ENG_PERMIT.off ((x - 0x20800) / 4)) (by unfold ENG_PERMIT.off; omega) rfl rfl) (fun _ => ?_)
  refine Laid.ite (fun h => Laid.at (y := TRC_SCHED.off ((x - 0x80004) / 4)) (by unfold TRC_SCHED.off; omega) rfl rfl) (fun _ => ?_)
  refine Laid.ite (fun h => Laid.at (y := TRC_DROPS.off ((x - 0x80040) / 4)) (by unfold TRC_DROPS.off; omega) rfl rfl) (fun _ => ?_)
  refine Laid.ite (fun h => Laid.at (y := TRC_WN_STATUS.off ((x - 0x81000) / 4)) (by unfold TRC_WN_STATUS.off; omega) rfl rfl) (fun _ => ?_)
  refine Laid.ite (fun h => Laid.at (y := SNP_TIME.off ((x - 0xFF008) / 4)) (by unfold SNP_TIME.off; omega) rfl rfl) (fun _ => ?_)
  exact laid_fieldsOne x

/-! ## What a stored word leaves in a register (R4) -/

theorem Laid.fits {x : Nat} {fs : List Field} (h : Laid x fs) {f : Field} (hf : f ∈ fs) : f.fits := (packed_iff.mp h.packed).1 f hf

theorem Laid.apart {x : Nat} {fs : List Field} (h : Laid x fs) : fs.Pairwise Field.apart := (packed_iff.mp h.packed).2

theorem Laid.tail {x : Nat} {f : Field} {fs : List Field} (h : Laid x (f :: fs)) : Laid x fs where
  offs := (List.cons.inj h.offs).2
  packed := packed_iff.mpr ⟨fun _ hg => h.fits (List.mem_cons_of_mem f hg), (List.pairwise_cons.mp h.apart).2⟩

/-- A field's key names its offset. -/
theorem Cell.key_div {c : Cell} (h : c.lo < 32) : c.key / 32 = c.off := by
  unfold Cell.key
  omega

theorem Laid.key_div {x : Nat} {fs : List Field} (h : Laid x fs) {f : Field} (hf : f ∈ fs) : f.cell.key / 32 = x := by
  obtain ⟨hpos, hle, _⟩ := h.fits hf
  rw [Cell.key_div (by omega), h.off hf]

/-- The first field of a register has another key than those after it. -/
theorem Laid.key_ne {x : Nat} {f : Field} {fs : List Field} (h : Laid x (f :: fs)) {g : Field} (hg : g ∈ fs) :
    g.cell.key ≠ f.cell.key := by
  have hap : f.apart g := (List.pairwise_cons.mp h.apart).1 g hg
  obtain ⟨hf0, _, _⟩ := h.fits List.mem_cons_self
  obtain ⟨hg0, _, _⟩ := h.fits (List.mem_cons_of_mem f hg)
  have hfo := h.off List.mem_cons_self
  have hgo := h.off (List.mem_cons_of_mem f hg)
  unfold Field.apart at hap
  unfold Cell.key
  omega

/-- Storing a field changes no other. -/
theorem State.rd_storeField_ne (s : State) (w : Nat) (f : Field) {c : Cell} (h : c.key ≠ f.cell.key) :
    (s.storeField w f).rd c = s.rd c := by
  unfold State.storeField
  dsimp only
  split
  · exact State.rd_wr_ne _ _ _ _ h
  · exact State.rd_wr_ne _ _ _ _ h
  · exact State.rd_wr_ne _ _ _ _ h
  · exact State.rd_wr_ne _ _ _ _ h
  · rfl

/-- Storing a field reads nothing but that field. -/
theorem State.rd_storeField_congr {s t : State} (w : Nat) (f : Field) (h : t.rd f.cell = s.rd f.cell) :
    (t.storeField w f).rd f.cell = (s.storeField w f).rd f.cell := by
  unfold State.storeField
  dsimp only
  split <;> simp [h]

theorem State.rd_storeField_rw (s : State) (w : Nat) {f : Field} (h : f.acc = .rw ∨ f.acc = .rws) :
    (s.storeField w f).rd f.cell = f.fix.apply (s.rd f.cell) (bitsOf w f.cell.lo f.cell.width) % 2 ^ f.cell.width := by
  unfold State.storeField
  rcases h with h | h <;> simp [h]

theorem State.rd_storeField_rw1c (s : State) (w : Nat) {f : Field} (h : f.acc = .rw1c ∨ f.acc = .rw1cs) :
    (s.storeField w f).rd f.cell = (s.rd f.cell - (s.rd f.cell &&& bitsOf w f.cell.lo f.cell.width)) % 2 ^ f.cell.width := by
  unfold State.storeField
  rcases h with h | h <;> simp [h]

theorem State.storeField_other (s : State) (w : Nat) {f : Field}
    (h : f.acc ≠ .rw ∧ f.acc ≠ .rws ∧ f.acc ≠ .rw1c ∧ f.acc ≠ .rw1cs) : s.storeField w f = s := by
  obtain ⟨h1, h2, h3, h4⟩ := h
  unfold State.storeField
  cases hacc : f.acc <;> simp_all

/-- A word stored in a register leaves every field that is not of the register. -/
theorem State.rd_storeWord_ne (w : Nat) {c : Cell} : ∀ (fs : List Field) (s : State),
    (∀ f ∈ fs, c.key ≠ f.cell.key) → (s.storeWord fs w).rd c = s.rd c
  | [], _, _ => rfl
  | f :: fs, s, h => by
    obtain ⟨hf, hfs⟩ := List.forall_mem_cons.mp h
    exact (State.rd_storeWord_ne w fs (s.storeField w f) hfs).trans (State.rd_storeField_ne s w f hf)

theorem State.storeWord_cons (s : State) (f : Field) (fs : List Field) (w : Nat) :
    s.storeWord (f :: fs) w = (s.storeField w f).storeWord fs w := rfl

/-- A word stored in a register whose fields lie apart leaves each as the store of it alone does. -/
theorem State.rd_storeWord {x : Nat} (w : Nat) {fs : List Field} (s : State) (h : Laid x fs) {f : Field} (hf : f ∈ fs) :
    (s.storeWord fs w).rd f.cell = (s.storeField w f).rd f.cell := by
  induction fs generalizing s with
  | nil => exact absurd hf List.not_mem_nil
  | cons g fs ih =>
    rw [State.storeWord_cons]
    cases hf with
    | head => exact State.rd_storeWord_ne w fs _ (fun k hk => (h.key_ne hk).symm)
    | tail _ hf =>
      have hr : (s.storeField w g).rd f.cell = s.rd f.cell := State.rd_storeField_ne s w g (h.key_ne hf)
      exact (ih (s.storeField w g) h.tail hf).trans (State.rd_storeField_congr w f hr)

/-- A word stored at one offset leaves the fields at every other. -/
theorem State.rd_storeWord_off (s : State) {x : Nat} (w : Nat) {c : Cell} (hx : c.off ≠ x) (hlo : c.lo < 32) :
    (s.storeWord (fieldsAt x) w).rd c = s.rd c := by
  refine State.rd_storeWord_ne w _ s (fun f hf he => hx ?_)
  rw [← Cell.key_div hlo, he, (laid_fieldsAt x).key_div hf]

/-- What is found under a key is listed under it. -/
theorem mem_of_lookupKey {α : Type} {k : Nat} {v : α} : ∀ {l : List (Nat × α)}, lookupKey k l = some v → (k, v) ∈ l
  | (j, u) :: es, h => by
    by_cases hj : j = k
    · have hu : u = v := by simpa [lookupKey, hj] using h
      exact hj ▸ hu ▸ List.mem_cons_self
    · exact List.mem_cons_of_mem _ (mem_of_lookupKey (by simpa [lookupKey, hj] using h))

/-- A field of the map reads within its width. -/
theorem State.wf.rd_lt {s : State} (hs : s.wf) {x : Nat} {f : Field} (hf : f ∈ fieldsAt x) : s.rd f.cell < 2 ^ f.cell.width := by
  have hl := laid_fieldsAt x
  unfold State.rd Tab.get
  cases hk : lookupKey f.cell.key s.regs.entries with
  | none => exact (hl.fits hf).2.2
  | some v =>
    refine (hs.regs.2 _ (mem_of_lookupKey hk) f ?_ rfl).1
    exact (hl.key_div hf).symm ▸ hf

/-- Settles O9: every register of the map is laid out, and a stored word is the stores of its fields one by one. -/
theorem registerFieldsAreApart : Obligations.RegisterFieldsAreApart := by
  unfold Obligations.RegisterFieldsAreApart
  refine ⟨fun x f hf => ⟨(laid_fieldsAt x).off hf, (laid_fieldsAt x).fits hf⟩, fun x => (laid_fieldsAt x).apart,
    fun s x w f hf hacc => ?_, fun s x w f hf hacc => ?_, fun s x w f hf hacc => ?_, fun s x w c => s.rd_storeWord_off w,
    fun s t x f hs hf hst => ⟨hs.rd_lt hf, (step_keeps_wf hs hst).rd_lt hf⟩⟩
  · rw [State.rd_storeWord w s (laid_fieldsAt x) hf, State.rd_storeField_rw s w hacc]
  · rw [State.rd_storeWord w s (laid_fieldsAt x) hf, State.rd_storeField_rw1c s w hacc]
  · rw [State.rd_storeWord w s (laid_fieldsAt x) hf, State.storeField_other s w hacc]

end Sys2Proof.Machine
end

section
/-! PROOFS. The line code undone: scrambling, levels, stuff symbols, headers and whole frames (R37, R122, R128, R129). -/

set_option Elab.async false

namespace Sys2Proof.Machine

/-! ## Scrambling and levels -/

/-- The register runs whatever the bits are, so a second pass takes away what the first added. -/
theorem scramble_scramble (seed : Nat) (bs : List Bool) : scramble seed (scramble seed bs) = bs := by
  induction bs generalizing seed with
  | nil => rfl
  | cons b bs ih => simp [scramble, ih]

theorem scramble_length (seed : Nat) (bs : List Bool) : (scramble seed bs).length = bs.length := by
  induction bs generalizing seed with
  | nil => rfl
  | cons b bs ih => simp [scramble, ih]

theorem pamBits_pamLevel (a b : Bool) : pamBits (pamLevel a b) = [a, b] := by
  cases a <;> cases b <;> rfl

theorem pamMap_bits : ∀ (bs : List Bool), bs.length % 2 = 0 → (pamMap bs).flatMap pamBits = bs
  | [], _ => rfl
  | [_], h => absurd h Nat.one_ne_zero
  | a :: b :: bs, h => by
    have hbs : bs.length % 2 = 0 := by simp only [List.length_cons] at h; omega
    rw [pamMap, List.flatMap_cons, pamBits_pamLevel, pamMap_bits bs hbs]
    rfl

theorem pamMap_length : ∀ bs : List Bool, (pamMap bs).length = bs.length / 2
  | [] => rfl
  | [_] => by simp [pamMap]
  | _ :: _ :: bs => by
    simp only [pamMap, List.length_cons, pamMap_length bs]
    omega

/-! ## Stuff symbols -/

theorem Run.next_len_le {r : Run} (h : r.len < 12) (l : Int) : (r.next l).len ≤ 12 := by
  unfold Run.next
  split
  · exact h
  · exact Nat.succ_le_succ (Nat.zero_le 11)

theorem Run.next_level (r : Run) (l : Int) : (r.next l).level = l := by
  unfold Run.next
  split <;> rfl

theorem stuffFor_ne (l : Int) : stuffFor l ≠ l := by
  unfold stuffFor
  split <;> omega

/-- A stuff symbol begins a run of its own. -/
theorem Run.next_stuffFor (r : Run) : r.next (stuffFor r.level) = ⟨stuffFor r.level, 1⟩ :=
  if_neg (fun h => stuffFor_ne r.level h.2.symm)

/-- A symbol that makes a run of twelve is followed by a stuff symbol. -/
theorem stuff_cons_full {r : Run} {l : Int} (h : (r.next l).len = 12) (ls : List Int) :
    stuff r (l :: ls) = (l :: stuffFor l :: (stuff ⟨stuffFor l, 1⟩ ls).1, (stuff ⟨stuffFor l, 1⟩ ls).2.1,
      (stuff ⟨stuffFor l, 1⟩ ls).2.2 + 1) := if_pos h

/-- Any other symbol is followed by the next. -/
theorem stuff_cons_short {r : Run} {l : Int} (h : (r.next l).len ≠ 12) (ls : List Int) :
    stuff r (l :: ls) = (l :: (stuff (r.next l) ls).1, (stuff (r.next l) ls).2.1, (stuff (r.next l) ls).2.2) := if_neg h

/-- After a full run the stuff symbol is taken out. -/
theorem destuff_cons_full {r : Run} (h : r.len = 12) (ls : List Int) :
    destuff r (stuffFor r.level :: ls) = ((destuff ⟨stuffFor r.level, 1⟩ ls).1, (destuff ⟨stuffFor r.level, 1⟩ ls).2.1,
      (destuff ⟨stuffFor r.level, 1⟩ ls).2.2) := by
  rw [destuff, if_pos h, if_pos rfl]
  rfl

/-- After any other run a symbol is kept. -/
theorem destuff_cons_short {r : Run} (h : r.len ≠ 12) (l : Int) (ls : List Int) :
    destuff r (l :: ls) = (l :: (destuff (r.next l) ls).1, (destuff (r.next l) ls).2.1, (destuff (r.next l) ls).2.2) := if_neg h

theorem destuff_stuff (r : Run) (ls : List Int) (h : r.len < 12) : destuff r (stuff r ls).1 = (ls, (stuff r ls).2.1, 0) := by
  induction ls generalizing r with
  | nil => rfl
  | cons l ls ih =>
    by_cases hn : (r.next l).len = 12
    · have hf := destuff_cons_full hn (stuff ⟨stuffFor l, 1⟩ ls).1
      rw [Run.next_level, ih ⟨stuffFor l, 1⟩ Nat.one_lt_ofNat] at hf
      rw [stuff_cons_full hn, destuff_cons_short h.ne, hf]
    · have hlt : (r.next l).len < 12 := lt_of_le_of_ne (Run.next_len_le h l) hn
      rw [stuff_cons_short hn, destuff_cons_short h.ne, ih (r.next l) hlt]

theorem stuff_run_lt (r : Run) (ls : List Int) (h : r.len < 12) : (stuff r ls).2.1.len < 12 := by
  induction ls generalizing r with
  | nil => exact h
  | cons l ls ih =>
    by_cases hn : (r.next l).len = 12
    · rw [stuff_cons_full hn]
      exact ih ⟨stuffFor l, 1⟩ Nat.one_lt_ofNat
    · rw [stuff_cons_short hn]
      exact ih (r.next l) (lt_of_le_of_ne (Run.next_len_le h l) hn)

/-- The run after any part of the line, from a run below twelve. -/
theorem stuff_prefix_run (r : Run) (ls : List Int) (n : Nat) (h : r.len < 12) :
    (((stuff r ls).1.take n).foldl Run.next r).len ≤ 12 := by
  induction ls generalizing r n with
  | nil => simpa [stuff] using h.le
  | cons l ls ih =>
    by_cases hn : (r.next l).len = 12
    · rw [stuff_cons_full hn]
      have hs := Run.next_stuffFor (r.next l)
      rw [Run.next_level] at hs
      match n with
      | 0 => exact h.le
      | 1 => exact hn.le
      | n + 2 =>
        rw [List.take_succ_cons, List.take_succ_cons, List.foldl_cons, List.foldl_cons, hs]
        exact ih ⟨stuffFor l, 1⟩ n Nat.one_lt_ofNat
    · rw [stuff_cons_short hn]
      match n with
      | 0 => exact h.le
      | n + 1 => exact ih (r.next l) n (lt_of_le_of_ne (Run.next_len_le h l) hn)

/-! ## Headers and frames -/

theorem Header.decode_encode (h : Header) (hrow : h.row < 4096) (htype : h.type < 16) (hlane : h.lane < 32) (hepoch : h.epoch < 256)
    (hack : h.ack < 4096) (hcredit : h.credit < 256) : Header.decode h.encode = h := by
  obtain ⟨row, type, lane, epoch, ack, nak, omit_, credit⟩ := h
  simp only at hrow htype hlane hepoch hack hcredit
  simp only [Header.decode, Header.encode, Header.mk.injEq, bitsOf, bitAt, ofBool]
  refine ⟨?_, ?_, ?_, ?_, ?_, ?_, ?_, ?_⟩ <;> cases nak <;> cases omit_ <;> simp <;> omega

/-- The line carries a frame's bits whole. -/
theorem levels_of_frame (h : Header) (payload : List Byte) (seed : Nat) :
    (pamMap (scramble seed (frameBits h payload))).length = 1110 ∧
      scramble seed ((pamMap (scramble seed (frameBits h payload))).flatMap pamBits) = frameBits h payload := by
  have hl : (scramble seed (frameBits h payload)).length = 2220 := by rw [scramble_length, frameBits_length]
  constructor
  · rw [pamMap_length, hl]
  · rw [pamMap_bits _ (by rw [hl]), scramble_scramble]

theorem decodeFrame_sent (h : Header) (payload : List Byte) (seed : Nat) (hh : Header.decode h.encode = h)
    (hp : payload.length = 256) : decodeFrame (pamMap (scramble seed (frameBits h payload))) seed = some (h, payload, 0) := by
  obtain ⟨hlen, hbits⟩ := levels_of_frame h payload seed
  obtain ⟨w, hw, hwb⟩ := rsDecode_frame h payload
  obtain ⟨hhead, hbody⟩ := frame_parts h payload
  unfold decodeFrame
  rw [if_neg (not_not_intro hlen), hbits, hw]
  simp only [hwb, hhead, hbody, hh, payload_bytes hp]

/-- Settles O10: each part of the line code has its inverse, and the frame's is theirs together. -/
theorem lineCodeRoundTrips : Obligations.LineCodeRoundTrips := by
  unfold Obligations.LineCodeRoundTrips
  exact ⟨scramble_scramble, pamMap_bits, destuff_stuff, stuff_run_lt, stuff_prefix_run, Header.decode_encode, decodeFrame_sent⟩

end Sys2Proof.Machine
end

section
/-! PROOFS. What the Cold and AON brown-out resets leave (14, R413, R414, R424), and what every part of the state outside a
footprint is after the operation. -/

set_option Elab.async false

namespace Sys2Proof.Machine

/-! ## Parts of the state outside a footprint, and loops -/

/-- A part of the state outside a footprint is as it was. -/
theorem Goes.part {F : Foot} {s t : State} (g : Goes F s t) (p : Part) (h : p ∉ F.parts) : p.same s t := g.kept.parts p h

/-- What holds before a loop and after each turn of it holds after the loop. -/
theorem State.each_induction {P : State → Prop} {s : State} (xs : List Nat) (f : State → Nat → State) (h : P s)
    (hf : ∀ t x, x ∈ xs → P t → P (f t x)) : P (s.each xs f) := by
  unfold State.each
  induction xs generalizing s with
  | nil => exact h
  | cons x xs ih =>
    rw [List.foldl_cons]
    exact ih (hf s x List.mem_cons_self h) (fun t y hy => hf t y (List.mem_cons_of_mem x hy))

@[simp] theorem State.newEra_now (s : State) (era : Nat) : (s.newEra era).now = s.now :=
  (Goes.newEra (Foot.le_refl _) (Goes.refl _ s)).part .now (by decide)
@[simp] theorem State.newEra_tim (s : State) (era : Nat) : (s.newEra era).tim = s.tim :=
  (Goes.newEra (Foot.le_refl _) (Goes.refl _ s)).part .tim (by decide)
@[simp] theorem State.newEra_fuses (s : State) (era : Nat) : (s.newEra era).fuses = s.fuses :=
  (Goes.newEra (Foot.le_refl _) (Goes.refl _ s)).part .fuses (by decide)
@[simp] theorem State.newEra_flash (s : State) (era : Nat) : (s.newEra era).flash = s.flash :=
  (Goes.newEra (Foot.le_refl _) (Goes.refl _ s)).part .flash (by decide)
@[simp] theorem State.newEra_power (s : State) (era : Nat) : (s.newEra era).power = s.power :=
  (Goes.newEra (Foot.le_refl _) (Goes.refl _ s)).part .power (by decide)
@[simp] theorem State.newEra_staged (s : State) (era : Nat) : (s.newEra era).staged = s.staged :=
  (Goes.newEra (Foot.le_refl _) (Goes.refl _ s)).part .staged (by decide)
@[simp] theorem State.newEra_slices (s : State) (era : Nat) : (s.newEra era).slices = s.slices :=
  (Goes.newEra (Foot.le_refl _) (Goes.refl _ s)).part .slices (by decide)
@[simp] theorem State.newEra_rings (s : State) (era : Nat) : (s.newEra era).rings = s.rings :=
  (Goes.newEra (Foot.le_refl _) (Goes.refl _ s)).part .rings (by decide)
@[simp] theorem State.newEra_tags (s : State) (era : Nat) : (s.newEra era).tags = s.tags :=
  (Goes.newEra (Foot.le_refl _) (Goes.refl _ s)).part .tags (by decide)
@[simp] theorem State.newEra_mgmt (s : State) (era : Nat) : (s.newEra era).mgmt = s.mgmt :=
  (Goes.newEra (Foot.le_refl _) (Goes.refl _ s)).part .mgmt (by decide)

/-! ## A new era -/

theorem State.newEra_era (s : State) (era : Nat) : (s.newEra era).era = era :=
  State.each_induction (P := fun t => t.era = era) _ _ rfl (fun _ _ _ h => h)

/-- No event waits in a new era where none waited before it. -/
theorem State.newEra_evq_nil {s : State} (h : s.evq = []) (era : Nat) : (s.newEra era).evq = [] :=
  State.each_induction (P := fun t => t.evq = []) _ _ h (fun _ _ _ ht => List.map_eq_nil_iff.mpr ht)

@[simp] theorem State.rd_newEra_any (s : State) (era : Nat) (c : Cell) : (s.newEra era).rd c = s.rd c := State.rd_newEra s c era rfl

/-! ## The two resets -/

theorem State.rd_blank (s : State) (regs : Tab Nat) (c : Cell) : (s.blank regs).rd c = regs.get c.cold c.key := rfl

/-- The Cold reset before the pins of the always-on domain are taken up. -/
theorem State.coldReset_false (s : State) : s.coldReset false =
    ((((s.blank {}).newEra 1).upPw (fun x => { x with aonReset := true, wokeAt := 0, wokeFrom := 0 })).upM
      (fun m => { m with wakeN := false })) := by
  simp only [State.coldReset, Bool.false_eq_true, if_false]

/-- The registers that a brown-out reset keeps: PWR_AON_STATUS and RST_STATUS. -/
def brownoutKey (k : Nat) : Bool := k / 32 == 0x301C || k / 32 == 0x5000

/-- The state of a brown-out reset before it is recorded. -/
def State.browned (s : State) : State :=
  (((s.blank (s.regs.keep brownoutKey)).newEra 1).upPw (fun x => { x with aonReset := true, wokeAt := 0, wokeFrom := 0 })).upM
    (fun m => { m with wakeN := false })

theorem State.coldReset_true (s : State) : s.coldReset true =
    ((s.browned.wr RST_STATUS.REASON 6).off RST_STATUS.BOOT_DONE).wr RST_STATUS.PIN_CNT 0 := by
  simp only [State.coldReset, State.browned, if_true]
  rfl

theorem State.rd_browned (s : State) (c : Cell) : s.browned.rd c = (s.regs.keep brownoutKey).get c.cold c.key := by
  simp -implicitDefEqProofs only [State.browned, State.upM_rd, State.upPw_rd, State.rd_newEra_any, State.rd_blank]

theorem State.rd_browned_lost (s : State) {c : Cell} (h : brownoutKey c.key = false) : s.browned.rd c = c.cold := by
  rw [State.rd_browned, Tab.get_keep_false _ _ h]

theorem lookupKey_filter {α : Type} {p : Nat → Bool} {k : Nat} (h : p k = true) (l : List (Nat × α)) :
    lookupKey k (l.filter (fun e => p e.1)) = lookupKey k l := by
  induction l with
  | nil => rfl
  | cons e l ih =>
    by_cases he : p e.1
    · simp [he, lookupKey, ih]
    · have hne : e.1 ≠ k := fun hk => he (hk ▸ h)
      simp [he, lookupKey, ih, hne]

theorem State.rd_browned_kept (s : State) {c : Cell} (h : brownoutKey c.key = true) : s.browned.rd c = s.rd c := by
  rw [State.rd_browned, State.rd, Tab.get, Tab.get, Tab.keep, lookupKey_filter h]

theorem brownoutKey_of_off {c : Cell} (h : c.lo < 32) (h1 : c.off ≠ PWR_AON_STATUS.off) (h2 : c.off ≠ RST_STATUS.off) :
    brownoutKey c.key = false := by
  have ho := Cell.key_div h
  unfold PWR_AON_STATUS.off at h1
  unfold RST_STATUS.off at h2
  simp [brownoutKey, ho, h1, h2]

/-- A register elsewhere has another key than those of RST_STATUS. -/
theorem key_ne_of_off {c d : Cell} (hc : c.lo < 32) (hd : d.lo < 32) (h : c.off ≠ d.off) : c.key ≠ d.key := by
  unfold Cell.key
  omega

theorem State.rd_coldReset_false (s : State) (c : Cell) : (s.coldReset false).rd c = c.cold := by
  rw [State.coldReset_false, State.upM_rd, State.upPw_rd, State.rd_newEra_any, State.rd_blank, Tab.get_empty]

theorem exec_coldReset_clears (s : State) : ∃ t, exec (.coldReset) s = .next t ∧ (∀ c : Cell, t.rd c = c.cold) ∧ t.rd RST_STATUS.REASON = 0 ∧
    t.rd PWR_AON_STATUS.BOR = 0 ∧ t.rd PWR_AON_STATUS.LOAD = 0 ∧ t.rd PWR_AON_STATUS.SUPPLY = 0 ∧
    t.power.sealed = false ∧ t.power.timerAt = none ∧ t.era = 1 ∧ t.now = 0 ∧ t.quality = qINVALID ∧
    t.fuses = s.fuses ∧ t.flash = s.flash ∧
    t.power.inReset = true ∧ t.power.aonReset = true ∧ t.power.bootDue = false ∧
    t.evq = [] ∧ t.staged = [] ∧ t.slices = {} ∧ t.rings = {} ∧ t.tags = {} := by
  have hcold := s.rd_coldReset_false
  have hevq : ((s.blank {}).newEra 1).evq = [] := State.newEra_evq_nil rfl 1
  refine ⟨s.coldReset false, rfl, hcold, hcold _, hcold _, hcold _, hcold _, ?_⟩
  rw [State.quality, hcold, State.coldReset_false]
  simp -implicitDefEqProofs only [State.upM_evq, State.upPw_evq, hevq]
  simp -implicitDefEqProofs [State.newEra_era, State.blank, TIM_STATUS.QUALITY, qINVALID]

/-- The latch of a brown-out's cause. -/
def brownoutCell : BrownoutCause → Cell
  | .load => PWR_AON_STATUS.LOAD
  | .supply => PWR_AON_STATUS.SUPPLY

theorem exec_aonBrownout_eq (cause : BrownoutCause) (s : State) : exec (.aonBrownout cause) s = execAonBrownout cause s := rfl

theorem exec_aonBrownout (cause : BrownoutCause) (s : State) :
    exec (.aonBrownout cause) s = .next (((s.on PWR_AON_STATUS.BOR).on (brownoutCell cause)).coldReset true) := by
  rw [exec_aonBrownout_eq]
  cases cause <;> simp only [execAonBrownout, brownoutCell]

/-- What a brown-out reset leaves of a register that RST_STATUS does not hold. -/
theorem State.rd_coldReset_true (s : State) {c : Cell} (hlo : c.lo < 32) (h : c.off ≠ RST_STATUS.off) :
    (s.coldReset true).rd c = s.browned.rd c := by
  have hne : ∀ d : Cell, d.off = RST_STATUS.off → d.lo < 32 → c.key ≠ d.key := fun d hd hdl =>
    key_ne_of_off hlo hdl (by rw [hd]; exact h)
  rw [State.coldReset_true, State.rd_wr_ne _ _ _ _ (hne _ rfl (by decide)), State.off, State.rd_wr_ne _ _ _ _ (hne _ rfl (by decide)),
    State.rd_wr_ne _ _ _ _ (hne _ rfl (by decide))]

/-- A latch of a brown-out outlives the reset that follows. -/
theorem State.rd_coldReset_true_latch (s : State) {c : Cell} (hlo : c.lo < 32) (h : c.off = PWR_AON_STATUS.off) :
    (s.coldReset true).rd c = s.rd c := by
  rw [State.rd_coldReset_true s hlo (by rw [h]; decide), State.rd_browned_kept]
  simp [brownoutKey, Cell.key_div hlo, h, PWR_AON_STATUS.off]

theorem exec_aonBrownout_clears (s : State) (cause : BrownoutCause) : ∃ t, exec (.aonBrownout cause) s = .next t ∧
    (∀ c : Cell, c.lo < 32 → c.off ≠ PWR_AON_STATUS.off → c.off ≠ RST_STATUS.off → t.rd c = c.cold) ∧
    t.rd RST_STATUS.REASON = 6 ∧ t.rd RST_STATUS.THERMTRIP_SEEN = s.rd RST_STATUS.THERMTRIP_SEEN ∧
    t.rd PWR_AON_STATUS.BOR = 1 ∧
    t.rd (match cause with | .load => PWR_AON_STATUS.LOAD | .supply => PWR_AON_STATUS.SUPPLY) = 1 ∧
    t.rd RST_STATUS.PIN_CNT = 0 ∧ t.rd RST_STATUS.BOOT_DONE = 0 ∧
    t.power.sealed = false ∧ t.power.timerAt = none ∧ t.era = 1 ∧ t.power.aonReset = true := by
  have hbor : ∀ u : State, ((u.on PWR_AON_STATUS.BOR).on (brownoutCell cause)).rd PWR_AON_STATUS.BOR = 1 := fun u => by
    cases cause <;> simp [brownoutCell]
  have hseen : ∀ u : State, u.browned.rd RST_STATUS.THERMTRIP_SEEN = u.rd RST_STATUS.THERMTRIP_SEEN := fun u =>
    State.rd_browned_kept u rfl
  refine ⟨_, exec_aonBrownout cause s, fun c hlo h1 h2 => ?_, ?_, ?_, ?_, ?_, ?_⟩
  · rw [State.rd_coldReset_true _ hlo h2, State.rd_browned_lost _ (brownoutKey_of_off hlo h1 h2)]
  · simp -implicitDefEqProofs [State.coldReset_true]
  · cases cause <;> simp -implicitDefEqProofs [State.coldReset_true, hseen, brownoutCell]
  · rw [State.rd_coldReset_true_latch _ (by decide) rfl, hbor]
  · cases cause
    · exact (State.rd_coldReset_true_latch _ (c := PWR_AON_STATUS.LOAD) (by decide) rfl).trans (State.rd_wr_same _ _ _)
    · exact (State.rd_coldReset_true_latch _ (c := PWR_AON_STATUS.SUPPLY) (by decide) rfl).trans (State.rd_wr_same _ _ _)
  · simp -implicitDefEqProofs [State.coldReset_true, State.browned, State.newEra_era, State.blank]

/-- Settles O12. -/
theorem coldResetsRestoreColdValues : Obligations.ColdResetsRestoreColdValues := by
  unfold Obligations.ColdResetsRestoreColdValues
  exact ⟨exec_coldReset_clears, exec_aonBrownout_clears⟩

end Sys2Proof.Machine
end

section
/-! PROOFS. What the commands run. -/

set_option Elab.async false

namespace Sys2Proof.Machine

/-! ## What a command runs: `exec` unfolded, for the commands whose proofs unfold it -/

theorem exec_registerWrite_runs : ∀ bar addr be data (s : State),
    exec (.registerWrite bar addr be data) s = execRegisterWrite bar addr be data s := by
  intros; rfl
theorem exec_ebSlip_runs : ∀ h (s : State), exec (.ebSlip h) s = execEbSlip h s := by
  intros; rfl
theorem exec_trainingSetReceived_runs : ∀ h ts (s : State), exec (.trainingSetReceived h ts) s = execTrainingSetReceived h ts s := by
  intros; rfl
theorem exec_eqPresetAck_runs : ∀ h (s : State), exec (.eqPresetAck h) s = execEqPresetAck h s := by
  intros; rfl
theorem exec_disabledExit_runs : ∀ h (s : State), exec (.disabledExit h) s = execDisabledExit h s := by
  intros; rfl
theorem exec_electricalIdleExit_runs : ∀ h (s : State), exec (.electricalIdleExit h) s = execElectricalIdleExit h s := by
  intros; rfl
theorem exec_rateChange_runs : ∀ p slot (s : State), exec (.rateChange p slot) s = execRateChange p slot s := by
  intros; rfl
theorem exec_lowpowerEntry_runs : ∀ q kind (s : State), exec (.lowpowerEntry q kind) s = execLowpowerEntry q kind s := by
  intros; rfl
theorem exec_lowpowerExit_runs : ∀ q kind (s : State), exec (.lowpowerExit q kind) s = execLowpowerExit q kind s := by
  intros; rfl
theorem exec_trnRetrain_runs : ∀ p (s : State), exec (.trnRetrain p) s = execTrnRetrain p s := by
  intros; rfl
theorem exec_marginCommand_runs : ∀ h msg (s : State), exec (.marginCommand h msg) s = execMarginCommand h msg s := by
  intros; rfl
theorem exec_rowLaunch_runs : ∀ q arrived (s : State), exec (.rowLaunch q arrived) s = execRowLaunch q arrived s := by
  intros; rfl
theorem exec_frameReceived_runs : ∀ h line (s : State), exec (.frameReceived h line) s = execFrameReceived h line s := by
  intros; rfl
theorem exec_stuffHigh_runs : ∀ h (s : State), exec (.stuffHigh h) s = execStuffHigh h s := by
  intros; rfl
theorem exec_laneidReceived_runs : ∀ h payload (s : State), exec (.laneidReceived h payload) s = execLaneidReceived h payload s := by
  intros; rfl
theorem exec_hardFaultDeclare_runs : ∀ h reason (s : State), exec (.hardFaultDeclare h reason) s = execHardFaultDeclare h reason s := by
  intros; rfl
theorem exec_corrBlockEnd_runs : ∀ h (s : State), exec (.corrBlockEnd h) s = execCorrBlockEnd h s := by
  intros; rfl
theorem exec_standardLaneFault_runs : ∀ h reason (s : State), exec (.standardLaneFault h reason) s = execStandardLaneFault h reason s := by
  intros; rfl
theorem exec_trellisProposeReceived_runs : ∀ q msg (s : State), exec (.trellisProposeReceived q msg) s = execTrellisProposeReceived q msg s := by
  intros; rfl
theorem exec_trellisCommitReceived_runs : ∀ q msg (s : State), exec (.trellisCommitReceived q msg) s = execTrellisCommitReceived q msg s := by
  intros; rfl
theorem exec_trellisSwitch_runs : ∀ q (s : State), exec (.trellisSwitch q) s = execTrellisSwitch q s := by
  intros; rfl
theorem exec_trellisCancelReceived_runs : ∀ q msg (s : State), exec (.trellisCancelReceived q msg) s = execTrellisCancelReceived q msg s := by
  intros; rfl
theorem exec_trlMove_runs : ∀ q lane spare (s : State), exec (.trlMove q lane spare) s = execTrlMove q lane spare s := by
  intros; rfl
theorem exec_trlReturnHome_runs : ∀ q lane (s : State), exec (.trlReturnHome q lane) s = execTrlReturnHome q lane s := by
  intros; rfl
theorem exec_calRun_runs : ∀ scope half index (s : State), exec (.calRun scope half index) s = execCalRun scope half index s := by
  intros; rfl
theorem exec_calStore_runs : ∀ (s : State), exec .calStore s = execCalStore s := by
  intros; rfl
theorem exec_calReload_runs : ∀ (s : State), exec .calReload s = execCalReload s := by
  intros; rfl
theorem exec_calClear_runs : ∀ scope half index (s : State), exec (.calClear scope half index) s = execCalClear scope half index s := by
  intros; rfl
theorem exec_calAutoStore_runs : ∀ (s : State), exec .calAutoStore s = execCalAutoStore s := by
  intros; rfl
theorem exec_calCaptureStart_runs : ∀ h (s : State), exec (.calCaptureStart h) s = execCalCaptureStart h s := by
  intros; rfl
theorem exec_calCaptureEnd_runs : ∀ h stats errors (s : State), exec (.calCaptureEnd h stats errors) s = execCalCaptureEnd h stats errors s := by
  intros; rfl
theorem exec_calComputeDone_runs : ∀ h (s : State), exec (.calComputeDone h) s = execCalComputeDone h s := by
  intros; rfl
theorem exec_calHoldWrite_runs : ∀ h (s : State), exec (.calHoldWrite h) s = execCalHoldWrite h s := by
  intros; rfl
theorem exec_calStoreFlashDone_runs : ∀ ok (s : State), exec (.calStoreFlashDone ok) s = execCalStoreFlashDone ok s := by
  intros; rfl
theorem exec_calStoreTimeout_runs : ∀ (s : State), exec .calStoreTimeout s = execCalStoreTimeout s := by
  intros; rfl
theorem exec_engPermitWrite_runs : ∀ k value (s : State), exec (.engPermitWrite k value) s = execEngPermitWrite k value s := by
  intros; rfl
theorem exec_boot_runs : ∀ flashAnswers (s : State), exec (.boot flashAnswers) s = execBoot flashAnswers s := by
  intros; rfl
theorem exec_confirm_runs : ∀ (s : State), exec .confirm s = execConfirm s := by
  intros; rfl
theorem exec_confirmAfterExpiry_runs : ∀ (s : State), exec .confirmAfterExpiry s = execConfirmAfterExpiry s := by
  intros; rfl
theorem exec_advanceArb_runs : ∀ (s : State), exec .advanceArb s = execAdvanceArb s := by
  intros; rfl
theorem exec_tpulseOut_runs : ∀ (s : State), exec .tpulseOut s = execTpulseOut s := by
  intros; rfl
theorem exec_trigger_runs : ∀ k ring (s : State), exec (.trigger k ring) s = execTrigger k ring s := by
  intros; rfl
theorem exec_scheduleFire_runs : ∀ (s : State), exec .scheduleFire s = execScheduleFire s := by
  intros; rfl
theorem exec_latch_runs : ∀ (s : State), exec .latch s = execLatch s := by
  intros; rfl
theorem exec_autoRearmExpiry_runs : ∀ (s : State), exec .autoRearmExpiry s = execAutoRearmExpiry s := by
  intros; rfl
theorem exec_idleEntry_runs : ∀ (s : State), exec .idleEntry s = execIdleEntry s := by
  intros; rfl
theorem exec_sleepEntry_runs : ∀ (s : State), exec .sleepEntry s = execSleepEntry s := by
  intros; rfl
theorem exec_deepEntry_runs : ∀ centralTemp (s : State), exec (.deepEntry centralTemp) s = execDeepEntry centralTemp s := by
  intros; rfl
theorem exec_offEntry_runs : ∀ (s : State), exec .offEntry s = execOffEntry s := by
  intros; rfl
theorem exec_deepWakeReloadDone_runs : ∀ flashAnswers loftPass aonCycles us (s : State),
    exec (.deepWakeReloadDone flashAnswers loftPass aonCycles us) s =
      execDeepWakeReloadDone flashAnswers loftPass aonCycles us s := by
  intros; rfl
theorem exec_resetNDeassert_runs : ∀ (s : State), exec .resetNDeassert s = execResetNDeassert s := by
  intros; rfl
theorem exec_alwaysOnTimerWake_runs : ∀ (s : State), exec .alwaysOnTimerWake s = execAlwaysOnTimerWake s := by
  intros; rfl

end Sys2Proof.Machine
end

section
/-! PROOFS. Transactions that are abandoned, and register writes by access kind (09, R267, R276; 10, R286). -/

set_option Elab.async false

namespace Sys2Proof.Machine

@[simp] theorem State.tileQuiet_txn (s : State) (t : Nat) : (s.tileQuiet t).txn = s.txn :=
  (Goes.tileQuiet (Foot.le_refl _) (Goes.refl _ s)).part .txn (by decide)
@[simp] theorem State.deviceQuiet_txn (s : State) : (s.deviceQuiet).txn = s.txn :=
  (Goes.deviceQuiet (Foot.le_refl _) (Goes.refl _ s)).part .txn (by decide)
@[simp] theorem State.tileQuiet_elapsed (s : State) (t : Nat) : (s.tileQuiet t).elapsed = s.elapsed :=
  (Goes.tileQuiet (Foot.le_refl _) (Goes.refl _ s)).part .elapsed (by decide)
@[simp] theorem State.deviceQuiet_elapsed (s : State) : (s.deviceQuiet).elapsed = s.elapsed :=
  (Goes.deviceQuiet (Foot.le_refl _) (Goes.refl _ s)).part .elapsed (by decide)
@[simp] theorem State.showTarget_txn (s : State) : (s.showTarget).txn = s.txn :=
  (Goes.showTarget (Foot.le_refl _) (Goes.refl _ s)).part .txn (by decide)
@[simp] theorem State.showTarget_elapsed (s : State) : (s.showTarget).elapsed = s.elapsed :=
  (Goes.showTarget (Foot.le_refl _) (Goes.refl _ s)).part .elapsed (by decide)
@[simp] theorem State.askLevel_txn (s : State) (l : Nat) : (s.askLevel l).txn = s.txn :=
  (Goes.askLevel (Foot.le_refl _) (Goes.refl _ s)).part .txn (by decide)
@[simp] theorem State.askLevel_elapsed (s : State) (l : Nat) : (s.askLevel l).elapsed = s.elapsed :=
  (Goes.askLevel (Foot.le_refl _) (Goes.refl _ s)).part .elapsed (by decide)

/-! ## A command that takes a branch -/

theorem next_pos {c : Prop} [Decidable c] {a b : State} (h : c) :
    (Host.Outcome.next (if c then a else b) : Host.Outcome State Fault Refusal) = .next a := by rw [if_pos h]

theorem next_neg {c : Prop} [Decidable c] {a b : State} (h : ¬c) :
    (Host.Outcome.next (if c then a else b) : Host.Outcome State Fault Refusal) = .next b := by rw [if_neg h]

/-! ## Time passes to an instant -/

theorem State.advance_elapsed (s : State) (d : Nat) : (s.advance d).elapsed = s.elapsed + d := (s.advance_counters d).1

/-- After a wait for an instant, time stands there or later. -/
theorem State.le_advanceTo_elapsed (s : State) (e : Nat) : e ≤ (s.advanceTo e).elapsed := by
  unfold State.advanceTo
  split
  case isTrue h => exact h
  case isFalse h =>
    rw [State.advance_elapsed]
    omega

/-! ## The end of a transaction (R278) -/

theorem State.rd_endTxn_state (s : State) (result reason index : Nat) : (s.endTxn result reason index).txnState = xIDLE := by
  unfold State.endTxn State.txnState
  dsimp only
  simp +decide [State.rd_each, xIDLE]

theorem State.rd_endTxn_result (s : State) (result reason index : Nat) :
    (s.endTxn result reason index).rd TXN_STATUS.LAST_RESULT = result % 8 := by
  unfold State.endTxn
  dsimp only
  simp +decide [State.rd_each]

theorem State.rd_endTxn_reason (s : State) (result reason index : Nat) :
    (s.endTxn result reason index).rd TXN_STATUS.REASON = reason % 32 := by
  unfold State.endTxn
  dsimp only
  simp +decide [State.rd_each]

theorem State.endTxn_txn (s : State) (result reason index : Nat) : (s.endTxn result reason index).txn = {} := by
  unfold State.endTxn
  dsimp only
  rw [apply_ite State.txn, State.askLevel_txn, ite_self, State.showTarget_txn]
  rfl

theorem State.endTxn_elapsed (s : State) (result reason index : Nat) : (s.endTxn result reason index).elapsed = s.elapsed :=
  (Goes.endTxn (Foot.le_refl _) (Goes.refl _ s)).part .elapsed (by decide)

theorem exec_abandoned_open (s : State) (h : s.txnState = xOPEN) : ∃ t, exec (.abandoned) s = .next t ∧ t.txnState = xIDLE ∧
    t.rd TXN_STATUS.LAST_RESULT = 4 ∧ t.rd TXN_STATUS.REASON = 0xD ∧ t.txn = {} ∧
    s.txn.touched + 100000 * usUnit ≤ t.elapsed := by
  have hopen : (s.advanceTo (s.txn.touched + 100000 * usUnit)).txnState = xOPEN :=
    (State.rd_advanceTo s TXN_STATUS.STATE _ (by rw [fieldName_TXN_STATUS_STATE]; decide)).trans h
  refine ⟨_, next_pos h, ?_⟩
  rw [State.rollTxn, if_pos (Or.inl hopen)]
  exact ⟨State.rd_endTxn_state _ _ _ _, State.rd_endTxn_result _ _ _ _, State.rd_endTxn_reason _ _ _ _, State.endTxn_txn _ _ _ _,
    (State.le_advanceTo_elapsed s _).trans (State.endTxn_elapsed _ _ _ _).ge⟩

/-! ## Writes that begin the 100 ms again (R276) -/

/-- A stored field changes the registers alone. -/
theorem State.storeField_regs (s : State) (w : Nat) (f : Field) : ∃ r, s.storeField w f = s.setRegs r := by
  unfold State.storeField
  dsimp only
  split
  · exact ⟨_, rfl⟩
  · exact ⟨_, rfl⟩
  · exact ⟨_, rfl⟩
  · exact ⟨_, rfl⟩
  · exact ⟨s.regs, rfl⟩

/-- A stored word changes the registers alone. -/
theorem State.storeWord_regs (s : State) (fs : List Field) (w : Nat) : ∃ r, s.storeWord fs w = s.setRegs r := by
  induction fs generalizing s with
  | nil => exact ⟨s.regs, rfl⟩
  | cons f fs ih =>
    obtain ⟨r1, h1⟩ := s.storeField_regs w f
    obtain ⟨r2, h2⟩ := ih (s.setRegs r1)
    exact ⟨r2, by rw [State.storeWord_cons, h1, h2]; rfl⟩

/-- Staging a word notes no time. -/
theorem State.stageRwt_touched {s : State} {x v : Nat} (hbct : x ≠ 0x101C) (hopen : s.txnState = xOPEN) (hcov : s.covered x v = true) :
    (s.stageRwt x v).txn.touched = s.elapsed := by
  rw [State.stageRwt, if_neg hbct, if_pos ⟨hopen, hcov⟩]
  rfl

theorem fieldsAt_PRT_MODE (p : Nat) : fieldsAt (PRT_MODE.off p) = PRT_MODE.fields (p % 64) := by
  have ho : PRT_MODE.off p = 0x100000 + 0x1000 * (p % 64) := rfl
  have hp : p % 64 < 64 := Nat.mod_lt _ (by decide)
  generalize p % 64 = q at ho hp
  rw [ho, fieldsAt, if_neg (by omega), if_neg (by omega), if_neg (by omega), if_pos (by omega), fieldsPort, if_pos]
  · rw [show (0x100000 + 0x1000 * q - 0x100000) / 0x1000 = q by omega]
  · unfold PRT_MODE.off
    omega

theorem hasRwt_PRT_MODE (p : Nat) : hasRwt (PRT_MODE.off p) = true := by
  unfold hasRwt
  rw [fieldsAt_PRT_MODE]
  rfl

/-- A Port's block begins with PRT_MODE, which is covered where the Port is. -/
theorem State.covered_PRT_MODE (s : State) (p : PortId) (v : Nat) : s.covered (PRT_MODE.off p) v = s.inScope p := by
  have hp := p.isLt
  have hi : portIndex (PRT_MODE.off p) = some p.val := by
    unfold portIndex PRT_MODE.off
    rw [if_pos (by omega), show (0x100000 + 0x1000 * (p.val % 64) + 0 - 0x100000) / 0x1000 = p.val by omega]
  rw [State.covered, hi]

/-- No bit of PRT_MODE acts at the write. -/
theorem State.rwtActs_PRT_MODE (s : State) (p v : Nat) : s.rwtActs (PRT_MODE.off p) v = s := by
  have ho : PRT_MODE.off p = 0x100000 + 0x1000 * (p % 64) := rfl
  have hp : p % 64 < 64 := Nat.mod_lt _ (by decide)
  have ht : PRT_MODE.off p ≠ TRC_TRIG_CTRL.off := by unfold TRC_TRIG_CTRL.off; omega
  have hr : retrains (PRT_MODE.off p) = false := by
    have hm : PRT_MODE.off p % 0x1000 = 0 := by omega
    simp [retrains, hm]
  rw [State.rwtActs, if_neg ht, if_neg (by simp [hr])]

theorem State.hosted_iff {s : State} : s.hosted = true ↔ s.served = true ∧ s.bit IMG_STATUS.RECOVERY = false := by
  simp [State.hosted]

theorem exec_rwtWrite_touches (s : State) (p : PortId) (v : Nat) (hh : s.hosted = true) (hopen : s.txnState = xOPEN)
    (hp : s.inScope p = true) : ∃ t, exec (.rwtWrite (PRT_MODE.off p) v) s = .next t ∧ t.txn.touched = s.elapsed := by
  obtain ⟨hserved, hrec⟩ := State.hosted_iff.mp hh
  refine ⟨_, next_neg (by simp [hserved, hrec, hasRwt_PRT_MODE]), ?_⟩
  rw [State.rwtWrite, if_neg (by simp [hrec]), State.rwtActs_PRT_MODE]
  exact State.stageRwt_touched (by unfold PRT_MODE.off; omega) hopen ((State.covered_PRT_MODE s p _).trans hp)

/-- A whole register at the start of an 8-byte span, written by its four bytes, outside the MSI-X ranges (R286). -/
theorem exec_registerWrite_low {s : State} {x : Nat} (data : Nat) (hup : s.mgmtUp = true) (hd0 : s.mgmt.d3hot = false)
    (hx : x % 8 = 0) (hlt : x < 0xF00000) : exec (.registerWrite .bar0 x 0x0F data) s = .next (s.writeReg x (data % 2 ^ 32)) := by
  have hb : 0 + x % bar2Base / 8 * 8 = x := by unfold bar2Base; omega
  have hm : msixRange x = false := by simp [msixRange]; omega
  simp [exec_registerWrite_runs, execRegisterWrite, hup, hd0, hb, State.memRequest, hm, hx, State.writeSpan]

/-- The register after it, by the four bytes after those. -/
theorem exec_registerWrite_high {s : State} {x : Nat} (data : Nat) (hup : s.mgmtUp = true) (hd0 : s.mgmt.d3hot = false)
    (hx : x % 8 = 4) (hlt : x < 0xF00000) :
    exec (.registerWrite .bar0 x 0xF0 data) s = .next (s.writeReg x (data / 2 ^ 32 % 2 ^ 32)) := by
  have hb : 0 + x % bar2Base / 8 * 8 = x - 4 := by unfold bar2Base; omega
  have h4 : x - 4 + 4 = x := by omega
  have hm : msixRange x = false := by simp [msixRange]; omega
  simp [exec_registerWrite_runs, execRegisterWrite, hup, hd0, hb, h4, State.memRequest, hm, hx, State.writeSpan]

theorem exec_registerWrite_touches (s : State) (data : Nat) (hup : s.mgmtUp = true) (hd0 : s.mgmt.d3hot = false)
    (hrec : s.bit IMG_STATUS.RECOVERY = false) :
    ∃ t, exec (.registerWrite .bar0 TXN_STATUS.off 0xF0 data) s = .next t ∧ t.txn.touched = s.elapsed := by
  refine ⟨_, exec_registerWrite_high data hup hd0 (by decide) (by decide), ?_⟩
  have hr : hasRwt TXN_STATUS.off = false := by decide
  rw [State.writeReg, if_neg (by simp [hrec]), if_neg (by simp [hr])]
  generalize data / 2 ^ 32 % 2 ^ 32 = v
  have hw : s.plainWrite TXN_STATUS.off v = s.txnWrite TXN_STATUS.off v := rfl
  obtain ⟨r, hr⟩ := (s.upX (fun y => { y with touched := s.elapsed })).storeWord_regs (fieldsAt TXN_STATUS.off) v
  rw [hw, State.txnWrite, if_neg (by decide), if_neg (fun h => absurd h.1 (by decide)), hr]
  rfl

/-- Settles O13. -/
theorem abandonedTransactionRollsBack : Obligations.AbandonedTransactionRollsBack := by
  unfold Obligations.AbandonedTransactionRollsBack
  exact ⟨exec_abandoned_open, fun s h => next_neg h, exec_rwtWrite_touches, exec_registerWrite_touches⟩

end Sys2Proof.Machine
end

section
/-! PROOFS. A write to a Lane Tile that is OFF, in a state that no run reaches (01, R28; 13, R401, R404). -/

set_option Elab.async false

namespace Sys2Proof.Machine

/-- DEEP with a wake from SLEEP under way, which no run reaches: the management function answers, as in a wake from SLEEP, and no tile
is asked to wake, as in DEEP. -/
def aStrayWake : State :=
  (({ power := { wake := some ⟨2, 0, true⟩ } } : State).wr PWR_STATUS.STATE 3).on CLK_STATUS.REFCLK_OK

theorem aStrayWake_answers : aStrayWake.mgmtUp = true ∧ aStrayWake.mgmt.d3hot = false ∧ aStrayWake.bit IMG_STATUS.RECOVERY = false ∧
    aStrayWake.powerState ≠ 1 ∧ aStrayWake.resetsHeld = false ∧ aStrayWake.tileState 0 = 0 := by decide +kernel

theorem aStrayWake_write : ∃ t, exec (.registerWrite .bar0 0x200010 0x0F 0) aStrayWake = .next t ∧ t.tileState 0 = 0 :=
  ⟨aStrayWake.writeReg 0x200010 0, exec_registerWrite_low 0 aStrayWake_answers.1 aStrayWake_answers.2.1 (by decide) (by decide),
    by decide +kernel⟩

/-- Refutes O14: in `aStrayWake` a write to LCH_EQ_CTRL of half-lane 0 waits for Lane Tile 0, which stays OFF. -/
theorem not_registerWritesStoreFields : ¬ Obligations.RegisterWritesStoreFields := by
  unfold Obligations.RegisterWritesStoreFields
  rintro ⟨-, -, -, -, hoff, -⟩
  obtain ⟨hup, hd0, hrec, hst, hheld, ht⟩ := aStrayWake_answers
  obtain ⟨t, hexec, hwakes, -⟩ := hoff aStrayWake 0 0 hup hd0 hrec hst hheld ht
  obtain ⟨u, hexec', hstays⟩ := aStrayWake_write
  cases hexec.symm.trans hexec'
  exact absurd (hwakes.symm.trans hstays) (by decide)

end Sys2Proof.Machine
end

section
/-! PROOFS. A fall of signal detect in a Lane Tile that is not ON, and what a receiver does at the end of a window (02, R26, R41, R62, R63). -/

set_option Elab.async false

namespace Sys2Proof.Machine

/-- Port 0 with both receivers converged, in a Lane Tile that is OFF, and not armed. -/
def aDarkReceiver : State := Tests.aLive.wr (GLB_TILE_STATUS.LT 0) 0

theorem aDarkReceiver_claimed : aDarkReceiver.bit (LCH_FOM.SIGDET 0) = true ∧ aDarkReceiver.claim 0 = some 0 ∧
    aDarkReceiver.trn 0 ≠ tLOOPBACK := by decide +kernel

/-- No detector runs in the tile, so SIGDET stays. -/
theorem aDarkReceiver_fall : ∃ t, exec (.signalDetectFall 0) aDarkReceiver = .next t ∧ t.rd (LCH_FOM.SIGDET 0) = 1 :=
  ⟨_, rfl, by decide +kernel⟩

/-- Refutes O15: in `aDarkReceiver` a fall of signal detect leaves SIGDET at 1. -/
theorem not_receiversDetectLockAndAdapt : ¬ Obligations.ReceiversDetectLockAndAdapt := by
  unfold Obligations.ReceiversDetectLockAndAdapt
  rintro ⟨-, hfall, -⟩
  obtain ⟨hsig, hclaim, htrn⟩ := aDarkReceiver_claimed
  obtain ⟨t, hexec, hlow, -⟩ := hfall aDarkReceiver 0 0 hsig hclaim htrn
  obtain ⟨u, hexec', hhigh⟩ := aDarkReceiver_fall
  cases hexec.symm.trans hexec'
  exact absurd (hlow.symm.trans hhigh) (by decide)

/-- The same receiver in a tile that is ON, with a value in CTLE_TRIM_OFF that is wider than the field and a FOM_MIN of 5. -/
def aWideTrimOff : State :=
  let s := Tests.aLive.wr (LCH_FOM.FOM_MIN 0) 5
  s.setRegs (s.regs.set (LCH_EQ_CTRL.CTLE_TRIM_OFF 0).key 2)

theorem aWideTrimOff_hosted : aWideTrimOff.hosted = true ∧ aWideTrimOff.tileState (tileOfHalf 0) = 2 ∧
    (aWideTrimOff.tile (tileOfHalf 0)).accesses = [] ∧ aWideTrimOff.rd (LCH_FOM.FOM_MIN 0) = 5 := by decide +kernel

/-- The bit beyond CTLE_TRIM_OFF is that of FOM_MIN_CLR. -/
theorem aWideTrimOff_freeze : ∃ t, exec (.freezeWrite 0 false) aWideTrimOff = .next t ∧ t.rd (LCH_FOM.FOM_MIN 0) = 255 :=
  ⟨_, rfl, by decide +kernel⟩

/-- Refutes O17: in `aWideTrimOff`, whose registers are not in canonical form, the write of FREEZE clears FOM_MIN too. -/
theorem not_windowsPublishTheFigureOfMerit : ¬ Obligations.WindowsPublishTheFigureOfMerit := by
  unfold Obligations.WindowsPublishTheFigureOfMerit
  rintro ⟨-, -, hfreeze, -⟩
  obtain ⟨hhosted, hon, hnone, hmin⟩ := aWideTrimOff_hosted
  obtain ⟨t, hexec, -, -, hkeeps⟩ := hfreeze aWideTrimOff 0 false hhosted hon hnone
  obtain ⟨u, hexec', hclears⟩ := aWideTrimOff_freeze
  cases hexec.symm.trans hexec'
  exact absurd (hclears.symm.trans (hkeeps.trans hmin)) (by decide)

end Sys2Proof.Machine
end

section
/-! PROOFS. A lane aligned with a marker out of skew (03, R83; 06, R190). -/

set_option Elab.async false

namespace Sys2Proof.Machine

/-- Port 0 geared in ACTIVE, two lanes wide on its Standard Side: lane 0 is in SEARCH, and lane 1 had its marker 500 ns after the
instant that lane 0 counts as 0. -/
def aSkewedLane : State :=
  (Tests.setAll Tests.aTwoLanes [(PRT_MODE.SEGMENT 1, 1), (LCH_DP_STATUS.ALIGN_STATE 0, 1), (LCH_DP_STATUS.ALIGN_STATE 2, 2),
    (LCH_FOM.LOCK 0, 1), (LCH_FOM.LOCK 2, 1)]).upH 2 (fun x => { x with arrival := some 1000 })

theorem aSkewedLane_searches : aSkewedLane.claim 0 = some 0 ∧ aSkewedLane.isSeg 0 = false ∧
    aSkewedLane.bit (LCH_FOM.LOCK 0) = true ∧ aSkewedLane.rd (LCH_DP_STATUS.ALIGN_STATE 0) = 1 := by decide +kernel

/-- The skew is a deskew failure, with it a lane fault, which restarts the receiver. -/
theorem aSkewedLane_gained : ∃ t, exec (.alignmentGained 0 0) aSkewedLane = .next t ∧ t.rd (LCH_DP_STATUS.ALIGN_STATE 0) = 0 :=
  ⟨_, rfl, by decide +kernel⟩

/-- Refutes O18: in `aSkewedLane` the lane that gains alignment is in NO_LOCK after it. -/
theorem not_alignmentFollowsTheStream : ¬ Obligations.AlignmentFollowsTheStream := by
  unfold Obligations.AlignmentFollowsTheStream
  rintro ⟨hgained, -⟩
  obtain ⟨hclaim, hstd, hlock, hsearch⟩ := aSkewedLane_searches
  obtain ⟨t, hexec, haligned⟩ := hgained aSkewedLane 0 0 0 hclaim hstd hlock hsearch
  obtain ⟨u, hexec', hlost⟩ := aSkewedLane_gained
  cases hexec.symm.trans hexec'
  exact absurd (haligned.symm.trans hlost) (by decide)

end Sys2Proof.Machine
end

section
/-! PROOFS. The end of a refusal, SKP ordered sets, elastic buffers and deskew (03, R77 to R83; 04, R114). -/

set_option Elab.async false

namespace Sys2Proof.Machine


/-! ## NONFLIT_HOLD_EXPIRY -/

/-- Where Fabric Time neither slews nor is in holdover, no register shows that time passes. -/
theorem State.advance_regs {s : State} (hslew : s.bit TIM_STATUS.SLEWING = false) (hhold : s.bit TIM_STATUS.HOLDOVER = false) (d : Nat) :
    (s.advance d).regs = s.regs := by
  unfold State.advance
  dsimp only
  generalize (if s.timeRuns then s.fabricOf d else 0) = f
  simp only [hslew, hhold, Bool.false_eq_true, false_and, if_false]
  split <;> simp [State.loadReplicas]

theorem State.advanceTo_regs {s : State} (hslew : s.bit TIM_STATUS.SLEWING = false) (hhold : s.bit TIM_STATUS.HOLDOVER = false) (e : Nat) :
    (s.advanceTo e).regs = s.regs := by
  unfold State.advanceTo
  split
  · rfl
  · exact State.advance_regs hslew hhold _

/-- A field in the blocks of the Ports and the lanes is none of those of Fabric Time. -/
theorem State.rd_advance_low (s : State) (d : Nat) {c : Cell} (hlo : c.lo < 32) (hoff : 0x100000 ≤ c.off) : (s.advance d).rd c = s.rd c := by
  have hne : ∀ x : Cell, x.off < 0x100000 → x.lo < 32 → c.key ≠ x.key := fun x hx hxl => by
    unfold Cell.key
    omega
  have hslew : ∀ (u : State), (u.off TIM_STATUS.SLEWING).rd c = u.rd c := fun u =>
    State.rd_wr_ne _ _ _ _ (hne _ (by decide) (by decide))
  have hbound : ∀ (u : State) v, (u.wr TIM_UNCERT.BOUND v).rd c = u.rd c := fun u v =>
    State.rd_wr_ne _ _ _ _ (hne _ (by decide) (by decide))
  unfold State.advance
  dsimp only
  generalize (if s.timeRuns then s.fabricOf d else 0) = f
  simp [hslew, hbound, State.loadReplicas]

theorem State.rd_advanceTo_low (s : State) (e : Nat) {c : Cell} (hlo : c.lo < 32) (hoff : 0x100000 ≤ c.off) :
    (s.advanceTo e).rd c = s.rd c := by
  unfold State.advanceTo
  split
  · rfl
  · exact State.rd_advance_low s _ hlo hoff

/-- A PATH frame that becomes due changes one Segment Side alone. -/
theorem State.pathSoon_frame (s : State) (p : Nat) :
    (s.pathSoon p).regs = s.regs ∧ (s.pathSoon p).ports = s.ports ∧ (s.pathSoon p).elapsed = s.elapsed := by
  have g : Goes fp_pathSoon s (s.pathSoon p) := Goes.pathSoon (Foot.le_refl _) (Goes.refl _ s)
  refine ⟨?_, g.part .ports (by decide), g.part .elapsed (by decide)⟩
  unfold State.pathSoon
  dsimp only
  split
  case isTrue => rw [apply_ite State.regs, State.upS_regs, ite_self]
  case isFalse => rfl

theorem exec_nonflitHoldExpiry_ends (s : State) (p : PortId) (hon : s.tileOn p = true) : ∃ t, exec (.nonflitHoldExpiry p) s = .next t ∧
    (t.portx p).nonflitHold = false ∧
    (∀ c : Cell, 0x100000 ≤ c.off → c.off < 0x220000 → c.lo < 32 → t.rd c = s.rd c) ∧
    (s.bit TIM_STATUS.SLEWING = false → s.bit TIM_STATUS.HOLDOVER = false → t.regs = s.regs) ∧
    ((s.portx p).nonflitHold = true → (s.portx p).nonflitUntil ≤ t.elapsed) := by
  by_cases hh : (s.portx p).nonflitHold = true
  · refine ⟨_, next_pos ⟨hon, hh⟩, ?_⟩
    obtain ⟨hregs, hports, helapsed⟩ := State.pathSoon_frame
      ((s.advanceTo (s.portx p).nonflitUntil).upP p (fun x => { x with nonflitHold := false })) p
    refine ⟨?_, fun c hoff _ hlo => ?_, fun hslew hhold => ?_, fun _ => ?_⟩
    · rw [State.portx, hports, ← State.portx, State.upP_portx_same]
    · rw [State.rd, hregs]
      exact State.rd_advanceTo_low s _ hlo hoff
    · rw [hregs]
      exact State.advanceTo_regs hslew hhold _
    · rw [helapsed]
      exact State.le_advanceTo_elapsed s _
  · refine ⟨s, next_neg (fun h => hh h.2), ?_, fun _ _ _ _ => rfl, fun _ _ => rfl, fun h => absurd h hh⟩
    exact Bool.eq_false_iff.mpr hh

/-! ## SKP ordered sets (R77, R79, R80) -/

/-- The adjustment of one buffer: a SKP unit above the centre deletes, a unit below it adds. -/
theorem skpChoice_one (fill slot : Nat) : skpChoice fill 1 slot =
    if centreFill slot + Config.skpUnit slot ≤ fill then 1
    else if fill + Config.skpUnit slot ≤ centreFill slot then -1 else 0 := by
  unfold skpChoice
  rw [if_neg (by decide), Nat.one_mul, Nat.one_mul, Nat.one_mul]

theorem State.rd_countSkp_del (s : State) (q : Nat) (a : Int) :
    (s.countSkp q a).rd (PRT_SKP_ADJ.DEL q) = if 0 < a then (s.rd (PRT_SKP_ADJ.DEL q) + 1) % 2 ^ 16 else s.rd (PRT_SKP_ADJ.DEL q) := by
  unfold State.countSkp
  simp [PRT_SKP_ADJ.DEL_width]

theorem State.rd_countSkp_add (s : State) (q : Nat) (a : Int) :
    (s.countSkp q a).rd (PRT_SKP_ADJ.ADD q) =
      if 0 < a then s.rd (PRT_SKP_ADJ.ADD q) else if a < 0 then (s.rd (PRT_SKP_ADJ.ADD q) + 1) % 2 ^ 16 else s.rd (PRT_SKP_ADJ.ADD q) := by
  unfold State.countSkp
  simp

/-- What the adjustment of one buffer counts as deleted. -/
theorem State.rd_countSkp_choice_del (s : State) (q fill slot : Nat) : (s.countSkp q (skpChoice fill 1 slot)).rd (PRT_SKP_ADJ.DEL q) =
    if centreFill slot + Config.skpUnit slot ≤ fill then (s.rd (PRT_SKP_ADJ.DEL q) + 1) % 2 ^ 16 else s.rd (PRT_SKP_ADJ.DEL q) := by
  rw [State.rd_countSkp_del, skpChoice_one]
  split
  · rfl
  · split <;> rfl

/-- What it counts as added. -/
theorem State.rd_countSkp_choice_add (s : State) (q fill slot : Nat) : (s.countSkp q (skpChoice fill 1 slot)).rd (PRT_SKP_ADJ.ADD q) =
    if fill < centreFill slot + Config.skpUnit slot ∧ fill + Config.skpUnit slot ≤ centreFill slot then
      (s.rd (PRT_SKP_ADJ.ADD q) + 1) % 2 ^ 16 else s.rd (PRT_SKP_ADJ.ADD q) := by
  rw [State.rd_countSkp_add, skpChoice_one]
  by_cases hdel : centreFill slot + Config.skpUnit slot ≤ fill
  · rw [if_pos hdel, if_pos (by decide), if_neg (by omega)]
  · rw [if_neg hdel]
    by_cases hadd : fill + Config.skpUnit slot ≤ centreFill slot
    · rw [if_pos hadd, if_neg (by decide), if_pos (by decide), if_pos ⟨by omega, hadd⟩]
    · rw [if_neg hadd, if_neg (by decide), if_neg (by decide), if_neg (fun h => hadd h.2)]

/-- Showing the fills of some buffers changes no count of SKP units. -/
theorem State.rd_fills (s : State) (lanes : List Nat) (f : Nat → Nat) {c : Cell}
    (hc : fieldName c.key ≠ fieldName (LCH_DP_STATUS.EB_FILL 0).key) :
    (s.each lanes (fun t h => t.wr (LCH_DP_STATUS.EB_FILL h) (f h))).rd c = s.rd c :=
  State.rd_each _ _ _ _ (fun t h _ => State.rd_wr_name t c _ _ (by simpa using hc))

theorem exec_skpAdjust_counts (s : State) (q : SideId) (h fill : Nat) (hen : s.enabled (q / 2) = true) (htt : s.isTT (q / 2) = true)
    (htrn : s.trn (q / 2) = tACTIVE) (hlane : s.negHalves q = [h]) (hlog : s.logical h = 0)
    (hfill : fill ≤ maxFill (s.rd (PRT_DP_STATUS.SLOT_NOW q))) : ∃ t, exec (.skpAdjust q [fill]) s = .next t ∧
    t.rd (PRT_SKP_ADJ.DEL q) = (if centreFill (s.rd (PRT_DP_STATUS.SLOT_NOW q)) + Config.skpUnit (s.rd (PRT_DP_STATUS.SLOT_NOW q)) ≤ fill then (s.rd (PRT_SKP_ADJ.DEL q) + 1) % 2 ^ 16 else s.rd (PRT_SKP_ADJ.DEL q)) ∧
    t.rd (PRT_SKP_ADJ.ADD q) = (if fill < centreFill (s.rd (PRT_DP_STATUS.SLOT_NOW q)) + Config.skpUnit (s.rd (PRT_DP_STATUS.SLOT_NOW q)) ∧ fill + Config.skpUnit (s.rd (PRT_DP_STATUS.SLOT_NOW q)) ≤ centreFill (s.rd (PRT_DP_STATUS.SLOT_NOW q)) then (s.rd (PRT_SKP_ADJ.ADD q) + 1) % 2 ^ 16 else s.rd (PRT_SKP_ADJ.ADD q)) := by
  refine ⟨_, next_pos ⟨hen, htt, by rw [htrn]; decide, by rw [htrn]; decide⟩, ?_⟩
  have hmin : min (maxFill (s.rd (PRT_DP_STATUS.SLOT_NOW q))) ([fill].getD (s.logical h) (centreFill (s.rd (PRT_DP_STATUS.SLOT_NOW q)))) = fill := by
    rw [hlog]
    exact min_eq_right hfill
  rw [hlane]
  simp only [List.map_cons, List.map_nil, List.sum_cons, List.sum_nil, Nat.add_zero, List.length_cons, List.length_nil, Nat.zero_add,
    hmin, State.emit_rd]
  rw [State.rd_countSkp_choice_del, State.rd_countSkp_choice_add, State.rd_fills _ _ _ (by simp), State.rd_fills _ _ _ (by simp)]
  exact ⟨rfl, rfl⟩

/-- Things sent one after another are on the outbox, and nothing else has changed. -/
theorem State.foldl_emit {α : Type} (s : State) (l : List α) (f : α → Out) :
    l.foldl (fun t r => t.emit (f r)) s = s.setOutbox ((l.map f).reverse ++ s.outbox) := by
  induction l generalizing s with
  | nil => rfl
  | cons r l ih =>
    rw [List.foldl_cons, ih, List.map_cons, List.reverse_cons, List.append_assoc]
    rfl

/-- Where time stands after a wait for an instant. -/
theorem State.advanceTo_elapsed (s : State) (e : Nat) : (s.advanceTo e).elapsed = max s.elapsed e := by
  unfold State.advanceTo
  split
  case isTrue h => exact (max_eq_left h).symm
  case isFalse h =>
    rw [State.advance_elapsed]
    omega

theorem State.advanceTo_portx (s : State) (e p : Nat) : (s.advanceTo e).portx p = s.portx p := by
  rw [State.portx, (Goes.advanceTo (Foot.le_refl _) (Goes.refl _ s)).part .ports (by decide), ← State.portx]

/-- What SKP_GENERATE leaves before the margining responses go out with it. -/
def State.skpSent (s : State) (q fill : Nat) : State :=
  let slot := s.rd (PRT_DP_STATUS.SLOT_NOW q)
  let a := skpChoice (min (maxFill slot) fill) 1 slot
  let s0 := s.advanceTo (s.portx (q / 2)).skpAt
  let s1 := s0.each ((s.negHalves q).filter (fun h => (s.half h).tx == .forward))
    (fun t h => t.wr (LCH_DP_STATUS.EB_FILL h) (min 255 (fillLeft a (min (maxFill slot) fill) slot / 8)))
  ((s1.countSkp (otherSide q) a).emit (.skp q (-a))).upP (q / 2) (fun x => { x with
    skpAt := s0.elapsed + Config.skpInterval (s.rd (PRT_DP_CTRL.CLOCKING (q / 2))) slot, marginReply := [], marginFar := none })

theorem exec_skpGenerate_sent {s : State} {q : SideId} (fill : Nat) (hen : s.enabled (q / 2) = true) (hg : s.isGeared (q / 2) = true)
    (hstd : s.isSeg q = false) (hsend : (s.negHalves q).filter (fun h => (s.half h).tx == .forward) ≠ []) :
    ∃ o, exec (.skpGenerate q fill) s = .next ((s.skpSent q fill).setOutbox o) := by
  have hexec : exec (.skpGenerate q fill) s = .next (match (s.portx (q / 2)).marginFar with
      | some bytes => ((s.portx (q / 2)).marginReply.foldl (fun t r => t.emit (.marginReply r.1 r.2)) (s.skpSent q fill)).emit (.marginFar q bytes)
      | none => (s.portx (q / 2)).marginReply.foldl (fun t r => t.emit (.marginReply r.1 r.2)) (s.skpSent q fill)) :=
    next_pos ⟨hen, hg, by simp [hstd], by simp [hsend]⟩
  rw [hexec, State.foldl_emit]
  split <;> exact ⟨_, rfl⟩

theorem exec_skpGenerate_counts (s : State) (q : SideId) (h fill : Nat) (hen : s.enabled (q / 2) = true) (hg : s.isGeared (q / 2) = true)
    (hstd : s.isSeg q = false) (hmem : h ∈ s.negHalves q) (htx : (s.half h).tx = .forward)
    (hfill : fill ≤ maxFill (s.rd (PRT_DP_STATUS.SLOT_NOW q))) : ∃ t, exec (.skpGenerate q fill) s = .next t ∧
    t.rd (PRT_SKP_ADJ.DEL (otherSide q)) = (if centreFill (s.rd (PRT_DP_STATUS.SLOT_NOW q)) + Config.skpUnit (s.rd (PRT_DP_STATUS.SLOT_NOW q)) ≤ fill then (s.rd (PRT_SKP_ADJ.DEL (otherSide q)) + 1) % 2 ^ 16 else s.rd (PRT_SKP_ADJ.DEL (otherSide q))) ∧
    (t.portx (q / 2)).marginReply = [] ∧
    (t.portx (q / 2)).skpAt = max s.elapsed (s.portx (q / 2)).skpAt + Config.skpInterval (s.rd (PRT_DP_CTRL.CLOCKING (q / 2))) (s.rd (PRT_DP_STATUS.SLOT_NOW q)) := by
  have hsend : (s.negHalves q).filter (fun h => (s.half h).tx == .forward) ≠ [] :=
    List.ne_nil_of_mem (List.mem_filter.mpr ⟨hmem, by simp [htx]⟩)
  obtain ⟨o, hexec⟩ := exec_skpGenerate_sent fill hen hg hstd hsend
  refine ⟨_, hexec, ?_, ?_, ?_⟩
  · unfold State.skpSent
    dsimp only
    rw [min_eq_right hfill, State.setOutbox_rd, State.upP_rd, State.emit_rd, State.rd_countSkp_choice_del,
      State.rd_fills _ _ _ (by simp), State.rd_advanceTo _ _ _ (by rw [fieldName_PRT_SKP_ADJ_DEL]; decide)]
  · simp [State.skpSent]
  · simp [State.skpSent, State.advanceTo_elapsed]

/-! ## Slips and failures to deskew (R78, R83) -/

theorem bitAt_or_pow (v : Nat) {n k w : Nat} (hk : n < w) (h : n = k) : bitAt ((v ||| 2 ^ n) % 2 ^ w) k = true := by
  subst h
  have ht : ((v ||| 2 ^ n) % 2 ^ w).testBit n = true := by
    rw [Nat.testBit_mod_two_pow, Nat.testBit_or, Nat.testBit_two_pow_self]
    simp [hk]
  rw [Nat.testBit_eq_decide_div_mod_eq, decide_eq_true_eq] at ht
  simp [bitAt, ht]

/-- A data-path event is shown in ERR_DP_STATUS, masked or not (R449). -/
theorem State.recordDp_shown (s : State) {code : Nat} (port : Option Nat) (b16 : Nat) (hc : code - 1 < 18) :
    bitAt ((s.recordDp code port b16).rd ERR_DP_STATUS.CODES) (code - 1) = true := by
  have hrd : (s.recordDp code port b16).rd ERR_DP_STATUS.CODES = (s.rd ERR_DP_STATUS.CODES ||| 2 ^ (code - 1)) % 2 ^ 18 := by
    unfold State.recordDp
    dsimp only
    cases port <;> (simp only [State.rd_ite]; split <;> split <;> simp)
  rw [hrd]
  exact bitAt_or_pow _ hc rfl

theorem State.raiseFor_shown (s : State) {code : Nat} (port : Option Nat) (ports : List Nat) (b16 b17 b18 : Nat) (hc : code - 1 < 18) :
    bitAt ((s.raiseFor code port ports b16 b17 b18).rd ERR_DP_STATUS.CODES) (code - 1) = true := by
  unfold State.raiseFor
  dsimp only
  split
  · exact s.recordDp_shown port b16 hc
  · rw [State.setEvq_rd, State.rd_alert _ _ _ (by rw [fieldName_ERR_DP_STATUS_CODES]; decide)]
    exact s.recordDp_shown port b16 hc

theorem State.raise_shown (s : State) {code : Nat} (p b16 b17 b18 : Nat) (hc : code - 1 < 18) :
    bitAt ((s.raise code p b16 b17 b18).rd ERR_DP_STATUS.CODES) (code - 1) = true := s.raiseFor_shown _ _ _ _ _ hc

theorem State.raiseDev_shown (s : State) {code : Nat} (b16 b17 b18 : Nat) (hc : code - 1 < 18) :
    bitAt ((s.raiseDev code b16 b17 b18).rd ERR_DP_STATUS.CODES) (code - 1) = true := s.raiseFor_shown _ _ _ _ _ hc

theorem centreFill_le (slot : Nat) : centreFill slot ≤ 320 := by
  unfold centreFill
  rcases Nat.lt_or_ge slot 7 with h | h
  · interval_cases slot <;> decide
  · rw [List.getD_eq_default _ _ h]
    decide

theorem exec_ebSlip_slips (s : State) (h : HalfId) (q : Nat) (hclaim : s.claim h = some q) (hstd : s.isSeg q = false)
    (hon : s.tileOn (q / 2) = true) :
    ∃ t, exec (.ebSlip h) s = .next t ∧ t.rd (PRT_DP_STATUS.EB_SLIP (q / 2)) = 1 ∧
    t.rd (PRT_DP_STATUS.EB_SLIP_CNT (q / 2)) = satInc 8 (s.rd (PRT_DP_STATUS.EB_SLIP_CNT (q / 2))) ∧
    t.rd (LCH_DP_STATUS.EB_FILL h) = centreFill (s.rd (PRT_DP_STATUS.SLOT_NOW q)) / 8 ∧
    bitAt (t.rd ERR_DP_STATUS.CODES) 2 = true := by
  have hexec : exec (.ebSlip h) s = .next ((((s.wr (LCH_DP_STATUS.EB_FILL h) (centreFill (s.rd (PRT_DP_STATUS.SLOT_NOW q)) / 8)).on
      (PRT_DP_STATUS.EB_SLIP (q / 2))).satUp (PRT_DP_STATUS.EB_SLIP_CNT (q / 2))).raise 0x03 (q / 2) (h / 2) (h % 2) 0) := by
    simp [exec_ebSlip_runs, execEbSlip, hclaim, hstd, hon]
  have hfill := centreFill_le (s.rd (PRT_DP_STATUS.SLOT_NOW q))
  have hsat : satInc 8 (s.rd (PRT_DP_STATUS.EB_SLIP_CNT (q / 2))) < 2 ^ 8 := by unfold satInc; omega
  refine ⟨_, hexec, ?_, ?_, ?_, State.raise_shown _ _ _ _ _ (by decide)⟩
  · simp +decide
  · simpa +decide using hsat
  · simp +decide
    omega

theorem exec_deskewFail_shown (s : State) (q : SideId) (hen : s.enabled (q / 2) = true) (htt : s.isTT (q / 2) = false)
    (hon : s.tileOn (q / 2) = true) :
    ∃ t, exec (.deskewFail q none) s = .next t ∧ t.rd (PRT_DP_STATUS.DESKEW_FAIL (q / 2)) = 1 ∧
    bitAt (t.rd ERR_DP_STATUS.CODES) 3 = true := by
  refine ⟨_, next_neg (by simp [hen, htt, hon]), ?_⟩
  have heach : ∀ (u : State) (c : Cell), (u.each (s.members q) (fun t h => t.upH h (fun x => { x with arrival := none }))).rd c = u.rd c :=
    fun u c => State.rd_each u c _ _ (fun _ _ _ => rfl)
  simp only [Option.map_none, State.deskewFailed, State.rd_noted, heach]
  exact ⟨by simp +decide, State.raise_shown _ _ _ _ _ (by decide)⟩

/-- Settles O19. -/
theorem buffersSkpAndDeskew : Obligations.BuffersSkpAndDeskew := by
  unfold Obligations.BuffersSkpAndDeskew
  exact ⟨exec_nonflitHoldExpiry_ends, exec_skpAdjust_counts, exec_skpGenerate_counts, exec_ebSlip_slips, exec_deskewFail_shown⟩

end Sys2Proof.Machine
end

section
/-! PROOFS. What an operation that spares the port map leaves of it: the claims, sides and half-lanes of a Port (01). -/

set_option Elab.async false

namespace Sys2Proof.Machine

/-- The names of the fields that make the port map: PRT_MODE and LCH_ASSIGN. -/
def portMap : List Nat := (PRT_MODE.fields 0 ++ LCH_ASSIGN.fields 0).map (fun f => f.cell.key)

/-- Whether a footprint spares the port map. -/
def Foot.sparesMap (F : Foot) : Bool := portMap.all F.misses

/-- Two states have one port map. -/
structure SameMap (s t : State) : Prop where
  rd : ∀ c : Cell, fieldName c.key ∈ portMap → t.rd c = s.rd c

theorem SameMap.refl (s : State) : SameMap s s := ⟨fun _ _ => rfl⟩

theorem SameMap.trans {s t u : State} (h : SameMap s t) (k : SameMap t u) : SameMap s u :=
  ⟨fun c hc => (k.rd c hc).trans (h.rd c hc)⟩

theorem Goes.sameMap {F : Foot} {s t : State} (g : Goes F s t) (h : F.sparesMap = true) : SameMap s t :=
  ⟨fun _ hc => g.rd_misses (List.all_eq_true.mp h _ hc)⟩

/-- A change beside the registers leaves the map. -/
theorem SameMap.of_regs {s t : State} (h : t.regs = s.regs) : SameMap s t := ⟨fun c _ => by rw [State.rd, h, State.rd]⟩

theorem SameMap.wr (s : State) (c : Cell) (v : Nat) (h : fieldName c.key ∉ portMap) : SameMap s (s.wr c v) :=
  ⟨fun d hd => State.rd_wr_name s d c v (fun e => h (e ▸ hd))⟩

section
variable {s t : State} (h : SameMap s t)
include h

theorem SameMap.bit {c : Cell} (hc : fieldName c.key ∈ portMap) : t.bit c = s.bit c := by
  rw [State.bit, h.rd c hc, State.bit]

theorem SameMap.enabled (p : Nat) : t.enabled p = s.enabled p := by
  rw [State.enabled, h.bit (by simp +decide), State.enabled]

theorem SameMap.tileOf (p : Nat) : t.tileOf p = s.tileOf p := h.rd _ (by simp +decide)

theorem SameMap.isSeg (q : Nat) : t.isSeg q = s.isSeg q := h.bit (by unfold PRT_MODE.SEGMENT; split <;> simp +decide)

theorem SameMap.width (q : Nat) : t.width q = s.width q := h.rd _ (by unfold PRT_MODE.WIDTH; split <;> simp +decide)

theorem SameMap.spares (q : Nat) : t.spares q = s.spares q := h.rd _ (by unfold PRT_MODE.SPARES; split <;> simp +decide)

theorem SameMap.isTT (p : Nat) : t.isTT p = s.isTT p := by simp only [State.isTT, h.isSeg]

theorem SameMap.isSS (p : Nat) : t.isSS p = s.isSS p := by simp only [State.isSS, h.isSeg]

theorem SameMap.isGeared (p : Nat) : t.isGeared p = s.isGeared p := by simp only [State.isGeared, h.isSeg]

theorem SameMap.logical (n : Nat) : t.logical n = s.logical n := h.rd _ (by unfold LCH_ASSIGN.LOGICAL; split <;> simp +decide)

theorem SameMap.claim (n : Nat) : t.claim n = s.claim n := by
  have hport : t.rd (LCH_ASSIGN.PORT n) = s.rd (LCH_ASSIGN.PORT n) := h.rd _ (by unfold LCH_ASSIGN.PORT; split <;> simp +decide)
  have hvalid : t.bit (LCH_ASSIGN.VALID n) = s.bit (LCH_ASSIGN.VALID n) := h.bit (by unfold LCH_ASSIGN.VALID; split <;> simp +decide)
  simp only [State.claim, hport, hvalid, h.enabled]

theorem SameMap.members (q : Nat) : t.members q = s.members q := by simp only [State.members, h.tileOf, h.claim]

theorem SameMap.halfAt (q l : Nat) : t.halfAt q l = s.halfAt q l := by simp only [State.halfAt, h.members, h.logical]

theorem SameMap.dataHalves (q : Nat) : t.dataHalves q = s.dataHalves q := by
  have hf : t.halfAt q = s.halfAt q := funext (h.halfAt q)
  rw [State.dataHalves, h.width, hf, State.dataHalves]

theorem SameMap.allHalves (q : Nat) : t.allHalves q = s.allHalves q := by
  have hf : t.halfAt q = s.halfAt q := funext (h.halfAt q)
  rw [State.allHalves, h.width, h.spares, hf, State.allHalves]

theorem SameMap.stdSides (p : Nat) : t.stdSides p = s.stdSides p := by simp only [State.stdSides, h.isSeg]

theorem SameMap.segSides (p : Nat) : t.segSides p = s.segSides p := by
  have hf : t.isSeg = s.isSeg := funext h.isSeg
  rw [State.segSides, hf, State.segSides]

theorem SameMap.stdHalves (p : Nat) : t.stdHalves p = s.stdHalves p := by
  have hf : t.dataHalves = s.dataHalves := funext h.dataHalves
  rw [State.stdHalves, h.stdSides, hf, State.stdHalves]

theorem SameMap.across (n : Nat) : t.across n = s.across n := by simp only [State.across, h.claim, h.halfAt, h.logical]

end

/-! ## Sides and their parity -/

/-- The side that claims a half-lane is of an enabled Port. -/
theorem State.claim_enabled {s : State} {h q : Nat} (hc : s.claim h = some q) : s.enabled (q / 2) = true ∧ q % 2 = h % 2 := by
  unfold State.claim at hc
  split at hc
  case isTrue hv =>
    obtain ⟨-, hen⟩ := Bool.and_eq_true_iff.mp hv
    have hq : 2 * s.rd (LCH_ASSIGN.PORT h) + h % 2 = q := Option.some.inj hc
    rw [← hq, show (2 * s.rd (LCH_ASSIGN.PORT h) + h % 2) / 2 = s.rd (LCH_ASSIGN.PORT h) by omega]
    exact ⟨hen, by omega⟩
  case isFalse => cases hc

/-- A side is one of the two of its Port. -/
theorem side_mem_sidesOf (q : Nat) : q ∈ sidesOf (q / 2) := by
  unfold sidesOf
  simp
  omega

theorem State.mem_stdSides {s : State} {q : Nat} (h : s.isSeg q = false) : q ∈ s.stdSides (q / 2) :=
  List.mem_filter.mpr ⟨side_mem_sidesOf q, by simp [h]⟩

/-- Neither side of a TT Port is a Segment Side. -/
theorem State.isSeg_of_isTT {s : State} {q : Nat} (h : s.isTT (q / 2) = true) : s.isSeg q = false := by
  obtain ⟨ha, hb⟩ := Bool.and_eq_true_iff.mp h
  rcases Nat.mod_two_eq_zero_or_one q with hq | hq
  · rw [show q = 2 * (q / 2) by omega]
    simpa using ha
  · rw [show q = 2 * (q / 2) + 1 by omega]
    simpa using hb

end Sys2Proof.Machine
end

section
/-! PROOFS. What a training set received does to a Port, and the acknowledgement of a preset (04, R99, R100, R109). -/

set_option Elab.async false

namespace Sys2Proof.Machine

@[simp] theorem State.noteSet_outbox (s : State) (q : Nat) (h : Nat) (ts : TrainingSet) : (s.noteSet q h ts).outbox = s.outbox :=
  (Goes.noteSet (Foot.le_refl _) (Goes.refl _ s)).part .outbox (by decide)
@[simp] theorem State.eqSet_outbox (s : State) (q : Nat) (h : Nat) (ts : TrainingSet) : (s.eqSet q h ts).outbox = s.outbox :=
  (Goes.eqSet (Foot.le_refl _) (Goes.refl _ s)).part .outbox (by decide)
@[simp] theorem State.noteSubstate_halves (s : State) (q : Nat) (h : Nat) (ts : TrainingSet) : (s.noteSubstate q h ts).halves = s.halves :=
  (Goes.noteSubstate (Foot.le_refl _) (Goes.refl _ s)).part .halves (by decide)
@[simp] theorem State.noteUp_halves (s : State) (q : Nat) (ts : TrainingSet) (first : Bool) : (s.noteUp q ts first).halves = s.halves :=
  (Goes.noteUp (Foot.le_refl _) (Goes.refl _ s)).part .halves (by decide)
@[simp] theorem State.noteLane_halves (s : State) (q : Nat) (h : Nat) (ts : TrainingSet) (geared : Bool) : (s.noteLane q h ts geared).halves = s.halves :=
  (Goes.noteLane (Foot.le_refl _) (Goes.refl _ s)).part .halves (by decide)

/-! ## The training state -/

/-- A training state entered is shown. -/
theorem State.setTrn_trn (s : State) (p v : Nat) : (s.setTrn p v).trn p = v % 16 := by
  unfold State.setTrn State.trn
  dsimp only
  have heach : ∀ (u : State) (xs : List Nat), (u.each xs (fun t h =>
      (t.rxLeaves h).upH h (fun x => { x with margin := none, marginWait := none }))).rd (PRT_TRN_STATUS.STATE p) =
      u.rd (PRT_TRN_STATUS.STATE p) := fun u xs => State.rd_each u _ xs _ (fun t h _ => by simp +decide)
  simp +decide [heach]

/-- What the content of a set says of the link leaves the training state. -/
theorem State.noteSet_trn (s : State) (q h p : Nat) (ts : TrainingSet) : (s.noteSet q h ts).trn p = s.trn p :=
  State.rd_noteSet s _ q h ts (by rw [fieldName_PRT_TRN_STATUS_STATE]; decide)

theorem State.trn_eqSet (s : State) (q h p : Nat) (ts : TrainingSet) : (s.eqSet q h ts).trn p = s.trn p :=
  State.rd_eqSet s _ q h ts (by rw [fieldName_PRT_TRN_STATUS_STATE]; decide)

theorem State.trn_forwardSet (s : State) (q h p : Nat) (ts : TrainingSet) : (s.forwardSet q h ts).trn p = s.trn p :=
  State.rd_forwardSet s _ q h ts (by rw [fieldName_PRT_TRN_STATUS_STATE]; decide)

/-- A training set that a Standard Side in FORWARD takes. -/
theorem exec_trainingSetReceived_forward {s : State} {h : HalfId} {q : Nat} (ts : TrainingSet) (hclaim : s.claim h = some q)
    (hstd : s.isSeg q = false) (hal : 2 ≤ s.rd (LCH_DP_STATUS.ALIGN_STATE h)) (htrn : s.trn (q / 2) = tFORWARD) :
    exec (.trainingSetReceived h ts) s =
      .next (((((s.noteSet q h ts).stateSet (q / 2) ts).eqSet q h ts).forwardSet q h ts).noted s (q / 2)) := by
  have hgo : ¬(s.isSeg q = true ∨ s.rd (LCH_DP_STATUS.ALIGN_STATE h) < 2 ∨ s.trn (q / 2) < tFORWARD ∨
      s.trn (q / 2) = tLOWPOWER ∨ s.trn (q / 2) = tHOLD) := by
    rw [htrn, hstd]
    simp [tFORWARD, tLOWPOWER, tHOLD]
    omega
  simp only [exec_trainingSetReceived_runs, execTrainingSetReceived, hclaim, if_neg hgo]

theorem State.trn_noted (s old : State) (p k : Nat) : (s.noted old p).trn k = s.trn k := State.rd_noted s _ old p

/-- A Hot Reset request moves a Port from FORWARD to HOT_RESET. -/
theorem State.stateSet_hotReset {s : State} {p : Nat} {ts : TrainingSet} (htrn : s.trn p = tFORWARD) (h1 : ts.ts2 = false)
    (hhot : ts.hotReset = true) : (s.stateSet p ts).trn p = tHOTRESET := by
  have hset : s.stateSet p ts = s.setTrn p tHOTRESET := by
    simp [State.stateSet, htrn, h1, hhot, tFORWARD, tACTIVE, tHOTRESET, tDISABLED, tLOOPBACK, tEQ]
  rw [hset, State.setTrn_trn]
  rfl

/-- A Disable request moves it to DISABLED. -/
theorem State.stateSet_disable {s : State} {p : Nat} {ts : TrainingSet} (htrn : s.trn p = tFORWARD) (h1 : ts.ts2 = false)
    (hhot : ts.hotReset = false) (hdis : ts.disable = true) : (s.stateSet p ts).trn p = tDISABLED := by
  have hset : s.stateSet p ts = s.setTrn p tDISABLED := by
    simp [State.stateSet, htrn, h1, hhot, hdis, tFORWARD, tACTIVE, tHOTRESET, tDISABLED, tLOOPBACK, tEQ]
  rw [hset, State.setTrn_trn]
  rfl

/-- A TS2 of Recovery.RcvrCfg changes no training state. -/
theorem State.stateSet_ts2 {s : State} {p : Nat} {ts : TrainingSet} (htrn : s.trn p = tFORWARD) (h2 : ts.ts2 = true)
    (hsub : ts.substate = .recoveryRcvrCfg) : s.stateSet p ts = s := by
  simp [State.stateSet, htrn, h2, hsub, tFORWARD, tACTIVE, tHOTRESET, tDISABLED, tLOOPBACK, tEQ]

theorem exec_trainingSetReceived_hotReset (s : State) (h : HalfId) (q : Nat) (ts : TrainingSet) (hclaim : s.claim h = some q)
    (hstd : s.isSeg q = false) (hal : 2 ≤ s.rd (LCH_DP_STATUS.ALIGN_STATE h)) (htrn : s.trn (q / 2) = tFORWARD)
    (h1 : ts.ts2 = false) (hhot : ts.hotReset = true) :
    ∃ t, exec (.trainingSetReceived h ts) s = .next t ∧ t.rd (PRT_TRN_STATUS.STATE (q / 2)) = tHOTRESET := by
  refine ⟨_, exec_trainingSetReceived_forward ts hclaim hstd hal htrn, ?_⟩
  rw [← State.trn, State.trn_noted, State.trn_forwardSet, State.trn_eqSet]
  exact State.stateSet_hotReset ((State.noteSet_trn s q h _ ts).trans htrn) h1 hhot

theorem exec_trainingSetReceived_disable (s : State) (h : HalfId) (q : Nat) (ts : TrainingSet) (hclaim : s.claim h = some q)
    (hstd : s.isSeg q = false) (hal : 2 ≤ s.rd (LCH_DP_STATUS.ALIGN_STATE h)) (htrn : s.trn (q / 2) = tFORWARD)
    (h1 : ts.ts2 = false) (hhot : ts.hotReset = false) (hdis : ts.disable = true) :
    ∃ t, exec (.trainingSetReceived h ts) s = .next t ∧ t.rd (PRT_TRN_STATUS.STATE (q / 2)) = tDISABLED := by
  refine ⟨_, exec_trainingSetReceived_forward ts hclaim hstd hal htrn, ?_⟩
  rw [← State.trn, State.trn_noted, State.trn_forwardSet, State.trn_eqSet]
  exact State.stateSet_disable ((State.noteSet_trn s q h _ ts).trans htrn) h1 hhot hdis

/-! ## A set sent on (R99) -/

/-- A set made anew has the content given. -/
theorem TrainingSet.remade_content (new old : TrainingSet) :
    (TrainingSet.remade new old).link = new.link ∧ (TrainingSet.remade new old).lane = new.lane ∧
    (TrainingSet.remade new old).shb = new.shb ∧ (TrainingSet.remade new old).retimerPresent = new.retimerPresent := by
  unfold TrainingSet.remade
  split
  case isTrue h => rw [h]; exact ⟨rfl, rfl, rfl, rfl⟩
  case isFalse => exact ⟨rfl, rfl, rfl, rfl⟩

/-- What a TS2 sent on says of link, lane, bypass and retimer. -/
theorem State.sentSet_content (s : State) (q h d a : Nat) {ts : TrainingSet} (h2 : ts.ts2 = true) :
    let u := s.sentSet d a (s.enteredSet q h ts)
    u.link = ts.link ∧ u.lane = ts.lane ∧ u.shb = false ∧ u.retimerPresent = true := by
  dsimp only
  unfold State.sentSet
  obtain ⟨hlink, hlane, hshb, hret⟩ := TrainingSet.remade_content
    { s.enteredSet q h ts with
      rates := (s.enteredSet q h ts).rates % 2 ^ (s.slotLimit d + 1)
      preset := if s.actsNow d && !(s.enteredSet q h ts).ts2 then (s.half a).txPreset else (s.enteredSet q h ts).preset
      coefs := if s.actsNow d && !(s.enteredSet q h ts).ts2 then (s.half a).txCoef.magnitudes else (s.enteredSet q h ts).coefs
      fs := if s.actsNow d && !(s.enteredSet q h ts).ts2 then 63 else (s.enteredSet q h ts).fs
      lf := if s.actsNow d && !(s.enteredSet q h ts).ts2 then 21 else (s.enteredSet q h ts).lf
      request := if s.actsNow d && !(s.enteredSet q h ts).ts2 then (s.half a).eval.bind (fun e => e.cur.map EqRequest.preset)
        else (s.enteredSet q h ts).request
      reject := if s.actsNow d && !(s.enteredSet q h ts).ts2 then (s.half a).rejected else (s.enteredSet q h ts).reject
      precode := entryPrecode (s.half a).entry (s.rd (LCH_FOM.RATE_SLOT a)) } (s.enteredSet q h ts)
  rw [hlink, hlane, hshb, hret]
  unfold State.enteredSet
  dsimp only
  obtain ⟨elink, elane, eshb, eret⟩ := TrainingSet.remade_content
    { ts with
      inverted := false
      rates := ts.rates % 2 ^ (s.slotLimit q + 1)
      nFts := max ts.nFts (minNfts (s.rd (LCH_FOM.RATE_SLOT h)))
      twoRetimers := if ts.ts2 then ts.twoRetimers || ts.retimerPresent else ts.twoRetimers
      retimerPresent := ts.retimerPresent || ts.ts2
      shb := false } { ts with inverted := false }
  rw [elink, elane, eshb, eret]
  simp [h2]

/-- On a TT Port the transmitter that answers sends the set on. -/
theorem State.forwardSet_sent {s : State} {q h a : Nat} {ts : TrainingSet} (htt : s.isTT (q / 2) = true) (hacross : s.across h = some a)
    (htx : (s.half a).tx = .forward) (htrn : s.trn (q / 2) = tFORWARD) (hsub : ts.substate = .recoveryRcvrCfg) :
    s.forwardSet q h ts = s.emit (.trainingSet a (s.sentSet (otherSide q) a (s.enteredSet q h ts))) := by
  simp [State.forwardSet, htt, hacross, htx, htrn, hsub, tFORWARD, tLOOPBACK]

/-- What a set says of the link, but for the width, changes no half-lane. -/
theorem State.noteSet_half {s : State} {q h : Nat} {ts : TrainingSet} (hw : ts.width = none) (a : Nat) :
    (s.noteSet q h ts).half a = s.half a := by
  simp only [State.half, State.noteSet, hw, State.noteLane_halves, State.noteUp_halves, State.noteSubstate_halves]

/-- A change of a half-lane that leaves one thing that it holds. -/
theorem State.upH_half_proj {α : Type} (g : Half → α) (s : State) (h : Nat) {f : Half → Half} (hf : ∀ x, g (f x) = g x) (a : Nat) :
    g ((s.upH h f).half a) = g (s.half a) := by
  by_cases ha : a = h
  · rw [ha, State.upH_half_same, hf]
  · rw [State.upH_half_ne _ _ ha]

/-- Outside EQ a set leaves the transmitters as they are. -/
theorem State.eqSet_tx {s : State} {q h : Nat} {ts : TrainingSet} (htrn : s.trn (q / 2) = tFORWARD) (a : Nat) :
    ((s.eqSet q h ts).half a).tx = (s.half a).tx := by
  have hne : s.trn (q / 2) ≠ tEQ := by rw [htrn]; decide
  have hcode : ((s.upH h (fun x => { x with txPrecode := ts.precode })).half a).tx = (s.half a).tx := 
    State.upH_half_proj Half.tx s h (by intro; rfl) a
  have hset : ∀ b n, (((s.upH h (fun x => { x with txPrecode := ts.precode })).upH b (fun x => { x with fwdPreset := some n })).half a).tx =
      (s.half a).tx := fun b n => (State.upH_half_proj Half.tx _ b (by intro; rfl) a).trans hcode
  simp only [State.eqSet, hne, false_and, if_false]
  cases ts.preset with
  | none => cases ts.request <;> exact hcode
  | some n =>
    simp only
    cases hr : ts.request <;> simp only <;>
    · split
      · split
        · exact hset _ n
        · exact hcode
      · exact hcode

theorem State.sameMap_noteSet (s : State) (q h : Nat) (ts : TrainingSet) : SameMap s (s.noteSet q h ts) :=
  Goes.sameMap (Goes.noteSet (Foot.le_refl _) (Goes.refl _ s)) (by decide +kernel)

theorem State.sameMap_eqSet (s : State) (q h : Nat) (ts : TrainingSet) : SameMap s (s.eqSet q h ts) :=
  Goes.sameMap (Goes.eqSet (Foot.le_refl _) (Goes.refl _ s)) (by decide +kernel)

theorem State.noted_outbox (s old : State) (p : Nat) : (s.noted old p).outbox = s.outbox :=
  (Goes.noted (Foot.le_refl _) (Goes.refl _ s)).part .outbox (by decide)

theorem exec_trainingSetReceived_sent (s : State) (h : HalfId) (q a : Nat) (ts : TrainingSet) (hclaim : s.claim h = some q)
    (htt : s.isTT (q / 2) = true) (hal : 2 ≤ s.rd (LCH_DP_STATUS.ALIGN_STATE h)) (htrn : s.trn (q / 2) = tFORWARD)
    (h2 : ts.ts2 = true) (hsub : ts.substate = .recoveryRcvrCfg) (hw : ts.width = none) (hacross : s.across h = some a)
    (htx : (s.half a).tx = .forward) : ∃ t, exec (.trainingSetReceived h ts) s = .next t ∧ t.outbox.tail = s.outbox ∧
    t.outbox.head?.map (fun o => match o with | .trainingSet b u => (b, u.link, u.lane, u.shb, u.retimerPresent) | _ => (0, none, none, true, false)) = some (a, ts.link, ts.lane, false, true) := by
  have htrn1 : (s.noteSet q h ts).trn (q / 2) = tFORWARD := (State.noteSet_trn s q h _ ts).trans htrn
  have hmap := (s.sameMap_noteSet q h ts).trans ((s.noteSet q h ts).sameMap_eqSet q h ts)
  have htx2 : (((s.noteSet q h ts).eqSet q h ts).half a).tx = .forward := by
    rw [State.eqSet_tx htrn1, State.noteSet_half hw, htx]
  refine ⟨_, exec_trainingSetReceived_forward ts hclaim (State.isSeg_of_isTT htt) hal htrn, ?_⟩
  rw [State.noted_outbox, State.stateSet_ts2 htrn1 h2 hsub, State.forwardSet_sent ((hmap.isTT _).trans htt)
    ((hmap.across _).trans hacross) htx2 ((State.trn_eqSet _ q h _ ts).trans htrn1) hsub]
  obtain ⟨hlink, hlane, hshb, hret⟩ := ((s.noteSet q h ts).eqSet q h ts).sentSet_content q h (otherSide q) a h2
  refine ⟨by simp [State.emit], ?_⟩
  simp only [State.emit, List.head?_cons, Option.map_some, hlink, hlane, hshb, hret]

/-! ## The acknowledgement of a preset (R109) -/

/-- A half-lane as an alignment state entered leaves it. -/
def Half.aligned (v : Nat) (x : Half) : Half :=
  { x with
    tsSyms := if v = 2 then x.tsSyms else []
    inFlits := x.inFlits && v == 3
    arrival := if v ≤ 1 then none else x.arrival }

theorem State.setAlign_half (s : State) (h v a : Nat) : (s.setAlign h v).half a = (s.upH h (Half.aligned v)).half a := by
  unfold State.setAlign
  dsimp only
  split <;> rfl

@[simp] theorem State.setAlign_half_same (s : State) (h v : Nat) : (s.setAlign h v).half h = (s.half h).aligned v := by
  rw [State.setAlign_half, State.upH_half_same]

theorem State.setAlign_half_ne (s : State) {h a : Nat} (v : Nat) (ha : a ≠ h) : (s.setAlign h v).half a = s.half a := by
  rw [State.setAlign_half, State.upH_half_ne _ _ ha]

@[simp] theorem State.setAlign_alignState (s : State) (h v : Nat) : (s.setAlign h v).rd (LCH_DP_STATUS.ALIGN_STATE h) = v % 16 := by
  unfold State.setAlign
  dsimp only
  split
  · rw [State.rd_wr_name _ _ _ _ (by unfold PRT_DP_STATUS.ALIGN; split <;> simp +decide)]
    simp
  · simp

/-- A half-lane whose receiver is held in IDLE. -/
def Half.idled (x : Half) : Half :=
  { Half.aligned 0 { x with tgtRun := 0, discard := false, lastFoms := [], badInWindow := false, limits := none } with
    trim := none, forwarding := false }

@[simp] theorem State.rxIdle_half_same (s : State) (h : Nat) : (s.rxIdle h).half h = (s.half h).idled := by
  simp [State.rxIdle, State.noFom, Half.idled]

theorem State.rxIdle_half_ne (s : State) {h a : Nat} (ha : a ≠ h) : (s.rxIdle h).half a = s.half a := by
  simp [State.rxIdle, State.noFom, State.upH_half_ne _ _ ha, State.setAlign_half_ne _ _ ha]

/-- The receiver is in IDLE, without LOCK, alignment or a valid FoM. -/
@[simp] theorem State.rxIdle_adaptState (s : State) (h : Nat) : (s.rxIdle h).rd (LCH_FOM.ADAPT_STATE h) = 0 := by
  simp +decide [State.rxIdle, State.noFom]

@[simp] theorem State.requestRx_half_same (s : State) (h : Nat) (warm : Bool) :
    (s.requestRx h warm).half h = { (s.half h).idled with wantRx := true, warmLeft := if warm then 2 else 0 } := by
  simp [State.requestRx]

theorem State.requestRx_half_ne (s : State) {h a : Nat} (warm : Bool) (ha : a ≠ h) : (s.requestRx h warm).half a = s.half a := by
  rw [State.requestRx, State.upH_half_ne _ _ ha, State.rxIdle_half_ne s ha]

@[simp] theorem State.requestRx_adaptState (s : State) (h : Nat) (warm : Bool) : (s.requestRx h warm).rd (LCH_FOM.ADAPT_STATE h) = 0 := by
  rw [State.requestRx, State.upH_rd, State.rxIdle_adaptState]

theorem exec_eqPresetAck_restarts (s : State) (h : HalfId) (ev : Eval) (c : Nat) (hev : (s.half h).eval = some ev)
    (hc : ev.cur = some c) (hack : ev.acked = false) (hdone : ev.done = false) :
    ∃ t, exec (.eqPresetAck h) s = .next t ∧ (t.half h).eval = some { ev with acked := true } ∧
    (t.half h).peerPreset = c ∧ (t.half h).wantRx = true ∧ t.rd (LCH_FOM.ADAPT_STATE h) = 0 := by
  have hexec : exec (.eqPresetAck h) s =
      .next ((s.upH h (fun x => { x with eval := some { ev with acked := true }, peerPreset := c })).requestRx h true) := by
    simp [exec_eqPresetAck_runs, execEqPresetAck, hev, hc, hack, hdone]
  exact ⟨_, hexec, by simp [Half.idled, Half.aligned]⟩

/-- Settles O20. -/
theorem trainingSetsMoveThePort : Obligations.TrainingSetsMoveThePort := by
  unfold Obligations.TrainingSetsMoveThePort
  exact ⟨exec_trainingSetReceived_hotReset, exec_trainingSetReceived_disable, exec_trainingSetReceived_sent, exec_eqPresetAck_restarts⟩

end Sys2Proof.Machine
end

section
/-! PROOFS. How Standard Sides enter DETECT (04, R100, R101, R104 to R106). -/

set_option Elab.async false

namespace Sys2Proof.Machine

@[simp] theorem State.pathSoon_halves (s : State) (p : Nat) : (s.pathSoon p).halves = s.halves :=
  (Goes.pathSoon (Foot.le_refl _) (Goes.refl _ s)).part .halves (by decide)
@[simp] theorem State.pathSoon_half (s : State) (p : Nat) (h' : Nat) : (s.pathSoon p).half h' = s.half h' := by
  rw [State.half, State.pathSoon_halves, ← State.half]

/-! ## Loops over half-lanes -/

/-- What one turn of a loop makes true, and no turn undoes, is true after the loop. -/
theorem State.each_establishes {P : State → Prop} {s : State} {xs : List Nat} {f : State → Nat → State} {x : Nat} (hx : x ∈ xs)
    (hmake : ∀ t, P (f t x)) (hkeep : ∀ t y, P t → P (f t y)) : P (s.each xs f) := by
  unfold State.each
  induction xs generalizing s with
  | nil => exact absurd hx List.not_mem_nil
  | cons y xs ih =>
    rw [List.foldl_cons]
    cases hx with
    | head => exact State.each_induction (P := P) xs f (hmake s) (fun t z _ h => hkeep t z h)
    | tail _ hx => exact ih hx

/-- A loop none of whose turns changes what a half-lane holds. -/
theorem State.each_half_proj {α : Type} (g : Half → α) (a : Nat) (s : State) (xs : List Nat) (f : State → Nat → State)
    (hf : ∀ t x, g ((f t x).half a) = g (t.half a)) : g ((s.each xs f).half a) = g (s.half a) :=
  State.each_induction (P := fun t => g (t.half a) = g (s.half a)) xs f rfl (fun t x _ h => (hf t x).trans h)

/-! ## A half-lane at the start of detection -/

theorem State.showTx_half (s : State) (h a : Nat) : (s.showTx h).half a = s.half a := by
  rw [State.half, (Goes.showTx (Foot.le_refl _) (Goes.refl _ s)).part .halves (by decide), ← State.half]

/-- A transmitter can always be put in electrical idle. -/
theorem State.setTx_idle (s : State) (h : Nat) : ((s.setTx h .idle).half h).tx = .idle := by
  simp [State.setTx, State.showTx_half]

theorem State.setTx_idle_keeps (s : State) {h a : Nat} (ha : (s.half a).tx = .idle) : ((s.setTx h .idle).half a).tx = .idle := by
  by_cases hh : a = h
  · rw [hh, State.setTx_idle]
  · simp [State.setTx, State.showTx_half, State.upH_half_ne _ _ hh, ha]

/-- Loading an entry of the table changes no transmitter's mode. -/
theorem State.loadTx_tx (s : State) (h a : Nat) : ((s.loadTx h).half a).tx = (s.half a).tx := by
  unfold State.loadTx State.loadEntry
  dsimp only
  split
  · rfl
  · split
    · exact State.upH_half_proj Half.tx s h (by intro; rfl) a
    · rw [State.showTx_half]
      exact (State.upH_half_proj Half.tx _ h (by intro; rfl) a).trans (State.upH_half_proj Half.tx s h (by intro; rfl) a)

theorem State.setSlot_tx (s : State) (h r a : Nat) : ((s.setSlot h r).half a).tx = (s.half a).tx := by
  unfold State.setSlot
  split
  · rfl
  · rw [State.loadTx_tx, State.upH_half_proj Half.tx _ h (by intro; rfl), State.wr_half]

theorem State.releaseRx_tx (s : State) (h a : Nat) : ((s.releaseRx h).half a).tx = (s.half a).tx := by
  unfold State.releaseRx
  rw [State.upH_half_proj Half.tx _ h (by intro; rfl)]
  by_cases ha : a = h
  · rw [ha, State.rxIdle_half_same]
    rfl
  · rw [State.rxIdle_half_ne s ha]

/-- A half-lane put in slot 0 reads it. -/
theorem State.setSlot_zero (s : State) (h : Nat) : (s.setSlot h 0).rd (LCH_FOM.RATE_SLOT h) = 0 := by
  unfold State.setSlot
  split
  case isTrue h0 => exact h0
  case isFalse =>
    rw [State.rd_loadTx _ _ _ (by rw [fieldName_LCH_FOM_RATE_SLOT]; decide)]
    simp

/-- Cells of one register and one place are one cell. -/
theorem State.rd_wr_zero_keeps (s : State) {h a : Nat} (ha : s.rd (LCH_FOM.RATE_SLOT a) = 0) :
    (s.wr (LCH_FOM.RATE_SLOT h) 0).rd (LCH_FOM.RATE_SLOT a) = 0 := by
  by_cases hk : (LCH_FOM.RATE_SLOT a).key = (LCH_FOM.RATE_SLOT h).key
  · have ho : LCH_FOM.off a = LCH_FOM.off h := by
      simp only [Cell.key, LCH_FOM.RATE_SLOT] at hk
      omega
    have hcell : LCH_FOM.RATE_SLOT a = LCH_FOM.RATE_SLOT h := by simp only [LCH_FOM.RATE_SLOT, ho]
    rw [hcell, State.rd_wr_same, Nat.zero_mod]
  · rw [State.rd_wr_ne _ _ _ _ hk, ha]

theorem State.setSlot_zero_keeps (s : State) {h a : Nat} (ha : s.rd (LCH_FOM.RATE_SLOT a) = 0) :
    (s.setSlot h 0).rd (LCH_FOM.RATE_SLOT a) = 0 := by
  unfold State.setSlot
  split
  · exact ha
  · rw [State.rd_loadTx _ _ _ (by rw [fieldName_LCH_FOM_RATE_SLOT]; decide), State.upH_rd]
    exact s.rd_wr_zero_keeps ha

/-! ## What DETECT begins with -/

/-- What a half-lane is made by DETECT, beside its transmitter. -/
def State.freshHalf (s : State) (p : Nat) (t : State) (h : Nat) : State :=
  ((((t.releaseRx h).setSlot h 0).off (LCH_DP_STATUS.POL_INV h)).wr (LCH_DP_STATUS.LINK_LANE h)
    (if s.isTT p then s.logical h else 0x1F)).upH h (fun x => { x with
      eval := none, fwdPreset := none, eqPreset := none, relocking := false, linkCoef := false, tsSyms := [], txPrecode := false,
      rejected := false, realign := false })

theorem State.freshHalf_tx (s t : State) (p h a : Nat) : ((s.freshHalf p t h).half a).tx = (t.half a).tx := by
  unfold State.freshHalf
  rw [State.upH_half_proj Half.tx _ h (by intro; rfl), State.wr_half, State.off_half, State.setSlot_tx, State.releaseRx_tx]

theorem State.freshHalf_slot (s t : State) (p h : Nat) : (s.freshHalf p t h).rd (LCH_FOM.RATE_SLOT h) = 0 := by
  unfold State.freshHalf
  rw [State.upH_rd, State.rd_wr_name _ _ _ _ (by simp), State.rd_off_name _ _ _ (by simp), State.setSlot_zero]

theorem State.freshHalf_slot_keeps (s t : State) (p h : Nat) {a : Nat} (ha : t.rd (LCH_FOM.RATE_SLOT a) = 0) :
    (s.freshHalf p t h).rd (LCH_FOM.RATE_SLOT a) = 0 := by
  unfold State.freshHalf
  rw [State.upH_rd, State.rd_wr_name _ _ _ _ (by simp), State.rd_off_name _ _ _ (by simp)]
  refine State.setSlot_zero_keeps _ ?_
  rw [State.rd_releaseRx _ _ _ (by rw [fieldName_LCH_FOM_RATE_SLOT]; decide), ha]

theorem State.sameMap_stdIdle (s : State) (p : Nat) : SameMap s (s.stdIdle p) :=
  Goes.sameMap (Goes.stdIdle (Foot.le_refl _) (Goes.refl _ s)) (by decide +kernel)

theorem State.sameMap_setTrn (s : State) (p v : Nat) : SameMap s (s.setTrn p v) :=
  Goes.sameMap (Goes.setTrn (Foot.le_refl _) (Goes.refl _ s)) (by decide +kernel)

/-- The half-lanes of the Standard Sides are made fresh, and then what the Port shows. -/
def State.freshHalves (s : State) (p : Nat) : State := (s.stdIdle p).each ((s.stdIdle p).stdHalves p) (s.freshHalf p)

theorem State.freshHalves_tx {s : State} {p h : Nat} (hm : h ∈ s.stdHalves p) : ((s.freshHalves p).half h).tx = .idle := by
  unfold State.freshHalves
  rw [State.each_half_proj Half.tx h _ _ _ (fun t x => s.freshHalf_tx t p x h), State.stdIdle]
  exact State.each_establishes (P := fun t => (t.half h).tx = .idle) hm (fun t => t.setTx_idle h) (fun t y ht => t.setTx_idle_keeps ht)

theorem State.freshHalves_slot {s : State} {p h : Nat} (hm : h ∈ s.stdHalves p) : (s.freshHalves p).rd (LCH_FOM.RATE_SLOT h) = 0 := by
  unfold State.freshHalves
  rw [(s.sameMap_stdIdle p).stdHalves]
  exact State.each_establishes (P := fun t => t.rd (LCH_FOM.RATE_SLOT h) = 0) hm (fun t => s.freshHalf_slot t p h)
    (fun t y ht => s.freshHalf_slot_keeps t p y ht)

theorem State.showStd_half (s : State) (p a : Nat) : (s.showStd p).half a = s.half a := by
  rw [State.half, (Goes.showStd (Foot.le_refl _) (Goes.refl _ s)).part .halves (by decide), ← State.half]

/-- A half-lane of a Standard Side is idle, at 2.5 GT/s. -/
theorem State.freshSides_half {s : State} {p h : Nat} (hm : h ∈ s.stdHalves p) :
    ((s.freshSides p).half h).tx = .idle ∧ (s.freshSides p).rd (LCH_FOM.RATE_SLOT h) = 0 := by
  have heach : ∀ (u : State) (qs : List Nat), (u.each qs (fun t q => (t.wr (PRT_DP_STATUS.SLOT_NOW q) 0).off
      (PRT_DP_STATUS.REVERSED q))).half h = u.half h := fun u qs =>
    State.each_half_proj id h u qs _ (fun t x => by simp)
  have hrd : ∀ (u : State) (qs : List Nat), (u.each qs (fun t q => (t.wr (PRT_DP_STATUS.SLOT_NOW q) 0).off
      (PRT_DP_STATUS.REVERSED q))).rd (LCH_FOM.RATE_SLOT h) = u.rd (LCH_FOM.RATE_SLOT h) := fun u qs =>
    State.rd_each u _ qs _ (fun t q _ => by
      rw [State.rd_off_name _ _ _ (by unfold PRT_DP_STATUS.REVERSED; split <;> simp +decide),
        State.rd_wr_name _ _ _ _ (by unfold PRT_DP_STATUS.SLOT_NOW; split <;> simp +decide)])
  constructor
  · rw [← State.freshHalves_tx hm]
    unfold State.freshSides
    simp only [State.pathSoon_half, State.showStd_half, State.upP_half, State.wr_half, State.off_half, heach]
    rfl
  · rw [← State.freshHalves_slot hm]
    unfold State.freshSides
    simp +decide [hrd]
    rfl

/-! ## An event shown stays shown -/

theorem bitAt_or_keeps {v k w : Nat} (m : Nat) (hk : k < w) (h : bitAt v k = true) : bitAt ((v ||| m) % 2 ^ w) k = true := by
  have hv : v.testBit k = true := by
    rw [Nat.testBit_eq_decide_div_mod_eq]
    simpa [bitAt] using h
  have ht : ((v ||| m) % 2 ^ w).testBit k = true := by
    rw [Nat.testBit_mod_two_pow, Nat.testBit_or, hv]
    simp [hk]
  rw [Nat.testBit_eq_decide_div_mod_eq, decide_eq_true_eq] at ht
  simp [bitAt, ht]

section
variable {s : State} {k : Nat} (hk : k < 18) (h : bitAt (s.rd ERR_DP_STATUS.CODES) k = true)
include hk h

theorem State.recordDp_keeps_shown (code : Nat) (port : Option Nat) (b16 : Nat) :
    bitAt ((s.recordDp code port b16).rd ERR_DP_STATUS.CODES) k = true := by
  have hrd : (s.recordDp code port b16).rd ERR_DP_STATUS.CODES = (s.rd ERR_DP_STATUS.CODES ||| 2 ^ (code - 1)) % 2 ^ 18 := by
    unfold State.recordDp
    dsimp only
    cases port <;> (simp only [State.rd_ite]; split <;> split <;> simp)
  rw [hrd]
  exact bitAt_or_keeps _ hk h

theorem State.raiseFor_keeps_shown (code : Nat) (port : Option Nat) (ports : List Nat) (b16 b17 b18 : Nat) :
    bitAt ((s.raiseFor code port ports b16 b17 b18).rd ERR_DP_STATUS.CODES) k = true := by
  unfold State.raiseFor
  dsimp only
  split
  · exact s.recordDp_keeps_shown hk h code port b16
  · rw [State.setEvq_rd, State.rd_alert _ _ _ (by rw [fieldName_ERR_DP_STATUS_CODES]; decide)]
    exact s.recordDp_keeps_shown hk h code port b16

theorem State.endRun_keeps_shown (a result : Nat) : bitAt ((s.endRun a result).rd ERR_DP_STATUS.CODES) k = true := by
  unfold State.endRun
  dsimp only
  split
  · split <;> exact State.raiseFor_keeps_shown hk (by simpa +decide [apply_ite (State.rd · ERR_DP_STATUS.CODES)] using h) ..
  · simpa +decide [apply_ite (State.rd · ERR_DP_STATUS.CODES)] using h

theorem State.rxLeaves_keeps_shown (a : Nat) : bitAt ((s.rxLeaves a).rd ERR_DP_STATUS.CODES) k = true := by
  unfold State.rxLeaves
  rw [State.rd_stopJobsOn _ _ _ _ (by rw [fieldName_ERR_DP_STATUS_CODES]; decide)]
  unfold State.abortRun
  split
  · exact h
  · split
    · exact State.endRun_keeps_shown hk (by simpa +decide using h) ..
    · exact State.endRun_keeps_shown hk (by simpa +decide [apply_ite (State.rd · ERR_DP_STATUS.CODES)] using h) ..

theorem State.setTrn_keeps_shown (p v : Nat) : bitAt ((s.setTrn p v).rd ERR_DP_STATUS.CODES) k = true := by
  have hbase : ∀ t : State, bitAt (t.rd ERR_DP_STATUS.CODES) k = true → ∀ xs : List Nat, bitAt ((t.each xs (fun t h =>
      (t.rxLeaves h).upH h (fun x => { x with margin := none, marginWait := none }))).rd ERR_DP_STATUS.CODES) k = true :=
    fun t ht xs => State.each_induction (P := fun t => bitAt (t.rd ERR_DP_STATUS.CODES) k = true) xs _ ht (fun u a _ hu => by
      rw [State.upH_rd]; exact u.rxLeaves_keeps_shown hk hu a)
  unfold State.setTrn
  dsimp only
  split
  · simpa +decide [apply_ite (State.rd · ERR_DP_STATUS.CODES)] using h
  · split
    · exact hbase _ (by simpa +decide [apply_ite (State.rd · ERR_DP_STATUS.CODES)] using h) _
    · simpa +decide [apply_ite (State.rd · ERR_DP_STATUS.CODES)] using h

end

/-! ## DETECT entered -/

/-- A Port of `t` stands in DETECT, entered once more than in `s`, with the half-lane idle at 2.5 GT/s. -/
def DetectEntered (s t : State) (p h : Nat) : Prop :=
  t.rd (PRT_TRN_STATUS.STATE p) = tDETECT ∧ t.rd (PRT_TRN_STATUS.NEG_WIDTH p) = 0 ∧
  t.rd (PRT_TRN_EVENTS.DETECT_CNT p) = satInc 8 (s.rd (PRT_TRN_EVENTS.DETECT_CNT p)) ∧ (t.half h).tx = .idle ∧
  t.rd (LCH_FOM.RATE_SLOT h) = 0

theorem State.setTrn_detectCnt (s : State) (p : Nat) (hold : s.trn p ≠ tDETECT) :
    (s.setTrn p tDETECT).rd (PRT_TRN_EVENTS.DETECT_CNT p) = satInc 8 (s.rd (PRT_TRN_EVENTS.DETECT_CNT p)) := by
  have heach : ∀ (t : State) (xs : List Nat), (t.each xs (fun t h => (t.rxLeaves h).upH h (fun x =>
      { x with margin := none, marginWait := none }))).rd (PRT_TRN_EVENTS.DETECT_CNT p) = t.rd (PRT_TRN_EVENTS.DETECT_CNT p) :=
    fun t xs => State.rd_each t _ xs _ (fun u a _ => by
      rw [State.upH_rd, State.rd_rxLeaves _ _ _ (by rw [fieldName_PRT_TRN_EVENTS_DETECT_CNT]; decide)])
  have hne : tDETECT ≠ tLOWPOWER ∧ tDETECT ≠ tACTIVE ∧ tDETECT ≠ tEQ ∧ tDETECT ≠ tFORWARD := by decide
  obtain ⟨hlp, hact, heq, hfwd⟩ := hne
  unfold State.setTrn
  simp only [hold, hlp, hact, heq, hfwd, ne_eq, not_false_eq_true, and_self, if_true, if_false, false_and]
  simp +decide [apply_ite (State.rd · (PRT_TRN_EVENTS.DETECT_CNT p)), heach, satInc]

theorem State.freshSides_negWidth (s : State) (p : Nat) : (s.freshSides p).rd (PRT_TRN_STATUS.NEG_WIDTH p) = 0 := by
  unfold State.freshSides
  rw [State.rd_pathSoon _ _ _ (by rw [fieldName_PRT_TRN_STATUS_NEG_WIDTH]; decide),
    State.rd_showStd _ _ _ (by rw [fieldName_PRT_TRN_STATUS_NEG_WIDTH]; decide), State.upP_rd, State.rd_wr_same, Nat.zero_mod]

theorem State.enterDetect_entered {s : State} {p h : Nat} (hm : h ∈ s.stdHalves p) (hold : s.trn p ≠ tDETECT) :
    DetectEntered s (s.enterDetect p) p h := by
  have hsides : (s.stdSides p).isEmpty = false := by
    rw [State.stdHalves, List.mem_flatMap] at hm
    obtain ⟨q, hq, -⟩ := hm
    rw [List.isEmpty_eq_false_iff]
    exact List.ne_nil_of_mem hq
  have hm' : h ∈ (s.setTrn p tDETECT).stdHalves p := by rwa [(s.sameMap_setTrn p tDETECT).stdHalves]
  obtain ⟨htx, hslot⟩ := State.freshSides_half hm'
  unfold State.enterDetect DetectEntered
  simp only [hsides, Bool.false_eq_true, if_false]
  refine ⟨?_, State.freshSides_negWidth _ p, ?_, htx, hslot⟩
  · rw [State.rd_freshSides _ _ _ (by rw [fieldName_PRT_TRN_STATUS_STATE]; decide)]
    exact s.setTrn_trn p tDETECT
  · rw [State.rd_freshSides _ _ _ (by rw [fieldName_PRT_TRN_EVENTS_DETECT_CNT]; decide), s.setTrn_detectCnt p hold]

theorem State.noted_half (s old : State) (p a : Nat) : (s.noted old p).half a = s.half a := by
  rw [State.half, (Goes.noted (Foot.le_refl _) (Goes.refl _ s)).part .halves (by decide), ← State.half]

/-- The times noted at the end of a change keep what DETECT began with. -/
theorem DetectEntered.noted {s t : State} {p h : Nat} (old : State) (k : Nat) (hd : DetectEntered s t p h) :
    DetectEntered s (t.noted old k) p h := by
  unfold DetectEntered
  rw [State.noted_half]
  simp only [State.rd_noted]
  exact hd

theorem DetectEntered.from {s s' t : State} {p h : Nat}
    (hcnt : s.rd (PRT_TRN_EVENTS.DETECT_CNT p) = s'.rd (PRT_TRN_EVENTS.DETECT_CNT p)) (hd : DetectEntered s t p h) :
    DetectEntered s' t p h := by
  unfold DetectEntered at *
  rwa [← hcnt]

/-! ## The ways there (R100, R105, R106, R117) -/

theorem State.sameMap_advanceTo (s : State) (e : Nat) : SameMap s (s.advanceTo e) :=
  Goes.sameMap (Goes.advanceTo (Foot.le_refl _) (Goes.refl _ s)) (by decide +kernel)

theorem State.trn_advanceTo (s : State) (e p : Nat) : (s.advanceTo e).trn p = s.trn p :=
  State.rd_advanceTo s _ e (by rw [fieldName_PRT_TRN_STATUS_STATE]; decide)

theorem exec_hotResetExit_detects (s : State) (p : PortId) (h : Nat) (htrn : s.trn p = tHOTRESET) (hm : h ∈ s.stdHalves p) :
    ∃ t, exec (.hotResetExit p) s = .next t ∧ DetectEntered s t p h := by
  refine ⟨_, next_pos htrn, DetectEntered.noted _ _ ?_⟩
  split
  · exact State.enterDetect_entered hm (by rw [htrn]; decide)
  · refine DetectEntered.from (State.rd_advanceTo s _ _ (by rw [fieldName_PRT_TRN_EVENTS_DETECT_CNT]; decide))
      (State.enterDetect_entered ?_ (by rw [State.trn_advanceTo, htrn]; decide))
    rwa [(s.sameMap_advanceTo _).stdHalves]

theorem exec_disabledExit_detects (s : State) (g : HalfId) (q h : Nat) (hclaim : s.claim g = some q) (hstd : s.isSeg q = false)
    (htrn : s.trn (q / 2) = tDISABLED) (hsig : s.bit (LCH_FOM.SIGDET g) = true) (hm : h ∈ s.stdHalves (q / 2)) :
    ∃ t, exec (.disabledExit g) s = .next t ∧ DetectEntered s t (q / 2) h := by
  have hexec : exec (.disabledExit g) s = .next ((s.enterDetect (q / 2)).noted s (q / 2)) := by
    simp [exec_disabledExit_runs, execDisabledExit, hclaim, hstd, htrn, hsig]
  exact ⟨_, hexec, (State.enterDetect_entered hm (by rw [htrn]; decide)).noted _ _⟩

theorem State.enterDetect_keeps_shown {s : State} {k : Nat} (hk : k < 18) (h : bitAt (s.rd ERR_DP_STATUS.CODES) k = true) (p : Nat) :
    bitAt ((s.enterDetect p).rd ERR_DP_STATUS.CODES) k = true := by
  unfold State.enterDetect
  split
  · exact h
  · rw [State.rd_freshSides _ _ _ (by rw [fieldName_ERR_DP_STATUS_CODES]; decide)]
    exact State.setTrn_keeps_shown hk h p _

/-- A lost partner shown and raised, before DETECT is entered. -/
def State.partnerGone (s : State) (q : Nat) : State :=
  (s.on (PRT_TRN_EVENTS.PARTNER_LOST q)).raise 0x05 (q / 2) 0xFF (q % 2) 0

theorem State.losePartner_eq (s : State) (q : Nat) : s.losePartner q = (s.partnerGone q).enterDetect (q / 2) := rfl

theorem State.sameMap_partnerGone (s : State) (q : Nat) : SameMap s (s.partnerGone q) :=
  (SameMap.wr s _ _ (by unfold PRT_TRN_EVENTS.PARTNER_LOST; split <;> simp +decide)).trans
    (Goes.sameMap (Goes.raise (Foot.le_refl _) (Goes.refl _ _)) (by decide +kernel))

theorem State.losePartner_entered {s : State} {q h : Nat} (hm : h ∈ s.stdHalves (q / 2)) (hold : s.trn (q / 2) ≠ tDETECT) :
    DetectEntered s (s.losePartner q) (q / 2) h ∧ (s.losePartner q).rd (PRT_TRN_EVENTS.PARTNER_LOST q) = 1 ∧
    bitAt ((s.losePartner q).rd ERR_DP_STATUS.CODES) 4 = true := by
  have hrd : ∀ c : Cell, fp_raise.misses (fieldName c.key) = true →
      fieldName c.key ≠ fieldName (PRT_TRN_EVENTS.PARTNER_LOST q).key → (s.partnerGone q).rd c = s.rd c := fun c hc hne => by
    rw [State.partnerGone, State.rd_raise _ _ _ _ _ _ _ hc, State.rd_on_name _ _ _ hne]
  have hother : fieldName (PRT_TRN_EVENTS.DETECT_CNT (q / 2)).key ≠ fieldName (PRT_TRN_EVENTS.PARTNER_LOST q).key ∧
      fieldName (PRT_TRN_STATUS.STATE (q / 2)).key ≠ fieldName (PRT_TRN_EVENTS.PARTNER_LOST q).key := by
    unfold PRT_TRN_EVENTS.PARTNER_LOST
    constructor <;> (split <;> simp +decide)
  rw [State.losePartner_eq]
  refine ⟨DetectEntered.from (hrd _ (by rw [fieldName_PRT_TRN_EVENTS_DETECT_CNT]; decide) hother.1)
    (State.enterDetect_entered (by rwa [(s.sameMap_partnerGone q).stdHalves]) ?_), ?_, ?_⟩
  · rw [State.trn, hrd _ (by rw [fieldName_PRT_TRN_STATUS_STATE]; decide) hother.2]
    exact hold
  · have hmiss : fp_enterDetect.misses (fieldName (PRT_TRN_EVENTS.PARTNER_LOST q).key) = true ∧
        fp_raise.misses (fieldName (PRT_TRN_EVENTS.PARTNER_LOST q).key) = true := by
      unfold PRT_TRN_EVENTS.PARTNER_LOST
      constructor <;> (split <;> simp +decide)
    rw [State.rd_enterDetect _ _ _ hmiss.1, State.partnerGone, State.rd_raise _ _ _ _ _ _ _ hmiss.2, State.rd_on_same]
    unfold PRT_TRN_EVENTS.PARTNER_LOST
    split <;> rfl
  · exact State.enterDetect_keeps_shown (by decide) (State.raise_shown _ _ _ _ _ (by decide)) _

theorem exec_partnerLost_detects (s : State) (q : SideId) (h : Nat) (hen : s.enabled (q / 2) = true) (hstd : s.isSeg q = false)
    (htrn : s.trn (q / 2) = tFORWARD ∨ s.trn (q / 2) = tEQ ∨ s.trn (q / 2) = tACTIVE ∨ s.trn (q / 2) = tLOOPBACK)
    (hdark : ∀ g ∈ s.negHalves q, s.bit (LCH_FOM.SIGDET g) = false ∧ (s.half g).eios = false) (hm : h ∈ s.stdHalves (q / 2)) :
    ∃ t, exec (.partnerLost q) s = .next t ∧ t.rd (PRT_TRN_EVENTS.PARTNER_LOST q) = 1 ∧
    bitAt (t.rd ERR_DP_STATUS.CODES) 4 = true ∧ DetectEntered s t (q / 2) h := by
  have hall : (s.negHalves q).all (fun h => !s.bit (LCH_FOM.SIGDET h) && !(s.half h).eios) = true := by
    rw [List.all_eq_true]
    intro g hg
    obtain ⟨hsig, heios⟩ := hdark g hg
    rw [hsig, heios]
    rfl
  have hold : s.trn (q / 2) ≠ tDETECT := by
    rcases htrn with h | h | h | h <;> (rw [h]; decide)
  have hexec : exec (.partnerLost q) s = .next ((s.losePartner q).noted s (q / 2)) := next_pos ⟨hen, by simp [hstd], htrn, hall⟩
  obtain ⟨hin, hlost, hcode⟩ := State.losePartner_entered hm hold
  refine ⟨_, hexec, ?_, ?_, hin.noted _ _⟩
  · rw [State.rd_noted, hlost]
  · rw [State.rd_noted, hcode]

theorem State.enterDetect_timedOut (s : State) {p h : Nat} (hm : h ∈ s.stdHalves p) (hold : s.trn p ≠ tDETECT) :
    DetectEntered s ((s.on (PRT_TRN_EVENTS.TRN_TIMEOUT p)).enterDetect p) p h := by
  refine DetectEntered.from (State.rd_on_name _ _ _ (by simp)) (State.enterDetect_entered ?_ ?_)
  · rwa [State.on, (SameMap.wr s (PRT_TRN_EVENTS.TRN_TIMEOUT p) 1 (by simp +decide)).stdHalves]
  · rwa [State.trn, State.rd_on_name _ _ _ (by simp)]

theorem exec_trainingTimeout_detects (s : State) (p : PortId) (h : Nat)
    (htrn : s.trn p = tFORWARD ∨ s.trn p = tEQ ∨ s.trn p = tLOWPOWER) (hm : h ∈ s.stdHalves p) :
    ∃ t, exec (.trainingTimeout p) s = .next t ∧ t.rd (PRT_TRN_EVENTS.TRN_TIMEOUT p) = 1 ∧ DetectEntered s t p h := by
  have hold : s.trn p ≠ tDETECT := by
    rcases htrn with h | h | h <;> (rw [h]; decide)
  refine ⟨_, next_pos htrn, ?_, DetectEntered.noted _ _ ?_⟩
  · rw [State.rd_noted, State.rd_enterDetect _ _ _ (by rw [fieldName_PRT_TRN_EVENTS_TRN_TIMEOUT]; decide), State.rd_on_same]
    rfl
  · split
    · exact s.enterDetect_timedOut hm hold
    · refine DetectEntered.from (State.rd_advanceTo s _ _ (by rw [fieldName_PRT_TRN_EVENTS_DETECT_CNT]; decide))
        (State.enterDetect_timedOut _ ?_ ?_)
      · rwa [(s.sameMap_advanceTo _).stdHalves]
      · rwa [State.trn_advanceTo]

/-! ## RETRAIN through the Port's tile (R100, R289) -/

theorem State.isSS_of_mem_stdHalves {s : State} {p h : Nat} (hm : h ∈ s.stdHalves p) : s.isSS p = false := by
  rw [State.stdHalves, List.mem_flatMap] at hm
  obtain ⟨q, hq, -⟩ := hm
  simp only [State.stdSides, sidesOf, List.mem_filter, List.mem_cons, List.not_mem_nil, or_false] at hq
  obtain ⟨rfl | rfl, hq⟩ := hq
  · simp_all [State.isSS]
  · simp_all [State.isSS]

/-- A Port's tile that is ON, with nothing waiting, takes RETRAIN at once. -/
theorem State.askRetrain_std {s : State} {p : Nat} (hp : p < 64) (hen : s.enabled p = true) (hon : s.tileState (s.tileOf p) = 2)
    (hacc : (s.tile (s.tileOf p)).accesses = []) :
    s.askRetrain p (PRT_TRN_CTRL.off p) (2 ^ (PRT_TRN_CTRL.RETRAIN p).lo) =
      ((((s.upT (s.tileOf p) (fun x => { x with accesses := [] })).tileQuiet (s.tileOf p)).retrainStd p).tileQuiet (s.tileOf p)) := by
  have hoff : PRT_TRN_CTRL.off p = 0x100020 + 0x1000 * p := by
    unfold PRT_TRN_CTRL.off
    omega
  have hwaits : s.accessWaits (s.tileOf p) = false := by simp [State.accessWaits, hon]
  have hre : retrains (PRT_TRN_CTRL.off p) = true := by
    simp only [retrains, hoff, Bool.and_eq_true, decide_eq_true_eq, Bool.or_eq_true, beq_iff_eq]
    omega
  have hport : (PRT_TRN_CTRL.off p - 0x100000) / 0x1000 = p := by omega
  have hreg : PRT_TRN_CTRL.off p % 0x1000 = 0x20 := by omega
  have hbit : bitsOf (2 ^ (PRT_TRN_CTRL.RETRAIN p).lo) (PRT_TRN_CTRL.RETRAIN p).lo 1 = 1 := by
    show bitsOf (2 ^ 31) 31 1 = 1
    decide
  have hon' : ((s.upT (s.tileOf p) (fun x => { x with accesses := [] })).tileQuiet (s.tileOf p)).tileState (s.tileOf p) = 2 := hon
  simp only [State.askRetrain, hen, if_true, State.tileAccess, hwaits, Bool.false_eq_true, if_false, State.drainAccesses, hacc,
    List.foldl_nil, State.takeAccess, hon', State.tileWrite, hre, State.retrain, hport, hreg, hbit]

theorem exec_trnRetrain_detects (s : State) (p : PortId) (h : Nat) (hh : s.hosted = true) (hp : s.powerState ≠ 1)
    (hen : s.enabled p = true) (hon : s.tileState (s.tileOf p) = 2) (hacc : (s.tile (s.tileOf p)).accesses = [])
    (htrn : s.trn p = tHOLD) (hm : h ∈ s.stdHalves p) : ∃ t, exec (.trnRetrain p) s = .next t ∧ DetectEntered s t p h := by
  have hold : s.trn p ≠ tDETECT := by rw [htrn]; decide
  have hdown : s.trn p ≠ tDOWN := by rw [htrn]; decide
  generalize hu : (s.upT (s.tileOf p) (fun x => { x with accesses := [] })).tileQuiet (s.tileOf p) = u
  have hregs : u.regs = s.regs := by rw [← hu]; rfl
  have hsame : SameMap s u := SameMap.of_regs hregs
  have htu : u.trn p = s.trn p := by rw [State.trn, State.rd, hregs]; rfl
  have hcond : ¬(u.trn p = tDOWN ∨ u.isSS p = true) := by
    rw [htu, hsame.isSS, State.isSS_of_mem_stdHalves hm]
    simp [hdown]
  have hexec : exec (.trnRetrain p) s = .next ((u.retrainStd p).tileQuiet (s.tileOf p)) := by
    rw [← hu, ← State.askRetrain_std p.isLt hen hon hacc]
    simp [exec_trnRetrain_runs, execTrnRetrain, State.hostCmd, State.hostWrite, hh, hp]
  refine ⟨_, hexec, ?_⟩
  have hin : DetectEntered u (u.enterDetect p) p h := State.enterDetect_entered (by rwa [hsame.stdHalves]) (by rwa [htu])
  have hin' : DetectEntered s (u.retrainStd p) p h := by
    rw [State.retrainStd, if_neg hcond]
    exact (DetectEntered.from (by rw [State.rd, hregs]; rfl) hin).noted _ _
  exact hin'

/-- Settles O21: every way to DETECT is the one entry to it, which idles the transmitters and puts the half-lanes in slot 0. -/
theorem trainingEndsInDetect : Obligations.TrainingEndsInDetect :=
  ⟨exec_hotResetExit_detects, exec_disabledExit_detects, exec_partnerLost_detects, exec_trainingTimeout_detects,
    exec_trnRetrain_detects⟩

end Sys2Proof.Machine
end

section
/-! PROOFS. Receiver detection, rate changes and margin commands (04, R101, R102, R112, R119 to R121). -/

set_option Elab.async false

namespace Sys2Proof.Machine

@[simp] theorem State.stopJobsOn_halves (s : State) (h : Nat) (cause : Nat) : (s.stopJobsOn h cause).halves = s.halves :=
  (Goes.stopJobsOn (Foot.le_refl _) (Goes.refl _ s)).part .halves (by decide)
@[simp] theorem State.stopJobsOn_half (s : State) (h : Nat) (cause : Nat) (h' : Nat) : (s.stopJobsOn h cause).half h' = s.half h' := by
  rw [State.half, State.stopJobsOn_halves, ← State.half]
/-! ## The half-lanes of a Port -/

theorem State.claim_of_mem_dataHalves {s : State} {q h : Nat} (hm : h ∈ s.dataHalves q) :
    s.claim h = some q ∧ h / 64 = s.tileOf (q / 2) := by
  obtain ⟨l, -, hl⟩ := List.mem_filterMap.mp hm
  have hmem := List.mem_of_find?_eq_some hl
  obtain ⟨htile, hclaim⟩ := List.mem_filter.mp hmem
  obtain ⟨i, hi, rfl⟩ := List.mem_map.mp htile
  rw [List.mem_range] at hi
  exact ⟨by simpa using hclaim, by omega⟩

theorem State.mem_stdHalves {s : State} {p q h : Nat} (hq : q ∈ s.stdSides p) (hm : h ∈ s.dataHalves q) : h ∈ s.stdHalves p :=
  List.mem_flatMap.mpr ⟨q, hq, hm⟩

theorem State.half_of_mem_stdSides {s : State} {p q : Nat} (hq : q ∈ s.stdSides p) : q / 2 = p := by
  have hmem := List.mem_of_mem_filter hq
  simp only [sidesOf, List.mem_cons, List.not_mem_nil, or_false] at hmem
  omega

theorem State.tile_of_mem_stdHalves {s : State} {p h : Nat} (hm : h ∈ s.stdHalves p) : h / 64 = s.tileOf p := by
  obtain ⟨q, hq, hmem⟩ := List.mem_flatMap.mp hm
  rw [← State.half_of_mem_stdSides hq, (State.claim_of_mem_dataHalves hmem).2]

/-- The half-lanes of one Lane Tile have registers of their own. -/
theorem LCH_FOM.off_ne {a h : Nat} (ht : a / 64 = h / 64) (hne : a ≠ h) : LCH_FOM.off a ≠ LCH_FOM.off h := by
  unfold LCH_FOM.off
  omega

theorem LCH_FOM.ADAPT_STATE_ne {a h : Nat} (ht : a / 64 = h / 64) (hne : a ≠ h) :
    (LCH_FOM.ADAPT_STATE a).key ≠ (LCH_FOM.ADAPT_STATE h).key := by
  have hoff := LCH_FOM.off_ne ht hne
  simp only [Cell.key, LCH_FOM.ADAPT_STATE, ne_eq]
  omega

/-! ## A receiver that begins to acquire (R42, R56) -/

/-- What a receiver that begins to acquire is given, whatever it starts from. -/
def State.acquiring (s : State) (h : Nat) : State :=
  (((s.upE (engineOf h) (fun e => { e with quiet := false })).applySet h (s.calSet h) (s.tileTemp (tileOfHalf h))).wr
    (LCH_FOM.ADAPT_STATE h) 1).noFom h

/-- A start from the converged state of the slot. -/
def State.warmStart (s : State) (h : Nat) (c : Conv) : State :=
  ((s.on (LCH_RX_EQ.WARM h)).wr (LCH_RX_EQ.CTLE h) c.ctle).setCoef h c.coef

/-- A start from an entry of the table, in a slot. -/
def State.coldStart (s : State) (h e r : Nat) : State :=
  ((((((s.off (LCH_RX_EQ.WARM h)).put (LCH_RX_EQ.TABLE_DEFAULT h) (!entryValid e)).wr (LCH_RX_EQ.CTLE h)
    (entryCtle e r)).setCoef h (coldCoef e r)).upH h (fun x => { x with warmLeft := 0 })).loadTx h)

theorem State.acquire_starts (s : State) (h : Nat) : (∃ c, s.acquire h = (s.acquiring h).warmStart h c) ∨
    ∃ e r, s.acquire h = (s.acquiring h).coldStart h e r := by
  unfold State.acquire
  dsimp only
  split
  · split
    · exact .inl ⟨_, rfl⟩
    · exact .inr ⟨_, _, rfl⟩
  · exact .inr ⟨_, _, rfl⟩

/-! ## What the operations on one receiver leave of another half-lane -/

section
variable {h a : Nat} (ha : a ≠ h)
include ha

theorem State.endRun_half_ne (s : State) (r : Nat) : (s.endRun h r).half a = s.half a := by
  unfold State.endRun
  dsimp only
  have hraise : ∀ (t : State) (c p b1 b2 b3 : Nat), (t.raise c p b1 b2 b3).half a = t.half a := fun t c p b1 b2 b3 => by
    rw [State.half, (Goes.raise (Foot.le_refl _) (Goes.refl _ t)).part .halves (by decide), ← State.half]
  have hdev : ∀ (t : State) (c b1 b2 b3 : Nat), (t.raiseDev c b1 b2 b3).half a = t.half a := fun t c b1 b2 b3 => by
    rw [State.half, (Goes.raiseDev (Foot.le_refl _) (Goes.refl _ t)).part .halves (by decide), ← State.half]
  have hbase : ∀ (t : State) (u v : Nat), ((((t.tileQuiet (tileOfHalf h)).wr (CAL_RX.LAST_RESULT h) u).wr (CAL_RX.NQ_REASON h) v).showRuns).half a =
      t.half a := fun t u v => rfl
  split
  · split
    · rw [hraise]
      split <;> simp only [hbase, State.upH_half_ne _ _ ha]
    · rw [hdev]
      split <;> simp only [hbase, State.upH_half_ne _ _ ha]
  · split <;> simp only [hbase, State.upH_half_ne _ _ ha]

theorem State.rxLeaves_half_ne (s : State) : (s.rxLeaves h).half a = s.half a := by
  unfold State.rxLeaves State.abortRun State.scheduleBack State.scheduleTable State.scheduleSet
  rw [State.stopJobsOn_half]
  split
  · rfl
  · split
    · rw [State.endRun_half_ne ha, State.upH_half_ne _ _ ha, State.upH_half_ne _ _ ha]
    · rw [State.endRun_half_ne ha]
      split
      · rw [State.upH_half_ne _ _ ha]
      · rfl

theorem State.setTx_half_ne (s : State) (m : TxMode) : (s.setTx h m).half a = s.half a := by
  unfold State.setTx
  split
  · rfl
  · rw [State.showTx_half, State.upH_half_ne _ _ ha]

theorem State.loadTx_half_ne (s : State) : (s.loadTx h).half a = s.half a := by
  unfold State.loadTx State.loadEntry
  dsimp only
  split
  · rfl
  · split
    · rw [State.upH_half_ne _ _ ha]
    · rw [State.showTx_half, State.upH_half_ne _ _ ha, State.upH_half_ne _ _ ha]

theorem State.setSlot_half_ne (s : State) (r : Nat) : (s.setSlot h r).half a = s.half a := by
  unfold State.setSlot
  split
  · rfl
  · rw [State.loadTx_half_ne ha, State.upH_half_ne _ _ ha, State.wr_half]

theorem State.releaseRx_half_ne (s : State) : (s.releaseRx h).half a = s.half a := by
  rw [State.releaseRx, State.upH_half_ne _ _ ha, State.rxIdle_half_ne s ha]

theorem State.setCoef_half_ne (s : State) (c : RxCoef) : (s.setCoef h c).half a = s.half a := by
  simp [State.setCoef, State.upH_half_ne _ _ ha]

theorem State.acquiring_half_ne (s : State) : (s.acquiring h).half a = s.half a := by
  simp [State.acquiring, State.noFom, State.applySet, State.upH_half_ne _ _ ha]

theorem State.warmStart_half_ne (s : State) (c : Conv) : (s.warmStart h c).half a = s.half a := by
  simp [State.warmStart, State.setCoef_half_ne ha]

theorem State.coldStart_half_ne (s : State) (e r : Nat) : (s.coldStart h e r).half a = s.half a := by
  simp [State.coldStart, State.setCoef_half_ne ha, State.upH_half_ne _ _ ha, State.loadTx_half_ne ha]

theorem State.acquire_half_ne (s : State) : (s.acquire h).half a = s.half a := by
  rcases s.acquire_starts h with ⟨c, hacq⟩ | ⟨e, r, hacq⟩
  · rw [hacq, State.warmStart_half_ne ha, State.acquiring_half_ne ha]
  · rw [hacq, State.coldStart_half_ne ha, State.acquiring_half_ne ha]

theorem State.changeRate_half_ne (s : State) (slot : Nat) : (s.changeRate slot h).half a = s.half a := by
  have hbase : ∀ f : Half → Half, ((((s.rxLeaves h).setTx h .idle).setSlot h slot).upH h f).half a = s.half a := fun f => by
    rw [State.upH_half_ne _ _ ha, State.setSlot_half_ne ha, State.setTx_half_ne ha, State.rxLeaves_half_ne ha]
  unfold State.changeRate
  dsimp only
  split
  · split
    · rw [State.releaseRx_half_ne ha, hbase]
    · split
      · rw [State.acquire_half_ne ha, State.requestRx_half_ne _ _ ha, hbase]
      · rw [State.requestRx_half_ne _ _ ha, hbase]
  · exact hbase _

end

/-! ## A half-lane after a rate change (R112) -/

theorem State.loadTx_wantRx (s : State) (h a : Nat) : ((s.loadTx h).half a).wantRx = (s.half a).wantRx := by
  unfold State.loadTx State.loadEntry
  dsimp only
  split
  · rfl
  · split
    · exact State.upH_half_proj Half.wantRx s h (by intro; rfl) a
    · rw [State.showTx_half]
      exact (State.upH_half_proj Half.wantRx _ h (by intro; rfl) a).trans (State.upH_half_proj Half.wantRx s h (by intro; rfl) a)

theorem State.requestRx_tx (s : State) (h : Nat) (warm : Bool) : ((s.requestRx h warm).half h).tx = (s.half h).tx := by
  rw [State.requestRx_half_same]
  rfl

theorem State.releaseRx_wantRx (s : State) (h : Nat) : ((s.releaseRx h).half h).wantRx = false := by
  rw [State.releaseRx, State.upH_half_same]

theorem State.releaseRx_adaptState (s : State) (h : Nat) : (s.releaseRx h).rd (LCH_FOM.ADAPT_STATE h) = 0 := by
  rw [State.releaseRx, State.upH_rd, State.rxIdle_adaptState]

theorem State.acquiring_keeps (s : State) (h : Nat) : ((s.acquiring h).half h).tx = (s.half h).tx ∧
    ((s.acquiring h).half h).wantRx = (s.half h).wantRx ∧ (s.acquiring h).rd (LCH_FOM.ADAPT_STATE h) = 1 := by
  refine ⟨?_, ?_, ?_⟩
  · simp [State.acquiring, State.noFom, State.applySet]
  · simp [State.acquiring, State.noFom, State.applySet]
  · simp +decide [State.acquiring, State.noFom]

theorem State.warmStart_keeps (s : State) (h : Nat) (c : Conv) : ((s.warmStart h c).half h).tx = (s.half h).tx ∧
    ((s.warmStart h c).half h).wantRx = (s.half h).wantRx ∧
    (s.warmStart h c).rd (LCH_FOM.ADAPT_STATE h) = s.rd (LCH_FOM.ADAPT_STATE h) := by
  refine ⟨?_, ?_, ?_⟩
  · simp [State.warmStart, State.setCoef]
  · simp [State.warmStart, State.setCoef]
  · simp +decide [State.warmStart, State.setCoef]

theorem State.coldStart_keeps (s : State) (h : Nat) (e r : Nat) : ((s.coldStart h e r).half h).tx = (s.half h).tx ∧
    ((s.coldStart h e r).half h).wantRx = (s.half h).wantRx ∧
    (s.coldStart h e r).rd (LCH_FOM.ADAPT_STATE h) = s.rd (LCH_FOM.ADAPT_STATE h) := by
  refine ⟨?_, ?_, ?_⟩
  · simp [State.coldStart, State.loadTx_tx, State.setCoef]
  · simp [State.coldStart, State.loadTx_wantRx, State.setCoef]
  · simp +decide [State.coldStart, State.setCoef]

/-- A receiver that begins to acquire keeps its transmitter and its request, and is in ACQUIRE. -/
theorem State.acquire_keeps (s : State) (h : Nat) : ((s.acquire h).half h).tx = (s.half h).tx ∧
    ((s.acquire h).half h).wantRx = (s.half h).wantRx ∧ (s.acquire h).rd (LCH_FOM.ADAPT_STATE h) = 1 := by
  obtain ⟨htx, hwant, hadapt⟩ := s.acquiring_keeps h
  rcases s.acquire_starts h with ⟨c, hacq⟩ | ⟨e, r, hacq⟩
  · obtain ⟨wtx, wwant, wadapt⟩ := (s.acquiring h).warmStart_keeps h c
    rw [hacq]
    exact ⟨wtx.trans htx, wwant.trans hwant, wadapt.trans hadapt⟩
  · obtain ⟨wtx, wwant, wadapt⟩ := (s.acquiring h).coldStart_keeps h e r
    rw [hacq]
    exact ⟨wtx.trans htx, wwant.trans hwant, wadapt.trans hadapt⟩

theorem State.setSlot_rateSlot (s : State) (h r : Nat) (hr : r < 16) : (s.setSlot h r).rd (LCH_FOM.RATE_SLOT h) = r := by
  unfold State.setSlot
  split
  case isTrue h0 => exact h0
  case isFalse =>
    rw [State.rd_loadTx _ _ _ (by rw [fieldName_LCH_FOM_RATE_SLOT]; decide), State.upH_rd, State.rd_wr_same]
    exact Nat.mod_eq_of_lt hr

/-- A half-lane with its transmitter idle, in a slot. -/
def State.atSlot (s : State) (slot h : Nat) : Prop := (s.half h).tx = .idle ∧ s.rd (LCH_FOM.RATE_SLOT h) = slot

/-- What a rate change does to a half-lane before its receiver is asked for again. -/
def State.rateLeft (s : State) (slot h : Nat) : State :=
  (((s.rxLeaves h).setTx h .idle).setSlot h slot).upH h (fun x => { x with eqPreset := x.fwdPreset, fwdPreset := none, rejected := false })

theorem State.rateLeft_atSlot (s : State) {slot : Nat} (hslot : slot < 16) (h : Nat) : (s.rateLeft slot h).atSlot slot h := by
  constructor
  · rw [State.rateLeft, State.upH_half_proj Half.tx _ h (by intro; rfl), State.setSlot_tx, State.setTx_idle]
  · rw [State.rateLeft, State.upH_rd, State.setSlot_rateSlot _ _ _ hslot]

/-- A half-lane beyond the width of a geared Port gives up its receiver. -/
theorem State.changeRate_beyond {s : State} {q slot h : Nat} (hclaim : s.claim h = some q) (hslot : slot < 16)
    (hb : s.isGeared (q / 2) = true ∧ s.negWidth q ≤ s.logical h) :
    (s.changeRate slot h).atSlot slot h ∧ ((s.changeRate slot h).half h).wantRx = false ∧
    (s.changeRate slot h).rd (LCH_FOM.ADAPT_STATE h) = 0 := by
  obtain ⟨htx, hsl⟩ := s.rateLeft_atSlot hslot h
  have heq : s.changeRate slot h = (s.rateLeft slot h).releaseRx h := by
    simp only [State.changeRate, hclaim, hb, and_self, if_true, State.rateLeft]
  rw [heq, State.releaseRx_wantRx, State.releaseRx_adaptState]
  exact ⟨⟨by rw [State.releaseRx_tx, htx], by rw [State.rd_releaseRx _ _ _ (by rw [fieldName_LCH_FOM_RATE_SLOT]; decide), hsl]⟩, rfl, rfl⟩

/-- Any other half-lane asks for its receiver, which acquires at once where it was adapting. -/
theorem State.changeRate_within {s : State} {q slot h : Nat} (hclaim : s.claim h = some q) (hslot : slot < 16)
    (hb : ¬(s.isGeared (q / 2) = true ∧ s.negWidth q ≤ s.logical h)) :
    (s.changeRate slot h).atSlot slot h ∧ ((s.changeRate slot h).half h).wantRx = true ∧
    (s.changeRate slot h).rd (LCH_FOM.ADAPT_STATE h) =
      if s.rd (LCH_FOM.ADAPT_STATE h) ≠ 0 ∧ s.bit (LCH_FOM.SIGDET h) = true ∧ s.engineUp h = true then 1 else 0 := by
  obtain ⟨htx, hsl⟩ := s.rateLeft_atSlot hslot h
  have heq : s.changeRate slot h =
      if s.rd (LCH_FOM.ADAPT_STATE h) ≠ 0 ∧ s.bit (LCH_FOM.SIGDET h) = true ∧ s.engineUp h = true then
        ((s.rateLeft slot h).requestRx h false).acquire h
      else (s.rateLeft slot h).requestRx h false := by
    simp only [State.changeRate, hclaim, hb, if_false, State.rateLeft]
  have hreq : ((s.rateLeft slot h).requestRx h false).atSlot slot h :=
    ⟨by rw [State.requestRx_tx, htx], by rw [State.rd_requestRx _ _ _ _ (by rw [fieldName_LCH_FOM_RATE_SLOT]; decide), hsl]⟩
  rw [heq]
  split
  · obtain ⟨hatx, hawant, haadapt⟩ := ((s.rateLeft slot h).requestRx h false).acquire_keeps h
    refine ⟨⟨by rw [hatx, hreq.1], ?_⟩, ?_, haadapt⟩
    · rw [State.rd_acquire _ _ _ (by rw [fieldName_LCH_FOM_RATE_SLOT]; decide), hreq.2]
    · rw [hawant, State.requestRx_half_same]
  · exact ⟨hreq, by rw [State.requestRx_half_same], State.requestRx_adaptState _ _ _⟩

/-- What the turns of a loop keep, and one of them makes true with no turn undoing it, is true after the loop. -/
theorem State.each_makes {I P : State → Prop} {s : State} {xs : List Nat} {f : State → Nat → State} {x : Nat} (hx : x ∈ xs)
    (hI : I s) (hinv : ∀ t y, y ∈ xs → I t → I (f t y)) (hmake : ∀ t, I t → P (f t x))
    (hkeep : ∀ t y, y ∈ xs → I t → P t → P (f t y)) : P (s.each xs f) := by
  unfold State.each
  induction xs generalizing s with
  | nil => exact absurd hx List.not_mem_nil
  | cons y xs ih =>
    rw [List.foldl_cons]
    cases hx with
    | head =>
      exact (State.each_induction (P := fun t => I t ∧ P t) xs f ⟨hinv s x List.mem_cons_self hI, hmake s hI⟩ (fun t z hz h =>
        ⟨hinv t z (List.mem_cons_of_mem _ hz) h.1, hkeep t z (List.mem_cons_of_mem _ hz) h.1 h.2⟩)).2
    | tail _ hx =>
      exact ih hx (hinv s y List.mem_cons_self hI) (fun t z hz => hinv t z (List.mem_cons_of_mem _ hz))
        (fun t z hz => hkeep t z (List.mem_cons_of_mem _ hz))

section
variable {h a : Nat} (ha : a ≠ h) (ht : a / 64 = h / 64)
include ha ht

theorem State.rxIdle_adaptState_ne (s : State) : (s.rxIdle h).rd (LCH_FOM.ADAPT_STATE a) = s.rd (LCH_FOM.ADAPT_STATE a) := by
  have hwr : ∀ (t : State) v, (t.wr (LCH_FOM.ADAPT_STATE h) v).rd (LCH_FOM.ADAPT_STATE a) = t.rd (LCH_FOM.ADAPT_STATE a) :=
    fun t v => State.rd_wr_ne t _ _ v (LCH_FOM.ADAPT_STATE_ne ht ha)
  unfold State.rxIdle
  simp +decide [State.noFom, hwr]

theorem State.acquiring_adaptState_ne (s : State) : (s.acquiring h).rd (LCH_FOM.ADAPT_STATE a) = s.rd (LCH_FOM.ADAPT_STATE a) := by
  have hwr : ∀ (t : State) v, (t.wr (LCH_FOM.ADAPT_STATE h) v).rd (LCH_FOM.ADAPT_STATE a) = t.rd (LCH_FOM.ADAPT_STATE a) :=
    fun t v => State.rd_wr_ne t _ _ v (LCH_FOM.ADAPT_STATE_ne ht ha)
  simp +decide [State.acquiring, State.noFom, hwr]

omit ha ht in
theorem State.start_adaptState (s : State) : (∀ c, (s.warmStart h c).rd (LCH_FOM.ADAPT_STATE a) = s.rd (LCH_FOM.ADAPT_STATE a)) ∧
    ∀ e r, (s.coldStart h e r).rd (LCH_FOM.ADAPT_STATE a) = s.rd (LCH_FOM.ADAPT_STATE a) := by
  constructor
  · intro c
    simp +decide [State.warmStart, State.setCoef]
  · intro e r
    simp +decide [State.coldStart, State.setCoef]

theorem State.acquire_adaptState_ne (s : State) : (s.acquire h).rd (LCH_FOM.ADAPT_STATE a) = s.rd (LCH_FOM.ADAPT_STATE a) := by
  obtain ⟨hwarm, hcold⟩ := (s.acquiring h).start_adaptState (h := h) (a := a)
  rcases s.acquire_starts h with ⟨c, hacq⟩ | ⟨e, r, hacq⟩
  · rw [hacq, hwarm, State.acquiring_adaptState_ne ha ht]
  · rw [hacq, hcold, State.acquiring_adaptState_ne ha ht]

theorem State.changeRate_adaptState_ne (s : State) (slot : Nat) :
    (s.changeRate slot h).rd (LCH_FOM.ADAPT_STATE a) = s.rd (LCH_FOM.ADAPT_STATE a) := by
  have hleft : (s.rateLeft slot h).rd (LCH_FOM.ADAPT_STATE a) = s.rd (LCH_FOM.ADAPT_STATE a) := by
    simp +decide [State.rateLeft]
  unfold State.changeRate
  dsimp only
  rw [← State.rateLeft]
  split
  · split
    · rw [State.releaseRx, State.upH_rd, State.rxIdle_adaptState_ne ha ht, hleft]
    · split
      · rw [State.acquire_adaptState_ne ha ht, State.requestRx, State.upH_rd, State.rxIdle_adaptState_ne ha ht, hleft]
      · rw [State.requestRx, State.upH_rd, State.rxIdle_adaptState_ne ha ht, hleft]
  · exact hleft

theorem State.changeRate_rateSlot_ne (s : State) (slot : Nat) :
    (s.changeRate slot h).rd (LCH_FOM.RATE_SLOT a) = s.rd (LCH_FOM.RATE_SLOT a) := by
  have hkey : (LCH_FOM.RATE_SLOT a).key ≠ (LCH_FOM.RATE_SLOT h).key := by
    have hoff := LCH_FOM.off_ne ht ha
    simp only [Cell.key, LCH_FOM.RATE_SLOT, ne_eq]
    omega
  have hleft : (s.rateLeft slot h).rd (LCH_FOM.RATE_SLOT a) = s.rd (LCH_FOM.RATE_SLOT a) := by
    unfold State.rateLeft State.setSlot
    rw [State.upH_rd]
    split
    · simp +decide
    · rw [State.rd_loadTx _ _ _ (by rw [fieldName_LCH_FOM_RATE_SLOT]; decide), State.upH_rd, State.rd_wr_ne _ _ _ _ hkey]
      simp +decide
  unfold State.changeRate
  dsimp only
  rw [← State.rateLeft]
  split
  · split
    · rw [State.rd_releaseRx _ _ _ (by rw [fieldName_LCH_FOM_RATE_SLOT]; decide), hleft]
    · split
      · rw [State.rd_acquire _ _ _ (by rw [fieldName_LCH_FOM_RATE_SLOT]; decide),
          State.rd_requestRx _ _ _ _ (by rw [fieldName_LCH_FOM_RATE_SLOT]; decide), hleft]
      · rw [State.rd_requestRx _ _ _ _ (by rw [fieldName_LCH_FOM_RATE_SLOT]; decide), hleft]
  · exact hleft

end

theorem State.sameMap_changeRate (s : State) (slot h : Nat) : SameMap s (s.changeRate slot h) :=
  Goes.sameMap (Goes.changeRate (Foot.le_refl _) (Goes.refl _ s)) (by decide +kernel)

/-! ## RATE_CHANGE (R112) -/

/-- Whether a half-lane is beyond the width of a geared Port. -/
def State.beyond (s : State) (q h : Nat) : Prop := s.isGeared (q / 2) = true ∧ s.negWidth q ≤ s.logical h

/-- Whether a half-lane was adapting, with a signal and its engine up. -/
def State.reacquires (s : State) (h : Nat) : Prop :=
  s.rd (LCH_FOM.ADAPT_STATE h) ≠ 0 ∧ s.bit (LCH_FOM.SIGDET h) = true ∧ s.engineUp h = true

/-- What the turns of a rate change leave of a half-lane until its own. -/
structure RateFrame (s t : State) (q h : Nat) : Prop where
  map : SameMap s t
  width : t.rd (PRT_TRN_STATUS.NEG_WIDTH (q / 2)) = s.rd (PRT_TRN_STATUS.NEG_WIDTH (q / 2))
  sigdet : t.rd (LCH_FOM.SIGDET h) = s.rd (LCH_FOM.SIGDET h)
  engine : t.rd (ENG_STATUS.STATE (engineOf h)) = s.rd (ENG_STATUS.STATE (engineOf h))

theorem RateFrame.changeRate {s t : State} {q h : Nat} (hf : RateFrame s t q h) (slot y : Nat) :
    RateFrame s (t.changeRate slot y) q h where
  map := hf.map.trans (t.sameMap_changeRate slot y)
  width := by rw [State.rd_changeRate _ _ _ _ (by rw [fieldName_PRT_TRN_STATUS_NEG_WIDTH]; decide), hf.width]
  sigdet := by rw [State.rd_changeRate _ _ _ _ (by rw [fieldName_LCH_FOM_SIGDET]; decide), hf.sigdet]
  engine := by rw [State.rd_changeRate _ _ _ _ (by rw [fieldName_ENG_STATUS_STATE]; decide), hf.engine]

theorem RateFrame.beyond {s t : State} {q h : Nat} (hf : RateFrame s t q h) : t.beyond q h ↔ s.beyond q h := by
  simp only [State.beyond, State.negWidth, hf.map.isGeared, hf.map.width, hf.map.logical, hf.width]

theorem RateFrame.reacquires {s t : State} {q h : Nat} (hf : RateFrame s t q h) :
    t.reacquires h ↔ t.rd (LCH_FOM.ADAPT_STATE h) ≠ 0 ∧ s.bit (LCH_FOM.SIGDET h) = true ∧ s.engineUp h = true := by
  simp only [State.reacquires, State.bit, State.engineUp, hf.sigdet, hf.engine]


/-- What a rate change leaves of a half-lane: its slot, its transmitter idle, and its receiver asked for or given up. -/
structure RateChanged (s t : State) (slot q h : Nat) : Prop where
  at_slot : t.atSlot slot h
  adapt : t.rd (LCH_FOM.ADAPT_STATE h) =
    if s.isGeared (q / 2) = true ∧ s.negWidth q ≤ s.logical h then 0
    else if s.rd (LCH_FOM.ADAPT_STATE h) ≠ 0 ∧ s.bit (LCH_FOM.SIGDET h) = true ∧ s.engineUp h = true then 1 else 0
  want : (t.half h).wantRx = !(s.isGeared (q / 2) && decide (s.negWidth q ≤ s.logical h))

/-- Its own turn changes a half-lane whose receiver is where it was, or already as the turn leaves it. -/
theorem RateFrame.changed {s t : State} {slot q h : Nat} (hclaim : s.claim h = some q) (hslot : slot < 16) (hf : RateFrame s t q h)
    (hadapt : t.rd (LCH_FOM.ADAPT_STATE h) = s.rd (LCH_FOM.ADAPT_STATE h) ∨ RateChanged s t slot q h) :
    RateChanged s (t.changeRate slot h) slot q h := by
  have hclaim' : t.claim h = some q := by rw [hf.map.claim, hclaim]
  by_cases hb : s.beyond q h
  · obtain ⟨hat, hwant, had⟩ := State.changeRate_beyond hclaim' hslot (hf.beyond.mpr hb)
    refine ⟨hat, ?_, ?_⟩
    · rw [had]
      exact (if_pos hb).symm
    · rw [hwant, hb.1, decide_eq_true hb.2]
      rfl
  · obtain ⟨hat, hwant, had⟩ := State.changeRate_within hclaim' hslot (mt hf.beyond.mp hb)
    have hiff : t.reacquires h ↔ s.reacquires h := by
      rw [hf.reacquires]
      rcases hadapt with heq | hdone
      · rw [heq]
        exact Iff.rfl
      · rw [hdone.adapt, if_neg (show ¬(s.isGeared (q / 2) = true ∧ s.negWidth q ≤ s.logical h) from hb)]
        unfold State.reacquires
        split <;> simp_all
    refine ⟨hat, ?_, ?_⟩
    · rw [had, if_neg (show ¬(s.isGeared (q / 2) = true ∧ s.negWidth q ≤ s.logical h) from hb)]
      exact if_congr hiff rfl rfl
    · rw [hwant, eq_comm, Bool.not_eq_true', Bool.and_eq_false_iff, decide_eq_false_iff_not]
      by_cases hg : s.isGeared (q / 2) = true
      · exact Or.inr (fun hle => hb ⟨hg, hle⟩)
      · exact Or.inl (by simpa using hg)

/-- The turn of another half-lane of the tile leaves it. -/
theorem RateChanged.other {s t : State} {slot q h y : Nat} (hd : RateChanged s t slot q h) (hne : h ≠ y) (ht : h / 64 = y / 64) :
    RateChanged s (t.changeRate slot y) slot q h where
  at_slot := ⟨by rw [State.changeRate_half_ne hne, hd.at_slot.1], by rw [State.changeRate_rateSlot_ne hne ht, hd.at_slot.2]⟩
  adapt := by rw [State.changeRate_adaptState_ne hne ht, hd.adapt]
  want := by rw [State.changeRate_half_ne hne, hd.want]

theorem State.changeRates_changed {s : State} {slot q h : Nat} (hslot : slot < 16) (hq : q ∈ s.stdSides (q / 2)) (hm : h ∈ s.dataHalves q) :
    RateChanged s (s.each (s.stdHalves (q / 2)) (fun t h => t.changeRate slot h)) slot q h := by
  have hmem := State.mem_stdHalves hq hm
  obtain ⟨hclaim, -⟩ := State.claim_of_mem_dataHalves hm
  refine State.each_makes (I := fun t => RateFrame s t q h ∧
      (t.rd (LCH_FOM.ADAPT_STATE h) = s.rd (LCH_FOM.ADAPT_STATE h) ∨ RateChanged s t slot q h))
    (P := fun t => RateChanged s t slot q h) hmem
    ⟨⟨SameMap.refl s, rfl, rfl, rfl⟩, Or.inl rfl⟩ ?_ (fun t ht => ht.1.changed hclaim hslot ht.2) ?_
  · intro t y hy ht
    refine ⟨ht.1.changeRate slot y, ?_⟩
    by_cases hyh : h = y
    · exact Or.inr (hyh ▸ ht.1.changed hclaim hslot ht.2)
    · have htile : h / 64 = y / 64 := by rw [State.tile_of_mem_stdHalves hmem, State.tile_of_mem_stdHalves hy]
      exact ht.2.imp (fun h0 => by rw [State.changeRate_adaptState_ne hyh htile, h0]) (fun hd => hd.other hyh htile)
  · intro t y hy ht hd
    by_cases hyh : h = y
    · exact hyh ▸ ht.1.changed hclaim hslot ht.2
    · exact hd.other hyh (by rw [State.tile_of_mem_stdHalves hmem, State.tile_of_mem_stdHalves hy])

/-- The sides' slots shown, and the change counted. -/
def State.showRate (s : State) (p slot : Nat) : State :=
  (s.each (s.stdSides p) (fun t q => t.wr (PRT_DP_STATUS.SLOT_NOW q) slot)).satUp (PRT_TRN_EVENTS.RATE_CHG_CNT p)

theorem State.rd_showRate (s : State) (p slot : Nat) {c : Cell} (h1 : ∀ q, fieldName c.key ≠ fieldName (PRT_DP_STATUS.SLOT_NOW q).key)
    (h2 : fieldName c.key ≠ fieldName (PRT_TRN_EVENTS.RATE_CHG_CNT p).key) : (s.showRate p slot).rd c = s.rd c := by
  unfold State.showRate State.satUp
  rw [State.rd_wr_name _ _ _ _ h2, State.rd_each s _ _ _ (fun t q _ => State.rd_wr_name _ _ _ _ (h1 q))]

/-- The slots of sides with one place are one field. -/
theorem PRT_DP_STATUS.SLOT_NOW_eq {q y : Nat} (h : (PRT_DP_STATUS.SLOT_NOW q).key = (PRT_DP_STATUS.SLOT_NOW y).key) :
    PRT_DP_STATUS.SLOT_NOW q = PRT_DP_STATUS.SLOT_NOW y := by
  unfold PRT_DP_STATUS.SLOT_NOW PRT_DP_STATUS.A_SLOT_NOW PRT_DP_STATUS.B_SLOT_NOW at *
  split at h <;> split at h <;> simp_all only [Cell.key, Cell.mk.injEq, if_true, if_false, and_true]
  all_goals
    unfold PRT_DP_STATUS.off at *
    omega

theorem State.showRate_slotNow {s : State} {p slot q : Nat} (hslot : slot < 16) (hq : q ∈ s.stdSides p) :
    (s.showRate p slot).rd (PRT_DP_STATUS.SLOT_NOW q) = slot := by
  have hwidth : ∀ k, (PRT_DP_STATUS.SLOT_NOW k).width = 4 := fun k => by unfold PRT_DP_STATUS.SLOT_NOW; split <;> rfl
  have hcnt : fieldName (PRT_DP_STATUS.SLOT_NOW q).key ≠ fieldName (PRT_TRN_EVENTS.RATE_CHG_CNT p).key := by
    unfold PRT_DP_STATUS.SLOT_NOW
    split <;> simp +decide
  have hmake : ∀ t : State, (t.wr (PRT_DP_STATUS.SLOT_NOW q) slot).rd (PRT_DP_STATUS.SLOT_NOW q) = slot := fun t => by
    rw [State.rd_wr_same, hwidth]
    exact Nat.mod_eq_of_lt hslot
  unfold State.showRate State.satUp
  rw [State.rd_wr_name _ _ _ _ hcnt]
  refine State.each_establishes (P := fun t => t.rd (PRT_DP_STATUS.SLOT_NOW q) = slot) hq hmake (fun t y ht => ?_)
  by_cases hk : PRT_DP_STATUS.SLOT_NOW q = PRT_DP_STATUS.SLOT_NOW y
  · rw [← hk, hmake]
  · rw [State.rd_wr_ne _ _ _ _ (mt PRT_DP_STATUS.SLOT_NOW_eq hk), ht]

theorem exec_rateChange_changes (s : State) (p : PortId) (slot : Fin 7) (q h : Nat) (htrn : s.trn p = tFORWARD) (hq : q ∈ s.stdSides p)
    (hnow : s.rd (PRT_DP_STATUS.SLOT_NOW q) ≠ slot) (hm : h ∈ s.dataHalves q) : ∃ t, exec (.rateChange p slot) s = .next t ∧
    t.rd (PRT_DP_STATUS.SLOT_NOW q) = slot ∧ t.rd (LCH_FOM.RATE_SLOT h) = slot ∧ (t.half h).tx = .idle ∧
    t.rd (LCH_FOM.ADAPT_STATE h) = (if s.isGeared p = true ∧ s.negWidth q ≤ s.logical h then 0 else if s.rd (LCH_FOM.ADAPT_STATE h) ≠ 0 ∧ s.bit (LCH_FOM.SIGDET h) = true ∧ s.engineUp h = true then 1 else 0) ∧
    (t.half h).wantRx = !(s.isGeared p && decide (s.negWidth q ≤ s.logical h)) ∧
    t.rd (PRT_TRN_EVENTS.RATE_CHG_CNT p) = satInc 8 (s.rd (PRT_TRN_EVENTS.RATE_CHG_CNT p)) := by
  have hp := State.half_of_mem_stdSides hq
  have hslot : slot.val < 16 := by omega
  have hany : (s.stdSides p).any (fun q => s.rd (PRT_DP_STATUS.SLOT_NOW q) != slot.val) = true :=
    List.any_eq_true.mpr ⟨q, hq, by simpa using hnow⟩
  generalize hu : s.each (s.stdHalves p) (fun t h => t.changeRate slot h) = u
  have hchanged : RateChanged s u slot q h := by
    rw [← hu, ← hp]
    exact State.changeRates_changed hslot (hp ▸ hq) hm
  have hmap : SameMap s u := by
    rw [← hu]
    exact State.each_induction (P := fun t => SameMap s t) _ _ (SameMap.refl s) (fun t x _ ht => ht.trans (t.sameMap_changeRate slot x))
  have hcnt : u.rd (PRT_TRN_EVENTS.RATE_CHG_CNT p) = s.rd (PRT_TRN_EVENTS.RATE_CHG_CNT p) := by
    rw [← hu]
    exact State.rd_each s _ _ _ (fun t x _ => State.rd_changeRate _ _ _ _ (by rw [fieldName_PRT_TRN_EVENTS_RATE_CHG_CNT]; decide))
  have hexec : exec (.rateChange p slot) s = .next ((u.showRate p slot).noted s p) := by
    have hne : tFORWARD ≠ tEQ := by decide
    rw [← hu]
    simp [exec_rateChange_runs, execRateChange, htrn, hne, hany, State.showRate]
  have hother : ∀ c : Cell, (∀ k, fieldName c.key ≠ fieldName (PRT_DP_STATUS.SLOT_NOW k).key) →
      fieldName c.key ≠ fieldName (PRT_TRN_EVENTS.RATE_CHG_CNT p).key → ((u.showRate p slot).noted s p).rd c = u.rd c :=
    fun c h1 h2 => by rw [State.rd_noted, State.rd_showRate _ _ _ h1 h2]
  have hhalf : ((u.showRate p slot).noted s p).half h = u.half h := by
    rw [State.noted_half]
    exact State.each_half_proj id h u _ _ (fun t x => by simp)
  refine ⟨_, hexec, ?_, ?_, ?_, ?_, ?_, ?_⟩
  · rw [State.rd_noted, State.showRate_slotNow hslot (by rwa [hmap.stdSides])]
  · rw [hother _ (fun k => by unfold PRT_DP_STATUS.SLOT_NOW; split <;> simp +decide) (by simp), hchanged.at_slot.2]
  · rw [hhalf, hchanged.at_slot.1]
  · rw [hother _ (fun k => by unfold PRT_DP_STATUS.SLOT_NOW; split <;> simp +decide) (by simp), hchanged.adapt, hp]
  · rw [hhalf, hchanged.want, hp]
  · have hslots : ∀ k, fieldName (PRT_TRN_EVENTS.RATE_CHG_CNT p).key ≠ fieldName (PRT_DP_STATUS.SLOT_NOW k).key := fun k => by
      unfold PRT_DP_STATUS.SLOT_NOW
      split <;> simp +decide
    rw [State.rd_noted, State.showRate, State.satUp, State.rd_wr_same,
      State.rd_each u _ _ _ (fun t k _ => State.rd_wr_name _ _ _ _ (hslots k)), hcnt]
    simp [satInc, PRT_TRN_EVENTS.RATE_CHG_CNT]

/-! ## Receiver detection and the exit from electrical idle (R100 to R102) -/

theorem exec_receiverDetectScan_finds (s : State) (q : SideId) (found : List HalfId) (h : Nat) (htrn : s.trn (q / 2) = tDETECT)
    (hstd : s.isSeg q = false) (hm : h ∈ s.dataHalves q) : ∃ t, exec (.receiverDetectScan q found) s = .next t ∧
    (t.half h).found = (found.map Fin.val).contains h ∧ t.rd (PRT_TRN_STATUS.STATE (q / 2)) = tDETECT := by
  have hexec : ∃ t, exec (.receiverDetectScan q found) s = .next t ∧ (t.half h).found = (found.map Fin.val).contains h := by
    refine ⟨_, next_pos ⟨htrn, by simp [hstd]⟩, ?_⟩
    dsimp only
    rw [State.noted_half, State.pathSoon_half, State.upP_half]
    have hfound : ∀ t : State, t = s.each (s.dataHalves q) (fun t h => t.upH h (fun x => { x with found := (found.map Fin.val).contains h })) →
        (t.half h).found = (found.map Fin.val).contains h := by
      rintro t rfl
      refine State.each_establishes (P := fun t => (t.half h).found = (found.map Fin.val).contains h) hm
        (fun t => by rw [State.upH_half_same]) (fun t y ht => ?_)
      by_cases hy : h = y
      · rw [hy, State.upH_half_same]
      · rw [State.upH_half_ne _ _ hy, ht]
    split
    · rw [State.each_half_proj Half.found h _ _ _ (fun t y => ?_), hfound _ rfl]
      split
      · exact State.upH_half_proj Half.found t _ (by intro; rfl) h
      · rfl
    · rw [State.each_half_proj Half.found h _ _ _ (fun t y => State.upH_half_proj Half.found t _ (by intro; rfl) h), hfound _ rfl]
  obtain ⟨t, ht, hf⟩ := hexec
  refine ⟨t, ht, hf, ?_⟩
  rw [← htrn, State.trn]
  exact (exec_goes ht).rd_misses (by rw [fieldName_PRT_TRN_STATUS_STATE]; rfl)

theorem State.trn_enterForward (s : State) (p : Nat) (warm : Option Bool) : (s.enterForward p warm).trn p = tFORWARD := by
  have hset : (s.setTrn p tFORWARD).rd (PRT_TRN_STATUS.STATE p) = tFORWARD := s.setTrn_trn p tFORWARD
  unfold State.enterForward
  cases warm with
  | none =>
    rw [State.trn, State.rd_farStart _ _ _ _ (by rw [fieldName_PRT_TRN_STATUS_STATE]; decide),
      State.rd_showStd _ _ _ (by rw [fieldName_PRT_TRN_STATUS_STATE]; decide), hset]
  | some w =>
    dsimp only
    rw [State.trn, State.rd_farStart _ _ _ _ (by rw [fieldName_PRT_TRN_STATUS_STATE]; decide),
      State.rd_showStd _ _ _ (by rw [fieldName_PRT_TRN_STATUS_STATE]; decide),
      State.rd_each _ _ _ _ (fun t h _ => State.rd_requestRx _ _ _ _ (by rw [fieldName_PRT_TRN_STATUS_STATE]; decide)), hset]

theorem exec_electricalIdleExit_forwards (s : State) (h : HalfId) (q : Nat) (hclaim : s.claim h = some q) (hstd : s.isSeg q = false)
    (hsig : s.bit (LCH_FOM.SIGDET h) = true) (hkept : s.kept (q / 2) = false) (htrn : s.trn (q / 2) = tDETECT)
    (hboth : s.bothPresent (q / 2) = true) :
    ∃ t, exec (.electricalIdleExit h) s = .next t ∧ t.rd (PRT_TRN_STATUS.STATE (q / 2)) = tFORWARD := by
  have hexec : exec (.electricalIdleExit h) s = .next (((s.enterForward (q / 2) (some false)).each
      (((s.enterForward (q / 2) (some false)).stdHalves (q / 2)).filter
        (fun g => (s.enterForward (q / 2) (some false)).bit (LCH_FOM.SIGDET g))) State.startAcross).noted s (q / 2)) := by
    simp [exec_electricalIdleExit_runs, execElectricalIdleExit, hclaim, hstd, hsig, hkept, htrn, hboth]
  refine ⟨_, hexec, ?_⟩
  rw [State.rd_noted, State.rd_each _ _ _ _ (fun t g _ => State.rd_startAcross _ _ _ (by rw [fieldName_PRT_TRN_STATUS_STATE]; decide))]
  exact s.trn_enterForward _ _

/-- A transmitter that no transaction has stopped starts. -/
theorem State.setTx_start {s : State} {a : Nat} (hstop : s.txStopped a = false) : ((s.setTx a .start).half a).tx = .start := by
  simp [State.setTx, hstop, State.showTx_half]

theorem exec_electricalIdleExit_starts (s : State) (h : HalfId) (q a : Nat) (hclaim : s.claim h = some q) (htt : s.isTT (q / 2) = true)
    (hsig : s.bit (LCH_FOM.SIGDET h) = true) (hkept : s.kept (q / 2) = false) (htrn : s.trn (q / 2) = tFORWARD)
    (hacross : s.across h = some a) (hidle : (s.half a).tx = .idle) (hstop : s.txStopped a = false)
    (hwidth : s.logical h < s.negWidth q) (hl0p : s.l0pIdle h = false) :
    ∃ t, exec (.electricalIdleExit h) s = .next t ∧ (t.half a).tx = .start := by
  have hne : tFORWARD ≠ tDETECT := by decide
  have hexec : exec (.electricalIdleExit h) s = .next (s.setTx a .start) := by
    simp [exec_electricalIdleExit_runs, execElectricalIdleExit, State.startAcross, hclaim, State.isSeg_of_isTT htt, hsig, hkept, htrn, hne, htt, hacross, hidle,
      hwidth, hl0p]
  exact ⟨_, hexec, State.setTx_start hstop⟩

/-! ## Margin commands (R119 to R121) -/

theorem exec_marginCommand_named {s : State} {h : HalfId} {q : Nat} {r : RxName} (cmd : MarginCmd) (hclaim : s.claim h = some q)
    (hstd : s.isSeg q = false) (htrn : s.trn (q / 2) = tACTIVE) (hslot : 3 ≤ s.rd (LCH_FOM.RATE_SLOT h)) (hname : s.rxName q = some r) :
    exec (.marginCommand h ⟨r, cmd⟩) s = .next (s.marginDo h none cmd) := by
  simp [exec_marginCommand_runs, execMarginCommand, hclaim, hstd, htrn, hname, Nat.not_lt.mpr hslot]

/-- An answer to a command of the lane itself touches no register and no half-lane. -/
theorem State.answerMargin_near (s : State) (h value : Nat) :
    (s.answerMargin h none value).regs = s.regs ∧ ∀ a, (s.answerMargin h none value).half a = s.half a := by
  unfold State.answerMargin
  split
  case h_1 heq => cases heq
  case h_2 => split <;> exact ⟨rfl, fun a => rfl⟩
  case h_3 => exact ⟨rfl, fun a => rfl⟩

theorem exec_marginCommand_report (s : State) (h : HalfId) (q item : Nat) (r : RxName) (hclaim : s.claim h = some q)
    (htt : s.isTT (q / 2) = true) (htrn : s.trn (q / 2) = tACTIVE) (hslot : 3 ≤ s.rd (LCH_FOM.RATE_SLOT h))
    (hname : s.rxName q = some r) :
    exec (.marginCommand h ⟨r, .report item⟩) s = .next (s.emit (.marginReply h (marginCaps.getD item 0))) := by
  rw [exec_marginCommand_named _ hclaim (State.isSeg_of_isTT htt) htrn hslot hname]
  simp only [State.marginDo, State.answerMargin, hclaim, htt, if_true]

theorem exec_marginCommand_step (s : State) (h : HalfId) (q : Nat) (axis : Fin 4) (offset : Nat) (r : RxName) (hclaim : s.claim h = some q)
    (hstd : s.isSeg q = false) (htrn : s.trn (q / 2) = tACTIVE) (hslot : 3 ≤ s.rd (LCH_FOM.RATE_SLOT h))
    (hfree : s.holdsSampler h = false) (hname : s.rxName q = some r) : ∃ t, exec (.marginCommand h ⟨r, .step axis offset⟩) s = .next t ∧
    (t.half h).margin = some ⟨axis, offset, none⟩ ∧ (t.half h).marginWait = none ∧ t.regs = s.regs := by
  refine ⟨_, exec_marginCommand_named _ hclaim hstd htrn hslot hname, ?_⟩
  simp only [State.marginDo, hfree, Bool.false_eq_true, if_false, State.serveMargin]
  obtain ⟨hregs, hhalf⟩ := State.answerMargin_near
    ((s.takeFree).2.upH h (fun x => { x with margin := some ⟨axis, offset, none⟩, marginWait := none })) h (s.takeFree).1
  rw [hhalf, hregs, State.upH_half_same]
  exact ⟨rfl, rfl, rfl⟩

theorem exec_marginCommand_normal (s : State) (h : HalfId) (q : Nat) (r : RxName) (hclaim : s.claim h = some q) (hstd : s.isSeg q = false)
    (htrn : s.trn (q / 2) = tACTIVE) (hslot : 3 ≤ s.rd (LCH_FOM.RATE_SLOT h)) (hname : s.rxName q = some r) :
    ∃ t, exec (.marginCommand h ⟨r, .normal⟩) s = .next t ∧ (t.half h).margin = none ∧ (t.half h).marginWait = none ∧
    t.regs = s.regs := by
  refine ⟨_, exec_marginCommand_named _ hclaim hstd htrn hslot hname, ?_⟩
  simp only [State.marginDo]
  obtain ⟨hregs, hhalf⟩ := State.answerMargin_near (s.upH h (fun x => { x with margin := none, marginWait := none })) h 0
  rw [hhalf, hregs, State.upH_half_same]
  exact ⟨rfl, rfl, rfl⟩

theorem exec_marginCommand_other (s : State) (h : HalfId) (q : Nat) (r : RxName) (cmd : MarginCmd) (hclaim : s.claim h = some q)
    (hnear : s.rxName q ≠ some r) (hfar : s.rxName (otherSide q) ≠ some r) : exec (.marginCommand h ⟨r, cmd⟩) s = .next s := by
  simp [exec_marginCommand_runs, execMarginCommand, hclaim, hnear, hfar]

/-- Settles O22. -/
theorem detectionRateChangeAndMargining : Obligations.DetectionRateChangeAndMargining :=
  ⟨exec_receiverDetectScan_finds, exec_electricalIdleExit_forwards, exec_electricalIdleExit_starts, exec_rateChange_changes,
    exec_marginCommand_report, exec_marginCommand_step, exec_marginCommand_normal, exec_marginCommand_other⟩

end Sys2Proof.Machine
end

section
/-! PROOFS. Low-power states of the link (04, R115, R116). -/

set_option Elab.async false

namespace Sys2Proof.Machine

@[simp] theorem State.rxLeaves_ports (s : State) (h : Nat) : (s.rxLeaves h).ports = s.ports :=
  (Goes.rxLeaves (Foot.le_refl _) (Goes.refl _ s)).part .ports (by decide)
@[simp] theorem State.rxLeaves_portx (s : State) (h : Nat) (p' : Nat) : (s.rxLeaves h).portx p' = s.portx p' := by
  rw [State.portx, State.rxLeaves_ports, ← State.portx]
@[simp] theorem State.setTx_ports (s : State) (h : Nat) (m : TxMode) : (s.setTx h m).ports = s.ports :=
  (Goes.setTx (Foot.le_refl _) (Goes.refl _ s)).part .ports (by decide)
@[simp] theorem State.setTx_portx (s : State) (h : Nat) (m : TxMode) (p' : Nat) : (s.setTx h m).portx p' = s.portx p' := by
  rw [State.portx, State.setTx_ports, ← State.portx]
/-! ## Marks of L0s -/

theorem otherSide_half (q : Nat) : otherSide q / 2 = q / 2 := by
  unfold otherSide
  split <;> omega

theorem otherSide_parity (q : Nat) : otherSide q % 2 = 0 ↔ ¬q % 2 = 0 := by
  unfold otherSide
  split <;> omega

theorem State.markL0s_same (s : State) (q : Nat) (b : Bool) : (s.markL0s q b).inL0s q = b := by
  unfold State.inL0s State.markL0s
  rw [State.upP_portx_same]
  split <;> rfl

theorem State.markL0s_other (s : State) (q : Nat) (b : Bool) : (s.markL0s q b).inL0s (otherSide q) = s.inL0s (otherSide q) := by
  unfold State.inL0s State.markL0s
  rw [otherSide_half, State.upP_portx_same]
  have hpar := otherSide_parity q
  by_cases hq : q % 2 = 0
  · simp only [hq, if_true, if_neg (hpar.not.mpr (not_not.mpr hq))]
  · simp only [hq, if_false, if_pos (hpar.mpr hq)]

/-- What a Port's record holds of L0s. -/
def PortX.l0s (x : PortX) : Bool × Bool := (x.l0sA, x.l0sB)

theorem State.inL0s_congr {s t : State} {q : Nat} (h : (t.portx (q / 2)).l0s = (s.portx (q / 2)).l0s) : t.inL0s q = s.inL0s q := by
  obtain ⟨ha, hb⟩ := Prod.mk.inj h
  unfold State.inL0s
  rw [ha, hb]

theorem State.noted_l0s (s old : State) (p k : Nat) : ((s.noted old p).portx k).l0s = (s.portx k).l0s := by
  have hset : (s.settled old p).portx k = s.portx k := by
    unfold State.settled
    split <;> rfl
  unfold State.noted
  split
  · rw [hset]
  · unfold State.bump State.publish
    rw [State.setEvq_portx]
    by_cases hk : k = p
    · subst hk
      rw [State.upP_portx_same, State.upP_portx_same]
      have hl0s := congrArg PortX.l0s hset
      exact hl0s
    · rw [State.upP_portx_ne _ _ hk, State.upP_portx_ne _ _ hk, hset]

theorem State.setTrn_lowpower_l0s (s : State) (p : Nat) : ((s.setTrn p tLOWPOWER).portx p).l0s = (s.portx p).l0s := by
  have hne : tLOWPOWER ≠ tACTIVE ∧ tLOWPOWER ≠ tDETECT ∧ tLOWPOWER ≠ tFORWARD := by decide
  obtain ⟨h1, h2, h3⟩ := hne
  have heach : ∀ (t : State) (xs : List Nat), (t.each xs (fun t h => (t.rxLeaves h).upH h (fun x =>
      { x with margin := none, marginWait := none }))).portx p = t.portx p := fun t xs =>
    State.each_induction (P := fun u => u.portx p = t.portx p) xs _ rfl (fun u a _ hu => by rw [State.upH_portx, State.rxLeaves_portx, hu])
  unfold State.setTrn
  simp only [h1, h2, h3, false_and, if_false, if_true]
  split
  · rw [heach, State.upP_portx_same]
    split <;> rfl
  · rw [State.upP_portx_same]
    split <;> rfl

theorem State.setTrn_lpKind {v : Nat} (s : State) (p : Nat) (hv : v ≠ tLOWPOWER) : (s.setTrn p v).rd (PRT_TRN_STATUS.LP_KIND p) = 0 := by
  have heach : ∀ (t : State) (xs : List Nat), (t.each xs (fun t h => (t.rxLeaves h).upH h (fun x =>
      { x with margin := none, marginWait := none }))).rd (PRT_TRN_STATUS.LP_KIND p) = t.rd (PRT_TRN_STATUS.LP_KIND p) :=
    fun t xs => State.rd_each t _ xs _ (fun u a _ => by
      rw [State.upH_rd, State.rd_rxLeaves _ _ _ (by rw [fieldName_PRT_TRN_STATUS_LP_KIND]; decide)])
  unfold State.setTrn
  simp only [hv, if_false]
  split
  · simp
  · split <;> simp [heach]

/-! ## Entry (R115, Table 6) -/

section
variable {s : State} {q : SideId} (htrn : s.trn (q / 2) = tACTIVE) (hstd : s.isSeg q = false)
include htrn hstd

/-- L1 and L2 as the device enters them. -/
def State.lowpower (s : State) (p kind : Nat) : State :=
  let s1 := ((s.setTrn p tLOWPOWER).wr (PRT_TRN_STATUS.LP_KIND p) kind).stdIdle p
  ((s1.each (s1.stdHalves p) State.releaseRx).pathSoon p).noted s p

omit htrn hstd in
theorem State.lowpower_shown (s : State) (p : Nat) {kind : Nat} (hk : kind < 8) :
    (s.lowpower p kind).rd (PRT_TRN_STATUS.STATE p) = tLOWPOWER ∧ (s.lowpower p kind).rd (PRT_TRN_STATUS.LP_KIND p) = kind := by
  unfold State.lowpower
  constructor
  · rw [State.rd_noted, State.rd_pathSoon _ _ _ (by rw [fieldName_PRT_TRN_STATUS_STATE]; decide),
      State.rd_each _ _ _ _ (fun t h _ => State.rd_releaseRx _ _ _ (by rw [fieldName_PRT_TRN_STATUS_STATE]; decide)),
      State.rd_stdIdle _ _ _ (by rw [fieldName_PRT_TRN_STATUS_STATE]; decide), State.rd_wr_name _ _ _ _ (by simp)]
    exact s.setTrn_trn p tLOWPOWER
  · rw [State.rd_noted, State.rd_pathSoon _ _ _ (by rw [fieldName_PRT_TRN_STATUS_LP_KIND]; decide),
      State.rd_each _ _ _ _ (fun t h _ => State.rd_releaseRx _ _ _ (by rw [fieldName_PRT_TRN_STATUS_LP_KIND]; decide)),
      State.rd_stdIdle _ _ _ (by rw [fieldName_PRT_TRN_STATUS_LP_KIND]; decide), State.rd_wr_same]
    exact Nat.mod_eq_of_lt (show kind < 2 ^ 3 from hk)

theorem exec_lowpowerEntry_l1 : exec (.lowpowerEntry q .l1) s = .next (s.lowpower (q / 2) 2) := by
  simp [exec_lowpowerEntry_runs, execLowpowerEntry, htrn, hstd, State.lowpower]

theorem exec_lowpowerEntry_l2 : exec (.lowpowerEntry q .l2) s = .next (s.lowpower (q / 2) 3) := by
  simp [exec_lowpowerEntry_runs, execLowpowerEntry, htrn, hstd, State.lowpower]

theorem exec_lowpowerEntry_l0p (mask : Nat) : ∃ t, exec (.lowpowerEntry q (.l0p mask)) s = .next t ∧
    t.rd (PRT_TRN_STATUS.L0P (q / 2)) = ofBool (mask % 2 ^ 16 != 0) ∧ t.rd (PRT_TRN_STATUS.STATE (q / 2)) = tACTIVE := by
  have hcond : ¬(s.trn (q / 2) ≠ tACTIVE ∨ s.isSeg q = true) := by simp [htrn, hstd]
  have hturn : ∀ (c : Cell), fp_rxLeaves.misses (fieldName c.key) = true → fp_setTx.misses (fieldName c.key) = true →
      fp_releaseRx.misses (fieldName c.key) = true → ∀ (t : State) h, (((t.rxLeaves h).setTx h .idle).releaseRx h).rd c = t.rd c :=
    fun c h1 h2 h3 t h => by rw [State.rd_releaseRx _ _ _ h3, State.rd_setTx _ _ _ _ h2, State.rd_rxLeaves _ _ _ h1]
  refine ⟨_, (next_neg (by simp)).trans (next_neg hcond), ?_, ?_⟩
  · dsimp only
    rw [State.rd_noted, State.rd_pathSoon _ _ _ (by rw [fieldName_PRT_TRN_STATUS_L0P]; decide),
      State.rd_each _ _ _ _ (fun t h _ => hturn _ (by rw [fieldName_PRT_TRN_STATUS_L0P]; decide)
        (by rw [fieldName_PRT_TRN_STATUS_L0P]; decide) (by rw [fieldName_PRT_TRN_STATUS_L0P]; decide) t h)]
    cases (mask % 2 ^ 16 != 0) <;> simp [State.put, ofBool, PRT_TRN_STATUS.L0P]
  · dsimp only
    rw [State.rd_noted, State.rd_pathSoon _ _ _ (by rw [fieldName_PRT_TRN_STATUS_STATE]; decide),
      State.rd_each _ _ _ _ (fun t h _ => hturn _ (by rw [fieldName_PRT_TRN_STATUS_STATE]; decide)
        (by rw [fieldName_PRT_TRN_STATUS_STATE]; decide) (by rw [fieldName_PRT_TRN_STATUS_STATE]; decide) t h),
      State.put, State.rd_wr_name _ _ _ _ (by simp), State.upP_rd]
    exact htrn

end

/-- What entering L0s does on a direction, once the Port shows it. -/
def State.restL0s (s : State) (q : Nat) : State :=
  let s1 := s.markL0s q true
  let s2 := s1.each (s1.dataHalves q) (fun t h => t.upH h (fun x => { x with warmLeft := 2 }))
  s2.each (s2.dataHalves (otherSide q)) (fun t h => t.setTx h .idle)

theorem State.restL0s_portx (s : State) (q k : Nat) : (s.restL0s q).portx k = (s.markL0s q true).portx k := by
  unfold State.restL0s
  exact (State.each_induction (P := fun u => u.portx k = _) _ _ rfl (fun u a _ hu => (u.setTx_portx a .idle k).trans hu)).trans
    (State.each_induction (P := fun u => u.portx k = _) _ _ rfl (fun u a _ hu => (State.upH_portx u a _ k).trans hu))

theorem State.restL0s_rd (s : State) (q : Nat) {c : Cell} (hc : fp_setTx.misses (fieldName c.key) = true) :
    (s.restL0s q).rd c = s.rd c := by
  unfold State.restL0s
  rw [State.rd_each _ _ _ _ (fun t h _ => State.rd_setTx _ _ _ _ hc), State.rd_each _ _ _ _ (fun t h _ => State.upH_rd t h _ c),
    State.markL0s, State.upP_rd]

theorem exec_lowpowerEntry_l0s (s : State) (q : SideId) (htrn : s.trn (q / 2) = tACTIVE) (htt : s.isTT (q / 2) = true)
    (hout : s.inL0s q = false) : ∃ t, exec (.lowpowerEntry q .l0s) s = .next t ∧ t.inL0s q = true ∧
    t.rd (PRT_TRN_STATUS.STATE (q / 2)) = tLOWPOWER ∧ t.rd (PRT_TRN_STATUS.LP_KIND (q / 2)) = 1 := by
  have hexec : exec (.lowpowerEntry q .l0s) s =
      .next ((((s.setTrn (q / 2) tLOWPOWER).wr (PRT_TRN_STATUS.LP_KIND (q / 2)) 1).restL0s q).noted s (q / 2)) := by
    simp [exec_lowpowerEntry_runs, execLowpowerEntry, State.enterL0s, htt, hout, htrn, State.restL0s]
  refine ⟨_, hexec, ?_, ?_, ?_⟩
  · rw [State.inL0s_congr (State.noted_l0s _ _ _ _), State.inL0s_congr (congrArg PortX.l0s (State.restL0s_portx _ _ _)),
      State.markL0s_same]
  · rw [State.rd_noted, State.restL0s_rd _ _ (by rw [fieldName_PRT_TRN_STATUS_STATE]; decide), State.rd_wr_name _ _ _ _ (by simp)]
    exact s.setTrn_trn _ _
  · rw [State.rd_noted, State.restL0s_rd _ _ (by rw [fieldName_PRT_TRN_STATUS_LP_KIND]; decide), State.rd_wr_same]
    rfl

theorem exec_lowpowerEntry_l0s_second (s : State) (q : SideId) (htrn : s.trn (q / 2) = tLOWPOWER)
    (hkind : s.rd (PRT_TRN_STATUS.LP_KIND (q / 2)) = 1) (htt : s.isTT (q / 2) = true) (hout : s.inL0s q = false)
    (hin : s.inL0s (otherSide q) = true) : ∃ t, exec (.lowpowerEntry q .l0s) s = .next t ∧ t.inL0s q = true ∧
    t.inL0s (otherSide q) = true ∧ t.rd (PRT_TRN_STATUS.STATE (q / 2)) = tLOWPOWER := by
  have hexec : exec (.lowpowerEntry q .l0s) s = .next ((s.restL0s q).noted s (q / 2)) := by
    have hne : tLOWPOWER ≠ tACTIVE := by decide
    simp [exec_lowpowerEntry_runs, execLowpowerEntry, State.enterL0s, htt, hout, htrn, hkind, hne, State.restL0s]
  refine ⟨_, hexec, ?_, ?_, ?_⟩
  · rw [State.inL0s_congr (State.noted_l0s _ _ _ _), State.inL0s_congr (congrArg PortX.l0s (State.restL0s_portx _ _ _)),
      State.markL0s_same]
  · rw [State.inL0s_congr (State.noted_l0s _ _ _ _), State.inL0s_congr (congrArg PortX.l0s (State.restL0s_portx _ _ _)),
      State.markL0s_other, hin]
  · rw [State.rd_noted, State.restL0s_rd _ _ (by rw [fieldName_PRT_TRN_STATUS_STATE]; decide)]
    exact htrn

/-! ## Exit (R100, R102, R115, R116) -/

/-- The transmitters that answer a direction back from L0s forward again. -/
def State.forwardAgain (s : State) (q : Nat) : State :=
  s.each (s.negHalves (otherSide q)) (fun t h => if (t.half h).tx = .idle ∧ !t.l0pIdle h then t.setTx h .forward else t)

theorem State.forwardAgain_rd (s : State) (q : Nat) {c : Cell} (hc : fp_setTx.misses (fieldName c.key) = true) :
    (s.forwardAgain q).rd c = s.rd c := by
  refine State.rd_each _ _ _ _ (fun t h _ => ?_)
  split
  · exact State.rd_setTx _ _ _ _ hc
  · rfl

theorem State.forwardAgain_portx (s : State) (q k : Nat) : (s.forwardAgain q).portx k = s.portx k := by
  refine State.each_induction (P := fun u => u.portx k = s.portx k) _ _ rfl (fun u a _ hu => ?_)
  split
  · rw [State.setTx_portx, hu]
  · exact hu

theorem State.enterForward_lpKind (s : State) (p : Nat) (warm : Option Bool) :
    (s.enterForward p warm).rd (PRT_TRN_STATUS.LP_KIND p) = 0 := by
  have hset := State.setTrn_lpKind (v := tFORWARD) s p (by decide)
  unfold State.enterForward
  cases warm with
  | none =>
    rw [State.rd_farStart _ _ _ _ (by rw [fieldName_PRT_TRN_STATUS_LP_KIND]; decide),
      State.rd_showStd _ _ _ (by rw [fieldName_PRT_TRN_STATUS_LP_KIND]; decide), hset]
  | some w =>
    dsimp only
    rw [State.rd_farStart _ _ _ _ (by rw [fieldName_PRT_TRN_STATUS_LP_KIND]; decide),
      State.rd_showStd _ _ _ (by rw [fieldName_PRT_TRN_STATUS_LP_KIND]; decide),
      State.rd_each _ _ _ _ (fun t h _ => State.rd_requestRx _ _ _ _ (by rw [fieldName_PRT_TRN_STATUS_LP_KIND]; decide)), hset]

section
variable (s : State) (q : SideId) (hstd : s.isSeg q = false) (htrn : s.trn (q / 2) = tLOWPOWER)
include hstd htrn

theorem exec_lowpowerExit_l0s_last (hkind : s.rd (PRT_TRN_STATUS.LP_KIND (q / 2)) = 1) (hin : s.inL0s q = true)
    (hother : s.inL0s (otherSide q) = false) : ∃ t, exec (.lowpowerExit q .l0s) s = .next t ∧
    t.rd (PRT_TRN_STATUS.STATE (q / 2)) = tACTIVE ∧ t.rd (PRT_TRN_STATUS.LP_KIND (q / 2)) = 0 := by
  generalize hu : ((((s.markL0s q false).setTrn (q / 2) tACTIVE).upP (q / 2) (fun x => { x with streamA := true, streamB := true })).each
      ((s.markL0s q false).stdHalves (q / 2)) (fun t h => t.upH h (fun x => { x with ranSince := false }))) = u
  have hexec : exec (.lowpowerExit q .l0s) s = .next ((u.forwardAgain q).noted s (q / 2)) := by
    rw [← hu]
    simp [exec_lowpowerExit_runs, execLowpowerExit, State.leaveL0s, hstd, htrn, hkind, hin, State.markL0s_other, hother, State.forwardAgain]
  have hrd : ∀ c, u.rd c = ((s.markL0s q false).setTrn (q / 2) tACTIVE).rd c := fun c => by
    rw [← hu, State.rd_each _ _ _ _ (fun t h _ => State.upH_rd t h _ c), State.upP_rd]
  refine ⟨_, hexec, ?_, ?_⟩
  · rw [State.rd_noted, State.forwardAgain_rd _ _ (by rw [fieldName_PRT_TRN_STATUS_STATE]; decide), hrd]
    exact State.setTrn_trn _ _ _
  · rw [State.rd_noted, State.forwardAgain_rd _ _ (by rw [fieldName_PRT_TRN_STATUS_LP_KIND]; decide), hrd]
    exact State.setTrn_lpKind _ _ (by decide)

theorem exec_lowpowerExit_l0s_first (hkind : s.rd (PRT_TRN_STATUS.LP_KIND (q / 2)) = 1) (hin : s.inL0s q = true)
    (hother : s.inL0s (otherSide q) = true) : ∃ t, exec (.lowpowerExit q .l0s) s = .next t ∧ t.inL0s q = false ∧
    t.inL0s (otherSide q) = true ∧ t.rd (PRT_TRN_STATUS.STATE (q / 2)) = tLOWPOWER := by
  have hexec : exec (.lowpowerExit q .l0s) s = .next (((s.markL0s q false).forwardAgain q).noted s (q / 2)) := by
    simp [exec_lowpowerExit_runs, execLowpowerExit, State.leaveL0s, hstd, htrn, hkind, hin, State.markL0s_other, hother, State.forwardAgain]
  refine ⟨_, hexec, ?_, ?_, ?_⟩
  · rw [State.inL0s_congr (State.noted_l0s _ _ _ _), State.inL0s_congr (congrArg PortX.l0s (State.forwardAgain_portx _ _ _)),
      State.markL0s_same]
  · rw [State.inL0s_congr (State.noted_l0s _ _ _ _), State.inL0s_congr (congrArg PortX.l0s (State.forwardAgain_portx _ _ _)),
      State.markL0s_other, hother]
  · rw [State.rd_noted, State.forwardAgain_rd _ _ (by rw [fieldName_PRT_TRN_STATUS_STATE]; decide)]
    exact htrn

theorem exec_lowpowerExit_l1 (hkind : s.rd (PRT_TRN_STATUS.LP_KIND (q / 2)) = 2) : ∃ t, exec (.lowpowerExit q .l1) s = .next t ∧
    t.rd (PRT_TRN_STATUS.STATE (q / 2)) = tFORWARD ∧ t.rd (PRT_TRN_STATUS.LP_KIND (q / 2)) = 0 := by
  refine ⟨_, (next_neg (by simp [hstd])).trans (next_pos ⟨htrn, hkind⟩), ?_, ?_⟩
  · dsimp only
    rw [State.rd_noted, State.rd_each _ _ _ _ (fun t h _ => State.rd_startAcross _ _ _ (by rw [fieldName_PRT_TRN_STATUS_STATE]; decide))]
    exact s.trn_enterForward _ _
  · dsimp only
    rw [State.rd_noted, State.rd_each _ _ _ _ (fun t h _ => State.rd_startAcross _ _ _ (by rw [fieldName_PRT_TRN_STATUS_LP_KIND]; decide)),
      State.enterForward_lpKind]

theorem exec_lowpowerExit_l2 (hkind : s.rd (PRT_TRN_STATUS.LP_KIND (q / 2)) = 3) : ∃ t, exec (.lowpowerExit q .l2) s = .next t ∧
    t.rd (PRT_TRN_STATUS.STATE (q / 2)) = tDETECT := by
  have hsides : (s.stdSides (q / 2)).isEmpty = false :=
    List.isEmpty_eq_false_iff.mpr (List.ne_nil_of_mem (State.mem_stdSides hstd))
  refine ⟨_, (next_neg (by simp [hstd])).trans (next_pos ⟨htrn, hkind⟩), ?_⟩
  rw [State.rd_noted, State.enterDetect, hsides]
  simp only [Bool.false_eq_true, if_false]
  rw [State.rd_freshSides _ _ _ (by rw [fieldName_PRT_TRN_STATUS_STATE]; decide)]
  exact s.setTrn_trn _ _

end

/-- Settles O23. -/
theorem linkLowPower : Obligations.LinkLowPower :=
  ⟨fun s _ htrn hstd => ⟨_, exec_lowpowerEntry_l1 htrn hstd, s.lowpower_shown _ (by decide)⟩,
    fun s _ htrn hstd => ⟨_, exec_lowpowerEntry_l2 htrn hstd, s.lowpower_shown _ (by decide)⟩, exec_lowpowerEntry_l0s,
    fun _ _ mask htrn hstd => exec_lowpowerEntry_l0p htrn hstd mask, exec_lowpowerEntry_l0s_second, exec_lowpowerExit_l0s_last,
    exec_lowpowerExit_l0s_first, exec_lowpowerExit_l1, exec_lowpowerExit_l2⟩

end Sys2Proof.Machine
end

section
/-! PROOFS. Frames and rows of a Segment Side (05, R122 to R142, R475). -/

set_option Elab.async false

namespace Sys2Proof.Machine

@[simp] theorem State.raise_sides (s : State) (code : Nat) (p : Nat) (b16 : Nat) (b17 : Nat) (b18 : Nat) : (s.raise code p b16 b17 b18).sides = s.sides :=
  (Goes.raise (Foot.le_refl _) (Goes.refl _ s)).part .sides (by decide)
@[simp] theorem State.raise_seg (s : State) (code : Nat) (p : Nat) (b16 : Nat) (b17 : Nat) (b18 : Nat) (q' : Nat) : (s.raise code p b16 b17 b18).seg q' = s.seg q' := by
  rw [State.seg, State.raise_sides, ← State.seg]
@[simp] theorem State.sendRow_sides (s : State) (q : Nat) (row : Nat) (frames : List (Nat × Frame)) : (s.sendRow q row frames).sides = s.sides :=
  (Goes.sendRow (Foot.le_refl _) (Goes.refl _ s)).part .sides (by decide)
@[simp] theorem State.sendRow_seg (s : State) (q : Nat) (row : Nat) (frames : List (Nat × Frame)) (q' : Nat) : (s.sendRow q row frames).seg q' = s.seg q' := by
  rw [State.seg, State.sendRow_sides, ← State.seg]
@[simp] theorem State.advanceTo_sides (s : State) (e : Nat) : (s.advanceTo e).sides = s.sides :=
  (Goes.advanceTo (Foot.le_refl _) (Goes.refl _ s)).part .sides (by decide)
@[simp] theorem State.advanceTo_seg (s : State) (e : Nat) (q' : Nat) : (s.advanceTo e).seg q' = s.seg q' := by
  rw [State.seg, State.advanceTo_sides, ← State.seg]
theorem State.noted_seg (s old : State) (p q : Nat) : (s.noted old p).seg q = s.seg q := by
  rw [State.seg, (Goes.noted (Foot.le_refl _) (Goes.refl _ s)).part .sides (by decide), ← State.seg]

/-! ## What a half-lane sends -/

/-- A frame that is not an IDLE one leaves the half-lane as one line. -/
theorem State.sendFrame_sent (s : State) (h seed : Nat) {hd : Header} (payload : List Byte) (low : Int) (hty : hd.type ≠ 0) :
    (s.sendFrame h seed hd payload low).outbox.length = s.outbox.length + 1 ∧ (s.sendFrame h seed hd payload low).regs = s.regs := by
  unfold State.sendFrame
  simp only [hty, false_and, if_false]
  exact ⟨by rw [State.emit_outbox, List.length_cons, State.upH_outbox], rfl⟩

theorem exec_rowLaunch_laneid (s : State) (q : SideId) (hseg : s.isSeg q = true) (hst : s.segState q = sDETECT) :
    ∃ t, exec (.rowLaunch q []) s = .next t ∧ t.outbox.length = s.outbox.length + (s.segHalves q).length ∧ t.regs = s.regs := by
  have hne : sDETECT ≠ sDOWN ∧ sDETECT ≠ sACTIVE ∧ sDETECT ≠ sCONFIRM := by decide
  obtain ⟨h1, h2, h3⟩ := hne
  have hsend : ∀ (xs : List Nat) (u : State), (u.each xs (fun t h => t.sendFrame h trainingSeed ⟨0, 7, 31, 0, 0, false, false, 0⟩
      (t.laneid q h) 0)).outbox.length = u.outbox.length + xs.length ∧ (u.each xs (fun t h => t.sendFrame h trainingSeed
      ⟨0, 7, 31, 0, 0, false, false, 0⟩ (t.laneid q h) 0)).regs = u.regs := by
    intro xs
    induction xs with
    | nil => exact fun u => ⟨rfl, rfl⟩
    | cons x xs ih =>
      intro u
      obtain ⟨hlen, hregs⟩ := State.sendFrame_sent u x trainingSeed (hd := ⟨0, 7, 31, 0, 0, false, false, 0⟩) (u.laneid q x) 0 (by decide)
      obtain ⟨ihlen, ihregs⟩ := ih (u.sendFrame x trainingSeed ⟨0, 7, 31, 0, 0, false, false, 0⟩ (u.laneid q x) 0)
      rw [State.each, List.foldl_cons, ← State.each, ihlen, ihregs, hlen, hregs, List.length_cons]
      exact ⟨by omega, rfl⟩
  have hexec : exec (.rowLaunch q []) s = .next ((s.upS q (fun y => { y with readySent := y.readySent || y.ready })).each (s.segHalves q)
      (fun t h => t.sendFrame h trainingSeed ⟨0, 7, 31, 0, 0, false, false, 0⟩ (t.laneid q h) 0)) := by
    simp only [exec_rowLaunch_runs, execRowLaunch, hseg, hst, h1, h2, h3, Bool.not_true, Bool.false_eq_true, or_self, if_false, false_and]
  exact ⟨_, hexec, hsend _ _⟩

theorem otherSide_ne (q : Nat) : q ≠ otherSide q := fun h => by
  have := otherSide_parity q
  rw [← h] at this
  omega

theorem State.enterFlits_rows (s : State) (q : Nat) (arrived : List StreamItem) : ((s.enterFlits q arrived).seg q).rows = (s.seg q).rows := by
  unfold State.enterFlits State.flitDrop
  dsimp only
  split
  · split
    · rw [State.raise_seg, State.on_seg, State.upS_seg_same]
    · rw [State.upS_seg_same]
  · rfl

theorem State.consumeDue_rows (s : State) (q : Nat) (sent : List Frame) : ((s.consumeDue q sent).seg q).rows = (s.seg q).rows := by
  rw [State.consumeDue, State.upS_seg_same]

theorem State.takeWaiting_rows (s : State) (q n : Nat) : ((s.takeWaiting q n).seg q).rows = (s.seg q).rows := by
  unfold State.takeWaiting
  split
  · rw [State.upS_seg_ne _ _ (otherSide_ne q)]
  · rw [State.upS_seg_same]

theorem State.ite_on_seg (s : State) (d : Cell) (q : Nat) (c : Prop) [Decidable c] : (if c then s.on d else s).seg q = s.seg q := by
  split <;> rfl

theorem State.launchRow_rows (s : State) (q : Nat) : ((s.launchRow q).seg q).rows = (s.seg q).rows + 1 := by
  unfold State.launchRow
  dsimp only
  split
  · rw [State.upS_seg_same]
    simp only [State.consumeDue_rows, State.sendRow_seg]
  · rw [State.upS_seg_same]
    simp only [State.takeWaiting_rows, State.consumeDue_rows, State.sendRow_seg, State.ite_on_seg]

theorem exec_rowLaunch_active (s : State) (q : SideId) (arrived : List StreamItem) (hseg : s.isSeg q = true)
    (hst : s.segState q = sACTIVE) : ∃ t, exec (.rowLaunch q arrived) s = .next t ∧ (t.seg q).rows = (s.seg q).rows + 1 ∧
    t.rd (PRT_SEG_STATUS.STATE q) = sACTIVE := by
  have hne : sACTIVE ≠ sDOWN := by decide
  have hexec : exec (.rowLaunch q arrived) s = .next (((s.enterFlits q arrived).launchRow q).noted s (q / 2)) := by
    simp only [exec_rowLaunch_runs, execRowLaunch, hseg, hst, hne, Bool.not_true, Bool.false_eq_true, or_self, if_false, if_true]
  refine ⟨_, hexec, ?_, ?_⟩
  · rw [State.noted_seg, State.launchRow_rows, State.enterFlits_rows]
  · rw [State.rd_noted, State.rd_launchRow _ _ _ (by simp +decide),
      State.rd_enterFlits _ _ _ _ (by simp +decide)]
    exact hst

/-! ## What a half-lane receives (R126 to R129) -/

/-- In SDISCOVER a receiver tries the training seed alone. -/
theorem State.tries_discover {s : State} {q : Nat} (hst : s.segState q = sDISCOVER) (h : Nat) : s.tries q h = [tryTraining] := by
  have hne : sDISCOVER ≠ sACTIVE ∧ sDISCOVER ≠ sCONFIRM := by decide
  simp only [State.tries, hst, hne.1, hne.2, if_false, false_and]

section
variable {s : State} {h : HalfId} {q : Nat} (hclaim : s.claim h = some q) (hseg : s.isSeg q = true) (hst : s.segState q = sDISCOVER)
  (hlock : s.bit (LCH_SEG_FEC.FRAME_LOCK h) = true) (hpol : s.bit (LCH_SEG_FEC.SEG_POL_INV h) = false)
include hclaim hseg hst hlock hpol

theorem exec_frameReceived_bad {line : List Int} (hdec : decodeFrame (destuff (s.half h).rxRun line).1 trainingSeed = none) :
    exec (.frameReceived h line) s = .next (((s.upH h (fun x => { x with rxRun := (destuff (s.half h).rxRun line).2.1 })).badFrame q h 0).noted
      s (q / 2)) := by
  have hne : ¬(sDISCOVER < sACQUIRE ∨ sACTIVE < sDISCOVER) := by decide
  have htries : ∀ f, (s.upH h f).tries q h = [tryTraining] := fun f => State.tries_discover (by exact hst) _
  simp only [exec_frameReceived_runs, execFrameReceived, hclaim, hseg, hlock, hst, hpol, hne, Bool.not_true, Bool.false_eq_true, false_or, if_false, htries,
    firstDecode, show tryTraining.seed = trainingSeed from rfl, hdec, List.isEmpty_cons]

theorem exec_frameReceived_good {line : List Int} {hd : Header} {payload : List Byte}
    (hbad : (destuff (s.half h).rxRun line).2.2 = 0)
    (hdec : decodeFrame (destuff (s.half h).rxRun line).1 trainingSeed = some (hd, payload, 0)) (hty : hd.type = 7) (hlane : hd.lane = 31)
    (hep : hd.epoch = 0) :
    exec (.frameReceived h line) s = .next (((s.upH h (fun x => { x with rxRun := (destuff (s.half h).rxRun line).2.1 })).goodFrame q h
      tryTraining hd payload 0).noted s (q / 2)) := by
  have hne : ¬(sDISCOVER < sACQUIRE ∨ sACTIVE < sDISCOVER) := by decide
  have htries : ∀ f, (s.upH h f).tries q h = [tryTraining] := fun f => State.tries_discover (by exact hst) _
  have hadmit : ∀ x : Half, x.admits tryTraining hd = true := fun x => by simp [Half.admits, tryTraining]
  have hcond : hd.type ≤ 7 ∧ hd.lane = tryTraining.lane ∧ hd.epoch = tryTraining.epoch := by rw [hty, hlane, hep]; decide
  simp only [exec_frameReceived_runs, execFrameReceived, hclaim, hseg, hlock, hst, hpol, hne, Bool.not_true, Bool.false_eq_true, false_or, if_false, htries,
    firstDecode, show tryTraining.seed = trainingSeed from rfl, hdec, hbad, hadmit, hcond, and_self, if_true]

end

theorem exec_frameReceived_uncorrectable (s : State) (h : HalfId) (q : Nat) (line : List Int) (hclaim : s.claim h = some q)
    (hseg : s.isSeg q = true) (hst : s.segState q = sDISCOVER) (hlock : s.bit (LCH_SEG_FEC.FRAME_LOCK h) = true)
    (hpol : s.bit (LCH_SEG_FEC.SEG_POL_INV h) = false)
    (hdec : decodeFrame (destuff (s.half h).rxRun line).1 trainingSeed = none) : ∃ t, exec (.frameReceived h line) s = .next t ∧
    t.rd (LCH_SEG_FEC.UNCORR h) = satInc 8 (s.rd (LCH_SEG_FEC.UNCORR h)) ∧ (t.half h).badRun = (s.half h).badRun + 1 ∧
    (t.half h).goodRun = 0 := by
  have hne : sDISCOVER ≠ sACTIVE ∧ sDISCOVER ≠ sCONFIRM := by decide
  have hst' : ∀ f, (s.upH h f).segState q = sDISCOVER := fun f => hst
  refine ⟨_, exec_frameReceived_bad hclaim hseg hst hlock hpol hdec, ?_, ?_⟩
  · rw [State.rd_noted]
    simp only [State.badFrame, hst', hne.1, hne.2, or_self, false_and, if_false, State.upH_rd]
    rw [State.rd_wr_name _ _ _ _ (by simp), State.satUp, State.rd_wr_same]
    simp only [satInc, LCH_SEG_FEC.UNCORR, State.upH_rd]
    omega
  · rw [State.noted_half]
    simp only [State.badFrame, hst', hne.1, hne.2, or_self, false_and, if_false, State.upH_half_same, State.wr_half, State.satUp, and_self]

theorem exec_frameReceived_laneid (s : State) (h : HalfId) (q : Nat) (hd : Header) (payload : List Byte) (hclaim : s.claim h = some q)
    (hseg : s.isSeg q = true) (hst : s.segState q = sDISCOVER) (hlock : s.bit (LCH_SEG_FEC.FRAME_LOCK h) = true)
    (hpol : s.bit (LCH_SEG_FEC.SEG_POL_INV h) = false) (hrun : (s.half h).rxRun.len < 12) (hlen : payload.length = 256)
    (hhd : hd.row < 4096 ∧ hd.type = 7 ∧ hd.lane = 31 ∧ hd.epoch = 0 ∧ hd.ack < 4096 ∧ hd.credit < 256) :
    ∃ t, exec (.frameReceived h (stuff (s.half h).rxRun (pamMap (scramble trainingSeed (frameBits hd payload)))).1) s = .next t ∧
    t.rd (LCH_SEG_FEC.CORR_SYM h) = s.rd (LCH_SEG_FEC.CORR_SYM h) % 2 ^ 16 ∧
    t.rd (LCH_SEG_FEC.UNCORR h) = s.rd (LCH_SEG_FEC.UNCORR h) ∧ (t.half h).badRun = 0 ∧
    (t.half h).goodRun = (s.half h).goodRun + 1 := by
  obtain ⟨-, -, hstuff, -, -, hheader, hframe⟩ := lineCodeRoundTrips
  obtain ⟨hrow, hty, hlane, hep, hack, hcred⟩ := hhd
  have hline := hstuff _ (pamMap (scramble trainingSeed (frameBits hd payload))) hrun
  have hdec := hframe hd payload trainingSeed
    (hheader hd hrow (by omega) (by omega) (by omega) hack hcred) hlen
  refine ⟨_, exec_frameReceived_good hclaim hseg hst hlock hpol (by rw [hline]) (by rw [hline]; exact hdec) hty hlane hep, ?_⟩
  rw [State.rd_noted, State.rd_noted, State.noted_half]
  simp only [State.goodFrame, show tryTraining.training = true from rfl, if_true, State.upH_rd, State.upH_half_same, State.wr_half]
  refine ⟨?_, ?_, trivial, trivial⟩
  · rw [State.rd_wr_same]
    rfl
  · rw [State.rd_wr_name _ _ _ _ (by simp), State.upH_rd]

/-! ## Acknowledgements, stuffing and dropped flits (R130, R137, R142) -/

/-- A replay of a row that was not the last one replayed begins, with its count at 1. -/
theorem State.startReplay_begins {s : State} {q : Nat} (hun : (s.seg q).unacked ≠ [])
    (hrow : (s.seg q).replayRow ≠ ((s.seg q).acked + 1) % 4096) :
    (s.startReplay q).rd (PRT_SEG_CNT.REPLAYS q) = (s.rd (PRT_SEG_CNT.REPLAYS q) + 1) % 2 ^ 16 ∧
    ((s.startReplay q).seg q).replay = some (((s.seg q).acked + 1) % 4096) ∧ ((s.startReplay q).seg q).replayCount = 1 := by
  have hempty : (s.seg q).unacked.isEmpty = false := List.isEmpty_eq_false_iff.mpr hun
  unfold State.startReplay
  dsimp only
  rw [if_neg (by rw [hempty]; exact Bool.false_ne_true), if_neg (fun h => hrow h.1), State.upS_rd, State.upS_seg_same]
  refine ⟨?_, rfl, if_neg ?_⟩
  · exact State.rd_wr_same _ _ _
  · rwa [State.wrapUp, State.wr_seg]

theorem exec_ackTimeout_replays (s : State) (q : SideId) (hseg : s.isSeg q = true) (hst : s.segState q = sACTIVE)
    (hun : (s.seg q).unacked ≠ []) (hrow : (s.seg q).replayRow ≠ ((s.seg q).acked + 1) % 4096) : ∃ t, exec (.ackTimeout q) s = .next t ∧
    t.rd (PRT_SEG_CNT.REPLAYS q) = (s.rd (PRT_SEG_CNT.REPLAYS q) + 1) % 2 ^ 16 ∧
    (t.seg q).replay = some (((s.seg q).acked + 1) % 4096) ∧ (t.seg q).replayCount = 1 := by
  have hempty : (s.seg q).unacked.isEmpty = false := List.isEmpty_eq_false_iff.mpr hun
  generalize hu : s.advanceTo ((s.seg q).ackAt + 4 * s.rttMaxNs q * nsUnit) = u
  have hsq : u.seg q = s.seg q := by rw [← hu, State.advanceTo_seg]
  have hrd : u.rd (PRT_SEG_CNT.REPLAYS q) = s.rd (PRT_SEG_CNT.REPLAYS q) := by
    rw [← hu]
    exact State.rd_advanceTo _ _ _ (by simp +decide)
  generalize hv : u.upS q (fun x => { x with ackAt := u.elapsed }) = v
  have hacked : (v.seg q).acked = (s.seg q).acked := by rw [← hv, State.upS_seg_same, hsq]
  have hrow' : (v.seg q).replayRow = (s.seg q).replayRow := by rw [← hv, State.upS_seg_same, hsq]
  have hexec : exec (.ackTimeout q) s = .next ((v.startReplay q).noted s (q / 2)) := by
    have htake : v.takeNak q (s.seg q).acked = v.startReplay q := by
      rw [State.takeNak, if_neg (not_not.mpr hacked), if_neg (by rwa [hrow'])]
    rw [← htake, ← hv, ← hu]
    exact next_pos ⟨hseg, hst, by rw [hempty]; rfl⟩
  obtain ⟨hcnt, hreplay, hcount⟩ := State.startReplay_begins (s := v) (q := q) (by rwa [← hv, State.upS_seg_same, hsq])
    (by rwa [hacked, hrow'])
  refine ⟨_, hexec, ?_, ?_, ?_⟩
  · rw [State.rd_noted, hcnt, ← hv, State.upS_rd, hrd]
  · rw [State.noted_seg, hreplay, hacked]
  · rw [State.noted_seg, hcount]

theorem exec_stuffHigh_shown (s : State) (h : HalfId) (q : Nat) (hclaim : s.claim h = some q) (hseg : s.isSeg q = true)
    (hon : s.tileOn (q / 2) = true) (hover : (s.half h).stuffOver = true) : ∃ t, exec (.stuffHigh h) s = .next t ∧
    t.rd (PRT_SEG_STATUS.STUFF_HIGH q) = 1 ∧ bitAt (t.rd ERR_DP_STATUS.CODES) 8 = true := by
  have hexec : exec (.stuffHigh h) s = .next ((s.on (PRT_SEG_STATUS.STUFF_HIGH q)).raise 0x09 (q / 2) (h / 2) (h % 2) 0) := by
    simp only [exec_stuffHigh_runs, execStuffHigh, hclaim, hseg, hon, hover, and_self, if_true]
  refine ⟨_, hexec, ?_, State.raise_shown _ _ _ _ _ (by decide)⟩
  rw [State.rd_raise _ _ _ _ _ _ _ (by simp +decide), State.rd_on_same]
  rfl

theorem exec_flitDrop_shown (s : State) (q : SideId) (hseg : s.isSeg q = true) (hgear : s.isGeared (q / 2) = true)
    (hon : s.tileOn (q / 2) = true) : ∃ t, exec (.flitDrop q) s = .next t ∧ t.rd (PRT_SEG_STATUS.FLIT_DROP q) = 1 ∧
    bitAt (t.rd ERR_DP_STATUS.CODES) 10 = true := by
  refine ⟨_, next_pos ⟨hseg, hgear, hon⟩, ?_, State.raise_shown _ _ _ _ _ (by decide)⟩
  rw [State.flitDrop, State.rd_raise _ _ _ _ _ _ _ (by simp +decide), State.rd_on_same]
  rfl

/-- Settles O24. -/
theorem segmentFramesAndRows : Obligations.SegmentFramesAndRows :=
  ⟨exec_rowLaunch_laneid, fun s q arrived hseg hst _ => exec_rowLaunch_active s q arrived hseg hst, exec_frameReceived_uncorrectable,
    exec_ackTimeout_replays, exec_stuffHigh_shown, exec_flitDrop_shown, exec_frameReceived_laneid⟩

end Sys2Proof.Machine
end

section
/-! PROOFS. A Segment Side of a Lane Tile that is not there (05, R147). -/

set_option Elab.async false

namespace Sys2Proof.Machine

/-- A Segment Side in SDISCOVER whose Port names Lane Tile 8, which no field of three bits can hold: its half-lanes 513 and 515 have
the registers of half-lanes 1 and 3. -/
def aFarTile : State :=
  let s := (Tests.aSegIn 3).wr (LCH_SEG_FEC.HEARD 1) 31
  s.setRegs (s.regs.set (PRT_MODE.TILE 0).key 8)

theorem aFarTile_fits : aFarTile.claim (1 : HalfId) = some 1 ∧ aFarTile.isSeg 1 = true ∧ aFarTile.segState 1 = sDISCOVER ∧
    aFarTile.bit (LCH_SEG_FEC.FRAME_LOCK (1 : HalfId)) = true ∧ (Tests.aLaneid 1).take 5 = [0x4C, 0x41, 0x4E, 0x45, 0x01] ∧
    byteAt (Tests.aLaneid 1) 17 = aFarTile.width 1 ∧ byteAt (Tests.aLaneid 1) 18 = aFarTile.spares 1 ∧
    byteAt (Tests.aLaneid 1) 19 = aFarTile.segSlot 1 ∧ byteAt (Tests.aLaneid 1) 14 ≠ 1 / 2 ∧ byteAt (Tests.aLaneid 1) 5 = 1 ∧
    aFarTile.legacy 1 = false ∧ byteAt (Tests.aLaneid 1) 16 < 20 ∧
    (∀ g ∈ aFarTile.segHalves 1, g ≠ (1 : HalfId) → aFarTile.rd (LCH_SEG_FEC.HEARD g) ≠ byteAt (Tests.aLaneid 1) 16) ∧
    bitAt (byteAt (Tests.aLaneid 1) 20) 2 = true := by decide +kernel

/-- A side in SBACKOFF reads it. -/
theorem State.toSBackoff_state (s : State) (q reason : Nat) : (s.toSBackoff q reason).rd (PRT_SEG_STATUS.STATE q) = sBACKOFF := by
  unfold State.toSBackoff
  dsimp only
  rw [State.rd_showSide _ _ _ (by simp +decide), State.rd_each _ _ _ _ (fun t h _ => by
    rw [State.rd_setTx _ _ _ _ (by simp +decide), State.rd_releaseRx _ _ _ (by simp +decide)])]
  simp [State.satUp]
  decide

/-- The identity received, before it is judged. -/
def State.identified (s : State) (q h : Nat) (payload : List Byte) : State :=
  ((s.upS q (fun x => { x with
    partner := some (partnerOf payload), peerHeard := (List.range 20).map (fun l => byteAt payload (24 + l)) })).wr
    (PRT_SEG_STATUS.PARTNER q) (partnerOf payload).kind).wr (LCH_SEG_FEC.HEARD h) (byteAt payload 16)

/-- An identity that fails in SDISCOVER takes the side to SBACKOFF. -/
theorem exec_laneidReceived_fails {s : State} {h : HalfId} {q : Nat} {payload : List Byte} (hclaim : s.claim h = some q)
    (hseg : s.isSeg q = true) (hst : s.segState q = sDISCOVER) (hlock : s.bit (LCH_SEG_FEC.FRAME_LOCK h) = true)
    (hhead : payload.take 5 = [0x4C, 0x41, 0x4E, 0x45, 0x01]) (hfail : (s.identified q h payload).laneidFail q h payload ≠ 0) :
    exec (.laneidReceived h payload) s = .next (((s.identified q h payload).toSBackoff q
      ((s.identified q h payload).laneidFail q h payload)).noted s (q / 2)) := by
  have hread : ¬(!s.isSeg q ∨ !s.bit (LCH_SEG_FEC.FRAME_LOCK h) ∨ (s.segState q ≠ sDISCOVER ∧ s.segState q ≠ sCONFIRM) ∨
      payload.take 5 ≠ [0x4C, 0x41, 0x4E, 0x45, 0x01]) := by simp [hseg, hlock, hst, hhead]
  simp only [exec_laneidReceived_runs, execLaneidReceived, hclaim]
  refine (next_neg hread).trans ((next_pos hst).trans ?_)
  exact next_pos hfail

/-- The lane heard by half-lane 1 is heard by half-lane 513 too. -/
theorem aFarTile_fails : (aFarTile.identified 1 (1 : HalfId) (Tests.aLaneid 1)).laneidFail 1 (1 : HalfId) (Tests.aLaneid 1) = 9 := by
  unfold State.laneidFail
  dsimp only
  rw [if_neg (by decide +kernel), if_neg (by decide +kernel), if_neg (fun h => absurd h.2.1 (by decide +kernel)),
    if_neg (by decide +kernel), if_pos (by decide +kernel)]

theorem aFarTile_received : ∃ t, exec (.laneidReceived 1 (Tests.aLaneid 1)) aFarTile = .next t ∧
    t.rd (PRT_SEG_STATUS.STATE 1) = sBACKOFF := by
  obtain ⟨hclaim, hseg, hst, hlock, hhead, -⟩ := aFarTile_fits
  exact ⟨_, exec_laneidReceived_fails hclaim hseg hst hlock hhead (by rw [aFarTile_fails]; decide), by
    rw [State.rd_noted, State.toSBackoff_state]⟩

/-- Refutes O25: a Port may name a Lane Tile beyond the eight, whose half-lanes share the registers of others. -/
theorem not_segmentTrainingMoves : ¬ Obligations.SegmentTrainingMoves := by
  rintro ⟨-, -, -, -, -, -, hfits, -, -⟩
  obtain ⟨hclaim, hseg, hst, hlock, hhead, hwidth, hspares, hslot, hport, hkind, hleg, hlane, hheard, hcaps⟩ := aFarTile_fits
  obtain ⟨t, hexec, -, -, hstate⟩ := hfits aFarTile 1 1 (Tests.aLaneid 1) hclaim hseg hst hlock hhead hwidth hspares hslot hport hkind
    hleg hlane hheard hcaps
  obtain ⟨u, hexec', hback⟩ := aFarTile_received
  cases hexec.symm.trans hexec'
  rcases hstate with h | h
  · exact absurd (h.symm.trans hback) (by decide)
  · exact absurd (h.symm.trans hback) (by decide)

end Sys2Proof.Machine
end

section
/-! PROOFS. A steering end while a commit is past the Apply Point of its direction (06, R173; 02, R88). -/

set_option Elab.async false

namespace Sys2Proof.Machine

/-- A Segment Side whose steering end has a fault queued and a spare ready, while a commit that sets TRELLIS_OFF is past the side's Apply
Point: reads still return 0, and 1 is in force (R88). -/
def aTrellisGoingOff : State :=
  ((Tests.aSeg.upS 1 (fun x => { x with queue := [Tests.anItem] })).wr TXN_STATUS.STATE xAPPLYING).upX (fun x => { x with
    changes := [⟨some 0, PRT_TRL_CTRL.TRELLIS_OFF 1, 1, 0⟩], early := [1] })

theorem aTrellisGoingOff_queued : aTrellisGoingOff.isSeg 1 = true ∧ aTrellisGoingOff.segState 1 = sACTIVE ∧
    aTrellisGoingOff.steer 1 = stWATCH ∧ (aTrellisGoingOff.seg 1).queue = [Tests.anItem] ∧ Tests.anItem.isRequest = false ∧
    aTrellisGoingOff.rxLogical 1 Tests.anItem.half = some Tests.anItem.lane ∧ aTrellisGoingOff.trellis 1 = true ∧
    aTrellisGoingOff.bit (PRT_TRL_CTRL.TRELLIS_OFF 1) = false ∧ aTrellisGoingOff.readySpares 1 = [1] := by decide +kernel

/-- The fault is not proposed for. -/
theorem aTrellisGoingOff_served : ∃ t, exec (.trellisPropose 1) aTrellisGoingOff = .next t ∧
    t.rd (PRT_TRL_STATUS.STEER_STATE 1) = stWATCH := ⟨_, rfl, by decide +kernel⟩

/-- Refutes O28: what counts is the value of TRELLIS_OFF in force, which is not the one that reads return while a commit is between
the Apply Points of a Port. -/
theorem not_trellisSteeringEnd : ¬ Obligations.TrellisSteeringEnd := by
  rintro ⟨hpropose, -⟩
  obtain ⟨hseg, hact, hwatch, hqueue, hreq, hrx, htrl, hoff, hready⟩ := aTrellisGoingOff_queued
  obtain ⟨t, hexec, hproposing, -⟩ := hpropose aTrellisGoingOff 1 Tests.anItem [] 1 [] hseg hact hwatch hqueue hreq hrx htrl hoff hready
  obtain ⟨u, hexec', hwatching⟩ := aTrellisGoingOff_served
  cases hexec.symm.trans hexec'
  exact absurd (hproposing.symm.trans hwatching) (by decide)

end Sys2Proof.Machine
end

section
/-! PROOFS. The transmitting end of Trellis (06, R179 to R184). -/

set_option Elab.async false

namespace Sys2Proof.Machine

/-! ## Answers and checks (R179, R181) -/

theorem State.answer_seg (s : State) (q kind reason : Nat) (m : List Byte) :
    ((s.answer q kind reason m).seg q).replies.length = (s.seg q).replies.length + 1 ∧
    ((s.answer q kind reason m).seg q).prepared = (s.seg q).prepared := by
  rw [State.answer, State.upS_seg_same]
  exact ⟨by rw [List.length_append]; rfl, rfl⟩

section
variable {s : State} {q : SideId} {msg : List Byte} (hruns : s.trellisRuns q = true)
include hruns

theorem exec_trellisProposeReceived_steady (hnone : (s.seg q).prepared = none) :
    exec (.trellisProposeReceived q msg) s = .next (s.checkPropose q msg) := by
  simp only [exec_trellisProposeReceived_runs, execTrellisProposeReceived, hruns, hnone, Bool.not_true, Bool.false_eq_true, if_false]

theorem exec_trellisProposeReceived_prepares (hnone : (s.seg q).prepared = none) (hpass : s.refusal q msg = 0) :
    ∃ t, exec (.trellisProposeReceived q msg) s = .next t ∧ t.rd (PRT_TRL_STATUS.XMIT_STATE q) = xmREADY ∧
    (t.seg q).prepared = some ⟨byteAt msg 1, byteAt msg 3, byteAt msg 4, msgPlacement msg⟩ ∧
    (t.seg q).replies.length = (s.seg q).replies.length + 1 := by
  refine ⟨_, exec_trellisProposeReceived_steady hruns hnone, ?_⟩
  unfold State.checkPropose
  dsimp only
  rw [if_pos hpass]
  obtain ⟨hlen, hprep⟩ := State.answer_seg (((s.upS q (fun x => { x with seenEpoch := byteAt msg 1 })).wr (PRT_TRL_STATUS.XMIT_STATE q)
    xmREADY).upS q (fun x => { x with
      prepared := some ⟨byteAt msg 1, byteAt msg 3, byteAt msg 4, msgPlacement msg⟩, readyAt := s.elapsed })) q 2 0 msg
  rw [hlen, hprep, State.answer, State.upS_rd, State.upS_rd, State.rd_wr_same]
  simp only [State.upS_seg_same, State.wr_seg]
  exact ⟨rfl, trivial, trivial⟩

theorem exec_trellisProposeReceived_refuses (hnone : (s.seg q).prepared = none) (hfail : s.refusal q msg ≠ 0) :
    ∃ t, exec (.trellisProposeReceived q msg) s = .next t ∧ t.regs = s.regs ∧ (t.seg q).prepared = none ∧
    (t.seg q).replies.length = (s.seg q).replies.length + 1 := by
  refine ⟨_, exec_trellisProposeReceived_steady hruns hnone, ?_⟩
  unfold State.checkPropose
  dsimp only
  rw [if_neg hfail]
  obtain ⟨hlen, hprep⟩ := State.answer_seg (s.upS q (fun x => { x with seenEpoch := byteAt msg 1 })) q 3 (s.refusal q msg) msg
  rw [hlen, hprep, State.upS_seg_same]
  exact ⟨rfl, hnone, rfl⟩

/-! ## COMMIT, CANCEL and the timeout (R182) -/

theorem exec_trellisCommitReceived_due {pr : Prepared} (hprep : (s.seg q).prepared = some pr) (hep : byteAt msg 1 = pr.epoch) :
    ∃ t, exec (.trellisCommitReceived q msg) s = .next t ∧ (t.seg q).switchDue = true ∧ t.regs = s.regs := by
  have hexec : exec (.trellisCommitReceived q msg) s = .next (s.upS q (fun x => { x with switchDue := true })) := by
    simp only [exec_trellisCommitReceived_runs, execTrellisCommitReceived, hruns, hprep, hep, Bool.not_true, Bool.false_eq_true, if_false, if_true]
  exact ⟨_, hexec, by rw [State.upS_seg_same], rfl⟩

omit hruns in
theorem State.voidPrepared_void (s : State) (q : Nat) : (s.voidPrepared q).rd (PRT_TRL_STATUS.XMIT_STATE q) = xmSTEADY ∧
    ((s.voidPrepared q).seg q).prepared = none ∧ ((s.voidPrepared q).seg q).replies = (s.seg q).replies := by
  rw [State.voidPrepared, State.upS_rd, State.rd_wr_same, State.upS_seg_same, State.wr_seg]
  exact ⟨rfl, rfl, rfl⟩

theorem exec_trellisCancelReceived_voids {pr : Prepared} (hprep : (s.seg q).prepared = some pr) (hep : byteAt msg 1 = pr.epoch)
    (hdue : (s.seg q).switchDue = false) : ∃ t, exec (.trellisCancelReceived q msg) s = .next t ∧
    t.rd (PRT_TRL_STATUS.XMIT_STATE q) = xmSTEADY ∧ (t.seg q).prepared = none ∧
    (t.seg q).replies.length = (s.seg q).replies.length + 1 := by
  have hexec : exec (.trellisCancelReceived q msg) s = .next ((s.voidPrepared q).answer q 6 0 msg) := by
    simp only [exec_trellisCancelReceived_runs, execTrellisCancelReceived, hruns, hprep, hep, hdue, Bool.not_true, Bool.not_false, Bool.false_eq_true, if_false,
      and_self, if_true]
  obtain ⟨hx, hnone, hreplies⟩ := s.voidPrepared_void q
  obtain ⟨hlen, hkeep⟩ := (s.voidPrepared q).answer_seg q 6 0 msg
  exact ⟨_, hexec, hx, by rw [hkeep, hnone], by rw [hlen, hreplies]⟩

end

theorem exec_readyTimeout_voids (s : State) (q : SideId) (hseg : s.isSeg q = true) (hready : s.xmit q = xmREADY)
    (hdue : (s.seg q).switchDue = false) : ∃ t, exec (.readyTimeout q) s = .next t ∧ t.rd (PRT_TRL_STATUS.XMIT_STATE q) = xmSTEADY ∧
    (t.seg q).prepared = none := by
  obtain ⟨hx, hnone, -⟩ := (s.advanceTo ((s.seg q).readyAt + 100 * usUnit)).voidPrepared_void q
  exact ⟨_, next_pos ⟨hseg, hready, by rw [hdue]; rfl⟩, hx, hnone⟩

/-! ## The switch (R184) -/

/-- What the side shows of its receivers changes neither its placement nor its proposal. -/
theorem State.showSide_seg (s : State) (q : Nat) : ((s.showSide q).seg q).txPlace = (s.seg q).txPlace ∧
    ((s.showSide q).seg q).prepared = (s.seg q).prepared := by
  have heach : ∀ (t : State) (xs : List Nat) (f : State → Nat → State), (∀ u x, (f u x).seg q = u.seg q) →
      (t.each xs f).seg q = t.seg q := fun t xs f hf =>
    State.each_induction (P := fun u => u.seg q = t.seg q) xs f rfl (fun u x _ hu => (hf u x).trans hu)
  have hstop : ∀ (u : State) k c, (u.stopJob k c).seg q = u.seg q := fun u k c => by
    rw [State.seg, (Goes.stopJob (Foot.le_refl _) (Goes.refl _ u)).part .sides (by decide), ← State.seg]
  have hput : ∀ (u : State) c b, (u.put c b).seg q = u.seg q := fun u c b => by
    unfold State.put
    rfl
  unfold State.showSide
  dsimp only
  split
  · rw [hput, State.wr_seg]
    split
    · rw [heach _ _ _ (fun u x => by rw [hstop]), heach _ _ _ (fun u x => by simp only [State.upH_seg, State.wr_seg]), State.upS_seg_same]
      split <;> exact ⟨rfl, rfl⟩
    · rw [heach _ _ _ (fun u x => by simp only [State.upH_seg, State.wr_seg]), State.upS_seg_same]
      split <;> exact ⟨rfl, rfl⟩
  · rw [State.off_seg, State.wr_seg, heach _ _ _ (fun u x => by simp only [State.wr_seg])]
    exact ⟨rfl, rfl⟩

theorem exec_trellisSwitch_switches (s : State) (q : SideId) (pr : Prepared) (hruns : s.trellisRuns q = true)
    (hprep : (s.seg q).prepared = some pr) (hdue : (s.seg q).switchDue = true) (hep : pr.epoch < 256) (hspare : pr.spare ≠ 0x1F) :
    ∃ t, exec (.trellisSwitch q) s = .next t ∧ t.rd (PRT_TRL_STATUS.TX_EPOCH q) = pr.epoch ∧
    t.rd (PRT_TRL_STATUS.XMIT_STATE q) = xmSTEADY ∧ t.rd (PRT_TRL_STATUS.REMAPPED q) = 1 ∧ (t.seg q).txPlace = pr.placement ∧
    (t.seg q).prepared = none := by
  have hexec : exec (.trellisSwitch q) s = .next (s.doSwitch q pr) := by
    simp only [exec_trellisSwitch_runs, execTrellisSwitch, hprep, hruns, hdue, and_self, if_true]
  refine ⟨_, hexec, ?_⟩
  unfold State.doSwitch
  simp only [hspare, if_false]
  generalize hu : State.on _ (PRT_TRL_STATUS.REMAPPED q) = u
  have hseg' : ∀ (w : State) (c : Prop) [Decidable c], ((if c then w else w.wrapUp (PRT_SEG_CNT.REPLAYS q)).on
      (PRT_TRL_STATUS.REMAPPED q)).seg q = w.seg q := fun w c _ => by split <;> rfl
  have hplace : (u.seg q).txPlace = pr.placement := by
    rw [← hu, hseg', State.upTs, State.upTim_seg, State.upS_seg_same]
  have hepoch : u.rd (PRT_TRL_STATUS.TX_EPOCH q) = pr.epoch := by
    have hrd : ∀ (w : State) (c : Prop) [Decidable c], (if c then w else w.wrapUp (PRT_SEG_CNT.REPLAYS q)).rd
        (PRT_TRL_STATUS.TX_EPOCH q) = w.rd (PRT_TRL_STATUS.TX_EPOCH q) := fun w c _ => by split <;> simp [State.wrapUp]
    rw [← hu, State.rd_on_name _ _ _ (by simp), hrd, State.upTs, State.upTim_rd, State.upS_rd, State.rd_wr_same]
    exact Nat.mod_eq_of_lt hep
  have hmapped : u.rd (PRT_TRL_STATUS.REMAPPED q) = 1 := by
    rw [← hu, State.rd_on_same]
    rfl
  obtain ⟨hx, hnone, -⟩ := u.voidPrepared_void q
  obtain ⟨hshow, hshown⟩ := (u.voidPrepared q).showSide_seg q
  have hseg : ∀ (t : State) p, (t.bump p).seg q = t.seg q := fun t p => by
    rw [State.seg, (Goes.bump (Foot.le_refl _) (Goes.refl _ t)).part .sides (by decide), ← State.seg]
  have hbump : ∀ (t : State) p c, (t.bump p).rd c = t.rd c := fun t p c => by
    unfold State.bump State.publish
    rfl
  refine ⟨?_, ?_, ?_, ?_, ?_⟩
  · rw [hbump, State.rd_showSide _ _ _ (by simp +decide), State.voidPrepared, State.upS_rd, State.rd_wr_name _ _ _ _ (by simp), hepoch]
  · rw [hbump, State.rd_showSide _ _ _ (by simp +decide), hx]
  · rw [hbump, State.rd_showSide _ _ _ (by simp +decide), State.voidPrepared, State.upS_rd, State.rd_wr_name _ _ _ _ (by simp), hmapped]
  · rw [hseg, hshow, State.voidPrepared, State.upS_seg_same, State.wr_seg, hplace]
  · rw [hseg, hshown, hnone]

/-- Settles O29. -/
theorem trellisTransmittingEnd : Obligations.TrellisTransmittingEnd :=
  ⟨fun _ _ _ hruns hnone hpass => exec_trellisProposeReceived_prepares hruns hnone hpass,
    fun _ _ _ hruns hnone hfail => exec_trellisProposeReceived_refuses hruns hnone hfail,
    fun _ _ _ _ hruns hprep hep => exec_trellisCommitReceived_due hruns hprep hep, exec_trellisSwitch_switches,
    fun _ _ _ _ hruns hprep hep hdue => exec_trellisCancelReceived_voids hruns hprep hep hdue, exec_readyTimeout_voids⟩

end Sys2Proof.Machine
end

section
/-! PROOFS. Lane faults declared and requests of software queued (06, R167, R169, R176, R190, R198). -/

set_option Elab.async false

namespace Sys2Proof.Machine

@[simp] theorem State.raise_halves (s : State) (code : Nat) (p : Nat) (b16 : Nat) (b17 : Nat) (b18 : Nat) : (s.raise code p b16 b17 b18).halves = s.halves :=
  (Goes.raise (Foot.le_refl _) (Goes.refl _ s)).part .halves (by decide)
@[simp] theorem State.raise_half (s : State) (code : Nat) (p : Nat) (b16 : Nat) (b17 : Nat) (b18 : Nat) (h' : Nat) : (s.raise code p b16 b17 b18).half h' = s.half h' := by
  rw [State.half, State.raise_halves, ← State.half]
@[simp] theorem State.raiseDev_halves (s : State) (code : Nat) (b16 : Nat) (b17 : Nat) (b18 : Nat) : (s.raiseDev code b16 b17 b18).halves = s.halves :=
  (Goes.raiseDev (Foot.le_refl _) (Goes.refl _ s)).part .halves (by decide)
@[simp] theorem State.raiseDev_half (s : State) (code : Nat) (b16 : Nat) (b17 : Nat) (b18 : Nat) (h' : Nat) : (s.raiseDev code b16 b17 b18).half h' = s.half h' := by
  rw [State.half, State.raiseDev_halves, ← State.half]
@[simp] theorem State.stopJob_halves (s : State) (k : Nat) (cause : Nat) : (s.stopJob k cause).halves = s.halves :=
  (Goes.stopJob (Foot.le_refl _) (Goes.refl _ s)).part .halves (by decide)
@[simp] theorem State.stopJob_half (s : State) (k : Nat) (cause : Nat) (h' : Nat) : (s.stopJob k cause).half h' = s.half h' := by
  rw [State.half, State.stopJob_halves, ← State.half]
@[simp] theorem State.steerSend_halves (s : State) (q : Nat) (kind : Nat) (pr : Proposal) : (s.steerSend q kind pr).halves = s.halves :=
  (Goes.steerSend (Foot.le_refl _) (Goes.refl _ s)).part .halves (by decide)
@[simp] theorem State.steerSend_half (s : State) (q : Nat) (kind : Nat) (pr : Proposal) (h' : Nat) : (s.steerSend q kind pr).half h' = s.half h' := by
  rw [State.half, State.steerSend_halves, ← State.half]
@[simp] theorem State.queueFault_halves (s : State) (q : Nat) (h : Nat) (lane : Nat) (reason : Nat) : (s.queueFault q h lane reason).halves = s.halves :=
  (Goes.queueFault (Foot.le_refl _) (Goes.refl _ s)).part .halves (by decide)
@[simp] theorem State.queueFault_half (s : State) (q : Nat) (h : Nat) (lane : Nat) (reason : Nat) (h' : Nat) : (s.queueFault q h lane reason).half h' = s.half h' := by
  rw [State.half, State.queueFault_halves, ← State.half]
@[simp] theorem State.pathAbsent_halves (s : State) (q : Nat) : (s.pathAbsent q).halves = s.halves :=
  (Goes.pathAbsent (Foot.le_refl _) (Goes.refl _ s)).part .halves (by decide)
@[simp] theorem State.pathAbsent_half (s : State) (q : Nat) (h' : Nat) : (s.pathAbsent q).half h' = s.half h' := by
  rw [State.half, State.pathAbsent_halves, ← State.half]
@[simp] theorem State.clearTrellis_halves (s : State) (q : Nat) : (s.clearTrellis q).halves = s.halves :=
  (Goes.clearTrellis (Foot.le_refl _) (Goes.refl _ s)).part .halves (by decide)
@[simp] theorem State.clearTrellis_half (s : State) (q : Nat) (h' : Nat) : (s.clearTrellis q).half h' = s.half h' := by
  rw [State.half, State.clearTrellis_halves, ← State.half]
@[simp] theorem State.returnRows_halves (s : State) (q : Nat) : (s.returnRows q).halves = s.halves :=
  (Goes.returnRows (Foot.le_refl _) (Goes.refl _ s)).part .halves (by decide)
@[simp] theorem State.returnRows_half (s : State) (q : Nat) (h' : Nat) : (s.returnRows q).half h' = s.half h' := by
  rw [State.half, State.returnRows_halves, ← State.half]
/-! ## Blocks of corrected symbols

The count of a half-lane's block is kept, or begun again at 0, by everything that a declared fault brings about. -/

/-- Every block of `t` is as in `s`, or begins. -/
structure BlocksKept (s t : State) : Prop where
  kept : ∀ a, (s.half a).corrBlock = 0 → (t.half a).corrBlock = 0

theorem BlocksKept.refl (s : State) : BlocksKept s s := ⟨fun _ h => h⟩

theorem BlocksKept.trans {s t u : State} (h : BlocksKept s t) (k : BlocksKept t u) : BlocksKept s u :=
  ⟨fun a ha => k.kept a (h.kept a ha)⟩

theorem BlocksKept.of_half {s t : State} (h : ∀ a, t.half a = s.half a) : BlocksKept s t := ⟨fun a ha => by rw [h, ha]⟩

theorem BlocksKept.of_halves {s t : State} (h : t.halves = s.halves) : BlocksKept s t :=
  BlocksKept.of_half (fun a => by rw [State.half, h, State.half])

theorem BlocksKept.upH (s : State) (h : Nat) {f : Half → Half} (hf : ∀ x, x.corrBlock = 0 → (f x).corrBlock = 0) :
    BlocksKept s (s.upH h f) := by
  refine ⟨fun a ha => ?_⟩
  by_cases hh : a = h
  · rw [hh, State.upH_half_same]
    exact hf _ (hh ▸ ha)
  · rw [State.upH_half_ne _ _ hh, ha]

/-- A change of one half-lane after others. -/
theorem BlocksKept.thenUpH {s t : State} (k : BlocksKept s t) {h : Nat} {f : Half → Half}
    (hf : ∀ x, x.corrBlock = 0 → (f x).corrBlock = 0) : BlocksKept s (t.upH h f) := k.trans (BlocksKept.upH t h hf)

/-- A change of anything else after others. -/
theorem BlocksKept.thenElse {s t u : State} (k : BlocksKept s t) (h : u.halves = t.halves) : BlocksKept s u :=
  k.trans (BlocksKept.of_halves h)

theorem BlocksKept.each (s : State) (xs : List Nat) {f : State → Nat → State} (hf : ∀ t x, BlocksKept t (f t x)) :
    BlocksKept s (s.each xs f) :=
  State.each_induction (P := fun t => BlocksKept s t) xs f (BlocksKept.refl s) (fun t x _ ht => ht.trans (hf t x))

theorem State.endRun_blocks (s : State) (h r : Nat) : BlocksKept s (s.endRun h r) := by
  have hrun : BlocksKept s (s.upH h (fun x => { x with run := none })) := (BlocksKept.refl s).thenUpH (by intro x hx; exact hx)
  have hend : BlocksKept s (((((s.upH h (fun x => { x with run := none })).tileQuiet (tileOfHalf h)).wr (CAL_RX.LAST_RESULT h) r).wr
      (CAL_RX.NQ_REASON h) 0).showRuns) := hrun.thenElse rfl
  have hauto : ∀ t u : State, BlocksKept s t → BlocksKept s (if r = 1 then t else t.upH h (fun x =>
      { x with noAutoUntil := u.elapsed + 10000000 * usUnit })) := fun t u ht => by
    split
    · exact ht
    · exact ht.thenUpH (by intro x hx; exact hx)
  unfold State.endRun
  dsimp only
  split
  · split
    · exact (hauto _ s hend).trans (BlocksKept.of_half (fun a => State.raise_half ..))
    · exact (hauto _ s hend).trans (BlocksKept.of_half (fun a => State.raiseDev_half ..))
  · exact hauto _ s hend

theorem State.abortRun_blocks (s : State) (h : Nat) : BlocksKept s (s.abortRun h) := by
  unfold State.abortRun
  split
  · exact BlocksKept.refl s
  · split
    · refine BlocksKept.trans ?_ (State.endRun_blocks ..)
      unfold State.scheduleBack State.scheduleTable State.scheduleSet
      refine BlocksKept.thenUpH (BlocksKept.upH s h ?_) ?_
      · intro x hx
        exact hx
      · intro x hx
        exact hx
    · refine BlocksKept.trans ?_ (State.endRun_blocks ..)
      split
      · exact BlocksKept.upH s h (by intro x hx; exact hx)
      · exact BlocksKept.refl s

theorem State.rxLeaves_blocks (s : State) (h : Nat) : BlocksKept s (s.rxLeaves h) :=
  (s.abortRun_blocks h).trans (BlocksKept.of_half (fun _ => State.stopJobsOn_half ..))

theorem State.setTx_blocks (s : State) (h : Nat) (m : TxMode) : BlocksKept s (s.setTx h m) := by
  unfold State.setTx
  split
  · exact BlocksKept.refl s
  · refine BlocksKept.trans (BlocksKept.upH s h ?_) (BlocksKept.of_half (fun _ => State.showTx_half ..))
    intro x hx
    exact hx

theorem State.rxIdle_blocks (s : State) (h : Nat) : BlocksKept s (s.rxIdle h) := by
  refine ⟨fun a ha => ?_⟩
  by_cases hh : a = h
  · rw [hh, State.rxIdle_half_same]
    exact hh ▸ ha
  · rw [State.rxIdle_half_ne s hh, ha]

theorem State.releaseRx_blocks (s : State) (h : Nat) : BlocksKept s (s.releaseRx h) :=
  (s.rxIdle_blocks h).thenUpH (by intro x hx; exact hx)

theorem State.loadTx_blocks (s : State) (h : Nat) : BlocksKept s (s.loadTx h) := by
  unfold State.loadTx State.loadEntry
  dsimp only
  split
  · exact BlocksKept.refl s
  · split
    · exact BlocksKept.upH s h (by intro x hx; exact hx)
    · refine BlocksKept.trans (BlocksKept.thenUpH (BlocksKept.upH s h ?_) ?_) (BlocksKept.of_half (fun _ => State.showTx_half ..))
      · intro x hx
        exact hx
      · intro x hx
        exact hx

theorem State.setSlot_blocks (s : State) (h r : Nat) : BlocksKept s (s.setSlot h r) := by
  unfold State.setSlot
  split
  · exact BlocksKept.refl s
  · refine BlocksKept.trans ?_ (State.loadTx_blocks ..)
    refine BlocksKept.thenUpH ?_ ?_
    · exact BlocksKept.of_halves rfl
    · intro x hx
      exact hx

theorem State.setTrn_blocks (s : State) (p v : Nat) : BlocksKept s (s.setTrn p v) := by
  have hone : ∀ (t : State), t.halves = s.halves → BlocksKept s t := fun t ht => BlocksKept.of_halves ht
  have hall : ∀ t : State, t.halves = s.halves → ∀ xs : List Nat, BlocksKept s (t.each xs (fun t h => (t.rxLeaves h).upH h (fun x =>
      { x with margin := none, marginWait := none }))) := fun t ht xs =>
    (hone t ht).trans (BlocksKept.each t xs (fun u x => (u.rxLeaves_blocks x).thenUpH (by intro y hy; exact hy)))
  unfold State.setTrn
  dsimp only
  split
  · exact hone _ (by simp [apply_ite State.halves])
  · split
    · exact hall _ (by simp [apply_ite State.halves]) _
    · exact hone _ (by simp [apply_ite State.halves])

/-- What DETECT begins with beyond the half-lanes is no change to them. -/
theorem State.freshSides_half_eq (s : State) (p a : Nat) : (s.freshSides p).half a = (s.freshHalves p).half a := by
  have heach : ∀ (u : State) (qs : List Nat), (u.each qs (fun t q => (t.wr (PRT_DP_STATUS.SLOT_NOW q) 0).off
      (PRT_DP_STATUS.REVERSED q))).half a = u.half a := fun u qs =>
    State.each_half_proj id a u qs _ (fun t x => by simp)
  unfold State.freshSides
  simp only [State.pathSoon_half, State.showStd_half, State.upP_half, State.wr_half, State.off_half, heach]
  rfl

theorem State.freshSides_blocks (s : State) (p : Nat) : BlocksKept s (s.freshSides p) := by
  have hhalf : ∀ (u t : State) x, BlocksKept t (State.freshHalf u p t x) := fun u t x => by
    unfold State.freshHalf
    refine BlocksKept.thenUpH ?_ ?_
    · exact ((t.releaseRx_blocks x).trans (State.setSlot_blocks _ x 0)).thenElse (by rw [State.wr_halves, State.off_halves])
    · intro y hy
      exact hy
  have hidle : BlocksKept s (s.stdIdle p) := BlocksKept.each s _ (fun t x => t.setTx_blocks x .idle)
  have hfresh : BlocksKept s (s.freshHalves p) := hidle.trans (BlocksKept.each (s.stdIdle p) ((s.stdIdle p).stdHalves p) (hhalf s))
  exact hfresh.trans (BlocksKept.of_half (s.freshSides_half_eq p))

theorem State.enterDetect_blocks (s : State) (p : Nat) : BlocksKept s (s.enterDetect p) := by
  unfold State.enterDetect
  split
  · exact BlocksKept.refl s
  · exact (s.setTrn_blocks p tDETECT).trans (State.freshSides_blocks ..)

theorem State.showSide_blocks (s : State) (q : Nat) : BlocksKept s (s.showSide q) := by
  have hput : ∀ (u : State) c b, BlocksKept u (u.put c b) := fun u c b => BlocksKept.of_half (fun a => by unfold State.put; rfl)
  unfold State.showSide
  dsimp only
  split
  · refine BlocksKept.trans (BlocksKept.trans ?_ (BlocksKept.of_half (fun a => State.wr_half ..))) (hput _ _ _)
    have hfirst : ∀ (t : State), t.halves = s.halves → BlocksKept s (t.each (s.segHalves q) (fun t h =>
        (((t.wr (LCH_LANE_FAULT.STATUS h) (s.segPart q h)).wr (LCH_LANE_FAULT.RX_LOGICAL h) ((s.rxLogical q h).getD 0x1F)).wr
          (LCH_LANE_FAULT.TX_LOGICAL h) ((s.txLogical q h).getD 0x1F)).upH h
          (fun x => { x with fitAt := if s.spareFit h then some (x.fitAt.getD s.elapsed) else none }))) := fun t ht =>
      (BlocksKept.of_halves ht).trans (BlocksKept.each t _ (fun u x => by
        refine BlocksKept.thenUpH ?_ ?_
        · exact BlocksKept.of_halves rfl
        · intro y hy
          exact hy))
    split
    · exact (hfirst _ (by split <;> rfl)).trans (BlocksKept.each _ _ (fun u x => BlocksKept.of_half (fun a => State.stopJob_half ..)))
    · exact hfirst _ (by split <;> rfl)
  · exact BlocksKept.thenElse (t := s.each (s.segHalves q) (fun t h => ((t.wr (LCH_LANE_FAULT.STATUS h) 0xF).wr
      (LCH_LANE_FAULT.RX_LOGICAL h) 0x1F).wr (LCH_LANE_FAULT.TX_LOGICAL h) 0x1F))
      (BlocksKept.each s _ (fun u x => BlocksKept.of_halves rfl)) rfl

theorem State.clearFrames_blocks (s : State) (h : Nat) : BlocksKept s (s.clearFrames h) := by
  refine ⟨fun a ha => ?_⟩
  by_cases hh : a = h
  · simp [State.clearFrames, hh]
  · simp [State.clearFrames, State.upH_half_ne _ _ hh, ha]

theorem State.dropSegment_blocks (s : State) (q : Nat) : BlocksKept s (s.dropSegment q) := by
  have hlanes : BlocksKept s (s.each (s.segHalves q) (fun t h =>
      (if s.segState q = sACTIVE then t.rxLeaves h else t.abortRun h).clearFrames h)) := BlocksKept.each s _ (fun t x => by
    refine BlocksKept.trans ?_ (State.clearFrames_blocks _ x)
    split
    · exact t.rxLeaves_blocks x
    · exact t.abortRun_blocks x)
  unfold State.dropSegment
  exact (hlanes.trans (BlocksKept.of_half (fun a => State.clearTrellis_half _ q a))).thenElse rfl

theorem State.toSDetect_blocks (s : State) (q : Nat) : BlocksKept s (s.toSDetect q) := by
  have hreturn : BlocksKept s (s.returnRows q) := BlocksKept.of_half (fun a => State.returnRows_half s q a)
  have hdrop : BlocksKept s (((s.returnRows q).dropSegment q).wr (PRT_SEG_STATUS.STATE q) sDETECT) :=
    (hreturn.trans (State.dropSegment_blocks _ q)).thenElse (State.wr_halves ..)
  unfold State.toSDetect
  dsimp only
  generalize ((s.returnRows q).dropSegment q).wr (PRT_SEG_STATUS.STATE q) sDETECT = u at hdrop
  have hlanes : BlocksKept s (u.each (u.segHalves q) (fun t h => ((t.releaseRx h).setSlot h (t.segSlot q)).setTx h .laneid)) :=
    hdrop.trans (BlocksKept.each u _ (fun t x =>
      ((t.releaseRx_blocks x).trans (State.setSlot_blocks _ x _)).trans (State.setTx_blocks _ x _)))
  refine BlocksKept.trans ?_ (State.showSide_blocks _ q)
  exact hlanes.thenElse rfl

theorem State.segLost_blocks (s : State) (q : Nat) : BlocksKept s (s.segLost q) := by
  unfold State.segLost State.segGone
  dsimp only
  split
  · exact BlocksKept.of_half (fun a => State.pathAbsent_half ..)
  · split
    · exact BlocksKept.refl s
    · refine BlocksKept.trans (BlocksKept.trans ?_ (State.enterDetect_blocks ..)) (BlocksKept.each _ _ (fun t x => BlocksKept.upH t x ?_))
      · exact BlocksKept.of_halves rfl
      · intro y hy
        exact hy

theorem State.faultSide_blocks (s : State) (q cause : Nat) : BlocksKept s (s.faultSide q cause) :=
  BlocksKept.trans (BlocksKept.trans (BlocksKept.of_half (fun a => by rw [State.raise_half, State.on_half])) (State.toSDetect_blocks ..))
    (State.segLost_blocks ..)

theorem State.requeue_blocks (s : State) (q : Nat) (it : Item) : BlocksKept s (s.requeue q it) := by
  unfold State.requeue
  split
  · exact BlocksKept.of_half (fun a => rfl)
  · split
    · exact BlocksKept.refl s
    · exact s.faultSide_blocks q 2

theorem State.recordFault_blocks (s : State) (p h reason : Nat) : BlocksKept s (s.recordFault p h reason) :=
  BlocksKept.trans (BlocksKept.of_half (fun a => by rw [State.raise_half]; rfl)) (State.rxLeaves_blocks ..)

theorem State.toCancelling_blocks (s : State) (q : Nat) : BlocksKept s (s.toCancelling q) := by
  unfold State.toCancelling
  split
  · exact BlocksKept.of_half (fun a => by rw [State.steerSend_half, State.satUp, State.wr_half, State.wr_half])
  · exact BlocksKept.refl s

theorem State.declareFault_blocks (s : State) (q h reason : Nat) (hsoft : 3 < reason) : BlocksKept s (s.declareFault q h reason) := by
  have hrec := s.recordFault_blocks (q / 2) h reason
  unfold State.declareFault
  dsimp only
  rw [if_neg (Nat.not_le.mpr hsoft)]
  split
  · exact BlocksKept.refl s
  · split
    · exact hrec.trans (State.showSide_blocks _ q)
    · split
      · refine BlocksKept.trans ?_ (State.showSide_blocks _ q)
        have hbad : BlocksKept s (((s.recordFault (q / 2) h reason).on (PRT_TRL_STATUS.SPARE_LOST q)).upH h (fun x => { x with
            spareBad := true })) := by
          refine BlocksKept.thenUpH ?_ ?_
          · exact hrec.thenElse rfl
          · intro x hx
            exact hx
        split
        · split
          · exact (hbad.trans (State.toCancelling_blocks _ q)).trans (State.requeue_blocks _ q _)
          · exact hbad
        · exact hbad
      · split
        · exact hrec.trans (State.faultSide_blocks _ q 3)
        · exact (hrec.trans (BlocksKept.of_half (fun a => State.queueFault_half ..))).trans (State.showSide_blocks _ q)

/-! ## The record of a fault (R169) -/

theorem State.recordFault_shown (s : State) (p h : Nat) {reason : Nat} (hr : reason < 16) :
    (s.recordFault p h reason).rd (LCH_LANE_FAULT.FAULT_NEW h) = 1 ∧
    (s.recordFault p h reason).rd (LCH_LANE_FAULT.LAST_REASON h) = reason ∧
    (s.recordFault p h reason).rd (LCH_LANE_FAULT.FAULT_CNT h) = satInc 8 (s.rd (LCH_LANE_FAULT.FAULT_CNT h)) ∧
    bitAt ((s.recordFault p h reason).rd ERR_DP_STATUS.CODES) 0 = true := by
  unfold State.recordFault
  refine ⟨?_, ?_, ?_, ?_⟩
  · simp +decide [State.satUp]
  · simp +decide [State.satUp, Nat.mod_eq_of_lt hr]
  · rw [State.rd_rxLeaves _ _ _ (by rw [fieldName_LCH_LANE_FAULT_FAULT_CNT]; decide),
      State.rd_raise _ _ _ _ _ _ _ (by rw [fieldName_LCH_LANE_FAULT_FAULT_CNT]; decide), State.satUp, State.rd_wr_same,
      State.rd_wr_name _ _ _ _ (by simp), State.rd_on_name _ _ _ (by simp)]
    simp only [satInc, LCH_LANE_FAULT.FAULT_CNT_width]
    omega
  · exact State.rxLeaves_keeps_shown (by decide) (State.raise_shown _ _ _ _ _ (by decide)) h

/-- What is declared is recorded, and nothing that follows touches the record. -/
theorem State.rd_declareFault_recorded {s : State} {q h reason : Nat} (hfree : ¬(4 ≤ reason ∧ reason ≤ 6 ∧ s.holdsData h = true)) {c : Cell}
    (h1 : fp_showSide.misses (fieldName c.key) = true) (h2 : fp_faultSide.misses (fieldName c.key) = true)
    (h3 : fp_requeue.misses (fieldName c.key) = true) (h4 : fp_toCancelling.misses (fieldName c.key) = true)
    (h5 : fp_queueFault.misses (fieldName c.key) = true) (h6 : fp_requestRx.misses (fieldName c.key) = true)
    (h7 : fieldName c.key ≠ fieldName (LCH_SEG_FEC.FRAME_LOCK h).key)
    (h8 : fieldName c.key ≠ fieldName (PRT_TRL_STATUS.SPARE_LOST q).key) :
    (s.declareFault q h reason).rd c = (s.recordFault (q / 2) h reason).rd c := by
  unfold State.declareFault
  dsimp only
  rw [if_neg hfree]
  generalize hu : (if reason ≤ 3 then ((s.recordFault (q / 2) h reason).requestRx h true).off (LCH_SEG_FEC.FRAME_LOCK h)
    else s.recordFault (q / 2) h reason) = u
  have hbase : u.rd c = (s.recordFault (q / 2) h reason).rd c := by
    rw [← hu]
    split
    · rw [State.rd_off_name _ _ _ h7, State.rd_requestRx _ _ _ _ h6]
    · rfl
  rw [← hbase]
  have hlost : ∀ f, ((u.on (PRT_TRL_STATUS.SPARE_LOST q)).upH h f).rd c = u.rd c := fun f => by
    rw [State.upH_rd, State.rd_on_name _ _ _ h8]
  split
  · rw [State.rd_showSide _ _ _ h1]
  · split
    · rw [State.rd_showSide _ _ _ h1]
      split
      · split
        · rw [State.rd_requeue _ _ _ _ h3, State.rd_toCancelling _ _ _ h4, hlost]
        · exact hlost _
      · exact hlost _
    · split
      · rw [State.rd_faultSide _ _ _ _ h2]
      · rw [State.rd_showSide _ _ _ h1, State.rd_queueFault _ _ _ _ _ _ h5]

theorem State.declareFault_recorded {s : State} {q h reason : Nat} (hfree : ¬(4 ≤ reason ∧ reason ≤ 6 ∧ s.holdsData h = true))
    (hr : reason < 16) : (s.declareFault q h reason).rd (LCH_LANE_FAULT.FAULT_NEW h) = 1 ∧
    (s.declareFault q h reason).rd (LCH_LANE_FAULT.LAST_REASON h) = reason ∧
    (s.declareFault q h reason).rd (LCH_LANE_FAULT.FAULT_CNT h) = satInc 8 (s.rd (LCH_LANE_FAULT.FAULT_CNT h)) := by
  obtain ⟨hnew, hlast, hcnt, -⟩ := s.recordFault_shown (q / 2) h hr
  refine ⟨?_, ?_, ?_⟩
  · rw [State.rd_declareFault_recorded hfree, hnew] <;> simp +decide
  · rw [State.rd_declareFault_recorded hfree, hlast] <;> simp +decide
  · rw [State.rd_declareFault_recorded hfree, hcnt] <;> simp +decide

/-! ## An event shown through a lost side -/

section
variable {s : State} {k : Nat} (hk : k < 18) (h : bitAt (s.rd ERR_DP_STATUS.CODES) k = true)
include hk h

theorem State.abortRun_keeps_shown (a : Nat) : bitAt ((s.abortRun a).rd ERR_DP_STATUS.CODES) k = true := by
  unfold State.abortRun
  split
  · exact h
  · split
    · exact State.endRun_keeps_shown hk (by simpa +decide using h) ..
    · exact State.endRun_keeps_shown hk (by simpa +decide [apply_ite (State.rd · ERR_DP_STATUS.CODES)] using h) ..

theorem State.toSDetect_keeps_shown (q : Nat) : bitAt ((s.toSDetect q).rd ERR_DP_STATUS.CODES) k = true := by
  have hdrop : ∀ u : State, bitAt (u.rd ERR_DP_STATUS.CODES) k = true → bitAt ((u.dropSegment q).rd ERR_DP_STATUS.CODES) k = true := by
    intro u hu
    have hlanes : bitAt ((u.each (u.segHalves q) (fun t h =>
        (if u.segState q = sACTIVE then t.rxLeaves h else t.abortRun h).clearFrames h)).rd ERR_DP_STATUS.CODES) k = true :=
      State.each_induction (P := fun t => bitAt (t.rd ERR_DP_STATUS.CODES) k = true) _ _ hu (fun t a _ ht => by
        rw [State.rd_clearFrames _ _ _ (by rw [fieldName_ERR_DP_STATUS_CODES]; decide)]
        split
        · exact t.rxLeaves_keeps_shown hk ht a
        · exact t.abortRun_keeps_shown hk ht a)
    unfold State.dropSegment
    rw [State.rd_wr_name _ _ _ _ (by simp +decide), State.upS_rd,
      State.rd_clearTrellis _ _ _ (by rw [fieldName_ERR_DP_STATUS_CODES]; decide)]
    exact hlanes
  unfold State.toSDetect
  dsimp only
  rw [State.rd_showSide _ _ _ (by rw [fieldName_ERR_DP_STATUS_CODES]; decide),
    State.rd_wr_name _ _ _ _ (by unfold PRT_DP_STATUS.SLOT_NOW; split <;> simp +decide),
    State.rd_each _ _ _ _ (fun t a _ => by
      rw [State.rd_setTx _ _ _ _ (by rw [fieldName_ERR_DP_STATUS_CODES]; decide),
        State.rd_setSlot _ _ _ _ (by rw [fieldName_ERR_DP_STATUS_CODES]; decide),
        State.rd_releaseRx _ _ _ (by rw [fieldName_ERR_DP_STATUS_CODES]; decide)]),
    State.rd_wr_name _ _ _ _ (by simp +decide)]
  refine hdrop _ ?_
  rw [State.rd_returnRows _ _ _ (by rw [fieldName_ERR_DP_STATUS_CODES]; decide)]
  exact h

theorem State.segLost_keeps_shown (q : Nat) : bitAt ((s.segLost q).rd ERR_DP_STATUS.CODES) k = true := by
  unfold State.segLost State.segGone
  dsimp only
  split
  · rw [State.rd_pathAbsent _ _ _ (by rw [fieldName_ERR_DP_STATUS_CODES]; decide)]
    exact h
  · split
    · exact h
    · rw [State.rd_each _ _ _ _ (fun t a _ => State.upH_rd t a _ _)]
      exact State.enterDetect_keeps_shown hk (by rw [State.upP_rd]; exact h) _

theorem State.faultSide_keeps_shown (q cause : Nat) : bitAt ((s.faultSide q cause).rd ERR_DP_STATUS.CODES) k = true :=
  State.segLost_keeps_shown hk (State.toSDetect_keeps_shown hk (State.raiseFor_keeps_shown hk
    (by rw [State.rd_on_name _ _ _ (by simp +decide)]; exact h) ..) q) q

theorem State.requeue_keeps_shown (q : Nat) (it : Item) : bitAt ((s.requeue q it).rd ERR_DP_STATUS.CODES) k = true := by
  unfold State.requeue
  split
  · exact h
  · split
    · exact h
    · exact s.faultSide_keeps_shown hk h q 2

end

theorem State.declareFault_shown {s : State} {q h reason : Nat} (hfree : ¬(4 ≤ reason ∧ reason ≤ 6 ∧ s.holdsData h = true))
    (hr : reason < 16) : bitAt ((s.declareFault q h reason).rd ERR_DP_STATUS.CODES) 0 = true := by
  obtain ⟨-, -, -, hrec⟩ := s.recordFault_shown (q / 2) h hr
  have hmiss : fieldName (ERR_DP_STATUS.CODES).key = 0xE0001 := fieldName_ERR_DP_STATUS_CODES
  unfold State.declareFault
  dsimp only
  rw [if_neg hfree]
  generalize hu : (if reason ≤ 3 then ((s.recordFault (q / 2) h reason).requestRx h true).off (LCH_SEG_FEC.FRAME_LOCK h)
    else s.recordFault (q / 2) h reason) = u
  have hshown : bitAt (u.rd ERR_DP_STATUS.CODES) 0 = true := by
    rw [← hu]
    split
    · rw [State.rd_off_name _ _ _ (by simp +decide), State.rd_requestRx _ _ _ _ (by rw [hmiss]; decide)]
      exact hrec
    · exact hrec
  have hlost : ∀ f, bitAt (((u.on (PRT_TRL_STATUS.SPARE_LOST q)).upH h f).rd ERR_DP_STATUS.CODES) 0 = true := fun f => by
    rw [State.upH_rd, State.rd_on_name _ _ _ (by simp +decide)]
    exact hshown
  split
  · rw [State.rd_showSide _ _ _ (by rw [hmiss]; decide)]
    exact hshown
  · split
    · rw [State.rd_showSide _ _ _ (by rw [hmiss]; decide)]
      split
      · split
        · refine State.requeue_keeps_shown (by decide) ?_ q _
          rw [State.rd_toCancelling _ _ _ (by rw [hmiss]; decide)]
          exact hlost _
        · exact hlost _
      · exact hlost _
    · split
      · exact State.faultSide_keeps_shown (by decide) hshown q 3
      · rw [State.rd_showSide _ _ _ (by rw [hmiss]; decide), State.rd_queueFault _ _ _ _ _ _ (by rw [hmiss]; decide)]
        exact hshown

/-! ## Faults of receivers (R167, R190) -/

theorem exec_hardFaultDeclare_records (s : State) (h : HalfId) (q : Nat) (reason : Fin 16) (hclaim : s.claim h = some q)
    (hseg : s.isSeg q = true) (hact : s.segState q = sACTIVE) (hmem : h.val ∈ s.segHalves q) (hcause : s.hardCause h reason = true)
    (hother : (s.segHalves q).any (fun g => g != h && s.bit (LCH_SEG_FEC.FRAME_LOCK g)) = true) :
    ∃ t, exec (.hardFaultDeclare h reason) s = .next t ∧ t.rd (LCH_LANE_FAULT.FAULT_NEW h) = 1 ∧
    t.rd (LCH_LANE_FAULT.LAST_REASON h) = reason ∧
    t.rd (LCH_LANE_FAULT.FAULT_CNT h) = satInc 8 (s.rd (LCH_LANE_FAULT.FAULT_CNT h)) ∧ bitAt (t.rd ERR_DP_STATUS.CODES) 0 = true := by
  have hhard : ¬(4 ≤ reason.val ∧ reason.val ≤ 6 ∧ s.holdsData h = true) := by
    simp only [State.hardCause, Bool.or_eq_true, Bool.and_eq_true, beq_iff_eq] at hcause
    omega
  have hexec : exec (.hardFaultDeclare h reason) s = .next ((s.declareFault q h reason).noted s (q / 2)) := by
    simp only [exec_hardFaultDeclare_runs, execHardFaultDeclare, hclaim]
    exact next_pos ⟨hseg, hact, List.contains_iff_mem.mpr hmem, hcause, hother⟩
  obtain ⟨hnew, hlast, hcnt⟩ := State.declareFault_recorded (q := q) hhard reason.isLt
  refine ⟨_, hexec, ?_, ?_, ?_, ?_⟩
  · rw [State.rd_noted, hnew]
  · rw [State.rd_noted, hlast]
  · rw [State.rd_noted, hcnt]
  · rw [State.rd_noted]
    exact State.declareFault_shown hhard reason.isLt

theorem exec_corrBlockEnd_declares (s : State) (h : HalfId) (q : Nat) (hclaim : s.claim h = some q) (hseg : s.isSeg q = true)
    (hact : s.segState q = sACTIVE) (hover : 256 * s.rd (PRT_TRL_CTRL.CORR_LIMIT q) < (s.half h).corrBlock)
    (hfree : s.holdsData h = false) : ∃ t, exec (.corrBlockEnd h) s = .next t ∧ t.rd (LCH_LANE_FAULT.FAULT_NEW h) = 1 ∧
    t.rd (LCH_LANE_FAULT.LAST_REASON h) = 6 ∧ (t.half h).corrBlock = 0 := by
  generalize hu : s.upH h (fun x => { x with corrBlock := 0 }) = u
  have hfree' : ¬(4 ≤ 6 ∧ 6 ≤ 6 ∧ u.holdsData h = true) := by
    rw [← hu, show (s.upH h _).holdsData h = s.holdsData h from rfl, hfree]
    simp
  have hexec : exec (.corrBlockEnd h) s = .next ((u.declareFault q h 6).noted s (q / 2)) := by
    rw [← hu]
    simp only [exec_corrBlockEnd_runs, execCorrBlockEnd, hclaim]
    exact (next_pos ⟨hseg, hact⟩).trans (next_pos hover)
  obtain ⟨hnew, hlast, -⟩ := State.declareFault_recorded (q := q) hfree' (by decide)
  refine ⟨_, hexec, ?_, ?_, ?_⟩
  · rw [State.rd_noted, hnew]
  · rw [State.rd_noted, hlast]
  · rw [State.noted_half]
    exact (u.declareFault_blocks q h 6 (by decide)).kept h (by rw [← hu, State.upH_half_same])

theorem exec_corrBlockEnd_begins (s : State) (h : HalfId) (q : Nat) (hclaim : s.claim h = some q) (hseg : s.isSeg q = true)
    (hact : s.segState q = sACTIVE) (hunder : (s.half h).corrBlock ≤ 256 * s.rd (PRT_TRL_CTRL.CORR_LIMIT q)) :
    ∃ t, exec (.corrBlockEnd h) s = .next t ∧ (t.half h).corrBlock = 0 ∧ t.regs = s.regs := by
  have hexec : exec (.corrBlockEnd h) s = .next (s.upH h (fun x => { x with corrBlock := 0 })) := by
    simp only [exec_corrBlockEnd_runs, execCorrBlockEnd, hclaim]
    exact (next_pos ⟨hseg, hact⟩).trans (next_neg (Nat.not_lt.mpr hunder))
  exact ⟨_, hexec, by rw [State.upH_half_same], rfl⟩

theorem State.setTx_half_proj {α : Type} (g : Half → α) (hg : ∀ x m, g { x with tx := m } = g x) (s : State) (h : Nat) (m : TxMode) (a : Nat) :
    g ((s.setTx h m).half a) = g (s.half a) := by
  unfold State.setTx
  split
  · rfl
  · rw [State.showTx_half, State.upH_half_proj g s h (fun x => hg x m)]

/-- A Standard Side receiver that fails is recorded, and starts again while its lane relocks. -/
theorem State.stdLaneFault_recorded (s : State) (q h : Nat) {reason : Nat} (hr : reason < 16) :
    (s.stdLaneFault q h reason).rd (LCH_LANE_FAULT.FAULT_NEW h) = 1 ∧
    (s.stdLaneFault q h reason).rd (LCH_LANE_FAULT.LAST_REASON h) = reason ∧
    ((s.stdLaneFault q h reason).half h).relocking = true ∧ ((s.stdLaneFault q h reason).half h).wantRx = true := by
  obtain ⟨hnew, hlast, -, -⟩ := s.recordFault_shown (q / 2) h hr
  unfold State.stdLaneFault
  dsimp only
  generalize hu : ((s.recordFault (q / 2) h reason).requestRx h true).upH h (fun x => { x with relocking := true }) = u
  have hhalf : (u.half h).relocking = true ∧ (u.half h).wantRx = true := by
    rw [← hu, State.upH_half_same, State.requestRx_half_same]
    exact ⟨rfl, rfl⟩
  have hrd : ∀ c : Cell, fp_requestRx.misses (fieldName c.key) = true → u.rd c = (s.recordFault (q / 2) h reason).rd c := fun c hc => by
    rw [← hu, State.upH_rd, State.rd_requestRx _ _ _ _ hc]
  refine ⟨?_, ?_, ?_⟩
  · rw [State.rd_showStd _ _ _ (by rw [fieldName_LCH_LANE_FAULT_FAULT_NEW]; decide), ← hnew,
      ← hrd _ (by rw [fieldName_LCH_LANE_FAULT_FAULT_NEW]; decide)]
    split
    · split
      · rw [State.rd_setTx _ _ _ _ (by rw [fieldName_LCH_LANE_FAULT_FAULT_NEW]; decide)]
      · rfl
    · rfl
  · rw [State.rd_showStd _ _ _ (by rw [fieldName_LCH_LANE_FAULT_LAST_REASON]; decide)]
    refine Eq.trans ?_ ((hrd _ (by rw [fieldName_LCH_LANE_FAULT_LAST_REASON]; decide)).trans hlast)
    split
    · split
      · rw [State.rd_setTx _ _ _ _ (by rw [fieldName_LCH_LANE_FAULT_LAST_REASON]; decide)]
      · rfl
    · rfl
  · rw [State.showStd_half]
    split
    · split
      · rw [State.setTx_half_proj Half.relocking (fun _ _ => rfl), State.setTx_half_proj Half.wantRx (fun _ _ => rfl)]
        exact hhalf
      · exact hhalf
    · exact hhalf

theorem exec_standardLaneFault_records (s : State) (h : HalfId) (q : Nat) (hclaim : s.claim h = some q) (hfault : s.stdFaultable q h = true)
    (hlock : s.bit (LCH_FOM.LOCK h) = false) : ∃ t, exec (.standardLaneFault h 2) s = .next t ∧
    t.rd (LCH_LANE_FAULT.FAULT_NEW h) = 1 ∧ t.rd (LCH_LANE_FAULT.LAST_REASON h) = 2 ∧ (t.half h).relocking = true ∧
    (t.half h).wantRx = true := by
  have hexec : exec (.standardLaneFault h 2) s = .next (s.stdLaneFault q h 2) := by
    simp only [exec_standardLaneFault_runs, execStandardLaneFault, hclaim]
    exact next_pos ⟨hfault, Or.inr ⟨trivial, by rw [hlock]; rfl⟩⟩
  exact ⟨_, hexec, s.stdLaneFault_recorded q h (by decide)⟩

/-! ## A retired receiver (R176) -/

theorem State.showSide_retired (s : State) (q a : Nat) : ((s.showSide q).half a).retired = (s.half a).retired := by
  have hput : ∀ (u : State) c b, (u.put c b).half a = u.half a := fun u c b => by
    unfold State.put
    rfl
  unfold State.showSide
  dsimp only
  split
  · rw [hput, State.wr_half]
    split
    · rw [State.each_half_proj Half.retired a _ _ _ (fun t x => by rw [State.stopJob_half]),
        State.each_half_proj Half.retired a _ _ _ (fun t x => by
          rw [State.upH_half_proj Half.retired _ x (by intro; rfl)]; simp only [State.wr_half]), State.upS_half]
      split <;> rfl
    · rw [State.each_half_proj Half.retired a _ _ _ (fun t x => by
          rw [State.upH_half_proj Half.retired _ x (by intro; rfl)]; simp only [State.wr_half]), State.upS_half]
      split <;> rfl
  · rw [State.off_half, State.wr_half, State.each_half_proj Half.retired a _ _ _ (fun t x => by simp)]

theorem State.showOf_retired (s : State) (h a : Nat) : ((s.showOf h).half a).retired = (s.half a).retired := by
  unfold State.showOf
  split
  · split
    · exact s.showSide_retired _ a
    · rfl
  · rfl

theorem exec_retiredExpiry_readies (s : State) (h : HalfId) (hret : (s.half h).retired = true) (hfit : s.spareFit h = true) :
    ∃ t, exec (.retiredExpiry h) s = .next t ∧ (t.half h).retired = false :=
  ⟨_, next_pos ⟨hret, hfit⟩, by rw [State.showOf_retired, State.upH_half_same]⟩

/-! ## Requests of software (R28, R198) -/

theorem mem_insertItem (it : Item) (l : List Item) : it ∈ insertItem it l := by
  induction l with
  | nil => exact List.mem_singleton.mpr rfl
  | cons x xs ih =>
    unfold insertItem
    split
    · exact List.mem_cons_self
    · exact List.mem_cons_of_mem _ ih

/-- PRT_TRL_CMD is held by the Port's tile. -/
theorem State.holder_PRT_TRL_CMD {s : State} {q : Nat} (hq : q < 128) (hen : s.enabled (q / 2) = true) :
    s.holder (PRT_TRL_CMD.off q) = some (s.tileOf (q / 2)) := by
  have hoff : PRT_TRL_CMD.off q = 0x100000 + 0x1000 * (q / 2) + 0x78 + 4 * (q % 2) := by
    unfold PRT_TRL_CMD.off
    omega
  have hin : 0x100000 ≤ PRT_TRL_CMD.off q ∧ PRT_TRL_CMD.off q < 0x140000 := by omega
  have hport : (PRT_TRL_CMD.off q - 0x100000) / 0x1000 = q / 2 := by omega
  have hheld : portHeld (PRT_TRL_CMD.off q % 0x1000) = true := by
    rcases Nat.mod_two_eq_zero_or_one q with h | h
    · rw [show PRT_TRL_CMD.off q % 0x1000 = 0x78 by omega]
      decide
    · rw [show PRT_TRL_CMD.off q % 0x1000 = 0x7C by omega]
      decide
  simp only [State.holder, hin, and_self, if_true, hport, hheld, hen]

/-- A word written to PRT_TRL_CMD in a tile that is ON acts on its side. -/
theorem State.tileWrite_PRT_TRL_CMD (s : State) {q : Nat} (hq : q < 128) (v : Nat) : s.tileWrite (PRT_TRL_CMD.off q) v = s.trlCommand q v := by
  have hoff : PRT_TRL_CMD.off q = 0x100000 + 0x1000 * (q / 2) + 0x78 + 4 * (q % 2) := by
    unfold PRT_TRL_CMD.off
    omega
  have hre : retrains (PRT_TRL_CMD.off q) = false := by
    simp only [retrains, Bool.and_eq_false_iff, Bool.or_eq_false_iff, decide_eq_false_iff_not, beq_eq_false_iff_ne]
    omega
  have hlow : ¬0x200000 ≤ PRT_TRL_CMD.off q := by omega
  have hcmd : PRT_TRL_CMD.off q % 0x1000 = 0x78 ∨ PRT_TRL_CMD.off q % 0x1000 = 0x7C := by omega
  have hside : 2 * ((PRT_TRL_CMD.off q - 0x100000) / 0x1000) + (if PRT_TRL_CMD.off q % 0x1000 = 0x78 then 0 else 1) = q := by
    split <;> omega
  simp only [State.tileWrite, hre, Bool.false_eq_true, if_false, hlow, hcmd, if_true, hside]

/-- A command word that nothing holds up is taken at once. -/
theorem State.tileStore_PRT_TRL_CMD {s : State} {q : Nat} (hq : q < 128) (v : Nat) (hen : s.enabled (q / 2) = true)
    (hon : s.tileState (s.tileOf (q / 2)) = 2) (hacc : (s.tile (s.tileOf (q / 2))).accesses = []) :
    s.tileStore (PRT_TRL_CMD.off q) v =
      ((((s.upT (s.tileOf (q / 2)) (fun x => { x with accesses := [] })).tileQuiet (s.tileOf (q / 2))).trlCommand q v).tileQuiet
        (s.tileOf (q / 2))) := by
  have hwaits : s.accessWaits (s.tileOf (q / 2)) = false := by simp [State.accessWaits, hon]
  have hon' : ((s.upT (s.tileOf (q / 2)) (fun x => { x with accesses := [] })).tileQuiet (s.tileOf (q / 2))).tileState
      (s.tileOf (q / 2)) = 2 := hon
  simp only [State.tileStore, State.holder_PRT_TRL_CMD hq hen, State.tileAccess, hwaits, Bool.false_eq_true, if_false,
    State.drainAccesses, hacc, List.foldl_nil, State.takeAccess, hon', if_true, State.tileWrite_PRT_TRL_CMD _ hq]

/-- A request that meets R198 stands in the queue. -/
theorem State.request_queued {s : State} {q lane reason spare : Nat} (hseg : s.isSeg q = true) (hwatch : s.steer q = stWATCH)
    (hmeets : ∀ it : Item, it.lane = lane → it.reason = reason → it.spare = spare → (s.requestSpare q it).isSome = true) :
    ∃ it ∈ ((s.request q lane reason spare).seg q).queue, it.lane = lane ∧ it.reason = reason ∧ it.spare = spare := by
  unfold State.request
  dsimp only
  rw [if_pos ⟨hseg, hwatch, hmeets _ rfl rfl rfl⟩, State.upS_seg_same]
  exact ⟨_, mem_insertItem _ _, rfl, rfl, rfl⟩

/-- What a request needs is said by its lane, its reason and its spare. -/
theorem State.requestSpare_congr (s : State) (q : Nat) {a b : Item} (h1 : a.lane = b.lane) (h2 : a.reason = b.reason)
    (h3 : a.spare = b.spare) : s.requestSpare q a = s.requestSpare q b := by
  simp only [State.requestSpare, h1, h2, h3]

/-- Nothing of a Lane Tile is part of that. -/
theorem State.requestSpare_upT (s : State) (q i : Nat) (f : Tile → Tile) (it : Item) :
    (s.upT i f).requestSpare q it = s.requestSpare q it := by
  unfold State.requestSpare
  rfl

theorem exec_trlMove_queues (s : State) (q : SideId) (lane spare : Fin 32) (hh : s.hosted = true) (hen : s.enabled (q / 2) = true)
    (hon : s.tileState (s.tileOf (q / 2)) = 2) (hacc : (s.tile (s.tileOf (q / 2))).accesses = []) (hseg : s.isSeg q = true)
    (hwatch : s.steer q = stWATCH) (hmeets : (s.requestSpare q ⟨lane, 8, spare, 0, 0, 0⟩).isSome = true) :
    ∃ t, exec (.trlMove q lane spare) s = .next t ∧
    (t.seg q).queue.any (fun i => i.lane == lane.val && i.reason == 8 && i.spare == spare.val) = true := by
  generalize hu : (s.upT (s.tileOf (q / 2)) (fun x => { x with accesses := [] })).tileQuiet (s.tileOf (q / 2)) = u
  have hcmd : u.trlCommand q (2 ^ 31 + 1 * 2 ^ 29 + lane.val * 2 ^ 24 + spare.val * 2 ^ 16) = u.request q lane 8 spare := by
    have hgo : bitsOf (2 ^ 31 + 1 * 2 ^ 29 + lane.val * 2 ^ 24 + spare.val * 2 ^ 16) 31 1 = 1 := by simp only [bitsOf]; omega
    have hkind : bitsOf (2 ^ 31 + 1 * 2 ^ 29 + lane.val * 2 ^ 24 + spare.val * 2 ^ 16) 29 2 = 1 := by simp only [bitsOf]; omega
    have hlane : bitsOf (2 ^ 31 + 1 * 2 ^ 29 + lane.val * 2 ^ 24 + spare.val * 2 ^ 16) 24 5 = lane := by simp only [bitsOf]; omega
    have hspare : bitsOf (2 ^ 31 + 1 * 2 ^ 29 + lane.val * 2 ^ 24 + spare.val * 2 ^ 16) 16 5 = spare := by simp only [bitsOf]; omega
    simp only [State.trlCommand, PRT_TRL_CMD.GO, PRT_TRL_CMD.KIND, PRT_TRL_CMD.LANE, PRT_TRL_CMD.SPARE, hgo, hkind, hlane, hspare]
    rfl
  have hexec : exec (.trlMove q lane spare) s = .next ((u.request q lane 8 spare).tileQuiet (s.tileOf (q / 2))) := by
    rw [← hcmd, ← hu, ← State.tileStore_PRT_TRL_CMD q.isLt _ hen hon hacc]
    simp only [exec_trlMove_runs, execTrlMove, State.hostWrite, hh, if_true]
  have hmeets' : ∀ it : Item, it.lane = lane.val → it.reason = 8 → it.spare = spare.val → (u.requestSpare q it).isSome = true :=
    fun it h1 h2 h3 => by
      rw [State.requestSpare_congr u q (b := ⟨lane, 8, spare, 0, 0, 0⟩) h1 h2 h3, ← hu, State.tileQuiet, State.requestSpare_upT,
        State.requestSpare_upT]
      exact hmeets
  obtain ⟨it, hmem, h1, h2, h3⟩ := State.request_queued (s := u) (by rw [← hu]; exact hseg) (by rw [← hu]; exact hwatch) hmeets'
  refine ⟨_, hexec, List.any_eq_true.mpr ⟨it, hmem, ?_⟩⟩
  rw [h1, h2, h3]
  simp

theorem exec_trlReturnHome_queues (s : State) (q : SideId) (lane : Fin 32) (hh : s.hosted = true) (hen : s.enabled (q / 2) = true)
    (hon : s.tileState (s.tileOf (q / 2)) = 2) (hacc : (s.tile (s.tileOf (q / 2))).accesses = []) (hseg : s.isSeg q = true)
    (hwatch : s.steer q = stWATCH) (hmeets : (s.requestSpare q ⟨lane, 9, 0x1F, 0, 0, 0⟩).isSome = true) :
    ∃ t, exec (.trlReturnHome q lane) s = .next t ∧
    (t.seg q).queue.any (fun i => i.lane == lane.val && i.reason == 9) = true := by
  generalize hu : (s.upT (s.tileOf (q / 2)) (fun x => { x with accesses := [] })).tileQuiet (s.tileOf (q / 2)) = u
  have hcmd : u.trlCommand q (2 ^ 31 + 2 * 2 ^ 29 + lane.val * 2 ^ 24) = u.request q lane 9 0x1F := by
    have hgo : bitsOf (2 ^ 31 + 2 * 2 ^ 29 + lane.val * 2 ^ 24) 31 1 = 1 := by simp only [bitsOf]; omega
    have hkind : bitsOf (2 ^ 31 + 2 * 2 ^ 29 + lane.val * 2 ^ 24) 29 2 = 2 := by simp only [bitsOf]; omega
    have hlane : bitsOf (2 ^ 31 + 2 * 2 ^ 29 + lane.val * 2 ^ 24) 24 5 = lane := by simp only [bitsOf]; omega
    simp only [State.trlCommand, PRT_TRL_CMD.GO, PRT_TRL_CMD.KIND, PRT_TRL_CMD.LANE, hgo, hkind, hlane]
    rfl
  have hexec : exec (.trlReturnHome q lane) s = .next ((u.request q lane 9 0x1F).tileQuiet (s.tileOf (q / 2))) := by
    rw [← hcmd, ← hu, ← State.tileStore_PRT_TRL_CMD q.isLt _ hen hon hacc]
    simp only [exec_trlReturnHome_runs, execTrlReturnHome, State.hostWrite, hh, if_true]
  have hmeets' : ∀ it : Item, it.lane = lane.val → it.reason = 9 → it.spare = 0x1F → (u.requestSpare q it).isSome = true :=
    fun it h1 h2 h3 => by
      rw [State.requestSpare_congr u q (b := ⟨lane, 9, 0x1F, 0, 0, 0⟩) h1 h2 h3, ← hu, State.tileQuiet, State.requestSpare_upT,
        State.requestSpare_upT]
      exact hmeets
  obtain ⟨it, hmem, h1, h2, -⟩ := State.request_queued (s := u) (by rw [← hu]; exact hseg) (by rw [← hu]; exact hwatch) hmeets'
  refine ⟨_, hexec, List.any_eq_true.mpr ⟨it, hmem, ?_⟩⟩
  rw [h1, h2]
  simp

/-- Settles O27. -/
theorem laneFaultsAndRequestsAreQueued : Obligations.LaneFaultsAndRequestsAreQueued :=
  ⟨exec_hardFaultDeclare_records, exec_corrBlockEnd_declares, exec_corrBlockEnd_begins, exec_standardLaneFault_records,
    exec_retiredExpiry_readies, fun s q lane spare hh hen _ hon hacc => exec_trlMove_queues s q lane spare hh hen hon hacc,
    fun s q lane hh hen _ hon hacc => exec_trlReturnHome_queues s q lane hh hen hon hacc⟩

end Sys2Proof.Machine
end

section
/-! PROOFS. Calibration runs, the sets they hold and the captures they compute (07, R200 to R215). -/

set_option Elab.async false

namespace Sys2Proof.Machine

@[simp] theorem State.tileQuiet_halves (s : State) (t : Nat) : (s.tileQuiet t).halves = s.halves :=
  (Goes.tileQuiet (Foot.le_refl _) (Goes.refl _ s)).part .halves (by decide)
@[simp] theorem State.tileQuiet_half (s : State) (t : Nat) (h' : Nat) : (s.tileQuiet t).half h' = s.half h' := by
  rw [State.half, State.tileQuiet_halves, ← State.half]
@[simp] theorem State.showRuns_halves (s : State) : (s.showRuns).halves = s.halves :=
  (Goes.showRuns (Foot.le_refl _) (Goes.refl _ s)).part .halves (by decide)
@[simp] theorem State.showRuns_half (s : State) (h' : Nat) : (s.showRuns).half h' = s.half h' := by
  rw [State.half, State.showRuns_halves, ← State.half]
@[simp] theorem State.advanceTo_halves (s : State) (e : Nat) : (s.advanceTo e).halves = s.halves :=
  (Goes.advanceTo (Foot.le_refl _) (Goes.refl _ s)).part .halves (by decide)
@[simp] theorem State.advanceTo_half (s : State) (e : Nat) (h' : Nat) : (s.advanceTo e).half h' = s.half h' := by
  rw [State.half, State.advanceTo_halves, ← State.half]
@[simp] theorem State.advanceTo_engines (s : State) (e : Nat) : (s.advanceTo e).engines = s.engines :=
  (Goes.advanceTo (Foot.le_refl _) (Goes.refl _ s)).part .engines (by decide)
@[simp] theorem State.advanceTo_engine (s : State) (e : Nat) (k' : Nat) : (s.advanceTo e).engine k' = s.engine k' := by
  rw [State.engine, State.advanceTo_engines, ← State.engine]
@[simp] theorem State.endRun_calTab (s : State) (h : Nat) (result : Nat) : (s.endRun h result).calTab = s.calTab :=
  (Goes.endRun (Foot.le_refl _) (Goes.refl _ s)).part .calTab (by decide)
@[simp] theorem State.scheduleBack_calTab (s : State) (h : Nat) : (s.scheduleBack h).calTab = s.calTab :=
  (Goes.scheduleBack (Foot.le_refl _) (Goes.refl _ s)).part .calTab (by decide)
@[simp] theorem State.scheduleTable_calTab (s : State) (h : Nat) : (s.scheduleTable h).calTab = s.calTab :=
  (Goes.scheduleTable (Foot.le_refl _) (Goes.refl _ s)).part .calTab (by decide)
@[simp] theorem State.abortRun_calTab (s : State) (h : Nat) : (s.abortRun h).calTab = s.calTab :=
  (Goes.abortRun (Foot.le_refl _) (Goes.refl _ s)).part .calTab (by decide)
@[simp] theorem State.clearRun_calTab (s : State) (h : Nat) : (s.clearRun h).calTab = s.calTab :=
  (Goes.clearRun (Foot.le_refl _) (Goes.refl _ s)).part .calTab (by decide)
/-! ## A run begins (R204, R205, R211) -/

/-- A request for a run on a receiver that may have one: it waits to capture. -/
theorem State.startRun_pending {s : State} {h : Nat} (hrun : (s.half h).run = none) (hready : s.calReady h = true)
    (hdata : s.holdsData h = false) :
    ((s.startRun h).half h).run = some { stage := .pending, noErr := s.samplerBusy h } ∧
      (s.startRun h).rd (CAL_RX.LAST_RESULT h) = 6 ∧ (s.startRun h).rd (CAL_RX.NQ_REASON h) = 0 := by
  have hstart : s.startRun h = ((((s.upH h (fun x => { x with run := some { stage := .pending, noErr := s.samplerBusy h } })).upE
      (engineOf h) (fun e => { e with quiet := false })).wr (CAL_RX.LAST_RESULT h) 6).wr (CAL_RX.NQ_REASON h) 0).showRuns := by
    simp [State.startRun, hrun, hready, hdata]
  rw [hstart]
  refine ⟨by simp, by simp +decide [State.showRuns], by simp +decide [State.showRuns]⟩

/-- A request for a run on a receiver that is not eligible ends at once. -/
theorem State.startRun_refused {s : State} {h : Nat} (hrun : (s.half h).run = none) (hready : s.calReady h = false)
    (hrate : s.calRateOnly h = false) :
    ((s.startRun h).half h).run = none ∧ (s.startRun h).rd (CAL_RX.LAST_RESULT h) = 3 := by
  have hstart : s.startRun h = (s.wr (CAL_RX.LAST_RESULT h) 3).wr (CAL_RX.NQ_REASON h) 0 := by
    simp [State.startRun, hrun, hready, hrate]
  rw [hstart]
  exact ⟨by simp [hrun], by simp +decide⟩

/-- RUN of one receiver that a Port claims. -/
theorem exec_calRun_one {s : State} {half : Bool} {index : Nat} (hi : index ≤ 255) (hh : s.hosted = true) (hp : s.powerState ≠ 1)
    (hc : (s.claim (2 * index + ofBool half)).isSome = true) :
    exec (.calRun 0 half index) s = .next (s.startRun (2 * index + ofBool half)) := by
  simp [exec_calRun_runs, execCalRun, State.hostCmd, State.hostWrite, hh, hp, State.calRun, State.calScope, Nat.min_eq_left hi, hc, State.each]

theorem State.claim_of_calReady {s : State} {h : Nat} (hr : s.calReady h = true) : (s.claim h).isSome = true := by
  unfold State.calReady at hr
  split at hr
  · cases hr
  · simp_all

theorem State.calReady_advanceTo (s : State) (e h : Nat) : (s.advanceTo e).calReady h = s.calReady h := by
  have hq : (s.advanceTo e).rxQualified h = s.rxQualified h := by simp +decide [State.rxQualified, State.bit]
  have hseg : ∀ q, (s.advanceTo e).segState q = s.segState q := fun q => State.rd_advanceTo s _ e (by simp +decide)
  have hslot : (s.advanceTo e).rd (LCH_FOM.RATE_SLOT h) = s.rd (LCH_FOM.RATE_SLOT h) := State.rd_advanceTo s _ e (by simp +decide)
  simp only [State.calReady, (s.sameMap_advanceTo e).claim, (s.sameMap_advanceTo e).isSeg, hq, hseg, State.trn_advanceTo, hslot]

theorem State.jobState_advanceTo (s : State) (e k : Nat) : (s.advanceTo e).jobState k = s.jobState k :=
  State.rd_advanceTo s _ e (by simp +decide)

theorem State.holdsData_advanceTo (s : State) (e h : Nat) : (s.advanceTo e).holdsData h = s.holdsData h := by
  simp only [State.holdsData, State.advanceTo_engine, State.jobState_advanceTo]

theorem State.samplerBusy_advanceTo (s : State) (e h : Nat) : (s.advanceTo e).samplerBusy h = s.samplerBusy h := by
  simp only [State.samplerBusy, State.holdsSampler, State.holdsData_advanceTo, State.advanceTo_engine, State.jobState_advanceTo,
    State.advanceTo_half]

/-- CAL_AUTO_RUN of an eligible receiver with no run since its side became active. -/
theorem exec_calAutoRun_starts {s : State} {h : HalfId} (hauto : s.bit CAL_POLICY.AUTO_RUN = true) (hready : s.calReady h = true)
    (hrun : (s.half h).run = none) (hlast : (s.half h).lastRun = none) (hdata : s.holdsData h = false) :
    ∃ t, exec (.calAutoRun h) s = .next t ∧ (t.half h).run = some { stage := .pending, noErr := s.samplerBusy h } ∧
      t.rd (CAL_RX.LAST_RESULT h) = 6 := by
  obtain ⟨hr, hres, -⟩ := State.startRun_pending (s := s.advanceTo (s.half h).noAutoUntil) (h := h) (by rw [State.advanceTo_half, hrun])
    (by rw [State.calReady_advanceTo, hready]) (by rw [State.holdsData_advanceTo, hdata])
  refine ⟨_, (next_pos ⟨hauto, hready, hrun⟩).trans ?_, hr.trans (by rw [State.samplerBusy_advanceTo]), hres⟩
  simp only [hlast]

/-! ## A run ends (R208, R211) -/

theorem State.endRun_run (s : State) (h result : Nat) : ((s.endRun h result).half h).run = none := by
  unfold State.endRun
  dsimp only
  split
  · split <;> split <;> simp
  · split <;> simp

theorem State.endRun_result (s : State) (h result : Nat) (hv : result < 16) :
    (s.endRun h result).rd (CAL_RX.LAST_RESULT h) = result := by
  have hrd : (s.endRun h result).rd (CAL_RX.LAST_RESULT h) = result % 16 := by
    unfold State.endRun
    dsimp only
    split
    · split <;> split <;> simp +decide [State.showRuns]
    · split <;> simp +decide [State.showRuns]
  rw [hrd, Nat.mod_eq_of_lt hv]

theorem State.endRun_run_keeps {s : State} {a : Nat} (ha : (s.half a).run = none) (h result : Nat) :
    ((s.endRun h result).half a).run = none := by
  by_cases hah : a = h
  · rw [hah, State.endRun_run]
  · rw [State.endRun_half_ne hah, ha]

theorem State.abortRun_run (s : State) (h : Nat) : ((s.abortRun h).half h).run = none := by
  unfold State.abortRun
  split
  case h_1 hn => exact hn
  case h_2 r hr => split <;> exact State.endRun_run ..

theorem State.clearRun_run (s : State) (h : Nat) : ((s.clearRun h).half h).run = none := by
  unfold State.clearRun
  split
  case h_1 hn => exact hn
  case h_2 r hr => exact State.endRun_run ..

theorem State.clearRun_run_keeps {s : State} {a : Nat} (ha : (s.half a).run = none) (h : Nat) : ((s.clearRun h).half a).run = none := by
  unfold State.clearRun
  split
  · exact ha
  · refine State.endRun_run_keeps ?_ ..
    split
    · rw [State.upH_half_proj Half.run s h (by intro; rfl), ha]
    · exact ha

/-- A hold of a set, asked for by the host, ends the run of its receiver. -/
theorem exec_calHoldWrite_ends {s : State} {h : HalfId} (hh : s.hosted = true) :
    ∃ t, exec (.calHoldWrite h) s = .next t ∧ t.rd (CAL_RX.HOLD h) = 1 ∧ (t.half h).run = none := by
  refine ⟨s.setHold h, ?_, ?_, State.abortRun_run ..⟩
  · simp [exec_calHoldWrite_runs, execCalHoldWrite, State.hostWrite, hh]
  · unfold State.setHold
    rw [State.rd_abortRun _ _ _ (by rw [fieldName_CAL_RX_HOLD]; decide)]
    simp

/-! ## An interpolation step (R202, R203) -/

theorem ofSigned_lt (w : Nat) (i : Int) : ofSigned w i < 2 ^ w := by
  have hpos : (0 : Int) < 2 ^ w := by positivity
  have hlt : i % 2 ^ w < 2 ^ w := Int.emod_lt_of_pos i hpos
  have hnn : 0 ≤ i % 2 ^ w := Int.emod_nonneg i hpos.ne'
  unfold ofSigned
  zify
  rw [Int.toNat_of_nonneg hnn]
  exact_mod_cast hlt

theorem State.each_calTab (s : State) (xs : List Nat) (f : State → Nat → State) (hf : ∀ t x, (f t x).calTab = t.calTab) :
    (s.each xs f).calTab = s.calTab :=
  State.each_induction (P := fun t => t.calTab = s.calTab) xs f rfl (fun t x _ h => (hf t x).trans h)

/-- INTERPOLATION_STEP in a tile that is ON: its temperature is shown, and the working table stays. -/
theorem exec_interpolationStep_shows {s : State} {i : TileId} {temp : Int} (hon : s.tileState i = 2) :
    ∃ t, exec (.interpolationStep i temp) s = .next t ∧ t.rd (CAL_TEMP.TEMP i) = ofSigned 10 temp ∧ t.rd (CAL_TEMP.VALID i) = 1 ∧
      t.calTab = s.calTab := by
  refine ⟨_, next_neg (not_not.mpr hon), ?_, ?_, ?_⟩
  · rw [State.rd_each _ _ _ _ (fun t x _ => State.rd_scheduleTable _ _ _ (by simp +decide))]
    simp +decide
    exact ofSigned_lt 10 temp
  · rw [State.rd_each _ _ _ _ (fun t x _ => State.rd_scheduleTable _ _ _ (by simp +decide))]
    simp +decide
  · exact State.each_calTab _ _ _ (fun t x => State.scheduleTable_calTab t x)

/-! ## CLEAR (R208, R214) -/

/-- What a list of entries has at a key, once each value is replaced. -/
theorem lookupKey_map {α : Type} (g : Nat × α → α) (k : Nat) (l : List (Nat × α)) :
    lookupKey k (l.map (fun e => (e.1, g e))) = (lookupKey k l).map (fun v => g (k, v)) := by
  induction l with
  | nil => rfl
  | cons e l ih =>
    simp only [List.map_cons, lookupKey, ih]
    split
    case isTrue he => simp [← he]
    case isFalse => rfl

theorem State.tableChanged_run (s : State) (h : Nat) : ((s.tableChanged h).half h).run = none := by
  have hp : ((((s.clearRun h).showPoints h)).half h).run = none := by simp [State.showPoints, State.clearRun_run]
  unfold State.tableChanged
  dsimp only
  split
  · rw [State.scheduleTable, State.scheduleSet, State.upH_half_proj Half.run _ h (by intro; rfl), hp]
  · exact hp

theorem State.tableChanged_run_keeps {s : State} {a : Nat} (ha : (s.half a).run = none) (h : Nat) :
    ((s.tableChanged h).half a).run = none := by
  have hp : ((((s.clearRun h).showPoints h)).half a).run = none := by simp [State.showPoints, State.clearRun_run_keeps ha]
  unfold State.tableChanged
  dsimp only
  split
  · rw [State.scheduleTable, State.scheduleSet, State.upH_half_proj Half.run _ h (by intro; rfl), hp]
  · exact hp

theorem State.tableChanged_calTab (s : State) (h : Nat) : (s.tableChanged h).calTab = s.calTab := by
  unfold State.tableChanged
  dsimp only
  split <;> simp [State.showPoints]

/-- What CLEAR of some receivers makes of a record. -/
def clearedRec (hs : List Nat) (e : Nat × CalRec) : CalRec := if e.2.valid && hs.contains (e.1 / 4) then { e.2 with valid := false } else e.2

theorem clearedRec_valid {hs : List Nat} {e : Nat × CalRec} (he : hs.contains (e.1 / 4) = true) : (clearedRec hs e).valid = false := by
  unfold clearedRec
  cases hv : e.2.valid <;> simp_all

theorem State.calClear_calTab (s : State) (scope : Nat) (half : Bool) (index : Nat) :
    (s.calClear scope half index).calTab =
      ⟨s.calTab.entries.map (fun e => (e.1, clearedRec (s.calScope scope half index) e))⟩ := by
  unfold State.calClear
  rw [State.each_calTab _ _ _ State.tableChanged_calTab]
  dsimp only
  split <;> rfl

theorem State.mem_calScope_device (s : State) (half : Bool) (index : Nat) {h : Nat} (hlt : h < 512) : h ∈ s.calScope 3 half index := by
  rw [State.calScope, if_neg (by decide), if_neg (by decide), if_neg (by decide)]
  exact List.mem_range.mpr hlt

/-- CLEAR of the whole device: no record of a receiver is valid any more, none has a run, and the table is marked as changed. -/
theorem exec_calClear_device {s : State} {half : Bool} {index h : Nat} (hh : s.hosted = true) (hp : s.powerState ≠ 1) (hlt : h < 512)
    (hany : s.calTab.entries.any (fun e => e.2.valid && decide (e.1 < 2048)) = true) :
    ∃ t, exec (.calClear 3 half index) s = .next t ∧ (∀ i : Nat, i < 4 → (t.calRec h i).valid = false) ∧
      (t.half h).run = none ∧ t.rd CAL_STATUS.DIRTY = 1 := by
  refine ⟨s.calClear 3 half index, by simp [exec_calClear_runs, execCalClear, State.hostCmd, State.hostWrite, hh, hp], ?_, ?_, ?_⟩
  · intro i hi
    have hmem : (s.calScope 3 half index).contains ((4 * h + i) / 4) = true := by
      rw [show (4 * h + i) / 4 = h by omega]
      exact List.contains_iff_mem.mpr (s.mem_calScope_device half index hlt)
    rw [State.calRec, State.calClear_calTab, Tab.get, lookupKey_map]
    cases lookupKey (4 * h + i) s.calTab.entries with
    | none => rfl
    | some v => exact clearedRec_valid hmem
  · unfold State.calClear
    exact State.each_establishes (P := fun t => (t.half h).run = none) (s.mem_calScope_device half index hlt)
      (fun t => t.tableChanged_run h) (fun t y ht => State.tableChanged_run_keeps ht y)
  · have hhit : (s.calTab.entries.any (fun e => e.2.valid && (s.calScope 3 half index).contains (e.1 / 4))) = true := by
      rw [List.any_eq_true] at hany ⊢
      obtain ⟨e, he, hv⟩ := hany
      simp only [Bool.and_eq_true, decide_eq_true_eq] at hv
      exact ⟨e, he, by rw [hv.1, List.contains_iff_mem.mpr (s.mem_calScope_device half index (by omega)), Bool.and_self]⟩
    unfold State.calClear
    dsimp only
    rw [State.rd_each (c := CAL_STATUS.DIRTY) _ _ _ (fun t x _ =>
      State.rd_tableChanged _ _ _ (by rw [fieldName_CAL_STATUS_DIRTY]; decide)), if_pos hhit, State.calChanged]
    exact (State.setCalStore_rd ..).trans (State.rd_on_same ..)

/-- Settles O30: CAL_RUN, CAL_AUTO_RUN, CAL_HOLD_WRITE, INTERPOLATION_STEP and CAL_CLEAR. -/
theorem calibrationRunsStartAndSetsClear : Obligations.CalibrationRunsStartAndSetsClear := by
  unfold Obligations.CalibrationRunsStartAndSetsClear
  refine ⟨?_, ?_, ?_, ?_, ?_, ?_⟩
  · intro s half index hi hh hp hready hrun hdata
    exact ⟨_, exec_calRun_one hi hh hp (State.claim_of_calReady hready), State.startRun_pending hrun hready hdata⟩
  · intro s half index q hi hh hp hclaim hready hrate hrun
    exact ⟨_, exec_calRun_one hi hh hp (by rw [hclaim]; rfl), State.startRun_refused hrun hready hrate⟩
  · exact fun s h => exec_calAutoRun_starts
  · exact fun s h => exec_calHoldWrite_ends
  · exact fun s i temp => exec_interpolationStep_shows
  · exact fun s half index h => exec_calClear_device

/-! ## The capture (R205 to R207) and what is computed of it (R209) -/

/-- CAL_CAPTURE_START of a run that waits, its engine free. -/
theorem exec_calCaptureStart_captures {s : State} {h : HalfId} {r : CalRun} (hrun : (s.half h).run = some r) (hst : r.stage = .pending)
    (hdata : s.holdsData h = false) (hup : s.engineUp h = true)
    (hfree : (List.range 4).all (fun i => 4 * engineOf h + i == h.val || (s.half (4 * engineOf h + i)).run.isNone) = true) :
    ∃ t, exec (.calCaptureStart h) s = .next t ∧
      (t.half h).run = some { r with stage := .capturing, noErr := r.noErr || s.samplerBusy h } := by
  simp only [exec_calCaptureStart_runs, execCalCaptureStart, hrun]
  refine ⟨_, next_pos ⟨hst, by simp [hdata], hup, ?_⟩, by rw [State.upH_half_same]⟩
  rw [Bool.not_eq_true', List.any_eq_false]
  intro i hi
  have hor := List.all_eq_true.mp hfree i hi
  simp only [Bool.or_eq_true, beq_iff_eq] at hor
  cases hor with
  | inl heq => split <;> simp [heq]
  | inr hnone => simp [Option.isNone_iff_eq_none.mp hnone]

/-- CAL_CAPTURE_END of a capture that qualifies. -/
theorem exec_calCaptureEnd_measures {s : State} {h : HalfId} {r : CalRun} {stats : CaptureStats} {errors : CaptureErrors}
    (hrun : (s.half h).run = some r) (hst : r.stage = .capturing)
    (hq : nqReason (s.rd (LCH_FOM.RATE_SLOT h)) stats r.disturbed = 0) :
    ∃ t, exec (.calCaptureEnd h stats errors) s = .next t ∧
      (t.half h).run.map (fun x => (x.stage, x.measured)) = some (.computing,
        measuredSet (s.half h).applied (if 5 ≤ s.rd (LCH_FOM.RATE_SLOT h) then 4 else 2) stats errors) ∧
      t.rd (CAL_RX.NQ_REASON h) = s.rd (CAL_RX.NQ_REASON h) := by
  simp only [exec_calCaptureEnd_runs, execCalCaptureEnd, hrun]
  exact ⟨_, (next_neg (not_not.mpr hst)).trans (next_pos hq), by simp, by simp⟩

theorem ofBool_lt_two (b : Bool) : ofBool b < 2 := by cases b <;> decide

/-- The failed tests fit the seven bits of NQ_REASON. -/
theorem nqReason_lt (slot : Nat) (c : CaptureStats) (d : Bool) : nqReason slot c d < 128 := by
  have hsum : ∀ a b e f g k m : Bool, ofBool a + 2 * ofBool b + 4 * ofBool e + 8 * ofBool f + 16 * ofBool g + 32 * ofBool k +
      64 * ofBool m < 128 := by decide
  exact hsum ..

/-- CAL_CAPTURE_END of a capture that fails a test. -/
theorem exec_calCaptureEnd_fails {s : State} {h : HalfId} {r : CalRun} {stats : CaptureStats} {errors : CaptureErrors}
    (hrun : (s.half h).run = some r) (hst : r.stage = .capturing)
    (hq : nqReason (s.rd (LCH_FOM.RATE_SLOT h)) stats r.disturbed ≠ 0) :
    ∃ t, exec (.calCaptureEnd h stats errors) s = .next t ∧ (t.half h).run = none ∧ t.rd (CAL_RX.LAST_RESULT h) = 2 ∧
      t.rd (CAL_RX.NQ_REASON h) = nqReason (s.rd (LCH_FOM.RATE_SLOT h)) stats r.disturbed := by
  simp only [exec_calCaptureEnd_runs, execCalCaptureEnd, hrun]
  refine ⟨_, (next_neg (not_not.mpr hst)).trans (next_neg hq), ?_, ?_, ?_⟩
  · rw [State.wr_half, State.endRun_run]
  · rw [State.rd_wr_name _ _ _ _ (by simp), State.endRun_result _ _ _ (by decide)]
  · rw [State.rd_wr_same]
    exact Nat.mod_eq_of_lt (lt_of_lt_of_le (nqReason_lt ..) (show 128 ≤ 2 ^ 8 by decide))

/-- CAL_COMPUTE_DONE: the run's set is pending, and the working table stays. -/
theorem exec_calComputeDone_schedules {s : State} {h : HalfId} {r : CalRun} (hrun : (s.half h).run = some r) (hst : r.stage = .computing) :
    ∃ t, exec (.calComputeDone h) s = .next t ∧ (t.half h).run.map (fun x => x.stage) = some .scheduled ∧
      (t.half h).pendingRun = true ∧ (t.half h).pendingSet.isSome = true ∧ t.calTab = s.calTab := by
  simp only [exec_calComputeDone_runs, execCalComputeDone, hrun]
  exact ⟨_, next_neg (not_not.mpr hst), by simp [State.scheduleSet], by simp [State.scheduleSet], by simp [State.scheduleSet], rfl⟩

/-- Settles O31: CAL_CAPTURE_START, CAL_CAPTURE_END and CAL_COMPUTE_DONE. -/
theorem calibrationCaptureAndCompute : Obligations.CalibrationCaptureAndCompute := by
  unfold Obligations.CalibrationCaptureAndCompute
  refine ⟨?_, ?_, ?_, ?_⟩
  · exact fun s h r => exec_calCaptureStart_captures
  · exact fun s h r stats errors => exec_calCaptureEnd_measures
  · exact fun s h r stats errors => exec_calCaptureEnd_fails
  · exact fun s h r => exec_calComputeDone_schedules

end Sys2Proof.Machine
end

section
/-! PROOFS. The calibration store: STORE, RELOAD and the steps of a store (07, R214 to R221). -/

set_option Elab.async false

namespace Sys2Proof.Machine

@[simp] theorem State.tileQuiet_flash (s : State) (t : Nat) : (s.tileQuiet t).flash = s.flash :=
  (Goes.tileQuiet (Foot.le_refl _) (Goes.refl _ s)).part .flash (by decide)
@[simp] theorem State.tileQuiet_calTab (s : State) (t : Nat) : (s.tileQuiet t).calTab = s.calTab :=
  (Goes.tileQuiet (Foot.le_refl _) (Goes.refl _ s)).part .calTab (by decide)
@[simp] theorem State.deviceQuiet_flash (s : State) : (s.deviceQuiet).flash = s.flash :=
  (Goes.deviceQuiet (Foot.le_refl _) (Goes.refl _ s)).part .flash (by decide)
@[simp] theorem State.flashSpoil_calStore (s : State) (a : Nat) (n : Nat) : (s.flashSpoil a n).calStore = s.calStore :=
  (Goes.flashSpoil (Foot.le_refl _) (Goes.refl _ s)).part .calStore (by decide)
@[simp] theorem State.flashErase_calStore (s : State) (a : Nat) (n : Nat) : (s.flashErase a n).calStore = s.calStore :=
  (Goes.flashErase (Foot.le_refl _) (Goes.refl _ s)).part .calStore (by decide)
@[simp] theorem State.advanceTo_flash (s : State) (e : Nat) : (s.advanceTo e).flash = s.flash :=
  (Goes.advanceTo (Foot.le_refl _) (Goes.refl _ s)).part .flash (by decide)
@[simp] theorem State.advanceTo_calTab (s : State) (e : Nat) : (s.advanceTo e).calTab = s.calTab :=
  (Goes.advanceTo (Foot.le_refl _) (Goes.refl _ s)).part .calTab (by decide)
@[simp] theorem State.advanceTo_imgOp (s : State) (e : Nat) : (s.advanceTo e).imgOp = s.imgOp :=
  (Goes.advanceTo (Foot.le_refl _) (Goes.refl _ s)).part .imgOp (by decide)
@[simp] theorem State.advanceTo_calStore (s : State) (e : Nat) : (s.advanceTo e).calStore = s.calStore :=
  (Goes.advanceTo (Foot.le_refl _) (Goes.refl _ s)).part .calStore (by decide)
/-! ## Bytes of the flash (R217, R250) -/

theorem Memory.get_clear (m : Memory) (a n k : Nat) : (m.clear a n).get k = if a ≤ k ∧ k < a + n then 0xFF else m.get k := by
  split
  case isTrue h => exact m.get_clear_in h.1 h.2
  case isFalse h => exact m.get_clear_out (by omega)

theorem Memory.get_put (m : Memory) (bs : List Byte) (a k : Nat) :
    (m.put a bs).get k = if a ≤ k ∧ k < a + bs.length then bs.getD (k - a) 0 else m.get k := by
  split
  case isTrue h =>
    obtain ⟨i, rfl⟩ := Nat.exists_eq_add_of_le h.1
    rw [m.get_put_in bs a (by omega), Nat.add_sub_cancel_left]
  case isFalse h => exact m.get_put_out bs (by omega)

/-- A failed operation leaves the bytes beside those it worked on. -/
theorem State.get_flashSpoil (s : State) {a n k : Nat} (h : k < a ∨ a + n ≤ k) : (s.flashSpoil a n).flash.get k = s.flash.get k := by
  rw [State.flashSpoil, State.flashWrite, State.setFlash_flash, Memory.get_put_out _ _ (by simpa using h)]
  rfl

theorem CalRec.length_bytes (r : CalRec) : r.bytes.length = 64 := by simp [CalRec.bytes, zeros]

theorem length_calBody (t : Tab CalRec) : (calBody t).length = bodyLength := by
  rw [calBody, List.length_flatMap, List.map_congr_left (g := fun _ => 64) (fun j _ => CalRec.length_bytes _), List.map_const',
    List.sum_replicate, List.length_range]
  rfl

/-! ## The end of a store (R219, R221) -/

theorem State.storeEnd_calStore (s : State) (r : Nat) : (s.storeEnd r).calStore = none := rfl

theorem State.storeEnd_flash (s : State) (r : Nat) : (s.storeEnd r).flash = s.flash := by
  unfold State.storeEnd
  dsimp only
  rw [State.setImgOp_flash, State.setStoreWait_flash, State.setCalStore_flash, State.deviceQuiet_flash]
  exact State.each_induction (P := fun t => t.flash = s.flash) _ _ rfl (fun t x _ h => (t.tileQuiet_flash x).trans h)

/-- The end of a store shows its result alone. -/
theorem State.rd_storeEnd_cells (s : State) (r : Nat) (c : Cell) :
    (s.storeEnd r).rd c = ((s.off CAL_STATUS.STORE_BUSY).wr CAL_STATUS.STORE_RESULT r).rd c := by
  unfold State.storeEnd
  dsimp only
  rw [State.setImgOp_rd, State.setStoreWait_rd, State.setCalStore_rd, State.deviceQuiet, State.upPw_rd]
  exact State.rd_each _ _ _ _ (fun t x _ => State.upT_rd ..)

theorem State.storeEnd_result (s : State) {r : Nat} (hr : r < 8) : (s.storeEnd r).rd CAL_STATUS.STORE_RESULT = r := by
  rw [State.rd_storeEnd_cells, State.rd_wr_same]
  exact Nat.mod_eq_of_lt hr

theorem State.storeEnd_busy (s : State) (r : Nat) : (s.storeEnd r).rd CAL_STATUS.STORE_BUSY = 0 := by
  rw [State.rd_storeEnd_cells]
  simp

/-! ## A store begins (R214, R215, R219, R221) -/

/-- A store asked for with the flash free and no valid copy. -/
theorem State.storeAsk_begins {s : State} (hfree : s.imageWriting = false) (hcopy : s.currentCopy = none) :
    s.storeAsk.rd CAL_STATUS.STORE_BUSY = 1 ∧ s.storeAsk.lastStore = s.elapsed ∧
      s.storeAsk.calStore.map (fun c => (c.step, c.toB, c.gen, c.buffer)) = some (2, false, 1, s.calTab) := by
  have hcopy' : (s.setLastStore s.elapsed).currentCopy = none := hcopy
  unfold State.storeAsk State.storeBegin
  simp [hfree, hcopy']

theorem exec_calStore_busy {s : State} (hh : s.hosted = true) (hp : s.powerState ≠ 1) (hb : s.bit CAL_STATUS.STORE_BUSY = true) :
    ∃ t, exec (.calStore) s = .next t ∧ t.rd CAL_STATUS.STORE_RESULT = 4 ∧ t.calStore = s.calStore := by
  refine ⟨s.wr CAL_STATUS.STORE_RESULT 4, ?_, by simp, rfl⟩
  simp [exec_calStore_runs, execCalStore, State.hostCmd, State.hostWrite, hh, hp, State.calStoreCmd, hb]

theorem exec_calStore_begins {s : State} (hh : s.hosted = true) (hp : s.powerState ≠ 1) (hb : s.bit CAL_STATUS.STORE_BUSY = false)
    (hfree : s.imageWriting = false) (hcopy : s.currentCopy = none) :
    ∃ t, exec (.calStore) s = .next t ∧ t.rd CAL_STATUS.STORE_BUSY = 1 ∧
      t.calStore.map (fun c => (c.step, c.toB, c.gen, c.buffer)) = some (2, false, 1, s.calTab) := by
  obtain ⟨hbusy, -, hstore⟩ := State.storeAsk_begins hfree hcopy
  refine ⟨s.storeAsk, ?_, hbusy, hstore⟩
  simp [exec_calStore_runs, execCalStore, State.hostCmd, State.hostWrite, hh, hp, State.calStoreCmd, hb]

theorem State.currentCopy_of_flash {s t : State} (h : t.flash = s.flash) : t.currentCopy = s.currentCopy := by
  simp only [State.currentCopy, State.copyGen, h]

theorem exec_calAutoStore_begins {s : State} (hauto : s.bit CAL_POLICY.AUTO_STORE = true) (hdirty : s.bit CAL_STATUS.DIRTY = true)
    (hb : s.bit CAL_STATUS.STORE_BUSY = false) (hfree : s.imageWriting = false) (hcopy : s.currentCopy = none) (ha : s.awake = true) :
    ∃ t, exec (.calAutoStore) s = .next t ∧ t.rd CAL_STATUS.STORE_BUSY = 1 ∧
      t.lastStore = max s.elapsed (s.lastStore + s.rd CAL_POLICY.STORE_INTERVAL * 600000000 * usUnit) ∧
      t.calStore.map (fun c => (c.step, c.buffer)) = some (2, s.calTab) := by
  generalize hu : s.advanceTo (s.lastStore + s.rd CAL_POLICY.STORE_INTERVAL * 600000000 * usUnit) = u
  have hfree' : u.imageWriting = false := by rw [State.imageWriting, ← hu, State.advanceTo_imgOp, ← State.imageWriting, hfree]
  have hcopy' : u.currentCopy = none := (State.currentCopy_of_flash (by rw [← hu, State.advanceTo_flash])).trans hcopy
  obtain ⟨hbusy, hlast, hstore⟩ := State.storeAsk_begins hfree' hcopy'
  refine ⟨u.storeAsk, ?_, hbusy, ?_, ?_⟩
  · simp only [exec_calAutoStore_runs, execCalAutoStore, ha, hauto, hdirty, hb, hu, Bool.not_false, and_self, if_true]
  · rw [hlast, ← hu, State.advanceTo_elapsed]
  · obtain ⟨c, hc, heq⟩ := Option.map_eq_some_iff.mp hstore
    simp only [Prod.mk.injEq] at heq
    rw [hc, Option.map_some, heq.1, heq.2.2.2, ← hu, State.advanceTo_calTab]

/-! ## The steps of a store (R219) -/

section
variable {s : State} {c : CalStore} (hc : s.calStore = some c) (ha : s.awake = true)
include hc ha

/-- A step before the last that completes leaves what it did in flash, and the next one due. -/
theorem exec_calStoreFlashDone_steps (hst : c.step < 7) :
    exec (.calStoreFlashDone true) s = .next ((s.storeStep c).setCalStore (some { c with step := c.step + 1 })) := by
  simp [exec_calStoreFlashDone_runs, execCalStoreFlashDone, hc, ha, hst]

theorem exec_calStoreFlashDone_header (a : Nat) (hst : c.step = 2) :
    ∃ t, exec (.calStoreFlashDone true) s = .next t ∧ t.calStore = some { c with step := 3 } ∧
      t.flash.get a = (if copyBase c.toB ≤ a ∧ a < copyBase c.toB + 4096 then 0xFF else s.flash.get a) ∧ t.regs = s.regs := by
  refine ⟨_, exec_calStoreFlashDone_steps hc ha (by omega), by simp [hst], ?_, ?_⟩
  · simp only [State.storeStep, hst, if_true]
    exact Memory.get_clear ..
  · simp only [State.storeStep, hst, if_true]
    rfl

theorem exec_calStoreFlashDone_body (a : Nat) (hst : c.step = 3) :
    ∃ t, exec (.calStoreFlashDone true) s = .next t ∧ t.calStore = some { c with step := 4 } ∧
      t.flash.get a = (if copyBody c.toB ≤ a ∧ a < copyBody c.toB + bodyLength then 0xFF else s.flash.get a) ∧ t.regs = s.regs := by
  have hstep : s.storeStep c = s.flashErase (copyBody c.toB) bodyLength := by simp [State.storeStep, hst]
  refine ⟨_, exec_calStoreFlashDone_steps hc ha (by omega), by simp [hst], ?_, ?_⟩
  · rw [hstep]
    exact Memory.get_clear ..
  · rw [hstep]
    rfl

theorem exec_calStoreFlashDone_program (a : Nat) (hst : c.step = 4) :
    ∃ t, exec (.calStoreFlashDone true) s = .next t ∧ t.calStore = some { c with step := 5 } ∧
      t.flash.get a = (if copyBody c.toB ≤ a ∧ a < copyBody c.toB + bodyLength then
        (calBody c.buffer).getD (a - copyBody c.toB) 0 else s.flash.get a) ∧ t.regs = s.regs := by
  have hstep : s.storeStep c = s.flashWrite (copyBody c.toB) (calBody c.buffer) := by simp [State.storeStep, hst]
  refine ⟨_, exec_calStoreFlashDone_steps hc ha (by omega), by simp [hst], ?_, ?_⟩
  · rw [hstep, ← length_calBody c.buffer]
    exact Memory.get_put ..
  · rw [hstep]
    rfl

theorem exec_calStoreFlashDone_matches (hst : c.step = 5) :
    exec (.calStoreFlashDone true) s = .next (s.setCalStore (some { c with step := 6 })) := by
  rw [exec_calStoreFlashDone_steps hc ha (by omega)]
  simp [State.storeStep, hst]

theorem exec_calStoreFlashDone_writeHeader (hst : c.step = 6) :
    ∃ t, exec (.calStoreFlashDone true) s = .next t ∧ t.calStore = some { c with step := 7 } ∧
      t.flash = s.flash.put (copyBase c.toB) (calHeader c.gen c.time (crc32 (calBody c.buffer)) ++
        leBytes 4 (crc32 (calHeader c.gen c.time (crc32 (calBody c.buffer))))) := by
  have hstep : s.storeStep c = s.writeHeader c := by simp [State.storeStep, hst]
  refine ⟨_, exec_calStoreFlashDone_steps hc ha (by omega), by simp [hst], ?_⟩
  rw [hstep]
  rfl

theorem exec_calStoreFlashDone_ends (hst : c.step = 7) (hgen : c.gen < 2 ^ 32) :
    ∃ t, exec (.calStoreFlashDone true) s = .next t ∧ t.calStore = none ∧ t.flash = s.flash ∧
      t.rd CAL_STATUS.STORE_RESULT = 1 ∧ t.rd CAL_STATUS.STORE_BUSY = 0 ∧ t.rd CAL_GEN.GENERATION = c.gen ∧
      t.rd CAL_STATUS.DIRTY = ofBool c.changed := by
  refine ⟨((s.wr CAL_GEN.GENERATION c.gen).put CAL_STATUS.DIRTY c.changed).storeEnd 1, ?_, State.storeEnd_calStore .., ?_,
    State.storeEnd_result _ (by decide), State.storeEnd_busy .., ?_, ?_⟩
  · simp [exec_calStoreFlashDone_runs, execCalStoreFlashDone, hc, ha, hst]
  · rw [State.storeEnd_flash]
    rfl
  · rw [State.rd_storeEnd_cells]
    simpa +decide [State.put] using Nat.mod_eq_of_lt hgen
  · rw [State.rd_storeEnd_cells]
    cases c.changed <;> simp +decide [State.put]

theorem exec_calStoreFlashDone_mismatch (a : Nat) (hst : c.step = 5 ∨ c.step = 7) :
    ∃ t, exec (.calStoreFlashDone false) s = .next t ∧ t.calStore = none ∧
      t.flash.get a = (if copyBase c.toB ≤ a ∧ a < copyBase c.toB + 4096 then 0xFF else s.flash.get a) ∧
      t.rd CAL_STATUS.STORE_RESULT = 2 ∧ t.rd CAL_STATUS.STORE_BUSY = 0 := by
  refine ⟨(s.eraseHeader c.toB).storeEnd 2, ?_, State.storeEnd_calStore .., ?_, State.storeEnd_result _ (by decide),
    State.storeEnd_busy ..⟩
  · simp [exec_calStoreFlashDone_runs, execCalStoreFlashDone, hc, ha, hst]
  · rw [State.storeEnd_flash]
    exact Memory.get_clear ..

/-- A store that takes too long leaves what is outside its target copy. -/
theorem exec_calStoreTimeout_ends (a : Nat) (hout : a < copyBase c.toB ∨ copyBase c.toB + 0x40000 ≤ a) :
    ∃ t, exec (.calStoreTimeout) s = .next t ∧ t.calStore = none ∧ t.rd CAL_STATUS.STORE_RESULT = 3 ∧
      t.rd CAL_STATUS.STORE_BUSY = 0 ∧ t.flash.get a = s.flash.get a := by
  refine ⟨((s.advanceTo (c.since + 5000000 * usUnit)).spoilStore c).storeEnd 3, ?_, State.storeEnd_calStore ..,
    State.storeEnd_result _ (by decide), State.storeEnd_busy .., ?_⟩
  · simp [exec_calStoreTimeout_runs, execCalStoreTimeout, hc, ha]
  · rw [State.storeEnd_flash, ← State.advanceTo_flash s (c.since + 5000000 * usUnit)]
    unfold State.spoilStore
    split
    · exact State.get_flashSpoil _ (by unfold copyBody bodyLength; omega)
    · split
      · rfl
      · exact (Memory.get_clear_out _ (by omega)).trans (State.get_flashSpoil _ (by omega))

end

/-! ## RELOAD (R214, R220) -/

/-- What the working table is loaded from: the current copy, where the flash answers. -/
theorem State.loadCal_shows (s : State) (b : Bool) :
    (s.loadCal b).rd CAL_STATUS.DIRTY = 0 ∧
      (s.loadCal b).calTab = (match if b then s.currentCopy else none with
        | some c => bodyTab 2048 0 (s.flash.read (copyBody c.1) bodyLength) {}
        | none => {}) ∧
      (s.loadCal b).rd CAL_STATUS.BOOT_COPY = (match if b then s.currentCopy else none with
        | some c => 1 + ofBool c.1
        | none => 0) ∧
      (s.loadCal b).rd CAL_GEN.GENERATION = (match if b then s.currentCopy else none with
        | some c => c.2 % 2 ^ 32
        | none => 0) := by
  have hrd : ∀ (u : State) (c : Cell), fp_showPoints.misses (fieldName c.key) = true → ∀ xs, (u.each xs State.showPoints).rd c = u.rd c :=
    fun u c hm xs => State.rd_each u _ xs _ (fun t x _ => State.rd_showPoints t c x hm)
  have htab : ∀ (u : State) (xs), (u.each xs State.showPoints).calTab = u.calTab := fun u xs =>
    State.each_calTab u xs _ (fun t x => rfl)
  unfold State.loadCal
  dsimp only
  rw [hrd _ CAL_STATUS.DIRTY (by rw [fieldName_CAL_STATUS_DIRTY]; decide), htab,
    hrd _ CAL_STATUS.BOOT_COPY (by rw [fieldName_CAL_STATUS_BOOT_COPY]; decide),
    hrd _ CAL_GEN.GENERATION (by rw [fieldName_CAL_GEN_GENERATION]; decide)]
  generalize (if b = true then s.currentCopy else none) = o
  cases o with
  | none => simp +decide
  | some c =>
    have hcopy : 1 + ofBool c.1 < 4 := by cases c.1 <;> decide
    simp +decide [hcopy]

theorem exec_calReload_loads {s : State} (hh : s.hosted = true) (hp : s.powerState ≠ 1) (hb : s.bit CAL_STATUS.STORE_BUSY = false) :
    exec (.calReload) s = .next ((s.takeFree.2.loadCal (s.takeFree.1 % 2 == 1)).each (List.range 512) State.tableChanged) := by
  simp [exec_calReload_runs, execCalReload, State.hostCmd, State.hostWrite, hh, hp, State.calReload, hb]

/-- Settles O32: the store of the calibration table, step by step, and its reload. -/
theorem calibrationStoreTakesItsSteps : Obligations.CalibrationStoreTakesItsSteps := by
  unfold Obligations.CalibrationStoreTakesItsSteps
  refine ⟨?_, ?_, ?_, ?_, ?_, ?_, ?_, ?_, ?_, ?_, ?_, ?_⟩
  · exact fun s => exec_calStore_busy
  · exact fun s => exec_calStore_begins
  · exact fun s => exec_calAutoStore_begins
  · exact fun s c a hc hst ha => exec_calStoreFlashDone_header hc ha a hst
  · exact fun s c a hc hst ha => exec_calStoreFlashDone_body hc ha a hst
  · exact fun s c a hc hst ha => exec_calStoreFlashDone_program hc ha a hst
  · exact fun s c hc hst ha => exec_calStoreFlashDone_matches hc ha hst
  · exact fun s c hc hst ha => exec_calStoreFlashDone_writeHeader hc ha hst
  · exact fun s c hc hst hgen ha => exec_calStoreFlashDone_ends hc ha hst hgen
  · exact fun s c a hc hst ha => exec_calStoreFlashDone_mismatch hc ha a hst
  · exact fun s c a hc hout ha => exec_calStoreTimeout_ends hc ha a hout
  · intro s hh hp hb
    obtain ⟨hdirty, htab, hcopy, hgen⟩ := State.loadCal_shows s.takeFree.2 (s.takeFree.1 % 2 == 1)
    refine ⟨_, exec_calReload_loads hh hp hb, ?_, ?_, ?_, ?_⟩
    · rw [State.rd_each (c := CAL_STATUS.DIRTY) _ _ _ (fun t x _ =>
        State.rd_tableChanged _ _ _ (by rw [fieldName_CAL_STATUS_DIRTY]; decide)), hdirty]
    · rw [State.each_calTab _ _ _ State.tableChanged_calTab, htab]
      rfl
    · rw [State.rd_each (c := CAL_STATUS.BOOT_COPY) _ _ _ (fun t x _ =>
        State.rd_tableChanged _ _ _ (by rw [fieldName_CAL_STATUS_BOOT_COPY]; decide)), hcopy]
      rfl
    · rw [State.rd_each (c := CAL_GEN.GENERATION) _ _ _ (fun t x _ =>
        State.rd_tableChanged _ _ _ (by rw [fieldName_CAL_GEN_GENERATION]; decide)), hgen]
      rfl

end Sys2Proof.Machine
end

section
/-! PROOFS. Jobs of the lane engines (08, R234 to R240). -/

set_option Elab.async false

namespace Sys2Proof.Machine

/-- A snapshot job of Slice 1 that is RESTORING, with a completion of Slice 1 ready for its event Ring, which goes first (R374). -/
def aJobBehindAnEvent : State :=
  (((Tests.aRing Tests.aTrace 1 []).upE 0 (fun e => { e with slot := some Tests.aJob })).wr (ENG_STATUS.JOB_STATE 0) 3).setEvq
    [{ slice := 1, ring := some 1, type := 1, cls := 0, code := 0, source := 0, time := 0 }]

theorem aJobBehindAnEvent_restoring : (aJobBehindAnEvent.engine 0).slot = some Tests.aJob ∧
    aJobBehindAnEvent.rd (ENG_STATUS.JOB_STATE 0) = 3 ∧ (aJobBehindAnEvent.half Tests.aJob.half).marginWait = none ∧
    aJobBehindAnEvent.canWrite Tests.aJob = true := by decide +kernel

/-- Its slot holds the job and its results on. -/
theorem aJobBehindAnEvent_kept : ∃ t, exec (.restoreDone 0) aJobBehindAnEvent = .next t ∧ (t.engine 0).slot ≠ none :=
  ⟨_, rfl, by decide +kernel⟩

/-- Refutes O33: a restored job does not leave its engine while completions and events that go before its writes are ready (R374), though
the function could take its writes (`canWrite`). -/
theorem not_enginesServeJobs : ¬ Obligations.EnginesServeJobs := by
  rintro ⟨-, -, -, -, hrestore, -⟩
  obtain ⟨hslot, hst, hwait, hcan⟩ := aJobBehindAnEvent_restoring
  obtain ⟨t, hexec, -, hfree, -⟩ := hrestore aJobBehindAnEvent 0 Tests.aJob hslot hst hwait hcan
  obtain ⟨u, hexec', hheld⟩ := aJobBehindAnEvent_kept
  cases hexec.symm.trans hexec'
  exact hheld hfree

end Sys2Proof.Machine
end

section
/-! PROOFS. Faults and restarts of lane engines, permissions and epochs (08, R232 to R247; 11, R339). -/

set_option Elab.async false

namespace Sys2Proof.Machine

@[simp] theorem State.showJob_engines (s : State) (k : Nat) (st : Nat) : (s.showJob k st).engines = s.engines :=
  (Goes.showJob (Foot.le_refl _) (Goes.refl _ s)).part .engines (by decide)
@[simp] theorem State.showJob_engine (s : State) (k : Nat) (st : Nat) (k' : Nat) : (s.showJob k st).engine k' = s.engine k' := by
  rw [State.engine, State.showJob_engines, ← State.engine]
@[simp] theorem State.endJob_engines (s : State) (j : Job) (code : Nat) : (s.endJob j code).engines = s.engines :=
  (Goes.endJob (Foot.le_refl _) (Goes.refl _ s)).part .engines (by decide)
@[simp] theorem State.endJob_engine (s : State) (j : Job) (code : Nat) (k' : Nat) : (s.endJob j code).engine k' = s.engine k' := by
  rw [State.engine, State.endJob_engines, ← State.engine]
@[simp] theorem State.abortRun_engines (s : State) (h : Nat) : (s.abortRun h).engines = s.engines :=
  (Goes.abortRun (Foot.le_refl _) (Goes.refl _ s)).part .engines (by decide)
@[simp] theorem State.abortRun_engine (s : State) (h : Nat) (k' : Nat) : (s.abortRun h).engine k' = s.engine k' := by
  rw [State.engine, State.abortRun_engines, ← State.engine]
@[simp] theorem State.raiseDev_engines (s : State) (code : Nat) (b16 : Nat) (b17 : Nat) (b18 : Nat) : (s.raiseDev code b16 b17 b18).engines = s.engines :=
  (Goes.raiseDev (Foot.le_refl _) (Goes.refl _ s)).part .engines (by decide)
@[simp] theorem State.raiseDev_engine (s : State) (code : Nat) (b16 : Nat) (b17 : Nat) (b18 : Nat) (k' : Nat) : (s.raiseDev code b16 b17 b18).engine k' = s.engine k' := by
  rw [State.engine, State.raiseDev_engines, ← State.engine]
@[simp] theorem State.newEpoch_tim (s : State) (k : Nat) : (s.newEpoch k).tim = s.tim :=
  (Goes.newEpoch (Foot.le_refl _) (Goes.refl _ s)).part .tim (by decide)
@[simp] theorem State.engineEpoch_tim (s : State) (k : Nat) : (s.engineEpoch k).tim = s.tim :=
  (Goes.engineEpoch (Foot.le_refl _) (Goes.refl _ s)).part .tim (by decide)
@[simp] theorem State.engineEpoch_slices (s : State) (k : Nat) : (s.engineEpoch k).slices = s.slices :=
  (Goes.engineEpoch (Foot.le_refl _) (Goes.refl _ s)).part .slices (by decide)
@[simp] theorem State.engineEpoch_slicex (s : State) (k : Nat) (k' : Nat) : (s.engineEpoch k).slicex k' = s.slicex k' := by
  rw [State.slicex, State.engineEpoch_slices, ← State.slicex]
@[simp] theorem State.newEpoch_now (s : State) (k : Nat) : (s.newEpoch k).now = s.now :=
  (Goes.newEpoch (Foot.le_refl _) (Goes.refl _ s)).part .now (by decide)
@[simp] theorem State.engineEpoch_now (s : State) (k : Nat) : (s.engineEpoch k).now = s.now :=
  (Goes.engineEpoch (Foot.le_refl _) (Goes.refl _ s)).part .now (by decide)
@[simp] theorem State.newEpoch_engines (s : State) (k : Nat) : (s.newEpoch k).engines = s.engines :=
  (Goes.newEpoch (Foot.le_refl _) (Goes.refl _ s)).part .engines (by decide)
@[simp] theorem State.newEpoch_engine (s : State) (k : Nat) (k' : Nat) : (s.newEpoch k).engine k' = s.engine k' := by
  rw [State.engine, State.newEpoch_engines, ← State.engine]
@[simp] theorem State.shareChanged_slices (s : State) (k : Nat) : (s.shareChanged k).slices = s.slices :=
  (Goes.shareChanged (Foot.le_refl _) (Goes.refl _ s)).part .slices (by decide)
@[simp] theorem State.shareChanged_slicex (s : State) (k : Nat) (k' : Nat) : (s.shareChanged k).slicex k' = s.slicex k' := by
  rw [State.slicex, State.shareChanged_slices, ← State.slicex]
@[simp] theorem State.fabricTo_engines (s : State) (f : Nat) : (s.fabricTo f).engines = s.engines :=
  (Goes.fabricTo (Foot.le_refl _) (Goes.refl _ s)).part .engines (by decide)
@[simp] theorem State.fabricTo_engine (s : State) (f : Nat) (k' : Nat) : (s.fabricTo f).engine k' = s.engine k' := by
  rw [State.engine, State.fabricTo_engines, ← State.engine]
/-! ## The own work of an engine -/

/-- A change of one engine that leaves a value keeps it of every engine. -/
theorem State.upE_engine_proj {α : Type} (g : Engine → α) (s : State) (k : Nat) {f : Engine → Engine} (hf : ∀ e, g (f e) = g e) (a : Nat) :
    g ((s.upE k f).engine a) = g (s.engine a) := by
  by_cases ha : a = k
  · rw [ha, State.upE_engine_same, hf]
  · rw [State.upE_engine_ne _ _ ha]

theorem State.each_engine_proj {α : Type} (g : Engine → α) (a : Nat) (s : State) (xs : List Nat) (f : State → Nat → State)
    (hf : ∀ t x, g ((f t x).engine a) = g (t.engine a)) : g ((s.each xs f).engine a) = g (s.engine a) :=
  State.each_induction (P := fun t => g (t.engine a) = g (s.engine a)) xs f rfl (fun t x _ h => (hf t x).trans h)

theorem State.stopJob_work (s : State) (k cause a : Nat) : ((s.stopJob k cause).engine a).work = (s.engine a).work := by
  unfold State.stopJob
  split
  · split
    · rw [State.showJob_engine, State.upE_engine_proj Engine.work s k (by intro; rfl)]
    · rfl
  · rfl

theorem State.showSide_work (s : State) (q a : Nat) : ((s.showSide q).engine a).work = (s.engine a).work := by
  unfold State.showSide
  dsimp only
  split
  · rw [State.put_engine, State.wr_engine]
    split
    · rw [State.each_engine_proj Engine.work a _ _ _ (fun t h => t.stopJob_work _ _ a), State.each_engine_proj Engine.work a _ _ _
        (fun t h => by simp), State.upS_engine]
      split <;> simp
    · rw [State.each_engine_proj Engine.work a _ _ _ (fun t h => by simp), State.upS_engine]
      split <;> simp
  · rw [State.off_engine, State.wr_engine, State.each_engine_proj Engine.work a _ _ _ (fun t h => by simp)]

theorem State.showEngine_work (s : State) (k a : Nat) : ((s.showEngine k).engine a).work = (s.engine a).work := by
  unfold State.showEngine
  refine State.each_engine_proj Engine.work a _ _ _ (fun t q => ?_)
  split
  · exact t.showSide_work q a
  · rfl

theorem State.writeResults_engine (s : State) (j : Job) (a : Nat) : (s.writeResults j).1.engine a = s.engine a := by
  rw [State.engine, (Goes.writeResults (Foot.le_refl _) (Goes.refl _ s)).part .engines (by decide), ← State.engine]

theorem State.finishJob_work (s : State) (k : Nat) (j : Job) (a : Nat) : ((s.finishJob k j).engine a).work = (s.engine a).work := by
  have hslot : ∀ (t : State) (o : Option Job), ((t.upE k (fun e => { e with slot := o })).engine a).work = (t.engine a).work :=
    fun t o => State.upE_engine_proj Engine.work t k (by intro; rfl) a
  unfold State.finishJob
  dsimp only
  split
  · rw [State.showJob_engine, hslot]
  · split
    · rw [State.showJob_engine, hslot]
      split <;> simp
    · rw [State.endJob_engine, State.showJob_engine, hslot, State.writeResults_engine]

/-- An engine that halts does no work. -/
theorem State.haltEngine_work (s : State) (k code : Nat) : ((s.haltEngine k code).engine k).work = 0 := by
  have hidle : ∀ t : State, ((t.upE k (fun e => { e with work := 0, kept := (engineRx k).filter s.tracking })).engine k).work = 0 :=
    fun t => by simp
  unfold State.haltEngine
  dsimp only
  split
  · split
    · exact hidle _
    · rw [State.finishJob_work]
      exact hidle _
  · exact hidle _

/-! ## ENGINE_FAULT and ENGINE_RESTART_DONE (R241 to R243) -/

/-- The times of the faults of an engine within the last second, with one now. -/
def State.faultsNow (s : State) (k : Nat) : List Nat :=
  s.elapsed :: (s.engine k).faultsAt.filter (fun t => decide (s.elapsed < t + 1000000 * usUnit))

/-- An engine that faults while it runs: disabled where the limit is reached, and otherwise reloaded. -/
theorem exec_engineFault_halts {s : State} {k : EngineId} (hst : s.rd (ENG_STATUS.STATE k) = engRunning) :
    ∃ t, exec (.engineFault k) s = .next t ∧
      t.rd (ENG_STATUS.STATE k) = (if s.rd ENG_CTRL.FAULT_LIMIT ≤ (s.faultsNow k).length then engDisabled else engRestarting) ∧
      t.rd (ENG_STATUS.FAULTS k) = satInc 4 (s.rd (ENG_STATUS.FAULTS k)) ∧ (t.engine k).work = 0 := by
  refine ⟨_, next_neg (not_not.mpr hst), ?_, ?_, ?_⟩
  · rw [State.rd_showEngine _ _ _ (by simp +decide), State.rd_raiseDev _ _ _ _ _ _ (by simp +decide),
      State.rd_each _ _ _ _ (fun t h _ => State.rd_abortRun _ _ _ (by simp +decide)), State.rd_wr_same]
    unfold State.faultsNow
    split <;> simp_all [engDisabled, engRestarting]
  · rw [State.rd_showEngine _ _ _ (by simp +decide), State.rd_raiseDev _ _ _ _ _ _ (by simp +decide),
      State.rd_each _ _ _ _ (fun t h _ => State.rd_abortRun _ _ _ (by simp +decide)), State.rd_wr_name _ _ _ _ (by simp),
      State.upE_rd, State.satUp, State.rd_wr_same, State.rd_haltEngine _ _ _ _ (by simp +decide)]
    exact Nat.mod_eq_of_lt (lt_of_le_of_lt (min_le_right _ _) (show 2 ^ 4 - 1 < 2 ^ 4 by decide))
  · rw [State.showEngine_work, State.raiseDev_engine, State.each_engine_proj Engine.work k _ _ _ (fun t h => by simp), State.wr_engine,
      State.upE_engine_proj Engine.work _ k (by intro; rfl), State.satUp, State.wr_engine, State.haltEngine_work]

theorem exec_engineRestartDone_runs {s : State} {k : EngineId} (hst : s.rd (ENG_STATUS.STATE k) = engRestarting) (hop : s.imgOp = none) :
    ∃ t, exec (.engineRestartDone k) s = .next t ∧ t.rd (ENG_STATUS.STATE k) = engRunning := by
  refine ⟨_, (next_neg (not_not.mpr hst)).trans (by rw [hop]), ?_⟩
  rw [State.rd_showEngine _ _ _ (by simp +decide), State.upE_rd,
    State.rd_each _ _ _ _ (fun t h _ => State.rd_resumeRx _ _ _ _ (by simp +decide)), State.runEngine, State.upE_rd, State.rd_wr_same]
  rfl

/-! ## ENG_PERMIT_WRITE and SLICE_JOBS_OFF_WRITE (R232, R245) -/

theorem laid_permitFields (k : Nat) : Laid (ENG_PERMIT.off k) (ENG_PERMIT.fields k) := ⟨rfl, rfl⟩

/-- A permission takes its bit of the word, whatever jobs end or stop of it. -/
theorem State.rd_setPermits_field (s : State) (k value : Nat) {c : Cell} (hf : ⟨c, .rw, .any⟩ ∈ ENG_PERMIT.fields k)
    (hq : fp_endQueued.misses (fieldName c.key) = true) (hr : fp_stopRunning.misses (fieldName c.key) = true) :
    (s.setPermits k value).rd c = bitsOf value c.lo c.width := by
  unfold State.setPermits
  dsimp only
  rw [State.rd_stopRunning _ _ _ _ hr, State.rd_endQueued _ _ _ _ hq, State.rd_storeWord value s (laid_permitFields k) hf,
    State.rd_storeField_rw s value (Or.inl rfl)]
  exact Nat.mod_mod _ _

theorem exec_engPermitWrite_stores {s : State} {k : SliceId} {value : Nat} (hh : s.hosted = true) :
    ∃ t, exec (.engPermitWrite k value) s = .next t ∧
      t.rd (ENG_PERMIT.EYE_SCAN k) = bitsOf value 0 1 ∧ t.rd (ENG_PERMIT.MARGIN_SAMPLER k) = bitsOf value 1 1 ∧
      t.rd (ENG_PERMIT.MARGIN_DATA k) = bitsOf value 2 1 ∧ t.rd (ENG_PERMIT.DATA_ON_DATA k) = bitsOf value 3 1 := by
  refine ⟨s.setPermits k value, by simp [exec_engPermitWrite_runs, execEngPermitWrite, State.hostWrite, hh], ?_, ?_, ?_, ?_⟩ <;>
    exact State.rd_setPermits_field s k value (by simp [ENG_PERMIT.fields]) (by simp +decide) (by simp +decide)

theorem exec_sliceJobsOffWrite_stores {s : State} {v : Bool} (hh : s.hosted = true) :
    ∃ t, exec (.sliceJobsOffWrite v) s = .next t ∧ t.rd ENG_CTRL.SLICE_JOBS_OFF = ofBool v := by
  refine ⟨_, next_pos hh, ?_⟩
  cases v <;> simp +decide

/-! ## EPOCH_START (R233, R246, R339) -/

/-- An epoch that begins sets a Slice's balance to its tokens. -/
theorem State.newEpoch_balance (s : State) (k : Nat) : ((s.newEpoch k).slicex k).balance = s.rd (SLC_SHARE.TOKENS k) := by
  unfold State.newEpoch
  dsimp only
  split <;> simp

theorem State.newEpoch_slicex_ne (s : State) {k a : Nat} (ha : a ≠ k) : (s.newEpoch k).slicex a = s.slicex a := by
  unfold State.newEpoch
  dsimp only
  split <;> simp [State.upSl_slicex_ne _ _ ha]

theorem State.rd_engineEpoch_state (s : State) (k a : Nat) : (s.engineEpoch k).rd (ENG_STATUS.STATE a) = s.rd (ENG_STATUS.STATE a) :=
  State.rd_engineEpoch _ _ _ (by simp +decide)

/-- The balances after an epoch began for some Slices. -/
theorem State.each_newEpoch_balance (s : State) {xs : List Nat} {k : Nat} (hk : k ∈ xs) :
    ((s.each xs State.newEpoch).slicex k).balance = s.rd (SLC_SHARE.TOKENS k) := by
  have htok : ∀ (t : State) (y : Nat), (t.newEpoch y).rd (SLC_SHARE.TOKENS k) = t.rd (SLC_SHARE.TOKENS k) := fun t y =>
    State.rd_newEpoch _ _ _ (by simp +decide)
  refine State.each_makes (I := fun t => t.rd (SLC_SHARE.TOKENS k) = s.rd (SLC_SHARE.TOKENS k))
    (P := fun t => (t.slicex k).balance = s.rd (SLC_SHARE.TOKENS k)) hk rfl (fun t y _ ht => (htok t y).trans ht)
    (fun t ht => (t.newEpoch_balance k).trans ht) (fun t y _ ht hb => ?_)
  by_cases hy : k = y
  · rw [← hy, State.newEpoch_balance, ht]
  · rw [State.newEpoch_slicex_ne t hy, hb]

/-- An engine that neither runs nor has run in the epoch shows no load. -/
theorem State.engineEpoch_load {s : State} {k : Nat} (hst : s.rd (ENG_STATUS.STATE k) ≠ engRunning) (hran : (s.engine k).ran = false) :
    (s.engineEpoch k).rd (ENG_STATUS.LOAD k) = 0 ∧ ((s.engineEpoch k).engine k).ran = false := by
  have hidle : s.engineEpoch k = s.wr (ENG_STATUS.LOAD k) 0 := by
    unfold State.engineEpoch
    dsimp only
    rw [if_neg (by simp [hst, hran])]
  rw [hidle]
  exact ⟨by simp, hran⟩

theorem State.engineEpoch_ne (s : State) {k y : Nat} (hk : k < 128) (hy : y < 128) (hne : k ≠ y) :
    (s.engineEpoch y).rd (ENG_STATUS.LOAD k) = s.rd (ENG_STATUS.LOAD k) ∧ (s.engineEpoch y).engine k = s.engine k := by
  have hkey : (ENG_STATUS.LOAD k).key ≠ (ENG_STATUS.LOAD y).key := by
    simp only [ENG_STATUS.LOAD, ENG_STATUS.off, Cell.key]
    omega
  unfold State.engineEpoch
  dsimp only
  split
  · rw [State.upE_rd, State.rd_wr_ne _ _ _ _ hkey, State.upE_engine_ne _ _ hne]
    exact ⟨rfl, rfl⟩
  · exact ⟨State.rd_wr_ne _ _ _ _ hkey, rfl⟩

theorem State.each_engineEpoch_load {s : State} {k : Nat} (hk : k < 128) (hst : s.rd (ENG_STATUS.STATE k) ≠ engRunning)
    (hran : (s.engine k).ran = false) : (s.each (List.range 128) State.engineEpoch).rd (ENG_STATUS.LOAD k) = 0 := by
  refine State.each_makes (I := fun t => t.rd (ENG_STATUS.STATE k) ≠ engRunning ∧ (t.engine k).ran = false)
    (P := fun t => t.rd (ENG_STATUS.LOAD k) = 0) (List.mem_range.mpr hk) ⟨hst, hran⟩ ?_
    (fun t ht => (State.engineEpoch_load ht.1 ht.2).1) ?_
  · intro t y hy ht
    refine ⟨by rw [State.rd_engineEpoch_state]; exact ht.1, ?_⟩
    by_cases hne : k = y
    · rw [← hne, (State.engineEpoch_load ht.1 ht.2).2]
    · rw [(t.engineEpoch_ne hk (List.mem_range.mp hy) hne).2, ht.2]
  · intro t y hy ht h0
    by_cases hne : k = y
    · rw [← hne, (State.engineEpoch_load ht.1 ht.2).1]
    · rw [(t.engineEpoch_ne hk (List.mem_range.mp hy) hne).1, h0]

/-- The state in which the epochs of the Slices begin: Fabric Time has come to the start of the next epoch. -/
def State.epochAt (s : State) : State :=
  (s.fabricTo (max (s.tim.epoch + 1) (s.nowNs / 10000) * 10000 * nsUnit)).upTim (fun x => { x with
    epoch := max (s.tim.epoch + 1) (s.nowNs / 10000) })

theorem exec_epochStart_awake {s : State} (ha : s.awake = true) : exec .epochStart s = .next ((s.epochAt.each
    ((List.range 256).filter (fun k => s.epochAt.sliceState k != slFREE)) State.newEpoch).each (List.range 128) State.engineEpoch) :=
  next_pos ha

theorem State.each_part {α : Type} (g : State → α) (s : State) (xs : List Nat) (f : State → Nat → State) (hf : ∀ t x, g (f t x) = g t) :
    g (s.each xs f) = g s :=
  State.each_induction (P := fun t => g t = g s) xs f rfl (fun t x _ h => (hf t x).trans h)

theorem exec_epochStart_slices {s : State} {k : Nat} (hk : k < 256) (ha : s.awake = true) (hs : s.sliceState k ≠ slFREE) :
    ∃ t, exec (.epochStart) s = .next t ∧ (t.slicex k).balance = s.rd (SLC_SHARE.TOKENS k) ∧
      t.tim.epoch = max (s.tim.epoch + 1) (s.nowNs / 10000) ∧
      t.now = (s.fabricTo (max (s.tim.epoch + 1) (s.nowNs / 10000) * 10000 * nsUnit)).now := by
  refine ⟨_, exec_epochStart_awake ha, ?_, ?_, ?_⟩
  · have hst : s.epochAt.sliceState k = s.sliceState k := by
      unfold State.sliceState State.epochAt
      rw [State.upTim_rd, State.rd_fabricTo _ _ _ (by simp +decide)]
    rw [State.each_part (fun t => t.slicex k) _ _ _ (fun t x => State.engineEpoch_slicex t x k), State.each_newEpoch_balance]
    · unfold State.epochAt
      rw [State.upTim_rd, State.rd_fabricTo _ _ _ (by simp +decide)]
    · simpa [hk, hst] using hs
  · rw [State.each_part State.tim _ _ _ State.engineEpoch_tim, State.each_part State.tim _ _ _ State.newEpoch_tim,
      State.epochAt, State.upTim_tim]
  · rw [State.each_part State.now _ _ _ State.engineEpoch_now, State.each_part State.now _ _ _ State.newEpoch_now,
      State.epochAt, State.upTim_now]

theorem exec_epochStart_engines {s : State} {k : EngineId} (ha : s.awake = true) (hst : s.rd (ENG_STATUS.STATE k) ≠ engRunning)
    (hran : (s.engine k).ran = false) :
    ∃ t, exec (.epochStart) s = .next t ∧ t.rd (ENG_STATUS.LOAD k) = 0 ∧ t.rd (ENG_STATUS.STATE k) = s.rd (ENG_STATUS.STATE k) := by
  refine ⟨_, exec_epochStart_awake ha, ?_⟩
  generalize hu : s.epochAt.each ((List.range 256).filter (fun k => s.epochAt.sliceState k != slFREE)) State.newEpoch = u
  have hrd : u.rd (ENG_STATUS.STATE k) = s.rd (ENG_STATUS.STATE k) := by
    rw [← hu, State.rd_each _ _ _ _ (fun t x _ => State.rd_newEpoch _ _ _ (by simp +decide)), State.epochAt, State.upTim_rd,
      State.rd_fabricTo _ _ _ (by simp +decide)]
  have heng : u.engine k = s.engine k := by
    rw [← hu, State.each_part (fun t => t.engine k) _ _ _ (fun t x => State.newEpoch_engine t x k), State.epochAt, State.upTim_engine,
      State.fabricTo_engine]
  exact ⟨State.each_engineEpoch_load k.isLt (by rw [hrd]; exact hst) (by rw [heng, hran]),
    (State.rd_each _ _ _ _ (fun t x _ => t.rd_engineEpoch_state x k)).trans hrd⟩

/-- Settles O34: faults and restarts of engines, the permissions of Slices and the start of an epoch. -/
theorem engineFaultsControlAndEpochs : Obligations.EngineFaultsControlAndEpochs := by
  unfold Obligations.EngineFaultsControlAndEpochs
  refine ⟨?_, ?_, ?_, ?_, ?_, ?_, ?_⟩
  · intro s k hst hlim
    obtain ⟨t, hexec, hstate, hfaults, hwork⟩ := exec_engineFault_halts hst
    exact ⟨t, hexec, hstate.trans (if_neg (Nat.not_le.mpr hlim)), hfaults, hwork⟩
  · intro s k hst hlim
    obtain ⟨t, hexec, hstate, hfaults, -⟩ := exec_engineFault_halts hst
    exact ⟨t, hexec, hstate.trans (if_pos hlim), hfaults⟩
  · exact fun s k => exec_engineRestartDone_runs
  · exact fun s k value => exec_engPermitWrite_stores
  · exact fun s v => exec_sliceJobsOffWrite_stores
  · exact fun s k => exec_epochStart_slices
  · exact fun s k => exec_epochStart_engines

end Sys2Proof.Machine
end

section
/-! PROOFS. Boot, confirmation and image writes (09, R258 to R264). -/

set_option Elab.async false

namespace Sys2Proof.Machine

@[simp] theorem State.showFuses_flash (s : State) : (s.showFuses).flash = s.flash :=
  (Goes.showFuses (Foot.le_refl _) (Goes.refl _ s)).part .flash (by decide)
@[simp] theorem State.showAddress_flash (s : State) : (s.showAddress).flash = s.flash :=
  (Goes.showAddress (Foot.le_refl _) (Goes.refl _ s)).part .flash (by decide)
@[simp] theorem State.wokeFromOff_flash (s : State) : (s.wokeFromOff).flash = s.flash :=
  (Goes.wokeFromOff (Foot.le_refl _) (Goes.refl _ s)).part .flash (by decide)
@[simp] theorem State.showFuses_fuses (s : State) : (s.showFuses).fuses = s.fuses :=
  (Goes.showFuses (Foot.le_refl _) (Goes.refl _ s)).part .fuses (by decide)
@[simp] theorem State.showAddress_fuses (s : State) : (s.showAddress).fuses = s.fuses :=
  (Goes.showAddress (Foot.le_refl _) (Goes.refl _ s)).part .fuses (by decide)
@[simp] theorem State.wokeFromOff_fuses (s : State) : (s.wokeFromOff).fuses = s.fuses :=
  (Goes.wokeFromOff (Foot.le_refl _) (Goes.refl _ s)).part .fuses (by decide)
@[simp] theorem State.showFuses_power (s : State) : (s.showFuses).power = s.power :=
  (Goes.showFuses (Foot.le_refl _) (Goes.refl _ s)).part .power (by decide)
@[simp] theorem State.showAddress_power (s : State) : (s.showAddress).power = s.power :=
  (Goes.showAddress (Foot.le_refl _) (Goes.refl _ s)).part .power (by decide)
@[simp] theorem State.wokeFromOff_power (s : State) : (s.wokeFromOff).power = s.power :=
  (Goes.wokeFromOff (Foot.le_refl _) (Goes.refl _ s)).part .power (by decide)
@[simp] theorem State.showFuses_chip (s : State) : (s.showFuses).chip = s.chip :=
  (Goes.showFuses (Foot.le_refl _) (Goes.refl _ s)).part .chip (by decide)
@[simp] theorem State.showAddress_chip (s : State) : (s.showAddress).chip = s.chip :=
  (Goes.showAddress (Foot.le_refl _) (Goes.refl _ s)).part .chip (by decide)
@[simp] theorem State.wokeFromOff_chip (s : State) : (s.wokeFromOff).chip = s.chip :=
  (Goes.wokeFromOff (Foot.le_refl _) (Goes.refl _ s)).part .chip (by decide)
@[simp] theorem State.createS0_flash (s : State) : (s.createS0).flash = s.flash :=
  (Goes.createS0 (Foot.le_refl _) (Goes.refl _ s)).part .flash (by decide)
@[simp] theorem State.createS0_chip (s : State) : (s.createS0).chip = s.chip :=
  (Goes.createS0 (Foot.le_refl _) (Goes.refl _ s)).part .chip (by decide)
@[simp] theorem State.createS0_power (s : State) : (s.createS0).power = s.power :=
  (Goes.createS0 (Foot.le_refl _) (Goes.refl _ s)).part .power (by decide)
@[simp] theorem State.bootShow_flash (s : State) : (s.bootShow).flash = s.flash :=
  (Goes.bootShow (Foot.le_refl _) (Goes.refl _ s)).part .flash (by decide)
@[simp] theorem State.bootShow_chip (s : State) : (s.bootShow).chip = s.chip :=
  (Goes.bootShow (Foot.le_refl _) (Goes.refl _ s)).part .chip (by decide)
@[simp] theorem State.bootShow_power (s : State) : (s.bootShow).power = s.power :=
  (Goes.bootShow (Foot.le_refl _) (Goes.refl _ s)).part .power (by decide)
@[simp] theorem State.loadCal_flash (s : State) (flashAnswers : Bool) : (s.loadCal flashAnswers).flash = s.flash :=
  (Goes.loadCal (Foot.le_refl _) (Goes.refl _ s)).part .flash (by decide)
@[simp] theorem State.loadCal_chip (s : State) (flashAnswers : Bool) : (s.loadCal flashAnswers).chip = s.chip :=
  (Goes.loadCal (Foot.le_refl _) (Goes.refl _ s)).part .chip (by decide)
@[simp] theorem State.loadCal_power (s : State) (flashAnswers : Bool) : (s.loadCal flashAnswers).power = s.power :=
  (Goes.loadCal (Foot.le_refl _) (Goes.refl _ s)).part .power (by decide)
@[simp] theorem State.advanceTo_fuses (s : State) (e : Nat) : (s.advanceTo e).fuses = s.fuses :=
  (Goes.advanceTo (Foot.le_refl _) (Goes.refl _ s)).part .fuses (by decide)
/-! ## Fields that no image sets (R253, R254, R261) -/

/-- Whether an image may set fields of an access kind. -/
def Access.ofImage (a : Access) : Bool := a == .rw || a == .rws || a == .rwt || a == .rwi

/-- Whether no image may set a field. -/
def Cell.fixedByBoot (c : Cell) : Bool := (fieldsAt c.off).all (fun f => f.cell.key != c.key || !f.acc.ofImage)

theorem State.rd_imageWord (s : State) (x v : Nat) {c : Cell} (hlo : c.lo < 32) (hc : c.fixedByBoot = true) :
    (s.imageWord x v).rd c = s.rd c := by
  unfold State.imageWord
  refine List.foldlRecOn (motive := fun t : State => t.rd c = s.rd c) _ _ rfl (fun t ht f hf => ?_)
  have hkey : c.key = f.cell.key → f.acc.ofImage = false := fun he => by
    have hx : c.off = x := by rw [← Cell.key_div hlo, he, (laid_fieldsAt x).key_div hf]
    rw [← hx] at hf
    have hall := List.all_eq_true.mp hc f hf
    simpa [he] using hall
  have hwr : f.acc.ofImage = true → (t.wr f.cell (f.fix.apply (t.rd f.cell) (bitsOf v f.cell.lo f.cell.width))).rd c = s.rd c := fun ha =>
    (State.rd_wr_ne _ _ _ _ (fun he => by rw [hkey he] at ha; cases ha)).trans ht
  split
  case h_1 ha => exact hwr (by rw [ha]; rfl)
  case h_2 ha => exact hwr (by rw [ha]; rfl)
  case h_3 ha => exact hwr (by rw [ha]; rfl)
  case h_4 ha => exact hwr (by rw [ha]; rfl)
  case h_5 => exact ht

theorem State.rd_putPortMap (s : State) (m : List Nat) {c : Cell} (hlo : c.lo < 32) (hc : c.fixedByBoot = true) :
    (s.putPortMap m).rd c = s.rd c := by
  unfold State.putPortMap
  dsimp only
  rw [State.rd_each _ _ _ _ (fun t n _ => State.rd_imageWord t _ _ hlo hc)]
  refine State.rd_each _ _ _ _ (fun t p _ => ?_)
  exact List.foldlRecOn (motive := fun u : State => u.rd c = t.rd c) _ _ rfl
    (fun u hu e _ => (State.rd_imageWord u _ _ hlo hc).trans hu)

theorem State.rd_putList (s : State) (blocks : List Block) (es : List (Nat × Nat)) {c : Cell} (hlo : c.lo < 32)
    (hc : c.fixedByBoot = true) : (s.putList blocks es).rd c = s.rd c := by
  unfold State.putList
  refine List.foldlRecOn (motive := fun u : State => u.rd c = s.rd c) _ _ rfl (fun u hu e _ => ?_)
  split
  · exact (State.rd_imageWord u _ _ hlo hc).trans hu
  · exact hu

theorem State.rd_putPolicies (s : State) (i : Image) {c : Cell} (hlo : c.lo < 32) (hc : c.fixedByBoot = true) :
    (s.putPolicies i).rd c = s.rd c := by
  unfold State.putPolicies
  generalize hu : s.setBct _ = u
  rw [State.rd_putList _ _ _ hlo hc, State.rd_putList _ _ _ hlo hc, State.rd_putList _ _ _ hlo hc, State.rd_putList _ _ _ hlo hc, ← hu,
    State.setBct_rd]

theorem State.rd_bootEnd {all bare : State} {v : Nat} (refusal : Option (Nat × Nat)) {c : Cell} (hall : all.rd c = v) (hbare : bare.rd c = v)
    (hr : fieldName c.key ≠ fieldName IMG_STATUS.STRUCT_REFUSED.key)
    (hreason : fieldName c.key ≠ fieldName IMG_STATUS.STRUCT_REASON.key) : (all.bootEnd bare refusal).rd c = v := by
  cases refusal with
  | none => exact hall
  | some r => rw [State.bootEnd, State.rd_wr_name _ _ _ _ hreason, State.rd_on_name _ _ _ hr, hbare]

/-- The boot transaction leaves a field that no image sets. -/
theorem State.rd_bootTxn (s : State) (i : Image) {c : Cell} (hlo : c.lo < 32) (hc : c.fixedByBoot = true)
    (hclamp : fp_clamped.misses (fieldName c.key) = true) (hr : fieldName c.key ≠ fieldName IMG_STATUS.STRUCT_REFUSED.key)
    (hreason : fieldName c.key ≠ fieldName IMG_STATUS.STRUCT_REASON.key) : (s.bootTxn i).rd c = s.rd c := by
  have hpol : (s.putPolicies i).rd c = s.rd c := State.rd_putPolicies s i hlo hc
  unfold State.bootTxn
  refine State.rd_bootEnd _ ?_ ?_ hr hreason
  · rw [State.rd_clamped _ _ _ hclamp, State.rd_putPortMap _ _ hlo hc, hpol]
  · rw [State.rd_clamped _ _ _ hclamp, hpol]

theorem State.bootTxn_keeps (s : State) (i : Image) :
    (s.bootTxn i).flash = s.flash ∧ (s.bootTxn i).chip = s.chip ∧ (s.bootTxn i).power = s.power := by
  have g : Goes fp_bootTxn s (s.bootTxn i) := Goes.bootTxn (Foot.le_refl _) (Goes.refl _ s)
  generalize s.bootTxn i = t at g ⊢
  exact ⟨g.part .flash (by decide), g.part .chip (by decide), g.part .power (by decide)⟩

/-! ## BOOT (R258 to R262, R433) -/

/-- The device with the boot ROM about to pick an image. -/
def State.booting (s : State) : State :=
  let t := ((((s.on CLK_STATUS.ROOT_LOCK).on CLK_STATUS.REFCLK_OK).on CLK_STATUS.CORE_SRC).on CLK_STATUS.MCLK_SRC).upPw
    (fun x => { x with inReset := false, bootDue := false, bootedAt := s.elapsed })
  (((t.setLastStore t.elapsed).showFuses).showAddress).wokeFromOff

/-- The slot picked, marked as tried. -/
def State.markTried (s : State) (b : Bool) : State := if s.tried b ∨ s.confirmedSlot b then s else s.setTrailer b 0

/-- The image picked, copied to the device and reported. -/
def State.copied (s : State) (b : Bool) (bs : List Byte) : State :=
  (((((s.markTried b).setChip (some bs)).wr IMG_STATUS.BOOT_SLOT (1 + ofBool b)).wr IMG_STATUS.ENG_FW_SLOT
    (1 + ofBool b)).put IMG_STATUS.CONFIRMED (s.confirmedSlot b)).wr IMG_STATUS.ARB_IMAGE (imgArb bs)

/-- The device as it runs with the image picked. -/
def State.bootedWith (s : State) (b : Bool) (bs : List Byte) : State :=
  (((((s.copied b bs).loadCal true).bootTxn (imageOf bs)).bootShow).createS0).on RST_STATUS.BOOT_DONE

theorem exec_boot_next {s : State} {answers : Bool} (hr : s.power.inReset = true) (hd : s.power.bootDue = true)
    (hn : s.power.resetN = false) (ha : s.power.aonReset = false) (hl : s.power.lowRails = []) :
    exec (.boot answers) s = .next (match if answers then s.booting.pickSlot else none with
      | none => (s.booting.on IMG_STATUS.RECOVERY).createS0
      | some (b, bs) => s.booting.bootedWith b bs) := by
  simp only [exec_boot_runs, execBoot, hr, hd, hn, ha, hl, ne_eq, not_true_eq_false, Bool.not_true, Bool.false_eq_true, or_self, if_false]
  rfl

theorem State.booting_flash (s : State) : s.booting.flash = s.flash := by simp [State.booting]
theorem State.booting_chip (s : State) : s.booting.chip = s.chip := by simp [State.booting]
theorem State.booting_fuses (s : State) : s.booting.fuses = s.fuses := by simp [State.booting]

theorem State.booting_power (s : State) : s.booting.power.inReset = false ∧ s.booting.power.bootDue = false := by simp [State.booting]

theorem State.pickSlot_of_parts {s t : State} (hf : t.flash = s.flash) (hu : t.fuses = s.fuses) : t.pickSlot = s.pickSlot := by
  have hkeys : t.imageKeys = s.imageKeys := by rw [State.imageKeys, hu, State.imageKeys]
  have hauth : t.authentic = s.authentic := by
    funext bs
    simp only [State.authentic, State.outerSigned, State.innerSigned, hkeys, hu]
  have hslot : ∀ b, t.slotAuthentic b = s.slotAuthentic b := fun b => by
    rw [State.slotAuthentic, State.slotImage, hf, hauth, State.slotAuthentic, State.slotImage]
  have husable : ∀ b, t.usable b = s.usable b := fun b => by
    simp only [State.usable, State.confirmedSlot, State.tried, hf, hslot]
    rfl
  simp only [State.pickSlot, husable]

theorem State.activate_state (s : State) (k : Nat) : (s.activate k).rd (SLC_STATUS.STATE k) = slACTIVE := by
  unfold State.activate
  dsimp only
  rw [State.upSl_rd, State.rd_wr_same]
  rfl

theorem State.createS0_state (s : State) : s.createS0.rd (SLC_STATUS.STATE 0) = slACTIVE := State.activate_state ..

theorem State.markTried_tried (s : State) (b : Bool) : (s.markTried b).tried b = true ∨ (s.markTried b).confirmedSlot b = true := by
  unfold State.markTried
  split
  case isTrue h => exact h
  case isFalse h =>
    refine Or.inl ?_
    have hget : (s.setTrailer b 0).flash.get (slotTrailer b) = 0 := s.flash.get_put_in [0x00] (slotTrailer b) (i := 0) (by decide)
    rw [State.tried, hget]
    rfl

theorem State.markTried_get (s : State) (b : Bool) {a : Nat} (ha : a ≠ slotTrailer b) : (s.markTried b).flash.get a = s.flash.get a := by
  unfold State.markTried
  split
  · rfl
  · exact Memory.get_put_out _ _ (by simp only [List.length_singleton]; omega)

theorem State.markTried_power (s : State) (b : Bool) : (s.markTried b).power = s.power := by
  unfold State.markTried
  split <;> rfl

/-- What the loading of the calibration table and the boot transaction leave. -/
theorem State.bootLoads_keeps (s : State) (i : Image) (c : Cell) :
    (((((s.loadCal true).bootTxn i).bootShow).createS0).on c).flash = s.flash ∧
    (((((s.loadCal true).bootTxn i).bootShow).createS0).on c).chip = s.chip ∧
    (((((s.loadCal true).bootTxn i).bootShow).createS0).on c).power = s.power := by
  obtain ⟨hf, hc, hp⟩ := State.bootTxn_keeps (s.loadCal true) i
  exact ⟨(State.on_flash ..).trans ((State.createS0_flash _).trans ((State.bootShow_flash _).trans (hf.trans (State.loadCal_flash ..)))),
    (State.on_chip ..).trans ((State.createS0_chip _).trans ((State.bootShow_chip _).trans (hc.trans (State.loadCal_chip ..)))),
    (State.on_power ..).trans ((State.createS0_power _).trans ((State.bootShow_power _).trans (hp.trans (State.loadCal_power ..))))⟩

theorem State.copied_keeps (s : State) (b : Bool) (bs : List Byte) : (s.copied b bs).flash = (s.markTried b).flash ∧
    (s.copied b bs).chip = some bs ∧ (s.copied b bs).power = s.power := by
  unfold State.copied
  simp [State.markTried_power]

theorem State.bootedWith_keeps (s : State) (b : Bool) (bs : List Byte) : (s.bootedWith b bs).flash = (s.markTried b).flash ∧
    (s.bootedWith b bs).chip = some bs ∧ (s.bootedWith b bs).power = s.power := by
  obtain ⟨hf, hc, hp⟩ := State.bootLoads_keeps (s.copied b bs) (imageOf bs) RST_STATUS.BOOT_DONE
  obtain ⟨hf', hc', hp'⟩ := s.copied_keeps b bs
  exact ⟨hf.trans hf', hc.trans hc', hp.trans hp'⟩

theorem State.bootedWith_state (s : State) (b : Bool) (bs : List Byte) : (s.bootedWith b bs).rd (SLC_STATUS.STATE 0) = slACTIVE := by
  unfold State.bootedWith
  rw [State.rd_on_name _ _ _ (by simp), State.createS0_state]

theorem State.rd_bootedWith (s : State) (b : Bool) (bs : List Byte) {c : Cell} (hlo : c.lo < 32) (hc : c.fixedByBoot = true)
    (hclamp : fp_clamped.misses (fieldName c.key) = true) (hr : fieldName c.key ≠ fieldName IMG_STATUS.STRUCT_REFUSED.key)
    (hreason : fieldName c.key ≠ fieldName IMG_STATUS.STRUCT_REASON.key) (h0 : fp_createS0.misses (fieldName c.key) = true)
    (hshow : fp_bootShow.misses (fieldName c.key) = true) (hload : fp_loadCal.misses (fieldName c.key) = true)
    (hdone : fieldName c.key ≠ fieldName RST_STATUS.BOOT_DONE.key) : (s.bootedWith b bs).rd c = (s.copied b bs).rd c := by
  unfold State.bootedWith
  rw [State.rd_on_name _ _ _ hdone, State.rd_createS0 _ _ h0, State.rd_bootShow _ _ hshow, State.rd_bootTxn _ _ hlo hc hclamp hr hreason,
    State.rd_loadCal _ _ _ hload]

theorem State.rd_booting_recovery (s : State) : s.booting.rd IMG_STATUS.RECOVERY = s.rd IMG_STATUS.RECOVERY := by simp +decide [State.booting]
theorem State.rd_booting_slot (s : State) : s.booting.rd IMG_STATUS.BOOT_SLOT = s.rd IMG_STATUS.BOOT_SLOT := by simp +decide [State.booting]
theorem State.rd_booting_done (s : State) : s.booting.rd RST_STATUS.BOOT_DONE = s.rd RST_STATUS.BOOT_DONE := by simp +decide [State.booting]

theorem State.rd_markTried (s : State) (b : Bool) (c : Cell) : (s.markTried b).rd c = s.rd c := by
  unfold State.markTried
  split <;> rfl

/-- BOOT with a slot picked. -/
theorem State.bootedWith_shows {s : State} {b : Bool} {bs : List Byte} :
    (s.booting.bootedWith b bs).chip = some bs ∧ (s.booting.bootedWith b bs).rd RST_STATUS.BOOT_DONE = 1 ∧
      (s.booting.bootedWith b bs).rd IMG_STATUS.RECOVERY = s.rd IMG_STATUS.RECOVERY ∧
      (s.booting.bootedWith b bs).rd IMG_STATUS.BOOT_SLOT = 1 + ofBool b ∧
      ((s.booting.bootedWith b bs).tried b = true ∨ (s.booting.bootedWith b bs).confirmedSlot b = true) ∧
      (∀ a, a ≠ slotTrailer b → (s.booting.bootedWith b bs).flash.get a = s.flash.get a) ∧
      (s.booting.bootedWith b bs).power.inReset = false ∧ (s.booting.bootedWith b bs).power.bootDue = false ∧
      (s.booting.bootedWith b bs).rd (SLC_STATUS.STATE 0) = slACTIVE := by
  obtain ⟨hf, hc, hp⟩ := s.booting.bootedWith_keeps b bs
  obtain ⟨hreset, hdue⟩ := s.booting_power
  refine ⟨hc, ?_, ?_, ?_, ?_, ?_, by rw [hp, hreset], by rw [hp, hdue], State.bootedWith_state ..⟩
  · rw [State.bootedWith, State.rd_on_same]
    rfl
  · rw [State.rd_bootedWith _ _ _ (by decide) (by decide) (by rw [fieldName_IMG_STATUS_RECOVERY]; decide) (by simp) (by simp)
      (by rw [fieldName_IMG_STATUS_RECOVERY]; decide) (by rw [fieldName_IMG_STATUS_RECOVERY]; decide)
      (by rw [fieldName_IMG_STATUS_RECOVERY]; decide) (by simp), ← s.rd_booting_recovery]
    unfold State.copied
    simp [State.put, State.rd_markTried]
  · rw [State.rd_bootedWith _ _ _ (by decide) (by decide) (by rw [fieldName_IMG_STATUS_BOOT_SLOT]; decide) (by simp) (by simp)
      (by rw [fieldName_IMG_STATUS_BOOT_SLOT]; decide) (by rw [fieldName_IMG_STATUS_BOOT_SLOT]; decide)
      (by rw [fieldName_IMG_STATUS_BOOT_SLOT]; decide) (by simp)]
    unfold State.copied
    cases b <;> simp +decide [State.put]
  · simp only [State.tried, State.confirmedSlot, hf]
    exact s.booting.markTried_tried b
  · intro a ha
    rw [hf, State.markTried_get _ _ ha, State.booting_flash]

/-- BOOT with no slot to run: recovery mode. -/
theorem State.bootRecovery_shows (s : State) : ((s.booting.on IMG_STATUS.RECOVERY).createS0).chip = s.chip ∧
    ((s.booting.on IMG_STATUS.RECOVERY).createS0).rd RST_STATUS.BOOT_DONE = s.rd RST_STATUS.BOOT_DONE ∧
    ((s.booting.on IMG_STATUS.RECOVERY).createS0).rd IMG_STATUS.RECOVERY = 1 ∧
    ((s.booting.on IMG_STATUS.RECOVERY).createS0).rd IMG_STATUS.BOOT_SLOT = s.rd IMG_STATUS.BOOT_SLOT ∧
    ((s.booting.on IMG_STATUS.RECOVERY).createS0).flash = s.flash ∧
    ((s.booting.on IMG_STATUS.RECOVERY).createS0).power = s.booting.power := by
  refine ⟨?_, ?_, ?_, ?_, ?_, ?_⟩
  · exact (State.createS0_chip _).trans ((State.on_chip ..).trans s.booting_chip)
  · rw [State.rd_createS0 _ _ (by rw [fieldName_RST_STATUS_BOOT_DONE]; decide), State.rd_on_name _ _ _ (by simp), s.rd_booting_done]
  · rw [State.rd_createS0 _ _ (by rw [fieldName_IMG_STATUS_RECOVERY]; decide), State.rd_on_same]
    rfl
  · rw [State.rd_createS0 _ _ (by rw [fieldName_IMG_STATUS_BOOT_SLOT]; decide), State.rd_on_name _ _ _ (by simp), s.rd_booting_slot]
  · exact (State.createS0_flash _).trans ((State.on_flash ..).trans s.booting_flash)
  · exact (State.createS0_power _).trans (State.on_power ..)

/-! ## CONFIRM and ADVANCE_ARB (R259, R262, R263) -/

/-- The running image confirmed: a byte of its trailer is programmed, and no other byte of flash. -/
theorem State.confirm_programs (s : State) : s.confirm.rd IMG_STATUS.CONFIRMED = 1 ∧ s.confirm.confirmedSlot s.bootedB = true ∧
    (∀ a, a ≠ slotTrailer s.bootedB + 1 → s.confirm.flash.get a = s.flash.get a) := by
  refine ⟨State.rd_on_same .., ?_, fun a ha => ?_⟩
  · have hget : s.confirm.flash.get (slotTrailer s.bootedB + 1) = 0 :=
      s.flash.get_put_in [0x00] (slotTrailer s.bootedB + 1) (i := 0) (by decide)
    rw [State.confirmedSlot, hget]
    rfl
  · exact Memory.get_put_out _ _ (by simp only [List.length_singleton]; omega)

/-- An action of IMG_CMD that nothing keeps from being taken. -/
theorem State.imgCmd_acts {s : State} (hs : s.served = true) (hp : s.powerState ≠ 1) (hb : s.bit IMG_STATUS.CMD_BUSY = false)
    (act : State → State) : s.imgCmd act = act s := by
  simp [State.imgCmd, hs, hp, hb]

theorem exec_confirm_confirms {s : State} (hs : s.served = true) (hp : s.powerState ≠ 1) (hb : s.bit IMG_STATUS.CMD_BUSY = false)
    (hr : s.bit IMG_STATUS.RECOVERY = false) : exec (.confirm) s = .next (s.confirm.wr IMG_STATUS.CMD_RESULT 1) := by
  simp only [exec_confirm_runs, execConfirm, State.imgCmd_acts hs hp hb, State.confirmCmd, hr, Bool.false_eq_true, if_false]

theorem exec_confirmAfterExpiry_confirms {s : State} {bs : List Byte} (hc : s.chip = some bs) (hr : s.power.inReset = false)
    (hrec : s.bit IMG_STATUS.RECOVERY = false) (ha : imgConfirmAfter bs ≠ 0) (hw : s.power.watchdogSeen = false)
    (hn : s.bit IMG_STATUS.CONFIRMED = false) (hp : s.powerState = 0) : exec (.confirmAfterExpiry) s =
    .next (s.advanceTo (s.elapsed + (imgConfirmAfter bs * 1000000 * usUnit - s.power.ranFor))).confirm := by
  simp only [exec_confirmAfterExpiry_runs, execConfirmAfterExpiry, hc, hr, hrec, ha, hw, hn, hp, ne_eq, not_true_eq_false, Bool.false_eq_true, or_self, if_false]

theorem State.bootedB_advanceTo (s : State) (e : Nat) : (s.advanceTo e).bootedB = s.bootedB := by
  rw [State.bootedB, State.rd_advanceTo _ _ _ (by rw [fieldName_IMG_STATUS_BOOT_SLOT]; decide), State.bootedB]

theorem exec_advanceArb_blows {s : State} {bs : List Byte} (hs : s.served = true) (hp : s.powerState ≠ 1)
    (hb : s.bit IMG_STATUS.CMD_BUSY = false) (hr : s.bit IMG_STATUS.RECOVERY = false) (hc : s.bit IMG_STATUS.CONFIRMED = true)
    (hchip : s.chip = some bs) : exec (.advanceArb) s = .next
      ((s.setFuses { s.fuses with steps := max s.fuses.steps (imgArb bs) }).showFuses.wr IMG_STATUS.CMD_RESULT 1) := by
  simp [exec_advanceArb_runs, execAdvanceArb, State.imgCmd_acts hs hp hb, State.advanceArb, hchip, hr, hc]

theorem State.rd_showFuses_steps (s : State) : s.showFuses.rd IMG_STATUS.ARB_FUSE = s.fuses.steps % 2 ^ 5 := by
  unfold State.showFuses
  rw [State.rd_each _ _ _ _ (fun t n _ => State.rd_wr_name _ _ _ _ (by simp)), State.rd_wr_same]
  rfl

theorem exec_boot_boots {s : State} {answers : Bool} {a : Nat} (hr : s.power.inReset = true) (hd : s.power.bootDue = true)
    (hn : s.power.resetN = false) (ha : s.power.aonReset = false) (hl : s.power.lowRails = []) :
    ∃ t, exec (.boot answers) s = .next t ∧
      t.chip = (match if answers then s.pickSlot else none with | some c => some c.2 | none => s.chip) ∧
      t.rd RST_STATUS.BOOT_DONE =
        (match if answers then s.pickSlot else none with | some _ => 1 | none => s.rd RST_STATUS.BOOT_DONE) ∧
      t.rd IMG_STATUS.RECOVERY =
        (match if answers then s.pickSlot else none with | some _ => s.rd IMG_STATUS.RECOVERY | none => 1) ∧
      t.rd IMG_STATUS.BOOT_SLOT =
        (match if answers then s.pickSlot else none with | some c => 1 + ofBool c.1 | none => s.rd IMG_STATUS.BOOT_SLOT) ∧
      (∀ b, (if answers then s.pickSlot else none).map Prod.fst = some b → t.tried b = true ∨ t.confirmedSlot b = true) ∧
      (((if answers then s.pickSlot else none).map (fun c => slotTrailer c.1)) ≠ some a → t.flash.get a = s.flash.get a) ∧
      t.power.inReset = false ∧ t.power.bootDue = false ∧ t.rd (SLC_STATUS.STATE 0) = slACTIVE := by
  have hexec := exec_boot_next (answers := answers) hr hd hn ha hl
  rw [State.pickSlot_of_parts s.booting_flash s.booting_fuses] at hexec
  generalize (if answers = true then s.pickSlot else none) = o at hexec ⊢
  refine ⟨_, hexec, ?_⟩
  cases o with
  | none =>
    obtain ⟨hchip, hdone, hrec, hslot, hflash, hpower⟩ := s.bootRecovery_shows
    obtain ⟨hreset, hdue⟩ := s.booting_power
    exact ⟨hchip, hdone, hrec, hslot, by simp, fun _ => congrArg (Memory.get · a) hflash, by rw [hpower, hreset], by rw [hpower, hdue],
      State.createS0_state _⟩
  | some c =>
    obtain ⟨b, bs⟩ := c
    obtain ⟨hchip, hdone, hrec, hslot, htried, hflash, hreset, hdue, hstate⟩ := State.bootedWith_shows (s := s) (b := b) (bs := bs)
    refine ⟨hchip, hdone, hrec, hslot, ?_, ?_, hreset, hdue, hstate⟩
    · rintro b' hb'
      cases hb'
      exact htried
    · intro hne
      exact hflash a (fun he => hne (by rw [he]; rfl))

theorem exec_advanceArb_shows {s : State} {bs : List Byte} (hs : s.served = true) (hp : s.powerState ≠ 1)
    (hb : s.bit IMG_STATUS.CMD_BUSY = false) (hr : s.bit IMG_STATUS.RECOVERY = false) (hc : s.bit IMG_STATUS.CONFIRMED = true)
    (hchip : s.chip = some bs) : ∃ t, exec (.advanceArb) s = .next t ∧ t.fuses.steps = max s.fuses.steps (imgArb bs) ∧
      t.rd IMG_STATUS.ARB_FUSE = max s.fuses.steps (imgArb bs) % 2 ^ 5 ∧ t.rd IMG_STATUS.CMD_RESULT = 1 := by
  refine ⟨_, exec_advanceArb_blows hs hp hb hr hc hchip, ?_, ?_, State.rd_wr_same ..⟩
  · rw [State.wr_fuses, State.showFuses_fuses, State.setFuses_fuses]
  · rw [State.rd_wr_name _ _ _ _ (by simp), State.rd_showFuses_steps, State.setFuses_fuses]

/-- The running image confirmed once the device has run for a time in RUN. -/
theorem exec_confirms_once_ran {s : State} {d a : Nat}
    (hexec : exec (.confirmAfterExpiry) s = .next (s.advanceTo (s.elapsed + (d - s.power.ranFor))).confirm) :
    ∃ t, exec (.confirmAfterExpiry) s = .next t ∧ t.rd IMG_STATUS.CONFIRMED = 1 ∧ t.confirmedSlot s.bootedB = true ∧
      (a ≠ slotTrailer s.bootedB + 1 → t.flash.get a = s.flash.get a) ∧ s.elapsed + d ≤ t.elapsed + s.power.ranFor := by
  generalize hu : s.advanceTo (s.elapsed + (d - s.power.ranFor)) = u at hexec
  obtain ⟨hconf, hslot, hflash⟩ := u.confirm_programs
  have hbooted : u.bootedB = s.bootedB := by rw [← hu, State.bootedB_advanceTo]
  have hkept : u.flash = s.flash := by rw [← hu, State.advanceTo_flash]
  have he : s.elapsed + (d - s.power.ranFor) ≤ u.elapsed := by
    rw [← hu]
    exact s.le_advanceTo_elapsed _
  rw [hbooted] at hslot hflash
  refine ⟨u.confirm, hexec, hconf, hslot, fun hne => (hflash a hne).trans (by rw [hkept]), ?_⟩
  have helapsed : u.confirm.elapsed = u.elapsed := rfl
  omega

/-- Settles O35: boot, confirmation and the anti-rollback fuses. -/
theorem bootPicksAnImage : Obligations.BootPicksAnImage := by
  unfold Obligations.BootPicksAnImage
  refine ⟨?_, ?_, ?_, ?_, ?_⟩
  · exact fun s answers a => exec_boot_boots
  · intro s a hs hp hb hr
    obtain ⟨hconf, hslot, hflash⟩ := s.confirm_programs
    exact ⟨_, exec_confirm_confirms hs hp hb hr, (State.rd_wr_name _ _ _ _ (by simp)).trans hconf, hslot, hflash a, State.rd_wr_same ..⟩
  · exact fun s bs a hc hr hrec ha hw hn hp => exec_confirms_once_ran (exec_confirmAfterExpiry_confirms hc hr hrec ha hw hn hp)
  · exact fun s bs => exec_advanceArb_shows
  · intro s hs hp hb hc
    simp only [exec_advanceArb_runs, execAdvanceArb, State.imgCmd_acts hs hp hb, State.advanceArb, hc, Bool.not_false, or_true, if_true]
    cases s.chip <;> rfl

/-! ## An image write under a hold -/

/-- An image write whose image area is being erased while the requests of the function are held. -/
def aHeldWrite : State :=
  (Tests.aPort.wr GLB_MGMT_STATUS.DMA_HELD 1).setImgOp (some (.write { Tests.aWrite with step := 2 })) |>.on IMG_STATUS.CMD_BUSY

theorem aHeldWrite_writing : aHeldWrite.imgOp = some (.write { Tests.aWrite with step := 2 }) := rfl

/-- The read of the image fails at once, and the write goes on with the erasure of step 6. -/
theorem aHeldWrite_fails : ∃ t, exec (.imgFlashOpDone .ok) aHeldWrite = .next t ∧ t.rd IMG_STATUS.CMD_BUSY = 1 ∧
    t.imgOp = some (.write { Tests.aWrite with step := 6, result := 6 }) := ⟨_, rfl, by decide +kernel⟩

/-- Refutes O36: where the requests of the function are held as step 2 of an image write completes, the write neither ends nor goes on
with step 3, but erases the image's first sector again and ends with DMA_FAIL (R303). -/
theorem not_imageWritesAndKeys : ¬ Obligations.ImageWritesAndKeys := by
  rintro ⟨-, -, -, hread, -⟩
  obtain ⟨t, hexec, -, hnext⟩ := hread aHeldWrite { Tests.aWrite with step := 2 } 0 aHeldWrite_writing rfl
  obtain ⟨u, hexec', hbusy, hop⟩ := aHeldWrite_fails
  cases hexec.symm.trans hexec'
  rw [hbusy, hop] at hnext
  exact absurd hnext (by decide)

end Sys2Proof.Machine
end

section
/-! PROOFS. Transactions: staging, COMMIT and ROLLBACK, and the marks of a Port at an Apply Point (09, R267 to R278, R438). -/

set_option Elab.async false

namespace Sys2Proof.Machine

@[simp] theorem State.wakeTile_txn (s : State) (t : Nat) : (s.wakeTile t).txn = s.txn :=
  (Goes.wakeTile (Foot.le_refl _) (Goes.refl _ s)).part .txn (by decide)
/-! ## A Port whose count is to be raised at its Apply Points -/

/-- A receiver with a calibration set pending, on a Port of the scope of a commit, whose transition count is to be raised at the later of
its Apply Points (R438). -/
def aMarkedPort : State :=
  (Tests.aLive.upP 0 (fun x => { x with markAB := true, markBA := true })).upH 0 (fun x => { x with pendingSet := some (CalSet.neutral, 0) })

theorem aMarkedPort_pending : aMarkedPort.claim 0 = some 0 ∧ aMarkedPort.isSeg (otherSide 0) = false ∧
    (aMarkedPort.portx (0 / 2)).applyAB = false ∧ (aMarkedPort.portx (0 / 2)).applyBA = false ∧
    (aMarkedPort.half 0).pendingSet = some (CalSet.neutral, 0) ∧ aMarkedPort.engineUp 0 = true ∧ (aMarkedPort.half 0).run = none ∧
    (aMarkedPort.engine (engineOf 0)).slot = none ∧ aMarkedPort.isApplyPoint 0 .dclk = true := by decide +kernel

/-- The direction's mark goes with the Apply Point. -/
theorem aMarkedPort_counts : ∃ t, exec (.applyPoint ⟨0, .dclk⟩) aMarkedPort = .next t ∧ (t.portx 0).markAB = false :=
  ⟨_, rfl, by decide +kernel⟩

/-- Refutes O38: an Apply Point at which a calibration set takes effect is also one at which a Port of a commit that does not reset it
comes nearer to raising its count (R438). -/
theorem not_transactionsCommitOrFail : ¬ Obligations.TransactionsCommitOrFail := by
  rintro ⟨-, -, -, -, -, -, hset, -⟩
  obtain ⟨hclaim, hseg, hab, hba, hpend, hup, hrun, hslot, hpoint⟩ := aMarkedPort_pending
  have hexec := hset aMarkedPort 0 0 CalSet.neutral 0 .dclk hclaim hseg hab hba hpend hup hrun hslot hpoint
  obtain ⟨u, hexec', hmark⟩ := aMarkedPort_counts
  cases hexec.symm.trans hexec'
  exact absurd hmark (by decide +kernel)

/-! ## Staging (R254, R268, R269) -/

/-- A field of a register staged with a written word. -/
def State.stageField (value : Nat) (t : State) (f : Field) : State :=
  match f.acc with
  | .rwt =>
    let old := (t.txn.shadow.get (f.cell, t.rd f.cell) f.cell.key).2
    let v := f.fix.apply old (bitsOf value f.cell.lo f.cell.width)
    t.upX (fun x => { x with shadow := x.shadow.set f.cell.key (f.cell, v) })
  | _ => t

theorem State.stageWord_fits {s : State} (off value : Nat) (fs : List Field) (h : s.txn.size < 8192) : s.stageWord off value fs =
    fs.foldl (State.stageField value) (s.upX (fun x => { x with words := if x.words.contains off then x.words else x.words ++ [off] })) := by
  unfold State.stageWord
  rw [if_neg (by omega)]
  rfl

theorem State.stageField_regs (value : Nat) (t : State) (f : Field) : (t.stageField value f).regs = t.regs := by
  unfold State.stageField
  split <;> rfl

theorem State.stageField_get_ne (value : Nat) (t : State) (f : Field) (d : Cell × Nat) {k : Nat} (h : k ≠ f.cell.key) :
    (t.stageField value f).txn.shadow.get d k = t.txn.shadow.get d k := by
  unfold State.stageField
  dsimp only
  split
  case h_1 => exact Tab.get_set_ne _ _ _ h
  all_goals rfl

theorem State.stageField_get_same (value : Nat) (t : State) {c : Cell} (d : Cell × Nat) :
    (t.stageField value ⟨c, .rwt, .any⟩).txn.shadow.get d c.key = (c, bitsOf value c.lo c.width) := Tab.get_set_same ..

/-- The staged fields of a register are those of the word. -/
theorem State.stageFields_get {x : Nat} (value : Nat) {fs : List Field} (h : Laid x fs) (s : State) {c : Cell} (d : Cell × Nat)
    (hf : ⟨c, .rwt, .any⟩ ∈ fs) : (fs.foldl (State.stageField value) s).txn.shadow.get d c.key = (c, bitsOf value c.lo c.width) := by
  induction fs generalizing s with
  | nil => exact absurd hf List.not_mem_nil
  | cons g fs ih =>
    rw [List.foldl_cons]
    cases hf with
    | tail _ hf => exact ih h.tail _ hf
    | head =>
      refine (List.foldlRecOn (motive := fun t : State => t.txn.shadow.get d c.key = (c, bitsOf value c.lo c.width)) fs _
        (State.stageField_get_same value s d) (fun t ht k hk => ?_))
      rw [State.stageField_get_ne value t k d (h.key_ne hk).symm, ht]

theorem State.stageFields_regs (value : Nat) (fs : List Field) (s : State) : (fs.foldl (State.stageField value) s).regs = s.regs :=
  List.foldlRecOn (motive := fun t : State => t.regs = s.regs) fs _ rfl (fun t ht f _ => (t.stageField_regs value f).trans ht)

/-- A write of PRT_MODE that is not covered is discarded, and one that is is staged. -/
theorem exec_rwtWrite_PRT_MODE {s : State} (p : PortId) (v : Nat) (hh : s.hosted = true) :
    exec (.rwtWrite (PRT_MODE.off p) v) s = .next (if s.txnState = xOPEN ∧ s.inScope p = true then
      (s.stageWord (PRT_MODE.off p) (v % 2 ^ 32) (fieldsAt (PRT_MODE.off p))).upX (fun y => { y with touched := s.elapsed })
    else s.on TXN_STATUS.STRAY) := by
  obtain ⟨hserved, hrec⟩ := State.hosted_iff.mp hh
  have h1 : PRT_MODE.off p ≠ 0x101C := by unfold PRT_MODE.off; omega
  have h2 : PRT_MODE.off p ≠ 0x1018 := by unfold PRT_MODE.off; omega
  refine (next_neg (by simp [hserved, hrec, hasRwt_PRT_MODE])).trans ?_
  rw [State.rwtWrite, if_neg (by simp [hrec]), State.rwtActs_PRT_MODE, State.stageRwt, if_neg h1, State.covered_PRT_MODE, if_neg h2]

theorem exec_rwtWrite_stages {s : State} {p : PortId} {v : Nat} (hh : s.hosted = true) (hopen : s.txnState = xOPEN)
    (hp : s.inScope p = true) (hsize : s.txn.size < 8192) : ∃ t, exec (.rwtWrite (PRT_MODE.off p) v) s = .next t ∧
      t.txn.shadow.get (PRT_MODE.TILE p, 0) (PRT_MODE.TILE p).key = (PRT_MODE.TILE p, bitsOf v 24 3) ∧
      t.txn.shadow.get (PRT_MODE.ENABLE p, 0) (PRT_MODE.ENABLE p).key = (PRT_MODE.ENABLE p, bitsOf v 31 1) ∧ t.regs = s.regs := by
  have hfields : fieldsAt (PRT_MODE.off p) = PRT_MODE.fields p := by
    rw [fieldsAt_PRT_MODE, Nat.mod_eq_of_lt p.isLt]
  have hlaid : Laid (PRT_MODE.off p) (PRT_MODE.fields p) := hfields ▸ laid_fieldsAt _
  have htile : bitsOf (v % 2 ^ 32) 24 3 = bitsOf v 24 3 := by
    unfold bitsOf
    omega
  have henable : bitsOf (v % 2 ^ 32) 31 1 = bitsOf v 31 1 := by
    unfold bitsOf
    omega
  refine ⟨_, exec_rwtWrite_PRT_MODE p v hh, ?_⟩
  rw [if_pos ⟨hopen, hp⟩, State.stageWord_fits _ _ _ hsize, hfields]
  generalize hu : s.upX _ = u
  have hget : ∀ c : Cell, ⟨c, .rwt, .any⟩ ∈ PRT_MODE.fields p →
      ((PRT_MODE.fields p).foldl (State.stageField (v % 2 ^ 32)) u).txn.shadow.get (c, 0) c.key = (c, bitsOf (v % 2 ^ 32) c.lo c.width) :=
    fun c hc => State.stageFields_get _ hlaid u _ hc
  have hregs := State.stageFields_regs (v % 2 ^ 32) (PRT_MODE.fields p) u
  generalize (PRT_MODE.fields p).foldl (State.stageField (v % 2 ^ 32)) u = t at hget hregs
  exact ⟨(hget _ (by simp [PRT_MODE.fields])).trans (congrArg (Prod.mk _) htile),
    (hget _ (by simp [PRT_MODE.fields])).trans (congrArg (Prod.mk _) henable), hregs.trans (by rw [← hu]; rfl)⟩

theorem exec_rwtWrite_stray {s : State} {p : PortId} {v : Nat} (hh : s.hosted = true) (hout : s.txnState ≠ xOPEN ∨ s.inScope p = false) :
    exec (.rwtWrite (PRT_MODE.off p) v) s = .next (s.on TXN_STATUS.STRAY) := by
  rw [exec_rwtWrite_PRT_MODE p v hh, if_neg]
  rintro ⟨hopen, hp⟩
  cases hout with
  | inl h => exact h hopen
  | inr h => exact absurd (hp.symm.trans h) (by decide)

theorem exec_bctStage_stages {s : State} {hi : Nat} (hh : s.hosted = true) (hopen : s.txnState = xOPEN)
    (hbit : s.bit TXN_SCOPE_G.CHANNEL_TABLE = true) (hsize : s.txn.size + 2 ≤ 8192) : ∃ t, exec (.bctStage hi) s = .next t ∧
      t.txn.table.get 0 (s.rd IMG_BCT_INDEX.INDEX) =
        storedEntry (s.rd IMG_BCT_INDEX.INDEX) (s.rd (IMG_BCT.ENTRY 0) + 2 ^ 32 * (hi % 2 ^ 32)) ∧
      t.bct = s.bct ∧ t.regs = s.regs := by
  obtain ⟨hserved, hrec⟩ := State.hosted_iff.mp hh
  refine ⟨_, (next_neg (by simp [hserved])).trans (next_neg (by simp [hrec])), ?_⟩
  rw [State.stageBct, if_pos ⟨hopen, hbit⟩, State.stageEntry, if_neg (by omega)]
  exact ⟨Tab.get_set_same .., rfl, rfl⟩

/-! ## TXN_CMD (R268, R270, R272, R275) -/

/-- The transaction written to now. -/
def State.touch (s : State) : State := s.upX (fun x => { x with touched := s.elapsed })

theorem State.touch_rd (s : State) (c : Cell) : s.touch.rd c = s.rd c := rfl
theorem State.touch_txnState (s : State) : s.touch.txnState = s.txnState := rfl
theorem State.touch_txnTime (s : State) : s.touch.txnTime = s.txnTime := rfl
theorem State.touch_nowNs (s : State) : s.touch.nowNs = s.nowNs := rfl
theorem State.touch_shadow (s : State) : s.touch.txn.shadow = s.txn.shadow := rfl

/-- An action of TXN_CMD that nothing keeps from being taken. -/
theorem State.txnCmd_acts {s : State} (hh : s.hosted = true) (hp : s.powerState ≠ 1) (hc : s.mgmt.coresDown = false) (act : State → State) :
    s.txnCmd act = act s.touch := by
  simp [State.txnCmd, State.hostCmd, State.hostWrite, hh, hp, hc, State.touch]

theorem exec_txnBegin_opens {s : State} (hh : s.hosted = true) (hp : s.powerState ≠ 1) (hc : s.mgmt.coresDown = false)
    (hidle : s.txnState = xIDLE) : ∃ t, exec (.txnBegin) s = .next t ∧ t.txnState = xOPEN ∧
      t.rd TXN_STATUS.ID = (s.rd TXN_STATUS.ID + 1) % 2 ^ 8 ∧ t.txn = { touched := s.elapsed } := by
  refine ⟨_, congrArg Host.Outcome.next (State.txnCmd_acts hh hp hc _), ?_⟩
  rw [State.txnBegin, if_pos (s.touch_txnState.trans hidle)]
  refine ⟨?_, ?_, rfl⟩
  · simp +decide [State.txnState, State.wrapUp]
  · simp +decide [State.wrapUp, State.touch_rd]

/-- A time kept in the two words of TXN_TIME. -/
theorem State.txnTime_of_words {s : State} {v : Nat} (h0 : s.rd (TXN_TIME.TIME 0) = v % 2 ^ 32)
    (h1 : s.rd (TXN_TIME.TIME 1) = v / 2 ^ 32 % 2 ^ 32) (hv : v < 2 ^ 64) : s.txnTime = v := by
  rw [State.txnTime, h0, h1]
  omega

/-- A transaction committed for a time: validation begins, and the tiles of its scope wake. -/
def State.commitFor (s : State) (v : Nat) : State :=
  (((s.wr (TXN_TIME.TIME 0) v).wr (TXN_TIME.TIME 1) (v / 2 ^ 32)).wr TXN_STATUS.STATE xVALIDATING).each (s.scopeTiles s.staging)
    State.wakeTile

theorem State.txnCommit_eq {s : State} (hopen : s.txnState = xOPEN) :
    s.txnCommit = s.commitFor (clampNat (s.nowNs + 100000) (s.nowNs + 10000000000) s.txnTime) := by
  rw [State.txnCommit, if_pos hopen, State.commitFor]

theorem State.commitFor_validates (s : State) {v : Nat} (hlt : v < 2 ^ 64) :
    (s.commitFor v).txnState = xVALIDATING ∧ (s.commitFor v).txnTime = v ∧ (s.commitFor v).txn.shadow = s.txn.shadow := by
  have hrd : ∀ (u : State) (c : Cell), fp_wakeTile.misses (fieldName c.key) = true →
      (u.each (s.scopeTiles s.staging) State.wakeTile).rd c = u.rd c := fun u c hm =>
    State.rd_each u c _ _ (fun t x _ => State.rd_wakeTile t c x hm)
  unfold State.commitFor
  refine ⟨?_, State.txnTime_of_words ?_ ?_ hlt, ?_⟩
  · rw [State.txnState, hrd _ TXN_STATUS.STATE (by rw [fieldName_TXN_STATUS_STATE]; decide), State.rd_wr_same]
    rfl
  · rw [hrd _ (TXN_TIME.TIME 0) (by rw [fieldName_TXN_TIME_TIME]; decide), State.rd_wr_name _ _ _ _ (by simp),
      State.rd_wr_ne _ _ _ _ (by decide), State.rd_wr_same]
    rfl
  · rw [hrd _ (TXN_TIME.TIME 1) (by rw [fieldName_TXN_TIME_TIME]; decide), State.rd_wr_name _ _ _ _ (by simp), State.rd_wr_same]
    rfl
  · rw [State.each_part State.txn _ _ _ State.wakeTile_txn, State.wr_txn, State.wr_txn, State.wr_txn]

theorem clampNat_lt {lo hi v n : Nat} (hlo : lo < n) (hhi : hi < n) : clampNat lo hi v < n := by
  unfold clampNat
  omega

theorem exec_commit_validates {s : State} (hh : s.hosted = true) (hp : s.powerState ≠ 1) (hc : s.mgmt.coresDown = false)
    (hopen : s.txnState = xOPEN) (hnow : s.nowNs + 10000000000 < 2 ^ 64) : ∃ t, exec (.commit) s = .next t ∧
      t.txnState = xVALIDATING ∧ t.txnTime = clampNat (s.nowNs + 100000) (s.nowNs + 10000000000) s.txnTime ∧
      t.txn.shadow = s.txn.shadow := by
  refine ⟨_, congrArg Host.Outcome.next (State.txnCmd_acts hh hp hc _), ?_⟩
  rw [State.txnCommit_eq (s.touch_txnState.trans hopen), State.touch_nowNs, State.touch_txnTime, ← State.touch_shadow]
  exact s.touch.commitFor_validates (clampNat_lt (by omega) hnow)

theorem exec_rollback_ends {s : State} (hh : s.hosted = true) (hp : s.powerState ≠ 1) (hc : s.mgmt.coresDown = false)
    (hst : s.txnState = xOPEN ∨ s.txnState = xVALIDATING ∨ s.txnState = xSCHEDULED) : ∃ t, exec (.rollback) s = .next t ∧
      t.txnState = xIDLE ∧ t.rd TXN_STATUS.LAST_RESULT = 4 ∧ t.rd TXN_STATUS.REASON = 0xE ∧ t.txn = {} := by
  refine ⟨_, congrArg Host.Outcome.next (State.txnCmd_acts hh hp hc _), ?_⟩
  rw [State.rollTxn, State.touch_txnState, if_pos hst]
  exact ⟨State.rd_endTxn_state .., State.rd_endTxn_result .., State.rd_endTxn_reason .., State.endTxn_txn ..⟩

/-- Settles O37: BEGIN, staging, COMMIT and ROLLBACK. -/
theorem transactionsOpenAndStage : Obligations.TransactionsOpenAndStage := by
  unfold Obligations.TransactionsOpenAndStage
  refine ⟨?_, ?_, ?_, ?_, ?_, ?_⟩
  · exact fun s => exec_txnBegin_opens
  · exact fun s p v => exec_rwtWrite_stages
  · exact fun s p v => exec_rwtWrite_stray
  · exact fun s hi => exec_bctStage_stages
  · exact fun s => exec_commit_validates
  · exact fun s => exec_rollback_ends

end Sys2Proof.Machine
end

section
/-! PROOFS. The management function: a failed Ring fetch of an index beyond a Ring (10, R302, R332). -/

set_option Elab.async false

namespace Sys2Proof.Machine

/-! ## A Ring fetch of an index beyond every Ring -/

/-- A fetch of entry 65536, which no Ring has, from Ring 0 of Slice 1. -/
def aFarFetch : State := (Tests.aRing Tests.aClocked 1 (Tests.anEntry 0 0 [])).setTag 4 (.outstanding (.ring 1 0 65536 1) 0)

theorem aFarFetch_outstanding : aFarFetch.mgmtUp = true ∧ aFarFetch.tag 4 = .outstanding (.ring 1 0 65536 1) 0 ∧
    aFarFetch.mgmt.readQueue = [] ∧ aFarFetch.ringState 1 0 ≠ rDISABLED ∧ aFarFetch.sliceActive 1 = true ∧
    aFarFetch.mgmt.coresDown = false ∧ (aFarFetch.ringx 1 0).order = [] := by decide +kernel

/-- An event names its entry by 16 bits of the index (R336). -/
theorem aFarFetch_reports : ∃ t, exec (.completionReceived 4 .ur 0 (.bytes [])) aFarFetch = .next t ∧
    t.evq.getLast?.map (fun v => (v.slice, v.type, v.code, v.entry)) = some (1, 1, 6, 0) := ⟨_, rfl, by decide +kernel⟩

/-- Refutes O39: a failed fetch of an index of 65536 completes under entry 0. -/
theorem not_requestsAndCompletions : ¬ Obligations.RequestsAndCompletions := by
  rintro ⟨-, -, -, -, -, -, -, hur, -⟩
  obtain ⟨hup, htag, hqueue, hring, hslice, hcores, horder⟩ := aFarFetch_outstanding
  obtain ⟨t, hexec, -, -, -, -, -, hev⟩ := hur aFarFetch 4 0 0 1 0 65536 1 (.bytes []) hup htag hqueue hring hslice hcores horder
  obtain ⟨u, hexec', hev'⟩ := aFarFetch_reports
  cases hexec.symm.trans hexec'
  exact absurd (hev.symm.trans hev') (by decide)

end Sys2Proof.Machine
end

section
/-! PROOFS. Holds of requests, a Data Link Down on the way to D3cold and an interrupt of a Slice without PASID (10, R290, R296, R303 to R307). -/

set_option Elab.async false

namespace Sys2Proof.Machine

@[simp] theorem State.setTag_mgmt (s : State) (t : Nat) (v : TagState) : (s.setTag t v).mgmt = s.mgmt :=
  (Goes.setTag (Foot.le_refl _) (Goes.refl _ s)).part .mgmt (by decide)
@[simp] theorem State.retireTag_mgmt (s : State) (t : Nat) (quiet : Bool) : (s.retireTag t quiet).mgmt = s.mgmt :=
  (Goes.retireTag (Foot.le_refl _) (Goes.refl _ s)).part .mgmt (by decide)
@[simp] theorem State.dmaFail_tags (s : State) (u : ReadFor) : (s.dmaFail u).tags = s.tags :=
  (Goes.dmaFail (Foot.le_refl _) (Goes.refl _ s)).part .tags (by decide)
@[simp] theorem State.dmaFail_mgmt (s : State) (u : ReadFor) : (s.dmaFail u).mgmt = s.mgmt :=
  (Goes.dmaFail (Foot.le_refl _) (Goes.refl _ s)).part .mgmt (by decide)
@[simp] theorem State.showJob_mgmt (s : State) (k : Nat) (st : Nat) : (s.showJob k st).mgmt = s.mgmt :=
  (Goes.showJob (Foot.le_refl _) (Goes.refl _ s)).part .mgmt (by decide)
@[simp] theorem State.endJob_mgmt (s : State) (j : Job) (code : Nat) : (s.endJob j code).mgmt = s.mgmt :=
  (Goes.endJob (Foot.le_refl _) (Goes.refl _ s)).part .mgmt (by decide)
@[simp] theorem State.showStaged_mgmt (s : State) (k : Nat) : (s.showStaged k).mgmt = s.mgmt :=
  (Goes.showStaged (Foot.le_refl _) (Goes.refl _ s)).part .mgmt (by decide)
/-! ## A Data Link Down on the way to D3cold -/

/-- The link is up and PME_Turn_Off has been answered. -/
def aTurnedOff : State := (Tests.aClocked.on GLB_MGMT_STATUS.LINK_UP).upM (fun m => { m with bme := true, turnedOff := true })

theorem aTurnedOff_up : aTurnedOff.mgmtUp = true ∧ aTurnedOff.bit GLB_MGMT_STATUS.LINK_UP = true := by decide +kernel

/-- Requests are held, and the function keeps its Bus Master Enable (R296, R303). -/
theorem aTurnedOff_goes_down : ∃ t, exec (.dataLinkDown) aTurnedOff = .next t ∧ t.mgmt.bme = true := ⟨_, rfl, by decide +kernel⟩

/-- Refutes O41: a Data Link Down after PME_Turn_Off is the entry to D3cold, and no management reset (R307, R417). -/
theorem not_managementResetsDestroySlices : ¬ Obligations.ManagementResetsDestroySlices := by
  rintro ⟨-, -, hdown, -⟩
  obtain ⟨hup, hlink⟩ := aTurnedOff_up
  obtain ⟨t, hexec, hbme, -⟩ := hdown aTurnedOff hup hlink
  obtain ⟨u, hexec', hbme'⟩ := aTurnedOff_goes_down
  cases hexec.symm.trans hexec'
  exact absurd (hbme.symm.trans hbme') (by decide)

/-! ## A message of a Slice without PASID -/

/-- The message of vector 64, of Slice 1, waits while PASID Enable is 0. -/
def anUnnamedVector : State :=
  (Tests.setAll Tests.aClocked [(SLC_VECTORS.BASE 1, 64), (SLC_VECTORS.COUNT 1, 8)]).upM (fun m =>
    { m with pasid := false, pba := [64], msixEnable := true, msix := m.msix.set 256 4096 })

theorem anUnnamedVector_pending : anUnnamedVector.mgmtUp = true ∧ anUnnamedVector.mgmt.pba = [64] ∧
    anUnnamedVector.mgmt.msixEnable = true ∧ anUnnamedVector.mgmt.functionMask = false ∧ anUnnamedVector.held = false ∧
    anUnnamedVector.msixWord (4 * (64 : Fin 2048)) ≠ 0 := by decide +kernel

theorem anUnnamedVector_waits : ∃ t, exec (.msixUnmask 64) anUnnamedVector = .next t ∧ t.mgmt.pba = [64] := ⟨_, rfl, by decide +kernel⟩

/-- Refutes O42: without PASID Enable the messages of every Slice but S0 wait (R304). -/
theorem not_functionReportsErrors : ¬ Obligations.FunctionReportsErrors := by
  rintro ⟨hunmask, -⟩
  obtain ⟨hup, hpba, hen, hmask, hheld, hword⟩ := anUnnamedVector_pending
  obtain ⟨t, hexec, -, hsent, -⟩ := hunmask anUnnamedVector 64 hup hpba hen hmask hheld hword
  obtain ⟨u, hexec', hwaits⟩ := anUnnamedVector_waits
  cases hexec.symm.trans hexec'
  exact absurd (hsent.symm.trans hwaits) (by decide)

/-! ## What the requests of the device leave of the function's settings -/

/-- What a function of the management function's state does not see: the link state, the messages and the reads that wait. -/
structure Settled {α : Type} (g : Mgmt → α) : Prop where
  inL1 : ∀ m b, g { m with inL1 := b } = g m
  pba : ∀ m l, g { m with pba := l } = g m
  readQueue : ∀ m l, g { m with readQueue := l } = g m

section
variable {α : Type} {g : Mgmt → α} (hg : Settled g)
include hg

theorem State.sendUp_settled (s : State) (o : Out) : g (s.sendUp o).mgmt = g s.mgmt := hg.inL1 _ _

theorem State.sendMsix_settled (s : State) (v : Nat) : g (s.sendMsix v).mgmt = g s.mgmt := by
  unfold State.sendMsix
  split
  · exact s.sendUp_settled hg _
  · exact hg.pba _ _

theorem State.askRead_settled (s : State) (u : ReadFor) : g (s.askRead u).mgmt = g s.mgmt := by
  unfold State.askRead
  dsimp only
  split
  · exact hg.readQueue _ _
  · split
    · exact hg.readQueue _ _
    · rw [State.sendUp_settled hg, State.setTag_mgmt]

theorem State.kickReads_settled (s : State) : g s.kickReads.mgmt = g s.mgmt :=
  List.foldlRecOn (motive := fun t : State => g t.mgmt = g s.mgmt) _ _ (hg.readQueue _ _)
    (fun t ht u _ => (t.askRead_settled hg u).trans ht)

theorem State.fetchRing_settled (s : State) (k i : Nat) : g (s.fetchRing k i).mgmt = g s.mgmt := by
  unfold State.fetchRing
  dsimp only
  split
  · exact s.askRead_settled hg _
  · rfl

theorem State.writeEvent_settled (s : State) (e : Ev) (r : Nat) (b : Bool) : g (s.writeEvent e r b).mgmt = g s.mgmt := by
  unfold State.writeEvent
  dsimp only
  split
  · refine (State.sendMsix_settled hg _ _).trans ?_
    split <;> exact hg.inL1 _ _
  · split <;> exact hg.inL1 _ _

theorem State.flushMsix_settled (s : State) : g s.flushMsix.mgmt = g s.mgmt := by
  unfold State.flushMsix
  refine List.foldlRecOn (motive := fun t : State => g t.mgmt = g s.mgmt) _ _ rfl (fun t ht v _ => ?_)
  split
  · exact (hg.pba _ _).trans ((t.sendUp_settled hg _).trans ht)
  · exact ht

theorem State.flushFor_settled (s : State) (pick : Ev → Bool) : g (s.flushFor pick).mgmt = g s.mgmt := by
  unfold State.flushFor
  dsimp only
  rw [State.each_part (fun t : State => g t.mgmt) _ _ _ (fun t k => congrArg g (t.showStaged_mgmt k))]
  refine List.foldlRecOn (motive := fun t : State => g t.mgmt = g s.mgmt) _ _ rfl (fun t ht e _ => ?_)
  split
  · split
    · exact ht
    · split
      · exact ht
      · exact (t.writeEvent_settled hg _ _ _).trans ht
  · exact ht

theorem State.resume_settled (s : State) (pick : Nat → Bool) : g (s.resume pick).mgmt = g s.mgmt := by
  unfold State.resume
  dsimp only
  rw [State.each_part (fun t : State => g t.mgmt) _ _ _ (fun t k =>
    State.each_part (fun t : State => g t.mgmt) t _ _ (fun u i => u.fetchRing_settled hg k i)), State.kickReads_settled hg,
    State.flushMsix_settled hg, State.flushFor_settled hg]

theorem State.granary_settled (n : Nat) (s : State) (k w pos : Nat) (trace : Bool) (bytes : List Nat) :
    g (State.granary n s k w pos trace bytes).mgmt = g s.mgmt := by
  induction n generalizing s pos bytes with
  | zero => rfl
  | succ n ih =>
    rw [State.granary]
    split
    · rfl
    · exact (ih _ _ _).trans (s.sendUp_settled hg _)

theorem State.writeResults_settled (s : State) (j : Job) : g (s.writeResults j).1.mgmt = g s.mgmt := by
  unfold State.writeResults
  dsimp only
  split
  · rfl
  · split
    · rfl
    · exact State.granary_settled hg ..

theorem State.finishJob_settled (s : State) (k : Nat) (j : Job) : g (s.finishJob k j).mgmt = g s.mgmt := by
  unfold State.finishJob
  dsimp only
  split
  · rw [State.showJob_mgmt]
    rfl
  · split
    · rw [State.showJob_mgmt]
      split <;> rfl
    · rw [State.endJob_mgmt, State.showJob_mgmt]
      exact s.writeResults_settled hg j

theorem State.releaseJobs_settled (s : State) : g s.releaseJobs.mgmt = g s.mgmt := by
  unfold State.releaseJobs
  refine State.each_part (fun t : State => g t.mgmt) s _ _ (fun t k => ?_)
  split
  · split
    · exact t.finishJob_settled hg k _
    · rfl
  · rfl

end

/-- Bus Master Enable and D3hot are such settings. -/
theorem settled_bme : Settled Mgmt.bme := ⟨fun _ _ => rfl, fun _ _ => rfl, fun _ _ => rfl⟩
theorem settled_d3hot : Settled Mgmt.d3hot := ⟨fun _ _ => rfl, fun _ _ => rfl, fun _ _ => rfl⟩
theorem settled_turnedOff : Settled Mgmt.turnedOff := ⟨fun _ _ => rfl, fun _ _ => rfl, fun _ _ => rfl⟩

/-! ## A hold -/

/-- A read voided (R303). -/
def State.voidRead (pick : ReadFor → Bool) (t : State) (e : Nat × TagState) : State :=
  match e.2 with
  | .outstanding u _ =>
    if pick u then
      let t1 := (t.retireTag e.1 true).dmaFail u
      match u with
      | .granules _ _ _ => t1.upM (fun m => { m with readQueue := m.readQueue ++ [u] })
      | _ => t1
    else t
  | _ => t

theorem State.voidReads_eq (s : State) (pick : ReadFor → Bool) : s.voidReads pick = s.tags.entries.foldl (State.voidRead pick) s := rfl

theorem State.voidRead_settled {α : Type} {g : Mgmt → α} (hg : Settled g) (pick : ReadFor → Bool) (t : State) (e : Nat × TagState) :
    g (t.voidRead pick e).mgmt = g t.mgmt := by
  unfold State.voidRead
  dsimp only
  split
  · split
    · split
      · refine (hg.readQueue _ _).trans ?_
        rw [State.dmaFail_mgmt, State.retireTag_mgmt]
      · rw [State.dmaFail_mgmt, State.retireTag_mgmt]
    · rfl
  · rfl

theorem State.voidReads_settled {α : Type} {g : Mgmt → α} (hg : Settled g) (s : State) (pick : ReadFor → Bool) :
    g (s.voidReads pick).mgmt = g s.mgmt :=
  List.foldlRecOn (motive := fun t : State => g t.mgmt = g s.mgmt) _ _ rfl (fun t ht e _ => (t.voidRead_settled hg pick e).trans ht)

/-- The reads that waited, failed. -/
theorem State.dmaFails_keep {α : Type} (f : State → α) (hf : ∀ t u, f (State.dmaFail t u) = f t) (s : State) (q : List ReadFor) :
    f (q.foldl State.dmaFail s) = f s :=
  List.foldlRecOn (motive := fun t : State => f t = f s) _ _ rfl (fun t ht u _ => (hf t u).trans ht)

theorem State.beginHold_settled {α : Type} {g : Mgmt → α} (hg : Settled g) (s : State) : g s.beginHold.mgmt = g s.mgmt :=
  (hg.readQueue _ _).trans ((congrArg g (State.dmaFails_keep State.mgmt State.dmaFail_mgmt _ _)).trans (State.voidReads_settled hg _ _))

theorem mem_of_mem_dropKey {α : Type} {k : Nat} {l : List (Nat × α)} {x : Nat × α} (h : x ∈ dropKey k l) : x ∈ l ∧ x.1 ≠ k :=
  ⟨(dropKey_sublist k l).subset h, fun hk => not_mem_dropKey k l (List.mem_map.2 ⟨x, h, hk⟩)⟩

theorem mem_of_mem_insertKey {α : Type} {k : Nat} {v : α} {l : List (Nat × α)} {x : Nat × α} (h : x ∈ insertKey k v l) :
    x = (k, v) ∨ x ∈ l := by
  induction l with
  | nil => exact .inl (List.mem_singleton.1 h)
  | cons e es ih =>
    rw [insertKey] at h
    split at h
    · exact List.mem_cons.1 h
    · rcases List.mem_cons.1 h with rfl | h
      · exact .inr (List.mem_cons_self ..)
      · exact (ih h).imp_right (List.mem_cons_of_mem _)

/-- A read voided is outstanding no more, and no other has become so. -/
theorem State.voidRead_tags {l : List (Nat × TagState)} {e : Nat × TagState} {t : State}
    (h : ∀ x ∈ t.tags.entries, x.2.isOut = true → x ∈ e :: l) :
    ∀ x ∈ (t.voidRead (fun _ => true) e).tags.entries, x.2.isOut = true → x ∈ l := by
  obtain ⟨key, v⟩ := e
  cases v with
  | outstanding u since =>
    have htags : (t.voidRead (fun _ => true) (key, .outstanding u since)).tags =
        t.tags.set key (.retired (t.elapsed + 4 * t.ctoNow) true) := by
      unfold State.voidRead
      dsimp only
      rw [if_pos rfl]
      split <;> exact State.dmaFail_tags ..
    intro x hx hout
    rw [htags] at hx
    rcases mem_of_mem_insertKey hx with rfl | hx
    · exact absurd hout Bool.false_ne_true
    · obtain ⟨hx, hkey⟩ := mem_of_mem_dropKey hx
      rcases List.mem_cons.1 (h x hx hout) with rfl | hx
      · exact absurd rfl hkey
      · exact hx
  | free =>
    intro x hx hout
    rcases List.mem_cons.1 (h x hx hout) with rfl | hx
    · exact absurd hout Bool.false_ne_true
    · exact hx
  | retired a b =>
    intro x hx hout
    rcases List.mem_cons.1 (h x hx hout) with rfl | hx
    · exact absurd hout Bool.false_ne_true
    · exact hx

theorem State.voidReads_tags (s : State) : (s.voidReads (fun _ => true)).tags.entries.all (fun e => !e.2.isOut) = true := by
  have h : ∀ (l : List (Nat × TagState)) (t : State), (∀ x ∈ t.tags.entries, x.2.isOut = true → x ∈ l) →
      ∀ x ∈ (l.foldl (State.voidRead (fun _ => true)) t).tags.entries, x.2.isOut = true → x ∈ ([] : List (Nat × TagState)) := by
    intro l
    induction l with
    | nil => exact fun t ht => ht
    | cons e l ih => exact fun t ht => ih _ (State.voidRead_tags ht)
  refine List.all_eq_true.2 (fun x hx => ?_)
  cases hout : x.2.isOut with
  | false => rfl
  | true => exact absurd (h _ s (fun _ hx _ => hx) x hx hout) List.not_mem_nil

theorem State.beginHold_tags (s : State) : s.beginHold.tags.entries.all (fun e => !e.2.isOut) = true := by
  have h : s.beginHold.tags = ((s.on GLB_MGMT_STATUS.DMA_HELD).voidReads (fun _ => true)).tags :=
    State.dmaFails_keep State.tags State.dmaFail_tags _ _
  rw [h]
  exact State.voidReads_tags _

theorem State.rd_beginHold_held (s : State) : s.beginHold.rd GLB_MGMT_STATUS.DMA_HELD = 1 := by
  refine (State.dmaFails_keep (fun t : State => t.rd GLB_MGMT_STATUS.DMA_HELD) (fun t u => t.rd_dmaFail _ u
    (by rw [fieldName_GLB_MGMT_STATUS_DMA_HELD]; decide)) _ _).trans ?_
  rw [State.rd_voidReads _ _ _ (by rw [fieldName_GLB_MGMT_STATUS_DMA_HELD]; decide), State.rd_on_same]
  rfl

theorem State.checkHold_begins {s : State} (hmust : s.mustHold = true) (hheld : s.held = false) : s.checkHold = s.beginHold :=
  if_pos ⟨hmust, by simp [hheld]⟩

/-- Requests are held wherever they must be. -/
theorem State.rd_checkHold_held {s : State} (hmust : s.mustHold = true) : s.checkHold.rd GLB_MGMT_STATUS.DMA_HELD = 1 := by
  cases hheld : s.held with
  | false => rw [State.checkHold_begins hmust hheld, State.rd_beginHold_held]
  | true =>
    rw [State.checkHold, if_neg (by simp [hheld])]
    exact eq_of_beq hheld

theorem State.mustHold_linkDown {s : State} (h : s.rd GLB_MGMT_STATUS.LINK_UP = 0) : s.mustHold = true := by
  simp [State.mustHold, State.bit, h]

/-- What remains of a hold that ends. -/
theorem State.endHold_ends {s : State} (hmust : s.mustHold = false) (hheld : s.held = true) :
    s.endHold.rd GLB_MGMT_STATUS.DMA_HELD = 0 := by
  rw [State.endHold, if_pos ⟨by simp [hmust], hheld⟩, State.rd_resume _ _ _ (by rw [fieldName_GLB_MGMT_STATUS_DMA_HELD]; decide),
    State.rd_off_same]

theorem State.endHold_settled {α : Type} {g : Mgmt → α} (hg : Settled g) (s : State) : g s.endHold.mgmt = g s.mgmt := by
  unfold State.endHold
  split
  · exact State.resume_settled hg _ _
  · rfl

theorem State.endHold_open {s : State} (hheld : s.held = false) : s.endHold = s := if_neg (by simp [hheld])

/-! ## HOLD_START, HOLD_END (R303, R305, R307) -/

theorem State.configAsk_up {s : State} (hup : s.mgmtUp = true) (act : State → State) : s.configAsk act = act s := if_pos hup

theorem State.mgmtUp_perst {s : State} (hup : s.mgmtUp = true) : s.mgmt.perst = false := by
  have h := (Bool.and_eq_true _ _ ▸ hup).1
  simpa using h

theorem exec_holdStart_bme {s : State} (hup : s.mgmtUp = true) (hheld : s.held = false) : ∃ t, exec (.holdStart .bme) s = .next t ∧
    t.mgmt.bme = false ∧ t.rd GLB_MGMT_STATUS.DMA_HELD = 1 ∧ t.tags.entries.all (fun e => !e.2.isOut) = true := by
  refine ⟨_, congrArg Host.Outcome.next ((State.configAsk_up hup _).trans (State.checkHold_begins rfl hheld)), ?_⟩
  exact ⟨State.beginHold_settled settled_bme _, State.rd_beginHold_held _, State.beginHold_tags _⟩

theorem State.rd_linkDown_link (s : State) : s.linkDown.rd GLB_MGMT_STATUS.LINK_UP = 0 := by
  unfold State.linkDown
  simp +decide

theorem State.rd_mgmtReset_held (s : State) (b : Bool) : (s.mgmtReset b).rd GLB_MGMT_STATUS.DMA_HELD = 1 := by
  simp +decide [State.mgmtReset, State.rd_beginHold_held]

theorem State.rd_mgmtReset_link (s : State) (b : Bool) : (s.mgmtReset b).rd GLB_MGMT_STATUS.LINK_UP = s.rd GLB_MGMT_STATUS.LINK_UP :=
  s.rd_mgmtReset _ b (by rw [fieldName_GLB_MGMT_STATUS_LINK_UP]; decide)

theorem exec_holdStart_link {s : State} (r : Fin 8) (w : Fin 4) (f : Bool) (hup : s.mgmtUp = true) :
    ∃ t, exec (.holdStart (.link r w f)) s = .next t ∧ t.rd GLB_MGMT_STATUS.LINK_UP = 0 ∧ t.rd GLB_MGMT_STATUS.DMA_HELD = 1 := by
  have hkeep : ∀ t : State, t.checkHold.rd GLB_MGMT_STATUS.LINK_UP = t.rd GLB_MGMT_STATUS.LINK_UP :=
    fun t => t.rd_checkHold _ (by rw [fieldName_GLB_MGMT_STATUS_LINK_UP]; decide)
  by_cases hlink : s.rd GLB_MGMT_STATUS.LINK_UP = 0
  · exact ⟨_, (next_neg (by simp [hup])).trans (next_pos hlink), (hkeep s).trans hlink, State.rd_checkHold_held (State.mustHold_linkDown hlink)⟩
  · refine ⟨_, (next_neg (by simp [hup])).trans (next_neg hlink), ?_⟩
    unfold State.linkLost
    split
    · exact ⟨(hkeep _).trans s.rd_linkDown_link, State.rd_checkHold_held (State.mustHold_linkDown s.rd_linkDown_link)⟩
    · exact ⟨(State.rd_mgmtReset_link _ _).trans s.rd_linkDown_link, State.rd_mgmtReset_held _ _⟩

theorem State.rd_releaseJobs_held (s : State) : s.releaseJobs.rd GLB_MGMT_STATUS.DMA_HELD = s.rd GLB_MGMT_STATUS.DMA_HELD :=
  s.rd_releaseJobs _ (by rw [fieldName_GLB_MGMT_STATUS_DMA_HELD]; decide)

theorem State.mustHold_upM (s : State) (f : Mgmt → Mgmt) (hbme : (f s.mgmt).bme = true) (hd3 : (f s.mgmt).d3hot = false)
    (hperst : (f s.mgmt).perst = false) (hlink : s.bit GLB_MGMT_STATUS.LINK_UP = true) : (s.upM f).mustHold = false := by
  change (!(f s.mgmt).bme || (f s.mgmt).d3hot || (f s.mgmt).perst || !s.bit GLB_MGMT_STATUS.LINK_UP) = false
  rw [hbme, hd3, hperst, hlink]
  rfl

theorem exec_holdEnd_bme {s : State} (hup : s.mgmtUp = true) (hd3 : s.mgmt.d3hot = false) (hlink : s.bit GLB_MGMT_STATUS.LINK_UP = true)
    (hheld : s.held = true) : ∃ t, exec (.holdEnd .bme) s = .next t ∧ t.mgmt.bme = true ∧ t.rd GLB_MGMT_STATUS.DMA_HELD = 0 :=
  ⟨_, congrArg Host.Outcome.next (State.configAsk_up hup _),
    (State.releaseJobs_settled settled_bme _).trans (State.endHold_settled settled_bme _),
    (State.rd_releaseJobs_held _).trans (State.endHold_ends (s.mustHold_upM _ rfl hd3 (State.mgmtUp_perst hup) hlink) hheld)⟩

theorem exec_d0Return_ends {s : State} (hup : s.mgmtUp = true) (hbme : s.mgmt.bme = true) (hlink : s.bit GLB_MGMT_STATUS.LINK_UP = true)
    (hheld : s.held = true) : ∃ t, exec (.d0Return) s = .next t ∧ t.mgmt.d3hot = false ∧ t.rd GLB_MGMT_STATUS.DMA_HELD = 0 :=
  ⟨_, congrArg Host.Outcome.next (State.configAsk_up hup _),
    (State.releaseJobs_settled settled_d3hot _).trans (State.endHold_settled settled_d3hot _),
    (State.rd_releaseJobs_held _).trans (State.endHold_ends (s.mustHold_upM _ hbme rfl (State.mgmtUp_perst hup) hlink) hheld)⟩

/-- The link up at a rate and a width. -/
def State.linkAt (s : State) (r : Fin 8) (w : Fin 4) (f : Bool) : State :=
  ((((s.upM (fun m => { m with turnedOff := false })).on GLB_MGMT_STATUS.LINK_UP).wr GLB_MGMT_STATUS.LINK_RATE r).wr
    GLB_MGMT_STATUS.LINK_WIDTH w).put GLB_MGMT_STATUS.FLIT (f || r == 6)

theorem State.rd_linkAt (s : State) (r : Fin 8) (w : Fin 4) (f : Bool) : (s.linkAt r w f).rd GLB_MGMT_STATUS.LINK_UP = 1 ∧
    (s.linkAt r w f).rd GLB_MGMT_STATUS.LINK_RATE = r ∧ (s.linkAt r w f).rd GLB_MGMT_STATUS.LINK_WIDTH = w ∧
    (s.linkAt r w f).rd GLB_MGMT_STATUS.DMA_HELD = s.rd GLB_MGMT_STATUS.DMA_HELD := by
  unfold State.linkAt
  simp +decide

theorem State.endHold_release_rd (s : State) (c : Cell) (he : fp_endHold.misses (fieldName c.key) = true)
    (hr : fp_releaseJobs.misses (fieldName c.key) = true) : s.endHold.releaseJobs.rd c = s.rd c :=
  (State.rd_releaseJobs _ _ hr).trans (State.rd_endHold _ _ he)

theorem exec_holdEnd_link {s : State} (r : Fin 8) (w : Fin 4) (f : Bool) (hup : s.mgmtUp = true) (hd3 : s.mgmt.d3hot = false)
    (hbme : s.mgmt.bme = true) : ∃ t, exec (.holdEnd (.link r w f)) s = .next t ∧ t.rd GLB_MGMT_STATUS.LINK_UP = 1 ∧
      t.rd GLB_MGMT_STATUS.LINK_RATE = r ∧ t.rd GLB_MGMT_STATUS.LINK_WIDTH = w ∧
      (t.rd GLB_MGMT_STATUS.DMA_HELD = 0 ∨ s.held = false) := by
  obtain ⟨hlink, hrate, hwidth, hdma⟩ := s.rd_linkAt r w f
  refine ⟨(s.linkAt r w f).endHold.releaseJobs, next_neg (by simp [hup]), ?_, ?_, ?_, ?_⟩
  · exact (State.endHold_release_rd _ _ (by rw [fieldName_GLB_MGMT_STATUS_LINK_UP]; decide)
      (by rw [fieldName_GLB_MGMT_STATUS_LINK_UP]; decide)).trans hlink
  · exact (State.endHold_release_rd _ _ (by rw [fieldName_GLB_MGMT_STATUS_LINK_RATE]; decide)
      (by rw [fieldName_GLB_MGMT_STATUS_LINK_RATE]; decide)).trans hrate
  · exact (State.endHold_release_rd _ _ (by rw [fieldName_GLB_MGMT_STATUS_LINK_WIDTH]; decide)
      (by rw [fieldName_GLB_MGMT_STATUS_LINK_WIDTH]; decide)).trans hwidth
  · cases hheld : s.held with
    | false => exact .inr rfl
    | true =>
      have hmust : (s.linkAt r w f).mustHold = false := by
        change (!s.mgmt.bme || s.mgmt.d3hot || s.mgmt.perst || !(s.linkAt r w f).bit GLB_MGMT_STATUS.LINK_UP) = false
        rw [hbme, hd3, State.mgmtUp_perst hup, State.bit, hlink]
        rfl
      have hheld' : (s.linkAt r w f).held = true := (congrArg (· == 1) hdma).trans hheld
      exact .inl ((State.rd_releaseJobs_held _).trans (State.endHold_ends hmust hheld'))

theorem exec_d3hotEntry_holds {s : State} (hup : s.mgmtUp = true) (hheld : s.held = false) : ∃ t, exec (.d3hotEntry) s = .next t ∧
    t.mgmt.d3hot = true ∧ t.rd GLB_MGMT_STATUS.DMA_HELD = 1 := by
  have hmust : (s.upM (fun m => { m with d3hot := true })).mustHold = true := by
    change (!s.mgmt.bme || true || s.mgmt.perst || !s.bit GLB_MGMT_STATUS.LINK_UP) = true
    simp
  exact ⟨_, congrArg Host.Outcome.next ((State.configAsk_up hup _).trans (congrArg State.deviceQuiet (State.checkHold_begins hmust hheld))),
    State.beginHold_settled settled_d3hot _, State.rd_beginHold_held _⟩

theorem exec_pmeTurnOff_acks {s : State} (hup : s.mgmtUp = true) (hlink : s.bit GLB_MGMT_STATUS.LINK_UP = true) :
    ∃ t, exec (.pmeTurnOff) s = .next t ∧ t.outbox.head? = some .pmeToAck ∧ t.mgmt.turnedOff = true ∧
      t.tags.entries.all (fun e => !e.2.isOut) = true :=
  ⟨_, next_pos ⟨hup, hlink⟩, rfl, rfl, s.voidReads_tags⟩

/-- Settles O40, clause by clause: a hold voids every read, ends where no condition of R303 is left, and nothing that follows it
touches the function's settings. -/
theorem holdsBeginAndEnd : Obligations.HoldsBeginAndEnd := by
  refine ⟨fun s => exec_holdStart_bme, fun s r w f => exec_holdStart_link r w f, fun s => exec_holdEnd_bme,
    fun s r w f => exec_holdEnd_link r w f, fun s => exec_d3hotEntry_holds, fun s => exec_d0Return_ends, fun s => exec_pmeTurnOff_acks, ?_, ?_⟩
  · exact fun s hup hl1 hlink => next_pos ⟨hup, hl1, hlink⟩
  · exact fun s hup => next_pos hup

end Sys2Proof.Machine
end

section
/-! PROOFS. Slices and Rings: their resources and their visibility, and what a reset, an enabled Ring and a Ring taken from before make of events and jobs (11, R227, R313 to R319, R328, R335 to R341). -/

set_option Elab.async false

namespace Sys2Proof.Machine

/-! ## A completion that a Ring of one Slice holds for another -/

/-- Slice 0 is ACTIVE. A finished job of Slice 1 still holds its engine, and the completion after its own on its Ring is one for Slice 0. -/
def aForeignCompletion : State :=
  (((Tests.aRing Tests.aTrace 1 []).upE 0 (fun e => { e with slot := some Tests.aJob })).wr (ENG_STATUS.JOB_STATE 0) 4).upR 1 0 (fun r =>
    { r with order := [(0, none), (1, some { slice := 0, ring := none, type := 1, cls := 0, code := 0, source := 0, time := 0 })] })

theorem aForeignCompletion_active : aForeignCompletion.hosted = true ∧ aForeignCompletion.powerState ≠ 1 ∧
    aForeignCompletion.sliceState (0 : SliceId) = slACTIVE := by decide +kernel

/-- The job ends with the reset, and both completions are due. -/
theorem aForeignCompletion_posts : ∃ t, exec (.sliceReset 0) aForeignCompletion = .next t ∧
    t.evq.all (fun e => e.slice != (0 : SliceId).val) = false := ⟨_, rfl, by decide +kernel⟩

/-- Refutes O43: the jobs that wait for room are released after the events of the Slice are dropped, and a completion that follows them on
their Ring is due whatever Slice it names. -/
theorem not_slicesAreCreatedAndDestroyed : ¬ Obligations.SlicesAreCreatedAndDestroyed := by
  rintro ⟨-, -, hreset, -⟩
  obtain ⟨hhost, hpower, hactive⟩ := aForeignCompletion_active
  obtain ⟨t, hexec, -, -, -, hev, -⟩ := hreset aForeignCompletion 0 hhost hpower hactive
  obtain ⟨u, hexec', hev'⟩ := aForeignCompletion_posts
  cases hexec.symm.trans hexec'
  exact absurd (hev.symm.trans hev') (by decide)

/-! ## An event that waits for a Ring to be enabled -/

/-- Ring 3 of Slice 1 is disabled, and an event staged for Slice 1 names it. -/
def aWaitingEvent : State :=
  Tests.aTrace.setStaged [{ slice := 1, ring := some 3, type := 1, cls := 0, code := 0, source := 0, time := 0, state := some [0, 0, 0, 0, 0] }]

theorem aWaitingEvent_disabled : aWaitingEvent.hosted = true ∧ aWaitingEvent.ringHere (1 : SliceId) (3 : RingId) = true ∧
    aWaitingEvent.ringState (1 : SliceId) (3 : RingId) = rDISABLED := by decide +kernel

theorem aWaitingEvent_written : ∃ t, exec (.ringEnable 1 3 0x20500000) aWaitingEvent = .next t ∧
    t.rd (RNG_POS.TAIL (1 : SliceId) (3 : RingId)) = 1 := ⟨_, rfl, by decide +kernel⟩

/-- Refutes O45: an event that waited for the Ring is written to it when it is enabled, and its TAIL moves on (R335, R336). -/
theorem not_ringsAreKept : ¬ Obligations.RingsAreKept := by
  rintro ⟨henable, -⟩
  obtain ⟨hhost, hhere, hdis⟩ := aWaitingEvent_disabled
  obtain ⟨t, hexec, -, -, -, -, -, htail⟩ := henable aWaitingEvent 1 3 0x20500000 hhost hhere hdis
  obtain ⟨u, hexec', htail'⟩ := aWaitingEvent_written
  cases hexec.symm.trans hexec'
  exact absurd (htail.symm.trans htail') (by decide)

/-! ## A job from a Ring that commands were taken from before -/

/-- The entry of a MARGIN job of receiver 0. -/
def aMarginEntry : List Byte := Tests.anEntry 1 0 [1, 0, 0, 0, 0, 0, 8]

/-- One command has been taken from Ring 0 of Slice 1, and the next submits a job. -/
def aSecondCommand : State :=
  ((Tests.aRing Tests.aTrace 1 aMarginEntry).wr (ENG_PERMIT.MARGIN_SAMPLER 1) 1).upR 1 0 (fun r => { r with serial := 1 })

theorem aSecondCommand_front : aSecondCommand.front (1 : SliceId) (0 : RingId) 3 aMarginEntry 1 ∧ aSecondCommand.jobCount (1 : SliceId) < 64 ∧
    aSecondCommand.parseJob (1 : SliceId) (0 : RingId) 3 aMarginEntry = some Tests.aMarginJob ∧
    aSecondCommand.refuseJob Tests.aMarginJob = none := by decide +kernel

/-- The command is told by its index and the count of those taken. -/
theorem aSecondCommand_queued : ∃ t, exec (.jobSubmit 1 0) aSecondCommand = .next t ∧
    (t.engine (engineOf Tests.aMarginJob.half)).queue.map Job.entry = [65539] := ⟨_, rfl, by decide +kernel⟩

theorem aSecondCommand_engine : (aSecondCommand.engine (engineOf Tests.aMarginJob.half)).queue = [] := by decide +kernel

/-- Refutes O46: a job names its command by more than the index of its entry once the Ring has had another taken, so the job queued is not
the one that the index alone gives. -/
theorem not_ringCommandsComplete : ¬ Obligations.RingCommandsComplete := by
  rintro ⟨-, -, -, -, -, -, -, -, -, -, -, hsubmit, -⟩
  obtain ⟨hfront, hcount, hparse, htakes⟩ := aSecondCommand_front
  obtain ⟨t, hexec, hqueue, -⟩ := hsubmit aSecondCommand 1 0 3 aMarginEntry Tests.aMarginJob hfront hcount hparse htakes
  obtain ⟨u, hexec', hentries⟩ := aSecondCommand_queued
  cases hexec.symm.trans hexec'
  rw [hqueue, aSecondCommand_engine] at hentries
  exact absurd hentries (by decide)

/-! ## SHARE_WRITE (R313, R338, R339) -/

theorem State.hostWrite_hosted {s : State} (hh : s.hosted = true) (act : State → State) : s.hostWrite act = act s := if_pos hh

/-- The rest of a share write: SHARE_CHANGED follows where a count is another one than before. -/
def State.tellShare (s t : State) (k : Nat) (c : Cell) : State := if t.rd c = s.rd c then t else t.shareChanged k

theorem State.rd_tellShare (s t : State) (k : Nat) (c d : Cell) : (s.tellShare t k c).rd d = t.rd d := by
  unfold State.tellShare
  split
  · rfl
  · exact t.rd_shareChanged d k rfl

theorem State.tellShare_slicex (s t : State) (k : Nat) (c : Cell) (j : Nat) : (s.tellShare t k c).slicex j = t.slicex j := by
  unfold State.tellShare
  split
  · rfl
  · exact t.shareChanged_slicex k j

theorem exec_shareWrite_hosted {s : State} (hh : s.hosted = true) (k : SliceId) (reg : ShareReg) (value : Nat) :
    exec (.shareWrite k reg value) s = .next (s.shareWrite k reg value) := congrArg Host.Outcome.next (State.hostWrite_hosted hh _)

section
variable {s : State} {k : Nat} (hk : s.sliceState k = slACTIVE)
include hk

theorem State.shareWrite_rings (value : Nat) : s.shareWrite k .rings value =
    s.tellShare (s.wr (SLC_RINGS.COUNT k) (clampNat (s.leastRings k) (s.maxRings k) (bitsOf value 0 11))) k (SLC_RINGS.COUNT k) :=
  (if_neg (by rw [hk]; decide)).trans (if_neg (by simp [hk]))

theorem State.shareWrite_vectors (value : Nat) : s.shareWrite k .vectors value =
    s.tellShare (s.wr (SLC_VECTORS.COUNT k) (clampNat (s.leastVectors k) (s.maxVectors k) (bitsOf value 0 12))) k (SLC_VECTORS.COUNT k) :=
  (if_neg (by rw [hk]; decide)).trans (if_neg (by simp [hk]))

theorem State.shareWrite_share (value : Nat) : s.shareWrite k .share value =
    s.tellShare ((s.wr (SLC_SHARE.TOKENS k) (min (bitsOf value 18 10) (s.maxTokens k))).wr (SLC_SHARE.GRANULES k)
      (clampNat (s.granulesHeld k) (s.maxGranules k) (bitsOf value 0 17))) k (SLC_SHARE.GRANULES k) :=
  (if_neg (by rw [hk]; decide)).trans (if_neg (by simp [hk]))

end

theorem exec_shareWrite_rings {s : State} (k : SliceId) (value : Nat) (hh : s.hosted = true) (hk : s.sliceState k = slACTIVE) :
    ∃ t, exec (.shareWrite k .rings value) s = .next t ∧
      t.rd (SLC_RINGS.COUNT k) = clampNat (s.leastRings k) (s.maxRings k) (bitsOf value 0 11) % 2 ^ 11 ∧
      t.rd (SLC_RINGS.BASE k) = s.rd (SLC_RINGS.BASE k) := by
  refine ⟨_, exec_shareWrite_hosted hh k _ value, ?_, ?_⟩ <;> rw [State.shareWrite_rings hk, State.rd_tellShare]
  · exact State.rd_wr_same ..
  · exact State.rd_wr_ne _ _ _ _ (by simp [Cell.key, SLC_RINGS.BASE, SLC_RINGS.COUNT])

theorem exec_shareWrite_vectors {s : State} (k : SliceId) (value : Nat) (hh : s.hosted = true) (hk : s.sliceState k = slACTIVE) :
    ∃ t, exec (.shareWrite k .vectors value) s = .next t ∧
      t.rd (SLC_VECTORS.COUNT k) = clampNat (s.leastVectors k) (s.maxVectors k) (bitsOf value 0 12) % 2 ^ 12 := by
  refine ⟨_, exec_shareWrite_hosted hh k _ value, ?_⟩
  rw [State.shareWrite_vectors hk, State.rd_tellShare]
  exact State.rd_wr_same ..

theorem exec_shareWrite_share {s : State} (k : SliceId) (value : Nat) (hh : s.hosted = true) (hk : s.sliceState k = slACTIVE) :
    ∃ t, exec (.shareWrite k .share value) s = .next t ∧ t.rd (SLC_SHARE.TOKENS k) = min (bitsOf value 18 10) (s.maxTokens k) % 2 ^ 10 ∧
      t.rd (SLC_SHARE.GRANULES k) = clampNat (s.granulesHeld k) (s.maxGranules k) (bitsOf value 0 17) % 2 ^ 17 ∧ t.slicex k = s.slicex k := by
  refine ⟨_, exec_shareWrite_hosted hh k _ value, ?_, ?_, ?_⟩ <;> rw [State.shareWrite_share hk]
  · rw [State.rd_tellShare, State.rd_wr_ne _ _ _ _ (by simp [Cell.key, SLC_SHARE.GRANULES, SLC_SHARE.TOKENS])]
    exact State.rd_wr_same ..
  · rw [State.rd_tellShare]
    exact State.rd_wr_same ..
  · simp [State.tellShare_slicex]

/-! ## VISIBILITY_REMOVE and PASID_ENABLE_CHANGE (R284, R319, R340) -/

theorem State.rd_setVisible_ports (s : State) (k hi value : Nat) (c : Cell) (hc : fieldName c.key = 0x600280) :
    (s.setVisible k hi value).rd c = (s.wr (SLC_PORTS.PORTS k hi) value).rd c := by
  unfold State.setVisible
  dsimp only
  rw [State.rd_releaseOwned _ _ _ _ (by rw [hc]; decide), State.rd_stopRunning _ _ _ _ (by rw [hc]; decide),
    State.rd_endQueued _ _ _ _ (by rw [hc]; decide)]

theorem exec_visibilityRemove_sets {s : State} (k : SliceId) (hi : Bool) (value : Nat) (hh : s.hosted = true) :
    ∃ t, exec (.visibilityRemove k hi value) s = .next t ∧ t.rd (SLC_PORTS.PORTS k (ofBool hi)) = value % 2 ^ 32 ∧
      t.rd (SLC_PORTS.PORTS k (ofBool (!hi))) = s.rd (SLC_PORTS.PORTS k (ofBool (!hi))) := by
  refine ⟨_, congrArg Host.Outcome.next (State.hostWrite_hosted hh _), ?_, ?_⟩
  · rw [State.rd_setVisible_ports _ _ _ _ _ (fieldName_SLC_PORTS_PORTS ..)]
    exact State.rd_wr_same ..
  · rw [State.rd_setVisible_ports _ _ _ _ _ (fieldName_SLC_PORTS_PORTS ..)]
    refine State.rd_wr_ne _ _ _ _ ?_
    cases hi <;> simp [Cell.key, SLC_PORTS.PORTS, SLC_PORTS.off, ofBool]

theorem settled_pasid : Settled Mgmt.pasid := ⟨fun _ _ => rfl, fun _ _ => rfl, fun _ _ => rfl⟩

theorem State.setPasid_pasid (s : State) (v : Bool) : (s.setPasid v).mgmt.pasid = v := by
  unfold State.setPasid
  dsimp only
  split
  · split
    · rfl
    · exact (State.releaseJobs_settled settled_pasid _).trans (State.resume_settled settled_pasid _ _)
  · split
    · exact State.voidReads_settled settled_pasid _ _
    · rfl

/-- Settles O44, clause by clause: a count written is held to its range, one half of a visibility set leaves the other alone, and nothing
that a change of PASID Enable sets off changes it again. -/
theorem sharesAndVisibilityChange : Obligations.SharesAndVisibilityChange :=
  ⟨fun _ k v => exec_shareWrite_rings k v, fun _ k v => exec_shareWrite_vectors k v, fun _ k v => exec_shareWrite_share k v,
    fun _ k hi v => exec_visibilityRemove_sets k hi v,
    fun _ v hup => ⟨_, congrArg Host.Outcome.next (State.configAsk_up hup _), State.setPasid_pasid _ v⟩⟩

end Sys2Proof.Machine
end

section
/-! PROOFS. TIME frames that wait, windows beyond their granules, REFCLK in OFF and the count of sideband messages: statements that states outside their premises refute (12; 13, R391; 16, R459). -/

set_option Elab.async false

namespace Sys2Proof.Machine

/-! ## A TIME frame that still waits -/

/-- The TIME frame before has not left Port 0's B-side yet. -/
def aWaitingFrame : State := Tests.aSeg.upS 1 (fun x => { x with timeDue := some [] })

theorem aWaitingFrame_due : aWaitingFrame.timeFrames (1 : SideId) = true ∧ aWaitingFrame.bit TIM_CTRL.TIME_FRAMES_OFF = false ∧
    256 * (aWaitingFrame.timeSide (1 : SideId)).due ≤ (aWaitingFrame.seg (1 : SideId)).rows := by decide +kernel

/-- No other falls due while it waits (R147). -/
theorem aWaitingFrame_waits : ∃ t, exec (.timeFrameSend 1 77) aWaitingFrame = .next t ∧ (t.timeSide (1 : SideId)).next = 0 :=
  ⟨_, rfl, by decide +kernel⟩

theorem aWaitingFrame_next : (aWaitingFrame.timeSide (1 : SideId)).next = 0 := by decide +kernel

/-- Refutes O47: while a TIME frame waits on a side no other takes a Sequence there. -/
theorem not_timeFramesCarryTheTime : ¬ Obligations.TimeFramesCarryTheTime := by
  rintro ⟨hsend, -⟩
  obtain ⟨hframes, hoff, hrows⟩ := aWaitingFrame_due
  obtain ⟨t, hexec, -, hnext, -⟩ := hsend aWaitingFrame 1 77 hframes hoff hrows
  obtain ⟨u, hexec', hnext'⟩ := aWaitingFrame_waits
  cases hexec.symm.trans hexec'
  rw [aWaitingFrame_next, hnext'] at hnext
  exact absurd hnext (by decide)

/-! ## A window of more granules than its position counts -/

/-- A trace record of one unit. -/
def aRecord : TraceRec := ⟨1, 0, 0, 1, 99, 0, [], none⟩

/-- Window 2 of Slice 1 shows 131073 granules, and its position is the last that POS can show. -/
def aHugeWindow : State :=
  (Tests.aTrace.setRegs ((Tests.aTrace.regs.set (TRC_WIN_STATUS.GRANULES 1 2).key 131073).set (TRC_WIN_POS.POS 1 2).key 4294967295)).upT 0
    (fun x => { x with buffer := [(1, 2, aRecord)] })

theorem aHugeWindow_takes : aHugeWindow.mgmt.inL1 = false ∧ aHugeWindow.traceTurn = true ∧
    aHugeWindow.shareOf (aHugeWindow.tile (0 : TileId)).carried + 64 * aRecord.units64 ≤ 60000 ∧
    aHugeWindow.shareOf aHugeWindow.tim.dma + 64 * aRecord.units64 ≤ 240000 ∧ (aHugeWindow.tile (0 : TileId)).buffer = [(1, 2, aRecord)] ∧
    aHugeWindow.takesRecords 1 2 = true ∧ aHugeWindow.rd (TRC_WIN_STATUS.STATE 1 2) = 2 ∧ aHugeWindow.sliceHeld 1 = false ∧
    aHugeWindow.rd (TRC_WIN_STATUS.MODE 1 2) = 1 ∧ (aHugeWindow.window 1 2).dropped = 0 ∧ aRecord.type = 1 ∧
    0 < aHugeWindow.windowSize 1 2 ∧ aHugeWindow.rd (TRC_WIN_POS.POS 1 2) % 32768 + aRecord.units64 ≤ 32768 ∧
    aHugeWindow.rd (TRC_WIN_POS.POS 1 2) < aHugeWindow.windowSize 1 2 ∧
    (aRecord.bytes (aHugeWindow.window 1 2).written).length ≤ 128 * 2 ^ aHugeWindow.mgmt.mps ∧
    64 * aHugeWindow.rd (TRC_WIN_POS.POS 1 2) % 4096 + (aRecord.bytes (aHugeWindow.window 1 2).written).length ≤ 4096 ∧
    aHugeWindow.awake = true := by decide +kernel

theorem aHugeWindow_position : (aHugeWindow.rd (TRC_WIN_POS.POS 1 2) + aRecord.units64) % aHugeWindow.windowSize 1 2 = 4294967296 := by
  decide +kernel

/-- POS has 32 bits. -/
theorem aHugeWindow_wraps : ∃ t, exec (.traceDmaWrite 0) aHugeWindow = .next t ∧ t.rd (TRC_WIN_POS.POS 1 2) = 0 := ⟨_, rfl, by decide +kernel⟩

/-- Refutes O49: a position of 2^32 units of a window is shown as 0. -/
theorem not_winnowRecordsItems : ¬ Obligations.WinnowRecordsItems := by
  rintro ⟨-, -, hwrite, -⟩
  obtain ⟨hl1, hturn, hplane, hdma, hbuf, htakes, hopen, hheld, hmode, hdrop, htype, hsize, hfit, hpos, hlen, hpage, hawake⟩ := aHugeWindow_takes
  obtain ⟨t, hexec, hnew, -⟩ := hwrite aHugeWindow 0 1 2 aRecord hl1 hturn hplane hdma hbuf htakes hopen hheld hmode hdrop htype hsize hfit
    hpos hlen hpage hawake
  obtain ⟨u, hexec', hzero⟩ := aHugeWindow_wraps
  cases hexec.symm.trans hexec'
  exact absurd ((hzero.symm.trans hnew).trans aHugeWindow_position) (by decide)

/-! ## A window opened by a Ring that commands were taken from before -/

/-- The entry of a WINDOW_OPEN of window 3 with one granule. -/
def anOpenEntry : List Byte := Tests.anEntry 0x10 0 [3, 0, 0, 0, 1, 0, 0, 0]

/-- One command has been taken from Ring 0 of Slice 1, and the next opens a window. -/
def aSecondOpen : State := (Tests.aRing Tests.aTrace 1 anOpenEntry).upR 1 0 (fun r => { r with serial := 1 })

theorem aSecondOpen_front : aSecondOpen.front (1 : SliceId) (0 : RingId) 3 anOpenEntry 0x10 ∧
    aSecondOpen.rd (TRC_WIN_STATUS.STATE (1 : SliceId) (byteAt anOpenEntry 16)) = 0 ∧ 0 < cmdField anOpenEntry 20 4 ∧
    aSecondOpen.granulesHeld (1 : SliceId) + cmdField anOpenEntry 20 4 ≤ aSecondOpen.rd (SLC_SHARE.GRANULES (1 : SliceId)) := by decide +kernel

/-- The window's opener is told by its index and the count of the commands taken. -/
theorem aSecondOpen_opens : ∃ t, exec (.windowOpen 1 0) aSecondOpen = .next t ∧
    (t.window (1 : SliceId) (byteAt anOpenEntry 16)).opener.map (fun o => o.2.1) = some 65539 := ⟨_, rfl, by decide +kernel⟩

/-- Refutes O50: the command that a window keeps as its opener is told by more than the index of its entry once the Ring has had another
taken. -/
theorem not_windowsOpenAndClose : ¬ Obligations.WindowsOpenAndClose := by
  rintro ⟨hopen, -⟩
  obtain ⟨hfront, hclosed, hwant, hquota⟩ := aSecondOpen_front
  obtain ⟨t, hexec, -, -, hopener, -⟩ := hopen aSecondOpen 1 0 3 anOpenEntry hfront hclosed hwant hquota
  obtain ⟨u, hexec', htold⟩ := aSecondOpen_opens
  cases hexec.symm.trans hexec'
  rw [hopener] at htold
  exact absurd htold (by decide)

/-! ## REFCLK in OFF -/

/-- The device in OFF, its REFCLK gone. -/
def anOffDevice : State := (Tests.aRest 4).off CLK_STATUS.REFCLK_OK

theorem anOffDevice_lost : anOffDevice.power.inReset = false ∧ anOffDevice.bit CLK_STATUS.REFCLK_OK = false := by decide +kernel

/-- Nothing counts REFCLK there. -/
theorem anOffDevice_stays : exec (.refclkReturn) anOffDevice = .next anOffDevice :=
  congrArg Host.Outcome.next (if_pos (by decide +kernel))

/-- Refutes O53: in OFF the return of REFCLK is not seen (R391, R398). -/
theorem not_clocksAndLevelsChange : ¬ Obligations.ClocksAndLevelsChange := by
  rintro ⟨-, hreturn, -⟩
  obtain ⟨hreset, hlost⟩ := anOffDevice_lost
  have hsame := Host.Outcome.next.inj (anOffDevice_stays.symm.trans (hreturn anOffDevice hreset hlost))
  rw [hsame] at hlost
  exact absurd hlost (by decide +kernel)

/-! ## The count of sideband messages read over the sideband -/

theorem aClocked_reads : Tests.aClocked.sbUp = true ∧ Tests.aClocked.powerState ≠ 1 ∧ SB_CNT.off < 2 ^ 32 ∧
    Tests.aClocked.sbReadStatus [SB_CNT.off] = sbOK := by decide +kernel

/-- The message that reads SB_CNT is counted before its value is taken. -/
theorem aClocked_counts : ∃ t, exec (.sbRead SB_CNT.off 1 .right) Tests.aClocked = .next t ∧
    (match t.outbox with
      | .sideband bytes :: _ => bytes.take 6
      | _ => []) = sbBlock (sbOK :: leNum 4 65536) := ⟨_, rfl, by decide +kernel⟩

theorem aClocked_count : sbBlock (sbOK :: leNum 4 (Tests.aClocked.sbValue SB_CNT.off)) = sbBlock (sbOK :: leNum 4 0) := by decide +kernel

/-- Refutes O60: a message that reads the count of messages reads itself in it (R459). -/
theorem not_sidebandAnswersMessages : ¬ Obligations.SidebandAnswersMessages := by
  rintro ⟨hread, -⟩
  obtain ⟨hup, hpower, hoff, hok⟩ := aClocked_reads
  obtain ⟨t, hexec, hout, -⟩ := hread Tests.aClocked SB_CNT.off hup hpower hoff hok
  obtain ⟨u, hexec', hbytes⟩ := aClocked_counts
  cases hexec.symm.trans hexec'
  rw [hout, aClocked_count] at hbytes
  exact absurd hbytes (by decide)

end Sys2Proof.Machine
end

section
/-! PROOFS. Fabric Time: holdover, the TPULSE pin, sets of the time and the oscillator (12, R354, R360 to R364). -/

set_option Elab.async false

namespace Sys2Proof.Machine

@[simp] theorem State.toQuality_elapsed (s : State) (q : Nat) : (s.toQuality q).elapsed = s.elapsed :=
  (Goes.toQuality (Foot.le_refl _) (Goes.refl _ s)).part .elapsed (by decide)
@[simp] theorem State.toQuality_now (s : State) (q : Nat) : (s.toQuality q).now = s.now :=
  (Goes.toQuality (Foot.le_refl _) (Goes.refl _ s)).part .now (by decide)
@[simp] theorem State.setSlew_now (s : State) (n : Nat) : (s.setSlew n).now = s.now :=
  (Goes.setSlew (Foot.le_refl _) (Goes.refl _ s)).part .now (by decide)
@[simp] theorem State.showParent_elapsed (s : State) (x1 : Candidate) : (s.showParent x1).elapsed = s.elapsed :=
  (Goes.showParent (Foot.le_refl _) (Goes.refl _ s)).part .elapsed (by decide)
@[simp] theorem State.fabricTo_outbox (s : State) (f : Nat) : (s.fabricTo f).outbox = s.outbox :=
  (Goes.fabricTo (Foot.le_refl _) (Goes.refl _ s)).part .outbox (by decide)
/-! ## Qualities and corrections (R354, R359) -/

/-- The quality entered is shown. -/
theorem State.quality_toQuality (s : State) {q : Nat} (hq : q < 4) : (s.toQuality q).quality = q := by
  have hkeep : ∀ t : State, (if q = qVALID then t.wr TIM_UNCERT.BOUND 0 else t).rd TIM_STATUS.QUALITY = t.rd TIM_STATUS.QUALITY := by
    intro t
    split
    · simp +decide
    · rfl
  unfold State.toQuality State.quality
  dsimp only
  rw [hkeep]
  split
  case isTrue h => exact h
  case isFalse => exact (State.rd_wr_same ..).trans (Nat.mod_eq_of_lt hq)

/-- What a function of the time block's state does not see: a slew, the epoch and whether the oscillator's ratio is current. -/
structure Timed {α : Type} (g : Tim → α) : Prop where
  slew : ∀ x n, g { x with slew := n } = g x
  epoch : ∀ x n, g { x with epoch := n } = g x
  ratioOk : ∀ x b, g { x with ratioOk := b } = g x

section
variable {α : Type} {g : Tim → α} (hg : Timed g)
include hg

theorem State.toQuality_timed (s : State) (q : Nat) : g (s.toQuality q).tim = g s.tim := by
  have hkeep : ∀ t : State, (if q = qVALID then t.wr TIM_UNCERT.BOUND 0 else t).tim = t.tim := by
    intro t
    split <;> rfl
  unfold State.toQuality
  dsimp only
  rw [hkeep]
  split
  · rfl
  · exact hg.ratioOk _ _

theorem State.setSlew_timed (s : State) (n : Nat) : g (s.setSlew n).tim = g s.tim := hg.slew _ _

theorem State.stepTime_timed (s : State) (v : Nat) : g (s.stepTime v).tim = g s.tim := by
  unfold State.stepTime
  dsimp only
  split
  · exact (hg.epoch _ _).trans (hg.slew _ _)
  · exact hg.slew _ _

theorem State.correct_timed (s : State) (theta2 : Int) : g (s.correct theta2).tim = g s.tim := by
  have hslew : ∀ b : Bool, g (if b = true then s.setSlew (theta2 * 2 ^ 15).toNat else s).tim = g s.tim := by
    intro b
    cases b
    · rfl
    · exact hg.slew _ _
  unfold State.correct
  dsimp only
  split
  · split
    · exact hslew _
    · exact hslew _
  · split
    · exact s.stepTime_timed hg _
    · exact hg.slew _ _

end

theorem timed_lastAt : Timed Tim.lastAt := ⟨fun _ _ => rfl, fun _ _ => rfl, fun _ _ => rfl⟩
theorem timed_setDue : Timed Tim.setDue := ⟨fun _ _ => rfl, fun _ _ => rfl, fun _ _ => rfl⟩

/-- A measurement accepted is dated. -/
theorem State.measured_lastAt (s : State) (theta2 : Int) (b : Bool) : (s.measured theta2 b).tim.lastAt = s.elapsed := by
  have hlock : ∀ (t : State) (p : Prop) [Decidable p],
      (if p then (t.on TIM_STATUS.LOCKED).off TIM_STATUS.HOLDOVER else t).tim = t.tim := by
    intro t p _
    split <;> rfl
  have hvalid : ∀ (t : State) (p : Prop) [Decidable p], (if p then t.toQuality qVALID else t).tim.lastAt = t.tim.lastAt := by
    intro t p _
    split
    · exact t.toQuality_timed timed_lastAt _
    · rfl
  unfold State.measured
  dsimp only
  rw [hvalid, hlock]
  exact State.correct_timed timed_lastAt _ _

/-! ## Holdover (R360) -/

theorem exec_holdoverEntry_locked {s : State} (ha : s.awake = true) (hr : s.role = roleFOLLOWER) (hl : s.bit TIM_STATUS.LOCKED = true) :
    exec (.holdoverEntry) s = .next (s.advanceTo (s.tim.lastAt + 1000 * usUnit)).enterHoldover := next_pos ⟨ha, hr, hl⟩

/-- A follower that is locked enters holdover. -/
theorem State.enterHoldover_shows {s : State} (hr : s.role = roleFOLLOWER) (hl : s.bit TIM_STATUS.LOCKED = true) :
    s.enterHoldover.rd TIM_STATUS.LOCKED = 0 ∧ s.enterHoldover.rd TIM_STATUS.HOLDOVER = 1 ∧
      s.enterHoldover.quality = (if s.quality = qVALID then qESTIMATED else s.quality) ∧ s.enterHoldover.elapsed = s.elapsed := by
  unfold State.enterHoldover
  rw [if_pos ⟨hr, hl⟩]
  dsimp only
  generalize ht : ((s.off TIM_STATUS.LOCKED).on TIM_STATUS.HOLDOVER).upTim
    (fun x => { x with good := 0, base := s.rd TIM_UNCERT.BOUND }) = t
  have hlock : t.rd TIM_STATUS.LOCKED = 0 := by
    rw [← ht]
    simp +decide
  have hhold : t.rd TIM_STATUS.HOLDOVER = 1 := by
    rw [← ht]
    simp +decide
  have hquality : t.quality = s.quality := by
    rw [← ht, State.quality, State.quality]
    simp +decide
  have hel : t.elapsed = s.elapsed := by rw [← ht]; rfl
  have hkeep : ∀ c : Cell, fp_toQuality.misses (fieldName c.key) = true →
      (if t.quality = qVALID then t.toQuality qESTIMATED else t).rd c = t.rd c := by
    intro c hc
    split
    · exact t.rd_toQuality c _ hc
    · rfl
  have hnew : (if t.quality = qVALID then t.toQuality qESTIMATED else t).quality = if t.quality = qVALID then qESTIMATED else t.quality := by
    split
    · exact t.quality_toQuality (by decide)
    · rfl
  have helapsed : (if t.quality = qVALID then t.toQuality qESTIMATED else t).elapsed = t.elapsed := by
    split
    · exact t.toQuality_elapsed _
    · rfl
  refine ⟨?_, ?_, ?_, ?_⟩
  · rw [State.rd_advance _ _ _ (by rw [fieldName_TIM_STATUS_LOCKED]; decide), hkeep _ (by rw [fieldName_TIM_STATUS_LOCKED]; decide), hlock]
  · rw [State.rd_advance _ _ _ (by rw [fieldName_TIM_STATUS_HOLDOVER]; decide), hkeep _ (by rw [fieldName_TIM_STATUS_HOLDOVER]; decide),
      hhold]
  · rw [State.quality, State.rd_advance _ _ _ (by rw [fieldName_TIM_STATUS_QUALITY]; decide), ← State.quality, hnew, hquality]
  · rw [State.advance_elapsed, helapsed, hel, Nat.add_zero]

theorem exec_holdoverEntry_shows {s : State} (ha : s.awake = true) (hr : s.role = roleFOLLOWER) (hl : s.bit TIM_STATUS.LOCKED = true) :
    ∃ t, exec (.holdoverEntry) s = .next t ∧ t.rd TIM_STATUS.LOCKED = 0 ∧ t.rd TIM_STATUS.HOLDOVER = 1 ∧
      t.quality = (if s.quality = qVALID then qESTIMATED else s.quality) ∧ s.tim.lastAt + 1000 * usUnit ≤ t.elapsed := by
  refine ⟨_, exec_holdoverEntry_locked ha hr hl, ?_⟩
  have hle := s.le_advanceTo_elapsed (s.tim.lastAt + 1000 * usUnit)
  generalize s.tim.lastAt + 1000 * usUnit = e at hle
  have hrole : (s.advanceTo e).role = roleFOLLOWER := (s.rd_advanceTo _ e (by rw [fieldName_TIM_CTRL_ROLE]; decide)).trans hr
  have hlock : (s.advanceTo e).bit TIM_STATUS.LOCKED = true := by
    rw [State.bit, s.rd_advanceTo _ e (by rw [fieldName_TIM_STATUS_LOCKED]; decide), ← State.bit, hl]
  have hquality : (s.advanceTo e).quality = s.quality := s.rd_advanceTo _ e (by rw [fieldName_TIM_STATUS_QUALITY]; decide)
  obtain ⟨hnot, hhold, hq, hel⟩ := State.enterHoldover_shows hrole hlock
  exact ⟨hnot, hhold, by rw [hq, hquality], hle.trans hel.ge⟩

/-! ## The TPULSE pin (R361, R364) -/

/-- The time in ns of a count of units that a whole number of ns gives. -/
theorem span_div_ns (x : Nat) : (x * nsUnit) % timeSpan / 2 ^ 32 = x % 2 ^ 64 := by
  rw [nsUnit, timeSpan]
  omega

/-- A value loaded. -/
def State.loaded (s : State) (v : Nat) : State :=
  (((s.setNow v).upTim (fun x => { x with setDue := false, epoch := v / nsUnit / 10000 })).setSlew 0).toQuality qVALID

theorem State.loadSet_eq (s : State) :
    s.loadSet = s.loaded ((s.rd (TIM_SET.TIME 0) + 2 ^ 32 * s.rd (TIM_SET.TIME 1)) * nsUnit) := rfl

theorem State.loaded_now (s : State) (v : Nat) : (s.loaded v).now = v % timeSpan := by
  rw [State.loaded, State.toQuality_now, State.setSlew_now, State.upTim_now, State.setNow_now]

theorem State.loaded_quality (s : State) (v : Nat) : (s.loaded v).quality = qVALID := State.quality_toQuality _ (by decide)

theorem State.loaded_setDue (s : State) (v : Nat) : (s.loaded v).tim.setDue = false :=
  (State.toQuality_timed timed_setDue _ _).trans (State.setSlew_timed timed_setDue _ _)

theorem State.loaded_slewing (s : State) (v : Nat) : (s.loaded v).rd TIM_STATUS.SLEWING = 0 := by
  rw [State.loaded, State.rd_toQuality _ _ _ (by rw [fieldName_TIM_STATUS_SLEWING]; decide)]
  exact (State.rd_wr_same ..).trans rfl

/-- The two values of a set, loaded (R364). -/
theorem State.loadSet_shows (s : State) : s.loadSet.nowNs = (s.rd (TIM_SET.TIME 0) + 2 ^ 32 * s.rd (TIM_SET.TIME 1)) % 2 ^ 64 ∧
    s.loadSet.quality = qVALID ∧ s.loadSet.tim.setDue = false ∧ s.loadSet.rd TIM_STATUS.SLEWING = 0 := by
  rw [s.loadSet_eq, State.nowNs, State.loaded_now, span_div_ns]
  exact ⟨rfl, State.loaded_quality .., State.loaded_setDue .., State.loaded_slewing ..⟩

theorem exec_tpulseEdge_sets {s : State} (e : Nat) (ha : s.awake = true) (hm : s.rd TIM_CTRL.TPULSE_MODE = 1) (hd : s.tim.setDue = true) :
    ∃ t, exec (.tpulseEdge e) s = .next t ∧ t.nowNs = (s.rd (TIM_SET.TIME 0) + 2 ^ 32 * s.rd (TIM_SET.TIME 1)) % 2 ^ 64 ∧
      t.quality = qVALID ∧ t.tim.setDue = false := by
  obtain ⟨hnow, hquality, hdue, -⟩ := s.loadSet_shows
  exact ⟨_, (next_neg (by simp [ha, hm])).trans (next_pos hd), hnow, hquality, hdue⟩

/-- A parent by TPULSE is reported. -/
theorem State.showParent_pulse (s : State) {c : Candidate} (hc : c.side = none) :
    (s.showParent c).rd TIM_STATUS.PARENT_PULSE = 1 ∧ (s.showParent c).rd TIM_STATUS.STRATUM = min 15 (c.stratum + 1) := by
  unfold State.showParent
  dsimp only
  rw [hc]
  split <;> refine ⟨?_, ?_⟩ <;> simp +decide

theorem exec_tpulseEdge_measures {s : State} (e : Nat) {c : Candidate} (ha : s.awake = true) (hcores : s.mgmt.coresDown = false)
    (hm : s.rd TIM_CTRL.TPULSE_MODE = 1) (hd : s.tim.setDue = false) (hr : s.role = roleFOLLOWER) (hp : s.parent = some c)
    (hc : c.side = none) : ∃ t, exec (.tpulseEdge e) s = .next t ∧ t.rd TIM_STATUS.PARENT_PULSE = 1 ∧
      t.rd TIM_STATUS.STRATUM = min 15 (c.stratum + 1) ∧ t.tim.lastAt = s.elapsed := by
  obtain ⟨hpulse, hstratum⟩ := s.showParent_pulse hc
  have hel : (s.showParent c).elapsed = s.elapsed := s.showParent_elapsed c
  refine ⟨_, (next_neg (by simp [ha, hm])).trans ((next_neg (by simp [hd])).trans (next_neg (by simp [hr, hcores]))), ?_⟩
  rw [hp]
  dsimp only
  rw [if_neg (by simp [hc]), State.rd_measured _ _ _ _ (by rw [fieldName_TIM_STATUS_PARENT_PULSE]; decide),
    State.rd_measured _ _ _ _ (by rw [fieldName_TIM_STATUS_STRATUM]; decide), State.measured_lastAt]
  exact ⟨hpulse, hstratum, hel⟩

/-- The TPULSE edge of a time in ns. -/
def State.pulseAt (s : State) (x : Nat) : State := (s.fabricTo (x * nsUnit)).emit (.tpulse x)

theorem exec_tpulseOut_at {s : State} (hm : s.rd TIM_CTRL.TPULSE_MODE = 2) (hr : s.role = roleMASTER ∨ s.bit TIM_STATUS.LOCKED = true)
    (ha : s.awake = true) : exec (.tpulseOut) s = .next (s.pulseAt ((s.nowNs / s.pulsePeriod + 1) * s.pulsePeriod % 2 ^ 64)) := by
  simp only [exec_tpulseOut_runs, execTpulseOut, State.pulseAt]
  rw [if_pos ⟨ha, hm, hr⟩]

theorem State.pulseAt_outbox (s : State) (x : Nat) : (s.pulseAt x).outbox = .tpulse x :: s.outbox :=
  congrArg (List.cons _) (State.fabricTo_outbox ..)

theorem State.pulseAt_now (s : State) (x : Nat) : (s.pulseAt x).now = (s.fabricTo (x * nsUnit)).now := by
  rw [State.pulseAt, State.emit_now]

theorem exec_tpulseOut_sends {s : State} (hm : s.rd TIM_CTRL.TPULSE_MODE = 2) (hr : s.role = roleMASTER ∨ s.bit TIM_STATUS.LOCKED = true)
    (ha : s.awake = true) : ∃ t, exec (.tpulseOut) s = .next t ∧
      t.outbox = .tpulse ((s.nowNs / s.pulsePeriod + 1) * s.pulsePeriod % 2 ^ 64) :: s.outbox ∧
      t.now = (s.fabricTo ((s.nowNs / s.pulsePeriod + 1) * s.pulsePeriod % 2 ^ 64 * nsUnit)).now :=
  ⟨_, exec_tpulseOut_at hm hr ha, State.pulseAt_outbox .., State.pulseAt_now ..⟩

/-! ## TIM_SET and the oscillator (R363, R364) -/

theorem exec_timSet_hosted {s : State} (hi : Nat) (hh : s.hosted = true) : exec (.timSet hi) s = .next (s.timSet hi) :=
  congrArg Host.Outcome.next (State.hostWrite_hosted hh _)

theorem exec_timSet_loads {s : State} {hi : Nat} (hh : s.hosted = true) (hn : ¬(s.role = roleFOLLOWER ∧ s.bit TIM_STATUS.LOCKED = true))
    (hp : s.bit TIM_PULSE.SET_AT_PULSE = false) (hhi : hi < 2 ^ 32) : ∃ t, exec (.timSet hi) s = .next t ∧
      t.nowNs = (s.rd (TIM_SET.TIME 0) + 2 ^ 32 * hi) % 2 ^ 64 ∧ t.quality = qVALID ∧ t.rd TIM_STATUS.SLEWING = 0 := by
  have hacts : s.timSet hi = (s.wr (TIM_SET.TIME 1) hi).loadSet := by
    rw [State.timSet, if_neg hn, if_neg (by simp [hp])]
  have hlow : (s.wr (TIM_SET.TIME 1) hi).rd (TIM_SET.TIME 0) = s.rd (TIM_SET.TIME 0) := State.rd_wr_ne _ _ _ _ (by decide)
  have hhigh : (s.wr (TIM_SET.TIME 1) hi).rd (TIM_SET.TIME 1) = hi := (State.rd_wr_same ..).trans (Nat.mod_eq_of_lt hhi)
  obtain ⟨hnow, hquality, -, hslew⟩ := (s.wr (TIM_SET.TIME 1) hi).loadSet_shows
  exact ⟨_, (exec_timSet_hosted hi hh).trans (congrArg _ hacts), by rw [hnow, hlow, hhigh], hquality, hslew⟩

theorem exec_aonRatioMeasure_shows {s : State} (ratio : Nat) (hp : s.powerState = 0) (ht : s.timeRuns = true) :
    ∃ t, exec (.aonRatioMeasure ratio) s = .next t ∧ t.rd CLK_AON_RATIO.RATIO = ratio % 2 ^ 32 ∧ t.tim.ratioOk = true :=
  ⟨_, next_pos ⟨hp, ht⟩, State.rd_wr_same .., rfl⟩

/-- Settles O48, clause by clause: what a correction or a set leaves of the time block is what it does not name, and no time passes after
the quality is entered. -/
theorem fabricTimeIsKept : Obligations.FabricTimeIsKept :=
  ⟨fun _ => exec_holdoverEntry_shows, fun _ => exec_tpulseOut_sends, fun _ e => exec_tpulseEdge_sets e,
    fun _ e _ => exec_tpulseEdge_measures e, fun _ _ => exec_timSet_loads,
    fun _ hi hh hr hl => (exec_timSet_hosted hi hh).trans (congrArg Host.Outcome.next (if_pos ⟨hr, hl⟩)),
    fun _ ratio => exec_aonRatioMeasure_shows ratio⟩

end Sys2Proof.Machine
end

section
/-! PROOFS. The Common Trigger: its sources, its schedules and the latch (12, R379 to R383). -/

set_option Elab.async false

namespace Sys2Proof.Machine

@[simp] theorem State.reply_tim (s : State) (k : Nat) (i : Nat) (idx : Nat) (e : List Byte) (status : Nat) (result : List Nat) (port : Option Nat) : (s.reply k i idx e status result port).tim = s.tim :=
  (Goes.reply (Foot.le_refl _) (Goes.refl _ s)).part .tim (by decide)
@[simp] theorem State.fetchRing_evq (s : State) (k : Nat) (i : Nat) : (s.fetchRing k i).evq = s.evq :=
  (Goes.fetchRing (Foot.le_refl _) (Goes.refl _ s)).part .evq (by decide)
@[simp] theorem State.fetchRing_tim (s : State) (k : Nat) (i : Nat) : (s.fetchRing k i).tim = s.tim :=
  (Goes.fetchRing (Foot.le_refl _) (Goes.refl _ s)).part .tim (by decide)
@[simp] theorem State.deviceQuiet_evq (s : State) : (s.deviceQuiet).evq = s.evq :=
  (Goes.deviceQuiet (Foot.le_refl _) (Goes.refl _ s)).part .evq (by decide)
@[simp] theorem State.deviceQuiet_rings (s : State) : (s.deviceQuiet).rings = s.rings :=
  (Goes.deviceQuiet (Foot.le_refl _) (Goes.refl _ s)).part .rings (by decide)
@[simp] theorem State.deviceQuiet_ringx (s : State) (k' i' : Nat) : (s.deviceQuiet).ringx k' i' = s.ringx k' i' := by
  rw [State.ringx, State.deviceQuiet_rings, ← State.ringx]
@[simp] theorem State.deviceQuiet_mgmt (s : State) : (s.deviceQuiet).mgmt = s.mgmt :=
  (Goes.deviceQuiet (Foot.le_refl _) (Goes.refl _ s)).part .mgmt (by decide)
@[simp] theorem State.sourceNow_rings (s : State) (b : Nat) : (s.sourceNow b).rings = s.rings :=
  (Goes.sourceNow (Foot.le_refl _) (Goes.refl _ s)).part .rings (by decide)
@[simp] theorem State.sourceNow_ringx (s : State) (b : Nat) (k' i' : Nat) : (s.sourceNow b).ringx k' i' = s.ringx k' i' := by
  rw [State.ringx, State.sourceNow_rings, ← State.ringx]
@[simp] theorem State.sourceNow_evq (s : State) (b : Nat) : (s.sourceNow b).evq = s.evq :=
  (Goes.sourceNow (Foot.le_refl _) (Goes.refl _ s)).part .evq (by decide)
@[simp] theorem State.sourceNow_mgmt (s : State) (b : Nat) : (s.sourceNow b).mgmt = s.mgmt :=
  (Goes.sourceNow (Foot.le_refl _) (Goes.refl _ s)).part .mgmt (by decide)
@[simp] theorem State.advanceTo_outbox (s : State) (e : Nat) : (s.advanceTo e).outbox = s.outbox :=
  (Goes.advanceTo (Foot.le_refl _) (Goes.refl _ s)).part .outbox (by decide)
@[simp] theorem State.triggerRecords_snap (s : State) (tl : Nat) (src : Nat) : (s.triggerRecords tl src).snap = s.snap :=
  (Goes.triggerRecords (Foot.le_refl _) (Goes.refl _ s)).part .snap (by decide)
@[simp] theorem State.fabricTo_bct (s : State) (f : Nat) : (s.fabricTo f).bct = s.bct :=
  (Goes.fabricTo (Foot.le_refl _) (Goes.refl _ s)).part .bct (by decide)
@[simp] theorem State.fabricTo_halves (s : State) (f : Nat) : (s.fabricTo f).halves = s.halves :=
  (Goes.fabricTo (Foot.le_refl _) (Goes.refl _ s)).part .halves (by decide)
@[simp] theorem State.recordWake_now (s : State) (w : WakeSource) (port : Option Nat) (from_ : Nat) : (s.recordWake w port from_).now = s.now :=
  (Goes.recordWake (Foot.le_refl _) (Goes.refl _ s)).part .now (by decide)
@[simp] theorem State.recordWake_tim (s : State) (w : WakeSource) (port : Option Nat) (from_ : Nat) : (s.recordWake w port from_).tim = s.tim :=
  (Goes.recordWake (Foot.le_refl _) (Goes.refl _ s)).part .tim (by decide)
@[simp] theorem State.joinWake_now (s : State) (w : WakeSource) (port : Option Nat) : (s.joinWake w port).now = s.now :=
  (Goes.joinWake (Foot.le_refl _) (Goes.refl _ s)).part .now (by decide)
@[simp] theorem State.joinWake_tim (s : State) (w : WakeSource) (port : Option Nat) : (s.joinWake w port).tim = s.tim :=
  (Goes.joinWake (Foot.le_refl _) (Goes.refl _ s)).part .tim (by decide)
@[simp] theorem State.setLevel_tim (s : State) (l : Nat) : (s.setLevel l).tim = s.tim :=
  (Goes.setLevel (Foot.le_refl _) (Goes.refl _ s)).part .tim (by decide)
@[simp] theorem State.setLevel_now (s : State) (l : Nat) : (s.setLevel l).now = s.now :=
  (Goes.setLevel (Foot.le_refl _) (Goes.refl _ s)).part .now (by decide)
@[simp] theorem State.dropRecord_tim (s : State) (k : Nat) (w : Nat) (time : Nat) : (s.dropRecord k w time).tim = s.tim :=
  (Goes.dropRecord (Foot.le_refl _) (Goes.refl _ s)).part .tim (by decide)
@[simp] theorem State.putRecord_tim (s : State) (k : Nat) (w : Nat) (e : Nat × Nat × TraceRec) : (s.putRecord k w e).tim = s.tim :=
  (Goes.putRecord (Foot.le_refl _) (Goes.refl _ s)).part .tim (by decide)
/-! ## The only command of a Ring, taken and answered (R324, R328, R331) -/

/-- The front command of a Ring acts once it has been taken. -/
theorem State.command_front {s : State} {k i idx op : Nat} {e : List Byte} (hf : s.front k i idx e op) (hop : op ≠ 1)
    (act : State → Nat → List Byte → State) :
    s.command k i op true act = (act (s.takeFront k i (s.nextCmd k i idx) false) (s.nextCmd k i idx) e).drain k i 8 := by
  obtain ⟨htakes, hfetched, hcmd, -, -⟩ := hf
  have hjob : (op == 1) = false := beq_eq_false_iff_ne.2 hop
  unfold State.command
  rw [if_neg (by simp [htakes]), hfetched, hjob]
  exact if_pos ⟨hcmd, rfl⟩

/-- A Ring with nothing fetched is only asked for more, where it is. -/
theorem State.drain_empty {α : Type} (g : State → α) (hg : ∀ (t : State) (k i : Nat), g (t.fetchRing k i) = g t) {s : State} {k i : Nat}
    (n : Nat) (h : (s.ringx k i).fetched = []) : g (s.drain k i n) = g s := by
  cases n with
  | zero => exact hg ..
  | succ n =>
    rw [State.drain]
    split
    · rfl
    · rw [h]
      exact hg ..

/-- The state of a Ring whose only fetched entry has just been taken, no command of it being open. -/
structure State.Taken (s u : State) (k i idx : Nat) (e : List Byte) : Prop where
  active : u.sliceActive k = true
  cores : u.mgmt.coresDown = false
  order : (u.ringx k i).order = [(s.nextCmd k i idx, none)]
  fetched : (u.ringx k i).fetched = []
  evq : u.evq = s.evq
  head : u.rd (RNG_POS.HEAD k i) = (idx + 1) % s.ringSize k i % 2 ^ 16

theorem State.takeFront_taken {s : State} {k i idx op : Nat} {e : List Byte} (hf : s.front k i idx e op) :
    s.Taken (s.takeFront k i (s.nextCmd k i idx) false) k i idx e := by
  obtain ⟨htakes, hfetched, -, hidx, horder⟩ := hf
  have hcmd : s.nextCmd k i idx % 65536 = idx := by
    unfold State.nextCmd
    omega
  simp only [State.takes, Bool.and_eq_true, Bool.not_eq_true'] at htakes
  obtain ⟨⟨⟨hslice, -⟩, -⟩, hcores⟩ := htakes
  have hring : (s.takeFront k i (s.nextCmd k i idx) false).ringx k i = { s.ringx k i with
      fetched := (s.ringx k i).fetched.drop 1
      open_ := (s.ringx k i).open_ + 1
      serial := (s.ringx k i).serial + 1
      order := (s.ringx k i).order ++ [(s.nextCmd k i idx, none)] } :=
    State.upR_ringx_same ..
  refine ⟨?_, hcores, ?_, ?_, rfl, ?_⟩
  · rw [State.sliceActive, State.rd_takeFront _ _ _ _ _ _ (by rw [fieldName_SLC_STATUS_STATE]; decide)]
    exact hslice
  · rw [hring, horder]
    rfl
  · rw [hring, hfetched]
    rfl
  · refine (State.rd_wr_same ..).trans ?_
    rw [hcmd]
    rfl

/-- Nothing of the time block is part of that. -/
theorem State.Taken.upTim {s u : State} {k i idx : Nat} {e : List Byte} (h : s.Taken u k i idx e) (f : Tim → Tim) :
    s.Taken (u.upTim f) k i idx e := ⟨h.active, h.cores, h.order, h.fetched, h.evq, h.head⟩

/-- The event of a command that completes. -/
def State.replyEvent (s : State) (k i cmd : Nat) (e : List Byte) (status : Nat) (result : List Nat) (port : Option Nat) : Ev :=
  { slice := k, ring := some (cmdEvRing e), type := 1, cls := 0, code := status, source := i, entry := cmd % 65536, tag := cmdTag e,
    cmdRing := some i, result := result, time := s.nowNs, port := port, state := some (s.mirrorOf port) }

/-- What the completion of the only open command of a Ring leaves of it. -/
def RingX.done (r : RingX) : RingX := { r with order := [], open_ := r.open_ - 1 }

theorem State.Taken.reply {s u : State} {k i idx : Nat} {e : List Byte} (h : s.Taken u k i idx e) (status : Nat) (result : List Nat)
    (port : Option Nat) : u.reply k i (s.nextCmd k i idx) e status result port =
      (u.deviceQuiet.upR k i RingX.done).setEvq (u.evq ++ [u.replyEvent k i (s.nextCmd k i idx) e status result port]) := by
  have hring : u.deviceQuiet.ringx k i = u.ringx k i := u.deviceQuiet_ringx k i
  have hset : u.deviceQuiet.upR k i (fun r => { r with order := [], open_ := r.open_ - 1 }) = u.deviceQuiet.upR k i RingX.done := rfl
  rw [State.reply, State.complete, State.completeAs, if_pos (by simp [h.active, h.cores])]
  dsimp only
  rw [hring, h.order, if_pos (by simp), ← hset]
  simp [ordered, State.replyEvent, State.deviceQuiet_evq]

theorem State.Taken.reply_fetched {s u : State} {k i idx : Nat} {e : List Byte} (h : s.Taken u k i idx e) (status : Nat) (result : List Nat)
    (port : Option Nat) : ((u.reply k i (s.nextCmd k i idx) e status result port).ringx k i).fetched = [] := by
  rw [h.reply]
  exact (congrArg RingX.fetched (State.upR_ringx_same ..)).trans ((congrArg RingX.fetched (u.deviceQuiet_ringx k i)).trans h.fetched)

/-- A command answered completes, and the Ring is asked for its next entries. -/
theorem State.Taken.completes {s u : State} {k i idx : Nat} {e : List Byte} (h : s.Taken u k i idx e) (status : Nat) (result : List Nat)
    (port : Option Nat) : s.completed ((u.reply k i (s.nextCmd k i idx) e status result port).drain k i 8) k i idx e status := by
  have hevq : ((u.reply k i (s.nextCmd k i idx) e status result port).drain k i 8).evq =
      s.evq ++ [u.replyEvent k i (s.nextCmd k i idx) e status result port] := by
    rw [State.drain_empty State.evq (fun t a b => t.fetchRing_evq a b) 8 (h.reply_fetched _ _ _), h.reply, ← h.evq]
    rfl
  refine ⟨?_, ?_, ?_⟩
  · rw [State.drain_empty (fun t => t.rd (RNG_POS.HEAD k i)) (fun t a b => t.rd_fetchRing _ a b rfl) 8 (h.reply_fetched _ _ _),
      State.rd_reply _ _ _ _ _ _ _ _ _ rfl, h.head]
  · rw [hevq, List.length_append]
    rfl
  · rw [hevq, List.getLast?_append]
    rfl

theorem State.Taken.completes_tim {s u : State} {k i idx : Nat} {e : List Byte} (h : s.Taken u k i idx e) (status : Nat) (result : List Nat)
    (port : Option Nat) : ((u.reply k i (s.nextCmd k i idx) e status result port).drain k i 8).tim = u.tim := by
  rw [State.drain_empty State.tim (fun t a b => t.fetchRing_tim a b) 8 (h.reply_fetched _ _ _), State.reply_tim]

/-! ## Sources (R379 to R381) -/

theorem satInc_lt (w v : Nat) : satInc w v < 2 ^ w :=
  (Nat.min_le_right ..).trans_lt (Nat.sub_lt (Nat.two_pow_pos w) Nat.one_pos)

/-- An enabled source of an armed trigger gives the latch instant. -/
theorem State.source_latches {s : State} {b : Nat} (tl : Nat) (hb : bitAt (s.rd TRC_TRIG_CTRL.SRC_EN) b = true)
    (hst : s.bit SNP_STATUS.STATE = false) (hl : s.tim.latch = none) :
    s.source b tl = s.upTim (fun x => { x with latch := some (tl, 2 ^ b) }) := by
  rw [State.source, if_neg (by simp [hb]), if_neg (by simp [hst]), hl]

theorem State.source_misses {s : State} {b : Nat} (tl : Nat) (hb : bitAt (s.rd TRC_TRIG_CTRL.SRC_EN) b = true)
    (hst : s.bit SNP_STATUS.STATE = true) : s.source b tl = s.satUp SNP_STATUS.MISSED := by
  rw [State.source, if_neg (by simp [hb]), if_pos hst]

/-- A source now, TRIG_N being left alone. -/
theorem State.sourceNow_latches {s : State} {b : Nat} (hb : bitAt (s.rd TRC_TRIG_CTRL.SRC_EN) b = true)
    (hst : s.bit SNP_STATUS.STATE = false) (hl : s.tim.latch = none) (hout : s.bit TRC_TRIG_CTRL.TRIG_OUT = false) :
    s.sourceNow b = s.upTim (fun x => { x with latch := some (s.now + 64 * nsUnit, 2 ^ b) }) := by
  rw [State.sourceNow, if_neg (by simp [hout]), State.source_latches _ hb hst hl]

theorem State.sourceNow_misses {s : State} {b : Nat} (hb : bitAt (s.rd TRC_TRIG_CTRL.SRC_EN) b = true)
    (hst : s.bit SNP_STATUS.STATE = true) : s.sourceNow b = s.satUp SNP_STATUS.MISSED := by
  rw [State.sourceNow, if_neg (by simp [hst]), State.source_misses _ hb hst]

/-! ## TRIGGER and FIRE (R377, R379) -/

theorem exec_trigger_front {s : State} {k : SliceId} {i : RingId} {idx : Nat} {e : List Byte} (hf : s.front k i idx e 0x15) :
    exec (.trigger k i) s = .next ((if k.val ≠ 0 ∧ !s.bit TRC_TRIG_CTRL.SLICE_TRIG then
      (s.takeFront k i (s.nextCmd k i idx) false).reply k i (s.nextCmd k i idx) e 2 noResult none
    else ((s.takeFront k i (s.nextCmd k i idx) false).sourceNow 1).reply k i (s.nextCmd k i idx) e 0 noResult none).drain k i 8) := by
  have hbit : (s.takeFront k i (s.nextCmd k i idx) false).bit TRC_TRIG_CTRL.SLICE_TRIG = s.bit TRC_TRIG_CTRL.SLICE_TRIG := by
    rw [State.bit, State.rd_takeFront _ _ _ _ _ _ (by rw [fieldName_TRC_TRIG_CTRL_SLICE_TRIG]; decide), ← State.bit]
  simp only [exec_trigger_runs, execTrigger]
  rw [State.command_front hf (by decide)]
  change Host.Outcome.next ((if k.val ≠ 0 ∧ !(s.takeFront k i (s.nextCmd k i idx) false).bit TRC_TRIG_CTRL.SLICE_TRIG then _ else _ :
    State).drain k i 8) = _
  rw [hbit]

theorem exec_trigger_latches {s : State} {k : SliceId} {i : RingId} {idx : Nat} {e : List Byte} (hf : s.front k i idx e 0x15)
    (hmay : k.val = 0 ∨ s.bit TRC_TRIG_CTRL.SLICE_TRIG = true) (hb : bitAt (s.rd TRC_TRIG_CTRL.SRC_EN) 1 = true)
    (hst : s.bit SNP_STATUS.STATE = false) (hl : s.tim.latch = none) (hout : s.bit TRC_TRIG_CTRL.TRIG_OUT = false) :
    ∃ t, exec (.trigger k i) s = .next t ∧ s.completed t k i idx e 0 ∧ t.tim.latch = some (s.now + 64 * nsUnit, 2) := by
  have htaken := State.takeFront_taken hf
  have hexec := exec_trigger_front hf
  rw [if_neg (by rcases hmay with h | h <;> simp [h])] at hexec
  have hsource := (s.takeFront k i (s.nextCmd k i idx) false).sourceNow_latches (b := 1)
    (by rw [State.rd_takeFront _ _ _ _ _ _ (by rw [fieldName_TRC_TRIG_CTRL_SRC_EN]; decide), hb])
    (by rw [State.bit, State.rd_takeFront _ _ _ _ _ _ (by rw [fieldName_SNP_STATUS_STATE]; decide), ← State.bit, hst]) hl
    (by rw [State.bit, State.rd_takeFront _ _ _ _ _ _ (by rw [fieldName_TRC_TRIG_CTRL_TRIG_OUT]; decide), ← State.bit, hout])
  rw [hsource] at hexec
  have hlatched : s.Taken ((s.takeFront k i (s.nextCmd k i idx) false).upTim (fun x =>
      { x with latch := some ((s.takeFront k i (s.nextCmd k i idx) false).now + 64 * nsUnit, 2 ^ 1) })) k i idx e := htaken.upTim _
  refine ⟨_, hexec, hlatched.completes _ _ _, ?_⟩
  rw [hlatched.completes_tim]
  rfl

theorem exec_trigger_denied {s : State} {k : SliceId} {i : RingId} {idx : Nat} {e : List Byte} (hf : s.front k i idx e 0x15)
    (hk : k.val ≠ 0) (hmay : s.bit TRC_TRIG_CTRL.SLICE_TRIG = false) :
    ∃ t, exec (.trigger k i) s = .next t ∧ s.completed t k i idx e 2 ∧ t.tim = s.tim := by
  have htaken := State.takeFront_taken hf
  have hexec := exec_trigger_front hf
  rw [if_pos ⟨hk, by simp [hmay]⟩] at hexec
  refine ⟨_, hexec, htaken.completes _ _ _, ?_⟩
  rw [htaken.completes_tim]
  rfl

theorem exec_fire_hosted {s : State} (hh : s.hosted = true) : exec (.fire) s = .next (s.sourceNow 1) :=
  congrArg Host.Outcome.next (State.hostWrite_hosted hh _)

theorem exec_fire_misses {s : State} (hh : s.hosted = true) (hb : bitAt (s.rd TRC_TRIG_CTRL.SRC_EN) 1 = true)
    (hst : s.bit SNP_STATUS.STATE = true) : ∃ t, exec (.fire) s = .next t ∧
      t.rd SNP_STATUS.MISSED = satInc 8 (s.rd SNP_STATUS.MISSED) ∧ t.tim = s.tim := by
  refine ⟨_, (exec_fire_hosted hh).trans (congrArg _ (State.sourceNow_misses hb hst)), ?_, rfl⟩
  exact (State.rd_satUp_same ..).trans (Nat.mod_eq_of_lt (satInc_lt 8 _))

/-! ## TRIG_N (R379, R381) -/

/-- Passing time changes of the time block the slew alone. -/
theorem State.advance_timed {α : Type} {g : Tim → α} (hg : Timed g) (s : State) (d : Nat) : g (s.advance d).tim = g s.tim := by
  have hruns : ∀ (t : State) (p : Prop) [Decidable p] (f : Power → Power), (if p then t.upPw f else t).tim = t.tim := by
    intro t p _ f
    split <;> rfl
  have hslew : ∀ (t : State) (p : Prop) [Decidable p], (if p then t.off TIM_STATUS.SLEWING else t).tim = t.tim := by
    intro t p _
    split <;> rfl
  have hbound : ∀ (t : State) (p : Prop) [Decidable p] (v : Nat), (if p then t.wr TIM_UNCERT.BOUND v else t).tim = t.tim := by
    intro t p _ v
    split <;> rfl
  unfold State.advance
  dsimp only
  rw [hbound, hslew, hruns]
  exact hg.slew _ _

theorem State.advanceTo_timed {α : Type} {g : Tim → α} (hg : Timed g) (s : State) (e : Nat) : g (s.advanceTo e).tim = g s.tim := by
  unfold State.advanceTo
  split
  · rfl
  · exact s.advance_timed hg _

theorem timed_deafUntil : Timed Tim.deafUntil := ⟨fun _ _ => rfl, fun _ _ => rfl, fun _ _ => rfl⟩
theorem timed_latch : Timed Tim.latch := ⟨fun _ _ => rfl, fun _ _ => rfl, fun _ _ => rfl⟩
theorem timed_schedTime : Timed Tim.schedTime := ⟨fun _ _ => rfl, fun _ _ => rfl, fun _ _ => rfl⟩

theorem exec_trigNEdge_latches {s : State} (stamp : Nat) (ha : s.awake = true) (hd : s.tim.trigOut = false) (hdeaf : s.tim.deafUntil ≤ s.elapsed)
    (hb : bitAt (s.rd TRC_TRIG_CTRL.SRC_EN) 2 = true) (hst : s.bit SNP_STATUS.STATE = false) (hl : s.tim.latch = none) :
    exec (.trigNEdge stamp) s = .next (s.upTim (fun x => { x with latch := some (stamp * 65536 + 64 * nsUnit, 4) })) := by
  refine (next_neg (by simp [ha, hd, Nat.not_lt.2 hdeaf])).trans (congrArg Host.Outcome.next (State.source_latches _ hb hst hl))

theorem exec_trigNEdge_ignored {s : State} (stamp : Nat) (h : s.tim.trigOut = true ∨ s.elapsed < s.tim.deafUntil) :
    exec (.trigNEdge stamp) s = .next s := next_pos (.inr h)

theorem exec_trigNRelease_releases {s : State} (ha : s.awake = true) (hd : s.tim.trigOut = true) :
    ∃ t, exec (.trigNRelease) s = .next t ∧ t.outbox = .trigN false :: s.outbox ∧ t.tim.trigOut = false ∧
      t.tim.deafUntil = s.tim.deafUntil + 100 * nsUnit ∧ s.tim.deafUntil ≤ t.elapsed := by
  refine ⟨_, next_pos ⟨hd, ha⟩, congrArg (List.cons _) (State.advanceTo_outbox ..), rfl, ?_, s.le_advanceTo_elapsed _⟩
  exact congrArg (· + 100 * nsUnit) (s.advanceTo_timed timed_deafUntil _)

/-! ## Schedules (R382) -/

theorem exec_trcSchedGo_hosted {s : State} (hh : s.hosted = true) (flood : Bool) : exec (.trcSchedGo flood) s = .next (s.scheduleGo flood) :=
  congrArg Host.Outcome.next (State.hostWrite_hosted hh _)

/-- The time that TRC_SCHED names. -/
def State.schedNs (s : State) : Nat := s.rd (TRC_SCHED.TIME 0) + 2 ^ 32 * s.rd (TRC_SCHED.TIME 1)

/-- A schedule whose time is to come. -/
theorem State.takeSchedule_pends (s : State) {number time : Nat} (flood : Bool) (h0 : time ≠ 0) (hle : s.now ≤ time * nsUnit) :
    s.takeSchedule number time flood = (((s.upTim (fun x => { x with seen := number })).wr TRC_SCHED_CTRL.NUMBER number).on
      TRC_SCHED_CTRL.PENDING).upTim (fun x => { x with schedTime := time, flood := flood }) := by
  rw [State.takeSchedule, if_neg h0, if_neg (Nat.not_lt.2 hle)]

/-- A schedule whose time has passed. -/
theorem State.takeSchedule_late (s : State) {number time : Nat} (flood : Bool) (h0 : time ≠ 0) (hlt : time * nsUnit < s.now) :
    (s.takeSchedule number time flood).rd TRC_SCHED_CTRL.LATE = 1 ∧
      (s.takeSchedule number time flood).rd TRC_SCHED_CTRL.LATE_CNT = satInc 8 (s.rd TRC_SCHED_CTRL.LATE_CNT) ∧
      (s.takeSchedule number time flood).tim.seen = number ∧ (s.takeSchedule number time flood).tim.latch = s.tim.latch := by
  have hlate : ∀ t : State, ((t.on TRC_SCHED_CTRL.LATE).satUp TRC_SCHED_CTRL.LATE_CNT).rd TRC_SCHED_CTRL.LATE = 1 ∧
      ((t.on TRC_SCHED_CTRL.LATE).satUp TRC_SCHED_CTRL.LATE_CNT).rd TRC_SCHED_CTRL.LATE_CNT = satInc 8 (t.rd TRC_SCHED_CTRL.LATE_CNT) ∧
      ((t.on TRC_SCHED_CTRL.LATE).satUp TRC_SCHED_CTRL.LATE_CNT).tim = t.tim := by
    intro t
    refine ⟨by simp +decide, ?_, rfl⟩
    rw [State.rd_satUp_same, State.on, State.rd_wr_ne _ _ _ _ (by decide)]
    exact Nat.mod_eq_of_lt (satInc_lt 8 _)
  rw [State.takeSchedule, if_neg h0, if_pos hlt]
  split
  · obtain ⟨h1, h2, h3⟩ := hlate (s.upTim (fun x => { x with seen := number }))
    exact ⟨h1, h2, congrArg Tim.seen h3, (congrArg Tim.latch h3).trans rfl⟩
  · obtain ⟨h1, h2, h3⟩ := hlate (((s.upTim (fun x => { x with seen := number })).wr TRC_SCHED_CTRL.NUMBER number).upTim (fun x =>
      { x with flood := false }))
    refine ⟨h1, h2.trans ?_, congrArg Tim.seen h3, (congrArg Tim.latch h3).trans rfl⟩
    exact congrArg (satInc 8) (State.rd_wr_ne _ _ _ _ (by decide))

theorem exec_trcSchedGo_pends {s : State} (flood : Bool) (hh : s.hosted = true)
    (h0 : s.rd (TRC_SCHED.TIME 0) + 2 ^ 32 * s.rd (TRC_SCHED.TIME 1) ≠ 0)
    (hle : s.now ≤ (s.rd (TRC_SCHED.TIME 0) + 2 ^ 32 * s.rd (TRC_SCHED.TIME 1)) * nsUnit) :
    ∃ t, exec (.trcSchedGo flood) s = .next t ∧ t.rd TRC_SCHED_CTRL.PENDING = 1 ∧
      t.rd TRC_SCHED_CTRL.NUMBER = (s.tim.seen + 1) % 256 ∧
      t.tim.schedTime = s.rd (TRC_SCHED.TIME 0) + 2 ^ 32 * s.rd (TRC_SCHED.TIME 1) ∧ t.tim.flood = flood := by
  refine ⟨_, exec_trcSchedGo_hosted hh flood, ?_⟩
  rw [State.scheduleGo, (s.put TRC_SCHED_CTRL.FLOOD flood).takeSchedule_pends flood h0 hle]
  generalize s.rd (TRC_SCHED.TIME 0) + 2 ^ 32 * s.rd (TRC_SCHED.TIME 1) = x
  refine ⟨by simp +decide, ?_, rfl, rfl⟩
  rw [State.upTim_rd, State.on, State.rd_wr_ne _ _ _ _ (by decide), State.rd_wr_same]
  exact Nat.mod_mod ..

theorem exec_trcSchedGo_late {s : State} (flood : Bool) (hh : s.hosted = true)
    (h0 : s.rd (TRC_SCHED.TIME 0) + 2 ^ 32 * s.rd (TRC_SCHED.TIME 1) ≠ 0)
    (hlt : (s.rd (TRC_SCHED.TIME 0) + 2 ^ 32 * s.rd (TRC_SCHED.TIME 1)) * nsUnit < s.now) :
    ∃ t, exec (.trcSchedGo flood) s = .next t ∧ t.rd TRC_SCHED_CTRL.LATE = 1 ∧
      t.rd TRC_SCHED_CTRL.LATE_CNT = satInc 8 (s.rd TRC_SCHED_CTRL.LATE_CNT) ∧ t.tim.seen = (s.tim.seen + 1) % 256 ∧
      t.tim.latch = s.tim.latch := by
  obtain ⟨hlate, hcnt, hseen, hlatch⟩ := (s.put TRC_SCHED_CTRL.FLOOD flood).takeSchedule_late (number := (s.tim.seen + 1) % 256) flood h0 hlt
  refine ⟨_, exec_trcSchedGo_hosted hh flood, hlate, hcnt.trans (congrArg (satInc 8) ?_), hseen, hlatch⟩
  exact State.rd_wr_ne _ _ _ _ (by decide)

/-- A schedule that fires. -/
theorem State.fabricTo_timed {α : Type} {g : Tim → α} (hg : Timed g) (s : State) (f : Nat) : g (s.fabricTo f).tim = g s.tim := by
  unfold State.fabricTo
  split
  · rfl
  · exact s.advance_timed hg _

/-- Giving up an entry to IDLE, or none, leaves the time block alone. -/
theorem State.abandonEntry_quick {s : State} (h : s.powerState ≠ 2) : s.abandonEntry.tim = s.tim ∧ s.abandonEntry.now = s.now := by
  unfold State.abandonEntry
  split
  · exact ⟨rfl, rfl⟩
  · split
    · dsimp only
      split <;> exact ⟨rfl, rfl⟩
    · exact ⟨rfl, rfl⟩

theorem State.wakeDevice_quick {s : State} (h : s.powerState ≠ 2) (w : WakeSource) (port : Option Nat) :
    (s.wakeDevice w port).tim = s.tim ∧ (s.wakeDevice w port).now = s.now := by
  obtain ⟨htim, hnow⟩ := State.abandonEntry_quick h
  unfold State.wakeDevice
  dsimp only
  split_ifs
  · exact ⟨rfl, rfl⟩
  · exact ⟨by simp, by simp⟩
  · rw [State.takeFree]
    exact ⟨by simpa [State.deviceQuiet] using htim, by simpa [State.deviceQuiet] using hnow⟩
  · simp [htim, hnow]
  · exact ⟨htim, hnow⟩

theorem exec_scheduleFire_latches {s : State} (hp : s.bit TRC_SCHED_CTRL.PENDING = true) (hr : s.timeRuns = true)
    (hb : bitAt (s.rd TRC_TRIG_CTRL.SRC_EN) 3 = true) (hst : s.bit SNP_STATUS.STATE = false) (hl : s.tim.latch = none) :
    ∃ t, exec (.scheduleFire) s = .next t ∧ t.rd TRC_SCHED_CTRL.PENDING = 0 ∧
      t.tim.latch = some (s.tim.schedTime * nsUnit, 8) ∧ t.now = (s.fabricTo (s.tim.schedTime * nsUnit)).now := by
  have hexec : exec (.scheduleFire) s = .next (((((s.fabricTo (s.tim.schedTime * nsUnit)).wakeDevice .internal none).deviceQuiet).off
      TRC_SCHED_CTRL.PENDING).source 3 (s.tim.schedTime * nsUnit)) := by
    simp only [exec_scheduleFire_runs, execScheduleFire]
    rw [if_pos ⟨hp, hr⟩]
  obtain ⟨T, hT⟩ : ∃ T, s.tim.schedTime * nsUnit = T := ⟨_, rfl⟩
  rw [hT] at hexec ⊢
  have hquick : (s.fabricTo T).powerState ≠ 2 := by
    have hawake : s.powerState ≤ 1 := by
      have hruns := hr
      rw [State.timeRuns, State.awake] at hruns
      simp only [Bool.and_eq_true, decide_eq_true_eq] at hruns
      exact hruns.1.1
    rw [State.powerState, State.rd_fabricTo _ _ _ (by rw [fieldName_PWR_STATUS_STATE]; decide), ← State.powerState]
    omega
  obtain ⟨htim, hnow⟩ := State.wakeDevice_quick hquick .internal none
  have hkeeps : ∀ c : Cell, fp_wakeDevice.misses (fieldName c.key) = true → fp_fabricTo.misses (fieldName c.key) = true →
      (((s.fabricTo T).wakeDevice .internal none).deviceQuiet).rd c = s.rd c := by
    intro c hw hf
    rw [State.deviceQuiet, State.upPw_rd, State.rd_wakeDevice _ _ _ _ hw, State.rd_fabricTo _ _ _ hf]
  have hutim : (((s.fabricTo T).wakeDevice .internal none).deviceQuiet).tim.latch = none := by
    rw [State.deviceQuiet, State.upPw_tim, htim, s.fabricTo_timed timed_latch, hl]
  have hunow : (((s.fabricTo T).wakeDevice .internal none).deviceQuiet).now = (s.fabricTo T).now := hnow
  generalize ((s.fabricTo T).wakeDevice .internal none).deviceQuiet = u at hexec hkeeps hutim hunow
  have hsource : (u.off TRC_SCHED_CTRL.PENDING).source 3 T =
      (u.off TRC_SCHED_CTRL.PENDING).upTim (fun x => { x with latch := some (T, 2 ^ 3) }) := by
    refine State.source_latches T ?_ ?_ hutim
    · rw [State.off, State.rd_wr_ne _ _ _ _ (by decide), hkeeps _ (by rw [fieldName_TRC_TRIG_CTRL_SRC_EN]; decide)
        (by rw [fieldName_TRC_TRIG_CTRL_SRC_EN]; decide), hb]
    · rw [State.bit, State.off, State.rd_wr_ne _ _ _ _ (by decide), hkeeps _ (by rw [fieldName_SNP_STATUS_STATE]; decide)
        (by rw [fieldName_SNP_STATUS_STATE]; decide), ← State.bit, hst]
  rw [hsource] at hexec
  exact ⟨(u.off TRC_SCHED_CTRL.PENDING).upTim (fun x => { x with latch := some (T, 8) }), hexec,
    State.rd_off_same .., rfl, hunow⟩

/-! ## The latch (R380, R383) -/

theorem State.writeRecord_latch (s : State) (k w : Nat) (r : TraceRec) : (s.writeRecord k w r).tim.latch = s.tim.latch := by
  have hput : ∀ (xs : List (Nat × Nat × TraceRec)) (t : State), (xs.foldl (fun t e => t.putRecord k w e) t).tim = t.tim := by
    intro xs
    induction xs with
    | nil => exact fun _ => rfl
    | cons x xs ih => exact fun t => (ih _).trans (t.putRecord_tim k w x)
  unfold State.writeRecord
  split
  · rfl
  · dsimp only
    generalize (if (s.window k w).dropped = 0 then [r] else [s.dropRecordOf k w, r]) = recs
    generalize (s.rd (TRC_WIN_STATUS.STATE k w) == 3) = post
    split
    · exact congrArg Tim.latch (s.dropRecord_tim ..)
    · split
      · rfl
      · split <;> simp only [State.wr_tim, State.upTim_tim, State.upWin_tim, hput]

theorem State.triggerRecords_latch (s : State) (tl src : Nat) : (s.triggerRecords tl src).tim.latch = s.tim.latch :=
  State.each_part (fun t => t.tim.latch) _ _ _ (fun t k =>
    State.each_part (fun t => t.tim.latch) t _ _ (fun u w => u.writeRecord_latch k w _))

/-- What LATCH takes into its registers, before its records go to the windows. -/
def State.showsLatch (t : State) (tl src : Nat) : State :=
  let on := ((List.range 8).map (fun i => if t.tileState i = 2 then 2 ^ i else 0)).sum
  (((((((t.setSnap ⟨t.shownRegs, t.bct, t.halves, tl⟩).on SNP_STATUS.STATE).wr SNP_STATUS.SOURCES src).wrapUp SNP_STATUS.LATCH_ID).wr
    SNP_STATUS.TILES_LATCHED on).wr (SNP_TIME.TIME 0) (tl / nsUnit)).wr (SNP_TIME.TIME 1) (tl / nsUnit / 2 ^ 32)).upTim
      (fun x => { x with latch := none, latchedAt := t.elapsed })

theorem State.showsLatch_registers (t : State) {tl src : Nat} (hsrc : src < 16) :
    (t.showsLatch tl src).rd SNP_STATUS.STATE = 1 ∧ (t.showsLatch tl src).rd SNP_STATUS.SOURCES = src ∧
      (t.showsLatch tl src).rd SNP_STATUS.LATCH_ID = (t.rd SNP_STATUS.LATCH_ID + 1) % 256 ∧
      (t.showsLatch tl src).rd (SNP_TIME.TIME 0) = tl / nsUnit % 2 ^ 32 := by
  unfold State.showsLatch
  dsimp only
  generalize ((List.range 8).map (fun i => if t.tileState i = 2 then 2 ^ i else 0)).sum = on
  generalize tl / nsUnit = ns
  refine ⟨?_, ?_, ?_, ?_⟩
  · rw [State.upTim_rd]
    simp +decide
  · rw [State.upTim_rd]
    simp +decide
    omega
  · rw [State.upTim_rd]
    simp +decide
  · rw [State.upTim_rd, State.rd_wr_ne _ _ _ _ (by decide), State.rd_wr_same]
    rfl

theorem exec_latch_shows {s : State} {tl src : Nat} (ha : s.awake = true) (hl : s.tim.latch = some (tl, src)) (hsrc : src < 16) :
    ∃ t, exec (.latch) s = .next t ∧ t.rd SNP_STATUS.STATE = 1 ∧ t.rd SNP_STATUS.SOURCES = src ∧
      t.rd SNP_STATUS.LATCH_ID = (s.rd SNP_STATUS.LATCH_ID + 1) % 256 ∧ t.rd (SNP_TIME.TIME 0) = tl / nsUnit % 2 ^ 32 ∧
      t.tim.latch = none ∧ t.snap.bct = s.bct ∧ t.snap.halves = s.halves ∧ t.snap.now = tl := by
  have hexec : exec (.latch) s = .next (((s.fabricTo tl).showsLatch tl src).triggerRecords tl src) := by
    simp only [exec_latch_runs, execLatch, if_pos ha, hl]
    rfl
  obtain ⟨hstate, hsources, hid, htime⟩ := (s.fabricTo tl).showsLatch_registers (tl := tl) hsrc
  refine ⟨_, hexec, ?_, ?_, ?_, ?_, ?_, ?_, ?_, ?_⟩
  · rw [State.rd_triggerRecords _ _ _ _ (by rw [fieldName_SNP_STATUS_STATE]; decide), hstate]
  · rw [State.rd_triggerRecords _ _ _ _ (by rw [fieldName_SNP_STATUS_SOURCES]; decide), hsources]
  · rw [State.rd_triggerRecords _ _ _ _ (by rw [fieldName_SNP_STATUS_LATCH_ID]; decide), hid,
      State.rd_fabricTo _ _ _ (by rw [fieldName_SNP_STATUS_LATCH_ID]; decide)]
  · rw [State.rd_triggerRecords _ _ _ _ (by rw [fieldName_SNP_TIME_TIME]; decide), htime]
  · exact State.triggerRecords_latch ..
  · exact (congrArg Snapshot.bct (State.triggerRecords_snap ..)).trans (s.fabricTo_bct tl)
  · exact (congrArg Snapshot.halves (State.triggerRecords_snap ..)).trans (s.fabricTo_halves tl)
  · exact congrArg Snapshot.now (State.triggerRecords_snap ..)

theorem exec_rearm {s : State} (hh : s.hosted = true) : exec (.rearm) s = .next (s.off SNP_STATUS.STATE) :=
  congrArg Host.Outcome.next (State.hostWrite_hosted hh _)

theorem exec_autoRearmExpiry_rearms {s : State} (ha : s.awake = true) (hst : s.bit SNP_STATUS.STATE = true)
    (hd : s.rd SNP_CTRL.AUTO_REARM ≠ 0) : ∃ t, exec (.autoRearmExpiry) s = .next t ∧ t.rd SNP_STATUS.STATE = 0 ∧
      s.tim.latchedAt + s.rd SNP_CTRL.AUTO_REARM * usUnit ≤ t.elapsed := by
  have hexec : exec (.autoRearmExpiry) s =
      .next ((s.advanceTo (s.tim.latchedAt + s.rd SNP_CTRL.AUTO_REARM * usUnit)).off SNP_STATUS.STATE) := by
    simp only [exec_autoRearmExpiry_runs, execAutoRearmExpiry]
    rw [if_pos ⟨ha, hst, hd⟩]
  obtain ⟨e, he⟩ : ∃ e, s.tim.latchedAt + s.rd SNP_CTRL.AUTO_REARM * usUnit = e := ⟨_, rfl⟩
  rw [he] at hexec ⊢
  exact ⟨_, hexec, State.rd_off_same .., s.le_advanceTo_elapsed e⟩

/-- Settles O51. -/
theorem commonTriggerLatches : Obligations.CommonTriggerLatches :=
  ⟨fun _ _ _ _ _ => exec_trigger_latches, fun _ _ _ _ _ => exec_trigger_denied,
    fun _ hh hb hst hl hout => (exec_fire_hosted hh).trans (congrArg _ (State.sourceNow_latches hb hst hl hout)),
    fun _ => exec_fire_misses, fun _ stamp => exec_trigNEdge_latches stamp, fun _ stamp => exec_trigNEdge_ignored stamp,
    fun _ => exec_trigNRelease_releases, fun _ flood => exec_trcSchedGo_pends flood, fun _ flood => exec_trcSchedGo_late flood,
    fun _ => exec_scheduleFire_latches, fun _ _ _ => exec_latch_shows, fun _ => exec_rearm,
    fun _ => exec_autoRearmExpiry_rearms⟩

end Sys2Proof.Machine
end

section
/-! PROOFS. Resets of the device (14, R413, R415, R424). -/

set_option Elab.async false

namespace Sys2Proof.Machine

@[simp] theorem State.newEra_halves (s : State) (era : Nat) : (s.newEra era).halves = s.halves :=
  (Goes.newEra (Foot.le_refl _) (Goes.refl _ s)).part .halves (by decide)
/-! ## A Pin reset (R413, R415, R424, R436) -/

/-- A table cut down to some keys holds at them what it held. -/
theorem Tab.get_keep_true {α : Type} (t : Tab α) (d : α) {p : Nat → Bool} {k : Nat} (h : p k = true) :
    (t.keep p).get d k = t.get d k := by
  rw [Tab.get, Tab.get, Tab.keep, lookupKey_filter h]

/-- The state of a Pin reset before its reason is recorded. -/
def State.reborn (s : State) : State := (s.blank (s.regs.keep aonKey)).newEra (if s.era = 255 then 1 else s.era + 1)

theorem State.pinReset_reborn (s : State) (reason : Nat) : s.pinReset reason =
    (((s.reborn.showAddress).wr RST_STATUS.REASON reason).off RST_STATUS.BOOT_DONE).satUp RST_STATUS.PIN_CNT := rfl

/-- A register of the always-on domain keeps its value. -/
theorem State.rd_reborn (s : State) {c : Cell} (h : aonKey c.key = true) : s.reborn.rd c = s.rd c := by
  rw [State.reborn, State.rd_newEra_any, State.rd_blank, Tab.get_keep_true _ _ h]
  rfl

theorem State.pinReset_reason (s : State) {reason : Nat} (h : reason < 2 ^ RST_STATUS.REASON.width) :
    (s.pinReset reason).rd RST_STATUS.REASON = reason := by
  rw [s.pinReset_reborn, State.satUp, State.rd_wr_ne _ _ _ _ (by decide), State.off, State.rd_wr_ne _ _ _ _ (by decide), State.rd_wr_same]
  exact Nat.mod_eq_of_lt h

theorem State.pinReset_bootDone (s : State) (reason : Nat) : (s.pinReset reason).rd RST_STATUS.BOOT_DONE = 0 := by
  rw [s.pinReset_reborn, State.satUp, State.rd_wr_ne _ _ _ _ (by decide), State.rd_off_same]

theorem State.pinReset_pinCnt (s : State) (reason : Nat) :
    (s.pinReset reason).rd RST_STATUS.PIN_CNT = satInc 8 (s.rd RST_STATUS.PIN_CNT) := by
  rw [s.pinReset_reborn, State.rd_satUp_same, State.off, State.rd_wr_ne _ _ _ _ (by decide), State.rd_wr_ne _ _ _ _ (by decide),
    State.showAddress, State.rd_wr_ne _ _ _ _ (by decide), s.rd_reborn (by decide)]
  exact Nat.mod_eq_of_lt (satInc_lt 8 _)

/-- What a Pin reset leaves of the power block: the pins as the board drives them, and the last wake. -/
def Power.reborn (x : Power) : Power :=
  { inReset := true, resetN := x.resetN, lowRails := x.lowRails, aonReset := x.aonReset, straps := x.straps, wokeAt := x.wokeAt,
    wokeFrom := x.wokeFrom }

theorem State.pinReset_power (s : State) (reason : Nat) : (s.pinReset reason).power = s.power.reborn := by
  rw [s.pinReset_reborn, State.satUp_power, State.off_power, State.wr_power, State.showAddress, State.wr_power, State.reborn,
    State.newEra_power]
  rfl

theorem State.pinReset_halves (s : State) (reason : Nat) : (s.pinReset reason).halves = {} := by
  rw [s.pinReset_reborn, State.satUp_halves, State.off_halves, State.wr_halves, State.showAddress, State.wr_halves, State.reborn,
    State.newEra_halves]
  rfl

theorem State.pinReset_evq (s : State) (reason : Nat) : (s.pinReset reason).evq = [] := by
  rw [s.pinReset_reborn, State.satUp_evq, State.off_evq, State.wr_evq, State.showAddress, State.wr_evq, State.reborn,
    State.newEra_evq_nil rfl]

theorem State.pinReset_fuses (s : State) (reason : Nat) : (s.pinReset reason).fuses = s.fuses := by
  rw [s.pinReset_reborn, State.satUp_fuses, State.off_fuses, State.wr_fuses, State.showAddress, State.wr_fuses, State.reborn,
    State.newEra_fuses]
  rfl

/-- A source of a Pin reset outside a reset of the device. -/
theorem State.pinSource_fresh {s : State} (h : s.power.inReset = false) (reason : Nat) : s.pinSource reason = s.pinReset reason := by
  rw [State.pinSource, if_neg (by simp [h])]

/-! ## The sources of a reset -/

theorem exec_alwaysOnResetRelease_samples {s : State} (straps : Fin 8) (h : s.power.aonReset = true) :
    ∃ t, exec (.alwaysOnResetRelease straps) s = .next t ∧ t.power.aonReset = false ∧
      t.rd SB_STATUS.ADDRESS = 0x58 + straps.val ∧ t.rd PWR_STATUS.VID_CODE = 0x2C := by
  refine ⟨_, next_pos h, rfl, ?_, ?_⟩
  · rw [State.rd_wr_ne _ _ _ _ (by decide), State.showAddress, State.rd_wr_same]
    exact Nat.mod_eq_of_lt ((Nat.add_lt_add_left straps.isLt _).trans (by decide))
  · exact State.rd_wr_same ..

/-- A Pin reset of a device outside a reset, whatever its source. -/
theorem State.pinReset_fresh (s : State) (reason : Nat) : (s.pinReset reason).power.inReset = true ∧
    (s.pinReset reason).power.bootDue = false ∧ (s.pinReset reason).power.resetN = s.power.resetN ∧
    (s.pinReset reason).power.lowRails = s.power.lowRails := by
  rw [s.pinReset_power]
  exact ⟨rfl, rfl, rfl, rfl⟩

theorem exec_resetNAssert_resets {s : State} (hn : s.power.resetN = false) (hr : s.power.inReset = false) :
    ∃ t, exec (.resetNAssert) s = .next t ∧
      t.rd RST_STATUS.REASON = 1 ∧ t.rd RST_STATUS.BOOT_DONE = 0 ∧
      t.rd RST_STATUS.PIN_CNT = satInc 8 (s.rd RST_STATUS.PIN_CNT) ∧
      t.power.resetN = true ∧ t.power.inReset = true ∧ t.power.bootDue = false ∧
      t.halves = {} ∧ t.evq = [] ∧ t.fuses = s.fuses ∧ t.now = 0 ∧ t.quality = qINVALID := by
  have hexec : exec (.resetNAssert) s = .next ((s.upPw (fun x => { x with resetN := true })).pinSource 1) := next_neg (by simp [hn])
  have hcnt : (s.upPw (fun x => { x with resetN := true })).rd RST_STATUS.PIN_CNT = s.rd RST_STATUS.PIN_CNT := State.upPw_rd ..
  have hfuses : (s.upPw (fun x => { x with resetN := true })).fuses = s.fuses := rfl
  have hpin : (s.upPw (fun x => { x with resetN := true })).power.resetN = true := rfl
  have hout : (s.upPw (fun x => { x with resetN := true })).power.inReset = false := hr
  generalize s.upPw (fun x => { x with resetN := true }) = u at hexec hcnt hfuses hpin hout
  obtain ⟨hin, hdue, hresetN, -⟩ := u.pinReset_fresh 1
  obtain ⟨hnow, hquality⟩ := timeRestarted_pinReset u 1
  exact ⟨_, hexec.trans (congrArg _ (State.pinSource_fresh hout 1)), State.pinReset_reason _ (by decide),
    State.pinReset_bootDone .., (u.pinReset_pinCnt 1).trans (congrArg (satInc 8) hcnt), hresetN.trans hpin, hin, hdue, u.pinReset_halves 1,
    u.pinReset_evq 1, (u.pinReset_fuses 1).trans hfuses,
    hnow, hquality⟩

theorem exec_resetNDeassert_boots {s : State} (hn : s.power.resetN = true) (hr : s.power.inReset = true) (hb : s.power.bootDue = false)
    (ha : s.power.aonReset = false) (hl : s.power.lowRails = []) :
    exec (.resetNDeassert) s = .next (s.upPw (fun x => { x with resetN := false, bootDue := true })) := by
  simp only [exec_resetNDeassert_runs, execResetNDeassert]
  rw [if_pos ⟨hr, by simp [hb]⟩, if_neg (by simp [ha, hl]), if_pos hn, if_pos hn]
  rfl

/-- A rail whose monitor has fired. -/
def Power.fallen (x : Power) (rail : Rail) : Power :=
  { x with lowRails := if x.lowRails.contains rail then x.lowRails else x.lowRails ++ [rail] }

theorem Power.mem_fallen (x : Power) (rail : Rail) : rail ∈ (x.fallen rail).lowRails := by
  unfold Power.fallen
  dsimp only
  split
  · exact List.contains_iff_mem.1 ‹_›
  · exact List.mem_append_right _ (List.mem_singleton_self _)

theorem exec_supplyMonitor_resets {s : State} (rail : Rail) (h3 : s.powerState ≠ 3) (h4 : s.powerState ≠ 4)
    (ha : s.power.aonReset = false) (hr : s.power.inReset = false) : ∃ t, exec (.supplyMonitor rail) s = .next t ∧
      t.rd RST_STATUS.REASON = 3 ∧ rail ∈ t.power.lowRails ∧ t.power.inReset = true := by
  obtain ⟨hin, -, -, hrails⟩ := (s.upPw (fun x => x.fallen rail)).pinReset_fresh 3
  refine ⟨_, (next_neg (by simp [h3, h4, ha])).trans (congrArg _ (State.pinSource_fresh (s := s.upPw (fun x => x.fallen rail)) hr 3)),
    State.pinReset_reason _ (by decide), ?_, hin⟩
  rw [hrails]
  exact s.power.mem_fallen rail

theorem exec_rstDevice_resets {s : State} {key : Nat} (hh : s.hosted = true) (h1 : s.powerState ≠ 1) (hk : key % 256 = 0x5A)
    (hr : s.power.inReset = false) : ∃ t, exec (.rstDevice key) s = .next t ∧ t.rd RST_STATUS.REASON = 2 ∧ t.power.inReset = true := by
  have hexec : exec (.rstDevice key) s = .next (s.pinReset 2) :=
    congrArg Host.Outcome.next ((State.hostCmd_awake h1 _).trans ((if_pos hh).trans ((if_pos hk).trans (State.pinSource_fresh hr 2))))
  exact ⟨_, hexec, State.pinReset_reason _ (by decide), (s.pinReset_fresh 2).1⟩

theorem exec_rstDevice_keyless {s : State} {key : Nat} (hh : s.hosted = true) (h1 : s.powerState ≠ 1) (hk : key % 256 ≠ 0x5A) :
    exec (.rstDevice key) s = .next s :=
  congrArg Host.Outcome.next ((State.hostCmd_awake h1 _).trans ((if_pos hh).trans (if_neg hk)))

/-- Settles O57. -/
theorem deviceResetsLeaveTheirReason : Obligations.DeviceResetsLeaveTheirReason :=
  ⟨fun _ straps => exec_alwaysOnResetRelease_samples straps, fun _ => exec_resetNAssert_resets, fun _ => exec_resetNDeassert_boots,
    fun _ rail => exec_supplyMonitor_resets rail, fun _ => rfl, fun _ _ => exec_rstDevice_resets, fun _ _ => exec_rstDevice_keyless⟩

end Sys2Proof.Machine
end

section
/-! PROOFS. The wake sources (13, R401, R403 to R405). -/

set_option Elab.async false

namespace Sys2Proof.Machine

@[simp] theorem State.recordWake_elapsed (s : State) (w : WakeSource) (port : Option Nat) (from_ : Nat) : (s.recordWake w port from_).elapsed = s.elapsed :=
  (Goes.recordWake (Foot.le_refl _) (Goes.refl _ s)).part .elapsed (by decide)
@[simp] theorem State.recordWake_ports (s : State) (w : WakeSource) (port : Option Nat) (from_ : Nat) : (s.recordWake w port from_).ports = s.ports :=
  (Goes.recordWake (Foot.le_refl _) (Goes.refl _ s)).part .ports (by decide)
@[simp] theorem State.setLevel_power (s : State) (l : Nat) : (s.setLevel l).power = s.power :=
  (Goes.setLevel (Foot.le_refl _) (Goes.refl _ s)).part .power (by decide)
@[simp] theorem State.wakeTile_elapsed (s : State) (t : Nat) : (s.wakeTile t).elapsed = s.elapsed :=
  (Goes.wakeTile (Foot.le_refl _) (Goes.refl _ s)).part .elapsed (by decide)
@[simp] theorem State.joinWake_elapsed (s : State) (w : WakeSource) (port : Option Nat) : (s.joinWake w port).elapsed = s.elapsed :=
  (Goes.joinWake (Foot.le_refl _) (Goes.refl _ s)).part .elapsed (by decide)
@[simp] theorem State.wakeDevice_elapsed (s : State) (w : WakeSource) (port : Option Nat) : (s.wakeDevice w port).elapsed = s.elapsed :=
  (Goes.wakeDevice (Foot.le_refl _) (Goes.refl _ s)).part .elapsed (by decide)
/-! ## Wakes of the device (R400, R401, R403) -/

/-- A source in SLEEP or DEEP: the voltage is raised, and the wake is under way. -/
def State.raised (s : State) (w : WakeSource) : State :=
  ((s.recordWake w none s.powerState).setLevel s.requiredLevel).upPw (fun x => { x with
    wake := some ⟨s.powerState, s.elapsed, false⟩, timerAt := none, vidAt := s.elapsed })

/-- A source in IDLE: RUN at once. -/
def State.roused (s : State) (w : WakeSource) : State :=
  let t := ((s.recordWake w none 1).wr PWR_STATUS.STATE 0).deviceQuiet
  (t.takeFree).2.wr PWR_WAKE_STATUS.WAKE_US (t.takeFree.1 % 2)

theorem State.abandonEntry_none {s : State} (h : s.power.entry = none) : s.abandonEntry = s := by
  rw [State.abandonEntry, h]

theorem State.wakeDevice_raises {s : State} {w : WakeSource} (hr : s.power.inReset = false) (hw : s.power.wake = none)
    (he : s.power.entry = none) (hst : s.powerState = 2 ∨ s.powerState = 3) (hwakes : w.wakes s.powerState = true) :
    s.wakeDevice w none = s.raised w := by
  have hidle : s.powerState ≠ 1 := by omega
  simp only [State.wakeDevice, State.abandonEntry_none he, he]
  rw [if_neg (by simp [hr]), if_neg (by simp [hw, hwakes]), if_neg hidle, if_pos hst]
  rfl

theorem State.wakeDevice_rouses {s : State} {w : WakeSource} (hr : s.power.inReset = false) (hw : s.power.wake = none)
    (he : s.power.entry = none) (hst : s.powerState = 1) (hwakes : w.wakes 1 = true) : s.wakeDevice w none = s.roused w := by
  simp only [State.wakeDevice, State.abandonEntry_none he, he]
  rw [if_neg (by simp [hr]), if_neg (by simp [hw, hst, hwakes]), if_pos hst]
  rfl

theorem State.wakeDevice_joins {s : State} {w : WakeSource} {x : Wake} (hr : s.power.inReset = false) (hw : s.power.wake = some x) :
    s.wakeDevice w none = s.joinWake w none := by
  simp only [State.wakeDevice]
  rw [if_neg (by simp [hr]), if_pos (by simp [hw])]

theorem levelCode_lt (n : Nat) : levelCode n < 2 ^ PWR_STATUS.VID_CODE.width :=
  match n with
  | 0 | 1 | 2 | 3 => by decide
  | n + 4 => by
    rw [levelCode, List.getD_eq_default _ _ (by simp)]
    decide

theorem State.recordWake_rd (s : State) (w : WakeSource) (n : Nat) (c : Cell) :
    (s.recordWake w none n).rd c = ((s.on w.cell).wr PWR_WAKE_SOURCE.FROM_STATE n).rd c := State.upPw_rd ..

/-- What a raised wake shows, whatever its source. -/
theorem State.raised_shows (s : State) (w : WakeSource) (hst : s.powerState = 2 ∨ s.powerState = 3) :
    (s.raised w).power.wake = some ⟨s.powerState, s.elapsed, false⟩ ∧ (s.raised w).rd w.cell = 1 ∧
      (s.raised w).rd PWR_WAKE_SOURCE.FROM_STATE = s.powerState ∧ (s.raised w).rd PWR_STATUS.VID_CODE = levelCode s.requiredLevel ∧
      (s.raised w).powerState = s.powerState := by
  have hpast : ∀ c : Cell, c.key ≠ PWR_STATUS.PL.key → c.key ≠ PWR_STATUS.VID_CODE.key →
      (s.raised w).rd c = ((s.on w.cell).wr PWR_WAKE_SOURCE.FROM_STATE s.powerState).rd c := by
    intro c hpl hvid
    rw [State.raised, State.upPw_rd, State.setLevel, State.rd_wr_ne _ _ _ _ hvid, State.rd_wr_ne _ _ _ _ hpl, State.recordWake_rd]
  refine ⟨rfl, ?_, ?_, ?_, ?_⟩
  · rw [hpast _ (by cases w <;> decide) (by cases w <;> decide), State.rd_wr_ne _ _ _ _ (by cases w <;> decide), State.rd_on_same]
    cases w <;> rfl
  · rw [hpast _ (by decide) (by decide), State.rd_wr_same]
    rcases hst with h | h <;> rw [h] <;> rfl
  · rw [State.raised, State.upPw_rd, State.setLevel, State.rd_wr_same]
    exact Nat.mod_eq_of_lt (levelCode_lt _)
  · rw [State.powerState, hpast _ (by decide) (by decide), State.rd_wr_ne _ _ _ _ (by decide), State.on,
      State.rd_wr_ne _ _ _ _ (by cases w <;> decide)]
    rfl

theorem State.raised_elapsed (s : State) (w : WakeSource) : (s.raised w).elapsed = s.elapsed := by
  rw [State.raised, State.upPw_elapsed, State.setLevel, State.wr_elapsed, State.wr_elapsed, State.recordWake_elapsed]

theorem State.roused_shows (s : State) (w : WakeSource) : (s.roused w).powerState = 0 ∧ (s.roused w).rd w.cell = 1 ∧
    (s.roused w).rd PWR_WAKE_SOURCE.FROM_STATE = 1 := by
  have hcell : ∀ c : Cell, c.key ≠ PWR_WAKE_STATUS.WAKE_US.key → (s.roused w).rd c =
      (((s.on w.cell).wr PWR_WAKE_SOURCE.FROM_STATE 1).wr PWR_STATUS.STATE 0).rd c := by
    intro c h
    rw [State.roused, State.rd_wr_ne _ _ _ _ h]
    rfl
  refine ⟨?_, ?_, ?_⟩
  · rw [State.powerState, hcell _ (by decide), State.rd_wr_same]
    rfl
  · rw [hcell _ (by cases w <;> decide), State.rd_wr_ne _ _ _ _ (by cases w <;> decide), State.rd_wr_ne _ _ _ _ (by cases w <;> decide),
      State.rd_on_same]
    cases w <;> rfl
  · rw [hcell _ (by decide), State.rd_wr_ne _ _ _ _ (by decide), State.rd_wr_same]
    rfl

/-! ## SB_ADDRESS_MATCH, MGMT_LINK_WAKE and WAKE_IN (R401, R402, R405) -/

/-- The message that begins changes SB_CNT and the mark of a message alone. -/
theorem State.sbBegin_keeps (s : State) : s.sbBegin.power.wake = s.power.wake ∧ s.sbBegin.power.sealed = s.power.sealed ∧
    (s.sbBegin.power.timeAt, s.sbBegin.power.edgeAt, s.sbBegin.power.uncertAt) = (s.power.timeAt, s.power.edgeAt, s.power.uncertAt) ∧
    ∀ c : Cell, c.key ≠ SB_CNT.MESSAGES.key → s.sbBegin.rd c = s.rd c := by
  unfold State.sbBegin
  split
  · exact ⟨rfl, rfl, rfl, fun _ _ => rfl⟩
  · exact ⟨rfl, rfl, rfl, fun _ h => State.rd_wr_ne _ _ _ _ h⟩

theorem State.sbBegin_counts (s : State) : s.sbBegin.power.sbBusy = true ∧
    s.sbBegin.rd SB_CNT.MESSAGES = if s.power.sbBusy = true then s.rd SB_CNT.MESSAGES else (s.rd SB_CNT.MESSAGES + 1) % 2 ^ 16 := by
  unfold State.sbBegin
  split
  · exact ⟨‹_›, rfl⟩
  · exact ⟨rfl, State.rd_wrapUp_same ..⟩

theorem exec_sbAddressMatch_begins {s : State} (h : (s.wakeDevice .sbMatch none).powerState ≤ 2) (hr : s.power.inReset = false) :
    exec (.sbAddressMatch) s = .next (s.wakeDevice .sbMatch none).sbBegin := next_pos (.inr ⟨h, by simp [hr]⟩)

theorem exec_sbAddressMatch_raises {s : State} (hst : s.powerState = 2 ∨ s.powerState = 3) (hr : s.power.inReset = false)
    (hw : s.power.wake = none) (he : s.power.entry = none) : ∃ t, exec (.sbAddressMatch) s = .next t ∧
      t.power.wake = some ⟨s.powerState, s.elapsed, false⟩ ∧ t.rd PWR_WAKE_SOURCE.SB_MATCH = 1 ∧
      t.rd PWR_WAKE_SOURCE.FROM_STATE = s.powerState ∧ t.rd PWR_STATUS.VID_CODE = levelCode s.requiredLevel ∧
      t.powerState = s.powerState ∧ (s.powerState = 2 → t.power.sbBusy = true ∧ t.rd SB_CNT.MESSAGES =
        if s.power.sbBusy = true then s.rd SB_CNT.MESSAGES else (s.rd SB_CNT.MESSAGES + 1) % 2 ^ 16) := by
  obtain ⟨hwake, hcell, hfrom, hvid, hstate⟩ := s.raised_shows .sbMatch hst
  have hraise := State.wakeDevice_raises (w := .sbMatch) hr hw he hst (by rcases hst with h | h <;> rw [h] <;> rfl)
  obtain ⟨kwake, -, -, krd⟩ := (s.raised .sbMatch).sbBegin_keeps
  rcases hst with h2 | h3
  · obtain ⟨hbusy, hcount⟩ := (s.raised .sbMatch).sbBegin_counts
    have hexec := exec_sbAddressMatch_begins (s := s) (by rw [hraise, hstate, h2]) hr
    rw [hraise] at hexec
    have hmessages : (s.raised .sbMatch).rd SB_CNT.MESSAGES = s.rd SB_CNT.MESSAGES := by
      rw [State.raised, State.upPw_rd, State.setLevel, State.rd_wr_ne _ _ _ _ (by decide), State.rd_wr_ne _ _ _ _ (by decide),
        State.recordWake_rd, State.rd_wr_ne _ _ _ _ (by decide), State.on, State.rd_wr_ne _ _ _ _ (by decide)]
    rw [hmessages] at hcount
    exact ⟨_, hexec, kwake.trans hwake, (krd _ (by decide)).trans hcell, (krd _ (by decide)).trans hfrom,
      (krd _ (by decide)).trans hvid, (krd _ (by decide)).trans hstate, fun _ => ⟨hbusy, hcount⟩⟩
  · have hnot : ¬ s.powerState = 2 := by omega
    have hexec : exec (.sbAddressMatch) s = .next (s.raised .sbMatch) := by
      refine (next_neg ?_).trans (congrArg _ hraise)
      rw [hraise]
      simp [State.sbUp, hstate, h3]
    exact ⟨_, hexec, hwake, hcell, hfrom, hvid, hstate, fun h => absurd h hnot⟩

/-- What an entry to SLEEP or DEEP gives back when it is abandoned, no clock having been changed (R400, R426). -/
theorem State.abandonEntry_returns {s : State} {en : PowerEntry} (h2 : s.powerState ≠ 2) (he : s.power.entry = some en)
    (hc : s.elapsed < en.commitAt) (hclocks : en.clocks = none) : s.abandonEntry =
      (((s.upPw (fun x => { x with
        entry := none, sealed := false, timeAt := en.edge.1, edgeAt := en.edge.2.1, uncertAt := en.edge.2.2 })).wr PWR_STATUS.STATE
          en.state).wr PWR_STATUS.VID_CODE en.vid).on PWR_WAKE_STATUS.ABANDONED := by
  simp only [State.abandonEntry, he, hclocks]
  rw [if_pos hc, if_neg h2]

theorem exec_sbAddressMatch_abandons {s : State} {en : PowerEntry} (h3 : s.powerState = 3) (hr : s.power.inReset = false)
    (hw : s.power.wake = none) (he : s.power.entry = some en) (hc : s.elapsed < en.commitAt) (hen : en.state = 2)
    (hclocks : en.clocks = none) : ∃ t, exec (.sbAddressMatch) s = .next t ∧ t.rd PWR_WAKE_STATUS.ABANDONED = 1 ∧ t.powerState = 2 ∧
      t.power.wake = some ⟨2, s.elapsed, false⟩ ∧ t.power.sealed = false ∧
      (t.power.timeAt, t.power.edgeAt, t.power.uncertAt) = en.edge := by
  have hback := State.abandonEntry_returns (by omega) he hc hclocks
  have hstate : s.abandonEntry.powerState = 2 := by
    rw [hback, State.powerState, State.on, State.rd_wr_ne _ _ _ _ (by decide), State.rd_wr_ne _ _ _ _ (by decide), State.rd_wr_same, hen]
    rfl
  have hshown : s.abandonEntry.rd PWR_WAKE_STATUS.ABANDONED = 1 := by
    rw [hback]
    exact State.rd_on_same ..
  have helapsed : s.abandonEntry.elapsed = s.elapsed := by rw [hback]; rfl
  have hpower : s.abandonEntry.power.sealed = false ∧
      (s.abandonEntry.power.timeAt, s.abandonEntry.power.edgeAt, s.abandonEntry.power.uncertAt) = en.edge := by
    rw [hback]
    exact ⟨rfl, rfl⟩
  have hraise : s.wakeDevice .sbMatch none = s.abandonEntry.raised .sbMatch := by
    simp only [State.wakeDevice, he, if_pos hc, hen]
    rw [if_neg (by simp [hr]), if_neg (by simp [hw]; rfl), if_neg (by omega), if_pos (.inl hstate)]
    rfl
  obtain ⟨hwake, -, -, -, hkeeps⟩ := s.abandonEntry.raised_shows .sbMatch (.inl hstate)
  rw [hstate] at hkeeps
  obtain ⟨kwake, kseal, kedge, krd⟩ := (s.abandonEntry.raised .sbMatch).sbBegin_keeps
  have hexec := exec_sbAddressMatch_begins (s := s) (by rw [hraise, hkeeps]) hr
  rw [hraise] at hexec
  refine ⟨_, hexec, (krd _ (by decide)).trans ?_, (krd _ (by decide)).trans hkeeps, kwake.trans ?_, kseal.trans hpower.1, kedge.trans hpower.2⟩
  · rw [State.raised, State.upPw_rd, State.setLevel, State.rd_wr_ne _ _ _ _ (by decide), State.rd_wr_ne _ _ _ _ (by decide),
      State.recordWake_rd, State.rd_wr_ne _ _ _ _ (by decide), State.on, State.rd_wr_ne _ _ _ _ (by decide), hshown]
  · rw [hwake, hstate, helapsed]

theorem exec_mgmtLinkWake_rouses {s : State} (hst : s.powerState = 1) (hr : s.power.inReset = false) (hw : s.power.wake = none)
    (he : s.power.entry = none) : ∃ t, exec (.mgmtLinkWake) s = .next t ∧ t.powerState = 0 ∧
      t.rd PWR_WAKE_SOURCE.MGMT_LINK = 1 ∧ t.rd PWR_WAKE_SOURCE.FROM_STATE = 1 :=
  ⟨_, (next_neg (by omega)).trans (congrArg _ (State.wakeDevice_rouses (w := .mgmtLink) hr hw he hst rfl)), s.roused_shows .mgmtLink⟩

theorem exec_wakeIn_resets {s : State} (hst : s.powerState = 4) (hr : s.power.inReset = false) : ∃ t, exec (.wakeIn) s = .next t ∧
    t.rd RST_STATUS.REASON = 4 ∧ t.rd RST_STATUS.BOOT_DONE = 0 ∧ t.power.inReset = true ∧
    t.rd PWR_WAKE_SOURCE.WAKE_IN = 1 ∧ t.rd PWR_WAKE_SOURCE.FROM_STATE = 4 := by
  have hexec : exec (.wakeIn) s = .next (((s.recordWake .wakeIn none 4).pinReset 4).wr SB_STATUS.ALERT_PENDING
      (s.rd SB_STATUS.ALERT_PENDING)) := next_pos ⟨hst, by simp [hr]⟩
  have hkept : ∀ c : Cell, c.key ≠ SB_STATUS.ADDRESS.key → c.key ≠ RST_STATUS.REASON.key → c.key ≠ RST_STATUS.BOOT_DONE.key →
      c.key ≠ RST_STATUS.PIN_CNT.key → aonKey c.key = true →
      ((s.recordWake .wakeIn none 4).pinReset 4).rd c = (s.recordWake .wakeIn none 4).rd c := by
    intro c h1 h2 h3 h4 haon
    rw [State.pinReset_reborn, State.satUp, State.rd_wr_ne _ _ _ _ h4, State.off, State.rd_wr_ne _ _ _ _ h3, State.rd_wr_ne _ _ _ _ h2,
      State.showAddress, State.rd_wr_ne _ _ _ _ h1, State.rd_reborn _ haon]
  refine ⟨_, hexec, ?_, ?_, ?_, ?_, ?_⟩
  · rw [State.rd_wr_ne _ _ _ _ (by decide), State.pinReset_reason _ (by decide)]
  · rw [State.rd_wr_ne _ _ _ _ (by decide), State.pinReset_bootDone]
  · rw [State.wr_power]
    exact (State.pinReset_fresh _ 4).1
  · rw [State.rd_wr_ne _ _ _ _ (by decide), hkept _ (by decide) (by decide) (by decide) (by decide) (by decide), State.recordWake_rd,
      State.rd_wr_ne _ _ _ _ (by decide)]
    exact State.rd_on_same ..
  · rw [State.rd_wr_ne _ _ _ _ (by decide), hkept _ (by decide) (by decide) (by decide) (by decide) (by decide), State.recordWake_rd,
      State.rd_wr_same]
    rfl

theorem exec_wakeIn_wakes {s : State} (h : s.powerState ≠ 4) : exec (.wakeIn) s = .next (s.wakeDevice .wakeIn none) :=
  next_neg (by simp [h])

theorem exec_wakeIn_raises {s : State} (hst : s.powerState = 2) (hr : s.power.inReset = false) (hw : s.power.wake = none)
    (he : s.power.entry = none) : ∃ t, exec (.wakeIn) s = .next t ∧ t.power.wake = some ⟨2, s.elapsed, false⟩ ∧
      t.rd PWR_WAKE_SOURCE.WAKE_IN = 1 := by
  obtain ⟨hwake, hcell, -⟩ := s.raised_shows .wakeIn (.inl hst)
  rw [hst] at hwake
  exact ⟨_, (exec_wakeIn_wakes (by omega)).trans (congrArg _ (State.wakeDevice_raises hr hw he (.inl hst) (by rw [hst]; rfl))), hwake, hcell⟩

theorem exec_wakeIn_joins {s : State} {w : Wake} (hst : s.powerState = 2) (hr : s.power.inReset = false) (hw : s.power.wake = some w)
    (hfrom : s.power.wokeFrom = 2) (hat : s.power.wokeAt = s.elapsed) : exec (.wakeIn) s = .next (s.on PWR_WAKE_SOURCE.WAKE_IN) := by
  rw [exec_wakeIn_wakes (by omega), State.wakeDevice_joins hr hw, State.joinWake, if_pos ⟨hat, by rw [hfrom]; rfl⟩]
  rfl

theorem exec_wakeIn_late {s : State} {w : Wake} (hst : s.powerState = 2) (hr : s.power.inReset = false) (hw : s.power.wake = some w)
    (hat : s.power.wokeAt < s.elapsed) : exec (.wakeIn) s = .next s := by
  rw [exec_wakeIn_wakes (by omega), State.wakeDevice_joins hr hw, State.joinWake, if_neg (by omega)]

/-! ## Park polls (R404) -/

theorem State.portActive_advanceTo (s : State) (e p : Nat) : (s.advanceTo e).portActive p = s.portActive p := by
  unfold State.portActive State.enabled State.segState State.bit
  simp +decide [State.trn_advanceTo, (s.sameMap_advanceTo e).isSeg, State.advanceTo_portx]

theorem State.parked_advanceTo (s : State) (e t : Nat) : (s.advanceTo e).parked t = s.parked t := by
  unfold State.parked State.portsOf State.tileState State.enabled State.tileOf State.bit
  simp +decide [State.portActive_advanceTo]

/-- A tile that may wake. -/
def State.wakesTiles (s : State) : Prop := s.powerState ≤ 2 ∧ s.power.inReset = false ∧ s.resetsHeld = false

theorem State.wakeTile_wakes {s : State} {i : Nat} (h : s.wakesTiles) (hi : i < 8) (h0 : s.tileState i = 0) :
    (s.wakeTile i).tileState i = 1 := by
  obtain ⟨hst, hr, hheld⟩ := h
  rw [State.wakeTile, if_pos ⟨h0, by simp [hheld], hi, hst, by simp [hr]⟩]
  exact State.rd_wr_same ..

theorem GLB_TILE_STATUS.LT_ne {i j : Nat} (hi : i < 8) (hj : j < 8) (h : i ≠ j) :
    (GLB_TILE_STATUS.LT i).key ≠ (GLB_TILE_STATUS.LT j).key := by
  simp only [GLB_TILE_STATUS.LT, Cell.key, ne_eq]
  omega

theorem State.wakeTile_stays {s : State} {i : Nat} (hi : i < 8) (j : Nat) (h : s.tileState i = 1) : (s.wakeTile j).tileState i = 1 := by
  unfold State.wakeTile
  split
  · by_cases hij : i = j
    · rw [hij]
      exact State.rd_wr_same ..
    · rw [State.tileState, State.upPw_rd, State.rd_wr_ne _ _ _ _ (GLB_TILE_STATUS.LT_ne hi (by omega) hij)]
      exact h
  · exact h

/-- A wake asked for of a tile queues it for its ramp, and changes nothing else of the power block. -/
theorem State.wakeTile_power {α : Type} {g : Power → α} (hg : ∀ x r, g { x with ramp := r } = g x) (s : State) (j : Nat) :
    g (s.wakeTile j).power = g s.power := by
  unfold State.wakeTile
  split
  · exact hg _ _
  · rfl

theorem State.resetsHeld_congr {s t : State} (hp : t.power.thermtrip = s.power.thermtrip)
    (hc : t.rd CLK_STATUS.REFCLK_OK = s.rd CLK_STATUS.REFCLK_OK) : t.resetsHeld = s.resetsHeld := by
  rw [State.resetsHeld, State.resetsHeld, State.bit, State.bit, hp, hc]

theorem State.wakesTiles_wakeTile {s : State} (h : s.wakesTiles) (j : Nat) : (s.wakeTile j).wakesTiles := by
  obtain ⟨hst, hr, hheld⟩ := h
  refine ⟨?_, ?_, ?_⟩
  · rw [State.powerState, State.rd_wakeTile _ _ _ (by rw [fieldName_PWR_STATUS_STATE]; decide)]
    exact hst
  · rw [State.wakeTile_power (g := Power.inReset) (fun _ _ => rfl), hr]
  · rw [State.resetsHeld_congr (State.wakeTile_power (g := Power.thermtrip) (fun _ _ => rfl) s j)
      (State.rd_wakeTile _ _ _ (by rw [fieldName_CLK_STATUS_REFCLK_OK]; decide)), hheld]

/-- The tiles asked to wake together wake, where nothing forbids it. -/
theorem State.each_wakeTile_wakes {s : State} {i : Nat} {xs : List Nat} (hm : i ∈ xs) (h : s.wakesTiles) (hi : i < 8)
    (h0 : s.tileState i = 0 ∨ s.tileState i = 1) : (s.each xs State.wakeTile).tileState i = 1 := by
  induction xs generalizing s with
  | nil => cases hm
  | cons j xs ih =>
    have hstay : ∀ (ys : List Nat) (t : State), t.tileState i = 1 → (t.each ys State.wakeTile).tileState i = 1 := fun ys t ht =>
      State.each_induction (P := fun u => u.tileState i = 1) _ _ ht (fun _ x _ hu => State.wakeTile_stays hi x hu)
    show ((s.wakeTile j).each xs State.wakeTile).tileState i = 1
    rcases h0 with h0 | h1
    · by_cases hij : i = j
      · exact hstay _ _ (hij ▸ State.wakeTile_wakes h hi h0)
      · refine ih ((List.mem_cons.1 hm).resolve_left hij) (State.wakesTiles_wakeTile h j) (.inl ?_)
        unfold State.wakeTile
        split
        · rw [State.tileState, State.upPw_rd, State.rd_wr_ne _ _ _ _ (GLB_TILE_STATUS.LT_ne hi (by omega) hij)]
          exact h0
        · exact h0
    · exact hstay _ _ (State.wakeTile_stays hi j h1)

theorem State.loadReplicas_power (s : State) (f : Nat → Nat) : (s.loadReplicas f).power = s.power := rfl

/-- Passing time changes of the power block the time in RUN alone. -/
theorem State.advanceTo_power {α : Type} {g : Power → α} (hg : ∀ x n, g { x with ranFor := n } = g x) (s : State) (e : Nat) :
    g (s.advanceTo e).power = g s.power := by
  have hslew : ∀ (t : State) (p : Prop) [Decidable p], (if p then t.off TIM_STATUS.SLEWING else t).power = t.power := by
    intro t p _
    split <;> rfl
  have hbound : ∀ (t : State) (p : Prop) [Decidable p] (v : Nat), (if p then t.wr TIM_UNCERT.BOUND v else t).power = t.power := by
    intro t p _ v
    split <;> rfl
  unfold State.advanceTo
  split
  · rfl
  · unfold State.advance
    dsimp only
    rw [hbound, hslew]
    split
    · rw [State.upPw_power, hg]
      simp only [State.upTim_power, State.loadReplicas_power, State.setTime_power, State.setElapsed_power]
    · simp only [State.upTim_power, State.loadReplicas_power, State.setTime_power, State.setElapsed_power]

/-- The reset of the device and THERMTRIP_N are no part of a wake. -/
def State.samePins (s t : State) : Prop := t.power.inReset = s.power.inReset ∧ t.power.thermtrip = s.power.thermtrip

theorem State.abandonEntry_pins (s : State) : s.samePins s.abandonEntry := by
  have hsetAt : ∀ (p : Prop) [Decidable p] (v l : Nat),
      (if p then (s.setAt v).upTim (fun x => { x with slew := x.slew + l }) else s).power = s.power := by
    intro p _ v l
    split <;> rfl
  unfold State.abandonEntry
  split
  · exact ⟨rfl, rfl⟩
  · dsimp only
    split
    · split
      · simp only [State.samePins, State.on_power, State.wr_power, State.upPw_power, hsetAt, and_self]
      · simp only [State.samePins, State.on_power, State.wr_power, State.upPw_power, hsetAt, and_self]
    · exact ⟨rfl, rfl⟩

theorem State.joinWake_pins (s : State) (w : WakeSource) : s.samePins (s.joinWake w none) := by
  unfold State.joinWake
  split <;> exact ⟨rfl, rfl⟩

/-- The power state that a wake source finds: that from which an entry under way sets out, up to its commit point. -/
def State.wokenFrom (s : State) : Nat :=
  match s.power.entry with
  | some e => if s.elapsed < e.commitAt then e.state else s.powerState
  | none => s.powerState

theorem State.wakeDevice_iff (s : State) (w : WakeSource) : s.wakeDevice w none =
    if s.power.inReset then s else if !w.wakes s.wokenFrom || s.power.wake.isSome then s.joinWake w none
    else if s.abandonEntry.powerState = 1 then s.abandonEntry.roused w
    else if s.abandonEntry.powerState = 2 ∨ s.abandonEntry.powerState = 3 then s.abandonEntry.raised w else s.abandonEntry := rfl

theorem State.wakeDevice_pins (s : State) (w : WakeSource) : s.samePins (s.wakeDevice w none) := by
  have hback := s.abandonEntry_pins
  have hroused : s.samePins (s.abandonEntry.roused w) := by
    simp only [State.samePins, State.roused, State.takeFree, State.wr_power, State.deviceQuiet, State.upPw_power, State.recordWake]
    exact hback
  have hraised : s.samePins (s.abandonEntry.raised w) := by
    simp only [State.samePins, State.raised, State.wr_power, State.setLevel, State.upPw_power, State.recordWake]
    exact hback
  rw [s.wakeDevice_iff]
  split
  · exact ⟨rfl, rfl⟩
  · split
    · exact s.joinWake_pins w
    · split
      · exact hroused
      · split
        · exact hraised
        · exact hback


/-- The state that an entry to SLEEP or DEEP under way gives back. -/
theorem State.abandonEntry_state (s : State) (h : s.wokenFrom ≤ 2) : s.abandonEntry.powerState ≤ 2 := by
  have hwritten : ∀ (t : State) (v vid : Nat), v ≤ 2 → ((t.wr PWR_STATUS.STATE v).wr PWR_STATUS.VID_CODE vid).rd PWR_STATUS.STATE ≤ 2 := by
    intro t v vid hv
    rw [State.rd_wr_ne _ _ _ _ (by decide), State.rd_wr_same]
    exact (Nat.mod_le _ _).trans hv
  unfold State.wokenFrom at h
  unfold State.abandonEntry
  split
  case h_1 hnone =>
    rw [hnone] at h
    exact h
  case h_2 e hsome =>
    rw [hsome] at h
    dsimp only at h ⊢
    split
    case isTrue hbefore =>
      rw [if_pos hbefore] at h
      rw [State.powerState, State.on, State.rd_wr_ne _ _ _ _ (by decide)]
      split
      · rw [State.rd_wr_ne _ _ _ _ (by decide), State.rd_wr_ne _ _ _ _ (by decide), State.rd_wr_ne _ _ _ _ (by decide),
          State.rd_wr_ne _ _ _ _ (by decide)]
        exact hwritten _ _ _ h
      · exact hwritten _ _ _ h
    case isFalse hafter =>
      rw [if_neg hafter] at h
      exact h

theorem State.wakeDevice_low {s : State} {w : WakeSource} (hst : s.powerState ≤ 2) (hw : ∀ n, w.wakes n = true → n ≤ 2) :
    (s.wakeDevice w none).powerState ≤ 2 := by
  rw [s.wakeDevice_iff]
  split
  · exact hst
  · split
    · rw [State.powerState, State.rd_joinWake _ _ _ _ (by rw [fieldName_PWR_STATUS_STATE]; decide)]
      exact hst
    case isFalse hnot =>
      have hback : s.abandonEntry.powerState ≤ 2 := by
        refine s.abandonEntry_state (hw _ ?_)
        simp only [Bool.or_eq_true, Bool.not_eq_true', not_or, Bool.not_eq_false] at hnot
        exact hnot.1
      split
      · rw [(s.abandonEntry.roused_shows w).1]
        omega
      · split
        case isTrue h23 =>
          obtain ⟨-, -, -, -, hkeeps⟩ := s.abandonEntry.raised_shows w h23
          rw [hkeeps]
          exact hback
        · exact hback

theorem State.wakesTiles_wakeDevice {s : State} {w : WakeSource} (h : s.wakesTiles) (hw : ∀ n, w.wakes n = true → n ≤ 2) :
    (s.wakeDevice w none).wakesTiles := by
  obtain ⟨hst, hr, hheld⟩ := h
  obtain ⟨hreset, htrip⟩ := s.wakeDevice_pins w
  refine ⟨State.wakeDevice_low hst hw, hreset.trans hr, ?_⟩
  rw [State.resetsHeld_congr htrip (State.rd_wakeDevice _ _ _ _ (by rw [fieldName_CLK_STATUS_REFCLK_OK]; decide)), hheld]

theorem aonTimer_wakes {n : Nat} (h : WakeSource.aonTimer.wakes n = true) : n ≤ 2 := by
  simp only [WakeSource.wakes, Bool.and_eq_true, decide_eq_true_eq] at h
  exact h.2

/-- A park poll wakes the parked tiles. -/
theorem State.poll_wakes {s : State} {i : Nat} (hi : i < 8) (h : s.wakesTiles) (hp : s.parked i = true) : s.poll.tileState i = 1 := by
  have hoff : s.tileState i = 0 := by
    simp only [State.parked, Bool.and_eq_true, beq_iff_eq] at hp
    exact hp.1.1
  refine State.each_wakeTile_wakes (List.mem_filter.2 ⟨List.mem_range.2 hi, hp⟩) (State.wakesTiles_wakeDevice h (fun _ => aonTimer_wakes))
    hi (.inl ?_)
  rw [State.tileState, State.rd_wakeDevice _ _ _ _ (by rw [fieldName_GLB_TILE_STATUS_LT]; decide), ← State.tileState, hoff]

/-- The tiles that a poll wakes are all that it changes beyond the wake of the device. -/
theorem State.poll_part {α : Type} {g : State → α} (hg : ∀ t i, g (State.wakeTile t i) = g t) (s : State) :
    g s.poll = g (s.wakeDevice .aonTimer none) := State.each_part g _ _ _ hg

theorem exec_parkPoll_wakes {s : State} (i : TileId) (hst : s.powerState = 0) (hr : s.power.inReset = false)
    (hheld : s.resetsHeld = false) (hp : s.parked i = true) : ∃ t, exec (.parkPoll) s = .next t ∧ t.tileState i = 1 ∧
      s.nextPoll ≤ t.elapsed := by
  have hexec : exec (.parkPoll) s = .next (s.advanceTo s.nextPoll).poll := next_neg (by simp [hr, hst])
  have hle := s.le_advanceTo_elapsed s.nextPoll
  have hkept : (s.advanceTo s.nextPoll).wakesTiles := by
    refine ⟨?_, ?_, ?_⟩
    · rw [State.powerState, State.rd_advanceTo _ _ _ (by rw [fieldName_PWR_STATUS_STATE]; decide), ← State.powerState]
      omega
    · rw [State.advanceTo_power (g := Power.inReset) (fun _ _ => rfl), hr]
    · rw [State.resetsHeld_congr (State.advanceTo_power (g := Power.thermtrip) (fun _ _ => rfl) s _)
        (State.rd_advanceTo _ _ _ (by rw [fieldName_CLK_STATUS_REFCLK_OK]; decide)), hheld]
  have hparked : (s.advanceTo s.nextPoll).parked i = true := (s.parked_advanceTo _ i).trans hp
  refine ⟨_, hexec, State.poll_wakes i.isLt hkept hparked, ?_⟩
  rw [State.poll_part (g := State.elapsed) (fun t j => t.wakeTile_elapsed j), State.wakeDevice_elapsed]
  exact hle

theorem exec_alwaysOnTimerWake_raises {s : State} {e : Nat} (hst : s.powerState = 2) (hr : s.power.inReset = false)
    (hw : s.power.wake = none) (he : s.power.entry = none) (ht : s.power.timerAt = some e) :
    ∃ t, exec (.alwaysOnTimerWake) s = .next t ∧ t.power.wake = some ⟨2, max e s.elapsed, false⟩ ∧
      t.rd PWR_WAKE_SOURCE.AON_TIMER = 1 ∧ e ≤ t.elapsed := by
  have hstate : (s.advanceTo e).powerState = 2 := by
    rw [State.powerState, State.rd_advanceTo _ _ _ (by rw [fieldName_PWR_STATUS_STATE]; decide), ← State.powerState, hst]
  have hraise : (s.advanceTo e).wakeDevice .aonTimer none = (s.advanceTo e).raised .aonTimer :=
    State.wakeDevice_raises ((State.advanceTo_power (g := Power.inReset) (fun _ _ => rfl) s e).trans hr)
      ((State.advanceTo_power (g := Power.wake) (fun _ _ => rfl) s e).trans hw)
      ((State.advanceTo_power (g := Power.entry) (fun _ _ => rfl) s e).trans he) (.inl hstate) (by rw [hstate]; rfl)
  obtain ⟨hwake, hcell, -⟩ := (s.advanceTo e).raised_shows .aonTimer (.inl hstate)
  have helapsed : ((s.advanceTo e).raised .aonTimer).elapsed = max s.elapsed e :=
    (State.raised_elapsed ..).trans (State.advanceTo_elapsed s e)
  rw [hstate, State.advanceTo_elapsed, max_comm] at hwake
  have hexec : exec (.alwaysOnTimerWake) s = .next (s.advanceTo e).poll ∨
      exec (.alwaysOnTimerWake) s = .next ((s.advanceTo e).wakeDevice .aonTimer none) := by
    simp only [exec_alwaysOnTimerWake_runs, execAlwaysOnTimerWake, ht]
    rw [if_neg (by simp [hst])]
    split
    · exact .inl rfl
    · exact .inr rfl
  rw [hraise] at hexec
  rcases hexec with hpoll | hplain
  · refine ⟨_, hpoll, ?_, ?_, ?_⟩
    · rw [State.poll_part (g := fun t => t.power.wake) (fun t j => State.wakeTile_power (g := Power.wake) (fun _ _ => rfl) t j), hraise,
        hwake]
    · rw [State.poll_part (g := fun t => t.rd PWR_WAKE_SOURCE.AON_TIMER)
        (fun t j => State.rd_wakeTile _ _ _ (by rw [fieldName_PWR_WAKE_SOURCE_AON_TIMER]; decide)), hraise]
      exact hcell
    · rw [State.poll_part (g := State.elapsed) (fun t j => t.wakeTile_elapsed j), hraise, helapsed]
      exact le_max_right ..
  · exact ⟨_, hplain, hwake, hcell, helapsed ▸ le_max_right ..⟩

/-- Settles O55. -/
theorem wakeSourcesWakeTheDevice : Obligations.WakeSourcesWakeTheDevice :=
  ⟨fun _ => exec_sbAddressMatch_raises, fun _ _ => exec_sbAddressMatch_abandons, fun _ => exec_mgmtLinkWake_rouses,
    fun _ => exec_wakeIn_resets, fun _ => exec_wakeIn_raises, fun _ _ hst hr _ hw => exec_wakeIn_joins hst hr hw,
    fun _ _ hst hr _ hw => exec_wakeIn_late hst hr hw, fun _ i hst hr _ => exec_parkPoll_wakes i hst hr,
    fun _ _ => exec_alwaysOnTimerWake_raises⟩

end Sys2Proof.Machine
end

section
/-! PROOFS. A Lane Tile that enters ON while a commit waits for it (13, R407). -/

set_option Elab.async false

namespace Sys2Proof.Machine

/-- Lane Tile 0 is restoring its registers while a commit applies: Port 0, which has reached its Apply Points, changes the state of
engine 0. -/
def aWaitingCommit : State :=
  ((((({} : State).wr (GLB_TILE_STATUS.LT 0) 1).on CLK_STATUS.ROOT_LOCK).wr TXN_STATUS.STATE xAPPLYING).upT 0 (fun x =>
    { x with restoring := true })).upX (fun x => { x with
      changes := [⟨some 0, ENG_STATUS.STATE 0, engOff, engOff⟩]
      waiting := [0, 1]
      ready := [0] })

theorem aWaitingCommit_restores : aWaitingCommit.tileState (0 : TileId) = 1 ∧ (aWaitingCommit.tile (0 : TileId)).restoring = true ∧
    aWaitingCommit.bit CLK_STATUS.ROOT_LOCK = true ∧ (0 : EngineId).val / 16 = (0 : TileId).val ∧
    (aWaitingCommit.engine (0 : EngineId)).disabled = false := by decide +kernel

/-- The tile being ON, the Port turns, and its change is made. -/
theorem aWaitingCommit_turns : ∃ t, exec (.tileRestoreDone 0) aWaitingCommit = .next t ∧
    t.rd (ENG_STATUS.STATE (0 : EngineId)) = engOff := ⟨_, rfl, by decide +kernel⟩

/-- Refutes O52: the Ports that waited for the tile turn as it enters ON, and the changes of the commit are made over what its entry has
written (R273). -/
theorem not_tilesWakeAndRest : ¬ Obligations.TilesWakeAndRest := by
  rintro ⟨-, -, -, -, -, hrestore, -⟩
  obtain ⟨hwaking, hrestoring, hlock, hengine, henabled⟩ := aWaitingCommit_restores
  obtain ⟨t, hexec, -, -, hrun⟩ := hrestore aWaitingCommit 0 0 hwaking hrestoring hlock hengine henabled
  obtain ⟨u, hexec', hoff⟩ := aWaitingCommit_turns
  cases hexec.symm.trans hexec'
  rw [hoff] at hrun
  exact absurd hrun (by decide)

end Sys2Proof.Machine
end

section
/-! PROOFS. The entries to the power states (13, R398 to R400). -/

set_option Elab.async false

namespace Sys2Proof.Machine

@[simp] theorem State.advanceTo_txn (s : State) (e : Nat) : (s.advanceTo e).txn = s.txn :=
  (Goes.advanceTo (Foot.le_refl _) (Goes.refl _ s)).part .txn (by decide)
@[simp] theorem State.advanceTo_rings (s : State) (e : Nat) : (s.advanceTo e).rings = s.rings :=
  (Goes.advanceTo (Foot.le_refl _) (Goes.refl _ s)).part .rings (by decide)
@[simp] theorem State.releaseTrig_elapsed (s : State) : (s.releaseTrig).elapsed = s.elapsed :=
  (Goes.releaseTrig (Foot.le_refl _) (Goes.refl _ s)).part .elapsed (by decide)
@[simp] theorem State.releaseTrig_power (s : State) : (s.releaseTrig).power = s.power :=
  (Goes.releaseTrig (Foot.le_refl _) (Goes.refl _ s)).part .power (by decide)
@[simp] theorem State.releaseTrig_freeCtr (s : State) : (s.releaseTrig).freeCtr = s.freeCtr :=
  (Goes.releaseTrig (Foot.le_refl _) (Goes.refl _ s)).part .freeCtr (by decide)
@[simp] theorem State.advanceTo_freeCtr (s : State) (e : Nat) : (s.advanceTo e).freeCtr = s.freeCtr :=
  (Goes.advanceTo (Foot.le_refl _) (Goes.refl _ s)).part .freeCtr (by decide)
/-! ## The rest that goes before an entry (R398, R399) -/

theorem State.le_rested_elapsed (s : State) (us : Nat) : s.power.quietAt + us * usUnit ≤ (s.rested us).elapsed := by
  rw [State.rested, State.deviceQuiet, State.upPw_elapsed]
  exact s.le_advanceTo_elapsed _

theorem State.rested_rd (s : State) (us : Nat) {c : Cell} (hc : fp_advanceTo.misses (fieldName c.key) = true) :
    (s.rested us).rd c = s.rd c := by
  rw [State.rested, State.deviceQuiet, State.upPw_rd, State.rd_advanceTo _ _ _ hc]

/-- Resting changes of the power block the time in RUN and the instant of the last activity. -/
theorem State.rested_power {α : Type} {g : Power → α} (hg : ∀ x n, g { x with ranFor := n } = g x)
    (hq : ∀ x n, g { x with quietAt := n } = g x) (s : State) (us : Nat) : g (s.rested us).power = g s.power := by
  rw [State.rested, State.deviceQuiet, State.upPw_power, hq, State.advanceTo_power hg]

/-! ## IDLE (R399) -/

theorem exec_idleEntry_rests {s : State} (ha : s.awake = true) (hst : s.powerState = 0) (hf : s.idleFit = true) :
    exec (.idleEntry) s = .next ((s.rested (max 1 (s.rd PWR_TIMERS.IDLE_TIMER) * 1000)).wr PWR_STATUS.STATE 1) := by
  simp only [exec_idleEntry_runs, execIdleEntry]
  rw [if_pos ⟨ha, hst, hf⟩]

theorem State.idled_shows (s : State) (us : Nat) : ((s.rested us).wr PWR_STATUS.STATE 1).powerState = 1 ∧
    s.power.quietAt + us * usUnit ≤ ((s.rested us).wr PWR_STATUS.STATE 1).elapsed ∧
    ((s.rested us).wr PWR_STATUS.STATE 1).halves = s.halves ∧ ((s.rested us).wr PWR_STATUS.STATE 1).rings = s.rings ∧
    ((s.rested us).wr PWR_STATUS.STATE 1).txn = s.txn := by
  refine ⟨State.rd_wr_same .., ?_, ?_, ?_, ?_⟩
  · rw [State.wr_elapsed]
    exact s.le_rested_elapsed us
  · rw [State.wr_halves, State.rested, State.deviceQuiet, State.upPw_halves, State.advanceTo_halves]
  · rw [State.wr_rings, State.rested, State.deviceQuiet, State.upPw_rings, State.advanceTo_rings]
  · rw [State.wr_txn, State.rested, State.deviceQuiet, State.upPw_txn, State.advanceTo_txn]

/-! ## SLEEP (R363, R399, R400) -/

/-- The device at rest, its TRIG_N released. -/
def State.quieted (s : State) (us : Nat) : State := (s.rested us).releaseTrig

theorem State.quieted_rd (s : State) (us : Nat) {c : Cell} (hc : fp_advanceTo.misses (fieldName c.key) = true) :
    (s.quieted us).rd c = s.rd c := by
  rw [State.quieted, State.rd_releaseTrig _ _ rfl, s.rested_rd us hc]

theorem State.quieted_power {α : Type} {g : Power → α} (hg : ∀ x n, g { x with ranFor := n } = g x)
    (hq : ∀ x n, g { x with quietAt := n } = g x) (s : State) (us : Nat) : g (s.quieted us).power = g s.power := by
  rw [State.quieted, State.releaseTrig_power, s.rested_power hg hq]

theorem State.le_quieted_elapsed (s : State) (us : Nat) : s.power.quietAt + us * usUnit ≤ (s.quieted us).elapsed := by
  rw [State.quieted, State.releaseTrig_elapsed]
  exact s.le_rested_elapsed us

theorem State.quieted_freeCtr (s : State) (us : Nat) : (s.quieted us).freeCtr = s.freeCtr := by
  rw [State.quieted, State.releaseTrig_freeCtr, State.rested, State.deviceQuiet, State.upPw_freeCtr, State.advanceTo_freeCtr]

/-- The registers of SLEEP (R400). -/
def State.sleepRegs (t : State) : State :=
  (((((t.wr PWR_STATUS.STATE 2).wr PWR_STATUS.VID_CODE 20).off PWR_STATUS.VID_BUSY).off CLK_STATUS.ROOT_LOCK).off
    CLK_STATUS.CORE_SRC).off CLK_STATUS.MCLK_SRC

theorem State.sleepRegs_shows (t : State) : t.sleepRegs.powerState = 2 ∧ t.sleepRegs.rd PWR_STATUS.VID_CODE = 20 ∧
    t.sleepRegs.rd CLK_STATUS.ROOT_LOCK = 0 ∧ t.sleepRegs.rd CLK_STATUS.CORE_SRC = 0 := by
  simp +decide [State.sleepRegs, State.powerState, State.off]

/-- What becomes of the power block at the entry to SLEEP, Fabric Time at its commit point being given, and what it found. -/
def Power.asleep (x : Power) (fabric edge vid : Nat) (clocks : Nat × Nat × Nat × Nat) (uncert timer : Nat) : Power :=
  { x with
    entry := some ⟨edge, 1, vid, some clocks, (x.timeAt, x.edgeAt, x.uncertAt)⟩
    timeAt := fabric
    edgeAt := edge
    uncertAt := uncert
    nextLevel := none
    timerAt := some timer }

/-- The device at rest in the SLEEP that it enters, the next edge of the always-on counter being a wait away. -/
def State.asleep (r : State) (wait fabric lost vid : Nat) (clocks : Nat × Nat × Nat × Nat) (uncert timer : Nat) : State :=
  ((r.sleepRegs.setNow fabric).upTim (fun x => { x with slew := x.slew - lost })).upPw (fun x =>
    x.asleep fabric (r.elapsed + wait) vid clocks uncert timer)

theorem State.asleep_shows (r : State) (wait fabric lost vid : Nat) (clocks : Nat × Nat × Nat × Nat) (uncert timer : Nat) :
    (r.asleep wait fabric lost vid clocks uncert timer).powerState = 2 ∧ (r.asleep wait fabric lost vid clocks uncert timer).rd PWR_STATUS.VID_CODE = 20 ∧
      (r.asleep wait fabric lost vid clocks uncert timer).rd CLK_STATUS.ROOT_LOCK = 0 ∧
      (r.asleep wait fabric lost vid clocks uncert timer).rd CLK_STATUS.CORE_SRC = 0 ∧
      (r.asleep wait fabric lost vid clocks uncert timer).power.timerAt = some timer ∧
      (r.asleep wait fabric lost vid clocks uncert timer).power.edgeAt = r.elapsed + wait ∧
      (r.asleep wait fabric lost vid clocks uncert timer).elapsed = r.elapsed ∧
      (r.asleep wait fabric lost vid clocks uncert timer).freeCtr = r.freeCtr := by
  have hregs : ∀ c : Cell, (r.asleep wait fabric lost vid clocks uncert timer).rd c = r.sleepRegs.rd c := fun _ => rfl
  obtain ⟨hstate, hvid, hlock, hsrc⟩ := r.sleepRegs_shows
  exact ⟨hstate, (hregs _).trans hvid, (hregs _).trans hlock, (hregs _).trans hsrc, rfl, rfl, rfl, rfl⟩

/-- The entry to SLEEP of the device at rest, with the wait to the next edge and the free value for it taken. -/
def State.sleepEntered (s t : State) (wait timer : Nat) : State :=
  t.asleep wait (t.now + (t.fabricOf wait - t.loses (t.fabricOf wait))) (t.loses (t.fabricOf wait)) (s.rd PWR_STATUS.VID_CODE)
    (s.rd PWR_STATUS.VID_BUSY, s.rd CLK_STATUS.ROOT_LOCK, s.rd CLK_STATUS.CORE_SRC, s.rd CLK_STATUS.MCLK_SRC)
    (s.rd TIM_UNCERT.BOUND) timer

theorem exec_sleepEntry_enters {s : State} {us : Nat} (hus : max 1 (s.rd PWR_TIMERS.SLEEP_TIMER) * 10000 = us) (ha : s.awake = true)
    (hst : s.powerState = 1) (hf : s.sleepFit = true) (hb : s.power.sbBusy = false) :
    exec (.sleepEntry) s = .next (s.sleepEntered (s.quieted us).edgeWait.2 (s.quieted us).edgeWait.1 (s.quieted us).timerFor) := by
  simp only [exec_sleepEntry_runs, execSleepEntry, State.sleepEntered, State.asleep, State.quieted, Power.asleep, State.sleepRegs]
  rw [if_neg (by simp [ha, hst, hf, hb]), hus]

/-- Waiting for the next edge of the always-on counter takes a free value of at most its period. -/
theorem State.edgeWait_takes (s : State) : s.edgeWait.1 ≤ s.aonPeriod ∧ s.edgeWait.2.elapsed = s.elapsed ∧
    s.edgeWait.2.freeCtr = s.freeCtr + 1 := by
  unfold State.edgeWait
  generalize s.aonPeriod = n
  exact ⟨Nat.le_of_lt_succ (Nat.mod_lt _ (Nat.succ_pos _)), rfl, rfl⟩

theorem exec_sleepEntry_sleeps {s : State} (ha : s.awake = true) (hst : s.powerState = 1) (hf : s.sleepFit = true)
    (hb : s.power.sbBusy = false) : ∃ t, exec (.sleepEntry) s = .next t ∧ t.powerState = 2 ∧ t.rd PWR_STATUS.VID_CODE = 20 ∧
      t.rd CLK_STATUS.ROOT_LOCK = 0 ∧ t.rd CLK_STATUS.CORE_SRC = 0 ∧ t.power.timerAt.isSome = true ∧
      t.power.edgeAt ≤ t.elapsed + s.aonPeriod ∧
      s.power.quietAt + max 1 (s.rd PWR_TIMERS.SLEEP_TIMER) * 10000 * usUnit ≤ t.elapsed ∧ t.freeCtr = s.freeCtr + 1 := by
  obtain ⟨us, hus⟩ : ∃ us, max 1 (s.rd PWR_TIMERS.SLEEP_TIMER) * 10000 = us := ⟨_, rfl⟩
  have hexec := exec_sleepEntry_enters hus ha hst hf hb
  have hle := s.le_quieted_elapsed us
  have hfree := s.quieted_freeCtr us
  have hperiod : (s.quieted us).aonPeriod = s.aonPeriod := by
    rw [State.aonPeriod, State.aonPeriod, s.quieted_rd us (by rw [fieldName_CLK_AON_RATIO_RATIO]; decide)]
  obtain ⟨hwait, hlater, htaken⟩ := (s.quieted us).edgeWait_takes
  rw [hperiod] at hwait
  rw [hus]
  obtain ⟨w, hw⟩ : ∃ w, (s.quieted us).edgeWait = w := ⟨_, rfl⟩
  rw [hw] at hexec hwait hlater htaken
  obtain ⟨hstate, hvid, hlock, hsrc, htimer, hedge, helapsed, hctr⟩ := w.2.asleep_shows w.1 (w.2.now + (w.2.fabricOf w.1 -
    w.2.loses (w.2.fabricOf w.1))) (w.2.loses (w.2.fabricOf w.1)) (s.rd PWR_STATUS.VID_CODE)
    (s.rd PWR_STATUS.VID_BUSY, s.rd CLK_STATUS.ROOT_LOCK, s.rd CLK_STATUS.CORE_SRC, s.rd CLK_STATUS.MCLK_SRC) (s.rd TIM_UNCERT.BOUND)
    (s.quieted us).timerFor
  refine ⟨_, hexec, hstate, hvid, hlock, hsrc, ?_, ?_, ?_, ?_⟩
  · rw [State.sleepEntered, htimer]
    rfl
  · rw [State.sleepEntered, hedge, helapsed]
    omega
  · rw [State.sleepEntered, helapsed, hlater]
    exact hle
  · rw [State.sleepEntered, hctr, htaken, hfree]

theorem exec_sleepEntry_busy {s : State} (hb : s.power.sbBusy = true) : exec (.sleepEntry) s = .next s := by
  simp only [exec_sleepEntry_runs, execSleepEntry]
  rw [if_pos (by simp [hb])]

/-! ## DEEP (R363, R400, R426) -/

/-- What becomes of the power block at the entry to DEEP. -/
def Power.deep (x : Power) (e k period vid uncert : Nat) : Power :=
  { x with
    entry := some ⟨e, 2, vid, none, (x.timeAt, x.edgeAt, x.uncertAt)⟩
    timeAt := x.timeAt + k * period
    edgeAt := e
    uncertAt := x.uncertAt + uncert
    sealed := true
    timerAt := none }

/-- The device at rest in the DEEP that it enters, at a later edge of the always-on counter. -/
def State.deepEntered (s t : State) (k : Nat) : State :=
  ((t.wr PWR_STATUS.STATE 3).wr PWR_STATUS.VID_CODE 0).upPw (fun x =>
    x.deep (s.power.edgeAt + k * s.aonPeriod) k s.aonPeriod (s.rd PWR_STATUS.VID_CODE) (s.aonUncert k))

theorem exec_deepEntry_enters {s : State} {us : Nat} (temp : Int) (hus : max 1 (s.rd PWR_TIMERS.DEEP_TIMER) * 10000000 = us)
    (hst : s.powerState = 2) (hw : s.power.wake = none) (hf : s.deepFit temp = true) (hb : s.power.sbBusy = false) :
    exec (.deepEntry temp) s = .next (s.deepEntered (s.quieted us) (((s.quieted us).elapsed - s.power.edgeAt) / s.aonPeriod + 1)) := by
  simp only [exec_deepEntry_runs, execDeepEntry, State.deepEntered, State.quieted, Power.deep]
  rw [if_neg (by simp [hst, hw, hf, hb]), hus]

theorem State.deepEntered_shows (s r : State) (k : Nat) : (s.deepEntered r k).powerState = 3 ∧
    (s.deepEntered r k).rd PWR_STATUS.VID_CODE = 0 ∧ (s.deepEntered r k).power.sealed = true ∧
    (s.deepEntered r k).power.timerAt = none ∧ (s.deepEntered r k).power.edgeAt = s.power.edgeAt + k * s.aonPeriod ∧
    (s.deepEntered r k).power.timeAt = r.power.timeAt + k * s.aonPeriod ∧ (s.deepEntered r k).elapsed = r.elapsed := by
  refine ⟨?_, State.rd_wr_same .., rfl, rfl, rfl, rfl, rfl⟩
  rw [State.powerState, State.deepEntered, State.upPw_rd, State.rd_wr_ne _ _ _ _ (by decide), State.rd_wr_same]
  rfl

theorem exec_deepEntry_sinks {s : State} (temp : Int) (hst : s.powerState = 2) (hw : s.power.wake = none) (hf : s.deepFit temp = true)
    (hb : s.power.sbBusy = false) : ∃ t, exec (.deepEntry temp) s = .next t ∧ t.powerState = 3 ∧ t.rd PWR_STATUS.VID_CODE = 0 ∧
      t.power.sealed = true ∧ t.power.timerAt = none ∧
      t.power.edgeAt = s.power.edgeAt + ((t.elapsed - s.power.edgeAt) / s.aonPeriod + 1) * s.aonPeriod ∧
      t.power.timeAt = s.power.timeAt + ((t.elapsed - s.power.edgeAt) / s.aonPeriod + 1) * s.aonPeriod := by
  obtain ⟨us, hus⟩ : ∃ us, max 1 (s.rd PWR_TIMERS.DEEP_TIMER) * 10000000 = us := ⟨_, rfl⟩
  have htime : (s.quieted us).power.timeAt = s.power.timeAt := s.quieted_power (g := Power.timeAt) (fun _ _ => rfl) (fun _ _ => rfl) us
  obtain ⟨hstate, hvid, hseal, htimer, hedge, hat, helapsed⟩ :=
    s.deepEntered_shows (s.quieted us) (((s.quieted us).elapsed - s.power.edgeAt) / s.aonPeriod + 1)
  refine ⟨_, exec_deepEntry_enters temp hus hst hw hf hb, hstate, hvid, hseal, htimer, ?_, ?_⟩
  · rw [hedge, helapsed]
  · rw [hat, helapsed, htime]

theorem exec_deepEntry_busy {s : State} (temp : Int) (hb : s.power.sbBusy = true) : exec (.deepEntry temp) s = .next s := by
  simp only [exec_deepEntry_runs, execDeepEntry]
  rw [if_pos (by simp [hb])]

/-! ## OFF (R399) -/

theorem exec_offEntry_ends {s : State} (hst : s.powerState = 3) (hw : s.power.wake = none) (hf : s.deepFit 0 = true)
    (hoff : s.bit PWR_POLICY.OFF_EN = true) : ∃ t, exec (.offEntry) s = .next t ∧ t.powerState = 4 ∧ t.power.sealed = false ∧
      t.power.entry = none := by
  have hexec : exec (.offEntry) s = .next (((s.rested (max 1 (s.rd PWR_TIMERS.OFF_TIMER) * 3600000000)).wr PWR_STATUS.STATE 4).upPw
      (fun x => { x with entry := none, sealed := false })) := by
    simp only [exec_offEntry_runs, execOffEntry]
    rw [if_pos ⟨hst, by simp [hw], hf, hoff⟩]
  obtain ⟨r, hr⟩ : ∃ r, s.rested (max 1 (s.rd PWR_TIMERS.OFF_TIMER) * 3600000000) = r := ⟨_, rfl⟩
  rw [hr] at hexec
  exact ⟨_, hexec, State.rd_wr_same .., rfl, rfl⟩

theorem exec_idleEntry_idles {s : State} (ha : s.awake = true) (hst : s.powerState = 0) (hf : s.idleFit = true) :
    ∃ t, exec (.idleEntry) s = .next t ∧ t.powerState = 1 ∧
      s.power.quietAt + max 1 (s.rd PWR_TIMERS.IDLE_TIMER) * 1000 * usUnit ≤ t.elapsed ∧
      t.halves = s.halves ∧ t.rings = s.rings ∧ t.txn = s.txn := by
  have hexec := exec_idleEntry_rests ha hst hf
  obtain ⟨us, hus⟩ : ∃ us, max 1 (s.rd PWR_TIMERS.IDLE_TIMER) * 1000 = us := ⟨_, rfl⟩
  rw [hus] at hexec ⊢
  exact ⟨_, hexec, s.idled_shows us⟩

theorem exec_idleEntry_unfit {s : State} (hf : s.idleFit = false) : exec (.idleEntry) s = .next s := by
  simp only [exec_idleEntry_runs, execIdleEntry]
  rw [if_neg (by simp [hf])]

/-- Settles O54. -/
theorem powerStatesAreEntered : Obligations.PowerStatesAreEntered :=
  ⟨fun _ => exec_idleEntry_idles, fun _ => exec_idleEntry_unfit, fun _ => exec_sleepEntry_sleeps,
    fun _ temp => exec_deepEntry_sinks temp, fun _ => exec_sleepEntry_busy, fun _ temp => exec_deepEntry_busy temp,
    fun _ => exec_offEntry_ends⟩

end Sys2Proof.Machine
end

section
/-! PROOFS. The digests of long inputs that are mostly zeros (09, R255 to R257): what the kernel needs to compute them. -/

set_option Elab.async false

namespace Sys2Proof.Machine

/-! ## SHA-384 over blocks of zeros -/

/-- A number handed on evaluated: to look for its predecessor is to evaluate it. -/
def evalThen {α : Type} (n : Nat) (k : Nat → α) : α := Nat.rec (k 0) (fun m _ => k (Nat.succ m)) n

theorem evalThen_eq {α : Type} (n : Nat) (k : Nat → α) : evalThen n k = k n := by cases n <;> rfl

/-- The numbers of a list handed on evaluated. -/
def evalAll {α : Type} : List Nat → (List Nat → α) → α
  | [], k => k []
  | x :: xs, k => evalThen x fun y => evalAll xs fun ys => k (y :: ys)

theorem evalAll_eq {α : Type} (l : List Nat) (k : List Nat → α) : evalAll l k = k l := by
  induction l generalizing k with
  | nil => rfl
  | cons x xs ih => rw [evalAll, evalThen_eq, ih]

/-- A 64-bit word turned to the right by n bits, for p = 2ⁿ and q = 2⁶⁴⁻ⁿ, in the operations that the kernel computes. -/
def turned (p q x : Nat) : Nat := Nat.add (Nat.div x p) (Nat.mul (Nat.mod x p) q)

/-- The first sum of a round on a schedule word of 0, in the same operations. -/
def stillSum (e f g h k : Nat) : Nat :=
  Nat.add (Nat.add (Nat.add h (Nat.xor (Nat.xor (turned 0x4000 0x4000000000000 e) (turned 0x40000 0x400000000000 e))
    (turned 0x20000000000 0x800000 e))) (Nat.xor (Nat.land e f) (Nat.land (Nat.sub 0xFFFFFFFFFFFFFFFF e) g))) k

/-- The second sum of a round. -/
def turnSum (a b c : Nat) : Nat :=
  Nat.add (Nat.xor (Nat.xor (turned 0x10000000 0x1000000000 a) (turned 0x400000000 0x40000000 a)) (turned 0x8000000000 0x2000000 a))
    (Nat.xor (Nat.xor (Nat.land a b) (Nat.land a c)) (Nat.land b c))

/-- The rounds on a block of zeros, whose schedule is all zeros, from eight working words. -/
def stillRounds (ks : List Nat) : Nat → Nat → Nat → Nat → Nat → Nat → Nat → Nat → List Nat :=
  List.rec (fun a b c d e f g h => [a, b, c, d, e, f, g, h])
    (fun k _ rest a b c d e f g h =>
      evalThen (stillSum e f g h k) fun t =>
        evalThen (Nat.mod (Nat.add t (turnSum a b c)) 0x10000000000000000) fun x =>
          evalThen (Nat.mod (Nat.add d t) 0x10000000000000000) fun y => rest x a b c y e f g) ks

/-- The rounds of a block of zeros on a hash. -/
def stillWords : List Nat → List Nat
  | [a, b, c, d, e, f, g, h] => stillRounds shaKeys a b c d e f g h
  | v => shaRounds shaKeys (List.replicate 16 0) v

/-- A hash taken on over blocks of zeros. -/
def stillBlocks : Nat → List Nat → List Nat
  | 0, h => h
  | n + 1, h => evalAll (List.zipWith (fun x y => wrap64 (x + y)) h (stillWords h)) (stillBlocks n)

theorem shaRound_still (a b c d e f g h k : Nat) : shaRound [a, b, c, d, e, f, g, h] k 0 =
    [Nat.mod (Nat.add (stillSum e f g h k) (turnSum a b c)) 0x10000000000000000, a, b, c,
      Nat.mod (Nat.add d (stillSum e f g h k)) 0x10000000000000000, e, f, g] := rfl

theorem stillRounds_eq (ks : List Nat) (a b c d e f g h : Nat) :
    stillRounds ks a b c d e f g h = shaRounds ks (List.replicate 16 0) [a, b, c, d, e, f, g, h] := by
  have hnext : (List.replicate 16 0).drop 1 ++ [shaNext (List.replicate 16 0)] = List.replicate 16 0 := by decide
  have hzero : (List.replicate 16 0).getD 0 0 = 0 := rfl
  induction ks generalizing a b c d e f g h with
  | nil => rfl
  | cons k ks ih =>
    rw [shaRounds, hnext, hzero, shaRound_still, ← ih]
    simp only [stillRounds, evalThen_eq]

theorem stillWords_eq (v : List Nat) : stillWords v = shaRounds shaKeys (List.replicate 16 0) v := by
  unfold stillWords
  split
  · exact stillRounds_eq ..
  · rfl

/-- Blocks of zeros of a message, the kernel's own operations doing the rounds. -/
theorem stillBlocks_eq (n : Nat) (h : List Nat) : stillBlocks n h = shaBlocks n (zeros (128 * n)) h := by
  induction n generalizing h with
  | zero => rfl
  | succ n ih =>
    have htake : (zeros (128 * (n + 1))).take 128 = zeros 128 := by
      rw [zeros, List.take_replicate, Nat.min_eq_left (by omega)]
      rfl
    have hdrop : (zeros (128 * (n + 1))).drop 128 = zeros (128 * n) := by
      rw [zeros, List.drop_replicate, zeros, Nat.mul_succ, Nat.add_sub_cancel]
    have hwords : (List.range 16).map (fun i => beNat (((zeros 128).drop (8 * i)).take 8)) = List.replicate 16 0 := by decide +kernel
    rw [stillBlocks, evalAll_eq, ih, shaBlocks, htake, hdrop, shaBlock, hwords, stillWords_eq]

theorem stillBlocks_add (m n : Nat) (h : List Nat) : stillBlocks (m + n) h = stillBlocks n (stillBlocks m h) := by
  induction m generalizing h with
  | zero => rw [Nat.zero_add, stillBlocks]
  | succ m ih => rw [Nat.succ_add_eq_add_succ, Nat.add_succ, stillBlocks, evalAll_eq, ih, stillBlocks, evalAll_eq]

/-- A message is taken in part by part. -/
theorem shaBlocks_append (m n : Nat) (xs ys : List Byte) (h : List Nat) (hlen : xs.length = 128 * m) :
    shaBlocks (m + n) (xs ++ ys) h = shaBlocks n ys (shaBlocks m xs h) := by
  induction m generalizing xs h with
  | zero =>
    rw [List.length_eq_zero_iff.1 hlen, Nat.zero_add]
    rfl
  | succ m ih =>
    rw [Nat.succ_add_eq_add_succ, Nat.add_succ, shaBlocks, shaBlocks, List.take_append_of_le_length (by omega),
      List.drop_append_of_le_length (by omega), ih _ _ (by rw [List.length_drop]; omega)]

/-! ## CRC-32 -/

/-- The register of a CRC-32 after bytes, evaluated byte by byte. -/
def crcAfter (c : Nat) : List Byte → Nat
  | [] => c
  | b :: bs => evalThen (crc32Step c b) fun d => crcAfter d bs

theorem crcAfter_eq (bs : List Byte) (c : Nat) : crcAfter c bs = bs.foldl crc32Step c := by
  induction bs generalizing c with
  | nil => rfl
  | cons b bs ih => rw [crcAfter, evalThen_eq, ih, List.foldl_cons]

theorem crc32_eq (bs : List Byte) : crc32 bs = crcAfter 0xFFFFFFFF bs ^^^ 0xFFFFFFFF := by rw [crcAfter_eq, crc32]

/-- Once the register is 0, bytes of zero leave it so. -/
theorem crc32Step_zeros (n : Nat) : (zeros n).foldl crc32Step 0 = 0 := by
  induction n with
  | zero => rfl
  | succ n ih =>
    have hstep : crc32Step 0 0 = 0 := by decide
    rw [zeros, List.replicate_succ, List.foldl_cons, hstep]
    exact ih

/-- Four bytes that clear the register, and zeros after them. -/
def cleared (n : Nat) : List Byte := [0xFF, 0xFF, 0xFF, 0xFF] ++ zeros n

theorem cleared_length (n : Nat) : (cleared n).length = n + 4 := by
  rw [cleared, List.length_append, zeros, List.length_replicate, Nat.add_comm]
  rfl

theorem cleared_add (m n : Nat) : cleared (m + n) = cleared m ++ zeros n := by
  rw [cleared, cleared, List.append_assoc, zeros, zeros, zeros, ← List.replicate_append_replicate]

theorem crc32_cleared (n : Nat) : crc32 (cleared n) = 0xFFFFFFFF := by
  have hclear : ([0xFF, 0xFF, 0xFF, 0xFF] : List Byte).foldl crc32Step 0xFFFFFFFF = 0 := by decide +kernel
  rw [crc32, cleared, List.foldl_append, hclear, crc32Step_zeros]
  rfl

/-! ## Bytes in the flash (R250) -/

theorem takeCells_erased (n a : Nat) {m : Memory} (h : ∀ c ∈ m, a < c.1) : takeCells (n + 1) a m = 0xFF :: takeCells n (a + 1) m := by
  match m with
  | [] => rfl
  | c :: rest => rw [takeCells, if_neg (Nat.ne_of_gt (h c List.mem_cons_self))]

theorem takeCells_cellsOf (bs : List Byte) (a n : Nat) (h : n ≤ bs.length) : takeCells n a (cellsOf a bs) = bs.take n := by
  induction bs generalizing a n with
  | nil =>
    rw [Nat.le_zero.1 h]
    rfl
  | cons b bs ih =>
    match n with
    | 0 => rfl
    | n + 1 =>
      have hn : n ≤ bs.length := Nat.le_of_succ_le_succ h
      rw [cellsOf, List.take_succ_cons, ← ih (a + 1) n hn]
      split
      case isTrue hff => rw [takeCells_erased _ _ (fun c hc => (mem_cellsOf hc).1), hff]
      case isFalse => rw [takeCells, if_pos rfl]

/-- What has been written from an address on is read from there. -/
theorem Memory.read_cellsOf (bs : List Byte) (a n : Nat) (h : n ≤ bs.length) : Memory.read (cellsOf a bs) a n = bs.take n := by
  rw [Memory.read, List.filter_eq_self.2 (fun c hc => decide_eq_true (mem_cellsOf hc).1), takeCells_cellsOf bs a n h]

end Sys2Proof.Machine
end

section
/-! PROOFS. A wake from DEEP with THERMTRIP_N fallen (13, R405; 14, R416, R426): its event comes beside those that waited. -/

set_option Elab.async false

namespace Sys2Proof.Machine

/-! ## An image (R251 to R257) -/

/-- The public key whose secret number is 1: the base point. -/
def aKey : List Byte := 4 :: (beBytes 48 p384X ++ beBytes 48 p384Y)

/-- The second number of a signature under that key with the number 1 drawn for it; the first is the base point's x. -/
def signedWith (digest : Nat) : Nat := (digest + p384X) % p384Order

/-- The digest of no bytes, and that of the image up to its SIGNATURE. -/
def emptyDigest : Nat := 0x38B060A751AC96384CD9327EB1B1E36A21FDB71114BE07434C0CC7BF63F6E1DA274EDEBFE76F65FBD51AD2F14898B95B
def imageDigest : Nat := 0x86D7EEF46BDDFA72BF9AF4E7381FB921DF7CB167C0AA8749F72A34AD9AAA0E535B243665BA750375207B3C5296EC1241

/-- A firmware section without code: its signature alone (R257). -/
def aFirmware : List Byte := aKey ++ beBytes 48 p384X ++ beBytes 48 (signedWith emptyDigest)

/-- The SIGNATURE section (R255), its reserved bytes chosen so that its CRC-32 is 0. -/
def aSignature : List Byte :=
  aKey ++ zeros 3 ++ beBytes 48 p384X ++ beBytes 48 (signedWith imageDigest) ++ zeros 56 ++ leBytes 4 0x4CC62BA

/-- The sections of the image, and a section's entry in the directory. -/
def someSections : List Section :=
  [⟨0x10, 224, 193, 0x86D94DA6⟩, ⟨0x11, 417, 193, 0x86D94DA6⟩, ⟨3, 610, 0, 0⟩, ⟨1, 640, 3072, 0xFFFFFFFF⟩,
   ⟨2, 3712, 36864, 0xFFFFFFFF⟩, ⟨0xFF, 40576, 256, 0⟩]
def Section.entry (x : Section) : List Byte := leBytes 2 x.type ++ zeros 2 ++ leBytes 4 x.off ++ leBytes 4 x.len ++ leBytes 4 x.crc

/-- The image up to its port map: the header, the directory and the firmware. -/
def aHead : List Byte :=
  imageMagic ++ leBytes 2 1 ++ leBytes 2 6 ++ leBytes 4 40832 ++ [0x11] ++ zeros 115 ++ someSections.flatMap Section.entry ++
    aFirmware ++ aFirmware ++ zeros 30

/-- What the image's signature is over: the head, the port map and the channel table. -/
def aText : List Byte := aHead ++ cleared 3068 ++ cleared 36860
def anImage : List Byte := aText ++ aSignature

theorem aHead_length : aHead.length = 640 := by decide +kernel
theorem aSignature_length : aSignature.length = 256 := by decide +kernel
theorem aText_length : aText.length = 40576 := by simp [aText, aHead_length, cleared_length]
theorem anImage_length : anImage.length = 40832 := by simp [anImage, aText_length, aSignature_length]

/-! ## Its digests -/

theorem sha384_nil : sha384 [] = emptyDigest := by decide +kernel

/-- The hash after each block of the head, the last of which holds the first bytes of the port map. -/
def hash1 : List Nat :=
  [0xBE98FE25419BF4BD, 0x50296A10DFF12EEA, 0x8B94AF548B75D0F3, 0xCC5EB6FDB3EB70E8,
    0x70A1310CBB1C151E, 0x1C0A653504B8D777, 0xCE1A0EF890A4F246, 0x68D83384D153D9BD]
def hash2 : List Nat :=
  [0x1304171786893024, 0xB3BE3D8E9B4F9FD2, 0x25BE28D68EA32444, 0x1271B24414FB43C2,
    0x94A50FF4871DC717, 0xF17BB63CFE91174C, 0xB05635CE97B2FF05, 0xBFAD5399B9FDE15B]
def hash3 : List Nat :=
  [0x01CD4868C452D6DB, 0x849FBF6ED3455321, 0x627D32D6CCB8CB03, 0x836B9B363643904B,
    0x111417873404298F, 0x67DE21F668E45226, 0xCB43903E0EF2001F, 0xC6A3C90668091108]
def hash4 : List Nat :=
  [0x2FC76F466461081D, 0xCC16E1EBF08BA7CA, 0x8CF42DA1971B9808, 0xB7BDCB66E1A20570,
    0x27950D2B84F6AD05, 0xB2C3FFBFD2F2414F, 0x095344C0414718FC, 0x97BE0E43AAAE5FE7]
def hash5 : List Nat :=
  [0xDE0C70510D4BE743, 0xCF27C190C341E2A8, 0xA2BEF671B6118804, 0x1AB5B188C6DDD03E,
    0x5C1D85F78260D9BD, 0x73C9B25C0297036F, 0x9C4A76D7ED99CA2E, 0xA2FFAA5C833FBA45]
def hash6 : List Nat :=
  [0xC0E8144D09717A69, 0x8061EE3716E61BB3, 0x43D7DDC21C711806, 0x20D8566011D8FF44,
    0x7FB4D2FB473C9FA4, 0xE17A0068214B7412, 0x1EE4865FCBB22836, 0x1AE16DA0B055ACD4]
/-- The hash after the port map and after the first block of the channel table. -/
def hash29 : List Nat :=
  [0x88AEA9046904DCAD, 0x2B09495E72BB2698, 0x33CCA423E0ABB2B3, 0x41AE5246A1A54820,
    0xC11F77D39E550BA0, 0xA336F6BDB8B0E8E8, 0x7DA8B541B5472C93, 0x549DBA16F0D7DD5A]
def hash30 : List Nat :=
  [0x1CA26EED4B466C1E, 0xDC6813BCCCA55D26, 0x17BB5E70DE90F4FD, 0x08D2C13888E39A01,
    0x575A5F80AA20CFED, 0x8D7E873675D8E321, 0xBA818F3DDC8D20F6, 0x3F84339ED5798B32]
/-- The hash between parts of the channel table, and after it. -/
def hash71 : List Nat :=
  [0x7869B44F6B42CCB9, 0x07281B4460CB87CC, 0x29B7AE74DDDC3D67, 0xAF27EFB671D668BA,
    0x1AC23D22CF9F293E, 0xF6D2762D18282F63, 0x94F55ED0F0B6B471, 0x43BD98A55B7CF039]
def hash112 : List Nat :=
  [0x5DBDEEF01113CF99, 0x944167F75CD0DC56, 0xFED4A21D57A9A388, 0x0734464972897AA1,
    0x4CE95C0A1E4A336E, 0xE408E4E8156B2CB3, 0x1B09CECFCB9F60E0, 0xDBA404CEE5CE8C89]
def hash153 : List Nat :=
  [0x40ABD5FBC10E70C4, 0x3FA2431822304D2F, 0xF693FDDCCA190059, 0xEA9B18E9EE4DA374,
    0x5949C43EDBDC45E1, 0x15943B84B11D19C0, 0xEB864596E92767EA, 0x1E5E6821B33ADDB9]
def hash194 : List Nat :=
  [0xC13AAEF1CFD9EAC4, 0x9FC2C448A9F9D4CB, 0xCD2C1957113163F2, 0x59DE26CDBC6E6C55,
    0x5F9B5608062FF5E7, 0x31ED6B8652D2A049, 0x90A8C5AE46709935, 0x9921F46F36EE9F5B]
def hash235 : List Nat :=
  [0x14338210F85012E2, 0x2DF5F9971DD4EE03, 0x507FCEEE48377E73, 0xE89E1EBEAED99D7A,
    0x8002BF690C8D403E, 0xFB25DBC5ACF1CE71, 0xB49B5CB2E9D53478, 0xAB06943C9D8CDFE0]
def hash276 : List Nat :=
  [0x081A45C77D8E781A, 0x0E1C4601B3E9A3ED, 0x714724963E4A240F, 0xFAE5E3B5552136C5,
    0xBA46968070848C39, 0x326BCA5E8EAE8EA7, 0x1D4E7CDD95A51BA6, 0xE95FAE6B2ABDF0F8]
def hash317 : List Nat :=
  [0x74EB5E4C71615447, 0xAEBF151B7BA4188F, 0x2B4F68AD991022E0, 0x10DAE7B06CF46DC1,
    0x09CC243FFE41B236, 0x4D0AA5C57D14AB13, 0x0B92DF64AFE0793D, 0x26FC5C3E54C7AD6E]

/-- A block of the head. -/
def headBlock (i : Nat) : List Byte := ((aHead ++ cleared 124).drop (128 * i)).take 128

theorem hash1_eq : shaBlock shaStart (headBlock 0) = hash1 := by decide +kernel
theorem hash2_eq : shaBlock hash1 (headBlock 1) = hash2 := by decide +kernel
theorem hash3_eq : shaBlock hash2 (headBlock 2) = hash3 := by decide +kernel
theorem hash4_eq : shaBlock hash3 (headBlock 3) = hash4 := by decide +kernel
theorem hash5_eq : shaBlock hash4 (headBlock 4) = hash5 := by decide +kernel
theorem hash6_eq : shaBlock hash5 (headBlock 5) = hash6 := by decide +kernel
theorem hash29_eq : stillBlocks 23 hash6 = hash29 := by decide +kernel
theorem hash30_eq : shaBlocks 1 (cleared 124) hash29 = hash30 := by decide +kernel
theorem hash71_eq : stillBlocks 41 hash30 = hash71 := by decide +kernel
theorem hash112_eq : stillBlocks 41 hash71 = hash112 := by decide +kernel
theorem hash153_eq : stillBlocks 41 hash112 = hash153 := by decide +kernel
theorem hash194_eq : stillBlocks 41 hash153 = hash194 := by decide +kernel
theorem hash235_eq : stillBlocks 41 hash194 = hash235 := by decide +kernel
theorem hash276_eq : stillBlocks 41 hash235 = hash276 := by decide +kernel
theorem hash317_eq : stillBlocks 41 hash276 = hash317 := by decide +kernel

theorem head_hash : shaBlocks 6 (aHead ++ cleared 124) shaStart = hash6 := by
  simp only [shaBlocks, List.drop_drop]
  rw [← hash6_eq, ← hash5_eq, ← hash4_eq, ← hash3_eq, ← hash2_eq, ← hash1_eq]
  rfl

/-- The bytes that close the text's last block. -/
def aPadding : List Byte := [0x80] ++ zeros 111 ++ beBytes 16 (8 * 40576)

theorem imageDigest_eq : ((shaBlocks 1 aPadding hash317).take 6).foldl (fun a w => a * 2 ^ 64 + w) 0 = imageDigest := by decide +kernel

/-- The blocks of the text: the zeros of the port map and of the channel table after the first block of each. -/
theorem aText_blocks : aText ++ aPadding =
    (aHead ++ cleared 124) ++ (zeros (128 * 23) ++ (cleared 124 ++ (zeros (128 * 287) ++ aPadding))) := by
  rw [aText, show 3068 = 124 + 128 * 23 from rfl, show 36860 = 124 + 128 * 287 from rfl, cleared_add, cleared_add]
  simp only [List.append_assoc]

theorem stillBlocks_table : stillBlocks 287 hash30 = hash317 := by
  rw [show 287 = 41 + (41 + (41 + (41 + (41 + (41 + 41))))) from rfl, stillBlocks_add, hash71_eq, stillBlocks_add, hash112_eq,
    stillBlocks_add, hash153_eq, stillBlocks_add, hash194_eq, stillBlocks_add, hash235_eq, stillBlocks_add, hash276_eq, hash317_eq]

theorem aText_hash : shaBlocks 318 (aText ++ aPadding) shaStart = shaBlocks 1 aPadding hash317 := by
  have hfirst : (aHead ++ cleared 124).length = 128 * 6 := by rw [List.length_append, aHead_length, cleared_length]
  have hzeros : ∀ n, (zeros (128 * n)).length = 128 * n := fun _ => List.length_replicate
  have hsecond : (cleared 124).length = 128 * 1 := cleared_length 124
  rw [aText_blocks, show 318 = 6 + (23 + (1 + (287 + 1))) from rfl, shaBlocks_append _ _ _ _ _ hfirst, head_hash,
    shaBlocks_append _ _ _ _ _ (hzeros _), ← stillBlocks_eq, hash29_eq, shaBlocks_append _ _ _ _ _ hsecond, hash30_eq,
    shaBlocks_append _ _ _ _ _ (hzeros _), ← stillBlocks_eq, stillBlocks_table]

theorem sha384_aText : sha384 aText = imageDigest := by
  have hpadded : aText ++ [0x80] ++ zeros ((239 - aText.length % 128) % 128) ++ beBytes 16 (8 * aText.length) = aText ++ aPadding := by
    rw [aText_length, aPadding, List.append_assoc, List.append_assoc, List.append_assoc]
  have hblocks : (aText ++ aPadding).length / 128 = 318 := by
    rw [List.length_append, aText_length, show aPadding.length = 128 by decide +kernel]
  rw [sha384, hpadded, hblocks, aText_hash]
  exact imageDigest_eq

/-! ## The image is authentic (R255 to R258) -/

theorem anImage_directory : directory anImage = someSections := by decide +kernel

theorem anImage_header : imgFormat anImage = 1 ∧ imgCount anImage = 6 ∧ imgLength anImage = 40832 ∧ imgTarget anImage = 0x11 ∧
    anImage.take 4 = imageMagic := by decide +kernel

/-- The bytes of a part of the image that others stand before and after. -/
theorem drop_take_middle {xs ys zs : List Byte} {m n : Nat} (hx : xs.length = m) (hy : ys.length = n) :
    ((xs ++ (ys ++ zs)).drop m).take n = ys := by
  rw [← hx, List.drop_left, ← hy, List.take_left]

theorem portMap_body : (Section.mk 1 640 3072 0xFFFFFFFF).body anImage = cleared 3068 := by
  rw [Section.body, anImage, aText, List.append_assoc, List.append_assoc]
  exact drop_take_middle aHead_length (cleared_length _)

theorem channelTable_body : (Section.mk 2 3712 36864 0xFFFFFFFF).body anImage = cleared 36860 := by
  rw [Section.body, anImage, aText, List.append_assoc]
  exact drop_take_middle (by rw [List.length_append, aHead_length, cleared_length]) (cleared_length _)

theorem signature_body : (Section.mk 0xFF 40576 256 0).body anImage = aSignature := by
  have hmiddle := drop_take_middle (zs := []) aText_length aSignature_length
  rw [List.append_nil] at hmiddle
  rw [Section.body, anImage]
  exact hmiddle

theorem firmware_body : (Section.mk 0x10 224 193 0x86D94DA6).body anImage = aFirmware ∧
    (Section.mk 0x11 417 193 0x86D94DA6).body anImage = aFirmware := by decide +kernel


theorem crc32_firmware : crc32 aFirmware = 0x86D94DA6 := by
  rw [crc32_eq]
  decide +kernel

theorem crc32_signature : crc32 aSignature = 0 := by
  rw [crc32_eq]
  decide +kernel

/-- Each section's CRC-32 is that of the directory. -/
theorem anImage_crcs : someSections.all (fun x => crc32 (x.body anImage) == x.crc) = true := by
  simp [someSections, portMap_body, channelTable_body, signature_body, firmware_body, crc32_firmware, crc32_signature, crc32_cleared,
    show crc32 ((Section.mk 3 610 0 0).body anImage) = 0 by decide +kernel]

theorem anImage_sections : sectionsOk anImage = true := by
  rw [sectionsOk, anImage_directory, anImage_length, anImage_header.2.1, anImage_crcs]
  decide +kernel

theorem ecdsaOk_empty : ecdsaOk aKey emptyDigest p384X (signedWith emptyDigest) = true := by decide +kernel
theorem ecdsaOk_image : ecdsaOk aKey imageDigest p384X (signedWith imageDigest) = true := by decide +kernel

theorem anImage_signature : anImage.drop 40576 = aSignature ∧ anImage.take 40576 = aText := by
  rw [anImage, ← aText_length]
  exact ⟨List.drop_left, List.take_left⟩

theorem aSignature_parts : aSignature.take 97 = aKey ∧ beNat ((aSignature.drop 100).take 48) = p384X ∧
    beNat ((aSignature.drop 148).take 48) = signedWith imageDigest := by decide +kernel

theorem aFirmware_parts : aFirmware.length = 193 ∧ aFirmware.take 97 = aKey ∧ beNat ((aFirmware.drop 97).take 48) = p384X ∧
    beNat ((aFirmware.drop 145).take 48) = signedWith emptyDigest := by decide +kernel

/-- The device whose fuses name the key for the image and for its firmware, with the image in slot A: it wakes
from DEEP, its Lane Tiles in reset, THERMTRIP_N having fallen meanwhile. -/
def aSleeper : State :=
  { flash := cellsOf 0 anImage
    fuses := { firmware := sha384 aKey, keys := ⟨[(0, sha384 aKey)]⟩ }
    power := { wake := some ⟨3, 0, true⟩, sealed := true, tripDue := true }
    regs := (((({} : State).on CLK_STATUS.ROOT_LOCK).wr (SLC_STATUS.STATE 0) 1).each (List.range 8) (fun u i =>
      u.wr (GLB_TILE_STATUS.LT i) 3)).regs }

theorem State.imageKeys_single {s : State} {v : Nat} (hk : s.fuses.keys = ⟨[(0, v)]⟩) (hr : s.fuses.revoked = []) :
    s.imageKeys = [v] := by
  rw [State.imageKeys, hk, hr]
  rfl

theorem aSleeper_keys : aSleeper.imageKeys = [sha384 aKey] := State.imageKeys_single rfl rfl

theorem aSleeper_outerSigned : aSleeper.outerSigned anImage = true := by
  obtain ⟨hsig, htext⟩ := anImage_signature
  obtain ⟨hkey, hr, hs⟩ := aSignature_parts
  rw [State.outerSigned, anImage_length, aSleeper_keys, signedBy, hsig, htext, hkey, hr, hs, sha384_aText, ecdsaOk_image]
  simp

theorem aSleeper_innerSigned : aSleeper.innerSigned aFirmware = true := by
  obtain ⟨hlen, hkey, hr, hs⟩ := aFirmware_parts
  rw [State.innerSigned, hlen, signedBy, Nat.sub_self, List.take_zero, List.drop_zero, hkey, hr, hs, sha384_nil, ecdsaOk_empty]
  simp [aSleeper]

theorem anImage_firmware : sectionOf anImage 0x10 = aFirmware ∧ sectionOf anImage 0x11 = aFirmware := by
  obtain ⟨h10, h11⟩ := firmware_body
  rw [sectionOf, sectionOf, anImage_directory]
  exact ⟨h10, h11⟩

theorem aSleeper_authentic : aSleeper.authentic anImage = true := by
  obtain ⟨hformat, -, hlength, htarget, -⟩ := anImage_header
  obtain ⟨h10, h11⟩ := anImage_firmware
  rw [State.authentic, hformat, hlength, htarget, anImage_length, anImage_sections, aSleeper_outerSigned, h10, h11, aSleeper_innerSigned]
  rfl

theorem aSleeper_image : aSleeper.slotAuthentic aSleeper.bootedB = some anImage := by
  obtain ⟨-, -, hlength, -, hmagic⟩ := anImage_header
  have hslot : aSleeper.bootedB = false := by decide +kernel
  have hread : ∀ n, n ≤ 40832 → aSleeper.flash.read (slotBase false) n = anImage.take n := fun n h =>
    Memory.read_cellsOf anImage 0 n (anImage_length ▸ h)
  have htop : imgLength (anImage.take 12) = 40832 ∧ (anImage.take 12).take 4 = imageMagic := by decide +kernel
  have himage : aSleeper.slotImage false = some anImage := by
    rw [State.slotImage, hread 12 (by omega), htop.1, if_pos ⟨htop.2, by decide⟩, hread _ (by omega), ← anImage_length, List.take_length]
  rw [State.slotAuthentic, hslot, himage, Option.filter_some, if_pos aSleeper_authentic]

/-! ## The wake -/

/-- The reload restores what was sealed, and the fall of THERMTRIP_N reaches it. -/
theorem aSleeper_wakes : ∃ t, exec (.deepWakeReloadDone true (List.replicate 8 true) 0 0) aSleeper = .next t ∧ t.evq.length = 1 := by
  have hwake : aSleeper.power.wake = some ⟨3, 0, true⟩ := rfl
  have hlock : aSleeper.bit CLK_STATUS.ROOT_LOCK = true := by decide +kernel
  simp only [exec_deepWakeReloadDone_runs, execDeepWakeReloadDone, hwake, hlock, aSleeper_image, if_true]
  rw [if_neg (by simp)]
  exact ⟨_, rfl, by decide +kernel⟩

/-- Refutes O56: THERMTRIP_N having fallen in DEEP, its event is raised once the wake has restored the Loft (R416, R426). -/
theorem not_wakesEndInRun : ¬ Obligations.WakesEndInRun := by
  rintro ⟨-, hdeep⟩
  obtain ⟨t, hexec, -, hgood, -⟩ := hdeep aSleeper ⟨3, 0, true⟩ true 0 0 rfl rfl rfl (by decide +kernel) rfl
  obtain ⟨u, hexec', hevents⟩ := aSleeper_wakes
  obtain ⟨-, -, -, -, hnone⟩ := hgood (by rw [if_pos rfl, aSleeper_image]; rfl)
  cases hexec.symm.trans hexec'
  rw [hevents] at hnone
  exact absurd hnone (by decide)

end Sys2Proof.Machine
end
